-- ==== Sys2Proof/Word.lean ====
section
/-! DEFINITION. The word types of the engine, and the sparse table in one canonical form that every memory,
register file and indexed group of units of the state is held in. -/

namespace Sys2Proof

/-- A register or memory word (R9: registers are 32 bits wide). -/
abbrev Word := BitVec 32

/-- A byte of capture memory, of the calibration store or of host memory. -/
abbrev Byte := BitVec 8

/-- A sparse table: keys strictly rising, no entry equal to what an unlisted key reads as. -/
abbrev Tab (α : Type) := List (Nat × α)

namespace Tab

variable {α : Type}

/-- The entry of key `i`, or `d` where the table lists none. -/
def get (d : α) : Tab α → Nat → α
  | [], _ => d
  | (k, v) :: t, i => if i = k then v else get d t i

/-- The table without its entries at key `i`. -/
def del : Tab α → Nat → Tab α
  | [], _ => []
  | (k, x) :: t, i => if k = i then del t i else (k, x) :: del t i

/-- The table with `v` listed at key `i`, in the place the rising keys give it. -/
def ins : Tab α → Nat → α → Tab α
  | [], i, v => [(i, v)]
  | (k, x) :: t, i, v =>
    if i < k then (i, v) :: (k, x) :: t
    else if i = k then (i, v) :: t
    else (k, x) :: ins t i v

/-- The table with `v` at key `i`; writing what an unlisted key reads as removes the entry. -/
def put [DecidableEq α] (d : α) : Tab α → Nat → α → Tab α
  | [], i, v => if v = d then [] else [(i, v)]
  | e :: t, i, v => if v = d then del (e :: t) i else ins (e :: t) i v

/-- Every key of the table is above `lo`, and the keys rise strictly. -/
def risingFrom (lo : Nat) : Tab α → Bool
  | [] => true
  | (k, _) :: t => decide (lo < k) && risingFrom k t

/-- The keys rise strictly. -/
def rising : Tab α → Bool
  | [] => true
  | (k, _) :: t => risingFrom k t

/-- The canonical form: rising keys, and no entry equal to `d`. -/
def wf [DecidableEq α] (d : α) (t : Tab α) : Bool :=
  rising t && t.all (fun e => !decide (e.2 = d))

/-- The values at `n` keys from `i` on. -/
def getMany (d : α) (t : Tab α) (i : Nat) : Nat → List α
  | 0 => []
  | n + 1 => get d t i :: getMany d t (i + 1) n

/-- The table with the values of a list at the keys from `i` on. -/
def putMany [DecidableEq α] (d : α) (t : Tab α) : Nat → List α → Tab α
  | _, [] => t
  | i, v :: vs => putMany d (put d t i v) (i + 1) vs

end Tab

end Sys2Proof
end

