-- ==== Sys2Proof/Syntax.lean ====
section
/-! DEFINITION. The commands the engine takes: one constructor for each row of the table of operations and events,
with the operands that the row's rule speaks of. The docstrings are the rows' own words. -/

namespace Sys2Proof

/-- The two Control Ports (R44). -/
inductive Port where
  | a | b
deriving DecidableEq, Repr

/-- Who reads a semaphore in one hub cycle (R54): one port, or both. -/
inductive SemReader where
  | one (p : Port)
  | both
deriving DecidableEq, Repr

/-- An error that a port logs under AER (R44): its bit in the status register of its kind, and for an uncorrectable one the
header of the request that met it. -/
inductive AerErr where
  | correctable (p : Port) (bit : Fin 32)
  | uncorrectable (p : Port) (bit : Fin 32) (header : BitVec 128)
deriving DecidableEq, Repr

/-- The port that logs an error. -/
def AerErr.port : AerErr → Port
  | .correctable p _ => p
  | .uncorrectable p _ _ => p

/-- A memory request on BAR2 or BAR4 (R40, R41): a read of a number of bytes, or a write whose bytes are each
enabled (`some`) or not (`none`). -/
inductive MemReq where
  | read (off len : Nat)
  | write (off : Nat) (bytes : List (Option Byte))
deriving DecidableEq, Repr

/-- A point of engine time: ticks and phase bins (R16). -/
structure Stamp where
  tick : Nat
  phase : Nat
deriving DecidableEq, Repr

/-- The parcel kinds that are issued (R127). -/
inductive Kind where
  | block | iq | spectrum | record | gap | void
deriving DecidableEq, Repr

/-- A parcel (R127). `seq` is the extended index of R129; the header carries its bits 47:0. -/
structure Parcel where
  path : Nat
  replay : Bool
  kind : Kind
  /-- The flags of R131, bits 7:0. -/
  flags : Nat
  seq : Nat
  tick : Nat
  phase : Nat
  segment : Nat
  segments : Nat
  /-- Marker code and marker position, when the parcel carries MARKER (R132). -/
  marker : Option (Nat × Nat)
  stream : Nat
  payload : List Byte
  crc : Word
deriving DecidableEq, Repr

/-- A frame (R139): the product it stands for, by its stream and the extended indices of the first and the last input
sample it depends on; and under SERVICE the parcels of that product, which the service image makes (R26). -/
structure Frame where
  stream : Nat
  first : Nat
  last : Nat
  done : List Parcel
deriving DecidableEq, Repr

/-- One operation of a MAC lane in a firing (R121, R126): its operands, what the lane gives for its accumulator, and what
it gives when the firing is repeated. -/
structure LaneOp where
  lane : Fin 16
  a : BitVec 18
  b : BitVec 18
  got : BitVec 48
  again : BitVec 48
deriving DecidableEq, Repr

/-- A token that a firing sends out (R122, R135): a word, the word that a lane's accumulator gives, a parcel made anew, a
consumed token passed on unchanged, or a consumed parcel with a flag set. A consumed token is named by its side, N, E, S,
W, and its place among those consumed there. -/
inductive OutToken where
  | word (v : Word)
  | lane (l : Fin 16)
  | parcel (x : Parcel)
  | pass (side : Fin 4) (i : Nat)
  | mark (side : Fin 4) (i : Nat) (flag : Fin 8)
deriving DecidableEq, Repr

/-- What a tile's program does in one firing (R121, R122): the accumulators it clears, its lane operations in order, the
words of local memory it writes, and the tokens it sends out on N, E, S, W. -/
structure TileWork where
  clear : BitVec 16
  ops : List LaneOp
  stores : List (BitVec 14 × Word)
  outs : List (List OutToken)
deriving DecidableEq, Repr

/-- What a memory gave when it was read: sound, a corrected error, or an uncorrectable one (R138, R359, R553). For a word
of capture memory, a corrected error is in one of the two subchannels of its channel, at a bit position. -/
inductive Ecc where
  | sound
  | corrected (half : Fin 2) (bitPos : Fin 39)
  | uncorrectable
deriving DecidableEq, Repr

/-- What a firing meets in the parcels it receives and in its tile's local memory (R137, R553, R555). -/
inductive FireEnd where
  | sound
  /-- The parcel at a place among the tokens consumed on a side came over its link with a failing crc. -/
  | badCrc (side : Fin 4) (i : Nat)
  /-- A row of the tile's local memory gave a corrected error (R555). -/
  | memCorrected (row : Nat)
  /-- A row of the tile's local memory gave an uncorrectable error (R553). -/
  | memFailed (row : Nat)
deriving DecidableEq, Repr

/-- How an acquisition of the sample PLL went (R211): whether the starting band passes the check of step 3, the band that the
binary search finds, and the largest phase error of the last 1,024 comparison cycles, in ps. -/
structure LockRun where
  startOk : Bool
  found : Fin 64
  error : Nat
deriving DecidableEq, Repr

/-- What the fast level trigger compares up to a sample (R195): the sample's extended index, and the raw values of the
samples that end with it, the oldest first. -/
structure FltRun where
  index : Nat
  samples : List Int
deriving DecidableEq, Repr

/-- What the estimator found of the carousel slice at the end of a stop (R185, R189). -/
inductive SliceVerdict where
  | good | worn | failed
deriving DecidableEq, Repr

/-- What a scrub read found (R552): nothing, an error in an SRAM row of a tile, or an error in a capture-memory word. -/
inductive ScrubFind where
  | clean
  | tileCorrected (t : Fin 1088) (row : Nat)
  | tileUncorrectable (t : Fin 1088) (row : Nat)
  | memCorrected (sub : Fin 16) (bitPos : Fin 39) (addr : Nat)
  | memUncorrectable (sub : Fin 16) (addr : Nat)
  /-- A word of a kernel processor's memories, by its logical number (R406). -/
  | kpCorrected (n : Fin 64) (word : Fin 24576)
  | kpUncorrectable (n : Fin 64) (word : Fin 24576)
  /-- A cell of a density table, an entry of the mask table, or a word of the frame store: classes 0x2 to 0x4 of R555. -/
  | sramCorrected (cls : Fin 3) (unit : Fin 8) (addr : Nat)
  | sramUncorrectable (cls : Fin 3) (unit : Fin 8) (addr : Nat)
deriving DecidableEq, Repr

/-- An evaluation point of a condition (R326 to R329): the IQ sample of its stream at a converter index; or what the mask,
the band monitor or the kurtosis unit that it names has reported. -/
inductive EvalPoint where
  | iq (index : Nat)
  | report
deriving DecidableEq, Repr

/-- What the memories of a kernel processor gave an instruction (R406): the words that it reads in error, as the processor's
window numbers them (0 to 8191 IMEM, then X, then Y); words not listed were sound. -/
structure KpGot where
  corrected : List Nat
  failed : List Nat
deriving DecidableEq, Repr

/-- Every word was sound. -/
def KpGot.sound : KpGot := { corrected := [], failed := [] }

/-- What a canary sweep times of one tile or processor (R486): how long each of its edges took to return, in phase bins,
fewer than 64 where one did not; and the Tj of its nearest temperature sensor, in 0.01 °C. -/
structure CanaryTime where
  delays : List Nat
  tj : Int
deriving DecidableEq, Repr

/-- How a beat that a DMA channel reads completes (R417, R428): the data that a host read returns for the bytes asked for; a
corrected error of a capture-memory word it reads, as in `Ecc`; 0 or the cause code of R425 with which the read is answered,
and those of the beats that are then written out of the funnel, in order, 0 for one that is not listed. -/
structure DmaBeat where
  data : List Byte
  fixed : Option (Fin 2 × Fin 39)
  readCause : Fin 5
  writeCauses : List (Fin 5)
deriving DecidableEq, Repr

/-- A region flow of a stream port and what capture memory gives the reads that serve it (R359): the addresses whose words are
in error, the place of a corrected one as in `Ecc`, none for one that is uncorrectable. -/
structure FlowRead where
  flow : Fin 32
  errors : List (Nat × Option (Fin 2 × Fin 39))
deriving DecidableEq, Repr

/-- Which part of a working register a kernel instruction takes: the word or a half (R385). -/
inductive KpPart where
  | word | lo | hi
deriving DecidableEq, Repr

/-- The two-source and one-source operations of classes 0x00 to 0x03 (R395). -/
inductive KpAluOp where
  | add | addc | sub | subc | and_ | or_ | xor_ | not_ | cmp | shl | shr | sar
deriving DecidableEq, Repr

/-- An ALU instruction on words or halves (R395): destination and sources with the half they take, and the 6-bit shift. -/
structure KpAlu where
  op : KpAluOp
  half : Bool
  dst : Fin 16
  a : Fin 16
  b : Fin 16
  dstHi : Bool
  aHi : Bool
  bHi : Bool
  shift : Fin 64
deriving DecidableEq, Repr

/-- The move forms that need no offset (R386). -/
inductive KpStep where
  | stride | none | neg
deriving DecidableEq, Repr

/-- The move form of an LD or ST (R395). -/
inductive KpMode where
  | step (f : KpStep)
  | offset (o : Int)
deriving DecidableEq, Repr

/-- A parallel move of a multiply instruction (R395): none, or a load or store of a working register through a cursor
of its memory. -/
inductive KpMove where
  | none
  | load (c : Fin 4) (f : KpStep) (w : Fin 16)
  | store (c : Fin 4) (f : KpStep) (w : Fin 16)
deriving DecidableEq, Repr

/-- A multiply instruction (R389, R395): sources, which products are subtracted, the u bit, and the parallel moves. -/
structure KpMul where
  x : Fin 16
  y : Fin 16
  neg0 : Bool
  neg1 : Bool
  neg2 : Bool
  neg3 : Bool
  u : Bool
  moveX : KpMove
  moveY : KpMove
deriving DecidableEq, Repr

/-- The registers that MOV reaches (R385, R395). -/
inductive KpReg where
  | w (i : Fin 16) (part : KpPart)
  | sw (a : Fin 4)
  | sg (a : Fin 4)
  | c (i : Fin 8)
  | cfg (i : Fin 8)
  | win (i : Fin 8)
  | sr | rc | imask | ipend | ipri | tmr | inwp | inrp
  | mbi (i : Fin 4)
  | mbo (i : Fin 4)
deriving DecidableEq, Repr

/-- The register that an LD fills or an ST stores: a working register or part of a sum register (R395). -/
inductive KpData where
  | w (i : Fin 16)
  | sw (a : Fin 4)
  | sg (a : Fin 4)
deriving DecidableEq, Repr

/-- The source of EXP and NORM: a half, a word or a sum register (R394). -/
inductive KpSrc where
  | w (i : Fin 16) (part : KpPart)
  | s (a : Fin 4)
deriving DecidableEq, Repr

/-- The conditions of branches (R395): none, an ALU flag by its bit in SR at a value, or a comparison by the flags that
a CMP left. -/
inductive KpCond where
  | always
  | flag (i : Fin 4) (v : Bool)
  | lt | ge | le | gt
  | below | aboveEq | belowEq | above
deriving DecidableEq, Repr

/-- Where a count comes from: an immediate or a working register (R392). -/
inductive KpCount where
  | imm (n : Nat)
  | reg (w : Fin 16)
deriving DecidableEq, Repr

/-- An immediate form (R395): the extension word moves into a register, or is the second source of an ALU operation. -/
inductive KpImm where
  | mov (dst : KpReg)
  | alu (x : KpAlu)
deriving DecidableEq, Repr

/-- What training finds of a capture-memory channel (R357, R358): no devices, no training, or its configuration: the codes of
rate and width, density in Gb, ranks. -/
inductive MemTrain where
  | absent
  | failed
  | trained (rate : Fin 16) (density : Fin 256) (width : Fin 16) (ranks : Fin 16)
deriving DecidableEq, Repr

/-- A command: an access, an event on a pin or a link, or a step of the engine's own that comes about (R-numbers are
the rules of spec/). Those with operands come first, in the table's order, then those without. -/
inductive Instr where
  /-- REG_WRITE (R7): A Control Port or DMA write to a register that has no row of its own is checked against its guard, access code, range and power domain, then applied or dropped. -/
  | regWrite (p : Port) (off : Nat) (v : Word)
  /-- BAR0_BAD_ACCESS (R9): A BAR0 access that is not 32 bits wide or not naturally aligned is completed with a completer abort and changes nothing. -/
  | bar0BadAccess (p : Port) (off len : Nat)
  /-- REG64_LOW_READ (R10): A read of the low word of a 64-bit register latches the high word into the reading port's snapshot. -/
  | reg64LowRead (p : Port) (off : Nat)
  /-- REG64_HIGH_READ (R10): A read of the high word of a 64-bit register returns the reading port's snapshot. -/
  | reg64HighRead (p : Port) (off : Nat)
  /-- REG64_HIGH_WRITE (R11): A write to the high word of a 64-bit register becomes the writing port's pending high word and changes nothing in the register. -/
  | reg64HighWrite (p : Port) (off : Nat) (v : Word)
  /-- REG64_LOW_WRITE (R11): A write to the low word of a 64-bit register applies both halves together, using the pending high word if there is one, and uses it up. -/
  | reg64LowWrite (p : Port) (off : Nat) (v : Word)
  /-- MSIX_64BIT_ACCESS (R48): A naturally aligned 64-bit access to the MSI-X table or pending-bit array is accepted. -/
  | msix64Access (p : Port) (off : Nat) (w : Option (Word × Word))
  /-- BAR2_REQUEST (R40): A BAR2 read or write request is accepted or aborted as a whole, and each word it covers is then applied or refused under the rules of its memory. -/
  | bar2Request (p : Port) (r : MemReq)
  /-- BAR4_ACCESS (R377): A BAR4 read or write reaches capture memory through the port's window; out-of-range and blocked accesses are dropped and counted. -/
  | bar4Access (p : Port) (r : MemReq) (ecc : Ecc) (at_ : Nat)
  /-- PORT_LINK_DOWN (R52): When a Control Port link leaves DL_Active, that port's configuration space and port-relative state reset, event 16 or 17 is raised, and the release of its semaphores is scheduled. -/
  | portLinkDown (p : Port)
  /-- PORT_LINK_UP (R67): When a Control Port link enters DL_Active, event 16 or 17 is raised and the port's event state leaves reset. -/
  | portLinkUp (p : Port) (width rate : Fin 16)
  /-- PERST_ASSERT (R52): Assertion of PERST_A_N or PERST_B_N resets that port and takes its link down. -/
  | perstAssert (p : Port)
  /-- FUNCTION_LEVEL_RESET (R52): A Function Level Reset resets one port's configuration and port-relative state within 1 ms, keeps the link up, and schedules the release of its semaphores. -/
  | functionLevelReset (p : Port)
  /-- SEM_ACQUIRE (R54): A read of SEM_n acquires the semaphore if it is free, breaks same-cycle ties by the tie record, and returns 1 or the owner code. -/
  | semAcquire (n : Fin 256) (who : SemReader)
  /-- SEM_RELEASE (R56): A write of 0 to SEM_n by its holder releases it; any other write is dropped and counted as refused. -/
  | semRelease (p : Port) (n : Fin 256) (v : Word)
  /-- SEM_PEEK (R65): A read of SEM_PEEK[n] returns the owner code of SEM_n without acquiring it. -/
  | semPeek (p : Port) (n : Fin 256)
  /-- SEM_HOLDER_RELEASE (R62): 1 ms after a port condition, every semaphore the port then holds is released and recorded in SEM_LOST, MP_CTL.fast_en is cleared if SEM_3 was among them, and event 10 is raised. -/
  | semHolderRelease (p : Port)
  /-- SEM_BREAK (R64): A correctly keyed write to SEM_BREAK frees the named semaphore, records the break in SEM_LOST_INFO and raises event 11. -/
  | semBreak (p : Port) (v : Word)
  /-- VECTOR_SIGNAL (R70): A marked vector sends one MSI-X message once it is unmasked, MSI-X is enabled and gap_us has passed since its last message. -/
  | vectorSignal (p : Port) (v : Fin 2048) (msixEn fnMask : Bool)
  /-- EVT_PEND_CLEAR (R71): A W1C write to EVT_PEND clears pending bits and so re-enables signalling for those events. -/
  | evtPendClear (p : Port) (w : Fin 64) (v : Word)
  /-- MP_READ_CYCLE (R75): A Mirror Port read cycle returns the addressed word within the cycle, and a read of a generation word latches its group into the snapshot. -/
  | mpReadCycle (a : Option (BitVec 16))
  /-- MP_WRITE_REFUSED (R82): A Mirror Port write outside the enabled fast-control words is dropped, counted in MP_STATUS.refused and raises event 12. -/
  | mpWriteRefused (a : BitVec 16) (v : Word)
  /-- FC_FORCE (R83): A Mirror Port write to FC_FORCE_LO or FC_FORCE_HI forces the selected trigger conditions at the engine time of the write's edge. -/
  | fcForce (hi : Bool) (v : Word)
  /-- FC_ARM (R82): A Mirror Port write to FC_ARM_LO or FC_ARM_HI arms the selected conditions. -/
  | fcArm (hi : Bool) (v : Word)
  /-- FC_DISARM (R84): A Mirror Port write to FC_DISARM_LO or FC_DISARM_HI disarms the selected conditions, and wins over an arm at the same edge. -/
  | fcDisarm (hi : Bool) (v : Word)
  /-- FC_FCD_CLEAR (R85): A Mirror Port write to FC_FCD_CLEAR starts or ends the fast-control clear cause on each FCD output. -/
  | fcFcdClear (v : Word)
  /-- FC_MARKER (R83): A Mirror Port write to FC_MARKER attaches a marker code to the first sample at or after its stamp on each path in the mask. -/
  | fcMarker (v : Word)
  /-- MP_CTL_WRITE (R86): A write to MP_CTL under SEM_3 sets the fast-control class enables and fast_en. -/
  | mpCtlWrite (p : Port) (v : Word)
  /-- IMG_LOAD_GO (R96): A write of IMG_CTL.go latches the source, length and options, and fetches and checks the image header and directory. -/
  | imgLoadGo (p : Port) (v : Word) (head : Option (List Byte))
  /-- IMG_LOAD_WAIT_START (R104): A load or unload waiting in state WAITING starts when the repair or power transition it waited for completes. -/
  | imgLoadWaitStart (head : Option (List Byte))
  /-- IMG_PASS1_DONE (R96): Completion of pass 1 of a load: the digest and every CRC are checked, then the key hash, revocation, security version and signature. -/
  | imgPass1Done (image : Option (List Byte))
  /-- IMG_PASS2_DONE (R97): Completion of pass 2 of a load: shadow planes are written and the digest is compared with that of pass 1. -/
  | imgPass2Done (image : Option (List Byte))
  /-- IMG_ADMISSION (R119): Admission runs the replay-source, canary-freshness, capacity and memory-bandwidth checks for each path in the mask and fills IMG_ADMIT_*. -/
  | imgAdmission (sweepFailed : Bool)
  /-- IMG_ABORT (R105): A write of IMG_CTL.abort discards a load before switch-over with code ABORTED, and is ignored once switch-over has started. -/
  | imgAbort (p : Port) (v : Word)
  /-- IMG_UNLOAD (R108): A write of IMG_UNLOAD.go checks the mask and then unloads the named paths through a switch-over. -/
  | imgUnload (p : Port) (v : Word)
  /-- KEY_ENROL (R112): An IMG_KEY_CTL write with op 0x1 enrols a key slot from IMG_KEY_HASH as a one-way fuse operation. -/
  | keyEnrol (p : Port) (v : Word)
  /-- KEY_REVOKE (R112): An IMG_KEY_CTL write with op 0x2 revokes a key slot as a one-way fuse operation. -/
  | keyRevoke (p : Port) (v : Word)
  /-- KEY_SET_SVN (R112): An IMG_KEY_CTL write with op 0x3 raises svn_min as a one-way fuse operation. -/
  | keySetSvn (p : Port) (v : Word)
  /-- REPLAY_PARCEL_READ (R101): A REPLAY path reads the next stored parcel or unit of its region, checks it, skips forward if overwritten, or waits when it has caught up with the formatter. -/
  | replayParcelRead (path : Fin 4) (ecc : Ecc)
  /-- FABRIC_ENTRY_PARCEL (R136): A parcel from the converter die is checked at fabric entry, its crc is recomputed, and it is requested again, or dropped with a CHECK gap after two failed resends. -/
  | fabricEntryParcel (n : Fin 4) (samples : List Int) (at_ : Stamp) (rx : Option (List Byte)) (lane : Fin 52)
  /-- EB_BLOCK_ARRIVE (R145): An arriving block takes the next elastic-buffer slot, or is dropped under the overflow and resume rules. -/
  | ebBlockArrive (path : Fin 4)
  /-- PATH_TAKE_BLOCK (R139): A path takes a block from the elastic-buffer head and issues frames while its reorder window has free slots. -/
  | pathTakeBlock (path : Fin 4) (frames : List Frame) (ecc : Ecc)
  /-- TILE_FIRE (R122): A tile fires when its inputs hold their tokens and its outputs have room, checking residues and crcs. -/
  | tileFire (t : Fin 1088) (how : FireEnd) (work : TileWork) (product : Option Frame)
  /-- REORDER_RELEASE (R140): The reorder window releases the parcel at its head in order, with a GAP parcel in place of a void token. -/
  | reorderRelease (path : Fin 4) (ecc : Ecc)
  /-- DROOP_TRIP (R148): The droop sensor trips and PCLK steps down by as many steps as the sag calls for, stopping non-real-time work and requesting more VCORE. -/
  | droopTrip (sagMv : Nat)
  /-- CANARY_SWEEP_START (R487): A canary sweep starts, either periodically every sweep_ms or on request from admission or after a VCORE step. -/
  | canarySweepStart (periodic : Bool)
  /-- CANARY_SWEEP_DONE (R486): A completed sweep writes the tile rates and TIU_CAN_LAST, raises event 879, and feeds admission, the capacity check, AVS control and wear marking. -/
  | canarySweepDone (tiles kps : List CanaryTime)
  /-- CAROUSEL_HANDOVER (R179): At the end of a stop's dwell, the carousel slice takes the position at the next block boundary, and the former occupant starts the next stop. -/
  | carouselHandover (n : Fin 4) (residual : Nat) (lowInput stuck : Bool) (offset gain timing : BitVec 10)
  /-- RECONVERGE (R182): Fast reconvergence starts, on a write of CNV_CAR_CTL.reconverge or one of its other causes, and sets CAL_SETTLING on the converter's blocks. -/
  | reconverge (n : Fin 4) (w : Option (Port × Word))
  /-- RECONVERGE_DONE (R182): Fast reconvergence ends after two short rotations, and CAL_SETTLING ends. -/
  | reconvergeDone (n : Fin 4)
  /-- INPUT_SEL_CHANGE (R173): A change of CNV_CTL.input_sel applies at the next block boundary, marks 2 µs of blocks UNSETTLED and is a step of the down-converter. -/
  | inputSelChange (n : Fin 4)
  /-- ZONE_CHANGE (R198): A change of CNV_CTL.zone applies at the next block boundary as a step of the main down-converter. -/
  | zoneChange (n : Fin 4)
  /-- OVR_EPISODE_START (R191): A clipped sample outside a recovery span starts an overrange episode: sticky, counts, first index and event 72 + n. -/
  | ovrEpisodeStart (n : Fin 4) (index : Nat)
  /-- PROT_HOLD_EXPIRE (R193): Protection ends when no sample has clipped for hold_us, and the FCD outputs return to their written codes. -/
  | protHoldExpire (n : Fin 4)
  /-- PROT_RELEASE (R193): A write of CNV_PROT.release ends protection that is held with hold_us at 0. -/
  | protRelease (p : Port) (n : Fin 4) (v : Word)
  /-- FLT_FIRE (R195): The fast level trigger fires after a qualifying run, drives TRIGOUT pins unless CLK_INVALID holds, and reaches the trigger engine. -/
  | fltFire (n : Fin 4) (run : FltRun) (at_ : Stamp)
  /-- REF_RETURN (R206): REFIN present within limits for 1 ms counts as returned, and the multiplier slews back to it. -/
  | refReturn (mhz100 : Bool)
  /-- REF_FREQ_WRITE (R206): A write to REF_CTL.freq restarts the multiplier as a reference loss that returns at once. -/
  | refFreqWrite (p : Port) (v : Word)
  /-- PPS_EDGE (R207): A PPS_IN rising edge is qualified against its window, counted or counted as off, and may apply a time set or step. -/
  | ppsEdge (tick : Nat) (bin : Fin 64)
  /-- SPLL_DIV_WRITE (R209): An accepted write to SPLL_DIV is checked against range and capacity and restarts acquisition. -/
  | spllDivWrite (p : Port) (v : Word)
  /-- SPLL_LF_WRITE (R209): A write to SPLL_LF sets the loop bandwidth and restarts acquisition. -/
  | spllLfWrite (p : Port) (v : Word)
  /-- SPLL_HOP (R213): A write of SPLL_CTL.hop copies the hop-table entry into SPLL_DIV and restarts acquisition from the entry's band. -/
  | spllHop (p : Port) (v : Word)
  /-- SPLL_LOCK (R211): The sample PLL declares lock, stores its band, raises event 65, ends CLK_INVALID at the next block boundary and starts fast reconvergence. -/
  | spllLock (run : LockRun)
  /-- CLKOUT_CTL_WRITE (R216): A write to CLKOUT_CTL or CLKOUT_DLY enables, disables or retimes a clock output without a runt pulse. -/
  | clkoutCtlWrite (p : Port) (k : Fin 2) (dly : Bool) (v : Word)
  /-- SYNC_IN_EDGE (R217): A SYNC_IN rising edge while armed resets the selected dividers at the second REF160 edge, records SYNC_TICK and clears arm. -/
  | syncInEdge (tick : Nat) (bin : Fin 64) (applied : Nat) (sliceMoved : Bool)
  /-- SYNC_ISSUE (R219): A write of SYNC_CTL.issue with out_mode 0x2 sends one SYNC_OUT pulse. -/
  | syncIssue (p : Port) (v : Word)
  /-- DDC_COMMIT (R248): A write of DDC_COMMIT.commit marks a commit pending for the path's next commit sample. -/
  | ddcCommit (p : Port) (path : Fin 4) (v : Word)
  /-- DDC_COMMIT_APPLY (R248): At the commit sample every shadow of the path applies together, or the commit is refused whole, and event 144 + p is raised. -/
  | ddcCommitApply (path : Fin 4)
  /-- ZM_SWAP (R246): A write of ZM_SWAP.go requests a fade to a coefficient bank: it starts, is held pending, or is dropped. -/
  | zmSwap (p : Port) (path : Fin 4) (w : Fin 8) (v : Word)
  /-- ZM_FADE_START (R246): A requested fade starts at the first output in the first block after the request and records ZM_FADE_START. -/
  | zmFadeStart (path : Fin 4) (w : Fin 8) (index : Nat)
  /-- ZM_FADE_DONE (R247): After L outputs the fade ends, event 128 + p is raised and a pending request is taken. -/
  | zmFadeDone (path : Fin 4) (w : Fin 8)
  /-- ZM_COEF_ACCESS (R245): A ZM_COEF_DATA access reads or writes one coefficient and advances the index; writes to the active bank or during a fade are ignored. -/
  | zmCoefAccess (p : Port) (path : Fin 4) (w : Fin 8) (v : Option Word)
  /-- SPECTRUM_PRODUCE (R263): A transform instance completes a frame and delivers a spectrum parcel. -/
  | spectrumProduce (path : Fin 4) (inst : Fin 8)
  /-- DET_INTERVAL_END (R268): At the end of K spectra the detector bank delivers its traces and band monitors report. -/
  | detIntervalEnd (path : Fin 4) (inst : Fin 8)
  /-- DET_HOLD_RESET (R268): A write of DET_CTL.hold_reset restarts the hold detector at the next interval boundary. -/
  | detHoldReset (p : Port) (path : Fin 4) (inst : Fin 8) (v : Word)
  /-- SK_BLOCK_END (R272): At the end of a block the kurtosis unit computes SK per bin, flags bins and delivers a kurtosis record. -/
  | skBlockEnd (path : Fin 4)
  /-- CHZ_INTEGRAL_END (R279): At the end of an integral the channelizer delivers a descriptor and the integral and raises event 160 + p. -/
  | chzIntegralEnd (path : Fin 4)
  /-- ENV_RECORD_CLOSE (R283): A TRANSIENT path closes an envelope record at 2,040 intervals or 100 µs of span. -/
  | envRecordClose (path : Fin 4)
  /-- KAL_SPECTRUM (R300): A density table counts a spectrum of its bound instance into its cells, or excludes it, and feeds its spectrogram line. -/
  | kalSpectrum (k : Fin 2) (x : Parcel) (bad : List Nat)
  /-- KAL_DECAY_SWEEP (R306): Every period_ms a decay sweep starts, or is skipped while density decay is stopped. -/
  | kalDecaySweep (k : Fin 2)
  /-- KAL_FREEZE (R308): A write of KAL_CTL.freeze stops counting from the next spectrum boundary. -/
  | kalFreeze (p : Port) (k : Fin 2) (v : Word)
  /-- KAL_READY (R308): Once the freeze boundary has passed and running sweeps have completed, ready sets and event 170 + k is raised. -/
  | kalReady (k : Fin 2)
  /-- KAL_CLEAR (R309): A write of KAL_CTL.clear zeroes the table at the next spectrum boundary and ends a running decay sweep. -/
  | kalClear (p : Port) (k : Fin 2) (v : Word)
  /-- KAL_CLEAR_DONE (R309): The clear sweep completes, clearing clears and event 170 + k is raised. -/
  | kalClearDone (k : Fin 2)
  /-- MSK_EVALUATE (R316): A mask evaluates each spectrum of its instance against its active copy and passes the result to the trigger engine. -/
  | mskEvaluate (m : Fin 64) (x : Parcel) (bad : List Nat)
  /-- MSK_SWAP (R319): A write of MSK_SWAP.go requests that a mask copy become active, as a pending request or a drop. -/
  | mskSwap (p : Port) (v : Word)
  /-- TRG_EVALUATE (R326): A condition evaluates its raw state at an evaluation point of its source and forms occurrences. -/
  | trgEvaluate (c : Fin 64) (e : EvalPoint)
  /-- TRG_DECIDE (R336): Once all sources have reported past a stamp, the engine decides occurrences in stamp order, as firings, misses or suppressions, and applies region and pin actions. -/
  | trgDecide (upTo : Stamp)
  /-- TRG_ARM_WRITE (R330): A Control Port write of TRG_COND.armed arms or disarms a condition from the first home-path sample after the write. -/
  | trgArmWrite (p : Port) (c : Fin 64) (v : Word)
  /-- TRG_FORCE (R331): A write to TRG_FORCE_LO or TRG_FORCE_HI forces the selected conditions at the write's hub time. -/
  | trgForce (p : Port) (hi : Bool) (v : Word)
  /-- TRG_RGN_ARM (R340): A write of TRG_RGN_CTL.arm arms a disarmed region that exists. -/
  | trgRgnArm (p : Port) (r : Fin 64) (v : Word)
  /-- TRG_RGN_DISARM (R342): A write of TRG_RGN_CTL.disarm disarms a region, taking effect when busy ends. -/
  | trgRgnDisarm (p : Port) (r : Fin 64) (v : Word)
  /-- TRG_RGN_HOLD_END (R342): A region's hold-off and post-trigger span end, and it rearms or disarms. -/
  | trgRgnHoldEnd (r : Fin 64)
  /-- SEQ_WINDOW_LAPSE (R335): A sequence window lapses when its end passes without a qualifying firing. -/
  | seqWindowLapse (c : Fin 64)
  /-- TRIGIN_EDGE (R345): An edge on an enabled TRIGIN input is stamped, or counted as crowded, and becomes an occurrence or a direct output. -/
  | triginEdge (k : Fin 4) (high : Bool) (tick : Nat) (bin : Fin 64)
  /-- TRIGIN_STUCK (R345): A TRIGIN input active for longer than stuck_us is marked stuck and masked, and event 192 + 4c + 2 is raised. -/
  | triginStuck (k : Fin 4)
  /-- TRIGOUT_ALIGNED (R348): An aligned TRIGOUT pin changes at its stamp plus the delay, or late at the decision with TRG_OUT_LATE counted. -/
  | trigoutAligned (o : Fin 4)
  /-- TRIGOUT_PULSE_END (R346): A TRIGOUT pulse ends when width ticks have passed since the last firing. -/
  | trigoutPulseEnd (o : Fin 4)
  /-- TRG_AVG_RESET (R354): A write of TRG_AVG_CTL.reset empties the averaging buffer and restarts its count. -/
  | trgAvgReset (p : Port) (path : Fin 4) (v : Word)
  /-- CAP_ALLOC_CREATE (R362): CAP_ALLOC op create checks and creates a region and writes the result code. -/
  | capAllocCreate (p : Port) (v : Word)
  /-- CAP_ALLOC_RESIZE (R363): CAP_ALLOC op resize changes a region's size, keeping its base, and restarts CAP_REGION_WRITTEN. -/
  | capAllocResize (p : Port) (v : Word)
  /-- CAP_ALLOC_FREE (R362): CAP_ALLOC op free frees a region that is not leased, armed or busy. -/
  | capAllocFree (p : Port) (v : Word)
  /-- CAP_FORMAT_UNIT (R366): A region's formatter writes the next unit of its stream into the ring, or stops under protect. -/
  | capFormatUnit (r : Fin 64) (x : Parcel)
  /-- CAP_CAPTURE_END (R375): A capture ends and its 128-byte record is written to the record region, with event 448 + r. -/
  | capCaptureEnd (r : Fin 64)
  /-- CAP_ACK_WRITE (R373): A write raising CAP_REGION_ACK lets a full formatter resume at the next unit. -/
  | capAckWrite (p : Port) (r : Fin 64) (v : Word)
  /-- CAP_BAR4_WIN_WRITE (R376): A write to CAP_BAR4_WIN moves that port's BAR4 window for accesses that arrive after it. -/
  | capBar4WinWrite (p : Port) (high : Bool) (v : Word)
  /-- KP_INSTR_ALU (R395): The kernel executes ADD, ADDC, SUB, SUBC, AND, OR, XOR, NOT, a shift or CMP on words or halves. -/
  | kpInstrAlu (n : Fin 64) (got : KpGot) (x : KpAlu)
  /-- KP_INSTR_MAC4 (R389): The kernel executes MAC4, accumulating four 16-bit products into S0 to S3. -/
  | kpInstrMac4 (n : Fin 64) (got : KpGot) (x : KpMul)
  /-- KP_INSTR_MAC2 (R389): The kernel executes MAC2, accumulating two products into one sum register. -/
  | kpInstrMac2 (n : Fin 64) (got : KpGot) (a : Fin 4) (x : KpMul)
  /-- KP_INSTR_MPY4 (R389): The kernel executes MPY4, overwriting S0 to S3 with four products. -/
  | kpInstrMpy4 (n : Fin 64) (got : KpGot) (x : KpMul)
  /-- KP_INSTR_MPY2 (R389): The kernel executes MPY2, overwriting a sum register with two products. -/
  | kpInstrMpy2 (n : Fin 64) (got : KpGot) (a : Fin 4) (x : KpMul)
  /-- KP_INSTR_CLR_S (R395): The kernel executes CLR S, clearing a sum register. -/
  | kpInstrClrS (n : Fin 64) (got : KpGot) (a : Fin 4) (moveX moveY : KpMove)
  /-- KP_INSTR_LD (R386): The kernel executes LD through a cursor, then moves the cursor. -/
  | kpInstrLd (n : Fin 64) (got : KpGot) (d : KpData) (c : Fin 8) (y half : Bool) (m : KpMode)
  /-- KP_INSTR_ST (R386): The kernel executes ST through a cursor, then moves the cursor. -/
  | kpInstrSt (n : Fin 64) (got : KpGot) (d : KpData) (c : Fin 8) (y half : Bool) (m : KpMode)
  /-- KP_INSTR_ST_S (R391): The kernel executes ST.S, storing a sum register with rounding and saturation. -/
  | kpInstrStS (n : Fin 64) (got : KpGot) (a : Fin 4) (c : Fin 8) (y half : Bool) (m : KpMode)
  /-- KP_INSTR_MOV (R395): The kernel executes MOV among working, sum, cursor and control registers. -/
  | kpInstrMov (n : Fin 64) (got : KpGot) (dst src : KpReg)
  /-- KP_INSTR_IMMEDIATE (R395): The kernel executes an immediate form with its extension word. -/
  | kpInstrImmediate (n : Fin 64) (got : KpGot) (x : KpImm)
  /-- KP_INSTR_BRANCH (R395): The kernel executes B or Bcc. -/
  | kpInstrBranch (n : Fin 64) (got : KpGot) (c : KpCond) (target : Fin 8192)
  /-- KP_INSTR_CALL (R395): The kernel executes CALL, pushing PC, SR and RC onto the call stack. -/
  | kpInstrCall (n : Fin 64) (got : KpGot) (c : KpCond) (target : Fin 8192)
  /-- KP_INSTR_RET (R395): The kernel executes RET, popping the call stack. -/
  | kpInstrRet (n : Fin 64) (got : KpGot) (c : KpCond)
  /-- KP_INSTR_LOOP (R395): The kernel executes LOOP, starting a nested hardware loop. -/
  | kpInstrLoop (n : Fin 64) (got : KpGot) (count : KpCount) (stop : Fin 8192)
  /-- KP_INSTR_REP (R392): The kernel executes REP, repeating the next single-cycle instruction count times. -/
  | kpInstrRep (n : Fin 64) (got : KpGot) (count : KpCount)
  /-- KP_INSTR_MAX (R393): The kernel executes MAX, keeping a running maximum and its index. -/
  | kpInstrMax (n : Fin 64) (got : KpGot) (d at_ : Fin 16) (c : Fin 8) (u half : Bool) (f : KpStep)
  /-- KP_INSTR_MIN (R393): The kernel executes MIN, keeping a running minimum and its index. -/
  | kpInstrMin (n : Fin 64) (got : KpGot) (d at_ : Fin 16) (c : Fin 8) (u half : Bool) (f : KpStep)
  /-- KP_INSTR_EXP (R394): The kernel executes EXP, keeping the smaller redundant-sign-bit count. -/
  | kpInstrExp (n : Fin 64) (got : KpGot) (d : Fin 16) (src : KpSrc)
  /-- KP_INSTR_NORM (R394): The kernel executes NORM, shifting a source left by a register count. -/
  | kpInstrNorm (n : Fin 64) (got : KpGot) (d src : KpSrc) (count : Fin 16)
  /-- KP_INSTR_HALT (R405): The kernel executes HALT, stopping with PC at the next instruction and raising event 640 + 3n. -/
  | kpInstrHalt (n : Fin 64) (got : KpGot)
  /-- KP_INSTR_WAIT (R395): The kernel executes WAIT, stopping without power until an enabled interrupt source is pending. -/
  | kpInstrWait (n : Fin 64) (got : KpGot)
  /-- KP_INSTR_PUB (R398): The kernel executes PUB, copying 15 X words into a mirror group and bumping its generation word. -/
  | kpInstrPub (n : Fin 64) (got : KpGot) (g : Fin 16)
  /-- KP_INSTR_MBOX_POST (R400): The kernel executes MBOX.POST, copying its out-mailbox to the host and raising event 642 + 3n, or setting z if the mailbox is full. -/
  | kpInstrMboxPost (n : Fin 64) (got : KpGot)
  /-- KP_INSTR_MBOX_ACK (R399): The kernel executes MBOX.ACK, clearing in_full. -/
  | kpInstrMboxAck (n : Fin 64) (got : KpGot)
  /-- KP_INSTR_TRAP (R401): The kernel executes TRAP, making source 7 pending. -/
  | kpInstrTrap (n : Fin 64) (got : KpGot)
  /-- KP_INSTR_RTI (R402): The kernel executes RTI, popping PC, SR and RC and resuming. -/
  | kpInstrRti (n : Fin 64) (got : KpGot)
  /-- KP_INSTR_EI (R395): The kernel executes EI, enabling interrupts. -/
  | kpInstrEi (n : Fin 64) (got : KpGot)
  /-- KP_INSTR_DI (R395): The kernel executes DI, disabling interrupts. -/
  | kpInstrDi (n : Fin 64) (got : KpGot)
  /-- KP_INSTR_TIME (R395): The kernel executes TIME, loading engine time into working registers. -/
  | kpInstrTime (n : Fin 64) (got : KpGot) (lo hi ph : Fin 16)
  /-- KP_INTERRUPT (R402): An eligible interrupt source is taken at an instruction boundary: state is pushed and the processor vectors to its handler. -/
  | kpInterrupt (n : Fin 64)
  /-- KP_TIMER_EXPIRE (R385): TMR reaches 0 and makes source 4 pending. -/
  | kpTimerExpire (n : Fin 64)
  /-- KP_WATCHDOG (R407): The watchdog count reaches its limit and faults the processor with WATCHDOG. -/
  | kpWatchdog (n : Fin 64)
  /-- KP_INBOX_PARCEL (R396): The inbox writes a matching exit parcel into the Y ring, or drops it if its crc fails or it does not fit. -/
  | kpInboxParcel (n : Fin 64) (x : Parcel)
  /-- KP_MBOX_IN_POST (R399): A host write to KP_MBOX_IN[3] posts the message, sets in_full and makes source 0 pending. -/
  | kpMboxInPost (p : Port) (n : Fin 64) (v : Word)
  /-- KP_MBOX_OUT_CLEAR (R400): A host clear of out_full makes source 1 pending. -/
  | kpMboxOutClear (p : Port) (n : Fin 64) (v : Word)
  /-- KP_WINDOW_ACCESS (R384): A host or DMA access to a processor's memories reads, writes, or drops a write to IMEM of a running processor. -/
  | kpWindowAccess (p : Port) (n : Fin 68) (word : Fin 24576) (w : Option Word)
  /-- KP_RESET (R405): A write of KP_CTL.reset while halted clears the registers and stacks and sets PC to KP_START. -/
  | kpReset (p : Port) (n : Fin 64) (v : Word)
  /-- KP_RUN (R405): A write of KP_CTL.run at 1 starts the processor at PC. -/
  | kpRun (p : Port) (n : Fin 64) (v : Word)
  /-- KP_HALT (R405): A write of KP_CTL.run at 0 halts the processor at the next boundary and raises event 640 + 3n. -/
  | kpHalt (p : Port) (n : Fin 64) (v : Word)
  /-- DMA_GO (R411): A write of DMA_CTL.go starts a channel's descriptor chain at DMA_DESC_ADDR. -/
  | dmaGo (p : Port) (n : Fin 128) (v : Word)
  /-- DMA_DESC_FETCH (R416): A fetched descriptor is checked, takes its region lease and starts, or is rejected with FORMAT or ADDRESS. -/
  | dmaDescFetch (n : Fin 128) (b : List Byte)
  /-- DMA_BURST (R421): A channel that its pacing allows starts a burst of at most 4 KiB, chosen by priority and round-robin. -/
  | dmaBurst (n : Fin 128)
  /-- DMA_BEAT_COMPLETE (R428): A beat's read or write completes or fails, ending the descriptor on an error. -/
  | dmaBeatComplete (n : Fin 128) (got : DmaBeat)
  /-- DMA_COMPLETE (R425): A descriptor ends, its completion record is written to its queue, and the chain continues or stops. -/
  | dmaComplete (n : Fin 128)
  /-- DMA_DISABLE (R432): A write of DMA_CTL.disable stops the channel and writes a DISABLED record when its requests have completed. -/
  | dmaDisable (p : Port) (n : Fin 128) (v : Word)
  /-- DMA_EXIT_PARCEL (R418): A fabric-exit parcel enters a channel's queue, or is dropped whole when the queue is full. -/
  | dmaExitParcel (n : Fin 128) (x : Parcel)
  /-- DMA_RING_PARTNER_WRITE (R419): Software writes DMA_RING_PARTNER, changing the fill level that pacing sees. -/
  | dmaRingPartnerWrite (p : Port) (n : Fin 128) (v : Word)
  /-- DMA_CQ_TAIL_WRITE (R427): A write to DMA_CQ_TAIL frees queue room, and held records are written in order. -/
  | dmaCqTailWrite (p : Port) (q : Fin 16) (v : Word)
  /-- STRM_FLOW_PARCEL (R438): An exit flow sends each kept parcel segment as VITA 49.2 packets, or withholds or drops it. -/
  | strmFlowParcel (sp : Fin 2) (fl : Fin 32) (x : Parcel)
  /-- STRM_FLOW_ENABLE (R442): Enabling a flow sends its first context packet and, for a region flow, takes its lease. -/
  | strmFlowEnable (p : Port) (sp : Fin 2) (fl : Fin 32) (v : Word)
  /-- STRM_CONTEXT_TIMER (R442): Every ctx_ms a flow sends a periodic context packet. -/
  | strmContextTimer (sp : Fin 2) (fl : Fin 32)
  /-- STRM_REGION_CAPTURE (R446): A region flow sends the next recorded capture, or skips it if it has been overwritten. -/
  | strmRegionCapture (sp : Fin 2) (fl : FlowRead)
  /-- STRM_ARP_REQUEST (R436): A received ARP request for the port's IPv4 address is answered. -/
  | strmArpRequest (sp : Fin 2) (mac : BitVec 48) (sender target : Word)
  /-- STRM_NEIGHBOR_SOLICIT (R436): A received Neighbor Solicitation for the port's IPv6 address is answered. -/
  | strmNeighborSolicit (sp : Fin 2) (mac : BitVec 48) (sender target : BitVec 128)
  /-- STRM_RX_OTHER (R436): Any other received frame is counted and dropped. -/
  | strmRxOther (sp : Fin 2) (fecCorrected : Nat)
  /-- STRM_LINK_CHANGE (R451): A stream-port link goes up or down and raises event 844 + s. -/
  | strmLinkChange (sp : Fin 2) (up : Bool)
  /-- DISP_COMMIT (R463): A write of DISP_COMMIT.go marks a display commit pending. -/
  | dispCommit (p : Port) (v : Word)
  /-- DISP_COMPOSE_LINE (R458): The compositor writes a line of the next frame once both links have scanned it, or counts it as late. -/
  | dispComposeLine (late : Bool) (overlay : List Word) (bad : List Nat) (fixed : List (Nat × Fin 2 × Fin 39))
  /-- DISP_LINK_TRAINED (R466): Both links have trained and, at the next internal frame, send video together. -/
  | dispLinkTrained (rateA rateB : Fin 5)
  /-- DISP_HPD_UNPLUG (R456): A long HPD low puts that output's lanes in electrical idle and raises event 853. -/
  | dispHpdUnplug (b : Bool)
  /-- DISP_HPD_PLUG (R456): HPD returning starts training of that link while the other keeps scanning. -/
  | dispHpdPlug (b : Bool)
  /-- DISP_IRQ_HPD (R456): A short HPD pulse makes the engine read the sink's link status and retrain that output if needed. -/
  | dispIrqHpd (b retrain : Bool)
  /-- DISP_AUX_GO (R452): A write of DISP_AUX_CMD.go starts a native or I²C-over-AUX transaction. -/
  | dispAuxGo (p : Port) (v : Word)
  /-- DISP_AUX_DONE (R474): An AUX transaction completes or is nacked, and event 853 is raised. -/
  | dispAuxDone (nack : Bool) (data : List Byte)
  /-- LAYER_RELEASED (R468): Within 100 µs after the replacing commit's blank, the layer's lease is released and a LAYER_RELEASED record is posted. -/
  | layerReleased (l : Fin 4)
  /-- LAYER_FAULT (R469): An overlay read error makes the layer transparent, posts a LAYER_FAULT record and raises event 852. -/
  | layerFault (cause : Fin 4)
  /-- TIU_TIME_ARM (R476): A write of TIU_TIME_CTL.arm arms a time set for the next counted PPS edge. -/
  | tiuTimeArm (p : Port) (v : Word)
  /-- EV_EDGE (R482): An edge on an enabled EV input is filtered, stamped and queued, or counted as crowded or lost. -/
  | evEdge (j : Fin 16) (high : Bool) (tick : Nat) (bin : Fin 64)
  /-- EV_STUCK (R481): An EV input that stays active past stuck_timeout is masked and raises event 873. -/
  | evStuck (j : Fin 16)
  /-- TIU_EV_FIFO_POP (R482): A read of word 0 of TIU_EV_FIFO pops a record and latches its other words for the reading port. -/
  | tiuEvFifoPop (p : Port) (j : Fin 16) (w : Fin 4)
  /-- TIU_CDC_GO (R480): A write of TIU_CDC_CTL.go starts a code-density calibration of one or all interpolators. -/
  | tiuCdcGo (p : Port) (v : Word)
  /-- TIU_CDC_DONE (R480): A calibration completes, replaces the width table or fails, and raises event 877 or 878. -/
  | tiuCdcDone (hits : List Nat)
  /-- TIU_FIN_GATE (R483): At the end of each gate the frequency of FIN_k is computed and written, with event 875. -/
  | tiuFinGate (k : Fin 2)
  /-- TIU_STAT_GO (R485): A write of TIU_STAT_CTL.go restarts a statistics engine. -/
  | tiuStatGo (p : Port) (s_ : Fin 4) (v : Word)
  /-- TIU_STAT_DONE (R485): After N measurements the statistics results are written, done sets and event 876 is raised. -/
  | tiuStatDone (s_ : Fin 4)
  /-- FCD_CODE_WRITE (R493): A write to FCD_CODE stores the written code, to apply at the next PWM period. -/
  | fcdCodeWrite (p : Port) (f : Fin 8) (v : Word)
  /-- FCD_PWM_PERIOD (R495): At a PWM period boundary the output takes its written code or clear code as the causes then stand. -/
  | fcdPwmPeriod (f : Fin 8)
  /-- FCD_DRIVE_ENABLE (R496): Setting a drive_en bit starts the PWM at the clear code with the buffer still high-impedance. -/
  | fcdDriveEnable (p : Port) (f : Fin 8)
  /-- FCD_PREDRIVE_DONE (R496): After the filter settles the buffer enables at the clear code, driving sets and event 105 is raised. -/
  | fcdPredriveDone (f : Fin 8)
  /-- FCD_DRIVE_DISABLE (R497): Clearing a drive_en bit returns the output to high impedance within 1 µs. -/
  | fcdDriveDisable (p : Port) (f : Fin 8)
  /-- FCD_RANGE_WRITE (R498): A change of FCD_CFG.range starts the range-change cause and the range switch. -/
  | fcdRangeWrite (p : Port) (f : Fin 8) (range : Fin 2)
  /-- FCD_RANGE_SETTLED (R498): The range switch settles, switching clears and event 107 is raised. -/
  | fcdRangeSettled (f : Fin 8)
  /-- HK_START (R501): A write of HK_CTL.start begins a housekeeping scan, or sets overrun if a scan runs. -/
  | hkStart (p : Port) (v : Word)
  /-- HK_STOP (R501): A write of HK_CTL.stop ends continuous scanning at the end of the scan in progress. -/
  | hkStop (p : Port) (v : Word)
  /-- HK_CONVERSION (R501): A housekeeping conversion completes, its result is stored, and FCD read-back and A/B comparison checks run. -/
  | hkConversion (a b : Int)
  /-- CAL_GO (R513): A write of CAL_CTL.go starts a calibration run, or refuses it with BUSY_PATH or PLAN. -/
  | calGo (p : Port) (v : Word)
  /-- CAL_NEXT (R514): A write of CAL_CTL.next releases the run to measure the next group. -/
  | calNext (p : Port) (v : Word)
  /-- CAL_PASS_DONE (R514): A measurement pass of a group ends, and after the second pass the points are compared. -/
  | calPassDone (readings : List (Nat × Int × Int)) (invalid overranged : Bool)
  /-- CAL_ABORT (R516): A write of CAL_CTL.abort ends the run with ABORTED and restores the selectors. -/
  | calAbort (p : Port) (v : Word)
  /-- CAL_COMMIT (R517): A write of CAL_CTL.commit, or auto_commit, writes a pending set to the other slot and verifies it. -/
  | calCommit (p : Port) (v : Word)
  /-- CAL_COMMIT_DONE (R517): The verified set goes into force at the next block boundary, CAL_COMMIT_INDEX is written and event 886 is raised. -/
  | calCommitDone (good : Bool)
  /-- CAL_STALE_CHECK (R626): Every 1 ms the calibration unit reads the converter sensors and re-evaluates each input's staleness. -/
  | calStaleCheck (temps : List (Fin 8 × Int))
  /-- CAL_ST_GO (R518): A write of CAL_ST_CTL.go erases, programs and verifies a range of the calibration store from host memory. -/
  | calStGo (p : Port) (v : Word)
  /-- CAL_ST_DONE (R518): Store programming completes, reports its CRC and raises event 888, or fails with event 889. -/
  | calStDone (data : Option (List Byte)) (verified : Bool)
  /-- ENS_TOKEN_RX (R526): A member receives a token, checks its crc and seq, forwards it and acts on it by type. -/
  | ensTokenRx (ring : Fin 2) (bytes : List Byte) (second : Bool)
  /-- ENS_RING_LOSS (R526): Ring loss is detected; the leader fails over to ring 1 and resends, or a member becomes lagging. -/
  | ensRingLoss (ring : Fin 2) (lockLost silent : Bool)
  /-- ENS_TOKEN_ARM (R530): ENS_TOKEN go with type ARM sends an ARM token with the armed masks and an apply tick. -/
  | ensTokenArm (p : Port) (v : Word)
  /-- ENS_TOKEN_DISARM (R530): ENS_TOKEN go with type DISARM sends a DISARM token with the masks and an apply tick. -/
  | ensTokenDisarm (p : Port) (v : Word)
  /-- ENS_TOKEN_RETURN (R533): An ARM or DISARM token returns to the leader, which marks unacked members lagging and raises event 897. -/
  | ensTokenReturn (ack : BitVec 16)
  /-- ENS_SYNC (R534): A write of ENS_CTL.sync on the leader sends SYNC_PREP for a new ensemble SYNC. -/
  | ensSync (p : Port) (v : Word)
  /-- WEAR_REPAIR_GO (R545): A write of WEAR_CTL.repair_go in SERVICE serves the marks and ends with a switch-over and event 901. -/
  | wearRepairGo (p : Port) (v : Word) (ledgerFails : Bool)
  /-- LANE_SPARE_SWAP (R547): After the spare lane trains, the marked lane's traffic moves to it at a parcel boundary and event 903 is raised. -/
  | laneSpareSwap (spare : Fin 52)
  /-- LEDGER_WRITE (R551): A pending ledger entry is written to the store, or fails after three attempts with event 906. -/
  | ledgerWrite (failed : Bool)
  /-- SCRUB (R552): The scrubber reads and corrects SRAM and capture-memory words on its periods. -/
  | scrub (what : ScrubFind)
  /-- RAIL_UNDERVOLTAGE (R564): A rail below its undervoltage limit for 10 µs sets its GLB_RAIL bit and triggers its consequence, such as an internal system reset. -/
  | railUndervoltage (rail : Fin 10)
  /-- RAIL_LOW_ALERT (R566): A rail below its operating range for 10 µs sets or clears rail_low and drives ALERT_N. -/
  | railLowAlert (below : Bool)
  /-- THERM_READ (R565): Every 1 ms the sensors are read for the warning and for a thermal trip. -/
  | thermRead (temps : List Int)
  /-- PORST_RELEASE (R569): PORST_N release latches the straps and starts the start-up chains at step 1. -/
  | porstRelease (bootSel : Bool) (mgmtAddr : Fin 4)
  /-- GLB_RST_SYS (R567): A keyed write of GLB_RST.sys starts a system reset. -/
  | glbRstSys (p : Port) (v : Word)
  /-- MEM_TRAIN_DONE (R358): Capture-memory training ends, unused or failed channels are marked, and initialisation starts. -/
  | memTrainDone (chans : List MemTrain)
  /-- AVS_TRANSACTION (R562): A VCORE write is followed by a settle wait and read-back, retried on mismatch and failed after four writes. -/
  | avsTransaction (good : Bool) (readMv : BitVec 16) (status : Byte)
  /-- AVS_STATUS_POLL (R562): Every 1 ms the engine reads the regulator status over AVSBus. -/
  | avsStatusPoll (status : Byte)
  /-- AVS_MAN_WRITE (R563): A write to GLB_AVS_MAN sets or ends the manual VCORE override, or is refused out of range. -/
  | avsManWrite (p : Port) (v : Word)
  /-- PWR_REQ (R581): A write of PWR_REQ.target under SEM_0 starts a transition, is held pending or waiting, or is ignored. -/
  | pwrReq (p : Port) (v : Word)
  /-- PWR_EXIT_SLEEP (R589): Exit from SLEEP relocks the utility PLL, bridges engine time, restores domains, reacquires the sample PLL and exits IDLE. -/
  | pwrExitSleep (counts : Nat) (refThere : Bool) (run : LockRun)
  /-- PWR_EXIT_DEEP (R589): Exit from DEEP switches domains on, restores the retention list and runs start-up steps 4 to 7. -/
  | pwrExitDeep (mhz100 : Bool)
  /-- MGMT_TRANSACTION (R592): A management-bus transaction to the strapped address is acknowledged, stores bytes or returns the state, and wakes the engine at STOP in SLEEP or DEEP. -/
  | mgmtTransaction (write : Option (List Byte)) (read : Nat)
  /-- KP_ILLEGAL_INSTRUCTION (R395): The kernel fetches a word whose class code is not listed or whose reserved field is not 0, and faults with ILLEGAL. -/
  | kpIllegalInstruction (n : Fin 64) (got : KpGot)
  /-- FIN_EDGE (R483): A prescaled edge of FIN_k is stamped by interpolator 16 + k, counted for the running gate, checked by the rate detector and fed to any statistics engine that measures it. -/
  | finEdge (k : Fin 2) (tick : Nat) (bin : Fin 64) (overRate : Bool)
  /-- ENS_RING_BLOCK_LOCK (R526): A String ring receiver gains block lock, ENS_STATUS.ring0_up or ring1_up sets, and the member can again receive tokens on that ring. -/
  | ensRingBlockLock (ring : Fin 2)
  /-- D2D_LANE_LOCK_LOSS (R541): A die-to-die lane loses lane lock, the lane is marked and spare-lane training begins. -/
  | d2dLaneLockLoss (lane : Fin 52)
  /-- UTILITY_PLL_FIRST_LOCK (R475): At start-up the utility PLL first declares lock, engine time starts at 0.0, the HOST domain is released, semaphores are free and the Control Ports start link training. -/
  | utilityPllFirstLock (mhz100 : Bool)
  /-- KAL_DECAY_SWEEP_DONE (R306): A decay sweep of a density table completes and KAL_SWEEPS.done increments. -/
  | kalDecaySweepDone (k : Fin 2)
  /-- PROT_MIN_CLIP_REACHED (R192): An overrange episode reaches min_clip clipped samples, and the selected FCD outputs are driven to their clear codes with event 76 + n. -/
  | protMinClipReached (n : Fin 4)
  /-- OVR_EPISODE_END (R191): An overrange episode ends with the last sample of its recovery span, and CNV_STATUS.ovr_now clears. -/
  | ovrEpisodeEnd (n : Fin 4)
  /-- MIRROR_GATHERED_UPDATE (R168): Once the 100 ns minimum interval has passed, a mirror group is updated with the changes gathered since its last update, and its generation word increments. -/
  | mirrorGatheredUpdate (g : Fin 240)
  /-- AER_UNCORRECTABLE_ERROR (R67): A Control Port logs an uncorrectable AER error, such as a malformed or poisoned TLP received on its link, and event 20 or 21 is raised. -/
  | aerUncorrectableError (e : AerErr)
  /-- SWITCH_OVER_START (R102): At the next converter-block boundary the old structure stops taking blocks, and frames in flight drain through the reorder window. -/
  | switchOverStart
  /-- SWITCH_OVER_COMMIT (R102): After the drain, REG_INIT records are written, shadow planes flip, coefficient bank A activates, GLB_MODE and the digests update, and event 24 is raised. -/
  | switchOverCommit
  /-- KEY_FUSE_DONE (R624): A fuse operation blows its completion fuse last, clears busy and raises event 28. -/
  | keyFuseDone
  /-- PCLK_STEP_UP (R148): After VCORE has stayed above a step's release threshold for up_hold_us, PCLK steps up by one step. -/
  | pclkStepUp
  /-- NRT_RESUME (R150): After PCLK has been at 960 MHz for nrt_resume_us, the stopped non-real-time work resumes together. -/
  | nrtResume
  /-- REF_LOST (R205): REFIN missing for four periods sets REF_STATUS.lost, raises event 69, holds the multiplier and puts the utility PLL into holdover. -/
  | refLost
  /-- PPS_WINDOW_MISSED (R207): A PPS window that closes with no edge increments PPS_STATUS.missed and raises event 71. -/
  | ppsWindowMissed
  /-- SPLL_TRIP (R220): The sample-PLL lock detector trips: lock clears, event 64 is raised, blocks carry CLK_INVALID and the carousel freezes. -/
  | spllTrip
  /-- UPLL_UNLOCK (R222): The utility-PLL detector trips: the VCO is frozen in holdover, event 67 is raised, TIME_HOLDOVER is set and PCLK is held at 480 MHz. -/
  | upllUnlock
  /-- UPLL_RELOCK (R222): The utility PLL declares lock again after steering back and raises event 68. -/
  | upllRelock
  /-- DMA_QUIESCE_TIMEOUT (R434): After quiesce_us, channels not parked are stopped with FORCED records and event 45. -/
  | dmaQuiesceTimeout
  /-- DMA_RESUME (R435): When the domain is on again, parked channels resume or write PARKED_BY_POWER records. -/
  | dmaResume
  /-- DISP_VBLANK (R463): A vertical blank starts, applying a pending commit or refusing it and releasing replaced leases. -/
  | dispVblank
  /-- DISP_CLOCK_SETTLED (R466): The pixel clock settles at its new value and the scan counter restarts. -/
  | dispClockSettled
  /-- DISP_TRAIN_FAIL (R467): Link training fails after retries, link_fail sets and event 853 is raised. -/
  | dispTrainFail
  /-- CLRDAC_FALL (R625): A confirmed low on CLRDAC_N starts the clear cause on every output, counts it and raises event 104. -/
  | clrdacFall
  /-- CLRDAC_RELEASE (R494): CLRDAC_N high for 1 µs ends the CLRDAC_N clear cause. -/
  | clrdacRelease
  /-- VHK_RETURN (R497): VHK returning reruns the first drive of every output whose drive_en bit is set. -/
  | vhkReturn
  /-- HK_SCAN_DONE (R501): A scan ends, scans is incremented, event 108 is raised, and a continuous scan restarts. -/
  | hkScanDone
  /-- CAL_GROUP_TIMEOUT (R516): A run waiting for next past timeout_s ends with TIMEOUT. -/
  | calGroupTimeout
  /-- ENS_HEARTBEAT (R525): The leader sends a HEARTBEAT when no other token has been due for 10 µs. -/
  | ensHeartbeat
  /-- ENS_FPRINT (R527): A follower sends its fingerprint on enable, at SYNC_PREP or after a change. -/
  | ensFprint
  /-- ENS_TOKEN_APPLY (R531): At the token's tick an in member arms or disarms the named regions and conditions. -/
  | ensTokenApply
  /-- ENS_SYNC_ABORT (R534): A SYNC_PREP not back within 100 µs abandons the SYNC and raises event 898. -/
  | ensSyncAbort
  /-- ENS_STATE_APPLY (R535): At the STATE token's tick rejoining members apply the armed region and condition masks. -/
  | ensStateApply
  /-- STARTUP_REPAIR_DONE (R544): Start-up repair completes from the ledger, releases SEM_5 and lets the boot chain continue. -/
  | startupRepairDone
  /-- STEER_SWEEP_START (R548): A marked SDRAM bit with a free steering bit starts a steering sweep and raises event 904. -/
  | steerSweepStart
  /-- STEER_SWEEP_DONE (R548): The steering sweep ends, MEM_STEER reports the position and event 905 is raised. -/
  | steerSweepDone
  /-- RAIL_RESTORED (R564): Every rail in range for 1 ms ends an internal system reset as a release. -/
  | railRestored
  /-- PORST_ASSERT (R567): PORST_N low resets the whole engine including AON. -/
  | porstAssert
  /-- SYSRST_ASSERT (R574): SYSRST_N assertion stops every unit except a running fuse operation and keeps the listed state. -/
  | sysrstAssert
  /-- SYSRST_RELEASE (R574): The release of a system reset runs start-up from step 4. -/
  | sysrstRelease
  /-- MEM_INIT_DONE (R571): Capture-memory initialisation ends, mem_ready sets and event 1 is raised. -/
  | memInitDone
  /-- START_DONE (R572): When the boot, memory and timing chains have ended, done sets, GLB_START_TICK is written and event 0 is raised. -/
  | startDone
  /-- PWR_REQ_WAIT_START (R582): A waiting power request starts when the load, repair, store operation or fuse operation it waited for completes. -/
  | pwrReqWaitStart
  /-- PWR_ENTER_IDLE (R584): Entry to IDLE stops blocks, drains the paths, closes products, gates converter clocks and raises event 56. -/
  | pwrEnterIdle
  /-- PWR_ENTER_SLEEP (R585): Entry to SLEEP quiesces DMA, halts processors, puts SDRAM in self-refresh and domains in retention, and stops the PLLs. -/
  | pwrEnterSleep
  /-- PWR_ENTER_DEEP (R586): Entry to DEEP writes DMA records and ledger entries, saves the retention list and switches HOST and CONV off. -/
  | pwrEnterDeep
  /-- PWR_ENTER_OFF (R587): Entry to OFF runs DEEP entry without retention, switches AON off and arms the WAKE_N latch. -/
  | pwrEnterOff
  /-- PWR_EXIT_IDLE (R589): Exit from IDLE ungates converter clocks, resumes sampling and discards 50 µs of samples. -/
  | pwrExitIdle
  /-- PWR_TRANSITION_DONE (R581): A transition completes, event 56 is raised, and a pending request or latched wake is taken. -/
  | pwrTransitionDone
  /-- WAKE_N_FALL (R590): A filtered falling edge on WAKE_N wakes the engine to RUN, or starts start-up from OFF. -/
  | wakeNFall
  /-- PWR_TIMER_EXPIRE (R590): PWR_TIMER reaching 0 wakes the engine when timer_en is set. -/
  | pwrTimerExpire
  /-- ENS_WAKE (R590): 10 µs of valid ring blocks wakes a follower with wake_en set from SLEEP or DEEP. -/
  | ensWake
  /-- STARTUP_STORE_READ_DONE (R569): The start-up read of the calibration store ends: the set in force is chosen, Request Retry Status ends, and repair and sample-PLL acquisition start, or a store fault ends start-up. -/
  | startupStoreReadDone
deriving DecidableEq, Repr

end Sys2Proof
end

