-- ==== Sys2Proof/Decode.lean ====
section
/-! DEFINITION. Table words as commands. -/

namespace Sys2Proof

/-- The command that a word of the opcode table spells: the table gives none of its rows any bits, so none. -/
def decodeTableWord (_nbits _w : Nat) : Option Instr := none

end Sys2Proof
end

