-- ==== Sys2Proof/Config.lean ====
section
/-! DEFINITION. What one engine of the family fixes, and the values the spec leaves open: opaque constants without a
body, so that nothing can be proved of them but that they are there. -/

namespace Sys2Proof.Config

/-- Which of sixteen periods the PWM of an FCD output prefers to lengthen, by the written code: bit i for period i
(R492 gives only their number). -/
opaque fcdLong : Nat → Nat

/-- The columns of a density table that a decay sweep has stepped, by the clock at which it started and the clock now: R306
says that they are stepped column by column, within 1.05 ms, and not when each is. -/
opaque sweepColumn : Nat → Nat → Nat

/-- The cause byte and the detail of a ledger entry about a converter slice: R550 lists none for it. -/
opaque ledgerSliceCause : Nat
/-- The detail of such an entry. -/
opaque ledgerSliceDetail : Nat

/-- The cause byte and the detail of a ledger entry about ring 0 that has been left for want of tokens (R550). -/
opaque ledgerRingCause : Nat
/-- The detail of such an entry. -/
opaque ledgerRingDetail : Nat

/-- A coefficient of HB0, 18-bit with 17 fraction bits (R234): number j is that of the pair of inputs 2j + 1 places from
the centre, of the eight pairs. The spec bounds the response and gives no values. -/
opaque hbRaw : Nat → BitVec 18

/-- How far a value of a sine-cosine generator lies from the rounded sine (false) or cosine (true) of its phase, in units of
its last place, by the phase in 2^-32 turn: R233 gives its width, amplitude and spurs, not its values. Held to one unit. -/
opaque sineSlack : Bool → Nat → Int

/-- How far a twiddle factor of a transform lies from the rounded value of the turn's sine or cosine, likewise (R265). -/
opaque twiddleSlack : Bool → Nat → Int

/-- What a 17-bit word becomes when a result falls outside its range: R235 and R242 do not say. -/
opaque wordOver : Int → Int

/-- What a coefficient of the flat-top window becomes where the window's series falls below 0: R264 has unsigned
coefficients; by the size exponent and the place. -/
opaque flatTopLow : Nat → Nat → Nat

/-- The stream number of a zoom window's own output, which the structure image assigns (R127), by the image's digest, the
path and the window; the container has no field for it. -/
opaque windowStream : List Byte → Nat → Nat → Nat

/-- The complex samples in a parcel of a zoom window's output, likewise. -/
opaque windowParcel : List Byte → Nat → Nat → Nat

/-- The stream number that the structure image assigns to the kurtosis records of a path (R273), likewise. -/
opaque kurtosisStream : List Byte → Nat → Nat

/-- The carry flag of a kernel processor after a subtraction stands for a borrow, or for none: R388 does not say which. -/
opaque kpBorrow : Bool

/-- A word of a listed class, with a bit that R395 gives no use or code at 1, has a reserved field that is not 0. R395 names
the main fields of a class and gives neither the codes within it nor the places of its reserved fields (log entry 42). -/
opaque kpReserved : Nat → Bool

/-- Bits that the kernel processor's rules leave open, by the number of the draw: c and v after a logic operation or a
shift, the upper bits of a wider destination of MOV, the other half of a word that a 16-bit access touches. -/
opaque kpFree : Nat → Nat

/-- The sample rate and the payload format words of a context packet whose flow carries records, by path and stream: R442
and R443 give none. -/
opaque ctxRecord : Nat → Nat → Nat × Nat

/-- The identification of an IPv4 packet, and the flow label of an IPv6 one, of a stream port, by the port and the number of the
packet: R436 gives none. -/
opaque ipIdent : Nat → Nat → Nat

/-- The indicators of R441 that a context packet gives for a data packet that is not known yet, by the number of the
draw. -/
opaque ctxNext : Nat → Nat

/-- The factory branch table of an input (R506, R516): the loss of its branch in µdB, by input and frequency in kHz. -/
opaque branchLoss : Nat → Nat → Int

/-- The phase of that branch, in 0.01 degree, likewise. -/
opaque branchPhase : Nat → Nat → Int

/-- What a calibration set holds where R508 and R516 state no value, by what is open: 0 a gain outside the entry's range,
1 a skew outside its range, 2 the slope through one frequency; and by the input. -/
opaque calOpen : Nat → Nat → Int

/-- Whether the phase error of the utility PLL lies inside its lock window, by the model's clock (R220, R222): what the
detector measures is no command and no register. -/
opaque upllInside : Nat → Bool

/-- A byte of a partly written slot of the calibration store (R518), by the number of the draw and its offset. -/
opaque storeOpen : Nat → Nat → Nat

/-- The row of an SRAM macro that holds an address of a unit, by the class that R555 gives the unit, its index and the address:
how the ledger names such rows of memories other than the tiles' the spec does not say (R541, R550). -/
opaque sramRow : Nat → Nat → Nat → Nat

/-- Which SRAM macro a row of a unit's memory lies in; the spec does not say. -/
opaque sramMacro : Nat → Nat

/-- The factory constant of a canary in the calibration store, in Mop/s times phase bins of mean delay (R486): tiles by their
number, kernel processors from 1,088 on. -/
opaque canaryConst : Nat → Nat

/-- A canary's rate in Mop/s derated from a Tj, in 0.01 °C, to 150 °C with the coefficient in the calibration store (R486);
the spec does not give the form of that law. -/
opaque derate : Nat → Nat → Int → Nat

/-- The factory floor rate of a tile or processor at a VCORE in mV, in the calibration store (R542). -/
opaque factoryFloor : Nat → Nat → Nat

/-- Bytes of ledger entries that R550 leaves open, by entry number and place: the cause of a steer position, the cause, unit
and detail of a snapshot. -/
opaque ledgerOpen : Nat → Nat → Nat

/-- The Device Serial Number of the engine, the same on both ports (R44, R45). -/
opaque serialNumber : BitVec 64

/-- The subsystem vendor and subsystem ID that a maker block holds, where it holds them (R45, R506); the spec does not say
where in the block they stand. -/
opaque makerSubsystem : List Byte → Option (BitVec 16 × BitVec 16)

/-- Whether the ledger entries of a repair started through a plain register write fail (R551), by free-value number. -/
opaque ledgerFails : Nat → Bool

/-- The hash of Korler's key that slot 0 of the fuses holds from manufacture on, byte by byte (R110). -/
opaque korlerHash : Nat → BitVec 8

end Sys2Proof.Config
end

