-- ==== Sys2Proof/Machine/Locs.lean ====
section
/-! DEFINITION. Where each register field of the BAR0 window lies: one location for every field of the spec's field
cards, under the register's and the field's own names. The reset value of the whole register goes with the location,
since a register that nothing has written reads as its reset value. -/

namespace Sys2Proof.Machine

/-- A register field: the BAR0 offset of its register (low word first, R10), its lowest bit, its width, and the
register's reset value. A register that each Control Port has a copy of lies at offset + 0x4000000 for CP_B (R47). -/
structure Loc where
  /-- BAR0 offset of the register's low word. -/
  addr : Nat
  /-- Lowest bit of the field. -/
  lo : Nat
  /-- Width of the field in bits. -/
  width : Nat
  /-- Reset value of the register. -/
  rst : Nat
deriving DecidableEq, Repr

/-- GLB_ID (R4, 00_scope.md). -/
def GLB_ID.reg : Loc := ⟨0x0, 0, 32, 0xe5540210⟩
def GLB_ID.family : Loc := ⟨0x0, 24, 8, 0xe5540210⟩
def GLB_ID.device : Loc := ⟨0x0, 16, 8, 0xe5540210⟩
def GLB_ID.variant : Loc := ⟨0x0, 12, 4, 0xe5540210⟩
def GLB_ID.major : Loc := ⟨0x0, 8, 4, 0xe5540210⟩
def GLB_ID.minor : Loc := ⟨0x0, 4, 4, 0xe5540210⟩
/-- GLB_MODE (R28, 01_architecture.md). -/
def GLB_MODE.reg : Loc := ⟨0x10, 0, 32, 0x0⟩
def GLB_MODE.running : Loc := ⟨0x10, 16, 4, 0x0⟩
def GLB_MODE.mode_p3 : Loc := ⟨0x10, 12, 4, 0x0⟩
def GLB_MODE.mode_p2 : Loc := ⟨0x10, 8, 4, 0x0⟩
def GLB_MODE.mode_p1 : Loc := ⟨0x10, 4, 4, 0x0⟩
def GLB_MODE.mode_p0 : Loc := ⟨0x10, 0, 4, 0x0⟩
/-- GLB_PORT (R53, 02_host_ports.md). -/
def GLB_PORT.reg (cp : Nat) : Loc := ⟨0x20 + 0x4000000 * cp, 0, 32, 0x0⟩
def GLB_PORT.self (cp : Nat) : Loc := ⟨0x20 + 0x4000000 * cp, 28, 1, 0x0⟩
def GLB_PORT.b_rate (cp : Nat) : Loc := ⟨0x20 + 0x4000000 * cp, 20, 4, 0x0⟩
def GLB_PORT.b_width (cp : Nat) : Loc := ⟨0x20 + 0x4000000 * cp, 16, 4, 0x0⟩
def GLB_PORT.a_rate (cp : Nat) : Loc := ⟨0x20 + 0x4000000 * cp, 4, 4, 0x0⟩
def GLB_PORT.a_width (cp : Nat) : Loc := ⟨0x20 + 0x4000000 * cp, 0, 4, 0x0⟩
/-- SEM_PEEK (R65, 02_host_ports.md). -/
def SEM_PEEK.reg (n : Nat) : Loc := ⟨0x20400 + 0x4 * n, 0, 32, 0x0⟩
/-- SEM_BREAK (R65, 02_host_ports.md). -/
def SEM_BREAK.reg : Loc := ⟨0x20800, 0, 32, 0x0⟩
/-- SEM_REFUSED_0 (R65, 02_host_ports.md). -/
def SEM_REFUSED_0.reg : Loc := ⟨0x20810, 0, 32, 0x0⟩
/-- SEM_REFUSED_1 (R65, 02_host_ports.md). -/
def SEM_REFUSED_1.reg : Loc := ⟨0x20814, 0, 32, 0x0⟩
/-- SEM_LAST_REFUSED_0 (R65, 02_host_ports.md). -/
def SEM_LAST_REFUSED_0.reg : Loc := ⟨0x20818, 0, 32, 0x0⟩
/-- SEM_LAST_REFUSED_1 (R65, 02_host_ports.md). -/
def SEM_LAST_REFUSED_1.reg : Loc := ⟨0x2081c, 0, 32, 0x0⟩
/-- SEM_LOST (R65, 02_host_ports.md). -/
def SEM_LOST.reg (w : Nat) : Loc := ⟨0x20820 + 0x4 * w, 0, 32, 0x0⟩
/-- SEM_LOST_INFO (R65, 02_host_ports.md). -/
def SEM_LOST_INFO.reg : Loc := ⟨0x20840, 0, 32, 0x0⟩
/-- EVT_PEND (R68, 02_host_ports.md). -/
def EVT_PEND.reg (cp : Nat) (w : Nat) : Loc := ⟨0x30100 + 0x4 * w + 0x4000000 * cp, 0, 32, 0x0⟩
/-- EVT_ROUTE (R68, 02_host_ports.md). -/
def EVT_ROUTE.reg (cp : Nat) (n : Nat) : Loc := ⟨0x32000 + 0x4 * n + 0x4000000 * cp, 0, 32, 0x0⟩
def EVT_ROUTE.en (cp : Nat) (n : Nat) : Loc := ⟨0x32000 + 0x4 * n + 0x4000000 * cp, 16, 1, 0x0⟩
def EVT_ROUTE.vector (cp : Nat) (n : Nat) : Loc := ⟨0x32000 + 0x4 * n + 0x4000000 * cp, 0, 11, 0x0⟩
/-- EVT_CNT (R68, 02_host_ports.md). -/
def EVT_CNT.reg (cp : Nat) (n : Nat) : Loc := ⟨0x34000 + 0x4 * n + 0x4000000 * cp, 0, 32, 0x0⟩
def EVT_CNT.count (cp : Nat) (n : Nat) : Loc := ⟨0x34000 + 0x4 * n + 0x4000000 * cp, 0, 16, 0x0⟩
/-- EVT_MOD (R68, 02_host_ports.md). -/
def EVT_MOD.reg (cp : Nat) (v : Nat) : Loc := ⟨0x36000 + 0x4 * v + 0x4000000 * cp, 0, 32, 0x0⟩
def EVT_MOD.gap_us (cp : Nat) (v : Nat) : Loc := ⟨0x36000 + 0x4 * v + 0x4000000 * cp, 0, 10, 0x0⟩
/-- MP_CTL (R86, 02_host_ports.md). -/
def MP_CTL.reg : Loc := ⟨0x100, 0, 32, 0x0⟩
def MP_CTL.marker_en : Loc := ⟨0x100, 4, 1, 0x0⟩
def MP_CTL.fcd_en : Loc := ⟨0x100, 3, 1, 0x0⟩
def MP_CTL.arm_en : Loc := ⟨0x100, 2, 1, 0x0⟩
def MP_CTL.force_en : Loc := ⟨0x100, 1, 1, 0x0⟩
def MP_CTL.fast_en : Loc := ⟨0x100, 0, 1, 0x0⟩
/-- MP_STATUS (R86, 02_host_ports.md). -/
def MP_STATUS.reg : Loc := ⟨0x104, 0, 32, 0x0⟩
def MP_STATUS.refused : Loc := ⟨0x104, 16, 16, 0x0⟩
def MP_STATUS.clk_seen : Loc := ⟨0x104, 1, 1, 0x0⟩
def MP_STATUS.fast_en : Loc := ⟨0x104, 0, 1, 0x0⟩
/-- IMG_CTL (R120, 03_structure_image.md). -/
def IMG_CTL.reg : Loc := ⟨0x40000, 0, 32, 0x0⟩
def IMG_CTL.abort : Loc := ⟨0x40000, 5, 1, 0x0⟩
def IMG_CTL.avs_raise : Loc := ⟨0x40000, 4, 1, 0x0⟩
def IMG_CTL.src : Loc := ⟨0x40000, 2, 2, 0x0⟩
def IMG_CTL.dry_run : Loc := ⟨0x40000, 1, 1, 0x0⟩
def IMG_CTL.go : Loc := ⟨0x40000, 0, 1, 0x0⟩
/-- IMG_STATUS (R120, 03_structure_image.md). -/
def IMG_STATUS.reg : Loc := ⟨0x40004, 0, 32, 0x0⟩
def IMG_STATUS.was_dry : Loc := ⟨0x40004, 24, 1, 0x0⟩
def IMG_STATUS.code : Loc := ⟨0x40004, 16, 8, 0x0⟩
def IMG_STATUS.origin : Loc := ⟨0x40004, 8, 2, 0x0⟩
def IMG_STATUS.path_mask : Loc := ⟨0x40004, 4, 4, 0x0⟩
def IMG_STATUS.state : Loc := ⟨0x40004, 0, 4, 0x0⟩
/-- IMG_SRC (R120, 03_structure_image.md). -/
def IMG_SRC.reg : Loc := ⟨0x40008, 0, 64, 0x0⟩
/-- IMG_LEN (R120, 03_structure_image.md). -/
def IMG_LEN.reg : Loc := ⟨0x40010, 0, 32, 0x0⟩
/-- IMG_UNLOAD (R120, 03_structure_image.md). -/
def IMG_UNLOAD.reg : Loc := ⟨0x40014, 0, 32, 0x0⟩
def IMG_UNLOAD.go : Loc := ⟨0x40014, 31, 1, 0x0⟩
def IMG_UNLOAD.mask : Loc := ⟨0x40014, 0, 4, 0x0⟩
/-- IMG_KEY_STATUS (R120, 03_structure_image.md). -/
def IMG_KEY_STATUS.reg : Loc := ⟨0x40020, 0, 32, 0x0⟩
def IMG_KEY_STATUS.svn_min : Loc := ⟨0x40020, 16, 16, 0x0⟩
def IMG_KEY_STATUS.incomplete : Loc := ⟨0x40020, 10, 1, 0x0⟩
def IMG_KEY_STATUS.refused : Loc := ⟨0x40020, 9, 1, 0x0⟩
def IMG_KEY_STATUS.busy : Loc := ⟨0x40020, 8, 1, 0x0⟩
def IMG_KEY_STATUS.revoked : Loc := ⟨0x40020, 4, 4, 0x0⟩
def IMG_KEY_STATUS.enrolled : Loc := ⟨0x40020, 0, 4, 0x0⟩
/-- IMG_KEY_CTL (R120, 03_structure_image.md). -/
def IMG_KEY_CTL.reg : Loc := ⟨0x40024, 0, 32, 0x0⟩
def IMG_KEY_CTL.key : Loc := ⟨0x40024, 16, 16, 0x0⟩
def IMG_KEY_CTL.op_ : Loc := ⟨0x40024, 12, 4, 0x0⟩
def IMG_KEY_CTL.arg : Loc := ⟨0x40024, 0, 12, 0x0⟩
/-- IMG_DIGEST (R120, 03_structure_image.md). -/
def IMG_DIGEST.reg : Loc := ⟨0x40028, 0, 64, 0x0⟩
/-- IMG_KEY_HASH (R120, 03_structure_image.md). -/
def IMG_KEY_HASH.reg (i : Nat) : Loc := ⟨0x40040 + 0x4 * i, 0, 32, 0x0⟩
/-- IMG_ADMIT_REQ (R120, 03_structure_image.md). -/
def IMG_ADMIT_REQ.reg (p : Nat) : Loc := ⟨0x40100 + 0x10 * p, 0, 32, 0x0⟩
/-- IMG_ADMIT_FLOOR (R120, 03_structure_image.md). -/
def IMG_ADMIT_FLOOR.reg (p : Nat) : Loc := ⟨0x40104 + 0x10 * p, 0, 32, 0x0⟩
/-- IMG_ADMIT_INFO (R120, 03_structure_image.md). -/
def IMG_ADMIT_INFO.reg (p : Nat) : Loc := ⟨0x40108 + 0x10 * p, 0, 32, 0x0⟩
def IMG_ADMIT_INFO.vcore_mv (p : Nat) : Loc := ⟨0x40108 + 0x10 * p, 16, 16, 0x0⟩
def IMG_ADMIT_INFO.avs_raised (p : Nat) : Loc := ⟨0x40108 + 0x10 * p, 9, 1, 0x0⟩
def IMG_ADMIT_INFO.best_effort_on (p : Nat) : Loc := ⟨0x40108 + 0x10 * p, 8, 1, 0x0⟩
def IMG_ADMIT_INFO.code (p : Nat) : Loc := ⟨0x40108 + 0x10 * p, 0, 8, 0x0⟩
/-- IMG_PATH_DIGEST (R120, 03_structure_image.md). -/
def IMG_PATH_DIGEST.word (p : Nat) (i_ : Nat) : Loc := ⟨0x40200 + 0x40 * p + 4 * i_, 0, 32, 0x0⟩
/-- IMG_RETIRED (R120, 03_structure_image.md). -/
def IMG_RETIRED.reg (c : Nat) : Loc := ⟨0x41000 + 0x8 * c, 0, 64, 0x0⟩
def IMG_RETIRED.rows (c : Nat) : Loc := ⟨0x41000 + 0x8 * c, 0, 34, 0x0⟩
/-- FAB_TILE_STATE (R166, 04_fabric.md). -/
def FAB_TILE_STATE.reg (t : Nat) : Loc := ⟨0x80000 + 0x40 * t, 0, 32, 0xffff0000⟩
def FAB_TILE_STATE.ltile (t : Nat) : Loc := ⟨0x80000 + 0x40 * t, 16, 16, 0xffff0000⟩
def FAB_TILE_STATE.path (t : Nat) : Loc := ⟨0x80000 + 0x40 * t, 8, 2, 0xffff0000⟩
def FAB_TILE_STATE.role (t : Nat) : Loc := ⟨0x80000 + 0x40 * t, 4, 4, 0xffff0000⟩
def FAB_TILE_STATE.shadow (t : Nat) : Loc := ⟨0x80000 + 0x40 * t, 3, 1, 0xffff0000⟩
def FAB_TILE_STATE.state (t : Nat) : Loc := ⟨0x80000 + 0x40 * t, 0, 2, 0xffff0000⟩
/-- FAB_TILE_RATE (R166, 04_fabric.md). -/
def FAB_TILE_RATE.reg (t : Nat) : Loc := ⟨0x80004 + 0x40 * t, 0, 32, 0x0⟩
def FAB_TILE_RATE.floor_mops (t : Nat) : Loc := ⟨0x80004 + 0x40 * t, 16, 16, 0x0⟩
def FAB_TILE_RATE.rate_mops (t : Nat) : Loc := ⟨0x80004 + 0x40 * t, 0, 16, 0x0⟩
/-- FAB_TILE_FIRE (R166, 04_fabric.md). -/
def FAB_TILE_FIRE.reg (t : Nat) : Loc := ⟨0x80008 + 0x40 * t, 0, 32, 0x0⟩
/-- FAB_TILE_RES (R166, 04_fabric.md). -/
def FAB_TILE_RES.reg (t : Nat) : Loc := ⟨0x8000c + 0x40 * t, 0, 32, 0x0⟩
def FAB_TILE_RES.uncorrected (t : Nat) : Loc := ⟨0x8000c + 0x40 * t, 16, 16, 0x0⟩
def FAB_TILE_RES.retried_ok (t : Nat) : Loc := ⟨0x8000c + 0x40 * t, 0, 16, 0x0⟩
/-- FAB_TILE_CRC (R166, 04_fabric.md). -/
def FAB_TILE_CRC.reg (t : Nat) : Loc := ⟨0x80010 + 0x40 * t, 0, 32, 0x0⟩
def FAB_TILE_CRC.fails (t : Nat) : Loc := ⟨0x80010 + 0x40 * t, 0, 16, 0x0⟩
/-- FAB_TILE_ECC (R166, 04_fabric.md). -/
def FAB_TILE_ECC.reg (t : Nat) : Loc := ⟨0x80014 + 0x40 * t, 0, 32, 0x0⟩
def FAB_TILE_ECC.uncorrected (t : Nat) : Loc := ⟨0x80014 + 0x40 * t, 16, 16, 0x0⟩
def FAB_TILE_ECC.corrected (t : Nat) : Loc := ⟨0x80014 + 0x40 * t, 0, 16, 0x0⟩
/-- GLB_PCLK (R167, 04_fabric.md). -/
def GLB_PCLK.reg : Loc := ⟨0x200, 0, 32, 0x0⟩
def GLB_PCLK.down_count : Loc := ⟨0x200, 16, 16, 0x0⟩
def GLB_PCLK.uplk_hold : Loc := ⟨0x200, 4, 1, 0x0⟩
def GLB_PCLK.nrt_stopped : Loc := ⟨0x200, 3, 1, 0x0⟩
def GLB_PCLK.step : Loc := ⟨0x200, 0, 2, 0x0⟩
/-- GLB_PCLK_CTL (R167, 04_fabric.md). -/
def GLB_PCLK_CTL.reg : Loc := ⟨0x204, 0, 32, 0x32000a⟩
def GLB_PCLK_CTL.nrt_resume_us : Loc := ⟨0x204, 16, 16, 0x32000a⟩
def GLB_PCLK_CTL.up_hold_us : Loc := ⟨0x204, 0, 16, 0x32000a⟩
/-- GLB_EB_LEVEL (R167, 04_fabric.md). -/
def GLB_EB_LEVEL.reg (p : Nat) : Loc := ⟨0x210 + 0x20 * p, 0, 32, 0x0⟩
def GLB_EB_LEVEL.peak (p : Nat) : Loc := ⟨0x210 + 0x20 * p, 16, 13, 0x0⟩
def GLB_EB_LEVEL.level (p : Nat) : Loc := ⟨0x210 + 0x20 * p, 0, 13, 0x0⟩
/-- GLB_EB_CTL (R167, 04_fabric.md). -/
def GLB_EB_CTL.reg (p : Nat) : Loc := ⟨0x214 + 0x20 * p, 0, 32, 0x4000600⟩
def GLB_EB_CTL.high_water (p : Nat) : Loc := ⟨0x214 + 0x20 * p, 16, 13, 0x4000600⟩
def GLB_EB_CTL.resume_level (p : Nat) : Loc := ⟨0x214 + 0x20 * p, 0, 13, 0x4000600⟩
/-- GLB_GAP_COUNT (R167, 04_fabric.md). -/
def GLB_GAP_COUNT.reg (p : Nat) : Loc := ⟨0x218 + 0x20 * p, 0, 32, 0x0⟩
/-- GLB_GAP_OPEN (R167, 04_fabric.md). -/
def GLB_GAP_OPEN.reg (p : Nat) : Loc := ⟨0x21c + 0x20 * p, 0, 32, 0x0⟩
def GLB_GAP_OPEN.reasons (p : Nat) : Loc := ⟨0x21c + 0x20 * p, 16, 16, 0x0⟩
def GLB_GAP_OPEN.open_ (p : Nat) : Loc := ⟨0x21c + 0x20 * p, 8, 1, 0x0⟩
def GLB_GAP_OPEN.scope (p : Nat) : Loc := ⟨0x21c + 0x20 * p, 0, 2, 0x0⟩
/-- GLB_GAP_SAMPLES (R167, 04_fabric.md). -/
def GLB_GAP_SAMPLES.reg (p : Nat) : Loc := ⟨0x220 + 0x20 * p, 0, 64, 0x0⟩
/-- GLB_SEQ (R167, 04_fabric.md). -/
def GLB_SEQ.reg (p : Nat) : Loc := ⟨0x228 + 0x20 * p, 0, 64, 0x0⟩
/-- GLB_CAP_CTL (R167, 04_fabric.md). -/
def GLB_CAP_CTL.reg : Loc := ⟨0x300, 0, 32, 0x1051405⟩
def GLB_CAP_CTL.avs_auto : Loc := ⟨0x300, 24, 1, 0x1051405⟩
def GLB_CAP_CTL.sweep_ms : Loc := ⟨0x300, 16, 8, 0x1051405⟩
def GLB_CAP_CTL.margin_high : Loc := ⟨0x300, 8, 8, 0x1051405⟩
def GLB_CAP_CTL.margin_low : Loc := ⟨0x300, 0, 8, 0x1051405⟩
/-- GLB_CAP_STATUS (R167, 04_fabric.md). -/
def GLB_CAP_STATUS.reg : Loc := ⟨0x304, 0, 32, 0x0⟩
def GLB_CAP_STATUS.lost : Loc := ⟨0x304, 24, 4, 0x0⟩
def GLB_CAP_STATUS.headroom : Loc := ⟨0x304, 16, 8, 0x0⟩
def GLB_CAP_STATUS.vcore_mv : Loc := ⟨0x304, 0, 16, 0x0⟩
/-- GLB_GAP_HEAD (R167, 04_fabric.md). -/
def GLB_GAP_HEAD.reg : Loc := ⟨0x308, 0, 32, 0x0⟩
/-- GLB_GAP_LOG (R167, 04_fabric.md). -/
def GLB_GAP_LOG.word (i : Nat) (i_ : Nat) : Loc := ⟨0x2000 + 0x20 * i + 4 * i_, 0, 32, 0x0⟩
/-- CNV_CTL (R201, 05_converters.md). -/
def CNV_CTL.reg (n : Nat) : Loc := ⟨0x100000 + 0x1000 * n, 0, 32, 0x0⟩
def CNV_CTL.zone (n : Nat) : Loc := ⟨0x100000 + 0x1000 * n, 4, 1, 0x0⟩
def CNV_CTL.input_sel (n : Nat) : Loc := ⟨0x100000 + 0x1000 * n, 0, 2, 0x0⟩
/-- CNV_STATUS (R201, 05_converters.md). -/
def CNV_STATUS.reg (n : Nat) : Loc := ⟨0x100004 + 0x1000 * n, 0, 32, 0x4000000⟩
def CNV_STATUS.incoming (n : Nat) : Loc := ⟨0x100004 + 0x1000 * n, 22, 5, 0x4000000⟩
def CNV_STATUS.stop_pos (n : Nat) : Loc := ⟨0x100004 + 0x1000 * n, 18, 4, 0x4000000⟩
def CNV_STATUS.clk_invalid (n : Nat) : Loc := ⟨0x100004 + 0x1000 * n, 11, 1, 0x4000000⟩
def CNV_STATUS.settling (n : Nat) : Loc := ⟨0x100004 + 0x1000 * n, 10, 1, 0x4000000⟩
def CNV_STATUS.frozen (n : Nat) : Loc := ⟨0x100004 + 0x1000 * n, 9, 1, 0x4000000⟩
def CNV_STATUS.reserve_used (n : Nat) : Loc := ⟨0x100004 + 0x1000 * n, 8, 1, 0x4000000⟩
def CNV_STATUS.route (n : Nat) : Loc := ⟨0x100004 + 0x1000 * n, 6, 2, 0x4000000⟩
def CNV_STATUS.ovr_now (n : Nat) : Loc := ⟨0x100004 + 0x1000 * n, 5, 1, 0x4000000⟩
def CNV_STATUS.state (n : Nat) : Loc := ⟨0x100004 + 0x1000 * n, 0, 2, 0x4000000⟩
/-- CNV_OVR_FLAG (R201, 05_converters.md). -/
def CNV_OVR_FLAG.reg (n : Nat) : Loc := ⟨0x100008 + 0x1000 * n, 0, 32, 0x0⟩
def CNV_OVR_FLAG.sticky (n : Nat) : Loc := ⟨0x100008 + 0x1000 * n, 0, 1, 0x0⟩
/-- CNV_OVR_EPISODES (R201, 05_converters.md). -/
def CNV_OVR_EPISODES.reg (n : Nat) : Loc := ⟨0x10000c + 0x1000 * n, 0, 32, 0x0⟩
/-- CNV_OVR_SAMPLES (R201, 05_converters.md). -/
def CNV_OVR_SAMPLES.reg (n : Nat) : Loc := ⟨0x100010 + 0x1000 * n, 0, 64, 0x0⟩
/-- CNV_OVR_FIRST (R201, 05_converters.md). -/
def CNV_OVR_FIRST.reg (n : Nat) : Loc := ⟨0x100018 + 0x1000 * n, 0, 64, 0x0⟩
/-- CNV_PROT (R201, 05_converters.md). -/
def CNV_PROT.reg (n : Nat) : Loc := ⟨0x100020 + 0x1000 * n, 0, 32, 0x10000⟩
def CNV_PROT.active (n : Nat) : Loc := ⟨0x100020 + 0x1000 * n, 31, 1, 0x10000⟩
def CNV_PROT.min_clip (n : Nat) : Loc := ⟨0x100020 + 0x1000 * n, 16, 12, 0x10000⟩
def CNV_PROT.fcd_mask (n : Nat) : Loc := ⟨0x100020 + 0x1000 * n, 8, 8, 0x10000⟩
def CNV_PROT.release (n : Nat) : Loc := ⟨0x100020 + 0x1000 * n, 1, 1, 0x10000⟩
def CNV_PROT.en (n : Nat) : Loc := ⟨0x100020 + 0x1000 * n, 0, 1, 0x10000⟩
/-- CNV_PROT_HOLD (R201, 05_converters.md). -/
def CNV_PROT_HOLD.reg (n : Nat) : Loc := ⟨0x100024 + 0x1000 * n, 0, 32, 0x3e8⟩
def CNV_PROT_HOLD.hold_us (n : Nat) : Loc := ⟨0x100024 + 0x1000 * n, 0, 16, 0x3e8⟩
/-- CNV_CAR_CTL (R201, 05_converters.md). -/
def CNV_CAR_CTL.reg (n : Nat) : Loc := ⟨0x100030 + 0x1000 * n, 0, 32, 0x114⟩
def CNV_CAR_CTL.reconverge (n : Nat) : Loc := ⟨0x100030 + 0x1000 * n, 10, 1, 0x114⟩
def CNV_CAR_CTL.hold_ (n : Nat) : Loc := ⟨0x100030 + 0x1000 * n, 9, 1, 0x114⟩
def CNV_CAR_CTL.live_spare (n : Nat) : Loc := ⟨0x100030 + 0x1000 * n, 8, 1, 0x114⟩
def CNV_CAR_CTL.dwell_log2 (n : Nat) : Loc := ⟨0x100030 + 0x1000 * n, 0, 5, 0x114⟩
/-- CNV_CAR_STATUS (R201, 05_converters.md). -/
def CNV_CAR_STATUS.reg (n : Nat) : Loc := ⟨0x100034 + 0x1000 * n, 0, 32, 0x0⟩
def CNV_CAR_STATUS.stops (n : Nat) : Loc := ⟨0x100034 + 0x1000 * n, 16, 16, 0x0⟩
def CNV_CAR_STATUS.timing_held (n : Nat) : Loc := ⟨0x100034 + 0x1000 * n, 0, 16, 0x0⟩
/-- CNV_FLT_CTL (R201, 05_converters.md). -/
def CNV_FLT_CTL.reg (n : Nat) : Loc := ⟨0x100040 + 0x1000 * n, 0, 32, 0x0⟩
def CNV_FLT_CTL.hyst (n : Nat) : Loc := ⟨0x100040 + 0x1000 * n, 16, 12, 0x0⟩
def CNV_FLT_CTL.min_run (n : Nat) : Loc := ⟨0x100040 + 0x1000 * n, 8, 8, 0x0⟩
def CNV_FLT_CTL.mode (n : Nat) : Loc := ⟨0x100040 + 0x1000 * n, 1, 2, 0x0⟩
def CNV_FLT_CTL.en (n : Nat) : Loc := ⟨0x100040 + 0x1000 * n, 0, 1, 0x0⟩
/-- CNV_FLT_LEVEL (R201, 05_converters.md). -/
def CNV_FLT_LEVEL.reg (n : Nat) : Loc := ⟨0x100044 + 0x1000 * n, 0, 32, 0x7ff0800⟩
def CNV_FLT_LEVEL.upper (n : Nat) : Loc := ⟨0x100044 + 0x1000 * n, 16, 12, 0x7ff0800⟩
def CNV_FLT_LEVEL.lower (n : Nat) : Loc := ⟨0x100044 + 0x1000 * n, 0, 12, 0x7ff0800⟩
/-- CNV_FLT_COUNT (R201, 05_converters.md). -/
def CNV_FLT_COUNT.reg (n : Nat) : Loc := ⟨0x100048 + 0x1000 * n, 0, 32, 0x0⟩
def CNV_FLT_COUNT.suppressed (n : Nat) : Loc := ⟨0x100048 + 0x1000 * n, 16, 16, 0x0⟩
def CNV_FLT_COUNT.fired (n : Nat) : Loc := ⟨0x100048 + 0x1000 * n, 0, 16, 0x0⟩
/-- CNV_SLICE (R201, 05_converters.md). -/
def CNV_SLICE.reg (n s : Nat) : Loc := ⟨0x100100 + 0x1000 * n + 0x8 * s, 0, 32, if s < 16 then 16 * s else s - 15⟩
def CNV_SLICE.health (n s : Nat) : Loc := ⟨0x100100 + 0x1000 * n + 0x8 * s, 8, 8, if s < 16 then 16 * s else s - 15⟩
def CNV_SLICE.position (n s : Nat) : Loc := ⟨0x100100 + 0x1000 * n + 0x8 * s, 4, 4, if s < 16 then 16 * s else s - 15⟩
def CNV_SLICE.state (n s : Nat) : Loc := ⟨0x100100 + 0x1000 * n + 0x8 * s, 0, 3, if s < 16 then 16 * s else s - 15⟩
/-- CNV_TRIM (R201, 05_converters.md). -/
def CNV_TRIM.reg (n s : Nat) : Loc := ⟨0x100104 + 0x1000 * n + 0x8 * s, 0, 32, 0x0⟩
def CNV_TRIM.timing (n s : Nat) : Loc := ⟨0x100104 + 0x1000 * n + 0x8 * s, 20, 10, 0x0⟩
def CNV_TRIM.gain (n s : Nat) : Loc := ⟨0x100104 + 0x1000 * n + 0x8 * s, 10, 10, 0x0⟩
def CNV_TRIM.offset (n s : Nat) : Loc := ⟨0x100104 + 0x1000 * n + 0x8 * s, 0, 10, 0x0⟩
/-- SPLL_DIV (R227, 06_sample_clocks.md). -/
def SPLL_DIV.reg : Loc := ⟨0x110000, 0, 32, 0x40000000⟩
def SPLL_DIV.n_int : Loc := ⟨0x110000, 24, 7, 0x40000000⟩
def SPLL_DIV.frac : Loc := ⟨0x110000, 0, 24, 0x40000000⟩
/-- SPLL_CTL (R227, 06_sample_clocks.md). -/
def SPLL_CTL.reg : Loc := ⟨0x110004, 0, 32, 0x2800⟩
def SPLL_CTL.ld_window : Loc := ⟨0x110004, 8, 8, 0x2800⟩
def SPLL_CTL.hop : Loc := ⟨0x110004, 4, 1, 0x2800⟩
def SPLL_CTL.entry : Loc := ⟨0x110004, 0, 4, 0x2800⟩
/-- SPLL_LF (R227, 06_sample_clocks.md). -/
def SPLL_LF.reg : Loc := ⟨0x110008, 0, 32, 0x1⟩
def SPLL_LF.bw : Loc := ⟨0x110008, 0, 2, 0x1⟩
/-- SPLL_STATUS (R227, 06_sample_clocks.md). -/
def SPLL_STATUS.reg : Loc := ⟨0x11000c, 0, 32, 0x0⟩
def SPLL_STATUS.band : Loc := ⟨0x11000c, 24, 6, 0x0⟩
def SPLL_STATUS.cause : Loc := ⟨0x11000c, 16, 4, 0x0⟩
def SPLL_STATUS.refused : Loc := ⟨0x11000c, 3, 1, 0x0⟩
def SPLL_STATUS.acquiring : Loc := ⟨0x11000c, 1, 1, 0x0⟩
def SPLL_STATUS.locked : Loc := ⟨0x11000c, 0, 1, 0x0⟩
/-- SPLL_UNLOCKS (R227, 06_sample_clocks.md). -/
def SPLL_UNLOCKS.reg : Loc := ⟨0x110010, 0, 32, 0x0⟩
/-- SPLL_TRIP_INDEX (R227, 06_sample_clocks.md). -/
def SPLL_TRIP_INDEX.reg : Loc := ⟨0x110018, 0, 64, 0x0⟩
/-- SPLL_LOCK_INDEX (R227, 06_sample_clocks.md). -/
def SPLL_LOCK_INDEX.reg : Loc := ⟨0x110020, 0, 64, 0x0⟩
/-- SPLL_HOP (R227, 06_sample_clocks.md). -/
def SPLL_HOP.reg (e : Nat) : Loc := ⟨0x110040 + 0x8 * e, 0, 32, 0x40000000⟩
/-- SPLL_HOP_BAND (R227, 06_sample_clocks.md). -/
def SPLL_HOP_BAND.reg (e : Nat) : Loc := ⟨0x110044 + 0x8 * e, 0, 32, 0x0⟩
def SPLL_HOP_BAND.learned (e : Nat) : Loc := ⟨0x110044 + 0x8 * e, 7, 1, 0x0⟩
def SPLL_HOP_BAND.band (e : Nat) : Loc := ⟨0x110044 + 0x8 * e, 0, 6, 0x0⟩
/-- CLKOUT_CTL (R227, 06_sample_clocks.md). -/
def CLKOUT_CTL.reg (k : Nat) : Loc := ⟨0x110100 + 0x8 * k, 0, 32, 0x40000008⟩
def CLKOUT_CTL.en (k : Nat) : Loc := ⟨0x110100 + 0x8 * k, 31, 1, 0x40000008⟩
def CLKOUT_CTL.squelch (k : Nat) : Loc := ⟨0x110100 + 0x8 * k, 30, 1, 0x40000008⟩
def CLKOUT_CTL.src (k : Nat) : Loc := ⟨0x110100 + 0x8 * k, 28, 2, 0x40000008⟩
def CLKOUT_CTL.div (k : Nat) : Loc := ⟨0x110100 + 0x8 * k, 0, 12, 0x40000008⟩
/-- CLKOUT_DLY (R227, 06_sample_clocks.md). -/
def CLKOUT_DLY.reg (k : Nat) : Loc := ⟨0x110104 + 0x8 * k, 0, 32, 0x0⟩
def CLKOUT_DLY.coarse (k : Nat) : Loc := ⟨0x110104 + 0x8 * k, 8, 12, 0x0⟩
def CLKOUT_DLY.fine (k : Nat) : Loc := ⟨0x110104 + 0x8 * k, 0, 8, 0x0⟩
/-- REF_CTL (R228, 06_sample_clocks.md). -/
def REF_CTL.reg : Loc := ⟨0x118000, 0, 32, 0x0⟩
def REF_CTL.freq : Loc := ⟨0x118000, 0, 2, 0x0⟩
/-- REF_STATUS (R228, 06_sample_clocks.md). -/
def REF_STATUS.reg : Loc := ⟨0x118004, 0, 32, 0x0⟩
def REF_STATUS.detected : Loc := ⟨0x118004, 2, 2, 0x0⟩
def REF_STATUS.lost : Loc := ⟨0x118004, 1, 1, 0x0⟩
def REF_STATUS.present : Loc := ⟨0x118004, 0, 1, 0x0⟩
/-- UPLL_STATUS (R228, 06_sample_clocks.md). -/
def UPLL_STATUS.reg : Loc := ⟨0x118010, 0, 32, 0x0⟩
def UPLL_STATUS.holdovers : Loc := ⟨0x118010, 16, 16, 0x0⟩
def UPLL_STATUS.slewing : Loc := ⟨0x118010, 2, 1, 0x0⟩
def UPLL_STATUS.holdover : Loc := ⟨0x118010, 1, 1, 0x0⟩
def UPLL_STATUS.locked : Loc := ⟨0x118010, 0, 1, 0x0⟩
/-- UPLL_CTL (R228, 06_sample_clocks.md). -/
def UPLL_CTL.reg : Loc := ⟨0x118014, 0, 32, 0x1⟩
def UPLL_CTL.step_on_pps : Loc := ⟨0x118014, 0, 1, 0x1⟩
/-- UPLL_STEP (R228, 06_sample_clocks.md). -/
def UPLL_STEP.reg : Loc := ⟨0x118018, 0, 64, 0x0⟩
/-- UPLL_STEP_AT (R228, 06_sample_clocks.md). -/
def UPLL_STEP_AT.reg : Loc := ⟨0x118020, 0, 64, 0x0⟩
/-- PPS_CTL (R228, 06_sample_clocks.md). -/
def PPS_CTL.reg : Loc := ⟨0x118030, 0, 32, 0x64⟩
def PPS_CTL.window_ns : Loc := ⟨0x118030, 0, 16, 0x64⟩
/-- PPS_STATUS (R228, 06_sample_clocks.md). -/
def PPS_STATUS.reg : Loc := ⟨0x118034, 0, 32, 0x0⟩
def PPS_STATUS.off : Loc := ⟨0x118034, 16, 16, 0x0⟩
def PPS_STATUS.missed : Loc := ⟨0x118034, 0, 16, 0x0⟩
/-- SYNC_CTL (R228, 06_sample_clocks.md). -/
def SYNC_CTL.reg : Loc := ⟨0x118040, 0, 32, 0x2⟩
def SYNC_CTL.out_mode : Loc := ⟨0x118040, 4, 2, 0x2⟩
def SYNC_CTL.issue : Loc := ⟨0x118040, 3, 1, 0x2⟩
def SYNC_CTL.slice : Loc := ⟨0x118040, 2, 1, 0x2⟩
def SYNC_CTL.clkout : Loc := ⟨0x118040, 1, 1, 0x2⟩
def SYNC_CTL.arm : Loc := ⟨0x118040, 0, 1, 0x2⟩
/-- SYNC_STATUS (R228, 06_sample_clocks.md). -/
def SYNC_STATUS.reg : Loc := ⟨0x118044, 0, 32, 0x0⟩
def SYNC_STATUS.slice_stepped : Loc := ⟨0x118044, 1, 1, 0x0⟩
def SYNC_STATUS.armed : Loc := ⟨0x118044, 0, 1, 0x0⟩
/-- SYNC_TICK (R228, 06_sample_clocks.md). -/
def SYNC_TICK.reg : Loc := ⟨0x118048, 0, 64, 0x0⟩
/-- DDC_CTL (R258, 07_zoom_resampling.md). -/
def DDC_CTL.reg (p : Nat) : Loc := ⟨0x120000 + 0x8000 * p, 0, 32, 0x0⟩
def DDC_CTL.iq_float (p : Nat) : Loc := ⟨0x120000 + 0x8000 * p, 9, 1, 0x0⟩
def DDC_CTL.phase_reset (p : Nat) : Loc := ⟨0x120000 + 0x8000 * p, 8, 1, 0x0⟩
def DDC_CTL.headroom (p : Nat) : Loc := ⟨0x120000 + 0x8000 * p, 0, 2, 0x0⟩
/-- DDC_COMMIT (R258, 07_zoom_resampling.md). -/
def DDC_COMMIT.reg (p : Nat) : Loc := ⟨0x120004 + 0x8000 * p, 0, 32, 0x0⟩
def DDC_COMMIT.commit (p : Nat) : Loc := ⟨0x120004 + 0x8000 * p, 0, 1, 0x0⟩
/-- DDC_FREQ (R258, 07_zoom_resampling.md). -/
def DDC_FREQ.reg (p : Nat) : Loc := ⟨0x120008 + 0x8000 * p, 0, 64, 0x400000000000⟩
def DDC_FREQ.word (p : Nat) : Loc := ⟨0x120008 + 0x8000 * p, 0, 48, 0x400000000000⟩
/-- DDC_PHASE (R258, 07_zoom_resampling.md). -/
def DDC_PHASE.reg (p : Nat) : Loc := ⟨0x120010 + 0x8000 * p, 0, 32, 0x0⟩
/-- DDC_STATUS (R258, 07_zoom_resampling.md). -/
def DDC_STATUS.reg (p : Nat) : Loc := ⟨0x120014 + 0x8000 * p, 0, 32, 0x0⟩
def DDC_STATUS.commit_refused (p : Nat) : Loc := ⟨0x120014 + 0x8000 * p, 3, 1, 0x0⟩
def DDC_STATUS.wide (p : Nat) : Loc := ⟨0x120014 + 0x8000 * p, 2, 1, 0x0⟩
def DDC_STATUS.conj (p : Nat) : Loc := ⟨0x120014 + 0x8000 * p, 1, 1, 0x0⟩
def DDC_STATUS.commit_pending (p : Nat) : Loc := ⟨0x120014 + 0x8000 * p, 0, 1, 0x0⟩
/-- DDC_COMMIT_INDEX (R258, 07_zoom_resampling.md). -/
def DDC_COMMIT_INDEX.reg (p : Nat) : Loc := ⟨0x120018 + 0x8000 * p, 0, 64, 0x0⟩
/-- DDC_TAINT (R258, 07_zoom_resampling.md). -/
def DDC_TAINT.reg (p : Nat) : Loc := ⟨0x120020 + 0x8000 * p, 0, 32, 0xf⟩
/-- DDC_SAT (R258, 07_zoom_resampling.md). -/
def DDC_SAT.reg (p : Nat) : Loc := ⟨0x120024 + 0x8000 * p, 0, 32, 0x0⟩
/-- ZM_CTL (R258, 07_zoom_resampling.md). -/
def ZM_CTL.reg (p w : Nat) : Loc := ⟨0x121000 + 0x8000 * p + 0x100 * w, 0, 32, 0x0⟩
def ZM_CTL.gain (p w : Nat) : Loc := ⟨0x121000 + 0x8000 * p + 0x100 * w, 27, 3, 0x0⟩
def ZM_CTL.iq_float (p w : Nat) : Loc := ⟨0x121000 + 0x8000 * p + 0x100 * w, 26, 1, 0x0⟩
def ZM_CTL.phase_reset (p w : Nat) : Loc := ⟨0x121000 + 0x8000 * p + 0x100 * w, 25, 1, 0x0⟩
def ZM_CTL.k (p w : Nat) : Loc := ⟨0x121000 + 0x8000 * p + 0x100 * w, 16, 5, 0x0⟩
def ZM_CTL.rs_bypass (p w : Nat) : Loc := ⟨0x121000 + 0x8000 * p + 0x100 * w, 8, 1, 0x0⟩
def ZM_CTL.parent (p w : Nat) : Loc := ⟨0x121000 + 0x8000 * p + 0x100 * w, 4, 3, 0x0⟩
def ZM_CTL.level (p w : Nat) : Loc := ⟨0x121000 + 0x8000 * p + 0x100 * w, 0, 2, 0x0⟩
/-- ZM_FREQ (R258, 07_zoom_resampling.md). -/
def ZM_FREQ.reg (p w : Nat) : Loc := ⟨0x121008 + 0x8000 * p + 0x100 * w, 0, 64, 0x0⟩
def ZM_FREQ.word (p w : Nat) : Loc := ⟨0x121008 + 0x8000 * p + 0x100 * w, 0, 48, 0x0⟩
/-- ZM_PHASE (R258, 07_zoom_resampling.md). -/
def ZM_PHASE.reg (p w : Nat) : Loc := ⟨0x121010 + 0x8000 * p + 0x100 * w, 0, 32, 0x0⟩
/-- ZM_RATIO (R258, 07_zoom_resampling.md). -/
def ZM_RATIO.reg (p w : Nat) : Loc := ⟨0x121018 + 0x8000 * p + 0x100 * w, 0, 64, 0x400000000000⟩
def ZM_RATIO.ratio (p w : Nat) : Loc := ⟨0x121018 + 0x8000 * p + 0x100 * w, 0, 48, 0x400000000000⟩
/-- ZM_SWAP (R258, 07_zoom_resampling.md). -/
def ZM_SWAP.reg (p w : Nat) : Loc := ⟨0x121020 + 0x8000 * p + 0x100 * w, 0, 32, 0x0⟩
def ZM_SWAP.go (p w : Nat) : Loc := ⟨0x121020 + 0x8000 * p + 0x100 * w, 31, 1, 0x0⟩
def ZM_SWAP.target (p w : Nat) : Loc := ⟨0x121020 + 0x8000 * p + 0x100 * w, 30, 1, 0x0⟩
def ZM_SWAP.fade_m1 (p w : Nat) : Loc := ⟨0x121020 + 0x8000 * p + 0x100 * w, 0, 16, 0x0⟩
/-- ZM_BANK (R258, 07_zoom_resampling.md). -/
def ZM_BANK.reg (p w : Nat) : Loc := ⟨0x121024 + 0x8000 * p + 0x100 * w, 0, 32, 0x0⟩
def ZM_BANK.ignored (p w : Nat) : Loc := ⟨0x121024 + 0x8000 * p + 0x100 * w, 16, 16, 0x0⟩
def ZM_BANK.dropped (p w : Nat) : Loc := ⟨0x121024 + 0x8000 * p + 0x100 * w, 8, 8, 0x0⟩
def ZM_BANK.pending_target (p w : Nat) : Loc := ⟨0x121024 + 0x8000 * p + 0x100 * w, 4, 1, 0x0⟩
def ZM_BANK.pending (p w : Nat) : Loc := ⟨0x121024 + 0x8000 * p + 0x100 * w, 3, 1, 0x0⟩
def ZM_BANK.fading (p w : Nat) : Loc := ⟨0x121024 + 0x8000 * p + 0x100 * w, 1, 1, 0x0⟩
def ZM_BANK.active (p w : Nat) : Loc := ⟨0x121024 + 0x8000 * p + 0x100 * w, 0, 1, 0x0⟩
/-- ZM_COEF_ADDR (R258, 07_zoom_resampling.md). -/
def ZM_COEF_ADDR.reg (p w : Nat) : Loc := ⟨0x121028 + 0x8000 * p + 0x100 * w, 0, 32, 0x0⟩
def ZM_COEF_ADDR.bank (p w : Nat) : Loc := ⟨0x121028 + 0x8000 * p + 0x100 * w, 16, 1, 0x0⟩
def ZM_COEF_ADDR.index (p w : Nat) : Loc := ⟨0x121028 + 0x8000 * p + 0x100 * w, 0, 15, 0x0⟩
/-- ZM_COEF_DATA (R258, 07_zoom_resampling.md). -/
def ZM_COEF_DATA.reg (p w : Nat) : Loc := ⟨0x12102c + 0x8000 * p + 0x100 * w, 0, 32, 0x0⟩
def ZM_COEF_DATA.coef (p w : Nat) : Loc := ⟨0x12102c + 0x8000 * p + 0x100 * w, 0, 18, 0x0⟩
/-- ZM_SPAN (R258, 07_zoom_resampling.md). -/
def ZM_SPAN.reg (p w : Nat) : Loc := ⟨0x121030 + 0x8000 * p + 0x100 * w, 0, 32, 0x0⟩
/-- ZM_GD (R258, 07_zoom_resampling.md). -/
def ZM_GD.reg (p w : Nat) : Loc := ⟨0x121034 + 0x8000 * p + 0x100 * w, 0, 32, 0x0⟩
/-- ZM_RATE (R258, 07_zoom_resampling.md). -/
def ZM_RATE.reg (p w : Nat) : Loc := ⟨0x121038 + 0x8000 * p + 0x100 * w, 0, 64, 0x0⟩
/-- ZM_SAT (R258, 07_zoom_resampling.md). -/
def ZM_SAT.reg (p w : Nat) : Loc := ⟨0x121040 + 0x8000 * p + 0x100 * w, 0, 32, 0x0⟩
/-- ZM_STATUS (R258, 07_zoom_resampling.md). -/
def ZM_STATUS.reg (p w : Nat) : Loc := ⟨0x121044 + 0x8000 * p + 0x100 * w, 0, 32, 0x0⟩
def ZM_STATUS.refused (p w : Nat) : Loc := ⟨0x121044 + 0x8000 * p + 0x100 * w, 2, 1, 0x0⟩
def ZM_STATUS.out_of_band (p w : Nat) : Loc := ⟨0x121044 + 0x8000 * p + 0x100 * w, 1, 1, 0x0⟩
def ZM_STATUS.running (p w : Nat) : Loc := ⟨0x121044 + 0x8000 * p + 0x100 * w, 0, 1, 0x0⟩
/-- ZM_FADE_START (R258, 07_zoom_resampling.md). -/
def ZM_FADE_START.reg (p w : Nat) : Loc := ⟨0x121048 + 0x8000 * p + 0x100 * w, 0, 64, 0x0⟩
/-- REC_CTL (R286, 08_transforms.md). -/
def REC_CTL.reg (p : Nat) : Loc := ⟨0x147000 + 0x10000 * p, 0, 32, 0x0⟩
def REC_CTL.stream (p : Nat) : Loc := ⟨0x147000 + 0x10000 * p, 16, 8, 0x0⟩
def REC_CTL.form (p : Nat) : Loc := ⟨0x147000 + 0x10000 * p, 0, 1, 0x0⟩
/-- TRN_CTL (R286, 08_transforms.md). -/
def TRN_CTL.reg (p : Nat) : Loc := ⟨0x147004 + 0x10000 * p, 0, 32, 0xa⟩
def TRN_CTL.iq_stream (p : Nat) : Loc := ⟨0x147004 + 0x10000 * p, 24, 8, 0xa⟩
def TRN_CTL.env_stream (p : Nat) : Loc := ⟨0x147004 + 0x10000 * p, 16, 8, 0xa⟩
def TRN_CTL.env_ok (p : Nat) : Loc := ⟨0x147004 + 0x10000 * p, 8, 1, 0xa⟩
def TRN_CTL.env_en (p : Nat) : Loc := ⟨0x147004 + 0x10000 * p, 5, 1, 0xa⟩
def TRN_CTL.env_log2 (p : Nat) : Loc := ⟨0x147004 + 0x10000 * p, 0, 5, 0xa⟩
/-- TRN_STATUS (R286, 08_transforms.md). -/
def TRN_STATUS.reg (p : Nat) : Loc := ⟨0x147008 + 0x10000 * p, 0, 32, 0x0⟩
def TRN_STATUS.refused (p : Nat) : Loc := ⟨0x147008 + 0x10000 * p, 1, 1, 0x0⟩
def TRN_STATUS.running (p : Nat) : Loc := ⟨0x147008 + 0x10000 * p, 0, 1, 0x0⟩
/-- REC_COUNT (R286, 08_transforms.md). -/
def REC_COUNT.reg (p : Nat) : Loc := ⟨0x147010 + 0x10000 * p, 0, 64, 0x0⟩
/-- TRN_ENV_COUNT (R286, 08_transforms.md). -/
def TRN_ENV_COUNT.reg (p : Nat) : Loc := ⟨0x147018 + 0x10000 * p, 0, 64, 0x0⟩
/-- XF_CTL (R295, 08_transforms.md). -/
def XF_CTL.reg (p s : Nat) : Loc := ⟨0x140000 + 0x10000 * p + 0x100 * s, 0, 32, 0x2020c⟩
def XF_CTL.source (p s : Nat) : Loc := ⟨0x140000 + 0x10000 * p + 0x100 * s, 24, 4, 0x2020c⟩
def XF_CTL.out_float (p s : Nat) : Loc := ⟨0x140000 + 0x10000 * p + 0x100 * s, 20, 1, 0x2020c⟩
def XF_CTL.window (p s : Nat) : Loc := ⟨0x140000 + 0x10000 * p + 0x100 * s, 16, 3, 0x2020c⟩
def XF_CTL.h (p s : Nat) : Loc := ⟨0x140000 + 0x10000 * p + 0x100 * s, 8, 3, 0x2020c⟩
def XF_CTL.n_log2 (p s : Nat) : Loc := ⟨0x140000 + 0x10000 * p + 0x100 * s, 0, 5, 0x2020c⟩
/-- XF_LIMIT (R295, 08_transforms.md). -/
def XF_LIMIT.reg (p s : Nat) : Loc := ⟨0x140004 + 0x10000 * p + 0x100 * s, 0, 32, 0x0⟩
def XF_LIMIT.stream (p s : Nat) : Loc := ⟨0x140004 + 0x10000 * p + 0x100 * s, 16, 8, 0x0⟩
def XF_LIMIT.h_max (p s : Nat) : Loc := ⟨0x140004 + 0x10000 * p + 0x100 * s, 8, 3, 0x0⟩
def XF_LIMIT.n_max_log2 (p s : Nat) : Loc := ⟨0x140004 + 0x10000 * p + 0x100 * s, 0, 5, 0x0⟩
/-- XF_INFO (R295, 08_transforms.md). -/
def XF_INFO.reg (p s : Nat) : Loc := ⟨0x140008 + 0x10000 * p + 0x100 * s, 0, 32, 0x0⟩
def XF_INFO.cg (p s : Nat) : Loc := ⟨0x140008 + 0x10000 * p + 0x100 * s, 16, 16, 0x0⟩
def XF_INFO.enbw (p s : Nat) : Loc := ⟨0x140008 + 0x10000 * p + 0x100 * s, 0, 16, 0x0⟩
/-- XF_STATUS (R295, 08_transforms.md). -/
def XF_STATUS.reg (p s : Nat) : Loc := ⟨0x14000c + 0x10000 * p + 0x100 * s, 0, 32, 0x0⟩
def XF_STATUS.refused (p s : Nat) : Loc := ⟨0x14000c + 0x10000 * p + 0x100 * s, 1, 1, 0x0⟩
def XF_STATUS.running (p s : Nat) : Loc := ⟨0x14000c + 0x10000 * p + 0x100 * s, 0, 1, 0x0⟩
/-- XF_COUNT (R295, 08_transforms.md). -/
def XF_COUNT.reg (p s : Nat) : Loc := ⟨0x140010 + 0x10000 * p + 0x100 * s, 0, 64, 0x0⟩
/-- DET_CTL (R295, 08_transforms.md). -/
def DET_CTL.reg (p s : Nat) : Loc := ⟨0x141000 + 0x10000 * p + 0x100 * s, 0, 32, 0x1d03e7⟩
def DET_CTL.hold_reset (p s : Nat) : Loc := ⟨0x141000 + 0x10000 * p + 0x100 * s, 31, 1, 0x1d03e7⟩
def DET_CTL.det_en (p s : Nat) : Loc := ⟨0x141000 + 0x10000 * p + 0x100 * s, 16, 5, 0x1d03e7⟩
def DET_CTL.k_m1 (p s : Nat) : Loc := ⟨0x141000 + 0x10000 * p + 0x100 * s, 0, 16, 0x1d03e7⟩
/-- DET_STATUS (R295, 08_transforms.md). -/
def DET_STATUS.reg (p s : Nat) : Loc := ⟨0x141004 + 0x10000 * p + 0x100 * s, 0, 32, 0x0⟩
def DET_STATUS.refused (p s : Nat) : Loc := ⟨0x141004 + 0x10000 * p + 0x100 * s, 1, 1, 0x0⟩
def DET_STATUS.running (p s : Nat) : Loc := ⟨0x141004 + 0x10000 * p + 0x100 * s, 0, 1, 0x0⟩
/-- DET_INTERVALS (R295, 08_transforms.md). -/
def DET_INTERVALS.reg (p s : Nat) : Loc := ⟨0x141008 + 0x10000 * p + 0x100 * s, 0, 64, 0x0⟩
/-- DET_BAND (R295, 08_transforms.md). -/
def DET_BAND.reg (p b : Nat) : Loc := ⟨0x142000 + 0x10000 * p + 0x8 * b, 0, 32, 0x0⟩
def DET_BAND.hi (p b : Nat) : Loc := ⟨0x142000 + 0x10000 * p + 0x8 * b, 16, 16, 0x0⟩
def DET_BAND.lo (p b : Nat) : Loc := ⟨0x142000 + 0x10000 * p + 0x8 * b, 0, 16, 0x0⟩
/-- DET_BAND_EN (R295, 08_transforms.md). -/
def DET_BAND_EN.reg (p b : Nat) : Loc := ⟨0x142004 + 0x10000 * p + 0x8 * b, 0, 32, 0x0⟩
def DET_BAND_EN.en (p b : Nat) : Loc := ⟨0x142004 + 0x10000 * p + 0x8 * b, 0, 1, 0x0⟩
/-- CHZ_CTL (R295, 08_transforms.md). -/
def CHZ_CTL.reg (p : Nat) : Loc := ⟨0x144000 + 0x10000 * p, 0, 32, 0x30⟩
def CHZ_CTL.excl (p : Nat) : Loc := ⟨0x144000 + 0x10000 * p, 16, 4, 0x30⟩
def CHZ_CTL.shift (p : Nat) : Loc := ⟨0x144000 + 0x10000 * p, 12, 4, 0x30⟩
def CHZ_CTL.os (p : Nat) : Loc := ⟨0x144000 + 0x10000 * p, 8, 1, 0x30⟩
def CHZ_CTL.taps (p : Nat) : Loc := ⟨0x144000 + 0x10000 * p, 5, 2, 0x30⟩
def CHZ_CTL.m_log2 (p : Nat) : Loc := ⟨0x144000 + 0x10000 * p, 0, 5, 0x30⟩
/-- CHZ_LIMIT (R295, 08_transforms.md). -/
def CHZ_LIMIT.reg (p : Nat) : Loc := ⟨0x144004 + 0x10000 * p, 0, 32, 0x0⟩
def CHZ_LIMIT.stream (p : Nat) : Loc := ⟨0x144004 + 0x10000 * p, 16, 8, 0x0⟩
def CHZ_LIMIT.os_ok (p : Nat) : Loc := ⟨0x144004 + 0x10000 * p, 8, 1, 0x0⟩
def CHZ_LIMIT.t_max (p : Nat) : Loc := ⟨0x144004 + 0x10000 * p, 5, 2, 0x0⟩
def CHZ_LIMIT.m_max_log2 (p : Nat) : Loc := ⟨0x144004 + 0x10000 * p, 0, 5, 0x0⟩
/-- CHZ_INT (R295, 08_transforms.md). -/
def CHZ_INT.reg (p : Nat) : Loc := ⟨0x144008 + 0x10000 * p, 0, 64, 0x2625a⟩
def CHZ_INT.count (p : Nat) : Loc := ⟨0x144008 + 0x10000 * p, 0, 40, 0x2625a⟩
/-- CHZ_SAT (R295, 08_transforms.md). -/
def CHZ_SAT.reg (p : Nat) : Loc := ⟨0x144010 + 0x10000 * p, 0, 32, 0x0⟩
/-- CHZ_OVF (R295, 08_transforms.md). -/
def CHZ_OVF.reg (p : Nat) : Loc := ⟨0x144014 + 0x10000 * p, 0, 32, 0x0⟩
/-- CHZ_STATUS (R295, 08_transforms.md). -/
def CHZ_STATUS.reg (p : Nat) : Loc := ⟨0x144018 + 0x10000 * p, 0, 32, 0x0⟩
def CHZ_STATUS.refused (p : Nat) : Loc := ⟨0x144018 + 0x10000 * p, 1, 1, 0x0⟩
def CHZ_STATUS.running (p : Nat) : Loc := ⟨0x144018 + 0x10000 * p, 0, 1, 0x0⟩
/-- CHZ_LAST (R295, 08_transforms.md). -/
def CHZ_LAST.reg (p : Nat) : Loc := ⟨0x144020 + 0x10000 * p, 0, 64, 0x0⟩
/-- SK_CTL (R295, 08_transforms.md). -/
def SK_CTL.reg (p : Nat) : Loc := ⟨0x146000 + 0x10000 * p, 0, 32, 0x108⟩
def SK_CTL.src (p : Nat) : Loc := ⟨0x146000 + 0x10000 * p, 9, 1, 0x108⟩
def SK_CTL.en (p : Nat) : Loc := ⟨0x146000 + 0x10000 * p, 8, 1, 0x108⟩
def SK_CTL.m_log2 (p : Nat) : Loc := ⟨0x146000 + 0x10000 * p, 0, 5, 0x108⟩
/-- SK_THR (R295, 08_transforms.md). -/
def SK_THR.reg (p : Nat) : Loc := ⟨0x146004 + 0x10000 * p, 0, 32, 0x16660b33⟩
def SK_THR.upper (p : Nat) : Loc := ⟨0x146004 + 0x10000 * p, 16, 16, 0x16660b33⟩
def SK_THR.lower (p : Nat) : Loc := ⟨0x146004 + 0x10000 * p, 0, 16, 0x16660b33⟩
/-- SK_STATUS (R295, 08_transforms.md). -/
def SK_STATUS.reg (p : Nat) : Loc := ⟨0x146008 + 0x10000 * p, 0, 32, 0x0⟩
def SK_STATUS.flagged (p : Nat) : Loc := ⟨0x146008 + 0x10000 * p, 16, 16, 0x0⟩
def SK_STATUS.refused (p : Nat) : Loc := ⟨0x146008 + 0x10000 * p, 1, 1, 0x0⟩
def SK_STATUS.running (p : Nat) : Loc := ⟨0x146008 + 0x10000 * p, 0, 1, 0x0⟩
/-- SK_BLOCKS (R295, 08_transforms.md). -/
def SK_BLOCKS.reg (p : Nat) : Loc := ⟨0x14600c + 0x10000 * p, 0, 32, 0x0⟩
/-- KAL_CTL (R322, 09_density_masks.md). -/
def KAL_CTL.reg (k : Nat) : Loc := ⟨0x250000 + 0x100 * k, 0, 32, 0x0 + 0x100 * k⟩
def KAL_CTL.clear (k : Nat) : Loc := ⟨0x250000 + 0x100 * k, 31, 1, 0x0 + 0x100 * k⟩
def KAL_CTL.freeze (k : Nat) : Loc := ⟨0x250000 + 0x100 * k, 30, 1, 0x0 + 0x100 * k⟩
def KAL_CTL.excl (k : Nat) : Loc := ⟨0x250000 + 0x100 * k, 24, 4, 0x0 + 0x100 * k⟩
def KAL_CTL.gang (k : Nat) : Loc := ⟨0x250000 + 0x100 * k, 23, 1, 0x0 + 0x100 * k⟩
def KAL_CTL.combine (k : Nat) : Loc := ⟨0x250000 + 0x100 * k, 20, 1, 0x0 + 0x100 * k⟩
def KAL_CTL.bin_log2 (k : Nat) : Loc := ⟨0x250000 + 0x100 * k, 16, 3, 0x0 + 0x100 * k⟩
def KAL_CTL.inst (k : Nat) : Loc := ⟨0x250000 + 0x100 * k, 10, 3, 0x0 + 0x100 * k⟩
def KAL_CTL.path (k : Nat) : Loc := ⟨0x250000 + 0x100 * k, 8, 2, 0x0 + 0x100 * k⟩
def KAL_CTL.en (k : Nat) : Loc := ⟨0x250000 + 0x100 * k, 0, 1, 0x0 + 0x100 * k⟩
/-- KAL_COL (R322, 09_density_masks.md). -/
def KAL_COL.reg (k : Nat) : Loc := ⟨0x250004 + 0x100 * k, 0, 32, 0x0⟩
def KAL_COL.b0 (k : Nat) : Loc := ⟨0x250004 + 0x100 * k, 0, 16, 0x0⟩
/-- KAL_AMP (R322, 09_density_masks.md). -/
def KAL_AMP.reg (k : Nat) : Loc := ⟨0x250008 + 0x100 * k, 0, 32, 0x1f4800⟩
def KAL_AMP.below (k : Nat) : Loc := ⟨0x250008 + 0x100 * k, 31, 1, 0x1f4800⟩
def KAL_AMP.step_m1 (k : Nat) : Loc := ⟨0x250008 + 0x100 * k, 16, 10, 0x1f4800⟩
def KAL_AMP.v_bottom (k : Nat) : Loc := ⟨0x250008 + 0x100 * k, 0, 16, 0x1f4800⟩
/-- KAL_DECAY (R322, 09_density_masks.md). -/
def KAL_DECAY.reg (k : Nat) : Loc := ⟨0x25000c + 0x100 * k, 0, 32, 0x4000a⟩
def KAL_DECAY.mode (k : Nat) : Loc := ⟨0x25000c + 0x100 * k, 28, 2, 0x4000a⟩
def KAL_DECAY.shift (k : Nat) : Loc := ⟨0x25000c + 0x100 * k, 16, 5, 0x4000a⟩
def KAL_DECAY.period_ms (k : Nat) : Loc := ⟨0x25000c + 0x100 * k, 0, 16, 0x4000a⟩
/-- KAL_STATUS (R322, 09_density_masks.md). -/
def KAL_STATUS.reg (k : Nat) : Loc := ⟨0x250010 + 0x100 * k, 0, 32, 0x1000000⟩
def KAL_STATUS.decim (k : Nat) : Loc := ⟨0x250010 + 0x100 * k, 24, 8, 0x1000000⟩
def KAL_STATUS.gang (k : Nat) : Loc := ⟨0x250010 + 0x100 * k, 6, 1, 0x1000000⟩
def KAL_STATUS.ready (k : Nat) : Loc := ⟨0x250010 + 0x100 * k, 5, 1, 0x1000000⟩
def KAL_STATUS.clearing (k : Nat) : Loc := ⟨0x250010 + 0x100 * k, 4, 1, 0x1000000⟩
def KAL_STATUS.sat (k : Nat) : Loc := ⟨0x250010 + 0x100 * k, 3, 1, 0x1000000⟩
def KAL_STATUS.refused (k : Nat) : Loc := ⟨0x250010 + 0x100 * k, 2, 1, 0x1000000⟩
def KAL_STATUS.frozen (k : Nat) : Loc := ⟨0x250010 + 0x100 * k, 1, 1, 0x1000000⟩
def KAL_STATUS.running (k : Nat) : Loc := ⟨0x250010 + 0x100 * k, 0, 1, 0x1000000⟩
/-- KAL_SPECTRA (R322, 09_density_masks.md). -/
def KAL_SPECTRA.reg (k : Nat) : Loc := ⟨0x250018 + 0x100 * k, 0, 64, 0x0⟩
/-- KAL_EXCLUDED (R322, 09_density_masks.md). -/
def KAL_EXCLUDED.reg (k : Nat) : Loc := ⟨0x250020 + 0x100 * k, 0, 32, 0x0⟩
/-- KAL_SAT (R322, 09_density_masks.md). -/
def KAL_SAT.reg (k : Nat) : Loc := ⟨0x250024 + 0x100 * k, 0, 32, 0x0⟩
/-- KAL_ABOVE (R322, 09_density_masks.md). -/
def KAL_ABOVE.reg (k : Nat) : Loc := ⟨0x250028 + 0x100 * k, 0, 32, 0x0⟩
/-- KAL_SWEEPS (R322, 09_density_masks.md). -/
def KAL_SWEEPS.reg (k : Nat) : Loc := ⟨0x25002c + 0x100 * k, 0, 32, 0x0⟩
def KAL_SWEEPS.skipped (k : Nat) : Loc := ⟨0x25002c + 0x100 * k, 16, 16, 0x0⟩
def KAL_SWEEPS.done (k : Nat) : Loc := ⟨0x25002c + 0x100 * k, 0, 16, 0x0⟩
/-- KAL_LINE_CTL (R322, 09_density_masks.md). -/
def KAL_LINE_CTL.reg (k : Nat) : Loc := ⟨0x250030 + 0x100 * k, 0, 32, 0x270f⟩
def KAL_LINE_CTL.en (k : Nat) : Loc := ⟨0x250030 + 0x100 * k, 31, 1, 0x270f⟩
def KAL_LINE_CTL.reduce (k : Nat) : Loc := ⟨0x250030 + 0x100 * k, 30, 1, 0x270f⟩
def KAL_LINE_CTL.region (k : Nat) : Loc := ⟨0x250030 + 0x100 * k, 16, 6, 0x270f⟩
def KAL_LINE_CTL.l_m1 (k : Nat) : Loc := ⟨0x250030 + 0x100 * k, 0, 16, 0x270f⟩
/-- KAL_LINE_COUNT (R322, 09_density_masks.md). -/
def KAL_LINE_COUNT.reg (k : Nat) : Loc := ⟨0x250034 + 0x100 * k, 0, 32, 0x0⟩
/-- KAL_LINE_NEXT (R322, 09_density_masks.md). -/
def KAL_LINE_NEXT.reg (k : Nat) : Loc := ⟨0x250038 + 0x100 * k, 0, 64, 0x0⟩
/-- MSK_BIND (R323, 09_density_masks.md). -/
def MSK_BIND.reg (m : Nat) : Loc := ⟨0x251000 + 0x10 * m, 0, 32, 0xc0000⟩
def MSK_BIND.en (m : Nat) : Loc := ⟨0x251000 + 0x10 * m, 31, 1, 0xc0000⟩
def MSK_BIND.len_log2 (m : Nat) : Loc := ⟨0x251000 + 0x10 * m, 16, 5, 0xc0000⟩
def MSK_BIND.inst (m : Nat) : Loc := ⟨0x251000 + 0x10 * m, 8, 3, 0xc0000⟩
def MSK_BIND.path (m : Nat) : Loc := ⟨0x251000 + 0x10 * m, 0, 2, 0xc0000⟩
/-- MSK_BASE_A (R323, 09_density_masks.md). -/
def MSK_BASE_A.reg (m : Nat) : Loc := ⟨0x251004 + 0x10 * m, 0, 32, 0x0⟩
def MSK_BASE_A.base (m : Nat) : Loc := ⟨0x251004 + 0x10 * m, 0, 21, 0x0⟩
/-- MSK_BASE_B (R323, 09_density_masks.md). -/
def MSK_BASE_B.reg (m : Nat) : Loc := ⟨0x251008 + 0x10 * m, 0, 32, 0x0⟩
def MSK_BASE_B.base (m : Nat) : Loc := ⟨0x251008 + 0x10 * m, 0, 21, 0x0⟩
/-- MSK_STATE (R323, 09_density_masks.md). -/
def MSK_STATE.reg (m : Nat) : Loc := ⟨0x25100c + 0x10 * m, 0, 32, 0x0⟩
def MSK_STATE.swaps (m : Nat) : Loc := ⟨0x25100c + 0x10 * m, 16, 16, 0x0⟩
def MSK_STATE.dropped (m : Nat) : Loc := ⟨0x25100c + 0x10 * m, 8, 8, 0x0⟩
def MSK_STATE.refused (m : Nat) : Loc := ⟨0x25100c + 0x10 * m, 4, 1, 0x0⟩
def MSK_STATE.mismatch (m : Nat) : Loc := ⟨0x25100c + 0x10 * m, 3, 1, 0x0⟩
def MSK_STATE.pending_target (m : Nat) : Loc := ⟨0x25100c + 0x10 * m, 2, 1, 0x0⟩
def MSK_STATE.pending (m : Nat) : Loc := ⟨0x25100c + 0x10 * m, 1, 1, 0x0⟩
def MSK_STATE.active (m : Nat) : Loc := ⟨0x25100c + 0x10 * m, 0, 1, 0x0⟩
/-- MSK_SWAP (R323, 09_density_masks.md). -/
def MSK_SWAP.reg : Loc := ⟨0x251400, 0, 32, 0x0⟩
def MSK_SWAP.go : Loc := ⟨0x251400, 31, 1, 0x0⟩
def MSK_SWAP.target : Loc := ⟨0x251400, 30, 1, 0x0⟩
def MSK_SWAP.mask : Loc := ⟨0x251400, 0, 6, 0x0⟩
/-- MSK_SWAP_INDEX (R323, 09_density_masks.md). -/
def MSK_SWAP_INDEX.reg (m : Nat) : Loc := ⟨0x251800 + 0x8 * m, 0, 64, 0x0⟩
/-- MSK_IGNORED (R323, 09_density_masks.md). -/
def MSK_IGNORED.reg : Loc := ⟨0x251c00, 0, 32, 0x0⟩
/-- MSK_IGNORED_AT (R323, 09_density_masks.md). -/
def MSK_IGNORED_AT.reg : Loc := ⟨0x251c04, 0, 32, 0x0⟩
def MSK_IGNORED_AT.entry : Loc := ⟨0x251c04, 0, 21, 0x0⟩
/-- TRG_COND (R352, 10_triggers.md). -/
def TRG_COND.reg (c : Nat) : Loc := ⟨0x180000 + 0x40 * c, 0, 32, 0x0⟩
def TRG_COND.armed (c : Nat) : Loc := ⟨0x180000 + 0x40 * c, 31, 1, 0x0⟩
def TRG_COND.kind (c : Nat) : Loc := ⟨0x180000 + 0x40 * c, 24, 4, 0x0⟩
def TRG_COND.path (c : Nat) : Loc := ⟨0x180000 + 0x40 * c, 20, 2, 0x0⟩
def TRG_COND.retrig (c : Nat) : Loc := ⟨0x180000 + 0x40 * c, 16, 1, 0x0⟩
def TRG_COND.mode (c : Nat) : Loc := ⟨0x180000 + 0x40 * c, 8, 4, 0x0⟩
def TRG_COND.sel (c : Nat) : Loc := ⟨0x180000 + 0x40 * c, 0, 8, 0x0⟩
/-- TRG_PARAM (R352, 10_triggers.md). -/
def TRG_PARAM.reg (c : Nat) : Loc := ⟨0x180004 + 0x40 * c, 0, 32, 0xffff0000⟩
def TRG_PARAM.hi (c : Nat) : Loc := ⟨0x180004 + 0x40 * c, 16, 16, 0xffff0000⟩
def TRG_PARAM.lo (c : Nat) : Loc := ⟨0x180004 + 0x40 * c, 0, 16, 0xffff0000⟩
/-- TRG_WMIN (R352, 10_triggers.md). -/
def TRG_WMIN.reg (c : Nat) : Loc := ⟨0x180008 + 0x40 * c, 0, 32, 0x0⟩
/-- TRG_WMAX (R352, 10_triggers.md). -/
def TRG_WMAX.reg (c : Nat) : Loc := ⟨0x18000c + 0x40 * c, 0, 32, 0xffffffff⟩
/-- TRG_SEQ (R352, 10_triggers.md). -/
def TRG_SEQ.reg (c : Nat) : Loc := ⟨0x180010 + 0x40 * c, 0, 32, 0x0⟩
def TRG_SEQ.second (c : Nat) : Loc := ⟨0x180010 + 0x40 * c, 8, 6, 0x0⟩
def TRG_SEQ.first (c : Nat) : Loc := ⟨0x180010 + 0x40 * c, 0, 6, 0x0⟩
/-- TRG_HOLD (R352, 10_triggers.md). -/
def TRG_HOLD.reg (c : Nat) : Loc := ⟨0x180014 + 0x40 * c, 0, 32, 0x0⟩
/-- TRG_FIRED (R352, 10_triggers.md). -/
def TRG_FIRED.reg (c : Nat) : Loc := ⟨0x180018 + 0x40 * c, 0, 32, 0x0⟩
/-- TRG_MISSED (R352, 10_triggers.md). -/
def TRG_MISSED.reg (c : Nat) : Loc := ⟨0x18001c + 0x40 * c, 0, 32, 0x0⟩
/-- TRG_MISSED_AT (R352, 10_triggers.md). -/
def TRG_MISSED_AT.reg (c : Nat) : Loc := ⟨0x180020 + 0x40 * c, 0, 64, 0x0⟩
/-- TRG_SUPPRESSED (R352, 10_triggers.md). -/
def TRG_SUPPRESSED.reg (c : Nat) : Loc := ⟨0x180028 + 0x40 * c, 0, 32, 0x0⟩
/-- TRG_STATUS (R352, 10_triggers.md). -/
def TRG_STATUS.reg (c : Nat) : Loc := ⟨0x18002c + 0x40 * c, 0, 32, 0x0⟩
def TRG_STATUS.last_frac (c : Nat) : Loc := ⟨0x18002c + 0x40 * c, 24, 6, 0x0⟩
def TRG_STATUS.missed_phase (c : Nat) : Loc := ⟨0x18002c + 0x40 * c, 16, 6, 0x0⟩
def TRG_STATUS.refused (c : Nat) : Loc := ⟨0x18002c + 0x40 * c, 4, 1, 0x0⟩
def TRG_STATUS.inactive (c : Nat) : Loc := ⟨0x18002c + 0x40 * c, 3, 1, 0x0⟩
def TRG_STATUS.stuck (c : Nat) : Loc := ⟨0x18002c + 0x40 * c, 2, 1, 0x0⟩
def TRG_STATUS.holding (c : Nat) : Loc := ⟨0x18002c + 0x40 * c, 1, 1, 0x0⟩
def TRG_STATUS.raw (c : Nat) : Loc := ⟨0x18002c + 0x40 * c, 0, 1, 0x0⟩
/-- TRG_LAST (R352, 10_triggers.md). -/
def TRG_LAST.reg (c : Nat) : Loc := ⟨0x180030 + 0x40 * c, 0, 64, 0x0⟩
/-- TRG_RGN_CTL (R353, 10_triggers.md). -/
def TRG_RGN_CTL.reg (r : Nat) : Loc := ⟨0x184000 + 0x40 * r, 0, 32, 0x0⟩
def TRG_RGN_CTL.arm (r : Nat) : Loc := ⟨0x184000 + 0x40 * r, 31, 1, 0x0⟩
def TRG_RGN_CTL.disarm (r : Nat) : Loc := ⟨0x184000 + 0x40 * r, 30, 1, 0x0⟩
def TRG_RGN_CTL.state (r : Nat) : Loc := ⟨0x184000 + 0x40 * r, 28, 2, 0x0⟩
def TRG_RGN_CTL.rearm (r : Nat) : Loc := ⟨0x184000 + 0x40 * r, 25, 1, 0x0⟩
def TRG_RGN_CTL.hold_events (r : Nat) : Loc := ⟨0x184000 + 0x40 * r, 24, 1, 0x0⟩
def TRG_RGN_CTL.path (r : Nat) : Loc := ⟨0x184000 + 0x40 * r, 20, 2, 0x0⟩
def TRG_RGN_CTL.hold_cond (r : Nat) : Loc := ⟨0x184000 + 0x40 * r, 8, 6, 0x0⟩
def TRG_RGN_CTL.avg (r : Nat) : Loc := ⟨0x184000 + 0x40 * r, 0, 1, 0x0⟩
/-- TRG_RGN_HOLD (R353, 10_triggers.md). -/
def TRG_RGN_HOLD.reg (r : Nat) : Loc := ⟨0x184004 + 0x40 * r, 0, 32, 0x0⟩
/-- TRG_RGN_TRIG (R353, 10_triggers.md). -/
def TRG_RGN_TRIG.reg (r : Nat) : Loc := ⟨0x184008 + 0x40 * r, 0, 64, 0x0⟩
/-- TRG_RGN_ARM (R353, 10_triggers.md). -/
def TRG_RGN_ARM.reg (r : Nat) : Loc := ⟨0x184010 + 0x40 * r, 0, 64, 0x0⟩
/-- TRG_RGN_DISARM (R353, 10_triggers.md). -/
def TRG_RGN_DISARM.reg (r : Nat) : Loc := ⟨0x184018 + 0x40 * r, 0, 64, 0x0⟩
/-- TRG_RGN_COUNT (R353, 10_triggers.md). -/
def TRG_RGN_COUNT.reg (r : Nat) : Loc := ⟨0x184020 + 0x40 * r, 0, 32, 0x0⟩
/-- TRG_RGN_MISSED (R353, 10_triggers.md). -/
def TRG_RGN_MISSED.reg (r : Nat) : Loc := ⟨0x184024 + 0x40 * r, 0, 32, 0x0⟩
/-- TRG_RGN_MISSED_AT (R353, 10_triggers.md). -/
def TRG_RGN_MISSED_AT.reg (r : Nat) : Loc := ⟨0x184028 + 0x40 * r, 0, 64, 0x0⟩
/-- TRG_RGN_LAST (R353, 10_triggers.md). -/
def TRG_RGN_LAST.reg (r : Nat) : Loc := ⟨0x184030 + 0x40 * r, 0, 64, 0x0⟩
/-- TRG_IN_CTL (R354, 10_triggers.md). -/
def TRG_IN_CTL.reg (i : Nat) : Loc := ⟨0x188000 + 0x10 * i, 0, 32, 0x1⟩
def TRG_IN_CTL.en (i : Nat) : Loc := ⟨0x188000 + 0x10 * i, 31, 1, 0x1⟩
def TRG_IN_CTL.pol (i : Nat) : Loc := ⟨0x188000 + 0x10 * i, 30, 1, 0x1⟩
def TRG_IN_CTL.holdoff (i : Nat) : Loc := ⟨0x188000 + 0x10 * i, 0, 20, 0x1⟩
/-- TRG_IN_STUCK (R354, 10_triggers.md). -/
def TRG_IN_STUCK.reg (i : Nat) : Loc := ⟨0x188004 + 0x10 * i, 0, 32, 0xf4240⟩
def TRG_IN_STUCK.stuck_us (i : Nat) : Loc := ⟨0x188004 + 0x10 * i, 0, 24, 0xf4240⟩
/-- TRG_IN_SKEW (R354, 10_triggers.md). -/
def TRG_IN_SKEW.reg (i : Nat) : Loc := ⟨0x188008 + 0x10 * i, 0, 32, 0x0⟩
def TRG_IN_SKEW.skew (i : Nat) : Loc := ⟨0x188008 + 0x10 * i, 0, 16, 0x0⟩
/-- TRG_IN_STATUS (R354, 10_triggers.md). -/
def TRG_IN_STATUS.reg (i : Nat) : Loc := ⟨0x18800c + 0x10 * i, 0, 32, 0x0⟩
def TRG_IN_STATUS.crowded (i : Nat) : Loc := ⟨0x18800c + 0x10 * i, 16, 16, 0x0⟩
def TRG_IN_STATUS.stuck (i : Nat) : Loc := ⟨0x18800c + 0x10 * i, 2, 1, 0x0⟩
def TRG_IN_STATUS.level (i : Nat) : Loc := ⟨0x18800c + 0x10 * i, 1, 1, 0x0⟩
/-- TRG_OUT_CTL (R354, 10_triggers.md). -/
def TRG_OUT_CTL.reg (o : Nat) : Loc := ⟨0x188100 + 0x20 * o, 0, 32, 0x100⟩
def TRG_OUT_CTL.oe (o : Nat) : Loc := ⟨0x188100 + 0x20 * o, 31, 1, 0x100⟩
def TRG_OUT_CTL.pol (o : Nat) : Loc := ⟨0x188100 + 0x20 * o, 30, 1, 0x100⟩
def TRG_OUT_CTL.aligned (o : Nat) : Loc := ⟨0x188100 + 0x20 * o, 29, 1, 0x100⟩
def TRG_OUT_CTL.direct (o : Nat) : Loc := ⟨0x188100 + 0x20 * o, 24, 4, 0x100⟩
def TRG_OUT_CTL.width (o : Nat) : Loc := ⟨0x188100 + 0x20 * o, 0, 16, 0x100⟩
/-- TRG_OUT_MASK (R354, 10_triggers.md). -/
def TRG_OUT_MASK.reg (o : Nat) : Loc := ⟨0x188108 + 0x20 * o, 0, 64, 0x0⟩
/-- TRG_OUT_DLY (R354, 10_triggers.md). -/
def TRG_OUT_DLY.reg (o : Nat) : Loc := ⟨0x188110 + 0x20 * o, 0, 32, 0x1400⟩
/-- TRG_OUT_LATE (R354, 10_triggers.md). -/
def TRG_OUT_LATE.reg (o : Nat) : Loc := ⟨0x188114 + 0x20 * o, 0, 32, 0x0⟩
/-- TRG_AVG_CTL (R354, 10_triggers.md). -/
def TRG_AVG_CTL.reg (p : Nat) : Loc := ⟨0x188200 + 0x10 * p, 0, 32, 0x0⟩
def TRG_AVG_CTL.reset (p : Nat) : Loc := ⟨0x188200 + 0x10 * p, 31, 1, 0x0⟩
def TRG_AVG_CTL.a_m1 (p : Nat) : Loc := ⟨0x188200 + 0x10 * p, 0, 16, 0x0⟩
/-- TRG_AVG_LEN (R354, 10_triggers.md). -/
def TRG_AVG_LEN.reg (p : Nat) : Loc := ⟨0x188204 + 0x10 * p, 0, 32, 0x3ff⟩
def TRG_AVG_LEN.pre (p : Nat) : Loc := ⟨0x188204 + 0x10 * p, 16, 16, 0x3ff⟩
def TRG_AVG_LEN.len_m1 (p : Nat) : Loc := ⟨0x188204 + 0x10 * p, 0, 16, 0x3ff⟩
/-- TRG_AVG_STATUS (R354, 10_triggers.md). -/
def TRG_AVG_STATUS.reg (p : Nat) : Loc := ⟨0x188208 + 0x10 * p, 0, 32, 0x0⟩
def TRG_AVG_STATUS.added (p : Nat) : Loc := ⟨0x188208 + 0x10 * p, 16, 16, 0x0⟩
def TRG_AVG_STATUS.skipped (p : Nat) : Loc := ⟨0x188208 + 0x10 * p, 0, 16, 0x0⟩
/-- TRG_FORCE_LO (R354, 10_triggers.md). -/
def TRG_FORCE_LO.reg : Loc := ⟨0x188300, 0, 32, 0x0⟩
/-- TRG_FORCE_HI (R354, 10_triggers.md). -/
def TRG_FORCE_HI.reg : Loc := ⟨0x188304, 0, 32, 0x0⟩
/-- CAP_ALLOC (R379, 11_capture_memory.md). -/
def CAP_ALLOC.reg : Loc := ⟨0x1a0000, 0, 32, 0x0⟩
def CAP_ALLOC.op_ : Loc := ⟨0x1a0000, 30, 2, 0x0⟩
def CAP_ALLOC.region : Loc := ⟨0x1a0000, 0, 6, 0x0⟩
/-- CAP_ALLOC_STATUS (R379, 11_capture_memory.md). -/
def CAP_ALLOC_STATUS.reg : Loc := ⟨0x1a0004, 0, 32, 0x0⟩
def CAP_ALLOC_STATUS.region : Loc := ⟨0x1a0004, 8, 6, 0x0⟩
def CAP_ALLOC_STATUS.code : Loc := ⟨0x1a0004, 0, 3, 0x0⟩
/-- CAP_BAR4_WIN (R379, 11_capture_memory.md). -/
def CAP_BAR4_WIN.reg (cp : Nat) : Loc := ⟨0x1a0010 + 0x4000000 * cp, 0, 64, 0x0⟩
/-- CAP_BAR4_STATUS (R379, 11_capture_memory.md). -/
def CAP_BAR4_STATUS.reg (cp : Nat) : Loc := ⟨0x1a0018 + 0x4000000 * cp, 0, 32, 0x0⟩
def CAP_BAR4_STATUS.blocked (cp : Nat) : Loc := ⟨0x1a0018 + 0x4000000 * cp, 16, 16, 0x0⟩
def CAP_BAR4_STATUS.oob (cp : Nat) : Loc := ⟨0x1a0018 + 0x4000000 * cp, 0, 16, 0x0⟩
/-- CAP_REGION_BASE (R379, 11_capture_memory.md). -/
def CAP_REGION_BASE.reg (r : Nat) : Loc := ⟨0x1a1000 + 0x40 * r, 0, 64, 0x0⟩
/-- CAP_REGION_SIZE (R379, 11_capture_memory.md). -/
def CAP_REGION_SIZE.reg (r : Nat) : Loc := ⟨0x1a1008 + 0x40 * r, 0, 32, 0x14⟩
def CAP_REGION_SIZE.size_log2 (r : Nat) : Loc := ⟨0x1a1008 + 0x40 * r, 0, 6, 0x14⟩
/-- CAP_REGION_SRC (R379, 11_capture_memory.md). -/
def CAP_REGION_SRC.reg (r : Nat) : Loc := ⟨0x1a100c + 0x40 * r, 0, 32, 0x0⟩
def CAP_REGION_SRC.mode (r : Nat) : Loc := ⟨0x1a100c + 0x40 * r, 26, 2, 0x0⟩
def CAP_REGION_SRC.protect (r : Nat) : Loc := ⟨0x1a100c + 0x40 * r, 24, 1, 0x0⟩
def CAP_REGION_SRC.rec_region (r : Nat) : Loc := ⟨0x1a100c + 0x40 * r, 16, 6, 0x0⟩
def CAP_REGION_SRC.fmt (r : Nat) : Loc := ⟨0x1a100c + 0x40 * r, 8, 3, 0x0⟩
def CAP_REGION_SRC.stream (r : Nat) : Loc := ⟨0x1a100c + 0x40 * r, 0, 8, 0x0⟩
/-- CAP_REGION_PRE (R379, 11_capture_memory.md). -/
def CAP_REGION_PRE.reg (r : Nat) : Loc := ⟨0x1a1010 + 0x40 * r, 0, 32, 0x0⟩
/-- CAP_REGION_POST (R379, 11_capture_memory.md). -/
def CAP_REGION_POST.reg (r : Nat) : Loc := ⟨0x1a1014 + 0x40 * r, 0, 32, 0x0⟩
/-- CAP_REGION_STATUS (R379, 11_capture_memory.md). -/
def CAP_REGION_STATUS.reg (r : Nat) : Loc := ⟨0x1a1018 + 0x40 * r, 0, 32, 0x0⟩
def CAP_REGION_STATUS.leases (r : Nat) : Loc := ⟨0x1a1018 + 0x40 * r, 16, 8, 0x0⟩
def CAP_REGION_STATUS.holders (r : Nat) : Loc := ⟨0x1a1018 + 0x40 * r, 10, 6, 0x0⟩
def CAP_REGION_STATUS.full (r : Nat) : Loc := ⟨0x1a1018 + 0x40 * r, 9, 1, 0x0⟩
def CAP_REGION_STATUS.writing (r : Nat) : Loc := ⟨0x1a1018 + 0x40 * r, 8, 1, 0x0⟩
def CAP_REGION_STATUS.exists_ (r : Nat) : Loc := ⟨0x1a1018 + 0x40 * r, 0, 1, 0x0⟩
/-- CAP_REGION_WRITTEN (R379, 11_capture_memory.md). -/
def CAP_REGION_WRITTEN.reg (r : Nat) : Loc := ⟨0x1a1020 + 0x40 * r, 0, 64, 0x0⟩
/-- CAP_REGION_ACK (R379, 11_capture_memory.md). -/
def CAP_REGION_ACK.reg (r : Nat) : Loc := ⟨0x1a1028 + 0x40 * r, 0, 32, 0xffffffff⟩
/-- CAP_REGION_RECS (R379, 11_capture_memory.md). -/
def CAP_REGION_RECS.reg (r : Nat) : Loc := ⟨0x1a102c + 0x40 * r, 0, 32, 0x0⟩
/-- CAP_REGION_FULLMISS (R379, 11_capture_memory.md). -/
def CAP_REGION_FULLMISS.reg (r : Nat) : Loc := ⟨0x1a1030 + 0x40 * r, 0, 32, 0x0⟩
/-- MEM_CFG (R379, 11_capture_memory.md). -/
def MEM_CFG.reg (n : Nat) : Loc := ⟨0x1b0000 + 0x100 * n, 0, 32, 0x0⟩
def MEM_CFG.state (n : Nat) : Loc := ⟨0x1b0000 + 0x100 * n, 28, 4, 0x0⟩
def MEM_CFG.rate (n : Nat) : Loc := ⟨0x1b0000 + 0x100 * n, 16, 4, 0x0⟩
def MEM_CFG.density (n : Nat) : Loc := ⟨0x1b0000 + 0x100 * n, 8, 8, 0x0⟩
def MEM_CFG.width (n : Nat) : Loc := ⟨0x1b0000 + 0x100 * n, 4, 4, 0x0⟩
def MEM_CFG.ranks (n : Nat) : Loc := ⟨0x1b0000 + 0x100 * n, 0, 4, 0x0⟩
/-- MEM_STEER (R379, 11_capture_memory.md). -/
def MEM_STEER.reg (n : Nat) : Loc := ⟨0x1b0004 + 0x100 * n, 0, 32, 0x3f003f⟩
def MEM_STEER.sub1 (n : Nat) : Loc := ⟨0x1b0004 + 0x100 * n, 16, 6, 0x3f003f⟩
def MEM_STEER.sub0 (n : Nat) : Loc := ⟨0x1b0004 + 0x100 * n, 0, 6, 0x3f003f⟩
/-- MEM_ECC (R379, 11_capture_memory.md). -/
def MEM_ECC.reg (n : Nat) : Loc := ⟨0x1b0008 + 0x100 * n, 0, 32, 0x0⟩
def MEM_ECC.uncorrected (n : Nat) : Loc := ⟨0x1b0008 + 0x100 * n, 16, 16, 0x0⟩
def MEM_ECC.corrected (n : Nat) : Loc := ⟨0x1b0008 + 0x100 * n, 0, 16, 0x0⟩
/-- MEM_SUMMARY (R379, 11_capture_memory.md). -/
def MEM_SUMMARY.reg : Loc := ⟨0x1b1000, 0, 32, 0x0⟩
def MEM_SUMMARY.used : Loc := ⟨0x1b1000, 24, 8, 0x0⟩
def MEM_SUMMARY.trained : Loc := ⟨0x1b1000, 16, 8, 0x0⟩
def MEM_SUMMARY.capacity : Loc := ⟨0x1b1000, 0, 16, 0x0⟩
/-- KP_CTL (R409, 12_kernel_processors.md). -/
def KP_CTL.reg (n : Nat) : Loc := ⟨0x1018000 + 0x20000 * n, 0, 32, 0x0⟩
def KP_CTL.sh1 (n : Nat) : Loc := ⟨0x1018000 + 0x20000 * n, 3, 1, 0x0⟩
def KP_CTL.reset (n : Nat) : Loc := ⟨0x1018000 + 0x20000 * n, 2, 1, 0x0⟩
def KP_CTL.run (n : Nat) : Loc := ⟨0x1018000 + 0x20000 * n, 0, 1, 0x0⟩
/-- KP_START (R409, 12_kernel_processors.md). -/
def KP_START.reg (n : Nat) : Loc := ⟨0x1018004 + 0x20000 * n, 0, 32, 0x0⟩
def KP_START.addr (n : Nat) : Loc := ⟨0x1018004 + 0x20000 * n, 0, 13, 0x0⟩
/-- KP_STATUS (R409, 12_kernel_processors.md). -/
def KP_STATUS.reg (n : Nat) : Loc := ⟨0x1018008 + 0x20000 * n, 0, 32, 0x200000 * n⟩
def KP_STATUS.role (n : Nat) : Loc := ⟨0x1018008 + 0x20000 * n, 28, 4, 0x200000 * n⟩
def KP_STATUS.phys (n : Nat) : Loc := ⟨0x1018008 + 0x20000 * n, 21, 7, 0x200000 * n⟩
def KP_STATUS.imem_refused (n : Nat) : Loc := ⟨0x1018008 + 0x20000 * n, 8, 8, 0x200000 * n⟩
def KP_STATUS.sh1 (n : Nat) : Loc := ⟨0x1018008 + 0x20000 * n, 3, 1, 0x200000 * n⟩
def KP_STATUS.stalled (n : Nat) : Loc := ⟨0x1018008 + 0x20000 * n, 2, 1, 0x200000 * n⟩
def KP_STATUS.faulted (n : Nat) : Loc := ⟨0x1018008 + 0x20000 * n, 1, 1, 0x200000 * n⟩
def KP_STATUS.running (n : Nat) : Loc := ⟨0x1018008 + 0x20000 * n, 0, 1, 0x200000 * n⟩
/-- KP_PC (R409, 12_kernel_processors.md). -/
def KP_PC.reg (n : Nat) : Loc := ⟨0x101800c + 0x20000 * n, 0, 32, 0x0⟩
def KP_PC.pc (n : Nat) : Loc := ⟨0x101800c + 0x20000 * n, 0, 13, 0x0⟩
/-- KP_FAULT (R409, 12_kernel_processors.md). -/
def KP_FAULT.reg (n : Nat) : Loc := ⟨0x1018010 + 0x20000 * n, 0, 32, 0x0⟩
def KP_FAULT.pc (n : Nat) : Loc := ⟨0x1018010 + 0x20000 * n, 16, 13, 0x0⟩
def KP_FAULT.cause (n : Nat) : Loc := ⟨0x1018010 + 0x20000 * n, 0, 8, 0x0⟩
/-- KP_WDOG (R409, 12_kernel_processors.md). -/
def KP_WDOG.reg (n : Nat) : Loc := ⟨0x1018014 + 0x20000 * n, 0, 32, 0x0⟩
/-- KP_CYCLES (R409, 12_kernel_processors.md). -/
def KP_CYCLES.reg (n : Nat) : Loc := ⟨0x1018018 + 0x20000 * n, 0, 64, 0x0⟩
/-- KP_IN_CTL (R409, 12_kernel_processors.md). -/
def KP_IN_CTL.reg (n : Nat) : Loc := ⟨0x1018020 + 0x20000 * n, 0, 32, 0xff000b⟩
def KP_IN_CTL.en (n : Nat) : Loc := ⟨0x1018020 + 0x20000 * n, 31, 1, 0xff000b⟩
def KP_IN_CTL.stream (n : Nat) : Loc := ⟨0x1018020 + 0x20000 * n, 16, 8, 0xff000b⟩
def KP_IN_CTL.path (n : Nat) : Loc := ⟨0x1018020 + 0x20000 * n, 12, 2, 0xff000b⟩
def KP_IN_CTL.size_log2 (n : Nat) : Loc := ⟨0x1018020 + 0x20000 * n, 0, 4, 0xff000b⟩
/-- KP_IN_RING (R409, 12_kernel_processors.md). -/
def KP_IN_RING.reg (n : Nat) : Loc := ⟨0x1018024 + 0x20000 * n, 0, 32, 0x0⟩
def KP_IN_RING.base (n : Nat) : Loc := ⟨0x1018024 + 0x20000 * n, 0, 13, 0x0⟩
/-- KP_IN_STATUS (R409, 12_kernel_processors.md). -/
def KP_IN_STATUS.reg (n : Nat) : Loc := ⟨0x1018028 + 0x20000 * n, 0, 32, 0x0⟩
def KP_IN_STATUS.dropped (n : Nat) : Loc := ⟨0x1018028 + 0x20000 * n, 16, 16, 0x0⟩
def KP_IN_STATUS.crc (n : Nat) : Loc := ⟨0x1018028 + 0x20000 * n, 0, 16, 0x0⟩
/-- KP_IN_COUNT (R409, 12_kernel_processors.md). -/
def KP_IN_COUNT.reg (n : Nat) : Loc := ⟨0x101802c + 0x20000 * n, 0, 32, 0x0⟩
/-- KP_MBOX_IN (R409, 12_kernel_processors.md). -/
def KP_MBOX_IN.reg (n i : Nat) : Loc := ⟨0x1018040 + 0x20000 * n + 0x4 * i, 0, 32, 0x0⟩
/-- KP_MBOX_OUT (R409, 12_kernel_processors.md). -/
def KP_MBOX_OUT.reg (n i : Nat) : Loc := ⟨0x1018050 + 0x20000 * n + 0x4 * i, 0, 32, 0x0⟩
/-- KP_MBOX_STATUS (R409, 12_kernel_processors.md). -/
def KP_MBOX_STATUS.reg (n : Nat) : Loc := ⟨0x1018060 + 0x20000 * n, 0, 32, 0x0⟩
def KP_MBOX_STATUS.in_refused (n : Nat) : Loc := ⟨0x1018060 + 0x20000 * n, 8, 8, 0x0⟩
def KP_MBOX_STATUS.out_full (n : Nat) : Loc := ⟨0x1018060 + 0x20000 * n, 1, 1, 0x0⟩
def KP_MBOX_STATUS.in_full (n : Nat) : Loc := ⟨0x1018060 + 0x20000 * n, 0, 1, 0x0⟩
/-- KP_ECC (R409, 12_kernel_processors.md). -/
def KP_ECC.reg (n : Nat) : Loc := ⟨0x1018070 + 0x20000 * n, 0, 32, 0x0⟩
def KP_ECC.uncorrected (n : Nat) : Loc := ⟨0x1018070 + 0x20000 * n, 16, 16, 0x0⟩
def KP_ECC.corrected (n : Nat) : Loc := ⟨0x1018070 + 0x20000 * n, 0, 16, 0x0⟩
/-- DMA_CTL (R449, 13_dma_streaming.md). -/
def DMA_CTL.reg (n : Nat) : Loc := ⟨0x1c0000 + 0x40 * n, 0, 32, 0x0⟩
def DMA_CTL.go (n : Nat) : Loc := ⟨0x1c0000 + 0x40 * n, 31, 1, 0x0⟩
def DMA_CTL.disable (n : Nat) : Loc := ⟨0x1c0000 + 0x40 * n, 30, 1, 0x0⟩
def DMA_CTL.prio (n : Nat) : Loc := ⟨0x1c0000 + 0x40 * n, 8, 2, 0x0⟩
def DMA_CTL.port (n : Nat) : Loc := ⟨0x1c0000 + 0x40 * n, 0, 1, 0x0⟩
/-- DMA_STATUS (R449, 13_dma_streaming.md). -/
def DMA_STATUS.reg (n : Nat) : Loc := ⟨0x1c0004 + 0x40 * n, 0, 32, 0x0⟩
def DMA_STATUS.state (n : Nat) : Loc := ⟨0x1c0004 + 0x40 * n, 28, 4, 0x0⟩
def DMA_STATUS.last (n : Nat) : Loc := ⟨0x1c0004 + 0x40 * n, 16, 8, 0x0⟩
def DMA_STATUS.exit_drop (n : Nat) : Loc := ⟨0x1c0004 + 0x40 * n, 2, 1, 0x0⟩
def DMA_STATUS.held (n : Nat) : Loc := ⟨0x1c0004 + 0x40 * n, 1, 1, 0x0⟩
def DMA_STATUS.busy (n : Nat) : Loc := ⟨0x1c0004 + 0x40 * n, 0, 1, 0x0⟩
/-- DMA_DESC_ADDR (R449, 13_dma_streaming.md). -/
def DMA_DESC_ADDR.reg (n : Nat) : Loc := ⟨0x1c0008 + 0x40 * n, 0, 64, 0x0⟩
/-- DMA_POS (R449, 13_dma_streaming.md). -/
def DMA_POS.reg (n : Nat) : Loc := ⟨0x1c0010 + 0x40 * n, 0, 64, 0x0⟩
/-- DMA_LEFT (R449, 13_dma_streaming.md). -/
def DMA_LEFT.reg (n : Nat) : Loc := ⟨0x1c0018 + 0x40 * n, 0, 32, 0x0⟩
/-- DMA_RING_LEN (R449, 13_dma_streaming.md). -/
def DMA_RING_LEN.reg (n : Nat) : Loc := ⟨0x1c001c + 0x40 * n, 0, 32, 0x0⟩
/-- DMA_RING_PARTNER (R449, 13_dma_streaming.md). -/
def DMA_RING_PARTNER.reg (n : Nat) : Loc := ⟨0x1c0020 + 0x40 * n, 0, 32, 0x0⟩
/-- DMA_RING_OWN (R449, 13_dma_streaming.md). -/
def DMA_RING_OWN.reg (n : Nat) : Loc := ⟨0x1c0024 + 0x40 * n, 0, 32, 0x0⟩
/-- DMA_WITHDRAWN (R449, 13_dma_streaming.md). -/
def DMA_WITHDRAWN.reg (n : Nat) : Loc := ⟨0x1c0028 + 0x40 * n, 0, 32, 0x0⟩
/-- DMA_EXIT_DROP (R449, 13_dma_streaming.md). -/
def DMA_EXIT_DROP.reg (n : Nat) : Loc := ⟨0x1c002c + 0x40 * n, 0, 32, 0x0⟩
/-- DMA_BYTES (R449, 13_dma_streaming.md). -/
def DMA_BYTES.reg (n : Nat) : Loc := ⟨0x1c0030 + 0x40 * n, 0, 64, 0x0⟩
/-- DMA_CQ_BASE (R449, 13_dma_streaming.md). -/
def DMA_CQ_BASE.reg (q : Nat) : Loc := ⟨0x1d0000 + 0x20 * q, 0, 64, 0x0⟩
/-- DMA_CQ_CTL (R449, 13_dma_streaming.md). -/
def DMA_CQ_CTL.reg (q : Nat) : Loc := ⟨0x1d0008 + 0x20 * q, 0, 32, 0x4⟩
def DMA_CQ_CTL.en (q : Nat) : Loc := ⟨0x1d0008 + 0x20 * q, 31, 1, 0x4⟩
def DMA_CQ_CTL.port (q : Nat) : Loc := ⟨0x1d0008 + 0x20 * q, 8, 1, 0x4⟩
def DMA_CQ_CTL.size_log2 (q : Nat) : Loc := ⟨0x1d0008 + 0x20 * q, 0, 5, 0x4⟩
/-- DMA_CQ_HEAD (R449, 13_dma_streaming.md). -/
def DMA_CQ_HEAD.reg (q : Nat) : Loc := ⟨0x1d000c + 0x20 * q, 0, 32, 0x10000⟩
def DMA_CQ_HEAD.phase (q : Nat) : Loc := ⟨0x1d000c + 0x20 * q, 16, 1, 0x10000⟩
def DMA_CQ_HEAD.index (q : Nat) : Loc := ⟨0x1d000c + 0x20 * q, 0, 16, 0x10000⟩
/-- DMA_CQ_TAIL (R449, 13_dma_streaming.md). -/
def DMA_CQ_TAIL.reg (q : Nat) : Loc := ⟨0x1d0010 + 0x20 * q, 0, 32, 0x0⟩
def DMA_CQ_TAIL.index (q : Nat) : Loc := ⟨0x1d0010 + 0x20 * q, 0, 16, 0x0⟩
/-- DMA_CQ_STATUS (R449, 13_dma_streaming.md). -/
def DMA_CQ_STATUS.reg (q : Nat) : Loc := ⟨0x1d0014 + 0x20 * q, 0, 32, 0x0⟩
def DMA_CQ_STATUS.held (q : Nat) : Loc := ⟨0x1d0014 + 0x20 * q, 16, 16, 0x0⟩
def DMA_CQ_STATUS.full (q : Nat) : Loc := ⟨0x1d0014 + 0x20 * q, 0, 1, 0x0⟩
/-- DMA_PWR (R449, 13_dma_streaming.md). -/
def DMA_PWR.reg : Loc := ⟨0x1d1000, 0, 32, 0x64⟩
def DMA_PWR.quiesce_us : Loc := ⟨0x1d1000, 0, 16, 0x64⟩
/-- DMA_PWR_STATUS (R449, 13_dma_streaming.md). -/
def DMA_PWR_STATUS.reg : Loc := ⟨0x1d1004, 0, 32, 0x0⟩
def DMA_PWR_STATUS.forced : Loc := ⟨0x1d1004, 16, 16, 0x0⟩
def DMA_PWR_STATUS.quiescing : Loc := ⟨0x1d1004, 0, 1, 0x0⟩
/-- STRM_PORT_CTL (R450, 13_dma_streaming.md). -/
def STRM_PORT_CTL.reg (s : Nat) : Loc := ⟨0x1e0000 + 0x100 * s, 0, 32, 0x10000000⟩
def STRM_PORT_CTL.en (s : Nat) : Loc := ⟨0x1e0000 + 0x100 * s, 31, 1, 0x10000000⟩
def STRM_PORT_CTL.ipv6 (s : Nat) : Loc := ⟨0x1e0000 + 0x100 * s, 30, 1, 0x10000000⟩
def STRM_PORT_CTL.tsi (s : Nat) : Loc := ⟨0x1e0000 + 0x100 * s, 28, 2, 0x10000000⟩
def STRM_PORT_CTL.vlan_en (s : Nat) : Loc := ⟨0x1e0000 + 0x100 * s, 27, 1, 0x10000000⟩
def STRM_PORT_CTL.class_en (s : Nat) : Loc := ⟨0x1e0000 + 0x100 * s, 26, 1, 0x10000000⟩
def STRM_PORT_CTL.vlan_id (s : Nat) : Loc := ⟨0x1e0000 + 0x100 * s, 0, 12, 0x10000000⟩
/-- STRM_PORT_MTU (R450, 13_dma_streaming.md). -/
def STRM_PORT_MTU.reg (s : Nat) : Loc := ⟨0x1e0004 + 0x100 * s, 0, 32, 0x2328⟩
def STRM_PORT_MTU.mtu (s : Nat) : Loc := ⟨0x1e0004 + 0x100 * s, 0, 14, 0x2328⟩
/-- STRM_PORT_MAC (R450, 13_dma_streaming.md). -/
def STRM_PORT_MAC.reg (s : Nat) : Loc := ⟨0x1e0008 + 0x100 * s, 0, 64, 0x0⟩
def STRM_PORT_MAC.mac (s : Nat) : Loc := ⟨0x1e0008 + 0x100 * s, 0, 48, 0x0⟩
/-- STRM_PORT_IP4 (R450, 13_dma_streaming.md). -/
def STRM_PORT_IP4.reg (s : Nat) : Loc := ⟨0x1e0010 + 0x100 * s, 0, 32, 0x0⟩
/-- STRM_PORT_IP6 (R450, 13_dma_streaming.md). -/
def STRM_PORT_IP6.reg (s i : Nat) : Loc := ⟨0x1e0020 + 0x100 * s + 0x4 * i, 0, 32, 0x0⟩
/-- STRM_CLASS (R450, 13_dma_streaming.md). -/
def STRM_CLASS.reg (s : Nat) : Loc := ⟨0x1e0030 + 0x100 * s, 0, 64, 0x0⟩
/-- STRM_PORT_STATUS (R450, 13_dma_streaming.md). -/
def STRM_PORT_STATUS.reg (s : Nat) : Loc := ⟨0x1e0038 + 0x100 * s, 0, 32, 0x0⟩
def STRM_PORT_STATUS.fec_corr (s : Nat) : Loc := ⟨0x1e0038 + 0x100 * s, 16, 16, 0x0⟩
def STRM_PORT_STATUS.align (s : Nat) : Loc := ⟨0x1e0038 + 0x100 * s, 2, 1, 0x0⟩
def STRM_PORT_STATUS.block_lock (s : Nat) : Loc := ⟨0x1e0038 + 0x100 * s, 1, 1, 0x0⟩
def STRM_PORT_STATUS.link (s : Nat) : Loc := ⟨0x1e0038 + 0x100 * s, 0, 1, 0x0⟩
/-- STRM_PORT_RX (R450, 13_dma_streaming.md). -/
def STRM_PORT_RX.reg (s : Nat) : Loc := ⟨0x1e003c + 0x100 * s, 0, 32, 0x0⟩
def STRM_PORT_RX.answered (s : Nat) : Loc := ⟨0x1e003c + 0x100 * s, 16, 16, 0x0⟩
def STRM_PORT_RX.dropped (s : Nat) : Loc := ⟨0x1e003c + 0x100 * s, 0, 16, 0x0⟩
/-- STRM_PORT_TX (R450, 13_dma_streaming.md). -/
def STRM_PORT_TX.reg (s : Nat) : Loc := ⟨0x1e0040 + 0x100 * s, 0, 64, 0x0⟩
/-- STRM_FLOW_CTL (R450, 13_dma_streaming.md). -/
def STRM_FLOW_CTL.reg (s f : Nat) : Loc := ⟨0x1e4000 + 0x800 * s + 0x40 * f, 0, 32, 0xff0000⟩
def STRM_FLOW_CTL.en (s f : Nat) : Loc := ⟨0x1e4000 + 0x800 * s + 0x40 * f, 31, 1, 0xff0000⟩
def STRM_FLOW_CTL.src (s f : Nat) : Loc := ⟨0x1e4000 + 0x800 * s + 0x40 * f, 30, 1, 0xff0000⟩
def STRM_FLOW_CTL.send_invalid (s f : Nat) : Loc := ⟨0x1e4000 + 0x800 * s + 0x40 * f, 29, 1, 0xff0000⟩
def STRM_FLOW_CTL.pack12 (s f : Nat) : Loc := ⟨0x1e4000 + 0x800 * s + 0x40 * f, 28, 1, 0xff0000⟩
def STRM_FLOW_CTL.path (s f : Nat) : Loc := ⟨0x1e4000 + 0x800 * s + 0x40 * f, 26, 2, 0xff0000⟩
def STRM_FLOW_CTL.sel (s f : Nat) : Loc := ⟨0x1e4000 + 0x800 * s + 0x40 * f, 16, 8, 0xff0000⟩
def STRM_FLOW_CTL.keep_m1 (s f : Nat) : Loc := ⟨0x1e4000 + 0x800 * s + 0x40 * f, 8, 8, 0xff0000⟩
/-- STRM_FLOW_SID (R450, 13_dma_streaming.md). -/
def STRM_FLOW_SID.reg (s f : Nat) : Loc := ⟨0x1e4004 + 0x800 * s + 0x40 * f, 0, 32, 0x0⟩
/-- STRM_FLOW_DST (R450, 13_dma_streaming.md). -/
def STRM_FLOW_DST.reg (s f i : Nat) : Loc := ⟨0x1e4008 + 0x800 * s + 0x40 * f + 0x4 * i, 0, 32, 0x0⟩
/-- STRM_FLOW_DMAC (R450, 13_dma_streaming.md). -/
def STRM_FLOW_DMAC.reg (s f : Nat) : Loc := ⟨0x1e4018 + 0x800 * s + 0x40 * f, 0, 64, 0x0⟩
def STRM_FLOW_DMAC.mac (s f : Nat) : Loc := ⟨0x1e4018 + 0x800 * s + 0x40 * f, 0, 48, 0x0⟩
/-- STRM_FLOW_UDP (R450, 13_dma_streaming.md). -/
def STRM_FLOW_UDP.reg (s f : Nat) : Loc := ⟨0x1e4020 + 0x800 * s + 0x40 * f, 0, 32, 0x0⟩
def STRM_FLOW_UDP.src_port (s f : Nat) : Loc := ⟨0x1e4020 + 0x800 * s + 0x40 * f, 16, 16, 0x0⟩
def STRM_FLOW_UDP.dst_port (s f : Nat) : Loc := ⟨0x1e4020 + 0x800 * s + 0x40 * f, 0, 16, 0x0⟩
/-- STRM_FLOW_OPT (R450, 13_dma_streaming.md). -/
def STRM_FLOW_OPT.reg (s f : Nat) : Loc := ⟨0x1e4024 + 0x800 * s + 0x40 * f, 0, 32, 0x3e8⟩
def STRM_FLOW_OPT.dscp (s f : Nat) : Loc := ⟨0x1e4024 + 0x800 * s + 0x40 * f, 26, 6, 0x3e8⟩
def STRM_FLOW_OPT.ctx_ms (s f : Nat) : Loc := ⟨0x1e4024 + 0x800 * s + 0x40 * f, 0, 16, 0x3e8⟩
/-- STRM_FLOW_REF (R450, 13_dma_streaming.md). -/
def STRM_FLOW_REF.reg (s f : Nat) : Loc := ⟨0x1e4028 + 0x800 * s + 0x40 * f, 0, 32, 0x0⟩
def STRM_FLOW_REF.level (s f : Nat) : Loc := ⟨0x1e4028 + 0x800 * s + 0x40 * f, 0, 16, 0x0⟩
/-- STRM_FLOW_FROM (R450, 13_dma_streaming.md). -/
def STRM_FLOW_FROM.reg (s f : Nat) : Loc := ⟨0x1e402c + 0x800 * s + 0x40 * f, 0, 32, 0x0⟩
/-- STRM_FLOW_SENT (R450, 13_dma_streaming.md). -/
def STRM_FLOW_SENT.reg (s f : Nat) : Loc := ⟨0x1e4030 + 0x800 * s + 0x40 * f, 0, 32, 0x0⟩
/-- STRM_FLOW_DROP (R450, 13_dma_streaming.md). -/
def STRM_FLOW_DROP.reg (s f : Nat) : Loc := ⟨0x1e4034 + 0x800 * s + 0x40 * f, 0, 32, 0x0⟩
def STRM_FLOW_DROP.withheld (s f : Nat) : Loc := ⟨0x1e4034 + 0x800 * s + 0x40 * f, 16, 16, 0x0⟩
def STRM_FLOW_DROP.dropped (s f : Nat) : Loc := ⟨0x1e4034 + 0x800 * s + 0x40 * f, 0, 16, 0x0⟩
/-- STRM_FLOW_AT (R450, 13_dma_streaming.md). -/
def STRM_FLOW_AT.reg (s f : Nat) : Loc := ⟨0x1e4038 + 0x800 * s + 0x40 * f, 0, 32, 0x0⟩
/-- STRM_EPOCH_SEC (R450, 13_dma_streaming.md). -/
def STRM_EPOCH_SEC.reg : Loc := ⟨0x1e0f00, 0, 32, 0x0⟩
/-- DISP_CTL (R472, 14_display.md). -/
def DISP_CTL.reg : Loc := ⟨0x1f0000, 0, 32, 0x0⟩
def DISP_CTL.en : Loc := ⟨0x1f0000, 31, 1, 0x0⟩
def DISP_CTL.compose : Loc := ⟨0x1f0000, 30, 1, 0x0⟩
def DISP_CTL.swap : Loc := ⟨0x1f0000, 29, 1, 0x0⟩
/-- DISP_COMMIT (R472, 14_display.md). -/
def DISP_COMMIT.reg : Loc := ⟨0x1f0004, 0, 32, 0x0⟩
def DISP_COMMIT.go : Loc := ⟨0x1f0004, 31, 1, 0x0⟩
/-- DISP_COMMIT_STATUS (R472, 14_display.md). -/
def DISP_COMMIT_STATUS.reg : Loc := ⟨0x1f0008, 0, 32, 0x0⟩
def DISP_COMMIT_STATUS.applied : Loc := ⟨0x1f0008, 16, 16, 0x0⟩
def DISP_COMMIT_STATUS.refused : Loc := ⟨0x1f0008, 1, 1, 0x0⟩
def DISP_COMMIT_STATUS.pending : Loc := ⟨0x1f0008, 0, 1, 0x0⟩
/-- DISP_PCLK (R472, 14_display.md). -/
def DISP_PCLK.reg : Loc := ⟨0x1f0010, 0, 32, 0x3fa76⟩
def DISP_PCLK.khz : Loc := ⟨0x1f0010, 0, 19, 0x3fa76⟩
/-- DISP_HTIM (R472, 14_display.md). -/
def DISP_HTIM.reg : Loc := ⟨0x1f0014, 0, 32, 0xa500a00⟩
def DISP_HTIM.htotal : Loc := ⟨0x1f0014, 16, 16, 0xa500a00⟩
def DISP_HTIM.hactive : Loc := ⟨0x1f0014, 0, 16, 0xa500a00⟩
/-- DISP_HSYNC (R472, 14_display.md). -/
def DISP_HSYNC.reg : Loc := ⟨0x1f0018, 0, 32, 0x200008⟩
def DISP_HSYNC.pol : Loc := ⟨0x1f0018, 31, 1, 0x200008⟩
def DISP_HSYNC.width : Loc := ⟨0x1f0018, 16, 12, 0x200008⟩
def DISP_HSYNC.front : Loc := ⟨0x1f0018, 0, 12, 0x200008⟩
/-- DISP_VTIM (R472, 14_display.md). -/
def DISP_VTIM.reg : Loc := ⟨0x1f001c, 0, 32, 0x66e0640⟩
def DISP_VTIM.vtotal : Loc := ⟨0x1f001c, 16, 16, 0x66e0640⟩
def DISP_VTIM.vactive : Loc := ⟨0x1f001c, 0, 16, 0x66e0640⟩
/-- DISP_VSYNC (R472, 14_display.md). -/
def DISP_VSYNC.reg : Loc := ⟨0x1f0020, 0, 32, 0x80060003⟩
def DISP_VSYNC.pol : Loc := ⟨0x1f0020, 31, 1, 0x80060003⟩
def DISP_VSYNC.width : Loc := ⟨0x1f0020, 16, 12, 0x80060003⟩
def DISP_VSYNC.front : Loc := ⟨0x1f0020, 0, 12, 0x80060003⟩
/-- DISP_BG (R472, 14_display.md). -/
def DISP_BG.reg : Loc := ⟨0x1f0024, 0, 32, 0x0⟩
def DISP_BG.colour : Loc := ⟨0x1f0024, 0, 30, 0x0⟩
/-- DISP_CQ (R472, 14_display.md). -/
def DISP_CQ.reg : Loc := ⟨0x1f0028, 0, 32, 0x0⟩
def DISP_CQ.en : Loc := ⟨0x1f0028, 31, 1, 0x0⟩
def DISP_CQ.q : Loc := ⟨0x1f0028, 0, 4, 0x0⟩
/-- DISP_STATUS (R472, 14_display.md). -/
def DISP_STATUS.reg : Loc := ⟨0x1f0030, 0, 32, 0x0⟩
def DISP_STATUS.b_rate : Loc := ⟨0x1f0030, 24, 4, 0x0⟩
def DISP_STATUS.a_rate : Loc := ⟨0x1f0030, 20, 4, 0x0⟩
def DISP_STATUS.hpd_b : Loc := ⟨0x1f0030, 17, 1, 0x0⟩
def DISP_STATUS.hpd_a : Loc := ⟨0x1f0030, 16, 1, 0x0⟩
def DISP_STATUS.link_fail : Loc := ⟨0x1f0030, 3, 1, 0x0⟩
def DISP_STATUS.retraining : Loc := ⟨0x1f0030, 2, 1, 0x0⟩
def DISP_STATUS.black : Loc := ⟨0x1f0030, 1, 1, 0x0⟩
def DISP_STATUS.scanning : Loc := ⟨0x1f0030, 0, 1, 0x0⟩
/-- DISP_FRAME (R472, 14_display.md). -/
def DISP_FRAME.reg : Loc := ⟨0x1f0034, 0, 32, 0x0⟩
/-- DISP_LATE (R472, 14_display.md). -/
def DISP_LATE.reg : Loc := ⟨0x1f0038, 0, 32, 0x0⟩
/-- DISP_FS_REFUSED (R472, 14_display.md). -/
def DISP_FS_REFUSED.reg : Loc := ⟨0x1f003c, 0, 32, 0x0⟩
/-- DISP_AUX_CMD (R472, 14_display.md). -/
def DISP_AUX_CMD.reg : Loc := ⟨0x1f0040, 0, 32, 0x0⟩
def DISP_AUX_CMD.go : Loc := ⟨0x1f0040, 31, 1, 0x0⟩
def DISP_AUX_CMD.read : Loc := ⟨0x1f0040, 30, 1, 0x0⟩
def DISP_AUX_CMD.i2c : Loc := ⟨0x1f0040, 29, 1, 0x0⟩
def DISP_AUX_CMD.port : Loc := ⟨0x1f0040, 28, 1, 0x0⟩
def DISP_AUX_CMD.len_m1 : Loc := ⟨0x1f0040, 24, 4, 0x0⟩
def DISP_AUX_CMD.addr : Loc := ⟨0x1f0040, 0, 20, 0x0⟩
/-- DISP_AUX_STATUS (R472, 14_display.md). -/
def DISP_AUX_STATUS.reg : Loc := ⟨0x1f0044, 0, 32, 0x0⟩
def DISP_AUX_STATUS.nack : Loc := ⟨0x1f0044, 2, 1, 0x0⟩
def DISP_AUX_STATUS.done : Loc := ⟨0x1f0044, 1, 1, 0x0⟩
def DISP_AUX_STATUS.busy : Loc := ⟨0x1f0044, 0, 1, 0x0⟩
/-- DISP_AUX_DATA (R472, 14_display.md). -/
def DISP_AUX_DATA.reg (i : Nat) : Loc := ⟨0x1f0050 + 0x4 * i, 0, 32, 0x0⟩
/-- DISP_TRACE_SRC (R472, 14_display.md). -/
def DISP_TRACE_SRC.reg (i : Nat) : Loc := ⟨0x1f0200 + 0x8 * i, 0, 32, 0x0⟩
def DISP_TRACE_SRC.en (i : Nat) : Loc := ⟨0x1f0200 + 0x8 * i, 31, 1, 0x0⟩
def DISP_TRACE_SRC.path (i : Nat) : Loc := ⟨0x1f0200 + 0x8 * i, 20, 2, 0x0⟩
def DISP_TRACE_SRC.flags (i : Nat) : Loc := ⟨0x1f0200 + 0x8 * i, 8, 9, 0x0⟩
def DISP_TRACE_SRC.stream (i : Nat) : Loc := ⟨0x1f0200 + 0x8 * i, 0, 8, 0x0⟩
/-- DISP_TRACE_COL (R472, 14_display.md). -/
def DISP_TRACE_COL.reg (i : Nat) : Loc := ⟨0x1f0204 + 0x8 * i, 0, 32, 0x3fffffff⟩
def DISP_TRACE_COL.colour (i : Nat) : Loc := ⟨0x1f0204 + 0x8 * i, 0, 30, 0x3fffffff⟩
/-- DISP_PAL_D (R472, 14_display.md). -/
def DISP_PAL_D.reg (j : Nat) : Loc := ⟨0x1f1000 + 0x4 * j, 0, 32, 0x0⟩
def DISP_PAL_D.p (j : Nat) : Loc := ⟨0x1f1000 + 0x4 * j, 30, 2, 0x0⟩
def DISP_PAL_D.colour (j : Nat) : Loc := ⟨0x1f1000 + 0x4 * j, 0, 30, 0x0⟩
/-- DISP_PAL_W (R472, 14_display.md). -/
def DISP_PAL_W.reg (j : Nat) : Loc := ⟨0x1f2000 + 0x4 * j, 0, 32, 0x0⟩
/-- DISP_LAYER_CTL (R473, 14_display.md). -/
def DISP_LAYER_CTL.reg (l : Nat) : Loc := ⟨0x1f0100 + 0x40 * l, 0, 32, 0xff0000⟩
def DISP_LAYER_CTL.en (l : Nat) : Loc := ⟨0x1f0100 + 0x40 * l, 31, 1, 0xff0000⟩
def DISP_LAYER_CTL.alpha (l : Nat) : Loc := ⟨0x1f0100 + 0x40 * l, 16, 8, 0xff0000⟩
def DISP_LAYER_CTL.src_space (l : Nat) : Loc := ⟨0x1f0100 + 0x40 * l, 8, 4, 0xff0000⟩
def DISP_LAYER_CTL.sel (l : Nat) : Loc := ⟨0x1f0100 + 0x40 * l, 0, 6, 0xff0000⟩
/-- DISP_LAYER_POS (R473, 14_display.md). -/
def DISP_LAYER_POS.reg (l : Nat) : Loc := ⟨0x1f0104 + 0x40 * l, 0, 32, 0x0⟩
def DISP_LAYER_POS.y (l : Nat) : Loc := ⟨0x1f0104 + 0x40 * l, 16, 16, 0x0⟩
def DISP_LAYER_POS.x (l : Nat) : Loc := ⟨0x1f0104 + 0x40 * l, 0, 16, 0x0⟩
/-- DISP_LAYER_SIZE (R473, 14_display.md). -/
def DISP_LAYER_SIZE.reg (l : Nat) : Loc := ⟨0x1f0108 + 0x40 * l, 0, 32, 0x0⟩
def DISP_LAYER_SIZE.h (l : Nat) : Loc := ⟨0x1f0108 + 0x40 * l, 16, 16, 0x0⟩
def DISP_LAYER_SIZE.w (l : Nat) : Loc := ⟨0x1f0108 + 0x40 * l, 0, 16, 0x0⟩
/-- DISP_LAYER_MAP (R473, 14_display.md). -/
def DISP_LAYER_MAP.reg (l : Nat) : Loc := ⟨0x1f010c + 0x40 * l, 0, 32, 0x10000000⟩
def DISP_LAYER_MAP.count (l : Nat) : Loc := ⟨0x1f010c + 0x40 * l, 16, 16, 0x10000000⟩
def DISP_LAYER_MAP.first (l : Nat) : Loc := ⟨0x1f010c + 0x40 * l, 0, 16, 0x10000000⟩
/-- DISP_LAYER_ROWS (R473, 14_display.md). -/
def DISP_LAYER_ROWS.reg (l : Nat) : Loc := ⟨0x1f0110 + 0x40 * l, 0, 32, 0x4000000⟩
def DISP_LAYER_ROWS.nr (l : Nat) : Loc := ⟨0x1f0110 + 0x40 * l, 16, 16, 0x4000000⟩
def DISP_LAYER_ROWS.r0 (l : Nat) : Loc := ⟨0x1f0110 + 0x40 * l, 0, 16, 0x4000000⟩
/-- DISP_LAYER_LVL (R473, 14_display.md). -/
def DISP_LAYER_LVL.reg (l : Nat) : Loc := ⟨0x1f0114 + 0x40 * l, 0, 32, 0x101f4800⟩
def DISP_LAYER_LVL.shift (l : Nat) : Loc := ⟨0x1f0114 + 0x40 * l, 26, 4, 0x101f4800⟩
def DISP_LAYER_LVL.step_m1 (l : Nat) : Loc := ⟨0x1f0114 + 0x40 * l, 16, 10, 0x101f4800⟩
def DISP_LAYER_LVL.v_bottom (l : Nat) : Loc := ⟨0x1f0114 + 0x40 * l, 0, 16, 0x101f4800⟩
/-- DISP_LAYER_ADDR (R473, 14_display.md). -/
def DISP_LAYER_ADDR.reg (l : Nat) : Loc := ⟨0x1f0118 + 0x40 * l, 0, 64, 0x0⟩
/-- DISP_LAYER_PITCH (R473, 14_display.md). -/
def DISP_LAYER_PITCH.reg (l : Nat) : Loc := ⟨0x1f0120 + 0x40 * l, 0, 32, 0x0⟩
/-- DISP_LAYER_TAG (R473, 14_display.md). -/
def DISP_LAYER_TAG.reg (l : Nat) : Loc := ⟨0x1f0124 + 0x40 * l, 0, 32, 0x0⟩
/-- TIU_TIME_SET (R489, 15_timing_unit.md). -/
def TIU_TIME_SET.reg : Loc := ⟨0x200000, 0, 64, 0x0⟩
/-- TIU_TIME_CTL (R489, 15_timing_unit.md). -/
def TIU_TIME_CTL.reg : Loc := ⟨0x200008, 0, 32, 0x0⟩
def TIU_TIME_CTL.set_done : Loc := ⟨0x200008, 2, 1, 0x0⟩
def TIU_TIME_CTL.armed : Loc := ⟨0x200008, 1, 1, 0x0⟩
def TIU_TIME_CTL.arm : Loc := ⟨0x200008, 0, 1, 0x0⟩
/-- TIU_PPS_ERR (R489, 15_timing_unit.md). -/
def TIU_PPS_ERR.reg : Loc := ⟨0x200010, 0, 32, 0x0⟩
/-- TIU_PPS_LAST (R489, 15_timing_unit.md). -/
def TIU_PPS_LAST.reg : Loc := ⟨0x200018, 0, 64, 0x0⟩
/-- TIU_CDC_CTL (R489, 15_timing_unit.md). -/
def TIU_CDC_CTL.reg : Loc := ⟨0x200020, 0, 32, 0x1400⟩
def TIU_CDC_CTL.go : Loc := ⟨0x200020, 31, 1, 0x1400⟩
def TIU_CDC_CTL.hits_log2 : Loc := ⟨0x200020, 8, 5, 0x1400⟩
def TIU_CDC_CTL.interp : Loc := ⟨0x200020, 0, 5, 0x1400⟩
/-- TIU_CDC_STATUS (R489, 15_timing_unit.md). -/
def TIU_CDC_STATUS.reg : Loc := ⟨0x200024, 0, 32, 0x0⟩
def TIU_CDC_STATUS.last : Loc := ⟨0x200024, 3, 5, 0x0⟩
def TIU_CDC_STATUS.fail : Loc := ⟨0x200024, 1, 1, 0x0⟩
def TIU_CDC_STATUS.running : Loc := ⟨0x200024, 0, 1, 0x0⟩
/-- TIU_CAN_LAST (R489, 15_timing_unit.md). -/
def TIU_CAN_LAST.reg : Loc := ⟨0x200030, 0, 64, 0x0⟩
/-- TIU_EV_CTL (R489, 15_timing_unit.md). -/
def TIU_EV_CTL.reg (j : Nat) : Loc := ⟨0x200100 + 0x20 * j, 0, 32, 0x4000001⟩
def TIU_EV_CTL.en (j : Nat) : Loc := ⟨0x200100 + 0x20 * j, 31, 1, 0x4000001⟩
def TIU_EV_CTL.pol (j : Nat) : Loc := ⟨0x200100 + 0x20 * j, 30, 1, 0x4000001⟩
def TIU_EV_CTL.edges (j : Nat) : Loc := ⟨0x200100 + 0x20 * j, 28, 2, 0x4000001⟩
def TIU_EV_CTL.hyst (j : Nat) : Loc := ⟨0x200100 + 0x20 * j, 26, 2, 0x4000001⟩
def TIU_EV_CTL.holdoff (j : Nat) : Loc := ⟨0x200100 + 0x20 * j, 0, 20, 0x4000001⟩
/-- TIU_EV_STUCK (R489, 15_timing_unit.md). -/
def TIU_EV_STUCK.reg (j : Nat) : Loc := ⟨0x200104 + 0x20 * j, 0, 32, 0xf4240⟩
def TIU_EV_STUCK.stuck_us (j : Nat) : Loc := ⟨0x200104 + 0x20 * j, 0, 24, 0xf4240⟩
/-- TIU_EV_SKEW (R489, 15_timing_unit.md). -/
def TIU_EV_SKEW.reg (j : Nat) : Loc := ⟨0x200108 + 0x20 * j, 0, 32, 0x0⟩
def TIU_EV_SKEW.skew (j : Nat) : Loc := ⟨0x200108 + 0x20 * j, 0, 16, 0x0⟩
/-- TIU_EV_STATUS (R489, 15_timing_unit.md). -/
def TIU_EV_STATUS.reg (j : Nat) : Loc := ⟨0x20010c + 0x20 * j, 0, 32, 0x0⟩
def TIU_EV_STATUS.crowded (j : Nat) : Loc := ⟨0x20010c + 0x20 * j, 16, 16, 0x0⟩
def TIU_EV_STATUS.lost (j : Nat) : Loc := ⟨0x20010c + 0x20 * j, 4, 12, 0x0⟩
def TIU_EV_STATUS.stuck (j : Nat) : Loc := ⟨0x20010c + 0x20 * j, 1, 1, 0x0⟩
def TIU_EV_STATUS.level (j : Nat) : Loc := ⟨0x20010c + 0x20 * j, 0, 1, 0x0⟩
/-- TIU_EV_FIFO (R489, 15_timing_unit.md). -/
def TIU_EV_FIFO.word (j : Nat) (i_ : Nat) : Loc := ⟨0x200110 + 0x20 * j + 4 * i_, 0, 32, 0x0⟩
/-- TIU_FIN_CTL (R489, 15_timing_unit.md). -/
def TIU_FIN_CTL.reg (k : Nat) : Loc := ⟨0x200400 + 0x20 * k, 0, 32, 0x30064⟩
def TIU_FIN_CTL.en (k : Nat) : Loc := ⟨0x200400 + 0x20 * k, 31, 1, 0x30064⟩
def TIU_FIN_CTL.presc (k : Nat) : Loc := ⟨0x200400 + 0x20 * k, 16, 2, 0x30064⟩
def TIU_FIN_CTL.gate_ms (k : Nat) : Loc := ⟨0x200400 + 0x20 * k, 0, 16, 0x30064⟩
/-- TIU_FIN_FREQ (R489, 15_timing_unit.md). -/
def TIU_FIN_FREQ.reg (k : Nat) : Loc := ⟨0x200408 + 0x20 * k, 0, 64, 0x0⟩
/-- TIU_FIN_STATUS (R489, 15_timing_unit.md). -/
def TIU_FIN_STATUS.reg (k : Nat) : Loc := ⟨0x200410 + 0x20 * k, 0, 32, 0x0⟩
def TIU_FIN_STATUS.count (k : Nat) : Loc := ⟨0x200410 + 0x20 * k, 16, 16, 0x0⟩
def TIU_FIN_STATUS.overspeed (k : Nat) : Loc := ⟨0x200410 + 0x20 * k, 1, 1, 0x0⟩
def TIU_FIN_STATUS.valid (k : Nat) : Loc := ⟨0x200410 + 0x20 * k, 0, 1, 0x0⟩
/-- TIU_STAT_CTL (R489, 15_timing_unit.md). -/
def TIU_STAT_CTL.reg (s : Nat) : Loc := ⟨0x200600 + 0x40 * s, 0, 32, 0x0⟩
def TIU_STAT_CTL.go (s : Nat) : Loc := ⟨0x200600 + 0x40 * s, 31, 1, 0x0⟩
def TIU_STAT_CTL.mode (s : Nat) : Loc := ⟨0x200600 + 0x40 * s, 16, 2, 0x0⟩
def TIU_STAT_CTL.b (s : Nat) : Loc := ⟨0x200600 + 0x40 * s, 8, 5, 0x0⟩
def TIU_STAT_CTL.a (s : Nat) : Loc := ⟨0x200600 + 0x40 * s, 0, 5, 0x0⟩
/-- TIU_STAT_N (R489, 15_timing_unit.md). -/
def TIU_STAT_N.reg (s : Nat) : Loc := ⟨0x200604 + 0x40 * s, 0, 32, 0x3e8⟩
/-- TIU_STAT_MEAN (R489, 15_timing_unit.md). -/
def TIU_STAT_MEAN.reg (s : Nat) : Loc := ⟨0x200608 + 0x40 * s, 0, 64, 0x0⟩
/-- TIU_STAT_MIN (R489, 15_timing_unit.md). -/
def TIU_STAT_MIN.reg (s : Nat) : Loc := ⟨0x200610 + 0x40 * s, 0, 64, 0x0⟩
/-- TIU_STAT_MAX (R489, 15_timing_unit.md). -/
def TIU_STAT_MAX.reg (s : Nat) : Loc := ⟨0x200618 + 0x40 * s, 0, 64, 0x0⟩
/-- TIU_STAT_SD (R489, 15_timing_unit.md). -/
def TIU_STAT_SD.reg (s : Nat) : Loc := ⟨0x200620 + 0x40 * s, 0, 32, 0x0⟩
/-- TIU_STAT_STATUS (R489, 15_timing_unit.md). -/
def TIU_STAT_STATUS.reg (s : Nat) : Loc := ⟨0x200624 + 0x40 * s, 0, 32, 0x0⟩
def TIU_STAT_STATUS.skipped (s : Nat) : Loc := ⟨0x200624 + 0x40 * s, 16, 16, 0x0⟩
def TIU_STAT_STATUS.done (s : Nat) : Loc := ⟨0x200624 + 0x40 * s, 1, 1, 0x0⟩
def TIU_STAT_STATUS.running (s : Nat) : Loc := ⟨0x200624 + 0x40 * s, 0, 1, 0x0⟩
/-- TIU_CDC_TABLE (R489, 15_timing_unit.md). -/
def TIU_CDC_TABLE.reg (i b : Nat) : Loc := ⟨0x201000 + 0x100 * i + 0x4 * b, 0, 32, 0x400⟩
def TIU_CDC_TABLE.width (i b : Nat) : Loc := ⟨0x201000 + 0x100 * i + 0x4 * b, 0, 16, 0x400⟩
/-- FCD_CTL (R504, 16_front_end_control.md). -/
def FCD_CTL.reg : Loc := ⟨0x210000, 0, 32, 0x0⟩
def FCD_CTL.drive_en : Loc := ⟨0x210000, 0, 8, 0x0⟩
/-- FCD_PIN (R504, 16_front_end_control.md). -/
def FCD_PIN.reg : Loc := ⟨0x210004, 0, 32, 0x1⟩
def FCD_PIN.clr_count : Loc := ⟨0x210004, 16, 16, 0x1⟩
def FCD_PIN.clrdac_n : Loc := ⟨0x210004, 0, 1, 0x1⟩
/-- FCD_CODE (R504, 16_front_end_control.md). -/
def FCD_CODE.reg (f : Nat) : Loc := ⟨0x210100 + 0x20 * f, 0, 32, 0x0⟩
def FCD_CODE.code (f : Nat) : Loc := ⟨0x210100 + 0x20 * f, 0, 16, 0x0⟩
/-- FCD_CFG (R504, 16_front_end_control.md). -/
def FCD_CFG.reg (f : Nat) : Loc := ⟨0x210104 + 0x20 * f, 0, 32, 0x1⟩
def FCD_CFG.range (f : Nat) : Loc := ⟨0x210104 + 0x20 * f, 0, 1, 0x1⟩
/-- FCD_CLR (R504, 16_front_end_control.md). -/
def FCD_CLR.reg (f : Nat) : Loc := ⟨0x210108 + 0x20 * f, 0, 32, 0x0⟩
def FCD_CLR.clr_18 (f : Nat) : Loc := ⟨0x210108 + 0x20 * f, 16, 16, 0x0⟩
def FCD_CLR.clr_33 (f : Nat) : Loc := ⟨0x210108 + 0x20 * f, 0, 16, 0x0⟩
/-- FCD_STATUS (R504, 16_front_end_control.md). -/
def FCD_STATUS.reg (f : Nat) : Loc := ⟨0x21010c + 0x20 * f, 0, 32, 0x0⟩
def FCD_STATUS.shown (f : Nat) : Loc := ⟨0x21010c + 0x20 * f, 16, 16, 0x0⟩
def FCD_STATUS.readback_fault (f : Nat) : Loc := ⟨0x21010c + 0x20 * f, 9, 1, 0x0⟩
def FCD_STATUS.written (f : Nat) : Loc := ⟨0x21010c + 0x20 * f, 8, 1, 0x0⟩
def FCD_STATUS.switching (f : Nat) : Loc := ⟨0x21010c + 0x20 * f, 7, 1, 0x0⟩
def FCD_STATUS.driving (f : Nat) : Loc := ⟨0x21010c + 0x20 * f, 6, 1, 0x0⟩
def FCD_STATUS.c_pre (f : Nat) : Loc := ⟨0x21010c + 0x20 * f, 4, 1, 0x0⟩
def FCD_STATUS.c_range (f : Nat) : Loc := ⟨0x21010c + 0x20 * f, 3, 1, 0x0⟩
def FCD_STATUS.c_mirror (f : Nat) : Loc := ⟨0x21010c + 0x20 * f, 2, 1, 0x0⟩
def FCD_STATUS.c_prot (f : Nat) : Loc := ⟨0x21010c + 0x20 * f, 1, 1, 0x0⟩
def FCD_STATUS.c_clrdac (f : Nat) : Loc := ⟨0x21010c + 0x20 * f, 0, 1, 0x0⟩
/-- HK_CTL (R504, 16_front_end_control.md). -/
def HK_CTL.reg : Loc := ⟨0x211000, 0, 32, 0x0⟩
def HK_CTL.start : Loc := ⟨0x211000, 31, 1, 0x0⟩
def HK_CTL.stop : Loc := ⟨0x211000, 30, 1, 0x0⟩
def HK_CTL.cont : Loc := ⟨0x211000, 0, 1, 0x0⟩
/-- HK_TOL (R504, 16_front_end_control.md). -/
def HK_TOL.reg : Loc := ⟨0x211004, 0, 32, 0x2000040⟩
def HK_TOL.fcd : Loc := ⟨0x211004, 16, 16, 0x2000040⟩
def HK_TOL.ab : Loc := ⟨0x211004, 0, 16, 0x2000040⟩
/-- HK_STATUS (R504, 16_front_end_control.md). -/
def HK_STATUS.reg : Loc := ⟨0x211008, 0, 32, 0x0⟩
def HK_STATUS.scans : Loc := ⟨0x211008, 16, 16, 0x0⟩
def HK_STATUS.mm_chan : Loc := ⟨0x211008, 9, 7, 0x0⟩
def HK_STATUS.overrun : Loc := ⟨0x211008, 2, 1, 0x0⟩
def HK_STATUS.mismatch : Loc := ⟨0x211008, 1, 1, 0x0⟩
def HK_STATUS.running : Loc := ⟨0x211008, 0, 1, 0x0⟩
/-- HK_CH (R504, 16_front_end_control.md). -/
def HK_CH.reg (c : Nat) : Loc := ⟨0x211100 + 0x4 * c, 0, 32, 0x0⟩
def HK_CH.shared (c : Nat) : Loc := ⟨0x211100 + 0x4 * c, 2, 1, 0x0⟩
def HK_CH.en_b (c : Nat) : Loc := ⟨0x211100 + 0x4 * c, 1, 1, 0x0⟩
def HK_CH.en_a (c : Nat) : Loc := ⟨0x211100 + 0x4 * c, 0, 1, 0x0⟩
/-- HK_RES_A (R504, 16_front_end_control.md). -/
def HK_RES_A.reg (c : Nat) : Loc := ⟨0x211400 + 0x4 * c, 0, 32, 0x0⟩
def HK_RES_A.scan (c : Nat) : Loc := ⟨0x211400 + 0x4 * c, 24, 8, 0x0⟩
def HK_RES_A.over (c : Nat) : Loc := ⟨0x211400 + 0x4 * c, 17, 1, 0x0⟩
def HK_RES_A.valid (c : Nat) : Loc := ⟨0x211400 + 0x4 * c, 16, 1, 0x0⟩
def HK_RES_A.code (c : Nat) : Loc := ⟨0x211400 + 0x4 * c, 0, 16, 0x0⟩
/-- HK_RES_B (R504, 16_front_end_control.md). -/
def HK_RES_B.reg (c : Nat) : Loc := ⟨0x211600 + 0x4 * c, 0, 32, 0x0⟩
/-- CAL_CTL (R520, 17_calibration.md). -/
def CAL_CTL.reg : Loc := ⟨0x220000, 0, 32, 0xf⟩
def CAL_CTL.go : Loc := ⟨0x220000, 31, 1, 0xf⟩
def CAL_CTL.abort : Loc := ⟨0x220000, 30, 1, 0xf⟩
def CAL_CTL.next_ : Loc := ⟨0x220000, 29, 1, 0xf⟩
def CAL_CTL.commit : Loc := ⟨0x220000, 28, 1, 0xf⟩
def CAL_CTL.free_run : Loc := ⟨0x220000, 5, 1, 0xf⟩
def CAL_CTL.auto_commit : Loc := ⟨0x220000, 4, 1, 0xf⟩
def CAL_CTL.in_mask : Loc := ⟨0x220000, 0, 4, 0xf⟩
/-- CAL_PASS (R520, 17_calibration.md). -/
def CAL_PASS.reg : Loc := ⟨0x220004, 0, 32, 0xa0003e8⟩
def CAL_PASS.timeout_s : Loc := ⟨0x220004, 24, 8, 0xa0003e8⟩
def CAL_PASS.pass_us : Loc := ⟨0x220004, 0, 16, 0xa0003e8⟩
/-- CAL_PLAN (R520, 17_calibration.md). -/
def CAL_PLAN.reg : Loc := ⟨0x220008, 0, 32, 0x0⟩
def CAL_PLAN.npoints : Loc := ⟨0x220008, 0, 11, 0x0⟩
/-- CAL_TOL (R520, 17_calibration.md). -/
def CAL_TOL.reg : Loc := ⟨0x22000c, 0, 32, 0x32032⟩
def CAL_TOL.max_reject : Loc := ⟨0x22000c, 24, 8, 0x32032⟩
def CAL_TOL.phase : Loc := ⟨0x22000c, 12, 12, 0x32032⟩
def CAL_TOL.gain : Loc := ⟨0x22000c, 0, 12, 0x32032⟩
/-- CAL_STATUS (R520, 17_calibration.md). -/
def CAL_STATUS.reg : Loc := ⟨0x220010, 0, 32, 0x0⟩
def CAL_STATUS.stale : Loc := ⟨0x220010, 24, 4, 0x0⟩
def CAL_STATUS.group : Loc := ⟨0x220010, 16, 6, 0x0⟩
def CAL_STATUS.code : Loc := ⟨0x220010, 12, 4, 0x0⟩
def CAL_STATUS.slot : Loc := ⟨0x220010, 4, 1, 0x0⟩
def CAL_STATUS.pending : Loc := ⟨0x220010, 3, 1, 0x0⟩
def CAL_STATUS.committing : Loc := ⟨0x220010, 2, 1, 0x0⟩
def CAL_STATUS.state : Loc := ⟨0x220010, 0, 2, 0x0⟩
/-- CAL_GEN (R520, 17_calibration.md). -/
def CAL_GEN.reg : Loc := ⟨0x220014, 0, 32, 0x0⟩
/-- CAL_COMMIT_INDEX (R520, 17_calibration.md). -/
def CAL_COMMIT_INDEX.reg : Loc := ⟨0x220018, 0, 64, 0x0⟩
/-- CAL_STALE (R520, 17_calibration.md). -/
def CAL_STALE.reg : Loc := ⟨0x220020, 0, 32, 0xa02d0⟩
def CAL_STALE.max_dtemp : Loc := ⟨0x220020, 16, 8, 0xa02d0⟩
def CAL_STALE.max_age_h : Loc := ⟨0x220020, 0, 16, 0xa02d0⟩
/-- CAL_SKEW (R520, 17_calibration.md). -/
def CAL_SKEW.reg (n : Nat) : Loc := ⟨0x220040 + 0x4 * n, 0, 32, 0x0⟩
/-- CAL_ST_CTL (R520, 17_calibration.md). -/
def CAL_ST_CTL.reg : Loc := ⟨0x220100, 0, 32, 0x0⟩
def CAL_ST_CTL.go : Loc := ⟨0x220100, 31, 1, 0x0⟩
/-- CAL_ST_ADDR (R520, 17_calibration.md). -/
def CAL_ST_ADDR.reg : Loc := ⟨0x220104, 0, 32, 0x0⟩
/-- CAL_ST_LEN (R520, 17_calibration.md). -/
def CAL_ST_LEN.reg : Loc := ⟨0x220108, 0, 32, 0x0⟩
/-- CAL_ST_SRC (R520, 17_calibration.md). -/
def CAL_ST_SRC.reg : Loc := ⟨0x220110, 0, 64, 0x0⟩
/-- CAL_ST_STATUS (R520, 17_calibration.md). -/
def CAL_ST_STATUS.reg : Loc := ⟨0x220118, 0, 32, 0x0⟩
def CAL_ST_STATUS.code : Loc := ⟨0x220118, 1, 3, 0x0⟩
def CAL_ST_STATUS.running : Loc := ⟨0x220118, 0, 1, 0x0⟩
/-- CAL_ST_CRC (R520, 17_calibration.md). -/
def CAL_ST_CRC.reg : Loc := ⟨0x22011c, 0, 32, 0x0⟩
/-- CAL_POINT (R520, 17_calibration.md). -/
def CAL_POINT.reg (i : Nat) : Loc := ⟨0x221000 + 0x8 * i, 0, 32, 0x0⟩
def CAL_POINT.group (i : Nat) : Loc := ⟨0x221000 + 0x8 * i, 26, 6, 0x0⟩
def CAL_POINT.freq_khz (i : Nat) : Loc := ⟨0x221000 + 0x8 * i, 0, 25, 0x0⟩
/-- CAL_POINT_LVL (R520, 17_calibration.md). -/
def CAL_POINT_LVL.reg (i : Nat) : Loc := ⟨0x221004 + 0x8 * i, 0, 32, 0x0⟩
def CAL_POINT_LVL.level (i : Nat) : Loc := ⟨0x221004 + 0x8 * i, 0, 16, 0x0⟩
/-- CAL_RESULT (R520, 17_calibration.md). -/
def CAL_RESULT.reg (n i : Nat) : Loc := ⟨0x224000 + 0x2000 * n + 0x8 * i, 0, 32, 0x0⟩
def CAL_RESULT.phase (n i : Nat) : Loc := ⟨0x224000 + 0x2000 * n + 0x8 * i, 16, 16, 0x0⟩
def CAL_RESULT.gain (n i : Nat) : Loc := ⟨0x224000 + 0x2000 * n + 0x8 * i, 0, 16, 0x0⟩
/-- CAL_RESULT_INFO (R520, 17_calibration.md). -/
def CAL_RESULT_INFO.reg (n i : Nat) : Loc := ⟨0x224004 + 0x2000 * n + 0x8 * i, 0, 32, 0x0⟩
def CAL_RESULT_INFO.d_phase (n i : Nat) : Loc := ⟨0x224004 + 0x2000 * n + 0x8 * i, 16, 16, 0x0⟩
def CAL_RESULT_INFO.d_gain (n i : Nat) : Loc := ⟨0x224004 + 0x2000 * n + 0x8 * i, 4, 12, 0x0⟩
def CAL_RESULT_INFO.rejected (n i : Nat) : Loc := ⟨0x224004 + 0x2000 * n + 0x8 * i, 1, 1, 0x0⟩
def CAL_RESULT_INFO.valid (n i : Nat) : Loc := ⟨0x224004 + 0x2000 * n + 0x8 * i, 0, 1, 0x0⟩
/-- CAL_TABLE (R520, 17_calibration.md). -/
def CAL_TABLE.reg (n g : Nat) : Loc := ⟨0x22c000 + 0x400 * n + 0x4 * g, 0, 32, 0x0⟩
def CAL_TABLE.phase (n g : Nat) : Loc := ⟨0x22c000 + 0x400 * n + 0x4 * g, 16, 16, 0x0⟩
def CAL_TABLE.gain (n g : Nat) : Loc := ⟨0x22c000 + 0x400 * n + 0x4 * g, 0, 16, 0x0⟩
/-- ENS_CTL (R539, 18_ensemble.md). -/
def ENS_CTL.reg : Loc := ⟨0x230000, 0, 32, 0x10000000⟩
def ENS_CTL.en : Loc := ⟨0x230000, 31, 1, 0x10000000⟩
def ENS_CTL.sync : Loc := ⟨0x230000, 30, 1, 0x10000000⟩
def ENS_CTL.restep : Loc := ⟨0x230000, 29, 1, 0x10000000⟩
def ENS_CTL.ring_auto : Loc := ⟨0x230000, 28, 1, 0x10000000⟩
def ENS_CTL.wake_en : Loc := ⟨0x230000, 25, 1, 0x10000000⟩
def ENS_CTL.id : Loc := ⟨0x230000, 16, 4, 0x10000000⟩
def ENS_CTL.role : Loc := ⟨0x230000, 8, 2, 0x10000000⟩
/-- ENS_POLICY (R539, 18_ensemble.md). -/
def ENS_POLICY.reg : Loc := ⟨0x230004, 0, 32, 0xfe⟩
def ENS_POLICY.tf_tag : Loc := ⟨0x230004, 9, 1, 0xfe⟩
def ENS_POLICY.tf_exclude : Loc := ⟨0x230004, 8, 1, 0xfe⟩
def ENS_POLICY.tf_code : Loc := ⟨0x230004, 0, 8, 0xfe⟩
/-- ENS_LEAD (R539, 18_ensemble.md). -/
def ENS_LEAD.reg : Loc := ⟨0x230008, 0, 32, 0x6400⟩
/-- ENS_STATUS (R539, 18_ensemble.md). -/
def ENS_STATUS.reg : Loc := ⟨0x23000c, 0, 32, 0x0⟩
def ENS_STATUS.fp_field : Loc := ⟨0x23000c, 28, 4, 0x0⟩
def ENS_STATUS.ring1_up : Loc := ⟨0x23000c, 9, 1, 0x0⟩
def ENS_STATUS.ring0_up : Loc := ⟨0x23000c, 8, 1, 0x0⟩
def ENS_STATUS.on_ring1 : Loc := ⟨0x23000c, 7, 1, 0x0⟩
def ENS_STATUS.time_fault : Loc := ⟨0x23000c, 6, 1, 0x0⟩
def ENS_STATUS.lagging : Loc := ⟨0x23000c, 5, 1, 0x0⟩
def ENS_STATUS.held : Loc := ⟨0x23000c, 4, 1, 0x0⟩
def ENS_STATUS.excluded : Loc := ⟨0x23000c, 3, 1, 0x0⟩
def ENS_STATUS.joined : Loc := ⟨0x23000c, 2, 1, 0x0⟩
def ENS_STATUS.in_ : Loc := ⟨0x23000c, 1, 1, 0x0⟩
/-- ENS_FP (R539, 18_ensemble.md). -/
def ENS_FP.word (i_ : Nat) : Loc := ⟨0x230010 + 4 * i_, 0, 32, 0x0⟩
/-- ENS_MEMBERS (R539, 18_ensemble.md). -/
def ENS_MEMBERS.reg : Loc := ⟨0x230030, 0, 32, 0x0⟩
def ENS_MEMBERS.held : Loc := ⟨0x230030, 16, 16, 0x0⟩
def ENS_MEMBERS.present : Loc := ⟨0x230030, 0, 16, 0x0⟩
/-- ENS_LAGGING (R539, 18_ensemble.md). -/
def ENS_LAGGING.reg : Loc := ⟨0x230034, 0, 32, 0x0⟩
def ENS_LAGGING.time_fault : Loc := ⟨0x230034, 16, 16, 0x0⟩
def ENS_LAGGING.lagging : Loc := ⟨0x230034, 0, 16, 0x0⟩
/-- ENS_FP_FIELD (R539, 18_ensemble.md). -/
def ENS_FP_FIELD.reg (m : Nat) : Loc := ⟨0x230040 + 0x4 * m, 0, 32, 0x0⟩
def ENS_FP_FIELD.code (m : Nat) : Loc := ⟨0x230040 + 0x4 * m, 0, 4, 0x0⟩
/-- ENS_ARM_RGN (R539, 18_ensemble.md). -/
def ENS_ARM_RGN.reg : Loc := ⟨0x230100, 0, 64, 0x0⟩
/-- ENS_ARM_COND (R539, 18_ensemble.md). -/
def ENS_ARM_COND.reg : Loc := ⟨0x230108, 0, 64, 0x0⟩
/-- ENS_TOKEN (R539, 18_ensemble.md). -/
def ENS_TOKEN.reg : Loc := ⟨0x230110, 0, 32, 0x0⟩
def ENS_TOKEN.go : Loc := ⟨0x230110, 31, 1, 0x0⟩
def ENS_TOKEN.type_ : Loc := ⟨0x230110, 29, 2, 0x0⟩
/-- ENS_TOKEN_STATUS (R539, 18_ensemble.md). -/
def ENS_TOKEN_STATUS.reg : Loc := ⟨0x230114, 0, 32, 0x0⟩
def ENS_TOKEN_STATUS.ack : Loc := ⟨0x230114, 16, 16, 0x0⟩
def ENS_TOKEN_STATUS.busy : Loc := ⟨0x230114, 0, 1, 0x0⟩
/-- ENS_APPLY (R539, 18_ensemble.md). -/
def ENS_APPLY.reg : Loc := ⟨0x230118, 0, 64, 0x0⟩
/-- ENS_SCOPE_RGN (R539, 18_ensemble.md). -/
def ENS_SCOPE_RGN.reg : Loc := ⟨0x230120, 0, 64, 0x0⟩
/-- ENS_SCOPE_COND (R539, 18_ensemble.md). -/
def ENS_SCOPE_COND.reg : Loc := ⟨0x230128, 0, 64, 0x0⟩
/-- ENS_SYNC_DLY (R539, 18_ensemble.md). -/
def ENS_SYNC_DLY.reg : Loc := ⟨0x230130, 0, 32, 0x0⟩
/-- ENS_TIME_DIFF (R539, 18_ensemble.md). -/
def ENS_TIME_DIFF.reg : Loc := ⟨0x230134, 0, 32, 0x0⟩
/-- ENS_SYNC_NUM (R539, 18_ensemble.md). -/
def ENS_SYNC_NUM.reg : Loc := ⟨0x230138, 0, 32, 0x0⟩
/-- ENS_COUNTS (R539, 18_ensemble.md). -/
def ENS_COUNTS.reg : Loc := ⟨0x23013c, 0, 32, 0x0⟩
def ENS_COUNTS.local_refused : Loc := ⟨0x23013c, 16, 16, 0x0⟩
def ENS_COUNTS.seq_gaps : Loc := ⟨0x23013c, 0, 16, 0x0⟩
/-- WEAR_CTL (R556, 19_wear_integrity.md). -/
def WEAR_CTL.reg : Loc := ⟨0x240000, 0, 32, 0xf1040⟩
def WEAR_CTL.repair_go : Loc := ⟨0x240000, 31, 1, 0xf1040⟩
def WEAR_CTL.tile_pct : Loc := ⟨0x240000, 16, 8, 0xf1040⟩
def WEAR_CTL.tile_sweeps : Loc := ⟨0x240000, 8, 8, 0xf1040⟩
def WEAR_CTL.lane_resends : Loc := ⟨0x240000, 0, 8, 0xf1040⟩
/-- WEAR_STATUS (R556, 19_wear_integrity.md). -/
def WEAR_STATUS.reg : Loc := ⟨0x240004, 0, 32, 0x0⟩
def WEAR_STATUS.code : Loc := ⟨0x240004, 28, 4, 0x0⟩
def WEAR_STATUS.repairing : Loc := ⟨0x240004, 27, 1, 0x0⟩
def WEAR_STATUS.steering : Loc := ⟨0x240004, 26, 1, 0x0⟩
def WEAR_STATUS.ledger_fail : Loc := ⟨0x240004, 25, 1, 0x0⟩
def WEAR_STATUS.short_cols : Loc := ⟨0x240004, 16, 8, 0x0⟩
def WEAR_STATUS.rows_marked : Loc := ⟨0x240004, 8, 8, 0x0⟩
def WEAR_STATUS.tiles_marked : Loc := ⟨0x240004, 0, 8, 0x0⟩
/-- WEAR_SPARES (R556, 19_wear_integrity.md). -/
def WEAR_SPARES.reg : Loc := ⟨0x240008, 0, 32, 0x1⟩
def WEAR_SPARES.tiles : Loc := ⟨0x240008, 24, 8, 0x1⟩
def WEAR_SPARES.kp : Loc := ⟨0x240008, 20, 4, 0x1⟩
def WEAR_SPARES.lanes : Loc := ⟨0x240008, 16, 4, 0x1⟩
def WEAR_SPARES.steer : Loc := ⟨0x240008, 8, 8, 0x1⟩
def WEAR_SPARES.reserve : Loc := ⟨0x240008, 4, 4, 0x1⟩
def WEAR_SPARES.ring1 : Loc := ⟨0x240008, 0, 1, 0x1⟩
/-- WEAR_TILE_MARK (R556, 19_wear_integrity.md). -/
def WEAR_TILE_MARK.reg (w : Nat) : Loc := ⟨0x240100 + 0x4 * w, 0, 32, 0x0⟩
/-- WEAR_TILE_WARN (R556, 19_wear_integrity.md). -/
def WEAR_TILE_WARN.reg (w : Nat) : Loc := ⟨0x240200 + 0x4 * w, 0, 32, 0x0⟩
/-- WEAR_KP_MARK (R556, 19_wear_integrity.md). -/
def WEAR_KP_MARK.word (i_ : Nat) : Loc := ⟨0x240300 + 4 * i_, 0, 32, 0x0⟩
/-- WEAR_LANE_RET (R556, 19_wear_integrity.md). -/
def WEAR_LANE_RET.reg : Loc := ⟨0x240310, 0, 64, 0x0⟩
/-- WEAR_STEER_POS (R556, 19_wear_integrity.md). -/
def WEAR_STEER_POS.reg : Loc := ⟨0x240318, 0, 64, 0x0⟩
/-- WEAR_LED_IDX (R556, 19_wear_integrity.md). -/
def WEAR_LED_IDX.reg : Loc := ⟨0x240400, 0, 32, 0x0⟩
/-- WEAR_LED_LAST (R556, 19_wear_integrity.md). -/
def WEAR_LED_LAST.reg : Loc := ⟨0x240404, 0, 32, 0x0⟩
/-- WEAR_LED_DATA (R556, 19_wear_integrity.md). -/
def WEAR_LED_DATA.reg (i : Nat) : Loc := ⟨0x240410 + 0x4 * i, 0, 32, 0x0⟩
/-- CHK_HEAD (R556, 19_wear_integrity.md). -/
def CHK_HEAD.reg : Loc := ⟨0x248000, 0, 32, 0x0⟩
/-- CHK_CORR (R556, 19_wear_integrity.md). -/
def CHK_CORR.reg : Loc := ⟨0x248004, 0, 32, 0x0⟩
/-- CHK_SCRUB (R556, 19_wear_integrity.md). -/
def CHK_SCRUB.reg : Loc := ⟨0x248008, 0, 32, 0x3e80018⟩
def CHK_SCRUB.sram_ms : Loc := ⟨0x248008, 16, 16, 0x3e80018⟩
def CHK_SCRUB.sdram_h : Loc := ⟨0x248008, 0, 16, 0x3e80018⟩
/-- CHK_LOG (R556, 19_wear_integrity.md). -/
def CHK_LOG.word (i : Nat) (i_ : Nat) : Loc := ⟨0x249000 + 0x20 * i + 4 * i_, 0, 32, 0x0⟩
/-- GLB_START (R577, 20_power_startup.md). -/
def GLB_START.reg : Loc := ⟨0x400, 0, 32, 0x0⟩
def GLB_START.stage : Loc := ⟨0x400, 12, 4, 0x0⟩
def GLB_START.mgmt_addr : Loc := ⟨0x400, 10, 2, 0x0⟩
def GLB_START.boot_sel : Loc := ⟨0x400, 9, 1, 0x0⟩
def GLB_START.done : Loc := ⟨0x400, 4, 1, 0x0⟩
def GLB_START.cdc_ready : Loc := ⟨0x400, 3, 1, 0x0⟩
def GLB_START.mem_ready : Loc := ⟨0x400, 2, 1, 0x0⟩
def GLB_START.conv_ready : Loc := ⟨0x400, 1, 1, 0x0⟩
def GLB_START.store_fault : Loc := ⟨0x400, 0, 1, 0x0⟩
/-- GLB_START_TICK (R577, 20_power_startup.md). -/
def GLB_START_TICK.reg : Loc := ⟨0x408, 0, 64, 0x0⟩
/-- GLB_RST (R577, 20_power_startup.md). -/
def GLB_RST.reg : Loc := ⟨0x410, 0, 32, 0x0⟩
def GLB_RST.key : Loc := ⟨0x410, 16, 16, 0x0⟩
def GLB_RST.sys : Loc := ⟨0x410, 0, 1, 0x0⟩
/-- GLB_AVS_CTL (R577, 20_power_startup.md). -/
def GLB_AVS_CTL.reg : Loc := ⟨0x420, 0, 32, 0x64⟩
def GLB_AVS_CTL.settle_us : Loc := ⟨0x420, 0, 16, 0x64⟩
/-- GLB_AVS_MAN (R577, 20_power_startup.md). -/
def GLB_AVS_MAN.reg : Loc := ⟨0x424, 0, 32, 0x320⟩
def GLB_AVS_MAN.en : Loc := ⟨0x424, 31, 1, 0x320⟩
def GLB_AVS_MAN.mv : Loc := ⟨0x424, 0, 16, 0x320⟩
/-- GLB_AVS_STATUS (R577, 20_power_startup.md). -/
def GLB_AVS_STATUS.reg : Loc := ⟨0x428, 0, 32, 0x0⟩
def GLB_AVS_STATUS.read_mv : Loc := ⟨0x428, 16, 16, 0x0⟩
def GLB_AVS_STATUS.reg_status : Loc := ⟨0x428, 8, 8, 0x0⟩
def GLB_AVS_STATUS.refused : Loc := ⟨0x428, 2, 1, 0x0⟩
def GLB_AVS_STATUS.busy : Loc := ⟨0x428, 1, 1, 0x0⟩
def GLB_AVS_STATUS.fail : Loc := ⟨0x428, 0, 1, 0x0⟩
/-- GLB_DROOP_THR (R577, 20_power_startup.md). -/
def GLB_DROOP_THR.reg : Loc := ⟨0x430, 0, 32, 0x46321e⟩
def GLB_DROOP_THR.sag3 : Loc := ⟨0x430, 16, 8, 0x46321e⟩
def GLB_DROOP_THR.sag2 : Loc := ⟨0x430, 8, 8, 0x46321e⟩
def GLB_DROOP_THR.sag1 : Loc := ⟨0x430, 0, 8, 0x46321e⟩
/-- GLB_DROOP_STATUS (R577, 20_power_startup.md). -/
def GLB_DROOP_STATUS.reg : Loc := ⟨0x434, 0, 32, 0xffff0000⟩
def GLB_DROOP_STATUS.min_mv : Loc := ⟨0x434, 16, 16, 0xffff0000⟩
def GLB_DROOP_STATUS.refused : Loc := ⟨0x434, 1, 1, 0xffff0000⟩
def GLB_DROOP_STATUS.floor_hit : Loc := ⟨0x434, 0, 1, 0xffff0000⟩
/-- GLB_THERM (R577, 20_power_startup.md). -/
def GLB_THERM.reg : Loc := ⟨0x440, 0, 32, 0x9100⟩
def GLB_THERM.max_c : Loc := ⟨0x440, 16, 16, 0x9100⟩
def GLB_THERM.warn_c : Loc := ⟨0x440, 8, 8, 0x9100⟩
def GLB_THERM.warn : Loc := ⟨0x440, 0, 1, 0x9100⟩
/-- GLB_ALERT (R577, 20_power_startup.md). -/
def GLB_ALERT.reg : Loc := ⟨0x444, 0, 32, 0xf0000⟩
def GLB_ALERT.mask : Loc := ⟨0x444, 16, 4, 0xf0000⟩
def GLB_ALERT.rail_low : Loc := ⟨0x444, 3, 1, 0xf0000⟩
def GLB_ALERT.pclk_low : Loc := ⟨0x444, 2, 1, 0xf0000⟩
def GLB_ALERT.avs_fail : Loc := ⟨0x444, 1, 1, 0xf0000⟩
def GLB_ALERT.therm : Loc := ⟨0x444, 0, 1, 0xf0000⟩
/-- GLB_RAIL (R577, 20_power_startup.md). -/
def GLB_RAIL.reg : Loc := ⟨0x448, 0, 32, 0x0⟩
def GLB_RAIL.low : Loc := ⟨0x448, 0, 10, 0x0⟩
/-- PWR_RST_CAUSE (R577, 20_power_startup.md). -/
def PWR_RST_CAUSE.reg : Loc := ⟨0x10f00, 0, 32, 0x0⟩
def PWR_RST_CAUSE.sys_count : Loc := ⟨0x10f00, 16, 16, 0x0⟩
def PWR_RST_CAUSE.rail : Loc := ⟨0x10f00, 8, 4, 0x0⟩
def PWR_RST_CAUSE.cause : Loc := ⟨0x10f00, 0, 4, 0x0⟩
/-- PWR_REQ (R594, 21_power_states.md). -/
def PWR_REQ.reg : Loc := ⟨0x10000, 0, 32, 0x0⟩
def PWR_REQ.target : Loc := ⟨0x10000, 0, 3, 0x0⟩
/-- PWR_STATUS (R594, 21_power_states.md). -/
def PWR_STATUS.reg : Loc := ⟨0x10004, 0, 32, 0x0⟩
def PWR_STATUS.refused : Loc := ⟨0x10004, 12, 1, 0x0⟩
def PWR_STATUS.wake_latched : Loc := ⟨0x10004, 11, 1, 0x0⟩
def PWR_STATUS.waiting : Loc := ⟨0x10004, 10, 1, 0x0⟩
def PWR_STATUS.pending : Loc := ⟨0x10004, 9, 1, 0x0⟩
def PWR_STATUS.busy : Loc := ⟨0x10004, 8, 1, 0x0⟩
def PWR_STATUS.pending_target : Loc := ⟨0x10004, 2, 3, 0x0⟩
/-- PWR_STATE (R594, 21_power_states.md). -/
def PWR_STATE.reg : Loc := ⟨0x10008, 0, 32, 0x0⟩
def PWR_STATE.target : Loc := ⟨0x10008, 4, 4, 0x0⟩
def PWR_STATE.state : Loc := ⟨0x10008, 0, 4, 0x0⟩
/-- PWR_POLICY (R594, 21_power_states.md). -/
def PWR_POLICY.reg : Loc := ⟨0x1000c, 0, 32, 0x1⟩
def PWR_POLICY.keep_sr : Loc := ⟨0x1000c, 8, 1, 0x1⟩
def PWR_POLICY.ens_en : Loc := ⟨0x1000c, 2, 1, 0x1⟩
def PWR_POLICY.timer_en : Loc := ⟨0x1000c, 1, 1, 0x1⟩
def PWR_POLICY.mgmt_en : Loc := ⟨0x1000c, 0, 1, 0x1⟩
/-- PWR_TIMER (R594, 21_power_states.md). -/
def PWR_TIMER.reg : Loc := ⟨0x10010, 0, 32, 0x0⟩
/-- PWR_AON_TIME (R594, 21_power_states.md). -/
def PWR_AON_TIME.reg : Loc := ⟨0x10018, 0, 64, 0x0⟩
/-- PWR_WAKE_SRC (R594, 21_power_states.md). -/
def PWR_WAKE_SRC.reg : Loc := ⟨0x10020, 0, 32, 0x0⟩
def PWR_WAKE_SRC.mbox_bytes : Loc := ⟨0x10020, 24, 8, 0x0⟩
def PWR_WAKE_SRC.count : Loc := ⟨0x10020, 16, 8, 0x0⟩
def PWR_WAKE_SRC.from_ : Loc := ⟨0x10020, 4, 4, 0x0⟩
def PWR_WAKE_SRC.source : Loc := ⟨0x10020, 0, 4, 0x0⟩
/-- PWR_WAKE_TIME (R594, 21_power_states.md). -/
def PWR_WAKE_TIME.reg : Loc := ⟨0x10028, 0, 64, 0x0⟩
/-- PWR_WAKE_MBOX (R594, 21_power_states.md). -/
def PWR_WAKE_MBOX.reg (i : Nat) : Loc := ⟨0x10030 + 0x4 * i, 0, 32, 0x0⟩
/-- PWR_LAST (R594, 21_power_states.md). -/
def PWR_LAST.reg : Loc := ⟨0x10040, 0, 32, 0x0⟩
def PWR_LAST.replaced : Loc := ⟨0x10040, 24, 8, 0x0⟩
def PWR_LAST.wake_during_entry : Loc := ⟨0x10040, 9, 1, 0x0⟩
def PWR_LAST.by_wake : Loc := ⟨0x10040, 8, 1, 0x0⟩
def PWR_LAST.to : Loc := ⟨0x10040, 4, 4, 0x0⟩
def PWR_LAST.from_ : Loc := ⟨0x10040, 0, 4, 0x0⟩
/-- PWR_SCRATCH (R594, 21_power_states.md). -/
def PWR_SCRATCH.reg (i : Nat) : Loc := ⟨0x10800 + 0x4 * i, 0, 32, 0x0⟩

end Sys2Proof.Machine
end

