-- ==== Sys2Proof/Machine/State.lean ====
section
/-! DEFINITION. The state of the engine as plain data: registers by offset, and for each unit what its registers do not
show. Every piece of state that the spec names is here; INVENTORY.md lists each with its rule. -/

namespace Sys2Proof.Machine

/-! ### Control Ports, semaphores, events and the Mirror Port (02_host_ports.md) -/

/-- Who holds a semaphore (R54, R55). -/
inductive Holder where
  | cp (p : Port)
  | engine
deriving DecidableEq, Repr

/-- The power domains of R38 and R41. -/
inductive Domain where
  | aon | host | conv | fabric | memory | display | kp
deriving DecidableEq, Repr

/-- What a power domain is in (R41, R42). -/
inductive DomSt where
  | on | retention | off
deriving DecidableEq, Repr

/-- The state of every power domain. -/
structure Doms where
  aon : DomSt
  host : DomSt
  conv : DomSt
  fabric : DomSt
  memory : DomSt
  display : DomSt
  kp : DomSt
deriving DecidableEq, Repr

/-- What the last access that asks for an answer was completed with (the model's own field, log entry 8). -/
inductive Completion where
  /-- No access has completed yet. -/
  | idle
  /-- Successful completion of a write. -/
  | ok
  /-- Configuration Request Retry Status (R570). -/
  | retry
  /-- Successful completion of a read, with the words read. -/
  | words (ws : List Word)
  /-- Successful completion of a read of bytes. -/
  | bytes (bs : List Byte)
  /-- Completion of a read that is marked poisoned, with the bytes as read (R359). -/
  | poisoned (bs : List Byte)
  /-- Completer abort (R9, R40). -/
  | abort
  /-- The engine drives nothing (R77). -/
  | undriven
deriving DecidableEq, Repr

/-- What a port's PCI Express configuration space holds beyond its constant words (R44 to R46, R51, R52, R68). -/
structure PortCfg where
  /-- Command register: memory space enable and bus master enable. -/
  memEn : Bool
  master : Bool
  /-- What was written to the two words of each of BAR0, BAR2 and BAR4, as one number. -/
  bar0 : BitVec 64
  bar2 : BitVec 64
  bar4 : BitVec 64
  /-- Maximum payload size and maximum read request size, as codes: 0 for 128 bytes, doubling. -/
  mps : BitVec 3
  mrrs : BitVec 3
  /-- 10-bit tags as requester are enabled. -/
  tag10 : Bool
  /-- The function is in D3hot, else in D0 (R51). -/
  d3hot : Bool
  /-- ASPM L1 is enabled. -/
  aspmL1 : Bool
  /-- The L1 PM substates that are enabled: L1.2 and L1.1 of PCI power management, L1.2 and L1.1 of ASPM (bits 0 to 3). -/
  l1ss : BitVec 4
  /-- Errors detected since they were last cleared: correctable, non-fatal, fatal (bits 0 to 2). -/
  detected : BitVec 3
  /-- AER: status, mask and severity of uncorrectable errors, status and mask of correctable ones, and the header log. -/
  uncStatus : Word
  uncMask : Word
  uncSeverity : Word
  corStatus : Word
  corMask : Word
  header : BitVec 128
deriving DecidableEq, Repr

/-- A configuration space after a reset of its port. -/
def PortCfg.reset : PortCfg :=
  { memEn := false, master := false, bar0 := 0, bar2 := 0, bar4 := 0, mps := 0, mrrs := 2, tag10 := false, d3hot := false,
    aspmL1 := false, l1ss := 0, detected := 0, uncStatus := 0, uncMask := 0, uncSeverity := 0x00462030, corStatus := 0,
    corMask := 0x2000, header := 0 }

/-- One Control Port (R44 to R53, R62, R68 to R73). -/
structure PortSt where
  /-- The link is in DL_Active. -/
  dlActive : Bool
  /-- The port-relative event state is held in reset (R73). -/
  evtReset : Bool
  /-- The 64-bit read snapshot: the register's offset and its latched high word (R10). -/
  snap : Option (Nat × Word)
  /-- The pending high word: the register's offset and the word (R11). -/
  pendHi : Option (Nat × Word)
  /-- Conditions of R52 that have occurred and whose step 2 of R62 is still to come. -/
  lostPending : Nat
  /-- Vectors marked for signalling (R69). -/
  marks : Tab Bool
  /-- When the vector last sent a message, in 2.56 GHz ticks, plus 1; 0 for never (R70). -/
  lastMsg : Tab Nat
  /-- MSI-X Function Mask (R70). -/
  fnMask : Bool
  /-- MSI-X enable (R70). -/
  msixEn : Bool
  /-- The MSI-X table, 2,048 entries of 4 words, by word index (R68). -/
  msix : Tab Word
  /-- The MSI-X pending-bit array, by vector (R68, R70). -/
  pba : Tab Bool
  /-- The link is in L1 (R51, R585). -/
  inL1 : Bool
  cfg : PortCfg
deriving DecidableEq, Repr

/-- A port whose link is down (R52, R73). -/
def PortSt.reset : PortSt :=
  { dlActive := false, evtReset := true, snap := none, pendHi := none, lostPending := 0, marks := [],
    lastMsg := [], fnMask := false, msixEn := false, msix := [], pba := [], inL1 := false, cfg := PortCfg.reset }

/-- What an output pin does. -/
inductive Drive where
  | low | high | hiZ
deriving DecidableEq, Repr

/-- The semaphores (R54): holders by index, and which port lost the previous tie. -/
structure SemSt where
  holder : Tab (Option Holder)
  tieLoser : Tab (Option Port)
deriving DecidableEq, Repr

/-- What kind the previous Mirror Port edge was (R76). -/
inductive MpEdge where
  | idle | read | write
deriving DecidableEq, Repr

/-- The Mirror Port (R74 to R86) and the mirror image. -/
structure MirrorSt where
  /-- The mirror words the engine has written, by word address (R81). -/
  words : Tab Word
  /-- The Mirror Port's snapshot: the group and its 16 words (R79). -/
  snap : Option (Nat × List Word)
  /-- The word the engine drives on MP_D, if it drives it (R75). -/
  drive : Option Word
  /-- What the last sampled edge was, and the model's clock then, plus 1. -/
  last : MpEdge
  edgeAt : Nat
  /-- FC_MARKER as last accepted (R82). -/
  marker : Word
  /-- Groups with changes gathered since their last update (R168), and the words they gathered. -/
  dirty : Tab Bool
  gathered : Tab (List (Nat × Nat))
  /-- The model's clock at a group's last update, plus 1. -/
  updated : Tab Nat
deriving DecidableEq, Repr

/-! ### Structure images (03_structure_image.md) -/

/-- A tile record of an image (R89), with the bytes of local memory that it loads. -/
structure TileCfg where
  ltile : Nat
  path : Nat
  role : Nat
  laneEn : Nat
  load : Nat
  /-- Side bytes N, E, S, W. -/
  ports : List Nat
  mem : List Byte
  startPc : Nat
  fireIn : List Nat
  fireOut : List Nat
  arith : Nat
deriving DecidableEq, Repr

/-- The source of a REPLAY path (R101). -/
structure ReplaySrc where
  region : Nat
  rate : Nat
  start : Nat
  len : Nat
  index : Nat
  tick : Nat
deriving DecidableEq, Repr

/-- A coefficient table of an image (R88). -/
structure Coef where
  path : Nat
  table : Nat
  window : Nat
  data : List Byte
deriving DecidableEq, Repr

/-- The structure in force on a path. -/
structure PathImg where
  digest : List Byte
  mode : Nat
  demand : Nat
  capWrite : Nat
  /-- The image sets best_effort for the path; the path was admitted above its floor (R115). -/
  bestEffort : Bool
  bestEffortOn : Bool
  tiles : List TileCfg
  replay : ReplaySrc
deriving DecidableEq, Repr

/-- What a load has put into the shadow planes (R96 step 4). -/
structure Staged where
  pathMask : Nat
  bestEffort : Nat
  modes : List Nat
  demands : List Nat
  capWrites : List Nat
  replays : List ReplaySrc
  tiles : List TileCfg
  coefs : List Coef
  regInit : List (Nat × Word)
  digest : List Byte
deriving DecidableEq, Repr

/-- Who asked for a load (IMG_STATUS.origin, R120). -/
inductive Origin where
  | cp (p : Port)
  | boot
deriving DecidableEq, Repr

/-- Where a load or unload stands (R96, R102). -/
inductive LoadStage where
  | idle | fetch | verify | stage | admitting | ready | drain
deriving DecidableEq, Repr

/-- What a load or unload was asked for with: latched at step 1 (R96, R105). -/
structure LoadReq where
  unload : Bool
  origin : Origin
  /-- 0 host memory, 1 slot A, 2 slot B, 3 refused (R120). -/
  src : Nat
  dry : Bool
  avsRaise : Bool
  /-- Paths of an unload (R108). -/
  mask : Nat
deriving DecidableEq, Repr

/-- The load engine (R96 to R109). -/
structure LoadSt where
  stage : LoadStage
  req : LoadReq
  addr : Nat
  len : Nat
  /-- The header and directory as fetched at step 1. -/
  head : List Byte
  /-- Pass-1 digest. -/
  digest1 : List Byte
  /-- What step 3 finds: the code of the check that fails, if one does. -/
  verdict : Option Nat
  staged : Option Staged
  /-- Paths admitted above their floor at the last admission. -/
  bestEffortOn : Nat
  /-- When the first raise of R114 was asked for, in ticks of the model's clock. -/
  raiseFrom : Option Nat
  /-- The sweep that follows the last raise has not completed (R114). -/
  awaiting : Bool
  /-- The second boot slot is being tried (R109). -/
  bootSecond : Bool
  /-- A load or unload that waits (R37, R104). -/
  waiting : Option LoadReq
deriving DecidableEq, Repr

/-- No load. -/
def LoadReq.none : LoadReq :=
  { unload := false, origin := .cp .a, src := 0, dry := false, avsRaise := false, mask := 0 }

/-- The load engine at rest. -/
def LoadSt.reset : LoadSt :=
  { stage := .idle, req := LoadReq.none, addr := 0, len := 0, head := [], digest1 := [], verdict := none, staged := none,
    bestEffortOn := 0, raiseFrom := none, awaiting := false, bootSecond := false, waiting := none }

/-- A fuse operation (R112): its op and arg, and the key hash of an enrol. -/
structure FuseOp where
  op : Nat
  arg : Nat
  hash : List Byte
deriving DecidableEq, Repr

/-- The fuses (R110, R112, R624). -/
structure FuseSt where
  hash : Tab (List Byte)
  enrolled : Nat
  revoked : Nat
  svnMin : Nat
  running : Option FuseOp
  incomplete : Option FuseOp
deriving DecidableEq, Repr

/-! ### The fabric (04_fabric.md) -/

/-- What a token on a side-to-side link carries (R122, R126). -/
inductive Token where
  | word (v : Word)
  | parcel (x : Parcel)
  | void
deriving DecidableEq, Repr

/-- One tile: the tokens that wait on its four sides, the accumulators of its 16 lanes and its 64 KiB of local memory, and
whether it is marked for retirement (R121, R122, R126). -/
structure TileSt where
  inN : List Token
  inE : List Token
  inS : List Token
  inW : List Token
  acc : Tab (BitVec 48)
  mem : Tab Byte
  marked : Bool
  /-- Sweeps in a row in which the tile was found slow (R543). -/
  slowSweeps : Nat
deriving DecidableEq, Repr

/-- A tile with nothing on its sides. -/
def TileSt.reset : TileSt :=
  { inN := [], inE := [], inS := [], inW := [], acc := [], mem := [], marked := false, slowSweeps := 0 }

/-- A gap that has opened and not yet closed (R156, R159, R162). -/
structure Gap where
  first : Nat
  /-- One past the last sample; for a POWER gap of no samples it equals `first` (R158). -/
  stop : Nat
  /-- The reasons for which the span has not ended yet, as a bitmap of R160; 0 when it has. -/
  growing : Nat
  tick : Nat
  phase : Nat
  scope : Nat
  reasons : Nat
  stream : Nat
  /-- Its path ran in REPLAY when it opened (R127). -/
  replay : Bool := false
  /-- Its tick and phase were derived while the utility PLL ran from holdover (R222). -/
  held : Bool := false
deriving DecidableEq, Repr

/-- What a slot of the reorder window holds (R139 to R141). -/
inductive SlotFill where
  | empty
  | parcel (x : Parcel)
  | void
deriving DecidableEq, Repr

/-- A slot of the reorder window. -/
structure Slot where
  stream : Nat
  segment : Nat
  /-- The place in the order of R140: the index of the last input sample that the product depends on. -/
  last : Nat
  fill : SlotFill
  /-- The slot holds the last segment of its product: a product counts as one frame (R139). -/
  tail : Bool
deriving DecidableEq, Repr

/-- A block of a path: its first index, the time of that sample, the sample rate in 2^-24 Hz, the block's flags and the
zone it was taken in. -/
structure BlockRef where
  seq : Nat
  tick : Nat
  phase : Nat
  fs24 : Nat
  flags : Nat
  zone : Nat
deriving DecidableEq, Repr

/-- What the display can draw of a stream (R461): the segments in hand of the product that is leaving, and the last complete
product, a spectrum or a detector trace. -/
structure ShownProduct where
  parts : List Parcel
  whole : List Parcel
deriving DecidableEq, Repr

/-- One path: its structure, elastic buffer, reorder window and gaps (R139 to R163). -/
structure PathSt where
  img : Option PathImg
  /-- Parcels past the fabric entry that have not yet arrived at the buffer. -/
  entry : List Parcel
  /-- The elastic buffer, head first. -/
  eb : List Parcel
  /-- The drop rule of R146 is in force. -/
  dropping : Bool
  /-- Event 37 may be raised (R147). -/
  highArmed : Bool
  /-- The next block stored carries GAP_BEFORE. -/
  gapBefore : Bool
  window : List Slot
  /-- Products that analysis has made of frames still at work in the tiles: the last sample, and the parcel (R125, R139). -/
  work : List (Nat × Parcel)
  /-- Frames that a failed firing has lost, by stream and last sample (R126); and spans of input that tiles have lost, by
  first sample, end and stream (R137). -/
  lostFrames : List (Nat × Nat)
  lostSpans : List (Nat × Nat × Nat)
  /-- The last input sample of the parcel last released (R140). -/
  released : Nat
  /-- Spans of samples that were analysed and whose record has merged to scope INPUT, newest first (R161). -/
  invalid : List (Nat × Nat)
  gaps : List Gap
  /-- Spans of INPUT-scope gaps that have closed, newest first. -/
  closed : List (Nat × Nat)
  /-- Blocks of the path, newest first: where each starts in time (R214). -/
  refs : List BlockRef
  /-- The number of the next gap record (R159). -/
  number : Nat
  /-- Streams whose next parcel carries GAP_BEFORE: the product before it is missing (R131, R141). -/
  gapStreams : List Nat
  /-- Gaps whose records have closed since the structure came into force, newest first: one past the last sample, the
  stream and the scope (R131). -/
  gapEnds : List (Nat × Nat × Nat)
  /-- By stream, one more than the seq of the parcel last released; 0 for none. -/
  sent : Tab Nat
  /-- The entry takes no blocks (R102 steps 1 to 4). -/
  stopped : Bool
  /-- What the last release gave to the consumers, in order. -/
  exit : List Parcel
  /-- Of products that have left: their stream, their seq and the last input sample they depend on, newest first (R370). -/
  spans : List (Nat × Nat × Nat)
  /-- By stream, the products that the display's traces draw (R461). -/
  shown : Tab ShownProduct
  /-- Byte position of the next stored parcel or unit a REPLAY path reads, and the bytes it has read (R101). -/
  replayPos : Nat
  replayRead : Nat
  replayOn : Bool
deriving DecidableEq, Repr

/-- A path without a structure. -/
def PathSt.reset : PathSt :=
  { img := none, entry := [], eb := [], dropping := false, highArmed := true, gapBefore := false, window := [],
    work := [], lostFrames := [], lostSpans := [], released := 0, invalid := [], gaps := [], closed := [], refs := [], number := 0, gapStreams := [],
    gapEnds := [], sent := [], stopped := false, exit := [], spans := [], shown := [], replayPos := 0, replayRead := 0,
    replayOn := false }

/-- The fabric. -/
structure FabSt where
  tiles : Tab TileSt
  paths : Tab PathSt
  /-- Engine-time tick at which the last completed sweep started, plus 1; 0 for none (R113). -/
  sweepTick : Nat
  /-- Sweeps in a row with headroom above margin_high (R154). -/
  aboveHigh : Nat
deriving DecidableEq, Repr

/-! ### Converters (05_converters.md) -/

/-- One converter: what its registers do not show (R170 to R197). -/
structure CnvSt where
  /-- CNV_CTL.input_sel and zone in force since the last block boundary that applied them (R173, R198). -/
  sel : Nat
  zone : Nat
  /-- Samples of the next blocks that still carry UNSETTLED (R173). -/
  unsettled : Nat
  /-- Stops that fast reconvergence still has to run (R182). -/
  recStops : Nat
  /-- Fast reconvergence has been asked for while the converter did not sample (R182). -/
  recWait : Bool
  /-- How many stops in a row found a slice's residual over the estimator's limit, by slice (R185). -/
  overLimit : Tab Nat
  /-- The rotation stands still until relock (R183). -/
  carHeld : Bool
  /-- The next stop is the first stop of the reserve, with four times the dwell (R186). -/
  firstReserve : Bool
  /-- The worn event of a slice that stays as WORN_KEPT has been raised, by slice bit. -/
  wornKept : Nat
  /-- The rotation stands still under CNV_CAR_CTL.hold (R184). -/
  carStopped : Bool
  /-- Samples of the recovery span still to come (R190), and clipped samples of the episode in progress in the blocks made
  since it began (R192). -/
  recovery : Nat
  clips : Nat
  /-- While protection is active and CNV_PROT.en has been written: the en in force until it ends (R201). -/
  protEn : Option Bool
  /-- The overrange episode in progress has engaged protection (R192). -/
  protDone : Bool
  /-- For how many samples in a row the fast level trigger has been true; 0 while it is false (R195). -/
  flt : Nat
  /-- The block that the converter die keeps for resends, and how many copies have failed (R136). -/
  sent : Option Parcel
  tries : Nat
  /-- Markers to attach, oldest first: the stamp, and the code (R83, R132). -/
  markers : List (Stamp × Nat)
  /-- The next delivered block carries GAP_BEFORE (R158, R200). -/
  resumed : Bool
  /-- The converter has left IDLE and samples once the sample PLL, which was stopped in SLEEP, has locked (R200, R211). -/
  lockWait : Bool
  /-- While CLK_INVALID is in force: how many more blocks carry it, once that is known (R211 step 6, R218). -/
  clkLeft : Option Nat
  /-- How many more blocks carry it for a SYNC edge, whatever the lock does (R218). -/
  clkSync : Nat
  /-- Fast reconvergence follows the CLK_INVALID span (R211). -/
  clkRec : Bool
  /-- Blocks carry STALE (R512). -/
  stale : Bool
  /-- The model's clock when the dwell of the present stop ends (R179). -/
  stopDue : Nat
  /-- The clock when a sample last clipped (R193). -/
  clipAt : Nat
deriving DecidableEq, Repr

/-- A converter at start-up. -/
def CnvSt.reset : CnvSt :=
  { sel := 0, zone := 0, unsettled := 0, recStops := 0, recWait := false, overLimit := [], carHeld := false,
    firstReserve := false, wornKept := 0, carStopped := false, recovery := 0, clips := 0, protEn := none, protDone := false, flt := 0,
    sent := none, tries := 0, markers := [], resumed := false, lockWait := false, clkLeft := none, clkSync := 0, clkRec := false,
    stale := false, stopDue := 0, clipAt := 0 }

/-! ### Clocks (06_sample_clocks.md) -/

/-- One CLKOUT output (R215, R216): `left` and `high` are what is left of its present cycle and of that cycle's high phase,
in 2^-28 cycles of its source. -/
structure ClkOut where
  /-- It is driven; else it is high-impedance. -/
  on : Bool
  /-- It goes to high impedance at the end of its present cycle. -/
  ending : Bool
  left : Nat
  high : Nat
  /-- The divider and the delay in force, the delay in the same unit. -/
  div : Nat
  delay : Nat
deriving DecidableEq, Repr

/-- An output in high impedance. -/
def ClkOut.reset : ClkOut := { on := false, ending := false, left := 0, high := 0, div := 8, delay := 0 }

/-- A reset of the selected dividers that waits for the second rising edge of REF160 after an edge of SYNC_IN (R217). -/
structure SyncDue where
  /-- That edge, in ticks of the model's own clock. -/
  clk : Nat
  /-- That edge's tick, which SYNC_TICK takes. -/
  tick : Nat
  /-- SYNC_CTL.clkout: the CLKOUT dividers are reset. -/
  clkout : Bool
  /-- The slice-clock dividers are reset, and that moves their phase (R218). -/
  slips : Bool
deriving DecidableEq, Repr

/-- The reference, the two PLLs, PPS_IN, CLKOUT and SYNC (R204 to R229). -/
structure ClkSt where
  /-- The frequency of REFIN as last measured: 1 for 10 MHz, 2 for 100 MHz, 0 for none yet (R204). -/
  refin : Nat
  /-- Engine-time position of the last counted PPS edge (R207). -/
  ppsLast : Option Stamp
  /-- Windows that have closed since the last counted edge. -/
  ppsWindows : Nat
  /-- Windows missed in a row. -/
  ppsMissRun : Nat
  /-- The next edge is counted without a window. -/
  ppsFree : Bool
  /-- An edge has been counted since start-up. -/
  ppsSeen : Bool
  /-- The hop-table entry that the acquisition in progress came from (R213). -/
  hopEntry : Option Nat
  /-- The starting band of the acquisition in progress (R212, R213). -/
  startBand : Option Nat
  /-- The band last stored for a divider value, plus 1 (R212). -/
  bands : Tab Nat
  /-- The detector of the utility PLL has tripped and it has not relocked. -/
  upllOut : Bool
  /-- A step has been applied since the holdover began (R223). -/
  stepDone : Bool
  /-- A holdover has ended or runs whose step is still to come (R223). -/
  stepDue : Bool
  /-- CLKOUT_0 and CLKOUT_1. -/
  clkout0 : ClkOut
  clkout1 : ClkOut
  /-- CLKOUT is held low by squelch (R216). -/
  squelched0 : Bool
  squelched1 : Bool
  /-- The divider reset that an edge of SYNC_IN has called for (R217). -/
  syncDue : Option SyncDue
  /-- Starts of the pulses on SYNC_OUT that are not over, in ticks of the model's own clock (R219). -/
  syncPulses : List Nat
deriving DecidableEq, Repr

/-- The clock units at start-up. -/
def ClkSt.reset : ClkSt :=
  { refin := 0, ppsLast := none, ppsWindows := 0, ppsMissRun := 0, ppsFree := true, ppsSeen := false, hopEntry := none,
    startBand := none, bands := [], upllOut := false, stepDone := false, stepDue := false, clkout0 := ClkOut.reset,
    clkout1 := ClkOut.reset, squelched0 := false, squelched1 := false, syncDue := none, syncPulses := [] }

/-! ### Down-conversion and zoom (07_zoom_resampling.md) -/

/-- A complex sample (R349: sums of samples; R235: words between stages). -/
structure IQ where
  i : Int
  q : Int
deriving DecidableEq, Repr

/-- A sample between stages (R235): its 17-bit words, its number in its stream, the instant it represents in units of
2^-138 converter samples, and its flags. -/
structure Smp where
  v : IQ
  n : Nat
  pos : Nat
  flags : Nat
deriving DecidableEq, Repr

/-- The newest inputs of a filter, newest first, and how many inputs are still to come whose outputs have a step point or
a clearing in their span (R251, R252). -/
structure Filt where
  line : List Smp
  unset : Nat
deriving DecidableEq, Repr

/-- A filter without history. -/
def Filt.reset : Filt := { line := [], unset := 30 }

/-- The settings of a zoom window in force (R239, R258). -/
structure WinCfg where
  level : Nat
  parent : Nat
  k : Nat
  bypass : Bool
  word : Nat
  offset : Nat
  ratio : Nat
  gain : Nat
  float : Bool
  phaseReset : Bool
deriving DecidableEq, Repr

/-- The settings of a transform instance and its detectors in force (R262, R268). -/
structure XfCfg where
  /-- 0 for unused; 1 baseband; 2 + w zoom window w. -/
  source : Nat
  stream : Nat
  nLog2 : Nat
  h : Nat
  window : Nat
  float : Bool
  kM1 : Nat
  detEn : Nat
deriving DecidableEq, Repr

/-- Every setting of a path that a commit applies (R248, R287). -/
structure PathCfg where
  word : Nat
  offset : Nat
  phaseReset : Bool
  headroom : Nat
  float : Bool
  wins : List WinCfg
  xfs : List XfCfg
  /-- Bands 1 to 15: en, lo, hi (R270). -/
  bands : List (Bool × Nat × Nat)
  chzM : Nat
  chzTaps : Nat
  chzOs : Bool
  chzShift : Nat
  chzExcl : Nat
  chzCount : Nat
  skEn : Bool
  skM : Nat
  skLower : Nat
  skUpper : Nat
  envEn : Bool
  envLog2 : Nat
deriving DecidableEq, Repr

/-- A cross-fade that runs (R246, R247): its target bank, its length, and how many outputs it has made. -/
structure Fade where
  target : Bool
  len : Nat
  done : Nat
deriving DecidableEq, Repr

/-- One zoom window (R238 to R247). -/
structure WinSt where
  /-- NCO phase accumulator, 48 bits (R233). -/
  acc : Nat
  /-- The half-band stages (R234). -/
  stages : List Filt
  /-- The resampler's newest inputs. -/
  line : Filt
  /-- Position of the next resampler output, in 2^-46 of an input sample (R242); none before the first input. -/
  pos : Option Nat
  /-- Number of the next output; and without the resampler, the number of the newest half-band output since the stages
  last changed. -/
  next : Nat
  raw : Option Nat
  /-- Numbers of the outputs that lie a new ρ beyond the one before, still to join their parcels (R244). -/
  turns : List Nat
  /-- The output parcel that is being filled, newest first, the number from which parcels are counted, and whether a gap
  has taken samples away since the last parcel (R280). -/
  out : List Smp
  grid : Option Nat
  outCut : Bool
  /-- Indices of the commits whose settings the mixer and the output have last used. -/
  inCfg : Nat
  outCfg : Nat
  /-- Coefficient banks A and B, 18-bit two's complement entries (R242, R245). -/
  bankA : Tab (BitVec 18)
  bankB : Tab (BitVec 18)
  fade : Option Fade
  /-- A requested fade that has not started (R246): its target, its length, and the first index it may start at. -/
  want : Option (Bool × Nat × Nat)
  /-- Index of the first output of a fade, until ZM_FADE_START reports it. -/
  began : Option Nat
  /-- The request held pending during a fade. -/
  pending : Option (Bool × Nat)
deriving DecidableEq, Repr

/-- A window at switch-over (R251, R257). -/
def WinSt.reset : WinSt :=
  { acc := 0, stages := [], line := { line := [], unset := 31 }, pos := none, next := 0, raw := none, turns := [], out := [],
    grid := none, outCut := false, inCfg := 0, outCfg := 0, bankA := [], bankB := [],
    fade := none, want := none, began := none, pending := none }

/-- A converter sample on its way into HB0: the mixer's complex word, and its flags. -/
structure Mixed where
  v : IQ
  flags : Nat
deriving DecidableEq, Repr

/-- The main down-converter of a path (R230 to R237). -/
structure DdcSt where
  acc : Nat
  /-- The newest 31 inputs of HB0, newest first; and inputs still to come whose outputs are UNSETTLED. -/
  line : List Mixed
  unset : Nat
  /-- Index of the first sample since the history was cleared. -/
  clearAt : Nat
  /-- The IQ parcel of the baseband that is being filled, newest first (R280, R281), the number from which parcels are
  counted, and whether a gap has taken samples away since the last parcel. -/
  out : List Smp
  grid : Option Nat
  outCut : Bool
  wins : Tab WinSt
  /-- The settings of each commit by its index, oldest first (R248); those no stage can still need are dropped. -/
  cfgs : List (Nat × PathCfg)
  /-- Indices of the commits whose settings the mixer and the output have last used. -/
  inCfg : Nat
  outCfg : Nat
  /-- The commit sample of a commit that has been asked for (R248). -/
  commitAt : Option Nat
  /-- Indices of the first samples of blocks at which a step point lies (R251). -/
  steps : List Nat
  /-- Markers of blocks taken, newest first: the marked index and the code; and by stream one more than the newest input
  sample that a product has included (R132). -/
  marks : List (Nat × Nat)
  carried : Tab Nat
deriving DecidableEq, Repr

/-- A down-converter with empty filters. -/
def DdcSt.reset : DdcSt :=
  { acc := 0, line := [], unset := 30, clearAt := 0, out := [], grid := none, outCut := false, wins := [], cfgs := [],
    inCfg := 0, outCfg := 0, commitAt := none, steps := [], marks := [], carried := [] }

/-! ### Transforms, channelizer and detectors (08_transforms.md) -/

/-- A detector interval (R268): its number, the spectra combined, the positions of its first sample and one past its last
in units of 2^-138 converter samples, the settings in force for it, and per bin the largest and smallest word, the sum of
words, the sum of powers and, once it has ended, the hold value. -/
structure DetIval where
  number : Nat
  used : Nat
  first : Nat
  last : Nat
  /-- The number of the newest frame, the distance of frames, and, once the interval has ended, the place of its end in the
  order of R140: that of the last frame it could hold. -/
  newest : Nat
  step : Nat
  reach : Nat
  flags : Nat
  kM1 : Nat
  detEn : Nat
  nLog2 : Nat
  window : Nat
  stream : Nat
  bands : List (Bool × Nat × Nat)
  peak : List Nat
  low : List Nat
  sumV : List Nat
  sumP : List Nat
  hold : List Nat
deriving DecidableEq, Repr

/-- An interval with nothing in it. -/
def DetIval.empty : DetIval :=
  { number := 0, used := 0, first := 0, last := 0, newest := 0, step := 0, reach := 0, flags := 0, kM1 := 999, detEn := 0, nLog2 := 0, window := 0, stream := 0,
    bands := [], peak := [], low := [], sumV := [], sumP := [], hold := [] }

/-- A detector bank (R268). -/
structure DetSt where
  /-- The interval in formation, and the number of its first frame. -/
  run : DetIval
  from_ : Nat
  /-- Intervals that have ended and are still to be delivered, oldest first. -/
  ended : List DetIval
  hold : List Nat
  /-- The hold detector restarts at the next boundary. -/
  holdReset : Bool
deriving DecidableEq, Repr

/-- A detector bank with nothing in it. -/
def DetSt.reset : DetSt := { run := DetIval.empty, from_ := 0, ended := [], hold := [], holdReset := false }

/-- A frame grid (R263): the settings it runs under, the number of the first source sample of frame 0, the next frame, and
the first frame that does not begin before the next grid. -/
structure XfGrid where
  cfg : XfCfg
  k0 : Nat
  frame : Nat
  stop : Option Nat
deriving DecidableEq, Repr

/-- A spectrum as the units behind the path exit take it: its first sample's index, its frame number, and the log-power
words and powers of its bins. -/
structure Spectrum where
  seq : Nat
  frame : Nat
  v : List Nat
  p : List Nat
deriving DecidableEq, Repr

/-- What a band monitor or the usable-band summary last reported (R270): the interval's first index and flags, the peak
and the power. -/
structure BandReport where
  first : Nat
  flags : Nat
  peak : Nat
  power : Nat
deriving DecidableEq, Repr

/-- A transform instance (R261 to R267). -/
structure XfSt where
  /-- The frame grids, the one in use first: a later one takes over after a commit (R289). -/
  grids : List XfGrid
  /-- Source samples from the next frame's first on, oldest first. -/
  buf : List Smp
  /-- Number and position of the newest source sample. -/
  newest : Option (Nat × Nat)
  det : DetSt
  /-- Spectra made, newest first. -/
  recent : List Spectrum
deriving DecidableEq, Repr

/-- A transform instance at switch-over. -/
def XfSt.reset : XfSt := { grids := [], buf := [], newest := none, det := DetSt.reset, recent := [] }

/-- A kurtosis block (R271, R272). -/
structure SkBlk where
  number : Nat
  used : Nat
  first : Nat
  last : Nat
  /-- As in `DetIval`. -/
  newest : Nat
  step : Nat
  reach : Nat
  flags : Nat
  mLog2 : Nat
  lower : Nat
  upper : Nat
  s1 : List Nat
  s2 : List Nat
deriving DecidableEq, Repr

/-- A block with nothing in it. -/
def SkBlk.empty : SkBlk :=
  { number := 0, used := 0, first := 0, last := 0, newest := 0, step := 0, reach := 0, flags := 0, mLog2 := 8, lower := 0x0B33, upper := 0x1666, s1 := [], s2 := [] }

/-- The kurtosis unit of a path. -/
structure SkSt where
  /-- The block in formation, and the number of its first spectrum or channel sample. -/
  run : SkBlk
  from_ : Nat
  /-- Blocks that have ended and are still to be delivered, oldest first. -/
  ended : List SkBlk
  /-- Flags per bin of the last block. -/
  flagged : List Bool
deriving DecidableEq, Repr

/-- A kurtosis unit with an empty block. -/
def SkSt.reset : SkSt := { run := SkBlk.empty, from_ := 0, ended := [], flagged := [] }

/-- An integral (R276 to R279). -/
structure ChzInt where
  number : Nat
  used : Nat
  excluded : Nat
  first : Nat
  last : Nat
  /-- As in `DetIval`, of channel samples. -/
  newest : Nat
  step : Nat
  reach : Nat
  flags : Nat
  count : Nat
  m : Nat
  os : Bool
  excl : Nat
  sums : List Nat
deriving DecidableEq, Repr

/-- An integral with nothing in it. -/
def ChzInt.empty : ChzInt :=
  { number := 0, used := 0, excluded := 0, first := 0, last := 0, newest := 0, step := 0, reach := 0, flags := 0, count := 156250, m := 16, os := false,
    excl := 0, sums := [] }

/-- The channelizer of a path (R274 to R279). -/
structure ChzSt where
  /-- Settings in force: size exponent, taps code, oversampling, shift; none before the first sample. -/
  cfg : Option (Nat × Nat × Bool × Nat)
  /-- Number of the first source sample counted. -/
  k0 : Nat
  /-- The newest source samples, newest first, and how many are still to come whose channel samples are UNSETTLED. -/
  line : List Smp
  unset : Nat
  /-- The integral in formation, and the number of its first channel sample. -/
  run : ChzInt
  from_ : Nat
  /-- Integrals that have ended and are still to be delivered, oldest first. -/
  ended : List ChzInt
deriving DecidableEq, Repr

/-- A channelizer at switch-over. -/
def ChzSt.reset : ChzSt := { cfg := none, k0 := 0, line := [], unset := 0, run := ChzInt.empty, from_ := 0, ended := [] }

/-- An envelope record (R283): interval words, newest first, the number and position of the first interval, samples
combined, and the interval's length exponent. -/
structure EnvRec where
  words : List (Nat × Nat)
  number : Nat
  first : Nat
  last : Nat
  /-- Once the record has ended, the place of its end in the order of R140. -/
  reach : Nat
  used : Nat
  flags : Nat
  log2 : Nat
deriving DecidableEq, Repr

/-- A record with nothing in it. -/
def EnvRec.empty : EnvRec := { words := [], number := 0, first := 0, last := 0, reach := 0, used := 0, flags := 0, log2 := 10 }

/-- The envelope of a TRANSIENT path (R282, R283). -/
structure EnvSt where
  /-- Settings in force (enable and exponent), and the number of the first baseband sample of the count. -/
  cfg : Option (Bool × Nat)
  k0 : Nat
  /-- Position of that sample, in units of 2^-138 converter samples. -/
  base : Nat
  /-- The running interval: its number, samples, largest power and sum of powers, in quarters of the 16-bit scale. -/
  number : Nat
  used : Nat
  peak : Nat
  sum : Nat
  run : EnvRec
  ended : List EnvRec
deriving DecidableEq, Repr

/-- An envelope with nothing in it. -/
def EnvSt.reset : EnvSt :=
  { cfg := none, k0 := 0, base := 0, number := 0, used := 0, peak := 0, sum := 0, run := EnvRec.empty, ended := [] }

/-- The products of one path: transform instances, kurtosis, channelizer, envelope, and the coefficient tables of its
image (R88). -/
structure XfPath where
  insts : Tab XfSt
  sk : SkSt
  chz : ChzSt
  env : EnvSt
  custom : Tab (List Nat)
  proto : List Nat
deriving DecidableEq, Repr

/-- A path without products. -/
def XfPath.reset : XfPath :=
  { insts := [], sk := SkSt.reset, chz := ChzSt.reset, env := EnvSt.reset, custom := [], proto := [] }

/-! ### Density tables and masks (09_density_masks.md) -/

/-- A spectrogram line in formation (R311): per column the largest word, the sum of powers and the bins in it; spectra
combined, and the first one's stamp. -/
structure KalLine where
  top : List Nat
  sum : List Nat
  bins : List Nat
  used : Nat
  first : Nat
  tick : Nat
  phase : Nat
  flags : Nat
  number : Nat
deriving DecidableEq, Repr

/-- A line with nothing in it. -/
def KalLine.reset : KalLine :=
  { top := [], sum := [], bins := [], used := 0, first := 0, tick := 0, phase := 0, flags := 0, number := 0 }

/-- A decay sweep of a density table (R306): its shift, the model clock at which it started, and how many columns it has
stepped. -/
structure DecaySweep where
  shift : Nat
  start : Nat
  column : Nat
deriving DecidableEq, Repr

/-- A density table (R298 to R311). -/
structure KalSt where
  /-- Cells by 4,096 a + c; a spoilt one holds 0 (R310). -/
  cells : Tab Word
  /-- Cells whose memory words hold an uncorrectable error that no write has replaced (R310). -/
  spoilt : List Nat
  /-- A clear waits for the next spectrum boundary. -/
  clearAsked : Bool
  /-- The decay sweep that runs. -/
  sweep : Option DecaySweep
  /-- Lines that stand one after another in the region in force up to KAL_LINE_NEXT, and the lifetime position there (R460). -/
  laid : Nat
  laidEnd : Nat
  /-- The model clock at which the period of the next sweep began to count (R306, R307). -/
  periodFrom : Nat
  line : KalLine
deriving DecidableEq, Repr

/-- A density table at start-up. -/
def KalSt.reset : KalSt := { cells := [], spoilt := [], clearAsked := false, sweep := none, laid := 0, laidEnd := 0, periodFrom := 0, line := KalLine.reset }

/-- The result of a mask on a spectrum (R316). -/
structure MskResult where
  seq : Nat
  tick : Nat
  phase : Nat
  flags : Nat
  copy : Bool
  up : Nat
  down : Nat
  lowest : Nat
  excess : Nat
  excessBin : Nat
deriving DecidableEq, Repr

/-- A mask (R314 to R319): the indices from which a changed binding and a pending swap apply, and its last result. -/
structure MskSt where
  bindAt : Option Nat
  swapAt : Nat
  result : Option MskResult
deriving DecidableEq, Repr

/-- A mask at start-up. -/
def MskSt.reset : MskSt := { bindAt := none, swapAt := 0, result := none }

/-- The density tables and the mask unit: mask-table entries by number (R313). -/
structure KalUnits where
  tables : Tab KalSt
  entries : Tab Word
  /-- Entries whose memory words hold an uncorrectable error that no write has replaced (R318). -/
  spoilt : List Nat
  masks : Tab MskSt
deriving DecidableEq, Repr

/-- The units at start-up. -/
def KalUnits.reset : KalUnits := { tables := [], entries := [], spoilt := [], masks := [] }

/-! ### Triggers (10_triggers.md) -/

/-- How an occurrence's stamp is given (R333): as an index on the home path, with the flags of its product; as such an index
whose block gives the flags (R339); or as the instant of an input edge or of a force. -/
inductive OccBy where
  | index | sample | input | forced
deriving DecidableEq, Repr

/-- An occurrence of a condition (R326, R333): its stamp on the home path, and the flags of the parcel it lies in. -/
structure Occ where
  cond : Nat
  index : Nat
  frac : Nat
  tick : Nat
  phase : Nat
  flags : Nat
  /-- The stamped sample lies in an INPUT-scope gap (R344). -/
  inGap : Bool
  by_ : OccBy
deriving DecidableEq, Repr

/-- What a source has delivered that a condition is still to evaluate (R326): an IQ sample by its position in units of 2^-138
converter samples and its word; a mask result; what a band monitor reports, none where it is inactive; and of a kurtosis block
its first index, its flags and its flagged bins in the condition's band, none where that is inactive. -/
inductive EvalDue where
  | iq (pos : Nat) (v : IQ)
  | mask (r : MskResult)
  | band (r : Option BandReport)
  | kurtosis (first flags : Nat) (count : Option Nat)
deriving DecidableEq, Repr

/-- An arm or a disarm of a condition (R330): it takes effect at the first sample of the home path at or after a time, on a
REPLAY path at an index. -/
structure ArmChange where
  on : Bool
  time : Stamp
  index : Option Nat
deriving DecidableEq, Repr

/-- An open window of a sequence (R335): the stamp of the firing that opened it, in phase bins and as an index, and its two
ends in phase bins. -/
structure SeqWindow where
  opened : Nat
  index : Nat
  lo : Nat
  hi : Nat
deriving DecidableEq, Repr

/-- One trigger condition: what its registers do not show (R326 to R339). -/
structure CondSt where
  /-- Evaluation points that are due, oldest first. -/
  due : List EvalDue
  raw : Bool
  /-- Length of the true run in progress, in IQ samples (R327). -/
  run : Nat
  /-- The last evaluated IQ sample: its position and its power (R333). -/
  prev : Option (Nat × Nat)
  /-- Stamp of the last firing (R338). -/
  last : Option Stamp
  lastSuppressed : Bool
  /-- Open windows of a sequence (R335). -/
  windows : List SeqWindow
  /-- Armed in force, and arms and disarms that take effect from a stamp on, oldest first (R330). -/
  armed : Bool
  changes : List ArmChange
deriving DecidableEq, Repr

/-- A condition at start-up. -/
def CondSt.reset : CondSt :=
  { due := [], raw := false, run := 0, prev := none, last := none, lastSuppressed := false, windows := [], armed := false, changes := [] }

/-- A trigger input (R345). -/
structure TrigIn where
  /-- Engine time of the last stamped edge. -/
  last : Option Stamp
  /-- A crowded or stuck edge has come since (R485), and the clock at the newest edge to the active level (R345). -/
  marked : Bool
  activeAt : Nat
  /-- The level of the pin, as its last edge left it (R345). -/
  pin : Bool
deriving DecidableEq, Repr

/-- A trigger input at start-up: its pin is low until an edge says otherwise (log entry 82). -/
def TrigIn.reset : TrigIn := { last := none, marked := false, activeAt := 0, pin := false }

/-- A trigger output (R346 to R348). -/
structure TrigOut where
  drive : Drive
  /-- Engine time at which the pulse in progress ends. -/
  stop : Option Nat
  /-- Ticks at which aligned pulses are due (R348). -/
  due : List Nat
deriving DecidableEq, Repr

/-- A trigger that waits to be added into the averaging buffer (R349): region, first IQ sample, the trigger's index
and tick. -/
structure AvgTodo where
  region : Nat
  start : Int
  index : Nat
  tick : Nat
deriving DecidableEq, Repr

/-- The averaging buffer of a path (R349, R350). -/
structure AvgSt where
  sums : List IQ
  added : Nat
  skipped : Nat
  first : Nat
  firstTick : Nat
  flags : Nat
  /-- Recent IQ parcels of the path, oldest first. -/
  hist : List Parcel
  todo : List AvgTodo
deriving DecidableEq, Repr

/-- An empty averaging buffer. -/
def AvgSt.reset : AvgSt :=
  { sums := [], added := 0, skipped := 0, first := 0, firstTick := 0, flags := 0, hist := [], todo := [] }

/-- The trigger engine. -/
structure TrgSt where
  conds : Tab CondSt
  /-- Occurrences that are not decided yet (R336). -/
  queue : List Occ
  ins : Tab TrigIn
  outs : Tab TrigOut
  avg : Tab AvgSt
deriving DecidableEq, Repr

/-! ### Capture memory (11_capture_memory.md) -/

/-- The classes of lease holders (R364), in table order. -/
inductive LeaseClass where
  | dma | display | stream | replay | lines | records
deriving DecidableEq, Repr

/-- Units that a formatter has written side by side, from one parcel (R366 to R371). -/
structure Held where
  /-- Number of the first unit, and how many. -/
  unit : Nat
  count : Nat
  /-- Lifetime byte position of the first, and bytes in all. -/
  pos : Nat
  bytes : Nat
  /-- Position of the first unit and spacing of units, in 2^-138 converter samples; and the last sample they cover. -/
  first : Nat
  spacing : Nat
  last : Nat
  flags : Nat
  marker : Option Nat
  /-- A GAP parcel. -/
  gap : Bool
deriving DecidableEq, Repr

/-- A capture in progress (R370 to R375): the 48 bytes of its trigger record (R344) and the trigger's index, P and Q, the
index and the unit that its pre-trigger units do not go below (R371, R373), and one past the unit at which its formatter has
stopped (R373, R378). -/
structure Capture where
  trigger : List Byte
  index : Nat
  pre : Nat
  post : Nat
  since : Nat
  floor : Nat
  stop : Option Nat
deriving DecidableEq, Repr

/-- A capture that has been recorded: its number and the lifetime positions it covers (R373), and where samples run on without
a gap in it: the position of each such run, and its first sample in units of `posUnit` (R368, R446). -/
structure Recorded where
  number : Nat
  start : Nat
  stop : Nat
  runs : List (Nat × Nat)
deriving DecidableEq, Repr

/-- One capture region: what its registers do not show. -/
structure RegionSt where
  /-- Geometry in force (R362). -/
  base : Nat
  sizeLog2 : Nat
  /-- Leases: holder class and number (R364). -/
  leases : List (LeaseClass × Nat)
  held : List Held
  /-- Units written since creation, for a format of parcels. -/
  units : Nat
  /-- Spans of indices that the formatter takes, newest first: each from an arming on, and up to the sample of a disarm
  (R366, R372). -/
  spans : List (Nat × Option Nat)
  /-- Index of the last arming (R371), and the unit at which the formatter last resumed (R373). -/
  since : Nat
  floor : Nat
  /-- Captures in progress or waiting for their record, oldest first. -/
  captures : List Capture
  /-- Extended index that the post-trigger span of the last acted trigger reaches to. -/
  capEnd : Nat
  recorded : List Recorded
  /-- Number of the next capture (R375). -/
  number : Nat
  /-- Start of the last recorded capture (R380). -/
  lastStart : Nat
  /-- The record region whose lease this region took (R364). -/
  recLease : Option Nat
  /-- Trigger side (R340 to R343): stamps of the acted trigger, and hold-off. -/
  trigAt : Option Stamp
  trigIndex : Nat
  trigFrac : Nat
  holdUntil : Option Nat
  holdFirings : Nat
  disarmPending : Bool
  /-- The firing that ended an events hold-off: its index and fraction on the region's path. -/
  holdEnd : Option (Nat × Nat)
  /-- The index from which a disarm of the armed region holds: firings before it that are decided later still reach it
  (R336). -/
  offAt : Option Nat
  /-- Triggers acted on since start-up (R344). -/
  acted : Nat
deriving DecidableEq, Repr

/-- A region that does not exist. -/
def RegionSt.reset : RegionSt :=
  { base := 0, sizeLog2 := 20, leases := [], held := [], units := 0, spans := [], since := 0, floor := 0, captures := [], capEnd := 0, recorded := [], number := 0,
    lastStart := 0, recLease := none, trigAt := none, trigIndex := 0, trigFrac := 0, holdUntil := none, holdFirings := 0,
    disarmPending := false, holdEnd := none, offAt := none, acted := 0 }

/-! ### Kernel processors (12_kernel_processors.md) -/

/-- An entry of the call stack: PC, SR and RC (R385), and the sources that wait for the end of the repeat it interrupts
(R404). -/
structure KpFrame where
  pc : Nat
  sr : Nat
  rc : Nat
  late : Nat
  /-- An interrupt made the entry, not a CALL (R402, R403). -/
  irq : Bool
deriving DecidableEq, Repr

/-- A hardware loop: the addresses of its first and last instruction, and the passes left. -/
structure KpLoop where
  start : Nat
  stop : Nat
  left : Nat
deriving DecidableEq, Repr

/-- A kernel processor (R383, R385). PC, the inbound mailbox words and what the host sees of the state stand in the
processor's BAR0 registers. -/
structure KpSt where
  imem : Tab Word
  x : Tab Word
  y : Tab Word
  /-- W0 to W15. -/
  w : Tab Word
  /-- S0 to S3. -/
  sum : Tab (BitVec 40)
  /-- C0 to C7, CFG0 to CFG7, WIN0 to WIN7. -/
  cur : Tab (BitVec 16)
  cfg : Tab Word
  win : Tab Word
  sr : Word
  rc : BitVec 17
  imask : BitVec 16
  ipend : BitVec 16
  ipri : Word
  /-- TMR as it was when the model's clock stood at `tmrAt`. -/
  tmr : Word
  tmrAt : Nat
  inwp : BitVec 16
  inrp : BitVec 16
  mbo : Tab Word
  stack : List KpFrame
  loops : List KpLoop
  /-- A WAIT holds. -/
  waiting : Bool
  /-- The host has asked for a halt, which waits for a boundary. -/
  haltAsked : Bool
  /-- Sources 5 and 6 that became pending during a repeat that has not ended (R404). -/
  late : BitVec 16
  /-- Cycles since the last WAIT or RTI (R407). -/
  cycles : Nat
deriving DecidableEq, Repr

/-- A processor at start-up, halted: memories 0, registers as a reset leaves them. -/
def KpSt.reset : KpSt :=
  { imem := [], x := [], y := [], w := [], sum := [], cur := [], cfg := [], win := [], sr := 0x400, rc := 0, imask := 0, ipend := 0,
    ipri := 0, tmr := 0, tmrAt := 0, inwp := 0, inrp := 0, mbo := [], stack := [], loops := [], waiting := false,
    haltAsked := false, late := 0, cycles := 0 }

/-! ### Completion queues, DMA channels and stream ports (13_dma_streaming.md) -/

/-- A record that its queue has no room for yet (R427, R470): the queue, the record with its phase bit 0, the events raised
once it is written, the channel that waits for it with what follows there, and whether it is the record that ends the
channel's descriptor. -/
structure HeldRec where
  q : Nat
  bytes : List Byte
  events : List Nat
  channel : Option Nat
  ends : Bool
deriving DecidableEq, Repr

/-- A descriptor (R415). -/
structure DmaDesc where
  src : Nat
  dst : Nat
  next : Nat
  count : Nat
  srcSpace : Nat
  dstSpace : Nat
  srcSel : Nat
  dstSel : Nat
  flags : Nat
  cq : Nat
  pace : Nat
  tag : Nat
  ringLen : Nat
  share : Nat
  stopLevel : Nat
  startLevel : Nat
deriving DecidableEq, Repr

/-- How a descriptor ended, before its record is written: status, cause, and the address of the failing beat where one
failed (R425, R426). -/
structure DmaEnd where
  status : Nat
  cause : Nat
  addr : Option Nat
deriving DecidableEq, Repr

/-- A DMA channel (R411): what its registers do not show. -/
structure DmaSt where
  /-- The port latched at go (R449). -/
  port : Port
  desc : Option DmaDesc
  /-- Bytes delivered of the descriptor, counted towards DMA_POS; and bytes in TAIL_ERROR beats that were not. -/
  moved : Nat
  lost : Nat
  /-- Bytes of the burst in flight that are still to be delivered, and those of them that have been read: the funnel (R417). -/
  burst : Option Nat
  funnel : List Byte
  /-- The FILL hysteresis: the channel runs. -/
  fillGo : Bool
  /-- When the last burst started and its size (R421 RATE). -/
  lastStart : Option (Nat × Nat)
  /-- Bursts under R422 of this descriptor, and whether the burst in flight has been counted. -/
  withdrawn : Nat
  counted : Bool
  fin : Option DmaEnd
  /-- A disable has been asked for (R432), and a quiesce (R434). -/
  disabling : Bool
  quiesce : Bool
  parked : Bool
  resumed : Bool
  /-- Path and stream of the exit the channel takes parcels of, its queue, oldest first, and bytes of the head parcel
  delivered (R418). -/
  exit : Option (Nat × Nat × Bool)
  queue : List Parcel
  headDone : Nat
deriving DecidableEq, Repr

/-- An idle channel. -/
def DmaSt.reset : DmaSt :=
  { port := .a, desc := none, moved := 0, lost := 0, burst := none, funnel := [], fillGo := true, lastStart := none,
    withdrawn := 0, counted := false, fin := none, disabling := false, quiesce := false, parked := false, resumed := false,
    exit := none, queue := [], headDone := 0 }

/-- The DMA unit: channels, records that are held, oldest first, the channel of each prio that started the last burst there
(R424), and the domains that are being quiesced (R434). -/
structure DmaUnit where
  chans : Tab DmaSt
  held : List HeldRec
  turns : Tab Nat
  taking : List Domain
  /-- The clock at the newest such request. -/
  askedAt : Nat
deriving DecidableEq, Repr

/-- The DMA unit at start-up. -/
def DmaUnit.reset : DmaUnit := { chans := [], held := [], turns := [], taking := [], askedAt := 0 }

/-- A flow of a stream port (R437 to R446): what its registers do not show. -/
structure FlowSt where
  /-- Packet counts of data and of context packets, modulo 16 (R439). -/
  dataNo : Nat
  ctxNo : Nat
  /-- Products of the stream seen, and whether the one in progress is kept (R437). -/
  products : Nat
  keep : Bool
  /-- The next data packet sets sample loss (R441). -/
  loss : Bool
  /-- Samples carrying OVR since the previous context packet, and the last marker code (R442). -/
  overs : Nat
  marker : Nat
  /-- Content of the fields of the previous context packet, without bits 22 and 16 of CIF0; none before the first. -/
  sentCtx : Option (List Byte)
  /-- The over-range count, and the indicators and marker code where they were known, of that packet. -/
  sentOvers : Nat
  sentState : Option Nat
  /-- The clock when the periodic packets last began or came (R442). -/
  ctxAt : Nat
  /-- The capture that a region flow is sending: its record, and the bytes of it that have gone by (R446). -/
  sending : Option (List Byte × Nat)
deriving DecidableEq, Repr

/-- A flow that is off. -/
def FlowSt.reset : FlowSt :=
  { dataNo := 0, ctxNo := 0, products := 0, keep := true, loss := false, overs := 0, marker := 0, sentCtx := none, sentOvers := 0, sentState := none,
    ctxAt := 0, sending := none }

/-- A UDP datagram that a stream port sends (R436, R438): addresses as 32-bit words. -/
structure Datagram where
  dmac : Nat
  smac : Nat
  vlan : Option Nat
  v6 : Bool
  src : List Nat
  dst : List Nat
  dscp : Nat
  srcPort : Nat
  dstPort : Nat
  checksum : Nat
  data : List Byte
  /-- The DF bit of IPv4, and the TTL or hop limit. -/
  df : Bool
  hops : Nat
  /-- The identification of IPv4, or the flow label of IPv6. -/
  ident : Nat
  /-- The frame check sequence of the Ethernet frame. -/
  fcs : Word
deriving DecidableEq, Repr

/-- The stream ports: flows by 32 s + f; when each transmit buffer will have run empty, in 1/625 of a tick of the model's clock
(R445, R447: 128 of these a byte), or what is left to send while the link is down; and when each last raised event 846 + s,
plus 1. -/
structure StrmUnit where
  flows : Tab FlowSt
  buffer : Tab Nat
  dropped : Tab Nat
deriving DecidableEq, Repr

/-- The stream ports at start-up. -/
def StrmUnit.reset : StrmUnit := { flows := [], buffer := [], dropped := [] }

/-! ### The display (14_display.md) -/

/-- A DisplayPort output: its link is to be trained, is trained, and sends video. -/
structure DpLink where
  training : Bool
  trained : Bool
  video : Bool
deriving DecidableEq, Repr

/-- A buffer that a layer reads (R468): the layer, the region and its capture address, or a host address, and the tag. -/
structure LayerBuf where
  layer : Nat
  space : Nat
  region : Option Nat
  addr : Nat
deriving DecidableEq, Repr

/-- A lease that is to be released (R468): the buffer, the number of the replacing commit, the cause, and the tag. -/
structure LayerDone where
  buf : LayerBuf
  commit : Nat
  cause : Nat
  tag : Nat
deriving DecidableEq, Repr

/-- The product that a trace draws: its bins' levels (R461). -/
structure TraceSnap where
  bins : List Nat
  flags : Nat
deriving DecidableEq, Repr

/-- The display unit (R452 to R474): what its registers do not show. -/
structure DispSt where
  /-- The frame store, by word (R453). -/
  store : Tab Word
  /-- The model's clock at the write that made a commit pending. -/
  asked : Nat
  linkA : DpLink
  linkB : DpLink
  /-- R466 runs and its clock has settled; internal frames begun since then. -/
  settled : Bool
  frames : Nat
  /-- Times that both links have been tried again, and training has failed for good: the next commit starts R466 again (R467). -/
  tries : Nat
  failed : Bool
  /-- One frame of idle pattern (R465). -/
  idleFrame : Bool
  /-- The next line that the compositor writes, past the panel when it composes no frame; and whether a late line has raised event
  854 in this frame. -/
  line : Nat
  lateRaised : Bool
  /-- The model's clock at the start of the vertical blank before the frame that the links scan (R458). -/
  blankAt : Nat
  traces : Tab (Option TraceSnap)
  /-- For the waterfall: its region, the lifetime position after the newest complete line, and lines there are (R460). -/
  fallRegion : Nat
  fallEnd : Nat
  fallLines : Nat
  /-- The overlay has faulted (R469). -/
  faulted : Bool
  buf2 : Option LayerBuf
  buf3 : Option LayerBuf
  releases : List LayerDone
  /-- The AUX command that was last started (R472). -/
  aux : Nat
deriving DecidableEq, Repr

/-- A line number past every panel: no frame is being composed. -/
def noLine : Nat := 65536

/-- The display at start-up. -/
def DispSt.reset : DispSt :=
  { store := [], asked := 0, linkA := ⟨false, false, false⟩, linkB := ⟨false, false, false⟩, settled := false, frames := 0,
    tries := 0, failed := false, idleFrame := false, line := noLine, lateRaised := false, blankAt := 0, traces := [], fallRegion := 0, fallEnd := 0, fallLines := 0,
    faulted := false, buf2 := none, buf3 := none, releases := [], aux := 0 }

/-! ### Timing unit (15_timing_unit.md) -/

/-- A record of an event input's queue (R482): tick, word 2 and stamp number. -/
structure EvRecord where
  tick : Nat
  word2 : Nat
  number : Nat
deriving DecidableEq, Repr

/-- An event input (R481, R482). -/
structure EvSt where
  last : Option Stamp
  number : Nat
  lostBefore : Bool
  stepped : Bool
  fifo : List EvRecord
  /-- A crowded or stuck edge has come since the last stamped one (R485), and the clock at the newest edge to the active
  level (R345). -/
  marked : Bool
  activeAt : Nat
  /-- The level of the pin, as its last edge left it (R345). -/
  pin : Bool
deriving DecidableEq, Repr

/-- An event input at start-up: its pin is low until an edge says otherwise (log entry 82). -/
def EvSt.reset : EvSt :=
  { last := none, number := 0, lostBefore := false, stepped := false, fifo := [], marked := false, activeAt := 0, pin := false }

/-- A frequency input in its gate (R483, R484): first and last edge in 1/65,536 tick, edges seen, rate excess. -/
structure FinSt where
  first : Nat
  last : Nat
  edges : Nat
  ovs : Bool
  /-- Event 874 has been raised for the excess. -/
  told : Bool
  /-- The prescaler in force since the gate began. -/
  presc : Nat
  /-- The clock at which the gate began. -/
  since : Nat
deriving DecidableEq, Repr

/-- A frequency input at start-up. -/
def FinSt.reset : FinSt := { first := 0, last := 0, edges := 0, ovs := false, told := false, presc := 3, since := 0 }

/-- A statistics engine (R485): measurements taken, their sums, extremes, and the start edge that waits. -/
structure StatSt where
  n : Nat
  sum : Int
  sumSq : Nat
  low : Int
  high : Int
  start : Option Nat
  /-- The start edge carried a mark that lets its measurement be skipped. -/
  startBad : Bool
deriving DecidableEq, Repr

/-- A statistics engine at start-up. -/
def StatSt.reset : StatSt := { n := 0, sum := 0, sumSq := 0, low := 0, high := 0, start := none, startBad := false }

/-- Why an interpolator is being calibrated: by itself, all in turn, a retained table checked at the exit from DEEP, or one
that failed that check (R480, R589). -/
inductive CdcWhy where
  | one | all | check | again
deriving DecidableEq, Repr

/-- The timing unit. -/
structure TiuSt where
  /-- The start tick of the canary sweep that runs (R487). -/
  sweeping : Option Nat
  /-- Admission has asked for a sweep; a sweep is to follow a VCORE step (R487). -/
  sweepAsked : Bool
  sweepAfterStep : Bool
  /-- The clock at which the next periodic sweep is due (R153, R487). -/
  sweepDue : Nat
  /-- The last time set, or the first counted edge: its defined tick (R477). -/
  base : Option Nat
  evs : Tab EvSt
  /-- Words 1 to 3 that a read of word 0 latched, by 16 * port + input (R482). -/
  evLatch : Tab (List Word)
  /-- The calibration that runs: its interpolator, and why (R480). -/
  cdc : Option (Nat × CdcWhy)
  fins : Tab FinSt
  stats : Tab StatSt
deriving DecidableEq, Repr

/-- The timing unit at start-up. -/
def TiuSt.reset : TiuSt :=
  { sweeping := none, sweepAsked := false, sweepAfterStep := false, sweepDue := 0, base := none, evs := [], evLatch := [], cdc := none,
    fins := [], stats := [] }

/-! ### Front-end control and housekeeping (16_front_end_control.md) -/

/-- One FCD output: what its registers do not show (R491 to R498). -/
structure FcdOut where
  /-- Converters whose protection holds the output, as a mask (R192, R193). -/
  prot : Nat
  /-- The range switch has settled; its cause ends at the next period boundary (R498). -/
  settled : Bool
  /-- Something has changed that reaches the pin at the next period boundary. -/
  dirty : Bool
  /-- The model's clock at the last change that reached the pin, plus 1 (R499). -/
  changed : Nat
  /-- The period in progress: its place among sixteen, and the cycles it is high for (R492). -/
  place : Nat
  high : Nat
deriving DecidableEq, Repr

/-- An output at start-up. -/
def FcdOut.reset : FcdOut := { prot := 0, settled := false, dirty := false, changed := 0, place := 0, high := 0 }

/-- A housekeeping scan (R501): the channels still to convert, and the tolerances in force for it. -/
structure HkScan where
  shared : List Nat
  onlyA : List Nat
  onlyB : List Nat
  tolFcd : Nat
  tolAb : Nat
deriving DecidableEq, Repr

/-- The front-end control and housekeeping units. -/
structure FcdSt where
  outs : Tab FcdOut
  /-- VHK is below its minimum (R497). -/
  vhkLow : Bool
  /-- The CLRDAC_N pin, filtered (R494, R625). -/
  clrdacLow : Bool
  scan : Option HkScan
  stopAsked : Bool
  /-- Channels in an HK mismatch, as a mask (R499, R502). -/
  mismatched : Nat
deriving DecidableEq, Repr

/-- The front-end control units at start-up. -/
def FcdSt.reset : FcdSt :=
  { outs := [], vhkLow := false, clrdacLow := false, scan := none, stopAsked := false, mismatched := 0 }

/-! ### Calibration (17_calibration.md) -/

/-- What a calibration set holds for one input (R508): gain and phase tables, skew, and the conditions. -/
structure InputSet where
  gain : List Int
  phase : List Int
  skew : Int
  /-- Fs in units of 2^-24 Hz, the sum of the two sensor codes (1/128 degree each), calibration time in seconds. -/
  fs24 : Nat
  tj : Int
  time : Nat
deriving DecidableEq, Repr

/-- The entries of an input with everything at zero. -/
def InputSet.zero : InputSet :=
  { gain := List.replicate 256 0, phase := List.replicate 256 0, skew := 0, fs24 := 0, tj := 0, time := 0 }

/-- A calibration set (R507, R508). -/
structure CalSet where
  generation : Nat
  inputs : List InputSet
deriving DecidableEq, Repr

/-- A set of generation 0 with everything at zero. -/
def CalSet.zero : CalSet := { generation := 0, inputs := List.replicate 4 InputSet.zero }

/-- One reading of a pass at a point on an input (R514): level in 0.001 dBFS and phase in 0.01 degree. -/
structure Reading where
  level : Int
  phase : Int
deriving DecidableEq, Repr

/-- A calibration run (R513 to R516). -/
structure CalRun where
  inMask : Nat
  /-- The selectors as they stood (R514 step 1). -/
  sels : List Nat
  /-- Groups still to be measured, the one in progress first. -/
  groups : List Nat
  pass : Nat
  repeats : Nat
  /-- The clock at which the wait of step 3 or the pass began (R514). -/
  since : Nat
  /-- A block of the pass carried CLK_INVALID or CAL_SETTLING (R516). -/
  spoilt : Bool
  /-- Readings of pass 1, by 1024 * input + point. -/
  first : Tab (Option Reading)
  /-- Rejected points so far, by input. -/
  rejected : List Nat
  /-- Sums of the two passes of the points measured: levels, and phases, by 1024 * input + point. -/
  sums : Tab (Int × Int)
deriving DecidableEq, Repr

/-- The calibration unit and the calibration store. -/
structure CalSt where
  run : Option CalRun
  /-- The set that waits for a commit, and the one being committed (R517). -/
  pending : Option CalSet
  committing : Option CalSet
  /-- The factory set, and the set in force (R506, R507). -/
  factory : CalSet
  inForce : CalSet
  /-- Set slots A and B of the store, where they hold a valid set (R507). -/
  setA : Option CalSet
  setB : Option CalSet
  /-- The factory block fails its check (R571). -/
  factoryBad : Bool
  /-- Boot slots A and B, and the maker block (R506). -/
  slotA : List Byte
  slotB : List Byte
  maker : List Byte
  /-- The store program that runs: its port, store offset, length and source (R518). -/
  program : Option (Port × Nat × Nat × Nat)
  /-- The temperature condition and the age conditions of R511 hold, as masks of inputs. -/
  hot : Nat
  aged : Nat
  /-- Sensor codes of the converter die last read, in 1/128 degree, by sensor less 24 (R626). -/
  temps : Tab Int
deriving DecidableEq, Repr

/-- The calibration unit with an empty store. -/
def CalSt.reset : CalSt :=
  { run := none, pending := none, committing := none, factory := CalSet.zero, inForce := CalSet.zero, setA := none, setB := none, factoryBad := false,
    slotA := [], slotB := [], maker := [], program := none, hot := 0, aged := 0, temps := [] }

/-! ### Ensembles (18_ensemble.md) -/

/-- A token of the String link (R525), without its check value. -/
structure EnsToken where
  type_ : Nat
  origin : Nat
  seq : Nat
  ack : Nat
  tick : Nat
  payload : List Byte
deriving DecidableEq, Repr

/-- What waits for its tick (R531, R535): an arm, a disarm, or the masks of a STATE token. -/
inductive EnsWhat where
  | arm | disarm | state
deriving DecidableEq, Repr

/-- An accepted token that waits for its tick. -/
structure EnsApply where
  what : EnsWhat
  rgn : Nat
  cond : Nat
  tick : Nat
deriving DecidableEq, Repr

/-- The ensemble unit. -/
structure EnsSt where
  /-- Sequence number of the leader's next token (R525). -/
  txSeq : Nat
  /-- Sequence number of the last leader token accepted (R526, R533). -/
  rxSeq : Option Nat
  /-- The leader's last 16 tokens, newest first (R526). -/
  sent : List EnsToken
  /-- What the last ARM and DISARM tokens left armed (R535). -/
  armedRgn : Nat
  armedCond : Nat
  /-- Members that were in at the last SYNC, as the leader knows (R533). -/
  members : Nat
  /-- Tokens that wait for their tick. -/
  applies : List EnsApply
  /-- Steps of the SYNC in progress on the leader (R534): 0 none, 1 SYNC_PREP is out, 2 SYNC_OUT has pulsed, 3 TIME is out. -/
  stage : Nat
  /-- The own SYNC_IN stamp less ENS_SYNC_DLY, in 1/65,536 tick, since the last SYNC_PREP (R534 step 4). -/
  edge : Option Int
  /-- The leader has stepped its time: the next SYNC_PREP carries restep (R537). -/
  stepped : Bool
  /-- The last SYNC_PREP carried restep (R535). -/
  prepRestep : Bool
  /-- No join has been made since en became 1 (R535). -/
  first : Bool
  /-- The member stays out until the next SYNC (R529, R533, R536), and applies the next STATE token (R535). -/
  out : Bool
  rejoin : Bool
  /-- The model's clock at the last valid token, by ring (R526). -/
  heard : Tab Nat
  /-- Discarded tokens of the last millisecond: ring and clock, newest first (R526). -/
  discards : List (Nat × Nat)
  /-- The clock when the leader last sent a token, and when it last sent SYNC_PREP (R525, R534). -/
  sentAt : Nat
  prepAt : Nat
  /-- The fingerprint last sent; none when one is owed whatever it holds (R527). -/
  sentFp : Option (List Byte)
deriving DecidableEq, Repr

/-- A member that is in no ensemble. -/
def EnsSt.reset : EnsSt :=
  { txSeq := 0, rxSeq := none, sent := [], armedRgn := 0, armedCond := 0, members := 0, applies := [], stage := 0, edge := none,
    stepped := false, prepRestep := false, first := true, out := false, rejoin := false, heard := [], discards := [],
    sentAt := 0, prepAt := 0, sentFp := none }

/-! ### Wear, the ledger and integrity (19_wear_integrity.md) -/

/-- An entry of the wear ledger (R550). -/
structure LedgerEntry where
  kind : Nat
  cause : Nat
  unit : Nat
  detail : Nat
  tick : Nat
  epoch : Nat
  boots : Nat
  number : Nat
deriving DecidableEq, Repr

/-- A steering sweep that runs or waits (R548): subchannel 0 to 15, bit position, byte position reached. -/
structure Steer where
  sub : Nat
  bitPos : Nat
  pos : Nat
  /-- The model's clock when the sweep went on from `pos`; none while it pauses (R549). -/
  since : Option Nat
deriving DecidableEq, Repr

/-- The wear and integrity units. -/
structure WearSt where
  /-- Entries in the ledger of the calibration store, oldest first (R550). -/
  ledger : List LedgerEntry
  /-- What the snapshot that begins the ledger holds: the entries compacted away (R550). -/
  kept : List LedgerEntry
  /-- Entries still to be written (R551). -/
  toWrite : List LedgerEntry
  /-- Attempts that writing the oldest of them has failed (R551). -/
  writeFails : Nat
  /-- Number of the next entry. -/
  nextNumber : Nat
  /-- Start-up count. -/
  boots : Nat
  /-- Resends of each lane: the model's clock at each (R541). -/
  resends : Tab (List Nat)
  /-- Physical lanes marked, and the marked lane whose spare trains (R547). -/
  laneMark : Nat
  laneTraining : Option Nat
  /-- Corrected errors at SDRAM bit positions, by 64 * subchannel + bit: the clock at each (R541). -/
  bitErrors : Tab (List Nat)
  /-- The steering sweep in progress, and marks that wait (R548). -/
  steer : Option Steer
  steerWait : List Steer
  /-- Corrected errors of SRAM rows since start-up, by row (R541), and rows marked. -/
  rowErrors : Tab Nat
  rowMark : List Nat
  /-- Rows for which a spare row stands (R544). -/
  rowSpared : List Nat
  /-- Physical processor that a logical number reaches, plus 1, where repair has changed it (R381); 128 none, retired. -/
  kpMap : Tab Nat
  /-- Slice for which a converter's reserve stands, plus 1 (R186). -/
  sliceOut : Tab Nat
  /-- Spare to which the traffic of a lane has moved, plus 1 (R547). -/
  laneMap : Tab Nat
  /-- Bit position that a subchannel's steering spare carries, plus 1 (R360). -/
  steerMap : Tab Nat
  /-- When an entry of a kind and unit class was last logged, by 16 * kind + class, plus 1 (R555). -/
  logged : Tab Nat
  /-- Memory words of kernel processors, by 32768 * physical processor + word: 1 an uncorrectable error was read there, 2 and
  it has been rewritten since (R541). -/
  kpBad : Tab Nat
  /-- Sweeps in a row in which a processor's canary was slow (R541, R542), by physical processor. -/
  kpSlow : Tab Nat
deriving DecidableEq, Repr

/-- The wear units with an empty ledger. -/
def WearSt.reset : WearSt :=
  { ledger := [], kept := [], toWrite := [], writeFails := 0, nextNumber := 0, boots := 0, resends := [], laneMark := 0,
    laneTraining := none, bitErrors := [], steer := none, steerWait := [], rowErrors := [], rowMark := [], rowSpared := [], kpMap := [], sliceOut := [], laneMap := [], steerMap := [], logged := [],
    kpBad := [], kpSlow := [] }

/-! ### Supplies, reset and start-up (20_power_startup.md) -/

/-- The AVSBus master (R561 to R563). -/
structure AvsSt where
  /-- The voltage write in progress, in mV, and how many writes it has made. -/
  running : Option (Nat × Nat)
  /-- The request that waits (R562). -/
  queued : Option Nat
  /-- The VCORE reading of the lower sensor, in mV (R575). -/
  sensed : Nat
  /-- The highest temperature reading, in whole degrees, two's complement of 16 bits (R565). -/
  hottest : Nat
  /-- Readings in a row at 160 degrees or more, by sensor. -/
  hotReads : Tab Nat
  /-- The model's clock at the last voltage write (R562); since when VCORE has been above the release threshold of the present
  PCLK step (R148); and since when PCLK has been at 960 MHz (R150). -/
  wroteAt : Nat
  heldFrom : Nat
  fullFrom : Nat
deriving DecidableEq, Repr

/-- The AVSBus master at rest. -/
def AvsSt.reset : AvsSt := { running := none, queued := none, sensed := 800, hottest := 0, hotReads := [], wroteAt := 0, heldFrom := 0, fullFrom := 0 }

/-- Supplies, reset inputs and the start-up chains (R558 to R574). -/
structure StartSt where
  /-- PORST_N and SYSRST_N are low. -/
  porstLow : Bool
  sysLow : Bool
  /-- Monitored rails below their undervoltage limit, in the order of GLB_RAIL (R564). -/
  railsLow : Nat
  /-- A thermal trip: 0 none, 1 it holds the engine, 2 a reset input has been released and the engine waits to cool (R565). -/
  therm : Nat
  /-- Every sensor read below 140 degrees at the last reading. -/
  cool : Bool
  /-- A system reset holds every domain but AON (R564, R574). -/
  held : Bool
  /-- A system reset that waits for a fuse operation: its cause, and that it is released at once (R574). -/
  due : Option (Nat × Bool)
  /-- The straps as latched (R568). -/
  bootSel : Bool
  mgmtAddr : Nat
  /-- AON runs and the straps are latched: step 1 has ended (R569). -/
  began : Bool
  /-- Configuration requests are answered with Request Retry Status (R570). -/
  retry : Bool
  /-- The subsystem vendor and subsystem ID that start-up read from the calibration store, where it holds them (R45). -/
  subsys : Option (BitVec 16 × BitVec 16)
  /-- Capture-memory contents have been kept in self-refresh (R574, R589). -/
  memKept : Bool
  /-- Training has ended and initialisation runs (R571). -/
  memInit : Bool
  /-- The open-drain outputs (R566): low, or high impedance. -/
  alertN : Drive
  faultN : Drive
deriving DecidableEq, Repr

/-- The engine held by PORST_N. -/
def StartSt.reset : StartSt :=
  { porstLow := true, sysLow := false, railsLow := 0, therm := 0, cool := true, held := false, due := none, bootSel := false,
    mgmtAddr := 0, began := false, retry := true, subsys := none, memKept := false, memInit := false, alertN := .hiZ, faultN := .hiZ }

/-! ### Power states (21_power_states.md) -/

/-- A transition in progress (R581, R583). -/
structure PwrTrans where
  from_ : Nat
  target : Nat
  byWake : Bool
  /-- Event 56 has been raised for it. -/
  told : Bool
  /-- A wake during the entry: its source code (R583). -/
  latched : Option Nat
  /-- A wake came during the entry that this transition is or follows. -/
  during : Bool
deriving DecidableEq, Repr

/-- The power controller (R579 to R595). -/
structure PwrSt where
  trans : Option PwrTrans
  /-- Retention memory: words by offset, and the geometry of the regions (R588). -/
  saved : List (Nat × Word)
  savedRegions : List (Nat × Nat × Nat)
  /-- VCORE request before SLEEP (R589). -/
  vcore : Nat
  /-- The model's clock when the utility PLL stopped (R478). -/
  sleptAt : Option Nat
  /-- The model's clock at the last start of PWR_AON_TIME (R593), and when PWR_TIMER was last written (R594). -/
  aonFrom : Nat
  timerFrom : Nat
  /-- The WAKE_N latch is armed; it has recorded an edge (R587, R591). -/
  armed : Bool
  latched : Bool
  /-- ENS_CTL.wake_en of a follower, as HOST went off (R538, R590). -/
  ensWake : Bool
  /-- Event 58 is to be raised once HOST is on (R593). -/
  wakeDue : Bool
  /-- The request for RUN that waits is a wake, already recorded (R37). -/
  wakeWaits : Bool
deriving DecidableEq, Repr

/-- The power controller in RUN. -/
def PwrSt.reset : PwrSt :=
  { trans := none, saved := [], savedRegions := [], vcore := 800, sleptAt := none, aonFrom := 0, timerFrom := 0, armed := false,
    latched := false, ensWake := false, wakeDue := false, wakeWaits := false }

/-! ### The whole state -/

/-- Something the engine sends out (the model's own log of outputs, newest first, log entry 8). -/
inductive Out where
  /-- An MSI-X message of a port: address and data (R70). -/
  | msix (p : Port) (addr : Nat) (data : Word)
  /-- Bytes written to host memory over a port. -/
  | hostWrite (p : Port) (addr : Nat) (bytes : List Byte)
  /-- A voltage write on AVSBus, in mV (R561). -/
  | avsWrite (mv : Nat)
  /-- A SYNC_OUT pulse at a tick (R219). -/
  | syncOut (tick : Nat)
  /-- A UDP datagram of a stream port (R436, R438). -/
  | datagram (sp : Nat) (d : Datagram)
  /-- An ARP reply of a stream port for its own IPv4 address, to a MAC and an IPv4 address (R436). -/
  | arpReply (sp mac ip : Nat)
  /-- A Neighbor Advertisement of a stream port for its own IPv6 address, to a MAC and an IPv6 address (R436). -/
  | neighborAdvert (sp mac : Nat) (ip : List Nat)
  /-- Bytes returned to a read on the management bus (R592). -/
  | mgmt (bytes : List Byte)
  /-- A token on a String ring (R524, R525). -/
  | ringToken (ring : Nat) (bytes : List Byte)
deriving DecidableEq, Repr

/-- Engine time (R16) and the model's own clock. -/
structure TimeSt where
  /-- 64-bit count of 2.56 GHz ticks. -/
  tick : BitVec 64
  /-- Phase bin within the tick. -/
  phase : BitVec 6
  /-- The timing unit counts. -/
  running : Bool
  /-- 2.56 GHz ticks since reset, whatever engine time does (the model's own, log entry 1). -/
  clk : Nat
deriving DecidableEq, Repr

/-- The engine. -/
structure State where
  /-- Registers by BAR0 offset: the value a read returns; an offset not listed holds its reset value. -/
  regs : Tab Word
  /-- For registers with SH fields, the values in force (R7). -/
  act : Tab Word
  time : TimeSt
  dom : Doms
  sem : SemSt
  portA : PortSt
  portB : PortSt
  mirror : MirrorSt
  load : LoadSt
  fuse : FuseSt
  fab : FabSt
  cnv : Tab CnvSt
  clocks : ClkSt
  ddc : Tab DdcSt
  xf : Tab XfPath
  kal : KalUnits
  trg : TrgSt
  regions : Tab RegionSt
  /-- Capture memory, by capture address (R361); an address not listed reads 0 (R571, log entry 5). -/
  sdram : Tab Byte
  kp : Tab KpSt
  dma : DmaUnit
  strm : StrmUnit
  disp : DispSt
  tiu : TiuSt
  cal : CalSt
  ens : EnsSt
  wear : WearSt
  avs : AvsSt
  fcd : FcdSt
  start : StartSt
  pwr : PwrSt
  /-- What the last access was completed with (the model's own). -/
  bus : Completion
  /-- What the engine has sent out, newest first (the model's own). -/
  out : List Out
  /-- How many free values have been drawn (the model's own, log entry 6). -/
  free : Nat
  /-- Commands that wait, first in first out (the model's own). -/
  pending : List Instr
deriving DecidableEq, Repr

/-- Why the machine stops. -/
inductive Fault where
  /-- Raised by nothing: the block has no stop of its own (log entry 10). Safe. -/
  | halted
deriving DecidableEq, Repr

/-- Why a command has no meaning. -/
inductive Refusal where
  /-- A command whose meaning is not written yet. Safe. -/
  | notModelled (mnemonic : String)
deriving DecidableEq, Repr

/-- The engine with PORST_N low: every register at its reset value, every domain but AON held off, no link up. -/
def State.reset : State :=
  { regs := [], act := [],
    time := { tick := 0, phase := 0, running := false, clk := 0 },
    dom := { aon := .on, host := .off, conv := .off, fabric := .off, memory := .off, display := .off, kp := .off },
    sem := { holder := [], tieLoser := [] }, portA := PortSt.reset, portB := PortSt.reset,
    mirror := { words := [], snap := none, drive := none, last := .idle, edgeAt := 0, marker := 0, dirty := [], gathered := [],
                updated := [] },
    load := LoadSt.reset,
    fuse := { hash := [(0, (List.range 48).map Config.korlerHash)], enrolled := 1, revoked := 0, svnMin := 0, running := none, incomplete := none },
    fab := { tiles := [], paths := [], sweepTick := 0, aboveHigh := 0 },
    cnv := [], clocks := ClkSt.reset, ddc := [], xf := [], kal := KalUnits.reset,
    trg := { conds := [], queue := [], ins := [], outs := [], avg := [] }, regions := [], sdram := [], kp := [],
    dma := DmaUnit.reset, strm := StrmUnit.reset, disp := DispSt.reset,
    tiu := TiuSt.reset, cal := CalSt.reset, ens := EnsSt.reset, wear := WearSt.reset, avs := AvsSt.reset, fcd := FcdSt.reset,
    start := StartSt.reset, pwr := PwrSt.reset,
    bus := .idle, out := [], free := 0, pending := [] }

end Sys2Proof.Machine
end

