-- ==== Sys2Proof/Machine/Ops.lean ====
section
/-! DEFINITION. The shared operations of the engine: registers and their fields, bytes, engine time, events and their
vectors, semaphores and the checks of the register hub, the mirror image. -/

namespace Sys2Proof

/-- The index of a Control Port: 0 for CP_A, 1 for CP_B. -/
def Port.idx : Port → Nat
  | .a => 0
  | .b => 1

/-- The other Control Port. -/
def Port.other : Port → Port
  | .a => .b
  | .b => .a

namespace Machine

/-- What a step answers. -/
abbrev Res := Host.Outcome State Fault Refusal

/-! ### Bit fields and bytes -/

/-- The field of `width` bits at `lo` of a word. -/
def bits (v lo width : Nat) : Nat := v / 2 ^ lo % 2 ^ width

/-- The word `old` with the field of `width` bits at `lo` replaced by `v`. -/
def insertBits (old lo width v : Nat) : Nat :=
  old % 2 ^ lo + v % 2 ^ width * 2 ^ lo + old / 2 ^ (lo + width) * 2 ^ (lo + width)

/-- Bit `i` of a word. -/
def bit (v i : Nat) : Bool := v / 2 ^ i % 2 == 1

/-- A truth value as a bit. -/
def b2n (b : Bool) : Nat := if b then 1 else 0

/-- The word with bit `i` set. -/
def setBit (v i : Nat) : Nat := if bit v i then v else v + 2 ^ i

/-- The word with bit `i` clear. -/
def clearBit (v i : Nat) : Nat := if bit v i then v - 2 ^ i else v

/-- Two's complement reading of `width` bits. -/
def signed (width v : Nat) : Int :=
  if v % 2 ^ width < 2 ^ (width - 1) then (v % 2 ^ width : Nat) else (v % 2 ^ width : Nat) - (2 ^ width : Nat)

/-- The `width` bits that stand for an integer in two's complement. -/
def unsigned (width : Nat) (x : Int) : Nat := (x % (2 ^ width : Nat)).toNat

/-- The indices of the bits that are set among the low `n` bits of a mask. -/
def bitList (n v : Nat) : List Nat := (List.range n).filter (bit v)

/-- The little-endian bytes of a number (R15). -/
def leBytes : Nat → Nat → List Byte
  | 0, _ => []
  | n + 1, v => BitVec.ofNat 8 v :: leBytes n (v / 256)

/-- The number that little-endian bytes stand for (R15). -/
def leNat : List Byte → Nat
  | [] => 0
  | b :: bs => b.toNat + 256 * leNat bs

/-- The big-endian bytes of a number (VITA 49.2 packets, SEC 1 points). -/
def beBytes (n v : Nat) : List Byte := (leBytes n v).reverse

/-- The number that `n` bytes at an offset of a byte string stand for, least significant first; bytes past the end
read 0. -/
def field (b : List Byte) (off n : Nat) : Nat := leNat ((b.drop off).take n)

/-- Division rounded to the nearest integer, half to even. -/
def roundEven (a : Int) (d : Nat) : Int :=
  let q := a / (d : Int)
  let r := (a % (d : Int)).toNat
  if 2 * r < d then q else if d < 2 * r then q + 1 else if q % 2 = 0 then q else q + 1

/-- Division of naturals rounded to the nearest integer, half to even. -/
def roundEvenNat (a d : Nat) : Nat := (roundEven a d).toNat

/-! ### Registers -/

namespace State

/-- The word at a BAR0 offset whose reset value is `rst`. -/
def word (s : State) (a rst : Nat) : Nat := (s.regs.get (BitVec.ofNat 32 rst) a).toNat

/-- The word at a BAR0 offset becomes `v`. -/
def setWord (s : State) (a rst v : Nat) : State :=
  { s with regs := s.regs.put (BitVec.ofNat 32 rst) a (BitVec.ofNat 32 v) }

/-- The register at a location as one number: one word, or two, the low one first (R10). -/
def regVal (s : State) (l : Loc) : Nat :=
  if l.lo + l.width ≤ 32 then s.word l.addr (l.rst % 2 ^ 32)
  else s.word l.addr (l.rst % 2 ^ 32) + 2 ^ 32 * s.word (l.addr + 4) (l.rst / 2 ^ 32)

/-- The value of a register field. -/
def f (s : State) (l : Loc) : Nat := bits (s.regVal l) l.lo l.width

/-- The state with a register field at `v`, cut to the field's width. -/
def set (s : State) (l : Loc) (v : Nat) : State :=
  let x := insertBits (s.regVal l) l.lo l.width v
  if l.lo + l.width ≤ 32 then s.setWord l.addr (l.rst % 2 ^ 32) x
  else (s.setWord l.addr (l.rst % 2 ^ 32) (x % 2 ^ 32)).setWord (l.addr + 4) (l.rst / 2 ^ 32) (x / 2 ^ 32)

/-- A one-bit field is 1. -/
def flag (s : State) (l : Loc) : Bool := s.f l == 1

/-- A counter field goes up by `n` and stays at its greatest value. -/
def addSat (s : State) (l : Loc) (n : Nat) : State := s.set l (min (2 ^ l.width - 1) (s.f l + n))

/-- A counter field goes up by one and stays at its greatest value. -/
def bump (s : State) (l : Loc) : State := s.addSat l 1

/-- A counter field goes up by `n` and wraps. -/
def addWrap (s : State) (l : Loc) (n : Nat) : State := s.set l ((s.f l + n) % 2 ^ l.width)

/-- The value in force of the register at a location with SH fields (R7). -/
def actVal (s : State) (l : Loc) : Nat :=
  let w := fun (a r : Nat) => (s.act.get (BitVec.ofNat 32 r) a).toNat
  if l.lo + l.width ≤ 32 then w l.addr (l.rst % 2 ^ 32)
  else w l.addr (l.rst % 2 ^ 32) + 2 ^ 32 * w (l.addr + 4) (l.rst / 2 ^ 32)

/-- The value in force of an SH field (R7). -/
def fa (s : State) (l : Loc) : Nat := bits (s.actVal l) l.lo l.width

/-- One word of a shadow becomes the value in force. -/
def applyWord (s : State) (a rst : Nat) : State :=
  { s with act := s.act.put (BitVec.ofNat 32 rst) a (s.regs.get (BitVec.ofNat 32 rst) a) }

/-- The shadow of a register becomes the value in force: the unit's commit point (R7). -/
def applyShadow (s : State) (l : Loc) : State :=
  if l.lo + l.width ≤ 32 then s.applyWord l.addr (l.rst % 2 ^ 32)
  else (s.applyWord l.addr (l.rst % 2 ^ 32)).applyWord (l.addr + 4) (l.rst / 2 ^ 32)

/-! ### Ports, time, outputs -/

/-- The state of a Control Port. -/
def port (s : State) : Port → PortSt
  | .a => s.portA
  | .b => s.portB

/-- The state with a Control Port's state changed. -/
def setPort (s : State) (p : Port) (x : PortSt) : State :=
  match p with
  | .a => { s with portA := x }
  | .b => { s with portB := x }

/-- Engine time now (R16). -/
def now (s : State) : Stamp := ⟨s.time.tick.toNat, s.time.phase.toNat⟩

/-- The high word of the 64-bit register at an offset is written: it becomes the port's pending high word (R11). -/
def pendHigh (s : State) (p : Port) (off v : Nat) : State :=
  s.setPort p { s.port p with pendHi := some (off, BitVec.ofNat 32 v) }

/-- The pending high word of a port for the 64-bit register at an offset (R11). -/
def highFor (s : State) (p : Port) (off : Nat) : Option Nat :=
  match (s.port p).pendHi with
  | some (o, w) => if o = off then some w.toNat else none
  | none => none

/-- A port's pending high word is used up (R11). -/
def highUsed (s : State) (p : Port) : State := s.setPort p { s.port p with pendHi := none }

/-- Something leaves the engine. -/
def emit (s : State) (o : Out) : State := { s with out := o :: s.out }

/-- The last access is completed. -/
def complete (s : State) (c : Completion) : State := { s with bus := c }

/-! ### Events (R69) -/

/-- Event `n` occurs for one port: counted, and where it is routed and not pending it becomes pending and marks its
vector (R69). Nothing happens while the port's event state is in reset (R73). -/
def raiseAt (s : State) (p : Port) (n : Nat) : State :=
  if (s.port p).evtReset then s
  else
    let s := s.bump (EVT_CNT.count p.idx n)
    let w := s.f (EVT_PEND.reg p.idx (n / 32))
    if s.flag (EVT_ROUTE.en p.idx n) && !bit w (n % 32) then
      let s := s.set (EVT_PEND.reg p.idx (n / 32)) (setBit w (n % 32))
      s.setPort p { s.port p with marks := (s.port p).marks.put false (s.f (EVT_ROUTE.vector p.idx n)) true }
    else s

/-! ### Domains and absent units -/

/-- The block a BAR0 offset lies in, as the power domain of its block (R38); none for a reserved address. -/
def domainOf (off : Nat) : Option Domain :=
  if off < 0x10000 then some .host
  else if off < 0x20000 then some .aon
  else if off < 0x80000 then some .host
  else if off < 0x100000 then some .fabric
  else if off < 0x118000 then some .conv
  else if off < 0x120000 then some .host
  else if off < 0x1A0000 then some .fabric
  else if off < 0x1C0000 then some .memory
  else if off < 0x1F0000 then some .host
  else if off < 0x200000 then some .display
  else if off < 0x210000 then some .fabric
  else if off < 0x220000 then some .conv
  else if off < 0x250000 then some .host
  else if off < 0x260000 then some .fabric
  else if off < 0x1000000 then none
  else if off < 0x1880000 then some .kp
  else none

/-- The state of a power domain. -/
def domSt (s : State) : Domain → DomSt
  | .aon => s.dom.aon
  | .host => s.dom.host
  | .conv => s.dom.conv
  | .fabric => s.dom.fabric
  | .memory => s.dom.memory
  | .display => s.dom.display
  | .kp => s.dom.kp

/-- A domain is up: on, and not in retention (R42). -/
def up (s : State) (d : Domain) : Bool := s.domSt d == .on

/-- The ordering variant (R1, R4): 0 KSH4-FA, 1 KSH4-NA, 2 KSH2-FA. -/
def variant (s : State) : Nat := s.f GLB_ID.variant

/-- Input and path `p` exist in the variant (R1). -/
def pathPresent (s : State) (p : Nat) : Bool := decide (p < if s.variant == 2 then 2 else 4)

/-- How many kernel processors the variant numbers for work (R1). -/
def kpPresent (s : State) (n : Nat) : Bool :=
  if s.variant == 2 then decide (n < 32) || n == 64 || n == 65 else decide (n < 68)

/-- Capture-memory channel `m` exists in the variant (R1). -/
def mcPresent (s : State) (m : Nat) : Bool := decide (m < if s.variant == 2 then 4 else 8)

/-- The display unit exists in the variant (R1). -/
def displayPresent (s : State) : Bool := s.variant != 1

/-- The event is one of a unit that is absent in the variant (R3, R66). -/
def eventAbsent (s : State) (n : Nat) : Bool :=
  if 72 ≤ n && n < 96 then !s.pathPresent (n % 4)
  else if 128 ≤ n && n < 168 then !s.pathPresent (n % 4)
  else if 640 ≤ n && n < 844 then !s.kpPresent ((n - 640) / 3)
  else if 850 ≤ n && n < 856 then !s.displayPresent
  else false

/-- Event `n` is raised: for each port separately (R69). A unit that is absent raises none of its events (R3). -/
def raise (s : State) (n : Nat) : State := if s.eventAbsent n then s else (s.raiseAt .a n).raiseAt .b n

/-- Events of a list are raised, in order. -/
def raiseAll (s : State) : List Nat → State
  | [] => s
  | n :: ns => (s.raise n).raiseAll ns

/-- Registers that stand once for each of four inputs or paths: where the first begins, and the bytes of each (R2, R38). -/
def perPath : List (Nat × Nat) :=
  [(0x210, 0x20), (0x40100, 0x10), (0x40200, 0x40), (0x100000, 0x1000), (0x120000, 0x8000), (0x140000, 0x10000),
   (0x188200, 0x10), (0x220040, 0x4), (0x224000, 0x2000), (0x22C000, 0x400)]

/-- A BAR0 offset belongs to a unit that is absent in the variant (R2). -/
def absent (s : State) (off : Nat) : Bool :=
  if 0x1F0000 ≤ off && off < 0x200000 then !s.displayPresent
  else if 0x1B0000 ≤ off && off < 0x1B0800 then !s.mcPresent (off % 0x10000 / 0x100)
  else if 0x1000000 ≤ off && off < 0x1880000 then !s.kpPresent (off % 0x1000000 / 0x20000)
  else perPath.any fun e => decide (e.1 ≤ off) && decide (off < e.1 + 4 * e.2) && !s.pathPresent ((off - e.1) / e.2)

/-- A BAR0 offset reaches a register: its block is not reserved, its domain is up, its unit is there (R2, R8, R13). -/
def reachable (s : State) (off : Nat) : Bool :=
  match domainOf off with
  | none => false
  | some d => s.up .host && s.up d && !s.absent off

/-! ### Semaphores and guards -/

/-- Who holds SEM_n. -/
def holder (s : State) (n : Nat) : Option Holder := s.sem.holder.get none n

/-- The state with SEM_n held by `h`, or free. -/
def setHolder (s : State) (n : Nat) (h : Option Holder) : State :=
  { s with sem := { s.sem with holder := s.sem.holder.put none n h } }

/-- SEM_n becomes free; with SEM_3 the fast controls go off (R86). -/
def freeSem (s : State) (n : Nat) : State :=
  let s := s.setHolder n none
  if n = 3 then (s.set MP_CTL.fast_en 0).set MP_STATUS.fast_en 0 else s

/-- The owner code of a holder (R55). -/
def ownerCode : Holder → Word
  | .cp .a => 0x5E00000A
  | .cp .b => 0x5E00000B
  | .engine => 0x5E00000E

/-- A write of port `p` at `off` is refused: counted, its offset kept, event 8 or 9 (R60). -/
def refuse (s : State) (p : Port) (off : Nat) : State :=
  match p with
  | .a => ((s.bump SEM_REFUSED_0.reg).set SEM_LAST_REFUSED_0.reg off).raise 8
  | .b => ((s.bump SEM_REFUSED_1.reg).set SEM_LAST_REFUSED_1.reg off).raise 9

/-- A write with the rights of a Control Port at a BAR0 offset, guarded by a semaphore or not, reaches the register hub:
dropped where nothing is there (R2, R8, R13), refused where its guard is not held (R60), else it has its effect. -/
def portWrite (s : State) (p : Port) (off : Nat) (sem : Option Nat) (effect : State → State) : State :=
  if !s.reachable off then s
  else
    match sem with
    | none => effect s
    | some n => if s.holder n = some (.cp p) then effect s else s.refuse p off

/-- A write request of a Control Port at a BAR0 offset: completed, and then as `portWrite` says. -/
def hubWrite (s : State) (p : Port) (off : Nat) (sem : Option Nat) (effect : State → State) : State :=
  (s.complete .ok).portWrite p off sem effect

/-! ### Mirror image (R78) -/

/-- A group of the mirror takes new data words, given by their place in the group, all together, and its generation
word goes up by one (R78). -/
def mirrorUpdate (s : State) (group : Nat) (ws : List (Nat × Nat)) : State :=
  let words := ws.foldl (fun t (e : Nat × Nat) => Tab.put 0 t (16 * group + e.1) (BitVec.ofNat 32 e.2)) s.mirror.words
  let gen := Tab.get 0 words (16 * group)
  { s with mirror := { s.mirror with words := words.put 0 (16 * group) (gen + 1) } }

/-- A free value is drawn: the number it is known by, and the state after. -/
def draw (s : State) : Nat × State := (s.free, { s with free := s.free + 1 })

end State

end Machine

end Sys2Proof
end

