-- ==== Sys2Proof/Machine/Flags.lean ====
section
/-! DEFINITION. The arithmetic of the kernel processors and the flags it gives (R388 to R391, R393, R394): pure functions of
numbers of a width. -/

namespace Sys2Proof.Machine

/-- What an ALU operation gives: the result, and carry and overflow where R388 fixes them. -/
structure AluOut where
  value : Nat
  carry : Option Bool
  ovf : Option Bool
deriving DecidableEq, Repr

/-- A sum of `w` bits with a carry in: carry out, and two's complement overflow. -/
def aluAdd (w a b : Nat) (cin : Bool) : AluOut :=
  let r := a + b + b2n cin
  let t := signed w a + signed w b + (b2n cin : Int)
  { value := r % 2 ^ w, carry := some (decide (2 ^ w ≤ r)), ovf := some (decide (signed w r ≠ t)) }

/-- A difference of `w` bits with a borrow in; the carry flag stands for the borrow or its absence, as `Config.kpBorrow`
says. -/
def aluSub (w a b : Nat) (bin : Bool) : AluOut :=
  let r := a + 2 ^ w - (b + b2n bin) % 2 ^ w
  let t := signed w a - signed w b - (b2n bin : Int)
  let borrow := decide (a < b + b2n bin)
  { value := r % 2 ^ w, carry := some (borrow == Config.kpBorrow), ovf := some (decide (signed w r ≠ t)) }

/-- An operation of classes 0x00 to 0x03 on values of `w` bits (R395); `c` is the carry flag before. -/
def alu (op : KpAluOp) (w a b shift : Nat) (c : Bool) : AluOut :=
  let logic := fun (v : Nat) => ({ value := v % 2 ^ w, carry := none, ovf := none } : AluOut)
  match op with
  | .add => aluAdd w a b false
  | .addc => aluAdd w a b c
  | .sub => aluSub w a b false
  | .subc => aluSub w a b (c == Config.kpBorrow)
  | .cmp => aluSub w a b false
  | .and_ => logic (a &&& b)
  | .or_ => logic (a ||| b)
  | .xor_ => logic (a ^^^ b)
  | .not_ => logic (2 ^ w - 1 - a % 2 ^ w)
  | .shl => logic (a * 2 ^ shift)
  | .shr => logic (a / 2 ^ shift)
  | .sar => logic (unsigned w (signed w a / ((2 ^ shift : Nat) : Int)))

/-- SR with the flags z, n, c, v of a result of `w` bits; `free` gives the bits of c and v that R388 leaves open (bit 1 for c,
bit 0 for v). -/
def srFlags (sr w : Nat) (r : AluOut) (free : Nat) : Nat :=
  let z := b2n (r.value == 0)
  let n := b2n (bit r.value (w - 1))
  let c := b2n (r.carry.getD (bit free 1))
  let v := b2n (r.ovf.getD (bit free 0))
  sr / 16 * 16 + 8 * z + 4 * n + 2 * c + v

/-- A branch condition by the flags of SR (R395): comparisons are those of the operands of the CMP before. -/
def condHolds (sr : Nat) : KpCond → Bool
  | .always => true
  | .flag i v => bit sr i == v
  | .lt => bit sr 2 != bit sr 0
  | .ge => bit sr 2 == bit sr 0
  | .le => bit sr 3 || bit sr 2 != bit sr 0
  | .gt => !bit sr 3 && bit sr 2 == bit sr 0
  | .below => bit sr 1 == Config.kpBorrow
  | .aboveEq => bit sr 1 != Config.kpBorrow
  | .belowEq => bit sr 3 || bit sr 1 == Config.kpBorrow
  | .above => !bit sr 3 && bit sr 1 != Config.kpBorrow

/-! ### Products and sums (R389, R390) -/

/-- The product of two halves as a number: with `u` unsigned; a signed one is doubled when frac is 1 (R389). -/
def mulHalves (frac u : Bool) (a b : Nat) : Int :=
  if u then ((a % 2 ^ 16 * (b % 2 ^ 16) : Nat) : Int)
  else (if frac then 2 else 1) * (signed 16 a * signed 16 b)

/-- The product with its sign. -/
def signBy (neg : Bool) (x : Int) : Int := if neg then -x else x

/-- A sum fits in 40 bits (R390). -/
def fits40 (x : Int) : Bool := decide (-(2 ^ 39 : Nat) ≤ x ∧ x < ((2 ^ 39 : Nat) : Int))

/-- What an addition into a sum register leaves: its 40 bits, a guard overflow, and the clamp (R390). -/
def sumAdd (old : Nat) (x : Int) (sat clamped : Bool) : Nat × Bool × Bool :=
  if sat && clamped then (old, false, true)
  else
    let r := signed 40 old + x
    if fits40 r then (unsigned 40 r, false, false)
    else if sat then (if 0 ≤ r then 2 ^ 39 - 1 else 2 ^ 39, true, true)
    else (unsigned 40 r, true, false)

/-! ### Stores of a sum (R391, R403) -/

/-- Half to even, of `x ÷ 2^16`. -/
def roundHalfEven16 (x : Int) : Int :=
  let q := x / 65536
  let r := x % 65536
  if r < 32768 then q else if 32768 < r then q + 1 else if q % 2 = 0 then q else q + 1

/-- Half up, of `x ÷ 2^16`: the rounding of SH1 mode (R403). -/
def roundHalfUp16 (x : Int) : Int := (x + 32768) / 65536

/-- A value cut to `w` bits in two's complement, and whether that took saturation. -/
def saturate (w : Nat) (x : Int) : Nat × Bool :=
  if x < -((2 ^ (w - 1) : Nat) : Int) then (2 ^ (w - 1), true)
  else if ((2 ^ (w - 1) : Nat) : Int) ≤ x then (2 ^ (w - 1) - 1, true)
  else (unsigned w x, false)

/-- What ST.S stores of a sum register, and whether it saturates (R391). -/
def storeSum (s40 : Nat) (half sh1 : Bool) : Nat × Bool :=
  let x := signed 40 s40
  if half then saturate 16 (if sh1 then roundHalfUp16 x else roundHalfEven16 x) else saturate 32 x

/-! ### Search and exponent (R393, R394) -/

/-- A new value replaces the running extreme. -/
def beats (max u : Bool) (w new old : Nat) : Bool :=
  let lt := fun (a b : Nat) => if u then decide (a % 2 ^ w < b % 2 ^ w) else decide (signed w a < signed w b)
  if max then lt old new else lt new old

/-- Copies of the sign bit of a value of `w` bits below it, from bit `k` down. -/
def signRun (v : Nat) (sign : Bool) : Nat → Nat
  | 0 => 0
  | k + 1 => if bit v k == sign then signRun v sign k + 1 else 0

/-- Redundant sign bits of a value of `w` bits; zero counts as the full width (R394). -/
def redundant (w v : Nat) : Nat := if v % 2 ^ w = 0 then w else signRun v (bit v (w - 1)) (w - 1)

/-! ### Cursors (R386) -/

/-- The low `b` bits of a number in reversed order. -/
def reverseBits : Nat → Nat → Nat
  | 0, _ => 0
  | b + 1, v => v % 2 * 2 ^ b + reverseBits b (v / 2)

/-- A cursor after a move by `s`, under its descriptor and window (R386). -/
def cursorMove (c cfg win : Nat) (s : Int) : Nat :=
  let mode := bits cfg 30 2
  let len := bits win 16 13
  let o := bits win 0 13
  let linear := unsigned 16 ((c : Int) + s)
  if mode = 1 then (if len = 0 then linear else (o + (((c : Int) - (o : Int) + s) % (len : Int)).toNat) % 2 ^ 16)
  else if mode = 2 then
    if len = 0 ∨ 13 < len then linear
    else c / 2 ^ len * 2 ^ len + reverseBits len (unsigned len ((reverseBits len (c % 2 ^ len) : Int) + s))
  else linear

/-- The stride of a cursor descriptor, signed (R385). -/
def strideOf (cfg : Nat) : Int := signed 14 (bits cfg 16 14)

end Sys2Proof.Machine
end

