-- ==== Sys2Proof/Machine/Crypto.lean ====
section
/-! DEFINITION. The check values that the spec names: CRC-32C (R133), SHA-384 and ECDSA over P-384 (R90 to R92). The
two standards themselves are not in the spec; they are taken as published (PRESUMED, log entry 7). -/

namespace Sys2Proof.Machine

/-! ### CRC-32C (R133) -/

/-- One bit of the reflected CRC-32C register moves out. -/
def crcBit (c : BitVec 32) : BitVec 32 :=
  if c.getLsbD 0 then (c >>> 1) ^^^ 0x82F63B78 else c >>> 1

/-- One byte enters the CRC-32C register. -/
def crcByte (c : BitVec 32) (b : Byte) : BitVec 32 :=
  let x := c ^^^ b.setWidth 32
  crcBit (crcBit (crcBit (crcBit (crcBit (crcBit (crcBit (crcBit x)))))))

/-- The CRC-32C check value of a byte string (R133). -/
def crc32c (bs : List Byte) : Word := (bs.foldl crcByte 0xFFFFFFFF) ^^^ 0xFFFFFFFF

/-- One byte enters the register of the frame check sequence of IEEE 802.3 (R436). -/
def fcsByte (c : BitVec 32) (b : Byte) : BitVec 32 :=
  (List.range 8).foldl (fun c _ => if c.getLsbD 0 then (c >>> 1) ^^^ 0xEDB88320 else c >>> 1) (c ^^^ b.setWidth 32)

/-- The frame check sequence of an Ethernet frame (R436), PRESUMED as published (log entry 7). -/
def frameCheck (bs : List Byte) : Word := (bs.foldl fcsByte 0xFFFFFFFF) ^^^ 0xFFFFFFFF

/-! ### SHA-384 -/

/-- A 64-bit word of SHA-384. -/
abbrev W64 := BitVec 64

/-- The largest `r` below `2 ^ n`, with the bits of `r` above them given, whose `k`-th power is not above `x`. -/
def rootFrom (k x : Nat) : Nat → Nat → Nat
  | 0, r => r
  | n + 1, r => if (r + 2 ^ n) ^ k ≤ x then rootFrom k x n (r + 2 ^ n) else rootFrom k x n r

/-- The first 64 bits after the binary point of the `k`-th root of a number below 1,000. -/
def rootBits (k p : Nat) : W64 := BitVec.ofNat 64 (rootFrom k (p * 2 ^ (64 * k)) 70 0)

/-- Of rising numbers, those that no smaller one divides. -/
def sieve : Nat → List Nat → List Nat
  | 0, _ => []
  | _ + 1, [] => []
  | n + 1, p :: l => p :: sieve n (l.filter fun m => m % p != 0)

/-- The first 80 primes, which the standard draws its constants from. -/
def primes80 : List Nat := sieve 80 ((List.range 408).map (· + 2))

/-- The round constants: of the cube roots of those primes. -/
def shaK : List W64 := primes80.map (rootBits 3)

/-- The initial hash value of SHA-384: of the square roots of the ninth to the sixteenth prime. -/
def shaInit : List W64 := ((primes80.drop 8).take 8).map (rootBits 2)

/-- Rotation to the right. -/
def rotr (x : W64) (n : Nat) : W64 := (x >>> n) ||| (x <<< (64 - n))

/-- The next word of the message schedule from the last sixteen, newest first. -/
def shaNext (w : List W64) : W64 :=
  let a := w.getD 14 0
  let b := w.getD 1 0
  (rotr b 19 ^^^ rotr b 61 ^^^ (b >>> 6)) + w.getD 6 0 + (rotr a 1 ^^^ rotr a 8 ^^^ (a >>> 7)) + w.getD 15 0

/-- One round on the eight working words. -/
def shaRound (s : List W64) (k w : W64) : List W64 :=
  match s with
  | [a, b, c, d, e, f, g, h] =>
    let t1 := h + (rotr e 14 ^^^ rotr e 18 ^^^ rotr e 41) + ((e &&& f) ^^^ (~~~e &&& g)) + k + w
    let t2 := (rotr a 28 ^^^ rotr a 34 ^^^ rotr a 39) + ((a &&& b) ^^^ (a &&& c) ^^^ (b &&& c))
    [t1 + t2, a, b, c, d + t1, e, f, g]
  | x => x

/-- Rounds over a list of constants: `win` is the last sixteen schedule words, newest first, and `ahead` those of
the block still to be used. -/
def shaRounds : List W64 → List W64 → List W64 → List W64 → List W64
  | [], _, _, s => s
  | k :: ks, w :: ahead, win, s => shaRounds ks ahead (w :: win.take 15) (shaRound s k w)
  | k :: ks, [], win, s => shaRounds ks [] (shaNext win :: win.take 15) (shaRound s k (shaNext win))

/-- The words of a block of 128 bytes, big-endian. -/
def shaWords : Nat → List Byte → List W64
  | 0, _ => []
  | n + 1, b => BitVec.ofNat 64 (leNat (b.take 8).reverse) :: shaWords n (b.drop 8)

/-- One block enters the hash value. -/
def shaBlock (h : List W64) (block : List Byte) : List W64 :=
  List.zipWith (· + ·) h (shaRounds shaK (shaWords 16 block) [] h)

/-- Blocks enter the hash value, as many as `n` says. -/
def shaBlocks : Nat → List W64 → List Byte → List W64
  | 0, h, _ => h
  | n + 1, h, m => shaBlocks n (shaBlock h (m.take 128)) (m.drop 128)

/-- The SHA-384 digest of a byte string, 48 bytes. -/
def sha384 (m : List Byte) : List Byte :=
  let zeros := (239 - m.length % 128) % 128
  let padded := m ++ (0x80 :: List.replicate zeros 0) ++ beBytes 16 (8 * m.length)
  ((shaBlocks (padded.length / 128) shaInit padded).take 6).flatMap (fun w => beBytes 8 w.toNat)

/-! ### ECDSA over P-384 -/

/-- The field prime of P-384. -/
def p384 : Nat := 2 ^ 384 - 2 ^ 128 - 2 ^ 96 + 2 ^ 32 - 1

/-- The order of the base point. -/
def n384 : Nat :=
  0xffffffffffffffffffffffffffffffffffffffffffffffffc7634d81f4372ddf581a0db248b0a77aecec196accc52973

/-- The constant b of the curve. -/
def b384 : Nat :=
  0xb3312fa7e23ee7e4988e056be3f82d19181d9c6efe8141120314088f5013875ac656398d8a2ed19d2a85c8edd3ec2aef

/-- The base point. -/
def g384 : Nat × Nat :=
  (0xaa87ca22be8b05378eb1c71ef320ad746e1d3b628ba79b9859f741e082542a385502f25dbf55296c3a545e3872760ab7,
   0x3617de4a96262c6f5d9e98bf9292dc29f8f41dbd289a147ce9da3113b5f0b8c00a60b1ce1d7e819d7a431d7c90ea0e5f)

/-- `b ^ e` modulo `m`, over the low `n` bits of the exponent. -/
def powMod (m : Nat) : Nat → Nat → Nat → Nat
  | 0, _, _ => 1
  | n + 1, b, e =>
    let r := powMod m n (b * b % m) (e / 2)
    if e % 2 = 1 then b * r % m else r

/-- The inverse modulo a prime, by the exponent two below it. -/
def invMod (m a : Nat) : Nat := powMod m 384 (a % m) (m - 2)

/-- The sum of two points of the curve; `none` is the point at infinity. -/
def ecAdd : Option (Nat × Nat) → Option (Nat × Nat) → Option (Nat × Nat)
  | none, q => q
  | p, none => p
  | some (x1, y1), some (x2, y2) =>
    if x1 = x2 ∧ (y1 + y2) % p384 = 0 then none
    else
      let l := if x1 = x2 then (3 * x1 * x1 + (p384 - 3)) * invMod p384 (2 * y1) % p384
               else (y2 + (p384 - y1)) * invMod p384 (x2 + (p384 - x1)) % p384
      let x3 := (l * l + 2 * p384 - x1 - x2) % p384
      some (x3, (l * (x1 + (p384 - x3)) + (p384 - y1)) % p384)

/-- The `k`-fold of a point, over the low `n` bits of `k`. -/
def ecMul : Nat → Nat → Option (Nat × Nat) → Option (Nat × Nat)
  | 0, _, _ => none
  | n + 1, k, p =>
    let r := ecMul n (k / 2) (ecAdd p p)
    if k % 2 = 1 then ecAdd p r else r

/-- The signature (r, s) over a digest verifies under the public key (R91). -/
def ecdsaVerify (qx qy r s : Nat) (digest : List Byte) : Bool :=
  if r = 0 ∨ n384 ≤ r ∨ s = 0 ∨ n384 ≤ s ∨ p384 ≤ qx ∨ p384 ≤ qy then false
  else if (qx * qx * qx + (p384 - 3) * qx + b384) % p384 ≠ qy * qy % p384 then false
  else
    let w := invMod n384 s
    let z := leNat digest.reverse
    match ecAdd (ecMul 384 (z * w % n384) (some g384)) (ecMul 384 (r * w % n384) (some (qx, qy))) with
    | none => false
    | some (x, _) => x % n384 == r

end Sys2Proof.Machine
end

