-- ==== Sys2Proof/Machine/Integrity.lean ====
section
/-! DEFINITION. What every unit does when a check finds something (19_wear_integrity.md): the error log, the marks and
the ledger entries that go with them. Also the mirror groups that gather their changes (R168), and parcels. -/

namespace Sys2Proof.Machine

/-! ### Time -/

/-- 2.56 GHz ticks in a number of microseconds (R16). -/
def usTicks (us : Nat) : Nat := 2560 * us

/-- 2.56 GHz ticks in a number of milliseconds. -/
def msTicks (ms : Nat) : Nat := 2560000 * ms

namespace State

/-- A mirror group has changed content: it takes it at once where `minTicks` have passed since its last update, else the
change is gathered (R168). The content is a function of the state at the update. -/
def touch (s : State) (group minTicks : Nat) (content : State → List (Nat × Nat)) : State :=
  let last := Tab.get 0 s.mirror.updated group
  if last = 0 ∨ last - 1 + minTicks ≤ s.time.clk then
    let s := s.mirrorUpdate group (content s)
    { s with mirror := { s.mirror with updated := s.mirror.updated.put 0 group (s.time.clk + 1)
                                       dirty := s.mirror.dirty.put false group false } }
  else { s with mirror := { s.mirror with dirty := s.mirror.dirty.put false group true
                                          gathered := s.mirror.gathered.put [] group (content s) } }

/-! ### The ledger (R550, R551) -/

/-- A change of a spare or a mark: a ledger entry waits to be written (R543, R551). -/
def ledgerAdd (s : State) (kind cause unit detail : Nat) : State :=
  let e : LedgerEntry :=
    { kind := kind, cause := cause, unit := unit, detail := detail, tick := s.time.tick.toNat,
      epoch := s.f STRM_EPOCH_SEC.reg, boots := s.wear.boots, number := s.wear.nextNumber }
  { s with wear := { s.wear with toWrite := s.wear.toWrite ++ [e], nextNumber := s.wear.nextNumber + 1 } }

/-- A unit is marked: its ledger entry and event 900 (R543). -/
def marked (s : State) (kind cause unit detail : Nat) : State := (s.ledgerAdd kind cause unit detail).raise 900

/-- Every entry that has been made, compacted, stored or waiting, oldest first. -/
def ledgerAll (s : State) : List LedgerEntry := s.wear.kept ++ s.wear.ledger ++ s.wear.toWrite

/-- The state of a tile. -/
def tile (s : State) (t : Nat) : TileSt := s.fab.tiles.get TileSt.reset t

/-- The state with the state of a tile changed. -/
def setTile (s : State) (t : Nat) (x : TileSt) : State :=
  { s with fab := { s.fab with tiles := s.fab.tiles.put TileSt.reset t x } }

/-- A tile is marked for retirement, once (R541 to R543). -/
def markTile (s : State) (t cause detail : Nat) : State :=
  let w := WEAR_TILE_MARK.reg (t / 32)
  if bit (s.f w) (t % 32) then s
  else
    let s := s.setTile t { s.tile t with marked := true }
    ((s.set w (setBit (s.f w) (t % 32))).addWrap WEAR_STATUS.tiles_marked 1).marked 0x01 cause t detail

/-! ### The error log (R555) -/

/-- The 32 bytes of an error-log entry (R555). -/
def chkBytes (tick index addr kind cls unit action : Nat) (path : Option Nat) : List Byte :=
  leBytes 8 tick ++ leBytes 8 index ++ leBytes 8 addr ++ leBytes 1 kind ++ leBytes 1 cls ++ leBytes 2 unit ++
    leBytes 1 action ++ leBytes 1 (path.getD 0x80) ++ leBytes 2 0

/-- Eight words of a log entry are written at an offset. -/
def setWords (s : State) : Nat → List Byte → Nat → State
  | _, _, 0 => s
  | a, b, n + 1 => (s.setWord a 0 (field b 0 4)).setWords (a + 4) (b.drop 4) n

/-- An entry enters the error log, over the oldest, and event 908 is raised (R555). -/
def chkEntry (s : State) (index addr kind cls unit action : Nat) (path : Option Nat) : State :=
  let h := s.f CHK_HEAD.reg
  let s := s.setWords ((CHK_LOG.word (h % 256) 0).addr)
    (chkBytes s.time.tick.toNat index addr kind cls unit action path) 8
  let s := { s with wear := { s.wear with logged := s.wear.logged.put 0 (16 * kind + cls) (s.time.clk + 1) } }
  (s.addWrap CHK_HEAD.reg 1).raise 908

/-- The number by which a row of a unit's memory is known. -/
def rowKey (unit row : Nat) : Nat := 65536 * unit + row

/-- An SRAM row is marked, once (R541, R543). -/
def markRow (s : State) (unit row : Nat) : State :=
  let k := rowKey unit row
  if s.wear.rowMark.contains k || s.wear.rowSpared.contains k then s
  else
    ({ s with wear := { s.wear with rowMark := s.wear.rowMark ++ [k] } }.bump WEAR_STATUS.rows_marked).marked 0x06 0x3 unit row

/-- A corrected error in an SRAM row: the row is marked at its eighth since start-up (R541). -/
def rowCorrected (s : State) (unit row : Nat) : State :=
  let k := rowKey unit row
  let n := Tab.get 0 s.wear.rowErrors k + 1
  let s := { s with wear := { s.wear with rowErrors := s.wear.rowErrors.put 0 k n } }
  if 8 ≤ n then s.markRow unit row else s

/-- An uncorrectable error in an SRAM row marks it (R541). -/
def rowFailed (s : State) (unit row : Nat) : State := s.markRow unit row

/-- The row of an SRAM macro in which a word of a unit lies: the tiles' rows are their addresses; none for memories that are no
SRAM (R541, R555). -/
def sramRowOf (cls unit addr : Nat) : Option (Nat × Nat) :=
  match cls with
  | 0 => some (unit, addr)
  | 6 | 7 | 8 => none
  | _ => let k := Config.sramRow cls unit addr; some (k / 65536, k % 65536)

/-- An error that a read of an SRAM word met counts for the word's row, where there is one (R541). -/
def rowError (s : State) (failed : Bool) (row : Option (Nat × Nat)) : State :=
  match row with
  | some r => if failed then s.rowFailed r.1 r.2 else s.rowCorrected r.1 r.2
  | none => s

/-- An uncorrected failure: always an entry; an uncorrectable error of an SRAM word marks its row (R541, R555). -/
def chkFail (s : State) (index addr kind cls unit action : Nat) (path : Option Nat) : State :=
  (s.rowError true (if kind = 2 then sramRowOf cls unit addr else none)).chkEntry index addr kind cls unit action path

/-- A corrected error, a passed repeat or a successful resend: counted, and logged when no entry of its kind and class
has been written in the last second (R555); a corrected error of an SRAM word counts for its row (R541). -/
def chkCorr (s : State) (addr kind cls unit action : Nat) (path : Option Nat) : State :=
  let s := s.bump CHK_CORR.reg
  let last := Tab.get 0 s.wear.logged (16 * kind + cls)
  let s := if last = 0 ∨ last - 1 + 2560000000 ≤ s.time.clk then
      s.chkEntry (2 ^ 64 - 1) addr kind cls unit action path
    else s
  s.rowError false (if kind = 1 then sramRowOf cls unit addr else none)

/-! ### Spares (R541, R546) -/

/-- The spares left of some kind have fallen to `n`: event 902 at one or none (R546). -/
def sparesLow (s : State) (n : Nat) : State := if n ≤ 1 then s.raise 902 else s

/-- A die-to-die lane is marked: its ledger entry, event 900, and its spare trains where one is left and no other lane's
does (R541, R543, R547). -/
def markLane (s : State) (lane cause : Nat) : State :=
  if bit s.wear.laneMark lane then s
  else
    let s := { s with wear := { s.wear with laneMark := setBit s.wear.laneMark lane } }
    let s := if s.wear.laneTraining = none ∧ 0 < s.f WEAR_SPARES.lanes then
        { s with wear := { s.wear with laneTraining := some lane } } else s
    s.marked 0x05 cause lane 0

/-- A resend on a lane: the lane is marked at lane_resends resends within one hour (R136, R541). -/
def laneResend (s : State) (lane : Nat) : State :=
  let hour := 3600 * 2560000000
  let times := s.time.clk :: (Tab.get [] s.wear.resends lane).filter fun t => s.time.clk < t + hour
  let s := { s with wear := { s.wear with resends := s.wear.resends.put [] lane times } }
  if max 1 (s.f WEAR_CTL.lane_resends) ≤ times.length then s.markLane lane 0x5 else s

end State

/-- Parcel flags of R131, as bit numbers. -/
def flagOVR : Nat := 0
/-- CLK_INVALID (R131). -/
def flagCLK : Nat := 1
/-- UNSETTLED (R131). -/
def flagUNSETTLED : Nat := 2
/-- TAINT (R131). -/
def flagTAINT : Nat := 3
/-- GAP_BEFORE (R131). -/
def flagGAP : Nat := 4
/-- CAL_SETTLING (R131). -/
def flagCAL : Nat := 5
/-- STALE (R131). -/
def flagSTALE : Nat := 6
/-- TIME_HOLDOVER (R131). -/
def flagTIME : Nat := 7

end Sys2Proof.Machine

namespace Sys2Proof

open Sys2Proof.Machine

/-! ### Parcels (R127) -/

/-- The kind code of a parcel (R127). -/
def Kind.code : Kind → Nat
  | .block => 1
  | .iq => 2
  | .spectrum => 3
  | .record => 4
  | .gap => 5
  | .void => 6

/-- The kind of a code, where it is issued (R127). -/
def Kind.ofCode (n : Nat) : Option Kind :=
  match n with
  | 1 => some .block
  | 2 => some .iq
  | 3 => some .spectrum
  | 4 => some .record
  | 5 => some .gap
  | 6 => some .void
  | _ => none

/-- The flags word of a parcel's header: the flags of R131, and MARKER as bit 8 (R127). -/
def Parcel.flagsWord (x : Parcel) : Nat := x.flags % 256 + 256 * b2n x.marker.isSome

/-- Header bytes 0 to 27 of a parcel (R127); a marker's offset past 65,535 keeps its low 16 bits (DESIGN CHOICE, log entry 73). -/
def Parcel.head (x : Parcel) : List Byte :=
  leBytes 1 (x.path % 4 + 4 * b2n x.replay) ++ leBytes 1 x.kind.code ++ leBytes 2 x.flagsWord ++ leBytes 2 x.payload.length ++ leBytes 6 (x.seq % 2 ^ 48) ++
    leBytes 8 x.tick ++ leBytes 1 (x.phase % 64) ++ leBytes 1 x.segment ++ leBytes 1 x.segments ++
    leBytes 1 ((x.marker.map Prod.fst).getD 0) ++ leBytes 2 ((x.marker.map Prod.snd).getD 0) ++ leBytes 2 (x.stream % 256)

/-- The check value a parcel must carry (R134). -/
def Parcel.crcOf (x : Parcel) : Word := crc32c (x.head ++ x.payload)

/-- The parcel's check value is right (R134). -/
def Parcel.crcOk (x : Parcel) : Bool := x.crc == x.crcOf

/-- The parcel with its check value computed anew (R135). -/
def Parcel.seal (x : Parcel) : Parcel := { x with crc := x.crcOf }

/-- All bytes of a parcel: header, check value, payload. -/
def Parcel.bytes (x : Parcel) : List Byte := x.head ++ leBytes 4 x.crc.toNat ++ x.payload

/-- Read a stored parcel's header; the seq's wraps are those of `near` (R129). -/
def Parcel.ofBytes (b : List Byte) : Option Parcel :=
  (Kind.ofCode (field b 1 1)).map fun k =>
    { path := field b 0 1 % 4, replay := bit (field b 0 1) 2, kind := k, flags := field b 2 1, seq := field b 6 6,
      tick := field b 12 8, phase := field b 20 1 % 64, segment := field b 21 1, segments := field b 22 1,
      marker := if bit (field b 2 2) 8 then some (field b 23 1, field b 24 2) else none,
      stream := field b 26 1, payload := (b.drop 32).take (field b 4 2), crc := BitVec.ofNat 32 (field b 28 4) }

/-- A consumer that takes one stream of a path, or all of them with 255, receives a parcel: its own streams' parcels, and
every GAP parcel of the path (R162). -/
def Parcel.reaches (x : Parcel) (path stream : Nat) : Bool :=
  x.path == path && (stream == 255 || x.stream == stream || x.kind == .gap)

/-- The parcel with a flag set, its check value computed anew (R35, R135). -/
def Parcel.withFlag (x : Parcel) (i : Nat) : Parcel := { x with flags := setBit x.flags i }.seal

end Sys2Proof
end

