-- ==== Sys2Proof/Machine/Fabric.lean ====
section
/-! DEFINITION. The self-timed fabric (04_fabric.md): paths, capacity, voltage requests, gap records, elastic buffers,
the reorder window, tiles, the pacer clock. -/

namespace Sys2Proof.Machine

namespace State

/-! ### Paths and their modes (R19, R28) -/

/-- The mode field of PATH_p in GLB_MODE (R28). -/
def modeLoc (p : Nat) : Loc := ⟨GLB_MODE.reg.addr, 4 * p, 4, 0⟩

/-- The mode code of PATH_p (R19). -/
def mode (s : State) (p : Nat) : Nat := s.f (modeLoc p)

/-- The running bit of PATH_p (R28). -/
def running (s : State) (p : Nat) : Bool := bit (s.f GLB_MODE.running) p

/-- The state with the running bit of PATH_p at `b`. -/
def setRunning (s : State) (p : Nat) (b : Bool) : State :=
  s.set GLB_MODE.running (if b then setBit (s.f GLB_MODE.running) p else clearBit (s.f GLB_MODE.running) p)

/-- A path. -/
def path (s : State) (p : Nat) : PathSt := s.fab.paths.get PathSt.reset p

/-- The state with a path changed. -/
def setPath (s : State) (p : Nat) (x : PathSt) : State :=
  { s with fab := { s.fab with paths := s.fab.paths.put PathSt.reset p x } }

/-- A REPLAY path has read its set length (R101). -/
def replayDone (s : State) (p : Nat) : Bool :=
  match (s.path p).img with
  | some g => g.replay.len != 0 && decide (g.replay.len ≤ (s.path p).replayRead)
  | none => false

/-- A REPLAY path has something left to read (R101). -/
def replays (s : State) (p : Nat) : Bool := s.mode p == 7 && !s.replayDone p

/-- A path's structure analyses once its input comes: it holds a mode, and a REPLAY path has not read its set length (R28). -/
def analyses (s : State) (p : Nat) : Bool := s.mode p != 0 && !(s.mode p == 7 && s.replayDone p)

/-- The path holds a real-time mode (R19). -/
def realTime (s : State) (p : Nat) : Bool := decide (1 ≤ s.mode p ∧ s.mode p ≤ 6)

/-- The path is the lower path of a pair that runs WIDE (R20). -/
def wideLower (s : State) (p : Nat) : Bool := s.mode p == 2 && p % 2 == 0

/-- The path is the upper path of a pair that runs WIDE. -/
def wideUpper (s : State) (p : Nat) : Bool := s.mode p == 2 && p % 2 == 1

/-- Fs in units of 2^-24 Hz (R208). -/
def fs24 (s : State) : Nat := 320000000 * (s.f SPLL_DIV.n_int * 2 ^ 24 + s.f SPLL_DIV.frac)

/-- The converter rate of a path, in units of 2^-24 Hz: that of the interleaved stream for a WIDE pair. -/
def pathFs24 (s : State) (p : Nat) : Nat := if s.mode p == 2 then 2 * s.fs24 else s.fs24

/-! ### Logical tiles (R93) -/

/-- The physical row of the `r`-th row of a column that is not retired, from row `k` on, over `n` rows. -/
def rowFrom (retired : Nat) (r : Nat) (k : Nat) : Nat → Option Nat
  | 0 => none
  | n + 1 => if bit retired k then rowFrom retired r (k + 1) n else if r = 0 then some k else rowFrom retired (r - 1) (k + 1) n

/-- The physical tile of a logical tile (R93); none where its column has run short (R95). -/
def physTile (s : State) (l : Nat) : Option Nat :=
  (rowFrom (s.f (IMG_RETIRED.rows (l % 32))) (l / 32) 0 34).map fun r => 32 * r + l % 32

/-- The tile record in force that a physical tile runs. -/
def tileCfg (s : State) (t : Nat) : Option TileCfg :=
  ((List.range 4).flatMap fun p => ((s.path p).img.map (·.tiles)).getD []).find? fun c => s.physTile c.ltile == some t

/-! ### Capacity (R113 to R115, R153) -/

/-- The lowest floor rate among tiles, in Mop/s; 0 for none (R113). -/
def lowFloor (s : State) (ts : List TileCfg) : Nat :=
  let rates := ts.map fun c => ((s.physTile c.ltile).map fun t => s.f (FAB_TILE_RATE.floor_mops t)).getD 0
  match rates with
  | [] => 0
  | r :: rs => rs.foldl min r

/-- Capacity of tiles in Mop/s: 16 lanes, the number of tiles, the lowest floor rate. -/
def capacity (s : State) (ts : List TileCfg) : Nat := 16 * ts.length * s.lowFloor ts

/-- The rate that a demand requires at a sample rate in 2^-24 Hz, times 256 * 2^24, in op/s. -/
def required (demand fs : Nat) : Nat := demand * fs

/-- A capacity in Mop/s on the scale of `required`. -/
def capScale (mops : Nat) : Nat := mops * 1000000 * (256 * 2 ^ 24)

/-- The admitted real-time paths whose shortfall counts (R153): present, real-time, not the upper path of a WIDE pair,
not admitted above their floor. -/
def checkedPaths (s : State) : List (Nat × PathImg) :=
  (List.range 4).filterMap fun p =>
    match (s.path p).img with
    | some g => if s.realTime p && !s.wideUpper p && !g.bestEffortOn then some (p, g) else none
    | none => none

/-- The tiles of a path's structure; those of both paths for a WIDE pair. -/
def pairTiles (s : State) (p : Nat) : List TileCfg :=
  let own := ((s.path p).img.map (·.tiles)).getD []
  if s.wideLower p then own ++ (((s.path (p + 1)).img.map (·.tiles)).getD []) else own

/-- Ratio of capacity to the required rate of a path less one, in percent, between 0 and 255 (R153). -/
def headroomOf (s : State) (p : Nat) (g : PathImg) : Nat :=
  let need := required g.demand (s.pathFs24 p)
  if need = 0 then 255 else min 255 (100 * capScale (s.capacity (s.pairTiles p)) / need - 100)

/-! ### Capture memory as other units see it (11_capture_memory.md) -/

/-- A capture region. -/
def region (s : State) (r : Nat) : RegionSt := s.regions.get RegionSt.reset r

/-- The state with a capture region changed. -/
def setRegion (s : State) (r : Nat) (x : RegionSt) : State := { s with regions := s.regions.put RegionSt.reset r x }

/-- The region exists (R362). -/
def regionExists (s : State) (r : Nat) : Bool := s.flag (CAP_REGION_STATUS.exists_ r)

/-- The base and the size in bytes of a region, as in force (R361, R362). -/
def regionBase (s : State) (r : Nat) : Nat := (s.region r).base

/-- The size of a region in bytes. -/
def regionSize (s : State) (r : Nat) : Nat := 2 ^ (s.region r).sizeLog2

/-- The used capacity of capture memory in bytes (R358). -/
def memCapacity (s : State) : Nat := s.f MEM_SUMMARY.capacity * 2 ^ 30

/-- Bytes of capture memory from an address on. -/
def memBytes (s : State) (a n : Nat) : List Byte := s.sdram.getMany 0 a n

/-- The state with bytes written into capture memory from an address on. -/
def memWrite (s : State) (a : Nat) (b : List Byte) : State := { s with sdram := s.sdram.putMany 0 a b }

/-- Bytes of a region from a lifetime position on; they wrap at its end. -/
def ringRead (s : State) (r pos n : Nat) : List Byte :=
  let size := s.regionSize r
  let off := pos % size
  let a := min n (size - off)
  s.memBytes (s.regionBase r + off) a ++ s.memBytes (s.regionBase r) (min (n - a) size)

/-- Transfers a second of the capture memory in MT/s, by the rate code of MEM_CFG (R379). -/
def rateMts (code : Nat) : Nat :=
  match code with
  | 1 => 4800
  | 2 => 5600
  | 3 => 6400
  | _ => 0

/-- Bandwidth of the used capture memory in MB/s: eight bytes a transfer on each channel in use (R34, R357). -/
def memBandwidth (s : State) : Nat :=
  ((List.range 8).map fun m => if s.f (MEM_CFG.state m) = 4 then 8 * rateMts (s.f (MEM_CFG.rate m)) else 0).foldl (· + ·) 0

/-- Channels of capture memory in use, in order (R358). -/
def memChannels (s : State) : List Nat := (List.range 8).filter fun m => s.f (MEM_CFG.state m) == 4

/-- The channel that holds a capture address: 256-byte granules go round the channels in use (R358). -/
def memChannel (s : State) (a : Nat) : Nat :=
  let ms := s.memChannels
  ms.getD (a / 256 % max 1 ms.length) 0

/-- A read of capture memory meets an uncorrectable word (R359, R555); `action` is what its reader does (R555). -/
def memFail (s : State) (a action : Nat) (path : Option Nat) : State :=
  let m := s.memChannel a
  ((s.bump (MEM_ECC.uncorrected m)).raise 50).chkFail (2 ^ 64 - 1) a 2 6 m action path

/-- A corrected error in a capture-memory word (R359, R541, R548): counted, and a bit position is marked at 16 within 24 h. -/
def memCorrected (s : State) (sub bitPos addr : Nat) : State :=
  let m := sub / 2
  let s := ((s.bump (MEM_ECC.corrected m)).raise 49).chkCorr addr 1 6 m 0 none
  let k := 64 * sub + bitPos
  let day := 86400 * 2560000000
  let times := s.time.clk :: (Tab.get [] s.wear.bitErrors k).filter fun t => s.time.clk < t + day
  let s := { s with wear := { s.wear with bitErrors := s.wear.bitErrors.put [] k times } }
  if times.length < 16 || s.ledgerAll.any (fun e => e.kind == 7 && e.unit == sub && e.detail == bitPos) then s
  else
    let s := s.marked 0x07 0x3 sub bitPos
    if Tab.get 0 s.wear.steerMap sub != 0 || s.wear.steerWait.any (fun x => x.sub == sub) ||
        s.wear.steer.any (fun x => x.sub == sub) then s
    else { s with wear := { s.wear with steerWait := s.wear.steerWait ++
      [{ sub := sub, bitPos := bitPos, pos := 0, since := none }] } }

/-- A read of a capture address corrects an error there (R359). -/
def memFixed (s : State) (a : Nat) (half bitPos : Nat) : State := s.memCorrected (2 * s.memChannel a + half) bitPos a

/-- What a read of a capture address meets, and what its reader does about an uncorrectable word (R359, R555). -/
def memEcc (s : State) (a : Nat) (ecc : Ecc) (action : Nat) (path : Option Nat) : State :=
  match ecc with
  | .sound => s
  | .corrected half bitPos => s.memFixed a half.val bitPos.val
  | .uncorrectable => s.memFail a action path

/-! ### Mirror group 1 (R168) -/

/-- The words of mirror group 1. -/
def fabricMirror (s : State) : List (Nat × Nat) :=
  (List.range 4).map (fun p => (1 + p, s.f (GLB_GAP_COUNT.reg p))) ++
    (List.range 4).map (fun p => (5 + p, s.f (GLB_EB_LEVEL.reg p))) ++
    [(9, s.f GLB_PCLK.reg), (10, s.f GLB_CAP_STATUS.reg), (11, s.f GLB_GAP_HEAD.reg)]

/-- The words of mirror group 1 stand in the mirror as they are. -/
def fabricSame (s : State) : Bool :=
  s.fabricMirror.all fun e => Tab.get 0 s.mirror.words (16 + e.1) == BitVec.ofNat 32 e.2

/-- Mirror group 1 follows its figures where one of them has changed (R168): 100 ns are 256 ticks. -/
def fabricTouch (s : State) : State := if s.fabricSame then s else s.touch 1 256 fabricMirror

/-! ### Voltage requests (R154, R561 to R563) -/

/-- A VCORE voltage is asked of the AVSBus master (R562): it starts a write, waits behind the one that runs, or does
nothing while GLB_AVS_STATUS.fail is set. -/
def avsAsk (s : State) (mv : Nat) : State :=
  if s.flag GLB_AVS_STATUS.fail then s
  else
    let s := (s.set GLB_CAP_STATUS.vcore_mv mv).fabricTouch
    match s.avs.running with
    | some _ => { s with avs := { s.avs with queued := some mv } }
    | none =>
      ({ s with avs := { s.avs with running := some (mv, 1), wroteAt := s.time.clk } }.set GLB_AVS_STATUS.busy 1).emit
        (.avsWrite mv)

/-- A request other than that of the manual override, which is not made while the override is on (R563). -/
def avsRequest (s : State) (mv : Nat) : State := if s.flag GLB_AVS_MAN.en then s else s.avsAsk mv

/-- The request is raised by `mv`, up to 0.85 V (R114, R154). -/
def avsRaise (s : State) (mv : Nat) : State :=
  let v := s.f GLB_CAP_STATUS.vcore_mv
  if 850 ≤ v then s else s.avsRequest (max 720 (min 850 (v + mv)))

/-- The request is lowered by `mv`, down to 0.72 V, but not while a load is in its admission step (R154). -/
def avsLower (s : State) (mv : Nat) : State :=
  if s.load.stage = .admitting then s else s.avsRequest (min 850 (max 720 (s.f GLB_CAP_STATUS.vcore_mv - mv)))

/-! ### Gap records (R156 to R163) -/

/-- Reasons of R160, as bit numbers of the bitmap. -/
def rOVERFLOW : Nat := 0
def rCLK : Nat := 1
def rRELOAD : Nat := 2
def rSERVICE : Nat := 3
def rCHECK : Nat := 4
def rRESIDUE : Nat := 5
def rPOWER : Nat := 6
def rBEST : Nat := 7
def rCAPLOST : Nat := 8
def rECC : Nat := 9

/-- Two gaps overlap or adjoin, and their scopes and streams let them merge (R161). -/
def gapsMeet (a b : Gap) : Bool :=
  decide (a.first ≤ b.stop) && decide (b.first ≤ a.stop) &&
    (a.stream == b.stream || a.stream == 255 || b.stream == 255)

/-- The union of two gaps (R161). -/
def gapsJoin (a b : Gap) : Gap :=
  let early := if a.first ≤ b.first then a else b
  { first := min a.first b.first, stop := max a.stop b.stop, growing := a.growing ||| b.growing, tick := early.tick,
    phase := early.phase, scope := min a.scope b.scope, reasons := a.reasons ||| b.reasons,
    stream := if a.stream == b.stream then a.stream else 255, replay := early.replay, held := early.held }

/-- A gap takes in every gap of a list that it meets; the rest stay. -/
def gapAbsorb (g : Gap) : List Gap → Gap × List Gap
  | [] => (g, [])
  | h :: hs =>
    if gapsMeet g h then gapAbsorb (gapsJoin g h) hs
    else ((gapAbsorb g hs).1, h :: (gapAbsorb g hs).2)

/-- A gap enters a list: it takes in what it meets, and again as the union grows, up to `n` times (R161). -/
def gapSettle : Nat → Gap → List Gap → List Gap
  | 0, g, gs => gs ++ [g]
  | n + 1, g, gs =>
    let a := gapAbsorb g gs
    if a.2.length = gs.length then gs ++ [g] else gapSettle n a.1 a.2

/-- Gaps of a list that meet become one (R161). -/
def gapsSettle (gs : List Gap) : List Gap := gs.foldl (fun acc g => gapSettle acc.length g acc) []

/-- Spans that were analysed, of gaps whose records have merged into some of scope INPUT (R161). -/
def gapsTaken (before after : List Gap) : List (Nat × Nat) :=
  (before.filter fun x => x.scope != 0 && after.any fun y =>
    y.scope == 0 && decide (y.first ≤ x.first) && decide (x.stop ≤ y.stop)).map fun x => (x.first, x.stop)

/-- The gap of a list that begins first. -/
def firstGap : List Gap → Option Gap
  | [] => none
  | g :: gs => match firstGap gs with
    | none => some g
    | some h => some (if h.first < g.first then h else g)

/-- GLB_GAP_OPEN[p] reports the open gap that begins first (R162, R167, log entry 22). -/
def gapShow (s : State) (p : Nat) : State :=
  match firstGap (s.path p).gaps with
  | none => s.set (GLB_GAP_OPEN.reg p) 0
  | some g => ((s.set (GLB_GAP_OPEN.open_ p) 1).set (GLB_GAP_OPEN.reasons p) g.reasons).set (GLB_GAP_OPEN.scope p) g.scope

/-- The path owes gap records of this scope and these reasons; the upper path of a WIDE pair owes none (R21, R25, R157). -/
def owesGap (s : State) (p : Nat) (scope reasons : Nat) : Bool :=
  (s.realTime p && !s.wideUpper p) || (s.mode p == 7 && scope == 0 && (reasons == 2 ^ rECC || reasons == 2 ^ rCHECK))

/-- The block of a path that a converter index lies in, or the newest one before it. -/
def refAt (s : State) (p ix : Nat) : Option BlockRef := (s.path p).refs.find? fun r => decide (r.seq ≤ ix)

/-- The time of a converter index is derived in holdover: that of its block was, or that of now where no block holds it
(R222). -/
def heldAt (s : State) (p ix : Nat) : Bool :=
  match s.refAt p ix with
  | some r => if ix < r.seq + 1024 then bit r.flags flagTIME else s.flag UPLL_STATUS.holdover
  | none => s.flag UPLL_STATUS.holdover

/-- A gap opens on a path, or joins those it meets; a gap that stands alone raises event 34 (R161, R162). -/
def openGap (s : State) (p : Nat) (g : Gap) : State :=
  if !s.owesGap p g.scope g.reasons then s
  else
    let x := s.path p
    let replay := s.mode p == 7
    let g := { g with replay := replay, held := if replay then g.held else s.heldAt p g.first }
    let now := gapSettle x.gaps.length g x.gaps
    let s := s.setPath p { x with gaps := now, invalid := gapsTaken (g :: x.gaps) now ++ x.invalid }
    let s := s.gapShow p
    if now.length ≤ x.gaps.length then s else s.raise 34

/-- The gaps of a path that still grow for one of the reasons of a mask reach to `stop`, and join those they then meet
(R36, R161). -/
def growGaps (s : State) (p mask stop : Nat) : State :=
  let x := s.path p
  let grown := x.gaps.map fun g => if g.growing &&& mask = 0 then g else { g with stop := max g.stop stop }
  let now := gapsSettle grown
  (s.setPath p { x with gaps := now, invalid := gapsTaken grown now ++ x.invalid }).gapShow p

/-- The gaps of a path no longer grow for the reasons of a mask. -/
def endGaps (s : State) (p mask : Nat) : State :=
  s.setPath p { s.path p with gaps := (s.path p).gaps.map fun g =>
    { g with growing := g.growing - (g.growing &&& mask) } }

/-- The 32 bytes of a gap record (R159). -/
def gapBytes (p : Nat) (g : Gap) (number : Nat) : List Byte :=
  leBytes 8 g.first ++ leBytes 8 (g.stop + 2 ^ 64 - 1) ++ leBytes 8 g.tick ++ leBytes 1 (g.phase % 64) ++
    leBytes 1 (p % 4 + 16 * g.scope) ++ leBytes 2 g.reasons ++ leBytes 1 g.stream ++ leBytes 3 number

/-- The GAP parcel of a gap (R128, R162, R222). -/
def gapParcel (p : Nat) (g : Gap) (number : Nat) : Parcel :=
  Parcel.seal { path := p, replay := g.replay, kind := .gap, flags := 2 ^ flagTIME * b2n g.held, seq := g.first, tick := g.tick, phase := g.phase,
                segment := 0, segments := 1, marker := none, stream := g.stream, payload := gapBytes p g number, crc := 0 }

/-- A gap closes: its record is logged and counted, event 35 is raised and the GAP parcel goes to the exit (R162). -/
def emitGap (s : State) (p : Nat) (g : Gap) : State :=
  let n := (s.path p).number
  let h := s.f GLB_GAP_HEAD.reg
  let s := s.setWords ((GLB_GAP_LOG.word (h % 256) 0).addr) (gapBytes p g n) 8
  let s := s.addWrap GLB_GAP_HEAD.reg 1
  let s := s.addWrap (GLB_GAP_COUNT.reg p) 1
  let s := if g.scope = 0 then s.addWrap (GLB_GAP_SAMPLES.reg p) (g.stop - g.first) else s
  let x := s.path p
  let s := s.setPath p { x with closed := if g.scope = 0 then (g.first, g.stop) :: x.closed else x.closed
                                gapEnds := (g.stop, g.stream, g.scope) :: x.gapEnds
                                number := (n + 1) % 2 ^ 24, exit := x.exit ++ [gapParcel p g n] }
  (s.raise 35).fabricTouch

/-- A gap closes before a parcel that starts at `seq` in a stream (R162). -/
def gapCloses (g : Gap) (seq stream : Nat) : Bool :=
  g.growing == 0 && decide (g.stop ≤ seq) && (g.scope == 0 || g.stream == 255 || g.stream == stream)

/-- Every gap of a list is emitted, in order. -/
def emitGaps (s : State) (p : Nat) : List Gap → State
  | [] => s
  | g :: gs => (s.emitGap p g).emitGaps p gs

/-- A gap enters a list in the order of R140: by the end of its span, then by its stream. -/
def gapInsert (g : Gap) : List Gap → List Gap
  | [] => [g]
  | h :: hs =>
    if decide (g.stop < h.stop) || (g.stop == h.stop && decide (g.stream < h.stream)) then g :: h :: hs
    else h :: gapInsert g hs

/-- Gaps in the order of R140. -/
def gapsInOrder (gs : List Gap) : List Gap := gs.foldr gapInsert []

/-- The gaps that close before a parcel do so, in the order of R140, and leave the path's list (R162). -/
def closeGaps (s : State) (p seq stream : Nat) : State :=
  let gs := (s.path p).gaps
  let s := s.setPath p { s.path p with gaps := gs.filter fun g => !gapCloses g seq stream }
  (s.emitGaps p (gapsInOrder (gs.filter fun g => gapCloses g seq stream))).gapShow p

/-- Every gap of a path closes, with no parcel to follow (R162). -/
def closeAllGaps (s : State) (p : Nat) : State :=
  let gs := (s.path p).gaps
  let s := s.setPath p { s.path p with gaps := [] }
  (s.emitGaps p (gapsInOrder gs)).gapShow p

/-- A gap of scope PRODUCT over the samples of a parcel: from its seq up to `stop`. -/
def productGap (s : State) (p seq stop tick phase reason stream : Nat) : State :=
  s.openGap p { first := seq, stop := stop, growing := 0, tick := tick, phase := phase, scope := 1,
                reasons := 2 ^ reason, stream := stream }

/-- A gap of scope INPUT over one block of the path's own input; a REPLAY path takes none in (R25). -/
def blockGap (s : State) (p : Nat) (x : Parcel) (reason : Nat) : State :=
  if s.mode p = 7 then s
  else s.openGap p { first := x.seq, stop := x.seq + 1024, growing := 0, tick := x.tick, phase := x.phase, scope := 0,
                     reasons := 2 ^ reason, stream := 255 }

/-! ### Elastic buffers (R144 to R147) -/

/-- Slots of the buffer of a path (R144). -/
def ebSlots (s : State) (p : Nat) : Nat := if s.mode p == 2 then 4096 else 2048

/-- The resume level in force (R167). -/
def ebResume (s : State) (p : Nat) : Nat := min (s.f (GLB_EB_CTL.resume_level p)) (s.ebSlots p - 1)

/-- GLB_EB_LEVEL[p] takes the occupancy, and its peak (R145, R167). -/
def ebShow (s : State) (p : Nat) : State :=
  let n := (s.path p).eb.length
  ((s.set (GLB_EB_LEVEL.level p) n).set (GLB_EB_LEVEL.peak p) (max n (s.f (GLB_EB_LEVEL.peak p)))).fabricTouch

/-- The reasons of an overflow gap of a path: OVERFLOW, and why it fell short (R155, R160). -/
def overflowReasons (s : State) (p : Nat) : Nat :=
  2 ^ rOVERFLOW + (if (((s.path p).img.map (·.bestEffortOn)).getD false) then 2 ^ rBEST else 0) +
    (if bit (s.f GLB_CAP_STATUS.lost) p then 2 ^ rCAPLOST else 0)

/-- A block that finds no room is dropped, and the overflow gap opens or grows (R146). -/
def ebDrop (s : State) (p : Nat) (x : Parcel) : State :=
  if (s.path p).dropping then s.growGaps p (2 ^ rOVERFLOW) (x.seq + 1024)
  else
    let s := s.setPath p { s.path p with dropping := true }
    s.openGap p { first := x.seq, stop := x.seq + 1024, growing := 2 ^ rOVERFLOW, tick := x.tick, phase := x.phase,
                  scope := 0, reasons := s.overflowReasons p, stream := 255 }

/-- A block takes the next slot; the first after a drop, or after a gap at the buffer, carries GAP_BEFORE (R145, R146). -/
def ebStore (s : State) (p : Nat) (x : Parcel) : State :=
  let y := s.path p
  let x := if y.dropping || y.gapBefore then x.withFlag flagGAP else x
  let s := s.setPath p { y with eb := y.eb ++ [x], dropping := false, gapBefore := false }
  let s := s.endGaps p (2 ^ rOVERFLOW)
  let s := s.ebShow p
  if s.f (GLB_EB_CTL.high_water p) < (s.path p).eb.length && (s.path p).highArmed then
    (s.setPath p { s.path p with highArmed := false }).raise 37
  else s

/-- A block arrives at the buffer of a path (R144 to R146); between switch-over steps 1 and 4 it belongs to the reload
gap (R102), and a path without a real-time mode, or the upper path of a WIDE pair, does not use its buffer (R21). -/
def ebArrive (s : State) (p : Nat) (x : Parcel) : State :=
  if (s.path p).stopped then s.growGaps p (2 ^ rRELOAD + 2 ^ rSERVICE) (x.seq + 1024)
  else if !s.realTime p || s.wideUpper p then s
  else if s.ebSlots p ≤ (s.path p).eb.length then s.ebDrop p x
  else if (s.path p).dropping && decide (s.ebResume p < (s.path p).eb.length) then s.ebDrop p x
  else s.ebStore p x

/-! ### The reorder window (R139 to R142) -/

/-- Slots of the window of a path (R139). -/
def windowSlots (s : State) (p : Nat) : Nat := if s.mode p == 2 then 2048 else 1024

/-- Frames that hold slots of a path's window: one for each product (R139). -/
def windowFrames (s : State) (p : Nat) : Nat := ((s.path p).window.filter Slot.tail).length

/-- A slot stands before another in the order of R140. -/
def slotBefore (a b : Slot) : Bool :=
  decide (a.last < b.last) || (a.last == b.last && (decide (a.stream < b.stream) ||
    (a.stream == b.stream && decide (a.segment < b.segment))))

/-- A slot enters the window in the order of R140. -/
def slotInsert (x : Slot) : List Slot → List Slot
  | [] => [x]
  | y :: ys => if slotBefore x y then x :: y :: ys else y :: slotInsert x ys

/-- The slot of a product's parcel, in its place of the order of R140, which never lies before what has left. -/
def slotOf (s : State) (p last : Nat) (fill : SlotFill) (x : Parcel) : Slot :=
  { stream := x.stream, segment := x.segment, last := max last (s.path p).released, fill := fill
    tail := x.segment + 1 == x.segments }

/-- A slot of a window enters it. -/
def slotAdd (s : State) (p : Nat) (y : Slot) : State :=
  s.setPath p { s.path p with window := slotInsert y (s.path p).window }

/-- Tiles have lost a span of the input that a product rests on (R137). -/
def spanLost (s : State) (p last : Nat) (x : Parcel) : Bool :=
  (s.path p).lostSpans.any fun e => decide (e.1 ≤ last) && decide (x.seq < e.2.1) && (e.2.2 == 255 || e.2.2 == x.stream)

/-- A product takes its slot of the window: its place in the order of R140 is `key`. A product of lost input is a void that a
gap of scope PRODUCT covers (R137). -/
def slotPut (s : State) (p last key : Nat) (x : Parcel) : State :=
  if s.spanLost p last x then
    (s.slotAdd p (s.slotOf p key .void x)).productGap p x.seq (last + 1) x.tick x.phase rCHECK x.stream
  else s.slotAdd p (s.slotOf p key (.parcel x) x)

/-- A product reaches the window of its path. That of a frame that its tiles have lost is a void, which its gap covers already
(R126); that of a frame that is still at work in the tiles waits for them; any other takes its slot. -/
def deliver (s : State) (p last key : Nat) (x : Parcel) : State :=
  if (s.path p).lostFrames.contains (x.stream, last) then s.slotAdd p (s.slotOf p key .void x)
  else if (s.path p).window.any fun y => y.fill == .empty && y.stream == x.stream && y.last == last then
    s.setPath p { s.path p with work := (s.path p).work ++ [(last, x)] }
  else s.slotPut p last key x

/-- Several products reach the window, as segments of one product. -/
def deliverAll (s : State) (p last key : Nat) : List Parcel → State
  | [] => s
  | x :: xs => (s.deliver p last key x).deliverAll p last key xs

/-- The streams that miss a product of a stream; 255 stands for every stream. -/
def missing (stream : Nat) : List Nat := if stream = 255 then List.range 256 else [stream]

/-- A parcel carries GAP_BEFORE at the exit: the product before it in its stream is missing, or a gap ended between the start
of that product and its own, so that a record covers the sample before its span, or the product before it (R131). -/
def missedBefore (y : PathSt) (x : Parcel) : Bool :=
  y.gapStreams.contains x.stream ||
    y.gapEnds.any fun e => (e.2.1 == 255 || e.2.1 == x.stream) && decide (e.1 ≤ x.seq ∧ y.sent.get 0 x.stream ≤ e.1)

/-- The head of the window leaves as a parcel: gaps before it close first, and GAP_BEFORE is set where the stream
missed a product or a gap has ended (R131, R141, R162, R164); CLK_INVALID is set on a product of samples whose record has
merged to scope INPUT (R161). A stored GAP parcel leaves as it is (R101). -/
def releaseParcel (s : State) (p last : Nat) (x : Parcel) : State :=
  let s := s.closeGaps p x.seq x.stream
  let y := s.path p
  if x.kind = .gap then s.setPath p { y with exit := y.exit ++ [x] }
  else
    let z := if missedBefore y x then x.withFlag flagGAP else x
    let z := if y.invalid.any fun e => decide (e.1 ≤ last) && decide (x.seq < e.2) then z.withFlag flagCLK else z
    s.setPath p { y with exit := y.exit ++ [z], gapStreams := y.gapStreams.filter fun g => g != x.stream
                         spans := ((x.stream, x.seq, last) :: y.spans).take 4096
                         sent := y.sent.put 0 x.stream (x.seq + 1) }

/-! ### Non-real-time work (R149, R150) -/

/-- The pacer clock in MHz (R148). -/
def pclkMHz (s : State) : Nat :=
  match s.f GLB_PCLK.step with
  | 0 => 960
  | 1 => 768
  | 2 => 640
  | _ => 480

/-- ALERT_N and FAULT_N: high impedance while VIO is below range or PORST_N is low; else ALERT_N is low while a condition
is true and enabled, FAULT_N during an internal system reset, a thermal trip and after a store fault (R566). -/
def pinsShow (s : State) : State :=
  let off := s.start.porstLow || bit s.start.railsLow 0 || bit s.start.railsLow 1 || s.f PWR_STATE.state == 4
  let alert := bits (s.f GLB_ALERT.reg) 0 4 &&& s.f GLB_ALERT.mask
  let fault := (s.start.railsLow &&& 0x3F7) != 0 || s.start.therm != 0 || s.flag GLB_START.store_fault
  { s with start := { s.start with alertN := if off || alert == 0 then .hiZ else .low
                                   faultN := if off || !fault then .hiZ else .low } }

/-- GLB_ALERT follows its sources, and the pins follow (R566, R577). -/
def alertShow (s : State) : State :=
  (((s.set GLB_ALERT.pclk_low (b2n (s.f GLB_PCLK.step != 0))).set GLB_ALERT.avs_fail (s.f GLB_AVS_STATUS.fail)).set
    GLB_ALERT.therm (s.f GLB_THERM.warn)).pinsShow

/-- Non-real-time work stops, once (R149). -/
def nrtStop (s : State) : State := if s.flag GLB_PCLK.nrt_stopped then s else ((s.set GLB_PCLK.nrt_stopped 1).raise 33).fabricTouch

/-- PCLK goes to a step: event 32 for the change, the count of downward steps, ALERT_N, and the stop of non-real-time
work (R148, R149). -/
def pclkTo (s : State) (step : Nat) : State :=
  let old := s.f GLB_PCLK.step
  if step = old then s
  else
    let s := (s.set GLB_PCLK.step step).raise 32
    let s := if old < step then s.addSat GLB_PCLK.down_count (step - old) else s
    let s := { s with avs := { s.avs with heldFrom := s.time.clk, fullFrom := if step = 0 then s.time.clk else s.avs.fullFrom } }
    (if step = 0 then s else s.nrtStop).alertShow.fabricTouch

/-- VCORE as last sensed lies above the release threshold of a PCLK step (R575). -/
def released (s : State) (step : Nat) : Bool :=
  let thr := match step with
    | 1 => s.f GLB_DROOP_THR.sag1
    | 2 => s.f GLB_DROOP_THR.sag2
    | _ => s.f GLB_DROOP_THR.sag3
  decide (700 ≤ s.avs.sensed) && decide (s.f GLB_CAP_STATUS.vcore_mv + 10 < thr + s.avs.sensed)

/-- VCORE is sensed: what the hold of R148 counts from begins where the reading comes above the release threshold. -/
def sense (s : State) (v : Nat) : State :=
  let t := { s with avs := { s.avs with sensed := v } }
  let step := s.f GLB_PCLK.step
  let t := if s.released step && t.released step then t else { t with avs := { t.avs with heldFrom := s.time.clk } }
  t.set GLB_DROOP_STATUS.min_mv (min v (s.f GLB_DROOP_STATUS.min_mv))

/-- VCORE has been above the release threshold of the present PCLK step for up_hold_us (R148); 0 acts as 1. -/
def upHeld (s : State) : Bool :=
  s.released (s.f GLB_PCLK.step) && decide (s.avs.heldFrom + 2560 * max 1 (s.f GLB_PCLK_CTL.up_hold_us) ≤ s.time.clk)

end State

/-! ### Meanings -/

/-- FABRIC_ENTRY_PARCEL is in Conv.lean, beside the converter that makes the block. EB_BLOCK_ARRIVE (R145): the oldest
block past the fabric entry arrives at the buffer. -/
def execEbBlockArrive (p : Fin 4) (s : State) : Res :=
  match (s.path p).entry with
  | [] => .next s
  | x :: xs => .next ((s.setPath p { s.path p with entry := xs }).ebArrive p x)

/-- DROOP_TRIP (R148, R154, R575, R576): the sensor reads VCORE `sagMv` below the request. -/
def execDroopTrip (sagMv : Nat) (s : State) : Res :=
  let v := s.f GLB_CAP_STATUS.vcore_mv - sagMv
  let s := s.sense v
  let want := if v < 700 ∨ s.f GLB_DROOP_THR.sag3 ≤ sagMv then 3
              else if s.f GLB_DROOP_THR.sag2 ≤ sagMv then 2
              else if s.f GLB_DROOP_THR.sag1 ≤ sagMv then 1 else 0
  let s := if v < 700 then (s.set GLB_DROOP_STATUS.floor_hit 1).raise 5 else s
  if s.f GLB_PCLK.step < want then
    let s := s.pclkTo want
    .next (if s.flag GLB_CAP_CTL.avs_auto then s.avsRaise 10 else s)
  else .next s

/-- PCLK_STEP_UP (R148, R152, R575): one step up where VCORE has been above the release threshold of the present step for
long enough, unless the utility PLL holds the step. -/
def execPclkStepUp (s : State) : Res :=
  if s.flag GLB_PCLK.uplk_hold ∨ s.f GLB_PCLK.step = 0 ∨ !s.upHeld then .next s
  else .next (s.pclkTo (s.f GLB_PCLK.step - 1))

end Sys2Proof.Machine
end

