-- ==== Sys2Proof/Machine/RegTable.lean ====
section
/-! DEFINITION. The registers of the BAR0 window by offset: for each word its reset value and what a write does to its
bits, by the access codes of R7. -/

namespace Sys2Proof.Machine

/-- Whether a register word stands alone or is half of a 64-bit register (R10, R11). -/
inductive Half where
  | one | low | high
deriving DecidableEq, Repr

/-- A register word, or an array of them. -/
structure RegRow where
  /-- Offset of the first word. -/
  base : Nat
  /-- Stride and count of each index. -/
  dims : List (Nat × Nat)
  /-- Words side by side at the innermost place. -/
  words : Nat
  half : Half
  /-- Reset value, by the indices. -/
  ini : List Nat → Nat
  /-- Bits that a write sets (RW). -/
  rw : Nat
  /-- Bits that writing 1 clears (W1C). -/
  w1c : Nat
  /-- Bits that a write of any value clears. -/
  clr : Nat
  /-- Bits that are shadowed (SH). -/
  sh : Nat
  /-- Read-only bits that the structure image sets. -/
  img : Nat
  /-- The semaphore that guards the word (G). -/
  sem : Option Nat

/-- The indices an offset past a row's base stands for, if it stands for any. -/
def RegRow.index : List (Nat × Nat) → Nat → Nat → Option (List Nat)
  | [], words, d => if d % 4 = 0 ∧ d / 4 < words then some [] else none
  | (st, n) :: ds, words, d =>
    if d / st < n then (RegRow.index ds words (d % st)).map (d / st :: ·) else none

/-- The row and indices of an offset, in a list of rows. -/
def findIn : List RegRow → Nat → Option (RegRow × List Nat)
  | [], _ => none
  | r :: rs, off =>
    if r.base ≤ off then
      match RegRow.index r.dims r.words (off - r.base) with
      | some ix => some (r, ix)
      | none => findIn rs off
    else findIn rs off

/-- Rows of the GLB block. -/
def rowsGlb : List RegRow :=
  [/- GLB_ID -/ ⟨0x0, [], 1, .one, fun _ => 0xe5540210, 0x0, 0x0, 0x0, 0x0, 0x0, none⟩,
   /- GLB_MODE -/ ⟨0x10, [], 1, .one, fun _ => 0x0, 0x0, 0x0, 0x0, 0x0, 0x0, none⟩,
   /- GLB_PORT -/ ⟨0x20, [], 1, .one, fun _ => 0x0, 0x0, 0x0, 0x0, 0x0, 0x0, none⟩,
   /- MP_CTL -/ ⟨0x100, [], 1, .one, fun _ => 0x0, 0x1f, 0x0, 0x0, 0x0, 0x0, some 3⟩,
   /- MP_STATUS -/ ⟨0x104, [], 1, .one, fun _ => 0x0, 0x0, 0x0, 0xffff0000, 0x0, 0x0, none⟩,
   /- GLB_PCLK -/ ⟨0x200, [], 1, .one, fun _ => 0x0, 0x0, 0x0, 0xffff0000, 0x0, 0x0, none⟩,
   /- GLB_PCLK_CTL -/ ⟨0x204, [], 1, .one, fun _ => 0x32000a, 0xffffffff, 0x0, 0x0, 0x0, 0x0, some 0⟩,
   /- GLB_EB_LEVEL -/ ⟨0x210, [(0x20, 4)], 1, .one, fun _ => 0x0, 0x0, 0x0, 0x0, 0x0, 0x0, none⟩,
   /- GLB_EB_CTL -/ ⟨0x214, [(0x20, 4)], 1, .one, fun _ => 0x4000600, 0x1fff1fff, 0x0, 0x0, 0x0, 0x0, none⟩,
   /- GLB_GAP_COUNT -/ ⟨0x218, [(0x20, 4)], 1, .one, fun _ => 0x0, 0x0, 0x0, 0xffffffff, 0x0, 0x0, none⟩,
   /- GLB_GAP_OPEN -/ ⟨0x21c, [(0x20, 4)], 1, .one, fun _ => 0x0, 0x0, 0x0, 0x0, 0x0, 0x0, none⟩,
   /- GLB_GAP_SAMPLES -/ ⟨0x220, [(0x20, 4)], 1, .low, fun _ => 0x0, 0x0, 0x0, 0xffffffff, 0x0, 0x0, none⟩,
   /- GLB_GAP_SAMPLES -/ ⟨0x224, [(0x20, 4)], 1, .high, fun _ => 0x0, 0x0, 0x0, 0xffffffff, 0x0, 0x0, none⟩,
   /- GLB_SEQ -/ ⟨0x228, [(0x20, 4)], 1, .low, fun _ => 0x0, 0x0, 0x0, 0x0, 0x0, 0x0, none⟩,
   /- GLB_SEQ -/ ⟨0x22c, [(0x20, 4)], 1, .high, fun _ => 0x0, 0x0, 0x0, 0x0, 0x0, 0x0, none⟩,
   /- GLB_CAP_CTL -/ ⟨0x300, [], 1, .one, fun _ => 0x1051405, 0x1ffffff, 0x0, 0x0, 0x0, 0x0, some 0⟩,
   /- GLB_CAP_STATUS -/ ⟨0x304, [], 1, .one, fun _ => 0x0, 0x0, 0x0, 0x0, 0x0, 0x0, none⟩,
   /- GLB_GAP_HEAD -/ ⟨0x308, [], 1, .one, fun _ => 0x0, 0x0, 0x0, 0x0, 0x0, 0x0, none⟩,
   /- GLB_START -/ ⟨0x400, [], 1, .one, fun _ => 0x0, 0x0, 0x0, 0x0, 0x0, 0x0, none⟩,
   /- GLB_START_TICK -/ ⟨0x408, [], 1, .low, fun _ => 0x0, 0x0, 0x0, 0x0, 0x0, 0x0, none⟩,
   /- GLB_START_TICK -/ ⟨0x40c, [], 1, .high, fun _ => 0x0, 0x0, 0x0, 0x0, 0x0, 0x0, none⟩,
   /- GLB_RST -/ ⟨0x410, [], 1, .one, fun _ => 0x0, 0x0, 0x0, 0x0, 0x0, 0x0, some 0⟩,
   /- GLB_AVS_CTL -/ ⟨0x420, [], 1, .one, fun _ => 0x64, 0xffff, 0x0, 0x0, 0x0, 0x0, some 14⟩,
   /- GLB_AVS_MAN -/ ⟨0x424, [], 1, .one, fun _ => 0x320, 0x8000ffff, 0x0, 0x0, 0x0, 0x0, some 14⟩,
   /- GLB_AVS_STATUS -/ ⟨0x428, [], 1, .one, fun _ => 0x0, 0x0, 0x5, 0x0, 0x0, 0x0, none⟩,
   /- GLB_DROOP_THR -/ ⟨0x430, [], 1, .one, fun _ => 0x46321e, 0xffffff, 0x0, 0x0, 0x0, 0x0, some 0⟩,
   /- GLB_DROOP_STATUS -/ ⟨0x434, [], 1, .one, fun _ => 0xffff0000, 0x0, 0x3, 0x0, 0x0, 0x0, none⟩,
   /- GLB_THERM -/ ⟨0x440, [], 1, .one, fun _ => 0x9100, 0xff00, 0x0, 0x0, 0x0, 0x0, some 0⟩,
   /- GLB_ALERT -/ ⟨0x444, [], 1, .one, fun _ => 0xf0000, 0xf0000, 0x0, 0x0, 0x0, 0x0, none⟩,
   /- GLB_RAIL -/ ⟨0x448, [], 1, .one, fun _ => 0x0, 0x0, 0x3ff, 0x0, 0x0, 0x0, none⟩,
   /- GLB_GAP_LOG -/ ⟨0x2000, [(0x20, 256)], 8, .one, fun _ => 0x0, 0x0, 0x0, 0x0, 0x0, 0x0, none⟩]

/-- Rows of the PWR block. -/
def rowsPwr : List RegRow :=
  [/- PWR_REQ -/ ⟨0x10000, [], 1, .one, fun _ => 0x0, 0x0, 0x0, 0x0, 0x0, 0x0, some 0⟩,
   /- PWR_STATUS -/ ⟨0x10004, [], 1, .one, fun _ => 0x0, 0x0, 0x1000, 0x0, 0x0, 0x0, none⟩,
   /- PWR_STATE -/ ⟨0x10008, [], 1, .one, fun _ => 0x0, 0x0, 0x0, 0x0, 0x0, 0x0, none⟩,
   /- PWR_POLICY -/ ⟨0x1000c, [], 1, .one, fun _ => 0x1, 0x107, 0x0, 0x0, 0x0, 0x0, some 0⟩,
   /- PWR_TIMER -/ ⟨0x10010, [], 1, .one, fun _ => 0x0, 0xffffffff, 0x0, 0x0, 0x0, 0x0, some 0⟩,
   /- PWR_AON_TIME -/ ⟨0x10018, [], 1, .low, fun _ => 0x0, 0x0, 0x0, 0x0, 0x0, 0x0, none⟩,
   /- PWR_AON_TIME -/ ⟨0x1001c, [], 1, .high, fun _ => 0x0, 0x0, 0x0, 0x0, 0x0, 0x0, none⟩,
   /- PWR_WAKE_SRC -/ ⟨0x10020, [], 1, .one, fun _ => 0x0, 0x0, 0x0, 0x0, 0x0, 0x0, none⟩,
   /- PWR_WAKE_TIME -/ ⟨0x10028, [], 1, .low, fun _ => 0x0, 0x0, 0x0, 0x0, 0x0, 0x0, none⟩,
   /- PWR_WAKE_TIME -/ ⟨0x1002c, [], 1, .high, fun _ => 0x0, 0x0, 0x0, 0x0, 0x0, 0x0, none⟩,
   /- PWR_WAKE_MBOX -/ ⟨0x10030, [(0x4, 4)], 1, .one, fun _ => 0x0, 0x0, 0x0, 0x0, 0x0, 0x0, none⟩,
   /- PWR_LAST -/ ⟨0x10040, [], 1, .one, fun _ => 0x0, 0x0, 0x0, 0xff000000, 0x0, 0x0, none⟩,
   /- PWR_SCRATCH -/ ⟨0x10800, [(0x4, 256)], 1, .one, fun _ => 0x0, 0xffffffff, 0x0, 0x0, 0x0, 0x0, none⟩,
   /- PWR_RST_CAUSE -/ ⟨0x10f00, [], 1, .one, fun _ => 0x0, 0x0, 0x0, 0x0, 0x0, 0x0, none⟩]

/-- Rows of the SEM block. -/
def rowsSem : List RegRow :=
  [/- SEM_PEEK -/ ⟨0x20400, [(0x4, 256)], 1, .one, fun _ => 0x0, 0x0, 0x0, 0x0, 0x0, 0x0, none⟩,
   /- SEM_BREAK -/ ⟨0x20800, [], 1, .one, fun _ => 0x0, 0x0, 0x0, 0x0, 0x0, 0x0, none⟩,
   /- SEM_REFUSED_0 -/ ⟨0x20810, [], 1, .one, fun _ => 0x0, 0x0, 0x0, 0xffffffff, 0x0, 0x0, none⟩,
   /- SEM_REFUSED_1 -/ ⟨0x20814, [], 1, .one, fun _ => 0x0, 0x0, 0x0, 0xffffffff, 0x0, 0x0, none⟩,
   /- SEM_LAST_REFUSED_0 -/ ⟨0x20818, [], 1, .one, fun _ => 0x0, 0x0, 0x0, 0x0, 0x0, 0x0, none⟩,
   /- SEM_LAST_REFUSED_1 -/ ⟨0x2081c, [], 1, .one, fun _ => 0x0, 0x0, 0x0, 0x0, 0x0, 0x0, none⟩,
   /- SEM_LOST -/ ⟨0x20820, [(0x4, 8)], 1, .one, fun _ => 0x0, 0x0, 0xffffffff, 0x0, 0x0, 0x0, none⟩,
   /- SEM_LOST_INFO -/ ⟨0x20840, [], 1, .one, fun _ => 0x0, 0x0, 0x0, 0x0, 0x0, 0x0, none⟩]

/-- Rows of the EVT block. -/
def rowsEvt : List RegRow :=
  [/- EVT_PEND -/ ⟨0x30100, [(0x4, 64)], 1, .one, fun _ => 0x0, 0x0, 0xffffffff, 0x0, 0x0, 0x0, none⟩,
   /- EVT_ROUTE -/ ⟨0x32000, [(0x4, 2048)], 1, .one, fun _ => 0x0, 0x107ff, 0x0, 0x0, 0x0, 0x0, none⟩,
   /- EVT_CNT -/ ⟨0x34000, [(0x4, 2048)], 1, .one, fun _ => 0x0, 0x0, 0x0, 0xffff, 0x0, 0x0, none⟩,
   /- EVT_MOD -/ ⟨0x36000, [(0x4, 2048)], 1, .one, fun _ => 0x0, 0x3ff, 0x0, 0x0, 0x0, 0x0, none⟩]

/-- Rows of the IMG block. -/
def rowsImg : List RegRow :=
  [/- IMG_CTL -/ ⟨0x40000, [], 1, .one, fun _ => 0x0, 0x1e, 0x0, 0x0, 0x0, 0x0, some 1⟩,
   /- IMG_STATUS -/ ⟨0x40004, [], 1, .one, fun _ => 0x0, 0x0, 0x0, 0x0, 0x0, 0x0, none⟩,
   /- IMG_SRC -/ ⟨0x40008, [], 1, .low, fun _ => 0x0, 0xffffffff, 0x0, 0x0, 0x0, 0x0, some 1⟩,
   /- IMG_SRC -/ ⟨0x4000c, [], 1, .high, fun _ => 0x0, 0xffffffff, 0x0, 0x0, 0x0, 0x0, some 1⟩,
   /- IMG_LEN -/ ⟨0x40010, [], 1, .one, fun _ => 0x0, 0xffffffff, 0x0, 0x0, 0x0, 0x0, some 1⟩,
   /- IMG_UNLOAD -/ ⟨0x40014, [], 1, .one, fun _ => 0x0, 0x0, 0x0, 0x0, 0x0, 0x0, some 1⟩,
   /- IMG_KEY_STATUS -/ ⟨0x40020, [], 1, .one, fun _ => 0x0, 0x0, 0x200, 0x0, 0x0, 0x0, none⟩,
   /- IMG_KEY_CTL -/ ⟨0x40024, [], 1, .one, fun _ => 0x0, 0x0, 0x0, 0x0, 0x0, 0x0, some 1⟩,
   /- IMG_DIGEST -/ ⟨0x40028, [], 1, .low, fun _ => 0x0, 0x0, 0x0, 0x0, 0x0, 0x0, none⟩,
   /- IMG_DIGEST -/ ⟨0x4002c, [], 1, .high, fun _ => 0x0, 0x0, 0x0, 0x0, 0x0, 0x0, none⟩,
   /- IMG_KEY_HASH -/ ⟨0x40040, [(0x4, 12)], 1, .one, fun _ => 0x0, 0xffffffff, 0x0, 0x0, 0x0, 0x0, some 1⟩,
   /- IMG_ADMIT_REQ -/ ⟨0x40100, [(0x10, 4)], 1, .one, fun _ => 0x0, 0x0, 0x0, 0x0, 0x0, 0x0, none⟩,
   /- IMG_ADMIT_FLOOR -/ ⟨0x40104, [(0x10, 4)], 1, .one, fun _ => 0x0, 0x0, 0x0, 0x0, 0x0, 0x0, none⟩,
   /- IMG_ADMIT_INFO -/ ⟨0x40108, [(0x10, 4)], 1, .one, fun _ => 0x0, 0x0, 0x0, 0x0, 0x0, 0x0, none⟩,
   /- IMG_PATH_DIGEST -/ ⟨0x40200, [(0x40, 4)], 12, .one, fun _ => 0x0, 0x0, 0x0, 0x0, 0x0, 0x0, none⟩,
   /- IMG_RETIRED -/ ⟨0x41000, [(0x8, 32)], 1, .low, fun _ => 0x0, 0x0, 0x0, 0x0, 0x0, 0x0, none⟩,
   /- IMG_RETIRED -/ ⟨0x41004, [(0x8, 32)], 1, .high, fun _ => 0x0, 0x0, 0x0, 0x0, 0x0, 0x0, none⟩]

/-- Rows of the FAB block. -/
def rowsFab : List RegRow :=
  [/- FAB_TILE_STATE -/ ⟨0x80000, [(0x40, 1088)], 1, .one, fun _ => 0xffff0000, 0x0, 0x0, 0x0, 0x0, 0x0, none⟩,
   /- FAB_TILE_RATE -/ ⟨0x80004, [(0x40, 1088)], 1, .one, fun _ => 0x0, 0x0, 0x0, 0x0, 0x0, 0x0, none⟩,
   /- FAB_TILE_FIRE -/ ⟨0x80008, [(0x40, 1088)], 1, .one, fun _ => 0x0, 0x0, 0x0, 0x0, 0x0, 0x0, none⟩,
   /- FAB_TILE_RES -/ ⟨0x8000c, [(0x40, 1088)], 1, .one, fun _ => 0x0, 0x0, 0x0, 0xffffffff, 0x0, 0x0, none⟩,
   /- FAB_TILE_CRC -/ ⟨0x80010, [(0x40, 1088)], 1, .one, fun _ => 0x0, 0x0, 0x0, 0xffff, 0x0, 0x0, none⟩,
   /- FAB_TILE_ECC -/ ⟨0x80014, [(0x40, 1088)], 1, .one, fun _ => 0x0, 0x0, 0x0, 0xffffffff, 0x0, 0x0, none⟩]

/-- Rows of the CNV block. -/
def rowsCnv : List RegRow :=
  [/- CNV_CTL -/ ⟨0x100000, [(0x1000, 4)], 1, .one, fun _ => 0x0, 0x13, 0x0, 0x0, 0x0, 0x0, some 2⟩,
   /- CNV_STATUS -/ ⟨0x100004, [(0x1000, 4)], 1, .one, fun _ => 0x4000000, 0x0, 0x0, 0x0, 0x0, 0x0, none⟩,
   /- CNV_OVR_FLAG -/ ⟨0x100008, [(0x1000, 4)], 1, .one, fun _ => 0x0, 0x0, 0x1, 0x0, 0x0, 0x0, none⟩,
   /- CNV_OVR_EPISODES -/ ⟨0x10000c, [(0x1000, 4)], 1, .one, fun _ => 0x0, 0x0, 0x0, 0xffffffff, 0x0, 0x0, none⟩,
   /- CNV_OVR_SAMPLES -/ ⟨0x100010, [(0x1000, 4)], 1, .low, fun _ => 0x0, 0x0, 0x0, 0xffffffff, 0x0, 0x0, none⟩,
   /- CNV_OVR_SAMPLES -/ ⟨0x100014, [(0x1000, 4)], 1, .high, fun _ => 0x0, 0x0, 0x0, 0xffffffff, 0x0, 0x0, none⟩,
   /- CNV_OVR_FIRST -/ ⟨0x100018, [(0x1000, 4)], 1, .low, fun _ => 0x0, 0x0, 0x0, 0x0, 0x0, 0x0, none⟩,
   /- CNV_OVR_FIRST -/ ⟨0x10001c, [(0x1000, 4)], 1, .high, fun _ => 0x0, 0x0, 0x0, 0x0, 0x0, 0x0, none⟩,
   /- CNV_PROT -/ ⟨0x100020, [(0x1000, 4)], 1, .one, fun _ => 0x10000, 0xfffff01, 0x0, 0x0, 0x0, 0x0, some 10⟩,
   /- CNV_PROT_HOLD -/ ⟨0x100024, [(0x1000, 4)], 1, .one, fun _ => 0x3e8, 0xffff, 0x0, 0x0, 0x0, 0x0, some 10⟩,
   /- CNV_CAR_CTL -/ ⟨0x100030, [(0x1000, 4)], 1, .one, fun _ => 0x114, 0x31f, 0x0, 0x0, 0x0, 0x0, some 2⟩,
   /- CNV_CAR_STATUS -/ ⟨0x100034, [(0x1000, 4)], 1, .one, fun _ => 0x0, 0x0, 0x0, 0x0, 0x0, 0x0, none⟩,
   /- CNV_FLT_CTL -/ ⟨0x100040, [(0x1000, 4)], 1, .one, fun _ => 0x0, 0xfffff07, 0x0, 0x0, 0x0, 0x0, none⟩,
   /- CNV_FLT_LEVEL -/ ⟨0x100044, [(0x1000, 4)], 1, .one, fun _ => 0x7ff0800, 0xfff0fff, 0x0, 0x0, 0x0, 0x0, none⟩,
   /- CNV_FLT_COUNT -/ ⟨0x100048, [(0x1000, 4)], 1, .one, fun _ => 0x0, 0x0, 0x0, 0xffffffff, 0x0, 0x0, none⟩,
   /- CNV_SLICE -/ ⟨0x100100, [(0x1000, 4), (0x8, 18)], 1, .one, fun ix => if ix.getD 1 0 < 16 then 16 * ix.getD 1 0 else ix.getD 1 0 - 15, 0x0, 0x0, 0x0, 0x0, 0x0, none⟩,
   /- CNV_TRIM -/ ⟨0x100104, [(0x1000, 4), (0x8, 18)], 1, .one, fun _ => 0x0, 0x0, 0x0, 0x0, 0x0, 0x0, none⟩]

/-- Rows of the CLK block. -/
def rowsClk : List RegRow :=
  [/- SPLL_DIV -/ ⟨0x110000, [], 1, .one, fun _ => 0x40000000, 0x7fffffff, 0x0, 0x0, 0x0, 0x0, some 2⟩,
   /- SPLL_CTL -/ ⟨0x110004, [], 1, .one, fun _ => 0x2800, 0xff00, 0x0, 0x0, 0x0, 0x0, some 2⟩,
   /- SPLL_LF -/ ⟨0x110008, [], 1, .one, fun _ => 0x1, 0x3, 0x0, 0x0, 0x0, 0x0, some 2⟩,
   /- SPLL_STATUS -/ ⟨0x11000c, [], 1, .one, fun _ => 0x0, 0x0, 0x8, 0x0, 0x0, 0x0, none⟩,
   /- SPLL_UNLOCKS -/ ⟨0x110010, [], 1, .one, fun _ => 0x0, 0x0, 0x0, 0xffffffff, 0x0, 0x0, none⟩,
   /- SPLL_TRIP_INDEX -/ ⟨0x110018, [], 1, .low, fun _ => 0x0, 0x0, 0x0, 0x0, 0x0, 0x0, none⟩,
   /- SPLL_TRIP_INDEX -/ ⟨0x11001c, [], 1, .high, fun _ => 0x0, 0x0, 0x0, 0x0, 0x0, 0x0, none⟩,
   /- SPLL_LOCK_INDEX -/ ⟨0x110020, [], 1, .low, fun _ => 0x0, 0x0, 0x0, 0x0, 0x0, 0x0, none⟩,
   /- SPLL_LOCK_INDEX -/ ⟨0x110024, [], 1, .high, fun _ => 0x0, 0x0, 0x0, 0x0, 0x0, 0x0, none⟩,
   /- SPLL_HOP -/ ⟨0x110040, [(0x8, 16)], 1, .one, fun _ => 0x40000000, 0xffffffff, 0x0, 0x0, 0x0, 0x0, some 2⟩,
   /- SPLL_HOP_BAND -/ ⟨0x110044, [(0x8, 16)], 1, .one, fun _ => 0x0, 0x3f, 0x0, 0x0, 0x0, 0x0, some 2⟩,
   /- CLKOUT_CTL -/ ⟨0x110100, [(0x8, 2)], 1, .one, fun _ => 0x40000008, 0xf0000fff, 0x0, 0x0, 0x0, 0x0, some 2⟩,
   /- CLKOUT_DLY -/ ⟨0x110104, [(0x8, 2)], 1, .one, fun _ => 0x0, 0xfffff, 0x0, 0x0, 0x0, 0x0, some 2⟩,
   /- REF_CTL -/ ⟨0x118000, [], 1, .one, fun _ => 0x0, 0x3, 0x0, 0x0, 0x0, 0x0, some 11⟩,
   /- REF_STATUS -/ ⟨0x118004, [], 1, .one, fun _ => 0x0, 0x0, 0x2, 0x0, 0x0, 0x0, none⟩,
   /- UPLL_STATUS -/ ⟨0x118010, [], 1, .one, fun _ => 0x0, 0x0, 0x0, 0x0, 0x0, 0x0, none⟩,
   /- UPLL_CTL -/ ⟨0x118014, [], 1, .one, fun _ => 0x1, 0x1, 0x0, 0x0, 0x0, 0x0, some 11⟩,
   /- UPLL_STEP -/ ⟨0x118018, [], 1, .low, fun _ => 0x0, 0x0, 0x0, 0x0, 0x0, 0x0, none⟩,
   /- UPLL_STEP -/ ⟨0x11801c, [], 1, .high, fun _ => 0x0, 0x0, 0x0, 0x0, 0x0, 0x0, none⟩,
   /- UPLL_STEP_AT -/ ⟨0x118020, [], 1, .low, fun _ => 0x0, 0x0, 0x0, 0x0, 0x0, 0x0, none⟩,
   /- UPLL_STEP_AT -/ ⟨0x118024, [], 1, .high, fun _ => 0x0, 0x0, 0x0, 0x0, 0x0, 0x0, none⟩,
   /- PPS_CTL -/ ⟨0x118030, [], 1, .one, fun _ => 0x64, 0xffff, 0x0, 0x0, 0x0, 0x0, some 11⟩,
   /- PPS_STATUS -/ ⟨0x118034, [], 1, .one, fun _ => 0x0, 0x0, 0x0, 0xffffffff, 0x0, 0x0, none⟩,
   /- SYNC_CTL -/ ⟨0x118040, [], 1, .one, fun _ => 0x2, 0x37, 0x0, 0x0, 0x0, 0x0, some 4⟩,
   /- SYNC_STATUS -/ ⟨0x118044, [], 1, .one, fun _ => 0x0, 0x0, 0x2, 0x0, 0x0, 0x0, none⟩,
   /- SYNC_TICK -/ ⟨0x118048, [], 1, .low, fun _ => 0x0, 0x0, 0x0, 0x0, 0x0, 0x0, none⟩,
   /- SYNC_TICK -/ ⟨0x11804c, [], 1, .high, fun _ => 0x0, 0x0, 0x0, 0x0, 0x0, 0x0, none⟩]

/-- Rows of the DDC block. -/
def rowsDdc : List RegRow :=
  [/- DDC_CTL -/ ⟨0x120000, [(0x8000, 4)], 1, .one, fun _ => 0x0, 0x303, 0x0, 0x0, 0x303, 0x0, none⟩,
   /- DDC_COMMIT -/ ⟨0x120004, [(0x8000, 4)], 1, .one, fun _ => 0x0, 0x0, 0x0, 0x0, 0x0, 0x0, none⟩,
   /- DDC_FREQ -/ ⟨0x120008, [(0x8000, 4)], 1, .low, fun _ => 0x0, 0xffffffff, 0x0, 0x0, 0xffffffff, 0x0, none⟩,
   /- DDC_FREQ -/ ⟨0x12000c, [(0x8000, 4)], 1, .high, fun _ => 0x4000, 0xffff, 0x0, 0x0, 0xffff, 0x0, none⟩,
   /- DDC_PHASE -/ ⟨0x120010, [(0x8000, 4)], 1, .one, fun _ => 0x0, 0xffffffff, 0x0, 0x0, 0xffffffff, 0x0, none⟩,
   /- DDC_STATUS -/ ⟨0x120014, [(0x8000, 4)], 1, .one, fun _ => 0x0, 0x0, 0x8, 0x0, 0x0, 0x0, none⟩,
   /- DDC_COMMIT_INDEX -/ ⟨0x120018, [(0x8000, 4)], 1, .low, fun _ => 0x0, 0x0, 0x0, 0x0, 0x0, 0x0, none⟩,
   /- DDC_COMMIT_INDEX -/ ⟨0x12001c, [(0x8000, 4)], 1, .high, fun _ => 0x0, 0x0, 0x0, 0x0, 0x0, 0x0, none⟩,
   /- DDC_TAINT -/ ⟨0x120020, [(0x8000, 4)], 1, .one, fun _ => 0xf, 0x0, 0x0, 0x0, 0x0, 0x0, none⟩,
   /- DDC_SAT -/ ⟨0x120024, [(0x8000, 4)], 1, .one, fun _ => 0x0, 0x0, 0x0, 0xffffffff, 0x0, 0x0, none⟩,
   /- ZM_CTL -/ ⟨0x121000, [(0x8000, 4), (0x100, 8)], 1, .one, fun _ => 0x0, 0x3e1f0100, 0x0, 0x0, 0x3e1f0100, 0x73, none⟩,
   /- ZM_FREQ -/ ⟨0x121008, [(0x8000, 4), (0x100, 8)], 1, .low, fun _ => 0x0, 0xffffffff, 0x0, 0x0, 0xffffffff, 0x0, none⟩,
   /- ZM_FREQ -/ ⟨0x12100c, [(0x8000, 4), (0x100, 8)], 1, .high, fun _ => 0x0, 0xffff, 0x0, 0x0, 0xffff, 0x0, none⟩,
   /- ZM_PHASE -/ ⟨0x121010, [(0x8000, 4), (0x100, 8)], 1, .one, fun _ => 0x0, 0xffffffff, 0x0, 0x0, 0xffffffff, 0x0, none⟩,
   /- ZM_RATIO -/ ⟨0x121018, [(0x8000, 4), (0x100, 8)], 1, .low, fun _ => 0x0, 0xffffffff, 0x0, 0x0, 0xffffffff, 0x0, none⟩,
   /- ZM_RATIO -/ ⟨0x12101c, [(0x8000, 4), (0x100, 8)], 1, .high, fun _ => 0x4000, 0xffff, 0x0, 0x0, 0xffff, 0x0, none⟩,
   /- ZM_SWAP -/ ⟨0x121020, [(0x8000, 4), (0x100, 8)], 1, .one, fun _ => 0x0, 0x0, 0x0, 0x0, 0x0, 0x0, none⟩,
   /- ZM_BANK -/ ⟨0x121024, [(0x8000, 4), (0x100, 8)], 1, .one, fun _ => 0x0, 0x0, 0x0, 0xffffff00, 0x0, 0x0, none⟩,
   /- ZM_COEF_ADDR -/ ⟨0x121028, [(0x8000, 4), (0x100, 8)], 1, .one, fun _ => 0x0, 0x17fff, 0x0, 0x0, 0x0, 0x0, none⟩,
   /- ZM_COEF_DATA -/ ⟨0x12102c, [(0x8000, 4), (0x100, 8)], 1, .one, fun _ => 0x0, 0x3ffff, 0x0, 0x0, 0x0, 0x0, none⟩,
   /- ZM_SPAN -/ ⟨0x121030, [(0x8000, 4), (0x100, 8)], 1, .one, fun _ => 0x0, 0x0, 0x0, 0x0, 0x0, 0x0, none⟩,
   /- ZM_GD -/ ⟨0x121034, [(0x8000, 4), (0x100, 8)], 1, .one, fun _ => 0x0, 0x0, 0x0, 0x0, 0x0, 0x0, none⟩,
   /- ZM_RATE -/ ⟨0x121038, [(0x8000, 4), (0x100, 8)], 1, .low, fun _ => 0x0, 0x0, 0x0, 0x0, 0x0, 0x0, none⟩,
   /- ZM_RATE -/ ⟨0x12103c, [(0x8000, 4), (0x100, 8)], 1, .high, fun _ => 0x0, 0x0, 0x0, 0x0, 0x0, 0x0, none⟩,
   /- ZM_SAT -/ ⟨0x121040, [(0x8000, 4), (0x100, 8)], 1, .one, fun _ => 0x0, 0x0, 0x0, 0xffffffff, 0x0, 0x0, none⟩,
   /- ZM_STATUS -/ ⟨0x121044, [(0x8000, 4), (0x100, 8)], 1, .one, fun _ => 0x0, 0x0, 0x4, 0x0, 0x0, 0x0, none⟩,
   /- ZM_FADE_START -/ ⟨0x121048, [(0x8000, 4), (0x100, 8)], 1, .low, fun _ => 0x0, 0x0, 0x0, 0x0, 0x0, 0x0, none⟩,
   /- ZM_FADE_START -/ ⟨0x12104c, [(0x8000, 4), (0x100, 8)], 1, .high, fun _ => 0x0, 0x0, 0x0, 0x0, 0x0, 0x0, none⟩]

/-- Rows of the XF block. -/
def rowsXf : List RegRow :=
  [/- XF_CTL -/ ⟨0x140000, [(0x10000, 4), (0x100, 8)], 1, .one, fun _ => 0x2020c, 0x17071f, 0x0, 0x0, 0x17071f, 0xf000000, none⟩,
   /- XF_LIMIT -/ ⟨0x140004, [(0x10000, 4), (0x100, 8)], 1, .one, fun _ => 0x0, 0x0, 0x0, 0x0, 0x0, 0xff071f, none⟩,
   /- XF_INFO -/ ⟨0x140008, [(0x10000, 4), (0x100, 8)], 1, .one, fun _ => 0x0, 0x0, 0x0, 0x0, 0x0, 0x0, none⟩,
   /- XF_STATUS -/ ⟨0x14000c, [(0x10000, 4), (0x100, 8)], 1, .one, fun _ => 0x0, 0x0, 0x2, 0x0, 0x0, 0x0, none⟩,
   /- XF_COUNT -/ ⟨0x140010, [(0x10000, 4), (0x100, 8)], 1, .low, fun _ => 0x0, 0x0, 0x0, 0x0, 0x0, 0x0, none⟩,
   /- XF_COUNT -/ ⟨0x140014, [(0x10000, 4), (0x100, 8)], 1, .high, fun _ => 0x0, 0x0, 0x0, 0x0, 0x0, 0x0, none⟩,
   /- DET_CTL -/ ⟨0x141000, [(0x10000, 4), (0x100, 8)], 1, .one, fun _ => 0x1d03e7, 0x1fffff, 0x0, 0x0, 0x1fffff, 0x0, none⟩,
   /- DET_STATUS -/ ⟨0x141004, [(0x10000, 4), (0x100, 8)], 1, .one, fun _ => 0x0, 0x0, 0x2, 0x0, 0x0, 0x0, none⟩,
   /- DET_INTERVALS -/ ⟨0x141008, [(0x10000, 4), (0x100, 8)], 1, .low, fun _ => 0x0, 0x0, 0x0, 0x0, 0x0, 0x0, none⟩,
   /- DET_INTERVALS -/ ⟨0x14100c, [(0x10000, 4), (0x100, 8)], 1, .high, fun _ => 0x0, 0x0, 0x0, 0x0, 0x0, 0x0, none⟩,
   /- DET_BAND -/ ⟨0x142008, [(0x10000, 4), (0x8, 15)], 1, .one, fun _ => 0x0, 0xffffffff, 0x0, 0x0, 0xffffffff, 0x0, none⟩,
   /- DET_BAND_EN -/ ⟨0x14200C, [(0x10000, 4), (0x8, 15)], 1, .one, fun _ => 0x0, 0x1, 0x0, 0x0, 0x1, 0x0, none⟩,
   /- CHZ_CTL -/ ⟨0x144000, [(0x10000, 4)], 1, .one, fun _ => 0x30, 0xff17f, 0x0, 0x0, 0xff17f, 0x0, none⟩,
   /- CHZ_LIMIT -/ ⟨0x144004, [(0x10000, 4)], 1, .one, fun _ => 0x0, 0x0, 0x0, 0x0, 0x0, 0xff017f, none⟩,
   /- CHZ_INT -/ ⟨0x144008, [(0x10000, 4)], 1, .low, fun _ => 0x2625a, 0xffffffff, 0x0, 0x0, 0xffffffff, 0x0, none⟩,
   /- CHZ_INT -/ ⟨0x14400c, [(0x10000, 4)], 1, .high, fun _ => 0x0, 0xff, 0x0, 0x0, 0xff, 0x0, none⟩,
   /- CHZ_SAT -/ ⟨0x144010, [(0x10000, 4)], 1, .one, fun _ => 0x0, 0x0, 0x0, 0xffffffff, 0x0, 0x0, none⟩,
   /- CHZ_OVF -/ ⟨0x144014, [(0x10000, 4)], 1, .one, fun _ => 0x0, 0x0, 0x0, 0xffffffff, 0x0, 0x0, none⟩,
   /- CHZ_STATUS -/ ⟨0x144018, [(0x10000, 4)], 1, .one, fun _ => 0x0, 0x0, 0x2, 0x0, 0x0, 0x0, none⟩,
   /- CHZ_LAST -/ ⟨0x144020, [(0x10000, 4)], 1, .low, fun _ => 0x0, 0x0, 0x0, 0x0, 0x0, 0x0, none⟩,
   /- CHZ_LAST -/ ⟨0x144024, [(0x10000, 4)], 1, .high, fun _ => 0x0, 0x0, 0x0, 0x0, 0x0, 0x0, none⟩,
   /- SK_CTL -/ ⟨0x146000, [(0x10000, 4)], 1, .one, fun _ => 0x108, 0x11f, 0x0, 0x0, 0x11f, 0x200, none⟩,
   /- SK_THR -/ ⟨0x146004, [(0x10000, 4)], 1, .one, fun _ => 0x16660b33, 0xffffffff, 0x0, 0x0, 0xffffffff, 0x0, none⟩,
   /- SK_STATUS -/ ⟨0x146008, [(0x10000, 4)], 1, .one, fun _ => 0x0, 0x0, 0x2, 0x0, 0x0, 0x0, none⟩,
   /- SK_BLOCKS -/ ⟨0x14600c, [(0x10000, 4)], 1, .one, fun _ => 0x0, 0x0, 0x0, 0x0, 0x0, 0x0, none⟩,
   /- REC_CTL -/ ⟨0x147000, [(0x10000, 4)], 1, .one, fun _ => 0x0, 0x0, 0x0, 0x0, 0x0, 0xff0001, none⟩,
   /- TRN_CTL -/ ⟨0x147004, [(0x10000, 4)], 1, .one, fun _ => 0xa, 0x3f, 0x0, 0x0, 0x3f, 0xffff0100, none⟩,
   /- TRN_STATUS -/ ⟨0x147008, [(0x10000, 4)], 1, .one, fun _ => 0x0, 0x0, 0x2, 0x0, 0x0, 0x0, none⟩,
   /- REC_COUNT -/ ⟨0x147010, [(0x10000, 4)], 1, .low, fun _ => 0x0, 0x0, 0x0, 0x0, 0x0, 0x0, none⟩,
   /- REC_COUNT -/ ⟨0x147014, [(0x10000, 4)], 1, .high, fun _ => 0x0, 0x0, 0x0, 0x0, 0x0, 0x0, none⟩,
   /- TRN_ENV_COUNT -/ ⟨0x147018, [(0x10000, 4)], 1, .low, fun _ => 0x0, 0x0, 0x0, 0x0, 0x0, 0x0, none⟩,
   /- TRN_ENV_COUNT -/ ⟨0x14701c, [(0x10000, 4)], 1, .high, fun _ => 0x0, 0x0, 0x0, 0x0, 0x0, 0x0, none⟩]

/-- Rows of the TRG block. -/
def rowsTrg : List RegRow :=
  [/- TRG_COND -/ ⟨0x180000, [(0x40, 64)], 1, .one, fun _ => 0x0, 0x8f310fff, 0x0, 0x0, 0x0, 0x0, none⟩,
   /- TRG_PARAM -/ ⟨0x180004, [(0x40, 64)], 1, .one, fun _ => 0xffff0000, 0xffffffff, 0x0, 0x0, 0x0, 0x0, none⟩,
   /- TRG_WMIN -/ ⟨0x180008, [(0x40, 64)], 1, .one, fun _ => 0x0, 0xffffffff, 0x0, 0x0, 0x0, 0x0, none⟩,
   /- TRG_WMAX -/ ⟨0x18000c, [(0x40, 64)], 1, .one, fun _ => 0xffffffff, 0xffffffff, 0x0, 0x0, 0x0, 0x0, none⟩,
   /- TRG_SEQ -/ ⟨0x180010, [(0x40, 64)], 1, .one, fun _ => 0x0, 0x3f3f, 0x0, 0x0, 0x0, 0x0, none⟩,
   /- TRG_HOLD -/ ⟨0x180014, [(0x40, 64)], 1, .one, fun _ => 0x0, 0xffffffff, 0x0, 0x0, 0x0, 0x0, none⟩,
   /- TRG_FIRED -/ ⟨0x180018, [(0x40, 64)], 1, .one, fun _ => 0x0, 0x0, 0x0, 0xffffffff, 0x0, 0x0, none⟩,
   /- TRG_MISSED -/ ⟨0x18001c, [(0x40, 64)], 1, .one, fun _ => 0x0, 0x0, 0x0, 0xffffffff, 0x0, 0x0, none⟩,
   /- TRG_MISSED_AT -/ ⟨0x180020, [(0x40, 64)], 1, .low, fun _ => 0x0, 0x0, 0x0, 0x0, 0x0, 0x0, none⟩,
   /- TRG_MISSED_AT -/ ⟨0x180024, [(0x40, 64)], 1, .high, fun _ => 0x0, 0x0, 0x0, 0x0, 0x0, 0x0, none⟩,
   /- TRG_SUPPRESSED -/ ⟨0x180028, [(0x40, 64)], 1, .one, fun _ => 0x0, 0x0, 0x0, 0xffffffff, 0x0, 0x0, none⟩,
   /- TRG_STATUS -/ ⟨0x18002c, [(0x40, 64)], 1, .one, fun _ => 0x0, 0x0, 0x10, 0x0, 0x0, 0x0, none⟩,
   /- TRG_LAST -/ ⟨0x180030, [(0x40, 64)], 1, .low, fun _ => 0x0, 0x0, 0x0, 0x0, 0x0, 0x0, none⟩,
   /- TRG_LAST -/ ⟨0x180034, [(0x40, 64)], 1, .high, fun _ => 0x0, 0x0, 0x0, 0x0, 0x0, 0x0, none⟩,
   /- TRG_RGN_CTL -/ ⟨0x184000, [(0x40, 64)], 1, .one, fun _ => 0x0, 0x3303f01, 0x0, 0x0, 0x0, 0x0, none⟩,
   /- TRG_RGN_HOLD -/ ⟨0x184004, [(0x40, 64)], 1, .one, fun _ => 0x0, 0xffffffff, 0x0, 0x0, 0x0, 0x0, none⟩,
   /- TRG_RGN_TRIG -/ ⟨0x184008, [(0x40, 64)], 1, .low, fun _ => 0x0, 0xffffffff, 0x0, 0x0, 0x0, 0x0, none⟩,
   /- TRG_RGN_TRIG -/ ⟨0x18400c, [(0x40, 64)], 1, .high, fun _ => 0x0, 0xffffffff, 0x0, 0x0, 0x0, 0x0, none⟩,
   /- TRG_RGN_ARM -/ ⟨0x184010, [(0x40, 64)], 1, .low, fun _ => 0x0, 0xffffffff, 0x0, 0x0, 0x0, 0x0, none⟩,
   /- TRG_RGN_ARM -/ ⟨0x184014, [(0x40, 64)], 1, .high, fun _ => 0x0, 0xffffffff, 0x0, 0x0, 0x0, 0x0, none⟩,
   /- TRG_RGN_DISARM -/ ⟨0x184018, [(0x40, 64)], 1, .low, fun _ => 0x0, 0xffffffff, 0x0, 0x0, 0x0, 0x0, none⟩,
   /- TRG_RGN_DISARM -/ ⟨0x18401c, [(0x40, 64)], 1, .high, fun _ => 0x0, 0xffffffff, 0x0, 0x0, 0x0, 0x0, none⟩,
   /- TRG_RGN_COUNT -/ ⟨0x184020, [(0x40, 64)], 1, .one, fun _ => 0x0, 0x0, 0x0, 0x0, 0x0, 0x0, none⟩,
   /- TRG_RGN_MISSED -/ ⟨0x184024, [(0x40, 64)], 1, .one, fun _ => 0x0, 0x0, 0x0, 0xffffffff, 0x0, 0x0, none⟩,
   /- TRG_RGN_MISSED_AT -/ ⟨0x184028, [(0x40, 64)], 1, .low, fun _ => 0x0, 0x0, 0x0, 0x0, 0x0, 0x0, none⟩,
   /- TRG_RGN_MISSED_AT -/ ⟨0x18402c, [(0x40, 64)], 1, .high, fun _ => 0x0, 0x0, 0x0, 0x0, 0x0, 0x0, none⟩,
   /- TRG_RGN_LAST -/ ⟨0x184030, [(0x40, 64)], 1, .low, fun _ => 0x0, 0x0, 0x0, 0x0, 0x0, 0x0, none⟩,
   /- TRG_RGN_LAST -/ ⟨0x184034, [(0x40, 64)], 1, .high, fun _ => 0x0, 0x0, 0x0, 0x0, 0x0, 0x0, none⟩,
   /- TRG_IN_CTL -/ ⟨0x188000, [(0x10, 4)], 1, .one, fun _ => 0x1, 0xc00fffff, 0x0, 0x0, 0x0, 0x0, none⟩,
   /- TRG_IN_STUCK -/ ⟨0x188004, [(0x10, 4)], 1, .one, fun _ => 0xf4240, 0xffffff, 0x0, 0x0, 0x0, 0x0, none⟩,
   /- TRG_IN_SKEW -/ ⟨0x188008, [(0x10, 4)], 1, .one, fun _ => 0x0, 0xffff, 0x0, 0x0, 0x0, 0x0, none⟩,
   /- TRG_IN_STATUS -/ ⟨0x18800c, [(0x10, 4)], 1, .one, fun _ => 0x0, 0x0, 0x0, 0xffff0000, 0x0, 0x0, none⟩,
   /- TRG_OUT_CTL -/ ⟨0x188100, [(0x20, 4)], 1, .one, fun _ => 0x100, 0xef00ffff, 0x0, 0x0, 0x0, 0x0, none⟩,
   /- TRG_OUT_MASK -/ ⟨0x188108, [(0x20, 4)], 1, .low, fun _ => 0x0, 0xffffffff, 0x0, 0x0, 0x0, 0x0, none⟩,
   /- TRG_OUT_MASK -/ ⟨0x18810c, [(0x20, 4)], 1, .high, fun _ => 0x0, 0xffffffff, 0x0, 0x0, 0x0, 0x0, none⟩,
   /- TRG_OUT_DLY -/ ⟨0x188110, [(0x20, 4)], 1, .one, fun _ => 0x1400, 0xffffffff, 0x0, 0x0, 0x0, 0x0, none⟩,
   /- TRG_OUT_LATE -/ ⟨0x188114, [(0x20, 4)], 1, .one, fun _ => 0x0, 0x0, 0x0, 0xffffffff, 0x0, 0x0, none⟩,
   /- TRG_AVG_CTL -/ ⟨0x188200, [(0x10, 4)], 1, .one, fun _ => 0x0, 0xffff, 0x0, 0x0, 0x0, 0x0, none⟩,
   /- TRG_AVG_LEN -/ ⟨0x188204, [(0x10, 4)], 1, .one, fun _ => 0x3ff, 0xffffffff, 0x0, 0x0, 0x0, 0x0, none⟩,
   /- TRG_AVG_STATUS -/ ⟨0x188208, [(0x10, 4)], 1, .one, fun _ => 0x0, 0x0, 0x0, 0xffff, 0x0, 0x0, none⟩,
   /- TRG_FORCE_LO -/ ⟨0x188300, [], 1, .one, fun _ => 0x0, 0x0, 0x0, 0x0, 0x0, 0x0, none⟩,
   /- TRG_FORCE_HI -/ ⟨0x188304, [], 1, .one, fun _ => 0x0, 0x0, 0x0, 0x0, 0x0, 0x0, none⟩]

/-- Rows of the CAP block. -/
def rowsCap : List RegRow :=
  [/- CAP_ALLOC -/ ⟨0x1a0000, [], 1, .one, fun _ => 0x0, 0x0, 0x0, 0x0, 0x0, 0x0, some 6⟩,
   /- CAP_ALLOC_STATUS -/ ⟨0x1a0004, [], 1, .one, fun _ => 0x0, 0x0, 0x0, 0x0, 0x0, 0x0, none⟩,
   /- CAP_BAR4_WIN -/ ⟨0x1a0010, [], 1, .low, fun _ => 0x0, 0xffffffff, 0x0, 0x0, 0x0, 0x0, none⟩,
   /- CAP_BAR4_WIN -/ ⟨0x1a0014, [], 1, .high, fun _ => 0x0, 0xffffffff, 0x0, 0x0, 0x0, 0x0, none⟩,
   /- CAP_BAR4_STATUS -/ ⟨0x1a0018, [], 1, .one, fun _ => 0x0, 0x0, 0x0, 0xffffffff, 0x0, 0x0, none⟩,
   /- CAP_REGION_BASE -/ ⟨0x1a1000, [(0x40, 64)], 1, .low, fun _ => 0x0, 0xffffffff, 0x0, 0x0, 0x0, 0x0, some 6⟩,
   /- CAP_REGION_BASE -/ ⟨0x1a1004, [(0x40, 64)], 1, .high, fun _ => 0x0, 0xffffffff, 0x0, 0x0, 0x0, 0x0, some 6⟩,
   /- CAP_REGION_SIZE -/ ⟨0x1a1008, [(0x40, 64)], 1, .one, fun _ => 0x14, 0x3f, 0x0, 0x0, 0x0, 0x0, some 6⟩,
   /- CAP_REGION_SRC -/ ⟨0x1a100c, [(0x40, 64)], 1, .one, fun _ => 0x0, 0xd3f07ff, 0x0, 0x0, 0x0, 0x0, none⟩,
   /- CAP_REGION_PRE -/ ⟨0x1a1010, [(0x40, 64)], 1, .one, fun _ => 0x0, 0xffffffff, 0x0, 0x0, 0x0, 0x0, none⟩,
   /- CAP_REGION_POST -/ ⟨0x1a1014, [(0x40, 64)], 1, .one, fun _ => 0x0, 0xffffffff, 0x0, 0x0, 0x0, 0x0, none⟩,
   /- CAP_REGION_STATUS -/ ⟨0x1a1018, [(0x40, 64)], 1, .one, fun _ => 0x0, 0x0, 0x0, 0x0, 0x0, 0x0, none⟩,
   /- CAP_REGION_WRITTEN -/ ⟨0x1a1020, [(0x40, 64)], 1, .low, fun _ => 0x0, 0x0, 0x0, 0x0, 0x0, 0x0, none⟩,
   /- CAP_REGION_WRITTEN -/ ⟨0x1a1024, [(0x40, 64)], 1, .high, fun _ => 0x0, 0x0, 0x0, 0x0, 0x0, 0x0, none⟩,
   /- CAP_REGION_ACK -/ ⟨0x1a1028, [(0x40, 64)], 1, .one, fun _ => 0xffffffff, 0xffffffff, 0x0, 0x0, 0x0, 0x0, none⟩,
   /- CAP_REGION_RECS -/ ⟨0x1a102c, [(0x40, 64)], 1, .one, fun _ => 0x0, 0x0, 0x0, 0x0, 0x0, 0x0, none⟩,
   /- CAP_REGION_FULLMISS -/ ⟨0x1a1030, [(0x40, 64)], 1, .one, fun _ => 0x0, 0x0, 0x0, 0xffffffff, 0x0, 0x0, none⟩,
   /- MEM_CFG -/ ⟨0x1b0000, [(0x100, 8)], 1, .one, fun _ => 0x0, 0x0, 0x0, 0x0, 0x0, 0x0, none⟩,
   /- MEM_STEER -/ ⟨0x1b0004, [(0x100, 8)], 1, .one, fun _ => 0x3f003f, 0x0, 0x0, 0x0, 0x0, 0x0, none⟩,
   /- MEM_ECC -/ ⟨0x1b0008, [(0x100, 8)], 1, .one, fun _ => 0x0, 0x0, 0x0, 0xffffffff, 0x0, 0x0, none⟩,
   /- MEM_SUMMARY -/ ⟨0x1b1000, [], 1, .one, fun _ => 0x0, 0x0, 0x0, 0x0, 0x0, 0x0, none⟩]

/-- Rows of the DMA block. -/
def rowsDma : List RegRow :=
  [/- DMA_CTL -/ ⟨0x1c0000, [(0x40, 128)], 1, .one, fun _ => 0x0, 0x301, 0x0, 0x0, 0x0, 0x0, none⟩,
   /- DMA_STATUS -/ ⟨0x1c0004, [(0x40, 128)], 1, .one, fun _ => 0x0, 0x0, 0x4, 0x0, 0x0, 0x0, none⟩,
   /- DMA_DESC_ADDR -/ ⟨0x1c0008, [(0x40, 128)], 1, .low, fun _ => 0x0, 0xffffffff, 0x0, 0x0, 0x0, 0x0, none⟩,
   /- DMA_DESC_ADDR -/ ⟨0x1c000c, [(0x40, 128)], 1, .high, fun _ => 0x0, 0xffffffff, 0x0, 0x0, 0x0, 0x0, none⟩,
   /- DMA_POS -/ ⟨0x1c0010, [(0x40, 128)], 1, .low, fun _ => 0x0, 0x0, 0x0, 0x0, 0x0, 0x0, none⟩,
   /- DMA_POS -/ ⟨0x1c0014, [(0x40, 128)], 1, .high, fun _ => 0x0, 0x0, 0x0, 0x0, 0x0, 0x0, none⟩,
   /- DMA_LEFT -/ ⟨0x1c0018, [(0x40, 128)], 1, .one, fun _ => 0x0, 0x0, 0x0, 0x0, 0x0, 0x0, none⟩,
   /- DMA_RING_LEN -/ ⟨0x1c001c, [(0x40, 128)], 1, .one, fun _ => 0x0, 0xffffffff, 0x0, 0x0, 0xffffffff, 0x0, none⟩,
   /- DMA_RING_PARTNER -/ ⟨0x1c0020, [(0x40, 128)], 1, .one, fun _ => 0x0, 0xffffffff, 0x0, 0x0, 0x0, 0x0, none⟩,
   /- DMA_RING_OWN -/ ⟨0x1c0024, [(0x40, 128)], 1, .one, fun _ => 0x0, 0x0, 0x0, 0x0, 0x0, 0x0, none⟩,
   /- DMA_WITHDRAWN -/ ⟨0x1c0028, [(0x40, 128)], 1, .one, fun _ => 0x0, 0x0, 0x0, 0xffffffff, 0x0, 0x0, none⟩,
   /- DMA_EXIT_DROP -/ ⟨0x1c002c, [(0x40, 128)], 1, .one, fun _ => 0x0, 0x0, 0x0, 0xffffffff, 0x0, 0x0, none⟩,
   /- DMA_BYTES -/ ⟨0x1c0030, [(0x40, 128)], 1, .low, fun _ => 0x0, 0x0, 0x0, 0x0, 0x0, 0x0, none⟩,
   /- DMA_BYTES -/ ⟨0x1c0034, [(0x40, 128)], 1, .high, fun _ => 0x0, 0x0, 0x0, 0x0, 0x0, 0x0, none⟩,
   /- DMA_CQ_BASE -/ ⟨0x1d0000, [(0x20, 16)], 1, .low, fun _ => 0x0, 0xffffffff, 0x0, 0x0, 0x0, 0x0, none⟩,
   /- DMA_CQ_BASE -/ ⟨0x1d0004, [(0x20, 16)], 1, .high, fun _ => 0x0, 0xffffffff, 0x0, 0x0, 0x0, 0x0, none⟩,
   /- DMA_CQ_CTL -/ ⟨0x1d0008, [(0x20, 16)], 1, .one, fun _ => 0x4, 0x8000011f, 0x0, 0x0, 0x0, 0x0, none⟩,
   /- DMA_CQ_HEAD -/ ⟨0x1d000c, [(0x20, 16)], 1, .one, fun _ => 0x10000, 0x0, 0x0, 0x0, 0x0, 0x0, none⟩,
   /- DMA_CQ_TAIL -/ ⟨0x1d0010, [(0x20, 16)], 1, .one, fun _ => 0x0, 0xffff, 0x0, 0x0, 0x0, 0x0, none⟩,
   /- DMA_CQ_STATUS -/ ⟨0x1d0014, [(0x20, 16)], 1, .one, fun _ => 0x0, 0x0, 0x0, 0x0, 0x0, 0x0, none⟩,
   /- DMA_PWR -/ ⟨0x1d1000, [], 1, .one, fun _ => 0x64, 0xffff, 0x0, 0x0, 0x0, 0x0, some 0⟩,
   /- DMA_PWR_STATUS -/ ⟨0x1d1004, [], 1, .one, fun _ => 0x0, 0x0, 0x0, 0x0, 0x0, 0x0, none⟩]

/-- Rows of the STRM block. -/
def rowsStrm : List RegRow :=
  [/- STRM_PORT_CTL -/ ⟨0x1e0000, [(0x100, 2)], 1, .one, fun _ => 0x10000000, 0xfc000fff, 0x0, 0x0, 0x0, 0x0, some 9⟩,
   /- STRM_PORT_MTU -/ ⟨0x1e0004, [(0x100, 2)], 1, .one, fun _ => 0x2328, 0x3fff, 0x0, 0x0, 0x0, 0x0, some 9⟩,
   /- STRM_PORT_MAC -/ ⟨0x1e0008, [(0x100, 2)], 1, .low, fun _ => 0x0, 0xffffffff, 0x0, 0x0, 0x0, 0x0, some 9⟩,
   /- STRM_PORT_MAC -/ ⟨0x1e000c, [(0x100, 2)], 1, .high, fun _ => 0x0, 0xffff, 0x0, 0x0, 0x0, 0x0, some 9⟩,
   /- STRM_PORT_IP4 -/ ⟨0x1e0010, [(0x100, 2)], 1, .one, fun _ => 0x0, 0xffffffff, 0x0, 0x0, 0x0, 0x0, some 9⟩,
   /- STRM_PORT_IP6 -/ ⟨0x1e0020, [(0x100, 2), (0x4, 4)], 1, .one, fun _ => 0x0, 0xffffffff, 0x0, 0x0, 0x0, 0x0, some 9⟩,
   /- STRM_CLASS -/ ⟨0x1e0030, [(0x100, 2)], 1, .low, fun _ => 0x0, 0xffffffff, 0x0, 0x0, 0x0, 0x0, some 9⟩,
   /- STRM_CLASS -/ ⟨0x1e0034, [(0x100, 2)], 1, .high, fun _ => 0x0, 0xffffffff, 0x0, 0x0, 0x0, 0x0, some 9⟩,
   /- STRM_PORT_STATUS -/ ⟨0x1e0038, [(0x100, 2)], 1, .one, fun _ => 0x0, 0x0, 0x0, 0xffff0000, 0x0, 0x0, none⟩,
   /- STRM_PORT_RX -/ ⟨0x1e003c, [(0x100, 2)], 1, .one, fun _ => 0x0, 0x0, 0x0, 0x0, 0x0, 0x0, none⟩,
   /- STRM_PORT_TX -/ ⟨0x1e0040, [(0x100, 2)], 1, .low, fun _ => 0x0, 0x0, 0x0, 0x0, 0x0, 0x0, none⟩,
   /- STRM_PORT_TX -/ ⟨0x1e0044, [(0x100, 2)], 1, .high, fun _ => 0x0, 0x0, 0x0, 0x0, 0x0, 0x0, none⟩,
   /- STRM_EPOCH_SEC -/ ⟨0x1e0f00, [], 1, .one, fun _ => 0x0, 0xffffffff, 0x0, 0x0, 0x0, 0x0, some 11⟩,
   /- STRM_FLOW_CTL -/ ⟨0x1e4000, [(0x800, 2), (0x40, 32)], 1, .one, fun _ => 0xff0000, 0xfcffff00, 0x0, 0x0, 0x0, 0x0, some 9⟩,
   /- STRM_FLOW_SID -/ ⟨0x1e4004, [(0x800, 2), (0x40, 32)], 1, .one, fun _ => 0x0, 0xffffffff, 0x0, 0x0, 0x0, 0x0, some 9⟩,
   /- STRM_FLOW_DST -/ ⟨0x1e4008, [(0x800, 2), (0x40, 32), (0x4, 4)], 1, .one, fun _ => 0x0, 0xffffffff, 0x0, 0x0, 0x0, 0x0, some 9⟩,
   /- STRM_FLOW_DMAC -/ ⟨0x1e4018, [(0x800, 2), (0x40, 32)], 1, .low, fun _ => 0x0, 0xffffffff, 0x0, 0x0, 0x0, 0x0, some 9⟩,
   /- STRM_FLOW_DMAC -/ ⟨0x1e401c, [(0x800, 2), (0x40, 32)], 1, .high, fun _ => 0x0, 0xffff, 0x0, 0x0, 0x0, 0x0, some 9⟩,
   /- STRM_FLOW_UDP -/ ⟨0x1e4020, [(0x800, 2), (0x40, 32)], 1, .one, fun _ => 0x0, 0xffffffff, 0x0, 0x0, 0x0, 0x0, some 9⟩,
   /- STRM_FLOW_OPT -/ ⟨0x1e4024, [(0x800, 2), (0x40, 32)], 1, .one, fun _ => 0x3e8, 0xfc00ffff, 0x0, 0x0, 0x0, 0x0, some 9⟩,
   /- STRM_FLOW_REF -/ ⟨0x1e4028, [(0x800, 2), (0x40, 32)], 1, .one, fun _ => 0x0, 0xffff, 0x0, 0x0, 0x0, 0x0, some 9⟩,
   /- STRM_FLOW_FROM -/ ⟨0x1e402c, [(0x800, 2), (0x40, 32)], 1, .one, fun _ => 0x0, 0xffffffff, 0x0, 0x0, 0x0, 0x0, some 9⟩,
   /- STRM_FLOW_SENT -/ ⟨0x1e4030, [(0x800, 2), (0x40, 32)], 1, .one, fun _ => 0x0, 0x0, 0x0, 0x0, 0x0, 0x0, none⟩,
   /- STRM_FLOW_DROP -/ ⟨0x1e4034, [(0x800, 2), (0x40, 32)], 1, .one, fun _ => 0x0, 0x0, 0x0, 0xffffffff, 0x0, 0x0, none⟩,
   /- STRM_FLOW_AT -/ ⟨0x1e4038, [(0x800, 2), (0x40, 32)], 1, .one, fun _ => 0x0, 0x0, 0x0, 0x0, 0x0, 0x0, none⟩]

/-- Rows of the DISP block. -/
def rowsDisp : List RegRow :=
  [/- DISP_CTL -/ ⟨0x1f0000, [], 1, .one, fun _ => 0x0, 0xe0000000, 0x0, 0x0, 0xe0000000, 0x0, some 8⟩,
   /- DISP_COMMIT -/ ⟨0x1f0004, [], 1, .one, fun _ => 0x0, 0x0, 0x0, 0x0, 0x0, 0x0, some 8⟩,
   /- DISP_COMMIT_STATUS -/ ⟨0x1f0008, [], 1, .one, fun _ => 0x0, 0x0, 0x2, 0x0, 0x0, 0x0, none⟩,
   /- DISP_PCLK -/ ⟨0x1f0010, [], 1, .one, fun _ => 0x3fa76, 0x7ffff, 0x0, 0x0, 0x7ffff, 0x0, some 8⟩,
   /- DISP_HTIM -/ ⟨0x1f0014, [], 1, .one, fun _ => 0xa500a00, 0xffffffff, 0x0, 0x0, 0xffffffff, 0x0, some 8⟩,
   /- DISP_HSYNC -/ ⟨0x1f0018, [], 1, .one, fun _ => 0x200008, 0x8fff0fff, 0x0, 0x0, 0x8fff0fff, 0x0, some 8⟩,
   /- DISP_VTIM -/ ⟨0x1f001c, [], 1, .one, fun _ => 0x66e0640, 0xffffffff, 0x0, 0x0, 0xffffffff, 0x0, some 8⟩,
   /- DISP_VSYNC -/ ⟨0x1f0020, [], 1, .one, fun _ => 0x80060003, 0x8fff0fff, 0x0, 0x0, 0x8fff0fff, 0x0, some 8⟩,
   /- DISP_BG -/ ⟨0x1f0024, [], 1, .one, fun _ => 0x0, 0x3fffffff, 0x0, 0x0, 0x3fffffff, 0x0, none⟩,
   /- DISP_CQ -/ ⟨0x1f0028, [], 1, .one, fun _ => 0x0, 0x8000000f, 0x0, 0x0, 0x0, 0x0, none⟩,
   /- DISP_STATUS -/ ⟨0x1f0030, [], 1, .one, fun _ => 0x0, 0x0, 0x8, 0x0, 0x0, 0x0, none⟩,
   /- DISP_FRAME -/ ⟨0x1f0034, [], 1, .one, fun _ => 0x0, 0x0, 0x0, 0x0, 0x0, 0x0, none⟩,
   /- DISP_LATE -/ ⟨0x1f0038, [], 1, .one, fun _ => 0x0, 0x0, 0x0, 0xffffffff, 0x0, 0x0, none⟩,
   /- DISP_FS_REFUSED -/ ⟨0x1f003c, [], 1, .one, fun _ => 0x0, 0x0, 0x0, 0xffffffff, 0x0, 0x0, none⟩,
   /- DISP_AUX_CMD -/ ⟨0x1f0040, [], 1, .one, fun _ => 0x0, 0x0, 0x0, 0x0, 0x0, 0x0, some 8⟩,
   /- DISP_AUX_STATUS -/ ⟨0x1f0044, [], 1, .one, fun _ => 0x0, 0x0, 0x6, 0x0, 0x0, 0x0, none⟩,
   /- DISP_AUX_DATA -/ ⟨0x1f0050, [(0x4, 4)], 1, .one, fun _ => 0x0, 0xffffffff, 0x0, 0x0, 0x0, 0x0, none⟩,
   /- DISP_LAYER_CTL -/ ⟨0x1f0100, [(0x40, 4)], 1, .one, fun _ => 0xff0000, 0x80ff0f3f, 0x0, 0x0, 0x80ff0f3f, 0x0, none⟩,
   /- DISP_LAYER_POS -/ ⟨0x1f0104, [(0x40, 4)], 1, .one, fun _ => 0x0, 0xffffffff, 0x0, 0x0, 0xffffffff, 0x0, none⟩,
   /- DISP_LAYER_SIZE -/ ⟨0x1f0108, [(0x40, 4)], 1, .one, fun _ => 0x0, 0xffffffff, 0x0, 0x0, 0xffffffff, 0x0, none⟩,
   /- DISP_LAYER_MAP -/ ⟨0x1f010c, [(0x40, 4)], 1, .one, fun _ => 0x10000000, 0xffffffff, 0x0, 0x0, 0xffffffff, 0x0, none⟩,
   /- DISP_LAYER_ROWS -/ ⟨0x1f0110, [(0x40, 4)], 1, .one, fun _ => 0x4000000, 0xffffffff, 0x0, 0x0, 0xffffffff, 0x0, none⟩,
   /- DISP_LAYER_LVL -/ ⟨0x1f0114, [(0x40, 4)], 1, .one, fun _ => 0x101f4800, 0x3fffffff, 0x0, 0x0, 0x3fffffff, 0x0, none⟩,
   /- DISP_LAYER_ADDR -/ ⟨0x1f0118, [(0x40, 4)], 1, .low, fun _ => 0x0, 0xffffffff, 0x0, 0x0, 0xffffffff, 0x0, none⟩,
   /- DISP_LAYER_ADDR -/ ⟨0x1f011c, [(0x40, 4)], 1, .high, fun _ => 0x0, 0xffffffff, 0x0, 0x0, 0xffffffff, 0x0, none⟩,
   /- DISP_LAYER_PITCH -/ ⟨0x1f0120, [(0x40, 4)], 1, .one, fun _ => 0x0, 0xffffffff, 0x0, 0x0, 0xffffffff, 0x0, none⟩,
   /- DISP_LAYER_TAG -/ ⟨0x1f0124, [(0x40, 4)], 1, .one, fun _ => 0x0, 0xffffffff, 0x0, 0x0, 0xffffffff, 0x0, none⟩,
   /- DISP_TRACE_SRC -/ ⟨0x1f0200, [(0x8, 4)], 1, .one, fun _ => 0x0, 0x803000ff, 0x0, 0x0, 0x803000ff, 0x0, none⟩,
   /- DISP_TRACE_COL -/ ⟨0x1f0204, [(0x8, 4)], 1, .one, fun _ => 0x3fffffff, 0x3fffffff, 0x0, 0x0, 0x3fffffff, 0x0, none⟩,
   /- DISP_PAL_D -/ ⟨0x1f1000, [(0x4, 1024)], 1, .one, fun _ => 0x0, 0xffffffff, 0x0, 0x0, 0xffffffff, 0x0, none⟩,
   /- DISP_PAL_W -/ ⟨0x1f2000, [(0x4, 1024)], 1, .one, fun _ => 0x0, 0xffffffff, 0x0, 0x0, 0xffffffff, 0x0, none⟩]

/-- Rows of the TIU block. -/
def rowsTiu : List RegRow :=
  [/- TIU_TIME_SET -/ ⟨0x200000, [], 1, .low, fun _ => 0x0, 0xffffffff, 0x0, 0x0, 0x0, 0x0, some 11⟩,
   /- TIU_TIME_SET -/ ⟨0x200004, [], 1, .high, fun _ => 0x0, 0xffffffff, 0x0, 0x0, 0x0, 0x0, some 11⟩,
   /- TIU_TIME_CTL -/ ⟨0x200008, [], 1, .one, fun _ => 0x0, 0x0, 0x4, 0x0, 0x0, 0x0, some 11⟩,
   /- TIU_PPS_ERR -/ ⟨0x200010, [], 1, .one, fun _ => 0x0, 0x0, 0x0, 0x0, 0x0, 0x0, none⟩,
   /- TIU_PPS_LAST -/ ⟨0x200018, [], 1, .low, fun _ => 0x0, 0x0, 0x0, 0x0, 0x0, 0x0, none⟩,
   /- TIU_PPS_LAST -/ ⟨0x20001c, [], 1, .high, fun _ => 0x0, 0x0, 0x0, 0x0, 0x0, 0x0, none⟩,
   /- TIU_CDC_CTL -/ ⟨0x200020, [], 1, .one, fun _ => 0x1400, 0x1f1f, 0x0, 0x0, 0x0, 0x0, none⟩,
   /- TIU_CDC_STATUS -/ ⟨0x200024, [], 1, .one, fun _ => 0x0, 0x0, 0x2, 0x0, 0x0, 0x0, none⟩,
   /- TIU_CAN_LAST -/ ⟨0x200030, [], 1, .low, fun _ => 0x0, 0x0, 0x0, 0x0, 0x0, 0x0, none⟩,
   /- TIU_CAN_LAST -/ ⟨0x200034, [], 1, .high, fun _ => 0x0, 0x0, 0x0, 0x0, 0x0, 0x0, none⟩,
   /- TIU_EV_CTL -/ ⟨0x200100, [(0x20, 16)], 1, .one, fun _ => 0x4000001, 0xfc0fffff, 0x0, 0x0, 0x0, 0x0, none⟩,
   /- TIU_EV_STUCK -/ ⟨0x200104, [(0x20, 16)], 1, .one, fun _ => 0xf4240, 0xffffff, 0x0, 0x0, 0x0, 0x0, none⟩,
   /- TIU_EV_SKEW -/ ⟨0x200108, [(0x20, 16)], 1, .one, fun _ => 0x0, 0xffff, 0x0, 0x0, 0x0, 0x0, none⟩,
   /- TIU_EV_STATUS -/ ⟨0x20010c, [(0x20, 16)], 1, .one, fun _ => 0x0, 0x0, 0x0, 0xfffffff0, 0x0, 0x0, none⟩,
   /- TIU_EV_FIFO -/ ⟨0x200110, [(0x20, 16)], 4, .one, fun _ => 0x0, 0x0, 0x0, 0x0, 0x0, 0x0, none⟩,
   /- TIU_FIN_CTL -/ ⟨0x200400, [(0x20, 2)], 1, .one, fun _ => 0x30064, 0x8003ffff, 0x0, 0x0, 0x0, 0x0, none⟩,
   /- TIU_FIN_FREQ -/ ⟨0x200408, [(0x20, 2)], 1, .low, fun _ => 0x0, 0x0, 0x0, 0x0, 0x0, 0x0, none⟩,
   /- TIU_FIN_FREQ -/ ⟨0x20040c, [(0x20, 2)], 1, .high, fun _ => 0x0, 0x0, 0x0, 0x0, 0x0, 0x0, none⟩,
   /- TIU_FIN_STATUS -/ ⟨0x200410, [(0x20, 2)], 1, .one, fun _ => 0x0, 0x0, 0x0, 0x0, 0x0, 0x0, none⟩,
   /- TIU_STAT_CTL -/ ⟨0x200600, [(0x40, 4)], 1, .one, fun _ => 0x0, 0x31f1f, 0x0, 0x0, 0x0, 0x0, none⟩,
   /- TIU_STAT_N -/ ⟨0x200604, [(0x40, 4)], 1, .one, fun _ => 0x3e8, 0xffffffff, 0x0, 0x0, 0x0, 0x0, none⟩,
   /- TIU_STAT_MEAN -/ ⟨0x200608, [(0x40, 4)], 1, .low, fun _ => 0x0, 0x0, 0x0, 0x0, 0x0, 0x0, none⟩,
   /- TIU_STAT_MEAN -/ ⟨0x20060c, [(0x40, 4)], 1, .high, fun _ => 0x0, 0x0, 0x0, 0x0, 0x0, 0x0, none⟩,
   /- TIU_STAT_MIN -/ ⟨0x200610, [(0x40, 4)], 1, .low, fun _ => 0x0, 0x0, 0x0, 0x0, 0x0, 0x0, none⟩,
   /- TIU_STAT_MIN -/ ⟨0x200614, [(0x40, 4)], 1, .high, fun _ => 0x0, 0x0, 0x0, 0x0, 0x0, 0x0, none⟩,
   /- TIU_STAT_MAX -/ ⟨0x200618, [(0x40, 4)], 1, .low, fun _ => 0x0, 0x0, 0x0, 0x0, 0x0, 0x0, none⟩,
   /- TIU_STAT_MAX -/ ⟨0x20061c, [(0x40, 4)], 1, .high, fun _ => 0x0, 0x0, 0x0, 0x0, 0x0, 0x0, none⟩,
   /- TIU_STAT_SD -/ ⟨0x200620, [(0x40, 4)], 1, .one, fun _ => 0x0, 0x0, 0x0, 0x0, 0x0, 0x0, none⟩,
   /- TIU_STAT_STATUS -/ ⟨0x200624, [(0x40, 4)], 1, .one, fun _ => 0x0, 0x0, 0x0, 0x0, 0x0, 0x0, none⟩,
   /- TIU_CDC_TABLE -/ ⟨0x201000, [(0x100, 24), (0x4, 64)], 1, .one, fun _ => 0x400, 0x0, 0x0, 0x0, 0x0, 0x0, none⟩]

/-- Rows of the FCD block. -/
def rowsFcd : List RegRow :=
  [/- FCD_CTL -/ ⟨0x210000, [], 1, .one, fun _ => 0x0, 0xff, 0x0, 0x0, 0x0, 0x0, some 10⟩,
   /- FCD_PIN -/ ⟨0x210004, [], 1, .one, fun _ => 0x1, 0x0, 0x0, 0xffff0000, 0x0, 0x0, none⟩,
   /- FCD_CODE -/ ⟨0x210100, [(0x20, 8)], 1, .one, fun _ => 0x0, 0xffff, 0x0, 0x0, 0x0, 0x0, none⟩,
   /- FCD_CFG -/ ⟨0x210104, [(0x20, 8)], 1, .one, fun _ => 0x1, 0x1, 0x0, 0x0, 0x0, 0x0, some 10⟩,
   /- FCD_CLR -/ ⟨0x210108, [(0x20, 8)], 1, .one, fun _ => 0x0, 0xffffffff, 0x0, 0x0, 0x0, 0x0, some 10⟩,
   /- FCD_STATUS -/ ⟨0x21010c, [(0x20, 8)], 1, .one, fun _ => 0x0, 0x0, 0x200, 0x0, 0x0, 0x0, none⟩,
   /- HK_CTL -/ ⟨0x211000, [], 1, .one, fun _ => 0x0, 0x1, 0x0, 0x0, 0x0, 0x0, none⟩,
   /- HK_TOL -/ ⟨0x211004, [], 1, .one, fun _ => 0x2000040, 0xffffffff, 0x0, 0x0, 0x0, 0x0, none⟩,
   /- HK_STATUS -/ ⟨0x211008, [], 1, .one, fun _ => 0x0, 0x0, 0x6, 0x0, 0x0, 0x0, none⟩,
   /- HK_CH -/ ⟨0x211100, [(0x4, 68)], 1, .one, fun _ => 0x0, 0x7, 0x0, 0x0, 0x0, 0x0, none⟩,
   /- HK_RES_A -/ ⟨0x211400, [(0x4, 68)], 1, .one, fun _ => 0x0, 0x0, 0x0, 0x0, 0x0, 0x0, none⟩,
   /- HK_RES_B -/ ⟨0x211600, [(0x4, 68)], 1, .one, fun _ => 0x0, 0x0, 0x0, 0x0, 0x0, 0x0, none⟩]

/-- Rows of the CAL block. -/
def rowsCal : List RegRow :=
  [/- CAL_CTL -/ ⟨0x220000, [], 1, .one, fun _ => 0xf, 0x3f, 0x0, 0x0, 0x0, 0x0, some 2⟩,
   /- CAL_PASS -/ ⟨0x220004, [], 1, .one, fun _ => 0xa0003e8, 0xff00ffff, 0x0, 0x0, 0x0, 0x0, some 2⟩,
   /- CAL_PLAN -/ ⟨0x220008, [], 1, .one, fun _ => 0x0, 0x7ff, 0x0, 0x0, 0x0, 0x0, some 2⟩,
   /- CAL_TOL -/ ⟨0x22000c, [], 1, .one, fun _ => 0x32032, 0xffffffff, 0x0, 0x0, 0x0, 0x0, some 2⟩,
   /- CAL_STATUS -/ ⟨0x220010, [], 1, .one, fun _ => 0x0, 0x0, 0x0, 0x0, 0x0, 0x0, none⟩,
   /- CAL_GEN -/ ⟨0x220014, [], 1, .one, fun _ => 0x0, 0x0, 0x0, 0x0, 0x0, 0x0, none⟩,
   /- CAL_COMMIT_INDEX -/ ⟨0x220018, [], 1, .low, fun _ => 0x0, 0x0, 0x0, 0x0, 0x0, 0x0, none⟩,
   /- CAL_COMMIT_INDEX -/ ⟨0x22001c, [], 1, .high, fun _ => 0x0, 0x0, 0x0, 0x0, 0x0, 0x0, none⟩,
   /- CAL_STALE -/ ⟨0x220020, [], 1, .one, fun _ => 0xa02d0, 0xffffff, 0x0, 0x0, 0x0, 0x0, some 2⟩,
   /- CAL_SKEW -/ ⟨0x220040, [(0x4, 4)], 1, .one, fun _ => 0x0, 0x0, 0x0, 0x0, 0x0, 0x0, none⟩,
   /- CAL_ST_CTL -/ ⟨0x220100, [], 1, .one, fun _ => 0x0, 0x0, 0x0, 0x0, 0x0, 0x0, some 12⟩,
   /- CAL_ST_ADDR -/ ⟨0x220104, [], 1, .one, fun _ => 0x0, 0xffffffff, 0x0, 0x0, 0x0, 0x0, some 12⟩,
   /- CAL_ST_LEN -/ ⟨0x220108, [], 1, .one, fun _ => 0x0, 0xffffffff, 0x0, 0x0, 0x0, 0x0, some 12⟩,
   /- CAL_ST_SRC -/ ⟨0x220110, [], 1, .low, fun _ => 0x0, 0xffffffff, 0x0, 0x0, 0x0, 0x0, some 12⟩,
   /- CAL_ST_SRC -/ ⟨0x220114, [], 1, .high, fun _ => 0x0, 0xffffffff, 0x0, 0x0, 0x0, 0x0, some 12⟩,
   /- CAL_ST_STATUS -/ ⟨0x220118, [], 1, .one, fun _ => 0x0, 0x0, 0x0, 0x0, 0x0, 0x0, none⟩,
   /- CAL_ST_CRC -/ ⟨0x22011c, [], 1, .one, fun _ => 0x0, 0x0, 0x0, 0x0, 0x0, 0x0, none⟩,
   /- CAL_POINT -/ ⟨0x221000, [(0x8, 1024)], 1, .one, fun _ => 0x0, 0xfdffffff, 0x0, 0x0, 0x0, 0x0, some 2⟩,
   /- CAL_POINT_LVL -/ ⟨0x221004, [(0x8, 1024)], 1, .one, fun _ => 0x0, 0xffff, 0x0, 0x0, 0x0, 0x0, some 2⟩,
   /- CAL_RESULT -/ ⟨0x224000, [(0x2000, 4), (0x8, 1024)], 1, .one, fun _ => 0x0, 0x0, 0x0, 0x0, 0x0, 0x0, none⟩,
   /- CAL_RESULT_INFO -/ ⟨0x224004, [(0x2000, 4), (0x8, 1024)], 1, .one, fun _ => 0x0, 0x0, 0x0, 0x0, 0x0, 0x0, none⟩,
   /- CAL_TABLE -/ ⟨0x22c000, [(0x400, 4), (0x4, 256)], 1, .one, fun _ => 0x0, 0x0, 0x0, 0x0, 0x0, 0x0, none⟩]

/-- Rows of the ENS block. -/
def rowsEns : List RegRow :=
  [/- ENS_CTL -/ ⟨0x230000, [], 1, .one, fun _ => 0x10000000, 0xb20f0300, 0x0, 0x0, 0x0, 0x0, some 4⟩,
   /- ENS_POLICY -/ ⟨0x230004, [], 1, .one, fun _ => 0xfe, 0x3ff, 0x0, 0x0, 0x0, 0x0, some 4⟩,
   /- ENS_LEAD -/ ⟨0x230008, [], 1, .one, fun _ => 0x6400, 0xffffffff, 0x0, 0x0, 0x0, 0x0, some 4⟩,
   /- ENS_STATUS -/ ⟨0x23000c, [], 1, .one, fun _ => 0x0, 0x0, 0x0, 0x0, 0x0, 0x0, none⟩,
   /- ENS_FP -/ ⟨0x230010, [], 6, .one, fun _ => 0x0, 0x0, 0x0, 0x0, 0x0, 0x0, none⟩,
   /- ENS_MEMBERS -/ ⟨0x230030, [], 1, .one, fun _ => 0x0, 0x0, 0x0, 0x0, 0x0, 0x0, none⟩,
   /- ENS_LAGGING -/ ⟨0x230034, [], 1, .one, fun _ => 0x0, 0x0, 0x0, 0x0, 0x0, 0x0, none⟩,
   /- ENS_FP_FIELD -/ ⟨0x230040, [(0x4, 16)], 1, .one, fun _ => 0x0, 0x0, 0x0, 0x0, 0x0, 0x0, none⟩,
   /- ENS_ARM_RGN -/ ⟨0x230100, [], 1, .low, fun _ => 0x0, 0xffffffff, 0x0, 0x0, 0x0, 0x0, some 4⟩,
   /- ENS_ARM_RGN -/ ⟨0x230104, [], 1, .high, fun _ => 0x0, 0xffffffff, 0x0, 0x0, 0x0, 0x0, some 4⟩,
   /- ENS_ARM_COND -/ ⟨0x230108, [], 1, .low, fun _ => 0x0, 0xffffffff, 0x0, 0x0, 0x0, 0x0, some 4⟩,
   /- ENS_ARM_COND -/ ⟨0x23010c, [], 1, .high, fun _ => 0x0, 0xffffffff, 0x0, 0x0, 0x0, 0x0, some 4⟩,
   /- ENS_TOKEN -/ ⟨0x230110, [], 1, .one, fun _ => 0x0, 0x0, 0x0, 0x0, 0x0, 0x0, some 4⟩,
   /- ENS_TOKEN_STATUS -/ ⟨0x230114, [], 1, .one, fun _ => 0x0, 0x0, 0x0, 0x0, 0x0, 0x0, none⟩,
   /- ENS_APPLY -/ ⟨0x230118, [], 1, .low, fun _ => 0x0, 0x0, 0x0, 0x0, 0x0, 0x0, none⟩,
   /- ENS_APPLY -/ ⟨0x23011c, [], 1, .high, fun _ => 0x0, 0x0, 0x0, 0x0, 0x0, 0x0, none⟩,
   /- ENS_SCOPE_RGN -/ ⟨0x230120, [], 1, .low, fun _ => 0x0, 0xffffffff, 0x0, 0x0, 0x0, 0x0, some 4⟩,
   /- ENS_SCOPE_RGN -/ ⟨0x230124, [], 1, .high, fun _ => 0x0, 0xffffffff, 0x0, 0x0, 0x0, 0x0, some 4⟩,
   /- ENS_SCOPE_COND -/ ⟨0x230128, [], 1, .low, fun _ => 0x0, 0xffffffff, 0x0, 0x0, 0x0, 0x0, some 4⟩,
   /- ENS_SCOPE_COND -/ ⟨0x23012c, [], 1, .high, fun _ => 0x0, 0xffffffff, 0x0, 0x0, 0x0, 0x0, some 4⟩,
   /- ENS_SYNC_DLY -/ ⟨0x230130, [], 1, .one, fun _ => 0x0, 0xffffffff, 0x0, 0x0, 0x0, 0x0, some 4⟩,
   /- ENS_TIME_DIFF -/ ⟨0x230134, [], 1, .one, fun _ => 0x0, 0x0, 0x0, 0x0, 0x0, 0x0, none⟩,
   /- ENS_SYNC_NUM -/ ⟨0x230138, [], 1, .one, fun _ => 0x0, 0x0, 0x0, 0x0, 0x0, 0x0, none⟩,
   /- ENS_COUNTS -/ ⟨0x23013c, [], 1, .one, fun _ => 0x0, 0x0, 0x0, 0xffffffff, 0x0, 0x0, none⟩]

/-- Rows of the WEAR block. -/
def rowsWear : List RegRow :=
  [/- WEAR_CTL -/ ⟨0x240000, [], 1, .one, fun _ => 0xf1040, 0xffffff, 0x0, 0x0, 0x0, 0x0, some 5⟩,
   /- WEAR_STATUS -/ ⟨0x240004, [], 1, .one, fun _ => 0x0, 0x0, 0x2000000, 0x0, 0x0, 0x0, none⟩,
   /- WEAR_SPARES -/ ⟨0x240008, [], 1, .one, fun _ => 0x1, 0x0, 0x0, 0x0, 0x0, 0x0, none⟩,
   /- WEAR_TILE_MARK -/ ⟨0x240100, [(0x4, 34)], 1, .one, fun _ => 0x0, 0x0, 0x0, 0x0, 0x0, 0x0, none⟩,
   /- WEAR_TILE_WARN -/ ⟨0x240200, [(0x4, 34)], 1, .one, fun _ => 0x0, 0x0, 0xffffffff, 0x0, 0x0, 0x0, none⟩,
   /- WEAR_KP_MARK -/ ⟨0x240300, [], 3, .one, fun _ => 0x0, 0x0, 0x0, 0x0, 0x0, 0x0, none⟩,
   /- WEAR_LANE_RET -/ ⟨0x240310, [], 1, .low, fun _ => 0x0, 0x0, 0x0, 0x0, 0x0, 0x0, none⟩,
   /- WEAR_LANE_RET -/ ⟨0x240314, [], 1, .high, fun _ => 0x0, 0x0, 0x0, 0x0, 0x0, 0x0, none⟩,
   /- WEAR_STEER_POS -/ ⟨0x240318, [], 1, .low, fun _ => 0x0, 0x0, 0x0, 0x0, 0x0, 0x0, none⟩,
   /- WEAR_STEER_POS -/ ⟨0x24031c, [], 1, .high, fun _ => 0x0, 0x0, 0x0, 0x0, 0x0, 0x0, none⟩,
   /- WEAR_LED_IDX -/ ⟨0x240400, [], 1, .one, fun _ => 0x0, 0xffffffff, 0x0, 0x0, 0x0, 0x0, none⟩,
   /- WEAR_LED_LAST -/ ⟨0x240404, [], 1, .one, fun _ => 0x0, 0x0, 0x0, 0x0, 0x0, 0x0, none⟩,
   /- WEAR_LED_DATA -/ ⟨0x240410, [(0x4, 8)], 1, .one, fun _ => 0x0, 0x0, 0x0, 0x0, 0x0, 0x0, none⟩,
   /- CHK_HEAD -/ ⟨0x248000, [], 1, .one, fun _ => 0x0, 0x0, 0x0, 0x0, 0x0, 0x0, none⟩,
   /- CHK_CORR -/ ⟨0x248004, [], 1, .one, fun _ => 0x0, 0x0, 0x0, 0xffffffff, 0x0, 0x0, none⟩,
   /- CHK_SCRUB -/ ⟨0x248008, [], 1, .one, fun _ => 0x3e80018, 0xffffffff, 0x0, 0x0, 0x0, 0x0, none⟩,
   /- CHK_LOG -/ ⟨0x249000, [(0x20, 256)], 8, .one, fun _ => 0x0, 0x0, 0x0, 0x0, 0x0, 0x0, none⟩]

/-- Rows of the KAL block. -/
def rowsKal : List RegRow :=
  [/- KAL_CTL -/ ⟨0x250000, [(0x100, 2)], 1, .one, fun ix => 0x0 + 0x100 * ix.headD 0, 0x4f971f01, 0x0, 0x0, 0x0, 0x0, none⟩,
   /- KAL_COL -/ ⟨0x250004, [(0x100, 2)], 1, .one, fun _ => 0x0, 0xffff, 0x0, 0x0, 0x0, 0x0, none⟩,
   /- KAL_AMP -/ ⟨0x250008, [(0x100, 2)], 1, .one, fun _ => 0x1f4800, 0x83ffffff, 0x0, 0x0, 0x0, 0x0, none⟩,
   /- KAL_DECAY -/ ⟨0x25000c, [(0x100, 2)], 1, .one, fun _ => 0x4000a, 0x301fffff, 0x0, 0x0, 0x0, 0x0, none⟩,
   /- KAL_STATUS -/ ⟨0x250010, [(0x100, 2)], 1, .one, fun _ => 0x1000000, 0x0, 0xc, 0x0, 0x0, 0x0, none⟩,
   /- KAL_SPECTRA -/ ⟨0x250018, [(0x100, 2)], 1, .low, fun _ => 0x0, 0x0, 0x0, 0x0, 0x0, 0x0, none⟩,
   /- KAL_SPECTRA -/ ⟨0x25001c, [(0x100, 2)], 1, .high, fun _ => 0x0, 0x0, 0x0, 0x0, 0x0, 0x0, none⟩,
   /- KAL_EXCLUDED -/ ⟨0x250020, [(0x100, 2)], 1, .one, fun _ => 0x0, 0x0, 0x0, 0xffffffff, 0x0, 0x0, none⟩,
   /- KAL_SAT -/ ⟨0x250024, [(0x100, 2)], 1, .one, fun _ => 0x0, 0x0, 0x0, 0xffffffff, 0x0, 0x0, none⟩,
   /- KAL_ABOVE -/ ⟨0x250028, [(0x100, 2)], 1, .one, fun _ => 0x0, 0x0, 0x0, 0xffffffff, 0x0, 0x0, none⟩,
   /- KAL_SWEEPS -/ ⟨0x25002c, [(0x100, 2)], 1, .one, fun _ => 0x0, 0x0, 0x0, 0x0, 0x0, 0x0, none⟩,
   /- KAL_LINE_CTL -/ ⟨0x250030, [(0x100, 2)], 1, .one, fun _ => 0x270f, 0xc03fffff, 0x0, 0x0, 0x0, 0x0, none⟩,
   /- KAL_LINE_COUNT -/ ⟨0x250034, [(0x100, 2)], 1, .one, fun _ => 0x0, 0x0, 0x0, 0x0, 0x0, 0x0, none⟩,
   /- KAL_LINE_NEXT -/ ⟨0x250038, [(0x100, 2)], 1, .low, fun _ => 0x0, 0x0, 0x0, 0x0, 0x0, 0x0, none⟩,
   /- KAL_LINE_NEXT -/ ⟨0x25003c, [(0x100, 2)], 1, .high, fun _ => 0x0, 0x0, 0x0, 0x0, 0x0, 0x0, none⟩,
   /- MSK_BIND -/ ⟨0x251000, [(0x10, 64)], 1, .one, fun _ => 0xc0000, 0x801f0703, 0x0, 0x0, 0x0, 0x0, some 7⟩,
   /- MSK_BASE_A -/ ⟨0x251004, [(0x10, 64)], 1, .one, fun _ => 0x0, 0x1fffff, 0x0, 0x0, 0x0, 0x0, some 7⟩,
   /- MSK_BASE_B -/ ⟨0x251008, [(0x10, 64)], 1, .one, fun _ => 0x0, 0x1fffff, 0x0, 0x0, 0x0, 0x0, some 7⟩,
   /- MSK_STATE -/ ⟨0x25100c, [(0x10, 64)], 1, .one, fun _ => 0x0, 0x0, 0x10, 0xff00, 0x0, 0x0, none⟩,
   /- MSK_SWAP -/ ⟨0x251400, [], 1, .one, fun _ => 0x0, 0x0, 0x0, 0x0, 0x0, 0x0, some 7⟩,
   /- MSK_SWAP_INDEX -/ ⟨0x251800, [(0x8, 64)], 1, .low, fun _ => 0x0, 0x0, 0x0, 0x0, 0x0, 0x0, none⟩,
   /- MSK_SWAP_INDEX -/ ⟨0x251804, [(0x8, 64)], 1, .high, fun _ => 0x0, 0x0, 0x0, 0x0, 0x0, 0x0, none⟩,
   /- MSK_IGNORED -/ ⟨0x251c00, [], 1, .one, fun _ => 0x0, 0x0, 0x0, 0xffffffff, 0x0, 0x0, none⟩,
   /- MSK_IGNORED_AT -/ ⟨0x251c04, [], 1, .one, fun _ => 0x0, 0x0, 0x0, 0x0, 0x0, 0x0, none⟩]

/-- Rows of the KP block. -/
def rowsKp : List RegRow :=
  [/- KP_CTL -/ ⟨0x1018000, [(0x20000, 68)], 1, .one, fun _ => 0x0, 0x9, 0x0, 0x0, 0x0, 0x0, some 13⟩,
   /- KP_START -/ ⟨0x1018004, [(0x20000, 68)], 1, .one, fun _ => 0x0, 0x1fff, 0x0, 0x0, 0x0, 0x0, some 13⟩,
   /- KP_STATUS -/ ⟨0x1018008, [(0x20000, 68)], 1, .one, fun ix => 0x200000 * ix.headD 0, 0x0, 0x0, 0xff00, 0x0, 0x0, none⟩,
   /- KP_PC -/ ⟨0x101800c, [(0x20000, 68)], 1, .one, fun _ => 0x0, 0x0, 0x0, 0x0, 0x0, 0x0, none⟩,
   /- KP_FAULT -/ ⟨0x1018010, [(0x20000, 68)], 1, .one, fun _ => 0x0, 0x0, 0x0, 0x0, 0x0, 0x0, none⟩,
   /- KP_WDOG -/ ⟨0x1018014, [(0x20000, 68)], 1, .one, fun _ => 0x0, 0xffffffff, 0x0, 0x0, 0x0, 0x0, some 13⟩,
   /- KP_CYCLES -/ ⟨0x1018018, [(0x20000, 68)], 1, .low, fun _ => 0x0, 0x0, 0x0, 0x0, 0x0, 0x0, none⟩,
   /- KP_CYCLES -/ ⟨0x101801c, [(0x20000, 68)], 1, .high, fun _ => 0x0, 0x0, 0x0, 0x0, 0x0, 0x0, none⟩,
   /- KP_IN_CTL -/ ⟨0x1018020, [(0x20000, 68)], 1, .one, fun _ => 0xff000b, 0x80ff300f, 0x0, 0x0, 0x0, 0x0, some 13⟩,
   /- KP_IN_RING -/ ⟨0x1018024, [(0x20000, 68)], 1, .one, fun _ => 0x0, 0x1fff, 0x0, 0x0, 0x0, 0x0, some 13⟩,
   /- KP_IN_STATUS -/ ⟨0x1018028, [(0x20000, 68)], 1, .one, fun _ => 0x0, 0x0, 0x0, 0xffffffff, 0x0, 0x0, none⟩,
   /- KP_IN_COUNT -/ ⟨0x101802c, [(0x20000, 68)], 1, .one, fun _ => 0x0, 0x0, 0x0, 0x0, 0x0, 0x0, none⟩,
   /- KP_MBOX_IN -/ ⟨0x1018040, [(0x20000, 68), (0x4, 4)], 1, .one, fun _ => 0x0, 0xffffffff, 0x0, 0x0, 0x0, 0x0, none⟩,
   /- KP_MBOX_OUT -/ ⟨0x1018050, [(0x20000, 68), (0x4, 4)], 1, .one, fun _ => 0x0, 0x0, 0x0, 0x0, 0x0, 0x0, none⟩,
   /- KP_MBOX_STATUS -/ ⟨0x1018060, [(0x20000, 68)], 1, .one, fun _ => 0x0, 0x0, 0x2, 0xff00, 0x0, 0x0, none⟩,
   /- KP_ECC -/ ⟨0x1018070, [(0x20000, 68)], 1, .one, fun _ => 0x0, 0x0, 0x0, 0xffffffff, 0x0, 0x0, none⟩]

/-- The rows of the block that an offset lies in (R38). -/
def rowsAt (off : Nat) : List RegRow :=
  if off < 0x10000 then rowsGlb
  else if off < 0x20000 then rowsPwr
  else if off < 0x30000 then rowsSem
  else if off < 0x40000 then rowsEvt
  else if off < 0x80000 then rowsImg
  else if off < 0x100000 then rowsFab
  else if off < 0x110000 then rowsCnv
  else if off < 0x120000 then rowsClk
  else if off < 0x140000 then rowsDdc
  else if off < 0x180000 then rowsXf
  else if off < 0x1a0000 then rowsTrg
  else if off < 0x1c0000 then rowsCap
  else if off < 0x1e0000 then rowsDma
  else if off < 0x1f0000 then rowsStrm
  else if off < 0x200000 then rowsDisp
  else if off < 0x210000 then rowsTiu
  else if off < 0x220000 then rowsFcd
  else if off < 0x230000 then rowsCal
  else if off < 0x240000 then rowsEns
  else if off < 0x250000 then rowsWear
  else if off < 0x260000 then rowsKal
  else if off < 0x2000000 then rowsKp
  else []

/-- The row and indices of a BAR0 offset; none for a reserved address. -/
def findRow (off : Nat) : Option (RegRow × List Nat) := findIn (rowsAt off) off

/-- The word that a write of `v` leaves of the word `old` of a register, by its access codes (R7, R8). -/
def RegRow.merge (r : RegRow) (old v : Nat) : Nat :=
  let keep := old &&& (0xFFFFFFFF ^^^ (r.rw ||| r.w1c ||| r.clr))
  keep ||| (v &&& r.rw) ||| (old &&& r.w1c &&& (0xFFFFFFFF ^^^ v))

/-- A write of `v` at a BAR0 offset that has no effect beyond its register: RW fields take it, SH fields take it into
their shadow, W1C bits and fields cleared by any write clear (R7, R8). -/
def State.plainWrite (s : State) (off v : Nat) : State :=
  match findRow off with
  | none => s
  | some (r, ix) => s.setWord off (r.ini ix) (r.merge (s.word off (r.ini ix)) v)

end Sys2Proof.Machine
end

