-- ==== Sys2Proof/Machine/Fcd.lean ====
section
/-! DEFINITION. Front-end control outputs and housekeeping converters (16_front_end_control.md). -/

namespace Sys2Proof.Machine

namespace State

/-- An FCD output. -/
def fcdOut (s : State) (f : Nat) : FcdOut := s.fcd.outs.get FcdOut.reset f

/-- The state with an FCD output changed. -/
def setFcdOut (s : State) (f : Nat) (x : FcdOut) : State :=
  { s with fcd := { s.fcd with outs := s.fcd.outs.put FcdOut.reset f x } }

/-- Some clear cause of the output holds (R494). -/
def fcdHeld (s : State) (f : Nat) : Bool := bits (s.f (FCD_STATUS.reg f)) 0 5 != 0

/-- The clear code in force: that of the range in force (R494). -/
def fcdClearCode (s : State) (f : Nat) : Nat :=
  if s.flag (FCD_CFG.range f) then s.f (FCD_CLR.clr_18 f) else s.f (FCD_CLR.clr_33 f)

/-- The PWM of the output runs: it is enabled and VHK is there (R496, R497). -/
def fcdRuns (s : State) (f : Nat) : Bool := bit (s.f FCD_CTL.drive_en) f && !s.fcd.vhkLow

/-- What the output shows in a period that starts now (R493, R495, R496 step 3). -/
def fcdTarget (s : State) (f : Nat) : Nat :=
  if s.fcdHeld f || !s.flag (FCD_STATUS.written f) then s.fcdClearCode f else s.f (FCD_CODE.code f)

/-- Which periods from `i` on, `n` of them, are one cycle longer, when `k` of them must be (R492); bit `i` of `pref`
prefers period i. -/
def fcdLongAt (pref : Nat) : Nat → Nat → Nat → Nat → Bool
  | 0, _, _, _ => false
  | n + 1, k, i, place =>
    let long := decide (k = n + 1) || (decide (0 < k) && bit pref i)
    if i = place then long else fcdLongAt pref n (if long then k - 1 else k) (i + 1) place

/-- A PWM period starts that shows `code` (R492). -/
def fcdPeriod (s : State) (f code : Nat) : State :=
  let x := s.fcdOut f
  let new := s.f (FCD_STATUS.shown f) != code
  let place := if new then 0 else (x.place + 1) % 16
  let high := code / 16 + b2n (fcdLongAt (Config.fcdLong code) 16 (code % 16) 0 place)
  let s := s.set (FCD_STATUS.shown f) code
  s.setFcdOut f { x with place := place, high := high, dirty := false,
                         changed := if new || x.dirty then s.time.clk + 1 else x.changed }

/-- A clear cause starts: a new period begins at once at the clear code where the PWM runs (R494, R495). -/
def fcdCause (s : State) (f : Nat) (cause : Loc) : State :=
  let s := s.set cause 1
  if s.fcdRuns f then (s.setFcdOut f { s.fcdOut f with dirty := true }).fcdPeriod f (s.fcdClearCode f) else s

/-- A clear cause ends: the next period boundary shows it (R495). -/
def fcdCauseEnd (s : State) (f : Nat) (cause : Loc) : State :=
  (s.set cause 0).setFcdOut f { s.fcdOut f with dirty := true }

/-- A clear cause starts on the outputs of a list. -/
def fcdCauses (s : State) (cause : Nat → Loc) : List Nat → State
  | [] => s
  | f :: fs => (s.fcdCause f (cause f)).fcdCauses cause fs

/-- A clear cause ends on the outputs of a list. -/
def fcdCausesEnd (s : State) (cause : Nat → Loc) : List Nat → State
  | [] => s
  | f :: fs => (s.fcdCauseEnd f (cause f)).fcdCausesEnd cause fs

/-- Protection of converter `n` holds the outputs of a list (R192, R494). -/
def fcdProt (s : State) (n : Nat) : List Nat → State
  | [] => s
  | f :: fs =>
    let s := s.setFcdOut f { s.fcdOut f with prot := setBit (s.fcdOut f).prot n }
    (s.fcdCause f (FCD_STATUS.c_prot f)).fcdProt n fs

/-- Protection of converter `n` lets go of the outputs of a list; one held by another converter as well stays (R193). -/
def fcdProtEnd (s : State) (n : Nat) : List Nat → State
  | [] => s
  | f :: fs =>
    let m := clearBit (s.fcdOut f).prot n
    if bit (s.fcdOut f).prot n then
      let s := s.setFcdOut f { s.fcdOut f with prot := m }
      (if m = 0 then s.fcdCauseEnd f (FCD_STATUS.c_prot f) else s).fcdProtEnd n fs
    else s.fcdProtEnd n fs

/-- The CLRDAC_N cause starts on every output: counted, event 104 (R494, R625). -/
def clrdacStart (s : State) : State :=
  ((s.bump FCD_PIN.clr_count).raise 104).fcdCauses FCD_STATUS.c_clrdac (List.range 8)

/-- The fast control forces the outputs of a mask and releases the others (R82, R85). -/
def fcdMirror (s : State) (m : Nat) : State :=
  let s := s.fcdCauses FCD_STATUS.c_mirror ((bitList 8 m).filter fun f => !s.flag (FCD_STATUS.c_mirror f))
  s.fcdCausesEnd FCD_STATUS.c_mirror
    ((List.range 8).filter fun f => !bit m f && s.flag (FCD_STATUS.c_mirror f))

/-- R496 step 1 on an output: the PWM starts at the clear code, the buffer still high-impedance. -/
def fcdStart (s : State) (f : Nat) : State := (s.set (FCD_STATUS.driving f) 0).fcdCause f (FCD_STATUS.c_pre f)

/-- R496 step 1 on the outputs of a list. -/
def fcdStarts (s : State) : List Nat → State
  | [] => s
  | f :: fs => (s.fcdStart f).fcdStarts fs

/-- The outputs of a list return to high impedance (R497). -/
def fcdStops (s : State) : List Nat → State
  | [] => s
  | f :: fs => ((s.set (FCD_STATUS.driving f) 0).set (FCD_STATUS.c_pre f) 0).fcdStops fs

/-- A write to FCD_CTL: bits that rise start their outputs, bits that fall stop theirs (R496, R497). -/
def fcdCtlWrite (s : State) (v : Nat) : State :=
  let old := s.f FCD_CTL.drive_en
  let s := s.plainWrite FCD_CTL.reg.addr v
  let s := s.fcdStops ((List.range 8).filter fun f => bit old f && !bit v f)
  if s.fcd.vhkLow then s else s.fcdStarts ((List.range 8).filter fun f => !bit old f && bit v f)

/-- VHK falls below its minimum: every output goes high-impedance, event 106 (R497). -/
def vhkFall (s : State) : State :=
  if s.fcd.vhkLow then s
  else ({ s with fcd := { s.fcd with vhkLow := true } }.fcdStops (List.range 8)).raise 106

/-- A write to FCD_CODE (R493). -/
def fcdCodeWrite (s : State) (f v : Nat) : State :=
  ((s.set (FCD_CODE.code f) v).set (FCD_STATUS.written f) 1).setFcdOut f { s.fcdOut f with dirty := true }

/-- A write to FCD_CFG: a range that changes starts the range-change cause and the switch (R498). -/
def fcdRangeWrite (s : State) (f range : Nat) : State :=
  if s.f (FCD_CFG.range f) = range then s
  else
    let s := (s.set (FCD_CFG.range f) range).set (FCD_STATUS.switching f) 1
    (s.setFcdOut f { s.fcdOut f with settled := false }).fcdCause f (FCD_STATUS.c_range f)

/-- A change of FCD_CLR applies at the next period boundary (R495). -/
def fcdClrWrite (s : State) (f v : Nat) : State :=
  (s.plainWrite (FCD_CLR.reg f).addr v).setFcdOut f { s.fcdOut f with dirty := true }

/-! ### Housekeeping (R500 to R502) -/

/-- The channels of a scan that starts now (R501). -/
def hkChannels (s : State) : HkScan :=
  let cs := List.range 68
  { shared := cs.filter fun c => s.flag (HK_CH.shared c)
    onlyA := cs.filter fun c => !s.flag (HK_CH.shared c) && s.flag (HK_CH.en_a c)
    onlyB := cs.filter fun c => !s.flag (HK_CH.shared c) && s.flag (HK_CH.en_b c)
    tolFcd := s.f HK_TOL.fcd, tolAb := s.f HK_TOL.ab }

/-- A write to HK_CTL: start, stop and cont (R501). -/
def hkCtlWrite (s : State) (v : Nat) : State :=
  let s := s.set HK_CTL.cont (bits v 0 1)
  let s := if bit v 30 && s.fcd.scan.isSome then { s with fcd := { s.fcd with stopAsked := true } } else s
  if bit v 31 then
    if s.fcd.scan.isSome then s.set HK_STATUS.overrun 1
    else { s with fcd := { s.fcd with scan := some s.hkChannels, stopAsked := false } }.set HK_STATUS.running 1
  else s

/-- A result of a converter is stored: an input beyond the full scale gives the end of it and sets over (R500). -/
def hkStore (s : State) (r : Loc) (x : Int) : State :=
  let code := if x < 0 then 0 else if 65535 < x then 65535 else x.toNat
  s.set r (code + 2 ^ 16 + 2 ^ 17 * b2n (decide (x < 0 ∨ 65535 < x)) + 2 ^ 24 * (s.f HK_STATUS.scans % 256))

/-- The code expected of an FCD read-back, rounded: the shown code times the range over 3.6 V (R499). -/
def fcdExpect (s : State) (f : Nat) : Nat :=
  let c := s.f (FCD_STATUS.shown f)
  if s.flag (FCD_CFG.range f) then roundEvenNat c 2 else roundEvenNat (11 * c) 12

/-- The read-back check after a conversion of channel 16 + f (R499). -/
def fcdReadback (s : State) (f code tol : Nat) : State :=
  let still := decide ((s.fcdOut f).changed = 0 ∨ (s.fcdOut f).changed - 1 + usTicks 60 ≤ s.time.clk)
  let e := s.fcdExpect f
  if s.flag (FCD_STATUS.driving f) && still && !bit s.fcd.mismatched (16 + f) &&
      decide (tol < (code - e) + (e - code)) then
    (s.set (FCD_STATUS.readback_fault f) 1).raise (96 + f)
  else s

/-- The read-back check of a result, where its channel is one of an FCD output. -/
def hkReadback (s : State) (c : Nat) (r : Loc) (tol : Nat) : State :=
  if 16 ≤ c ∧ c < 24 then s.fcdReadback (c - 16) (bits (s.f r) 0 16) tol else s

/-- A shared channel has been converted by both: the cross-check of R502, then the read-back. -/
def hkShared (s : State) (c tolAb tolFcd : Nat) : State :=
  let a := s.f (HK_RES_A.code c)
  let b := bits (s.f (HK_RES_B.reg c)) 0 16
  let s := if tolAb < (a - b) + (b - a) then
      let s := { s with fcd := { s.fcd with mismatched := setBit s.fcd.mismatched c } }
      ((s.set HK_STATUS.mismatch 1).set HK_STATUS.mm_chan c).raise 109
    else { s with fcd := { s.fcd with mismatched := clearBit s.fcd.mismatched c } }
  (s.hkReadback c (HK_RES_A.reg c) tolFcd).hkReadback c (HK_RES_B.reg c) tolFcd

end State

/-! ### Meanings -/

/-- FCD_CODE_WRITE (R493). -/
def execFcdCodeWrite (p : Port) (f : Fin 8) (v : Word) (s : State) : Res :=
  .next (s.hubWrite p (FCD_CODE.reg f).addr none fun s => s.fcdCodeWrite f v.toNat)

/-- FCD_PWM_PERIOD (R493, R495, R496 step 3, R498): a period boundary of output `f`. -/
def execFcdPwmPeriod (f : Fin 8) (s : State) : Res :=
  if !s.up .conv then .next s
  else
    let x := s.fcdOut f
    let s := if x.settled then
        (s.setFcdOut f { x with settled := false }).fcdCauseEnd f (FCD_STATUS.c_range f) else s
    .next (if s.fcdRuns f then s.fcdPeriod f (s.fcdTarget f) else s)

/-- CLRDAC_FALL (R494, R625): the glitch filter confirms a low level. -/
def execClrdacFall (s : State) : Res :=
  if s.fcd.clrdacLow then .next s
  else
    let s := { s with fcd := { s.fcd with clrdacLow := true } }
    .next (if s.up .conv then (s.set FCD_PIN.clrdac_n 0).clrdacStart else s)

/-- CLRDAC_RELEASE (R494): the pin has been high for 1 us. -/
def execClrdacRelease (s : State) : Res :=
  if !s.fcd.clrdacLow then .next s
  else
    let s := { s with fcd := { s.fcd with clrdacLow := false } }
    .next (if s.up .conv then (s.set FCD_PIN.clrdac_n 1).fcdCausesEnd FCD_STATUS.c_clrdac (List.range 8) else s)

/-- FCD_DRIVE_ENABLE (R496): a write of FCD_CTL that sets drive_en bit `f`. -/
def execFcdDriveEnable (p : Port) (f : Fin 8) (s : State) : Res :=
  .next (s.hubWrite p FCD_CTL.reg.addr (some 10) fun s => s.fcdCtlWrite (setBit (s.f FCD_CTL.drive_en) f))

/-- FCD_PREDRIVE_DONE (R496 step 2): the filter has settled and the buffer enables at the clear code. -/
def execFcdPredriveDone (f : Fin 8) (s : State) : Res :=
  if s.flag (FCD_STATUS.c_pre f) && s.fcdRuns f then
    .next (((s.set (FCD_STATUS.driving f) 1).fcdCauseEnd f (FCD_STATUS.c_pre f)).raise 105)
  else .next s

/-- FCD_DRIVE_DISABLE (R497): a write of FCD_CTL that clears drive_en bit `f`. -/
def execFcdDriveDisable (p : Port) (f : Fin 8) (s : State) : Res :=
  .next (s.hubWrite p FCD_CTL.reg.addr (some 10) fun s => s.fcdCtlWrite (clearBit (s.f FCD_CTL.drive_en) f))

/-- VHK_RETURN (R497): each output whose drive_en bit is set runs R496 from step 1. -/
def execVhkReturn (s : State) : Res :=
  if !s.fcd.vhkLow then .next s
  else
    let s := { s with fcd := { s.fcd with vhkLow := false } }
    .next (s.fcdStarts (bitList 8 (s.f FCD_CTL.drive_en)))

/-- FCD_RANGE_WRITE (R498). -/
def execFcdRangeWrite (p : Port) (f : Fin 8) (range : Fin 2) (s : State) : Res :=
  .next (s.hubWrite p (FCD_CFG.reg f).addr (some 10) fun s => s.fcdRangeWrite f range)

/-- FCD_RANGE_SETTLED (R498 step 2): the switch has settled. -/
def execFcdRangeSettled (f : Fin 8) (s : State) : Res :=
  if s.flag (FCD_STATUS.switching f) then
    let s := s.set (FCD_STATUS.switching f) 0
    .next ((s.setFcdOut f { s.fcdOut f with settled := true }).raise 107)
  else .next s

/-- HK_START (R501): a write of HK_CTL with start set. -/
def execHkStart (p : Port) (v : Word) (s : State) : Res :=
  .next (s.hubWrite p HK_CTL.reg.addr none fun s => s.hkCtlWrite (v.toNat ||| 2 ^ 31))

/-- HK_STOP (R501): a write of HK_CTL with stop set. -/
def execHkStop (p : Port) (v : Word) (s : State) : Res :=
  .next (s.hubWrite p HK_CTL.reg.addr none fun s => s.hkCtlWrite (v.toNat ||| 2 ^ 30))

/-- HK_CONVERSION (R499 to R502): the conversions of one microsecond complete: a shared channel by both converters, else
the next channel of each. `a` and `b` are what HKA and HKB find, on the scale of a code and beyond it. -/
def execHkConversion (a b : Int) (s : State) : Res :=
  match s.fcd.scan with
  | none => .next s
  | some x =>
    match x.shared with
    | c :: cs =>
      let s := { s with fcd := { s.fcd with scan := some { x with shared := cs } } }
      .next (((s.hkStore (HK_RES_A.reg c) a).hkStore (HK_RES_B.reg c) b).hkShared c x.tolAb x.tolFcd)
    | [] =>
      let s := { s with fcd := { s.fcd with scan := some { x with onlyA := x.onlyA.drop 1, onlyB := x.onlyB.drop 1 } } }
      let s := match x.onlyA with
        | [] => s
        | c :: _ => (s.hkStore (HK_RES_A.reg c) a).hkReadback c (HK_RES_A.reg c) x.tolFcd
      .next (match x.onlyB with
        | [] => s
        | c :: _ => (s.hkStore (HK_RES_B.reg c) b).hkReadback c (HK_RES_B.reg c) x.tolFcd)

/-- HK_SCAN_DONE (R501): both converters are done; a continuous scan starts anew unless a stop was asked for. -/
def execHkScanDone (s : State) : Res :=
  match s.fcd.scan with
  | none => .next s
  | some x =>
    if x.shared.isEmpty && x.onlyA.isEmpty && x.onlyB.isEmpty then
      let again := s.flag HK_CTL.cont && !s.fcd.stopAsked
      let s := { s with fcd := { s.fcd with scan := if again then some s.hkChannels else none, stopAsked := false } }
      .next (((s.addWrap HK_STATUS.scans 1).set HK_STATUS.running (b2n again)).raise 108)
    else .next s

end Sys2Proof.Machine
end

