-- ==== Sys2Proof/Machine/Conv.lean ====
section
/-! DEFINITION. RF converters and the carousel calibration (05_converters.md), and the crossing of blocks from the
converter die to the fabric (R136). -/

namespace Sys2Proof.Machine

/-- Values of `w` bits side by side, the first lowest. -/
def packBits (w : Nat) : List Nat → Nat
  | [] => 0
  | x :: xs => x % 2 ^ w + 2 ^ w * packBits w xs

/-- `n` values of `w` bits out of a bit string. -/
def unpackBits (w : Nat) : Nat → Nat → List Nat
  | 0, _ => []
  | n + 1, v => v % 2 ^ w :: unpackBits w n (v / 2 ^ w)

/-- The trimmed value of a slice's raw value under its offset and gain trims, in sixteenths of a code and in 0.005 %
(R172, R201; the order and the rounding are DESIGN CHOICE, log entry 76). -/
def trimOne (t : Int × Int) (x : Int) : Int := roundEven ((16 * x + t.1) * (20000 + t.2)) 320000

/-- The trimmed values of samples that the slices of a cycle of trims take in turn (R170, R172, R175); `cur` is what is
left of the cycle. -/
def trimAll (cycle : List (Int × Int)) : List (Int × Int) → List Int → List Int
  | _, [] => []
  | t :: cur, x :: xs => trimOne t x :: trimAll cycle cur xs
  | [], x :: xs =>
    match cycle with
    | [] => x :: trimAll cycle [] xs
    | t :: cur => trimOne t x :: trimAll cycle cur xs

/-- A trimmed value within the code range (R190). -/
def clip12 (x : Int) : Int := if x < -2048 then -2048 else if 2047 < x then 2047 else x

/-- The 13-bit packed words of trimmed sample values: the code, clipped to its range, and OVR for a clipped sample and
for the `span` samples after it (R190). `left` is the recovery span still open; the second result is what stays open. -/
def packSamples (span : Nat) : Nat → List Int → List Nat × Nat
  | left, [] => ([], left)
  | left, x :: xs =>
    let clipped := decide (x < -2048 ∨ 2047 < x)
    let code := unsigned 12 (clip12 x)
    let ovr := clipped || decide (0 < left)
    let r := packSamples span (if clipped then span else left - 1) xs
    ((code + 4096 * b2n ovr) :: r.1, r.2)

/-- Clipped samples of the overrange episode in progress after samples of a block, by the recovery span still open and those
counted before (R190 to R192). -/
def clipCount (span : Nat) : Nat → Nat → List Int → Nat
  | _, k, [] => k
  | left, k, x :: xs =>
    if clip12 x ≠ x then clipCount span span (if left = 0 then 1 else k + 1) xs else clipCount span (left - 1) k xs

/-- The 16-bit container of a packed word (R178). -/
def container (w : Nat) : Nat := 16 * (w % 4096) + 8 * (w / 4096 % 2)

namespace State

/-- A converter. -/
def conv (s : State) (n : Nat) : CnvSt := s.cnv.get CnvSt.reset n

/-- The state with a converter changed. -/
def setConv (s : State) (n : Nat) (x : CnvSt) : State := { s with cnv := s.cnv.put CnvSt.reset n x }

/-- The down-converter of a path. -/
def ddcOf (s : State) (p : Nat) : DdcSt := s.ddc.get DdcSt.reset p

/-- The state with a down-converter changed. -/
def setDdc (s : State) (p : Nat) (x : DdcSt) : State := { s with ddc := s.ddc.put DdcSt.reset p x }

/-- Converter `n` delivers blocks: it samples, and it is not the upper one of a WIDE pair (R177, R200). -/
def delivers (s : State) (n : Nat) : Bool := s.f (CNV_STATUS.state n) == 2 && s.f (CNV_STATUS.route n) != 2

/-- A step point of the main down-converter at the path's next block (R251). -/
def ddcStep (s : State) (p : Nat) : State :=
  s.setDdc p { s.ddcOf p with steps := (s.ddcOf p).steps ++ [s.f (GLB_SEQ.reg p)] }

/-! ### The carousel (R179 to R189) -/

/-- The rotation is held: CNV_CAR_CTL.hold during SERVICE (R184). -/
def carHold (s : State) (n : Nat) : Bool := s.flag (CNV_CAR_CTL.hold_ n) && s.mode n == 8

/-- The slice that holds a position (R170). -/
def occupant (s : State) (n k : Nat) : Option Nat :=
  (List.range 18).find? fun x => x != s.f (CNV_STATUS.incoming n) && s.f (CNV_SLICE.position n x) == k &&
    (s.f (CNV_SLICE.state n x) == 0 || s.f (CNV_SLICE.state n x) == 3)

/-- The reserve slice, while it is available. -/
def reserveSlice (s : State) (n : Nat) : Option Nat := (List.range 18).find? fun x => s.f (CNV_SLICE.state n x) == 2

/-- The trims of the slices that take a converter's samples, by position (R170). -/
def posTrims (s : State) (n : Nat) : List (Int × Int) :=
  (List.range 16).map fun k =>
    match s.occupant n k with
    | some x => (signed 10 (s.f (CNV_TRIM.offset n x)), signed 10 (s.f (CNV_TRIM.gain n x)))
    | none => (0, 0)

/-- The trims that the samples of an input go through in turn, from one whose index is a multiple of 32: in WIDE the two
converters take turns (R170, R175). -/
def trimCycle (s : State) (n : Nat) : List (Int × Int) :=
  if s.f (CNV_STATUS.route n) = 1 then
    ((s.posTrims n).zip (s.posTrims (n + 1))).flatMap fun e => [e.1, e.2]
  else s.posTrims n

/-- The trimmed values of samples of an input, the first with an extended index (R172). -/
def trimmed (s : State) (n first : Nat) (xs : List Int) : List Int :=
  let c := s.trimCycle n
  trimAll c (c.drop (first % c.length)) xs

/-- Ticks that a dwell of 2^k slice samples lasts, four times that at the first stop of a reserve (R179, R186). -/
def dwell (s : State) (n k : Nat) : Nat :=
  (if (s.conv n).firstReserve then 4 else 1) * 2 ^ k * 16 * 2560000000 * 2 ^ 24 / max 1 s.fs24

/-- Fast reconvergence starts on a converter whose rotation has not stopped for good; one that does not sample starts it
when it samples again (R182; the wait is a DESIGN CHOICE, log entry 27), and one whose rotation stands still for want of lock
after relock (R183). -/
def reconverge (s : State) (n : Nat) : State :=
  if s.flag (CNV_STATUS.frozen n) then s
  else if s.f (CNV_STATUS.state n) ≠ 2 then s.setConv n { s.conv n with recWait := true }
  else if (s.conv n).carHeld && s.flag (CNV_STATUS.clk_invalid n) then s.setConv n { s.conv n with clkRec := true }
  else (s.set (CNV_STATUS.settling n) 1).setConv n
    { s.conv n with recStops := 34, recWait := false, carHeld := false, stopDue := s.time.clk + s.dwell n 18 }

/-- Fast reconvergence starts on the converters of a list. -/
def reconvergeAll (s : State) : List Nat → State
  | [] => s
  | n :: ns => (s.reconverge n).reconvergeAll ns

/-- The dwell of the next stop, as a power of two: that of reconvergence, else the set one within its limits (R179, R182, R201). -/
def dwellLog (s : State) (n : Nat) : Nat :=
  if 1 < (s.conv n).recStops then 18 else max 16 (min 24 (s.f (CNV_CAR_CTL.dwell_log2 n)))

/-- A stop has been made, and the next one begins. -/
def recStop (s : State) (n : Nat) : State :=
  s.setConv n { s.conv n with recStops := (s.conv n).recStops - 1, carStopped := s.carHold n,
                              stopDue := s.time.clk + s.dwell n (s.dwellLog n) }

/-- A slice is marked in the ledger and event 900 is raised (R186, R543). -/
def sliceMark (s : State) (n x : Nat) : State := s.marked 0x04 Config.ledgerSliceCause (18 * n + x) Config.ledgerSliceDetail

/-- The change of a slice for its reserve is recorded in the wear ledger (R186). -/
def sliceChange (s : State) (n x : Nat) : State := s.ledgerAdd 0x04 Config.ledgerSliceCause (18 * n + x) Config.ledgerSliceDetail

/-- The handover of a stop: the carousel slice takes the position, and its occupant begins the next stop (R179). -/
def carTake (s : State) (n : Nat) : State :=
  let c := s.f (CNV_STATUS.incoming n)
  let k := s.f (CNV_STATUS.stop_pos n)
  let o := (s.occupant n k).getD c
  let s := s.set (CNV_SLICE.position n c) k
  let s := if s.f (CNV_SLICE.state n c) = 3 then s else s.set (CNV_SLICE.state n c) 0
  let s := if s.f (CNV_SLICE.state n o) = 3 then s else s.set (CNV_SLICE.state n o) 1
  let s := if (s.conv n).firstReserve then
      ((s.set (CNV_STATUS.reserve_used n) 1).raise (84 + n)).setConv n { s.conv n with firstReserve := false }
    else s
  ((s.set (CNV_STATUS.incoming n) o).set (CNV_STATUS.stop_pos n) ((k + 1) % 16)).addWrap (CNV_CAR_STATUS.stops n) 1

/-- The reserve replaces the carousel slice at a stop's handover: it starts its first stop at the same position (R186,
R189). `st` is what becomes of the slice replaced. -/
def carReplace (s : State) (n r st : Nat) : State :=
  let c := s.f (CNV_STATUS.incoming n)
  let s := ((s.set (CNV_SLICE.state n c) st).set (CNV_SLICE.state n r) 1).set (CNV_STATUS.incoming n) r
  let s := s.setConv n { s.conv n with firstReserve := true }
  let s := (s.addWrap (CNV_CAR_STATUS.stops n) 1).raise (80 + n)
  let s := s.set WEAR_SPARES.reserve (clearBit (s.f WEAR_SPARES.reserve) n)
  let s := if bit (s.conv n).wornKept c then s else s.sliceMark n c
  let s := { s with wear := { s.wear with sliceOut := s.wear.sliceOut.put 0 n (c + 1) } }
  (s.sliceChange n c).sparesLow 0

/-- A worn slice stays in the rotation as WORN_KEPT (R187, R188): event 80 + n and its mark, once. -/
def carWornKept (s : State) (n : Nat) : State :=
  let c := s.f (CNV_STATUS.incoming n)
  if bit (s.conv n).wornKept c then s
  else
    let s := s.setConv n { s.conv n with wornKept := setBit (s.conv n).wornKept c }
    ((s.set (CNV_SLICE.state n c) 3).raise (80 + n)).sliceMark n c

/-- A trim's part of its range, in 1/512 (R201). -/
def trimPart (s : State) (l : Loc) : Nat := (signed 10 (s.f l)).natAbs

/-- The largest part of its range that a trim of a slice uses, in 1/512 (R185, R201). -/
def trimUse (s : State) (n c : Nat) : Nat :=
  max (s.trimPart (CNV_TRIM.offset n c)) (max (s.trimPart (CNV_TRIM.gain n c)) (s.trimPart (CNV_TRIM.timing n c)))

/-- The estimator's judgement of a slice (R185, R189): `residual` is in thousandths of its limit, `stuck` a constant code
for the whole dwell. -/
def judge (s : State) (n c residual : Nat) (stuck : Bool) : SliceVerdict :=
  if stuck ∨ 10000 < residual then .failed
  else if 9 * 512 < 10 * s.trimUse n c ∨ 3 ≤ (s.conv n).overLimit.get 0 c then .worn
  else .good

/-- The end of a stop, by what the estimator found of the carousel slice (R185 to R189). A rotation that stops for good ends
the settling of a reconvergence that runs (DESIGN CHOICE, log entry 27). -/
def carEnd (s : State) (n : Nat) (v : SliceVerdict) : State :=
  match v, s.reserveSlice n with
  | .good, _ => s.carTake n
  | .worn, some r => if s.flag (CNV_CAR_CTL.live_spare n) then s.carReplace n r 4 else (s.carWornKept n).carTake n
  | .worn, none => (s.carWornKept n).carTake n
  | .failed, some r => s.carReplace n r 5
  | .failed, none =>
    let s := s.set (CNV_SLICE.state n (s.f (CNV_STATUS.incoming n))) 5
    (((s.set (CNV_STATUS.frozen n) 1).set (CNV_STATUS.settling n) 0).raise (88 + n)).sliceMark n (s.f (CNV_STATUS.incoming n))

/-- A write to CNV_CAR_CTL (R182, R184). -/
def carCtlWrite (s : State) (n v : Nat) : State :=
  let s := s.plainWrite (CNV_CAR_CTL.reg n).addr v
  let s := if bit v 9 then s else s.setConv n { s.conv n with carStopped := false }
  if bit v 10 then s.reconverge n else s

/-! ### CLK_INVALID (R211, R218) -/

/-- CLK_INVALID ends for an input, and fast reconvergence follows where the clock was lost (R211 step 6, R221). -/
def clkEnd (s : State) (n : Nat) : State :=
  let rec_ := (s.conv n).clkRec
  let s := s.set (CNV_STATUS.clk_invalid n) 0
  let s := s.setConv n { s.conv n with clkLeft := none, clkSync := 0, clkRec := false }
  let s := if n = 0 then s.set SPLL_LOCK_INDEX.reg (s.f (GLB_SEQ.reg 0)) else s
  let s := s.endGaps n (2 ^ rCLK)
  if rec_ then s.reconverge n else s

/-- A block of converter `n` has been delivered: it was the last to carry CLK_INVALID, or one more of those counted (R211
step 6, R218). -/
def clkBlockDone (s : State) (n : Nat) : State :=
  let x := { s.conv n with clkSync := (s.conv n).clkSync - 1 }
  match x.clkLeft with
  | none => s.setConv n x
  | some k => if 1 < k then s.setConv n { x with clkLeft := some (k - 1) } else s.clkEnd n

/-- The converters that take the samples of a block of converter `n`: in WIDE both of the pair (R175, R177). -/
def blockConvs (s : State) (n : Nat) : List Nat := if s.f (CNV_STATUS.route n) = 1 then [n, n + 1] else [n]

/-- The gap of scope INVALID over a block that carries CLK_INVALID opens or grows (R156, R221). -/
def clkGap (s : State) (n : Nat) (x : Parcel) : State :=
  if (s.path n).gaps.any fun g => bit g.growing rCLK then s.growGaps n (2 ^ rCLK) (x.seq + 1024)
  else s.openGap n { first := x.seq, stop := x.seq + 1024, growing := 2 ^ rCLK, tick := x.tick, phase := x.phase,
                     scope := 2, reasons := 2 ^ rCLK, stream := 255 }

/-! ### Calibration, as far as blocks bear on it (R512, R515, R626) -/

/-- A calibration run ends with a code: the selectors go back to their recorded values (R514 step 7, R516). -/
def calEnd (s : State) (code event : Nat) : State :=
  match s.cal.run with
  | none => s
  | some r =>
    let s := (bitList 4 r.inMask).foldl (fun s n => s.set (CNV_CTL.input_sel n) (r.sels.getD n 0)) s
    let s := (s.set CAL_STATUS.state 0).set CAL_STATUS.code code
    { s with cal := { s.cal with run := none } }.raise event

/-- A selected input's block carries OVR (R515). -/
def calOvr (s : State) (n : Nat) : State :=
  match s.cal.run with
  | none => s
  | some r => if bit r.inMask n then s.calEnd 2 885 else s

/-- A block of a selected input that carries CLK_INVALID or CAL_SETTLING spoils the pass it lies in (R516). -/
def calSpoil (s : State) (n flags : Nat) : State :=
  match s.cal.run with
  | none => s
  | some r =>
    if bit r.inMask n && (bit flags flagCLK || bit flags flagCAL) then
      { s with cal := { s.cal with run := some { r with spoilt := true } } }
    else s

/-- The set in force is stale for an input (R511), by the conditions last evaluated and Fs as it is. -/
def calStale (s : State) (n : Nat) : Bool :=
  bit s.cal.hot n || bit s.cal.aged n || (s.cal.inForce.inputs.getD n InputSet.zero).fs24 != s.fs24

/-- CAL_STATUS.stale of an input follows the conditions, with event 887 at a change (R512). -/
def calStaleShow (s : State) (n : Nat) : State :=
  let now := s.calStale n
  let was := s.f CAL_STATUS.stale
  if now = bit was n ∨ !s.pathPresent n then s
  else (s.set CAL_STATUS.stale (if now then setBit was n else clearBit was n)).raise 887

/-! ### Blocks (R177, R136) -/

/-- The marker position in a block that starts at a stamp, where the marked sample lies in it (R83, R132). -/
def markerPos (s : State) (n : Nat) (at_ stamp : Stamp) : Option Nat :=
  let a := 64 * at_.tick + at_.phase
  let b := 64 * stamp.tick + stamp.phase
  let d := 64 * 2560000000 * 2 ^ 24
  let k := ((b - a) * s.pathFs24 n + d - 1) / d
  if k < 1024 then some k else none

/-- The flags that the converter die and the units behind it set on a block (R131): those of its converters, in WIDE of
both of the pair (R176). -/
def blockFlags (s : State) (n : Nat) (ovr : Bool) : Nat :=
  let x := s.conv n
  let ns := s.blockConvs n
  b2n ovr * 2 ^ flagOVR + b2n (ns.any fun m => s.flag (CNV_STATUS.clk_invalid m)) * 2 ^ flagCLK +
    b2n (ns.any fun m => decide (0 < (s.conv m).unsettled)) * 2 ^ flagUNSETTLED +
    b2n x.resumed * 2 ^ flagGAP + b2n (ns.any fun m => s.flag (CNV_STATUS.settling m)) * 2 ^ flagCAL +
    (if s.f (GLB_SEQ.reg n) = 0 then b2n (bit (s.f CAL_STATUS.stale) n) else b2n x.stale) * 2 ^ flagSTALE +
    s.f UPLL_STATUS.holdover * 2 ^ flagTIME

/-- An input's converter is gated: a recovery span and an overrange episode pass, and CLK_INVALID ends where the clock is
there again (R190, R191, R200, R211 step 6). -/
def convGate (s : State) (n : Nat) : State :=
  let s := s.setConv n { s.conv n with recovery := 0, lockWait := false }
  if s.f (CNV_STATUS.state n) ≠ 2 then s
  else
    let s := (s.set (CNV_STATUS.state n) 1).set (CNV_STATUS.ovr_now n) 0
    if (s.conv n).clkLeft.isSome then s.clkEnd n else s

/-- The time of a sample of an input after the correction by the skew in force, whose unit is 0.1 ps (R130, R508, R509):
the skew of an input that lags is positive and is taken from its stamps (DEDUCED, log entry 76). -/
def skewed (s : State) (n : Nat) (at_ : Stamp) : Stamp :=
  let d := roundEven (16384 * (s.cal.inForce.inputs.getD n InputSet.zero).skew) 1000000
  let b := ((64 * at_.tick + at_.phase : Nat) - d).toNat
  { tick := b / 64, phase := b % 64 }

/-- The selector of an input has that many samples fewer to settle (R173). -/
def settleBy (s : State) (k : Nat) : List Nat → State
  | [] => s
  | n :: ns => (s.setConv n { s.conv n with unsettled := (s.conv n).unsettled - k }).settleBy k ns

/-- CLK_INVALID of the converters of a block that has been delivered. -/
def clkBlocksDone (s : State) : List Nat → State
  | [] => s
  | n :: ns => (s.clkBlockDone n).clkBlocksDone ns

/-- The converter makes its next block of 1,024 samples, trimmed and packed, and keeps it for resends (R172, R177, R134,
R136); a time fault is tagged where it says so (R536). Of several marked samples in a block the header carries the newest (R83, R132,
DESIGN CHOICE, log entry 73). -/
def makeBlock (s : State) (n : Nat) (samples : List Int) (at_ : Stamp) : State :=
  let s := if s.f (GLB_SEQ.reg n) = 0 then s.calStaleShow n else s
  let x := s.conv n
  let ns := s.blockConvs n
  let span := 31 * ns.length
  let at_ := s.skewed n at_
  let vs := s.trimmed n (s.f (GLB_SEQ.reg n)) samples
  let packed := packSamples span x.recovery vs
  let ovrs := (packed.1.filter fun w => bit w 12).length
  let mark := (x.markers.filterMap fun m => (s.markerPos n at_ m.1).map fun k => (m.2, k)).getLast?
  let b := Parcel.seal
    { path := n, replay := false, kind := .block, flags := s.blockFlags n (decide (0 < ovrs)), seq := s.f (GLB_SEQ.reg n),
      tick := at_.tick, phase := at_.phase, segment := 0, segments := 1,
      marker := if mark.isSome then mark
        else if s.flag ENS_STATUS.time_fault && s.flag ENS_POLICY.tf_tag then some (s.f ENS_POLICY.tf_code, 0) else none
      stream := 255, payload := leBytes 1664 (packBits 13 packed.1), crc := 0 }
  let s := s.setConv n { x with
    sent := some b, tries := 0, recovery := packed.2, resumed := false, clips := clipCount span x.recovery x.clips vs,
    clipAt := if vs.any (fun v => clip12 v != v) then s.time.clk else x.clipAt,
    markers := x.markers.filter fun m => (s.markerPos n at_ m.1).isNone }
  let s := s.settleBy 1024 ns
  let s := s.calStaleShow n
  let s := s.setConv n { s.conv n with stale := bit (s.f CAL_STATUS.stale) n }
  let s := if 0 < ovrs then s.calOvr n else s.calSpoil n b.flags
  let s := s.setPath n { s.path n with
    refs := { seq := b.seq, tick := b.tick, phase := b.phase, fs24 := s.pathFs24 n, flags := b.flags, zone := if s.f (CNV_STATUS.route n) = 0 then x.zone else 0 } ::
      (s.path n).refs }
  let s := s.addWrap (CNV_OVR_SAMPLES.reg n) ovrs
  let s := if bit b.flags flagCLK then s.clkGap n b else s
  (s.addWrap (GLB_SEQ.reg n) 1024).clkBlocksDone ns

/-- A received copy of the block that converter `n` keeps is checked at fabric entry; `got` is its bytes (R136). -/
def entryCheck (s : State) (n : Nat) (b : Parcel) (got : List Byte) (lane : Nat) : State :=
  let x := s.conv n
  let good := (crc32c (got.take 28 ++ (got.drop 32).take (field got 4 2))).toNat == field got 28 4 && field got 1 1 == 1
  if good then
    let y : Parcel := (Parcel.ofBytes got).getD b
    let words := unpackBits 13 1024 (leNat y.payload)
    let y := Parcel.seal { y with seq := b.seq, path := n, payload := words.flatMap fun w => leBytes 2 (container w) }
    let s := s.setConv n { x with sent := none, tries := 0 }
    let s := s.setPath n { s.path n with entry := (s.path n).entry ++ [y] }
    if 0 < x.tries then s.chkCorr 0 6 7 lane 1 (some n) else s
  else if x.tries < 2 then ((s.setConv n { x with tries := x.tries + 1 }).raise 38).laneResend lane
  else
    let s := s.setConv n { x with sent := none, tries := 0 }
    let s := s.blockGap n b rCHECK
    (s.setPath n { s.path n with gapBefore := true }).chkFail b.seq 0 3 7 lane 3 (some n)

/-! ### Protection (R192 to R194) -/

/-- The en field of CNV_PROT in force (R201). -/
def protOn (s : State) (n : Nat) : Bool := (s.conv n).protEn.getD (s.flag (CNV_PROT.en n))

/-- Protection of converter `n` ends (R193). -/
def protEnd (s : State) (n : Nat) : State :=
  ((s.set (CNV_PROT.active n) 0).setConv n { s.conv n with protEn := none }).fcdProtEnd n (List.range 8)

/-- The number of clipped samples at which an episode engages protection: 0 acts as 1 (R192, R201). -/
def minClip (s : State) (n : Nat) : Nat := max 1 (s.f (CNV_PROT.min_clip n))

/-- An episode engages protection, once, where it is enabled (R192). -/
def protEngage (s : State) (n : Nat) : State :=
  if !s.protOn n || (s.conv n).protDone then s
  else
    let s := s.setConv n { s.conv n with protDone := true, clipAt := s.time.clk }
    let s := s.fcdProt n (bitList 8 (s.f (CNV_PROT.fcd_mask n)))
    (s.set (CNV_PROT.active n) 1).raise (76 + n)

/-- A write to CNV_PROT: a change of en waits for the end of protection that is active; release ends protection held with
hold_us at 0 (R193, R201). -/
def protWrite (s : State) (n v : Nat) : State :=
  let en := s.protOn n
  let s := s.plainWrite (CNV_PROT.reg n).addr v
  let s := if s.flag (CNV_PROT.active n) then s.setConv n { s.conv n with protEn := some en } else s
  if bit v 1 && s.flag (CNV_PROT.active n) && s.f (CNV_PROT_HOLD.hold_us n) == 0 then s.protEnd n else s

end State

/-! ### Meanings -/

/-- FABRIC_ENTRY_PARCEL (R134, R136, R177): converter `n` delivers its next block, or sends the block it keeps once more.
`samples` are the raw values that the slices take for the block, `at_` the measured time of the first; `rx` is what the fabric receives,
where that differs from what was sent, over a lane. -/
def execFabricEntryParcel (n : Fin 4) (samples : List Int) (at_ : Stamp) (rx : Option (List Byte)) (lane : Fin 52)
    (s : State) : Res :=
  if !s.delivers n && (s.conv n).sent.isNone then .next s
  else
    let s := if (s.conv n).sent.isNone then s.makeBlock n (samples.take 1024) at_ else s
    match (s.conv n).sent with
    | none => .next s
    | some b => .next (s.entryCheck n b (rx.getD b.bytes) lane)

/-- CAROUSEL_HANDOVER (R179 to R189): the dwell of a stop has ended, before which nothing happens. The estimator gives the carousel slice's trims and
its residual error after trimming, in thousandths of the estimator's limit; `stuck` says that it delivered a constant code
for the whole dwell while the occupant's codes varied, `lowInput` is the low-input rule of R181. -/
def execCarouselHandover (n : Fin 4) (residual : Nat) (lowInput stuck : Bool) (offset gain timing : BitVec 10)
    (s : State) : Res :=
  if s.f (CNV_STATUS.state n) ≠ 2 ∨ s.flag (CNV_STATUS.frozen n) ∨ (s.conv n).carHeld ∨ (s.conv n).carStopped ∨
      s.time.clk < (s.conv n).stopDue then .next s
  else
    let c := s.f (CNV_STATUS.incoming n)
    let s := (s.set (CNV_TRIM.offset n c) offset.toNat).set (CNV_TRIM.gain n c) gain.toNat
    let s := if lowInput then s.addWrap (CNV_CAR_STATUS.timing_held n) 1 else s.set (CNV_TRIM.timing n c) timing.toNat
    let s := s.set (CNV_SLICE.health n c) (100 * s.trimUse n c / 512)
    let x := s.conv n
    let s := s.setConv n { x with overLimit := x.overLimit.put 0 c (if 1000 < residual then x.overLimit.get 0 c + 1 else 0) }
    .next ((s.carEnd n (s.judge n c residual stuck)).recStop n)

/-- RECONVERGE (R182): fast reconvergence starts, on a write of CNV_CAR_CTL or from one of its other causes. -/
def execReconverge (n : Fin 4) (w : Option (Port × Word)) (s : State) : Res :=
  match w with
  | some (p, v) => .next (s.hubWrite p (CNV_CAR_CTL.reg n).addr (some 2) fun s => s.carCtlWrite n (v.toNat ||| 1024))
  | none => .next (s.reconverge n)

/-- RECONVERGE_DONE (R182, R569): the two rotations of fast reconvergence have been made; when every converter has left
CAL_SETTLING, step 9 of start-up has ended. -/
def execReconvergeDone (n : Fin 4) (s : State) : Res :=
  if (s.conv n).recStops ≠ 0 then .next s
  else
    let s := s.set (CNV_STATUS.settling n) 0
    let ready := (List.range 4).all fun n => !s.pathPresent n || (s.f (CNV_STATUS.state n) == 2 && !s.flag (CNV_STATUS.settling n))
    .next (if ready then s.set GLB_START.conv_ready 1 else s)

/-- INPUT_SEL_CHANGE (R173): the written selector applies at this block boundary; the samples of 2 us are unsettled. -/
def execInputSelChange (n : Fin 4) (s : State) : Res :=
  let sel := min 2 (s.f (CNV_CTL.input_sel n))
  if !s.up .conv ∨ sel = (s.conv n).sel then .next s
  else
    let x := s.conv n
    if s.f (CNV_STATUS.route n) = 2 then .next (s.setConv n { x with sel := sel })
    else
      let d := 1000000 * 2 ^ 24
      let s := s.setConv n { x with sel := sel, unsettled := (2 * s.pathFs24 n + d - 1) / d }
      .next (s.ddcStep n)

/-- ZONE_CHANGE (R198, R199): the written zone applies at this block boundary, as a step of the main down-converter;
in WIDE the field is ignored. -/
def execZoneChange (n : Fin 4) (s : State) : Res :=
  let z := s.f (CNV_CTL.zone n)
  if !s.up .conv ∨ z = (s.conv n).zone then .next s
  else
    let s := s.setConv n { s.conv n with zone := z }
    .next (if s.f (CNV_STATUS.route n) = 0 then s.ddcStep n else s)

/-- OVR_EPISODE_START (R191, R192, R515): the sample with an extended index clips outside a recovery span. Where min_clip is
1 or 0 the episode engages protection at once. The upper converter of a WIDE pair has no episodes of its own (DESIGN
CHOICE, log entry 26). -/
def execOvrEpisodeStart (n : Fin 4) (index : Nat) (s : State) : Res :=
  if !s.delivers n ∨ s.flag (CNV_STATUS.ovr_now n) then .next s
  else
    let s := if s.flag (CNV_OVR_FLAG.sticky n) then s else s.set (CNV_OVR_FIRST.reg n) index
    let s := (s.set (CNV_OVR_FLAG.sticky n) 1).bump (CNV_OVR_EPISODES.reg n)
    let s := ((s.set (CNV_STATUS.ovr_now n) 1).raise (72 + n)).setConv n
      { s.conv n with protDone := false, clips := 0, clipAt := s.time.clk }
    .next ((if s.minClip n = 1 then s.protEngage n else s).calOvr n)

/-- PROT_HOLD_EXPIRE (R193): no sample has clipped for hold_us. -/
def execProtHoldExpire (n : Fin 4) (s : State) : Res :=
  if s.flag (CNV_PROT.active n) && s.f (CNV_PROT_HOLD.hold_us n) != 0 &&
      decide ((s.conv n).clipAt + 2560 * s.f (CNV_PROT_HOLD.hold_us n) ≤ s.time.clk) then
    .next (s.protEnd n)
  else .next s

/-- PROT_RELEASE (R193): a write of CNV_PROT with release set. -/
def execProtRelease (p : Port) (n : Fin 4) (v : Word) (s : State) : Res :=
  .next (s.hubWrite p (CNV_PROT.reg n).addr (some 10) fun s => s.protWrite n (v.toNat ||| 2))

/-- PROT_MIN_CLIP_REACHED (R192, R194): an episode reaches min_clip clipped samples, which the blocks made since it began and
the one that is being taken can hold. -/
def execProtMinClipReached (n : Fin 4) (s : State) : Res :=
  if s.flag (CNV_STATUS.ovr_now n) && decide (1 < s.minClip n ∧ s.minClip n ≤ (s.conv n).clips + 1024) then
    .next (s.protEngage n)
  else .next s

/-- OVR_EPISODE_END (R191): the last sample of the recovery span has been taken; it may lie in the block that is being taken,
whatever span the block before it has left open. -/
def execOvrEpisodeEnd (n : Fin 4) (s : State) : Res := .next (s.set (CNV_STATUS.ovr_now n) 0)

end Sys2Proof.Machine
end

