-- ==== Sys2Proof/Machine/Dsp.lean ====
section
/-! DEFINITION. Arithmetic of the products: rounding, log words, binary32, filters and the resampler (chapters 07, 08 and
10). -/

namespace Sys2Proof.Machine

/-! ### Numbers -/

/-- The log word of `num ÷ den` is at least `t` (R266, R327): 256 * (10 log10 x + 200) >= t - 1/2, as whole powers. -/
def logAtLeast (num den t : Nat) : Bool :=
  t == 0 || decide (den ^ 5120 * 10 ^ (2 * t - 1) ≤ num ^ 5120 * 10 ^ 102400)

/-- The largest word not above the level, bit by bit from bit `n - 1` on. -/
def logWordFrom (num den : Nat) : Nat → Nat → Nat
  | 0, w => w
  | n + 1, w => if logAtLeast num den (w + 2 ^ n) then logWordFrom num den n (w + 2 ^ n) else logWordFrom num den n w

/-- The log word round(256 * (10 log10(num ÷ den) + 200)), clamped to 0 to 65,535; 0 for a level of 0 (R266, R327). -/
def logWord (num den : Nat) : Nat := if num = 0 then 0 else logWordFrom num den 16 0

/-- Four times I² + Q² at the 16-bit scale, from words with one fraction bit (R235, R327). -/
def power4 (v : IQ) : Nat := (v.i * v.i + v.q * v.q).toNat

/-- The level of a sample, from four times its power (R327). -/
def levelWord (p4 : Nat) : Nat := logWord p4 (4 * 32752 * 32752)

/-- The floor of the binary logarithm of `num ÷ den`. -/
def ratLog2 (num den : Nat) : Int :=
  let e : Int := (Nat.log2 num : Int) - (Nat.log2 den : Int)
  let below := if 0 ≤ e then decide (num < den * 2 ^ e.toNat) else decide (num * 2 ^ (-e).toNat < den)
  if below then e - 1 else e

/-- The binary32 nearest to `num ÷ den`, half to even, as its bits. -/
def binary32 (neg : Bool) (num den : Nat) : Nat :=
  let sign := 2 ^ 31 * b2n neg
  if num = 0 then sign
  else
    let e := max (-126) (ratLog2 num den)
    let sh := 23 - e
    let m := if 0 ≤ sh then roundEvenNat (num * 2 ^ sh.toNat) den else roundEvenNat num (den * 2 ^ (-sh).toNat)
    let up := m == 2 ^ 24
    let e := if up then e + 1 else e
    let m := if up then 2 ^ 23 else m
    if 127 < e then sign + 255 * 2 ^ 23
    else if m < 2 ^ 23 then sign + m
    else sign + ((e + 127).toNat) * 2 ^ 23 + (m - 2 ^ 23)

/-- The binary32 of an integer over a natural. -/
def binary32Int (x : Int) (den : Nat) : Nat := binary32 (decide (x < 0)) x.natAbs den

/-! ### Samples (R235, R236) -/

/-- One component in the 16-bit format: rounded convergently and clamped (R235, R236). `num ÷ den` is its value at the
16-bit scale. -/
def clip16 (num : Int) (den : Nat) : Int := max (-32767) (min 32767 (roundEven num den))

/-- The clamp of R235 changes a component. -/
def clips16 (num : Int) (den : Nat) : Bool := decide (roundEven num den ≠ clip16 num den)

/-- One sample formatted, 16-bit or binary32, shifted left by `gain` and right by `headroom` before the final rounding
(R236, R258). -/
def formatSmp (float : Bool) (gain headroom : Nat) (v : IQ) : List Byte :=
  let d := 2 * 2 ^ headroom
  let i := v.i * (2 ^ gain : Nat)
  let q := v.q * (2 ^ gain : Nat)
  if float then leBytes 4 (binary32Int i (d * 32768)) ++ leBytes 4 (binary32Int q (d * 32768))
  else leBytes 2 (unsigned 16 (clip16 i d)) ++ leBytes 2 (unsigned 16 (clip16 q d))

/-- The clamp changes a sample when it is formatted. -/
def clampsSmp (float : Bool) (gain headroom : Nat) (v : IQ) : Bool :=
  let d := 2 * 2 ^ headroom
  !float && (clips16 (v.i * (2 ^ gain : Nat)) d || clips16 (v.q * (2 ^ gain : Nat)) d)

/-- The union of the flags of samples (R35). -/
def flagsOf (xs : List Smp) : Nat := (xs.map Smp.flags).foldl (· ||| ·) 0

/-- A converter sample's own OVR bit, kept beside the flags of its block until the first filter (R253). -/
def ownOvr : Nat := 9

/-- The flags of a filter output: the union over its span, TAINT where an input clipped, UNSETTLED while a step point lies
in the span (R35, R252, R253). -/
def spanFlags (u : Nat) (unset : Bool) : Nat :=
  let u := if bit u ownOvr then setBit (clearBit u ownOvr) flagTAINT else u
  if unset then setBit u flagUNSETTLED else u

/-! ### The sine-cosine generator (R233) -/

/-- Half of pi, with 60 fraction bits. -/
def halfPi : Nat := 1811004864519280711

/-- The sine of `r` parts in 2^30 of a quarter turn, with 60 fraction bits: the series to the 17th power, nested. -/
def sineQuarter (r : Nat) : Nat :=
  let x := r * halfPi / 2 ^ 30
  let xx := x * x / 2 ^ 60
  x * ([272, 210, 156, 110, 72, 42, 20, 6].foldl (fun t d => 2 ^ 60 - xx * t / (2 ^ 60 * d)) (2 ^ 60)) / 2 ^ 60

/-- The sine of a phase in 2^-32 turn, with 60 fraction bits. -/
def sineTurn (phase : Nat) : Int :=
  let r := phase % 2 ^ 30
  match phase / 2 ^ 30 % 4 with
  | 0 => sineQuarter r
  | 1 => sineQuarter (2 ^ 30 - r)
  | 2 => -(sineQuarter r : Int)
  | _ => -(sineQuarter (2 ^ 30 - r) : Int)

/-- The cosine of a phase in 2^-32 turn, with 60 fraction bits. -/
def cosineTurn (phase : Nat) : Int := sineTurn (phase + 2 ^ 30)

/-- At most one unit up or down. -/
def oneUnit (x : Int) : Int := max (-1) (min 1 x)

/-- A value of a generator: the sine (false) or the cosine (true) of the phase at amplitude 131,071, in 18 bits (R233). -/
def generator (cos : Bool) (phase : Nat) : Int :=
  let x := if cos then cosineTurn phase else sineTurn phase
  max (-131071) (min 131071 (roundEven (131071 * x) (2 ^ 60) + oneUnit (Config.sineSlack cos (phase % 2 ^ 32))))

/-! ### Words between stages (R235) -/

/-- A component as the next stage takes it, in the 17 bits of a word; the conjugate of the lowest word fits too, because
conjugation never overflows (R235). What a larger one becomes is free (log entry 80). -/
def fit17 (r : Int) : Int := if -65536 ≤ r ∧ r ≤ 65536 then r else signed 17 (unsigned 17 (Config.wordOver r))

/-- A sample as the next stage takes it. The final formatting takes the result of the last stage itself, so that headroom
and binary32 keep a peak above the scale (R236, R237). -/
def IQ.held (v : IQ) : IQ := { i := fit17 v.i, q := fit17 v.q }

/-- A sum with 17 fraction bits as a word with one fraction bit below the 16-bit scale, rounded convergently (R235). -/
def word17 (x : Int) : Int := roundEven x 131072

/-- The product of a word with the complex exponential at a phase, turned down so that a component at the NCO's frequency
comes to 0 Hz (R232, R239). -/
def mixWord (phase : Nat) (v : IQ) : IQ :=
  let c := generator true phase
  let s := generator false phase
  { i := word17 (v.i * c + v.q * s), q := word17 (v.q * c - v.i * s) }

/-- The taps of a half-band filter by their places in 2^-17, the pair next to the centre first, meet what R234 says of them
apart from the response between its edges: none of the 16 is zero, and the gain at 0 Hz is 1 within 0.01 dB. -/
def hbMeets (t : Nat → BitVec 18) : Bool :=
  let sum := ((List.range 8).map fun j => (t j).toInt).foldl (· + ·) 0
  (List.range 8).all (fun j => t j != 0) && decide (-150 ≤ 2 * sum - 65536 ∧ 2 * sum - 65536 ≤ 150)

/-- Taps that meet it: those of the least ripple over the edges of R234. -/
def hbEqual (j : Nat) : BitVec 18 :=
  BitVec.ofInt 18 ([41400, -12900, 6753, -3903, 2255, -1235, 609, -276].getD j 0)

/-- The taps of every half-band stage of the engine: free among those that meet R234 (log entry 80). -/
def hbTap (j : Nat) : BitVec 18 := if hbMeets Config.hbRaw then Config.hbRaw j else hbEqual j

/-- The sum of a half-band filter over its newest 31 inputs, newest first, with 17 fraction bits (R234): the centre tap 0.5
and eight pairs of equal taps at odd distances. Inputs that are not there count as 0. -/
def hbSum (xs : List Int) : Int :=
  ((List.range 8).map fun j => (hbTap j).toInt * (xs.getD (14 - 2 * j) 0 + xs.getD (16 + 2 * j) 0)).foldl (· + ·)
    (65536 * xs.getD 15 0)

/-- A half-band output of the newest inputs, `gain` times the filter's sum. -/
def hbWord (gain : Int) (vs : List IQ) : IQ :=
  { i := word17 (gain * hbSum (vs.map IQ.i)), q := word17 (gain * hbSum (vs.map IQ.q)) }

/-! ### Filters -/

/-- Units of `Smp.pos` in one converter sample. -/
def posUnit : Nat := 2 ^ 138

/-- A half-band stage takes a sample; for every second one it gives an output (R234). `spacing` is that of its input in
units of `posUnit`. -/
def Filt.halfBand (x : Filt) (spacing : Nat) (y : Smp) : Filt × Option Smp :=
  let line := ({ y with v := y.v.held } :: x.line).take 31
  let next : Filt := { line := line, unset := x.unset - 1 }
  if y.n % 2 = 1 ∧ 15 ≤ y.n ∧ 16 ≤ line.length then
    (next, some { v := hbWord 1 (line.map Smp.v), n := (y.n - 15) / 2,
                  pos := y.pos - 15 * spacing,
                  flags := spanFlags (flagsOf line) (decide (0 < x.unset)) })
  else (next, none)

/-- A sample through a cascade of half-band stages (R239). -/
def cascade (spacing : Nat) : List Filt → Smp → List Filt × Option Smp
  | [], y => ([], some y)
  | f :: fs, y =>
    match f.halfBand spacing y with
    | (f', none) => (f' :: fs, none)
    | (f', some z) => ((f' :: (cascade (2 * spacing) fs z).1), (cascade (2 * spacing) fs z).2)

/-- The resampler sum for one component (R242): `c` the 32 coefficients of a phase, `xs` the 32 inputs, oldest first. -/
def dot (c : List Int) (xs : List Int) : Int := ((c.zip xs).map fun e => e.1 * e.2).foldl (· + ·) 0

/-- The coefficients of a phase in a bank. -/
def phaseCoefs (bank : Tab (BitVec 18)) (phase : Nat) : List Int :=
  (bank.getMany 0 (32 * phase) 32).map BitVec.toInt

/-- A resampler output of one bank at a phase (R242). -/
def resampleOne (bank : Tab (BitVec 18)) (phase : Nat) (xs : List Smp) : IQ :=
  let c := phaseCoefs bank phase
  { i := word17 (dot c (xs.map fun y => y.v.i)), q := word17 (dot c (xs.map fun y => y.v.q)) }

/-- Output j of a fade over L outputs (R247). -/
def fadeMix (len j : Nat) (old new : IQ) : IQ :=
  { i := roundEven (((len - j : Nat) : Int) * old.i + (j : Int) * new.i) len
    q := roundEven (((len - j : Nat) : Int) * old.q + (j : Int) * new.q) len }

/-- Input number and phase of a resampler position in 2^-46 of an input sample (R242). -/
def phaseOf (t : Nat) : Nat × Nat :=
  let p := roundEvenNat (t % 2 ^ 46 * 1024) (2 ^ 46)
  if p = 1024 then (t / 2 ^ 46 + 1, 0) else (t / 2 ^ 46, p)

/-! ### The transform (R265, R275) -/

/-- A twiddle factor's sine or cosine at a phase, in 18 bits with 17 fraction bits (R265). -/
def twiddle (cos : Bool) (phase : Nat) : Int :=
  let x := if cos then cosineTurn phase else sineTurn phase
  max (-131071) (min 131071 (roundEven (131072 * x) (2 ^ 60) + oneUnit (Config.twiddleSlack cos (phase % 2 ^ 32))))

/-- A value turned back by `e` parts in `n` of a turn, rounded convergently; no turn leaves it as it is. -/
def turnBack (n e : Nat) (v : IQ) : IQ :=
  if e % n = 0 then v
  else
    let c := twiddle true (e % n * 2 ^ 32 / n)
    let s := twiddle false (e % n * 2 ^ 32 / n)
    { i := roundEven (v.i * c + v.q * s) 131072, q := roundEven (v.q * c - v.i * s) 131072 }

/-- Output `r` of a radix-4 butterfly. -/
def fly4 (r : Nat) (a b c d : IQ) : IQ :=
  match r with
  | 0 => ⟨a.i + b.i + c.i + d.i, a.q + b.q + c.q + d.q⟩
  | 1 => ⟨a.i + b.q - c.i - d.q, a.q - b.i - c.q + d.i⟩
  | 2 => ⟨a.i - b.i + c.i - d.i, a.q - b.q + c.q - d.q⟩
  | _ => ⟨a.i - b.q - c.i + d.q, a.q + b.i - c.q - d.i⟩

/-- Part `r` of a group after a radix-4 stage: the values that go on to the bins congruent to `r`. -/
def part4 (r : Nat) (xs : List IQ) : List IQ :=
  let q := xs.length / 4
  (((xs.take q).zip ((xs.drop q).take q)).zip (((xs.drop (2 * q)).take q).zip (xs.drop (3 * q)))).zipIdx.map fun e =>
    turnBack xs.length (r * e.2) (fly4 r e.1.1.1 e.1.1.2 e.1.2.1 e.1.2.2)

/-- Part `r` of a group after the final radix-2 stage. -/
def part2 (r : Nat) (xs : List IQ) : List IQ :=
  ((xs.take 1).zip (xs.drop 1)).map fun e => if r = 0 then ⟨e.1.i + e.2.i, e.1.q + e.2.q⟩ else ⟨e.1.i - e.2.i, e.1.q - e.2.q⟩

/-- The largest component magnitude of a frame. -/
def largestPart (gs : List (List IQ)) : Nat := (gs.flatMap fun g => g.map fun v => max v.i.natAbs v.q.natAbs).foldl max 0

/-- The least shift of 0 to 2 bits that brings a magnitude within 18 bits (R265). -/
def blockShift (m : Nat) : Nat := if m ≤ 131071 then 0 else if roundEvenNat m 2 ≤ 131071 then 1 else 2

/-- Every value of a frame shifted right with convergent rounding. -/
def shiftFrame (sh : Nat) (gs : List (List IQ)) : List (List IQ) :=
  gs.map fun g => g.map fun v => ⟨roundEven v.i (2 ^ sh), roundEven v.q (2 ^ sh)⟩

/-- The stages of a transform of groups of 2^n values, group g holding what goes on to the bins congruent to g; with the sum
of the shifts so far. `fixed` shifts by all that a stage can grow, in place of the block exponent (R265, R275). -/
def stages (fixed : Bool) : Nat → List (List IQ) → Nat → List IQ × Nat
  | 0, gs, e => (gs.flatten, e)
  | 1, gs, e =>
    let ys := gs.map (part2 0) ++ gs.map (part2 1)
    let sh := if fixed then 1 else blockShift (largestPart ys)
    ((shiftFrame sh ys).flatten, e + sh)
  | n + 2, gs, e =>
    let ys := gs.map (part4 0) ++ gs.map (part4 1) ++ gs.map (part4 2) ++ gs.map (part4 3)
    let sh := if fixed then 2 else blockShift (largestPart ys)
    stages fixed n (shiftFrame sh ys) (e + sh)

/-- A sample under its window coefficient: rounded convergently to 18 bits, with one fraction bit more than the word
(R265). -/
def windowed (c : Nat) (v : IQ) : IQ := { i := roundEven (v.held.i * (c : Int)) 65536, q := roundEven (v.held.q * (c : Int)) 65536 }

/-- The powers of the bins of a frame, in ascending frequency, by its window coefficients and its source words, oldest first
(R265 to R267): 2^44 for a sine of peak code 2,047, which is 131,008 in windowed samples, at a bin centre. -/
def binPowers (nLog2 : Nat) (w : List Nat) (vs : List IQ) : List Nat :=
  let r := stages false nLog2 [(w.zip vs).map fun e => windowed e.1 e.2] 0
  let s := max 1 (w.foldl (· + ·) 0)
  let ps := r.1.map fun v =>
    min (2 ^ 48 - 1) (roundEvenNat ((v.i * v.i + v.q * v.q).toNat * 2 ^ (2 * r.2 + 44) * 131072 ^ 2) ((131008 * s) ^ 2))
  ps.drop (2 ^ nLog2 / 2) ++ ps.take (2 ^ nLog2 / 2)

/-- Branch `b` of a channelizer with `m` channels over the newest source words, newest first: its taps against the words
`m` apart, rounded convergently to 18 bits (R275). -/
def branch (m : Nat) (proto : List Int) (vs : List IQ) (b : Nat) : IQ :=
  let at_ := fun (get : IQ → Int) => ((List.range (proto.length / m)).map fun k =>
    proto.getD (k * m + b) 0 * ((vs[k * m + b]?).map fun v => get v.held).getD 0).foldl (· + ·) 0
  { i := roundEven (at_ IQ.i) 131072, q := roundEven (at_ IQ.q) 131072 }

/-- The outputs of a channelizer of 2^`mLog2` channels, in channel order, before gain and clamp (R274, R275): channel c takes
the bin of its frequency, which runs backwards over branches that count from the newest word. -/
def channels (mLog2 : Nat) (proto : List Int) (vs : List IQ) : List IQ :=
  let m := 2 ^ mLog2
  let ys := (stages true mLog2 [(List.range m).map (branch m proto vs)] 0).1
  (List.range m).map fun c => ys.getD ((m + m / 2 - c) % m) ⟨0, 0⟩

end Sys2Proof.Machine
end

