-- ==== Sys2Proof/Machine/Ddc.lean ====
section
/-! DEFINITION. Down-conversion, nested zoom and fractional resampling (07_zoom_resampling.md). -/

namespace Sys2Proof.Machine

/-! ### Settings and what follows from them -/

/-- The settings of a window that the image does not use. -/
def WinCfg.unused : WinCfg :=
  { level := 0, parent := 0, k := 0, bypass := true, word := 0, offset := 0, ratio := 2 ^ 46, gain := 0, float := false,
    phaseReset := false }

/-- The settings of window `w`. -/
def PathCfg.win (c : PathCfg) (w : Nat) : WinCfg := c.wins.getD w WinCfg.unused

/-- Settings of a path before any commit. -/
def PathCfg.none : PathCfg :=
  { word := 0x400000000000, offset := 0, phaseReset := false, headroom := 0, float := false, wins := [], xfs := [],
    bands := [], chzM := 16, chzTaps := 1, chzOs := false, chzShift := 0, chzExcl := 0, chzCount := 156250, skEn := false,
    skM := 8, skLower := 0x0B33, skUpper := 0x1666, envEn := false, envLog2 := 10 }

/-- The commit whose settings are in force at a converter index: its own index, and the settings (R248). -/
def cfgAt (cfgs : List (Nat × PathCfg)) (ix : Nat) : Nat × PathCfg :=
  (cfgs.filter fun e => decide (e.1 ≤ ix)).getLastD (cfgs.headD (0, PathCfg.none))

/-- The settings of the commit with this index. -/
def cfgOf (cfgs : List (Nat × PathCfg)) (ix : Nat) : PathCfg :=
  ((cfgs.find? fun e => e.1 == ix).map Prod.snd).getD PathCfg.none

/-- Converter samples between two outputs of a window, in units of `posUnit` (R239); the first argument bounds the
nesting. -/
def PathCfg.outSpacing (c : PathCfg) : Nat → Nat → Nat
  | 0, _ => 2 * posUnit
  | n + 1, w =>
    let x := c.win w
    let sp := (if x.level ≤ 1 then 2 * posUnit else c.outSpacing n x.parent) * 2 ^ x.k
    if x.bypass then sp else sp * x.ratio / 2 ^ 46

/-- Converter samples between two inputs of a window. -/
def PathCfg.inSpacing (c : PathCfg) (w : Nat) : Nat :=
  if (c.win w).level ≤ 1 then 2 * posUnit else c.outSpacing 3 (c.win w).parent

/-- The span of the chain to a window's output, in units of `posUnit` (R254). -/
def PathCfg.span (c : PathCfg) : Nat → Nat → Nat
  | 0, _ => 15 * posUnit
  | n + 1, w =>
    let x := c.win w
    let sp := c.inSpacing w
    (if x.level ≤ 1 then 15 * posUnit else c.span n x.parent) + 15 * sp * (2 ^ x.k - 1) +
      (if x.bypass then 0 else 16 * sp * 2 ^ x.k)

/-- A window whose chain breaks the limit of R240: the product of 2^k and ρ from the baseband on exceeds 2^20. -/
def PathCfg.tooDeep (c : PathCfg) (w : Nat) : Bool :=
  (c.win w).level != 0 && decide (2 * posUnit * 2 ^ 20 < c.outSpacing 3 w)

/-- A sum of rationals, as numerator and denominator. -/
def ratAdd (a b : Int × Nat) : Int × Nat := (a.1 * (b.2 : Int) + b.1 * (a.2 : Int), a.2 * b.2)

/-- The complex rate of a window's output in Hz, or of the baseband at nesting 0, as a fraction (R239). -/
def PathCfg.rate (c : PathCfg) (fs : Nat) (n w : Nat) : Nat × Nat :=
  if n = 0 then (fs, 2 ^ 25) else (fs * posUnit, 2 ^ 24 * c.outSpacing n w)

/-- The centre of a window, or of the baseband at nesting 0, from 0 Hz of the input, in Hz, as a fraction (R232, R239). -/
def PathCfg.centre (c : PathCfg) (fs : Nat) (zone1 : Bool) : Nat → Nat → Int × Nat
  | 0, _ =>
    let f := signed 48 c.word * (fs : Int)
    ((if zone1 then (2 ^ 48 : Nat) * (fs : Int) - f else f), 2 ^ 72)
  | n + 1, w =>
    let x := c.win w
    let r := if x.level ≤ 1 then c.rate fs 0 0 else c.rate fs n x.parent
    ratAdd (if x.level ≤ 1 then c.centre fs zone1 0 0 else c.centre fs zone1 n x.parent)
      (signed 48 x.word * (r.1 : Int), 2 ^ 48 * r.2)

/-- The usable band of a window reaches beyond its parent's (R241). -/
def PathCfg.outOfBand (c : PathCfg) (w : Nat) : Bool :=
  let x := c.win w
  let inn := c.inSpacing w
  let out := c.outSpacing 3 w
  -- |word| / 2^48 + 0.4 * inn / out > 0.4, in parts of the parent's rate
  x.level != 0 && decide (4 * 2 ^ 48 * out < 10 * (signed 48 x.word).natAbs * out + 4 * 2 ^ 48 * inn)

/-! ### The main down-converter (R230 to R236) -/

/-- The phase of an NCO in 2^-32 turn (R233). -/
def ncoPhase (acc offset : Nat) : Nat := (acc / 2 ^ 16 + offset) % 2 ^ 32

/-- One converter sample through the main down-converter: a mixed sample enters HB0's line, and for every second one a
baseband sample leaves (R230, R233). `conj` is that of zone 1 (R232). A code enters as a word of 32 units, and HB0 has twice
its gain here, so that a sine of peak A gives a tone of 16 A (R236). -/
def DdcSt.mainStep (c : PathCfg) (conj : Bool) (d : DdcSt) (ix : Nat) (code : Int) (flags : Nat) : DdcSt × Option Smp :=
  let m : Mixed := { v := (mixWord (ncoPhase d.acc c.offset) ⟨32 * code, 0⟩).held, flags := flags }
  let line := (m :: d.line).take 31
  let d' := { d with acc := (d.acc + c.word) % 2 ^ 48, line := line, unset := d.unset - 1 }
  if ix % 2 = 1 ∧ 15 ≤ ix ∧ d.clearAt + 15 ≤ ix then
    let v := hbWord 2 (line.map Mixed.v)
    let u := (line.map Mixed.flags).foldl (· ||| ·) 0
    (d', some { v := if conj then ⟨v.i, -v.q⟩ else v, n := (ix - 15) / 2, pos := (ix - 15) * posUnit,
                flags := spanFlags u (decide (0 < d.unset)) })
  else (d', none)

/-- The samples of a block through the main down-converter, in order: containers of R178 from index `ix` on. -/
def DdcSt.mainRun (c : PathCfg) (conj : Bool) (flags : Nat) : Nat → List Nat → DdcSt → DdcSt × List Smp
  | _, [], d => (d, [])
  | ix, w :: ws, d =>
    let r := d.mainStep c conj ix (signed 12 (w / 16)) (if bit w 3 then setBit flags ownOvr else flags)
    let t := r.1.mainRun c conj flags (ix + 1) ws
    (t.1, r.2.toList ++ t.2)

/-- History of every filter is cleared; the next sample is `ix` (R251). -/
def DdcSt.clear (d : DdcSt) (ix : Nat) : DdcSt :=
  { d with line := [], unset := 30, clearAt := ix,
           wins := d.wins.map fun e => (e.1, { e.2 with stages := e.2.stages.map fun _ => Filt.reset
                                                        line := { line := [], unset := 31 } }) }

/-- A commit after index `from_`, up to index `ix`, resets a phase (R233): commits that found no sample in between count
too. -/
def resetSince (cfgs : List (Nat × PathCfg)) (from_ ix : Nat) (resets : PathCfg → Bool) : Bool :=
  cfgs.any fun e => decide (from_ < e.1 ∧ e.1 ≤ ix) && resets e.2

/-- The main mixer takes the settings of a commit (R233, R251). -/
def DdcSt.commitIn (d : DdcSt) (ix : Nat) (c : PathCfg) : DdcSt :=
  if ix = d.inCfg then d
  else
    let old := cfgOf d.cfgs d.inCfg
    let reset := c.phaseReset || resetSince d.cfgs d.inCfg ix PathCfg.phaseReset
    let step := old.word != c.word || old.offset != c.offset || reset
    { d with inCfg := ix, acc := if reset then 0 else d.acc, unset := if step then 30 else d.unset }

/-! ### Zoom windows (R238 to R247) -/

/-- A window takes the settings of a commit at its mixer (R233, R239, R251). -/
def WinSt.commitIn (x : WinSt) (cfgs : List (Nat × PathCfg)) (w ix : Nat) (b : WinCfg) : WinSt :=
  if ix = x.inCfg ∧ x.stages.length = b.k then x
  else
    let a := (cfgOf cfgs x.inCfg).win w
    let reset := (ix != x.inCfg && b.phaseReset) || resetSince cfgs x.inCfg ix fun c => (c.win w).phaseReset
    let x := { x with inCfg := ix, acc := if reset then 0 else x.acc }
    if a.k ≠ b.k ∨ a.bypass ≠ b.bypass ∨ x.stages.length ≠ b.k then
      { x with stages := List.replicate b.k Filt.reset, line := { line := [], unset := 31 }, pos := none, raw := none }
    else if a.word ≠ b.word ∨ a.offset ≠ b.offset ∨ reset then
      match x.stages with
      | [] => { x with line := { x.line with unset := 31 } }
      | f :: fs => { x with stages := { f with unset := 30 } :: fs }
    else x

/-- Where the resampler's next output lies after its history was cleared: at the first input where nothing has come out
yet, else at the first place of the old sequence at or after that input (R242). -/
def WinSt.seek (x : WinSt) (m ratio : Nat) : WinSt :=
  match x.pos with
  | none => { x with pos := some (m * 2 ^ 46) }
  | some t =>
    if m * 2 ^ 46 ≤ t then x
    else
      let j := (m * 2 ^ 46 - t + ratio - 1) / ratio
      { x with pos := some (t + j * ratio), next := x.next + j }

/-- An output at converter index `ix` counts for a fade: the first one at or after its place begins a requested fade, and
each one after it counts, up to the fade's length (R246, R247). -/
def WinSt.fadeStep (x : WinSt) (ix : Nat) : WinSt :=
  match x.fade, x.want with
  | some f, _ => if f.done < f.len then { x with fade := some { f with done := f.done + 1 } } else x
  | none, some (target, len, first) =>
    if first ≤ ix then { x with fade := some { target := target, len := len, done := 1 }, want := none, began := some ix } else x
  | none, none => x

/-- The resampler's outputs after an input, at most `fuel` of them (R242 to R247). `active` is the bank in force. -/
def WinSt.resample (cfgs : List (Nat × PathCfg)) (w : Nat) (active : Bool) (spacing : Nat) (y : Smp) :
    Nat → WinSt → WinSt × List Smp
  | 0, x => (x, [])
  | fuel + 1, x =>
    match x.pos with
    | none => (x, [])
    | some t =>
      let np := phaseOf t
      if y.n < np.1 + 16 then (x, [])
      else
        let back := x.line.line.take 32
        let xs := (List.replicate (32 - back.length) ({ v := ⟨0, 0⟩, n := 0, pos := 0, flags := 0 } : Smp)) ++ back.reverse
        let pos := y.pos + t * spacing / 2 ^ 46 - y.n * spacing
        let ix := pos / posUnit
        let one := fun (b : Bool) => resampleOne (if b then x.bankB else x.bankA) np.2 xs
        let x := x.fadeStep ix
        let v := match x.fade with
          | none => one active
          | some f => fadeMix f.len f.done (one !f.target) (one f.target)
        let z : Smp := { v := v, n := x.next, pos := pos,
                         flags := spanFlags (flagsOf back) (decide (0 < x.line.unset)) }
        let old := ((cfgAt cfgs ix).2.win w).ratio
        let step := fun (r : Nat) => y.pos + (t + r) * spacing / 2 ^ 46 - y.n * spacing
        let new := ((cfgAt cfgs (step old / posUnit)).2.win w).ratio
        let x := { x with pos := some (t + new), next := x.next + 1
                          turns := if new = old then x.turns else x.turns ++ [x.next + 1] }
        let r := x.resample cfgs w active spacing y fuel
        (r.1, z :: r.2)

/-- A half-band output leaves a window that skips the resampler: the outputs count on from those before a change of k or
bypass, and over those that a gap takes away (R239, R248). -/
def WinSt.passed (x : WinSt) (z : Smp) : WinSt × Smp :=
  let n := match x.raw with
    | some m => x.next + (z.n - (m + 1))
    | none => if x.next = 0 then z.n else x.next
  ({ x with next := n + 1, raw := some z.n }, { z with n := n })

/-- One sample of its parent through a window (R239). -/
def WinSt.take (cfgs : List (Nat × PathCfg)) (w : Nat) (active : Bool) (x : WinSt) (y : Smp) :
    WinSt × List Smp :=
  let e := cfgAt cfgs (y.pos / posUnit)
  let b := e.2.win w
  let x := x.commitIn cfgs w e.1 b
  let sp := e.2.inSpacing w
  let m : Smp := { y with v := mixWord (ncoPhase x.acc b.offset) y.v.held }
  let r := cascade sp x.stages m
  let x := { x with acc := (x.acc + b.word) % 2 ^ 48, stages := r.1 }
  match r.2 with
  | none => (x, [])
  | some z =>
    if b.bypass then
      let r := x.passed z
      (r.1.fadeStep (z.pos / posUnit), [r.2])
    else
      let x := if x.line.line.isEmpty then x.seek z.n b.ratio else x
      let x := { x with line := { line := ({ z with v := z.v.held } :: x.line.line).take 32, unset := x.line.unset } }
      let r := x.resample cfgs w active (sp * 2 ^ b.k) z 4
      ({ r.1 with line := { r.1.line with unset := r.1.line.unset - 1 } }, r.2)

/-- Samples of its parent through a window, in order. -/
def WinSt.run (cfgs : List (Nat × PathCfg)) (w : Nat) (active : Bool) : List Smp → WinSt → WinSt × List Smp
  | [], x => (x, [])
  | y :: ys, x =>
    let r := x.take cfgs w active y
    let t := r.1.run cfgs w active ys
    (t.1, r.2 ++ t.2)

/-! ### Output parcels -/

/-- An output parcel in formation: the number from which parcels are counted, its samples, newest first, and whether
samples have been taken away since the last parcel. -/
structure IqOut where
  grid : Option Nat
  buf : List Smp
  cut : Bool
deriving DecidableEq, Repr

/-- Samples given GAP_BEFORE on their first one, where samples before it were taken away (R280). -/
def gapFirst (cut : Bool) : List Smp → List Smp
  | [] => []
  | y :: ys => if cut then { y with flags := setBit y.flags flagGAP } :: ys else y :: ys

/-- A sample joins the parcel of `size` samples. A missing sample takes its whole parcel away, and the first parcel after
it carries GAP_BEFORE (R280). -/
def IqOut.push (x : IqOut) (size : Nat) (y : Smp) : IqOut × Option (List Smp) :=
  let g := x.grid.getD y.n
  let whole := match x.buf with
    | [] => (y.n - g) % size == 0
    | z :: _ => z.n + 1 == y.n
  let start := (y.n - g) % size == 0
  let cut := x.cut || !whole && (!x.buf.isEmpty || !start)
  let buf := if whole then y :: x.buf else if start then [y] else []
  if size ≤ buf.length then ({ grid := some g, buf := [], cut := false }, some (gapFirst cut buf.reverse))
  else ({ grid := some g, buf := buf, cut := cut }, none)

namespace State

/-- The stamp of a converter index of a path, given in units of `posUnit`, rounded to the nearest phase bin (R214, R255). -/
def timeAt (s : State) (p pos : Nat) : Stamp :=
  let ix := pos / posUnit
  match (s.path p).refs.find? fun r => decide (r.seq ≤ ix) with
  | none => ⟨0, 0⟩
  | some r =>
    let d := roundEvenNat ((pos - r.seq * posUnit) * (64 * 2560000000 * 2 ^ 24)) (max 1 r.fs24 * posUnit)
    let t := 64 * r.tick + r.phase + d
    ⟨t / 64, t % 64⟩

/-- The chunks of a payload, 8,192 bytes each (R128). -/
def chunks : Nat → List Byte → List (List Byte)
  | 0, _ => []
  | n + 1, b => b.take 8192 :: (if 8192 < b.length then chunks n (b.drop 8192) else [])

/-- The marker that a product of a stream carries, with its place from `seq` on: the newest one among the input samples from
`seq` to `last` that no earlier product of the stream has included (R132). -/
def markOf (s : State) (p stream seq last : Nat) : Option (Nat × Nat) :=
  let d := s.ddcOf p
  let from_ := max seq (Tab.get 0 d.carried stream)
  (d.marks.find? fun m => decide (from_ ≤ m.1 ∧ m.1 ≤ last)).map fun m => (m.2, m.1 - seq)

/-- A product is made on a stream of a path: its parcels carry `flags` and the marker and reach the reorder window, where
`key` is their place in the order of R140 (R128, R132, R139). -/
def productAt (s : State) (p : Nat) (kind : Kind) (stream flags seq last key : Nat) (at_ : Stamp) (payload : List Byte) : State :=
  let d := s.ddcOf p
  let marker := s.markOf p stream seq last
  let s := s.setDdc p { d with carried := d.carried.put 0 stream (max (d.carried.get 0 stream) (last + 1)) }
  let cs := chunks 64 payload
  let one := fun (i : Nat) (b : List Byte) => Parcel.seal
    { path := p, replay := s.mode p == 7, kind := kind, flags := flags % 256, seq := seq, tick := at_.tick, phase := at_.phase,
      segment := i, segments := cs.length, marker := marker, stream := stream, payload := b, crc := 0 }
  s.deliverAll p last key ((List.range cs.length).map fun i => one i (cs.getD i []))

/-- A product whose place in the order is that of the last sample it rests on. -/
def product (s : State) (p : Nat) (kind : Kind) (stream flags seq last : Nat) (at_ : Stamp) (payload : List Byte) : State :=
  s.productAt p kind stream flags seq last last at_ payload

/-- Settings of window `w` as its shadows stand. -/
def winCfg (s : State) (p w : Nat) : WinCfg :=
  { level := s.f (ZM_CTL.level p w), parent := s.f (ZM_CTL.parent p w), k := s.f (ZM_CTL.k p w),
    bypass := s.flag (ZM_CTL.rs_bypass p w), word := s.f (ZM_FREQ.word p w), offset := s.f (ZM_PHASE.reg p w),
    ratio := max (2 ^ 46) (s.f (ZM_RATIO.ratio p w)), gain := s.f (ZM_CTL.gain p w), float := s.flag (ZM_CTL.iq_float p w),
    phaseReset := s.flag (ZM_CTL.phase_reset p w) }

/-- Settings of a transform instance as its shadows stand. -/
def xfCfg (s : State) (p i : Nat) : XfCfg :=
  { source := if s.f (XF_LIMIT.n_max_log2 p i) = 0 then 0
              else if s.f (XF_CTL.source p i) < 8 then 1 else 2 + (s.f (XF_CTL.source p i) - 8),
    stream := s.f (XF_LIMIT.stream p i), nLog2 := s.f (XF_CTL.n_log2 p i), h := s.f (XF_CTL.h p i),
    window := s.f (XF_CTL.window p i), float := s.flag (XF_CTL.out_float p i), kM1 := s.f (DET_CTL.k_m1 p i),
    detEn := s.f (DET_CTL.det_en p i) }

/-- Every shadow of a path as it stands (R248, R287). -/
def pathCfg (s : State) (p : Nat) : PathCfg :=
  { word := s.f (DDC_FREQ.word p), offset := s.f (DDC_PHASE.reg p), phaseReset := s.flag (DDC_CTL.phase_reset p),
    headroom := s.f (DDC_CTL.headroom p), float := s.flag (DDC_CTL.iq_float p),
    wins := if s.mode p = 3 then (List.range 8).map (s.winCfg p) else [],
    xfs := (List.range 8).map (s.xfCfg p),
    bands := (List.range 16).map fun b => (s.flag (DET_BAND_EN.en p b), s.f (DET_BAND.lo p b), s.f (DET_BAND.hi p b)),
    chzM := s.f (CHZ_CTL.m_log2 p), chzTaps := s.f (CHZ_CTL.taps p), chzOs := s.flag (CHZ_CTL.os p),
    chzShift := s.f (CHZ_CTL.shift p), chzExcl := s.f (CHZ_CTL.excl p), chzCount := s.f (CHZ_INT.count p),
    skEn := s.flag (SK_CTL.en p), skM := s.f (SK_CTL.m_log2 p), skLower := s.f (SK_THR.lower p),
    skUpper := s.f (SK_THR.upper p), envEn := s.flag (TRN_CTL.env_en p), envLog2 := s.f (TRN_CTL.env_log2 p) }

/-- The first sample of the first block that begins from now on: the next that the converter delivers, or on a REPLAY path the
start of the next recorded block (R248, R319). -/
def nextSample (s : State) (p : Nat) : Nat :=
  if s.mode p = 7 then (((s.path p).refs.head?.map fun r => (r.seq / 1024 + 1) * 1024)).getD 0 else s.f (GLB_SEQ.reg p)

/-- The settings of a path in force for new samples. -/
def cfgNow (s : State) (p : Nat) : PathCfg := ((s.ddcOf p).cfgs.getLast?.map Prod.snd).getD PathCfg.none

/-- The read-backs of a window under the settings and the sample rate in force (R239, R241, R254). -/
def winShow (s : State) (p : Nat) (c : PathCfg) (w : Nat) : State :=
  let used := (c.win w).level != 0
  let span := if used then c.span 3 w else 0
  let r := c.rate (s.pathFs24 p) 3 w
  let s := s.set (ZM_SPAN.reg p w) (span / posUnit)
  let s := s.set (ZM_GD.reg p w) (span * 10 ^ 12 * 2 ^ 24 / (posUnit * max 1 (s.pathFs24 p)))
  let s := s.set (ZM_RATE.reg p w) (if used then 1000 * r.1 / r.2 else 0)
  s.set (ZM_STATUS.out_of_band p w) (b2n (c.outOfBand w))

/-- The read-backs of the windows of a list. -/
def winsShow (s : State) (p : Nat) (c : PathCfg) : List Nat → State
  | [] => s
  | w :: ws => (s.winShow p c w).winsShow p c ws

/-- The read-backs of a path's down-converter follow the settings (R241, R253, R254). -/
def ddcShow (s : State) (p : Nat) : State :=
  let c := s.cfgNow p
  let s := s.winsShow p c (List.range c.wins.length)
  let spans := (List.range c.wins.length).filterMap fun w => if (c.win w).level = 0 then none else some (c.span 3 w / posUnit)
  s.set (DDC_TAINT.reg p) (if spans.isEmpty then 15 else spans.foldl max 0)

/-- The read-backs of every path that runs windows follow a change of the sample rate (R239, R254). -/
def ratesShow (s : State) : List Nat → State
  | [] => s
  | p :: ps => (if s.mode p = 3 then s.ddcShow p else s).ratesShow ps

/-! ### The rates of the density tables (R300, R302, R303) -/

/-- The hop of an instance in source samples (R262). -/
def hopOf (x : XfCfg) : Nat := max 1 (2 ^ x.nLog2 / 2 ^ x.h)

/-- The two tables are ganged, as in force (R303). -/
def ganged (s : State) : Bool := s.fa (KAL_CTL.gang 0) == 1

/-- The table whose registers give table `k` its settings (R303). -/
def kalSrc (s : State) (k : Nat) : Nat := if s.ganged then 0 else k

/-- Bins per column as an exponent, in force. -/
def kalLog2 (s : State) (k : Nat) : Nat := min 4 (s.fa (KAL_CTL.bin_log2 (s.kalSrc k)))

/-- The bins of a spectrum that columns cover: the first, and one past the last (R300). -/
def kalBins (s : State) (k n : Nat) : Nat × Nat :=
  let b0 := s.fa (KAL_COL.b0 (s.kalSrc k))
  (b0, max b0 (min n (b0 + 4096 * 2 ^ s.kalLog2 k)))

/-- Columns that are written, for a spectrum of `n` bins. -/
def kalColumns (s : State) (k n : Nat) : Nat :=
  let r := s.kalBins k n
  (r.2 - r.1 + 2 ^ s.kalLog2 k - 1) / 2 ^ s.kalLog2 k

/-- Increments that a spectrum of `n` bins causes (R300, R302). -/
def kalIncrements (s : State) (k n : Nat) : Nat :=
  if s.fa (KAL_CTL.combine (s.kalSrc k)) = 1 then s.kalColumns k n else (s.kalBins k n).2 - (s.kalBins k n).1

/-- The spectrum rate of an instance as a ratio, in 1/s. -/
def specRate (s : State) (p i : Nat) : Nat × Nat :=
  let c := s.cfgNow p
  let x := c.xfs.getD i (s.xfCfg p i)
  let sp := if x.source ≤ 1 then 2 * posUnit else c.outSpacing 3 (x.source - 2)
  (s.pathFs24 p * posUnit, max 1 (2 ^ 24 * sp * hopOf x))

/-- D: every how many spectra the table takes one (R302). -/
def kalDecim (s : State) (k p i n : Nat) : Nat :=
  let r := s.specRate p i
  let limit := if s.ganged then 81920000000 else 40960000000
  max 1 ((r.1 * s.kalIncrements k n + r.2 * limit - 1) / (r.2 * limit))

/-- KAL_STATUS.decim of both tables follows the settings of their sources (R302). -/
def decimShow (s : State) : List Nat → State
  | [] => s
  | k :: ks =>
    let p := s.fa (KAL_CTL.path (s.kalSrc k))
    let i := s.fa (KAL_CTL.inst (s.kalSrc k))
    let x := (s.cfgNow p).xfs.getD i (s.xfCfg p i)
    (if x.source = 0 then s else s.set (KAL_STATUS.decim k) (min 255 (s.kalDecim k p i (2 ^ x.nLog2)))).decimShow ks

/-- The status of a table follows the settings in force (R303, R308, R322). -/
def kalShow (s : State) (k : Nat) : State :=
  let c := s.kalSrc k
  ((s.set (KAL_STATUS.gang 1) (b2n s.ganged)).set (KAL_STATUS.frozen k) (s.fa (KAL_CTL.freeze c))).set (KAL_STATUS.running k)
    (b2n (s.fa (KAL_CTL.en c) == 1 && s.fa (KAL_CTL.freeze c) == 0 && s.running (s.fa (KAL_CTL.path c))))

/-! ### What runs (R258, R286, R295) -/

/-- The running bits of the windows of a list. -/
def winsRunning (s : State) (p : Nat) (c : PathCfg) (on : Bool) : List Nat → State
  | [] => s
  | w :: ws => (s.set (ZM_STATUS.running p w) (b2n (on && (c.win w).level != 0))).winsRunning p c on ws

/-- The running bits of the transform instances of a list and their detectors. -/
def xfRunning (s : State) (p : Nat) (c : PathCfg) (on : Bool) : List Nat → State
  | [] => s
  | i :: is =>
    let b := b2n (on && (c.xfs.map XfCfg.source).getD i 0 != 0)
    ((s.set (XF_STATUS.running p i) b).set (DET_STATUS.running p i) b).xfRunning p c on is

/-- The running bits of a path's units show whether they deliver. -/
def unitsShow (s : State) (p : Nat) (on : Bool) : State :=
  let c := s.cfgNow p
  let s := (s.winsRunning p c on (List.range 8)).xfRunning p c on (List.range 8)
  let chz := on && s.mode p == 4
  let sk := on && c.skEn && (chz || (c.xfs.map XfCfg.source).getD 0 0 != 0)
  let s := ((s.set (CHZ_STATUS.running p) (b2n chz)).set (SK_STATUS.running p) (b2n sk)).set (TRN_STATUS.running p)
    (b2n (on && (s.mode p == 5 || s.mode p == 6)))
  (s.kalShow 0).kalShow 1

/-- A path begins or ends to run, and its units with it (R29). -/
def runPath (s : State) (p : Nat) (on : Bool) : State := (s.setRunning p on).unitsShow p on

/-! ### Transform windows (R264) -/

/-- The products of a path. -/
def xfOf (s : State) (p : Nat) : XfPath := s.xf.get XfPath.reset p

/-- The state with a path's products changed. -/
def setXf (s : State) (p : Nat) (x : XfPath) : State := { s with xf := s.xf.put XfPath.reset p x }

/-- The terms of a built-in window's cosine series in units of 10^-9, the constant first, the sign alternating (R264): Hann,
flat-top with five terms, and else Blackman-Harris with four. -/
def windowTerms (code : Nat) : List Nat :=
  if code = 1 then [500000000, 500000000]
  else if code = 3 then [215578950, 416631580, 277263158, 83578947, 6947368]
  else [358750000, 488290000, 141280000, 11680000]

/-- A cosine series at place `j` of a period of 2^`nLog2`, in units of 10^-9 with 60 fraction bits; `k` numbers the term. -/
def cosineSeries (nLog2 j : Nat) : Nat → List Nat → Int
  | _, [] => 0
  | k, a :: as =>
    (if k % 2 = 1 then -1 else 1) * (a : Int) * cosineTurn (k * j * 2 ^ 32 / 2 ^ nLog2) + cosineSeries nLog2 j (k + 1) as

/-- A coefficient of a built-in window, in periodic form, unsigned with 17 fraction bits (R264). -/
def builtInCoef (code nLog2 j : Nat) : Nat :=
  let x := roundEven (131072 * cosineSeries nLog2 j 0 (windowTerms code)) (10 ^ 9 * 2 ^ 60)
  if 0 ≤ x then x.toNat else Config.flatTopLow nLog2 j % 2 ^ 18

/-- The coefficients of the window of an instance, with 17 fraction bits (R264). -/
def windowCoefs (s : State) (p i code nLog2 : Nat) : List Nat :=
  if code = 0 then List.replicate (2 ^ nLog2) 131072
  else if code = 7 then ((s.xfOf p).custom.get [] i).take (2 ^ nLog2)
  else (List.range (2 ^ nLog2)).map (builtInCoef code nLog2)

/-- The sum and the sum of squares of window coefficients. -/
def windowSums (w : List Nat) : Nat × Nat := (w.foldl (· + ·) 0, (w.map fun x => x * x).foldl (· + ·) 0)

/-- XF_INFO of an instance follows the window in force: coherent gain and equivalent noise bandwidth (R264). -/
def xfInfo (s : State) (p : Nat) (c : PathCfg) (i : Nat) : State :=
  let x := c.xfs.getD i (s.xfCfg p i)
  if x.source = 0 then s
  else
    let t := windowSums (s.windowCoefs p i x.window x.nLog2)
    let n := 2 ^ x.nLog2
    let cg := min 65535 (roundEvenNat (65536 * t.1) (131072 * n))
    let enbw := min 65535 (roundEvenNat (4096 * n * t.2) (max 1 (t.1 * t.1)))
    (s.set (XF_INFO.cg p i) cg).set (XF_INFO.enbw p i) enbw

/-- XF_INFO of the instances of a list. -/
def xfInfos (s : State) (p : Nat) (c : PathCfg) : List Nat → State
  | [] => s
  | i :: is => (s.xfInfo p c i).xfInfos p c is

/-- Phase resets of the windows of a list have been taken (R258). -/
def clearResets (s : State) (p : Nat) : List Nat → State
  | [] => s
  | w :: ws => ((s.set (ZM_CTL.phase_reset p w) 0)).clearResets p ws

/-- Settings that take the place of others committed at the same sample: what those reset stays reset (R233). -/
def mergeResets (old new : PathCfg) : PathCfg :=
  { new with
    phaseReset := new.phaseReset || old.phaseReset
    wins := new.wins.zipIdx.map fun e => { e.1 with phaseReset := e.1.phaseReset || (old.win e.2).phaseReset } }

/-- Every shadow of a path applies at the commit sample `ix` (R248); settings that no stage can still need are dropped. -/
def commitAt (s : State) (p ix : Nat) : State :=
  let d := s.ddcOf p
  let new := ((d.cfgs.filter fun e => e.1 == ix).map Prod.snd).foldl (fun c old => mergeResets old c) (s.pathCfg p)
  let keep := d.cfgs.filter fun e => decide ((cfgAt d.cfgs (ix - 2 ^ 41)).1 ≤ e.1 ∧ e.1 < ix)
  let s := s.setDdc p { d with cfgs := keep ++ [(ix, new)] }
  let s := s.set (DDC_CTL.phase_reset p) 0
  let s := if s.mode p = 3 then s.clearResets p (List.range 8) else s
  let s := (s.set (DDC_COMMIT_INDEX.reg p) ix).set (DDC_STATUS.commit_pending p) 0
  ((((s.ddcShow p).xfInfos p (s.cfgNow p) (List.range 8)).unitsShow p (s.running p)).decimShow [0, 1]).raise (144 + p)

/-! ### Commit checks (R249, R262, R274, R276, R288) -/

/-- The spectra per second of an instance, as a fraction (R267). -/
def xfRate (c : PathCfg) (fs : Nat) (x : XfCfg) : Nat × Nat :=
  let r := if x.source = 0 then (0, 1) else if x.source = 1 then c.rate fs 0 0 else c.rate fs 3 (x.source - 2)
  (r.1 * 2 ^ x.h, r.2 * 2 ^ x.nLog2)

/-- The sum of fractions. -/
def fracSum (xs : List (Nat × Nat)) : Nat × Nat := xs.foldl (fun a b => (a.1 * b.2 + b.1 * a.2, a.2 * b.2)) (0, 1)

/-- The sum of the rates of instances exceeds 20,000,000 a second. -/
def xfTooFast (c : PathCfg) (fs : Nat) : Bool :=
  let t := fracSum (c.xfs.map (xfRate c fs))
  decide (20000000 * t.2 < t.1)

/-- An instance breaks one of its own limits (R262). -/
def xfBreaks (s : State) (p : Nat) (c : PathCfg) (i : Nat) : Bool :=
  let x := c.xfs.getD i (s.xfCfg p i)
  x.source != 0 && (decide (s.f (XF_LIMIT.n_max_log2 p i) < x.nLog2) || decide (s.f (XF_LIMIT.h_max p i) < x.h) ||
    (x.window == 7 && x.nLog2 != s.f (XF_LIMIT.n_max_log2 p i)))

/-- The channelizer breaks a limit (R274, R276). -/
def chzBreaks (s : State) (p : Nat) (c : PathCfg) : Bool :=
  let rn := s.pathFs24 p
  let rd := 2 ^ 25
  let m := 2 ^ c.chzM
  -- integration time = count * m * rd / rn seconds, halved when os is 1
  let t := c.chzCount * m * rd
  let d := if c.chzOs then 2 * rn else rn
  s.mode p == 4 && (decide (s.f (CHZ_LIMIT.m_max_log2 p) < c.chzM) || decide (s.f (CHZ_LIMIT.t_max p) < c.chzTaps) ||
    (c.chzOs && !s.flag (CHZ_LIMIT.os_ok p)) || decide (t * 1000000 < d) || decide (1000 * d < t) ||
    decide (20480000000 * t < m * 8 * d))

/-- The refused bits of the units of a list that break a limit are set. -/
def refuseUnits (s : State) (bad : Nat → Bool) (loc : Nat → Loc) : List Nat → State
  | [] => s
  | i :: is => (if bad i then s.set (loc i) 1 else s).refuseUnits bad loc is

/-- A commit at sample `ix`, applied or refused whole (R248, R249, R288). -/
def commitTry (s : State) (p ix : Nat) : State :=
  let c := s.pathCfg p
  let deep := (List.range 8).any c.tooDeep
  let fast := xfTooFast c (s.pathFs24 p)
  let bad := fun i => s.xfBreaks p c i || (fast && (c.xfs.getD i (s.xfCfg p i)).source != 0)
  if deep || (List.range 8).any bad || s.chzBreaks p c then
    let s := (s.set (DDC_STATUS.commit_refused p) 1).set (DDC_STATUS.commit_pending p) 0
    let s := s.refuseUnits c.tooDeep (ZM_STATUS.refused p) (List.range 8)
    let s := s.refuseUnits bad (XF_STATUS.refused p) (List.range 8)
    let s := if s.chzBreaks p c then s.set (CHZ_STATUS.refused p) 1 else s
    s.raise (136 + p)
  else s.commitAt p ix

/-! ### Demand (R256, R284, R293) -/

/-- Lane operations per converter sample of a zoom window: NCO and mixer, cascade, resampler (R256). -/
def windowOps (c : PathCfg) (w : Nat) : Nat × Nat :=
  let x := c.win w
  if x.level = 0 then (0, 1)
  else
    let inn := c.inSpacing w
    fracSum [(6 * posUnit, inn), (16 * (2 ^ x.k - 1) * posUnit, 2 ^ x.k * inn),
      if x.bypass then (0, 1) else (128 * posUnit, c.outSpacing 3 w)]

/-- Lane operations of a transform instance per spectrum, in halves: transform with window, detectors, and kurtosis where it
takes its powers from the instance (R293). -/
def spectrumOps2 (x : XfCfg) (kurtosis : Bool) : Nat :=
  let n := 2 ^ x.nLog2
  3 * n * (x.nLog2 - 2) + 8 * n + n * (bitList 5 x.detEn).length + 6 * n * b2n kurtosis

/-- Lane operations of a transform instance per converter sample (R293). -/
def instOps (c : PathCfg) (x : XfCfg) (kurtosis : Bool) : Nat × Nat :=
  if x.source = 0 then (0, 1)
  else
    let sp := if x.source = 1 then 2 * posUnit else c.outSpacing 3 (x.source - 2)
    (spectrumOps2 x kurtosis * 2 ^ x.h * posUnit, 2 * 2 ^ x.nLog2 * sp)

/-- Lane operations of the channelizer per converter sample, with the kurtosis on it (R293). -/
def chzOps (c : PathCfg) (kurtosis : Bool) : Nat × Nat :=
  let f := if c.chzOs then 2 else 1
  (f * (2 * (2 * (4 * 2 ^ c.chzTaps)) + 3 * (c.chzM - 2) + 6 + 6 * b2n kurtosis), 4)

/-- The lane operations that a path's structure needs per converter sample, under the settings as they stand; `raw` says that
a REPLAY path takes recorded converter samples (R256, R284, R293). -/
def laneNeed (s : State) (p : Nat) (raw : Bool) : Nat × Nat :=
  let c := s.pathCfg p
  let m := s.mode p
  let onChz := s.flag (SK_CTL.src p)
  let insts := (List.range 8).map fun i => instOps c (c.xfs.getD i (s.xfCfg p i)) (i == 0 && c.skEn && !onChz)
  let main := decide (1 ≤ m ∧ m ≤ 5) || (m == 6 && s.f (REC_CTL.form p) == 1) || (m == 7 && raw)
  fracSum ([(12 * b2n main, 1), (b2n (m == 5 || m == 6), 2), (b2n (m == 5), 1), (b2n (m == 5 && s.flag (TRN_CTL.env_ok p)), 2)] ++
    (List.range c.wins.length).map (windowOps c) ++ (if m = 8 then [] else insts) ++
    (if m = 4 then [chzOps c (c.skEn && onChz)] else []))

/-! ### Delivery of IQ (R237, R255, R259, R280, R281) -/

/-- Counts of clamped samples, and event 140 + p for a parcel that holds one (R237). -/
def satCount (s : State) (p : Nat) (loc : Loc) (n : Nat) : State := if n = 0 then s else (s.addSat loc n).raise (140 + p)

/-- An IQ parcel of a path leaves the down-converter or a window for the window of reordering. -/
def iqParcel (s : State) (p stream gain headroom : Nat) (float : Bool) (span : Nat) (sat : Loc) (ys : List Smp) : State :=
  match ys, ys.getLast? with
  | y :: _, some z =>
    let s := s.satCount p sat (ys.filter fun x => clampsSmp float gain headroom x.v).length
    s.product p .iq stream (flagsOf ys) (y.pos / posUnit) ((z.pos + span) / posUnit) (s.timeAt p y.pos)
      (ys.flatMap fun x => formatSmp float gain headroom x.v)
  | _, _ => s

/-- The stream of a path's baseband, where the path delivers it (R280, R281). -/
def basebandStream (s : State) (p : Nat) : Option Nat :=
  if s.mode p = 5 then some (s.f (TRN_CTL.iq_stream p))
  else if s.mode p = 6 ∧ s.f (REC_CTL.form p) = 1 then some (s.f (REC_CTL.stream p))
  else none

/-- A baseband parcel is delivered and counted (R280, R286). -/
def baseParcel (s : State) (p stream : Nat) (c : PathCfg) (ys : List Smp) : State :=
  (s.iqParcel p stream 0 c.headroom c.float (15 * posUnit) (DDC_SAT.reg p) ys).addWrap (REC_COUNT.reg p) 1

/-- Baseband samples join the path's stream; a change of headroom or format starts a new parcel (R251, R280). -/
def baseOut (s : State) (p stream : Nat) : List Smp → State
  | [] => s
  | y :: ys =>
    let d := s.ddcOf p
    let e := cfgAt d.cfgs (y.pos / posUnit)
    let old := cfgOf d.cfgs d.outCfg
    let cut := d.outCfg != e.1 && (old.headroom != e.2.headroom || old.float != e.2.float)
    let s := if cut && !d.out.isEmpty then s.baseParcel p stream old (gapFirst d.outCut d.out.reverse) else s
    let o : IqOut := if cut then { grid := none, buf := [], cut := d.outCut && d.out.isEmpty }
      else { grid := d.grid, buf := d.out, cut := d.outCut }
    let r := o.push (if e.2.float then 1024 else 2048) y
    let s := s.setDdc p { s.ddcOf p with out := r.1.buf, grid := r.1.grid, outCut := r.1.cut, outCfg := e.1 }
    let s := match r.2 with
      | none => s
      | some zs => s.baseParcel p stream e.2 zs
    s.baseOut p stream ys

/-- The digest of a path's image. -/
def digestOf (s : State) (p : Nat) : List Byte := ((s.path p).img.map (·.digest)).getD []

/-- The words of a window's mirror group after a parcel, which has a marker or none (R259). -/
def zoomMirror (s : State) (p w : Nat) (ys : List Smp) (marked : Bool) : List (Nat × Nat) :=
  let c := s.cfgNow p
  let ps := ys.map fun y => power4 y.v
  let centre := c.centre (s.pathFs24 p) (s.flag (DDC_STATUS.conj p)) 3 w
  let mhz := (centre.1 * 1000 / (centre.2 : Int)).toNat
  let rate := s.f (ZM_RATE.reg p w)
  let ix := s.f (DDC_COMMIT_INDEX.reg p)
  [(1, mhz % 2 ^ 32), (2, mhz / 2 ^ 32), (3, rate % 2 ^ 32), (4, rate / 2 ^ 32),
   (5, logWord (ps.foldl (· + ·) 0) (max 1 ps.length * (4 * 32752 * 32752)) + 2 ^ 16 * levelWord (ps.foldl max 0)),
   (6, flagsOf ys % 256 + 2 ^ 8 * b2n marked + 2 ^ 16 * s.f (ZM_BANK.active p w) + 2 ^ 17 * s.f (ZM_BANK.fading p w) +
       2 ^ 18 * s.f (ZM_BANK.pending p w) + 2 ^ 19 * s.f (ZM_STATUS.out_of_band p w)),
   (7, ix % 2 ^ 32), (8, ix / 2 ^ 32)]

/-- A parcel of a window is delivered, and its mirror group follows. -/
def zoomParcel (s : State) (p w : Nat) (c : PathCfg) (ys : List Smp) : State :=
  let x := c.win w
  let stream := Config.windowStream (s.digestOf p) p w
  let marked := match ys, ys.getLast? with
    | y :: _, some z => (s.markOf p stream (y.pos / posUnit) ((z.pos + c.span 3 w) / posUnit)).isSome
    | _, _ => false
  let s := s.iqParcel p stream x.gain 0 x.float (c.span 3 w) (ZM_SAT.reg p w) ys
  s.touch (208 + 8 * p + w) (usTicks 1) fun s => s.zoomMirror p w ys marked

/-- Outputs of a window join its stream; a change of gain or format starts a new parcel at the commit sample, and one of ρ at
the first output that lies a new ρ beyond the one before (R244, R251). -/
def zoomOut (s : State) (p w : Nat) : List Smp → State
  | [] => s
  | y :: ys =>
    let d := s.ddcOf p
    let x := Tab.get WinSt.reset d.wins w
    let e := cfgAt d.cfgs (y.pos / posUnit)
    let a := (cfgOf d.cfgs x.outCfg).win w
    let b := e.2.win w
    let turn := x.turns.contains y.n
    let cut := turn || (x.outCfg != e.1 && (a.gain != b.gain || a.float != b.float))
    let s := if cut && !x.out.isEmpty then s.zoomParcel p w (cfgOf d.cfgs x.outCfg) (gapFirst x.outCut x.out.reverse) else s
    let o : IqOut := if cut then { grid := none, buf := [], cut := x.outCut && x.out.isEmpty }
      else { grid := x.grid, buf := x.out, cut := x.outCut }
    let r := o.push (max 1 (min (if b.float then 1024 else 2048) (Config.windowParcel (s.digestOf p) p w))) y
    let d := s.ddcOf p
    let y' := { x with out := r.1.buf, grid := r.1.grid, outCut := r.1.cut, outCfg := e.1
                       turns := x.turns.filter fun n => decide (y.n < n) }
    let s := s.setDdc p { d with wins := d.wins.put WinSt.reset w y' }
    let s := match r.2 with
      | none => s
      | some zs => s.zoomParcel p w e.2 zs
    s.zoomOut p w ys

/-- The windows of a list run, each on its parent's new samples; `done` holds the outputs of windows already run, by
number, and the baseband. -/
def zoomRun (s : State) (p : Nat) (base : List Smp) : List Nat → List (Nat × List Smp) → State × List (Nat × List Smp)
  | [], done => (s, done)
  | w :: ws, done =>
    let d := s.ddcOf p
    let c := s.winCfg p w
    let ys := if c.level ≤ 1 then base else ((done.find? fun e => e.1 == c.parent).map Prod.snd).getD []
    let r := (Tab.get WinSt.reset d.wins w).run d.cfgs w (s.flag (ZM_BANK.active p w)) ys
    let s := s.setDdc p { d with wins := d.wins.put WinSt.reset w r.1 }
    (s.zoomOut p w r.2).zoomRun p base ws (done ++ [(w, r.2)])

/-- The windows of a path in the order of their levels. -/
def zoomOrder (s : State) (p : Nat) : List Nat :=
  [1, 2, 3].flatMap fun l => (List.range 8).filter fun w => s.f (ZM_CTL.level p w) == l

/-- The path's structure uses the main down-converter (R230, R280). -/
def usesDdc (s : State) (p : Nat) : Bool := decide (1 ≤ s.mode p ∧ s.mode p ≤ 5) || s.mode p == 7 || (s.mode p == 6 && s.f (REC_CTL.form p) == 1)

/-- New baseband samples of a path: its windows run and its streams fill; the answer holds the windows' outputs. -/
def ddcFeed (s : State) (p : Nat) (base : List Smp) : State × List (Nat × List Smp) :=
  let s := match s.basebandStream p with
    | some st => s.baseOut p st base
    | none => s
  if s.mode p = 3 then s.zoomRun p base (s.zoomOrder p) [] else (s, [])

/-- A gap that holds no product of one stream alone ends after index `lo` and not after `hi`: its record has closed, or it is
open and its end has come (R131, R291). -/
def gapEndIn (s : State) (p lo hi : Nat) : Bool :=
  (s.path p).gaps.any (fun g => g.scope != 1 && decide (lo < g.stop ∧ g.stop ≤ hi)) ||
    (s.path p).gapEnds.any fun e => e.2.2 != 1 && decide (lo < e.1 ∧ e.1 ≤ hi)

/-- The marker of a parcel that enters a path's structure is kept for its products (R132). -/
def markIn (d : DdcSt) (x : Parcel) : DdcSt :=
  match x.marker with
  | some (code, k) => { d with marks := (x.seq + k, code) :: d.marks }
  | none => d

/-- A block goes through the down-converter of a path (R230 to R236, R251): the state after, the baseband samples and the
windows' outputs. The samples after a gap carry GAP_BEFORE, also where the gap's own samples were analysed (R131). -/
def ddcTake (s : State) (p : Nat) (x : Parcel) : State × List Smp × List (Nat × List Smp) :=
  let d := markIn (s.ddcOf p) x
  let flags := x.flags % 256 ||| 2 ^ flagGAP * b2n (s.gapEndIn p (x.seq - 1024) x.seq)
  let d := if bit x.flags flagGAP then d.clear x.seq else d
  let d := if d.steps.any (fun i => decide (i ≤ x.seq)) then { d with unset := 30, steps := d.steps.filter fun i => decide (x.seq < i) } else d
  if !s.usesDdc p then (s.setDdc p d, [], [])
  else
    let e := cfgAt d.cfgs x.seq
    let d := d.commitIn e.1 e.2
    let conj := ((s.refAt p x.seq).map (·.zone)).getD 0 == 1 && s.mode p != 2
    let r := d.mainRun e.2 conj flags x.seq (unpackBits 16 1024 (leNat x.payload))
    let s := (s.setDdc p r.1).set (DDC_STATUS.conj p) (b2n conj)
    let t := s.ddcFeed p r.2
    (t.1, r.2, t.2)

/-! ### Coefficient banks (R245, R246) -/

/-- The image uses window `w` of a path (R238). -/
def winUsed (s : State) (p w : Nat) : Bool := s.mode p == 3 && s.f (ZM_CTL.level p w) != 0

/-- A zoom window. -/
def win (s : State) (p w : Nat) : WinSt := (s.ddcOf p).wins.get WinSt.reset w

/-- The state with a zoom window changed. -/
def setWin (s : State) (p w : Nat) (x : WinSt) : State :=
  s.setDdc p { s.ddcOf p with wins := (s.ddcOf p).wins.put WinSt.reset w x }

/-- A request for a fade to a bank (R246). -/
def fadeRequest (s : State) (p w : Nat) (target : Bool) (len : Nat) : State :=
  let x := s.win p w
  if x.fade.isSome || x.want.isSome then
    (((s.setWin p w { x with pending := some (target, len) }).set (ZM_BANK.pending p w) 1).set (ZM_BANK.pending_target p w)
      (b2n target))
  else if s.flag (ZM_BANK.active p w) == target then s.bump (ZM_BANK.dropped p w)
  else s.setWin p w { x with want := some (target, len, s.nextSample p) }

/-- An access to ZM_COEF_DATA at the index, which then advances (R245). -/
def coefWrite (s : State) (p w v : Nat) : State :=
  let b := s.flag (ZM_COEF_ADDR.bank p w)
  let i := s.f (ZM_COEF_ADDR.index p w)
  let x := s.win p w
  let s := s.set (ZM_COEF_ADDR.index p w) (i + 1)
  if x.fade.isSome || s.flag (ZM_BANK.active p w) == b then (s.bump (ZM_BANK.ignored p w)).raise (132 + p)
  else
    let v := BitVec.ofNat 18 v
    s.setWin p w (if b then { x with bankB := x.bankB.put 0 i v } else { x with bankA := x.bankA.put 0 i v })

/-- The coefficient at the index is read, and the index advances (R245). -/
def coefRead (s : State) (p w : Nat) : State :=
  let i := s.f (ZM_COEF_ADDR.index p w)
  let x := s.win p w
  let v := Tab.get 0 (if s.flag (ZM_COEF_ADDR.bank p w) then x.bankB else x.bankA) i
  (s.set (ZM_COEF_ADDR.index p w) (i + 1)).complete (.words [BitVec.ofNat 32 v.toNat])

/-- A write to DDC_COMMIT (R231, R248): the commit sample is the first of the first block that begins from now on; a commit
that still waits for its sample takes this one in. -/
def ddcCommitWrite (s : State) (p v : Nat) : State :=
  if bit v 0 && !s.wideUpper p then
    let d := s.ddcOf p
    let ix := if s.flag (DDC_STATUS.commit_pending p) then d.commitAt.getD (s.nextSample p) else s.nextSample p
    (s.setDdc p { d with commitAt := some ix }).set (DDC_STATUS.commit_pending p) 1
  else s

/-- A commit that has been asked for applies, at its commit sample (R248). -/
def commitNow (s : State) (p : Nat) : State :=
  let d := s.ddcOf p
  (s.setDdc p { d with commitAt := none }).commitTry p (d.commitAt.getD (s.nextSample p))

/-- A commit whose sample lies in a block, or before it, applies before the block is analysed (R248). -/
def commitDue (s : State) (p seq : Nat) : State :=
  if s.flag (DDC_STATUS.commit_pending p) && decide ((s.ddcOf p).commitAt.getD seq ≤ seq) && !s.wideUpper p then s.commitNow p else s

/-- A write to ZM_SWAP (R246). -/
def zmSwapWrite (s : State) (p w v : Nat) : State :=
  if bit v 31 && s.winUsed p w then s.fadeRequest p w (bit v 30) (v % 2 ^ 16 + 1) else s

end State

/-! ### Meanings -/

/-- DDC_COMMIT (R248): a write to DDC_COMMIT; the commit waits for the next block. -/
def execDdcCommit (p : Port) (path : Fin 4) (v : Word) (s : State) : Res :=
  .next (s.hubWrite p (DDC_COMMIT.reg path).addr none fun s => s.ddcCommitWrite path v.toNat)

/-- DDC_COMMIT_APPLY (R231, R248 to R250): the first block that begins after the write begins, on a path with a structure
of its own. -/
def execDdcCommitApply (path : Fin 4) (s : State) : Res :=
  if s.flag (DDC_STATUS.commit_pending path) && (s.path path).img.isSome && s.up .fabric && !s.wideUpper path then
    .next (s.commitNow path)
  else .next s

/-- ZM_SWAP (R246): a request for a cross-fade. -/
def execZmSwap (p : Port) (path : Fin 4) (w : Fin 8) (v : Word) (s : State) : Res :=
  .next (s.hubWrite p (ZM_SWAP.reg path w).addr none fun s => s.zmSwapWrite path w (v.toNat ||| 2 ^ 31))

/-- ZM_FADE_START (R246, R247): the fade that an output has begun shows its bank and the converter index of that output,
which the operand names. -/
def execZmFadeStart (path : Fin 4) (w : Fin 8) (index : Nat) (s : State) : Res :=
  let x := s.win path w
  match x.fade, x.began with
  | some f, some ix =>
    if index ≠ ix then .next s
    else
      let s := s.setWin path w { x with began := none }
      .next (((s.set (ZM_BANK.active path w) (b2n f.target)).set (ZM_BANK.fading path w) 1).set (ZM_FADE_START.reg path w) ix)
  | _, _ => .next s

/-- ZM_FADE_DONE (R246, R247): the last output of a fade has been made; a pending request is taken as newly written. -/
def execZmFadeDone (path : Fin 4) (w : Fin 8) (s : State) : Res :=
  let x := s.win path w
  match x.fade with
  | none => .next s
  | some f =>
    if f.done < f.len || x.began.isSome then .next s
    else
      let s := s.setWin path w { x with fade := none, pending := none }
      let s := ((s.set (ZM_BANK.fading path w) 0).set (ZM_BANK.pending path w) 0).raise (128 + path)
      match x.pending with
      | none => .next s
      | some (target, len) => .next (s.fadeRequest path w target len)

/-- ZM_COEF_ACCESS (R245): a write to ZM_COEF_DATA, or a read of it. -/
def execZmCoefAccess (p : Port) (path : Fin 4) (w : Fin 8) (v : Option Word) (s : State) : Res :=
  match v with
  | some v => .next (s.hubWrite p (ZM_COEF_DATA.reg path w).addr none fun s =>
      if s.winUsed path w then s.coefWrite path w v.toNat else s)
  | none =>
    if s.reachable (ZM_COEF_DATA.reg path w).addr && s.winUsed path w then .next (s.coefRead path w)
    else .next (s.complete (.words [0]))

end Sys2Proof.Machine
end

