-- ==== Sys2Proof/Machine/Xf.lean ====
section
/-! DEFINITION. Transforms, detectors, kurtosis, channelizer and envelope (08_transforms.md). -/

namespace Sys2Proof.Machine

/-- Two lists combined place by place; the longer one's tail stays. -/
def zipLong (f : Nat → Nat → Nat) : List Nat → List Nat → List Nat
  | [], ys => ys
  | xs, [] => xs
  | x :: xs, y :: ys => f x y :: zipLong f xs ys

namespace State

/-! ### Conditions and what is due to them (R325, R326) -/

/-- A trigger condition. -/
def cond (s : State) (c : Nat) : CondSt := s.trg.conds.get CondSt.reset c

/-- The state with a trigger condition changed. -/
def setCond (s : State) (c : Nat) (x : CondSt) : State :=
  { s with trg := { s.trg with conds := s.trg.conds.put CondSt.reset c x } }

/-- The home path of a condition (R325); the first argument bounds the descent through sequences. -/
def condHome (s : State) : Nat → Nat → Nat
  | 0, c => s.f (TRG_COND.path c)
  | n + 1, c =>
    match s.f (TRG_COND.kind c) with
    | 2 => s.f (MSK_BIND.path (s.f (TRG_COND.sel c) % 64))
    | 6 => s.f (TRG_COND.sel c) % 4
    | 7 => s.condHome n (s.f (TRG_SEQ.second c))
    | _ => s.f (TRG_COND.path c)

/-- The home path of condition `c`. -/
def homeOf (s : State) (c : Nat) : Nat := s.condHome 64 c

/-- A written TRG_COND keeps the path that its source implies (R325): that of the kinds 0x2 and 0x6 follows the source, and
the one of a level condition stands. -/
def condWord (s : State) (c v : Nat) : Nat :=
  match bits v 24 4 with
  | 1 => insertBits v 20 2 (s.f (TRG_COND.path c))
  | 2 => insertBits v 20 2 (s.f (MSK_BIND.path (bits v 0 6)))
  | 6 => insertBits v 20 2 (bits v 0 2)
  | _ => v

/-- A write to TRG_COND is dropped whole, on grounds that stand in the condition's own registers (R325, R332). -/
def condBad (s : State) (c v : Nat) : Bool :=
  let kind := bits v 24 4
  decide (8 < kind) || ((kind == 1 || kind == 3 || kind == 4) && decide (s.f (TRG_PARAM.hi c) < s.f (TRG_PARAM.lo c))) ||
    (kind == 7 && (decide (c ≤ s.f (TRG_SEQ.first c)) || decide (c ≤ s.f (TRG_SEQ.second c))))

/-- A write to TRG_PARAM, TRG_WMIN, TRG_WMAX or TRG_SEQ of condition `c` is dropped whole: it leaves limits out of order or
names a member that is not below `c` (R332). -/
def paramBad (s : State) (c off v : Nat) : Bool :=
  let kind := s.f (TRG_COND.kind c)
  if off = (TRG_PARAM.reg c).addr then (kind == 1 || kind == 3 || kind == 4) && decide (bits v 16 16 < bits v 0 16)
  else if off = (TRG_WMIN.reg c).addr then decide (s.f (TRG_WMAX.reg c) < v)
  else if off = (TRG_WMAX.reg c).addr then decide (v < s.f (TRG_WMIN.reg c))
  else if off = (TRG_SEQ.reg c).addr then decide (c ≤ bits v 8 6) || decide (c ≤ bits v 0 6)
  else false

/-- The bins of the band that a condition of kind 0x4 names, of the `n` bins or channels of a kurtosis block: the usable ones,
or the band in force; none where it is inactive (R270, R325, R328). -/
def condBand (s : State) (p sel n : Nat) : Option (Nat × Nat) :=
  let c := s.cfgNow p
  if sel = 0 then some (n / 2 - 4 * n / 10, n / 2 + 4 * n / 10)
  else
    let b := c.bands.getD sel (false, 0, 0)
    let det := (c.xfs.getD 0 (s.xfCfg p 0)).detEn
    if b.1 && decide (b.2.1 ≤ b.2.2 ∧ b.2.1 < n) && bit det 0 && bit det 3 then some (b.2.1, min b.2.2 (n - 1)) else none

/-- The conditions of a kind on a path whose source number passes a test. -/
def condsOf (s : State) (p kind : Nat) (sel : Nat → Bool) : List Nat :=
  (List.range 64).filter fun c =>
    s.f (TRG_COND.kind c) == kind && sel (s.f (TRG_COND.sel c)) && s.homeOf c == p

/-- Evaluation points become due for the conditions of a list. -/
def dueTo (s : State) (cs : List Nat) (ds : Nat → List EvalDue) : State :=
  match cs with
  | [] => s
  | c :: cs => (s.setCond c { s.cond c with due := (s.cond c).due ++ ds c }).dueTo cs ds

/-- A sample as an evaluation point (R327). -/
def iqDue (y : Smp) : EvalDue := .iq y.pos y.v

/-! ### Intervals and blocks -/

/-- The span of the filters ahead of an instance, in units of `posUnit` (R292). -/
def sourceSpan (c : PathCfg) (source : Nat) : Nat := if source ≤ 1 then 15 * posUnit else c.span 3 (source - 2)

/-- The distance of the source samples of an instance, in units of `posUnit`. -/
def sourceStep (c : PathCfg) (source : Nat) : Nat := if source ≤ 1 then 2 * posUnit else c.outSpacing 3 (source - 2)

/-- An interval boundary passes: a hold reset that waits takes effect (R268). -/
def detBoundary (d : DetSt) : DetSt := { d with hold := if d.holdReset then [] else d.hold, holdReset := false }

/-- Where something that combines frames would end, in the order of R140, if it ran up to frame `j` (log entry 81): `last` is
where it stands with frame `newest`, and `step` the distance of frames. -/
def endAt (last newest step j : Nat) : Nat := last + (j - newest) * step

/-- Where the interval in formation ends in the order of R140: at its last frame, made or not. -/
def detEnd (d : DetSt) : Nat := endAt d.run.last d.run.newest d.run.step (d.from_ + d.run.kM1)

/-- The interval in formation ends: it waits to be delivered, and the hold detector takes it in; one that has received
nothing is dropped (R268, R290). `early` says that it closes short under R289, and `limit` is where it ends at the latest. -/
def detRoll (d : DetSt) (early : Bool) (limit : Nat) : DetSt :=
  if d.run.used = 0 then detBoundary d
  else
    let hold := zipLong max d.hold d.run.peak
    let flags := if early then setBit d.run.flags flagUNSETTLED else d.run.flags
    let reach := max d.run.last (min (detEnd d) limit)
    detBoundary { d with ended := d.ended ++ [{ d.run with hold := hold, flags := flags, reach := reach }], hold := hold,
                         run := DetIval.empty }

/-- Frames before frame `j` are made or will never be: an interval that ends before it ends now (R290). -/
def detPass (d : DetSt) (j : Nat) : DetSt :=
  let k := d.run.kM1 + 1
  if 0 < d.run.used ∧ d.from_ + k ≤ j then
    { (detRoll d false (detEnd d)) with run := { DetIval.empty with number := d.run.number + (j - d.from_) / k },
                                        from_ := d.from_ + (j - d.from_) / k * k }
  else d

/-- A spectrum enters the detector bank of its instance as frame `j`, `step` after the one before (R268, R287, R290). -/
def detAdd (d : DetSt) (c : PathCfg) (x : XfCfg) (j first last step flags : Nat) (ps vs : List Nat) : DetSt :=
  let d := detPass d j
  let d := if 0 < d.run.used then d
    else
      let k := x.kM1 + 1
      let n := (j - d.from_) / k
      let d := if 0 < n then detBoundary d else d
      { d with from_ := d.from_ + n * k,
               run := { DetIval.empty with number := d.run.number + n, first := first, kM1 := x.kM1, detEn := x.detEn,
                                           nLog2 := x.nLog2, window := x.window, stream := x.stream, bands := c.bands } }
  let r := d.run
  let r := { r with used := r.used + 1, last := last, newest := j, step := step, flags := r.flags ||| flags,
                    peak := zipLong max r.peak vs,
                    low := zipLong min r.low vs, sumV := zipLong (· + ·) r.sumV vs, sumP := zipLong (· + ·) r.sumP ps }
  let d := { d with run := r }
  if d.from_ + r.kM1 + 1 ≤ j + 1 then
    let n := r.number
    let k := r.kM1 + 1
    { (detRoll d false (detEnd d)) with run := { DetIval.empty with number := n + 1 }, from_ := d.from_ + k }
  else d

/-- Where the kurtosis block in formation ends in the order of R140. -/
def skEnd (x : SkSt) : Nat := endAt x.run.last x.run.newest x.run.step (x.from_ + 2 ^ x.run.mLog2 - 1)

/-- The kurtosis block in formation ends (R272, R290). -/
def skRoll (x : SkSt) (early : Bool) (limit : Nat) : SkSt :=
  if x.run.used = 0 then x
  else
    let flags := if early then setBit x.run.flags flagUNSETTLED else x.run.flags
    { x with ended := x.ended ++ [{ x.run with flags := flags, reach := max x.run.last (min (skEnd x) limit) }],
             run := SkBlk.empty }

/-- A change of SK_CTL.m_log2 by a commit closes the running block; blocks of the new length count from the same place, the
first frame or channel sample (R271, R287). -/
def skLength (x : SkSt) (m j : Nat) : SkSt :=
  if x.run.used = 0 then { x with from_ := if x.from_ % 2 ^ m = 0 then x.from_ else j / 2 ^ m * 2 ^ m }
  else if x.run.mLog2 = m then x
  else { (skRoll x false x.run.last) with run := { SkBlk.empty with number := x.run.number + 1 }, from_ := j / 2 ^ m * 2 ^ m }

/-- Frames or channel samples before number `j` are made or will never be: a block that ends before it ends now (R290). -/
def skPass (x : SkSt) (j : Nat) : SkSt :=
  let m := 2 ^ x.run.mLog2
  if 0 < x.run.used ∧ x.from_ + m ≤ j then
    { (skRoll x false (skEnd x)) with run := { SkBlk.empty with number := x.run.number + (j - x.from_) / m },
                                      from_ := x.from_ + (j - x.from_) / m * m }
  else x

/-- The powers of a spectrum or a channel sample, numbered `j` and `step` after the one before, enter the kurtosis unit
(R271); `added` is false for one that is left out (R278). -/
def skAdd (x : SkSt) (c : PathCfg) (j first last step flags : Nat) (ps : List Nat) (added : Bool) : SkSt :=
  let x := skPass (skLength x c.skM j) j
  let x := if 0 < x.run.used then x
    else
      let m := 2 ^ c.skM
      let n := (j - x.from_) / m
      { x with from_ := x.from_ + n * m,
               run := { SkBlk.empty with number := x.run.number + n, first := first, mLog2 := c.skM, lower := c.skLower,
                                         upper := c.skUpper } }
  let r := x.run
  let r := if added then
      { r with used := r.used + 1, last := last, newest := j, step := step, flags := r.flags ||| flags, s1 := zipLong (· + ·) r.s1 ps,
               s2 := zipLong (· + ·) r.s2 (ps.map fun q => q * q) } else r
  let x := { x with run := r }
  if x.from_ + 2 ^ r.mLog2 ≤ j + 1 then
    { (skRoll x false (skEnd x)) with run := { SkBlk.empty with number := r.number + 1 }, from_ := x.from_ + 2 ^ r.mLog2 }
  else x

/-! ### The transform (R261 to R267) -/

/-- A transform instance. -/
def inst (s : State) (p i : Nat) : XfSt := (s.xfOf p).insts.get XfSt.reset i

/-- The state with a transform instance changed. -/
def setInst (s : State) (p i : Nat) (x : XfSt) : State :=
  s.setXf p { s.xfOf p with insts := (s.xfOf p).insts.put XfSt.reset i x }

/-- Frames of a grid that begin before source sample `n`. -/
def framesBefore (g : XfGrid) (n : Nat) : Nat := (n - g.k0 + hopOf g.cfg - 1) / hopOf g.cfg

/-- A grid whose frames are all done gives way to the next one: the interval in formation closes short (R289). The answer
says that it did. The hold trace goes on, but for a change of N, whose bins are others. -/
def xfTurn (x : XfSt) : XfSt × Bool :=
  match x.grids with
  | g :: h :: gs =>
    match g.stop with
    | some j =>
      if j ≤ g.frame then
        let r := x.det.run
        let d := detRoll x.det true (endAt r.last r.newest r.step (j - 1))
        let hold := if h.cfg.nLog2 = g.cfg.nLog2 then d.hold else []
        ({ x with grids := h :: gs, det := { d with run := DetIval.empty, from_ := 0, hold := hold } }, true)
      else (x, false)
    | none => (x, false)
  | _ => (x, false)

/-- A source sample reaches an instance: it waits for its frames, and a change of size, hop or window by a commit starts a
new grid there (R263, R289). -/
def xfSample (cfgs : List (Nat × PathCfg)) (i : Nat) (x : XfSt) (y : Smp) : XfSt :=
  let c := (cfgAt cfgs (y.pos / posUnit)).2.xfs[i]?
  match c with
  | none => x
  | some c =>
    if c.source = 0 then x
    else
      let x := { x with buf := x.buf ++ [y], newest := some (y.n, y.pos) }
      match x.grids.getLast? with
      | none => { x with grids := [{ cfg := c, k0 := y.n, frame := 0, stop := none }] }
      | some g =>
        if g.cfg.nLog2 = c.nLog2 ∧ g.cfg.h = c.h ∧ g.cfg.window = c.window then x
        else
          { x with grids := x.grids.dropLast ++ [{ g with stop := some (max g.frame (framesBefore g y.n)) },
                                                  { cfg := c, k0 := y.n, frame := 0, stop := none }] }

/-- The kurtosis block of a path closes short after frame `j`, where it takes its powers from instance 0 (R289). -/
def skTurn (s : State) (p i j : Nat) : State :=
  if i = 0 ∧ !s.flag (SK_CTL.src p) then
    let x := s.xfOf p
    let k := skRoll x.sk true (endAt x.sk.run.last x.sk.run.newest x.sk.run.step j)
    s.setXf p { x with sk := { k with run := SkBlk.empty, from_ := 0 } }
  else s

/-- An instance moves to its next grid, where the old one is done. -/
def instTurn (s : State) (p i : Nat) : State :=
  let x := s.inst p i
  let r := xfTurn x
  if r.2 then (s.setInst p i r.1).skTurn p i (((x.grids.head?.bind (·.stop)).getD 0) - 1) else s

/-- New samples of a source reach the instances of a list that take it. -/
def xfFeed (s : State) (p source : Nat) (ys : List Smp) : List Nat → State
  | [] => s
  | i :: is =>
    let s := if (s.xfCfg p i).source = source then
        (s.setInst p i (ys.foldl (xfSample (s.ddcOf p).cfgs i) (s.inst p i))).instTurn p i else s
    s.xfFeed p source ys is

/-- The position up to which the next frame of a grid rests on the input, by the source sample nearest to its last one
(R140). -/
def frameEnd (s : State) (p i : Nat) (g : XfGrid) : Nat :=
  let x := s.inst p i
  let stop := g.k0 + g.frame * hopOf g.cfg + 2 ^ g.cfg.nLog2 - 1
  let c := s.cfgNow p
  let near := match (x.buf.filter fun y => decide (y.n ≤ stop)).getLast? with
    | some y => some (y.n, y.pos)
    | none => x.newest
  match near with
  | some e => e.2 + (stop - e.1) * sourceStep c g.cfg.source - (e.1 - stop) * sourceStep c g.cfg.source +
      sourceSpan c g.cfg.source
  | none => 0

/-- The next frame of a grid of which every sample may still come, after one that a gap cuts (R263): `start` is its first
sample, `n` its length, in ascending samples. -/
def afterHole (g : XfGrid) (start n : Nat) (buf : List Smp) : Nat :=
  let nums := (buf.map Smp.n).filter fun k => decide (start ≤ k)
  let hole := ((List.range n).find? fun k => !nums.contains (start + k)).getD 0 + start
  let next := (nums.find? fun k => decide (hole < k)).getD (hole + 1)
  max (g.frame + 1) ((next - g.k0 + hopOf g.cfg - 1) / hopOf g.cfg)

/-- Bytes of a spectrum's bins (R266, R267). -/
def binBytes (float : Bool) (ps vs : List Nat) : List Byte :=
  if float then ps.flatMap fun q => leBytes 4 (binary32 false q (2 ^ 44)) else vs.flatMap fun v => leBytes 2 v

/-- The frame of samples `xs` is transformed and delivered, and its powers go to the detectors and to the kurtosis unit
(R265 to R268, R271). -/
def spectrum (s : State) (p i : Nat) (g : XfGrid) (xs : List Smp) (first last : Smp) : State :=
  let e := (cfgAt (s.ddcOf p).cfgs (first.pos / posUnit)).2
  let now := e.xfs.getD i g.cfg
  let w := s.windowCoefs p i g.cfg.window g.cfg.nLog2
  let ps := binPowers g.cfg.nLog2 w (xs.map Smp.v)
  let vs := ps.map fun q => logWord q (2 ^ 44)
  let before := (((s.inst p i).recent.head?).map Spectrum.seq).getD 0
  let flags := flagsOf xs ||| 2 ^ flagGAP * b2n (s.gapEndIn p before (first.pos / posUnit))
  let end_ := last.pos + sourceSpan e g.cfg.source
  let step := hopOf g.cfg * sourceStep e g.cfg.source
  let dep := end_ / posUnit
  let marked := (s.markOf p g.cfg.stream (first.pos / posUnit) dep).isSome
  let s := s.product p .spectrum g.cfg.stream flags (first.pos / posUnit) dep (s.timeAt p first.pos) (binBytes now.float ps vs)
  let s := s.addWrap (XF_COUNT.reg p i) 1
  let x := s.inst p i
  let use : XfCfg := { now with nLog2 := g.cfg.nLog2, window := g.cfg.window, stream := g.cfg.stream }
  let one : Spectrum := { seq := first.pos / posUnit, frame := g.frame, v := vs, p := ps }
  let s := s.setInst p i { x with recent := (one :: x.recent).take 4096
                                  det := detAdd x.det e use g.frame first.pos end_ step (flags ||| 2 ^ 8 * b2n marked) ps vs }
  if i = 0 ∧ e.skEn ∧ !s.flag (SK_CTL.src p) then
    let y := s.xfOf p
    s.setXf p { y with sk := skAdd y.sk e g.frame first.pos end_ step flags ps true }
  else s

/-- The frame that begins with source sample `start` and holds `n` will never be whole: a sample after a missing one has come,
or the frame rests on nothing but samples that the path's input has passed (R263). -/
def frameCut (s : State) (p i : Nat) (g : XfGrid) (start n : Nat) : Bool :=
  let x := s.inst p i
  let nums := (x.buf.map Smp.n).filter fun k => decide (start ≤ k ∧ k < start + n)
  let hole := start + ((List.range n).takeWhile fun k => nums.contains (start + k)).length
  decide (hole < start + n) && (x.buf.any (fun y => decide (hole < y.n)) ||
    decide (s.frameEnd p i g / posUnit < (s.ddcOf p).clearAt))

/-- An instance goes on to frame `j` over frames that a gap has cut: what ends before it ends now (R290). -/
def framePass (s : State) (p i j : Nat) (x : XfSt) : State :=
  let s := s.setInst p i { x with det := detPass x.det j }
  if i = 0 ∧ !s.flag (SK_CTL.src p) then s.setXf p { s.xfOf p with sk := skPass (s.xfOf p).sk j } else s

/-- An instance's next frame (R263): it is computed where all its samples are there, and passed over where a gap has cut
it. -/
def frameNext (s : State) (p i : Nat) : State :=
  let x := s.inst p i
  match x.grids with
  | [] => s
  | g :: gs =>
    let n := 2 ^ g.cfg.nLog2
    let start := g.k0 + g.frame * hopOf g.cfg
    let xs := x.buf.filter fun y => decide (start ≤ y.n ∧ y.n < start + n)
    let whole := xs.length == n
    if !whole ∧ !s.frameCut p i g start n then s
    else
      let j := if whole then g.frame + 1 else afterHole g start n x.buf
      let next := g.k0 + j * hopOf g.cfg
      let y := { x with grids := { g with frame := j } :: gs, buf := x.buf.filter fun y => decide (next ≤ y.n ∨ gs ≠ []) }
      let s := match xs, xs.getLast? with
        | a :: _, some b => if whole then (s.setInst p i y).spectrum p i g xs a b else s.framePass p i j y
        | _, _ => s.framePass p i j y
      s.instTurn p i

/-! ### Traces and bands (R268 to R270, R296) -/

/-- The header of a trace (R269). -/
def traceHead (d : DetIval) (det i : Nat) : List Byte :=
  leBytes 8 (d.first / posUnit) ++ leBytes 8 d.number ++ leBytes 4 d.used ++ leBytes 4 (d.kM1 + 1) ++
    leBytes 4 (2 ^ d.nLog2) ++ leBytes 1 det ++ leBytes 1 i ++ leBytes 2 0

/-- The values of a detector over an interval (R268). -/
def traceOf (d : DetIval) (det : Nat) : List Nat :=
  match det with
  | 0 => d.peak
  | 1 => d.low
  | 2 => d.sumV.map fun v => roundEvenNat v (max 1 d.used)
  | 3 => d.sumP.map fun q => logWord q (max 1 d.used * 2 ^ 44)
  | _ => d.hold

/-- The traces of the enabled detectors of a list are delivered (R269). -/
def traces (s : State) (p i : Nat) (d : DetIval) : List Nat → State
  | [] => s
  | t :: ts =>
    let s := if bit d.detEn t then
        s.productAt p .record d.stream d.flags (d.first / posUnit) (d.last / posUnit) (d.reach / posUnit) (s.timeAt p d.first)
          (traceHead d t i ++ (traceOf d t).flatMap fun v => leBytes 2 v) else s
    s.traces p i d ts

/-- The largest of some bins and the lowest bin that holds it. -/
def largest (vs : List Nat) (lo hi : Nat) : Nat × Nat :=
  let m := ((vs.drop lo).take (hi + 1 - lo)).foldl max 0
  (m, lo + ((((vs.drop lo).take (hi + 1 - lo)).findIdx? fun v => v == m).getD 0))

/-- The power of some bins over an interval: the log-power word of the sum of mean powers by the noise bandwidth of the
window (R270). -/
def bandPower (s : State) (p i : Nat) (d : DetIval) (lo hi : Nat) : Nat :=
  let t := windowSums (s.windowCoefs p i d.window d.nLog2)
  let sum := ((d.sumP.drop lo).take (hi + 1 - lo)).foldl (· + ·) 0
  logWord (sum * (t.1 * t.1)) (max 1 (max 1 d.used * 2 ^ 44 * 2 ^ d.nLog2 * t.2))

/-- Flagged bins between two places in the last kurtosis block. -/
def flaggedIn (s : State) (p lo hi : Nat) : Nat := ((((s.xfOf p).sk.flagged.drop lo).take (hi + 1 - lo)).filter id).length

/-- A band is active on an interval of instance 0 (R270). -/
def bandActive (d : DetIval) (b : Bool × Nat × Nat) : Bool :=
  b.1 && decide (b.2.1 ≤ b.2.2) && decide (b.2.1 < 2 ^ d.nLog2) && bit d.detEn 0 && bit d.detEn 3

/-- The words of a band's mirror group (R296). -/
def bandMirror (s : State) (p : Nat) (d : DetIval) (b : Bool × Nat × Nat) : List (Nat × Nat) :=
  let hi := min b.2.2 (2 ^ d.nLog2 - 1)
  let m := largest d.peak b.2.1 hi
  [(1, m.1 + 2 ^ 16 * m.2), (2, s.bandPower p 0 d b.2.1 hi), (3, s.flaggedIn p b.2.1 hi), (4, d.number % 2 ^ 32),
   (5, d.flags % 512)]

/-- The words of a path's summary group (R296): the usable bins are those within 0.4 N of the centre (R267). -/
def summaryMirror (s : State) (p : Nat) (d : DetIval) : List (Nat × Nat) :=
  let n := 2 ^ d.nLog2
  let lo := n / 2 - 4 * n / 10
  let hi := n / 2 + 4 * n / 10
  let m := largest d.peak lo hi
  [(1, d.number % 2 ^ 32), (2, m.1 + 2 ^ 16 * m.2), (3, s.bandPower p 0 d lo hi),
   (4, d.flags % 512), (5, d.used),
   (6, s.f (SK_STATUS.flagged p))]

/-- What a band monitor found, or band 0 for the usable bins, becomes due for the conditions that take it (R327, R328). -/
def bandDue (s : State) (p b : Nat) (d : DetIval) (lo hi : Nat) (active : Bool) : State :=
  let r : Option BandReport := if active then
      some { first := d.first / posUnit, flags := d.flags % 256, peak := (largest d.peak lo hi).1, power := s.bandPower p 0 d lo hi }
    else none
  s.dueTo (s.condsOf p 3 fun sel => sel % 16 == b) fun _ => [.band r]

/-- The bands of a list report (R270). -/
def bandsReport (s : State) (p : Nat) (d : DetIval) : List Nat → State
  | [] => s
  | b :: bs =>
    let x := d.bands.getD b (false, 0, 0)
    let s := if bandActive d x then s.touch (144 + 16 * p + b) (usTicks 1) fun s => s.bandMirror p d x else s
    (s.bandDue p b d x.2.1 (min x.2.2 (2 ^ d.nLog2 - 1)) (bandActive d x)).bandsReport p d bs

/-- An ended interval is delivered: traces, and for instance 0 the band monitors (R268 to R270). -/
def detDeliver (s : State) (p i : Nat) (d : DetIval) : State :=
  let s := (s.traces p i d [0, 1, 2, 3, 4]).addWrap (DET_INTERVALS.reg p i) 1
  if i = 0 then
    let n := 2 ^ d.nLog2
    let s := s.bandDue p 0 d (n / 2 - 4 * n / 10) (n / 2 + 4 * n / 10) true
    (s.touch (144 + 16 * p) (usTicks 1) fun s => s.summaryMirror p d).bandsReport p d ((List.range 16).drop 1)
  else s

/-! ### Kurtosis (R271 to R273) -/

/-- The estimate of a bin in 4.12 (R272). -/
def skValue (m s1 s2 : Nat) : Nat :=
  if s1 = 0 then 0 else min 0xFFFF (roundEvenNat (4096 * (m + 1) * (m * s2 - s1 * s1)) (max 1 ((m - 1) * (s1 * s1))))

/-- The bytes of a flag bitmap, bit b of byte i for bin 8i + b (R273). -/
def flagBytes : Nat → List Bool → List Byte
  | 0, _ => []
  | n + 1, fs =>
    if fs.isEmpty then []
    else BitVec.ofNat 8 ((fs.take 8).foldr (fun b a => b2n b + 2 * a) 0) :: flagBytes n (fs.drop 8)

/-- An ended block is delivered, counted and its flags kept (R272, R273). -/
def skDeliver (s : State) (p : Nat) (b : SkBlk) : State :=
  let s := s.addWrap (SK_BLOCKS.reg p) 1
  if b.used < 2 then s
  else
    let vs := (b.s1.zip b.s2).map fun e => skValue b.used e.1 e.2
    let fs := (b.s1.zip vs).map fun e => e.1 != 0 && (decide (e.2 < b.lower) || decide (b.upper < e.2))
    let n := (fs.filter id).length
    let s := s.setXf p { s.xfOf p with sk := { (s.xfOf p).sk with flagged := fs } }
    let s := s.dueTo (s.condsOf p 4 fun _ => true) fun c =>
      let m := s.condBand p (s.f (TRG_COND.sel c) % 16) vs.length
      [.kurtosis (b.first / posUnit) (b.flags % 256) (m.map fun m => s.flaggedIn p m.1 m.2)]
    let s := s.set (SK_STATUS.flagged p) (min 65535 n)
    let head := leBytes 8 (b.first / posUnit) ++ leBytes 8 b.number ++ leBytes 4 b.used ++ leBytes 4 (2 ^ b.mLog2) ++
      leBytes 4 vs.length ++ leBytes 3 n ++ leBytes 1 (s.f (SK_CTL.src p))
    let s := s.productAt p .record (Config.kurtosisStream (s.digestOf p) p) b.flags (b.first / posUnit) (b.last / posUnit)
      (b.reach / posUnit) (s.timeAt p b.first) (head ++ (vs.flatMap fun v => leBytes 2 v) ++ flagBytes fs.length fs)
    if 0 < n then s.raise (164 + p) else s

/-! ### The channelizer (R274 to R279) -/

/-- Where the integral in formation ends in the order of R140. -/
def chzEnd (x : ChzSt) : Nat := endAt x.run.last x.run.newest x.run.step (x.from_ + max 1 x.run.count - 1)

/-- The integral in formation ends (R276, R290). -/
def chzRoll (x : ChzSt) (early : Bool) (limit : Nat) : ChzSt :=
  if x.run.used = 0 ∧ x.run.excluded = 0 then x
  else
    let flags := if early then setBit x.run.flags flagUNSETTLED else x.run.flags
    { x with ended := x.ended ++ [{ x.run with flags := flags, reach := max x.run.last (min (chzEnd x) limit) }],
             run := ChzInt.empty }

/-- Channel samples before number `j` are made or will never be: an integral that ends before it ends now (R290). -/
def chzPass (x : ChzSt) (j : Nat) : ChzSt :=
  let k := max 1 x.run.count
  if 0 < x.run.used + x.run.excluded ∧ x.from_ + k ≤ j then
    { (chzRoll x false (chzEnd x)) with run := { ChzInt.empty with number := x.run.number + (j - x.from_) / k },
                                        from_ := x.from_ + (j - x.from_) / k * k }
  else x

/-- A channel sample carries a flag that CHZ_CTL.excl selects (R278). -/
def chzExcluded (excl flags : Nat) : Bool :=
  (bit excl 0 && bit flags flagCLK) || (bit excl 1 && bit flags flagTAINT) || (bit excl 2 && bit flags flagCAL) ||
    (bit excl 3 && bit flags flagUNSETTLED)

/-- A component after the gain, and whether the clamp changes it (R275). -/
def chzClamp (shift : Nat) (x : Int) : Int × Bool :=
  let y := x * (2 ^ shift : Nat)
  let z := max (-131071) (min 131071 y)
  (z, decide (y ≠ z))

/-- Channel sample `j` with powers `ps`, `step` after the one before, enters the integral (R276 to R278). -/
def chzAdd (x : ChzSt) (c : PathCfg) (j first last step flags : Nat) (ps : List Nat) (out : Bool) : ChzSt :=
  let x := chzPass x j
  let x := if 0 < x.run.used + x.run.excluded then x
    else
      let k := max 1 c.chzCount
      let n := (j - x.from_) / k
      { x with from_ := x.from_ + n * k,
               run := { ChzInt.empty with number := x.run.number + n, first := first, count := c.chzCount, m := c.chzM,
                                          os := c.chzOs } }
  let r := { x.run with last := last, newest := j, step := step, excl := c.chzExcl }
  let r := if out then { r with excluded := r.excluded + 1 }
    else { r with used := r.used + 1, flags := r.flags ||| flags,
                  sums := zipLong (fun a b => min (2 ^ 64 - 1) (a + b)) r.sums ps }
  let x := { x with run := r }
  if x.from_ + max 1 r.count ≤ j + 1 then
    { (chzRoll x false (chzEnd x)) with run := { ChzInt.empty with number := r.number + 1 }, from_ := x.from_ + max 1 r.count }
  else x

/-- A baseband sample reaches the channelizer of a path (R274, R275, R289). -/
def chzSample (s : State) (p : Nat) (y : Smp) : State :=
  let c := (cfgAt (s.ddcOf p).cfgs (y.pos / posUnit)).2
  let now := (c.chzM, c.chzTaps, c.chzOs, c.chzShift)
  let x := (s.xfOf p).chz
  let span := 2 ^ c.chzM * (4 * 2 ^ c.chzTaps)
  let changed := x.cfg != some now
  let fresh := x.cfg.isNone
  let before := y.pos - 2 * posUnit + 15 * posUnit
  let s := if changed && !fresh && s.flag (SK_CTL.src p) then
      let sk := (s.xfOf p).sk
      let k := skRoll sk true before
      s.setXf p { s.xfOf p with sk := { k with run := { SkBlk.empty with number := sk.run.number + b2n (sk.run.used != 0) }, from_ := 0 } }
    else s
  let x := if changed then
      let n := x.run.number + b2n (x.run.used + x.run.excluded != 0)
      { (chzRoll x (!fresh) before) with cfg := some now, k0 := y.n, line := [], unset := span, from_ := 0,
                                         run := { ChzInt.empty with number := n } }
    else x
  let x : ChzSt := match x.line with
    | z :: _ => if z.n + 1 = y.n then x else { x with line := [], unset := span }
    | [] => x
  let line := (y :: x.line).take span
  let d := if c.chzOs then 2 ^ c.chzM / 2 else 2 ^ c.chzM
  let unset := decide (0 < x.unset)
  let j := (y.n - x.k0) / d
  let x := { chzPass x j with line := line, unset := x.unset - 1 }
  let s := if s.flag (SK_CTL.src p) then s.setXf p { s.xfOf p with sk := skPass (s.xfOf p).sk j } else s
  if (y.n - x.k0 + 1) % d ≠ 0 then s.setXf p { s.xfOf p with chz := x }
  else
    let proto := (s.xfOf p).proto
    let raw := channels c.chzM ((proto.map (signed 18)).take span) (line.map Smp.v)
    let cl := raw.map fun v => (chzClamp c.chzShift v.i, chzClamp c.chzShift v.q)
    let ovf := (cl.map fun e => b2n e.1.2 + b2n e.2.2).foldl (· + ·) 0
    let ps := cl.map fun e => (e.1.1 * e.1.1 + e.2.1 * e.2.1).toNat
    let flags := let u := flagsOf line; if unset then setBit u flagUNSETTLED else u
    let out := chzExcluded c.chzExcl flags
    let first := y.pos - (d - 1) * (2 * posUnit)
    let last := y.pos + 15 * posUnit
    let step := d * (2 * posUnit)
    let s := s.setXf p { s.xfOf p with chz := chzAdd x c j first last step flags ps out }
    let s := if s.flag (SK_CTL.src p) && c.skEn then
        s.setXf p { s.xfOf p with sk := skAdd (s.xfOf p).sk c j first last step flags ps (!out) } else s
    (s.addSat (CHZ_OVF.reg p) ovf).raiseAll (List.replicate ovf (156 + p))

/-- Baseband samples reach the channelizer in order. -/
def chzFeed (s : State) (p : Nat) : List Smp → State
  | [] => s
  | y :: ys => (s.chzSample p y).chzFeed p ys

/-- The descriptor of an integral (R279), with a marker or none: the last input sample is one past that of the last baseband
sample. -/
def chzDescriptor (x : ChzInt) (sat : Nat) (marked : Bool) : List Byte :=
  leBytes 8 (x.first / posUnit) ++ leBytes 8 (x.last / posUnit - 14) ++ leBytes 8 x.used ++ leBytes 8 x.count ++
    leBytes 4 (2 ^ x.m) ++ leBytes 2 (min 65535 sat) ++ leBytes 1 (b2n x.os) ++ leBytes 1 0 ++ leBytes 2 (x.flags % 256 + 2 ^ 8 * b2n marked) ++
    leBytes 2 x.excl ++ leBytes 4 0 ++ leBytes 8 x.number ++ leBytes 8 x.excluded

/-- An ended integral is delivered: descriptor, then integral (R277, R279). -/
def chzDeliver (s : State) (p : Nat) (x : ChzInt) : State :=
  let st := s.f (CHZ_LIMIT.stream p)
  let sums := if x.sums.isEmpty then List.replicate (2 ^ x.m) 0 else x.sums
  let sat := (sums.filter fun v => v == 2 ^ 64 - 1).length
  let at_ := s.timeAt p x.first
  let s := s.productAt p .record (st - 1) x.flags (x.first / posUnit) (x.last / posUnit) (x.reach / posUnit) at_
    (chzDescriptor x sat (s.markOf p (st - 1) (x.first / posUnit) (x.last / posUnit)).isSome)
  let s := s.productAt p .record st x.flags (x.first / posUnit) (x.last / posUnit) (x.reach / posUnit) at_ (sums.flatMap fun v => leBytes 8 v)
  let s := s.set (CHZ_LAST.reg p) x.number
  let s := if 0 < sat then (s.addSat (CHZ_SAT.reg p) sat).raise (152 + p) else s
  s.raise (160 + p)

/-! ### The envelope (R282, R283) -/

/-- Intervals that a record holds: up to 2,040, or as many as span 100 us of input (R283). -/
def envSize (s : State) (p log2 : Nat) : Nat :=
  let d := 10000 * 2 ^ 24 * (2 * 2 ^ log2)
  min 2040 (max 1 ((s.pathFs24 p + d - 1) / d))

/-- The two words of the running interval (R282). -/
def envWords (x : EnvSt) : Nat × Nat :=
  if x.used = 0 then (0, 0) else (levelWord x.peak, logWord x.sum (x.used * (4 * 32752 * 32752)))

/-- An empty record that begins with interval `n` of 2^`log2` baseband samples (R283). -/
def envRecAt (base log2 n : Nat) : EnvRec :=
  { EnvRec.empty with number := n, first := base + n * 2 ^ log2 * (2 * posUnit), log2 := log2 }

/-- Where a record of `n` intervals ends in the order of R140. -/
def envEndAt (r : EnvRec) (n : Nat) : Nat := r.first + n * 2 ^ r.log2 * (2 * posUnit) - 2 * posUnit + 15 * posUnit

/-- The running interval ends; `size` is how many a record holds (R282, R283). -/
def envEnd (size : Nat) (x : EnvSt) : EnvSt :=
  let r := { x.run with words := envWords x :: x.run.words }
  let x := { x with number := x.number + 1, used := 0, peak := 0, sum := 0 }
  if size ≤ r.words.length then
    { x with ended := if 0 < r.used then x.ended ++ [{ r with reach := envEndAt r size }] else x.ended,
             run := envRecAt x.base r.log2 x.number }
  else { x with run := r }

/-- Intervals that received nothing pass, up to interval `j`: those of the running record report 0; records that hold
nothing at all are not delivered (R282, R290). -/
def envSkip (size : Nat) (x : EnvSt) (j : Nat) : EnvSt :=
  let left := size - x.run.words.length
  if x.number + left ≤ j then
    let x := (List.range left).foldl (fun y _ => envEnd size y) x
    let whole := (j - x.number) / size * size
    let x := { x with number := x.number + whole, run := envRecAt x.base x.run.log2 (x.number + whole) }
    (List.range (j - x.number)).foldl (fun y _ => envEnd size y) x
  else (List.range (j - x.number)).foldl (fun y _ => envEnd size y) x

/-- The envelope closes its running interval and its record with what they hold; short under R282 it carries UNSETTLED.
`limit` is where it ends at the latest in the order of R140. -/
def envClose (x : EnvSt) (early : Bool) (limit : Nat) : EnvSt :=
  let x := if 0 < x.used then { x with run := { x.run with words := envWords x :: x.run.words } } else x
  let r := if early then { x.run with flags := setBit x.run.flags flagUNSETTLED } else x.run
  { x with ended := if 0 < r.used then x.ended ++ [{ r with reach := max r.last limit }] else x.ended
           number := 0, used := 0, peak := 0, sum := 0,
           run := EnvRec.empty }

/-- A baseband sample reaches the envelope of a path (R282). -/
def envSample (s : State) (p : Nat) (y : Smp) : State :=
  let c := (cfgAt (s.ddcOf p).cfgs (y.pos / posUnit)).2
  let en := c.envEn && s.flag (TRN_CTL.env_ok p)
  let x := (s.xfOf p).env
  let x := if x.cfg = some (en, c.envLog2) then x
    else
      let x := if (x.cfg.map Prod.fst).getD false then envClose x true (y.pos - 2 * posUnit + 15 * posUnit) else x
      { x with cfg := some (en, c.envLog2), k0 := y.n, base := y.pos, number := 0, run := envRecAt y.pos c.envLog2 0 }
  if !en then s.setXf p { s.xfOf p with env := x }
  else
    let size := s.envSize p c.envLog2
    let j := (y.n - x.k0) / 2 ^ c.envLog2
    let x := if x.number < j then envSkip size x j else x
    let q := power4 y.v
    let x := { x with used := x.used + 1, peak := max x.peak q, sum := x.sum + q,
                      run := { x.run with last := y.pos + 15 * posUnit, used := x.run.used + 1,
                                          flags := x.run.flags ||| y.flags } }
    let x := if (y.n - x.k0 + 1) % 2 ^ c.envLog2 = 0 then envEnd size x else x
    s.setXf p { s.xfOf p with env := x }

/-- Baseband samples reach the envelope in order. -/
def envFeed (s : State) (p : Nat) : List Smp → State
  | [] => s
  | y :: ys => (s.envSample p y).envFeed p ys

/-- A closed envelope record is delivered (R283). -/
def envDeliver (s : State) (p : Nat) (r : EnvRec) : State :=
  let head := leBytes 8 (r.first / posUnit) ++ leBytes 8 r.number ++ leBytes 4 r.words.length ++ leBytes 4 (2 ^ r.log2) ++
    leBytes 4 r.used ++ leBytes 4 0
  (s.productAt p .record (s.f (TRN_CTL.env_stream p)) r.flags (r.first / posUnit) (r.last / posUnit) (r.reach / posUnit)
    (s.timeAt p r.first)
    (head ++ r.words.reverse.flatMap fun w => leBytes 2 w.1 ++ leBytes 2 w.2)).addWrap (TRN_ENV_COUNT.reg p) 1

/-! ### A path as a whole -/

/-- New samples of the windows of a list reach the instances that take them. -/
def winsFeed (s : State) (p : Nat) : List (Nat × List Smp) → State
  | [] => s
  | e :: es => (s.xfFeed p (2 + e.1) e.2 (List.range 8)).winsFeed p es

/-- New baseband samples and window outputs of a path reach its products (R261, R274, R281, R282). -/
def xfTake (s : State) (p : Nat) (base : List Smp) (wins : List (Nat × List Smp)) : State :=
  let s := s.xfFeed p 1 base (List.range 8)
  let s := s.winsFeed p wins
  let s := if s.mode p = 4 then s.chzFeed p base else s
  if s.mode p = 5 then s.envFeed p base else s

/-- Instances of a list: the running interval ends, waits to be delivered, and the grid starts anew (R294); `limit` is the
place in the order of R140 where the path's input ends. -/
def instsRest (s : State) (p limit : Nat) : List Nat → State
  | [] => s
  | i :: is =>
    let x := s.inst p i
    let d := detRoll x.det false limit
    (s.setInst p i { x with grids := [], buf := [], det := { d with run := DetIval.empty, from_ := 0, hold := [] } }).instsRest p limit is

/-- A path enters IDLE: running intervals, blocks and integrals close with the counts they hold, and grids start anew at
the first sample after the pause (R282, R294). -/
def xfRest (s : State) (p : Nat) : State :=
  let limit := (s.nextSample p - 1) * posUnit
  let s := s.instsRest p limit (List.range 8)
  let x := s.xfOf p
  let k := skRoll x.sk false limit
  let c := chzRoll x.chz false limit
  let n := x.chz.run.number + b2n (x.chz.run.used + x.chz.run.excluded != 0)
  let e := if (x.env.cfg.map Prod.fst).getD false then envClose x.env false limit else x.env
  s.setXf p { x with
    sk := { k with run := SkBlk.empty, from_ := 0 }
    chz := { c with cfg := none, line := [], unset := 0, from_ := 0, run := { ChzInt.empty with number := n } }
    env := { e with cfg := none } }

/-- A write to DET_CTL, hold_reset included (R268). -/
def detCtlWrite (s : State) (p i v : Nat) : State :=
  if (s.xfCfg p i).source = 0 then s
  else
    let s := s.plainWrite (DET_CTL.reg p i).addr v
    if bit v 31 then
      let x := s.inst p i
      s.setInst p i { x with det := { x.det with holdReset := true } }
    else s

end State

/-! ### Meanings -/

/-- SPECTRUM_PRODUCE (R263 to R267): an instance completes its next frame, once all its samples are there. -/
def execSpectrumProduce (path : Fin 4) (i : Fin 8) (s : State) : Res := .next (s.frameNext path i)

/-- DET_INTERVAL_END (R268 to R270): the oldest interval of an instance that has ended is delivered. -/
def execDetIntervalEnd (path : Fin 4) (i : Fin 8) (s : State) : Res :=
  let x := s.inst path i
  match x.det.ended with
  | [] => .next s
  | d :: ds => .next ((s.setInst path i { x with det := { x.det with ended := ds } }).detDeliver path i d)

/-- DET_HOLD_RESET (R268): a write of DET_CTL with hold_reset set. -/
def execDetHoldReset (p : Port) (path : Fin 4) (i : Fin 8) (v : Word) (s : State) : Res :=
  .next (s.hubWrite p (DET_CTL.reg path i).addr none fun s => s.detCtlWrite path i (v.toNat ||| 2 ^ 31))

/-- SK_BLOCK_END (R272, R273): the oldest kurtosis block of a path that has ended is delivered. -/
def execSkBlockEnd (path : Fin 4) (s : State) : Res :=
  let x := s.xfOf path
  match x.sk.ended with
  | [] => .next s
  | b :: bs => .next ((s.setXf path { x with sk := { x.sk with ended := bs } }).skDeliver path b)

/-- CHZ_INTEGRAL_END (R277, R279): the oldest integral of a path that has ended is delivered. -/
def execChzIntegralEnd (path : Fin 4) (s : State) : Res :=
  let x := s.xfOf path
  match x.chz.ended with
  | [] => .next s
  | b :: bs => .next ((s.setXf path { x with chz := { x.chz with ended := bs } }).chzDeliver path b)

/-- ENV_RECORD_CLOSE (R283): the oldest envelope record of a path that has closed is delivered. -/
def execEnvRecordClose (path : Fin 4) (s : State) : Res :=
  let x := s.xfOf path
  match x.env.ended with
  | [] => .next s
  | r :: rs => .next ((s.setXf path { x with env := { x.env with ended := rs } }).envDeliver path r)

end Sys2Proof.Machine
end

