-- ==== Sys2Proof/Machine/TiuOps.lean ====
section
/-! DEFINITION. Stamps of the timing unit, and what every stamped edge feeds (15_timing_unit.md). -/

namespace Sys2Proof

/-- Phase bins of engine time that a stamp stands for. -/
def Stamp.bins (t : Stamp) : Nat := 64 * t.tick + t.phase

/-- The stamp of a number of phase bins. -/
def Stamp.ofBins (n : Nat) : Stamp := ⟨n / 64, n % 64⟩

end Sys2Proof

namespace Sys2Proof.Machine

namespace State

/-- Twice the fine position F of raw bin `b` of an interpolator, in 1/65,536 tick (R479). -/
def fineTwice (s : State) (i b : Nat) : Nat :=
  2 * ((List.range b).map fun k => s.f (TIU_CDC_TABLE.width i k)).foldl (· + ·) 0 + s.f (TIU_CDC_TABLE.width i b)

/-- The fine time of an edge in raw bin `b` of a tick, `skew` phase bins earlier, in 1/65,536 tick (R479, R482); half of one is cut
off, as word 2 of a record holds F in whole ones (log entry 83). -/
def fineTime (s : State) (i tick b : Nat) (skew : Int) : Nat :=
  (((65536 * tick + s.fineTwice i b / 2 : Nat) : Int) - 1024 * skew).toNat

/-- The stamp of an edge in raw bin `b` of a tick, `skew` phase bins earlier: F / 1,024 rounded half to even, where 64 is phase 0 of
the next tick (R479, R482). -/
def edgeStamp (s : State) (i tick b : Nat) (skew : Int) : Stamp :=
  Stamp.ofBins (((64 * tick + roundEvenNat (s.fineTwice i b) 2048 : Nat) : Int) - skew).toNat

/-! ### Statistics (R485) -/

/-- The number of measurements of a statistics engine. -/
def statN (s : State) (k : Nat) : Nat :=
  let n := s.f (TIU_STAT_N.reg k)
  if n = 0 then 2 ^ 32 else max 2 n

/-- A measurement enters a statistics engine that measures, or is skipped. -/
def statTake (s : State) (k : Nat) (v : Int) (bad : Bool) : State :=
  let x := s.tiu.stats.get StatSt.reset k
  if bad then s.bump (TIU_STAT_STATUS.skipped k)
  else if s.statN k ≤ x.n then s
  else
    let y := { x with n := x.n + 1, sum := x.sum + v, sumSq := x.sumSq + (v * v).toNat,
                      low := if x.n = 0 then v else min x.low v, high := if x.n = 0 then v else max x.high v }
    { s with tiu := { s.tiu with stats := s.tiu.stats.put StatSt.reset k y } }

/-- A statistics engine keeps the edge that its next measurement starts at. -/
def statStart (s : State) (k : Nat) (t : Option Nat) (bad : Bool) : State :=
  let x := s.tiu.stats.get StatSt.reset k
  { s with tiu := { s.tiu with stats := s.tiu.stats.put StatSt.reset k { x with start := t, startBad := bad } } }

/-- A stamped edge of an interpolator at a fine time reaches a statistics engine; `bad` when it carries a mark that lets
its measurement be skipped. -/
def statEdge (s : State) (i t : Nat) (bad : Bool) (k : Nat) : State :=
  if !s.flag (TIU_STAT_STATUS.running k) then s
  else
    let x := s.tiu.stats.get StatSt.reset k
    let m := s.f (TIU_STAT_CTL.mode k)
    if m = 2 then s
    else
      let period := m == 1
      let ends := if period then s.f (TIU_STAT_CTL.a k) == i else s.f (TIU_STAT_CTL.b k) == i
      let s := match x.start, ends with
        | some t0, true => (s.statTake k ((t : Int) - (t0 : Int)) (bad || x.startBad)).statStart k none false
        | _, _ => s
      if s.f (TIU_STAT_CTL.a k) = i then s.statStart k (some t) bad else s

/-- A stamped edge reaches the four statistics engines. -/
def statFeed (s : State) (i t : Nat) (bad : Bool) : State :=
  [0, 1, 2, 3].foldl (fun s k => s.statEdge i t bad k) s

/-! ### Inputs that conditions take (R345, R481) -/

/-- The conditions of kind 0x5 that take an input as source. -/
def condsOfInput (s : State) (sel : Nat) : List Nat :=
  (List.range 64).filter fun c => s.f (TRG_COND.kind c) == 5 && s.f (TRG_COND.sel c) == sel

/-- Event 192 + 4c + k for every condition that takes an input as source. -/
def inputEvents (s : State) (sel k : Nat) : State := s.raiseAll ((s.condsOfInput sel).map fun c => 192 + 4 * c + k)

/-- TRG_STATUS.stuck of the conditions of a list. -/
def condStuck (s : State) (v : Nat) : List Nat → State
  | [] => s
  | c :: cs => (s.set (TRG_STATUS.stuck c) v).condStuck v cs

/-- An occurrence at an instant waits for its decision (R333, R336). -/
def enqueueAt (s : State) (c : Nat) (t : Stamp) (how : OccBy) : State :=
  let o : Occ := { cond := c, index := 0, frac := 0, tick := t.tick, phase := t.phase, flags := 0, inGap := false, by_ := how }
  { s with trg := { s.trg with queue := s.trg.queue ++ [o] } }

/-- A stamped edge of an input is an occurrence of the conditions that take that edge (R329). -/
def inputEdge (s : State) (sel : Nat) (active : Bool) (t : Stamp) : State :=
  if s.f PWR_STATE.state ≠ 0 then s
  else
  ((s.condsOfInput sel).filter fun c =>
      let m := s.f (TRG_COND.mode c)
      m == 2 || (m == 0 && active) || (m == 1 && !active)).foldl (fun s c => s.enqueueAt c t .input) s

/-- An input that has been active since a clock has been so for longer than its timeout, 1 us to 10 s (R345). -/
def stuckOver (since clk us : Nat) : Bool := decide (since + 2560 * max 1 (min 10000000 us) < clk)

/-- Engine time ran from holdover (R223). -/
def holdover (s : State) : Bool := s.flag UPLL_STATUS.holdover

/-- The hold-off of an input in ticks: 2.5 ns units, clamped (R345, R354). -/
def holdoffTicks (units : Nat) : Nat := max 1 (min 400000 units) * 64 / 10

end State

end Sys2Proof.Machine
end

