-- ==== Sys2Proof/Machine/Cap.lean ====
section
/-! DEFINITION. Capture memory: regions, formatters, capture records, the BAR4 window (11_capture_memory.md). -/

namespace Sys2Proof.Machine

/-- The bit of a class of lease holders in CAP_REGION_STATUS.holders (R364, R379). -/
def LeaseClass.bitNo : LeaseClass → Nat
  | .dma => 0
  | .display => 1
  | .stream => 2
  | .replay => 3
  | .lines => 4
  | .records => 5

/-- Twelve-bit codes side by side (R367). -/
def pack12 (b : List Byte) : List Byte :=
  leBytes 1536 (packBits 12 ((unpackBits 16 1024 (leNat b)).map fun w => w / 16))

/-- A binary32 as a component at the 16-bit scale, rounded convergently and clamped. -/
def component16 (w : Nat) : Nat :=
  let m := if bits w 23 8 = 0 then bits w 0 23 else bits w 0 23 + 2 ^ 23
  let e := max 1 (bits w 23 8)
  -- value = m * 2^(e - 150); times 2^15
  let x : Int := if bit w 31 then -(m : Int) else (m : Int)
  let v := if 135 ≤ e then x * (2 ^ (e - 135) : Nat) else roundEven x (2 ^ (135 - e))
  unsigned 16 (max (-32767) (min 32767 v))

/-- Components of 4 bytes as components of 2 bytes. -/
def floatToShort : Nat → List Byte → List Byte
  | 0, _ => []
  | n + 1, b => if b.isEmpty then [] else leBytes 2 (component16 (field b 0 4)) ++ floatToShort n (b.drop 4)

/-- Components of 2 bytes as components of 4 bytes. -/
def shortToFloat : Nat → List Byte → List Byte
  | 0, _ => []
  | n + 1, b => if b.isEmpty then [] else leBytes 4 (binary32Int (signed 16 (field b 0 2)) 32768) ++ shortToFloat n (b.drop 2)

/-- A capture's formatter stops at a unit, unless it has stopped before (R373, R378). -/
def Capture.stopBy (c : Capture) (u : Nat) : Capture := { c with stop := some (c.stop.getD u) }

namespace State

/-- The newest span of a formatter ends at index `ix` (R342, R372). -/
def closeSpan (spans : List (Nat × Option Nat)) (ix : Nat) : List (Nat × Option Nat) :=
  match spans with
  | (a, none) :: es => (a, some ix) :: es
  | es => es

/-- The newest span of a formatter goes on: the disarm that ended it waits for the end of busy (R342). -/
def openSpan (spans : List (Nat × Option Nat)) : List (Nat × Option Nat) :=
  match spans with
  | (a, some _) :: es => (a, none) :: es
  | es => es

/-! ### What a stream carries -/

/-- The zoom window whose own stream this is. -/
def streamWindow (s : State) (p stream : Nat) : Option Nat :=
  (List.range 8).find? fun w => s.winUsed p w && Config.windowStream (s.digestOf p) p w == stream

/-- The kind of the parcels of a stream of a path, as the structure fixes it. -/
def streamKind (s : State) (p stream : Nat) : Option Kind :=
  if s.mode p = 6 ∧ s.f (REC_CTL.form p) = 0 ∧ s.f (REC_CTL.stream p) = stream then some .block
  else if s.basebandStream p = some stream ∨ (s.streamWindow p stream).isSome then some .iq
  else if (List.range 8).any fun i => (s.xfCfg p i).source != 0 && (s.xfCfg p i).stream == stream then some .spectrum
  else if s.mode p = 0 then none
  else some .record

/-- IQ of a stream is delivered as binary32 at an index (R236). -/
def streamFloat (s : State) (p stream seq : Nat) : Bool :=
  let c := (cfgAt (s.ddcOf p).cfgs seq).2
  match s.streamWindow p stream with
  | some w => (c.win w).float
  | none => c.float

/-- Spacing of the units of a stream in units of `posUnit` (R129, R255). -/
def streamSpacing (s : State) (p stream : Nat) (k : Kind) : Nat :=
  match k, s.streamWindow p stream with
  | .block, _ => posUnit
  | _, some w => (s.cfgNow p).outSpacing 3 w
  | _, none => 2 * posUnit

/-! ### Region figures -/

/-- The mode of a region: 0 TRIGGERED, 1 CONTINUOUS, 2 SINK (R366, R379). -/
def capMode (s : State) (r : Nat) : Nat := min 2 (s.f (CAP_REGION_SRC.mode r))

/-- The format of a region (R367, R379). -/
def capFmt (s : State) (r : Nat) : Nat := if s.f (CAP_REGION_SRC.fmt r) ≤ 4 then s.f (CAP_REGION_SRC.fmt r) else 0

/-- The trigger state of a region: 0 disarmed, 1 armed, 2 busy (R340). -/
def rgnState (s : State) (r : Nat) : Nat := s.f (TRG_RGN_CTL.state r)

/-- The words of a region's mirror group (R380). -/
def capMirror (s : State) (r : Nat) : List (Nat × Nat) :=
  let w := s.f (CAP_REGION_WRITTEN.reg r)
  let l := (s.region r).lastStart
  let t := s.f (TRG_RGN_LAST.reg r)
  [(1, s.rgnState r + 2 ^ 8 * s.f (CAP_REGION_STATUS.full r) + 2 ^ 9 * s.f (CAP_REGION_STATUS.writing r) +
       2 ^ 16 * s.f (CAP_REGION_STATUS.leases r)),
   (2, w % 2 ^ 32), (3, w / 2 ^ 32), (4, s.f (CAP_REGION_RECS.reg r)), (5, l % 2 ^ 32), (6, l / 2 ^ 32),
   (7, t % 2 ^ 32), (8, t / 2 ^ 32)]

/-- A unit writes to a region as to a SINK: density lines, the averager of an armed or busy region, or the capture records
of one, or of one whose captures still wait for theirs (R366, R379). -/
def sinkRuns (s : State) (r : Nat) : Bool :=
  (s.flag (TRG_RGN_CTL.avg r) && s.rgnState r != 0) ||
    (s.region r).leases.any fun e => e.1 == .lines || (e.1 == .records && (s.rgnState e.2 != 0 || !(s.region e.2).captures.isEmpty))

/-- The formatter of a region still has samples to take: of an open span, or of one that ends at a sample that its path has not
delivered (R366, R372). -/
def spanLeft (s : State) (r : Nat) : Bool :=
  let next := ((s.region r).held.getLast?.map fun h => h.last + 1).getD 0
  (s.region r).spans.any fun e => match e.2 with
    | none => true
    | some h => decide (e.1 < h ∧ next < h) && s.running (s.f (TRG_RGN_CTL.path r))

/-- The formatter or the sink writer of a region runs; formatters pause in IDLE (R378, R379). -/
def capWriting (s : State) (r : Nat) : Bool :=
  s.regionExists r && s.f PWR_STATE.state == 0 &&
    ((decide (s.capMode r < 2) && (s.rgnState r != 0 || s.spanLeft r) && !s.flag (CAP_REGION_STATUS.full r)) || s.sinkRuns r)

/-- The mirror group of a region as it shows, or as it will with the changes gathered (R168), but for the bytes written. -/
def capShown (s : State) (r : Nat) : List (Nat × Nat) :=
  let shown := fun (i : Nat) => (Tab.get 0 s.mirror.words (16 * (80 + r) + i)).toNat
  let waits := if s.mirror.dirty.get false (80 + r) then s.mirror.gathered.get [] (80 + r) else []
  [1, 4, 5, 6, 7, 8].map fun i => (i, ((waits.find? fun e => e.1 == i).map Prod.snd).getD (shown i))

/-- CAP_REGION_STATUS of one region follows its state, and at a change of its state, its records or its leases its mirror group
(R379, R380). -/
def capShowOne (s : State) (r : Nat) : State :=
  let x := s.region r
  let holders := (x.leases.map fun e => e.1.bitNo).foldl setBit 0
  let s := (s.set (CAP_REGION_STATUS.leases r) (min 255 x.leases.length)).set (CAP_REGION_STATUS.holders r) holders
  let s := s.set (CAP_REGION_STATUS.writing r) (b2n (s.capWriting r))
  if s.capShown r = (s.capMirror r).filter (fun e => e.1 != 2 && e.1 != 3) then s
  else s.touch (80 + r) 256 fun s => s.capMirror r

/-- CAP_REGION_STATUS of a region and of its record region follow their state. -/
def capShow (s : State) (r : Nat) : State :=
  match (s.region r).recLease with
  | some q => (s.capShowOne r).capShowOne q
  | none => s.capShowOne r

/-- A unit takes a lease on a region (R364). -/
def lease (s : State) (r : Nat) (c : LeaseClass) (n : Nat) : State :=
  (s.setRegion r { s.region r with leases := (c, n) :: (s.region r).leases }).capShow r

/-- A unit gives its lease back (R364). -/
def unlease (s : State) (r : Nat) (c : LeaseClass) (n : Nat) : State :=
  (s.setRegion r { s.region r with leases := (s.region r).leases.erase (c, n) }).capShow r

/-- The region that a region names for its records changes: the lease follows (R364). -/
def recLease (s : State) (r : Nat) (to_ : Option Nat) : State :=
  let s := match (s.region r).recLease with
    | some q => s.unlease q .records r
    | none => s
  let s := s.setRegion r { s.region r with recLease := to_ }
  match to_ with
  | some q => s.lease q .records r
  | none => s

/-- Bytes are written to a region's ring at a lifetime position; they wrap at its end. -/
def ringWrite (s : State) (r pos : Nat) (b : List Byte) : State :=
  let size := s.regionSize r
  let off := pos % size
  let s := s.memWrite (s.regionBase r + off) (b.take (size - off))
  s.memWrite (s.regionBase r) ((b.drop (size - off)).take size)

/-- A unit that names a region of kind SINK writes bytes to it (R366). -/
def sinkWrite (s : State) (r : Nat) (b : List Byte) : State :=
  let pos := s.f (CAP_REGION_WRITTEN.reg r)
  ((s.ringWrite r pos b).addWrap (CAP_REGION_WRITTEN.reg r) b.length).capShow r

/-! ### Where captures stand (R370 to R375) -/

/-- The unit that holds index `ix`, or the first after it, among held units; none while it has not been written. -/
def unitAt (hs : List Held) (ix : Nat) : Option Nat :=
  (hs.find? fun h => decide (ix ≤ h.last) && !h.gap).map fun h =>
    if h.count ≤ 1 ∨ ix * posUnit ≤ h.first then h.unit else h.unit + min (h.count - 1) ((ix * posUnit - h.first) / max 1 h.spacing)

/-- The first held unit that starts at or after index `ix` (R371); none where there is none yet. -/
def unitFrom : List Held → Nat → Option Nat
  | [], _ => none
  | h :: hs, ix =>
    let k := (ix * posUnit - h.first + h.spacing - 1) / max 1 h.spacing
    if k < h.count then some (h.unit + k) else unitFrom hs ix

/-- One past the newest held unit. -/
def unitsEnd (hs : List Held) (d : Nat) : Nat := (hs.getLast?.map fun h => h.unit + h.count).getD d

/-- The lifetime position of a unit among held units; `d` past their end. -/
def unitPos (hs : List Held) (u d : Nat) : Nat :=
  match hs.find? fun h => decide (h.unit ≤ u ∧ u < h.unit + h.count) with
  | some h => h.pos + (u - h.unit) * h.bytes / max 1 h.count
  | none => d

/-- Index of the first sample of a unit. -/
def unitFirst (hs : List Held) (u d : Nat) : Nat :=
  match hs.find? fun h => decide (h.unit ≤ u ∧ u < h.unit + h.count) with
  | some h => (h.first + (u - h.unit) * h.spacing) / posUnit
  | none => d

/-- Index of the last sample of a unit. -/
def unitLast (hs : List Held) (u d : Nat) : Nat :=
  match hs.find? fun h => decide (h.unit ≤ u ∧ u < h.unit + h.count) with
  | some h => if h.count ≤ 1 then h.last else (h.first + (u + 1 - h.unit) * h.spacing + posUnit - 1) / posUnit - 1
  | none => d

/-- Held units from unit `u` on. -/
def heldFrom (u : Nat) (hs : List Held) : List Held :=
  hs.filterMap fun h =>
    if h.unit + h.count ≤ u then none
    else if u ≤ h.unit then some h
    else
      let k := u - h.unit
      let skip := k * h.bytes / max 1 h.count
      some { h with unit := u, count := h.count - k, pos := h.pos + skip, bytes := h.bytes - skip, first := h.first + k * h.spacing }

/-- Units that the spans between held chunks lack (R368). -/
def missingUnits : List Held → Nat
  | [] => 0
  | [_] => 0
  | a :: b :: hs => (b.first - (a.first + a.count * a.spacing)) / max 1 a.spacing + missingUnits (b :: hs)

/-- Where a capture stands: its trigger's unit, its first unit, and one past its last, once it is complete or its formatter
has stopped; for CONTINUOUS, once its trigger's unit is written (R370 to R373, R375). -/
def capSpan (s : State) (r : Nat) (c : Capture) : Option (Nat × Nat × Nat) :=
  let g := s.region r
  let hs := g.held
  let stop := c.stop.getD (unitsEnd hs g.units)
  let oldest := (hs.head?.map Held.unit).getD g.units
  let first := max (max oldest c.floor) ((unitFrom hs c.since).getD g.units)
  let u := unitAt hs c.index
  if s.capMode r = 1 then u.map fun u => (u, u, u)
  else
    let at_ := min stop (u.getD stop)
    let span := (at_, min at_ (max first (at_ - c.pre)), min stop (at_ + c.post))
    if c.stop.isSome ∨ (u.isSome ∧ at_ + c.post ≤ stop) then some span else none

/-! ### The formatter (R366 to R374) -/

/-- Units of a parcel for a region, within a span of indices: the first and one past the last that it takes, the spacing of
units, and the bytes. -/
def fmtUnits (s : State) (r : Nat) (x : Parcel) (span : Nat × Option Nat) : Nat × Nat × Nat × (Nat → Nat → List Byte) :=
  let f := s.capFmt r
  let whole := decide (span.1 ≤ x.seq) && (match span.2 with
    | some h => decide (x.seq < h)
    | none => true)
  let sp := s.streamSpacing x.path x.stream x.kind
  let range := fun (n : Nat) =>
    let i0 := (((span.1 - x.seq) * posUnit + sp - 1) / sp)
    let i1 := match span.2 with
      | some h => min n (((h - x.seq) * posUnit + sp - 1) / sp)
      | none => n
    (i0, max i0 i1)
  match f with
  | 0 => (0, if whole then 1 else 0, sp, fun _ _ => x.bytes)
  | 1 => let r := range (x.payload.length / 2); (r.1, r.2, sp, fun i j => (x.payload.drop (2 * i)).take (2 * (j - i)))
  | 2 => (0, if whole then 1024 else 0, sp, fun i j => ((pack12 x.payload).drop (3 * i / 2)).take (3 * (j - i) / 2))
  | _ =>
    let float := s.streamFloat x.path x.stream x.seq
    let wantFloat := f == 4
    let b := if float == wantFloat then x.payload
      else if wantFloat then shortToFloat x.payload.length x.payload else floatToShort x.payload.length x.payload
    let u := if wantFloat then 8 else 4
    let r := range (b.length / u)
    (r.1, r.2, sp, fun i j => (b.drop (u * i)).take (u * (j - i)))

/-- A record number exceeds the one acknowledged, as serial numbers of 32 bits (R373). -/
def unacked (number ack : Nat) : Bool :=
  let d := (number + 2 ^ 32 - ack % 2 ^ 32) % 2 ^ 32
  d != 0 && decide (d < 2 ^ 31)

/-- The lifetime position that the formatter of a protected region may not write past (R373); none without a limit. -/
def protectLimit (s : State) (r : Nat) : Option Nat :=
  if !s.flag (CAP_REGION_SRC.protect r) then none
  else
    let g := s.region r
    let w := s.f (CAP_REGION_WRITTEN.reg r)
    let size := s.regionSize r
    let waiting := if s.capMode r = 0 then g.captures.zipIdx.filterMap fun c =>
        (s.capSpan r { c.1 with stop := some (c.1.stop.getD g.units) }).map fun u =>
          ({ number := (g.number + c.2) % 2 ^ 32, start := unitPos g.held u.2.1 w, stop := w + 1, runs := [] } : Recorded)
      else []
    let ls := ((g.recorded ++ waiting).filter fun c =>
      unacked c.number (s.f (CAP_REGION_ACK.reg r)) && decide (w < c.stop + size) && decide (c.start < c.stop)).map fun c => c.start + size
    match ls with
    | [] => none
    | l :: ls => some (ls.foldl min l)

/-- The formatter stops before it overwrites a protected byte (R373). -/
def capFull (s : State) (r : Nat) : State :=
  let g := s.region r
  let s := s.setRegion r { g with captures := g.captures.map fun c => c.stopBy g.units }
  ((s.set (CAP_REGION_STATUS.full r) 1).capShow r).raise (448 + r)

/-- The last sample that a stored parcel covers: as its header and length say, and of a spectrum or a record the last that it
depends on, as the path released it. -/
def parcelLast (s : State) (x : Parcel) (spacing : Nat) (float : Bool) : Nat :=
  match x.kind with
  | .block => x.seq + 1023
  | .iq => (x.seq * posUnit + x.payload.length / (if float then 8 else 4) * spacing) / posUnit - 1
  | _ => (((s.path x.path).spans.find? fun e => e.1 == x.stream && e.2.1 == x.seq).map fun e => e.2.2).getD x.seq

/-- The formatter of a region takes the units of a parcel that lie in one of its spans (R366 to R369, R373). -/
def capChunk (s : State) (r : Nat) (x : Parcel) (gap : Bool) (span : Nat × Option Nat) : State :=
  let f := s.capFmt r
  if s.flag (CAP_REGION_STATUS.full r) then s
  else
    let u := s.fmtUnits r x span
    let n := u.2.1 - u.1
    if n = 0 then s
    else
      let w := s.f (CAP_REGION_WRITTEN.reg r)
      let all := (u.2.2.2 u.1 u.2.1).length
      let fit := match s.protectLimit r with
        | none => n
        | some l => if w + all ≤ l then n else if f = 0 ∨ f = 2 then 0 else (l - w) * n / max 1 all
      let b := u.2.2.2 u.1 (u.1 + fit)
      let g := s.region r
      let one : Held :=
        { unit := g.units, count := if f = 0 then 1 else fit, pos := w, bytes := b.length,
          first := x.seq * posUnit + u.1 * u.2.2.1, spacing := u.2.2.1,
          last := if f = 0 then s.parcelLast x u.2.2.1 (s.streamFloat x.path x.stream x.seq) else (x.seq * posUnit + (u.1 + fit) * u.2.2.1 + posUnit - 1) / posUnit - 1,
          flags := x.flags % 256, marker := x.marker.map Prod.fst, gap := gap }
      let s := if fit = 0 then s
        else
          let size := s.regionSize r
          let keep := (g.held ++ [one]).filter fun h => decide (w + b.length < h.pos + h.bytes + size)
          let s := (s.ringWrite r w b).setRegion r { g with held := keep, units := g.units + one.count }
          (s.addWrap (CAP_REGION_WRITTEN.reg r) b.length).capShow r
      if fit < n then s.capFull r else s

/-- A span reaches to an index or beyond it. -/
def spanOpen (ix : Nat) (span : Nat × Option Nat) : Bool :=
  match span.2 with
  | some h => decide (ix < h)
  | none => true

/-- The formatter takes a parcel in the spans of a list, in order. -/
def capChunks (s : State) (r : Nat) (x : Parcel) (gap : Bool) : List (Nat × Option Nat) → State
  | [] => s
  | span :: spans => (s.capChunk r x gap span).capChunks r x gap spans

/-- The formatter of a region takes a parcel of its path's exit (R366 to R369, R373), in each span that it still works on. -/
def capFormat (s : State) (r : Nat) (x : Parcel) : State :=
  let f := s.capFmt r
  let mine := x.stream == s.f (CAP_REGION_SRC.stream r) && x.kind != .gap
  let gap := x.kind == .gap && f == 0
  let spans := (s.region r).spans.filter (spanOpen x.seq)
  let running := s.regionExists r && decide (s.capMode r < 2) && x.path == s.f (TRG_RGN_CTL.path r)
  let suits := match f with
    | 0 => true
    | 1 => x.kind == .block
    | 2 => x.kind == .block
    | _ => x.kind == .iq
  if !running || !((mine && suits) || gap) then s
  else (s.setRegion r { s.region r with spans := spans }).capChunks r x gap spans.reverse

/-! ### Captures (R370 to R375) -/

/-- The 128 bytes of a capture record (R375). -/
def capRecord (s : State) (r : Nat) (c : Capture) (u start stop : Nat) : List Byte :=
  let g := s.region r
  let cont := s.capMode r == 1
  let w := s.f (CAP_REGION_WRITTEN.reg r)
  let a := unitPos g.held start w
  let b := unitPos g.held stop w
  let span := (heldFrom start g.held).filter fun h => decide (h.unit < stop)
  let gaps := if s.capFmt r = 0 then 0 else missingUnits span
  let flags := (span.map Held.flags).foldl (· ||| ·) 0
  let mark := (span.filterMap Held.marker).getLast?
  let short := !cont && decide (u - start < c.pre)
  let inGap := gaps != 0 || span.any Held.gap
  c.trigger ++ leBytes 8 a ++ leBytes 8 (if cont then 0 else b - a) ++ leBytes 8 (unitFirst g.held start c.index) ++
    leBytes 8 (if cont then unitLast g.held u c.index else unitLast g.held (stop - 1) c.index) ++
    leBytes 4 (if cont then 0 else u - start) ++ leBytes 4 (if cont then 0 else c.pre) ++ leBytes 4 (if cont then 0 else stop - u) ++
    leBytes 4 gaps ++ leBytes 2 (flags + 2 ^ 8 * b2n mark.isSome) ++
    leBytes 1 (b2n short + 2 * b2n (bit flags flagCLK) + 4 * b2n (!cont && decide (stop < u + c.post)) + 8 * b2n inGap) ++
    leBytes 1 (s.capFmt r) ++ leBytes 4 g.number ++ leBytes 1 r ++ leBytes 1 (s.f (TRG_RGN_CTL.path r)) ++
    leBytes 1 (s.f (CAP_REGION_SRC.stream r)) ++ leBytes 1 (mark.getD 0) ++ List.replicate 20 0

/-- A capture ends: its record goes to the record region, and event 448 + r is raised (R375). -/
def capEndNow (s : State) (r : Nat) (c : Capture) (u start stop : Nat) : State :=
  let g := s.region r
  let w := s.f (CAP_REGION_WRITTEN.reg r)
  let rec_ := s.capRecord r c u start stop
  let a := unitPos g.held start w
  let b := unitPos g.held stop w
  let cont := s.capMode r == 1
  let size := s.regionSize r
  let recorded := if cont then g.recorded
    else (g.recorded.filter fun x => decide (w < x.stop + size)) ++
      [{ number := g.number, start := a, stop := b
         runs := ((heldFrom start g.held).filter fun h => decide (h.unit < stop)).map fun h => (h.pos, h.first) }]
  let s := s.setRegion r { g with
    captures := g.captures.drop 1, number := (g.number + 1) % 2 ^ 32, recorded := recorded, lastStart := a,
    held := if cont then g.held else heldFrom stop g.held
    capEnd := if cont then g.capEnd else unitLast g.held (stop - 1) c.index + 1 }
  let s := s.sinkWrite (s.f (CAP_REGION_SRC.rec_region r)) rec_
  (((s.addWrap (CAP_REGION_RECS.reg r) 1).capShow r).raise (448 + r))

/-! ### Create, resize, free (R361 to R363) -/

/-- The spans of two regions meet. -/
def spansMeet (a m b n : Nat) : Bool := decide (a < b + n) && decide (b < a + m)

/-- Why geometry is refused, for a create or resize of region `r` (R361, R362); 0 for none. -/
def geometryCode (s : State) (r base log2 : Nat) : Nat :=
  if base % 2 ^ log2 ≠ 0 then 4
  else if log2 < 20 ∨ 37 < log2 ∨ s.memCapacity < base + 2 ^ log2 then 5
  else if (List.range 64).any fun q => q != r && s.regionExists q && spansMeet base (2 ^ log2) (s.regionBase q) (s.regionSize q)
    then 6
  else 0

/-- A region is leased, armed or busy. -/
def regionInUse (s : State) (r : Nat) : Bool := !(s.region r).leases.isEmpty || s.rgnState r != 0

/-- A region becomes that of new geometry with nothing written. -/
def regionFresh (s : State) (r base log2 : Nat) (create : Bool) : State :=
  let x := s.region r
  let y := if create then { RegionSt.reset with acted := x.acted, recLease := x.recLease } else { x with held := [], recorded := [], captures := [], spans := [] }
  let s := s.setRegion r { y with base := base, sizeLog2 := log2, leases := if create then [] else x.leases }
  (s.set (CAP_REGION_WRITTEN.reg r) 0).set (CAP_REGION_STATUS.full r) 0

/-- A region ceases to exist; the memory stays as it is (R363). -/
def regionGone (s : State) (r : Nat) : State :=
  let s := s.recLease r none
  let s := s.setRegion r { RegionSt.reset with acted := (s.region r).acted }
  (((s.set (CAP_REGION_STATUS.exists_ r) 0).set (CAP_REGION_WRITTEN.reg r) 0).set (CAP_REGION_STATUS.full r) 0).capShow r

/-- The record region that a region names, where it exists (R364, R375). -/
def recTake (s : State) (r : Nat) : State :=
  let q := s.f (CAP_REGION_SRC.rec_region r)
  if s.regionExists r && decide (s.capMode r < 2) && s.regionExists q && q != r then s.recLease r (some q) else s.recLease r none

/-- Every region of a list that names region `q` for its records takes the lease, once `q` exists (R364). -/
def recTakeAll (s : State) (q : Nat) : List Nat → State
  | [] => s
  | r :: rs => (if r != q && s.f (CAP_REGION_SRC.rec_region r) == q then s.recTake r else s).recTakeAll q rs

/-- The code of an allocation (R362). -/
def allocCode (s : State) (op r : Nat) : Nat :=
  let base := s.f (CAP_REGION_BASE.reg r)
  let log2 := s.f (CAP_REGION_SIZE.size_log2 r)
  match op with
  | 1 => if s.regionExists r then 2 else s.geometryCode r base log2
  | 2 =>
    if !s.regionExists r then 3 else if s.regionInUse r then 1
    else s.geometryCode r (s.regionBase r) log2
  | _ => if !s.regionExists r then 3 else if s.regionInUse r then 1 else 0

/-- Captures of a region that still wait for their record end with the units written so far (R375). -/
def endCaptures (s : State) (r : Nat) : Nat → State
  | 0 => s
  | n + 1 =>
    match (s.region r).captures with
    | [] => s
    | c :: _ =>
      let c := c.stopBy (s.region r).units
      match s.capSpan r c with
      | none => s.setRegion r { s.region r with captures := [] }
      | some (u, start, stop) => (s.capEndNow r c u start stop).endCaptures r n

/-- An allocation is made (R362, R363): a resize keeps the base. Captures of the old geometry end first. -/
def allocDo (s : State) (op r : Nat) : State :=
  let log2 := s.f (CAP_REGION_SIZE.size_log2 r)
  let s := s.endCaptures r (s.region r).captures.length
  match op with
  | 1 =>
    let s := (s.regionFresh r (s.f (CAP_REGION_BASE.reg r)) log2 true).set (CAP_REGION_STATUS.exists_ r) 1
    ((s.recTake r).recTakeAll r (List.range 64)).capShow r
  | 2 => (s.regionFresh r (s.regionBase r) log2 false).capShow r
  | _ => s.regionGone r

/-- A write to CAP_ALLOC (R362). -/
def allocWrite (s : State) (v : Nat) : State :=
  let op := bits v 30 2
  let r := v % 64
  if op = 0 then s
  else
    let code := s.allocCode op r
    let s := (s.set CAP_ALLOC_STATUS.region r).set CAP_ALLOC_STATUS.code code
    if code = 0 then s.allocDo op r else s

/-! ### Arming (R367, R370, R375) -/

/-- Bytes of a unit of a region, for the size check at arming; parcels count 2,080 bytes for a block, else the most. -/
def unitBytes (s : State) (r : Nat) : Nat × Nat :=
  match s.capFmt r with
  | 1 => (2, 1)
  | 2 => (3, 2)
  | 3 => (4, 1)
  | 4 => (8, 1)
  | _ => if s.streamKind (s.f (TRG_RGN_CTL.path r)) (s.f (CAP_REGION_SRC.stream r)) = some .block then (2080, 1) else (8224, 1)

/-- The stream that a region names suits its format (R367). -/
def fmtSuits (s : State) (r : Nat) : Bool :=
  let k := s.streamKind (s.f (TRG_RGN_CTL.path r)) (s.f (CAP_REGION_SRC.stream r))
  match s.capFmt r with
  | 0 => true
  | 1 => k == some .block
  | 2 => k == some .block
  | _ => k == some .iq

/-- An arm of region `r` is accepted: the region exists, its pre and post spans fit, and its record region is there
(R340, R370, R375). -/
def armFits (s : State) (r : Nat) : Bool :=
  let u := s.unitBytes r
  let q := s.f (CAP_REGION_SRC.rec_region r)
  s.regionExists r && (s.capMode r == 2 ||
    (decide ((s.f (CAP_REGION_PRE.reg r) + s.f (CAP_REGION_POST.reg r)) * u.1 ≤ s.regionSize r * u.2) &&
      s.regionExists q && s.capMode q == 2))

/-- Region `r` is armed from index `ix` on (R340, R366, R371); an arm that does not suit is dropped. -/
def rgnArm (s : State) (r ix : Nat) : State :=
  if s.rgnState r ≠ 0 ∨ !s.armFits r then s
  else if s.capMode r < 2 ∧ !s.fmtSuits r then s.raise (448 + r)
  else
    let s := s.setRegion r { s.region r with spans := (ix, none) :: (s.region r).spans, since := ix, offAt := none }
    (s.set (TRG_RGN_CTL.state r) 1).capShow r

/-! ### Acknowledging (R373) -/

/-- A write to CAP_REGION_ACK: with the protection lifted, the formatter resumes at the next unit and the pre-trigger count
starts again (R373). -/
def ackWrite (s : State) (r v : Nat) : State :=
  let s := s.set (CAP_REGION_ACK.reg r) v
  let w := s.f (CAP_REGION_WRITTEN.reg r)
  let free := match s.protectLimit r with
    | none => true
    | some l => decide (w < l)
  if s.flag (CAP_REGION_STATUS.full r) && free then
    let s := s.setRegion r { s.region r with floor := (s.region r).units }
    (s.set (CAP_REGION_STATUS.full r) 0).capShow r
  else s

/-- A write to CAP_REGION_SRC of a disarmed region (R364, R366). -/
def capSrcWrite (s : State) (r v : Nat) : State :=
  let s := s.plainWrite (CAP_REGION_SRC.reg r).addr v
  (s.recTake r).capShow r

/-! ### The BAR4 window (R376, R377) -/

/-- The base of a port's BAR4 window: a multiple of 1 MiB (R376). -/
def winBase (s : State) (p : Port) : Nat := s.f (CAP_BAR4_WIN.reg p.idx) / 2 ^ 20 * 2 ^ 20

/-- A write to one word of CAP_BAR4_WIN (R11, R376): the high word waits for the low one. -/
def bar4WinWrite (s : State) (p : Port) (high : Bool) (v : Nat) : State :=
  let off := (CAP_BAR4_WIN.reg 0).addr
  let w := CAP_BAR4_WIN.reg p.idx
  if high then s.pendHigh p off v
  else (s.highUsed p).set w (((s.highFor p off).getD (s.f w / 2 ^ 32) * 2 ^ 32 + v) / 2 ^ 20 * 2 ^ 20)

end State

/-! ### Meanings -/

/-- CAP_ALLOC_CREATE (R361, R362): a write to CAP_ALLOC with op 0x1. -/
def execCapAllocCreate (p : Port) (v : Word) (s : State) : Res :=
  .next (s.hubWrite p CAP_ALLOC.reg.addr (some 6) fun s => s.allocWrite (2 ^ 30 + v.toNat % 2 ^ 30))

/-- CAP_ALLOC_RESIZE (R362, R363): a write to CAP_ALLOC with op 0x2. -/
def execCapAllocResize (p : Port) (v : Word) (s : State) : Res :=
  .next (s.hubWrite p CAP_ALLOC.reg.addr (some 6) fun s => s.allocWrite (2 * 2 ^ 30 + v.toNat % 2 ^ 30))

/-- CAP_ALLOC_FREE (R362, R363): a write to CAP_ALLOC with op 0x3. -/
def execCapAllocFree (p : Port) (v : Word) (s : State) : Res :=
  .next (s.hubWrite p CAP_ALLOC.reg.addr (some 6) fun s => s.allocWrite (3 * 2 ^ 30 + v.toNat % 2 ^ 30))

/-- CAP_ACK_WRITE (R373): a write to CAP_REGION_ACK. -/
def execCapAckWrite (p : Port) (r : Fin 64) (v : Word) (s : State) : Res :=
  .next (s.hubWrite p (CAP_REGION_ACK.reg r).addr none fun s => s.ackWrite r v.toNat)

/-- CAP_BAR4_WIN_WRITE (R376): a write to a word of the port's CAP_BAR4_WIN. -/
def execCapBar4WinWrite (p : Port) (high : Bool) (v : Word) (s : State) : Res :=
  .next (s.hubWrite p ((CAP_BAR4_WIN.reg 0).addr + 4 * b2n high) none fun s => s.bar4WinWrite p high v.toNat)

end Sys2Proof.Machine
end

