-- ==== Sys2Proof/Machine/Trig.lean ====
section
/-! DEFINITION. The trigger engine (10_triggers.md), fast level triggers (R195 to R197), averaging, and the formatter's and
the capture's commands of 11_capture_memory.md. -/

namespace Sys2Proof.Machine

namespace State

/-! ### Conditions (R325, R330, R332) -/

/-- A path analyses samples (R332): it is there, holds a mode, is not the upper path of a WIDE pair and has not stopped. -/
def analysing (s : State) (p : Nat) : Bool :=
  s.pathPresent p && (s.path p).img.isSome && s.mode p != 0 && !s.wideUpper p && !(s.path p).stopped && s.running p

/-- The source of a condition is used by its path's image (R332). -/
def sourceUsed (s : State) (c p : Nat) : Bool :=
  let sel := s.f (TRG_COND.sel c)
  match s.f (TRG_COND.kind c) with
  | 1 => sel == 0 && s.usesDdc p || (8 ≤ sel && sel < 16 && s.winUsed p (sel - 8))
  | 2 => s.flag (MSK_BIND.en (sel % 64)) && (s.xfCfg p (s.f (MSK_BIND.inst (sel % 64)))).source != 0
  | 3 => (s.xfCfg p 0).source != 0
  | 4 => s.flag (SK_CTL.en p)
  | _ => true

/-- A condition is inactive (R332). -/
def condInactive (s : State) (c : Nat) : Bool := !s.analysing (s.homeOf c) || !s.sourceUsed c (s.homeOf c)

/-- A condition's status follows its home path and source (R332). -/
def condShow (s : State) (c : Nat) : State :=
  let off := s.condInactive c
  let s := s.set (TRG_STATUS.inactive c) (b2n off)
  if off then (s.set (TRG_STATUS.raw c) 0).setCond c { s.cond c with due := [], raw := false, run := 0, prev := none } else s

/-- The status of every condition follows its home path and source. -/
def condsShow (s : State) : State := (List.range 64).foldl condShow s

/-! ### Time and index (R333, R334) -/

/-- The block of a path that begins at or before a time in phase bins. -/
def refAtTime (s : State) (p t : Nat) : Option BlockRef :=
  (s.path p).refs.find? fun r => decide (64 * r.tick + r.phase ≤ t)

/-- The latest sample of a path taken at or before a time, and the remainder in 1/64 sample (R333, R334). -/
def indexBefore (s : State) (p t : Nat) : Nat × Nat :=
  match s.refAtTime p t with
  | none => (0, 0)
  | some r =>
    let n := (t - (64 * r.tick + r.phase)) * r.fs24 * 64 / (64 * 2560000000 * 2 ^ 24)
    (r.seq + n / 64, n % 64)

/-- The first sample of a path at or after a time (R83, R330). -/
def indexAfter (s : State) (p t : Nat) : Nat :=
  match s.refAtTime p t with
  | none => ((s.path p).refs.getLast?.map (·.seq)).getD (s.f (GLB_SEQ.reg p))
  | some r =>
    let d := 64 * 2560000000 * 2 ^ 24
    r.seq + ((t - (64 * r.tick + r.phase)) * r.fs24 + d - 1) / d

/-! ### Arming (R330) -/

/-- The sample of path `p` from which an arm or a disarm holds (R330). -/
def armIndex (s : State) (p : Nat) (e : ArmChange) : Nat := e.index.getD (s.indexAfter p e.time.bins)

/-- A condition with home path `p` is armed at an index of it (R330). -/
def armedAt (s : State) (p : Nat) (x : CondSt) (ix : Nat) : Bool :=
  ((x.changes.filter fun e => decide (s.armIndex p e ≤ ix)).getLast?.map ArmChange.on).getD x.armed

/-- A condition is armed or disarmed from a stamp on, on a REPLAY path from the next sample that it takes (R330;
log entry 23). -/
def condArm (s : State) (c : Nat) (on : Bool) (t : Stamp) : State :=
  let x := s.cond c
  let p := s.homeOf c
  let e : ArmChange := { on := on, time := t, index := if s.mode p = 7 then some (s.nextSample p) else none }
  (s.set (TRG_COND.armed c) (b2n on)).setCond c { x with changes := x.changes ++ [e] }

/-- An input that a condition of kind 0x5 takes is stuck (R345). -/
def inputStuck (s : State) (sel : Nat) : Bool :=
  if sel < 4 then s.flag (TRG_IN_STATUS.stuck sel) else 16 ≤ sel && sel < 32 && s.flag (TIU_EV_STATUS.stuck (sel - 16))

/-- TRG_STATUS as it reads (R332, R345, R352): whether the condition is inactive, its input stuck and its hold-off in force
follow the state as it stands. -/
def trgStatus (s : State) (c : Nat) : Nat :=
  let off := s.condInactive c
  let holding : Bool := match (s.cond c).last with
    | some l => decide (s.now.bins < l.bins + 64 * s.f (TRG_HOLD.reg c))
    | none => false
  let w := insertBits (s.f (TRG_STATUS.reg c)) 0 1 (b2n ((s.cond c).raw && !off))
  let w := insertBits w 1 1 (b2n holding)
  insertBits (insertBits w 2 1 (b2n (s.f (TRG_COND.kind c) == 5 && s.inputStuck (s.f (TRG_COND.sel c))))) 3 1 (b2n off)

/-- The words of a condition's mirror group (R355). -/
def condMirror (s : State) (c : Nat) : List (Nat × Nat) :=
  let x := s.cond c
  let t := x.last.getD ⟨0, 0⟩
  let l := s.f (TRG_LAST.reg c)
  let m := s.f (TRG_MISSED_AT.reg c)
  [(1, s.trgStatus c % 32 + 2 ^ 30 * b2n x.lastSuppressed + 2 ^ 31 * s.f (TRG_COND.armed c)),
   (2, t.tick % 2 ^ 32), (3, t.tick / 2 ^ 32), (4, t.phase + 2 ^ 8 * s.f (TRG_STATUS.last_frac c)), (5, l % 2 ^ 32),
   (6, l / 2 ^ 32), (7, s.f (TRG_FIRED.reg c)), (8, s.f (TRG_MISSED.reg c)), (9, s.f (TRG_SUPPRESSED.reg c)),
   (10, m % 2 ^ 32), (11, m / 2 ^ 32), (12, s.f (TRG_STATUS.missed_phase c))]

/-- The mirror group of a condition follows a firing or a miss (R355). -/
def condTouch (s : State) (c : Nat) : State := s.touch (16 + c) 256 fun s => s.condMirror c

/-! ### Evaluation (R326 to R328, R333) -/

/-- 10 ^ ((word - 51200) / 2560) is at least `num ÷ den`: the linear power of a level word against a ratio (R327). -/
def levelAtLeast (word num den : Nat) : Bool :=
  decide (num ^ 2560 * 10 ^ 51200 ≤ den ^ 2560 * 10 ^ word)

/-- 10 ^ ((word - 51200) / 2560) is at most `num ÷ den`. -/
def levelAtMost (word num den : Nat) : Bool :=
  decide (den ^ 2560 * 10 ^ word ≤ num ^ 2560 * 10 ^ 51200)

/-- The crossing of a level between two samples at positions `p0` and `p1`, of powers `a` and `b`, in 1/64 converter sample,
rounded to nearest (R333): the largest number that lies half a unit or less beyond the crossing; bit by bit, from `m` on. -/
def crossing (word a b p0 p1 : Nat) : Nat → Nat → Nat
  | 0, m => m
  | n + 1, m =>
    let x := m + 2 ^ n
    -- how far the instant half a unit before x lies from p0, in half units of a position; the power there times k
    let d : Int := ((2 * x - 1 : Nat) : Int) * ((posUnit / 64 : Nat) : Int) - 2 * (p0 : Int)
    let k := 2 * (p1 - p0)
    let at_ : Int := (k : Int) * (a : Int) + d * ((b : Int) - (a : Int))
    let full := 4 * 32752 * 32752 * k
    let before := decide (d ≤ 0) ||
      (decide (d ≤ (k : Int)) && if a ≤ b then levelAtLeast word at_.toNat full else levelAtMost word at_.toNat full)
    if before then crossing word a b p0 p1 n x else crossing word a b p0 p1 n m

/-- An occurrence at an index of the home path waits for its decision (R333, R336); without flags, those of the block that
holds the sample count (R339). -/
def enqueue (s : State) (c ix frac : Nat) (flags : Option Nat) : State :=
  let p := s.homeOf c
  let t := s.timeAt p (ix * posUnit + frac * (posUnit / 64))
  let o : Occ := { cond := c, index := ix, frac := frac, tick := t.tick, phase := t.phase, flags := flags.getD 0, inGap := false,
                   by_ := if flags.isSome then .index else .sample }
  { s with trg := { s.trg with queue := s.trg.queue ++ [o] } }

/-- The raw state of a condition becomes `b`. -/
def setRaw (s : State) (c : Nat) (b : Bool) : State :=
  (s.setCond c { s.cond c with raw := b }).set (TRG_STATUS.raw c) (b2n b)

/-- The raw state of a kind that works on spectra becomes `b` at an evaluation point: an occurrence where it turns true,
or at every such point with retrig (R326, R328). -/
def rawPoint (s : State) (c : Nat) (b : Bool) (ix flags : Nat) : State :=
  let old := (s.cond c).raw
  let s := s.setRaw c b
  if b && (!old || s.flag (TRG_COND.retrig c)) then s.enqueue c ix 0 (some flags) else s

/-- The new raw state, with hysteresis (R328). -/
def hyst (old on off : Bool) : Bool := if old then !off else on

/-- The index and the 64ths at which the power crossed a level on its way from the previous sample to one at a position (R333). -/
def crossAt (prev : Option (Nat × Nat)) (word pos p : Nat) : Nat × Nat :=
  match prev with
  | some (p0, a) =>
    if p0 < pos then
      let m := crossing word a p p0 pos 28 (p0 / (posUnit / 64))
      (m / 64, m % 64)
    else (pos / posUnit, 0)
  | none => (pos / posUnit, 0)

/-- The stamp of the occurrence that the mode of a condition sees at an IQ sample, where it sees one; `x` is the condition
before the sample (R327, R333). -/
def iqStamp (s : State) (c pos p : Nat) (x : CondSt) (raw : Bool) : Option (Nat × Nat) :=
  match s.f (TRG_COND.mode c) with
  | 0 => if raw && !x.raw then some (crossAt x.prev (s.f (TRG_PARAM.hi c)) pos p) else none
  | 1 => if !raw && x.raw then some (crossAt x.prev (s.f (TRG_PARAM.lo c)) pos p) else none
  | 2 =>
    if !raw && x.raw && decide (s.f (TRG_WMIN.reg c) ≤ x.run ∧ x.run ≤ s.f (TRG_WMAX.reg c)) then some (pos / posUnit, 0)
    else none
  | 3 => if raw && (if x.raw then x.run else 0) == s.f (TRG_WMAX.reg c) then some (pos / posUnit, 0) else none
  | _ => none

/-- An IQ sample at a position is evaluated (R326, R327, R333): the occurrence of its mode, and with retrig every sample at which
the raw state is true is one. -/
def iqPoint (s : State) (c pos : Nat) (v : IQ) : State :=
  let x := s.cond c
  let ix := pos / posUnit
  let p := power4 v
  let lv := levelWord p
  let raw := hyst x.raw (decide (s.f (TRG_PARAM.hi c) ≤ lv)) (decide (lv < s.f (TRG_PARAM.lo c)))
  let run := if raw then (if x.raw then x.run + 1 else 1) else 0
  let stamp := s.iqStamp c pos p x raw
  let s := (s.setRaw c raw).setCond c { (s.cond c) with raw := raw, run := run, prev := some (pos, p) }
  match stamp with
  | some e => s.enqueue c e.1 e.2 none
  | none => if raw && s.flag (TRG_COND.retrig c) then s.enqueue c ix 0 none else s

/-- A mask result, a band report or a kurtosis block is evaluated (R328). -/
def reportPoint (s : State) (c : Nat) (d : EvalDue) : State :=
  let old := (s.cond c).raw
  let hi := s.f (TRG_PARAM.hi c)
  let lo := s.f (TRG_PARAM.lo c)
  let mode := s.f (TRG_COND.mode c)
  match d with
  | .mask r =>
    let n := max 1 lo
    let b := match mode with
      | 0 => hyst old (decide (n ≤ r.up)) (decide (r.up < n))
      | 1 => hyst old (decide (n ≤ r.down)) (decide (r.down < n))
      | 2 => hyst old (decide (n ≤ r.up + r.down)) (decide (r.up + r.down < n))
      | 3 => hyst old (decide (0 < r.up ∧ hi ≤ r.excess)) (decide (r.up = 0 ∨ r.excess < hi))
      | _ => false
    s.rawPoint c b r.seq r.flags
  | .band none => s.setRaw c false
  | .band (some r) =>
    let b := match mode with
      | 0 => hyst old (decide (hi ≤ r.peak)) (decide (r.peak < lo))
      | 1 => hyst old (decide (hi ≤ r.power)) (decide (r.power < lo))
      | 2 => hyst old (decide (r.power ≤ lo)) (decide (hi < r.power))
      | _ => false
    s.rawPoint c b r.first r.flags
  | .kurtosis _ _ none => s.setRaw c false
  | .kurtosis first flags (some n) => s.rawPoint c (hyst old (decide (lo ≤ n)) (decide (n < lo))) first flags
  | .iq _ _ => s

/-- A condition evaluates the oldest point that is due; an IQ sample where the operand names its index (R326 to R328). An
inactive condition has nothing to evaluate (R332). -/
def evaluate (s : State) (c : Nat) (e : EvalPoint) : State :=
  let inactive := s.condInactive c
  let s := s.set (TRG_STATUS.inactive c) (b2n inactive)
  let next := fun (ds : List EvalDue) => s.setCond c { s.cond c with due := ds }
  if inactive then (next []).setRaw c false
  else
    match e, (s.cond c).due with
    | .iq ix, .iq pos v :: ds => if ix = pos / posUnit then (next ds).iqPoint c pos v else s
    | .iq _, _ => s
    | .report, .iq _ _ :: _ => s
    | .report, d :: ds => (next ds).reportPoint c d
    | .report, [] => s

/-- New baseband samples of a path become due for the conditions on its IQ level (R281, R325). -/
def baseDue (s : State) (p : Nat) (base : List Smp) : State :=
  s.dueTo (s.condsOf p 1 fun sel => sel == 0) fun _ => base.map iqDue

/-- New samples of a path's windows become due for the conditions on their level. -/
def winsDue (s : State) (p : Nat) : List (Nat × List Smp) → State
  | [] => s
  | e :: es => (s.dueTo (s.condsOf p 1 fun sel => sel == 8 + e.1) fun _ => e.2.map iqDue).winsDue p es

/-! ### Gaps and flags (R339, R344) -/

/-- An index of a path lies in a gap of scope INPUT, open or closed (R344). -/
def inInputGap (s : State) (p ix : Nat) : Bool :=
  (s.path p).gaps.any (fun g => g.scope == 0 && decide (g.first ≤ ix ∧ ix < g.stop)) ||
    (s.path p).closed.any fun g => decide (g.1 ≤ ix ∧ ix < g.2)

/-- An occurrence with its index, fraction and flags on the home path (R333, R339, R344). A force on a REPLAY path is at the
next sample that the path took: no live time is mapped onto it (R334; log entry 23). -/
def occSettle (s : State) (o : Occ) : Occ :=
  let p := s.homeOf o.cond
  let t := 64 * o.tick + o.phase
  let o := match o.by_ with
    | .index => o
    | .sample => o
    | .input => { o with index := (s.indexBefore p t).1, frac := (s.indexBefore p t).2 }
    | .forced => if s.mode p = 7 then o else { o with index := s.indexAfter p t, frac := 0 }
  let flags := match o.by_ with
    | .index => o.flags
    | _ => ((s.refAt p o.index).map (·.flags)).getD 0
  { o with flags := flags, inGap := s.inInputGap p o.index }

/-! ### Firings (R338, R339, R335) -/

/-- The time of an occurrence in phase bins. -/
def occBins (o : Occ) : Nat := 64 * o.tick + o.phase

/-- An occurrence stands before another in the order of decision (R336). -/
def occBefore (a b : Occ) : Bool :=
  decide (occBins a < occBins b) || (occBins a == occBins b && (decide (a.frac < b.frac ∧ a.by_ = .index ∧ b.by_ = .index) ||
    (!decide (b.frac < a.frac ∧ a.by_ = .index ∧ b.by_ = .index) && decide (a.cond < b.cond))))

/-- An occurrence takes its place in a list in order. -/
def occInsert (o : Occ) : List Occ → List Occ
  | [] => [o]
  | x :: xs => if occBefore o x then o :: x :: xs else x :: occInsert o xs

/-- A disarm of the sequence stands between the firing that opened a window and a later one (R335). -/
def windowShut (x : CondSt) (w : SeqWindow) (o : Occ) : Bool :=
  x.changes.any fun e => !e.on && match e.index with
    | some i => decide (w.index < i ∧ i ≤ o.index)
    | none => decide (w.opened ≤ e.time.bins ∧ e.time.bins ≤ occBins o)

/-- Sequences that take condition `c` as a member see its firing at `o`: the second member's firing inside an open window
is an occurrence of the sequence, each of the first member's opens a window (R335). -/
def seqSee (s : State) (o : Occ) (d : Nat) : State × Option Occ :=
  if s.f (TRG_COND.kind d) ≠ 7 then (s, none)
  else
    let x := s.cond d
    let t := occBins o
    let ws := x.windows.filter fun w => !windowShut x w o
    let hit := s.f (TRG_SEQ.second d) == o.cond && ws.any fun w => decide (w.lo ≤ t ∧ t ≤ w.hi)
    let ws := if hit then [] else ws
    let opened : SeqWindow :=
      { opened := t, index := o.index, lo := t + 64 * s.f (TRG_WMIN.reg d), hi := t + 64 * s.f (TRG_WMAX.reg d) }
    let ws := if s.f (TRG_SEQ.first d) = o.cond then ws ++ [opened] else ws
    (s.setCond d { x with windows := ws }, if hit then some { o with cond := d, by_ := .index } else none)

/-- Every sequence of a list sees a firing; the answer holds the sequences' own occurrences. -/
def seqsSee (s : State) (o : Occ) : List Nat → State × List Occ
  | [] => (s, [])
  | d :: ds =>
    let r := s.seqSee o d
    let t := r.1.seqsSee o ds
    (t.1, r.2.toList ++ t.2)

/-- An occurrence falls into its condition's hold-off (R338). -/
def condMiss (s : State) (o : Occ) : State :=
  let c := o.cond
  let s := if s.f (TRG_MISSED.reg c) = 0 then (s.set (TRG_MISSED_AT.reg c) o.tick).set (TRG_STATUS.missed_phase c) o.phase else s
  ((s.bump (TRG_MISSED.reg c)).raise (192 + 4 * c + 1)).condTouch c

/-- An occurrence is a firing (R338, R339); `clk` when it is suppressed. -/
def condFire (s : State) (o : Occ) (clk : Bool) : State :=
  let c := o.cond
  let s := s.setCond c { s.cond c with last := some ⟨o.tick, o.phase⟩, lastSuppressed := clk }
  let s := (s.bump (TRG_FIRED.reg c)).set (TRG_LAST.reg c) o.index
  let s := (s.set (TRG_STATUS.last_frac c) o.frac).set (TRG_STATUS.holding c) (b2n (s.f (TRG_HOLD.reg c) != 0))
  let s := if clk then s.bump (TRG_SUPPRESSED.reg c) else s
  (s.raise (192 + 4 * c)).condTouch c

/-- An occurrence comes to nothing: its condition has no source (R325), is not armed at its sample (R330), or takes an input and
is inactive or on a REPLAY path, onto which no time is mapped (R332, R334). A force is ignored only while disarmed (R331). -/
def occVoid (s : State) (o : Occ) : Bool :=
  let p := s.homeOf o.cond
  s.f (TRG_COND.kind o.cond) == 0 || !s.armedAt p (s.cond o.cond) o.index ||
    (o.by_ == .input && (s.condInactive o.cond || s.mode p == 7))

/-- Occurrences in order of decision become misses or firings; the answer holds the firings that are not suppressed (R336
to R339). The first argument bounds the number of occurrences, sequences included. -/
def decideAll (s : State) : Nat → List Occ → State × List Occ
  | 0, _ => (s, [])
  | _, [] => (s, [])
  | n + 1, o :: os =>
    let o := s.occSettle o
    let x := s.cond o.cond
    let t := occBins o
    if s.occVoid o then s.decideAll n os
    else
      let held := match x.last with
        | some l => decide (t < l.bins + 64 * s.f (TRG_HOLD.reg o.cond))
        | none => false
      if held then (s.condMiss o).decideAll n os
      else
        let clk := bit o.flags flagCLK
        let r := (s.condFire o clk).seqsSee o ((List.range 64).drop (o.cond + 1))
        let t := r.1.decideAll n (r.2.foldl (fun l x => occInsert x l) os)
        (t.1, if clk then t.2 else o :: t.2)

/-! ### Pins (R346 to R348) -/

/-- A trigger output. -/
def trgOut (s : State) (o : Nat) : TrigOut := s.trg.outs.get { drive := .hiZ, stop := none, due := [] } o

/-- The state with a trigger output changed. -/
def setTrgOut (s : State) (o : Nat) (x : TrigOut) : State :=
  { s with trg := { s.trg with outs := s.trg.outs.put { drive := .hiZ, stop := none, due := [] } o x } }

/-- What an output pin drives: active or inactive, by its polarity; nothing while oe is 0 (R346). -/
def outDrive (s : State) (o : Nat) (active : Bool) : Drive :=
  if !s.flag (TRG_OUT_CTL.oe o) then .hiZ else if active != s.flag (TRG_OUT_CTL.pol o) then .high else .low

/-- A pulse starts, or is extended, at engine time now (R346); outside RUN the pins stay at their inactive level (R351). -/
def outPulse (s : State) (o : Nat) : State :=
  if !s.flag (TRG_OUT_CTL.oe o) || s.f PWR_STATE.state != 0 then s
  else s.setTrgOut o { s.trgOut o with drive := s.outDrive o true,
                                       stop := some (s.now.tick + max 1 (s.f (TRG_OUT_CTL.width o))) }

/-- Pulses on every output of a list whose direct field is `code` (R346). -/
def directPulse (s : State) (code : Nat) : List Nat → State
  | [] => s
  | o :: os => (if s.f (TRG_OUT_CTL.direct o) = code then s.outPulse o else s).directPulse code os

/-- A tick takes its place among those due, the earliest first. -/
def dueInsert (t : Nat) : List Nat → List Nat
  | [] => [t]
  | x :: xs => if t < x then t :: x :: xs else x :: dueInsert t xs

/-- A firing reaches an output whose mask names its condition: at the decision, or at its aligned tick (R347, R348). -/
def outFire (s : State) (f : Occ) (o : Nat) : State :=
  if !bit (s.f (TRG_OUT_MASK.reg o)) f.cond ∨ !s.flag (TRG_OUT_CTL.oe o) then s
  else if !s.flag (TRG_OUT_CTL.aligned o) then s.outPulse o
  else
    let due := (occBins f + 63) / 64 + max 5120 (s.f (TRG_OUT_DLY.reg o))
    if due < s.now.tick then (s.outPulse o).bump (TRG_OUT_LATE.reg o)
    else s.setTrgOut o { s.trgOut o with due := dueInsert due (s.trgOut o).due }

/-- Firings reach the outputs of a list. -/
def outsFire (s : State) (f : Occ) : List Nat → State
  | [] => s
  | o :: os => (s.outFire f o).outsFire f os

/-! ### Regions (R340 to R344) -/

/-- A firing on a region's timeline: its index and fraction there. -/
structure RgnFire where
  index : Nat
  frac : Nat
  occ : Occ

/-- A firing on the timeline of a region's path; none where it does not reach it (R334, R337). -/
def onRegion (s : State) (r : Nat) (o : Occ) : Option RgnFire :=
  let p := s.f (TRG_RGN_CTL.path r)
  let h := s.homeOf o.cond
  if h = p then some { index := o.index, frac := o.frac, occ := o }
  else if s.mode p = 7 ∨ s.mode h = 7 then none
  else some { index := (s.indexBefore p (occBins o)).1, frac := (s.indexBefore p (occBins o)).2, occ := o }

/-- The order in which firings are applied to a region (R336). -/
def fireBefore (a b : RgnFire) : Bool :=
  decide (a.index < b.index) || (a.index == b.index && (decide (a.frac < b.frac) || (a.frac == b.frac && decide (a.occ.cond < b.occ.cond))))

/-- A firing takes its place in order. -/
def fireInsert (f : RgnFire) : List RgnFire → List RgnFire
  | [] => [f]
  | g :: gs => if fireBefore f g then f :: g :: gs else g :: fireInsert f gs

/-- Triggers of a region that still wait to be averaged. -/
def avgWaits (s : State) (r : Nat) : Bool :=
  ((s.trg.avg.get AvgSt.reset (s.f (TRG_RGN_CTL.path r))).todo).any fun t => t.region == r

/-- The region's hold-off is over at a stamp: its index and fraction on the region's path, and its time in phase bins. Under
events hold-off the ending firing itself still lies within (R342, R343). -/
def holdOver (s : State) (r ix frac t : Nat) : Bool :=
  let g := s.region r
  if s.f (TRG_RGN_HOLD.reg r) = 0 then true
  else if s.flag (TRG_RGN_CTL.hold_events r) then (match g.holdEnd with
    | some e => decide (e.1 < ix) || (e.1 == ix && decide (e.2 < frac))
    | none => false)
  else decide (g.holdUntil.getD 0 ≤ t)

/-- The sample of the region's path at which its busy span ends: that of its hold-off or of its capture, the later (R340). -/
def busyEnd (s : State) (r : Nat) : Nat :=
  let g := s.region r
  let hold := if s.f (TRG_RGN_HOLD.reg r) = 0 then 0
    else if s.flag (TRG_RGN_CTL.hold_events r) then (g.holdEnd.map Prod.fst).getD 0
    else s.indexAfter (s.f (TRG_RGN_CTL.path r)) (g.holdUntil.getD 0)
  max hold g.capEnd

/-- The busy span of a region ends: armed again with rearm, else disarmed, and its formatter stops there (R342, R366, R372). -/
def rgnFree (s : State) (r : Nat) : State :=
  let g := s.region r
  let again := !g.disarmPending && s.flag (TRG_RGN_CTL.rearm r)
  let s := s.setRegion r { g with disarmPending := false, spans := if again then g.spans else closeSpan g.spans (s.busyEnd r) }
  (s.set (TRG_RGN_CTL.state r) (b2n again)).capShow r

/-- The post-trigger span of a region's capture has ended before an index: a TRIGGERED capture has its last unit (R340, R349,
R372). -/
def capOver (s : State) (r ix : Nat) : Bool :=
  let g := s.region r
  decide (g.capEnd ≤ ix) && (s.flag (TRG_RGN_CTL.avg r) || s.capMode r != 0 || g.captures.isEmpty)

/-- A busy region whose span has ended before a firing is busy no more (R342). -/
def rgnSettle (s : State) (r : Nat) (f : RgnFire) : State :=
  if s.rgnState r = 2 ∧ s.holdOver r f.index f.frac (occBins f.occ) ∧ s.capOver r f.index then s.rgnFree r else s

/-- A firing lies within the busy span of the last trigger that a region acted on, whether or not that span has been found over
since (R343). -/
def inBusy (s : State) (r : Nat) (f : RgnFire) : Bool :=
  let g := s.region r
  g.trigAt.isSome && (decide (g.trigIndex < f.index) || (g.trigIndex == f.index && decide (g.trigFrac ≤ f.frac))) &&
    !(s.holdOver r f.index f.frac (occBins f.occ) && decide (g.capEnd ≤ f.index))

/-- The trigger state of a region for a firing at an index: an arm holds from its sample on, and a disarm that has come since
only from its own (R336, R340). -/
def rgnStateAt (s : State) (r ix : Nat) : Nat :=
  let g := s.region r
  match s.rgnState r, g.offAt with
  | 1, _ => if ix < g.since then 0 else 1
  | 0, some o => if g.since ≤ ix ∧ ix < o then 1 else 0
  | n, _ => n

/-- A disarm of a region from index `ix` on; while busy it waits (R342, R372). -/
def rgnDisarm (s : State) (r ix : Nat) : State :=
  match s.rgnState r with
  | 1 =>
    let g := s.region r
    ((s.setRegion r { g with spans := closeSpan g.spans ix, offAt := some ix }).set (TRG_RGN_CTL.state r) 0).capShow r
  | 2 => s.setRegion r { s.region r with disarmPending := true }
  | _ => s

/-- A firing of the hold-off condition of a region later than its trigger counts toward the end of the hold-off (R342). -/
def holdCount (s : State) (r : Nat) (f : RgnFire) : State :=
  let g := s.region r
  let later := decide (g.trigIndex < f.index) || (g.trigIndex == f.index && decide (g.trigFrac < f.frac))
  if s.rgnState r = 2 ∧ s.flag (TRG_RGN_CTL.hold_events r) ∧ s.f (TRG_RGN_CTL.hold_cond r) = f.occ.cond ∧ later ∧ g.holdEnd.isNone then
    let n := g.holdFirings + 1
    s.setRegion r { g with holdFirings := n,
                           holdEnd := if n = s.f (TRG_RGN_HOLD.reg r) then some (f.index, f.frac) else none }
  else s

/-- The 48 bytes of a trigger record (R344): `fs` the firings of the bitmap, the lead's first. -/
def trigRecord (s : State) (r : Nat) (fs : List RgnFire) : List Byte :=
  match fs with
  | [] => List.replicate 48 0
  | f :: _ =>
    let lead := (fs.map fun x => x.occ.cond).foldl min 63
    let first := fs.foldl (fun a b => if fireBefore b a then b else a) f
    let flags := (fs.map fun x => x.occ.flags).foldl (· ||| ·) 0 % 256
    let gap := s.inInputGap (s.f (TRG_RGN_CTL.path r)) first.index
    let map_ := (fs.map fun x => x.occ.cond).foldl setBit 0
    leBytes 8 first.index ++ leBytes 8 first.occ.tick ++ leBytes 1 first.occ.phase ++ leBytes 1 first.frac ++
      leBytes 2 (flags + 2 ^ 15 * b2n gap) ++ leBytes 1 r ++ leBytes 1 lead ++ leBytes 2 0 ++ leBytes 4 (s.region r).acted ++
      leBytes 4 (s.f (TRG_RGN_MISSED.reg r)) ++ leBytes 8 map_ ++ leBytes 8 0

/-- One past the last sample of the post-trigger span of a trigger at an index, where no gap cuts it (R370, R372). -/
def postEnd (s : State) (r ix : Nat) : Nat :=
  let p := s.f (TRG_RGN_CTL.path r)
  let sp := match s.streamKind p (s.f (CAP_REGION_SRC.stream r)) with
    | some k => s.streamSpacing p (s.f (CAP_REGION_SRC.stream r)) k
    | none => posUnit
  let u := ix * posUnit / sp
  ((u + s.f (CAP_REGION_POST.reg r)) * sp + posUnit - 1) / posUnit

/-- An armed region acts on a trigger (R340 to R344, R349, R366, R375). -/
def rgnAct (s : State) (r : Nat) (fs : List RgnFire) (first : RgnFire) : State :=
  let g := s.region r
  let rec_ := s.trigRecord r fs
  let p := s.f (TRG_RGN_CTL.path r)
  let avg := s.flag (TRG_RGN_CTL.avg r)
  let t := occBins first.occ
  let hold := s.f (TRG_RGN_HOLD.reg r)
  let k := roundEvenNat (64 * first.index + first.frac) 128
  let len := s.f (TRG_AVG_LEN.len_m1 p) + 1
  let start : Int := (k : Int) - s.f (TRG_AVG_LEN.pre p)
  let end_ := if avg then (2 * (start + len)).toNat else if s.capMode r = 0 then s.postEnd r first.index else first.index
  let cap : Capture := { trigger := rec_, index := first.index, pre := s.f (CAP_REGION_PRE.reg r),
                         post := s.f (CAP_REGION_POST.reg r), since := g.since, floor := g.floor, stop := none }
  let s := s.setRegion r { g with
    captures := if avg ∨ s.capMode r = 2 then g.captures else g.captures ++ [cap]
    capEnd := end_, trigAt := some ⟨first.occ.tick, first.occ.phase⟩, trigIndex := first.index, trigFrac := first.frac,
    disarmPending := g.disarmPending || s.rgnState r == 0, spans := if s.rgnState r = 0 then openSpan g.spans else g.spans,
    holdUntil := some (t + 64 * hold), holdFirings := 0, holdEnd := none, acted := (g.acted + 1) % 2 ^ 32 }
  let s := if avg then
      let a := s.trg.avg.get AvgSt.reset p
      let a := { a with todo := a.todo ++ [{ region := r, start := start, index := first.index, tick := first.occ.tick }] }
      { s with trg := { s.trg with avg := s.trg.avg.put AvgSt.reset p a } }
    else s
  let s := (s.addWrap (TRG_RGN_COUNT.reg r) 1).set (TRG_RGN_LAST.reg r) first.index
  (s.set (TRG_RGN_CTL.state r) 2).capShow r

/-- A firing in the trigger mask of a busy region is missed there (R343). -/
def rgnMiss (s : State) (r : Nat) (f : RgnFire) : State :=
  let s := if s.f (TRG_RGN_MISSED.reg r) = 0 then s.set (TRG_RGN_MISSED_AT.reg r) f.occ.tick else s
  (s.bump (TRG_RGN_MISSED.reg r)).raise (192 + 4 * f.occ.cond + 1)

/-- A trigger at a region by the firings of its bitmap (R341, R343, R373): those within a busy span are missed, the others act
on a region that is armed at their sample; while the region is full the trigger is counted, and none acts. -/
def rgnTrigger (s : State) (r : Nat) (fs : List RgnFire) : State :=
  let busy := s.rgnState r == 2
  let late := fs.filter fun f => busy || s.inBusy r f
  let new := fs.filter fun f => !(busy || s.inBusy r f)
  let state := match new with
    | f :: _ => s.rgnStateAt r f.index
    | [] => 0
  let s := if (state = 1 ∨ !late.isEmpty) ∧ s.flag (CAP_REGION_STATUS.full r) then s.bump (CAP_REGION_FULLMISS.reg r) else s
  let s := late.foldl (fun s f => s.rgnMiss r f) s
  match new with
  | [] => s
  | f :: _ =>
    if state ≠ 1 ∨ s.flag (CAP_REGION_STATUS.full r) then s
    else s.rgnAct r new (new.foldl (fun a b => if fireBefore b a then b else a) f)

/-- The actions of the conditions of a list that fired at one sample of a region's path, in ascending order: arm, disarm,
and at the lowest triggering condition the trigger (R341). -/
def rgnActions (s : State) (r ix : Nat) (trig : List RgnFire) (cs : List Nat) : State :=
  cs.foldl (fun s c =>
    let s := if bit (s.f (TRG_RGN_ARM.reg r)) c then s.rgnArm r ix else s
    let s := if bit (s.f (TRG_RGN_DISARM.reg r)) c then s.rgnDisarm r ix else s
    if (trig.head?.map fun t => t.occ.cond) = some c then s.rgnTrigger r trig else s) s

/-- Firings at one sample of a region's path, in order of condition. -/
def byCond (fs : List RgnFire) : List RgnFire :=
  (List.range 64).flatMap fun c => fs.filter fun f => f.occ.cond == c

/-- The conditions that fired, in ascending order. -/
def condsFired (fs : List RgnFire) : List Nat := (List.range 64).filter fun c => fs.any fun f => f.occ.cond == c

/-- Firings are applied to a region, sample by sample in order (R336, R341); those later than a trigger of their own sample
count toward its hold-off (R342). The first argument bounds their number. -/
def rgnApply (s : State) (r : Nat) : Nat → List RgnFire → State
  | 0, _ => s
  | _, [] => s
  | n + 1, f :: fs =>
    let now := f :: fs.filter fun g => g.index == f.index
    let s := s.rgnSettle r f
    let s := now.foldl (fun s g => s.holdCount r g) s
    let trig := (byCond now).filter fun g => bit (s.f (TRG_RGN_TRIG.reg r)) g.occ.cond
    let t := s.rgnActions r f.index trig (condsFired now)
    let t := if (t.region r).acted = (s.region r).acted then t else now.foldl (fun s g => s.holdCount r g) t
    t.rgnApply r n (fs.filter fun g => g.index != f.index)

/-- Conditions that a region looks at: those of its masks, and that of its hold-off. -/
def rgnTakes (s : State) (r c : Nat) : Bool :=
  bit (s.f (TRG_RGN_TRIG.reg r)) c || bit (s.f (TRG_RGN_ARM.reg r)) c || bit (s.f (TRG_RGN_DISARM.reg r)) c ||
    (s.flag (TRG_RGN_CTL.hold_events r) && s.f (TRG_RGN_CTL.hold_cond r) == c)

/-- Firings reach the regions of a list (R336, R340). -/
def rgnsFire (s : State) (fs : List Occ) : List Nat → State
  | [] => s
  | r :: rs =>
    let mine := (fs.filter fun o => s.rgnTakes r o.cond).filterMap (s.onRegion r)
    (s.rgnApply r mine.length (mine.foldl (fun l f => fireInsert f l) [])).rgnsFire fs rs

/-- The hold-off bits of the conditions of a list at a time in phase bins. -/
def holdShow (s : State) (t : Nat) : List Nat → State
  | [] => s
  | c :: cs =>
    let s := match (s.cond c).last with
      | some l => s.set (TRG_STATUS.holding c) (b2n (decide (t < l.bins + 64 * s.f (TRG_HOLD.reg c))))
      | none => s
    s.holdShow t cs

/-- The converter index that an evaluation point stamps (R333). -/
def dueIndex : EvalDue → Nat
  | .iq pos _ => pos / posUnit
  | .mask r => r.seq
  | .band r => (r.map (·.first)).getD 0
  | .kurtosis first _ _ => first

/-- A path holds blocks taken at or before a time that its structure has not analysed. -/
def blocksBefore (s : State) (p t : Nat) : Bool :=
  ((s.path p).eb ++ (s.path p).entry ++ (s.conv p).sent.toList).any fun x => decide (64 * x.tick + x.phase ≤ t)

/-- The blocks of a real-time path that analyses hold every sample taken at or before a time (R336). -/
def samplesTo (s : State) (p t : Nat) : Bool :=
  match (s.path p).refs.head? with
  | some r => decide ((s.indexBefore p t).1 < r.seq + 1024)
  | none => false

/-- A spectrum of an instance that begins at or before an index is still in formation, at work in the tiles or in the reorder
window (R336). -/
def spectrumForms (s : State) (p i ix : Nat) : Bool :=
  let stream := (s.xfCfg p i).stream
  ((s.inst p i).buf.head?.map fun y => decide (y.pos / posUnit ≤ ix)).getD false ||
    ((s.path p).work.any fun e => e.2.stream == stream && decide (e.2.seq ≤ ix)) ||
    (s.path p).window.any fun w => w.stream == stream && match w.fill with
      | .parcel x => decide (x.seq ≤ ix)
      | _ => false

/-- What a condition's source makes of samples up to an index is still to come: its spectra, its interval or its kurtosis block
in formation (R336). -/
def reportForms (s : State) (c ix : Nat) : Bool :=
  let p := s.homeOf c
  match s.f (TRG_COND.kind c) with
  | 2 => s.spectrumForms p (s.f (MSK_BIND.inst (s.f (TRG_COND.sel c) % 64))) ix
  | 3 =>
    let d := (s.inst p 0).det
    s.spectrumForms p 0 ix || (d.run.used != 0 && decide (d.run.first / posUnit ≤ ix)) ||
      d.ended.any fun e => decide (e.first / posUnit ≤ ix)
  | 4 =>
    let k := (s.xfOf p).sk
    (k.run.used != 0 && decide (k.run.first / posUnit ≤ ix)) || k.ended.any fun e => decide (e.first / posUnit ≤ ix)
  | _ => false

/-- A condition's source has not reported past a time (R336): samples of its home path up to it are not in blocks, blocks wait
to be analysed, products of theirs are still to come, or a report is still to be evaluated. An inactive condition, and one that
is not armed and was not up to that time, brings nothing. -/
def reportsBefore (s : State) (c t : Nat) : Bool :=
  let p := s.homeOf c
  let kind := s.f (TRG_COND.kind c)
  let live := s.realTime p && s.analysing p
  let armed := s.flag (TRG_COND.armed c) || (s.cond c).changes.any fun e => decide (t < e.time.bins)
  kind != 0 && armed && ((live && !s.samplesTo p t) || (decide (1 ≤ kind ∧ kind ≤ 4) && !s.condInactive c &&
    (s.blocksBefore p t || (live && s.reportForms c (s.indexBefore p t).1) ||
      (s.cond c).due.any fun d => decide ((s.timeAt p (dueIndex d * posUnit)).bins ≤ t))))

/-- Whether a region is still busy at a time is not known: the post-trigger span of its capture is over by then unless a gap cut
it, and its formatter has not come so far, or its record is due (R336, R343, R372). -/
def captureBefore (s : State) (r t : Nat) : Bool :=
  let p := s.f (TRG_RGN_CTL.path r)
  let ix := (s.indexBefore p t).1
  let g := s.region r
  s.rgnState r == 2 && s.capMode r == 0 && s.analysing p && decide (g.capEnd ≤ ix) &&
    match g.captures with
    | [] => false
    | c :: _ => (s.capSpan r c).isSome || decide ((g.held.getLast?.map Held.last).getD 0 < ix)

/-- Every source has reported past a time: that time has come, no condition's report and no region's capture is still to
come (R336). -/
def allReported (s : State) (t : Nat) : Bool :=
  decide (t ≤ s.now.bins) && !((List.range 64).any fun c => s.reportsBefore c t) && !(List.range 64).any fun r => s.captureBefore r t

/-- Every occurrence stamped at or before a time is decided (R336). -/
def decide_ (s : State) (upTo : Stamp) : State :=
  let due := s.trg.queue.filter fun o => decide (occBins o ≤ upTo.bins)
  let s := { s with trg := { s.trg with queue := s.trg.queue.filter fun o => !decide (occBins o ≤ upTo.bins) } }
  let r := s.decideAll (64 * (due.length + 1)) ((due.map s.occSettle).foldl (fun l o => occInsert o l) [])
  let s := r.2.foldl (fun s o => s.outsFire o [0, 1, 2, 3]) r.1
  (s.rgnsFire r.2 (List.range 64)).holdShow upTo.bins (List.range 64)

/-! ### Inputs as they stand -/

/-- A trigger input. -/
def trgIn (s : State) (i : Nat) : TrigIn := s.trg.ins.get TrigIn.reset i

/-- The state with a trigger input changed. -/
def setTrgIn (s : State) (i : Nat) (x : TrigIn) : State :=
  { s with trg := { s.trg with ins := s.trg.ins.put TrigIn.reset i x } }

/-! ### Register writes (R325, R330, R332, R340, R349) -/

/-- A write to TRG_COND: dropped whole for an unlisted kind, else the fields and the arm bit (R325, R330). A change of
source, mode or kind starts its evaluation anew. -/
def trgCondWrite (s : State) (c v : Nat) : State :=
  if s.condBad c v then s.set (TRG_STATUS.refused c) 1
  else
    let old := s.f (TRG_COND.reg c)
    let was := bit old 31
    let v := s.condWord c v
    let s := s.plainWrite (TRG_COND.reg c).addr v
    let s := s.setCond c (if old % 2 ^ 31 = s.f (TRG_COND.reg c) % 2 ^ 31 then s.cond c
      else { s.cond c with due := [], raw := false, run := 0, prev := none })
    let s := if was == bit v 31 then s else s.condArm c (bit v 31) s.now
    (s.set (TRG_STATUS.raw c) (b2n (s.cond c).raw)).condShow c

/-- A write to TRG_PARAM, TRG_WMIN, TRG_WMAX or TRG_SEQ of condition `c`: dropped whole where it leaves limits out of order
or names a member that is not below `c` (R332). -/
def trgParamWrite (s : State) (c off v : Nat) : State :=
  if s.paramBad c off v then s.set (TRG_STATUS.refused c) 1 else s.plainWrite off v

/-- A condition or region lies in the scope of an ensemble whose membership is on (R532). -/
def ensScoped (s : State) (scope : Loc) (i : Nat) : Bool := s.flag ENS_CTL.en && bit (s.f scope) i

/-- A local arm or disarm is refused: counted, event 899 (R532). -/
def ensRefuse (s : State) : State := (s.bump ENS_COUNTS.local_refused).raise 899

/-- A port's write to TRG_COND: in scope, a change of the armed bit is dropped (R532). -/
def trgCondPort (s : State) (c v : Nat) : State :=
  let was := s.flag (TRG_COND.armed c)
  if s.ensScoped ENS_SCOPE_COND.reg c && was != bit v 31 then
    (s.ensRefuse).trgCondWrite c (insertBits v 31 1 (b2n was))
  else s.trgCondWrite c v

/-- A write to TRG_RGN_CTL: dropped whole where it would leave avg at 1 off a TRANSIENT path (R349); path applies while
disarmed (R353); then the arm and the disarm. -/
def rgnCtlWrite (s : State) (r v : Nat) : State :=
  let v := if s.rgnState r = 0 then v else insertBits v 20 2 (s.f (TRG_RGN_CTL.path r))
  if bit v 0 && s.mode (bits v 20 2) != 5 then s.raise (448 + r)
  else
    let s := s.plainWrite (TRG_RGN_CTL.reg r).addr v
    let ix := s.indexAfter (s.f (TRG_RGN_CTL.path r)) s.now.bins
    let s := if bit v 31 then s.rgnArm r ix else s
    if bit v 30 then s.rgnDisarm r ix else s

/-- A port's write to TRG_RGN_CTL: in scope, its arm and disarm are dropped (R532). -/
def rgnCtlPort (s : State) (r v : Nat) : State :=
  if s.ensScoped ENS_SCOPE_RGN.reg r && (bit v 31 || bit v 30) then (s.ensRefuse).rgnCtlWrite r (v % 2 ^ 30)
  else s.rgnCtlWrite r v

/-- A value of TRG_OUT_CTL.direct names the fast trigger of a converter that is absent (R3, R346). -/
def outAbsent (s : State) (direct : Nat) : Bool := decide (4 ≤ direct ∧ direct < 8) && !s.pathPresent (direct % 4)

/-- The level of TRIGIN_i follows its pin, and an input that is no longer active is stuck no more (R345, R354). -/
def inLevel (s : State) (i : Nat) : State :=
  let was := s.flag (TRG_IN_STATUS.level i)
  let x := s.trgIn i
  let active := s.flag (TRG_IN_CTL.en i) && xor x.pin (s.flag (TRG_IN_CTL.pol i))
  let s := (s.set (TRG_IN_STATUS.level i) (b2n active)).setTrgIn i
    { x with activeAt := if active && !was then s.time.clk else x.activeAt }
  if active then s else (s.set (TRG_IN_STATUS.stuck i) 0).condStuck 0 (s.condsOfInput i)

/-- A write to TRG_IN_CTL (R345, R354). -/
def inCtlWrite (s : State) (i v : Nat) : State := (s.plainWrite (TRG_IN_CTL.reg i).addr v).inLevel i

/-- A write to TRG_OUT_CTL: dropped where it routes an absent converter (R3); else the pin drives its inactive level or
nothing (R346). -/
def outCtlWrite (s : State) (o v : Nat) : State :=
  if s.outAbsent (bits v 24 4) then s
  else
    let was := s.flag (TRG_OUT_CTL.oe o)
    let s := s.plainWrite (TRG_OUT_CTL.reg o).addr v
    let x := s.trgOut o
    let on := was && s.flag (TRG_OUT_CTL.oe o) && x.stop.isSome
    s.setTrgOut o { x with drive := s.outDrive o on, stop := if on then x.stop else none,
                           due := if s.flag (TRG_OUT_CTL.oe o) then x.due else [] }

/-- A force of a condition waits for its decision; on a REPLAY path it is at the next sample that the path takes (R331, R334). -/
def enqueueForce (s : State) (c : Nat) (t : Stamp) : State :=
  let p := s.homeOf c
  let o : Occ := { cond := c, index := if s.mode p = 7 then s.nextSample p else 0, frac := 0, tick := t.tick, phase := t.phase,
                   flags := 0, inGap := false, by_ := .forced }
  { s with trg := { s.trg with queue := s.trg.queue ++ [o] } }

/-- A force of the conditions of a list at a stamp (R331). -/
def forceAll (s : State) (t : Stamp) : List Nat → State
  | [] => s
  | c :: cs => (s.enqueueForce c t).forceAll t cs

/-! ### Averaging (R349, R350) -/

/-- The averaging buffer of a path. -/
def avgOf (s : State) (p : Nat) : AvgSt := s.trg.avg.get AvgSt.reset p

/-- The state with an averaging buffer changed. -/
def setAvg (s : State) (p : Nat) (x : AvgSt) : State := { s with trg := { s.trg with avg := s.trg.avg.put AvgSt.reset p x } }

/-- The samples of an IQ parcel as components of 16 bits, with the number of the first and the parcel's flags. -/
def iqSamples (s : State) (x : Parcel) : List (Nat × IQ × Nat) :=
  let b := if s.streamFloat x.path x.stream x.seq then floatToShort x.payload.length x.payload else x.payload
  (List.range (b.length / 4)).map fun i =>
    (x.seq / 2 + i, { i := signed 16 (field b (4 * i) 2), q := signed 16 (field b (4 * i + 2) 2) }, x.flags)

/-- The bytes of an averaged record (R350). -/
def avgRecord (a : AvgSt) (len pre : Nat) : List Byte :=
  leBytes 8 a.first ++ leBytes 8 a.firstTick ++ leBytes 4 a.added ++ leBytes 4 a.skipped ++ leBytes 4 len ++ leBytes 4 pre ++
    leBytes 2 (a.flags % 256) ++ List.replicate 30 0 ++ a.sums.flatMap fun v => leBytes 4 (unsigned 32 v.i) ++ leBytes 4 (unsigned 32 v.q)

/-- A trigger's span is added, or skipped where a gap or CLK_INVALID touches it (R349). -/
def avgAdd (s : State) (p : Nat) (t : AvgTodo) : State :=
  let a := s.avgOf p
  let len := s.f (TRG_AVG_LEN.len_m1 p) + 1
  let xs := (a.hist.flatMap s.iqSamples).filter fun e => decide (t.start ≤ (e.1 : Int) ∧ (e.1 : Int) < t.start + len)
  let flags := (xs.map fun e => e.2.2).foldl (· ||| ·) 0
  let gap := (List.range (2 * len)).any fun i => s.inInputGap p (2 * t.start + i).toNat
  if xs.length ≠ len ∨ gap ∨ bit flags flagCLK then
    (s.setAvg p { a with skipped := a.skipped + 1 }).bump (TRG_AVG_STATUS.skipped p)
  else
    let old := if a.sums.isEmpty then List.replicate len ({ i := 0, q := 0 } : IQ) else a.sums
    let sums := (old.zip xs).map fun e => ({ i := e.1.i + e.2.2.1.i, q := e.1.q + e.2.2.1.q } : IQ)
    let b := { a with sums := sums, added := a.added + 1, flags := a.flags ||| flags,
                      first := if a.added = 0 then t.index else a.first, firstTick := if a.added = 0 then t.tick else a.firstTick }
    if s.f (TRG_AVG_CTL.a_m1 p) + 1 ≤ b.added then
      let s := s.setAvg p { b with sums := [], added := 0, skipped := 0, flags := 0 }
      (s.set (TRG_AVG_STATUS.added p) 0).sinkWrite t.region (avgRecord b len (s.f (TRG_AVG_LEN.pre p)))
    else (s.setAvg p b).set (TRG_AVG_STATUS.added p) b.added

/-- Triggers whose span the stream has passed are added, in order; the first argument bounds their number. -/
def avgRun (s : State) (p : Nat) : Nat → State
  | 0 => s
  | n + 1 =>
    let a := s.avgOf p
    match a.todo with
    | [] => s
    | t :: ts =>
      let newest := ((a.hist.getLast?.map s.iqSamples).getD []).getLast?.map Prod.fst
      if t.start + s.f (TRG_AVG_LEN.len_m1 p) ≤ (newest.getD 0 : Int) then
        ((s.setAvg p { a with todo := ts }).avgAdd p t).avgRun p n
      else s

/-- The averager of a path takes an IQ parcel of its stream, once for all its regions; it keeps what a span may still need. -/
def avgTake (s : State) (p : Nat) (x : Parcel) : State :=
  if x.kind = .iq ∧ s.mode p = 5 ∧ x.stream = s.f (TRN_CTL.iq_stream p) then
    let a := s.avgOf p
    let s := if a.hist.any fun y => y.seq == x.seq then s else s.setAvg p { a with hist := a.hist ++ [x] }
    s.avgRun p (a.todo.length + 1)
  else s

/-- The averaging buffer of a path is emptied (R354). -/
def avgReset (s : State) (p : Nat) : State :=
  (s.setAvg p { s.avgOf p with sums := [], added := 0, skipped := 0, flags := 0 }).set (TRG_AVG_STATUS.added p) 0

/-- A write to TRG_AVG_CTL (R354). -/
def avgCtlWrite (s : State) (p v : Nat) : State :=
  let s := s.plainWrite (TRG_AVG_CTL.reg p).addr v
  if bit v 31 then s.avgReset p else s

/-- A write to TRG_AVG_LEN: dropped whole where the span would exceed 65,536 samples (R349). -/
def avgLenWrite (s : State) (p v : Nat) : State :=
  if 65536 < bits v 16 16 + bits v 0 16 + 1 then s else s.plainWrite (TRG_AVG_LEN.reg p).addr v

/-- Regions of a list whose path has left TRANSIENT lose avg; the buffer is dropped (R349). -/
def avgLeave (s : State) : List Nat → State
  | [] => s
  | r :: rs =>
    let p := s.f (TRG_RGN_CTL.path r)
    let s := if s.flag (TRG_RGN_CTL.avg r) && s.mode p != 5 then
        (((s.set (TRG_RGN_CTL.avg r) 0).setAvg p AvgSt.reset).set (TRG_AVG_STATUS.added p) 0).raise (448 + r) else s
    s.avgLeave rs

/-! ### Inputs (R345) -/

/-- An edge follows the last stamped one within a hold-off of `units` of 2.5 ns, 409.6 phase bins each (R345). -/
def crowds (last : Option Stamp) (t units : Nat) : Bool :=
  match last with
  | some l => decide (10 * (t - l.bins) < 4096 * max 1 (min 400000 units))
  | none => false

/-- An edge of TRIGIN_i to a high or low level, at a raw bin of a tick; pol says which level is active (R345, R346). -/
def triginEdge (s : State) (i : Nat) (high : Bool) (tick bin : Nat) : State :=
  let s := s.setTrgIn i { s.trgIn i with pin := high }
  if !s.flag (TRG_IN_CTL.en i) then s
  else
    let active := xor high (s.flag (TRG_IN_CTL.pol i))
    let s := (s.set (TRG_IN_STATUS.level i) (b2n active)).setTrgIn i
      { s.trgIn i with activeAt := if active then s.time.clk else (s.trgIn i).activeAt }
    let skew := signed 16 (s.f (TRG_IN_SKEW.skew i))
    let fine := s.fineTime (18 + i) tick bin skew
    let raw := s.edgeStamp (18 + i) tick bin 0
    let t := s.edgeStamp (18 + i) tick bin skew
    if s.flag (TRG_IN_STATUS.stuck i) then
      let s := s.setTrgIn i { s.trgIn i with marked := true }
      if active then s else (s.set (TRG_IN_STATUS.stuck i) 0).condStuck 0 (s.condsOfInput i)
    else if crowds (s.trgIn i).last raw.bins (s.f (TRG_IN_CTL.holdoff i)) then
      ((s.setTrgIn i { s.trgIn i with marked := true }).bump (TRG_IN_STATUS.crowded i)).inputEvents i 3
    else
      let bad := (s.trgIn i).marked
      let s := s.setTrgIn i { s.trgIn i with last := some raw, marked := false }
      let s := s.statFeed (18 + i) fine bad
      let s := s.inputEdge i active t
      if active then s.directPulse (8 + i) [0, 1, 2, 3] else s

/-! ### Fast level triggers (R195 to R197) -/

/-- The condition of the fast level trigger holds for a code (R195). -/
def fltMeets (mode : Nat) (upper lower c : Int) : Bool :=
  match mode with
  | 0 => decide (upper ≤ c)
  | 1 => decide (c ≤ lower)
  | 2 => decide (upper ≤ c) || decide (c ≤ lower)
  | _ => decide (lower ≤ c) && decide (c ≤ upper)

/-- A code is so far back beyond the threshold that the fast level trigger is false again (R195). -/
def fltLeaves (mode : Nat) (upper lower hyst c : Int) : Bool :=
  match mode with
  | 0 => decide (c < upper - hyst)
  | 1 => decide (lower + hyst < c)
  | 2 => decide (lower + hyst < c) && decide (c < upper - hyst)
  | _ => decide (upper + hyst < c) || decide (c < lower - hyst)

/-- For how many samples in a row the fast level trigger has been true after some codes, 0 where it is false (R195). -/
def fltRun (mode : Nat) (upper lower hyst : Int) : Nat → List Int → Nat
  | run, [] => run
  | run, c :: cs =>
    let on := if run = 0 then fltMeets mode upper lower c else !fltLeaves mode upper lower hyst c
    fltRun mode upper lower hyst (if on then run + 1 else 0) cs

/-- The run of true samples of converter `n` after some more raw samples, the last with an extended index (R172, R195). -/
def fltAfter (s : State) (n : Nat) (r : FltRun) : Nat :=
  fltRun (s.f (CNV_FLT_CTL.mode n)) (signed 12 (s.f (CNV_FLT_LEVEL.upper n))) (signed 12 (s.f (CNV_FLT_LEVEL.lower n)))
    (s.f (CNV_FLT_CTL.hyst n)) (s.conv n).flt ((s.trimmed n (r.index + 1 - r.samples.length) r.samples).map clip12)

/-- FAST_n fires at a sample; under SERVICE the firing reaches no pin and no condition (R26). -/
def fltFire (s : State) (n ix : Nat) (t : Stamp) : State :=
  let clk := s.flag (CNV_STATUS.clk_invalid n)
  let s := (s.bump (CNV_FLT_COUNT.fired n)).raise (92 + n)
  let service := s.mode n == 8
  let s := if clk then s.bump (CNV_FLT_COUNT.suppressed n) else if service then s else s.directPulse (4 + n) [0, 1, 2, 3]
  let cs := if service then [] else (List.range 64).filter fun c => s.f (TRG_COND.kind c) == 6 && s.f (TRG_COND.sel c) == n
  let occ := fun (c : Nat) => ({ cond := c, index := ix, frac := 0, tick := t.tick, phase := t.phase,
                                 flags := 0, inGap := false, by_ := .sample } : Occ)
  { s with trg := { s.trg with queue := s.trg.queue ++ cs.map occ } }

end State

/-! ### Meanings -/

/-- TRG_EVALUATE (R326 to R328): a condition's source reports. -/
def execTrgEvaluate (c : Fin 64) (e : EvalPoint) (s : State) : Res := if s.up .fabric then .next (s.evaluate c e) else .next s

/-- TRG_DECIDE (R336): once every source has reported past a time, everything stamped up to it is decided. No decisions are made
outside RUN (R351). -/
def execTrgDecide (upTo : Stamp) (s : State) : Res :=
  if s.up .fabric && s.f PWR_STATE.state == 0 && s.allReported upTo.bins then .next (s.decide_ upTo) else .next s

/-- TRG_ARM_WRITE (R330): a write to TRG_COND, its armed bit included. -/
def execTrgArmWrite (p : Port) (c : Fin 64) (v : Word) (s : State) : Res :=
  .next (s.hubWrite p (TRG_COND.reg c).addr none fun s => s.trgCondPort c v.toNat)

/-- TRG_FORCE (R331): a write to TRG_FORCE_LO or TRG_FORCE_HI. -/
def execTrgForce (p : Port) (hi : Bool) (v : Word) (s : State) : Res :=
  .next (s.hubWrite p (if hi then TRG_FORCE_HI.reg.addr else TRG_FORCE_LO.reg.addr) none fun s =>
    s.forceAll s.now ((bitList 32 v.toNat).map fun c => c + 32 * b2n hi))

/-- TRG_RGN_ARM (R340): a write to TRG_RGN_CTL with arm set. -/
def execTrgRgnArm (p : Port) (r : Fin 64) (v : Word) (s : State) : Res :=
  .next (s.hubWrite p (TRG_RGN_CTL.reg r).addr none fun s => s.rgnCtlPort r (v.toNat ||| 2 ^ 31))

/-- TRG_RGN_DISARM (R342): a write to TRG_RGN_CTL with disarm set. -/
def execTrgRgnDisarm (p : Port) (r : Fin 64) (v : Word) (s : State) : Res :=
  .next (s.hubWrite p (TRG_RGN_CTL.reg r).addr none fun s => s.rgnCtlPort r (v.toNat ||| 2 ^ 30))

/-- TRG_RGN_HOLD_END (R342): the busy span of a region has ended. -/
def execTrgRgnHoldEnd (r : Fin 64) (s : State) : Res :=
  let ix := s.indexAfter (s.f (TRG_RGN_CTL.path r)) s.now.bins
  if s.rgnState r = 2 ∧ s.holdOver r ix 0 s.now.bins ∧ (s.region r).captures.isEmpty ∧ !s.avgWaits r then .next (s.rgnFree r)
  else .next s

/-- SEQ_WINDOW_LAPSE (R335): windows of a sequence whose end has passed lapse, once no undecided occurrence can fall
inside. -/
def execSeqWindowLapse (c : Fin 64) (s : State) : Res :=
  let x := s.cond c
  let live := fun (w : SeqWindow) => decide (s.now.bins ≤ w.hi) || s.trg.queue.any fun o => decide (State.occBins o ≤ w.hi)
  .next (s.setCond c { x with windows := x.windows.filter live })

/-- TRIGIN_EDGE (R345): an edge of TRIGIN_i at a raw bin of a tick, to a high or low level; where FABRIC is not up it only
leaves the pin at its level. -/
def execTriginEdge (i : Fin 4) (high : Bool) (tick : Nat) (bin : Fin 64) (s : State) : Res :=
  if s.up .fabric then .next (s.triginEdge i high tick bin) else .next (s.setTrgIn i { s.trgIn i with pin := high })

/-- TRIGIN_STUCK (R345): TRIGIN_i has stayed at its active level for longer than stuck_us. -/
def execTriginStuck (i : Fin 4) (s : State) : Res :=
  if s.flag (TRG_IN_CTL.en i) && s.flag (TRG_IN_STATUS.level i) && !s.flag (TRG_IN_STATUS.stuck i) &&
      State.stuckOver (s.trgIn i).activeAt s.time.clk (s.f (TRG_IN_STUCK.stuck_us i)) then
    .next (((s.set (TRG_IN_STATUS.stuck i) 1).inputEvents i 2).condStuck 1 (s.condsOfInput i))
  else .next s

/-- TRIGOUT_ALIGNED (R348): an aligned pulse of TRIGOUT_o is due. -/
def execTrigoutAligned (o : Fin 4) (s : State) : Res :=
  let x := s.trgOut o
  match x.due with
  | [] => .next s
  | d :: ds => if d ≤ s.now.tick then .next ((s.setTrgOut o { x with due := ds }).outPulse o) else .next s

/-- TRIGOUT_PULSE_END (R346): the pulse of TRIGOUT_o has lasted its width. -/
def execTrigoutPulseEnd (o : Fin 4) (s : State) : Res :=
  let x := s.trgOut o
  match x.stop with
  | none => .next s
  | some t => if t ≤ s.now.tick then .next (s.setTrgOut o { x with drive := s.outDrive o false, stop := none }) else .next s

/-- TRG_AVG_RESET (R354): a write to TRG_AVG_CTL with reset set. -/
def execTrgAvgReset (p : Port) (path : Fin 4) (v : Word) (s : State) : Res :=
  .next (s.hubWrite p (TRG_AVG_CTL.reg path).addr none fun s => s.avgCtlWrite path (v.toNat ||| 2 ^ 31))

/-- FLT_FIRE (R195 to R197): converter `n` compares the samples up to one more, taken at `at_`, and the fast level trigger
fires where that sample completes a run of min_run + 1. -/
def execFltFire (n : Fin 4) (run : FltRun) (at_ : Stamp) (s : State) : Res :=
  if s.flag (CNV_FLT_CTL.en n) && s.f (CNV_STATUS.state n) == 2 && s.f (CNV_STATUS.route n) != 2 then
    let k := s.fltAfter n run
    let t := s.setConv n { s.conv n with flt := k }
    .next (if !run.samples.isEmpty ∧ k = s.f (CNV_FLT_CTL.min_run n) + 1 then t.fltFire n run.index (s.skewed n at_) else t)
  else .next s

/-- CAP_FORMAT_UNIT (R366 to R371, R349): region `r` takes a parcel of its path's exit, through its formatter or its
averager. -/
def execCapFormatUnit (r : Fin 64) (x : Parcel) (s : State) : Res :=
  let s := s.capFormat r x
  if s.flag (TRG_RGN_CTL.avg r) && x.path == s.f (TRG_RGN_CTL.path r) then .next (s.avgTake x.path x) else .next s

/-- CAP_CAPTURE_END (R372, R375): the oldest capture of a region has its last unit, and its record is written. -/
def execCapCaptureEnd (r : Fin 64) (s : State) : Res :=
  match (s.region r).captures with
  | [] => .next s
  | c :: _ =>
    match s.capSpan r c with
    | none => .next s
    | some (u, start, stop) => .next (s.capEndNow r c u start stop)

end Sys2Proof.Machine
end

