-- ==== Sys2Proof/Machine/Kal.lean ====
section
/-! DEFINITION. Density tables and masks (09_density_masks.md), and the resumption of non-real-time work (R150, R307). -/

namespace Sys2Proof.Machine

/-- Changes of one place of a list. -/
def alterAt (f : Nat → Nat) : List Nat → Nat → List Nat
  | [], _ => []
  | x :: xs, 0 => f x :: xs
  | x :: xs, n + 1 => x :: alterAt f xs n

namespace State

/-! ### Density tables -/

/-- A density table. -/
def kalOf (s : State) (k : Nat) : KalSt := s.kal.tables.get KalSt.reset k

/-- The state with a density table changed. -/
def setKal (s : State) (k : Nat) (x : KalSt) : State :=
  { s with kal := { s.kal with tables := s.kal.tables.put KalSt.reset k x } }

/-- An instance that the image of a present path uses (R299, R314). -/
def instUsed (s : State) (p i : Nat) : Bool := s.pathPresent p && (s.xfCfg p i).source != 0

/-- The table's settings are refused (R299, R310, R311). -/
def kalRefuse (s : State) (k : Nat) : State := (s.set (KAL_STATUS.refused k) 1).raise (172 + k)

/-- A spectrum boundary of table `k` passes: pending settings apply, and a clear that was asked for takes effect and ends a
decay sweep (R299, R308, R309). -/
def kalBoundary (s : State) (k : Nat) : State :=
  let c := s.kalSrc k
  let s := ((s.applyShadow (KAL_CTL.reg c)).applyShadow (KAL_COL.reg c)).applyShadow (KAL_AMP.reg c)
  let x := s.kalOf k
  let s := if x.clearAsked then
      (s.setKal k { x with cells := [], spoilt := [], clearAsked := false, sweep := none }).set (KAL_STATUS.clearing k) 1
    else s
  let s := if s.fa (KAL_CTL.freeze (s.kalSrc k)) = 0 then s.set (KAL_STATUS.ready k) 0 else s
  s.kalShow k

/-- The row of a level, and that it lay above the top row; none where it is not counted (R301). -/
def kalRow (s : State) (k v : Nat) : Option (Nat × Bool) :=
  let c := s.kalSrc k
  let bottom := s.fa (KAL_AMP.v_bottom c)
  if v < bottom then (if s.fa (KAL_AMP.below c) = 1 then some (0, false) else none)
  else
    let a := (v - bottom) / (s.fa (KAL_AMP.step_m1 c) + 1)
    if 1023 < a then some (1023, true) else some (a, false)

/-- An uncorrectable cell is taken as 0 and logged (R310, R318, R555); class 0x2 for a density cell, 0x3 for a mask entry. -/
def zeroLog (s : State) (seq addr cls unit p : Nat) : State := s.chkFail seq addr 2 cls unit 6 (some p)

/-- Cells of a table hold uncorrectable errors from now on: each reads as 0 until it is written (R310). -/
def kalSpoil (s : State) (k : Nat) (cells : List Nat) : State :=
  let x := s.kalOf k
  s.setKal k { x with cells := x.cells.filter fun e => !cells.contains e.1,
                      spoilt := x.spoilt ++ cells.filter fun c => !x.spoilt.contains c }

/-- A read meets a cell of a table: an uncorrectable one is logged; `p` is the path affected, where one is (R310, R555). -/
def kalMeet (s : State) (k cell seq : Nat) (p : Option Nat) : State :=
  if (s.kalOf k).spoilt.contains cell then s.chkFail seq (4 * cell) 2 2 k 6 p else s

/-- A cell of a table is written: whatever error its word held is gone. -/
def kalCellPut (s : State) (k cell : Nat) (v : Word) : State :=
  let x := s.kalOf k
  s.setKal k { x with cells := x.cells.put 0 cell v, spoilt := x.spoilt.filter fun c => c != cell }

/-- A cell gains one; one with an uncorrectable error counts from 0 (R305, R310). -/
def kalCount (s : State) (k cell seq p : Nat) : State :=
  let s := s.kalMeet k cell seq (some p)
  let v : Nat := ((s.kalOf k).cells.get 0 cell).toNat
  if v = 2 ^ 32 - 1 then
    let s := s.bump (KAL_SAT.reg k)
    if s.flag (KAL_STATUS.sat k) then s else (s.set (KAL_STATUS.sat k) 1).raise (168 + k)
  else s.kalCellPut k cell (BitVec.ofNat 32 (v + 1))

/-- Levels of a column's bins are counted (R300, R301). -/
def kalLevels (s : State) (k col seq p : Nat) : List Nat → State
  | [] => s
  | v :: vs =>
    let s := match s.kalRow k v with
      | none => s
      | some r =>
        let cell := 4096 * r.1 + col
        (if r.2 then s.bump (KAL_ABOVE.reg k) else s).kalCount k cell seq p
    s.kalLevels k col seq p vs

/-- The columns of a list are counted: all their bins, or their largest (R300). -/
def kalCols (s : State) (k : Nat) (vs : List Nat) (seq p : Nat) : List Nat → State
  | [] => s
  | c :: cs =>
    let r := s.kalBins k vs.length
    let d := 2 ^ s.kalLog2 k
    let lo := r.1 + c * d
    let xs := (vs.drop lo).take (min d (r.2 - lo))
    let xs := if s.fa (KAL_CTL.combine (s.kalSrc k)) = 1 then (match xs with | [] => [] | y :: ys => [ys.foldl max y]) else xs
    (s.kalLevels k c seq p xs).kalCols k vs seq p cs

/-! ### Lines (R311, R312) -/

/-- The 8,256 bytes of a line. -/
def lineBytes (s : State) (k : Nat) (x : KalLine) : List Byte :=
  let reduce := s.flag (KAL_LINE_CTL.reduce k)
  let col := fun i =>
    let b := x.bins.getD i 0
    if b = 0 then 0 else if reduce then logWord (x.sum.getD i 0) (b * 2 ^ 44) else x.top.getD i 0
  leBytes 8 x.first ++ leBytes 8 x.tick ++ leBytes 1 (x.phase % 64) ++ leBytes 1 (k + 2 * b2n reduce) ++ leBytes 2 x.flags ++
    leBytes 4 x.used ++ leBytes 4 (s.f (KAL_LINE_CTL.l_m1 k) + 1) ++ leBytes 2 ((x.bins.filter fun b => b != 0).length) ++
    leBytes 2 0 ++ leBytes 8 x.number ++ leBytes 2 (s.fa (KAL_COL.b0 (s.kalSrc k))) ++ leBytes 1 (s.kalLog2 k) ++
    leBytes 1 (s.f (KAL_STATUS.decim k)) ++ leBytes 20 0 ++ (List.range 4096).flatMap fun i => leBytes 2 (col i)

/-- A spectrum that the table takes enters its line; the line is written when it holds L of them. -/
def kalLineTake (s : State) (k : Nat) (x : Parcel) (sp : Spectrum) : State :=
  if !s.flag (KAL_LINE_CTL.en k) then s
  else
    let r := s.kalBins k sp.v.length
    let d := 2 ^ s.kalLog2 k
    let cols := List.range (s.kalColumns k sp.v.length)
    let part := fun (l : List Nat) (c : Nat) => (l.drop (r.1 + c * d)).take (min d (r.2 - (r.1 + c * d)))
    let l := (s.kalOf k).line
    let l := if l.used = 0 then { l with first := x.seq, tick := x.tick, phase := x.phase } else l
    let l := { l with used := l.used + 1, flags := l.flags ||| x.flagsWord,
                      top := zipLong max l.top (cols.map fun c => (part sp.v c).foldl max 0),
                      sum := zipLong (· + ·) l.sum (cols.map fun c => (part sp.p c).foldl (· + ·) 0),
                      bins := zipLong (· + ·) l.bins (cols.map fun c => (part sp.v c).length) }
    if s.f (KAL_LINE_CTL.l_m1 k) + 1 ≤ l.used then
      let reg := s.f (KAL_LINE_CTL.region k)
      let x := s.kalOf k
      let laid := if x.laidEnd = s.f (CAP_REGION_WRITTEN.reg reg) then x.laid + 1 else 1
      let s := s.sinkWrite reg (s.lineBytes k l)
      let s := s.setKal k { s.kalOf k with line := { KalLine.reset with number := l.number + 1 }, laid := laid
                                           laidEnd := s.f (CAP_REGION_WRITTEN.reg reg) }
      (s.addWrap (KAL_LINE_COUNT.reg k) 1).set (KAL_LINE_NEXT.reg k) (s.f (CAP_REGION_WRITTEN.reg reg) % s.regionSize reg)
    else s.setKal k { s.kalOf k with line := l }

/-! ### A spectrum at a table (R299 to R305) -/

/-- A spectrum of the instance that the table is bound to is counted, excluded or passed over; `bad` are the cells whose words
hold uncorrectable errors by then (R310). -/
def kalTake (s : State) (k i : Nat) (x : Parcel) (sp : Spectrum) (bad : List Nat) : State :=
  let c := s.kalSrc k
  let d := s.kalDecim k x.path i sp.v.length
  let s := s.set (KAL_STATUS.decim k) (min 255 d)
  let turn := sp.frame % d == 0 && (!s.ganged || sp.frame % 2 == k)
  if s.fa (KAL_CTL.en c) = 0 ∨ !turn then s
  else if s.fa (KAL_CTL.freeze c) = 1 ∨ chzExcluded (s.fa (KAL_CTL.excl c)) x.flags then s.bump (KAL_EXCLUDED.reg k)
  else
    let s := (s.kalSpoil k bad).kalCols k sp.v x.seq x.path (List.range (s.kalColumns k sp.v.length))
    (s.addWrap (KAL_SPECTRA.reg k) 1).kalLineTake k x sp

/-- The parcel belongs to an instance. -/
def ofInst (s : State) (x : Parcel) (p i : Nat) : Bool :=
  x.kind == .spectrum && x.path == p && s.instUsed p i && (s.xfCfg p i).stream == x.stream

/-- The spectrum of an instance whose first sample has an index. -/
def spectrumAt (s : State) (p i seq : Nat) : Option Spectrum := (s.inst p i).recent.find? fun y => y.seq == seq

/-- A spectrum leaves the exit towards table `k`: a boundary passes, and the table takes the spectrum when it is of the
instance in force. -/
def kalSpectrum (s : State) (k : Nat) (x : Parcel) (bad : List Nat) : State :=
  let c := s.kalSrc k
  let old := s.ofInst x (s.fa (KAL_CTL.path c)) (s.fa (KAL_CTL.inst c))
  let new := s.ofInst x (s.f (KAL_CTL.path c)) (s.f (KAL_CTL.inst c))
  if !s.up .fabric || !(old || new) then s
  else
    let s := s.kalBoundary k
    let c := s.kalSrc k
    let i := s.fa (KAL_CTL.inst c)
    if s.ofInst x (s.fa (KAL_CTL.path c)) i then
      match s.spectrumAt x.path i x.seq with
      | some sp => s.kalTake k i x sp bad
      | none => s
    else s

/-! ### Sweeps (R306, R307) -/

/-- A decay sweep of a table starts, where its mode asks for one (R306, R308). -/
def sweepStart (s : State) (k : Nat) : State :=
  let c := s.kalSrc k
  let x := s.kalOf k
  if !s.up .fabric || s.f (KAL_DECAY.mode c) != 1 || s.fa (KAL_CTL.freeze c) == 1 || x.sweep.isSome then s
  else s.setKal k { x with sweep := some { shift := max 1 (min 16 (s.f (KAL_DECAY.shift c))), start := s.time.clk, column := 0 } }

/-- The period of a table's decay has passed (R306). -/
def decayDue (s : State) (k : Nat) : Bool :=
  decide ((s.kalOf k).periodFrom + msTicks (max 2 (s.f (KAL_DECAY.period_ms (s.kalSrc k)))) ≤ s.time.clk)

/-- The period of a table's decay counts from now (R307, R321). -/
def periodStart (s : State) (k : Nat) : State := s.setKal k { s.kalOf k with periodFrom := s.time.clk }

/-- A cell after a decay step (R306). -/
def decayed (shift : Nat) (v : Word) : Word := v - v / BitVec.ofNat 32 (2 ^ shift)

/-- A cell lies in the columns from one to another. -/
def inColumns (lo hi cell : Nat) : Bool := decide (lo ≤ cell % 4096 ∧ cell % 4096 < hi)

/-- The cells after the columns from one to another are stepped: those that fall to 0 leave the table. -/
def decayCells (shift lo hi : Nat) (t : Tab Word) : Tab Word :=
  (t.map fun e => (e.1, if inColumns lo hi e.1 then decayed shift e.2 else e.2)).filter fun e => !(e.2 == 0)

/-- Cells of a list are met by a decay step (R310). -/
def kalMeetAll (s : State) (k : Nat) : List Nat → State
  | [] => s
  | c :: cs => (s.kalMeet k c (2 ^ 64 - 1) none).kalMeetAll k cs

/-- The running sweep of a table has stepped every column below `hi`; a cell with an uncorrectable error is stepped as 0
(R306, R310). -/
def sweepTo (s : State) (k hi : Nat) : State :=
  let x := s.kalOf k
  match x.sweep with
  | none => s
  | some w =>
    let met := x.spoilt.filter (inColumns w.column hi)
    let s := s.kalMeetAll k met
    s.setKal k { x with cells := decayCells w.shift w.column hi x.cells, spoilt := x.spoilt.filter fun c => !met.contains c,
                        sweep := some { w with column := max w.column hi } }

/-- What a tick does to a sweep: it goes on column by column, and after 1.05 ms every column is stepped (R306). -/
def sweepTick (s : State) (k : Nat) : State :=
  match (s.kalOf k).sweep with
  | none => s
  | some w =>
    let at_ := if w.start + 2688000 ≤ s.time.clk then 4096 else min 4096 (Config.sweepColumn w.start s.time.clk)
    if at_ ≤ w.column || !s.up .fabric then s else s.sweepTo k at_

/-- There are no sweeps in SLEEP: one that runs at the entry stops where it stands (R321). -/
def sweepStop (s : State) (k : Nat) : State := s.setKal k { s.kalOf k with sweep := none }

/-! ### Register writes -/

/-- The tables that the registers of table `k` serve (R303): both for those of KAL_0 while they are ganged, and then none for
those of KAL_1. -/
def kalServes (s : State) (k : Nat) : List Nat := if !s.ganged then [k] else if k = 0 then [0, 1] else []

/-- The settings of the tables that wait for a spectrum boundary come into force. -/
def kalAhead (s : State) : State :=
  [0, 1].foldl (fun s c => ((s.applyShadow (KAL_CTL.reg c)).applyShadow (KAL_COL.reg c)).applyShadow (KAL_AMP.reg c)) s

/-- As table `k` is set, its lines would come faster than 100,000 per second (R311). -/
def linesFast (s : State) (k : Nat) : Bool :=
  let t := s.kalAhead
  let c := t.kalSrc k
  let p := t.fa (KAL_CTL.path c)
  let i := t.fa (KAL_CTL.inst c)
  let r := t.specRate p i
  let d := t.kalDecim k p i (2 ^ (t.xfCfg p i).nLog2) * (if t.ganged then 2 else 1)
  decide (100000 * (r.2 * d * (t.f (KAL_LINE_CTL.l_m1 k) + 1)) < r.1)

/-- A register of table `k` takes a value, but where the running lines would come too fast (R311). -/
def kalSetWrite (s : State) (k off v : Nat) : State :=
  let t := s.plainWrite off v
  if [0, 1].any fun j => t.flag (KAL_LINE_CTL.en j) && t.linesFast j then s.kalRefuse k else t

/-- A write to KAL_CTL (R299, R303, R308, R309, R311): dropped whole where its binding is not valid, or with it the running
lines would come too fast. -/
def kalCtlWrite (s : State) (k v : Nat) : State :=
  let v := if k = 1 then clearBit v 23 else v
  let t := s.plainWrite (KAL_CTL.reg k).addr (clearBit v 31)
  if !s.instUsed (bits v 8 2) (bits v 10 3) ∨ [0, 1].any (fun j => t.flag (KAL_LINE_CTL.en j) && t.linesFast j) then
    s.kalRefuse k
  else
    let s := t
    if bit v 31 then (s.kalServes k).foldl (fun s k => s.setKal k { s.kalOf k with clearAsked := true }) s else s

/-- A write to KAL_LINE_CTL (R311, R312). -/
def kalLineWrite (s : State) (k v : Nat) : State :=
  let reg := bits v 16 6
  let on := bit v 31
  let was := s.flag (KAL_LINE_CTL.en k)
  let old := s.f (KAL_LINE_CTL.region k)
  if !s.regionExists reg || (s.plainWrite (KAL_LINE_CTL.reg k).addr v).linesFast k then s.kalRefuse k
  else
    let s := if was then s.unlease (s.f (KAL_LINE_CTL.region k)) .lines k else s
    let s := s.plainWrite (KAL_LINE_CTL.reg k).addr v
    let s := if on then s.lease reg .lines k else s
    let w := s.f (CAP_REGION_WRITTEN.reg reg)
    let x := s.kalOf k
    let s := if on then (s.set (KAL_LINE_NEXT.reg k) (w % s.regionSize reg)).setKal k
        { x with laid := if reg = old ∧ w = x.laidEnd then x.laid else 0, laidEnd := w } else s
    if on && !was then s.setKal k { s.kalOf k with line := KalLine.reset } else s

/-- A BAR2 write of a cell (R310). -/
def kalCellWrite (s : State) (p : Port) (k cell : Nat) (v : Word) : State :=
  let c := s.kalSrc k
  if !s.flag (KAL_CTL.en c) || (s.flag (KAL_STATUS.frozen k) && s.flag (KAL_STATUS.ready k)) then
    s.kalCellPut k cell v
  else
    (s.refuse p (2 ^ 31 + 0x1000000 * k + 4 * cell)).kalRefuse k

/-! ### Masks (R313 to R320) -/

/-- A mask. -/
def mskOf (s : State) (m : Nat) : MskSt := s.kal.masks.get MskSt.reset m

/-- The state with a mask changed. -/
def setMsk (s : State) (m : Nat) (x : MskSt) : State :=
  { s with kal := { s.kal with masks := s.kal.masks.put MskSt.reset m x } }

/-- The base of a copy of a mask. -/
def mskBase (s : State) (m copy : Nat) : Nat := if copy = 0 then s.f (MSK_BASE_A.base m) else s.f (MSK_BASE_B.base m)

/-- A base suits a length (R314). -/
def baseFits (base log2 : Nat) : Bool := decide (base % 2 ^ log2 = 0 ∧ base + 2 ^ log2 ≤ 2097152)

/-- A write to a mask's registers is dropped whole (R314). -/
def mskRefuse (s : State) (m : Nat) : State := (s.set (MSK_STATE.refused m) 1).raise 177

/-- TRG_COND.path of the conditions of a list that take mask `m` reads the path that the mask is bound to (R325). -/
def maskHomes (s : State) (m : Nat) : List Nat → State
  | [] => s
  | c :: cs =>
    (if s.f (TRG_COND.kind c) = 2 ∧ s.f (TRG_COND.sel c) % 64 = m then s.set (TRG_COND.path c) (s.f (MSK_BIND.path m))
      else s).maskHomes m cs

/-- A write to MSK_BIND (R314, R319): the conditions that take the mask follow it (R325, R332). -/
def mskBindWrite (s : State) (m v : Nat) : State :=
  let log2 := bits v 16 5
  let ok := decide (6 ≤ log2 ∧ log2 ≤ 16) && baseFits (s.mskBase m 0) log2 && baseFits (s.mskBase m 1) log2 &&
    s.instUsed (bits v 0 2) (bits v 8 3)
  if !ok then s.mskRefuse m
  else
    let s := (s.plainWrite (MSK_BIND.reg m).addr v).setMsk m { s.mskOf m with bindAt := some (s.nextSample (bits v 0 2)) }
    (s.maskHomes m (List.range 64)).condsShow

/-- A write to MSK_BASE_A or MSK_BASE_B (R314). -/
def mskBaseWrite (s : State) (m copy v : Nat) : State :=
  let on := s.fa (MSK_BIND.en m) == 1
  let change := v % 2 ^ 21 != s.mskBase m copy
  if !baseFits (v % 2 ^ 21) (s.f (MSK_BIND.len_log2 m)) ∨ (on ∧ change ∧ s.f (MSK_STATE.active m) = copy) then s.mskRefuse m
  else s.plainWrite (if copy = 0 then (MSK_BASE_A.reg m).addr else (MSK_BASE_B.reg m).addr) v

/-- A write to MSK_SWAP (R319). -/
def mskSwapWrite (s : State) (v : Nat) : State :=
  let m := v % 64
  let target := bits v 30 1
  if !bit v 31 then s
  else if s.f (MSK_STATE.active m) = target ∧ !s.flag (MSK_STATE.pending m) then s.bump (MSK_STATE.dropped m)
  else
    ((s.set (MSK_STATE.pending m) 1).set (MSK_STATE.pending_target m) target).setMsk m
      { s.mskOf m with swapAt := s.nextSample (s.f (MSK_BIND.path m)) }

/-- An entry lies in a copy of a mask, at the length in force (R314, R320). -/
def inCopy (s : State) (m copy e : Nat) : Bool :=
  let b := s.mskBase m copy
  decide (b ≤ e ∧ e < b + 2 ^ s.fa (MSK_BIND.len_log2 m))

/-- Writes to an entry are dropped for the sake of mask `m` (R320). -/
def mskGuards (s : State) (e m : Nat) : Bool :=
  (s.fa (MSK_BIND.en m) == 1 && s.inCopy m (s.f (MSK_STATE.active m)) e) ||
    (s.flag (MSK_STATE.pending m) && s.inCopy m (s.f (MSK_STATE.pending_target m)) e)

/-- A BAR2 write of a mask entry (R320). -/
def mskEntryWrite (s : State) (e : Nat) (v : Word) : State :=
  if (List.range 64).any (s.mskGuards e) then ((s.bump MSK_IGNORED.reg).set MSK_IGNORED_AT.entry e).raise 175
  else
    { s with kal := { s.kal with entries := s.kal.entries.put 0 e v, spoilt := s.kal.spoilt.filter fun n => n != e } }

/-- How a bin stands to its entry: it violates upward, by an excess, and it violates downward, each by itself (R313, R315). -/
structure MskBin where
  up : Option Nat
  down : Bool
deriving DecidableEq, Repr

/-- The comparison of a bin with its entry; `flagged` where the last kurtosis block flagged the bin, none where the mask is
not bound to the instance that feeds it. -/
def mskBin (entry v : Nat) (flagged : Option Bool) : MskBin :=
  let level := v / 16
  let counts := !bit entry 26 || flagged == some true
  { up := if counts && bit entry 24 && decide (bits entry 12 12 < level) then some (level - bits entry 12 12) else none,
    down := counts && bit entry 25 && decide (level < bits entry 0 12) }

/-- A result over the bins of a list from bin `b` on (R316). -/
def mskRun (r : MskResult) : Nat → List MskBin → MskResult
  | _, [] => r
  | b, x :: xs =>
    let r := if r.up + r.down = 0 && (x.up.isSome || x.down) then { r with lowest := b } else r
    let r := match x.up with
      | some e => { r with up := r.up + 1, excess := max r.excess e, excessBin := if r.excess < e then b else r.excessBin }
      | none => r
    let r := if x.down then { r with down := r.down + 1 } else r
    mskRun r (b + 1) xs

/-- Entries of a list are logged as uncorrectable (R318). -/
def mskBadLog (s : State) (seq p : Nat) : List Nat → State
  | [] => s
  | e :: es => (s.zeroLog seq (4 * e) 3 0 p).mskBadLog seq p es

/-- A spectrum is compared with the active copy of a mask (R315, R316, R318). -/
def mskCompare (s : State) (m : Nat) (x : Parcel) (vs : List Nat) (bad : List Nat) : State :=
  let p := x.path
  let len := 2 ^ s.fa (MSK_BIND.len_log2 m)
  let per := vs.length / len
  let copy := s.f (MSK_STATE.active m)
  let base := s.mskBase m copy
  let feeds := s.fa (MSK_BIND.inst m) == 0 && !s.flag (SK_CTL.src p)
  let flags := (s.xfOf p).sk.flagged
  let used := (s.kal.spoilt ++ bad.filter fun e => !s.kal.spoilt.contains e).filter fun e => decide (base ≤ e ∧ e < base + len)
  let bins := vs.zipIdx.map fun (e : Nat × Nat) =>
    let n := base + e.2 / max 1 per
    let entry := if used.contains n then 0 else (s.kal.entries.get 0 n).toNat
    mskBin entry e.1 (if feeds then some (flags.getD e.2 false) else none)
  let r := mskRun { seq := x.seq, tick := x.tick, phase := x.phase, flags := x.flags, copy := copy == 1, up := 0, down := 0,
                    lowest := 0, excess := 0, excessBin := 0 } 0 bins
  let s := s.dueTo (s.condsOf p 2 fun sel => sel % 64 == m) fun _ => [.mask r]
  (s.setMsk m { s.mskOf m with result := some r }).mskBadLog x.seq p used

/-- A spectrum leaves the exit towards mask `m` (R315 to R319). -/
def mskEvaluate (s : State) (m : Nat) (x : Parcel) (bad : List Nat) : State :=
  let due := match (s.mskOf m).bindAt with
    | some b => s.ofInst x (s.f (MSK_BIND.path m)) (s.f (MSK_BIND.inst m)) && decide (b ≤ x.seq)
    | none => false
  let s := if due then (s.applyShadow (MSK_BIND.reg m)).setMsk m { s.mskOf m with bindAt := none } else s
  let i := s.fa (MSK_BIND.inst m)
  if !s.ofInst x (s.fa (MSK_BIND.path m)) i then s
  else
    let s := if s.flag (MSK_STATE.pending m) && decide ((s.mskOf m).swapAt ≤ x.seq) then
        let s := (s.set (MSK_STATE.active m) (s.f (MSK_STATE.pending_target m))).set (MSK_STATE.pending m) 0
        ((s.addWrap (MSK_STATE.swaps m) 1).set (MSK_SWAP_INDEX.reg m) x.seq).raise 174
      else s
    match s.spectrumAt x.path i x.seq with
    | none => s
    | some sp =>
      if s.fa (MSK_BIND.en m) = 0 then s
      else if sp.v.length < 2 ^ s.fa (MSK_BIND.len_log2 m) then
        if s.flag (MSK_STATE.mismatch m) then s else (s.set (MSK_STATE.mismatch m) 1).raise 176
      else (s.set (MSK_STATE.mismatch m) 0).mskCompare m x sp.v bad

end State

/-! ### Meanings -/

/-- KAL_SPECTRUM (R299 to R305, R311). -/
def execKalSpectrum (k : Fin 2) (x : Parcel) (bad : List Nat) (s : State) : Res := .next (s.kalSpectrum k x bad)

/-- KAL_DECAY_SWEEP (R306, R307): a period of the table has passed. -/
def execKalDecaySweep (k : Fin 2) (s : State) : Res :=
  if !s.decayDue k then .next s
  else
    let t := s.periodStart k
    if s.flag GLB_PCLK.nrt_stopped ∧ s.f (KAL_DECAY.mode (s.kalSrc k)) = 1 ∧ s.up .fabric then
      .next (t.addWrap (KAL_SWEEPS.skipped k) 1)
    else .next (t.sweepStart k)

/-- KAL_DECAY_SWEEP_DONE (R306): the sweep has stepped every column. -/
def execKalDecaySweepDone (k : Fin 2) (s : State) : Res :=
  if (s.kalOf k).sweep.isSome && s.up .fabric then .next (((s.sweepTo k 4096).sweepStop k).addWrap (KAL_SWEEPS.done k) 1)
  else .next s

/-- KAL_FREEZE (R308): a write of KAL_CTL with freeze set. -/
def execKalFreeze (p : Port) (k : Fin 2) (v : Word) (s : State) : Res :=
  .next (s.hubWrite p (KAL_CTL.reg k).addr none fun s => s.kalCtlWrite k (v.toNat ||| 2 ^ 30))

/-- KAL_READY (R308): the boundary after a freeze has passed, and sweeps and clears are done. -/
def execKalReady (k : Fin 2) (s : State) : Res :=
  if s.flag (KAL_CTL.freeze (s.kalSrc k)) && !s.flag (KAL_STATUS.ready k) then
    let s := s.kalBoundary k
    if (s.kalOf k).sweep.isSome || s.flag (KAL_STATUS.clearing k) then .next s
    else .next ((s.set (KAL_STATUS.ready k) 1).raise (170 + k))
  else .next s

/-- KAL_CLEAR (R309): a write of KAL_CTL with clear set. -/
def execKalClear (p : Port) (k : Fin 2) (v : Word) (s : State) : Res :=
  .next (s.hubWrite p (KAL_CTL.reg k).addr none fun s => s.kalCtlWrite k (v.toNat ||| 2 ^ 31))

/-- KAL_CLEAR_DONE (R309): the clear's sweep is complete. -/
def execKalClearDone (k : Fin 2) (s : State) : Res :=
  let s := if (s.kalOf k).clearAsked then s.kalBoundary k else s
  if s.flag (KAL_STATUS.clearing k) then .next ((s.set (KAL_STATUS.clearing k) 0).raise (170 + k)) else .next s

/-- MSK_EVALUATE (R315 to R319). -/
def execMskEvaluate (m : Fin 64) (x : Parcel) (bad : List Nat) (s : State) : Res := .next (s.mskEvaluate m x bad)

/-- MSK_SWAP (R319): a write of MSK_SWAP with go set. -/
def execMskSwap (p : Port) (v : Word) (s : State) : Res :=
  .next (s.hubWrite p MSK_SWAP.reg.addr (some 7) fun s => s.mskSwapWrite (v.toNat ||| 2 ^ 31))

/-- NRT_RESUME (R150, R152, R307): the stopped work resumes together, once PCLK is at 960 MHz and the PLL is in lock; each
density table that decays starts one sweep at once. -/
def execNrtResume (s : State) : Res :=
  if s.f GLB_PCLK.step = 0 ∧ !s.flag GLB_PCLK.uplk_hold ∧ s.flag GLB_PCLK.nrt_stopped ∧
      s.avs.fullFrom + 2560 * max 1 (s.f GLB_PCLK_CTL.nrt_resume_us) ≤ s.time.clk then
    .next ((((((s.set GLB_PCLK.nrt_stopped 0).fabricTouch).periodStart 0).sweepStart 0).periodStart 1).sweepStart 1)
  else .next s

end Sys2Proof.Machine
end

