-- ==== Sys2Proof/Machine/Operands.lean ====
section
/-! DEFINITION. The operand forms of the kernel processors: registers and their parts (R385), memories (R383, R384), cursor
accesses (R386, R387), pending sources (R401, R404). -/

namespace Sys2Proof.Machine

namespace State

/-- A kernel processor, by its logical number. -/
def kpOf (s : State) (n : Nat) : KpSt := s.kp.get KpSt.reset n

/-- The state with a kernel processor changed. -/
def setKp (s : State) (n : Nat) (x : KpSt) : State := { s with kp := s.kp.put KpSt.reset n x }

/-- The processor is numbered for work, there, and not retired (R381, R546). -/
def kpUsable (s : State) (n : Nat) : Bool := decide (n < 64) && s.kpPresent n && s.f (KP_STATUS.role n) != 3

/-- The processor is executing (R409). -/
def kpRunning (s : State) (n : Nat) : Bool := s.flag (KP_STATUS.running n)

/-- SH1 mode is in force (R403). -/
def kpSh1 (s : State) (n : Nat) : Bool := s.flag (KP_STATUS.sh1 n)

/-- TMR now: one less each 256 ticks, down to 0 (R385). -/
def kpTimer (s : State) (n : Nat) : Nat := (s.kpOf n).tmr.toNat - (s.time.clk - (s.kpOf n).tmrAt) / 256

/-! ### Registers (R385, R388) -/

/-- Bits of a register that MOV reaches. -/
def kpWidth : KpReg → Nat
  | .w _ .word => 32
  | .w _ _ => 16
  | .sw _ => 32
  | .sg _ => 8
  | .c _ => 16
  | .rc => 17
  | .imask => 16
  | .ipend => 16
  | .inwp => 16
  | .inrp => 16
  | _ => 32

/-- The part of a working register. -/
def wordPart (v : Nat) : KpPart → Nat
  | .word => v
  | .lo => bits v 0 16
  | .hi => bits v 16 16

/-- A working register. -/
def kpW (s : State) (n : Nat) (i : Nat) : Nat := ((s.kpOf n).w.get 0 i).toNat

/-- A sum register. -/
def kpS (s : State) (n : Nat) (a : Nat) : Nat := ((s.kpOf n).sum.get 0 a).toNat

/-- The value of a register. -/
def kpRead (s : State) (n : Nat) (r : KpReg) : Nat :=
  let x := s.kpOf n
  match r with
  | .w i part => wordPart (s.kpW n i) part
  | .sw a => bits (s.kpS n a) 0 32
  | .sg a => bits (s.kpS n a) 32 8
  | .c i => (x.cur.get 0 i).toNat
  | .cfg i => (x.cfg.get 0 i).toNat
  | .win i => (x.win.get 0 i).toNat
  | .sr => x.sr.toNat
  | .rc => x.rc.toNat
  | .imask => x.imask.toNat
  | .ipend => x.ipend.toNat
  | .ipri => x.ipri.toNat
  | .tmr => s.kpTimer n
  | .inwp => x.inwp.toNat
  | .inrp => x.inrp.toNat
  | .mbi i => s.f (KP_MBOX_IN.reg n i)
  | .mbo i => (x.mbo.get 0 i).toNat

/-- A working register takes a value. -/
def putW (s : State) (n i v : Nat) : State :=
  s.setKp n { s.kpOf n with w := (s.kpOf n).w.put 0 i (BitVec.ofNat 32 v) }

/-- A sum register is written: its clamped bit clears (R388). -/
def putS (s : State) (n a v : Nat) : State :=
  let x := s.kpOf n
  s.setKp n { x with sum := x.sum.put 0 a (BitVec.ofNat 40 v), sr := BitVec.ofNat 32 (clearBit x.sr.toNat (20 + a)) }

/-- SR after a kernel's write (R388): RW fields take it, aov and sv clear where it is 1, clamped stays. -/
def srWrite (old v : Nat) : Nat :=
  (v &&& 0xE00F040F) ||| (old &&& 0x00F00000) ||| (old &&& 0x0000F800 &&& (0xFFFFFFFF ^^^ v))

/-- A register takes a value, cut to its width. Writes to the host's words have no effect, and a write of IPEND clears the
sources where it is 0 (log entry 41). -/
def kpPut (s : State) (n : Nat) (r : KpReg) (v : Nat) : State :=
  let x := s.kpOf n
  match r with
  | .w i .word => s.putW n i v
  | .w i .lo => s.putW n i (insertBits (s.kpW n i) 0 16 v)
  | .w i .hi => s.putW n i (insertBits (s.kpW n i) 16 16 v)
  | .sw a => s.putS n a (v % 2 ^ 32 + (if bit v 31 then 255 * 2 ^ 32 else 0))
  | .sg a => s.putS n a (insertBits (s.kpS n a) 32 8 v)
  | .c i => s.setKp n { x with cur := x.cur.put 0 i (BitVec.ofNat 16 v) }
  | .cfg i => s.setKp n { x with cfg := x.cfg.put 0 i (BitVec.ofNat 32 v &&& 0xFFFF0000) }
  | .win i => s.setKp n { x with win := x.win.put 0 i (BitVec.ofNat 32 v &&& 0x1FFF1FFF) }
  | .sr => s.setKp n { x with sr := BitVec.ofNat 32 (srWrite x.sr.toNat v) }
  | .rc => s.setKp n { x with rc := BitVec.ofNat 17 v }
  | .imask => s.setKp n { x with imask := BitVec.ofNat 16 v }
  | .ipend => s.setKp n { x with ipend := x.ipend &&& BitVec.ofNat 16 v }
  | .ipri => s.setKp n { x with ipri := BitVec.ofNat 32 v }
  | .tmr => s.setKp n { x with tmr := BitVec.ofNat 32 v, tmrAt := s.time.clk }
  | .inwp => s.setKp n { x with inwp := BitVec.ofNat 16 v }
  | .inrp => s.setKp n { x with inrp := BitVec.ofNat 16 v }
  | .mbi _ => s
  | .mbo i => s.setKp n { x with mbo := x.mbo.put 0 i (BitVec.ofNat 32 v) }

/-- A value of `from_` bits for a destination of `to_` bits: the bits above are free where no rule gives them. -/
def kpWiden (s : State) (v from_ to_ : Nat) : Nat × State :=
  if to_ ≤ from_ then (v % 2 ^ to_, s)
  else
    let d := s.draw
    (v % 2 ^ from_ + Config.kpFree d.1 % 2 ^ (to_ - from_) * 2 ^ from_, d.2)

/-! ### Sources (R401, R404) -/

/-- A source becomes pending; 5 and 6 wait for the end of a repeat (R404). -/
def kpPend (s : State) (n src : Nat) : State :=
  let x := s.kpOf n
  let b := BitVec.ofNat 16 (2 ^ src)
  s.setKp n { x with ipend := x.ipend ||| b,
                     late := if x.rc != 0 && (src == 5 || src == 6) then x.late ||| b else x.late }

/-- An enabled source is pending: WAIT holds no longer (R395). -/
def kpWakes (s : State) (n : Nat) : Bool := (s.kpOf n).ipend &&& (s.kpOf n).imask != 0

/-! ### Memories (R383, R384) -/

/-- The word of a window's memories: 0 to 8191 IMEM, then X, then Y. -/
def kpMem (s : State) (n word : Nat) : Word :=
  let x := s.kpOf n
  if word < 8192 then x.imem.get 0 word else if word < 16384 then x.x.get 0 (word % 8192) else x.y.get 0 (word % 8192)

/-- The state with a memory word at `v`; a word that failed has now been rewritten (R541). -/
def kpMemPut (s : State) (n word : Nat) (v : Word) : State :=
  let x := s.kpOf n
  let s := if word < 8192 then s.setKp n { x with imem := x.imem.put 0 word v }
    else if word < 16384 then s.setKp n { x with x := x.x.put 0 (word % 8192) v }
    else s.setKp n { x with y := x.y.put 0 (word % 8192) v }
  let k := 32768 * s.f (KP_STATUS.phys n) + word
  if s.wear.kpBad.get 0 k = 1 then { s with wear := { s.wear with kpBad := s.wear.kpBad.put 0 k 2 } } else s

/-- A word of the window is read over BAR0 or by DMA: retired processors and the windows of spares read 0 (R381, R546). -/
def kpWindowRead (s : State) (n word : Nat) : Word := if s.kpUsable n then s.kpMem n word else 0

/-- A word of the window is written over BAR0 or by DMA; IMEM only while the processor is halted (R384). -/
def kpWindowWrite (s : State) (n word : Nat) (v : Word) : State :=
  if !s.kpUsable n then s
  else if word < 8192 ∧ s.kpRunning n then s.bump (KP_STATUS.imem_refused n)
  else s.kpMemPut n word v

/-! ### Errors of the memories (R406, R541, R555) -/

/-- A processor is marked (R541, R543). -/
def kpMark (s : State) (phys detail : Nat) : State :=
  let w := WEAR_KP_MARK.word (phys / 32)
  if bit (s.f w) (phys % 32) then s else (s.set w (setBit (s.f w) (phys % 32))).marked 0x03 0x3 phys detail

/-- An uncorrectable error at a word: counted, logged, and the processor is marked when the word fails again after a
rewrite. -/
def kpEccFail (s : State) (n word : Nat) : State :=
  let phys := s.f (KP_STATUS.phys n)
  let s := (s.bump (KP_ECC.uncorrected n)).chkFail (2 ^ 64 - 1) (4 * word) 2 1 phys 5 none
  let k := 32768 * phys + word
  let old := s.wear.kpBad.get 0 k
  let s := if old = 2 then s.kpMark phys word else s
  { s with wear := { s.wear with kpBad := s.wear.kpBad.put 0 k 1 } }

/-- A corrected error at a word. -/
def kpEccCorr (s : State) (n word : Nat) : State :=
  (s.bump (KP_ECC.corrected n)).chkCorr (4 * word) 1 1 (s.f (KP_STATUS.phys n)) 0 none

/-- The corrected errors among words that an instruction reads. -/
def kpCorrected (s : State) (n : Nat) (got : KpGot) : List Nat → State
  | [] => s
  | k :: ks => (if got.corrected.contains k then s.kpEccCorr n k else s).kpCorrected n got ks

end State

/-- How an instruction of a kernel processor ends: it goes on, jumps, or faults with a code of R406 and, for a memory error,
the word that failed. -/
inductive KpEnd where
  | go (s : State)
  | jump (s : State) (pc : Nat)
  | fault (code : Nat) (word : Option Nat)
deriving DecidableEq, Repr

/-- What follows where an instruction has not faulted. -/
def KpEnd.andThen (e : KpEnd) (f : State → KpEnd) : KpEnd :=
  match e with
  | .go s => f s
  | .jump s pc => .jump s pc
  | .fault c k => .fault c k

namespace State

/-! ### Cursor accesses (R386, R387) -/

/-- A cursor. -/
def kpCur (s : State) (n c : Nat) : Nat := ((s.kpOf n).cur.get 0 c).toNat

/-- A cursor moves after an access (R386). -/
def kpCurStep (s : State) (n c : Nat) (f : KpStep) : State :=
  let x := s.kpOf n
  let cfg := (x.cfg.get 0 c).toNat
  let win := (x.win.get 0 c).toNat
  match f with
  | .none => s
  | .stride => s.setKp n { x with cur := x.cur.put 0 c (BitVec.ofNat 16 (cursorMove (s.kpCur n c) cfg win (strideOf cfg))) }
  | .neg => s.setKp n { x with cur := x.cur.put 0 c (BitVec.ofNat 16 (cursorMove (s.kpCur n c) cfg win (-(strideOf cfg)))) }

/-- The effective address of an access: the cursor, or the cursor plus an offset, modulo 2^16 (R386, R395). -/
def kpEa (s : State) (n c : Nat) (m : KpMode) : Nat :=
  match m with
  | .step _ => s.kpCur n c
  | .offset o => unsigned 16 ((s.kpCur n c : Int) + o)

/-- The cursor after an access: with an offset it stays (R395). -/
def kpEaStep (s : State) (n c : Nat) (m : KpMode) : State :=
  match m with
  | .step f => s.kpCurStep n c f
  | .offset _ => s

/-- The word number in the window of an address of X or Y. -/
def kpWordNo (y : Bool) (ea : Nat) : Nat := (if y then 16384 else 8192) + ea

/-- A data word is fetched: an address past the memory faults with ADDRESS, an uncorrectable word with ECC_X or ECC_Y
(R387, R406). -/
def kpLoad (s : State) (n : Nat) (got : KpGot) (y : Bool) (ea : Nat) (f : State → Nat → KpEnd) : KpEnd :=
  let k := kpWordNo y ea
  if 8192 ≤ ea then .fault 2 none
  else if got.failed.contains k then .fault (if y then 8 else 7) (some k)
  else f (s.kpCorrected n got [k]) (s.kpMem n k).toNat

/-- A word is stored, or faults with ADDRESS (R387). -/
def kpStore (s : State) (n : Nat) (y : Bool) (ea v : Nat) (f : State → KpEnd) : KpEnd :=
  if 8192 ≤ ea then .fault 2 none else f (s.kpMemPut n (kpWordNo y ea) (BitVec.ofNat 32 v))

/-- A parallel move (R395), the registers it stores being those before the instruction, `old`. -/
def kpMove (s old : State) (n : Nat) (got : KpGot) (y : Bool) : KpMove → KpEnd
  | .none => .go s
  | .load c f w =>
    let k := (if y then 4 else 0) + c.val
    s.kpLoad n got y (s.kpCur n k) fun s v => .go ((s.putW n w v).kpCurStep n k f)
  | .store c f w =>
    let k := (if y then 4 else 0) + c.val
    s.kpStore n y (s.kpCur n k) (old.kpW n w) fun s => .go (s.kpCurStep n k f)

end State

end Sys2Proof.Machine
end

