-- ==== Sys2Proof/Machine/Cq.lean ====
section
/-! DEFINITION. Completion queues in host memory (R427), which DMA channels and the display share. -/

namespace Sys2Proof.Machine

namespace State

/-- Records of a queue. -/
def cqSize (s : State) (q : Nat) : Nat := 2 ^ max 4 (min 16 (s.f (DMA_CQ_CTL.size_log2 q)))

/-- The queue is full. -/
def cqFull (s : State) (q : Nat) : Bool :=
  (s.f (DMA_CQ_HEAD.index q) + 1) % s.cqSize q == s.f (DMA_CQ_TAIL.index q) % s.cqSize q

/-- The port that a queue is written over. -/
def cqPort (s : State) (q : Nat) : Port := if s.flag (DMA_CQ_CTL.port q) then .b else .a

/-- DMA_CQ_STATUS follows the queue; becoming full raises event 44. -/
def cqShow (s : State) (q : Nat) : State :=
  let full := s.cqFull q
  let was := s.flag (DMA_CQ_STATUS.full q)
  let s := (s.set (DMA_CQ_STATUS.full q) (b2n full)).set (DMA_CQ_STATUS.held q)
    ((s.dma.held.filter fun h => h.q == q && h.channel.isSome).length)
  if full && !was then s.raise 44 else s

/-- A record with its phase bit. -/
def cqBytes (b : List Byte) (phase : Nat) : List Byte :=
  b.take 30 ++ [BitVec.ofNat 8 (field b 30 1 % 128 + 128 * phase)] ++ b.drop 31

/-- A record is written at the head of its queue, the head advances, and then the events are raised (R427). -/
def cqWrite (s : State) (h : HeldRec) : State :=
  let i := s.f (DMA_CQ_HEAD.index h.q)
  let ph := s.f (DMA_CQ_HEAD.phase h.q)
  let s := s.emit (.hostWrite (s.cqPort h.q) (s.regVal (DMA_CQ_BASE.reg h.q) / 64 * 64 + 32 * i) (cqBytes h.bytes ph))
  let next := (i + 1) % s.cqSize h.q
  let s := (s.set (DMA_CQ_HEAD.index h.q) next).set (DMA_CQ_HEAD.phase h.q) (if next = 0 then 1 - ph else ph)
  (s.cqShow h.q).raiseAll h.events

/-- The queue takes no record now: it is disabled or full, or records are held for it. -/
def cqBlocked (s : State) (q : Nat) : Bool :=
  !s.flag (DMA_CQ_CTL.en q) || s.cqFull q || s.dma.held.any fun h => h.q == q

/-- A record is posted: written, or held; the answer says that it was written. -/
def cqPost (s : State) (h : HeldRec) : State × Bool :=
  if s.cqBlocked h.q then (({ s with dma := { s.dma with held := s.dma.held ++ [h] } }).cqShow h.q, false)
  else (s.cqWrite h, true)

/-- The oldest held record of a queue. -/
def cqOldest (s : State) (q : Nat) : Option HeldRec := s.dma.held.find? fun h => h.q == q

end State

end Sys2Proof.Machine
end

