-- ==== Sys2Proof/Machine/Disp.lean ====
section
/-! DEFINITION. The split-panel display (14_display.md). -/

namespace Sys2Proof.Machine

/-- The shadows of the registers between two offsets become the values in force. -/
def applyRange (lo hi : Nat) (act regs : Tab Word) : Tab Word :=
  act.filter (fun e => decide (e.1 < lo)) ++ regs.filter (fun e => decide (lo ≤ e.1 ∧ e.1 < hi)) ++
    act.filter fun e => decide (hi ≤ e.1)

/-- A pixel component of colour `l` with weight `a` of 765 over `b` (R457). -/
def blend1 (a l b : Nat) : Nat := (a * l + (765 - a) * b + 382) / 765

/-- A layer pixel, pixel alpha and colour, over a result (R457). -/
def blend (alpha p colour under : Nat) : Nat :=
  let a := alpha * p
  blend1 a (bits colour 0 10) (bits under 0 10) + 2 ^ 10 * blend1 a (bits colour 10 10) (bits under 10 10) +
    2 ^ 20 * blend1 a (bits colour 20 10) (bits under 20 10)

/-- The cells that place `x` of `w` covers, of `n` from `c0` on: the first and how many, at least one (R459). -/
def covers (c0 n w x : Nat) : Nat × Nat :=
  let a := c0 + x * n / max 1 w
  let b := c0 + (x + 1) * n / max 1 w
  (a, max 1 (b - a))

/-- The palette index of a count (R459): 32 log2 (c + 1), cut down, at most 1,023. -/
def densityIndex (c : Nat) : Nat := min 1023 (Nat.log2 ((c + 1) ^ 32))

namespace State

/-! ### Frame store and panel (R453, R454) -/

/-- The display is there and its domain is up. -/
def dispUp (s : State) : Bool := s.displayPresent && s.up .display

/-- Width of the panel in pixels, in force. -/
def panelW (s : State) : Nat := 2 * s.fa DISP_HTIM.hactive

/-- A host write of a frame-store word (R454). -/
def storeWrite (s : State) (i : Nat) (v : Word) : State :=
  if s.fa DISP_CTL.compose = 0 then { s with disp := { s.disp with store := s.disp.store.put 0 i v } }
  else s.bump DISP_FS_REFUSED.reg

/-! ### Layers (R459 to R462) -/

/-- The count of a density cell that the display sees: the sum of both tables when they are ganged (R303, R459). -/
def cellShown (s : State) (k cell : Nat) : Nat :=
  let one := fun (i : Nat) => ((s.kalOf i).cells.get 0 cell).toNat
  if s.ganged then min (2 ^ 32 - 1) (one 0 + one 1) else one k

/-- The pixel of the density layer at a place of its rectangle, as a palette entry. -/
def densityPixel (s : State) (x y : Nat) : Nat :=
  let w := s.fa (DISP_LAYER_SIZE.w 0)
  let h := s.fa (DISP_LAYER_SIZE.h 0)
  let k := s.fa (DISP_LAYER_CTL.sel 0) % 2
  let cs := covers (s.fa (DISP_LAYER_MAP.first 0)) (s.fa (DISP_LAYER_MAP.count 0)) w x
  let rs := covers (s.fa (DISP_LAYER_ROWS.r0 0)) (s.fa (DISP_LAYER_ROWS.nr 0)) h (h - 1 - y)
  let n := ((List.range rs.2).map fun j => ((List.range cs.2).map fun i =>
    let c := cs.1 + i
    let a := rs.1 + j
    if c < 4096 ∧ a < 1024 then s.cellShown k (4096 * a + c) else 0).foldl max 0).foldl max 0
  let ix := densityIndex n
  if ix = 0 then 0 else s.fa (DISP_PAL_D.reg ix)

/-- The density layer reads a cell for line `y` of the panel. -/
def cellRead (s : State) (y cell : Nat) : Bool :=
  let y0 := s.fa (DISP_LAYER_POS.y 0)
  let h := s.fa (DISP_LAYER_SIZE.h 0)
  let rs := covers (s.fa (DISP_LAYER_ROWS.r0 0)) (s.fa (DISP_LAYER_ROWS.nr 0)) h (h - 1 - (y - y0))
  let c0 := s.fa (DISP_LAYER_MAP.first 0)
  s.fa (DISP_LAYER_CTL.en 0) == 1 && decide (y0 ≤ y ∧ y < y0 + h) && decide (rs.1 ≤ cell / 4096 ∧ cell / 4096 < rs.1 + rs.2) &&
    decide (c0 ≤ cell % 4096 ∧ cell % 4096 < c0 + max 1 (s.fa (DISP_LAYER_MAP.count 0)))

/-- The reads of the density layer for a line meet the uncorrectable cells among them (R310). -/
def densityMeet (s : State) (y : Nat) : State :=
  let one := fun (s : State) (k : Nat) => s.kalMeetAll k ((s.kalOf k).spoilt.filter (s.cellRead y))
  if s.ganged then one (one s 0) 1 else one s (s.fa (DISP_LAYER_CTL.sel 0) % 2)

/-- Pixels above the bottom line at which a level lies (R461). -/
def traceHeight (s : State) (v : Nat) : Nat :=
  min (s.fa (DISP_LAYER_SIZE.h 1) - 1) ((v - s.fa (DISP_LAYER_LVL.v_bottom 1)) / (s.fa (DISP_LAYER_LVL.step_m1 1) + 1))

/-- A trace draws at a place of the layer (R461). -/
def traceDraws (s : State) (t : TraceSnap) (x y : Nat) : Bool :=
  let w := s.fa (DISP_LAYER_SIZE.w 1)
  let h := s.fa (DISP_LAYER_SIZE.h 1)
  let b := covers (s.fa (DISP_LAYER_MAP.first 1)) (s.fa (DISP_LAYER_MAP.count 1)) w x
  let own := (t.bins.drop b.1).take b.2
  let prev := if x = 0 then [] else
    let l := covers (s.fa (DISP_LAYER_MAP.first 1)) (s.fa (DISP_LAYER_MAP.count 1)) w (x - 1)
    (t.bins.drop (l.1 + l.2 - 1)).take 1
  match own with
  | [] => false
  | v :: vs =>
    let hs := ((v :: vs) ++ prev).map s.traceHeight
    let at_ := h - 1 - y
    decide (hs.foldl min (s.traceHeight v) ≤ at_ ∧ at_ ≤ hs.foldl max 0)

/-- The pixel of the trace layer at a place: a later trace covers an earlier one (log entry 52). -/
def tracePixel (s : State) (x y : Nat) : Nat :=
  let hit := [3, 2, 1, 0].find? fun i =>
    match s.disp.traces.get none i with
    | some t => s.traceDraws t x y
    | none => false
  match hit with
  | some i => 3 * 2 ^ 30 + s.fa (DISP_TRACE_COL.colour i)
  | none => 0

/-- The pixel of the waterfall layer at a place (R460). -/
def fallPixel (s : State) (bad : List Nat) (x y : Nat) : Nat :=
  let r := s.disp.fallRegion
  let size := s.regionSize r
  if s.disp.fallLines ≤ y ∨ s.disp.fallEnd < 8256 * (y + 1) then 0
  else
    let pos := s.disp.fallEnd - 8256 * (y + 1)
    if pos + size < s.f (CAP_REGION_WRITTEN.reg r) then 0
    else
      let cs := covers (s.fa (DISP_LAYER_MAP.first 2)) (s.fa (DISP_LAYER_MAP.count 2)) (s.fa (DISP_LAYER_SIZE.w 2)) x
      let at_ := fun (i j : Nat) => s.regionBase r + (pos + 64 + 2 * i + j) % size
      let cols := ((List.range cs.2).map fun i => cs.1 + i).filter fun c => decide (c < 4096)
      if cols.any fun c => bad.contains (at_ c 0 / 4) then 0
      else
        let v := (cols.map fun c => (s.sdram.get 0 (at_ c 0)).toNat + 256 * (s.sdram.get 0 (at_ c 1)).toNat).foldl max 0
        let ix := min 1023 ((v - s.fa (DISP_LAYER_LVL.v_bottom 2)) / 2 ^ s.fa (DISP_LAYER_LVL.shift 2))
        if ix = 0 then 0 else s.fa (DISP_PAL_W.reg ix)

/-- The pixel of the overlay at a place: of host memory as it was read, or of a region (R462, R469). -/
def overlayPixel (s : State) (overlay : List Word) (bad : List Nat) (x y : Nat) : Nat :=
  if s.disp.faulted then 0
  else if s.fa (DISP_LAYER_CTL.src_space 3) = 2 then
    let r := s.fa (DISP_LAYER_CTL.sel 3)
    let off := s.fa (DISP_LAYER_ADDR.reg 3) + y * s.fa (DISP_LAYER_PITCH.reg 3) + 4 * x
    let a := s.regionBase r + off % s.regionSize r
    if bad.contains (a / 4) then 0 else leNat (s.memBytes a 4)
  else ((overlay.getD x 0).toNat)

/-- Layer `l` covers a place of the panel: the place within its rectangle. -/
def layerAt (s : State) (l x y : Nat) : Option (Nat × Nat) :=
  let x0 := s.fa (DISP_LAYER_POS.x l)
  let y0 := s.fa (DISP_LAYER_POS.y l)
  if s.fa (DISP_LAYER_CTL.en l) = 1 ∧ x0 ≤ x ∧ x < x0 + s.fa (DISP_LAYER_SIZE.w l) ∧ y0 ≤ y ∧ y < y0 + s.fa (DISP_LAYER_SIZE.h l)
  then some (x - x0, y - y0) else none

/-- A panel pixel: the layers over the background, from the bottom (R457). -/
def panelPixel (s : State) (overlay : List Word) (bad : List Nat) (x y : Nat) : Nat :=
  let put := fun (under l : Nat) (f : Nat → Nat → Nat) =>
    match s.layerAt l x y with
    | none => under
    | some c => let v := f c.1 c.2; blend (s.fa (DISP_LAYER_CTL.alpha l)) (bits v 30 2) (bits v 0 30) under
  let p := put (s.fa DISP_BG.colour) 0 s.densityPixel
  let p := put p 1 s.tracePixel
  let p := put p 2 (s.fallPixel bad)
  put p 3 (s.overlayPixel overlay bad)

/-- Words of the store from an index on. -/
def storeRow (s : State) (i : Nat) (ps : List Nat) : State :=
  { s with disp := { s.disp with store := s.disp.store.putMany 0 i (ps.map (BitVec.ofNat 32)) } }

/-- Bad capture-memory words that the compositor met (R359). -/
def dispBad (s : State) : List Nat → State
  | [] => s
  | w :: ws => (s.memFail (4 * w) 6 none).dispBad ws

/-- Capture-memory words in which the compositor's reads corrected an error (R359). -/
def dispFixed (s : State) : List (Nat × Fin 2 × Fin 39) → State
  | [] => s
  | e :: es => (s.memFixed (4 * e.1) e.2.1.val e.2.2.val).dispFixed es

/-! ### Commits (R463 to R466) -/

/-- A field of a register as the shadow has it. -/
def back (total active front width : Nat) : Int := (total : Int) - active - front - width

/-- The shadows keep R452, R455 and R462 and the layers lie on the panel (R464). -/
def dispOk (s : State) : Bool :=
  let ha := s.f DISP_HTIM.hactive
  let ht := s.f DISP_HTIM.htotal
  let va := s.f DISP_VTIM.vactive
  let vt := s.f DISP_VTIM.vtotal
  let khz := s.f DISP_PCLK.khz
  let timing := decide (640 ≤ ha ∧ ha ≤ 2560 ∧ ha % 8 = 0 ∧ 480 ≤ va ∧ va ≤ 1600 ∧ 25000 ≤ khz ∧ khz ≤ 300000) &&
    decide (23 * (ht * vt) ≤ khz * 1000 ∧ khz * 100000 ≤ 6005 * (ht * vt)) &&
    decide (8 ≤ back ht ha (s.f DISP_HSYNC.front) (s.f DISP_HSYNC.width)) &&
    decide (1 ≤ back vt va (s.f DISP_VSYNC.front) (s.f DISP_VSYNC.width))
  let rects := (List.range 4).all fun l => !s.flag (DISP_LAYER_CTL.en l) ||
    decide (s.f (DISP_LAYER_POS.x l) + s.f (DISP_LAYER_SIZE.w l) ≤ 2 * ha ∧ s.f (DISP_LAYER_POS.y l) + s.f (DISP_LAYER_SIZE.h l) ≤ va)
  let pitch := s.f (DISP_LAYER_PITCH.reg 3)
  let overlay := decide (s.f (DISP_LAYER_CTL.src_space 3) ≤ 2) && (!s.flag (DISP_LAYER_CTL.en 3) ||
    (decide (4 * s.f (DISP_LAYER_SIZE.w 3) ≤ pitch ∧ pitch % 64 = 0) &&
      (s.f (DISP_LAYER_CTL.src_space 3) != 2 || s.regionExists (s.f (DISP_LAYER_CTL.sel 3)))))
  let traces := (List.range 4).all fun i => s.pathPresent (s.f (DISP_TRACE_SRC.path i))
  timing && rects && overlay && traces

/-- The buffer that the settings in force give a layer (R468). -/
def bufNow (s : State) (l : Nat) : Option LayerBuf :=
  if s.fa (DISP_LAYER_CTL.en l) = 0 then none
  else if l = 2 then
    let r := s.f (KAL_LINE_CTL.region (s.fa (DISP_LAYER_CTL.sel 2) % 2))
    if s.regionExists r then some { layer := 2, space := 2, region := some r, addr := s.regionBase r } else none
  else if s.fa (DISP_LAYER_CTL.src_space 3) = 2 then
    let r := s.fa (DISP_LAYER_CTL.sel 3)
    some { layer := 3, space := 2, region := some r, addr := s.regionBase r + s.fa (DISP_LAYER_ADDR.reg 3) }
  else some { layer := 3, space := s.fa (DISP_LAYER_CTL.src_space 3), region := none, addr := s.fa (DISP_LAYER_ADDR.reg 3) }

/-- A layer's buffer changes: the new one is leased, the old one waits to be released (R468). -/
def bufChange (s : State) (l : Nat) (old new : Option LayerBuf) (tag : Nat) : State :=
  if old = new then s
  else
    let s := match new with
      | some b => (match b.region with | some r => s.lease r .display l | none => s)
      | none => s
    let s := match old with
      | some b =>
        let d : LayerDone := { buf := b, commit := s.f DISP_COMMIT_STATUS.applied, cause := b2n new.isNone, tag := tag }
        { s with disp := { s.disp with releases := s.disp.releases ++ [d] } }
      | none => s
    if l = 2 then { s with disp := { s.disp with buf2 := new } } else { s with disp := { s.disp with buf3 := new } }

/-- An output's link. -/
def dpLink (s : State) (b : Bool) : DpLink := if b then s.disp.linkB else s.disp.linkA

/-- The state with an output's link changed. -/
def setLink (s : State) (b : Bool) (x : DpLink) : State :=
  if b then { s with disp := { s.disp with linkB := x } } else { s with disp := { s.disp with linkA := x } }

/-- The lane rate code of an output in DISP_STATUS. -/
def dpRate (b : Bool) : Loc := if b then DISP_STATUS.b_rate else DISP_STATUS.a_rate

/-- A sink is present on an output. -/
def dpHpd (b : Bool) : Loc := if b then DISP_STATUS.hpd_b else DISP_STATUS.hpd_a

/-- A link is to be trained: it sends the idle pattern and has no rate (R456, R466, R472). -/
def dpTrain (s : State) (b : Bool) : State := (s.setLink b ⟨true, false, false⟩).set (dpRate b) 0

/-- A link is down: electrical idle or, after a failed training, the idle pattern (R456, R467, R472). -/
def dpDown (s : State) (b : Bool) : State := (s.setLink b ⟨false, false, false⟩).set (dpRate b) 0

/-- R466 begins: both links send the idle pattern and will train. -/
def dispRestart (s : State) : State :=
  let s := (s.dpTrain false).dpTrain true
  let s := { s with disp := { s.disp with settled := false, frames := 0, tries := 0, failed := false, line := noLine } }
  ((s.set DISP_STATUS.black 1).set DISP_STATUS.retraining 1).set DISP_STATUS.scanning 0

/-- The display goes dark: en has been cleared. -/
def dispOff (s : State) : State :=
  let s := (s.dpDown false).dpDown true
  let s := { s with disp := { s.disp with line := noLine } }
  (s.set DISP_STATUS.scanning 0).set DISP_STATUS.black 0

/-- A commit applies every shadow together (R463, R465, R466, R468). -/
def dispApply (s : State) : State :=
  let khz := s.fa DISP_PCLK.khz
  let ha := s.fa DISP_HTIM.hactive
  let va := s.fa DISP_VTIM.vactive
  let en := s.fa DISP_CTL.en
  let tag2 := s.fa (DISP_LAYER_TAG.reg 2)
  let tag3 := s.fa (DISP_LAYER_TAG.reg 3)
  let s := { s with act := applyRange 0x1F0000 0x200000 s.act s.regs }
  let s := (s.addWrap DISP_COMMIT_STATUS.applied 1).raise 850
  let s := s.bufChange 2 s.disp.buf2 (s.bufNow 2) tag2
  let s := s.bufChange 3 s.disp.buf3 (s.bufNow 3) tag3
  let s := if s.fa (DISP_LAYER_CTL.en 3) = 1 then { s with disp := { s.disp with faulted := false } } else s
  if s.fa DISP_CTL.en = 0 then (if en = 1 then s.dispOff else s)
  else if en = 0 || s.fa DISP_PCLK.khz != khz || s.disp.failed then s.dispRestart
  else if s.fa DISP_HTIM.hactive != ha || s.fa DISP_VTIM.vactive != va then { s with disp := { s.disp with idleFrame := true } }
  else s

/-- A pending commit at a vertical blank, or at once while the links do not scan (R463, R464, R466, R467). -/
def dispCommitTry (s : State) : State :=
  if !s.flag DISP_COMMIT_STATUS.pending || s.flag DISP_STATUS.retraining || decide (s.time.clk < s.disp.asked + usTicks 10) then s
  else
    let s := s.set DISP_COMMIT_STATUS.pending 0
    if s.dispOk then s.dispApply else (s.set DISP_COMMIT_STATUS.refused 1).raise 855

/-! ### Frames -/

/-- The last complete product of a path and a stream, a spectrum or a detector trace: its segments, first to last (R461). -/
def lastProduct (s : State) (p stream : Nat) : List Parcel := ((s.path p).shown.get { parts := [], whole := [] } stream).whole

/-- The levels of a product's bins: a spectrum's log-power words, or a trace's values after its header (R269, R461). -/
def productBins (s : State) (p : Nat) (xs : List Parcel) : List Nat :=
  match xs with
  | [] => []
  | x :: _ =>
    let b := xs.flatMap fun y => y.payload
    let words := fun (b : List Byte) => (List.range (b.length / 2)).map fun i => field b (2 * i) 2
    if x.kind = .spectrum then
      match (List.range 8).find? fun i => (s.xfCfg p i).source != 0 && (s.xfCfg p i).stream == x.stream with
      | some i => ((s.spectrumAt p i x.seq).map Spectrum.v).getD (words b)
      | none => words b
    else words (b.drop 32)

/-- A trace takes the product it draws in this frame, and reports its flags (R461). -/
def traceTake (s : State) (i : Nat) : State :=
  let p := s.fa (DISP_TRACE_SRC.path i)
  let xs := if s.fa (DISP_TRACE_SRC.en i) = 1 then s.lastProduct p (s.fa (DISP_TRACE_SRC.stream i)) else []
  match xs with
  | [] => { s with disp := { s.disp with traces := s.disp.traces.put none i none } }
  | x :: _ =>
    let flags := (xs.map fun y => y.flags + 256 * b2n y.marker.isSome).foldl (· ||| ·) 0
    let t : TraceSnap := { bins := s.productBins p (x :: xs.tail), flags := flags }
    ({ s with disp := { s.disp with traces := s.disp.traces.put none i (some t) } }).set (DISP_TRACE_SRC.flags i) flags

/-- Lines of the frame that is being composed are late: each keeps its content, and event 854 comes once a frame (R458). -/
def linesLate (s : State) (n : Nat) : State :=
  if n = 0 then s
  else
    let s := s.addSat DISP_LATE.reg n
    if s.disp.lateRaised then s else ({ s with disp := { s.disp with lateRaised := true } }).raise 854

/-- The next frame begins: lines of the last one that have not been composed are late (R458, log entry 52). -/
def frameEndLate (s : State) : State := s.linesLate (s.fa DISP_VTIM.vactive - s.disp.line)

/-- Both links have scanned line `y` since the vertical blank (R455, R458): the blank's lines and those up to `y`, each of htotal
pixel clocks of 2,560,000 / khz ticks. -/
def lineScanned (s : State) (y : Nat) : Bool :=
  let v := s.fa DISP_VTIM.vtotal - s.fa DISP_VTIM.vactive + y + 1
  decide (2560000 * (v * s.fa DISP_HTIM.htotal) ≤ (s.time.clk - s.disp.blankAt) * s.fa DISP_PCLK.khz)

/-- A frame starts to be scanned, and with compose at 1 the composition of the next begins (R458, R460, R461). -/
def frameBegin (s : State) : State :=
  let s := (((s.traceTake 0).traceTake 1).traceTake 2).traceTake 3
  let k := s.fa (DISP_LAYER_CTL.sel 2) % 2
  { s with disp := { s.disp with line := if s.fa DISP_CTL.compose = 1 then 0 else noLine, lateRaised := false, blankAt := s.time.clk
                                 fallRegion := s.f (KAL_LINE_CTL.region k), fallEnd := (s.kalOf k).laidEnd, fallLines := (s.kalOf k).laid } }

/-- At a frame start, an output that has trained sends video (R456, R465, R466). -/
def linkStart (s : State) (b : Bool) : State :=
  let x := s.dpLink b
  if x.trained && !x.training then s.setLink b { x with video := true } else s

/-- A vertical blank while the scan counter runs. -/
def dispBlank (s : State) : State :=
  let s := s.addWrap DISP_FRAME.reg 1
  if s.flag DISP_STATUS.retraining then
    let s := { s with disp := { s.disp with frames := s.disp.frames + 1 } }
    if s.disp.linkA.trained && s.disp.linkB.trained then
      (((s.linkStart false).linkStart true).set DISP_STATUS.black 0).set DISP_STATUS.retraining 0
    else s
  else
    let s := { s with disp := { s.disp with idleFrame := false } }
    if s.disp.failed then s else (s.linkStart false).linkStart true

/-- The pixel that an output scans in column `x` of line `y` of its half; none where it sends no video (R453, R465, R466). -/
def dpPixel (s : State) (b : Bool) (x y : Nat) : Option Word :=
  let half := s.fa DISP_HTIM.hactive
  let right := xor b (s.fa DISP_CTL.swap == 1)
  if (s.dpLink b).video && !s.disp.idleFrame && decide (x < half ∧ y < s.fa DISP_VTIM.vactive) then
    some (s.disp.store.get 0 (s.panelW * y + (if right then half else 0) + x))
  else none

/-! ### Records and power (R470, R471) -/

/-- A display record (R470). -/
def dispRecord (s : State) (l addr commit status cause tag : Nat) (event : Nat) : State :=
  let b := leBytes 8 addr ++ leBytes 4 commit ++ leBytes 1 status ++ leBytes 1 cause ++ leBytes 2 (0x8000 + l) ++
    leBytes 8 (s.f DISP_FRAME.reg) ++ leBytes 4 tag ++ leBytes 4 0
  if s.flag DISP_CQ.en then (s.cqPost { q := s.f DISP_CQ.q, bytes := b, events := [event], channel := none, ends := false }).1
  else s.raise event

/-- A lease is released and its record posted (R468). -/
def layerRelease (s : State) (d : LayerDone) : State :=
  let s := match d.buf.region with
    | some r => s.unlease r .display d.buf.layer
    | none => s
  s.dispRecord d.buf.layer d.buf.addr d.commit 0x10 d.cause d.tag 851

/-- Every lease of a list is released. -/
def layersRelease (s : State) : List LayerDone → State
  | [] => s
  | d :: ds => (s.layerRelease d).layersRelease ds

/-- The display domain is about to go off: every lease is released with cause 0x2, and the links go idle (R471). -/
def dispSleep (s : State) : State :=
  let one := fun (b : Option LayerBuf) => (b.map fun b =>
    ({ buf := b, commit := s.f DISP_COMMIT_STATUS.applied, cause := 2, tag := s.fa (DISP_LAYER_TAG.reg b.layer) } : LayerDone)).toList
  let ds := s.disp.releases ++ one s.disp.buf2 ++ one s.disp.buf3
  (({ s with disp := { s.disp with releases := [], buf2 := none, buf3 := none } }).layersRelease ds).dispOff

/-- A write to DISP_COMMIT (R463). -/
def dispCommitWrite (s : State) (v : Nat) : State :=
  if !bit v 31 || s.flag DISP_COMMIT_STATUS.pending then s
  else
    let s := (s.set DISP_COMMIT_STATUS.pending 1)
    { s with disp := { s.disp with asked := s.time.clk } }

/-- A write to DISP_AUX_CMD (R452, R472). -/
def dispAuxWrite (s : State) (v : Nat) : State :=
  if !bit v 31 || s.flag DISP_AUX_STATUS.busy then s
  else { s with disp := { s.disp with aux := v % 2 ^ 31 } }.set DISP_AUX_STATUS.busy 1

/-- Words of DISP_AUX_DATA take bytes. -/
def auxData (s : State) (b : List Byte) : List Nat → State
  | [] => s
  | i :: is =>
    let n := b.length - 4 * i
    let old := leBytes 4 (s.f (DISP_AUX_DATA.reg i))
    (s.set (DISP_AUX_DATA.reg i) (leNat (((b.drop (4 * i)).take 4) ++ old.drop (min 4 n)))).auxData b is

end State

/-! ### Meanings -/

/-- DISP_COMMIT (R463). -/
def execDispCommit (p : Port) (v : Word) (s : State) : Res :=
  .next (s.hubWrite p DISP_COMMIT.reg.addr (some 8) fun s => s.dispCommitWrite (v.toNat ||| 2 ^ 31))

/-- DISP_VBLANK (R463 to R467): a vertical blank starts; while the links do not scan, the point at which a pending commit
applies. A commit that R466 holds applies at the first blank after the one that is its step 4. -/
def execDispVblank (s : State) : Res :=
  if !s.dispUp then .next s
  else
    let held := s.flag DISP_STATUS.retraining
    let s := if s.flag DISP_STATUS.scanning then s.frameEndLate.dispBlank else s
    let s := if held then s else s.dispCommitTry
    .next (if s.flag DISP_STATUS.scanning then s.frameBegin else s)

/-- DISP_COMPOSE_LINE (R457 to R462): the next line of the frame is composed, once both links have scanned it in the frame before, or
is late. -/
def execDispComposeLine (late : Bool) (overlay : List Word) (bad : List Nat) (fixed : List (Nat × Fin 2 × Fin 39))
    (s : State) : Res :=
  let y := s.disp.line
  if !s.dispUp || !s.flag DISP_STATUS.scanning || s.fa DISP_CTL.compose == 0 || decide (s.fa DISP_VTIM.vactive ≤ y) then .next s
  else
    let t := { s with disp := { s.disp with line := y + 1 } }
    if late then .next (t.linesLate 1)
    else if !s.lineScanned y then .next s
    else
      let w := s.panelW
      .next (((t.dispBad bad).dispFixed fixed |>.densityMeet y).storeRow (w * y) ((List.range w).map fun x => s.panelPixel overlay bad x y))

/-- DISP_CLOCK_SETTLED (R466): step 2, composing internal frame 0. -/
def execDispClockSettled (s : State) : Res :=
  if s.dispUp && s.flag DISP_STATUS.retraining && !s.disp.settled then
    .next ((({ s with disp := { s.disp with settled := true, frames := 0 } }).set DISP_STATUS.scanning 1).frameBegin)
  else .next s

/-- Bits per millisecond that four lanes carry at a rate (code 1 to 4), within 80 % of their capacity (R452, R467). -/
def State.linkCarries (rate : Nat) : Nat :=
  match rate with
  | 1 => 5184000
  | 2 => 8640000
  | 3 => 17280000
  | _ => 25920000

/-- Training has failed for good: both outputs stay on the idle pattern (R467). -/
def State.trainFail (s : State) : State :=
  let s := (s.dpDown false).dpDown true
  let s := { s with disp := { s.disp with failed := true } }
  ((s.set DISP_STATUS.link_fail 1).set DISP_STATUS.retraining 0).raise 853

/-- Both links are tried again, up to three times (R467). -/
def State.trainAgain (s : State) : State :=
  if s.disp.tries < 3 then (({ s with disp := { s.disp with tries := s.disp.tries + 1 } }).dpTrain false).dpTrain true
  else s.trainFail

/-- A link that was training has trained at a rate (code 1 to 4; 0 for a link that is not concerned). -/
def State.linkTrained (s : State) (b : Bool) (rate : Nat) : State :=
  if rate = 0 ∨ !(s.dpLink b).training then s
  else (s.setLink b { (s.dpLink b) with training := false, trained := true }).set (State.dpRate b) rate

/-- A link that trains has come to a rate that cannot carry 30 bits a pixel (R467). -/
def State.linkSlow (s : State) (b : Bool) (rate : Nat) : Bool :=
  rate != 0 && (s.dpLink b).training && decide (State.linkCarries rate < 30 * s.fa DISP_PCLK.khz)

/-- DISP_LINK_TRAINED (R456, R466, R467): video starts at the next frame start; a link too slow sends both back to training. -/
def execDispLinkTrained (rateA rateB : Fin 5) (s : State) : Res :=
  if !s.dispUp || s.fa DISP_CTL.en != 1 then .next s
  else if s.linkSlow false rateA || s.linkSlow true rateB then .next s.trainAgain
  else .next ((s.linkTrained false rateA).linkTrained true rateB)

/-- DISP_TRAIN_FAIL (R467): after the repeated tries. -/
def execDispTrainFail (s : State) : Res :=
  if s.dispUp && (s.disp.linkA.training || s.disp.linkB.training) then .next s.trainFail else .next s

/-- DISP_HPD_UNPLUG (R456). -/
def execDispHpdUnplug (b : Bool) (s : State) : Res :=
  if s.dispUp then .next (((s.dpDown b).set (State.dpHpd b) 0).raise 853) else .next s

/-- DISP_HPD_PLUG (R456). -/
def execDispHpdPlug (b : Bool) (s : State) : Res :=
  if s.dispUp then
    let t := s.set (State.dpHpd b) 1
    .next (if s.fa DISP_CTL.en = 1 ∧ !s.disp.failed then t.dpTrain b else t)
  else .next s

/-- DISP_IRQ_HPD (R456): `retrain` when the sink's link status requires it. -/
def execDispIrqHpd (b retrain : Bool) (s : State) : Res :=
  if s.dispUp && retrain && s.fa DISP_CTL.en == 1 && !s.disp.failed then .next (s.dpTrain b) else .next s

/-- DISP_AUX_GO (R452, R472). -/
def execDispAuxGo (p : Port) (v : Word) (s : State) : Res :=
  .next (s.hubWrite p DISP_AUX_CMD.reg.addr (some 8) fun s => s.dispAuxWrite (v.toNat ||| 2 ^ 31))

/-- DISP_AUX_DONE (R472, R474): what the sink answered; a transaction waits while a link trains. -/
def execDispAuxDone (nack : Bool) (data : List Byte) (s : State) : Res :=
  if s.dispUp && s.flag DISP_AUX_STATUS.busy && !(s.disp.linkA.training || s.disp.linkB.training) then
    let t := (s.set DISP_AUX_STATUS.busy 0).set DISP_AUX_STATUS.done 1
    let t := if nack then t.set DISP_AUX_STATUS.nack 1
      else if bit s.disp.aux 30 then t.auxData (data.take (bits s.disp.aux 24 4 + 1)) [0, 1, 2, 3] else t
    .next (t.raise 853)
  else .next s

/-- LAYER_RELEASED (R468): after the replacing commit's blank. -/
def execLayerReleased (l : Fin 4) (s : State) : Res :=
  match s.disp.releases.find? fun d => d.buf.layer == l.val with
  | none => .next s
  | some d => .next (({ s with disp := { s.disp with releases := s.disp.releases.erase d } }).layerRelease d)

/-- LAYER_FAULT (R469): a read of the overlay has failed, by cause 0x3 to 0x6. -/
def execLayerFault (cause : Fin 4) (s : State) : Res :=
  match s.disp.buf3 with
  | none => .next s
  | some b =>
    if !s.dispUp || s.disp.faulted then .next s
    else
      .next (({ s with disp := { s.disp with faulted := true } }).dispRecord 3 b.addr (s.f DISP_COMMIT_STATUS.applied) 0x11
        (3 + cause.val) (s.fa (DISP_LAYER_TAG.reg 3)) 852)

end Sys2Proof.Machine
end

