-- ==== Sys2Proof/Machine/Path.lean ====
section
/-! DEFINITION. What a path does with its blocks: taking them from the elastic buffer, the firing of its tiles, the release
of its products, and the reading of a REPLAY path (chapters 03 and 04). -/

namespace Sys2Proof.Machine

namespace State

/-! ### Frames (R139) -/

/-- A frame that is late holds its slot, empty, until its tiles have completed it (R139, R140). -/
def frameIssue (s : State) (p : Nat) (f : Frame) : State :=
  s.slotAdd p { stream := f.stream, segment := 0, last := f.last, fill := .empty, tail := true }

/-- Frames of a list are issued, each with its slot. -/
def issueFrames (s : State) (p : Nat) : List Frame → State
  | [] => s
  | f :: fs => (s.frameIssue p f).issueFrames p fs

/-- A slot that was issued for a frame that the path's input does not have is free again. -/
def framesTrim (s : State) (p : Nat) : State :=
  let x := s.path p
  s.setPath p { x with window := x.window.filter fun y =>
    y.fill != .empty || x.work.any fun e => e.1 == y.last && e.2.stream == y.stream }

/-- The tiles complete a frame: its product fills its slots (R122, R140). Under SERVICE the service image makes the product
(R26); otherwise it is what analysis has made of the samples (R125). -/
def frameDone (s : State) (p : Nat) (f : Frame) : State :=
  if s.mode p = 8 then
    (f.done.map fun x => ({ x with path := p, stream := f.stream } : Parcel).seal).foldl
      (fun s x => s.slotAdd p (s.slotOf p f.last (.parcel x) x)) s
  else
    let x := s.path p
    let s := s.setPath p { x with
      window := x.window.filter fun y => !(y.fill == .empty && y.stream == f.stream && y.last == f.last)
      work := x.work.filter fun e => !(e.1 == f.last && e.2.stream == f.stream) }
    (x.work.filter fun e => e.1 == f.last && e.2.stream == f.stream).foldl (fun s e => s.slotPut p e.1 e.1 e.2) s

/-- The tiles have lost a frame: a void holds each of its slots, at once or as its product comes, and a gap of scope PRODUCT
covers its product (R126, R137, R139, R141). -/
def frameVoid (s : State) (p reason : Nat) (f : Frame) : State :=
  let x := s.path p
  let mine := fun (y : Slot) => y.stream == f.stream && y.last == f.last
  let s :=
    if x.window.any mine then
      s.setPath p { x with window := x.window.map fun y => if mine y then { y with fill := .void } else y
                           work := x.work.filter fun e => !(e.1 == f.last && e.2.stream == f.stream) }
    else s.setPath p { x with lostFrames := (f.stream, f.last) :: x.lostFrames }
  let at_ := s.timeAt p (f.first * posUnit)
  s.productGap p f.first (f.last + 1) at_.tick at_.phase reason f.stream

/-- Frames of a grid whose last sample is not beyond source sample `newest`. -/
def gridDue (newest : Nat) (g : XfGrid) : Nat :=
  let need := g.k0 + g.frame * hopOf g.cfg + 2 ^ g.cfg.nLog2
  let n := if newest + 1 < need then 0 else (newest + 1 - need) / hopOf g.cfg + 1
  match g.stop with
  | some j => min n (j - g.frame)
  | none => n

/-- Frames of a transform instance whose samples are all there. -/
def instDue (s : State) (p i : Nat) : Nat :=
  let x := s.inst p i
  match x.buf.getLast? with
  | some y => (x.grids.map (gridDue y.n)).foldl (· + ·) 0
  | none => 0

/-- Intervals or blocks that have ended before frame `m`: the one in formation, which has `k` frames from `from_` on, and those
of `next` frames after it. -/
def endsBefore (busy : Bool) (from_ k next m : Nat) : Nat :=
  if busy then (if m < from_ + k then 0 else 1 + (m - from_ - k) / max 1 next) else (m - from_) / max 1 next

/-- Intervals or blocks that end with the next `n` frames of an instance, the short ones at a change of grid among them. -/
def endsDue (x : XfSt) (n : Nat) (busy : Bool) (from_ k next : Nat) : Nat :=
  let frame := (x.grids.head?.map XfGrid.frame).getD 0
  if n = 0 then 0
  else endsBefore busy from_ k next (frame + n) - endsBefore busy from_ k next frame + (x.grids.length - 1)

/-- Products that the next `n` frames of an instance bring with them: traces of the intervals that end, and kurtosis records
(R268, R271). -/
def tailsDue (s : State) (p i n : Nat) : Nat :=
  let x := s.inst p i
  let c := (s.cfgNow p).xfs.getD i (s.xfCfg p i)
  let d := x.det
  let k := (s.xfOf p).sk
  let traces := max (bitList 5 d.run.detEn).length (bitList 5 c.detEn).length
  traces * endsDue x n (decide (0 < d.run.used)) d.from_ (d.run.kM1 + 1) (c.kM1 + 1) +
    (if i = 0 ∧ (s.cfgNow p).skEn ∧ !s.flag (SK_CTL.src p) then
      endsDue x n (decide (0 < k.run.used)) k.from_ (2 ^ k.run.mLog2) (2 ^ (s.cfgNow p).skM) else 0)

/-- Frames of a path whose products its units have still to make or to deliver: each enabled detector makes one of an
interval, and an integral goes out with its descriptor (R268, R279). -/
def dueFrames (s : State) (p : Nat) : Nat :=
  let x := s.xfOf p
  ((List.range 8).map fun i =>
      s.instDue p i + s.tailsDue p i (s.instDue p i) +
        ((s.inst p i).det.ended.map fun d => (bitList 5 d.detEn).length).foldl (· + ·) 0).foldl (· + ·) 0 +
    x.sk.ended.length + 2 * x.chz.ended.length + x.env.ended.length

/-- Frames of a path in flight (R139). -/
def framesHeld (s : State) (p : Nat) : Nat := s.windowFrames p + s.dueFrames p

/-- Frames in flight in the engine (R139). -/
def inFlight (s : State) : Nat := ((List.range 4).map s.framesHeld).foldl (· + ·) 0

/-- The window of a path has a free slot (R139, R142). -/
def windowRoom (s : State) (p : Nat) : Bool := decide (s.framesHeld p < s.windowSlots p ∧ s.inFlight < 4096)

/-- The frames of a path fit its window, and those of the engine its limit (R139). -/
def framesFit (s : State) (p : Nat) : Bool := decide (s.framesHeld p ≤ s.windowSlots p ∧ s.inFlight ≤ 4096)

/-! ### Taking a block (R138, R139) -/

/-- New baseband samples and window outputs of a path reach its products and the conditions on its level (R261, R281). -/
def spread (s : State) (p : Nat) (base : List Smp) (wins : List (Nat × List Smp)) : State :=
  ((s.xfTake p base wins).baseDue p base).winsDue p wins

/-- A block is taken in by the path's structure (R230, R280): the down-converter and all that follows it, or the stream of
a raw RECORD path. -/
def analyse (s : State) (p : Nat) (x : Parcel) : State :=
  let r := (s.commitDue p x.seq).ddcTake p x
  let s := r.1.spread p r.2.1 r.2.2
  if s.mode p = 6 ∧ s.f (REC_CTL.form p) = 0 then
    (s.deliver p (x.seq + 1023) (x.seq + 1023) ({ x with stream := s.f (REC_CTL.stream p) }.seal)).addWrap (REC_COUNT.reg p) 1
  else s

/-- Tokens that a link holds between two tiles before its receiver has no room (PRESUMED, log entry 33). -/
def linkRoom : Nat := 255

/-- The direction of a side of a tile: 0 unused, 1 input, 2 output, 3 pass-through (R89). -/
def portDir (c : TileCfg) (side : Nat) : Nat := c.ports.getD side 0 / 64 % 4

/-- The channel of a side of a tile (R89). -/
def portChannel (c : TileCfg) (side : Nat) : Nat := c.ports.getD side 0 % 64

/-- The tiles through which a path's blocks enter the fabric: those of logical row 0, nearest the converter die, whose
south side is an input (R121, DESIGN CHOICE, log entry 74). -/
def entryTiles (s : State) (p : Nat) : List Nat :=
  ((s.pairTiles p).filter fun c => decide (c.ltile < 32) && portDir c 2 == 1).filterMap fun c => s.physTile c.ltile

/-- The entry tiles of a path have room for a block. -/
def entryRoom (s : State) (p : Nat) : Bool := (s.entryTiles p).all fun t => decide ((s.tile t).inS.length < linkRoom)

/-- A block stands at the entry tiles of its path. -/
def entryPut (s : State) (p : Nat) (x : Parcel) : State :=
  (s.entryTiles p).foldl (fun s t => s.setTile t { s.tile t with inS := (s.tile t).inS ++ [.parcel x] }) s

/-- A block goes into the fabric: its late frames hold their slots, its tiles receive it, and it is analysed. -/
def takeIn (s : State) (p : Nat) (x : Parcel) (late : List Frame) : State :=
  (((s.issueFrames p late).entryPut p x).analyse p x).framesTrim p

/-- The block at the head of the buffer leaves it. A block that the memory has lost is covered by a gap (R138). -/
def takeHead (s : State) (p : Nat) (x : Parcel) (rest : List Parcel) (late : List Frame) (ecc : Ecc) : State :=
  let s := (s.setPath p { s.path p with eb := rest }).ebShow p
  let s := if 2 * s.f (GLB_EB_LEVEL.level p) ≤ s.f (GLB_EB_CTL.high_water p) then s.setPath p { s.path p with highArmed := true } else s
  match ecc with
  | .uncorrectable =>
    let s := s.blockGap p x rECC
    let s := match rest with
      | [] => s.setPath p { s.path p with gapBefore := true }
      | y :: ys => s.setPath p { s.path p with eb := y.withFlag flagGAP :: ys }
    s.chkFail x.seq 0 2 5 p 3 (some p)
  | .corrected _ _ => (s.chkCorr 0 1 5 p 0 (some p)).takeIn p x late
  | .sound => s.takeIn p x late

/-! ### Release (R140, R141) -/

/-- The next frame of an instance, whole or cut by a gap, depends on nothing beyond index `last`. -/
def frameReady (s : State) (p last i : Nat) : Bool :=
  let x := s.inst p i
  match x.grids with
  | [] => false
  | g :: _ =>
    let start := g.k0 + g.frame * hopOf g.cfg
    let n := 2 ^ g.cfg.nLog2
    decide (s.frameEnd p i g / posUnit ≤ last) &&
      ((x.buf.filter fun y => decide (start ≤ y.n ∧ y.n < start + n)).length == n || s.frameCut p i g start n)

/-- A product of a unit of the path that comes no later than index `last` in the order of R140 is still to be made or to be
delivered: what has ended, and on a path that runs also what is in formation. -/
def unitDue (s : State) (p last : Nat) (ended : List Nat) (busy : Bool) (end_ : Nat) : Bool :=
  ended.any (fun e => decide (e / posUnit ≤ last)) ||
    (busy && s.running p && !(s.path p).stopped && decide (end_ / posUnit ≤ last))

/-- A product of the path that comes no later than index `last` in the order of R140 is still to be delivered. -/
def productDue (s : State) (p last : Nat) : Bool :=
  let x := s.xfOf p
  ((List.range 8).any fun i =>
      let d := (s.inst p i).det
      s.frameReady p last i || s.unitDue p last (d.ended.map DetIval.reach) (decide (0 < d.run.used)) (detEnd d)) ||
    s.unitDue p last (x.sk.ended.map SkBlk.reach) (decide (0 < x.sk.run.used)) (skEnd x.sk) ||
    s.unitDue p last (x.chz.ended.map ChzInt.reach) (decide (0 < x.chz.run.used + x.chz.run.excluded)) (chzEnd x.chz) ||
    s.unitDue p last (x.env.ended.map EnvRec.reach) (decide (0 < x.env.run.used))
      (envEndAt x.env.run (s.envSize p x.env.run.log2))

/-! ### Tiles (R122, R126, R137) -/

/-- The logical tile on a side of a logical tile, N, E, S, W, and the side of it that faces back; row 0 lies nearest the
converter die (R121). -/
def logicalSide (l side : Nat) : Option (Nat × Nat) :=
  match side with
  | 0 => if l / 32 + 1 < 32 then some (l + 32, 2) else none
  | 1 => if l % 32 + 1 < 32 then some (l + 1, 3) else none
  | 2 => if 1 ≤ l / 32 then some (l - 32, 0) else none
  | _ => if 1 ≤ l % 32 then some (l - 1, 1) else none

/-- The physical tile on a side of a logical tile, and the side of it that faces back: pass-through links skip retired
tiles, so that logical neighbours stay neighbours (R93). -/
def neighbour (s : State) (l side : Nat) : Option (Nat × Nat) :=
  (logicalSide l side).bind fun e => (s.physTile e.1).map fun t => (t, e.2)

/-- The record in force of a logical tile. -/
def logicalCfg (s : State) (l : Nat) : Option TileCfg :=
  ((List.range 4).flatMap fun p => ((s.path p).img.map (·.tiles)).getD []).find? fun c => c.ltile == l

/-- The side by which a token leaves a tile that it passes through: the other pass-through side of the channel (R89). -/
def passSide (c : TileCfg) (side : Nat) : Option Nat :=
  (List.range 4).find? fun e => e != side && portDir c e == 3 && portChannel c e == portChannel c side

/-- The physical tile, and its side, that takes the tokens a logical tile sends out on a side: the first one on the way
whose side is an input (R89, R122). -/
def linkEnd (s : State) (l side : Nat) : Nat → Option (Nat × Nat)
  | 0 => none
  | n + 1 =>
    (logicalSide l side).bind fun e => (s.logicalCfg e.1).bind fun c =>
      if portDir c e.2 = 1 then s.neighbour l side
      else if portDir c e.2 = 3 then (passSide c e.2).bind fun out => s.linkEnd e.1 out n
      else none

/-- The tokens that wait on a side of a tile. -/
def TileSt_side (x : TileSt) (side : Nat) : List Token :=
  match side with
  | 0 => x.inN
  | 1 => x.inE
  | 2 => x.inS
  | _ => x.inW

/-- The tile with other tokens on a side. -/
def TileSt_set (x : TileSt) (side : Nat) (ts : List Token) : TileSt :=
  match side with
  | 0 => { x with inN := ts }
  | 1 => { x with inE := ts }
  | 2 => { x with inS := ts }
  | _ => { x with inW := ts }

/-- A side of a tile has the tokens that a firing consumes there. -/
def sideReady (s : State) (t : Nat) (c : TileCfg) (d : Nat) : Bool :=
  c.fireIn.getD d 0 == 0 || (portDir c d == 1 && decide (c.fireIn.getD d 0 ≤ (TileSt_side (s.tile t) d).length))

/-- A side of a tile has room for the tokens that a firing sends out there: at the receiver, or at the path exit for an exit
feeder's side that meets no receiver. No token goes where nothing acknowledges it (R122). -/
def sideRoom (s : State) (c : TileCfg) (d : Nat) : Bool :=
  c.fireOut.getD d 0 == 0 || (portDir c d == 2 && match s.linkEnd c.ltile d 1024 with
    | some (u, back) => decide ((TileSt_side (s.tile u) back).length + c.fireOut.getD d 0 ≤ linkRoom)
    | none => c.role == 0x0A)

/-- A tile fires now: every input holds its tokens and every output has room (R122). -/
def canFire (s : State) (t : Nat) (c : TileCfg) : Bool := (List.range 4).all fun d => s.sideReady t c d && s.sideRoom c d

/-- The tokens that a firing consumes on a side. -/
def taken (s : State) (t : Nat) (c : TileCfg) (d : Nat) : List Token := (TileSt_side (s.tile t) d).take (c.fireIn.getD d 0)

/-- The tokens that a firing consumes leave the sides of a tile. -/
def consume (s : State) (t : Nat) (c : TileCfg) : State :=
  (List.range 4).foldl (fun s d =>
    s.setTile t (TileSt_set (s.tile t) d ((TileSt_side (s.tile t) d).drop (c.fireIn.getD d 0)))) s

/-- Tokens go out on side `d` of a tile, as many as its configuration says, to where its link ends (R122). -/
def produceOn (s : State) (c : TileCfg) (out : Nat → Nat → Token) (d : Nat) : State :=
  match s.linkEnd c.ltile d 1024 with
  | some (u, back) =>
    let ts := (List.range (c.fireOut.getD d 0)).map (out d)
    s.setTile u (TileSt_set (s.tile u) back (TileSt_side (s.tile u) back ++ ts))
  | none => s

/-- Tokens go out on the sides of a tile (R122). -/
def produce (s : State) (c : TileCfg) (out : Nat → Nat → Token) : State :=
  (List.range 4).foldl (fun s d => s.produceOn c out d) s

/-- An accumulator after one operation of its lane: 18-bit by 18-bit two's complement into 48 bits (R121). -/
def laneSum (acc : BitVec 48) (a b : BitVec 18) : BitVec 48 := acc + a.signExtend 48 * b.signExtend 48

/-- The modulo-3 residue of an accumulator (R126). -/
def residue (x : BitVec 48) : Nat := (x.toInt % 3).toNat

/-- The lane operations of a firing, or of its repeat, on the lanes that are enabled: the accumulators after them, where the
residue of each result is that of its operands (R126). -/
def lanesRun (again : Bool) (laneEn : Nat) : List LaneOp → Tab (BitVec 48) → Option (Tab (BitVec 48))
  | [], acc => some acc
  | m :: ms, acc =>
    if !bit laneEn m.lane then lanesRun again laneEn ms acc
    else
      let r := if again then m.again else m.got
      if residue r = residue (laneSum (acc.get 0 m.lane) m.a m.b) then lanesRun again laneEn ms (acc.put 0 m.lane r) else none

/-- The accumulators that a program clears, cleared. -/
def lanesClear (mask : BitVec 16) (acc : Tab (BitVec 48)) : Tab (BitVec 48) :=
  (bitList 16 mask.toNat).foldl (fun a l => a.put 0 l 0) acc

/-- The word that an accumulator gives by the arith field of its tile: shifted right, rounded, and saturated to or cut to
18 bits (R89, log entry 74). -/
def laneWord (arith : Nat) (acc : BitVec 48) : Word :=
  let d : Nat := 2 ^ (arith % 64)
  let v := match arith / 64 % 4 with
    | 0 => acc.toInt / (d : Int)
    | 1 => (2 * acc.toInt + (d : Int)) / (2 * d : Int)
    | _ => roundEven acc.toInt d
  if bit arith 8 then BitVec.ofInt 32 (max (-131072) (min 131071 v)) else ((BitVec.ofInt 18 v).signExtend 32)

/-- A token that a firing sends out (R122, R135): a parcel made anew has a new crc, one passed on keeps its own, and one
whose header changes gets a new one. -/
def outToken (c : TileCfg) (acc : Tab (BitVec 48)) (took : Nat → List Token) : OutToken → Token
  | .word v => .word v
  | .lane l => .word (laneWord c.arith (acc.get 0 l))
  | .parcel x => .parcel x.seal
  | .pass side i => (took side).getD i .void
  | .mark side i flag => match (took side).getD i .void with
    | .parcel x => .parcel (x.withFlag flag)
    | y => y

/-- The tokens of a firing, by side and place. -/
def outTokens (c : TileCfg) (acc : Tab (BitVec 48)) (took : Nat → List Token) (outs : List (List OutToken)) (d i : Nat) : Token :=
  outToken c acc took ((outs.getD d []).getD i (.word 0))

/-- Words that a program stores in its tile's local memory (R121). -/
def memStore (m : Tab Byte) (ws : List (BitVec 14 × Word)) : Tab Byte :=
  ws.foldl (fun m e => m.putMany 0 (4 * e.1.toNat) (leBytes 4 e.2.toNat)) m

/-- The path at whose exit the products of a path's tiles leave: the lower one of a WIDE pair (R139). -/
def exitPath (s : State) (p : Nat) : Nat := if s.wideUpper p then p - 1 else p

/-- A frame is void where a firing names one. -/
def voidFrame (s : State) (p reason : Nat) : Option Frame → State
  | none => s
  | some f => s.frameVoid p reason f

/-- The parcels with a failing crc among consumed tokens (R135). -/
def badParcels (took : Nat → List Token) : List Parcel :=
  (List.range 4).flatMap fun d => (took d).filterMap fun y => match y with
    | .parcel x => if x.crcOk then none else some x
    | _ => none

/-- Samples that a parcel covers, of the converter's. -/
def parcelSamples (x : Parcel) : Nat :=
  match x.kind with
  | .block => 1024
  | .iq => x.payload.length / 2
  | _ => 1

/-- A parcel is lost inside the fabric: a gap of scope PRODUCT covers the products that it would have fed, and those that
come later are void (R137). -/
def parcelLost (s : State) (p : Nat) (x : Parcel) : State :=
  let stop := x.seq + parcelSamples x
  let y := s.path p
  let hit := fun (w : Slot) => (x.stream == 255 || w.stream == x.stream) && match w.fill with
    | .parcel z => decide (z.seq < stop) && decide (x.seq ≤ w.last)
    | _ => false
  (s.setPath p { y with lostSpans := (x.seq, stop, x.stream) :: y.lostSpans
                        window := y.window.map fun w => if hit w then { w with fill := .void } else w }).productGap
    p x.seq stop x.tick x.phase rCHECK x.stream

/-- A firing that gives its results: tokens, memory and accumulators, and for an exit feeder the frame that it completes
(R122). -/
def firedOk (s : State) (t : Nat) (c : TileCfg) (acc : Tab (BitVec 48)) (took : Nat → List Token) (w : TileWork)
    (product : Option Frame) : State :=
  let s := s.addWrap (FAB_TILE_FIRE.reg t) 1
  let s := s.setTile t { s.tile t with acc := acc, mem := memStore (s.tile t).mem w.stores }
  let s := s.produce c (outTokens c acc took w.outs)
  match product with
  | some f => if c.role = 0x0A then s.frameDone (s.exitPath c.path) f else s
  | none => s

/-- The lanes work, and once more where a residue fails (R126). -/
def fireLanes (s : State) (t : Nat) (c : TileCfg) (took : Nat → List Token) (w : TileWork) (product : Option Frame) : State :=
  let p := s.exitPath c.path
  let acc := lanesClear w.clear (s.tile t).acc
  match lanesRun false c.laneEn w.ops acc with
  | some acc => s.firedOk t c acc took w product
  | none =>
    match lanesRun true c.laneEn w.ops acc with
    | some acc => ((s.firedOk t c acc took w product).bump (FAB_TILE_RES.retried_ok t)).chkCorr 0 4 0 t 1 (some p)
    | none =>
      let s := ((s.addWrap (FAB_TILE_FIRE.reg t) 1).produce c fun _ _ => .void).voidFrame p rRESIDUE product
      let s := ((s.bump (FAB_TILE_RES.uncorrected t)).raise (960 + t)).markTile t 0x2 0
      s.chkFail ((product.map Frame.last).getD (2 ^ 64 - 1)) 0 5 0 t 2 (some p)

/-- The consumed parcel whose crc a link has spoilt, where the firing met one (R137). -/
def spoilt (took : Nat → List Token) : FireEnd → List Parcel
  | .badCrc side i => match (took side).getD i .void with
    | .parcel x => if x.crcOk then [x] else []
    | _ => []
  | _ => []

/-- A firing of a tile (R122, R126, R135, R137, R166, R169, R553). -/
def fire (s : State) (t : Nat) (c : TileCfg) (how : FireEnd) (w : TileWork) (product : Option Frame) : State :=
  let p := s.exitPath c.path
  let took := s.taken t c
  let bad := badParcels took ++ spoilt took how
  let s := s.consume t c
  if !bad.isEmpty then
    let s := (s.produce c fun _ _ => .void).voidFrame p rCHECK product
    let s := bad.foldl (fun s x => s.parcelLost p x) s
    ((s.bump (FAB_TILE_CRC.fails t)).raise (960 + t)).chkFail ((product.map Frame.last).getD (2 ^ 64 - 1)) 0 3 0 t 2 (some p)
  else match how with
  | .memFailed row =>
    let s := (s.produce c fun _ _ => .void).voidFrame p rECC product
    let s := ((s.bump (FAB_TILE_ECC.uncorrected t)).raise (960 + t)).markTile t 0x3 0
    s.chkFail ((product.map Frame.last).getD (2 ^ 64 - 1)) row 2 0 t 2 (some p)
  | .memCorrected row =>
    ((s.fireLanes t c took w product).bump (FAB_TILE_ECC.corrected t)).chkCorr row 1 0 t 0 (some p)
  | _ => s.fireLanes t c took w product

/-! ### REPLAY (R101, R117) -/

/-- The region a REPLAY path reads. -/
def replaySrc (s : State) (p : Nat) : ReplaySrc :=
  match (s.path p).img with
  | some g => g.replay
  | none => { region := 0, rate := 0, start := 0, len := 0, index := 0, tick := 0 }

/-- A REPLAY path has read `n` more bytes; at its set length it stops (R101). -/
def replayGo (s : State) (p n : Nat) : State :=
  let x := s.path p
  let s := s.setPath p { x with replayPos := x.replayPos + n, replayRead := x.replayRead + n }
  let src := s.replaySrc p
  if src.len ≠ 0 ∧ src.len ≤ (s.path p).replayRead then
    ((s.setPath p { s.path p with replayOn := false }).runPath p false).raise 29
  else s

/-- A gap of scope INPUT over samples that a REPLAY path could not read; the next parcel carries GAP_BEFORE (R25, R101). -/
def replayGap (s : State) (p seq n tick phase flags reason : Nat) : State :=
  let s := s.openGap p { first := seq, stop := seq + n, growing := 0, tick := tick, phase := phase, scope := 0,
                         reasons := 2 ^ reason, stream := 255, held := bit flags flagTIME }
  s.setPath p { s.path p with gapBefore := true }

/-- GAP_BEFORE of a REPLAY path is taken up by the parcel that passes. -/
def replayMark (s : State) (p : Nat) (x : Parcel) : State × Parcel :=
  if (s.path p).gapBefore then (s.setPath p { s.path p with gapBefore := false }, { x with flags := setBit x.flags flagGAP }) else (s, x)

/-- A block of recorded converter samples passes into the structure, with its own stamp. -/
def replayBlock (s : State) (p fs : Nat) (x : Parcel) : State :=
  let r := s.replayMark p x
  let y := r.1.path p
  let ref : BlockRef := { seq := x.seq, tick := x.tick, phase := x.phase, fs24 := fs, flags := x.flags, zone := 0 }
  ((r.1.setPath p { y with refs := ref :: y.refs }).entryPut p r.2.seal).analyse p r.2

/-- Recorded IQ samples pass into the structure as baseband (R129): components at the 16-bit scale. -/
def replayIq (s : State) (p fs : Nat) (x : Parcel) (vs : List IQ) : State :=
  let r := s.replayMark p x
  let x := r.2
  let y := r.1.path p
  let ref : BlockRef := { seq := x.seq, tick := x.tick, phase := x.phase, fs24 := fs, flags := x.flags, zone := 0 }
  let s := (r.1.setPath p { y with refs := ref :: y.refs }).entryPut p x.seal
  let base := (List.range vs.length).map fun i =>
    let v := vs.getD i { i := 0, q := 0 }
    ({ v := { i := 2 * v.i, q := 2 * v.q }, n := x.seq / 2 + i, pos := (x.seq / 2 + i) * (2 * posUnit), flags := x.flags } : Smp)
  let d := markIn (s.ddcOf p) x
  let s := s.setDdc p (if bit x.flags flagGAP then d.clear x.seq else d)
  let t := s.ddcFeed p base
  t.1.spread p base t.2

/-- Components of an IQ payload, 16-bit or binary32. -/
def iqComponents (float : Bool) (b : List Byte) : List IQ :=
  let b := if float then floatToShort b.length b else b
  (List.range (b.length / 4)).map fun i => { i := signed 16 (field b (4 * i) 2), q := signed 16 (field b (4 * i + 2) 2) }

/-- The greatest extended index up to `near` whose bits 47:0 are `seq` (R129). -/
def extendSeq (near seq : Nat) : Nat :=
  if seq ≤ near % 2 ^ 48 then near / 2 ^ 48 * 2 ^ 48 + seq else (near / 2 ^ 48 - 1) * 2 ^ 48 + seq

/-- An extended index not before that of the parcel stored at a byte position of a region, and less than 2^48 after it: that
of the last sample it is known to cover, or of the next sample of the region's path. -/
def storedNear (s : State) (r pos : Nat) : Nat :=
  let size := max 1 (s.regionSize r)
  match (s.region r).held.find? fun h => h.pos % size == pos % size with
  | some h => h.last
  | none => s.f (GLB_SEQ.reg (s.f (TRG_RGN_CTL.path r)))

/-- A REPLAY path reads the next stored parcel of a region in format 0x0 (R101, R157, R359): a block or IQ parcel that cannot
be read, or whose crc fails, is covered by a gap; a stored GAP parcel whose crc holds goes to the exit unchanged, and another is dropped (DESIGN CHOICE, log entry 34). -/
def replayParcel (s : State) (p : Nat) (src : ReplaySrc) (ecc : Ecc) : State :=
  let x := s.path p
  let head := s.ringRead src.region x.replayPos 32
  let n := 32 + field head 4 2
  if src.len = 0 ∧ s.f (CAP_REGION_WRITTEN.reg src.region) < x.replayPos + n then s
  else
    let b := s.ringRead src.region x.replayPos n
    let good := (crc32c (b.take 28 ++ (b.drop 32).take (field b 4 2))).toNat == field b 28 4
    let fs := s.pathFs24 (s.f (TRG_RGN_CTL.path src.region))
    let s := match Parcel.ofBytes b with
      | none => s
      | some y =>
        let stored := { y with seq := extendSeq (s.storedNear src.region x.replayPos) y.seq }
        let y := { stored with path := p, replay := true }
        let span := match y.kind with
          | .block => 1024
          | .iq => 2 * (y.payload.length / (if s.streamFloat p y.stream y.seq then 8 else 4))
          | _ => 0
        match y.kind with
        | .gap => if good && ecc != Ecc.uncorrectable then s.deliver p stored.seq stored.seq stored else s
        | .block =>
          if ecc = Ecc.uncorrectable then s.replayGap p y.seq span y.tick y.phase y.flags rECC
          else if good then s.replayBlock p fs y else s.replayGap p y.seq span y.tick y.phase y.flags rCHECK
        | .iq =>
          if ecc = Ecc.uncorrectable then s.replayGap p y.seq span y.tick y.phase y.flags rECC
          else if good then s.replayIq p fs y (iqComponents (s.streamFloat p y.stream y.seq) y.payload)
          else s.replayGap p y.seq span y.tick y.phase y.flags rCHECK
        | _ => s
    s.replayGo p n

/-- Bytes of a unit in a region's format, times two, and converter samples per unit (R101, R367). -/
def unitForm (fmt : Nat) : Nat × Nat :=
  match fmt with
  | 1 => (4, 1)
  | 2 => (3, 1)
  | 3 => (8, 2)
  | _ => (16, 2)

/-- Converter codes of packed 12-bit units as 16-bit containers. -/
def unpack12 (b : List Byte) : List Byte :=
  (unpackBits 12 (b.length * 8 / 12) (leNat b)).flatMap fun w => leBytes 2 (16 * w)

/-- A REPLAY path reads the next 1,024 converter samples of a region in format 0x1 to 0x4 (R101). -/
def replayUnits (s : State) (p : Nat) (src : ReplaySrc) (fmt : Nat) (ecc : Ecc) : State :=
  let x := s.path p
  let u := unitForm fmt
  let most := 1024 / u.2 * u.1 / 2
  let n := if src.len = 0 then most else min most (src.len - x.replayRead)
  let size := s.regionSize src.region
  if src.len = 0 ∧ s.f (CAP_REGION_WRITTEN.reg src.region) < x.replayPos + n then s
  else
    let units := (x.replayPos - src.start % size) * 2 / u.1
    let seq := src.index + units * u.2
    let rg := s.f (TRG_RGN_CTL.path src.region)
    let fs := s.pathFs24 rg
    let t := 64 * src.tick + roundEvenNat (units * u.2 * (64 * 2560000000 * 2 ^ 24)) (max 1 fs)
    let b := s.ringRead src.region x.replayPos n
    let kind := if u.2 = 1 then Kind.block else Kind.iq
    let y : Parcel := { path := p, replay := true, kind := kind, flags := 0, seq := seq, tick := t / 64, phase := t % 64,
                        segment := 0, segments := 1, marker := none, stream := s.f (CAP_REGION_SRC.stream src.region),
                        payload := if fmt = 2 then unpack12 b else b, crc := 0 }
    let s := if ecc = Ecc.uncorrectable then s.replayGap p seq (n * 2 / u.1 * u.2) y.tick y.phase 0 rECC
      else if u.2 = 1 then s.replayBlock p fs y else s.replayIq p fs y (iqComponents (fmt == 4) b)
    s.replayGo p n

/-- The oldest stored position of a region that is still intact, for a path that has fallen behind (R101). -/
def oldestIntact (s : State) (r : Nat) : Nat :=
  let w := s.f (CAP_REGION_WRITTEN.reg r)
  let low := w - s.regionSize r
  if s.capFmt r = 0 then (((s.region r).held.find? fun h => decide (low ≤ h.pos)).map Held.pos).getD w else low

/-- A REPLAY path reads what comes next, skips forward where it has been overtaken, or waits (R101). -/
def replayRead (s : State) (p : Nat) (ecc : Ecc) : State :=
  let src := s.replaySrc p
  let fmt := s.capFmt src.region
  let x := s.path p
  let behind := src.len == 0 && decide (x.replayPos + s.regionSize src.region < s.f (CAP_REGION_WRITTEN.reg src.region))
  let s := if behind then
      s.setPath p { x with replayPos := s.oldestIntact src.region, gapBefore := true } else s
  let s := s.memEcc (s.regionBase src.region + (s.path p).replayPos % s.regionSize src.region) ecc 3 (some p)
  if fmt = 0 then s.replayParcel p src ecc else s.replayUnits p src fmt ecc

end State

/-! ### Meanings -/

/-- PATH_TAKE_BLOCK (R138, R139, R142): a path takes the block at the head of its elastic buffer where the frames that it
makes fit the path's window and its entry tiles have room; `frames` are those of its frames that are late, whose tiles have
still to complete them. A block whose frames no empty window could hold is taken into an empty one (log entry 74). -/
def execPathTakeBlock (path : Fin 4) (frames : List Frame) (ecc : Ecc) (s : State) : Res :=
  let x := s.path path
  match x.eb with
  | [] => .next s
  | y :: ys =>
    if s.realTime path && !s.wideUpper path && x.img.isSome && !x.stopped && s.windowRoom path && s.entryRoom path then
      let t := s.takeHead path y ys frames ecc
      if t.framesFit path || s.framesHeld path == 0 then .next t else .next s
    else .next s

/-- A firing that completes a product under SERVICE has room for it in the window, by the products that its parcels make up
(R139). -/
def State.productRoom (s : State) (c : TileCfg) : Option Frame → Bool
  | none => true
  | some f =>
    let n := (f.done.filter fun x => x.segment + 1 == x.segments).length
    s.mode c.path != 8 || decide (s.framesHeld c.path + n ≤ s.windowSlots c.path ∧ s.inFlight + n ≤ 4096)

/-- TILE_FIRE (R122, R126, R137): a tile fires; `work` is what its program does, and `product` the frame that the firing
serves: one that an exit feeder completes with it, or that is lost with it. -/
def execTileFire (t : Fin 1088) (how : FireEnd) (work : TileWork) (product : Option Frame) (s : State) : Res :=
  match s.tileCfg t with
  | none => .next s
  | some c =>
    if s.up .fabric && s.canFire t c && s.productRoom c product then .next (s.fire t c how work product) else .next s

namespace State

/-- A segment of a product comes to the display's traces (R461): the product is complete with its last segment, when every one
before it has come in order. -/
def ShownProduct.take (g : ShownProduct) (x : Parcel) : ShownProduct :=
  let next := match g.parts.getLast? with
    | some y => y.seq == x.seq && y.kind == x.kind && y.segments == x.segments && y.segment + 1 == x.segment
    | none => false
  let parts := if x.segment = 0 then [x] else if next then g.parts ++ [x] else []
  if parts ≠ [] ∧ x.segment + 1 = x.segments then { parts := [], whole := parts } else { g with parts := parts }

/-- The newest parcel at a path's exit is a spectrum or a detector trace: the display can draw it once it is whole (R461). -/
def exitShow (s : State) (p : Nat) : State :=
  let y := s.path p
  match y.exit.getLast? with
  | none => s
  | some x =>
    let inst := (List.range 8).any fun i => (s.xfCfg p i).source != 0 && (s.xfCfg p i).stream == x.stream
    if inst && (x.kind == .spectrum || x.kind == .record) then
      s.setPath p { y with shown := y.shown.put { parts := [], whole := [] } x.stream
                                      (ShownProduct.take (y.shown.get { parts := [], whole := [] } x.stream) x) }
    else s

end State

/-- REORDER_RELEASE (R140, R141, R138): the head of the window leaves in order. -/
def execReorderRelease (p : Fin 4) (ecc : Ecc) (s : State) : Res :=
  match (s.path p).window with
  | [] => .next s
  | y :: ys =>
    if s.productDue p y.last then .next s
    else match y.fill with
    | .empty => .next s
    | .void =>
      let x := s.path p
      .next (s.setPath p { x with window := ys, exit := [], released := max y.last x.released,
                                  gapStreams := x.gapStreams ++ State.missing y.stream })
    | .parcel x =>
      let s := s.setPath p { s.path p with window := ys, exit := [], released := max y.last (s.path p).released }
      match ecc with
      | .sound => .next ((s.releaseParcel p y.last x).exitShow p)
      | .corrected _ _ => .next (((s.chkCorr 0 1 5 p 0 (some p)).releaseParcel p y.last x).exitShow p)
      | .uncorrectable =>
        let s := s.setPath p { s.path p with gapStreams := (s.path p).gapStreams ++ State.missing x.stream }
        let s := if x.kind = .gap then s else s.productGap p x.seq (y.last + 1) x.tick x.phase State.rECC x.stream
        .next (s.chkFail x.seq 0 2 5 p 3 (some p))

/-- REPLAY_PARCEL_READ (R101, R139, R149): a REPLAY path reads the next stored parcel or units of its region, where the frames
that it makes of them fit its window. -/
def execReplayParcelRead (path : Fin 4) (ecc : Ecc) (s : State) : Res :=
  if s.mode path = 7 ∧ (s.path path).replayOn ∧ s.running path ∧ !s.flag GLB_PCLK.nrt_stopped ∧
      s.regionExists (s.replaySrc path).region ∧ s.windowRoom path ∧ s.entryRoom path then
    let t := s.replayRead path ecc
    if t.framesFit path || s.framesHeld path == 0 then .next t else .next s
  else .next s

end Sys2Proof.Machine
end

