-- ==== Sys2Proof/Machine/Mirror.lean ====
section
/-! DEFINITION. The mirror image and the Mirror Port (02_host_ports.md, R74 to R86). -/

namespace Sys2Proof.Machine

namespace State

/-! ### Words (R80, R82) -/

/-- MP_STATUS as it reads: clk_seen is 1 within 10 µs of an edge (R86). -/
def mpStatus (s : State) : Nat :=
  let seen := s.mirror.edgeAt != 0 && decide (s.time.clk + 1 ≤ s.mirror.edgeAt + usTicks 10)
  insertBits (s.f MP_STATUS.reg) 1 1 (b2n seen)

/-- The alarm summary: global events that a port has pending (R80). -/
def alarms (s : State) : Nat := s.f (EVT_PEND.reg 0 0) ||| s.f (EVT_PEND.reg 1 0)

/-- CLK_INVALID is in force on an input that is there (R80). -/
def clkInvalid (s : State) : Bool := (List.range 4).any fun n => s.pathPresent n && s.flag (CNV_STATUS.clk_invalid n)

/-- The tick as group 0 returns it: in SLEEP the bridged count, 256 ticks for each cycle of 10 MHz (R478). -/
def bridged (s : State) : Nat :=
  match s.pwr.sleptAt with
  | some c => (s.now.tick + (s.time.clk - c) / 256 * 256) % 2 ^ 64
  | none => s.now.tick

/-- The words of group 0 as they stand (R80). -/
def group0 (s : State) (a : Nat) : Nat :=
  match a with
  | 0 => s.bridged % 2 ^ 32
  | 1 => s.bridged / 2 ^ 32 % 2 ^ 32
  | 2 => (if s.pwr.sleptAt.isSome then 0 else s.now.phase) + 2 ^ 30 * b2n s.clkInvalid + 2 ^ 31 * b2n s.holdover
  | 3 => s.f GLB_MODE.reg
  | 4 => s.f PWR_STATE.state
  | 5 => s.alarms
  | 6 => s.mpStatus
  | _ => 0

/-- Bits of 32 conditions from `c` on that are armed. -/
def armedBits (s : State) (c : Nat) : Nat := ((List.range 32).filter fun i => s.flag (TRG_COND.armed (c + i))).foldl setBit 0

/-- FCD outputs that the fast control holds clear: the causes of CLRDAC_N and of overrange protection do not show here (R82,
DESIGN CHOICE, log entry 72). -/
def fcdMirrorBits (s : State) : Nat := ((List.range 8).filter fun f => s.flag (FCD_STATUS.c_mirror f)).foldl setBit 0

/-- The live value of a mirror word (R80 to R82). -/
def mirrorWord (s : State) (a : Nat) : Word :=
  if a < 16 then BitVec.ofNat 32 (s.group0 a)
  else if a = 0xFF02 then BitVec.ofNat 32 (s.armedBits 0)
  else if a = 0xFF03 then BitVec.ofNat 32 (s.armedBits 32)
  else if a = 0xFF08 then BitVec.ofNat 32 (s.fcdMirrorBits)
  else if a = 0xFF0C then s.mirror.marker
  else if 0x5400 ≤ a then 0
  else s.mirror.words.get 0 a

/-! ### The Mirror Port (R77, R79) -/

/-- The engine samples the Mirror Port (R77). -/
def mpLive (s : State) : Bool := s.up .host

/-- An edge of MP_CLK was sampled. -/
def mpEdge (s : State) (e : MpEdge) (drive : Option Word) : State :=
  { s with mirror := { s.mirror with last := e, edgeAt := s.time.clk + 1, drive := drive } }

/-- The word that a Mirror Port read gives, and the snapshot after it (R79, R80). -/
def mpRead (s : State) (a : Nat) : Word × Option (Nat × List Word) :=
  if a < 0xFF00 ∧ a % 16 = 0 then
    (s.mirrorWord a, some (a / 16, (List.range 16).map fun i => s.mirrorWord (a + i)))
  else
    match s.mirror.snap with
    | some (g, ws) => if a / 16 = g ∧ a < 0xFF00 then (ws.getD (a % 16) 0, s.mirror.snap) else (s.mirrorWord a, s.mirror.snap)
    | none => (s.mirrorWord a, none)

/-! ### Fast controls (R82 to R85) -/

/-- The class enable of a fast-control word: none for a reserved word. -/
def fcClass (a : Nat) : Option Loc :=
  match a with
  | 0xFF00 => some MP_CTL.force_en
  | 0xFF01 => some MP_CTL.force_en
  | 0xFF02 => some MP_CTL.arm_en
  | 0xFF03 => some MP_CTL.arm_en
  | 0xFF04 => some MP_CTL.arm_en
  | 0xFF05 => some MP_CTL.arm_en
  | 0xFF08 => some MP_CTL.fcd_en
  | 0xFF0C => some MP_CTL.marker_en
  | _ => none

/-- The Mirror Port accepts a write of `v` to a word (R82). -/
def fcAccepts (s : State) (a v : Nat) : Bool :=
  match fcClass a with
  | none => false
  | some en => s.flag MP_CTL.fast_en && s.flag en && !(a == 0xFF0C && decide (2 ^ 16 ≤ v))

/-- A Mirror Port write is refused (R82). -/
def mpRefuse (s : State) : State := (s.bump MP_STATUS.refused).raise 12

/-- Conditions of a list are armed or disarmed at a stamp. -/
def condsArm (s : State) (on : Bool) (t : Stamp) : List Nat → State
  | [] => s
  | c :: cs => (s.condArm c on t).condsArm on t cs

/-- The Mirror Port arms or disarms conditions: in the scope of an ensemble each is refused (R84, R532). -/
def fcArm (s : State) (on : Bool) (cs : List Nat) : State :=
  let s := (cs.filter fun c => s.ensScoped ENS_SCOPE_COND.reg c).foldl (fun s _ => s.ensRefuse) s
  s.condsArm on s.now (cs.filter fun c => !s.ensScoped ENS_SCOPE_COND.reg c)

/-- The fast-control clear cause of the outputs follows a mask (R82, R85). -/
def fcdFast (s : State) (v : Nat) : List Nat → State
  | [] => s
  | f :: fs =>
    let was := s.flag (FCD_STATUS.c_mirror f)
    let s := if bit v f && !was then s.fcdCause f (FCD_STATUS.c_mirror f)
      else if !bit v f && was then s.fcdCauseEnd f (FCD_STATUS.c_mirror f) else s
    s.fcdFast v fs

/-- A marker waits for the first sample at or after a stamp on every path of a mask (R83). -/
def marksSet (s : State) (t : Stamp) (code : Nat) : List Nat → State
  | [] => s
  | n :: ns => (s.setConv n { s.conv n with markers := (s.conv n).markers ++ [(t, code)] }).marksSet t code ns

/-- A write cycle of the Mirror Port at an edge (R82 to R85). -/
def mpWrite (s : State) (a v : Nat) : State :=
  if !s.mpLive then s
  else
    let s := s.mpEdge .write none
    if !s.fcAccepts a v then s.mpRefuse
    else
      match a with
      | 0xFF00 => s.forceAll s.now (bitList 32 v)
      | 0xFF01 => s.forceAll s.now ((bitList 32 v).map (· + 32))
      | 0xFF02 => s.fcArm true (bitList 32 v)
      | 0xFF03 => s.fcArm true ((bitList 32 v).map (· + 32))
      | 0xFF04 => s.fcArm false (bitList 32 v)
      | 0xFF05 => s.fcArm false ((bitList 32 v).map (· + 32))
      | 0xFF08 => s.fcdFast v (List.range 8)
      | _ =>
        let s := { s with mirror := { s.mirror with marker := BitVec.ofNat 32 (v % 16 + 256 * bits v 8 8) } }
        s.marksSet s.now (bits v 8 8) ((bitList 4 v).filter s.pathPresent)

/-- What a gathered update of a group carries (R168): the group's figures as they stand, or the last ones gathered. -/
def gatheredWords (s : State) (g : Nat) : List (Nat × Nat) :=
  if g = 1 then s.fabricMirror
  else if 16 ≤ g ∧ g < 80 then s.condMirror (g - 16)
  else if 80 ≤ g ∧ g < 144 then s.capMirror (g - 80)
  else s.mirror.gathered.get [] g

end State

/-! ### Meanings -/

/-- MP_READ_CYCLE (R74, R75, R77, R79, R80): an edge of MP_CLK with MP_SEL_N low for a read, or an idle edge (`none`), after
which the engine releases MP_D. -/
def execMpReadCycle (a : Option (BitVec 16)) (s : State) : Res :=
  match a with
  | none => .next (if s.mpLive then s.mpEdge .idle none else s)
  | some a =>
    if !s.mpLive then .next (s.complete .undriven)
    else
      let r := s.mpRead a.toNat
      let t := s.mpEdge .read (some r.1)
      .next ({ t with mirror := { t.mirror with snap := r.2 } }.complete (.words [r.1]))

/-- MP_WRITE_REFUSED (R82). -/
def execMpWriteRefused (a : BitVec 16) (v : Word) (s : State) : Res :=
  if s.mpLive && !s.fcAccepts a.toNat v.toNat then .next (s.mpWrite a.toNat v.toNat) else .next s

/-- FC_FORCE (R82, R83). -/
def execFcForce (hi : Bool) (v : Word) (s : State) : Res := .next (s.mpWrite (if hi then 0xFF01 else 0xFF00) v.toNat)

/-- FC_ARM (R82). -/
def execFcArm (hi : Bool) (v : Word) (s : State) : Res := .next (s.mpWrite (if hi then 0xFF03 else 0xFF02) v.toNat)

/-- FC_DISARM (R82, R84). -/
def execFcDisarm (hi : Bool) (v : Word) (s : State) : Res := .next (s.mpWrite (if hi then 0xFF05 else 0xFF04) v.toNat)

/-- FC_FCD_CLEAR (R82, R85). -/
def execFcFcdClear (v : Word) (s : State) : Res := .next (s.mpWrite 0xFF08 v.toNat)

/-- FC_MARKER (R82, R83). -/
def execFcMarker (v : Word) (s : State) : Res := .next (s.mpWrite 0xFF0C v.toNat)

/-- A write to MP_CTL (R86): MP_STATUS shows fast_en. -/
def State.mpCtlWrite (s : State) (v : Nat) : State :=
  let s := s.plainWrite MP_CTL.reg.addr v
  s.set MP_STATUS.fast_en (s.f MP_CTL.fast_en)

/-- MP_CTL_WRITE (R86). -/
def execMpCtlWrite (p : Port) (v : Word) (s : State) : Res :=
  .next (s.hubWrite p MP_CTL.reg.addr (some 3) fun s => s.mpCtlWrite v.toNat)

/-- Ticks between two updates of a mirror group: 100 ns, or 1 µs for bands and zoom windows (R168, R270, R259). -/
def mirrorInterval (g : Nat) : Nat := if g < 144 then 256 else usTicks 1

/-- MIRROR_GATHERED_UPDATE (R168): the interval since a group's last update is over. -/
def execMirrorGatheredUpdate (g : Fin 240) (s : State) : Res :=
  if s.mirror.dirty.get false g && decide (Tab.get 0 s.mirror.updated g + mirrorInterval g ≤ s.time.clk + 1) then
    let t := s.mirrorUpdate g (s.gatheredWords g)
    .next { t with mirror := { t.mirror with dirty := t.mirror.dirty.put false g false
                                             gathered := t.mirror.gathered.put [] g []
                                             updated := t.mirror.updated.put 0 g (t.time.clk + 1) } }
  else .next s

end Sys2Proof.Machine
end

