-- ==== Sys2Proof/Machine/Image.lean ====
section
/-! DEFINITION. Structure images (03_structure_image.md): reading the container, the checks of a load in the order of
R96 and R119, admission, keys and fuses, boot slots. The switch-over itself is in SwitchOver.lean. -/

namespace Sys2Proof.Machine

/-! ### The container (R87 to R91) -/

/-- A section as its directory entry gives it (R88). -/
structure Section_ where
  type_ : Nat
  path : Nat
  offset : Nat
  length : Nat
  count : Nat
  crc : Nat
deriving DecidableEq, Repr

/-- Byte fields of the header (R87), by offset and size. -/
def hMagic (b : List Byte) : Nat := field b 0 4
/-- Total length in bytes. -/
def hLength (b : List Byte) : Nat := field b 8 4
/-- The paths the image replaces. -/
def hPathMask (b : List Byte) : Nat := field b 16 1
/-- Mode code of a path. -/
def hMode (b : List Byte) (p : Nat) : Nat := field b (20 + p) 1
/-- Demand of a path, in 1/256 operations per sample. -/
def hDemand (b : List Byte) (p : Nat) : Nat := field b (24 + 4 * p) 4
/-- Declared capture-memory write rate of a path, in MB/s. -/
def hCapWrite (b : List Byte) (p : Nat) : Nat := field b (56 + 4 * p) 4
/-- Number of sections. -/
def hSections (b : List Byte) : Nat := field b 76 2
/-- Offset of the directory. -/
def hDir (b : List Byte) : Nat := field b 80 4
/-- Offset of the signature block. -/
def hSig (b : List Byte) : Nat := field b 84 4

/-- The REPLAY source of a path in the header (R87, R101). -/
def hReplay (b : List Byte) (p : Nat) : ReplaySrc :=
  { region := field b (96 + p) 1 % 64, rate := field b (40 + 4 * p) 4, start := field b (104 + 8 * p) 8,
    len := field b (136 + 8 * p) 8, index := field b (168 + 8 * p) 8, tick := field b (200 + 8 * p) 8 }

/-- The section directory, `n` entries from an offset on. -/
def readDir (b : List Byte) (off : Nat) : Nat → List Section_
  | 0 => []
  | n + 1 =>
    { type_ := field b off 2, path := field b (off + 2) 1, offset := field b (off + 4) 4, length := field b (off + 8) 4,
      count := field b (off + 12) 4, crc := field b (off + 16) 4 } :: readDir b (off + 32) n

/-- The section directory of an image. -/
def sections (b : List Byte) : List Section_ := readDir b (hDir b) (hSections b)

/-- The reserved bytes of a directory entry are 0. -/
def dirReserved (b : List Byte) (off : Nat) : Nat → Bool
  | 0 => true
  | n + 1 => field b (off + 3) 1 == 0 && field b (off + 20) 12 == 0 && dirReserved b (off + 32) n

/-- Two byte ranges do not overlap. -/
def apart (a la b lb : Nat) : Bool := decide (a + la ≤ b) || decide (b + lb ≤ a)

/-- No two sections of a list overlap. -/
def sectionsApart : List Section_ → Bool
  | [] => true
  | x :: xs => xs.all (fun y => apart x.offset x.length y.offset y.length) && sectionsApart xs

/-- The reserved bytes of the header are 0, and bits 7:4 of path_mask, which name no path; best_effort bits 7:4 are not
looked at (R87, DESIGN CHOICE, log entry 75). -/
def headReserved (b : List Byte) : Bool :=
  field b 15 1 == 0 && field b 17 1 == 0 && field b 19 1 == 0 && field b 78 2 == 0 && field b 100 4 == 0 &&
    field b 232 24 == 0 && field b 13 1 < 8 && hPathMask b < 16 && (List.range 4).all fun p => decide (field b (96 + p) 1 < 64)

/-- Magic, format and sizes of the header are as R87 gives them. -/
def headForm (b : List Byte) : Bool :=
  hMagic b == 0x4948534B && field b 4 2 == 1 && field b 6 2 == 256 && headReserved b

/-- The directory and the sections lie where R87 and R88 let them, and their types and lengths agree. -/
def dirForm (b : List Byte) : Bool :=
  let ss := sections b
  let dirLen := 32 * hSections b
  decide (1 ≤ hSections b ∧ hSections b ≤ 4096) && hDir b % 64 == 0 && hSig b % 64 == 0 && hLength b == hSig b + 256 &&
    decide (256 ≤ hDir b) && decide (hDir b + dirLen ≤ hSig b) && dirReserved b (hDir b) (hSections b) &&
    ss.all (fun x => decide (1 ≤ x.type_ ∧ x.type_ ≤ 4) && x.offset % 64 == 0 && decide (256 ≤ x.offset) &&
      decide (x.offset + x.length ≤ hSig b) && apart x.offset x.length (hDir b) dirLen &&
      (x.type_ != 1 || x.length == 64 * x.count) && (x.type_ != 4 || x.length == 8 * x.count)) &&
    sectionsApart ss

/-- The tile record at an offset of an image (R89); `ss` is the directory. -/
def readTile (b : List Byte) (ss : List Section_) (off : Nat) : TileCfg :=
  let sec := field b (off + 16) 2
  let mem := match ss[sec]? with
    | some x => if sec = 0xFFFF then [] else (b.drop (x.offset + field b (off + 20) 4)).take (field b (off + 24) 4)
    | none => []
  { ltile := field b off 2, path := field b (off + 2) 1, role := field b (off + 3) 1, laneEn := field b (off + 4) 2,
    load := field b (off + 8) 4, ports := (List.range 4).map fun i => field b (off + 12 + i) 1, mem := mem,
    startPc := field b (off + 28) 4, fireIn := (List.range 4).map fun i => field b (off + 32 + i) 1,
    fireOut := (List.range 4).map fun i => field b (off + 36 + i) 1, arith := field b (off + 40) 4 }

/-- Offsets of the tile records of an image, each with the path of its section. -/
def tileOffsets (b : List Byte) : List (Nat × Nat) :=
  ((sections b).filter (·.type_ == 1)).flatMap fun x => (List.range x.count).map fun i => (x.offset + 64 * i, x.path)

/-- The tile records of an image. -/
def readTiles (b : List Byte) : List TileCfg := (tileOffsets b).map fun e => readTile b (sections b) e.1

/-- Offsets of the COEF records from one offset to the end of their section (R88); `n` bounds their number. -/
def coefOffsets (b : List Byte) (off stop : Nat) : Nat → List Nat
  | 0 => []
  | n + 1 => if stop ≤ off then [] else off :: coefOffsets b (off + 8 + (field b (off + 4) 4 + 3) / 4 * 4) stop n

/-- The COEF record at an offset (R88). -/
def readCoef (b : List Byte) (path off : Nat) : Coef :=
  { path := path, table := field b off 2, window := field b (off + 2) 1, data := (b.drop (off + 8)).take (field b (off + 4) 4) }

/-- The coefficient tables of an image. -/
def coefsOf (b : List Byte) : List Coef :=
  ((sections b).filter (·.type_ == 3)).flatMap fun x =>
    (coefOffsets b x.offset (x.offset + x.length) x.count).map (readCoef b x.path)

/-- The memory image that a tile record names is a MEMIMG section, and its bytes lie in it and fit a local memory (R88,
R89). -/
def memForm (b : List Byte) (off : Nat) : Bool :=
  let len := field b (off + 24) 4
  decide (len ≤ 65536) && (field b (off + 16) 2 == 0xFFFF || match (sections b)[field b (off + 16) 2]? with
    | some x => x.type_ == 2 && decide (field b (off + 20) 4 + len ≤ x.length)
    | none => false)

/-- The reserved bytes of a tile record are 0 (R89). -/
def tileReserved (b : List Byte) (off : Nat) : Bool :=
  field b (off + 6) 2 == 0 && field b (off + 18) 2 == 0 && decide (field b (off + 40) 4 < 512) && field b (off + 44) 16 == 0

/-- The records of an image are formed as R88 and R89 say. -/
def recordForm (b : List Byte) : Bool :=
  ((tileOffsets b).all fun e => tileReserved b e.1 && memForm b e.1) &&
    ((sections b).filter (·.type_ == 3)).all fun x =>
      (coefOffsets b x.offset (x.offset + x.length) x.count).all fun o =>
        field b (o + 3) 1 == 0 && decide (o + 8 + field b (o + 4) 4 ≤ x.offset + x.length)

/-- The REG_INIT records of an image, in listed order (R88, R100). -/
def regInitsOf (b : List Byte) : List (Nat × Word) :=
  ((sections b).filter (·.type_ == 4)).flatMap fun x =>
    (List.range x.count).map fun i => (field b (x.offset + 8 * i) 4, BitVec.ofNat 32 (field b (x.offset + 8 * i + 4) 4))

/-- The signed region (R90). -/
def signedRegion (b : List Byte) : List Byte := b.take (hSig b)

/-- What the shadow planes hold after pass 2 (R96 step 4). -/
def stage (b : List Byte) : Staged :=
  { pathMask := hPathMask b, bestEffort := field b 18 1, modes := (List.range 4).map (hMode b),
    demands := (List.range 4).map (hDemand b), capWrites := (List.range 4).map (hCapWrite b),
    replays := (List.range 4).map (hReplay b), tiles := readTiles b, coefs := coefsOf b, regInit := regInitsOf b,
    digest := sha384 (signedRegion b) }

/-! ### Result codes (R119) -/

def cADMITTED : Nat := 0x00
def cFORMAT : Nat := 0x01
def cDEVICE : Nat := 0x02
def cLENGTH : Nat := 0x03
def cCRC : Nat := 0x04
def cKEY : Nat := 0x05
def cSIGNATURE : Nat := 0x06
def cROLLBACK : Nat := 0x07
def cDIGEST : Nat := 0x08
def cABSENT : Nat := 0x09
def cCONFLICT : Nat := 0x0A
def cTILEMAP : Nat := 0x0B
def cWIDESPLIT : Nat := 0x0C
def cSCOPE : Nat := 0x0D
def cDEMAND : Nat := 0x0E
def cCAPACITY : Nat := 0x0F
def cSTALE : Nat := 0x10
def cMEMBW : Nat := 0x11
def cFETCH : Nat := 0x12
def cABANDONED : Nat := 0x13
def cABORTED : Nat := 0x14
def cBUSY : Nat := 0x15
def cEMPTY : Nat := 0x16

/-- The code of the first check that fails; none when all pass. -/
def firstFail : List (Bool × Nat) → Option Nat
  | [] => none
  | (ok, c) :: xs => if ok then firstFail xs else some c

namespace State

/-! ### Step 1: header and directory -/

/-- A WIDE pair is taken or left as one (R22): both paths of each pair carry mode 0x2, or neither does. -/
def widePairsWhole (b : List Byte) : Bool :=
  [0, 2].all fun p => (hMode b p == 2) == (hMode b (p + 1) == 2)

/-- The mask does not split a pair that runs WIDE now, nor a SERVICE structure (R22, R23, R108). -/
def maskWhole (s : State) (m : Nat) : Bool :=
  ([0, 2].all fun p => s.mode p != 2 || bit m p == bit m (p + 1)) &&
    (!((List.range 4).any fun p => s.mode p == 8) ||
      (List.range 4).all (fun p => !s.pathPresent p || bit m p) || m == 0)

/-- SERVICE is given to every path present, or to none (R622). -/
def serviceWhole (s : State) (b : List Byte) : Bool :=
  !((List.range 4).any fun p => hMode b p == 8) ||
    (List.range 4).all fun p => !s.pathPresent p || (bit (hPathMask b) p && hMode b p == 8)

/-- The header names only paths that are there (R3). -/
def maskPresent (s : State) (m : Nat) : Bool := (List.range 4).all fun p => !bit m p || s.pathPresent p

/-- Demands and section namings that R622 forbids are absent. -/
def demandForm (b : List Byte) : Bool :=
  ((List.range 4).all fun p =>
    (!(hMode b p == 2 && p % 2 == 1) || hDemand b p == 0) && (!(bit (hPathMask b) p && hMode b p == 0) || hDemand b p == 0)) &&
    (sections b).all fun x => !(bit (hPathMask b) x.path && hMode b x.path == 0)

/-- The checks of the header and the directory, in order; the code of the first that fails. -/
def headCheck (s : State) (q : LoadReq) (addr len : Nat) (b : List Byte) : Option Nat :=
  firstFail [
    (q.src != 3, cFORMAT),
    (q.src != 0 || addr % 64 == 0, cFORMAT),
    (q.src == 0 || hMagic b == 0x4948534B, cEMPTY),
    (headForm b, cFORMAT),
    (field b 12 1 == s.f GLB_ID.device && bit (field b 13 1) s.variant &&
      decide (field b 14 1 ≤ s.f GLB_ID.reg / 16 % 256), cDEVICE),
    ((q.src != 0 || hLength b == len) && decide (1024 ≤ hLength b ∧ hLength b ≤ 16777216), cLENGTH),
    (dirForm b, cFORMAT),
    ((List.range 4).all (fun p => decide (hMode b p ≤ 8) && (bit (hPathMask b) p || hMode b p == 0)), cFORMAT),
    (demandForm b, cFORMAT),
    (s.maskPresent (hPathMask b), cABSENT),
    (widePairsWhole b && s.maskWhole (hPathMask b) && s.serviceWhole b, cWIDESPLIT),
    ((sections b).all (fun x => bit (hPathMask b) x.path), cSCOPE)]

/-! ### Steps 2 and 3: check values, key and signature -/

/-- Every section and record check value of an image is right (R96 step 2). -/
def crcsRight (b : List Byte) : Bool :=
  ((sections b).all fun x => (crc32c ((b.drop x.offset).take x.length)).toNat == x.crc) &&
    (tileOffsets b).all fun e => (crc32c ((b.drop e.1).take 60)).toNat == field b (e.1 + 60) 4

/-- The key hash of the public key in a signature block (R92). -/
def keyHash (sig : List Byte) : List Byte :=
  sha384 (0x04 :: ((sig.drop 8).take 48).reverse ++ ((sig.drop 56).take 48).reverse)

/-- The checks of step 3 on an image: the reserved bytes of the signature block, then key, revocation, security version and
signature (R91, R96, R110, R111). A sig_format other than 1 is refused with SIGNATURE (DESIGN CHOICE, log entry 75). -/
def authCheck (s : State) (b : List Byte) : Option Nat :=
  let sig := b.drop (hSig b)
  let k := field sig 4 1
  firstFail [
    (field sig 5 3 == 0 && field sig 200 56 == 0, cFORMAT),
    (decide (k < 4) && bit s.fuse.enrolled k && !bit s.fuse.revoked k &&
      decide (s.fuse.hash.get [] k = keyHash sig), cKEY),
    (decide (s.fuse.svnMin ≤ field b 72 4), cROLLBACK),
    (field sig 0 4 == 1 && ecdsaVerify (field sig 8 48) (field sig 56 48) (field sig 104 48) (field sig 152 48)
      (sha384 (signedRegion b)), cSIGNATURE),
    (k == 0 || (List.range 4).all (fun p => hMode b p != 8), cSIGNATURE)]

/-! ### Step 4: the records -/

/-- No logical tile is named twice. -/
def tilesOnce : List TileCfg → Bool
  | [] => true
  | t :: ts => ts.all (fun u => u.ltile != t.ltile) && tilesOnce ts

/-- Logical tiles of the running paths outside a mask (R99): a path that holds a structure runs, whether or not its running
bit is 1 (DESIGN CHOICE, log entry 75). -/
def foreignTiles (s : State) (m : Nat) : List Nat :=
  ((List.range 4).filter fun p => !bit m p).flatMap fun p => (((s.path p).img.map (·.tiles)).getD []).map (·.ltile)

/-- The sum of the load fields that a path's demand answers for (R116). -/
def loadSum (g : Staged) (p : Nat) : Nat :=
  let wide := g.modes.getD p 0 == 2
  ((g.tiles.filter fun t => t.path == p || (wide && t.path == p + 1)).map (·.load)).foldl (· + ·) 0

/-- The fields that an image sets in a register are 0 again. -/
def clearImageWord (s : State) (e : Nat × Word) : State :=
  match findRow e.1 with
  | some (r, ix) => s.setWord e.1 (r.ini ix) (s.word e.1 (r.ini ix) &&& (0xFFFFFFFF ^^^ r.img))
  | none => s

/-- The fields that the old image had set in a path's units are 0 again. -/
def clearImage (s : State) (p : Nat) : State :=
  (s.regs.filter fun e => (decide (0x120000 + 0x8000 * p ≤ e.1) && decide (e.1 < 0x128000 + 0x8000 * p)) ||
      (decide (0x140000 + 0x10000 * p ≤ e.1) && decide (e.1 < 0x150000 + 0x10000 * p))).foldl
    clearImageWord s

/-- The word that a REG_INIT record leaves in its register; none where the unit drops it. A home path stays as its source
implies, and the path of a region that is not disarmed stands (R325, R332, R353). -/
def regInitTakes (s : State) (off v : Nat) : Option Nat :=
  if 0x180000 ≤ off ∧ off < 0x181000 then
    let c := off % 0x1000 / 0x40
    if off % 0x40 = 0 then if s.condBad c v then none else some (s.condWord c v)
    else if s.paramBad c off v then none else some v
  else if 0x184000 ≤ off ∧ off < 0x185000 ∧ off % 0x40 = 0 then
    let r := off % 0x1000 / 0x40
    some (if s.f (TRG_RGN_CTL.state r) = 0 then v else insertBits v 20 2 (s.f (TRG_RGN_CTL.path r)))
  else some v

/-- A REG_INIT record as those after it find it (R100). -/
def regInitSeen (s : State) (off v : Nat) : State :=
  match findRow off, s.regInitTakes off v with
  | some (r, ix), some w => s.setWord off (r.ini ix) w
  | _, _ => s

/-- The registers as the switch-over to an image will find them: the modes and the REG_INIT records of its paths (R100,
R102). -/
def stagedSettings (s : State) (g : Staged) : State :=
  let ps := (List.range 4).filter (bit g.pathMask)
  let s := ps.foldl (fun s p => (s.clearImage p).set (modeLoc p) (g.modes.getD p 0)) s
  g.regInit.foldl (fun s e => s.regInitSeen e.1 e.2.toNat) s

/-- The load fields of a path's records cover the lane operations that its structure needs under the settings of the
switch-over (R256, R284, R293; DESIGN CHOICE, log entry 75). -/
def loadCovers (s : State) (g : Staged) (p : Nat) : Bool :=
  let fmt := s.f (CAP_REGION_SRC.fmt ((g.replays[p]?.map (·.region)).getD 0))
  let n := (s.stagedSettings g).laneNeed p (fmt == 1 || fmt == 2)
  decide (256 * n.1 ≤ loadSum g p * n.2)

/-- A COEF target that the owning chapters name: resampler banks, windows, the channelizer prototype (R88). -/
def coefKnown (c : Coef) : Bool :=
  (c.table == 0x0701 && decide (c.window < 8)) || (c.table == 0x0801 && decide (c.window < 8)) || c.table == 0x0901

/-- The checks on the records of the shadow planes (R89, R95, R99, R116, R622, R623). A logical tile of 1,024 or more is
refused with TILE_MAP, and a memory image that is not there with FORMAT (DESIGN CHOICE, log entry 75). -/
def recordCheck (s : State) (b : List Byte) (g : Staged) : Option Nat :=
  firstFail [
    (recordForm b, cFORMAT),
    (g.tiles.all (fun t => !(bit g.pathMask t.path && g.modes.getD t.path 0 == 0)), cFORMAT),
    ((tileOffsets b).all (fun e => field b (e.1 + 2) 1 == e.2) && g.tiles.all (fun t => bit g.pathMask t.path), cSCOPE),
    (g.tiles.all (fun t => decide (1 ≤ t.role ∧ t.role ≤ 10)) && g.coefs.all coefKnown, cSCOPE),
    (tilesOnce g.tiles && g.tiles.all (fun t => !(s.foreignTiles g.pathMask).contains t.ltile), cCONFLICT),
    (g.tiles.all (fun t => decide (t.ltile < 1024) && (s.physTile t.ltile).isSome), cTILEMAP),
    ((List.range 4).all (fun p => !bit g.pathMask p || (g.modes.getD p 0 == 2 && p % 2 == 1) ||
      (decide (loadSum g p ≤ g.demands.getD p 0) && s.loadCovers g p)), cDEMAND)]

/-! ### Step 5: admission (R100, R101, R113 to R119) -/

/-- The path that the instance at an offset belongs to, by the block it lies in (R100): `v` is the word written. -/
def blockPath (s : State) (off v : Nat) : Option Nat :=
  if 0x120000 ≤ off ∧ off < 0x140000 then some (off % 0x20000 / 0x8000)
  else if 0x140000 ≤ off ∧ off < 0x180000 then some (off % 0x40000 / 0x10000)
  else if 0x180000 ≤ off ∧ off < 0x181000 then
    let c := off % 0x1000 / 0x40
    let w := if off % 0x40 = 0 then v else s.f (TRG_COND.reg c)
    let kind := bits w 24 4
    let sel := bits w 0 8
    if kind = 2 then some (s.f (MSK_BIND.path (sel % 64)))
    else if kind = 6 then some (sel % 4)
    else if kind = 7 then some (s.homeOf (s.f (TRG_SEQ.second c)))
    else if kind = 1 then some (s.f (TRG_COND.path c))
    else some (bits w 20 2)
  else if 0x184000 ≤ off ∧ off < 0x185000 then
    let r := off % 0x1000 / 0x40
    some (if off % 0x40 = 0 then bits v 20 2 else s.f (TRG_RGN_CTL.path r))
  else if 0x188200 ≤ off ∧ off < 0x188240 then some (off % 0x40 / 0x10)
  else if 0x250000 ≤ off ∧ off < 0x250200 then
    let k := off % 0x1000 / 0x100
    some (if off % 0x100 = 0 then bits v 8 2 else s.f (KAL_CTL.path k))
  else if 0x251000 ≤ off ∧ off < 0x251400 then
    let m := off % 0x1000 / 0x10
    some (if off % 0x10 = 0 then bits v 0 2 else s.f (MSK_BIND.path m))
  else none

/-- The path that a REG_INIT record addresses an instance of; none where its offset is no register, or one of no path
(R100). -/
def regInitPath (s : State) (off v : Nat) : Option Nat := (findRow off).bind fun _ => s.blockPath off v

/-- Every REG_INIT record addresses an instance of a path of the mask, each judged after the records before it (R100). -/
def regInitScope (s : State) (m : Nat) : List (Nat × Word) → Bool
  | [] => true
  | (off, v) :: xs =>
    (match s.regInitPath off v.toNat with
      | some p => bit m p
      | none => false) && (s.regInitSeen off v.toNat).regInitScope m xs

/-- The replay source of a path can be read (R101). -/
def replayOk (s : State) (x : ReplaySrc) : Bool :=
  let fmt := s.f (CAP_REGION_SRC.fmt x.region)
  let size := s.regionSize x.region
  let pos := x.start % size
  s.regionExists x.region && decide (fmt ≤ 4) &&
    (fmt != 0 || decide (s.f (CAP_REGION_WRITTEN.reg x.region) < pos + 32) ||
      match Parcel.ofBytes (s.ringRead x.region pos (32 + 8192)) with
      | some y => y.crcOk && (y.kind == .block || y.kind == .iq || y.kind == .gap)
      | none => false)

/-- The declared write rates of all images in force after a load (R118), in MB/s. -/
def capWritesAfter (s : State) (g : Staged) : Nat :=
  ((List.range 4).map fun p =>
    if bit g.pathMask p then g.capWrites.getD p 0 else ((s.path p).img.map (·.capWrite)).getD 0).foldl (· + ·) 0

/-- The sample rate a path is admitted at, in 2^-24 Hz. -/
def stagedFs24 (s : State) (g : Staged) (p : Nat) : Nat := if g.modes.getD p 0 == 2 then 2 * s.fs24 else s.fs24

/-- The tiles that a path is admitted with: those of both paths for the lower path of a WIDE pair. -/
def stagedTiles (g : Staged) (p : Nat) : List TileCfg :=
  g.tiles.filter fun t => t.path == p || (g.modes.getD p 0 == 2 && p % 2 == 0 && t.path == p + 1)

/-- A path of an image is checked against capacity: real-time, and not the upper path of a WIDE pair (R115, R117). -/
def stagedReal (g : Staged) (p : Nat) : Bool :=
  let m := g.modes.getD p 0
  bit g.pathMask p && decide (1 ≤ m ∧ m ≤ 6) && !(m == 2 && p % 2 == 1)

/-- Paths of an image whose required rate exceeds their capacity. -/
def shortPaths (s : State) (g : Staged) : List Nat :=
  (List.range 4).filter fun p => stagedReal g p &&
    decide (capScale (s.capacity (stagedTiles g p)) < required (g.demands.getD p 0) (s.stagedFs24 g p))

/-- The last sweep is no older than 10 ms (R113). -/
def sweepFresh (s : State) : Bool :=
  s.fab.sweepTick != 0 && decide (s.time.tick.toNat + 1 ≤ s.fab.sweepTick + 25600000)

/-- A path of an image that a missing sweep bears on: one that gets a structure (R113). -/
def stagedAny (g : Staged) (p : Nat) : Bool := bit g.pathMask p && g.modes.getD p 0 != 0

/-- The code of one path at admission (R119), without the memory test; `stale` says that no sweep completes: then every path
without best_effort is refused (R113). -/
def pathCode (s : State) (g : Staged) (stale : Bool) (p : Nat) : Nat :=
  if g.modes.getD p 0 = 7 ∧ !s.replayOk (g.replays.getD p { region := 0, rate := 0, start := 0, len := 0, index := 0, tick := 0 })
  then cSCOPE
  else if bit g.bestEffort p then cADMITTED
  else if stale && stagedAny g p then cSTALE
  else if (s.shortPaths g).contains p then cCAPACITY
  else cADMITTED

/-- IMG_ADMIT_* of one path (R119, R120). -/
def admitShow (s : State) (g : Staged) (stale : Bool) (code p : Nat) : State :=
  let req := required (g.demands.getD p 0) (s.stagedFs24 g p) / (256 * 2 ^ 24 * 1000000000)
  let cap := s.capacity (stagedTiles g p) / 1000
  let m := g.modes.getD p 0
  let s := if 1 ≤ m ∧ m ≤ 6 then
      (s.set (IMG_ADMIT_REQ.reg p) req).set (IMG_ADMIT_FLOOR.reg p) (if stale then 0 else cap)
    else s
  let on := bit g.bestEffort p && ((stale && stagedAny g p) || (s.shortPaths g).contains p)
  let s := (s.set (IMG_ADMIT_INFO.code p) code).set (IMG_ADMIT_INFO.best_effort_on p) (b2n on)
  (s.set (IMG_ADMIT_INFO.vcore_mv p) (s.f GLB_CAP_STATUS.vcore_mv)).set (IMG_ADMIT_INFO.avs_raised p)
    (b2n s.load.raiseFrom.isSome)

/-- IMG_ADMIT_* of every path of a list of codes. -/
def admitShowAll (s : State) (g : Staged) (stale : Bool) : List (Nat × Nat) → State
  | [] => s
  | (p, c) :: xs => (s.admitShow g stale c p).admitShowAll g stale xs

/-! ### The end of a load (R105, R106, R109, R119) -/

/-- The code of the load's origin in IMG_STATUS (R120). -/
def originCode : Origin → Nat
  | .cp .a => 0
  | .cp .b => 1
  | .boot => 2

/-- The load engine goes to rest; the shadow planes are discarded. -/
def loadRest (s : State) : State :=
  ({ s with load := { LoadSt.reset with waiting := s.load.waiting } }).set IMG_STATUS.state 0

/-- The slot of the calibration store: 1 slot A, 2 slot B. -/
def slot (s : State) (k : Nat) : List Byte := if k = 2 then s.cal.slotB else s.cal.slotA

/-- The load engine starts a load or unload that has been asked for: it latches the source and the length (R96 step 1). A go
that waits has latched its options at the go, and these only now (DESIGN CHOICE, log entry 75). -/
def loadLatch (s : State) (q : LoadReq) (b : List Byte) (second : Bool) : State :=
  let s := { s with load := { LoadSt.reset with
    stage := .fetch, req := q, addr := s.f IMG_SRC.reg, len := if q.src = 0 then s.f IMG_LEN.reg else hLength b, head := b,
    bootSecond := second, waiting := none } }
  ((s.set IMG_STATUS.state 2).set IMG_STATUS.origin (originCode q.origin)).set IMG_STATUS.path_mask (hPathMask b)

/-- The boot chain has tried both slots in vain (R109): event 27, SEM_1 free. -/
def bootFailed (s : State) : State := ((s.freeSem 1).raise 27).set GLB_START.stage 8

/-- A load ends with a refusal: the code, event 25 or 26, and the old structure goes on (R106, R119). -/
def loadEnd (s : State) (code : Nat) : State :=
  let dry := s.load.req.dry
  let s := ((s.loadRest.set IMG_STATUS.code code).set IMG_STATUS.was_dry (b2n dry))
  if code = cABANDONED then s.raise 26 else s.raise 25

/-- The second slot of a boot is tried after the first has been refused (R109). -/
def bootNext (s : State) (q : LoadReq) : State :=
  let q' := { q with src := if q.src = 1 then 2 else 1 }
  let b := s.slot q'.src
  let s := s.loadLatch q' b true
  match s.headCheck q' 0 0 b with
  | some c => (s.loadEnd c).bootFailed
  | none => s

/-- A refusal of the load that runs: a boot tries its other slot (R109). -/
def loadRefuse (s : State) (code : Nat) : State :=
  let q := s.load.req
  let second := s.load.bootSecond
  let s := s.loadEnd code
  match q.origin with
  | .cp _ => s
  | .boot => if second then s.bootFailed else s.bootNext q

/-- A load starts with step 1 of R96; `head` is what the fetch of the header and the directory gave. -/
def loadStart (s : State) (q : LoadReq) (head : Option (List Byte)) : State :=
  let b := if q.src = 0 then head.getD [] else s.slot q.src
  let s := s.loadLatch q b false
  if q.src = 0 ∧ head = none then s.loadRefuse cFETCH
  else
    match s.headCheck q (s.f IMG_SRC.reg) (s.f IMG_LEN.reg) b with
    | some c => s.loadRefuse c
    | none => s

/-- The boot slot that is tried first: that of the higher security_version, slot A on a tie (R109). -/
def bootFirst (s : State) : Nat := if field s.cal.slotA 72 4 < field s.cal.slotB 72 4 then 2 else 1

/-- The boot-slot load (R109, R58). -/
def bootLoad (s : State) : State :=
  s.loadStart { unload := false, origin := .boot, src := s.bootFirst, dry := false, avsRaise := false, mask := 0 } none

/-- A repair or a power transition runs, for which a load waits (R37). -/
def loadMustWait (s : State) : Bool := s.flag WEAR_STATUS.repairing || s.flag PWR_STATUS.busy

/-- The boot-slot load begins, or waits for a repair or a power transition that runs (R37, R109). -/
def bootAsk (s : State) : State :=
  if s.loadMustWait then
    { s with load := { s.load with
      waiting := some { unload := false, origin := .boot, src := s.bootFirst, dry := false, avsRaise := false, mask := 0 } } }.set
      IMG_STATUS.state 1
  else s.bootLoad

/-- Step 7 of start-up ends with the first canary sweep, and step 8 follows: with slot boot the boot-slot load, at the exit
from DEEP after that exit; with host boot nothing loads (R568, R569, R589). -/
def firstSweep (s : State) : State :=
  if s.f GLB_START.stage ≠ 6 then s
  else
    let s := s.set GLB_START.stage 7
    if !s.start.bootSel then s.set GLB_START.stage 8 else if s.f PWR_STATE.state = 3 then s else s.bootAsk

/-- An unload starts with the check of its mask (R108). -/
def unloadStart (s : State) (q : LoadReq) : State :=
  let s := { s with load := { LoadSt.reset with stage := .ready, req := q, waiting := none } }
  let s := ((s.set IMG_STATUS.state 6).set IMG_STATUS.origin (originCode q.origin)).set IMG_STATUS.path_mask q.mask
  if !s.maskPresent q.mask then s.loadRefuse cABSENT
  else if !s.maskWhole q.mask then s.loadRefuse cWIDESPLIT
  else s

/-- A load or unload is asked for: refused with BUSY while one runs or waits, kept in state WAITING during a repair or
a power transition, else started (R37, R104). -/
def loadAsk (s : State) (q : LoadReq) (head : Option (List Byte)) : State :=
  if s.load.stage ≠ .idle ∨ s.load.waiting ≠ none then (s.set IMG_STATUS.code cBUSY).raise 25
  else if s.loadMustWait then { s with load := { s.load with waiting := some q } }.set IMG_STATUS.state 1
  else if q.unload then s.unloadStart q
  else s.loadStart q head

/-- The fetching port of the load that runs is lost (R106): the load is abandoned in pass 1 or pass 2. -/
def loadPortLost (s : State) (p : Port) : State :=
  if (s.load.stage = .fetch ∨ s.load.stage = .stage) ∧ s.load.req.src = 0 ∧ s.load.req.origin = .cp p then
    s.loadRefuse cABANDONED
  else s

/-- The paths an image or an unload replaces. -/
def loadMask (s : State) : Nat :=
  if s.load.req.unload then s.load.req.mask else (s.load.staged.map (·.pathMask)).getD 0

/-- The options of IMG_CTL as latched by a go (R96, R105). -/
def goReq (p : Port) (v : Nat) : LoadReq :=
  { unload := false, origin := .cp p, src := bits v 2 2, dry := bit v 1, avsRaise := bit v 4, mask := 0 }

/-- The load engine is at a step before switch-over (R105). -/
def loadAborts (s : State) : Bool := s.load.stage != .idle && s.load.stage != .drain

/-- A write to IMG_CTL: options, then abort, then go (R96, R105, R120). An unload is run as a load (R108), so an abort discards
it as well (DEDUCED, log entry 75). -/
def imgCtl (s : State) (p : Port) (v : Nat) (head : Option (List Byte)) : State :=
  let s := ((s.set IMG_CTL.avs_raise (bits v 4 1)).set IMG_CTL.src (bits v 2 2)).set IMG_CTL.dry_run (bits v 1 1)
  let s := if bit v 5 && s.loadAborts then s.loadRefuse cABORTED else s
  let s := if bit v 5 ∧ s.load.waiting ≠ none ∧ s.load.stage = .idle then
      ((({ s with load := { s.load with waiting := none } }.set IMG_STATUS.state 0).set IMG_STATUS.code cABORTED).raise 25)
    else s
  if bit v 0 then s.loadAsk (goReq p v) head else s

/-- A write to IMG_UNLOAD (R108): a mask of 0 does nothing. -/
def imgUnload (s : State) (p : Port) (v : Nat) : State :=
  if bit v 31 ∧ v % 16 ≠ 0 then
    s.loadAsk { unload := true, origin := .cp p, src := 0, dry := false, avsRaise := false, mask := v % 16 } none
  else s

/-! ### Keys and fuses (R110 to R112, R624) -/

/-- IMG_KEY_STATUS shows the fuses. -/
def fuseShow (s : State) : State :=
  ((((s.set IMG_KEY_STATUS.svn_min s.fuse.svnMin).set IMG_KEY_STATUS.revoked s.fuse.revoked).set IMG_KEY_STATUS.enrolled
    s.fuse.enrolled).set IMG_KEY_STATUS.incomplete (b2n s.fuse.incomplete.isSome)).set IMG_KEY_STATUS.busy
    (b2n s.fuse.running.isSome)

/-- The bytes of IMG_KEY_HASH. -/
def keyHashReg (s : State) : List Byte := (List.range 12).flatMap fun i => leBytes 4 (s.f (IMG_KEY_HASH.reg i))

/-- The operation a write to IMG_KEY_CTL asks for. -/
def fuseAsk (s : State) (v : Nat) : FuseOp :=
  { op := bits v 12 4, arg := bits v 0 12, hash := if bits v 12 4 = 1 then s.keyHashReg else [] }

/-- A write to IMG_KEY_CTL is refused in one of the cases of R112. -/
def fuseRefuses (s : State) (v : Nat) : Bool :=
  let q := s.fuseAsk v
  bits v 16 16 != 0xF05E || s.f GLB_MODE.running != 0 || s.fuse.running.isSome || !(q.op == 1 || q.op == 2 || q.op == 3) ||
    ((q.op == 1 || q.op == 2) && decide (3 < q.arg)) ||
    match s.fuse.incomplete with
    | some r => !(decide (r = q))
    | none =>
      (q.op == 1 && (bit s.fuse.enrolled q.arg || bit s.fuse.revoked q.arg)) ||
        (q.op == 2 && (q.arg == 0 || bit s.fuse.revoked q.arg)) || (q.op == 3 && decide (q.arg ≤ s.fuse.svnMin))

/-- A write to IMG_KEY_CTL starts a fuse operation, or is refused (R112). -/
def fuseWrite (s : State) (v : Nat) : State :=
  if s.fuseRefuses v then (s.set IMG_KEY_STATUS.refused 1).raise 28
  else ({ s with fuse := { s.fuse with running := some (s.fuseAsk v) } }).fuseShow

/-- The fuses after an operation whose completion fuse has blown. -/
def fuseMade (x : FuseSt) (q : FuseOp) : FuseSt :=
  let x := { x with running := none, incomplete := none }
  match q.op with
  | 1 => { x with hash := x.hash.put [] q.arg q.hash, enrolled := setBit x.enrolled q.arg }
  | 2 => { x with revoked := setBit x.revoked q.arg }
  | _ => { x with svnMin := q.arg }

end State

/-! ### Meanings -/

/-- IMG_LOAD_GO (R96): a write of IMG_CTL with go set. -/
def execImgLoadGo (p : Port) (v : Word) (head : Option (List Byte)) (s : State) : Res :=
  .next (s.hubWrite p IMG_CTL.reg.addr (some 1) fun s => s.imgCtl p (v.toNat ||| 1) head)

/-- IMG_LOAD_WAIT_START (R37, R104): the work that a waiting load or unload waited for has completed. -/
def execImgLoadWaitStart (head : Option (List Byte)) (s : State) : Res :=
  match s.load.waiting with
  | none => .next s
  | some q =>
    if s.loadMustWait ∨ s.load.stage ≠ .idle then .next s
    else if q.unload then .next (s.unloadStart q) else .next (s.loadStart q head)

/-- Step 3 of R96 ends: with the code of the check that failed, or the second pass begins. -/
def State.verifyEnd (s : State) : State :=
  match s.load.verdict with
  | some c => s.loadRefuse c
  | none => ({ s with load := { s.load with stage := .stage } }).set IMG_STATUS.state 4

/-- IMG_PASS1_DONE (R96 steps 2 and 3): the whole image has been fetched, or the fetch gave an error (R106): the check values
are judged, and step 3 begins; when it comes again, step 3 ends. -/
def execImgPass1Done (image : Option (List Byte)) (s : State) : Res :=
  if s.load.stage = .verify then .next s.verifyEnd
  else if s.load.stage ≠ .fetch then .next s
  else
    match if s.load.req.src = 0 then image else some ((s.slot s.load.req.src).take s.load.len) with
    | none => .next (s.loadRefuse cFETCH)
    | some b =>
      match s.headCheck s.load.req s.load.addr s.load.len b with
      | some c => .next (s.loadRefuse c)
      | none =>
        if !State.crcsRight b then .next (s.loadRefuse cCRC)
        else
          .next (({ s with load := { s.load with stage := .verify, digest1 := sha384 (signedRegion b)
                                                 verdict := s.authCheck b } }).set IMG_STATUS.state 3)

/-- IMG_PASS2_DONE (R96 step 4, R97): the image has been fetched again and written into the shadow planes. -/
def execImgPass2Done (image : Option (List Byte)) (s : State) : Res :=
  if s.load.stage ≠ .stage then .next s
  else
    match if s.load.req.src = 0 then image else some ((s.slot s.load.req.src).take s.load.len) with
    | none => .next (s.loadRefuse cFETCH)
    | some b =>
      let g := stage b
      if g.digest ≠ s.load.digest1 then .next (s.loadRefuse cDIGEST)
      else
        match s.recordCheck b g with
        | some c => .next (s.loadRefuse c)
        | none => .next (({ s with load := { s.load with stage := .admitting, staged := some g } }).set IMG_STATUS.state 5)

/-- IMG_ADMISSION (R113 to R119): the checks of step 5. While the sweep that it needs has not completed the load stays
in its admission step; `sweepFailed` says that no sweep completes. With avs_raise set, VCORE is raised and a new sweep
awaited while the capacity falls short (R114). The scope of the REG_INIT records (R100) is judged before all else and gives
no path its code (DESIGN CHOICE, log entry 75). -/
def execImgAdmission (sweepFailed : Bool) (s : State) : Res :=
  match s.load.stage, s.load.staged with
  | .admitting, some g =>
    let stale := !s.sweepFresh
    let late := match s.load.raiseFrom with
      | some t => decide (t + 12800000 ≤ s.time.clk)
      | none => false
    if s.load.awaiting && !late && !sweepFailed then .next s
    else if stale && !sweepFailed then
      -- the sweep is asked for; this step comes again when it has completed
      .next { s with tiu := { s.tiu with sweepAsked := true } }
    else
      if s.load.req.avsRaise && !stale && !(s.shortPaths g).isEmpty && decide (s.f GLB_CAP_STATUS.vcore_mv < 850) && !late then
        let s := { s with load := { s.load with raiseFrom := some (s.load.raiseFrom.getD s.time.clk), awaiting := true },
                          tiu := { s.tiu with sweepAfterStep := true } }
        .next (s.avsRaise 10)
      else
        let ps := (List.range 4).filter (bit g.pathMask)
        let scope := s.regInitScope g.pathMask g.regInit
        let codes := ps.map fun p => (p, s.pathCode g stale p)
        let memBad := decide (60 * s.memBandwidth < 100 * s.capWritesAfter g)
        let codes' := codes.map fun e => (e.1, if e.2 = cADMITTED ∧ memBad then cMEMBW else e.2)
        let order := [cSCOPE, cSTALE, cCAPACITY, cMEMBW]
        let first := if !scope then some cSCOPE else order.find? fun c => codes'.any fun e => e.2 == c
        let s := s.admitShowAll g stale codes'
        let bestOn := (ps.filter fun p => s.flag (IMG_ADMIT_INFO.best_effort_on p)).foldl (fun m p => m + 2 ^ p) 0
        let memFirst := match first with
          | some c => some c
          | none => if memBad then some cMEMBW else none
        match memFirst with
        | some c => .next (s.loadRefuse c)
        | none =>
          if s.load.req.dry then
            .next (((s.loadRest.set IMG_STATUS.code cADMITTED).set IMG_STATUS.was_dry 1).raise 24)
          else .next (({ s with load := { s.load with stage := .ready, bestEffortOn := bestOn } }).set IMG_STATUS.state 6)
  | _, _ => .next s

/-- IMG_ABORT (R105): a write of IMG_CTL with abort set. -/
def execImgAbort (p : Port) (v : Word) (s : State) : Res :=
  .next (s.hubWrite p IMG_CTL.reg.addr (some 1) fun s => s.imgCtl p (v.toNat ||| 32) none)

/-- IMG_UNLOAD (R108). -/
def execImgUnload (p : Port) (v : Word) (s : State) : Res :=
  .next (s.hubWrite p IMG_UNLOAD.reg.addr (some 1) fun s => s.imgUnload p (v.toNat ||| 2 ^ 31))

/-- KEY_ENROL (R112): a write of IMG_KEY_CTL with op 0x1. -/
def execKeyEnrol (p : Port) (v : Word) (s : State) : Res :=
  .next (s.hubWrite p IMG_KEY_CTL.reg.addr (some 1) fun s => s.fuseWrite (insertBits v.toNat 12 4 1))

/-- KEY_REVOKE (R112): a write of IMG_KEY_CTL with op 0x2. -/
def execKeyRevoke (p : Port) (v : Word) (s : State) : Res :=
  .next (s.hubWrite p IMG_KEY_CTL.reg.addr (some 1) fun s => s.fuseWrite (insertBits v.toNat 12 4 2))

/-- KEY_SET_SVN (R112): a write of IMG_KEY_CTL with op 0x3. -/
def execKeySetSvn (p : Port) (v : Word) (s : State) : Res :=
  .next (s.hubWrite p IMG_KEY_CTL.reg.addr (some 1) fun s => s.fuseWrite (insertBits v.toNat 12 4 3))

end Sys2Proof.Machine
end

