-- ==== Sys2Proof/Machine/Tiu.lean ====
section
/-! DEFINITION. The timing unit (15_timing_unit.md): event inputs, frequency inputs, statistics, calibration of the
interpolators, and the canary sweeps with what follows from them (R153 to R155, R542). -/

namespace Sys2Proof.Machine

/-- The integer square root, by bits from the first argument down. -/
def isqrt : Nat → Nat → Nat → Nat
  | 0, _, r => r
  | k + 1, n, r => let x := r + 2 ^ k; isqrt k n (if x * x ≤ n then x else r)

/-- The nearest integer to the square root of `a`, divided by `d`. -/
def rootOver (a d : Nat) : Nat :=
  let k := isqrt 128 (a / (d * d)) 0
  if (2 * k + 1) * (2 * k + 1) * (d * d) ≤ 4 * a then k + 1 else k

/-- A list with one added to its largest entry as often as `d` says, the first of several (R480). -/
def correctLargest (ws : List Nat) (d : Int) : List Nat :=
  let top := ws.foldl max 0
  let i := ws.findIdx (· == top)
  (List.range ws.length).map fun k => if k = i then ((ws.getD k 0 : Int) + d).toNat else ws.getD k 0

namespace State

/-! ### Setting the time (R476) -/

/-- A write to TIU_TIME_CTL. -/
def timeCtlWrite (s : State) (v : Nat) : State :=
  let s := if bit v 2 then s.set TIU_TIME_CTL.set_done 0 else s
  if bit v 0 then s.set TIU_TIME_CTL.armed 1 else s

/-! ### Event inputs (R481, R482) -/

/-- An event input. -/
def evOf (s : State) (j : Nat) : EvSt := s.tiu.evs.get EvSt.reset j

/-- The state with an event input changed. -/
def setEv (s : State) (j : Nat) (x : EvSt) : State := { s with tiu := { s.tiu with evs := s.tiu.evs.put EvSt.reset j x } }

/-- A stamped edge of EV_j enters its queue (R482). -/
def evStore (s : State) (j : Nat) (active : Bool) (fine : Nat) : State :=
  let x := s.evOf j
  let s := if x.fifo.length < 256 then
      let r : EvRecord := { tick := fine / 65536, number := x.number,
                            word2 := fine % 65536 + 2 ^ 16 * b2n active + 2 ^ 17 * b2n s.holdover + 2 ^ 18 * b2n x.lostBefore +
                              2 ^ 19 * b2n x.stepped + 2 ^ 31 }
      s.setEv j { x with number := (x.number + 1) % 2 ^ 32, lostBefore := false, stepped := false, fifo := x.fifo ++ [r] }
    else (s.setEv j { x with number := (x.number + 1) % 2 ^ 32, lostBefore := true }).bump (TIU_EV_STATUS.lost j)
  s.raise (856 + j)

/-- The level of EV_j follows its pin, and an input that is no longer active is stuck no more (R345, R481). -/
def evLevel (s : State) (j : Nat) : State :=
  let was := s.flag (TIU_EV_STATUS.level j)
  let x := s.evOf j
  let active := s.flag (TIU_EV_CTL.en j) && xor x.pin (s.flag (TIU_EV_CTL.pol j))
  let s := (s.set (TIU_EV_STATUS.level j) (b2n active)).setEv j
    { x with activeAt := if active && !was then s.time.clk else x.activeAt }
  if active then s else (s.set (TIU_EV_STATUS.stuck j) 0).condStuck 0 (s.condsOfInput (16 + j))

/-- A write to TIU_EV_CTL (R345, R481). -/
def evCtlWrite (s : State) (j v : Nat) : State := (s.plainWrite (TIU_EV_CTL.reg j).addr v).evLevel j

/-- An edge of EV_j to a high or low level, at a raw bin of a tick; pol says which level is active (R481, R482). -/
def evEdge (s : State) (j : Nat) (high : Bool) (tick b : Nat) : State :=
  let s := s.setEv j { s.evOf j with pin := high }
  if !s.flag (TIU_EV_CTL.en j) then s
  else
    let active := xor high (s.flag (TIU_EV_CTL.pol j))
    let s := (s.set (TIU_EV_STATUS.level j) (b2n active)).setEv j
      { s.evOf j with activeAt := if active then s.time.clk else (s.evOf j).activeAt }
    let raw := s.edgeStamp j tick b 0
    let skew := signed 16 (s.f (TIU_EV_SKEW.skew j))
    let fine := s.fineTime j tick b skew
    let t := s.edgeStamp j tick b skew
    let e := s.f (TIU_EV_CTL.edges j)
    if s.flag (TIU_EV_STATUS.stuck j) then
      let s := s.setEv j { s.evOf j with marked := true }
      if active then s else (s.set (TIU_EV_STATUS.stuck j) 0).condStuck 0 (s.condsOfInput (16 + j))
    else if !((e == 0 && active) || (e == 1 && !active) || decide (2 ≤ e)) then s
    else if crowds (s.evOf j).last raw.bins (s.f (TIU_EV_CTL.holdoff j)) then
      (((s.setEv j { s.evOf j with marked := true }).bump (TIU_EV_STATUS.crowded j)).inputEvents (16 + j) 3).raise 872
    else
      let bad := (s.evOf j).lostBefore || (s.evOf j).marked
      let s := s.setEv j { s.evOf j with last := some raw, marked := false }
      let s := s.evStore j active fine
      let s := s.statFeed j fine bad
      s.inputEdge (16 + j) active t

/-- A read of TIU_EV_FIFO[j]: word 0 pops the record and latches words 1 to 3 for the port (R482). -/
def evPop (s : State) (p : Port) (j w : Nat) : State :=
  let k := 16 * p.idx + j
  if w = 0 then
    let x := s.evOf j
    let ws : List Word := match x.fifo with
      | [] => [0, 0, 0, 0]
      | r :: _ => [BitVec.ofNat 32 r.tick, BitVec.ofNat 32 (r.tick / 2 ^ 32), BitVec.ofNat 32 r.word2, BitVec.ofNat 32 r.number]
    let s := s.setEv j { x with fifo := x.fifo.drop 1 }
    { s with tiu := { s.tiu with evLatch := s.tiu.evLatch.put [] k (ws.drop 1) } }.complete (.words (ws.take 1))
  else s.complete (.words [(Tab.get [] s.tiu.evLatch k).getD (w - 1) 0])

/-! ### Calibration of the interpolators (R480) -/

/-- Hits of a calibration; a check of a retained table takes 2^16 (R589). -/
def cdcHits (s : State) (why : CdcWhy) : Nat :=
  match why with
  | .check => 2 ^ 16
  | _ => 2 ^ max 16 (min 24 (s.f TIU_CDC_CTL.hits_log2))

/-- A calibration begins at an interpolator. -/
def cdcStart (s : State) (i : Nat) (why : CdcWhy) : State :=
  { s with tiu := { s.tiu with cdc := some (i, why) } }.set TIU_CDC_STATUS.running 1

/-- A write to TIU_CDC_CTL. -/
def cdcCtlWrite (s : State) (v : Nat) : State :=
  let s := (s.set TIU_CDC_CTL.hits_log2 (bits v 8 5)).set TIU_CDC_CTL.interp (bits v 0 5)
  if bit v 31 && !s.flag TIU_CDC_STATUS.running then
    (if bits v 0 5 < 24 then s.cdcStart (bits v 0 5) .one else s.cdcStart 0 .all)
  else s

/-- The widths of a row are written, from bin `b` on. -/
def cdcRow (s : State) (i : Nat) : Nat → List Nat → State
  | _, [] => s
  | b, w :: ws => (s.set (TIU_CDC_TABLE.width i b) w).cdcRow i (b + 1) ws

/-- The calibration of an interpolator has counted its hits (R480). -/
def cdcEnd (s : State) (i : Nat) (why : CdcWhy) (hits : List Nat) : State :=
  let h := s.cdcHits why
  let counts := (List.range 64).map fun b => hits.getD b 0
  let bad := counts.any fun c => c == 0 || decide (4 * h < 64 * c)
  let ws := counts.map fun c => roundEvenNat (65536 * c) h
  let sum : Nat := ws.foldl (· + ·) 0
  let s := if why = .check then s else s.set TIU_CDC_STATUS.last i
  let s := if why = .check then s else if bad then (s.set TIU_CDC_STATUS.fail 1).raise 878
    else (s.cdcRow i 0 (correctLargest ws (65536 - (sum : Int)))).raise 877
  if why = .check ∧ bad then { s with tiu := { s.tiu with cdc := some (i, .again) } }
  else if why ≠ .one ∧ i < 23 then { s with tiu := { s.tiu with cdc := some (i + 1, if why = .again then .check else why) } }
  else
    let s := { s with tiu := { s.tiu with cdc := none } }.set TIU_CDC_STATUS.running 0
    if why = .one then s else s.set GLB_START.cdc_ready 1

/-! ### Frequency inputs (R483, R484) -/

/-- A frequency input. -/
def finOf (s : State) (k : Nat) : FinSt := s.tiu.fins.get FinSt.reset k

/-- The state with a frequency input changed. -/
def setFin (s : State) (k : Nat) (x : FinSt) : State := { s with tiu := { s.tiu with fins := s.tiu.fins.put FinSt.reset k x } }

/-- A prescaled edge of FIN_k at a raw bin of a tick; `over` when the rate detector finds more than 200 MHz. -/
def finEdge (s : State) (k : Nat) (tick b : Nat) (isOver : Bool) : State :=
  if !s.flag (TIU_FIN_CTL.en k) then s
  else
    let t := s.fineTime (16 + k) tick b 0
    let x := s.finOf k
    let s := s.setFin k { x with first := if x.edges = 0 then t else x.first, last := t, edges := x.edges + 1, ovs := x.ovs || isOver,
                                 told := x.told || isOver }
    let s := if isOver then s.set (TIU_FIN_STATUS.overspeed k) 1 else s
    let s := if isOver && !x.told then s.raise 874 else s
    s.statFeed (16 + k) t false

/-- A write to TIU_FIN_CTL: an input that is enabled begins a gate (R483). -/
def finCtlWrite (s : State) (k v : Nat) : State :=
  let was := s.flag (TIU_FIN_CTL.en k)
  let s := s.plainWrite (TIU_FIN_CTL.reg k).addr v
  if bit v 31 && !was then s.setFin k { FinSt.reset with presc := bits v 16 2, since := s.time.clk } else s

/-- The gate of FIN_k has lasted gate_ms (R483). -/
def finGateOver (s : State) (k : Nat) : Bool :=
  decide ((s.finOf k).since + 2560000 * max 1 (s.f (TIU_FIN_CTL.gate_ms k)) ≤ s.time.clk)

/-- The frequency of a gate in mHz (R483). -/
def finFreq (x : FinSt) : Nat :=
  if x.edges < 2 then 0
  else roundEvenNat (4 ^ x.presc * (x.edges - 1) * 65536 * 2560000000 * 1000) (max 1 (x.last - x.first))

/-- The gate of FIN_k ends. -/
def finGate (s : State) (k : Nat) : State :=
  let x := s.finOf k
  let f := finFreq x
  let s := (s.set (TIU_FIN_FREQ.reg k) f).addWrap (TIU_FIN_STATUS.count k) 1
  let s := s.set (TIU_FIN_STATUS.valid k) (b2n (decide (2 ≤ x.edges) && !x.ovs))
  let s := if x.ovs then s else s.set (TIU_FIN_STATUS.overspeed k) 0
  let s := s.setFin k { FinSt.reset with presc := s.f (TIU_FIN_CTL.presc k), since := s.time.clk }
  let s := [0, 1, 2, 3].foldl (fun s e =>
    if s.flag (TIU_STAT_STATUS.running e) && s.f (TIU_STAT_CTL.mode e) == 2 && s.f (TIU_STAT_CTL.a e) == k then
      s.statTake e (f : Int) x.ovs else s) s
  s.raise 875

/-! ### Statistics (R485) -/

/-- A write to TIU_STAT_CTL. -/
def statCtlWrite (s : State) (e v : Nat) : State :=
  let s := ((s.set (TIU_STAT_CTL.mode e) (bits v 16 2)).set (TIU_STAT_CTL.b e) (bits v 8 5)).set (TIU_STAT_CTL.a e) (bits v 0 5)
  if bit v 31 then
    let s := { s with tiu := { s.tiu with stats := s.tiu.stats.put StatSt.reset e StatSt.reset } }
    (s.set (TIU_STAT_STATUS.done e) 0).set (TIU_STAT_STATUS.running e) 1
  else s

/-- A statistics engine has its N measurements. -/
def statEnd (s : State) (e : Nat) : State :=
  let x := s.tiu.stats.get StatSt.reset e
  let n := x.n
  let sd := rootOver (n * x.sumSq - (x.sum * x.sum).toNat) n
  let s := s.set (TIU_STAT_MEAN.reg e) (unsigned 64 (roundEven x.sum n))
  let s := (s.set (TIU_STAT_MIN.reg e) (unsigned 64 x.low)).set (TIU_STAT_MAX.reg e) (unsigned 64 x.high)
  let s := s.set (TIU_STAT_SD.reg e) (min (2 ^ 32 - 1) sd)
  ((s.set (TIU_STAT_STATUS.done e) 1).set (TIU_STAT_STATUS.running e) 0).raise 876

/-! ### Canary sweeps (R153 to R155, R486, R487, R542) -/

/-- The edges of a canary have all returned within 256 ticks (R486). -/
def canaryBack (c : CanaryTime) : Bool := decide (c.delays.length = 64) && c.delays.all fun d => decide (d ≤ 256 * 64)

/-- The rate of a unit in Mop/s: its factory constant by its mean delay (R486). -/
def canaryRate (unit : Nat) (c : CanaryTime) : Nat :=
  if canaryBack c then min 65535 (Config.canaryConst unit * 64 / max 1 (c.delays.foldl (· + ·) 0)) else 0

/-- The rate of a unit derated to 150 °C (R113, R486). -/
def canaryFloor (unit : Nat) (c : CanaryTime) : Nat :=
  if canaryBack c then min 65535 (Config.derate unit (canaryRate unit c) c.tj) else 0

/-- The factory floor rate of a unit at the present VCORE (R542). -/
def factoryRef (s : State) (unit : Nat) : Nat := Config.factoryFloor unit (s.f GLB_CAP_STATUS.vcore_mv)

/-- A unit's slowdown from its reference has reached `num` thirds of `pct` percent (R542). -/
def slowBy (floor ref pct num : Nat) : Bool := ref != 0 && decide (pct * num * ref ≤ 300 * (ref - floor))

/-- The slowdown of a unit in thousandths. -/
def slowDetail (floor ref : Nat) : Nat := 1000 * (ref - floor) / max 1 ref

/-- The slowdown that marks a unit, in percent. -/
def wearPct (s : State) : Nat := max 5 (min 50 (s.f WEAR_CTL.tile_pct))

/-- Consecutive slow sweeps that mark a unit. -/
def slowLimit (s : State) : Nat := max 1 (s.f WEAR_CTL.tile_sweeps)

/-- The result of a sweep for one tile. -/
def canaryTile (s : State) (t : Nat) (c : CanaryTime) : State :=
  let floor := canaryFloor t c
  let ref := s.factoryRef t
  let s := (s.set (FAB_TILE_RATE.rate_mops t) (canaryRate t c)).set (FAB_TILE_RATE.floor_mops t) floor
  if !canaryBack c then (s.raise (960 + t)).markTile t 0x4 0
  else
    let pct := s.wearPct
    let n := if slowBy floor ref pct 3 then (s.tile t).slowSweeps + 1 else 0
    let s := s.setTile t { s.tile t with slowSweeps := n }
    let w := WEAR_TILE_WARN.reg (t / 32)
    let s := if slowBy floor ref pct 2 then s.set w (setBit (s.f w) (t % 32)) else s
    if s.slowLimit ≤ n then s.markTile t 0x1 (slowDetail floor ref) else s

/-- The results of a sweep for tiles, from `t` on. -/
def canaryTiles (s : State) : Nat → List CanaryTime → State
  | _, [] => s
  | t, c :: cs => (s.canaryTile t c).canaryTiles (t + 1) cs

/-- A kernel processor is marked, once (R541, R543). -/
def kpSlowMark (s : State) (k detail : Nat) : State :=
  let w := WEAR_KP_MARK.word (k / 32)
  if bit (s.f w) (k % 32) then s else (s.set w (setBit (s.f w) (k % 32))).marked 0x03 0x1 k detail

/-- The result of a sweep for one kernel processor (R541). -/
def canaryKp (s : State) (k : Nat) (c : CanaryTime) : State :=
  let floor := canaryFloor (1088 + k) c
  let ref := s.factoryRef (1088 + k)
  let n := if slowBy floor ref s.wearPct 3 then Tab.get 0 s.wear.kpSlow k + 1 else 0
  let s := { s with wear := { s.wear with kpSlow := s.wear.kpSlow.put 0 k n } }
  if s.slowLimit ≤ n then s.kpSlowMark k (slowDetail floor ref) else s

/-- The results of a sweep for kernel processors, from `k` on. -/
def canaryKps (s : State) : Nat → List CanaryTime → State
  | _, [] => s
  | k, c :: cs => (s.canaryKp k c).canaryKps (k + 1) cs

/-- The lost bits of admitted paths after a sweep (R155). -/
def lostShow (s : State) : List (Nat × PathImg) → State
  | [] => s
  | (p, g) :: rest =>
    let short := decide (capScale (s.capacity (s.pairTiles p)) < required g.demand (s.pathFs24 p))
    let was := bit (s.f GLB_CAP_STATUS.lost) p
    let s := if short && !was && decide (850 ≤ s.f GLB_CAP_STATUS.vcore_mv) then
        (s.set GLB_CAP_STATUS.lost (setBit (s.f GLB_CAP_STATUS.lost) p)).raise 36
      else if !short && was then s.set GLB_CAP_STATUS.lost (clearBit (s.f GLB_CAP_STATUS.lost) p)
      else s
    s.lostShow rest

/-- Headroom after a sweep, and the voltage requests that follow (R153, R154). -/
def headroomShow (s : State) : State :=
  let paths := s.checkedPaths
  let h := (paths.map fun e => s.headroomOf e.1 e.2).foldl min 255
  let s := s.set GLB_CAP_STATUS.headroom h
  let above := decide (s.f GLB_CAP_CTL.margin_high < h)
  let n := if above then s.fab.aboveHigh + 1 else 0
  let s := { s with fab := { s.fab with aboveHigh := n } }
  if !s.flag GLB_CAP_CTL.avs_auto then s
  else if h < s.f GLB_CAP_CTL.margin_low ∧ !paths.isEmpty then s.avsRaise 10
  else if 3 ≤ n then { s with fab := { s.fab with aboveHigh := 0 } }.avsLower 5
  else s

/-- A sweep starts (R487), a periodic one or one that was asked for; the one that is to follow a VCORE step does so once the
step has been made (R114). -/
def canaryStart (s : State) (periodic : Bool) : State :=
  { s with tiu := { s.tiu with sweeping := some s.time.tick.toNat
                               sweepDue := if periodic then s.time.clk + 2560000 * max 1 (s.f GLB_CAP_CTL.sweep_ms) else s.tiu.sweepDue
                               sweepAfterStep := s.tiu.sweepAfterStep && s.flag GLB_AVS_STATUS.busy } }

/-- A sweep completes (R487): every canary's result, then the figures that rest on them. -/
def canaryEnd (s : State) (start : Nat) (tiles kps : List CanaryTime) : State :=
  let s := { s with tiu := { s.tiu with sweeping := none, sweepAsked := false }
                    load := { s.load with awaiting := s.load.awaiting && s.tiu.sweepAfterStep }
                    fab := { s.fab with sweepTick := start + 1 } }
  let s := s.set TIU_CAN_LAST.reg start
  let s := (s.canaryTiles 0 (tiles.take 1088)).canaryKps 0 (kps.take 68)
  let s := (s.lostShow s.checkedPaths).headroomShow
  (s.fabricTouch).raise 879

end State

/-! ### Meanings -/

/-- TIU_TIME_ARM (R476): a write of TIU_TIME_CTL with arm set. -/
def execTiuTimeArm (p : Port) (v : Word) (s : State) : Res :=
  .next (s.hubWrite p TIU_TIME_CTL.reg.addr (some 11) fun s => s.timeCtlWrite (v.toNat ||| 1))

/-- EV_EDGE (R481, R482): an edge of EV_j at a raw bin of a tick, to a high or low level; where FABRIC is not up it only leaves
the pin at its level. -/
def execEvEdge (j : Fin 16) (high : Bool) (tick : Nat) (bin : Fin 64) (s : State) : Res :=
  if s.up .fabric then .next (s.evEdge j high tick bin) else .next (s.setEv j { s.evOf j with pin := high })

/-- EV_STUCK (R345, R481): EV_j has stayed at its active level for longer than stuck_us. -/
def execEvStuck (j : Fin 16) (s : State) : Res :=
  if s.up .fabric && s.flag (TIU_EV_CTL.en j) && s.flag (TIU_EV_STATUS.level j) && !s.flag (TIU_EV_STATUS.stuck j) &&
      State.stuckOver (s.evOf j).activeAt s.time.clk (s.f (TIU_EV_STUCK.stuck_us j)) then
    .next ((((s.set (TIU_EV_STATUS.stuck j) 1).inputEvents (16 + j) 2).condStuck 1 (s.condsOfInput (16 + j))).raise 873)
  else .next s

/-- TIU_EV_FIFO_POP (R482): a read of a word of TIU_EV_FIFO[j]. -/
def execTiuEvFifoPop (p : Port) (j : Fin 16) (w : Fin 4) (s : State) : Res :=
  if s.reachable (TIU_EV_FIFO.word j w).addr then .next (s.evPop p j w) else .next (s.complete (.words [0]))

/-- TIU_CDC_GO (R480): a write of TIU_CDC_CTL with go set. -/
def execTiuCdcGo (p : Port) (v : Word) (s : State) : Res :=
  .next (s.hubWrite p TIU_CDC_CTL.reg.addr none fun s => s.cdcCtlWrite (v.toNat ||| 2 ^ 31))

/-- TIU_CDC_DONE (R480): the hits of the interpolator under calibration, bin by bin. -/
def execTiuCdcDone (hits : List Nat) (s : State) : Res :=
  match s.tiu.cdc with
  | none => .next s
  | some c => if s.up .fabric then .next (s.cdcEnd c.1 c.2 hits) else .next s

/-- FIN_EDGE (R483, R484). -/
def execFinEdge (k : Fin 2) (tick : Nat) (bin : Fin 64) (overRate : Bool) (s : State) : Res :=
  if s.up .fabric then .next (s.finEdge k tick bin overRate) else .next s

/-- TIU_FIN_GATE (R483, R484): gate_ms have passed. -/
def execTiuFinGate (k : Fin 2) (s : State) : Res :=
  if s.up .fabric && s.flag (TIU_FIN_CTL.en k) && s.finGateOver k then .next (s.finGate k) else .next s

/-- TIU_STAT_GO (R485): a write of TIU_STAT_CTL with go set. -/
def execTiuStatGo (p : Port) (s_ : Fin 4) (v : Word) (s : State) : Res :=
  .next (s.hubWrite p (TIU_STAT_CTL.reg s_).addr none fun s => s.statCtlWrite s_ (v.toNat ||| 2 ^ 31))

/-- TIU_STAT_DONE (R485): the engine writes its results once N measurements are there. -/
def execTiuStatDone (s_ : Fin 4) (s : State) : Res :=
  if s.up .fabric && s.flag (TIU_STAT_STATUS.running s_) && decide (s.statN s_ ≤ (s.tiu.stats.get StatSt.reset s_).n) then .next (s.statEnd s_)
  else .next s

/-- CANARY_SWEEP_START (R487): a periodic sweep, or one that was asked for; none while a sweep runs. -/
def execCanarySweepStart (periodic : Bool) (s : State) : Res :=
  let due := periodic && decide (s.tiu.sweepDue ≤ s.time.clk)
  if s.up .fabric && s.tiu.sweeping.isNone && (due || s.tiu.sweepAsked || (s.tiu.sweepAfterStep && !s.flag GLB_AVS_STATUS.busy)) then
    .next (s.canaryStart due)
  else .next s

/-- CANARY_SWEEP_DONE (R486, R487, R153 to R155, R542); the first sweep ends step 7 of start-up (R569). -/
def execCanarySweepDone (tiles kps : List CanaryTime) (s : State) : Res :=
  match s.tiu.sweeping with
  | none => .next s
  | some t => if s.up .fabric then .next (s.canaryEnd t tiles kps).firstSweep else .next s

end Sys2Proof.Machine
end

