-- ==== Sys2Proof/Machine/EnsOps.lean ====
section
/-! DEFINITION. What a member of an ensemble does of its own: tokens and their bytes, being in and out, time faults, its
SYNC_IN stamp (18_ensemble.md). -/

namespace Sys2Proof.Machine

/-- Bytes 0 to 43 of a token (R525). -/
def EnsToken.head (x : EnsToken) : List Byte :=
  leBytes 1 x.type_ ++ leBytes 1 x.origin ++ leBytes 2 x.seq ++ leBytes 2 x.ack ++ leBytes 2 0 ++ leBytes 8 x.tick ++
    (x.payload ++ List.replicate (28 - x.payload.length) 0)

/-- The 48 bytes of a token, with its check value (R525). -/
def EnsToken.bytes (x : EnsToken) : List Byte := x.head ++ leBytes 4 (crc32c x.head).toNat

/-- The token that 48 bytes are, where their check value is right (R525). -/
def EnsToken.ofBytes (b : List Byte) : Option EnsToken :=
  if b.length = 48 ∧ field b 44 4 = (crc32c (b.take 44)).toNat then
    some { type_ := field b 0 1, origin := field b 1 1, seq := field b 2 2, ack := field b 4 2, tick := field b 8 8,
           payload := (b.drop 16).take 28 }
  else none

namespace State

/-- The role in force: 0 standalone, 1 leader, 2 follower (R522). -/
def ensRole (s : State) : Nat := s.f ENS_CTL.role % 3

/-- The engine is a member that works: membership on, HOST up, in RUN (R524, R538). -/
def ensOn (s : State) : Bool := s.flag ENS_CTL.en && s.up .host && s.f PWR_STATE.state == 0 && s.ensRole != 0

/-- The engine leads. -/
def ensLeads (s : State) : Bool := s.ensOn && s.ensRole == 1

/-- The engine follows. -/
def ensFollows (s : State) : Bool := s.ensOn && s.ensRole == 2

/-- The ensemble unit changed. -/
def setEns (s : State) (x : EnsSt) : State := { s with ens := x }

/-- ENS_STATUS.in shows whether the member is in (R531). -/
def ensShow (s : State) : State :=
  s.set ENS_STATUS.in_ (b2n (s.flag ENS_CTL.en && s.flag ENS_STATUS.joined && !s.flag ENS_STATUS.held &&
    !s.flag ENS_STATUS.lagging && !s.flag ENS_STATUS.excluded && !s.ens.out))

/-- A token goes out on a ring. -/
def ensPut (s : State) (ring : Nat) (x : EnsToken) : State := s.emit (.ringToken ring x.bytes)

/-- The ring in use. -/
def ensRing (s : State) : Nat := s.f ENS_STATUS.on_ring1

/-- The leader sends a token of a type, with the next sequence number (R525, R526). -/
def ensSend (s : State) (type_ ack tick : Nat) (payload : List Byte) : State :=
  let x : EnsToken := { type_ := type_, origin := s.f ENS_CTL.id, seq := s.ens.txSeq, ack := ack, tick := tick, payload := payload }
  (s.setEns { s.ens with txSeq := (s.ens.txSeq + 1) % 65536, sent := (x :: s.ens.sent).take 16, sentAt := s.time.clk }).ensPut s.ensRing x

/-- The fingerprint of the member: 24 bytes (R527). -/
def fingerprint (s : State) : List Byte :=
  leBytes 8 (s.f IMG_DIGEST.reg) ++ leBytes 4 (s.f STRM_EPOCH_SEC.reg) ++ leBytes 4 (s.f CAL_GEN.reg) ++
    leBytes 2 (s.f GLB_MODE.reg % 65536) ++ leBytes 1 (bits (s.f GLB_ID.reg) 4 8) ++ leBytes 1 (s.f ENS_STATUS.time_fault) ++
    leBytes 4 0

/-- Regions of a list are armed or disarmed from the first sample at or after a tick (R531). -/
def ensRgns (s : State) (on : Bool) (tick : Nat) (rs : List Nat) : State :=
  rs.foldl (fun s r =>
    let ix := s.indexAfter (s.f (TRG_RGN_CTL.path r)) (64 * tick)
    if on then s.rgnArm r ix else s.rgnDisarm r ix) s

/-- Scoped regions and conditions are disarmed at the next sample, and tokens that wait are forgotten (R529, R533). -/
def ensDisarm (s : State) : State :=
  let s := s.ensRgns false s.now.tick (bitList 64 (s.f ENS_SCOPE_RGN.reg))
  let s := s.condsArm false s.now (bitList 64 (s.f ENS_SCOPE_COND.reg))
  s.setEns { s.ens with applies := [], out := true }

/-- The member becomes lagging (R526, R533, R538). -/
def ensLag (s : State) : State :=
  if !s.flag ENS_CTL.en ∨ s.flag ENS_STATUS.lagging then s
  else (((s.ensDisarm).set ENS_STATUS.lagging 1).raise 893).ensShow

/-- The member's time is at fault; with tf_exclude it is excluded (R536, R537). -/
def ensFault (s : State) : State :=
  let s := (s.set ENS_STATUS.time_fault 1).raise 894
  if s.flag ENS_POLICY.tf_exclude && !s.flag ENS_STATUS.excluded then ((s.ensDisarm).set ENS_STATUS.excluded 1).ensShow
  else s.ensShow

/-- The engine has stepped its own time (R537). -/
def ensStepped (s : State) : State :=
  if !s.flag ENS_CTL.en then s
  else if s.ensRole = 1 then s.setEns { s.ens with stepped := true }
  else if s.ensRole = 2 ∧ s.flag ENS_STATUS.joined then (s.set ENS_STATUS.joined 0).ensFault
  else s

/-- The member's SYNC_IN edge at a fine time: stamped, and on the leader the TIME token follows (R534 steps 4 and 5). -/
def ensEdge (s : State) (fine : Nat) : State :=
  if !s.ensOn then s
  else
    let e : Int := (fine : Int) - signed 32 (s.f ENS_SYNC_DLY.reg)
    if s.ensRole = 1 then
      if s.ens.stage = 2 then
        let t := e.toNat
        let s := s.setEns { s.ens with stage := 3, out := false, rejoin := s.ens.out }
        let s := ((s.set ENS_STATUS.joined 1).set ENS_STATUS.lagging 0).ensShow
        s.ensSend 6 0 (t / 65536 % 2 ^ 64) (leBytes 2 (t % 65536) ++ leBytes 2 0 ++ leBytes 4 (s.f ENS_SYNC_NUM.reg + 1))
      else s
    else s.setEns { s.ens with edge := some e }

end State

end Sys2Proof.Machine
end

