-- ==== Sys2Proof/Machine/Clocks.lean ====
section
/-! DEFINITION. The reference, PPS_IN, the sample PLL and the utility PLL, CLKOUT and SYNC (06_sample_clocks.md), with the
setting and stepping of engine time (R476 to R478). -/

namespace Sys2Proof.Machine

/-- Phase bins in a second of engine time (R16). -/
def secondBins : Nat := 64 * 2560000000

/-- The code of a frequency of REFIN (R228). -/
def refCode (mhz100 : Bool) : Nat := if mhz100 then 2 else 1

namespace State

/-! ### The utility PLL and the reference (R205, R206, R222, R223) -/

/-- PPS_IN counts as absent (R223). -/
def ppsAbsent (s : State) : Bool := !s.clocks.ppsSeen || decide (3 ≤ s.clocks.ppsMissRun)

/-- The utility PLL goes into holdover (R205, R222): PCLK is held at 480 MHz (R152). -/
def upllLose (s : State) : State :=
  if s.clocks.upllOut then s.set UPLL_STATUS.slewing 0
  else
    let s := { s with clocks := { s.clocks with upllOut := true, stepDone := false, stepDue := true } }
    let s := ((s.set UPLL_STATUS.locked 0).set UPLL_STATUS.holdover 1).addWrap UPLL_STATUS.holdovers 1
    let s := ((s.raise 67).set GLB_PCLK.uplk_hold 1).fabricTouch
    if s.f GLB_PCLK.step < 3 then
      let s := s.pclkTo 3
      if s.flag GLB_CAP_CTL.avs_auto then s.avsRaise 10 else s
    else s

/-- TIME_HOLDOVER ends at relock, unless it waits for the step of a counted edge (R223). -/
def holdoverEnd (s : State) : State :=
  if s.clocks.stepDone || !s.flag UPLL_CTL.step_on_pps || s.ppsAbsent then s.set UPLL_STATUS.holdover 0 else s

/-- The utility PLL declares lock (R222, R223). -/
def upllLock (s : State) : State :=
  let s := { s with clocks := { s.clocks with upllOut := false } }
  let s := (((s.set UPLL_STATUS.locked 1).set UPLL_STATUS.slewing 0).set GLB_PCLK.uplk_hold 0).fabricTouch
  (s.raise 68).holdoverEnd

/-- REF_CTL.freq takes REFIN at a frequency (R204). -/
def refTakes (s : State) (code : Nat) : Bool :=
  let want := s.f REF_CTL.freq
  want == 0 || want == 3 || want == code

/-- REFIN has been found at a frequency (R204). -/
def refFound (s : State) (mhz100 : Bool) : State :=
  let s := { s with clocks := { s.clocks with refin := refCode mhz100 } }
  (s.set REF_STATUS.present 1).set REF_STATUS.detected (refCode mhz100)

/-- The reference is lost (R205). REF_STATUS.detected keeps the last code (DESIGN CHOICE, log entry 28). -/
def refLose (s : State) : State :=
  let s := ((s.set REF_STATUS.lost 1).set REF_STATUS.present 0).raise 69
  if s.time.running then s.upllLose else s

/-- A write to REF_CTL: a change of the frequency acts as a loss that returns at once (R206). -/
def refCtlWrite (s : State) (v : Nat) : State :=
  let old := s.f REF_CTL.freq
  let was := s.f REF_STATUS.present
  let s := s.set REF_CTL.freq (v % 4)
  if v % 4 = old then s
  else
    let s := (s.refLose).set REF_STATUS.present was
    let s := s.set REF_STATUS.detected (if v % 4 = 1 ∨ v % 4 = 2 then v % 4 else s.clocks.refin)
    if was = 1 then s.set UPLL_STATUS.slewing 1 else s

/-! ### PPS_IN (R207, R477) and moves of engine time (R476, R478) -/

/-- Engine time moves by a number of phase bins. -/
def moveTime (s : State) (d : Int) : State :=
  let t := unsigned 70 ((s.now.bins : Int) + d)
  let mark := fun (s : State) (j : Nat) => s.setEv j { s.evOf j with stepped := true }
  let s := { s with time := { s.time with tick := BitVec.ofNat 64 (t / 64), phase := BitVec.ofNat 6 (t % 64) } }
  (List.range 16).foldl mark s

/-- Engine time moves so that an edge stamped at `at_` phase bins reads a tick: recorded as a step, and it ends a
holdover that waits for one; a member of an ensemble takes note (R223, R476, R478, R537). -/
def stepTo (s : State) (at_ tick event : Nat) : State :=
  let d : Int := 64 * (tick : Int) - (at_ : Int)
  let s := s.moveTime d
  let s := (s.set UPLL_STEP.reg (unsigned 64 d)).set UPLL_STEP_AT.reg tick
  let s := { s with clocks := { s.clocks with ppsLast := some ⟨tick, 0⟩, stepDone := true, stepDue := false } }
  let s := if s.clocks.upllOut then s else s.set UPLL_STATUS.holdover 0
  (s.raise event).ensStepped

/-- An edge of PPS_IN falls within a window (R207). -/
def ppsInWindow (s : State) (t : Nat) : Bool :=
  match s.clocks.ppsLast with
  | none => true
  | some l =>
    let d := t - l.bins
    let k := (d + secondBins / 2) / secondBins
    let off := if k * secondBins ≤ d then d - k * secondBins else k * secondBins - d
    decide (l.bins ≤ t ∧ 1 ≤ k ∧ 25 * off ≤ 4096 * max 1 (s.f PPS_CTL.window_ns))

/-- A counted edge of PPS_IN, at a fine time and a stamp of `t` phase bins (R207, R223, R476 to R478). With
step_on_pps at 0 the step stays due (DESIGN CHOICE, log entry 29). -/
def ppsCount (s : State) (fine t : Nat) : State :=
  let base := s.tiu.base.getD (roundEvenNat fine 65536)
  let secs := roundEven ((fine : Int) - 65536 * (base : Int)) (65536 * 2560000000)
  let defined : Int := (base : Int) + 2560000000 * secs
  let s := { s with tiu := { s.tiu with base := some base } }
  let s := { s with clocks := { s.clocks with ppsLast := some (Stamp.ofBins t), ppsMissRun := 0, ppsWindows := 0, ppsFree := false, ppsSeen := true } }
  let s := (s.set TIU_PPS_ERR.reg (unsigned 32 ((fine : Int) - 65536 * defined))).set TIU_PPS_LAST.reg (fine / 65536)
  if s.flag TIU_TIME_CTL.armed then
    let v := s.f TIU_TIME_SET.reg
    let s := { s with tiu := { s.tiu with base := some v } }
    ((s.set TIU_TIME_CTL.armed 0).set TIU_TIME_CTL.set_done 1).stepTo t v 880
  else if s.clocks.stepDue && s.flag UPLL_CTL.step_on_pps then s.stepTo t defined.toNat 70
  else s

/-! ### The sample PLL (R208 to R213, R221) -/

/-- An input samples. -/
def sampling (s : State) (n : Nat) : Bool := s.pathPresent n && s.f (CNV_STATUS.state n) == 2

/-- CLK_INVALID begins on an input at its next sample (R211, R218). -/
def clkMark (s : State) (n : Nat) : State :=
  let t := s.set (CNV_STATUS.clk_invalid n) 1
  if n = 0 ∧ !s.flag (CNV_STATUS.clk_invalid n) then t.set SPLL_TRIP_INDEX.reg (s.f (GLB_SEQ.reg 0)) else t

/-- The sample PLL loses lock: CLK_INVALID begins on the inputs of a list that sample or are gated, until relock, and their
carousels freeze (R183, R211). -/
def clkLose (s : State) : List Nat → State
  | [] => s
  | n :: ns =>
    if !s.pathPresent n || s.f (CNV_STATUS.state n) == 0 || (s.conv n).lockWait then s.clkLose ns
    else
      let s := (s.clkMark n).set (CNV_STATUS.settling n) 0
      (s.setConv n { s.conv n with carHeld := true, recStops := 0, recWait := false, clkLeft := none, clkRec := true }).clkLose ns

/-- A SYNC edge moves the sampling grid: the blocks of the inputs of a list carry CLK_INVALID to the end of the next whole
block, and longer where a loss of lock says so (R218). -/
def clkSlip (s : State) : List Nat → State
  | [] => s
  | n :: ns =>
    if !s.sampling n then s.clkSlip ns
    else
      let x := s.conv n
      let left := if s.flag (CNV_STATUS.clk_invalid n) then x.clkLeft.map (max 2) else some 2
      ((s.clkMark n).setConv n { x with clkLeft := left, clkSync := 2 }).clkSlip ns

/-! ### CLKOUT (R215 to R217) -/

/-- What a CLKOUT output's source advances in one tick, in 2^-28 of its cycles: the sample PLL runs at fVCO, the utility PLL
at three cycles a tick; a source that is stopped advances nothing (R208, R215). -/
def clkoutRate (s : State) (k : Nat) : Nat :=
  if s.f (CLKOUT_CTL.src k) = 1 then if s.time.running then 3 * 2 ^ 28 else 0
  else if s.flag SPLL_STATUS.locked || s.flag SPLL_STATUS.acquiring then s.f SPLL_DIV.reg else 0

/-- The divider that is written: values below 8 act as 8 (R227). -/
def clkoutDiv (s : State) (k : Nat) : Nat := max 8 (s.f (CLKOUT_CTL.div k))

/-- The delay that is written, in 2^-28 cycles of the source: coarse cycles up to the divider less one, and fine ps; a tick is
100,000/256 ps (R215, R227). -/
def clkoutDelay (s : State) (k : Nat) : Nat :=
  2 ^ 28 * min (s.f (CLKOUT_DLY.coarse k)) (s.clkoutDiv k - 1) + s.f (CLKOUT_DLY.fine k) * s.clkoutRate k * 256 / 100000

/-- A CLKOUT output. -/
def clkout (s : State) (k : Nat) : ClkOut := if k = 0 then s.clocks.clkout0 else s.clocks.clkout1

/-- The state with a CLKOUT output changed. -/
def setClkout (s : State) (k : Nat) (x : ClkOut) : State :=
  if k = 0 then { s with clocks := { s.clocks with clkout0 := x } } else { s with clocks := { s.clocks with clkout1 := x } }

/-- A rising edge of an output: the written divider and delay come into force, a change of the delay by a longer low phase
(R216). -/
def clkoutRise (s : State) (k : Nat) (x : ClkOut) : ClkOut :=
  let div := s.clkoutDiv k
  let delay := s.clkoutDelay k
  let slip := (delay + 2 ^ 28 * div - x.delay % (2 ^ 28 * div)) % (2 ^ 28 * div)
  { x with left := 2 ^ 28 * div + slip, high := 2 ^ 27 * div, div := div, delay := delay }

/-- An output after a tick (R216): at the end of its cycle it rises again, or goes to high impedance. -/
def clkoutStep (s : State) (k : Nat) : ClkOut :=
  let x := s.clkout k
  let a := s.clkoutRate k
  if !x.on then x
  else if a < x.left then { x with left := x.left - a, high := x.high - a }
  else if x.ending then { x with on := false, ending := false, left := 0, high := 0 }
  else
    let y := s.clkoutRise k x
    { y with left := y.left - (a - x.left), high := y.high - (a - x.left) }

/-- An output follows CLKOUT_CTL.en: it starts in its low phase, and it ends with its present cycle (R216). -/
def clkoutFollow (s : State) (k : Nat) : State :=
  let x := s.clkout k
  if s.flag (CLKOUT_CTL.en k) then
    if x.on then s.setClkout k { x with ending := false }
    else s.setClkout k { on := true, ending := false, left := 2 ^ 27 * s.clkoutDiv k, high := 0, div := s.clkoutDiv k,
                         delay := s.clkoutDelay k }
  else s.setClkout k { x with ending := x.on }

/-- A SYNC edge resets the divider of an output: its next rising edge comes after the delay in force (R217). -/
def clkoutSync (s : State) (k : Nat) : State :=
  let x := s.clkout k
  if !x.on then s else s.setClkout k { x with left := x.delay, high := 0 }

/-- The level of a CLKOUT pin (R216). -/
def clkoutPin (s : State) (k : Nat) : Drive :=
  let x := s.clkout k
  let held := if k = 0 then s.clocks.squelched0 else s.clocks.squelched1
  if !x.on then .hiZ else if held || x.high == 0 then .low else .high

/-- The CLKOUT outputs follow en and squelch: while squelch is 1, an output of the sample PLL is held low during its
acquisition (R216). -/
def squelchShow (s : State) : State :=
  let s := (s.clkoutFollow 0).clkoutFollow 1
  let q := fun (k : Nat) => s.flag (CLKOUT_CTL.squelch k) && s.f (CLKOUT_CTL.src k) != 1 && s.flag SPLL_STATUS.acquiring
  { s with clocks := { s.clocks with squelched0 := q 0, squelched1 := q 1 } }

/-- The reset of the selected dividers at its edge of REF160 (R217, R218). -/
def syncApply (s : State) (d : SyncDue) : State :=
  let s := { s with clocks := { s.clocks with syncDue := none } }.set SYNC_TICK.reg d.tick
  let s := if d.clkout then (s.clkoutSync 0).clkoutSync 1 else s
  if d.slips then ((s.set SYNC_STATUS.slice_stepped 1).set SPLL_STATUS.cause 4).clkSlip (List.range 4) else s

/-- A divider reset whose edge of REF160 has come by a time of the model's clock is applied (R217). -/
def syncRun (s : State) (clk : Nat) : State :=
  match s.clocks.syncDue with
  | some d => if d.clk ≤ clk then s.syncApply d else s
  | none => s

/-- The time of the model's clock at which engine time reads a tick that is to come; a tick that is past is now. -/
def clkOf (s : State) (tick : Nat) : Nat := s.time.clk + (tick - s.now.tick)

/-- A pulse on SYNC_OUT begins at a tick: four cycles of REF160, 64 ticks (R219). -/
def syncPulse (s : State) (tick : Nat) : State :=
  let past := s.clocks.syncPulses.filter fun c => decide (s.time.clk < c + 64)
  { s with clocks := { s.clocks with syncPulses := past ++ [s.clkOf tick] } }.emit (.syncOut tick)

/-- The level of the SYNC_OUT pin (R219): high impedance in modes 0x0 and 0x3; else driven, and high during a pulse. -/
def syncOutPin (s : State) : Drive :=
  if s.f SYNC_CTL.out_mode = 0 ∨ s.f SYNC_CTL.out_mode = 3 then .hiZ
  else if s.clocks.syncPulses.any fun c => decide (c ≤ s.time.clk ∧ s.time.clk < c + 64) then .high
  else .low

/-- What a tick does in the clock units: the outputs move on (R216), a divider reset that has come is applied (R217), and while
the utility PLL is out the engine begins to steer it back once its phase error lies inside the window (R222 step 3). -/
def clockTick (s : State) : State :=
  let t := ((s.setClkout 0 (s.clkoutStep 0)).setClkout 1 (s.clkoutStep 1)).syncRun (s.time.clk + 1)
  if s.clocks.upllOut && s.flag REF_STATUS.present && !s.flag UPLL_STATUS.slewing && Config.upllInside s.time.clk then
    t.set UPLL_STATUS.slewing 1
  else t

/-! ### Acquisition (R209 to R213) -/

/-- The sample PLL runs: it is locked or acquires. -/
def spllOn (s : State) : Bool := s.flag SPLL_STATUS.locked || s.flag SPLL_STATUS.acquiring

/-- The starting band of an acquisition: that of the hop-table entry, or the band last stored for the present divider
(R212, R213). -/
def bandFor (s : State) (entry : Option Nat) : Option Nat :=
  match entry with
  | some e => some (s.f (SPLL_HOP_BAND.band e))
  | none =>
    let b := s.clocks.bands.get 0 (s.f SPLL_DIV.reg)
    if b = 0 then none else some (b - 1)

/-- An acquisition that is no loss of lock begins, at start-up or at the exit from SLEEP (R211). -/
def spllBegin (s : State) : State :=
  { s with clocks := { s.clocks with hopEntry := none, startBand := s.bandFor none } }.set SPLL_STATUS.acquiring 1 |>.squelchShow

/-- Step 1 of R211: a loss of lock with its cause. -/
def spllRestart (s : State) (cause : Nat) (entry : Option Nat) : State :=
  if !s.spllOn then s
  else
    let s := { s with clocks := { s.clocks with hopEntry := entry, startBand := s.bandFor entry } }
    let s := ((s.set SPLL_STATUS.locked 0).set SPLL_STATUS.acquiring 1).set SPLL_STATUS.cause cause
    let s := (s.bump SPLL_UNLOCKS.reg).raise 64
    (s.clkLose (List.range 4)).squelchShow

/-- A divider value is in range (R208). -/
def divInRange (v : Nat) : Bool := decide (50 * 2 ^ 24 ≤ v % 2 ^ 31 ∧ v % 2 ^ 31 ≤ 64 * 2 ^ 24)

/-- A path would fall short at an Fs in units of 2^-24 Hz (R210). -/
def shortAt (s : State) (fs : Nat) : Bool :=
  s.checkedPaths.any fun e =>
    let rate := if s.mode e.1 == 2 then 2 * fs else fs
    !e.2.bestEffort && decide (capScale (s.capacity (s.pairTiles e.1)) < required e.2.demand rate)

/-- A divider value is refused (R208, R210). -/
def divRefused (s : State) (v : Nat) : Bool :=
  let fs := 320000000 * (v % 2 ^ 31)
  !divInRange v || (fs != s.fs24 && s.shortAt fs)

/-- A change of the divider: refused, or it restarts acquisition (R208 to R210, R213). -/
def divChange (s : State) (v cause : Nat) (entry : Option Nat) : State :=
  if s.divRefused v then (s.set SPLL_STATUS.refused 1).raise 66
  else ((s.set SPLL_DIV.reg (v % 2 ^ 31)).ratesShow (List.range 4)).spllRestart cause entry

/-- A write to SPLL_LF (R209). -/
def spllLfWrite (s : State) (v : Nat) : State := (s.set SPLL_LF.bw (v % 4)).spllRestart 1 none

/-- A write to SPLL_CTL: with hop at 1, R213. -/
def spllCtlWrite (s : State) (v : Nat) : State :=
  let s := s.set SPLL_CTL.ld_window (bits v 8 8)
  if bit v 4 then s.divChange (s.f (SPLL_HOP.reg (v % 16))) 2 (some (v % 16)) else s

/-- A write to SPLL_HOP[e]: the entry is no longer learned (R213). -/
def spllHopWrite (s : State) (e v : Nat) : State := (s.set (SPLL_HOP.reg e) v).set (SPLL_HOP_BAND.learned e) 0

/-- After lock (R182, R211 steps 5 and 6): an input that samples ends CLK_INVALID at its next block boundary, a gated one at
once; fast reconvergence follows the span, or starts where there was none. -/
def lockInputs (s : State) : List Nat → State
  | [] => s
  | n :: ns =>
    (if s.flag (CNV_STATUS.clk_invalid n) then
      if s.sampling n then s.setConv n { s.conv n with clkLeft := some (max 1 (s.conv n).clkSync) } else s.clkEnd n
     else if s.pathPresent n && s.f (CNV_STATUS.state n) != 0 then s.reconverge n else s).lockInputs ns

/-- A converter begins to sample; its path runs where it waited for that on the exit to RUN (R29). -/
def convSample (s : State) (n : Nat) : State :=
  let wait := (s.conv n).lockWait && s.f PWR_STATE.state == 0 && s.realTime n
  let s := (s.set (CNV_STATUS.state n) 2).setConv n { s.conv n with lockWait := false }
  if wait then s.runPath n true else s

/-- The converters that wait for the lock of the sample PLL begin to sample (R200, R211, R569 step 9). -/
def convBegin (s : State) : List Nat → State
  | [] => s
  | n :: ns =>
    (if s.pathPresent n && s.up .conv && (s.f (CNV_STATUS.state n) == 0 || (s.conv n).lockWait) then s.convSample n
      else s).convBegin ns

/-- The lock window in ps: 0 acts as 1 (R220, R227). -/
def lockWindow (s : State) : Nat := 5 * max 1 (s.f SPLL_CTL.ld_window)

/-- The loop locks: there is a reference, and its phase error has stayed inside the window (R211 step 5, R212). -/
def spllCanLock (s : State) (run : LockRun) : Bool := s.flag REF_STATUS.present && decide (run.error ≤ s.lockWindow)

/-- The band in which an acquisition ends: the starting band where the check finds it good, else what the binary search finds
(R211 step 3). -/
def lockBand (s : State) (run : LockRun) : Nat := if run.startOk then s.clocks.startBand.getD run.found else run.found

/-- Step 5 of R211: lock, and the band is stored for the divider and in the hop-table entry (R212, R213). -/
def spllLocked (s : State) (run : LockRun) : State :=
  let band := s.lockBand run
  let entry := s.clocks.hopEntry
  let s := s.convBegin (List.range 4)
  let s := ((s.set SPLL_STATUS.locked 1).set SPLL_STATUS.acquiring 0).set SPLL_STATUS.band band
  let s := { s with clocks := { s.clocks with hopEntry := none, startBand := none,
                                              bands := s.clocks.bands.put 0 (s.f SPLL_DIV.reg) (band + 1) } }
  let s := match entry with
    | some e => (s.set (SPLL_HOP_BAND.band e) band).set (SPLL_HOP_BAND.learned e) 1
    | none => s
  ((s.raise 65).lockInputs (List.range 4)).squelchShow

/-! ### CLKOUT and SYNC (R216 to R219) -/

/-- A write to CLKOUT_CTL[k] or CLKOUT_DLY[k]. -/
def clkoutWrite (s : State) (off v : Nat) : State := (s.plainWrite off v).squelchShow

/-- A write to SYNC_CTL. -/
def syncCtlWrite (s : State) (v : Nat) : State :=
  let s := s.plainWrite SYNC_CTL.reg.addr v
  let s := s.set SYNC_STATUS.armed (s.f SYNC_CTL.arm)
  if bit v 3 && s.f SYNC_CTL.out_mode == 2 then s.syncPulse s.now.tick else s

/-- An edge of SYNC_IN while armed: it clears arm, and the reset of the selected dividers waits for the tick of its edge of
REF160 (R217). -/
def syncTake (s : State) (applied : Nat) (moved : Bool) : State :=
  let d : SyncDue := { clk := s.clkOf applied, tick := applied, clkout := s.flag SYNC_CTL.clkout,
                       slips := s.flag SYNC_CTL.slice && moved }
  let s := (s.set SYNC_CTL.arm 0).set SYNC_STATUS.armed 0
  { s with clocks := { s.clocks with syncDue := some d } }.syncRun s.time.clk

end State

/-! ### Meanings -/

/-- REF_LOST (R205): no edge of REFIN for four periods. -/
def execRefLost (s : State) : Res :=
  if s.up .host && s.flag REF_STATUS.present then .next s.refLose else .next s

/-- REF_RETURN (R204, R206): REFIN has been there for 1 ms at a frequency that REF_CTL.freq accepts. -/
def execRefReturn (mhz100 : Bool) (s : State) : Res :=
  if s.up .host && !s.flag REF_STATUS.present && s.refTakes (refCode mhz100) then
    .next ((s.refFound mhz100).set UPLL_STATUS.slewing (b2n s.clocks.upllOut))
  else .next s

/-- REF_FREQ_WRITE (R206): a write of REF_CTL. -/
def execRefFreqWrite (p : Port) (v : Word) (s : State) : Res :=
  .next (s.hubWrite p REF_CTL.reg.addr (some 11) fun s => s.refCtlWrite v.toNat)

/-- PPS_EDGE (R207, R477): an edge of PPS_IN at a raw bin of a tick. One that is not counted still feeds the statistics engines
(DESIGN CHOICE, log entry 29). -/
def execPpsEdge (tick : Nat) (bin : Fin 64) (s : State) : Res :=
  if !s.time.running ∨ !s.up .host then .next s
  else
    let fine := s.fineTime 22 tick bin 0
    let t := (s.edgeStamp 22 tick bin 0).bins
    let s := s.statFeed 22 fine false
    if s.clocks.ppsFree || s.ppsInWindow t then .next (s.ppsCount fine t)
    else .next (s.bump PPS_STATUS.off)

/-- PPS_WINDOW_MISSED (R207, R223): a window has closed with no edge. -/
def execPpsWindowMissed (s : State) : Res :=
  if !s.time.running ∨ !s.clocks.ppsSeen ∨ s.clocks.ppsLast.isNone then .next s
  else
    let n := s.clocks.ppsMissRun + 1
    let s := { s with clocks := { s.clocks with ppsMissRun := n, ppsWindows := s.clocks.ppsWindows + 1, ppsFree := decide (3 ≤ n) } }
    let s := (s.bump PPS_STATUS.missed).raise 71
    .next (if 3 ≤ n ∧ !s.clocks.upllOut then s.set UPLL_STATUS.holdover 0 else s)

/-- SPLL_DIV_WRITE (R208 to R210). -/
def execSpllDivWrite (p : Port) (v : Word) (s : State) : Res :=
  .next (s.hubWrite p SPLL_DIV.reg.addr (some 2) fun s => s.divChange v.toNat 1 none)

/-- SPLL_LF_WRITE (R209). -/
def execSpllLfWrite (p : Port) (v : Word) (s : State) : Res :=
  .next (s.hubWrite p SPLL_LF.reg.addr (some 2) fun s => s.spllLfWrite v.toNat)

/-- SPLL_HOP (R213): a write of SPLL_CTL with hop at 1. -/
def execSpllHop (p : Port) (v : Word) (s : State) : Res :=
  .next (s.hubWrite p SPLL_CTL.reg.addr (some 2) fun s => s.spllCtlWrite (v.toNat ||| 16))

/-- SPLL_TRIP (R211, R220): the lock detector trips. -/
def execSpllTrip (s : State) : Res :=
  if s.up .conv && s.flag SPLL_STATUS.locked then .next (s.spllRestart 3 none) else .next s

/-- SPLL_LOCK (R211 step 5, R212): the loop has settled and its phase error has stayed inside the lock window; it holds at
step 2 while there is no reference. -/
def execSpllLock (run : LockRun) (s : State) : Res :=
  if s.up .conv && s.flag SPLL_STATUS.acquiring && s.spllCanLock run then .next (s.spllLocked run) else .next s

/-- CLKOUT_CTL_WRITE (R215, R216): a write of CLKOUT_CTL[k], or of CLKOUT_DLY[k]. -/
def execClkoutCtlWrite (p : Port) (k : Fin 2) (dly : Bool) (v : Word) (s : State) : Res :=
  let off := if dly then (CLKOUT_DLY.reg k).addr else (CLKOUT_CTL.reg k).addr
  .next (s.hubWrite p off (some 2) fun s => s.clkoutWrite off v.toNat)

/-- SYNC_IN_EDGE (R217 to R219, R534): a rising edge of SYNC_IN at a raw bin of a tick; `applied` is the tick of the second
REF160 edge after it, `sliceMoved` that a slice-clock reset moves the divider's phase. -/
def execSyncInEdge (tick : Nat) (bin : Fin 64) (applied : Nat) (sliceMoved : Bool) (s : State) : Res :=
  if !s.up .host ∨ !s.time.running then .next s
  else
    let s := (s.statFeed 23 (s.fineTime 23 tick bin 0) false).ensEdge (s.fineTime 23 tick bin 0)
    let s := if s.f SYNC_CTL.out_mode = 1 then s.syncPulse applied else s
    .next (if s.flag SYNC_CTL.arm then s.syncTake applied sliceMoved else s)

/-- SYNC_ISSUE (R219): a write of SYNC_CTL with issue set. -/
def execSyncIssue (p : Port) (v : Word) (s : State) : Res :=
  .next (s.hubWrite p SYNC_CTL.reg.addr (some 4) fun s => s.syncCtlWrite (v.toNat ||| 8))

/-- UPLL_UNLOCK (R222): the lock detector of the utility PLL trips. -/
def execUpllUnlock (s : State) : Res := if s.up .host && s.time.running then .next s.upllLose else .next s

/-- UPLL_RELOCK (R222, R223): the phase error has come back and stayed inside the window. -/
def execUpllRelock (s : State) : Res :=
  if s.up .host && s.clocks.upllOut && s.flag REF_STATUS.present then .next s.upllLock else .next s

end Sys2Proof.Machine
end

