-- ==== Sys2Proof/Machine/Cal.lean ====
section
/-! DEFINITION. Calibration runs, the sets they form, commits, staleness and the programming of the calibration store
(17_calibration.md). -/

namespace Sys2Proof.Machine

/-! ### Forming a set (R514 to R516) -/

/-- An integer nearest to a rational, half to even. -/
def roundRat (x : Rat) : Int := roundEven x.num x.den

/-- An angle in 0.01 degree brought to -180.00 to +179.99. -/
def wrapPhase (x : Int) : Int := (x + 18000) % 36000 - 18000

/-- The first-zone frequency that a frequency folds to, both in units of 2^-24 Hz (R514). -/
def foldFreq (f fs : Nat) : Nat := if fs = 0 then f else if 2 * (f % fs) ≤ fs then f % fs else fs - f % fs

/-- An accepted point of an input: frequency in kHz, gain in dB, phase at the input ball in 0.01 degree. -/
structure CalPoint where
  freq : Nat
  gain : Rat
  phase : Rat

/-- A point enters a list in the order of frequency. -/
def CalPoint.insert (x : CalPoint) : List CalPoint → List CalPoint
  | [] => [x]
  | y :: ys => if x.freq < y.freq then x :: y :: ys else y :: CalPoint.insert x ys

/-- Phases unwrapped along a list: no step from a point to the next is beyond half a turn. -/
def CalPoint.unwrap : Option Rat → List CalPoint → List CalPoint
  | _, [] => []
  | none, x :: xs => x :: CalPoint.unwrap (some x.phase) xs
  | some p, x :: xs =>
    let q := x.phase - 36000 * (((x.phase - p) / 36000 + 1 / 2).floor : Rat)
    { x with phase := q } :: CalPoint.unwrap (some q) xs

/-- The value at a frequency, linear between the points and constant beyond them (R516). -/
def interpolate (v : CalPoint → Rat) (f : Rat) : List CalPoint → Rat
  | [] => 0
  | [x] => v x
  | x :: y :: ys =>
    if f ≤ x.freq then v x
    else if f ≤ y.freq ∧ x.freq < y.freq then v x + (v y - v x) * (f - x.freq) / ((y.freq : Rat) - x.freq)
    else interpolate v f (y :: ys)

/-- The least-squares slope of phase against frequency, in 0.01 degree per kHz, where there are two frequencies (R516). -/
def phaseSlope (xs : List CalPoint) : Option Rat :=
  let n : Rat := xs.length
  let sf : Rat := (xs.map fun x => (x.freq : Rat)).sum
  let sp : Rat := (xs.map CalPoint.phase).sum
  let sff : Rat := (xs.map fun x => (x.freq : Rat) * x.freq).sum
  let sfp : Rat := (xs.map fun x => (x.freq : Rat) * x.phase).sum
  let d := n * sff - sf * sf
  if d = 0 then none else some ((n * sfp - sf * sp) / d)

/-- The raw skew change of an input in 0.1 ps: τ = -slope ÷ 360° (R516). -/
def rawChange (n : Nat) (xs : List CalPoint) : Rat :=
  match phaseSlope xs with
  | some k => -k * 10000000000 / 36000
  | none => Config.calOpen 2 n

/-- A gain entry from a gain in dB (R508). -/
def gainEntry (n : Nat) (g : Rat) : Int :=
  let x := roundRat (1024 * g)
  if -32768 ≤ x ∧ x ≤ 32767 then x else Config.calOpen 0 n

/-- A skew from its value in 0.1 ps (R508). -/
def skewEntry (n : Nat) (x : Rat) : Int :=
  let k := roundRat x
  if -20000 ≤ k ∧ k ≤ 20000 then k else Config.calOpen 1 n

namespace State

/-- The frequency of a plan point in kHz. -/
def pointFreq (s : State) (i : Nat) : Nat := s.f (CAL_POINT.freq_khz i)

/-- The certified level of a plan point in 1/128 dB. -/
def pointLevel (s : State) (i : Nat) : Int := signed 16 (s.f (CAL_POINT_LVL.level i))

/-- The points of the plan. -/
def planPoints (s : State) : List Nat := List.range (s.f CAL_PLAN.npoints)

/-- The points of a group. -/
def groupPoints (s : State) (g : Nat) : List Nat := s.planPoints.filter fun i => s.f (CAL_POINT.group i) == g

/-- The frequency that a point is measured at, in units of 2^-24 Hz. -/
def foldedFreq (s : State) (i : Nat) : Nat := foldFreq (1000 * 2 ^ 24 * s.pointFreq i) s.fs24

/-- Two different points of one group fold to within 1 MHz of each other (R513). -/
def foldClash (s : State) (i j : Nat) : Bool :=
  let a := s.foldedFreq i
  let b := s.foldedFreq j
  i != j && s.f (CAL_POINT.group i) == s.f (CAL_POINT.group j) && decide (a ≤ b ∧ b - a ≤ 1000000 * 2 ^ 24)

/-- The plan is refused (R513). -/
def planBad (s : State) : Bool :=
  let ps := s.planPoints
  ps.isEmpty || decide (1024 < ps.length) ||
    ps.any (fun i => decide (s.pointFreq i < 10000 ∨ 20400000 < s.pointFreq i)) ||
    ps.any (fun i => decide (s.pointLevel i < -5120 ∨ 0 < s.pointLevel i)) ||
    ps.any fun i => ps.any fun j => s.foldClash i j

/-- The inputs that the mask selects. -/
def calInputs (s : State) : Nat := (bitList 4 (s.f CAL_CTL.in_mask)).foldl (fun m n => if s.pathPresent n then setBit m n else m) 0

/-- The groups of the plan, lowest first. -/
def planGroups (s : State) : List Nat := (List.range 64).filter fun g => !(s.groupPoints g).isEmpty

/-- The gain of a point on an input in dB, by the sum of the two levels in 0.001 dB (R508, R516). -/
def pointGain (s : State) (n i : Nat) (sum : Int) : Rat :=
  (s.pointLevel i : Rat) / 128 - (Config.branchLoss n (s.pointFreq i) : Rat) / 1000000 - (sum : Rat) / 2000

/-- No result is valid (R520: measured in the last run). -/
def clearValid (s : State) : State :=
  ((List.range 4).flatMap fun n => (List.range 1024).map fun i => CAL_RESULT_INFO.valid n i).foldl
    (fun s l => if s.f l = 0 then s else s.set l 0) s

/-! ### A run (R513 to R516) -/

/-- Step 3 for the next group, or step 7 when there is none left to wait for. -/
def groupReady (s : State) (r : CalRun) : State :=
  let s := s.set CAL_STATUS.group (r.groups.headD 0)
  let r := { r with repeats := 0, first := [], since := s.time.clk, spoilt := false }
  if s.flag CAL_CTL.free_run then ({ s with cal := { s.cal with run := some { r with pass := 1 } } }.set CAL_STATUS.state 1)
  else ({ s with cal := { s.cal with run := some { r with pass := 0 } } }.set CAL_STATUS.state 2).raise 890

/-- A run is refused (R513). -/
def calRefuse (s : State) (code : Nat) : State := (s.set CAL_STATUS.code code).raise 885

/-- Calibration runs can be: the engine is in RUN and does not leave it (R519). -/
def calMay (s : State) : Bool := s.f PWR_STATE.state == 0 && s.pwr.trans.isNone && s.up .conv

/-- A write of 1 to CAL_CTL.go (R513, R514 steps 1 to 3); the set that waits is discarded (R517). -/
def calGo (s : State) : State :=
  if s.cal.run.isSome ∨ !s.calMay then s
  else if (bitList 4 s.calInputs).any s.realTime then s.calRefuse 7
  else if s.planBad then s.calRefuse 8
  else
    let m := s.calInputs
    let sels := (List.range 4).map fun n => s.f (CNV_CTL.input_sel n)
    let s := (bitList 4 m).foldl (fun s n => s.set (CNV_CTL.input_sel n) 1) s
    let s := (s.clearValid).set CAL_STATUS.pending 0
    let s := { s with cal := { s.cal with pending := none } }
    s.groupReady { inMask := m, sels := sels, groups := s.planGroups, pass := 0, repeats := 0, since := 0, spoilt := false, first := [],
                   rejected := [0, 0, 0, 0], sums := [] }

/-- The reading of a point on an input; a point that the pass gave nothing for reads below -60 dBFS. -/
def readingOf (rs : List (Nat × Int × Int)) (n i : Nat) : Reading :=
  match rs.find? fun e => e.1 == 1024 * n + i with
  | some e => { level := e.2.1, phase := e.2.2 }
  | none => { level := -200000, phase := 0 }

/-- A point's result from its two passes (R515): shown, and whether it is rejected. -/
def pointResult (s : State) (n i : Nat) (a b : Reading) : State × Bool :=
  let dg := (a.level - b.level).natAbs
  let dp := (wrapPhase (a.phase - b.phase)).natAbs
  let bad := decide (s.f CAL_TOL.gain < dg) || decide (s.f CAL_TOL.phase < dp) || decide (a.level + b.level < -120000)
  let mean := wrapPhase (roundEven (2 * a.phase + wrapPhase (b.phase - a.phase)) 2)
  let s := (s.set (CAL_RESULT.phase n i) (unsigned 16 mean)).set (CAL_RESULT.gain n i)
    (unsigned 16 (gainEntry n (s.pointGain n i (a.level + b.level))))
  let s := (s.set (CAL_RESULT_INFO.d_phase n i) dp).set (CAL_RESULT_INFO.d_gain n i) (min 4095 dg)
  ((s.set (CAL_RESULT_INFO.rejected n i) (b2n bad)).set (CAL_RESULT_INFO.valid n i) 1, bad)

/-- The comparison of a group on an input, with the points rejected so far. -/
def compareInput (s : State) (n : Nat) (first : Tab (Option Reading)) (rs : List (Nat × Int × Int)) :
    List Nat → Nat → State × Nat
  | [], k => (s, k)
  | i :: is, k =>
    let a := (first.get none (1024 * n + i)).getD { level := -200000, phase := 0 }
    let x := s.pointResult n i a (readingOf rs n i)
    x.1.compareInput n first rs is (k + b2n x.2)

/-- The comparison of a group on the inputs of a list (R515). -/
def compareGroup (s : State) (r : CalRun) (rs : List (Nat × Int × Int)) : List Nat → State × List Nat
  | [] => (s, r.rejected)
  | n :: ns =>
    let x := s.compareInput n r.first rs (s.groupPoints (r.groups.headD 0)) (r.rejected.getD n 0)
    x.1.compareGroup { r with rejected := r.rejected.set n x.2 } rs ns

/-- The accepted points of an input, in the order of frequency, with unwrapped phases. -/
def accepted (s : State) (n : Nat) (sums : Tab (Int × Int)) : List CalPoint :=
  let ps := s.planPoints.filter fun i => s.flag (CAL_RESULT_INFO.valid n i) && !s.flag (CAL_RESULT_INFO.rejected n i)
  let xs := ps.map fun i =>
    let e := sums.get (0, 0) (1024 * n + i)
    ({ freq := s.pointFreq i, gain := s.pointGain n i e.1,
       phase := (e.2 : Rat) / 2 - (Config.branchPhase n (s.pointFreq i) : Rat) } : CalPoint)
  CalPoint.unwrap none (xs.foldl (fun l x => x.insert l) [])

/-- The entries of an input in the new set (R508, R516), by its points, the applied skew change, and the mean of the
residual phases at each grid point. -/
def inputSet (s : State) (n : Nat) (old : InputSet) (xs : List CalPoint) (change : Rat) (mean : Nat → Rat)
    (resid : List CalPoint → Rat → Nat → Rat) : InputSet :=
  { gain := (List.range 256).map fun g => gainEntry n (interpolate CalPoint.gain (80000 * g : Nat) xs)
    phase := (List.range 256).map fun g => wrapPhase (roundRat (resid xs change g - mean g))
    skew := skewEntry n (old.skew + change)
    fs24 := s.fs24
    tj := Tab.get 0 s.cal.temps (2 * n) + Tab.get 0 s.cal.temps (2 * n + 1)
    time := s.f STRM_EPOCH_SEC.reg + s.time.tick.toNat / 2560000000 }

/-- The set that a run has formed from its accepted points (R516). -/
def formSet (s : State) (inMask : Nat) (sums : Tab (Int × Int)) : CalSet :=
  let pts := fun n => s.accepted n sums
  let ns := (bitList 4 inMask).filter fun n => !(pts n).isEmpty
  let raw := fun n => rawChange n (pts n)
  let count : Rat := max 1 ns.length
  let shift := (ns.map raw).sum / count
  let resid := fun (xs : List CalPoint) (change : Rat) (g : Nat) =>
    interpolate CalPoint.phase (80000 * g : Nat) xs + change * (80000 * g : Nat) * 36000 / 10000000000
  let mean := fun g => (ns.map fun n => resid (pts n) (raw n - shift) g).sum / count
  { generation := s.cal.inForce.generation + 1
    inputs := (List.range 4).map fun n =>
      let old := s.cal.inForce.inputs.getD n InputSet.zero
      if ns.contains n then s.inputSet n old (pts n) (raw n - shift) mean resid else old }

/-! ### Committing (R517) -/

/-- A commit starts: the waiting set is written to the slot that does not hold the set in force. -/
def calCommit (s : State) : State :=
  match s.cal.pending, s.cal.committing with
  | some x, none =>
    let x := { x with generation := s.cal.inForce.generation + 1 }
    { s with cal := { s.cal with committing := some x } }.set CAL_STATUS.committing 1
  | _, _ => s

/-- A set is in force: its generation, skews and tables are shown (R507 to R509). -/
def calInForce (s : State) (x : CalSet) (slotB : Bool) : State :=
  let s := { s with cal := { s.cal with inForce := x } }
  let s := (s.set CAL_GEN.reg x.generation).set CAL_STATUS.slot (b2n slotB)
  ((List.range 4).filter s.pathPresent).foldl (fun s n =>
    let e := x.inputs.getD n InputSet.zero
    (List.range 256).foldl (fun s g =>
      (s.set (CAL_TABLE.phase n g) (unsigned 16 (e.phase.getD g 0))).set (CAL_TABLE.gain n g) (unsigned 16 (e.gain.getD g 0)))
      (s.set (CAL_SKEW.reg n) (unsigned 32 e.skew))) s

/-- Step 7 of an accepted run. -/
def calAccept (s : State) (r : CalRun) (sums : Tab (Int × Int)) : State :=
  let x := s.formSet r.inMask sums
  let s := (s.calEnd 0 884).set CAL_STATUS.pending 1
  let s := { s with cal := { s.cal with pending := some x } }
  if s.flag CAL_CTL.auto_commit then s.calCommit else s

/-- The sums of the two passes of a group's points on the inputs of a mask: level, and phase with the second brought next
to the first. -/
def passSums (s : State) (r : CalRun) (rs : List (Nat × Int × Int)) : Tab (Int × Int) :=
  (bitList 4 r.inMask).foldl (fun t n => (s.groupPoints (r.groups.headD 0)).foldl (fun t i =>
    let a := (r.first.get none (1024 * n + i)).getD { level := -200000, phase := 0 }
    let b := readingOf rs n i
    t.put (0, 0) (1024 * n + i) (a.level + b.level, 2 * a.phase + wrapPhase (b.phase - a.phase))) t) r.sums

/-- Step 6: the comparison after pass 2, and what follows it (R514, R515). -/
def calCompare (s : State) (r : CalRun) (rs : List (Nat × Int × Int)) : State :=
  let sums := s.passSums r rs
  let x := s.compareGroup r rs (bitList 4 r.inMask)
  let s := x.1
  if x.2.any fun k => decide (s.f CAL_TOL.max_reject < k) then s.calEnd 1 885
  else
    match r.groups.tail with
    | [] => s.calAccept r sums
    | gs => s.groupReady { r with groups := gs, rejected := x.2, sums := sums }

/-- A measurement pass has ended (R514 to R516). -/
def calPass (s : State) (r : CalRun) (rs : List (Nat × Int × Int)) (invalid overranged : Bool) : State :=
  if overranged then s.calEnd 2 885
  else if invalid ∨ r.spoilt then
    if 3 ≤ r.repeats then s.calEnd 3 885
    else { s with cal := { s.cal with run := some { r with repeats := r.repeats + 1, since := s.time.clk, spoilt := false } } }
  else if r.pass = 1 then
    let first := (bitList 4 r.inMask).foldl (fun t n => (s.groupPoints (r.groups.headD 0)).foldl (fun t i =>
      Tab.put none t (1024 * n + i) (some (readingOf rs n i))) t) ([] : Tab (Option Reading))
    { s with cal := { s.cal with run := some { r with pass := 2, first := first, since := s.time.clk } } }
  else s.calCompare r rs

/-- A pass has lasted pass_us, of which fewer than 100 act as 100 (R514 steps 4 and 5). -/
def passOver (s : State) (r : CalRun) : Bool := decide (r.since + 2560 * max 100 (s.f CAL_PASS.pass_us) ≤ s.time.clk)

/-- A write to CAL_CTL (R513, R514, R516, R517). -/
def calCtlWrite (s : State) (v : Nat) : State :=
  let s := s.plainWrite CAL_CTL.reg.addr v
  let s := if bit v 30 then s.calEnd 6 885 else s
  let s := match s.cal.run with
    | some r => if bit v 29 && s.f CAL_STATUS.state == 2 then
        { s with cal := { s.cal with run := some { r with pass := 1, since := s.time.clk } } }.set CAL_STATUS.state 1 else s
    | none => s
  let s := if bit v 28 then s.calCommit else s
  if bit v 31 then s.calGo else s

/-- A path takes a real-time mode while a run holds its input (R516). -/
def calPreempt (s : State) (p : Nat) : State :=
  match s.cal.run with
  | some r => if bit r.inMask p then s.calEnd 5 885 else s
  | none => s

/-- A run holds an input: writes to its input_sel are dropped and counted (R516). -/
def calHolds (s : State) (n : Nat) : Bool :=
  match s.cal.run with
  | some r => bit r.inMask n
  | none => false

/-! ### Staleness (R511, R512, R626) -/

/-- The age conditions of R511 hold for an input. -/
def agedNow (s : State) (n : Nat) : Bool :=
  let h := s.f CAL_STALE.max_age_h
  let epoch := s.f STRM_EPOCH_SEC.reg
  let x := s.cal.inForce.inputs.getD n InputSet.zero
  h != 0 && (epoch == 0 ||
    decide (2560000000 * (x.time + 3600 * h) < 2560000000 * epoch + s.time.tick.toNat))

/-- The temperature condition of R511 for an input, by whether it held before. -/
def hotNow (s : State) (n : Nat) : Bool :=
  let x := s.cal.inForce.inputs.getD n InputSet.zero
  let d := (Tab.get 0 s.cal.temps (2 * n) + Tab.get 0 s.cal.temps (2 * n + 1) - x.tj).natAbs
  let m := max 1 (s.f CAL_STALE.max_dtemp)
  if bit s.cal.hot n then decide (256 * (m - 1) < d) else decide (256 * m < d)

/-- The conditions of an input are evaluated at a reading (R626). -/
def staleEval (s : State) (n : Nat) : State :=
  let mark := fun (b : Bool) (m : Nat) => if b then setBit m n else clearBit m n
  { s with cal := { s.cal with hot := mark (s.hotNow n) s.cal.hot, aged := mark (s.agedNow n) s.cal.aged } }.calStaleShow n

/-! ### Store programming (R518) -/

/-- The area of the store that a range lies in, if it may be programmed: 1 boot slot A, 2 boot slot B, 3 maker block
(R506). -/
def storeArea (a n : Nat) : Option Nat :=
  if 0x1000000 ≤ a ∧ a + n ≤ 0x2000000 then some 1
  else if 0x2000000 ≤ a ∧ a + n ≤ 0x3000000 then some 2
  else if 0xC00000 ≤ a ∧ a + n ≤ 0xD00000 then some 3
  else none

/-- A boot load runs from a slot (R109). -/
def bootLoads (s : State) (area : Nat) : Bool := s.load.stage != .idle && s.load.req.src == area

/-- The start of a store program is refused, with a code (R518). -/
def storeRefused (s : State) : Option Nat :=
  let a := s.f CAL_ST_ADDR.reg
  let n := s.f CAL_ST_LEN.reg
  if a % 65536 ≠ 0 ∨ n % 65536 ≠ 0 ∨ n = 0 then some 1
  else match storeArea a n with
    | none => some 2
    | some k => if s.bootLoads k || s.cal.program.isSome || s.cal.committing.isSome then some 3 else none

/-- A write to CAL_ST_CTL (R518). -/
def calStWrite (s : State) (p : Port) (v : Nat) : State :=
  if !bit v 31 then s
  else match s.storeRefused with
    | some c => (s.set CAL_ST_STATUS.code c).raise 889
    | none =>
      let g := (p, s.f CAL_ST_ADDR.reg, s.f CAL_ST_LEN.reg, s.f CAL_ST_SRC.reg)
      { s with cal := { s.cal with program := some g } }.set CAL_ST_STATUS.running 1

/-- Bytes of an area with others from an offset on. -/
def patch (b : List Byte) (off : Nat) (x : List Byte) : List Byte :=
  b.take off ++ List.replicate (off - b.length) 0 ++ x ++ b.drop (off + x.length)

/-- Bytes stand in the store from an offset on (R506). -/
def storePut (s : State) (a : Nat) (x : List Byte) : State :=
  match storeArea a x.length with
  | some 1 => { s with cal := { s.cal with slotA := patch s.cal.slotA (a % 0x1000000) x } }
  | some 2 => { s with cal := { s.cal with slotB := patch s.cal.slotB (a % 0x1000000) x } }
  | some 3 => { s with cal := { s.cal with maker := patch s.cal.maker (a % 0x400000) x } }
  | _ => s

/-- A store program has ended, with a code and its event (R518). -/
def storeEnd (s : State) (code event : Nat) : State :=
  { ((s.set CAL_ST_STATUS.running 0).set CAL_ST_STATUS.code code) with cal := { s.cal with program := none } }.raise event

/-- A store program ends with its fetch failing after some bytes: the rest of the range holds what nobody states (R518). -/
def storeFetchFail (s : State) (got : List Byte) : State :=
  match s.cal.program with
  | none => s
  | some (_, a, n, _) =>
    let d := s.draw
    let rest := (List.range (n - got.length)).map fun i => BitVec.ofNat 8 (Config.storeOpen d.1 i)
    ((d.2).storePut a (got.take n ++ rest)).storeEnd 4 889

/-- A port is lost: a store program that fetches over it ends (R518). -/
def storePortLost (s : State) (p : Port) : State :=
  match s.cal.program with
  | some (q, _, _, _) => if q = p then s.storeFetchFail [] else s
  | none => s

end State

/-! ### Meanings -/

/-- CAL_GO (R513, R514): a write of CAL_CTL with go set. -/
def execCalGo (p : Port) (v : Word) (s : State) : Res :=
  .next (s.hubWrite p CAL_CTL.reg.addr (some 2) fun s => s.calCtlWrite (v.toNat ||| 2 ^ 31))

/-- CAL_NEXT (R514 step 3): a write of CAL_CTL with next set. -/
def execCalNext (p : Port) (v : Word) (s : State) : Res :=
  .next (s.hubWrite p CAL_CTL.reg.addr (some 2) fun s => s.calCtlWrite (v.toNat ||| 2 ^ 29))

/-- CAL_PASS_DONE (R514 to R516): a pass has ended with readings (1024 * input + point, level in 0.001 dBFS, phase in 0.01
degree); `invalid` when its blocks carry CLK_INVALID or CAL_SETTLING, `overranged` when one carries OVR, which ends the run
at once. -/
def execCalPassDone (readings : List (Nat × Int × Int)) (invalid overranged : Bool) (s : State) : Res :=
  match s.cal.run with
  | some r => if s.f CAL_STATUS.state = 1 ∧ (overranged ∨ s.passOver r) then .next (s.calPass r readings invalid overranged) else .next s
  | none => .next s

/-- CAL_GROUP_TIMEOUT (R514 step 3, R516): the host has not written next in timeout_s, of which 0 acts as 1. -/
def execCalGroupTimeout (s : State) : Res :=
  match s.cal.run with
  | some r =>
    if s.f CAL_STATUS.state = 2 ∧ r.since + 2560000000 * max 1 (s.f CAL_PASS.timeout_s) ≤ s.time.clk then
      .next (s.calEnd 4 885)
    else .next s
  | none => .next s

/-- CAL_ABORT (R516): a write of CAL_CTL with abort set. -/
def execCalAbort (p : Port) (v : Word) (s : State) : Res :=
  .next (s.hubWrite p CAL_CTL.reg.addr (some 2) fun s => s.calCtlWrite (v.toNat ||| 2 ^ 30))

/-- CAL_COMMIT (R517): a write of CAL_CTL with commit set. -/
def execCalCommit (p : Port) (v : Word) (s : State) : Res :=
  .next (s.hubWrite p CAL_CTL.reg.addr (some 2) fun s => s.calCtlWrite (v.toNat ||| 2 ^ 28))

/-- CAL_COMMIT_DONE (R507, R510, R517): the set has been written and checked, or that has failed. -/
def execCalCommitDone (good : Bool) (s : State) : Res :=
  match s.cal.committing with
  | none => .next s
  | some x =>
    let s := s.set CAL_STATUS.committing 0
    if good then
      let toB := !s.flag CAL_STATUS.slot
      let c := { s.cal with committing := none, pending := none, setA := if toB then s.cal.setA else some x,
                            setB := if toB then some x else s.cal.setB }
      let s := ({ s with cal := c }.set CAL_STATUS.pending 0).calInForce x toB
      .next ((s.set CAL_COMMIT_INDEX.reg (s.f (GLB_SEQ.reg 0))).raise 886)
    else .next (({ s with cal := { s.cal with committing := none } }.set CAL_STATUS.code 9).raise 885)

/-- CAL_STALE_CHECK (R511, R512, R626): a reading of sensors 24 to 31, by sensor less 24, as codes of 1/128 degree. -/
def execCalStaleCheck (temps : List (Fin 8 × Int)) (s : State) : Res :=
  if !s.time.running then .next s
  else
    let t := temps.foldl (fun t e => t.put 0 e.1 e.2) s.cal.temps
    let s := { s with cal := { s.cal with temps := t } }
    .next (((List.range 4).filter s.pathPresent).foldl State.staleEval s)

/-- CAL_ST_GO (R518): a write of CAL_ST_CTL with go set. -/
def execCalStGo (p : Port) (v : Word) (s : State) : Res :=
  .next (s.hubWrite p CAL_ST_CTL.reg.addr (some 12) fun s => s.calStWrite p (v.toNat ||| 2 ^ 31))

/-- CAL_ST_DONE (R518): the bytes that were fetched, none on a fetch error at once, and whether they read back. -/
def execCalStDone (data : Option (List Byte)) (verified : Bool) (s : State) : Res :=
  match s.cal.program with
  | none => .next s
  | some (_, a, n, _) =>
    let b := data.getD []
    if b.length < n then .next (s.storeFetchFail b)
    else
      let s := s.storePut a (b.take n)
      if verified then .next ((s.set CAL_ST_CRC.reg (crc32c (b.take n)).toNat).storeEnd 0 888) else .next (s.storeEnd 5 889)

end Sys2Proof.Machine
end

