-- ==== Sys2Proof/Machine/Kp.lean ====
section
/-! DEFINITION. Kernel processors as the engine runs them (12_kernel_processors.md): fetching, ending and faulting of an
instruction, interrupts, timer and watchdog, inbox and mailboxes, the host's control. -/

namespace Sys2Proof.Machine

namespace State

/-- The program counter of a processor. -/
def kpPc (s : State) (n : Nat) : Nat := s.f (KP_PC.pc n)

/-- Entries of the call stack (R385, R403). -/
def kpDepth (s : State) (n : Nat) : Nat := if s.kpSh1 n then 8 else 16

/-- The running bits of a processor. -/
def kpSetRun (s : State) (n : Nat) (b : Bool) : State := (s.set (KP_CTL.run n) (b2n b)).set (KP_STATUS.running n) (b2n b)

/-- A fault halts the processor at once, and no halt event follows (R406). -/
def kpFault (s : State) (n code : Nat) : State :=
  let s := ((s.set (KP_FAULT.cause n) code).set (KP_FAULT.pc n) (s.kpPc n)).set (KP_STATUS.faulted n) 1
  let s := s.setKp n { s.kpOf n with waiting := false, haltAsked := false }
  (s.kpSetRun n false).raise (641 + 3 * n)

/-- The processor stops at a boundary, and event 640 + 3n says so (R405). -/
def kpStop (s : State) (n : Nat) : State :=
  let s := s.setKp n { s.kpOf n with haltAsked := false, waiting := false }
  (s.kpSetRun n false).raise (640 + 3 * n)

/-- A halt that the host has asked for comes about, in SH1 mode once a repeat is over (R403, R405). -/
def kpHaltDue (s : State) (n : Nat) : State :=
  if (s.kpOf n).haltAsked && !(s.kpSh1 n && (s.kpOf n).rc != 0) then s.kpStop n else s

/-- The instruction at `pc` has ended and the next in sequence would be `next`: loops that end here go round or are over. -/
def loopEnd (pc next : Nat) : List KpLoop → List KpLoop × Nat
  | [] => ([], next)
  | l :: ls =>
    if l.stop ≠ pc then (l :: ls, next)
    else if 1 < l.left then ({ l with left := l.left - 1 } :: ls, l.start)
    else loopEnd pc next ls

/-- An instruction is over: the repeat in progress takes its next iteration, or the program counter goes on (R392). -/
def kpNext (s : State) (n rc0 len : Nat) : State :=
  let x := s.kpOf n
  if 1 < rc0 then s.setKp n { x with rc := BitVec.ofNat 17 (rc0 - 1) }
  else
    let pc := s.kpPc n
    let r := loopEnd pc ((pc + len) % 8192) x.loops
    let x := if rc0 = 1 then { x with rc := 0, late := 0 } else x
    (s.setKp n { x with loops := r.1 }).set (KP_PC.pc n) r.2

/-- An instruction is retired after `cycles` cycles (R407, R409). -/
def kpRetire (s : State) (n cycles : Nat) : State :=
  let x := s.kpOf n
  ((s.setKp n { x with cycles := x.cycles + cycles }).addWrap (KP_CYCLES.reg n) 1).kpHaltDue n

/-- The processor executes: its domain is up, it runs, R149 does not stall it, and no WAIT holds it. -/
def kpExecutes (s : State) (n : Nat) : Bool :=
  s.up .kp && s.kpUsable n && s.kpRunning n && !s.flag GLB_PCLK.nrt_stopped && (!(s.kpOf n).waiting || s.kpWakes n)

/-- Bits of a word that R395 gives neither a use nor, for its class, a code each, so that a reserved field may lie there; all of
them for a class that is not listed. MAX and MIN step their cursor with the codes of LD, but for the offset, which they have no
field for (log entry 42). -/
def openBits (w : Nat) : Nat :=
  match bits w 27 5 with
  | 0 => 0x7FFF
  | 1 => 0x7FFF
  | 2 => 0x7FFF
  | 3 => 0x7FFF
  | 4 => 0xFFF
  | 5 => 0xFFF
  | 8 => if bits w 15 2 = 3 then 0x60000 else 0x67FFF
  | 9 => if bits w 15 2 = 3 then 0x60000 else 0x67FFF
  | 10 => if bits w 15 2 = 3 then 0x60000 else 0x67FFF
  | 11 => if bits w 15 2 = 3 then 0x60000 else 0x67FFF
  | 0x0C => 0x7FFFFFF
  | 0x0D => 0x7FFFFFF
  | 0x10 => 0x7FFE000
  | 0x11 => 0x7FFE000
  | 0x12 => 0x3FF0000
  | 0x14 => if bits w 13 2 = 3 then 0x7FFF else 0x1FFF
  | 0x15 => 0x7FFFF
  | 0x18 => 0x7FFFFFF
  | _ => 0xFFFFFFFF

/-- Classes of instructions (R395). -/
def listedClass (class_ : Nat) : Bool :=
  [0, 1, 2, 3, 4, 5, 8, 9, 10, 11, 0x0C, 0x0D, 0x10, 0x11, 0x12, 0x14, 0x15, 0x18].contains class_

/-- A word is ILLEGAL: its class is not listed, or a reserved field of it is not 0 (R395). -/
def kpIllegal (w : Nat) : Bool := !listedClass (bits w 27 5) || w &&& openBits w != 0 && Config.kpReserved w

/-- The word at the program counter is a legal one of some classes, and the fields that R395 places hold some values: (low
bit, width, value). -/
def kpSpelled (s : State) (n : Nat) (classes : List Nat) (fields : List (Nat × Nat × Nat)) : Bool :=
  let w := (s.kpMem n (s.kpPc n)).toNat
  !kpIllegal w && classes.contains (bits w 27 5) && fields.all fun e => bits w e.1 e.2.1 == e.2.2

/-- How an instruction stands to repeats and to SH1 mode, its length in words and its cycles (R392, R395, R398, R403). -/
structure KpKind where
  classes : List Nat
  fields : List (Nat × Nat × Nat)
  repeatable : Bool
  sh1 : Bool
  len : Nat
  cycles : Nat
deriving DecidableEq, Repr

/-- Words of IMEM that an instruction of so many words is fetched from. -/
def kpFetched (s : State) (n len : Nat) : List Nat := (List.range len).map fun i => (s.kpPc n + i) % 8192

/-- A word of the fetch has failed: ECC_IMEM (R406). -/
def kpFetchFail (s : State) (n word : Nat) : State := (s.kpEccFail n word).kpFault n 6

/-- A processor executes an instruction, whose effect is `body` (R382, R392, R395, R403, R406). Nothing happens where the
processor does not execute, or where the word it fetches is not of the instruction. -/
def kpExec (s : State) (n : Nat) (got : KpGot) (k : KpKind) (body : State → KpEnd) : State :=
  if !s.kpExecutes n then s
  else
    let s := s.setKp n { s.kpOf n with waiting := false }
    match (s.kpFetched n k.len).find? got.failed.contains with
    | some w => s.kpFetchFail n w
    | none =>
      if !s.kpSpelled n k.classes k.fields then s
      else
        let s := s.kpCorrected n got (s.kpFetched n k.len)
        let rc0 := (s.kpOf n).rc.toNat
        if (rc0 ≠ 0 ∧ !k.repeatable) ∨ (s.kpSh1 n ∧ !k.sh1) then s.kpFault n 1
        else
          match body s with
          | .go t => (t.kpNext n rc0 k.len).kpRetire n k.cycles
          | .jump t pc => (t.set (KP_PC.pc n) (pc % 8192)).kpRetire n k.cycles
          | .fault code none => s.kpFault n code
          | .fault code (some w) => (s.kpEccFail n w).kpFault n code

/-- PC, SR and RC go on the call stack, for an interrupt or a CALL; one more than it holds is STACK_OVER (R385, R406). -/
def kpPush (s : State) (n pc : Nat) (irq : Bool) : Option State :=
  let x := s.kpOf n
  if s.kpDepth n ≤ x.stack.length then none
  else some (s.setKp n { x with stack := { pc := pc, sr := x.sr.toNat, rc := x.rc.toNat, late := x.late.toNat, irq := irq } :: x.stack })

/-- The newest entry of the call stack comes back: SR and RC, and the PC to go to; none is STACK_UNDER. -/
def kpPop (s : State) (n : Nat) : KpEnd :=
  let x := s.kpOf n
  match x.stack with
  | [] => .fault 4 none
  | e :: es => .jump (s.setKp n { x with stack := es, sr := BitVec.ofNat 32 e.sr, rc := BitVec.ofNat 17 e.rc, late := BitVec.ofNat 16 e.late }) e.pc

/-! ### Interrupts (R401 to R404) -/

/-- The priority level of a source in IPRI. -/
def kpPri (s : State) (n src : Nat) : Nat := bits (s.kpOf n).ipri.toNat (2 * src) 2

/-- Sources that are enabled, pending, and not held back by a repeat, be it in progress or interrupted (R402, R404). -/
def kpReady (s : State) (n : Nat) : List Nat :=
  let x := s.kpOf n
  (bitList 8 (x.ipend &&& x.imask).toNat).filter fun i => !bit x.late.toNat i && !x.stack.any fun e => bit e.late i

/-- A handler is in progress: the call stack holds the entry that its interrupt made. -/
def kpInHandler (s : State) (n : Nat) : Bool := (s.kpOf n).stack.any fun e => e.irq

/-- The source that is taken next: the highest level above the current one, the lowest number first; in SH1 mode, which does
not nest, any, once a repeat is over (R402, R403). -/
def kpSource (s : State) (n : Nat) : Option Nat :=
  let x := s.kpOf n
  if !bit x.sr.toNat 31 then none
  else if s.kpSh1 n then (if x.rc = 0 ∧ !s.kpInHandler n then (s.kpReady n).head? else none)
  else
    (((List.range 3).map fun i => 3 - i).filter fun l => decide (bits x.sr.toNat 29 2 < l)).findSome? fun l =>
      (s.kpReady n).find? fun i => s.kpPri n i == l

/-- An interrupt is taken (R402, R403). -/
def kpEnter (s : State) (n src : Nat) : State :=
  match s.kpPush n (s.kpPc n) true with
  | none => s.kpFault n 3
  | some t =>
    let x := t.kpOf n
    if t.kpSh1 n then
      (t.setKp n { x with sr := BitVec.ofNat 32 (clearBit x.sr.toNat 31), rc := 0, late := 0 }).set (KP_PC.pc n) 4
    else
      (t.setKp n { x with sr := BitVec.ofNat 32 (insertBits x.sr.toNat 29 2 (t.kpPri n src)), rc := 0, late := 0,
                          ipend := x.ipend &&& ~~~(BitVec.ofNat 16 (2 ^ src)) }).set (KP_PC.pc n) (16 + 2 * src)

/-! ### Inbox (R396, R397) -/

/-- Words of a parcel in the inbox: the header as 8 words, then the payload in whole words. -/
def kpWords (x : Parcel) : List Word :=
  let b := x.bytes
  (List.range ((b.length + 3) / 4)).map fun i => BitVec.ofNat 32 (field b (4 * i) 4)

/-- Words of the ring of an inbox. -/
def kpRingSize (s : State) (n : Nat) : Nat := 2 ^ max 6 (min 13 (s.f (KP_IN_CTL.size_log2 n)))

/-- Words are written into the ring of an inbox, from a pointer on. -/
def kpRingPut (s : State) (n : Nat) : Nat → List Word → State
  | _, [] => s
  | at_, w :: ws =>
    (s.kpMemPut n (16384 + (s.f (KP_IN_RING.base n) + at_ % s.kpRingSize n) % 8192) w).kpRingPut n (at_ + 1) ws

/-- The inbox takes a parcel that leaves its path's exit, or drops it (R396, R397, R554). -/
def kpInbox (s : State) (n : Nat) (x : Parcel) : State :=
  let st := s.f (KP_IN_CTL.stream n)
  if !s.up .kp || !s.kpUsable n || !s.flag (KP_IN_CTL.en n) || !x.reaches (s.f (KP_IN_CTL.path n)) st then s
  else if !x.crcOk then
    (s.bump (KP_IN_STATUS.crc n)).chkFail x.seq 0 3 8 (s.f (KP_STATUS.phys n)) 3 (some x.path)
  else
    let k := s.kpOf n
    let ws := kpWords x
    let used := (k.inwp - k.inrp).toNat
    if s.kpRingSize n < used + ws.length then (s.bump (KP_IN_STATUS.dropped n)).kpPend n 3
    else
      let s := s.kpRingPut n k.inwp.toNat ws
      let s := s.setKp n { s.kpOf n with inwp := k.inwp + BitVec.ofNat 16 ws.length }
      (s.addWrap (KP_IN_COUNT.reg n) 1).kpPend n 2

/-! ### The host's control (R405) -/

/-- Words of a host register group are at 0. -/
def regsZero (s : State) (l : Nat → Loc) : List Nat → State
  | [] => s
  | i :: is => (s.set (l i) 0).regsZero l is

/-- A reset of a halted processor: every register of R385, MBI0 to MBI3 among them, and the stacks (R405). -/
def kpClear (s : State) (n : Nat) : State :=
  let x := s.kpOf n
  let s := s.setKp n { KpSt.reset with imem := x.imem, x := x.x, y := x.y }
  let s := (s.set (KP_PC.pc n) (s.f (KP_START.addr n))).set (KP_FAULT.reg n) 0
  (s.set (KP_STATUS.faulted n) 0).regsZero (KP_MBOX_IN.reg n) [0, 1, 2, 3]

/-- The processor starts at PC, in the mode that KP_CTL asks for (R403, R405). -/
def kpStart (s : State) (n : Nat) : State :=
  if s.flag (KP_STATUS.faulted n) || s.kpRunning n then s
  else
    (s.set (KP_STATUS.sh1 n) (s.f (KP_CTL.sh1 n))).kpSetRun n true

/-- A write to KP_CTL (R405). -/
def kpCtlWrite (s : State) (n v : Nat) : State :=
  if !s.kpUsable n then s
  else
    let s := s.set (KP_CTL.sh1 n) (bits v 3 1)
    let s := if bit v 2 && !s.kpRunning n then s.kpClear n else s
    if bit v 0 then s.kpStart n
    else if s.kpRunning n then (s.setKp n { s.kpOf n with haltAsked := true }).kpHaltDue n
    else s

/-- A write to KP_IN_CTL: an absent path drops it (R409). -/
def kpInCtlWrite (s : State) (n v : Nat) : State :=
  if !s.kpUsable n ∨ !s.pathPresent (bits v 12 2) then s else s.plainWrite (KP_IN_CTL.reg n).addr v

/-- A write to KP_IN_RING: the base must be a multiple of the ring size (R396). -/
def kpInRingWrite (s : State) (n v : Nat) : State :=
  if !s.kpUsable n ∨ v % 8192 % s.kpRingSize n ≠ 0 then s else s.plainWrite (KP_IN_RING.reg n).addr v

/-- A write to a word of the inbound mailbox; word 3 posts the message (R399). -/
def kpMboxWrite (s : State) (n i v : Nat) : State :=
  if !s.kpUsable n then s
  else if s.flag (KP_MBOX_STATUS.in_full n) then s.bump (KP_MBOX_STATUS.in_refused n)
  else
    let s := s.set (KP_MBOX_IN.reg n i) v
    if i = 3 then (s.set (KP_MBOX_STATUS.in_full n) 1).kpPend n 0 else s

/-- A write to KP_MBOX_STATUS: out_full clears where it is written 1, and source 1 becomes pending (R400). -/
def kpMboxStatusWrite (s : State) (n v : Nat) : State :=
  if !s.kpUsable n then s
  else
    let was := s.flag (KP_MBOX_STATUS.out_full n)
    let s := s.set (KP_MBOX_STATUS.in_refused n) 0
    if bit v 1 && was then (s.set (KP_MBOX_STATUS.out_full n) 0).kpPend n 1 else s

end State

open State

/-! ### Meanings -/

/-- KP_INTERRUPT (R402 to R404): at a boundary, an eligible source is taken. -/
def execKpInterrupt (n : Fin 64) (s : State) : Res :=
  if !s.kpExecutes n then .next s
  else
    match s.kpSource n with
    | none => .next s
    | some src => .next ((s.setKp n { s.kpOf n with waiting := false }).kpEnter n src)

/-- KP_TIMER_EXPIRE (R385, R401): a timer that was started has counted down to 0. -/
def execKpTimerExpire (n : Fin 64) (s : State) : Res :=
  let x := s.kpOf n
  if s.up .kp && s.kpUsable n && x.tmr != 0 && s.kpTimer n == 0 then .next ((s.setKp n { x with tmr := 0 }).kpPend n 4) else .next s

/-- KP_WATCHDOG (R407): the count of cycles since the last WAIT or RTI has reached the limit. -/
def execKpWatchdog (n : Fin 64) (s : State) : Res :=
  let limit := s.f (KP_WDOG.reg n)
  if s.kpExecutes n && limit != 0 && decide (limit ≤ (s.kpOf n).cycles) then .next (s.kpFault n 9) else .next s

/-- KP_INBOX_PARCEL (R396, R397). -/
def execKpInboxParcel (n : Fin 64) (x : Parcel) (s : State) : Res := .next (s.kpInbox n x)

/-- KP_MBOX_IN_POST (R399): a host write of word 3. -/
def execKpMboxInPost (p : Port) (n : Fin 64) (v : Word) (s : State) : Res :=
  .next (s.hubWrite p (KP_MBOX_IN.reg n 3).addr none fun s => s.kpMboxWrite n 3 v.toNat)

/-- KP_MBOX_OUT_CLEAR (R400): a host write that clears out_full. -/
def execKpMboxOutClear (p : Port) (n : Fin 64) (v : Word) (s : State) : Res :=
  .next (s.hubWrite p (KP_MBOX_STATUS.reg n).addr none fun s => s.kpMboxStatusWrite n (v.toNat ||| 2))

/-- KP_WINDOW_ACCESS (R383, R384): a host read or write of a word of a processor's memories. -/
def execKpWindowAccess (p : Port) (n : Fin 68) (word : Fin 24576) (w : Option Word) (s : State) : Res :=
  let off := 0x1000000 + 0x20000 * n.val + 4 * word.val
  match w with
  | none => .next (s.complete (.words [if s.reachable off then s.kpWindowRead n word else 0]))
  | some v => .next (s.hubWrite p off none fun s => s.kpWindowWrite n word v)

/-- KP_RESET (R405): a write of KP_CTL with reset set. -/
def execKpReset (p : Port) (n : Fin 64) (v : Word) (s : State) : Res :=
  .next (s.hubWrite p (KP_CTL.reg n).addr (some 13) fun s => s.kpCtlWrite n (v.toNat ||| 4))

/-- KP_RUN (R405): a write of KP_CTL with run at 1. -/
def execKpRun (p : Port) (n : Fin 64) (v : Word) (s : State) : Res :=
  .next (s.hubWrite p (KP_CTL.reg n).addr (some 13) fun s => s.kpCtlWrite n (v.toNat ||| 1))

/-- KP_HALT (R405): a write of KP_CTL with run at 0. -/
def execKpHalt (p : Port) (n : Fin 64) (v : Word) (s : State) : Res :=
  .next (s.hubWrite p (KP_CTL.reg n).addr (some 13) fun s => s.kpCtlWrite n (v.toNat &&& 0xFFFFFFFE))

/-- KP_ILLEGAL_INSTRUCTION (R395): the word fetched has no listed class, or a reserved field that is not 0. -/
def execKpIllegalInstruction (n : Fin 64) (got : KpGot) (s : State) : Res :=
  if !s.kpExecutes n then .next s
  else
    let s := s.setKp n { s.kpOf n with waiting := false }
    if got.failed.contains (s.kpPc n) then .next (s.kpFetchFail n (s.kpPc n))
    else if !kpIllegal (s.kpMem n (s.kpPc n)).toNat then .next s
    else .next ((s.kpCorrected n got [s.kpPc n]).kpFault n 1)

end Sys2Proof.Machine
end

