-- ==== Sys2Proof/Machine/Bar2.lean ====
section
/-! DEFINITION. The large on-chip memories behind BAR2 (R39, R40) and the kernel-processor windows of BAR0 (R383), word by
word, as the host ports and the DMA channels reach them. -/

namespace Sys2Proof.Machine

namespace State

/-! ### BAR2 (R39) -/

/-- The domain that a BAR2 offset lies in; none for a reserved one. -/
def bar2Domain (off : Nat) : Option Domain :=
  if off < 0x2800000 then some .fabric
  else if 0x4000000 ≤ off && off < 0x6000000 then some .display
  else if 0x8000000 ≤ off && off < 0x8040000 then some .host
  else none

/-- A BAR2 offset reaches a memory: its domain is up, its unit is there (R2, R13, R42). -/
def bar2Reach (s : State) (off : Nat) : Bool :=
  match bar2Domain off with
  | none => false
  | some d => s.up .host && s.up d && (d != .display || s.displayPresent)

/-- A word of BAR2 as a read gives it. -/
def bar2Read (s : State) (off : Nat) : Word :=
  if !s.bar2Reach off then 0
  else if off < 0x2000000 then (s.kalOf (off / 0x1000000)).cells.get 0 (off % 0x1000000 / 4)
  else if off < 0x2800000 then s.kal.entries.get 0 (off % 0x2000000 / 4)
  else if off < 0x8000000 then s.disp.store.get 0 (off % 0x4000000 / 4)
  else s.mirrorWord (off % 0x8000000 / 4)

/-- A read meets the words of BAR2 at some offsets: an uncorrectable cell of a density table is logged (R310). -/
def bar2Meet (s : State) : List Nat → State
  | [] => s
  | off :: offs =>
    (if s.bar2Reach off && decide (off < 0x2000000) then s.kalMeet (off / 0x1000000) (off % 0x1000000 / 4) (2 ^ 64 - 1) none
      else s).bar2Meet offs

/-- A word written at a BAR2 offset with the rights of a port, under the rules of its memory (R40). -/
def bar2Write (s : State) (p : Port) (off : Nat) (v : Word) : State :=
  if !s.bar2Reach off then s
  else if off < 0x2000000 then s.kalCellWrite p (off / 0x1000000) (off % 0x1000000 / 4) v
  else if off < 0x2800000 then s.mskEntryWrite (off % 0x2000000 / 4) v
  else if off < 0x8000000 then s.storeWrite (off % 0x4000000 / 4) v
  else s.refuse p (2 ^ 31 + off % 2 ^ 28)

/-! ### Kernel-processor windows (R383) -/

/-- The effect of a write to a word of a processor's window, by the offset in it. -/
def kpPlainWrite (s : State) (n off v : Nat) : State := if s.kpUsable n then s.plainWrite off v else s

/-- A word written at a BAR0 offset inside the kernel-processor windows, with the rights of a port. -/
def kpSpaceWrite (s : State) (p : Port) (off : Nat) (v : Word) : State :=
  let n := off % 0x1000000 / 0x20000
  let o := off % 0x20000
  let x := v.toNat
  if o < 0x18000 then s.portWrite p off none fun s => s.kpWindowWrite n (o / 4) v
  else
    if o = 0x18000 then s.portWrite p off (some 13) fun s => s.kpCtlWrite n x
    else if o = 0x18020 then s.portWrite p off (some 13) fun s => s.kpInCtlWrite n x
    else if o = 0x18024 then s.portWrite p off (some 13) fun s => s.kpInRingWrite n x
    else if o = 0x18040 then s.portWrite p off none fun s => s.kpMboxWrite n 0 x
    else if o = 0x18044 then s.portWrite p off none fun s => s.kpMboxWrite n 1 x
    else if o = 0x18048 then s.portWrite p off none fun s => s.kpMboxWrite n 2 x
    else if o = 0x1804C then s.portWrite p off none fun s => s.kpMboxWrite n 3 x
    else if o = 0x18060 then s.portWrite p off none fun s => s.kpMboxStatusWrite n x
    else
      match findRow off with
      | some (r, _) => s.portWrite p off r.sem fun s => s.kpPlainWrite n off x
      | none => s

/-- KP_STATUS as it reads: stalled while non-real-time work stands still (R149). -/
def kpStatus (s : State) (n : Nat) : Nat :=
  insertBits (s.f (KP_STATUS.reg n)) (KP_STATUS.stalled n).lo 1 (b2n (s.flag GLB_PCLK.nrt_stopped && s.kpRunning n))

/-- A word read at a BAR0 offset inside the kernel-processor windows. -/
def kpSpaceRead (s : State) (off : Nat) : Word :=
  let n := off % 0x1000000 / 0x20000
  let o := off % 0x20000
  if !s.reachable off then 0
  else if o < 0x18000 then s.kpWindowRead n (o / 4)
  else if o = 0x18008 then BitVec.ofNat 32 (s.kpStatus n)
  else if !s.kpUsable n then 0
  else
    match findRow off with
    | some (r, ix) => BitVec.ofNat 32 (s.word off (r.ini ix))
    | none => 0

end State

end Sys2Proof.Machine
end

