-- ==== Sys2Proof/Machine/Dma.lean ====
section
/-! DEFINITION. The DMA channels (13_dma_streaming.md, R411 to R435). -/

namespace Sys2Proof.Machine

/-! ### Descriptors (R415) -/

/-- The fields of a descriptor. -/
def DmaDesc.ofBytes (b : List Byte) : DmaDesc :=
  { src := field b 0 8, dst := field b 8 8, next := field b 16 8, count := field b 24 4, srcSpace := field b 28 1,
    dstSpace := field b 29 1, srcSel := field b 30 1, dstSel := field b 31 1, flags := field b 32 2, cq := field b 34 1 % 16,
    pace := field b 35 1 % 4, tag := field b 36 4, ringLen := field b 40 4, share := field b 44 2, stopLevel := field b 48 4,
    startLevel := field b 52 4 }

/-- Reserved bytes and bits of a descriptor are 0 (R415). -/
def descReserved (b : List Byte) : Bool :=
  field b 34 1 / 16 == 0 && field b 35 1 / 4 == 0 && field b 32 2 / 64 == 0 && field b 46 2 == 0 && field b 56 8 == 0

/-- Bit irq of a descriptor's flags (R415). -/
def DmaDesc.irq (d : DmaDesc) : Bool := bit d.flags 0
/-- Bit continue_on_error. -/
def DmaDesc.goOn (d : DmaDesc) : Bool := bit d.flags 1
/-- Bit resume. -/
def DmaDesc.resume (d : DmaDesc) : Bool := bit d.flags 2
/-- Bit ring_src. -/
def DmaDesc.ringSrc (d : DmaDesc) : Bool := bit d.flags 3
/-- Bit ring_dst. -/
def DmaDesc.ringDst (d : DmaDesc) : Bool := bit d.flags 4
/-- Bit wrap_rec. -/
def DmaDesc.wrapRec (d : DmaDesc) : Bool := bit d.flags 5
/-- A side is a ring. -/
def DmaDesc.ring (d : DmaDesc) : Bool := d.ringSrc || d.ringDst

/-- A side of a space is aligned and inside it (R412, R417). -/
def sideFits (space addr count : Nat) : Bool :=
  match space with
  | 4 => addr % 4 == 0 && count % 4 == 0 && decide (0x1000000 ≤ addr ∧ addr + max 4 count ≤ 0x1880000)
  | 5 => addr % 4 == 0 && count % 4 == 0 && decide (addr + max 4 count ≤ 0x10000000)
  | _ => true

/-- Bytes of address range on a side: the ring, or the count. -/
def DmaDesc.span (d : DmaDesc) (ring : Bool) : Nat := if ring then d.ringLen else d.count

/-- The descriptor breaks R412, R415, R416 or R417. -/
def DmaDesc.formatError (d : DmaDesc) : Bool :=
  decide (6 < d.srcSpace) || decide (5 < d.dstSpace) || (decide (d.srcSpace ≤ 1) && decide (d.dstSpace ≤ 1)) ||
    !sideFits d.srcSpace d.src (d.span d.ringSrc) || !sideFits d.dstSpace d.dst (d.span d.ringDst) ||
    ((d.srcSpace == 4 || d.srcSpace == 5 || d.dstSpace == 4 || d.dstSpace == 5) && d.count % 4 != 0) ||
    (d.srcSpace == 6 && (d.srcSel &&& 0xEC) != 0) || (d.count == 0 && !d.ring) || decide (256 < d.share) ||
    (d.ring && (d.ringLen % 64 != 0 || decide (d.ringLen < 4096))) || (d.ringSrc && d.ringDst) ||
    (d.ringSrc && (d.srcSpace == 2 || d.srcSpace == 6)) || (d.ringDst && d.dstSpace == 2) || (d.pace == 1 && !d.ring) ||
    (d.pace == 3 && !(d.srcSpace == 6 || d.srcSpace == 2)) || d.next % 64 != 0

/-- The domains that a side touches over its span (R412): those of the BAR2 memories (R39) for BAR2. -/
def sideDomains (space addr span : Nat) : List Domain :=
  match space with
  | 2 => [.memory]
  | 3 => [.memory]
  | 4 => [.kp]
  | 5 => ([0, 0x4000000, 0x8000000].filter fun a => State.spansMeet addr (max 1 span) a 0x2000000).filterMap State.bar2Domain
  | 6 => [.fabric]
  | _ => []

/-- The domains that a descriptor touches (R412). -/
def DmaDesc.domains (d : DmaDesc) : List Domain :=
  sideDomains d.srcSpace d.src (d.span d.ringSrc) ++ sideDomains d.dstSpace d.dst (d.span d.ringDst)

/-- The descriptor touches a domain (R412, R434). -/
def DmaDesc.touches (d : DmaDesc) (x : Domain) : Bool := d.domains.contains x

namespace State

/-! ### Channels -/

/-- A channel. -/
def chan (s : State) (n : Nat) : DmaSt := s.dma.chans.get DmaSt.reset n

/-- The state with a channel changed. -/
def setChan (s : State) (n : Nat) (x : DmaSt) : State := { s with dma := { s.dma with chans := s.dma.chans.put DmaSt.reset n x } }

/-- A record of the channel waits for its queue (R427). -/
def chanHeld (s : State) (n : Nat) : Bool := s.dma.held.any fun h => h.channel == some n

/-- A unit that a side names over its span is absent, or its region does not exist (R3, R412, R414). -/
def sideAbsent (s : State) (space sel addr span : Nat) : Bool :=
  match space with
  | 2 => decide (64 ≤ sel) || !s.regionExists sel
  | 4 => (List.range 68).any fun n => !s.kpPresent n && spansMeet addr (max 1 span) (0x1000000 + 0x20000 * n) 0x20000
  | 5 => !s.displayPresent && spansMeet addr (max 1 span) 0x4000000 0x2000000
  | 6 => !s.pathPresent (sel % 4)
  | _ => false

/-- Bytes of the descriptor that have gone by: delivered, or lost in a failed last beat. -/
def dmaDone (x : DmaSt) : Nat := x.moved + x.lost

/-- Bytes left of a descriptor; none for an endless one. -/
def dmaLeft (x : DmaSt) (d : DmaDesc) : Option Nat := if d.count = 0 then none else some (d.count - dmaDone x)

/-- The source position of the next undelivered byte (R418, R419): for a fabric exit, the bytes delivered. -/
def srcAt (s : State) (n : Nat) (x : DmaSt) (d : DmaDesc) : Nat :=
  if d.srcSpace = 6 then dmaDone x
  else if d.ringSrc then d.src + s.f (DMA_RING_OWN.reg n) else d.src + dmaDone x

/-- The target position of the next byte. -/
def dstAt (s : State) (n : Nat) (x : DmaSt) (d : DmaDesc) : Nat :=
  if d.ringDst then d.dst + s.f (DMA_RING_OWN.reg n) else d.dst + dmaDone x

/-- A channel whose source R149 stops does so while non-real-time work is stopped (R433). -/
def dmaStalls (s : State) (d : DmaDesc) : Bool :=
  s.flag GLB_PCLK.nrt_stopped && (d.srcSpace == 6 || d.srcSpace == 4 || (d.srcSpace == 5 && decide (d.src < 0x2800000)))

/-- The state code of a channel (R449). -/
def dmaCode (s : State) (n : Nat) : Nat :=
  let x := s.chan n
  if !s.flag (DMA_STATUS.busy n) then 0
  else if s.chanHeld n then 6
  else if x.fin.isSome then 2
  else match x.desc with
    | none => 1
    | some d =>
      if x.disabling then 7 else if x.parked then 5 else if x.burst.isSome then 2 else if s.dmaStalls d then 4 else 3

/-- The registers of a channel follow its state (R449). -/
def dmaShow (s : State) (n : Nat) : State :=
  let x := s.chan n
  let s := (s.set (DMA_STATUS.state n) (s.dmaCode n)).set (DMA_STATUS.held n) (b2n (s.chanHeld n))
  match x.desc with
  | some d => (s.set (DMA_POS.reg n) (s.srcAt n x d)).set (DMA_LEFT.reg n) ((dmaLeft x d).getD 0)
  | none => s

/-! ### Rings (R419, R420) -/

/-- The length in force of a channel's ring. -/
def ringLen (s : State) (n : Nat) : Nat := max 1 (s.fa (DMA_RING_LEN.reg n))

/-- The fill level: bytes between the two offsets in the direction of data flow (R419). -/
def ringLevel (s : State) (n : Nat) (d : DmaDesc) : Nat :=
  let len := s.ringLen n
  let own := s.f (DMA_RING_OWN.reg n) % len
  let other := s.f (DMA_RING_PARTNER.reg n) % len
  if d.ringDst then (own + len - other) % len else (other + len - own) % len

/-- A completion record (R425). -/
def dmaRecord (s : State) (n : Nat) (x : DmaSt) (d : DmaDesc) (status cause : Nat) (addr : Option Nat) : List Byte :=
  leBytes 8 (addr.getD (s.srcAt n x d)) ++ leBytes 4 ((dmaLeft x d).getD 0) ++ leBytes 1 status ++ leBytes 1 cause ++ leBytes 2 n ++
    leBytes 8 x.moved ++ leBytes 4 d.tag ++ leBytes 2 (min 65535 x.withdrawn) ++ leBytes 1 (b2n x.resumed) ++ leBytes 1 0

/-- A record of a channel goes to its queue, with event 512 + n where R427 asks for it. -/
def dmaPost (s : State) (n : Nat) (x : DmaSt) (d : DmaDesc) (e : DmaEnd) : State × Bool :=
  let quiet := e.status == 0 || e.status == 8 || e.status == 9
  let s := s.set (DMA_STATUS.last n) e.status
  s.cqPost { q := d.cq, bytes := s.dmaRecord n x d e.status e.cause e.addr,
             events := if d.irq || !quiet then [512 + n] else [], channel := some n, ends := e.status != 8 && e.status != 9 }

/-- The own offset goes on by `m` bytes; at the wrap a new length applies and a record is written (R419, R420). Bytes past the
wrap of a source ring count from its start. -/
def ringGo (s : State) (n : Nat) (d : DmaDesc) (m : Nat) : State :=
  if !d.ring then s
  else
    let own := s.f (DMA_RING_OWN.reg n) + m
    if own < s.ringLen n then s.set (DMA_RING_OWN.reg n) own
    else
      let s := s.set (DMA_RING_OWN.reg n) (own - s.ringLen n)
      let resized := s.f (DMA_RING_LEN.reg n) != s.fa (DMA_RING_LEN.reg n)
      let s := if resized then
          let s := s.applyShadow (DMA_RING_LEN.reg n)
          s.set (DMA_RING_PARTNER.reg n) (s.f (DMA_RING_PARTNER.reg n) % s.ringLen n)
        else s
      if resized || d.wrapRec then
        (s.dmaPost n (s.chan n) d { status := if resized then 9 else 8, cause := 0, addr := none }).1
      else s

/-! ### Pacing (R421 to R423) -/

/-- The parcel of a channel's queue that it delivers, as bytes (R418). -/
def headBytes (x : DmaSt) : List Byte :=
  match x.queue, x.exit with
  | y :: _, some (_, _, true) => y.payload
  | y :: _, _ => y.bytes
  | [], _ => []

/-- The FILL hysteresis sampled now (R421). -/
def fillRuns (s : State) (n : Nat) (x : DmaSt) (d : DmaDesc) : Bool :=
  let l := s.ringLevel n d
  if d.ringDst then (if x.fillGo then decide (l < d.stopLevel) else decide (l ≤ d.startLevel))
  else if x.fillGo then decide (d.stopLevel < l) else decide (d.startLevel ≤ l)

/-- Bytes that pacing allows a burst to have; 0 for no burst now (R419, R421). -/
def paceAllows (s : State) (n : Nat) (x : DmaSt) (d : DmaDesc) : Nat :=
  let free := if d.ringDst then s.ringLen n - 64 - s.ringLevel n d else 4096
  match d.pace with
  | 1 => if s.fillRuns n x d then (if d.ringDst then free else s.ringLevel n d) else 0
  | 2 =>
    let ready := match x.lastStart with
      | some (t, b) => decide (512 * b ≤ (s.time.clk - t) * (25 * max 1 d.share))
      | none => true
    if ready then free else 0
  | 3 =>
    if d.srcSpace = 6 then free
    else min free (s.f (CAP_REGION_WRITTEN.reg d.srcSel) - s.srcAt n x d)
  | _ => free

/-- In REQ mode on a region, the source position has been overwritten (R423). -/
def dmaOverrun (s : State) (n : Nat) (x : DmaSt) (d : DmaDesc) : Bool :=
  d.pace == 3 && d.srcSpace == 2 &&
    decide (s.srcAt n x d + s.regionSize d.srcSel < s.f (CAP_REGION_WRITTEN.reg d.srcSel))

/-- The request of a channel stands: its ring or its region asks for more (R421, R422). -/
def dmaRequest (s : State) (n : Nat) (x : DmaSt) (d : DmaDesc) : Bool :=
  match d.pace with
  | 1 => s.fillRuns n { x with fillGo := true } d
  | 3 => d.srcSpace == 6 || decide (s.srcAt n x d < s.f (CAP_REGION_WRITTEN.reg d.srcSel))
  | _ => true

/-- The request of a channel has fallen inside a burst: counted once (R422). -/
def withdrawCheck (s : State) (n : Nat) : State :=
  let x := s.chan n
  match x.desc, x.burst with
  | some d, some _ =>
    if !x.counted && !s.dmaRequest n x d then
      (s.setChan n { x with counted := true, withdrawn := x.withdrawn + 1 }).bump (DMA_WITHDRAWN.reg n)
    else s
  | _, _ => s

/-- The next parcel of a fabric exit does not fit in the count that is left (R418). -/
def exitFull (x : DmaSt) (d : DmaDesc) : Bool :=
  d.srcSpace == 6 && x.headDone == 0 && !x.queue.isEmpty &&
    (match dmaLeft x d with
     | some n => decide (n < (headBytes x).length)
     | none => false)

/-- Bytes to the next 4 KiB boundary of the target address, from the next byte on; in a target ring, whose addresses go back to
its start at the wrap (R417). -/
def toPage (s : State) (n : Nat) (x : DmaSt) (d : DmaDesc) : Nat :=
  let m := 4096 - s.dstAt n x d % 4096
  let e := s.ringLen n - s.f (DMA_RING_OWN.reg n)
  if d.ringDst && decide (e < m) then e + (4096 - d.dst % 4096) else m

/-- Bytes of the burst that the channel may start now; 0 for none (R417, R421). -/
def burstSize (s : State) (n : Nat) : Nat :=
  let x := s.chan n
  match x.desc with
  | none => 0
  | some d =>
    if x.fin.isSome || x.burst.isSome || x.parked || x.disabling || s.chanHeld n || s.dmaStalls d || !s.flag (DMA_STATUS.busy n) ||
        exitFull x d || s.dmaOverrun n x d then 0
    else
      let most := min 4096 (min (s.toPage n x d) (s.paceAllows n x d))
      let most := min most ((dmaLeft x d).getD most)
      if d.srcSpace = 6 then min most ((headBytes x).length - x.headDone) else most

/-- Bursts in flight in the engine (R424). -/
def burstsInFlight (s : State) : Nat := ((List.range 128).filter fun n => (s.chan n).burst.isSome).length

/-- The channel that the engine chooses among those that may start a burst: the highest prio, then the next in turn after the
last one of that prio (R424). -/
def dmaChosen (s : State) : Option Nat :=
  let ready := (List.range 128).filter fun n => s.burstSize n != 0
  let top := (ready.map fun n => s.f (DMA_CTL.prio n)).foldl max 0
  let best := ready.filter fun n => s.f (DMA_CTL.prio n) == top
  match best.find? fun n => decide (s.dma.turns.get 127 top < n) with
  | some n => some n
  | none => best.head?

/-! ### Beats (R417, R428) -/

/-- Bytes of a word space at an address. -/
def wordBytes (read : Nat → Word) (a m : Nat) : List Byte :=
  (List.range m).map fun i =>
    let b := a + i
    BitVec.ofNat 8 ((read (b / 4 * 4)).toNat / 2 ^ (8 * (b % 4)))

/-- Bytes as words from a word address on. -/
def wordsOf (b : List Byte) : List Word := (List.range (b.length / 4)).map fun i => BitVec.ofNat 32 (field b (4 * i) 4)

/-- The source position of the next byte to read: past those in the funnel. -/
def readAt (s : State) (n : Nat) (x : DmaSt) (d : DmaDesc) : Nat :=
  if d.ringSrc then d.src + (s.f (DMA_RING_OWN.reg n) + x.funnel.length) % s.ringLen n else s.srcAt n x d + x.funnel.length

/-- Bytes read at the source; `data` is what a host read returns. -/
def srcRead (s : State) (x : DmaSt) (d : DmaDesc) (a m : Nat) (data : List Byte) : List Byte :=
  match d.srcSpace with
  | 2 =>
    let size := s.regionSize d.srcSel
    (List.range m).map fun i => s.sdram.get 0 (s.regionBase d.srcSel + (a + i) % size)
  | 3 => (List.range m).map fun i => if a + i < s.memCapacity then s.sdram.get 0 (a + i) else 0
  | 4 => wordBytes s.kpSpaceRead a m
  | 5 => wordBytes s.bar2Read a m
  | 6 => ((headBytes x).drop (x.headDone + x.funnel.length)).take m
  | _ => (List.range m).map fun i => data.getD i 0

/-- The region, if any, that holds a capture address and is being written (R377, R414). -/
def writtenRegion (s : State) (a : Nat) : Bool :=
  (List.range 64).any fun r => s.regionExists r && s.flag (CAP_REGION_STATUS.writing r) &&
    decide (s.regionBase r ≤ a ∧ a < s.regionBase r + s.regionSize r)

/-- A beat's write is refused: it goes into a region whose formatter or sink writer runs (R414). -/
def dstRefused (s : State) (d : DmaDesc) (a m : Nat) : Bool :=
  match d.dstSpace with
  | 2 => s.flag (CAP_REGION_STATUS.writing d.dstSel)
  | 3 => s.writtenRegion a || s.writtenRegion (a + m - 1)
  | _ => false

/-- Words of a list are written from an address on. -/
def wordsWrite (w : State → Nat → Word → State) (s : State) (a : Nat) : List Word → State
  | [] => s
  | v :: vs => wordsWrite w (w s a v) (a + 4) vs

/-- Bytes are written at the target (R413, R417). -/
def dstWrite (s : State) (x : DmaSt) (d : DmaDesc) (a : Nat) (b : List Byte) : State :=
  match d.dstSpace with
  | 0 => s.emit (.hostWrite .a a b)
  | 1 => s.emit (.hostWrite .b a b)
  | 2 => s.ringWrite d.dstSel a b
  | 3 => s.memWrite a (b.take (s.memCapacity - a))
  | 4 => wordsWrite (fun s a v => s.kpSpaceWrite x.port a v) s a (wordsOf b)
  | _ => wordsWrite (fun s a v => s.bar2Write x.port a v) s a (wordsOf b)

/-- Bytes of the next beat read that the transfer takes, of a burst with `rem` bytes to deliver: to the source's 64-byte boundary,
which for a parcel counts from its first byte, the end of the burst and the end of a source ring (R417). -/
def readSize (s : State) (n : Nat) (x : DmaSt) (d : DmaDesc) (rem : Nat) : Nat :=
  let a := if d.srcSpace = 6 then x.headDone + x.funnel.length else s.readAt n x d
  let m := min (rem - x.funnel.length) (64 - a % 64)
  if d.ringSrc then min m (d.src + s.ringLen n - a) else m

/-- Bytes of the next beat written: to the target's 64-byte boundary, the end of the burst and the end of a target ring (R417). -/
def beatSize (s : State) (n : Nat) (x : DmaSt) (d : DmaDesc) (rem : Nat) : Nat :=
  let m := min rem (64 - s.dstAt n x d % 64)
  if d.ringDst then min m (s.ringLen n - s.f (DMA_RING_OWN.reg n)) else m

/-- The cause with which a beat's read fails; 0 for none: host completions for host memory, ECC for capture memory. -/
def readCause (d : DmaDesc) (got : DmaBeat) : Nat :=
  let c := got.readCause.val
  if d.srcSpace ≤ 1 then (if c = 3 then 0 else c)
  else if d.srcSpace = 2 ∨ d.srcSpace = 3 then (if c = 3 then 3 else 0) else 0

/-- The cause with which a beat's write fails, `c` being what a host answers; 0 for none. -/
def writeCause (s : State) (d : DmaDesc) (a m c : Nat) : Nat :=
  if s.dstRefused d a m then 5 else if d.dstSpace ≤ 1 then (if c = 3 then 0 else c) else 0

/-- The head parcel leaves the queue of a channel. -/
def headDrop (x : DmaSt) : DmaSt := { x with queue := x.queue.drop 1, headDone := 0 }

/-- No burst of a channel is in flight. -/
def dmaStill (x : DmaSt) : DmaSt := { x with burst := none, funnel := [], counted := false }

/-- A burst has ended: a channel that was asked to quiesce parks (R434), and a descriptor whose count is moved is done. -/
def burstEnd (s : State) (n : Nat) (x : DmaSt) (d : DmaDesc) : State :=
  let x := dmaStill x
  if dmaLeft x d = some 0 then s.setChan n { x with fin := some { status := 0, cause := 0, addr := none }, quiesce := false }
  else if x.quiesce then s.setChan n { x with quiesce := false, parked := true }
  else s.setChan n x

/-- A beat has failed, `m` bytes of it being the descriptor's: the beat at `addr` counts from its 64-byte boundary (R428 to
R430). -/
def beatFail (s : State) (n : Nat) (x : DmaSt) (d : DmaDesc) (m status cause addr : Nat) : State :=
  let x := { dmaStill x with quiesce := false }
  let addr := some (addr / 64 * 64)
  if dmaLeft x d = some m then s.setChan n { x with lost := m, fin := some { status := 1, cause := cause, addr := addr } }
  else s.setChan n { x with fin := some { status := status, cause := cause, addr := addr } }

/-- A beat of `m` bytes is delivered out of the funnel. -/
def beatOk (s : State) (n : Nat) (x : DmaSt) (d : DmaDesc) (rem m : Nat) : State :=
  let s := s.dstWrite x d (s.dstAt n x d) (x.funnel.take m)
  let s := s.addWrap (DMA_BYTES.reg n) m
  let y := { x with moved := x.moved + m, burst := some (rem - m), funnel := x.funnel.drop m
                    headDone := if d.srcSpace = 6 then x.headDone + m else x.headDone }
  let y := if d.srcSpace = 6 ∧ (headBytes y).length ≤ y.headDone then headDrop y else y
  let s := (s.setChan n y).ringGo n d m
  if rem = m then s.burstEnd n (s.chan n) d else s

/-- Beats leave the funnel while it holds a whole one; with `flush`, also what is left. `causes` are the host's answers. -/
def funnelOut (s : State) (n : Nat) (d : DmaDesc) (flush : Bool) (causes : List (Fin 5)) : Nat → State
  | 0 => s
  | k + 1 =>
    let x := s.chan n
    match x.burst with
    | none => s
    | some rem =>
      let want := s.beatSize n x d rem
      let m := min want x.funnel.length
      if m = 0 ∨ (m < want ∧ !flush) then s
      else
        let t := s.dstAt n x d
        let c := s.writeCause d t m (causes.headD 0).val
        if c ≠ 0 then s.beatFail n x d m 3 c t else (s.beatOk n x d rem m).funnelOut n d flush (causes.drop 1) k

/-- A channel that touches a domain being taken has not parked. -/
def quiescePending (s : State) : Bool := (List.range 128).any fun n => (s.chan n).quiesce

/-- DMA_PWR_STATUS.quiescing falls once every channel has parked (R434, R449). -/
def quiesceShow (s : State) : State := if s.quiescePending then s else s.set DMA_PWR_STATUS.quiescing 0

/-- What a beat's read meets at the source (R310, R359): errors in the words of capture memory and of the density tables, in
all 64 bytes of the beat at `a` (R417). -/
def srcMeet (s : State) (d : DmaDesc) (a rc : Nat) (fixed : Option (Fin 2 × Fin 39)) : State :=
  let a := a / 64 * 64
  let at_ := if d.srcSpace = 2 then s.regionBase d.srcSel + a % s.regionSize d.srcSel else a
  if rc = 3 then s.memFail at_ 3 none
  else if d.srcSpace = 5 then s.bar2Meet ((List.range 16).map fun i => a + 4 * i)
  else if d.srcSpace = 2 ∨ d.srcSpace = 3 then
    (match fixed with | some e => if rc = 0 then s.memFixed at_ e.1.val e.2.val else s | none => s)
  else s

/-- A beat has been read, or its read has failed; what the funnel holds by then goes out (R417, R428). -/
def beatRead (s : State) (n : Nat) (x : DmaSt) (d : DmaDesc) (rem : Nat) (got : DmaBeat) : State :=
  let m := s.readSize n x d rem
  let a := s.readAt n x d
  let rc := readCause d got
  let s := s.srcMeet d a rc got.fixed
  if rc = 0 then
    (s.setChan n { x with funnel := x.funnel ++ s.srcRead x d a m got.data }).funnelOut n d false got.writeCauses 4
  else
    let s := s.funnelOut n d true got.writeCauses 4
    if (s.chan n).burst.isSome then s.beatFail n (s.chan n) d m 2 rc a else s

/-- The next beat of a channel's burst completes; after a disable what it brings is discarded (R417, R428, R432). -/
def dmaBeat (s : State) (n : Nat) (got : DmaBeat) : State :=
  let x := s.chan n
  match x.desc, x.burst with
  | some d, some rem =>
    let s := if x.disabling then
        s.setChan n { dmaStill x with quiesce := false, fin := some { status := 5, cause := 0, addr := none } }
      else (s.beatRead n x d rem got).withdrawCheck n
    s.quiesceShow.dmaShow n
  | _, _ => s

/-! ### The start and the end of a descriptor -/

/-- A channel fetches a descriptor (R415). -/
def dmaFetch (s : State) (n addr : Nat) : State :=
  let x := s.chan n
  let s := s.setChan n { DmaSt.reset with port := x.port, exit := x.exit, queue := x.queue, disabling := x.disabling
                                          lastStart := x.lastStart }
  (((s.set (DMA_DESC_ADDR.reg n) addr).set (DMA_STATUS.busy n) 1)).dmaShow n

/-- A channel becomes idle: its chain has ended. -/
def dmaIdle (s : State) (n : Nat) : State :=
  ((s.setChan n { DmaSt.reset with port := (s.chan n).port, lastStart := (s.chan n).lastStart }).set (DMA_STATUS.busy n) 0).dmaShow n

/-- After the record of a descriptor is written, the chain goes on or stops (R431, R432). -/
def dmaNext (s : State) (n : Nat) : State :=
  let x := s.chan n
  match x.desc, x.fin with
  | some d, some e =>
    let on := !x.disabling && e.status != 5 && e.status != 7 && (e.status == 0 || d.goOn)
    if on && d.next != 0 then s.dmaFetch n d.next else s.dmaIdle n
  | _, _ => s.dmaShow n

/-- Leases of a descriptor are released (R364, R414). -/
def dmaUnlease (s : State) (n : Nat) (d : DmaDesc) (e : DmaEnd) : State :=
  if e.status = 4 ∨ e.status = 10 then s
  else
    let s := if d.srcSpace = 2 then s.unlease d.srcSel .dma n else s
    if d.dstSpace = 2 then s.unlease d.dstSel .dma n else s

/-- The record that ends the channel's descriptor waits for its queue (R427). -/
def endHeld (s : State) (n : Nat) : Bool := s.dma.held.any fun h => h.channel == some n && h.ends

/-- The record of a descriptor that has ended is written or held, its leases go, and the chain goes on (R425, R427). -/
def dmaRetire (s : State) (n : Nat) : State :=
  let x := s.chan n
  match x.desc, x.fin with
  | some d, some e =>
    if s.endHeld n then s
    else
      let x := if x.headDone = 0 then x else headDrop x
      let r := ((s.setChan n x).dmaUnlease n d e).dmaPost n x d e
      if r.2 then r.1.dmaNext n else r.1.dmaShow n
  | _, _ => s

/-- A descriptor ends now with a status and its record is written (R432, R435). -/
def dmaEnd (s : State) (n status : Nat) : State :=
  let x := s.chan n
  (s.setChan n { dmaStill x with parked := false, quiesce := false
                                 fin := some { status := status, cause := 0, addr := none } }).dmaRetire n

/-- A fetched descriptor starts, or is rejected (R412, R414, R416). -/
def dmaStart (s : State) (n : Nat) (b : List Byte) : State :=
  let d := DmaDesc.ofBytes b
  let x := s.chan n
  let exit := if d.srcSpace = 6 then some (d.srcSel % 4, d.src % 256, bit d.srcSel 4) else none
  let kept := x.exit.map (fun e => (e.1, e.2.1)) == exit.map (fun e => (e.1, e.2.1))
  let x := { x with desc := some d, exit := exit, queue := if kept then x.queue else [] }
  let s := s.set (DMA_RING_OWN.reg n) 0
  let err := fun (st : Nat) => s.setChan n { x with fin := some { status := st, cause := 0, addr := none } }
  let s := if d.formatError || !descReserved b then err 10
    else if s.sideAbsent d.srcSpace d.srcSel d.src (d.span d.ringSrc) ||
        s.sideAbsent d.dstSpace d.dstSel d.dst (d.span d.ringDst) then err 4
    else
      let s := s.setChan n { x with parked := s.dma.taking.any d.touches
                                    fin := if x.disabling then some { status := 5, cause := 0, addr := none } else none }
      let s := if d.srcSpace = 2 then s.lease d.srcSel .dma n else s
      let s := if d.dstSpace = 2 then s.lease d.dstSel .dma n else s
      if d.ring then (s.set (DMA_RING_LEN.reg n) d.ringLen).applyShadow (DMA_RING_LEN.reg n) else s
  s.dmaShow n

/-- Held records of a queue are written while it has room, in the order in which the channels ended (R427). -/
def cqFlush (s : State) (q : Nat) : Nat → State
  | 0 => s
  | k + 1 =>
    match s.cqOldest q with
    | none => s.cqShow q
    | some h =>
      if !s.flag (DMA_CQ_CTL.en q) || s.cqFull q then s.cqShow q
      else
        let s := { s with dma := { s.dma with held := s.dma.held.erase h } }
        let s := s.cqWrite h
        let s := match h.channel with
          | some n => if h.ends then s.dmaNext n else s.dmaShow n
          | none => s
        s.cqFlush q k

/-! ### Register writes (R449) -/

/-- A write to DMA_CTL: prio and port are taken, a disable stops the channel, and go starts it (R411, R432). -/
def dmaCtlWrite (s : State) (n v : Nat) : State :=
  let s := (s.set (DMA_CTL.prio n) (bits v 8 2)).set (DMA_CTL.port n) (bits v 0 1)
  let busy := s.flag (DMA_STATUS.busy n)
  if bit v 30 && busy then
    let x := s.chan n
    let s := (s.setChan n { x with disabling := true, quiesce := false }).quiesceShow
    if x.desc.isNone || x.fin.isSome || x.burst.isSome then s.dmaShow n else s.dmaEnd n 5
  else if bit v 31 && !busy then
    (s.setChan n { DmaSt.reset with port := if bit v 0 then .b else .a, lastStart := (s.chan n).lastStart }).dmaFetch n (s.f (DMA_DESC_ADDR.reg n))
  else s

/-- A write to DMA_DESC_ADDR: dropped while the channel is busy. -/
def dmaAddrWrite (s : State) (n off v : Nat) : State := if s.flag (DMA_STATUS.busy n) then s else s.plainWrite off v

/-- A write to DMA_RING_LEN: a length below 4,096 or not a multiple of 64 is dropped (R420). -/
def dmaRingLenWrite (s : State) (n v : Nat) : State := if v < 4096 ∨ v % 64 ≠ 0 then s else s.set (DMA_RING_LEN.reg n) v

/-- A write to DMA_RING_PARTNER (R419, R422). -/
def dmaPartnerWrite (s : State) (n v : Nat) : State := (s.set (DMA_RING_PARTNER.reg n) v).withdrawCheck n

/-- A write to DMA_CQ_TAIL (R427). -/
def cqTailWrite (s : State) (q v : Nat) : State :=
  let s := (s.set (DMA_CQ_TAIL.index q) v).cqShow q
  s.cqFlush q (s.dma.held.length + 1)

/-- A write to DMA_CQ_BASE: dropped while the queue is enabled, bits 5:0 stay 0. -/
def cqBaseWrite (s : State) (q off v : Nat) : State :=
  if s.flag (DMA_CQ_CTL.en q) then s
  else if off = (DMA_CQ_BASE.reg q).addr then s.plainWrite off (v / 64 * 64) else s.plainWrite off v

/-- A write to DMA_CQ_CTL: port and size hold while en is 1; enabling lets held records go. -/
def cqCtlWrite (s : State) (q v : Nat) : State :=
  let s := if s.flag (DMA_CQ_CTL.en q) then s
    else (s.set (DMA_CQ_CTL.port q) (bits v 8 1)).set (DMA_CQ_CTL.size_log2 q) (bits v 0 5)
  let s := (s.set (DMA_CQ_CTL.en q) (bits v 31 1)).cqShow q
  s.cqFlush q (s.dma.held.length + 1)

/-! ### Power (R434, R435) -/

/-- Channels of a list that touch a domain are asked to quiesce: one that waits parks at once (R434). -/
def quiesceAll (s : State) (x : Domain) : List Nat → State
  | [] => s
  | n :: ns =>
    let c := s.chan n
    let s := match c.desc with
      | some d =>
        if d.touches x && c.fin.isNone && !c.disabling then
          (s.setChan n (if c.burst.isSome then { c with quiesce := true } else { c with parked := true })).dmaShow n
        else s
      | none => s
    s.quiesceAll x ns

/-- The power controller takes down a domain: step 1 of R434. -/
def dmaQuiesce (s : State) (x : Domain) : State :=
  let s := { s with dma := { s.dma with taking := x :: s.dma.taking.filter (· != x), askedAt := s.time.clk } }
  let s := (s.set DMA_PWR_STATUS.forced 0).quiesceAll x (List.range 128)
  s.set DMA_PWR_STATUS.quiescing (b2n s.quiescePending)

/-- Channels of a list that are still not parked are stopped with FORCED records (R434 step 3). -/
def forceAllDma (s : State) : List Nat → State
  | [] => s
  | n :: ns =>
    (if (s.chan n).quiesce then (s.dmaEnd n 7).addSat DMA_PWR_STATUS.forced 1 else s).forceAllDma ns

/-- The HOST domain is about to go down: every channel writes its PARKED_BY_POWER or FORCED record (R435). -/
def dmaDeep (s : State) : List Nat → State
  | [] => s
  | n :: ns =>
    let x := s.chan n
    let s := match x.desc with
      | some _ => if x.fin.isSome then s.dmaRetire n else if x.burst.isSome then s.dmaEnd n 7 else s.dmaEnd n 6
      | none => s
    s.dmaDeep ns

/-- Parked channels of a list whose domains are all on again go on, or end with PARKED_BY_POWER (R435). -/
def resumeAll (s : State) : List Nat → State
  | [] => s
  | n :: ns =>
    let x := s.chan n
    let s := match x.desc with
      | some d =>
        if x.parked && d.domains.all fun y => s.up y && !s.dma.taking.contains y then
          if d.resume then (s.setChan n { x with parked := false, resumed := true }).dmaShow n else s.dmaEnd n 6
        else s
      | none => s
    s.resumeAll ns

end State

/-! ### Meanings -/

/-- DMA_GO (R411, R449): a write of DMA_CTL with go set. -/
def execDmaGo (p : Port) (n : Fin 128) (v : Word) (s : State) : Res :=
  .next (s.hubWrite p (DMA_CTL.reg n).addr none fun s => s.dmaCtlWrite n (v.toNat ||| 2 ^ 31))

/-- DMA_DESC_FETCH (R412, R414 to R417): the descriptor arrives. -/
def execDmaDescFetch (n : Fin 128) (b : List Byte) (s : State) : Res :=
  if s.flag (DMA_STATUS.busy n) && (s.chan n).desc.isNone then .next (s.dmaStart n b) else .next s

/-- DMA_BURST (R421 to R424): a channel starts a burst when its pacing allows one and the engine chooses it. -/
def execDmaBurst (n : Fin 128) (s : State) : Res :=
  let x := s.chan n
  match x.desc with
  | none => .next s
  | some d =>
    let idle := s.flag (DMA_STATUS.busy n) && x.fin.isNone && x.burst.isNone && !x.parked && !x.disabling && !s.chanHeld n
    if !idle then .next s
    else if State.exitFull x d then .next ((s.setChan n { x with fin := some { status := 0, cause := 0, addr := none } }).dmaShow n)
    else if s.dmaOverrun n x d then
      .next ((s.setChan n { x with fin := some { status := 2, cause := 6, addr := some (s.srcAt n x d) } }).dmaShow n)
    else
      let s := s.setChan n { x with fillGo := d.pace != 1 || s.fillRuns n x d }
      let m := s.burstSize n
      if m ≠ 0 ∧ s.burstsInFlight < 16 ∧ s.dmaChosen = some n.val then
        let s := { s with dma := { s.dma with turns := s.dma.turns.put 127 (s.f (DMA_CTL.prio n)) n.val } }
        .next ((s.setChan n { s.chan n with burst := some m, lastStart := some (s.time.clk, m) }).dmaShow n)
      else .next (s.dmaShow n)

/-- DMA_BEAT_COMPLETE (R417, R428 to R430, R432): the next beat of a channel's burst completes or fails. -/
def execDmaBeatComplete (n : Fin 128) (got : DmaBeat) (s : State) : Res := .next (s.dmaBeat n got)

/-- DMA_COMPLETE (R425, R427, R431): the record of a descriptor that has ended. -/
def execDmaComplete (n : Fin 128) (s : State) : Res := .next (s.dmaRetire n)

/-- DMA_DISABLE (R432): a write of DMA_CTL with disable set. -/
def execDmaDisable (p : Port) (n : Fin 128) (v : Word) (s : State) : Res :=
  .next (s.hubWrite p (DMA_CTL.reg n).addr none fun s => s.dmaCtlWrite n (v.toNat ||| 2 ^ 30))

/-- DMA_EXIT_PARCEL (R418, R448, R554): a parcel that leaves a path's exit comes to a channel's queue of 256 KiB. -/
def execDmaExitParcel (n : Fin 128) (x : Parcel) (s : State) : Res :=
  let c := s.chan n
  match c.exit with
  | none => .next s
  | some (p, st, _) =>
    if !x.reaches p st || !s.up .host || s.f PWR_STATE.state != 0 then .next s
    else if !x.crcOk then .next ((s.bump (DMA_EXIT_DROP.reg n)).chkFail x.seq 0 3 8 n 3 (some x.path))
    else
      let used := (c.queue.map fun y => y.bytes.length).foldl (· + ·) 0
      if 256 * 1024 < used + x.bytes.length then
        .next (((s.bump (DMA_EXIT_DROP.reg n)).set (DMA_STATUS.exit_drop n) 1).raise (512 + n))
      else .next (s.setChan n { c with queue := c.queue ++ [x] })

/-- DMA_RING_PARTNER_WRITE (R419, R422). -/
def execDmaRingPartnerWrite (p : Port) (n : Fin 128) (v : Word) (s : State) : Res :=
  .next (s.hubWrite p (DMA_RING_PARTNER.reg n).addr none fun s => s.dmaPartnerWrite n v.toNat)

/-- DMA_CQ_TAIL_WRITE (R427). -/
def execDmaCqTailWrite (p : Port) (q : Fin 16) (v : Word) (s : State) : Res :=
  .next (s.hubWrite p (DMA_CQ_TAIL.reg q).addr none fun s => s.cqTailWrite q (v.toNat % 65536))

/-- DMA_QUIESCE_TIMEOUT (R434 step 3): channels not parked quiesce_us after the request are stopped; event 45. -/
def execDmaQuiesceTimeout (s : State) : Res :=
  if s.quiescePending ∧ 2560 * max 1 (s.f DMA_PWR.quiesce_us) ≤ s.time.clk - s.dma.askedAt then .next (((s.forceAllDma (List.range 128)).set DMA_PWR_STATUS.quiescing 0).raise 45) else .next s

/-- DMA_RESUME (R435): parked channels whose domains are on again. -/
def execDmaResume (s : State) : Res := .next (s.resumeAll (List.range 128))

end Sys2Proof.Machine
end

