-- ==== Sys2Proof/Machine/Ens.lean ====
section
/-! DEFINITION. Ensembles: the String link's tokens, fingerprints and verdicts, arming by token, SYNC and the agreement on
time (18_ensemble.md). -/

namespace Sys2Proof.Machine

namespace State

/-! ### Fingerprints and verdicts (R527 to R529) -/

/-- The revision class of R528; a revision outside the table is a class of its own. -/
def revClass (r : Nat) : Nat := if r = 0x11 ∨ r = 0x12 then 256 else if r = 0x20 ∨ r = 0x21 then 257 else r

/-- The code of the first field in which two fingerprints disagree, by R528's order. -/
def fpCompare (a b : List Byte) : Nat :=
  if field a 0 8 ≠ field b 0 8 then 1
  else if revClass (field a 18 1) ≠ revClass (field b 18 1) then 2
  else if field a 16 2 ≠ field b 16 2 then 3
  else if field a 8 4 ≠ field b 8 4 then 4
  else if field a 12 4 ≠ field b 12 4 then 5
  else 0

/-- The payload of a VERDICT token (R529). -/
def verdictPayload (s : State) : List Byte :=
  leBytes 2 (s.f ENS_MEMBERS.held) ++
    leBytes 8 (((List.range 16).map fun m => s.f (ENS_FP_FIELD.code m) * 16 ^ m).foldl (· + ·) 0)

/-- The leader has received a fingerprint: compared, and a VERDICT goes out (R522, R528, R529). `second` says that it comes
from a second member with its id. -/
def fpTake (s : State) (x : EnsToken) (second : Bool) : State :=
  let m := x.origin % 16
  let code := if second || m == s.f ENS_CTL.id then 6 else fpCompare x.payload s.fingerprint
  let s := s.set ENS_MEMBERS.present (setBit (s.f ENS_MEMBERS.present) m)
  let s := s.set ENS_LAGGING.time_fault
    (if bit (field x.payload 19 1) 0 then setBit (s.f ENS_LAGGING.time_fault) m else clearBit (s.f ENS_LAGGING.time_fault) m)
  let s := s.set (ENS_FP_FIELD.code m) code
  let s := s.set ENS_MEMBERS.held (if code = 0 then clearBit (s.f ENS_MEMBERS.held) m else setBit (s.f ENS_MEMBERS.held) m)
  s.ensSend 2 0 s.now.tick s.verdictPayload

/-- A follower has received a VERDICT (R529). -/
def verdictTake (s : State) (x : EnsToken) : State :=
  let id := s.f ENS_CTL.id
  let code := field x.payload 2 8 / 16 ^ id % 16
  if bit (field x.payload 0 2) id then
    let s := s.set ENS_STATUS.fp_field code
    if s.flag ENS_STATUS.held then s
    else (((s.ensDisarm).set ENS_STATUS.held 1).raise 892).ensShow
  else ((s.set ENS_STATUS.held 0).set ENS_STATUS.fp_field code).ensShow

/-! ### Arm and disarm (R530 to R533) -/

/-- A token's masks, kept to the scope, wait for its tick. -/
def ensAccept (s : State) (what : EnsWhat) (rgn cond tick : Nat) : State :=
  let a : EnsApply := { what := what, rgn := rgn, cond := cond, tick := tick }
  s.setEns { s.ens with applies := s.ens.applies ++ [a] }

/-- The leader sends an ARM (3) or DISARM (4) token (R530, R531). -/
def ensToken (s : State) (type_ : Nat) : State :=
  let tick := (s.now.tick + max 2560 (s.f ENS_LEAD.reg)) % 2 ^ 64
  let r := s.f ENS_ARM_RGN.reg &&& s.f ENS_SCOPE_RGN.reg
  let c := s.f ENS_ARM_COND.reg &&& s.f ENS_SCOPE_COND.reg
  let isIn := s.flag ENS_STATUS.in_
  let s := (s.set ENS_TOKEN_STATUS.busy 1).set ENS_APPLY.reg tick
  let s := s.setEns { s.ens with
    armedRgn := if type_ = 3 then s.ens.armedRgn ||| r else s.ens.armedRgn - (s.ens.armedRgn &&& r)
    armedCond := if type_ = 3 then s.ens.armedCond ||| c else s.ens.armedCond - (s.ens.armedCond &&& c) }
  let s := s.ensSend type_ (b2n isIn * 2 ^ s.f ENS_CTL.id) tick (leBytes 8 r ++ leBytes 8 c)
  if isIn then s.ensAccept (if type_ = 3 then .arm else .disarm) r c tick else s

/-- A write to ENS_TOKEN (R530). -/
def ensTokenWrite (s : State) (v : Nat) : State :=
  let t := bits v 29 2
  if bit v 31 && s.ensLeads && !s.flag ENS_TOKEN_STATUS.busy && (t == 1 || t == 2) then s.ensToken (t + 2) else s

/-- A follower has received an ARM or DISARM token without a gap: the ack bit it forwards with, and the state (R531,
R533); a held member ignores ARM (R529). -/
def armTake (s : State) (x : EnsToken) : State × Bool :=
  if s.flag ENS_STATUS.held ∧ x.type_ = 3 then (s, false)
  else if x.tick ≤ s.now.tick then (s.ensLag, false)
  else if !s.flag ENS_STATUS.in_ then (s, false)
  else
    let r := field x.payload 0 8 &&& s.f ENS_SCOPE_RGN.reg
    let c := field x.payload 8 8 &&& s.f ENS_SCOPE_COND.reg
    ((s.ensAccept (if x.type_ = 3 then .arm else .disarm) r c x.tick).set ENS_APPLY.reg x.tick, true)

/-- An accepted token applies (R531, R535): a STATE token's masks are what is armed then. -/
def ensApply (s : State) (a : EnsApply) : State :=
  let at_ : Stamp := ⟨a.tick, 0⟩
  match a.what with
  | .arm => (s.ensRgns true a.tick (bitList 64 a.rgn)).condsArm true at_ (bitList 64 a.cond)
  | .disarm => (s.ensRgns false a.tick (bitList 64 a.rgn)).condsArm false at_ (bitList 64 a.cond)
  | .state =>
    let s := s.ensRgns false a.tick ((bitList 64 (s.f ENS_SCOPE_RGN.reg)).filter fun r => !bit a.rgn r)
    let s := s.condsArm false at_ ((bitList 64 (s.f ENS_SCOPE_COND.reg)).filter fun c => !bit a.cond c)
    (s.ensRgns true a.tick (bitList 64 a.rgn)).condsArm true at_ (bitList 64 a.cond)

/-- The earliest tick that waits among the tokens of a kind. -/
def ensNext (as : List EnsApply) : Option Nat := (as.map EnsApply.tick).min?

/-- An ARM or DISARM token is back at the leader (R533). -/
def ensReturn (s : State) (ack : Nat) : State :=
  if !s.flag ENS_TOKEN_STATUS.busy then s
  else
    let waited := s.ens.members &&& (65535 - s.f ENS_MEMBERS.held) &&& (65535 - s.f ENS_LAGGING.lagging)
    let late := waited - (waited &&& ack)
    let s := (s.set ENS_TOKEN_STATUS.busy 0).set ENS_TOKEN_STATUS.ack ack
    (s.set ENS_LAGGING.lagging (s.f ENS_LAGGING.lagging ||| late)).raise 897

/-! ### SYNC and time (R534 to R537) -/

/-- SYNC_CTL.arm is set (R534 step 2). -/
def syncArm (s : State) : State := (s.set SYNC_CTL.arm 1).set SYNC_STATUS.armed 1

/-- A write of 1 to ENS_CTL.sync on the leader (R534 step 1, R537); one more while SYNC_PREP is out is dropped, and one after
that starts anew (DESIGN CHOICE, log entry 38). -/
def ensSyncGo (s : State) : State :=
  if !s.ensLeads ∨ s.ens.stage = 1 then s
  else
    let restep := b2n s.ens.stepped
    let s := s.setEns { s.ens with stage := 1, stepped := false, prepAt := s.time.clk }
    (s.syncArm).ensSend 5 (2 ^ s.f ENS_CTL.id) s.now.tick (leBytes 4 (s.f ENS_SYNC_NUM.reg + 1) ++ leBytes 1 restep)

/-- A follower has received SYNC_PREP: it arms, and owes a fingerprint (R527, R534 step 2). -/
def prepTake (s : State) (x : EnsToken) : State :=
  (s.syncArm).setEns { s.ens with edge := none, prepRestep := bit (field x.payload 4 1) 0, sentFp := none }

/-- The member returns to in at this SYNC (R529, R535). -/
def ensReturnIn (s : State) : State :=
  if s.flag ENS_STATUS.held then s
  else
    let s := s.setEns { s.ens with out := false, rejoin := s.ens.out }
    (s.set ENS_STATUS.lagging 0).set ENS_STATUS.excluded 0

/-- A follower joins in time: it steps by whole phase bins (R535). This is not the step that ends TIME_HOLDOVER (R223; DESIGN CHOICE,
log entry 29). -/
def ensJoin (s : State) (own d : Int) : State :=
  let k := roundEven d 1024
  let s := s.moveTime (-k)
  let s := (s.set UPLL_STEP.reg (unsigned 64 (-k))).set UPLL_STEP_AT.reg (unsigned 64 ((own - 1024 * k) / 65536))
  let s := (s.raise 70).set ENS_TIME_DIFF.reg (unsigned 32 (d - 1024 * k))
  let s := s.setEns { s.ens with first := false }
  ((s.set ENS_CTL.restep 0).set ENS_STATUS.joined 1).set ENS_STATUS.time_fault 0

/-- A follower has received TIME (R534 step 6, R535, R536). -/
def timeTake (s : State) (x : EnsToken) : State :=
  match s.ens.edge with
  | none => s
  | some own =>
    let d := own - ((65536 * x.tick + field x.payload 0 2 : Nat) : Int)
    let s := s.setEns { s.ens with edge := none }
    if s.ens.first || s.flag ENS_CTL.restep || s.ens.prepRestep then ((s.ensJoin own d).ensReturnIn).ensShow
    else
      let s := (s.set ENS_TIME_DIFF.reg (unsigned 32 d)).ensReturnIn
      if 2013 < d.natAbs then s.ensFault else (s.set ENS_STATUS.time_fault 0).ensShow

/-- A follower has received STATE (R529, R535). -/
def stateTake (s : State) (x : EnsToken) : State :=
  if s.flag ENS_STATUS.held ∨ !s.ens.rejoin ∨ !s.flag ENS_STATUS.in_ then s
  else
    let r := field x.payload 0 8 &&& s.f ENS_SCOPE_RGN.reg
    let c := field x.payload 8 8 &&& s.f ENS_SCOPE_COND.reg
    let s := s.setEns { s.ens with rejoin := false }
    s.ensAccept .state r c x.tick

/-- SYNC_PREP is back at the leader: SYNC_OUT pulses (R534 step 3). -/
def prepBack (s : State) (x : EnsToken) : State :=
  if s.ens.stage ≠ 1 then s
  else
    let s := s.setEns { s.ens with stage := 2, members := x.ack }
    if s.f SYNC_CTL.out_mode = 2 then s.syncPulse s.now.tick else s

/-- TIME is back at the leader: STATE goes out, event 895 (R534 step 7, R535). -/
def timeBack (s : State) : State :=
  if s.ens.stage ≠ 3 then s
  else
    let tick := (s.now.tick + max 2560 (s.f ENS_LEAD.reg)) % 2 ^ 64
    let r := s.ens.armedRgn
    let c := s.ens.armedCond
    let s := s.setEns { s.ens with stage := 0 }
    let s := s.set ENS_LAGGING.lagging (s.f ENS_LAGGING.lagging &&& (65535 - (s.ens.members &&& s.f ENS_LAGGING.lagging)))
    let s := s.ensSend 7 0 tick (leBytes 8 r ++ leBytes 8 c)
    let s := if s.ens.rejoin then (s.setEns { s.ens with rejoin := false }).ensAccept .state r c tick else s
    (s.raise 895).addWrap ENS_SYNC_NUM.reg 1

/-! ### Receiving (R524 to R526, R533) -/

/-- Whether a leader token is new, and whether its sequence number leaves a gap (R526, R533). -/
def ensNew (s : State) (seq : Nat) : Bool × Bool :=
  match s.ens.rxSeq with
  | none => (true, false)
  | some k =>
    let d := (seq + 65536 - k) % 65536
    (0 < d && d < 32768, 1 < d && d < 32768)

/-- A follower acts on a leader token that is new; its own ack bit says what it forwards (R531). -/
def ensAct (s : State) (x : EnsToken) (gap : Bool) : State × Bool :=
  match x.type_ with
  | 2 => (s.verdictTake x, false)
  | 3 => if gap then (s, false) else s.armTake x
  | 4 => if gap then (s, false) else s.armTake x
  | 5 => (s.prepTake x, true)
  | 6 => (s.timeTake x, false)
  | 7 => if gap then (s, false) else (s.stateTake x, false)
  | _ => (s, false)

/-- A follower receives a token whose check value is right: it forwards it on its ring, and acts on it once (R524, R526). -/
def followTake (s : State) (ring : Nat) (x : EnsToken) : State :=
  if x.type_ = 1 then (if x.origin = s.f ENS_CTL.id then s else s.ensPut ring x)
  else
    let n := s.ensNew x.seq
    if !n.1 then s.ensPut ring x
    else
      let s := (s.setEns { s.ens with rxSeq := some x.seq }).set ENS_STATUS.on_ring1 ring
      let s := if n.2 then (s.bump ENS_COUNTS.seq_gaps).ensLag else s
      let r := s.ensAct x n.2
      r.1.ensPut ring { x with ack := if r.2 then x.ack ||| 2 ^ r.1.f ENS_CTL.id else x.ack }

/-- The leader receives a token whose check value is right. -/
def leadTake (s : State) (x : EnsToken) (second : Bool) : State :=
  match x.type_ with
  | 1 => s.fpTake x second
  | 3 => s.ensReturn x.ack
  | 4 => s.ensReturn x.ack
  | 5 => s.prepBack x
  | 6 => s.timeBack
  | _ => s

/-- The block lock of a ring's receiver (R526, R539). -/
def ringUp (ring : Nat) : Loc := if ring = 0 then ENS_STATUS.ring0_up else ENS_STATUS.ring1_up

/-- A valid token has come on a ring (R526). -/
def ensHear (s : State) (ring : Nat) : State := s.setEns { s.ens with heard := s.ens.heard.put 0 ring s.time.clk }

/-- A token that fails its check is discarded (R525); those of the last millisecond count for ring loss (R526). -/
def ensDiscard (s : State) (ring : Nat) : State :=
  s.setEns { s.ens with
    discards := (ring, s.time.clk) :: s.ens.discards.filter fun d => decide (s.time.clk < d.2 + 2560000) }

/-- A ring has given no valid token for 50 us (R526). -/
def ringQuiet (s : State) (ring : Nat) : Bool := decide (s.ens.heard.get 0 ring + 128000 ≤ s.time.clk)

/-- A condition that counts as loss of a ring holds (R526). -/
def ringLost (s : State) (ring : Nat) (lockLost : Bool) : Bool :=
  lockLost || s.ringQuiet ring ||
    decide (4 < (s.ens.discards.filter fun d => d.1 == ring && decide (s.time.clk < d.2 + 2560000)).length)

/-! ### Register writes -/

/-- A write to ENS_CTL (R522, R534): role and id stay while en is 1; with en the member starts anew. -/
def ensCtlWrite (s : State) (v : Nat) : State :=
  let was := s.flag ENS_CTL.en
  let old := s.f ENS_CTL.reg
  let w := if was then insertBits (insertBits v 16 4 (bits old 16 4)) 8 2 (bits old 8 2) else v
  let s := s.plainWrite ENS_CTL.reg.addr w
  let s := if !was && bit v 31 then
      let s := s.setEns { EnsSt.reset with txSeq := s.ens.txSeq, heard := [(0, s.time.clk), (1, s.time.clk)], sentAt := s.time.clk }
      (s.set ENS_STATUS.fp_field 0).set ENS_STATUS.reg (s.f ENS_STATUS.reg &&& 0x380)
    else s
  let s := if was && !bit v 31 then (s.setEns { s.ens with applies := [], stage := 0 }).set ENS_TOKEN_STATUS.busy 0 else s
  let s := s.ensShow
  if bit v 30 then s.ensSyncGo else s

/-- A write to ENS_SCOPE_RGN or ENS_SCOPE_COND: dropped while en is 1 (R539). -/
def ensScopeWrite (s : State) (off v : Nat) : State := if s.flag ENS_CTL.en then s else s.plainWrite off v

end State

/-! ### Meanings -/

/-- ENS_TOKEN_RX (R524 to R526): a token arrives on a ring that has block lock; `second` says that a FPRINT comes from a
second member with its origin's id. -/
def execEnsTokenRx (ring : Fin 2) (bytes : List Byte) (second : Bool) (s : State) : Res :=
  if !s.ensOn ∨ !s.flag (State.ringUp ring) then .next s
  else match EnsToken.ofBytes bytes with
    | none => .next (s.ensDiscard ring)
    | some x =>
      let s := s.ensHear ring
      .next (if s.ensLeads then s.leadTake x second else s.followTake ring x)

/-- ENS_HEARTBEAT (R525): no other token has been due for 10 us. -/
def execEnsHeartbeat (s : State) : Res :=
  if s.ensLeads ∧ s.ens.sentAt + 25600 ≤ s.time.clk then .next (s.ensSend 8 0 s.now.tick []) else .next s

/-- ENS_RING_LOSS (R526): ring loss is found on a ring, with its block lock or not; `silent` when the member is to judge
whether neither ring has given a valid token for 50 us. -/
def execEnsRingLoss (ring : Fin 2) (lockLost silent : Bool) (s : State) : Res :=
  let s := if lockLost then s.set (State.ringUp ring) 0 else s
  let s := if s.ensLeads && ring == 0 && s.ensRing == 0 && s.flag ENS_CTL.ring_auto && s.ringLost ring lockLost then
      let s := (s.set ENS_STATUS.on_ring1 1).raise 896
      let s := (s.ens.sent.reverse).foldl (fun s x => s.ensPut 1 x) s
      (s.marked 0x09 (if lockLost then 0x6 else Config.ledgerRingCause) 0 Config.ledgerRingDetail).sparesLow 0
    else s
  .next (if silent && s.ensOn && s.ringQuiet 0 && s.ringQuiet 1 then s.ensLag else s)

/-- ENS_FPRINT (R527): the follower sends its fingerprint, where it owes one or a field has changed. -/
def execEnsFprint (s : State) : Res :=
  if s.ensFollows ∧ s.ens.sentFp ≠ some s.fingerprint then
    .next ((s.setEns { s.ens with sentFp := some s.fingerprint }).ensPut s.ensRing { type_ := 1, origin := s.f ENS_CTL.id, seq := 0, ack := 0, tick := s.now.tick, payload := s.fingerprint })
  else .next s

/-- ENS_TOKEN_ARM (R530): a write of ENS_TOKEN with go and type ARM. -/
def execEnsTokenArm (p : Port) (v : Word) (s : State) : Res :=
  .next (s.hubWrite p ENS_TOKEN.reg.addr (some 4) fun s => s.ensTokenWrite (v.toNat % 2 ^ 29 + 5 * 2 ^ 29))

/-- ENS_TOKEN_DISARM (R530): a write of ENS_TOKEN with go and type DISARM. -/
def execEnsTokenDisarm (p : Port) (v : Word) (s : State) : Res :=
  .next (s.hubWrite p ENS_TOKEN.reg.addr (some 4) fun s => s.ensTokenWrite (v.toNat % 2 ^ 29 + 6 * 2 ^ 29))

/-- ENS_TOKEN_APPLY (R531): the earliest tick of the ARM and DISARM tokens that wait has come; arms apply first, so that a
disarm at the same sample holds. -/
def execEnsTokenApply (s : State) : Res :=
  let as := s.ens.applies.filter fun a => a.what != .state
  match State.ensNext as with
  | none => .next s
  | some t =>
    if s.now.tick < t then .next s
    else
      let s := s.setEns { s.ens with applies := s.ens.applies.filter fun a => a.what == .state || a.tick != t }
      let due := as.filter fun a => a.tick == t
      let s := (due.filter fun a => a.what == .arm).foldl State.ensApply s
      .next ((due.filter fun a => a.what == .disarm).foldl State.ensApply s)

/-- ENS_TOKEN_RETURN (R533): an ARM or DISARM token is back, with its ack bits. -/
def execEnsTokenReturn (ack : BitVec 16) (s : State) : Res := if s.ensLeads then .next (s.ensReturn ack.toNat) else .next s

/-- ENS_SYNC (R534): a write of ENS_CTL with sync set. -/
def execEnsSync (p : Port) (v : Word) (s : State) : Res :=
  .next (s.hubWrite p ENS_CTL.reg.addr (some 4) fun s => s.ensCtlWrite (v.toNat ||| 2 ^ 30))

/-- ENS_SYNC_ABORT (R534 step 3): SYNC_PREP has not come back within 100 us. -/
def execEnsSyncAbort (s : State) : Res :=
  if s.ens.stage = 1 ∧ s.ens.prepAt + 256000 ≤ s.time.clk then .next ((s.setEns { s.ens with stage := 0 }).raise 898)
  else .next s

/-- ENS_STATE_APPLY (R535): the tick of a STATE token that waits has come. -/
def execEnsStateApply (s : State) : Res :=
  match s.ens.applies.find? fun a => a.what == .state && decide (a.tick ≤ s.now.tick) with
  | none => .next s
  | some a =>
    .next ((s.setEns { s.ens with applies := s.ens.applies.filter fun b => b.what != .state }).ensApply a)

/-- ENS_RING_BLOCK_LOCK (R526, R539): a receiver of the String link gains block lock. -/
def execEnsRingBlockLock (ring : Fin 2) (s : State) : Res :=
  if s.up .host then .next (s.set (State.ringUp ring) 1) else .next s

end Sys2Proof.Machine
end

