-- ==== Sys2Proof/Machine/KpInstr.lean ====
section
/-! DEFINITION. The instructions of the kernel processors (12_kernel_processors.md). -/

namespace Sys2Proof.Machine

namespace State

/-- An instruction of a kind that can be repeated and that SH1 mode has: one word, one cycle. -/
def kpPlain (classes : List Nat) (fields : List (Nat × Nat × Nat)) : KpKind :=
  { classes := classes, fields := fields, repeatable := true, sh1 := true, len := 1, cycles := 1 }

/-- An instruction that cannot be repeated. -/
def kpOnce (classes : List Nat) (fields : List (Nat × Nat × Nat)) : KpKind :=
  { kpPlain classes fields with repeatable := false }

/-! ### ALU (R388, R395) -/

/-- The part of a register that an ALU operand takes. -/
def aluPart (half hi : Bool) : KpPart := if half then (if hi then .hi else .lo) else .word

/-- An ALU operation on a first source and a second one, `b` (R388, R395). -/
def kpAlu (s : State) (n : Nat) (x : KpAlu) (b : Nat) : State :=
  let w := if x.half then 16 else 32
  let a := s.kpRead n (.w x.a (aluPart x.half x.aHi))
  let sr := (s.kpOf n).sr.toNat
  let r := alu x.op w a (b % 2 ^ w) x.shift (bit sr 1)
  let d := if r.carry.isNone || r.ovf.isNone then s.draw else (0, s)
  let s := d.2
  let s := if x.op = .cmp then s else s.kpPut n (.w x.dst (aluPart x.half x.dstHi)) r.value
  s.setKp n { s.kpOf n with sr := BitVec.ofNat 32 (srFlags sr w r (Config.kpFree d.1)) }

/-- The second source of an ALU instruction. -/
def aluB (s : State) (n : Nat) (x : KpAlu) : Nat := s.kpRead n (.w x.b (aluPart x.half x.bHi))

/-- An operation takes a second register. -/
def aluTwo (op : KpAluOp) : Bool :=
  match op with
  | .not_ => false
  | .shl => false
  | .shr => false
  | .sar => false
  | _ => true

/-- The fields of an ALU instruction that R395 places. -/
def aluFields (x : KpAlu) : List (Nat × Nat × Nat) :=
  (if x.op = .cmp then [] else [(23, 4, x.dst.val)]) ++ [(19, 4, x.a.val)] ++ (if aluTwo x.op then [(15, 4, x.b.val)] else [])

/-! ### Multiply (R389, R390) -/

/-- A guard overflow of a sum register: SR.aov, and source 5 where it is enabled (R390). -/
def kpOver (s : State) (n a : Nat) : State :=
  let x := s.kpOf n
  let s := s.setKp n { x with sr := BitVec.ofNat 32 (setBit x.sr.toNat (12 + a)) }
  if bit x.imask.toNat 5 then s.kpPend n 5 else s

/-- A sum register takes a sum of products, or is overwritten by it (R389, R390). -/
def kpSumAdd (s : State) (n a : Nat) (p : Int) (overwrite : Bool) : State :=
  let x := s.kpOf n
  let old := if overwrite then 0 else s.kpS n a
  let r := sumAdd old p (bit x.sr.toNat (16 + a)) (!overwrite && bit x.sr.toNat (20 + a))
  let sr := if r.2.2 then setBit x.sr.toNat (20 + a) else clearBit x.sr.toNat (20 + a)
  let s := s.setKp n { x with sum := x.sum.put 0 a (BitVec.ofNat 40 r.1), sr := BitVec.ofNat 32 sr }
  if r.2.1 then s.kpOver n a else s

/-- The product of two halves under the instruction's u bit and SR.frac. -/
def kpProduct (s : State) (n : Nat) (x : KpMul) (neg : Bool) (a b : Nat) : Int :=
  signBy neg (mulHalves (bit (s.kpOf n).sr.toNat 10) x.u a b)

/-- MAC4 and MPY4 (R389). -/
def kpMul4 (s : State) (n : Nat) (x : KpMul) (overwrite : Bool) : State :=
  let a := s.kpW n x.x
  let b := s.kpW n x.y
  let lo := fun (v : Nat) => bits v 0 16
  let hi := fun (v : Nat) => bits v 16 16
  let p0 := s.kpProduct n x x.neg0 (lo a) (lo b)
  let p1 := s.kpProduct n x x.neg1 (hi a) (hi b)
  let p2 := s.kpProduct n x x.neg2 (lo a) (hi b)
  let p3 := s.kpProduct n x x.neg3 (hi a) (lo b)
  (((s.kpSumAdd n 0 p0 overwrite).kpSumAdd n 1 p1 overwrite).kpSumAdd n 2 p2 overwrite).kpSumAdd n 3 p3 overwrite

/-- MAC2 and MPY2 (R389). -/
def kpMul2 (s : State) (n a : Nat) (x : KpMul) (overwrite : Bool) : State :=
  let v := s.kpW n x.x
  let w := s.kpW n x.y
  let p := s.kpProduct n x x.neg0 (bits v 0 16) (bits w 0 16) + s.kpProduct n x x.neg1 (bits v 16 16) (bits w 16 16)
  s.kpSumAdd n a p overwrite

/-- The two parallel moves of a multiply instruction, beside its effect (R395). -/
def kpMoves (old s : State) (n : Nat) (got : KpGot) (mx my : KpMove) : KpEnd :=
  (s.kpMove old n got false mx).andThen fun s => s.kpMove old n got true my

/-- The fields of a multiply instruction that R395 places. -/
def mulFields (x : KpMul) : List (Nat × Nat × Nat) := [(23, 4, x.x.val), (19, 4, x.y.val), (14, 1, b2n x.u)]

/-! ### Loads and stores (R386, R391, R395) -/

/-- The move form code of LD and ST (R395). -/
def modeFields (c : Fin 8) : KpMode → List (Nat × Nat × Nat)
  | .step .stride => [(20, 3, c.val), (15, 2, 0)]
  | .step .none => [(20, 3, c.val), (15, 2, 1)]
  | .step .neg => [(20, 3, c.val), (15, 2, 2)]
  | .offset o => [(20, 3, c.val), (15, 2, 3), (0, 15, unsigned 15 o)]

/-- The fields of LD and ST that R395 places. -/
def ldFields (d : KpData) (c : Fin 8) (m : KpMode) : List (Nat × Nat × Nat) :=
  (match d with
    | .w i => [(23, 4, i.val)]
    | _ => []) ++ modeFields c m

/-- The register of an LD or ST, as MOV names it. -/
def dataReg : KpData → KpReg
  | .w i => .w i .word
  | .sw a => .sw a
  | .sg a => .sg a

/-- LD (R386): a 16-bit load takes the low half of the word (log entry 43). -/
def kpLd (s : State) (n : Nat) (got : KpGot) (d : KpData) (c : Fin 8) (y half : Bool) (m : KpMode) : KpEnd :=
  s.kpLoad n got y (s.kpEa n c m) fun s v =>
    let r := s.kpWiden (if half then v % 2 ^ 16 else v) (if half then 16 else 32) (kpWidth (dataReg d))
    .go ((r.2.kpPut n (dataReg d) r.1).kpEaStep n c m)

/-- A value of a width goes to memory as a whole word: the bits above are free where no rule gives them. -/
def kpStoreValue (s : State) (n : Nat) (y : Bool) (ea v w : Nat) (f : State → KpEnd) : KpEnd :=
  let r := s.kpWiden v w 32
  r.2.kpStore n y ea r.1 f

/-- ST (R386). -/
def kpSt (s : State) (n : Nat) (d : KpData) (c : Fin 8) (y half : Bool) (m : KpMode) : KpEnd :=
  let w := if half then min 16 (kpWidth (dataReg d)) else kpWidth (dataReg d)
  s.kpStoreValue n y (s.kpEa n c m) (s.kpRead n (dataReg d)) w fun s => .go (s.kpEaStep n c m)

/-- ST.S (R391, R403). -/
def kpStS (s : State) (n a : Nat) (c : Fin 8) (y half : Bool) (m : KpMode) : KpEnd :=
  let r := storeSum (s.kpS n a) half (s.kpSh1 n)
  s.kpStoreValue n y (s.kpEa n c m) r.1 (if half then 16 else 32) fun s =>
    let s := s.kpEaStep n c m
    if r.2 then .go ((s.setKp n { s.kpOf n with sr := BitVec.ofNat 32 (setBit (s.kpOf n).sr.toNat 11) }).kpPend n 6) else .go s

/-! ### Search and exponent (R393, R394) -/

/-- The index of a value in a search (R393): places past the origin of the cursor's window. -/
def searchIndex (s : State) (n c ea : Nat) : Nat :=
  unsigned 32 ((ea : Int) - (bits ((s.kpOf n).win.get 0 c).toNat 0 13 : Int))

/-- A loaded half is compared with the low half of Wd, `h` being 1 for the high one. -/
def searchHalf (s : State) (n d i : Nat) (max u : Bool) (v ix h : Nat) : State :=
  let old := bits (s.kpW n d) 0 16
  if beats max u 16 v old then
    (s.putW n d (if u then v else unsigned 32 (signed 16 v))).putW n i ((2 * ix + h) % 2 ^ 32)
  else s

/-- MAX and MIN (R393). -/
def kpSearch (s : State) (n : Nat) (got : KpGot) (d i : Fin 16) (c : Fin 8) (max u half : Bool) (f : KpStep) : KpEnd :=
  let ea := s.kpCur n c
  let ix := s.searchIndex n c ea
  s.kpLoad n got (4 ≤ c.val) ea fun s v =>
    let s := if half then (s.searchHalf n d i max u (bits v 0 16) ix 0).searchHalf n d i max u (bits v 16 16) ix 1
      else if beats max u 32 v (s.kpW n d) then (s.putW n d v).putW n i ix else s
    .go (s.kpCurStep n c f)

/-- The fields of MAX and MIN (R395). -/
def searchFields (d i : Fin 16) (c : Fin 8) (u : Bool) (f : KpStep) : List (Nat × Nat × Nat) :=
  [(23, 4, d.val), (19, 4, i.val), (16, 3, c.val), (15, 1, b2n u),
   (13, 2, match f with
     | .stride => 0
     | .none => 1
     | .neg => 2)]

/-- The width and the value of a source of EXP and NORM. -/
def kpSrc (s : State) (n : Nat) : KpSrc → Nat × Nat
  | .w i part => (kpWidth (.w i part), s.kpRead n (.w i part))
  | .s a => (40, s.kpS n a)

/-- A destination of NORM takes a value. -/
def kpSrcPut (s : State) (n v : Nat) : KpSrc → State
  | .w i part => s.kpPut n (.w i part) v
  | .s a => s.putS n a v

/-- The W register of a field, where the operand is one. -/
def srcField (lo : Nat) : KpSrc → List (Nat × Nat × Nat)
  | .w i _ => [(lo, 4, i.val)]
  | .s _ => []

/-! ### Loops, repeats and calls -/

/-- A count, from an immediate or a register. -/
def kpCount (s : State) (n : Nat) : KpCount → Nat
  | .imm k => k
  | .reg w => s.kpW n w % 2 ^ 17

/-- Words of the instruction at an address: two for a class with an extension word (R395). -/
def kpLen (s : State) (n pc : Nat) : Nat := if bits (s.kpMem n (pc % 8192)).toNat 27 5 = 0x0D then 2 else 1

/-- The instruction at an address is passed over: loops that end there go round or are over (R392). -/
def kpPass (s : State) (n pc : Nat) : KpEnd :=
  let r := loopEnd pc ((pc + s.kpLen n pc) % 8192) (s.kpOf n).loops
  .jump (s.setKp n { s.kpOf n with loops := r.1 }) r.2

/-- LOOP (R395): a fifth nested loop is LOOP_OVER; a count of 0 passes the body over (log entry 44). -/
def kpLoop (s : State) (n : Nat) (count : KpCount) (stop : Nat) : KpEnd :=
  let x := s.kpOf n
  let k := s.kpCount n count
  if 4 ≤ x.loops.length then .fault 5 none
  else if k = 0 then s.kpPass n stop
  else .go (s.setKp n { x with loops := { start := (s.kpPc n + 1) % 8192, stop := stop, left := k } :: x.loops })

/-- REP (R392): a register count of 0 skips the next instruction. -/
def kpRep (s : State) (n : Nat) (count : KpCount) : KpEnd :=
  let k := min 65536 (s.kpCount n count)
  let pc := s.kpPc n + 1
  if k = 0 then s.kpPass n (pc % 8192)
  else .jump (s.setKp n { s.kpOf n with rc := BitVec.ofNat 17 k }) pc

/-- CALL (R385): PC, SR and RC go on the stack. -/
def kpCall (s : State) (n target : Nat) : KpEnd :=
  match s.kpPush n ((s.kpPc n + 1) % 8192) false with
  | none => .fault 3 none
  | some t => .jump t target

/-! ### PUB, mailboxes, status -/

/-- PUB (R398): fifteen X words become mirror group `g` of the processor. -/
def kpPub (s : State) (n : Nat) (got : KpGot) (g : Nat) : KpEnd :=
  let ws := (List.range 15).map fun i => kpWordNo false (0x1F00 + 16 * g + 1 + i)
  match ws.find? got.failed.contains with
  | some w => .fault 7 (some w)
  | none =>
    .go ((s.kpCorrected n got ws).mirrorUpdate (256 + 16 * n + g)
      ((List.range 15).map fun i => (i + 1, (s.kpMem n (ws.getD i 0)).toNat)))

/-- The outbound words are copied for the host. -/
def kpOutCopy (s : State) (n : Nat) : List Nat → State
  | [] => s
  | i :: is => (s.set (KP_MBOX_OUT.reg n i) ((s.kpOf n).mbo.get 0 i).toNat).kpOutCopy n is

/-- A bit of SR takes a value. -/
def kpSrBit (s : State) (n i : Nat) (b : Bool) : State :=
  let x := s.kpOf n
  s.setKp n { x with sr := BitVec.ofNat 32 (if b then setBit x.sr.toNat i else clearBit x.sr.toNat i) }

/-- MBOX.POST (R400). -/
def kpPost (s : State) (n : Nat) : State :=
  if s.flag (KP_MBOX_STATUS.out_full n) then s.kpSrBit n 3 true
  else (((s.kpOutCopy n [0, 1, 2, 3]).set (KP_MBOX_STATUS.out_full n) 1).kpSrBit n 3 false).raise (642 + 3 * n)

end State

open State

/-! ### Meanings -/

/-- ADD, ADDC, SUB, SUBC, AND, OR, XOR, NOT, shifts, CMP (R388, R395). -/
def execKpInstrAlu (n : Fin 64) (got : KpGot) (x : KpAlu) (s : State) : Res :=
  .next (s.kpExec n got (kpPlain [0, 1, 2, 3] (aluFields x)) fun s => .go (s.kpAlu n x (s.aluB n x)))

/-- MAC4 (R389). -/
def execKpInstrMac4 (n : Fin 64) (got : KpGot) (x : KpMul) (s : State) : Res :=
  .next (s.kpExec n got { kpPlain [4, 5] (mulFields x) with sh1 := false } fun s =>
    kpMoves s (s.kpMul4 n x false) n got x.moveX x.moveY)

/-- MAC2 (R389). -/
def execKpInstrMac2 (n : Fin 64) (got : KpGot) (a : Fin 4) (x : KpMul) (s : State) : Res :=
  .next (s.kpExec n got (kpPlain [4, 5] ((12, 2, a.val) :: mulFields x)) fun s =>
    kpMoves s (s.kpMul2 n a x false) n got x.moveX x.moveY)

/-- MPY4 (R389). -/
def execKpInstrMpy4 (n : Fin 64) (got : KpGot) (x : KpMul) (s : State) : Res :=
  .next (s.kpExec n got { kpPlain [4, 5] (mulFields x) with sh1 := false } fun s =>
    kpMoves s (s.kpMul4 n x true) n got x.moveX x.moveY)

/-- MPY2 (R389). -/
def execKpInstrMpy2 (n : Fin 64) (got : KpGot) (a : Fin 4) (x : KpMul) (s : State) : Res :=
  .next (s.kpExec n got (kpPlain [4, 5] ((12, 2, a.val) :: mulFields x)) fun s =>
    kpMoves s (s.kpMul2 n a x true) n got x.moveX x.moveY)

/-- CLR S (R388, R395). -/
def execKpInstrClrS (n : Fin 64) (got : KpGot) (a : Fin 4) (moveX moveY : KpMove) (s : State) : Res :=
  .next (s.kpExec n got (kpPlain [4, 5] [(12, 2, a.val)]) fun s => kpMoves s (s.putS n a 0) n got moveX moveY)

/-- LD (R386, R387). -/
def execKpInstrLd (n : Fin 64) (got : KpGot) (d : KpData) (c : Fin 8) (y half : Bool) (m : KpMode) (s : State) : Res :=
  .next (s.kpExec n got (kpPlain [8, 9, 10, 11] (ldFields d c m)) fun s => s.kpLd n got d c y half m)

/-- ST (R386, R387). -/
def execKpInstrSt (n : Fin 64) (got : KpGot) (d : KpData) (c : Fin 8) (y half : Bool) (m : KpMode) (s : State) : Res :=
  .next (s.kpExec n got (kpPlain [8, 9, 10, 11] (ldFields d c m)) fun s => s.kpSt n d c y half m)

/-- ST.S (R391). -/
def execKpInstrStS (n : Fin 64) (got : KpGot) (a : Fin 4) (c : Fin 8) (y half : Bool) (m : KpMode) (s : State) : Res :=
  .next (s.kpExec n got (kpPlain [8, 9, 10, 11] (modeFields c m)) fun s => s.kpStS n a c y half m)

/-- MOV (R385, R395). -/
def execKpInstrMov (n : Fin 64) (got : KpGot) (dst src : KpReg) (s : State) : Res :=
  .next (s.kpExec n got (kpOnce [0x0C] []) fun s =>
    let r := s.kpWiden (s.kpRead n src) (kpWidth src) (kpWidth dst)
    .go (r.2.kpPut n dst r.1))

/-- An immediate form (R395): its extension word is the word after it. -/
def execKpInstrImmediate (n : Fin 64) (got : KpGot) (x : KpImm) (s : State) : Res :=
  .next (s.kpExec n got { kpOnce [0x0D] [] with len := 2 } fun s =>
    let v := (s.kpMem n ((s.kpPc n + 1) % 8192)).toNat
    match x with
    | .mov dst => .go (s.kpPut n dst v)
    | .alu y => .go (s.kpAlu n y v))

/-- B and Bcc (R395). -/
def execKpInstrBranch (n : Fin 64) (got : KpGot) (c : KpCond) (target : Fin 8192) (s : State) : Res :=
  .next (s.kpExec n got (kpOnce [0x10] [(0, 13, target.val)]) fun s =>
    if condHolds (s.kpOf n).sr.toNat c then .jump s target else .go s)

/-- CALL (R385, R395). -/
def execKpInstrCall (n : Fin 64) (got : KpGot) (c : KpCond) (target : Fin 8192) (s : State) : Res :=
  .next (s.kpExec n got (kpOnce [0x10] [(0, 13, target.val)]) fun s =>
    if condHolds (s.kpOf n).sr.toNat c then s.kpCall n target else .go s)

/-- RET (R385, R395). -/
def execKpInstrRet (n : Fin 64) (got : KpGot) (c : KpCond) (s : State) : Res :=
  .next (s.kpExec n got (kpOnce [0x10] []) fun s => if condHolds (s.kpOf n).sr.toNat c then s.kpPop n else .go s)

/-- LOOP (R395, R406). -/
def execKpInstrLoop (n : Fin 64) (got : KpGot) (count : KpCount) (stop : Fin 8192) (s : State) : Res :=
  .next (s.kpExec n got (kpOnce [0x11] [(0, 13, stop.val)]) fun s => s.kpLoop n count stop)

/-- REP (R392). -/
def execKpInstrRep (n : Fin 64) (got : KpGot) (count : KpCount) (s : State) : Res :=
  .next (s.kpExec n got (kpOnce [0x12] (match count with
      | .imm k => [(0, 16, k - 1)]
      | .reg w => [(0, 16, w.val)])) fun s => s.kpRep n count)

/-- MAX (R393). -/
def execKpInstrMax (n : Fin 64) (got : KpGot) (d i : Fin 16) (c : Fin 8) (u half : Bool) (f : KpStep) (s : State) : Res :=
  .next (s.kpExec n got { kpPlain [0x14] (searchFields d i c u f) with sh1 := !half } fun s => s.kpSearch n got d i c true u half f)

/-- MIN (R393). -/
def execKpInstrMin (n : Fin 64) (got : KpGot) (d i : Fin 16) (c : Fin 8) (u half : Bool) (f : KpStep) (s : State) : Res :=
  .next (s.kpExec n got { kpPlain [0x14] (searchFields d i c u f) with sh1 := !half } fun s => s.kpSearch n got d i c false u half f)

/-- EXP (R394). -/
def execKpInstrExp (n : Fin 64) (got : KpGot) (d : Fin 16) (src : KpSrc) (s : State) : Res :=
  .next (s.kpExec n got (kpPlain [0x15] ((23, 4, d.val) :: srcField 19 src)) fun s =>
    let x := s.kpSrc n src
    .go (s.putW n d (min (s.kpW n d) (redundant x.1 x.2))))

/-- NORM (R394). -/
def execKpInstrNorm (n : Fin 64) (got : KpGot) (d src : KpSrc) (count : Fin 16) (s : State) : Res :=
  .next (s.kpExec n got (kpPlain [0x15] (srcField 23 d ++ srcField 19 src)) fun s =>
    let x := s.kpSrc n src
    let w := (s.kpSrc n d).1
    let r := s.kpWiden (x.2 * 2 ^ (min 64 (s.kpW n count)) % 2 ^ x.1) x.1 w
    .go (r.2.kpSrcPut n r.1 d))

/-- HALT (R405): PC stands at the next instruction. -/
def execKpInstrHalt (n : Fin 64) (got : KpGot) (s : State) : Res :=
  .next (s.kpExec n got (kpOnce [0x18] []) fun s => .go (s.setKp n { s.kpOf n with haltAsked := true }))

/-- WAIT (R395, R407). -/
def execKpInstrWait (n : Fin 64) (got : KpGot) (s : State) : Res :=
  .next (s.kpExec n got { kpOnce [0x18] [] with cycles := 0 } fun s => .go (s.setKp n { s.kpOf n with waiting := true, cycles := 0 }))

/-- PUB (R398). -/
def execKpInstrPub (n : Fin 64) (got : KpGot) (g : Fin 16) (s : State) : Res :=
  .next (s.kpExec n got { kpOnce [0x18] [] with sh1 := false, cycles := 16 } fun s => s.kpPub n got g)

/-- MBOX.POST (R400). -/
def execKpInstrMboxPost (n : Fin 64) (got : KpGot) (s : State) : Res :=
  .next (s.kpExec n got (kpOnce [0x18] []) fun s => .go (s.kpPost n))

/-- MBOX.ACK (R399). -/
def execKpInstrMboxAck (n : Fin 64) (got : KpGot) (s : State) : Res :=
  .next (s.kpExec n got (kpOnce [0x18] []) fun s => .go (s.set (KP_MBOX_STATUS.in_full n) 0))

/-- TRAP (R401). -/
def execKpInstrTrap (n : Fin 64) (got : KpGot) (s : State) : Res :=
  .next (s.kpExec n got (kpOnce [0x18] []) fun s => .go (s.kpPend n 7))

/-- RTI (R402, R407): PC, SR and RC come back, and a repeat goes on. -/
def execKpInstrRti (n : Fin 64) (got : KpGot) (s : State) : Res :=
  .next (s.kpExec n got { kpOnce [0x18] [] with cycles := 0 } fun s => (s.setKp n { s.kpOf n with cycles := 0 }).kpPop n)

/-- EI (R388, R395). -/
def execKpInstrEi (n : Fin 64) (got : KpGot) (s : State) : Res :=
  .next (s.kpExec n got (kpOnce [0x18] []) fun s => .go (s.kpSrBit n 31 true))

/-- DI (R388, R395). -/
def execKpInstrDi (n : Fin 64) (got : KpGot) (s : State) : Res :=
  .next (s.kpExec n got (kpOnce [0x18] []) fun s => .go (s.kpSrBit n 31 false))

/-- TIME (R395): the tick in two working registers, the phase in a third. -/
def execKpInstrTime (n : Fin 64) (got : KpGot) (lo hi ph : Fin 16) (s : State) : Res :=
  .next (s.kpExec n got { kpOnce [0x18] [] with sh1 := false } fun s =>
    .go (((s.putW n lo (s.now.tick % 2 ^ 32)).putW n hi (s.now.tick / 2 ^ 32)).putW n ph s.now.phase))

end Sys2Proof.Machine
end

