-- ==== Sys2Proof/Machine/UnitWrite.lean ====
section
/-! DEFINITION. Writes to the registers of the units that a structure image sets up: DDC, XF, CHZ, DET, SK, TRN, TRG, KAL and
MSK (R7, R100, R238, R240, R286, R288, R295), by a port or by the engine itself. -/

namespace Sys2Proof.Machine

namespace State

/-- A write by the engine itself (R100): RW and SH fields, and the fields that the image sets. -/
def imgPlain (s : State) (off v : Nat) : State :=
  match findRow off with
  | none => s
  | some (r, ix) => s.setWord off (r.ini ix) ({ r with rw := r.rw ||| r.img }.merge (s.word off (r.ini ix)) v)

/-- A plain write, by a port or by the engine (`img`). -/
def unitPlain (s : State) (img : Bool) (off v : Nat) : State := if img then s.imgPlain off v else s.plainWrite off v

/-! ### Down-converters and windows (R238, R240, R258) -/

/-- A write to ZM_RATIO: dropped whole outside 2^46 to 2^47 (R240). -/
def zmRatioWrite (s : State) (p w v : Nat) : State :=
  let r := v % 2 ^ 48
  if 2 ^ 46 ≤ r ∧ r ≤ 2 ^ 47 then s.set (ZM_RATIO.ratio p w) r else (s.set (ZM_STATUS.refused p w) 1).raise (136 + p)

/-- A write to ZM_CTL: dropped whole with k above 16 (R240). -/
def zmCtlWrite (s : State) (img : Bool) (p w v : Nat) : State :=
  if 16 < bits v 16 5 then (s.set (ZM_STATUS.refused p w) 1).raise (136 + p) else s.unitPlain img (ZM_CTL.reg p w).addr v

/-- A write in the DDC block of a path, at an offset in it. -/
def ddcWrite (s : State) (img : Bool) (p o v : Nat) : State :=
  let off := 0x120000 + 0x8000 * p + o
  if o < 0x1000 then (if o = 4 then s.ddcCommitWrite p v else s.unitPlain img off v)
  else
    let w := o / 0x100 - 16
    if 8 ≤ w || (!img && !s.winUsed p w) then s
    else
      if o % 0x100 = 0 then s.zmCtlWrite img p w v
      else if o % 0x100 = 0x18 then s.zmRatioWrite p w (insertBits (s.f (ZM_RATIO.reg p w)) 0 32 v)
      else if o % 0x100 = 0x1C then s.zmRatioWrite p w (insertBits (s.f (ZM_RATIO.reg p w)) 32 16 v)
      else if o % 0x100 = 0x20 then s.zmSwapWrite p w v
      else if o % 0x100 = 0x2C then s.coefWrite p w v
      else s.unitPlain img off v

/-! ### Transforms, detectors, channelizer, kurtosis, envelope (R286, R288, R295) -/

/-- A write dropped for a field out of range (R288). -/
def xfRefuse (s : State) (p : Nat) (refused : Loc) : State := (s.set refused 1).raise (148 + p)

/-- The path's image uses its kurtosis unit (R271). -/
def skUsed (s : State) (p : Nat) : Bool := if s.flag (SK_CTL.src p) then s.mode p == 4 else (s.xfCfg p 0).source != 0

/-- The register at an offset of the XF block belongs to a unit that the path's image uses (R286, R295). -/
def xfUsed (s : State) (p o : Nat) : Bool :=
  if o < 0x1000 then decide (o / 0x100 < 8) && (s.xfCfg p (o / 0x100)).source != 0
  else if o < 0x2000 then decide (o / 0x100 - 16 < 8) && (s.xfCfg p (o / 0x100 - 16)).source != 0
  else if o < 0x4000 then (s.xfCfg p 0).source != 0
  else if o < 0x6000 then s.mode p == 4
  else if o < 0x7000 then s.skUsed p
  else s.mode p == 5 || s.mode p == 6

/-- A write puts a field of the XF block outside its range (R288); the unit's refused bit. -/
def xfRange (s : State) (p o v : Nat) : Option Loc :=
  if o < 0x1000 then
    (if o % 0x100 = 0 ∧ (bits v 0 5 < 6 ∨ 16 < bits v 0 5 ∨ 4 < bits v 8 3) then some (XF_STATUS.refused p (o / 0x100)) else none)
  else if 0x2000 ≤ o ∧ o < 0x4000 then
    (if o % 8 = 0 ∧ bits v 16 16 < bits v 0 16 then some (DET_STATUS.refused p 0) else none)
  else if o = 0x4000 then (if bits v 0 5 < 8 ∨ 16 < bits v 0 5 then some (CHZ_STATUS.refused p) else none)
  else if o = 0x6000 then (if bits v 0 5 < 6 ∨ 16 < bits v 0 5 then some (SK_STATUS.refused p) else none)
  else if o = 0x6004 then (if bits v 16 16 ≤ bits v 0 16 then some (SK_STATUS.refused p) else none)
  else if o = 0x7004 then
    (if 16 < bits v 0 5 ∨ (bit v 5 ∧ !s.flag (TRN_CTL.env_ok p)) then some (TRN_STATUS.refused p) else none)
  else none

/-- A write in the XF block of a path, at an offset in it. -/
def xfWrite (s : State) (img : Bool) (p o v : Nat) : State :=
  let off := 0x140000 + 0x10000 * p + o
  if !img && !s.xfUsed p o then s
  else
    let s' := if img && o == 0x7004 then s.set (TRN_CTL.env_ok p) (bits v 8 1) else s
    match s'.xfRange p o v with
    | some l => s.xfRefuse p l
    | none =>
      if 0x1000 ≤ o ∧ o < 0x1800 ∧ o % 0x100 = 0 then s.detCtlWrite p (o / 0x100 - 16) v
      else if o = 0x6000 then (s.unitPlain img off v).condsShow
      else s.unitPlain img off v

/-! ### Triggers (R330, R353) -/

/-- A write in the TRG block, at an offset in it. -/
def trgWrite (s : State) (img : Bool) (o v : Nat) : State :=
  let off := 0x180000 + o
  if o < 0x4000 then
    let c := o / 0x40
    if 64 ≤ c then s
    else
      if o % 0x40 = 0 then if img then s.trgCondWrite c v else s.trgCondPort c v
      else if o % 0x40 = 0x4 then s.trgParamWrite c off v
      else if o % 0x40 = 0x8 then s.trgParamWrite c off v
      else if o % 0x40 = 0xC then s.trgParamWrite c off v
      else if o % 0x40 = 0x10 then s.trgParamWrite c off v
      else s.plainWrite off v
  else if o < 0x8000 then
    let r := o % 0x4000 / 0x40
    if 64 ≤ r then s
    else if o % 0x40 = 0 then (if img then s.rgnCtlWrite r v else s.rgnCtlPort r v) else s.plainWrite off v
  else if 0x8000 ≤ o ∧ o < 0x8040 ∧ o % 0x10 = 0 then s.inCtlWrite (o % 0x40 / 0x10) v
  else if 0x8100 ≤ o ∧ o < 0x8180 ∧ o % 0x20 = 0 then s.outCtlWrite (o % 0x100 / 0x20) v
  else if 0x8200 ≤ o ∧ o < 0x8240 ∧ o % 0x10 = 0 then s.avgCtlWrite (o % 0x40 / 0x10) v
  else if 0x8200 ≤ o ∧ o < 0x8240 ∧ o % 0x10 = 4 then s.avgLenWrite (o % 0x40 / 0x10) v
  else if o = 0x8300 then s.forceAll s.now (bitList 32 v)
  else if o = 0x8304 then s.forceAll s.now ((bitList 32 v).map (· + 32))
  else s.plainWrite off v

/-! ### Density tables and masks (R299, R314) -/

/-- A write in the KAL block, at an offset in it. -/
def kalWrite (s : State) (o v : Nat) : State :=
  let off := 0x250000 + o
  if o < 0x200 then
    (if o % 0x100 = 0 then s.kalCtlWrite (o / 0x100) v
    else if o % 0x100 = 4 then s.kalSetWrite (o / 0x100) off v
    else if o % 0x100 = 0x30 then s.kalLineWrite (o / 0x100) v
    else s.plainWrite off v)
  else if 0x1000 ≤ o ∧ o < 0x1400 then
    (if o % 0x10 = 0 then s.mskBindWrite (o % 0x1000 / 0x10) v
    else if o % 0x10 = 4 then s.mskBaseWrite (o % 0x1000 / 0x10) 0 v
    else if o % 0x10 = 8 then s.mskBaseWrite (o % 0x1000 / 0x10) 1 v
    else s.plainWrite off v)
  else if o = 0x1400 then s.mskSwapWrite v
  else s.plainWrite off v

/-- A register word of these units is written, by a port or by the engine (R100). -/
def unitWrite (s : State) (img : Bool) (off v : Nat) : State :=
  if 0x120000 ≤ off ∧ off < 0x140000 then s.ddcWrite img (off % 0x20000 / 0x8000) (off % 0x8000) v
  else if 0x140000 ≤ off ∧ off < 0x180000 then s.xfWrite img (off % 0x40000 / 0x10000) (off % 0x10000) v
  else if 0x180000 ≤ off ∧ off < 0x1A0000 then s.trgWrite img (off % 0x20000) v
  else if 0x250000 ≤ off ∧ off < 0x260000 then s.kalWrite (off % 0x10000) v
  else s

/-- The register at an offset belongs to a unit that its path's image uses; others read 0 and drop writes (R238, R286,
R295). -/
def unitUsed (s : State) (off : Nat) : Bool :=
  if 0x120000 ≤ off ∧ off < 0x140000 then
    (if off % 0x8000 < 0x1000 then true else s.winUsed (off % 0x20000 / 0x8000) (off % 0x8000 / 0x100 - 16))
  else if 0x140000 ≤ off ∧ off < 0x180000 then s.xfUsed (off % 0x40000 / 0x10000) (off % 0x10000)
  else true

end State

end Sys2Proof.Machine
end

