-- ==== Sys2Proof/Machine/SwitchOver.lean ====
section
/-! DEFINITION. Switch-over (R102, R107, R108): the old structure stops, its frames drain, and the new one takes its place. -/

namespace Sys2Proof.Machine

namespace State

/-! ### Step 1 -/

/-- The mode that the load in progress gives a path. -/
def newMode (s : State) (p : Nat) : Nat :=
  if s.load.req.unload then 0 else ((s.load.staged.map (·.modes)).getD []).getD p 0

/-- The gap of R24 opens: its first sample is the first that the old structure has not taken in, of the blocks that wait in
the buffer or on their way to it. -/
def reloadGap (s : State) (p : Nat) : State :=
  if !s.realTime p || s.wideUpper p then s
  else
    let x := s.path p
    let waiting := x.eb ++ x.entry
    let next := s.f (GLB_SEQ.reg p)
    let first := (waiting.head?.map (·.seq)).getD (((s.conv p).sent.map (·.seq)).getD next)
    let at_ := match waiting.head? with
      | some y => (⟨y.tick, y.phase⟩ : Stamp)
      | none => s.timeAt p (first * posUnit)
    let stop := max first next
    let r := if s.newMode p = 8 then rSERVICE else rRELOAD
    let s := s.openGap p { first := first, stop := stop, growing := 2 ^ r, tick := at_.tick, phase := at_.phase,
                           scope := 0, reasons := 2 ^ r, stream := 255 }
    (s.setPath p { s.path p with eb := [], entry := [], dropping := false, gapBefore := true }).ebShow p

/-- The routing of a converter for a mode of its path (R174): 0 its own selector, 1 the lower and 2 the upper of a pair. -/
def routeOf (p mode : Nat) : Nat := if mode = 2 then 1 + p % 2 else 0

/-- The recovery span of a converter goes on over a change of its routing: in WIDE the lower one of the pair counts the
interleaved samples of both, the upper one has no span and no episode of its own, and on leaving WIDE each counts its own
samples again (R190, R191). -/
def recoverySet (s : State) (p r : Nat) : State :=
  let x := s.conv p
  let left :=
    if r = 1 then 2 * max x.recovery (s.conv (p + 1)).recovery
    else if r = 2 then 0
    else if s.f (CNV_STATUS.route p) = 1 then (x.recovery + 1) / 2
    else (s.conv (p - 1)).recovery
  let s := s.setConv p { x with recovery := left }
  if r = 2 then s.set (CNV_STATUS.ovr_now p) 0 else s

/-- The routing switch of a path's converter is set; on entry to WIDE and on leaving it the converter reconverges (R174,
R176). -/
def routeSet (s : State) (p : Nat) : State :=
  let r := routeOf p (s.newMode p)
  if s.f (CNV_STATUS.route p) = r then s else ((s.recoverySet p r).set (CNV_STATUS.route p) r).reconverge p

/-- A path of the load stops taking blocks (R102 step 1, R516). -/
def pathStop (s : State) (p : Nat) : State :=
  let s := s.reloadGap p
  let s := (s.runPath p false).setPath p { s.path p with stopped := true, replayOn := false }
  let s := if 1 ≤ s.newMode p ∧ s.newMode p ≤ 6 then s.calPreempt p else s
  s.routeSet p

/-! ### Step 3 -/

/-- The coefficients of a table, one 32-bit word each (log entry 19). -/
def coefWords (b : List Byte) : List Nat := (List.range (b.length / 4)).map fun i => field b (4 * i) 4

/-- The coefficient table of a path in an image. -/
def coefTable (g : Staged) (p table window : Nat) : Option (List Nat) :=
  (g.coefs.find? fun c => c.path == p && c.table == table && c.window == window).map fun c => coefWords c.data

/-- A window at switch-over: bank A from the image and active, bank B empty (R245, R257). -/
def newWin (g : Staged) (p w : Nat) : WinSt :=
  let bank : Tab (BitVec 18) :=
    ((coefTable g p 0x0701 w).getD []).zipIdx.foldl (fun t e => Tab.put 0 t e.2 (BitVec.ofNat 18 e.1)) []
  { WinSt.reset with bankA := bank }

/-- The REG_INIT records are written in listed order (R100, R102). -/
def regInits (s : State) : List (Nat × Word) → State
  | [] => s
  | (off, v) :: xs => (s.unitWrite true off v.toNat).regInits xs

/-- The words of IMG_PATH_DIGEST[p]. -/
def pathDigest (s : State) (p : Nat) (d : List Byte) : State :=
  (List.range 12).foldl (fun s i => s.set (IMG_PATH_DIGEST.word p i) (field d (4 * i) 4)) s

/-- IMG_DIGEST is formed from the four path digests (R120). -/
def digestForm (s : State) : State :=
  let ds := (List.range 4).flatMap fun p => (List.range 12).flatMap fun i => leBytes 4 (s.f (IMG_PATH_DIGEST.word p i))
  s.set IMG_DIGEST.reg (field (sha384 ds) 0 8)

/-- A tile of a structure stands with nothing on its sides and accumulators at 0; one that becomes active with the local
memory that the image loads, and 0 past its end or where it loads none (R88, R89, R99; the 0 is a DESIGN CHOICE, log entry 74). -/
def tileNew (s : State) (load : Bool) (c : TileCfg) : State :=
  match s.physTile c.ltile with
  | some t => s.setTile t { s.tile t with inN := [], inE := [], inS := [], inW := [], acc := []
                                          mem := if load then Tab.putMany 0 [] 0 c.mem else [] }
  | none => s

/-- The tiles of a path's structure stand so. -/
def tilesNew (s : State) (p : Nat) (load : Bool) : State :=
  (((s.path p).img.map (·.tiles)).getD []).foldl (fun s c => s.tileNew load c) s

/-- The first sample that a path's new structure takes in: the first that its converter delivers from step 4 on (R24). -/
def firstSample (s : State) (p : Nat) : Nat := if s.newMode p = 7 then 0 else s.f (GLB_SEQ.reg p)

/-- A path's analysing units start empty (R251, R257, R263, R294), bank A in force. -/
def unitsNew (s : State) (p : Nat) (g : Option Staged) : State :=
  let ix := s.firstSample p
  let old := (s.ddcOf p).cfgs.getLast?.map fun e => (ix, e.2)
  let wins : Tab WinSt := match g with
    | some g => (List.range 8).foldl (fun t w => Tab.put WinSt.reset t w (newWin g p w)) []
    | none => []
  let custom : Tab (List Nat) := match g with
    | some g => (List.range 8).foldl (fun t i => Tab.put [] t i ((coefTable g p 0x0801 i).getD [])) []
    | none => []
  let proto := (g.bind fun g => coefTable g p 0x0901 0).getD []
  let s := s.setDdc p { DdcSt.reset with clearAt := ix, wins := wins, cfgs := old.toList }
  let s := s.setXf p { XfPath.reset with custom := custom, proto := proto }
  (List.range 8).foldl (fun s w => ((s.set (ZM_BANK.active p w) 0).set (ZM_BANK.fading p w) 0).set (ZM_BANK.pending p w) 0) s

/-- The structure that an image puts on a path; none for mode 0 (R108). -/
def newImg (s : State) (p : Nat) (g : Staged) : Option PathImg :=
  let m := g.modes.getD p 0
  if m = 0 then none
  else some { digest := g.digest, mode := m, demand := g.demands.getD p 0, capWrite := g.capWrites.getD p 0,
              bestEffort := bit g.bestEffort p, bestEffortOn := bit s.load.bestEffortOn p,
              tiles := g.tiles.filter fun t => t.path == p,
              replay := g.replays.getD p { region := 0, rate := 0, start := 0, len := 0, index := 0, tick := 0 } }

/-- The lease of a REPLAY path goes from its old region to its new one (R101, R364). -/
def replayLease (s : State) (p : Nat) (old new : Option PathImg) : State :=
  let s := match old with
    | some i => if i.mode = 7 then s.unlease i.replay.region .replay p else s
    | none => s
  match new with
  | some i =>
    if i.mode = 7 then
      (s.lease i.replay.region .replay p).setPath p { s.path p with
        replayPos := i.replay.start % s.regionSize i.replay.region, replayRead := 0 }
    else s
  | none => s

/-- A path takes its new structure (R102 step 3): before the shadows apply. No sweep has found it short yet (R155). -/
def pathTake (s : State) (p : Nat) (g : Option Staged) : State :=
  let old := (s.path p).img
  let new := g.bind fun g => s.newImg p g
  let s := s.tilesNew p false
  let s := if s.mode p = 8 ∧ s.newMode p ≠ 8 then s.setConv p { s.conv p with carStopped := false } else s
  let s := s.replayLease p old new
  let s := ((s.setPath p { s.path p with img := new, work := [], lostFrames := [], lostSpans := [], gapEnds := [], sent := [] }).set
    (modeLoc p) (s.newMode p)).tilesNew p true
  let s := (s.set GLB_CAP_STATUS.lost (clearBit (s.f GLB_CAP_STATUS.lost) p)).fabricTouch
  let s := s.pathDigest p ((new.map (·.digest)).getD [])
  (s.unitsNew p g).set (DDC_STATUS.wide p) (b2n (s.newMode p == 2 && p % 2 == 0))

/-- The shadows of a path apply as one commit (R250); without a structure the commit waits. -/
def pathCommit (s : State) (p : Nat) : State :=
  if s.mode p = 0 then s.set (DDC_TAINT.reg p) 15 else if s.wideUpper p then s else (s.commitTry p (s.firstSample p)).ddcShow p

/-! ### Step 4 -/

/-- A path goes on with its new structure (R102 step 4). The gap of R24 ends with the last sample that the converter has
delivered, whether or not it has reached the buffer; a gap that nothing follows closes (R24, R162). -/
def pathStart (s : State) (p : Nat) : State :=
  let m := s.mode p
  let on := s.f PWR_STATE.state == 0
  let last := m == 0 || m == 7 || m == 8 || s.wideUpper p
  let s := s.growGaps p (2 ^ rRELOAD + 2 ^ rSERVICE) (s.f (GLB_SEQ.reg p))
  let s := s.setConv p { s.conv p with sent := none, tries := 0 }
  let s := s.setPath p { s.path p with stopped := false, entry := [], replayOn := on && s.replays p, highArmed := true
                                       gapBefore := (s.path p).gapBefore && !last }
  let s := s.endGaps p (2 ^ rRELOAD + 2 ^ rSERVICE)
  let s := if last then s.closeAllGaps p else s
  s.runPath p (on && s.analyses p)

/-- Steps 3 and 4 of R102 for the paths of a list, and the end of the load. -/
def switchOver (s : State) (ps : List Nat) : State :=
  let g := s.load.staged
  let boot := s.load.req.origin == .boot
  let s := ps.foldl (fun s p => s.clearImage p) s
  let s := s.regInits ((g.map (·.regInit)).getD [])
  let s := ps.foldl (fun s p => s.pathTake p g) s
  let s := ps.foldl pathCommit s
  let s := (s.avgLeave (List.range 64)).digestForm
  let s := ps.foldl pathStart s
  let s := s.condsShow
  let s := ((s.loadRest).set IMG_STATUS.code cADMITTED).set IMG_STATUS.was_dry 0
  let s := s.raise 24
  if boot then (s.freeSem 1).set GLB_START.stage 8 else s

end State

/-! ### Meanings -/

/-- SWITCH_OVER_START (R102 step 1, R174): at a block boundary the old structure stops taking blocks. -/
def execSwitchOverStart (s : State) : Res :=
  if s.load.stage ≠ .ready then .next s
  else
    let ps := (List.range 4).filter (bit s.loadMask)
    let s := (ps.foldl State.pathStop s).condsShow
    .next ({ s with load := { s.load with stage := .drain } }.set IMG_STATUS.state 6)

/-- SWITCH_OVER_COMMIT (R102 steps 3 and 4): the frames in flight have completed and left the reorder windows, and the new
structure takes over. -/
def execSwitchOverCommit (s : State) : Res :=
  let ps := (List.range 4).filter (bit s.loadMask)
  if s.load.stage ≠ .drain || ps.any (fun p => s.framesHeld p != 0) then .next s
  else .next (s.switchOver ps)

end Sys2Proof.Machine
end

