-- ==== Sys2Proof/Machine/Wear.lean ====
section
/-! DEFINITION. Spares, repair, live replacements, the wear ledger and the scrubber (19_wear_integrity.md). -/

namespace Sys2Proof.Machine

/-- The 32 bytes of a ledger entry (R550). -/
def LedgerEntry.bytes (e : LedgerEntry) : List Byte :=
  let b := leBytes 1 e.kind ++ leBytes 1 e.cause ++ leBytes 2 e.unit ++ leBytes 4 e.detail ++ leBytes 8 e.tick ++
    leBytes 4 e.epoch ++ leBytes 4 e.boots ++ leBytes 4 e.number
  b ++ leBytes 4 (crc32c b).toNat

/-- Entries that a half of the ledger holds (R550). -/
def ledgerRoom : Nat := 49152

namespace State

/-! ### The ledger (R550, R551) -/

/-- A change of a unit enters the ledger with the cause and the detail of its mark (R544 step 6). -/
def ledgerChange (s : State) (kind mark unit : Nat) : State :=
  match s.ledgerAll.reverse.find? fun e => e.kind == mark && e.unit == unit with
  | some e => s.ledgerAdd kind e.cause unit e.detail
  | none => s.ledgerAdd kind 0 unit 0

/-- A store program or a calibration commit runs, after which entries are written (R551). -/
def storeBusy (s : State) : Bool := s.cal.program.isSome || s.cal.committing.isSome

/-- An entry is written to the active half; when that is full, a snapshot begins the other half (R550). -/
def ledgerPut (s : State) (e : LedgerEntry) : State :=
  let s :=
    if s.wear.ledger.length < ledgerRoom then s
    else
      let n := s.wear.nextNumber
      let snap : LedgerEntry :=
        { kind := 0x0A, cause := Config.ledgerOpen n 0 % 256, unit := Config.ledgerOpen n 1 % 65536,
          detail := Config.ledgerOpen n 2 % 2 ^ 32, tick := s.time.tick.toNat, epoch := s.f STRM_EPOCH_SEC.reg,
          boots := s.wear.boots, number := n }
      { s with wear := { s.wear with kept := s.wear.kept ++ s.wear.ledger, ledger := [snap], nextNumber := n + 1 } }
  { s with wear := { s.wear with ledger := s.wear.ledger ++ [e] } }.set WEAR_LED_LAST.reg e.number

/-- Entries are written, in order. -/
def ledgerPuts (s : State) : List LedgerEntry → State
  | [] => s
  | e :: es => (s.ledgerPut e).ledgerPuts es

/-- Writing an entry has failed for good (R551). -/
def ledgerLost (s : State) : State := (s.set WEAR_STATUS.ledger_fail 1).raise 906

/-- A word of the entry that WEAR_LED_IDX names; 0 when it is not in the ledger's active half (R556). -/
def ledgerWord (s : State) (i : Nat) : Nat :=
  match s.wear.ledger.find? fun e => e.number == s.f WEAR_LED_IDX.reg with
  | some e => field e.bytes (4 * i) 4
  | none => 0

/-! ### The spares left (R546, R556) -/

/-- Tiles of a column that are retired. -/
def retiredIn (s : State) (c : Nat) : Nat := (bitList 34 (s.f (IMG_RETIRED.rows c))).length

/-- The physical processor a logical number reaches (R381). -/
def kpPhysOf (s : State) (n : Nat) : Nat :=
  let v := Tab.get 0 s.wear.kpMap n
  if v = 0 ∨ v = 128 then n else v - 1

/-- The logical number that a physical processor works under, unless it is retired. -/
def kpLogical (s : State) (m : Nat) : Option Nat :=
  (List.range 64).find? fun n => s.kpPresent n && s.kpPhysOf n == m && Tab.get 0 s.wear.kpMap n != 128

/-- A physical processor is marked. -/
def kpMarked (s : State) (m : Nat) : Bool := bit (s.f (WEAR_KP_MARK.word (m / 32))) (m % 32)

/-- The spare processors that are left. -/
def kpSpares (s : State) : List Nat :=
  [64, 65, 66, 67].filter fun k => s.kpPresent k && !s.kpMarked k && (s.kpLogical k).isNone

/-- WEAR_SPARES and WEAR_STATUS.short_cols follow the maps. -/
def sparesShow (s : State) : State :=
  let tiles : Nat := ((List.range 32).map fun c => 2 - min 2 (s.retiredIn c)).foldl (· + ·) 0
  let short := ((List.range 32).filter fun c => decide (2 < s.retiredIn c)).length
  let lanes := 4 - min 4 (bitList 64 (s.f WEAR_LANE_RET.reg)).length
  let steer := ((List.range 16).filter fun u => s.mcPresent (u / 2) && Tab.get 0 s.wear.steerMap u == 0).length
  let reserve : Nat := ((List.range 4).map fun n =>
    if s.pathPresent n && Tab.get 0 s.wear.sliceOut n == 0 then 2 ^ n else 0).foldl (· + ·) 0
  let s := (s.set WEAR_SPARES.tiles tiles).set WEAR_SPARES.kp s.kpSpares.length
  let s := (s.set WEAR_SPARES.lanes lanes).set WEAR_SPARES.steer steer
  (s.set WEAR_SPARES.reserve reserve).set WEAR_STATUS.short_cols short

/-- WEAR_STATUS.rows_marked follows the rows that await repair, and stays at its greatest value. -/
def rowsShow (s : State) : State := s.set WEAR_STATUS.rows_marked (min 255 s.wear.rowMark.length)

/-- WEAR_STATUS.tiles_marked follows the tiles that are marked and not retired. -/
def tilesShow (s : State) : State :=
  s.set WEAR_STATUS.tiles_marked ((List.range 1088).filter fun t =>
    bit (s.f (WEAR_TILE_MARK.reg (t / 32))) (t % 32) && !bit (s.f (IMG_RETIRED.rows (t % 32))) (t / 32)).length

/-! ### What the maps do -/

/-- A tile is retired (R93). -/
def retire (s : State) (t : Nat) : State :=
  let l := IMG_RETIRED.rows (t % 32)
  s.set l (setBit (s.f l) (t / 32))

/-- KP_STATUS of a window follows the processor map (R381, R546). -/
def kpShow (s : State) (n : Nat) : State :=
  if !s.kpPresent n then s
  else if n < 64 then
    let v := Tab.get 0 s.wear.kpMap n
    (s.set (KP_STATUS.phys n) (s.kpPhysOf n)).set (KP_STATUS.role n) (if v = 0 then 0 else if v = 128 then 3 else 2)
  else s.set (KP_STATUS.role n) (if (s.kpLogical n).isSome then 2 else if s.kpMarked n then 3 else 1)

/-- All windows of kernel processors. -/
def kpShowAll (s : State) : State := (List.range 68).foldl kpShow s

/-- The registers of a kernel processor's window are at their reset values, and its memories cleared: another processor
now answers there, or none. -/
def kpFresh (s : State) (n : Nat) : State :=
  let inside := fun (e : Nat × Word) => decide (0x1000000 + 0x20000 * n ≤ e.1) && decide (e.1 < 0x1020000 + 0x20000 * n)
  { s with regs := s.regs.filter fun e => !inside e, act := s.act.filter fun e => !inside e }.setKp n KpSt.reset

/-- A logical processor is given another physical one, or none: `v` as in `kpMap`. -/
def kpMapPut (s : State) (n v : Nat) : State :=
  let s := { s.kpFresh n with wear := { s.wear with kpMap := s.wear.kpMap.put 0 n v } }
  let s := s.kpShow n
  if v = 128 then s else s.kpShow (v - 1)

/-- The first slice of a converter that is kept in the rotation though worn. -/
def keptSlice (s : State) (n : Nat) : Option Nat := (List.range 18).find? fun x => s.f (CNV_SLICE.state n x) == 3

/-- The reserve of a converter takes the place of a slice outside the rotation's stops (R187). -/
def slicePut (s : State) (n r x : Nat) : State :=
  let s := if s.f (CNV_STATUS.incoming n) = x then (s.set (CNV_STATUS.incoming n) r).set (CNV_SLICE.state n r) 1
    else (s.set (CNV_SLICE.position n r) (s.f (CNV_SLICE.position n x))).set (CNV_SLICE.state n r) 0
  let s := (s.set (CNV_SLICE.state n x) 4).set (CNV_STATUS.reserve_used n) 1
  { s with wear := { s.wear with sliceOut := s.wear.sliceOut.put 0 n (x + 1) } }

/-- The slices of a converter as the ledger says they are: its reserve in the place of the one it has replaced, the other
marked ones kept, the former reserve among them (R170, R187, R188). -/
def sliceShow (s : State) (n : Nat) : State :=
  let out := Tab.get 0 s.wear.sliceOut n
  let marked := ((s.ledgerAll.filter fun e => e.kind == 4 && e.unit / 18 == n).map fun e => e.unit % 18).filter fun x => x + 1 != out
  let s := match out, s.reserveSlice n with
    | x + 1, some r => s.slicePut n r x
    | _, _ => s
  marked.foldl (fun s x => (s.set (CNV_SLICE.state n x) 3).setConv n
    { s.conv n with wornKept := setBit (s.conv n).wornKept x }) s

/-- MEM_STEER of a channel follows the steering map (R360). -/
def steerShow (s : State) (m : Nat) : State :=
  let at_ := fun u => match Tab.get 0 s.wear.steerMap u with
    | 0 => 63
    | b + 1 => b
  (s.set (MEM_STEER.sub0 m) (at_ (2 * m))).set (MEM_STEER.sub1 m) (at_ (2 * m + 1))

/-! ### Repair (R544 to R546) -/

/-- A marked tile is retired (R544 step 2, R546): the state, and that it was served. -/
def tileServe (s : State) (t : Nat) : State × Bool :=
  if bit (s.f (IMG_RETIRED.rows (t % 32))) (t / 32) then (s, true)
  else
    let had := s.retiredIn (t % 32)
    let s := (((s.retire t).ledgerChange 0x02 0x01 t).tilesShow).sparesShow
    if had < 2 then (s.sparesLow (s.f WEAR_SPARES.tiles), true) else (s, false)

/-- A marked processor gives its logical number to a spare, or is retired (R544 step 3, R546). -/
def kpServe (s : State) (m : Nat) : State × Bool :=
  match s.kpLogical m with
  | none => (s.kpShow m, true)
  | some n =>
    if s.kpRunning n then (s, false)
    else
      match s.kpSpares with
      | k :: _ =>
        let s := ((s.kpMapPut n (k + 1)).ledgerChange 0x03 0x03 m).sparesShow
        (s.sparesLow (s.f WEAR_SPARES.kp), true)
      | [] => ((s.kpMapPut n 128).ledgerChange 0x03 0x03 m, false)

/-- The reserve of a converter takes the place of a slice in WORN_KEPT (R187, R544 step 4). -/
def sliceServe (s : State) (n : Nat) : State × Bool :=
  match s.keptSlice n with
  | none => (s, true)
  | some x => match s.reserveSlice n with
    | none => (s, false)
    | some r =>
      let s := ((s.slicePut n r x).sliceChange n x).sparesShow
      (s.sparesLow 0, (s.keptSlice n).isNone)

/-- Spare rows of a macro in use. -/
def rowsUsed (s : State) (k : Nat) : Nat := (s.wear.rowSpared.filter fun r => Config.sramMacro r == Config.sramMacro k).length

/-- A spare row of a macro takes the place of a row. -/
def rowPut (s : State) (k : Nat) : State :=
  { s with wear := { s.wear with rowMark := s.wear.rowMark.erase k, rowSpared := s.wear.rowSpared ++ [k],
                                 rowErrors := s.wear.rowErrors.put 0 k 0 } }.rowsShow

/-- A marked row gives way to a spare row of its macro (R541, R546). -/
def rowServe (s : State) (k : Nat) : State × Bool :=
  if s.rowsUsed k < 2 then
    let s := (s.rowPut k).ledgerAdd 0x06 0x3 (k / 65536) (k % 65536)
    (s.sparesLow (2 - s.rowsUsed k), true)
  else (s, false)

/-- A step of repair over units: the state, and that all of them were served. -/
def serveAll (serve : State → Nat → State × Bool) (s : State) (ok : Bool) : List Nat → State × Bool
  | [] => (s, ok)
  | u :: us => serveAll serve (serve s u).1 (ok && (serve s u).2) us

/-- Steps 2 to 5 of R544: what is marked in the registers is served. -/
def repairSteps (s : State) : State × Bool :=
  let tiles := (List.range 1088).filter fun t => bit (s.f (WEAR_TILE_MARK.reg (t / 32))) (t % 32)
  let r := serveAll tileServe s true tiles
  let r := serveAll kpServe r.1 r.2 ((List.range 68).filter r.1.kpMarked)
  let r := serveAll sliceServe r.1 r.2 ((List.range 4).filter s.pathPresent)
  serveAll rowServe r.1 r.2 r.1.wear.rowMark

/-- All paths report SERVICE (R28, R545). -/
def inService (s : State) : Bool := (List.range 4).all fun p => !s.pathPresent p || s.mode p == 8

/-- The end of a repair: its entries are written, or fail together (R544 step 6, R551); `old` waited before it. -/
def repairEntries (s : State) (old : Nat) (fails : Bool) : State :=
  let new := s.wear.toWrite.drop old
  if fails && !new.isEmpty then { s with wear := { s.wear with toWrite := s.wear.toWrite.take old } }.ledgerLost
  else if s.storeBusy then s
  else { s with wear := { s.wear with toWrite := s.wear.toWrite.take old } }.ledgerPuts new

/-- What a logical tile of a structure holds in its local memory and its accumulators goes with it to the physical tile
that a new map gives it; `old` is the state before the change of the map (R93, R94). -/
def tileMove (s : State) (old : State) (l : Nat) : State :=
  match old.physTile l, s.physTile l with
  | some a, some b => if a = b then s else s.setTile b { s.tile b with acc := (old.tile a).acc, mem := (old.tile a).mem }
  | _, _ => s

/-- Every logical tile moves where a new map puts it (R94). -/
def tilesMove (s : State) (old : State) : State := (List.range 1024).foldl (fun t l => t.tileMove old l) s

/-- Repair in SERVICE (R545): the marks in the registers are served, and the switch-over that ends it applies the map, with
the structure of each image as it was (R94). -/
def repair (s : State) (ledgerFails : Bool) : State :=
  let old := s.wear.toWrite.length
  let r := s.repairSteps
  let lost := ledgerFails && decide (old < r.1.wear.toWrite.length)
  let s := (r.1.repairEntries old ledgerFails).tilesMove s
  let s := (List.range 1088).foldl (fun s t => s.setTile t { s.tile t with inN := [], inE := [], inS := [], inW := [] }) s
  ((s.set WEAR_STATUS.code (if lost then 4 else if r.2 then 0 else 3)).raise 24).raise 901

/-- A write to WEAR_CTL (R545, R556). -/
def wearCtlWrite (s : State) (v : Nat) (ledgerFails : Bool) : State :=
  let s := ((s.set WEAR_CTL.tile_pct (bits v 16 8)).set WEAR_CTL.tile_sweeps (bits v 8 8)).set WEAR_CTL.lane_resends (bits v 0 8)
  if !bit v 31 then s
  else if !s.inService then s.set WEAR_STATUS.code 1
  else if s.load.stage ≠ .idle || s.flag PWR_STATUS.busy || s.flag WEAR_STATUS.repairing then s.set WEAR_STATUS.code 2
  else s.repair ledgerFails

/-! ### Start-up (R544) -/

/-- Whether an entry of the same kind, unit and, where asked, detail comes before. -/
def seenBefore (done : List LedgerEntry) (e : LedgerEntry) (exact : Bool) : Bool :=
  done.any fun d => d.kind == e.kind && d.unit == e.unit && (!exact || d.detail == e.detail)

/-- One entry of the ledger is played back: a first entry of a kind marks its unit, a second one is the change that served
it (R544 step 1). -/
def replayEntry (s : State) (done : List LedgerEntry) (e : LedgerEntry) : State :=
  match e.kind with
  | 0x01 => let w := WEAR_TILE_MARK.reg (e.unit / 32); s.set w (setBit (s.f w) (e.unit % 32))
  | 0x02 => s.retire e.unit
  | 0x03 =>
    if !seenBefore done e false then
      let w := WEAR_KP_MARK.word (e.unit / 32); s.set w (setBit (s.f w) (e.unit % 32))
    else
      match s.kpLogical e.unit with
      | none => s
      | some n => { s with wear := { s.wear with kpMap := s.wear.kpMap.put 0 n ((s.kpSpares.head?.map (· + 1)).getD 128) } }
  | 0x04 =>
    if !seenBefore done e false then s
    else { s with wear := { s.wear with sliceOut := s.wear.sliceOut.put 0 (e.unit / 18) (e.unit % 18 + 1) } }
  | 0x05 =>
    if !seenBefore done e false then { s with wear := { s.wear with laneMark := setBit s.wear.laneMark e.unit } }
    else s.set WEAR_LANE_RET.reg (setBit (s.f WEAR_LANE_RET.reg) e.unit)
  | 0x06 =>
    let k := rowKey e.unit e.detail
    if !seenBefore done e true then { s with wear := { s.wear with rowMark := s.wear.rowMark ++ [k] } } else s.rowPut k
  | 0x07 =>
    if !seenBefore done e true then
      { s with wear := { s.wear with steerWait := s.wear.steerWait ++
        [{ sub := e.unit, bitPos := e.detail, pos := 0, since := none }] } }
    else { s with wear := { s.wear with steerMap := s.wear.steerMap.put 0 e.unit (e.detail + 1) } }
  | 0x08 => { s with wear := { s.wear with steerWait := s.wear.steerWait.map fun x =>
      if x.sub = e.unit then { x with pos := if s.start.memKept then e.detail * 2 ^ 20 else 0 } else x } }
  | _ => s

/-- The ledger is played back (R544 step 1). -/
def replayLedger (s : State) (done : List LedgerEntry) : List LedgerEntry → State
  | [] => s
  | e :: es => (s.replayEntry done e).replayLedger (done ++ [e]) es

/-- Sweeps that wait for a subchannel whose steering spare is used are dropped (R548). -/
def steerTrim (s : State) : State :=
  { s with wear := { s.wear with steerWait := s.wear.steerWait.filter fun x => Tab.get 0 s.wear.steerMap x.sub == 0 } }

/-- The next marked lane begins to train a spare, where one is left (R547). -/
def laneNext (s : State) : State :=
  let waiting := (List.range 52).find? fun l => bit s.wear.laneMark l && !bit (s.f WEAR_LANE_RET.reg) l
  { s with wear := { s.wear with laneTraining := if 0 < s.f WEAR_SPARES.lanes then waiting else none } }

/-- The wear unit before the ledger is read: no mark and no map. -/
def wearClear (s : State) : State :=
  { s with wear := { WearSt.reset with ledger := s.wear.ledger, kept := s.wear.kept, nextNumber := s.wear.nextNumber,
                                       boots := s.wear.boots } }

/-- Start-up repair (R544, R58): the marks come from the ledger, and what they ask for is done. -/
def startupRepair (s : State) : State :=
  let s := s.wearClear.replayLedger [] (s.wear.kept ++ s.wear.ledger)
  let s := (((s.steerTrim.tilesShow).rowsShow).sparesShow).kpShowAll
  let s := (List.range 4).foldl (fun s n => if s.pathPresent n then s.sliceShow n else s) s
  let s := (s.repairSteps.1.repairEntries 0 false).sparesShow
  let s := (List.range 8).foldl steerShow s
  let s := s.set WEAR_LED_LAST.reg ((s.wear.ledger.map (·.number)).foldl max 0)
  s.laneNext

/-! ### Steering (R548, R549) -/

/-- Bytes of a subchannel of capture memory (R357, R358). -/
def subBytes (s : State) : Nat := s.memCapacity / (2 * max 1 s.memChannels.length)

/-- The byte a sweep has reached: it goes at 1 GB/s while it is not paused (R548). -/
def steerAt (s : State) (x : Steer) : Nat :=
  match x.since with
  | none => x.pos
  | some c => min s.subBytes (x.pos + (s.time.clk - c) * 1000000000 / 2560000000 / 4 * 4)

/-- WEAR_STEER_POS: the channel and subchannel of the sweep, and where it stands (R548). -/
def steerPos (s : State) : Nat :=
  match s.wear.steer with
  | some x => x.sub * 2 ^ 56 + s.steerAt x
  | none => s.f WEAR_STEER_POS.reg

/-- The running sweep pauses where it stands (R549). -/
def steerPause (s : State) : State :=
  match s.wear.steer with
  | some x => { s with wear := { s.wear with steer := some { x with pos := s.steerAt x, since := none } } }
  | none => s

/-- A paused sweep goes on, from its position where the contents of the memory were kept, else from address 0 (R549). -/
def steerResume (s : State) (kept : Bool) : State :=
  match s.wear.steer with
  | some x => { s with wear := { s.wear with steer := some { x with pos := if kept then x.pos else 0, since := some s.time.clk } } }
  | none => s

/-- The position of a sweep is written to the ledger (R549). -/
def steerLedger (s : State) : State :=
  match s.wear.steer with
  | some x => s.ledgerAdd 0x08 (Config.ledgerOpen s.wear.nextNumber 0 % 256) x.sub (s.steerAt x / 2 ^ 20)
  | none => s

/-- The scrubber reads the density cells and masks, which are of FABRIC, and the frame store where there is a display (R552). -/
def scrubUp (s : State) (cls : Nat) : Bool := if cls = 2 then s.up .display && s.variant != 1 else s.up .fabric

end State

/-! ### Meanings -/

/-- WEAR_REPAIR_GO (R545): a write to WEAR_CTL; `ledgerFails` says that the entries of the repair cannot be written. -/
def execWearRepairGo (p : Port) (v : Word) (ledgerFails : Bool) (s : State) : Res :=
  .next (s.hubWrite p WEAR_CTL.reg.addr (some 5) fun s => s.wearCtlWrite v.toNat ledgerFails)

/-- STARTUP_REPAIR_DONE (R544, R58, R566): start-up repair has run; the boot chain goes on. -/
def execStartupRepairDone (s : State) : Res :=
  if s.f GLB_START.stage ≠ 5 then .next s
  else .next (((s.startupRepair.freeSem 5).set WEAR_STATUS.repairing 0).set GLB_START.stage 6)

/-- LANE_SPARE_SWAP (R547): the spare has trained, and the marked lane's traffic moves to it. -/
def execLaneSpareSwap (spare : Fin 52) (s : State) : Res :=
  match s.wear.laneTraining with
  | none => .next s
  | some l =>
    let used := (List.range 52).any fun x => Tab.get 0 s.wear.laneMap x == spare.val + 1
    if spare.val < 48 || used || bit s.wear.laneMark spare || !s.up .conv then .next s
    else
      let s := s.set WEAR_LANE_RET.reg (setBit (s.f WEAR_LANE_RET.reg) l)
      let s := { s with wear := { s.wear with laneMap := s.wear.laneMap.put 0 l (spare.val + 1) } }
      let s := ((s.ledgerChange 0x05 0x05 l).sparesShow).raise 903
      .next (s.sparesLow (s.f WEAR_SPARES.lanes)).laneNext

/-- STEER_SWEEP_START (R548): the first mark that waits begins its sweep. -/
def execSteerSweepStart (s : State) : Res :=
  match s.wear.steer, s.wear.steerWait with
  | none, x :: xs =>
    if !s.up .memory || s.memChannels.isEmpty then .next s
    else
      let s := { s with wear := { s.wear with steer := some { x with since := some s.time.clk }, steerWait := xs } }
      .next ((s.set WEAR_STATUS.steering 1).raise 904)
  | _, _ => .next s

/-- STEER_SWEEP_DONE (R548, R360): once every word has been rewritten, the subchannel is steered. -/
def execSteerSweepDone (s : State) : Res :=
  match s.wear.steer with
  | none => .next s
  | some x =>
    if !s.up .memory || x.since.isNone || decide (s.steerAt x < s.subBytes) then .next s
    else
      let s := { s with wear := { s.wear with steer := none, steerMap := s.wear.steerMap.put 0 x.sub (x.bitPos + 1) } }
      let s := (s.set WEAR_STEER_POS.reg (x.sub * 2 ^ 56 + s.subBytes)).set WEAR_STATUS.steering 0
      let s := ((s.steerShow (x.sub / 2)).ledgerAdd 0x07 0x3 x.sub x.bitPos).sparesShow
      .next ((s.raise 905).sparesLow (s.f WEAR_SPARES.steer))

/-- LEDGER_WRITE (R551): the oldest waiting entry is written, or an attempt fails; after the third it is lost. -/
def execLedgerWrite (failed : Bool) (s : State) : Res :=
  match s.wear.toWrite with
  | [] => .next s
  | e :: es =>
    if s.storeBusy || !s.up .host then .next s
    else if !failed then .next ({ s with wear := { s.wear with toWrite := es, writeFails := 0 } }.ledgerPut e)
    else if s.wear.writeFails < 2 then .next { s with wear := { s.wear with writeFails := s.wear.writeFails + 1 } }
    else .next ({ s with wear := { s.wear with toWrite := es, writeFails := 0 } }.ledgerLost)

/-- A word that the scrubber cannot correct stays in error until it is written: a density cell or a mask entry then reads as 0
(R310, R318). -/
def State.sramSpoil (s : State) (cls : Fin 3) (unit : Fin 8) (addr : Nat) : State :=
  if cls = 0 ∧ unit < 2 then s.kalSpoil unit [addr / 4]
  else if cls = 1 then
    { s with kal := { s.kal with spoilt := addr / 4 :: s.kal.spoilt.filter fun e => e != addr / 4 } }
  else s

/-- SCRUB (R552): the scrubber reads a word, as any other read does. -/
def execScrub (what : ScrubFind) (s : State) : Res :=
  match what with
  | .clean => .next s
  | .tileCorrected t row =>
    if s.up .fabric then
      .next ((s.bump (FAB_TILE_ECC.corrected t)).chkCorr row 1 0 t.val 0 none)
    else .next s
  | .tileUncorrectable t row =>
    if s.up .fabric then
      let s := (s.bump (FAB_TILE_ECC.uncorrected t)).raise (960 + t.val)
      .next ((s.markTile t.val 0x3 0).chkFail (2 ^ 64 - 1) row 2 0 t.val 2 none)
    else .next s
  | .memCorrected sub bitPos addr =>
    if s.up .memory && s.f CHK_SCRUB.sdram_h != 0 then .next (s.memCorrected sub.val bitPos.val addr) else .next s
  | .memUncorrectable sub addr =>
    if s.up .memory && s.f CHK_SCRUB.sdram_h != 0 then
      let m := sub.val / 2
      .next (((s.bump (MEM_ECC.uncorrected m)).raise 50).chkFail (2 ^ 64 - 1) addr 2 6 m 4 none)
    else .next s
  | .kpCorrected n word => if s.up .kp && s.kpUsable n then .next (s.kpEccCorr n word) else .next s
  | .kpUncorrectable n word =>
    if s.up .kp && s.kpUsable n then
      let s := s.kpEccFail n word
      .next (if s.kpRunning n then s.kpFault n (6 + word.val / 8192) else s)
    else .next s
  | .sramCorrected cls unit addr =>
    if s.scrubUp cls then .next (s.chkCorr addr 1 (2 + cls.val) unit 0 none) else .next s
  | .sramUncorrectable cls unit addr =>
    if s.scrubUp cls then .next ((s.sramSpoil cls unit addr).chkFail (2 ^ 64 - 1) addr 2 (2 + cls.val) unit 6 none) else .next s

/-- D2D_LANE_LOCK_LOSS (R541, R547): the lane is marked, and a spare begins to train. -/
def execD2dLaneLockLoss (lane : Fin 52) (s : State) : Res :=
  if s.up .conv then .next (s.markLane lane.val 0x6) else .next s

end Sys2Proof.Machine
end

