-- ==== Sys2Proof/Machine/Start.lean ====
section
/-! DEFINITION. Supplies, VCORE over AVSBus, temperature, the reset inputs, system reset and the start-up chains
(20_power_startup.md), with the recording of a wake (R593). -/

namespace Sys2Proof.Machine

namespace State

/-! ### What a reset leaves (R567, R573) -/

/-- The offset of what a part is made with and no reset changes: GLB_ID (R4). -/
def partOffset (a : Nat) : Bool := a == 0

/-- Registers that a system reset keeps, by their offset in a register space: the AON domain, event routes, EVT_MOD and
GLB_PORT (R573), and GLB_ID. -/
def keptOffset (a : Nat) : Bool :=
  let o := a % 0x4000000
  (decide (0x10000 ≤ o) && decide (o < 0x20000)) || (decide (0x32000 ≤ o) && decide (o < 0x34000)) ||
    (decide (0x36000 ≤ o) && decide (o < 0x38000)) || o == 0x20 || partOffset a

/-- What a system reset leaves of a Control Port (R573). -/
def portKeep (x : PortSt) : PortSt :=
  { PortSt.reset with dlActive := x.dlActive, evtReset := x.evtReset, fnMask := x.fnMask, msixEn := x.msixEn, msix := x.msix,
                      inL1 := x.inL1, cfg := x.cfg }

/-- A store program or a calibration commit that runs stops: its slot is left partly written (R507, R518, R574). -/
def storeStop (s : State) : State :=
  let s := s.storeFetchFail []
  match s.cal.committing with
  | none => s
  | some _ =>
    let toB := !s.flag CAL_STATUS.slot
    { s with cal := { s.cal with committing := none, setA := if toB then s.cal.setA else none,
                                 setB := if toB then none else s.cal.setB } }

/-- What the calibration store holds stays, the unit is at its reset state. -/
def calKeep (x : CalSt) : CalSt :=
  { CalSt.reset with factory := x.factory, setA := x.setA, setB := x.setB, factoryBad := x.factoryBad, slotA := x.slotA,
                     slotB := x.slotB, maker := x.maker }

/-- Every unit outside AON is at its reset state, but for what R573 keeps; the bands stored for divider values (R212) are not kept
(DESIGN CHOICE, log entry 28). -/
def wipe (s : State) : State :=
  { State.reset with
    regs := s.regs.filter fun e => keptOffset e.1
    time := s.time
    dom := { State.reset.dom with aon := s.dom.aon }
    portA := portKeep s.portA
    portB := portKeep s.portB
    fuse := s.fuse
    clocks := { ClkSt.reset with refin := s.clocks.refin, ppsLast := s.clocks.ppsLast, upllOut := s.clocks.upllOut, stepDone := s.clocks.stepDone,
                                 stepDue := s.clocks.stepDue }
    sdram := s.sdram
    tiu := { TiuSt.reset with base := s.tiu.base }
    cal := calKeep s.cal
    wear := s.wearClear.wear
    avs := { AvsSt.reset with sensed := s.avs.sensed, hottest := s.avs.hottest, hotReads := s.avs.hotReads }
    fcd := { FcdSt.reset with vhkLow := s.fcd.vhkLow, clrdacLow := s.fcd.clrdacLow }
    start := s.start
    pwr := s.pwr
    bus := s.bus
    out := s.out
    free := s.free
    pending := s.pending }

/-- A fuse operation that loses its supply counts as not made (R624). -/
def fuseCut (s : State) : State :=
  match s.fuse.running with
  | none => s
  | some q => { s with fuse := { s.fuse with running := none, incomplete := some q } }

/-- PORST_N low, or VAON lost: the whole engine is reset; what the store, the ledger and the fuses hold stays (R567). -/
def porstWipe (s : State) : State :=
  let s := (s.storeStop).fuseCut
  let w := s.wipe
  { w with
    regs := s.regs.filter fun e => partOffset e.1
    time := { State.reset.time with clk := s.time.clk }
    dom := State.reset.dom
    portA := PortSt.reset
    portB := PortSt.reset
    clocks := ClkSt.reset
    sdram := []
    tiu := TiuSt.reset
    avs := { AvsSt.reset with sensed := s.avs.sensed, hottest := s.avs.hottest, hotReads := s.avs.hotReads }
    start := { StartSt.reset with porstLow := s.start.porstLow, sysLow := s.start.sysLow, railsLow := s.start.railsLow,
                                  therm := s.start.therm, cool := s.start.cool, bootSel := s.start.bootSel,
                                  mgmtAddr := s.start.mgmtAddr }
    pwr := { PwrSt.reset with armed := s.pwr.armed, latched := s.pwr.latched } }

/-! ### Wakes (R593) -/

/-- Microseconds of AON time (R593, log entry 63). -/
def aonTime (s : State) : Nat := (s.time.clk - s.pwr.aonFrom) / 2560

/-- A wake is recorded: its source, the state left and the AON time; event 58 follows once HOST is on (R593). -/
def wakeRecord (s : State) (source from_ : Nat) : State :=
  let s := ((s.set PWR_WAKE_SRC.source source).set PWR_WAKE_SRC.from_ from_).addWrap PWR_WAKE_SRC.count 1
  let s := s.set PWR_WAKE_TIME.reg s.aonTime
  if s.up .host then s.raise 58 else { s with pwr := { s.pwr with wakeDue := true } }

/-! ### HOST comes up (R569 steps 3 and 4, R574) -/

/-- The converter domain is on: the CLRDAC_N pin acts as it stands, and the outputs that are enabled start (R494, R496). -/
def convOn (s : State) : State :=
  let s := if s.fcd.clrdacLow then (s.set FCD_PIN.clrdac_n 0).fcdCauses FCD_STATUS.c_clrdac (List.range 8) else s
  if s.fcd.vhkLow then s else s.fcdStarts (bitList 8 (s.f FCD_CTL.drive_en))

/-- The HOST domain is released and the chains of start-up go on: the VCORE write of step 4, and the calibration of the
interpolators (R569). -/
def hostUp (s : State) (cdc : CdcWhy) : State :=
  let s := { s with dom := { s.dom with host := .on, conv := .on, fabric := .on, display := .on, kp := .on }
                    time := { s.time with running := true }
                    wear := { s.wear with boots := s.wear.boots + 1 }
                    start := { s.start with held := false, due := none, retry := true, memInit := false } }
  let s := (s.set GLB_START.boot_sel (b2n s.start.bootSel)).set GLB_START.mgmt_addr s.start.mgmtAddr
  let s := ((s.set GLB_START.stage 3).set UPLL_STATUS.locked (b2n (!s.clocks.upllOut))).fuseShow
  let s := if s.pwr.wakeDue then { s with pwr := { s.pwr with wakeDue := false } }.raise 58 else s
  let s := if s.flag GLB_AVS_MAN.en then s.avsAsk (s.f GLB_AVS_MAN.mv) else s.avsAsk 800
  ((s.cdcStart 0 cdc).convOn).alertShow

/-! ### System reset (R573, R574) -/

/-- Engine time goes on after SLEEP: 256 ticks for each cycle of 10 MHz counted (R478). -/
def timeResume (s : State) (counts : Nat) : State :=
  { s with time := { s.time with tick := BitVec.ofNat 64 (s.time.tick.toNat + 256 * counts), running := true }
           pwr := { s.pwr with sleptAt := none } }

/-- A system reset stops every unit at once; the power state is RUN after it, and no request is left (R574, R590). -/
def sysStop (s : State) (cause : Nat) : State :=
  let st := s.f PWR_STATE.state
  let s := s.storeStop
  let kept := s.flag GLB_START.mem_ready || s.start.memKept
  let ref := (s.f REF_STATUS.present, s.f REF_STATUS.detected)
  let s := if st = 2 ∨ st = 3 then { s with dom := { s.dom with host := .off } }.wakeRecord 6 st else s
  let hold := (s.f UPLL_STATUS.holdover, s.f UPLL_STATUS.slewing)
  let s := s.wipe
  let s := (s.set REF_STATUS.present ref.1).set REF_STATUS.detected ref.2
  let s := (s.set UPLL_STATUS.holdover hold.1).set UPLL_STATUS.slewing hold.2
  let s := (s.set PWR_STATE.state 0).set PWR_STATE.target 0
  let s := ((s.set PWR_STATUS.busy 0).set PWR_STATUS.waiting 0).set PWR_STATUS.pending 0
  let s := (s.set PWR_STATUS.wake_latched 0).set PWR_STATUS.pending_target 0
  let s := { s with pwr := { s.pwr with trans := none }, start := { s.start with held := true, due := none, memKept := kept } }
  let s := ((s.set PWR_RST_CAUSE.cause cause).bump PWR_RST_CAUSE.sys_count).set GLB_RAIL.low s.start.railsLow
  s.pinsShow

/-- A system reset is released: start-up runs from step 4, after the steps that lock the utility PLL where it had stopped
(R574, R590). -/
def sysGo (s : State) : State :=
  let s := match s.pwr.sleptAt with
    | some c => s.timeResume ((s.time.clk - c) / 256)
    | none => s
  let s := s.hostUp .all
  if s.clocks.upllOut then ((s.set GLB_PCLK.uplk_hold 1).fabricTouch).pclkTo 3 else s

/-- The engine starts again unless something holds it still (R564, R565). -/
def trySysGo (s : State) : State :=
  if s.start.held && !s.start.sysLow && (s.start.railsLow &&& 0x3F7) == 0 && s.start.therm == 0 then s.sysGo else s

/-- A system reset is asked for: a running fuse operation completes first (R574, R624). -/
def sysAsk (s : State) (cause : Nat) (release : Bool) : State :=
  if s.fuse.running.isSome then { s with start := { s.start with due := some (cause, release) } }
  else
    let s := s.sysStop cause
    if release then s.trySysGo else s

/-- Step 1 of start-up: AON runs; the WAKE_N latch gives the source (R569, R591). -/
def begin (s : State) : State :=
  let s := { s with start := { s.start with began := true, therm := 0 }, pwr := { s.pwr with aonFrom := s.time.clk },
                    dom := { s.dom with aon := .on } }.set PWR_STATE.reg 0
  let s := if s.pwr.latched then s.wakeRecord 1 4 else s.set PWR_WAKE_SRC.source 0
  { s with pwr := { s.pwr with armed := false, latched := false } }.pinsShow

/-- PORST_N is high: start-up begins once VAON is there and, after a thermal trip, the engine has cooled (R564, R565). -/
def tryBegin (s : State) : State :=
  if s.start.porstLow || s.start.began || bit s.start.railsLow 0 then s
  else if s.start.therm != 0 && !s.start.cool then { s with start := { s.start with therm := 2 } }.pinsShow
  else s.begin

/-! ### Undervoltage and temperature (R564, R565) -/

/-- A rail has stayed below its undervoltage limit (R564). -/
def railFall (s : State) (k : Nat) : State :=
  let s := { s with start := { s.start with railsLow := setBit s.start.railsLow k } }
  if s.start.porstLow || s.f PWR_STATE.state == 4 then s
  else
    let s := (if s.up .host then (s.set GLB_RAIL.low (setBit (s.f GLB_RAIL.low) k)).raise 3 else s).set PWR_RST_CAUSE.rail k
    match k with
    | 0 => (((s.porstWipe.set PWR_RST_CAUSE.cause 3).set PWR_RST_CAUSE.rail 0).set GLB_RAIL.low 1).pinsShow
    | 3 => s.vhkFall
    | 9 =>
      let s := s.fuseCut.sysStop 3
      { s with start := { s.start with memKept := false } }
    | _ => s.fuseCut.sysStop 3

/-- Every rail is in range again (R564). -/
def railsBack (s : State) : State :=
  let s := { s with start := { s.start with railsLow := 0 } }.pinsShow
  if s.start.began then s.trySysGo else if s.f PWR_STATE.state = 4 then s else s.tryBegin

/-- The highest of some readings. -/
def hottestOf : List Int → Int
  | [] => -55
  | [x] => x
  | x :: xs => max x (hottestOf xs)

/-- GLB_THERM follows a set of readings (R565). -/
def thermShow (s : State) (hi : Int) : State :=
  let s := s.set GLB_THERM.max_c (unsigned 16 (max hi (signed 16 (s.f GLB_THERM.max_c))))
  let w : Int := (max 100 (min 150 (s.f GLB_THERM.warn_c)) : Nat)
  let s := if w ≤ hi then (if s.flag GLB_THERM.warn then s else (s.set GLB_THERM.warn 1).raise 4)
    else if hi ≤ w - 5 then s.set GLB_THERM.warn 0 else s
  s.alertShow

/-- A reading of the temperature sensors (R565). -/
def thermRead (s : State) (temps : List Int) : State :=
  let hi := hottestOf temps
  let runs := temps.zipIdx.foldl (fun (t : Tab Nat) e => Tab.put 0 t e.2 (if 160 ≤ e.1 then Tab.get 0 t e.2 + 1 else 0)) s.avs.hotReads
  let trip := temps.zipIdx.any fun e => decide (3 ≤ Tab.get 0 runs e.2)
  let s : State := { s with avs := { s.avs with hottest := unsigned 16 hi, hotReads := runs },
                            start := { s.start with cool := temps.all fun t => decide (t < 140) } }
  let s : State := if s.up .host then s.thermShow hi else s
  if trip && s.start.therm == 0 && s.start.began then { s with start := { s.start with therm := 1 } }.sysAsk 4 false
  else if s.start.therm == 2 && s.start.cool then
    let s := { s with start := { s.start with therm := 0 } }
    if s.start.began then s.trySysGo else s.tryBegin
  else s

/-! ### VCORE over AVSBus (R562, R563) -/

/-- Step 4 of start-up ends with the end of its voltage request (R569). -/
def avsStage (s : State) : State := if s.f GLB_START.stage = 3 then s.set GLB_START.stage 4 else s

/-- The master takes the request that waits, if any (R562). -/
def avsNext (s : State) : State :=
  match s.avs.queued with
  | none => { s with avs := { s.avs with running := none } }.set GLB_AVS_STATUS.busy 0
  | some mv => { s with avs := { s.avs with running := some (mv, 1), queued := none, wroteAt := s.time.clk } }.emit (.avsWrite mv)

/-- A voltage write has been read back: `good` says that the slave answered with a good status (R562). -/
def avsBack (s : State) (mv tries : Nat) (good : Bool) (readMv : Nat) : State :=
  let s := s.set GLB_AVS_STATUS.read_mv readMv
  if good && decide (readMv ≤ mv + 10) && decide (mv ≤ readMv + 10) then s.avsNext.avsStage
  else if tries < 4 then
    { s with avs := { s.avs with running := some (mv, tries + 1), wroteAt := s.time.clk } }.emit (.avsWrite mv)
  else
    let s := { s with avs := { s.avs with running := none, queued := none } }.set GLB_AVS_STATUS.busy 0
    ((s.set GLB_AVS_STATUS.fail 1).raise 2).avsStage.alertShow

/-- A write to GLB_AVS_MAN (R563). -/
def avsManWrite (s : State) (v : Nat) : State :=
  let mv := bits v 0 16
  if mv < 720 ∨ 850 < mv then s.set GLB_AVS_STATUS.refused 1
  else
    let s := (s.set GLB_AVS_MAN.en (bits v 31 1)).set GLB_AVS_MAN.mv mv
    if bit v 31 then s.avsAsk mv else s

/-- A write to GLB_DROOP_THR: dropped whole where the three do not rise (R575). -/
def droopThrWrite (s : State) (v : Nat) : State :=
  if bits v 0 8 < bits v 8 8 ∧ bits v 8 8 < bits v 16 8 then s.plainWrite GLB_DROOP_THR.reg.addr v
  else s.set GLB_DROOP_STATUS.refused 1

/-- A write to GLB_RST: without its key it is refused; with it and sys at 1 a system reset, released at once (R567, R577). -/
def glbRstWrite (s : State) (p : Port) (v : Nat) : State :=
  if bits v 16 16 ≠ 0xA55E then s.refuse p GLB_RST.reg.addr else if bit v 0 then s.sysAsk 2 true else s

/-! ### The calibration store is read (R507, R571) -/

/-- The set that start-up puts in force: the valid set of the higher generation, else the factory set (R507). -/
def startSet (s : State) : CalSet × Bool :=
  match s.cal.setA, s.cal.setB with
  | some a, some b => if a.generation < b.generation then (b, true) else (a, false)
  | some a, none => (a, false)
  | none, some b => (b, true)
  | none, none => (s.cal.factory, false)

/-- Step 5 of start-up ends (R569 to R571): the set in force is chosen, repair begins, and the sample PLL acquires. -/
def storeRead (s : State) : State :=
  let ids := if s.cal.maker.isEmpty then none else Config.makerSubsystem s.cal.maker
  let s := { s with start := { s.start with retry := false, subsys := ids } }.set GLB_START.stage 5
  if s.cal.factoryBad then ((s.set GLB_START.store_fault 1).raise 6).pinsShow
  else
    let c := s.startSet
    let s := s.calInForce c.1 c.2
    let s := (s.setHolder 5 (some .engine)).set WEAR_STATUS.repairing 1
    let s := if s.start.bootSel then s.setHolder 1 (some .engine) else s
    s.spllBegin

/-! ### Capture memory (R357, R358, R571) -/

/-- GiB of a trained channel, and 0 for a configuration that the engine does not drive (R357). A channel gives 32 GiB at the
most, which is what the maximum of R1 leaves it (DESIGN CHOICE, log entry 79). -/
def channelGiB (rate density width ranks : Nat) : Nat :=
  let known := (rate == 1 || rate == 2 || rate == 3) && (density == 16 || density == 24 || density == 32) &&
    (width == 8 || width == 1) && (ranks == 1 || ranks == 2)
  if known then min 32 (2 * ranks * (if width = 8 then 4 else 2) * (density / 8)) else 0

/-- The word of MEM_CFG[m] for what training found, but for the choice of the channels in use; `first` is that of the
lowest trained channel (R357, R358). -/
def trainWord (x : MemTrain) (first : Option Nat) : Nat :=
  match x with
  | .absent => 0
  | .failed => 1 * 2 ^ 28
  | .trained rate density width ranks =>
    let w := rate.val * 2 ^ 16 + density.val * 2 ^ 8 + width.val * 2 ^ 4 + ranks.val
    if channelGiB rate density width ranks = 0 then 1 * 2 ^ 28
    else match first with
      | none => 3 * 2 ^ 28 + w
      | some f => if f % 2 ^ 28 = w then 3 * 2 ^ 28 + w else 2 * 2 ^ 28 + w

/-- MEM_CFG of channels, from `m` on; the answer carries the word of the lowest trained one. -/
def trainShow (s : State) (m : Nat) (first : Option Nat) : List MemTrain → State × Option Nat
  | [] => (s, first)
  | x :: xs =>
    let w := trainWord x first
    let s := s.set (MEM_CFG.reg m) w
    let s := if w / 2 ^ 28 < 2 then s.raise 48 else s
    trainShow s (m + 1) (if first.isNone ∧ 2 ≤ w / 2 ^ 28 then some w else first) xs

/-- The largest power of two that is not above `n`. -/
def powerBelow (n : Nat) : Nat := if n < 1 then 0 else if n < 2 then 1 else if n < 4 then 2 else if n < 8 then 4 else 8

/-- The end of training: the channels in use, and MEM_SUMMARY (R358). -/
def memTrained (s : State) (chans : List MemTrain) : State :=
  let r := s.trainShow 0 none ((chans ++ List.replicate 8 MemTrain.absent).take (if s.variant = 2 then 4 else 8))
  let s := r.1
  let ok := (List.range 8).filter fun m => s.f (MEM_CFG.state m) == 3
  let used := ok.take (powerBelow ok.length)
  let s := used.foldl (fun s m => s.set (MEM_CFG.state m) 4) s
  let each := match r.2 with
    | some w => channelGiB (bits w 16 4) (bits w 8 8) (bits w 4 4) (bits w 0 4)
    | none => 0
  let mask := fun (ms : List Nat) => ms.foldl setBit 0
  let s := (s.set MEM_SUMMARY.used (mask used)).set MEM_SUMMARY.trained (mask ok)
  (List.range 8).foldl steerShow (s.set MEM_SUMMARY.capacity (each * used.length))

/-- Capture memory is ready: its domain is up, event 1 (R571). -/
def memReady (s : State) : State :=
  let s := { s with dom := { s.dom with memory := .on }, start := { s.start with memInit := false } }
  (s.set GLB_START.mem_ready 1).raise 1

/-- Start-up has ended (R572). -/
def startDone (s : State) : State := ((s.set GLB_START.done 1).set GLB_START_TICK.reg s.now.tick).raise 0

end State

/-! ### Meanings -/

/-- RAIL_UNDERVOLTAGE (R564). -/
def execRailUndervoltage (rail : Fin 10) (s : State) : Res := .next (s.railFall rail)

/-- RAIL_RESTORED (R564): every rail has been in range for 1 ms. -/
def execRailRestored (s : State) : Res := .next s.railsBack

/-- RAIL_LOW_ALERT (R566): a monitored rail has stayed below its operating range, or all have stayed within, for 10 us. -/
def execRailLowAlert (below : Bool) (s : State) : Res :=
  if s.up .host then .next (s.set GLB_ALERT.rail_low (b2n below)).pinsShow else .next s

/-- THERM_READ (R565): the readings of the sensors, in degrees; none are taken in DEEP and OFF. -/
def execThermRead (temps : List Int) (s : State) : Res :=
  if temps.isEmpty || 3 ≤ s.f PWR_STATE.state then .next s else .next (s.thermRead (temps.take 32))

/-- PORST_ASSERT (R567): PORST_N is low. -/
def execPorstAssert (s : State) : Res :=
  let s := s.porstWipe
  .next ({ s with start := { s.start with porstLow := true } }.pinsShow)

/-- PORST_RELEASE (R567 to R569, R591): the rising edge of PORST_N latches the straps and starts the engine. -/
def execPorstRelease (bootSel : Bool) (mgmtAddr : Fin 4) (s : State) : Res :=
  if !s.start.porstLow then .next s
  else .next ({ s with start := { s.start with porstLow := false, bootSel := bootSel, mgmtAddr := mgmtAddr } }.tryBegin)

/-- SYSRST_ASSERT (R567, R574): no effect while PORST_N holds the engine, and in OFF. -/
def execSysrstAssert (s : State) : Res :=
  let s := { s with start := { s.start with sysLow := true } }
  if !s.start.began || s.f PWR_STATE.state == 4 then .next s else .next (s.sysAsk 1 false)

/-- SYSRST_RELEASE (R565, R574). -/
def execSysrstRelease (s : State) : Res :=
  let s := { s with start := { s.start with sysLow := false } }
  match s.start.due with
  | some (c, _) => .next { s with start := { s.start with due := some (c, true) } }
  | none =>
    if s.start.therm = 0 ∨ !s.start.began then .next s.trySysGo
    else if s.start.cool then .next ({ s with start := { s.start with therm := 0 } }.trySysGo)
    else .next { s with start := { s.start with therm := 2 } }

/-- GLB_RST_SYS (R567): a write of GLB_RST. -/
def execGlbRstSys (p : Port) (v : Word) (s : State) : Res :=
  .next (s.hubWrite p GLB_RST.reg.addr (some 0) fun s => s.glbRstWrite p v.toNat)

/-- KEY_FUSE_DONE (R624, R574): the completion fuse has blown; a system reset that waited for it follows. -/
def execKeyFuseDone (s : State) : Res :=
  match s.fuse.running with
  | none => .next s
  | some q =>
    let s := ({ s with fuse := State.fuseMade s.fuse q }).fuseShow.raise 28
    match s.start.due with
    | some (c, rel) => .next (s.sysAsk c rel)
    | none => .next s

/-- MEM_TRAIN_DONE (R358, R571, R574): training of the channels has ended; contents that were kept need no initialising. -/
def execMemTrainDone (chans : List MemTrain) (s : State) : Res :=
  if !s.up .host || s.flag GLB_START.mem_ready || s.start.memInit || s.flag GLB_START.store_fault then .next s
  else
    let s := s.memTrained chans
    if s.start.memKept then .next s.memReady
    else .next { s with start := { s.start with memInit := true } }

/-- MEM_INIT_DONE (R571): every word of the used capacity holds zero data. -/
def execMemInitDone (s : State) : Res :=
  if s.start.memInit then .next { s with sdram := [] }.memReady else .next s

/-- START_DONE (R572): the boot, memory and timing chains have ended. -/
def execStartDone (s : State) : Res :=
  if s.f GLB_START.stage = 8 ∧ s.flag GLB_START.mem_ready ∧ s.flag GLB_START.cdc_ready ∧ !s.flag GLB_START.done ∧
      s.pwr.trans.isNone then .next s.startDone
  else .next s

/-- AVS_TRANSACTION (R562): the voltage is read back, settle_us after the write, of which 0 acts as 1. -/
def execAvsTransaction (good : Bool) (readMv : BitVec 16) (status : Byte) (s : State) : Res :=
  match s.avs.running with
  | none => .next s
  | some (mv, n) =>
    if s.avs.wroteAt + 2560 * max 1 (s.f GLB_AVS_CTL.settle_us) ≤ s.time.clk then
      .next ((s.set GLB_AVS_STATUS.reg_status status.toNat).avsBack mv n good readMv.toNat)
    else .next s

/-- AVS_STATUS_POLL (R562): the regulator's status. -/
def execAvsStatusPoll (status : Byte) (s : State) : Res :=
  if s.up .host then .next (s.set GLB_AVS_STATUS.reg_status status.toNat) else .next s

/-- AVS_MAN_WRITE (R563): a write of GLB_AVS_MAN. -/
def execAvsManWrite (p : Port) (v : Word) (s : State) : Res :=
  .next (s.hubWrite p GLB_AVS_MAN.reg.addr (some 14) fun s => s.avsManWrite v.toNat)

/-- UTILITY_PLL_FIRST_LOCK (R475, R569 steps 2 and 3): the reference has been measured and the utility PLL locks; engine
time is 0.0, HOST is released and the semaphores are free. -/
def execUtilityPllFirstLock (mhz100 : Bool) (s : State) : Res :=
  if !s.start.began || s.start.held || s.start.therm != 0 || s.up .host || s.f PWR_STATE.state != 0 then .next s
  else
    let s := s.refFound mhz100
    .next ({ s with time := { s.time with tick := 0, phase := 0 } }.hostUp .all)

/-- STARTUP_STORE_READ_DONE (R507, R569 to R571). -/
def execStartupStoreReadDone (s : State) : Res := if s.f GLB_START.stage = 4 then .next s.storeRead else .next s

end Sys2Proof.Machine
end

