-- ==== Sys2Proof/Machine/Strm.lean ====
section
/-! DEFINITION. The stream ports (13_dma_streaming.md, R436 to R448): path products and stored captures as VITA 49.2
packets over UDP. The places of the bits in the words of a packet are those of the published standard (log entry 49). -/

namespace Sys2Proof.Machine

/-! ### Byte order and time (R15, R438, R440) -/

/-- Groups of `w` bytes, each turned round; the first argument bounds the groups. -/
def beRun (w : Nat) : Nat → List Byte → List Byte
  | 0, _ => []
  | n + 1, b => if b.isEmpty then [] else (b.take w).reverse ++ beRun w n (b.drop w)

/-- Fields of a layout turned round one by one, and what follows in items of `w` bytes. -/
def beFields : List Nat → Nat → List Byte → List Byte
  | [], w, b => beRun w b.length b
  | f :: fs, w, b => (b.take f).reverse ++ beFields fs w (b.drop f)

/-- The layout of a gap record (R159). -/
def gapLayout : List Nat := [8, 8, 8, 1, 1, 2, 1, 3]
/-- The layout of a capture record (R344, R375). -/
def captureLayout : List Nat := [8, 8, 1, 1, 2, 1, 1, 2, 4, 4, 8, 8, 8, 8, 8, 8, 4, 4, 4, 4, 2, 1, 1, 4, 1, 1, 1, 1]

/-- The two timestamps of an instant: integer seconds and picoseconds (R440). -/
def stampPs (epoch : Nat) (t : Stamp) : Nat × Nat :=
  (epoch + t.tick / 2560000000, roundEvenNat ((t.tick % 2560000000 * 64 + t.phase) * 3125) 512)

/-- Sixteen-bit words, most significant byte first, summed. -/
def sum16 : Nat → List Byte → Nat
  | 0, _ => 0
  | n + 1, b => if b.isEmpty then 0 else (b.getD 0 0).toNat * 256 + (b.getD 1 0).toNat + sum16 n (b.drop 2)

/-- The one's complement of the one's complement sum; 0 is sent as all ones. -/
def onesSum (n : Nat) : Nat :=
  let a := n % 65536 + n / 65536
  let a := a % 65536 + a / 65536
  let a := a % 65536 + a / 65536
  if a = 65535 then 65535 else 65535 - a

/-- The header checksum of IPv4 over its bytes without it. -/
def ipSum (b : List Byte) : Nat :=
  let n := sum16 b.length b
  let a := n % 65536 + n / 65536
  65535 - (a % 65536 + a / 65536)

/-- The Ethernet frame of a datagram without its frame check sequence (R436): IEEE 802.3 and 802.1Q, IPv4 or IPv6, UDP. -/
def Datagram.frame (x : Datagram) : List Byte :=
  let n := 8 + x.data.length
  let head := [0x45, BitVec.ofNat 8 (4 * x.dscp)] ++ beBytes 2 (20 + n) ++ beBytes 2 x.ident ++ beBytes 2 (0x4000 * b2n x.df) ++
    [BitVec.ofNat 8 x.hops, 17]
  let addrs := (x.src ++ x.dst).flatMap (beBytes 4)
  let ip := if x.v6 then beBytes 4 (6 * 2 ^ 28 + 2 ^ 22 * x.dscp + x.ident) ++ beBytes 2 n ++ [17, BitVec.ofNat 8 x.hops] ++ addrs
    else head ++ beBytes 2 (ipSum (head ++ addrs)) ++ addrs
  beBytes 6 x.dmac ++ beBytes 6 x.smac ++
    (match x.vlan with
     | some v => beBytes 2 0x8100 ++ beBytes 2 v
     | none => []) ++
    beBytes 2 (if x.v6 then 0x86DD else 0x0800) ++ ip ++ beBytes 2 x.srcPort ++ beBytes 2 x.dstPort ++ beBytes 2 n ++
    beBytes 2 x.checksum ++ x.data

/-- Twelve-bit codes side by side, most significant bit first (R443). -/
def pack12Be (codes : List Nat) : List Byte :=
  beBytes ((codes.length * 12 + 7) / 8) (codes.foldl (fun a c => a * 4096 + c % 4096) 0)

/-- A frequency in Hz with 20 fraction bits, as 64 bits (R442). -/
def hz20 (x : Int × Nat) : List Byte := beBytes 8 (unsigned 64 (roundEven (x.1 * 2 ^ 20) (max 1 x.2)))

/-- A payload format word (R443): packing, real or complex, item format, fraction bits, item size, vector size. -/
def formatWord (link complex : Bool) (item frac size vector : Nat) : List Byte :=
  beBytes 4 (2 ^ 31 * b2n link + 2 ^ 29 * b2n complex + 2 ^ 24 * item + 2 ^ 12 * frac + 2 ^ 6 * (size - 1) + (size - 1)) ++
    beBytes 4 ((vector - 1) % 65536)

namespace State

/-! ### Flows and ports -/

/-- A flow. -/
def flow (s : State) (sp fl : Nat) : FlowSt := s.strm.flows.get FlowSt.reset (32 * sp + fl)

/-- The state with a flow changed. -/
def setFlow (s : State) (sp fl : Nat) (x : FlowSt) : State :=
  { s with strm := { s.strm with flows := s.strm.flows.put FlowSt.reset (32 * sp + fl) x } }

/-- The port sends IPv6. -/
def strmV6 (s : State) (sp : Nat) : Bool := s.flag (STRM_PORT_CTL.ipv6 sp)

/-- Bytes that the MTU leaves for the payload of a packet with a trailer (R436). -/
def strmRoom (s : State) (sp : Nat) : Nat :=
  let mtu := max 1280 (min 9000 (s.f (STRM_PORT_MTU.mtu sp)))
  mtu - (if s.strmV6 sp then 40 else 20) - 8 - 24 - 8 * s.f (STRM_PORT_CTL.class_en sp)

/-- Words of an address, from its first register on. -/
def addrWords (s : State) (l : Nat → Loc) (v6 : Bool) : List Nat := if v6 then (List.range 4).map fun i => s.f (l i) else [s.f (l 0)]

/-- The datagram of a flow around a packet (R436). -/
def datagramOf (s : State) (sp fl : Nat) (data : List Byte) : Datagram :=
  let v6 := s.strmV6 sp
  let src := if v6 then s.addrWords (fun i => STRM_PORT_IP6.reg sp i) true else [s.f (STRM_PORT_IP4.reg sp)]
  let dst := s.addrWords (fun i => STRM_FLOW_DST.reg sp fl i) v6
  let a := s.f (STRM_FLOW_UDP.src_port sp fl)
  let b := s.f (STRM_FLOW_UDP.dst_port sp fl)
  let n := 8 + data.length
  let sum := ((src ++ dst).map fun w => w / 65536 + w % 65536).foldl (· + ·) 0 + n / 65536 + n % 65536 + 17 + a + b + n % 65536 +
    sum16 data.length data
  let ident := Config.ipIdent sp (s.f (STRM_PORT_TX.reg sp)) % (if v6 then 2 ^ 20 else 2 ^ 16)
  let x : Datagram :=
    { dmac := s.f (STRM_FLOW_DMAC.mac sp fl), smac := s.f (STRM_PORT_MAC.mac sp),
      vlan := if s.flag (STRM_PORT_CTL.vlan_en sp) then some (s.f (STRM_PORT_CTL.vlan_id sp)) else none, v6 := v6, src := src,
      dst := dst, dscp := s.f (STRM_FLOW_OPT.dscp sp fl), srcPort := a, dstPort := b, checksum := if v6 then onesSum sum else 0,
      data := data, df := !v6, hops := 64, ident := ident, fcs := 0 }
  { x with fcs := frameCheck x.frame }

/-- Bytes that a packet takes on the line (R447). -/
def wireBytes (s : State) (sp n : Nat) : Nat :=
  n + 8 + (if s.strmV6 sp then 40 else 20) + 18 + 20 + 4 * s.f (STRM_PORT_CTL.vlan_en sp)

/-- What waits in the transmit buffer of a port, in bytes (R445). -/
def strmWaiting (s : State) (sp : Nat) : Nat :=
  let b := Tab.get 0 s.strm.buffer sp
  (if s.flag (STRM_PORT_STATUS.link sp) then b - 625 * s.time.clk else b) / 128

/-- The transmit buffer of a port takes a packet. -/
def strmQueue (s : State) (sp n : Nat) : State :=
  let b := Tab.get 0 s.strm.buffer sp
  let b := if s.flag (STRM_PORT_STATUS.link sp) then max b (625 * s.time.clk) else b
  { s with strm := { s.strm with buffer := s.strm.buffer.put 0 sp (b + 128 * s.wireBytes sp n) } }

/-- The transmit buffer of a port holds what waits (R445). -/
def strmFits (s : State) (sp : Nat) : Bool := decide (s.strmWaiting sp ≤ 8 * 1024 * 1024)

/-! ### Packets (R438, R439) -/

/-- Bytes of a packet: header, stream and class IDs, timestamps, body, and a trailer (R439). -/
def vitaBytes (s : State) (sp fl type ind count : Nat) (t : Stamp) (body : List Byte) (trailer : Option Nat) : List Byte :=
  let cls := s.f (STRM_PORT_CTL.class_en sp)
  let body := body ++ List.replicate ((4 - body.length % 4) % 4) 0
  let words := 5 + 2 * cls + body.length / 4 + (if trailer.isSome then 1 else 0)
  let tsi := if s.f (STRM_PORT_CTL.tsi sp) = 0 then 3 else s.f (STRM_PORT_CTL.tsi sp)
  let ps := stampPs (s.f STRM_EPOCH_SEC.reg) t
  beBytes 4 (2 ^ 28 * type + 2 ^ 27 * cls + 2 ^ 24 * ind + 2 ^ 22 * tsi + 2 ^ 21 + 2 ^ 16 * (count % 16) + words % 65536) ++
    beBytes 4 (s.f (STRM_FLOW_SID.reg sp fl)) ++ (if cls = 1 then beBytes 8 (s.regVal (STRM_CLASS.reg sp)) else []) ++
    beBytes 4 ps.1 ++ beBytes 8 ps.2 ++ body ++
    (match trailer with
     | some w => beBytes 4 w
     | none => [])

/-- A packet leaves through the transmit buffer, counted. -/
def strmSend (s : State) (sp fl : Nat) (data : List Byte) : State :=
  let s := s.emit (.datagram sp (s.datagramOf sp fl data))
  let s := s.strmQueue sp data.length
  (s.addWrap (STRM_PORT_TX.reg sp) 1).addWrap (STRM_FLOW_SENT.reg sp fl) 1

/-- A data packet, with its trailer (R439, R441). -/
def sendData (s : State) (sp fl type : Nat) (spectrum : Bool) (t : Stamp) (body : List Byte) (trailer : Nat) : State :=
  let x := s.flow sp fl
  let b := s.vitaBytes sp fl type (6 + b2n spectrum) x.dataNo t body (some trailer)
  (s.setFlow sp fl { x with dataNo := (x.dataNo + 1) % 16, loss := false }).strmSend sp fl b

/-- An extension context packet (R438). -/
def sendExt (s : State) (sp fl : Nat) (t : Stamp) (body : List Byte) : State :=
  let x := s.flow sp fl
  let b := s.vitaBytes sp fl 5 0 x.ctxNo t body none
  (s.setFlow sp fl { x with ctxNo := (x.ctxNo + 1) % 16 }).strmSend sp fl b

/-- The enable bits of the indicators that R441 lists. -/
def trailerEnables : Nat := 2 ^ 31 + 2 ^ 30 + 2 ^ 29 + 2 ^ 25 + 2 ^ 24 + 2 ^ 23 + 2 ^ 22 + 2 ^ 21 + 2 ^ 20

/-- The trailer of a data packet whose parcel carries these flags (R441). -/
def trailerOf (s : State) (flags : Nat) (mark loss : Bool) : Nat :=
  let bad := bit flags flagCLK || bit flags flagUNSETTLED || bit flags flagCAL
  let ind := 2 ^ 19 * b2n (!bit flags flagTIME) + 2 ^ 18 * b2n (!bad) +
    2 ^ 17 * b2n (s.flag SPLL_STATUS.locked && s.flag UPLL_STATUS.locked) +
    2 ^ 13 * b2n (bit flags flagOVR || bit flags flagTAINT) + 2 ^ 12 * b2n (bit flags flagGAP || loss) +
    2 ^ 11 * b2n (bit flags flagSTALE) + 2 ^ 10 * b2n mark + 2 ^ 9 * b2n (bit flags flagUNSETTLED) + 2 ^ 8 * b2n (bit flags flagCAL)
  trailerEnables + ind

/-! ### What a stream carries (R442, R443) -/

/-- The window, or the baseband at nesting 0, that a stream's samples or spectra come from. -/
def streamRoot (s : State) (p stream : Nat) : Nat × Nat :=
  match s.streamWindow p stream with
  | some w => (3, w)
  | none =>
    match (List.range 8).find? fun i => (s.xfCfg p i).source != 0 && (s.xfCfg p i).stream == stream with
    | some i => if (s.xfCfg p i).source ≤ 1 then (0, 0) else (3, (s.xfCfg p i).source - 2)
    | none => (0, 0)

/-- The transform instance whose stream this is. -/
def streamInst (s : State) (p stream : Nat) : Option Nat :=
  (List.range 8).find? fun i => (s.xfCfg p i).source != 0 && (s.xfCfg p i).stream == stream

/-- The settings in force on a path at an index. -/
def cfgSeq (s : State) (p seq : Nat) : PathCfg := (cfgAt (s.ddcOf p).cfgs seq).2

/-- Spectra of an instance are delivered as binary32 at an index (R267). -/
def specFloat (s : State) (p i seq : Nat) : Bool := ((s.cfgSeq p seq).xfs.getD i (s.xfCfg p i)).float

/-- Fields of a context packet that do not change from packet to packet: bandwidth, IF and RF reference, reference level,
sample rate, payload format (R442, R443), for a flow of a kind of product on a path and stream at an index; `stored` is the format of a region's units (R446). -/
def contextFields (s : State) (sp fl p stream : Nat) (kind : Kind) (seq : Nat) (stored : Option Nat) : List (List Byte) :=
  let c := s.cfgSeq p seq
  let fs := s.pathFs24 p
  let root := s.streamRoot p stream
  let r := c.rate fs root.1 root.2
  let zone1 := match s.refAt p seq with
    | some b => b.zone == 1
    | none => false
  let f := c.centre fs zone1 root.1 root.2
  let block := kind == .block
  let level := beBytes 4 (s.f (STRM_FLOW_REF.level sp fl))
  let bins := 2 ^ (match s.streamInst p stream with
    | some i => ((c.xfs.getD i (s.xfCfg p i)).nLog2)
    | none => 0)
  let float := match stored, s.streamInst p stream with
    | some f, _ => f == 4
    | none, some i => s.specFloat p i seq
    | none, none => s.streamFloat p stream seq
  let pack12 := match stored with
    | some f => f == 2
    | none => s.flag (STRM_FLOW_CTL.pack12 sp fl)
  let rate : List Byte := match kind with
    | .block => hz20 ((fs : Int), 2 ^ 24)
    | .iq => hz20 ((r.1 : Int), r.2)
    | .spectrum => (match s.streamInst p stream with
      | some i => hz20 (((s.specRate p i).1 : Int), (s.specRate p i).2)
      | none => hz20 (0, 1))
    | _ => beBytes 8 (Config.ctxRecord p stream).1
  let format : List Byte := match kind with
    | .block => if pack12 then formatWord true false 0 0 12 1 else formatWord false false 0 0 16 1
    | .iq => if float then formatWord false true 14 0 32 1 else formatWord false true 0 15 16 1
    | .spectrum => if float then formatWord false false 14 0 32 bins else formatWord false false 16 8 16 bins
    | _ => beBytes 8 (Config.ctxRecord p stream).2
  [if block then hz20 ((fs : Int), 2 ^ 25) else hz20 (4 * (r.1 : Int), 5 * r.2), hz20 (0, 1),
   if block then hz20 (0, 1) else hz20 f, level, rate, format]

/-- A context packet (R442): `ind` are the indicators for the next data packet, which `known` says the state gives. -/
def sendContext (s : State) (sp fl : Nat) (fields : List (List Byte)) (ind : Nat) (known : Bool) : State :=
  let x := s.flow sp fl
  let all := fields.flatten
  let changed := x.sentCtx != some all
  let fd := fun (i : Nat) => fields.getD i []
  let cif := 2 ^ 31 * b2n changed + 2 ^ 29 + 2 ^ 28 + 2 ^ 27 + 2 ^ 24 + 2 ^ 22 + 2 ^ 21 + 2 ^ 16 + 2 ^ 15
  let state := ind / 256 * 256 + x.marker % 256
  let body := beBytes 4 cif ++ fd 0 ++ fd 1 ++ fd 2 ++ fd 3 ++ beBytes 4 x.overs ++ fd 4 ++ beBytes 4 state ++ fd 5
  let b := s.vitaBytes sp fl 4 0 x.ctxNo s.now body none
  (s.setFlow sp fl { x with ctxNo := (x.ctxNo + 1) % 16, overs := 0, sentCtx := some all, sentOvers := x.overs,
                            sentState := if known then some state else none }).strmSend sp fl b

/-- A field of the context of a flow differs from its previous context packet (R442). -/
def contextDue (s : State) (sp fl : Nat) (fields : List (List Byte)) (ind : Nat) : Bool :=
  let x := s.flow sp fl
  x.sentCtx != some fields.flatten || x.overs != x.sentOvers || (match x.sentState with
    | some w => w != ind / 256 * 256 + x.marker % 256
    | none => false)

/-- The kind of product that a flow on an exit or a region carries; IQ where the structure names none. -/
def flowKind (s : State) (p stream : Nat) : Kind := (s.streamKind p stream).getD .iq

/-- The path and the stream that a flow carries: of its exit, or of its region (R437, R446). -/
def flowOrigin (s : State) (sp fl : Nat) : Nat × Nat :=
  let sel := s.f (STRM_FLOW_CTL.sel sp fl)
  if s.flag (STRM_FLOW_CTL.src sp fl) then (s.f (TRG_RGN_CTL.path sel), s.f (CAP_REGION_SRC.stream sel))
  else (s.f (STRM_FLOW_CTL.path sp fl), sel)

/-- A context packet with no data packet at hand: at enable, and periodic (R442). Which indicators the next data packet will set is
not known but for the sample loss that the flow owes. A packet that finds no room is not sent (log entry 50). -/
def contextNow (s : State) (sp fl : Nat) : State :=
  let o := s.flowOrigin sp fl
  let sel := s.f (STRM_FLOW_CTL.sel sp fl)
  let stored := if s.flag (STRM_FLOW_CTL.src sp fl) && s.capFmt sel != 0 then some (s.capFmt sel) else none
  let seq := 2 ^ 64
  let d := s.draw
  let ind := trailerEnables + ((Config.ctxNext d.1 &&& 0xE3F00) ||| 2 ^ 12 * b2n (s.flow sp fl).loss)
  let t := d.2.sendContext sp fl (s.contextFields sp fl o.1 o.2 (s.flowKind o.1 o.2) seq stored) ind false
  if t.strmFits sp then t else s

/-! ### Parcels as packets (R437, R438, R444, R445) -/

/-- The layout of a record of a path's stream, from the offset of its segment on: header fields, and the item size after
them (R269, R273, R279, R283). -/
def recordLayout (s : State) (p stream segment seq : Nat) : List Nat × Nat :=
  let o := 8192 * segment
  let chz := s.f (CHZ_LIMIT.stream p)
  if stream = Config.kurtosisStream (s.digestOf p) p then
    let c := s.cfgSeq p seq
    let n := if s.fa (SK_CTL.src p) = 1 then 2 ^ c.chzM else 2 ^ (c.xfs.getD 0 (s.xfCfg p 0)).nLog2
    if segment = 0 then ([8, 8, 4, 4, 4, 3, 1] ++ List.replicate n 2, 1) else (List.replicate ((32 + 2 * n - o) / 2) 2, 1)
  else if (s.streamInst p stream).isSome then (if segment = 0 then [8, 8, 4, 4, 4, 1, 1, 2] else [], 2)
  else if s.mode p = 4 ∧ stream + 1 = chz then ([8, 8, 8, 8, 4, 2, 1, 1, 2, 2, 4, 8, 8], 1)
  else if s.mode p = 4 ∧ stream = chz then ([], 8)
  else (if segment = 0 then [8, 8, 4, 4, 4, 4] else [], 2)

/-- The payload of a parcel in network order. -/
def payloadBe (s : State) (sp fl : Nat) (x : Parcel) : List Byte :=
  match x.kind with
  | .block =>
    if s.flag (STRM_FLOW_CTL.pack12 sp fl) then pack12Be ((unpackBits 16 1024 (leNat x.payload)).map (· / 16)) else beFields [] 2 x.payload
  | .iq => beFields [] (if s.streamFloat x.path x.stream x.seq then 4 else 2) x.payload
  | .spectrum =>
    let float := match s.streamInst x.path x.stream with
      | some i => s.specFloat x.path i x.seq
      | none => false
    beFields [] (if float then 4 else 2) x.payload
  | .record => let l := s.recordLayout x.path x.stream x.segment x.seq; beFields l.1 l.2 x.payload
  | _ => beFields gapLayout 1 x.payload

/-- A stamp later, or earlier, by `pos` units of `posUnit` at the rate of a path. -/
def stampAfter (s : State) (p : Nat) (t : Stamp) (pos : Int) : Stamp :=
  let u := ((64 * t.tick + t.phase : Nat) + roundEven (pos * (64 * 2560000000 * 2 ^ 24 : Nat)) (max 1 (s.pathFs24 p) * posUnit)).toNat
  ⟨u / 64, u % 64⟩

/-- How the samples of data packets lie on the wire: bits of one, where each lies in units of `posUnit` past the stamp that
they are timed from, and those that carry OVR among the samples from one place up to another (R439, R442). -/
structure WireForm where
  bits : Nat
  place : Nat → Int
  overs : Nat → Nat → Nat

/-- Samples that carry OVR from one place up to another: those so marked where a container holds the mark (R178), else all of
a parcel that carries the flag. -/
def oversIn (x : Parcel) (marked : Bool) (i j : Nat) : Nat :=
  if !bit x.flags flagOVR then 0
  else if marked then ((List.range (j - i)).filter fun k => bit (field x.payload (2 * (i + k)) 2) 3).length
  else j - i

/-- The packet of a payload piece, `off` bytes into the payload, after a context packet where one is due (R442). -/
def sendPiece (s : State) (sp fl : Nat) (x : Parcel) (form : Option WireForm) (t : Stamp) (fields : List (List Byte)) (off : Nat)
    (b : List Byte) : State :=
  let at_ := match form with
    | some w => s.stampAfter x.path t (w.place (8 * off / w.bits))
    | none => t
  let overs := match form with
    | some w => w.overs (8 * off / w.bits) (8 * (off + b.length) / w.bits)
    | none => 0
  let tr := s.trailerOf x.flags x.marker.isSome (s.flow sp fl).loss
  let s := if x.marker.isSome || s.contextDue sp fl fields tr then s.sendContext sp fl fields tr true else s
  let s := s.sendData sp fl (if x.kind = .record then 3 else 1) (decide (x.kind = .spectrum)) at_ b tr
  let y := s.flow sp fl
  s.setFlow sp fl { y with overs := y.overs + overs }

/-- The packets of a list of payload pieces, `off` bytes into the payload. -/
def sendPieces (s : State) (sp fl : Nat) (x : Parcel) (form : Option WireForm) (t : Stamp) (fields : List (List Byte)) :
    Nat → List (List Byte) → State
  | _, [] => s
  | off, b :: bs => (s.sendPiece sp fl x form t fields off b).sendPieces sp fl x form t fields (off + b.length) bs

/-- Pieces of at most `n` bytes. -/
def pieces (n : Nat) : Nat → List Byte → List (List Byte)
  | 0, _ => []
  | k + 1, b => if b.isEmpty then [] else b.take n :: pieces n k (b.drop n)

/-- A payload as the payloads of packets: whole where the MTU takes it, else in the largest multiples of 8 bytes (R438). -/
def splitBody (s : State) (sp : Nat) (b : List Byte) : List (List Byte) :=
  if b.length ≤ s.strmRoom sp then pieces b.length b.length b else pieces (s.strmRoom sp / 8 * 8) b.length b

/-- How the samples of a parcel lie on the wire, where a packet carries the time of its first sample (R439); the first lies
`pos` units of `posUnit` past the stamp. -/
def wireForm (s : State) (sp fl : Nat) (x : Parcel) (pos : Int) : Option WireForm :=
  match x.kind with
  | .block => some { bits := if s.flag (STRM_FLOW_CTL.pack12 sp fl) then 12 else 16, place := fun i => pos + (i * posUnit : Nat)
                     overs := oversIn x true }
  | .iq => some { bits := if s.streamFloat x.path x.stream x.seq then 64 else 32
                  place := fun i => pos + (i * s.streamSpacing x.path x.stream .iq : Nat), overs := oversIn x false }
  | _ => none

/-- A parcel goes out as packets, its first sample `pos` units of `posUnit` past a stamp (R438, R439). -/
def sendParcel (s : State) (sp fl : Nat) (x : Parcel) (t : Stamp) (pos : Int) : State :=
  let b := s.payloadBe sp fl x
  if x.kind = .gap then s.sendExt sp fl (s.stampAfter x.path t pos) b
  else
    let y := s.flow sp fl
    let s := s.setFlow sp fl { y with marker := match x.marker with
                                                | some m => m.1
                                                | none => y.marker }
    let form := s.wireForm sp fl x pos
    let t := if form.isSome then t else s.stampAfter x.path t pos
    s.sendPieces sp fl x form t (s.contextFields sp fl x.path x.stream x.kind x.seq none) 0 (s.splitBody sp b)

/-- A parcel finds no room in the buffer of its port (R445). -/
def strmDrop (s : State) (sp fl : Nat) : State :=
  let s := (s.bump (STRM_FLOW_DROP.dropped sp fl)).setFlow sp fl { s.flow sp fl with loss := true }
  let last := Tab.get 0 s.strm.dropped sp
  if last = 0 ∨ last - 1 + msTicks 1 ≤ s.time.clk then
    { s with strm := { s.strm with dropped := s.strm.dropped.put 0 sp (s.time.clk + 1) } }.raise (846 + sp)
  else s

/-- A data parcel is withheld because it carries CLK_INVALID (R444). -/
def strmWithholds (s : State) (sp fl : Nat) (x : Parcel) : Bool :=
  x.kind != .gap && bit x.flags flagCLK && !s.flag (STRM_FLOW_CTL.send_invalid sp fl)

/-- A parcel of the flow's source is counted, and the answer says that it is kept: one product in every keep_m1 + 1, and
every GAP parcel (R437). -/
def strmKeeps (s : State) (sp fl : Nat) (x : Parcel) : State × Bool :=
  if x.kind = .gap then (s, true)
  else
    let y := s.flow sp fl
    if x.segment = 0 then
      let keep := y.products % (s.f (STRM_FLOW_CTL.keep_m1 sp fl) + 1) == 0
      (s.setFlow sp fl { y with products := y.products + 1, keep := keep }, keep)
    else (s, y.keep)

/-- A port and a flow of it are enabled. -/
def flowOn (s : State) (sp fl : Nat) : Bool :=
  s.up .host && s.flag (STRM_PORT_CTL.en sp) && s.flag (STRM_FLOW_CTL.en sp fl)

/-- A flow sends what its source gives: in IDLE and below, flows send periodic context packets at most (R448). -/
def flowRuns (s : State) (sp fl : Nat) : Bool := s.flowOn sp fl && s.f PWR_STATE.state == 0

/-- A parcel that leaves a path's exit comes to an exit flow (R437 to R445, R554). -/
def flowParcel (s : State) (sp fl : Nat) (x : Parcel) : State :=
  let sel := s.f (STRM_FLOW_CTL.sel sp fl)
  if !s.flowRuns sp fl || s.flag (STRM_FLOW_CTL.src sp fl) || !x.reaches (s.f (STRM_FLOW_CTL.path sp fl)) sel then s
  else if !x.crcOk then
    ((s.bump (STRM_FLOW_DROP.dropped sp fl)).chkFail x.seq 0 3 8 (128 + 32 * sp + fl) 3 (some x.path)).setFlow sp fl
      { s.flow sp fl with loss := true }
  else
    let r := s.strmKeeps sp fl x
    if !r.2 then r.1
    else if r.1.strmWithholds sp fl x then
      (r.1.bump (STRM_FLOW_DROP.withheld sp fl)).setFlow sp fl { r.1.flow sp fl with loss := true }
    else
      let t := r.1.sendParcel sp fl x ⟨x.tick, x.phase⟩ 0
      if t.strmFits sp then t else r.1.strmDrop sp fl

/-! ### Region flows (R446) -/

/-- Bytes of a region from a lifetime position on. -/
def regionBytes (s : State) (r pos n : Nat) : List Byte :=
  (List.range n).map fun i => s.sdram.get 0 (s.regionBase r + (pos + i) % s.regionSize r)

/-- The capture record with a number of a region, among the newest records of its record region, and its lifetime position;
the first argument bounds how many are looked at. -/
def findRecord (s : State) (q r number : Nat) : Nat → Nat → Option (Nat × List Byte)
  | 0, _ => none
  | n + 1, pos =>
    if pos < 128 then none
    else
      let b := s.regionBytes q (pos - 128) 128
      if field b 100 4 = number ∧ field b 104 1 = r then some (pos - 128, b) else s.findRecord q r number n (pos - 128)

/-- The stored parcels of a capture in format 0x0. -/
def storedParcels : Nat → List Byte → List Parcel
  | 0, _ => []
  | n + 1, b =>
    match Parcel.ofBytes b with
    | none => []
    | some x => if b.length < 32 then [] else x :: storedParcels n (b.drop (32 + field b 4 2))

/-- What a flow meets in capture memory as it reads `n` bytes of a region from a lifetime position on (R359). -/
def flowMeet (s : State) (r pos n : Nat) : List (Nat × Option (Fin 2 × Fin 39)) → State
  | [] => s
  | e :: es =>
    let base := s.regionBase r
    let size := s.regionSize r
    let hit := decide (base ≤ e.1 ∧ e.1 < base + size ∧ (e.1 - base + size - pos % size) % size < n)
    let s := match hit, e.2 with
      | true, some x => s.memFixed e.1 x.1.val x.2.val
      | true, none => s.memFail e.1 3 none
      | false, _ => s
    s.flowMeet r pos n es

/-- The instant of a capture record, its index, and the bytes of its capture: the position of the first and their number. -/
def recStamp (b : List Byte) : Stamp := ⟨field b 8 8, field b 16 1 % 64⟩
/-- The trigger's index. -/
def recIndex (b : List Byte) : Nat := field b 0 8
/-- The lifetime position of the capture's first byte. -/
def recStart (b : List Byte) : Nat := field b 48 8
/-- Bytes of the capture. -/
def recLength (b : List Byte) : Nat := field b 56 8

/-- The bytes of a recorded capture are intact (R375). -/
def recIntact (s : State) (r : Nat) (b : List Byte) : Bool := decide (s.f (CAP_REGION_WRITTEN.reg r) ≤ recStart b + s.regionSize r)

/-- Where the sample at a byte of a capture lies, in units of `posUnit`: in the run of samples without a gap that holds it, as the
engine knows it of the captures it has recorded, else as though the capture had no gap (R368, R446, log entry 50). -/
def recPlace (s : State) (r bits spacing : Nat) (b : List Byte) (byte : Nat) : Nat :=
  let runs := (((s.region r).recorded.find? fun c => c.number == field b 100 4 && c.start == recStart b).map Recorded.runs).getD []
  let run := ((runs.filter fun e => decide (e.1 ≤ byte)).getLast?).getD (recStart b, field b 64 8 * posUnit)
  run.2 + 8 * (byte - run.1) / bits * spacing

/-- A capture of a format other than 0x0 as one parcel, and how its samples lie on the wire past the trigger's instant. -/
def rawCapture (s : State) (r : Nat) (b : List Byte) : Parcel × WireForm :=
  let fmt := field b 99 1
  let kind := if fmt ≤ 2 then Kind.block else Kind.iq
  let p := field b 105 1 % 4
  let stream := field b 106 1
  let x : Parcel := { path := p, replay := false, kind := kind, flags := field b 96 1, seq := field b 64 8, tick := 0, phase := 0
                      segment := 0, segments := 1, marker := none, stream := stream
                      payload := s.regionBytes r (recStart b) (recLength b), crc := 0 }
  let n := if fmt = 1 then 16 else if fmt = 2 then 12 else if fmt = 3 then 32 else 64
  (x, { bits := n, overs := oversIn x (fmt == 1)
        place := fun i =>
          (s.recPlace r n (s.streamSpacing p stream kind) b (recStart b + i * n / 8) : Int) - (recIndex b * posUnit : Nat) })

/-- The payload of such a capture in network order (R438, R443). -/
def rawWire (b payload : List Byte) : List Byte :=
  match field b 99 1 with
  | 2 => pack12Be (unpackBits 12 (payload.length * 8 / 12) (leNat payload))
  | 4 => beFields [] 4 payload
  | _ => beFields [] 2 payload

/-- Data packets of a capture go out, `off` bytes into it, while the buffer of the port has room; the answer is how many bytes
have gone by (R445, R446, log entry 50). -/
def sendRaw (s : State) (sp fl : Nat) (x : Parcel) (form : WireForm) (t : Stamp) (fields : List (List Byte)) :
    Nat → List (List Byte) → State × Nat
  | off, [] => (s, off)
  | off, b :: bs =>
    let u := s.sendPiece sp fl x (some form) t fields off b
    if u.strmFits sp then u.sendRaw sp fl x form t fields (off + b.length) bs else (s, off)

/-- Stored parcels go out, each timed by its index, `off` bytes into a capture of `len`, while the buffer of the port has room
(R444 to R446). -/
def sendStored (s : State) (sp fl ix len : Nat) (t : Stamp) : Nat → List Parcel → State × Nat
  | _, [] => (s, len)
  | off, x :: xs =>
    let off' := off + 32 + x.payload.length
    if s.strmWithholds sp fl x then
      ((s.bump (STRM_FLOW_DROP.withheld sp fl)).setFlow sp fl { s.flow sp fl with loss := true }).sendStored sp fl ix len t off' xs
    else
      let u := s.sendParcel sp fl x t ((x.seq * posUnit : Nat) - (ix * posUnit : Nat) : Int)
      if u.strmFits sp then u.sendStored sp fl ix len t off' xs else (s, off)

/-- What follows `off` bytes of a capture goes out while the buffer of the port has room; the answer is how many bytes have gone
by (R446). -/
def sendCapture (s : State) (sp fl r : Nat) (b : List Byte) (off : Nat) : State × Nat :=
  if field b 99 1 = 0 then
    s.sendStored sp fl (recIndex b) (recLength b) (recStamp b) off
      (storedParcels (recLength b) (s.regionBytes r (recStart b + off) (recLength b - off)))
  else
    let x := s.rawCapture r b
    s.sendRaw sp fl x.1 x.2 (recStamp b) (s.contextFields sp fl x.1.path x.1.stream x.1.kind x.1.seq (some (field b 99 1))) off
      (s.splitBody sp ((rawWire b x.1.payload).drop off))

/-- A flow has done with a capture: the next one follows. -/
def captureOver (s : State) (sp fl : Nat) : State :=
  (s.setFlow sp fl { s.flow sp fl with sending := none }).addWrap (STRM_FLOW_AT.reg sp fl) 1

/-- A capture, or the rest of it, is skipped: it has been overwritten (R446). -/
def skipCapture (s : State) (sp fl : Nat) : State :=
  (((s.bump (STRM_FLOW_DROP.dropped sp fl)).setFlow sp fl { s.flow sp fl with loss := true }).raise (848 + sp)).captureOver sp fl

/-- A recorded capture goes on from `off` bytes into it (R446). -/
def flowGo (s : State) (sp fl r : Nat) (b : List Byte) (off : Nat) (errors : List (Nat × Option (Fin 2 × Fin 39))) : State :=
  if recLength b ≤ off then s.captureOver sp fl
  else if !s.recIntact r b then s.skipCapture sp fl
  else
    let p := s.sendCapture sp fl r b off
    let s := p.1.flowMeet r (recStart b + off) (p.2 - off) errors
    if recLength b ≤ p.2 then s.captureOver sp fl
    else s.setFlow sp fl { s.flow sp fl with sending := some (b, p.2) }

/-- A region flow goes on with the capture that it is sending, or sends the next recorded one: its record, then its bytes; or
skips it (R446). -/
def regionFlow (s : State) (sp fl : Nat) (errors : List (Nat × Option (Fin 2 × Fin 39))) : State :=
  let r := s.f (STRM_FLOW_CTL.sel sp fl)
  let q := s.f (CAP_REGION_SRC.rec_region r)
  let number := s.f (STRM_FLOW_AT.reg sp fl)
  if !s.flowRuns sp fl || !s.flag (STRM_FLOW_CTL.src sp fl) || !s.regionExists r then s
  else
    match (s.flow sp fl).sending with
    | some (b, off) => s.flowGo sp fl r b off errors
    | none =>
      if !s.regionExists q || decide ((s.region r).number ≤ number) then s
      else
        let w := s.f (CAP_REGION_WRITTEN.reg q)
        match s.findRecord q r number (min w (s.regionSize q) / 128) w with
        | none => s.skipCapture sp fl
        | some (pos, b) =>
          let s := s.flowMeet q pos 128 errors
          if !s.recIntact r b then s.skipCapture sp fl
          else
            let t := s.sendExt sp fl (recStamp b) (beFields captureLayout 1 b)
            if t.strmFits sp then t.flowGo sp fl r b 0 errors else s

/-! ### Register writes (R450) -/

/-- A flow is switched off: a region flow gives its lease back. -/
def flowOff (s : State) (sp fl : Nat) : State :=
  let s := (s.set (STRM_FLOW_CTL.en sp fl) 0).setFlow sp fl { s.flow sp fl with sending := none }
  let r := s.f (STRM_FLOW_CTL.sel sp fl)
  if s.flag (STRM_FLOW_CTL.src sp fl) && (s.region r).leases.contains (.stream, 32 * sp + fl) then s.unlease r .stream (32 * sp + fl) else s

/-- A flow has been switched on: its first context packet, and a region flow's lease and starting number (R442, R446). -/
def flowStart (s : State) (sp fl : Nat) : State :=
  let x := s.flow sp fl
  let s := s.setFlow sp fl { FlowSt.reset with dataNo := x.dataNo, ctxNo := x.ctxNo, ctxAt := s.time.clk }
  let r := s.f (STRM_FLOW_CTL.sel sp fl)
  let s := if s.flag (STRM_FLOW_CTL.src sp fl) then
      let s := s.set (STRM_FLOW_AT.reg sp fl) (s.f (STRM_FLOW_FROM.reg sp fl))
      if s.regionExists r then s.lease r .stream (32 * sp + fl) else s
    else s
  if s.flowRuns sp fl then s.contextNow sp fl else s

/-- A write to STRM_FLOW_CTL (R437, R450): an absent path drops the write; other fields hold while en is 1. -/
def flowCtlWrite (s : State) (sp fl v : Nat) : State :=
  if !s.pathPresent (bits v 26 2) then s
  else if s.flag (STRM_FLOW_CTL.en sp fl) then (if bit v 31 then s else s.flowOff sp fl)
  else
    let s := s.plainWrite (STRM_FLOW_CTL.reg sp fl).addr v
    if bit v 31 then s.flowStart sp fl else s

/-- A write to another setting of a flow: dropped while en is 1 (R437). -/
def flowFieldWrite (s : State) (sp fl off v : Nat) : State := if s.flag (STRM_FLOW_CTL.en sp fl) then s else s.plainWrite off v

/-- The link of a port goes up or down (R451). -/
def strmLink (s : State) (sp : Nat) (on : Bool) : State :=
  if s.flag (STRM_PORT_STATUS.link sp) == on then s
  else
    let b := Tab.get 0 s.strm.buffer sp
    let b := if on then b + 625 * s.time.clk else b - 625 * s.time.clk
    let s := { s with strm := { s.strm with buffer := s.strm.buffer.put 0 sp b } }
    let s := ((s.set (STRM_PORT_STATUS.link sp) (b2n on)).set (STRM_PORT_STATUS.align sp) (b2n on)).set (STRM_PORT_STATUS.block_lock sp) (b2n on)
    s.raise (844 + sp)

/-- A write to STRM_PORT_CTL: a port that is switched off takes its link down. -/
def portCtlWrite (s : State) (sp v : Nat) : State :=
  let s := s.plainWrite (STRM_PORT_CTL.reg sp).addr v
  if bit v 31 then s else s.strmLink sp false

/-- SLEEP: the lanes of both ports go to electrical idle (R448). -/
def strmSleep (s : State) : State := (s.strmLink 0 false).strmLink 1 false

end State

/-! ### Meanings -/

/-- STRM_FLOW_PARCEL (R437 to R445). -/
def execStrmFlowParcel (sp : Fin 2) (fl : Fin 32) (x : Parcel) (s : State) : Res := .next (s.flowParcel sp fl x)

/-- STRM_FLOW_ENABLE (R442, R446): a write of STRM_FLOW_CTL with en set. -/
def execStrmFlowEnable (p : Port) (sp : Fin 2) (fl : Fin 32) (v : Word) (s : State) : Res :=
  .next (s.hubWrite p (STRM_FLOW_CTL.reg sp fl).addr (some 9) fun s => s.flowCtlWrite sp fl (v.toNat ||| 2 ^ 31))

/-- STRM_CONTEXT_TIMER (R442, R448): ctx_ms have passed since the enable or the periodic packet before. -/
def execStrmContextTimer (sp : Fin 2) (fl : Fin 32) (s : State) : Res :=
  let ms := s.f (STRM_FLOW_OPT.ctx_ms sp fl)
  let x := s.flow sp fl
  if s.flowOn sp fl && decide (s.f PWR_STATE.state < 2) && ms != 0 && decide (x.ctxAt + msTicks ms ≤ s.time.clk) then
    .next ((s.setFlow sp fl { x with ctxAt := s.time.clk }).contextNow sp fl)
  else .next s

/-- STRM_REGION_CAPTURE (R446, R359). -/
def execStrmRegionCapture (sp : Fin 2) (fl : FlowRead) (s : State) : Res := .next (s.regionFlow sp fl.flow fl.errors)

/-- A frame comes in that nothing answers: counted and dropped (R436). -/
def State.strmRxDrop (s : State) (sp : Nat) : State := s.addWrap (STRM_PORT_RX.dropped sp) 1

/-- STRM_ARP_REQUEST (R436): answered where it asks for the port's IPv4 address, whichever protocol the flows use. -/
def execStrmArpRequest (sp : Fin 2) (mac : BitVec 48) (sender target : Word) (s : State) : Res :=
  if !s.up .host || !s.flag (STRM_PORT_STATUS.link sp) then .next s
  else if target.toNat == s.f (STRM_PORT_IP4.reg sp) then
    .next ((s.addWrap (STRM_PORT_RX.answered sp) 1).emit (.arpReply sp mac.toNat sender.toNat))
  else .next (s.strmRxDrop sp)

/-- STRM_NEIGHBOR_SOLICIT (R436): answered where it asks for the port's IPv6 address, whichever protocol the flows use. -/
def execStrmNeighborSolicit (sp : Fin 2) (mac : BitVec 48) (sender target : BitVec 128) (s : State) : Res :=
  let words := fun (a : BitVec 128) => (List.range 4).map fun i => a.toNat / 2 ^ (96 - 32 * i) % 2 ^ 32
  if !s.up .host || !s.flag (STRM_PORT_STATUS.link sp) then .next s
  else if words target == s.addrWords (fun i => STRM_PORT_IP6.reg sp i) true then
    .next ((s.addWrap (STRM_PORT_RX.answered sp) 1).emit (.neighborAdvert sp mac.toNat (words sender)))
  else .next (s.strmRxDrop sp)

/-- STRM_RX_OTHER (R436): any other frame; `fecCorrected` codewords have been corrected since the last one. -/
def execStrmRxOther (sp : Fin 2) (fecCorrected : Nat) (s : State) : Res :=
  if !s.up .host || !s.flag (STRM_PORT_STATUS.link sp) then .next s
  else .next ((s.strmRxDrop sp).addSat (STRM_PORT_STATUS.fec_corr sp) fecCorrected)

/-- STRM_LINK_CHANGE (R448, R451): no link comes up while the lanes are in electrical idle. -/
def execStrmLinkChange (sp : Fin 2) (up : Bool) (s : State) : Res :=
  if up && !(s.up .host && s.flag (STRM_PORT_CTL.en sp) && decide (s.f PWR_STATE.state < 2)) then .next s else .next (s.strmLink sp up)

end Sys2Proof.Machine
end

