-- ==== Sys2Proof/Machine/Power.lean ====
section
/-! DEFINITION. Power states: requests, entries, exits, the retention list and the wake sources (21_power_states.md). -/

namespace Sys2Proof.Machine

namespace State

/-! ### The retention list (R588) -/

/-- A run of words at an offset. -/
def wordRun (a n : Nat) : List Nat := (List.range n).map fun i => a + 4 * i

/-- Offsets of the registers that DEEP keeps, but for the regions and VCORE (R588). -/
def retained : List Nat :=
  ((List.range 24).flatMap fun i => wordRun (TIU_CDC_TABLE.reg i 0).addr 64) ++
  [REF_CTL.reg.addr, SPLL_DIV.reg.addr, SPLL_CTL.reg.addr, SPLL_LF.reg.addr, UPLL_CTL.reg.addr, PPS_CTL.reg.addr] ++
  ((List.range 16).flatMap fun e => [(SPLL_HOP.reg e).addr, (SPLL_HOP_BAND.band e).addr]) ++
  ((List.range 2).flatMap fun k => [(CLKOUT_CTL.reg k).addr, (CLKOUT_DLY.reg k).addr]) ++
  [FCD_CTL.reg.addr, HK_TOL.reg.addr] ++
  ((List.range 8).flatMap fun f => [(FCD_CODE.reg f).addr, (FCD_CFG.reg f).addr, (FCD_CLR.reg f).addr]) ++
  ((List.range 4).flatMap fun n => [(CNV_PROT.reg n).addr, (CNV_PROT_HOLD.reg n).addr, (GLB_EB_CTL.reg n).addr]) ++
  ((List.range 68).map fun c => (HK_CH.reg c).addr) ++
  [GLB_CAP_CTL.reg.addr, GLB_PCLK_CTL.reg.addr, GLB_DROOP_THR.reg.addr, GLB_THERM.reg.addr, GLB_ALERT.reg.addr,
   GLB_AVS_CTL.reg.addr, GLB_AVS_MAN.reg.addr, DMA_PWR.reg.addr, CAL_STALE.reg.addr, CAL_TOL.reg.addr, CAL_PASS.reg.addr,
   ENS_POLICY.reg.addr, ENS_LEAD.reg.addr, ENS_SYNC_DLY.reg.addr]

/-- Offsets of the registers of a region that DEEP keeps (R588). -/
def retainedOf (r : Nat) : List Nat :=
  [(CAP_REGION_BASE.reg r).addr, (CAP_REGION_BASE.reg r).addr + 4, (CAP_REGION_SIZE.reg r).addr, (CAP_REGION_SRC.reg r).addr,
   (CAP_REGION_PRE.reg r).addr, (CAP_REGION_POST.reg r).addr, (CAP_REGION_ACK.reg r).addr]

/-- The regions that exist. -/
def regionsNow (s : State) : List Nat := (List.range 64).filter s.regionExists

/-- The retention list is copied into retention memory (R586 step 3): registers that are not at their reset values, the
geometry of the regions where self-refresh keeps their contents, the last VCORE request. -/
def retain (s : State) : State :=
  let rs := if s.flag PWR_POLICY.keep_sr then s.regionsNow else []
  let offs := retained ++ rs.flatMap retainedOf
  { s with pwr := { s.pwr with
    saved := s.regs.filter fun e => offs.contains e.1
    savedRegions := rs.map fun r => (r, s.regionBase r, (s.region r).sizeLog2)
    vcore := s.f GLB_CAP_STATUS.vcore_mv } }

/-- One saved word comes back: the fields that software writes (R588). -/
def restoreWord (s : State) (e : Nat × Word) : State :=
  match findRow e.1 with
  | some (r, ix) =>
    let keep := r.rw ||| r.clr ||| (if 0x110044 ≤ e.1 ∧ e.1 < 0x1100C4 ∧ e.1 % 8 = 4 then 0xFFFFFFFF else 0)
    s.setWord e.1 (r.ini ix) (s.word e.1 (r.ini ix) &&& (0xFFFFFFFF ^^^ keep) ||| (e.2.toNat &&& keep))
  | none => s

/-- A region is there again with its geometry, disarmed (R378, R588). -/
def restoreRegion (s : State) (e : Nat × Nat × Nat) : State :=
  (s.setRegion e.1 { RegionSt.reset with base := e.2.1, sizeLog2 := e.2.2 }).set (CAP_REGION_STATUS.exists_ e.1) 1

/-- The retention list is restored (R588, R589); the contents of the regions count only where self-refresh kept them
(R378). -/
def restore (s : State) : State :=
  let s := s.pwr.saved.foldl restoreWord s
  let s := (s.set GLB_CAP_STATUS.vcore_mv s.pwr.vcore).fabricTouch
  let s := if s.start.memKept then
      let rs := s.pwr.savedRegions
      (rs.map (·.1)).foldl recTake (rs.foldl restoreRegion s)
    else s
  { s with pwr := { s.pwr with saved := [], savedRegions := [] } }.squelchShow

/-! ### Transitions (R581 to R583) -/

/-- A request waits for the work that it must not overlap (R37, R582). -/
def pwrMustWait (s : State) (target : Nat) : Bool :=
  s.load.stage != .idle || s.flag WEAR_STATUS.repairing || s.fuse.running.isSome || (decide (3 ≤ target) && s.storeBusy)

/-- SLEEP entry begins: the steering sweep pauses, and DMA channels that touch the domains quiesce (R549, R585). -/
def sleepPrep (s : State) : State :=
  [Domain.fabric, .memory, .display, .kp].foldl dmaQuiesce s.steerPause

/-- The engine leaves RUN: the converters stop delivering, a calibration run ends, an ensemble member lags (R519, R538,
R584 step 1). -/
def leaveRun (s : State) : State :=
  let s := (s.calEnd 6 885).ensLag
  (List.range 4).foldl (fun s n =>
    let s := s.convGate n
    s.setPath n { s.path n with replayOn := false }) s

/-- A transition begins (R581). -/
def transStart (s : State) (target : Nat) (byWake during : Bool) : State :=
  let st := s.f PWR_STATE.state
  let t : PwrTrans := { from_ := st, target := target, byWake := byWake, told := false, latched := none, during := during }
  let s := { s with pwr := { s.pwr with trans := some t } }
  let s := (s.set PWR_STATUS.busy 1).set PWR_STATE.target target
  if st = 0 then s.leaveRun else if st = 1 ∧ st < target then s.sleepPrep else s

/-- A request that has to wait becomes the pending or waiting one; an earlier one is replaced (R581, R582). -/
def pwrHold (s : State) (l : Loc) (target : Nat) : State :=
  let s := if s.flag l then (s.bump PWR_LAST.replaced).raise 57 else s
  { (s.set l 1).set PWR_STATUS.pending_target target with pwr := { s.pwr with wakeWaits := false } }

/-- A request for a target is handled (R580 to R582): RUN from IDLE or SLEEP is the wake source of the Control Port. -/
def pwrTake (s : State) (target : Nat) : State :=
  match s.pwr.trans with
  | some t => if target = t.target then s else s.pwrHold PWR_STATUS.pending target
  | none =>
    let st := s.f PWR_STATE.state
    if target = st then s
    else if s.pwrMustWait target then s.pwrHold PWR_STATUS.waiting target
    else if target = 0 then (s.wakeRecord 5 st).transStart 0 true false
    else s.transStart target false false

/-- A write to PWR_REQ (R580). -/
def pwrReqWrite (s : State) (v : Nat) : State := if 4 < v % 8 then s.set PWR_STATUS.refused 1 else s.pwrTake (v % 8)

/-- A wake source can wake a state (R590). -/
def canWake (source st : Nat) : Bool :=
  match source with
  | 1 => decide (1 ≤ st)
  | 3 => decide (1 ≤ st ∧ st ≤ 3)
  | 5 => st == 1 || st == 2
  | _ => st == 2 || st == 3

/-- A wake source fires (R583, R593); a load or a repair that runs is waited for (R37). -/
def wake (s : State) (source : Nat) : State :=
  match s.pwr.trans with
  | none =>
    let st := s.f PWR_STATE.state
    if !canWake source st then s
    else if s.pwrMustWait 0 then
      let t := (s.wakeRecord source st).pwrHold PWR_STATUS.waiting 0
      { t with pwr := { t.pwr with wakeWaits := true } }
    else (s.wakeRecord source st).transStart 0 true false
  | some t =>
    if t.from_ < t.target then
      if canWake source t.target then
        let t := { t with latched := some (min source (t.latched.getD source)) }
        { s with pwr := { s.pwr with trans := some t } }.set PWR_STATUS.wake_latched 1
      else s
    else s.set PWR_WAKE_SRC.source source

/-- A WAKE_N edge in OFF: the latch records it, and with the rails up and PORST_N high start-up begins (R591). -/
def wakeOff (s : State) : State :=
  let s := { s with pwr := { s.pwr with latched := true } }
  if s.start.porstLow || s.start.railsLow != 0 then s else s.begin

/-- Event 56 for the transition in progress, once (R584, R585, R595). -/
def transTell (s : State) : State :=
  match s.pwr.trans with
  | some t => if t.told then s else { s with pwr := { s.pwr with trans := some { t with told := true } } }.raise 56
  | none => s

/-- The transition in progress goes down to, or past, a state. -/
def goingTo (s : State) (st : Nat) : Bool :=
  match s.pwr.trans with
  | some t => decide (st ≤ t.target ∧ t.from_ < t.target)
  | none => false

/-- A state is reached on the way down; at the target event 56 is raised. -/
def reach (s : State) (st : Nat) : State :=
  let s := s.set PWR_STATE.state st
  match s.pwr.trans with
  | some t => if t.target = st then s.transTell else s
  | none => s

/-! ### Entry (R584 to R587) -/

/-- A path has no block and no frame left (R158). -/
def drained (s : State) (p : Nat) : Bool :=
  let x := s.path p
  x.eb.isEmpty && x.entry.isEmpty && x.window.isEmpty && (s.conv p).sent.isNone

/-- A path enters IDLE: products close, and the gap of the pause opens (R158, R294); a REPLAY path discards its filters' history, and goes on with a step (R257). -/
def pathIdle (s : State) (p : Nat) : State :=
  if s.mode p = 0 ∨ s.mode p = 8 ∨ s.wideUpper p then s
  else
    let s := s.xfRest p
    if !s.realTime p then s.setDdc p ((s.ddcOf p).clear (s.nextSample p))
    else
      let n := s.f (GLB_SEQ.reg p)
      let at_ := s.timeAt p (n * posUnit)
      s.openGap p { first := n, stop := n, growing := 2 ^ rPOWER, tick := at_.tick, phase := at_.phase, scope := 0,
                    reasons := 2 ^ rPOWER, stream := 255 }

/-- Captures in progress end with TRUNCATED (R378). -/
def capsTruncate (s : State) (r : Nat) : State :=
  let g := s.region r
  if g.captures.isEmpty then s
  else (s.setRegion r { g with captures := g.captures.map fun c => c.stopBy g.units }).capShow r

/-- TRIGOUT pins go to their inactive level (R351). -/
def outsRest (s : State) : State :=
  (List.range 4).foldl (fun s o => s.setTrgOut o { drive := s.outDrive o false, stop := none, due := [] }) s

/-- Steps 2 to 4 of the entry to IDLE (R584). -/
def enterIdle (s : State) : State :=
  let s := ((List.range 4).filter s.pathPresent).foldl pathIdle s
  let s := ((List.range 64).foldl capsTruncate s).outsRest
  let s := (((List.range 4).filter s.pathPresent).foldl (fun s p => s.runPath p false) s).reach 1
  let s := (List.range 64).foldl capShow s.condsShow
  if s.goingTo 2 then s.sleepPrep else s

/-- The registers of the display block are at their reset values. -/
def dispLost (s : State) : State :=
  let inside := fun (e : Nat × Word) => decide (0x1F0000 ≤ e.1) && decide (e.1 < 0x200000)
  { s with regs := s.regs.filter fun e => !inside e, act := s.act.filter fun e => !inside e, disp := DispSt.reset }

/-- A port's link enters L1 where the host has enabled ASPM L1 (R585). -/
def portL1 (s : State) (p : Port) : State :=
  s.setPort p { s.port p with inL1 := (s.port p).dlActive && (s.port p).cfg.aspmL1 }

/-- A port's link leaves L1. -/
def portL0 (s : State) (p : Port) : State := s.setPort p { s.port p with inL1 := false }

/-- What a tick does in the units: the clock units move on, and sweeps of the density tables. -/
def unitsTick (s : State) : State := (s.clockTick.sweepTick 0).sweepTick 1

/-- Steps 3 to 6 of the entry to SLEEP (R585). -/
def enterSleep (s : State) : State :=
  let s := (List.range 68).foldl kpFresh s
  let s := ((((s.dispSleep).dispLost).strmSleep).sweepStop 0).sweepStop 1
  let s := { s with dom := { s.dom with fabric := .retention, memory := .retention, display := .off, kp := .off } }
  let s := ((s.set SPLL_STATUS.locked 0).set SPLL_STATUS.acquiring 0).set UPLL_STATUS.locked 0
  let s := { s with time := { s.time with running := false }
                    pwr := { s.pwr with sleptAt := some s.time.clk, vcore := s.f GLB_CAP_STATUS.vcore_mv } }
  ((((s.avsRequest 720).squelchShow).reach 2).portL1 .a).portL1 .b

/-- HOST and CONV switch off (R586 steps 1 to 5); `keep` says that the retention list is saved. The mirror groups of the
kernel processors keep their last values (R408). -/
def hostDown (s : State) (keep : Bool) : State :=
  let s := (s.dmaDeep (List.range 128)).steerLedger
  let s := { s with wear := { s.wear with toWrite := [] } }.ledgerPuts s.wear.toWrite
  let s := if keep then s.retain else s
  let kept := keep && s.flag PWR_POLICY.keep_sr && (s.flag GLB_START.mem_ready || s.start.memKept)
  let ens := s.flag ENS_CTL.wake_en && s.flag ENS_CTL.en && s.ensRole == 2
  let w := s.wipe
  { w with
    regs := w.regs.filter fun e => decide (0x10000 ≤ e.1) && decide (e.1 < 0x20000) || partOffset e.1
    time := { State.reset.time with clk := s.time.clk }
    portA := PortSt.reset
    portB := PortSt.reset
    mirror := { w.mirror with words := s.mirror.words.filter fun e => decide (0x1000 ≤ e.1) && decide (e.1 < 0x5400) }
    clocks := ClkSt.reset
    tiu := TiuSt.reset
    sdram := if kept then s.sdram else []
    start := { s.start with memKept := kept, memInit := false }
    pwr := { s.pwr with sleptAt := none, ensWake := ens } }

/-- AON switches off: what is kept is the WAKE_N latch, armed now, and the source code of PWR_WAKE_SRC (R579, R587). -/
def aonDown (s : State) : State :=
  let source := s.f PWR_WAKE_SRC.source
  let wakes := match s.pwr.trans with
    | some t => t.latched.isSome
    | none => false
  let s := { s with regs := s.regs.filter fun e => partOffset e.1, dom := { s.dom with aon := .off }, start := { s.start with began := false },
                    pwr := { PwrSt.reset with armed := true } }
  let s := ((s.set PWR_WAKE_SRC.source source).set PWR_STATE.reg 0x44).pinsShow
  if wakes then s.wakeOff else s

/-! ### Exit (R589) -/

/-- A converter samples again, or once the sample PLL has locked where that was stopped in SLEEP; a reconvergence that has
been asked for starts (R182, R200, R211). -/
def convResume (s : State) (n : Nat) : State :=
  if s.f (CNV_STATUS.state n) ≠ 1 then s
  else if s.flag SPLL_STATUS.acquiring && !s.flag (CNV_STATUS.clk_invalid n) then
    s.setConv n { s.conv n with lockWait := true }
  else
    let s := s.set (CNV_STATUS.state n) 2
    if (s.conv n).recWait then s.reconverge n else s

/-- The exit from IDLE for one input and path: sampling resumes, and the first block delivered carries GAP_BEFORE (R158,
R200); the running bit changes as it does, so that of a converter that waits for lock changes at lock (R29). -/
def resumePath (s : State) (n : Nat) : State :=
  let s := s.convResume n
  let s := (s.setConv n { s.conv n with resumed := true }).endGaps n (2 ^ rPOWER)
  (s.setPath n { s.path n with replayOn := s.replays n }).runPath n
    (s.analyses n && !(s.realTime n && (s.conv n).lockWait))

/-- The exit from IDLE (R589). -/
def exitIdle (s : State) : State :=
  let s := s.set PWR_STATE.state 0
  let s := (List.range 64).foldl capShow s
  ((List.range 4).filter s.pathPresent).foldl resumePath s

/-- Engine time resumes after SLEEP, and the utility PLL relocks where the reference is there; `refThere` says that REFIN was
never missing, else the always-on oscillator bridged a part of the time (R207, R223, R478). The
relock raises no event 68, and a bridged part counts no holdover entry and raises no event 67 (DESIGN CHOICE, log entry 28). -/
def upllResume (s : State) (counts : Nat) (refThere : Bool) : State :=
  let s := s.timeResume counts
  let s := if refThere then s
    else { s with clocks := { s.clocks with stepDone := false, stepDue := true, ppsFree := true, ppsLast := none } }.set
      UPLL_STATUS.holdover 1
  if !s.flag REF_STATUS.present then s.upllLose
  else if s.clocks.upllOut then s.upllLock
  else (s.set UPLL_STATUS.locked 1).holdoverEnd

/-- The sample PLL acquires after SLEEP: from step 2, with no loss of lock, and it holds there while there is no reference
(R211, R212, R226). -/
def spllResume (s : State) (run : LockRun) : State :=
  let s := s.spllBegin
  if s.spllCanLock run then s.spllLocked run else s

/-- The levels of the trigger and event inputs are those of their pins, which may have moved in SLEEP (R345, R481). -/
def levelsShow (s : State) : State := (List.range 16).foldl evLevel ((List.range 4).foldl inLevel s)

/-- The exit from SLEEP up to IDLE: `counts` cycles of 10 MHz have passed (R478, R589). -/
def exitSleep (s : State) (counts : Nat) (refThere : Bool) (run : LockRun) : State :=
  let s := s.upllResume counts refThere
  let s := s.avsRequest s.pwr.vcore
  let s := { s with dom := { s.dom with fabric := .on, memory := .on, display := .on, kp := .on }, dma := { s.dma with taking := [] } }
  let s := (s.levelsShow.kpShowAll).steerResume true
  let s := ((s.spllResume run).periodStart 0).periodStart 1
  ((s.portL0 .a).portL0 .b).set PWR_STATE.state 1

/-- The exit from DEEP, steps 1 and 2, and the start of the chains, once REFIN has a frequency that the restored REF_CTL takes
(R204, R589). -/
def exitDeep (s : State) (mhz100 : Bool) : State :=
  let t := s.restore
  if t.refTakes (refCode mhz100) then (t.refFound mhz100).hostUp .check else s

/-- The exit from DEEP has done its steps 3 to 5 (R589). -/
def deepDone (s : State) : Bool :=
  decide (7 ≤ s.f GLB_START.stage) && s.flag GLB_START.cdc_ready && (s.flag GLB_START.mem_ready || s.start.memInit)

/-- A transition completes (R581, R583). -/
def transDone (s : State) (t : PwrTrans) : State :=
  let during := t.during || t.latched.isSome
  let s := s.transTell
  let s := ((s.set PWR_LAST.from_ t.from_).set PWR_LAST.to t.target).set PWR_LAST.by_wake (b2n t.byWake)
  let s := (s.set PWR_LAST.wake_during_entry (b2n during)).set PWR_STATUS.busy 0
  let s := { s with pwr := { s.pwr with trans := none } }
  let ask := if s.flag PWR_STATUS.pending then some (s.f PWR_STATUS.pending_target) else none
  let s := (s.set PWR_STATUS.pending 0).set PWR_STATUS.pending_target 0
  match t.latched, ask with
  | some src, _ => ((s.set PWR_STATUS.wake_latched 0).wakeRecord src t.target).transStart 0 true true
  | none, some x => s.pwrTake x
  | none, none => s

/-! ### The mailbox and the timer (R590, R592, R594) -/

/-- A write on the management bus: up to 16 bytes, from byte 0 (R592). -/
def mboxWrite (s : State) (b : List Byte) : State :=
  let b := b.take 16
  let s := b.zipIdx.foldl (fun s e =>
    let l : Loc := { (PWR_WAKE_MBOX.reg (e.2 / 4)) with lo := 8 * (e.2 % 4), width := 8 }
    s.set l e.1.toNat) s
  let s := s.set PWR_WAKE_SRC.mbox_bytes b.length
  if s.f PWR_STATE.state < 2 then s.raise 59 else s

/-- PWR_TIMER as it stands: it counts down every millisecond and stops at 0 (R594). -/
def timerNow (s : State) : Nat := s.f PWR_TIMER.reg - (s.time.clk - s.pwr.timerFrom) / 2560000

/-- A write to PWR_TIMER. -/
def timerWrite (s : State) (v : Nat) : State := { s.set PWR_TIMER.reg v with pwr := { s.pwr with timerFrom := s.time.clk } }

end State

/-! ### Meanings -/

/-- PWR_REQ (R580 to R582): a write of PWR_REQ. -/
def execPwrReq (p : Port) (v : Word) (s : State) : Res :=
  .next (s.hubWrite p PWR_REQ.reg.addr (some 0) fun s => s.pwrReqWrite v.toNat)

/-- PWR_REQ_WAIT_START (R582): the work that a waiting request waited for has completed. -/
def execPwrReqWaitStart (s : State) : Res :=
  let x := s.f PWR_STATUS.pending_target
  if !s.flag PWR_STATUS.waiting || s.pwr.trans.isSome || s.pwrMustWait x then .next s
  else
    let t := (s.set PWR_STATUS.waiting 0).set PWR_STATUS.pending_target 0
    let t := { t with pwr := { t.pwr with wakeWaits := false } }
    .next (if s.pwr.wakeWaits then t.transStart 0 true false else t.pwrTake x)

/-- PWR_ENTER_IDLE (R584): the paths have drained, and a commit that ran has completed. -/
def execPwrEnterIdle (s : State) : Res :=
  if s.goingTo 1 && s.f PWR_STATE.state == 0 && (List.range 4).all s.drained && s.cal.committing.isNone then .next s.enterIdle
  else .next s

/-- PWR_ENTER_SLEEP (R585): the channels that had to have quiesced. -/
def execPwrEnterSleep (s : State) : Res :=
  if s.goingTo 2 && s.f PWR_STATE.state == 1 && !s.quiescePending then .next s.enterSleep else .next s

/-- PWR_ENTER_DEEP (R586). -/
def execPwrEnterDeep (s : State) : Res :=
  if s.goingTo 3 && !s.goingTo 4 && s.f PWR_STATE.state == 2 then .next ((s.hostDown true).reach 3) else .next s

/-- PWR_ENTER_OFF (R587): from SLEEP through the steps of DEEP, without the retention list, or from DEEP. -/
def execPwrEnterOff (s : State) : Res :=
  if !s.goingTo 4 then .next s
  else if s.f PWR_STATE.state = 2 then .next (s.hostDown false).aonDown
  else if s.f PWR_STATE.state = 3 then .next s.aonDown
  else .next s

/-- PWR_EXIT_IDLE (R589). -/
def execPwrExitIdle (s : State) : Res :=
  match s.pwr.trans with
  | some t => if t.target = 0 ∧ s.f PWR_STATE.state = 1 ∧ t.from_ = 1 then .next s.exitIdle else .next s
  | none => .next s

/-- PWR_EXIT_SLEEP (R478, R589): the exit from SLEEP, and that from IDLE after it. -/
def execPwrExitSleep (counts : Nat) (refThere : Bool) (run : LockRun) (s : State) : Res :=
  match s.pwr.trans with
  | some t =>
    if t.target < 2 ∧ s.f PWR_STATE.state = 2 then
      let s := s.exitSleep counts refThere run
      .next (if t.target = 0 then s.exitIdle else s)
    else .next s
  | none => .next s

/-- PWR_EXIT_DEEP (R588, R589): the domains are on and the PLLs locked; the retention list is restored. -/
def execPwrExitDeep (mhz100 : Bool) (s : State) : Res :=
  match s.pwr.trans with
  | some t => if t.target = 0 ∧ s.f PWR_STATE.state = 3 ∧ !s.up .host then .next (s.exitDeep mhz100) else .next s
  | none => .next s

/-- PWR_TRANSITION_DONE (R581, R583, R589): the transition has reached its target. -/
def execPwrTransitionDone (s : State) : Res :=
  match s.pwr.trans with
  | none => .next s
  | some t =>
    if s.f PWR_STATE.state = t.target then .next (s.transDone t)
    else if t.target = 0 ∧ s.f PWR_STATE.state = 3 ∧ s.up .host ∧ s.deepDone then
      let s := ((s.startDone).set PWR_STATE.state 0).transDone t
      .next (if s.f GLB_START.stage = 7 then s.bootAsk else s)
    else .next s

/-- WAKE_N_FALL (R590, R591): a filtered falling edge. -/
def execWakeNFall (s : State) : Res :=
  if s.pwr.armed then .next s.wakeOff else if s.start.began then .next (s.wake 1) else .next s

/-- MGMT_TRANSACTION (R592): a transaction to the strapped address, up to its STOP: the bytes of a write, or how many bytes a
read takes. -/
def execMgmtTransaction (write : Option (List Byte)) (read : Nat) (s : State) : Res :=
  if !s.start.began then .next s
  else
    let st := s.f PWR_STATE.state
    let s := match write with
      | some b => s.mboxWrite b
      | none => if read = 0 then s else s.emit (.mgmt (BitVec.ofNat 8 st :: List.replicate (read - 1) 0xFF))
    .next (if s.flag PWR_POLICY.mgmt_en then s.wake 2 else s)

/-- PWR_TIMER_EXPIRE (R590, R594): PWR_TIMER reaches 0. -/
def execPwrTimerExpire (s : State) : Res :=
  if s.f PWR_TIMER.reg = 0 ∨ s.timerNow ≠ 0 ∨ !s.start.began then .next s
  else
    let s := s.set PWR_TIMER.reg 0
    .next (if s.flag PWR_POLICY.timer_en then s.wake 3 else s)

/-- ENS_WAKE (R538, R590): 10 us of valid blocks on a ring. -/
def execEnsWake (s : State) : Res :=
  let on := if s.up .host then s.flag ENS_CTL.wake_en && s.flag ENS_CTL.en && s.ensRole == 2 else s.pwr.ensWake
  if on && s.flag PWR_POLICY.ens_en && s.start.began then .next (s.wake 4) else .next s

end Sys2Proof.Machine
end

