-- ==== Sys2Proof/Machine/HubWrite.lean ====
section
/-! DEFINITION. The register hub (R7 to R14, R49, R54 to R73): what a 32-bit write to a BAR0 offset does, whichever register
it names, and what a read of one gives; semaphores; the port-relative registers and the MSI-X structures. -/

namespace Sys2Proof.Machine

namespace State

/-! ### Port-relative registers (R47, R68) -/

/-- Where a port's copy of a port-relative word is kept. -/
def ownCopy (p : Port) (off : Nat) : Nat := off + 0x4000000 * p.idx

/-- A write to a port's own copy of a register word, by its access codes (R7, R47). -/
def relWrite (s : State) (p : Port) (off v : Nat) : State :=
  match findRow off with
  | none => s
  | some (r, ix) => s.setWord (ownCopy p off) (r.ini ix) (r.merge (s.word (ownCopy p off) (r.ini ix)) v)

/-- The word of the MSI-X table at an index: words 3 of the entries hold the mask bit, which is 1 after reset. -/
def msixWord (s : State) (p : Port) (i : Nat) : Word := (s.port p).msix.get (if i % 4 = 3 then 1 else 0) i

/-- A write to a word of the MSI-X table: bits 1:0 of an address and bits 31:1 of a vector control are reserved. -/
def msixPut (s : State) (p : Port) (i : Nat) (v : Word) : State :=
  let x : Word := if i % 4 = 0 then v &&& 0xFFFFFFFC else if i % 4 = 3 then v &&& 1 else v
  s.setPort p { s.port p with msix := (s.port p).msix.put (if i % 4 = 3 then 1 else 0) i x }

/-- A word of the MSI-X pending-bit array (R68). -/
def pbaWord (s : State) (p : Port) (i : Nat) : Word :=
  BitVec.ofNat 32 (((List.range 32).filter fun b => (s.port p).pba.get false (32 * i + b)).foldl setBit 0)

/-- A write in the EVT block with the rights of a port: its own copy (R68). A route to an event of an absent unit is
dropped (R3); the pending-bit array is read-only. -/
def evtWrite (s : State) (p : Port) (off v : Nat) : State :=
  if 0x38000 ≤ off then s.msixPut p (off % 0x8000 / 4) (BitVec.ofNat 32 v)
  else if 0x32000 ≤ off ∧ off < 0x34000 ∧ s.eventAbsent (off % 0x2000 / 4) then s
  else s.relWrite p off v

/-! ### Semaphores (R54 to R65) -/

/-- A read of SEM_n by a port acquires it where it is free (R54): the word read, and the state after. -/
def semTake (s : State) (p : Port) (n : Nat) : Word × State :=
  match s.holder n with
  | none => (1, s.setHolder n (some (.cp p)))
  | some h => (if h = .cp p then 1 else ownerCode h, s)

/-- A read of SEM_n by both ports in one hub cycle (R54): the words for CP_A and CP_B, and the state after. -/
def semTakeBoth (s : State) (n : Nat) : Word × Word × State :=
  match s.holder n with
  | none =>
    let loser := s.sem.tieLoser.get none n
    let first : Port := if loser = some .b then .b else .a
    let s := { s with sem := { s.sem with tieLoser := s.sem.tieLoser.put none n (some first.other) } }
    let s := s.setHolder n (some (.cp first))
    match first with
    | .a => (1, ownerCode (.cp .a), s)
    | .b => (ownerCode (.cp .b), 1, s)
  | some _ => ((s.semTake .a n).1, (s.semTake .b n).1, s)

/-- A write to SEM_n by a port: 0 by the holder releases it, all else is refused (R56). -/
def semWrite (s : State) (p : Port) (n : Nat) (v : Word) : State :=
  if v = 0 ∧ s.holder n = some (.cp p) then s.freeSem n else s.refuse p (0x20000 + 4 * n)

/-- SEM_PEEK[n] (R65). -/
def semPeek (s : State) (n : Nat) : Word := ((s.holder n).map ownerCode).getD 0

/-- SEM_LOST has the bit of SEM_n set (R65). -/
def semLost (s : State) (n : Nat) : State :=
  let w := SEM_LOST.reg (n / 32)
  s.set w (setBit (s.f w) (n % 32))

/-- SEM_LOST_INFO: the cause, 1 a lost holder and 2 a break, and the port (R65). -/
def semInfo (s : State) (cause : Nat) (p : Port) : State := s.set SEM_LOST_INFO.reg (cause + 2 ^ 8 * (p.idx + 1))

/-- A write to SEM_BREAK by a port (R64). -/
def semBreak (s : State) (p : Port) (v : Nat) : State :=
  let n := v % 256
  if bits v 8 24 ≠ 0xB8EA00 then s.refuse p SEM_BREAK.reg.addr
  else
    match s.holder n with
    | some .engine => s.refuse p SEM_BREAK.reg.addr
    | some (.cp _) => (((s.freeSem n).semLost n).semInfo 2 p).raise 11
    | none => (s.semInfo 2 p).raise 11

/-- The semaphores that a port holds. -/
def heldBy (s : State) (p : Port) : List Nat := (List.range 256).filter fun n => decide (s.holder n = some (.cp p))

/-- Semaphores of a list are freed and recorded as lost (R62). -/
def semsLost (s : State) : List Nat → State
  | [] => s
  | n :: ns => ((s.freeSem n).semLost n).semsLost ns

/-- Step 2 of R62 for a port. -/
def holderLost (s : State) (p : Port) : State :=
  match s.heldBy p with
  | [] => s
  | ns => ((s.semsLost ns).semInfo 1 p).raise 10

/-- A write in the SEM block. -/
def semBlockWrite (s : State) (p : Port) (off v : Nat) : State :=
  if off < 0x20400 then s.semWrite p (off % 0x400 / 4) (BitVec.ofNat 32 v)
  else if off = 0x20800 then s.semBreak p v
  else s.plainWrite off v

/-! ### Effects by block -/

/-- A write in the GLB block (R53, R86, R167, R577). -/
def glbWrite (s : State) (p : Port) (off v : Nat) : State :=
  if off = 0x100 then s.mpCtlWrite v
  else if off = 0x410 then s.glbRstWrite p v
  else if off = 0x424 then s.avsManWrite v
  else if off = 0x428 then (s.plainWrite off v).alertShow
  else if off = 0x430 then s.droopThrWrite v
  else if off = 0x434 then (s.plainWrite off v).set GLB_DROOP_STATUS.min_mv s.avs.sensed
  else if off = 0x440 then (s.set GLB_THERM.warn_c (bits v 8 8)).set GLB_THERM.max_c (unsigned 16 s.avs.hottest)
  else if off = 0x444 then (s.plainWrite off v).alertShow
  else
    if 0x210 ≤ off ∧ off < 0x290 then
      let p := (off - 0x210) / 0x20
      if off % 0x20 = 0x10 then (s.set (GLB_EB_LEVEL.peak p) (s.f (GLB_EB_LEVEL.level p))).fabricTouch
      else (s.plainWrite off v).fabricTouch
    else if off = 0x200 then (s.plainWrite off v).fabricTouch
    else s.plainWrite off v

/-- A write in the IMG block, other than its keys (R120). A host-source go written so brings no header, and its load ends with
FETCH_ERROR (R96; DESIGN CHOICE, log entry 75). -/
def imgWrite (s : State) (p : Port) (off v : Nat) : State :=
  if off = 0x40000 then s.imgCtl p v none
  else if off = 0x40014 then s.imgUnload p v
  else if off = 0x40024 then s.fuseWrite v
  else s.plainWrite off v

/-- A write in the CNV block (R201): while a calibration run holds the input, CNV_CTL is refused (R514). -/
def cnvWrite (s : State) (p : Port) (off v : Nat) : State :=
  let n := off % 0x10000 / 0x1000
  if off % 0x1000 = 0 then if s.calHolds n then s.refuse p off else s.plainWrite off v
  else if off % 0x1000 = 0x20 then s.protWrite n v
  else if off % 0x1000 = 0x30 then s.carCtlWrite n v
  else if off % 0x1000 = 0x40 ∧ !bit v 0 then (s.plainWrite off v).setConv n { s.conv n with flt := 0 }
  else s.plainWrite off v

/-- A write in the SPLL and UPLL blocks (R227, R228). -/
def clkWrite (s : State) (off v : Nat) : State :=
  if off = 0x110000 then s.divChange v 1 none
  else if off = 0x110004 then s.spllCtlWrite v
  else if off = 0x110008 then s.spllLfWrite v
  else if off = 0x118000 then s.refCtlWrite v
  else if off = 0x118040 then s.syncCtlWrite v
  else
    if 0x110040 ≤ off ∧ off < 0x1100C0 ∧ off % 8 = 0 then s.spllHopWrite ((off % 0x100 - 0x40) / 8) v
    else if 0x110100 ≤ off ∧ off < 0x110110 then s.clkoutWrite off v
    else s.plainWrite off v

/-- A write in the CAP and MEM blocks (R379): SRC, PRE and POST of a region apply only while it is disarmed. -/
def capWrite (s : State) (p : Port) (off v : Nat) : State :=
  if off = 0x1A0000 then s.allocWrite v
  else if off = 0x1A0018 then s.relWrite p off v
  else if 0x1A1000 ≤ off ∧ off < 0x1A2000 then
    let r := off % 0x1000 / 0x40
    if off % 0x40 = 0xC then if s.rgnState r = 0 then s.capSrcWrite r v else s.refuse p off
    else if off % 0x40 = 0x10 then if s.rgnState r = 0 then s.plainWrite off v else s.refuse p off
    else if off % 0x40 = 0x14 then if s.rgnState r = 0 then s.plainWrite off v else s.refuse p off
    else if off % 0x40 = 0x28 then s.ackWrite r v
    else s.plainWrite off v
  else s.plainWrite off v

/-- A write in the DMA block (R449). -/
def dmaWrite (s : State) (off v : Nat) : State :=
  if off < 0x1D0000 then
    let n := off % 0x10000 / 0x40
    if off % 0x40 = 0 then s.dmaCtlWrite n v
    else if off % 0x40 = 0x8 then s.dmaAddrWrite n off v
    else if off % 0x40 = 0xC then s.dmaAddrWrite n off v
    else if off % 0x40 = 0x1C then s.dmaRingLenWrite n v
    else if off % 0x40 = 0x20 then s.dmaPartnerWrite n v
    else s.plainWrite off v
  else if off < 0x1D1000 then
    let q := off % 0x1000 / 0x20
    if off % 0x20 = 0 then s.cqBaseWrite q off v
    else if off % 0x20 = 0x4 then s.cqBaseWrite q off v
    else if off % 0x20 = 0x8 then s.cqCtlWrite q v
    else if off % 0x20 = 0x10 then s.cqTailWrite q (v % 65536)
    else s.plainWrite off v
  else s.plainWrite off v

/-- A write in the STRM block (R450). -/
def strmWrite (s : State) (off v : Nat) : State :=
  if off < 0x1E4000 then (if off % 0x100 = 0 ∧ off < 0x1E0200 then s.portCtlWrite (off % 0x1000 / 0x100) v else s.plainWrite off v)
  else
    let sp := off % 0x4000 / 0x800
    let fl := off % 0x800 / 0x40
    if off % 0x40 = 0 then s.flowCtlWrite sp fl v
    else if off % 0x40 < 0x30 then s.flowFieldWrite sp fl off v
    else s.plainWrite off v

/-- A write in the DISP block (R470). -/
def dispWrite (s : State) (off v : Nat) : State :=
  if off = 0x1F0004 then s.dispCommitWrite v
  else if off = 0x1F0040 then s.dispAuxWrite v
  else s.plainWrite off v

/-- A write in the TIU block (R489). -/
def tiuWrite (s : State) (off v : Nat) : State :=
  if off = 0x200008 then s.timeCtlWrite v
  else if off = 0x200020 then s.cdcCtlWrite v
  else if 0x200100 ≤ off ∧ off < 0x200300 ∧ off % 0x20 = 0 then s.evCtlWrite ((off - 0x200100) / 0x20) v
  else if off = 0x200400 ∨ off = 0x200420 then s.finCtlWrite (off % 0x100 / 0x20) v
  else if 0x200600 ≤ off ∧ off < 0x200700 ∧ off % 0x40 = 0 then s.statCtlWrite (off % 0x100 / 0x40) v
  else s.plainWrite off v

/-- A write in the FCD and HK blocks (R503). -/
def fcdWrite (s : State) (off v : Nat) : State :=
  if off = 0x210000 then s.fcdCtlWrite v
  else if off = 0x211000 then s.hkCtlWrite v
  else if 0x210100 ≤ off ∧ off < 0x210200 then
    let f := off % 0x100 / 0x20
    if off % 0x20 = 0 then s.fcdCodeWrite f (v % 65536)
    else if off % 0x20 = 0x4 then s.fcdRangeWrite f (v % 2)
    else if off % 0x20 = 0x8 then s.fcdClrWrite f v
    else s.plainWrite off v
  else s.plainWrite off v

/-- A write in the CAL block (R519). -/
def calWrite (s : State) (p : Port) (off v : Nat) : State :=
  if off = 0x220000 then s.calCtlWrite v
  else if off = 0x220100 then s.calStWrite p v
  else s.plainWrite off v

/-- A write in the ENS block (R539). -/
def ensWrite (s : State) (off v : Nat) : State :=
  if off = 0x230000 then s.ensCtlWrite v
  else if off = 0x230110 then s.ensTokenWrite v
  else if 0x230120 ≤ off ∧ off < 0x230130 then s.ensScopeWrite off v
  else s.plainWrite off v

/-- The effect of a write to a register word that stands alone, or to one half of a 64-bit register. -/
def regEffect (s : State) (p : Port) (off v : Nat) : State :=
  if off < 0x10000 then s.glbWrite p off v
  else if off = 0x10000 then s.pwrReqWrite v
  else if off = 0x10010 then s.timerWrite v
  else if off < 0x20000 then s.plainWrite off v
  else if off < 0x30000 then s.semBlockWrite p off v
  else if off < 0x40000 then s.evtWrite p off v
  else if off < 0x80000 then s.imgWrite p off v
  else if off < 0x100000 then s.plainWrite off v
  else if off < 0x110000 then s.cnvWrite p off v
  else if off < 0x120000 then s.clkWrite off v
  else if off < 0x1A0000 then s.unitWrite false off v
  else if off < 0x1C0000 then s.capWrite p off v
  else if off < 0x1E0000 then s.dmaWrite off v
  else if off < 0x1F0000 then s.strmWrite off v
  else if off < 0x200000 then s.dispWrite off v
  else if off < 0x210000 then s.tiuWrite off v
  else if off < 0x220000 then s.fcdWrite off v
  else if off < 0x230000 then s.calWrite p off v
  else if off < 0x240000 then s.ensWrite off v
  else if off = 0x240000 then (s.draw.2).wearCtlWrite v (Config.ledgerFails s.draw.1)
  else if off < 0x250000 then s.plainWrite off v
  else if off < 0x260000 then s.unitWrite false off v
  else s

/-! ### 64-bit registers (R10 to R12) -/

/-- The low word of a 64-bit register is written: both halves are applied together, the high one from the port's pending
high word where it has one for this register (R11). A write that clears clears both. -/
def lowEffect (s : State) (p : Port) (r : RegRow) (off v : Nat) : State :=
  if off = (CAP_BAR4_WIN.reg 0).addr then s.bar4WinWrite p false v
  else
    let hi := s.highFor p off
    let s := s.highUsed p
    if 0x120000 ≤ off ∧ off < 0x140000 ∧ 0x1000 ≤ off % 0x8000 ∧ off % 0x100 = 0x18 then
      let path := off % 0x20000 / 0x8000
      let w := (off % 0x8000 / 0x100 - 16)
      s.zmRatioWrite path w (hi.getD (s.f (ZM_RATIO.reg path w) / 2 ^ 32) * 2 ^ 32 + v)
    else if r.clr ≠ 0 then (s.regEffect p (off + 4) v).regEffect p off v
    else
      match hi with
      | some h => (s.regEffect p (off + 4) h).regEffect p off v
      | none => s.regEffect p off v

/-- The effect of a write to a word of a register, by what the word is of it (R10, R11). -/
def wordEffect (s : State) (p : Port) (r : RegRow) (off v : Nat) : State :=
  if !s.unitUsed off then s
  else
    match r.half with
    | .one => s.regEffect p off v
    | .low => s.lowEffect p r off v
    | .high => s.pendHigh p (off - 4) v

/-- A 32-bit write to a BAR0 offset with the rights of a port (R7 to R14, R49, R60): dropped where no register is there. -/
def regWrite (s : State) (p : Port) (off : Nat) (v : Word) : State :=
  if 0x1000000 ≤ off then s.kpSpaceWrite p off v
  else if 0x20000 ≤ off ∧ off < 0x20400 then s.portWrite p off none fun s => s.semBlockWrite p off v.toNat
  else if 0x38000 ≤ off ∧ off < 0x40000 then s.portWrite p off none fun s => s.evtWrite p off v.toNat
  else
    match findRow off with
    | none => s
    | some (r, _) => s.portWrite p off r.sem fun s => s.wordEffect p r off v.toNat

/-! ### Reads (R7, R10, R13, R47) -/

/-- FAB_TILE_STATE of a physical tile as it reads (R93, R166). -/
def tileStateWord (s : State) (t : Nat) : Nat :=
  let c := t % 32
  if bit (s.f (IMG_RETIRED.rows c)) (t / 32) then 0xFFFF * 2 ^ 16 + 3
  else
    match ((List.range 32).map fun r => 32 * r + c).find? fun l => s.physTile l == some t with
    | none => 0xFFFF * 2 ^ 16 + 2
    | some l =>
      let shadow := (s.load.stage == .admitting || s.load.stage == .ready || s.load.stage == .drain) && ((s.load.staged.map (·.tiles)).getD []).any fun x => x.ltile == l
      let own := match s.tileCfg t with
        | some x => x.path % 4 * 2 ^ 8 + x.role % 16 * 2 ^ 4 + 1
        | none => 0
      l * 2 ^ 16 + 2 ^ 3 * b2n shadow + own

/-- The value of a register word that the state holds. -/
def keptWord (s : State) (off : Nat) : Nat :=
  match findRow off with
  | some (r, ix) => s.word off (r.ini ix)
  | none => 0

/-- The word at a BAR0 offset below the processor windows as a port reads it, its side effects apart. -/
def hubWord (s : State) (p : Port) (off : Nat) : Nat :=
  if off = 0x20 then s.word (ownCopy p off) 0 + 2 ^ 28 * p.idx
  else if off = 0x104 then s.mpStatus
  else if off = 0x10010 then s.timerNow
  else if off = 0x10018 then s.aonTime % 2 ^ 32
  else if off = 0x1001C then s.aonTime / 2 ^ 32
  else if 0x20000 ≤ off ∧ off < 0x20400 then (s.semTake p (off % 0x400 / 4)).1.toNat
  else if 0x20400 ≤ off ∧ off < 0x20800 then (s.semPeek (off % 0x400 / 4)).toNat
  else if 0x30800 ≤ off ∧ off < 0x30900 then (s.pbaWord p (off % 0x100 / 4)).toNat
  else if 0x38000 ≤ off ∧ off < 0x40000 then (s.msixWord p (off % 0x8000 / 4)).toNat
  else if (0x30000 ≤ off ∧ off < 0x38000) ∨ (0x1A0010 ≤ off ∧ off < 0x1A001C) then
    (match findRow off with
    | some (r, ix) => s.word (ownCopy p off) (r.ini ix)
    | none => 0)
  else if 0x80000 ≤ off ∧ off < 0x91000 ∧ off % 0x40 = 0 then s.tileStateWord (off % 0x80000 / 0x40)
  else if 0x180000 ≤ off ∧ off < 0x181000 ∧ off % 0x40 = 0x2C then s.trgStatus (off % 0x1000 / 0x40)
  else if 0x1C0000 ≤ off ∧ off < 0x1C2000 ∧ off % 0x40 = 4 then
    insertBits (s.keptWord off) (DMA_STATUS.state 0).lo (DMA_STATUS.state 0).width (s.dmaCode (off % 0x10000 / 0x40))
  else if 0x230010 ≤ off ∧ off < 0x230028 then field s.fingerprint (off % 0x10000 - 0x10) 4
  else if off = 0x240318 then s.steerPos % 2 ^ 32
  else if off = 0x24031C then s.steerPos / 2 ^ 32
  else if 0x240410 ≤ off ∧ off < 0x240430 then s.ledgerWord ((off % 0x1000 - 0x410) / 4)
  else s.keptWord off

/-- The word at a BAR0 offset as a port reads it: 0 where nothing is there, its unit is not used, or its domain is down. -/
def hubRead (s : State) (p : Port) (off : Nat) : Word :=
  if 0x1000000 ≤ off then s.kpSpaceRead off
  else if !s.reachable off || off % 4 != 0 || !s.unitUsed off then 0
  else BitVec.ofNat 32 (s.hubWord p off)

end State

end Sys2Proof.Machine
end

