-- ==== Sys2Proof/Machine/PortSpace.lean ====
section
/-! DEFINITION. The configuration space of a Control Port (R44 to R46, R51, R68, R570): its words by their offset. The spec
names what a port presents; the places are those that PCI Express gives its headers and capabilities, and the order of the
capabilities is the model's (log entry 71). -/

namespace Sys2Proof.Machine

/-- Where the model numbers a port's configuration space among the offsets of REG_WRITE (log entry 71). -/
def cfgBase : Nat := 0x10000000

/-- Bits of the uncorrectable and of the correctable error registers of AER that stand for an error. -/
def uncBits : Word := 0x007FF030
def corBits : Word := 0x0000F1C1

/-- A bit of a word as a truth value, at its place. -/
def at1 (b : Bool) (i : Nat) : Nat := b2n b * 2 ^ i

namespace State

/-- The Device ID by the variant (R45). -/
def deviceId (s : State) : Nat := 0x5E40 + s.variant

/-- Subsystem vendor and subsystem ID: as start-up read them, else the vendor and the device (R45). -/
def subsystemIds (s : State) : Nat × Nat :=
  match s.start.subsys with
  | some (v, d) => (v.toNat, d.toNat)
  | none => (0x1F9A, s.deviceId)

/-- Width and rate of a port's link, as GLB_PORT codes them (R53). -/
def linkCodes (s : State) (p : Port) : Nat × Nat :=
  match p with
  | .a => (s.f (GLB_PORT.a_width 0), s.f (GLB_PORT.a_rate 0))
  | .b => (s.f (GLB_PORT.b_width 0), s.f (GLB_PORT.b_rate 0))

/-- The word at an offset of a port's configuration space (R44 to R46, R68); 0 where nothing stands. Bit 3 of the power management
control word, No_Soft_Reset, is 1, and a return from D3hot to D0 resets nothing (DESIGN CHOICE, log entry 71). -/
def cfgWord (s : State) (p : Port) (o : Nat) : Nat :=
  let x := s.port p
  let c := x.cfg
  match o with
  | 0x00 => s.deviceId * 2 ^ 16 + 0x1F9A
  | 0x04 => at1 c.memEn 1 + at1 c.master 2 + 0x00100000
  | 0x08 => 0x118000 * 2 ^ 8 + bits (s.f GLB_ID.reg) 4 8
  | 0x10 => c.bar0.toNat % 2 ^ 32 + 0x4
  | 0x14 => c.bar0.toNat / 2 ^ 32
  | 0x18 => c.bar2.toNat % 2 ^ 32 + 0xC
  | 0x1C => c.bar2.toNat / 2 ^ 32
  | 0x20 => c.bar4.toNat % 2 ^ 32 + 0xC
  | 0x24 => c.bar4.toNat / 2 ^ 32
  | 0x2C => s.subsystemIds.2 * 2 ^ 16 + s.subsystemIds.1
  | 0x34 => 0x40
  | 0x40 => 0x00036001
  | 0x44 => (if c.d3hot then 3 else 0) + 0x8
  | 0x60 => at1 x.msixEn 31 + at1 x.fnMask 30 + 2047 * 2 ^ 16 + 0x7011
  | 0x64 => 0x38000
  | 0x68 => 0x30800
  | 0x70 => 0x00020010
  | 0x74 => 0x10008022
  | 0x78 => c.mps.toNat * 2 ^ 5 + c.mrrs.toNat * 2 ^ 12 + c.detected.toNat * 2 ^ 16
  | 0x7C => 2 * 2 ^ 10 + 8 * 2 ^ 4 + 5
  | 0x80 => at1 c.aspmL1 1 + ((s.linkCodes p).2 + (s.linkCodes p).1 * 2 ^ 4) * 2 ^ 16
  | 0x94 => 0x30000
  | 0x98 => at1 c.tag10 12
  | 0x9C => 0x3E
  | 0x100 => 0x15020001
  | 0x104 => c.uncStatus.toNat
  | 0x108 => c.uncMask.toNat
  | 0x10C => c.uncSeverity.toNat
  | 0x110 => c.corStatus.toNat
  | 0x114 => c.corMask.toNat
  | 0x11C => bits c.header.toNat 0 32
  | 0x120 => bits c.header.toNat 32 32
  | 0x124 => bits c.header.toNat 64 32
  | 0x128 => bits c.header.toNat 96 32
  | 0x150 => 0x16010003
  | 0x154 => bits Config.serialNumber.toNat 0 32
  | 0x158 => bits Config.serialNumber.toNat 32 32
  | 0x160 => 0x0001001E
  | 0x164 => 0x1F
  | 0x168 => c.l1ss.toNat
  | _ => 0

/-- A configuration read of a port: none while it answers with Request Retry Status (R570). -/
def cfgRead (s : State) (p : Port) (o : Nat) : Option Word := if s.start.retry then none else some (BitVec.ofNat 32 (s.cfgWord p o))

/-- A word of a BAR is written: address bits below the size of the window stay 0 (R46). -/
def barPut (old : BitVec 64) (hi : Bool) (size v : Nat) : BitVec 64 :=
  BitVec.ofNat 64 (insertBits old.toNat (if hi then 32 else 0) 32 v / size * size)

/-- The writable words of a configuration space (R44, R46, R51): what a write leaves of the port's own part. A payload size
above 512 bytes, a read size above 4,096 and a reserved power state are not taken. -/
def cfgFields (c : PortCfg) (o v : Nat) : PortCfg :=
  let w : Word := BitVec.ofNat 32 v
  match o with
  | 0x04 => { c with memEn := bit v 1, master := bit v 2 }
  | 0x10 => { c with bar0 := barPut c.bar0 false (2 ^ 26) v }
  | 0x14 => { c with bar0 := barPut c.bar0 true (2 ^ 26) v }
  | 0x18 => { c with bar2 := barPut c.bar2 false (2 ^ 28) v }
  | 0x1C => { c with bar2 := barPut c.bar2 true (2 ^ 28) v }
  | 0x20 => { c with bar4 := barPut c.bar4 false (2 ^ 32) v }
  | 0x24 => { c with bar4 := barPut c.bar4 true (2 ^ 32) v }
  | 0x44 => if bits v 0 2 = 3 then { c with d3hot := true } else if bits v 0 2 = 0 then { c with d3hot := false } else c
  | 0x78 => { c with mps := if bits v 5 3 < 3 then BitVec.ofNat 3 (bits v 5 3) else c.mps
                     mrrs := if bits v 12 3 < 6 then BitVec.ofNat 3 (bits v 12 3) else c.mrrs
                     detected := c.detected &&& ~~~BitVec.ofNat 3 (bits v 16 3) }
  | 0x80 => { c with aspmL1 := bit v 1 }
  | 0x98 => { c with tag10 := bit v 12 }
  | 0x104 => { c with uncStatus := c.uncStatus &&& ~~~w }
  | 0x108 => { c with uncMask := w &&& uncBits }
  | 0x10C => { c with uncSeverity := w &&& uncBits }
  | 0x110 => { c with corStatus := c.corStatus &&& ~~~w }
  | 0x114 => { c with corMask := w &&& corBits }
  | 0x168 => { c with l1ss := BitVec.ofNat 4 v }
  | _ => c

/-- A write to a word of a port's configuration space, a Function Level Reset apart; the enable and Function Mask of MSI-X
stand in word 0x60 (R70). -/
def cfgPut (s : State) (p : Port) (o v : Nat) : State :=
  let x := s.port p
  if o = 0x60 then s.setPort p { x with msixEn := bit v 31, fnMask := bit v 30 }
  else s.setPort p { x with cfg := cfgFields x.cfg o v }

/-- A port logs an error (R44): its bit, the class that the severity gives it, and the header of the first uncorrectable one
that is not masked. -/
def aerLog (c : PortCfg) : AerErr → PortCfg
  | .correctable _ b => { c with corStatus := c.corStatus ||| BitVec.ofNat 32 (2 ^ b.val), detected := c.detected ||| 1 }
  | .uncorrectable _ b h =>
    let m : Word := BitVec.ofNat 32 (2 ^ b.val)
    { c with uncStatus := c.uncStatus ||| m
             detected := c.detected ||| (if c.uncSeverity.getLsbD b.val then 4 else 2)
             header := if c.uncStatus = 0 ∧ !c.uncMask.getLsbD b.val then h else c.header }

end State

end Sys2Proof.Machine
end

