-- ==== Sys2Proof/Machine/Ports.lean ====
section
/-! DEFINITION. The Control Ports (02_host_ports.md): accesses to their windows, their links, semaphores, and the messages of
their vectors. -/

namespace Sys2Proof.Machine

namespace State

/-! ### BAR2 and BAR4 (R40, R41, R376, R377) -/

/-- A read request on BAR2 is accepted (R40). -/
def bar2ReadOk (off len : Nat) : Bool := off % 4 == 0 && len % 4 == 0 && len != 0

/-- A write request on BAR2 is accepted (R40). -/
def bar2WriteOk (off : Nat) (bytes : List (Option Byte)) : Bool := bar2ReadOk off bytes.length && bytes.all (·.isSome)

/-- Words of an accepted BAR2 write, each under the rules of its memory. -/
def bar2Words (s : State) (p : Port) (off : Nat) : List Word → State
  | [] => s
  | v :: vs => (s.bar2Write p off v).bar2Words p (off + 4) vs

/-- A byte of capture memory as a BAR4 read gives it: 0 beyond the used capacity (R377). -/
def bar4Byte (s : State) (a : Nat) : Byte := if a < s.memCapacity then s.sdram.get 0 a else 0

/-- A byte of a BAR4 write takes effect: it is enabled, lies in the used capacity and in no region that is being written
(R41, R377). -/
def bar4Takes (s : State) (a : Nat) : Bool := decide (a < s.memCapacity) && !s.writtenRegion a

/-- Bytes of a BAR4 write from a capture address on. -/
def bar4Put (s : State) (a : Nat) : List (Option Byte) → State
  | [] => s
  | none :: bs => s.bar4Put (a + 1) bs
  | some b :: bs => (if s.bar4Takes a then s.memWrite a [b] else s).bar4Put (a + 1) bs

/-- Capture addresses of the enabled bytes of a write. -/
def enabledFrom (a : Nat) : List (Option Byte) → List Nat
  | [] => []
  | none :: bs => enabledFrom (a + 1) bs
  | some _ :: bs => a :: enabledFrom (a + 1) bs

/-- A BAR4 access reached addresses beyond the used capacity (R377). -/
def bar4Oob (s : State) (p : Port) (as_ : List Nat) : State :=
  if as_.any fun a => decide (s.memCapacity ≤ a) then s.bump (CAP_BAR4_STATUS.oob p.idx) else s

/-- A BAR4 write reached a region that is being written (R377). -/
def bar4Blocked (s : State) (p : Port) (as_ : List Nat) : State :=
  if as_.any fun a => decide (a < s.memCapacity) && s.writtenRegion a then s.bump (CAP_BAR4_STATUS.blocked p.idx) else s

/-! ### Links and port resets (R52, R53, R62, R73) -/

/-- A BAR0 offset, of one port's copies, that a reset of the port clears: the EVT block and the BAR4 window (R47, R52). -/
def ownOffset (p : Port) (a : Nat) : Bool :=
  let b := 0x4000000 * p.idx
  decide ((b + 0x30000 ≤ a ∧ a < b + 0x40000) ∨ (b + 0x1A0010 ≤ a ∧ a < b + 0x1A001C))

/-- A condition of R52 on a port: its configuration space and its port-relative state are reset, its event state stays in
reset, and one more step 2 of R62 is to come. -/
def portReset (s : State) (p : Port) : State :=
  let s := { s with regs := s.regs.filter fun e => !ownOffset p e.1 }
  s.setPort p { PortSt.reset with dlActive := (s.port p).dlActive, lostPending := (s.port p).lostPending + 1 }

/-- A load or a store program that fetches over a port loses it (R106, R518). -/
def fetchLost (s : State) (p : Port) : State := (s.loadPortLost p).storePortLost p

/-- GLB_PORT gives the width and the rate of a port's link, through both ports (R53). -/
def linkShow (s : State) (p : Port) (width rate : Nat) : State :=
  match p with
  | .a => (((s.set (GLB_PORT.a_width 0) width).set (GLB_PORT.a_width 1) width).set (GLB_PORT.a_rate 0) rate).set (GLB_PORT.a_rate 1) rate
  | .b => (((s.set (GLB_PORT.b_width 0) width).set (GLB_PORT.b_width 1) width).set (GLB_PORT.b_rate 0) rate).set (GLB_PORT.b_rate 1) rate

/-- A port's link leaves DL_Active (R52, R67). -/
def linkDown (s : State) (p : Port) : State :=
  let s := s.portReset p
  let s := (s.setPort p { s.port p with dlActive := false }).linkShow p 0 0
  (s.fetchLost p).raise (16 + p.idx)

/-- A Function Level Reset of a port (R52, R73): the link stays, and the reset ends at once. -/
def flr (s : State) (p : Port) : State :=
  let s := (s.portReset p).fetchLost p
  s.setPort p { s.port p with evtReset := false }

/-- A configuration write of a port (R44 to R46, R51, R68, R570): bit 15 of word 0x78 starts a Function Level Reset. -/
def cfgWrite (s : State) (p : Port) (o : Nat) (v : Word) : State :=
  if s.start.retry then s.complete .retry
  else
    let s := (s.complete .ok).cfgPut p o v.toNat
    if o = 0x78 ∧ v.getLsbD 15 then s.flr p else s

/-! ### Vectors (R70) -/

/-- gap_us has passed since a vector's last message. -/
def gapOver (s : State) (p : Port) (v : Nat) : Bool :=
  let last := (s.port p).lastMsg.get 0 v
  last == 0 || decide (last - 1 + 2560 * s.f (EVT_MOD.gap_us p.idx v) ≤ s.time.clk)

/-- A vector may not send: its mask bit or the Function Mask is set, or MSI-X is not enabled. -/
def vectorMasked (s : State) (p : Port) (v : Nat) : Bool :=
  (s.msixWord p (4 * v + 3)).getLsbD 0 || (s.port p).fnMask || !(s.port p).msixEn

/-- The message of a vector, from its entry of the MSI-X table. -/
def vectorOut (s : State) (p : Port) (v : Nat) : Out :=
  .msix p ((s.msixWord p (4 * v)).toNat + 2 ^ 32 * (s.msixWord p (4 * v + 1)).toNat) (s.msixWord p (4 * v + 2))

/-- A marked vector is taken up: it waits in the pending-bit array while it is masked, waits while its interval runs, and
else sends its message (R70). -/
def vectorTry (s : State) (p : Port) (v : Nat) : State :=
  let x := s.port p
  if !x.marks.get false v then s
  else if s.vectorMasked p v then s.setPort p { x with pba := x.pba.put false v true }
  else if !s.gapOver p v then s
  else
    (s.setPort p { x with marks := x.marks.put false v false, pba := x.pba.put false v false
                          lastMsg := x.lastMsg.put 0 v (s.time.clk + 1) }).emit (s.vectorOut p v)

/-- The 64-bit register whose half of a kind lies at a BAR0 offset. -/
def halfRow (off : Nat) (h : Half) : Option RegRow :=
  match findRow off with
  | some (r, _) => if r.half = h then some r else none
  | none => none

/-- A BAR0 offset lies in the MSI-X table or the pending-bit array (R48, R68). -/
def inMsix (off : Nat) : Bool := decide ((0x30800 ≤ off ∧ off < 0x30900) ∨ (0x38000 ≤ off ∧ off < 0x40000))

end State

/-! ### Meanings -/

/-- REG_WRITE (R7, R8, R9, R49, R60): a 32-bit write to BAR0, or to the port's configuration space, which the model numbers
from `cfgBase` on (R44, R570). -/
def execRegWrite (p : Port) (off : Nat) (v : Word) (s : State) : Res :=
  if off % 4 ≠ 0 then .next (s.complete .abort)
  else if cfgBase ≤ off then (if (s.port p).dlActive then .next (s.cfgWrite p (off - cfgBase) v) else .next s)
  else .next ((s.complete .ok).regWrite p off v)

/-- BAR0_BAD_ACCESS (R9, R48): an access of another width or alignment is aborted. -/
def execBar0BadAccess (_p : Port) (off len : Nat) (s : State) : Res :=
  if (len = 4 ∧ off % 4 = 0) ∨ (len = 8 ∧ off % 8 = 0 ∧ State.inMsix off) then .next s else .next (s.complete .abort)

/-- REG64_LOW_READ (R10): the low word is read, and the high one goes into the port's snapshot. -/
def execReg64LowRead (p : Port) (off : Nat) (s : State) : Res :=
  match State.halfRow off .low with
  | none => .next s
  | some _ =>
    let t := s.complete (.words [s.hubRead p off])
    if s.reachable off then .next (t.setPort p { t.port p with snap := some (off, s.hubRead p (off + 4)) }) else .next t

/-- REG64_HIGH_READ (R10): the high word is read, from the port's snapshot where that is of this register. -/
def execReg64HighRead (p : Port) (off : Nat) (s : State) : Res :=
  match State.halfRow off .high with
  | none => .next s
  | some _ =>
    if !s.reachable off then .next (s.complete (.words [0]))
    else
      match (s.port p).snap with
      | some (o, w) =>
        if o + 4 = off then .next ((s.setPort p { s.port p with snap := none }).complete (.words [w]))
        else .next (s.complete (.words [s.hubRead p off]))
      | none => .next (s.complete (.words [s.hubRead p off]))

/-- REG64_HIGH_WRITE (R11): the word becomes the port's pending high word. -/
def execReg64HighWrite (p : Port) (off : Nat) (v : Word) (s : State) : Res :=
  match State.halfRow off .high with
  | none => .next s
  | some r => .next (s.hubWrite p off r.sem fun s => s.wordEffect p r off v.toNat)

/-- REG64_LOW_WRITE (R11): both halves are applied together. -/
def execReg64LowWrite (p : Port) (off : Nat) (v : Word) (s : State) : Res :=
  match State.halfRow off .low with
  | none => .next s
  | some r => .next (s.hubWrite p off r.sem fun s => s.wordEffect p r off v.toNat)

/-- MSIX_64BIT_ACCESS (R48): a naturally aligned 64-bit read, or write of `w` (low word first), of the MSI-X table or of the
pending-bit array, which is read-only. -/
def execMsix64Access (p : Port) (off : Nat) (w : Option (Word × Word)) (s : State) : Res :=
  if off % 8 ≠ 0 ∨ !State.inMsix off then .next (s.complete .abort)
  else
    match w with
    | none => .next (s.complete (.words [s.hubRead p off, s.hubRead p (off + 4)]))
    | some (lo, hi) =>
      let s := s.complete .ok
      if off < 0x38000 then .next s
      else .next (s.portWrite p off none fun s => (s.msixPut p (off % 0x8000 / 4) lo).msixPut p (off % 0x8000 / 4 + 1) hi)

/-- BAR2_REQUEST (R40, R79, R310): accepted or aborted as a whole; then each word by itself. -/
def execBar2Request (p : Port) (r : MemReq) (s : State) : Res :=
  match r with
  | .read off len =>
    if State.bar2ReadOk off len then
      let offs := (List.range (len / 4)).map fun i => off + 4 * i
      .next ((s.bar2Meet offs).complete (.words (offs.map s.bar2Read)))
    else .next (s.complete .abort)
  | .write off bytes =>
    if State.bar2WriteOk off bytes then .next ((s.complete .ok).bar2Words p off (State.wordsOf (bytes.map (·.getD 0))))
    else .next (s.complete .abort)

/-- BAR4_ACCESS (R41, R359, R376, R377): a read or a write of capture memory through the port's window; `ecc` says what the
read meets at byte `at_` of the request. -/
def execBar4Access (p : Port) (r : MemReq) (ecc : Ecc) (at_ : Nat) (s : State) : Res :=
  match r with
  | .read off len =>
    let a := s.winBase p + off
    if !(s.up .host && s.up .memory) then .next (s.complete (.bytes (List.replicate len 0)))
    else
      let bs := (List.range len).map fun i => s.bar4Byte (a + i)
      let s := s.bar4Oob p ((List.range len).map (a + ·))
      if a + at_ < s.memCapacity ∧ at_ < len then
        .next ((s.memEcc (a + at_) ecc 4 none).complete (if ecc = Ecc.uncorrectable then .poisoned bs else .bytes bs))
      else .next (s.complete (.bytes bs))
  | .write off bytes =>
    let a := s.winBase p + off
    let s := s.complete .ok
    if !(s.up .host && s.up .memory) then .next s
    else
      let as_ := State.enabledFrom a bytes
      .next (((s.bar4Oob p as_).bar4Blocked p as_).bar4Put a bytes)

/-- PORT_LINK_DOWN (R52, R62, R67). -/
def execPortLinkDown (p : Port) (s : State) : Res := if (s.port p).dlActive then .next (s.linkDown p) else .next s

/-- PORT_LINK_UP (R53, R67, R73): the link enters DL_Active with a width and a rate, coded as in GLB_PORT. -/
def execPortLinkUp (p : Port) (width rate : Fin 16) (s : State) : Res :=
  if (s.port p).dlActive ∨ !s.up .host then .next s
  else
    let s := (s.setPort p { s.port p with dlActive := true, evtReset := false }).linkShow p width.val rate.val
    .next (s.raise (16 + p.idx))

/-- PERST_ASSERT (R52): the port is reset, and its link goes down if it was up. -/
def execPerstAssert (p : Port) (s : State) : Res :=
  if (s.port p).dlActive then .next (s.linkDown p) else .next ((s.portReset p).fetchLost p)

/-- FUNCTION_LEVEL_RESET (R52, R73): the port is reset, its link stays; the reset ends within the command. -/
def execFunctionLevelReset (p : Port) (s : State) : Res :=
  if (s.port p).dlActive then .next (s.flr p) else .next s

/-- SEM_ACQUIRE (R54, R55): a read of SEM_n by one port, or by both in one hub cycle. -/
def execSemAcquire (n : Fin 256) (who : SemReader) (s : State) : Res :=
  match who with
  | .one p =>
    if s.up .host then .next ((s.semTake p n).2.complete (.words [(s.semTake p n).1])) else .next (s.complete (.words [0]))
  | .both =>
    if s.up .host then .next ((s.semTakeBoth n).2.2.complete (.words [(s.semTakeBoth n).1, (s.semTakeBoth n).2.1]))
    else .next (s.complete (.words [0, 0]))

/-- SEM_RELEASE (R56, R61): a write to SEM_n. -/
def execSemRelease (p : Port) (n : Fin 256) (v : Word) (s : State) : Res :=
  .next (s.hubWrite p (0x20000 + 4 * n.val) none fun s => s.semWrite p n v)

/-- SEM_PEEK (R65): a read of SEM_PEEK[n]. -/
def execSemPeek (p : Port) (n : Fin 256) (s : State) : Res :=
  .next (s.complete (.words [s.hubRead p (0x20400 + 4 * n.val)]))

/-- SEM_HOLDER_RELEASE (R62 steps 2 to 4, R63): every semaphore the port holds at that moment is released, once for each
condition of R52. -/
def execSemHolderRelease (p : Port) (s : State) : Res :=
  if (s.port p).lostPending = 0 then .next s
  else
    let t := s.holderLost p
    .next (t.setPort p { t.port p with lostPending := (t.port p).lostPending - 1 })

/-- SEM_BREAK (R64): a write to SEM_BREAK. -/
def execSemBreak (p : Port) (v : Word) (s : State) : Res :=
  .next (s.hubWrite p SEM_BREAK.reg.addr none fun s => s.semBreak p v.toNat)

/-- VECTOR_SIGNAL (R70): a vector is looked at, with the function's MSI-X Enable and Function Mask as its host has written
them into the MSI-X capability, which keeps them. -/
def execVectorSignal (p : Port) (v : Fin 2048) (msixEn fnMask : Bool) (s : State) : Res :=
  if s.up .host && (s.port p).dlActive then
    .next ((s.setPort p { s.port p with msixEn := msixEn, fnMask := fnMask }).vectorTry p v)
  else .next s

/-- EVT_PEND_CLEAR (R71, R72): a write to a word of EVT_PEND. -/
def execEvtPendClear (p : Port) (w : Fin 64) (v : Word) (s : State) : Res :=
  .next (s.hubWrite p (EVT_PEND.reg 0 w).addr none fun s => s.relWrite p (EVT_PEND.reg 0 w).addr v.toNat)

/-- AER_UNCORRECTABLE_ERROR (R44, R67): a port logs an error; event 20 or 21 follows an uncorrectable one. -/
def execAerUncorrectableError (e : AerErr) (s : State) : Res :=
  if !s.up .host then .next s
  else
    let s := s.setPort e.port { s.port e.port with cfg := State.aerLog (s.port e.port).cfg e }
    match e with
    | .correctable _ _ => .next s
    | .uncorrectable p _ _ => .next (s.raise (20 + p.idx))

end Sys2Proof.Machine
end

