-- ==== Sys2Proof/Machine/Dispatch.lean ====
section
/-! DEFINITION. The meaning of every command: one arm for each constructor, one direct call. -/

namespace Sys2Proof.Machine

def exec (i : Instr) (s : State) : Host.Outcome State Fault Refusal :=
  match i with
  | .regWrite p off v => Sys2Proof.Machine.execRegWrite p off v s
  | .bar0BadAccess p off len => Sys2Proof.Machine.execBar0BadAccess p off len s
  | .reg64LowRead p off => Sys2Proof.Machine.execReg64LowRead p off s
  | .reg64HighRead p off => Sys2Proof.Machine.execReg64HighRead p off s
  | .reg64HighWrite p off v => Sys2Proof.Machine.execReg64HighWrite p off v s
  | .reg64LowWrite p off v => Sys2Proof.Machine.execReg64LowWrite p off v s
  | .msix64Access p off w => Sys2Proof.Machine.execMsix64Access p off w s
  | .bar2Request p r => Sys2Proof.Machine.execBar2Request p r s
  | .bar4Access p r ecc at_ => Sys2Proof.Machine.execBar4Access p r ecc at_ s
  | .portLinkDown p => Sys2Proof.Machine.execPortLinkDown p s
  | .portLinkUp p width rate => Sys2Proof.Machine.execPortLinkUp p width rate s
  | .perstAssert p => Sys2Proof.Machine.execPerstAssert p s
  | .functionLevelReset p => Sys2Proof.Machine.execFunctionLevelReset p s
  | .semAcquire n who => Sys2Proof.Machine.execSemAcquire n who s
  | .semRelease p n v => Sys2Proof.Machine.execSemRelease p n v s
  | .semPeek p n => Sys2Proof.Machine.execSemPeek p n s
  | .semHolderRelease p => Sys2Proof.Machine.execSemHolderRelease p s
  | .semBreak p v => Sys2Proof.Machine.execSemBreak p v s
  | .vectorSignal p v msixEn fnMask => Sys2Proof.Machine.execVectorSignal p v msixEn fnMask s
  | .evtPendClear p w v => Sys2Proof.Machine.execEvtPendClear p w v s
  | .mpReadCycle a => Sys2Proof.Machine.execMpReadCycle a s
  | .mpWriteRefused a v => Sys2Proof.Machine.execMpWriteRefused a v s
  | .fcForce hi v => Sys2Proof.Machine.execFcForce hi v s
  | .fcArm hi v => Sys2Proof.Machine.execFcArm hi v s
  | .fcDisarm hi v => Sys2Proof.Machine.execFcDisarm hi v s
  | .fcFcdClear v => Sys2Proof.Machine.execFcFcdClear v s
  | .fcMarker v => Sys2Proof.Machine.execFcMarker v s
  | .mpCtlWrite p v => Sys2Proof.Machine.execMpCtlWrite p v s
  | .imgLoadGo p v head => Sys2Proof.Machine.execImgLoadGo p v head s
  | .imgLoadWaitStart head => Sys2Proof.Machine.execImgLoadWaitStart head s
  | .imgPass1Done image => Sys2Proof.Machine.execImgPass1Done image s
  | .imgPass2Done image => Sys2Proof.Machine.execImgPass2Done image s
  | .imgAdmission sweepFailed => Sys2Proof.Machine.execImgAdmission sweepFailed s
  | .imgAbort p v => Sys2Proof.Machine.execImgAbort p v s
  | .imgUnload p v => Sys2Proof.Machine.execImgUnload p v s
  | .switchOverStart => Sys2Proof.Machine.execSwitchOverStart s
  | .switchOverCommit => Sys2Proof.Machine.execSwitchOverCommit s
  | .keyEnrol p v => Sys2Proof.Machine.execKeyEnrol p v s
  | .keyRevoke p v => Sys2Proof.Machine.execKeyRevoke p v s
  | .keySetSvn p v => Sys2Proof.Machine.execKeySetSvn p v s
  | .keyFuseDone => Sys2Proof.Machine.execKeyFuseDone s
  | .replayParcelRead path ecc => Sys2Proof.Machine.execReplayParcelRead path ecc s
  | .fabricEntryParcel n samples at_ rx lane => Sys2Proof.Machine.execFabricEntryParcel n samples at_ rx lane s
  | .ebBlockArrive path => Sys2Proof.Machine.execEbBlockArrive path s
  | .pathTakeBlock path frames ecc => Sys2Proof.Machine.execPathTakeBlock path frames ecc s
  | .tileFire t how outs product => Sys2Proof.Machine.execTileFire t how outs product s
  | .reorderRelease path ecc => Sys2Proof.Machine.execReorderRelease path ecc s
  | .droopTrip sagMv => Sys2Proof.Machine.execDroopTrip sagMv s
  | .pclkStepUp => Sys2Proof.Machine.execPclkStepUp s
  | .nrtResume => Sys2Proof.Machine.execNrtResume s
  | .canarySweepStart periodic => Sys2Proof.Machine.execCanarySweepStart periodic s
  | .canarySweepDone tiles kps => Sys2Proof.Machine.execCanarySweepDone tiles kps s
  | .carouselHandover n residual lowInput stuck offset gain timing => Sys2Proof.Machine.execCarouselHandover n residual lowInput stuck offset gain timing s
  | .reconverge n w => Sys2Proof.Machine.execReconverge n w s
  | .reconvergeDone n => Sys2Proof.Machine.execReconvergeDone n s
  | .inputSelChange n => Sys2Proof.Machine.execInputSelChange n s
  | .zoneChange n => Sys2Proof.Machine.execZoneChange n s
  | .ovrEpisodeStart n index => Sys2Proof.Machine.execOvrEpisodeStart n index s
  | .protHoldExpire n => Sys2Proof.Machine.execProtHoldExpire n s
  | .protRelease p n v => Sys2Proof.Machine.execProtRelease p n v s
  | .fltFire n run at_ => Sys2Proof.Machine.execFltFire n run at_ s
  | .refLost => Sys2Proof.Machine.execRefLost s
  | .refReturn mhz100 => Sys2Proof.Machine.execRefReturn mhz100 s
  | .refFreqWrite p v => Sys2Proof.Machine.execRefFreqWrite p v s
  | .ppsEdge tick bin => Sys2Proof.Machine.execPpsEdge tick bin s
  | .ppsWindowMissed => Sys2Proof.Machine.execPpsWindowMissed s
  | .spllDivWrite p v => Sys2Proof.Machine.execSpllDivWrite p v s
  | .spllLfWrite p v => Sys2Proof.Machine.execSpllLfWrite p v s
  | .spllHop p v => Sys2Proof.Machine.execSpllHop p v s
  | .spllTrip => Sys2Proof.Machine.execSpllTrip s
  | .spllLock run => Sys2Proof.Machine.execSpllLock run s
  | .clkoutCtlWrite p k dly v => Sys2Proof.Machine.execClkoutCtlWrite p k dly v s
  | .syncInEdge tick bin applied sliceMoved => Sys2Proof.Machine.execSyncInEdge tick bin applied sliceMoved s
  | .syncIssue p v => Sys2Proof.Machine.execSyncIssue p v s
  | .upllUnlock => Sys2Proof.Machine.execUpllUnlock s
  | .upllRelock => Sys2Proof.Machine.execUpllRelock s
  | .ddcCommit p path v => Sys2Proof.Machine.execDdcCommit p path v s
  | .ddcCommitApply path => Sys2Proof.Machine.execDdcCommitApply path s
  | .zmSwap p path w v => Sys2Proof.Machine.execZmSwap p path w v s
  | .zmFadeStart path w index => Sys2Proof.Machine.execZmFadeStart path w index s
  | .zmFadeDone path w => Sys2Proof.Machine.execZmFadeDone path w s
  | .zmCoefAccess p path w v => Sys2Proof.Machine.execZmCoefAccess p path w v s
  | .spectrumProduce path inst => Sys2Proof.Machine.execSpectrumProduce path inst s
  | .detIntervalEnd path inst => Sys2Proof.Machine.execDetIntervalEnd path inst s
  | .detHoldReset p path inst v => Sys2Proof.Machine.execDetHoldReset p path inst v s
  | .skBlockEnd path => Sys2Proof.Machine.execSkBlockEnd path s
  | .chzIntegralEnd path => Sys2Proof.Machine.execChzIntegralEnd path s
  | .envRecordClose path => Sys2Proof.Machine.execEnvRecordClose path s
  | .kalSpectrum k x bad => Sys2Proof.Machine.execKalSpectrum k x bad s
  | .kalDecaySweep k => Sys2Proof.Machine.execKalDecaySweep k s
  | .kalFreeze p k v => Sys2Proof.Machine.execKalFreeze p k v s
  | .kalReady k => Sys2Proof.Machine.execKalReady k s
  | .kalClear p k v => Sys2Proof.Machine.execKalClear p k v s
  | .kalClearDone k => Sys2Proof.Machine.execKalClearDone k s
  | .mskEvaluate m x bad => Sys2Proof.Machine.execMskEvaluate m x bad s
  | .mskSwap p v => Sys2Proof.Machine.execMskSwap p v s
  | .trgEvaluate c e => Sys2Proof.Machine.execTrgEvaluate c e s
  | .trgDecide upTo => Sys2Proof.Machine.execTrgDecide upTo s
  | .trgArmWrite p c v => Sys2Proof.Machine.execTrgArmWrite p c v s
  | .trgForce p hi v => Sys2Proof.Machine.execTrgForce p hi v s
  | .trgRgnArm p r v => Sys2Proof.Machine.execTrgRgnArm p r v s
  | .trgRgnDisarm p r v => Sys2Proof.Machine.execTrgRgnDisarm p r v s
  | .trgRgnHoldEnd r => Sys2Proof.Machine.execTrgRgnHoldEnd r s
  | .seqWindowLapse c => Sys2Proof.Machine.execSeqWindowLapse c s
  | .triginEdge k active tick bin => Sys2Proof.Machine.execTriginEdge k active tick bin s
  | .triginStuck k => Sys2Proof.Machine.execTriginStuck k s
  | .trigoutAligned o => Sys2Proof.Machine.execTrigoutAligned o s
  | .trigoutPulseEnd o => Sys2Proof.Machine.execTrigoutPulseEnd o s
  | .trgAvgReset p path v => Sys2Proof.Machine.execTrgAvgReset p path v s
  | .capAllocCreate p v => Sys2Proof.Machine.execCapAllocCreate p v s
  | .capAllocResize p v => Sys2Proof.Machine.execCapAllocResize p v s
  | .capAllocFree p v => Sys2Proof.Machine.execCapAllocFree p v s
  | .capFormatUnit r x => Sys2Proof.Machine.execCapFormatUnit r x s
  | .capCaptureEnd r => Sys2Proof.Machine.execCapCaptureEnd r s
  | .capAckWrite p r v => Sys2Proof.Machine.execCapAckWrite p r v s
  | .capBar4WinWrite p high v => Sys2Proof.Machine.execCapBar4WinWrite p high v s
  | .kpInstrAlu n got x => Sys2Proof.Machine.execKpInstrAlu n got x s
  | .kpInstrMac4 n got x => Sys2Proof.Machine.execKpInstrMac4 n got x s
  | .kpInstrMac2 n got a x => Sys2Proof.Machine.execKpInstrMac2 n got a x s
  | .kpInstrMpy4 n got x => Sys2Proof.Machine.execKpInstrMpy4 n got x s
  | .kpInstrMpy2 n got a x => Sys2Proof.Machine.execKpInstrMpy2 n got a x s
  | .kpInstrClrS n got a moveX moveY => Sys2Proof.Machine.execKpInstrClrS n got a moveX moveY s
  | .kpInstrLd n got d c y half m => Sys2Proof.Machine.execKpInstrLd n got d c y half m s
  | .kpInstrSt n got d c y half m => Sys2Proof.Machine.execKpInstrSt n got d c y half m s
  | .kpInstrStS n got a c y half m => Sys2Proof.Machine.execKpInstrStS n got a c y half m s
  | .kpInstrMov n got dst src => Sys2Proof.Machine.execKpInstrMov n got dst src s
  | .kpInstrImmediate n got x => Sys2Proof.Machine.execKpInstrImmediate n got x s
  | .kpInstrBranch n got c target => Sys2Proof.Machine.execKpInstrBranch n got c target s
  | .kpInstrCall n got c target => Sys2Proof.Machine.execKpInstrCall n got c target s
  | .kpInstrRet n got c => Sys2Proof.Machine.execKpInstrRet n got c s
  | .kpInstrLoop n got count stop => Sys2Proof.Machine.execKpInstrLoop n got count stop s
  | .kpInstrRep n got count => Sys2Proof.Machine.execKpInstrRep n got count s
  | .kpInstrMax n got d at_ c u half f => Sys2Proof.Machine.execKpInstrMax n got d at_ c u half f s
  | .kpInstrMin n got d at_ c u half f => Sys2Proof.Machine.execKpInstrMin n got d at_ c u half f s
  | .kpInstrExp n got d src => Sys2Proof.Machine.execKpInstrExp n got d src s
  | .kpInstrNorm n got d src count => Sys2Proof.Machine.execKpInstrNorm n got d src count s
  | .kpInstrHalt n got => Sys2Proof.Machine.execKpInstrHalt n got s
  | .kpInstrWait n got => Sys2Proof.Machine.execKpInstrWait n got s
  | .kpInstrPub n got g => Sys2Proof.Machine.execKpInstrPub n got g s
  | .kpInstrMboxPost n got => Sys2Proof.Machine.execKpInstrMboxPost n got s
  | .kpInstrMboxAck n got => Sys2Proof.Machine.execKpInstrMboxAck n got s
  | .kpInstrTrap n got => Sys2Proof.Machine.execKpInstrTrap n got s
  | .kpInstrRti n got => Sys2Proof.Machine.execKpInstrRti n got s
  | .kpInstrEi n got => Sys2Proof.Machine.execKpInstrEi n got s
  | .kpInstrDi n got => Sys2Proof.Machine.execKpInstrDi n got s
  | .kpInstrTime n got lo hi ph => Sys2Proof.Machine.execKpInstrTime n got lo hi ph s
  | .kpInterrupt n => Sys2Proof.Machine.execKpInterrupt n s
  | .kpTimerExpire n => Sys2Proof.Machine.execKpTimerExpire n s
  | .kpWatchdog n => Sys2Proof.Machine.execKpWatchdog n s
  | .kpInboxParcel n x => Sys2Proof.Machine.execKpInboxParcel n x s
  | .kpMboxInPost p n v => Sys2Proof.Machine.execKpMboxInPost p n v s
  | .kpMboxOutClear p n v => Sys2Proof.Machine.execKpMboxOutClear p n v s
  | .kpWindowAccess p n word w => Sys2Proof.Machine.execKpWindowAccess p n word w s
  | .kpReset p n v => Sys2Proof.Machine.execKpReset p n v s
  | .kpRun p n v => Sys2Proof.Machine.execKpRun p n v s
  | .kpHalt p n v => Sys2Proof.Machine.execKpHalt p n v s
  | .dmaGo p n v => Sys2Proof.Machine.execDmaGo p n v s
  | .dmaDescFetch n b => Sys2Proof.Machine.execDmaDescFetch n b s
  | .dmaBurst n => Sys2Proof.Machine.execDmaBurst n s
  | .dmaBeatComplete n got => Sys2Proof.Machine.execDmaBeatComplete n got s
  | .dmaComplete n => Sys2Proof.Machine.execDmaComplete n s
  | .dmaDisable p n v => Sys2Proof.Machine.execDmaDisable p n v s
  | .dmaExitParcel n x => Sys2Proof.Machine.execDmaExitParcel n x s
  | .dmaRingPartnerWrite p n v => Sys2Proof.Machine.execDmaRingPartnerWrite p n v s
  | .dmaCqTailWrite p q v => Sys2Proof.Machine.execDmaCqTailWrite p q v s
  | .dmaQuiesceTimeout => Sys2Proof.Machine.execDmaQuiesceTimeout s
  | .dmaResume => Sys2Proof.Machine.execDmaResume s
  | .strmFlowParcel sp fl x => Sys2Proof.Machine.execStrmFlowParcel sp fl x s
  | .strmFlowEnable p sp fl v => Sys2Proof.Machine.execStrmFlowEnable p sp fl v s
  | .strmContextTimer sp fl => Sys2Proof.Machine.execStrmContextTimer sp fl s
  | .strmRegionCapture sp fl => Sys2Proof.Machine.execStrmRegionCapture sp fl s
  | .strmArpRequest sp mac sender target => Sys2Proof.Machine.execStrmArpRequest sp mac sender target s
  | .strmNeighborSolicit sp mac sender target => Sys2Proof.Machine.execStrmNeighborSolicit sp mac sender target s
  | .strmRxOther sp fecCorrected => Sys2Proof.Machine.execStrmRxOther sp fecCorrected s
  | .strmLinkChange sp up => Sys2Proof.Machine.execStrmLinkChange sp up s
  | .dispCommit p v => Sys2Proof.Machine.execDispCommit p v s
  | .dispVblank => Sys2Proof.Machine.execDispVblank s
  | .dispComposeLine late overlay bad fixed => Sys2Proof.Machine.execDispComposeLine late overlay bad fixed s
  | .dispClockSettled => Sys2Proof.Machine.execDispClockSettled s
  | .dispLinkTrained rateA rateB => Sys2Proof.Machine.execDispLinkTrained rateA rateB s
  | .dispTrainFail => Sys2Proof.Machine.execDispTrainFail s
  | .dispHpdUnplug b => Sys2Proof.Machine.execDispHpdUnplug b s
  | .dispHpdPlug b => Sys2Proof.Machine.execDispHpdPlug b s
  | .dispIrqHpd b retrain => Sys2Proof.Machine.execDispIrqHpd b retrain s
  | .dispAuxGo p v => Sys2Proof.Machine.execDispAuxGo p v s
  | .dispAuxDone nack data => Sys2Proof.Machine.execDispAuxDone nack data s
  | .layerReleased l => Sys2Proof.Machine.execLayerReleased l s
  | .layerFault cause => Sys2Proof.Machine.execLayerFault cause s
  | .tiuTimeArm p v => Sys2Proof.Machine.execTiuTimeArm p v s
  | .evEdge j active tick bin => Sys2Proof.Machine.execEvEdge j active tick bin s
  | .evStuck j => Sys2Proof.Machine.execEvStuck j s
  | .tiuEvFifoPop p j w => Sys2Proof.Machine.execTiuEvFifoPop p j w s
  | .tiuCdcGo p v => Sys2Proof.Machine.execTiuCdcGo p v s
  | .tiuCdcDone hits => Sys2Proof.Machine.execTiuCdcDone hits s
  | .tiuFinGate k => Sys2Proof.Machine.execTiuFinGate k s
  | .tiuStatGo p s_ v => Sys2Proof.Machine.execTiuStatGo p s_ v s
  | .tiuStatDone s_ => Sys2Proof.Machine.execTiuStatDone s_ s
  | .fcdCodeWrite p f v => Sys2Proof.Machine.execFcdCodeWrite p f v s
  | .fcdPwmPeriod f => Sys2Proof.Machine.execFcdPwmPeriod f s
  | .clrdacFall => Sys2Proof.Machine.execClrdacFall s
  | .clrdacRelease => Sys2Proof.Machine.execClrdacRelease s
  | .fcdDriveEnable p f => Sys2Proof.Machine.execFcdDriveEnable p f s
  | .fcdPredriveDone f => Sys2Proof.Machine.execFcdPredriveDone f s
  | .fcdDriveDisable p f => Sys2Proof.Machine.execFcdDriveDisable p f s
  | .vhkReturn => Sys2Proof.Machine.execVhkReturn s
  | .fcdRangeWrite p f range => Sys2Proof.Machine.execFcdRangeWrite p f range s
  | .fcdRangeSettled f => Sys2Proof.Machine.execFcdRangeSettled f s
  | .hkStart p v => Sys2Proof.Machine.execHkStart p v s
  | .hkStop p v => Sys2Proof.Machine.execHkStop p v s
  | .hkConversion a b => Sys2Proof.Machine.execHkConversion a b s
  | .hkScanDone => Sys2Proof.Machine.execHkScanDone s
  | .calGo p v => Sys2Proof.Machine.execCalGo p v s
  | .calNext p v => Sys2Proof.Machine.execCalNext p v s
  | .calPassDone readings invalid overranged => Sys2Proof.Machine.execCalPassDone readings invalid overranged s
  | .calGroupTimeout => Sys2Proof.Machine.execCalGroupTimeout s
  | .calAbort p v => Sys2Proof.Machine.execCalAbort p v s
  | .calCommit p v => Sys2Proof.Machine.execCalCommit p v s
  | .calCommitDone good => Sys2Proof.Machine.execCalCommitDone good s
  | .calStaleCheck temps => Sys2Proof.Machine.execCalStaleCheck temps s
  | .calStGo p v => Sys2Proof.Machine.execCalStGo p v s
  | .calStDone data verified => Sys2Proof.Machine.execCalStDone data verified s
  | .ensTokenRx ring bytes second => Sys2Proof.Machine.execEnsTokenRx ring bytes second s
  | .ensHeartbeat => Sys2Proof.Machine.execEnsHeartbeat s
  | .ensRingLoss ring lockLost silent => Sys2Proof.Machine.execEnsRingLoss ring lockLost silent s
  | .ensFprint => Sys2Proof.Machine.execEnsFprint s
  | .ensTokenArm p v => Sys2Proof.Machine.execEnsTokenArm p v s
  | .ensTokenDisarm p v => Sys2Proof.Machine.execEnsTokenDisarm p v s
  | .ensTokenApply => Sys2Proof.Machine.execEnsTokenApply s
  | .ensTokenReturn ack => Sys2Proof.Machine.execEnsTokenReturn ack s
  | .ensSync p v => Sys2Proof.Machine.execEnsSync p v s
  | .ensSyncAbort => Sys2Proof.Machine.execEnsSyncAbort s
  | .ensStateApply => Sys2Proof.Machine.execEnsStateApply s
  | .wearRepairGo p v ledgerFails => Sys2Proof.Machine.execWearRepairGo p v ledgerFails s
  | .startupRepairDone => Sys2Proof.Machine.execStartupRepairDone s
  | .laneSpareSwap spare => Sys2Proof.Machine.execLaneSpareSwap spare s
  | .steerSweepStart => Sys2Proof.Machine.execSteerSweepStart s
  | .steerSweepDone => Sys2Proof.Machine.execSteerSweepDone s
  | .ledgerWrite failed => Sys2Proof.Machine.execLedgerWrite failed s
  | .scrub what => Sys2Proof.Machine.execScrub what s
  | .railUndervoltage rail => Sys2Proof.Machine.execRailUndervoltage rail s
  | .railRestored => Sys2Proof.Machine.execRailRestored s
  | .railLowAlert below => Sys2Proof.Machine.execRailLowAlert below s
  | .thermRead temps => Sys2Proof.Machine.execThermRead temps s
  | .porstAssert => Sys2Proof.Machine.execPorstAssert s
  | .porstRelease bootSel mgmtAddr => Sys2Proof.Machine.execPorstRelease bootSel mgmtAddr s
  | .sysrstAssert => Sys2Proof.Machine.execSysrstAssert s
  | .sysrstRelease => Sys2Proof.Machine.execSysrstRelease s
  | .glbRstSys p v => Sys2Proof.Machine.execGlbRstSys p v s
  | .memTrainDone chans => Sys2Proof.Machine.execMemTrainDone chans s
  | .memInitDone => Sys2Proof.Machine.execMemInitDone s
  | .startDone => Sys2Proof.Machine.execStartDone s
  | .avsTransaction good readMv status => Sys2Proof.Machine.execAvsTransaction good readMv status s
  | .avsStatusPoll status => Sys2Proof.Machine.execAvsStatusPoll status s
  | .avsManWrite p v => Sys2Proof.Machine.execAvsManWrite p v s
  | .pwrReq p v => Sys2Proof.Machine.execPwrReq p v s
  | .pwrReqWaitStart => Sys2Proof.Machine.execPwrReqWaitStart s
  | .pwrEnterIdle => Sys2Proof.Machine.execPwrEnterIdle s
  | .pwrEnterSleep => Sys2Proof.Machine.execPwrEnterSleep s
  | .pwrEnterDeep => Sys2Proof.Machine.execPwrEnterDeep s
  | .pwrEnterOff => Sys2Proof.Machine.execPwrEnterOff s
  | .pwrExitIdle => Sys2Proof.Machine.execPwrExitIdle s
  | .pwrExitSleep counts refThere run => Sys2Proof.Machine.execPwrExitSleep counts refThere run s
  | .pwrExitDeep mhz100 => Sys2Proof.Machine.execPwrExitDeep mhz100 s
  | .pwrTransitionDone => Sys2Proof.Machine.execPwrTransitionDone s
  | .wakeNFall => Sys2Proof.Machine.execWakeNFall s
  | .mgmtTransaction write read => Sys2Proof.Machine.execMgmtTransaction write read s
  | .pwrTimerExpire => Sys2Proof.Machine.execPwrTimerExpire s
  | .ensWake => Sys2Proof.Machine.execEnsWake s
  | .kpIllegalInstruction n got => Sys2Proof.Machine.execKpIllegalInstruction n got s
  | .finEdge k tick bin overRate => Sys2Proof.Machine.execFinEdge k tick bin overRate s
  | .ensRingBlockLock ring => Sys2Proof.Machine.execEnsRingBlockLock ring s
  | .d2dLaneLockLoss lane => Sys2Proof.Machine.execD2dLaneLockLoss lane s
  | .utilityPllFirstLock mhz100 => Sys2Proof.Machine.execUtilityPllFirstLock mhz100 s
  | .startupStoreReadDone => Sys2Proof.Machine.execStartupStoreReadDone s
  | .kalDecaySweepDone k => Sys2Proof.Machine.execKalDecaySweepDone k s
  | .protMinClipReached n => Sys2Proof.Machine.execProtMinClipReached n s
  | .ovrEpisodeEnd n => Sys2Proof.Machine.execOvrEpisodeEnd n s
  | .mirrorGatheredUpdate g => Sys2Proof.Machine.execMirrorGatheredUpdate g s
  | .aerUncorrectableError e => Sys2Proof.Machine.execAerUncorrectableError e s

end Sys2Proof.Machine
end

