-- ==== Sys2Proof/Machine/Step.lean ====
section
/-! DEFINITION. One step of the block: the command at the front of the queue, or, on an empty queue, one tick of the
2.56 GHz clock (log entry 1). -/

namespace Sys2Proof.Machine

/-- One period of 2.56 GHz passes: the model's clock, engine time where it counts (R16), and what the units do in a tick. -/
def State.tickOne (s : State) : State :=
  let s := s.unitsTick
  { s with time := { s.time with clk := s.time.clk + 1, tick := if s.time.running then s.time.tick + 1 else s.time.tick } }

/-- Take the command at the front of the queue and run it with the rest; on an empty queue a tick passes. -/
def step (s : State) : Host.Outcome State Fault Refusal :=
  match s.pending with
  | [] => .next s.tickOne
  | c :: cs => exec c { s with pending := cs }

/-- The state with the command that a table word spells at the front of its queue. The opcode table gives no bits, so no
word spells a command and the state stays. -/
def State.withFetchWord (s : State) (nbits w : Nat) : State :=
  match decodeTableWord nbits w with
  | some c => { s with pending := c :: s.pending }
  | none => s

end Sys2Proof.Machine
end

