-- ==== Sys2Proof/WellFormed.lean ====
section
/-! DEFINITION. What the operands of a command satisfy, beyond their types: ranges of offsets and lengths, and the field
widths of parcels. -/

namespace Sys2Proof

/-- A BAR0 offset lies in the MSI-X table or its pending-bit array (R68). -/
def inMsix (off : Nat) : Bool := decide ((0x30800 ≤ off ∧ off < 0x30900) ∨ (0x38000 ≤ off ∧ off < 0x40000))

/-- A BAR0 offset that the low word of a 64-bit register may have (R10). -/
def low64 (off : Nat) : Bool := decide (off < 2 ^ 26) && off % 8 == 0

/-- A BAR0 offset that the high word of a 64-bit register may have (R10). -/
def high64 (off : Nat) : Bool := decide (off < 2 ^ 26) && off % 8 == 4

/-- A memory request stays within its window, and is of a length that PCI Express allows (R40, R41, R44). -/
def memReqOk (size : Nat) : MemReq → Bool
  | .read off len => decide (off + len ≤ size ∧ len ≤ 4096)
  | .write off bytes => decide (off + bytes.length ≤ size ∧ bytes.length ≤ 512)

/-- A point of engine time has 64 bits of ticks and 64 phase bins (R16). -/
def stampOk (t : Stamp) : Bool := decide (t.tick < 2 ^ 64 ∧ t.phase < 64)

/-- The fields of a parcel fit its header (R127). -/
def parcelOk (x : Parcel) : Bool :=
  decide (x.path < 4 ∧ x.flags < 256 ∧ x.tick < 2 ^ 64 ∧ x.phase < 64 ∧ x.segment < 256 ∧ x.segments < 256 ∧ x.stream < 256) &&
    decide (x.payload.length ≤ 8192) &&
    match x.marker with
    | none => true
    | some m => decide (m.1 < 256 ∧ m.2 < 65536)

/-- The stream of a frame fits a parcel header (R127), and so do the parcels of its product. -/
def frameOk (x : Frame) : Bool := decide (x.stream < 256) && x.done.all parcelOk

/-- A firing sends tokens on at most four sides, and the parcels it makes fit their headers (R121, R127). -/
def tileWorkOk (w : TileWork) : Bool :=
  decide (w.outs.length ≤ 4) && w.outs.all fun side => side.all fun
    | .parcel x => parcelOk x
    | _ => true

/-- The offset of an LD or ST fits its field (R395). -/
def modeOk : KpMode → Bool
  | .step _ => true
  | .offset o => decide (-16384 ≤ o ∧ o ≤ 16383)

/-- An immediate count fits its field (R392, R395). -/
def countOk : KpCount → Bool
  | .imm n => decide (1 ≤ n ∧ n ≤ 65536)
  | .reg _ => true

/-- The header and directory of an image fit its greatest length, 16 MiB (R119). -/
def headOk : Option (List Byte) → Bool
  | none => true
  | some b => decide (b.length ≤ 2 ^ 24)

/-- An image fits its greatest length, 16 MiB (R119). -/
def imageOk : Option (List Byte) → Bool
  | none => true
  | some b => decide (b.length ≤ 2 ^ 24)

/-- The operands of a command are in range. -/
def Instr.wf : Instr → Bool
  | .regWrite _ off _ => (decide (off < 2 ^ 26) || decide (2 ^ 28 ≤ off && off < 2 ^ 28 + 4096)) && off % 4 == 0
  | .bar0BadAccess _ off len => decide (off < 2 ^ 26) && !(len == 4 && off % 4 == 0) && !(len == 8 && off % 8 == 0 && inMsix off)
  | .reg64LowRead _ off => low64 off
  | .reg64HighRead _ off => high64 off
  | .reg64HighWrite _ off _ => high64 off
  | .reg64LowWrite _ off _ => low64 off
  | .msix64Access _ off _ => off % 8 == 0 && inMsix off
  | .bar2Request _ r => memReqOk (2 ^ 28) r
  | .bar4Access _ r _ _ => memReqOk (2 ^ 32) r
  | .portLinkDown _ => true
  | .portLinkUp _ width rate => (width == 1 || width == 4 || width == 8) && decide (1 ≤ rate.val ∧ rate.val ≤ 5)
  | .perstAssert _ => true
  | .functionLevelReset _ => true
  | .semAcquire _ _ => true
  | .semRelease _ _ _ => true
  | .semPeek _ _ => true
  | .semHolderRelease _ => true
  | .semBreak _ _ => true
  | .vectorSignal _ _ _ _ => true
  | .evtPendClear _ _ _ => true
  | .mpReadCycle _ => true
  | .mpWriteRefused _ _ => true
  | .fcForce _ _ => true
  | .fcArm _ _ => true
  | .fcDisarm _ _ => true
  | .fcFcdClear _ => true
  | .fcMarker _ => true
  | .mpCtlWrite _ _ => true
  | .mirrorGatheredUpdate _ => true
  | .imgLoadGo _ _ head => headOk head
  | .imgLoadWaitStart head => headOk head
  | .imgPass1Done image => imageOk image
  | .imgPass2Done image => imageOk image
  | .imgAdmission _ => true
  | .imgAbort _ _ => true
  | .imgUnload _ _ => true
  | .switchOverStart => true
  | .switchOverCommit => true
  | .keyEnrol _ _ => true
  | .keyRevoke _ _ => true
  | .keySetSvn _ _ => true
  | .keyFuseDone => true
  | .replayParcelRead _ _ => true
  | .fabricEntryParcel _ samples at_ rx _ => samples.length == 1024 && stampOk at_ && (match rx with
    | none => true
    | some b => b.length == 1696)
  | .ebBlockArrive _ => true
  | .pathTakeBlock _ frames _ => frames.all frameOk
  | .tileFire _ _ work product => tileWorkOk work && (match product with
    | none => true
    | some x => frameOk x)
  | .reorderRelease _ _ => true
  | .droopTrip _ => true
  | .pclkStepUp => true
  | .nrtResume => true
  | .canarySweepStart _ => true
  | .canarySweepDone tiles kps => tiles.length == 1088 && kps.length == 68
  | .carouselHandover _ _ _ _ _ _ _ => true
  | .reconverge _ _ => true
  | .reconvergeDone _ => true
  | .inputSelChange _ => true
  | .zoneChange _ => true
  | .ovrEpisodeStart _ _ => true
  | .protHoldExpire _ => true
  | .protRelease _ _ _ => true
  | .fltFire _ _ at_ => stampOk at_
  | .protMinClipReached _ => true
  | .ovrEpisodeEnd _ => true
  | .refLost => true
  | .refReturn _ => true
  | .refFreqWrite _ _ => true
  | .ppsEdge tick _ => decide (tick < 2 ^ 64)
  | .ppsWindowMissed => true
  | .spllDivWrite _ _ => true
  | .spllLfWrite _ _ => true
  | .spllHop _ _ => true
  | .spllTrip => true
  | .spllLock _ => true
  | .clkoutCtlWrite _ _ _ _ => true
  | .syncInEdge tick _ applied _ => decide (tick < 2 ^ 64 ∧ applied < 2 ^ 64)
  | .syncIssue _ _ => true
  | .upllUnlock => true
  | .upllRelock => true
  | .ddcCommit _ _ _ => true
  | .ddcCommitApply _ => true
  | .zmSwap _ _ _ _ => true
  | .zmFadeStart _ _ _ => true
  | .zmFadeDone _ _ => true
  | .zmCoefAccess _ _ _ _ => true
  | .spectrumProduce _ _ => true
  | .detIntervalEnd _ _ => true
  | .detHoldReset _ _ _ _ => true
  | .skBlockEnd _ => true
  | .chzIntegralEnd _ => true
  | .envRecordClose _ => true
  | .kalSpectrum _ x _ => parcelOk x
  | .kalDecaySweep _ => true
  | .kalFreeze _ _ _ => true
  | .kalReady _ => true
  | .kalClear _ _ _ => true
  | .kalClearDone _ => true
  | .kalDecaySweepDone _ => true
  | .mskEvaluate _ x _ => parcelOk x
  | .mskSwap _ _ => true
  | .trgEvaluate _ _ => true
  | .trgDecide upTo => stampOk upTo
  | .trgArmWrite _ _ _ => true
  | .trgForce _ _ _ => true
  | .trgRgnArm _ _ _ => true
  | .trgRgnDisarm _ _ _ => true
  | .trgRgnHoldEnd _ => true
  | .seqWindowLapse _ => true
  | .triginEdge _ _ tick _ => decide (tick < 2 ^ 64)
  | .triginStuck _ => true
  | .trigoutAligned _ => true
  | .trigoutPulseEnd _ => true
  | .trgAvgReset _ _ _ => true
  | .capAllocCreate _ _ => true
  | .capAllocResize _ _ => true
  | .capAllocFree _ _ => true
  | .capFormatUnit _ x => parcelOk x
  | .capCaptureEnd _ => true
  | .capAckWrite _ _ _ => true
  | .capBar4WinWrite _ _ _ => true
  | .kpInstrAlu _ _ _ => true
  | .kpInstrMac4 _ _ _ => true
  | .kpInstrMac2 _ _ _ _ => true
  | .kpInstrMpy4 _ _ _ => true
  | .kpInstrMpy2 _ _ _ _ => true
  | .kpInstrClrS _ _ _ _ _ => true
  | .kpInstrLd _ _ _ _ _ _ m => modeOk m
  | .kpInstrSt _ _ _ _ _ _ m => modeOk m
  | .kpInstrStS _ _ _ _ _ _ m => modeOk m
  | .kpInstrMov _ _ _ _ => true
  | .kpInstrImmediate _ _ _ => true
  | .kpInstrBranch _ _ _ _ => true
  | .kpInstrCall _ _ _ _ => true
  | .kpInstrRet _ _ _ => true
  | .kpInstrLoop _ _ count _ => countOk count
  | .kpInstrRep _ _ count => countOk count
  | .kpInstrMax _ _ _ _ _ _ _ _ => true
  | .kpInstrMin _ _ _ _ _ _ _ _ => true
  | .kpInstrExp _ _ _ _ => true
  | .kpInstrNorm _ _ _ _ _ => true
  | .kpInstrHalt _ _ => true
  | .kpInstrWait _ _ => true
  | .kpInstrPub _ _ _ => true
  | .kpInstrMboxPost _ _ => true
  | .kpInstrMboxAck _ _ => true
  | .kpInstrTrap _ _ => true
  | .kpInstrRti _ _ => true
  | .kpInstrEi _ _ => true
  | .kpInstrDi _ _ => true
  | .kpInstrTime _ _ _ _ _ => true
  | .kpInterrupt _ => true
  | .kpTimerExpire _ => true
  | .kpWatchdog _ => true
  | .kpInboxParcel _ x => parcelOk x
  | .kpMboxInPost _ _ _ => true
  | .kpMboxOutClear _ _ _ => true
  | .kpWindowAccess _ _ _ _ => true
  | .kpReset _ _ _ => true
  | .kpRun _ _ _ => true
  | .kpHalt _ _ _ => true
  | .kpIllegalInstruction _ _ => true
  | .dmaGo _ _ _ => true
  | .dmaDescFetch _ b => b.length == 64
  | .dmaBurst _ => true
  | .dmaBeatComplete _ got => decide (got.data.length ≤ 64)
  | .dmaComplete _ => true
  | .dmaDisable _ _ _ => true
  | .dmaExitParcel _ x => parcelOk x
  | .dmaRingPartnerWrite _ _ _ => true
  | .dmaCqTailWrite _ _ _ => true
  | .dmaQuiesceTimeout => true
  | .dmaResume => true
  | .strmFlowParcel _ _ x => parcelOk x
  | .strmFlowEnable _ _ _ _ => true
  | .strmContextTimer _ _ => true
  | .strmRegionCapture _ _ => true
  | .strmArpRequest _ _ _ _ => true
  | .strmNeighborSolicit _ _ _ _ => true
  | .strmRxOther _ _ => true
  | .strmLinkChange _ _ => true
  | .dispCommit _ _ => true
  | .dispVblank => true
  | .dispComposeLine _ _ _ _ => true
  | .dispClockSettled => true
  | .dispLinkTrained _ _ => true
  | .dispTrainFail => true
  | .dispHpdUnplug _ => true
  | .dispHpdPlug _ => true
  | .dispIrqHpd _ _ => true
  | .dispAuxGo _ _ => true
  | .dispAuxDone _ _ => true
  | .layerReleased _ => true
  | .layerFault _ => true
  | .tiuTimeArm _ _ => true
  | .evEdge _ _ tick _ => decide (tick < 2 ^ 64)
  | .evStuck _ => true
  | .tiuEvFifoPop _ _ _ => true
  | .tiuCdcGo _ _ => true
  | .tiuCdcDone hits => hits.length == 64
  | .tiuFinGate _ => true
  | .tiuStatGo _ _ _ => true
  | .tiuStatDone _ => true
  | .finEdge _ tick _ _ => decide (tick < 2 ^ 64)
  | .fcdCodeWrite _ _ _ => true
  | .fcdPwmPeriod _ => true
  | .clrdacFall => true
  | .clrdacRelease => true
  | .fcdDriveEnable _ _ => true
  | .fcdPredriveDone _ => true
  | .fcdDriveDisable _ _ => true
  | .vhkReturn => true
  | .fcdRangeWrite _ _ _ => true
  | .fcdRangeSettled _ => true
  | .hkStart _ _ => true
  | .hkStop _ _ => true
  | .hkConversion _ _ => true
  | .hkScanDone => true
  | .calGo _ _ => true
  | .calNext _ _ => true
  | .calPassDone readings _ _ => readings.all fun e => decide (e.1 < 4096)
  | .calGroupTimeout => true
  | .calAbort _ _ => true
  | .calCommit _ _ => true
  | .calCommitDone _ => true
  | .calStaleCheck _ => true
  | .calStGo _ _ => true
  | .calStDone _ _ => true
  | .ensTokenRx _ bytes _ => bytes.length == 48
  | .ensHeartbeat => true
  | .ensRingLoss _ _ _ => true
  | .ensFprint => true
  | .ensTokenArm _ _ => true
  | .ensTokenDisarm _ _ => true
  | .ensTokenApply => true
  | .ensTokenReturn _ => true
  | .ensSync _ _ => true
  | .ensSyncAbort => true
  | .ensStateApply => true
  | .ensRingBlockLock _ => true
  | .wearRepairGo _ _ _ => true
  | .startupRepairDone => true
  | .laneSpareSwap _ => true
  | .steerSweepStart => true
  | .steerSweepDone => true
  | .ledgerWrite _ => true
  | .scrub _ => true
  | .d2dLaneLockLoss _ => true
  | .railUndervoltage _ => true
  | .railRestored => true
  | .railLowAlert _ => true
  | .thermRead temps => temps.length == 32
  | .porstAssert => true
  | .porstRelease _ _ => true
  | .sysrstAssert => true
  | .sysrstRelease => true
  | .glbRstSys _ _ => true
  | .memTrainDone chans => chans.length == 8
  | .memInitDone => true
  | .startDone => true
  | .avsTransaction _ _ _ => true
  | .avsStatusPoll _ => true
  | .avsManWrite _ _ => true
  | .utilityPllFirstLock _ => true
  | .startupStoreReadDone => true
  | .pwrReq _ _ => true
  | .pwrReqWaitStart => true
  | .pwrEnterIdle => true
  | .pwrEnterSleep => true
  | .pwrEnterDeep => true
  | .pwrEnterOff => true
  | .pwrExitIdle => true
  | .pwrExitSleep _ _ _ => true
  | .pwrExitDeep _ => true
  | .pwrTransitionDone => true
  | .wakeNFall => true
  | .mgmtTransaction write _ => match write with
    | none => true
    | some b => decide (b.length ≤ 255)
  | .pwrTimerExpire => true
  | .ensWake => true
  | .aerUncorrectableError _ => true

end Sys2Proof
end

