-- ==== Sys2Proof/Safety.lean ====
section
/-! DEFINITION. What counts as a sound state and a sound run, in the terms that the statements use. -/

namespace Sys2Proof.Machine

/-! ### Register words and fields -/

/-- The register of a field takes in the word at a BAR0 offset: one word, or two where it is 64 bits wide (R10). -/
def Loc.covers (l : Loc) (a : Nat) : Prop := a = l.addr ∨ 32 < l.lo + l.width ∧ a = l.addr + 4

/-- Two fields lie in words of their own. -/
def State.wordsApart (l m : Loc) : Prop :=
  m.addr ≠ l.addr ∧ (m.addr ≠ l.addr + 4 ∨ l.lo + l.width ≤ 32) ∧ (l.addr ≠ m.addr + 4 ∨ m.lo + m.width ≤ 32)

/-- Two fields share no bit: they lie in words of their own, or beside each other in one word. -/
def Loc.apart (l m : Loc) : Prop :=
  State.wordsApart l m ∨ m.addr = l.addr ∧ m.rst = l.rst ∧ l.lo + l.width ≤ 32 ∧ m.lo + m.width ≤ 32 ∧
    (m.lo + m.width ≤ l.lo ∨ l.lo + l.width ≤ m.lo)

/-- The word belongs to the event registers of a port: pending bits, routes, counts and gaps (R68). The copies of CP_B
stand at offset + 0x4000000. -/
def eventWord (a : Nat) : Prop := 0x30000 ≤ a % 0x4000000 ∧ a % 0x4000000 < 0x40000

/-- Every register word of `t` outside `P` is the word of `s`. -/
def State.wordsBut (s t : State) (P : Nat → Prop) : Prop := ∀ (d : Word) (a : Nat), ¬ P a → Tab.get d t.regs a = Tab.get d s.regs a

/-- Every register word of `t` outside the registers of the fields in `ls` is the word of `s`. -/
def State.onlyFields (s t : State) (ls : List Loc) : Prop := s.wordsBut t fun a => ∃ l ∈ ls, l.covers a

/-- Every register word of `t` outside the registers of the fields in `ls`, and outside the event registers, is the word
of `s`. -/
def State.onlyFieldsEvents (s t : State) (ls : List Loc) : Prop := s.wordsBut t fun a => eventWord a ∨ ∃ l ∈ ls, l.covers a

/-- Event `n` has been counted once for every port whose event state is not in reset, where its unit is there (R3, R69, R73). -/
def State.raised (s : State) (n : Nat) (t : State) : Prop :=
  ∀ p : Port, (s.port p).evtReset = false → s.eventAbsent n = false → t.f (EVT_CNT.count p.idx n) = min 65535 (s.f (EVT_CNT.count p.idx n) + 1)

/-- Where the refused writes of a port are counted, and where the offset of the last one is kept (R65). -/
def refusedCount : Port → Loc
  | .a => SEM_REFUSED_0.reg
  | .b => SEM_REFUSED_1.reg
def lastRefused : Port → Loc
  | .a => SEM_LAST_REFUSED_0.reg
  | .b => SEM_LAST_REFUSED_1.reg

/-- A write of port `p` at an offset has been refused: it is counted for the port, its offset is kept, event 8 or 9 is raised, and
no other register word and no semaphore changes (R60). -/
def State.refusedFor (s : State) (p : Port) (off : Nat) (t : State) : Prop :=
  t.f (refusedCount p) = min (2 ^ 32 - 1) (s.f (refusedCount p) + 1) ∧ t.f (lastRefused p) = off ∧ s.raised (8 + p.idx) t ∧
    t.sem = s.sem ∧ s.onlyFieldsEvents t [refusedCount p, lastRefused p]

/-- The registers whose running bits show whether a path's units deliver (R29, R258, R286, R295, R322). -/
def runStatus (p : Nat) : List Loc :=
  ((List.range 8).flatMap fun i => [ZM_STATUS.reg p i, XF_STATUS.reg p i, DET_STATUS.reg p i]) ++
    [CHZ_STATUS.reg p, SK_STATUS.reg p, TRN_STATUS.reg p, KAL_STATUS.reg 0, KAL_STATUS.reg 1]

/-- The status registers that follow a region: its own, and that of the record region whose lease it took (R364, R379). -/
def State.statusOf (s : State) (r : Nat) : List Loc :=
  CAP_REGION_STATUS.reg r :: (s.region r).recLease.toList.map CAP_REGION_STATUS.reg

/-- The record of the capture that a region flow sends next, and its place, where the record region still holds it (R446). -/
def State.nextRecord (s : State) (sp fl : Nat) : Option (Nat × List Byte) :=
  let r := s.f (STRM_FLOW_CTL.sel sp fl)
  let q := s.f (CAP_REGION_SRC.rec_region r)
  let w := s.f (CAP_REGION_WRITTEN.reg q)
  s.findRecord q r (s.f (STRM_FLOW_AT.reg sp fl)) (min w (s.regionSize q) / 128) w

/-- A write of port `p` to a register that a semaphore guards, or none, reaches its register (R2, R8, R13, R60). -/
def State.accepts (s : State) (p : Port) (off : Nat) (sem : Option Nat) : Prop :=
  s.reachable off = true ∧ ∀ n, sem = some n → s.holder n = some (.cp p)

/-! ### The String link -/

/-- A token that is sound reaches the engine on a ring that has block lock (R525, R526). -/
def State.hears (s : State) (ring : Fin 2) (b : List Byte) (x : EnsToken) : Prop :=
  EnsToken.ofBytes b = some x ∧ s.flag (State.ringUp ring) = true

/-- The last thing that left the engine is a token on a ring, with given ack bits (R524, R531). -/
def State.forwarded (t : State) (ring : Fin 2) (x : EnsToken) (ack : Nat) : Prop :=
  t.out.head? = some (.ringToken ring.val (EnsToken.bytes { x with ack := ack }))

/-! ### The error log -/

/-- The registers that an entry of the error log and the marks that go with it change, but the events: the counts, the eight words
of the next entry, and the count of marked units (R541, R555). -/
def State.logOf (s : State) : List Loc :=
  CHK_CORR.reg :: CHK_HEAD.reg :: WEAR_STATUS.reg :: (List.range 8).map (CHK_LOG.word (s.f CHK_HEAD.reg % 256))

/-! ### Kernel processors -/

/-- Processor `n` executes, and the word at its program counter is of one of some classes with the fields that R395 places; a
repeat is in progress only where the instruction can be repeated (R382, R392). -/
def State.kpRuns (s : State) (n : Nat) (classes : List Nat) (fields : List (Nat × Nat × Nat)) (rep : Bool) : Prop :=
  s.kpExecutes n = true ∧ s.kpSpelled n classes fields = true ∧ (rep = true ∨ (s.kpOf n).rc = 0)

/-- Where the program counter stands after an instruction of `len` words that neither jumps nor faults: at the instruction
itself while a repeat goes on, else after it, or at the start of a loop that goes round (R392, R395). -/
def State.kpNextPc (s : State) (n len : Nat) : Nat :=
  if 1 < (s.kpOf n).rc.toNat then s.kpPc n else (State.loopEnd (s.kpPc n) ((s.kpPc n + len) % 8192) (s.kpOf n).loops).2

/-- Processor `n` has faulted with a code of R406: its cause and program counter are kept, it has stopped, event 641 + 3n is
raised, and no register word outside its own changes. -/
def State.kpFaults (s : State) (n code : Nat) (t : State) : Prop :=
  t.f (KP_FAULT.cause n) = code ∧ t.f (KP_FAULT.pc n) = s.kpPc n ∧ t.flag (KP_STATUS.faulted n) = true ∧
    t.flag (KP_STATUS.running n) = false ∧ s.raised (641 + 3 * n) t ∧
    s.onlyFieldsEvents t [KP_FAULT.reg n, KP_STATUS.reg n, KP_CTL.reg n]

/-! ### Sound states -/

/-- Every command that waits is well formed. -/
def State.queueOk (s : State) : Bool := s.pending.all Instr.wf

/-- Memories and register files are in their canonical form: keys strictly rising, and no entry equal to what an unlisted
key reads as. -/
def State.tabsOk (s : State) : Bool :=
  s.regs.rising && s.act.rising && s.sem.holder.wf none && s.sem.tieLoser.wf none && s.mirror.words.wf 0 && s.sdram.wf 0

/-- The engine itself holds no semaphore but SEM_1 and SEM_5 (R58). -/
def State.engineHolds (s : State) : Prop := ∀ n, s.holder n = some .engine → n = 1 ∨ n = 5

/-- Fuses of `s` that have blown are blown in `t` (R110, R112): an enrolled slot stays enrolled with its key hash, a revoked slot
stays revoked, and the least accepted security version does not fall. -/
def State.fusesKept (s t : State) : Prop :=
  s.fuse.svnMin ≤ t.fuse.svnMin ∧ (∀ k, bit s.fuse.revoked k = true → bit t.fuse.revoked k = true) ∧
    ∀ k, bit s.fuse.enrolled k = true → bit t.fuse.enrolled k = true ∧ t.fuse.hash.get [] k = s.fuse.hash.get [] k

/-- A fuse operation would lose nothing that has blown: an enrol names a slot that is not enrolled, and an operation that is
neither an enrol nor a revoke raises the least accepted security version (R112). -/
def State.fuseAdds (s : State) (q : FuseOp) : Prop :=
  (q.op = 1 → bit s.fuse.enrolled q.arg = false) ∧ (q.op ≠ 1 → q.op ≠ 2 → s.fuse.svnMin < q.arg)

/-- The fuse operation that runs, and the one that was cut short, would lose nothing (R112, R624). -/
def State.fuseSound (s : State) : Prop :=
  (∀ q, s.fuse.running = some q → s.fuseAdds q) ∧ ∀ q, s.fuse.incomplete = some q → s.fuseAdds q

end Sys2Proof.Machine

namespace Sys2Proof

/-! ### What commands write -/

/-- The commands that may write capture memory. -/
def Instr.mayWriteMemory : Instr → Bool
  | .regWrite .. | .reg64HighWrite .. | .reg64LowWrite .. | .bar4Access .. | .kalSpectrum .. | .capFormatUnit ..
  | .capCaptureEnd .. | .capAllocCreate .. | .capAllocResize .. | .capAllocFree .. | .dmaBeatComplete ..
  | .railUndervoltage .. | .porstAssert .. | .memInitDone .. | .pwrEnterDeep .. | .pwrEnterOff .. => true
  | _ => false

/-- The commands that may start, end or cut a fuse operation. -/
def Instr.mayWorkFuses : Instr → Bool
  | .regWrite .. | .reg64HighWrite .. | .reg64LowWrite .. | .keyEnrol .. | .keyRevoke .. | .keySetSvn ..
  | .keyFuseDone .. | .railUndervoltage .. | .porstAssert .. => true
  | _ => false

/-- The commands that may change which power domains are on. -/
def Instr.mayMovePower : Instr → Bool
  | .regWrite .. | .reg64HighWrite .. | .reg64LowWrite .. | .keyFuseDone .. | .railUndervoltage .. | .railRestored ..
  | .thermRead .. | .porstAssert .. | .porstRelease .. | .sysrstAssert .. | .sysrstRelease .. | .glbRstSys ..
  | .memTrainDone .. | .memInitDone .. | .pwrEnterSleep .. | .pwrEnterDeep .. | .pwrEnterOff .. | .pwrExitSleep ..
  | .pwrExitDeep .. | .wakeNFall .. | .utilityPllFirstLock .. => true
  | _ => false

/-- The commands that may change the engine-time counter or its clock. -/
def Instr.mayMoveTime : Instr → Bool
  | .regWrite .. | .reg64HighWrite .. | .reg64LowWrite .. | .keyFuseDone .. | .ppsEdge .. | .calPassDone ..
  | .ensTokenRx .. | .railUndervoltage .. | .railRestored .. | .thermRead .. | .porstAssert .. | .sysrstAssert ..
  | .sysrstRelease .. | .glbRstSys .. | .pwrEnterSleep .. | .pwrEnterDeep .. | .pwrEnterOff .. | .pwrExitSleep ..
  | .pwrExitDeep .. | .utilityPllFirstLock .. => true
  | _ => false

end Sys2Proof
end

