-- ==== Sys2Proof/Certificates/Slice0/Obligations.lean ====
section
/-! DEFINITION. The statements about the model that are to be proved: what a step is, what every command keeps, and, family by
family, what each command does. -/

open Sys2Proof Sys2Proof.Machine

/-! ### Register accesses of a Control Port -/

/-- R7, R8: a word write that reaches a register with no row of its own sets its RW bits, clears the W1C bits that are written 1,
and clears a counter that any write clears; the registers named here stand for the three kinds. No other word changes. A write
whose offset is not a multiple of 4 is aborted and changes nothing (R9). R9: an access to BAR0 of another width or alignment
is completed with a completer abort and changes nothing. R13, R42: while the domain of a register is off or in retention, a
read of it gives 0, a write to it is dropped, nothing is latched, no event is raised, and what it holds stays. -/
def Obligations.RegisterWritesActOrAbort : Prop :=
  (∀ (s : State) (p : Port) (k : Fin 256) (v : Word), s.accepts p (PWR_SCRATCH.reg k).addr none →
    ∃ t, exec (.regWrite p (PWR_SCRATCH.reg k).addr v) s = .next t ∧ t.bus = .ok ∧ t.f (PWR_SCRATCH.reg k) = v.toNat ∧
      s.onlyFields t [PWR_SCRATCH.reg k]) ∧
  (∀ (s : State) (p : Port) (w : Fin 8) (v : Word), s.accepts p (SEM_LOST.reg w).addr none →
    ∃ t, exec (.regWrite p (SEM_LOST.reg w).addr v) s = .next t ∧ t.bus = .ok ∧
      t.f (SEM_LOST.reg w) = (BitVec.ofNat 32 (s.f (SEM_LOST.reg w)) &&& ~~~v).toNat ∧ s.onlyFields t [SEM_LOST.reg w]) ∧
  (∀ (s : State) (p : Port) (v : Word), s.accepts p SEM_REFUSED_0.reg.addr none →
    ∃ t, exec (.regWrite p SEM_REFUSED_0.reg.addr v) s = .next t ∧ t.bus = .ok ∧ t.f SEM_REFUSED_0.reg = 0 ∧
      s.onlyFields t [SEM_REFUSED_0.reg]) ∧
  (∀ (s : State) (p : Port) (off : Nat) (v : Word), off % 4 ≠ 0 →
    exec (.regWrite p off v) s = .next { s with bus := .abort }) ∧
  (∀ (s : State) (p : Port) (off len : Nat), ¬ (len = 4 ∧ off % 4 = 0) → ¬ (len = 8 ∧ off % 8 = 0 ∧ State.inMsix off = true) →
    exec (.bar0BadAccess p off len) s = .next { s with bus := .abort }) ∧
  (∀ (s : State) (p : Port) (off : Nat) (d : Domain) (v : Word), State.domainOf off = some d → s.domSt d ≠ .on →
    s.hubRead p off = 0 ∧
    (off % 4 = 0 → exec (.regWrite p off v) s = .next { s with bus := .ok }) ∧
    ((State.halfRow off .low).isSome = true →
      exec (.reg64LowRead p off) s = .next { s with bus := .words [0] } ∧
      exec (.reg64LowWrite p off v) s = .next { s with bus := .ok }) ∧
    ((State.halfRow off .high).isSome = true →
      exec (.reg64HighRead p off) s = .next { s with bus := .words [0] } ∧
      exec (.reg64HighWrite p off v) s = .next { s with bus := .ok }))

/-- R10, R11: a read of the low word of a 64-bit register latches the high word into the port's snapshot; a read of the high
word gives the latched word, whatever the register holds by then, and uses the snapshot up. No register word changes. A write of the high word only waits, and a write of the low word applies
both halves together; IMG_SRC stands for the 64-bit registers here. -/
def Obligations.WideRegistersReadAndWrittenWhole : Prop :=
  (∀ (s : State) (p : Port) (off : Nat), (State.halfRow off .low).isSome = true → s.reachable off = true →
    ∃ t, exec (.reg64LowRead p off) s = .next t ∧ t.bus = .words [s.hubRead p off] ∧
      (t.port p).snap = some (off, s.hubRead p (off + 4)) ∧ t.regs = s.regs) ∧
  (∀ (s : State) (p : Port) (off : Nat) (w : Word), (State.halfRow (off + 4) .high).isSome = true →
    s.reachable (off + 4) = true → (s.port p).snap = some (off, w) →
    ∃ t, exec (.reg64HighRead p (off + 4)) s = .next t ∧ t.bus = .words [w] ∧ (t.port p).snap = none ∧ t.regs = s.regs) ∧
  (∀ (s : State) (p : Port) (v : Word), s.accepts p (IMG_SRC.reg.addr + 4) (some 1) →
    ∃ t, exec (.reg64HighWrite p (IMG_SRC.reg.addr + 4) v) s = .next t ∧ t.bus = .ok ∧
      (t.port p).pendHi = some (IMG_SRC.reg.addr, v) ∧ t.regs = s.regs) ∧
  (∀ (s : State) (p : Port) (lo hi : Word), s.accepts p IMG_SRC.reg.addr (some 1) →
    (s.port p).pendHi = some (IMG_SRC.reg.addr, hi) →
    ∃ t, exec (.reg64LowWrite p IMG_SRC.reg.addr lo) s = .next t ∧ t.bus = .ok ∧ (t.port p).pendHi = none ∧
      t.f IMG_SRC.reg = lo.toNat + 2 ^ 32 * hi.toNat ∧ s.onlyFields t [IMG_SRC.reg]) ∧
  (∀ (s : State) (p : Port) (lo : Word), s.accepts p IMG_SRC.reg.addr (some 1) →
    (s.port p).pendHi = none →
    ∃ t, exec (.reg64LowWrite p IMG_SRC.reg.addr lo) s = .next t ∧ t.bus = .ok ∧
      t.f IMG_SRC.reg = lo.toNat + 2 ^ 32 * (s.f IMG_SRC.reg / 2 ^ 32) ∧ s.onlyFields t [IMG_SRC.reg])

/-- R40, R48, R68, R79: a naturally aligned 64-bit access to the MSI-X structures reads two words, or writes two words of the
port's own table, and any other such access is aborted; a BAR2 request is accepted or aborted as a whole, a read gives its
words. A read of a high word for which the port
holds no snapshot gives the word as it stands: no rule says so, it is the model's reading (log entry 11). -/
def Obligations.WideAndBar2AccessesActAsAWhole : Prop :=
  (∀ (s : State) (p : Port) (off : Nat), off % 8 = 0 → State.inMsix off = true →
    exec (.msix64Access p off none) s = .next { s with bus := .words [s.hubRead p off, s.hubRead p (off + 4)] }) ∧
  (∀ (s : State) (p : Port) (k : Fin 2048) (lo hi : Word), s.up .host = true →
    ∃ t, exec (.msix64Access p (0x38000 + 16 * k.val + 8) (some (lo, hi))) s = .next t ∧ t.bus = .ok ∧
      t.msixWord p (4 * k.val + 2) = lo ∧ t.msixWord p (4 * k.val + 3) = hi &&& 1 ∧
      t.regs = s.regs ∧ (∀ q, q ≠ p → t.port q = s.port q)) ∧
  (∀ (s : State) (p : Port) (off : Nat) (w : Option (Word × Word)), off % 8 ≠ 0 ∨ State.inMsix off = false →
    exec (.msix64Access p off w) s = .next { s with bus := .abort }) ∧
  (∀ (s : State) (p : Port) (off n : Nat), off % 4 = 0 → n ≠ 0 →
    exec (.bar2Request p (.read off (4 * n))) s =
      .next { s with bus := .words ((List.range n).map fun i => s.bar2Read (off + 4 * i)) }) ∧
  (∀ (s : State) (p : Port) (off len : Nat), off % 4 ≠ 0 ∨ len % 4 ≠ 0 ∨ len = 0 →
    exec (.bar2Request p (.read off len)) s = .next { s with bus := .abort }) ∧
  (∀ (s : State) (p : Port) (off : Nat) (bs : List (Option Byte)), off % 4 ≠ 0 ∨ bs.length % 4 ≠ 0 ∨ bs = [] ∨ none ∈ bs →
    exec (.bar2Request p (.write off bs)) s = .next { s with bus := .abort }) ∧
  (∀ (s : State) (p : Port) (off : Nat), (State.halfRow off .high).isSome = true → s.reachable off = true →
    (s.port p).snap = none → exec (.reg64HighRead p off) s = .next { s with bus := .words [s.hubRead p off] })

/-- R41, R376, R377: bytes of a BAR4 access lie from the port's window on. A read gives the bytes of capture memory, 0 beyond
the used capacity; a write stores each enabled byte that lies in the used capacity and in no region that is being written,
and leaves every other byte of capture memory alone. -/
def Obligations.Bar4ReadsAndWritesThroughTheWindow : Prop :=
  (∀ (s : State) (p : Port) (off len : Nat), s.up .host = true → s.up .memory = true →
    ∃ t, exec (.bar4Access p (.read off len) .sound 0) s = .next t ∧
      t.bus = .bytes ((List.range len).map fun i => s.bar4Byte (s.winBase p + off + i)) ∧ t.sdram = s.sdram) ∧
  (∀ (s : State) (p : Port) (off : Nat) (b : Byte) (ecc : Ecc) (k : Nat), s.up .host = true →
    s.up .memory = true → s.bar4Takes (s.winBase p + off) = true →
    ∃ t, exec (.bar4Access p (.write off [some b]) ecc k) s = .next t ∧ t.bus = .ok ∧
      t.sdram.get 0 (s.winBase p + off) = b) ∧
  (∀ (s t : State) (p : Port) (off : Nat) (bs : List (Option Byte)) (ecc : Ecc) (k : Nat),
    exec (.bar4Access p (.write off bs) ecc k) s = .next t → ∀ a,
      ¬ (∃ i, bs[i]?.join.isSome = true ∧ a = s.winBase p + off + i ∧ a < s.memCapacity ∧ s.writtenRegion a = false) →
      t.sdram.get 0 a = s.sdram.get 0 a)

/-! ### Links, semaphores and events -/

/-- R53, R67: a link that enters DL_Active shows its width and its rate through both ports, ends the reset of its port's event
state, and raises event 16 or 17; no other register changes. R52, R62, R67, R73: each of the three conditions resets the
port's own state (its configuration space, its registers of the event block and of the BAR4 window, its snapshot and pending
high word, its marked vectors and its MSI-X table) and schedules one more release of its semaphores; the other port's own state
stays. A link that was up goes down at PERST, and the other port counts event 16 or 17; a Function Level Reset leaves the link
up, and its port's event state leaves reset again. R46, R51, R570: a write of BAR0 in the port's configuration space keeps the
address bits below 64 MiB at 0, one of the power state places the port in D3hot or D0 and moves no power domain, no semaphore
and no register, and while the engine holds its configuration back every request is answered with a retry and changes nothing.
(The model numbers a configuration space from `cfgBase` on, among the offsets of REG_WRITE: log entry 71.) -/
def Obligations.LinksAndPortConditionsAct : Prop :=
  (∀ (s : State) (p : Port) (w r : Fin 16), s.up .host = true → (s.port p).dlActive = false →
    ∃ t, exec (.portLinkUp p w r) s = .next t ∧ (t.port p).dlActive = true ∧ (t.port p).evtReset = false ∧
      (∀ q : Fin 2, (p = .a → t.f (GLB_PORT.a_width q) = w.val ∧ t.f (GLB_PORT.a_rate q) = r.val) ∧
        (p = .b → t.f (GLB_PORT.b_width q) = w.val ∧ t.f (GLB_PORT.b_rate q) = r.val)) ∧
      t.f (EVT_CNT.count p.idx (16 + p.idx)) = min 65535 (s.f (EVT_CNT.count p.idx (16 + p.idx)) + 1) ∧
      s.onlyFieldsEvents t [GLB_PORT.reg 0, GLB_PORT.reg 1]) ∧
  (∀ (s : State) (p : Port), (s.port p).dlActive = true → ∀ c, c = .portLinkDown p ∨ c = .perstAssert p →
    ∃ t, exec c s = .next t ∧ t.port p = { PortSt.reset with lostPending := (s.port p).lostPending + 1 } ∧
      (∀ (d : Word) (a : Nat), State.ownOffset p a = true → Tab.get d t.regs a = d)) ∧
  (∀ (s : State) (p : Port), (s.port p).dlActive = true → (s.port p.other).evtReset = false →
    s.load.stage = .idle → s.cal.program = none → ∀ c, c = .portLinkDown p ∨ c = .perstAssert p →
    ∃ t, exec c s = .next t ∧
      t.f (EVT_CNT.count p.other.idx (16 + p.idx)) = min 65535 (s.f (EVT_CNT.count p.other.idx (16 + p.idx)) + 1) ∧
      (∀ q : Fin 2, (p = .a → t.f (GLB_PORT.a_width q) = 0 ∧ t.f (GLB_PORT.a_rate q) = 0) ∧
        (p = .b → t.f (GLB_PORT.b_width q) = 0 ∧ t.f (GLB_PORT.b_rate q) = 0)) ∧
      s.wordsBut t fun a => State.ownOffset p a = true ∨ eventWord a ∨ (GLB_PORT.reg 0).covers a ∨ (GLB_PORT.reg 1).covers a) ∧
  (∀ (s : State) (p : Port), (s.port p).dlActive = false →
    ∃ t, exec (.perstAssert p) s = .next t ∧ t.port p = { PortSt.reset with lostPending := (s.port p).lostPending + 1 } ∧
      (∀ (d : Word) (a : Nat), State.ownOffset p a = true → Tab.get d t.regs a = d)) ∧
  (∀ (s : State) (p : Port), (s.port p).dlActive = true →
    ∃ t, exec (.functionLevelReset p) s = .next t ∧
      t.port p = { PortSt.reset with dlActive := true, lostPending := (s.port p).lostPending + 1, evtReset := false } ∧
      (∀ (d : Word) (a : Nat), State.ownOffset p a = true → Tab.get d t.regs a = d)) ∧
  (∀ (s : State) (p : Port) (v : Word), (s.port p).dlActive = true → s.start.retry = false →
    (∃ t, exec (.regWrite p (cfgBase + 0x10) v) s = .next t ∧ t.bus = .ok ∧
      t.cfgWord p 0x10 = v.toNat / 2 ^ 26 * 2 ^ 26 + 4 ∧ t.port p.other = s.port p.other ∧ t.regs = s.regs) ∧
    (∃ t, exec (.regWrite p (cfgBase + 0x44) v) s = .next t ∧ t.bus = .ok ∧
      (v.toNat % 4 = 3 → (t.port p).cfg.d3hot = true) ∧ (v.toNat % 4 = 0 → (t.port p).cfg.d3hot = false) ∧
      t.port p.other = s.port p.other ∧ t.dom = s.dom ∧ t.sem = s.sem ∧ t.regs = s.regs)) ∧
  (∀ (s : State) (p : Port) (o : Nat) (v : Word), o % 4 = 0 → (s.port p).dlActive = true → s.start.retry = true →
    exec (.regWrite p (cfgBase + o) v) s = .next { s with bus := .retry })

/-- R54, R55, R65: a read of SEM_n takes it where it is free and gives 1; where the port itself holds it, it gives 1, and else the
holder's owner code. Two reads in one hub cycle go to the loser of the last tie, CP_A at first, who then is the winner.
SEM_PEEK gives the owner code, or 0, and takes nothing. No register changes, and no other semaphore. (That two reads come in
one hub cycle is an operand of the command: log entry 65.) R62, R63: at step 2 every semaphore that the port holds becomes
free and has its bit of SEM_LOST set, SEM_LOST_INFO gives cause 1 and the port, event 10 is raised, and MP_CTL.fast_en is
cleared where SEM_3 is among them; other holders keep theirs. A port that holds none releases nothing, and nothing is
recorded. Each condition of R52 has a step 2 of its own. -/
def Obligations.SemaphoresAreTakenPeekedAndLost : Prop :=
  (∀ (s : State) (p : Port) (n : Fin 256), s.up .host = true → s.holder n = none →
    ∃ t, exec (.semAcquire n (.one p)) s = .next t ∧ t.bus = .words [1] ∧ t.holder n = some (.cp p) ∧
      (∀ m, m ≠ n.val → t.holder m = s.holder m) ∧ t.regs = s.regs) ∧
  (∀ (s : State) (p : Port) (n : Fin 256) (h : Holder), s.up .host = true → s.holder n = some h →
    exec (.semAcquire n (.one p)) s = .next { s with bus := .words [if h = .cp p then 1 else State.ownerCode h] }) ∧
  (∀ (s : State) (n : Fin 256) (w : Port), s.up .host = true → s.holder n = none →
    (w = if s.sem.tieLoser.get none n = some .b then .b else .a) →
    ∃ t, exec (.semAcquire n .both) s = .next t ∧
      t.bus = .words (if w = .a then [1, 0x5E00000A] else [0x5E00000B, 1]) ∧ t.holder n = some (.cp w) ∧
      t.sem.tieLoser.get none n = some w.other ∧ (∀ m, m ≠ n.val → t.holder m = s.holder m) ∧ t.regs = s.regs) ∧
  (∀ (s : State) (p : Port) (n : Fin 256), s.up .host = true →
    exec (.semPeek p n) s = .next { s with bus := .words [((s.holder n).map State.ownerCode).getD 0] }) ∧
  (∀ (s : State) (p : Port), 0 < (s.port p).lostPending →
    (∃ m, m < 256 ∧ s.holder m = some (.cp p)) →
    ∃ t, exec (.semHolderRelease p) s = .next t ∧ (t.port p).lostPending = (s.port p).lostPending - 1 ∧
      (∀ n : Fin 256, s.holder n = some (.cp p) →
        t.holder n = none ∧ bit (t.f (SEM_LOST.reg (n.val / 32))) (n.val % 32) = true) ∧
      (∀ n : Fin 256, s.holder n ≠ some (.cp p) → t.holder n = s.holder n) ∧
      t.f SEM_LOST_INFO.reg = 1 + 256 * (p.idx + 1) ∧ s.raised 10 t ∧
      (s.holder 3 = some (.cp p) → t.f MP_CTL.fast_en = 0)) ∧
  (∀ (s : State) (p : Port), 0 < (s.port p).lostPending → (∀ m, m < 256 → s.holder m ≠ some (.cp p)) →
    ∃ t, exec (.semHolderRelease p) s = .next t ∧ (t.port p).lostPending = (s.port p).lostPending - 1 ∧ t.sem = s.sem ∧ t.regs = s.regs)



/-- R44, R67, R69 to R71, R73: a marked vector sends the message of its MSI-X entry where nothing masks it and its interval is over, and
its mark and its pending bit clear; where it is masked it keeps its mark and its bit of the pending-bit array is set. A write
of 1 to a bit of EVT_PEND clears it in the port's own copy. An AER error is logged in the port's status register of its kind; an
uncorrectable one raises event 20 or 21, a correctable one changes no register of the engine. This event stands for all in R69: a
port that routes it and has it not pending gets its bit and the mark of its vector, one that does not route it or has it pending
only counts it, and (R73) one whose event state is in reset gets nothing. (The command brings the function's MSI-X enable and mask
as the host has written them: log entry 12.) -/
def Obligations.VectorsSendOrWait : Prop :=
  (∀ (s : State) (p : Port) (v : Fin 2048), s.up .host = true → (s.port p).dlActive = true →
    (s.port p).marks.get false v = true →
    (s.msixWord p (4 * v.val + 3)).getLsbD 0 = false → s.gapOver p v = true →
    ∃ t, exec (.vectorSignal p v true false) s = .next t ∧ t.out = s.vectorOut p v :: s.out ∧
      (t.port p).marks.get false v = false ∧ (t.port p).pba.get false v = false ∧ t.regs = s.regs) ∧
  (∀ (s : State) (p : Port) (v : Fin 2048) (en fm : Bool), s.up .host = true → (s.port p).dlActive = true →
    (s.port p).marks.get false v = true →
    ((s.msixWord p (4 * v.val + 3)).getLsbD 0 = true ∨ en = false ∨ fm = true) →
    ∃ t, exec (.vectorSignal p v en fm) s = .next t ∧ t.out = s.out ∧ (t.port p).marks.get false v = true ∧
      (t.port p).pba.get false v = true ∧ t.regs = s.regs) ∧
  (∀ (s : State) (p : Port) (w : Fin 64) (v : Word), s.up .host = true →
    ∃ t, exec (.evtPendClear p w v) s = .next t ∧ t.bus = .ok ∧
      t.f (EVT_PEND.reg p.idx w) = (BitVec.ofNat 32 (s.f (EVT_PEND.reg p.idx w)) &&& ~~~v).toNat ∧
      s.onlyFields t [EVT_PEND.reg p.idx w]) ∧
  (∀ (s : State) (p : Port) (b : Fin 32) (h : BitVec 128), s.up .host = true →
    ∃ t, exec (.aerUncorrectableError (.uncorrectable p b h)) s = .next t ∧ s.raised (20 + p.idx) t ∧
      (t.port p).cfg.uncStatus.getLsbD b = true ∧ s.onlyFieldsEvents t []) ∧
  (∀ (s : State) (p : Port) (b : Fin 32), s.up .host = true →
    ∃ t, exec (.aerUncorrectableError (.correctable p b)) s = .next t ∧ (t.port p).cfg.corStatus.getLsbD b = true ∧
      t.port p.other = s.port p.other ∧ t.regs = s.regs) ∧
  (∀ (s : State) (p q : Port) (b : Fin 32) (h : BitVec 128) (n : Nat), s.up .host = true → n = 20 + p.idx →
    (s.port q).evtReset = false →
    ∃ t, exec (.aerUncorrectableError (.uncorrectable p b h)) s = .next t ∧
      (s.flag (EVT_ROUTE.en q.idx n) = true → bit (s.f (EVT_PEND.reg q.idx 0)) n = false →
        t.f (EVT_PEND.reg q.idx 0) = s.f (EVT_PEND.reg q.idx 0) + 2 ^ n ∧
        (t.port q).marks = (s.port q).marks.put false (s.f (EVT_ROUTE.vector q.idx n)) true) ∧
      (s.flag (EVT_ROUTE.en q.idx n) = false ∨ bit (s.f (EVT_PEND.reg q.idx 0)) n = true →
        t.f (EVT_PEND.reg q.idx 0) = s.f (EVT_PEND.reg q.idx 0) ∧ (t.port q).marks = (s.port q).marks)) ∧
  (∀ (s : State) (p q : Port) (b : Fin 32) (h : BitVec 128), (s.port q).evtReset = true →
    ∃ t, exec (.aerUncorrectableError (.uncorrectable p b h)) s = .next t ∧ (t.port q).marks = (s.port q).marks ∧
      ∀ (d : Word) (n : Nat), n < 0x8000 →
        Tab.get d t.regs (0x30000 + n + 0x4000000 * q.idx) = Tab.get d s.regs (0x30000 + n + 0x4000000 * q.idx))

/-! ### The Mirror Port -/

/-- R77, R79, R80, R82: a Mirror Port read of a generation word gives it and latches its group; a read of another word of the
latched group gives the latched word; outside it a read gives the live word. No register changes. R75: the engine drives the
word from the edge on, and releases the bus at an idle edge. With the host block down it samples and drives nothing. A write
that no enabled class accepts is dropped, counted in MP_STATUS.refused, and raises event 12.
R78, R168: a group of the mirror whose figures have changed is updated whole when its interval is over, and not before: its
generation word goes up by one. No register changes, and no other group. -/
def Obligations.MirrorPortReadsRefusesAndGroupsUpdate : Prop :=
  (∀ (s : State) (a : BitVec 16), s.up .host = true → a.toNat < 0xFF00 → a.toNat % 16 = 0 →
    ∃ t, exec (.mpReadCycle (some a)) s = .next t ∧ t.bus = .words [s.mirrorWord a.toNat] ∧
      t.mirror.drive = some (s.mirrorWord a.toNat) ∧
      t.mirror.snap = some (a.toNat / 16, (List.range 16).map fun i => s.mirrorWord (a.toNat + i)) ∧ t.regs = s.regs) ∧
  (∀ (s : State) (a : BitVec 16) (ws : List Word), s.up .host = true → a.toNat < 0xFF00 → a.toNat % 16 ≠ 0 →
    s.mirror.snap = some (a.toNat / 16, ws) →
    ∃ t, exec (.mpReadCycle (some a)) s = .next t ∧ t.bus = .words [ws.getD (a.toNat % 16) 0] ∧
      t.mirror.snap = s.mirror.snap ∧ t.regs = s.regs) ∧
  (∀ (s : State) (a : BitVec 16), s.up .host = true → a.toNat % 16 ≠ 0 →
    (∀ g ws, s.mirror.snap = some (g, ws) → a.toNat / 16 ≠ g) →
    ∃ t, exec (.mpReadCycle (some a)) s = .next t ∧ t.bus = .words [s.mirrorWord a.toNat] ∧ t.regs = s.regs) ∧
  (∀ (s : State), s.up .host = true →
    ∃ t, exec (.mpReadCycle none) s = .next t ∧ t.mirror.drive = none ∧ t.mirror.snap = s.mirror.snap ∧ t.regs = s.regs) ∧
  (∀ (s : State), s.up .host = false → exec (.mpReadCycle none) s = .next s ∧
    ∀ a, exec (.mpReadCycle (some a)) s = .next { s with bus := .undriven }) ∧
  (∀ (s : State) (a : BitVec 16) (v : Word), s.up .host = true → s.fcAccepts a.toNat v.toNat = false →
    ∃ t, exec (.mpWriteRefused a v) s = .next t ∧ t.f MP_STATUS.refused = min 65535 (s.f MP_STATUS.refused + 1) ∧
      s.raised 12 t ∧ s.onlyFieldsEvents t [MP_STATUS.reg] ∧ t.trg = s.trg) ∧
  (∀ (s : State) (g : Fin 240), s.mirror.dirty.get false g = true →
    Tab.get 0 s.mirror.updated g.val + mirrorInterval g ≤ s.time.clk + 1 →
    (∀ e ∈ s.gatheredWords g, 1 ≤ e.1 ∧ e.1 < 16) →
    ∃ t, exec (.mirrorGatheredUpdate g) s = .next t ∧ t.mirror.dirty.get false g = false ∧
      t.mirror.words.get 0 (16 * g.val) = s.mirror.words.get 0 (16 * g.val) + 1 ∧
      (∀ a, ¬ (16 * g.val ≤ a ∧ a < 16 * g.val + 16) → t.mirror.words.get 0 a = s.mirror.words.get 0 a) ∧ t.regs = s.regs) ∧
  (∀ (s : State) (g : Fin 240), s.mirror.dirty.get false g = false ∨
    s.time.clk + 1 < Tab.get 0 s.mirror.updated g.val + mirrorInterval g → exec (.mirrorGatheredUpdate g) s = .next s)

/-- R82 to R86, R532: the fast controls, each in every form. Where fast controls and the class of the word are enabled, FC_FORCE
gives each condition of its mask an occurrence at the engine time of the write; FC_ARM and FC_DISARM set and clear the armed
bit of each condition of their mask that lies in no ensemble's scope, and leave that of every other condition, one in scope
being refused and counted; FC_FCD_CLEAR sets the fast clear cause of each output to its bit, an output whose PWM runs showing
the clear code at once where the cause starts and what it showed where the cause ends; FC_MARKER gives every path of its mask a
marker with its code and keeps both for reading back. Where they are not, or a marker word has a bit of 31:16, the write is
dropped, counted in MP_STATUS.refused, and raises event 12. With the host block down nothing is sampled. A write of MP_CTL
takes its five enables, and MP_STATUS shows fast_en. -/
def Obligations.FastControlsAct : Prop :=
  (∀ (s : State) (hi : Bool) (v : Word), s.up .host = true → s.flag MP_CTL.fast_en = true → s.flag MP_CTL.force_en = true →
    ∃ t, exec (.fcForce hi v) s = .next t ∧ t.regs = s.regs ∧
      t.trg.queue = s.trg.queue ++ (bitList 32 v.toNat).map fun c =>
        { cond := c + 32 * b2n hi, index := 0, frac := 0, tick := s.now.tick, phase := s.now.phase, flags := 0,
          inGap := false, by_ := .forced }) ∧
  (∀ (s : State) (hi on : Bool) (v : Word) (i : Instr), s.up .host = true → s.flag MP_CTL.fast_en = true →
    s.flag MP_CTL.arm_en = true → (i, on) ∈ [(.fcArm hi v, true), (.fcDisarm hi v, false)] →
    ∃ t, exec i s = .next t ∧
      (∀ c : Fin 32, bit v.toNat c = true → s.ensScoped ENS_SCOPE_COND.reg (c + 32 * b2n hi) = false →
        t.flag (TRG_COND.armed (c + 32 * b2n hi)) = on) ∧
      (∀ c : Fin 64, (c.val / 32 ≠ b2n hi ∨ bit v.toNat (c.val % 32) = false ∨ s.ensScoped ENS_SCOPE_COND.reg c = true) →
        t.f (TRG_COND.armed c) = s.f (TRG_COND.armed c)) ∧
      ((∃ c, c < 32 ∧ bit v.toNat c = true ∧ s.ensScoped ENS_SCOPE_COND.reg (c + 32 * b2n hi) = true) →
        min 65535 (s.f ENS_COUNTS.local_refused + 1) ≤ t.f ENS_COUNTS.local_refused) ∧
      s.onlyFieldsEvents t (ENS_COUNTS.reg :: (bitList 32 v.toNat).map fun c => TRG_COND.reg (c + 32 * b2n hi))) ∧
  (∀ (s : State) (v : Word), s.up .host = true → s.flag MP_CTL.fast_en = true →
    s.flag MP_CTL.fcd_en = true →
    ∃ t, exec (.fcFcdClear v) s = .next t ∧
      (∀ f : Fin 8, t.flag (FCD_STATUS.c_mirror f) = bit v.toNat f ∧
        t.f (FCD_STATUS.shown f) =
          if bit v.toNat f && !s.flag (FCD_STATUS.c_mirror f) && s.fcdRuns f then s.fcdClearCode f else s.f (FCD_STATUS.shown f)) ∧
      s.onlyFields t ((List.range 8).map FCD_STATUS.reg)) ∧
  (∀ (s : State) (v : Word), s.up .host = true → s.flag MP_CTL.fast_en = true → s.flag MP_CTL.marker_en = true →
    v.toNat < 65536 →
    ∃ t, exec (.fcMarker v) s = .next t ∧ t.regs = s.regs ∧
      t.mirrorWord 0xFF0C = BitVec.ofNat 32 (v.toNat % 16 + 256 * bits v.toNat 8 8) ∧
      ∀ n : Fin 4, t.conv n = if bit v.toNat n && s.pathPresent n then
        { s.conv n with markers := (s.conv n).markers ++ [(s.now, bits v.toNat 8 8)] } else s.conv n) ∧
  (∀ (s : State) (c : Instr) (a : Nat) (v : Word) (hi : Bool), s.up .host = true →
    (c, a) ∈ [(.fcForce hi v, 0xFF00 + b2n hi), (.fcArm hi v, 0xFF02 + b2n hi), (.fcDisarm hi v, 0xFF04 + b2n hi),
      (.fcFcdClear v, 0xFF08), (.fcMarker v, 0xFF0C)] → s.fcAccepts a v.toNat = false →
    ∃ t, exec c s = .next t ∧ t.f MP_STATUS.refused = min 65535 (s.f MP_STATUS.refused + 1) ∧ s.raised 12 t ∧
      t.trg = s.trg ∧ t.cnv = s.cnv ∧ t.fcd = s.fcd ∧ s.onlyFieldsEvents t [MP_STATUS.reg]) ∧
  (∀ (s : State) (hi : Bool) (v : Word), s.up .host = false → ∀ c,
    c ∈ [Instr.fcForce hi v, .fcArm hi v, .fcDisarm hi v, .fcFcdClear v, .fcMarker v] → exec c s = .next s) ∧
  (∀ (s : State) (p : Port) (v : Word), s.accepts p MP_CTL.reg.addr (some 3) →
    ∃ t, exec (.mpCtlWrite p v) s = .next t ∧ t.bus = .ok ∧ t.f MP_CTL.reg % 32 = v.toNat % 32 ∧
      t.f MP_STATUS.fast_en = v.toNat % 2 ∧ s.onlyFields t [MP_CTL.reg, MP_STATUS.reg]) ∧
  (∀ (s : State) (p : Port) (v : Word), s.reachable MP_CTL.reg.addr = true → s.holder 3 ≠ some (.cp p) →
    ∃ t, exec (.mpCtlWrite p v) s = .next t ∧ s.refusedFor p MP_CTL.reg.addr t)


/-! ### Structure images -/

/-- R37, R96, R104, R106: go starts a load where the engine is free: it latches the source, the length and the options, and
IMG_STATUS shows state 2, or, where the fetch fails, code 0x12 with event 25; while a load runs or waits it answers BUSY and
event 25, and that load is unchanged; during a repair or a power transition the load waits in state 1, it does not start before
the wait is over, and then it starts; an unload that waited goes to state 6. -/
def Obligations.ImageLoadsStartWaitOrAreBusy : Prop :=
  (∀ (s : State) (p : Port) (v : Word) (b : List Byte), s.accepts p IMG_CTL.reg.addr (some 1) →
    bits v.toNat 2 2 = 0 → s.load.stage = .idle → s.load.waiting = none → s.loadMustWait = false →
    s.headCheck (State.goReq p v.toNat) (s.f IMG_SRC.reg) (s.f IMG_LEN.reg) b = none →
    ∃ t, exec (.imgLoadGo p v (some b)) s = .next t ∧ t.bus = .ok ∧ t.load.stage = .fetch ∧
      t.load.addr = s.f IMG_SRC.reg ∧ t.load.len = s.f IMG_LEN.reg ∧ t.load.head = b ∧
      t.load.req = State.goReq p v.toNat ∧ t.f IMG_STATUS.state = 2 ∧ s.onlyFields t [IMG_CTL.reg, IMG_STATUS.reg]) ∧
  (∀ (s : State) (p : Port) (v : Word), s.accepts p IMG_CTL.reg.addr (some 1) →
    bits v.toNat 2 2 = 0 → s.load.stage = .idle → s.load.waiting = none → s.loadMustWait = false →
    ∃ t, exec (.imgLoadGo p v none) s = .next t ∧ t.load.stage = .idle ∧ t.f IMG_STATUS.state = 0 ∧
      t.f IMG_STATUS.code = 0x12 ∧ s.raised 25 t ∧ s.onlyFieldsEvents t [IMG_CTL.reg, IMG_STATUS.reg]) ∧
  (∀ (s : State) (p : Port) (v : Word) (head : Option (List Byte)),
    s.accepts p IMG_CTL.reg.addr (some 1) → bit v.toNat 5 = false → s.load.stage ≠ .idle ∨ s.load.waiting ≠ none →
    ∃ t, exec (.imgLoadGo p v head) s = .next t ∧ t.load = s.load ∧ t.f IMG_STATUS.code = 0x15 ∧ s.raised 25 t ∧
      s.onlyFieldsEvents t [IMG_CTL.reg, IMG_STATUS.reg]) ∧
  (∀ (s : State) (p : Port) (v : Word) (head : Option (List Byte)),
    s.accepts p IMG_CTL.reg.addr (some 1) → s.load.stage = .idle → s.load.waiting = none → s.loadMustWait = true →
    ∃ t, exec (.imgLoadGo p v head) s = .next t ∧ t.load.waiting = some (State.goReq p (v.toNat ||| 1)) ∧
      t.f IMG_STATUS.state = 1 ∧ s.onlyFields t [IMG_CTL.reg, IMG_STATUS.reg]) ∧
  (∀ (s : State) (q : LoadReq) (b : List Byte), s.load.waiting = some q → q.unload = false → q.src = 0 →
    s.load.stage = .idle → s.loadMustWait = false → s.headCheck q (s.f IMG_SRC.reg) (s.f IMG_LEN.reg) b = none →
    ∃ t, exec (.imgLoadWaitStart (some b)) s = .next t ∧ t.load.stage = .fetch ∧ t.load.waiting = none ∧ t.load.req = q ∧
      t.f IMG_STATUS.state = 2 ∧ s.onlyFields t [IMG_STATUS.reg]) ∧
  (∀ (s : State) (q : LoadReq) (b : Option (List Byte)), s.load.waiting = some q →
    (s.loadMustWait = true → exec (.imgLoadWaitStart b) s = .next s) ∧
    (s.loadMustWait = false → s.load.stage = .idle → q.unload = true → s.maskPresent q.mask = true → s.maskWhole q.mask = true →
      ∃ t, exec (.imgLoadWaitStart b) s = .next t ∧ t.load.stage = .ready ∧ t.load.req = q ∧ t.load.waiting = none ∧
        t.f IMG_STATUS.state = 6 ∧ s.onlyFields t [IMG_STATUS.reg]))

/-- R96, R97, R113, R114, R119, R120: where every check value of pass 1 is right, step 3 begins: its digest is kept and
IMG_STATUS shows state 3; with code 0x04 and event 25 the load ends where a check value is wrong. Step 3 ends in state 4 where
the key and the signature are right, and else with the code of its check. Pass 2 ends in state 5 where the digest is the same
and the records are right; admission waits for a canary sweep that is no older than 10 ms, and, once VCORE has been raised, for
the sweep after that; it ends in state 6 where every path is admitted, or, for a dry run, with code 0, was_dry and event 24. -/
def Obligations.ImageChecksLeadToAdmission : Prop :=
  (∀ (s : State) (b : List Byte), s.load.stage = .fetch → s.load.req.src = 0 →
    s.headCheck s.load.req s.load.addr s.load.len b = none → State.crcsRight b = true →
    ∃ t, exec (.imgPass1Done (some b)) s = .next t ∧ t.load.stage = .verify ∧ t.load.digest1 = sha384 (signedRegion b) ∧
      t.load.verdict = s.authCheck b ∧ t.f IMG_STATUS.state = 3 ∧ s.onlyFields t [IMG_STATUS.reg]) ∧
  (∀ (s : State) (b : Option (List Byte)), s.load.stage = .verify →
    (s.load.verdict = none →
      ∃ t, exec (.imgPass1Done b) s = .next t ∧ t.load = { s.load with stage := .stage } ∧ t.f IMG_STATUS.state = 4 ∧
        s.onlyFields t [IMG_STATUS.reg]) ∧
    (∀ (c : Nat) (p : Port), s.load.verdict = some c → c < 0x12 → s.load.req.origin = .cp p →
      ∃ t, exec (.imgPass1Done b) s = .next t ∧ t.load.stage = .idle ∧ t.f IMG_STATUS.state = 0 ∧ t.f IMG_STATUS.code = c ∧
        s.raised 25 t ∧ s.onlyFieldsEvents t [IMG_STATUS.reg])) ∧
  (∀ (s : State) (p : Port) (b : List Byte), s.load.stage = .fetch → s.load.req.src = 0 →
    s.load.req.origin = .cp p → s.headCheck s.load.req s.load.addr s.load.len b = none → State.crcsRight b = false →
    ∃ t, exec (.imgPass1Done (some b)) s = .next t ∧ t.load.stage = .idle ∧ t.f IMG_STATUS.state = 0 ∧
      t.f IMG_STATUS.code = 0x04 ∧ s.raised 25 t ∧ s.onlyFieldsEvents t [IMG_STATUS.reg]) ∧
  (∀ (s : State) (b : List Byte), s.load.stage = .stage → s.load.req.src = 0 →
    (stage b).digest = s.load.digest1 → s.recordCheck b (stage b) = none →
    ∃ t, exec (.imgPass2Done (some b)) s = .next t ∧ t.load.stage = .admitting ∧ t.load.staged = some (stage b) ∧
      t.f IMG_STATUS.state = 5 ∧ s.onlyFields t [IMG_STATUS.reg]) ∧
  (∀ (s : State) (g : Staged) (from_ : Nat), s.load.stage = .admitting → s.load.staged = some g → s.load.awaiting = true →
    s.load.raiseFrom = some from_ → s.time.clk < from_ + 12800000 → exec (.imgAdmission false) s = .next s) ∧
  (∀ (s : State) (g : Staged), s.load.stage = .admitting → s.load.staged = some g → s.load.awaiting = false →
    s.sweepFresh = false →
    ∃ t, exec (.imgAdmission false) s = .next t ∧ t.tiu.sweepAsked = true ∧ t.load = s.load ∧ t.regs = s.regs) ∧
  (∀ (s : State) (g : Staged), s.load.stage = .admitting → s.load.staged = some g → s.load.awaiting = false →
    s.sweepFresh = true → s.load.req.avsRaise = false → s.regInitScope g.pathMask g.regInit = true → (∀ p : Fin 4, s.pathCode g false p = 0) →
    100 * s.capWritesAfter g ≤ 60 * s.memBandwidth →
    ∃ t, exec (.imgAdmission false) s = .next t ∧
      (s.load.req.dry = false → t.load.stage = .ready ∧ t.f IMG_STATUS.state = 6) ∧
      (s.load.req.dry = true → t.load.stage = .idle ∧ t.f IMG_STATUS.state = 0 ∧ t.f IMG_STATUS.code = 0 ∧
        t.f IMG_STATUS.was_dry = 1 ∧ s.raised 24 t))

/-- R102, R105, R108: abort ends a load that has not switched over, or one that waits, with code 0x14 (an unload is taken for a
load here: log entry 75); an unload of paths that are there goes to state 6 at once; switch-over starts with state 6 and the load
draining, waits while a frame is in flight, and, once none is, ends with the load at rest and code 0. -/
def Obligations.LoadsAbortUnloadAndSwitchOver : Prop :=
  (∀ (s : State) (p q : Port) (v : Word), s.accepts p IMG_CTL.reg.addr (some 1) → bit v.toNat 0 = false →
    (s.load.stage = .fetch ∨ s.load.stage = .verify ∨ s.load.stage = .stage ∨ s.load.stage = .admitting ∨
      s.load.stage = .ready) → s.load.req.origin = .cp q → s.load.waiting = none →
    ∃ t, exec (.imgAbort p v) s = .next t ∧ t.bus = .ok ∧ t.load.stage = .idle ∧ t.f IMG_STATUS.state = 0 ∧
      t.f IMG_STATUS.code = 0x14 ∧ s.raised 25 t ∧ s.onlyFieldsEvents t [IMG_CTL.reg, IMG_STATUS.reg]) ∧
  (∀ (s : State) (p : Port) (v : Word), s.accepts p IMG_CTL.reg.addr (some 1) → bit v.toNat 0 = false →
    s.load.stage = .idle →
    (s.load.waiting ≠ none →
      ∃ t, exec (.imgAbort p v) s = .next t ∧ t.bus = .ok ∧ t.load = { s.load with waiting := none } ∧
        t.f IMG_STATUS.state = 0 ∧ t.f IMG_STATUS.code = 0x14 ∧ s.raised 25 t ∧
        s.onlyFieldsEvents t [IMG_CTL.reg, IMG_STATUS.reg]) ∧
    (s.load.waiting = none →
      ∃ t, exec (.imgAbort p v) s = .next t ∧ t.bus = .ok ∧ t.load = s.load ∧ s.onlyFields t [IMG_CTL.reg])) ∧
  (∀ (s : State) (p : Port) (v : Word), s.accepts p IMG_UNLOAD.reg.addr (some 1) → v.toNat % 16 ≠ 0 →
    s.load.stage = .idle → s.load.waiting = none → s.loadMustWait = false → s.maskPresent (v.toNat % 16) = true →
    s.maskWhole (v.toNat % 16) = true →
    ∃ t, exec (.imgUnload p v) s = .next t ∧ t.bus = .ok ∧ t.load.stage = .ready ∧ t.load.req.unload = true ∧
      t.load.req.mask = v.toNat % 16 ∧ t.f IMG_STATUS.state = 6 ∧ t.f IMG_STATUS.path_mask = v.toNat % 16 ∧
      s.onlyFields t [IMG_STATUS.reg]) ∧
  (∀ (s : State), s.load.stage = .ready →
    ∃ t, exec .switchOverStart s = .next t ∧ t.load.stage = .drain ∧ t.f IMG_STATUS.state = 6) ∧
  (∀ (s : State), s.load.stage = .drain →
    (∀ p : Fin 4, bit s.loadMask p = true → s.framesHeld p = 0) → s.load.req.origin ≠ .boot →
    ∃ t, exec .switchOverCommit s = .next t ∧ t.load.stage = .idle ∧ t.f IMG_STATUS.state = 0 ∧ t.f IMG_STATUS.code = 0 ∧
      t.f IMG_STATUS.was_dry = 0) ∧
  (∀ (s : State) (p : Fin 4), bit s.loadMask p = true → s.framesHeld p ≠ 0 → exec .switchOverCommit s = .next s)

/-- R112, R624: a fuse operation whose key, state and argument are right runs (busy is 1), any other write is refused with
event 28; when its completion fuse has blown, the enrolment, the revocation or the least accepted version holds, busy is 0
and event 28 is raised. -/
def Obligations.FuseOperationsRunAndComplete : Prop :=
  (∀ (s : State) (p : Port) (v : Word) (c : Instr) (op : Nat), s.accepts p IMG_KEY_CTL.reg.addr (some 1) →
    ((c = .keyEnrol p v ∧ op = 1) ∨ (c = .keyRevoke p v ∧ op = 2) ∨ (c = .keySetSvn p v ∧ op = 3)) →
    (s.fuseRefuses (insertBits v.toNat 12 4 op) = false →
      ∃ t, exec c s = .next t ∧ t.bus = .ok ∧ t.fuse = { s.fuse with running := some (s.fuseAsk (insertBits v.toNat 12 4 op)) } ∧
        t.f IMG_KEY_STATUS.busy = 1 ∧ s.onlyFields t [IMG_KEY_STATUS.reg]) ∧
    (s.fuseRefuses (insertBits v.toNat 12 4 op) = true →
      ∃ t, exec c s = .next t ∧ t.bus = .ok ∧ t.fuse = s.fuse ∧ t.f IMG_KEY_STATUS.refused = 1 ∧ s.raised 28 t ∧
        s.onlyFieldsEvents t [IMG_KEY_STATUS.reg])) ∧
  (∀ (s : State) (q : FuseOp), s.fuse.running = some q → s.start.due = none →
    ∃ t, exec .keyFuseDone s = .next t ∧ t.fuse.running = none ∧ t.fuse.incomplete = none ∧
      (q.op = 1 → bit t.fuse.enrolled q.arg = true ∧ t.fuse.hash.get [] q.arg = q.hash) ∧
      (q.op = 2 → bit t.fuse.revoked q.arg = true) ∧ (q.op = 3 → t.fuse.svnMin = q.arg) ∧
      t.f IMG_KEY_STATUS.busy = 0 ∧ s.raised 28 t ∧ s.onlyFieldsEvents t [IMG_KEY_STATUS.reg])

/-! ### Fabric entry, buffers, tiles and reorder windows -/

/-- R134, R136, R145, R146: a converter that delivers makes its next block, which enters the fabric with the index of its first
sample, and GLB_SEQ goes up by 1,024; a block that it keeps is sent again. A copy whose check value and type are right enters,
and the converter forgets it; a first or second copy that is not right raises event 38 and is kept for sending once more; with
the third the block is lost, and a gap of scope INPUT covers it where the path owes one. A converter that neither delivers nor
keeps a block sends nothing. A block that reaches a buffer with room takes the next slot, and GLB_EB_LEVEL shows the level; one
that finds no room, or that comes while its buffer drops and stands above the resume level, is dropped; a path without a
real-time mode, or the upper one of a WIDE pair, stores none. -/
def Obligations.BlocksEnterTheFabric : Prop :=
  (∀ (s : State) (n : Fin 4) (at_ : Stamp) (samples : List Int) (lane : Fin 52),
    s.delivers n = true → (s.conv n).sent = none →
    ∃ t, exec (.fabricEntryParcel n samples at_ none lane) s = .next t ∧ (t.conv n).sent = none ∧
      t.f (GLB_SEQ.reg n) = (s.f (GLB_SEQ.reg n) + 1024) % 2 ^ 64 ∧
      ∃ y, (t.path n).entry = (s.path n).entry ++ [y] ∧ y.seq = s.f (GLB_SEQ.reg n) ∧ y.path = n.val) ∧
  (∀ (s : State) (n : Fin 4) (at_ : Stamp) (samples : List Int) (b : Parcel) (got : List Byte) (lane : Fin 52),
    (s.conv n).sent = some b → field got 1 1 = 1 →
    (crc32c (got.take 28 ++ (got.drop 32).take (field got 4 2))).toNat = field got 28 4 →
    ∃ t, exec (.fabricEntryParcel n samples at_ (some got) lane) s = .next t ∧ (t.conv n).sent = none ∧
      (∃ y, (t.path n).entry = (s.path n).entry ++ [y] ∧ y.seq = b.seq ∧ y.path = n.val) ∧
      ((s.conv n).tries = 0 → t.regs = s.regs)) ∧
  (∀ (s : State) (n : Fin 4) (at_ : Stamp) (samples : List Int) (b : Parcel) (got : List Byte) (lane : Fin 52),
    (s.conv n).sent = some b → (field got 1 1 ≠ 1 ∨
      (crc32c (got.take 28 ++ (got.drop 32).take (field got 4 2))).toNat ≠ field got 28 4) →
    ((s.conv n).tries < 2 →
      ∃ t, exec (.fabricEntryParcel n samples at_ (some got) lane) s = .next t ∧ (t.conv n).sent = some b ∧
        (t.conv n).tries = (s.conv n).tries + 1 ∧ s.raised 38 t ∧ t.fab = s.fab) ∧
    (2 ≤ (s.conv n).tries →
      ∃ t, exec (.fabricEntryParcel n samples at_ (some got) lane) s = .next t ∧ (t.conv n).sent = none ∧
        (t.path n).entry = (s.path n).entry ∧ (t.path n).gapBefore = true ∧
        (s.realTime n = true → s.wideUpper n = false →
          ∃ g ∈ (t.path n).gaps, g.scope = 0 ∧ g.first ≤ b.seq ∧ b.seq + 1024 ≤ g.stop ∧ bit g.reasons State.rCHECK = true))) ∧
  (∀ (s : State) (n : Fin 4) (at_ : Stamp) (samples : List Int) (rx : Option (List Byte)) (lane : Fin 52),
    s.delivers n = false → (s.conv n).sent = none → exec (.fabricEntryParcel n samples at_ rx lane) s = .next s) ∧
  (∀ (s : State) (p : Fin 4) (x : Parcel) (xs : List Parcel), (s.path p).entry = x :: xs → (s.path p).stopped = false →
    s.realTime p = true → s.wideUpper p = false → (s.path p).eb.length < s.ebSlots p →
    (s.path p).dropping = false ∨ (s.path p).eb.length ≤ s.ebResume p →
    ∃ t, exec (.ebBlockArrive p) s = .next t ∧ (t.path p).entry = xs ∧
      (∃ y, (t.path p).eb = (s.path p).eb ++ [y] ∧
        ((s.path p).dropping = false → (s.path p).gapBefore = false → y = x) ∧
        ((s.path p).dropping = true ∨ (s.path p).gapBefore = true → y = x.withFlag flagGAP)) ∧ (t.path p).dropping = false ∧
      t.f (GLB_EB_LEVEL.level p) = (s.path p).eb.length + 1 ∧ (∀ q, q ≠ p.val → t.path q = s.path q) ∧
      s.onlyFieldsEvents t [GLB_EB_LEVEL.reg p]) ∧
  (∀ (s : State) (p : Fin 4) (x : Parcel) (xs : List Parcel), (s.path p).entry = x :: xs → (s.path p).stopped = false →
    s.realTime p = true → s.wideUpper p = false →
    s.ebSlots p ≤ (s.path p).eb.length ∨ (s.path p).dropping = true ∧ s.ebResume p < (s.path p).eb.length →
    ∃ t, exec (.ebBlockArrive p) s = .next t ∧ (t.path p).entry = xs ∧ (t.path p).eb = (s.path p).eb ∧
      (t.path p).dropping = true ∧ s.onlyFieldsEvents t [GLB_GAP_OPEN.reg p]) ∧
  (∀ (s : State) (p : Fin 4) (x : Parcel) (xs : List Parcel), (s.path p).entry = x :: xs → (s.path p).stopped = false →
    s.realTime p = false ∨ s.wideUpper p = true →
    exec (.ebBlockArrive p) s = .next (s.setPath p { s.path p with entry := xs })) ∧
  (∀ (s : State) (p : Fin 4), (s.path p).entry = [] → exec (.ebBlockArrive p) s = .next s)

/-- R138, R139, R142: a path takes the block at the head of its buffer, also one that memory has lost, where its window and its
entry tiles have room and the frames that come of the block fit the window, or the window holds none; without room it takes
none. R141, R162: the head of the window leaves in order, as a parcel to the exit where it is whole, with GAP_BEFORE where its
stream has missed a product or a gap has ended before it, a stored GAP parcel as it is, and as nothing where it is a void, or where memory has lost it: then the next parcel of its stream
carries GAP_BEFORE. R122, R126, R135, R137, R553: a tile that can fire fires: it is counted, its accumulators are what the lanes
give, and where no input of the path has been lost no register changes but its own count; where the residue of a lane fails, the lanes work once more, counted in
FAB_TILE_RES, and where it fails again the firing is lost; a firing with a wrong check value counts in FAB_TILE_CRC, one whose
memory fails in FAB_TILE_ECC, and each of the three raises event 960 + t. R101: a REPLAY path delivers the stored GAP parcel
that it reads next, with its own check value, and goes on by its bytes; at its set length it stops, with event 29. -/
def Obligations.PathsAndTilesMoveBlocks : Prop :=
  (∀ (s : State) (p : Fin 4) (x : Parcel) (xs : List Parcel) (frames : List Frame) (ecc : Ecc), (s.path p).eb = x :: xs →
    s.realTime p = true → s.wideUpper p = false → (s.path p).img.isSome = true → (s.path p).stopped = false →
    (s.windowRoom p = true → s.entryRoom p = true →
      (s.takeHead p x xs frames ecc).framesFit p = true ∨ s.framesHeld p = 0 →
      ∃ t, exec (.pathTakeBlock p frames ecc) s = .next t ∧ (t.path p).eb.length = xs.length ∧
        (ecc ≠ .uncorrectable → (t.path p).eb = xs)) ∧
    (s.windowRoom p = false ∨ s.entryRoom p = false ∨
      (s.takeHead p x xs frames ecc).framesFit p = false ∧ s.framesHeld p ≠ 0 →
      exec (.pathTakeBlock p frames ecc) s = .next s)) ∧
  (∀ (s : State) (p : Fin 4) (x : Parcel) (y : Slot) (ys : List Slot), (s.path p).window = y :: ys →
    s.productDue p y.last = false → y.fill = .parcel x → (s.path p).gaps = [] →
    ∃ t z, exec (.reorderRelease p .sound) s = .next t ∧ (t.path p).window = ys ∧ (t.path p).exit = [z] ∧
      z.stream = x.stream ∧ z.seq = x.seq ∧ z.payload = x.payload ∧
      (x.kind = .gap → z = x) ∧ (State.missedBefore (s.path p) x = false → (s.path p).invalid = [] → z = x) ∧
      (x.kind ≠ .gap → State.missedBefore (s.path p) x = true → bit z.flags flagGAP = true) ∧
      (x.kind ≠ .gap → x.stream ∉ (t.path p).gapStreams) ∧
      s.onlyFields t [GLB_GAP_OPEN.reg p]) ∧
  (∀ (s : State) (p : Fin 4) (ecc : Ecc) (y : Slot) (ys : List Slot), (s.path p).window = y :: ys →
    s.productDue p y.last = false → y.fill = .void →
    ∃ t, exec (.reorderRelease p ecc) s = .next t ∧ (t.path p).window = ys ∧ (t.path p).exit = [] ∧
      y.stream ∈ (t.path p).gapStreams ∧ t.regs = s.regs) ∧
  (∀ (s : State) (p : Fin 4) (x : Parcel) (y : Slot) (ys : List Slot), (s.path p).window = y :: ys →
    s.productDue p y.last = false → y.fill = .parcel x →
    ∃ t, exec (.reorderRelease p .uncorrectable) s = .next t ∧ (t.path p).window = ys ∧ (t.path p).exit = [] ∧
      x.stream ∈ (t.path p).gapStreams) ∧
  (∀ (s : State) (t : Fin 1088) (c : TileCfg) (w : TileWork) (f : Option Frame), s.tileCfg t = some c → s.up .fabric = true →
    s.canFire t c = true → s.productRoom c f = true → State.badParcels (s.taken t c) = [] →
    (∀ acc, State.lanesRun false c.laneEn w.ops (State.lanesClear w.clear (s.tile t).acc) = some acc →
      ∃ u, exec (.tileFire t .sound w f) s = .next u ∧
        u.f (FAB_TILE_FIRE.reg t) = (s.f (FAB_TILE_FIRE.reg t) + 1) % 2 ^ 32 ∧ (u.tile t).acc = acc ∧
        ((s.path (s.exitPath c.path)).lostSpans = [] → s.onlyFields u [FAB_TILE_FIRE.reg t])) ∧
    (State.lanesRun false c.laneEn w.ops (State.lanesClear w.clear (s.tile t).acc) = none →
      ∃ u, exec (.tileFire t .sound w f) s = .next u ∧
        u.f (FAB_TILE_FIRE.reg t) = (s.f (FAB_TILE_FIRE.reg t) + 1) % 2 ^ 32 ∧
        match State.lanesRun true c.laneEn w.ops (State.lanesClear w.clear (s.tile t).acc) with
        | some acc => u.f (FAB_TILE_RES.retried_ok t) = min 65535 (s.f (FAB_TILE_RES.retried_ok t) + 1) ∧ (u.tile t).acc = acc
        | none => u.f (FAB_TILE_RES.uncorrected t) = min 65535 (s.f (FAB_TILE_RES.uncorrected t) + 1) ∧
          s.raised (960 + t.val) u)) ∧
  (∀ (s : State) (t : Fin 1088) (c : TileCfg) (w : TileWork) (f : Option Frame), s.tileCfg t = some c → s.up .fabric = true →
    s.canFire t c = true → s.productRoom c f = true →
    (∀ side i x, (s.taken t c side.val).getD i .void = .parcel x →
      ∃ u, exec (.tileFire t (.badCrc side i) w f) s = .next u ∧
      u.f (FAB_TILE_CRC.fails t) = min 65535 (s.f (FAB_TILE_CRC.fails t) + 1) ∧ s.raised (960 + t.val) u ∧
      u.f (FAB_TILE_FIRE.reg t) = s.f (FAB_TILE_FIRE.reg t)) ∧
    (∀ row, State.badParcels (s.taken t c) = [] →
      ∃ u, exec (.tileFire t (.memFailed row) w f) s = .next u ∧
        u.f (FAB_TILE_ECC.uncorrected t) = min 65535 (s.f (FAB_TILE_ECC.uncorrected t) + 1) ∧ s.raised (960 + t.val) u ∧
        u.f (FAB_TILE_FIRE.reg t) = s.f (FAB_TILE_FIRE.reg t))) ∧
  (∀ (s : State) (p : Fin 4) (y : Parcel) (n : Nat) (src : ReplaySrc) (b : List Byte), s.mode p = 7 → (s.path p).replayOn = true →
    s.running p = true → s.flag GLB_PCLK.nrt_stopped = false → src = s.replaySrc p → s.regionExists src.region = true →
    s.windowRoom p = true → s.entryRoom p = true → (s.replayRead p .sound).framesFit p = true ∨ s.framesHeld p = 0 →
    src.len ≠ 0 → s.capFmt src.region = 0 → n = 32 + field (s.ringRead src.region (s.path p).replayPos 32) 4 2 →
    b = s.ringRead src.region (s.path p).replayPos n → Parcel.ofBytes b = some y → y.kind = .gap →
    ∃ t, exec (.replayParcelRead p .sound) s = .next t ∧ (t.path p).replayPos = (s.path p).replayPos + n ∧
      (t.path p).replayRead = (s.path p).replayRead + n ∧
      ((s.path p).replayRead + n < src.len → (t.path p).replayOn = true ∧ t.regs = s.regs ∧
        ((s.path p).window = [] → (s.path p).lostFrames = [] → (s.path p).lostSpans = [] →
          (crc32c (b.take 28 ++ (b.drop 32).take (field b 4 2))).toNat = field b 28 4 →
          ∃ w z, (t.path p).window = [w] ∧ w.fill = .parcel z ∧ z.kind = .gap ∧ z.payload = y.payload ∧ z.crc = y.crc)) ∧
      (src.len ≤ (s.path p).replayRead + n → (t.path p).replayOn = false ∧ t.running p = false ∧ s.raised 29 t ∧
        s.onlyFieldsEvents t (GLB_MODE.reg :: runStatus p)))

/-- R148 to R150, R152, R154, R575: a sag that reaches a threshold above the step in force takes the pacer clock to its step,
the reading below 0.70 V to step 3 whatever the sag: event 32 once, down_count by the number of steps, non-real-time work stopped
with event 33 if it ran, and with avs_auto the request goes up by 10 mV within its bounds, unless the override is on or the bus
failed. GLB_DROOP_STATUS keeps the lowest voltage; below 0.70 V floor_hit is set, with event 5. A sag that calls for no higher step
does no more. One step up is made, with event 32, once up_hold_us have passed with the sag released and nothing holds the step, and
none before. The stopped work resumes once nrt_resume_us have passed at step 0, and not before: nrt_stopped clears, and each
density table that decays starts one sweep. -/
def Obligations.PacerClockFollowsTheSupply : Prop :=
  (∀ (s : State) (sag v k : Nat), v = s.f GLB_CAP_STATUS.vcore_mv - sag →
    (v < 700 ∨ s.f GLB_DROOP_THR.sag3 ≤ sag) ∧ k = 3 ∨
      700 ≤ v ∧ sag < s.f GLB_DROOP_THR.sag3 ∧ s.f GLB_DROOP_THR.sag2 ≤ sag ∧ k = 2 ∨
      700 ≤ v ∧ sag < s.f GLB_DROOP_THR.sag3 ∧ sag < s.f GLB_DROOP_THR.sag2 ∧ s.f GLB_DROOP_THR.sag1 ≤ sag ∧ k = 1 →
    s.f GLB_PCLK.step < k →
    ∃ t, exec (.droopTrip sag) s = .next t ∧ t.f GLB_PCLK.step = k ∧ s.raised 32 t ∧ t.avs.heldFrom = s.time.clk ∧
      t.f GLB_PCLK.down_count = min (2 ^ GLB_PCLK.down_count.width - 1) (s.f GLB_PCLK.down_count + (k - s.f GLB_PCLK.step)) ∧
      t.flag GLB_PCLK.nrt_stopped = true ∧ (s.flag GLB_PCLK.nrt_stopped = false → s.raised 33 t) ∧
      t.f GLB_DROOP_STATUS.min_mv = min v (s.f GLB_DROOP_STATUS.min_mv) ∧
      (v < 700 → t.f GLB_DROOP_STATUS.floor_hit = 1 ∧ s.raised 5 t) ∧
      (700 ≤ v → t.f GLB_DROOP_STATUS.floor_hit = s.f GLB_DROOP_STATUS.floor_hit) ∧
      (s.flag GLB_CAP_CTL.avs_auto = true → s.flag GLB_AVS_MAN.en = false → s.flag GLB_AVS_STATUS.fail = false →
        s.f GLB_CAP_STATUS.vcore_mv < 850 →
        t.f GLB_CAP_STATUS.vcore_mv = max 720 (min 850 (s.f GLB_CAP_STATUS.vcore_mv + 10)) ∧
        (s.avs.running = none → t.avs.running = some (t.f GLB_CAP_STATUS.vcore_mv, 1) ∧ t.flag GLB_AVS_STATUS.busy = true) ∧
        (s.avs.running ≠ none → t.avs.queued = some (t.f GLB_CAP_STATUS.vcore_mv))) ∧
      (s.flag GLB_CAP_CTL.avs_auto = false ∨ s.flag GLB_AVS_MAN.en = true ∨ s.flag GLB_AVS_STATUS.fail = true ∨
        850 ≤ s.f GLB_CAP_STATUS.vcore_mv → t.f GLB_CAP_STATUS.vcore_mv = s.f GLB_CAP_STATUS.vcore_mv) ∧
      s.onlyFieldsEvents t [GLB_PCLK.reg, GLB_DROOP_STATUS.reg, GLB_ALERT.reg, GLB_CAP_STATUS.reg, GLB_AVS_STATUS.reg]) ∧
  (∀ (s : State) (sag v : Nat), v = s.f GLB_CAP_STATUS.vcore_mv - sag →
    (v < 700 ∨ s.f GLB_DROOP_THR.sag3 ≤ sag → s.f GLB_PCLK.step = 3) → (s.f GLB_DROOP_THR.sag2 ≤ sag → 2 ≤ s.f GLB_PCLK.step) →
    (s.f GLB_DROOP_THR.sag1 ≤ sag → 1 ≤ s.f GLB_PCLK.step) →
    ∃ t, exec (.droopTrip sag) s = .next t ∧ t.f GLB_DROOP_STATUS.min_mv = min v (s.f GLB_DROOP_STATUS.min_mv) ∧
      (v < 700 → t.f GLB_DROOP_STATUS.floor_hit = 1 ∧ s.raised 5 t ∧ s.onlyFieldsEvents t [GLB_DROOP_STATUS.reg]) ∧
      (700 ≤ v → t.f GLB_DROOP_STATUS.floor_hit = s.f GLB_DROOP_STATUS.floor_hit ∧ s.onlyFields t [GLB_DROOP_STATUS.reg])) ∧
  (∀ (s : State), s.flag GLB_PCLK.uplk_hold = true ∨ s.f GLB_PCLK.step = 0 ∨ s.released (s.f GLB_PCLK.step) = false ∨
    s.time.clk < s.avs.heldFrom + 2560 * max 1 (s.f GLB_PCLK_CTL.up_hold_us) → exec .pclkStepUp s = .next s) ∧
  (∀ (s : State), s.flag GLB_PCLK.uplk_hold = false → 0 < s.f GLB_PCLK.step → s.released (s.f GLB_PCLK.step) = true →
    s.avs.heldFrom + 2560 * max 1 (s.f GLB_PCLK_CTL.up_hold_us) ≤ s.time.clk →
    ∃ t, exec .pclkStepUp s = .next t ∧ t.f GLB_PCLK.step = s.f GLB_PCLK.step - 1 ∧ s.raised 32 t ∧
      t.avs.heldFrom = s.time.clk ∧ (s.f GLB_PCLK.step = 1 → t.avs.fullFrom = s.time.clk) ∧
      s.onlyFieldsEvents t [GLB_PCLK.reg, GLB_ALERT.reg]) ∧
  (∀ (s : State) (k : Fin 2), s.f GLB_PCLK.step = 0 → s.flag GLB_PCLK.uplk_hold = false → s.flag GLB_PCLK.nrt_stopped = true →
    s.avs.fullFrom + 2560 * max 1 (s.f GLB_PCLK_CTL.nrt_resume_us) ≤ s.time.clk →
    ∃ t, exec .nrtResume s = .next t ∧ t.flag GLB_PCLK.nrt_stopped = false ∧ s.onlyFields t [GLB_PCLK.reg] ∧
      (t.kalOf k).periodFrom = s.time.clk ∧
      (s.up .fabric = true → s.f (KAL_DECAY.mode (s.kalSrc k)) = 1 → s.fa (KAL_CTL.freeze (s.kalSrc k)) = 0 →
        (s.kalOf k).sweep = none →
        (t.kalOf k).sweep = some { shift := max 1 (min 16 (s.f (KAL_DECAY.shift (s.kalSrc k)))), start := s.time.clk, column := 0 }) ∧
      (s.f (KAL_DECAY.mode (s.kalSrc k)) ≠ 1 → (t.kalOf k).sweep = (s.kalOf k).sweep)) ∧
  (∀ (s : State), s.f GLB_PCLK.step ≠ 0 ∨ s.flag GLB_PCLK.uplk_hold = true ∨ s.flag GLB_PCLK.nrt_stopped = false ∨
    s.time.clk < s.avs.fullFrom + 2560 * max 1 (s.f GLB_PCLK_CTL.nrt_resume_us) → exec .nrtResume s = .next s)

/-! ### Converters -/

/-- R179, R182, R184 to R189: before the dwell of a stop has passed nothing is handed over. At a handover the carousel slice
takes the trims the estimator found, and a good slice (a residual within the limit, no trim beyond 90 % of its range) takes the
position: its occupant is the next carousel slice and the position goes on by one. A worn slice that no reserve replaces stays,
marked, with event 80 + n. A slice that failed is replaced by the reserve, and with no reserve it freezes the rotation.
Reconvergence settles the converter, through its own command or a write of CNV_CAR_CTL, and waits where the converter does not
sample; a frozen rotation has none. When its stops have been made, settling ends. -/
def Obligations.CarouselTurnsAndReconverges : Prop :=
  (∀ (s : State) (n : Fin 4) (r : Nat) (low stuck : Bool) (o g tm : BitVec 10), s.time.clk < (s.conv n).stopDue →
    exec (.carouselHandover n r low stuck o g tm) s = .next s) ∧
  (∀ (s : State) (n : Fin 4) (r : Nat) (o g tm : BitVec 10), s.f (CNV_STATUS.state n) = 2 →
    s.flag (CNV_STATUS.frozen n) = false → (s.conv n).carHeld = false → (s.conv n).carStopped = false →
    (s.conv n).stopDue ≤ s.time.clk → s.f (CNV_STATUS.incoming n) < 18 →
    (r ≤ 1000 → (∀ x ∈ [o, g, tm], 10 * x.toInt.natAbs ≤ 9 * 512) →
      ∃ t, exec (.carouselHandover n r false false o g tm) s = .next t ∧
        t.f (CNV_TRIM.offset n (s.f (CNV_STATUS.incoming n))) = o.toNat ∧
        t.f (CNV_TRIM.gain n (s.f (CNV_STATUS.incoming n))) = g.toNat ∧
        t.f (CNV_TRIM.timing n (s.f (CNV_STATUS.incoming n))) = tm.toNat ∧
        t.f (CNV_SLICE.position n (s.f (CNV_STATUS.incoming n))) = s.f (CNV_STATUS.stop_pos n) ∧
        t.f (CNV_STATUS.stop_pos n) = (s.f (CNV_STATUS.stop_pos n) + 1) % 16 ∧
        t.f (CNV_CAR_STATUS.stops n) = (s.f (CNV_CAR_STATUS.stops n) + 1) % 65536) ∧
    (r ≤ 10000 → (∃ x ∈ [o, g, tm], 9 * 512 < 10 * x.toInt.natAbs) → (∀ x : Fin 18, s.f (CNV_SLICE.state n x) ≠ 2) →
      bit (s.conv n).wornKept (s.f (CNV_STATUS.incoming n)) = false →
      ∃ t, exec (.carouselHandover n r false false o g tm) s = .next t ∧ s.raised (80 + n.val) t ∧
        t.f (CNV_SLICE.state n (s.f (CNV_STATUS.incoming n))) = 3 ∧
        t.f (CNV_STATUS.stop_pos n) = (s.f (CNV_STATUS.stop_pos n) + 1) % 16)) ∧
  (∀ (s : State) (n : Fin 4) (r : Nat) (low stuck : Bool) (o g tm : BitVec 10), s.f (CNV_STATUS.state n) = 2 →
    s.flag (CNV_STATUS.frozen n) = false → (s.conv n).carHeld = false → (s.conv n).carStopped = false →
    (s.conv n).stopDue ≤ s.time.clk → s.f (CNV_STATUS.incoming n) < 18 → stuck = true ∨ 10000 < r →
    ((∀ x : Fin 18, s.f (CNV_SLICE.state n x) ≠ 2) →
      ∃ t, exec (.carouselHandover n r low stuck o g tm) s = .next t ∧ t.flag (CNV_STATUS.frozen n) = true ∧
        t.flag (CNV_STATUS.settling n) = false ∧ t.f (CNV_SLICE.state n (s.f (CNV_STATUS.incoming n))) = 5 ∧
        s.raised (88 + n.val) t) ∧
    (∀ c : Fin 18, s.reserveSlice n = some c.val → s.f (CNV_STATUS.incoming n) ≠ c.val →
      ∃ t, exec (.carouselHandover n r low stuck o g tm) s = .next t ∧ t.f (CNV_STATUS.incoming n) = c.val ∧
        t.f (CNV_SLICE.state n c) = 1 ∧ t.f (CNV_SLICE.state n (s.f (CNV_STATUS.incoming n))) = 5 ∧ s.raised (80 + n.val) t)) ∧
  (∀ (s : State) (n : Fin 4), s.flag (CNV_STATUS.frozen n) = false →
    (s.f (CNV_STATUS.state n) = 2 →
      ∃ t, exec (.reconverge n none) s = .next t ∧ t.flag (CNV_STATUS.settling n) = true ∧ (t.conv n).recStops = 34 ∧
        s.onlyFields t [CNV_STATUS.reg n]) ∧
    (s.f (CNV_STATUS.state n) ≠ 2 →
      ∃ t, exec (.reconverge n none) s = .next t ∧ (t.conv n).recWait = true ∧ t.regs = s.regs)) ∧
  (∀ (s : State) (n : Fin 4), s.flag (CNV_STATUS.frozen n) = true → exec (.reconverge n none) s = .next s) ∧
  (∀ (s : State) (n : Fin 4) (p : Port) (v : Word), s.accepts p (CNV_CAR_CTL.reg n).addr (some 2) →
    s.f (CNV_STATUS.state n) = 2 → s.flag (CNV_STATUS.frozen n) = false →
    ∃ t, exec (.reconverge n (some (p, v))) s = .next t ∧ t.bus = .ok ∧ t.flag (CNV_STATUS.settling n) = true ∧
      (t.conv n).recStops = 34 ∧ s.onlyFields t [CNV_CAR_CTL.reg n, CNV_STATUS.reg n]) ∧
  (∀ (s : State) (n : Fin 4), ((s.conv n).recStops = 0 →
    ∃ t, exec (.reconvergeDone n) s = .next t ∧ t.flag (CNV_STATUS.settling n) = false ∧
      s.onlyFields t [CNV_STATUS.reg n, GLB_START.reg]) ∧
    ((s.conv n).recStops ≠ 0 → exec (.reconvergeDone n) s = .next s))

/-- R173, R198, R199: a written input selector, or zone, applies at the boundary: the converter has it in force, and the path's
down-converter has one more step point; after a change of the input the samples of 2 us are unsettled. No register changes.
R190 to R197: an over-range episode sets its flags, counts, keeps the index of the first sample, and raises event 72 + n; its
end, when its recovery span has passed, clears ovr_now. With protection on, the clipped sample that makes min_clip (0 acts as
1) makes it active, once in an episode, with event 76 + n and the clear cause of each output of the mask; the end of the hold,
or a release, makes it inactive. The fast level trigger fires where a sample completes a run of min_run + 1 codes that meet its
mode: the firing counts and queues an occurrence for each condition of kind 6 on it, outside SERVICE. -/
def Obligations.InputChangesOverRangeAndProtectionAct : Prop :=
  (∀ (s : State) (n : Fin 4), s.up .conv = true → min 2 (s.f (CNV_CTL.input_sel n)) ≠ (s.conv n).sel →
    ∃ t, exec (.inputSelChange n) s = .next t ∧ (t.conv n).sel = min 2 (s.f (CNV_CTL.input_sel n)) ∧ t.regs = s.regs ∧
      (s.f (CNV_STATUS.route n) = 2 → t.ddc = s.ddc) ∧
      (s.f (CNV_STATUS.route n) ≠ 2 →
        (t.conv n).unsettled = (2 * s.pathFs24 n + (1000000 * 2 ^ 24 - 1)) / (1000000 * 2 ^ 24) ∧
        (t.ddcOf n).steps = (s.ddcOf n).steps ++ [s.f (GLB_SEQ.reg n)])) ∧
  (∀ (s : State) (n : Fin 4), s.up .conv = true → s.f (CNV_CTL.zone n) ≠ (s.conv n).zone →
    ∃ t, exec (.zoneChange n) s = .next t ∧ (t.conv n).zone = s.f (CNV_CTL.zone n) ∧ t.regs = s.regs ∧
      (s.f (CNV_STATUS.route n) = 0 → (t.ddcOf n).steps = (s.ddcOf n).steps ++ [s.f (GLB_SEQ.reg n)]) ∧
      (s.f (CNV_STATUS.route n) ≠ 0 → t.ddc = s.ddc)) ∧
  (∀ (s : State) (n : Fin 4) (ix : Nat), s.delivers n = true → s.flag (CNV_STATUS.ovr_now n) = false → s.cal.run = none →
    ix < 2 ^ 64 →
    ∃ t, exec (.ovrEpisodeStart n ix) s = .next t ∧ t.flag (CNV_STATUS.ovr_now n) = true ∧
      t.flag (CNV_OVR_FLAG.sticky n) = true ∧
      t.f (CNV_OVR_FIRST.reg n) = (if s.flag (CNV_OVR_FLAG.sticky n) then s.f (CNV_OVR_FIRST.reg n) else ix) ∧
      t.f (CNV_OVR_EPISODES.reg n) = min (2 ^ 32 - 1) (s.f (CNV_OVR_EPISODES.reg n) + 1) ∧ s.raised (72 + n.val) t ∧
      (s.minClip n = 1 → s.protOn n = true → t.flag (CNV_PROT.active n) = true ∧ s.raised (76 + n.val) t) ∧
      (1 < s.minClip n ∨ s.protOn n = false →
        s.onlyFieldsEvents t [CNV_STATUS.reg n, CNV_OVR_FLAG.reg n, CNV_OVR_FIRST.reg n, CNV_OVR_EPISODES.reg n])) ∧
  (∀ (s : State) (n : Fin 4),
    ((s.conv n).recovery = 0 →
      ∃ t, exec (.ovrEpisodeEnd n) s = .next t ∧ t.flag (CNV_STATUS.ovr_now n) = false ∧ s.onlyFields t [CNV_STATUS.reg n]) ∧
    ((s.conv n).recovery ≠ 0 → exec (.ovrEpisodeEnd n) s = .next s)) ∧
  (∀ (s : State) (n : Fin 4), s.flag (CNV_STATUS.ovr_now n) = true → 1 < s.minClip n → s.protOn n = true →
    ((s.conv n).protDone = false →
      ∃ t, exec (.protMinClipReached n) s = .next t ∧ t.flag (CNV_PROT.active n) = true ∧ s.raised (76 + n.val) t ∧
        (t.conv n).protDone = true ∧
        (∀ f : Fin 8, bit (s.f (CNV_PROT.fcd_mask n)) f = true →
          bit (t.fcdOut f).prot n = true ∧ t.flag (FCD_STATUS.c_prot f) = true) ∧
        (s.f (CNV_PROT.fcd_mask n) = 0 → s.onlyFieldsEvents t [CNV_PROT.reg n])) ∧
    ((s.conv n).protDone = true → exec (.protMinClipReached n) s = .next s)) ∧
  (∀ (s : State) (n : Fin 4), s.flag (CNV_PROT.active n) = true → s.f (CNV_PROT_HOLD.hold_us n) ≠ 0 →
    s.flag (CNV_STATUS.ovr_now n) = false →
    ((s.conv n).clipAt + 2560 * s.f (CNV_PROT_HOLD.hold_us n) ≤ s.time.clk →
      ∃ t, exec (.protHoldExpire n) s = .next t ∧ t.flag (CNV_PROT.active n) = false ∧
        (∀ f : Fin 8, bit (t.fcdOut f).prot n = false)) ∧
    (s.time.clk < (s.conv n).clipAt + 2560 * s.f (CNV_PROT_HOLD.hold_us n) → exec (.protHoldExpire n) s = .next s)) ∧
  (∀ (s : State) (p : Port) (n : Fin 4) (v : Word), s.accepts p (CNV_PROT.reg n).addr (some 10) →
    s.flag (CNV_PROT.active n) = true → s.f (CNV_PROT_HOLD.hold_us n) = 0 →
    ∃ t, exec (.protRelease p n v) s = .next t ∧ t.bus = .ok ∧ t.flag (CNV_PROT.active n) = false ∧
      (∀ f : Fin 8, bit (t.fcdOut f).prot n = false)) ∧
  (∀ (s : State) (n : Fin 4) (run : FltRun) (at_ : Stamp), s.flag (CNV_FLT_CTL.en n) = true → s.f (CNV_STATUS.state n) = 2 →
    s.f (CNV_STATUS.route n) ≠ 2 →
    (run.samples ≠ [] → s.fltAfter n run = s.f (CNV_FLT_CTL.min_run n) + 1 →
      ∃ t, exec (.fltFire n run at_) s = .next t ∧ (t.conv n).flt = s.fltAfter n run ∧ s.raised (92 + n.val) t ∧
        t.f (CNV_FLT_COUNT.fired n) = min 65535 (s.f (CNV_FLT_COUNT.fired n) + 1) ∧
        (s.mode n ≠ 8 → ∀ c : Fin 64, s.f (TRG_COND.kind c) = 6 → s.f (TRG_COND.sel c) = n.val →
          ∃ o ∈ t.trg.queue, o.cond = c.val ∧ o.index = run.index ∧ o.tick = (s.skewed n at_).tick) ∧
        (s.mode n = 8 → t.trg.queue = s.trg.queue)) ∧
    (s.fltAfter n run ≠ s.f (CNV_FLT_CTL.min_run n) + 1 →
      ∃ t, exec (.fltFire n run at_) s = .next t ∧ (t.conv n).flt = s.fltAfter n run ∧ t.regs = s.regs ∧ t.trg = s.trg))


/-! ### Clocks, reference and SYNC -/

/-- R204 to R206, R222, R223: a lost reference clears present, sets lost and raises event 69; the utility PLL then goes into
holdover, with PCLK held at step 3, as it does when its own detector trips, with event 67 and one more of its holdovers. The
reference returns with the frequency that was found, which is the selected one where one is selected, and a lock ends the hold
of PCLK, with event 68. -/
def Obligations.ReferenceLossHoldsThePacerClock : Prop :=
  (∀ (s : State), s.up .host = true → s.flag REF_STATUS.present = true →
    ∃ t, exec .refLost s = .next t ∧ t.flag REF_STATUS.present = false ∧ t.flag REF_STATUS.lost = true ∧
      (s.time.running = false → s.raised 69 t ∧ s.onlyFieldsEvents t [REF_STATUS.reg]) ∧
      (s.time.running = true → s.clocks.upllOut = false → t.flag UPLL_STATUS.holdover = true ∧
        t.flag UPLL_STATUS.locked = false ∧ t.f GLB_PCLK.step = 3)) ∧
  (∀ (s : State) (m : Bool), s.up .host = true → s.flag REF_STATUS.present = false →
    (s.f REF_CTL.freq = 0 ∨ s.f REF_CTL.freq = (if m then 2 else 1) →
      ∃ t, exec (.refReturn m) s = .next t ∧ t.flag REF_STATUS.present = true ∧
        t.f REF_STATUS.detected = (if m then 2 else 1) ∧ t.flag UPLL_STATUS.slewing = s.clocks.upllOut ∧
        s.onlyFields t [REF_STATUS.reg, UPLL_STATUS.reg]) ∧
    (s.f REF_CTL.freq = (if m then 1 else 2) → exec (.refReturn m) s = .next s)) ∧
  (∀ (s : State) (p : Port) (v : Word), s.accepts p REF_CTL.reg.addr (some 11) →
    ∃ t, exec (.refFreqWrite p v) s = .next t ∧ t.bus = .ok ∧ t.f REF_CTL.freq = v.toNat % 4 ∧
      t.flag REF_STATUS.present = s.flag REF_STATUS.present ∧
      (v.toNat % 4 ≠ s.f REF_CTL.freq → t.flag REF_STATUS.lost = true) ∧
      (v.toNat % 4 = s.f REF_CTL.freq → s.onlyFields t [REF_CTL.reg])) ∧
  (∀ (s : State), s.up .host = true → s.time.running = true → s.clocks.upllOut = false →
    ∃ t, exec .upllUnlock s = .next t ∧ t.flag UPLL_STATUS.holdover = true ∧ t.flag UPLL_STATUS.locked = false ∧
      t.f UPLL_STATUS.holdovers = (s.f UPLL_STATUS.holdovers + 1) % 2 ^ UPLL_STATUS.holdovers.width ∧
      t.flag GLB_PCLK.uplk_hold = true ∧ t.f GLB_PCLK.step = 3 ∧ s.raised 67 t) ∧
  (∀ (s : State), s.up .host = true → s.time.running = true → s.clocks.upllOut = true →
    ∃ t, exec .upllUnlock s = .next t ∧ t.flag UPLL_STATUS.slewing = false ∧ s.onlyFields t [UPLL_STATUS.reg]) ∧
  (∀ (s : State), s.up .host = true → s.clocks.upllOut = true → s.flag REF_STATUS.present = true →
    ∃ t, exec .upllRelock s = .next t ∧ t.flag UPLL_STATUS.locked = true ∧ t.flag UPLL_STATUS.slewing = false ∧
      t.flag GLB_PCLK.uplk_hold = false ∧ t.clocks.upllOut = false ∧ s.raised 68 t ∧
      s.onlyFieldsEvents t [UPLL_STATUS.reg, GLB_PCLK.reg])


/-- R208 to R213, R220: a divider value that is out of range, or that would leave a path short, is refused with event 66; any
other change of the divider, of the bandwidth or to a hop entry, and a trip of the lock detector, restarts acquisition with its
cause, a divider write and a trip with event 64; with a reference and a phase error inside the lock window it locks, in the
starting band where that is good and else in the one the search finds: acquiring is cleared, and SPLL_STATUS and the entry of a
hop show the band. -/
def Obligations.SamplePllReacquires : Prop :=
  (∀ (s : State) (p : Port) (v : Word), s.accepts p SPLL_DIV.reg.addr (some 2) → s.divRefused v.toNat = true →
    ∃ t, exec (.spllDivWrite p v) s = .next t ∧ t.bus = .ok ∧ t.flag SPLL_STATUS.refused = true ∧ s.raised 66 t ∧
      s.onlyFieldsEvents t [SPLL_STATUS.reg]) ∧
  (∀ (s : State) (p : Port) (v : Word), s.accepts p SPLL_DIV.reg.addr (some 2) → s.divRefused v.toNat = false →
    s.spllOn = true →
    ∃ t, exec (.spllDivWrite p v) s = .next t ∧ t.bus = .ok ∧ t.f SPLL_DIV.reg = v.toNat % 2 ^ 31 ∧
      t.flag SPLL_STATUS.locked = false ∧ t.flag SPLL_STATUS.acquiring = true ∧ t.f SPLL_STATUS.cause = 1 ∧ s.raised 64 t ∧
      ((∀ q : Fin 4, s.mode q ≠ 3) →
        s.onlyFieldsEvents t ([SPLL_DIV.reg, SPLL_STATUS.reg, SPLL_UNLOCKS.reg, SPLL_TRIP_INDEX.reg] ++
          (List.range 4).map CNV_STATUS.reg))) ∧
  (∀ (s : State) (p : Port) (v : Word), s.accepts p SPLL_LF.reg.addr (some 2) → s.spllOn = true →
    ∃ t, exec (.spllLfWrite p v) s = .next t ∧ t.bus = .ok ∧ t.f SPLL_LF.bw = v.toNat % 4 ∧
      t.flag SPLL_STATUS.locked = false ∧ t.flag SPLL_STATUS.acquiring = true ∧ t.f SPLL_STATUS.cause = 1) ∧
  (∀ (s : State) (p : Port) (v : Word), s.accepts p SPLL_CTL.reg.addr (some 2) → s.spllOn = true →
    s.divRefused (s.f (SPLL_HOP.reg (v.toNat % 16))) = false →
    ∃ t, exec (.spllHop p v) s = .next t ∧ t.bus = .ok ∧ t.f SPLL_DIV.reg = s.f (SPLL_HOP.reg (v.toNat % 16)) % 2 ^ 31 ∧
      t.f SPLL_STATUS.cause = 2 ∧ t.flag SPLL_STATUS.acquiring = true ∧ t.clocks.hopEntry = some (v.toNat % 16)) ∧
  (∀ (s : State), s.up .conv = true → s.flag SPLL_STATUS.locked = true →
    ∃ t, exec .spllTrip s = .next t ∧ t.flag SPLL_STATUS.locked = false ∧ t.flag SPLL_STATUS.acquiring = true ∧
      t.f SPLL_STATUS.cause = 3 ∧ s.raised 64 t ∧
      (∀ n : Fin 4, s.sampling n = true → (s.conv n).lockWait = false → t.flag (CNV_STATUS.clk_invalid n) = true)) ∧
  (∀ (s : State) (run : LockRun), s.up .conv = true → s.flag SPLL_STATUS.acquiring = true →
    (s.flag REF_STATUS.present = true → run.error ≤ 5 * max 1 (s.f SPLL_CTL.ld_window) →
      ∃ t, exec (.spllLock run) s = .next t ∧ t.flag SPLL_STATUS.locked = true ∧ t.flag SPLL_STATUS.acquiring = false ∧
        t.f SPLL_STATUS.band = s.lockBand run % 64 ∧ s.raised 65 t ∧
        (∀ e : Fin 16, s.clocks.hopEntry = some e.val →
          t.f (SPLL_HOP_BAND.band e) = s.lockBand run % 64 ∧ t.flag (SPLL_HOP_BAND.learned e) = true)) ∧
    (s.flag REF_STATUS.present = false ∨ 5 * max 1 (s.f SPLL_CTL.ld_window) < run.error →
      exec (.spllLock run) s = .next s))

/-- R215 to R219: a write of CLKOUT_CTL or CLKOUT_DLY takes effect in its fields; SYNC_CTL.issue with out_mode 2 gives an edge on
SYNC_OUT at the engine time of the write; an armed edge of SYNC_IN is applied once: it waits for its edge of REF160, or, where
engine time has reached that tick, applies at once; then SYNC_TICK keeps the tick, and the selected CLKOUT divider starts anew
after its delay; one that moves the slice clock marks every input that samples, with cause 4. R207, R476, R477: an edge of PPS_IN outside its window counts in PPS_STATUS.off; one inside it is kept in TIU_PPS_LAST, and with
TIU_TIME_CTL.armed it sets the time: UPLL_STEP_AT takes TIU_TIME_SET, and armed turns into set_done. A window that closes with
no edge counts in PPS_STATUS.missed, with event 71. -/
def Obligations.ClockOutputsSyncAndPpsEdgesAct : Prop :=
  (∀ (s : State) (p : Port) (k : Fin 2) (v : Word), s.accepts p (CLKOUT_CTL.reg k).addr (some 2) →
    ∃ t, exec (.clkoutCtlWrite p k false v) s = .next t ∧ t.bus = .ok ∧
      (∀ l ∈ [CLKOUT_CTL.en k, CLKOUT_CTL.squelch k, CLKOUT_CTL.src k, CLKOUT_CTL.div k],
        t.f l = bits v.toNat l.lo l.width) ∧ s.onlyFields t [CLKOUT_CTL.reg k]) ∧
  (∀ (s : State) (p : Port) (k : Fin 2) (v : Word), s.accepts p (CLKOUT_DLY.reg k).addr (some 2) →
    ∃ t, exec (.clkoutCtlWrite p k true v) s = .next t ∧ t.bus = .ok ∧
      (∀ l ∈ [CLKOUT_DLY.coarse k, CLKOUT_DLY.fine k], t.f l = bits v.toNat l.lo l.width) ∧
      s.onlyFields t [CLKOUT_DLY.reg k]) ∧
  (∀ (s : State) (p : Port) (v : Word), s.accepts p SYNC_CTL.reg.addr (some 4) →
    bits v.toNat SYNC_CTL.out_mode.lo SYNC_CTL.out_mode.width = 2 →
    ∃ t, exec (.syncIssue p v) s = .next t ∧ t.bus = .ok ∧ t.out = .syncOut s.now.tick :: s.out ∧
      t.f SYNC_CTL.out_mode = 2 ∧ t.f SYNC_STATUS.armed = bits v.toNat SYNC_CTL.arm.lo SYNC_CTL.arm.width ∧
      s.onlyFields t [SYNC_CTL.reg, SYNC_STATUS.reg]) ∧
  (∀ (s : State) (tick : Nat) (bin : Fin 64) (applied : Nat) (moved : Bool), s.up .host = true → s.time.running = true →
    s.flag SYNC_CTL.arm = true → applied < 2 ^ 64 →
    ∃ t, exec (.syncInEdge tick bin applied moved) s = .next t ∧ t.flag SYNC_CTL.arm = false ∧
      t.flag SYNC_STATUS.armed = false ∧
      (s.now.tick < applied → t.f SYNC_TICK.reg = s.f SYNC_TICK.reg ∧ t.clocks.clkout0 = s.clocks.clkout0 ∧
        t.clocks.syncDue = some { clk := s.time.clk + (applied - s.now.tick), tick := applied,
                                  clkout := s.flag SYNC_CTL.clkout, slips := s.flag SYNC_CTL.slice && moved }) ∧
      (applied ≤ s.now.tick → t.f SYNC_TICK.reg = applied ∧ t.clocks.syncDue = none ∧
        (s.flag SYNC_CTL.clkout = true → s.clocks.clkout0.on = true →
          t.clocks.clkout0 = { s.clocks.clkout0 with left := s.clocks.clkout0.delay, high := 0 }) ∧
        (s.flag SYNC_CTL.slice = true → moved = true → t.flag SYNC_STATUS.slice_stepped = true ∧
          t.f SPLL_STATUS.cause = 4 ∧ ∀ n : Fin 4, s.sampling n = true → t.flag (CNV_STATUS.clk_invalid n) = true))) ∧
  (∀ (s : State) (d : SyncDue), s.pending = [] → s.clocks.syncDue = some d → d.tick < 2 ^ 64 →
    ∃ t, step s = .next t ∧
      (s.time.clk + 1 < d.clk → t.clocks.syncDue = some d ∧ t.f SYNC_TICK.reg = s.f SYNC_TICK.reg ∧
        t.clocks.clkout0 = s.clkoutStep 0) ∧
      (d.clk ≤ s.time.clk + 1 → t.clocks.syncDue = none ∧ t.f SYNC_TICK.reg = d.tick ∧
        (d.clkout = true → (s.clkoutStep 0).on = true →
          t.clocks.clkout0 = { s.clkoutStep 0 with left := (s.clkoutStep 0).delay, high := 0 }) ∧
        (d.slips = true → t.flag SYNC_STATUS.slice_stepped = true ∧ t.f SPLL_STATUS.cause = 4 ∧
          ∀ n : Fin 4, s.sampling n = true → t.flag (CNV_STATUS.clk_invalid n) = true))) ∧
  (∀ (s : State) (tick : Nat) (bin : Fin 64), s.up .host = true → s.time.running = true → s.clocks.ppsFree = false →
    s.ppsInWindow (s.edgeStamp 22 tick bin 0).bins = false →
    ∃ t, exec (.ppsEdge tick bin) s = .next t ∧ t.f PPS_STATUS.off = min (2 ^ PPS_STATUS.off.width - 1) (s.f PPS_STATUS.off + 1) ∧
      t.clocks = s.clocks ∧ t.time = s.time) ∧
  (∀ (s : State) (tick : Nat) (bin : Fin 64), s.up .host = true → s.time.running = true → s.clocks.ppsFree = true →
    s.flag TIU_TIME_CTL.armed = false → s.clocks.stepDue = false →
    ∃ t, exec (.ppsEdge tick bin) s = .next t ∧ t.f TIU_PPS_LAST.reg = s.fineTime 22 tick bin 0 / 65536 % 2 ^ 64 ∧
      t.clocks.ppsSeen = true ∧ t.clocks.ppsMissRun = 0 ∧ t.time = s.time) ∧
  (∀ (s : State) (tick : Nat) (bin : Fin 64), s.up .host = true → s.time.running = true → s.clocks.ppsFree = true →
    s.flag TIU_TIME_CTL.armed = true →
    ∃ t, exec (.ppsEdge tick bin) s = .next t ∧ t.flag TIU_TIME_CTL.armed = false ∧ t.flag TIU_TIME_CTL.set_done = true ∧
      t.f UPLL_STEP_AT.reg = s.f TIU_TIME_SET.reg) ∧
  (∀ (s : State), s.time.running = true → s.clocks.ppsSeen = true → s.clocks.ppsLast.isSome = true →
    ∃ t, exec .ppsWindowMissed s = .next t ∧
      t.f PPS_STATUS.missed = min (2 ^ PPS_STATUS.missed.width - 1) (s.f PPS_STATUS.missed + 1) ∧
      t.clocks.ppsMissRun = s.clocks.ppsMissRun + 1 ∧ t.clocks.ppsFree = decide (2 ≤ s.clocks.ppsMissRun) ∧ s.raised 71 t ∧ s.onlyFieldsEvents t [PPS_STATUS.reg, UPLL_STATUS.reg])

/-! ### Down-conversion, zoom and transforms -/

/-- R231, R248 to R250: a commit waits for the next block; then it is applied, with its index and event 144 + p, or refused as a
whole, with event 136 + p: no setting in force changes. The upper path of a WIDE pair takes no commit. -/
def Obligations.DdcCommitsWaitThenApplyOrAreRefused : Prop :=
  (∀ (s : State) (p : Port) (path : Fin 4) (v : Word), s.accepts p (DDC_COMMIT.reg path).addr none → bit v.toNat 0 = true →
    s.wideUpper path = false →
    ∃ t, exec (.ddcCommit p path v) s = .next t ∧ t.bus = .ok ∧ t.flag (DDC_STATUS.commit_pending path) = true ∧
      s.onlyFields t [DDC_STATUS.reg path]) ∧
  (∀ (s : State) (p : Port) (path : Fin 4) (v : Word), s.accepts p (DDC_COMMIT.reg path).addr none →
    bit v.toNat 0 = false ∨ s.wideUpper path = true → exec (.ddcCommit p path v) s = .next { s with bus := .ok }) ∧
  (∀ (s : State) (path : Fin 4), s.flag (DDC_STATUS.commit_pending path) = false ∨ s.wideUpper path = true →
    exec (.ddcCommitApply path) s = .next s) ∧
  (∀ (s : State) (path : Fin 4), s.flag (DDC_STATUS.commit_pending path) = true → (s.path path).img.isSome = true →
    s.up .fabric = true → s.wideUpper path = false → (List.range 8).any (s.pathCfg path).tooDeep = true →
    ∃ t, exec (.ddcCommitApply path) s = .next t ∧ t.flag (DDC_STATUS.commit_refused path) = true ∧
      t.flag (DDC_STATUS.commit_pending path) = false ∧ (t.ddcOf path).cfgs = (s.ddcOf path).cfgs ∧ s.raised (136 + path) t) ∧
  (∀ (s : State) (path : Fin 4), s.flag (DDC_STATUS.commit_pending path) = true → (s.path path).img.isSome = true →
    s.up .fabric = true → s.wideUpper path = false → (List.range 8).any (s.pathCfg path).tooDeep = false →
    State.xfTooFast (s.pathCfg path) (s.pathFs24 path) = false →
    (List.range 8).any (fun i => s.xfBreaks path (s.pathCfg path) i) = false → s.chzBreaks path (s.pathCfg path) = false →
    ∃ t, exec (.ddcCommitApply path) s = .next t ∧ t.f (DDC_COMMIT_INDEX.reg path) = s.nextSample path % 2 ^ 64 ∧
      t.flag (DDC_STATUS.commit_pending path) = false ∧ s.raised (144 + path) t)

/-- R245 to R247: a request for a fade to the other bank waits for the first output at or after the next block; one that comes
while another waits or fades is pending, and one for the bank in force is dropped and counted. The output that begins the fade
switches the active bank, and ZM_FADE_START shows its index; the end raises event 128 + p, and a pending request then counts as
newly written. A coefficient is written at the index of the inactive bank, a read gives it, and
the index goes on by one. -/
def Obligations.ZoomBanksFadeAndTakeCoefficients : Prop :=
  (∀ (s : State) (p : Port) (path : Fin 4) (w : Fin 8) (v : Word), s.accepts p (ZM_SWAP.reg path w).addr none →
    s.winUsed path w = true → (s.win path w).fade = none → (s.win path w).want = none →
    s.flag (ZM_BANK.active path w) ≠ bit v.toNat 30 →
    ∃ t, exec (.zmSwap p path w v) s = .next t ∧ t.bus = .ok ∧ t.regs = s.regs ∧
      (t.win path w).want = some (bit v.toNat 30, v.toNat % 2 ^ 16 + 1, s.nextSample path)) ∧
  (∀ (s : State) (p : Port) (path : Fin 4) (w : Fin 8) (v : Word), s.accepts p (ZM_SWAP.reg path w).addr none →
    s.winUsed path w = true →
    ((s.win path w).fade.isSome = true ∨ (s.win path w).want.isSome = true →
      ∃ t, exec (.zmSwap p path w v) s = .next t ∧ t.bus = .ok ∧ t.flag (ZM_BANK.pending path w) = true ∧
        t.flag (ZM_BANK.pending_target path w) = bit v.toNat 30 ∧ s.onlyFields t [ZM_BANK.reg path w] ∧
        (t.win path w).pending = some (bit v.toNat 30, v.toNat % 2 ^ 16 + 1)) ∧
    ((s.win path w).fade = none → (s.win path w).want = none → s.flag (ZM_BANK.active path w) = bit v.toNat 30 →
      ∃ t, exec (.zmSwap p path w v) s = .next t ∧ t.bus = .ok ∧ t.ddc = s.ddc ∧
        t.f (ZM_BANK.dropped path w) = min 255 (s.f (ZM_BANK.dropped path w) + 1) ∧ s.onlyFields t [ZM_BANK.reg path w])) ∧
  (∀ (s : State) (path : Fin 4) (w : Fin 8) (ix : Nat) (f : Fade), (s.win path w).fade = some f →
    (s.win path w).began = some ix → ix < 2 ^ 64 →
    (∃ t, exec (.zmFadeStart path w ix) s = .next t ∧ t.flag (ZM_BANK.active path w) = f.target ∧
      t.flag (ZM_BANK.fading path w) = true ∧ t.f (ZM_FADE_START.reg path w) = ix ∧ (t.win path w).began = none ∧
      (t.win path w).fade = some f ∧ s.onlyFields t [ZM_BANK.reg path w, ZM_FADE_START.reg path w]) ∧
    (∀ k, k ≠ ix → exec (.zmFadeStart path w k) s = .next s) ∧ exec (.zmFadeDone path w) s = .next s) ∧
  (∀ (s : State) (path : Fin 4) (w : Fin 8) (f : Fade), (s.win path w).fade = some f → (s.win path w).began = none →
    (f.done < f.len → exec (.zmFadeDone path w) s = .next s) ∧
    (f.len ≤ f.done →
      ∃ t, exec (.zmFadeDone path w) s = .next t ∧ t.flag (ZM_BANK.fading path w) = false ∧ (t.win path w).fade = none ∧
        s.raised (128 + path) t ∧ s.onlyFieldsEvents t [ZM_BANK.reg path w] ∧
        (∀ b len, (s.win path w).pending = some (b, len) → (s.win path w).want = none → s.flag (ZM_BANK.active path w) ≠ b →
          (t.win path w).want = some (b, len, s.nextSample path)))) ∧
  (∀ (s : State) (p : Port) (path : Fin 4) (w : Fin 8) (v : Word), s.accepts p (ZM_COEF_DATA.reg path w).addr none →
    s.winUsed path w = true → (s.win path w).fade = none →
    s.flag (ZM_BANK.active path w) ≠ s.flag (ZM_COEF_ADDR.bank path w) →
    ∃ t, exec (.zmCoefAccess p path w (some v)) s = .next t ∧ t.bus = .ok ∧
      Tab.get 0 (if s.flag (ZM_COEF_ADDR.bank path w) then (t.win path w).bankB else (t.win path w).bankA)
        (s.f (ZM_COEF_ADDR.index path w)) = BitVec.ofNat 18 v.toNat ∧
      t.f (ZM_COEF_ADDR.index path w) = (s.f (ZM_COEF_ADDR.index path w) + 1) % 2 ^ 15 ∧
      s.onlyFields t [ZM_COEF_ADDR.reg path w]) ∧
  (∀ (s : State) (p : Port) (path : Fin 4) (w : Fin 8), s.reachable (ZM_COEF_DATA.reg path w).addr = true →
    s.winUsed path w = true → s.flag (ZM_COEF_ADDR.bank path w) = false →
    ∃ t, exec (.zmCoefAccess p path w none) s = .next t ∧
      t.bus = .words [((s.win path w).bankA.get 0 (s.f (ZM_COEF_ADDR.index path w))).zeroExtend 32] ∧
      t.f (ZM_COEF_ADDR.index path w) = (s.f (ZM_COEF_ADDR.index path w) + 1) % 2 ^ 15 ∧
      s.onlyFields t [ZM_COEF_ADDR.reg path w])

/-- R263, R266, R268 to R273, R277, R279, R283: a frame whose samples are all there is counted in XF_COUNT; the oldest ended
interval, kurtosis block, integral and envelope record is delivered and counted in its own register. A write of hold_reset
marks the hold detector for the next boundary. -/
def Obligations.TransformProductsAreCounted : Prop :=
  (∀ (s : State) (path : Fin 4) (i : Fin 8) (g : XfGrid) (gs : List XfGrid), (s.inst path i).grids = g :: gs →
    ((s.inst path i).buf.filter fun y => decide (g.k0 + g.frame * State.hopOf g.cfg ≤ y.n ∧
      y.n < g.k0 + g.frame * State.hopOf g.cfg + 2 ^ g.cfg.nLog2)).length = 2 ^ g.cfg.nLog2 →
    ∃ t, exec (.spectrumProduce path i) s = .next t ∧ t.f (XF_COUNT.reg path i) = (s.f (XF_COUNT.reg path i) + 1) % 2 ^ 64) ∧
  (∀ (s : State) (path : Fin 4) (i : Fin 8) (d : DetIval) (ds : List DetIval), (s.inst path i).det.ended = d :: ds →
    ∃ t, exec (.detIntervalEnd path i) s = .next t ∧ (t.inst path i).det.ended = ds ∧
      t.f (DET_INTERVALS.reg path i) = (s.f (DET_INTERVALS.reg path i) + 1) % 2 ^ 64 ∧
      s.onlyFieldsEvents t [DET_INTERVALS.reg path i, GLB_GAP_OPEN.reg path]) ∧
  (∀ (s : State) (p : Port) (path : Fin 4) (i : Fin 8) (v : Word), s.accepts p (DET_CTL.reg path i).addr none →
    (s.xfCfg path i).source ≠ 0 →
    ∃ t, exec (.detHoldReset p path i v) s = .next t ∧ t.bus = .ok ∧ (t.inst path i).det.holdReset = true ∧
      t.f (DET_CTL.k_m1 path i) = v.toNat % 2 ^ 16 ∧ s.onlyFields t [DET_CTL.reg path i]) ∧
  (∀ (s : State) (path : Fin 4) (b : SkBlk) (bs : List SkBlk), (s.xfOf path).sk.ended = b :: bs →
    ∃ t, exec (.skBlockEnd path) s = .next t ∧ (t.xfOf path).sk.ended = bs ∧
      t.f (SK_BLOCKS.reg path) = (s.f (SK_BLOCKS.reg path) + 1) % 2 ^ 32 ∧
      s.onlyFieldsEvents t [SK_BLOCKS.reg path, SK_STATUS.reg path, GLB_GAP_OPEN.reg path]) ∧
  (∀ (s : State) (path : Fin 4) (x : ChzInt) (xs : List ChzInt), (s.xfOf path).chz.ended = x :: xs →
    ∃ t, exec (.chzIntegralEnd path) s = .next t ∧ (t.xfOf path).chz.ended = xs ∧
      t.f (CHZ_LAST.reg path) = x.number % 2 ^ (CHZ_LAST.reg path).width ∧ s.raised (160 + path) t ∧
      s.onlyFieldsEvents t [CHZ_LAST.reg path, CHZ_SAT.reg path, GLB_GAP_OPEN.reg path]) ∧
  (∀ (s : State) (path : Fin 4) (r : EnvRec) (rs : List EnvRec), (s.xfOf path).env.ended = r :: rs →
    ∃ t, exec (.envRecordClose path) s = .next t ∧ (t.xfOf path).env.ended = rs ∧
      t.f (TRN_ENV_COUNT.reg path) = (s.f (TRN_ENV_COUNT.reg path) + 1) % 2 ^ 64 ∧
      s.onlyFieldsEvents t [TRN_ENV_COUNT.reg path, GLB_GAP_OPEN.reg path])

/-! ### Density tables and masks -/

/-- R299, R302 to R309: a spectrum that a table takes is counted, in KAL_EXCLUDED while the table is frozen; once the period of
its decay has passed a sweep starts with its shift, or is counted as skipped while non-real-time work is stopped; 1.05 ms after
its start every column has been stepped, and at its end those that were not yet are, and it is counted. A freeze is ready, and a clear is done, with event 170 + k; a clear of KAL_0 reaches both tables
while they are ganged (the model's reading, log entry 77). -/
def Obligations.DensityTablesCountDecayFreezeAndClear : Prop :=
  (∀ (s b : State) (k : Fin 2) (x : Parcel) (bad : List Nat) (sp : Spectrum), s.up .fabric = true →
    s.ofInst x (s.fa (KAL_CTL.path (s.kalSrc k))) (s.fa (KAL_CTL.inst (s.kalSrc k))) = true → b = s.kalBoundary k →
    b.ganged = false → b.fa (KAL_CTL.en k) = 1 → b.ofInst x (b.fa (KAL_CTL.path k)) (b.fa (KAL_CTL.inst k)) = true →
    b.spectrumAt x.path (b.fa (KAL_CTL.inst k)) x.seq = some sp →
    sp.frame % b.kalDecim k x.path (b.fa (KAL_CTL.inst k)) sp.v.length = 0 →
    ∃ t, exec (.kalSpectrum k x bad) s = .next t ∧
      (b.fa (KAL_CTL.freeze k) = 1 → t.f (KAL_EXCLUDED.reg k) = min (2 ^ 32 - 1) (s.f (KAL_EXCLUDED.reg k) + 1) ∧
        t.f (KAL_SPECTRA.reg k) = s.f (KAL_SPECTRA.reg k)) ∧
      (b.fa (KAL_CTL.freeze k) = 0 → b.fa (KAL_CTL.excl k) = 0 →
        t.f (KAL_SPECTRA.reg k) = (s.f (KAL_SPECTRA.reg k) + 1) % 2 ^ 64)) ∧
  (∀ (s : State) (k : Fin 2), s.decayDue k = false → exec (.kalDecaySweep k) s = .next s) ∧
  (∀ (s : State) (k : Fin 2), s.decayDue k = true → s.flag GLB_PCLK.nrt_stopped = true →
    s.f (KAL_DECAY.mode (s.kalSrc k)) = 1 → s.up .fabric = true →
    ∃ t, exec (.kalDecaySweep k) s = .next t ∧ t.f (KAL_SWEEPS.skipped k) = (s.f (KAL_SWEEPS.skipped k) + 1) % 65536 ∧
      t.kalOf k = { s.kalOf k with periodFrom := s.time.clk } ∧ s.onlyFields t [KAL_SWEEPS.reg k]) ∧
  (∀ (s : State) (k : Fin 2), s.decayDue k = true → s.flag GLB_PCLK.nrt_stopped = false →
    s.f (KAL_DECAY.mode (s.kalSrc k)) = 1 → s.up .fabric = true → s.fa (KAL_CTL.freeze (s.kalSrc k)) = 0 →
    (s.kalOf k).sweep = none →
    ∃ t, exec (.kalDecaySweep k) s = .next t ∧ t.regs = s.regs ∧ (t.kalOf k).periodFrom = s.time.clk ∧
      (t.kalOf k).sweep = some { shift := max 1 (min 16 (s.f (KAL_DECAY.shift (s.kalSrc k)))), start := s.time.clk, column := 0 }) ∧
  (∀ (s : State) (k : Fin 2) (w : DecaySweep), (s.kalOf k).sweep = some w → s.up .fabric = true →
    ∃ t, exec (.kalDecaySweepDone k) s = .next t ∧ (t.kalOf k).sweep = none ∧
      (t.kalOf k).cells = State.decayCells w.shift w.column 4096 (s.kalOf k).cells ∧
      t.f (KAL_SWEEPS.done k) = (s.f (KAL_SWEEPS.done k) + 1) % 65536 ∧
      ((s.kalOf k).spoilt = [] → s.onlyFields t [KAL_SWEEPS.reg k])) ∧
  (∀ (s : State) (k : Fin 2) (w : DecaySweep), s.pending = [] → (s.kalOf k).sweep = some w → s.up .fabric = true →
    w.start + 2688000 ≤ s.time.clk → w.column < 4096 →
    ∃ t, step s = .next t ∧ (t.kalOf k).cells = State.decayCells w.shift w.column 4096 (s.kalOf k).cells ∧
      (t.kalOf k).sweep = some { w with column := 4096 }) ∧
  (∀ (s : State) (p : Port) (k : Fin 2) (v : Word), s.accepts p (KAL_CTL.reg k).addr none →
    s.instUsed (bits v.toNat 8 2) (bits v.toNat 10 3) = true →
    (∃ t, exec (.kalFreeze p k v) s = .next t ∧ t.bus = .ok ∧ t.flag (KAL_CTL.freeze k) = true ∧
      t.f (KAL_CTL.path k) = bits v.toNat 8 2 ∧ t.f (KAL_CTL.inst k) = bits v.toNat 10 3 ∧ s.onlyFields t [KAL_CTL.reg k]) ∧
    (∃ t, exec (.kalClear p k v) s = .next t ∧ t.bus = .ok ∧
      (∀ j : Fin 2, (if s.ganged = true then k = 0 else j = k) → (t.kalOf j).clearAsked = true) ∧ s.onlyFields t [KAL_CTL.reg k])) ∧
  (∀ (s : State) (k : Fin 2), s.flag (KAL_CTL.freeze (s.kalSrc k)) = true → s.flag (KAL_STATUS.ready k) = false →
    (s.kalOf k).clearAsked = false → (s.kalOf k).sweep = none → s.flag (KAL_STATUS.clearing k) = false →
    ∃ t, exec (.kalReady k) s = .next t ∧ t.flag (KAL_STATUS.ready k) = true ∧ s.raised (170 + k) t) ∧
  (∀ (s : State) (k : Fin 2), s.flag (KAL_STATUS.clearing k) = true → (s.kalOf k).clearAsked = false →
    ∃ t, exec (.kalClearDone k) s = .next t ∧ t.flag (KAL_STATUS.clearing k) = false ∧ s.raised (170 + k) t ∧
      s.onlyFieldsEvents t [KAL_STATUS.reg k])

/-- R315 to R319: a swap that is due happens at the spectrum, with its index; a spectrum shorter than the mask sets
mismatch, with event 176. A request for a swap to the other copy waits in MSK_STATE. -/
def Obligations.MasksSwapAndSeeMismatches : Prop :=
  (∀ (s : State) (m : Fin 64) (x : Parcel) (bad : List Nat) (sp : Spectrum), (s.mskOf m).bindAt = none →
    s.fa (MSK_BIND.en m) = 1 → s.ofInst x (s.fa (MSK_BIND.path m)) (s.fa (MSK_BIND.inst m)) = true →
    s.spectrumAt x.path (s.fa (MSK_BIND.inst m)) x.seq = some sp → s.flag (MSK_STATE.pending m) = false →
    sp.v.length < 2 ^ s.fa (MSK_BIND.len_log2 m) → s.flag (MSK_STATE.mismatch m) = false →
    ∃ t, exec (.mskEvaluate m x bad) s = .next t ∧ t.flag (MSK_STATE.mismatch m) = true ∧ s.raised 176 t ∧
      s.onlyFieldsEvents t [MSK_STATE.reg m]) ∧
  (∀ (s : State) (m : Fin 64) (x : Parcel) (bad : List Nat) (sp : Spectrum), (s.mskOf m).bindAt = none →
    s.fa (MSK_BIND.en m) = 1 → s.ofInst x (s.fa (MSK_BIND.path m)) (s.fa (MSK_BIND.inst m)) = true →
    s.spectrumAt x.path (s.fa (MSK_BIND.inst m)) x.seq = some sp → s.flag (MSK_STATE.pending m) = true →
    (s.mskOf m).swapAt ≤ x.seq →
    ∃ t, exec (.mskEvaluate m x bad) s = .next t ∧ t.f (MSK_STATE.active m) = s.f (MSK_STATE.pending_target m) ∧
      t.flag (MSK_STATE.pending m) = false ∧ t.f (MSK_SWAP_INDEX.reg m) = x.seq % 2 ^ 64 ∧
      (2 ^ s.fa (MSK_BIND.len_log2 m) ≤ sp.v.length → (t.mskOf m).result.isSome = true)) ∧
  (∀ (s : State) (p : Port) (v : Word), s.accepts p MSK_SWAP.reg.addr (some 7) →
    s.f (MSK_STATE.active (v.toNat % 64)) ≠ bits v.toNat 30 1 →
    ∃ t, exec (.mskSwap p v) s = .next t ∧ t.bus = .ok ∧ t.flag (MSK_STATE.pending (v.toNat % 64)) = true ∧
      t.f (MSK_STATE.pending_target (v.toNat % 64)) = bits v.toNat 30 1 ∧ s.onlyFields t [MSK_STATE.reg (v.toNat % 64)])

/-! ### Triggers and captures -/

/-- R325 to R331, R335 to R339: an inactive condition is not raw and evaluates nothing. The points that are due are evaluated in
order, an IQ sample by its index and a report by its place: a level that is crossed, or a kurtosis count that is reached, makes
the condition raw and its occurrence waits. Nothing is decided before every source has reported; at a decision the occurrences up to its time leave the queue, and one of an armed condition is a firing, counted in
TRG_FIRED. A write of TRG_COND takes the condition and its arm bit, or is refused for an unlisted kind; a force gives every
condition of its mask an occurrence; windows that no occurrence can meet lapse. -/
def Obligations.ConditionsEvaluateAndDecide : Prop :=
  (∀ (s : State) (c : Fin 64) (e : EvalPoint), s.up .fabric = true → s.condInactive c = true →
    ∃ t, exec (.trgEvaluate c e) s = .next t ∧ t.flag (TRG_STATUS.inactive c) = true ∧ t.flag (TRG_STATUS.raw c) = false ∧
      (t.cond c).raw = false ∧ (t.cond c).due = [] ∧ s.onlyFields t [TRG_STATUS.reg c]) ∧
  (∀ (s : State) (c : Fin 64) (pos : Nat) (v : IQ) (ds : List EvalDue), s.up .fabric = true → s.condInactive c = false →
    (s.cond c).due = .iq pos v :: ds →
    (s.f (TRG_COND.mode c) = 0 → (s.cond c).raw = false → s.f (TRG_PARAM.hi c) ≤ levelWord (power4 v) →
      ∃ t, exec (.trgEvaluate c (.iq (pos / posUnit))) s = .next t ∧ t.flag (TRG_STATUS.inactive c) = false ∧
        t.flag (TRG_STATUS.raw c) = true ∧ (t.cond c).raw = true ∧ (t.cond c).due = ds ∧
        (∃ o, t.trg.queue = s.trg.queue ++ [o] ∧ o.cond = c.val ∧
          (o.index, o.frac) = State.crossAt (s.cond c).prev (s.f (TRG_PARAM.hi c)) pos (power4 v)) ∧
        s.onlyFields t [TRG_STATUS.reg c]) ∧
    (∀ e : EvalPoint, e ≠ .iq (pos / posUnit) →
      ∃ t, exec (.trgEvaluate c e) s = .next t ∧ t.flag (TRG_STATUS.inactive c) = false ∧ t.trg = s.trg ∧
        s.onlyFields t [TRG_STATUS.reg c])) ∧
  (∀ (s : State) (c : Fin 64) (first flags k : Nat) (ds : List EvalDue), s.up .fabric = true → s.condInactive c = false →
    (s.cond c).due = .kurtosis first flags (some k) :: ds → (s.cond c).raw = false →
    ∃ t, exec (.trgEvaluate c .report) s = .next t ∧ (t.cond c).due = ds ∧
      t.flag (TRG_STATUS.raw c) = decide (s.f (TRG_PARAM.lo c) ≤ k) ∧
      (k < s.f (TRG_PARAM.lo c) → t.trg.queue = s.trg.queue) ∧
      (s.f (TRG_PARAM.lo c) ≤ k →
        ∃ o, t.trg.queue = s.trg.queue ++ [o] ∧ o.cond = c.val ∧ o.index = first ∧ o.flags = flags) ∧
      s.onlyFields t [TRG_STATUS.reg c]) ∧
  (∀ (s : State) (at_ : Stamp),
    (s.up .fabric = true → s.f PWR_STATE.state = 0 → s.allReported at_.bins = true →
      ∃ t, exec (.trgDecide at_) s = .next t ∧
        t.trg.queue = s.trg.queue.filter fun o => !decide (State.occBins o ≤ at_.bins)) ∧
    (s.up .fabric = false ∨ s.f PWR_STATE.state ≠ 0 ∨ s.allReported at_.bins = false →
      exec (.trgDecide at_) s = .next s)) ∧
  (∀ (s : State) (at_ : Stamp) (c : Fin 64) (o : Occ), s.up .fabric = true → s.f PWR_STATE.state = 0 →
    s.allReported at_.bins = true → s.trg.queue = [o] → o.cond = c.val → o.by_ = .index → State.occBins o ≤ at_.bins →
    s.f (TRG_COND.kind c) ≠ 0 → s.armedAt (s.homeOf c) (s.cond c) o.index = true → (s.cond c).last = none →
    ∃ t, exec (.trgDecide at_) s = .next t ∧ t.f (TRG_FIRED.reg c) = min (2 ^ 32 - 1) (s.f (TRG_FIRED.reg c) + 1)) ∧
  (∀ (s : State) (p : Port) (c : Fin 64) (v : Word), s.accepts p (TRG_COND.reg c).addr none →
    s.ensScoped ENS_SCOPE_COND.reg c = false → bits v.toNat 24 4 = 5 →
    ∃ t, exec (.trgArmWrite p c v) s = .next t ∧ t.bus = .ok ∧ t.f (TRG_COND.kind c) = 5 ∧
      t.f (TRG_COND.sel c) = v.toNat % 256 ∧ t.flag (TRG_COND.armed c) = bit v.toNat 31 ∧
      s.onlyFields t [TRG_COND.reg c, TRG_STATUS.reg c]) ∧
  (∀ (s : State) (p : Port) (c : Fin 64) (v : Word), s.accepts p (TRG_COND.reg c).addr none →
    s.ensScoped ENS_SCOPE_COND.reg c = false → 8 < bits v.toNat 24 4 →
    ∃ t, exec (.trgArmWrite p c v) s = .next t ∧ t.bus = .ok ∧ t.flag (TRG_STATUS.refused c) = true ∧
      s.onlyFields t [TRG_STATUS.reg c]) ∧
  (∀ (s : State) (p : Port) (hi : Bool) (v : Word), s.accepts p (if hi then TRG_FORCE_HI.reg.addr else TRG_FORCE_LO.reg.addr) none →
    ∃ t, exec (.trgForce p hi v) s = .next t ∧ t.bus = .ok ∧ t.regs = s.regs ∧
      t.trg.queue = s.trg.queue ++ (bitList 32 v.toNat).map fun c =>
        { cond := c + 32 * b2n hi, index := 0, frac := 0, tick := s.now.tick, phase := s.now.phase, flags := 0,
          inGap := false, by_ := .forced }) ∧
  (∀ (s : State) (c : Fin 64), ∃ t, exec (.seqWindowLapse c) s = .next t ∧ t.regs = s.regs ∧
    (t.cond c).windows = (s.cond c).windows.filter fun w =>
      decide (s.now.bins ≤ w.hi) || s.trg.queue.any fun o => decide (State.occBins o ≤ w.hi))

/-- R340, R342, R353, R354: an arm that fits arms a region; a disarm disarms an armed region and waits for a busy one; at the end
of the busy span the region is armed again, or free. A reset empties the averager. -/
def Obligations.RegionsArmDisarmAndRearm : Prop :=
  (∀ (s u : State) (p : Port) (r : Fin 64) (v : Word), s.accepts p (TRG_RGN_CTL.reg r).addr none →
    s.ensScoped ENS_SCOPE_RGN.reg r = false → s.rgnState r = 0 → bit v.toNat 0 = false → bit v.toNat 30 = false →
    u = (s.complete .ok).plainWrite (TRG_RGN_CTL.reg r).addr (v.toNat ||| 2 ^ 31) → u.armFits r = true →
    (u.capMode r = 2 ∨ u.fmtSuits r = true) →
    ∃ t, exec (.trgRgnArm p r v) s = .next t ∧ t.bus = .ok ∧ t.rgnState r = 1 ∧
      (t.region r).since = s.indexAfter (bits v.toNat 20 2) s.now.bins ∧
      (t.region r).spans = (s.indexAfter (bits v.toNat 20 2) s.now.bins, none) :: (s.region r).spans ∧
      t.f (TRG_RGN_CTL.path r) = bits v.toNat 20 2 ∧ s.onlyFields t (TRG_RGN_CTL.reg r :: s.statusOf r)) ∧
  (∀ (s : State) (p : Port) (r : Fin 64) (v : Word), s.accepts p (TRG_RGN_CTL.reg r).addr none →
    s.ensScoped ENS_SCOPE_RGN.reg r = false → bit v.toNat 0 = false → bit v.toNat 31 = false →
    ∃ t, exec (.trgRgnDisarm p r v) s = .next t ∧ t.bus = .ok ∧ (s.rgnState r = 1 → t.rgnState r = 0) ∧
      (s.rgnState r = 2 → t.rgnState r = 2 ∧ (t.region r).disarmPending = true) ∧
      s.onlyFields t (TRG_RGN_CTL.reg r :: s.statusOf r)) ∧
  (∀ (s : State) (r : Fin 64), s.rgnState r = 2 →
    s.holdOver r (s.indexAfter (s.f (TRG_RGN_CTL.path r)) s.now.bins) 0 s.now.bins = true → (s.region r).captures = [] →
    s.avgWaits r = false →
    ∃ t, exec (.trgRgnHoldEnd r) s = .next t ∧
      t.rgnState r = (if (s.region r).disarmPending = false ∧ s.flag (TRG_RGN_CTL.rearm r) = true then 1 else 0) ∧
      (t.region r).disarmPending = false ∧ s.onlyFields t (TRG_RGN_CTL.reg r :: s.statusOf r)) ∧
  (∀ (s : State) (p : Port) (path : Fin 4) (v : Word), s.accepts p (TRG_AVG_CTL.reg path).addr none →
    ∃ t, exec (.trgAvgReset p path v) s = .next t ∧ t.bus = .ok ∧ t.f (TRG_AVG_STATUS.added path) = 0 ∧
      t.f (TRG_AVG_CTL.a_m1 path) = v.toNat % 65536 ∧ (t.avgOf path).sums = [] ∧
      s.onlyFields t [TRG_AVG_CTL.reg path, TRG_AVG_STATUS.reg path])

/-- R345 to R348: an edge of an enabled trigger input shows whether the level is the active one and is kept; one within the
hold-off is counted as crowded and marks the next; of an input that is not enabled the pin's level is kept, and nothing else; a
stuck input is stuck until it goes inactive, and none of its edges is kept.
An input that has been active for longer than its timeout is stuck, in every condition that takes it too. A due pulse drives its output for its width, then the
output goes back to its inactive level. -/
def Obligations.TriggerPinsAct : Prop :=
  (∀ (s : State) (j : Fin 4) (high : Bool) (tick : Nat) (bin : Fin 64), s.up .fabric = true →
    s.flag (TRG_IN_CTL.en j) = true →
    ∃ t, exec (.triginEdge j high tick bin) s = .next t ∧
      t.flag (TRG_IN_STATUS.level j) = (high != s.flag (TRG_IN_CTL.pol j)) ∧
      (s.flag (TRG_IN_STATUS.stuck j) = true → t.flag (TRG_IN_STATUS.stuck j) = (high != s.flag (TRG_IN_CTL.pol j)) ∧
        (t.trgIn j).last = (s.trgIn j).last) ∧
      (s.flag (TRG_IN_STATUS.stuck j) = false →
        State.crowds (s.trgIn j).last (s.edgeStamp (18 + j) tick bin 0).bins (s.f (TRG_IN_CTL.holdoff j)) = true →
        t.f (TRG_IN_STATUS.crowded j) = min 65535 (s.f (TRG_IN_STATUS.crowded j) + 1) ∧ (t.trgIn j).marked = true ∧
        s.onlyFieldsEvents t [TRG_IN_STATUS.reg j]) ∧
      (s.flag (TRG_IN_STATUS.stuck j) = false →
        State.crowds (s.trgIn j).last (s.edgeStamp (18 + j) tick bin 0).bins (s.f (TRG_IN_CTL.holdoff j)) = false →
        (t.trgIn j).last = some (s.edgeStamp (18 + j) tick bin 0) ∧ (t.trgIn j).marked = false)) ∧
  (∀ (s : State) (j : Fin 4) (high : Bool) (tick : Nat) (bin : Fin 64),
    s.up .fabric = false ∨ s.flag (TRG_IN_CTL.en j) = false →
    exec (.triginEdge j high tick bin) s = .next (s.setTrgIn j { s.trgIn j with pin := high })) ∧
  (∀ (s : State) (j : Fin 4), s.flag (TRG_IN_CTL.en j) = true → s.flag (TRG_IN_STATUS.level j) = true →
    s.flag (TRG_IN_STATUS.stuck j) = false →
    (State.stuckOver (s.trgIn j).activeAt s.time.clk (s.f (TRG_IN_STUCK.stuck_us j)) = false →
      exec (.triginStuck j) s = .next s) ∧
    (State.stuckOver (s.trgIn j).activeAt s.time.clk (s.f (TRG_IN_STUCK.stuck_us j)) = true →
      ∃ t, exec (.triginStuck j) s = .next t ∧ t.flag (TRG_IN_STATUS.stuck j) = true ∧
        (∀ c : Fin 64, s.f (TRG_COND.kind c) = 5 → s.f (TRG_COND.sel c) = j.val → t.flag (TRG_STATUS.stuck c) = true))) ∧
  (∀ (s : State) (o : Fin 4) (d : Nat) (ds : List Nat), (s.trgOut o).due = d :: ds → d ≤ s.now.tick →
    s.flag (TRG_OUT_CTL.oe o) = true → s.f PWR_STATE.state = 0 →
    ∃ t, exec (.trigoutAligned o) s = .next t ∧ t.trgOut o =
      { drive := s.outDrive o true, stop := some (s.now.tick + max 1 (s.f (TRG_OUT_CTL.width o))), due := ds } ∧
      t.regs = s.regs) ∧
  (∀ (s : State) (o : Fin 4) (d : Nat), (s.trgOut o).stop = some d → d ≤ s.now.tick →
    ∃ t, exec (.trigoutPulseEnd o) s = .next t ∧
      t.trgOut o = { drive := s.outDrive o false, stop := none, due := (s.trgOut o).due } ∧ t.regs = s.regs)

/-- R366, R372, R375: a whole parcel that a region takes in its open span goes on its ring, and CAP_REGION_WRITTEN goes on by its
length; no byte outside the region changes, and with every span closed nothing is written. A capture that has not got its last
unit waits. The end of a capture counts its record, with event 448 + r. -/
def Obligations.CapturesAreWrittenAndRecorded : Prop :=
  (∀ (s : State) (r : Fin 64) (x : Parcel), s.regionExists r = true → s.capMode r < 2 →
    s.flag (CAP_REGION_STATUS.full r) = false → x.path = s.f (TRG_RGN_CTL.path r) →
    x.stream = s.f (CAP_REGION_SRC.stream r) → x.kind ≠ .gap → s.capFmt r = 0 → s.protectLimit r = none →
    s.flag (TRG_RGN_CTL.avg r) = false → ∀ a₀, a₀ ≤ x.seq → (s.region r).spans = [(a₀, none)] →
    ∃ t, exec (.capFormatUnit r x) s = .next t ∧ (t.region r).units = (s.region r).units + 1 ∧
      t.f (CAP_REGION_WRITTEN.reg r) = (s.f (CAP_REGION_WRITTEN.reg r) + x.bytes.length) % 2 ^ 64 ∧
      (∀ a, a < s.regionBase r ∨ s.regionBase r + s.regionSize r ≤ a → t.sdram.get 0 a = s.sdram.get 0 a) ∧
      s.onlyFields t (CAP_REGION_WRITTEN.reg r :: s.statusOf r)) ∧
  (∀ (s : State) (r : Fin 64) (x : Parcel), s.flag (TRG_RGN_CTL.avg r) = false →
    (∀ y ∈ (s.region r).spans, State.spanOpen x.seq y = false) →
    ∃ t, exec (.capFormatUnit r x) s = .next t ∧ t.regs = s.regs ∧ t.sdram = s.sdram) ∧
  (∀ (s : State) (r : Fin 64), (∀ c ∈ (s.region r).captures.head?, s.capSpan r c = none) →
    exec (.capCaptureEnd r) s = .next s) ∧
  (∀ (s : State) (r : Fin 64) (c : Capture) (cs : List Capture) (u start stop : Nat), (s.region r).captures = c :: cs →
    s.capSpan r c = some (u, start, stop) →
    ∃ t, exec (.capCaptureEnd r) s = .next t ∧ (t.region r).captures = cs ∧
      t.f (CAP_REGION_RECS.reg r) = (s.f (CAP_REGION_RECS.reg r) + 1) % 2 ^ 32 ∧ s.raised (448 + r) t)

/-- R361 to R364, R373, R375, R376: a write of CAP_ALLOC gives the code of R362. With code OK a create makes the region with the base
and the size written; a resize keeps the base; a free ends the region; CAP_REGION_WRITTEN starts at 0, memory stays as it is, and a
capture that waits for its record ends first (log entry 24). With another code nothing else changes. A write of CAP_REGION_ACK
that leaves no protected capture in the way lets a full region take units again, the pre-trigger count starting from the next unit;
while one stands in the way the region stays full. A write of the low word of CAP_BAR4_WIN moves the port's window to a multiple of
1 MiB, with the high word written before it; the high word alone waits. -/
def Obligations.RegionsAreAllocatedAndAcknowledged : Prop :=
  (∀ (s : State) (p : Port) (v : Word) (r : Nat), s.accepts p CAP_ALLOC.reg.addr (some 6) → r = v.toNat % 64 →
    (∃ t, exec (.capAllocCreate p v) s = .next t ∧ t.bus = .ok ∧ t.f CAP_ALLOC_STATUS.region = r ∧
      t.f CAP_ALLOC_STATUS.code = s.allocCode 1 r ∧
      (s.allocCode 1 r ≠ 0 → t.regions = s.regions ∧ t.sdram = s.sdram ∧ s.onlyFields t [CAP_ALLOC_STATUS.reg]) ∧
      (s.allocCode 1 r = 0 → t.regionExists r = true ∧ t.regionBase r = s.f (CAP_REGION_BASE.reg r) ∧
        t.regionSize r = 2 ^ s.f (CAP_REGION_SIZE.size_log2 r) ∧ t.f (CAP_REGION_WRITTEN.reg r) = 0 ∧
        t.flag (CAP_REGION_STATUS.full r) = false ∧
        ((s.region r).captures = [] → t.sdram = s.sdram ∧
          ((s.region r).recLease = none → (∀ a < 64, s.f (CAP_REGION_SRC.rec_region a) = r → (s.region a).recLease = none) →
            s.onlyFields t (CAP_ALLOC_STATUS.reg :: CAP_REGION_WRITTEN.reg r :: (List.range 64).flatMap s.statusOf))))) ∧
    (∃ t, exec (.capAllocResize p v) s = .next t ∧ t.bus = .ok ∧ t.f CAP_ALLOC_STATUS.region = r ∧
      t.f CAP_ALLOC_STATUS.code = s.allocCode 2 r ∧
      (s.allocCode 2 r ≠ 0 → t.regions = s.regions ∧ t.sdram = s.sdram ∧ s.onlyFields t [CAP_ALLOC_STATUS.reg]) ∧
      (s.allocCode 2 r = 0 → t.regionBase r = s.regionBase r ∧
        t.regionSize r = 2 ^ s.f (CAP_REGION_SIZE.size_log2 r) ∧ t.f (CAP_REGION_WRITTEN.reg r) = 0 ∧
        t.flag (CAP_REGION_STATUS.full r) = false ∧ (t.region r).captures = [] ∧
        ((s.region r).captures = [] → t.sdram = s.sdram ∧
          s.onlyFields t (CAP_ALLOC_STATUS.reg :: CAP_REGION_WRITTEN.reg r :: s.statusOf r)))) ∧
    (∃ t, exec (.capAllocFree p v) s = .next t ∧ t.bus = .ok ∧ t.f CAP_ALLOC_STATUS.region = r ∧
      t.f CAP_ALLOC_STATUS.code = s.allocCode 3 r ∧
      (s.allocCode 3 r ≠ 0 → t.regions = s.regions ∧ t.sdram = s.sdram ∧ s.onlyFields t [CAP_ALLOC_STATUS.reg]) ∧
      (s.allocCode 3 r = 0 → t.regionExists r = false ∧ t.f (CAP_REGION_WRITTEN.reg r) = 0 ∧
        ((s.region r).captures = [] → t.sdram = s.sdram ∧
          s.onlyFields t (CAP_ALLOC_STATUS.reg :: CAP_REGION_WRITTEN.reg r :: CAP_REGION_STATUS.reg r ::
            (s.region r).recLease.toList.flatMap s.statusOf)) ∧
        (∀ c, (s.region r).captures = [c] → s.capMode r = 0 → s.raised (448 + r) t)))) ∧
  (∀ (s u : State) (p : Port) (r : Fin 64) (v : Word), s.accepts p (CAP_REGION_ACK.reg r).addr none →
    u = s.set (CAP_REGION_ACK.reg r) v.toNat →
    ∃ t, exec (.capAckWrite p r v) s = .next t ∧ t.bus = .ok ∧ t.f (CAP_REGION_ACK.reg r) = v.toNat ∧
      (s.flag (CAP_REGION_STATUS.full r) = true → (∀ l ∈ u.protectLimit r, s.f (CAP_REGION_WRITTEN.reg r) < l) →
        t.flag (CAP_REGION_STATUS.full r) = false ∧ (t.region r).floor = (s.region r).units ∧
        s.onlyFields t (CAP_REGION_ACK.reg r :: s.statusOf r)) ∧
      (s.flag (CAP_REGION_STATUS.full r) = false ∨ (∃ l ∈ u.protectLimit r, l ≤ s.f (CAP_REGION_WRITTEN.reg r)) →
        t.regions = s.regions ∧ s.onlyFields t [CAP_REGION_ACK.reg r])) ∧
  (∀ (s : State) (p : Port) (v : Word), s.accepts p (CAP_BAR4_WIN.reg 0).addr none →
    ∃ t, exec (.capBar4WinWrite p false v) s = .next t ∧ t.bus = .ok ∧ s.onlyFields t [CAP_BAR4_WIN.reg p.idx] ∧
      t.f (CAP_BAR4_WIN.reg p.idx) = (((s.highFor p (CAP_BAR4_WIN.reg 0).addr).getD
        (s.f (CAP_BAR4_WIN.reg p.idx) / 2 ^ 32)) * 2 ^ 32 + v.toNat) / 2 ^ 20 * 2 ^ 20 % 2 ^ 64 ∧ (t.port p).pendHi = none) ∧
  (∀ (s : State) (p : Port) (v : Word), s.accepts p ((CAP_BAR4_WIN.reg 0).addr + 4) none →
    ∃ t, exec (.capBar4WinWrite p true v) s = .next t ∧ t.bus = .ok ∧ t.regs = s.regs ∧
      (t.port p).pendHi = some ((CAP_BAR4_WIN.reg 0).addr, v))

/-! ### Kernel processors -/

/-- R388, R395: a word operation of two sources or one leaves its result in its destination, CMP leaves every working register
alone, z and n of SR follow the result, an addition sets c to its carry out, and the next instruction follows; an addition
of halves writes the half it names and keeps the other. -/
def Obligations.AluInstructionsFollowTheirOperation : Prop :=
  (∀ (s : State) (n : Fin 64) (x : KpAlu) (a b : Nat), s.kpRuns n [0, 1, 2, 3] (State.aluFields x) true → x.half = false →
    a = s.kpW n x.a → b = s.kpW n x.b →
    ∃ t, exec (.kpInstrAlu n .sound x) s = .next t ∧ t.kpPc n = s.kpNextPc n 1 ∧
      (x.op = .add → t.kpW n x.dst = (a + b) % 2 ^ 32 ∧ bit (t.kpOf n).sr.toNat 1 = decide (2 ^ 32 ≤ a + b)) ∧
      (x.op = .addc → t.kpW n x.dst = (a + b + b2n (bit (s.kpOf n).sr.toNat 1)) % 2 ^ 32) ∧
      (x.op = .sub → t.kpW n x.dst = (a + 2 ^ 32 - b) % 2 ^ 32) ∧
      (x.op = .and_ → t.kpW n x.dst = a &&& b) ∧ (x.op = .or_ → t.kpW n x.dst = a ||| b) ∧
      (x.op = .xor_ → t.kpW n x.dst = a ^^^ b) ∧ (x.op = .not_ → t.kpW n x.dst = 2 ^ 32 - 1 - a) ∧
      (x.op = .shl → t.kpW n x.dst = a * 2 ^ x.shift.val % 2 ^ 32) ∧ (x.op = .shr → t.kpW n x.dst = a / 2 ^ x.shift.val) ∧
      (x.op = .sar → t.kpW n x.dst = unsigned 32 (signed 32 a / ((2 ^ x.shift.val : Nat) : Int))) ∧
      (x.op = .cmp → (t.kpOf n).w = (s.kpOf n).w ∧ bit (t.kpOf n).sr.toNat 3 = decide (a = b)) ∧
      (x.op ≠ .cmp → bit (t.kpOf n).sr.toNat 3 = decide (t.kpW n x.dst = 0) ∧
        bit (t.kpOf n).sr.toNat 2 = bit (t.kpW n x.dst) 31 ∧ ∀ i : Fin 16, i ≠ x.dst → t.kpW n i = s.kpW n i)) ∧
  (∀ (s : State) (n : Fin 64) (x : KpAlu), s.kpRuns n [0, 1, 2, 3] (State.aluFields x) true → x.half = true → x.op = .add →
    ∃ t, exec (.kpInstrAlu n .sound x) s = .next t ∧ t.kpPc n = s.kpNextPc n 1 ∧
      bits (t.kpW n x.dst) (16 * b2n x.dstHi) 16 =
        (bits (s.kpW n x.a) (16 * b2n x.aHi) 16 + bits (s.kpW n x.b) (16 * b2n x.bHi) 16) % 2 ^ 16 ∧
      bits (t.kpW n x.dst) (16 * b2n (!x.dstHi)) 16 = bits (s.kpW n x.dst) (16 * b2n (!x.dstHi)) 16)

/-- R389, R390, R388: MAC4 adds each of its four products, with its sign, to its own sum register, and MAC2 both of its products
to one; MPY4 and MPY2 overwrite; CLR S clears a sum register. A parallel move loads its working register from the memory of
its cursor. R393 to R395: MAX and MIN keep a loaded word and its index where it beats the one they hold, and nothing else; EXP
keeps the smaller number of redundant sign bits; NORM shifts left by a count. -/
def Obligations.MultipliesAndSearchesFillTheirRegisters : Prop :=
  (∀ (s : State) (n : Fin 64) (x : KpMul) (a b : Nat) (f : Bool) (e : Nat × Bool × Nat × Nat),
    s.kpRuns n [4, 5] (State.mulFields x) true → s.kpSh1 n = false → x.moveX = .none → x.moveY = .none → a = s.kpW n x.x →
    b = s.kpW n x.y → f = bit (s.kpOf n).sr.toNat 10 →
    e ∈ [(0, x.neg0, bits a 0 16, bits b 0 16), (1, x.neg1, bits a 16 16, bits b 16 16), (2, x.neg2, bits a 0 16, bits b 16 16),
      (3, x.neg3, bits a 16 16, bits b 0 16)] →
    (∃ t, exec (.kpInstrMac4 n .sound x) s = .next t ∧ t.kpPc n = s.kpNextPc n 1 ∧
      t.kpS n e.1 = (sumAdd (s.kpS n e.1) (signBy e.2.1 (mulHalves f x.u e.2.2.1 e.2.2.2))
        (bit (s.kpOf n).sr.toNat (16 + e.1)) (bit (s.kpOf n).sr.toNat (20 + e.1))).1) ∧
    (∃ t, exec (.kpInstrMpy4 n .sound x) s = .next t ∧ t.kpPc n = s.kpNextPc n 1 ∧
      t.kpS n e.1 = unsigned 40 (signBy e.2.1 (mulHalves f x.u e.2.2.1 e.2.2.2)))) ∧
  (∀ (s : State) (n : Fin 64) (k : Fin 4) (x : KpMul) (a b : Nat) (f : Bool) (p : Int),
    s.kpRuns n [4, 5] ((12, 2, k.val) :: State.mulFields x) true → x.moveX = .none → x.moveY = .none → a = s.kpW n x.x →
    b = s.kpW n x.y → f = bit (s.kpOf n).sr.toNat 10 →
    p = signBy x.neg0 (mulHalves f x.u (bits a 0 16) (bits b 0 16)) + signBy x.neg1 (mulHalves f x.u (bits a 16 16) (bits b 16 16)) →
    (∃ t, exec (.kpInstrMac2 n .sound k x) s = .next t ∧ t.kpPc n = s.kpNextPc n 1 ∧
      t.kpS n k = (sumAdd (s.kpS n k) p (bit (s.kpOf n).sr.toNat (16 + k)) (bit (s.kpOf n).sr.toNat (20 + k))).1 ∧
      ∀ j : Fin 4, j ≠ k → t.kpS n j = s.kpS n j) ∧
    (∃ t, exec (.kpInstrMpy2 n .sound k x) s = .next t ∧ t.kpPc n = s.kpNextPc n 1 ∧ t.kpS n k = unsigned 40 p)) ∧
  (∀ (s : State) (n : Fin 64) (k : Fin 4) (c : Fin 4) (w : Fin 16), s.kpRuns n [4, 5] [(12, 2, k.val)] true →
    s.kpCur n c < 8192 →
    ∃ t, exec (.kpInstrClrS n .sound k (.load c .none w) .none) s = .next t ∧ t.kpPc n = s.kpNextPc n 1 ∧ t.kpS n k = 0 ∧
      t.kpW n w = (s.kpMem n (8192 + s.kpCur n c)).toNat) ∧
  (∀ (s : State) (n : Fin 64) (d j : Fin 16) (c : Fin 8) (u : Bool) (v : Nat), d ≠ j →
    s.kpRuns n [0x14] (State.searchFields d j c u .none) true → s.kpCur n c < 8192 →
    v = (s.kpMem n (State.kpWordNo (decide (4 ≤ c.val)) (s.kpCur n c))).toNat →
    (∃ t, exec (.kpInstrMax n .sound d j c u false .none) s = .next t ∧ t.kpPc n = s.kpNextPc n 1 ∧
      (if (if u then s.kpW n d < v else signed 32 (s.kpW n d) < signed 32 v)
       then t.kpW n d = v ∧ t.kpW n j = s.searchIndex n c (s.kpCur n c) else (t.kpOf n).w = (s.kpOf n).w)) ∧
    (∃ t, exec (.kpInstrMin n .sound d j c u false .none) s = .next t ∧ t.kpPc n = s.kpNextPc n 1 ∧
      (if (if u then v < s.kpW n d else signed 32 v < signed 32 (s.kpW n d))
       then t.kpW n d = v ∧ t.kpW n j = s.searchIndex n c (s.kpCur n c) else (t.kpOf n).w = (s.kpOf n).w))) ∧
  (∀ (s : State) (n : Fin 64) (d e : Fin 16), s.kpRuns n [0x15] [(23, 4, d.val), (19, 4, e.val)] true →
    ∃ t, exec (.kpInstrExp n .sound d (.w e .word)) s = .next t ∧ t.kpPc n = s.kpNextPc n 1 ∧
      t.kpW n d = min (s.kpW n d) (redundant 32 (s.kpW n e))) ∧
  (∀ (s : State) (n : Fin 64) (d e k : Fin 16), s.kpRuns n [0x15] [(23, 4, d.val), (19, 4, e.val)] true →
    ∃ t, exec (.kpInstrNorm n .sound (.w d .word) (.w e .word) k) s = .next t ∧ t.kpPc n = s.kpNextPc n 1 ∧
      t.kpW n d = s.kpW n e * 2 ^ min 64 (s.kpW n k) % 2 ^ 32)

/-- R386, R387, R391, R406: a word load or store goes through its cursor to X or Y memory, and an address past the memory
faults with ADDRESS (2); ST.S stores the rounded and saturated sum; MOV and the immediate forms reach the registers. -/
def Obligations.LoadsStoresAndMovesReachTheirPlaces : Prop :=
  (∀ (s : State) (n : Fin 64) (w : Fin 16) (c : Fin 8) (y : Bool) (m : KpMode),
    s.kpRuns n [8, 9, 10, 11] (State.ldFields (.w w) c m) true → s.kpEa n c m < 8192 →
    (∃ t, exec (.kpInstrLd n .sound (.w w) c y false m) s = .next t ∧ t.kpPc n = s.kpNextPc n 1 ∧
      t.kpW n w = (s.kpMem n (State.kpWordNo y (s.kpEa n c m))).toNat) ∧
    (∃ t, exec (.kpInstrSt n .sound (.w w) c y false m) s = .next t ∧ t.kpPc n = s.kpNextPc n 1 ∧
      (t.kpMem n (State.kpWordNo y (s.kpEa n c m))).toNat = s.kpW n w ∧
      ∀ a, a < 24576 → a ≠ State.kpWordNo y (s.kpEa n c m) → t.kpMem n a = s.kpMem n a)) ∧
  (∀ (s : State) (n : Fin 64) (d : KpData) (c : Fin 8) (y half : Bool) (m : KpMode),
    s.kpRuns n [8, 9, 10, 11] (State.ldFields d c m) true → 8192 ≤ s.kpEa n c m →
    (∃ t, exec (.kpInstrLd n .sound d c y half m) s = .next t ∧ s.kpFaults n 2 t) ∧
    (∃ t, exec (.kpInstrSt n .sound d c y half m) s = .next t ∧ s.kpFaults n 2 t)) ∧
  (∀ (s : State) (n : Fin 64) (k : Fin 4) (c : Fin 8) (y : Bool) (m : KpMode),
    s.kpRuns n [8, 9, 10, 11] (State.modeFields c m) true → s.kpEa n c m < 8192 →
    ∃ t, exec (.kpInstrStS n .sound k c y false m) s = .next t ∧ t.kpPc n = s.kpNextPc n 1 ∧
      (t.kpMem n (State.kpWordNo y (s.kpEa n c m))).toNat = (storeSum (s.kpS n k) false (s.kpSh1 n)).1 ∧
      ((storeSum (s.kpS n k) false (s.kpSh1 n)).2 = true → bit (t.kpOf n).sr.toNat 11 = true ∧ bit (t.kpOf n).ipend.toNat 6 = true)) ∧
  (∀ (s : State) (n : Fin 64) (d e : Fin 16) (c : Fin 8), s.kpRuns n [0x0C] [] false →
    (∃ t, exec (.kpInstrMov n .sound (.w d .word) (.w e .word)) s = .next t ∧ t.kpPc n = s.kpNextPc n 1 ∧
      t.kpW n d = s.kpW n e) ∧
    (∃ t, exec (.kpInstrMov n .sound (.c c) (.w e .word)) s = .next t ∧ t.kpPc n = s.kpNextPc n 1 ∧
      t.kpCur n c = s.kpW n e % 2 ^ 16) ∧
    (∃ t, exec (.kpInstrMov n .sound (.w d .word) .sr) s = .next t ∧ t.kpPc n = s.kpNextPc n 1 ∧
      t.kpW n d = (s.kpOf n).sr.toNat)) ∧
  (∀ (s : State) (n : Fin 64) (d : Fin 16), s.kpRuns n [0x0D] [] false →
    ∃ t, exec (.kpInstrImmediate n .sound (.mov (.w d .word))) s = .next t ∧ t.kpPc n = s.kpNextPc n 2 ∧
      t.kpW n d = (s.kpMem n ((s.kpPc n + 1) % 8192)).toNat)

/-- R385, R392, R395, R406: a branch, call or return whose condition holds goes to its target, a call keeps the next address, SR
and RC on the stack, a return brings them back, a full stack faults with STACK_OVER (3) and an empty one with STACK_UNDER (4);
where the condition does not hold the next instruction follows. LOOP and REP keep their counts, and REP with a register count
of 0 skips the next instruction, and a loop that ends there goes round or is over (the model's reading, log entry 44). -/
def Obligations.ControlFlowFollowsItsConditions : Prop :=
  (∀ (s : State) (n : Fin 64) (c : KpCond) (g : Fin 8192), s.kpRuns n [0x10] [(0, 13, g.val)] false →
    ∃ t, exec (.kpInstrBranch n .sound c g) s = .next t ∧
      t.kpPc n = (if condHolds (s.kpOf n).sr.toNat c = true then g.val else s.kpNextPc n 1)) ∧
  (∀ (s : State) (n : Fin 64) (c : KpCond) (g : Fin 8192), s.kpRuns n [0x10] [(0, 13, g.val)] false →
    condHolds (s.kpOf n).sr.toNat c = true →
    ((s.kpOf n).stack.length < s.kpDepth n → ∃ t, exec (.kpInstrCall n .sound c g) s = .next t ∧ t.kpPc n = g.val ∧
      (t.kpOf n).stack = { pc := (s.kpPc n + 1) % 8192, sr := (s.kpOf n).sr.toNat, rc := (s.kpOf n).rc.toNat,
                           late := (s.kpOf n).late.toNat, irq := false } :: (s.kpOf n).stack) ∧
    (s.kpDepth n ≤ (s.kpOf n).stack.length → ∃ t, exec (.kpInstrCall n .sound c g) s = .next t ∧ s.kpFaults n 3 t)) ∧
  (∀ (s : State) (n : Fin 64) (e : KpFrame) (es : List KpFrame), s.kpRuns n [0x10] [] false → (s.kpOf n).stack = e :: es →
    ∃ t, exec (.kpInstrRet n .sound .always) s = .next t ∧ t.kpPc n = e.pc % 8192 ∧ (t.kpOf n).stack = es ∧
      (t.kpOf n).sr = BitVec.ofNat 32 e.sr ∧ (t.kpOf n).rc = BitVec.ofNat 17 e.rc) ∧
  (∀ (s : State) (n : Fin 64), s.kpRuns n [0x10] [] false → (s.kpOf n).stack = [] →
    ∃ t, exec (.kpInstrRet n .sound .always) s = .next t ∧ s.kpFaults n 4 t) ∧
  (∀ (s : State) (n : Fin 64) (e : KpFrame) (es : List KpFrame), s.kpRuns n [0x18] [] false → (s.kpOf n).stack = e :: es →
    ∃ t, exec (.kpInstrRti n .sound) s = .next t ∧ t.kpPc n = e.pc % 8192 ∧ (t.kpOf n).stack = es ∧ (t.kpOf n).cycles = 0 ∧
      (t.kpOf n).sr = BitVec.ofNat 32 e.sr ∧ (t.kpOf n).rc = BitVec.ofNat 17 e.rc ∧ (t.kpOf n).late = BitVec.ofNat 16 e.late) ∧
  (∀ (s : State) (n : Fin 64) (k : KpCount) (g : Fin 8192), s.kpRuns n [0x11] [(0, 13, g.val)] false → s.kpCount n k ≠ 0 →
    g.val ≠ s.kpPc n →
    ((s.kpOf n).loops.length < 4 → ∃ t, exec (.kpInstrLoop n .sound k g) s = .next t ∧ t.kpPc n = (s.kpPc n + 1) % 8192 ∧
      (t.kpOf n).loops = { start := (s.kpPc n + 1) % 8192, stop := g.val, left := s.kpCount n k } :: (s.kpOf n).loops) ∧
    (4 ≤ (s.kpOf n).loops.length → ∃ t, exec (.kpInstrLoop n .sound k g) s = .next t ∧ s.kpFaults n 5 t)) ∧
  (∀ (s : State) (n : Fin 64) (k : Fin 65536), s.kpRuns n [0x12] [(0, 16, k.val)] false →
    ∃ t, exec (.kpInstrRep n .sound (.imm (k.val + 1))) s = .next t ∧ t.kpPc n = (s.kpPc n + 1) % 8192 ∧
      (t.kpOf n).rc.toNat = k.val + 1) ∧
  (∀ (s : State) (n : Fin 64) (w : Fin 16), s.kpRuns n [0x12] [(0, 16, w.val)] false → s.kpW n w % 2 ^ 17 = 0 →
    ∃ t, exec (.kpInstrRep n .sound (.reg w)) s = .next t ∧ (t.kpOf n).rc = 0 ∧
      t.kpPc n = (State.loopEnd ((s.kpPc n + 1) % 8192)
        (((s.kpPc n + 1) % 8192 + s.kpLen n (s.kpPc n + 1)) % 8192) (s.kpOf n).loops).2 % 8192)


/-- R388, R395, R398 to R401, R405: HALT stops the processor at the next instruction, with event 640 + 3n; WAIT holds it; EI and
DI set and clear SR.ie; TRAP makes source 7 pending; MBOX.POST copies the outbound words and raises event 642 + 3n, or fails
while they have not been read; MBOX.ACK frees the inbox; PUB gives a mirror group one more generation; TIME reads engine time. -/
def Obligations.ControlInstructionsAct : Prop :=
  (∀ (s : State) (n : Fin 64), s.kpRuns n [0x18] [] false →
    (∃ t, exec (.kpInstrHalt n .sound) s = .next t ∧ t.kpPc n = s.kpNextPc n 1 ∧ t.flag (KP_STATUS.running n) = false ∧
      t.flag (KP_CTL.run n) = false ∧ s.raised (640 + 3 * n) t) ∧
    (∃ t, exec (.kpInstrTrap n .sound) s = .next t ∧ t.kpPc n = s.kpNextPc n 1 ∧ bit (t.kpOf n).ipend.toNat 7 = true) ∧
    (∃ t, exec (.kpInstrEi n .sound) s = .next t ∧ t.kpPc n = s.kpNextPc n 1 ∧ bit (t.kpOf n).sr.toNat 31 = true) ∧
    (∃ t, exec (.kpInstrDi n .sound) s = .next t ∧ t.kpPc n = s.kpNextPc n 1 ∧ bit (t.kpOf n).sr.toNat 31 = false) ∧
    (∃ t, exec (.kpInstrMboxAck n .sound) s = .next t ∧ t.kpPc n = s.kpNextPc n 1 ∧
      t.flag (KP_MBOX_STATUS.in_full n) = false)) ∧
  (∀ (s : State) (n : Fin 64), s.kpRuns n [0x18] [] false → (s.kpOf n).haltAsked = false →
    ∃ t, exec (.kpInstrWait n .sound) s = .next t ∧ t.kpPc n = s.kpNextPc n 1 ∧ (t.kpOf n).waiting = true ∧
      (t.kpOf n).cycles = 0) ∧
  (∀ (s : State) (n : Fin 64), s.kpRuns n [0x18] [] false →
    ∃ t, exec (.kpInstrMboxPost n .sound) s = .next t ∧ t.kpPc n = s.kpNextPc n 1 ∧
      t.flag (KP_MBOX_STATUS.out_full n) = true ∧
      bit (t.kpOf n).sr.toNat 3 = s.flag (KP_MBOX_STATUS.out_full n) ∧
      (s.flag (KP_MBOX_STATUS.out_full n) = false → s.raised (642 + 3 * n) t ∧
        ∀ i : Fin 4, t.f (KP_MBOX_OUT.reg n i) = ((s.kpOf n).mbo.get 0 i).toNat)) ∧
  (∀ (s : State) (n : Fin 64) (g : Fin 16), s.kpRuns n [0x18] [] false → s.kpSh1 n = false →
    ∃ t, exec (.kpInstrPub n .sound g) s = .next t ∧ t.kpPc n = s.kpNextPc n 1 ∧
      t.mirror.words.get 0 (16 * (256 + 16 * n.val + g.val)) = s.mirror.words.get 0 (16 * (256 + 16 * n.val + g.val)) + 1 ∧
      (∀ i : Fin 15, t.mirror.words.get 0 (16 * (256 + 16 * n.val + g.val) + i.val + 1) =
        s.kpMem n (8192 + 0x1F00 + 16 * g.val + 1 + i.val))) ∧
  (∀ (s : State) (n : Fin 64) (lo hi ph : Fin 16), s.kpRuns n [0x18] [] false → s.kpSh1 n = false → lo ≠ hi → lo ≠ ph → hi ≠ ph →
    ∃ t, exec (.kpInstrTime n .sound lo hi ph) s = .next t ∧ t.kpPc n = s.kpNextPc n 1 ∧
      t.kpW n lo + 2 ^ 32 * t.kpW n hi = s.now.tick ∧ t.kpW n ph = s.now.phase)

/-- R402, R404, R406, R407: a source that is taken keeps the program counter, SR and RC on the stack, clears its pending bit and
goes to its vector; a full stack faults with STACK_OVER (3). A timer that reaches 0 makes source 4 pending, a watchdog that has
run out faults with code 9, a word of no listed class, or with a reserved field that is not 0 (the spec places no such field:
log entry 42), with code 1, and a word that its memory lost with IMEM_ECC (6), counted in KP_ECC. -/
def Obligations.InterruptsAndFaultsOfProcessors : Prop :=
  (∀ (s : State) (n : Fin 64) (k : Nat), s.kpExecutes n = true → s.kpSource n = some k → s.kpSh1 n = false →
    (s.kpOf n).stack.length < 16 →
    ∃ t, exec (.kpInterrupt n) s = .next t ∧ t.kpPc n = 16 + 2 * k ∧ bit (t.kpOf n).ipend.toNat k = false ∧
      bits (t.kpOf n).sr.toNat 29 2 = s.kpPri n k ∧ (t.kpOf n).rc = 0 ∧ (t.kpOf n).waiting = false ∧
      (t.kpOf n).stack = { pc := s.kpPc n, sr := (s.kpOf n).sr.toNat, rc := (s.kpOf n).rc.toNat,
                           late := (s.kpOf n).late.toNat, irq := true } :: (s.kpOf n).stack ∧ (t.kpOf n).late = 0 ∧
      s.onlyFields t [KP_PC.reg n]) ∧
  (∀ (s : State) (n : Fin 64) (k : Nat), s.kpExecutes n = true → s.kpSource n = some k → s.kpSh1 n = true →
    (s.kpOf n).stack.length < 8 →
    ∃ t, exec (.kpInterrupt n) s = .next t ∧ t.kpPc n = 4 ∧ bit (t.kpOf n).sr.toNat 31 = false ∧ (t.kpOf n).rc = 0 ∧
      (t.kpOf n).waiting = false ∧
      (t.kpOf n).stack = { pc := s.kpPc n, sr := (s.kpOf n).sr.toNat, rc := (s.kpOf n).rc.toNat,
                           late := (s.kpOf n).late.toNat, irq := true } :: (s.kpOf n).stack ∧ s.onlyFields t [KP_PC.reg n]) ∧
  (∀ (s : State) (n : Fin 64) (k : Nat), s.kpExecutes n = true → s.kpSource n = some k →
    s.kpDepth n ≤ (s.kpOf n).stack.length → ∃ t, exec (.kpInterrupt n) s = .next t ∧ s.kpFaults n 3 t) ∧
  (∀ (s : State) (n : Fin 64), s.kpTimer n ≠ 0 → exec (.kpTimerExpire n) s = .next s) ∧
  (∀ (s : State) (n : Fin 64), s.up .kp = true → s.kpUsable n = true → (s.kpOf n).tmr ≠ 0 → s.kpTimer n = 0 →
    ∃ t, exec (.kpTimerExpire n) s = .next t ∧ (t.kpOf n).tmr = 0 ∧ bit (t.kpOf n).ipend.toNat 4 = true ∧ t.regs = s.regs) ∧
  (∀ (s : State) (n : Fin 64), s.kpExecutes n = true → s.f (KP_WDOG.reg n) ≠ 0 → s.f (KP_WDOG.reg n) ≤ (s.kpOf n).cycles →
    ∃ t, exec (.kpWatchdog n) s = .next t ∧ s.kpFaults n 9 t) ∧
  (∀ (s : State) (n : Fin 64), s.kpExecutes n = true →
    (State.kpIllegal (s.kpMem n (s.kpPc n)).toNat = true →
      ∃ t, exec (.kpIllegalInstruction n .sound) s = .next t ∧ s.kpFaults n 1 t) ∧
    (State.kpIllegal (s.kpMem n (s.kpPc n)).toNat = false →
      exec (.kpIllegalInstruction n .sound) s = .next (s.setKp n { s.kpOf n with waiting := false })) ∧
    (∀ got : KpGot, s.kpPc n ∈ got.failed → ∃ t, exec (.kpIllegalInstruction n got) s = .next t ∧
      t.f (KP_FAULT.cause n) = 6 ∧ t.f (KP_FAULT.pc n) = s.kpPc n ∧ s.raised (641 + 3 * n) t ∧
      t.f (KP_ECC.uncorrected n) = min 65535 (s.f (KP_ECC.uncorrected n) + 1) ∧ t.flag (KP_STATUS.running n) = false))

/-- R384, R396, R397, R399, R400, R405: a parcel that fits its inbox is counted there and makes source 2 pending, one that does
not fit is counted as dropped and makes source 3 pending, and one whose check value is wrong is counted in crc. The host posts
and clears mailboxes, reads and writes memories (instruction memory only while the processor is halted), and resets, starts
and halts a processor. -/
def Obligations.HostAndInboxReachTheProcessors : Prop :=
  (∀ (s : State) (n : Fin 64) (x : Parcel), s.up .kp = true → s.kpUsable n = true → s.flag (KP_IN_CTL.en n) = true →
    x.path = s.f (KP_IN_CTL.path n) →
    s.f (KP_IN_CTL.stream n) = 255 ∨ x.stream = s.f (KP_IN_CTL.stream n) ∨ x.kind = .gap ∧ x.stream = 255 →
    ∃ t, exec (.kpInboxParcel n x) s = .next t ∧
      (x.crcOk = false → t.f (KP_IN_STATUS.crc n) = min 65535 (s.f (KP_IN_STATUS.crc n) + 1) ∧ t.kpOf n = s.kpOf n) ∧
      (x.crcOk = true → s.kpRingSize n < ((s.kpOf n).inwp - (s.kpOf n).inrp).toNat + (State.kpWords x).length →
        t.f (KP_IN_STATUS.dropped n) = min 65535 (s.f (KP_IN_STATUS.dropped n) + 1) ∧ bit (t.kpOf n).ipend.toNat 3 = true ∧
        (t.kpOf n).inwp = (s.kpOf n).inwp) ∧
      (x.crcOk = true → ((s.kpOf n).inwp - (s.kpOf n).inrp).toNat + (State.kpWords x).length ≤ s.kpRingSize n →
        t.f (KP_IN_COUNT.reg n) = (s.f (KP_IN_COUNT.reg n) + 1) % 2 ^ 32 ∧ bit (t.kpOf n).ipend.toNat 2 = true ∧
        (t.kpOf n).inwp = (s.kpOf n).inwp + BitVec.ofNat 16 (State.kpWords x).length)) ∧
  (∀ (s : State) (p : Port) (n : Fin 64) (v : Word), s.accepts p (KP_MBOX_IN.reg n 3).addr none → s.kpUsable n = true →
    s.flag (KP_MBOX_STATUS.in_full n) = false →
    ∃ t, exec (.kpMboxInPost p n v) s = .next t ∧ t.bus = .ok ∧ t.f (KP_MBOX_IN.reg n 3) = v.toNat ∧
      t.flag (KP_MBOX_STATUS.in_full n) = true ∧ bit (t.kpOf n).ipend.toNat 0 = true ∧
      s.onlyFields t [KP_MBOX_IN.reg n 3, KP_MBOX_STATUS.reg n]) ∧
  (∀ (s : State) (p : Port) (n : Fin 64) (v : Word), s.accepts p (KP_MBOX_STATUS.reg n).addr none → s.kpUsable n = true →
    s.flag (KP_MBOX_STATUS.out_full n) = true →
    ∃ t, exec (.kpMboxOutClear p n v) s = .next t ∧ t.bus = .ok ∧ t.flag (KP_MBOX_STATUS.out_full n) = false ∧
      bit (t.kpOf n).ipend.toNat 1 = true ∧ s.onlyFields t [KP_MBOX_STATUS.reg n]) ∧
  (∀ (s : State) (p : Port) (n : Fin 64) (w : Fin 24576) (v : Word), s.accepts p (0x1000000 + 0x20000 * n.val + 4 * w.val) none →
    s.kpUsable n = true →
    (∃ t, exec (.kpWindowAccess p (n.castLE (by decide)) w none) s = .next t ∧ t.bus = .words [s.kpMem n w] ∧ t.kp = s.kp) ∧
    (8192 ≤ w.val ∨ s.kpRunning n = false →
      ∃ t, exec (.kpWindowAccess p (n.castLE (by decide)) w (some v)) s = .next t ∧ t.bus = .ok ∧ t.kpMem n w = v ∧
        t.regs = s.regs ∧ ∀ a, a < 24576 → a ≠ w.val → t.kpMem n a = s.kpMem n a) ∧
    (w.val < 8192 → s.kpRunning n = true →
      ∃ t, exec (.kpWindowAccess p (n.castLE (by decide)) w (some v)) s = .next t ∧ t.bus = .ok ∧ t.kp = s.kp ∧
        t.f (KP_STATUS.imem_refused n) = min 255 (s.f (KP_STATUS.imem_refused n) + 1))) ∧
  (∀ (s : State) (p : Port) (n : Fin 64) (v : Word), s.accepts p (KP_CTL.reg n).addr (some 13) → s.kpUsable n = true →
    s.kpRunning n = false →
    (bit v.toNat 0 = false → ∃ t, exec (.kpReset p n v) s = .next t ∧ t.bus = .ok ∧ t.kpPc n = s.f (KP_START.addr n) ∧
      t.flag (KP_STATUS.faulted n) = false ∧ t.f (KP_FAULT.reg n) = 0 ∧
      (∀ i : Fin 4, t.f (KP_MBOX_IN.reg n i) = 0) ∧
      t.kpOf n = { KpSt.reset with imem := (s.kpOf n).imem, x := (s.kpOf n).x, y := (s.kpOf n).y }) ∧
    (bit v.toNat 2 = false → s.flag (KP_STATUS.faulted n) = false → ∃ t, exec (.kpRun p n v) s = .next t ∧ t.bus = .ok ∧
      t.kpRunning n = true ∧ t.flag (KP_CTL.run n) = true ∧ t.kpSh1 n = bit v.toNat 3)) ∧
  (∀ (s : State) (p : Port) (n : Fin 64) (v : Word), s.accepts p (KP_CTL.reg n).addr (some 13) → s.kpUsable n = true →
    s.kpRunning n = true → s.kpSh1 n = false →
    ∃ t, exec (.kpHalt p n v) s = .next t ∧ t.bus = .ok ∧ t.kpRunning n = false ∧ t.flag (KP_CTL.run n) = false ∧
      s.raised (640 + 3 * n) t ∧ s.onlyFieldsEvents t [KP_CTL.reg n, KP_STATUS.reg n])


/-! ### DMA, streams and the display -/

/-- R411, R414 to R416, R424, R432: go starts an idle channel on the descriptor at DMA_DESC_ADDR with the priority and the port
written; a descriptor that is malformed ends with FORMAT, one of which a side is absent with ADDRESS, and any other runs; the engine starts a burst of the channel it
chooses; disable keeps a burst's remaining beats back, or ends a channel that waits with DISABLED. -/
def Obligations.DmaChannelsRunTheirDescriptors : Prop :=
  (∀ (s : State) (p : Port) (n : Fin 128) (v : Word), s.accepts p (DMA_CTL.reg n).addr none → bit v.toNat 30 = false →
    s.flag (DMA_STATUS.busy n) = false → s.chanHeld n = false →
    ∃ t, exec (.dmaGo p n v) s = .next t ∧ t.bus = .ok ∧ t.flag (DMA_STATUS.busy n) = true ∧ t.f (DMA_STATUS.state n) = 1 ∧
      t.f (DMA_CTL.prio n) = bits v.toNat 8 2 ∧ t.f (DMA_DESC_ADDR.reg n) = s.f (DMA_DESC_ADDR.reg n) ∧
      t.chan n = { DmaSt.reset with port := if bit v.toNat 0 then .b else .a, lastStart := (s.chan n).lastStart } ∧
      s.onlyFields t [DMA_CTL.reg n, DMA_STATUS.reg n]) ∧
  (∀ (s : State) (n : Fin 128) (b : List Byte), s.flag (DMA_STATUS.busy n) = true → (s.chan n).desc = none →
    (DmaDesc.ofBytes b).formatError = true ∨ descReserved b = false →
    ∃ t, exec (.dmaDescFetch n b) s = .next t ∧
      (t.chan n).fin = some { status := 10, cause := 0, addr := none } ∧ (t.chan n).desc = some (DmaDesc.ofBytes b) ∧
      s.onlyFields t [DMA_STATUS.reg n, DMA_POS.reg n, DMA_LEFT.reg n, DMA_RING_OWN.reg n]) ∧
  (∀ (s : State) (n : Fin 128) (b : List Byte), s.flag (DMA_STATUS.busy n) = true → (s.chan n).desc = none →
    (DmaDesc.ofBytes b).formatError = false → descReserved b = true →
    s.sideAbsent (DmaDesc.ofBytes b).srcSpace (DmaDesc.ofBytes b).srcSel (DmaDesc.ofBytes b).src
        ((DmaDesc.ofBytes b).span (DmaDesc.ofBytes b).ringSrc) = true ∨
      s.sideAbsent (DmaDesc.ofBytes b).dstSpace (DmaDesc.ofBytes b).dstSel (DmaDesc.ofBytes b).dst
        ((DmaDesc.ofBytes b).span (DmaDesc.ofBytes b).ringDst) = true →
    ∃ t, exec (.dmaDescFetch n b) s = .next t ∧
      (t.chan n).fin = some { status := 4, cause := 0, addr := none } ∧ (t.chan n).desc = some (DmaDesc.ofBytes b) ∧
      s.onlyFields t [DMA_STATUS.reg n, DMA_POS.reg n, DMA_LEFT.reg n, DMA_RING_OWN.reg n]) ∧
  (∀ (s : State) (n : Fin 128) (b : List Byte), s.flag (DMA_STATUS.busy n) = true → (s.chan n).desc = none →
    (s.chan n).disabling = false → (DmaDesc.ofBytes b).formatError = false → descReserved b = true →
    s.sideAbsent (DmaDesc.ofBytes b).srcSpace (DmaDesc.ofBytes b).srcSel (DmaDesc.ofBytes b).src
      ((DmaDesc.ofBytes b).span (DmaDesc.ofBytes b).ringSrc) = false →
    s.sideAbsent (DmaDesc.ofBytes b).dstSpace (DmaDesc.ofBytes b).dstSel (DmaDesc.ofBytes b).dst
      ((DmaDesc.ofBytes b).span (DmaDesc.ofBytes b).ringDst) = false →
    ∃ t, exec (.dmaDescFetch n b) s = .next t ∧ (t.chan n).fin = none ∧ (t.chan n).desc = some (DmaDesc.ofBytes b) ∧
      (t.chan n).parked = s.dma.taking.any (DmaDesc.ofBytes b).touches ∧ t.f (DMA_RING_OWN.reg n) = 0) ∧
  (∀ (s u : State) (n : Fin 128) (d : DmaDesc), s.flag (DMA_STATUS.busy n) = true → s.chanHeld n = false →
    (s.chan n).desc = some d → (s.chan n).fin = none → (s.chan n).burst = none → (s.chan n).parked = false →
    (s.chan n).disabling = false → State.exitFull (s.chan n) d = false → s.dmaOverrun n (s.chan n) d = false →
    u = s.setChan n { s.chan n with fillGo := d.pace != 1 || s.fillRuns n (s.chan n) d } →
    u.burstSize n ≠ 0 → u.burstsInFlight < 16 → u.dmaChosen = some n.val →
    ∃ t, exec (.dmaBurst n) s = .next t ∧ (t.chan n).burst = some (u.burstSize n) ∧ t.dma.turns.get 127 (s.f (DMA_CTL.prio n)) = n.val ∧
      t.f (DMA_STATUS.state n) = 2 ∧ s.onlyFields t [DMA_STATUS.reg n, DMA_POS.reg n, DMA_LEFT.reg n]) ∧
  (∀ (s : State) (p : Port) (n : Fin 128) (v : Word) (d : DmaDesc) (m : Nat), s.accepts p (DMA_CTL.reg n).addr none →
    s.flag (DMA_STATUS.busy n) = true → (s.chan n).desc = some d → (s.chan n).fin = none → (s.chan n).burst = some m →
    ∃ t, exec (.dmaDisable p n v) s = .next t ∧ t.bus = .ok ∧ t.chan n = { s.chan n with disabling := true, quiesce := false } ∧
      s.onlyFields t [DMA_CTL.reg n, DMA_STATUS.reg n, DMA_POS.reg n, DMA_LEFT.reg n, DMA_PWR_STATUS.reg]) ∧
  (∀ (s : State) (p : Port) (n : Fin 128) (v : Word) (d : DmaDesc), s.accepts p (DMA_CTL.reg n).addr none →
    s.flag (DMA_STATUS.busy n) = true → (s.chan n).desc = some d → (s.chan n).fin = none → (s.chan n).burst = none →
    s.chanHeld n = false → s.cqBlocked d.cq = false → d.srcSpace ≠ 2 → d.dstSpace ≠ 2 →
    ∃ t, exec (.dmaDisable p n v) s = .next t ∧ t.bus = .ok ∧ t.flag (DMA_STATUS.busy n) = false ∧
      t.f (DMA_STATUS.last n) = 5 ∧ t.f (DMA_STATUS.state n) = 0)

/-- R417 to R419, R425, R427 to R432, R434, R435: what a beat reads waits in the funnel until it makes a whole beat at the target,
which then is delivered and counted; a read or a write that fails, or a beat that comes after a disable, delivers nothing more
and ends the descriptor, at the address of the 64-byte beat that failed; the end of a descriptor writes its record at the
head of its queue, or holds it; an exit's parcel comes to the channel's queue, or is dropped where that is full or its check value is wrong; a channel that
parked goes on, and one that has not parked when the time of DMA_PWR is over is stopped. -/
def Obligations.DmaBeatsRecordsAndQueues : Prop :=
  (∀ (s : State) (n : Fin 128) (got : DmaBeat) (d : DmaDesc) (r w : Nat) (f : List Byte), (s.chan n).desc = some d →
    (s.chan n).burst = some r → (s.chan n).disabling = false → State.readCause d got = 0 → w = s.beatSize n (s.chan n) d r →
    f = (s.chan n).funnel ++ s.srcRead (s.chan n) d (s.readAt n (s.chan n) d) (s.readSize n (s.chan n) d r) got.data →
    (f.length < w → ∃ t, exec (.dmaBeatComplete n got) s = .next t ∧ (t.chan n).funnel = f ∧
      (t.chan n).burst = some r ∧ (t.chan n).moved = (s.chan n).moved ∧ t.out = s.out ∧ t.sdram = s.sdram ∧
      t.f (DMA_BYTES.reg n) = s.f (DMA_BYTES.reg n)) ∧
    (f.length = w → 0 < w → d.dstSpace ≤ 1 → d.ring = false →
      s.writeCause d (s.dstAt n (s.chan n) d) w (got.writeCauses.headD 0).val = 0 →
      ∃ t, exec (.dmaBeatComplete n got) s = .next t ∧ (t.chan n).moved = (s.chan n).moved + w ∧ (t.chan n).funnel = [] ∧
        t.f (DMA_BYTES.reg n) = (s.f (DMA_BYTES.reg n) + w) % 2 ^ 64 ∧
        t.out = .hostWrite (if d.dstSpace = 0 then .a else .b) (s.dstAt n (s.chan n) d) f :: s.out ∧ t.sdram = s.sdram ∧
        (d.srcSpace ≠ 5 → got.fixed = none →
          s.onlyFields t [DMA_STATUS.reg n, DMA_POS.reg n, DMA_LEFT.reg n, DMA_BYTES.reg n, DMA_WITHDRAWN.reg n,
            DMA_PWR_STATUS.reg])) ∧
    (f.length = w → 0 < w → s.writeCause d (s.dstAt n (s.chan n) d) w (got.writeCauses.headD 0).val ≠ 0 →
      State.dmaLeft (s.chan n) d ≠ some w →
      ∃ t, exec (.dmaBeatComplete n got) s = .next t ∧ (t.chan n).moved = (s.chan n).moved ∧ (t.chan n).burst = none ∧
        (t.chan n).fin = some { status := 3,
                                cause := s.writeCause d (s.dstAt n (s.chan n) d) w (got.writeCauses.headD 0).val,
                                addr := some (s.dstAt n (s.chan n) d / 64 * 64) } ∧
        t.out = s.out ∧ t.sdram = s.sdram ∧ t.f (DMA_BYTES.reg n) = s.f (DMA_BYTES.reg n))) ∧
  (∀ (s : State) (n : Fin 128) (got : DmaBeat) (d : DmaDesc) (r : Nat), (s.chan n).desc = some d → (s.chan n).burst = some r →
    (s.chan n).disabling = false → (s.chan n).funnel = [] → State.readCause d got ≠ 0 →
    ∃ t, exec (.dmaBeatComplete n got) s = .next t ∧ (t.chan n).moved = (s.chan n).moved ∧ (t.chan n).burst = none ∧
      (t.chan n).fin = some { status := if State.dmaLeft (s.chan n) d = some (s.readSize n (s.chan n) d r) then 1 else 2,
                              cause := State.readCause d got, addr := some (s.readAt n (s.chan n) d / 64 * 64) } ∧
      t.out = s.out ∧ t.sdram = s.sdram ∧ t.f (DMA_BYTES.reg n) = s.f (DMA_BYTES.reg n)) ∧
  (∀ (s : State) (n : Fin 128) (got : DmaBeat) (d : DmaDesc) (r : Nat), (s.chan n).desc = some d → (s.chan n).burst = some r →
    (s.chan n).disabling = true →
    ∃ t, exec (.dmaBeatComplete n got) s = .next t ∧ (t.chan n).burst = none ∧
      (t.chan n).fin = some { status := 5, cause := 0, addr := none } ∧ t.out = s.out ∧ t.sdram = s.sdram ∧
      s.onlyFields t [DMA_STATUS.reg n, DMA_POS.reg n, DMA_LEFT.reg n, DMA_PWR_STATUS.reg]) ∧
  (∀ (s : State) (n : Fin 128) (d : DmaDesc) (e : DmaEnd), (s.chan n).desc = some d → (s.chan n).fin = some e →
    (s.chan n).headDone = 0 → d.srcSpace ≠ 2 → d.dstSpace ≠ 2 → s.endHeld n = false → d.cq < 16 → s.cqBlocked d.cq = false →
    d.next = 0 →
    ∃ t, exec (.dmaComplete n) s = .next t ∧ t.flag (DMA_STATUS.busy n) = false ∧ t.f (DMA_STATUS.last n) = e.status % 256 ∧
      t.out = .hostWrite (s.cqPort d.cq) (s.regVal (DMA_CQ_BASE.reg d.cq) / 64 * 64 + 32 * s.f (DMA_CQ_HEAD.index d.cq))
        (State.cqBytes (s.dmaRecord n (s.chan n) d e.status e.cause e.addr) (s.f (DMA_CQ_HEAD.phase d.cq))) :: s.out ∧
      t.f (DMA_CQ_HEAD.index d.cq) = (s.f (DMA_CQ_HEAD.index d.cq) + 1) % s.cqSize d.cq % 65536 ∧
      (d.irq = true ∨ e.status ∉ [0, 8, 9] → s.raised (512 + n.val) t) ∧
      s.onlyFieldsEvents t [DMA_STATUS.reg n, DMA_CQ_HEAD.reg d.cq, DMA_CQ_STATUS.reg d.cq]) ∧
  (∀ (s : State) (n : Fin 128) (d : DmaDesc) (e : DmaEnd), (s.chan n).desc = some d → (s.chan n).fin = some e →
    (s.chan n).headDone = 0 → d.srcSpace ≠ 2 → d.dstSpace ≠ 2 → s.endHeld n = false → d.cq < 16 → s.cqBlocked d.cq = true →
    ∃ t, exec (.dmaComplete n) s = .next t ∧ t.out = s.out ∧ t.dma.held.length = s.dma.held.length + 1 ∧
      t.flag (DMA_STATUS.held n) = true ∧ t.f (DMA_STATUS.last n) = e.status % 256) ∧
  (∀ (s : State) (n : Fin 128) (x : Parcel) (st : Nat) (w : Bool), (s.chan n).exit = some (x.path, st, w) →
    st = 255 ∨ x.stream = st ∨ x.kind = .gap → s.up .host = true → s.f PWR_STATE.state = 0 →
    (x.crcOk = false → ∃ t, exec (.dmaExitParcel n x) s = .next t ∧ t.dma = s.dma ∧
      t.f (DMA_EXIT_DROP.reg n) = min (2 ^ 32 - 1) (s.f (DMA_EXIT_DROP.reg n) + 1)) ∧
    (x.crcOk = true → ((s.chan n).queue.map fun y => y.bytes.length).foldl (· + ·) 0 + x.bytes.length ≤ 256 * 1024 →
      ∃ t, exec (.dmaExitParcel n x) s = .next t ∧ t.chan n = { s.chan n with queue := (s.chan n).queue ++ [x] } ∧
        t.regs = s.regs) ∧
    (x.crcOk = true → 256 * 1024 < ((s.chan n).queue.map fun y => y.bytes.length).foldl (· + ·) 0 + x.bytes.length →
      ∃ t, exec (.dmaExitParcel n x) s = .next t ∧ t.dma = s.dma ∧ t.flag (DMA_STATUS.exit_drop n) = true ∧
        t.f (DMA_EXIT_DROP.reg n) = min (2 ^ 32 - 1) (s.f (DMA_EXIT_DROP.reg n) + 1) ∧ s.raised (512 + n.val) t ∧
        s.onlyFieldsEvents t [DMA_EXIT_DROP.reg n, DMA_STATUS.reg n])) ∧
  (∀ (s : State) (p : Port) (n : Fin 128) (v : Word), s.accepts p (DMA_RING_PARTNER.reg n).addr none →
    ∃ t, exec (.dmaRingPartnerWrite p n v) s = .next t ∧ t.bus = .ok ∧ t.f (DMA_RING_PARTNER.reg n) = v.toNat ∧
      s.onlyFields t [DMA_RING_PARTNER.reg n, DMA_WITHDRAWN.reg n]) ∧
  (∀ (s : State) (p : Port) (q : Fin 16) (v : Word), s.accepts p (DMA_CQ_TAIL.reg q).addr none → s.dma.held = [] →
    ∃ t, exec (.dmaCqTailWrite p q v) s = .next t ∧ t.bus = .ok ∧ t.f (DMA_CQ_TAIL.index q) = v.toNat % 65536 ∧
      t.dma = s.dma ∧ s.onlyFieldsEvents t [DMA_CQ_TAIL.reg q, DMA_CQ_STATUS.reg q]) ∧
  (∀ (s : State), s.time.clk < 2560 * max 1 (s.f DMA_PWR.quiesce_us) + s.dma.askedAt →
    exec .dmaQuiesceTimeout s = .next s) ∧
  (∀ (s : State), s.quiescePending = true → 2560 * max 1 (s.f DMA_PWR.quiesce_us) + s.dma.askedAt ≤ s.time.clk →
    (∀ n d, (s.chan n).desc = some d → d.cq < 16 ∧ (d.srcSpace = 2 → d.srcSel < 64) ∧ (d.dstSpace = 2 → d.dstSel < 64)) →
    ∃ t, exec .dmaQuiesceTimeout s = .next t ∧ t.flag DMA_PWR_STATUS.quiescing = false ∧ s.raised 45 t) ∧
  (∀ (s : State) (n : Fin 128) (d : DmaDesc), (s.chan n).desc = some d → (s.chan n).parked = true → d.resume = true →
    (∀ m : Fin 128, m ≠ n → (s.chan m).parked = false) →
    (∀ y ∈ d.domains, s.up y = true ∧ s.dma.taking.contains y = false) →
    ∃ t, exec .dmaResume s = .next t ∧ t.chan n = { s.chan n with parked := false, resumed := true } ∧
      s.onlyFields t [DMA_STATUS.reg n, DMA_POS.reg n, DMA_LEFT.reg n])

/-- R436, R437, R442, R444 to R446, R448, R451: an enable takes a flow's settings and, in RUN, sends its first context packet, and
its timer sends one each time its interval has passed, where the buffer has room, and none in SLEEP or below; in RUN a parcel of
the flow's exit goes out, is withheld, finds no room, or fails its check and sets loss; a region flow waits for the next capture,
sends its record and then its bytes, as the buffer has room, or skips it, or the rest of it, where it has been overwritten, with
event 848 + s; requests for the port's own address are answered and every other frame is dropped; a link that comes up or goes
down shows and raises event 844 + s, and none comes up in SLEEP. (Which way a packet without room goes is the model's reading:
log entry 50.) -/
def Obligations.StreamFlowsSendAndCount : Prop :=
  (∀ (s : State) (sp : Fin 2) (fl : Fin 32) (x : Parcel) (n : Nat), s.flowOn sp fl = true → s.f PWR_STATE.state = 0 →
    s.flag (STRM_FLOW_CTL.src sp fl) = false → x.path = s.f (STRM_FLOW_CTL.path sp fl) →
    s.f (STRM_FLOW_CTL.sel sp fl) = 255 ∨ x.stream = s.f (STRM_FLOW_CTL.sel sp fl) ∨ x.kind = .gap →
    n = 20 + 8 * s.f (STRM_PORT_CTL.class_en sp) + (x.payload.length + 3) / 4 * 4 →
    (x.crcOk = false → ∃ t, exec (.strmFlowParcel sp fl x) s = .next t ∧ (t.flow sp fl).loss = true ∧ t.out = s.out ∧
      t.f (STRM_FLOW_DROP.dropped sp fl) = min 65535 (s.f (STRM_FLOW_DROP.dropped sp fl) + 1)) ∧
    (x.crcOk = true → x.kind = .gap → s.strmWaiting sp + s.wireBytes sp n ≤ 8 * 1024 * 1024 →
      ∃ t b, exec (.strmFlowParcel sp fl x) s = .next t ∧ t.out = .datagram sp.val (s.datagramOf sp fl b) :: s.out ∧
        b.length = n ∧ t.f (STRM_FLOW_SENT.reg sp fl) = (s.f (STRM_FLOW_SENT.reg sp fl) + 1) % 2 ^ 32 ∧
        t.f (STRM_PORT_TX.reg sp) = (s.f (STRM_PORT_TX.reg sp) + 1) % 2 ^ 64 ∧
        s.onlyFields t [STRM_FLOW_SENT.reg sp fl, STRM_PORT_TX.reg sp]) ∧
    (x.crcOk = true → x.kind ≠ .gap → x.segment = 0 → s.f (STRM_FLOW_CTL.keep_m1 sp fl) = 0 → bit x.flags flagCLK = true →
      s.flag (STRM_FLOW_CTL.send_invalid sp fl) = false →
      ∃ t, exec (.strmFlowParcel sp fl x) s = .next t ∧ t.out = s.out ∧ (t.flow sp fl).loss = true ∧
        t.f (STRM_FLOW_DROP.withheld sp fl) = min 65535 (s.f (STRM_FLOW_DROP.withheld sp fl) + 1) ∧
        s.onlyFields t [STRM_FLOW_DROP.reg sp fl]) ∧
    (x.crcOk = true → x.kind = .gap → 8 * 1024 * 1024 < s.strmWaiting sp + s.wireBytes sp n →
      ∃ t, exec (.strmFlowParcel sp fl x) s = .next t ∧ t.out = s.out ∧ (t.flow sp fl).loss = true ∧
        t.f (STRM_FLOW_DROP.dropped sp fl) = min 65535 (s.f (STRM_FLOW_DROP.dropped sp fl) + 1) ∧
        (Tab.get 0 s.strm.dropped sp = 0 → s.raised (846 + sp.val) t) ∧
        s.onlyFieldsEvents t [STRM_FLOW_DROP.reg sp fl])) ∧
  (∀ (s : State) (p : Port) (sp : Fin 2) (fl : Fin 32) (v : Word), s.accepts p (STRM_FLOW_CTL.reg sp fl).addr (some 9) →
    s.pathPresent (bits v.toNat 26 2) = true →
    (s.flag (STRM_FLOW_CTL.en sp fl) = true →
      ∃ t, exec (.strmFlowEnable p sp fl v) s = .next t ∧ t.bus = .ok ∧ t.regs = s.regs ∧ t.out = s.out) ∧
    (s.flag (STRM_FLOW_CTL.en sp fl) = false → bit v.toNat 30 = false →
      ∃ t, exec (.strmFlowEnable p sp fl v) s = .next t ∧ t.bus = .ok ∧ t.flag (STRM_FLOW_CTL.en sp fl) = true ∧
        (∀ l ∈ [STRM_FLOW_CTL.src sp fl, STRM_FLOW_CTL.send_invalid sp fl, STRM_FLOW_CTL.pack12 sp fl, STRM_FLOW_CTL.path sp fl,
          STRM_FLOW_CTL.sel sp fl, STRM_FLOW_CTL.keep_m1 sp fl], t.f l = bits v.toNat l.lo l.width) ∧
        (s.flag (STRM_PORT_CTL.en sp) = true → s.up .host = true → s.f PWR_STATE.state = 0 →
          s.strmWaiting sp + 256 ≤ 8 * 1024 * 1024 → ∃ b, t.out = .datagram sp.val b :: s.out) ∧
        (s.flag (STRM_PORT_CTL.en sp) = false ∨ s.f PWR_STATE.state ≠ 0 → t.out = s.out) ∧
        s.onlyFields t [STRM_FLOW_CTL.reg sp fl, STRM_FLOW_SENT.reg sp fl, STRM_PORT_TX.reg sp])) ∧
  (∀ (s : State) (sp : Fin 2) (fl : Fin 32), s.time.clk < (s.flow sp fl).ctxAt + msTicks (s.f (STRM_FLOW_OPT.ctx_ms sp fl)) ∨
    2 ≤ s.f PWR_STATE.state → exec (.strmContextTimer sp fl) s = .next s) ∧
  (∀ (s : State) (sp : Fin 2) (fl : Fin 32), s.flowOn sp fl = true → s.f PWR_STATE.state < 2 →
    s.f (STRM_FLOW_OPT.ctx_ms sp fl) ≠ 0 →
    (s.flow sp fl).ctxAt + msTicks (s.f (STRM_FLOW_OPT.ctx_ms sp fl)) ≤ s.time.clk → s.strmWaiting sp + 256 ≤ 8 * 1024 * 1024 →
    ∃ t b, exec (.strmContextTimer sp fl) s = .next t ∧ t.out = .datagram sp.val (s.datagramOf sp fl b) :: s.out ∧
      t.f (STRM_FLOW_SENT.reg sp fl) = (s.f (STRM_FLOW_SENT.reg sp fl) + 1) % 2 ^ 32 ∧ (t.flow sp fl).ctxAt = s.time.clk ∧
      s.onlyFields t [STRM_FLOW_SENT.reg sp fl, STRM_PORT_TX.reg sp]) ∧
  (∀ (s : State) (sp : Fin 2) (x : FlowRead) (r q : Nat), s.flowOn sp x.flow = true → s.f PWR_STATE.state = 0 →
    s.flag (STRM_FLOW_CTL.src sp x.flow) = true → r = s.f (STRM_FLOW_CTL.sel sp x.flow) → s.regionExists r = true →
    q = s.f (CAP_REGION_SRC.rec_region r) →
    ((s.flow sp x.flow).sending = none → s.regionExists q = false ∨ (s.region r).number ≤ s.f (STRM_FLOW_AT.reg sp x.flow) →
      exec (.strmRegionCapture sp x) s = .next s) ∧
    ((s.flow sp x.flow).sending = none → s.regionExists q = true → s.f (STRM_FLOW_AT.reg sp x.flow) < (s.region r).number →
      (∀ y, s.nextRecord sp x.flow = some y → s.recIntact r y.2 = false) →
      ∃ t, exec (.strmRegionCapture sp x) s = .next t ∧ t.out = s.out ∧ (t.flow sp x.flow).loss = true ∧
        (t.flow sp x.flow).sending = none ∧ s.raised (848 + sp.val) t ∧
        t.f (STRM_FLOW_DROP.dropped sp x.flow) = min 65535 (s.f (STRM_FLOW_DROP.dropped sp x.flow) + 1) ∧
        t.f (STRM_FLOW_AT.reg sp x.flow) = (s.f (STRM_FLOW_AT.reg sp x.flow) + 1) % 2 ^ 32) ∧
    (∀ y, (s.flow sp x.flow).sending = none → s.regionExists q = true →
      s.f (STRM_FLOW_AT.reg sp x.flow) < (s.region r).number → s.nextRecord sp x.flow = some y → s.recIntact r y.2 = true →
      s.strmWaiting sp + 384 ≤ 8 * 1024 * 1024 →
      ∃ t d l, exec (.strmRegionCapture sp x) s = .next t ∧ t.out = l ++ .datagram sp.val d :: s.out ∧
        ((t.flow sp x.flow).sending = none ∧ t.f (STRM_FLOW_AT.reg sp x.flow) = (s.f (STRM_FLOW_AT.reg sp x.flow) + 1) % 2 ^ 32 ∨
          ∃ k, (t.flow sp x.flow).sending = some (y.2, k) ∧ t.f (STRM_FLOW_AT.reg sp x.flow) = s.f (STRM_FLOW_AT.reg sp x.flow))) ∧
    (∀ b k, (s.flow sp x.flow).sending = some (b, k) → k < State.recLength b → s.recIntact r b = false →
      ∃ t, exec (.strmRegionCapture sp x) s = .next t ∧ t.out = s.out ∧ (t.flow sp x.flow).loss = true ∧
        (t.flow sp x.flow).sending = none ∧ s.raised (848 + sp.val) t ∧
        t.f (STRM_FLOW_DROP.dropped sp x.flow) = min 65535 (s.f (STRM_FLOW_DROP.dropped sp x.flow) + 1) ∧
        t.f (STRM_FLOW_AT.reg sp x.flow) = (s.f (STRM_FLOW_AT.reg sp x.flow) + 1) % 2 ^ 32)) ∧
  (∀ (s : State) (sp : Fin 2) (mac : BitVec 48) (sender target : Word), s.up .host = true →
    s.flag (STRM_PORT_STATUS.link sp) = true →
    ∃ t, exec (.strmArpRequest sp mac sender target) s = .next t ∧ s.onlyFields t [STRM_PORT_RX.reg sp] ∧
      (target.toNat = s.f (STRM_PORT_IP4.reg sp) →
        t.out = .arpReply sp.val mac.toNat sender.toNat :: s.out ∧
        t.f (STRM_PORT_RX.answered sp) = (s.f (STRM_PORT_RX.answered sp) + 1) % 65536) ∧
      (target.toNat ≠ s.f (STRM_PORT_IP4.reg sp) →
        t.out = s.out ∧ t.f (STRM_PORT_RX.dropped sp) = (s.f (STRM_PORT_RX.dropped sp) + 1) % 65536)) ∧
  (∀ (s : State) (sp : Fin 2) (mac : BitVec 48) (sender target : BitVec 128), s.up .host = true →
    s.flag (STRM_PORT_STATUS.link sp) = true →
    ∃ t, exec (.strmNeighborSolicit sp mac sender target) s = .next t ∧ s.onlyFields t [STRM_PORT_RX.reg sp] ∧
      ((∀ k < 4, s.f (STRM_PORT_IP6.reg sp k) = target.toNat / 2 ^ (96 - 32 * k) % 2 ^ 32) →
        t.f (STRM_PORT_RX.answered sp) = (s.f (STRM_PORT_RX.answered sp) + 1) % 65536 ∧
        t.out = .neighborAdvert sp.val mac.toNat ((List.range 4).map fun k => sender.toNat / 2 ^ (96 - 32 * k) % 2 ^ 32) :: s.out) ∧
      ((∃ k < 4, s.f (STRM_PORT_IP6.reg sp k) ≠ target.toNat / 2 ^ (96 - 32 * k) % 2 ^ 32) →
        t.out = s.out ∧ t.f (STRM_PORT_RX.dropped sp) = (s.f (STRM_PORT_RX.dropped sp) + 1) % 65536)) ∧
  (∀ (s : State) (sp : Fin 2) (c : Nat), s.up .host = true → s.flag (STRM_PORT_STATUS.link sp) = true →
    ∃ t, exec (.strmRxOther sp c) s = .next t ∧ t.f (STRM_PORT_RX.dropped sp) = (s.f (STRM_PORT_RX.dropped sp) + 1) % 65536 ∧
      t.f (STRM_PORT_STATUS.fec_corr sp) = min 65535 (s.f (STRM_PORT_STATUS.fec_corr sp) + c) ∧ t.out = s.out ∧
      s.onlyFields t [STRM_PORT_RX.reg sp, STRM_PORT_STATUS.reg sp]) ∧
  (∀ (s : State) (sp : Fin 2), 2 ≤ s.f PWR_STATE.state → exec (.strmLinkChange sp true) s = .next s) ∧
  (∀ (s : State) (sp : Fin 2) (b : Bool), s.flag (STRM_PORT_STATUS.link sp) ≠ b →
    (b = true → s.up .host = true ∧ s.flag (STRM_PORT_CTL.en sp) = true ∧ s.f PWR_STATE.state < 2) →
    ∃ t, exec (.strmLinkChange sp b) s = .next t ∧
      (∀ l ∈ [STRM_PORT_STATUS.link sp, STRM_PORT_STATUS.align sp, STRM_PORT_STATUS.block_lock sp], t.flag l = b) ∧
      s.raised (844 + sp.val) t ∧ s.onlyFieldsEvents t [STRM_PORT_STATUS.reg sp])

/-- R456, R458, R463, R464, R466 to R470, R472: a commit waits, applies at a blank that is due and is not held, with one more in
applied and event 850, or is refused whole with event 855; one that waits through a retraining is held, at the blank that ends it
too. Each blank of a scan counts in DISP_FRAME, counts the lines that were not composed as late, with event 854 once a frame, and
begins the next frame. A line is composed once both links have scanned it, not before, or counts as late. The clock settles; links
train at a rate that carries the pixels; one too slow sends both back to training, up to three times, and then training has failed,
as a failure does, with event 853; they come and go. An AUX transaction runs and is answered once no link trains. A released layer
and a faulted one post their records with events 851 and 852. -/
def Obligations.DisplayCommitsScansAndTrains : Prop :=
  (∀ (s : State) (p : Port) (v : Word), s.accepts p DISP_COMMIT.reg.addr (some 8) →
    ∃ t, exec (.dispCommit p v) s = .next t ∧ t.bus = .ok ∧ t.flag DISP_COMMIT_STATUS.pending = true ∧ t.act = s.act ∧
      t.disp.asked = (if s.flag DISP_COMMIT_STATUS.pending then s.disp.asked else s.time.clk) ∧
      s.onlyFields t [DISP_COMMIT_STATUS.reg]) ∧
  (∀ (s : State) (n : Nat), s.dispUp = true → s.flag DISP_STATUS.scanning = true → s.flag DISP_STATUS.retraining = false →
    s.flag DISP_COMMIT_STATUS.pending = false → n = s.fa DISP_VTIM.vactive - s.disp.line →
    ∃ t, exec .dispVblank s = .next t ∧ t.f DISP_FRAME.reg = (s.f DISP_FRAME.reg + 1) % 2 ^ 32 ∧
      t.disp.line = (if s.fa DISP_CTL.compose = 1 then 0 else noLine) ∧ t.disp.blankAt = s.time.clk ∧ t.act = s.act ∧
      t.f DISP_LATE.reg = min (2 ^ 32 - 1) (s.f DISP_LATE.reg + n) ∧ (0 < n → s.disp.lateRaised = false → s.raised 854 t) ∧
      s.onlyFieldsEvents t (DISP_FRAME.reg :: DISP_LATE.reg :: (List.range 4).map DISP_TRACE_SRC.reg)) ∧
  (∀ (s : State), s.dispUp = true → s.flag DISP_COMMIT_STATUS.pending = true →
    s.flag DISP_STATUS.retraining = true ∨ s.time.clk < s.disp.asked + usTicks 10 →
    ∃ t, exec .dispVblank s = .next t ∧ t.flag DISP_COMMIT_STATUS.pending = true ∧ t.act = s.act) ∧
  (∀ (s : State), s.dispUp = true → s.flag DISP_STATUS.scanning = true → s.flag DISP_STATUS.retraining = true →
    s.disp.linkA = ⟨false, true, false⟩ → s.disp.linkB = ⟨false, true, false⟩ →
    ∃ t, exec .dispVblank s = .next t ∧ t.flag DISP_STATUS.black = false ∧ t.flag DISP_STATUS.retraining = false ∧
      t.disp.linkA = ⟨false, true, true⟩ ∧ t.disp.linkB = ⟨false, true, true⟩) ∧
  (∀ (s : State), s.dispUp = true → s.flag DISP_STATUS.scanning = true → s.flag DISP_STATUS.retraining = false →
    s.flag DISP_COMMIT_STATUS.pending = true → s.disp.asked + usTicks 10 ≤ s.time.clk →
    (s.dispOk = false → ∃ t, exec .dispVblank s = .next t ∧ t.flag DISP_COMMIT_STATUS.refused = true ∧
      t.flag DISP_COMMIT_STATUS.pending = false ∧ t.act = s.act ∧ s.raised 855 t) ∧
    (s.dispOk = true → ∃ t, exec .dispVblank s = .next t ∧ t.flag DISP_COMMIT_STATUS.pending = false ∧
      t.f DISP_COMMIT_STATUS.applied = (s.f DISP_COMMIT_STATUS.applied + 1) % 65536 ∧
      t.fa DISP_BG.colour = s.f DISP_BG.colour ∧ s.raised 850 t)) ∧
  (∀ (s : State), s.dispUp = true → s.flag DISP_STATUS.scanning = false → s.flag DISP_STATUS.retraining = false →
    s.flag DISP_COMMIT_STATUS.pending = true → s.disp.asked + usTicks 10 ≤ s.time.clk →
    (s.dispOk = false → ∃ t, exec .dispVblank s = .next t ∧ t.flag DISP_COMMIT_STATUS.refused = true ∧
      t.flag DISP_COMMIT_STATUS.pending = false ∧ t.act = s.act ∧ s.raised 855 t ∧
      s.onlyFieldsEvents t [DISP_COMMIT_STATUS.reg]) ∧
    (s.dispOk = true → ∃ t, exec .dispVblank s = .next t ∧ t.flag DISP_COMMIT_STATUS.pending = false ∧
      t.f DISP_COMMIT_STATUS.applied = (s.f DISP_COMMIT_STATUS.applied + 1) % 65536 ∧
      t.fa DISP_BG.colour = s.f DISP_BG.colour ∧ s.raised 850 t)) ∧
  (∀ (s : State) (overlay : List Word) (bad : List Nat) (fixed : List (Nat × Fin 2 × Fin 39)), s.dispUp = true →
    s.flag DISP_STATUS.scanning = true → s.fa DISP_CTL.compose = 1 → s.disp.line < s.fa DISP_VTIM.vactive →
    (∃ t, exec (.dispComposeLine true overlay bad fixed) s = .next t ∧ t.disp.line = s.disp.line + 1 ∧
      t.disp.store = s.disp.store ∧ t.f DISP_LATE.reg = min (2 ^ 32 - 1) (s.f DISP_LATE.reg + 1) ∧
      (s.disp.lateRaised = false → s.raised 854 t) ∧ s.onlyFieldsEvents t [DISP_LATE.reg]) ∧
    (s.lineScanned s.disp.line = false → exec (.dispComposeLine false overlay bad fixed) s = .next s) ∧
    (s.lineScanned s.disp.line = true →
      ∃ t, exec (.dispComposeLine false overlay [] []) s = .next t ∧ t.disp.line = s.disp.line + 1 ∧
        ((∀ k, (s.kalOf k).spoilt = []) → t.regs = s.regs) ∧
        ∀ x, x < s.panelW → Tab.get 0 t.disp.store (s.panelW * s.disp.line + x) =
          BitVec.ofNat 32 (s.panelPixel overlay [] x s.disp.line))) ∧
  (∀ (s : State), s.dispUp = true → s.flag DISP_STATUS.retraining = true → s.disp.settled = false →
    ∃ t, exec .dispClockSettled s = .next t ∧ t.flag DISP_STATUS.scanning = true ∧ t.disp.settled = true ∧ t.disp.frames = 0 ∧
      s.onlyFields t (DISP_STATUS.reg :: (List.range 4).map DISP_TRACE_SRC.reg)) ∧
  (∀ (s : State) (a b : Fin 5), s.dispUp = true → s.fa DISP_CTL.en = 1 → s.disp.linkA.training = true →
    s.disp.linkB.training = true → a ≠ 0 → b ≠ 0 →
    (30 * s.fa DISP_PCLK.khz ≤ State.linkCarries a → 30 * s.fa DISP_PCLK.khz ≤ State.linkCarries b →
      ∃ t, exec (.dispLinkTrained a b) s = .next t ∧ t.f DISP_STATUS.a_rate = a.val ∧ t.f DISP_STATUS.b_rate = b.val ∧
        t.disp.linkA = { s.disp.linkA with training := false, trained := true } ∧
        t.disp.linkB = { s.disp.linkB with training := false, trained := true } ∧ s.onlyFields t [DISP_STATUS.reg]) ∧
    (State.linkCarries a < 30 * s.fa DISP_PCLK.khz ∨ State.linkCarries b < 30 * s.fa DISP_PCLK.khz →
      (s.disp.tries < 3 → ∃ t, exec (.dispLinkTrained a b) s = .next t ∧ t.disp.tries = s.disp.tries + 1 ∧
        t.disp.linkA = ⟨true, false, false⟩ ∧ t.disp.linkB = ⟨true, false, false⟩ ∧ t.f DISP_STATUS.a_rate = 0 ∧
        t.f DISP_STATUS.b_rate = 0 ∧ s.onlyFields t [DISP_STATUS.reg]) ∧
      (3 ≤ s.disp.tries → ∃ t, exec (.dispLinkTrained a b) s = .next t ∧ t.flag DISP_STATUS.link_fail = true ∧
        t.flag DISP_STATUS.retraining = false ∧ t.disp.failed = true ∧ t.disp.linkA = ⟨false, false, false⟩ ∧
        t.disp.linkB = ⟨false, false, false⟩ ∧ s.raised 853 t ∧ s.onlyFieldsEvents t [DISP_STATUS.reg]))) ∧
  (∀ (s : State), s.dispUp = true → s.disp.linkA.training = true ∨ s.disp.linkB.training = true →
    ∃ t, exec .dispTrainFail s = .next t ∧ t.flag DISP_STATUS.link_fail = true ∧ t.flag DISP_STATUS.retraining = false ∧
      t.disp.failed = true ∧ t.disp.linkA = ⟨false, false, false⟩ ∧ t.disp.linkB = ⟨false, false, false⟩ ∧ s.raised 853 t ∧
      s.onlyFieldsEvents t [DISP_STATUS.reg]) ∧
  (∀ (s : State) (b : Bool), s.dispUp = true →
    ∃ t, exec (.dispHpdUnplug b) s = .next t ∧ t.flag (State.dpHpd b) = false ∧ t.dpLink b = ⟨false, false, false⟩ ∧
      t.dpLink (!b) = s.dpLink (!b) ∧ s.raised 853 t ∧ s.onlyFieldsEvents t [DISP_STATUS.reg]) ∧
  (∀ (s : State) (b : Bool), s.dispUp = true →
    (∃ t, exec (.dispHpdPlug b) s = .next t ∧ t.flag (State.dpHpd b) = true ∧
      t.dpLink b = (if s.fa DISP_CTL.en = 1 ∧ s.disp.failed = false then ⟨true, false, false⟩ else s.dpLink b) ∧
      t.dpLink (!b) = s.dpLink (!b) ∧ s.onlyFields t [DISP_STATUS.reg]) ∧
    (s.disp.failed = false → s.fa DISP_CTL.en = 1 →
      ∃ t, exec (.dispIrqHpd b true) s = .next t ∧ t.dpLink b = ⟨true, false, false⟩ ∧ t.dpLink (!b) = s.dpLink (!b) ∧
        t.f (State.dpRate b) = 0 ∧ s.onlyFields t [DISP_STATUS.reg]) ∧
    (s.disp.failed = true ∨ s.fa DISP_CTL.en ≠ 1 → exec (.dispIrqHpd b true) s = .next s) ∧
    exec (.dispIrqHpd b false) s = .next s) ∧
  (∀ (s : State) (p : Port) (v : Word), s.accepts p DISP_AUX_CMD.reg.addr (some 8) → s.flag DISP_AUX_STATUS.busy = false →
    ∃ t, exec (.dispAuxGo p v) s = .next t ∧ t.bus = .ok ∧ t.flag DISP_AUX_STATUS.busy = true ∧ t.disp.aux = v.toNat % 2 ^ 31 ∧
      s.onlyFields t [DISP_AUX_STATUS.reg]) ∧
  (∀ (s : State) (nack : Bool) (data : List Byte), s.disp.linkA.training = true ∨ s.disp.linkB.training = true →
    exec (.dispAuxDone nack data) s = .next s) ∧
  (∀ (s : State) (nack : Bool) (data : List Byte), s.dispUp = true → s.flag DISP_AUX_STATUS.busy = true →
    s.disp.linkA.training = false → s.disp.linkB.training = false →
    ∃ t, exec (.dispAuxDone nack data) s = .next t ∧ t.flag DISP_AUX_STATUS.busy = false ∧
      t.flag DISP_AUX_STATUS.done = true ∧ (nack = true → t.flag DISP_AUX_STATUS.nack = true) ∧ s.raised 853 t ∧
      s.onlyFieldsEvents t (DISP_AUX_STATUS.reg :: (List.range 4).map DISP_AUX_DATA.reg)) ∧
  (∀ (s : State) (l : Fin 4) (d : LayerDone), (s.disp.releases.find? fun e => e.buf.layer == l.val) = some d →
    s.flag DISP_CQ.en = false →
    ∃ t, exec (.layerReleased l) s = .next t ∧ t.disp.releases = s.disp.releases.erase d ∧ s.raised 851 t ∧
      (d.buf.region = none → s.onlyFieldsEvents t [])) ∧
  (∀ (s : State) (l : Fin 4), (s.disp.releases.find? fun e => e.buf.layer == l.val) = none →
    exec (.layerReleased l) s = .next s) ∧
  (∀ (s : State) (c : Fin 4) (b : LayerBuf), s.disp.buf3 = some b → s.dispUp = true → s.disp.faulted = false →
    s.flag DISP_CQ.en = false →
    ∃ t, exec (.layerFault c) s = .next t ∧ t.disp.faulted = true ∧ s.raised 852 t ∧ s.onlyFieldsEvents t [])

/-! ### Time inputs, canaries, field control and housekeeping -/

/-- R476, R480 to R484: an arm waits for a pulse; an edge of an event input, toward its active level or back as its polarity says,
is stamped into its queue, lost where that is full, or crowded; a pop answers the oldest record and latches its words; an input
that has stayed active for longer than its timeout is stuck until it goes inactive; a calibration counts hits and writes its
table or fails; a gate that has lasted its time gives the frequency that its edges measured. -/
def Obligations.TimeInputsStampAndMeasure : Prop :=
  (∀ (s : State) (p : Port) (v : Word), s.accepts p TIU_TIME_CTL.reg.addr (some 11) →
    ∃ t, exec (.tiuTimeArm p v) s = .next t ∧ t.bus = .ok ∧ t.flag TIU_TIME_CTL.armed = true ∧
      t.flag TIU_TIME_CTL.set_done = (s.flag TIU_TIME_CTL.set_done && !bit v.toNat 2) ∧ s.onlyFields t [TIU_TIME_CTL.reg]) ∧
  (∀ (s : State) (j : Fin 16) (high active : Bool) (tick : Nat) (bin : Fin 64) (fine : Nat), s.up .fabric = true →
    s.flag (TIU_EV_CTL.en j) = true → active = (high != s.flag (TIU_EV_CTL.pol j)) → s.flag (TIU_EV_STATUS.stuck j) = false →
    s.f (TIU_EV_CTL.edges j) = (if active then 0 else 1) ∨ 2 ≤ s.f (TIU_EV_CTL.edges j) →
    fine = s.fineTime j tick bin (signed 16 (s.f (TIU_EV_SKEW.skew j))) →
    (State.crowds (s.evOf j).last (s.edgeStamp j tick bin 0).bins (s.f (TIU_EV_CTL.holdoff j)) = false →
      ∃ t, exec (.evEdge j high tick bin) s = .next t ∧ t.flag (TIU_EV_STATUS.level j) = active ∧ s.raised (856 + j.val) t ∧
        (t.evOf j).number = ((s.evOf j).number + 1) % 2 ^ 32 ∧ (t.evOf j).marked = false ∧
        ((s.evOf j).fifo.length < 256 →
          ∃ w, (t.evOf j).fifo = (s.evOf j).fifo ++ [{ tick := fine / 65536, number := (s.evOf j).number, word2 := w }] ∧
            w % 65536 = fine % 65536 ∧ bit w 16 = active ∧ bit w 18 = (s.evOf j).lostBefore) ∧
        (256 ≤ (s.evOf j).fifo.length → (t.evOf j).fifo = (s.evOf j).fifo ∧ (t.evOf j).lostBefore = true ∧
          t.f (TIU_EV_STATUS.lost j) = min 4095 (s.f (TIU_EV_STATUS.lost j) + 1)) ∧
        s.onlyFieldsEvents t (TIU_EV_STATUS.reg j :: (List.range 4).map TIU_STAT_STATUS.reg)) ∧
    (State.crowds (s.evOf j).last (s.edgeStamp j tick bin 0).bins (s.f (TIU_EV_CTL.holdoff j)) = true →
      ∃ t, exec (.evEdge j high tick bin) s = .next t ∧ t.f (TIU_EV_STATUS.crowded j) =
          min 65535 (s.f (TIU_EV_STATUS.crowded j) + 1) ∧ s.raised 872 t ∧ t.trg = s.trg ∧
        t.evOf j = { s.evOf j with pin := high, marked := true,
                                   activeAt := if active then s.time.clk else (s.evOf j).activeAt } ∧
        s.onlyFieldsEvents t [TIU_EV_STATUS.reg j])) ∧
  (∀ (s : State) (j : Fin 16) (high : Bool) (tick : Nat) (bin : Fin 64), s.up .fabric = true →
    s.flag (TIU_EV_CTL.en j) = true → s.flag (TIU_EV_STATUS.stuck j) = true →
    ∃ t, exec (.evEdge j high tick bin) s = .next t ∧
      t.flag (TIU_EV_STATUS.stuck j) = (high != s.flag (TIU_EV_CTL.pol j)) ∧ (t.evOf j).fifo = (s.evOf j).fifo ∧
      s.onlyFields t (TIU_EV_STATUS.reg j :: (List.range 64).map TRG_STATUS.reg)) ∧
  (∀ (s : State) (j : Fin 16) (high : Bool) (tick : Nat) (bin : Fin 64),
    s.up .fabric = false ∨ s.flag (TIU_EV_CTL.en j) = false →
    exec (.evEdge j high tick bin) s = .next (s.setEv j { s.evOf j with pin := high })) ∧
  (∀ (s : State) (j : Fin 16), s.up .fabric = true → s.flag (TIU_EV_CTL.en j) = true → s.flag (TIU_EV_STATUS.level j) = true →
    s.flag (TIU_EV_STATUS.stuck j) = false →
    (State.stuckOver (s.evOf j).activeAt s.time.clk (s.f (TIU_EV_STUCK.stuck_us j)) = false → exec (.evStuck j) s = .next s) ∧
    (State.stuckOver (s.evOf j).activeAt s.time.clk (s.f (TIU_EV_STUCK.stuck_us j)) = true →
      ∃ t, exec (.evStuck j) s = .next t ∧ t.flag (TIU_EV_STATUS.stuck j) = true ∧ s.raised 873 t ∧
        s.onlyFieldsEvents t (TIU_EV_STATUS.reg j :: (List.range 64).map TRG_STATUS.reg))) ∧
  (∀ (s : State) (p : Port) (j : Fin 16) (r : EvRecord) (rest : List EvRecord),
    s.reachable (TIU_EV_FIFO.word j 0).addr = true → (s.evOf j).fifo = r :: rest →
    ∃ t, exec (.tiuEvFifoPop p j 0) s = .next t ∧ t.bus = .words [BitVec.ofNat 32 r.tick] ∧
      t.evOf j = { s.evOf j with fifo := rest } ∧ t.regs = s.regs ∧
      Tab.get [] t.tiu.evLatch (16 * p.idx + j.val) =
        [BitVec.ofNat 32 (r.tick / 2 ^ 32), BitVec.ofNat 32 r.word2, BitVec.ofNat 32 r.number]) ∧
  (∀ (s : State) (p : Port) (j : Fin 16) (w : Fin 4), s.reachable (TIU_EV_FIFO.word j w).addr = true → w ≠ 0 →
    ∃ t, exec (.tiuEvFifoPop p j w) s = .next t ∧ t.tiu = s.tiu ∧ t.regs = s.regs ∧
      t.bus = .words [(Tab.get [] s.tiu.evLatch (16 * p.idx + j.val)).getD (w.val - 1) 0]) ∧
  (∀ (s : State) (p : Port) (v : Word), s.accepts p TIU_CDC_CTL.reg.addr none → s.flag TIU_CDC_STATUS.running = false →
    ∃ t, exec (.tiuCdcGo p v) s = .next t ∧ t.bus = .ok ∧ t.flag TIU_CDC_STATUS.running = true ∧
      t.f TIU_CDC_CTL.hits_log2 = bits v.toNat 8 5 ∧ t.f TIU_CDC_CTL.interp = bits v.toNat 0 5 ∧
      t.tiu.cdc = some (if bits v.toNat 0 5 < 24 then (bits v.toNat 0 5, .one) else (0, .all)) ∧
      s.onlyFields t [TIU_CDC_CTL.reg, TIU_CDC_STATUS.reg]) ∧
  (∀ (s : State) (i : Nat) (hits ws : List Nat), s.tiu.cdc = some (i, .one) → s.up .fabric = true → i < 24 →
    ws = ((List.range 64).map fun b => roundEvenNat (65536 * hits.getD b 0) (s.cdcHits .one)) →
    ((∀ b < 64, 0 < hits.getD b 0 ∧ 64 * hits.getD b 0 ≤ 4 * s.cdcHits .one) → ws.foldl (· + ·) 0 = 65536 →
      ∃ t, exec (.tiuCdcDone hits) s = .next t ∧ (∀ b < 64, t.f (TIU_CDC_TABLE.width i b) = ws.getD b 0 % 65536) ∧
        t.flag TIU_CDC_STATUS.running = false ∧ t.f TIU_CDC_STATUS.last = i ∧ s.raised 877 t ∧
        s.onlyFieldsEvents t (TIU_CDC_STATUS.reg :: (List.range 64).map (TIU_CDC_TABLE.reg i))) ∧
    ((∃ b < 64, hits.getD b 0 = 0 ∨ 4 * s.cdcHits .one < 64 * hits.getD b 0) →
      ∃ t, exec (.tiuCdcDone hits) s = .next t ∧ t.flag TIU_CDC_STATUS.fail = true ∧
        t.flag TIU_CDC_STATUS.running = false ∧ t.f TIU_CDC_STATUS.last = i ∧ s.raised 878 t ∧
        s.onlyFieldsEvents t [TIU_CDC_STATUS.reg])) ∧
  (∀ (s : State) (k : Fin 2) (tick : Nat) (bin : Fin 64) (isOver : Bool), s.up .fabric = true →
    s.flag (TIU_FIN_CTL.en k) = true →
    ∃ t, exec (.finEdge k tick bin isOver) s = .next t ∧ (t.finOf k).edges = (s.finOf k).edges + 1 ∧
      (t.finOf k).last = s.fineTime (16 + k.val) tick bin 0 ∧ (isOver = true → t.flag (TIU_FIN_STATUS.overspeed k) = true) ∧
      (isOver = true → (s.finOf k).told = false → s.raised 874 t) ∧
      s.onlyFieldsEvents t (TIU_FIN_STATUS.reg k :: (List.range 4).map TIU_STAT_STATUS.reg)) ∧
  (∀ (s : State) (k : Fin 2), s.finGateOver k = false → exec (.tiuFinGate k) s = .next s) ∧
  (∀ (s : State) (k : Fin 2), s.up .fabric = true → s.flag (TIU_FIN_CTL.en k) = true → s.finGateOver k = true →
    ∃ t, exec (.tiuFinGate k) s = .next t ∧ t.f (TIU_FIN_FREQ.reg k) = State.finFreq (s.finOf k) % 2 ^ 64 ∧
      t.f (TIU_FIN_STATUS.count k) = (s.f (TIU_FIN_STATUS.count k) + 1) % 65536 ∧
      t.flag (TIU_FIN_STATUS.valid k) = (decide (2 ≤ (s.finOf k).edges) && !(s.finOf k).ovs) ∧ (t.finOf k).edges = 0 ∧
      (t.finOf k).since = s.time.clk ∧
      s.raised 875 t ∧
      s.onlyFieldsEvents t ([TIU_FIN_FREQ.reg k, TIU_FIN_STATUS.reg k] ++ (List.range 4).map TIU_STAT_STATUS.reg))

/-- R485 to R487, R542: a statistics engine starts clear, and its N measurements give mean, least, greatest and deviation with
event 876; a canary sweep starts where none runs, once its period has passed or one has been asked for, and its end keeps its
start in TIU_CAN_LAST with event 879 and gives every tile its rate and its derated rate. -/
def Obligations.StatisticsAndCanarySweepsComplete : Prop :=
  (∀ (s : State) (p : Port) (e : Fin 4) (v : Word), s.accepts p (TIU_STAT_CTL.reg e).addr none →
    ∃ t, exec (.tiuStatGo p e v) s = .next t ∧ t.bus = .ok ∧ t.flag (TIU_STAT_STATUS.running e) = true ∧
      t.flag (TIU_STAT_STATUS.done e) = false ∧ Tab.get StatSt.reset t.tiu.stats e = StatSt.reset ∧
      (∀ l ∈ [TIU_STAT_CTL.mode e, TIU_STAT_CTL.b e, TIU_STAT_CTL.a e], t.f l = bits v.toNat l.lo l.width) ∧
      s.onlyFields t [TIU_STAT_CTL.reg e, TIU_STAT_STATUS.reg e]) ∧
  (∀ (s : State) (e : Fin 4) (x : StatSt), x = Tab.get StatSt.reset s.tiu.stats e →
    s.up .fabric = true → s.flag (TIU_STAT_STATUS.running e) = true → s.statN e ≤ x.n →
    ∃ t, exec (.tiuStatDone e) s = .next t ∧ t.f (TIU_STAT_MEAN.reg e) = unsigned 64 (roundEven x.sum x.n) ∧
      t.f (TIU_STAT_MIN.reg e) = unsigned 64 x.low ∧ t.f (TIU_STAT_MAX.reg e) = unsigned 64 x.high ∧
      t.f (TIU_STAT_SD.reg e) = min (2 ^ 32 - 1) (rootOver (x.n * x.sumSq - (x.sum * x.sum).toNat) x.n) ∧
      t.flag (TIU_STAT_STATUS.done e) = true ∧ t.flag (TIU_STAT_STATUS.running e) = false ∧ s.raised 876 t ∧
      s.onlyFieldsEvents t [TIU_STAT_MEAN.reg e, TIU_STAT_MIN.reg e, TIU_STAT_MAX.reg e, TIU_STAT_SD.reg e,
        TIU_STAT_STATUS.reg e]) ∧
  (∀ (s : State) (b ask : Bool), s.up .fabric = true → s.tiu.sweeping = none →
    ask = (s.tiu.sweepAsked || (s.tiu.sweepAfterStep && !s.flag GLB_AVS_STATUS.busy)) →
    (b = true ∧ s.tiu.sweepDue ≤ s.time.clk ∨ ask = true →
      ∃ t, exec (.canarySweepStart b) s = .next t ∧ t.tiu.sweeping = some s.time.tick.toNat ∧
        t.tiu.sweepAfterStep = (s.tiu.sweepAfterStep && s.flag GLB_AVS_STATUS.busy) ∧
        (b = true → s.tiu.sweepDue ≤ s.time.clk →
          t.tiu.sweepDue = s.time.clk + 2560000 * max 1 (s.f GLB_CAP_CTL.sweep_ms)) ∧ t.regs = s.regs) ∧
    ((b = false ∨ s.time.clk < s.tiu.sweepDue) → ask = false → exec (.canarySweepStart b) s = .next s)) ∧
  (∀ (s : State) (tiles kps : List CanaryTime) (start : Nat), s.tiu.sweeping = some start → s.up .fabric = true →
    ∃ t, exec (.canarySweepDone tiles kps) s = .next t ∧ t.tiu.sweeping = none ∧ t.tiu.sweepAsked = false ∧
      t.f TIU_CAN_LAST.reg = start % 2 ^ 64 ∧ s.raised 879 t ∧
      (∀ (k : Fin 1088) (c : CanaryTime), tiles[k.val]? = some c →
        t.f (FAB_TILE_RATE.rate_mops k) = State.canaryRate k c ∧ t.f (FAB_TILE_RATE.floor_mops k) = State.canaryFloor k c))

/-- R13, R60, R492 to R498, R625: a code that is written shows from the next period; the pin, a range change and the time before
drive hold the clear code, each with its cause; drive enables after its filter has settled, and stops at once where the bit is
cleared; while VHK is missing nothing starts, and its return starts every enabled output anew. A write that the semaphore of the
outputs bars is refused, one while their power domain is off is dropped, and an event that finds nothing to do changes
nothing. -/
def Obligations.FieldControlOutputsFollowCodesAndCauses : Prop :=
  (∀ (s : State) (p : Port) (f : Fin 8) (v : Word),
    (s.reachable (FCD_CODE.reg f).addr = true →
      ∃ t, exec (.fcdCodeWrite p f v) s = .next t ∧ t.bus = .ok ∧ t.f (FCD_CODE.code f) = v.toNat % 65536 ∧
        t.flag (FCD_STATUS.written f) = true ∧ t.f (FCD_STATUS.shown f) = s.f (FCD_STATUS.shown f) ∧
        s.onlyFields t [FCD_CODE.reg f, FCD_STATUS.reg f]) ∧
    (s.reachable (FCD_CODE.reg f).addr = false → exec (.fcdCodeWrite p f v) s = .next { s with bus := .ok })) ∧
  (∀ (s u : State) (f : Fin 8),
    (s.up .conv = false → exec (.fcdPwmPeriod f) s = .next s) ∧
    (s.up .conv = true → (s.fcdOut f).settled = false → s.fcdRuns f = false → exec (.fcdPwmPeriod f) s = .next s) ∧
    (s.up .conv = true → (s.fcdOut f).settled = false → s.fcdRuns f = true →
      ∃ t, exec (.fcdPwmPeriod f) s = .next t ∧ t.f (FCD_STATUS.shown f) = s.fcdTarget f % 65536 ∧
        s.onlyFields t [FCD_STATUS.reg f]) ∧
    (s.up .conv = true → (s.fcdOut f).settled = true → u = s.fcdCauseEnd f (FCD_STATUS.c_range f) →
      ∃ t, exec (.fcdPwmPeriod f) s = .next t ∧ t.flag (FCD_STATUS.c_range f) = false ∧ (t.fcdOut f).settled = false ∧
        t.f (FCD_STATUS.shown f) = (if s.fcdRuns f then u.fcdTarget f % 65536 else s.f (FCD_STATUS.shown f)) ∧
        s.onlyFields t [FCD_STATUS.reg f])) ∧
  (∀ (s : State),
    (s.fcd.clrdacLow = true → exec .clrdacFall s = .next s) ∧
    (s.fcd.clrdacLow = false → s.up .conv = false →
      exec .clrdacFall s = .next { s with fcd := { s.fcd with clrdacLow := true } }) ∧
    (s.fcd.clrdacLow = false → s.up .conv = true →
      ∃ t, exec .clrdacFall s = .next t ∧ t.flag FCD_PIN.clrdac_n = false ∧
        t.f FCD_PIN.clr_count = min 65535 (s.f FCD_PIN.clr_count + 1) ∧ s.raised 104 t ∧
        (∀ f : Fin 8, t.flag (FCD_STATUS.c_clrdac f) = true ∧
          t.f (FCD_STATUS.shown f) = (if s.fcdRuns f then s.fcdClearCode f else s.f (FCD_STATUS.shown f))) ∧
        s.onlyFieldsEvents t (FCD_PIN.reg :: (List.range 8).map FCD_STATUS.reg)) ∧
    (s.fcd.clrdacLow = false → exec .clrdacRelease s = .next s) ∧
    (s.fcd.clrdacLow = true → s.up .conv = false →
      exec .clrdacRelease s = .next { s with fcd := { s.fcd with clrdacLow := false } }) ∧
    (s.fcd.clrdacLow = true → s.up .conv = true →
      ∃ t, exec .clrdacRelease s = .next t ∧ t.flag FCD_PIN.clrdac_n = true ∧
        (∀ f : Fin 8, t.flag (FCD_STATUS.c_clrdac f) = false ∧ t.f (FCD_STATUS.shown f) = s.f (FCD_STATUS.shown f)) ∧
        s.onlyFields t (FCD_PIN.reg :: (List.range 8).map FCD_STATUS.reg))) ∧
  (∀ (s : State) (p : Port) (f : Fin 8), s.accepts p FCD_CTL.reg.addr (some 10) →
    (bit (s.f FCD_CTL.drive_en) f = false → s.fcd.vhkLow = false →
      ∃ t, exec (.fcdDriveEnable p f) s = .next t ∧ t.bus = .ok ∧ bit (t.f FCD_CTL.drive_en) f = true ∧
        t.flag (FCD_STATUS.driving f) = false ∧ t.flag (FCD_STATUS.c_pre f) = true ∧
        t.f (FCD_STATUS.shown f) = s.fcdClearCode f ∧ s.onlyFields t [FCD_CTL.reg, FCD_STATUS.reg f]) ∧
    (bit (s.f FCD_CTL.drive_en) f = true ∨ s.fcd.vhkLow = true →
      ∃ t, exec (.fcdDriveEnable p f) s = .next t ∧ t.bus = .ok ∧ bit (t.f FCD_CTL.drive_en) f = true ∧
        t.fcd = s.fcd ∧ s.onlyFields t [FCD_CTL.reg]) ∧
    (bit (s.f FCD_CTL.drive_en) f = true →
      ∃ t, exec (.fcdDriveDisable p f) s = .next t ∧ t.bus = .ok ∧ bit (t.f FCD_CTL.drive_en) f = false ∧
        t.flag (FCD_STATUS.driving f) = false ∧ t.flag (FCD_STATUS.c_pre f) = false ∧
        s.onlyFields t [FCD_CTL.reg, FCD_STATUS.reg f]) ∧
    (bit (s.f FCD_CTL.drive_en) f = false →
      ∃ t, exec (.fcdDriveDisable p f) s = .next t ∧ t.bus = .ok ∧ bit (t.f FCD_CTL.drive_en) f = false ∧
        t.fcd = s.fcd ∧ s.onlyFields t [FCD_CTL.reg])) ∧
  (∀ (s : State) (f : Fin 8),
    (s.flag (FCD_STATUS.c_pre f) = false ∨ s.fcdRuns f = false → exec (.fcdPredriveDone f) s = .next s) ∧
    (s.flag (FCD_STATUS.c_pre f) = true → s.fcdRuns f = true →
      ∃ t, exec (.fcdPredriveDone f) s = .next t ∧ t.flag (FCD_STATUS.driving f) = true ∧
        t.flag (FCD_STATUS.c_pre f) = false ∧ s.raised 105 t ∧ s.onlyFieldsEvents t [FCD_STATUS.reg f])) ∧
  (∀ (s : State),
    (s.fcd.vhkLow = false → exec .vhkReturn s = .next s) ∧
    (s.fcd.vhkLow = true →
      ∃ t, exec .vhkReturn s = .next t ∧ t.fcd.vhkLow = false ∧
        (∀ f : Fin 8, bit (s.f FCD_CTL.drive_en) f = true →
          t.flag (FCD_STATUS.c_pre f) = true ∧ t.flag (FCD_STATUS.driving f) = false ∧
          t.f (FCD_STATUS.shown f) = s.fcdClearCode f) ∧
        (∀ f : Fin 8, bit (s.f FCD_CTL.drive_en) f = false → t.f (FCD_STATUS.reg f) = s.f (FCD_STATUS.reg f)) ∧
        s.onlyFields t ((List.range 8).map FCD_STATUS.reg))) ∧
  (∀ (s : State) (p : Port) (f : Fin 8) (r : Fin 2), s.accepts p (FCD_CFG.reg f).addr (some 10) →
    ∃ t, exec (.fcdRangeWrite p f r) s = .next t ∧ t.bus = .ok ∧ t.f (FCD_CFG.range f) = r.val ∧
      (s.f (FCD_CFG.range f) ≠ r.val → t.flag (FCD_STATUS.switching f) = true ∧ t.flag (FCD_STATUS.c_range f) = true) ∧
      (s.f (FCD_CFG.range f) = r.val → t.regs = s.regs) ∧ s.onlyFields t [FCD_CFG.reg f, FCD_STATUS.reg f]) ∧
  (∀ (s : State) (p : Port) (f : Fin 8) (r : Fin 2) (c : Instr) (a : Nat),
    (c, a) ∈ [(.fcdDriveEnable p f, FCD_CTL.reg.addr), (.fcdDriveDisable p f, FCD_CTL.reg.addr),
      (.fcdRangeWrite p f r, (FCD_CFG.reg f).addr)] →
    (s.reachable a = false → exec c s = .next { s with bus := .ok }) ∧
    (s.reachable a = true → s.holder 10 ≠ some (.cp p) → ∃ t, exec c s = .next t ∧ s.refusedFor p a t)) ∧
  (∀ (s : State) (f : Fin 8),
    (s.flag (FCD_STATUS.switching f) = false → exec (.fcdRangeSettled f) s = .next s) ∧
    (s.flag (FCD_STATUS.switching f) = true →
      ∃ t, exec (.fcdRangeSettled f) s = .next t ∧ t.flag (FCD_STATUS.switching f) = false ∧
        t.flag (FCD_STATUS.c_range f) = s.flag (FCD_STATUS.c_range f) ∧ s.raised 107 t ∧
        s.onlyFieldsEvents t [FCD_STATUS.reg f]))

/-- R499 to R502: a start begins a scan of the channels enabled then, or sets overrun where one runs; a stop is kept for the
scan's end; a shared channel stores both codes and compares them, with event 109 where they differ by more than HK_TOL.ab; a scan
that has ended counts, with event 108. -/
def Obligations.HousekeepingScansConvertAndCompare : Prop :=
  (∀ (s : State) (p : Port) (v : Word), s.accepts p HK_CTL.reg.addr none → s.fcd.scan = none →
    ∃ t, exec (.hkStart p v) s = .next t ∧ t.bus = .ok ∧ t.fcd.scan = some s.hkChannels ∧ t.flag HK_STATUS.running = true ∧
      t.f HK_CTL.cont = bits v.toNat 0 1 ∧ s.onlyFields t [HK_CTL.reg, HK_STATUS.reg]) ∧
  (∀ (s : State) (p : Port) (v : Word) (x : HkScan), s.accepts p HK_CTL.reg.addr none → s.fcd.scan = some x →
    (∃ t, exec (.hkStart p v) s = .next t ∧ t.bus = .ok ∧ t.fcd.scan = some x ∧ t.flag HK_STATUS.overrun = true ∧
      s.onlyFields t [HK_CTL.reg, HK_STATUS.reg]) ∧
    (bit v.toNat 31 = false → ∃ t, exec (.hkStop p v) s = .next t ∧ t.bus = .ok ∧ t.fcd.scan = some x ∧
      t.fcd.stopAsked = true ∧ s.onlyFields t [HK_CTL.reg])) ∧
  (∀ (s : State) (a b : Int) (x : HkScan) (c : Nat) (cs : List Nat), s.fcd.scan = some x → x.shared = c :: cs → c < 68 →
    ∃ t, exec (.hkConversion a b) s = .next t ∧ t.fcd.scan = some { x with shared := cs } ∧
      t.f (HK_RES_A.code c) = min 65535 a.toNat ∧ bits (t.f (HK_RES_B.reg c)) 0 16 = min 65535 b.toNat ∧
      t.flag (HK_RES_A.valid c) = true ∧ t.flag (HK_RES_A.over c) = decide (a < 0 ∨ 65535 < a) ∧
      (x.tolAb < max (min 65535 a.toNat) (min 65535 b.toNat) - min (min 65535 a.toNat) (min 65535 b.toNat) →
        t.flag HK_STATUS.mismatch = true ∧ t.f HK_STATUS.mm_chan = c ∧ s.raised 109 t) ∧
      (c < 16 → s.onlyFieldsEvents t [HK_RES_A.reg c, HK_RES_B.reg c, HK_STATUS.reg])) ∧
  (∀ (s : State) (x : HkScan), s.fcd.scan = some x → x.shared = [] → x.onlyA = [] → x.onlyB = [] →
    ∃ t, exec .hkScanDone s = .next t ∧ t.f HK_STATUS.scans = (s.f HK_STATUS.scans + 1) % 65536 ∧ s.raised 108 t ∧
      t.flag HK_STATUS.running = (s.flag HK_CTL.cont && !s.fcd.stopAsked) ∧ t.fcd.stopAsked = false ∧
      s.onlyFieldsEvents t [HK_STATUS.reg])

/-! ### Calibration and the ensemble -/

/-- R513 to R518, R507, R511, R512, R626: a go begins a run with its inputs on CAL_IN, or is refused with code BUSY_PATH or PLAN,
and is ignored outside RUN (the model's choice, log entry 35); passes last pass_us, go on, are repeated and
end a run by its codes, a group that waits too long for next ends it, and the selectors return; a commit puts the waiting set in force with its
tables, or leaves everything with code STORE; a reading shows which inputs are stale; a store program runs, ends with event 888,
or is refused or fails with event 889. -/
def Obligations.CalibrationRunsCommitsAndStores : Prop :=
  (∀ (s : State) (p : Port) (v : Word), s.accepts p CAL_CTL.reg.addr (some 2) → v.toNat / 2 ^ 28 % 8 = 0 → s.cal.run = none →
    (s.calMay = false → ∃ t, exec (.calGo p v) s = .next t ∧ t.bus = .ok ∧ t.cal = s.cal ∧ s.onlyFields t [CAL_CTL.reg]) ∧
    ((∃ n : Fin 4, bit v.toNat n = true ∧ s.pathPresent n = true ∧ s.realTime n = true) → s.calMay = true →
      ∃ t, exec (.calGo p v) s = .next t ∧ t.bus = .ok ∧ t.f CAL_STATUS.code = 7 ∧ s.raised 885 t ∧ t.cal = s.cal ∧
        s.onlyFieldsEvents t [CAL_CTL.reg, CAL_STATUS.reg]) ∧
    ((∀ n : Fin 4, bit v.toNat n = true → s.pathPresent n = true → s.realTime n = false) → s.planBad = true →
      s.calMay = true → ∃ t, exec (.calGo p v) s = .next t ∧ t.bus = .ok ∧ t.f CAL_STATUS.code = 8 ∧ s.raised 885 t ∧ t.cal = s.cal ∧
        s.onlyFieldsEvents t [CAL_CTL.reg, CAL_STATUS.reg]) ∧
    ((∀ n : Fin 4, bit v.toNat n = true → s.pathPresent n = true → s.realTime n = false) → s.planBad = false →
      s.calMay = true → ∃ t, exec (.calGo p v) s = .next t ∧ t.bus = .ok ∧ t.f CAL_STATUS.state = (if bit v.toNat 5 then 1 else 2) ∧
        t.cal.pending = none ∧ t.flag CAL_STATUS.pending = false ∧ (bit v.toNat 5 = false → s.raised 890 t) ∧
        (∀ n : Fin 4, bit v.toNat n = true → s.pathPresent n = true → t.f (CNV_CTL.input_sel n) = 1) ∧
        s.onlyFieldsEvents t ([CAL_CTL.reg, CAL_STATUS.reg] ++ (List.range 4).map CNV_CTL.reg ++
          (List.range 4).flatMap fun n => (List.range 1024).map (CAL_RESULT_INFO.reg n)))) ∧
  (∀ (s : State) (p : Port) (v : Word) (r : CalRun), s.accepts p CAL_CTL.reg.addr (some 2) → s.cal.run = some r →
    bit v.toNat 28 = false → bit v.toNat 31 = false →
    (bit v.toNat 30 = false → s.f CAL_STATUS.state = 2 →
      ∃ t, exec (.calNext p v) s = .next t ∧ t.bus = .ok ∧ t.f CAL_STATUS.state = 1 ∧
        t.cal.run = some { r with pass := 1, since := s.time.clk } ∧ s.onlyFields t [CAL_CTL.reg, CAL_STATUS.reg]) ∧
    (∃ t, exec (.calAbort p v) s = .next t ∧ t.bus = .ok ∧ t.f CAL_STATUS.state = 0 ∧ t.f CAL_STATUS.code = 6 ∧
      t.cal.run = none ∧ s.raised 885 t ∧
      (∀ n : Fin 4, bit r.inMask n = true →
        t.f (CNV_CTL.input_sel n) = r.sels.getD n 0 % 2 ^ (CNV_CTL.input_sel n).width) ∧
      s.onlyFieldsEvents t ([CAL_CTL.reg, CAL_STATUS.reg] ++ (List.range 4).map CNV_CTL.reg))) ∧
  (∀ (s : State) (r : CalRun) (rs : List (Nat × Int × Int)), s.cal.run = some r → s.f CAL_STATUS.state = 1 →
    (∀ b, ∃ t, exec (.calPassDone rs b true) s = .next t ∧ t.f CAL_STATUS.state = 0 ∧ t.f CAL_STATUS.code = 2 ∧
      t.cal.run = none ∧ s.raised 885 t) ∧
    (∀ b, s.passOver r = false → exec (.calPassDone rs b false) s = .next s) ∧
    (∀ b, s.passOver r = true → b = true ∨ r.spoilt = true → r.repeats < 3 →
      ∃ t, exec (.calPassDone rs b false) s = .next t ∧ t.regs = s.regs ∧
        t.cal.run = some { r with repeats := r.repeats + 1, since := s.time.clk, spoilt := false }) ∧
    (∀ b, s.passOver r = true → b = true ∨ r.spoilt = true → 3 ≤ r.repeats →
      ∃ t, exec (.calPassDone rs b false) s = .next t ∧ t.f CAL_STATUS.code = 3 ∧ t.cal.run = none ∧ s.raised 885 t) ∧
    (s.passOver r = true → r.spoilt = false → r.pass = 1 →
      ∃ t q, exec (.calPassDone rs false false) s = .next t ∧ t.regs = s.regs ∧ t.cal.run = some q ∧ q.pass = 2 ∧
        q.since = s.time.clk)) ∧
  (∀ (s : State) (r : CalRun), s.cal.run = some r → s.time.clk < r.since + 2560000000 * max 1 (s.f CAL_PASS.timeout_s) →
    exec .calGroupTimeout s = .next s) ∧
  (∀ (s : State) (r : CalRun), s.cal.run = some r → s.f CAL_STATUS.state = 2 →
    r.since + 2560000000 * max 1 (s.f CAL_PASS.timeout_s) ≤ s.time.clk →
    ∃ t, exec .calGroupTimeout s = .next t ∧ t.f CAL_STATUS.state = 0 ∧ t.f CAL_STATUS.code = 4 ∧ t.cal.run = none ∧
      s.raised 885 t ∧ s.onlyFieldsEvents t (CAL_STATUS.reg :: (List.range 4).map CNV_CTL.reg)) ∧
  (∀ (s : State) (p : Port) (v : Word) (x : CalSet), s.accepts p CAL_CTL.reg.addr (some 2) → s.cal.pending = some x →
    s.cal.committing = none → bit v.toNat 29 = false → bit v.toNat 30 = false → bit v.toNat 31 = false →
    ∃ t, exec (.calCommit p v) s = .next t ∧ t.bus = .ok ∧ t.flag CAL_STATUS.committing = true ∧
      t.cal.committing = some { x with generation := s.cal.inForce.generation + 1 } ∧ t.cal.inForce = s.cal.inForce ∧
      s.onlyFields t [CAL_CTL.reg, CAL_STATUS.reg]) ∧
  (∀ (s : State) (x : CalSet), s.cal.committing = some x →
    (∃ t, exec (.calCommitDone true) s = .next t ∧ t.cal.inForce = x ∧ t.cal.committing = none ∧ t.cal.pending = none ∧
      t.f CAL_GEN.reg = x.generation % 2 ^ 32 ∧ t.flag CAL_STATUS.slot = !s.flag CAL_STATUS.slot ∧ s.raised 886 t ∧
      t.f CAL_COMMIT_INDEX.reg = s.f (GLB_SEQ.reg 0) % 2 ^ 64 ∧
      (∀ (n : Fin 4) (g : Fin 256), s.pathPresent n = true →
        t.f (CAL_TABLE.gain n g) = unsigned 16 ((x.inputs.getD n InputSet.zero).gain.getD g 0) ∧
        t.f (CAL_TABLE.phase n g) = unsigned 16 ((x.inputs.getD n InputSet.zero).phase.getD g 0))) ∧
    (∃ t, exec (.calCommitDone false) s = .next t ∧ t.cal = { s.cal with committing := none } ∧ t.f CAL_STATUS.code = 9 ∧
      t.flag CAL_STATUS.pending = s.flag CAL_STATUS.pending ∧ s.raised 885 t ∧ s.onlyFieldsEvents t [CAL_STATUS.reg])) ∧
  (∀ (s : State) (temps : List (Fin 8 × Int)), s.time.running = true →
    ∃ t, exec (.calStaleCheck temps) s = .next t ∧ t.cal.inForce = s.cal.inForce ∧
      t.cal.temps = temps.foldl (fun m e => m.put 0 e.1 e.2) s.cal.temps ∧
      (∀ n : Fin 4, s.pathPresent n = true → bit (t.f CAL_STATUS.stale) n = t.calStale n) ∧
      s.onlyFieldsEvents t [CAL_STATUS.reg]) ∧
  (∀ (s : State) (p : Port) (v : Word), s.accepts p CAL_ST_CTL.reg.addr (some 12) →
    ∃ t, exec (.calStGo p v) s = .next t ∧ t.bus = .ok ∧ s.onlyFieldsEvents t [CAL_ST_STATUS.reg] ∧
      (s.storeRefused = none → t.flag CAL_ST_STATUS.running = true ∧
        t.cal.program = some (p, s.f CAL_ST_ADDR.reg, s.f CAL_ST_LEN.reg, s.f CAL_ST_SRC.reg)) ∧
      (∀ c, s.storeRefused = some c → t.f CAL_ST_STATUS.code = c ∧ t.cal = s.cal ∧ s.raised 889 t)) ∧
  (∀ (s : State) (q : Port) (a n x : Nat) (b : List Byte), s.cal.program = some (q, a, n, x) →
    (n ≤ b.length → ∃ t, exec (.calStDone (some b) true) s = .next t ∧ t.f CAL_ST_CRC.reg = (crc32c (b.take n)).toNat ∧
      t.f CAL_ST_STATUS.code = 0 ∧ t.flag CAL_ST_STATUS.running = false ∧ s.raised 888 t ∧
      s.onlyFieldsEvents t [CAL_ST_CRC.reg, CAL_ST_STATUS.reg]) ∧
    (n ≤ b.length → ∃ t, exec (.calStDone (some b) false) s = .next t ∧ t.f CAL_ST_STATUS.code = 5 ∧
      t.flag CAL_ST_STATUS.running = false ∧ s.raised 889 t ∧ s.onlyFieldsEvents t [CAL_ST_STATUS.reg]) ∧
    (b.length < n → ∀ w, ∃ t, exec (.calStDone (some b) w) s = .next t ∧ t.f CAL_ST_STATUS.code = 4 ∧
      t.flag CAL_ST_STATUS.running = false ∧ s.raised 889 t ∧ s.onlyFieldsEvents t [CAL_ST_STATUS.reg]))

/-- R524 to R536: the leader's tokens go out with its next sequence number, a HEARTBEAT once none has gone for 10 us, an ARM or a
DISARM with its tick ENS_LEAD ahead; no go acts while one is out. A follower forwards every token that it hears, FPRINT but its own;
one it has seen changes no register. It acknowledges an ARM or a DISARM that comes in time and without a gap, a held one no ARM; one
that is late makes it lagging, as does a gap. SYNC_PREP arms it; TIME makes it step or gives the difference; a VERDICT holds it or
lets it go; STATE waits for its tick. The leader compares a fingerprint and answers with a VERDICT, pulses SYNC_OUT when SYNC_PREP is
back, ends the SYNC with STATE when TIME is back, and marks who lagged when an ARM or a DISARM is back. Tokens that wait apply at
their tick and not before, and a DISARM wins over an ARM. A SYNC begins, and is abandoned after 100 us (a second write while
SYNC_PREP is out is dropped, the model's choice, log entry 38); a token that fails its check is discarded; loss of ring 0 moves the
leader to ring 1 and sends its last tokens again; 50 us without a token make a member lagging. -/
def Obligations.EnsembleTokensGoRoundAndApply : Prop :=
  (∀ (s : State), s.ensLeads = false ∨ s.time.clk < s.ens.sentAt + 25600 → exec .ensHeartbeat s = .next s) ∧
  (∀ (s : State), s.ensLeads = true → s.ens.sentAt + 25600 ≤ s.time.clk →
    ∃ t, exec .ensHeartbeat s = .next t ∧ t.regs = s.regs ∧ t.ens.sentAt = s.time.clk ∧ t.ens.txSeq = (s.ens.txSeq + 1) % 65536 ∧
      t.out = .ringToken s.ensRing (EnsToken.bytes { type_ := 8, origin := s.f ENS_CTL.id, seq := s.ens.txSeq, ack := 0,
                                                     tick := s.now.tick, payload := [] }) :: s.out) ∧
  (∀ (s : State), s.ensFollows = false ∨ s.ens.sentFp = some s.fingerprint → exec .ensFprint s = .next s) ∧
  (∀ (s : State), s.ensFollows = true → s.ens.sentFp ≠ some s.fingerprint →
    ∃ t, exec .ensFprint s = .next t ∧ t.regs = s.regs ∧ t.ens = { s.ens with sentFp := some s.fingerprint } ∧
      t.out = .ringToken s.ensRing (EnsToken.bytes { type_ := 1, origin := s.f ENS_CTL.id, seq := 0, ack := 0,
                                                     tick := s.now.tick, payload := s.fingerprint }) :: s.out) ∧
  (∀ (s : State) (p : Port) (v : Word) (arm : Bool) (r c tick : Nat), s.accepts p ENS_TOKEN.reg.addr (some 4) →
    r = s.f ENS_ARM_RGN.reg &&& s.f ENS_SCOPE_RGN.reg → c = s.f ENS_ARM_COND.reg &&& s.f ENS_SCOPE_COND.reg →
    tick = (s.now.tick + max 2560 (s.f ENS_LEAD.reg)) % 2 ^ 64 →
    ∃ t, exec (if arm then .ensTokenArm p v else .ensTokenDisarm p v) s = .next t ∧ t.bus = .ok ∧
      (s.ensLeads = false ∨ s.flag ENS_TOKEN_STATUS.busy = true → t.regs = s.regs ∧ t.out = s.out ∧ t.ens = s.ens) ∧
      (s.ensLeads = true → s.flag ENS_TOKEN_STATUS.busy = false →
        t.flag ENS_TOKEN_STATUS.busy = true ∧ t.f ENS_APPLY.reg = tick ∧
        t.out = .ringToken s.ensRing (EnsToken.bytes { type_ := if arm then 3 else 4, origin := s.f ENS_CTL.id,
                                                       seq := s.ens.txSeq,
                                                       ack := b2n (s.flag ENS_STATUS.in_) * 2 ^ s.f ENS_CTL.id,
                                                       tick := tick, payload := leBytes 8 r ++ leBytes 8 c }) :: s.out ∧
        (s.flag ENS_STATUS.in_ = true → t.ens.applies = s.ens.applies ++
          [{ what := if arm then .arm else .disarm, rgn := r, cond := c, tick := tick }]) ∧
        (s.flag ENS_STATUS.in_ = false → t.ens.applies = s.ens.applies) ∧
        s.onlyFields t [ENS_TOKEN_STATUS.reg, ENS_APPLY.reg])) ∧
  (∀ (s : State) (ring : Fin 2) (b : List Byte) (w : Bool),
    (s.ensOn = false ∨ s.flag (State.ringUp ring) = false → exec (.ensTokenRx ring b w) s = .next s) ∧
    (s.ensOn = true → s.flag (State.ringUp ring) = true → EnsToken.ofBytes b = none →
      ∃ t, exec (.ensTokenRx ring b w) s = .next t ∧ t.regs = s.regs ∧ t.out = s.out ∧
        (ring.val, s.time.clk) ∈ t.ens.discards ∧ { t.ens with discards := s.ens.discards } = s.ens)) ∧
  (∀ (s : State) (ring : Fin 2) (b : List Byte) (w : Bool) (x : EnsToken), s.hears ring b x → s.ensFollows = true →
    (x.type_ = 1 → ∃ t, exec (.ensTokenRx ring b w) s = .next t ∧ t.regs = s.regs ∧
      (x.origin = s.f ENS_CTL.id → t.out = s.out) ∧ (x.origin ≠ s.f ENS_CTL.id → t.forwarded ring x x.ack)) ∧
    (x.type_ ≠ 1 → (s.ensNew x.seq).1 = false →
      ∃ t, exec (.ensTokenRx ring b w) s = .next t ∧ t.regs = s.regs ∧ t.forwarded ring x x.ack) ∧
    (x.type_ ≠ 1 → (s.ensNew x.seq).1 = true →
      ∃ t, exec (.ensTokenRx ring b w) s = .next t ∧ t.ens.rxSeq = some x.seq ∧ t.f ENS_STATUS.on_ring1 = ring.val ∧
        (t.forwarded ring x x.ack ∨ t.forwarded ring x (x.ack ||| 2 ^ s.f ENS_CTL.id)))) ∧
  (∀ (s : State) (ring : Fin 2) (b : List Byte) (w : Bool) (x : EnsToken), s.hears ring b x → s.ensFollows = true →
    x.type_ = 3 ∨ x.type_ = 4 → s.ensNew x.seq = (true, false) →
    ∃ t, exec (.ensTokenRx ring b w) s = .next t ∧
      (x.type_ = 3 → s.flag ENS_STATUS.held = true → t.ens.applies = s.ens.applies ∧ t.forwarded ring x x.ack ∧
        s.onlyFields t [ENS_STATUS.reg]) ∧
      (x.type_ = 4 ∨ s.flag ENS_STATUS.held = false → x.tick ≤ s.now.tick → s.flag ENS_STATUS.lagging = false →
        t.flag ENS_STATUS.lagging = true ∧ t.flag ENS_STATUS.in_ = false ∧ s.raised 893 t ∧ t.ens.applies = [] ∧
        t.forwarded ring x x.ack ∧ ∀ c : Fin 64, bit (s.f ENS_SCOPE_COND.reg) c = true → t.f (TRG_COND.armed c) = 0) ∧
      (x.type_ = 4 ∨ s.flag ENS_STATUS.held = false → s.now.tick < x.tick → s.flag ENS_STATUS.in_ = false →
        t.ens.applies = s.ens.applies ∧ t.forwarded ring x x.ack ∧ s.onlyFields t [ENS_STATUS.reg]) ∧
      (x.type_ = 4 ∨ s.flag ENS_STATUS.held = false → s.now.tick < x.tick → s.flag ENS_STATUS.in_ = true →
        t.forwarded ring x (x.ack ||| 2 ^ s.f ENS_CTL.id) ∧ t.f ENS_APPLY.reg = x.tick % 2 ^ 64 ∧
        t.ens.applies = s.ens.applies ++ [{ what := if x.type_ = 3 then .arm else .disarm,
                                            rgn := field x.payload 0 8 &&& s.f ENS_SCOPE_RGN.reg,
                                            cond := field x.payload 8 8 &&& s.f ENS_SCOPE_COND.reg, tick := x.tick }] ∧
        s.onlyFields t [ENS_STATUS.reg, ENS_APPLY.reg])) ∧
  (∀ (s : State) (ring : Fin 2) (b : List Byte) (w : Bool) (x : EnsToken), s.hears ring b x → s.ensFollows = true →
    x.type_ = 8 → s.ensNew x.seq = (true, true) → s.flag ENS_STATUS.lagging = false →
    ∃ t, exec (.ensTokenRx ring b w) s = .next t ∧ t.forwarded ring x x.ack ∧ t.flag ENS_STATUS.lagging = true ∧
      t.f ENS_COUNTS.seq_gaps = min 65535 (s.f ENS_COUNTS.seq_gaps + 1) ∧ s.raised 893 t ∧ t.ens.applies = []) ∧
  (∀ (s : State) (ring : Fin 2) (b : List Byte) (w : Bool) (x : EnsToken), s.hears ring b x → s.ensFollows = true →
    s.ensNew x.seq = (true, false) →
    (x.type_ = 2 → bit (field x.payload 0 2) (s.f ENS_CTL.id) = true → s.flag ENS_STATUS.held = false →
      ∃ t, exec (.ensTokenRx ring b w) s = .next t ∧ t.flag ENS_STATUS.held = true ∧ t.flag ENS_STATUS.in_ = false ∧
        t.f ENS_STATUS.fp_field = field x.payload 2 8 / 16 ^ s.f ENS_CTL.id % 16 ∧ s.raised 892 t ∧ t.forwarded ring x x.ack ∧
        ∀ c : Fin 64, bit (s.f ENS_SCOPE_COND.reg) c = true → t.f (TRG_COND.armed c) = 0) ∧
    (x.type_ = 2 → bit (field x.payload 0 2) (s.f ENS_CTL.id) = false →
      ∃ t, exec (.ensTokenRx ring b w) s = .next t ∧ t.flag ENS_STATUS.held = false ∧ t.forwarded ring x x.ack ∧
        s.onlyFields t [ENS_STATUS.reg]) ∧
    (x.type_ = 5 → ∃ t, exec (.ensTokenRx ring b w) s = .next t ∧ t.flag SYNC_CTL.arm = true ∧ t.flag SYNC_STATUS.armed = true ∧
      t.ens.sentFp = none ∧ t.forwarded ring x (x.ack ||| 2 ^ s.f ENS_CTL.id) ∧
      s.onlyFields t [ENS_STATUS.reg, SYNC_CTL.reg, SYNC_STATUS.reg]) ∧
    (x.type_ = 7 → ∃ t, exec (.ensTokenRx ring b w) s = .next t ∧ t.forwarded ring x x.ack ∧ s.onlyFields t [ENS_STATUS.reg] ∧
      (s.flag ENS_STATUS.held = true ∨ s.ens.rejoin = false ∨ s.flag ENS_STATUS.in_ = false → t.ens.applies = s.ens.applies) ∧
      (s.flag ENS_STATUS.held = false → s.ens.rejoin = true → s.flag ENS_STATUS.in_ = true →
        t.ens.rejoin = false ∧ t.ens.applies = s.ens.applies ++ [{ what := .state, rgn := field x.payload 0 8 &&& s.f ENS_SCOPE_RGN.reg,
                                                                   cond := field x.payload 8 8 &&& s.f ENS_SCOPE_COND.reg,
                                                                   tick := x.tick }]))) ∧
  (∀ (s : State) (ring : Fin 2) (b : List Byte) (w : Bool) (x : EnsToken) (own d : Int) (join : Bool), s.hears ring b x →
    s.ensFollows = true → s.ensNew x.seq = (true, false) → x.type_ = 6 → s.ens.edge = some own →
    d = own - ((65536 * x.tick + field x.payload 0 2 : Nat) : Int) →
    join = (s.ens.first || s.flag ENS_CTL.restep || s.ens.prepRestep) →
    ∃ t, exec (.ensTokenRx ring b w) s = .next t ∧ t.forwarded ring x x.ack ∧ t.ens.edge = none ∧
      (join = true → t.f ENS_TIME_DIFF.reg = unsigned 32 (d - 1024 * roundEven d 1024) ∧
        t.f UPLL_STEP.reg = unsigned 64 (-roundEven d 1024) ∧ t.now.bins = unsigned 70 ((s.now.bins : Int) - roundEven d 1024) ∧
        t.flag ENS_STATUS.joined = true ∧ t.flag ENS_STATUS.time_fault = false ∧ t.flag ENS_CTL.restep = false ∧ s.raised 70 t) ∧
      (join = false → t.f ENS_TIME_DIFF.reg = unsigned 32 d ∧ t.time = s.time ∧
        (2013 < d.natAbs → t.flag ENS_STATUS.time_fault = true ∧ s.raised 894 t) ∧
        (d.natAbs ≤ 2013 → t.flag ENS_STATUS.time_fault = false ∧ s.onlyFields t [ENS_STATUS.reg, ENS_TIME_DIFF.reg])) ∧
      (s.flag ENS_STATUS.held = false → t.flag ENS_STATUS.lagging = false)) ∧
  (∀ (s : State) (ring : Fin 2) (b : List Byte) (w : Bool) (x : EnsToken) (m code : Nat), s.hears ring b x → s.ensLeads = true →
    x.type_ = 1 → m = x.origin % 16 →
    code = (if w = true ∨ m = s.f ENS_CTL.id then 6 else State.fpCompare x.payload s.fingerprint) →
    ∃ t, exec (.ensTokenRx ring b w) s = .next t ∧ t.f (ENS_FP_FIELD.code m) = code ∧
      bit (t.f ENS_MEMBERS.present) m = true ∧ bit (t.f ENS_MEMBERS.held) m = (code != 0) ∧
      bit (t.f ENS_LAGGING.time_fault) m = bit (field x.payload 19 1) 0 ∧
      t.out = .ringToken s.ensRing (EnsToken.bytes { type_ := 2, origin := s.f ENS_CTL.id, seq := s.ens.txSeq, ack := 0,
                                                     tick := s.now.tick, payload := t.verdictPayload }) :: s.out ∧
      s.onlyFields t [ENS_MEMBERS.reg, ENS_LAGGING.reg, ENS_FP_FIELD.reg m]) ∧
  (∀ (s : State) (ring : Fin 2) (b : List Byte) (w : Bool) (x : EnsToken), s.hears ring b x → s.ensLeads = true →
    (x.type_ = 5 → s.ens.stage = 1 → ∃ t, exec (.ensTokenRx ring b w) s = .next t ∧ t.ens.stage = 2 ∧ t.ens.members = x.ack ∧
      t.regs = s.regs ∧ t.out = if s.f SYNC_CTL.out_mode = 2 then .syncOut s.now.tick :: s.out else s.out) ∧
    (x.type_ = 6 → s.ens.stage = 3 → ∃ t, exec (.ensTokenRx ring b w) s = .next t ∧ t.ens.stage = 0 ∧ s.raised 895 t ∧
      t.f ENS_SYNC_NUM.reg = (s.f ENS_SYNC_NUM.reg + 1) % 2 ^ 32 ∧
      t.out = .ringToken s.ensRing (EnsToken.bytes { type_ := 7, origin := s.f ENS_CTL.id, seq := s.ens.txSeq, ack := 0,
                                                     tick := (s.now.tick + max 2560 (s.f ENS_LEAD.reg)) % 2 ^ 64,
                                                     payload := leBytes 8 s.ens.armedRgn ++ leBytes 8 s.ens.armedCond }) :: s.out ∧
      s.onlyFieldsEvents t [ENS_LAGGING.reg, ENS_SYNC_NUM.reg]) ∧
    (x.type_ = 5 ∧ s.ens.stage ≠ 1 ∨ x.type_ = 6 ∧ s.ens.stage ≠ 3 →
      ∃ t, exec (.ensTokenRx ring b w) s = .next t ∧ t.regs = s.regs ∧ t.out = s.out ∧ t.ens.stage = s.ens.stage)) ∧
  (∀ (s : State) (ack : BitVec 16) (late : Nat), s.ensLeads = true → s.flag ENS_TOKEN_STATUS.busy = true →
    late = s.ens.members &&& (65535 - s.f ENS_MEMBERS.held) &&& (65535 - s.f ENS_LAGGING.lagging) →
    ∃ t, exec (.ensTokenReturn ack) s = .next t ∧ t.flag ENS_TOKEN_STATUS.busy = false ∧
      t.f ENS_TOKEN_STATUS.ack = ack.toNat ∧ s.raised 897 t ∧
      t.f ENS_LAGGING.lagging = (s.f ENS_LAGGING.lagging ||| (late - (late &&& ack.toNat))) % 65536 ∧
      s.onlyFieldsEvents t [ENS_TOKEN_STATUS.reg, ENS_LAGGING.reg]) ∧
  (∀ (s : State) (ack : BitVec 16), s.ensLeads = false ∨ s.flag ENS_TOKEN_STATUS.busy = false →
    exec (.ensTokenReturn ack) s = .next s) ∧
  (∀ (s : State) (a : EnsApply), s.ens.applies = [a] → a.what ≠ .state →
    (s.now.tick < a.tick → exec .ensTokenApply s = .next s) ∧
    (a.tick ≤ s.now.tick → ∃ t, exec .ensTokenApply s = .next t ∧ t.ens.applies = [] ∧
      (∀ c : Fin 64, bit a.cond c = true → t.flag (TRG_COND.armed c) = (a.what == .arm)) ∧
      (a.rgn = 0 → s.onlyFields t ((List.range 64).map TRG_COND.reg)) ∧
      (∀ r : Fin 64, a.rgn = 2 ^ r.val →
        (a.what = .arm → s.rgnState r = 0 → s.armFits r = true → s.capMode r = 2 ∨ s.fmtSuits r = true →
          t.rgnState r = 1 ∧ (t.region r).since = s.indexAfter (s.f (TRG_RGN_CTL.path r)) (64 * a.tick)) ∧
        (a.what = .disarm → s.rgnState r = 1 → t.rgnState r = 0)))) ∧
  (∀ (s : State) (a d : EnsApply), s.ens.applies = [a, d] ∨ s.ens.applies = [d, a] → a.what = .arm → d.what = .disarm →
    a.tick = d.tick → a.tick ≤ s.now.tick →
    ∃ t, exec .ensTokenApply s = .next t ∧ t.ens.applies = [] ∧
      ∀ c : Fin 64, (bit d.cond c = true → t.flag (TRG_COND.armed c) = false) ∧
        (bit d.cond c = false → bit a.cond c = true → t.flag (TRG_COND.armed c) = true)) ∧
  (∀ (s : State) (a : EnsApply), s.ens.applies = [a] → a.what = .state →
    (s.now.tick < a.tick → exec .ensStateApply s = .next s) ∧
    (a.tick ≤ s.now.tick → ∃ t, exec .ensStateApply s = .next t ∧ t.ens.applies = [] ∧
      ∀ c : Fin 64, (bit a.cond c = true → t.flag (TRG_COND.armed c) = true) ∧
        (bit a.cond c = false → bit (s.f ENS_SCOPE_COND.reg) c = true → t.flag (TRG_COND.armed c) = false))) ∧
  (∀ (s : State) (p : Port) (v : Word), s.accepts p ENS_CTL.reg.addr (some 4) → s.ensLeads = true → bit v.toNat 31 = true →
    s.ens.stage = 1 →
    ∃ t, exec (.ensSync p v) s = .next t ∧ t.bus = .ok ∧ t.ens = s.ens ∧ t.out = s.out ∧
      s.onlyFields t [ENS_CTL.reg, ENS_STATUS.reg]) ∧
  (∀ (s : State) (p : Port) (v : Word), s.accepts p ENS_CTL.reg.addr (some 4) → s.ensLeads = true → bit v.toNat 31 = true →
    s.ens.stage ≠ 1 →
    ∃ t, exec (.ensSync p v) s = .next t ∧ t.bus = .ok ∧ t.ens.stage = 1 ∧ t.ens.prepAt = s.time.clk ∧
      t.flag SYNC_CTL.arm = true ∧
      t.flag SYNC_STATUS.armed = true ∧ t.f ENS_CTL.id = s.f ENS_CTL.id ∧ t.f ENS_CTL.role = s.f ENS_CTL.role ∧
      t.out = .ringToken s.ensRing (EnsToken.bytes { type_ := 5, origin := s.f ENS_CTL.id, seq := s.ens.txSeq,
                                                     ack := 2 ^ s.f ENS_CTL.id, tick := s.now.tick,
                                                     payload := leBytes 4 (s.f ENS_SYNC_NUM.reg + 1) ++
                                                       leBytes 1 (b2n s.ens.stepped) }) :: s.out ∧
      s.onlyFields t [ENS_CTL.reg, ENS_STATUS.reg, SYNC_CTL.reg, SYNC_STATUS.reg]) ∧
  (∀ (s : State), s.ens.stage ≠ 1 ∨ s.time.clk < s.ens.prepAt + 256000 → exec .ensSyncAbort s = .next s) ∧
  (∀ (s : State), s.ens.stage = 1 → s.ens.prepAt + 256000 ≤ s.time.clk →
    ∃ t, exec .ensSyncAbort s = .next t ∧ t.ens = { s.ens with stage := 0 } ∧ s.raised 898 t ∧ s.onlyFieldsEvents t []) ∧
  (∀ (s : State), s.ringLost 0 false = false → exec (.ensRingLoss 0 false false) s = .next s) ∧
  (∀ (s : State) (lock : Bool), s.ensLeads = true → s.ensRing = 0 → s.flag ENS_CTL.ring_auto = true →
    s.ringLost 0 lock = true →
    ∃ t, exec (.ensRingLoss 0 lock false) s = .next t ∧ t.flag ENS_STATUS.on_ring1 = true ∧ s.raised 896 t ∧
      t.out = s.ens.sent.map (fun x => .ringToken 1 x.bytes) ++ s.out ∧ t.ens = s.ens ∧
      (lock = true → t.flag ENS_STATUS.ring0_up = false) ∧ s.onlyFieldsEvents t [ENS_STATUS.reg]) ∧
  (∀ (s : State), exec (.ensRingLoss 1 true false) s = .next (s.set ENS_STATUS.ring1_up 0)) ∧
  (∀ (s : State), s.ensOn = true → s.ringQuiet 0 = true → s.ringQuiet 1 = true → s.flag ENS_STATUS.lagging = false →
    ∃ t, exec (.ensRingLoss 1 false true) s = .next t ∧ t.flag ENS_STATUS.lagging = true ∧ s.raised 893 t ∧ t.ens.applies = []) ∧
  (∀ (s : State) (ring : Fin 2),
    (s.up .host = true → ∃ t, exec (.ensRingBlockLock ring) s = .next t ∧
      t.flag (if ring.val = 0 then ENS_STATUS.ring0_up else ENS_STATUS.ring1_up) = true ∧ s.onlyFields t [ENS_STATUS.reg]) ∧
    (s.up .host = false → exec (.ensRingBlockLock ring) s = .next s))

/-! ### Wear, start-up and power -/

/-- R541, R543 to R548, R551, R552, R555: repair outside SERVICE ends with code NOT_SERVICE, and while the engine is busy with BUSY; else
it retires every marked tile and ends with events 24 and 901. Start-up repair retires every tile that the ledger marks, frees SEM_5 and
goes on to stage 6. A lane that lost lock is marked, and its traffic moves to a spare that has trained. A sweep starts with event 904
and, once it has gone over all of its subchannel, steers it with event 905. An entry of the ledger is written, tried again, or after
the third attempt lost with event 906. The scrubber counts what it finds in capture memory, tiles, processors and other memories, each
in its own counters and with its own event, changes no data of capture memory, and finds nothing in a domain that is off. -/
def Obligations.WearIsMarkedServedAndLogged : Prop :=
  (∀ (s : State) (p : Port) (v : Word) (b : Bool), s.accepts p WEAR_CTL.reg.addr (some 5) →
    (bit v.toNat 31 = false → ∃ t, exec (.wearRepairGo p v b) s = .next t ∧ t.bus = .ok ∧ t.wear = s.wear ∧
      t.f WEAR_CTL.tile_pct = bits v.toNat 16 8 ∧ t.f WEAR_CTL.tile_sweeps = bits v.toNat 8 8 ∧
      t.f WEAR_CTL.lane_resends = bits v.toNat 0 8 ∧ s.onlyFields t [WEAR_CTL.reg]) ∧
    (bit v.toNat 31 = true → s.inService = false → ∃ t, exec (.wearRepairGo p v b) s = .next t ∧ t.bus = .ok ∧
      t.f WEAR_STATUS.code = 1 ∧ t.f WEAR_CTL.tile_pct = bits v.toNat 16 8 ∧ t.wear = s.wear ∧
      s.onlyFields t [WEAR_CTL.reg, WEAR_STATUS.reg]) ∧
    (bit v.toNat 31 = true → s.inService = true →
      s.load.stage ≠ .idle ∨ s.flag PWR_STATUS.busy = true ∨ s.flag WEAR_STATUS.repairing = true →
      ∃ t, exec (.wearRepairGo p v b) s = .next t ∧ t.bus = .ok ∧ t.f WEAR_STATUS.code = 2 ∧ t.wear = s.wear ∧
        s.onlyFields t [WEAR_CTL.reg, WEAR_STATUS.reg]) ∧
    (bit v.toNat 31 = true → s.inService = true → s.load.stage = .idle → s.flag PWR_STATUS.busy = false →
      s.flag WEAR_STATUS.repairing = false →
      ∃ t, exec (.wearRepairGo p v b) s = .next t ∧ t.bus = .ok ∧ s.raised 24 t ∧ s.raised 901 t ∧
        (t.f WEAR_STATUS.code = 0 ∨ t.f WEAR_STATUS.code = 3 ∨ b = true ∧ t.f WEAR_STATUS.code = 4) ∧
        ∀ k : Fin 1088, bit (s.f (WEAR_TILE_MARK.reg (k.val / 32))) (k.val % 32) = true →
          bit (t.f (IMG_RETIRED.rows (k.val % 32))) (k.val / 32) = true)) ∧
  (∀ (s : State), s.f GLB_START.stage = 5 →
    ∃ t, exec .startupRepairDone s = .next t ∧ t.f GLB_START.stage = 6 ∧ t.holder 5 = none ∧
      t.flag WEAR_STATUS.repairing = false ∧ t.fuse = s.fuse ∧ t.sdram = s.sdram ∧
      ∀ e ∈ s.wear.kept ++ s.wear.ledger, e.kind = 1 ∨ e.kind = 2 → e.unit < 1088 →
        bit (t.f (IMG_RETIRED.rows (e.unit % 32))) (e.unit / 32) = true) ∧
  (∀ (s : State), s.f GLB_START.stage ≠ 5 → exec .startupRepairDone s = .next s) ∧
  (∀ (s : State) (spare : Fin 52) (l : Nat), s.wear.laneTraining = some l → 48 ≤ spare.val → l < 52 →
    (∀ x < 52, Tab.get 0 s.wear.laneMap x ≠ spare.val + 1) → bit s.wear.laneMark spare = false → s.up .conv = true →
    ∃ t, exec (.laneSpareSwap spare) s = .next t ∧ bit (t.f WEAR_LANE_RET.reg) l = true ∧
      Tab.get 0 t.wear.laneMap l = spare.val + 1 ∧ s.raised 903 t ∧
      s.onlyFieldsEvents t [WEAR_LANE_RET.reg, WEAR_SPARES.reg, WEAR_STATUS.reg]) ∧
  (∀ (s : State) (spare : Fin 52), s.wear.laneTraining = none ∨ spare.val < 48 ∨ bit s.wear.laneMark spare = true ∨ s.up .conv = false →
    exec (.laneSpareSwap spare) s = .next s) ∧
  (∀ (s : State) (x : Steer) (xs : List Steer), s.wear.steer = none → s.wear.steerWait = x :: xs → s.up .memory = true →
    s.memChannels ≠ [] →
    ∃ t, exec .steerSweepStart s = .next t ∧ t.wear.steer = some { x with since := some s.time.clk } ∧
      t.wear.steerWait = xs ∧ t.flag WEAR_STATUS.steering = true ∧ s.raised 904 t ∧ s.onlyFieldsEvents t [WEAR_STATUS.reg]) ∧
  (∀ (s : State), s.wear.steer ≠ none ∨ s.wear.steerWait = [] ∨ s.up .memory = false → exec .steerSweepStart s = .next s) ∧
  (∀ (s : State) (x : Steer), s.wear.steer = some x → s.steerAt x < s.subBytes → exec .steerSweepDone s = .next s) ∧
  (∀ (s : State) (x : Steer), s.wear.steer = some x → x.since ≠ none → x.sub < 16 → x.bitPos < 64 → s.subBytes ≤ s.steerAt x →
    s.up .memory = true →
    ∃ t, exec .steerSweepDone s = .next t ∧ t.wear.steer = none ∧ Tab.get 0 t.wear.steerMap x.sub = x.bitPos + 1 ∧
      t.f (if x.sub % 2 = 0 then MEM_STEER.sub0 (x.sub / 2) else MEM_STEER.sub1 (x.sub / 2)) = x.bitPos ∧
      t.flag WEAR_STATUS.steering = false ∧ s.raised 905 t ∧ t.wear.toWrite.length = s.wear.toWrite.length + 1 ∧
      s.onlyFieldsEvents t [WEAR_STEER_POS.reg, WEAR_STATUS.reg, MEM_STEER.reg (x.sub / 2), WEAR_SPARES.reg]) ∧
  (∀ (s : State) (b : Bool), s.wear.toWrite = [] ∨ s.storeBusy = true ∨ s.up .host = false →
    exec (.ledgerWrite b) s = .next s) ∧
  (∀ (s : State) (e : LedgerEntry) (es : List LedgerEntry), s.wear.toWrite = e :: es → s.storeBusy = false →
    s.up .host = true →
    (s.wear.ledger.length < 49152 → ∃ t, exec (.ledgerWrite false) s = .next t ∧ t.wear.ledger = s.wear.ledger ++ [e] ∧
      t.wear.toWrite = es ∧ t.f WEAR_LED_LAST.reg = e.number % 2 ^ 32 ∧ s.onlyFields t [WEAR_LED_LAST.reg]) ∧
    (s.wear.writeFails < 2 → ∃ t, exec (.ledgerWrite true) s = .next t ∧ t.wear.toWrite = s.wear.toWrite ∧
      t.wear.writeFails = s.wear.writeFails + 1 ∧ t.regs = s.regs) ∧
    (2 ≤ s.wear.writeFails → ∃ t, exec (.ledgerWrite true) s = .next t ∧ t.wear.toWrite = es ∧
      t.wear.ledger = s.wear.ledger ∧ t.flag WEAR_STATUS.ledger_fail = true ∧ s.raised 906 t ∧
      s.onlyFieldsEvents t [WEAR_STATUS.reg])) ∧
  (∀ (s : State), exec (.scrub .clean) s = .next s) ∧
  (∀ (s : State) (sub : Fin 16) (k : Fin 39) (addr : Nat), s.up .memory = false ∨ s.f CHK_SCRUB.sdram_h = 0 →
    exec (.scrub (.memCorrected sub k addr)) s = .next s ∧ exec (.scrub (.memUncorrectable sub addr)) s = .next s) ∧
  (∀ (s : State) (sub : Fin 16) (addr : Nat), s.up .memory = true → s.f CHK_SCRUB.sdram_h ≠ 0 →
    ∃ t, exec (.scrub (.memUncorrectable sub addr)) s = .next t ∧ s.raised 50 t ∧ s.raised 908 t ∧ t.sdram = s.sdram ∧
      t.f (MEM_ECC.uncorrected (sub.val / 2)) = min 65535 (s.f (MEM_ECC.uncorrected (sub.val / 2)) + 1) ∧
      t.f CHK_HEAD.reg = (s.f CHK_HEAD.reg + 1) % 2 ^ 32 ∧ s.onlyFieldsEvents t (MEM_ECC.reg (sub.val / 2) :: s.logOf)) ∧
  (∀ (s : State) (sub : Fin 16) (k : Fin 39) (addr : Nat), s.up .memory = true → s.f CHK_SCRUB.sdram_h ≠ 0 →
    ∃ t, exec (.scrub (.memCorrected sub k addr)) s = .next t ∧ s.raised 49 t ∧ t.sdram = s.sdram ∧
      t.f CHK_CORR.reg = min (2 ^ 32 - 1) (s.f CHK_CORR.reg + 1) ∧
      t.f (MEM_ECC.corrected (sub.val / 2)) = min 65535 (s.f (MEM_ECC.corrected (sub.val / 2)) + 1) ∧
      s.onlyFieldsEvents t (MEM_ECC.reg (sub.val / 2) :: s.logOf)) ∧
  (∀ (s : State) (k : Fin 1088) (row : Nat), s.up .fabric = true →
    (∃ t, exec (.scrub (.tileCorrected k row)) s = .next t ∧ t.f CHK_CORR.reg = min (2 ^ 32 - 1) (s.f CHK_CORR.reg + 1) ∧
      t.f (FAB_TILE_ECC.corrected k) = min 65535 (s.f (FAB_TILE_ECC.corrected k) + 1) ∧
      s.onlyFieldsEvents t (FAB_TILE_ECC.reg k :: s.logOf)) ∧
    (∃ t, exec (.scrub (.tileUncorrectable k row)) s = .next t ∧ s.raised (960 + k) t ∧ s.raised 908 t ∧
      t.f (FAB_TILE_ECC.uncorrected k) = min 65535 (s.f (FAB_TILE_ECC.uncorrected k) + 1) ∧
      bit (t.f (WEAR_TILE_MARK.reg (k.val / 32))) (k.val % 32) = true ∧
      s.onlyFieldsEvents t (FAB_TILE_ECC.reg k :: WEAR_TILE_MARK.reg (k.val / 32) :: s.logOf))) ∧
  (∀ (s : State) (k : Fin 1088) (row : Nat), s.up .fabric = false →
    exec (.scrub (.tileCorrected k row)) s = .next s ∧ exec (.scrub (.tileUncorrectable k row)) s = .next s) ∧
  (∀ (s : State) (n : Fin 64) (word : Fin 24576), s.up .kp = true → s.kpUsable n = true →
    (∃ t, exec (.scrub (.kpCorrected n word)) s = .next t ∧ t.f CHK_CORR.reg = min (2 ^ 32 - 1) (s.f CHK_CORR.reg + 1) ∧
      t.f (KP_ECC.corrected n) = min 65535 (s.f (KP_ECC.corrected n) + 1) ∧
      s.onlyFieldsEvents t (KP_ECC.reg n :: s.logOf)) ∧
    (∃ t, exec (.scrub (.kpUncorrectable n word)) s = .next t ∧ s.raised 908 t ∧
      t.f (KP_ECC.uncorrected n) = min 65535 (s.f (KP_ECC.uncorrected n) + 1) ∧
      (s.kpRunning n = false → s.onlyFieldsEvents t (KP_ECC.reg n :: WEAR_KP_MARK.word (s.f (KP_STATUS.phys n) / 32) :: s.logOf)) ∧
      (s.kpRunning n = true → t.f (KP_FAULT.cause n) = 6 + word.val / 8192 ∧ t.flag (KP_STATUS.running n) = false ∧
        s.raised (641 + 3 * n) t))) ∧
  (∀ (s : State) (n : Fin 64) (word : Fin 24576), s.up .kp = false ∨ s.kpUsable n = false →
    exec (.scrub (.kpCorrected n word)) s = .next s ∧ exec (.scrub (.kpUncorrectable n word)) s = .next s) ∧
  (∀ (s : State) (cls : Fin 3) (unit : Fin 8) (addr : Nat), s.scrubUp cls = true →
    (∃ t, exec (.scrub (.sramCorrected cls unit addr)) s = .next t ∧ s.onlyFieldsEvents t s.logOf ∧
      t.f CHK_CORR.reg = min (2 ^ 32 - 1) (s.f CHK_CORR.reg + 1)) ∧
    (∃ t, exec (.scrub (.sramUncorrectable cls unit addr)) s = .next t ∧ s.raised 908 t ∧ s.onlyFieldsEvents t s.logOf ∧
      t.f CHK_HEAD.reg = (s.f CHK_HEAD.reg + 1) % 2 ^ 32)) ∧
  (∀ (s : State) (cls : Fin 3) (unit : Fin 8) (addr : Nat), s.scrubUp cls = false →
    exec (.scrub (.sramCorrected cls unit addr)) s = .next s ∧ exec (.scrub (.sramUncorrectable cls unit addr)) s = .next s) ∧
  (∀ (s : State) (lane : Fin 52), s.up .conv = true → bit s.wear.laneMark lane = false →
    ∃ t, exec (.d2dLaneLockLoss lane) s = .next t ∧ bit t.wear.laneMark lane = true ∧ s.raised 900 t ∧
      (s.wear.laneTraining = none → 0 < s.f WEAR_SPARES.lanes → t.wear.laneTraining = some lane.val) ∧
      t.wear.toWrite.length = s.wear.toWrite.length + 1 ∧ s.onlyFieldsEvents t []) ∧
  (∀ (s : State) (lane : Fin 52), s.up .conv = false ∨ bit s.wear.laneMark lane = true →
    exec (.d2dLaneLockLoss lane) s = .next s)

/-- R564 to R569, R574, R577, R591: an undervoltage stops the engine with cause 3 and its rail, but that VHK only takes the drive of
the outputs with event 106, and that in OFF or under PORST_N it is only kept; a thermal trip, 160 degrees at three readings in a row of
one sensor, stops it with cause 4. SYSRST_N and a keyed GLB_RST stop it with causes 1 and 2, after a running fuse operation, and a write
of GLB_RST with another key is refused and counted. PORST_N resets the whole engine but for its stores, its fuses and what the part
itself fixes, and its release latches the straps and begins start-up. With nothing left to hold it the engine starts again at stage 3. -/
def Obligations.ResetsStopAndReleaseTheEngine : Prop :=
  (∀ (s : State) (k : Fin 10), s.start.porstLow = true ∨ s.f PWR_STATE.state = 4 →
    exec (.railUndervoltage k) s = .next { s with start := { s.start with railsLow := setBit s.start.railsLow k } }) ∧
  (∀ (s : State) (k : Fin 10), s.start.porstLow = false → s.f PWR_STATE.state ≠ 4 →
    (k ≠ 0 → k ≠ 3 → ∃ t, exec (.railUndervoltage k) s = .next t ∧ t.f PWR_RST_CAUSE.cause = 3 ∧
      t.f PWR_RST_CAUSE.rail = k.val ∧ (∀ d ∈ [Domain.host, .conv, .fabric, .memory, .display, .kp], t.up d = false) ∧
      t.start.held = true ∧ bit t.start.railsLow k = true ∧ t.fuse.running = none ∧ (k = 9 → t.start.memKept = false) ∧
      t.fuse.svnMin = s.fuse.svnMin ∧ t.fuse.revoked = s.fuse.revoked ∧ t.wear.ledger = s.wear.ledger ∧ t.sdram = s.sdram) ∧
    (k = 0 → ∃ t, exec (.railUndervoltage k) s = .next t ∧ t.f PWR_RST_CAUSE.cause = 3 ∧ t.f PWR_RST_CAUSE.rail = 0 ∧
      t.dom = State.reset.dom ∧ t.start.began = false) ∧
    (k = 3 → s.fcd.vhkLow = false → ∃ t, exec (.railUndervoltage k) s = .next t ∧ t.fcd.vhkLow = true ∧
      t.f PWR_RST_CAUSE.rail = 3 ∧ s.raised 106 t ∧ t.dom = s.dom ∧ ∀ f : Fin 8, t.flag (FCD_STATUS.driving f) = false)) ∧
  (∀ (s : State), ∃ t, exec .railRestored s = .next t ∧ t.start.railsLow = 0 ∧
    (s.start.began = true → s.start.held = true → s.start.sysLow = false → s.start.therm = 0 →
      t.up .host = true ∧ t.f GLB_START.stage = 3 ∧ t.start.held = false) ∧
    (s.start.began = true → s.start.held = false → t.regs = s.regs ∧ t.dom = s.dom) ∧
    (s.start.began = false → s.f PWR_STATE.state ≠ 4 → s.start.porstLow = false → s.start.therm = 0 →
      t.start.began = true ∧ t.dom.aon = .on)) ∧
  (∀ (s : State) (b : Bool),
    (s.up .host = true → ∃ t, exec (.railLowAlert b) s = .next t ∧ t.flag GLB_ALERT.rail_low = b ∧ s.onlyFields t [GLB_ALERT.reg]) ∧
    (s.up .host = false → exec (.railLowAlert b) s = .next s)) ∧
  (∀ (s : State) (temps : List Int), temps = [] ∨ 3 ≤ s.f PWR_STATE.state → exec (.thermRead temps) s = .next s) ∧
  (∀ (s : State) (temps : List Int), temps ≠ [] → s.f PWR_STATE.state < 3 →
    ∃ t, exec (.thermRead temps) s = .next t ∧ t.avs.hottest = unsigned 16 (State.hottestOf (temps.take 32)) ∧
      ((∃ k x, (temps.take 32)[k]? = some x ∧ 160 ≤ x ∧ 2 ≤ Tab.get 0 s.avs.hotReads k) → s.start.therm = 0 →
        s.start.began = true → s.fuse.running = none →
        t.f PWR_RST_CAUSE.cause = 4 ∧ t.up .host = false ∧ t.start.therm = 1 ∧ t.sdram = s.sdram) ∧
      ((∀ x ∈ temps, x < 160) → s.up .host = true → s.start.therm = 0 →
        ((max 100 (min 150 (s.f GLB_THERM.warn_c)) : Nat) : Int) ≤ State.hottestOf (temps.take 32) → t.flag GLB_THERM.warn = true ∧
          (s.flag GLB_THERM.warn = false → s.raised 4 t) ∧ s.onlyFieldsEvents t [GLB_THERM.reg, GLB_ALERT.reg])) ∧
  (∀ (s : State), ∃ t, exec .porstAssert s = .next t ∧ t.start.porstLow = true ∧ t.start.began = false ∧
    t.regs = (s.regs.filter fun e => State.partOffset e.1) ∧ t.dom = State.reset.dom ∧ t.sdram = [] ∧
    t.fuse.svnMin = s.fuse.svnMin ∧ t.fuse.revoked = s.fuse.revoked ∧
    t.wear.ledger = s.wear.ledger ∧ t.cal.factory = s.cal.factory) ∧
  (∀ (s : State) (b : Bool) (m : Fin 4), s.start.porstLow = false → exec (.porstRelease b m) s = .next s) ∧
  (∀ (s : State) (b : Bool) (m : Fin 4), s.start.porstLow = true →
    ∃ t, exec (.porstRelease b m) s = .next t ∧ t.start.porstLow = false ∧ t.start.bootSel = b ∧ t.start.mgmtAddr = m.val ∧
      (s.start.began = false → bit s.start.railsLow 0 = false → s.start.therm = 0 ∨ s.start.cool = true →
        t.start.began = true ∧ t.dom.aon = .on ∧ t.f PWR_STATE.state = 0) ∧
      (bit s.start.railsLow 0 = true ∨ s.start.therm ≠ 0 ∧ s.start.cool = false → t.start.began = s.start.began)) ∧
  (∀ (s : State), ∃ t, exec .sysrstAssert s = .next t ∧ t.start.sysLow = true ∧ t.sdram = s.sdram ∧
    (s.start.began = false ∨ s.f PWR_STATE.state = 4 → t.regs = s.regs ∧ t.dom = s.dom) ∧
    (s.start.began = true → s.f PWR_STATE.state ≠ 4 → s.fuse.running ≠ none →
      t.regs = s.regs ∧ t.dom = s.dom ∧ t.start.due = some (1, false)) ∧
    (s.start.began = true → s.f PWR_STATE.state ≠ 4 → s.fuse.running = none → t.f PWR_RST_CAUSE.cause = 1 ∧
      (∀ d ∈ [Domain.host, .conv, .fabric, .memory, .display, .kp], t.up d = false) ∧ t.start.held = true ∧
      t.f PWR_RST_CAUSE.sys_count = min 65535 (s.f PWR_RST_CAUSE.sys_count + 1))) ∧
  (∀ (s : State), ∃ t, exec .sysrstRelease s = .next t ∧ t.start.sysLow = false ∧
    (s.start.due = none → s.start.therm = 0 ∨ s.start.began = true ∧ s.start.cool = true → s.start.held = true →
      s.start.railsLow = 0 → t.up .host = true ∧ t.f GLB_START.stage = 3 ∧ t.start.held = false) ∧
    (∀ c r, s.start.due = some (c, r) → t.start.due = some (c, true) ∧ t.regs = s.regs ∧ t.dom = s.dom) ∧
    (s.start.due = none → s.start.therm ≠ 0 → s.start.began = true → s.start.cool = false →
      t.start.therm = 2 ∧ t.regs = s.regs ∧ t.dom = s.dom)) ∧
  (∀ (s : State) (p : Port) (v : Word), s.accepts p GLB_RST.reg.addr (some 0) →
    (bits v.toNat 16 16 = 0xA55E → bit v.toNat 0 = true → s.fuse.running = none →
      ∃ t, exec (.glbRstSys p v) s = .next t ∧ t.bus = .ok ∧ t.f PWR_RST_CAUSE.cause = 2 ∧ t.sdram = s.sdram ∧
        (s.start.sysLow = false → s.start.railsLow = 0 → s.start.therm = 0 → t.up .host = true ∧ t.f GLB_START.stage = 3)) ∧
    (bits v.toNat 16 16 = 0xA55E → bit v.toNat 0 = true → s.fuse.running ≠ none →
      ∃ t, exec (.glbRstSys p v) s = .next t ∧ t.bus = .ok ∧ t.start.due = some (2, true) ∧ t.regs = s.regs) ∧
    (bits v.toNat 16 16 = 0xA55E → bit v.toNat 0 = false →
      ∃ t, exec (.glbRstSys p v) s = .next t ∧ t.bus = .ok ∧ t.regs = s.regs ∧ t.dom = s.dom) ∧
    (bits v.toNat 16 16 ≠ 0xA55E → ∃ t, exec (.glbRstSys p v) s = .next t ∧ t.bus = .ok ∧ s.refusedFor p GLB_RST.reg.addr t))

/-- R475, R507, R561 to R563, R569 to R572: the utility PLL's lock releases the domains at engine time 0.0; the store read puts a
set in force and begins repair, or stops at a store fault with event 6; memory that training has found is initialised, or was kept, and
is ready with event 1; start-up ends with event 0. A voltage write is read back once it has settled, and not before; a good one ends, or
gives way to the request that waits; a bad one is made again, and the fourth fails with event 2. GLB_AVS_MAN asks for its voltage, or
refuses one outside its bounds. Each of them does nothing where it is not due. -/
def Obligations.StartUpRunsItsStages : Prop :=
  (∀ (s : State) (m : Bool), s.start.began = false ∨ s.start.held = true ∨ s.start.therm ≠ 0 ∨ s.up .host = true ∨
    s.f PWR_STATE.state ≠ 0 → exec (.utilityPllFirstLock m) s = .next s) ∧
  (∀ (s : State) (m : Bool), s.start.began = true → s.start.held = false → s.start.therm = 0 → s.up .host = false →
    s.f PWR_STATE.state = 0 →
    ∃ t, exec (.utilityPllFirstLock m) s = .next t ∧ t.time.tick = 0 ∧ t.time.phase = 0 ∧ t.time.running = true ∧
      (∀ d ∈ [Domain.host, .conv, .fabric, .display, .kp], t.up d = true) ∧ t.f GLB_START.stage = 3 ∧
      t.flag REF_STATUS.present = true ∧ t.f REF_STATUS.detected = if m then 2 else 1) ∧
  (∀ (s : State), s.f GLB_START.stage ≠ 4 → exec .startupStoreReadDone s = .next s) ∧
  (∀ (s : State), s.f GLB_START.stage = 4 →
    (s.cal.factoryBad = true → ∃ t, exec .startupStoreReadDone s = .next t ∧ t.f GLB_START.stage = 5 ∧
      t.flag GLB_START.store_fault = true ∧ s.raised 6 t ∧ s.onlyFieldsEvents t [GLB_START.reg]) ∧
    (s.cal.factoryBad = false → ∃ t, exec .startupStoreReadDone s = .next t ∧ t.f GLB_START.stage = 5 ∧
      t.flag WEAR_STATUS.repairing = true ∧ t.holder 5 = some .engine ∧ t.cal.inForce = s.startSet.1 ∧
      t.f CAL_GEN.reg = s.startSet.1.generation % 2 ^ 32 ∧ t.flag CAL_STATUS.slot = s.startSet.2 ∧
      (s.start.bootSel = true → t.holder 1 = some .engine) ∧ t.flag SPLL_STATUS.acquiring = true)) ∧
  (∀ (s : State) (chans : List MemTrain), s.up .host = false ∨ s.flag GLB_START.mem_ready = true ∨ s.start.memInit = true ∨
    s.flag GLB_START.store_fault = true → exec (.memTrainDone chans) s = .next s) ∧
  (∀ (s : State) (chans : List MemTrain), s.up .host = true → s.flag GLB_START.mem_ready = false → s.start.memInit = false →
    s.flag GLB_START.store_fault = false →
    ∃ t, exec (.memTrainDone chans) s = .next t ∧
      (s.start.memKept = true → t.flag GLB_START.mem_ready = true ∧ t.up .memory = true ∧ s.raised 1 t) ∧
      (s.start.memKept = false → t.start.memInit = true ∧ t.dom = s.dom) ∧ t.sdram = s.sdram ∧
      s.onlyFieldsEvents t ([GLB_START.reg, MEM_SUMMARY.reg] ++ (List.range 8).map MEM_CFG.reg ++
        (List.range 8).map MEM_STEER.reg)) ∧
  (∀ (s : State), s.start.memInit = false → exec .memInitDone s = .next s) ∧
  (∀ (s : State), s.start.memInit = true →
    ∃ t, exec .memInitDone s = .next t ∧ t.sdram = [] ∧ t.flag GLB_START.mem_ready = true ∧ t.up .memory = true ∧
      s.raised 1 t ∧ s.onlyFieldsEvents t [GLB_START.reg]) ∧
  (∀ (s : State), s.f GLB_START.stage ≠ 8 ∨ s.flag GLB_START.mem_ready = false ∨ s.flag GLB_START.cdc_ready = false ∨
    s.flag GLB_START.done = true ∨ s.pwr.trans ≠ none → exec .startDone s = .next s) ∧
  (∀ (s : State), s.f GLB_START.stage = 8 → s.flag GLB_START.mem_ready = true → s.flag GLB_START.cdc_ready = true →
    s.flag GLB_START.done = false → s.pwr.trans = none →
    ∃ t, exec .startDone s = .next t ∧ t.flag GLB_START.done = true ∧ t.f GLB_START_TICK.reg = s.now.tick % 2 ^ 64 ∧
      s.raised 0 t ∧ s.onlyFieldsEvents t [GLB_START.reg, GLB_START_TICK.reg]) ∧
  (∀ (s : State) (good : Bool) (rd : BitVec 16) (st : Byte),
    s.avs.running = none ∨ s.time.clk < s.avs.wroteAt + 2560 * max 1 (s.f GLB_AVS_CTL.settle_us) →
    exec (.avsTransaction good rd st) s = .next s) ∧
  (∀ (s : State) (mv n : Nat) (good : Bool) (rd : BitVec 16) (st : Byte), s.avs.running = some (mv, n) →
    s.avs.wroteAt + 2560 * max 1 (s.f GLB_AVS_CTL.settle_us) ≤ s.time.clk →
    ∃ t, exec (.avsTransaction good rd st) s = .next t ∧ t.f GLB_AVS_STATUS.read_mv = rd.toNat ∧
      t.f GLB_AVS_STATUS.reg_status = st.toNat ∧
      (good = true → rd.toNat ≤ mv + 10 → mv ≤ rd.toNat + 10 →
        (s.avs.queued = none → t.flag GLB_AVS_STATUS.busy = false ∧ t.avs.running = none ∧ t.out = s.out) ∧
        (∀ q, s.avs.queued = some q → t.avs.running = some (q, 1) ∧ t.avs.queued = none ∧ t.out = .avsWrite q :: s.out) ∧
        (s.f GLB_START.stage = 3 → t.f GLB_START.stage = 4) ∧ s.onlyFields t [GLB_AVS_STATUS.reg, GLB_START.reg]) ∧
      (good = false ∨ mv + 10 < rd.toNat ∨ rd.toNat + 10 < mv → n < 4 →
        t.avs.running = some (mv, n + 1) ∧ t.avs.wroteAt = s.time.clk ∧ t.out = .avsWrite mv :: s.out ∧
        s.onlyFields t [GLB_AVS_STATUS.reg]) ∧
      (good = false ∨ mv + 10 < rd.toNat ∨ rd.toNat + 10 < mv → 4 ≤ n →
        t.flag GLB_AVS_STATUS.fail = true ∧ t.flag GLB_AVS_STATUS.busy = false ∧ t.avs.running = none ∧ t.avs.queued = none ∧
        t.out = s.out ∧ s.raised 2 t ∧ s.onlyFieldsEvents t [GLB_AVS_STATUS.reg, GLB_START.reg, GLB_ALERT.reg])) ∧
  (∀ (s : State) (st : Byte),
    (s.up .host = true → ∃ t, exec (.avsStatusPoll st) s = .next t ∧ t.f GLB_AVS_STATUS.reg_status = st.toNat ∧
      s.onlyFields t [GLB_AVS_STATUS.reg]) ∧
    (s.up .host = false → exec (.avsStatusPoll st) s = .next s)) ∧
  (∀ (s : State) (p : Port) (v : Word), s.accepts p GLB_AVS_MAN.reg.addr (some 14) →
    (v.toNat % 65536 < 720 ∨ 850 < v.toNat % 65536 → ∃ t, exec (.avsManWrite p v) s = .next t ∧ t.bus = .ok ∧
      t.flag GLB_AVS_STATUS.refused = true ∧ t.avs = s.avs ∧ s.onlyFields t [GLB_AVS_STATUS.reg]) ∧
    (720 ≤ v.toNat % 65536 → v.toNat % 65536 ≤ 850 →
      ∃ t, exec (.avsManWrite p v) s = .next t ∧ t.bus = .ok ∧ t.f GLB_AVS_MAN.mv = v.toNat % 65536 ∧
        t.flag GLB_AVS_MAN.en = bit v.toNat 31 ∧ s.onlyFields t [GLB_AVS_MAN.reg, GLB_AVS_STATUS.reg, GLB_CAP_STATUS.reg] ∧
        (bit v.toNat 31 = false ∨ s.flag GLB_AVS_STATUS.fail = true → t.avs = s.avs ∧ t.out = s.out) ∧
        (bit v.toNat 31 = true → s.flag GLB_AVS_STATUS.fail = false → t.f GLB_CAP_STATUS.vcore_mv = v.toNat % 65536 ∧
          (s.avs.running = none → t.avs.running = some (v.toNat % 65536, 1) ∧ t.out = .avsWrite (v.toNat % 65536) :: s.out) ∧
          (s.avs.running ≠ none → t.avs.queued = some (v.toNat % 65536) ∧ t.out = s.out))))

/-- R580 to R587, R589 to R594, R538: a request is refused, taken, or waits, and one for RUN is a wake by request; the engine
reaches IDLE, SLEEP, DEEP and OFF in turn and comes back, from DEEP only with the reference it needs; a transition ends with its
record in PWR_LAST; WAKE_N, the management bus, the timer, once it has run out, and the ensemble wake it, and a wake that must wait
starts when nothing bars it. -/
def Obligations.PowerStatesEnterLeaveAndWake : Prop :=
  (∀ (s : State) (p : Port) (v : Word), s.accepts p PWR_REQ.reg.addr (some 0) →
    (4 < v.toNat % 8 → ∃ t, exec (.pwrReq p v) s = .next t ∧ t.bus = .ok ∧ t.flag PWR_STATUS.refused = true ∧ t.pwr = s.pwr ∧
      s.onlyFields t [PWR_STATUS.reg]) ∧
    (v.toNat % 8 ≤ 4 → v.toNat % 8 ≠ s.f PWR_STATE.state → s.pwr.trans = none → s.pwrMustWait (v.toNat % 8) = true →
      ∃ t, exec (.pwrReq p v) s = .next t ∧ t.bus = .ok ∧ t.flag PWR_STATUS.waiting = true ∧
        t.f PWR_STATUS.pending_target = v.toNat % 8 ∧ t.pwr = { s.pwr with wakeWaits := false } ∧
        s.onlyFieldsEvents t [PWR_STATUS.reg, PWR_LAST.reg]) ∧
    (v.toNat % 8 = 0 → s.f PWR_STATE.state ≠ 0 → s.pwr.trans = none → s.pwrMustWait 0 = false →
      ∃ t x, exec (.pwrReq p v) s = .next t ∧ t.bus = .ok ∧ t.flag PWR_STATUS.busy = true ∧ t.f PWR_STATE.target = 0 ∧
        t.f PWR_WAKE_SRC.source = 5 ∧ t.pwr.trans = some x ∧ x.target = 0) ∧
    (v.toNat % 8 ≤ 4 → v.toNat % 8 ≠ s.f PWR_STATE.state → v.toNat % 8 ≠ 0 → s.pwr.trans = none →
      s.pwrMustWait (v.toNat % 8) = false →
      ∃ t x, exec (.pwrReq p v) s = .next t ∧ t.bus = .ok ∧ t.flag PWR_STATUS.busy = true ∧
        t.f PWR_STATE.target = v.toNat % 8 ∧ t.f PWR_STATE.state = s.f PWR_STATE.state ∧ t.pwr.trans = some x ∧
        x.target = v.toNat % 8)) ∧
  (∀ (s : State) (x : Nat), x = s.f PWR_STATUS.pending_target → s.flag PWR_STATUS.waiting = true → s.pwr.trans = none →
    s.pwrMustWait x = false →
    (s.pwr.wakeWaits = true → ∃ t, exec .pwrReqWaitStart s = .next t ∧ t.flag PWR_STATUS.waiting = false ∧
      t.flag PWR_STATUS.busy = true ∧ t.f PWR_STATE.target = 0) ∧
    (s.pwr.wakeWaits = false → x ≠ s.f PWR_STATE.state → ∃ t, exec .pwrReqWaitStart s = .next t ∧
      t.flag PWR_STATUS.waiting = false ∧ t.flag PWR_STATUS.busy = true ∧ t.f PWR_STATE.target = x)) ∧
  (∀ (s : State), s.goingTo 1 = true → s.f PWR_STATE.state = 0 → (∀ p < 4, s.drained p = true) → s.cal.committing = none →
    ∃ t, exec .pwrEnterIdle s = .next t ∧ t.f PWR_STATE.state = 1 ∧ t.sdram = s.sdram ∧ t.fuse = s.fuse) ∧
  (∀ (s : State), s.goingTo 2 = true → s.f PWR_STATE.state = 1 → s.quiescePending = false →
    ∃ t, exec .pwrEnterSleep s = .next t ∧ t.f PWR_STATE.state = 2 ∧ t.time.running = false ∧ t.up .fabric = false ∧
      t.up .memory = false ∧ t.up .display = false ∧ t.up .kp = false ∧ t.sdram = s.sdram) ∧
  (∀ (s : State), s.goingTo 3 = true → s.goingTo 4 = false → s.f PWR_STATE.state = 2 →
    ∃ t, exec .pwrEnterDeep s = .next t ∧ t.f PWR_STATE.state = 3 ∧ t.up .host = false ∧ t.up .conv = false) ∧
  (∀ (s : State) (x : PwrTrans), s.pwr.trans = some x → x.target = 4 → x.from_ < 4 → x.latched = none →
    s.f PWR_STATE.state = 2 ∨ s.f PWR_STATE.state = 3 →
    ∃ t, exec .pwrEnterOff s = .next t ∧ t.f PWR_STATE.state = 4 ∧ t.up .aon = false ∧ t.start.began = false ∧
      t.pwr.armed = true) ∧
  (∀ (s : State) (x : PwrTrans), s.pwr.trans = some x → x.target = 0 → x.from_ = 1 → s.f PWR_STATE.state = 1 →
    ∃ t, exec .pwrExitIdle s = .next t ∧ t.f PWR_STATE.state = 0 ∧ t.pwr = s.pwr) ∧
  (∀ (s : State) (x : PwrTrans) (counts : Nat) (there : Bool) (run : LockRun), s.pwr.trans = some x → x.target < 2 →
    s.f PWR_STATE.state = 2 →
    ∃ t, exec (.pwrExitSleep counts there run) s = .next t ∧ t.f PWR_STATE.state = x.target ∧ t.time.running = true ∧
      t.time.tick.toNat = (s.time.tick.toNat + 256 * counts) % 2 ^ 64 ∧ t.up .fabric = true ∧ t.up .memory = true) ∧
  (∀ (s : State) (x : PwrTrans) (m : Bool), s.pwr.trans = some x → x.target = 0 → s.f PWR_STATE.state = 3 →
    s.up .host = false →
    (s.restore.refTakes (refCode m) = true →
      ∃ t, exec (.pwrExitDeep m) s = .next t ∧ t.up .host = true ∧ t.f GLB_START.stage = 3 ∧ t.time.running = true) ∧
    (s.restore.refTakes (refCode m) = false → exec (.pwrExitDeep m) s = .next s)) ∧
  (∀ (s : State) (x : PwrTrans), s.pwr.trans = some x → s.f PWR_STATE.state = x.target → x.latched = none →
    s.flag PWR_STATUS.pending = false →
    ∃ t, exec .pwrTransitionDone s = .next t ∧ t.pwr.trans = none ∧ t.flag PWR_STATUS.busy = false ∧
      t.f PWR_LAST.from_ = x.from_ % 16 ∧ t.f PWR_LAST.to = x.target % 16 ∧ t.flag PWR_LAST.by_wake = x.byWake ∧
      (x.told = false → s.raised 56 t) ∧ s.onlyFieldsEvents t [PWR_LAST.reg, PWR_STATUS.reg]) ∧
  (∀ (s : State) (x : PwrTrans), s.pwr.trans = some x → x.target = 0 → s.f PWR_STATE.state = 3 → s.up .host = true →
    s.deepDone = true → x.latched = none → s.flag PWR_STATUS.pending = false →
    ∃ t, exec .pwrTransitionDone s = .next t ∧ t.f PWR_STATE.state = 0 ∧ t.pwr.trans = none ∧
      t.flag GLB_START.done = true ∧ s.raised 0 t) ∧
  (∀ (s : State), s.pwr.armed = true → s.start.porstLow = false → s.start.railsLow = 0 →
    ∃ t, exec .wakeNFall s = .next t ∧ t.start.began = true ∧ t.dom.aon = .on ∧ t.pwr.armed = false ∧
      t.f PWR_WAKE_SRC.source = 1) ∧
  (∀ (s : State), s.pwr.armed = false → s.start.began = true → s.pwr.trans = none → s.f PWR_STATE.state = 1 →
    (s.pwrMustWait 0 = false → ∃ t, exec .wakeNFall s = .next t ∧ t.f PWR_WAKE_SRC.source = 1 ∧
      t.f PWR_WAKE_SRC.from_ = 1 ∧ t.f PWR_STATE.target = 0 ∧ t.flag PWR_STATUS.busy = true) ∧
    (s.pwrMustWait 0 = true → ∃ t, exec .wakeNFall s = .next t ∧ t.f PWR_WAKE_SRC.source = 1 ∧
      t.flag PWR_STATUS.waiting = true ∧ t.f PWR_STATUS.pending_target = 0 ∧ t.pwr.wakeWaits = true ∧
      t.pwr.trans = none)) ∧
  (∀ (s : State) (b : List Byte) (n : Nat), s.start.began = true → s.flag PWR_POLICY.mgmt_en = false →
    (∃ t, exec (.mgmtTransaction (some b) n) s = .next t ∧ t.f PWR_WAKE_SRC.mbox_bytes = min 16 b.length ∧
      (∀ k < min 16 b.length, bits (t.f (PWR_WAKE_MBOX.reg (k / 4))) (8 * (k % 4)) 8 = (b.getD k 0).toNat) ∧
      (s.f PWR_STATE.state < 2 → s.raised 59 t) ∧
      s.onlyFieldsEvents t (PWR_WAKE_SRC.reg :: (List.range 4).map PWR_WAKE_MBOX.reg)) ∧
    (0 < n → ∃ t, exec (.mgmtTransaction none n) s = .next t ∧ t.regs = s.regs ∧
      t.out = .mgmt (BitVec.ofNat 8 (s.f PWR_STATE.state) :: List.replicate (n - 1) 0xFF) :: s.out)) ∧
  (∀ (s : State), s.timerNow ≠ 0 → exec .pwrTimerExpire s = .next s) ∧
  (∀ (s : State), s.start.began = true → s.f PWR_TIMER.reg ≠ 0 → s.timerNow = 0 → s.flag PWR_POLICY.timer_en = false →
    ∃ t, exec .pwrTimerExpire s = .next t ∧ t.f PWR_TIMER.reg = 0 ∧ s.onlyFields t [PWR_TIMER.reg]) ∧
  (∀ (s : State), s.up .host = false → s.pwr.ensWake = true → s.flag PWR_POLICY.ens_en = true → s.start.began = true →
    s.pwr.trans = none → s.f PWR_STATE.state = 3 → s.pwrMustWait 0 = false →
    ∃ t, exec .ensWake s = .next t ∧ t.f PWR_WAKE_SRC.source = 4 ∧ t.f PWR_WAKE_SRC.from_ = 3 ∧ t.f PWR_STATE.target = 0 ∧
      t.flag PWR_STATUS.busy = true)
/-! ### The queue, steps and what every command keeps -/

/-- A step runs the command at the front of the queue, on the state whose queue is the rest. -/
def Obligations.StepRunsTheFrontCommand : Prop :=
  ∀ (s : State) (c : Instr) (cs : List Instr), s.pending = c :: cs → step s = exec c { s with pending := cs }

/-- Every command ends in a next state and leaves the commands that wait alone. With no command waiting, a step is one period of
2.56 GHz (the model's choice, log entry 1): engine time counts up by 1 where it runs, the two CLKOUT outputs move on, a
utility PLL that is out may begin to steer back, and where no reset of a divider waits and no decay sweep runs, nothing else
changes. -/
def Obligations.EveryStepGoesOn : Prop :=
  (∀ (c : Instr) (s : State), ∃ t, exec c s = .next t ∧ t.pending = s.pending) ∧
  (∀ (s : State), s.pending = [] →
    ∃ t, step s = .next t ∧ t.pending = [] ∧ t.time.clk = s.time.clk + 1 ∧
      (s.time.running = true → t.time.tick = s.time.tick + 1) ∧ (s.time.running = false → t.time.tick = s.time.tick) ∧
      (s.clocks.syncDue = none → (s.kalOf 0).sweep = none → (s.kalOf 1).sweep = none →
        t.clocks.clkout0 = s.clkoutStep 0 ∧ t.clocks.clkout1 = s.clkoutStep 1 ∧ s.onlyFields t [UPLL_STATUS.reg] ∧
        (s.clocks.upllOut = false → t.regs = s.regs) ∧
        { t with time := s.time, regs := s.regs,
                 clocks := { t.clocks with clkout0 := s.clocks.clkout0, clkout1 := s.clocks.clkout1 } } = s))

/-- After reset the state is sound: tables in canonical form, no command waiting, every semaphore free, no fuse operation, and
every register word as its row of the register tables has it (the values that the spec does not give are those of log entry
4). -/
def Obligations.ResetIsSound : Prop :=
  State.reset.tabsOk = true ∧ State.reset.queueOk = true ∧ State.reset.engineHolds ∧ State.reset.fuseSound ∧
  (∀ n, State.reset.holder n = none) ∧
  (∀ off r ix, findRow off = some (r, ix) → State.reset.keptWord off = r.ini ix) ∧
  (∀ a, State.reset.sdram.get 0 a = 0)

/-- R60, R40: a write to a register that a semaphore guards, from a port that does not hold that semaphore, is dropped whole, as
is one to the mirror image of BAR2: it is counted for the port, its offset is kept, event 8 or 9 is raised, and no other
register word and no semaphore changes. R56: a write of 0 to SEM_n by its holder releases it (with SEM_3 the fast controls go
off, R86); a write of 0 by any other port, and a write of any other value, is dropped and counted as refused. R64, R61: a break
with its key frees a semaphore whichever port holds it, sets its bit of SEM_LOST, records cause 2 and the breaking port in
SEM_LOST_INFO, raises event 11, and cancels nothing else; with SEM_3 fast_en goes off. Of a free semaphore it records and
raises the same and sets no bit of SEM_LOST. Of one that the engine holds, or with any other value in bits 31:8, it is
dropped and counted as refused. -/
def Obligations.RefusedWritesReleasesAndBreaks : Prop :=
  (∀ (s : State) (p : Port) (off : Nat) (r : RegRow) (ix : List Nat) (n : Nat) (v : Word), off % 4 = 0 → off < 0x1000000 →
    ¬ (0x20000 ≤ off ∧ off < 0x20400) → ¬ (0x38000 ≤ off ∧ off < 0x40000) → findRow off = some (r, ix) → r.sem = some n →
    s.reachable off = true → s.holder n ≠ some (.cp p) →
    ∃ t, exec (.regWrite p off v) s = .next t ∧ t.bus = .ok ∧ s.refusedFor p off t) ∧
  (∀ (s : State) (p : Port) (w : Fin 65536) (a b c d : Byte), s.up .host = true →
    ∃ t, exec (.bar2Request p (.write (0x8000000 + 4 * w.val) [some a, some b, some c, some d])) s = .next t ∧ t.bus = .ok ∧
      s.refusedFor p (2 ^ 31 + 0x8000000 + 4 * w.val) t ∧ t.mirror = s.mirror) ∧
  (∀ (s : State) (p : Port) (n : Fin 256), s.up .host = true → s.holder n = some (.cp p) →
    ∃ t, exec (.semRelease p n 0) s = .next t ∧ t.bus = .ok ∧ t.holder n = none ∧
      (∀ m, m ≠ n.val → t.holder m = s.holder m) ∧ (n.val ≠ 3 → t.regs = s.regs) ∧
      (n.val = 3 → t.f MP_CTL.fast_en = 0 ∧ t.f MP_STATUS.fast_en = 0 ∧ s.onlyFields t [MP_CTL.reg, MP_STATUS.reg])) ∧
  (∀ (s : State) (p : Port) (n : Fin 256) (v : Word), s.up .host = true → (v ≠ 0 ∨ s.holder n ≠ some (.cp p)) →
    ∃ t, exec (.semRelease p n v) s = .next t ∧ t.bus = .ok ∧ s.refusedFor p (0x20000 + 4 * n.val) t) ∧
  (∀ (s : State) (p q : Port) (n : Fin 256), s.up .host = true → s.holder n = some (.cp q) →
    ∃ t, exec (.semBreak p (BitVec.ofNat 32 (0xB8EA0000 + n.val))) s = .next t ∧ t.bus = .ok ∧ t.holder n = none ∧
      (∀ m, m ≠ n.val → t.holder m = s.holder m) ∧ bit (t.f (SEM_LOST.reg (n.val / 32))) (n.val % 32) = true ∧
      t.f SEM_LOST_INFO.reg = 2 + 256 * (p.idx + 1) ∧ s.raised 11 t ∧
      (n.val = 3 → t.f MP_CTL.fast_en = 0 ∧ t.f MP_STATUS.fast_en = 0 ∧
        s.onlyFieldsEvents t [SEM_LOST.reg 0, SEM_LOST_INFO.reg, MP_CTL.reg, MP_STATUS.reg]) ∧
      (n.val ≠ 3 → s.onlyFieldsEvents t [SEM_LOST.reg (n.val / 32), SEM_LOST_INFO.reg])) ∧
  (∀ (s : State) (p : Port) (n : Fin 256), s.up .host = true → s.holder n = none →
    ∃ t, exec (.semBreak p (BitVec.ofNat 32 (0xB8EA0000 + n.val))) s = .next t ∧ t.bus = .ok ∧ t.sem = s.sem ∧
      t.f SEM_LOST_INFO.reg = 2 + 256 * (p.idx + 1) ∧ s.raised 11 t ∧ s.onlyFieldsEvents t [SEM_LOST_INFO.reg]) ∧
  (∀ (s : State) (p : Port) (v : Word), s.up .host = true →
    (v.toNat / 256 ≠ 0xB8EA00 ∨ s.holder (v.toNat % 256) = some .engine) →
    ∃ t, exec (.semBreak p v) s = .next t ∧ t.bus = .ok ∧ s.refusedFor p 0x20800 t)

/-- Capture memory, the fuses, the power domains and engine time change only through the commands named for each: the writers of
capture memory and what loses its contents (R376, R567), the fuse operations and what cuts them (R112, R624), resets and
power states (R567, R579), and what sets or steps engine time (R16). -/
def Obligations.CommandsKeepWhatTheyDoNotName : Prop :=
  ∀ (c : Instr) (s t : State), exec c s = .next t →
    (c.mayWriteMemory = false → t.sdram = s.sdram) ∧ (c.mayWorkFuses = false → t.fuse = s.fuse) ∧
    (c.mayMovePower = false → t.dom = s.dom) ∧ (c.mayMoveTime = false → t.time = s.time)

/-- Every step keeps the waiting commands well formed, and memories and register files in their canonical form. -/
def Obligations.StepKeepsTables : Prop :=
  ∀ (s t : State), s.queueOk = true → s.tabsOk = true → step s = .next t → t.queueOk = true ∧ t.tabsOk = true

/-- R58: the engine itself holds no semaphore but SEM_1 and SEM_5, after every step. -/
def Obligations.StepKeepsTheEnginesSemaphores : Prop :=
  ∀ (s t : State), s.tabsOk = true → s.engineHolds → step s = .next t → t.engineHolds

/-- R112: enrolling, revoking and raising svn_min are one-way: no step gives a slot back its freedom, takes an enrolled key hash
away or lowers the least accepted security version, whatever resets and supply failures come between. -/
def Obligations.StepKeepsFuses : Prop :=
  ∀ (s t : State), s.fuseSound → step s = .next t → s.fusesKept t ∧ t.fuseSound
end

