-- ==== Sys2Proof/Laws/Tab.lean ====
section
/-! SUPPORT. Reading and writing the sparse tables: a read after a write to the same key, to another key, and the canonical
form, which every write keeps. -/

namespace Sys2Proof.Tab

variable {α : Type}

/-- A key that lies below all keys of a table is not listed. -/
theorem get_of_risingFrom (d : α) {lo i : Nat} {t : Tab α} (h : risingFrom lo t = true) (hi : i ≤ lo) : get d t i = d := by
  induction t generalizing lo with
  | nil => rfl
  | cons e t ih =>
    obtain ⟨k, x⟩ := e
    simp only [risingFrom, Bool.and_eq_true, decide_eq_true_eq] at h
    have hk : i ≠ k := by omega
    simp only [get, hk, if_false]
    exact ih h.2 (by omega)

/-- A lower bound of the keys may be lowered. -/
theorem risingFrom_le {lo lo' : Nat} {t : Tab α} (h : risingFrom lo t = true) (hl : lo' ≤ lo) : risingFrom lo' t = true := by
  cases t with
  | nil => rfl
  | cons e t =>
    obtain ⟨k, x⟩ := e
    simp only [risingFrom, Bool.and_eq_true, decide_eq_true_eq] at h ⊢
    exact ⟨by omega, h.2⟩

/-- The keys of a table rise where they rise above a bound. -/
theorem rising_of_risingFrom {lo : Nat} {t : Tab α} (h : risingFrom lo t = true) : rising t = true := by
  cases t with
  | nil => rfl
  | cons e t =>
    obtain ⟨k, x⟩ := e
    simp only [risingFrom, Bool.and_eq_true, decide_eq_true_eq] at h
    exact h.2

/-- Rising keys above a bound, as a relation between every two entries. -/
theorem risingFrom_iff {lo : Nat} {t : Tab α} :
    risingFrom lo t = true ↔ (∀ e ∈ t, lo < e.1) ∧ t.Pairwise fun a b => a.1 < b.1 := by
  induction t generalizing lo with
  | nil => simp [risingFrom]
  | cons e t ih =>
    obtain ⟨k, x⟩ := e
    simp only [risingFrom, Bool.and_eq_true, decide_eq_true_eq, ih, List.pairwise_cons, List.forall_mem_cons]
    constructor
    · rintro ⟨h1, h2, h3⟩
      exact ⟨⟨h1, fun e he => Nat.lt_trans h1 (h2 e he)⟩, h2, h3⟩
    · rintro ⟨⟨h1, _⟩, h2, h3⟩
      exact ⟨h1, h2, h3⟩

/-- Rising keys, as a relation between every two entries. -/
theorem rising_iff {t : Tab α} : rising t = true ↔ t.Pairwise fun a b => a.1 < b.1 := by
  cases t with
  | nil => simp [rising]
  | cons e t =>
    obtain ⟨k, x⟩ := e
    show risingFrom k t = true ↔ _
    rw [risingFrom_iff, List.pairwise_cons]

/-- Some entries of a table alone still have rising keys. -/
@[simp] theorem rising_filter {t : Tab α} (p : Nat × α → Bool) (h : rising t = true) : rising (t.filter p) = true :=
  rising_iff.2 ((rising_iff.1 h).filter p)

/-- Two tables, all keys of the one below all keys of the other, one after the other. -/
theorem rising_append {a b : Tab α} (ha : rising a = true) (hb : rising b = true) (h : ∀ x ∈ a, ∀ y ∈ b, x.1 < y.1) :
    rising (a ++ b) = true :=
  rising_iff.2 (List.pairwise_append.2 ⟨rising_iff.1 ha, rising_iff.1 hb, h⟩)

/-- Removing the entries of a key leaves some of the entries. -/
theorem del_eq_filter (t : Tab α) (i : Nat) : del t i = t.filter fun e => decide (e.1 ≠ i) := by
  induction t with
  | nil => rfl
  | cons e t ih =>
    obtain ⟨k, x⟩ := e
    by_cases h : k = i <;> simp [del, h, ih]

/-- Removing the entries of a key leaves every other key alone. -/
theorem get_del_ne (d : α) (t : Tab α) {i j : Nat} (h : j ≠ i) : get d (del t i) j = get d t j := by
  induction t with
  | nil => rfl
  | cons e t ih =>
    obtain ⟨k, x⟩ := e
    by_cases hk : k = i
    · simp [del, get, hk, ih, h]
    · simp [del, get, hk, ih]

/-- A key whose entries were removed is not listed. -/
theorem get_del_self (d : α) (t : Tab α) (i : Nat) : get d (del t i) i = d := by
  induction t with
  | nil => rfl
  | cons e t ih =>
    obtain ⟨k, x⟩ := e
    by_cases hk : k = i
    · simp [del, hk, ih]
    · simp [del, get, hk, ih, Ne.symm hk]

/-- Listing a key leaves every other key alone. -/
theorem get_ins_ne (d v : α) (t : Tab α) {i j : Nat} (h : j ≠ i) : get d (ins t i v) j = get d t j := by
  induction t with
  | nil => simp [ins, get, h]
  | cons e t ih =>
    obtain ⟨k, x⟩ := e
    simp only [ins]
    split
    · simp_all [get]
    · split <;> simp_all [get]

/-- A key that was listed reads as the value it was listed with. -/
theorem get_ins_self (d v : α) (t : Tab α) (i : Nat) : get d (ins t i v) i = v := by
  induction t with
  | nil => simp [ins, get]
  | cons e t ih =>
    obtain ⟨k, x⟩ := e
    simp only [ins]
    split
    · simp [get]
    · split <;> simp_all [get]

/-- Listing a key above a bound keeps the keys above it and rising. -/
theorem risingFrom_ins {lo i : Nat} {v : α} {t : Tab α} (h : risingFrom lo t = true) (hi : lo < i) :
    risingFrom lo (ins t i v) = true := by
  induction t generalizing lo with
  | nil => simp [ins, risingFrom, hi]
  | cons e t ih =>
    obtain ⟨k, x⟩ := e
    simp only [risingFrom, Bool.and_eq_true, decide_eq_true_eq] at h
    simp only [ins]
    split
    · simp [risingFrom, h.2, *]
    · split
      · simp_all [risingFrom]
      · simp only [risingFrom, Bool.and_eq_true, decide_eq_true_eq]
        exact ⟨h.1, ih h.2 (by omega)⟩

variable [DecidableEq α]

/-- A write removes the key, or lists it. -/
theorem put_eq (d v : α) (t : Tab α) (i : Nat) : put d t i v = if v = d then del t i else ins t i v := by
  cases t <;> rfl

/-- A write leaves every other key alone. -/
theorem get_put_ne (d d' v : α) (t : Tab α) {i j : Nat} (h : j ≠ i) : get d' (put d t i v) j = get d' t j := by
  rw [put_eq]; split
  · exact get_del_ne d' t h
  · exact get_ins_ne d' v t h

/-- A read after a write to the same key gives the value written. -/
theorem get_put_self (d v : α) (t : Tab α) (i : Nat) : get d (put d t i v) i = v := by
  rw [put_eq]; split
  · next h => rw [get_del_self, h]
  · exact get_ins_self d v t i

/-- A write keeps the keys rising. -/
theorem rising_put (d v : α) {t : Tab α} (i : Nat) (h : rising t = true) : rising (put d t i v) = true := by
  rw [put_eq]; split
  · rw [del_eq_filter]; exact rising_filter _ h
  · cases t with
    | nil => rfl
    | cons e t =>
      obtain ⟨k, x⟩ := e
      have h' : risingFrom k t = true := h
      simp only [ins]
      split
      · simp [rising, risingFrom, *]
      · split
        · simp_all [rising]
        · exact risingFrom_ins h' (by omega)

/-- A write lists no value that an unlisted key reads as. -/
theorem all_put {d v : α} {t : Tab α} {i : Nat} (h : t.all (fun e => !decide (e.2 = d)) = true) :
    (put d t i v).all (fun e => !decide (e.2 = d)) = true := by
  rw [put_eq]; split
  · rw [del_eq_filter, List.all_eq_true] at *
    exact fun e he => h e (List.mem_filter.1 he).1
  · next hv =>
    induction t with
    | nil => simp [ins, hv]
    | cons e t ih =>
      obtain ⟨k, x⟩ := e
      simp only [List.all_cons, Bool.and_eq_true] at h
      simp only [ins]
      split
      · simp only [List.all_cons, h.1, h.2, hv, decide_false, Bool.not_false, Bool.and_true]
      · split
        · simp only [List.all_cons, h.2, hv, decide_false, Bool.not_false, Bool.and_true]
        · rw [List.all_cons, h.1, ih h.2]; rfl

/-- A write keeps the canonical form. -/
theorem wf_put {d v : α} {t : Tab α} {i : Nat} (h : wf d t = true) : wf d (put d t i v) = true := by
  simp only [wf, Bool.and_eq_true] at h ⊢
  exact ⟨rising_put d v i h.1, all_put h.2⟩

/-- Writes to keys from one on keep the canonical form. -/
theorem wf_putMany {d : α} (vs : List α) {t : Tab α} {i : Nat} (h : wf d t = true) : wf d (putMany d t i vs) = true := by
  induction vs generalizing t i with
  | nil => exact h
  | cons v vs ih => exact ih (wf_put h)

/-- Writes to keys from one on leave every key outside them alone. -/
theorem get_putMany_out (d d' : α) (vs : List α) (t : Tab α) {i j : Nat} (h : j < i ∨ i + vs.length ≤ j) :
    get d' (putMany d t i vs) j = get d' t j := by
  induction vs generalizing t i with
  | nil => rfl
  | cons v vs ih =>
    simp only [List.length_cons] at h
    rw [putMany, ih _ (by omega), get_put_ne d d' v t (by omega)]

/-- Entries taken out of a table leave its canonical form. -/
theorem wf_filter {d : α} {t : Tab α} (p : Nat × α → Bool) (h : wf d t = true) : wf d (t.filter p) = true := by
  unfold wf at *
  rw [Bool.and_eq_true] at *
  refine ⟨rising_filter p h.1, ?_⟩
  rw [List.all_eq_true] at *
  exact fun x hx => h.2 x (List.mem_filter.1 hx).1

/-- The keys of a table in its canonical form rise. -/
theorem rising_of_wf {d : α} {t : Tab α} (h : wf d t = true) : rising t = true := by
  simp only [wf, Bool.and_eq_true] at h; exact h.1

end Sys2Proof.Tab
end

