-- ==== Sys2Proof/Laws/Regs.lean ====
section
/-! SUPPORT. Register fields: what a field reads after a field has been written, at the same place, at another place of the
same word, and in another word. -/

namespace Sys2Proof.Machine

/-! ### Bit fields -/

/-- A field of a number lies in the number's low bits that cover it. -/
theorem bits_mod {n lo width : Nat} (x : Nat) (h : lo + width ≤ n) : bits (x % 2 ^ n) lo width = bits x lo width := by
  apply Nat.eq_of_testBit_eq
  intro i
  simp only [bits, Nat.testBit_mod_two_pow, Nat.testBit_div_two_pow]
  by_cases hi : i < width
  · have : i + lo < n := by omega
    simp [hi, this]
  · simp [hi]

/-- A field of a number above `n` bits, in what stands above them. -/
theorem bits_div {n lo width : Nat} (x : Nat) (h : n ≤ lo) : bits x lo width = bits (x / 2 ^ n) (lo - n) width := by
  simp only [bits, Nat.div_div_eq_div_mul, ← Nat.pow_add]
  rw [show n + (lo - n) = lo by omega]

/-- The parts of a word in which a field has been replaced. -/
theorem insertBits_eq (old lo width v : Nat) :
    insertBits old lo width v = old % 2 ^ lo + 2 ^ lo * (v % 2 ^ width + 2 ^ width * (old / 2 ^ (lo + width))) := by
  simp only [insertBits, Nat.pow_add]
  rw [Nat.mul_add, Nat.mul_comm (v % 2 ^ width), Nat.add_assoc]
  congr 2
  rw [Nat.mul_comm, Nat.mul_assoc]

/-- A field reads what was put into it. -/
theorem bits_insertBits_self (old lo width v : Nat) : bits (insertBits old lo width v) lo width = v % 2 ^ width := by
  rw [insertBits_eq, bits, Nat.add_mul_div_left _ _ (Nat.two_pow_pos lo),
    Nat.div_eq_of_lt (Nat.mod_lt _ (Nat.two_pow_pos lo)), Nat.zero_add, Nat.add_mul_mod_self_left, Nat.mod_mod]

/-- Putting a value into a field leaves a field beside it alone. -/
theorem bits_insertBits_ne (old v : Nat) {lo width lo' width' : Nat} (h : lo' + width' ≤ lo ∨ lo + width ≤ lo') :
    bits (insertBits old lo width v) lo' width' = bits old lo' width' := by
  rcases h with h | h
  · rw [← bits_mod (insertBits old lo width v) h, ← bits_mod old h, insertBits_eq, Nat.add_mul_mod_self_left, Nat.mod_mod]
  · have e : insertBits old lo width v / 2 ^ (lo + width) = old / 2 ^ (lo + width) := by
      rw [insertBits_eq, Nat.pow_add, ← Nat.div_div_eq_div_mul, Nat.add_mul_div_left _ _ (Nat.two_pow_pos lo),
        Nat.div_eq_of_lt (Nat.mod_lt _ (Nat.two_pow_pos lo)), Nat.zero_add, Nat.add_mul_div_left _ _ (Nat.two_pow_pos width),
        Nat.div_eq_of_lt (Nat.mod_lt _ (Nat.two_pow_pos width)), Nat.zero_add]
    rw [bits_div _ h, bits_div old h, e]

/-- Two parts of a number, the low one below `a`. -/
theorem add_mul_lt {x q a b : Nat} (hx : x < a) (hq : q < b) : x + a * q < a * b := by
  have h : a * (q + 1) ≤ a * b := Nat.mul_le_mul_left a hq
  rw [Nat.mul_add, Nat.mul_one] at h
  omega

/-- A word of `n` bits stays one when a field within it is replaced. -/
theorem insertBits_lt {old lo width n : Nat} (v : Nat) (ho : old < 2 ^ n) (h : lo + width ≤ n) :
    insertBits old lo width v < 2 ^ n := by
  have hq : old / 2 ^ (lo + width) < 2 ^ (n - (lo + width)) := by
    rw [Nat.div_lt_iff_lt_mul (Nat.two_pow_pos _), ← Nat.pow_add, show n - (lo + width) + (lo + width) = n by omega]
    exact ho
  have h1 := add_mul_lt (Nat.mod_lt v (Nat.two_pow_pos width)) hq
  have h2 := add_mul_lt (Nat.mod_lt old (Nat.two_pow_pos lo)) h1
  rw [insertBits_eq]
  rwa [← Nat.pow_add, ← Nat.pow_add, show lo + (width + (n - (lo + width))) = n by omega] at h2

/-- A field is no greater than its width lets it be. -/
theorem bits_lt (x lo width : Nat) : bits x lo width < 2 ^ width := Nat.mod_lt _ (Nat.two_pow_pos width)

namespace State

/-! ### Words -/

/-- A word of the register file is below 2^32. -/
theorem word_lt (s : State) (a r : Nat) : s.word a r < 2 ^ 32 := BitVec.isLt _

/-- A word that has been written reads as written. -/
theorem word_setWord_self (s : State) (a r v : Nat) : (s.setWord a r v).word a r = v % 2 ^ 32 := by
  show (Tab.get (BitVec.ofNat 32 r) (Tab.put (BitVec.ofNat 32 r) s.regs a (BitVec.ofNat 32 v)) a).toNat = v % 2 ^ 32
  rw [Tab.get_put_self]
  simp

/-- A write to a word leaves every other word alone. -/
theorem word_setWord_ne (s : State) (a r v b r' : Nat) (h : b ≠ a) : (s.setWord a r v).word b r' = s.word b r' := by
  show (Tab.get (BitVec.ofNat 32 r') (Tab.put (BitVec.ofNat 32 r) s.regs a (BitVec.ofNat 32 v)) b).toNat = _
  rw [Tab.get_put_ne _ _ _ _ h]
  rfl

/-- A write to a word keeps the register file's keys rising. -/
theorem rising_setWord (s : State) (a r v : Nat) (h : s.regs.rising = true) : (s.setWord a r v).regs.rising = true :=
  Tab.rising_put _ _ _ h

/-- A write to a field keeps the register file's keys rising. -/
theorem rising_set (s : State) (l : Loc) (v : Nat) (h : s.regs.rising = true) : (s.set l v).regs.rising = true := by
  unfold set
  dsimp only
  split
  · exact rising_setWord _ _ _ _ h
  · exact rising_setWord _ _ _ _ (rising_setWord _ _ _ _ h)

/-! ### Fields -/

/-- The value of a register in two words is below 2^64. -/
theorem regVal_lt (s : State) (l : Loc) : s.regVal l < 2 ^ 64 := by
  unfold regVal
  split
  · exact Nat.lt_trans (word_lt _ _ _) (by decide)
  · have h1 := word_lt s l.addr (l.rst % 2 ^ 32)
    have h2 := word_lt s (l.addr + 4) (l.rst / 2 ^ 32)
    omega

/-- A field reads what has been written to it, cut to its width. -/
theorem f_set_self (s : State) (l : Loc) (v : Nat) (hw : l.lo + l.width ≤ 64) :
    (s.set l v).f l = v % 2 ^ l.width := by
  by_cases hn : l.lo + l.width ≤ 32
  · simp only [f, set, regVal, hn, if_true]
    rw [word_setWord_self, bits_mod _ hn, bits_insertBits_self]
  · simp only [f, set, hn, if_false]
    have hx : insertBits (s.regVal l) l.lo l.width v < 2 ^ 64 := insertBits_lt v (regVal_lt s l) hw
    generalize hy : insertBits (s.regVal l) l.lo l.width v = x at hx
    have e : regVal ((s.setWord l.addr (l.rst % 2 ^ 32) (x % 2 ^ 32)).setWord (l.addr + 4) (l.rst / 2 ^ 32) (x / 2 ^ 32)) l = x := by
      simp only [regVal, hn, if_false]
      rw [word_setWord_ne _ _ _ _ _ _ (by omega), word_setWord_self,
        word_setWord_self]
      omega
    rw [e, ← hy, bits_insertBits_self]

/-- A write to a field leaves the fields in other words alone. -/
theorem f_set_ne (s : State) (l m : Loc) (v : Nat) (h : wordsApart l m) : (s.set l v).f m = s.f m := by
  obtain ⟨h1, h2, h3⟩ := h
  have e : ∀ (a r w : Nat), (a = l.addr ∨ a = l.addr + 4 ∧ ¬ l.lo + l.width ≤ 32) → regVal (s.setWord a r w) m = regVal s m := by
    intro a r w ha
    unfold regVal
    split
    · rw [word_setWord_ne _ _ _ _ _ _ (by rcases ha with ha | ⟨ha, hb⟩ <;> omega)]
    · rw [word_setWord_ne _ _ _ _ _ _ (by rcases ha with ha | ⟨ha, hb⟩ <;> omega),
        word_setWord_ne _ _ _ _ _ _ (by rcases ha with ha | ⟨ha, hb⟩ <;> omega)]
  unfold f
  congr 1
  unfold set
  dsimp only
  split
  · exact e _ _ _ (.inl rfl)
  · rename_i hn
    have e2 : ∀ (t : State) (r w : Nat), regVal (t.setWord (l.addr + 4) r w) m = regVal t m := by
      intro t r w
      unfold regVal
      split
      · rw [word_setWord_ne _ _ _ _ _ _ (by omega)]
      · rw [word_setWord_ne _ _ _ _ _ _ (by omega), word_setWord_ne _ _ _ _ _ _ (by omega)]
    rw [e2, e _ _ _ (.inl rfl)]

/-- A write to a field leaves the fields beside it in its word alone. -/
theorem f_set_beside (s : State) (l m : Loc) (v : Nat) (ha : m.addr = l.addr) (hr : m.rst = l.rst)
    (hl : l.lo + l.width ≤ 32) (hm : m.lo + m.width ≤ 32) (hd : m.lo + m.width ≤ l.lo ∨ l.lo + l.width ≤ m.lo) :
    (s.set l v).f m = s.f m := by
  simp only [f, set, regVal, hl, hm, if_true, ha, hr]
  rw [word_setWord_self, bits_mod _ hm, bits_insertBits_ne _ _ hd]

/-- A field is no greater than its width lets it be. -/
theorem f_lt (s : State) (l : Loc) : s.f l < 2 ^ l.width := bits_lt _ _ _

/-- Fields read alike from like register files. -/
theorem f_congr {s t : State} (l : Loc) (h : s.regs = t.regs) : s.f l = t.f l := by
  simp only [f, regVal, word, h]

end State

end Sys2Proof.Machine
end

