-- ==== Sys2Proof/Laws/Keep.lean ====
section
/-! SUPPORT. Fields of the state through choices and folds, and through the smallest updates of the state: what each leaves
alone. -/

namespace Sys2Proof.Machine.State

@[simp] theorem ite_pending (c : Prop) [Decidable c] (s t : State) : (if c then s else t).pending = if c then s.pending else t.pending := by
  split <;> rfl

@[simp] theorem foldl_pending {α : Type} (g : State → α → State) (l : List α) (s : State)
    (h : ∀ s x, (g s x).pending = s.pending) : (l.foldl g s).pending = s.pending := by
  induction l generalizing s with
  | nil => rfl
  | cons x xs ih => rw [List.foldl_cons, ih, h]

@[simp] theorem ite_sdram (c : Prop) [Decidable c] (s t : State) : (if c then s else t).sdram = if c then s.sdram else t.sdram := by
  split <;> rfl

@[simp] theorem foldl_sdram {α : Type} (g : State → α → State) (l : List α) (s : State)
    (h : ∀ s x, (g s x).sdram = s.sdram) : (l.foldl g s).sdram = s.sdram := by
  induction l generalizing s with
  | nil => rfl
  | cons x xs ih => rw [List.foldl_cons, ih, h]

@[simp] theorem ite_fuse (c : Prop) [Decidable c] (s t : State) : (if c then s else t).fuse = if c then s.fuse else t.fuse := by
  split <;> rfl

@[simp] theorem foldl_fuse {α : Type} (g : State → α → State) (l : List α) (s : State)
    (h : ∀ s x, (g s x).fuse = s.fuse) : (l.foldl g s).fuse = s.fuse := by
  induction l generalizing s with
  | nil => rfl
  | cons x xs ih => rw [List.foldl_cons, ih, h]

@[simp] theorem ite_sem (c : Prop) [Decidable c] (s t : State) : (if c then s else t).sem = if c then s.sem else t.sem := by
  split <;> rfl

@[simp] theorem foldl_sem {α : Type} (g : State → α → State) (l : List α) (s : State)
    (h : ∀ s x, (g s x).sem = s.sem) : (l.foldl g s).sem = s.sem := by
  induction l generalizing s with
  | nil => rfl
  | cons x xs ih => rw [List.foldl_cons, ih, h]

@[simp] theorem ite_dom (c : Prop) [Decidable c] (s t : State) : (if c then s else t).dom = if c then s.dom else t.dom := by
  split <;> rfl

@[simp] theorem foldl_dom {α : Type} (g : State → α → State) (l : List α) (s : State)
    (h : ∀ s x, (g s x).dom = s.dom) : (l.foldl g s).dom = s.dom := by
  induction l generalizing s with
  | nil => rfl
  | cons x xs ih => rw [List.foldl_cons, ih, h]

@[simp] theorem ite_time (c : Prop) [Decidable c] (s t : State) : (if c then s else t).time = if c then s.time else t.time := by
  split <;> rfl

@[simp] theorem foldl_time {α : Type} (g : State → α → State) (l : List α) (s : State)
    (h : ∀ s x, (g s x).time = s.time) : (l.foldl g s).time = s.time := by
  induction l generalizing s with
  | nil => rfl
  | cons x xs ih => rw [List.foldl_cons, ih, h]

@[simp] theorem ite_kp (c : Prop) [Decidable c] (s t : State) : (if c then s else t).kp = if c then s.kp else t.kp := by
  split <;> rfl

@[simp] theorem foldl_kp {α : Type} (g : State → α → State) (l : List α) (s : State)
    (h : ∀ s x, (g s x).kp = s.kp) : (l.foldl g s).kp = s.kp := by
  induction l generalizing s with
  | nil => rfl
  | cons x xs ih => rw [List.foldl_cons, ih, h]

@[simp] theorem ite_regs (c : Prop) [Decidable c] (s t : State) : (if c then s else t).regs = if c then s.regs else t.regs := by
  split <;> rfl

@[simp] theorem foldl_regs {α : Type} (g : State → α → State) (l : List α) (s : State)
    (h : ∀ s x, (g s x).regs = s.regs) : (l.foldl g s).regs = s.regs := by
  induction l generalizing s with
  | nil => rfl
  | cons x xs ih => rw [List.foldl_cons, ih, h]

@[simp] theorem ite_act (c : Prop) [Decidable c] (s t : State) : (if c then s else t).act = if c then s.act else t.act := by
  split <;> rfl

@[simp] theorem foldl_act {α : Type} (g : State → α → State) (l : List α) (s : State)
    (h : ∀ s x, (g s x).act = s.act) : (l.foldl g s).act = s.act := by
  induction l generalizing s with
  | nil => rfl
  | cons x xs ih => rw [List.foldl_cons, ih, h]

@[simp] theorem ite_mirror (c : Prop) [Decidable c] (s t : State) : (if c then s else t).mirror = if c then s.mirror else t.mirror := by
  split <;> rfl

@[simp] theorem foldl_mirror {α : Type} (g : State → α → State) (l : List α) (s : State)
    (h : ∀ s x, (g s x).mirror = s.mirror) : (l.foldl g s).mirror = s.mirror := by
  induction l generalizing s with
  | nil => rfl
  | cons x xs ih => rw [List.foldl_cons, ih, h]

@[simp] theorem rising_ite {α : Type} (c : Prop) [Decidable c] (a b : Tab α) :
    Tab.rising (if c then a else b) = if c then a.rising else b.rising := by split <;> rfl

@[simp] theorem wf_ite {α : Type} [DecidableEq α] (d : α) (c : Prop) [Decidable c] (a b : Tab α) :
    Tab.wf d (if c then a else b) = if c then a.wf d else b.wf d := by split <;> rfl

@[simp] theorem ite_holder (c : Prop) [Decidable c] (a b : SemSt) :
    (if c then a else b).holder = if c then a.holder else b.holder := by split <;> rfl

@[simp] theorem ite_tieLoser (c : Prop) [Decidable c] (a b : SemSt) :
    (if c then a else b).tieLoser = if c then a.tieLoser else b.tieLoser := by split <;> rfl

@[simp] theorem ite_words (c : Prop) [Decidable c] (a b : MirrorSt) :
    (if c then a else b).words = if c then a.words else b.words := by split <;> rfl

/-- The engine itself holds no semaphore but SEM_1 and SEM_5 (R58). -/
def engineSems (x : SemSt) : Prop :=
  x.holder.wf none = true ∧ ∀ n, x.holder.get none n = some .engine → n = 1 ∨ n = 5

@[simp] theorem engineSems_ite (c : Prop) [Decidable c] (a b : SemSt) :
    engineSems (if c then a else b) ↔ if c then engineSems a else engineSems b := by split <;> rfl

@[simp] theorem foldl_rising {α : Type} (g : State → α → State) (l : List α) (s : State) (h : s.regs.rising = true)
    (k : ∀ s x, s.regs.rising = true → (g s x).regs.rising = true) : (l.foldl g s).regs.rising = true := by
  induction l generalizing s with
  | nil => exact h
  | cons x xs ih => exact ih _ (k _ _ h)

@[simp] theorem foldl_actRising {α : Type} (g : State → α → State) (l : List α) (s : State) (h : s.act.rising = true)
    (k : ∀ s x, s.act.rising = true → (g s x).act.rising = true) : (l.foldl g s).act.rising = true := by
  induction l generalizing s with
  | nil => exact h
  | cons x xs ih => exact ih _ (k _ _ h)

@[simp] theorem foldl_tieWf {α : Type} (g : State → α → State) (l : List α) (s : State) (h : s.sem.tieLoser.wf none = true)
    (k : ∀ s x, s.sem.tieLoser.wf none = true → (g s x).sem.tieLoser.wf none = true) : (l.foldl g s).sem.tieLoser.wf none = true := by
  induction l generalizing s with
  | nil => exact h
  | cons x xs ih => exact ih _ (k _ _ h)

@[simp] theorem foldl_engineSems {α : Type} (g : State → α → State) (l : List α) (s : State) (h : engineSems s.sem)
    (k : ∀ s x, engineSems s.sem → engineSems (g s x).sem) : engineSems (l.foldl g s).sem := by
  induction l generalizing s with
  | nil => exact h
  | cons x xs ih => exact ih _ (k _ _ h)

@[simp] theorem foldl_mirrorWf {α : Type} (g : State → α → State) (l : List α) (s : State) (h : s.mirror.words.wf 0#32 = true)
    (k : ∀ s x, s.mirror.words.wf 0#32 = true → (g s x).mirror.words.wf 0#32 = true) : (l.foldl g s).mirror.words.wf 0#32 = true := by
  induction l generalizing s with
  | nil => exact h
  | cons x xs ih => exact ih _ (k _ _ h)

@[simp] theorem foldl_sdramWf {α : Type} (g : State → α → State) (l : List α) (s : State) (h : s.sdram.wf 0#8 = true)
    (k : ∀ s x, s.sdram.wf 0#8 = true → (g s x).sdram.wf 0#8 = true) : (l.foldl g s).sdram.wf 0#8 = true := by
  induction l generalizing s with
  | nil => exact h
  | cons x xs ih => exact ih _ (k _ _ h)

end Sys2Proof.Machine.State
end

