-- ==== Sys2Proof/Laws/KeepOps.lean ====
section
/-! SUPPORT. What the operations of Machine/Ops.lean leave alone: memory, fuses, semaphores, domains, time, the queue. -/

namespace Sys2Proof.Machine.State

@[simp] theorem setWord_keeps (s : State) (a : Nat) (rst : Nat) (v : Nat) :
    (State.setWord s a rst v).pending = s.pending ∧ (State.setWord s a rst v).sdram = s.sdram ∧ (State.setWord s a rst v).fuse = s.fuse ∧ (State.setWord s a rst v).sem = s.sem ∧ (State.setWord s a rst v).dom = s.dom ∧ (State.setWord s a rst v).time = s.time ∧ (State.setWord s a rst v).kp = s.kp ∧ (State.setWord s a rst v).act = s.act ∧ (State.setWord s a rst v).mirror = s.mirror := by
  unfold State.setWord
  simp

@[simp] theorem setWord_rising (s : State) (a rst v : Nat) (hs : s.regs.rising = true) : (s.setWord a rst v).regs.rising = true :=
  Tab.rising_put _ _ _ hs

@[simp] theorem set_keeps (s : State) (l : Loc) (v : Nat) :
    (State.set s l v).pending = s.pending ∧ (State.set s l v).sdram = s.sdram ∧ (State.set s l v).fuse = s.fuse ∧ (State.set s l v).sem = s.sem ∧ (State.set s l v).dom = s.dom ∧ (State.set s l v).time = s.time ∧ (State.set s l v).kp = s.kp ∧ (State.set s l v).act = s.act ∧ (State.set s l v).mirror = s.mirror := by
  unfold State.set
  simp

@[simp] theorem set_rising (s : State) (l : Loc) (v : Nat) (hs : s.regs.rising = true) :
    (State.set s l v).regs.rising = true := by
  unfold State.set
  simp (maxDischargeDepth := 60) [hs]

@[simp] theorem addSat_keeps (s : State) (l : Loc) (n : Nat) :
    (State.addSat s l n).pending = s.pending ∧ (State.addSat s l n).sdram = s.sdram ∧ (State.addSat s l n).fuse = s.fuse ∧ (State.addSat s l n).sem = s.sem ∧ (State.addSat s l n).dom = s.dom ∧ (State.addSat s l n).time = s.time ∧ (State.addSat s l n).kp = s.kp ∧ (State.addSat s l n).act = s.act ∧ (State.addSat s l n).mirror = s.mirror := by
  unfold State.addSat
  simp

@[simp] theorem addSat_rising (s : State) (l : Loc) (n : Nat) (hs : s.regs.rising = true) :
    (State.addSat s l n).regs.rising = true := by
  unfold State.addSat
  simp (maxDischargeDepth := 60) [hs]

@[simp] theorem bump_keeps (s : State) (l : Loc) :
    (State.bump s l).pending = s.pending ∧ (State.bump s l).sdram = s.sdram ∧ (State.bump s l).fuse = s.fuse ∧ (State.bump s l).sem = s.sem ∧ (State.bump s l).dom = s.dom ∧ (State.bump s l).time = s.time ∧ (State.bump s l).kp = s.kp ∧ (State.bump s l).act = s.act ∧ (State.bump s l).mirror = s.mirror := by
  unfold State.bump
  simp

@[simp] theorem bump_rising (s : State) (l : Loc) (hs : s.regs.rising = true) :
    (State.bump s l).regs.rising = true := by
  unfold State.bump
  simp (maxDischargeDepth := 60) [hs]

@[simp] theorem addWrap_keeps (s : State) (l : Loc) (n : Nat) :
    (State.addWrap s l n).pending = s.pending ∧ (State.addWrap s l n).sdram = s.sdram ∧ (State.addWrap s l n).fuse = s.fuse ∧ (State.addWrap s l n).sem = s.sem ∧ (State.addWrap s l n).dom = s.dom ∧ (State.addWrap s l n).time = s.time ∧ (State.addWrap s l n).kp = s.kp ∧ (State.addWrap s l n).act = s.act ∧ (State.addWrap s l n).mirror = s.mirror := by
  unfold State.addWrap
  simp

@[simp] theorem addWrap_rising (s : State) (l : Loc) (n : Nat) (hs : s.regs.rising = true) :
    (State.addWrap s l n).regs.rising = true := by
  unfold State.addWrap
  simp (maxDischargeDepth := 60) [hs]

@[simp] theorem applyWord_keeps (s : State) (a : Nat) (rst : Nat) :
    (State.applyWord s a rst).pending = s.pending ∧ (State.applyWord s a rst).sdram = s.sdram ∧ (State.applyWord s a rst).fuse = s.fuse ∧ (State.applyWord s a rst).sem = s.sem ∧ (State.applyWord s a rst).dom = s.dom ∧ (State.applyWord s a rst).time = s.time ∧ (State.applyWord s a rst).kp = s.kp ∧ (State.applyWord s a rst).regs = s.regs ∧ (State.applyWord s a rst).mirror = s.mirror := by
  unfold State.applyWord
  simp

@[simp] theorem applyWord_actRising (s : State) (a rst : Nat) (_hr : s.regs.rising = true) (hs : s.act.rising = true) :
    (s.applyWord a rst).act.rising = true := Tab.rising_put _ _ _ hs

@[simp] theorem applyShadow_keeps (s : State) (l : Loc) :
    (State.applyShadow s l).pending = s.pending ∧ (State.applyShadow s l).sdram = s.sdram ∧ (State.applyShadow s l).fuse = s.fuse ∧ (State.applyShadow s l).sem = s.sem ∧ (State.applyShadow s l).dom = s.dom ∧ (State.applyShadow s l).time = s.time ∧ (State.applyShadow s l).kp = s.kp ∧ (State.applyShadow s l).regs = s.regs ∧ (State.applyShadow s l).mirror = s.mirror := by
  unfold State.applyShadow
  simp

@[simp] theorem applyShadow_actRising (s : State) (l : Loc) (hr : s.regs.rising = true) (hs : s.act.rising = true) :
    (State.applyShadow s l).act.rising = true := by
  unfold State.applyShadow
  simp (maxDischargeDepth := 60) [hr, hs]

@[simp] theorem setPort_keeps (s : State) (p : Port) (x : PortSt) :
    (State.setPort s p x).pending = s.pending ∧ (State.setPort s p x).sdram = s.sdram ∧ (State.setPort s p x).fuse = s.fuse ∧ (State.setPort s p x).sem = s.sem ∧ (State.setPort s p x).dom = s.dom ∧ (State.setPort s p x).time = s.time ∧ (State.setPort s p x).kp = s.kp ∧ (State.setPort s p x).regs = s.regs ∧ (State.setPort s p x).act = s.act ∧ (State.setPort s p x).mirror = s.mirror := by
  unfold State.setPort
  try dsimp only
  (repeat' split) <;> simp

@[simp] theorem pendHigh_keeps (s : State) (p : Port) (off : Nat) (v : Nat) :
    (State.pendHigh s p off v).pending = s.pending ∧ (State.pendHigh s p off v).sdram = s.sdram ∧ (State.pendHigh s p off v).fuse = s.fuse ∧ (State.pendHigh s p off v).sem = s.sem ∧ (State.pendHigh s p off v).dom = s.dom ∧ (State.pendHigh s p off v).time = s.time ∧ (State.pendHigh s p off v).kp = s.kp ∧ (State.pendHigh s p off v).regs = s.regs ∧ (State.pendHigh s p off v).act = s.act ∧ (State.pendHigh s p off v).mirror = s.mirror := by
  unfold State.pendHigh
  simp

@[simp] theorem highUsed_keeps (s : State) (p : Port) :
    (State.highUsed s p).pending = s.pending ∧ (State.highUsed s p).sdram = s.sdram ∧ (State.highUsed s p).fuse = s.fuse ∧ (State.highUsed s p).sem = s.sem ∧ (State.highUsed s p).dom = s.dom ∧ (State.highUsed s p).time = s.time ∧ (State.highUsed s p).kp = s.kp ∧ (State.highUsed s p).regs = s.regs ∧ (State.highUsed s p).act = s.act ∧ (State.highUsed s p).mirror = s.mirror := by
  unfold State.highUsed
  simp

@[simp] theorem emit_keeps (s : State) (o : Out) :
    (State.emit s o).pending = s.pending ∧ (State.emit s o).sdram = s.sdram ∧ (State.emit s o).fuse = s.fuse ∧ (State.emit s o).sem = s.sem ∧ (State.emit s o).dom = s.dom ∧ (State.emit s o).time = s.time ∧ (State.emit s o).kp = s.kp ∧ (State.emit s o).regs = s.regs ∧ (State.emit s o).act = s.act ∧ (State.emit s o).mirror = s.mirror := by
  unfold State.emit
  simp

@[simp] theorem complete_keeps (s : State) (c : Completion) :
    (State.complete s c).pending = s.pending ∧ (State.complete s c).sdram = s.sdram ∧ (State.complete s c).fuse = s.fuse ∧ (State.complete s c).sem = s.sem ∧ (State.complete s c).dom = s.dom ∧ (State.complete s c).time = s.time ∧ (State.complete s c).kp = s.kp ∧ (State.complete s c).regs = s.regs ∧ (State.complete s c).act = s.act ∧ (State.complete s c).mirror = s.mirror := by
  unfold State.complete
  simp

@[simp] theorem raiseAt_keeps (s : State) (p : Port) (n : Nat) :
    (State.raiseAt s p n).pending = s.pending ∧ (State.raiseAt s p n).sdram = s.sdram ∧ (State.raiseAt s p n).fuse = s.fuse ∧ (State.raiseAt s p n).sem = s.sem ∧ (State.raiseAt s p n).dom = s.dom ∧ (State.raiseAt s p n).time = s.time ∧ (State.raiseAt s p n).kp = s.kp ∧ (State.raiseAt s p n).act = s.act ∧ (State.raiseAt s p n).mirror = s.mirror := by
  unfold State.raiseAt
  simp

@[simp] theorem raiseAt_rising (s : State) (p : Port) (n : Nat) (hs : s.regs.rising = true) :
    (State.raiseAt s p n).regs.rising = true := by
  unfold State.raiseAt
  simp (maxDischargeDepth := 60) [hs]

@[simp] theorem raise_keeps (s : State) (n : Nat) :
    (State.raise s n).pending = s.pending ∧ (State.raise s n).sdram = s.sdram ∧ (State.raise s n).fuse = s.fuse ∧ (State.raise s n).sem = s.sem ∧ (State.raise s n).dom = s.dom ∧ (State.raise s n).time = s.time ∧ (State.raise s n).kp = s.kp ∧ (State.raise s n).act = s.act ∧ (State.raise s n).mirror = s.mirror := by
  unfold State.raise
  simp

@[simp] theorem raise_rising (s : State) (n : Nat) (hs : s.regs.rising = true) :
    (State.raise s n).regs.rising = true := by
  unfold State.raise
  simp (maxDischargeDepth := 60) [hs]

@[simp] theorem raiseAll_keeps (s : State) (y0 : List Nat) :
    (State.raiseAll s y0).pending = s.pending ∧ (State.raiseAll s y0).sdram = s.sdram ∧ (State.raiseAll s y0).fuse = s.fuse ∧ (State.raiseAll s y0).sem = s.sem ∧ (State.raiseAll s y0).dom = s.dom ∧ (State.raiseAll s y0).time = s.time ∧ (State.raiseAll s y0).kp = s.kp ∧ (State.raiseAll s y0).act = s.act ∧ (State.raiseAll s y0).mirror = s.mirror := by
  fun_induction State.raiseAll s y0; all_goals first
      | (simp_all +zetaDelta; done)
      | (simp only [*]; (try simp +zetaDelta only []); (repeat' split) <;> simp_all; done)

@[simp] theorem raiseAll_rising (s : State) (y0 : List Nat) (hs : s.regs.rising = true) :
    (State.raiseAll s y0).regs.rising = true := by
  fun_induction State.raiseAll s y0 <;> (simp_all (maxDischargeDepth := 60) +zetaDelta; done)

@[simp] theorem setHolder_keeps (s : State) (n : Nat) (h : Option Holder) :
    (State.setHolder s n h).pending = s.pending ∧ (State.setHolder s n h).sdram = s.sdram ∧ (State.setHolder s n h).fuse = s.fuse ∧ (State.setHolder s n h).dom = s.dom ∧ (State.setHolder s n h).time = s.time ∧ (State.setHolder s n h).kp = s.kp ∧ (State.setHolder s n h).regs = s.regs ∧ (State.setHolder s n h).act = s.act ∧ (State.setHolder s n h).mirror = s.mirror := by
  unfold State.setHolder
  simp

@[simp] theorem setHolder_tieWf (s : State) (n : Nat) (h : Option Holder) (hs : s.sem.tieLoser.wf none = true) :
    (s.setHolder n h).sem.tieLoser.wf none = true := hs

@[simp] theorem setHolder_engineSems (s : State) (n : Nat) (h : Option Holder) (hs : engineSems s.sem)
    (hh : h = some .engine → n = 1 ∨ n = 5) : engineSems (s.setHolder n h).sem := by
  refine ⟨Tab.wf_put hs.1, fun m hm => ?_⟩
  by_cases e : m = n
  · subst e
    exact hh ((Tab.get_put_self none h _ m).symm.trans hm)
  · exact hs.2 m ((Tab.get_put_ne none none h s.sem.holder e).symm.trans hm)

@[simp] theorem freeSem_keeps (s : State) (n : Nat) :
    (State.freeSem s n).pending = s.pending ∧ (State.freeSem s n).sdram = s.sdram ∧ (State.freeSem s n).fuse = s.fuse ∧ (State.freeSem s n).dom = s.dom ∧ (State.freeSem s n).time = s.time ∧ (State.freeSem s n).kp = s.kp ∧ (State.freeSem s n).act = s.act ∧ (State.freeSem s n).mirror = s.mirror := by
  unfold State.freeSem
  simp

@[simp] theorem freeSem_rising (s : State) (n : Nat) (hs : s.regs.rising = true) :
    (State.freeSem s n).regs.rising = true := by
  unfold State.freeSem
  simp (maxDischargeDepth := 60) [hs]

@[simp] theorem freeSem_tieWf (s : State) (n : Nat) (hs : s.sem.tieLoser.wf none = true) :
    (State.freeSem s n).sem.tieLoser.wf none = true := by
  unfold State.freeSem
  simp (maxDischargeDepth := 60) [hs]

@[simp] theorem freeSem_engineSems (s : State) (n : Nat) (hs : engineSems s.sem) :
    engineSems (State.freeSem s n).sem := by
  unfold State.freeSem
  simp (maxDischargeDepth := 60) [hs]

@[simp] theorem refuse_keeps (s : State) (p : Port) (off : Nat) :
    (State.refuse s p off).pending = s.pending ∧ (State.refuse s p off).sdram = s.sdram ∧ (State.refuse s p off).fuse = s.fuse ∧ (State.refuse s p off).sem = s.sem ∧ (State.refuse s p off).dom = s.dom ∧ (State.refuse s p off).time = s.time ∧ (State.refuse s p off).kp = s.kp ∧ (State.refuse s p off).act = s.act ∧ (State.refuse s p off).mirror = s.mirror := by
  unfold State.refuse
  try dsimp only
  (repeat' split) <;> simp

@[simp] theorem refuse_rising (s : State) (p : Port) (off : Nat) (hs : s.regs.rising = true) :
    (State.refuse s p off).regs.rising = true := by
  unfold State.refuse
  try dsimp only
  (repeat' split) <;> simp (maxDischargeDepth := 60) [hs]

@[simp] theorem portWrite_keeps_pending (s : State) (p : Port) (off : Nat) (sem : Option Nat) (effect : State → State) (h_effect : ∀ (z0 : State), (effect z0).pending = z0.pending) :
    (State.portWrite s p off sem effect).pending = s.pending := by
  unfold State.portWrite
  try dsimp only
  (repeat' split) <;> simp [h_effect]

@[simp] theorem portWrite_keeps_sdram (s : State) (p : Port) (off : Nat) (sem : Option Nat) (effect : State → State) (h_effect : ∀ (z0 : State), (effect z0).sdram = z0.sdram) :
    (State.portWrite s p off sem effect).sdram = s.sdram := by
  unfold State.portWrite
  try dsimp only
  (repeat' split) <;> simp [h_effect]

@[simp] theorem portWrite_keeps_fuse (s : State) (p : Port) (off : Nat) (sem : Option Nat) (effect : State → State) (h_effect : ∀ (z0 : State), (effect z0).fuse = z0.fuse) :
    (State.portWrite s p off sem effect).fuse = s.fuse := by
  unfold State.portWrite
  try dsimp only
  (repeat' split) <;> simp [h_effect]

@[simp] theorem portWrite_keeps_sem (s : State) (p : Port) (off : Nat) (sem : Option Nat) (effect : State → State) (h_effect : ∀ (z0 : State), (effect z0).sem = z0.sem) :
    (State.portWrite s p off sem effect).sem = s.sem := by
  unfold State.portWrite
  try dsimp only
  (repeat' split) <;> simp [h_effect]

@[simp] theorem portWrite_keeps_dom (s : State) (p : Port) (off : Nat) (sem : Option Nat) (effect : State → State) (h_effect : ∀ (z0 : State), (effect z0).dom = z0.dom) :
    (State.portWrite s p off sem effect).dom = s.dom := by
  unfold State.portWrite
  try dsimp only
  (repeat' split) <;> simp [h_effect]

@[simp] theorem portWrite_keeps_time (s : State) (p : Port) (off : Nat) (sem : Option Nat) (effect : State → State) (h_effect : ∀ (z0 : State), (effect z0).time = z0.time) :
    (State.portWrite s p off sem effect).time = s.time := by
  unfold State.portWrite
  try dsimp only
  (repeat' split) <;> simp [h_effect]

@[simp] theorem portWrite_keeps_kp (s : State) (p : Port) (off : Nat) (sem : Option Nat) (effect : State → State) (h_effect : ∀ (z0 : State), (effect z0).kp = z0.kp) :
    (State.portWrite s p off sem effect).kp = s.kp := by
  unfold State.portWrite
  try dsimp only
  (repeat' split) <;> simp [h_effect]

@[simp] theorem portWrite_keeps_act (s : State) (p : Port) (off : Nat) (sem : Option Nat) (effect : State → State) (h_effect : ∀ (z0 : State), (effect z0).act = z0.act) :
    (State.portWrite s p off sem effect).act = s.act := by
  unfold State.portWrite
  try dsimp only
  (repeat' split) <;> simp [h_effect]

@[simp] theorem portWrite_keeps_mirror (s : State) (p : Port) (off : Nat) (sem : Option Nat) (effect : State → State) (h_effect : ∀ (z0 : State), (effect z0).mirror = z0.mirror) :
    (State.portWrite s p off sem effect).mirror = s.mirror := by
  unfold State.portWrite
  try dsimp only
  (repeat' split) <;> simp [h_effect]

@[simp] theorem portWrite_sdramWf (s : State) (p : Port) (off : Nat) (sem : Option Nat) (effect : State → State) (hs : s.sdram.wf 0#8 = true) (h_effect : ∀ (z0 : State), z0.sdram.wf 0#8 = true → (effect z0).sdram.wf 0#8 = true) :
    (State.portWrite s p off sem effect).sdram.wf 0#8 = true := by
  unfold State.portWrite
  try dsimp only
  (repeat' split) <;> simp (maxDischargeDepth := 60) [hs, h_effect]

@[simp] theorem portWrite_rising (s : State) (p : Port) (off : Nat) (sem : Option Nat) (effect : State → State) (hs : s.regs.rising = true) (h_effect : ∀ (z0 : State), z0.regs.rising = true → (effect z0).regs.rising = true) :
    (State.portWrite s p off sem effect).regs.rising = true := by
  unfold State.portWrite
  try dsimp only
  (repeat' split) <;> simp (maxDischargeDepth := 60) [hs, h_effect]

@[simp] theorem hubWrite_keeps_pending (s : State) (p : Port) (off : Nat) (sem : Option Nat) (effect : State → State) (h_effect : ∀ (z0 : State), (effect z0).pending = z0.pending) :
    (State.hubWrite s p off sem effect).pending = s.pending := by
  unfold State.hubWrite
  simp [h_effect]

@[simp] theorem hubWrite_keeps_sdram (s : State) (p : Port) (off : Nat) (sem : Option Nat) (effect : State → State) (h_effect : ∀ (z0 : State), (effect z0).sdram = z0.sdram) :
    (State.hubWrite s p off sem effect).sdram = s.sdram := by
  unfold State.hubWrite
  simp [h_effect]

@[simp] theorem hubWrite_keeps_fuse (s : State) (p : Port) (off : Nat) (sem : Option Nat) (effect : State → State) (h_effect : ∀ (z0 : State), (effect z0).fuse = z0.fuse) :
    (State.hubWrite s p off sem effect).fuse = s.fuse := by
  unfold State.hubWrite
  simp [h_effect]

@[simp] theorem hubWrite_keeps_sem (s : State) (p : Port) (off : Nat) (sem : Option Nat) (effect : State → State) (h_effect : ∀ (z0 : State), (effect z0).sem = z0.sem) :
    (State.hubWrite s p off sem effect).sem = s.sem := by
  unfold State.hubWrite
  simp [h_effect]

@[simp] theorem hubWrite_keeps_dom (s : State) (p : Port) (off : Nat) (sem : Option Nat) (effect : State → State) (h_effect : ∀ (z0 : State), (effect z0).dom = z0.dom) :
    (State.hubWrite s p off sem effect).dom = s.dom := by
  unfold State.hubWrite
  simp [h_effect]

@[simp] theorem hubWrite_keeps_time (s : State) (p : Port) (off : Nat) (sem : Option Nat) (effect : State → State) (h_effect : ∀ (z0 : State), (effect z0).time = z0.time) :
    (State.hubWrite s p off sem effect).time = s.time := by
  unfold State.hubWrite
  simp [h_effect]

@[simp] theorem hubWrite_keeps_kp (s : State) (p : Port) (off : Nat) (sem : Option Nat) (effect : State → State) (h_effect : ∀ (z0 : State), (effect z0).kp = z0.kp) :
    (State.hubWrite s p off sem effect).kp = s.kp := by
  unfold State.hubWrite
  simp [h_effect]

@[simp] theorem hubWrite_keeps_act (s : State) (p : Port) (off : Nat) (sem : Option Nat) (effect : State → State) (h_effect : ∀ (z0 : State), (effect z0).act = z0.act) :
    (State.hubWrite s p off sem effect).act = s.act := by
  unfold State.hubWrite
  simp [h_effect]

@[simp] theorem hubWrite_keeps_mirror (s : State) (p : Port) (off : Nat) (sem : Option Nat) (effect : State → State) (h_effect : ∀ (z0 : State), (effect z0).mirror = z0.mirror) :
    (State.hubWrite s p off sem effect).mirror = s.mirror := by
  unfold State.hubWrite
  simp [h_effect]

@[simp] theorem hubWrite_rising (s : State) (p : Port) (off : Nat) (sem : Option Nat) (effect : State → State) (hs : s.regs.rising = true) (h_effect : ∀ (z0 : State), z0.regs.rising = true → (effect z0).regs.rising = true) :
    (State.hubWrite s p off sem effect).regs.rising = true := by
  unfold State.hubWrite
  (repeat' split) <;> simp_all (maxDischargeDepth := 60)

@[simp] theorem mirrorUpdate_keeps (s : State) (group : Nat) (ws : List (Nat × Nat)) :
    (State.mirrorUpdate s group ws).pending = s.pending ∧ (State.mirrorUpdate s group ws).sdram = s.sdram ∧ (State.mirrorUpdate s group ws).fuse = s.fuse ∧ (State.mirrorUpdate s group ws).sem = s.sem ∧ (State.mirrorUpdate s group ws).dom = s.dom ∧ (State.mirrorUpdate s group ws).time = s.time ∧ (State.mirrorUpdate s group ws).kp = s.kp ∧ (State.mirrorUpdate s group ws).regs = s.regs ∧ (State.mirrorUpdate s group ws).act = s.act := by
  unfold State.mirrorUpdate
  simp

@[simp] theorem mirrorUpdate_mirrorWf (s : State) (group : Nat) (ws : List (Nat × Nat)) (hs : s.mirror.words.wf 0#32 = true) :
    (s.mirrorUpdate group ws).mirror.words.wf 0#32 = true := by
  have h : ∀ (ws : List (Nat × Nat)) (t : Tab Word), t.wf 0#32 = true →
      (ws.foldl (fun t (e : Nat × Nat) => Tab.put 0 t (16 * group + e.1) (BitVec.ofNat 32 e.2)) t).wf 0#32 = true := by
    intro ws
    induction ws with
    | nil => exact fun _ h => h
    | cons e es ih => exact fun t h => ih _ (Tab.wf_put h)
  exact Tab.wf_put (h ws _ hs)

@[simp] theorem draw_keeps (s : State) :
    (State.draw s).2.pending = s.pending ∧ (State.draw s).2.sdram = s.sdram ∧ (State.draw s).2.fuse = s.fuse ∧ (State.draw s).2.sem = s.sem ∧ (State.draw s).2.dom = s.dom ∧ (State.draw s).2.time = s.time ∧ (State.draw s).2.kp = s.kp ∧ (State.draw s).2.regs = s.regs ∧ (State.draw s).2.act = s.act ∧ (State.draw s).2.mirror = s.mirror := by
  unfold State.draw
  simp

end Sys2Proof.Machine.State
end

