-- ==== Sys2Proof/Laws/Fields.lean ====
section
/-! SUPPORT. What the shared operations do to register words and fields: a write to a field, an event, a refusal, a write
of a Control Port. One lemma for each says all of it, and later proofs cite it. -/

namespace Sys2Proof.Machine

namespace State

/-! ### A field that is written -/

/-- A word outside a field's register is left alone by a write to the field. -/
theorem get_set {d : Word} (s : State) (l : Loc) (v a : Nat) (h : ¬ l.covers a) :
    Tab.get d (s.set l v).regs a = Tab.get d s.regs a := by
  unfold Loc.covers at h
  simp only [set]
  split
  · exact Tab.get_put_ne _ _ _ _ (by omega)
  · exact (Tab.get_put_ne _ _ _ _ (by omega)).trans (Tab.get_put_ne _ _ _ _ (by omega))

/-- A field reads alike where its words do. -/
theorem f_of_words {s t : State} (l : Loc)
    (h : ∀ (d : Word) (a : Nat), l.covers a → Tab.get d t.regs a = Tab.get d s.regs a) : t.f l = s.f l := by
  unfold Loc.covers at h
  unfold f regVal word
  congr 1
  split
  · rw [h _ _ (.inl rfl)]
  · rw [h _ _ (.inl rfl), h _ (l.addr + 4) (.inr ⟨by omega, rfl⟩)]

/-- A write to a field leaves a field that lies apart from it alone. -/
theorem f_set_apart (s : State) (l m : Loc) (v : Nat) (h : l.apart m) :
    (s.set l v).f m = s.f m := by
  rcases h with h | ⟨ha, hb, hl, hm, hd⟩
  · exact f_set_ne s l m v h
  · exact f_set_beside s l m v ha hb hl hm hd

/-! ### Events -/

/-- A port's event state stays out of reset, or in it, when an event is raised for a port. -/
theorem raiseAt_evtReset (s : State) (p q : Port) (n : Nat) : ((s.raiseAt p n).port q).evtReset = (s.port q).evtReset := by
  unfold raiseAt
  cases p <;> cases q <;> (split <;> first | rfl | (dsimp only; split <;> rfl))

/-- An event touches no word outside the event blocks. -/
theorem get_raiseAt {d : Word} (s : State) (p : Port) (n a : Nat) (hn : n < 1024) (h : ¬ eventWord a) :
    Tab.get d (s.raiseAt p n).regs a = Tab.get d s.regs a := by
  unfold eventWord at h
  have hc : ¬ (EVT_CNT.count p.idx n).covers a := by
    unfold Loc.covers EVT_CNT.count
    cases p <;> simp only [Port.idx] <;> omega
  have hp : ¬ (EVT_PEND.reg p.idx (n / 32)).covers a := by
    unfold Loc.covers EVT_PEND.reg
    cases p <;> simp only [Port.idx] <;> omega
  have hs : ∀ (t : State) (x : PortSt), (t.setPort p x).regs = t.regs := by
    intro t x
    cases p <;> rfl
  unfold raiseAt
  split
  · rfl
  · dsimp only
    split
    · rw [hs, get_set _ _ _ _ hp, bump, addSat, get_set _ _ _ _ hc]
    · rw [bump, addSat, get_set _ _ _ _ hc]

/-- An event touches no word outside the event blocks. -/
theorem get_raise {d : Word} (s : State) (n a : Nat) (hn : n < 1024) (h : ¬ eventWord a) :
    Tab.get d (s.raise n).regs a = Tab.get d s.regs a := by
  unfold raise
  split
  · rfl
  · exact (get_raiseAt _ _ _ _ hn h).trans (get_raiseAt _ _ _ _ hn h)

/-- A field outside the event blocks reads alike after an event. -/
theorem f_raise (s : State) (n : Nat) (l : Loc) (hn : n < 1024) (h : ∀ a, l.covers a → ¬ eventWord a) :
    (s.raise n).f l = s.f l :=
  f_of_words l fun _ a ha => get_raise s n a hn (h a ha)

theorem raise_evtReset (s : State) (q : Port) (n : Nat) : ((s.raise n).port q).evtReset = (s.port q).evtReset := by
  unfold raise
  split
  · rfl
  · exact (raiseAt_evtReset _ _ _ _).trans (raiseAt_evtReset _ _ _ _)

/-- A port's count of an event goes up by one and stays at its greatest value (R69), where the port's event state is not
in reset (R73). -/
theorem count_raiseAt (s : State) (p : Port) (n : Nat) (hn : n < 1024)
    (he : (s.port p).evtReset = false) :
    (s.raiseAt p n).f (EVT_CNT.count p.idx n) = min 65535 (s.f (EVT_CNT.count p.idx n) + 1) := by
  have hs : ∀ (t : State) (x : PortSt) (l : Loc), (t.setPort p x).f l = t.f l := by
    intro t x l
    cases p <;> rfl
  have hb : (s.bump (EVT_CNT.count p.idx n)).f (EVT_CNT.count p.idx n) = min 65535 (s.f (EVT_CNT.count p.idx n) + 1) := by
    rw [bump, addSat, f_set_self _ _ _ (by show 0 + 16 ≤ 64; omega)]
    show min 65535 _ % 65536 = _
    rw [Nat.mod_eq_of_lt (by omega)]
  have ha : (EVT_PEND.reg p.idx (n / 32)).apart (EVT_CNT.count p.idx n) := by
    refine .inl ⟨?_, ?_, ?_⟩ <;> simp only [EVT_PEND.reg, EVT_CNT.count] <;> cases p <;> simp only [Port.idx] <;> omega
  unfold raiseAt
  rw [he]
  dsimp only [Bool.false_eq_true, if_false]
  rw [if_neg (by decide)]
  split
  · rw [hs, f_set_apart _ _ _ _ ha, hb]
  · exact hb

/-- An event for one port leaves the other port's fields, and the counts of other events, alone. -/
theorem f_raiseAt_other (s : State) (p q : Port) (n m : Nat) (hn : n < 1024) (hm : m < 1024) (h : p ≠ q ∨ n ≠ m) :
    (s.raiseAt p n).f (EVT_CNT.count q.idx m) = s.f (EVT_CNT.count q.idx m) := by
  refine f_of_words _ fun d a ha => ?_
  have hc : ¬ (EVT_CNT.count p.idx n).covers a := by
    unfold Loc.covers EVT_CNT.count at *
    cases p <;> cases q <;> simp only [Port.idx, ne_eq, reduceCtorEq, not_true_eq_false, not_false_eq_true, true_or, false_or] at * <;> omega
  have hp : ¬ (EVT_PEND.reg p.idx (n / 32)).covers a := by
    unfold Loc.covers EVT_PEND.reg EVT_CNT.count at *
    cases p <;> cases q <;> simp only [Port.idx] at * <;> omega
  have hs : ∀ (t : State) (x : PortSt), (t.setPort p x).regs = t.regs := by
    intro t x
    cases p <;> rfl
  unfold raiseAt
  split
  · rfl
  · dsimp only
    split
    · rw [hs, get_set _ _ _ _ hp, bump, addSat, get_set _ _ _ _ hc]
    · rw [bump, addSat, get_set _ _ _ _ hc]

/-! ### Writes of a Control Port -/

/-- R8, R60: a write that reaches its register has its effect. -/
theorem hubWrite_accepts {s : State} {p : Port} {off : Nat} {sem : Option Nat} (e : State → State)
    (h : s.accepts p off sem) : s.hubWrite p off sem e = e (s.complete .ok) := by
  obtain ⟨h1, h2⟩ := h
  have h1' : (s.complete .ok).reachable off = true := h1
  unfold hubWrite portWrite
  rw [h1']
  cases sem with
  | none => rfl
  | some n =>
    have h2' : (s.complete .ok).holder n = some (.cp p) := h2 n rfl
    simp [h2']

/-- R60: a write whose guard its port does not hold is refused, with no other effect. -/
theorem hubWrite_refused {s : State} {p : Port} {off n : Nat} (e : State → State) (h1 : s.reachable off = true)
    (h2 : s.holder n ≠ some (.cp p)) : s.hubWrite p off (some n) e = (s.complete .ok).refuse p off := by
  have h1' : (s.complete .ok).reachable off = true := h1
  have h2' : (s.complete .ok).holder n ≠ some (.cp p) := h2
  unfold hubWrite portWrite
  rw [h1']
  simp [h2']

/-- R2, R8, R13: a write that reaches nothing is completed, with no other effect. -/
theorem hubWrite_unreachable {s : State} {p : Port} {off : Nat} {sem : Option Nat} (e : State → State)
    (h : s.reachable off = false) : s.hubWrite p off sem e = s.complete .ok := by
  have h1 : (s.complete .ok).reachable off = false := h
  unfold hubWrite portWrite
  rw [h1]
  rfl

/-- R69, for both ports: an event that is raised is counted once. -/
theorem raised_raise (s : State) (n : Nat) (hn : n < 1024) : s.raised n (s.raise n) := by
  intro p he ha
  rw [raise, if_neg (by simp [ha])]
  cases p
  · rw [f_raiseAt_other _ .b .a _ _ hn hn (.inl (by decide))]
    exact count_raiseAt s .a n hn he
  · rw [count_raiseAt _ .b n hn (by rw [raiseAt_evtReset]; exact he),
      f_raiseAt_other _ .a .b _ _ hn hn (.inl (by decide))]

end State

end Sys2Proof.Machine
end

