-- ==== Sys2Proof/Laws/KeepIntegrity.lean ====
section
/-! SUPPORT. What the operations of Machine/Integrity.lean leave alone: memory, fuses, semaphores, domains, time, the queue. -/

namespace Sys2Proof.Machine.State

@[simp] theorem touch_keeps (s : State) (group : Nat) (minTicks : Nat) (content : State → List (Nat × Nat)) :
    (State.touch s group minTicks content).pending = s.pending ∧ (State.touch s group minTicks content).sdram = s.sdram ∧ (State.touch s group minTicks content).fuse = s.fuse ∧ (State.touch s group minTicks content).sem = s.sem ∧ (State.touch s group minTicks content).dom = s.dom ∧ (State.touch s group minTicks content).time = s.time ∧ (State.touch s group minTicks content).kp = s.kp ∧ (State.touch s group minTicks content).regs = s.regs ∧ (State.touch s group minTicks content).act = s.act := by
  unfold State.touch
  simp

@[simp] theorem touch_mirrorWf (s : State) (group : Nat) (minTicks : Nat) (content : State → List (Nat × Nat)) (hs : s.mirror.words.wf 0#32 = true) :
    (State.touch s group minTicks content).mirror.words.wf 0#32 = true := by
  unfold State.touch
  simp (maxDischargeDepth := 60) [hs]

@[simp] theorem ledgerAdd_keeps (s : State) (kind : Nat) (cause : Nat) (unit : Nat) (detail : Nat) :
    (State.ledgerAdd s kind cause unit detail).pending = s.pending ∧ (State.ledgerAdd s kind cause unit detail).sdram = s.sdram ∧ (State.ledgerAdd s kind cause unit detail).fuse = s.fuse ∧ (State.ledgerAdd s kind cause unit detail).sem = s.sem ∧ (State.ledgerAdd s kind cause unit detail).dom = s.dom ∧ (State.ledgerAdd s kind cause unit detail).time = s.time ∧ (State.ledgerAdd s kind cause unit detail).kp = s.kp ∧ (State.ledgerAdd s kind cause unit detail).regs = s.regs ∧ (State.ledgerAdd s kind cause unit detail).act = s.act ∧ (State.ledgerAdd s kind cause unit detail).mirror = s.mirror := by
  unfold State.ledgerAdd
  simp

@[simp] theorem marked_keeps (s : State) (kind : Nat) (cause : Nat) (unit : Nat) (detail : Nat) :
    (State.marked s kind cause unit detail).pending = s.pending ∧ (State.marked s kind cause unit detail).sdram = s.sdram ∧ (State.marked s kind cause unit detail).fuse = s.fuse ∧ (State.marked s kind cause unit detail).sem = s.sem ∧ (State.marked s kind cause unit detail).dom = s.dom ∧ (State.marked s kind cause unit detail).time = s.time ∧ (State.marked s kind cause unit detail).kp = s.kp ∧ (State.marked s kind cause unit detail).act = s.act ∧ (State.marked s kind cause unit detail).mirror = s.mirror := by
  unfold State.marked
  simp

@[simp] theorem marked_rising (s : State) (kind : Nat) (cause : Nat) (unit : Nat) (detail : Nat) (hs : s.regs.rising = true) :
    (State.marked s kind cause unit detail).regs.rising = true := by
  unfold State.marked
  simp (maxDischargeDepth := 60) [hs]

@[simp] theorem setTile_keeps (s : State) (t : Nat) (x : TileSt) :
    (State.setTile s t x).pending = s.pending ∧ (State.setTile s t x).sdram = s.sdram ∧ (State.setTile s t x).fuse = s.fuse ∧ (State.setTile s t x).sem = s.sem ∧ (State.setTile s t x).dom = s.dom ∧ (State.setTile s t x).time = s.time ∧ (State.setTile s t x).kp = s.kp ∧ (State.setTile s t x).regs = s.regs ∧ (State.setTile s t x).act = s.act ∧ (State.setTile s t x).mirror = s.mirror := by
  unfold State.setTile
  simp

@[simp] theorem markTile_keeps (s : State) (t : Nat) (cause : Nat) (detail : Nat) :
    (State.markTile s t cause detail).pending = s.pending ∧ (State.markTile s t cause detail).sdram = s.sdram ∧ (State.markTile s t cause detail).fuse = s.fuse ∧ (State.markTile s t cause detail).sem = s.sem ∧ (State.markTile s t cause detail).dom = s.dom ∧ (State.markTile s t cause detail).time = s.time ∧ (State.markTile s t cause detail).kp = s.kp ∧ (State.markTile s t cause detail).act = s.act ∧ (State.markTile s t cause detail).mirror = s.mirror := by
  unfold State.markTile
  simp

@[simp] theorem markTile_rising (s : State) (t : Nat) (cause : Nat) (detail : Nat) (hs : s.regs.rising = true) :
    (State.markTile s t cause detail).regs.rising = true := by
  unfold State.markTile
  simp (maxDischargeDepth := 60) [hs]

@[simp] theorem setWords_keeps (s : State) (y0 : Nat) (y1 : List Byte) (y2 : Nat) :
    (State.setWords s y0 y1 y2).pending = s.pending ∧ (State.setWords s y0 y1 y2).sdram = s.sdram ∧ (State.setWords s y0 y1 y2).fuse = s.fuse ∧ (State.setWords s y0 y1 y2).sem = s.sem ∧ (State.setWords s y0 y1 y2).dom = s.dom ∧ (State.setWords s y0 y1 y2).time = s.time ∧ (State.setWords s y0 y1 y2).kp = s.kp ∧ (State.setWords s y0 y1 y2).act = s.act ∧ (State.setWords s y0 y1 y2).mirror = s.mirror := by
  fun_induction State.setWords s y0 y1 y2; all_goals first
      | (simp_all +zetaDelta; done)
      | (simp only [*]; (try simp +zetaDelta only []); (repeat' split) <;> simp_all; done)

@[simp] theorem setWords_rising (s : State) (y0 : Nat) (y1 : List Byte) (y2 : Nat) (hs : s.regs.rising = true) :
    (State.setWords s y0 y1 y2).regs.rising = true := by
  fun_induction State.setWords s y0 y1 y2 <;> (simp_all (maxDischargeDepth := 60) +zetaDelta; done)

@[simp] theorem chkEntry_keeps (s : State) (index : Nat) (addr : Nat) (kind : Nat) (cls : Nat) (unit : Nat) (action : Nat) (path : Option Nat) :
    (State.chkEntry s index addr kind cls unit action path).pending = s.pending ∧ (State.chkEntry s index addr kind cls unit action path).sdram = s.sdram ∧ (State.chkEntry s index addr kind cls unit action path).fuse = s.fuse ∧ (State.chkEntry s index addr kind cls unit action path).sem = s.sem ∧ (State.chkEntry s index addr kind cls unit action path).dom = s.dom ∧ (State.chkEntry s index addr kind cls unit action path).time = s.time ∧ (State.chkEntry s index addr kind cls unit action path).kp = s.kp ∧ (State.chkEntry s index addr kind cls unit action path).act = s.act ∧ (State.chkEntry s index addr kind cls unit action path).mirror = s.mirror := by
  unfold State.chkEntry
  simp

@[simp] theorem chkEntry_rising (s : State) (index : Nat) (addr : Nat) (kind : Nat) (cls : Nat) (unit : Nat) (action : Nat) (path : Option Nat) (hs : s.regs.rising = true) :
    (State.chkEntry s index addr kind cls unit action path).regs.rising = true := by
  unfold State.chkEntry
  simp (maxDischargeDepth := 60) [hs]

@[simp] theorem markRow_keeps (s : State) (unit : Nat) (row : Nat) :
    (State.markRow s unit row).pending = s.pending ∧ (State.markRow s unit row).sdram = s.sdram ∧ (State.markRow s unit row).fuse = s.fuse ∧ (State.markRow s unit row).sem = s.sem ∧ (State.markRow s unit row).dom = s.dom ∧ (State.markRow s unit row).time = s.time ∧ (State.markRow s unit row).kp = s.kp ∧ (State.markRow s unit row).act = s.act ∧ (State.markRow s unit row).mirror = s.mirror := by
  unfold State.markRow
  simp

@[simp] theorem markRow_rising (s : State) (unit : Nat) (row : Nat) (hs : s.regs.rising = true) :
    (State.markRow s unit row).regs.rising = true := by
  unfold State.markRow
  simp (maxDischargeDepth := 60) [hs]

@[simp] theorem rowCorrected_keeps (s : State) (unit : Nat) (row : Nat) :
    (State.rowCorrected s unit row).pending = s.pending ∧ (State.rowCorrected s unit row).sdram = s.sdram ∧ (State.rowCorrected s unit row).fuse = s.fuse ∧ (State.rowCorrected s unit row).sem = s.sem ∧ (State.rowCorrected s unit row).dom = s.dom ∧ (State.rowCorrected s unit row).time = s.time ∧ (State.rowCorrected s unit row).kp = s.kp ∧ (State.rowCorrected s unit row).act = s.act ∧ (State.rowCorrected s unit row).mirror = s.mirror := by
  unfold State.rowCorrected
  simp

@[simp] theorem rowCorrected_rising (s : State) (unit : Nat) (row : Nat) (hs : s.regs.rising = true) :
    (State.rowCorrected s unit row).regs.rising = true := by
  unfold State.rowCorrected
  simp (maxDischargeDepth := 60) [hs]

@[simp] theorem rowFailed_keeps (s : State) (unit : Nat) (row : Nat) :
    (State.rowFailed s unit row).pending = s.pending ∧ (State.rowFailed s unit row).sdram = s.sdram ∧ (State.rowFailed s unit row).fuse = s.fuse ∧ (State.rowFailed s unit row).sem = s.sem ∧ (State.rowFailed s unit row).dom = s.dom ∧ (State.rowFailed s unit row).time = s.time ∧ (State.rowFailed s unit row).kp = s.kp ∧ (State.rowFailed s unit row).act = s.act ∧ (State.rowFailed s unit row).mirror = s.mirror := by
  unfold State.rowFailed
  simp

@[simp] theorem rowFailed_rising (s : State) (unit : Nat) (row : Nat) (hs : s.regs.rising = true) :
    (State.rowFailed s unit row).regs.rising = true := by
  unfold State.rowFailed
  simp (maxDischargeDepth := 60) [hs]

@[simp] theorem rowError_keeps (s : State) (failed : Bool) (row : Option (Nat × Nat)) :
    (State.rowError s failed row).pending = s.pending ∧ (State.rowError s failed row).sdram = s.sdram ∧ (State.rowError s failed row).fuse = s.fuse ∧ (State.rowError s failed row).sem = s.sem ∧ (State.rowError s failed row).dom = s.dom ∧ (State.rowError s failed row).time = s.time ∧ (State.rowError s failed row).kp = s.kp ∧ (State.rowError s failed row).act = s.act ∧ (State.rowError s failed row).mirror = s.mirror := by
  unfold State.rowError
  split <;> simp

@[simp] theorem rowError_rising (s : State) (failed : Bool) (row : Option (Nat × Nat)) (hs : s.regs.rising = true) :
    (State.rowError s failed row).regs.rising = true := by
  unfold State.rowError
  try dsimp only
  (repeat' split) <;> simp (maxDischargeDepth := 60) +contextual [hs]

@[simp] theorem chkFail_keeps (s : State) (index : Nat) (addr : Nat) (kind : Nat) (cls : Nat) (unit : Nat) (action : Nat) (path : Option Nat) :
    (State.chkFail s index addr kind cls unit action path).pending = s.pending ∧ (State.chkFail s index addr kind cls unit action path).sdram = s.sdram ∧ (State.chkFail s index addr kind cls unit action path).fuse = s.fuse ∧ (State.chkFail s index addr kind cls unit action path).sem = s.sem ∧ (State.chkFail s index addr kind cls unit action path).dom = s.dom ∧ (State.chkFail s index addr kind cls unit action path).time = s.time ∧ (State.chkFail s index addr kind cls unit action path).kp = s.kp ∧ (State.chkFail s index addr kind cls unit action path).act = s.act ∧ (State.chkFail s index addr kind cls unit action path).mirror = s.mirror := by
  unfold State.chkFail
  simp

@[simp] theorem chkFail_rising (s : State) (index : Nat) (addr : Nat) (kind : Nat) (cls : Nat) (unit : Nat) (action : Nat) (path : Option Nat) (hs : s.regs.rising = true) :
    (State.chkFail s index addr kind cls unit action path).regs.rising = true := by
  unfold State.chkFail
  simp (maxDischargeDepth := 60) [hs]

@[simp] theorem chkCorr_keeps (s : State) (addr : Nat) (kind : Nat) (cls : Nat) (unit : Nat) (action : Nat) (path : Option Nat) :
    (State.chkCorr s addr kind cls unit action path).pending = s.pending ∧ (State.chkCorr s addr kind cls unit action path).sdram = s.sdram ∧ (State.chkCorr s addr kind cls unit action path).fuse = s.fuse ∧ (State.chkCorr s addr kind cls unit action path).sem = s.sem ∧ (State.chkCorr s addr kind cls unit action path).dom = s.dom ∧ (State.chkCorr s addr kind cls unit action path).time = s.time ∧ (State.chkCorr s addr kind cls unit action path).kp = s.kp ∧ (State.chkCorr s addr kind cls unit action path).act = s.act ∧ (State.chkCorr s addr kind cls unit action path).mirror = s.mirror := by
  unfold State.chkCorr
  simp

@[simp] theorem chkCorr_rising (s : State) (addr : Nat) (kind : Nat) (cls : Nat) (unit : Nat) (action : Nat) (path : Option Nat) (hs : s.regs.rising = true) :
    (State.chkCorr s addr kind cls unit action path).regs.rising = true := by
  unfold State.chkCorr
  simp (maxDischargeDepth := 60) [hs]

@[simp] theorem sparesLow_keeps (s : State) (n : Nat) :
    (State.sparesLow s n).pending = s.pending ∧ (State.sparesLow s n).sdram = s.sdram ∧ (State.sparesLow s n).fuse = s.fuse ∧ (State.sparesLow s n).sem = s.sem ∧ (State.sparesLow s n).dom = s.dom ∧ (State.sparesLow s n).time = s.time ∧ (State.sparesLow s n).kp = s.kp ∧ (State.sparesLow s n).act = s.act ∧ (State.sparesLow s n).mirror = s.mirror := by
  unfold State.sparesLow
  simp

@[simp] theorem sparesLow_rising (s : State) (n : Nat) (hs : s.regs.rising = true) :
    (State.sparesLow s n).regs.rising = true := by
  unfold State.sparesLow
  simp (maxDischargeDepth := 60) [hs]

@[simp] theorem markLane_keeps (s : State) (lane : Nat) (cause : Nat) :
    (State.markLane s lane cause).pending = s.pending ∧ (State.markLane s lane cause).sdram = s.sdram ∧ (State.markLane s lane cause).fuse = s.fuse ∧ (State.markLane s lane cause).sem = s.sem ∧ (State.markLane s lane cause).dom = s.dom ∧ (State.markLane s lane cause).time = s.time ∧ (State.markLane s lane cause).kp = s.kp ∧ (State.markLane s lane cause).act = s.act ∧ (State.markLane s lane cause).mirror = s.mirror := by
  unfold State.markLane
  simp

@[simp] theorem markLane_rising (s : State) (lane : Nat) (cause : Nat) (hs : s.regs.rising = true) :
    (State.markLane s lane cause).regs.rising = true := by
  unfold State.markLane
  simp (maxDischargeDepth := 60) [hs]

@[simp] theorem laneResend_keeps (s : State) (lane : Nat) :
    (State.laneResend s lane).pending = s.pending ∧ (State.laneResend s lane).sdram = s.sdram ∧ (State.laneResend s lane).fuse = s.fuse ∧ (State.laneResend s lane).sem = s.sem ∧ (State.laneResend s lane).dom = s.dom ∧ (State.laneResend s lane).time = s.time ∧ (State.laneResend s lane).kp = s.kp ∧ (State.laneResend s lane).act = s.act ∧ (State.laneResend s lane).mirror = s.mirror := by
  unfold State.laneResend
  simp

@[simp] theorem laneResend_rising (s : State) (lane : Nat) (hs : s.regs.rising = true) :
    (State.laneResend s lane).regs.rising = true := by
  unfold State.laneResend
  simp (maxDischargeDepth := 60) [hs]

end Sys2Proof.Machine.State
end

