-- ==== Sys2Proof/Laws/KeepFabric.lean ====
section
/-! SUPPORT. What the operations of Machine/Fabric.lean leave alone: memory, fuses, semaphores, domains, time, the queue. -/

namespace Sys2Proof.Machine.State

@[simp] theorem setRunning_keeps (s : State) (p : Nat) (b : Bool) :
    (State.setRunning s p b).pending = s.pending ∧ (State.setRunning s p b).sdram = s.sdram ∧ (State.setRunning s p b).fuse = s.fuse ∧ (State.setRunning s p b).sem = s.sem ∧ (State.setRunning s p b).dom = s.dom ∧ (State.setRunning s p b).time = s.time ∧ (State.setRunning s p b).kp = s.kp ∧ (State.setRunning s p b).act = s.act ∧ (State.setRunning s p b).mirror = s.mirror := by
  unfold State.setRunning
  simp

@[simp] theorem setRunning_rising (s : State) (p : Nat) (b : Bool) (hs : s.regs.rising = true) :
    (State.setRunning s p b).regs.rising = true := by
  unfold State.setRunning
  simp (maxDischargeDepth := 60) [hs]

@[simp] theorem setPath_keeps (s : State) (p : Nat) (x : PathSt) :
    (State.setPath s p x).pending = s.pending ∧ (State.setPath s p x).sdram = s.sdram ∧ (State.setPath s p x).fuse = s.fuse ∧ (State.setPath s p x).sem = s.sem ∧ (State.setPath s p x).dom = s.dom ∧ (State.setPath s p x).time = s.time ∧ (State.setPath s p x).kp = s.kp ∧ (State.setPath s p x).regs = s.regs ∧ (State.setPath s p x).act = s.act ∧ (State.setPath s p x).mirror = s.mirror := by
  unfold State.setPath
  simp

@[simp] theorem setRegion_keeps (s : State) (r : Nat) (x : RegionSt) :
    (State.setRegion s r x).pending = s.pending ∧ (State.setRegion s r x).sdram = s.sdram ∧ (State.setRegion s r x).fuse = s.fuse ∧ (State.setRegion s r x).sem = s.sem ∧ (State.setRegion s r x).dom = s.dom ∧ (State.setRegion s r x).time = s.time ∧ (State.setRegion s r x).kp = s.kp ∧ (State.setRegion s r x).regs = s.regs ∧ (State.setRegion s r x).act = s.act ∧ (State.setRegion s r x).mirror = s.mirror := by
  unfold State.setRegion
  simp

@[simp] theorem memWrite_keeps (s : State) (a : Nat) (b : List Byte) :
    (State.memWrite s a b).pending = s.pending ∧ (State.memWrite s a b).fuse = s.fuse ∧ (State.memWrite s a b).sem = s.sem ∧ (State.memWrite s a b).dom = s.dom ∧ (State.memWrite s a b).time = s.time ∧ (State.memWrite s a b).kp = s.kp ∧ (State.memWrite s a b).regs = s.regs ∧ (State.memWrite s a b).act = s.act ∧ (State.memWrite s a b).mirror = s.mirror := by
  unfold State.memWrite
  simp

@[simp] theorem memWrite_sdramWf (s : State) (a : Nat) (b : List Byte) (hs : s.sdram.wf 0#8 = true) :
    (s.memWrite a b).sdram.wf 0#8 = true := Tab.wf_putMany b hs

@[simp] theorem memFail_keeps (s : State) (a : Nat) (action : Nat) (path : Option Nat) :
    (State.memFail s a action path).pending = s.pending ∧ (State.memFail s a action path).sdram = s.sdram ∧ (State.memFail s a action path).fuse = s.fuse ∧ (State.memFail s a action path).sem = s.sem ∧ (State.memFail s a action path).dom = s.dom ∧ (State.memFail s a action path).time = s.time ∧ (State.memFail s a action path).kp = s.kp ∧ (State.memFail s a action path).act = s.act ∧ (State.memFail s a action path).mirror = s.mirror := by
  unfold State.memFail
  simp

@[simp] theorem memFail_rising (s : State) (a : Nat) (action : Nat) (path : Option Nat) (hs : s.regs.rising = true) :
    (State.memFail s a action path).regs.rising = true := by
  unfold State.memFail
  simp (maxDischargeDepth := 60) [hs]

@[simp] theorem memCorrected_keeps (s : State) (sub : Nat) (bitPos : Nat) (addr : Nat) :
    (State.memCorrected s sub bitPos addr).pending = s.pending ∧ (State.memCorrected s sub bitPos addr).sdram = s.sdram ∧ (State.memCorrected s sub bitPos addr).fuse = s.fuse ∧ (State.memCorrected s sub bitPos addr).sem = s.sem ∧ (State.memCorrected s sub bitPos addr).dom = s.dom ∧ (State.memCorrected s sub bitPos addr).time = s.time ∧ (State.memCorrected s sub bitPos addr).kp = s.kp ∧ (State.memCorrected s sub bitPos addr).act = s.act ∧ (State.memCorrected s sub bitPos addr).mirror = s.mirror := by
  unfold State.memCorrected
  simp

@[simp] theorem memCorrected_rising (s : State) (sub : Nat) (bitPos : Nat) (addr : Nat) (hs : s.regs.rising = true) :
    (State.memCorrected s sub bitPos addr).regs.rising = true := by
  unfold State.memCorrected
  simp (maxDischargeDepth := 60) [hs]

@[simp] theorem memFixed_keeps (s : State) (a : Nat) (half : Nat) (bitPos : Nat) :
    (State.memFixed s a half bitPos).pending = s.pending ∧ (State.memFixed s a half bitPos).sdram = s.sdram ∧ (State.memFixed s a half bitPos).fuse = s.fuse ∧ (State.memFixed s a half bitPos).sem = s.sem ∧ (State.memFixed s a half bitPos).dom = s.dom ∧ (State.memFixed s a half bitPos).time = s.time ∧ (State.memFixed s a half bitPos).kp = s.kp ∧ (State.memFixed s a half bitPos).act = s.act ∧ (State.memFixed s a half bitPos).mirror = s.mirror := by
  unfold State.memFixed
  simp

@[simp] theorem memFixed_rising (s : State) (a : Nat) (half : Nat) (bitPos : Nat) (hs : s.regs.rising = true) :
    (State.memFixed s a half bitPos).regs.rising = true := by
  unfold State.memFixed
  simp (maxDischargeDepth := 60) [hs]

@[simp] theorem memEcc_keeps (s : State) (a : Nat) (ecc : Ecc) (action : Nat) (path : Option Nat) :
    (State.memEcc s a ecc action path).pending = s.pending ∧ (State.memEcc s a ecc action path).sdram = s.sdram ∧ (State.memEcc s a ecc action path).fuse = s.fuse ∧ (State.memEcc s a ecc action path).sem = s.sem ∧ (State.memEcc s a ecc action path).dom = s.dom ∧ (State.memEcc s a ecc action path).time = s.time ∧ (State.memEcc s a ecc action path).kp = s.kp ∧ (State.memEcc s a ecc action path).act = s.act ∧ (State.memEcc s a ecc action path).mirror = s.mirror := by
  unfold State.memEcc
  try dsimp only
  (repeat' split) <;> simp

@[simp] theorem memEcc_rising (s : State) (a : Nat) (ecc : Ecc) (action : Nat) (path : Option Nat) (hs : s.regs.rising = true) :
    (State.memEcc s a ecc action path).regs.rising = true := by
  unfold State.memEcc
  try dsimp only
  (repeat' split) <;> simp (maxDischargeDepth := 60) [hs]

@[simp] theorem fabricTouch_keeps (s : State) :
    (State.fabricTouch s).pending = s.pending ∧ (State.fabricTouch s).sdram = s.sdram ∧ (State.fabricTouch s).fuse = s.fuse ∧ (State.fabricTouch s).sem = s.sem ∧ (State.fabricTouch s).dom = s.dom ∧ (State.fabricTouch s).time = s.time ∧ (State.fabricTouch s).kp = s.kp ∧ (State.fabricTouch s).regs = s.regs ∧ (State.fabricTouch s).act = s.act := by
  unfold State.fabricTouch
  simp

@[simp] theorem fabricTouch_mirrorWf (s : State) (hs : s.mirror.words.wf 0#32 = true) :
    (State.fabricTouch s).mirror.words.wf 0#32 = true := by
  unfold State.fabricTouch
  simp (maxDischargeDepth := 60) [hs]

@[simp] theorem avsAsk_keeps (s : State) (mv : Nat) :
    (State.avsAsk s mv).pending = s.pending ∧ (State.avsAsk s mv).sdram = s.sdram ∧ (State.avsAsk s mv).fuse = s.fuse ∧ (State.avsAsk s mv).sem = s.sem ∧ (State.avsAsk s mv).dom = s.dom ∧ (State.avsAsk s mv).time = s.time ∧ (State.avsAsk s mv).kp = s.kp ∧ (State.avsAsk s mv).act = s.act := by
  unfold State.avsAsk
  try dsimp only
  (repeat' split) <;> simp

@[simp] theorem avsAsk_rising (s : State) (mv : Nat) (hs : s.regs.rising = true) :
    (State.avsAsk s mv).regs.rising = true := by
  unfold State.avsAsk
  try dsimp only
  (repeat' split) <;> simp (maxDischargeDepth := 60) [hs]

@[simp] theorem avsAsk_mirrorWf (s : State) (mv : Nat) (hs : s.mirror.words.wf 0#32 = true) :
    (State.avsAsk s mv).mirror.words.wf 0#32 = true := by
  unfold State.avsAsk
  try dsimp only
  (repeat' split) <;> simp (maxDischargeDepth := 60) [hs]

@[simp] theorem avsRequest_keeps (s : State) (mv : Nat) :
    (State.avsRequest s mv).pending = s.pending ∧ (State.avsRequest s mv).sdram = s.sdram ∧ (State.avsRequest s mv).fuse = s.fuse ∧ (State.avsRequest s mv).sem = s.sem ∧ (State.avsRequest s mv).dom = s.dom ∧ (State.avsRequest s mv).time = s.time ∧ (State.avsRequest s mv).kp = s.kp ∧ (State.avsRequest s mv).act = s.act := by
  unfold State.avsRequest
  simp

@[simp] theorem avsRequest_rising (s : State) (mv : Nat) (hs : s.regs.rising = true) :
    (State.avsRequest s mv).regs.rising = true := by
  unfold State.avsRequest
  simp (maxDischargeDepth := 60) [hs]

@[simp] theorem avsRequest_mirrorWf (s : State) (mv : Nat) (hs : s.mirror.words.wf 0#32 = true) :
    (State.avsRequest s mv).mirror.words.wf 0#32 = true := by
  unfold State.avsRequest
  simp (maxDischargeDepth := 60) [hs]

@[simp] theorem avsRaise_keeps (s : State) (mv : Nat) :
    (State.avsRaise s mv).pending = s.pending ∧ (State.avsRaise s mv).sdram = s.sdram ∧ (State.avsRaise s mv).fuse = s.fuse ∧ (State.avsRaise s mv).sem = s.sem ∧ (State.avsRaise s mv).dom = s.dom ∧ (State.avsRaise s mv).time = s.time ∧ (State.avsRaise s mv).kp = s.kp ∧ (State.avsRaise s mv).act = s.act := by
  unfold State.avsRaise
  simp

@[simp] theorem avsRaise_rising (s : State) (mv : Nat) (hs : s.regs.rising = true) :
    (State.avsRaise s mv).regs.rising = true := by
  unfold State.avsRaise
  simp (maxDischargeDepth := 60) [hs]

@[simp] theorem avsRaise_mirrorWf (s : State) (mv : Nat) (hs : s.mirror.words.wf 0#32 = true) :
    (State.avsRaise s mv).mirror.words.wf 0#32 = true := by
  unfold State.avsRaise
  simp (maxDischargeDepth := 60) [hs]

@[simp] theorem avsLower_keeps (s : State) (mv : Nat) :
    (State.avsLower s mv).pending = s.pending ∧ (State.avsLower s mv).sdram = s.sdram ∧ (State.avsLower s mv).fuse = s.fuse ∧ (State.avsLower s mv).sem = s.sem ∧ (State.avsLower s mv).dom = s.dom ∧ (State.avsLower s mv).time = s.time ∧ (State.avsLower s mv).kp = s.kp ∧ (State.avsLower s mv).act = s.act := by
  unfold State.avsLower
  simp

@[simp] theorem avsLower_rising (s : State) (mv : Nat) (hs : s.regs.rising = true) :
    (State.avsLower s mv).regs.rising = true := by
  unfold State.avsLower
  simp (maxDischargeDepth := 60) [hs]

@[simp] theorem avsLower_mirrorWf (s : State) (mv : Nat) (hs : s.mirror.words.wf 0#32 = true) :
    (State.avsLower s mv).mirror.words.wf 0#32 = true := by
  unfold State.avsLower
  simp (maxDischargeDepth := 60) [hs]

@[simp] theorem gapShow_keeps (s : State) (p : Nat) :
    (State.gapShow s p).pending = s.pending ∧ (State.gapShow s p).sdram = s.sdram ∧ (State.gapShow s p).fuse = s.fuse ∧ (State.gapShow s p).sem = s.sem ∧ (State.gapShow s p).dom = s.dom ∧ (State.gapShow s p).time = s.time ∧ (State.gapShow s p).kp = s.kp ∧ (State.gapShow s p).act = s.act ∧ (State.gapShow s p).mirror = s.mirror := by
  unfold State.gapShow
  try dsimp only
  (repeat' split) <;> simp

@[simp] theorem gapShow_rising (s : State) (p : Nat) (hs : s.regs.rising = true) :
    (State.gapShow s p).regs.rising = true := by
  unfold State.gapShow
  try dsimp only
  (repeat' split) <;> simp (maxDischargeDepth := 60) [hs]

@[simp] theorem openGap_keeps (s : State) (p : Nat) (g : Gap) :
    (State.openGap s p g).pending = s.pending ∧ (State.openGap s p g).sdram = s.sdram ∧ (State.openGap s p g).fuse = s.fuse ∧ (State.openGap s p g).sem = s.sem ∧ (State.openGap s p g).dom = s.dom ∧ (State.openGap s p g).time = s.time ∧ (State.openGap s p g).kp = s.kp ∧ (State.openGap s p g).act = s.act ∧ (State.openGap s p g).mirror = s.mirror := by
  unfold State.openGap
  simp

@[simp] theorem openGap_rising (s : State) (p : Nat) (g : Gap) (hs : s.regs.rising = true) :
    (State.openGap s p g).regs.rising = true := by
  unfold State.openGap
  simp (maxDischargeDepth := 60) [hs]

@[simp] theorem growGaps_keeps (s : State) (p mask stop : Nat) :
    (State.growGaps s p mask stop).pending = s.pending ∧ (State.growGaps s p mask stop).sdram = s.sdram ∧ (State.growGaps s p mask stop).fuse = s.fuse ∧ (State.growGaps s p mask stop).sem = s.sem ∧ (State.growGaps s p mask stop).dom = s.dom ∧ (State.growGaps s p mask stop).time = s.time ∧ (State.growGaps s p mask stop).kp = s.kp ∧ (State.growGaps s p mask stop).act = s.act ∧ (State.growGaps s p mask stop).mirror = s.mirror := by
  unfold State.growGaps
  simp

@[simp] theorem growGaps_rising (s : State) (p mask stop : Nat) (hs : s.regs.rising = true) :
    (State.growGaps s p mask stop).regs.rising = true := by
  unfold State.growGaps
  simp (maxDischargeDepth := 60) +contextual [hs]

@[simp] theorem endGaps_keeps (s : State) (p : Nat) (mask : Nat) :
    (State.endGaps s p mask).pending = s.pending ∧ (State.endGaps s p mask).sdram = s.sdram ∧ (State.endGaps s p mask).fuse = s.fuse ∧ (State.endGaps s p mask).sem = s.sem ∧ (State.endGaps s p mask).dom = s.dom ∧ (State.endGaps s p mask).time = s.time ∧ (State.endGaps s p mask).kp = s.kp ∧ (State.endGaps s p mask).regs = s.regs ∧ (State.endGaps s p mask).act = s.act ∧ (State.endGaps s p mask).mirror = s.mirror := by
  unfold State.endGaps
  simp

@[simp] theorem emitGap_keeps (s : State) (p : Nat) (g : Gap) :
    (State.emitGap s p g).pending = s.pending ∧ (State.emitGap s p g).sdram = s.sdram ∧ (State.emitGap s p g).fuse = s.fuse ∧ (State.emitGap s p g).sem = s.sem ∧ (State.emitGap s p g).dom = s.dom ∧ (State.emitGap s p g).time = s.time ∧ (State.emitGap s p g).kp = s.kp ∧ (State.emitGap s p g).act = s.act := by
  unfold State.emitGap
  simp

@[simp] theorem emitGap_rising (s : State) (p : Nat) (g : Gap) (hs : s.regs.rising = true) :
    (State.emitGap s p g).regs.rising = true := by
  unfold State.emitGap
  simp (maxDischargeDepth := 60) [hs]

@[simp] theorem emitGap_mirrorWf (s : State) (p : Nat) (g : Gap) (hs : s.mirror.words.wf 0#32 = true) :
    (State.emitGap s p g).mirror.words.wf 0#32 = true := by
  unfold State.emitGap
  simp (maxDischargeDepth := 60) [hs]

@[simp] theorem emitGaps_keeps (s : State) (p : Nat) (y0 : List Gap) :
    (State.emitGaps s p y0).pending = s.pending ∧ (State.emitGaps s p y0).sdram = s.sdram ∧ (State.emitGaps s p y0).fuse = s.fuse ∧ (State.emitGaps s p y0).sem = s.sem ∧ (State.emitGaps s p y0).dom = s.dom ∧ (State.emitGaps s p y0).time = s.time ∧ (State.emitGaps s p y0).kp = s.kp ∧ (State.emitGaps s p y0).act = s.act := by
  fun_induction State.emitGaps s p y0; all_goals first
      | (simp_all +zetaDelta; done)
      | (simp only [*]; (try simp +zetaDelta only []); (repeat' split) <;> simp_all; done)

@[simp] theorem emitGaps_rising (s : State) (p : Nat) (y0 : List Gap) (hs : s.regs.rising = true) :
    (State.emitGaps s p y0).regs.rising = true := by
  fun_induction State.emitGaps s p y0 <;> (simp_all (maxDischargeDepth := 60) +zetaDelta; done)

@[simp] theorem emitGaps_mirrorWf (s : State) (p : Nat) (y0 : List Gap) (hs : s.mirror.words.wf 0#32 = true) :
    (State.emitGaps s p y0).mirror.words.wf 0#32 = true := by
  fun_induction State.emitGaps s p y0 <;> (simp_all (maxDischargeDepth := 60) +zetaDelta; done)

@[simp] theorem closeGaps_keeps (s : State) (p : Nat) (seq : Nat) (stream : Nat) :
    (State.closeGaps s p seq stream).pending = s.pending ∧ (State.closeGaps s p seq stream).sdram = s.sdram ∧ (State.closeGaps s p seq stream).fuse = s.fuse ∧ (State.closeGaps s p seq stream).sem = s.sem ∧ (State.closeGaps s p seq stream).dom = s.dom ∧ (State.closeGaps s p seq stream).time = s.time ∧ (State.closeGaps s p seq stream).kp = s.kp ∧ (State.closeGaps s p seq stream).act = s.act := by
  unfold State.closeGaps
  simp

@[simp] theorem closeGaps_rising (s : State) (p : Nat) (seq : Nat) (stream : Nat) (hs : s.regs.rising = true) :
    (State.closeGaps s p seq stream).regs.rising = true := by
  unfold State.closeGaps
  simp (maxDischargeDepth := 60) [hs]

@[simp] theorem closeGaps_mirrorWf (s : State) (p : Nat) (seq : Nat) (stream : Nat) (hs : s.mirror.words.wf 0#32 = true) :
    (State.closeGaps s p seq stream).mirror.words.wf 0#32 = true := by
  unfold State.closeGaps
  simp (maxDischargeDepth := 60) [hs]

@[simp] theorem closeAllGaps_keeps (s : State) (p : Nat) :
    (State.closeAllGaps s p).pending = s.pending ∧ (State.closeAllGaps s p).sdram = s.sdram ∧ (State.closeAllGaps s p).fuse = s.fuse ∧ (State.closeAllGaps s p).sem = s.sem ∧ (State.closeAllGaps s p).dom = s.dom ∧ (State.closeAllGaps s p).time = s.time ∧ (State.closeAllGaps s p).kp = s.kp ∧ (State.closeAllGaps s p).act = s.act := by
  unfold State.closeAllGaps
  simp

@[simp] theorem closeAllGaps_rising (s : State) (p : Nat) (hs : s.regs.rising = true) :
    (State.closeAllGaps s p).regs.rising = true := by
  unfold State.closeAllGaps
  simp (maxDischargeDepth := 60) [hs]

@[simp] theorem closeAllGaps_mirrorWf (s : State) (p : Nat) (hs : s.mirror.words.wf 0#32 = true) :
    (State.closeAllGaps s p).mirror.words.wf 0#32 = true := by
  unfold State.closeAllGaps
  simp (maxDischargeDepth := 60) [hs]

@[simp] theorem productGap_keeps (s : State) (p : Nat) (seq : Nat) (stop : Nat) (tick : Nat) (phase : Nat) (reason : Nat) (stream : Nat) :
    (State.productGap s p seq stop tick phase reason stream).pending = s.pending ∧ (State.productGap s p seq stop tick phase reason stream).sdram = s.sdram ∧ (State.productGap s p seq stop tick phase reason stream).fuse = s.fuse ∧ (State.productGap s p seq stop tick phase reason stream).sem = s.sem ∧ (State.productGap s p seq stop tick phase reason stream).dom = s.dom ∧ (State.productGap s p seq stop tick phase reason stream).time = s.time ∧ (State.productGap s p seq stop tick phase reason stream).kp = s.kp ∧ (State.productGap s p seq stop tick phase reason stream).act = s.act ∧ (State.productGap s p seq stop tick phase reason stream).mirror = s.mirror := by
  unfold State.productGap
  simp

@[simp] theorem productGap_rising (s : State) (p : Nat) (seq : Nat) (stop : Nat) (tick : Nat) (phase : Nat) (reason : Nat) (stream : Nat) (hs : s.regs.rising = true) :
    (State.productGap s p seq stop tick phase reason stream).regs.rising = true := by
  unfold State.productGap
  simp (maxDischargeDepth := 60) [hs]

@[simp] theorem blockGap_keeps (s : State) (p : Nat) (x : Parcel) (reason : Nat) :
    (State.blockGap s p x reason).pending = s.pending ∧ (State.blockGap s p x reason).sdram = s.sdram ∧ (State.blockGap s p x reason).fuse = s.fuse ∧ (State.blockGap s p x reason).sem = s.sem ∧ (State.blockGap s p x reason).dom = s.dom ∧ (State.blockGap s p x reason).time = s.time ∧ (State.blockGap s p x reason).kp = s.kp ∧ (State.blockGap s p x reason).act = s.act ∧ (State.blockGap s p x reason).mirror = s.mirror := by
  unfold State.blockGap
  simp

@[simp] theorem blockGap_rising (s : State) (p : Nat) (x : Parcel) (reason : Nat) (hs : s.regs.rising = true) :
    (State.blockGap s p x reason).regs.rising = true := by
  unfold State.blockGap
  simp (maxDischargeDepth := 60) [hs]

@[simp] theorem ebShow_keeps (s : State) (p : Nat) :
    (State.ebShow s p).pending = s.pending ∧ (State.ebShow s p).sdram = s.sdram ∧ (State.ebShow s p).fuse = s.fuse ∧ (State.ebShow s p).sem = s.sem ∧ (State.ebShow s p).dom = s.dom ∧ (State.ebShow s p).time = s.time ∧ (State.ebShow s p).kp = s.kp ∧ (State.ebShow s p).act = s.act := by
  unfold State.ebShow
  simp

@[simp] theorem ebShow_rising (s : State) (p : Nat) (hs : s.regs.rising = true) :
    (State.ebShow s p).regs.rising = true := by
  unfold State.ebShow
  simp (maxDischargeDepth := 60) [hs]

@[simp] theorem ebShow_mirrorWf (s : State) (p : Nat) (hs : s.mirror.words.wf 0#32 = true) :
    (State.ebShow s p).mirror.words.wf 0#32 = true := by
  unfold State.ebShow
  simp (maxDischargeDepth := 60) [hs]

@[simp] theorem ebDrop_keeps (s : State) (p : Nat) (x : Parcel) :
    (State.ebDrop s p x).pending = s.pending ∧ (State.ebDrop s p x).sdram = s.sdram ∧ (State.ebDrop s p x).fuse = s.fuse ∧ (State.ebDrop s p x).sem = s.sem ∧ (State.ebDrop s p x).dom = s.dom ∧ (State.ebDrop s p x).time = s.time ∧ (State.ebDrop s p x).kp = s.kp ∧ (State.ebDrop s p x).act = s.act ∧ (State.ebDrop s p x).mirror = s.mirror := by
  unfold State.ebDrop
  simp

@[simp] theorem ebDrop_rising (s : State) (p : Nat) (x : Parcel) (hs : s.regs.rising = true) :
    (State.ebDrop s p x).regs.rising = true := by
  unfold State.ebDrop
  simp (maxDischargeDepth := 60) [hs]

@[simp] theorem ebStore_keeps (s : State) (p : Nat) (x : Parcel) :
    (State.ebStore s p x).pending = s.pending ∧ (State.ebStore s p x).sdram = s.sdram ∧ (State.ebStore s p x).fuse = s.fuse ∧ (State.ebStore s p x).sem = s.sem ∧ (State.ebStore s p x).dom = s.dom ∧ (State.ebStore s p x).time = s.time ∧ (State.ebStore s p x).kp = s.kp ∧ (State.ebStore s p x).act = s.act := by
  unfold State.ebStore
  simp

@[simp] theorem ebStore_rising (s : State) (p : Nat) (x : Parcel) (hs : s.regs.rising = true) :
    (State.ebStore s p x).regs.rising = true := by
  unfold State.ebStore
  simp (maxDischargeDepth := 60) [hs]

@[simp] theorem ebStore_mirrorWf (s : State) (p : Nat) (x : Parcel) (hs : s.mirror.words.wf 0#32 = true) :
    (State.ebStore s p x).mirror.words.wf 0#32 = true := by
  unfold State.ebStore
  simp (maxDischargeDepth := 60) [hs]

@[simp] theorem ebArrive_keeps (s : State) (p : Nat) (x : Parcel) :
    (State.ebArrive s p x).pending = s.pending ∧ (State.ebArrive s p x).sdram = s.sdram ∧ (State.ebArrive s p x).fuse = s.fuse ∧ (State.ebArrive s p x).sem = s.sem ∧ (State.ebArrive s p x).dom = s.dom ∧ (State.ebArrive s p x).time = s.time ∧ (State.ebArrive s p x).kp = s.kp ∧ (State.ebArrive s p x).act = s.act := by
  unfold State.ebArrive
  simp

@[simp] theorem ebArrive_rising (s : State) (p : Nat) (x : Parcel) (hs : s.regs.rising = true) :
    (State.ebArrive s p x).regs.rising = true := by
  unfold State.ebArrive
  simp (maxDischargeDepth := 60) [hs]

@[simp] theorem ebArrive_mirrorWf (s : State) (p : Nat) (x : Parcel) (hs : s.mirror.words.wf 0#32 = true) :
    (State.ebArrive s p x).mirror.words.wf 0#32 = true := by
  unfold State.ebArrive
  simp (maxDischargeDepth := 60) [hs]

@[simp] theorem slotAdd_keeps (s : State) (p : Nat) (y : Slot) :
    (State.slotAdd s p y).pending = s.pending ∧ (State.slotAdd s p y).sdram = s.sdram ∧ (State.slotAdd s p y).fuse = s.fuse ∧ (State.slotAdd s p y).sem = s.sem ∧ (State.slotAdd s p y).dom = s.dom ∧ (State.slotAdd s p y).time = s.time ∧ (State.slotAdd s p y).kp = s.kp ∧ (State.slotAdd s p y).regs = s.regs ∧ (State.slotAdd s p y).act = s.act ∧ (State.slotAdd s p y).mirror = s.mirror := by
  unfold State.slotAdd
  simp

@[simp] theorem slotPut_keeps (s : State) (p last key : Nat) (x : Parcel) :
    (State.slotPut s p last key x).pending = s.pending ∧ (State.slotPut s p last key x).sdram = s.sdram ∧ (State.slotPut s p last key x).fuse = s.fuse ∧ (State.slotPut s p last key x).sem = s.sem ∧ (State.slotPut s p last key x).dom = s.dom ∧ (State.slotPut s p last key x).time = s.time ∧ (State.slotPut s p last key x).kp = s.kp ∧ (State.slotPut s p last key x).act = s.act ∧ (State.slotPut s p last key x).mirror = s.mirror := by
  unfold State.slotPut
  simp

@[simp] theorem slotPut_rising (s : State) (p last key : Nat) (x : Parcel) (hs : s.regs.rising = true) :
    (State.slotPut s p last key x).regs.rising = true := by
  unfold State.slotPut
  simp (maxDischargeDepth := 60) +contextual [hs]

@[simp] theorem deliver_keeps (s : State) (p last key : Nat) (x : Parcel) :
    (State.deliver s p last key x).pending = s.pending ∧ (State.deliver s p last key x).sdram = s.sdram ∧ (State.deliver s p last key x).fuse = s.fuse ∧ (State.deliver s p last key x).sem = s.sem ∧ (State.deliver s p last key x).dom = s.dom ∧ (State.deliver s p last key x).time = s.time ∧ (State.deliver s p last key x).kp = s.kp ∧ (State.deliver s p last key x).act = s.act ∧ (State.deliver s p last key x).mirror = s.mirror := by
  unfold State.deliver
  simp

@[simp] theorem deliver_rising (s : State) (p last key : Nat) (x : Parcel) (hs : s.regs.rising = true) :
    (State.deliver s p last key x).regs.rising = true := by
  unfold State.deliver
  simp (maxDischargeDepth := 60) +contextual [hs]

@[simp] theorem deliverAll_keeps (s : State) (p last key : Nat) (y0 : List Parcel) :
    (State.deliverAll s p last key y0).pending = s.pending ∧ (State.deliverAll s p last key y0).sdram = s.sdram ∧ (State.deliverAll s p last key y0).fuse = s.fuse ∧ (State.deliverAll s p last key y0).sem = s.sem ∧ (State.deliverAll s p last key y0).dom = s.dom ∧ (State.deliverAll s p last key y0).time = s.time ∧ (State.deliverAll s p last key y0).kp = s.kp ∧ (State.deliverAll s p last key y0).act = s.act ∧ (State.deliverAll s p last key y0).mirror = s.mirror := by
  fun_induction State.deliverAll s p last key y0; all_goals first
      | (simp_all +zetaDelta; done)
      | (simp only [*]; (try simp +zetaDelta only []); (repeat' split) <;> simp_all; done)

@[simp] theorem deliverAll_rising (s : State) (p last key : Nat) (y0 : List Parcel) (hs : s.regs.rising = true) :
    (State.deliverAll s p last key y0).regs.rising = true := by
  fun_induction State.deliverAll s p last key y0 <;> (simp_all (maxDischargeDepth := 60) +zetaDelta; done)

@[simp] theorem releaseParcel_keeps (s : State) (p last : Nat) (x : Parcel) :
    (State.releaseParcel s p last x).pending = s.pending ∧ (State.releaseParcel s p last x).sdram = s.sdram ∧ (State.releaseParcel s p last x).fuse = s.fuse ∧ (State.releaseParcel s p last x).sem = s.sem ∧ (State.releaseParcel s p last x).dom = s.dom ∧ (State.releaseParcel s p last x).time = s.time ∧ (State.releaseParcel s p last x).kp = s.kp ∧ (State.releaseParcel s p last x).act = s.act := by
  unfold State.releaseParcel
  simp

@[simp] theorem releaseParcel_rising (s : State) (p last : Nat) (x : Parcel) (hs : s.regs.rising = true) :
    (State.releaseParcel s p last x).regs.rising = true := by
  unfold State.releaseParcel
  simp (maxDischargeDepth := 60) +contextual [hs]

@[simp] theorem releaseParcel_mirrorWf (s : State) (p last : Nat) (x : Parcel) (hs : s.mirror.words.wf 0#32 = true) :
    (State.releaseParcel s p last x).mirror.words.wf 0#32 = true := by
  unfold State.releaseParcel
  simp (maxDischargeDepth := 60) +contextual [hs]

@[simp] theorem pinsShow_keeps (s : State) :
    (State.pinsShow s).pending = s.pending ∧ (State.pinsShow s).sdram = s.sdram ∧ (State.pinsShow s).fuse = s.fuse ∧ (State.pinsShow s).sem = s.sem ∧ (State.pinsShow s).dom = s.dom ∧ (State.pinsShow s).time = s.time ∧ (State.pinsShow s).kp = s.kp ∧ (State.pinsShow s).regs = s.regs ∧ (State.pinsShow s).act = s.act ∧ (State.pinsShow s).mirror = s.mirror := by
  unfold State.pinsShow
  simp

@[simp] theorem alertShow_keeps (s : State) :
    (State.alertShow s).pending = s.pending ∧ (State.alertShow s).sdram = s.sdram ∧ (State.alertShow s).fuse = s.fuse ∧ (State.alertShow s).sem = s.sem ∧ (State.alertShow s).dom = s.dom ∧ (State.alertShow s).time = s.time ∧ (State.alertShow s).kp = s.kp ∧ (State.alertShow s).act = s.act ∧ (State.alertShow s).mirror = s.mirror := by
  unfold State.alertShow
  simp

@[simp] theorem alertShow_rising (s : State) (hs : s.regs.rising = true) :
    (State.alertShow s).regs.rising = true := by
  unfold State.alertShow
  simp (maxDischargeDepth := 60) [hs]

@[simp] theorem nrtStop_keeps (s : State) :
    (State.nrtStop s).pending = s.pending ∧ (State.nrtStop s).sdram = s.sdram ∧ (State.nrtStop s).fuse = s.fuse ∧ (State.nrtStop s).sem = s.sem ∧ (State.nrtStop s).dom = s.dom ∧ (State.nrtStop s).time = s.time ∧ (State.nrtStop s).kp = s.kp ∧ (State.nrtStop s).act = s.act := by
  unfold State.nrtStop
  simp

@[simp] theorem nrtStop_rising (s : State) (hs : s.regs.rising = true) :
    (State.nrtStop s).regs.rising = true := by
  unfold State.nrtStop
  simp (maxDischargeDepth := 60) [hs]

@[simp] theorem nrtStop_mirrorWf (s : State) (hs : s.mirror.words.wf 0#32 = true) :
    (State.nrtStop s).mirror.words.wf 0#32 = true := by
  unfold State.nrtStop
  simp (maxDischargeDepth := 60) [hs]

@[simp] theorem pclkTo_keeps (s : State) (step : Nat) :
    (State.pclkTo s step).pending = s.pending ∧ (State.pclkTo s step).sdram = s.sdram ∧ (State.pclkTo s step).fuse = s.fuse ∧ (State.pclkTo s step).sem = s.sem ∧ (State.pclkTo s step).dom = s.dom ∧ (State.pclkTo s step).time = s.time ∧ (State.pclkTo s step).kp = s.kp ∧ (State.pclkTo s step).act = s.act := by
  unfold State.pclkTo
  simp

@[simp] theorem pclkTo_rising (s : State) (step : Nat) (hs : s.regs.rising = true) :
    (State.pclkTo s step).regs.rising = true := by
  unfold State.pclkTo
  simp (maxDischargeDepth := 60) [hs]

@[simp] theorem pclkTo_mirrorWf (s : State) (step : Nat) (hs : s.mirror.words.wf 0#32 = true) :
    (State.pclkTo s step).mirror.words.wf 0#32 = true := by
  unfold State.pclkTo
  simp (maxDischargeDepth := 60) [hs]

@[simp] theorem sense_keeps (s : State) (v : Nat) :
    (State.sense s v).pending = s.pending ∧ (State.sense s v).sdram = s.sdram ∧ (State.sense s v).fuse = s.fuse ∧ (State.sense s v).sem = s.sem ∧ (State.sense s v).dom = s.dom ∧ (State.sense s v).time = s.time ∧ (State.sense s v).kp = s.kp ∧ (State.sense s v).act = s.act ∧ (State.sense s v).mirror = s.mirror := by
  unfold State.sense
  simp

@[simp] theorem sense_rising (s : State) (v : Nat) (hs : s.regs.rising = true) :
    (State.sense s v).regs.rising = true := by
  unfold State.sense
  simp (maxDischargeDepth := 60) +contextual [hs]
end Sys2Proof.Machine.State
end

