-- ==== Sys2Proof/Laws/KeepRegTable.lean ====
section
/-! SUPPORT. What the operations of Machine/RegTable.lean leave alone: memory, fuses, semaphores, domains, time, the queue. -/

namespace Sys2Proof.Machine.State

@[simp] theorem plainWrite_keeps (s : State) (off : Nat) (v : Nat) :
    (State.plainWrite s off v).pending = s.pending ∧ (State.plainWrite s off v).sdram = s.sdram ∧ (State.plainWrite s off v).fuse = s.fuse ∧ (State.plainWrite s off v).sem = s.sem ∧ (State.plainWrite s off v).dom = s.dom ∧ (State.plainWrite s off v).time = s.time ∧ (State.plainWrite s off v).kp = s.kp ∧ (State.plainWrite s off v).act = s.act ∧ (State.plainWrite s off v).mirror = s.mirror := by
  unfold State.plainWrite
  try dsimp only
  (repeat' split) <;> simp

@[simp] theorem plainWrite_rising (s : State) (off : Nat) (v : Nat) (hs : s.regs.rising = true) :
    (State.plainWrite s off v).regs.rising = true := by
  unfold State.plainWrite
  try dsimp only
  (repeat' split) <;> simp (maxDischargeDepth := 60) [hs]

end Sys2Proof.Machine.State
end

