-- ==== Sys2Proof/Laws/KeepFcd.lean ====
section
/-! SUPPORT. What the operations of Machine/Fcd.lean leave alone: memory, fuses, semaphores, domains, time, the queue. -/

namespace Sys2Proof.Machine.State

@[simp] theorem setFcdOut_keeps (s : State) (f : Nat) (x : FcdOut) :
    (State.setFcdOut s f x).pending = s.pending ∧ (State.setFcdOut s f x).sdram = s.sdram ∧ (State.setFcdOut s f x).fuse = s.fuse ∧ (State.setFcdOut s f x).sem = s.sem ∧ (State.setFcdOut s f x).dom = s.dom ∧ (State.setFcdOut s f x).time = s.time ∧ (State.setFcdOut s f x).kp = s.kp ∧ (State.setFcdOut s f x).regs = s.regs ∧ (State.setFcdOut s f x).act = s.act ∧ (State.setFcdOut s f x).mirror = s.mirror := by
  unfold State.setFcdOut
  simp

@[simp] theorem fcdPeriod_keeps (s : State) (f : Nat) (code : Nat) :
    (State.fcdPeriod s f code).pending = s.pending ∧ (State.fcdPeriod s f code).sdram = s.sdram ∧ (State.fcdPeriod s f code).fuse = s.fuse ∧ (State.fcdPeriod s f code).sem = s.sem ∧ (State.fcdPeriod s f code).dom = s.dom ∧ (State.fcdPeriod s f code).time = s.time ∧ (State.fcdPeriod s f code).kp = s.kp ∧ (State.fcdPeriod s f code).act = s.act ∧ (State.fcdPeriod s f code).mirror = s.mirror := by
  unfold State.fcdPeriod
  simp

@[simp] theorem fcdPeriod_rising (s : State) (f : Nat) (code : Nat) (hs : s.regs.rising = true) :
    (State.fcdPeriod s f code).regs.rising = true := by
  unfold State.fcdPeriod
  simp (maxDischargeDepth := 60) [hs]

@[simp] theorem fcdCause_keeps (s : State) (f : Nat) (cause : Loc) :
    (State.fcdCause s f cause).pending = s.pending ∧ (State.fcdCause s f cause).sdram = s.sdram ∧ (State.fcdCause s f cause).fuse = s.fuse ∧ (State.fcdCause s f cause).sem = s.sem ∧ (State.fcdCause s f cause).dom = s.dom ∧ (State.fcdCause s f cause).time = s.time ∧ (State.fcdCause s f cause).kp = s.kp ∧ (State.fcdCause s f cause).act = s.act ∧ (State.fcdCause s f cause).mirror = s.mirror := by
  unfold State.fcdCause
  simp

@[simp] theorem fcdCause_rising (s : State) (f : Nat) (cause : Loc) (hs : s.regs.rising = true) :
    (State.fcdCause s f cause).regs.rising = true := by
  unfold State.fcdCause
  simp (maxDischargeDepth := 60) [hs]

@[simp] theorem fcdCauseEnd_keeps (s : State) (f : Nat) (cause : Loc) :
    (State.fcdCauseEnd s f cause).pending = s.pending ∧ (State.fcdCauseEnd s f cause).sdram = s.sdram ∧ (State.fcdCauseEnd s f cause).fuse = s.fuse ∧ (State.fcdCauseEnd s f cause).sem = s.sem ∧ (State.fcdCauseEnd s f cause).dom = s.dom ∧ (State.fcdCauseEnd s f cause).time = s.time ∧ (State.fcdCauseEnd s f cause).kp = s.kp ∧ (State.fcdCauseEnd s f cause).act = s.act ∧ (State.fcdCauseEnd s f cause).mirror = s.mirror := by
  unfold State.fcdCauseEnd
  simp

@[simp] theorem fcdCauseEnd_rising (s : State) (f : Nat) (cause : Loc) (hs : s.regs.rising = true) :
    (State.fcdCauseEnd s f cause).regs.rising = true := by
  unfold State.fcdCauseEnd
  simp (maxDischargeDepth := 60) [hs]

@[simp] theorem fcdCauses_keeps (s : State) (cause : Nat → Loc) (y0 : List Nat) :
    (State.fcdCauses s cause y0).pending = s.pending ∧ (State.fcdCauses s cause y0).sdram = s.sdram ∧ (State.fcdCauses s cause y0).fuse = s.fuse ∧ (State.fcdCauses s cause y0).sem = s.sem ∧ (State.fcdCauses s cause y0).dom = s.dom ∧ (State.fcdCauses s cause y0).time = s.time ∧ (State.fcdCauses s cause y0).kp = s.kp ∧ (State.fcdCauses s cause y0).act = s.act ∧ (State.fcdCauses s cause y0).mirror = s.mirror := by
  fun_induction State.fcdCauses s cause y0; all_goals first
      | (simp_all +zetaDelta; done)
      | (simp only [*]; (try simp +zetaDelta only []); (repeat' split) <;> simp_all; done)

@[simp] theorem fcdCauses_rising (s : State) (cause : Nat → Loc) (y0 : List Nat) (hs : s.regs.rising = true) :
    (State.fcdCauses s cause y0).regs.rising = true := by
  fun_induction State.fcdCauses s cause y0 <;> (simp_all (maxDischargeDepth := 60) +zetaDelta; done)

@[simp] theorem fcdCausesEnd_keeps (s : State) (cause : Nat → Loc) (y0 : List Nat) :
    (State.fcdCausesEnd s cause y0).pending = s.pending ∧ (State.fcdCausesEnd s cause y0).sdram = s.sdram ∧ (State.fcdCausesEnd s cause y0).fuse = s.fuse ∧ (State.fcdCausesEnd s cause y0).sem = s.sem ∧ (State.fcdCausesEnd s cause y0).dom = s.dom ∧ (State.fcdCausesEnd s cause y0).time = s.time ∧ (State.fcdCausesEnd s cause y0).kp = s.kp ∧ (State.fcdCausesEnd s cause y0).act = s.act ∧ (State.fcdCausesEnd s cause y0).mirror = s.mirror := by
  fun_induction State.fcdCausesEnd s cause y0; all_goals first
      | (simp_all +zetaDelta; done)
      | (simp only [*]; (try simp +zetaDelta only []); (repeat' split) <;> simp_all; done)

@[simp] theorem fcdCausesEnd_rising (s : State) (cause : Nat → Loc) (y0 : List Nat) (hs : s.regs.rising = true) :
    (State.fcdCausesEnd s cause y0).regs.rising = true := by
  fun_induction State.fcdCausesEnd s cause y0 <;> (simp_all (maxDischargeDepth := 60) +zetaDelta; done)

@[simp] theorem fcdProt_keeps (s : State) (n : Nat) (y0 : List Nat) :
    (State.fcdProt s n y0).pending = s.pending ∧ (State.fcdProt s n y0).sdram = s.sdram ∧ (State.fcdProt s n y0).fuse = s.fuse ∧ (State.fcdProt s n y0).sem = s.sem ∧ (State.fcdProt s n y0).dom = s.dom ∧ (State.fcdProt s n y0).time = s.time ∧ (State.fcdProt s n y0).kp = s.kp ∧ (State.fcdProt s n y0).act = s.act ∧ (State.fcdProt s n y0).mirror = s.mirror := by
  fun_induction State.fcdProt s n y0; all_goals first
      | (simp_all +zetaDelta; done)
      | (simp only [*]; (try simp +zetaDelta only []); (repeat' split) <;> simp_all; done)

@[simp] theorem fcdProt_rising (s : State) (n : Nat) (y0 : List Nat) (hs : s.regs.rising = true) :
    (State.fcdProt s n y0).regs.rising = true := by
  fun_induction State.fcdProt s n y0 <;> (simp_all (maxDischargeDepth := 60) +zetaDelta; done)

@[simp] theorem fcdProtEnd_keeps (s : State) (n : Nat) (y0 : List Nat) :
    (State.fcdProtEnd s n y0).pending = s.pending ∧ (State.fcdProtEnd s n y0).sdram = s.sdram ∧ (State.fcdProtEnd s n y0).fuse = s.fuse ∧ (State.fcdProtEnd s n y0).sem = s.sem ∧ (State.fcdProtEnd s n y0).dom = s.dom ∧ (State.fcdProtEnd s n y0).time = s.time ∧ (State.fcdProtEnd s n y0).kp = s.kp ∧ (State.fcdProtEnd s n y0).act = s.act ∧ (State.fcdProtEnd s n y0).mirror = s.mirror := by
  fun_induction State.fcdProtEnd s n y0; all_goals first
      | (simp_all +zetaDelta; done)
      | (simp only [*]; (try simp +zetaDelta only []); (repeat' split) <;> simp_all; done)

@[simp] theorem fcdProtEnd_rising (s : State) (n : Nat) (y0 : List Nat) (hs : s.regs.rising = true) :
    (State.fcdProtEnd s n y0).regs.rising = true := by
  fun_induction State.fcdProtEnd s n y0 <;> (simp_all (maxDischargeDepth := 60) +zetaDelta; done)

@[simp] theorem clrdacStart_keeps (s : State) :
    (State.clrdacStart s).pending = s.pending ∧ (State.clrdacStart s).sdram = s.sdram ∧ (State.clrdacStart s).fuse = s.fuse ∧ (State.clrdacStart s).sem = s.sem ∧ (State.clrdacStart s).dom = s.dom ∧ (State.clrdacStart s).time = s.time ∧ (State.clrdacStart s).kp = s.kp ∧ (State.clrdacStart s).act = s.act ∧ (State.clrdacStart s).mirror = s.mirror := by
  unfold State.clrdacStart
  simp

@[simp] theorem clrdacStart_rising (s : State) (hs : s.regs.rising = true) :
    (State.clrdacStart s).regs.rising = true := by
  unfold State.clrdacStart
  simp (maxDischargeDepth := 60) [hs]

@[simp] theorem fcdMirror_keeps (s : State) (m : Nat) :
    (State.fcdMirror s m).pending = s.pending ∧ (State.fcdMirror s m).sdram = s.sdram ∧ (State.fcdMirror s m).fuse = s.fuse ∧ (State.fcdMirror s m).sem = s.sem ∧ (State.fcdMirror s m).dom = s.dom ∧ (State.fcdMirror s m).time = s.time ∧ (State.fcdMirror s m).kp = s.kp ∧ (State.fcdMirror s m).act = s.act ∧ (State.fcdMirror s m).mirror = s.mirror := by
  unfold State.fcdMirror
  simp

@[simp] theorem fcdMirror_rising (s : State) (m : Nat) (hs : s.regs.rising = true) :
    (State.fcdMirror s m).regs.rising = true := by
  unfold State.fcdMirror
  simp (maxDischargeDepth := 60) [hs]

@[simp] theorem fcdStart_keeps (s : State) (f : Nat) :
    (State.fcdStart s f).pending = s.pending ∧ (State.fcdStart s f).sdram = s.sdram ∧ (State.fcdStart s f).fuse = s.fuse ∧ (State.fcdStart s f).sem = s.sem ∧ (State.fcdStart s f).dom = s.dom ∧ (State.fcdStart s f).time = s.time ∧ (State.fcdStart s f).kp = s.kp ∧ (State.fcdStart s f).act = s.act ∧ (State.fcdStart s f).mirror = s.mirror := by
  unfold State.fcdStart
  simp

@[simp] theorem fcdStart_rising (s : State) (f : Nat) (hs : s.regs.rising = true) :
    (State.fcdStart s f).regs.rising = true := by
  unfold State.fcdStart
  simp (maxDischargeDepth := 60) [hs]

@[simp] theorem fcdStarts_keeps (s : State) (y0 : List Nat) :
    (State.fcdStarts s y0).pending = s.pending ∧ (State.fcdStarts s y0).sdram = s.sdram ∧ (State.fcdStarts s y0).fuse = s.fuse ∧ (State.fcdStarts s y0).sem = s.sem ∧ (State.fcdStarts s y0).dom = s.dom ∧ (State.fcdStarts s y0).time = s.time ∧ (State.fcdStarts s y0).kp = s.kp ∧ (State.fcdStarts s y0).act = s.act ∧ (State.fcdStarts s y0).mirror = s.mirror := by
  fun_induction State.fcdStarts s y0; all_goals first
      | (simp_all +zetaDelta; done)
      | (simp only [*]; (try simp +zetaDelta only []); (repeat' split) <;> simp_all; done)

@[simp] theorem fcdStarts_rising (s : State) (y0 : List Nat) (hs : s.regs.rising = true) :
    (State.fcdStarts s y0).regs.rising = true := by
  fun_induction State.fcdStarts s y0 <;> (simp_all (maxDischargeDepth := 60) +zetaDelta; done)

@[simp] theorem fcdStops_keeps (s : State) (y0 : List Nat) :
    (State.fcdStops s y0).pending = s.pending ∧ (State.fcdStops s y0).sdram = s.sdram ∧ (State.fcdStops s y0).fuse = s.fuse ∧ (State.fcdStops s y0).sem = s.sem ∧ (State.fcdStops s y0).dom = s.dom ∧ (State.fcdStops s y0).time = s.time ∧ (State.fcdStops s y0).kp = s.kp ∧ (State.fcdStops s y0).act = s.act ∧ (State.fcdStops s y0).mirror = s.mirror := by
  fun_induction State.fcdStops s y0; all_goals first
      | (simp_all +zetaDelta; done)
      | (simp only [*]; (try simp +zetaDelta only []); (repeat' split) <;> simp_all; done)

@[simp] theorem fcdStops_rising (s : State) (y0 : List Nat) (hs : s.regs.rising = true) :
    (State.fcdStops s y0).regs.rising = true := by
  fun_induction State.fcdStops s y0 <;> (simp_all (maxDischargeDepth := 60) +zetaDelta; done)

@[simp] theorem fcdCtlWrite_keeps (s : State) (v : Nat) :
    (State.fcdCtlWrite s v).pending = s.pending ∧ (State.fcdCtlWrite s v).sdram = s.sdram ∧ (State.fcdCtlWrite s v).fuse = s.fuse ∧ (State.fcdCtlWrite s v).sem = s.sem ∧ (State.fcdCtlWrite s v).dom = s.dom ∧ (State.fcdCtlWrite s v).time = s.time ∧ (State.fcdCtlWrite s v).kp = s.kp ∧ (State.fcdCtlWrite s v).act = s.act ∧ (State.fcdCtlWrite s v).mirror = s.mirror := by
  unfold State.fcdCtlWrite
  simp

@[simp] theorem fcdCtlWrite_rising (s : State) (v : Nat) (hs : s.regs.rising = true) :
    (State.fcdCtlWrite s v).regs.rising = true := by
  unfold State.fcdCtlWrite
  simp (maxDischargeDepth := 60) [hs]

@[simp] theorem vhkFall_keeps (s : State) :
    (State.vhkFall s).pending = s.pending ∧ (State.vhkFall s).sdram = s.sdram ∧ (State.vhkFall s).fuse = s.fuse ∧ (State.vhkFall s).sem = s.sem ∧ (State.vhkFall s).dom = s.dom ∧ (State.vhkFall s).time = s.time ∧ (State.vhkFall s).kp = s.kp ∧ (State.vhkFall s).act = s.act ∧ (State.vhkFall s).mirror = s.mirror := by
  unfold State.vhkFall
  simp

@[simp] theorem vhkFall_rising (s : State) (hs : s.regs.rising = true) :
    (State.vhkFall s).regs.rising = true := by
  unfold State.vhkFall
  simp (maxDischargeDepth := 60) [hs]

@[simp] theorem fcdCodeWrite_keeps (s : State) (f : Nat) (v : Nat) :
    (State.fcdCodeWrite s f v).pending = s.pending ∧ (State.fcdCodeWrite s f v).sdram = s.sdram ∧ (State.fcdCodeWrite s f v).fuse = s.fuse ∧ (State.fcdCodeWrite s f v).sem = s.sem ∧ (State.fcdCodeWrite s f v).dom = s.dom ∧ (State.fcdCodeWrite s f v).time = s.time ∧ (State.fcdCodeWrite s f v).kp = s.kp ∧ (State.fcdCodeWrite s f v).act = s.act ∧ (State.fcdCodeWrite s f v).mirror = s.mirror := by
  unfold State.fcdCodeWrite
  simp

@[simp] theorem fcdCodeWrite_rising (s : State) (f : Nat) (v : Nat) (hs : s.regs.rising = true) :
    (State.fcdCodeWrite s f v).regs.rising = true := by
  unfold State.fcdCodeWrite
  simp (maxDischargeDepth := 60) [hs]

@[simp] theorem fcdRangeWrite_keeps (s : State) (f : Nat) (range : Nat) :
    (State.fcdRangeWrite s f range).pending = s.pending ∧ (State.fcdRangeWrite s f range).sdram = s.sdram ∧ (State.fcdRangeWrite s f range).fuse = s.fuse ∧ (State.fcdRangeWrite s f range).sem = s.sem ∧ (State.fcdRangeWrite s f range).dom = s.dom ∧ (State.fcdRangeWrite s f range).time = s.time ∧ (State.fcdRangeWrite s f range).kp = s.kp ∧ (State.fcdRangeWrite s f range).act = s.act ∧ (State.fcdRangeWrite s f range).mirror = s.mirror := by
  unfold State.fcdRangeWrite
  simp

@[simp] theorem fcdRangeWrite_rising (s : State) (f : Nat) (range : Nat) (hs : s.regs.rising = true) :
    (State.fcdRangeWrite s f range).regs.rising = true := by
  unfold State.fcdRangeWrite
  simp (maxDischargeDepth := 60) [hs]

@[simp] theorem fcdClrWrite_keeps (s : State) (f : Nat) (v : Nat) :
    (State.fcdClrWrite s f v).pending = s.pending ∧ (State.fcdClrWrite s f v).sdram = s.sdram ∧ (State.fcdClrWrite s f v).fuse = s.fuse ∧ (State.fcdClrWrite s f v).sem = s.sem ∧ (State.fcdClrWrite s f v).dom = s.dom ∧ (State.fcdClrWrite s f v).time = s.time ∧ (State.fcdClrWrite s f v).kp = s.kp ∧ (State.fcdClrWrite s f v).act = s.act ∧ (State.fcdClrWrite s f v).mirror = s.mirror := by
  unfold State.fcdClrWrite
  simp

@[simp] theorem fcdClrWrite_rising (s : State) (f : Nat) (v : Nat) (hs : s.regs.rising = true) :
    (State.fcdClrWrite s f v).regs.rising = true := by
  unfold State.fcdClrWrite
  simp (maxDischargeDepth := 60) [hs]

@[simp] theorem hkCtlWrite_keeps (s : State) (v : Nat) :
    (State.hkCtlWrite s v).pending = s.pending ∧ (State.hkCtlWrite s v).sdram = s.sdram ∧ (State.hkCtlWrite s v).fuse = s.fuse ∧ (State.hkCtlWrite s v).sem = s.sem ∧ (State.hkCtlWrite s v).dom = s.dom ∧ (State.hkCtlWrite s v).time = s.time ∧ (State.hkCtlWrite s v).kp = s.kp ∧ (State.hkCtlWrite s v).act = s.act ∧ (State.hkCtlWrite s v).mirror = s.mirror := by
  unfold State.hkCtlWrite
  simp

@[simp] theorem hkCtlWrite_rising (s : State) (v : Nat) (hs : s.regs.rising = true) :
    (State.hkCtlWrite s v).regs.rising = true := by
  unfold State.hkCtlWrite
  simp (maxDischargeDepth := 60) [hs]

@[simp] theorem hkStore_keeps (s : State) (r : Loc) (x : Int) :
    (State.hkStore s r x).pending = s.pending ∧ (State.hkStore s r x).sdram = s.sdram ∧ (State.hkStore s r x).fuse = s.fuse ∧ (State.hkStore s r x).sem = s.sem ∧ (State.hkStore s r x).dom = s.dom ∧ (State.hkStore s r x).time = s.time ∧ (State.hkStore s r x).kp = s.kp ∧ (State.hkStore s r x).act = s.act ∧ (State.hkStore s r x).mirror = s.mirror := by
  unfold State.hkStore
  simp

@[simp] theorem hkStore_rising (s : State) (r : Loc) (x : Int) (hs : s.regs.rising = true) :
    (State.hkStore s r x).regs.rising = true := by
  unfold State.hkStore
  simp (maxDischargeDepth := 60) [hs]

@[simp] theorem fcdReadback_keeps (s : State) (f : Nat) (code : Nat) (tol : Nat) :
    (State.fcdReadback s f code tol).pending = s.pending ∧ (State.fcdReadback s f code tol).sdram = s.sdram ∧ (State.fcdReadback s f code tol).fuse = s.fuse ∧ (State.fcdReadback s f code tol).sem = s.sem ∧ (State.fcdReadback s f code tol).dom = s.dom ∧ (State.fcdReadback s f code tol).time = s.time ∧ (State.fcdReadback s f code tol).kp = s.kp ∧ (State.fcdReadback s f code tol).act = s.act ∧ (State.fcdReadback s f code tol).mirror = s.mirror := by
  unfold State.fcdReadback
  simp

@[simp] theorem fcdReadback_rising (s : State) (f : Nat) (code : Nat) (tol : Nat) (hs : s.regs.rising = true) :
    (State.fcdReadback s f code tol).regs.rising = true := by
  unfold State.fcdReadback
  simp (maxDischargeDepth := 60) [hs]

@[simp] theorem hkReadback_keeps (s : State) (c : Nat) (r : Loc) (tol : Nat) :
    (State.hkReadback s c r tol).pending = s.pending ∧ (State.hkReadback s c r tol).sdram = s.sdram ∧ (State.hkReadback s c r tol).fuse = s.fuse ∧ (State.hkReadback s c r tol).sem = s.sem ∧ (State.hkReadback s c r tol).dom = s.dom ∧ (State.hkReadback s c r tol).time = s.time ∧ (State.hkReadback s c r tol).kp = s.kp ∧ (State.hkReadback s c r tol).act = s.act ∧ (State.hkReadback s c r tol).mirror = s.mirror := by
  unfold State.hkReadback
  simp

@[simp] theorem hkReadback_rising (s : State) (c : Nat) (r : Loc) (tol : Nat) (hs : s.regs.rising = true) :
    (State.hkReadback s c r tol).regs.rising = true := by
  unfold State.hkReadback
  simp (maxDischargeDepth := 60) [hs]

@[simp] theorem hkShared_keeps (s : State) (c : Nat) (tolAb : Nat) (tolFcd : Nat) :
    (State.hkShared s c tolAb tolFcd).pending = s.pending ∧ (State.hkShared s c tolAb tolFcd).sdram = s.sdram ∧ (State.hkShared s c tolAb tolFcd).fuse = s.fuse ∧ (State.hkShared s c tolAb tolFcd).sem = s.sem ∧ (State.hkShared s c tolAb tolFcd).dom = s.dom ∧ (State.hkShared s c tolAb tolFcd).time = s.time ∧ (State.hkShared s c tolAb tolFcd).kp = s.kp ∧ (State.hkShared s c tolAb tolFcd).act = s.act ∧ (State.hkShared s c tolAb tolFcd).mirror = s.mirror := by
  unfold State.hkShared
  simp

@[simp] theorem hkShared_rising (s : State) (c : Nat) (tolAb : Nat) (tolFcd : Nat) (hs : s.regs.rising = true) :
    (State.hkShared s c tolAb tolFcd).regs.rising = true := by
  unfold State.hkShared
  simp (maxDischargeDepth := 60) [hs]
end Sys2Proof.Machine.State
end

