-- ==== Sys2Proof/Laws/KeepConv.lean ====
section
/-! SUPPORT. What the operations of Machine/Conv.lean leave alone: memory, fuses, semaphores, domains, time, the queue. -/

namespace Sys2Proof.Machine.State

@[simp] theorem setConv_keeps (s : State) (n : Nat) (x : CnvSt) :
    (State.setConv s n x).pending = s.pending ∧ (State.setConv s n x).sdram = s.sdram ∧ (State.setConv s n x).fuse = s.fuse ∧ (State.setConv s n x).sem = s.sem ∧ (State.setConv s n x).dom = s.dom ∧ (State.setConv s n x).time = s.time ∧ (State.setConv s n x).kp = s.kp ∧ (State.setConv s n x).regs = s.regs ∧ (State.setConv s n x).act = s.act ∧ (State.setConv s n x).mirror = s.mirror := by
  unfold State.setConv
  simp

@[simp] theorem setDdc_keeps (s : State) (p : Nat) (x : DdcSt) :
    (State.setDdc s p x).pending = s.pending ∧ (State.setDdc s p x).sdram = s.sdram ∧ (State.setDdc s p x).fuse = s.fuse ∧ (State.setDdc s p x).sem = s.sem ∧ (State.setDdc s p x).dom = s.dom ∧ (State.setDdc s p x).time = s.time ∧ (State.setDdc s p x).kp = s.kp ∧ (State.setDdc s p x).regs = s.regs ∧ (State.setDdc s p x).act = s.act ∧ (State.setDdc s p x).mirror = s.mirror := by
  unfold State.setDdc
  simp

@[simp] theorem ddcStep_keeps (s : State) (p : Nat) :
    (State.ddcStep s p).pending = s.pending ∧ (State.ddcStep s p).sdram = s.sdram ∧ (State.ddcStep s p).fuse = s.fuse ∧ (State.ddcStep s p).sem = s.sem ∧ (State.ddcStep s p).dom = s.dom ∧ (State.ddcStep s p).time = s.time ∧ (State.ddcStep s p).kp = s.kp ∧ (State.ddcStep s p).regs = s.regs ∧ (State.ddcStep s p).act = s.act ∧ (State.ddcStep s p).mirror = s.mirror := by
  unfold State.ddcStep
  simp

@[simp] theorem reconverge_keeps (s : State) (n : Nat) :
    (State.reconverge s n).pending = s.pending ∧ (State.reconverge s n).sdram = s.sdram ∧ (State.reconverge s n).fuse = s.fuse ∧ (State.reconverge s n).sem = s.sem ∧ (State.reconverge s n).dom = s.dom ∧ (State.reconverge s n).time = s.time ∧ (State.reconverge s n).kp = s.kp ∧ (State.reconverge s n).act = s.act ∧ (State.reconverge s n).mirror = s.mirror := by
  unfold State.reconverge
  simp

@[simp] theorem reconverge_rising (s : State) (n : Nat) (hs : s.regs.rising = true) :
    (State.reconverge s n).regs.rising = true := by
  unfold State.reconverge
  simp (maxDischargeDepth := 60) [hs]

@[simp] theorem reconvergeAll_keeps (s : State) (y0 : List Nat) :
    (State.reconvergeAll s y0).pending = s.pending ∧ (State.reconvergeAll s y0).sdram = s.sdram ∧ (State.reconvergeAll s y0).fuse = s.fuse ∧ (State.reconvergeAll s y0).sem = s.sem ∧ (State.reconvergeAll s y0).dom = s.dom ∧ (State.reconvergeAll s y0).time = s.time ∧ (State.reconvergeAll s y0).kp = s.kp ∧ (State.reconvergeAll s y0).act = s.act ∧ (State.reconvergeAll s y0).mirror = s.mirror := by
  fun_induction State.reconvergeAll s y0; all_goals first
      | (simp_all +zetaDelta; done)
      | (simp only [*]; (try simp +zetaDelta only []); (repeat' split) <;> simp_all; done)

@[simp] theorem reconvergeAll_rising (s : State) (y0 : List Nat) (hs : s.regs.rising = true) :
    (State.reconvergeAll s y0).regs.rising = true := by
  fun_induction State.reconvergeAll s y0 <;> (simp_all (maxDischargeDepth := 60) +zetaDelta; done)

@[simp] theorem recStop_keeps (s : State) (n : Nat) :
    (State.recStop s n).pending = s.pending ∧ (State.recStop s n).sdram = s.sdram ∧ (State.recStop s n).fuse = s.fuse ∧ (State.recStop s n).sem = s.sem ∧ (State.recStop s n).dom = s.dom ∧ (State.recStop s n).time = s.time ∧ (State.recStop s n).kp = s.kp ∧ (State.recStop s n).regs = s.regs ∧ (State.recStop s n).act = s.act ∧ (State.recStop s n).mirror = s.mirror := by
  unfold State.recStop
  simp

@[simp] theorem sliceMark_keeps (s : State) (n : Nat) (x : Nat) :
    (State.sliceMark s n x).pending = s.pending ∧ (State.sliceMark s n x).sdram = s.sdram ∧ (State.sliceMark s n x).fuse = s.fuse ∧ (State.sliceMark s n x).sem = s.sem ∧ (State.sliceMark s n x).dom = s.dom ∧ (State.sliceMark s n x).time = s.time ∧ (State.sliceMark s n x).kp = s.kp ∧ (State.sliceMark s n x).act = s.act ∧ (State.sliceMark s n x).mirror = s.mirror := by
  unfold State.sliceMark
  simp

@[simp] theorem sliceMark_rising (s : State) (n : Nat) (x : Nat) (hs : s.regs.rising = true) :
    (State.sliceMark s n x).regs.rising = true := by
  unfold State.sliceMark
  simp (maxDischargeDepth := 60) [hs]

@[simp] theorem sliceChange_keeps (s : State) (n : Nat) (x : Nat) :
    (State.sliceChange s n x).pending = s.pending ∧ (State.sliceChange s n x).sdram = s.sdram ∧ (State.sliceChange s n x).fuse = s.fuse ∧ (State.sliceChange s n x).sem = s.sem ∧ (State.sliceChange s n x).dom = s.dom ∧ (State.sliceChange s n x).time = s.time ∧ (State.sliceChange s n x).kp = s.kp ∧ (State.sliceChange s n x).regs = s.regs ∧ (State.sliceChange s n x).act = s.act ∧ (State.sliceChange s n x).mirror = s.mirror := by
  unfold State.sliceChange
  simp

@[simp] theorem carTake_keeps (s : State) (n : Nat) :
    (State.carTake s n).pending = s.pending ∧ (State.carTake s n).sdram = s.sdram ∧ (State.carTake s n).fuse = s.fuse ∧ (State.carTake s n).sem = s.sem ∧ (State.carTake s n).dom = s.dom ∧ (State.carTake s n).time = s.time ∧ (State.carTake s n).kp = s.kp ∧ (State.carTake s n).act = s.act ∧ (State.carTake s n).mirror = s.mirror := by
  unfold State.carTake
  simp

@[simp] theorem carTake_rising (s : State) (n : Nat) (hs : s.regs.rising = true) :
    (State.carTake s n).regs.rising = true := by
  unfold State.carTake
  simp (maxDischargeDepth := 60) [hs]

@[simp] theorem carReplace_keeps (s : State) (n : Nat) (r : Nat) (st : Nat) :
    (State.carReplace s n r st).pending = s.pending ∧ (State.carReplace s n r st).sdram = s.sdram ∧ (State.carReplace s n r st).fuse = s.fuse ∧ (State.carReplace s n r st).sem = s.sem ∧ (State.carReplace s n r st).dom = s.dom ∧ (State.carReplace s n r st).time = s.time ∧ (State.carReplace s n r st).kp = s.kp ∧ (State.carReplace s n r st).act = s.act ∧ (State.carReplace s n r st).mirror = s.mirror := by
  unfold State.carReplace
  simp

@[simp] theorem carReplace_rising (s : State) (n : Nat) (r : Nat) (st : Nat) (hs : s.regs.rising = true) :
    (State.carReplace s n r st).regs.rising = true := by
  unfold State.carReplace
  simp (maxDischargeDepth := 60) [hs]

@[simp] theorem carWornKept_keeps (s : State) (n : Nat) :
    (State.carWornKept s n).pending = s.pending ∧ (State.carWornKept s n).sdram = s.sdram ∧ (State.carWornKept s n).fuse = s.fuse ∧ (State.carWornKept s n).sem = s.sem ∧ (State.carWornKept s n).dom = s.dom ∧ (State.carWornKept s n).time = s.time ∧ (State.carWornKept s n).kp = s.kp ∧ (State.carWornKept s n).act = s.act ∧ (State.carWornKept s n).mirror = s.mirror := by
  unfold State.carWornKept
  simp

@[simp] theorem carWornKept_rising (s : State) (n : Nat) (hs : s.regs.rising = true) :
    (State.carWornKept s n).regs.rising = true := by
  unfold State.carWornKept
  simp (maxDischargeDepth := 60) [hs]

@[simp] theorem carEnd_keeps (s : State) (n : Nat) (v : SliceVerdict) :
    (State.carEnd s n v).pending = s.pending ∧ (State.carEnd s n v).sdram = s.sdram ∧ (State.carEnd s n v).fuse = s.fuse ∧ (State.carEnd s n v).sem = s.sem ∧ (State.carEnd s n v).dom = s.dom ∧ (State.carEnd s n v).time = s.time ∧ (State.carEnd s n v).kp = s.kp ∧ (State.carEnd s n v).act = s.act ∧ (State.carEnd s n v).mirror = s.mirror := by
  unfold State.carEnd
  try dsimp only
  (repeat' split) <;> simp

@[simp] theorem carEnd_rising (s : State) (n : Nat) (v : SliceVerdict) (hs : s.regs.rising = true) :
    (State.carEnd s n v).regs.rising = true := by
  unfold State.carEnd
  try dsimp only
  (repeat' split) <;> simp (maxDischargeDepth := 60) [hs]

@[simp] theorem carCtlWrite_keeps (s : State) (n : Nat) (v : Nat) :
    (State.carCtlWrite s n v).pending = s.pending ∧ (State.carCtlWrite s n v).sdram = s.sdram ∧ (State.carCtlWrite s n v).fuse = s.fuse ∧ (State.carCtlWrite s n v).sem = s.sem ∧ (State.carCtlWrite s n v).dom = s.dom ∧ (State.carCtlWrite s n v).time = s.time ∧ (State.carCtlWrite s n v).kp = s.kp ∧ (State.carCtlWrite s n v).act = s.act ∧ (State.carCtlWrite s n v).mirror = s.mirror := by
  unfold State.carCtlWrite
  simp

@[simp] theorem carCtlWrite_rising (s : State) (n : Nat) (v : Nat) (hs : s.regs.rising = true) :
    (State.carCtlWrite s n v).regs.rising = true := by
  unfold State.carCtlWrite
  simp (maxDischargeDepth := 60) [hs]

@[simp] theorem clkEnd_keeps (s : State) (n : Nat) :
    (State.clkEnd s n).pending = s.pending ∧ (State.clkEnd s n).sdram = s.sdram ∧ (State.clkEnd s n).fuse = s.fuse ∧ (State.clkEnd s n).sem = s.sem ∧ (State.clkEnd s n).dom = s.dom ∧ (State.clkEnd s n).time = s.time ∧ (State.clkEnd s n).kp = s.kp ∧ (State.clkEnd s n).act = s.act ∧ (State.clkEnd s n).mirror = s.mirror := by
  unfold State.clkEnd
  simp

@[simp] theorem clkEnd_rising (s : State) (n : Nat) (hs : s.regs.rising = true) :
    (State.clkEnd s n).regs.rising = true := by
  unfold State.clkEnd
  simp (maxDischargeDepth := 60) +contextual [hs]

@[simp] theorem clkBlockDone_keeps (s : State) (n : Nat) :
    (State.clkBlockDone s n).pending = s.pending ∧ (State.clkBlockDone s n).sdram = s.sdram ∧ (State.clkBlockDone s n).fuse = s.fuse ∧ (State.clkBlockDone s n).sem = s.sem ∧ (State.clkBlockDone s n).dom = s.dom ∧ (State.clkBlockDone s n).time = s.time ∧ (State.clkBlockDone s n).kp = s.kp ∧ (State.clkBlockDone s n).act = s.act ∧ (State.clkBlockDone s n).mirror = s.mirror := by
  unfold State.clkBlockDone
  try dsimp only
  (repeat' split) <;> simp

@[simp] theorem clkBlockDone_rising (s : State) (n : Nat) (hs : s.regs.rising = true) :
    (State.clkBlockDone s n).regs.rising = true := by
  unfold State.clkBlockDone
  try dsimp only
  (repeat' split) <;> simp (maxDischargeDepth := 60) [hs]

@[simp] theorem clkGap_keeps (s : State) (n : Nat) (x : Parcel) :
    (State.clkGap s n x).pending = s.pending ∧ (State.clkGap s n x).sdram = s.sdram ∧ (State.clkGap s n x).fuse = s.fuse ∧ (State.clkGap s n x).sem = s.sem ∧ (State.clkGap s n x).dom = s.dom ∧ (State.clkGap s n x).time = s.time ∧ (State.clkGap s n x).kp = s.kp ∧ (State.clkGap s n x).act = s.act ∧ (State.clkGap s n x).mirror = s.mirror := by
  unfold State.clkGap
  simp

@[simp] theorem clkGap_rising (s : State) (n : Nat) (x : Parcel) (hs : s.regs.rising = true) :
    (State.clkGap s n x).regs.rising = true := by
  unfold State.clkGap
  simp (maxDischargeDepth := 60) [hs]

@[simp] theorem calEnd_keeps (s : State) (code : Nat) (event : Nat) :
    (State.calEnd s code event).pending = s.pending ∧ (State.calEnd s code event).sdram = s.sdram ∧ (State.calEnd s code event).fuse = s.fuse ∧ (State.calEnd s code event).sem = s.sem ∧ (State.calEnd s code event).dom = s.dom ∧ (State.calEnd s code event).time = s.time ∧ (State.calEnd s code event).kp = s.kp ∧ (State.calEnd s code event).act = s.act ∧ (State.calEnd s code event).mirror = s.mirror := by
  unfold State.calEnd
  try dsimp only
  (repeat' split) <;> simp

@[simp] theorem calEnd_rising (s : State) (code : Nat) (event : Nat) (hs : s.regs.rising = true) :
    (State.calEnd s code event).regs.rising = true := by
  unfold State.calEnd
  (repeat' split) <;> simp_all (maxDischargeDepth := 60)

@[simp] theorem calOvr_keeps (s : State) (n : Nat) :
    (State.calOvr s n).pending = s.pending ∧ (State.calOvr s n).sdram = s.sdram ∧ (State.calOvr s n).fuse = s.fuse ∧ (State.calOvr s n).sem = s.sem ∧ (State.calOvr s n).dom = s.dom ∧ (State.calOvr s n).time = s.time ∧ (State.calOvr s n).kp = s.kp ∧ (State.calOvr s n).act = s.act ∧ (State.calOvr s n).mirror = s.mirror := by
  unfold State.calOvr
  try dsimp only
  (repeat' split) <;> simp

@[simp] theorem calOvr_rising (s : State) (n : Nat) (hs : s.regs.rising = true) :
    (State.calOvr s n).regs.rising = true := by
  unfold State.calOvr
  try dsimp only
  (repeat' split) <;> simp (maxDischargeDepth := 60) [hs]

@[simp] theorem calSpoil_keeps (s : State) (n flags : Nat) :
    (State.calSpoil s n flags).pending = s.pending ∧ (State.calSpoil s n flags).sdram = s.sdram ∧ (State.calSpoil s n flags).fuse = s.fuse ∧ (State.calSpoil s n flags).sem = s.sem ∧ (State.calSpoil s n flags).dom = s.dom ∧ (State.calSpoil s n flags).time = s.time ∧ (State.calSpoil s n flags).kp = s.kp ∧ (State.calSpoil s n flags).regs = s.regs ∧ (State.calSpoil s n flags).act = s.act ∧ (State.calSpoil s n flags).mirror = s.mirror := by
  unfold State.calSpoil
  split <;> simp

@[simp] theorem calStaleShow_keeps (s : State) (n : Nat) :
    (State.calStaleShow s n).pending = s.pending ∧ (State.calStaleShow s n).sdram = s.sdram ∧ (State.calStaleShow s n).fuse = s.fuse ∧ (State.calStaleShow s n).sem = s.sem ∧ (State.calStaleShow s n).dom = s.dom ∧ (State.calStaleShow s n).time = s.time ∧ (State.calStaleShow s n).kp = s.kp ∧ (State.calStaleShow s n).act = s.act ∧ (State.calStaleShow s n).mirror = s.mirror := by
  unfold State.calStaleShow
  simp

@[simp] theorem calStaleShow_rising (s : State) (n : Nat) (hs : s.regs.rising = true) :
    (State.calStaleShow s n).regs.rising = true := by
  unfold State.calStaleShow
  simp (maxDischargeDepth := 60) [hs]

@[simp] theorem convGate_keeps (s : State) (n : Nat) :
    (State.convGate s n).pending = s.pending ∧ (State.convGate s n).sdram = s.sdram ∧ (State.convGate s n).fuse = s.fuse ∧ (State.convGate s n).sem = s.sem ∧ (State.convGate s n).dom = s.dom ∧ (State.convGate s n).time = s.time ∧ (State.convGate s n).kp = s.kp ∧ (State.convGate s n).act = s.act ∧ (State.convGate s n).mirror = s.mirror := by
  unfold State.convGate
  simp

@[simp] theorem convGate_rising (s : State) (n : Nat) (hs : s.regs.rising = true) :
    (State.convGate s n).regs.rising = true := by
  unfold State.convGate
  simp (maxDischargeDepth := 60) +contextual [hs]

@[simp] theorem settleBy_keeps (s : State) (k : Nat) (y0 : List Nat) :
    (State.settleBy s k y0).pending = s.pending ∧ (State.settleBy s k y0).sdram = s.sdram ∧ (State.settleBy s k y0).fuse = s.fuse ∧ (State.settleBy s k y0).sem = s.sem ∧ (State.settleBy s k y0).dom = s.dom ∧ (State.settleBy s k y0).time = s.time ∧ (State.settleBy s k y0).kp = s.kp ∧ (State.settleBy s k y0).regs = s.regs ∧ (State.settleBy s k y0).act = s.act ∧ (State.settleBy s k y0).mirror = s.mirror := by
  fun_induction State.settleBy s k y0; all_goals first
      | (simp_all +zetaDelta; done)
      | (simp only [*]; (try simp +zetaDelta only []); (repeat' split) <;> simp_all; done)

@[simp] theorem clkBlocksDone_keeps (s : State) (y0 : List Nat) :
    (State.clkBlocksDone s y0).pending = s.pending ∧ (State.clkBlocksDone s y0).sdram = s.sdram ∧ (State.clkBlocksDone s y0).fuse = s.fuse ∧ (State.clkBlocksDone s y0).sem = s.sem ∧ (State.clkBlocksDone s y0).dom = s.dom ∧ (State.clkBlocksDone s y0).time = s.time ∧ (State.clkBlocksDone s y0).kp = s.kp ∧ (State.clkBlocksDone s y0).act = s.act ∧ (State.clkBlocksDone s y0).mirror = s.mirror := by
  fun_induction State.clkBlocksDone s y0; all_goals first
      | (simp_all +zetaDelta; done)
      | (simp only [*]; (try simp +zetaDelta only []); (repeat' split) <;> simp_all; done)

@[simp] theorem clkBlocksDone_rising (s : State) (y0 : List Nat) (hs : s.regs.rising = true) :
    (State.clkBlocksDone s y0).regs.rising = true := by
  fun_induction State.clkBlocksDone s y0 <;> (simp_all (maxDischargeDepth := 60) +zetaDelta; done)

@[simp] theorem makeBlock_keeps (s : State) (n : Nat) (samples : List Int) (at_ : Stamp) :
    (State.makeBlock s n samples at_).pending = s.pending ∧ (State.makeBlock s n samples at_).sdram = s.sdram ∧ (State.makeBlock s n samples at_).fuse = s.fuse ∧ (State.makeBlock s n samples at_).sem = s.sem ∧ (State.makeBlock s n samples at_).dom = s.dom ∧ (State.makeBlock s n samples at_).time = s.time ∧ (State.makeBlock s n samples at_).kp = s.kp ∧ (State.makeBlock s n samples at_).act = s.act ∧ (State.makeBlock s n samples at_).mirror = s.mirror := by
  unfold State.makeBlock
  simp

@[simp] theorem makeBlock_rising (s : State) (n : Nat) (samples : List Int) (at_ : Stamp) (hs : s.regs.rising = true) :
    (State.makeBlock s n samples at_).regs.rising = true := by
  unfold State.makeBlock
  simp (maxDischargeDepth := 60) [hs]

@[simp] theorem entryCheck_keeps (s : State) (n : Nat) (b : Parcel) (got : List Byte) (lane : Nat) :
    (State.entryCheck s n b got lane).pending = s.pending ∧ (State.entryCheck s n b got lane).sdram = s.sdram ∧ (State.entryCheck s n b got lane).fuse = s.fuse ∧ (State.entryCheck s n b got lane).sem = s.sem ∧ (State.entryCheck s n b got lane).dom = s.dom ∧ (State.entryCheck s n b got lane).time = s.time ∧ (State.entryCheck s n b got lane).kp = s.kp ∧ (State.entryCheck s n b got lane).act = s.act ∧ (State.entryCheck s n b got lane).mirror = s.mirror := by
  unfold State.entryCheck
  simp

@[simp] theorem entryCheck_rising (s : State) (n : Nat) (b : Parcel) (got : List Byte) (lane : Nat) (hs : s.regs.rising = true) :
    (State.entryCheck s n b got lane).regs.rising = true := by
  unfold State.entryCheck
  simp (maxDischargeDepth := 60) [hs]

@[simp] theorem protEnd_keeps (s : State) (n : Nat) :
    (State.protEnd s n).pending = s.pending ∧ (State.protEnd s n).sdram = s.sdram ∧ (State.protEnd s n).fuse = s.fuse ∧ (State.protEnd s n).sem = s.sem ∧ (State.protEnd s n).dom = s.dom ∧ (State.protEnd s n).time = s.time ∧ (State.protEnd s n).kp = s.kp ∧ (State.protEnd s n).act = s.act ∧ (State.protEnd s n).mirror = s.mirror := by
  unfold State.protEnd
  simp

@[simp] theorem protEnd_rising (s : State) (n : Nat) (hs : s.regs.rising = true) :
    (State.protEnd s n).regs.rising = true := by
  unfold State.protEnd
  simp (maxDischargeDepth := 60) [hs]

@[simp] theorem protEngage_keeps (s : State) (n : Nat) :
    (State.protEngage s n).pending = s.pending ∧ (State.protEngage s n).sdram = s.sdram ∧ (State.protEngage s n).fuse = s.fuse ∧ (State.protEngage s n).sem = s.sem ∧ (State.protEngage s n).dom = s.dom ∧ (State.protEngage s n).time = s.time ∧ (State.protEngage s n).kp = s.kp ∧ (State.protEngage s n).act = s.act ∧ (State.protEngage s n).mirror = s.mirror := by
  unfold State.protEngage
  simp

@[simp] theorem protEngage_rising (s : State) (n : Nat) (hs : s.regs.rising = true) :
    (State.protEngage s n).regs.rising = true := by
  unfold State.protEngage
  simp (maxDischargeDepth := 60) +contextual [hs]

@[simp] theorem protWrite_keeps (s : State) (n : Nat) (v : Nat) :
    (State.protWrite s n v).pending = s.pending ∧ (State.protWrite s n v).sdram = s.sdram ∧ (State.protWrite s n v).fuse = s.fuse ∧ (State.protWrite s n v).sem = s.sem ∧ (State.protWrite s n v).dom = s.dom ∧ (State.protWrite s n v).time = s.time ∧ (State.protWrite s n v).kp = s.kp ∧ (State.protWrite s n v).act = s.act ∧ (State.protWrite s n v).mirror = s.mirror := by
  unfold State.protWrite
  simp

@[simp] theorem protWrite_rising (s : State) (n : Nat) (v : Nat) (hs : s.regs.rising = true) :
    (State.protWrite s n v).regs.rising = true := by
  unfold State.protWrite
  simp (maxDischargeDepth := 60) [hs]
end Sys2Proof.Machine.State
end

