-- ==== Sys2Proof/Laws/KeepDdc.lean ====
section
/-! SUPPORT. What the operations of Machine/Ddc.lean leave alone: memory, fuses, semaphores, domains, time, the queue. -/

namespace Sys2Proof.Machine.State

@[simp] theorem productAt_keeps (s : State) (p : Nat) (kind : Kind) (stream flags seq last key : Nat) (at_ : Stamp) (payload : List Byte) :
    (State.productAt s p kind stream flags seq last key at_ payload).pending = s.pending ∧ (State.productAt s p kind stream flags seq last key at_ payload).sdram = s.sdram ∧ (State.productAt s p kind stream flags seq last key at_ payload).fuse = s.fuse ∧ (State.productAt s p kind stream flags seq last key at_ payload).sem = s.sem ∧ (State.productAt s p kind stream flags seq last key at_ payload).dom = s.dom ∧ (State.productAt s p kind stream flags seq last key at_ payload).time = s.time ∧ (State.productAt s p kind stream flags seq last key at_ payload).kp = s.kp ∧ (State.productAt s p kind stream flags seq last key at_ payload).act = s.act ∧ (State.productAt s p kind stream flags seq last key at_ payload).mirror = s.mirror := by
  unfold State.productAt
  simp

@[simp] theorem productAt_rising (s : State) (p : Nat) (kind : Kind) (stream flags seq last key : Nat) (at_ : Stamp) (payload : List Byte) (hs : s.regs.rising = true) :
    (State.productAt s p kind stream flags seq last key at_ payload).regs.rising = true := by
  unfold State.productAt
  simp (maxDischargeDepth := 60) +contextual [hs]

@[simp] theorem product_keeps (s : State) (p : Nat) (kind : Kind) (stream flags seq last : Nat) (at_ : Stamp) (payload : List Byte) :
    (State.product s p kind stream flags seq last at_ payload).pending = s.pending ∧ (State.product s p kind stream flags seq last at_ payload).sdram = s.sdram ∧ (State.product s p kind stream flags seq last at_ payload).fuse = s.fuse ∧ (State.product s p kind stream flags seq last at_ payload).sem = s.sem ∧ (State.product s p kind stream flags seq last at_ payload).dom = s.dom ∧ (State.product s p kind stream flags seq last at_ payload).time = s.time ∧ (State.product s p kind stream flags seq last at_ payload).kp = s.kp ∧ (State.product s p kind stream flags seq last at_ payload).act = s.act ∧ (State.product s p kind stream flags seq last at_ payload).mirror = s.mirror := by
  unfold State.product
  simp

@[simp] theorem product_rising (s : State) (p : Nat) (kind : Kind) (stream flags seq last : Nat) (at_ : Stamp) (payload : List Byte) (hs : s.regs.rising = true) :
    (State.product s p kind stream flags seq last at_ payload).regs.rising = true := by
  unfold State.product
  simp (maxDischargeDepth := 60) +contextual [hs]

@[simp] theorem winShow_keeps (s : State) (p : Nat) (c : PathCfg) (w : Nat) :
    (State.winShow s p c w).pending = s.pending ∧ (State.winShow s p c w).sdram = s.sdram ∧ (State.winShow s p c w).fuse = s.fuse ∧ (State.winShow s p c w).sem = s.sem ∧ (State.winShow s p c w).dom = s.dom ∧ (State.winShow s p c w).time = s.time ∧ (State.winShow s p c w).kp = s.kp ∧ (State.winShow s p c w).act = s.act ∧ (State.winShow s p c w).mirror = s.mirror := by
  unfold State.winShow
  simp

@[simp] theorem winShow_rising (s : State) (p : Nat) (c : PathCfg) (w : Nat) (hs : s.regs.rising = true) :
    (State.winShow s p c w).regs.rising = true := by
  unfold State.winShow
  simp (maxDischargeDepth := 60) [hs]

@[simp] theorem winsShow_keeps (s : State) (p : Nat) (c : PathCfg) (y0 : List Nat) :
    (State.winsShow s p c y0).pending = s.pending ∧ (State.winsShow s p c y0).sdram = s.sdram ∧ (State.winsShow s p c y0).fuse = s.fuse ∧ (State.winsShow s p c y0).sem = s.sem ∧ (State.winsShow s p c y0).dom = s.dom ∧ (State.winsShow s p c y0).time = s.time ∧ (State.winsShow s p c y0).kp = s.kp ∧ (State.winsShow s p c y0).act = s.act ∧ (State.winsShow s p c y0).mirror = s.mirror := by
  fun_induction State.winsShow s p c y0; all_goals first
      | (simp_all +zetaDelta; done)
      | (simp only [*]; (try simp +zetaDelta only []); (repeat' split) <;> simp_all; done)

@[simp] theorem winsShow_rising (s : State) (p : Nat) (c : PathCfg) (y0 : List Nat) (hs : s.regs.rising = true) :
    (State.winsShow s p c y0).regs.rising = true := by
  fun_induction State.winsShow s p c y0 <;> (simp_all (maxDischargeDepth := 60) +zetaDelta; done)

@[simp] theorem ddcShow_keeps (s : State) (p : Nat) :
    (State.ddcShow s p).pending = s.pending ∧ (State.ddcShow s p).sdram = s.sdram ∧ (State.ddcShow s p).fuse = s.fuse ∧ (State.ddcShow s p).sem = s.sem ∧ (State.ddcShow s p).dom = s.dom ∧ (State.ddcShow s p).time = s.time ∧ (State.ddcShow s p).kp = s.kp ∧ (State.ddcShow s p).act = s.act ∧ (State.ddcShow s p).mirror = s.mirror := by
  unfold State.ddcShow
  simp

@[simp] theorem ddcShow_rising (s : State) (p : Nat) (hs : s.regs.rising = true) :
    (State.ddcShow s p).regs.rising = true := by
  unfold State.ddcShow
  simp (maxDischargeDepth := 60) [hs]

@[simp] theorem ratesShow_keeps (s : State) (y0 : List Nat) :
    (State.ratesShow s y0).pending = s.pending ∧ (State.ratesShow s y0).sdram = s.sdram ∧ (State.ratesShow s y0).fuse = s.fuse ∧ (State.ratesShow s y0).sem = s.sem ∧ (State.ratesShow s y0).dom = s.dom ∧ (State.ratesShow s y0).time = s.time ∧ (State.ratesShow s y0).kp = s.kp ∧ (State.ratesShow s y0).act = s.act ∧ (State.ratesShow s y0).mirror = s.mirror := by
  fun_induction State.ratesShow s y0; all_goals first
      | (simp_all +zetaDelta; done)
      | (simp only [*]; (try simp +zetaDelta only []); (repeat' split) <;> simp_all; done)

@[simp] theorem ratesShow_rising (s : State) (y0 : List Nat) (hs : s.regs.rising = true) :
    (State.ratesShow s y0).regs.rising = true := by
  fun_induction State.ratesShow s y0 <;> (simp_all (maxDischargeDepth := 60) +zetaDelta; done)

@[simp] theorem decimShow_keeps (s : State) (y0 : List Nat) :
    (State.decimShow s y0).pending = s.pending ∧ (State.decimShow s y0).sdram = s.sdram ∧ (State.decimShow s y0).fuse = s.fuse ∧ (State.decimShow s y0).sem = s.sem ∧ (State.decimShow s y0).dom = s.dom ∧ (State.decimShow s y0).time = s.time ∧ (State.decimShow s y0).kp = s.kp ∧ (State.decimShow s y0).act = s.act ∧ (State.decimShow s y0).mirror = s.mirror := by
  fun_induction State.decimShow s y0; all_goals first
      | (simp_all +zetaDelta; done)
      | (simp only [*]; (try simp +zetaDelta only []); (repeat' split) <;> simp_all; done)

@[simp] theorem decimShow_rising (s : State) (y0 : List Nat) (hs : s.regs.rising = true) :
    (State.decimShow s y0).regs.rising = true := by
  fun_induction State.decimShow s y0 <;> (simp_all (maxDischargeDepth := 60) +zetaDelta; done)

@[simp] theorem kalShow_keeps (s : State) (k : Nat) :
    (State.kalShow s k).pending = s.pending ∧ (State.kalShow s k).sdram = s.sdram ∧ (State.kalShow s k).fuse = s.fuse ∧ (State.kalShow s k).sem = s.sem ∧ (State.kalShow s k).dom = s.dom ∧ (State.kalShow s k).time = s.time ∧ (State.kalShow s k).kp = s.kp ∧ (State.kalShow s k).act = s.act ∧ (State.kalShow s k).mirror = s.mirror := by
  unfold State.kalShow
  simp

@[simp] theorem kalShow_rising (s : State) (k : Nat) (hs : s.regs.rising = true) :
    (State.kalShow s k).regs.rising = true := by
  unfold State.kalShow
  simp (maxDischargeDepth := 60) +contextual [hs]

@[simp] theorem winsRunning_keeps (s : State) (p : Nat) (c : PathCfg) (on : Bool) (y0 : List Nat) :
    (State.winsRunning s p c on y0).pending = s.pending ∧ (State.winsRunning s p c on y0).sdram = s.sdram ∧ (State.winsRunning s p c on y0).fuse = s.fuse ∧ (State.winsRunning s p c on y0).sem = s.sem ∧ (State.winsRunning s p c on y0).dom = s.dom ∧ (State.winsRunning s p c on y0).time = s.time ∧ (State.winsRunning s p c on y0).kp = s.kp ∧ (State.winsRunning s p c on y0).act = s.act ∧ (State.winsRunning s p c on y0).mirror = s.mirror := by
  fun_induction State.winsRunning s p c on y0; all_goals first
      | (simp_all +zetaDelta; done)
      | (simp only [*]; (try simp +zetaDelta only []); (repeat' split) <;> simp_all; done)

@[simp] theorem winsRunning_rising (s : State) (p : Nat) (c : PathCfg) (on : Bool) (y0 : List Nat) (hs : s.regs.rising = true) :
    (State.winsRunning s p c on y0).regs.rising = true := by
  fun_induction State.winsRunning s p c on y0 <;> (simp_all (maxDischargeDepth := 60) +zetaDelta; done)

@[simp] theorem xfRunning_keeps (s : State) (p : Nat) (c : PathCfg) (on : Bool) (y0 : List Nat) :
    (State.xfRunning s p c on y0).pending = s.pending ∧ (State.xfRunning s p c on y0).sdram = s.sdram ∧ (State.xfRunning s p c on y0).fuse = s.fuse ∧ (State.xfRunning s p c on y0).sem = s.sem ∧ (State.xfRunning s p c on y0).dom = s.dom ∧ (State.xfRunning s p c on y0).time = s.time ∧ (State.xfRunning s p c on y0).kp = s.kp ∧ (State.xfRunning s p c on y0).act = s.act ∧ (State.xfRunning s p c on y0).mirror = s.mirror := by
  fun_induction State.xfRunning s p c on y0; all_goals first
      | (simp_all +zetaDelta; done)
      | (simp only [*]; (try simp +zetaDelta only []); (repeat' split) <;> simp_all; done)

@[simp] theorem xfRunning_rising (s : State) (p : Nat) (c : PathCfg) (on : Bool) (y0 : List Nat) (hs : s.regs.rising = true) :
    (State.xfRunning s p c on y0).regs.rising = true := by
  fun_induction State.xfRunning s p c on y0 <;> (simp_all (maxDischargeDepth := 60) +zetaDelta; done)

@[simp] theorem unitsShow_keeps (s : State) (p : Nat) (on : Bool) :
    (State.unitsShow s p on).pending = s.pending ∧ (State.unitsShow s p on).sdram = s.sdram ∧ (State.unitsShow s p on).fuse = s.fuse ∧ (State.unitsShow s p on).sem = s.sem ∧ (State.unitsShow s p on).dom = s.dom ∧ (State.unitsShow s p on).time = s.time ∧ (State.unitsShow s p on).kp = s.kp ∧ (State.unitsShow s p on).act = s.act ∧ (State.unitsShow s p on).mirror = s.mirror := by
  unfold State.unitsShow
  simp

@[simp] theorem unitsShow_rising (s : State) (p : Nat) (on : Bool) (hs : s.regs.rising = true) :
    (State.unitsShow s p on).regs.rising = true := by
  unfold State.unitsShow
  simp (maxDischargeDepth := 60) +contextual [hs]

@[simp] theorem runPath_keeps (s : State) (p : Nat) (on : Bool) :
    (State.runPath s p on).pending = s.pending ∧ (State.runPath s p on).sdram = s.sdram ∧ (State.runPath s p on).fuse = s.fuse ∧ (State.runPath s p on).sem = s.sem ∧ (State.runPath s p on).dom = s.dom ∧ (State.runPath s p on).time = s.time ∧ (State.runPath s p on).kp = s.kp ∧ (State.runPath s p on).act = s.act ∧ (State.runPath s p on).mirror = s.mirror := by
  unfold State.runPath
  simp

@[simp] theorem runPath_rising (s : State) (p : Nat) (on : Bool) (hs : s.regs.rising = true) :
    (State.runPath s p on).regs.rising = true := by
  unfold State.runPath
  simp (maxDischargeDepth := 60) +contextual [hs]

@[simp] theorem setXf_keeps (s : State) (p : Nat) (x : XfPath) :
    (State.setXf s p x).pending = s.pending ∧ (State.setXf s p x).sdram = s.sdram ∧ (State.setXf s p x).fuse = s.fuse ∧ (State.setXf s p x).sem = s.sem ∧ (State.setXf s p x).dom = s.dom ∧ (State.setXf s p x).time = s.time ∧ (State.setXf s p x).kp = s.kp ∧ (State.setXf s p x).regs = s.regs ∧ (State.setXf s p x).act = s.act ∧ (State.setXf s p x).mirror = s.mirror := by
  unfold State.setXf
  simp

@[simp] theorem xfInfo_keeps (s : State) (p : Nat) (c : PathCfg) (i : Nat) :
    (State.xfInfo s p c i).pending = s.pending ∧ (State.xfInfo s p c i).sdram = s.sdram ∧ (State.xfInfo s p c i).fuse = s.fuse ∧ (State.xfInfo s p c i).sem = s.sem ∧ (State.xfInfo s p c i).dom = s.dom ∧ (State.xfInfo s p c i).time = s.time ∧ (State.xfInfo s p c i).kp = s.kp ∧ (State.xfInfo s p c i).act = s.act ∧ (State.xfInfo s p c i).mirror = s.mirror := by
  unfold State.xfInfo
  simp

@[simp] theorem xfInfo_rising (s : State) (p : Nat) (c : PathCfg) (i : Nat) (hs : s.regs.rising = true) :
    (State.xfInfo s p c i).regs.rising = true := by
  unfold State.xfInfo
  simp (maxDischargeDepth := 60) [hs]

@[simp] theorem xfInfos_keeps (s : State) (p : Nat) (c : PathCfg) (y0 : List Nat) :
    (State.xfInfos s p c y0).pending = s.pending ∧ (State.xfInfos s p c y0).sdram = s.sdram ∧ (State.xfInfos s p c y0).fuse = s.fuse ∧ (State.xfInfos s p c y0).sem = s.sem ∧ (State.xfInfos s p c y0).dom = s.dom ∧ (State.xfInfos s p c y0).time = s.time ∧ (State.xfInfos s p c y0).kp = s.kp ∧ (State.xfInfos s p c y0).act = s.act ∧ (State.xfInfos s p c y0).mirror = s.mirror := by
  fun_induction State.xfInfos s p c y0; all_goals first
      | (simp_all +zetaDelta; done)
      | (simp only [*]; (try simp +zetaDelta only []); (repeat' split) <;> simp_all; done)

@[simp] theorem xfInfos_rising (s : State) (p : Nat) (c : PathCfg) (y0 : List Nat) (hs : s.regs.rising = true) :
    (State.xfInfos s p c y0).regs.rising = true := by
  fun_induction State.xfInfos s p c y0 <;> (simp_all (maxDischargeDepth := 60) +zetaDelta; done)

@[simp] theorem clearResets_keeps (s : State) (p : Nat) (y0 : List Nat) :
    (State.clearResets s p y0).pending = s.pending ∧ (State.clearResets s p y0).sdram = s.sdram ∧ (State.clearResets s p y0).fuse = s.fuse ∧ (State.clearResets s p y0).sem = s.sem ∧ (State.clearResets s p y0).dom = s.dom ∧ (State.clearResets s p y0).time = s.time ∧ (State.clearResets s p y0).kp = s.kp ∧ (State.clearResets s p y0).act = s.act ∧ (State.clearResets s p y0).mirror = s.mirror := by
  fun_induction State.clearResets s p y0; all_goals first
      | (simp_all +zetaDelta; done)
      | (simp only [*]; (try simp +zetaDelta only []); (repeat' split) <;> simp_all; done)

@[simp] theorem clearResets_rising (s : State) (p : Nat) (y0 : List Nat) (hs : s.regs.rising = true) :
    (State.clearResets s p y0).regs.rising = true := by
  fun_induction State.clearResets s p y0 <;> (simp_all (maxDischargeDepth := 60) +zetaDelta; done)

@[simp] theorem commitAt_keeps (s : State) (p : Nat) (ix : Nat) :
    (State.commitAt s p ix).pending = s.pending ∧ (State.commitAt s p ix).sdram = s.sdram ∧ (State.commitAt s p ix).fuse = s.fuse ∧ (State.commitAt s p ix).sem = s.sem ∧ (State.commitAt s p ix).dom = s.dom ∧ (State.commitAt s p ix).time = s.time ∧ (State.commitAt s p ix).kp = s.kp ∧ (State.commitAt s p ix).act = s.act ∧ (State.commitAt s p ix).mirror = s.mirror := by
  unfold State.commitAt
  simp

@[simp] theorem commitAt_rising (s : State) (p : Nat) (ix : Nat) (hs : s.regs.rising = true) :
    (State.commitAt s p ix).regs.rising = true := by
  unfold State.commitAt
  simp (maxDischargeDepth := 60) [hs]

@[simp] theorem refuseUnits_keeps (s : State) (bad : Nat → Bool) (loc : Nat → Loc) (y0 : List Nat) :
    (State.refuseUnits s bad loc y0).pending = s.pending ∧ (State.refuseUnits s bad loc y0).sdram = s.sdram ∧ (State.refuseUnits s bad loc y0).fuse = s.fuse ∧ (State.refuseUnits s bad loc y0).sem = s.sem ∧ (State.refuseUnits s bad loc y0).dom = s.dom ∧ (State.refuseUnits s bad loc y0).time = s.time ∧ (State.refuseUnits s bad loc y0).kp = s.kp ∧ (State.refuseUnits s bad loc y0).act = s.act ∧ (State.refuseUnits s bad loc y0).mirror = s.mirror := by
  fun_induction State.refuseUnits s bad loc y0; all_goals first
      | (simp_all +zetaDelta; done)
      | (simp only [*]; (try simp +zetaDelta only []); (repeat' split) <;> simp_all; done)

@[simp] theorem refuseUnits_rising (s : State) (bad : Nat → Bool) (loc : Nat → Loc) (y0 : List Nat) (hs : s.regs.rising = true) :
    (State.refuseUnits s bad loc y0).regs.rising = true := by
  fun_induction State.refuseUnits s bad loc y0 <;> (simp_all (maxDischargeDepth := 60) +zetaDelta; done)

@[simp] theorem commitTry_keeps (s : State) (p : Nat) (ix : Nat) :
    (State.commitTry s p ix).pending = s.pending ∧ (State.commitTry s p ix).sdram = s.sdram ∧ (State.commitTry s p ix).fuse = s.fuse ∧ (State.commitTry s p ix).sem = s.sem ∧ (State.commitTry s p ix).dom = s.dom ∧ (State.commitTry s p ix).time = s.time ∧ (State.commitTry s p ix).kp = s.kp ∧ (State.commitTry s p ix).act = s.act ∧ (State.commitTry s p ix).mirror = s.mirror := by
  unfold State.commitTry
  simp

@[simp] theorem commitTry_rising (s : State) (p : Nat) (ix : Nat) (hs : s.regs.rising = true) :
    (State.commitTry s p ix).regs.rising = true := by
  unfold State.commitTry
  simp (maxDischargeDepth := 60) [hs]

@[simp] theorem satCount_keeps (s : State) (p : Nat) (loc : Loc) (n : Nat) :
    (State.satCount s p loc n).pending = s.pending ∧ (State.satCount s p loc n).sdram = s.sdram ∧ (State.satCount s p loc n).fuse = s.fuse ∧ (State.satCount s p loc n).sem = s.sem ∧ (State.satCount s p loc n).dom = s.dom ∧ (State.satCount s p loc n).time = s.time ∧ (State.satCount s p loc n).kp = s.kp ∧ (State.satCount s p loc n).act = s.act ∧ (State.satCount s p loc n).mirror = s.mirror := by
  unfold State.satCount
  simp

@[simp] theorem satCount_rising (s : State) (p : Nat) (loc : Loc) (n : Nat) (hs : s.regs.rising = true) :
    (State.satCount s p loc n).regs.rising = true := by
  unfold State.satCount
  simp (maxDischargeDepth := 60) [hs]

@[simp] theorem iqParcel_keeps (s : State) (p : Nat) (stream : Nat) (gain : Nat) (headroom : Nat) (float : Bool) (span : Nat) (sat : Loc) (ys : List Smp) :
    (State.iqParcel s p stream gain headroom float span sat ys).pending = s.pending ∧ (State.iqParcel s p stream gain headroom float span sat ys).sdram = s.sdram ∧ (State.iqParcel s p stream gain headroom float span sat ys).fuse = s.fuse ∧ (State.iqParcel s p stream gain headroom float span sat ys).sem = s.sem ∧ (State.iqParcel s p stream gain headroom float span sat ys).dom = s.dom ∧ (State.iqParcel s p stream gain headroom float span sat ys).time = s.time ∧ (State.iqParcel s p stream gain headroom float span sat ys).kp = s.kp ∧ (State.iqParcel s p stream gain headroom float span sat ys).act = s.act ∧ (State.iqParcel s p stream gain headroom float span sat ys).mirror = s.mirror := by
  unfold State.iqParcel
  try dsimp only
  (repeat' split) <;> simp

@[simp] theorem iqParcel_rising (s : State) (p : Nat) (stream : Nat) (gain : Nat) (headroom : Nat) (float : Bool) (span : Nat) (sat : Loc) (ys : List Smp) (hs : s.regs.rising = true) :
    (State.iqParcel s p stream gain headroom float span sat ys).regs.rising = true := by
  unfold State.iqParcel
  try dsimp only
  (repeat' split) <;> simp (maxDischargeDepth := 60) [hs]

@[simp] theorem baseParcel_keeps (s : State) (p : Nat) (stream : Nat) (c : PathCfg) (ys : List Smp) :
    (State.baseParcel s p stream c ys).pending = s.pending ∧ (State.baseParcel s p stream c ys).sdram = s.sdram ∧ (State.baseParcel s p stream c ys).fuse = s.fuse ∧ (State.baseParcel s p stream c ys).sem = s.sem ∧ (State.baseParcel s p stream c ys).dom = s.dom ∧ (State.baseParcel s p stream c ys).time = s.time ∧ (State.baseParcel s p stream c ys).kp = s.kp ∧ (State.baseParcel s p stream c ys).act = s.act ∧ (State.baseParcel s p stream c ys).mirror = s.mirror := by
  unfold State.baseParcel
  simp

@[simp] theorem baseParcel_rising (s : State) (p : Nat) (stream : Nat) (c : PathCfg) (ys : List Smp) (hs : s.regs.rising = true) :
    (State.baseParcel s p stream c ys).regs.rising = true := by
  unfold State.baseParcel
  simp (maxDischargeDepth := 60) [hs]

@[simp] theorem baseOut_keeps (s : State) (p : Nat) (stream : Nat) (y0 : List Smp) :
    (State.baseOut s p stream y0).pending = s.pending ∧ (State.baseOut s p stream y0).sdram = s.sdram ∧ (State.baseOut s p stream y0).fuse = s.fuse ∧ (State.baseOut s p stream y0).sem = s.sem ∧ (State.baseOut s p stream y0).dom = s.dom ∧ (State.baseOut s p stream y0).time = s.time ∧ (State.baseOut s p stream y0).kp = s.kp ∧ (State.baseOut s p stream y0).act = s.act ∧ (State.baseOut s p stream y0).mirror = s.mirror := by
  fun_induction State.baseOut s p stream y0; all_goals first
      | (simp_all +zetaDelta; done)
      | (simp only [*]; (try simp +zetaDelta only []); (repeat' split) <;> simp_all; done)

@[simp] theorem baseOut_rising (s : State) (p : Nat) (stream : Nat) (y0 : List Smp) (hs : s.regs.rising = true) :
    (State.baseOut s p stream y0).regs.rising = true := by
  fun_induction State.baseOut s p stream y0 <;> first | (simp_all (maxDischargeDepth := 60) +zetaDelta; done) | (rename_i ih; apply ih; (try simp +zetaDelta only []); (repeat' split) <;> simp_all (maxDischargeDepth := 60); done)

@[simp] theorem zoomParcel_keeps (s : State) (p : Nat) (w : Nat) (c : PathCfg) (ys : List Smp) :
    (State.zoomParcel s p w c ys).pending = s.pending ∧ (State.zoomParcel s p w c ys).sdram = s.sdram ∧ (State.zoomParcel s p w c ys).fuse = s.fuse ∧ (State.zoomParcel s p w c ys).sem = s.sem ∧ (State.zoomParcel s p w c ys).dom = s.dom ∧ (State.zoomParcel s p w c ys).time = s.time ∧ (State.zoomParcel s p w c ys).kp = s.kp ∧ (State.zoomParcel s p w c ys).act = s.act := by
  unfold State.zoomParcel
  simp

@[simp] theorem zoomParcel_rising (s : State) (p : Nat) (w : Nat) (c : PathCfg) (ys : List Smp) (hs : s.regs.rising = true) :
    (State.zoomParcel s p w c ys).regs.rising = true := by
  unfold State.zoomParcel
  simp (maxDischargeDepth := 60) [hs]

@[simp] theorem zoomParcel_mirrorWf (s : State) (p : Nat) (w : Nat) (c : PathCfg) (ys : List Smp) (hs : s.mirror.words.wf 0#32 = true) :
    (State.zoomParcel s p w c ys).mirror.words.wf 0#32 = true := by
  unfold State.zoomParcel
  simp (maxDischargeDepth := 60) [hs]

@[simp] theorem zoomOut_keeps (s : State) (p : Nat) (w : Nat) (y0 : List Smp) :
    (State.zoomOut s p w y0).pending = s.pending ∧ (State.zoomOut s p w y0).sdram = s.sdram ∧ (State.zoomOut s p w y0).fuse = s.fuse ∧ (State.zoomOut s p w y0).sem = s.sem ∧ (State.zoomOut s p w y0).dom = s.dom ∧ (State.zoomOut s p w y0).time = s.time ∧ (State.zoomOut s p w y0).kp = s.kp ∧ (State.zoomOut s p w y0).act = s.act := by
  fun_induction State.zoomOut s p w y0; all_goals first
      | (simp_all +zetaDelta; done)
      | (simp only [*]; (try simp +zetaDelta only []); (repeat' split) <;> simp_all; done)

@[simp] theorem zoomOut_rising (s : State) (p : Nat) (w : Nat) (y0 : List Smp) (hs : s.regs.rising = true) :
    (State.zoomOut s p w y0).regs.rising = true := by
  fun_induction State.zoomOut s p w y0 <;> first | (simp_all (maxDischargeDepth := 60) +zetaDelta; done) | (rename_i ih; apply ih; (try simp +zetaDelta only []); (repeat' split) <;> simp_all (maxDischargeDepth := 60); done)

@[simp] theorem zoomOut_mirrorWf (s : State) (p : Nat) (w : Nat) (y0 : List Smp) (hs : s.mirror.words.wf 0#32 = true) :
    (State.zoomOut s p w y0).mirror.words.wf 0#32 = true := by
  fun_induction State.zoomOut s p w y0 <;> first | (simp_all (maxDischargeDepth := 60) +zetaDelta; done) | (rename_i ih; apply ih; (try simp +zetaDelta only []); (repeat' split) <;> simp_all (maxDischargeDepth := 60); done)

@[simp] theorem zoomRun_keeps (s : State) (p : Nat) (base : List Smp) (y0 : List Nat) (y1 : List (Nat × List Smp)) :
    (State.zoomRun s p base y0 y1).1.pending = s.pending ∧ (State.zoomRun s p base y0 y1).1.sdram = s.sdram ∧ (State.zoomRun s p base y0 y1).1.fuse = s.fuse ∧ (State.zoomRun s p base y0 y1).1.sem = s.sem ∧ (State.zoomRun s p base y0 y1).1.dom = s.dom ∧ (State.zoomRun s p base y0 y1).1.time = s.time ∧ (State.zoomRun s p base y0 y1).1.kp = s.kp ∧ (State.zoomRun s p base y0 y1).1.act = s.act := by
  fun_induction State.zoomRun s p base y0 y1; all_goals first
      | (simp_all +zetaDelta; done)
      | (simp only [*]; (try simp +zetaDelta only []); (repeat' split) <;> simp_all; done)

@[simp] theorem zoomRun_rising (s : State) (p : Nat) (base : List Smp) (y0 : List Nat) (y1 : List (Nat × List Smp)) (hs : s.regs.rising = true) :
    (State.zoomRun s p base y0 y1).1.regs.rising = true := by
  fun_induction State.zoomRun s p base y0 y1 <;> (simp_all (maxDischargeDepth := 60) +zetaDelta; done)

@[simp] theorem zoomRun_mirrorWf (s : State) (p : Nat) (base : List Smp) (y0 : List Nat) (y1 : List (Nat × List Smp)) (hs : s.mirror.words.wf 0#32 = true) :
    (State.zoomRun s p base y0 y1).1.mirror.words.wf 0#32 = true := by
  fun_induction State.zoomRun s p base y0 y1 <;> (simp_all (maxDischargeDepth := 60) +zetaDelta; done)

@[simp] theorem ddcFeed_keeps (s : State) (p : Nat) (base : List Smp) :
    (State.ddcFeed s p base).1.pending = s.pending ∧ (State.ddcFeed s p base).1.sdram = s.sdram ∧ (State.ddcFeed s p base).1.fuse = s.fuse ∧ (State.ddcFeed s p base).1.sem = s.sem ∧ (State.ddcFeed s p base).1.dom = s.dom ∧ (State.ddcFeed s p base).1.time = s.time ∧ (State.ddcFeed s p base).1.kp = s.kp ∧ (State.ddcFeed s p base).1.act = s.act := by
  unfold State.ddcFeed
  try dsimp only
  (repeat' split) <;> simp

@[simp] theorem ddcFeed_rising (s : State) (p : Nat) (base : List Smp) (hs : s.regs.rising = true) :
    (State.ddcFeed s p base).1.regs.rising = true := by
  unfold State.ddcFeed
  try dsimp only
  (repeat' split) <;> simp (maxDischargeDepth := 60) [hs]

@[simp] theorem ddcFeed_mirrorWf (s : State) (p : Nat) (base : List Smp) (hs : s.mirror.words.wf 0#32 = true) :
    (State.ddcFeed s p base).1.mirror.words.wf 0#32 = true := by
  unfold State.ddcFeed
  try dsimp only
  (repeat' split) <;> simp (maxDischargeDepth := 60) [hs]

@[simp] theorem ddcTake_keeps (s : State) (p : Nat) (x : Parcel) :
    (State.ddcTake s p x).1.pending = s.pending ∧ (State.ddcTake s p x).1.sdram = s.sdram ∧ (State.ddcTake s p x).1.fuse = s.fuse ∧ (State.ddcTake s p x).1.sem = s.sem ∧ (State.ddcTake s p x).1.dom = s.dom ∧ (State.ddcTake s p x).1.time = s.time ∧ (State.ddcTake s p x).1.kp = s.kp ∧ (State.ddcTake s p x).1.act = s.act := by
  unfold State.ddcTake
  try dsimp only
  (repeat' split) <;> simp

@[simp] theorem ddcTake_rising (s : State) (p : Nat) (x : Parcel) (hs : s.regs.rising = true) :
    (State.ddcTake s p x).1.regs.rising = true := by
  unfold State.ddcTake
  try dsimp only
  (repeat' split) <;> simp (maxDischargeDepth := 60) [hs]

@[simp] theorem ddcTake_mirrorWf (s : State) (p : Nat) (x : Parcel) (hs : s.mirror.words.wf 0#32 = true) :
    (State.ddcTake s p x).1.mirror.words.wf 0#32 = true := by
  unfold State.ddcTake
  try dsimp only
  (repeat' split) <;> simp (maxDischargeDepth := 60) [hs]

@[simp] theorem setWin_keeps (s : State) (p : Nat) (w : Nat) (x : WinSt) :
    (State.setWin s p w x).pending = s.pending ∧ (State.setWin s p w x).sdram = s.sdram ∧ (State.setWin s p w x).fuse = s.fuse ∧ (State.setWin s p w x).sem = s.sem ∧ (State.setWin s p w x).dom = s.dom ∧ (State.setWin s p w x).time = s.time ∧ (State.setWin s p w x).kp = s.kp ∧ (State.setWin s p w x).regs = s.regs ∧ (State.setWin s p w x).act = s.act ∧ (State.setWin s p w x).mirror = s.mirror := by
  unfold State.setWin
  simp

@[simp] theorem fadeRequest_keeps (s : State) (p : Nat) (w : Nat) (target : Bool) (len : Nat) :
    (State.fadeRequest s p w target len).pending = s.pending ∧ (State.fadeRequest s p w target len).sdram = s.sdram ∧ (State.fadeRequest s p w target len).fuse = s.fuse ∧ (State.fadeRequest s p w target len).sem = s.sem ∧ (State.fadeRequest s p w target len).dom = s.dom ∧ (State.fadeRequest s p w target len).time = s.time ∧ (State.fadeRequest s p w target len).kp = s.kp ∧ (State.fadeRequest s p w target len).act = s.act ∧ (State.fadeRequest s p w target len).mirror = s.mirror := by
  unfold State.fadeRequest
  simp

@[simp] theorem fadeRequest_rising (s : State) (p : Nat) (w : Nat) (target : Bool) (len : Nat) (hs : s.regs.rising = true) :
    (State.fadeRequest s p w target len).regs.rising = true := by
  unfold State.fadeRequest
  simp (maxDischargeDepth := 60) [hs]

@[simp] theorem coefWrite_keeps (s : State) (p : Nat) (w : Nat) (v : Nat) :
    (State.coefWrite s p w v).pending = s.pending ∧ (State.coefWrite s p w v).sdram = s.sdram ∧ (State.coefWrite s p w v).fuse = s.fuse ∧ (State.coefWrite s p w v).sem = s.sem ∧ (State.coefWrite s p w v).dom = s.dom ∧ (State.coefWrite s p w v).time = s.time ∧ (State.coefWrite s p w v).kp = s.kp ∧ (State.coefWrite s p w v).act = s.act ∧ (State.coefWrite s p w v).mirror = s.mirror := by
  unfold State.coefWrite
  simp

@[simp] theorem coefWrite_rising (s : State) (p : Nat) (w : Nat) (v : Nat) (hs : s.regs.rising = true) :
    (State.coefWrite s p w v).regs.rising = true := by
  unfold State.coefWrite
  simp (maxDischargeDepth := 60) [hs]

@[simp] theorem coefRead_keeps (s : State) (p : Nat) (w : Nat) :
    (State.coefRead s p w).pending = s.pending ∧ (State.coefRead s p w).sdram = s.sdram ∧ (State.coefRead s p w).fuse = s.fuse ∧ (State.coefRead s p w).sem = s.sem ∧ (State.coefRead s p w).dom = s.dom ∧ (State.coefRead s p w).time = s.time ∧ (State.coefRead s p w).kp = s.kp ∧ (State.coefRead s p w).act = s.act ∧ (State.coefRead s p w).mirror = s.mirror := by
  unfold State.coefRead
  simp

@[simp] theorem coefRead_rising (s : State) (p : Nat) (w : Nat) (hs : s.regs.rising = true) :
    (State.coefRead s p w).regs.rising = true := by
  unfold State.coefRead
  simp (maxDischargeDepth := 60) [hs]

@[simp] theorem ddcCommitWrite_keeps (s : State) (p : Nat) (v : Nat) :
    (State.ddcCommitWrite s p v).pending = s.pending ∧ (State.ddcCommitWrite s p v).sdram = s.sdram ∧ (State.ddcCommitWrite s p v).fuse = s.fuse ∧ (State.ddcCommitWrite s p v).sem = s.sem ∧ (State.ddcCommitWrite s p v).dom = s.dom ∧ (State.ddcCommitWrite s p v).time = s.time ∧ (State.ddcCommitWrite s p v).kp = s.kp ∧ (State.ddcCommitWrite s p v).act = s.act ∧ (State.ddcCommitWrite s p v).mirror = s.mirror := by
  unfold State.ddcCommitWrite
  simp

@[simp] theorem ddcCommitWrite_rising (s : State) (p : Nat) (v : Nat) (hs : s.regs.rising = true) :
    (State.ddcCommitWrite s p v).regs.rising = true := by
  unfold State.ddcCommitWrite
  simp (maxDischargeDepth := 60) [hs]

@[simp] theorem commitNow_keeps (s : State) (p : Nat) :
    (State.commitNow s p).pending = s.pending ∧ (State.commitNow s p).sdram = s.sdram ∧ (State.commitNow s p).fuse = s.fuse ∧ (State.commitNow s p).sem = s.sem ∧ (State.commitNow s p).dom = s.dom ∧ (State.commitNow s p).time = s.time ∧ (State.commitNow s p).kp = s.kp ∧ (State.commitNow s p).act = s.act ∧ (State.commitNow s p).mirror = s.mirror := by
  unfold State.commitNow
  simp

@[simp] theorem commitNow_rising (s : State) (p : Nat) (hs : s.regs.rising = true) :
    (State.commitNow s p).regs.rising = true := by
  unfold State.commitNow
  simp (maxDischargeDepth := 60) +contextual [hs]

@[simp] theorem commitDue_keeps (s : State) (p seq : Nat) :
    (State.commitDue s p seq).pending = s.pending ∧ (State.commitDue s p seq).sdram = s.sdram ∧ (State.commitDue s p seq).fuse = s.fuse ∧ (State.commitDue s p seq).sem = s.sem ∧ (State.commitDue s p seq).dom = s.dom ∧ (State.commitDue s p seq).time = s.time ∧ (State.commitDue s p seq).kp = s.kp ∧ (State.commitDue s p seq).act = s.act ∧ (State.commitDue s p seq).mirror = s.mirror := by
  unfold State.commitDue
  simp

@[simp] theorem commitDue_rising (s : State) (p seq : Nat) (hs : s.regs.rising = true) :
    (State.commitDue s p seq).regs.rising = true := by
  unfold State.commitDue
  simp (maxDischargeDepth := 60) +contextual [hs]

@[simp] theorem zmSwapWrite_keeps (s : State) (p : Nat) (w : Nat) (v : Nat) :
    (State.zmSwapWrite s p w v).pending = s.pending ∧ (State.zmSwapWrite s p w v).sdram = s.sdram ∧ (State.zmSwapWrite s p w v).fuse = s.fuse ∧ (State.zmSwapWrite s p w v).sem = s.sem ∧ (State.zmSwapWrite s p w v).dom = s.dom ∧ (State.zmSwapWrite s p w v).time = s.time ∧ (State.zmSwapWrite s p w v).kp = s.kp ∧ (State.zmSwapWrite s p w v).act = s.act ∧ (State.zmSwapWrite s p w v).mirror = s.mirror := by
  unfold State.zmSwapWrite
  simp

@[simp] theorem zmSwapWrite_rising (s : State) (p : Nat) (w : Nat) (v : Nat) (hs : s.regs.rising = true) :
    (State.zmSwapWrite s p w v).regs.rising = true := by
  unfold State.zmSwapWrite
  simp (maxDischargeDepth := 60) [hs]
end Sys2Proof.Machine.State
end

