-- ==== Sys2Proof/Laws/KeepXf.lean ====
section
/-! SUPPORT. What the operations of Machine/Xf.lean leave alone: memory, fuses, semaphores, domains, time, the queue. -/

namespace Sys2Proof.Machine.State

@[simp] theorem setCond_keeps (s : State) (c : Nat) (x : CondSt) :
    (State.setCond s c x).pending = s.pending ∧ (State.setCond s c x).sdram = s.sdram ∧ (State.setCond s c x).fuse = s.fuse ∧ (State.setCond s c x).sem = s.sem ∧ (State.setCond s c x).dom = s.dom ∧ (State.setCond s c x).time = s.time ∧ (State.setCond s c x).kp = s.kp ∧ (State.setCond s c x).regs = s.regs ∧ (State.setCond s c x).act = s.act ∧ (State.setCond s c x).mirror = s.mirror := by
  unfold State.setCond
  simp

@[simp] theorem dueTo_keeps (s : State) (cs : List Nat) (ds : Nat → List EvalDue) :
    (State.dueTo s cs ds).pending = s.pending ∧ (State.dueTo s cs ds).sdram = s.sdram ∧ (State.dueTo s cs ds).fuse = s.fuse ∧ (State.dueTo s cs ds).sem = s.sem ∧ (State.dueTo s cs ds).dom = s.dom ∧ (State.dueTo s cs ds).time = s.time ∧ (State.dueTo s cs ds).kp = s.kp ∧ (State.dueTo s cs ds).regs = s.regs ∧ (State.dueTo s cs ds).act = s.act ∧ (State.dueTo s cs ds).mirror = s.mirror := by
  fun_induction State.dueTo s cs ds; all_goals first
      | (simp_all +zetaDelta; done)
      | (simp only [*]; (try simp +zetaDelta only []); (repeat' split) <;> simp_all; done)

@[simp] theorem setInst_keeps (s : State) (p : Nat) (i : Nat) (x : XfSt) :
    (State.setInst s p i x).pending = s.pending ∧ (State.setInst s p i x).sdram = s.sdram ∧ (State.setInst s p i x).fuse = s.fuse ∧ (State.setInst s p i x).sem = s.sem ∧ (State.setInst s p i x).dom = s.dom ∧ (State.setInst s p i x).time = s.time ∧ (State.setInst s p i x).kp = s.kp ∧ (State.setInst s p i x).regs = s.regs ∧ (State.setInst s p i x).act = s.act ∧ (State.setInst s p i x).mirror = s.mirror := by
  unfold State.setInst
  simp

@[simp] theorem skTurn_keeps (s : State) (p i j : Nat) :
    (State.skTurn s p i j).pending = s.pending ∧ (State.skTurn s p i j).sdram = s.sdram ∧ (State.skTurn s p i j).fuse = s.fuse ∧ (State.skTurn s p i j).sem = s.sem ∧ (State.skTurn s p i j).dom = s.dom ∧ (State.skTurn s p i j).time = s.time ∧ (State.skTurn s p i j).kp = s.kp ∧ (State.skTurn s p i j).regs = s.regs ∧ (State.skTurn s p i j).act = s.act ∧ (State.skTurn s p i j).mirror = s.mirror := by
  unfold State.skTurn
  simp

@[simp] theorem instTurn_keeps (s : State) (p : Nat) (i : Nat) :
    (State.instTurn s p i).pending = s.pending ∧ (State.instTurn s p i).sdram = s.sdram ∧ (State.instTurn s p i).fuse = s.fuse ∧ (State.instTurn s p i).sem = s.sem ∧ (State.instTurn s p i).dom = s.dom ∧ (State.instTurn s p i).time = s.time ∧ (State.instTurn s p i).kp = s.kp ∧ (State.instTurn s p i).regs = s.regs ∧ (State.instTurn s p i).act = s.act ∧ (State.instTurn s p i).mirror = s.mirror := by
  unfold State.instTurn
  simp

@[simp] theorem xfFeed_keeps (s : State) (p : Nat) (source : Nat) (ys : List Smp) (y0 : List Nat) :
    (State.xfFeed s p source ys y0).pending = s.pending ∧ (State.xfFeed s p source ys y0).sdram = s.sdram ∧ (State.xfFeed s p source ys y0).fuse = s.fuse ∧ (State.xfFeed s p source ys y0).sem = s.sem ∧ (State.xfFeed s p source ys y0).dom = s.dom ∧ (State.xfFeed s p source ys y0).time = s.time ∧ (State.xfFeed s p source ys y0).kp = s.kp ∧ (State.xfFeed s p source ys y0).regs = s.regs ∧ (State.xfFeed s p source ys y0).act = s.act ∧ (State.xfFeed s p source ys y0).mirror = s.mirror := by
  fun_induction State.xfFeed s p source ys y0; all_goals first
      | (simp_all +zetaDelta; done)
      | (simp only [*]; (try simp +zetaDelta only []); (repeat' split) <;> simp_all; done)

@[simp] theorem spectrum_keeps (s : State) (p : Nat) (i : Nat) (g : XfGrid) (xs : List Smp) (first : Smp) (last : Smp) :
    (State.spectrum s p i g xs first last).pending = s.pending ∧ (State.spectrum s p i g xs first last).sdram = s.sdram ∧ (State.spectrum s p i g xs first last).fuse = s.fuse ∧ (State.spectrum s p i g xs first last).sem = s.sem ∧ (State.spectrum s p i g xs first last).dom = s.dom ∧ (State.spectrum s p i g xs first last).time = s.time ∧ (State.spectrum s p i g xs first last).kp = s.kp ∧ (State.spectrum s p i g xs first last).act = s.act ∧ (State.spectrum s p i g xs first last).mirror = s.mirror := by
  unfold State.spectrum
  simp

@[simp] theorem spectrum_rising (s : State) (p : Nat) (i : Nat) (g : XfGrid) (xs : List Smp) (first : Smp) (last : Smp) (hs : s.regs.rising = true) :
    (State.spectrum s p i g xs first last).regs.rising = true := by
  unfold State.spectrum
  simp (maxDischargeDepth := 60) [hs]

@[simp] theorem framePass_keeps (s : State) (p i j : Nat) (x : XfSt) :
    (State.framePass s p i j x).pending = s.pending ∧ (State.framePass s p i j x).sdram = s.sdram ∧ (State.framePass s p i j x).fuse = s.fuse ∧ (State.framePass s p i j x).sem = s.sem ∧ (State.framePass s p i j x).dom = s.dom ∧ (State.framePass s p i j x).time = s.time ∧ (State.framePass s p i j x).kp = s.kp ∧ (State.framePass s p i j x).regs = s.regs ∧ (State.framePass s p i j x).act = s.act ∧ (State.framePass s p i j x).mirror = s.mirror := by
  unfold State.framePass
  simp

@[simp] theorem frameNext_keeps (s : State) (p : Nat) (i : Nat) :
    (State.frameNext s p i).pending = s.pending ∧ (State.frameNext s p i).sdram = s.sdram ∧ (State.frameNext s p i).fuse = s.fuse ∧ (State.frameNext s p i).sem = s.sem ∧ (State.frameNext s p i).dom = s.dom ∧ (State.frameNext s p i).time = s.time ∧ (State.frameNext s p i).kp = s.kp ∧ (State.frameNext s p i).act = s.act ∧ (State.frameNext s p i).mirror = s.mirror := by
  unfold State.frameNext
  try dsimp only
  (repeat' split) <;> simp

@[simp] theorem frameNext_rising (s : State) (p : Nat) (i : Nat) (hs : s.regs.rising = true) :
    (State.frameNext s p i).regs.rising = true := by
  unfold State.frameNext
  try dsimp only
  (repeat' split) <;> simp (maxDischargeDepth := 60) [hs]

@[simp] theorem traces_keeps (s : State) (p i : Nat) (d : DetIval) (y0 : List Nat) :
    (State.traces s p i d y0).pending = s.pending ∧ (State.traces s p i d y0).sdram = s.sdram ∧ (State.traces s p i d y0).fuse = s.fuse ∧ (State.traces s p i d y0).sem = s.sem ∧ (State.traces s p i d y0).dom = s.dom ∧ (State.traces s p i d y0).time = s.time ∧ (State.traces s p i d y0).kp = s.kp ∧ (State.traces s p i d y0).act = s.act ∧ (State.traces s p i d y0).mirror = s.mirror := by
  fun_induction State.traces s p i d y0; all_goals first
      | (simp_all +zetaDelta; done)
      | (simp only [*]; (try simp +zetaDelta only []); (repeat' split) <;> simp_all; done)

@[simp] theorem traces_rising (s : State) (p i : Nat) (d : DetIval) (y0 : List Nat) (hs : s.regs.rising = true) :
    (State.traces s p i d y0).regs.rising = true := by
  fun_induction State.traces s p i d y0 <;> (simp_all (maxDischargeDepth := 60) +zetaDelta; done)

@[simp] theorem bandDue_keeps (s : State) (p b : Nat) (d : DetIval) (lo hi : Nat) (active : Bool) :
    (State.bandDue s p b d lo hi active).pending = s.pending ∧ (State.bandDue s p b d lo hi active).sdram = s.sdram ∧ (State.bandDue s p b d lo hi active).fuse = s.fuse ∧ (State.bandDue s p b d lo hi active).sem = s.sem ∧ (State.bandDue s p b d lo hi active).dom = s.dom ∧ (State.bandDue s p b d lo hi active).time = s.time ∧ (State.bandDue s p b d lo hi active).kp = s.kp ∧ (State.bandDue s p b d lo hi active).regs = s.regs ∧ (State.bandDue s p b d lo hi active).act = s.act ∧ (State.bandDue s p b d lo hi active).mirror = s.mirror := by
  unfold State.bandDue
  simp

@[simp] theorem bandsReport_keeps (s : State) (p : Nat) (d : DetIval) (y0 : List Nat) :
    (State.bandsReport s p d y0).pending = s.pending ∧ (State.bandsReport s p d y0).sdram = s.sdram ∧ (State.bandsReport s p d y0).fuse = s.fuse ∧ (State.bandsReport s p d y0).sem = s.sem ∧ (State.bandsReport s p d y0).dom = s.dom ∧ (State.bandsReport s p d y0).time = s.time ∧ (State.bandsReport s p d y0).kp = s.kp ∧ (State.bandsReport s p d y0).regs = s.regs ∧ (State.bandsReport s p d y0).act = s.act := by
  fun_induction State.bandsReport s p d y0; all_goals first
      | (simp_all +zetaDelta; done)
      | (simp only [*]; (try simp +zetaDelta only []); (repeat' split) <;> simp_all; done)

@[simp] theorem bandsReport_mirrorWf (s : State) (p : Nat) (d : DetIval) (y0 : List Nat) (hs : s.mirror.words.wf 0#32 = true) :
    (State.bandsReport s p d y0).mirror.words.wf 0#32 = true := by
  fun_induction State.bandsReport s p d y0 <;> (simp_all (maxDischargeDepth := 60) +zetaDelta; done)

@[simp] theorem detDeliver_keeps (s : State) (p : Nat) (i : Nat) (d : DetIval) :
    (State.detDeliver s p i d).pending = s.pending ∧ (State.detDeliver s p i d).sdram = s.sdram ∧ (State.detDeliver s p i d).fuse = s.fuse ∧ (State.detDeliver s p i d).sem = s.sem ∧ (State.detDeliver s p i d).dom = s.dom ∧ (State.detDeliver s p i d).time = s.time ∧ (State.detDeliver s p i d).kp = s.kp ∧ (State.detDeliver s p i d).act = s.act := by
  unfold State.detDeliver
  simp

@[simp] theorem detDeliver_rising (s : State) (p : Nat) (i : Nat) (d : DetIval) (hs : s.regs.rising = true) :
    (State.detDeliver s p i d).regs.rising = true := by
  unfold State.detDeliver
  simp (maxDischargeDepth := 60) [hs]

@[simp] theorem detDeliver_mirrorWf (s : State) (p : Nat) (i : Nat) (d : DetIval) (hs : s.mirror.words.wf 0#32 = true) :
    (State.detDeliver s p i d).mirror.words.wf 0#32 = true := by
  unfold State.detDeliver
  simp (maxDischargeDepth := 60) [hs]

@[simp] theorem skDeliver_keeps (s : State) (p : Nat) (b : SkBlk) :
    (State.skDeliver s p b).pending = s.pending ∧ (State.skDeliver s p b).sdram = s.sdram ∧ (State.skDeliver s p b).fuse = s.fuse ∧ (State.skDeliver s p b).sem = s.sem ∧ (State.skDeliver s p b).dom = s.dom ∧ (State.skDeliver s p b).time = s.time ∧ (State.skDeliver s p b).kp = s.kp ∧ (State.skDeliver s p b).act = s.act ∧ (State.skDeliver s p b).mirror = s.mirror := by
  unfold State.skDeliver
  simp

@[simp] theorem skDeliver_rising (s : State) (p : Nat) (b : SkBlk) (hs : s.regs.rising = true) :
    (State.skDeliver s p b).regs.rising = true := by
  unfold State.skDeliver
  simp (maxDischargeDepth := 60) [hs]

@[simp] theorem chzSample_keeps (s : State) (p : Nat) (y : Smp) :
    (State.chzSample s p y).pending = s.pending ∧ (State.chzSample s p y).sdram = s.sdram ∧ (State.chzSample s p y).fuse = s.fuse ∧ (State.chzSample s p y).sem = s.sem ∧ (State.chzSample s p y).dom = s.dom ∧ (State.chzSample s p y).time = s.time ∧ (State.chzSample s p y).kp = s.kp ∧ (State.chzSample s p y).act = s.act ∧ (State.chzSample s p y).mirror = s.mirror := by
  unfold State.chzSample
  simp

@[simp] theorem chzSample_rising (s : State) (p : Nat) (y : Smp) (hs : s.regs.rising = true) :
    (State.chzSample s p y).regs.rising = true := by
  unfold State.chzSample
  simp (maxDischargeDepth := 60) [hs]

@[simp] theorem chzFeed_keeps (s : State) (p : Nat) (y0 : List Smp) :
    (State.chzFeed s p y0).pending = s.pending ∧ (State.chzFeed s p y0).sdram = s.sdram ∧ (State.chzFeed s p y0).fuse = s.fuse ∧ (State.chzFeed s p y0).sem = s.sem ∧ (State.chzFeed s p y0).dom = s.dom ∧ (State.chzFeed s p y0).time = s.time ∧ (State.chzFeed s p y0).kp = s.kp ∧ (State.chzFeed s p y0).act = s.act ∧ (State.chzFeed s p y0).mirror = s.mirror := by
  fun_induction State.chzFeed s p y0; all_goals first
      | (simp_all +zetaDelta; done)
      | (simp only [*]; (try simp +zetaDelta only []); (repeat' split) <;> simp_all; done)

@[simp] theorem chzFeed_rising (s : State) (p : Nat) (y0 : List Smp) (hs : s.regs.rising = true) :
    (State.chzFeed s p y0).regs.rising = true := by
  fun_induction State.chzFeed s p y0 <;> (simp_all (maxDischargeDepth := 60) +zetaDelta; done)

@[simp] theorem chzDeliver_keeps (s : State) (p : Nat) (x : ChzInt) :
    (State.chzDeliver s p x).pending = s.pending ∧ (State.chzDeliver s p x).sdram = s.sdram ∧ (State.chzDeliver s p x).fuse = s.fuse ∧ (State.chzDeliver s p x).sem = s.sem ∧ (State.chzDeliver s p x).dom = s.dom ∧ (State.chzDeliver s p x).time = s.time ∧ (State.chzDeliver s p x).kp = s.kp ∧ (State.chzDeliver s p x).act = s.act ∧ (State.chzDeliver s p x).mirror = s.mirror := by
  unfold State.chzDeliver
  simp

@[simp] theorem chzDeliver_rising (s : State) (p : Nat) (x : ChzInt) (hs : s.regs.rising = true) :
    (State.chzDeliver s p x).regs.rising = true := by
  unfold State.chzDeliver
  simp (maxDischargeDepth := 60) [hs]

@[simp] theorem envSample_keeps (s : State) (p : Nat) (y : Smp) :
    (State.envSample s p y).pending = s.pending ∧ (State.envSample s p y).sdram = s.sdram ∧ (State.envSample s p y).fuse = s.fuse ∧ (State.envSample s p y).sem = s.sem ∧ (State.envSample s p y).dom = s.dom ∧ (State.envSample s p y).time = s.time ∧ (State.envSample s p y).kp = s.kp ∧ (State.envSample s p y).regs = s.regs ∧ (State.envSample s p y).act = s.act ∧ (State.envSample s p y).mirror = s.mirror := by
  unfold State.envSample
  simp

@[simp] theorem envFeed_keeps (s : State) (p : Nat) (y0 : List Smp) :
    (State.envFeed s p y0).pending = s.pending ∧ (State.envFeed s p y0).sdram = s.sdram ∧ (State.envFeed s p y0).fuse = s.fuse ∧ (State.envFeed s p y0).sem = s.sem ∧ (State.envFeed s p y0).dom = s.dom ∧ (State.envFeed s p y0).time = s.time ∧ (State.envFeed s p y0).kp = s.kp ∧ (State.envFeed s p y0).regs = s.regs ∧ (State.envFeed s p y0).act = s.act ∧ (State.envFeed s p y0).mirror = s.mirror := by
  fun_induction State.envFeed s p y0; all_goals first
      | (simp_all +zetaDelta; done)
      | (simp only [*]; (try simp +zetaDelta only []); (repeat' split) <;> simp_all; done)

@[simp] theorem envDeliver_keeps (s : State) (p : Nat) (r : EnvRec) :
    (State.envDeliver s p r).pending = s.pending ∧ (State.envDeliver s p r).sdram = s.sdram ∧ (State.envDeliver s p r).fuse = s.fuse ∧ (State.envDeliver s p r).sem = s.sem ∧ (State.envDeliver s p r).dom = s.dom ∧ (State.envDeliver s p r).time = s.time ∧ (State.envDeliver s p r).kp = s.kp ∧ (State.envDeliver s p r).act = s.act ∧ (State.envDeliver s p r).mirror = s.mirror := by
  unfold State.envDeliver
  simp

@[simp] theorem envDeliver_rising (s : State) (p : Nat) (r : EnvRec) (hs : s.regs.rising = true) :
    (State.envDeliver s p r).regs.rising = true := by
  unfold State.envDeliver
  simp (maxDischargeDepth := 60) [hs]

@[simp] theorem winsFeed_keeps (s : State) (p : Nat) (y0 : List (Nat × List Smp)) :
    (State.winsFeed s p y0).pending = s.pending ∧ (State.winsFeed s p y0).sdram = s.sdram ∧ (State.winsFeed s p y0).fuse = s.fuse ∧ (State.winsFeed s p y0).sem = s.sem ∧ (State.winsFeed s p y0).dom = s.dom ∧ (State.winsFeed s p y0).time = s.time ∧ (State.winsFeed s p y0).kp = s.kp ∧ (State.winsFeed s p y0).regs = s.regs ∧ (State.winsFeed s p y0).act = s.act ∧ (State.winsFeed s p y0).mirror = s.mirror := by
  fun_induction State.winsFeed s p y0; all_goals first
      | (simp_all +zetaDelta; done)
      | (simp only [*]; (try simp +zetaDelta only []); (repeat' split) <;> simp_all; done)

@[simp] theorem xfTake_keeps (s : State) (p : Nat) (base : List Smp) (wins : List (Nat × List Smp)) :
    (State.xfTake s p base wins).pending = s.pending ∧ (State.xfTake s p base wins).sdram = s.sdram ∧ (State.xfTake s p base wins).fuse = s.fuse ∧ (State.xfTake s p base wins).sem = s.sem ∧ (State.xfTake s p base wins).dom = s.dom ∧ (State.xfTake s p base wins).time = s.time ∧ (State.xfTake s p base wins).kp = s.kp ∧ (State.xfTake s p base wins).act = s.act ∧ (State.xfTake s p base wins).mirror = s.mirror := by
  unfold State.xfTake
  simp

@[simp] theorem xfTake_rising (s : State) (p : Nat) (base : List Smp) (wins : List (Nat × List Smp)) (hs : s.regs.rising = true) :
    (State.xfTake s p base wins).regs.rising = true := by
  unfold State.xfTake
  simp (maxDischargeDepth := 60) [hs]

@[simp] theorem instsRest_keeps (s : State) (p limit : Nat) (y0 : List Nat) :
    (State.instsRest s p limit y0).pending = s.pending ∧ (State.instsRest s p limit y0).sdram = s.sdram ∧ (State.instsRest s p limit y0).fuse = s.fuse ∧ (State.instsRest s p limit y0).sem = s.sem ∧ (State.instsRest s p limit y0).dom = s.dom ∧ (State.instsRest s p limit y0).time = s.time ∧ (State.instsRest s p limit y0).kp = s.kp ∧ (State.instsRest s p limit y0).regs = s.regs ∧ (State.instsRest s p limit y0).act = s.act ∧ (State.instsRest s p limit y0).mirror = s.mirror := by
  fun_induction State.instsRest s p limit y0; all_goals first
      | (simp_all +zetaDelta; done)
      | (simp only [*]; (try simp +zetaDelta only []); (repeat' split) <;> simp_all; done)

@[simp] theorem xfRest_keeps (s : State) (p : Nat) :
    (State.xfRest s p).pending = s.pending ∧ (State.xfRest s p).sdram = s.sdram ∧ (State.xfRest s p).fuse = s.fuse ∧ (State.xfRest s p).sem = s.sem ∧ (State.xfRest s p).dom = s.dom ∧ (State.xfRest s p).time = s.time ∧ (State.xfRest s p).kp = s.kp ∧ (State.xfRest s p).regs = s.regs ∧ (State.xfRest s p).act = s.act ∧ (State.xfRest s p).mirror = s.mirror := by
  unfold State.xfRest
  simp

@[simp] theorem detCtlWrite_keeps (s : State) (p : Nat) (i : Nat) (v : Nat) :
    (State.detCtlWrite s p i v).pending = s.pending ∧ (State.detCtlWrite s p i v).sdram = s.sdram ∧ (State.detCtlWrite s p i v).fuse = s.fuse ∧ (State.detCtlWrite s p i v).sem = s.sem ∧ (State.detCtlWrite s p i v).dom = s.dom ∧ (State.detCtlWrite s p i v).time = s.time ∧ (State.detCtlWrite s p i v).kp = s.kp ∧ (State.detCtlWrite s p i v).act = s.act ∧ (State.detCtlWrite s p i v).mirror = s.mirror := by
  unfold State.detCtlWrite
  simp

@[simp] theorem detCtlWrite_rising (s : State) (p : Nat) (i : Nat) (v : Nat) (hs : s.regs.rising = true) :
    (State.detCtlWrite s p i v).regs.rising = true := by
  unfold State.detCtlWrite
  simp (maxDischargeDepth := 60) [hs]
end Sys2Proof.Machine.State
end

