-- ==== Sys2Proof/Laws/KeepTiuOps.lean ====
section
/-! SUPPORT. What the operations of Machine/TiuOps.lean leave alone: memory, fuses, semaphores, domains, time, the queue. -/

namespace Sys2Proof.Machine.State

@[simp] theorem statTake_keeps (s : State) (k : Nat) (v : Int) (bad : Bool) :
    (State.statTake s k v bad).pending = s.pending ∧ (State.statTake s k v bad).sdram = s.sdram ∧ (State.statTake s k v bad).fuse = s.fuse ∧ (State.statTake s k v bad).sem = s.sem ∧ (State.statTake s k v bad).dom = s.dom ∧ (State.statTake s k v bad).time = s.time ∧ (State.statTake s k v bad).kp = s.kp ∧ (State.statTake s k v bad).act = s.act ∧ (State.statTake s k v bad).mirror = s.mirror := by
  unfold State.statTake
  simp

@[simp] theorem statTake_rising (s : State) (k : Nat) (v : Int) (bad : Bool) (hs : s.regs.rising = true) :
    (State.statTake s k v bad).regs.rising = true := by
  unfold State.statTake
  simp (maxDischargeDepth := 60) [hs]

@[simp] theorem statStart_keeps (s : State) (k : Nat) (t : Option Nat) (bad : Bool) :
    (State.statStart s k t bad).pending = s.pending ∧ (State.statStart s k t bad).sdram = s.sdram ∧ (State.statStart s k t bad).fuse = s.fuse ∧ (State.statStart s k t bad).sem = s.sem ∧ (State.statStart s k t bad).dom = s.dom ∧ (State.statStart s k t bad).time = s.time ∧ (State.statStart s k t bad).kp = s.kp ∧ (State.statStart s k t bad).regs = s.regs ∧ (State.statStart s k t bad).act = s.act ∧ (State.statStart s k t bad).mirror = s.mirror := by
  unfold State.statStart
  simp

@[simp] theorem statEdge_keeps (s : State) (i : Nat) (t : Nat) (bad : Bool) (k : Nat) :
    (State.statEdge s i t bad k).pending = s.pending ∧ (State.statEdge s i t bad k).sdram = s.sdram ∧ (State.statEdge s i t bad k).fuse = s.fuse ∧ (State.statEdge s i t bad k).sem = s.sem ∧ (State.statEdge s i t bad k).dom = s.dom ∧ (State.statEdge s i t bad k).time = s.time ∧ (State.statEdge s i t bad k).kp = s.kp ∧ (State.statEdge s i t bad k).act = s.act ∧ (State.statEdge s i t bad k).mirror = s.mirror := by
  unfold State.statEdge
  try dsimp only
  (repeat' split) <;> simp

@[simp] theorem statEdge_rising (s : State) (i : Nat) (t : Nat) (bad : Bool) (k : Nat) (hs : s.regs.rising = true) :
    (State.statEdge s i t bad k).regs.rising = true := by
  unfold State.statEdge
  try dsimp only
  (repeat' split) <;> simp (maxDischargeDepth := 60) [hs]

@[simp] theorem statFeed_keeps (s : State) (i : Nat) (t : Nat) (bad : Bool) :
    (State.statFeed s i t bad).pending = s.pending ∧ (State.statFeed s i t bad).sdram = s.sdram ∧ (State.statFeed s i t bad).fuse = s.fuse ∧ (State.statFeed s i t bad).sem = s.sem ∧ (State.statFeed s i t bad).dom = s.dom ∧ (State.statFeed s i t bad).time = s.time ∧ (State.statFeed s i t bad).kp = s.kp ∧ (State.statFeed s i t bad).act = s.act ∧ (State.statFeed s i t bad).mirror = s.mirror := by
  unfold State.statFeed
  simp

@[simp] theorem statFeed_rising (s : State) (i : Nat) (t : Nat) (bad : Bool) (hs : s.regs.rising = true) :
    (State.statFeed s i t bad).regs.rising = true := by
  unfold State.statFeed
  simp (maxDischargeDepth := 60) [hs]

@[simp] theorem inputEvents_keeps (s : State) (sel : Nat) (k : Nat) :
    (State.inputEvents s sel k).pending = s.pending ∧ (State.inputEvents s sel k).sdram = s.sdram ∧ (State.inputEvents s sel k).fuse = s.fuse ∧ (State.inputEvents s sel k).sem = s.sem ∧ (State.inputEvents s sel k).dom = s.dom ∧ (State.inputEvents s sel k).time = s.time ∧ (State.inputEvents s sel k).kp = s.kp ∧ (State.inputEvents s sel k).act = s.act ∧ (State.inputEvents s sel k).mirror = s.mirror := by
  unfold State.inputEvents
  simp

@[simp] theorem inputEvents_rising (s : State) (sel : Nat) (k : Nat) (hs : s.regs.rising = true) :
    (State.inputEvents s sel k).regs.rising = true := by
  unfold State.inputEvents
  simp (maxDischargeDepth := 60) [hs]

@[simp] theorem condStuck_keeps (s : State) (v : Nat) (y0 : List Nat) :
    (State.condStuck s v y0).pending = s.pending ∧ (State.condStuck s v y0).sdram = s.sdram ∧ (State.condStuck s v y0).fuse = s.fuse ∧ (State.condStuck s v y0).sem = s.sem ∧ (State.condStuck s v y0).dom = s.dom ∧ (State.condStuck s v y0).time = s.time ∧ (State.condStuck s v y0).kp = s.kp ∧ (State.condStuck s v y0).act = s.act ∧ (State.condStuck s v y0).mirror = s.mirror := by
  fun_induction State.condStuck s v y0; all_goals first
      | (simp_all +zetaDelta; done)
      | (simp only [*]; (try simp +zetaDelta only []); (repeat' split) <;> simp_all; done)

@[simp] theorem condStuck_rising (s : State) (v : Nat) (y0 : List Nat) (hs : s.regs.rising = true) :
    (State.condStuck s v y0).regs.rising = true := by
  fun_induction State.condStuck s v y0 <;> (simp_all (maxDischargeDepth := 60) +zetaDelta; done)

@[simp] theorem enqueueAt_keeps (s : State) (c : Nat) (t : Stamp) (how : OccBy) :
    (State.enqueueAt s c t how).pending = s.pending ∧ (State.enqueueAt s c t how).sdram = s.sdram ∧ (State.enqueueAt s c t how).fuse = s.fuse ∧ (State.enqueueAt s c t how).sem = s.sem ∧ (State.enqueueAt s c t how).dom = s.dom ∧ (State.enqueueAt s c t how).time = s.time ∧ (State.enqueueAt s c t how).kp = s.kp ∧ (State.enqueueAt s c t how).regs = s.regs ∧ (State.enqueueAt s c t how).act = s.act ∧ (State.enqueueAt s c t how).mirror = s.mirror := by
  unfold State.enqueueAt
  simp

@[simp] theorem inputEdge_keeps (s : State) (sel : Nat) (active : Bool) (t : Stamp) :
    (State.inputEdge s sel active t).pending = s.pending ∧ (State.inputEdge s sel active t).sdram = s.sdram ∧ (State.inputEdge s sel active t).fuse = s.fuse ∧ (State.inputEdge s sel active t).sem = s.sem ∧ (State.inputEdge s sel active t).dom = s.dom ∧ (State.inputEdge s sel active t).time = s.time ∧ (State.inputEdge s sel active t).kp = s.kp ∧ (State.inputEdge s sel active t).regs = s.regs ∧ (State.inputEdge s sel active t).act = s.act ∧ (State.inputEdge s sel active t).mirror = s.mirror := by
  unfold State.inputEdge
  simp
end Sys2Proof.Machine.State
end

