-- ==== Sys2Proof/Laws/KeepCap.lean ====
section
/-! SUPPORT. What the operations of Machine/Cap.lean leave alone: memory, fuses, semaphores, domains, time, the queue. -/

namespace Sys2Proof.Machine.State

@[simp] theorem capShowOne_keeps (s : State) (r : Nat) :
    (State.capShowOne s r).pending = s.pending ∧ (State.capShowOne s r).sdram = s.sdram ∧ (State.capShowOne s r).fuse = s.fuse ∧ (State.capShowOne s r).sem = s.sem ∧ (State.capShowOne s r).dom = s.dom ∧ (State.capShowOne s r).time = s.time ∧ (State.capShowOne s r).kp = s.kp ∧ (State.capShowOne s r).act = s.act := by
  unfold State.capShowOne
  simp

@[simp] theorem capShowOne_rising (s : State) (r : Nat) (hs : s.regs.rising = true) :
    (State.capShowOne s r).regs.rising = true := by
  unfold State.capShowOne
  simp (maxDischargeDepth := 60) +contextual [hs]

@[simp] theorem capShowOne_mirrorWf (s : State) (r : Nat) (hs : s.mirror.words.wf 0#32 = true) :
    (State.capShowOne s r).mirror.words.wf 0#32 = true := by
  unfold State.capShowOne
  simp (maxDischargeDepth := 60) +contextual [hs]

@[simp] theorem capShow_keeps (s : State) (r : Nat) :
    (State.capShow s r).pending = s.pending ∧ (State.capShow s r).sdram = s.sdram ∧ (State.capShow s r).fuse = s.fuse ∧ (State.capShow s r).sem = s.sem ∧ (State.capShow s r).dom = s.dom ∧ (State.capShow s r).time = s.time ∧ (State.capShow s r).kp = s.kp ∧ (State.capShow s r).act = s.act := by
  unfold State.capShow
  split <;> simp

@[simp] theorem capShow_rising (s : State) (r : Nat) (hs : s.regs.rising = true) :
    (State.capShow s r).regs.rising = true := by
  unfold State.capShow
  try dsimp only
  (repeat' split) <;> simp (maxDischargeDepth := 60) +contextual [hs]

@[simp] theorem capShow_mirrorWf (s : State) (r : Nat) (hs : s.mirror.words.wf 0#32 = true) :
    (State.capShow s r).mirror.words.wf 0#32 = true := by
  unfold State.capShow
  try dsimp only
  (repeat' split) <;> simp (maxDischargeDepth := 60) +contextual [hs]

@[simp] theorem lease_keeps (s : State) (r : Nat) (c : LeaseClass) (n : Nat) :
    (State.lease s r c n).pending = s.pending ∧ (State.lease s r c n).sdram = s.sdram ∧ (State.lease s r c n).fuse = s.fuse ∧ (State.lease s r c n).sem = s.sem ∧ (State.lease s r c n).dom = s.dom ∧ (State.lease s r c n).time = s.time ∧ (State.lease s r c n).kp = s.kp ∧ (State.lease s r c n).act = s.act := by
  unfold State.lease
  simp

@[simp] theorem lease_rising (s : State) (r : Nat) (c : LeaseClass) (n : Nat) (hs : s.regs.rising = true) :
    (State.lease s r c n).regs.rising = true := by
  unfold State.lease
  simp (maxDischargeDepth := 60) [hs]

@[simp] theorem lease_mirrorWf (s : State) (r : Nat) (c : LeaseClass) (n : Nat) (hs : s.mirror.words.wf 0#32 = true) :
    (State.lease s r c n).mirror.words.wf 0#32 = true := by
  unfold State.lease
  simp (maxDischargeDepth := 60) [hs]

@[simp] theorem unlease_keeps (s : State) (r : Nat) (c : LeaseClass) (n : Nat) :
    (State.unlease s r c n).pending = s.pending ∧ (State.unlease s r c n).sdram = s.sdram ∧ (State.unlease s r c n).fuse = s.fuse ∧ (State.unlease s r c n).sem = s.sem ∧ (State.unlease s r c n).dom = s.dom ∧ (State.unlease s r c n).time = s.time ∧ (State.unlease s r c n).kp = s.kp ∧ (State.unlease s r c n).act = s.act := by
  unfold State.unlease
  simp

@[simp] theorem unlease_rising (s : State) (r : Nat) (c : LeaseClass) (n : Nat) (hs : s.regs.rising = true) :
    (State.unlease s r c n).regs.rising = true := by
  unfold State.unlease
  simp (maxDischargeDepth := 60) [hs]

@[simp] theorem unlease_mirrorWf (s : State) (r : Nat) (c : LeaseClass) (n : Nat) (hs : s.mirror.words.wf 0#32 = true) :
    (State.unlease s r c n).mirror.words.wf 0#32 = true := by
  unfold State.unlease
  simp (maxDischargeDepth := 60) [hs]

@[simp] theorem recLease_keeps (s : State) (r : Nat) (to_ : Option Nat) :
    (State.recLease s r to_).pending = s.pending ∧ (State.recLease s r to_).sdram = s.sdram ∧ (State.recLease s r to_).fuse = s.fuse ∧ (State.recLease s r to_).sem = s.sem ∧ (State.recLease s r to_).dom = s.dom ∧ (State.recLease s r to_).time = s.time ∧ (State.recLease s r to_).kp = s.kp ∧ (State.recLease s r to_).act = s.act := by
  unfold State.recLease
  try dsimp only
  (repeat' split) <;> simp

@[simp] theorem recLease_rising (s : State) (r : Nat) (to_ : Option Nat) (hs : s.regs.rising = true) :
    (State.recLease s r to_).regs.rising = true := by
  unfold State.recLease
  try dsimp only
  (repeat' split) <;> simp (maxDischargeDepth := 60) [hs]

@[simp] theorem recLease_mirrorWf (s : State) (r : Nat) (to_ : Option Nat) (hs : s.mirror.words.wf 0#32 = true) :
    (State.recLease s r to_).mirror.words.wf 0#32 = true := by
  unfold State.recLease
  try dsimp only
  (repeat' split) <;> simp (maxDischargeDepth := 60) [hs]

@[simp] theorem ringWrite_keeps (s : State) (r : Nat) (pos : Nat) (b : List Byte) :
    (State.ringWrite s r pos b).pending = s.pending ∧ (State.ringWrite s r pos b).fuse = s.fuse ∧ (State.ringWrite s r pos b).sem = s.sem ∧ (State.ringWrite s r pos b).dom = s.dom ∧ (State.ringWrite s r pos b).time = s.time ∧ (State.ringWrite s r pos b).kp = s.kp ∧ (State.ringWrite s r pos b).regs = s.regs ∧ (State.ringWrite s r pos b).act = s.act ∧ (State.ringWrite s r pos b).mirror = s.mirror := by
  unfold State.ringWrite
  simp

@[simp] theorem ringWrite_sdramWf (s : State) (r : Nat) (pos : Nat) (b : List Byte) (hs : s.sdram.wf 0#8 = true) :
    (State.ringWrite s r pos b).sdram.wf 0#8 = true := by
  unfold State.ringWrite
  simp (maxDischargeDepth := 60) [hs]

@[simp] theorem sinkWrite_keeps (s : State) (r : Nat) (b : List Byte) :
    (State.sinkWrite s r b).pending = s.pending ∧ (State.sinkWrite s r b).fuse = s.fuse ∧ (State.sinkWrite s r b).sem = s.sem ∧ (State.sinkWrite s r b).dom = s.dom ∧ (State.sinkWrite s r b).time = s.time ∧ (State.sinkWrite s r b).kp = s.kp ∧ (State.sinkWrite s r b).act = s.act := by
  unfold State.sinkWrite
  simp

@[simp] theorem sinkWrite_rising (s : State) (r : Nat) (b : List Byte) (hs : s.regs.rising = true) :
    (State.sinkWrite s r b).regs.rising = true := by
  unfold State.sinkWrite
  simp (maxDischargeDepth := 60) [hs]

@[simp] theorem sinkWrite_mirrorWf (s : State) (r : Nat) (b : List Byte) (hs : s.mirror.words.wf 0#32 = true) :
    (State.sinkWrite s r b).mirror.words.wf 0#32 = true := by
  unfold State.sinkWrite
  simp (maxDischargeDepth := 60) [hs]

@[simp] theorem sinkWrite_sdramWf (s : State) (r : Nat) (b : List Byte) (hs : s.sdram.wf 0#8 = true) :
    (State.sinkWrite s r b).sdram.wf 0#8 = true := by
  unfold State.sinkWrite
  simp (maxDischargeDepth := 60) [hs]

@[simp] theorem capFull_keeps (s : State) (r : Nat) :
    (State.capFull s r).pending = s.pending ∧ (State.capFull s r).sdram = s.sdram ∧ (State.capFull s r).fuse = s.fuse ∧ (State.capFull s r).sem = s.sem ∧ (State.capFull s r).dom = s.dom ∧ (State.capFull s r).time = s.time ∧ (State.capFull s r).kp = s.kp ∧ (State.capFull s r).act = s.act := by
  unfold State.capFull
  simp

@[simp] theorem capFull_rising (s : State) (r : Nat) (hs : s.regs.rising = true) :
    (State.capFull s r).regs.rising = true := by
  unfold State.capFull
  simp (maxDischargeDepth := 60) [hs]

@[simp] theorem capFull_mirrorWf (s : State) (r : Nat) (hs : s.mirror.words.wf 0#32 = true) :
    (State.capFull s r).mirror.words.wf 0#32 = true := by
  unfold State.capFull
  simp (maxDischargeDepth := 60) [hs]

@[simp] theorem capChunk_keeps (s : State) (r : Nat) (x : Parcel) (gap : Bool) (span : Nat × Option Nat) :
    (State.capChunk s r x gap span).pending = s.pending ∧ (State.capChunk s r x gap span).fuse = s.fuse ∧ (State.capChunk s r x gap span).sem = s.sem ∧ (State.capChunk s r x gap span).dom = s.dom ∧ (State.capChunk s r x gap span).time = s.time ∧ (State.capChunk s r x gap span).kp = s.kp ∧ (State.capChunk s r x gap span).act = s.act := by
  unfold State.capChunk
  simp

@[simp] theorem capChunk_sdramWf (s : State) (r : Nat) (x : Parcel) (gap : Bool) (span : Nat × Option Nat) (hs : s.sdram.wf 0#8 = true) :
    (State.capChunk s r x gap span).sdram.wf 0#8 = true := by
  unfold State.capChunk
  try dsimp only
  (repeat' split) <;> simp (maxDischargeDepth := 60) +contextual [hs]

@[simp] theorem capChunk_rising (s : State) (r : Nat) (x : Parcel) (gap : Bool) (span : Nat × Option Nat) (hs : s.regs.rising = true) :
    (State.capChunk s r x gap span).regs.rising = true := by
  unfold State.capChunk
  try dsimp only
  (repeat' split) <;> simp (maxDischargeDepth := 60) +contextual [hs]

@[simp] theorem capChunk_mirrorWf (s : State) (r : Nat) (x : Parcel) (gap : Bool) (span : Nat × Option Nat) (hs : s.mirror.words.wf 0#32 = true) :
    (State.capChunk s r x gap span).mirror.words.wf 0#32 = true := by
  unfold State.capChunk
  try dsimp only
  (repeat' split) <;> simp (maxDischargeDepth := 60) +contextual [hs]

@[simp] theorem capChunks_keeps (s : State) (r : Nat) (x : Parcel) (gap : Bool) (y0 : List (Nat × Option Nat)) :
    (State.capChunks s r x gap y0).pending = s.pending ∧ (State.capChunks s r x gap y0).fuse = s.fuse ∧ (State.capChunks s r x gap y0).sem = s.sem ∧ (State.capChunks s r x gap y0).dom = s.dom ∧ (State.capChunks s r x gap y0).time = s.time ∧ (State.capChunks s r x gap y0).kp = s.kp ∧ (State.capChunks s r x gap y0).act = s.act := by
  fun_induction State.capChunks s r x gap y0; all_goals first
      | (simp_all +zetaDelta; done)
      | (simp only [*]; (try simp +zetaDelta only []); (repeat' split) <;> simp_all; done)

@[simp] theorem capChunks_sdramWf (s : State) (r : Nat) (x : Parcel) (gap : Bool) (y0 : List (Nat × Option Nat)) (hs : s.sdram.wf 0#8 = true) :
    (State.capChunks s r x gap y0).sdram.wf 0#8 = true := by
  fun_induction State.capChunks s r x gap y0 <;> (simp_all (maxDischargeDepth := 60) +zetaDelta; done)

@[simp] theorem capChunks_rising (s : State) (r : Nat) (x : Parcel) (gap : Bool) (y0 : List (Nat × Option Nat)) (hs : s.regs.rising = true) :
    (State.capChunks s r x gap y0).regs.rising = true := by
  fun_induction State.capChunks s r x gap y0 <;> (simp_all (maxDischargeDepth := 60) +zetaDelta; done)

@[simp] theorem capChunks_mirrorWf (s : State) (r : Nat) (x : Parcel) (gap : Bool) (y0 : List (Nat × Option Nat)) (hs : s.mirror.words.wf 0#32 = true) :
    (State.capChunks s r x gap y0).mirror.words.wf 0#32 = true := by
  fun_induction State.capChunks s r x gap y0 <;> (simp_all (maxDischargeDepth := 60) +zetaDelta; done)

@[simp] theorem capFormat_keeps (s : State) (r : Nat) (x : Parcel) :
    (State.capFormat s r x).pending = s.pending ∧ (State.capFormat s r x).fuse = s.fuse ∧ (State.capFormat s r x).sem = s.sem ∧ (State.capFormat s r x).dom = s.dom ∧ (State.capFormat s r x).time = s.time ∧ (State.capFormat s r x).kp = s.kp ∧ (State.capFormat s r x).act = s.act := by
  unfold State.capFormat
  simp

@[simp] theorem capFormat_rising (s : State) (r : Nat) (x : Parcel) (hs : s.regs.rising = true) :
    (State.capFormat s r x).regs.rising = true := by
  unfold State.capFormat
  simp (maxDischargeDepth := 60) [hs]

@[simp] theorem capFormat_mirrorWf (s : State) (r : Nat) (x : Parcel) (hs : s.mirror.words.wf 0#32 = true) :
    (State.capFormat s r x).mirror.words.wf 0#32 = true := by
  unfold State.capFormat
  simp (maxDischargeDepth := 60) [hs]

@[simp] theorem capFormat_sdramWf (s : State) (r : Nat) (x : Parcel) (hs : s.sdram.wf 0#8 = true) :
    (State.capFormat s r x).sdram.wf 0#8 = true := by
  unfold State.capFormat
  simp (maxDischargeDepth := 60) [hs]

@[simp] theorem capEndNow_keeps (s : State) (r : Nat) (c : Capture) (u : Nat) (start : Nat) (stop : Nat) :
    (State.capEndNow s r c u start stop).pending = s.pending ∧ (State.capEndNow s r c u start stop).fuse = s.fuse ∧ (State.capEndNow s r c u start stop).sem = s.sem ∧ (State.capEndNow s r c u start stop).dom = s.dom ∧ (State.capEndNow s r c u start stop).time = s.time ∧ (State.capEndNow s r c u start stop).kp = s.kp ∧ (State.capEndNow s r c u start stop).act = s.act := by
  unfold State.capEndNow
  simp

@[simp] theorem capEndNow_rising (s : State) (r : Nat) (c : Capture) (u : Nat) (start : Nat) (stop : Nat) (hs : s.regs.rising = true) :
    (State.capEndNow s r c u start stop).regs.rising = true := by
  unfold State.capEndNow
  simp (maxDischargeDepth := 60) [hs]

@[simp] theorem capEndNow_mirrorWf (s : State) (r : Nat) (c : Capture) (u : Nat) (start : Nat) (stop : Nat) (hs : s.mirror.words.wf 0#32 = true) :
    (State.capEndNow s r c u start stop).mirror.words.wf 0#32 = true := by
  unfold State.capEndNow
  simp (maxDischargeDepth := 60) [hs]

@[simp] theorem capEndNow_sdramWf (s : State) (r : Nat) (c : Capture) (u : Nat) (start : Nat) (stop : Nat) (hs : s.sdram.wf 0#8 = true) :
    (State.capEndNow s r c u start stop).sdram.wf 0#8 = true := by
  unfold State.capEndNow
  simp (maxDischargeDepth := 60) [hs]

@[simp] theorem regionFresh_keeps (s : State) (r : Nat) (base : Nat) (log2 : Nat) (create : Bool) :
    (State.regionFresh s r base log2 create).pending = s.pending ∧ (State.regionFresh s r base log2 create).sdram = s.sdram ∧ (State.regionFresh s r base log2 create).fuse = s.fuse ∧ (State.regionFresh s r base log2 create).sem = s.sem ∧ (State.regionFresh s r base log2 create).dom = s.dom ∧ (State.regionFresh s r base log2 create).time = s.time ∧ (State.regionFresh s r base log2 create).kp = s.kp ∧ (State.regionFresh s r base log2 create).act = s.act := by
  unfold State.regionFresh
  simp

@[simp] theorem regionFresh_rising (s : State) (r : Nat) (base : Nat) (log2 : Nat) (create : Bool) (hs : s.regs.rising = true) :
    (State.regionFresh s r base log2 create).regs.rising = true := by
  unfold State.regionFresh
  simp (maxDischargeDepth := 60) [hs]

@[simp] theorem regionFresh_mirrorWf (s : State) (r : Nat) (base : Nat) (log2 : Nat) (create : Bool) (hs : s.mirror.words.wf 0#32 = true) :
    (State.regionFresh s r base log2 create).mirror.words.wf 0#32 = true := by
  unfold State.regionFresh
  simp (maxDischargeDepth := 60) [hs]

@[simp] theorem regionGone_keeps (s : State) (r : Nat) :
    (State.regionGone s r).pending = s.pending ∧ (State.regionGone s r).sdram = s.sdram ∧ (State.regionGone s r).fuse = s.fuse ∧ (State.regionGone s r).sem = s.sem ∧ (State.regionGone s r).dom = s.dom ∧ (State.regionGone s r).time = s.time ∧ (State.regionGone s r).kp = s.kp ∧ (State.regionGone s r).act = s.act := by
  unfold State.regionGone
  simp

@[simp] theorem regionGone_rising (s : State) (r : Nat) (hs : s.regs.rising = true) :
    (State.regionGone s r).regs.rising = true := by
  unfold State.regionGone
  simp (maxDischargeDepth := 60) [hs]

@[simp] theorem regionGone_mirrorWf (s : State) (r : Nat) (hs : s.mirror.words.wf 0#32 = true) :
    (State.regionGone s r).mirror.words.wf 0#32 = true := by
  unfold State.regionGone
  simp (maxDischargeDepth := 60) [hs]

@[simp] theorem recTake_keeps (s : State) (r : Nat) :
    (State.recTake s r).pending = s.pending ∧ (State.recTake s r).sdram = s.sdram ∧ (State.recTake s r).fuse = s.fuse ∧ (State.recTake s r).sem = s.sem ∧ (State.recTake s r).dom = s.dom ∧ (State.recTake s r).time = s.time ∧ (State.recTake s r).kp = s.kp ∧ (State.recTake s r).act = s.act := by
  unfold State.recTake
  simp

@[simp] theorem recTake_rising (s : State) (r : Nat) (hs : s.regs.rising = true) :
    (State.recTake s r).regs.rising = true := by
  unfold State.recTake
  simp (maxDischargeDepth := 60) [hs]

@[simp] theorem recTake_mirrorWf (s : State) (r : Nat) (hs : s.mirror.words.wf 0#32 = true) :
    (State.recTake s r).mirror.words.wf 0#32 = true := by
  unfold State.recTake
  simp (maxDischargeDepth := 60) [hs]

@[simp] theorem recTakeAll_keeps (s : State) (q : Nat) (y0 : List Nat) :
    (State.recTakeAll s q y0).pending = s.pending ∧ (State.recTakeAll s q y0).sdram = s.sdram ∧ (State.recTakeAll s q y0).fuse = s.fuse ∧ (State.recTakeAll s q y0).sem = s.sem ∧ (State.recTakeAll s q y0).dom = s.dom ∧ (State.recTakeAll s q y0).time = s.time ∧ (State.recTakeAll s q y0).kp = s.kp ∧ (State.recTakeAll s q y0).act = s.act := by
  fun_induction State.recTakeAll s q y0; all_goals first
      | (simp_all +zetaDelta; done)
      | (simp only [*]; (try simp +zetaDelta only []); (repeat' split) <;> simp_all; done)

@[simp] theorem recTakeAll_rising (s : State) (q : Nat) (y0 : List Nat) (hs : s.regs.rising = true) :
    (State.recTakeAll s q y0).regs.rising = true := by
  fun_induction State.recTakeAll s q y0 <;> (simp_all (maxDischargeDepth := 60) +zetaDelta; done)

@[simp] theorem recTakeAll_mirrorWf (s : State) (q : Nat) (y0 : List Nat) (hs : s.mirror.words.wf 0#32 = true) :
    (State.recTakeAll s q y0).mirror.words.wf 0#32 = true := by
  fun_induction State.recTakeAll s q y0 <;> (simp_all (maxDischargeDepth := 60) +zetaDelta; done)

@[simp] theorem endCaptures_keeps (s : State) (r : Nat) (y0 : Nat) :
    (State.endCaptures s r y0).pending = s.pending ∧ (State.endCaptures s r y0).fuse = s.fuse ∧ (State.endCaptures s r y0).sem = s.sem ∧ (State.endCaptures s r y0).dom = s.dom ∧ (State.endCaptures s r y0).time = s.time ∧ (State.endCaptures s r y0).kp = s.kp ∧ (State.endCaptures s r y0).act = s.act := by
  fun_induction State.endCaptures s r y0; all_goals first
      | (simp_all +zetaDelta; done)
      | (simp only [*]; (try simp +zetaDelta only []); (repeat' split) <;> simp_all; done)

@[simp] theorem endCaptures_sdramWf (s : State) (r : Nat) (y0 : Nat) (hs : s.sdram.wf 0#8 = true) :
    (State.endCaptures s r y0).sdram.wf 0#8 = true := by
  fun_induction State.endCaptures s r y0 <;> (simp_all (maxDischargeDepth := 60) +zetaDelta; done)

@[simp] theorem endCaptures_rising (s : State) (r : Nat) (y0 : Nat) (hs : s.regs.rising = true) :
    (State.endCaptures s r y0).regs.rising = true := by
  fun_induction State.endCaptures s r y0 <;> (simp_all (maxDischargeDepth := 60) +zetaDelta; done)

@[simp] theorem endCaptures_mirrorWf (s : State) (r : Nat) (y0 : Nat) (hs : s.mirror.words.wf 0#32 = true) :
    (State.endCaptures s r y0).mirror.words.wf 0#32 = true := by
  fun_induction State.endCaptures s r y0 <;> (simp_all (maxDischargeDepth := 60) +zetaDelta; done)

@[simp] theorem allocDo_keeps (s : State) (op r : Nat) :
    (State.allocDo s op r).pending = s.pending ∧ (State.allocDo s op r).fuse = s.fuse ∧ (State.allocDo s op r).sem = s.sem ∧ (State.allocDo s op r).dom = s.dom ∧ (State.allocDo s op r).time = s.time ∧ (State.allocDo s op r).kp = s.kp ∧ (State.allocDo s op r).act = s.act := by
  unfold State.allocDo
  split <;> simp

@[simp] theorem allocDo_sdramWf (s : State) (op r : Nat) (hs : s.sdram.wf 0#8 = true) :
    (State.allocDo s op r).sdram.wf 0#8 = true := by
  unfold State.allocDo
  try dsimp only
  (repeat' split) <;> simp (maxDischargeDepth := 60) +contextual [hs]

@[simp] theorem allocDo_rising (s : State) (op r : Nat) (hs : s.regs.rising = true) :
    (State.allocDo s op r).regs.rising = true := by
  unfold State.allocDo
  try dsimp only
  (repeat' split) <;> simp (maxDischargeDepth := 60) +contextual [hs]

@[simp] theorem allocDo_mirrorWf (s : State) (op r : Nat) (hs : s.mirror.words.wf 0#32 = true) :
    (State.allocDo s op r).mirror.words.wf 0#32 = true := by
  unfold State.allocDo
  try dsimp only
  (repeat' split) <;> simp (maxDischargeDepth := 60) +contextual [hs]

@[simp] theorem allocWrite_keeps (s : State) (v : Nat) :
    (State.allocWrite s v).pending = s.pending ∧ (State.allocWrite s v).fuse = s.fuse ∧ (State.allocWrite s v).sem = s.sem ∧ (State.allocWrite s v).dom = s.dom ∧ (State.allocWrite s v).time = s.time ∧ (State.allocWrite s v).kp = s.kp ∧ (State.allocWrite s v).act = s.act := by
  unfold State.allocWrite
  simp

@[simp] theorem allocWrite_sdramWf (s : State) (v : Nat) (hs : s.sdram.wf 0#8 = true) :
    (State.allocWrite s v).sdram.wf 0#8 = true := by
  unfold State.allocWrite
  simp (maxDischargeDepth := 60) +contextual [hs]

@[simp] theorem allocWrite_rising (s : State) (v : Nat) (hs : s.regs.rising = true) :
    (State.allocWrite s v).regs.rising = true := by
  unfold State.allocWrite
  simp (maxDischargeDepth := 60) +contextual [hs]

@[simp] theorem allocWrite_mirrorWf (s : State) (v : Nat) (hs : s.mirror.words.wf 0#32 = true) :
    (State.allocWrite s v).mirror.words.wf 0#32 = true := by
  unfold State.allocWrite
  simp (maxDischargeDepth := 60) +contextual [hs]

@[simp] theorem rgnArm_keeps (s : State) (r : Nat) (ix : Nat) :
    (State.rgnArm s r ix).pending = s.pending ∧ (State.rgnArm s r ix).sdram = s.sdram ∧ (State.rgnArm s r ix).fuse = s.fuse ∧ (State.rgnArm s r ix).sem = s.sem ∧ (State.rgnArm s r ix).dom = s.dom ∧ (State.rgnArm s r ix).time = s.time ∧ (State.rgnArm s r ix).kp = s.kp ∧ (State.rgnArm s r ix).act = s.act := by
  unfold State.rgnArm
  simp

@[simp] theorem rgnArm_rising (s : State) (r : Nat) (ix : Nat) (hs : s.regs.rising = true) :
    (State.rgnArm s r ix).regs.rising = true := by
  unfold State.rgnArm
  simp (maxDischargeDepth := 60) [hs]

@[simp] theorem rgnArm_mirrorWf (s : State) (r : Nat) (ix : Nat) (hs : s.mirror.words.wf 0#32 = true) :
    (State.rgnArm s r ix).mirror.words.wf 0#32 = true := by
  unfold State.rgnArm
  simp (maxDischargeDepth := 60) [hs]

@[simp] theorem ackWrite_keeps (s : State) (r : Nat) (v : Nat) :
    (State.ackWrite s r v).pending = s.pending ∧ (State.ackWrite s r v).sdram = s.sdram ∧ (State.ackWrite s r v).fuse = s.fuse ∧ (State.ackWrite s r v).sem = s.sem ∧ (State.ackWrite s r v).dom = s.dom ∧ (State.ackWrite s r v).time = s.time ∧ (State.ackWrite s r v).kp = s.kp ∧ (State.ackWrite s r v).act = s.act := by
  unfold State.ackWrite
  simp

@[simp] theorem ackWrite_rising (s : State) (r : Nat) (v : Nat) (hs : s.regs.rising = true) :
    (State.ackWrite s r v).regs.rising = true := by
  unfold State.ackWrite
  simp (maxDischargeDepth := 60) [hs]

@[simp] theorem ackWrite_mirrorWf (s : State) (r : Nat) (v : Nat) (hs : s.mirror.words.wf 0#32 = true) :
    (State.ackWrite s r v).mirror.words.wf 0#32 = true := by
  unfold State.ackWrite
  simp (maxDischargeDepth := 60) [hs]

@[simp] theorem capSrcWrite_keeps (s : State) (r : Nat) (v : Nat) :
    (State.capSrcWrite s r v).pending = s.pending ∧ (State.capSrcWrite s r v).sdram = s.sdram ∧ (State.capSrcWrite s r v).fuse = s.fuse ∧ (State.capSrcWrite s r v).sem = s.sem ∧ (State.capSrcWrite s r v).dom = s.dom ∧ (State.capSrcWrite s r v).time = s.time ∧ (State.capSrcWrite s r v).kp = s.kp ∧ (State.capSrcWrite s r v).act = s.act := by
  unfold State.capSrcWrite
  simp

@[simp] theorem capSrcWrite_rising (s : State) (r : Nat) (v : Nat) (hs : s.regs.rising = true) :
    (State.capSrcWrite s r v).regs.rising = true := by
  unfold State.capSrcWrite
  simp (maxDischargeDepth := 60) [hs]

@[simp] theorem capSrcWrite_mirrorWf (s : State) (r : Nat) (v : Nat) (hs : s.mirror.words.wf 0#32 = true) :
    (State.capSrcWrite s r v).mirror.words.wf 0#32 = true := by
  unfold State.capSrcWrite
  simp (maxDischargeDepth := 60) [hs]

@[simp] theorem bar4WinWrite_keeps (s : State) (p : Port) (high : Bool) (v : Nat) :
    (State.bar4WinWrite s p high v).pending = s.pending ∧ (State.bar4WinWrite s p high v).sdram = s.sdram ∧ (State.bar4WinWrite s p high v).fuse = s.fuse ∧ (State.bar4WinWrite s p high v).sem = s.sem ∧ (State.bar4WinWrite s p high v).dom = s.dom ∧ (State.bar4WinWrite s p high v).time = s.time ∧ (State.bar4WinWrite s p high v).kp = s.kp ∧ (State.bar4WinWrite s p high v).act = s.act ∧ (State.bar4WinWrite s p high v).mirror = s.mirror := by
  unfold State.bar4WinWrite
  simp

@[simp] theorem bar4WinWrite_rising (s : State) (p : Port) (high : Bool) (v : Nat) (hs : s.regs.rising = true) :
    (State.bar4WinWrite s p high v).regs.rising = true := by
  unfold State.bar4WinWrite
  simp (maxDischargeDepth := 60) [hs]
end Sys2Proof.Machine.State
end

