-- ==== Sys2Proof/Laws/KeepTrig.lean ====
section
/-! SUPPORT. What the operations of Machine/Trig.lean leave alone: memory, fuses, semaphores, domains, time, the queue. -/

namespace Sys2Proof.Machine.State

@[simp] theorem condShow_keeps (s : State) (c : Nat) :
    (State.condShow s c).pending = s.pending ∧ (State.condShow s c).sdram = s.sdram ∧ (State.condShow s c).fuse = s.fuse ∧ (State.condShow s c).sem = s.sem ∧ (State.condShow s c).dom = s.dom ∧ (State.condShow s c).time = s.time ∧ (State.condShow s c).kp = s.kp ∧ (State.condShow s c).act = s.act ∧ (State.condShow s c).mirror = s.mirror := by
  unfold State.condShow
  simp

@[simp] theorem condShow_rising (s : State) (c : Nat) (hs : s.regs.rising = true) :
    (State.condShow s c).regs.rising = true := by
  unfold State.condShow
  simp (maxDischargeDepth := 60) +contextual [hs]

@[simp] theorem condsShow_keeps (s : State) :
    (State.condsShow s).pending = s.pending ∧ (State.condsShow s).sdram = s.sdram ∧ (State.condsShow s).fuse = s.fuse ∧ (State.condsShow s).sem = s.sem ∧ (State.condsShow s).dom = s.dom ∧ (State.condsShow s).time = s.time ∧ (State.condsShow s).kp = s.kp ∧ (State.condsShow s).act = s.act ∧ (State.condsShow s).mirror = s.mirror := by
  unfold State.condsShow
  simp

@[simp] theorem condsShow_rising (s : State) (hs : s.regs.rising = true) :
    (State.condsShow s).regs.rising = true := by
  unfold State.condsShow
  simp (maxDischargeDepth := 60) +contextual [hs]

@[simp] theorem condArm_keeps (s : State) (c : Nat) (on : Bool) (t : Stamp) :
    (State.condArm s c on t).pending = s.pending ∧ (State.condArm s c on t).sdram = s.sdram ∧ (State.condArm s c on t).fuse = s.fuse ∧ (State.condArm s c on t).sem = s.sem ∧ (State.condArm s c on t).dom = s.dom ∧ (State.condArm s c on t).time = s.time ∧ (State.condArm s c on t).kp = s.kp ∧ (State.condArm s c on t).act = s.act ∧ (State.condArm s c on t).mirror = s.mirror := by
  unfold State.condArm
  simp

@[simp] theorem condArm_rising (s : State) (c : Nat) (on : Bool) (t : Stamp) (hs : s.regs.rising = true) :
    (State.condArm s c on t).regs.rising = true := by
  unfold State.condArm
  simp (maxDischargeDepth := 60) [hs]

@[simp] theorem condTouch_keeps (s : State) (c : Nat) :
    (State.condTouch s c).pending = s.pending ∧ (State.condTouch s c).sdram = s.sdram ∧ (State.condTouch s c).fuse = s.fuse ∧ (State.condTouch s c).sem = s.sem ∧ (State.condTouch s c).dom = s.dom ∧ (State.condTouch s c).time = s.time ∧ (State.condTouch s c).kp = s.kp ∧ (State.condTouch s c).regs = s.regs ∧ (State.condTouch s c).act = s.act := by
  unfold State.condTouch
  simp

@[simp] theorem condTouch_mirrorWf (s : State) (c : Nat) (hs : s.mirror.words.wf 0#32 = true) :
    (State.condTouch s c).mirror.words.wf 0#32 = true := by
  unfold State.condTouch
  simp (maxDischargeDepth := 60) [hs]

@[simp] theorem enqueue_keeps (s : State) (c ix frac : Nat) (flags : Option Nat) :
    (State.enqueue s c ix frac flags).pending = s.pending ∧ (State.enqueue s c ix frac flags).sdram = s.sdram ∧ (State.enqueue s c ix frac flags).fuse = s.fuse ∧ (State.enqueue s c ix frac flags).sem = s.sem ∧ (State.enqueue s c ix frac flags).dom = s.dom ∧ (State.enqueue s c ix frac flags).time = s.time ∧ (State.enqueue s c ix frac flags).kp = s.kp ∧ (State.enqueue s c ix frac flags).regs = s.regs ∧ (State.enqueue s c ix frac flags).act = s.act ∧ (State.enqueue s c ix frac flags).mirror = s.mirror := by
  unfold State.enqueue
  simp

@[simp] theorem setRaw_keeps (s : State) (c : Nat) (b : Bool) :
    (State.setRaw s c b).pending = s.pending ∧ (State.setRaw s c b).sdram = s.sdram ∧ (State.setRaw s c b).fuse = s.fuse ∧ (State.setRaw s c b).sem = s.sem ∧ (State.setRaw s c b).dom = s.dom ∧ (State.setRaw s c b).time = s.time ∧ (State.setRaw s c b).kp = s.kp ∧ (State.setRaw s c b).act = s.act ∧ (State.setRaw s c b).mirror = s.mirror := by
  unfold State.setRaw
  simp

@[simp] theorem setRaw_rising (s : State) (c : Nat) (b : Bool) (hs : s.regs.rising = true) :
    (State.setRaw s c b).regs.rising = true := by
  unfold State.setRaw
  simp (maxDischargeDepth := 60) [hs]

@[simp] theorem rawPoint_keeps (s : State) (c : Nat) (b : Bool) (ix : Nat) (flags : Nat) :
    (State.rawPoint s c b ix flags).pending = s.pending ∧ (State.rawPoint s c b ix flags).sdram = s.sdram ∧ (State.rawPoint s c b ix flags).fuse = s.fuse ∧ (State.rawPoint s c b ix flags).sem = s.sem ∧ (State.rawPoint s c b ix flags).dom = s.dom ∧ (State.rawPoint s c b ix flags).time = s.time ∧ (State.rawPoint s c b ix flags).kp = s.kp ∧ (State.rawPoint s c b ix flags).act = s.act ∧ (State.rawPoint s c b ix flags).mirror = s.mirror := by
  unfold State.rawPoint
  simp

@[simp] theorem rawPoint_rising (s : State) (c : Nat) (b : Bool) (ix : Nat) (flags : Nat) (hs : s.regs.rising = true) :
    (State.rawPoint s c b ix flags).regs.rising = true := by
  unfold State.rawPoint
  simp (maxDischargeDepth := 60) [hs]

@[simp] theorem iqPoint_keeps (s : State) (c pos : Nat) (v : IQ) :
    (State.iqPoint s c pos v).pending = s.pending ∧ (State.iqPoint s c pos v).sdram = s.sdram ∧ (State.iqPoint s c pos v).fuse = s.fuse ∧ (State.iqPoint s c pos v).sem = s.sem ∧ (State.iqPoint s c pos v).dom = s.dom ∧ (State.iqPoint s c pos v).time = s.time ∧ (State.iqPoint s c pos v).kp = s.kp ∧ (State.iqPoint s c pos v).act = s.act ∧ (State.iqPoint s c pos v).mirror = s.mirror := by
  unfold State.iqPoint
  try dsimp only
  (repeat' split) <;> simp

@[simp] theorem iqPoint_rising (s : State) (c pos : Nat) (v : IQ) (hs : s.regs.rising = true) :
    (State.iqPoint s c pos v).regs.rising = true := by
  unfold State.iqPoint
  try dsimp only
  (repeat' split) <;> simp (maxDischargeDepth := 60) +contextual [hs]

@[simp] theorem reportPoint_keeps (s : State) (c : Nat) (d : EvalDue) :
    (State.reportPoint s c d).pending = s.pending ∧ (State.reportPoint s c d).sdram = s.sdram ∧ (State.reportPoint s c d).fuse = s.fuse ∧ (State.reportPoint s c d).sem = s.sem ∧ (State.reportPoint s c d).dom = s.dom ∧ (State.reportPoint s c d).time = s.time ∧ (State.reportPoint s c d).kp = s.kp ∧ (State.reportPoint s c d).act = s.act ∧ (State.reportPoint s c d).mirror = s.mirror := by
  unfold State.reportPoint
  split <;> simp

@[simp] theorem reportPoint_rising (s : State) (c : Nat) (d : EvalDue) (hs : s.regs.rising = true) :
    (State.reportPoint s c d).regs.rising = true := by
  unfold State.reportPoint
  try dsimp only
  (repeat' split) <;> simp (maxDischargeDepth := 60) +contextual [hs]

@[simp] theorem evaluate_keeps (s : State) (c : Nat) (e : EvalPoint) :
    (State.evaluate s c e).pending = s.pending ∧ (State.evaluate s c e).sdram = s.sdram ∧ (State.evaluate s c e).fuse = s.fuse ∧ (State.evaluate s c e).sem = s.sem ∧ (State.evaluate s c e).dom = s.dom ∧ (State.evaluate s c e).time = s.time ∧ (State.evaluate s c e).kp = s.kp ∧ (State.evaluate s c e).act = s.act ∧ (State.evaluate s c e).mirror = s.mirror := by
  unfold State.evaluate
  try dsimp only
  (repeat' split) <;> simp

@[simp] theorem evaluate_rising (s : State) (c : Nat) (e : EvalPoint) (hs : s.regs.rising = true) :
    (State.evaluate s c e).regs.rising = true := by
  unfold State.evaluate
  try dsimp only
  (repeat' split) <;> simp (maxDischargeDepth := 60) +contextual [hs]

@[simp] theorem baseDue_keeps (s : State) (p : Nat) (base : List Smp) :
    (State.baseDue s p base).pending = s.pending ∧ (State.baseDue s p base).sdram = s.sdram ∧ (State.baseDue s p base).fuse = s.fuse ∧ (State.baseDue s p base).sem = s.sem ∧ (State.baseDue s p base).dom = s.dom ∧ (State.baseDue s p base).time = s.time ∧ (State.baseDue s p base).kp = s.kp ∧ (State.baseDue s p base).regs = s.regs ∧ (State.baseDue s p base).act = s.act ∧ (State.baseDue s p base).mirror = s.mirror := by
  unfold State.baseDue
  simp

@[simp] theorem winsDue_keeps (s : State) (p : Nat) (y0 : List (Nat × List Smp)) :
    (State.winsDue s p y0).pending = s.pending ∧ (State.winsDue s p y0).sdram = s.sdram ∧ (State.winsDue s p y0).fuse = s.fuse ∧ (State.winsDue s p y0).sem = s.sem ∧ (State.winsDue s p y0).dom = s.dom ∧ (State.winsDue s p y0).time = s.time ∧ (State.winsDue s p y0).kp = s.kp ∧ (State.winsDue s p y0).regs = s.regs ∧ (State.winsDue s p y0).act = s.act ∧ (State.winsDue s p y0).mirror = s.mirror := by
  fun_induction State.winsDue s p y0; all_goals first
      | (simp_all +zetaDelta; done)
      | (simp only [*]; (try simp +zetaDelta only []); (repeat' split) <;> simp_all; done)

@[simp] theorem seqSee_keeps (s : State) (o : Occ) (d : Nat) :
    (State.seqSee s o d).1.pending = s.pending ∧ (State.seqSee s o d).1.sdram = s.sdram ∧ (State.seqSee s o d).1.fuse = s.fuse ∧ (State.seqSee s o d).1.sem = s.sem ∧ (State.seqSee s o d).1.dom = s.dom ∧ (State.seqSee s o d).1.time = s.time ∧ (State.seqSee s o d).1.kp = s.kp ∧ (State.seqSee s o d).1.regs = s.regs ∧ (State.seqSee s o d).1.act = s.act ∧ (State.seqSee s o d).1.mirror = s.mirror := by
  unfold State.seqSee
  try dsimp only
  (repeat' split) <;> simp

@[simp] theorem seqsSee_keeps (s : State) (o : Occ) (y0 : List Nat) :
    (State.seqsSee s o y0).1.pending = s.pending ∧ (State.seqsSee s o y0).1.sdram = s.sdram ∧ (State.seqsSee s o y0).1.fuse = s.fuse ∧ (State.seqsSee s o y0).1.sem = s.sem ∧ (State.seqsSee s o y0).1.dom = s.dom ∧ (State.seqsSee s o y0).1.time = s.time ∧ (State.seqsSee s o y0).1.kp = s.kp ∧ (State.seqsSee s o y0).1.regs = s.regs ∧ (State.seqsSee s o y0).1.act = s.act ∧ (State.seqsSee s o y0).1.mirror = s.mirror := by
  fun_induction State.seqsSee s o y0; all_goals first
      | (simp_all +zetaDelta; done)
      | (simp only [*]; (try simp +zetaDelta only []); (repeat' split) <;> simp_all; done)

@[simp] theorem condMiss_keeps (s : State) (o : Occ) :
    (State.condMiss s o).pending = s.pending ∧ (State.condMiss s o).sdram = s.sdram ∧ (State.condMiss s o).fuse = s.fuse ∧ (State.condMiss s o).sem = s.sem ∧ (State.condMiss s o).dom = s.dom ∧ (State.condMiss s o).time = s.time ∧ (State.condMiss s o).kp = s.kp ∧ (State.condMiss s o).act = s.act := by
  unfold State.condMiss
  simp

@[simp] theorem condMiss_rising (s : State) (o : Occ) (hs : s.regs.rising = true) :
    (State.condMiss s o).regs.rising = true := by
  unfold State.condMiss
  simp (maxDischargeDepth := 60) [hs]

@[simp] theorem condMiss_mirrorWf (s : State) (o : Occ) (hs : s.mirror.words.wf 0#32 = true) :
    (State.condMiss s o).mirror.words.wf 0#32 = true := by
  unfold State.condMiss
  simp (maxDischargeDepth := 60) [hs]

@[simp] theorem condFire_keeps (s : State) (o : Occ) (clk : Bool) :
    (State.condFire s o clk).pending = s.pending ∧ (State.condFire s o clk).sdram = s.sdram ∧ (State.condFire s o clk).fuse = s.fuse ∧ (State.condFire s o clk).sem = s.sem ∧ (State.condFire s o clk).dom = s.dom ∧ (State.condFire s o clk).time = s.time ∧ (State.condFire s o clk).kp = s.kp ∧ (State.condFire s o clk).act = s.act := by
  unfold State.condFire
  simp

@[simp] theorem condFire_rising (s : State) (o : Occ) (clk : Bool) (hs : s.regs.rising = true) :
    (State.condFire s o clk).regs.rising = true := by
  unfold State.condFire
  simp (maxDischargeDepth := 60) [hs]

@[simp] theorem condFire_mirrorWf (s : State) (o : Occ) (clk : Bool) (hs : s.mirror.words.wf 0#32 = true) :
    (State.condFire s o clk).mirror.words.wf 0#32 = true := by
  unfold State.condFire
  simp (maxDischargeDepth := 60) [hs]

@[simp] theorem decideAll_keeps (s : State) (y0 : Nat) (y1 : List Occ) :
    (State.decideAll s y0 y1).1.pending = s.pending ∧ (State.decideAll s y0 y1).1.sdram = s.sdram ∧ (State.decideAll s y0 y1).1.fuse = s.fuse ∧ (State.decideAll s y0 y1).1.sem = s.sem ∧ (State.decideAll s y0 y1).1.dom = s.dom ∧ (State.decideAll s y0 y1).1.time = s.time ∧ (State.decideAll s y0 y1).1.kp = s.kp ∧ (State.decideAll s y0 y1).1.act = s.act := by
  fun_induction State.decideAll s y0 y1; all_goals first
      | (simp_all +zetaDelta; done)
      | (simp only [*]; (try simp +zetaDelta only []); (repeat' split) <;> simp_all; done)

@[simp] theorem decideAll_rising (s : State) (y0 : Nat) (y1 : List Occ) (hs : s.regs.rising = true) :
    (State.decideAll s y0 y1).1.regs.rising = true := by
  fun_induction State.decideAll s y0 y1 <;> (simp_all (maxDischargeDepth := 60) +zetaDelta; done)

@[simp] theorem decideAll_mirrorWf (s : State) (y0 : Nat) (y1 : List Occ) (hs : s.mirror.words.wf 0#32 = true) :
    (State.decideAll s y0 y1).1.mirror.words.wf 0#32 = true := by
  fun_induction State.decideAll s y0 y1 <;> (simp_all (maxDischargeDepth := 60) +zetaDelta; done)

@[simp] theorem setTrgOut_keeps (s : State) (o : Nat) (x : TrigOut) :
    (State.setTrgOut s o x).pending = s.pending ∧ (State.setTrgOut s o x).sdram = s.sdram ∧ (State.setTrgOut s o x).fuse = s.fuse ∧ (State.setTrgOut s o x).sem = s.sem ∧ (State.setTrgOut s o x).dom = s.dom ∧ (State.setTrgOut s o x).time = s.time ∧ (State.setTrgOut s o x).kp = s.kp ∧ (State.setTrgOut s o x).regs = s.regs ∧ (State.setTrgOut s o x).act = s.act ∧ (State.setTrgOut s o x).mirror = s.mirror := by
  unfold State.setTrgOut
  simp

@[simp] theorem outPulse_keeps (s : State) (o : Nat) :
    (State.outPulse s o).pending = s.pending ∧ (State.outPulse s o).sdram = s.sdram ∧ (State.outPulse s o).fuse = s.fuse ∧ (State.outPulse s o).sem = s.sem ∧ (State.outPulse s o).dom = s.dom ∧ (State.outPulse s o).time = s.time ∧ (State.outPulse s o).kp = s.kp ∧ (State.outPulse s o).regs = s.regs ∧ (State.outPulse s o).act = s.act ∧ (State.outPulse s o).mirror = s.mirror := by
  unfold State.outPulse
  simp

@[simp] theorem directPulse_keeps (s : State) (code : Nat) (y0 : List Nat) :
    (State.directPulse s code y0).pending = s.pending ∧ (State.directPulse s code y0).sdram = s.sdram ∧ (State.directPulse s code y0).fuse = s.fuse ∧ (State.directPulse s code y0).sem = s.sem ∧ (State.directPulse s code y0).dom = s.dom ∧ (State.directPulse s code y0).time = s.time ∧ (State.directPulse s code y0).kp = s.kp ∧ (State.directPulse s code y0).regs = s.regs ∧ (State.directPulse s code y0).act = s.act ∧ (State.directPulse s code y0).mirror = s.mirror := by
  fun_induction State.directPulse s code y0; all_goals first
      | (simp_all +zetaDelta; done)
      | (simp only [*]; (try simp +zetaDelta only []); (repeat' split) <;> simp_all; done)

@[simp] theorem outFire_keeps (s : State) (f : Occ) (o : Nat) :
    (State.outFire s f o).pending = s.pending ∧ (State.outFire s f o).sdram = s.sdram ∧ (State.outFire s f o).fuse = s.fuse ∧ (State.outFire s f o).sem = s.sem ∧ (State.outFire s f o).dom = s.dom ∧ (State.outFire s f o).time = s.time ∧ (State.outFire s f o).kp = s.kp ∧ (State.outFire s f o).act = s.act ∧ (State.outFire s f o).mirror = s.mirror := by
  unfold State.outFire
  simp

@[simp] theorem outFire_rising (s : State) (f : Occ) (o : Nat) (hs : s.regs.rising = true) :
    (State.outFire s f o).regs.rising = true := by
  unfold State.outFire
  simp (maxDischargeDepth := 60) [hs]

@[simp] theorem outsFire_keeps (s : State) (f : Occ) (y0 : List Nat) :
    (State.outsFire s f y0).pending = s.pending ∧ (State.outsFire s f y0).sdram = s.sdram ∧ (State.outsFire s f y0).fuse = s.fuse ∧ (State.outsFire s f y0).sem = s.sem ∧ (State.outsFire s f y0).dom = s.dom ∧ (State.outsFire s f y0).time = s.time ∧ (State.outsFire s f y0).kp = s.kp ∧ (State.outsFire s f y0).act = s.act ∧ (State.outsFire s f y0).mirror = s.mirror := by
  fun_induction State.outsFire s f y0; all_goals first
      | (simp_all +zetaDelta; done)
      | (simp only [*]; (try simp +zetaDelta only []); (repeat' split) <;> simp_all; done)

@[simp] theorem outsFire_rising (s : State) (f : Occ) (y0 : List Nat) (hs : s.regs.rising = true) :
    (State.outsFire s f y0).regs.rising = true := by
  fun_induction State.outsFire s f y0 <;> (simp_all (maxDischargeDepth := 60) +zetaDelta; done)

@[simp] theorem rgnFree_keeps (s : State) (r : Nat) :
    (State.rgnFree s r).pending = s.pending ∧ (State.rgnFree s r).sdram = s.sdram ∧ (State.rgnFree s r).fuse = s.fuse ∧ (State.rgnFree s r).sem = s.sem ∧ (State.rgnFree s r).dom = s.dom ∧ (State.rgnFree s r).time = s.time ∧ (State.rgnFree s r).kp = s.kp ∧ (State.rgnFree s r).act = s.act := by
  unfold State.rgnFree
  simp

@[simp] theorem rgnFree_rising (s : State) (r : Nat) (hs : s.regs.rising = true) :
    (State.rgnFree s r).regs.rising = true := by
  unfold State.rgnFree
  simp (maxDischargeDepth := 60) [hs]

@[simp] theorem rgnFree_mirrorWf (s : State) (r : Nat) (hs : s.mirror.words.wf 0#32 = true) :
    (State.rgnFree s r).mirror.words.wf 0#32 = true := by
  unfold State.rgnFree
  simp (maxDischargeDepth := 60) [hs]

@[simp] theorem rgnSettle_keeps (s : State) (r : Nat) (f : RgnFire) :
    (State.rgnSettle s r f).pending = s.pending ∧ (State.rgnSettle s r f).sdram = s.sdram ∧ (State.rgnSettle s r f).fuse = s.fuse ∧ (State.rgnSettle s r f).sem = s.sem ∧ (State.rgnSettle s r f).dom = s.dom ∧ (State.rgnSettle s r f).time = s.time ∧ (State.rgnSettle s r f).kp = s.kp ∧ (State.rgnSettle s r f).act = s.act := by
  unfold State.rgnSettle
  simp

@[simp] theorem rgnSettle_rising (s : State) (r : Nat) (f : RgnFire) (hs : s.regs.rising = true) :
    (State.rgnSettle s r f).regs.rising = true := by
  unfold State.rgnSettle
  simp (maxDischargeDepth := 60) +contextual [hs]

@[simp] theorem rgnSettle_mirrorWf (s : State) (r : Nat) (f : RgnFire) (hs : s.mirror.words.wf 0#32 = true) :
    (State.rgnSettle s r f).mirror.words.wf 0#32 = true := by
  unfold State.rgnSettle
  simp (maxDischargeDepth := 60) +contextual [hs]

@[simp] theorem rgnDisarm_keeps (s : State) (r : Nat) (ix : Nat) :
    (State.rgnDisarm s r ix).pending = s.pending ∧ (State.rgnDisarm s r ix).sdram = s.sdram ∧ (State.rgnDisarm s r ix).fuse = s.fuse ∧ (State.rgnDisarm s r ix).sem = s.sem ∧ (State.rgnDisarm s r ix).dom = s.dom ∧ (State.rgnDisarm s r ix).time = s.time ∧ (State.rgnDisarm s r ix).kp = s.kp ∧ (State.rgnDisarm s r ix).act = s.act := by
  unfold State.rgnDisarm
  try dsimp only
  (repeat' split) <;> simp

@[simp] theorem rgnDisarm_rising (s : State) (r : Nat) (ix : Nat) (hs : s.regs.rising = true) :
    (State.rgnDisarm s r ix).regs.rising = true := by
  unfold State.rgnDisarm
  try dsimp only
  (repeat' split) <;> simp (maxDischargeDepth := 60) [hs]

@[simp] theorem rgnDisarm_mirrorWf (s : State) (r : Nat) (ix : Nat) (hs : s.mirror.words.wf 0#32 = true) :
    (State.rgnDisarm s r ix).mirror.words.wf 0#32 = true := by
  unfold State.rgnDisarm
  try dsimp only
  (repeat' split) <;> simp (maxDischargeDepth := 60) [hs]

@[simp] theorem holdCount_keeps (s : State) (r : Nat) (f : RgnFire) :
    (State.holdCount s r f).pending = s.pending ∧ (State.holdCount s r f).sdram = s.sdram ∧ (State.holdCount s r f).fuse = s.fuse ∧ (State.holdCount s r f).sem = s.sem ∧ (State.holdCount s r f).dom = s.dom ∧ (State.holdCount s r f).time = s.time ∧ (State.holdCount s r f).kp = s.kp ∧ (State.holdCount s r f).regs = s.regs ∧ (State.holdCount s r f).act = s.act ∧ (State.holdCount s r f).mirror = s.mirror := by
  unfold State.holdCount
  simp

@[simp] theorem rgnAct_keeps (s : State) (r : Nat) (fs : List RgnFire) (first : RgnFire) :
    (State.rgnAct s r fs first).pending = s.pending ∧ (State.rgnAct s r fs first).sdram = s.sdram ∧ (State.rgnAct s r fs first).fuse = s.fuse ∧ (State.rgnAct s r fs first).sem = s.sem ∧ (State.rgnAct s r fs first).dom = s.dom ∧ (State.rgnAct s r fs first).time = s.time ∧ (State.rgnAct s r fs first).kp = s.kp ∧ (State.rgnAct s r fs first).act = s.act := by
  unfold State.rgnAct
  simp

@[simp] theorem rgnAct_rising (s : State) (r : Nat) (fs : List RgnFire) (first : RgnFire) (hs : s.regs.rising = true) :
    (State.rgnAct s r fs first).regs.rising = true := by
  unfold State.rgnAct
  simp (maxDischargeDepth := 60) [hs]

@[simp] theorem rgnAct_mirrorWf (s : State) (r : Nat) (fs : List RgnFire) (first : RgnFire) (hs : s.mirror.words.wf 0#32 = true) :
    (State.rgnAct s r fs first).mirror.words.wf 0#32 = true := by
  unfold State.rgnAct
  simp (maxDischargeDepth := 60) [hs]

@[simp] theorem rgnMiss_keeps (s : State) (r : Nat) (f : RgnFire) :
    (State.rgnMiss s r f).pending = s.pending ∧ (State.rgnMiss s r f).sdram = s.sdram ∧ (State.rgnMiss s r f).fuse = s.fuse ∧ (State.rgnMiss s r f).sem = s.sem ∧ (State.rgnMiss s r f).dom = s.dom ∧ (State.rgnMiss s r f).time = s.time ∧ (State.rgnMiss s r f).kp = s.kp ∧ (State.rgnMiss s r f).act = s.act ∧ (State.rgnMiss s r f).mirror = s.mirror := by
  unfold State.rgnMiss
  simp

@[simp] theorem rgnMiss_rising (s : State) (r : Nat) (f : RgnFire) (hs : s.regs.rising = true) :
    (State.rgnMiss s r f).regs.rising = true := by
  unfold State.rgnMiss
  simp (maxDischargeDepth := 60) [hs]

@[simp] theorem rgnTrigger_keeps (s : State) (r : Nat) (fs : List RgnFire) :
    (State.rgnTrigger s r fs).pending = s.pending ∧ (State.rgnTrigger s r fs).sdram = s.sdram ∧ (State.rgnTrigger s r fs).fuse = s.fuse ∧ (State.rgnTrigger s r fs).sem = s.sem ∧ (State.rgnTrigger s r fs).dom = s.dom ∧ (State.rgnTrigger s r fs).time = s.time ∧ (State.rgnTrigger s r fs).kp = s.kp ∧ (State.rgnTrigger s r fs).act = s.act := by
  unfold State.rgnTrigger
  try dsimp only
  (repeat' split) <;> simp

@[simp] theorem rgnTrigger_rising (s : State) (r : Nat) (fs : List RgnFire) (hs : s.regs.rising = true) :
    (State.rgnTrigger s r fs).regs.rising = true := by
  unfold State.rgnTrigger
  try dsimp only
  (repeat' split) <;> simp (maxDischargeDepth := 60) +contextual [hs]

@[simp] theorem rgnTrigger_mirrorWf (s : State) (r : Nat) (fs : List RgnFire) (hs : s.mirror.words.wf 0#32 = true) :
    (State.rgnTrigger s r fs).mirror.words.wf 0#32 = true := by
  unfold State.rgnTrigger
  try dsimp only
  (repeat' split) <;> simp (maxDischargeDepth := 60) +contextual [hs]

@[simp] theorem rgnActions_keeps (s : State) (r ix : Nat) (trig : List RgnFire) (cs : List Nat) :
    (State.rgnActions s r ix trig cs).pending = s.pending ∧ (State.rgnActions s r ix trig cs).sdram = s.sdram ∧ (State.rgnActions s r ix trig cs).fuse = s.fuse ∧ (State.rgnActions s r ix trig cs).sem = s.sem ∧ (State.rgnActions s r ix trig cs).dom = s.dom ∧ (State.rgnActions s r ix trig cs).time = s.time ∧ (State.rgnActions s r ix trig cs).kp = s.kp ∧ (State.rgnActions s r ix trig cs).act = s.act := by
  unfold State.rgnActions
  simp

@[simp] theorem rgnActions_rising (s : State) (r ix : Nat) (trig : List RgnFire) (cs : List Nat) (hs : s.regs.rising = true) :
    (State.rgnActions s r ix trig cs).regs.rising = true := by
  unfold State.rgnActions
  simp (maxDischargeDepth := 60) +contextual [hs]

@[simp] theorem rgnActions_mirrorWf (s : State) (r ix : Nat) (trig : List RgnFire) (cs : List Nat) (hs : s.mirror.words.wf 0#32 = true) :
    (State.rgnActions s r ix trig cs).mirror.words.wf 0#32 = true := by
  unfold State.rgnActions
  simp (maxDischargeDepth := 60) +contextual [hs]

@[simp] theorem rgnApply_keeps (s : State) (r : Nat) (y0 : Nat) (y1 : List RgnFire) :
    (State.rgnApply s r y0 y1).pending = s.pending ∧ (State.rgnApply s r y0 y1).sdram = s.sdram ∧ (State.rgnApply s r y0 y1).fuse = s.fuse ∧ (State.rgnApply s r y0 y1).sem = s.sem ∧ (State.rgnApply s r y0 y1).dom = s.dom ∧ (State.rgnApply s r y0 y1).time = s.time ∧ (State.rgnApply s r y0 y1).kp = s.kp ∧ (State.rgnApply s r y0 y1).act = s.act := by
  fun_induction State.rgnApply s r y0 y1; all_goals first
      | (simp_all +zetaDelta; done)
      | (simp only [*]; (try simp +zetaDelta only []); (repeat' split) <;> simp_all; done)

@[simp] theorem rgnApply_rising (s : State) (r : Nat) (y0 : Nat) (y1 : List RgnFire) (hs : s.regs.rising = true) :
    (State.rgnApply s r y0 y1).regs.rising = true := by
  fun_induction State.rgnApply s r y0 y1 with
  | case3 s n f fs now s1 s2 trig t1 t ih =>
    have h2 : s2.regs.rising = true := by simp +zetaDelta (maxDischargeDepth := 60) +contextual [hs]
    have h1 : t1.regs.rising = true := rgnActions_rising _ _ _ _ _ h2
    apply ih
    dsimp only [t]
    split
    · exact h1
    · simp (maxDischargeDepth := 60) +contextual [h1]
  | _ => exact hs

@[simp] theorem rgnApply_mirrorWf (s : State) (r : Nat) (y0 : Nat) (y1 : List RgnFire) (hs : s.mirror.words.wf 0#32 = true) :
    (State.rgnApply s r y0 y1).mirror.words.wf 0#32 = true := by
  fun_induction State.rgnApply s r y0 y1 with
  | case3 s n f fs now s1 s2 trig t1 t ih =>
    have h2 : s2.mirror.words.wf 0#32 = true := by simp +zetaDelta (maxDischargeDepth := 60) +contextual [hs]
    have h1 : t1.mirror.words.wf 0#32 = true := rgnActions_mirrorWf _ _ _ _ _ h2
    apply ih
    dsimp only [t]
    split
    · exact h1
    · simp (maxDischargeDepth := 60) +contextual [h1]
  | _ => exact hs

@[simp] theorem rgnsFire_keeps (s : State) (fs : List Occ) (y0 : List Nat) :
    (State.rgnsFire s fs y0).pending = s.pending ∧ (State.rgnsFire s fs y0).sdram = s.sdram ∧ (State.rgnsFire s fs y0).fuse = s.fuse ∧ (State.rgnsFire s fs y0).sem = s.sem ∧ (State.rgnsFire s fs y0).dom = s.dom ∧ (State.rgnsFire s fs y0).time = s.time ∧ (State.rgnsFire s fs y0).kp = s.kp ∧ (State.rgnsFire s fs y0).act = s.act := by
  fun_induction State.rgnsFire s fs y0; all_goals first
      | (simp_all +zetaDelta; done)
      | (simp only [*]; (try simp +zetaDelta only []); (repeat' split) <;> simp_all; done)

@[simp] theorem rgnsFire_rising (s : State) (fs : List Occ) (y0 : List Nat) (hs : s.regs.rising = true) :
    (State.rgnsFire s fs y0).regs.rising = true := by
  fun_induction State.rgnsFire s fs y0 <;> (simp_all (maxDischargeDepth := 60) +zetaDelta; done)

@[simp] theorem rgnsFire_mirrorWf (s : State) (fs : List Occ) (y0 : List Nat) (hs : s.mirror.words.wf 0#32 = true) :
    (State.rgnsFire s fs y0).mirror.words.wf 0#32 = true := by
  fun_induction State.rgnsFire s fs y0 <;> (simp_all (maxDischargeDepth := 60) +zetaDelta; done)

@[simp] theorem holdShow_keeps (s : State) (t : Nat) (y0 : List Nat) :
    (State.holdShow s t y0).pending = s.pending ∧ (State.holdShow s t y0).sdram = s.sdram ∧ (State.holdShow s t y0).fuse = s.fuse ∧ (State.holdShow s t y0).sem = s.sem ∧ (State.holdShow s t y0).dom = s.dom ∧ (State.holdShow s t y0).time = s.time ∧ (State.holdShow s t y0).kp = s.kp ∧ (State.holdShow s t y0).act = s.act ∧ (State.holdShow s t y0).mirror = s.mirror := by
  fun_induction State.holdShow s t y0; all_goals first
      | (simp_all +zetaDelta; done)
      | (simp only [*]; (try simp +zetaDelta only []); (repeat' split) <;> simp_all; done)

@[simp] theorem holdShow_rising (s : State) (t : Nat) (y0 : List Nat) (hs : s.regs.rising = true) :
    (State.holdShow s t y0).regs.rising = true := by
  fun_induction State.holdShow s t y0 <;> first | (simp_all (maxDischargeDepth := 60) +zetaDelta; done) | (rename_i ih; apply ih; (try simp +zetaDelta only []); (repeat' split) <;> simp_all (maxDischargeDepth := 60); done)

@[simp] theorem decide__keeps (s : State) (upTo : Stamp) :
    (State.decide_ s upTo).pending = s.pending ∧ (State.decide_ s upTo).sdram = s.sdram ∧ (State.decide_ s upTo).fuse = s.fuse ∧ (State.decide_ s upTo).sem = s.sem ∧ (State.decide_ s upTo).dom = s.dom ∧ (State.decide_ s upTo).time = s.time ∧ (State.decide_ s upTo).kp = s.kp ∧ (State.decide_ s upTo).act = s.act := by
  unfold State.decide_
  simp

@[simp] theorem decide__rising (s : State) (upTo : Stamp) (hs : s.regs.rising = true) :
    (State.decide_ s upTo).regs.rising = true := by
  unfold State.decide_
  simp (maxDischargeDepth := 60) +contextual [hs]

@[simp] theorem decide__mirrorWf (s : State) (upTo : Stamp) (hs : s.mirror.words.wf 0#32 = true) :
    (State.decide_ s upTo).mirror.words.wf 0#32 = true := by
  unfold State.decide_
  simp (maxDischargeDepth := 60) +contextual [hs]

@[simp] theorem setTrgIn_keeps (s : State) (i : Nat) (x : TrigIn) :
    (State.setTrgIn s i x).pending = s.pending ∧ (State.setTrgIn s i x).sdram = s.sdram ∧ (State.setTrgIn s i x).fuse = s.fuse ∧ (State.setTrgIn s i x).sem = s.sem ∧ (State.setTrgIn s i x).dom = s.dom ∧ (State.setTrgIn s i x).time = s.time ∧ (State.setTrgIn s i x).kp = s.kp ∧ (State.setTrgIn s i x).regs = s.regs ∧ (State.setTrgIn s i x).act = s.act ∧ (State.setTrgIn s i x).mirror = s.mirror := by
  unfold State.setTrgIn
  simp

@[simp] theorem trgCondWrite_keeps (s : State) (c : Nat) (v : Nat) :
    (State.trgCondWrite s c v).pending = s.pending ∧ (State.trgCondWrite s c v).sdram = s.sdram ∧ (State.trgCondWrite s c v).fuse = s.fuse ∧ (State.trgCondWrite s c v).sem = s.sem ∧ (State.trgCondWrite s c v).dom = s.dom ∧ (State.trgCondWrite s c v).time = s.time ∧ (State.trgCondWrite s c v).kp = s.kp ∧ (State.trgCondWrite s c v).act = s.act ∧ (State.trgCondWrite s c v).mirror = s.mirror := by
  unfold State.trgCondWrite
  simp

@[simp] theorem trgCondWrite_rising (s : State) (c : Nat) (v : Nat) (hs : s.regs.rising = true) :
    (State.trgCondWrite s c v).regs.rising = true := by
  unfold State.trgCondWrite
  simp (maxDischargeDepth := 60) [hs]

@[simp] theorem trgParamWrite_keeps (s : State) (c : Nat) (off : Nat) (v : Nat) :
    (State.trgParamWrite s c off v).pending = s.pending ∧ (State.trgParamWrite s c off v).sdram = s.sdram ∧ (State.trgParamWrite s c off v).fuse = s.fuse ∧ (State.trgParamWrite s c off v).sem = s.sem ∧ (State.trgParamWrite s c off v).dom = s.dom ∧ (State.trgParamWrite s c off v).time = s.time ∧ (State.trgParamWrite s c off v).kp = s.kp ∧ (State.trgParamWrite s c off v).act = s.act ∧ (State.trgParamWrite s c off v).mirror = s.mirror := by
  unfold State.trgParamWrite
  simp

@[simp] theorem trgParamWrite_rising (s : State) (c : Nat) (off : Nat) (v : Nat) (hs : s.regs.rising = true) :
    (State.trgParamWrite s c off v).regs.rising = true := by
  unfold State.trgParamWrite
  simp (maxDischargeDepth := 60) [hs]

@[simp] theorem ensRefuse_keeps (s : State) :
    (State.ensRefuse s).pending = s.pending ∧ (State.ensRefuse s).sdram = s.sdram ∧ (State.ensRefuse s).fuse = s.fuse ∧ (State.ensRefuse s).sem = s.sem ∧ (State.ensRefuse s).dom = s.dom ∧ (State.ensRefuse s).time = s.time ∧ (State.ensRefuse s).kp = s.kp ∧ (State.ensRefuse s).act = s.act ∧ (State.ensRefuse s).mirror = s.mirror := by
  unfold State.ensRefuse
  simp

@[simp] theorem ensRefuse_rising (s : State) (hs : s.regs.rising = true) :
    (State.ensRefuse s).regs.rising = true := by
  unfold State.ensRefuse
  simp (maxDischargeDepth := 60) [hs]

@[simp] theorem trgCondPort_keeps (s : State) (c : Nat) (v : Nat) :
    (State.trgCondPort s c v).pending = s.pending ∧ (State.trgCondPort s c v).sdram = s.sdram ∧ (State.trgCondPort s c v).fuse = s.fuse ∧ (State.trgCondPort s c v).sem = s.sem ∧ (State.trgCondPort s c v).dom = s.dom ∧ (State.trgCondPort s c v).time = s.time ∧ (State.trgCondPort s c v).kp = s.kp ∧ (State.trgCondPort s c v).act = s.act ∧ (State.trgCondPort s c v).mirror = s.mirror := by
  unfold State.trgCondPort
  simp

@[simp] theorem trgCondPort_rising (s : State) (c : Nat) (v : Nat) (hs : s.regs.rising = true) :
    (State.trgCondPort s c v).regs.rising = true := by
  unfold State.trgCondPort
  simp (maxDischargeDepth := 60) [hs]

@[simp] theorem rgnCtlWrite_keeps (s : State) (r : Nat) (v : Nat) :
    (State.rgnCtlWrite s r v).pending = s.pending ∧ (State.rgnCtlWrite s r v).sdram = s.sdram ∧ (State.rgnCtlWrite s r v).fuse = s.fuse ∧ (State.rgnCtlWrite s r v).sem = s.sem ∧ (State.rgnCtlWrite s r v).dom = s.dom ∧ (State.rgnCtlWrite s r v).time = s.time ∧ (State.rgnCtlWrite s r v).kp = s.kp ∧ (State.rgnCtlWrite s r v).act = s.act := by
  unfold State.rgnCtlWrite
  simp

@[simp] theorem rgnCtlWrite_rising (s : State) (r : Nat) (v : Nat) (hs : s.regs.rising = true) :
    (State.rgnCtlWrite s r v).regs.rising = true := by
  unfold State.rgnCtlWrite
  simp (maxDischargeDepth := 60) [hs]

@[simp] theorem rgnCtlWrite_mirrorWf (s : State) (r : Nat) (v : Nat) (hs : s.mirror.words.wf 0#32 = true) :
    (State.rgnCtlWrite s r v).mirror.words.wf 0#32 = true := by
  unfold State.rgnCtlWrite
  simp (maxDischargeDepth := 60) [hs]

@[simp] theorem rgnCtlPort_keeps (s : State) (r : Nat) (v : Nat) :
    (State.rgnCtlPort s r v).pending = s.pending ∧ (State.rgnCtlPort s r v).sdram = s.sdram ∧ (State.rgnCtlPort s r v).fuse = s.fuse ∧ (State.rgnCtlPort s r v).sem = s.sem ∧ (State.rgnCtlPort s r v).dom = s.dom ∧ (State.rgnCtlPort s r v).time = s.time ∧ (State.rgnCtlPort s r v).kp = s.kp ∧ (State.rgnCtlPort s r v).act = s.act := by
  unfold State.rgnCtlPort
  simp

@[simp] theorem rgnCtlPort_rising (s : State) (r : Nat) (v : Nat) (hs : s.regs.rising = true) :
    (State.rgnCtlPort s r v).regs.rising = true := by
  unfold State.rgnCtlPort
  simp (maxDischargeDepth := 60) [hs]

@[simp] theorem rgnCtlPort_mirrorWf (s : State) (r : Nat) (v : Nat) (hs : s.mirror.words.wf 0#32 = true) :
    (State.rgnCtlPort s r v).mirror.words.wf 0#32 = true := by
  unfold State.rgnCtlPort
  simp (maxDischargeDepth := 60) [hs]

@[simp] theorem inLevel_keeps (s : State) (i : Nat) :
    (State.inLevel s i).pending = s.pending ∧ (State.inLevel s i).sdram = s.sdram ∧ (State.inLevel s i).fuse = s.fuse ∧ (State.inLevel s i).sem = s.sem ∧ (State.inLevel s i).dom = s.dom ∧ (State.inLevel s i).time = s.time ∧ (State.inLevel s i).kp = s.kp ∧ (State.inLevel s i).act = s.act ∧ (State.inLevel s i).mirror = s.mirror := by
  unfold State.inLevel
  simp

@[simp] theorem inLevel_rising (s : State) (i : Nat) (hs : s.regs.rising = true) :
    (State.inLevel s i).regs.rising = true := by
  unfold State.inLevel
  simp (maxDischargeDepth := 60) +contextual [hs]

@[simp] theorem inCtlWrite_keeps (s : State) (i v : Nat) :
    (State.inCtlWrite s i v).pending = s.pending ∧ (State.inCtlWrite s i v).sdram = s.sdram ∧ (State.inCtlWrite s i v).fuse = s.fuse ∧ (State.inCtlWrite s i v).sem = s.sem ∧ (State.inCtlWrite s i v).dom = s.dom ∧ (State.inCtlWrite s i v).time = s.time ∧ (State.inCtlWrite s i v).kp = s.kp ∧ (State.inCtlWrite s i v).act = s.act ∧ (State.inCtlWrite s i v).mirror = s.mirror := by
  unfold State.inCtlWrite
  simp

@[simp] theorem inCtlWrite_rising (s : State) (i v : Nat) (hs : s.regs.rising = true) :
    (State.inCtlWrite s i v).regs.rising = true := by
  unfold State.inCtlWrite
  simp (maxDischargeDepth := 60) +contextual [hs]

@[simp] theorem outCtlWrite_keeps (s : State) (o : Nat) (v : Nat) :
    (State.outCtlWrite s o v).pending = s.pending ∧ (State.outCtlWrite s o v).sdram = s.sdram ∧ (State.outCtlWrite s o v).fuse = s.fuse ∧ (State.outCtlWrite s o v).sem = s.sem ∧ (State.outCtlWrite s o v).dom = s.dom ∧ (State.outCtlWrite s o v).time = s.time ∧ (State.outCtlWrite s o v).kp = s.kp ∧ (State.outCtlWrite s o v).act = s.act ∧ (State.outCtlWrite s o v).mirror = s.mirror := by
  unfold State.outCtlWrite
  simp

@[simp] theorem outCtlWrite_rising (s : State) (o : Nat) (v : Nat) (hs : s.regs.rising = true) :
    (State.outCtlWrite s o v).regs.rising = true := by
  unfold State.outCtlWrite
  simp (maxDischargeDepth := 60) [hs]

@[simp] theorem enqueueForce_keeps (s : State) (c : Nat) (t : Stamp) :
    (State.enqueueForce s c t).pending = s.pending ∧ (State.enqueueForce s c t).sdram = s.sdram ∧ (State.enqueueForce s c t).fuse = s.fuse ∧ (State.enqueueForce s c t).sem = s.sem ∧ (State.enqueueForce s c t).dom = s.dom ∧ (State.enqueueForce s c t).time = s.time ∧ (State.enqueueForce s c t).kp = s.kp ∧ (State.enqueueForce s c t).regs = s.regs ∧ (State.enqueueForce s c t).act = s.act ∧ (State.enqueueForce s c t).mirror = s.mirror := by
  unfold State.enqueueForce
  simp

@[simp] theorem forceAll_keeps (s : State) (t : Stamp) (y0 : List Nat) :
    (State.forceAll s t y0).pending = s.pending ∧ (State.forceAll s t y0).sdram = s.sdram ∧ (State.forceAll s t y0).fuse = s.fuse ∧ (State.forceAll s t y0).sem = s.sem ∧ (State.forceAll s t y0).dom = s.dom ∧ (State.forceAll s t y0).time = s.time ∧ (State.forceAll s t y0).kp = s.kp ∧ (State.forceAll s t y0).regs = s.regs ∧ (State.forceAll s t y0).act = s.act ∧ (State.forceAll s t y0).mirror = s.mirror := by
  fun_induction State.forceAll s t y0; all_goals first
      | (simp_all +zetaDelta; done)
      | (simp only [*]; (try simp +zetaDelta only []); (repeat' split) <;> simp_all; done)

@[simp] theorem setAvg_keeps (s : State) (p : Nat) (x : AvgSt) :
    (State.setAvg s p x).pending = s.pending ∧ (State.setAvg s p x).sdram = s.sdram ∧ (State.setAvg s p x).fuse = s.fuse ∧ (State.setAvg s p x).sem = s.sem ∧ (State.setAvg s p x).dom = s.dom ∧ (State.setAvg s p x).time = s.time ∧ (State.setAvg s p x).kp = s.kp ∧ (State.setAvg s p x).regs = s.regs ∧ (State.setAvg s p x).act = s.act ∧ (State.setAvg s p x).mirror = s.mirror := by
  unfold State.setAvg
  simp

@[simp] theorem avgAdd_keeps (s : State) (p : Nat) (t : AvgTodo) :
    (State.avgAdd s p t).pending = s.pending ∧ (State.avgAdd s p t).fuse = s.fuse ∧ (State.avgAdd s p t).sem = s.sem ∧ (State.avgAdd s p t).dom = s.dom ∧ (State.avgAdd s p t).time = s.time ∧ (State.avgAdd s p t).kp = s.kp ∧ (State.avgAdd s p t).act = s.act := by
  unfold State.avgAdd
  simp

@[simp] theorem avgAdd_rising (s : State) (p : Nat) (t : AvgTodo) (hs : s.regs.rising = true) :
    (State.avgAdd s p t).regs.rising = true := by
  unfold State.avgAdd
  simp (maxDischargeDepth := 60) [hs]

@[simp] theorem avgAdd_mirrorWf (s : State) (p : Nat) (t : AvgTodo) (hs : s.mirror.words.wf 0#32 = true) :
    (State.avgAdd s p t).mirror.words.wf 0#32 = true := by
  unfold State.avgAdd
  simp (maxDischargeDepth := 60) [hs]

@[simp] theorem avgAdd_sdramWf (s : State) (p : Nat) (t : AvgTodo) (hs : s.sdram.wf 0#8 = true) :
    (State.avgAdd s p t).sdram.wf 0#8 = true := by
  unfold State.avgAdd
  simp (maxDischargeDepth := 60) [hs]

@[simp] theorem avgRun_keeps (s : State) (p : Nat) (y0 : Nat) :
    (State.avgRun s p y0).pending = s.pending ∧ (State.avgRun s p y0).fuse = s.fuse ∧ (State.avgRun s p y0).sem = s.sem ∧ (State.avgRun s p y0).dom = s.dom ∧ (State.avgRun s p y0).time = s.time ∧ (State.avgRun s p y0).kp = s.kp ∧ (State.avgRun s p y0).act = s.act := by
  fun_induction State.avgRun s p y0; all_goals first
      | (simp_all +zetaDelta; done)
      | (simp only [*]; (try simp +zetaDelta only []); (repeat' split) <;> simp_all; done)

@[simp] theorem avgRun_rising (s : State) (p : Nat) (y0 : Nat) (hs : s.regs.rising = true) :
    (State.avgRun s p y0).regs.rising = true := by
  fun_induction State.avgRun s p y0 <;> (simp_all (maxDischargeDepth := 60) +zetaDelta; done)

@[simp] theorem avgRun_mirrorWf (s : State) (p : Nat) (y0 : Nat) (hs : s.mirror.words.wf 0#32 = true) :
    (State.avgRun s p y0).mirror.words.wf 0#32 = true := by
  fun_induction State.avgRun s p y0 <;> (simp_all (maxDischargeDepth := 60) +zetaDelta; done)

@[simp] theorem avgRun_sdramWf (s : State) (p : Nat) (y0 : Nat) (hs : s.sdram.wf 0#8 = true) :
    (State.avgRun s p y0).sdram.wf 0#8 = true := by
  fun_induction State.avgRun s p y0 <;> (simp_all (maxDischargeDepth := 60) +zetaDelta; done)

@[simp] theorem avgTake_keeps (s : State) (p : Nat) (x : Parcel) :
    (State.avgTake s p x).pending = s.pending ∧ (State.avgTake s p x).fuse = s.fuse ∧ (State.avgTake s p x).sem = s.sem ∧ (State.avgTake s p x).dom = s.dom ∧ (State.avgTake s p x).time = s.time ∧ (State.avgTake s p x).kp = s.kp ∧ (State.avgTake s p x).act = s.act := by
  unfold State.avgTake
  simp

@[simp] theorem avgTake_rising (s : State) (p : Nat) (x : Parcel) (hs : s.regs.rising = true) :
    (State.avgTake s p x).regs.rising = true := by
  unfold State.avgTake
  simp (maxDischargeDepth := 60) [hs]

@[simp] theorem avgTake_mirrorWf (s : State) (p : Nat) (x : Parcel) (hs : s.mirror.words.wf 0#32 = true) :
    (State.avgTake s p x).mirror.words.wf 0#32 = true := by
  unfold State.avgTake
  simp (maxDischargeDepth := 60) [hs]

@[simp] theorem avgTake_sdramWf (s : State) (p : Nat) (x : Parcel) (hs : s.sdram.wf 0#8 = true) :
    (State.avgTake s p x).sdram.wf 0#8 = true := by
  unfold State.avgTake
  simp (maxDischargeDepth := 60) [hs]

@[simp] theorem avgReset_keeps (s : State) (p : Nat) :
    (State.avgReset s p).pending = s.pending ∧ (State.avgReset s p).sdram = s.sdram ∧ (State.avgReset s p).fuse = s.fuse ∧ (State.avgReset s p).sem = s.sem ∧ (State.avgReset s p).dom = s.dom ∧ (State.avgReset s p).time = s.time ∧ (State.avgReset s p).kp = s.kp ∧ (State.avgReset s p).act = s.act ∧ (State.avgReset s p).mirror = s.mirror := by
  unfold State.avgReset
  simp

@[simp] theorem avgReset_rising (s : State) (p : Nat) (hs : s.regs.rising = true) :
    (State.avgReset s p).regs.rising = true := by
  unfold State.avgReset
  simp (maxDischargeDepth := 60) [hs]

@[simp] theorem avgCtlWrite_keeps (s : State) (p : Nat) (v : Nat) :
    (State.avgCtlWrite s p v).pending = s.pending ∧ (State.avgCtlWrite s p v).sdram = s.sdram ∧ (State.avgCtlWrite s p v).fuse = s.fuse ∧ (State.avgCtlWrite s p v).sem = s.sem ∧ (State.avgCtlWrite s p v).dom = s.dom ∧ (State.avgCtlWrite s p v).time = s.time ∧ (State.avgCtlWrite s p v).kp = s.kp ∧ (State.avgCtlWrite s p v).act = s.act ∧ (State.avgCtlWrite s p v).mirror = s.mirror := by
  unfold State.avgCtlWrite
  simp

@[simp] theorem avgCtlWrite_rising (s : State) (p : Nat) (v : Nat) (hs : s.regs.rising = true) :
    (State.avgCtlWrite s p v).regs.rising = true := by
  unfold State.avgCtlWrite
  simp (maxDischargeDepth := 60) [hs]

@[simp] theorem avgLenWrite_keeps (s : State) (p : Nat) (v : Nat) :
    (State.avgLenWrite s p v).pending = s.pending ∧ (State.avgLenWrite s p v).sdram = s.sdram ∧ (State.avgLenWrite s p v).fuse = s.fuse ∧ (State.avgLenWrite s p v).sem = s.sem ∧ (State.avgLenWrite s p v).dom = s.dom ∧ (State.avgLenWrite s p v).time = s.time ∧ (State.avgLenWrite s p v).kp = s.kp ∧ (State.avgLenWrite s p v).act = s.act ∧ (State.avgLenWrite s p v).mirror = s.mirror := by
  unfold State.avgLenWrite
  simp

@[simp] theorem avgLenWrite_rising (s : State) (p : Nat) (v : Nat) (hs : s.regs.rising = true) :
    (State.avgLenWrite s p v).regs.rising = true := by
  unfold State.avgLenWrite
  simp (maxDischargeDepth := 60) [hs]

@[simp] theorem avgLeave_keeps (s : State) (y0 : List Nat) :
    (State.avgLeave s y0).pending = s.pending ∧ (State.avgLeave s y0).sdram = s.sdram ∧ (State.avgLeave s y0).fuse = s.fuse ∧ (State.avgLeave s y0).sem = s.sem ∧ (State.avgLeave s y0).dom = s.dom ∧ (State.avgLeave s y0).time = s.time ∧ (State.avgLeave s y0).kp = s.kp ∧ (State.avgLeave s y0).act = s.act ∧ (State.avgLeave s y0).mirror = s.mirror := by
  fun_induction State.avgLeave s y0; all_goals first
      | (simp_all +zetaDelta; done)
      | (simp only [*]; (try simp +zetaDelta only []); (repeat' split) <;> simp_all; done)

@[simp] theorem avgLeave_rising (s : State) (y0 : List Nat) (hs : s.regs.rising = true) :
    (State.avgLeave s y0).regs.rising = true := by
  fun_induction State.avgLeave s y0 <;> (simp_all (maxDischargeDepth := 60) +zetaDelta; done)

@[simp] theorem triginEdge_keeps (s : State) (i : Nat) (active : Bool) (tick : Nat) (bin : Nat) :
    (State.triginEdge s i active tick bin).pending = s.pending ∧ (State.triginEdge s i active tick bin).sdram = s.sdram ∧ (State.triginEdge s i active tick bin).fuse = s.fuse ∧ (State.triginEdge s i active tick bin).sem = s.sem ∧ (State.triginEdge s i active tick bin).dom = s.dom ∧ (State.triginEdge s i active tick bin).time = s.time ∧ (State.triginEdge s i active tick bin).kp = s.kp ∧ (State.triginEdge s i active tick bin).act = s.act ∧ (State.triginEdge s i active tick bin).mirror = s.mirror := by
  unfold State.triginEdge
  simp

@[simp] theorem triginEdge_rising (s : State) (i : Nat) (active : Bool) (tick : Nat) (bin : Nat) (hs : s.regs.rising = true) :
    (State.triginEdge s i active tick bin).regs.rising = true := by
  unfold State.triginEdge
  simp (maxDischargeDepth := 60) [hs]

@[simp] theorem fltFire_keeps (s : State) (n : Nat) (ix : Nat) (t : Stamp) :
    (State.fltFire s n ix t).pending = s.pending ∧ (State.fltFire s n ix t).sdram = s.sdram ∧ (State.fltFire s n ix t).fuse = s.fuse ∧ (State.fltFire s n ix t).sem = s.sem ∧ (State.fltFire s n ix t).dom = s.dom ∧ (State.fltFire s n ix t).time = s.time ∧ (State.fltFire s n ix t).kp = s.kp ∧ (State.fltFire s n ix t).act = s.act ∧ (State.fltFire s n ix t).mirror = s.mirror := by
  unfold State.fltFire
  simp

@[simp] theorem fltFire_rising (s : State) (n : Nat) (ix : Nat) (t : Stamp) (hs : s.regs.rising = true) :
    (State.fltFire s n ix t).regs.rising = true := by
  unfold State.fltFire
  simp (maxDischargeDepth := 60) [hs]
end Sys2Proof.Machine.State
end

