-- ==== Sys2Proof/Laws/KeepKal.lean ====
section
/-! SUPPORT. What the operations of Machine/Kal.lean leave alone: memory, fuses, semaphores, domains, time, the queue. -/

namespace Sys2Proof.Machine.State

@[simp] theorem setKal_keeps (s : State) (k : Nat) (x : KalSt) :
    (State.setKal s k x).pending = s.pending ∧ (State.setKal s k x).sdram = s.sdram ∧ (State.setKal s k x).fuse = s.fuse ∧ (State.setKal s k x).sem = s.sem ∧ (State.setKal s k x).dom = s.dom ∧ (State.setKal s k x).time = s.time ∧ (State.setKal s k x).kp = s.kp ∧ (State.setKal s k x).regs = s.regs ∧ (State.setKal s k x).act = s.act ∧ (State.setKal s k x).mirror = s.mirror := by
  unfold State.setKal
  simp

@[simp] theorem kalRefuse_keeps (s : State) (k : Nat) :
    (State.kalRefuse s k).pending = s.pending ∧ (State.kalRefuse s k).sdram = s.sdram ∧ (State.kalRefuse s k).fuse = s.fuse ∧ (State.kalRefuse s k).sem = s.sem ∧ (State.kalRefuse s k).dom = s.dom ∧ (State.kalRefuse s k).time = s.time ∧ (State.kalRefuse s k).kp = s.kp ∧ (State.kalRefuse s k).act = s.act ∧ (State.kalRefuse s k).mirror = s.mirror := by
  unfold State.kalRefuse
  simp

@[simp] theorem kalRefuse_rising (s : State) (k : Nat) (hs : s.regs.rising = true) :
    (State.kalRefuse s k).regs.rising = true := by
  unfold State.kalRefuse
  simp (maxDischargeDepth := 60) [hs]

@[simp] theorem kalBoundary_keeps (s : State) (k : Nat) :
    (State.kalBoundary s k).pending = s.pending ∧ (State.kalBoundary s k).sdram = s.sdram ∧ (State.kalBoundary s k).fuse = s.fuse ∧ (State.kalBoundary s k).sem = s.sem ∧ (State.kalBoundary s k).dom = s.dom ∧ (State.kalBoundary s k).time = s.time ∧ (State.kalBoundary s k).kp = s.kp ∧ (State.kalBoundary s k).mirror = s.mirror := by
  unfold State.kalBoundary
  simp

@[simp] theorem kalBoundary_rising (s : State) (k : Nat) (hs : s.regs.rising = true) :
    (State.kalBoundary s k).regs.rising = true := by
  unfold State.kalBoundary
  simp (maxDischargeDepth := 60) [hs]

@[simp] theorem kalBoundary_actRising (s : State) (k : Nat) (hr : s.regs.rising = true) (hs : s.act.rising = true) :
    (State.kalBoundary s k).act.rising = true := by
  unfold State.kalBoundary
  simp (maxDischargeDepth := 60) [hr, hs]

@[simp] theorem zeroLog_keeps (s : State) (seq : Nat) (addr : Nat) (cls : Nat) (unit : Nat) (p : Nat) :
    (State.zeroLog s seq addr cls unit p).pending = s.pending ∧ (State.zeroLog s seq addr cls unit p).sdram = s.sdram ∧ (State.zeroLog s seq addr cls unit p).fuse = s.fuse ∧ (State.zeroLog s seq addr cls unit p).sem = s.sem ∧ (State.zeroLog s seq addr cls unit p).dom = s.dom ∧ (State.zeroLog s seq addr cls unit p).time = s.time ∧ (State.zeroLog s seq addr cls unit p).kp = s.kp ∧ (State.zeroLog s seq addr cls unit p).act = s.act ∧ (State.zeroLog s seq addr cls unit p).mirror = s.mirror := by
  unfold State.zeroLog
  simp

@[simp] theorem zeroLog_rising (s : State) (seq : Nat) (addr : Nat) (cls : Nat) (unit : Nat) (p : Nat) (hs : s.regs.rising = true) :
    (State.zeroLog s seq addr cls unit p).regs.rising = true := by
  unfold State.zeroLog
  simp (maxDischargeDepth := 60) [hs]

@[simp] theorem kalSpoil_keeps (s : State) (k : Nat) (cells : List Nat) :
    (State.kalSpoil s k cells).pending = s.pending ∧ (State.kalSpoil s k cells).sdram = s.sdram ∧ (State.kalSpoil s k cells).fuse = s.fuse ∧ (State.kalSpoil s k cells).sem = s.sem ∧ (State.kalSpoil s k cells).dom = s.dom ∧ (State.kalSpoil s k cells).time = s.time ∧ (State.kalSpoil s k cells).kp = s.kp ∧ (State.kalSpoil s k cells).regs = s.regs ∧ (State.kalSpoil s k cells).act = s.act ∧ (State.kalSpoil s k cells).mirror = s.mirror := by
  unfold State.kalSpoil
  simp

@[simp] theorem kalMeet_keeps (s : State) (k cell seq : Nat) (p : Option Nat) :
    (State.kalMeet s k cell seq p).pending = s.pending ∧ (State.kalMeet s k cell seq p).sdram = s.sdram ∧ (State.kalMeet s k cell seq p).fuse = s.fuse ∧ (State.kalMeet s k cell seq p).sem = s.sem ∧ (State.kalMeet s k cell seq p).dom = s.dom ∧ (State.kalMeet s k cell seq p).time = s.time ∧ (State.kalMeet s k cell seq p).kp = s.kp ∧ (State.kalMeet s k cell seq p).act = s.act ∧ (State.kalMeet s k cell seq p).mirror = s.mirror := by
  unfold State.kalMeet
  simp

@[simp] theorem kalMeet_rising (s : State) (k cell seq : Nat) (p : Option Nat) (hs : s.regs.rising = true) :
    (State.kalMeet s k cell seq p).regs.rising = true := by
  unfold State.kalMeet
  simp (maxDischargeDepth := 60) +contextual [hs]

@[simp] theorem kalCellPut_keeps (s : State) (k cell : Nat) (v : Word) :
    (State.kalCellPut s k cell v).pending = s.pending ∧ (State.kalCellPut s k cell v).sdram = s.sdram ∧ (State.kalCellPut s k cell v).fuse = s.fuse ∧ (State.kalCellPut s k cell v).sem = s.sem ∧ (State.kalCellPut s k cell v).dom = s.dom ∧ (State.kalCellPut s k cell v).time = s.time ∧ (State.kalCellPut s k cell v).kp = s.kp ∧ (State.kalCellPut s k cell v).regs = s.regs ∧ (State.kalCellPut s k cell v).act = s.act ∧ (State.kalCellPut s k cell v).mirror = s.mirror := by
  unfold State.kalCellPut
  simp

@[simp] theorem kalCount_keeps (s : State) (k cell seq p : Nat) :
    (State.kalCount s k cell seq p).pending = s.pending ∧ (State.kalCount s k cell seq p).sdram = s.sdram ∧ (State.kalCount s k cell seq p).fuse = s.fuse ∧ (State.kalCount s k cell seq p).sem = s.sem ∧ (State.kalCount s k cell seq p).dom = s.dom ∧ (State.kalCount s k cell seq p).time = s.time ∧ (State.kalCount s k cell seq p).kp = s.kp ∧ (State.kalCount s k cell seq p).act = s.act ∧ (State.kalCount s k cell seq p).mirror = s.mirror := by
  unfold State.kalCount
  simp

@[simp] theorem kalCount_rising (s : State) (k cell seq p : Nat) (hs : s.regs.rising = true) :
    (State.kalCount s k cell seq p).regs.rising = true := by
  unfold State.kalCount
  simp (maxDischargeDepth := 60) +contextual [hs]

@[simp] theorem kalLevels_keeps (s : State) (k col seq p : Nat) (y0 : List Nat) :
    (State.kalLevels s k col seq p y0).pending = s.pending ∧ (State.kalLevels s k col seq p y0).sdram = s.sdram ∧ (State.kalLevels s k col seq p y0).fuse = s.fuse ∧ (State.kalLevels s k col seq p y0).sem = s.sem ∧ (State.kalLevels s k col seq p y0).dom = s.dom ∧ (State.kalLevels s k col seq p y0).time = s.time ∧ (State.kalLevels s k col seq p y0).kp = s.kp ∧ (State.kalLevels s k col seq p y0).act = s.act ∧ (State.kalLevels s k col seq p y0).mirror = s.mirror := by
  fun_induction State.kalLevels s k col seq p y0; all_goals first
      | (simp_all +zetaDelta; done)
      | (simp only [*]; (try simp +zetaDelta only []); (repeat' split) <;> simp_all; done)

@[simp] theorem kalLevels_rising (s : State) (k col seq p : Nat) (y0 : List Nat) (hs : s.regs.rising = true) :
    (State.kalLevels s k col seq p y0).regs.rising = true := by
  fun_induction State.kalLevels s k col seq p y0 <;> first | (simp_all (maxDischargeDepth := 60) +zetaDelta; done) | (rename_i ih; apply ih; (try simp +zetaDelta only []); (repeat' split) <;> simp_all (maxDischargeDepth := 60); done)

@[simp] theorem kalCols_keeps (s : State) (k : Nat) (vs : List Nat) (seq p : Nat) (y0 : List Nat) :
    (State.kalCols s k vs seq p y0).pending = s.pending ∧ (State.kalCols s k vs seq p y0).sdram = s.sdram ∧ (State.kalCols s k vs seq p y0).fuse = s.fuse ∧ (State.kalCols s k vs seq p y0).sem = s.sem ∧ (State.kalCols s k vs seq p y0).dom = s.dom ∧ (State.kalCols s k vs seq p y0).time = s.time ∧ (State.kalCols s k vs seq p y0).kp = s.kp ∧ (State.kalCols s k vs seq p y0).act = s.act ∧ (State.kalCols s k vs seq p y0).mirror = s.mirror := by
  fun_induction State.kalCols s k vs seq p y0; all_goals first
      | (simp_all +zetaDelta; done)
      | (simp only [*]; (try simp +zetaDelta only []); (repeat' split) <;> simp_all; done)

@[simp] theorem kalCols_rising (s : State) (k : Nat) (vs : List Nat) (seq p : Nat) (y0 : List Nat) (hs : s.regs.rising = true) :
    (State.kalCols s k vs seq p y0).regs.rising = true := by
  fun_induction State.kalCols s k vs seq p y0 <;> (simp_all (maxDischargeDepth := 60) +zetaDelta; done)

@[simp] theorem kalLineTake_keeps (s : State) (k : Nat) (x : Parcel) (sp : Spectrum) :
    (State.kalLineTake s k x sp).pending = s.pending ∧ (State.kalLineTake s k x sp).fuse = s.fuse ∧ (State.kalLineTake s k x sp).sem = s.sem ∧ (State.kalLineTake s k x sp).dom = s.dom ∧ (State.kalLineTake s k x sp).time = s.time ∧ (State.kalLineTake s k x sp).kp = s.kp ∧ (State.kalLineTake s k x sp).act = s.act := by
  unfold State.kalLineTake
  simp

@[simp] theorem kalLineTake_rising (s : State) (k : Nat) (x : Parcel) (sp : Spectrum) (hs : s.regs.rising = true) :
    (State.kalLineTake s k x sp).regs.rising = true := by
  unfold State.kalLineTake
  simp (maxDischargeDepth := 60) [hs]

@[simp] theorem kalLineTake_mirrorWf (s : State) (k : Nat) (x : Parcel) (sp : Spectrum) (hs : s.mirror.words.wf 0#32 = true) :
    (State.kalLineTake s k x sp).mirror.words.wf 0#32 = true := by
  unfold State.kalLineTake
  simp (maxDischargeDepth := 60) [hs]

@[simp] theorem kalLineTake_sdramWf (s : State) (k : Nat) (x : Parcel) (sp : Spectrum) (hs : s.sdram.wf 0#8 = true) :
    (State.kalLineTake s k x sp).sdram.wf 0#8 = true := by
  unfold State.kalLineTake
  simp (maxDischargeDepth := 60) [hs]

@[simp] theorem kalTake_keeps (s : State) (k i : Nat) (x : Parcel) (sp : Spectrum) (bad : List Nat) :
    (State.kalTake s k i x sp bad).pending = s.pending ∧ (State.kalTake s k i x sp bad).fuse = s.fuse ∧ (State.kalTake s k i x sp bad).sem = s.sem ∧ (State.kalTake s k i x sp bad).dom = s.dom ∧ (State.kalTake s k i x sp bad).time = s.time ∧ (State.kalTake s k i x sp bad).kp = s.kp ∧ (State.kalTake s k i x sp bad).act = s.act := by
  unfold State.kalTake
  simp

@[simp] theorem kalTake_sdramWf (s : State) (k i : Nat) (x : Parcel) (sp : Spectrum) (bad : List Nat) (hs : s.sdram.wf 0#8 = true) :
    (State.kalTake s k i x sp bad).sdram.wf 0#8 = true := by
  unfold State.kalTake
  simp (maxDischargeDepth := 60) +contextual [hs]

@[simp] theorem kalTake_rising (s : State) (k i : Nat) (x : Parcel) (sp : Spectrum) (bad : List Nat) (hs : s.regs.rising = true) :
    (State.kalTake s k i x sp bad).regs.rising = true := by
  unfold State.kalTake
  simp (maxDischargeDepth := 60) +contextual [hs]

@[simp] theorem kalTake_mirrorWf (s : State) (k i : Nat) (x : Parcel) (sp : Spectrum) (bad : List Nat) (hs : s.mirror.words.wf 0#32 = true) :
    (State.kalTake s k i x sp bad).mirror.words.wf 0#32 = true := by
  unfold State.kalTake
  simp (maxDischargeDepth := 60) +contextual [hs]

@[simp] theorem kalSpectrum_keeps (s : State) (k : Nat) (x : Parcel) (bad : List Nat) :
    (State.kalSpectrum s k x bad).pending = s.pending ∧ (State.kalSpectrum s k x bad).fuse = s.fuse ∧ (State.kalSpectrum s k x bad).sem = s.sem ∧ (State.kalSpectrum s k x bad).dom = s.dom ∧ (State.kalSpectrum s k x bad).time = s.time ∧ (State.kalSpectrum s k x bad).kp = s.kp := by
  unfold State.kalSpectrum
  try dsimp only
  (repeat' split) <;> simp

@[simp] theorem kalSpectrum_sdramWf (s : State) (k : Nat) (x : Parcel) (bad : List Nat) (hs : s.sdram.wf 0#8 = true) :
    (State.kalSpectrum s k x bad).sdram.wf 0#8 = true := by
  unfold State.kalSpectrum
  try dsimp only
  (repeat' split) <;> simp (maxDischargeDepth := 60) +contextual [hs]

@[simp] theorem kalSpectrum_rising (s : State) (k : Nat) (x : Parcel) (bad : List Nat) (hs : s.regs.rising = true) :
    (State.kalSpectrum s k x bad).regs.rising = true := by
  unfold State.kalSpectrum
  try dsimp only
  (repeat' split) <;> simp (maxDischargeDepth := 60) +contextual [hs]

@[simp] theorem kalSpectrum_actRising (s : State) (k : Nat) (x : Parcel) (bad : List Nat) (hr : s.regs.rising = true) (hs : s.act.rising = true) :
    (State.kalSpectrum s k x bad).act.rising = true := by
  unfold State.kalSpectrum
  try dsimp only
  (repeat' split) <;> simp (maxDischargeDepth := 60) +contextual [hr, hs]

@[simp] theorem kalSpectrum_mirrorWf (s : State) (k : Nat) (x : Parcel) (bad : List Nat) (hs : s.mirror.words.wf 0#32 = true) :
    (State.kalSpectrum s k x bad).mirror.words.wf 0#32 = true := by
  unfold State.kalSpectrum
  try dsimp only
  (repeat' split) <;> simp (maxDischargeDepth := 60) +contextual [hs]

@[simp] theorem sweepStart_keeps (s : State) (k : Nat) :
    (State.sweepStart s k).pending = s.pending ∧ (State.sweepStart s k).sdram = s.sdram ∧ (State.sweepStart s k).fuse = s.fuse ∧ (State.sweepStart s k).sem = s.sem ∧ (State.sweepStart s k).dom = s.dom ∧ (State.sweepStart s k).time = s.time ∧ (State.sweepStart s k).kp = s.kp ∧ (State.sweepStart s k).regs = s.regs ∧ (State.sweepStart s k).act = s.act ∧ (State.sweepStart s k).mirror = s.mirror := by
  unfold State.sweepStart
  simp

@[simp] theorem periodStart_keeps (s : State) (k : Nat) :
    (State.periodStart s k).pending = s.pending ∧ (State.periodStart s k).sdram = s.sdram ∧ (State.periodStart s k).fuse = s.fuse ∧ (State.periodStart s k).sem = s.sem ∧ (State.periodStart s k).dom = s.dom ∧ (State.periodStart s k).time = s.time ∧ (State.periodStart s k).kp = s.kp ∧ (State.periodStart s k).regs = s.regs ∧ (State.periodStart s k).act = s.act ∧ (State.periodStart s k).mirror = s.mirror := by
  unfold State.periodStart
  simp

@[simp] theorem kalMeetAll_keeps (s : State) (k : Nat) (y0 : List Nat) :
    (State.kalMeetAll s k y0).pending = s.pending ∧ (State.kalMeetAll s k y0).sdram = s.sdram ∧ (State.kalMeetAll s k y0).fuse = s.fuse ∧ (State.kalMeetAll s k y0).sem = s.sem ∧ (State.kalMeetAll s k y0).dom = s.dom ∧ (State.kalMeetAll s k y0).time = s.time ∧ (State.kalMeetAll s k y0).kp = s.kp ∧ (State.kalMeetAll s k y0).act = s.act ∧ (State.kalMeetAll s k y0).mirror = s.mirror := by
  fun_induction State.kalMeetAll s k y0; all_goals first
      | (simp_all +zetaDelta; done)
      | (simp only [*]; (try simp +zetaDelta only []); (repeat' split) <;> simp_all; done)

@[simp] theorem kalMeetAll_rising (s : State) (k : Nat) (y0 : List Nat) (hs : s.regs.rising = true) :
    (State.kalMeetAll s k y0).regs.rising = true := by
  fun_induction State.kalMeetAll s k y0 <;> (simp_all (maxDischargeDepth := 60) +zetaDelta; done)

@[simp] theorem sweepTo_keeps (s : State) (k hi : Nat) :
    (State.sweepTo s k hi).pending = s.pending ∧ (State.sweepTo s k hi).sdram = s.sdram ∧ (State.sweepTo s k hi).fuse = s.fuse ∧ (State.sweepTo s k hi).sem = s.sem ∧ (State.sweepTo s k hi).dom = s.dom ∧ (State.sweepTo s k hi).time = s.time ∧ (State.sweepTo s k hi).kp = s.kp ∧ (State.sweepTo s k hi).act = s.act ∧ (State.sweepTo s k hi).mirror = s.mirror := by
  unfold State.sweepTo
  try dsimp only
  (repeat' split) <;> simp

@[simp] theorem sweepTo_rising (s : State) (k hi : Nat) (hs : s.regs.rising = true) :
    (State.sweepTo s k hi).regs.rising = true := by
  unfold State.sweepTo
  try dsimp only
  (repeat' split) <;> simp (maxDischargeDepth := 60) +contextual [hs]

@[simp] theorem sweepTick_keeps (s : State) (k : Nat) :
    (State.sweepTick s k).pending = s.pending ∧ (State.sweepTick s k).sdram = s.sdram ∧ (State.sweepTick s k).fuse = s.fuse ∧ (State.sweepTick s k).sem = s.sem ∧ (State.sweepTick s k).dom = s.dom ∧ (State.sweepTick s k).time = s.time ∧ (State.sweepTick s k).kp = s.kp ∧ (State.sweepTick s k).act = s.act ∧ (State.sweepTick s k).mirror = s.mirror := by
  unfold State.sweepTick
  split <;> simp

@[simp] theorem sweepTick_rising (s : State) (k : Nat) (hs : s.regs.rising = true) :
    (State.sweepTick s k).regs.rising = true := by
  unfold State.sweepTick
  try dsimp only
  (repeat' split) <;> simp (maxDischargeDepth := 60) +contextual [hs]

@[simp] theorem sweepStop_keeps (s : State) (k : Nat) :
    (State.sweepStop s k).pending = s.pending ∧ (State.sweepStop s k).sdram = s.sdram ∧ (State.sweepStop s k).fuse = s.fuse ∧ (State.sweepStop s k).sem = s.sem ∧ (State.sweepStop s k).dom = s.dom ∧ (State.sweepStop s k).time = s.time ∧ (State.sweepStop s k).kp = s.kp ∧ (State.sweepStop s k).regs = s.regs ∧ (State.sweepStop s k).act = s.act ∧ (State.sweepStop s k).mirror = s.mirror := by
  unfold State.sweepStop
  simp

@[simp] theorem kalAhead_keeps (s : State) :
    (State.kalAhead s).pending = s.pending ∧ (State.kalAhead s).sdram = s.sdram ∧ (State.kalAhead s).fuse = s.fuse ∧ (State.kalAhead s).sem = s.sem ∧ (State.kalAhead s).dom = s.dom ∧ (State.kalAhead s).time = s.time ∧ (State.kalAhead s).kp = s.kp ∧ (State.kalAhead s).regs = s.regs ∧ (State.kalAhead s).mirror = s.mirror := by
  unfold State.kalAhead
  simp

@[simp] theorem kalAhead_actRising (s : State) (hr : s.regs.rising = true) (hs : s.act.rising = true) :
    (State.kalAhead s).act.rising = true := by
  unfold State.kalAhead
  simp (maxDischargeDepth := 60) +contextual [hr, hs]

@[simp] theorem kalSetWrite_keeps (s : State) (k off v : Nat) :
    (State.kalSetWrite s k off v).pending = s.pending ∧ (State.kalSetWrite s k off v).sdram = s.sdram ∧ (State.kalSetWrite s k off v).fuse = s.fuse ∧ (State.kalSetWrite s k off v).sem = s.sem ∧ (State.kalSetWrite s k off v).dom = s.dom ∧ (State.kalSetWrite s k off v).time = s.time ∧ (State.kalSetWrite s k off v).kp = s.kp ∧ (State.kalSetWrite s k off v).act = s.act ∧ (State.kalSetWrite s k off v).mirror = s.mirror := by
  unfold State.kalSetWrite
  simp

@[simp] theorem kalSetWrite_rising (s : State) (k off v : Nat) (hs : s.regs.rising = true) :
    (State.kalSetWrite s k off v).regs.rising = true := by
  unfold State.kalSetWrite
  simp (maxDischargeDepth := 60) +contextual [hs]

@[simp] theorem kalCtlWrite_keeps (s : State) (k : Nat) (v : Nat) :
    (State.kalCtlWrite s k v).pending = s.pending ∧ (State.kalCtlWrite s k v).sdram = s.sdram ∧ (State.kalCtlWrite s k v).fuse = s.fuse ∧ (State.kalCtlWrite s k v).sem = s.sem ∧ (State.kalCtlWrite s k v).dom = s.dom ∧ (State.kalCtlWrite s k v).time = s.time ∧ (State.kalCtlWrite s k v).kp = s.kp ∧ (State.kalCtlWrite s k v).act = s.act ∧ (State.kalCtlWrite s k v).mirror = s.mirror := by
  unfold State.kalCtlWrite
  simp

@[simp] theorem kalCtlWrite_rising (s : State) (k : Nat) (v : Nat) (hs : s.regs.rising = true) :
    (State.kalCtlWrite s k v).regs.rising = true := by
  unfold State.kalCtlWrite
  simp (maxDischargeDepth := 60) [hs]

@[simp] theorem kalLineWrite_keeps (s : State) (k : Nat) (v : Nat) :
    (State.kalLineWrite s k v).pending = s.pending ∧ (State.kalLineWrite s k v).sdram = s.sdram ∧ (State.kalLineWrite s k v).fuse = s.fuse ∧ (State.kalLineWrite s k v).sem = s.sem ∧ (State.kalLineWrite s k v).dom = s.dom ∧ (State.kalLineWrite s k v).time = s.time ∧ (State.kalLineWrite s k v).kp = s.kp ∧ (State.kalLineWrite s k v).act = s.act := by
  unfold State.kalLineWrite
  simp

@[simp] theorem kalLineWrite_rising (s : State) (k : Nat) (v : Nat) (hs : s.regs.rising = true) :
    (State.kalLineWrite s k v).regs.rising = true := by
  unfold State.kalLineWrite
  simp (maxDischargeDepth := 60) [hs]

@[simp] theorem kalLineWrite_mirrorWf (s : State) (k : Nat) (v : Nat) (hs : s.mirror.words.wf 0#32 = true) :
    (State.kalLineWrite s k v).mirror.words.wf 0#32 = true := by
  unfold State.kalLineWrite
  simp (maxDischargeDepth := 60) [hs]

@[simp] theorem kalCellWrite_keeps (s : State) (p : Port) (k : Nat) (cell : Nat) (v : Word) :
    (State.kalCellWrite s p k cell v).pending = s.pending ∧ (State.kalCellWrite s p k cell v).sdram = s.sdram ∧ (State.kalCellWrite s p k cell v).fuse = s.fuse ∧ (State.kalCellWrite s p k cell v).sem = s.sem ∧ (State.kalCellWrite s p k cell v).dom = s.dom ∧ (State.kalCellWrite s p k cell v).time = s.time ∧ (State.kalCellWrite s p k cell v).kp = s.kp ∧ (State.kalCellWrite s p k cell v).act = s.act ∧ (State.kalCellWrite s p k cell v).mirror = s.mirror := by
  unfold State.kalCellWrite
  try dsimp only
  (repeat' split) <;> simp

@[simp] theorem kalCellWrite_rising (s : State) (p : Port) (k : Nat) (cell : Nat) (v : Word) (hs : s.regs.rising = true) :
    (State.kalCellWrite s p k cell v).regs.rising = true := by
  unfold State.kalCellWrite
  try dsimp only
  (repeat' split) <;> simp (maxDischargeDepth := 60) [hs]

@[simp] theorem setMsk_keeps (s : State) (m : Nat) (x : MskSt) :
    (State.setMsk s m x).pending = s.pending ∧ (State.setMsk s m x).sdram = s.sdram ∧ (State.setMsk s m x).fuse = s.fuse ∧ (State.setMsk s m x).sem = s.sem ∧ (State.setMsk s m x).dom = s.dom ∧ (State.setMsk s m x).time = s.time ∧ (State.setMsk s m x).kp = s.kp ∧ (State.setMsk s m x).regs = s.regs ∧ (State.setMsk s m x).act = s.act ∧ (State.setMsk s m x).mirror = s.mirror := by
  unfold State.setMsk
  simp

@[simp] theorem mskRefuse_keeps (s : State) (m : Nat) :
    (State.mskRefuse s m).pending = s.pending ∧ (State.mskRefuse s m).sdram = s.sdram ∧ (State.mskRefuse s m).fuse = s.fuse ∧ (State.mskRefuse s m).sem = s.sem ∧ (State.mskRefuse s m).dom = s.dom ∧ (State.mskRefuse s m).time = s.time ∧ (State.mskRefuse s m).kp = s.kp ∧ (State.mskRefuse s m).act = s.act ∧ (State.mskRefuse s m).mirror = s.mirror := by
  unfold State.mskRefuse
  simp

@[simp] theorem mskRefuse_rising (s : State) (m : Nat) (hs : s.regs.rising = true) :
    (State.mskRefuse s m).regs.rising = true := by
  unfold State.mskRefuse
  simp (maxDischargeDepth := 60) [hs]

@[simp] theorem maskHomes_keeps (s : State) (m : Nat) (y0 : List Nat) :
    (State.maskHomes s m y0).pending = s.pending ∧ (State.maskHomes s m y0).sdram = s.sdram ∧ (State.maskHomes s m y0).fuse = s.fuse ∧ (State.maskHomes s m y0).sem = s.sem ∧ (State.maskHomes s m y0).dom = s.dom ∧ (State.maskHomes s m y0).time = s.time ∧ (State.maskHomes s m y0).kp = s.kp ∧ (State.maskHomes s m y0).act = s.act ∧ (State.maskHomes s m y0).mirror = s.mirror := by
  fun_induction State.maskHomes s m y0; all_goals first
      | (simp_all +zetaDelta; done)
      | (simp only [*]; (try simp +zetaDelta only []); (repeat' split) <;> simp_all; done)

@[simp] theorem maskHomes_rising (s : State) (m : Nat) (y0 : List Nat) (hs : s.regs.rising = true) :
    (State.maskHomes s m y0).regs.rising = true := by
  fun_induction State.maskHomes s m y0 <;> (simp_all (maxDischargeDepth := 60) +zetaDelta; done)

@[simp] theorem mskBindWrite_keeps (s : State) (m : Nat) (v : Nat) :
    (State.mskBindWrite s m v).pending = s.pending ∧ (State.mskBindWrite s m v).sdram = s.sdram ∧ (State.mskBindWrite s m v).fuse = s.fuse ∧ (State.mskBindWrite s m v).sem = s.sem ∧ (State.mskBindWrite s m v).dom = s.dom ∧ (State.mskBindWrite s m v).time = s.time ∧ (State.mskBindWrite s m v).kp = s.kp ∧ (State.mskBindWrite s m v).act = s.act ∧ (State.mskBindWrite s m v).mirror = s.mirror := by
  unfold State.mskBindWrite
  simp

@[simp] theorem mskBindWrite_rising (s : State) (m : Nat) (v : Nat) (hs : s.regs.rising = true) :
    (State.mskBindWrite s m v).regs.rising = true := by
  unfold State.mskBindWrite
  simp (maxDischargeDepth := 60) [hs]

@[simp] theorem mskBaseWrite_keeps (s : State) (m : Nat) (copy : Nat) (v : Nat) :
    (State.mskBaseWrite s m copy v).pending = s.pending ∧ (State.mskBaseWrite s m copy v).sdram = s.sdram ∧ (State.mskBaseWrite s m copy v).fuse = s.fuse ∧ (State.mskBaseWrite s m copy v).sem = s.sem ∧ (State.mskBaseWrite s m copy v).dom = s.dom ∧ (State.mskBaseWrite s m copy v).time = s.time ∧ (State.mskBaseWrite s m copy v).kp = s.kp ∧ (State.mskBaseWrite s m copy v).act = s.act ∧ (State.mskBaseWrite s m copy v).mirror = s.mirror := by
  unfold State.mskBaseWrite
  simp

@[simp] theorem mskBaseWrite_rising (s : State) (m : Nat) (copy : Nat) (v : Nat) (hs : s.regs.rising = true) :
    (State.mskBaseWrite s m copy v).regs.rising = true := by
  unfold State.mskBaseWrite
  simp (maxDischargeDepth := 60) [hs]

@[simp] theorem mskSwapWrite_keeps (s : State) (v : Nat) :
    (State.mskSwapWrite s v).pending = s.pending ∧ (State.mskSwapWrite s v).sdram = s.sdram ∧ (State.mskSwapWrite s v).fuse = s.fuse ∧ (State.mskSwapWrite s v).sem = s.sem ∧ (State.mskSwapWrite s v).dom = s.dom ∧ (State.mskSwapWrite s v).time = s.time ∧ (State.mskSwapWrite s v).kp = s.kp ∧ (State.mskSwapWrite s v).act = s.act ∧ (State.mskSwapWrite s v).mirror = s.mirror := by
  unfold State.mskSwapWrite
  simp

@[simp] theorem mskSwapWrite_rising (s : State) (v : Nat) (hs : s.regs.rising = true) :
    (State.mskSwapWrite s v).regs.rising = true := by
  unfold State.mskSwapWrite
  simp (maxDischargeDepth := 60) [hs]

@[simp] theorem mskEntryWrite_keeps (s : State) (e : Nat) (v : Word) :
    (State.mskEntryWrite s e v).pending = s.pending ∧ (State.mskEntryWrite s e v).sdram = s.sdram ∧ (State.mskEntryWrite s e v).fuse = s.fuse ∧ (State.mskEntryWrite s e v).sem = s.sem ∧ (State.mskEntryWrite s e v).dom = s.dom ∧ (State.mskEntryWrite s e v).time = s.time ∧ (State.mskEntryWrite s e v).kp = s.kp ∧ (State.mskEntryWrite s e v).act = s.act ∧ (State.mskEntryWrite s e v).mirror = s.mirror := by
  unfold State.mskEntryWrite
  simp

@[simp] theorem mskEntryWrite_rising (s : State) (e : Nat) (v : Word) (hs : s.regs.rising = true) :
    (State.mskEntryWrite s e v).regs.rising = true := by
  unfold State.mskEntryWrite
  simp (maxDischargeDepth := 60) [hs]

@[simp] theorem mskBadLog_keeps (s : State) (seq : Nat) (p : Nat) (y0 : List Nat) :
    (State.mskBadLog s seq p y0).pending = s.pending ∧ (State.mskBadLog s seq p y0).sdram = s.sdram ∧ (State.mskBadLog s seq p y0).fuse = s.fuse ∧ (State.mskBadLog s seq p y0).sem = s.sem ∧ (State.mskBadLog s seq p y0).dom = s.dom ∧ (State.mskBadLog s seq p y0).time = s.time ∧ (State.mskBadLog s seq p y0).kp = s.kp ∧ (State.mskBadLog s seq p y0).act = s.act ∧ (State.mskBadLog s seq p y0).mirror = s.mirror := by
  fun_induction State.mskBadLog s seq p y0; all_goals first
      | (simp_all +zetaDelta; done)
      | (simp only [*]; (try simp +zetaDelta only []); (repeat' split) <;> simp_all; done)

@[simp] theorem mskBadLog_rising (s : State) (seq : Nat) (p : Nat) (y0 : List Nat) (hs : s.regs.rising = true) :
    (State.mskBadLog s seq p y0).regs.rising = true := by
  fun_induction State.mskBadLog s seq p y0 <;> (simp_all (maxDischargeDepth := 60) +zetaDelta; done)

@[simp] theorem mskCompare_keeps (s : State) (m : Nat) (x : Parcel) (vs : List Nat) (bad : List Nat) :
    (State.mskCompare s m x vs bad).pending = s.pending ∧ (State.mskCompare s m x vs bad).sdram = s.sdram ∧ (State.mskCompare s m x vs bad).fuse = s.fuse ∧ (State.mskCompare s m x vs bad).sem = s.sem ∧ (State.mskCompare s m x vs bad).dom = s.dom ∧ (State.mskCompare s m x vs bad).time = s.time ∧ (State.mskCompare s m x vs bad).kp = s.kp ∧ (State.mskCompare s m x vs bad).act = s.act ∧ (State.mskCompare s m x vs bad).mirror = s.mirror := by
  unfold State.mskCompare
  simp

@[simp] theorem mskCompare_rising (s : State) (m : Nat) (x : Parcel) (vs : List Nat) (bad : List Nat) (hs : s.regs.rising = true) :
    (State.mskCompare s m x vs bad).regs.rising = true := by
  unfold State.mskCompare
  simp (maxDischargeDepth := 60) [hs]

@[simp] theorem mskEvaluate_keeps (s : State) (m : Nat) (x : Parcel) (bad : List Nat) :
    (State.mskEvaluate s m x bad).pending = s.pending ∧ (State.mskEvaluate s m x bad).sdram = s.sdram ∧ (State.mskEvaluate s m x bad).fuse = s.fuse ∧ (State.mskEvaluate s m x bad).sem = s.sem ∧ (State.mskEvaluate s m x bad).dom = s.dom ∧ (State.mskEvaluate s m x bad).time = s.time ∧ (State.mskEvaluate s m x bad).kp = s.kp ∧ (State.mskEvaluate s m x bad).mirror = s.mirror := by
  unfold State.mskEvaluate
  try dsimp only
  (repeat' split) <;> simp

@[simp] theorem mskEvaluate_rising (s : State) (m : Nat) (x : Parcel) (bad : List Nat) (hs : s.regs.rising = true) :
    (State.mskEvaluate s m x bad).regs.rising = true := by
  unfold State.mskEvaluate
  try dsimp only
  (repeat' split) <;> simp (maxDischargeDepth := 60) [hs]

@[simp] theorem mskEvaluate_actRising (s : State) (m : Nat) (x : Parcel) (bad : List Nat) (hr : s.regs.rising = true) (hs : s.act.rising = true) :
    (State.mskEvaluate s m x bad).act.rising = true := by
  unfold State.mskEvaluate
  try dsimp only
  (repeat' split) <;> simp (maxDischargeDepth := 60) [hr, hs]
end Sys2Proof.Machine.State
end

