-- ==== Sys2Proof/Laws/KeepOperands.lean ====
section
/-! SUPPORT. What the operations of Machine/Operands.lean leave alone: memory, fuses, semaphores, domains, time, the queue. -/

namespace Sys2Proof.Machine.State

@[simp] theorem setKp_keeps (s : State) (n : Nat) (x : KpSt) :
    (State.setKp s n x).pending = s.pending ∧ (State.setKp s n x).sdram = s.sdram ∧ (State.setKp s n x).fuse = s.fuse ∧ (State.setKp s n x).sem = s.sem ∧ (State.setKp s n x).dom = s.dom ∧ (State.setKp s n x).time = s.time ∧ (State.setKp s n x).regs = s.regs ∧ (State.setKp s n x).act = s.act ∧ (State.setKp s n x).mirror = s.mirror := by
  unfold State.setKp
  simp

@[simp] theorem putW_keeps (s : State) (n : Nat) (i : Nat) (v : Nat) :
    (State.putW s n i v).pending = s.pending ∧ (State.putW s n i v).sdram = s.sdram ∧ (State.putW s n i v).fuse = s.fuse ∧ (State.putW s n i v).sem = s.sem ∧ (State.putW s n i v).dom = s.dom ∧ (State.putW s n i v).time = s.time ∧ (State.putW s n i v).regs = s.regs ∧ (State.putW s n i v).act = s.act ∧ (State.putW s n i v).mirror = s.mirror := by
  unfold State.putW
  simp

@[simp] theorem putS_keeps (s : State) (n : Nat) (a : Nat) (v : Nat) :
    (State.putS s n a v).pending = s.pending ∧ (State.putS s n a v).sdram = s.sdram ∧ (State.putS s n a v).fuse = s.fuse ∧ (State.putS s n a v).sem = s.sem ∧ (State.putS s n a v).dom = s.dom ∧ (State.putS s n a v).time = s.time ∧ (State.putS s n a v).regs = s.regs ∧ (State.putS s n a v).act = s.act ∧ (State.putS s n a v).mirror = s.mirror := by
  unfold State.putS
  simp

@[simp] theorem kpPut_keeps (s : State) (n : Nat) (r : KpReg) (v : Nat) :
    (State.kpPut s n r v).pending = s.pending ∧ (State.kpPut s n r v).sdram = s.sdram ∧ (State.kpPut s n r v).fuse = s.fuse ∧ (State.kpPut s n r v).sem = s.sem ∧ (State.kpPut s n r v).dom = s.dom ∧ (State.kpPut s n r v).time = s.time ∧ (State.kpPut s n r v).regs = s.regs ∧ (State.kpPut s n r v).act = s.act ∧ (State.kpPut s n r v).mirror = s.mirror := by
  unfold State.kpPut
  try dsimp only
  (repeat' split) <;> simp

@[simp] theorem kpWiden_keeps (s : State) (v : Nat) (from_ : Nat) (to_ : Nat) :
    (State.kpWiden s v from_ to_).2.pending = s.pending ∧ (State.kpWiden s v from_ to_).2.sdram = s.sdram ∧ (State.kpWiden s v from_ to_).2.fuse = s.fuse ∧ (State.kpWiden s v from_ to_).2.sem = s.sem ∧ (State.kpWiden s v from_ to_).2.dom = s.dom ∧ (State.kpWiden s v from_ to_).2.time = s.time ∧ (State.kpWiden s v from_ to_).2.kp = s.kp ∧ (State.kpWiden s v from_ to_).2.regs = s.regs ∧ (State.kpWiden s v from_ to_).2.act = s.act ∧ (State.kpWiden s v from_ to_).2.mirror = s.mirror := by
  unfold State.kpWiden
  try dsimp only
  (repeat' split) <;> simp

@[simp] theorem kpPend_keeps (s : State) (n : Nat) (src : Nat) :
    (State.kpPend s n src).pending = s.pending ∧ (State.kpPend s n src).sdram = s.sdram ∧ (State.kpPend s n src).fuse = s.fuse ∧ (State.kpPend s n src).sem = s.sem ∧ (State.kpPend s n src).dom = s.dom ∧ (State.kpPend s n src).time = s.time ∧ (State.kpPend s n src).regs = s.regs ∧ (State.kpPend s n src).act = s.act ∧ (State.kpPend s n src).mirror = s.mirror := by
  unfold State.kpPend
  simp

@[simp] theorem kpMemPut_keeps (s : State) (n : Nat) (word : Nat) (v : Word) :
    (State.kpMemPut s n word v).pending = s.pending ∧ (State.kpMemPut s n word v).sdram = s.sdram ∧ (State.kpMemPut s n word v).fuse = s.fuse ∧ (State.kpMemPut s n word v).sem = s.sem ∧ (State.kpMemPut s n word v).dom = s.dom ∧ (State.kpMemPut s n word v).time = s.time ∧ (State.kpMemPut s n word v).regs = s.regs ∧ (State.kpMemPut s n word v).act = s.act ∧ (State.kpMemPut s n word v).mirror = s.mirror := by
  unfold State.kpMemPut
  simp

@[simp] theorem kpWindowWrite_keeps (s : State) (n : Nat) (word : Nat) (v : Word) :
    (State.kpWindowWrite s n word v).pending = s.pending ∧ (State.kpWindowWrite s n word v).sdram = s.sdram ∧ (State.kpWindowWrite s n word v).fuse = s.fuse ∧ (State.kpWindowWrite s n word v).sem = s.sem ∧ (State.kpWindowWrite s n word v).dom = s.dom ∧ (State.kpWindowWrite s n word v).time = s.time ∧ (State.kpWindowWrite s n word v).act = s.act ∧ (State.kpWindowWrite s n word v).mirror = s.mirror := by
  unfold State.kpWindowWrite
  simp

@[simp] theorem kpWindowWrite_rising (s : State) (n : Nat) (word : Nat) (v : Word) (hs : s.regs.rising = true) :
    (State.kpWindowWrite s n word v).regs.rising = true := by
  unfold State.kpWindowWrite
  simp (maxDischargeDepth := 60) [hs]

@[simp] theorem kpMark_keeps (s : State) (phys : Nat) (detail : Nat) :
    (State.kpMark s phys detail).pending = s.pending ∧ (State.kpMark s phys detail).sdram = s.sdram ∧ (State.kpMark s phys detail).fuse = s.fuse ∧ (State.kpMark s phys detail).sem = s.sem ∧ (State.kpMark s phys detail).dom = s.dom ∧ (State.kpMark s phys detail).time = s.time ∧ (State.kpMark s phys detail).kp = s.kp ∧ (State.kpMark s phys detail).act = s.act ∧ (State.kpMark s phys detail).mirror = s.mirror := by
  unfold State.kpMark
  simp

@[simp] theorem kpMark_rising (s : State) (phys : Nat) (detail : Nat) (hs : s.regs.rising = true) :
    (State.kpMark s phys detail).regs.rising = true := by
  unfold State.kpMark
  simp (maxDischargeDepth := 60) [hs]

@[simp] theorem kpEccFail_keeps (s : State) (n : Nat) (word : Nat) :
    (State.kpEccFail s n word).pending = s.pending ∧ (State.kpEccFail s n word).sdram = s.sdram ∧ (State.kpEccFail s n word).fuse = s.fuse ∧ (State.kpEccFail s n word).sem = s.sem ∧ (State.kpEccFail s n word).dom = s.dom ∧ (State.kpEccFail s n word).time = s.time ∧ (State.kpEccFail s n word).kp = s.kp ∧ (State.kpEccFail s n word).act = s.act ∧ (State.kpEccFail s n word).mirror = s.mirror := by
  unfold State.kpEccFail
  simp

@[simp] theorem kpEccFail_rising (s : State) (n : Nat) (word : Nat) (hs : s.regs.rising = true) :
    (State.kpEccFail s n word).regs.rising = true := by
  unfold State.kpEccFail
  simp (maxDischargeDepth := 60) [hs]

@[simp] theorem kpEccCorr_keeps (s : State) (n : Nat) (word : Nat) :
    (State.kpEccCorr s n word).pending = s.pending ∧ (State.kpEccCorr s n word).sdram = s.sdram ∧ (State.kpEccCorr s n word).fuse = s.fuse ∧ (State.kpEccCorr s n word).sem = s.sem ∧ (State.kpEccCorr s n word).dom = s.dom ∧ (State.kpEccCorr s n word).time = s.time ∧ (State.kpEccCorr s n word).kp = s.kp ∧ (State.kpEccCorr s n word).act = s.act ∧ (State.kpEccCorr s n word).mirror = s.mirror := by
  unfold State.kpEccCorr
  simp

@[simp] theorem kpEccCorr_rising (s : State) (n : Nat) (word : Nat) (hs : s.regs.rising = true) :
    (State.kpEccCorr s n word).regs.rising = true := by
  unfold State.kpEccCorr
  simp (maxDischargeDepth := 60) [hs]

@[simp] theorem kpCorrected_keeps (s : State) (n : Nat) (got : KpGot) (y0 : List Nat) :
    (State.kpCorrected s n got y0).pending = s.pending ∧ (State.kpCorrected s n got y0).sdram = s.sdram ∧ (State.kpCorrected s n got y0).fuse = s.fuse ∧ (State.kpCorrected s n got y0).sem = s.sem ∧ (State.kpCorrected s n got y0).dom = s.dom ∧ (State.kpCorrected s n got y0).time = s.time ∧ (State.kpCorrected s n got y0).kp = s.kp ∧ (State.kpCorrected s n got y0).act = s.act ∧ (State.kpCorrected s n got y0).mirror = s.mirror := by
  fun_induction State.kpCorrected s n got y0 <;> simp_all

@[simp] theorem kpCorrected_rising (s : State) (n : Nat) (got : KpGot) (y0 : List Nat) (hs : s.regs.rising = true) :
    (State.kpCorrected s n got y0).regs.rising = true := by
  fun_induction State.kpCorrected s n got y0 <;> simp_all

@[simp] theorem kpCurStep_keeps (s : State) (n : Nat) (c : Nat) (f : KpStep) :
    (State.kpCurStep s n c f).pending = s.pending ∧ (State.kpCurStep s n c f).sdram = s.sdram ∧ (State.kpCurStep s n c f).fuse = s.fuse ∧ (State.kpCurStep s n c f).sem = s.sem ∧ (State.kpCurStep s n c f).dom = s.dom ∧ (State.kpCurStep s n c f).time = s.time ∧ (State.kpCurStep s n c f).regs = s.regs ∧ (State.kpCurStep s n c f).act = s.act ∧ (State.kpCurStep s n c f).mirror = s.mirror := by
  unfold State.kpCurStep
  try dsimp only
  (repeat' split) <;> simp

@[simp] theorem kpEaStep_keeps (s : State) (n : Nat) (c : Nat) (m : KpMode) :
    (State.kpEaStep s n c m).pending = s.pending ∧ (State.kpEaStep s n c m).sdram = s.sdram ∧ (State.kpEaStep s n c m).fuse = s.fuse ∧ (State.kpEaStep s n c m).sem = s.sem ∧ (State.kpEaStep s n c m).dom = s.dom ∧ (State.kpEaStep s n c m).time = s.time ∧ (State.kpEaStep s n c m).regs = s.regs ∧ (State.kpEaStep s n c m).act = s.act ∧ (State.kpEaStep s n c m).mirror = s.mirror := by
  unfold State.kpEaStep
  try dsimp only
  (repeat' split) <;> simp

/-- `t` has what `s` has beside registers, ports and processors: queue, memory, fuses, semaphores, domains, time. -/
def aside (s t : State) : Prop :=
  t.pending = s.pending ∧ t.sdram = s.sdram ∧ t.fuse = s.fuse ∧ t.sem = s.sem ∧ t.dom = s.dom ∧ t.time = s.time ∧
    t.act = s.act ∧ (s.regs.rising = true → t.regs.rising = true) ∧
    (s.mirror.words.wf 0#32 = true → t.mirror.words.wf 0#32 = true)

theorem aside_trans {s t u : State} (h : aside s t) (k : aside t u) : aside s u := by
  obtain ⟨a1, a2, a3, a4, a5, a6, a7, a8, a9⟩ := h
  obtain ⟨b1, b2, b3, b4, b5, b6, b7, b8, b9⟩ := k
  exact ⟨b1.trans a1, b2.trans a2, b3.trans a3, b4.trans a4, b5.trans a5, b6.trans a6, b7.trans a7, fun h => b8 (a8 h),
    fun h => b9 (a9 h)⟩

/-- The state in which an instruction of a processor ends has what `s` has beside registers, ports and processors. -/
def endAside (s : State) : KpEnd → Prop
  | .go t => aside s t
  | .jump t _ => aside s t
  | .fault _ _ => True

theorem endAside_trans {s t : State} {e : KpEnd} (h : aside s t) (k : endAside t e) : endAside s e := by
  cases e <;> simp only [endAside] at *
  · exact aside_trans h k
  · exact aside_trans h k

theorem andThen_keeps {s : State} {e : KpEnd} {f : State → KpEnd} (h : endAside s e) (k : ∀ t, endAside t (f t)) :
    endAside s (e.andThen f) := by
  cases e with
  | go t => exact endAside_trans h (k t)
  | jump t pc => exact h
  | fault c w => trivial

theorem kpLoad_keeps (s : State) (n : Nat) (got : KpGot) (y : Bool) (ea : Nat) (f : State → Nat → KpEnd)
    (h : ∀ t v, endAside t (f t v)) : endAside s (s.kpLoad n got y ea f) := by
  unfold kpLoad
  dsimp only
  split
  · trivial
  · split
    · trivial
    · refine endAside_trans ?_ (h _ _)
      simp (maxDischargeDepth := 60) +contextual [aside]

theorem kpStore_keeps (s : State) (n : Nat) (y : Bool) (ea v : Nat) (f : State → KpEnd) (h : ∀ t, endAside t (f t)) :
    endAside s (s.kpStore n y ea v f) := by
  unfold kpStore
  split
  · trivial
  · refine endAside_trans ?_ (h _)
    simp (maxDischargeDepth := 60) +contextual [aside]

theorem kpMove_keeps (s old : State) (n : Nat) (got : KpGot) (y : Bool) (m : KpMove) : endAside s (s.kpMove old n got y m) := by
  unfold kpMove
  split
  · simp (maxDischargeDepth := 60) +contextual [endAside, aside]
  · exact kpLoad_keeps _ _ _ _ _ _ fun t v => by simp (maxDischargeDepth := 60) +contextual [endAside, aside]
  · exact kpStore_keeps _ _ _ _ _ _ fun t => by simp (maxDischargeDepth := 60) +contextual [endAside, aside]
end Sys2Proof.Machine.State
end

