-- ==== Sys2Proof/Laws/KeepKp.lean ====
section
/-! SUPPORT. What the operations of Machine/Kp.lean leave alone: memory, fuses, semaphores, domains, time, the queue. -/

namespace Sys2Proof.Machine.State

@[simp] theorem kpSetRun_keeps (s : State) (n : Nat) (b : Bool) :
    (State.kpSetRun s n b).pending = s.pending ∧ (State.kpSetRun s n b).sdram = s.sdram ∧ (State.kpSetRun s n b).fuse = s.fuse ∧ (State.kpSetRun s n b).sem = s.sem ∧ (State.kpSetRun s n b).dom = s.dom ∧ (State.kpSetRun s n b).time = s.time ∧ (State.kpSetRun s n b).kp = s.kp ∧ (State.kpSetRun s n b).act = s.act ∧ (State.kpSetRun s n b).mirror = s.mirror := by
  unfold State.kpSetRun
  simp

@[simp] theorem kpSetRun_rising (s : State) (n : Nat) (b : Bool) (hs : s.regs.rising = true) :
    (State.kpSetRun s n b).regs.rising = true := by
  unfold State.kpSetRun
  simp (maxDischargeDepth := 60) [hs]

@[simp] theorem kpFault_keeps (s : State) (n : Nat) (code : Nat) :
    (State.kpFault s n code).pending = s.pending ∧ (State.kpFault s n code).sdram = s.sdram ∧ (State.kpFault s n code).fuse = s.fuse ∧ (State.kpFault s n code).sem = s.sem ∧ (State.kpFault s n code).dom = s.dom ∧ (State.kpFault s n code).time = s.time ∧ (State.kpFault s n code).act = s.act ∧ (State.kpFault s n code).mirror = s.mirror := by
  unfold State.kpFault
  simp

@[simp] theorem kpFault_rising (s : State) (n : Nat) (code : Nat) (hs : s.regs.rising = true) :
    (State.kpFault s n code).regs.rising = true := by
  unfold State.kpFault
  simp (maxDischargeDepth := 60) [hs]

@[simp] theorem kpStop_keeps (s : State) (n : Nat) :
    (State.kpStop s n).pending = s.pending ∧ (State.kpStop s n).sdram = s.sdram ∧ (State.kpStop s n).fuse = s.fuse ∧ (State.kpStop s n).sem = s.sem ∧ (State.kpStop s n).dom = s.dom ∧ (State.kpStop s n).time = s.time ∧ (State.kpStop s n).act = s.act ∧ (State.kpStop s n).mirror = s.mirror := by
  unfold State.kpStop
  simp

@[simp] theorem kpStop_rising (s : State) (n : Nat) (hs : s.regs.rising = true) :
    (State.kpStop s n).regs.rising = true := by
  unfold State.kpStop
  simp (maxDischargeDepth := 60) [hs]

@[simp] theorem kpHaltDue_keeps (s : State) (n : Nat) :
    (State.kpHaltDue s n).pending = s.pending ∧ (State.kpHaltDue s n).sdram = s.sdram ∧ (State.kpHaltDue s n).fuse = s.fuse ∧ (State.kpHaltDue s n).sem = s.sem ∧ (State.kpHaltDue s n).dom = s.dom ∧ (State.kpHaltDue s n).time = s.time ∧ (State.kpHaltDue s n).act = s.act ∧ (State.kpHaltDue s n).mirror = s.mirror := by
  unfold State.kpHaltDue
  simp

@[simp] theorem kpHaltDue_rising (s : State) (n : Nat) (hs : s.regs.rising = true) :
    (State.kpHaltDue s n).regs.rising = true := by
  unfold State.kpHaltDue
  simp (maxDischargeDepth := 60) [hs]

@[simp] theorem kpNext_keeps (s : State) (n : Nat) (rc0 : Nat) (len : Nat) :
    (State.kpNext s n rc0 len).pending = s.pending ∧ (State.kpNext s n rc0 len).sdram = s.sdram ∧ (State.kpNext s n rc0 len).fuse = s.fuse ∧ (State.kpNext s n rc0 len).sem = s.sem ∧ (State.kpNext s n rc0 len).dom = s.dom ∧ (State.kpNext s n rc0 len).time = s.time ∧ (State.kpNext s n rc0 len).act = s.act ∧ (State.kpNext s n rc0 len).mirror = s.mirror := by
  unfold State.kpNext
  simp

@[simp] theorem kpNext_rising (s : State) (n : Nat) (rc0 : Nat) (len : Nat) (hs : s.regs.rising = true) :
    (State.kpNext s n rc0 len).regs.rising = true := by
  unfold State.kpNext
  simp (maxDischargeDepth := 60) [hs]

@[simp] theorem kpRetire_keeps (s : State) (n : Nat) (cycles : Nat) :
    (State.kpRetire s n cycles).pending = s.pending ∧ (State.kpRetire s n cycles).sdram = s.sdram ∧ (State.kpRetire s n cycles).fuse = s.fuse ∧ (State.kpRetire s n cycles).sem = s.sem ∧ (State.kpRetire s n cycles).dom = s.dom ∧ (State.kpRetire s n cycles).time = s.time ∧ (State.kpRetire s n cycles).act = s.act ∧ (State.kpRetire s n cycles).mirror = s.mirror := by
  unfold State.kpRetire
  simp

@[simp] theorem kpRetire_rising (s : State) (n : Nat) (cycles : Nat) (hs : s.regs.rising = true) :
    (State.kpRetire s n cycles).regs.rising = true := by
  unfold State.kpRetire
  simp (maxDischargeDepth := 60) [hs]

@[simp] theorem kpFetchFail_keeps (s : State) (n word : Nat) :
    (State.kpFetchFail s n word).pending = s.pending ∧ (State.kpFetchFail s n word).sdram = s.sdram ∧ (State.kpFetchFail s n word).fuse = s.fuse ∧ (State.kpFetchFail s n word).sem = s.sem ∧ (State.kpFetchFail s n word).dom = s.dom ∧ (State.kpFetchFail s n word).time = s.time ∧ (State.kpFetchFail s n word).act = s.act ∧ (State.kpFetchFail s n word).mirror = s.mirror := by
  unfold State.kpFetchFail
  simp

@[simp] theorem kpFetchFail_rising (s : State) (n word : Nat) (hs : s.regs.rising = true) :
    (State.kpFetchFail s n word).regs.rising = true := by
  unfold State.kpFetchFail
  simp (maxDischargeDepth := 60) +contextual [hs]

theorem kpExec_aside (s : State) (n : Nat) (got : KpGot) (k : KpKind) (body : State → KpEnd)
    (h : ∀ t, endAside t (body t)) : aside s (s.kpExec n got k body) := by
  unfold kpExec
  split
  · simp (maxDischargeDepth := 60) +contextual [aside]
  · dsimp only
    split
    · simp (maxDischargeDepth := 60) +contextual [aside]
    · split
      · simp (maxDischargeDepth := 60) +contextual [aside]
      · generalize hs : State.kpCorrected _ n got _ = u
        have hu : aside s u := by
          rw [← hs]
          simp (maxDischargeDepth := 60) +contextual [aside]
        split
        · refine aside_trans hu ?_; simp (maxDischargeDepth := 60) +contextual [aside]
        · have hb := h u
          split
          all_goals rename_i e; rw [e] at hb; refine aside_trans hu ?_
          · refine aside_trans hb ?_; simp (maxDischargeDepth := 60) +contextual [aside]
          · refine aside_trans hb ?_; simp (maxDischargeDepth := 60) +contextual [aside]
          · simp (maxDischargeDepth := 60) +contextual [aside]
          · simp (maxDischargeDepth := 60) +contextual [aside]

@[simp] theorem kpExec_keeps (s : State) (n : Nat) (got : KpGot) (k : KpKind) (body : State → KpEnd)
    (h : ∀ t, endAside t (body t)) :
    (State.kpExec s n got k body).pending = s.pending ∧ (State.kpExec s n got k body).sdram = s.sdram ∧ (State.kpExec s n got k body).fuse = s.fuse ∧ (State.kpExec s n got k body).sem = s.sem ∧ (State.kpExec s n got k body).dom = s.dom ∧ (State.kpExec s n got k body).time = s.time ∧ (State.kpExec s n got k body).act = s.act := by
  have a := kpExec_aside s n got k body h
  exact ⟨a.1, a.2.1, a.2.2.1, a.2.2.2.1, a.2.2.2.2.1, a.2.2.2.2.2.1, a.2.2.2.2.2.2.1⟩

@[simp] theorem kpExec_rising (s : State) (n : Nat) (got : KpGot) (k : KpKind) (body : State → KpEnd)
    (hs : s.regs.rising = true) (h : ∀ t, endAside t (body t)) : (s.kpExec n got k body).regs.rising = true :=
  (kpExec_aside s n got k body h).2.2.2.2.2.2.2.1 hs

theorem kpPush_keeps {s t : State} {n pc : Nat} {irq : Bool} (h : s.kpPush n pc irq = some t) : aside s t := by
  unfold kpPush at h
  dsimp only at h
  split at h
  · cases h
  · cases h; simp (maxDischargeDepth := 60) +contextual [aside]

theorem kpPop_keeps (s : State) (n : Nat) : endAside s (s.kpPop n) := by
  unfold kpPop
  dsimp only
  split
  · trivial
  · simp (maxDischargeDepth := 60) +contextual [endAside, aside]

@[simp] theorem kpEnter_keeps (s : State) (n : Nat) (src : Nat) :
    (State.kpEnter s n src).pending = s.pending ∧ (State.kpEnter s n src).sdram = s.sdram ∧ (State.kpEnter s n src).fuse = s.fuse ∧ (State.kpEnter s n src).sem = s.sem ∧ (State.kpEnter s n src).dom = s.dom ∧ (State.kpEnter s n src).time = s.time ∧ (State.kpEnter s n src).act = s.act := by
  unfold kpEnter
  split
  · simp
  · rename_i t h
    have k := kpPush_keeps h
    simp only [aside] at k
    dsimp only
    split <;> simp [k]

@[simp] theorem kpEnter_rising (s : State) (n src : Nat) (hs : s.regs.rising = true) : (s.kpEnter n src).regs.rising = true := by
  unfold kpEnter
  split
  · simp (maxDischargeDepth := 60) [hs]
  · rename_i t h
    have k := (kpPush_keeps h).2.2.2.2.2.2.2.1 hs
    dsimp only
    split <;> simp (maxDischargeDepth := 60) [k]

@[simp] theorem kpRingPut_keeps (s : State) (n : Nat) (y0 : Nat) (y1 : List Word) :
    (State.kpRingPut s n y0 y1).pending = s.pending ∧ (State.kpRingPut s n y0 y1).sdram = s.sdram ∧ (State.kpRingPut s n y0 y1).fuse = s.fuse ∧ (State.kpRingPut s n y0 y1).sem = s.sem ∧ (State.kpRingPut s n y0 y1).dom = s.dom ∧ (State.kpRingPut s n y0 y1).time = s.time ∧ (State.kpRingPut s n y0 y1).regs = s.regs ∧ (State.kpRingPut s n y0 y1).act = s.act ∧ (State.kpRingPut s n y0 y1).mirror = s.mirror := by
  fun_induction State.kpRingPut s n y0 y1; all_goals first
      | (simp_all +zetaDelta; done)
      | (simp only [*]; (try simp +zetaDelta only []); (repeat' split) <;> simp_all; done)

@[simp] theorem kpInbox_keeps (s : State) (n : Nat) (x : Parcel) :
    (State.kpInbox s n x).pending = s.pending ∧ (State.kpInbox s n x).sdram = s.sdram ∧ (State.kpInbox s n x).fuse = s.fuse ∧ (State.kpInbox s n x).sem = s.sem ∧ (State.kpInbox s n x).dom = s.dom ∧ (State.kpInbox s n x).time = s.time ∧ (State.kpInbox s n x).act = s.act ∧ (State.kpInbox s n x).mirror = s.mirror := by
  unfold State.kpInbox
  simp

@[simp] theorem kpInbox_rising (s : State) (n : Nat) (x : Parcel) (hs : s.regs.rising = true) :
    (State.kpInbox s n x).regs.rising = true := by
  unfold State.kpInbox
  simp (maxDischargeDepth := 60) [hs]

@[simp] theorem regsZero_keeps (s : State) (l : Nat → Loc) (y0 : List Nat) :
    (State.regsZero s l y0).pending = s.pending ∧ (State.regsZero s l y0).sdram = s.sdram ∧ (State.regsZero s l y0).fuse = s.fuse ∧ (State.regsZero s l y0).sem = s.sem ∧ (State.regsZero s l y0).dom = s.dom ∧ (State.regsZero s l y0).time = s.time ∧ (State.regsZero s l y0).kp = s.kp ∧ (State.regsZero s l y0).act = s.act ∧ (State.regsZero s l y0).mirror = s.mirror := by
  fun_induction State.regsZero s l y0; all_goals first
      | (simp_all +zetaDelta; done)
      | (simp only [*]; (try simp +zetaDelta only []); (repeat' split) <;> simp_all; done)

@[simp] theorem regsZero_rising (s : State) (l : Nat → Loc) (y0 : List Nat) (hs : s.regs.rising = true) :
    (State.regsZero s l y0).regs.rising = true := by
  fun_induction State.regsZero s l y0 <;> (simp_all (maxDischargeDepth := 60) +zetaDelta; done)

@[simp] theorem kpClear_keeps (s : State) (n : Nat) :
    (State.kpClear s n).pending = s.pending ∧ (State.kpClear s n).sdram = s.sdram ∧ (State.kpClear s n).fuse = s.fuse ∧ (State.kpClear s n).sem = s.sem ∧ (State.kpClear s n).dom = s.dom ∧ (State.kpClear s n).time = s.time ∧ (State.kpClear s n).act = s.act ∧ (State.kpClear s n).mirror = s.mirror := by
  unfold State.kpClear
  simp

@[simp] theorem kpClear_rising (s : State) (n : Nat) (hs : s.regs.rising = true) :
    (State.kpClear s n).regs.rising = true := by
  unfold State.kpClear
  simp (maxDischargeDepth := 60) [hs]

@[simp] theorem kpStart_keeps (s : State) (n : Nat) :
    (State.kpStart s n).pending = s.pending ∧ (State.kpStart s n).sdram = s.sdram ∧ (State.kpStart s n).fuse = s.fuse ∧ (State.kpStart s n).sem = s.sem ∧ (State.kpStart s n).dom = s.dom ∧ (State.kpStart s n).time = s.time ∧ (State.kpStart s n).act = s.act ∧ (State.kpStart s n).mirror = s.mirror := by
  unfold State.kpStart
  simp

@[simp] theorem kpStart_rising (s : State) (n : Nat) (hs : s.regs.rising = true) :
    (State.kpStart s n).regs.rising = true := by
  unfold State.kpStart
  simp (maxDischargeDepth := 60) [hs]

@[simp] theorem kpCtlWrite_keeps (s : State) (n : Nat) (v : Nat) :
    (State.kpCtlWrite s n v).pending = s.pending ∧ (State.kpCtlWrite s n v).sdram = s.sdram ∧ (State.kpCtlWrite s n v).fuse = s.fuse ∧ (State.kpCtlWrite s n v).sem = s.sem ∧ (State.kpCtlWrite s n v).dom = s.dom ∧ (State.kpCtlWrite s n v).time = s.time ∧ (State.kpCtlWrite s n v).act = s.act ∧ (State.kpCtlWrite s n v).mirror = s.mirror := by
  unfold State.kpCtlWrite
  simp

@[simp] theorem kpCtlWrite_rising (s : State) (n : Nat) (v : Nat) (hs : s.regs.rising = true) :
    (State.kpCtlWrite s n v).regs.rising = true := by
  unfold State.kpCtlWrite
  simp (maxDischargeDepth := 60) [hs]

@[simp] theorem kpInCtlWrite_keeps (s : State) (n : Nat) (v : Nat) :
    (State.kpInCtlWrite s n v).pending = s.pending ∧ (State.kpInCtlWrite s n v).sdram = s.sdram ∧ (State.kpInCtlWrite s n v).fuse = s.fuse ∧ (State.kpInCtlWrite s n v).sem = s.sem ∧ (State.kpInCtlWrite s n v).dom = s.dom ∧ (State.kpInCtlWrite s n v).time = s.time ∧ (State.kpInCtlWrite s n v).kp = s.kp ∧ (State.kpInCtlWrite s n v).act = s.act ∧ (State.kpInCtlWrite s n v).mirror = s.mirror := by
  unfold State.kpInCtlWrite
  simp

@[simp] theorem kpInCtlWrite_rising (s : State) (n : Nat) (v : Nat) (hs : s.regs.rising = true) :
    (State.kpInCtlWrite s n v).regs.rising = true := by
  unfold State.kpInCtlWrite
  simp (maxDischargeDepth := 60) [hs]

@[simp] theorem kpInRingWrite_keeps (s : State) (n : Nat) (v : Nat) :
    (State.kpInRingWrite s n v).pending = s.pending ∧ (State.kpInRingWrite s n v).sdram = s.sdram ∧ (State.kpInRingWrite s n v).fuse = s.fuse ∧ (State.kpInRingWrite s n v).sem = s.sem ∧ (State.kpInRingWrite s n v).dom = s.dom ∧ (State.kpInRingWrite s n v).time = s.time ∧ (State.kpInRingWrite s n v).kp = s.kp ∧ (State.kpInRingWrite s n v).act = s.act ∧ (State.kpInRingWrite s n v).mirror = s.mirror := by
  unfold State.kpInRingWrite
  simp

@[simp] theorem kpInRingWrite_rising (s : State) (n : Nat) (v : Nat) (hs : s.regs.rising = true) :
    (State.kpInRingWrite s n v).regs.rising = true := by
  unfold State.kpInRingWrite
  simp (maxDischargeDepth := 60) [hs]

@[simp] theorem kpMboxWrite_keeps (s : State) (n : Nat) (i : Nat) (v : Nat) :
    (State.kpMboxWrite s n i v).pending = s.pending ∧ (State.kpMboxWrite s n i v).sdram = s.sdram ∧ (State.kpMboxWrite s n i v).fuse = s.fuse ∧ (State.kpMboxWrite s n i v).sem = s.sem ∧ (State.kpMboxWrite s n i v).dom = s.dom ∧ (State.kpMboxWrite s n i v).time = s.time ∧ (State.kpMboxWrite s n i v).act = s.act ∧ (State.kpMboxWrite s n i v).mirror = s.mirror := by
  unfold State.kpMboxWrite
  simp

@[simp] theorem kpMboxWrite_rising (s : State) (n : Nat) (i : Nat) (v : Nat) (hs : s.regs.rising = true) :
    (State.kpMboxWrite s n i v).regs.rising = true := by
  unfold State.kpMboxWrite
  simp (maxDischargeDepth := 60) [hs]

@[simp] theorem kpMboxStatusWrite_keeps (s : State) (n : Nat) (v : Nat) :
    (State.kpMboxStatusWrite s n v).pending = s.pending ∧ (State.kpMboxStatusWrite s n v).sdram = s.sdram ∧ (State.kpMboxStatusWrite s n v).fuse = s.fuse ∧ (State.kpMboxStatusWrite s n v).sem = s.sem ∧ (State.kpMboxStatusWrite s n v).dom = s.dom ∧ (State.kpMboxStatusWrite s n v).time = s.time ∧ (State.kpMboxStatusWrite s n v).act = s.act ∧ (State.kpMboxStatusWrite s n v).mirror = s.mirror := by
  unfold State.kpMboxStatusWrite
  simp

@[simp] theorem kpMboxStatusWrite_rising (s : State) (n : Nat) (v : Nat) (hs : s.regs.rising = true) :
    (State.kpMboxStatusWrite s n v).regs.rising = true := by
  unfold State.kpMboxStatusWrite
  simp (maxDischargeDepth := 60) [hs]
end Sys2Proof.Machine.State
end

