-- ==== Sys2Proof/Laws/KeepCq.lean ====
section
/-! SUPPORT. What the operations of Machine/Cq.lean leave alone: memory, fuses, semaphores, domains, time, the queue. -/

namespace Sys2Proof.Machine.State

@[simp] theorem cqShow_keeps (s : State) (q : Nat) :
    (State.cqShow s q).pending = s.pending ∧ (State.cqShow s q).sdram = s.sdram ∧ (State.cqShow s q).fuse = s.fuse ∧ (State.cqShow s q).sem = s.sem ∧ (State.cqShow s q).dom = s.dom ∧ (State.cqShow s q).time = s.time ∧ (State.cqShow s q).kp = s.kp ∧ (State.cqShow s q).act = s.act ∧ (State.cqShow s q).mirror = s.mirror := by
  unfold State.cqShow
  simp

@[simp] theorem cqShow_rising (s : State) (q : Nat) (hs : s.regs.rising = true) :
    (State.cqShow s q).regs.rising = true := by
  unfold State.cqShow
  simp (maxDischargeDepth := 60) [hs]

@[simp] theorem cqWrite_keeps (s : State) (h : HeldRec) :
    (State.cqWrite s h).pending = s.pending ∧ (State.cqWrite s h).sdram = s.sdram ∧ (State.cqWrite s h).fuse = s.fuse ∧ (State.cqWrite s h).sem = s.sem ∧ (State.cqWrite s h).dom = s.dom ∧ (State.cqWrite s h).time = s.time ∧ (State.cqWrite s h).kp = s.kp ∧ (State.cqWrite s h).act = s.act ∧ (State.cqWrite s h).mirror = s.mirror := by
  unfold State.cqWrite
  simp

@[simp] theorem cqWrite_rising (s : State) (h : HeldRec) (hs : s.regs.rising = true) :
    (State.cqWrite s h).regs.rising = true := by
  unfold State.cqWrite
  simp (maxDischargeDepth := 60) [hs]

@[simp] theorem cqPost_keeps (s : State) (h : HeldRec) :
    (State.cqPost s h).1.pending = s.pending ∧ (State.cqPost s h).1.sdram = s.sdram ∧ (State.cqPost s h).1.fuse = s.fuse ∧ (State.cqPost s h).1.sem = s.sem ∧ (State.cqPost s h).1.dom = s.dom ∧ (State.cqPost s h).1.time = s.time ∧ (State.cqPost s h).1.kp = s.kp ∧ (State.cqPost s h).1.act = s.act ∧ (State.cqPost s h).1.mirror = s.mirror := by
  unfold State.cqPost
  try dsimp only
  (repeat' split) <;> simp

@[simp] theorem cqPost_rising (s : State) (h : HeldRec) (hs : s.regs.rising = true) :
    (State.cqPost s h).1.regs.rising = true := by
  unfold State.cqPost
  try dsimp only
  (repeat' split) <;> simp (maxDischargeDepth := 60) [hs]
end Sys2Proof.Machine.State
end

