-- ==== Sys2Proof/Laws/KeepDisp.lean ====
section
/-! SUPPORT. What the operations of Machine/Disp.lean leave alone: memory, fuses, semaphores, domains, time, the queue. -/

namespace Sys2Proof.Machine.State

@[simp] theorem applyRange_rising (lo hi : Nat) (act regs : Tab Word) (hl : lo ≤ hi) (h : act.rising = true)
    (k : regs.rising = true) : (applyRange lo hi act regs).rising = true := by
  unfold applyRange
  refine Tab.rising_append (Tab.rising_append (Tab.rising_filter _ h) (Tab.rising_filter _ k) ?_) (Tab.rising_filter _ h) ?_
  · intro x hx y hy
    simp only [List.mem_filter, decide_eq_true_eq] at hx hy
    omega
  · intro x hx y hy
    simp only [List.mem_append, List.mem_filter, decide_eq_true_eq] at hx hy
    omega

@[simp] theorem storeWrite_keeps (s : State) (i : Nat) (v : Word) :
    (State.storeWrite s i v).pending = s.pending ∧ (State.storeWrite s i v).sdram = s.sdram ∧ (State.storeWrite s i v).fuse = s.fuse ∧ (State.storeWrite s i v).sem = s.sem ∧ (State.storeWrite s i v).dom = s.dom ∧ (State.storeWrite s i v).time = s.time ∧ (State.storeWrite s i v).kp = s.kp ∧ (State.storeWrite s i v).act = s.act ∧ (State.storeWrite s i v).mirror = s.mirror := by
  unfold State.storeWrite
  simp

@[simp] theorem storeWrite_rising (s : State) (i : Nat) (v : Word) (hs : s.regs.rising = true) :
    (State.storeWrite s i v).regs.rising = true := by
  unfold State.storeWrite
  simp (maxDischargeDepth := 60) [hs]

@[simp] theorem densityMeet_keeps (s : State) (y : Nat) :
    (State.densityMeet s y).pending = s.pending ∧ (State.densityMeet s y).sdram = s.sdram ∧ (State.densityMeet s y).fuse = s.fuse ∧ (State.densityMeet s y).sem = s.sem ∧ (State.densityMeet s y).dom = s.dom ∧ (State.densityMeet s y).time = s.time ∧ (State.densityMeet s y).kp = s.kp ∧ (State.densityMeet s y).act = s.act ∧ (State.densityMeet s y).mirror = s.mirror := by
  unfold State.densityMeet
  simp

@[simp] theorem densityMeet_rising (s : State) (y : Nat) (hs : s.regs.rising = true) :
    (State.densityMeet s y).regs.rising = true := by
  unfold State.densityMeet
  simp (maxDischargeDepth := 60) +contextual [hs]

@[simp] theorem storeRow_keeps (s : State) (i : Nat) (ps : List Nat) :
    (State.storeRow s i ps).pending = s.pending ∧ (State.storeRow s i ps).sdram = s.sdram ∧ (State.storeRow s i ps).fuse = s.fuse ∧ (State.storeRow s i ps).sem = s.sem ∧ (State.storeRow s i ps).dom = s.dom ∧ (State.storeRow s i ps).time = s.time ∧ (State.storeRow s i ps).kp = s.kp ∧ (State.storeRow s i ps).regs = s.regs ∧ (State.storeRow s i ps).act = s.act ∧ (State.storeRow s i ps).mirror = s.mirror := by
  unfold State.storeRow
  simp

@[simp] theorem dispBad_keeps (s : State) (y0 : List Nat) :
    (State.dispBad s y0).pending = s.pending ∧ (State.dispBad s y0).sdram = s.sdram ∧ (State.dispBad s y0).fuse = s.fuse ∧ (State.dispBad s y0).sem = s.sem ∧ (State.dispBad s y0).dom = s.dom ∧ (State.dispBad s y0).time = s.time ∧ (State.dispBad s y0).kp = s.kp ∧ (State.dispBad s y0).act = s.act ∧ (State.dispBad s y0).mirror = s.mirror := by
  fun_induction State.dispBad s y0; all_goals first
      | (simp_all +zetaDelta; done)
      | (simp only [*]; (try simp +zetaDelta only []); (repeat' split) <;> simp_all; done)

@[simp] theorem dispBad_rising (s : State) (y0 : List Nat) (hs : s.regs.rising = true) :
    (State.dispBad s y0).regs.rising = true := by
  fun_induction State.dispBad s y0 <;> (simp_all (maxDischargeDepth := 60) +zetaDelta; done)

@[simp] theorem dispFixed_keeps (s : State) (y0 : List (Nat × Fin 2 × Fin 39)) :
    (State.dispFixed s y0).pending = s.pending ∧ (State.dispFixed s y0).sdram = s.sdram ∧ (State.dispFixed s y0).fuse = s.fuse ∧ (State.dispFixed s y0).sem = s.sem ∧ (State.dispFixed s y0).dom = s.dom ∧ (State.dispFixed s y0).time = s.time ∧ (State.dispFixed s y0).kp = s.kp ∧ (State.dispFixed s y0).act = s.act ∧ (State.dispFixed s y0).mirror = s.mirror := by
  fun_induction State.dispFixed s y0; all_goals first
      | (simp_all +zetaDelta; done)
      | (simp only [*]; (try simp +zetaDelta only []); (repeat' split) <;> simp_all; done)

@[simp] theorem dispFixed_rising (s : State) (y0 : List (Nat × Fin 2 × Fin 39)) (hs : s.regs.rising = true) :
    (State.dispFixed s y0).regs.rising = true := by
  fun_induction State.dispFixed s y0 <;> (simp_all (maxDischargeDepth := 60) +zetaDelta; done)

@[simp] theorem bufChange_keeps (s : State) (l : Nat) (old : Option LayerBuf) (new : Option LayerBuf) (tag : Nat) :
    (State.bufChange s l old new tag).pending = s.pending ∧ (State.bufChange s l old new tag).sdram = s.sdram ∧ (State.bufChange s l old new tag).fuse = s.fuse ∧ (State.bufChange s l old new tag).sem = s.sem ∧ (State.bufChange s l old new tag).dom = s.dom ∧ (State.bufChange s l old new tag).time = s.time ∧ (State.bufChange s l old new tag).kp = s.kp ∧ (State.bufChange s l old new tag).act = s.act := by
  unfold State.bufChange
  try dsimp only
  (repeat' split) <;> simp

@[simp] theorem bufChange_rising (s : State) (l : Nat) (old : Option LayerBuf) (new : Option LayerBuf) (tag : Nat) (hs : s.regs.rising = true) :
    (State.bufChange s l old new tag).regs.rising = true := by
  unfold State.bufChange
  try dsimp only
  (repeat' split) <;> simp (maxDischargeDepth := 60) [hs]

@[simp] theorem bufChange_mirrorWf (s : State) (l : Nat) (old : Option LayerBuf) (new : Option LayerBuf) (tag : Nat) (hs : s.mirror.words.wf 0#32 = true) :
    (State.bufChange s l old new tag).mirror.words.wf 0#32 = true := by
  unfold State.bufChange
  try dsimp only
  (repeat' split) <;> simp (maxDischargeDepth := 60) [hs]

@[simp] theorem setLink_keeps (s : State) (b : Bool) (x : DpLink) :
    (State.setLink s b x).pending = s.pending ∧ (State.setLink s b x).sdram = s.sdram ∧ (State.setLink s b x).fuse = s.fuse ∧ (State.setLink s b x).sem = s.sem ∧ (State.setLink s b x).dom = s.dom ∧ (State.setLink s b x).time = s.time ∧ (State.setLink s b x).kp = s.kp ∧ (State.setLink s b x).regs = s.regs ∧ (State.setLink s b x).act = s.act ∧ (State.setLink s b x).mirror = s.mirror := by
  unfold State.setLink
  simp

@[simp] theorem dpTrain_keeps (s : State) (b : Bool) :
    (State.dpTrain s b).pending = s.pending ∧ (State.dpTrain s b).sdram = s.sdram ∧ (State.dpTrain s b).fuse = s.fuse ∧ (State.dpTrain s b).sem = s.sem ∧ (State.dpTrain s b).dom = s.dom ∧ (State.dpTrain s b).time = s.time ∧ (State.dpTrain s b).kp = s.kp ∧ (State.dpTrain s b).act = s.act ∧ (State.dpTrain s b).mirror = s.mirror := by
  unfold State.dpTrain
  simp

@[simp] theorem dpTrain_rising (s : State) (b : Bool) (hs : s.regs.rising = true) :
    (State.dpTrain s b).regs.rising = true := by
  unfold State.dpTrain
  simp (maxDischargeDepth := 60) +contextual [hs]

@[simp] theorem dpDown_keeps (s : State) (b : Bool) :
    (State.dpDown s b).pending = s.pending ∧ (State.dpDown s b).sdram = s.sdram ∧ (State.dpDown s b).fuse = s.fuse ∧ (State.dpDown s b).sem = s.sem ∧ (State.dpDown s b).dom = s.dom ∧ (State.dpDown s b).time = s.time ∧ (State.dpDown s b).kp = s.kp ∧ (State.dpDown s b).act = s.act ∧ (State.dpDown s b).mirror = s.mirror := by
  unfold State.dpDown
  simp

@[simp] theorem dpDown_rising (s : State) (b : Bool) (hs : s.regs.rising = true) :
    (State.dpDown s b).regs.rising = true := by
  unfold State.dpDown
  simp (maxDischargeDepth := 60) +contextual [hs]

@[simp] theorem dispRestart_keeps (s : State) :
    (State.dispRestart s).pending = s.pending ∧ (State.dispRestart s).sdram = s.sdram ∧ (State.dispRestart s).fuse = s.fuse ∧ (State.dispRestart s).sem = s.sem ∧ (State.dispRestart s).dom = s.dom ∧ (State.dispRestart s).time = s.time ∧ (State.dispRestart s).kp = s.kp ∧ (State.dispRestart s).act = s.act ∧ (State.dispRestart s).mirror = s.mirror := by
  unfold State.dispRestart
  simp

@[simp] theorem dispRestart_rising (s : State) (hs : s.regs.rising = true) :
    (State.dispRestart s).regs.rising = true := by
  unfold State.dispRestart
  simp (maxDischargeDepth := 60) [hs]

@[simp] theorem dispOff_keeps (s : State) :
    (State.dispOff s).pending = s.pending ∧ (State.dispOff s).sdram = s.sdram ∧ (State.dispOff s).fuse = s.fuse ∧ (State.dispOff s).sem = s.sem ∧ (State.dispOff s).dom = s.dom ∧ (State.dispOff s).time = s.time ∧ (State.dispOff s).kp = s.kp ∧ (State.dispOff s).act = s.act ∧ (State.dispOff s).mirror = s.mirror := by
  unfold State.dispOff
  simp

@[simp] theorem dispOff_rising (s : State) (hs : s.regs.rising = true) :
    (State.dispOff s).regs.rising = true := by
  unfold State.dispOff
  simp (maxDischargeDepth := 60) [hs]

@[simp] theorem dispApply_keeps (s : State) :
    (State.dispApply s).pending = s.pending ∧ (State.dispApply s).sdram = s.sdram ∧ (State.dispApply s).fuse = s.fuse ∧ (State.dispApply s).sem = s.sem ∧ (State.dispApply s).dom = s.dom ∧ (State.dispApply s).time = s.time ∧ (State.dispApply s).kp = s.kp := by
  unfold State.dispApply
  simp

@[simp] theorem dispApply_rising (s : State) (hs : s.regs.rising = true) :
    (State.dispApply s).regs.rising = true := by
  unfold State.dispApply
  simp (maxDischargeDepth := 60) [hs]

@[simp] theorem dispApply_actRising (s : State) (hr : s.regs.rising = true) (hs : s.act.rising = true) :
    (State.dispApply s).act.rising = true := by
  unfold State.dispApply
  simp (maxDischargeDepth := 60) [hr, hs]

@[simp] theorem dispApply_mirrorWf (s : State) (hs : s.mirror.words.wf 0#32 = true) :
    (State.dispApply s).mirror.words.wf 0#32 = true := by
  unfold State.dispApply
  simp (maxDischargeDepth := 60) [hs]

@[simp] theorem dispCommitTry_keeps (s : State) :
    (State.dispCommitTry s).pending = s.pending ∧ (State.dispCommitTry s).sdram = s.sdram ∧ (State.dispCommitTry s).fuse = s.fuse ∧ (State.dispCommitTry s).sem = s.sem ∧ (State.dispCommitTry s).dom = s.dom ∧ (State.dispCommitTry s).time = s.time ∧ (State.dispCommitTry s).kp = s.kp := by
  unfold State.dispCommitTry
  simp

@[simp] theorem dispCommitTry_rising (s : State) (hs : s.regs.rising = true) :
    (State.dispCommitTry s).regs.rising = true := by
  unfold State.dispCommitTry
  simp (maxDischargeDepth := 60) [hs]

@[simp] theorem dispCommitTry_actRising (s : State) (hr : s.regs.rising = true) (hs : s.act.rising = true) :
    (State.dispCommitTry s).act.rising = true := by
  unfold State.dispCommitTry
  simp (maxDischargeDepth := 60) [hr, hs]

@[simp] theorem dispCommitTry_mirrorWf (s : State) (hs : s.mirror.words.wf 0#32 = true) :
    (State.dispCommitTry s).mirror.words.wf 0#32 = true := by
  unfold State.dispCommitTry
  simp (maxDischargeDepth := 60) [hs]

@[simp] theorem traceTake_keeps (s : State) (i : Nat) :
    (State.traceTake s i).pending = s.pending ∧ (State.traceTake s i).sdram = s.sdram ∧ (State.traceTake s i).fuse = s.fuse ∧ (State.traceTake s i).sem = s.sem ∧ (State.traceTake s i).dom = s.dom ∧ (State.traceTake s i).time = s.time ∧ (State.traceTake s i).kp = s.kp ∧ (State.traceTake s i).act = s.act ∧ (State.traceTake s i).mirror = s.mirror := by
  unfold State.traceTake
  try dsimp only
  (repeat' split) <;> simp

@[simp] theorem traceTake_rising (s : State) (i : Nat) (hs : s.regs.rising = true) :
    (State.traceTake s i).regs.rising = true := by
  unfold State.traceTake
  try dsimp only
  (repeat' split) <;> simp (maxDischargeDepth := 60) [hs]

@[simp] theorem linesLate_keeps (s : State) (n : Nat) :
    (State.linesLate s n).pending = s.pending ∧ (State.linesLate s n).sdram = s.sdram ∧ (State.linesLate s n).fuse = s.fuse ∧ (State.linesLate s n).sem = s.sem ∧ (State.linesLate s n).dom = s.dom ∧ (State.linesLate s n).time = s.time ∧ (State.linesLate s n).kp = s.kp ∧ (State.linesLate s n).act = s.act ∧ (State.linesLate s n).mirror = s.mirror := by
  unfold State.linesLate
  simp

@[simp] theorem linesLate_rising (s : State) (n : Nat) (hs : s.regs.rising = true) :
    (State.linesLate s n).regs.rising = true := by
  unfold State.linesLate
  simp (maxDischargeDepth := 60) +contextual [hs]

@[simp] theorem frameEndLate_keeps (s : State) :
    (State.frameEndLate s).pending = s.pending ∧ (State.frameEndLate s).sdram = s.sdram ∧ (State.frameEndLate s).fuse = s.fuse ∧ (State.frameEndLate s).sem = s.sem ∧ (State.frameEndLate s).dom = s.dom ∧ (State.frameEndLate s).time = s.time ∧ (State.frameEndLate s).kp = s.kp ∧ (State.frameEndLate s).act = s.act ∧ (State.frameEndLate s).mirror = s.mirror := by
  unfold State.frameEndLate
  simp

@[simp] theorem frameEndLate_rising (s : State) (hs : s.regs.rising = true) :
    (State.frameEndLate s).regs.rising = true := by
  unfold State.frameEndLate
  simp (maxDischargeDepth := 60) +contextual [hs]

@[simp] theorem frameBegin_keeps (s : State) :
    (State.frameBegin s).pending = s.pending ∧ (State.frameBegin s).sdram = s.sdram ∧ (State.frameBegin s).fuse = s.fuse ∧ (State.frameBegin s).sem = s.sem ∧ (State.frameBegin s).dom = s.dom ∧ (State.frameBegin s).time = s.time ∧ (State.frameBegin s).kp = s.kp ∧ (State.frameBegin s).act = s.act ∧ (State.frameBegin s).mirror = s.mirror := by
  unfold State.frameBegin
  simp

@[simp] theorem frameBegin_rising (s : State) (hs : s.regs.rising = true) :
    (State.frameBegin s).regs.rising = true := by
  unfold State.frameBegin
  simp (maxDischargeDepth := 60) [hs]

@[simp] theorem linkStart_keeps (s : State) (b : Bool) :
    (State.linkStart s b).pending = s.pending ∧ (State.linkStart s b).sdram = s.sdram ∧ (State.linkStart s b).fuse = s.fuse ∧ (State.linkStart s b).sem = s.sem ∧ (State.linkStart s b).dom = s.dom ∧ (State.linkStart s b).time = s.time ∧ (State.linkStart s b).kp = s.kp ∧ (State.linkStart s b).regs = s.regs ∧ (State.linkStart s b).act = s.act ∧ (State.linkStart s b).mirror = s.mirror := by
  unfold State.linkStart
  simp

@[simp] theorem dispBlank_keeps (s : State) :
    (State.dispBlank s).pending = s.pending ∧ (State.dispBlank s).sdram = s.sdram ∧ (State.dispBlank s).fuse = s.fuse ∧ (State.dispBlank s).sem = s.sem ∧ (State.dispBlank s).dom = s.dom ∧ (State.dispBlank s).time = s.time ∧ (State.dispBlank s).kp = s.kp ∧ (State.dispBlank s).act = s.act ∧ (State.dispBlank s).mirror = s.mirror := by
  unfold State.dispBlank
  simp

@[simp] theorem dispBlank_rising (s : State) (hs : s.regs.rising = true) :
    (State.dispBlank s).regs.rising = true := by
  unfold State.dispBlank
  simp (maxDischargeDepth := 60) [hs]

@[simp] theorem dispRecord_keeps (s : State) (l : Nat) (addr : Nat) (commit : Nat) (status : Nat) (cause : Nat) (tag : Nat) (event : Nat) :
    (State.dispRecord s l addr commit status cause tag event).pending = s.pending ∧ (State.dispRecord s l addr commit status cause tag event).sdram = s.sdram ∧ (State.dispRecord s l addr commit status cause tag event).fuse = s.fuse ∧ (State.dispRecord s l addr commit status cause tag event).sem = s.sem ∧ (State.dispRecord s l addr commit status cause tag event).dom = s.dom ∧ (State.dispRecord s l addr commit status cause tag event).time = s.time ∧ (State.dispRecord s l addr commit status cause tag event).kp = s.kp ∧ (State.dispRecord s l addr commit status cause tag event).act = s.act ∧ (State.dispRecord s l addr commit status cause tag event).mirror = s.mirror := by
  unfold State.dispRecord
  simp

@[simp] theorem dispRecord_rising (s : State) (l : Nat) (addr : Nat) (commit : Nat) (status : Nat) (cause : Nat) (tag : Nat) (event : Nat) (hs : s.regs.rising = true) :
    (State.dispRecord s l addr commit status cause tag event).regs.rising = true := by
  unfold State.dispRecord
  simp (maxDischargeDepth := 60) [hs]

@[simp] theorem layerRelease_keeps (s : State) (d : LayerDone) :
    (State.layerRelease s d).pending = s.pending ∧ (State.layerRelease s d).sdram = s.sdram ∧ (State.layerRelease s d).fuse = s.fuse ∧ (State.layerRelease s d).sem = s.sem ∧ (State.layerRelease s d).dom = s.dom ∧ (State.layerRelease s d).time = s.time ∧ (State.layerRelease s d).kp = s.kp ∧ (State.layerRelease s d).act = s.act := by
  unfold State.layerRelease
  try dsimp only
  (repeat' split) <;> simp

@[simp] theorem layerRelease_rising (s : State) (d : LayerDone) (hs : s.regs.rising = true) :
    (State.layerRelease s d).regs.rising = true := by
  unfold State.layerRelease
  try dsimp only
  (repeat' split) <;> simp (maxDischargeDepth := 60) [hs]

@[simp] theorem layerRelease_mirrorWf (s : State) (d : LayerDone) (hs : s.mirror.words.wf 0#32 = true) :
    (State.layerRelease s d).mirror.words.wf 0#32 = true := by
  unfold State.layerRelease
  try dsimp only
  (repeat' split) <;> simp (maxDischargeDepth := 60) [hs]

@[simp] theorem layersRelease_keeps (s : State) (y0 : List LayerDone) :
    (State.layersRelease s y0).pending = s.pending ∧ (State.layersRelease s y0).sdram = s.sdram ∧ (State.layersRelease s y0).fuse = s.fuse ∧ (State.layersRelease s y0).sem = s.sem ∧ (State.layersRelease s y0).dom = s.dom ∧ (State.layersRelease s y0).time = s.time ∧ (State.layersRelease s y0).kp = s.kp ∧ (State.layersRelease s y0).act = s.act := by
  fun_induction State.layersRelease s y0; all_goals first
      | (simp_all +zetaDelta; done)
      | (simp only [*]; (try simp +zetaDelta only []); (repeat' split) <;> simp_all; done)

@[simp] theorem layersRelease_rising (s : State) (y0 : List LayerDone) (hs : s.regs.rising = true) :
    (State.layersRelease s y0).regs.rising = true := by
  fun_induction State.layersRelease s y0 <;> (simp_all (maxDischargeDepth := 60) +zetaDelta; done)

@[simp] theorem layersRelease_mirrorWf (s : State) (y0 : List LayerDone) (hs : s.mirror.words.wf 0#32 = true) :
    (State.layersRelease s y0).mirror.words.wf 0#32 = true := by
  fun_induction State.layersRelease s y0 <;> (simp_all (maxDischargeDepth := 60) +zetaDelta; done)

@[simp] theorem dispSleep_keeps (s : State) :
    (State.dispSleep s).pending = s.pending ∧ (State.dispSleep s).sdram = s.sdram ∧ (State.dispSleep s).fuse = s.fuse ∧ (State.dispSleep s).sem = s.sem ∧ (State.dispSleep s).dom = s.dom ∧ (State.dispSleep s).time = s.time ∧ (State.dispSleep s).kp = s.kp ∧ (State.dispSleep s).act = s.act := by
  unfold State.dispSleep
  simp

@[simp] theorem dispSleep_rising (s : State) (hs : s.regs.rising = true) :
    (State.dispSleep s).regs.rising = true := by
  unfold State.dispSleep
  simp (maxDischargeDepth := 60) [hs]

@[simp] theorem dispSleep_mirrorWf (s : State) (hs : s.mirror.words.wf 0#32 = true) :
    (State.dispSleep s).mirror.words.wf 0#32 = true := by
  unfold State.dispSleep
  simp (maxDischargeDepth := 60) [hs]

@[simp] theorem dispCommitWrite_keeps (s : State) (v : Nat) :
    (State.dispCommitWrite s v).pending = s.pending ∧ (State.dispCommitWrite s v).sdram = s.sdram ∧ (State.dispCommitWrite s v).fuse = s.fuse ∧ (State.dispCommitWrite s v).sem = s.sem ∧ (State.dispCommitWrite s v).dom = s.dom ∧ (State.dispCommitWrite s v).time = s.time ∧ (State.dispCommitWrite s v).kp = s.kp ∧ (State.dispCommitWrite s v).act = s.act ∧ (State.dispCommitWrite s v).mirror = s.mirror := by
  unfold State.dispCommitWrite
  simp

@[simp] theorem dispCommitWrite_rising (s : State) (v : Nat) (hs : s.regs.rising = true) :
    (State.dispCommitWrite s v).regs.rising = true := by
  unfold State.dispCommitWrite
  simp (maxDischargeDepth := 60) [hs]

@[simp] theorem dispAuxWrite_keeps (s : State) (v : Nat) :
    (State.dispAuxWrite s v).pending = s.pending ∧ (State.dispAuxWrite s v).sdram = s.sdram ∧ (State.dispAuxWrite s v).fuse = s.fuse ∧ (State.dispAuxWrite s v).sem = s.sem ∧ (State.dispAuxWrite s v).dom = s.dom ∧ (State.dispAuxWrite s v).time = s.time ∧ (State.dispAuxWrite s v).kp = s.kp ∧ (State.dispAuxWrite s v).act = s.act ∧ (State.dispAuxWrite s v).mirror = s.mirror := by
  unfold State.dispAuxWrite
  simp

@[simp] theorem dispAuxWrite_rising (s : State) (v : Nat) (hs : s.regs.rising = true) :
    (State.dispAuxWrite s v).regs.rising = true := by
  unfold State.dispAuxWrite
  simp (maxDischargeDepth := 60) [hs]

@[simp] theorem auxData_keeps (s : State) (b : List Byte) (y0 : List Nat) :
    (State.auxData s b y0).pending = s.pending ∧ (State.auxData s b y0).sdram = s.sdram ∧ (State.auxData s b y0).fuse = s.fuse ∧ (State.auxData s b y0).sem = s.sem ∧ (State.auxData s b y0).dom = s.dom ∧ (State.auxData s b y0).time = s.time ∧ (State.auxData s b y0).kp = s.kp ∧ (State.auxData s b y0).act = s.act ∧ (State.auxData s b y0).mirror = s.mirror := by
  fun_induction State.auxData s b y0; all_goals first
      | (simp_all +zetaDelta; done)
      | (simp only [*]; (try simp +zetaDelta only []); (repeat' split) <;> simp_all; done)

@[simp] theorem auxData_rising (s : State) (b : List Byte) (y0 : List Nat) (hs : s.regs.rising = true) :
    (State.auxData s b y0).regs.rising = true := by
  fun_induction State.auxData s b y0 <;> (simp_all (maxDischargeDepth := 60) +zetaDelta; done)

@[simp] theorem trainFail_keeps (s : State) :
    (State.trainFail s).pending = s.pending ∧ (State.trainFail s).sdram = s.sdram ∧ (State.trainFail s).fuse = s.fuse ∧ (State.trainFail s).sem = s.sem ∧ (State.trainFail s).dom = s.dom ∧ (State.trainFail s).time = s.time ∧ (State.trainFail s).kp = s.kp ∧ (State.trainFail s).act = s.act ∧ (State.trainFail s).mirror = s.mirror := by
  unfold State.trainFail
  simp

@[simp] theorem trainFail_rising (s : State) (hs : s.regs.rising = true) :
    (State.trainFail s).regs.rising = true := by
  unfold State.trainFail
  simp (maxDischargeDepth := 60) +contextual [hs]

@[simp] theorem trainAgain_keeps (s : State) :
    (State.trainAgain s).pending = s.pending ∧ (State.trainAgain s).sdram = s.sdram ∧ (State.trainAgain s).fuse = s.fuse ∧ (State.trainAgain s).sem = s.sem ∧ (State.trainAgain s).dom = s.dom ∧ (State.trainAgain s).time = s.time ∧ (State.trainAgain s).kp = s.kp ∧ (State.trainAgain s).act = s.act ∧ (State.trainAgain s).mirror = s.mirror := by
  unfold State.trainAgain
  simp

@[simp] theorem trainAgain_rising (s : State) (hs : s.regs.rising = true) :
    (State.trainAgain s).regs.rising = true := by
  unfold State.trainAgain
  simp (maxDischargeDepth := 60) +contextual [hs]

@[simp] theorem linkTrained_keeps (s : State) (b : Bool) (rate : Nat) :
    (State.linkTrained s b rate).pending = s.pending ∧ (State.linkTrained s b rate).sdram = s.sdram ∧ (State.linkTrained s b rate).fuse = s.fuse ∧ (State.linkTrained s b rate).sem = s.sem ∧ (State.linkTrained s b rate).dom = s.dom ∧ (State.linkTrained s b rate).time = s.time ∧ (State.linkTrained s b rate).kp = s.kp ∧ (State.linkTrained s b rate).act = s.act ∧ (State.linkTrained s b rate).mirror = s.mirror := by
  unfold State.linkTrained
  simp

@[simp] theorem linkTrained_rising (s : State) (b : Bool) (rate : Nat) (hs : s.regs.rising = true) :
    (State.linkTrained s b rate).regs.rising = true := by
  unfold State.linkTrained
  simp (maxDischargeDepth := 60) [hs]
end Sys2Proof.Machine.State
end

