-- ==== Sys2Proof/Laws/KeepPath.lean ====
section
/-! SUPPORT. What the operations of Machine/Path.lean leave alone: memory, fuses, semaphores, domains, time, the queue. -/

namespace Sys2Proof.Machine.State

@[simp] theorem frameIssue_keeps (s : State) (p : Nat) (f : Frame) :
    (State.frameIssue s p f).pending = s.pending ∧ (State.frameIssue s p f).sdram = s.sdram ∧ (State.frameIssue s p f).fuse = s.fuse ∧ (State.frameIssue s p f).sem = s.sem ∧ (State.frameIssue s p f).dom = s.dom ∧ (State.frameIssue s p f).time = s.time ∧ (State.frameIssue s p f).kp = s.kp ∧ (State.frameIssue s p f).regs = s.regs ∧ (State.frameIssue s p f).act = s.act ∧ (State.frameIssue s p f).mirror = s.mirror := by
  unfold State.frameIssue
  simp

@[simp] theorem issueFrames_keeps (s : State) (p : Nat) (y0 : List Frame) :
    (State.issueFrames s p y0).pending = s.pending ∧ (State.issueFrames s p y0).sdram = s.sdram ∧ (State.issueFrames s p y0).fuse = s.fuse ∧ (State.issueFrames s p y0).sem = s.sem ∧ (State.issueFrames s p y0).dom = s.dom ∧ (State.issueFrames s p y0).time = s.time ∧ (State.issueFrames s p y0).kp = s.kp ∧ (State.issueFrames s p y0).regs = s.regs ∧ (State.issueFrames s p y0).act = s.act ∧ (State.issueFrames s p y0).mirror = s.mirror := by
  fun_induction State.issueFrames s p y0; all_goals first
      | (simp_all +zetaDelta; done)
      | (simp only [*]; (try simp +zetaDelta only []); (repeat' split) <;> simp_all; done)

@[simp] theorem framesTrim_keeps (s : State) (p : Nat) :
    (State.framesTrim s p).pending = s.pending ∧ (State.framesTrim s p).sdram = s.sdram ∧ (State.framesTrim s p).fuse = s.fuse ∧ (State.framesTrim s p).sem = s.sem ∧ (State.framesTrim s p).dom = s.dom ∧ (State.framesTrim s p).time = s.time ∧ (State.framesTrim s p).kp = s.kp ∧ (State.framesTrim s p).regs = s.regs ∧ (State.framesTrim s p).act = s.act ∧ (State.framesTrim s p).mirror = s.mirror := by
  unfold State.framesTrim
  simp

@[simp] theorem frameDone_keeps (s : State) (p : Nat) (f : Frame) :
    (State.frameDone s p f).pending = s.pending ∧ (State.frameDone s p f).sdram = s.sdram ∧ (State.frameDone s p f).fuse = s.fuse ∧ (State.frameDone s p f).sem = s.sem ∧ (State.frameDone s p f).dom = s.dom ∧ (State.frameDone s p f).time = s.time ∧ (State.frameDone s p f).kp = s.kp ∧ (State.frameDone s p f).act = s.act ∧ (State.frameDone s p f).mirror = s.mirror := by
  unfold State.frameDone
  simp

@[simp] theorem frameDone_rising (s : State) (p : Nat) (f : Frame) (hs : s.regs.rising = true) :
    (State.frameDone s p f).regs.rising = true := by
  unfold State.frameDone
  simp (maxDischargeDepth := 60) +contextual [hs]

@[simp] theorem frameVoid_keeps (s : State) (p reason : Nat) (f : Frame) :
    (State.frameVoid s p reason f).pending = s.pending ∧ (State.frameVoid s p reason f).sdram = s.sdram ∧ (State.frameVoid s p reason f).fuse = s.fuse ∧ (State.frameVoid s p reason f).sem = s.sem ∧ (State.frameVoid s p reason f).dom = s.dom ∧ (State.frameVoid s p reason f).time = s.time ∧ (State.frameVoid s p reason f).kp = s.kp ∧ (State.frameVoid s p reason f).act = s.act ∧ (State.frameVoid s p reason f).mirror = s.mirror := by
  unfold State.frameVoid
  simp

@[simp] theorem frameVoid_rising (s : State) (p reason : Nat) (f : Frame) (hs : s.regs.rising = true) :
    (State.frameVoid s p reason f).regs.rising = true := by
  unfold State.frameVoid
  simp (maxDischargeDepth := 60) +contextual [hs]

@[simp] theorem spread_keeps (s : State) (p : Nat) (base : List Smp) (wins : List (Nat × List Smp)) :
    (State.spread s p base wins).pending = s.pending ∧ (State.spread s p base wins).sdram = s.sdram ∧ (State.spread s p base wins).fuse = s.fuse ∧ (State.spread s p base wins).sem = s.sem ∧ (State.spread s p base wins).dom = s.dom ∧ (State.spread s p base wins).time = s.time ∧ (State.spread s p base wins).kp = s.kp ∧ (State.spread s p base wins).act = s.act ∧ (State.spread s p base wins).mirror = s.mirror := by
  unfold State.spread
  simp

@[simp] theorem spread_rising (s : State) (p : Nat) (base : List Smp) (wins : List (Nat × List Smp)) (hs : s.regs.rising = true) :
    (State.spread s p base wins).regs.rising = true := by
  unfold State.spread
  simp (maxDischargeDepth := 60) +contextual [hs]

@[simp] theorem analyse_keeps (s : State) (p : Nat) (x : Parcel) :
    (State.analyse s p x).pending = s.pending ∧ (State.analyse s p x).sdram = s.sdram ∧ (State.analyse s p x).fuse = s.fuse ∧ (State.analyse s p x).sem = s.sem ∧ (State.analyse s p x).dom = s.dom ∧ (State.analyse s p x).time = s.time ∧ (State.analyse s p x).kp = s.kp ∧ (State.analyse s p x).act = s.act := by
  unfold State.analyse
  simp

@[simp] theorem analyse_rising (s : State) (p : Nat) (x : Parcel) (hs : s.regs.rising = true) :
    (State.analyse s p x).regs.rising = true := by
  unfold State.analyse
  simp (maxDischargeDepth := 60) [hs]

@[simp] theorem analyse_mirrorWf (s : State) (p : Nat) (x : Parcel) (hs : s.mirror.words.wf 0#32 = true) :
    (State.analyse s p x).mirror.words.wf 0#32 = true := by
  unfold State.analyse
  simp (maxDischargeDepth := 60) [hs]

@[simp] theorem entryPut_keeps (s : State) (p : Nat) (x : Parcel) :
    (State.entryPut s p x).pending = s.pending ∧ (State.entryPut s p x).sdram = s.sdram ∧ (State.entryPut s p x).fuse = s.fuse ∧ (State.entryPut s p x).sem = s.sem ∧ (State.entryPut s p x).dom = s.dom ∧ (State.entryPut s p x).time = s.time ∧ (State.entryPut s p x).kp = s.kp ∧ (State.entryPut s p x).regs = s.regs ∧ (State.entryPut s p x).act = s.act ∧ (State.entryPut s p x).mirror = s.mirror := by
  unfold State.entryPut
  simp

@[simp] theorem takeIn_keeps (s : State) (p : Nat) (x : Parcel) (late : List Frame) :
    (State.takeIn s p x late).pending = s.pending ∧ (State.takeIn s p x late).sdram = s.sdram ∧ (State.takeIn s p x late).fuse = s.fuse ∧ (State.takeIn s p x late).sem = s.sem ∧ (State.takeIn s p x late).dom = s.dom ∧ (State.takeIn s p x late).time = s.time ∧ (State.takeIn s p x late).kp = s.kp ∧ (State.takeIn s p x late).act = s.act := by
  unfold State.takeIn
  simp

@[simp] theorem takeIn_rising (s : State) (p : Nat) (x : Parcel) (late : List Frame) (hs : s.regs.rising = true) :
    (State.takeIn s p x late).regs.rising = true := by
  unfold State.takeIn
  simp (maxDischargeDepth := 60) +contextual [hs]

@[simp] theorem takeIn_mirrorWf (s : State) (p : Nat) (x : Parcel) (late : List Frame) (hs : s.mirror.words.wf 0#32 = true) :
    (State.takeIn s p x late).mirror.words.wf 0#32 = true := by
  unfold State.takeIn
  simp (maxDischargeDepth := 60) +contextual [hs]

@[simp] theorem takeHead_keeps (s : State) (p : Nat) (x : Parcel) (rest : List Parcel) (frames : List Frame) (ecc : Ecc) :
    (State.takeHead s p x rest frames ecc).pending = s.pending ∧ (State.takeHead s p x rest frames ecc).sdram = s.sdram ∧ (State.takeHead s p x rest frames ecc).fuse = s.fuse ∧ (State.takeHead s p x rest frames ecc).sem = s.sem ∧ (State.takeHead s p x rest frames ecc).dom = s.dom ∧ (State.takeHead s p x rest frames ecc).time = s.time ∧ (State.takeHead s p x rest frames ecc).kp = s.kp ∧ (State.takeHead s p x rest frames ecc).act = s.act := by
  unfold State.takeHead
  try dsimp only
  (repeat' split) <;> simp

@[simp] theorem takeHead_rising (s : State) (p : Nat) (x : Parcel) (rest : List Parcel) (frames : List Frame) (ecc : Ecc) (hs : s.regs.rising = true) :
    (State.takeHead s p x rest frames ecc).regs.rising = true := by
  unfold State.takeHead
  try dsimp only
  (repeat' split) <;> simp (maxDischargeDepth := 60) [hs]

@[simp] theorem takeHead_mirrorWf (s : State) (p : Nat) (x : Parcel) (rest : List Parcel) (frames : List Frame) (ecc : Ecc) (hs : s.mirror.words.wf 0#32 = true) :
    (State.takeHead s p x rest frames ecc).mirror.words.wf 0#32 = true := by
  unfold State.takeHead
  try dsimp only
  (repeat' split) <;> simp (maxDischargeDepth := 60) [hs]

@[simp] theorem consume_keeps (s : State) (t : Nat) (c : TileCfg) :
    (State.consume s t c).pending = s.pending ∧ (State.consume s t c).sdram = s.sdram ∧ (State.consume s t c).fuse = s.fuse ∧ (State.consume s t c).sem = s.sem ∧ (State.consume s t c).dom = s.dom ∧ (State.consume s t c).time = s.time ∧ (State.consume s t c).kp = s.kp ∧ (State.consume s t c).regs = s.regs ∧ (State.consume s t c).act = s.act ∧ (State.consume s t c).mirror = s.mirror := by
  unfold State.consume
  simp

@[simp] theorem produceOn_keeps (s : State) (c : TileCfg) (out : Nat → Nat → Token) (d : Nat) :
    (State.produceOn s c out d).pending = s.pending ∧ (State.produceOn s c out d).sdram = s.sdram ∧ (State.produceOn s c out d).fuse = s.fuse ∧ (State.produceOn s c out d).sem = s.sem ∧ (State.produceOn s c out d).dom = s.dom ∧ (State.produceOn s c out d).time = s.time ∧ (State.produceOn s c out d).kp = s.kp ∧ (State.produceOn s c out d).regs = s.regs ∧ (State.produceOn s c out d).act = s.act ∧ (State.produceOn s c out d).mirror = s.mirror := by
  unfold State.produceOn
  split <;> simp

@[simp] theorem produce_keeps (s : State) (c : TileCfg) (out : Nat → Nat → Token) :
    (State.produce s c out).pending = s.pending ∧ (State.produce s c out).sdram = s.sdram ∧ (State.produce s c out).fuse = s.fuse ∧ (State.produce s c out).sem = s.sem ∧ (State.produce s c out).dom = s.dom ∧ (State.produce s c out).time = s.time ∧ (State.produce s c out).kp = s.kp ∧ (State.produce s c out).regs = s.regs ∧ (State.produce s c out).act = s.act ∧ (State.produce s c out).mirror = s.mirror := by
  unfold State.produce
  simp

@[simp] theorem voidFrame_keeps (s : State) (p : Nat) (reason : Nat) (f : Option Frame) :
    (State.voidFrame s p reason f).pending = s.pending ∧ (State.voidFrame s p reason f).sdram = s.sdram ∧ (State.voidFrame s p reason f).fuse = s.fuse ∧ (State.voidFrame s p reason f).sem = s.sem ∧ (State.voidFrame s p reason f).dom = s.dom ∧ (State.voidFrame s p reason f).time = s.time ∧ (State.voidFrame s p reason f).kp = s.kp ∧ (State.voidFrame s p reason f).act = s.act ∧ (State.voidFrame s p reason f).mirror = s.mirror := by
  unfold State.voidFrame
  try dsimp only
  (repeat' split) <;> simp

@[simp] theorem voidFrame_rising (s : State) (p : Nat) (reason : Nat) (f : Option Frame) (hs : s.regs.rising = true) :
    (State.voidFrame s p reason f).regs.rising = true := by
  unfold State.voidFrame
  try dsimp only
  (repeat' split) <;> simp (maxDischargeDepth := 60) [hs]

@[simp] theorem parcelLost_keeps (s : State) (p : Nat) (x : Parcel) :
    (State.parcelLost s p x).pending = s.pending ∧ (State.parcelLost s p x).sdram = s.sdram ∧ (State.parcelLost s p x).fuse = s.fuse ∧ (State.parcelLost s p x).sem = s.sem ∧ (State.parcelLost s p x).dom = s.dom ∧ (State.parcelLost s p x).time = s.time ∧ (State.parcelLost s p x).kp = s.kp ∧ (State.parcelLost s p x).act = s.act ∧ (State.parcelLost s p x).mirror = s.mirror := by
  unfold State.parcelLost
  simp

@[simp] theorem parcelLost_rising (s : State) (p : Nat) (x : Parcel) (hs : s.regs.rising = true) :
    (State.parcelLost s p x).regs.rising = true := by
  unfold State.parcelLost
  simp (maxDischargeDepth := 60) +contextual [hs]

@[simp] theorem firedOk_keeps (s : State) (t : Nat) (c : TileCfg) (acc : Tab (BitVec 48)) (took : Nat → List Token) (w : TileWork) (product : Option Frame) :
    (State.firedOk s t c acc took w product).pending = s.pending ∧ (State.firedOk s t c acc took w product).sdram = s.sdram ∧ (State.firedOk s t c acc took w product).fuse = s.fuse ∧ (State.firedOk s t c acc took w product).sem = s.sem ∧ (State.firedOk s t c acc took w product).dom = s.dom ∧ (State.firedOk s t c acc took w product).time = s.time ∧ (State.firedOk s t c acc took w product).kp = s.kp ∧ (State.firedOk s t c acc took w product).act = s.act ∧ (State.firedOk s t c acc took w product).mirror = s.mirror := by
  unfold State.firedOk
  split <;> simp

@[simp] theorem firedOk_rising (s : State) (t : Nat) (c : TileCfg) (acc : Tab (BitVec 48)) (took : Nat → List Token) (w : TileWork) (product : Option Frame) (hs : s.regs.rising = true) :
    (State.firedOk s t c acc took w product).regs.rising = true := by
  unfold State.firedOk
  try dsimp only
  (repeat' split) <;> simp (maxDischargeDepth := 60) +contextual [hs]

@[simp] theorem fireLanes_keeps (s : State) (t : Nat) (c : TileCfg) (took : Nat → List Token) (w : TileWork) (product : Option Frame) :
    (State.fireLanes s t c took w product).pending = s.pending ∧ (State.fireLanes s t c took w product).sdram = s.sdram ∧ (State.fireLanes s t c took w product).fuse = s.fuse ∧ (State.fireLanes s t c took w product).sem = s.sem ∧ (State.fireLanes s t c took w product).dom = s.dom ∧ (State.fireLanes s t c took w product).time = s.time ∧ (State.fireLanes s t c took w product).kp = s.kp ∧ (State.fireLanes s t c took w product).act = s.act ∧ (State.fireLanes s t c took w product).mirror = s.mirror := by
  unfold State.fireLanes
  try dsimp only
  (repeat' split) <;> simp

@[simp] theorem fireLanes_rising (s : State) (t : Nat) (c : TileCfg) (took : Nat → List Token) (w : TileWork) (product : Option Frame) (hs : s.regs.rising = true) :
    (State.fireLanes s t c took w product).regs.rising = true := by
  unfold State.fireLanes
  try dsimp only
  (repeat' split) <;> simp (maxDischargeDepth := 60) +contextual [hs]

@[simp] theorem fire_keeps (s : State) (t : Nat) (c : TileCfg) (how : FireEnd) (w : TileWork) (product : Option Frame) :
    (State.fire s t c how w product).pending = s.pending ∧ (State.fire s t c how w product).sdram = s.sdram ∧ (State.fire s t c how w product).fuse = s.fuse ∧ (State.fire s t c how w product).sem = s.sem ∧ (State.fire s t c how w product).dom = s.dom ∧ (State.fire s t c how w product).time = s.time ∧ (State.fire s t c how w product).kp = s.kp ∧ (State.fire s t c how w product).act = s.act ∧ (State.fire s t c how w product).mirror = s.mirror := by
  unfold State.fire
  split <;> simp

@[simp] theorem fire_rising (s : State) (t : Nat) (c : TileCfg) (how : FireEnd) (w : TileWork) (product : Option Frame) (hs : s.regs.rising = true) :
    (State.fire s t c how w product).regs.rising = true := by
  unfold State.fire
  try dsimp only
  (repeat' split) <;> simp (maxDischargeDepth := 60) +contextual [hs]

@[simp] theorem replayGo_keeps (s : State) (p : Nat) (n : Nat) :
    (State.replayGo s p n).pending = s.pending ∧ (State.replayGo s p n).sdram = s.sdram ∧ (State.replayGo s p n).fuse = s.fuse ∧ (State.replayGo s p n).sem = s.sem ∧ (State.replayGo s p n).dom = s.dom ∧ (State.replayGo s p n).time = s.time ∧ (State.replayGo s p n).kp = s.kp ∧ (State.replayGo s p n).act = s.act ∧ (State.replayGo s p n).mirror = s.mirror := by
  unfold State.replayGo
  simp

@[simp] theorem replayGo_rising (s : State) (p : Nat) (n : Nat) (hs : s.regs.rising = true) :
    (State.replayGo s p n).regs.rising = true := by
  unfold State.replayGo
  simp (maxDischargeDepth := 60) [hs]

@[simp] theorem replayGap_keeps (s : State) (p seq n tick phase flags reason : Nat) :
    (State.replayGap s p seq n tick phase flags reason).pending = s.pending ∧ (State.replayGap s p seq n tick phase flags reason).sdram = s.sdram ∧ (State.replayGap s p seq n tick phase flags reason).fuse = s.fuse ∧ (State.replayGap s p seq n tick phase flags reason).sem = s.sem ∧ (State.replayGap s p seq n tick phase flags reason).dom = s.dom ∧ (State.replayGap s p seq n tick phase flags reason).time = s.time ∧ (State.replayGap s p seq n tick phase flags reason).kp = s.kp ∧ (State.replayGap s p seq n tick phase flags reason).act = s.act ∧ (State.replayGap s p seq n tick phase flags reason).mirror = s.mirror := by
  unfold State.replayGap
  simp

@[simp] theorem replayGap_rising (s : State) (p seq n tick phase flags reason : Nat) (hs : s.regs.rising = true) :
    (State.replayGap s p seq n tick phase flags reason).regs.rising = true := by
  unfold State.replayGap
  simp (maxDischargeDepth := 60) +contextual [hs]

@[simp] theorem replayMark_keeps (s : State) (p : Nat) (x : Parcel) :
    (State.replayMark s p x).1.pending = s.pending ∧ (State.replayMark s p x).1.sdram = s.sdram ∧ (State.replayMark s p x).1.fuse = s.fuse ∧ (State.replayMark s p x).1.sem = s.sem ∧ (State.replayMark s p x).1.dom = s.dom ∧ (State.replayMark s p x).1.time = s.time ∧ (State.replayMark s p x).1.kp = s.kp ∧ (State.replayMark s p x).1.regs = s.regs ∧ (State.replayMark s p x).1.act = s.act ∧ (State.replayMark s p x).1.mirror = s.mirror := by
  unfold State.replayMark
  try dsimp only
  (repeat' split) <;> simp

@[simp] theorem replayBlock_keeps (s : State) (p : Nat) (fs : Nat) (x : Parcel) :
    (State.replayBlock s p fs x).pending = s.pending ∧ (State.replayBlock s p fs x).sdram = s.sdram ∧ (State.replayBlock s p fs x).fuse = s.fuse ∧ (State.replayBlock s p fs x).sem = s.sem ∧ (State.replayBlock s p fs x).dom = s.dom ∧ (State.replayBlock s p fs x).time = s.time ∧ (State.replayBlock s p fs x).kp = s.kp ∧ (State.replayBlock s p fs x).act = s.act := by
  unfold State.replayBlock
  simp

@[simp] theorem replayBlock_rising (s : State) (p : Nat) (fs : Nat) (x : Parcel) (hs : s.regs.rising = true) :
    (State.replayBlock s p fs x).regs.rising = true := by
  unfold State.replayBlock
  simp (maxDischargeDepth := 60) [hs]

@[simp] theorem replayBlock_mirrorWf (s : State) (p : Nat) (fs : Nat) (x : Parcel) (hs : s.mirror.words.wf 0#32 = true) :
    (State.replayBlock s p fs x).mirror.words.wf 0#32 = true := by
  unfold State.replayBlock
  simp (maxDischargeDepth := 60) [hs]

@[simp] theorem replayIq_keeps (s : State) (p : Nat) (fs : Nat) (x : Parcel) (vs : List IQ) :
    (State.replayIq s p fs x vs).pending = s.pending ∧ (State.replayIq s p fs x vs).sdram = s.sdram ∧ (State.replayIq s p fs x vs).fuse = s.fuse ∧ (State.replayIq s p fs x vs).sem = s.sem ∧ (State.replayIq s p fs x vs).dom = s.dom ∧ (State.replayIq s p fs x vs).time = s.time ∧ (State.replayIq s p fs x vs).kp = s.kp ∧ (State.replayIq s p fs x vs).act = s.act := by
  unfold State.replayIq
  simp

@[simp] theorem replayIq_rising (s : State) (p : Nat) (fs : Nat) (x : Parcel) (vs : List IQ) (hs : s.regs.rising = true) :
    (State.replayIq s p fs x vs).regs.rising = true := by
  unfold State.replayIq
  simp (maxDischargeDepth := 60) [hs]

@[simp] theorem replayIq_mirrorWf (s : State) (p : Nat) (fs : Nat) (x : Parcel) (vs : List IQ) (hs : s.mirror.words.wf 0#32 = true) :
    (State.replayIq s p fs x vs).mirror.words.wf 0#32 = true := by
  unfold State.replayIq
  simp (maxDischargeDepth := 60) [hs]

@[simp] theorem replayParcel_keeps (s : State) (p : Nat) (src : ReplaySrc) (ecc : Ecc) :
    (State.replayParcel s p src ecc).pending = s.pending ∧ (State.replayParcel s p src ecc).sdram = s.sdram ∧ (State.replayParcel s p src ecc).fuse = s.fuse ∧ (State.replayParcel s p src ecc).sem = s.sem ∧ (State.replayParcel s p src ecc).dom = s.dom ∧ (State.replayParcel s p src ecc).time = s.time ∧ (State.replayParcel s p src ecc).kp = s.kp ∧ (State.replayParcel s p src ecc).act = s.act := by
  unfold State.replayParcel
  try dsimp only
  (repeat' split) <;> simp

@[simp] theorem replayParcel_rising (s : State) (p : Nat) (src : ReplaySrc) (ecc : Ecc) (hs : s.regs.rising = true) :
    (State.replayParcel s p src ecc).regs.rising = true := by
  unfold State.replayParcel
  try dsimp only
  (repeat' split) <;> simp (maxDischargeDepth := 60) [hs]

@[simp] theorem replayParcel_mirrorWf (s : State) (p : Nat) (src : ReplaySrc) (ecc : Ecc) (hs : s.mirror.words.wf 0#32 = true) :
    (State.replayParcel s p src ecc).mirror.words.wf 0#32 = true := by
  unfold State.replayParcel
  try dsimp only
  (repeat' split) <;> simp (maxDischargeDepth := 60) [hs]

@[simp] theorem replayUnits_keeps (s : State) (p : Nat) (src : ReplaySrc) (fmt : Nat) (ecc : Ecc) :
    (State.replayUnits s p src fmt ecc).pending = s.pending ∧ (State.replayUnits s p src fmt ecc).sdram = s.sdram ∧ (State.replayUnits s p src fmt ecc).fuse = s.fuse ∧ (State.replayUnits s p src fmt ecc).sem = s.sem ∧ (State.replayUnits s p src fmt ecc).dom = s.dom ∧ (State.replayUnits s p src fmt ecc).time = s.time ∧ (State.replayUnits s p src fmt ecc).kp = s.kp ∧ (State.replayUnits s p src fmt ecc).act = s.act := by
  unfold State.replayUnits
  simp

@[simp] theorem replayUnits_rising (s : State) (p : Nat) (src : ReplaySrc) (fmt : Nat) (ecc : Ecc) (hs : s.regs.rising = true) :
    (State.replayUnits s p src fmt ecc).regs.rising = true := by
  unfold State.replayUnits
  simp (maxDischargeDepth := 60) [hs]

@[simp] theorem replayUnits_mirrorWf (s : State) (p : Nat) (src : ReplaySrc) (fmt : Nat) (ecc : Ecc) (hs : s.mirror.words.wf 0#32 = true) :
    (State.replayUnits s p src fmt ecc).mirror.words.wf 0#32 = true := by
  unfold State.replayUnits
  simp (maxDischargeDepth := 60) [hs]

@[simp] theorem replayRead_keeps (s : State) (p : Nat) (ecc : Ecc) :
    (State.replayRead s p ecc).pending = s.pending ∧ (State.replayRead s p ecc).sdram = s.sdram ∧ (State.replayRead s p ecc).fuse = s.fuse ∧ (State.replayRead s p ecc).sem = s.sem ∧ (State.replayRead s p ecc).dom = s.dom ∧ (State.replayRead s p ecc).time = s.time ∧ (State.replayRead s p ecc).kp = s.kp ∧ (State.replayRead s p ecc).act = s.act := by
  unfold State.replayRead
  simp

@[simp] theorem replayRead_rising (s : State) (p : Nat) (ecc : Ecc) (hs : s.regs.rising = true) :
    (State.replayRead s p ecc).regs.rising = true := by
  unfold State.replayRead
  simp (maxDischargeDepth := 60) [hs]

@[simp] theorem replayRead_mirrorWf (s : State) (p : Nat) (ecc : Ecc) (hs : s.mirror.words.wf 0#32 = true) :
    (State.replayRead s p ecc).mirror.words.wf 0#32 = true := by
  unfold State.replayRead
  simp (maxDischargeDepth := 60) [hs]

@[simp] theorem exitShow_keeps (s : State) (p : Nat) :
    (State.exitShow s p).pending = s.pending ∧ (State.exitShow s p).sdram = s.sdram ∧ (State.exitShow s p).fuse = s.fuse ∧ (State.exitShow s p).sem = s.sem ∧ (State.exitShow s p).dom = s.dom ∧ (State.exitShow s p).time = s.time ∧ (State.exitShow s p).kp = s.kp ∧ (State.exitShow s p).regs = s.regs ∧ (State.exitShow s p).act = s.act ∧ (State.exitShow s p).mirror = s.mirror := by
  unfold State.exitShow
  try dsimp only
  (repeat' split) <;> simp
end Sys2Proof.Machine.State
end

