-- ==== Sys2Proof/Laws/KeepMirror.lean ====
section
/-! SUPPORT. What the operations of Machine/Mirror.lean leave alone: memory, fuses, semaphores, domains, time, the queue. -/

namespace Sys2Proof.Machine.State

@[simp] theorem mpEdge_keeps (s : State) (e : MpEdge) (drive : Option Word) :
    (State.mpEdge s e drive).pending = s.pending ∧ (State.mpEdge s e drive).sdram = s.sdram ∧ (State.mpEdge s e drive).fuse = s.fuse ∧ (State.mpEdge s e drive).sem = s.sem ∧ (State.mpEdge s e drive).dom = s.dom ∧ (State.mpEdge s e drive).time = s.time ∧ (State.mpEdge s e drive).kp = s.kp ∧ (State.mpEdge s e drive).regs = s.regs ∧ (State.mpEdge s e drive).act = s.act := by
  unfold State.mpEdge
  simp

@[simp] theorem mpEdge_mirrorWf (s : State) (e : MpEdge) (drive : Option Word) (hs : s.mirror.words.wf 0#32 = true) :
    (State.mpEdge s e drive).mirror.words.wf 0#32 = true := by
  unfold State.mpEdge
  simp (maxDischargeDepth := 60) [hs]

@[simp] theorem mpRefuse_keeps (s : State) :
    (State.mpRefuse s).pending = s.pending ∧ (State.mpRefuse s).sdram = s.sdram ∧ (State.mpRefuse s).fuse = s.fuse ∧ (State.mpRefuse s).sem = s.sem ∧ (State.mpRefuse s).dom = s.dom ∧ (State.mpRefuse s).time = s.time ∧ (State.mpRefuse s).kp = s.kp ∧ (State.mpRefuse s).act = s.act ∧ (State.mpRefuse s).mirror = s.mirror := by
  unfold State.mpRefuse
  simp

@[simp] theorem mpRefuse_rising (s : State) (hs : s.regs.rising = true) :
    (State.mpRefuse s).regs.rising = true := by
  unfold State.mpRefuse
  simp (maxDischargeDepth := 60) [hs]

@[simp] theorem condsArm_keeps (s : State) (on : Bool) (t : Stamp) (y0 : List Nat) :
    (State.condsArm s on t y0).pending = s.pending ∧ (State.condsArm s on t y0).sdram = s.sdram ∧ (State.condsArm s on t y0).fuse = s.fuse ∧ (State.condsArm s on t y0).sem = s.sem ∧ (State.condsArm s on t y0).dom = s.dom ∧ (State.condsArm s on t y0).time = s.time ∧ (State.condsArm s on t y0).kp = s.kp ∧ (State.condsArm s on t y0).act = s.act ∧ (State.condsArm s on t y0).mirror = s.mirror := by
  fun_induction State.condsArm s on t y0; all_goals first
      | (simp_all +zetaDelta; done)
      | (simp only [*]; (try simp +zetaDelta only []); (repeat' split) <;> simp_all; done)

@[simp] theorem condsArm_rising (s : State) (on : Bool) (t : Stamp) (y0 : List Nat) (hs : s.regs.rising = true) :
    (State.condsArm s on t y0).regs.rising = true := by
  fun_induction State.condsArm s on t y0 <;> (simp_all (maxDischargeDepth := 60) +zetaDelta; done)

@[simp] theorem fcArm_keeps (s : State) (on : Bool) (cs : List Nat) :
    (State.fcArm s on cs).pending = s.pending ∧ (State.fcArm s on cs).sdram = s.sdram ∧ (State.fcArm s on cs).fuse = s.fuse ∧ (State.fcArm s on cs).sem = s.sem ∧ (State.fcArm s on cs).dom = s.dom ∧ (State.fcArm s on cs).time = s.time ∧ (State.fcArm s on cs).kp = s.kp ∧ (State.fcArm s on cs).act = s.act ∧ (State.fcArm s on cs).mirror = s.mirror := by
  unfold State.fcArm
  simp

@[simp] theorem fcArm_rising (s : State) (on : Bool) (cs : List Nat) (hs : s.regs.rising = true) :
    (State.fcArm s on cs).regs.rising = true := by
  unfold State.fcArm
  (repeat' split) <;> simp_all (maxDischargeDepth := 60)

@[simp] theorem fcdFast_keeps (s : State) (v : Nat) (y0 : List Nat) :
    (State.fcdFast s v y0).pending = s.pending ∧ (State.fcdFast s v y0).sdram = s.sdram ∧ (State.fcdFast s v y0).fuse = s.fuse ∧ (State.fcdFast s v y0).sem = s.sem ∧ (State.fcdFast s v y0).dom = s.dom ∧ (State.fcdFast s v y0).time = s.time ∧ (State.fcdFast s v y0).kp = s.kp ∧ (State.fcdFast s v y0).act = s.act ∧ (State.fcdFast s v y0).mirror = s.mirror := by
  fun_induction State.fcdFast s v y0; all_goals first
      | (simp_all +zetaDelta; done)
      | (simp only [*]; (try simp +zetaDelta only []); (repeat' split) <;> simp_all; done)

@[simp] theorem fcdFast_rising (s : State) (v : Nat) (y0 : List Nat) (hs : s.regs.rising = true) :
    (State.fcdFast s v y0).regs.rising = true := by
  fun_induction State.fcdFast s v y0 <;> (simp_all (maxDischargeDepth := 60) +zetaDelta; done)

@[simp] theorem marksSet_keeps (s : State) (t : Stamp) (code : Nat) (y0 : List Nat) :
    (State.marksSet s t code y0).pending = s.pending ∧ (State.marksSet s t code y0).sdram = s.sdram ∧ (State.marksSet s t code y0).fuse = s.fuse ∧ (State.marksSet s t code y0).sem = s.sem ∧ (State.marksSet s t code y0).dom = s.dom ∧ (State.marksSet s t code y0).time = s.time ∧ (State.marksSet s t code y0).kp = s.kp ∧ (State.marksSet s t code y0).regs = s.regs ∧ (State.marksSet s t code y0).act = s.act ∧ (State.marksSet s t code y0).mirror = s.mirror := by
  fun_induction State.marksSet s t code y0; all_goals first
      | (simp_all +zetaDelta; done)
      | (simp only [*]; (try simp +zetaDelta only []); (repeat' split) <;> simp_all; done)

@[simp] theorem mpWrite_keeps (s : State) (a : Nat) (v : Nat) :
    (State.mpWrite s a v).pending = s.pending ∧ (State.mpWrite s a v).sdram = s.sdram ∧ (State.mpWrite s a v).fuse = s.fuse ∧ (State.mpWrite s a v).sem = s.sem ∧ (State.mpWrite s a v).dom = s.dom ∧ (State.mpWrite s a v).time = s.time ∧ (State.mpWrite s a v).kp = s.kp ∧ (State.mpWrite s a v).act = s.act := by
  unfold State.mpWrite
  try dsimp only
  (repeat' split) <;> simp

@[simp] theorem mpWrite_rising (s : State) (a : Nat) (v : Nat) (hs : s.regs.rising = true) :
    (State.mpWrite s a v).regs.rising = true := by
  unfold State.mpWrite
  try dsimp only
  (repeat' split) <;> simp (maxDischargeDepth := 60) [hs]

@[simp] theorem mpWrite_mirrorWf (s : State) (a : Nat) (v : Nat) (hs : s.mirror.words.wf 0#32 = true) :
    (State.mpWrite s a v).mirror.words.wf 0#32 = true := by
  unfold State.mpWrite
  try dsimp only
  (repeat' split) <;> simp (maxDischargeDepth := 60) [hs]

@[simp] theorem mpCtlWrite_keeps (s : State) (v : Nat) :
    (State.mpCtlWrite s v).pending = s.pending ∧ (State.mpCtlWrite s v).sdram = s.sdram ∧ (State.mpCtlWrite s v).fuse = s.fuse ∧ (State.mpCtlWrite s v).sem = s.sem ∧ (State.mpCtlWrite s v).dom = s.dom ∧ (State.mpCtlWrite s v).time = s.time ∧ (State.mpCtlWrite s v).kp = s.kp ∧ (State.mpCtlWrite s v).act = s.act ∧ (State.mpCtlWrite s v).mirror = s.mirror := by
  unfold State.mpCtlWrite
  simp

@[simp] theorem mpCtlWrite_rising (s : State) (v : Nat) (hs : s.regs.rising = true) :
    (State.mpCtlWrite s v).regs.rising = true := by
  unfold State.mpCtlWrite
  simp (maxDischargeDepth := 60) [hs]
end Sys2Proof.Machine.State
end

