-- ==== Sys2Proof/Laws/KeepBar2.lean ====
section
/-! SUPPORT. What the operations of Machine/Bar2.lean leave alone: memory, fuses, semaphores, domains, time, the queue. -/

namespace Sys2Proof.Machine.State

@[simp] theorem bar2Meet_keeps (s : State) (y0 : List Nat) :
    (State.bar2Meet s y0).pending = s.pending ∧ (State.bar2Meet s y0).sdram = s.sdram ∧ (State.bar2Meet s y0).fuse = s.fuse ∧ (State.bar2Meet s y0).sem = s.sem ∧ (State.bar2Meet s y0).dom = s.dom ∧ (State.bar2Meet s y0).time = s.time ∧ (State.bar2Meet s y0).kp = s.kp ∧ (State.bar2Meet s y0).act = s.act ∧ (State.bar2Meet s y0).mirror = s.mirror := by
  fun_induction State.bar2Meet s y0; all_goals first
      | (simp_all +zetaDelta; done)
      | (simp only [*]; (try simp +zetaDelta only []); (repeat' split) <;> simp_all; done)

@[simp] theorem bar2Meet_rising (s : State) (y0 : List Nat) (hs : s.regs.rising = true) :
    (State.bar2Meet s y0).regs.rising = true := by
  fun_induction State.bar2Meet s y0 <;> (simp_all (maxDischargeDepth := 60) +zetaDelta; done)

@[simp] theorem bar2Write_keeps (s : State) (p : Port) (off : Nat) (v : Word) :
    (State.bar2Write s p off v).pending = s.pending ∧ (State.bar2Write s p off v).sdram = s.sdram ∧ (State.bar2Write s p off v).fuse = s.fuse ∧ (State.bar2Write s p off v).sem = s.sem ∧ (State.bar2Write s p off v).dom = s.dom ∧ (State.bar2Write s p off v).time = s.time ∧ (State.bar2Write s p off v).kp = s.kp ∧ (State.bar2Write s p off v).act = s.act ∧ (State.bar2Write s p off v).mirror = s.mirror := by
  unfold State.bar2Write
  simp

@[simp] theorem bar2Write_rising (s : State) (p : Port) (off : Nat) (v : Word) (hs : s.regs.rising = true) :
    (State.bar2Write s p off v).regs.rising = true := by
  unfold State.bar2Write
  simp (maxDischargeDepth := 60) +contextual [hs]

@[simp] theorem kpPlainWrite_keeps (s : State) (n : Nat) (off : Nat) (v : Nat) :
    (State.kpPlainWrite s n off v).pending = s.pending ∧ (State.kpPlainWrite s n off v).sdram = s.sdram ∧ (State.kpPlainWrite s n off v).fuse = s.fuse ∧ (State.kpPlainWrite s n off v).sem = s.sem ∧ (State.kpPlainWrite s n off v).dom = s.dom ∧ (State.kpPlainWrite s n off v).time = s.time ∧ (State.kpPlainWrite s n off v).kp = s.kp ∧ (State.kpPlainWrite s n off v).act = s.act ∧ (State.kpPlainWrite s n off v).mirror = s.mirror := by
  unfold State.kpPlainWrite
  simp

@[simp] theorem kpPlainWrite_rising (s : State) (n : Nat) (off : Nat) (v : Nat) (hs : s.regs.rising = true) :
    (State.kpPlainWrite s n off v).regs.rising = true := by
  unfold State.kpPlainWrite
  simp (maxDischargeDepth := 60) +contextual [hs]

@[simp] theorem kpSpaceWrite_keeps (s : State) (p : Port) (off : Nat) (v : Word) :
    (State.kpSpaceWrite s p off v).pending = s.pending ∧ (State.kpSpaceWrite s p off v).sdram = s.sdram ∧ (State.kpSpaceWrite s p off v).fuse = s.fuse ∧ (State.kpSpaceWrite s p off v).sem = s.sem ∧ (State.kpSpaceWrite s p off v).dom = s.dom ∧ (State.kpSpaceWrite s p off v).time = s.time ∧ (State.kpSpaceWrite s p off v).act = s.act ∧ (State.kpSpaceWrite s p off v).mirror = s.mirror := by
  unfold State.kpSpaceWrite
  try dsimp only
  (repeat' split) <;> simp

@[simp] theorem kpSpaceWrite_rising (s : State) (p : Port) (off : Nat) (v : Word) (hs : s.regs.rising = true) :
    (State.kpSpaceWrite s p off v).regs.rising = true := by
  unfold State.kpSpaceWrite
  try dsimp only
  (repeat' split) <;> simp (maxDischargeDepth := 60) +contextual [hs]
end Sys2Proof.Machine.State
end

