-- ==== Sys2Proof/Laws/KeepImage.lean ====
section
/-! SUPPORT. What the operations of Machine/Image.lean leave alone: memory, fuses, semaphores, domains, time, the queue. -/

namespace Sys2Proof.Machine.State

@[simp] theorem clearImageWord_keeps (s : State) (e : Nat × Word) :
    (State.clearImageWord s e).pending = s.pending ∧ (State.clearImageWord s e).sdram = s.sdram ∧ (State.clearImageWord s e).fuse = s.fuse ∧ (State.clearImageWord s e).sem = s.sem ∧ (State.clearImageWord s e).dom = s.dom ∧ (State.clearImageWord s e).time = s.time ∧ (State.clearImageWord s e).kp = s.kp ∧ (State.clearImageWord s e).act = s.act ∧ (State.clearImageWord s e).mirror = s.mirror := by
  unfold State.clearImageWord
  split <;> simp

@[simp] theorem clearImageWord_rising (s : State) (e : Nat × Word) (hs : s.regs.rising = true) :
    (State.clearImageWord s e).regs.rising = true := by
  unfold State.clearImageWord
  try dsimp only
  (repeat' split) <;> simp (maxDischargeDepth := 60) +contextual [hs]

@[simp] theorem clearImage_keeps (s : State) (p : Nat) :
    (State.clearImage s p).pending = s.pending ∧ (State.clearImage s p).sdram = s.sdram ∧ (State.clearImage s p).fuse = s.fuse ∧ (State.clearImage s p).sem = s.sem ∧ (State.clearImage s p).dom = s.dom ∧ (State.clearImage s p).time = s.time ∧ (State.clearImage s p).kp = s.kp ∧ (State.clearImage s p).act = s.act ∧ (State.clearImage s p).mirror = s.mirror := by
  unfold State.clearImage
  simp

@[simp] theorem clearImage_rising (s : State) (p : Nat) (hs : s.regs.rising = true) :
    (State.clearImage s p).regs.rising = true := by
  unfold State.clearImage
  simp (maxDischargeDepth := 60) +contextual [hs]

@[simp] theorem regInitSeen_keeps (s : State) (off v : Nat) :
    (State.regInitSeen s off v).pending = s.pending ∧ (State.regInitSeen s off v).sdram = s.sdram ∧ (State.regInitSeen s off v).fuse = s.fuse ∧ (State.regInitSeen s off v).sem = s.sem ∧ (State.regInitSeen s off v).dom = s.dom ∧ (State.regInitSeen s off v).time = s.time ∧ (State.regInitSeen s off v).kp = s.kp ∧ (State.regInitSeen s off v).act = s.act ∧ (State.regInitSeen s off v).mirror = s.mirror := by
  unfold State.regInitSeen
  split <;> simp

@[simp] theorem regInitSeen_rising (s : State) (off v : Nat) (hs : s.regs.rising = true) :
    (State.regInitSeen s off v).regs.rising = true := by
  unfold State.regInitSeen
  try dsimp only
  (repeat' split) <;> simp (maxDischargeDepth := 60) +contextual [hs]

@[simp] theorem stagedSettings_keeps (s : State) (g : Staged) :
    (State.stagedSettings s g).pending = s.pending ∧ (State.stagedSettings s g).sdram = s.sdram ∧ (State.stagedSettings s g).fuse = s.fuse ∧ (State.stagedSettings s g).sem = s.sem ∧ (State.stagedSettings s g).dom = s.dom ∧ (State.stagedSettings s g).time = s.time ∧ (State.stagedSettings s g).kp = s.kp ∧ (State.stagedSettings s g).act = s.act ∧ (State.stagedSettings s g).mirror = s.mirror := by
  unfold State.stagedSettings
  simp

@[simp] theorem stagedSettings_rising (s : State) (g : Staged) (hs : s.regs.rising = true) :
    (State.stagedSettings s g).regs.rising = true := by
  unfold State.stagedSettings
  simp (maxDischargeDepth := 60) +contextual [hs]

@[simp] theorem admitShow_keeps (s : State) (g : Staged) (stale : Bool) (code : Nat) (p : Nat) :
    (State.admitShow s g stale code p).pending = s.pending ∧ (State.admitShow s g stale code p).sdram = s.sdram ∧ (State.admitShow s g stale code p).fuse = s.fuse ∧ (State.admitShow s g stale code p).sem = s.sem ∧ (State.admitShow s g stale code p).dom = s.dom ∧ (State.admitShow s g stale code p).time = s.time ∧ (State.admitShow s g stale code p).kp = s.kp ∧ (State.admitShow s g stale code p).act = s.act ∧ (State.admitShow s g stale code p).mirror = s.mirror := by
  unfold State.admitShow
  simp

@[simp] theorem admitShow_rising (s : State) (g : Staged) (stale : Bool) (code : Nat) (p : Nat) (hs : s.regs.rising = true) :
    (State.admitShow s g stale code p).regs.rising = true := by
  unfold State.admitShow
  simp (maxDischargeDepth := 60) [hs]

@[simp] theorem admitShowAll_keeps (s : State) (g : Staged) (stale : Bool) (y0 : List (Nat × Nat)) :
    (State.admitShowAll s g stale y0).pending = s.pending ∧ (State.admitShowAll s g stale y0).sdram = s.sdram ∧ (State.admitShowAll s g stale y0).fuse = s.fuse ∧ (State.admitShowAll s g stale y0).sem = s.sem ∧ (State.admitShowAll s g stale y0).dom = s.dom ∧ (State.admitShowAll s g stale y0).time = s.time ∧ (State.admitShowAll s g stale y0).kp = s.kp ∧ (State.admitShowAll s g stale y0).act = s.act ∧ (State.admitShowAll s g stale y0).mirror = s.mirror := by
  fun_induction State.admitShowAll s g stale y0; all_goals first
      | (simp_all +zetaDelta; done)
      | (simp only [*]; (try simp +zetaDelta only []); (repeat' split) <;> simp_all; done)

@[simp] theorem admitShowAll_rising (s : State) (g : Staged) (stale : Bool) (y0 : List (Nat × Nat)) (hs : s.regs.rising = true) :
    (State.admitShowAll s g stale y0).regs.rising = true := by
  fun_induction State.admitShowAll s g stale y0 <;> (simp_all (maxDischargeDepth := 60) +zetaDelta; done)

@[simp] theorem loadRest_keeps (s : State) :
    (State.loadRest s).pending = s.pending ∧ (State.loadRest s).sdram = s.sdram ∧ (State.loadRest s).fuse = s.fuse ∧ (State.loadRest s).sem = s.sem ∧ (State.loadRest s).dom = s.dom ∧ (State.loadRest s).time = s.time ∧ (State.loadRest s).kp = s.kp ∧ (State.loadRest s).act = s.act ∧ (State.loadRest s).mirror = s.mirror := by
  unfold State.loadRest
  simp

@[simp] theorem loadRest_rising (s : State) (hs : s.regs.rising = true) :
    (State.loadRest s).regs.rising = true := by
  unfold State.loadRest
  simp (maxDischargeDepth := 60) [hs]

@[simp] theorem loadLatch_keeps (s : State) (q : LoadReq) (b : List Byte) (second : Bool) :
    (State.loadLatch s q b second).pending = s.pending ∧ (State.loadLatch s q b second).sdram = s.sdram ∧ (State.loadLatch s q b second).fuse = s.fuse ∧ (State.loadLatch s q b second).sem = s.sem ∧ (State.loadLatch s q b second).dom = s.dom ∧ (State.loadLatch s q b second).time = s.time ∧ (State.loadLatch s q b second).kp = s.kp ∧ (State.loadLatch s q b second).act = s.act ∧ (State.loadLatch s q b second).mirror = s.mirror := by
  unfold State.loadLatch
  simp

@[simp] theorem loadLatch_rising (s : State) (q : LoadReq) (b : List Byte) (second : Bool) (hs : s.regs.rising = true) :
    (State.loadLatch s q b second).regs.rising = true := by
  unfold State.loadLatch
  simp (maxDischargeDepth := 60) [hs]

@[simp] theorem bootFailed_keeps (s : State) :
    (State.bootFailed s).pending = s.pending ∧ (State.bootFailed s).sdram = s.sdram ∧ (State.bootFailed s).fuse = s.fuse ∧ (State.bootFailed s).dom = s.dom ∧ (State.bootFailed s).time = s.time ∧ (State.bootFailed s).kp = s.kp ∧ (State.bootFailed s).act = s.act ∧ (State.bootFailed s).mirror = s.mirror := by
  unfold State.bootFailed
  simp

@[simp] theorem bootFailed_rising (s : State) (hs : s.regs.rising = true) :
    (State.bootFailed s).regs.rising = true := by
  unfold State.bootFailed
  simp (maxDischargeDepth := 60) [hs]

@[simp] theorem bootFailed_tieWf (s : State) (hs : s.sem.tieLoser.wf none = true) :
    (State.bootFailed s).sem.tieLoser.wf none = true := by
  unfold State.bootFailed
  simp (maxDischargeDepth := 60) [hs]

@[simp] theorem bootFailed_engineSems (s : State) (hs : engineSems s.sem) :
    engineSems (State.bootFailed s).sem := by
  unfold State.bootFailed
  simp (maxDischargeDepth := 60) [hs]

@[simp] theorem loadEnd_keeps (s : State) (code : Nat) :
    (State.loadEnd s code).pending = s.pending ∧ (State.loadEnd s code).sdram = s.sdram ∧ (State.loadEnd s code).fuse = s.fuse ∧ (State.loadEnd s code).sem = s.sem ∧ (State.loadEnd s code).dom = s.dom ∧ (State.loadEnd s code).time = s.time ∧ (State.loadEnd s code).kp = s.kp ∧ (State.loadEnd s code).act = s.act ∧ (State.loadEnd s code).mirror = s.mirror := by
  unfold State.loadEnd
  simp

@[simp] theorem loadEnd_rising (s : State) (code : Nat) (hs : s.regs.rising = true) :
    (State.loadEnd s code).regs.rising = true := by
  unfold State.loadEnd
  simp (maxDischargeDepth := 60) [hs]

@[simp] theorem bootNext_keeps (s : State) (q : LoadReq) :
    (State.bootNext s q).pending = s.pending ∧ (State.bootNext s q).sdram = s.sdram ∧ (State.bootNext s q).fuse = s.fuse ∧ (State.bootNext s q).dom = s.dom ∧ (State.bootNext s q).time = s.time ∧ (State.bootNext s q).kp = s.kp ∧ (State.bootNext s q).act = s.act ∧ (State.bootNext s q).mirror = s.mirror := by
  unfold State.bootNext
  try dsimp only
  (repeat' split) <;> simp

@[simp] theorem bootNext_rising (s : State) (q : LoadReq) (hs : s.regs.rising = true) :
    (State.bootNext s q).regs.rising = true := by
  unfold State.bootNext
  try dsimp only
  (repeat' split) <;> simp (maxDischargeDepth := 60) [hs]

@[simp] theorem bootNext_tieWf (s : State) (q : LoadReq) (hs : s.sem.tieLoser.wf none = true) :
    (State.bootNext s q).sem.tieLoser.wf none = true := by
  unfold State.bootNext
  try dsimp only
  (repeat' split) <;> simp (maxDischargeDepth := 60) [hs]

@[simp] theorem bootNext_engineSems (s : State) (q : LoadReq) (hs : engineSems s.sem) :
    engineSems (State.bootNext s q).sem := by
  unfold State.bootNext
  try dsimp only
  (repeat' split) <;> simp (maxDischargeDepth := 60) [hs]

@[simp] theorem loadRefuse_keeps (s : State) (code : Nat) :
    (State.loadRefuse s code).pending = s.pending ∧ (State.loadRefuse s code).sdram = s.sdram ∧ (State.loadRefuse s code).fuse = s.fuse ∧ (State.loadRefuse s code).dom = s.dom ∧ (State.loadRefuse s code).time = s.time ∧ (State.loadRefuse s code).kp = s.kp ∧ (State.loadRefuse s code).act = s.act ∧ (State.loadRefuse s code).mirror = s.mirror := by
  unfold State.loadRefuse
  try dsimp only
  (repeat' split) <;> simp

@[simp] theorem loadRefuse_rising (s : State) (code : Nat) (hs : s.regs.rising = true) :
    (State.loadRefuse s code).regs.rising = true := by
  unfold State.loadRefuse
  try dsimp only
  (repeat' split) <;> simp (maxDischargeDepth := 60) [hs]

@[simp] theorem loadRefuse_tieWf (s : State) (code : Nat) (hs : s.sem.tieLoser.wf none = true) :
    (State.loadRefuse s code).sem.tieLoser.wf none = true := by
  unfold State.loadRefuse
  try dsimp only
  (repeat' split) <;> simp (maxDischargeDepth := 60) [hs]

@[simp] theorem loadRefuse_engineSems (s : State) (code : Nat) (hs : engineSems s.sem) :
    engineSems (State.loadRefuse s code).sem := by
  unfold State.loadRefuse
  try dsimp only
  (repeat' split) <;> simp (maxDischargeDepth := 60) [hs]

@[simp] theorem loadStart_keeps (s : State) (q : LoadReq) (head : Option (List Byte)) :
    (State.loadStart s q head).pending = s.pending ∧ (State.loadStart s q head).sdram = s.sdram ∧ (State.loadStart s q head).fuse = s.fuse ∧ (State.loadStart s q head).dom = s.dom ∧ (State.loadStart s q head).time = s.time ∧ (State.loadStart s q head).kp = s.kp ∧ (State.loadStart s q head).act = s.act ∧ (State.loadStart s q head).mirror = s.mirror := by
  unfold State.loadStart
  try dsimp only
  (repeat' split) <;> simp

@[simp] theorem loadStart_rising (s : State) (q : LoadReq) (head : Option (List Byte)) (hs : s.regs.rising = true) :
    (State.loadStart s q head).regs.rising = true := by
  unfold State.loadStart
  try dsimp only
  (repeat' split) <;> simp (maxDischargeDepth := 60) [hs]

@[simp] theorem loadStart_tieWf (s : State) (q : LoadReq) (head : Option (List Byte)) (hs : s.sem.tieLoser.wf none = true) :
    (State.loadStart s q head).sem.tieLoser.wf none = true := by
  unfold State.loadStart
  try dsimp only
  (repeat' split) <;> simp (maxDischargeDepth := 60) [hs]

@[simp] theorem loadStart_engineSems (s : State) (q : LoadReq) (head : Option (List Byte)) (hs : engineSems s.sem) :
    engineSems (State.loadStart s q head).sem := by
  unfold State.loadStart
  try dsimp only
  (repeat' split) <;> simp (maxDischargeDepth := 60) [hs]

@[simp] theorem bootLoad_keeps (s : State) :
    (State.bootLoad s).pending = s.pending ∧ (State.bootLoad s).sdram = s.sdram ∧ (State.bootLoad s).fuse = s.fuse ∧ (State.bootLoad s).dom = s.dom ∧ (State.bootLoad s).time = s.time ∧ (State.bootLoad s).kp = s.kp ∧ (State.bootLoad s).act = s.act := by
  unfold State.bootLoad
  simp

@[simp] theorem bootLoad_rising (s : State) (hs : s.regs.rising = true) :
    (State.bootLoad s).regs.rising = true := by
  unfold State.bootLoad
  simp (maxDischargeDepth := 60) [hs]

@[simp] theorem bootLoad_tieWf (s : State) (hs : s.sem.tieLoser.wf none = true) :
    (State.bootLoad s).sem.tieLoser.wf none = true := by
  unfold State.bootLoad
  simp (maxDischargeDepth := 60) [hs]

@[simp] theorem bootLoad_engineSems (s : State) (hs : engineSems s.sem) :
    engineSems (State.bootLoad s).sem := by
  unfold State.bootLoad
  simp (maxDischargeDepth := 60) [hs]

@[simp] theorem bootLoad_mirrorWf (s : State) (hs : s.mirror.words.wf 0#32 = true) :
    (State.bootLoad s).mirror.words.wf 0#32 = true := by
  unfold State.bootLoad
  simp (maxDischargeDepth := 60) [hs]

@[simp] theorem bootAsk_keeps (s : State) :
    (State.bootAsk s).pending = s.pending ∧ (State.bootAsk s).sdram = s.sdram ∧ (State.bootAsk s).fuse = s.fuse ∧ (State.bootAsk s).dom = s.dom ∧ (State.bootAsk s).time = s.time ∧ (State.bootAsk s).kp = s.kp ∧ (State.bootAsk s).act = s.act := by
  unfold State.bootAsk
  simp

@[simp] theorem bootAsk_tieWf (s : State) (hs : s.sem.tieLoser.wf none = true) :
    (State.bootAsk s).sem.tieLoser.wf none = true := by
  unfold State.bootAsk
  simp (maxDischargeDepth := 60) +contextual [hs]

@[simp] theorem bootAsk_engineSems (s : State) (hs : engineSems s.sem) :
    engineSems (State.bootAsk s).sem := by
  unfold State.bootAsk
  simp (maxDischargeDepth := 60) +contextual [hs]

@[simp] theorem bootAsk_rising (s : State) (hs : s.regs.rising = true) :
    (State.bootAsk s).regs.rising = true := by
  unfold State.bootAsk
  simp (maxDischargeDepth := 60) +contextual [hs]

@[simp] theorem bootAsk_mirrorWf (s : State) (hs : s.mirror.words.wf 0#32 = true) :
    (State.bootAsk s).mirror.words.wf 0#32 = true := by
  unfold State.bootAsk
  simp (maxDischargeDepth := 60) +contextual [hs]

@[simp] theorem firstSweep_keeps (s : State) :
    (State.firstSweep s).pending = s.pending ∧ (State.firstSweep s).sdram = s.sdram ∧ (State.firstSweep s).fuse = s.fuse ∧ (State.firstSweep s).dom = s.dom ∧ (State.firstSweep s).time = s.time ∧ (State.firstSweep s).kp = s.kp ∧ (State.firstSweep s).act = s.act := by
  unfold State.firstSweep
  simp

@[simp] theorem firstSweep_rising (s : State) (hs : s.regs.rising = true) :
    (State.firstSweep s).regs.rising = true := by
  unfold State.firstSweep
  simp (maxDischargeDepth := 60) [hs]

@[simp] theorem firstSweep_tieWf (s : State) (hs : s.sem.tieLoser.wf none = true) :
    (State.firstSweep s).sem.tieLoser.wf none = true := by
  unfold State.firstSweep
  simp (maxDischargeDepth := 60) [hs]

@[simp] theorem firstSweep_engineSems (s : State) (hs : engineSems s.sem) :
    engineSems (State.firstSweep s).sem := by
  unfold State.firstSweep
  simp (maxDischargeDepth := 60) [hs]

@[simp] theorem firstSweep_mirrorWf (s : State) (hs : s.mirror.words.wf 0#32 = true) :
    (State.firstSweep s).mirror.words.wf 0#32 = true := by
  unfold State.firstSweep
  simp (maxDischargeDepth := 60) [hs]

@[simp] theorem unloadStart_keeps (s : State) (q : LoadReq) :
    (State.unloadStart s q).pending = s.pending ∧ (State.unloadStart s q).sdram = s.sdram ∧ (State.unloadStart s q).fuse = s.fuse ∧ (State.unloadStart s q).dom = s.dom ∧ (State.unloadStart s q).time = s.time ∧ (State.unloadStart s q).kp = s.kp ∧ (State.unloadStart s q).act = s.act ∧ (State.unloadStart s q).mirror = s.mirror := by
  unfold State.unloadStart
  simp

@[simp] theorem unloadStart_rising (s : State) (q : LoadReq) (hs : s.regs.rising = true) :
    (State.unloadStart s q).regs.rising = true := by
  unfold State.unloadStart
  simp (maxDischargeDepth := 60) [hs]

@[simp] theorem unloadStart_tieWf (s : State) (q : LoadReq) (hs : s.sem.tieLoser.wf none = true) :
    (State.unloadStart s q).sem.tieLoser.wf none = true := by
  unfold State.unloadStart
  simp (maxDischargeDepth := 60) [hs]

@[simp] theorem unloadStart_engineSems (s : State) (q : LoadReq) (hs : engineSems s.sem) :
    engineSems (State.unloadStart s q).sem := by
  unfold State.unloadStart
  simp (maxDischargeDepth := 60) [hs]

@[simp] theorem loadAsk_keeps (s : State) (q : LoadReq) (head : Option (List Byte)) :
    (State.loadAsk s q head).pending = s.pending ∧ (State.loadAsk s q head).sdram = s.sdram ∧ (State.loadAsk s q head).fuse = s.fuse ∧ (State.loadAsk s q head).dom = s.dom ∧ (State.loadAsk s q head).time = s.time ∧ (State.loadAsk s q head).kp = s.kp ∧ (State.loadAsk s q head).act = s.act ∧ (State.loadAsk s q head).mirror = s.mirror := by
  unfold State.loadAsk
  simp

@[simp] theorem loadAsk_rising (s : State) (q : LoadReq) (head : Option (List Byte)) (hs : s.regs.rising = true) :
    (State.loadAsk s q head).regs.rising = true := by
  unfold State.loadAsk
  simp (maxDischargeDepth := 60) [hs]

@[simp] theorem loadAsk_tieWf (s : State) (q : LoadReq) (head : Option (List Byte)) (hs : s.sem.tieLoser.wf none = true) :
    (State.loadAsk s q head).sem.tieLoser.wf none = true := by
  unfold State.loadAsk
  simp (maxDischargeDepth := 60) [hs]

@[simp] theorem loadAsk_engineSems (s : State) (q : LoadReq) (head : Option (List Byte)) (hs : engineSems s.sem) :
    engineSems (State.loadAsk s q head).sem := by
  unfold State.loadAsk
  simp (maxDischargeDepth := 60) [hs]

@[simp] theorem loadPortLost_keeps (s : State) (p : Port) :
    (State.loadPortLost s p).pending = s.pending ∧ (State.loadPortLost s p).sdram = s.sdram ∧ (State.loadPortLost s p).fuse = s.fuse ∧ (State.loadPortLost s p).dom = s.dom ∧ (State.loadPortLost s p).time = s.time ∧ (State.loadPortLost s p).kp = s.kp ∧ (State.loadPortLost s p).act = s.act ∧ (State.loadPortLost s p).mirror = s.mirror := by
  unfold State.loadPortLost
  simp

@[simp] theorem loadPortLost_rising (s : State) (p : Port) (hs : s.regs.rising = true) :
    (State.loadPortLost s p).regs.rising = true := by
  unfold State.loadPortLost
  simp (maxDischargeDepth := 60) [hs]

@[simp] theorem loadPortLost_tieWf (s : State) (p : Port) (hs : s.sem.tieLoser.wf none = true) :
    (State.loadPortLost s p).sem.tieLoser.wf none = true := by
  unfold State.loadPortLost
  simp (maxDischargeDepth := 60) [hs]

@[simp] theorem loadPortLost_engineSems (s : State) (p : Port) (hs : engineSems s.sem) :
    engineSems (State.loadPortLost s p).sem := by
  unfold State.loadPortLost
  simp (maxDischargeDepth := 60) [hs]

@[simp] theorem imgCtl_keeps (s : State) (p : Port) (v : Nat) (head : Option (List Byte)) :
    (State.imgCtl s p v head).pending = s.pending ∧ (State.imgCtl s p v head).sdram = s.sdram ∧ (State.imgCtl s p v head).fuse = s.fuse ∧ (State.imgCtl s p v head).dom = s.dom ∧ (State.imgCtl s p v head).time = s.time ∧ (State.imgCtl s p v head).kp = s.kp ∧ (State.imgCtl s p v head).act = s.act := by
  unfold State.imgCtl
  simp

@[simp] theorem imgCtl_rising (s : State) (p : Port) (v : Nat) (head : Option (List Byte)) (hs : s.regs.rising = true) :
    (State.imgCtl s p v head).regs.rising = true := by
  unfold State.imgCtl
  simp (maxDischargeDepth := 60) [hs]

@[simp] theorem imgCtl_tieWf (s : State) (p : Port) (v : Nat) (head : Option (List Byte)) (hs : s.sem.tieLoser.wf none = true) :
    (State.imgCtl s p v head).sem.tieLoser.wf none = true := by
  unfold State.imgCtl
  simp (maxDischargeDepth := 60) [hs]

@[simp] theorem imgCtl_engineSems (s : State) (p : Port) (v : Nat) (head : Option (List Byte)) (hs : engineSems s.sem) :
    engineSems (State.imgCtl s p v head).sem := by
  unfold State.imgCtl
  simp (maxDischargeDepth := 60) [hs]

@[simp] theorem imgCtl_mirrorWf (s : State) (p : Port) (v : Nat) (head : Option (List Byte)) (hs : s.mirror.words.wf 0#32 = true) :
    (State.imgCtl s p v head).mirror.words.wf 0#32 = true := by
  unfold State.imgCtl
  simp (maxDischargeDepth := 60) [hs]

@[simp] theorem imgUnload_keeps (s : State) (p : Port) (v : Nat) :
    (State.imgUnload s p v).pending = s.pending ∧ (State.imgUnload s p v).sdram = s.sdram ∧ (State.imgUnload s p v).fuse = s.fuse ∧ (State.imgUnload s p v).dom = s.dom ∧ (State.imgUnload s p v).time = s.time ∧ (State.imgUnload s p v).kp = s.kp ∧ (State.imgUnload s p v).act = s.act := by
  unfold State.imgUnload
  simp

@[simp] theorem imgUnload_rising (s : State) (p : Port) (v : Nat) (hs : s.regs.rising = true) :
    (State.imgUnload s p v).regs.rising = true := by
  unfold State.imgUnload
  simp (maxDischargeDepth := 60) [hs]

@[simp] theorem imgUnload_tieWf (s : State) (p : Port) (v : Nat) (hs : s.sem.tieLoser.wf none = true) :
    (State.imgUnload s p v).sem.tieLoser.wf none = true := by
  unfold State.imgUnload
  simp (maxDischargeDepth := 60) [hs]

@[simp] theorem imgUnload_engineSems (s : State) (p : Port) (v : Nat) (hs : engineSems s.sem) :
    engineSems (State.imgUnload s p v).sem := by
  unfold State.imgUnload
  simp (maxDischargeDepth := 60) [hs]

@[simp] theorem imgUnload_mirrorWf (s : State) (p : Port) (v : Nat) (hs : s.mirror.words.wf 0#32 = true) :
    (State.imgUnload s p v).mirror.words.wf 0#32 = true := by
  unfold State.imgUnload
  simp (maxDischargeDepth := 60) [hs]

@[simp] theorem fuseShow_keeps (s : State) :
    (State.fuseShow s).pending = s.pending ∧ (State.fuseShow s).sdram = s.sdram ∧ (State.fuseShow s).fuse = s.fuse ∧ (State.fuseShow s).sem = s.sem ∧ (State.fuseShow s).dom = s.dom ∧ (State.fuseShow s).time = s.time ∧ (State.fuseShow s).kp = s.kp ∧ (State.fuseShow s).act = s.act ∧ (State.fuseShow s).mirror = s.mirror := by
  unfold State.fuseShow
  simp

@[simp] theorem fuseShow_rising (s : State) (hs : s.regs.rising = true) :
    (State.fuseShow s).regs.rising = true := by
  unfold State.fuseShow
  simp (maxDischargeDepth := 60) [hs]

@[simp] theorem fuseWrite_keeps (s : State) (v : Nat) :
    (State.fuseWrite s v).pending = s.pending ∧ (State.fuseWrite s v).sdram = s.sdram ∧ (State.fuseWrite s v).sem = s.sem ∧ (State.fuseWrite s v).dom = s.dom ∧ (State.fuseWrite s v).time = s.time ∧ (State.fuseWrite s v).kp = s.kp ∧ (State.fuseWrite s v).act = s.act ∧ (State.fuseWrite s v).mirror = s.mirror := by
  unfold State.fuseWrite
  simp

@[simp] theorem fuseWrite_rising (s : State) (v : Nat) (hs : s.regs.rising = true) :
    (State.fuseWrite s v).regs.rising = true := by
  unfold State.fuseWrite
  simp (maxDischargeDepth := 60) [hs]

@[simp] theorem verifyEnd_keeps (s : State) :
    (State.verifyEnd s).pending = s.pending ∧ (State.verifyEnd s).sdram = s.sdram ∧ (State.verifyEnd s).fuse = s.fuse ∧ (State.verifyEnd s).dom = s.dom ∧ (State.verifyEnd s).time = s.time ∧ (State.verifyEnd s).kp = s.kp ∧ (State.verifyEnd s).act = s.act ∧ (State.verifyEnd s).mirror = s.mirror := by
  unfold State.verifyEnd
  split <;> simp

@[simp] theorem verifyEnd_tieWf (s : State) (hs : s.sem.tieLoser.wf none = true) :
    (State.verifyEnd s).sem.tieLoser.wf none = true := by
  unfold State.verifyEnd
  try dsimp only
  (repeat' split) <;> simp (maxDischargeDepth := 60) +contextual [hs]

@[simp] theorem verifyEnd_engineSems (s : State) (hs : engineSems s.sem) :
    engineSems (State.verifyEnd s).sem := by
  unfold State.verifyEnd
  try dsimp only
  (repeat' split) <;> simp (maxDischargeDepth := 60) +contextual [hs]

@[simp] theorem verifyEnd_rising (s : State) (hs : s.regs.rising = true) :
    (State.verifyEnd s).regs.rising = true := by
  unfold State.verifyEnd
  try dsimp only
  (repeat' split) <;> simp (maxDischargeDepth := 60) +contextual [hs]
end Sys2Proof.Machine.State
end

