-- ==== Sys2Proof/Laws/KeepTiu.lean ====
section
/-! SUPPORT. What the operations of Machine/Tiu.lean leave alone: memory, fuses, semaphores, domains, time, the queue. -/

namespace Sys2Proof.Machine.State

@[simp] theorem timeCtlWrite_keeps (s : State) (v : Nat) :
    (State.timeCtlWrite s v).pending = s.pending ∧ (State.timeCtlWrite s v).sdram = s.sdram ∧ (State.timeCtlWrite s v).fuse = s.fuse ∧ (State.timeCtlWrite s v).sem = s.sem ∧ (State.timeCtlWrite s v).dom = s.dom ∧ (State.timeCtlWrite s v).time = s.time ∧ (State.timeCtlWrite s v).kp = s.kp ∧ (State.timeCtlWrite s v).act = s.act ∧ (State.timeCtlWrite s v).mirror = s.mirror := by
  unfold State.timeCtlWrite
  simp

@[simp] theorem timeCtlWrite_rising (s : State) (v : Nat) (hs : s.regs.rising = true) :
    (State.timeCtlWrite s v).regs.rising = true := by
  unfold State.timeCtlWrite
  simp (maxDischargeDepth := 60) +contextual [hs]

@[simp] theorem setEv_keeps (s : State) (j : Nat) (x : EvSt) :
    (State.setEv s j x).pending = s.pending ∧ (State.setEv s j x).sdram = s.sdram ∧ (State.setEv s j x).fuse = s.fuse ∧ (State.setEv s j x).sem = s.sem ∧ (State.setEv s j x).dom = s.dom ∧ (State.setEv s j x).time = s.time ∧ (State.setEv s j x).kp = s.kp ∧ (State.setEv s j x).regs = s.regs ∧ (State.setEv s j x).act = s.act ∧ (State.setEv s j x).mirror = s.mirror := by
  unfold State.setEv
  simp

@[simp] theorem evStore_keeps (s : State) (j : Nat) (active : Bool) (fine : Nat) :
    (State.evStore s j active fine).pending = s.pending ∧ (State.evStore s j active fine).sdram = s.sdram ∧ (State.evStore s j active fine).fuse = s.fuse ∧ (State.evStore s j active fine).sem = s.sem ∧ (State.evStore s j active fine).dom = s.dom ∧ (State.evStore s j active fine).time = s.time ∧ (State.evStore s j active fine).kp = s.kp ∧ (State.evStore s j active fine).act = s.act ∧ (State.evStore s j active fine).mirror = s.mirror := by
  unfold State.evStore
  simp

@[simp] theorem evStore_rising (s : State) (j : Nat) (active : Bool) (fine : Nat) (hs : s.regs.rising = true) :
    (State.evStore s j active fine).regs.rising = true := by
  unfold State.evStore
  simp (maxDischargeDepth := 60) +contextual [hs]

@[simp] theorem evLevel_keeps (s : State) (j : Nat) :
    (State.evLevel s j).pending = s.pending ∧ (State.evLevel s j).sdram = s.sdram ∧ (State.evLevel s j).fuse = s.fuse ∧ (State.evLevel s j).sem = s.sem ∧ (State.evLevel s j).dom = s.dom ∧ (State.evLevel s j).time = s.time ∧ (State.evLevel s j).kp = s.kp ∧ (State.evLevel s j).act = s.act ∧ (State.evLevel s j).mirror = s.mirror := by
  unfold State.evLevel
  simp

@[simp] theorem evLevel_rising (s : State) (j : Nat) (hs : s.regs.rising = true) :
    (State.evLevel s j).regs.rising = true := by
  unfold State.evLevel
  simp (maxDischargeDepth := 60) +contextual [hs]

@[simp] theorem evCtlWrite_keeps (s : State) (j v : Nat) :
    (State.evCtlWrite s j v).pending = s.pending ∧ (State.evCtlWrite s j v).sdram = s.sdram ∧ (State.evCtlWrite s j v).fuse = s.fuse ∧ (State.evCtlWrite s j v).sem = s.sem ∧ (State.evCtlWrite s j v).dom = s.dom ∧ (State.evCtlWrite s j v).time = s.time ∧ (State.evCtlWrite s j v).kp = s.kp ∧ (State.evCtlWrite s j v).act = s.act ∧ (State.evCtlWrite s j v).mirror = s.mirror := by
  unfold State.evCtlWrite
  simp

@[simp] theorem evCtlWrite_rising (s : State) (j v : Nat) (hs : s.regs.rising = true) :
    (State.evCtlWrite s j v).regs.rising = true := by
  unfold State.evCtlWrite
  simp (maxDischargeDepth := 60) +contextual [hs]

@[simp] theorem evEdge_keeps (s : State) (j : Nat) (high : Bool) (tick b : Nat) :
    (State.evEdge s j high tick b).pending = s.pending ∧ (State.evEdge s j high tick b).sdram = s.sdram ∧ (State.evEdge s j high tick b).fuse = s.fuse ∧ (State.evEdge s j high tick b).sem = s.sem ∧ (State.evEdge s j high tick b).dom = s.dom ∧ (State.evEdge s j high tick b).time = s.time ∧ (State.evEdge s j high tick b).kp = s.kp ∧ (State.evEdge s j high tick b).act = s.act ∧ (State.evEdge s j high tick b).mirror = s.mirror := by
  unfold State.evEdge
  simp

@[simp] theorem evEdge_rising (s : State) (j : Nat) (high : Bool) (tick b : Nat) (hs : s.regs.rising = true) :
    (State.evEdge s j high tick b).regs.rising = true := by
  unfold State.evEdge
  try dsimp only
  (repeat' split) <;> simp (maxDischargeDepth := 60) +contextual [hs]

@[simp] theorem evPop_keeps (s : State) (p : Port) (j : Nat) (w : Nat) :
    (State.evPop s p j w).pending = s.pending ∧ (State.evPop s p j w).sdram = s.sdram ∧ (State.evPop s p j w).fuse = s.fuse ∧ (State.evPop s p j w).sem = s.sem ∧ (State.evPop s p j w).dom = s.dom ∧ (State.evPop s p j w).time = s.time ∧ (State.evPop s p j w).kp = s.kp ∧ (State.evPop s p j w).regs = s.regs ∧ (State.evPop s p j w).act = s.act ∧ (State.evPop s p j w).mirror = s.mirror := by
  unfold State.evPop
  simp

@[simp] theorem cdcStart_keeps (s : State) (i : Nat) (why : CdcWhy) :
    (State.cdcStart s i why).pending = s.pending ∧ (State.cdcStart s i why).sdram = s.sdram ∧ (State.cdcStart s i why).fuse = s.fuse ∧ (State.cdcStart s i why).sem = s.sem ∧ (State.cdcStart s i why).dom = s.dom ∧ (State.cdcStart s i why).time = s.time ∧ (State.cdcStart s i why).kp = s.kp ∧ (State.cdcStart s i why).act = s.act ∧ (State.cdcStart s i why).mirror = s.mirror := by
  unfold State.cdcStart
  simp

@[simp] theorem cdcStart_rising (s : State) (i : Nat) (why : CdcWhy) (hs : s.regs.rising = true) :
    (State.cdcStart s i why).regs.rising = true := by
  unfold State.cdcStart
  simp (maxDischargeDepth := 60) +contextual [hs]

@[simp] theorem cdcCtlWrite_keeps (s : State) (v : Nat) :
    (State.cdcCtlWrite s v).pending = s.pending ∧ (State.cdcCtlWrite s v).sdram = s.sdram ∧ (State.cdcCtlWrite s v).fuse = s.fuse ∧ (State.cdcCtlWrite s v).sem = s.sem ∧ (State.cdcCtlWrite s v).dom = s.dom ∧ (State.cdcCtlWrite s v).time = s.time ∧ (State.cdcCtlWrite s v).kp = s.kp ∧ (State.cdcCtlWrite s v).act = s.act ∧ (State.cdcCtlWrite s v).mirror = s.mirror := by
  unfold State.cdcCtlWrite
  simp

@[simp] theorem cdcCtlWrite_rising (s : State) (v : Nat) (hs : s.regs.rising = true) :
    (State.cdcCtlWrite s v).regs.rising = true := by
  unfold State.cdcCtlWrite
  simp (maxDischargeDepth := 60) +contextual [hs]

@[simp] theorem cdcRow_keeps (s : State) (i : Nat) (y0 : Nat) (y1 : List Nat) :
    (State.cdcRow s i y0 y1).pending = s.pending ∧ (State.cdcRow s i y0 y1).sdram = s.sdram ∧ (State.cdcRow s i y0 y1).fuse = s.fuse ∧ (State.cdcRow s i y0 y1).sem = s.sem ∧ (State.cdcRow s i y0 y1).dom = s.dom ∧ (State.cdcRow s i y0 y1).time = s.time ∧ (State.cdcRow s i y0 y1).kp = s.kp ∧ (State.cdcRow s i y0 y1).act = s.act ∧ (State.cdcRow s i y0 y1).mirror = s.mirror := by
  fun_induction State.cdcRow s i y0 y1; all_goals first
      | (simp_all +zetaDelta; done)
      | (simp only [*]; (try simp +zetaDelta only []); (repeat' split) <;> simp_all; done)

@[simp] theorem cdcRow_rising (s : State) (i : Nat) (y0 : Nat) (y1 : List Nat) (hs : s.regs.rising = true) :
    (State.cdcRow s i y0 y1).regs.rising = true := by
  fun_induction State.cdcRow s i y0 y1 <;> (simp_all (maxDischargeDepth := 60) +zetaDelta; done)

@[simp] theorem cdcEnd_keeps (s : State) (i : Nat) (why : CdcWhy) (hits : List Nat) :
    (State.cdcEnd s i why hits).pending = s.pending ∧ (State.cdcEnd s i why hits).sdram = s.sdram ∧ (State.cdcEnd s i why hits).fuse = s.fuse ∧ (State.cdcEnd s i why hits).sem = s.sem ∧ (State.cdcEnd s i why hits).dom = s.dom ∧ (State.cdcEnd s i why hits).time = s.time ∧ (State.cdcEnd s i why hits).kp = s.kp ∧ (State.cdcEnd s i why hits).act = s.act ∧ (State.cdcEnd s i why hits).mirror = s.mirror := by
  unfold State.cdcEnd
  simp

@[simp] theorem cdcEnd_rising (s : State) (i : Nat) (why : CdcWhy) (hits : List Nat) (hs : s.regs.rising = true) :
    (State.cdcEnd s i why hits).regs.rising = true := by
  unfold State.cdcEnd
  simp (maxDischargeDepth := 60) +contextual [hs]

@[simp] theorem setFin_keeps (s : State) (k : Nat) (x : FinSt) :
    (State.setFin s k x).pending = s.pending ∧ (State.setFin s k x).sdram = s.sdram ∧ (State.setFin s k x).fuse = s.fuse ∧ (State.setFin s k x).sem = s.sem ∧ (State.setFin s k x).dom = s.dom ∧ (State.setFin s k x).time = s.time ∧ (State.setFin s k x).kp = s.kp ∧ (State.setFin s k x).regs = s.regs ∧ (State.setFin s k x).act = s.act ∧ (State.setFin s k x).mirror = s.mirror := by
  unfold State.setFin
  simp

@[simp] theorem finEdge_keeps (s : State) (k : Nat) (tick : Nat) (b : Nat) (isOver : Bool) :
    (State.finEdge s k tick b isOver).pending = s.pending ∧ (State.finEdge s k tick b isOver).sdram = s.sdram ∧ (State.finEdge s k tick b isOver).fuse = s.fuse ∧ (State.finEdge s k tick b isOver).sem = s.sem ∧ (State.finEdge s k tick b isOver).dom = s.dom ∧ (State.finEdge s k tick b isOver).time = s.time ∧ (State.finEdge s k tick b isOver).kp = s.kp ∧ (State.finEdge s k tick b isOver).act = s.act ∧ (State.finEdge s k tick b isOver).mirror = s.mirror := by
  unfold State.finEdge
  simp

@[simp] theorem finEdge_rising (s : State) (k : Nat) (tick : Nat) (b : Nat) (isOver : Bool) (hs : s.regs.rising = true) :
    (State.finEdge s k tick b isOver).regs.rising = true := by
  unfold State.finEdge
  simp (maxDischargeDepth := 60) +contextual [hs]

@[simp] theorem finCtlWrite_keeps (s : State) (k v : Nat) :
    (State.finCtlWrite s k v).pending = s.pending ∧ (State.finCtlWrite s k v).sdram = s.sdram ∧ (State.finCtlWrite s k v).fuse = s.fuse ∧ (State.finCtlWrite s k v).sem = s.sem ∧ (State.finCtlWrite s k v).dom = s.dom ∧ (State.finCtlWrite s k v).time = s.time ∧ (State.finCtlWrite s k v).kp = s.kp ∧ (State.finCtlWrite s k v).act = s.act ∧ (State.finCtlWrite s k v).mirror = s.mirror := by
  unfold State.finCtlWrite
  simp

@[simp] theorem finCtlWrite_rising (s : State) (k v : Nat) (hs : s.regs.rising = true) :
    (State.finCtlWrite s k v).regs.rising = true := by
  unfold State.finCtlWrite
  simp (maxDischargeDepth := 60) +contextual [hs]

@[simp] theorem finGate_keeps (s : State) (k : Nat) :
    (State.finGate s k).pending = s.pending ∧ (State.finGate s k).sdram = s.sdram ∧ (State.finGate s k).fuse = s.fuse ∧ (State.finGate s k).sem = s.sem ∧ (State.finGate s k).dom = s.dom ∧ (State.finGate s k).time = s.time ∧ (State.finGate s k).kp = s.kp ∧ (State.finGate s k).act = s.act ∧ (State.finGate s k).mirror = s.mirror := by
  unfold State.finGate
  simp

@[simp] theorem finGate_rising (s : State) (k : Nat) (hs : s.regs.rising = true) : (s.finGate k).regs.rising = true := by
  unfold finGate
  dsimp only
  refine raise_rising _ _ (foldl_rising _ _ _ ?_ ?_)
  · simp (maxDischargeDepth := 60) [hs]
  · intro s x h
    split <;> simp (maxDischargeDepth := 60) [h]

@[simp] theorem statCtlWrite_keeps (s : State) (e : Nat) (v : Nat) :
    (State.statCtlWrite s e v).pending = s.pending ∧ (State.statCtlWrite s e v).sdram = s.sdram ∧ (State.statCtlWrite s e v).fuse = s.fuse ∧ (State.statCtlWrite s e v).sem = s.sem ∧ (State.statCtlWrite s e v).dom = s.dom ∧ (State.statCtlWrite s e v).time = s.time ∧ (State.statCtlWrite s e v).kp = s.kp ∧ (State.statCtlWrite s e v).act = s.act ∧ (State.statCtlWrite s e v).mirror = s.mirror := by
  unfold State.statCtlWrite
  simp

@[simp] theorem statCtlWrite_rising (s : State) (e : Nat) (v : Nat) (hs : s.regs.rising = true) :
    (State.statCtlWrite s e v).regs.rising = true := by
  unfold State.statCtlWrite
  simp (maxDischargeDepth := 60) +contextual [hs]

@[simp] theorem statEnd_keeps (s : State) (e : Nat) :
    (State.statEnd s e).pending = s.pending ∧ (State.statEnd s e).sdram = s.sdram ∧ (State.statEnd s e).fuse = s.fuse ∧ (State.statEnd s e).sem = s.sem ∧ (State.statEnd s e).dom = s.dom ∧ (State.statEnd s e).time = s.time ∧ (State.statEnd s e).kp = s.kp ∧ (State.statEnd s e).act = s.act ∧ (State.statEnd s e).mirror = s.mirror := by
  unfold State.statEnd
  simp

@[simp] theorem statEnd_rising (s : State) (e : Nat) (hs : s.regs.rising = true) :
    (State.statEnd s e).regs.rising = true := by
  unfold State.statEnd
  simp (maxDischargeDepth := 60) +contextual [hs]

@[simp] theorem canaryTile_keeps (s : State) (t : Nat) (c : CanaryTime) :
    (State.canaryTile s t c).pending = s.pending ∧ (State.canaryTile s t c).sdram = s.sdram ∧ (State.canaryTile s t c).fuse = s.fuse ∧ (State.canaryTile s t c).sem = s.sem ∧ (State.canaryTile s t c).dom = s.dom ∧ (State.canaryTile s t c).time = s.time ∧ (State.canaryTile s t c).kp = s.kp ∧ (State.canaryTile s t c).act = s.act ∧ (State.canaryTile s t c).mirror = s.mirror := by
  unfold State.canaryTile
  simp

@[simp] theorem canaryTile_rising (s : State) (t : Nat) (c : CanaryTime) (hs : s.regs.rising = true) :
    (State.canaryTile s t c).regs.rising = true := by
  unfold State.canaryTile
  simp (maxDischargeDepth := 60) +contextual [hs]

@[simp] theorem canaryTiles_keeps (s : State) (y0 : Nat) (y1 : List CanaryTime) :
    (State.canaryTiles s y0 y1).pending = s.pending ∧ (State.canaryTiles s y0 y1).sdram = s.sdram ∧ (State.canaryTiles s y0 y1).fuse = s.fuse ∧ (State.canaryTiles s y0 y1).sem = s.sem ∧ (State.canaryTiles s y0 y1).dom = s.dom ∧ (State.canaryTiles s y0 y1).time = s.time ∧ (State.canaryTiles s y0 y1).kp = s.kp ∧ (State.canaryTiles s y0 y1).act = s.act ∧ (State.canaryTiles s y0 y1).mirror = s.mirror := by
  fun_induction State.canaryTiles s y0 y1; all_goals first
      | (simp_all +zetaDelta; done)
      | (simp only [*]; (try simp +zetaDelta only []); (repeat' split) <;> simp_all; done)

@[simp] theorem canaryTiles_rising (s : State) (y0 : Nat) (y1 : List CanaryTime) (hs : s.regs.rising = true) :
    (State.canaryTiles s y0 y1).regs.rising = true := by
  fun_induction State.canaryTiles s y0 y1 <;> (simp_all (maxDischargeDepth := 60) +zetaDelta; done)

@[simp] theorem kpSlowMark_keeps (s : State) (k : Nat) (detail : Nat) :
    (State.kpSlowMark s k detail).pending = s.pending ∧ (State.kpSlowMark s k detail).sdram = s.sdram ∧ (State.kpSlowMark s k detail).fuse = s.fuse ∧ (State.kpSlowMark s k detail).sem = s.sem ∧ (State.kpSlowMark s k detail).dom = s.dom ∧ (State.kpSlowMark s k detail).time = s.time ∧ (State.kpSlowMark s k detail).kp = s.kp ∧ (State.kpSlowMark s k detail).act = s.act ∧ (State.kpSlowMark s k detail).mirror = s.mirror := by
  unfold State.kpSlowMark
  simp

@[simp] theorem kpSlowMark_rising (s : State) (k : Nat) (detail : Nat) (hs : s.regs.rising = true) :
    (State.kpSlowMark s k detail).regs.rising = true := by
  unfold State.kpSlowMark
  simp (maxDischargeDepth := 60) +contextual [hs]

@[simp] theorem canaryKp_keeps (s : State) (k : Nat) (c : CanaryTime) :
    (State.canaryKp s k c).pending = s.pending ∧ (State.canaryKp s k c).sdram = s.sdram ∧ (State.canaryKp s k c).fuse = s.fuse ∧ (State.canaryKp s k c).sem = s.sem ∧ (State.canaryKp s k c).dom = s.dom ∧ (State.canaryKp s k c).time = s.time ∧ (State.canaryKp s k c).kp = s.kp ∧ (State.canaryKp s k c).act = s.act ∧ (State.canaryKp s k c).mirror = s.mirror := by
  unfold State.canaryKp
  simp

@[simp] theorem canaryKp_rising (s : State) (k : Nat) (c : CanaryTime) (hs : s.regs.rising = true) :
    (State.canaryKp s k c).regs.rising = true := by
  unfold State.canaryKp
  simp (maxDischargeDepth := 60) +contextual [hs]

@[simp] theorem canaryKps_keeps (s : State) (y0 : Nat) (y1 : List CanaryTime) :
    (State.canaryKps s y0 y1).pending = s.pending ∧ (State.canaryKps s y0 y1).sdram = s.sdram ∧ (State.canaryKps s y0 y1).fuse = s.fuse ∧ (State.canaryKps s y0 y1).sem = s.sem ∧ (State.canaryKps s y0 y1).dom = s.dom ∧ (State.canaryKps s y0 y1).time = s.time ∧ (State.canaryKps s y0 y1).kp = s.kp ∧ (State.canaryKps s y0 y1).act = s.act ∧ (State.canaryKps s y0 y1).mirror = s.mirror := by
  fun_induction State.canaryKps s y0 y1; all_goals first
      | (simp_all +zetaDelta; done)
      | (simp only [*]; (try simp +zetaDelta only []); (repeat' split) <;> simp_all; done)

@[simp] theorem canaryKps_rising (s : State) (y0 : Nat) (y1 : List CanaryTime) (hs : s.regs.rising = true) :
    (State.canaryKps s y0 y1).regs.rising = true := by
  fun_induction State.canaryKps s y0 y1 <;> (simp_all (maxDischargeDepth := 60) +zetaDelta; done)

@[simp] theorem lostShow_keeps (s : State) (y0 : List (Nat × PathImg)) :
    (State.lostShow s y0).pending = s.pending ∧ (State.lostShow s y0).sdram = s.sdram ∧ (State.lostShow s y0).fuse = s.fuse ∧ (State.lostShow s y0).sem = s.sem ∧ (State.lostShow s y0).dom = s.dom ∧ (State.lostShow s y0).time = s.time ∧ (State.lostShow s y0).kp = s.kp ∧ (State.lostShow s y0).act = s.act ∧ (State.lostShow s y0).mirror = s.mirror := by
  fun_induction State.lostShow s y0; all_goals first
      | (simp_all +zetaDelta; done)
      | (simp only [*]; (try simp +zetaDelta only []); (repeat' split) <;> simp_all; done)

@[simp] theorem lostShow_rising (s : State) (y0 : List (Nat × PathImg)) (hs : s.regs.rising = true) :
    (State.lostShow s y0).regs.rising = true := by
  fun_induction State.lostShow s y0 <;> (simp_all (maxDischargeDepth := 60) +zetaDelta; done)

@[simp] theorem headroomShow_keeps (s : State) :
    (State.headroomShow s).pending = s.pending ∧ (State.headroomShow s).sdram = s.sdram ∧ (State.headroomShow s).fuse = s.fuse ∧ (State.headroomShow s).sem = s.sem ∧ (State.headroomShow s).dom = s.dom ∧ (State.headroomShow s).time = s.time ∧ (State.headroomShow s).kp = s.kp ∧ (State.headroomShow s).act = s.act := by
  unfold State.headroomShow
  simp

@[simp] theorem headroomShow_rising (s : State) (hs : s.regs.rising = true) :
    (State.headroomShow s).regs.rising = true := by
  unfold State.headroomShow
  simp (maxDischargeDepth := 60) +contextual [hs]

@[simp] theorem headroomShow_mirrorWf (s : State) (hs : s.mirror.words.wf 0#32 = true) :
    (State.headroomShow s).mirror.words.wf 0#32 = true := by
  unfold State.headroomShow
  simp (maxDischargeDepth := 60) +contextual [hs]

@[simp] theorem canaryStart_keeps (s : State) (periodic : Bool) :
    (State.canaryStart s periodic).pending = s.pending ∧ (State.canaryStart s periodic).sdram = s.sdram ∧ (State.canaryStart s periodic).fuse = s.fuse ∧ (State.canaryStart s periodic).sem = s.sem ∧ (State.canaryStart s periodic).dom = s.dom ∧ (State.canaryStart s periodic).time = s.time ∧ (State.canaryStart s periodic).kp = s.kp ∧ (State.canaryStart s periodic).regs = s.regs ∧ (State.canaryStart s periodic).act = s.act ∧ (State.canaryStart s periodic).mirror = s.mirror := by
  unfold State.canaryStart
  simp

@[simp] theorem canaryEnd_keeps (s : State) (start : Nat) (tiles : List CanaryTime) (kps : List CanaryTime) :
    (State.canaryEnd s start tiles kps).pending = s.pending ∧ (State.canaryEnd s start tiles kps).sdram = s.sdram ∧ (State.canaryEnd s start tiles kps).fuse = s.fuse ∧ (State.canaryEnd s start tiles kps).sem = s.sem ∧ (State.canaryEnd s start tiles kps).dom = s.dom ∧ (State.canaryEnd s start tiles kps).time = s.time ∧ (State.canaryEnd s start tiles kps).kp = s.kp ∧ (State.canaryEnd s start tiles kps).act = s.act := by
  unfold State.canaryEnd
  simp

@[simp] theorem canaryEnd_rising (s : State) (start : Nat) (tiles : List CanaryTime) (kps : List CanaryTime) (hs : s.regs.rising = true) :
    (State.canaryEnd s start tiles kps).regs.rising = true := by
  unfold State.canaryEnd
  simp (maxDischargeDepth := 60) +contextual [hs]

@[simp] theorem canaryEnd_mirrorWf (s : State) (start : Nat) (tiles : List CanaryTime) (kps : List CanaryTime) (hs : s.mirror.words.wf 0#32 = true) :
    (State.canaryEnd s start tiles kps).mirror.words.wf 0#32 = true := by
  unfold State.canaryEnd
  simp (maxDischargeDepth := 60) +contextual [hs]
end Sys2Proof.Machine.State
end

