-- ==== Sys2Proof/Laws/KeepEnsOps.lean ====
section
/-! SUPPORT. What the operations of Machine/EnsOps.lean leave alone: memory, fuses, semaphores, domains, time, the queue. -/

namespace Sys2Proof.Machine.State

@[simp] theorem setEns_keeps (s : State) (x : EnsSt) :
    (State.setEns s x).pending = s.pending ∧ (State.setEns s x).sdram = s.sdram ∧ (State.setEns s x).fuse = s.fuse ∧ (State.setEns s x).sem = s.sem ∧ (State.setEns s x).dom = s.dom ∧ (State.setEns s x).time = s.time ∧ (State.setEns s x).kp = s.kp ∧ (State.setEns s x).regs = s.regs ∧ (State.setEns s x).act = s.act ∧ (State.setEns s x).mirror = s.mirror := by
  unfold State.setEns
  simp

@[simp] theorem ensShow_keeps (s : State) :
    (State.ensShow s).pending = s.pending ∧ (State.ensShow s).sdram = s.sdram ∧ (State.ensShow s).fuse = s.fuse ∧ (State.ensShow s).sem = s.sem ∧ (State.ensShow s).dom = s.dom ∧ (State.ensShow s).time = s.time ∧ (State.ensShow s).kp = s.kp ∧ (State.ensShow s).act = s.act ∧ (State.ensShow s).mirror = s.mirror := by
  unfold State.ensShow
  simp

@[simp] theorem ensShow_rising (s : State) (hs : s.regs.rising = true) :
    (State.ensShow s).regs.rising = true := by
  unfold State.ensShow
  simp (maxDischargeDepth := 60) +contextual [hs]

@[simp] theorem ensPut_keeps (s : State) (ring : Nat) (x : EnsToken) :
    (State.ensPut s ring x).pending = s.pending ∧ (State.ensPut s ring x).sdram = s.sdram ∧ (State.ensPut s ring x).fuse = s.fuse ∧ (State.ensPut s ring x).sem = s.sem ∧ (State.ensPut s ring x).dom = s.dom ∧ (State.ensPut s ring x).time = s.time ∧ (State.ensPut s ring x).kp = s.kp ∧ (State.ensPut s ring x).regs = s.regs ∧ (State.ensPut s ring x).act = s.act ∧ (State.ensPut s ring x).mirror = s.mirror := by
  unfold State.ensPut
  simp

@[simp] theorem ensSend_keeps (s : State) (type_ : Nat) (ack : Nat) (tick : Nat) (payload : List Byte) :
    (State.ensSend s type_ ack tick payload).pending = s.pending ∧ (State.ensSend s type_ ack tick payload).sdram = s.sdram ∧ (State.ensSend s type_ ack tick payload).fuse = s.fuse ∧ (State.ensSend s type_ ack tick payload).sem = s.sem ∧ (State.ensSend s type_ ack tick payload).dom = s.dom ∧ (State.ensSend s type_ ack tick payload).time = s.time ∧ (State.ensSend s type_ ack tick payload).kp = s.kp ∧ (State.ensSend s type_ ack tick payload).regs = s.regs ∧ (State.ensSend s type_ ack tick payload).act = s.act ∧ (State.ensSend s type_ ack tick payload).mirror = s.mirror := by
  unfold State.ensSend
  simp

@[simp] theorem ensRgns_keeps (s : State) (on : Bool) (tick : Nat) (rs : List Nat) :
    (State.ensRgns s on tick rs).pending = s.pending ∧ (State.ensRgns s on tick rs).sdram = s.sdram ∧ (State.ensRgns s on tick rs).fuse = s.fuse ∧ (State.ensRgns s on tick rs).sem = s.sem ∧ (State.ensRgns s on tick rs).dom = s.dom ∧ (State.ensRgns s on tick rs).time = s.time ∧ (State.ensRgns s on tick rs).kp = s.kp ∧ (State.ensRgns s on tick rs).act = s.act := by
  unfold State.ensRgns
  simp

@[simp] theorem ensRgns_rising (s : State) (on : Bool) (tick : Nat) (rs : List Nat) (hs : s.regs.rising = true) :
    (State.ensRgns s on tick rs).regs.rising = true := by
  unfold State.ensRgns
  simp (maxDischargeDepth := 60) +contextual [hs]

@[simp] theorem ensRgns_mirrorWf (s : State) (on : Bool) (tick : Nat) (rs : List Nat) (hs : s.mirror.words.wf 0#32 = true) :
    (State.ensRgns s on tick rs).mirror.words.wf 0#32 = true := by
  unfold State.ensRgns
  simp (maxDischargeDepth := 60) +contextual [hs]

@[simp] theorem ensDisarm_keeps (s : State) :
    (State.ensDisarm s).pending = s.pending ∧ (State.ensDisarm s).sdram = s.sdram ∧ (State.ensDisarm s).fuse = s.fuse ∧ (State.ensDisarm s).sem = s.sem ∧ (State.ensDisarm s).dom = s.dom ∧ (State.ensDisarm s).time = s.time ∧ (State.ensDisarm s).kp = s.kp ∧ (State.ensDisarm s).act = s.act := by
  unfold State.ensDisarm
  simp

@[simp] theorem ensDisarm_rising (s : State) (hs : s.regs.rising = true) :
    (State.ensDisarm s).regs.rising = true := by
  unfold State.ensDisarm
  simp (maxDischargeDepth := 60) +contextual [hs]

@[simp] theorem ensDisarm_mirrorWf (s : State) (hs : s.mirror.words.wf 0#32 = true) :
    (State.ensDisarm s).mirror.words.wf 0#32 = true := by
  unfold State.ensDisarm
  simp (maxDischargeDepth := 60) +contextual [hs]

@[simp] theorem ensLag_keeps (s : State) :
    (State.ensLag s).pending = s.pending ∧ (State.ensLag s).sdram = s.sdram ∧ (State.ensLag s).fuse = s.fuse ∧ (State.ensLag s).sem = s.sem ∧ (State.ensLag s).dom = s.dom ∧ (State.ensLag s).time = s.time ∧ (State.ensLag s).kp = s.kp ∧ (State.ensLag s).act = s.act := by
  unfold State.ensLag
  simp

@[simp] theorem ensLag_rising (s : State) (hs : s.regs.rising = true) :
    (State.ensLag s).regs.rising = true := by
  unfold State.ensLag
  simp (maxDischargeDepth := 60) +contextual [hs]

@[simp] theorem ensLag_mirrorWf (s : State) (hs : s.mirror.words.wf 0#32 = true) :
    (State.ensLag s).mirror.words.wf 0#32 = true := by
  unfold State.ensLag
  simp (maxDischargeDepth := 60) +contextual [hs]

@[simp] theorem ensFault_keeps (s : State) :
    (State.ensFault s).pending = s.pending ∧ (State.ensFault s).sdram = s.sdram ∧ (State.ensFault s).fuse = s.fuse ∧ (State.ensFault s).sem = s.sem ∧ (State.ensFault s).dom = s.dom ∧ (State.ensFault s).time = s.time ∧ (State.ensFault s).kp = s.kp ∧ (State.ensFault s).act = s.act := by
  unfold State.ensFault
  simp

@[simp] theorem ensFault_rising (s : State) (hs : s.regs.rising = true) :
    (State.ensFault s).regs.rising = true := by
  unfold State.ensFault
  simp (maxDischargeDepth := 60) +contextual [hs]

@[simp] theorem ensFault_mirrorWf (s : State) (hs : s.mirror.words.wf 0#32 = true) :
    (State.ensFault s).mirror.words.wf 0#32 = true := by
  unfold State.ensFault
  simp (maxDischargeDepth := 60) +contextual [hs]

@[simp] theorem ensStepped_keeps (s : State) :
    (State.ensStepped s).pending = s.pending ∧ (State.ensStepped s).sdram = s.sdram ∧ (State.ensStepped s).fuse = s.fuse ∧ (State.ensStepped s).sem = s.sem ∧ (State.ensStepped s).dom = s.dom ∧ (State.ensStepped s).time = s.time ∧ (State.ensStepped s).kp = s.kp ∧ (State.ensStepped s).act = s.act := by
  unfold State.ensStepped
  simp

@[simp] theorem ensStepped_rising (s : State) (hs : s.regs.rising = true) :
    (State.ensStepped s).regs.rising = true := by
  unfold State.ensStepped
  simp (maxDischargeDepth := 60) +contextual [hs]

@[simp] theorem ensStepped_mirrorWf (s : State) (hs : s.mirror.words.wf 0#32 = true) :
    (State.ensStepped s).mirror.words.wf 0#32 = true := by
  unfold State.ensStepped
  simp (maxDischargeDepth := 60) +contextual [hs]

@[simp] theorem ensEdge_keeps (s : State) (fine : Nat) :
    (State.ensEdge s fine).pending = s.pending ∧ (State.ensEdge s fine).sdram = s.sdram ∧ (State.ensEdge s fine).fuse = s.fuse ∧ (State.ensEdge s fine).sem = s.sem ∧ (State.ensEdge s fine).dom = s.dom ∧ (State.ensEdge s fine).time = s.time ∧ (State.ensEdge s fine).kp = s.kp ∧ (State.ensEdge s fine).act = s.act ∧ (State.ensEdge s fine).mirror = s.mirror := by
  unfold State.ensEdge
  simp

@[simp] theorem ensEdge_rising (s : State) (fine : Nat) (hs : s.regs.rising = true) :
    (State.ensEdge s fine).regs.rising = true := by
  unfold State.ensEdge
  simp (maxDischargeDepth := 60) +contextual [hs]
end Sys2Proof.Machine.State
end

