-- ==== Sys2Proof/Laws/KeepClocks.lean ====
section
/-! SUPPORT. What the operations of Machine/Clocks.lean leave alone: memory, fuses, semaphores, domains, time, the queue. -/

namespace Sys2Proof.Machine.State

@[simp] theorem upllLose_keeps (s : State) :
    (State.upllLose s).pending = s.pending ∧ (State.upllLose s).sdram = s.sdram ∧ (State.upllLose s).fuse = s.fuse ∧ (State.upllLose s).sem = s.sem ∧ (State.upllLose s).dom = s.dom ∧ (State.upllLose s).time = s.time ∧ (State.upllLose s).kp = s.kp ∧ (State.upllLose s).act = s.act := by
  unfold State.upllLose
  simp

@[simp] theorem upllLose_rising (s : State) (hs : s.regs.rising = true) :
    (State.upllLose s).regs.rising = true := by
  unfold State.upllLose
  simp (maxDischargeDepth := 60) +contextual [hs]

@[simp] theorem upllLose_mirrorWf (s : State) (hs : s.mirror.words.wf 0#32 = true) :
    (State.upllLose s).mirror.words.wf 0#32 = true := by
  unfold State.upllLose
  simp (maxDischargeDepth := 60) +contextual [hs]

@[simp] theorem holdoverEnd_keeps (s : State) :
    (State.holdoverEnd s).pending = s.pending ∧ (State.holdoverEnd s).sdram = s.sdram ∧ (State.holdoverEnd s).fuse = s.fuse ∧ (State.holdoverEnd s).sem = s.sem ∧ (State.holdoverEnd s).dom = s.dom ∧ (State.holdoverEnd s).time = s.time ∧ (State.holdoverEnd s).kp = s.kp ∧ (State.holdoverEnd s).act = s.act ∧ (State.holdoverEnd s).mirror = s.mirror := by
  unfold State.holdoverEnd
  simp

@[simp] theorem holdoverEnd_rising (s : State) (hs : s.regs.rising = true) :
    (State.holdoverEnd s).regs.rising = true := by
  unfold State.holdoverEnd
  simp (maxDischargeDepth := 60) +contextual [hs]

@[simp] theorem upllLock_keeps (s : State) :
    (State.upllLock s).pending = s.pending ∧ (State.upllLock s).sdram = s.sdram ∧ (State.upllLock s).fuse = s.fuse ∧ (State.upllLock s).sem = s.sem ∧ (State.upllLock s).dom = s.dom ∧ (State.upllLock s).time = s.time ∧ (State.upllLock s).kp = s.kp ∧ (State.upllLock s).act = s.act := by
  unfold State.upllLock
  simp

@[simp] theorem upllLock_rising (s : State) (hs : s.regs.rising = true) :
    (State.upllLock s).regs.rising = true := by
  unfold State.upllLock
  simp (maxDischargeDepth := 60) +contextual [hs]

@[simp] theorem upllLock_mirrorWf (s : State) (hs : s.mirror.words.wf 0#32 = true) :
    (State.upllLock s).mirror.words.wf 0#32 = true := by
  unfold State.upllLock
  simp (maxDischargeDepth := 60) +contextual [hs]

@[simp] theorem refFound_keeps (s : State) (mhz100 : Bool) :
    (State.refFound s mhz100).pending = s.pending ∧ (State.refFound s mhz100).sdram = s.sdram ∧ (State.refFound s mhz100).fuse = s.fuse ∧ (State.refFound s mhz100).sem = s.sem ∧ (State.refFound s mhz100).dom = s.dom ∧ (State.refFound s mhz100).time = s.time ∧ (State.refFound s mhz100).kp = s.kp ∧ (State.refFound s mhz100).act = s.act ∧ (State.refFound s mhz100).mirror = s.mirror := by
  unfold State.refFound
  simp

@[simp] theorem refFound_rising (s : State) (mhz100 : Bool) (hs : s.regs.rising = true) :
    (State.refFound s mhz100).regs.rising = true := by
  unfold State.refFound
  simp (maxDischargeDepth := 60) +contextual [hs]

@[simp] theorem refLose_keeps (s : State) :
    (State.refLose s).pending = s.pending ∧ (State.refLose s).sdram = s.sdram ∧ (State.refLose s).fuse = s.fuse ∧ (State.refLose s).sem = s.sem ∧ (State.refLose s).dom = s.dom ∧ (State.refLose s).time = s.time ∧ (State.refLose s).kp = s.kp ∧ (State.refLose s).act = s.act := by
  unfold State.refLose
  simp

@[simp] theorem refLose_rising (s : State) (hs : s.regs.rising = true) :
    (State.refLose s).regs.rising = true := by
  unfold State.refLose
  simp (maxDischargeDepth := 60) +contextual [hs]

@[simp] theorem refLose_mirrorWf (s : State) (hs : s.mirror.words.wf 0#32 = true) :
    (State.refLose s).mirror.words.wf 0#32 = true := by
  unfold State.refLose
  simp (maxDischargeDepth := 60) +contextual [hs]

@[simp] theorem refCtlWrite_keeps (s : State) (v : Nat) :
    (State.refCtlWrite s v).pending = s.pending ∧ (State.refCtlWrite s v).sdram = s.sdram ∧ (State.refCtlWrite s v).fuse = s.fuse ∧ (State.refCtlWrite s v).sem = s.sem ∧ (State.refCtlWrite s v).dom = s.dom ∧ (State.refCtlWrite s v).time = s.time ∧ (State.refCtlWrite s v).kp = s.kp ∧ (State.refCtlWrite s v).act = s.act := by
  unfold State.refCtlWrite
  simp

@[simp] theorem refCtlWrite_rising (s : State) (v : Nat) (hs : s.regs.rising = true) :
    (State.refCtlWrite s v).regs.rising = true := by
  unfold State.refCtlWrite
  simp (maxDischargeDepth := 60) +contextual [hs]

@[simp] theorem refCtlWrite_mirrorWf (s : State) (v : Nat) (hs : s.mirror.words.wf 0#32 = true) :
    (State.refCtlWrite s v).mirror.words.wf 0#32 = true := by
  unfold State.refCtlWrite
  simp (maxDischargeDepth := 60) +contextual [hs]

@[simp] theorem moveTime_keeps (s : State) (d : Int) :
    (State.moveTime s d).pending = s.pending ∧ (State.moveTime s d).sdram = s.sdram ∧ (State.moveTime s d).fuse = s.fuse ∧ (State.moveTime s d).sem = s.sem ∧ (State.moveTime s d).dom = s.dom ∧ (State.moveTime s d).kp = s.kp ∧ (State.moveTime s d).regs = s.regs ∧ (State.moveTime s d).act = s.act ∧ (State.moveTime s d).mirror = s.mirror := by
  unfold State.moveTime
  simp

@[simp] theorem stepTo_keeps (s : State) (at_ : Nat) (tick : Nat) (event : Nat) :
    (State.stepTo s at_ tick event).pending = s.pending ∧ (State.stepTo s at_ tick event).sdram = s.sdram ∧ (State.stepTo s at_ tick event).fuse = s.fuse ∧ (State.stepTo s at_ tick event).sem = s.sem ∧ (State.stepTo s at_ tick event).dom = s.dom ∧ (State.stepTo s at_ tick event).kp = s.kp ∧ (State.stepTo s at_ tick event).act = s.act := by
  unfold State.stepTo
  simp

@[simp] theorem stepTo_rising (s : State) (at_ : Nat) (tick : Nat) (event : Nat) (hs : s.regs.rising = true) :
    (State.stepTo s at_ tick event).regs.rising = true := by
  unfold State.stepTo
  simp (maxDischargeDepth := 60) +contextual [hs]

@[simp] theorem stepTo_mirrorWf (s : State) (at_ : Nat) (tick : Nat) (event : Nat) (hs : s.mirror.words.wf 0#32 = true) :
    (State.stepTo s at_ tick event).mirror.words.wf 0#32 = true := by
  unfold State.stepTo
  simp (maxDischargeDepth := 60) +contextual [hs]

@[simp] theorem ppsCount_keeps (s : State) (fine t : Nat) :
    (State.ppsCount s fine t).pending = s.pending ∧ (State.ppsCount s fine t).sdram = s.sdram ∧ (State.ppsCount s fine t).fuse = s.fuse ∧ (State.ppsCount s fine t).sem = s.sem ∧ (State.ppsCount s fine t).dom = s.dom ∧ (State.ppsCount s fine t).kp = s.kp ∧ (State.ppsCount s fine t).act = s.act := by
  unfold State.ppsCount
  simp

@[simp] theorem ppsCount_rising (s : State) (fine t : Nat) (hs : s.regs.rising = true) :
    (State.ppsCount s fine t).regs.rising = true := by
  unfold State.ppsCount
  simp (maxDischargeDepth := 60) +contextual [hs]

@[simp] theorem ppsCount_mirrorWf (s : State) (fine t : Nat) (hs : s.mirror.words.wf 0#32 = true) :
    (State.ppsCount s fine t).mirror.words.wf 0#32 = true := by
  unfold State.ppsCount
  simp (maxDischargeDepth := 60) +contextual [hs]

@[simp] theorem clkMark_keeps (s : State) (n : Nat) :
    (State.clkMark s n).pending = s.pending ∧ (State.clkMark s n).sdram = s.sdram ∧ (State.clkMark s n).fuse = s.fuse ∧ (State.clkMark s n).sem = s.sem ∧ (State.clkMark s n).dom = s.dom ∧ (State.clkMark s n).time = s.time ∧ (State.clkMark s n).kp = s.kp ∧ (State.clkMark s n).act = s.act ∧ (State.clkMark s n).mirror = s.mirror := by
  unfold State.clkMark
  simp

@[simp] theorem clkMark_rising (s : State) (n : Nat) (hs : s.regs.rising = true) :
    (State.clkMark s n).regs.rising = true := by
  unfold State.clkMark
  simp (maxDischargeDepth := 60) +contextual [hs]

@[simp] theorem clkLose_keeps (s : State) (y0 : List Nat) :
    (State.clkLose s y0).pending = s.pending ∧ (State.clkLose s y0).sdram = s.sdram ∧ (State.clkLose s y0).fuse = s.fuse ∧ (State.clkLose s y0).sem = s.sem ∧ (State.clkLose s y0).dom = s.dom ∧ (State.clkLose s y0).time = s.time ∧ (State.clkLose s y0).kp = s.kp ∧ (State.clkLose s y0).act = s.act ∧ (State.clkLose s y0).mirror = s.mirror := by
  fun_induction State.clkLose s y0; all_goals first
      | (simp_all +zetaDelta; done)
      | (simp only [*]; (try simp +zetaDelta only []); (repeat' split) <;> simp_all; done)

@[simp] theorem clkLose_rising (s : State) (y0 : List Nat) (hs : s.regs.rising = true) :
    (State.clkLose s y0).regs.rising = true := by
  fun_induction State.clkLose s y0 <;> (simp_all (maxDischargeDepth := 60) +zetaDelta; done)

@[simp] theorem clkSlip_keeps (s : State) (y0 : List Nat) :
    (State.clkSlip s y0).pending = s.pending ∧ (State.clkSlip s y0).sdram = s.sdram ∧ (State.clkSlip s y0).fuse = s.fuse ∧ (State.clkSlip s y0).sem = s.sem ∧ (State.clkSlip s y0).dom = s.dom ∧ (State.clkSlip s y0).time = s.time ∧ (State.clkSlip s y0).kp = s.kp ∧ (State.clkSlip s y0).act = s.act ∧ (State.clkSlip s y0).mirror = s.mirror := by
  fun_induction State.clkSlip s y0; all_goals first
      | (simp_all +zetaDelta; done)
      | (simp only [*]; (try simp +zetaDelta only []); (repeat' split) <;> simp_all; done)

@[simp] theorem clkSlip_rising (s : State) (y0 : List Nat) (hs : s.regs.rising = true) :
    (State.clkSlip s y0).regs.rising = true := by
  fun_induction State.clkSlip s y0 <;> (simp_all (maxDischargeDepth := 60) +zetaDelta; done)

@[simp] theorem setClkout_keeps (s : State) (k : Nat) (x : ClkOut) :
    (State.setClkout s k x).pending = s.pending ∧ (State.setClkout s k x).sdram = s.sdram ∧ (State.setClkout s k x).fuse = s.fuse ∧ (State.setClkout s k x).sem = s.sem ∧ (State.setClkout s k x).dom = s.dom ∧ (State.setClkout s k x).time = s.time ∧ (State.setClkout s k x).kp = s.kp ∧ (State.setClkout s k x).regs = s.regs ∧ (State.setClkout s k x).act = s.act ∧ (State.setClkout s k x).mirror = s.mirror := by
  unfold State.setClkout
  simp

@[simp] theorem clkoutFollow_keeps (s : State) (k : Nat) :
    (State.clkoutFollow s k).pending = s.pending ∧ (State.clkoutFollow s k).sdram = s.sdram ∧ (State.clkoutFollow s k).fuse = s.fuse ∧ (State.clkoutFollow s k).sem = s.sem ∧ (State.clkoutFollow s k).dom = s.dom ∧ (State.clkoutFollow s k).time = s.time ∧ (State.clkoutFollow s k).kp = s.kp ∧ (State.clkoutFollow s k).regs = s.regs ∧ (State.clkoutFollow s k).act = s.act ∧ (State.clkoutFollow s k).mirror = s.mirror := by
  unfold State.clkoutFollow
  simp

@[simp] theorem clkoutSync_keeps (s : State) (k : Nat) :
    (State.clkoutSync s k).pending = s.pending ∧ (State.clkoutSync s k).sdram = s.sdram ∧ (State.clkoutSync s k).fuse = s.fuse ∧ (State.clkoutSync s k).sem = s.sem ∧ (State.clkoutSync s k).dom = s.dom ∧ (State.clkoutSync s k).time = s.time ∧ (State.clkoutSync s k).kp = s.kp ∧ (State.clkoutSync s k).regs = s.regs ∧ (State.clkoutSync s k).act = s.act ∧ (State.clkoutSync s k).mirror = s.mirror := by
  unfold State.clkoutSync
  simp

@[simp] theorem squelchShow_keeps (s : State) :
    (State.squelchShow s).pending = s.pending ∧ (State.squelchShow s).sdram = s.sdram ∧ (State.squelchShow s).fuse = s.fuse ∧ (State.squelchShow s).sem = s.sem ∧ (State.squelchShow s).dom = s.dom ∧ (State.squelchShow s).time = s.time ∧ (State.squelchShow s).kp = s.kp ∧ (State.squelchShow s).regs = s.regs ∧ (State.squelchShow s).act = s.act ∧ (State.squelchShow s).mirror = s.mirror := by
  unfold State.squelchShow
  simp

@[simp] theorem syncApply_keeps (s : State) (d : SyncDue) :
    (State.syncApply s d).pending = s.pending ∧ (State.syncApply s d).sdram = s.sdram ∧ (State.syncApply s d).fuse = s.fuse ∧ (State.syncApply s d).sem = s.sem ∧ (State.syncApply s d).dom = s.dom ∧ (State.syncApply s d).time = s.time ∧ (State.syncApply s d).kp = s.kp ∧ (State.syncApply s d).act = s.act ∧ (State.syncApply s d).mirror = s.mirror := by
  unfold State.syncApply
  simp

@[simp] theorem syncApply_rising (s : State) (d : SyncDue) (hs : s.regs.rising = true) :
    (State.syncApply s d).regs.rising = true := by
  unfold State.syncApply
  simp (maxDischargeDepth := 60) +contextual [hs]

@[simp] theorem syncRun_keeps (s : State) (clk : Nat) :
    (State.syncRun s clk).pending = s.pending ∧ (State.syncRun s clk).sdram = s.sdram ∧ (State.syncRun s clk).fuse = s.fuse ∧ (State.syncRun s clk).sem = s.sem ∧ (State.syncRun s clk).dom = s.dom ∧ (State.syncRun s clk).time = s.time ∧ (State.syncRun s clk).kp = s.kp ∧ (State.syncRun s clk).act = s.act ∧ (State.syncRun s clk).mirror = s.mirror := by
  unfold State.syncRun
  split <;> simp

@[simp] theorem syncRun_rising (s : State) (clk : Nat) (hs : s.regs.rising = true) :
    (State.syncRun s clk).regs.rising = true := by
  unfold State.syncRun
  try dsimp only
  (repeat' split) <;> simp (maxDischargeDepth := 60) +contextual [hs]

@[simp] theorem syncPulse_keeps (s : State) (tick : Nat) :
    (State.syncPulse s tick).pending = s.pending ∧ (State.syncPulse s tick).sdram = s.sdram ∧ (State.syncPulse s tick).fuse = s.fuse ∧ (State.syncPulse s tick).sem = s.sem ∧ (State.syncPulse s tick).dom = s.dom ∧ (State.syncPulse s tick).time = s.time ∧ (State.syncPulse s tick).kp = s.kp ∧ (State.syncPulse s tick).regs = s.regs ∧ (State.syncPulse s tick).act = s.act ∧ (State.syncPulse s tick).mirror = s.mirror := by
  unfold State.syncPulse
  simp

@[simp] theorem clockTick_keeps (s : State) :
    (State.clockTick s).pending = s.pending ∧ (State.clockTick s).sdram = s.sdram ∧ (State.clockTick s).fuse = s.fuse ∧ (State.clockTick s).sem = s.sem ∧ (State.clockTick s).dom = s.dom ∧ (State.clockTick s).time = s.time ∧ (State.clockTick s).kp = s.kp ∧ (State.clockTick s).act = s.act ∧ (State.clockTick s).mirror = s.mirror := by
  unfold State.clockTick
  simp

@[simp] theorem clockTick_rising (s : State) (hs : s.regs.rising = true) :
    (State.clockTick s).regs.rising = true := by
  unfold State.clockTick
  simp (maxDischargeDepth := 60) +contextual [hs]

@[simp] theorem spllBegin_keeps (s : State) :
    (State.spllBegin s).pending = s.pending ∧ (State.spllBegin s).sdram = s.sdram ∧ (State.spllBegin s).fuse = s.fuse ∧ (State.spllBegin s).sem = s.sem ∧ (State.spllBegin s).dom = s.dom ∧ (State.spllBegin s).time = s.time ∧ (State.spllBegin s).kp = s.kp ∧ (State.spllBegin s).act = s.act ∧ (State.spllBegin s).mirror = s.mirror := by
  unfold State.spllBegin
  simp

@[simp] theorem spllBegin_rising (s : State) (hs : s.regs.rising = true) :
    (State.spllBegin s).regs.rising = true := by
  unfold State.spllBegin
  simp (maxDischargeDepth := 60) +contextual [hs]

@[simp] theorem spllRestart_keeps (s : State) (cause : Nat) (entry : Option Nat) :
    (State.spllRestart s cause entry).pending = s.pending ∧ (State.spllRestart s cause entry).sdram = s.sdram ∧ (State.spllRestart s cause entry).fuse = s.fuse ∧ (State.spllRestart s cause entry).sem = s.sem ∧ (State.spllRestart s cause entry).dom = s.dom ∧ (State.spllRestart s cause entry).time = s.time ∧ (State.spllRestart s cause entry).kp = s.kp ∧ (State.spllRestart s cause entry).act = s.act ∧ (State.spllRestart s cause entry).mirror = s.mirror := by
  unfold State.spllRestart
  simp

@[simp] theorem spllRestart_rising (s : State) (cause : Nat) (entry : Option Nat) (hs : s.regs.rising = true) :
    (State.spllRestart s cause entry).regs.rising = true := by
  unfold State.spllRestart
  simp (maxDischargeDepth := 60) +contextual [hs]

@[simp] theorem divChange_keeps (s : State) (v : Nat) (cause : Nat) (entry : Option Nat) :
    (State.divChange s v cause entry).pending = s.pending ∧ (State.divChange s v cause entry).sdram = s.sdram ∧ (State.divChange s v cause entry).fuse = s.fuse ∧ (State.divChange s v cause entry).sem = s.sem ∧ (State.divChange s v cause entry).dom = s.dom ∧ (State.divChange s v cause entry).time = s.time ∧ (State.divChange s v cause entry).kp = s.kp ∧ (State.divChange s v cause entry).act = s.act ∧ (State.divChange s v cause entry).mirror = s.mirror := by
  unfold State.divChange
  simp

@[simp] theorem divChange_rising (s : State) (v : Nat) (cause : Nat) (entry : Option Nat) (hs : s.regs.rising = true) :
    (State.divChange s v cause entry).regs.rising = true := by
  unfold State.divChange
  simp (maxDischargeDepth := 60) +contextual [hs]

@[simp] theorem spllLfWrite_keeps (s : State) (v : Nat) :
    (State.spllLfWrite s v).pending = s.pending ∧ (State.spllLfWrite s v).sdram = s.sdram ∧ (State.spllLfWrite s v).fuse = s.fuse ∧ (State.spllLfWrite s v).sem = s.sem ∧ (State.spllLfWrite s v).dom = s.dom ∧ (State.spllLfWrite s v).time = s.time ∧ (State.spllLfWrite s v).kp = s.kp ∧ (State.spllLfWrite s v).act = s.act ∧ (State.spllLfWrite s v).mirror = s.mirror := by
  unfold State.spllLfWrite
  simp

@[simp] theorem spllLfWrite_rising (s : State) (v : Nat) (hs : s.regs.rising = true) :
    (State.spllLfWrite s v).regs.rising = true := by
  unfold State.spllLfWrite
  simp (maxDischargeDepth := 60) +contextual [hs]

@[simp] theorem spllCtlWrite_keeps (s : State) (v : Nat) :
    (State.spllCtlWrite s v).pending = s.pending ∧ (State.spllCtlWrite s v).sdram = s.sdram ∧ (State.spllCtlWrite s v).fuse = s.fuse ∧ (State.spllCtlWrite s v).sem = s.sem ∧ (State.spllCtlWrite s v).dom = s.dom ∧ (State.spllCtlWrite s v).time = s.time ∧ (State.spllCtlWrite s v).kp = s.kp ∧ (State.spllCtlWrite s v).act = s.act ∧ (State.spllCtlWrite s v).mirror = s.mirror := by
  unfold State.spllCtlWrite
  simp

@[simp] theorem spllCtlWrite_rising (s : State) (v : Nat) (hs : s.regs.rising = true) :
    (State.spllCtlWrite s v).regs.rising = true := by
  unfold State.spllCtlWrite
  simp (maxDischargeDepth := 60) +contextual [hs]

@[simp] theorem spllHopWrite_keeps (s : State) (e : Nat) (v : Nat) :
    (State.spllHopWrite s e v).pending = s.pending ∧ (State.spllHopWrite s e v).sdram = s.sdram ∧ (State.spllHopWrite s e v).fuse = s.fuse ∧ (State.spllHopWrite s e v).sem = s.sem ∧ (State.spllHopWrite s e v).dom = s.dom ∧ (State.spllHopWrite s e v).time = s.time ∧ (State.spllHopWrite s e v).kp = s.kp ∧ (State.spllHopWrite s e v).act = s.act ∧ (State.spllHopWrite s e v).mirror = s.mirror := by
  unfold State.spllHopWrite
  simp

@[simp] theorem spllHopWrite_rising (s : State) (e : Nat) (v : Nat) (hs : s.regs.rising = true) :
    (State.spllHopWrite s e v).regs.rising = true := by
  unfold State.spllHopWrite
  simp (maxDischargeDepth := 60) +contextual [hs]

@[simp] theorem lockInputs_keeps (s : State) (y0 : List Nat) :
    (State.lockInputs s y0).pending = s.pending ∧ (State.lockInputs s y0).sdram = s.sdram ∧ (State.lockInputs s y0).fuse = s.fuse ∧ (State.lockInputs s y0).sem = s.sem ∧ (State.lockInputs s y0).dom = s.dom ∧ (State.lockInputs s y0).time = s.time ∧ (State.lockInputs s y0).kp = s.kp ∧ (State.lockInputs s y0).act = s.act ∧ (State.lockInputs s y0).mirror = s.mirror := by
  fun_induction State.lockInputs s y0; all_goals first
      | (simp_all +zetaDelta; done)
      | (simp only [*]; (try simp +zetaDelta only []); (repeat' split) <;> simp_all; done)

@[simp] theorem lockInputs_rising (s : State) (y0 : List Nat) (hs : s.regs.rising = true) :
    (State.lockInputs s y0).regs.rising = true := by
  fun_induction State.lockInputs s y0 <;> (simp_all (maxDischargeDepth := 60) +zetaDelta; done)

@[simp] theorem convSample_keeps (s : State) (n : Nat) :
    (State.convSample s n).pending = s.pending ∧ (State.convSample s n).sdram = s.sdram ∧ (State.convSample s n).fuse = s.fuse ∧ (State.convSample s n).sem = s.sem ∧ (State.convSample s n).dom = s.dom ∧ (State.convSample s n).time = s.time ∧ (State.convSample s n).kp = s.kp ∧ (State.convSample s n).act = s.act ∧ (State.convSample s n).mirror = s.mirror := by
  unfold State.convSample
  simp

@[simp] theorem convSample_rising (s : State) (n : Nat) (hs : s.regs.rising = true) :
    (State.convSample s n).regs.rising = true := by
  unfold State.convSample
  simp (maxDischargeDepth := 60) +contextual [hs]

@[simp] theorem convBegin_keeps (s : State) (y0 : List Nat) :
    (State.convBegin s y0).pending = s.pending ∧ (State.convBegin s y0).sdram = s.sdram ∧ (State.convBegin s y0).fuse = s.fuse ∧ (State.convBegin s y0).sem = s.sem ∧ (State.convBegin s y0).dom = s.dom ∧ (State.convBegin s y0).time = s.time ∧ (State.convBegin s y0).kp = s.kp ∧ (State.convBegin s y0).act = s.act ∧ (State.convBegin s y0).mirror = s.mirror := by
  fun_induction State.convBegin s y0; all_goals first
      | (simp_all +zetaDelta; done)
      | (simp only [*]; (try simp +zetaDelta only []); (repeat' split) <;> simp_all; done)

@[simp] theorem convBegin_rising (s : State) (y0 : List Nat) (hs : s.regs.rising = true) :
    (State.convBegin s y0).regs.rising = true := by
  fun_induction State.convBegin s y0 <;> (simp_all (maxDischargeDepth := 60) +zetaDelta; done)

@[simp] theorem spllLocked_keeps (s : State) (run : LockRun) :
    (State.spllLocked s run).pending = s.pending ∧ (State.spllLocked s run).sdram = s.sdram ∧ (State.spllLocked s run).fuse = s.fuse ∧ (State.spllLocked s run).sem = s.sem ∧ (State.spllLocked s run).dom = s.dom ∧ (State.spllLocked s run).time = s.time ∧ (State.spllLocked s run).kp = s.kp ∧ (State.spllLocked s run).act = s.act ∧ (State.spllLocked s run).mirror = s.mirror := by
  unfold State.spllLocked
  try dsimp only
  (repeat' split) <;> simp

@[simp] theorem spllLocked_rising (s : State) (run : LockRun) (hs : s.regs.rising = true) :
    (State.spllLocked s run).regs.rising = true := by
  unfold State.spllLocked
  try dsimp only
  (repeat' split) <;> simp (maxDischargeDepth := 60) +contextual [hs]

@[simp] theorem clkoutWrite_keeps (s : State) (off : Nat) (v : Nat) :
    (State.clkoutWrite s off v).pending = s.pending ∧ (State.clkoutWrite s off v).sdram = s.sdram ∧ (State.clkoutWrite s off v).fuse = s.fuse ∧ (State.clkoutWrite s off v).sem = s.sem ∧ (State.clkoutWrite s off v).dom = s.dom ∧ (State.clkoutWrite s off v).time = s.time ∧ (State.clkoutWrite s off v).kp = s.kp ∧ (State.clkoutWrite s off v).act = s.act ∧ (State.clkoutWrite s off v).mirror = s.mirror := by
  unfold State.clkoutWrite
  simp

@[simp] theorem clkoutWrite_rising (s : State) (off : Nat) (v : Nat) (hs : s.regs.rising = true) :
    (State.clkoutWrite s off v).regs.rising = true := by
  unfold State.clkoutWrite
  simp (maxDischargeDepth := 60) +contextual [hs]

@[simp] theorem syncCtlWrite_keeps (s : State) (v : Nat) :
    (State.syncCtlWrite s v).pending = s.pending ∧ (State.syncCtlWrite s v).sdram = s.sdram ∧ (State.syncCtlWrite s v).fuse = s.fuse ∧ (State.syncCtlWrite s v).sem = s.sem ∧ (State.syncCtlWrite s v).dom = s.dom ∧ (State.syncCtlWrite s v).time = s.time ∧ (State.syncCtlWrite s v).kp = s.kp ∧ (State.syncCtlWrite s v).act = s.act ∧ (State.syncCtlWrite s v).mirror = s.mirror := by
  unfold State.syncCtlWrite
  simp

@[simp] theorem syncCtlWrite_rising (s : State) (v : Nat) (hs : s.regs.rising = true) :
    (State.syncCtlWrite s v).regs.rising = true := by
  unfold State.syncCtlWrite
  simp (maxDischargeDepth := 60) +contextual [hs]

@[simp] theorem syncTake_keeps (s : State) (applied : Nat) (moved : Bool) :
    (State.syncTake s applied moved).pending = s.pending ∧ (State.syncTake s applied moved).sdram = s.sdram ∧ (State.syncTake s applied moved).fuse = s.fuse ∧ (State.syncTake s applied moved).sem = s.sem ∧ (State.syncTake s applied moved).dom = s.dom ∧ (State.syncTake s applied moved).time = s.time ∧ (State.syncTake s applied moved).kp = s.kp ∧ (State.syncTake s applied moved).act = s.act ∧ (State.syncTake s applied moved).mirror = s.mirror := by
  unfold State.syncTake
  simp

@[simp] theorem syncTake_rising (s : State) (applied : Nat) (moved : Bool) (hs : s.regs.rising = true) :
    (State.syncTake s applied moved).regs.rising = true := by
  unfold State.syncTake
  simp (maxDischargeDepth := 60) +contextual [hs]
end Sys2Proof.Machine.State
end

