-- ==== Sys2Proof/Laws/KeepCal.lean ====
section
/-! SUPPORT. What the operations of Machine/Cal.lean leave alone: memory, fuses, semaphores, domains, time, the queue. -/

namespace Sys2Proof.Machine.State

@[simp] theorem clearValid_keeps (s : State) :
    (State.clearValid s).pending = s.pending ∧ (State.clearValid s).sdram = s.sdram ∧ (State.clearValid s).fuse = s.fuse ∧ (State.clearValid s).sem = s.sem ∧ (State.clearValid s).dom = s.dom ∧ (State.clearValid s).time = s.time ∧ (State.clearValid s).kp = s.kp ∧ (State.clearValid s).act = s.act ∧ (State.clearValid s).mirror = s.mirror := by
  unfold State.clearValid
  simp

@[simp] theorem clearValid_rising (s : State) (hs : s.regs.rising = true) :
    (State.clearValid s).regs.rising = true := by
  unfold State.clearValid
  simp (maxDischargeDepth := 60) +contextual [hs]

@[simp] theorem groupReady_keeps (s : State) (r : CalRun) :
    (State.groupReady s r).pending = s.pending ∧ (State.groupReady s r).sdram = s.sdram ∧ (State.groupReady s r).fuse = s.fuse ∧ (State.groupReady s r).sem = s.sem ∧ (State.groupReady s r).dom = s.dom ∧ (State.groupReady s r).time = s.time ∧ (State.groupReady s r).kp = s.kp ∧ (State.groupReady s r).act = s.act ∧ (State.groupReady s r).mirror = s.mirror := by
  unfold State.groupReady
  simp

@[simp] theorem groupReady_rising (s : State) (r : CalRun) (hs : s.regs.rising = true) :
    (State.groupReady s r).regs.rising = true := by
  unfold State.groupReady
  simp (maxDischargeDepth := 60) +contextual [hs]

@[simp] theorem calRefuse_keeps (s : State) (code : Nat) :
    (State.calRefuse s code).pending = s.pending ∧ (State.calRefuse s code).sdram = s.sdram ∧ (State.calRefuse s code).fuse = s.fuse ∧ (State.calRefuse s code).sem = s.sem ∧ (State.calRefuse s code).dom = s.dom ∧ (State.calRefuse s code).time = s.time ∧ (State.calRefuse s code).kp = s.kp ∧ (State.calRefuse s code).act = s.act ∧ (State.calRefuse s code).mirror = s.mirror := by
  unfold State.calRefuse
  simp

@[simp] theorem calRefuse_rising (s : State) (code : Nat) (hs : s.regs.rising = true) :
    (State.calRefuse s code).regs.rising = true := by
  unfold State.calRefuse
  simp (maxDischargeDepth := 60) +contextual [hs]

@[simp] theorem calGo_keeps (s : State) :
    (State.calGo s).pending = s.pending ∧ (State.calGo s).sdram = s.sdram ∧ (State.calGo s).fuse = s.fuse ∧ (State.calGo s).sem = s.sem ∧ (State.calGo s).dom = s.dom ∧ (State.calGo s).time = s.time ∧ (State.calGo s).kp = s.kp ∧ (State.calGo s).act = s.act ∧ (State.calGo s).mirror = s.mirror := by
  unfold State.calGo
  simp

@[simp] theorem calGo_rising (s : State) (hs : s.regs.rising = true) :
    (State.calGo s).regs.rising = true := by
  unfold State.calGo
  simp (maxDischargeDepth := 60) +contextual [hs]

@[simp] theorem pointResult_keeps (s : State) (n : Nat) (i : Nat) (a : Reading) (b : Reading) :
    (State.pointResult s n i a b).1.pending = s.pending ∧ (State.pointResult s n i a b).1.sdram = s.sdram ∧ (State.pointResult s n i a b).1.fuse = s.fuse ∧ (State.pointResult s n i a b).1.sem = s.sem ∧ (State.pointResult s n i a b).1.dom = s.dom ∧ (State.pointResult s n i a b).1.time = s.time ∧ (State.pointResult s n i a b).1.kp = s.kp ∧ (State.pointResult s n i a b).1.act = s.act ∧ (State.pointResult s n i a b).1.mirror = s.mirror := by
  unfold State.pointResult
  simp

@[simp] theorem pointResult_rising (s : State) (n : Nat) (i : Nat) (a : Reading) (b : Reading) (hs : s.regs.rising = true) :
    (State.pointResult s n i a b).1.regs.rising = true := by
  unfold State.pointResult
  simp (maxDischargeDepth := 60) +contextual [hs]

@[simp] theorem compareInput_keeps (s : State) (n : Nat) (first : Tab (Option Reading)) (rs : List (Nat × Int × Int)) (y0 : List Nat) (y1 : Nat) :
    (State.compareInput s n first rs y0 y1).1.pending = s.pending ∧ (State.compareInput s n first rs y0 y1).1.sdram = s.sdram ∧ (State.compareInput s n first rs y0 y1).1.fuse = s.fuse ∧ (State.compareInput s n first rs y0 y1).1.sem = s.sem ∧ (State.compareInput s n first rs y0 y1).1.dom = s.dom ∧ (State.compareInput s n first rs y0 y1).1.time = s.time ∧ (State.compareInput s n first rs y0 y1).1.kp = s.kp ∧ (State.compareInput s n first rs y0 y1).1.act = s.act ∧ (State.compareInput s n first rs y0 y1).1.mirror = s.mirror := by
  fun_induction State.compareInput s n first rs y0 y1; all_goals first
      | (simp_all +zetaDelta; done)
      | (simp only [*]; (try simp +zetaDelta only []); (repeat' split) <;> simp_all; done)

@[simp] theorem compareInput_rising (s : State) (n : Nat) (first : Tab (Option Reading)) (rs : List (Nat × Int × Int)) (y0 : List Nat) (y1 : Nat) (hs : s.regs.rising = true) :
    (State.compareInput s n first rs y0 y1).1.regs.rising = true := by
  fun_induction State.compareInput s n first rs y0 y1 <;> (simp_all (maxDischargeDepth := 60) +zetaDelta; done)

@[simp] theorem compareGroup_keeps (s : State) (r : CalRun) (rs : List (Nat × Int × Int)) (y0 : List Nat) :
    (State.compareGroup s r rs y0).1.pending = s.pending ∧ (State.compareGroup s r rs y0).1.sdram = s.sdram ∧ (State.compareGroup s r rs y0).1.fuse = s.fuse ∧ (State.compareGroup s r rs y0).1.sem = s.sem ∧ (State.compareGroup s r rs y0).1.dom = s.dom ∧ (State.compareGroup s r rs y0).1.time = s.time ∧ (State.compareGroup s r rs y0).1.kp = s.kp ∧ (State.compareGroup s r rs y0).1.act = s.act ∧ (State.compareGroup s r rs y0).1.mirror = s.mirror := by
  fun_induction State.compareGroup s r rs y0; all_goals first
      | (simp_all +zetaDelta; done)
      | (simp only [*]; (try simp +zetaDelta only []); (repeat' split) <;> simp_all; done)

@[simp] theorem compareGroup_rising (s : State) (r : CalRun) (rs : List (Nat × Int × Int)) (y0 : List Nat) (hs : s.regs.rising = true) :
    (State.compareGroup s r rs y0).1.regs.rising = true := by
  fun_induction State.compareGroup s r rs y0 <;> (simp_all (maxDischargeDepth := 60) +zetaDelta; done)

@[simp] theorem calCommit_keeps (s : State) :
    (State.calCommit s).pending = s.pending ∧ (State.calCommit s).sdram = s.sdram ∧ (State.calCommit s).fuse = s.fuse ∧ (State.calCommit s).sem = s.sem ∧ (State.calCommit s).dom = s.dom ∧ (State.calCommit s).time = s.time ∧ (State.calCommit s).kp = s.kp ∧ (State.calCommit s).act = s.act ∧ (State.calCommit s).mirror = s.mirror := by
  unfold State.calCommit
  try dsimp only
  (repeat' split) <;> simp

@[simp] theorem calCommit_rising (s : State) (hs : s.regs.rising = true) :
    (State.calCommit s).regs.rising = true := by
  unfold State.calCommit
  try dsimp only
  (repeat' split) <;> simp (maxDischargeDepth := 60) +contextual [hs]

@[simp] theorem calInForce_keeps (s : State) (x : CalSet) (slotB : Bool) :
    (State.calInForce s x slotB).pending = s.pending ∧ (State.calInForce s x slotB).sdram = s.sdram ∧ (State.calInForce s x slotB).fuse = s.fuse ∧ (State.calInForce s x slotB).sem = s.sem ∧ (State.calInForce s x slotB).dom = s.dom ∧ (State.calInForce s x slotB).time = s.time ∧ (State.calInForce s x slotB).kp = s.kp ∧ (State.calInForce s x slotB).act = s.act ∧ (State.calInForce s x slotB).mirror = s.mirror := by
  unfold State.calInForce
  simp

@[simp] theorem calInForce_rising (s : State) (x : CalSet) (slotB : Bool) (hs : s.regs.rising = true) :
    (State.calInForce s x slotB).regs.rising = true := by
  unfold State.calInForce
  simp (maxDischargeDepth := 60) +contextual [hs]

@[simp] theorem calAccept_keeps (s : State) (r : CalRun) (sums : Tab (Int × Int)) :
    (State.calAccept s r sums).pending = s.pending ∧ (State.calAccept s r sums).sdram = s.sdram ∧ (State.calAccept s r sums).fuse = s.fuse ∧ (State.calAccept s r sums).sem = s.sem ∧ (State.calAccept s r sums).dom = s.dom ∧ (State.calAccept s r sums).kp = s.kp ∧ (State.calAccept s r sums).act = s.act ∧ (State.calAccept s r sums).mirror = s.mirror := by
  unfold State.calAccept
  simp

@[simp] theorem calAccept_rising (s : State) (r : CalRun) (sums : Tab (Int × Int)) (hs : s.regs.rising = true) :
    (State.calAccept s r sums).regs.rising = true := by
  unfold State.calAccept
  simp (maxDischargeDepth := 60) +contextual [hs]

@[simp] theorem calCompare_keeps (s : State) (r : CalRun) (rs : List (Nat × Int × Int)) :
    (State.calCompare s r rs).pending = s.pending ∧ (State.calCompare s r rs).sdram = s.sdram ∧ (State.calCompare s r rs).fuse = s.fuse ∧ (State.calCompare s r rs).sem = s.sem ∧ (State.calCompare s r rs).dom = s.dom ∧ (State.calCompare s r rs).kp = s.kp ∧ (State.calCompare s r rs).act = s.act ∧ (State.calCompare s r rs).mirror = s.mirror := by
  unfold State.calCompare
  try dsimp only
  (repeat' split) <;> simp

@[simp] theorem calCompare_rising (s : State) (r : CalRun) (rs : List (Nat × Int × Int)) (hs : s.regs.rising = true) :
    (State.calCompare s r rs).regs.rising = true := by
  unfold State.calCompare
  try dsimp only
  (repeat' split) <;> simp (maxDischargeDepth := 60) +contextual [hs]

@[simp] theorem calPass_keeps (s : State) (r : CalRun) (rs : List (Nat × Int × Int)) (invalid : Bool) (overranged : Bool) :
    (State.calPass s r rs invalid overranged).pending = s.pending ∧ (State.calPass s r rs invalid overranged).sdram = s.sdram ∧ (State.calPass s r rs invalid overranged).fuse = s.fuse ∧ (State.calPass s r rs invalid overranged).sem = s.sem ∧ (State.calPass s r rs invalid overranged).dom = s.dom ∧ (State.calPass s r rs invalid overranged).kp = s.kp ∧ (State.calPass s r rs invalid overranged).act = s.act ∧ (State.calPass s r rs invalid overranged).mirror = s.mirror := by
  unfold State.calPass
  simp

@[simp] theorem calPass_rising (s : State) (r : CalRun) (rs : List (Nat × Int × Int)) (invalid : Bool) (overranged : Bool) (hs : s.regs.rising = true) :
    (State.calPass s r rs invalid overranged).regs.rising = true := by
  unfold State.calPass
  simp (maxDischargeDepth := 60) +contextual [hs]

@[simp] theorem calCtlWrite_keeps (s : State) (v : Nat) :
    (State.calCtlWrite s v).pending = s.pending ∧ (State.calCtlWrite s v).sdram = s.sdram ∧ (State.calCtlWrite s v).fuse = s.fuse ∧ (State.calCtlWrite s v).sem = s.sem ∧ (State.calCtlWrite s v).dom = s.dom ∧ (State.calCtlWrite s v).time = s.time ∧ (State.calCtlWrite s v).kp = s.kp ∧ (State.calCtlWrite s v).act = s.act ∧ (State.calCtlWrite s v).mirror = s.mirror := by
  unfold State.calCtlWrite
  try dsimp only
  (repeat' split) <;> simp

@[simp] theorem calCtlWrite_rising (s : State) (v : Nat) (hs : s.regs.rising = true) :
    (State.calCtlWrite s v).regs.rising = true := by
  unfold State.calCtlWrite
  try dsimp only
  (repeat' split) <;> simp (maxDischargeDepth := 60) +contextual [hs]

@[simp] theorem calPreempt_keeps (s : State) (p : Nat) :
    (State.calPreempt s p).pending = s.pending ∧ (State.calPreempt s p).sdram = s.sdram ∧ (State.calPreempt s p).fuse = s.fuse ∧ (State.calPreempt s p).sem = s.sem ∧ (State.calPreempt s p).dom = s.dom ∧ (State.calPreempt s p).time = s.time ∧ (State.calPreempt s p).kp = s.kp ∧ (State.calPreempt s p).act = s.act ∧ (State.calPreempt s p).mirror = s.mirror := by
  unfold State.calPreempt
  try dsimp only
  (repeat' split) <;> simp

@[simp] theorem calPreempt_rising (s : State) (p : Nat) (hs : s.regs.rising = true) :
    (State.calPreempt s p).regs.rising = true := by
  unfold State.calPreempt
  try dsimp only
  (repeat' split) <;> simp (maxDischargeDepth := 60) +contextual [hs]

@[simp] theorem staleEval_keeps (s : State) (n : Nat) :
    (State.staleEval s n).pending = s.pending ∧ (State.staleEval s n).sdram = s.sdram ∧ (State.staleEval s n).fuse = s.fuse ∧ (State.staleEval s n).sem = s.sem ∧ (State.staleEval s n).dom = s.dom ∧ (State.staleEval s n).time = s.time ∧ (State.staleEval s n).kp = s.kp ∧ (State.staleEval s n).act = s.act ∧ (State.staleEval s n).mirror = s.mirror := by
  unfold State.staleEval
  simp

@[simp] theorem staleEval_rising (s : State) (n : Nat) (hs : s.regs.rising = true) :
    (State.staleEval s n).regs.rising = true := by
  unfold State.staleEval
  simp (maxDischargeDepth := 60) +contextual [hs]

@[simp] theorem calStWrite_keeps (s : State) (p : Port) (v : Nat) :
    (State.calStWrite s p v).pending = s.pending ∧ (State.calStWrite s p v).sdram = s.sdram ∧ (State.calStWrite s p v).fuse = s.fuse ∧ (State.calStWrite s p v).sem = s.sem ∧ (State.calStWrite s p v).dom = s.dom ∧ (State.calStWrite s p v).time = s.time ∧ (State.calStWrite s p v).kp = s.kp ∧ (State.calStWrite s p v).act = s.act ∧ (State.calStWrite s p v).mirror = s.mirror := by
  unfold State.calStWrite
  try dsimp only
  (repeat' split) <;> simp

@[simp] theorem calStWrite_rising (s : State) (p : Port) (v : Nat) (hs : s.regs.rising = true) :
    (State.calStWrite s p v).regs.rising = true := by
  unfold State.calStWrite
  try dsimp only
  (repeat' split) <;> simp (maxDischargeDepth := 60) +contextual [hs]

@[simp] theorem storePut_keeps (s : State) (a : Nat) (x : List Byte) :
    (State.storePut s a x).pending = s.pending ∧ (State.storePut s a x).sdram = s.sdram ∧ (State.storePut s a x).fuse = s.fuse ∧ (State.storePut s a x).sem = s.sem ∧ (State.storePut s a x).dom = s.dom ∧ (State.storePut s a x).time = s.time ∧ (State.storePut s a x).kp = s.kp ∧ (State.storePut s a x).regs = s.regs ∧ (State.storePut s a x).act = s.act ∧ (State.storePut s a x).mirror = s.mirror := by
  unfold State.storePut
  try dsimp only
  (repeat' split) <;> simp

@[simp] theorem storeEnd_keeps (s : State) (code : Nat) (event : Nat) :
    (State.storeEnd s code event).pending = s.pending ∧ (State.storeEnd s code event).sdram = s.sdram ∧ (State.storeEnd s code event).fuse = s.fuse ∧ (State.storeEnd s code event).sem = s.sem ∧ (State.storeEnd s code event).dom = s.dom ∧ (State.storeEnd s code event).time = s.time ∧ (State.storeEnd s code event).kp = s.kp ∧ (State.storeEnd s code event).act = s.act ∧ (State.storeEnd s code event).mirror = s.mirror := by
  unfold State.storeEnd
  simp

@[simp] theorem storeEnd_rising (s : State) (code : Nat) (event : Nat) (hs : s.regs.rising = true) :
    (State.storeEnd s code event).regs.rising = true := by
  unfold State.storeEnd
  simp (maxDischargeDepth := 60) +contextual [hs]

@[simp] theorem storeFetchFail_keeps (s : State) (got : List Byte) :
    (State.storeFetchFail s got).pending = s.pending ∧ (State.storeFetchFail s got).sdram = s.sdram ∧ (State.storeFetchFail s got).fuse = s.fuse ∧ (State.storeFetchFail s got).sem = s.sem ∧ (State.storeFetchFail s got).dom = s.dom ∧ (State.storeFetchFail s got).time = s.time ∧ (State.storeFetchFail s got).kp = s.kp ∧ (State.storeFetchFail s got).act = s.act ∧ (State.storeFetchFail s got).mirror = s.mirror := by
  unfold State.storeFetchFail
  try dsimp only
  (repeat' split) <;> simp

@[simp] theorem storeFetchFail_rising (s : State) (got : List Byte) (hs : s.regs.rising = true) :
    (State.storeFetchFail s got).regs.rising = true := by
  unfold State.storeFetchFail
  try dsimp only
  (repeat' split) <;> simp (maxDischargeDepth := 60) +contextual [hs]

@[simp] theorem storePortLost_keeps (s : State) (p : Port) :
    (State.storePortLost s p).pending = s.pending ∧ (State.storePortLost s p).sdram = s.sdram ∧ (State.storePortLost s p).fuse = s.fuse ∧ (State.storePortLost s p).sem = s.sem ∧ (State.storePortLost s p).dom = s.dom ∧ (State.storePortLost s p).time = s.time ∧ (State.storePortLost s p).kp = s.kp ∧ (State.storePortLost s p).act = s.act ∧ (State.storePortLost s p).mirror = s.mirror := by
  unfold State.storePortLost
  try dsimp only
  (repeat' split) <;> simp

@[simp] theorem storePortLost_rising (s : State) (p : Port) (hs : s.regs.rising = true) :
    (State.storePortLost s p).regs.rising = true := by
  unfold State.storePortLost
  try dsimp only
  (repeat' split) <;> simp (maxDischargeDepth := 60) +contextual [hs]
end Sys2Proof.Machine.State
end

