-- ==== Sys2Proof/Laws/KeepDma.lean ====
section
/-! SUPPORT. What the operations of Machine/Dma.lean leave alone: memory, fuses, semaphores, domains, time, the queue. -/

namespace Sys2Proof.Machine.State

@[simp] theorem setChan_keeps (s : State) (n : Nat) (x : DmaSt) :
    (State.setChan s n x).pending = s.pending ∧ (State.setChan s n x).sdram = s.sdram ∧ (State.setChan s n x).fuse = s.fuse ∧ (State.setChan s n x).sem = s.sem ∧ (State.setChan s n x).dom = s.dom ∧ (State.setChan s n x).time = s.time ∧ (State.setChan s n x).kp = s.kp ∧ (State.setChan s n x).regs = s.regs ∧ (State.setChan s n x).act = s.act ∧ (State.setChan s n x).mirror = s.mirror := by
  unfold State.setChan
  simp

@[simp] theorem dmaShow_keeps (s : State) (n : Nat) :
    (State.dmaShow s n).pending = s.pending ∧ (State.dmaShow s n).sdram = s.sdram ∧ (State.dmaShow s n).fuse = s.fuse ∧ (State.dmaShow s n).sem = s.sem ∧ (State.dmaShow s n).dom = s.dom ∧ (State.dmaShow s n).time = s.time ∧ (State.dmaShow s n).kp = s.kp ∧ (State.dmaShow s n).act = s.act ∧ (State.dmaShow s n).mirror = s.mirror := by
  unfold State.dmaShow
  try dsimp only
  (repeat' split) <;> simp

@[simp] theorem dmaShow_rising (s : State) (n : Nat) (hs : s.regs.rising = true) :
    (State.dmaShow s n).regs.rising = true := by
  unfold State.dmaShow
  try dsimp only
  (repeat' split) <;> simp (maxDischargeDepth := 60) +contextual [hs]

@[simp] theorem dmaPost_keeps (s : State) (n : Nat) (x : DmaSt) (d : DmaDesc) (e : DmaEnd) :
    (State.dmaPost s n x d e).1.pending = s.pending ∧ (State.dmaPost s n x d e).1.sdram = s.sdram ∧ (State.dmaPost s n x d e).1.fuse = s.fuse ∧ (State.dmaPost s n x d e).1.sem = s.sem ∧ (State.dmaPost s n x d e).1.dom = s.dom ∧ (State.dmaPost s n x d e).1.time = s.time ∧ (State.dmaPost s n x d e).1.kp = s.kp ∧ (State.dmaPost s n x d e).1.act = s.act ∧ (State.dmaPost s n x d e).1.mirror = s.mirror := by
  unfold State.dmaPost
  simp

@[simp] theorem dmaPost_rising (s : State) (n : Nat) (x : DmaSt) (d : DmaDesc) (e : DmaEnd) (hs : s.regs.rising = true) :
    (State.dmaPost s n x d e).1.regs.rising = true := by
  unfold State.dmaPost
  simp (maxDischargeDepth := 60) +contextual [hs]

@[simp] theorem ringGo_keeps (s : State) (n : Nat) (d : DmaDesc) (m : Nat) :
    (State.ringGo s n d m).pending = s.pending ∧ (State.ringGo s n d m).sdram = s.sdram ∧ (State.ringGo s n d m).fuse = s.fuse ∧ (State.ringGo s n d m).sem = s.sem ∧ (State.ringGo s n d m).dom = s.dom ∧ (State.ringGo s n d m).time = s.time ∧ (State.ringGo s n d m).kp = s.kp ∧ (State.ringGo s n d m).mirror = s.mirror := by
  unfold State.ringGo
  simp

@[simp] theorem ringGo_rising (s : State) (n : Nat) (d : DmaDesc) (m : Nat) (hs : s.regs.rising = true) :
    (State.ringGo s n d m).regs.rising = true := by
  unfold State.ringGo
  simp (maxDischargeDepth := 60) +contextual [hs]

@[simp] theorem ringGo_actRising (s : State) (n : Nat) (d : DmaDesc) (m : Nat) (hr : s.regs.rising = true) (hs : s.act.rising = true) :
    (State.ringGo s n d m).act.rising = true := by
  unfold State.ringGo
  simp (maxDischargeDepth := 60) +contextual [hr, hs]

@[simp] theorem withdrawCheck_keeps (s : State) (n : Nat) :
    (State.withdrawCheck s n).pending = s.pending ∧ (State.withdrawCheck s n).sdram = s.sdram ∧ (State.withdrawCheck s n).fuse = s.fuse ∧ (State.withdrawCheck s n).sem = s.sem ∧ (State.withdrawCheck s n).dom = s.dom ∧ (State.withdrawCheck s n).time = s.time ∧ (State.withdrawCheck s n).kp = s.kp ∧ (State.withdrawCheck s n).act = s.act ∧ (State.withdrawCheck s n).mirror = s.mirror := by
  unfold State.withdrawCheck
  try dsimp only
  (repeat' split) <;> simp

@[simp] theorem withdrawCheck_rising (s : State) (n : Nat) (hs : s.regs.rising = true) :
    (State.withdrawCheck s n).regs.rising = true := by
  unfold State.withdrawCheck
  try dsimp only
  (repeat' split) <;> simp (maxDischargeDepth := 60) +contextual [hs]

@[simp] theorem wordsWrite_keeps_pending (w : State → Nat → Word → State) (s : State) (a : Nat) (y0 : List Word) (h_w : ∀ (z0 : State) (z1 : Nat) (z2 : Word), (w z0 z1 z2).pending = z0.pending) :
    (State.wordsWrite w s a y0).pending = s.pending := by
  fun_induction State.wordsWrite w s a y0; all_goals first
      | (simp_all +zetaDelta; done)
      | (simp only [*]; (try simp +zetaDelta only []); (repeat' split) <;> simp_all; done)

@[simp] theorem wordsWrite_keeps_sdram (w : State → Nat → Word → State) (s : State) (a : Nat) (y0 : List Word) (h_w : ∀ (z0 : State) (z1 : Nat) (z2 : Word), (w z0 z1 z2).sdram = z0.sdram) :
    (State.wordsWrite w s a y0).sdram = s.sdram := by
  fun_induction State.wordsWrite w s a y0; all_goals first
      | (simp_all +zetaDelta; done)
      | (simp only [*]; (try simp +zetaDelta only []); (repeat' split) <;> simp_all; done)

@[simp] theorem wordsWrite_keeps_fuse (w : State → Nat → Word → State) (s : State) (a : Nat) (y0 : List Word) (h_w : ∀ (z0 : State) (z1 : Nat) (z2 : Word), (w z0 z1 z2).fuse = z0.fuse) :
    (State.wordsWrite w s a y0).fuse = s.fuse := by
  fun_induction State.wordsWrite w s a y0; all_goals first
      | (simp_all +zetaDelta; done)
      | (simp only [*]; (try simp +zetaDelta only []); (repeat' split) <;> simp_all; done)

@[simp] theorem wordsWrite_keeps_sem (w : State → Nat → Word → State) (s : State) (a : Nat) (y0 : List Word) (h_w : ∀ (z0 : State) (z1 : Nat) (z2 : Word), (w z0 z1 z2).sem = z0.sem) :
    (State.wordsWrite w s a y0).sem = s.sem := by
  fun_induction State.wordsWrite w s a y0; all_goals first
      | (simp_all +zetaDelta; done)
      | (simp only [*]; (try simp +zetaDelta only []); (repeat' split) <;> simp_all; done)

@[simp] theorem wordsWrite_keeps_dom (w : State → Nat → Word → State) (s : State) (a : Nat) (y0 : List Word) (h_w : ∀ (z0 : State) (z1 : Nat) (z2 : Word), (w z0 z1 z2).dom = z0.dom) :
    (State.wordsWrite w s a y0).dom = s.dom := by
  fun_induction State.wordsWrite w s a y0; all_goals first
      | (simp_all +zetaDelta; done)
      | (simp only [*]; (try simp +zetaDelta only []); (repeat' split) <;> simp_all; done)

@[simp] theorem wordsWrite_keeps_time (w : State → Nat → Word → State) (s : State) (a : Nat) (y0 : List Word) (h_w : ∀ (z0 : State) (z1 : Nat) (z2 : Word), (w z0 z1 z2).time = z0.time) :
    (State.wordsWrite w s a y0).time = s.time := by
  fun_induction State.wordsWrite w s a y0; all_goals first
      | (simp_all +zetaDelta; done)
      | (simp only [*]; (try simp +zetaDelta only []); (repeat' split) <;> simp_all; done)

@[simp] theorem wordsWrite_keeps_kp (w : State → Nat → Word → State) (s : State) (a : Nat) (y0 : List Word) (h_w : ∀ (z0 : State) (z1 : Nat) (z2 : Word), (w z0 z1 z2).kp = z0.kp) :
    (State.wordsWrite w s a y0).kp = s.kp := by
  fun_induction State.wordsWrite w s a y0; all_goals first
      | (simp_all +zetaDelta; done)
      | (simp only [*]; (try simp +zetaDelta only []); (repeat' split) <;> simp_all; done)

@[simp] theorem wordsWrite_keeps_regs (w : State → Nat → Word → State) (s : State) (a : Nat) (y0 : List Word) (h_w : ∀ (z0 : State) (z1 : Nat) (z2 : Word), (w z0 z1 z2).regs = z0.regs) :
    (State.wordsWrite w s a y0).regs = s.regs := by
  fun_induction State.wordsWrite w s a y0; all_goals first
      | (simp_all +zetaDelta; done)
      | (simp only [*]; (try simp +zetaDelta only []); (repeat' split) <;> simp_all; done)

@[simp] theorem wordsWrite_keeps_act (w : State → Nat → Word → State) (s : State) (a : Nat) (y0 : List Word) (h_w : ∀ (z0 : State) (z1 : Nat) (z2 : Word), (w z0 z1 z2).act = z0.act) :
    (State.wordsWrite w s a y0).act = s.act := by
  fun_induction State.wordsWrite w s a y0; all_goals first
      | (simp_all +zetaDelta; done)
      | (simp only [*]; (try simp +zetaDelta only []); (repeat' split) <;> simp_all; done)

@[simp] theorem wordsWrite_keeps_mirror (w : State → Nat → Word → State) (s : State) (a : Nat) (y0 : List Word) (h_w : ∀ (z0 : State) (z1 : Nat) (z2 : Word), (w z0 z1 z2).mirror = z0.mirror) :
    (State.wordsWrite w s a y0).mirror = s.mirror := by
  fun_induction State.wordsWrite w s a y0; all_goals first
      | (simp_all +zetaDelta; done)
      | (simp only [*]; (try simp +zetaDelta only []); (repeat' split) <;> simp_all; done)

@[simp] theorem wordsWrite_rising (w : State → Nat → Word → State) (s : State) (a : Nat) (vs : List Word) (hs : s.regs.rising = true)
    (hw : ∀ s a v, s.regs.rising = true → (w s a v).regs.rising = true) : (wordsWrite w s a vs).regs.rising = true := by
  induction vs generalizing s a with
  | nil => exact hs
  | cons v vs ih => exact ih _ _ (hw _ _ _ hs)

@[simp] theorem wordsWrite_mirrorWf (w : State → Nat → Word → State) (s : State) (a : Nat) (vs : List Word) (hs : s.mirror.words.wf 0#32 = true)
    (hw : ∀ s a v, s.mirror.words.wf 0#32 = true → (w s a v).mirror.words.wf 0#32 = true) : (wordsWrite w s a vs).mirror.words.wf 0#32 = true := by
  induction vs generalizing s a with
  | nil => exact hs
  | cons v vs ih => exact ih _ _ (hw _ _ _ hs)

@[simp] theorem dstWrite_keeps (s : State) (x : DmaSt) (d : DmaDesc) (a : Nat) (b : List Byte) :
    (State.dstWrite s x d a b).pending = s.pending ∧ (State.dstWrite s x d a b).fuse = s.fuse ∧ (State.dstWrite s x d a b).sem = s.sem ∧ (State.dstWrite s x d a b).dom = s.dom ∧ (State.dstWrite s x d a b).time = s.time ∧ (State.dstWrite s x d a b).act = s.act ∧ (State.dstWrite s x d a b).mirror = s.mirror := by
  unfold State.dstWrite
  try dsimp only
  (repeat' split) <;> simp

@[simp] theorem dstWrite_rising (s : State) (x : DmaSt) (d : DmaDesc) (a : Nat) (b : List Byte) (hs : s.regs.rising = true) :
    (State.dstWrite s x d a b).regs.rising = true := by
  unfold State.dstWrite
  try dsimp only
  (repeat' split) <;> simp (maxDischargeDepth := 60) +contextual [hs]

@[simp] theorem dstWrite_sdramWf (s : State) (x : DmaSt) (d : DmaDesc) (a : Nat) (b : List Byte) (hs : s.sdram.wf 0#8 = true) :
    (State.dstWrite s x d a b).sdram.wf 0#8 = true := by
  unfold State.dstWrite
  try dsimp only
  (repeat' split) <;> simp (maxDischargeDepth := 60) +contextual [hs]

@[simp] theorem burstEnd_keeps (s : State) (n : Nat) (x : DmaSt) (d : DmaDesc) :
    (State.burstEnd s n x d).pending = s.pending ∧ (State.burstEnd s n x d).sdram = s.sdram ∧ (State.burstEnd s n x d).fuse = s.fuse ∧ (State.burstEnd s n x d).sem = s.sem ∧ (State.burstEnd s n x d).dom = s.dom ∧ (State.burstEnd s n x d).time = s.time ∧ (State.burstEnd s n x d).kp = s.kp ∧ (State.burstEnd s n x d).regs = s.regs ∧ (State.burstEnd s n x d).act = s.act ∧ (State.burstEnd s n x d).mirror = s.mirror := by
  unfold State.burstEnd
  simp

@[simp] theorem beatFail_keeps (s : State) (n : Nat) (x : DmaSt) (d : DmaDesc) (m : Nat) (status : Nat) (cause : Nat) (addr : Nat) :
    (State.beatFail s n x d m status cause addr).pending = s.pending ∧ (State.beatFail s n x d m status cause addr).sdram = s.sdram ∧ (State.beatFail s n x d m status cause addr).fuse = s.fuse ∧ (State.beatFail s n x d m status cause addr).sem = s.sem ∧ (State.beatFail s n x d m status cause addr).dom = s.dom ∧ (State.beatFail s n x d m status cause addr).time = s.time ∧ (State.beatFail s n x d m status cause addr).kp = s.kp ∧ (State.beatFail s n x d m status cause addr).regs = s.regs ∧ (State.beatFail s n x d m status cause addr).act = s.act ∧ (State.beatFail s n x d m status cause addr).mirror = s.mirror := by
  unfold State.beatFail
  simp

@[simp] theorem beatOk_keeps (s : State) (n : Nat) (x : DmaSt) (d : DmaDesc) (rem m : Nat) :
    (State.beatOk s n x d rem m).pending = s.pending ∧ (State.beatOk s n x d rem m).fuse = s.fuse ∧ (State.beatOk s n x d rem m).sem = s.sem ∧ (State.beatOk s n x d rem m).dom = s.dom ∧ (State.beatOk s n x d rem m).time = s.time ∧ (State.beatOk s n x d rem m).mirror = s.mirror := by
  unfold State.beatOk
  simp

@[simp] theorem beatOk_sdramWf (s : State) (n : Nat) (x : DmaSt) (d : DmaDesc) (rem m : Nat) (hs : s.sdram.wf 0#8 = true) :
    (State.beatOk s n x d rem m).sdram.wf 0#8 = true := by
  unfold State.beatOk
  simp (maxDischargeDepth := 60) +contextual [hs]

@[simp] theorem beatOk_rising (s : State) (n : Nat) (x : DmaSt) (d : DmaDesc) (rem m : Nat) (hs : s.regs.rising = true) :
    (State.beatOk s n x d rem m).regs.rising = true := by
  unfold State.beatOk
  simp (maxDischargeDepth := 60) +contextual [hs]

@[simp] theorem beatOk_actRising (s : State) (n : Nat) (x : DmaSt) (d : DmaDesc) (rem m : Nat) (hr : s.regs.rising = true) (hs : s.act.rising = true) :
    (State.beatOk s n x d rem m).act.rising = true := by
  unfold State.beatOk
  simp (maxDischargeDepth := 60) +contextual [hr, hs]

@[simp] theorem funnelOut_keeps (s : State) (n : Nat) (d : DmaDesc) (flush : Bool) (causes : List (Fin 5)) (y0 : Nat) :
    (State.funnelOut s n d flush causes y0).pending = s.pending ∧ (State.funnelOut s n d flush causes y0).fuse = s.fuse ∧ (State.funnelOut s n d flush causes y0).sem = s.sem ∧ (State.funnelOut s n d flush causes y0).dom = s.dom ∧ (State.funnelOut s n d flush causes y0).time = s.time ∧ (State.funnelOut s n d flush causes y0).mirror = s.mirror := by
  fun_induction State.funnelOut s n d flush causes y0; all_goals first
      | (simp_all +zetaDelta; done)
      | (simp only [*]; (try simp +zetaDelta only []); (repeat' split) <;> simp_all; done)

@[simp] theorem funnelOut_sdramWf (s : State) (n : Nat) (d : DmaDesc) (flush : Bool) (causes : List (Fin 5)) (y0 : Nat) (hs : s.sdram.wf 0#8 = true) :
    (State.funnelOut s n d flush causes y0).sdram.wf 0#8 = true := by
  fun_induction State.funnelOut s n d flush causes y0 <;> (simp_all (maxDischargeDepth := 60) +zetaDelta; done)

@[simp] theorem funnelOut_rising (s : State) (n : Nat) (d : DmaDesc) (flush : Bool) (causes : List (Fin 5)) (y0 : Nat) (hs : s.regs.rising = true) :
    (State.funnelOut s n d flush causes y0).regs.rising = true := by
  fun_induction State.funnelOut s n d flush causes y0 <;> (simp_all (maxDischargeDepth := 60) +zetaDelta; done)

@[simp] theorem funnelOut_actRising (s : State) (n : Nat) (d : DmaDesc) (flush : Bool) (causes : List (Fin 5)) (y0 : Nat) (hr : s.regs.rising = true) (hs : s.act.rising = true) :
    (State.funnelOut s n d flush causes y0).act.rising = true := by
  fun_induction State.funnelOut s n d flush causes y0 <;> (simp_all (maxDischargeDepth := 60) +zetaDelta; done)

@[simp] theorem quiesceShow_keeps (s : State) :
    (State.quiesceShow s).pending = s.pending ∧ (State.quiesceShow s).sdram = s.sdram ∧ (State.quiesceShow s).fuse = s.fuse ∧ (State.quiesceShow s).sem = s.sem ∧ (State.quiesceShow s).dom = s.dom ∧ (State.quiesceShow s).time = s.time ∧ (State.quiesceShow s).kp = s.kp ∧ (State.quiesceShow s).act = s.act ∧ (State.quiesceShow s).mirror = s.mirror := by
  unfold State.quiesceShow
  simp

@[simp] theorem quiesceShow_rising (s : State) (hs : s.regs.rising = true) :
    (State.quiesceShow s).regs.rising = true := by
  unfold State.quiesceShow
  simp (maxDischargeDepth := 60) +contextual [hs]

@[simp] theorem srcMeet_keeps (s : State) (d : DmaDesc) (a rc : Nat) (fixed : Option (Fin 2 × Fin 39)) :
    (State.srcMeet s d a rc fixed).pending = s.pending ∧ (State.srcMeet s d a rc fixed).sdram = s.sdram ∧ (State.srcMeet s d a rc fixed).fuse = s.fuse ∧ (State.srcMeet s d a rc fixed).sem = s.sem ∧ (State.srcMeet s d a rc fixed).dom = s.dom ∧ (State.srcMeet s d a rc fixed).time = s.time ∧ (State.srcMeet s d a rc fixed).kp = s.kp ∧ (State.srcMeet s d a rc fixed).act = s.act ∧ (State.srcMeet s d a rc fixed).mirror = s.mirror := by
  unfold State.srcMeet
  try dsimp only
  (repeat' split) <;> simp

@[simp] theorem srcMeet_rising (s : State) (d : DmaDesc) (a rc : Nat) (fixed : Option (Fin 2 × Fin 39)) (hs : s.regs.rising = true) :
    (State.srcMeet s d a rc fixed).regs.rising = true := by
  unfold State.srcMeet
  try dsimp only
  (repeat' split) <;> simp (maxDischargeDepth := 60) +contextual [hs]

@[simp] theorem beatRead_keeps (s : State) (n : Nat) (x : DmaSt) (d : DmaDesc) (rem : Nat) (got : DmaBeat) :
    (State.beatRead s n x d rem got).pending = s.pending ∧ (State.beatRead s n x d rem got).fuse = s.fuse ∧ (State.beatRead s n x d rem got).sem = s.sem ∧ (State.beatRead s n x d rem got).dom = s.dom ∧ (State.beatRead s n x d rem got).time = s.time ∧ (State.beatRead s n x d rem got).mirror = s.mirror := by
  unfold State.beatRead
  simp

@[simp] theorem beatRead_sdramWf (s : State) (n : Nat) (x : DmaSt) (d : DmaDesc) (rem : Nat) (got : DmaBeat) (hs : s.sdram.wf 0#8 = true) :
    (State.beatRead s n x d rem got).sdram.wf 0#8 = true := by
  unfold State.beatRead
  simp (maxDischargeDepth := 60) +contextual [hs]

@[simp] theorem beatRead_rising (s : State) (n : Nat) (x : DmaSt) (d : DmaDesc) (rem : Nat) (got : DmaBeat) (hs : s.regs.rising = true) :
    (State.beatRead s n x d rem got).regs.rising = true := by
  unfold State.beatRead
  simp (maxDischargeDepth := 60) +contextual [hs]

@[simp] theorem beatRead_actRising (s : State) (n : Nat) (x : DmaSt) (d : DmaDesc) (rem : Nat) (got : DmaBeat) (hr : s.regs.rising = true) (hs : s.act.rising = true) :
    (State.beatRead s n x d rem got).act.rising = true := by
  unfold State.beatRead
  simp (maxDischargeDepth := 60) +contextual [hr, hs]

@[simp] theorem dmaBeat_keeps (s : State) (n : Nat) (got : DmaBeat) :
    (State.dmaBeat s n got).pending = s.pending ∧ (State.dmaBeat s n got).fuse = s.fuse ∧ (State.dmaBeat s n got).sem = s.sem ∧ (State.dmaBeat s n got).dom = s.dom ∧ (State.dmaBeat s n got).time = s.time ∧ (State.dmaBeat s n got).mirror = s.mirror := by
  unfold State.dmaBeat
  try dsimp only
  (repeat' split) <;> simp

@[simp] theorem dmaBeat_rising (s : State) (n : Nat) (got : DmaBeat) (hs : s.regs.rising = true) :
    (State.dmaBeat s n got).regs.rising = true := by
  unfold State.dmaBeat
  try dsimp only
  (repeat' split) <;> simp (maxDischargeDepth := 60) +contextual [hs]

@[simp] theorem dmaBeat_actRising (s : State) (n : Nat) (got : DmaBeat) (hr : s.regs.rising = true) (hs : s.act.rising = true) :
    (State.dmaBeat s n got).act.rising = true := by
  unfold State.dmaBeat
  try dsimp only
  (repeat' split) <;> simp (maxDischargeDepth := 60) +contextual [hr, hs]

@[simp] theorem dmaBeat_sdramWf (s : State) (n : Nat) (got : DmaBeat) (hs : s.sdram.wf 0#8 = true) :
    (State.dmaBeat s n got).sdram.wf 0#8 = true := by
  unfold State.dmaBeat
  try dsimp only
  (repeat' split) <;> simp (maxDischargeDepth := 60) +contextual [hs]

@[simp] theorem dmaFetch_keeps (s : State) (n : Nat) (addr : Nat) :
    (State.dmaFetch s n addr).pending = s.pending ∧ (State.dmaFetch s n addr).sdram = s.sdram ∧ (State.dmaFetch s n addr).fuse = s.fuse ∧ (State.dmaFetch s n addr).sem = s.sem ∧ (State.dmaFetch s n addr).dom = s.dom ∧ (State.dmaFetch s n addr).time = s.time ∧ (State.dmaFetch s n addr).kp = s.kp ∧ (State.dmaFetch s n addr).act = s.act ∧ (State.dmaFetch s n addr).mirror = s.mirror := by
  unfold State.dmaFetch
  simp

@[simp] theorem dmaFetch_rising (s : State) (n : Nat) (addr : Nat) (hs : s.regs.rising = true) :
    (State.dmaFetch s n addr).regs.rising = true := by
  unfold State.dmaFetch
  simp (maxDischargeDepth := 60) +contextual [hs]

@[simp] theorem dmaIdle_keeps (s : State) (n : Nat) :
    (State.dmaIdle s n).pending = s.pending ∧ (State.dmaIdle s n).sdram = s.sdram ∧ (State.dmaIdle s n).fuse = s.fuse ∧ (State.dmaIdle s n).sem = s.sem ∧ (State.dmaIdle s n).dom = s.dom ∧ (State.dmaIdle s n).time = s.time ∧ (State.dmaIdle s n).kp = s.kp ∧ (State.dmaIdle s n).act = s.act ∧ (State.dmaIdle s n).mirror = s.mirror := by
  unfold State.dmaIdle
  simp

@[simp] theorem dmaIdle_rising (s : State) (n : Nat) (hs : s.regs.rising = true) :
    (State.dmaIdle s n).regs.rising = true := by
  unfold State.dmaIdle
  simp (maxDischargeDepth := 60) +contextual [hs]

@[simp] theorem dmaNext_keeps (s : State) (n : Nat) :
    (State.dmaNext s n).pending = s.pending ∧ (State.dmaNext s n).sdram = s.sdram ∧ (State.dmaNext s n).fuse = s.fuse ∧ (State.dmaNext s n).sem = s.sem ∧ (State.dmaNext s n).dom = s.dom ∧ (State.dmaNext s n).time = s.time ∧ (State.dmaNext s n).kp = s.kp ∧ (State.dmaNext s n).act = s.act ∧ (State.dmaNext s n).mirror = s.mirror := by
  unfold State.dmaNext
  try dsimp only
  (repeat' split) <;> simp

@[simp] theorem dmaNext_rising (s : State) (n : Nat) (hs : s.regs.rising = true) :
    (State.dmaNext s n).regs.rising = true := by
  unfold State.dmaNext
  try dsimp only
  (repeat' split) <;> simp (maxDischargeDepth := 60) +contextual [hs]

@[simp] theorem dmaUnlease_keeps (s : State) (n : Nat) (d : DmaDesc) (e : DmaEnd) :
    (State.dmaUnlease s n d e).pending = s.pending ∧ (State.dmaUnlease s n d e).sdram = s.sdram ∧ (State.dmaUnlease s n d e).fuse = s.fuse ∧ (State.dmaUnlease s n d e).sem = s.sem ∧ (State.dmaUnlease s n d e).dom = s.dom ∧ (State.dmaUnlease s n d e).time = s.time ∧ (State.dmaUnlease s n d e).kp = s.kp ∧ (State.dmaUnlease s n d e).act = s.act := by
  unfold State.dmaUnlease
  simp

@[simp] theorem dmaUnlease_rising (s : State) (n : Nat) (d : DmaDesc) (e : DmaEnd) (hs : s.regs.rising = true) :
    (State.dmaUnlease s n d e).regs.rising = true := by
  unfold State.dmaUnlease
  simp (maxDischargeDepth := 60) +contextual [hs]

@[simp] theorem dmaUnlease_mirrorWf (s : State) (n : Nat) (d : DmaDesc) (e : DmaEnd) (hs : s.mirror.words.wf 0#32 = true) :
    (State.dmaUnlease s n d e).mirror.words.wf 0#32 = true := by
  unfold State.dmaUnlease
  simp (maxDischargeDepth := 60) +contextual [hs]

@[simp] theorem dmaRetire_keeps (s : State) (n : Nat) :
    (State.dmaRetire s n).pending = s.pending ∧ (State.dmaRetire s n).sdram = s.sdram ∧ (State.dmaRetire s n).fuse = s.fuse ∧ (State.dmaRetire s n).sem = s.sem ∧ (State.dmaRetire s n).dom = s.dom ∧ (State.dmaRetire s n).time = s.time ∧ (State.dmaRetire s n).kp = s.kp ∧ (State.dmaRetire s n).act = s.act := by
  unfold State.dmaRetire
  try dsimp only
  (repeat' split) <;> simp

@[simp] theorem dmaRetire_rising (s : State) (n : Nat) (hs : s.regs.rising = true) :
    (State.dmaRetire s n).regs.rising = true := by
  unfold State.dmaRetire
  try dsimp only
  (repeat' split) <;> simp (maxDischargeDepth := 60) +contextual [hs]

@[simp] theorem dmaRetire_mirrorWf (s : State) (n : Nat) (hs : s.mirror.words.wf 0#32 = true) :
    (State.dmaRetire s n).mirror.words.wf 0#32 = true := by
  unfold State.dmaRetire
  try dsimp only
  (repeat' split) <;> simp (maxDischargeDepth := 60) +contextual [hs]

@[simp] theorem dmaEnd_keeps (s : State) (n : Nat) (status : Nat) :
    (State.dmaEnd s n status).pending = s.pending ∧ (State.dmaEnd s n status).sdram = s.sdram ∧ (State.dmaEnd s n status).fuse = s.fuse ∧ (State.dmaEnd s n status).sem = s.sem ∧ (State.dmaEnd s n status).dom = s.dom ∧ (State.dmaEnd s n status).time = s.time ∧ (State.dmaEnd s n status).kp = s.kp ∧ (State.dmaEnd s n status).act = s.act := by
  unfold State.dmaEnd
  simp

@[simp] theorem dmaEnd_rising (s : State) (n : Nat) (status : Nat) (hs : s.regs.rising = true) :
    (State.dmaEnd s n status).regs.rising = true := by
  unfold State.dmaEnd
  simp (maxDischargeDepth := 60) +contextual [hs]

@[simp] theorem dmaEnd_mirrorWf (s : State) (n : Nat) (status : Nat) (hs : s.mirror.words.wf 0#32 = true) :
    (State.dmaEnd s n status).mirror.words.wf 0#32 = true := by
  unfold State.dmaEnd
  simp (maxDischargeDepth := 60) +contextual [hs]

@[simp] theorem dmaStart_keeps (s : State) (n : Nat) (b : List Byte) :
    (State.dmaStart s n b).pending = s.pending ∧ (State.dmaStart s n b).sdram = s.sdram ∧ (State.dmaStart s n b).fuse = s.fuse ∧ (State.dmaStart s n b).sem = s.sem ∧ (State.dmaStart s n b).dom = s.dom ∧ (State.dmaStart s n b).time = s.time ∧ (State.dmaStart s n b).kp = s.kp := by
  unfold State.dmaStart
  simp

@[simp] theorem dmaStart_rising (s : State) (n : Nat) (b : List Byte) (hs : s.regs.rising = true) :
    (State.dmaStart s n b).regs.rising = true := by
  unfold State.dmaStart
  try dsimp only
  (repeat' split) <;> simp (maxDischargeDepth := 60) +contextual [hs]

@[simp] theorem dmaStart_actRising (s : State) (n : Nat) (b : List Byte) (hr : s.regs.rising = true) (hs : s.act.rising = true) :
    (State.dmaStart s n b).act.rising = true := by
  unfold State.dmaStart
  try dsimp only
  (repeat' split) <;> simp (maxDischargeDepth := 60) +contextual [hr, hs]

@[simp] theorem dmaStart_mirrorWf (s : State) (n : Nat) (b : List Byte) (hs : s.mirror.words.wf 0#32 = true) :
    (State.dmaStart s n b).mirror.words.wf 0#32 = true := by
  unfold State.dmaStart
  try dsimp only
  (repeat' split) <;> simp (maxDischargeDepth := 60) +contextual [hs]

@[simp] theorem cqFlush_keeps (s : State) (q : Nat) (y0 : Nat) :
    (State.cqFlush s q y0).pending = s.pending ∧ (State.cqFlush s q y0).sdram = s.sdram ∧ (State.cqFlush s q y0).fuse = s.fuse ∧ (State.cqFlush s q y0).sem = s.sem ∧ (State.cqFlush s q y0).dom = s.dom ∧ (State.cqFlush s q y0).time = s.time ∧ (State.cqFlush s q y0).kp = s.kp ∧ (State.cqFlush s q y0).act = s.act ∧ (State.cqFlush s q y0).mirror = s.mirror := by
  fun_induction State.cqFlush s q y0; all_goals first
      | (simp_all +zetaDelta; done)
      | (simp only [*]; (try simp +zetaDelta only []); (repeat' split) <;> simp_all; done)

@[simp] theorem cqFlush_rising (s : State) (q : Nat) (y0 : Nat) (hs : s.regs.rising = true) :
    (State.cqFlush s q y0).regs.rising = true := by
  fun_induction State.cqFlush s q y0 <;> first | (simp_all (maxDischargeDepth := 60) +zetaDelta; done) | (rename_i ih; apply ih; (try simp +zetaDelta only []); (repeat' split) <;> simp_all (maxDischargeDepth := 60); done)

@[simp] theorem dmaCtlWrite_keeps (s : State) (n : Nat) (v : Nat) :
    (State.dmaCtlWrite s n v).pending = s.pending ∧ (State.dmaCtlWrite s n v).sdram = s.sdram ∧ (State.dmaCtlWrite s n v).fuse = s.fuse ∧ (State.dmaCtlWrite s n v).sem = s.sem ∧ (State.dmaCtlWrite s n v).dom = s.dom ∧ (State.dmaCtlWrite s n v).time = s.time ∧ (State.dmaCtlWrite s n v).kp = s.kp ∧ (State.dmaCtlWrite s n v).act = s.act := by
  unfold State.dmaCtlWrite
  simp

@[simp] theorem dmaCtlWrite_rising (s : State) (n : Nat) (v : Nat) (hs : s.regs.rising = true) :
    (State.dmaCtlWrite s n v).regs.rising = true := by
  unfold State.dmaCtlWrite
  simp (maxDischargeDepth := 60) +contextual [hs]

@[simp] theorem dmaCtlWrite_mirrorWf (s : State) (n : Nat) (v : Nat) (hs : s.mirror.words.wf 0#32 = true) :
    (State.dmaCtlWrite s n v).mirror.words.wf 0#32 = true := by
  unfold State.dmaCtlWrite
  simp (maxDischargeDepth := 60) +contextual [hs]

@[simp] theorem dmaAddrWrite_keeps (s : State) (n : Nat) (off : Nat) (v : Nat) :
    (State.dmaAddrWrite s n off v).pending = s.pending ∧ (State.dmaAddrWrite s n off v).sdram = s.sdram ∧ (State.dmaAddrWrite s n off v).fuse = s.fuse ∧ (State.dmaAddrWrite s n off v).sem = s.sem ∧ (State.dmaAddrWrite s n off v).dom = s.dom ∧ (State.dmaAddrWrite s n off v).time = s.time ∧ (State.dmaAddrWrite s n off v).kp = s.kp ∧ (State.dmaAddrWrite s n off v).act = s.act ∧ (State.dmaAddrWrite s n off v).mirror = s.mirror := by
  unfold State.dmaAddrWrite
  simp

@[simp] theorem dmaAddrWrite_rising (s : State) (n : Nat) (off : Nat) (v : Nat) (hs : s.regs.rising = true) :
    (State.dmaAddrWrite s n off v).regs.rising = true := by
  unfold State.dmaAddrWrite
  simp (maxDischargeDepth := 60) +contextual [hs]

@[simp] theorem dmaRingLenWrite_keeps (s : State) (n : Nat) (v : Nat) :
    (State.dmaRingLenWrite s n v).pending = s.pending ∧ (State.dmaRingLenWrite s n v).sdram = s.sdram ∧ (State.dmaRingLenWrite s n v).fuse = s.fuse ∧ (State.dmaRingLenWrite s n v).sem = s.sem ∧ (State.dmaRingLenWrite s n v).dom = s.dom ∧ (State.dmaRingLenWrite s n v).time = s.time ∧ (State.dmaRingLenWrite s n v).kp = s.kp ∧ (State.dmaRingLenWrite s n v).act = s.act ∧ (State.dmaRingLenWrite s n v).mirror = s.mirror := by
  unfold State.dmaRingLenWrite
  simp

@[simp] theorem dmaRingLenWrite_rising (s : State) (n : Nat) (v : Nat) (hs : s.regs.rising = true) :
    (State.dmaRingLenWrite s n v).regs.rising = true := by
  unfold State.dmaRingLenWrite
  simp (maxDischargeDepth := 60) +contextual [hs]

@[simp] theorem dmaPartnerWrite_keeps (s : State) (n : Nat) (v : Nat) :
    (State.dmaPartnerWrite s n v).pending = s.pending ∧ (State.dmaPartnerWrite s n v).sdram = s.sdram ∧ (State.dmaPartnerWrite s n v).fuse = s.fuse ∧ (State.dmaPartnerWrite s n v).sem = s.sem ∧ (State.dmaPartnerWrite s n v).dom = s.dom ∧ (State.dmaPartnerWrite s n v).time = s.time ∧ (State.dmaPartnerWrite s n v).kp = s.kp ∧ (State.dmaPartnerWrite s n v).act = s.act ∧ (State.dmaPartnerWrite s n v).mirror = s.mirror := by
  unfold State.dmaPartnerWrite
  simp

@[simp] theorem dmaPartnerWrite_rising (s : State) (n : Nat) (v : Nat) (hs : s.regs.rising = true) :
    (State.dmaPartnerWrite s n v).regs.rising = true := by
  unfold State.dmaPartnerWrite
  simp (maxDischargeDepth := 60) +contextual [hs]

@[simp] theorem cqTailWrite_keeps (s : State) (q : Nat) (v : Nat) :
    (State.cqTailWrite s q v).pending = s.pending ∧ (State.cqTailWrite s q v).sdram = s.sdram ∧ (State.cqTailWrite s q v).fuse = s.fuse ∧ (State.cqTailWrite s q v).sem = s.sem ∧ (State.cqTailWrite s q v).dom = s.dom ∧ (State.cqTailWrite s q v).time = s.time ∧ (State.cqTailWrite s q v).kp = s.kp ∧ (State.cqTailWrite s q v).act = s.act ∧ (State.cqTailWrite s q v).mirror = s.mirror := by
  unfold State.cqTailWrite
  simp

@[simp] theorem cqTailWrite_rising (s : State) (q : Nat) (v : Nat) (hs : s.regs.rising = true) :
    (State.cqTailWrite s q v).regs.rising = true := by
  unfold State.cqTailWrite
  simp (maxDischargeDepth := 60) +contextual [hs]

@[simp] theorem cqBaseWrite_keeps (s : State) (q : Nat) (off : Nat) (v : Nat) :
    (State.cqBaseWrite s q off v).pending = s.pending ∧ (State.cqBaseWrite s q off v).sdram = s.sdram ∧ (State.cqBaseWrite s q off v).fuse = s.fuse ∧ (State.cqBaseWrite s q off v).sem = s.sem ∧ (State.cqBaseWrite s q off v).dom = s.dom ∧ (State.cqBaseWrite s q off v).time = s.time ∧ (State.cqBaseWrite s q off v).kp = s.kp ∧ (State.cqBaseWrite s q off v).act = s.act ∧ (State.cqBaseWrite s q off v).mirror = s.mirror := by
  unfold State.cqBaseWrite
  simp

@[simp] theorem cqBaseWrite_rising (s : State) (q : Nat) (off : Nat) (v : Nat) (hs : s.regs.rising = true) :
    (State.cqBaseWrite s q off v).regs.rising = true := by
  unfold State.cqBaseWrite
  simp (maxDischargeDepth := 60) +contextual [hs]

@[simp] theorem cqCtlWrite_keeps (s : State) (q : Nat) (v : Nat) :
    (State.cqCtlWrite s q v).pending = s.pending ∧ (State.cqCtlWrite s q v).sdram = s.sdram ∧ (State.cqCtlWrite s q v).fuse = s.fuse ∧ (State.cqCtlWrite s q v).sem = s.sem ∧ (State.cqCtlWrite s q v).dom = s.dom ∧ (State.cqCtlWrite s q v).time = s.time ∧ (State.cqCtlWrite s q v).kp = s.kp ∧ (State.cqCtlWrite s q v).act = s.act ∧ (State.cqCtlWrite s q v).mirror = s.mirror := by
  unfold State.cqCtlWrite
  simp

@[simp] theorem cqCtlWrite_rising (s : State) (q : Nat) (v : Nat) (hs : s.regs.rising = true) :
    (State.cqCtlWrite s q v).regs.rising = true := by
  unfold State.cqCtlWrite
  simp (maxDischargeDepth := 60) +contextual [hs]

@[simp] theorem quiesceAll_keeps (s : State) (x : Domain) (y0 : List Nat) :
    (State.quiesceAll s x y0).pending = s.pending ∧ (State.quiesceAll s x y0).sdram = s.sdram ∧ (State.quiesceAll s x y0).fuse = s.fuse ∧ (State.quiesceAll s x y0).sem = s.sem ∧ (State.quiesceAll s x y0).dom = s.dom ∧ (State.quiesceAll s x y0).time = s.time ∧ (State.quiesceAll s x y0).kp = s.kp ∧ (State.quiesceAll s x y0).act = s.act ∧ (State.quiesceAll s x y0).mirror = s.mirror := by
  fun_induction State.quiesceAll s x y0; all_goals first
      | (simp_all +zetaDelta; done)
      | (simp only [*]; (try simp +zetaDelta only []); (repeat' split) <;> simp_all; done)

@[simp] theorem quiesceAll_rising (s : State) (x : Domain) (y0 : List Nat) (hs : s.regs.rising = true) :
    (State.quiesceAll s x y0).regs.rising = true := by
  fun_induction State.quiesceAll s x y0 <;> first | (simp_all (maxDischargeDepth := 60) +zetaDelta; done) | (rename_i ih; apply ih; (try simp +zetaDelta only []); (repeat' split) <;> simp_all (maxDischargeDepth := 60); done)

@[simp] theorem dmaQuiesce_keeps (s : State) (x : Domain) :
    (State.dmaQuiesce s x).pending = s.pending ∧ (State.dmaQuiesce s x).sdram = s.sdram ∧ (State.dmaQuiesce s x).fuse = s.fuse ∧ (State.dmaQuiesce s x).sem = s.sem ∧ (State.dmaQuiesce s x).dom = s.dom ∧ (State.dmaQuiesce s x).time = s.time ∧ (State.dmaQuiesce s x).kp = s.kp ∧ (State.dmaQuiesce s x).act = s.act ∧ (State.dmaQuiesce s x).mirror = s.mirror := by
  unfold State.dmaQuiesce
  simp

@[simp] theorem dmaQuiesce_rising (s : State) (x : Domain) (hs : s.regs.rising = true) :
    (State.dmaQuiesce s x).regs.rising = true := by
  unfold State.dmaQuiesce
  simp (maxDischargeDepth := 60) +contextual [hs]

@[simp] theorem forceAllDma_keeps (s : State) (y0 : List Nat) :
    (State.forceAllDma s y0).pending = s.pending ∧ (State.forceAllDma s y0).sdram = s.sdram ∧ (State.forceAllDma s y0).fuse = s.fuse ∧ (State.forceAllDma s y0).sem = s.sem ∧ (State.forceAllDma s y0).dom = s.dom ∧ (State.forceAllDma s y0).time = s.time ∧ (State.forceAllDma s y0).kp = s.kp ∧ (State.forceAllDma s y0).act = s.act := by
  fun_induction State.forceAllDma s y0; all_goals first
      | (simp_all +zetaDelta; done)
      | (simp only [*]; (try simp +zetaDelta only []); (repeat' split) <;> simp_all; done)

@[simp] theorem forceAllDma_rising (s : State) (y0 : List Nat) (hs : s.regs.rising = true) :
    (State.forceAllDma s y0).regs.rising = true := by
  fun_induction State.forceAllDma s y0 <;> (simp_all (maxDischargeDepth := 60) +zetaDelta; done)

@[simp] theorem forceAllDma_mirrorWf (s : State) (y0 : List Nat) (hs : s.mirror.words.wf 0#32 = true) :
    (State.forceAllDma s y0).mirror.words.wf 0#32 = true := by
  fun_induction State.forceAllDma s y0 <;> (simp_all (maxDischargeDepth := 60) +zetaDelta; done)

@[simp] theorem dmaDeep_keeps (s : State) (y0 : List Nat) :
    (State.dmaDeep s y0).pending = s.pending ∧ (State.dmaDeep s y0).sdram = s.sdram ∧ (State.dmaDeep s y0).fuse = s.fuse ∧ (State.dmaDeep s y0).sem = s.sem ∧ (State.dmaDeep s y0).dom = s.dom ∧ (State.dmaDeep s y0).time = s.time ∧ (State.dmaDeep s y0).kp = s.kp ∧ (State.dmaDeep s y0).act = s.act := by
  fun_induction State.dmaDeep s y0; all_goals first
      | (simp_all +zetaDelta; done)
      | (simp only [*]; (try simp +zetaDelta only []); (repeat' split) <;> simp_all; done)

@[simp] theorem dmaDeep_rising (s : State) (y0 : List Nat) (hs : s.regs.rising = true) :
    (State.dmaDeep s y0).regs.rising = true := by
  fun_induction State.dmaDeep s y0 <;> first | (simp_all (maxDischargeDepth := 60) +zetaDelta; done) | (rename_i ih; apply ih; (try simp +zetaDelta only []); (repeat' split) <;> simp_all (maxDischargeDepth := 60); done)

@[simp] theorem dmaDeep_mirrorWf (s : State) (y0 : List Nat) (hs : s.mirror.words.wf 0#32 = true) :
    (State.dmaDeep s y0).mirror.words.wf 0#32 = true := by
  fun_induction State.dmaDeep s y0 <;> first | (simp_all (maxDischargeDepth := 60) +zetaDelta; done) | (rename_i ih; apply ih; (try simp +zetaDelta only []); (repeat' split) <;> simp_all (maxDischargeDepth := 60); done)

@[simp] theorem resumeAll_keeps (s : State) (y0 : List Nat) :
    (State.resumeAll s y0).pending = s.pending ∧ (State.resumeAll s y0).sdram = s.sdram ∧ (State.resumeAll s y0).fuse = s.fuse ∧ (State.resumeAll s y0).sem = s.sem ∧ (State.resumeAll s y0).dom = s.dom ∧ (State.resumeAll s y0).time = s.time ∧ (State.resumeAll s y0).kp = s.kp ∧ (State.resumeAll s y0).act = s.act := by
  fun_induction State.resumeAll s y0; all_goals first
      | (simp_all +zetaDelta; done)
      | (simp only [*]; (try simp +zetaDelta only []); (repeat' split) <;> simp_all; done)

@[simp] theorem resumeAll_rising (s : State) (y0 : List Nat) (hs : s.regs.rising = true) :
    (State.resumeAll s y0).regs.rising = true := by
  fun_induction State.resumeAll s y0 <;> first | (simp_all (maxDischargeDepth := 60) +zetaDelta; done) | (rename_i ih; apply ih; (try simp +zetaDelta only []); (repeat' split) <;> simp_all (maxDischargeDepth := 60); done)

@[simp] theorem resumeAll_mirrorWf (s : State) (y0 : List Nat) (hs : s.mirror.words.wf 0#32 = true) :
    (State.resumeAll s y0).mirror.words.wf 0#32 = true := by
  fun_induction State.resumeAll s y0 <;> first | (simp_all (maxDischargeDepth := 60) +zetaDelta; done) | (rename_i ih; apply ih; (try simp +zetaDelta only []); (repeat' split) <;> simp_all (maxDischargeDepth := 60); done)
end Sys2Proof.Machine.State
end

