-- ==== Sys2Proof/Laws/KeepEns.lean ====
section
/-! SUPPORT. What the operations of Machine/Ens.lean leave alone: memory, fuses, semaphores, domains, time, the queue. -/

namespace Sys2Proof.Machine.State

@[simp] theorem fpTake_keeps (s : State) (x : EnsToken) (second : Bool) :
    (State.fpTake s x second).pending = s.pending ∧ (State.fpTake s x second).sdram = s.sdram ∧ (State.fpTake s x second).fuse = s.fuse ∧ (State.fpTake s x second).sem = s.sem ∧ (State.fpTake s x second).dom = s.dom ∧ (State.fpTake s x second).time = s.time ∧ (State.fpTake s x second).kp = s.kp ∧ (State.fpTake s x second).act = s.act ∧ (State.fpTake s x second).mirror = s.mirror := by
  unfold State.fpTake
  simp

@[simp] theorem fpTake_rising (s : State) (x : EnsToken) (second : Bool) (hs : s.regs.rising = true) :
    (State.fpTake s x second).regs.rising = true := by
  unfold State.fpTake
  simp (maxDischargeDepth := 60) +contextual [hs]

@[simp] theorem verdictTake_keeps (s : State) (x : EnsToken) :
    (State.verdictTake s x).pending = s.pending ∧ (State.verdictTake s x).sdram = s.sdram ∧ (State.verdictTake s x).fuse = s.fuse ∧ (State.verdictTake s x).sem = s.sem ∧ (State.verdictTake s x).dom = s.dom ∧ (State.verdictTake s x).time = s.time ∧ (State.verdictTake s x).kp = s.kp ∧ (State.verdictTake s x).act = s.act := by
  unfold State.verdictTake
  simp

@[simp] theorem verdictTake_rising (s : State) (x : EnsToken) (hs : s.regs.rising = true) :
    (State.verdictTake s x).regs.rising = true := by
  unfold State.verdictTake
  simp (maxDischargeDepth := 60) +contextual [hs]

@[simp] theorem verdictTake_mirrorWf (s : State) (x : EnsToken) (hs : s.mirror.words.wf 0#32 = true) :
    (State.verdictTake s x).mirror.words.wf 0#32 = true := by
  unfold State.verdictTake
  simp (maxDischargeDepth := 60) +contextual [hs]

@[simp] theorem ensAccept_keeps (s : State) (what : EnsWhat) (rgn : Nat) (cond : Nat) (tick : Nat) :
    (State.ensAccept s what rgn cond tick).pending = s.pending ∧ (State.ensAccept s what rgn cond tick).sdram = s.sdram ∧ (State.ensAccept s what rgn cond tick).fuse = s.fuse ∧ (State.ensAccept s what rgn cond tick).sem = s.sem ∧ (State.ensAccept s what rgn cond tick).dom = s.dom ∧ (State.ensAccept s what rgn cond tick).time = s.time ∧ (State.ensAccept s what rgn cond tick).kp = s.kp ∧ (State.ensAccept s what rgn cond tick).regs = s.regs ∧ (State.ensAccept s what rgn cond tick).act = s.act ∧ (State.ensAccept s what rgn cond tick).mirror = s.mirror := by
  unfold State.ensAccept
  simp

@[simp] theorem ensToken_keeps (s : State) (type_ : Nat) :
    (State.ensToken s type_).pending = s.pending ∧ (State.ensToken s type_).sdram = s.sdram ∧ (State.ensToken s type_).fuse = s.fuse ∧ (State.ensToken s type_).sem = s.sem ∧ (State.ensToken s type_).dom = s.dom ∧ (State.ensToken s type_).time = s.time ∧ (State.ensToken s type_).kp = s.kp ∧ (State.ensToken s type_).act = s.act ∧ (State.ensToken s type_).mirror = s.mirror := by
  unfold State.ensToken
  simp

@[simp] theorem ensToken_rising (s : State) (type_ : Nat) (hs : s.regs.rising = true) :
    (State.ensToken s type_).regs.rising = true := by
  unfold State.ensToken
  simp (maxDischargeDepth := 60) +contextual [hs]

@[simp] theorem ensTokenWrite_keeps (s : State) (v : Nat) :
    (State.ensTokenWrite s v).pending = s.pending ∧ (State.ensTokenWrite s v).sdram = s.sdram ∧ (State.ensTokenWrite s v).fuse = s.fuse ∧ (State.ensTokenWrite s v).sem = s.sem ∧ (State.ensTokenWrite s v).dom = s.dom ∧ (State.ensTokenWrite s v).time = s.time ∧ (State.ensTokenWrite s v).kp = s.kp ∧ (State.ensTokenWrite s v).act = s.act ∧ (State.ensTokenWrite s v).mirror = s.mirror := by
  unfold State.ensTokenWrite
  simp

@[simp] theorem ensTokenWrite_rising (s : State) (v : Nat) (hs : s.regs.rising = true) :
    (State.ensTokenWrite s v).regs.rising = true := by
  unfold State.ensTokenWrite
  simp (maxDischargeDepth := 60) +contextual [hs]

@[simp] theorem armTake_keeps (s : State) (x : EnsToken) :
    (State.armTake s x).1.pending = s.pending ∧ (State.armTake s x).1.sdram = s.sdram ∧ (State.armTake s x).1.fuse = s.fuse ∧ (State.armTake s x).1.sem = s.sem ∧ (State.armTake s x).1.dom = s.dom ∧ (State.armTake s x).1.time = s.time ∧ (State.armTake s x).1.kp = s.kp ∧ (State.armTake s x).1.act = s.act := by
  unfold State.armTake
  try dsimp only
  (repeat' split) <;> simp

@[simp] theorem armTake_rising (s : State) (x : EnsToken) (hs : s.regs.rising = true) :
    (State.armTake s x).1.regs.rising = true := by
  unfold State.armTake
  try dsimp only
  (repeat' split) <;> simp (maxDischargeDepth := 60) +contextual [hs]

@[simp] theorem armTake_mirrorWf (s : State) (x : EnsToken) (hs : s.mirror.words.wf 0#32 = true) :
    (State.armTake s x).1.mirror.words.wf 0#32 = true := by
  unfold State.armTake
  try dsimp only
  (repeat' split) <;> simp (maxDischargeDepth := 60) +contextual [hs]

@[simp] theorem ensApply_keeps (s : State) (a : EnsApply) :
    (State.ensApply s a).pending = s.pending ∧ (State.ensApply s a).sdram = s.sdram ∧ (State.ensApply s a).fuse = s.fuse ∧ (State.ensApply s a).sem = s.sem ∧ (State.ensApply s a).dom = s.dom ∧ (State.ensApply s a).time = s.time ∧ (State.ensApply s a).kp = s.kp ∧ (State.ensApply s a).act = s.act := by
  unfold State.ensApply
  try dsimp only
  (repeat' split) <;> simp

@[simp] theorem ensApply_rising (s : State) (a : EnsApply) (hs : s.regs.rising = true) :
    (State.ensApply s a).regs.rising = true := by
  unfold State.ensApply
  try dsimp only
  (repeat' split) <;> simp (maxDischargeDepth := 60) +contextual [hs]

@[simp] theorem ensApply_mirrorWf (s : State) (a : EnsApply) (hs : s.mirror.words.wf 0#32 = true) :
    (State.ensApply s a).mirror.words.wf 0#32 = true := by
  unfold State.ensApply
  try dsimp only
  (repeat' split) <;> simp (maxDischargeDepth := 60) +contextual [hs]

@[simp] theorem ensReturn_keeps (s : State) (ack : Nat) :
    (State.ensReturn s ack).pending = s.pending ∧ (State.ensReturn s ack).sdram = s.sdram ∧ (State.ensReturn s ack).fuse = s.fuse ∧ (State.ensReturn s ack).sem = s.sem ∧ (State.ensReturn s ack).dom = s.dom ∧ (State.ensReturn s ack).time = s.time ∧ (State.ensReturn s ack).kp = s.kp ∧ (State.ensReturn s ack).act = s.act ∧ (State.ensReturn s ack).mirror = s.mirror := by
  unfold State.ensReturn
  simp

@[simp] theorem ensReturn_rising (s : State) (ack : Nat) (hs : s.regs.rising = true) :
    (State.ensReturn s ack).regs.rising = true := by
  unfold State.ensReturn
  simp (maxDischargeDepth := 60) +contextual [hs]

@[simp] theorem syncArm_keeps (s : State) :
    (State.syncArm s).pending = s.pending ∧ (State.syncArm s).sdram = s.sdram ∧ (State.syncArm s).fuse = s.fuse ∧ (State.syncArm s).sem = s.sem ∧ (State.syncArm s).dom = s.dom ∧ (State.syncArm s).time = s.time ∧ (State.syncArm s).kp = s.kp ∧ (State.syncArm s).act = s.act ∧ (State.syncArm s).mirror = s.mirror := by
  unfold State.syncArm
  simp

@[simp] theorem syncArm_rising (s : State) (hs : s.regs.rising = true) :
    (State.syncArm s).regs.rising = true := by
  unfold State.syncArm
  simp (maxDischargeDepth := 60) +contextual [hs]

@[simp] theorem ensSyncGo_keeps (s : State) :
    (State.ensSyncGo s).pending = s.pending ∧ (State.ensSyncGo s).sdram = s.sdram ∧ (State.ensSyncGo s).fuse = s.fuse ∧ (State.ensSyncGo s).sem = s.sem ∧ (State.ensSyncGo s).dom = s.dom ∧ (State.ensSyncGo s).time = s.time ∧ (State.ensSyncGo s).kp = s.kp ∧ (State.ensSyncGo s).act = s.act ∧ (State.ensSyncGo s).mirror = s.mirror := by
  unfold State.ensSyncGo
  simp

@[simp] theorem ensSyncGo_rising (s : State) (hs : s.regs.rising = true) :
    (State.ensSyncGo s).regs.rising = true := by
  unfold State.ensSyncGo
  simp (maxDischargeDepth := 60) +contextual [hs]

@[simp] theorem prepTake_keeps (s : State) (x : EnsToken) :
    (State.prepTake s x).pending = s.pending ∧ (State.prepTake s x).sdram = s.sdram ∧ (State.prepTake s x).fuse = s.fuse ∧ (State.prepTake s x).sem = s.sem ∧ (State.prepTake s x).dom = s.dom ∧ (State.prepTake s x).time = s.time ∧ (State.prepTake s x).kp = s.kp ∧ (State.prepTake s x).act = s.act ∧ (State.prepTake s x).mirror = s.mirror := by
  unfold State.prepTake
  simp

@[simp] theorem prepTake_rising (s : State) (x : EnsToken) (hs : s.regs.rising = true) :
    (State.prepTake s x).regs.rising = true := by
  unfold State.prepTake
  simp (maxDischargeDepth := 60) +contextual [hs]

@[simp] theorem ensReturnIn_keeps (s : State) :
    (State.ensReturnIn s).pending = s.pending ∧ (State.ensReturnIn s).sdram = s.sdram ∧ (State.ensReturnIn s).fuse = s.fuse ∧ (State.ensReturnIn s).sem = s.sem ∧ (State.ensReturnIn s).dom = s.dom ∧ (State.ensReturnIn s).time = s.time ∧ (State.ensReturnIn s).kp = s.kp ∧ (State.ensReturnIn s).act = s.act ∧ (State.ensReturnIn s).mirror = s.mirror := by
  unfold State.ensReturnIn
  simp

@[simp] theorem ensReturnIn_rising (s : State) (hs : s.regs.rising = true) :
    (State.ensReturnIn s).regs.rising = true := by
  unfold State.ensReturnIn
  simp (maxDischargeDepth := 60) +contextual [hs]

@[simp] theorem ensJoin_keeps (s : State) (own : Int) (d : Int) :
    (State.ensJoin s own d).pending = s.pending ∧ (State.ensJoin s own d).sdram = s.sdram ∧ (State.ensJoin s own d).fuse = s.fuse ∧ (State.ensJoin s own d).sem = s.sem ∧ (State.ensJoin s own d).dom = s.dom ∧ (State.ensJoin s own d).kp = s.kp ∧ (State.ensJoin s own d).act = s.act ∧ (State.ensJoin s own d).mirror = s.mirror := by
  unfold State.ensJoin
  simp

@[simp] theorem ensJoin_rising (s : State) (own : Int) (d : Int) (hs : s.regs.rising = true) :
    (State.ensJoin s own d).regs.rising = true := by
  unfold State.ensJoin
  simp (maxDischargeDepth := 60) +contextual [hs]

@[simp] theorem timeTake_keeps (s : State) (x : EnsToken) :
    (State.timeTake s x).pending = s.pending ∧ (State.timeTake s x).sdram = s.sdram ∧ (State.timeTake s x).fuse = s.fuse ∧ (State.timeTake s x).sem = s.sem ∧ (State.timeTake s x).dom = s.dom ∧ (State.timeTake s x).kp = s.kp ∧ (State.timeTake s x).act = s.act := by
  unfold State.timeTake
  try dsimp only
  (repeat' split) <;> simp

@[simp] theorem timeTake_rising (s : State) (x : EnsToken) (hs : s.regs.rising = true) :
    (State.timeTake s x).regs.rising = true := by
  unfold State.timeTake
  try dsimp only
  (repeat' split) <;> simp (maxDischargeDepth := 60) +contextual [hs]

@[simp] theorem timeTake_mirrorWf (s : State) (x : EnsToken) (hs : s.mirror.words.wf 0#32 = true) :
    (State.timeTake s x).mirror.words.wf 0#32 = true := by
  unfold State.timeTake
  try dsimp only
  (repeat' split) <;> simp (maxDischargeDepth := 60) +contextual [hs]

@[simp] theorem stateTake_keeps (s : State) (x : EnsToken) :
    (State.stateTake s x).pending = s.pending ∧ (State.stateTake s x).sdram = s.sdram ∧ (State.stateTake s x).fuse = s.fuse ∧ (State.stateTake s x).sem = s.sem ∧ (State.stateTake s x).dom = s.dom ∧ (State.stateTake s x).time = s.time ∧ (State.stateTake s x).kp = s.kp ∧ (State.stateTake s x).regs = s.regs ∧ (State.stateTake s x).act = s.act ∧ (State.stateTake s x).mirror = s.mirror := by
  unfold State.stateTake
  simp

@[simp] theorem prepBack_keeps (s : State) (x : EnsToken) :
    (State.prepBack s x).pending = s.pending ∧ (State.prepBack s x).sdram = s.sdram ∧ (State.prepBack s x).fuse = s.fuse ∧ (State.prepBack s x).sem = s.sem ∧ (State.prepBack s x).dom = s.dom ∧ (State.prepBack s x).time = s.time ∧ (State.prepBack s x).kp = s.kp ∧ (State.prepBack s x).regs = s.regs ∧ (State.prepBack s x).act = s.act ∧ (State.prepBack s x).mirror = s.mirror := by
  unfold State.prepBack
  simp

@[simp] theorem timeBack_keeps (s : State) :
    (State.timeBack s).pending = s.pending ∧ (State.timeBack s).sdram = s.sdram ∧ (State.timeBack s).fuse = s.fuse ∧ (State.timeBack s).sem = s.sem ∧ (State.timeBack s).dom = s.dom ∧ (State.timeBack s).time = s.time ∧ (State.timeBack s).kp = s.kp ∧ (State.timeBack s).act = s.act ∧ (State.timeBack s).mirror = s.mirror := by
  unfold State.timeBack
  simp

@[simp] theorem timeBack_rising (s : State) (hs : s.regs.rising = true) :
    (State.timeBack s).regs.rising = true := by
  unfold State.timeBack
  simp (maxDischargeDepth := 60) +contextual [hs]

@[simp] theorem ensAct_keeps (s : State) (x : EnsToken) (gap : Bool) :
    (State.ensAct s x gap).1.pending = s.pending ∧ (State.ensAct s x gap).1.sdram = s.sdram ∧ (State.ensAct s x gap).1.fuse = s.fuse ∧ (State.ensAct s x gap).1.sem = s.sem ∧ (State.ensAct s x gap).1.dom = s.dom ∧ (State.ensAct s x gap).1.kp = s.kp ∧ (State.ensAct s x gap).1.act = s.act := by
  unfold State.ensAct
  try dsimp only
  (repeat' split) <;> simp

@[simp] theorem ensAct_rising (s : State) (x : EnsToken) (gap : Bool) (hs : s.regs.rising = true) :
    (State.ensAct s x gap).1.regs.rising = true := by
  unfold State.ensAct
  try dsimp only
  (repeat' split) <;> simp (maxDischargeDepth := 60) +contextual [hs]

@[simp] theorem ensAct_mirrorWf (s : State) (x : EnsToken) (gap : Bool) (hs : s.mirror.words.wf 0#32 = true) :
    (State.ensAct s x gap).1.mirror.words.wf 0#32 = true := by
  unfold State.ensAct
  try dsimp only
  (repeat' split) <;> simp (maxDischargeDepth := 60) +contextual [hs]

@[simp] theorem followTake_keeps (s : State) (ring : Nat) (x : EnsToken) :
    (State.followTake s ring x).pending = s.pending ∧ (State.followTake s ring x).sdram = s.sdram ∧ (State.followTake s ring x).fuse = s.fuse ∧ (State.followTake s ring x).sem = s.sem ∧ (State.followTake s ring x).dom = s.dom ∧ (State.followTake s ring x).kp = s.kp ∧ (State.followTake s ring x).act = s.act := by
  unfold State.followTake
  simp

@[simp] theorem followTake_rising (s : State) (ring : Nat) (x : EnsToken) (hs : s.regs.rising = true) :
    (State.followTake s ring x).regs.rising = true := by
  unfold State.followTake
  simp (maxDischargeDepth := 60) +contextual [hs]

@[simp] theorem followTake_mirrorWf (s : State) (ring : Nat) (x : EnsToken) (hs : s.mirror.words.wf 0#32 = true) :
    (State.followTake s ring x).mirror.words.wf 0#32 = true := by
  unfold State.followTake
  simp (maxDischargeDepth := 60) +contextual [hs]

@[simp] theorem leadTake_keeps (s : State) (x : EnsToken) (second : Bool) :
    (State.leadTake s x second).pending = s.pending ∧ (State.leadTake s x second).sdram = s.sdram ∧ (State.leadTake s x second).fuse = s.fuse ∧ (State.leadTake s x second).sem = s.sem ∧ (State.leadTake s x second).dom = s.dom ∧ (State.leadTake s x second).time = s.time ∧ (State.leadTake s x second).kp = s.kp ∧ (State.leadTake s x second).act = s.act ∧ (State.leadTake s x second).mirror = s.mirror := by
  unfold State.leadTake
  try dsimp only
  (repeat' split) <;> simp

@[simp] theorem leadTake_rising (s : State) (x : EnsToken) (second : Bool) (hs : s.regs.rising = true) :
    (State.leadTake s x second).regs.rising = true := by
  unfold State.leadTake
  try dsimp only
  (repeat' split) <;> simp (maxDischargeDepth := 60) +contextual [hs]

@[simp] theorem ensHear_keeps (s : State) (ring : Nat) :
    (State.ensHear s ring).pending = s.pending ∧ (State.ensHear s ring).sdram = s.sdram ∧ (State.ensHear s ring).fuse = s.fuse ∧ (State.ensHear s ring).sem = s.sem ∧ (State.ensHear s ring).dom = s.dom ∧ (State.ensHear s ring).time = s.time ∧ (State.ensHear s ring).kp = s.kp ∧ (State.ensHear s ring).regs = s.regs ∧ (State.ensHear s ring).act = s.act ∧ (State.ensHear s ring).mirror = s.mirror := by
  unfold State.ensHear
  simp

@[simp] theorem ensDiscard_keeps (s : State) (ring : Nat) :
    (State.ensDiscard s ring).pending = s.pending ∧ (State.ensDiscard s ring).sdram = s.sdram ∧ (State.ensDiscard s ring).fuse = s.fuse ∧ (State.ensDiscard s ring).sem = s.sem ∧ (State.ensDiscard s ring).dom = s.dom ∧ (State.ensDiscard s ring).time = s.time ∧ (State.ensDiscard s ring).kp = s.kp ∧ (State.ensDiscard s ring).regs = s.regs ∧ (State.ensDiscard s ring).act = s.act ∧ (State.ensDiscard s ring).mirror = s.mirror := by
  unfold State.ensDiscard
  simp

@[simp] theorem ensCtlWrite_keeps (s : State) (v : Nat) :
    (State.ensCtlWrite s v).pending = s.pending ∧ (State.ensCtlWrite s v).sdram = s.sdram ∧ (State.ensCtlWrite s v).fuse = s.fuse ∧ (State.ensCtlWrite s v).sem = s.sem ∧ (State.ensCtlWrite s v).dom = s.dom ∧ (State.ensCtlWrite s v).time = s.time ∧ (State.ensCtlWrite s v).kp = s.kp ∧ (State.ensCtlWrite s v).act = s.act ∧ (State.ensCtlWrite s v).mirror = s.mirror := by
  unfold State.ensCtlWrite
  simp

@[simp] theorem ensCtlWrite_rising (s : State) (v : Nat) (hs : s.regs.rising = true) :
    (State.ensCtlWrite s v).regs.rising = true := by
  unfold State.ensCtlWrite
  simp (maxDischargeDepth := 60) +contextual [hs]

@[simp] theorem ensScopeWrite_keeps (s : State) (off : Nat) (v : Nat) :
    (State.ensScopeWrite s off v).pending = s.pending ∧ (State.ensScopeWrite s off v).sdram = s.sdram ∧ (State.ensScopeWrite s off v).fuse = s.fuse ∧ (State.ensScopeWrite s off v).sem = s.sem ∧ (State.ensScopeWrite s off v).dom = s.dom ∧ (State.ensScopeWrite s off v).time = s.time ∧ (State.ensScopeWrite s off v).kp = s.kp ∧ (State.ensScopeWrite s off v).act = s.act ∧ (State.ensScopeWrite s off v).mirror = s.mirror := by
  unfold State.ensScopeWrite
  simp

@[simp] theorem ensScopeWrite_rising (s : State) (off : Nat) (v : Nat) (hs : s.regs.rising = true) :
    (State.ensScopeWrite s off v).regs.rising = true := by
  unfold State.ensScopeWrite
  simp (maxDischargeDepth := 60) +contextual [hs]
end Sys2Proof.Machine.State
end

