-- ==== Sys2Proof/Laws/KeepUnitWrite.lean ====
section
/-! SUPPORT. What the operations of Machine/UnitWrite.lean leave alone: memory, fuses, semaphores, domains, time, the queue. -/

namespace Sys2Proof.Machine.State

@[simp] theorem imgPlain_keeps (s : State) (off : Nat) (v : Nat) :
    (State.imgPlain s off v).pending = s.pending ∧ (State.imgPlain s off v).sdram = s.sdram ∧ (State.imgPlain s off v).fuse = s.fuse ∧ (State.imgPlain s off v).sem = s.sem ∧ (State.imgPlain s off v).dom = s.dom ∧ (State.imgPlain s off v).time = s.time ∧ (State.imgPlain s off v).kp = s.kp ∧ (State.imgPlain s off v).act = s.act ∧ (State.imgPlain s off v).mirror = s.mirror := by
  unfold State.imgPlain
  try dsimp only
  (repeat' split) <;> simp

@[simp] theorem imgPlain_rising (s : State) (off : Nat) (v : Nat) (hs : s.regs.rising = true) :
    (State.imgPlain s off v).regs.rising = true := by
  unfold State.imgPlain
  try dsimp only
  (repeat' split) <;> simp (maxDischargeDepth := 60) +contextual [hs]

@[simp] theorem unitPlain_keeps (s : State) (img : Bool) (off : Nat) (v : Nat) :
    (State.unitPlain s img off v).pending = s.pending ∧ (State.unitPlain s img off v).sdram = s.sdram ∧ (State.unitPlain s img off v).fuse = s.fuse ∧ (State.unitPlain s img off v).sem = s.sem ∧ (State.unitPlain s img off v).dom = s.dom ∧ (State.unitPlain s img off v).time = s.time ∧ (State.unitPlain s img off v).kp = s.kp ∧ (State.unitPlain s img off v).act = s.act ∧ (State.unitPlain s img off v).mirror = s.mirror := by
  unfold State.unitPlain
  simp

@[simp] theorem unitPlain_rising (s : State) (img : Bool) (off : Nat) (v : Nat) (hs : s.regs.rising = true) :
    (State.unitPlain s img off v).regs.rising = true := by
  unfold State.unitPlain
  simp (maxDischargeDepth := 60) +contextual [hs]

@[simp] theorem zmRatioWrite_keeps (s : State) (p : Nat) (w : Nat) (v : Nat) :
    (State.zmRatioWrite s p w v).pending = s.pending ∧ (State.zmRatioWrite s p w v).sdram = s.sdram ∧ (State.zmRatioWrite s p w v).fuse = s.fuse ∧ (State.zmRatioWrite s p w v).sem = s.sem ∧ (State.zmRatioWrite s p w v).dom = s.dom ∧ (State.zmRatioWrite s p w v).time = s.time ∧ (State.zmRatioWrite s p w v).kp = s.kp ∧ (State.zmRatioWrite s p w v).act = s.act ∧ (State.zmRatioWrite s p w v).mirror = s.mirror := by
  unfold State.zmRatioWrite
  simp

@[simp] theorem zmRatioWrite_rising (s : State) (p : Nat) (w : Nat) (v : Nat) (hs : s.regs.rising = true) :
    (State.zmRatioWrite s p w v).regs.rising = true := by
  unfold State.zmRatioWrite
  simp (maxDischargeDepth := 60) +contextual [hs]

@[simp] theorem zmCtlWrite_keeps (s : State) (img : Bool) (p : Nat) (w : Nat) (v : Nat) :
    (State.zmCtlWrite s img p w v).pending = s.pending ∧ (State.zmCtlWrite s img p w v).sdram = s.sdram ∧ (State.zmCtlWrite s img p w v).fuse = s.fuse ∧ (State.zmCtlWrite s img p w v).sem = s.sem ∧ (State.zmCtlWrite s img p w v).dom = s.dom ∧ (State.zmCtlWrite s img p w v).time = s.time ∧ (State.zmCtlWrite s img p w v).kp = s.kp ∧ (State.zmCtlWrite s img p w v).act = s.act ∧ (State.zmCtlWrite s img p w v).mirror = s.mirror := by
  unfold State.zmCtlWrite
  simp

@[simp] theorem zmCtlWrite_rising (s : State) (img : Bool) (p : Nat) (w : Nat) (v : Nat) (hs : s.regs.rising = true) :
    (State.zmCtlWrite s img p w v).regs.rising = true := by
  unfold State.zmCtlWrite
  simp (maxDischargeDepth := 60) +contextual [hs]

@[simp] theorem ddcWrite_keeps (s : State) (img : Bool) (p : Nat) (o : Nat) (v : Nat) :
    (State.ddcWrite s img p o v).pending = s.pending ∧ (State.ddcWrite s img p o v).sdram = s.sdram ∧ (State.ddcWrite s img p o v).fuse = s.fuse ∧ (State.ddcWrite s img p o v).sem = s.sem ∧ (State.ddcWrite s img p o v).dom = s.dom ∧ (State.ddcWrite s img p o v).time = s.time ∧ (State.ddcWrite s img p o v).kp = s.kp ∧ (State.ddcWrite s img p o v).act = s.act ∧ (State.ddcWrite s img p o v).mirror = s.mirror := by
  unfold State.ddcWrite
  simp

@[simp] theorem ddcWrite_rising (s : State) (img : Bool) (p : Nat) (o : Nat) (v : Nat) (hs : s.regs.rising = true) :
    (State.ddcWrite s img p o v).regs.rising = true := by
  unfold State.ddcWrite
  dsimp only
  repeat' split
  all_goals first | exact hs | simp [hs]

@[simp] theorem xfRefuse_keeps (s : State) (p : Nat) (refused : Loc) :
    (State.xfRefuse s p refused).pending = s.pending ∧ (State.xfRefuse s p refused).sdram = s.sdram ∧ (State.xfRefuse s p refused).fuse = s.fuse ∧ (State.xfRefuse s p refused).sem = s.sem ∧ (State.xfRefuse s p refused).dom = s.dom ∧ (State.xfRefuse s p refused).time = s.time ∧ (State.xfRefuse s p refused).kp = s.kp ∧ (State.xfRefuse s p refused).act = s.act ∧ (State.xfRefuse s p refused).mirror = s.mirror := by
  unfold State.xfRefuse
  simp

@[simp] theorem xfRefuse_rising (s : State) (p : Nat) (refused : Loc) (hs : s.regs.rising = true) :
    (State.xfRefuse s p refused).regs.rising = true := by
  unfold State.xfRefuse
  simp (maxDischargeDepth := 60) +contextual [hs]

@[simp] theorem xfWrite_keeps (s : State) (img : Bool) (p : Nat) (o : Nat) (v : Nat) :
    (State.xfWrite s img p o v).pending = s.pending ∧ (State.xfWrite s img p o v).sdram = s.sdram ∧ (State.xfWrite s img p o v).fuse = s.fuse ∧ (State.xfWrite s img p o v).sem = s.sem ∧ (State.xfWrite s img p o v).dom = s.dom ∧ (State.xfWrite s img p o v).time = s.time ∧ (State.xfWrite s img p o v).kp = s.kp ∧ (State.xfWrite s img p o v).act = s.act ∧ (State.xfWrite s img p o v).mirror = s.mirror := by
  unfold State.xfWrite
  try dsimp only
  (repeat' split) <;> simp

@[simp] theorem xfWrite_rising (s : State) (img : Bool) (p : Nat) (o : Nat) (v : Nat) (hs : s.regs.rising = true) :
    (State.xfWrite s img p o v).regs.rising = true := by
  unfold State.xfWrite
  try dsimp only
  (repeat' split) <;> simp (maxDischargeDepth := 60) +contextual [hs]

@[simp] theorem trgWrite_keeps (s : State) (img : Bool) (o : Nat) (v : Nat) :
    (State.trgWrite s img o v).pending = s.pending ∧ (State.trgWrite s img o v).sdram = s.sdram ∧ (State.trgWrite s img o v).fuse = s.fuse ∧ (State.trgWrite s img o v).sem = s.sem ∧ (State.trgWrite s img o v).dom = s.dom ∧ (State.trgWrite s img o v).time = s.time ∧ (State.trgWrite s img o v).kp = s.kp ∧ (State.trgWrite s img o v).act = s.act := by
  unfold State.trgWrite
  simp

@[simp] theorem trgWrite_rising (s : State) (img : Bool) (o : Nat) (v : Nat) (hs : s.regs.rising = true) :
    (State.trgWrite s img o v).regs.rising = true := by
  unfold State.trgWrite
  simp (maxDischargeDepth := 60) +contextual [hs]

@[simp] theorem trgWrite_mirrorWf (s : State) (img : Bool) (o : Nat) (v : Nat) (hs : s.mirror.words.wf 0#32 = true) :
    (State.trgWrite s img o v).mirror.words.wf 0#32 = true := by
  unfold State.trgWrite
  simp (maxDischargeDepth := 60) +contextual [hs]

@[simp] theorem kalWrite_keeps (s : State) (o : Nat) (v : Nat) :
    (State.kalWrite s o v).pending = s.pending ∧ (State.kalWrite s o v).sdram = s.sdram ∧ (State.kalWrite s o v).fuse = s.fuse ∧ (State.kalWrite s o v).sem = s.sem ∧ (State.kalWrite s o v).dom = s.dom ∧ (State.kalWrite s o v).time = s.time ∧ (State.kalWrite s o v).kp = s.kp ∧ (State.kalWrite s o v).act = s.act := by
  unfold State.kalWrite
  simp

@[simp] theorem kalWrite_rising (s : State) (o : Nat) (v : Nat) (hs : s.regs.rising = true) :
    (State.kalWrite s o v).regs.rising = true := by
  unfold State.kalWrite
  simp (maxDischargeDepth := 60) +contextual [hs]

@[simp] theorem kalWrite_mirrorWf (s : State) (o : Nat) (v : Nat) (hs : s.mirror.words.wf 0#32 = true) :
    (State.kalWrite s o v).mirror.words.wf 0#32 = true := by
  unfold State.kalWrite
  simp (maxDischargeDepth := 60) +contextual [hs]

@[simp] theorem unitWrite_keeps (s : State) (img : Bool) (off : Nat) (v : Nat) :
    (State.unitWrite s img off v).pending = s.pending ∧ (State.unitWrite s img off v).sdram = s.sdram ∧ (State.unitWrite s img off v).fuse = s.fuse ∧ (State.unitWrite s img off v).sem = s.sem ∧ (State.unitWrite s img off v).dom = s.dom ∧ (State.unitWrite s img off v).time = s.time ∧ (State.unitWrite s img off v).kp = s.kp ∧ (State.unitWrite s img off v).act = s.act := by
  unfold State.unitWrite
  simp

@[simp] theorem unitWrite_rising (s : State) (img : Bool) (off : Nat) (v : Nat) (hs : s.regs.rising = true) :
    (State.unitWrite s img off v).regs.rising = true := by
  unfold State.unitWrite
  simp (maxDischargeDepth := 60) +contextual [hs]

@[simp] theorem unitWrite_mirrorWf (s : State) (img : Bool) (off : Nat) (v : Nat) (hs : s.mirror.words.wf 0#32 = true) :
    (State.unitWrite s img off v).mirror.words.wf 0#32 = true := by
  unfold State.unitWrite
  simp (maxDischargeDepth := 60) +contextual [hs]
end Sys2Proof.Machine.State
end

