-- ==== Sys2Proof/Laws/KeepSwitchOver.lean ====
section
/-! SUPPORT. What the operations of Machine/SwitchOver.lean leave alone: memory, fuses, semaphores, domains, time, the queue. -/

namespace Sys2Proof.Machine.State

@[simp] theorem reloadGap_keeps (s : State) (p : Nat) :
    (State.reloadGap s p).pending = s.pending ∧ (State.reloadGap s p).sdram = s.sdram ∧ (State.reloadGap s p).fuse = s.fuse ∧ (State.reloadGap s p).sem = s.sem ∧ (State.reloadGap s p).dom = s.dom ∧ (State.reloadGap s p).time = s.time ∧ (State.reloadGap s p).kp = s.kp ∧ (State.reloadGap s p).act = s.act := by
  unfold State.reloadGap
  simp

@[simp] theorem reloadGap_rising (s : State) (p : Nat) (hs : s.regs.rising = true) :
    (State.reloadGap s p).regs.rising = true := by
  unfold State.reloadGap
  simp (maxDischargeDepth := 60) +contextual [hs]

@[simp] theorem reloadGap_mirrorWf (s : State) (p : Nat) (hs : s.mirror.words.wf 0#32 = true) :
    (State.reloadGap s p).mirror.words.wf 0#32 = true := by
  unfold State.reloadGap
  simp (maxDischargeDepth := 60) +contextual [hs]

@[simp] theorem recoverySet_keeps (s : State) (p r : Nat) :
    (State.recoverySet s p r).pending = s.pending ∧ (State.recoverySet s p r).sdram = s.sdram ∧ (State.recoverySet s p r).fuse = s.fuse ∧ (State.recoverySet s p r).sem = s.sem ∧ (State.recoverySet s p r).dom = s.dom ∧ (State.recoverySet s p r).time = s.time ∧ (State.recoverySet s p r).kp = s.kp ∧ (State.recoverySet s p r).act = s.act ∧ (State.recoverySet s p r).mirror = s.mirror := by
  unfold State.recoverySet
  simp

@[simp] theorem recoverySet_rising (s : State) (p r : Nat) (hs : s.regs.rising = true) :
    (State.recoverySet s p r).regs.rising = true := by
  unfold State.recoverySet
  simp (maxDischargeDepth := 60) +contextual [hs]

@[simp] theorem routeSet_keeps (s : State) (p : Nat) :
    (State.routeSet s p).pending = s.pending ∧ (State.routeSet s p).sdram = s.sdram ∧ (State.routeSet s p).fuse = s.fuse ∧ (State.routeSet s p).sem = s.sem ∧ (State.routeSet s p).dom = s.dom ∧ (State.routeSet s p).time = s.time ∧ (State.routeSet s p).kp = s.kp ∧ (State.routeSet s p).act = s.act ∧ (State.routeSet s p).mirror = s.mirror := by
  unfold State.routeSet
  simp

@[simp] theorem routeSet_rising (s : State) (p : Nat) (hs : s.regs.rising = true) :
    (State.routeSet s p).regs.rising = true := by
  unfold State.routeSet
  simp (maxDischargeDepth := 60) +contextual [hs]

@[simp] theorem pathStop_keeps (s : State) (p : Nat) :
    (State.pathStop s p).pending = s.pending ∧ (State.pathStop s p).sdram = s.sdram ∧ (State.pathStop s p).fuse = s.fuse ∧ (State.pathStop s p).sem = s.sem ∧ (State.pathStop s p).dom = s.dom ∧ (State.pathStop s p).time = s.time ∧ (State.pathStop s p).kp = s.kp ∧ (State.pathStop s p).act = s.act := by
  unfold State.pathStop
  simp

@[simp] theorem pathStop_rising (s : State) (p : Nat) (hs : s.regs.rising = true) :
    (State.pathStop s p).regs.rising = true := by
  unfold State.pathStop
  simp (maxDischargeDepth := 60) +contextual [hs]

@[simp] theorem pathStop_mirrorWf (s : State) (p : Nat) (hs : s.mirror.words.wf 0#32 = true) :
    (State.pathStop s p).mirror.words.wf 0#32 = true := by
  unfold State.pathStop
  simp (maxDischargeDepth := 60) +contextual [hs]

@[simp] theorem regInits_keeps (s : State) (y0 : List (Nat × Word)) :
    (State.regInits s y0).pending = s.pending ∧ (State.regInits s y0).sdram = s.sdram ∧ (State.regInits s y0).fuse = s.fuse ∧ (State.regInits s y0).sem = s.sem ∧ (State.regInits s y0).dom = s.dom ∧ (State.regInits s y0).time = s.time ∧ (State.regInits s y0).kp = s.kp ∧ (State.regInits s y0).act = s.act := by
  fun_induction State.regInits s y0; all_goals first
      | (simp_all +zetaDelta; done)
      | (simp only [*]; (try simp +zetaDelta only []); (repeat' split) <;> simp_all; done)

@[simp] theorem regInits_rising (s : State) (y0 : List (Nat × Word)) (hs : s.regs.rising = true) :
    (State.regInits s y0).regs.rising = true := by
  fun_induction State.regInits s y0 <;> (simp_all (maxDischargeDepth := 60) +zetaDelta; done)

@[simp] theorem regInits_mirrorWf (s : State) (y0 : List (Nat × Word)) (hs : s.mirror.words.wf 0#32 = true) :
    (State.regInits s y0).mirror.words.wf 0#32 = true := by
  fun_induction State.regInits s y0 <;> (simp_all (maxDischargeDepth := 60) +zetaDelta; done)

@[simp] theorem pathDigest_keeps (s : State) (p : Nat) (d : List Byte) :
    (State.pathDigest s p d).pending = s.pending ∧ (State.pathDigest s p d).sdram = s.sdram ∧ (State.pathDigest s p d).fuse = s.fuse ∧ (State.pathDigest s p d).sem = s.sem ∧ (State.pathDigest s p d).dom = s.dom ∧ (State.pathDigest s p d).time = s.time ∧ (State.pathDigest s p d).kp = s.kp ∧ (State.pathDigest s p d).act = s.act ∧ (State.pathDigest s p d).mirror = s.mirror := by
  unfold State.pathDigest
  simp

@[simp] theorem pathDigest_rising (s : State) (p : Nat) (d : List Byte) (hs : s.regs.rising = true) :
    (State.pathDigest s p d).regs.rising = true := by
  unfold State.pathDigest
  simp (maxDischargeDepth := 60) +contextual [hs]

@[simp] theorem digestForm_keeps (s : State) :
    (State.digestForm s).pending = s.pending ∧ (State.digestForm s).sdram = s.sdram ∧ (State.digestForm s).fuse = s.fuse ∧ (State.digestForm s).sem = s.sem ∧ (State.digestForm s).dom = s.dom ∧ (State.digestForm s).time = s.time ∧ (State.digestForm s).kp = s.kp ∧ (State.digestForm s).act = s.act ∧ (State.digestForm s).mirror = s.mirror := by
  unfold State.digestForm
  simp

@[simp] theorem digestForm_rising (s : State) (hs : s.regs.rising = true) :
    (State.digestForm s).regs.rising = true := by
  unfold State.digestForm
  simp (maxDischargeDepth := 60) +contextual [hs]

@[simp] theorem tileNew_keeps (s : State) (load : Bool) (c : TileCfg) :
    (State.tileNew s load c).pending = s.pending ∧ (State.tileNew s load c).sdram = s.sdram ∧ (State.tileNew s load c).fuse = s.fuse ∧ (State.tileNew s load c).sem = s.sem ∧ (State.tileNew s load c).dom = s.dom ∧ (State.tileNew s load c).time = s.time ∧ (State.tileNew s load c).kp = s.kp ∧ (State.tileNew s load c).regs = s.regs ∧ (State.tileNew s load c).act = s.act ∧ (State.tileNew s load c).mirror = s.mirror := by
  unfold State.tileNew
  split <;> simp

@[simp] theorem tilesNew_keeps (s : State) (p : Nat) (load : Bool) :
    (State.tilesNew s p load).pending = s.pending ∧ (State.tilesNew s p load).sdram = s.sdram ∧ (State.tilesNew s p load).fuse = s.fuse ∧ (State.tilesNew s p load).sem = s.sem ∧ (State.tilesNew s p load).dom = s.dom ∧ (State.tilesNew s p load).time = s.time ∧ (State.tilesNew s p load).kp = s.kp ∧ (State.tilesNew s p load).regs = s.regs ∧ (State.tilesNew s p load).act = s.act ∧ (State.tilesNew s p load).mirror = s.mirror := by
  unfold State.tilesNew
  simp

@[simp] theorem unitsNew_keeps (s : State) (p : Nat) (g : Option Staged) :
    (State.unitsNew s p g).pending = s.pending ∧ (State.unitsNew s p g).sdram = s.sdram ∧ (State.unitsNew s p g).fuse = s.fuse ∧ (State.unitsNew s p g).sem = s.sem ∧ (State.unitsNew s p g).dom = s.dom ∧ (State.unitsNew s p g).time = s.time ∧ (State.unitsNew s p g).kp = s.kp ∧ (State.unitsNew s p g).act = s.act ∧ (State.unitsNew s p g).mirror = s.mirror := by
  unfold State.unitsNew
  simp

@[simp] theorem unitsNew_rising (s : State) (p : Nat) (g : Option Staged) (hs : s.regs.rising = true) :
    (State.unitsNew s p g).regs.rising = true := by
  unfold State.unitsNew
  simp (maxDischargeDepth := 60) +contextual [hs]

@[simp] theorem replayLease_keeps (s : State) (p : Nat) (old : Option PathImg) (new : Option PathImg) :
    (State.replayLease s p old new).pending = s.pending ∧ (State.replayLease s p old new).sdram = s.sdram ∧ (State.replayLease s p old new).fuse = s.fuse ∧ (State.replayLease s p old new).sem = s.sem ∧ (State.replayLease s p old new).dom = s.dom ∧ (State.replayLease s p old new).time = s.time ∧ (State.replayLease s p old new).kp = s.kp ∧ (State.replayLease s p old new).act = s.act := by
  unfold State.replayLease
  try dsimp only
  (repeat' split) <;> simp

@[simp] theorem replayLease_rising (s : State) (p : Nat) (old : Option PathImg) (new : Option PathImg) (hs : s.regs.rising = true) :
    (State.replayLease s p old new).regs.rising = true := by
  unfold State.replayLease
  try dsimp only
  (repeat' split) <;> simp (maxDischargeDepth := 60) +contextual [hs]

@[simp] theorem replayLease_mirrorWf (s : State) (p : Nat) (old : Option PathImg) (new : Option PathImg) (hs : s.mirror.words.wf 0#32 = true) :
    (State.replayLease s p old new).mirror.words.wf 0#32 = true := by
  unfold State.replayLease
  try dsimp only
  (repeat' split) <;> simp (maxDischargeDepth := 60) +contextual [hs]

@[simp] theorem pathTake_keeps (s : State) (p : Nat) (g : Option Staged) :
    (State.pathTake s p g).pending = s.pending ∧ (State.pathTake s p g).sdram = s.sdram ∧ (State.pathTake s p g).fuse = s.fuse ∧ (State.pathTake s p g).sem = s.sem ∧ (State.pathTake s p g).dom = s.dom ∧ (State.pathTake s p g).time = s.time ∧ (State.pathTake s p g).kp = s.kp ∧ (State.pathTake s p g).act = s.act := by
  unfold State.pathTake
  simp

@[simp] theorem pathTake_rising (s : State) (p : Nat) (g : Option Staged) (hs : s.regs.rising = true) :
    (State.pathTake s p g).regs.rising = true := by
  unfold State.pathTake
  simp (maxDischargeDepth := 60) +contextual [hs]

@[simp] theorem pathTake_mirrorWf (s : State) (p : Nat) (g : Option Staged) (hs : s.mirror.words.wf 0#32 = true) :
    (State.pathTake s p g).mirror.words.wf 0#32 = true := by
  unfold State.pathTake
  simp (maxDischargeDepth := 60) +contextual [hs]

@[simp] theorem pathCommit_keeps (s : State) (p : Nat) :
    (State.pathCommit s p).pending = s.pending ∧ (State.pathCommit s p).sdram = s.sdram ∧ (State.pathCommit s p).fuse = s.fuse ∧ (State.pathCommit s p).sem = s.sem ∧ (State.pathCommit s p).dom = s.dom ∧ (State.pathCommit s p).time = s.time ∧ (State.pathCommit s p).kp = s.kp ∧ (State.pathCommit s p).act = s.act ∧ (State.pathCommit s p).mirror = s.mirror := by
  unfold State.pathCommit
  simp

@[simp] theorem pathCommit_rising (s : State) (p : Nat) (hs : s.regs.rising = true) :
    (State.pathCommit s p).regs.rising = true := by
  unfold State.pathCommit
  simp (maxDischargeDepth := 60) +contextual [hs]

@[simp] theorem pathStart_keeps (s : State) (p : Nat) :
    (State.pathStart s p).pending = s.pending ∧ (State.pathStart s p).sdram = s.sdram ∧ (State.pathStart s p).fuse = s.fuse ∧ (State.pathStart s p).sem = s.sem ∧ (State.pathStart s p).dom = s.dom ∧ (State.pathStart s p).time = s.time ∧ (State.pathStart s p).kp = s.kp ∧ (State.pathStart s p).act = s.act := by
  unfold State.pathStart
  simp

@[simp] theorem pathStart_rising (s : State) (p : Nat) (hs : s.regs.rising = true) :
    (State.pathStart s p).regs.rising = true := by
  unfold State.pathStart
  simp (maxDischargeDepth := 60) +contextual [hs]

@[simp] theorem pathStart_mirrorWf (s : State) (p : Nat) (hs : s.mirror.words.wf 0#32 = true) :
    (State.pathStart s p).mirror.words.wf 0#32 = true := by
  unfold State.pathStart
  simp (maxDischargeDepth := 60) +contextual [hs]

@[simp] theorem switchOver_keeps (s : State) (ps : List Nat) :
    (State.switchOver s ps).pending = s.pending ∧ (State.switchOver s ps).sdram = s.sdram ∧ (State.switchOver s ps).fuse = s.fuse ∧ (State.switchOver s ps).dom = s.dom ∧ (State.switchOver s ps).time = s.time ∧ (State.switchOver s ps).kp = s.kp ∧ (State.switchOver s ps).act = s.act := by
  unfold State.switchOver
  simp

@[simp] theorem switchOver_rising (s : State) (ps : List Nat) (hs : s.regs.rising = true) :
    (State.switchOver s ps).regs.rising = true := by
  unfold State.switchOver
  simp (maxDischargeDepth := 60) +contextual [hs]

@[simp] theorem switchOver_tieWf (s : State) (ps : List Nat) (hs : s.sem.tieLoser.wf none = true) :
    (State.switchOver s ps).sem.tieLoser.wf none = true := by
  unfold State.switchOver
  simp (maxDischargeDepth := 60) +contextual [hs]

@[simp] theorem switchOver_engineSems (s : State) (ps : List Nat) (hs : engineSems s.sem) :
    engineSems (State.switchOver s ps).sem := by
  unfold State.switchOver
  simp (maxDischargeDepth := 60) +contextual [hs]

@[simp] theorem switchOver_mirrorWf (s : State) (ps : List Nat) (hs : s.mirror.words.wf 0#32 = true) :
    (State.switchOver s ps).mirror.words.wf 0#32 = true := by
  unfold State.switchOver
  simp (maxDischargeDepth := 60) +contextual [hs]
end Sys2Proof.Machine.State
end

