-- ==== Sys2Proof/Laws/KeepWear.lean ====
section
/-! SUPPORT. What the operations of Machine/Wear.lean leave alone: memory, fuses, semaphores, domains, time, the queue. -/

namespace Sys2Proof.Machine.State

@[simp] theorem ledgerChange_keeps (s : State) (kind : Nat) (mark : Nat) (unit : Nat) :
    (State.ledgerChange s kind mark unit).pending = s.pending ∧ (State.ledgerChange s kind mark unit).sdram = s.sdram ∧ (State.ledgerChange s kind mark unit).fuse = s.fuse ∧ (State.ledgerChange s kind mark unit).sem = s.sem ∧ (State.ledgerChange s kind mark unit).dom = s.dom ∧ (State.ledgerChange s kind mark unit).time = s.time ∧ (State.ledgerChange s kind mark unit).kp = s.kp ∧ (State.ledgerChange s kind mark unit).regs = s.regs ∧ (State.ledgerChange s kind mark unit).act = s.act ∧ (State.ledgerChange s kind mark unit).mirror = s.mirror := by
  unfold State.ledgerChange
  try dsimp only
  (repeat' split) <;> simp

@[simp] theorem ledgerPut_keeps (s : State) (e : LedgerEntry) :
    (State.ledgerPut s e).pending = s.pending ∧ (State.ledgerPut s e).sdram = s.sdram ∧ (State.ledgerPut s e).fuse = s.fuse ∧ (State.ledgerPut s e).sem = s.sem ∧ (State.ledgerPut s e).dom = s.dom ∧ (State.ledgerPut s e).time = s.time ∧ (State.ledgerPut s e).kp = s.kp ∧ (State.ledgerPut s e).act = s.act ∧ (State.ledgerPut s e).mirror = s.mirror := by
  unfold State.ledgerPut
  simp

@[simp] theorem ledgerPut_rising (s : State) (e : LedgerEntry) (hs : s.regs.rising = true) :
    (State.ledgerPut s e).regs.rising = true := by
  unfold State.ledgerPut
  simp (maxDischargeDepth := 60) +contextual [hs]

@[simp] theorem ledgerPuts_keeps (s : State) (y0 : List LedgerEntry) :
    (State.ledgerPuts s y0).pending = s.pending ∧ (State.ledgerPuts s y0).sdram = s.sdram ∧ (State.ledgerPuts s y0).fuse = s.fuse ∧ (State.ledgerPuts s y0).sem = s.sem ∧ (State.ledgerPuts s y0).dom = s.dom ∧ (State.ledgerPuts s y0).time = s.time ∧ (State.ledgerPuts s y0).kp = s.kp ∧ (State.ledgerPuts s y0).act = s.act ∧ (State.ledgerPuts s y0).mirror = s.mirror := by
  fun_induction State.ledgerPuts s y0; all_goals first
      | (simp_all +zetaDelta; done)
      | (simp only [*]; (try simp +zetaDelta only []); (repeat' split) <;> simp_all; done)

@[simp] theorem ledgerPuts_rising (s : State) (y0 : List LedgerEntry) (hs : s.regs.rising = true) :
    (State.ledgerPuts s y0).regs.rising = true := by
  fun_induction State.ledgerPuts s y0 <;> (simp_all (maxDischargeDepth := 60) +zetaDelta; done)

@[simp] theorem ledgerLost_keeps (s : State) :
    (State.ledgerLost s).pending = s.pending ∧ (State.ledgerLost s).sdram = s.sdram ∧ (State.ledgerLost s).fuse = s.fuse ∧ (State.ledgerLost s).sem = s.sem ∧ (State.ledgerLost s).dom = s.dom ∧ (State.ledgerLost s).time = s.time ∧ (State.ledgerLost s).kp = s.kp ∧ (State.ledgerLost s).act = s.act ∧ (State.ledgerLost s).mirror = s.mirror := by
  unfold State.ledgerLost
  simp

@[simp] theorem ledgerLost_rising (s : State) (hs : s.regs.rising = true) :
    (State.ledgerLost s).regs.rising = true := by
  unfold State.ledgerLost
  simp (maxDischargeDepth := 60) +contextual [hs]

@[simp] theorem sparesShow_keeps (s : State) :
    (State.sparesShow s).pending = s.pending ∧ (State.sparesShow s).sdram = s.sdram ∧ (State.sparesShow s).fuse = s.fuse ∧ (State.sparesShow s).sem = s.sem ∧ (State.sparesShow s).dom = s.dom ∧ (State.sparesShow s).time = s.time ∧ (State.sparesShow s).kp = s.kp ∧ (State.sparesShow s).act = s.act ∧ (State.sparesShow s).mirror = s.mirror := by
  unfold State.sparesShow
  simp

@[simp] theorem sparesShow_rising (s : State) (hs : s.regs.rising = true) :
    (State.sparesShow s).regs.rising = true := by
  unfold State.sparesShow
  simp (maxDischargeDepth := 60) +contextual [hs]

@[simp] theorem rowsShow_keeps (s : State) :
    (State.rowsShow s).pending = s.pending ∧ (State.rowsShow s).sdram = s.sdram ∧ (State.rowsShow s).fuse = s.fuse ∧ (State.rowsShow s).sem = s.sem ∧ (State.rowsShow s).dom = s.dom ∧ (State.rowsShow s).time = s.time ∧ (State.rowsShow s).kp = s.kp ∧ (State.rowsShow s).act = s.act ∧ (State.rowsShow s).mirror = s.mirror := by
  unfold State.rowsShow
  simp

@[simp] theorem rowsShow_rising (s : State) (hs : s.regs.rising = true) :
    (State.rowsShow s).regs.rising = true := by
  unfold State.rowsShow
  simp (maxDischargeDepth := 60) +contextual [hs]

@[simp] theorem tilesShow_keeps (s : State) :
    (State.tilesShow s).pending = s.pending ∧ (State.tilesShow s).sdram = s.sdram ∧ (State.tilesShow s).fuse = s.fuse ∧ (State.tilesShow s).sem = s.sem ∧ (State.tilesShow s).dom = s.dom ∧ (State.tilesShow s).time = s.time ∧ (State.tilesShow s).kp = s.kp ∧ (State.tilesShow s).act = s.act ∧ (State.tilesShow s).mirror = s.mirror := by
  unfold State.tilesShow
  simp

@[simp] theorem tilesShow_rising (s : State) (hs : s.regs.rising = true) :
    (State.tilesShow s).regs.rising = true := by
  unfold State.tilesShow
  simp (maxDischargeDepth := 60) +contextual [hs]

@[simp] theorem retire_keeps (s : State) (t : Nat) :
    (State.retire s t).pending = s.pending ∧ (State.retire s t).sdram = s.sdram ∧ (State.retire s t).fuse = s.fuse ∧ (State.retire s t).sem = s.sem ∧ (State.retire s t).dom = s.dom ∧ (State.retire s t).time = s.time ∧ (State.retire s t).kp = s.kp ∧ (State.retire s t).act = s.act ∧ (State.retire s t).mirror = s.mirror := by
  unfold State.retire
  simp

@[simp] theorem retire_rising (s : State) (t : Nat) (hs : s.regs.rising = true) :
    (State.retire s t).regs.rising = true := by
  unfold State.retire
  simp (maxDischargeDepth := 60) +contextual [hs]

@[simp] theorem kpShow_keeps (s : State) (n : Nat) :
    (State.kpShow s n).pending = s.pending ∧ (State.kpShow s n).sdram = s.sdram ∧ (State.kpShow s n).fuse = s.fuse ∧ (State.kpShow s n).sem = s.sem ∧ (State.kpShow s n).dom = s.dom ∧ (State.kpShow s n).time = s.time ∧ (State.kpShow s n).kp = s.kp ∧ (State.kpShow s n).act = s.act ∧ (State.kpShow s n).mirror = s.mirror := by
  unfold State.kpShow
  simp

@[simp] theorem kpShow_rising (s : State) (n : Nat) (hs : s.regs.rising = true) :
    (State.kpShow s n).regs.rising = true := by
  unfold State.kpShow
  simp (maxDischargeDepth := 60) +contextual [hs]

@[simp] theorem kpShowAll_keeps (s : State) :
    (State.kpShowAll s).pending = s.pending ∧ (State.kpShowAll s).sdram = s.sdram ∧ (State.kpShowAll s).fuse = s.fuse ∧ (State.kpShowAll s).sem = s.sem ∧ (State.kpShowAll s).dom = s.dom ∧ (State.kpShowAll s).time = s.time ∧ (State.kpShowAll s).kp = s.kp ∧ (State.kpShowAll s).act = s.act ∧ (State.kpShowAll s).mirror = s.mirror := by
  unfold State.kpShowAll
  simp

@[simp] theorem kpShowAll_rising (s : State) (hs : s.regs.rising = true) :
    (State.kpShowAll s).regs.rising = true := by
  unfold State.kpShowAll
  simp (maxDischargeDepth := 60) +contextual [hs]

@[simp] theorem kpFresh_keeps (s : State) (n : Nat) :
    (State.kpFresh s n).pending = s.pending ∧ (State.kpFresh s n).sdram = s.sdram ∧ (State.kpFresh s n).fuse = s.fuse ∧ (State.kpFresh s n).sem = s.sem ∧ (State.kpFresh s n).dom = s.dom ∧ (State.kpFresh s n).time = s.time ∧ (State.kpFresh s n).mirror = s.mirror := by
  unfold State.kpFresh
  simp

@[simp] theorem kpFresh_rising (s : State) (n : Nat) (hs : s.regs.rising = true) :
    (State.kpFresh s n).regs.rising = true := by
  unfold State.kpFresh
  simp (maxDischargeDepth := 60) +contextual [hs]

@[simp] theorem kpFresh_actRising (s : State) (n : Nat) (_hr : s.regs.rising = true) (hs : s.act.rising = true) :
    (State.kpFresh s n).act.rising = true := by
  unfold State.kpFresh
  simp (maxDischargeDepth := 60) +contextual [hs]

@[simp] theorem kpMapPut_keeps (s : State) (n : Nat) (v : Nat) :
    (State.kpMapPut s n v).pending = s.pending ∧ (State.kpMapPut s n v).sdram = s.sdram ∧ (State.kpMapPut s n v).fuse = s.fuse ∧ (State.kpMapPut s n v).sem = s.sem ∧ (State.kpMapPut s n v).dom = s.dom ∧ (State.kpMapPut s n v).time = s.time ∧ (State.kpMapPut s n v).mirror = s.mirror := by
  unfold State.kpMapPut
  simp

@[simp] theorem kpMapPut_rising (s : State) (n : Nat) (v : Nat) (hs : s.regs.rising = true) :
    (State.kpMapPut s n v).regs.rising = true := by
  unfold State.kpMapPut
  simp (maxDischargeDepth := 60) +contextual [hs]

@[simp] theorem kpMapPut_actRising (s : State) (n : Nat) (v : Nat) (hr : s.regs.rising = true) (hs : s.act.rising = true) :
    (State.kpMapPut s n v).act.rising = true := by
  unfold State.kpMapPut
  simp (maxDischargeDepth := 60) +contextual [hr, hs]

@[simp] theorem slicePut_keeps (s : State) (n : Nat) (r : Nat) (x : Nat) :
    (State.slicePut s n r x).pending = s.pending ∧ (State.slicePut s n r x).sdram = s.sdram ∧ (State.slicePut s n r x).fuse = s.fuse ∧ (State.slicePut s n r x).sem = s.sem ∧ (State.slicePut s n r x).dom = s.dom ∧ (State.slicePut s n r x).time = s.time ∧ (State.slicePut s n r x).kp = s.kp ∧ (State.slicePut s n r x).act = s.act ∧ (State.slicePut s n r x).mirror = s.mirror := by
  unfold State.slicePut
  simp

@[simp] theorem slicePut_rising (s : State) (n : Nat) (r : Nat) (x : Nat) (hs : s.regs.rising = true) :
    (State.slicePut s n r x).regs.rising = true := by
  unfold State.slicePut
  simp (maxDischargeDepth := 60) +contextual [hs]

@[simp] theorem sliceShow_keeps (s : State) (n : Nat) :
    (State.sliceShow s n).pending = s.pending ∧ (State.sliceShow s n).sdram = s.sdram ∧ (State.sliceShow s n).fuse = s.fuse ∧ (State.sliceShow s n).sem = s.sem ∧ (State.sliceShow s n).dom = s.dom ∧ (State.sliceShow s n).time = s.time ∧ (State.sliceShow s n).kp = s.kp ∧ (State.sliceShow s n).act = s.act ∧ (State.sliceShow s n).mirror = s.mirror := by
  unfold State.sliceShow
  try dsimp only
  (repeat' split) <;> simp

@[simp] theorem sliceShow_rising (s : State) (n : Nat) (hs : s.regs.rising = true) :
    (State.sliceShow s n).regs.rising = true := by
  unfold State.sliceShow
  try dsimp only
  (repeat' split) <;> simp (maxDischargeDepth := 60) +contextual [hs]

@[simp] theorem steerShow_keeps (s : State) (m : Nat) :
    (State.steerShow s m).pending = s.pending ∧ (State.steerShow s m).sdram = s.sdram ∧ (State.steerShow s m).fuse = s.fuse ∧ (State.steerShow s m).sem = s.sem ∧ (State.steerShow s m).dom = s.dom ∧ (State.steerShow s m).time = s.time ∧ (State.steerShow s m).kp = s.kp ∧ (State.steerShow s m).act = s.act ∧ (State.steerShow s m).mirror = s.mirror := by
  unfold State.steerShow
  simp

@[simp] theorem steerShow_rising (s : State) (m : Nat) (hs : s.regs.rising = true) :
    (State.steerShow s m).regs.rising = true := by
  unfold State.steerShow
  simp (maxDischargeDepth := 60) +contextual [hs]

@[simp] theorem tileServe_keeps (s : State) (t : Nat) :
    (State.tileServe s t).1.pending = s.pending ∧ (State.tileServe s t).1.sdram = s.sdram ∧ (State.tileServe s t).1.fuse = s.fuse ∧ (State.tileServe s t).1.sem = s.sem ∧ (State.tileServe s t).1.dom = s.dom ∧ (State.tileServe s t).1.time = s.time ∧ (State.tileServe s t).1.kp = s.kp ∧ (State.tileServe s t).1.act = s.act ∧ (State.tileServe s t).1.mirror = s.mirror := by
  unfold State.tileServe
  try dsimp only
  (repeat' split) <;> simp

@[simp] theorem tileServe_rising (s : State) (t : Nat) (hs : s.regs.rising = true) :
    (State.tileServe s t).1.regs.rising = true := by
  unfold State.tileServe
  try dsimp only
  (repeat' split) <;> simp (maxDischargeDepth := 60) +contextual [hs]

@[simp] theorem kpServe_keeps (s : State) (m : Nat) :
    (State.kpServe s m).1.pending = s.pending ∧ (State.kpServe s m).1.sdram = s.sdram ∧ (State.kpServe s m).1.fuse = s.fuse ∧ (State.kpServe s m).1.sem = s.sem ∧ (State.kpServe s m).1.dom = s.dom ∧ (State.kpServe s m).1.time = s.time ∧ (State.kpServe s m).1.mirror = s.mirror := by
  unfold State.kpServe
  try dsimp only
  (repeat' split) <;> simp

@[simp] theorem kpServe_rising (s : State) (m : Nat) (hs : s.regs.rising = true) :
    (State.kpServe s m).1.regs.rising = true := by
  unfold State.kpServe
  try dsimp only
  (repeat' split) <;> simp (maxDischargeDepth := 60) +contextual [hs]

@[simp] theorem kpServe_actRising (s : State) (m : Nat) (hr : s.regs.rising = true) (hs : s.act.rising = true) :
    (State.kpServe s m).1.act.rising = true := by
  unfold State.kpServe
  try dsimp only
  (repeat' split) <;> simp (maxDischargeDepth := 60) +contextual [hr, hs]

@[simp] theorem sliceServe_keeps (s : State) (n : Nat) :
    (State.sliceServe s n).1.pending = s.pending ∧ (State.sliceServe s n).1.sdram = s.sdram ∧ (State.sliceServe s n).1.fuse = s.fuse ∧ (State.sliceServe s n).1.sem = s.sem ∧ (State.sliceServe s n).1.dom = s.dom ∧ (State.sliceServe s n).1.time = s.time ∧ (State.sliceServe s n).1.kp = s.kp ∧ (State.sliceServe s n).1.act = s.act ∧ (State.sliceServe s n).1.mirror = s.mirror := by
  unfold State.sliceServe
  try dsimp only
  (repeat' split) <;> simp

@[simp] theorem sliceServe_rising (s : State) (n : Nat) (hs : s.regs.rising = true) :
    (State.sliceServe s n).1.regs.rising = true := by
  unfold State.sliceServe
  try dsimp only
  (repeat' split) <;> simp (maxDischargeDepth := 60) +contextual [hs]

@[simp] theorem rowPut_keeps (s : State) (k : Nat) :
    (State.rowPut s k).pending = s.pending ∧ (State.rowPut s k).sdram = s.sdram ∧ (State.rowPut s k).fuse = s.fuse ∧ (State.rowPut s k).sem = s.sem ∧ (State.rowPut s k).dom = s.dom ∧ (State.rowPut s k).time = s.time ∧ (State.rowPut s k).kp = s.kp ∧ (State.rowPut s k).act = s.act ∧ (State.rowPut s k).mirror = s.mirror := by
  unfold State.rowPut
  simp

@[simp] theorem rowPut_rising (s : State) (k : Nat) (hs : s.regs.rising = true) :
    (State.rowPut s k).regs.rising = true := by
  unfold State.rowPut
  simp (maxDischargeDepth := 60) +contextual [hs]

@[simp] theorem rowServe_keeps (s : State) (k : Nat) :
    (State.rowServe s k).1.pending = s.pending ∧ (State.rowServe s k).1.sdram = s.sdram ∧ (State.rowServe s k).1.fuse = s.fuse ∧ (State.rowServe s k).1.sem = s.sem ∧ (State.rowServe s k).1.dom = s.dom ∧ (State.rowServe s k).1.time = s.time ∧ (State.rowServe s k).1.kp = s.kp ∧ (State.rowServe s k).1.act = s.act ∧ (State.rowServe s k).1.mirror = s.mirror := by
  unfold State.rowServe
  try dsimp only
  (repeat' split) <;> simp

@[simp] theorem rowServe_rising (s : State) (k : Nat) (hs : s.regs.rising = true) :
    (State.rowServe s k).1.regs.rising = true := by
  unfold State.rowServe
  try dsimp only
  (repeat' split) <;> simp (maxDischargeDepth := 60) +contextual [hs]

@[simp] theorem serveAll_keeps_pending (serve : State → Nat → State × Bool) (s : State) (ok : Bool) (us : List Nat)
    (h : ∀ t u, (serve t u).1.pending = t.pending) : (serveAll serve s ok us).1.pending = s.pending := by
  induction us generalizing s ok with
  | nil => rfl
  | cons u us ih => rw [serveAll, ih, h]

@[simp] theorem serveAll_keeps_sdram (serve : State → Nat → State × Bool) (s : State) (ok : Bool) (us : List Nat)
    (h : ∀ t u, (serve t u).1.sdram = t.sdram) : (serveAll serve s ok us).1.sdram = s.sdram := by
  induction us generalizing s ok with
  | nil => rfl
  | cons u us ih => rw [serveAll, ih, h]

@[simp] theorem serveAll_keeps_fuse (serve : State → Nat → State × Bool) (s : State) (ok : Bool) (us : List Nat)
    (h : ∀ t u, (serve t u).1.fuse = t.fuse) : (serveAll serve s ok us).1.fuse = s.fuse := by
  induction us generalizing s ok with
  | nil => rfl
  | cons u us ih => rw [serveAll, ih, h]

@[simp] theorem serveAll_keeps_sem (serve : State → Nat → State × Bool) (s : State) (ok : Bool) (us : List Nat)
    (h : ∀ t u, (serve t u).1.sem = t.sem) : (serveAll serve s ok us).1.sem = s.sem := by
  induction us generalizing s ok with
  | nil => rfl
  | cons u us ih => rw [serveAll, ih, h]

@[simp] theorem serveAll_keeps_dom (serve : State → Nat → State × Bool) (s : State) (ok : Bool) (us : List Nat)
    (h : ∀ t u, (serve t u).1.dom = t.dom) : (serveAll serve s ok us).1.dom = s.dom := by
  induction us generalizing s ok with
  | nil => rfl
  | cons u us ih => rw [serveAll, ih, h]

@[simp] theorem serveAll_keeps_time (serve : State → Nat → State × Bool) (s : State) (ok : Bool) (us : List Nat)
    (h : ∀ t u, (serve t u).1.time = t.time) : (serveAll serve s ok us).1.time = s.time := by
  induction us generalizing s ok with
  | nil => rfl
  | cons u us ih => rw [serveAll, ih, h]

@[simp] theorem serveAll_keeps_kp (serve : State → Nat → State × Bool) (s : State) (ok : Bool) (us : List Nat)
    (h : ∀ t u, (serve t u).1.kp = t.kp) : (serveAll serve s ok us).1.kp = s.kp := by
  induction us generalizing s ok with
  | nil => rfl
  | cons u us ih => rw [serveAll, ih, h]

@[simp] theorem serveAll_keeps_regs (serve : State → Nat → State × Bool) (s : State) (ok : Bool) (us : List Nat)
    (h : ∀ t u, (serve t u).1.regs = t.regs) : (serveAll serve s ok us).1.regs = s.regs := by
  induction us generalizing s ok with
  | nil => rfl
  | cons u us ih => rw [serveAll, ih, h]

@[simp] theorem serveAll_keeps_act (serve : State → Nat → State × Bool) (s : State) (ok : Bool) (us : List Nat)
    (h : ∀ t u, (serve t u).1.act = t.act) : (serveAll serve s ok us).1.act = s.act := by
  induction us generalizing s ok with
  | nil => rfl
  | cons u us ih => rw [serveAll, ih, h]

@[simp] theorem serveAll_keeps_mirror (serve : State → Nat → State × Bool) (s : State) (ok : Bool) (us : List Nat)
    (h : ∀ t u, (serve t u).1.mirror = t.mirror) : (serveAll serve s ok us).1.mirror = s.mirror := by
  induction us generalizing s ok with
  | nil => rfl
  | cons u us ih => rw [serveAll, ih, h]

@[simp] theorem serveAll_rising (serve : State → Nat → State × Bool) (s : State) (ok : Bool) (us : List Nat)
    (hs : s.regs.rising = true) (h : ∀ t u, t.regs.rising = true → (serve t u).1.regs.rising = true) :
    (serveAll serve s ok us).1.regs.rising = true := by
  induction us generalizing s ok with
  | nil => exact hs
  | cons u us ih => exact ih _ _ (h _ _ hs)

@[simp] theorem serveAll_actRising (serve : State → Nat → State × Bool) (s : State) (ok : Bool) (us : List Nat)
    (hr : s.regs.rising = true) (hs : s.act.rising = true) (g : ∀ t u, t.regs.rising = true → (serve t u).1.regs.rising = true)
    (h : ∀ t u, t.regs.rising = true → t.act.rising = true → (serve t u).1.act.rising = true) :
    (serveAll serve s ok us).1.act.rising = true := by
  induction us generalizing s ok with
  | nil => exact hs
  | cons u us ih => exact ih _ _ (g _ _ hr) (h _ _ hr hs)

@[simp] theorem repairSteps_keeps (s : State) :
    (State.repairSteps s).1.pending = s.pending ∧ (State.repairSteps s).1.sdram = s.sdram ∧ (State.repairSteps s).1.fuse = s.fuse ∧ (State.repairSteps s).1.sem = s.sem ∧ (State.repairSteps s).1.dom = s.dom ∧ (State.repairSteps s).1.time = s.time ∧ (State.repairSteps s).1.mirror = s.mirror := by
  unfold State.repairSteps
  simp

@[simp] theorem repairSteps_rising (s : State) (hs : s.regs.rising = true) :
    (State.repairSteps s).1.regs.rising = true := by
  unfold State.repairSteps
  simp (maxDischargeDepth := 60) +contextual [hs]

@[simp] theorem repairSteps_actRising (s : State) (hr : s.regs.rising = true) (hs : s.act.rising = true) :
    (State.repairSteps s).1.act.rising = true := by
  unfold State.repairSteps
  simp (maxDischargeDepth := 60) +contextual [hr, hs]

@[simp] theorem repairEntries_keeps (s : State) (old : Nat) (fails : Bool) :
    (State.repairEntries s old fails).pending = s.pending ∧ (State.repairEntries s old fails).sdram = s.sdram ∧ (State.repairEntries s old fails).fuse = s.fuse ∧ (State.repairEntries s old fails).sem = s.sem ∧ (State.repairEntries s old fails).dom = s.dom ∧ (State.repairEntries s old fails).time = s.time ∧ (State.repairEntries s old fails).kp = s.kp ∧ (State.repairEntries s old fails).act = s.act ∧ (State.repairEntries s old fails).mirror = s.mirror := by
  unfold State.repairEntries
  simp

@[simp] theorem repairEntries_rising (s : State) (old : Nat) (fails : Bool) (hs : s.regs.rising = true) :
    (State.repairEntries s old fails).regs.rising = true := by
  unfold State.repairEntries
  simp (maxDischargeDepth := 60) +contextual [hs]

@[simp] theorem tileMove_keeps (s : State) (old : State) (l : Nat) :
    (State.tileMove s old l).pending = s.pending ∧ (State.tileMove s old l).sdram = s.sdram ∧ (State.tileMove s old l).fuse = s.fuse ∧ (State.tileMove s old l).sem = s.sem ∧ (State.tileMove s old l).dom = s.dom ∧ (State.tileMove s old l).time = s.time ∧ (State.tileMove s old l).kp = s.kp ∧ (State.tileMove s old l).regs = s.regs ∧ (State.tileMove s old l).act = s.act ∧ (State.tileMove s old l).mirror = s.mirror := by
  unfold State.tileMove
  split <;> simp

@[simp] theorem tilesMove_keeps (s : State) (old : State) :
    (State.tilesMove s old).pending = s.pending ∧ (State.tilesMove s old).sdram = s.sdram ∧ (State.tilesMove s old).fuse = s.fuse ∧ (State.tilesMove s old).sem = s.sem ∧ (State.tilesMove s old).dom = s.dom ∧ (State.tilesMove s old).time = s.time ∧ (State.tilesMove s old).kp = s.kp ∧ (State.tilesMove s old).regs = s.regs ∧ (State.tilesMove s old).act = s.act ∧ (State.tilesMove s old).mirror = s.mirror := by
  unfold State.tilesMove
  simp

@[simp] theorem repair_keeps (s : State) (ledgerFails : Bool) :
    (State.repair s ledgerFails).pending = s.pending ∧ (State.repair s ledgerFails).sdram = s.sdram ∧ (State.repair s ledgerFails).fuse = s.fuse ∧ (State.repair s ledgerFails).sem = s.sem ∧ (State.repair s ledgerFails).dom = s.dom ∧ (State.repair s ledgerFails).time = s.time ∧ (State.repair s ledgerFails).mirror = s.mirror := by
  unfold State.repair
  simp

@[simp] theorem repair_rising (s : State) (ledgerFails : Bool) (hs : s.regs.rising = true) :
    (State.repair s ledgerFails).regs.rising = true := by
  unfold State.repair
  simp (maxDischargeDepth := 60) +contextual [hs]

@[simp] theorem repair_actRising (s : State) (ledgerFails : Bool) (hr : s.regs.rising = true) (hs : s.act.rising = true) :
    (State.repair s ledgerFails).act.rising = true := by
  unfold State.repair
  simp (maxDischargeDepth := 60) +contextual [hr, hs]

@[simp] theorem wearCtlWrite_keeps (s : State) (v : Nat) (ledgerFails : Bool) :
    (State.wearCtlWrite s v ledgerFails).pending = s.pending ∧ (State.wearCtlWrite s v ledgerFails).sdram = s.sdram ∧ (State.wearCtlWrite s v ledgerFails).fuse = s.fuse ∧ (State.wearCtlWrite s v ledgerFails).sem = s.sem ∧ (State.wearCtlWrite s v ledgerFails).dom = s.dom ∧ (State.wearCtlWrite s v ledgerFails).time = s.time ∧ (State.wearCtlWrite s v ledgerFails).mirror = s.mirror := by
  unfold State.wearCtlWrite
  simp

@[simp] theorem wearCtlWrite_rising (s : State) (v : Nat) (ledgerFails : Bool) (hs : s.regs.rising = true) :
    (State.wearCtlWrite s v ledgerFails).regs.rising = true := by
  unfold State.wearCtlWrite
  simp (maxDischargeDepth := 60) +contextual [hs]

@[simp] theorem wearCtlWrite_actRising (s : State) (v : Nat) (ledgerFails : Bool) (hr : s.regs.rising = true) (hs : s.act.rising = true) :
    (State.wearCtlWrite s v ledgerFails).act.rising = true := by
  unfold State.wearCtlWrite
  simp (maxDischargeDepth := 60) +contextual [hr, hs]

@[simp] theorem replayEntry_keeps (s : State) (done : List LedgerEntry) (e : LedgerEntry) :
    (State.replayEntry s done e).pending = s.pending ∧ (State.replayEntry s done e).sdram = s.sdram ∧ (State.replayEntry s done e).fuse = s.fuse ∧ (State.replayEntry s done e).sem = s.sem ∧ (State.replayEntry s done e).dom = s.dom ∧ (State.replayEntry s done e).time = s.time ∧ (State.replayEntry s done e).kp = s.kp ∧ (State.replayEntry s done e).act = s.act ∧ (State.replayEntry s done e).mirror = s.mirror := by
  unfold State.replayEntry
  try dsimp only
  (repeat' split) <;> simp

@[simp] theorem replayEntry_rising (s : State) (done : List LedgerEntry) (e : LedgerEntry) (hs : s.regs.rising = true) :
    (State.replayEntry s done e).regs.rising = true := by
  unfold State.replayEntry
  try dsimp only
  (repeat' split) <;> simp (maxDischargeDepth := 60) +contextual [hs]

@[simp] theorem replayLedger_keeps (s : State) (done : List LedgerEntry) (y0 : List LedgerEntry) :
    (State.replayLedger s done y0).pending = s.pending ∧ (State.replayLedger s done y0).sdram = s.sdram ∧ (State.replayLedger s done y0).fuse = s.fuse ∧ (State.replayLedger s done y0).sem = s.sem ∧ (State.replayLedger s done y0).dom = s.dom ∧ (State.replayLedger s done y0).time = s.time ∧ (State.replayLedger s done y0).kp = s.kp ∧ (State.replayLedger s done y0).act = s.act ∧ (State.replayLedger s done y0).mirror = s.mirror := by
  fun_induction State.replayLedger s done y0; all_goals first
      | (simp_all +zetaDelta; done)
      | (simp only [*]; (try simp +zetaDelta only []); (repeat' split) <;> simp_all; done)

@[simp] theorem replayLedger_rising (s : State) (done : List LedgerEntry) (y0 : List LedgerEntry) (hs : s.regs.rising = true) :
    (State.replayLedger s done y0).regs.rising = true := by
  fun_induction State.replayLedger s done y0 <;> (simp_all (maxDischargeDepth := 60) +zetaDelta; done)

@[simp] theorem steerTrim_keeps (s : State) :
    (State.steerTrim s).pending = s.pending ∧ (State.steerTrim s).sdram = s.sdram ∧ (State.steerTrim s).fuse = s.fuse ∧ (State.steerTrim s).sem = s.sem ∧ (State.steerTrim s).dom = s.dom ∧ (State.steerTrim s).time = s.time ∧ (State.steerTrim s).kp = s.kp ∧ (State.steerTrim s).regs = s.regs ∧ (State.steerTrim s).act = s.act ∧ (State.steerTrim s).mirror = s.mirror := by
  unfold State.steerTrim
  simp

@[simp] theorem laneNext_keeps (s : State) :
    (State.laneNext s).pending = s.pending ∧ (State.laneNext s).sdram = s.sdram ∧ (State.laneNext s).fuse = s.fuse ∧ (State.laneNext s).sem = s.sem ∧ (State.laneNext s).dom = s.dom ∧ (State.laneNext s).time = s.time ∧ (State.laneNext s).kp = s.kp ∧ (State.laneNext s).regs = s.regs ∧ (State.laneNext s).act = s.act ∧ (State.laneNext s).mirror = s.mirror := by
  unfold State.laneNext
  simp

@[simp] theorem wearClear_keeps (s : State) :
    (State.wearClear s).pending = s.pending ∧ (State.wearClear s).sdram = s.sdram ∧ (State.wearClear s).fuse = s.fuse ∧ (State.wearClear s).sem = s.sem ∧ (State.wearClear s).dom = s.dom ∧ (State.wearClear s).time = s.time ∧ (State.wearClear s).kp = s.kp ∧ (State.wearClear s).regs = s.regs ∧ (State.wearClear s).act = s.act ∧ (State.wearClear s).mirror = s.mirror := by
  unfold State.wearClear
  simp

@[simp] theorem startupRepair_keeps (s : State) :
    (State.startupRepair s).pending = s.pending ∧ (State.startupRepair s).sdram = s.sdram ∧ (State.startupRepair s).fuse = s.fuse ∧ (State.startupRepair s).sem = s.sem ∧ (State.startupRepair s).dom = s.dom ∧ (State.startupRepair s).time = s.time ∧ (State.startupRepair s).mirror = s.mirror := by
  unfold State.startupRepair
  simp

@[simp] theorem startupRepair_rising (s : State) (hs : s.regs.rising = true) :
    (State.startupRepair s).regs.rising = true := by
  unfold State.startupRepair
  simp (maxDischargeDepth := 60) +contextual [hs]

@[simp] theorem startupRepair_actRising (s : State) (hr : s.regs.rising = true) (hs : s.act.rising = true) :
    (State.startupRepair s).act.rising = true := by
  unfold State.startupRepair
  simp (maxDischargeDepth := 60) +contextual [hr, hs]

@[simp] theorem steerPause_keeps (s : State) :
    (State.steerPause s).pending = s.pending ∧ (State.steerPause s).sdram = s.sdram ∧ (State.steerPause s).fuse = s.fuse ∧ (State.steerPause s).sem = s.sem ∧ (State.steerPause s).dom = s.dom ∧ (State.steerPause s).time = s.time ∧ (State.steerPause s).kp = s.kp ∧ (State.steerPause s).regs = s.regs ∧ (State.steerPause s).act = s.act ∧ (State.steerPause s).mirror = s.mirror := by
  unfold State.steerPause
  try dsimp only
  (repeat' split) <;> simp

@[simp] theorem steerResume_keeps (s : State) (kept : Bool) :
    (State.steerResume s kept).pending = s.pending ∧ (State.steerResume s kept).sdram = s.sdram ∧ (State.steerResume s kept).fuse = s.fuse ∧ (State.steerResume s kept).sem = s.sem ∧ (State.steerResume s kept).dom = s.dom ∧ (State.steerResume s kept).time = s.time ∧ (State.steerResume s kept).kp = s.kp ∧ (State.steerResume s kept).regs = s.regs ∧ (State.steerResume s kept).act = s.act ∧ (State.steerResume s kept).mirror = s.mirror := by
  unfold State.steerResume
  try dsimp only
  (repeat' split) <;> simp

@[simp] theorem steerLedger_keeps (s : State) :
    (State.steerLedger s).pending = s.pending ∧ (State.steerLedger s).sdram = s.sdram ∧ (State.steerLedger s).fuse = s.fuse ∧ (State.steerLedger s).sem = s.sem ∧ (State.steerLedger s).dom = s.dom ∧ (State.steerLedger s).time = s.time ∧ (State.steerLedger s).kp = s.kp ∧ (State.steerLedger s).regs = s.regs ∧ (State.steerLedger s).act = s.act ∧ (State.steerLedger s).mirror = s.mirror := by
  unfold State.steerLedger
  try dsimp only
  (repeat' split) <;> simp

@[simp] theorem sramSpoil_keeps (s : State) (cls : Fin 3) (unit : Fin 8) (addr : Nat) :
    (State.sramSpoil s cls unit addr).pending = s.pending ∧ (State.sramSpoil s cls unit addr).sdram = s.sdram ∧ (State.sramSpoil s cls unit addr).fuse = s.fuse ∧ (State.sramSpoil s cls unit addr).sem = s.sem ∧ (State.sramSpoil s cls unit addr).dom = s.dom ∧ (State.sramSpoil s cls unit addr).time = s.time ∧ (State.sramSpoil s cls unit addr).kp = s.kp ∧ (State.sramSpoil s cls unit addr).regs = s.regs ∧ (State.sramSpoil s cls unit addr).act = s.act ∧ (State.sramSpoil s cls unit addr).mirror = s.mirror := by
  unfold State.sramSpoil
  simp
end Sys2Proof.Machine.State
end

