-- ==== Sys2Proof/Laws/KeepStart.lean ====
section
/-! SUPPORT. What the operations of Machine/Start.lean leave alone: memory, fuses, semaphores, domains, time, the queue. -/

namespace Sys2Proof.Machine.State

@[simp] theorem storeStop_keeps (s : State) :
    (State.storeStop s).pending = s.pending ∧ (State.storeStop s).sdram = s.sdram ∧ (State.storeStop s).fuse = s.fuse ∧ (State.storeStop s).sem = s.sem ∧ (State.storeStop s).dom = s.dom ∧ (State.storeStop s).time = s.time ∧ (State.storeStop s).kp = s.kp ∧ (State.storeStop s).act = s.act ∧ (State.storeStop s).mirror = s.mirror := by
  unfold State.storeStop
  try dsimp only
  (repeat' split) <;> simp

@[simp] theorem storeStop_rising (s : State) (hs : s.regs.rising = true) :
    (State.storeStop s).regs.rising = true := by
  unfold State.storeStop
  try dsimp only
  (repeat' split) <;> simp (maxDischargeDepth := 60) +contextual [hs]

@[simp] theorem wipe_keeps (s : State) :
    (State.wipe s).pending = s.pending ∧ (State.wipe s).sdram = s.sdram ∧ (State.wipe s).fuse = s.fuse ∧ (State.wipe s).time = s.time := by
  unfold State.wipe
  simp

@[simp] theorem wipe_rising (s : State) (hs : s.regs.rising = true) :
    (State.wipe s).regs.rising = true := by
  unfold State.wipe
  simp (maxDischargeDepth := 60) +contextual [hs]

@[simp] theorem wipe_actRising (s : State) : (wipe s).act.rising = true := rfl

@[simp] theorem wipe_tieWf (s : State) : (wipe s).sem.tieLoser.wf none = true := rfl

@[simp] theorem wipe_engineSems (s : State) : engineSems (wipe s).sem := ⟨rfl, fun n h => by cases h⟩

@[simp] theorem wipe_mirrorWf (s : State) : (wipe s).mirror.words.wf 0#32 = true := rfl

@[simp] theorem fuseCut_keeps (s : State) :
    (State.fuseCut s).pending = s.pending ∧ (State.fuseCut s).sdram = s.sdram ∧ (State.fuseCut s).sem = s.sem ∧ (State.fuseCut s).dom = s.dom ∧ (State.fuseCut s).time = s.time ∧ (State.fuseCut s).kp = s.kp ∧ (State.fuseCut s).regs = s.regs ∧ (State.fuseCut s).act = s.act ∧ (State.fuseCut s).mirror = s.mirror := by
  unfold State.fuseCut
  try dsimp only
  (repeat' split) <;> simp

@[simp] theorem porstWipe_keeps (s : State) :
    (State.porstWipe s).pending = s.pending := by
  unfold State.porstWipe
  simp

@[simp] theorem porstWipe_rising (s : State) (hs : s.regs.rising = true) :
    (State.porstWipe s).regs.rising = true := by
  unfold State.porstWipe
  simp (maxDischargeDepth := 60) +contextual [hs]

@[simp] theorem porstWipe_actRising (s : State) (_hr : s.regs.rising = true) (_hs : s.act.rising = true) :
    (State.porstWipe s).act.rising = true := by
  unfold State.porstWipe
  simp (maxDischargeDepth := 60) +contextual

@[simp] theorem porstWipe_tieWf (s : State) (_hs : s.sem.tieLoser.wf none = true) :
    (State.porstWipe s).sem.tieLoser.wf none = true := by
  unfold State.porstWipe
  simp (maxDischargeDepth := 60) +contextual

@[simp] theorem porstWipe_engineSems (s : State) (_hs : engineSems s.sem) :
    engineSems (State.porstWipe s).sem := by
  unfold State.porstWipe
  simp (maxDischargeDepth := 60) +contextual

@[simp] theorem porstWipe_mirrorWf (s : State) (_hs : s.mirror.words.wf 0#32 = true) :
    (State.porstWipe s).mirror.words.wf 0#32 = true := by
  unfold State.porstWipe
  simp (maxDischargeDepth := 60) +contextual

@[simp] theorem porstWipe_sdramWf (s : State) : (porstWipe s).sdram.wf 0#8 = true := rfl

@[simp] theorem wakeRecord_keeps (s : State) (source : Nat) (from_ : Nat) :
    (State.wakeRecord s source from_).pending = s.pending ∧ (State.wakeRecord s source from_).sdram = s.sdram ∧ (State.wakeRecord s source from_).fuse = s.fuse ∧ (State.wakeRecord s source from_).sem = s.sem ∧ (State.wakeRecord s source from_).dom = s.dom ∧ (State.wakeRecord s source from_).time = s.time ∧ (State.wakeRecord s source from_).kp = s.kp ∧ (State.wakeRecord s source from_).act = s.act ∧ (State.wakeRecord s source from_).mirror = s.mirror := by
  unfold State.wakeRecord
  simp

@[simp] theorem wakeRecord_rising (s : State) (source : Nat) (from_ : Nat) (hs : s.regs.rising = true) :
    (State.wakeRecord s source from_).regs.rising = true := by
  unfold State.wakeRecord
  simp (maxDischargeDepth := 60) +contextual [hs]

@[simp] theorem convOn_keeps (s : State) :
    (State.convOn s).pending = s.pending ∧ (State.convOn s).sdram = s.sdram ∧ (State.convOn s).fuse = s.fuse ∧ (State.convOn s).sem = s.sem ∧ (State.convOn s).dom = s.dom ∧ (State.convOn s).time = s.time ∧ (State.convOn s).kp = s.kp ∧ (State.convOn s).act = s.act ∧ (State.convOn s).mirror = s.mirror := by
  unfold State.convOn
  simp

@[simp] theorem convOn_rising (s : State) (hs : s.regs.rising = true) :
    (State.convOn s).regs.rising = true := by
  unfold State.convOn
  simp (maxDischargeDepth := 60) +contextual [hs]

@[simp] theorem hostUp_keeps (s : State) (cdc : CdcWhy) :
    (State.hostUp s cdc).pending = s.pending ∧ (State.hostUp s cdc).sdram = s.sdram ∧ (State.hostUp s cdc).fuse = s.fuse ∧ (State.hostUp s cdc).sem = s.sem ∧ (State.hostUp s cdc).act = s.act := by
  unfold State.hostUp
  simp

@[simp] theorem hostUp_rising (s : State) (cdc : CdcWhy) (hs : s.regs.rising = true) :
    (State.hostUp s cdc).regs.rising = true := by
  unfold State.hostUp
  simp (maxDischargeDepth := 60) +contextual [hs]

@[simp] theorem hostUp_mirrorWf (s : State) (cdc : CdcWhy) (hs : s.mirror.words.wf 0#32 = true) :
    (State.hostUp s cdc).mirror.words.wf 0#32 = true := by
  unfold State.hostUp
  simp (maxDischargeDepth := 60) +contextual [hs]

@[simp] theorem timeResume_keeps (s : State) (counts : Nat) :
    (State.timeResume s counts).pending = s.pending ∧ (State.timeResume s counts).sdram = s.sdram ∧ (State.timeResume s counts).fuse = s.fuse ∧ (State.timeResume s counts).sem = s.sem ∧ (State.timeResume s counts).dom = s.dom ∧ (State.timeResume s counts).kp = s.kp ∧ (State.timeResume s counts).regs = s.regs ∧ (State.timeResume s counts).act = s.act ∧ (State.timeResume s counts).mirror = s.mirror := by
  unfold State.timeResume
  simp

@[simp] theorem sysStop_keeps (s : State) (cause : Nat) :
    (State.sysStop s cause).pending = s.pending ∧ (State.sysStop s cause).sdram = s.sdram ∧ (State.sysStop s cause).fuse = s.fuse ∧ (State.sysStop s cause).time = s.time := by
  unfold State.sysStop
  simp

@[simp] theorem sysStop_rising (s : State) (cause : Nat) (hs : s.regs.rising = true) :
    (State.sysStop s cause).regs.rising = true := by
  unfold State.sysStop
  simp (maxDischargeDepth := 60) +contextual [hs]

@[simp] theorem sysStop_actRising (s : State) (cause : Nat) (_hr : s.regs.rising = true) (_hs : s.act.rising = true) :
    (State.sysStop s cause).act.rising = true := by
  unfold State.sysStop
  simp (maxDischargeDepth := 60) +contextual

@[simp] theorem sysStop_tieWf (s : State) (cause : Nat) (_hs : s.sem.tieLoser.wf none = true) :
    (State.sysStop s cause).sem.tieLoser.wf none = true := by
  unfold State.sysStop
  simp (maxDischargeDepth := 60) +contextual

@[simp] theorem sysStop_engineSems (s : State) (cause : Nat) (_hs : engineSems s.sem) :
    engineSems (State.sysStop s cause).sem := by
  unfold State.sysStop
  simp (maxDischargeDepth := 60) +contextual

@[simp] theorem sysStop_mirrorWf (s : State) (cause : Nat) (_hs : s.mirror.words.wf 0#32 = true) :
    (State.sysStop s cause).mirror.words.wf 0#32 = true := by
  unfold State.sysStop
  simp (maxDischargeDepth := 60) +contextual

@[simp] theorem sysGo_keeps (s : State) :
    (State.sysGo s).pending = s.pending ∧ (State.sysGo s).sdram = s.sdram ∧ (State.sysGo s).fuse = s.fuse ∧ (State.sysGo s).sem = s.sem ∧ (State.sysGo s).act = s.act := by
  unfold State.sysGo
  try dsimp only
  (repeat' split) <;> simp

@[simp] theorem sysGo_rising (s : State) (hs : s.regs.rising = true) :
    (State.sysGo s).regs.rising = true := by
  unfold State.sysGo
  try dsimp only
  (repeat' split) <;> simp (maxDischargeDepth := 60) +contextual [hs]

@[simp] theorem sysGo_mirrorWf (s : State) (hs : s.mirror.words.wf 0#32 = true) :
    (State.sysGo s).mirror.words.wf 0#32 = true := by
  unfold State.sysGo
  try dsimp only
  (repeat' split) <;> simp (maxDischargeDepth := 60) +contextual [hs]

@[simp] theorem trySysGo_keeps (s : State) :
    (State.trySysGo s).pending = s.pending ∧ (State.trySysGo s).sdram = s.sdram ∧ (State.trySysGo s).fuse = s.fuse ∧ (State.trySysGo s).sem = s.sem ∧ (State.trySysGo s).act = s.act := by
  unfold State.trySysGo
  simp

@[simp] theorem trySysGo_rising (s : State) (hs : s.regs.rising = true) :
    (State.trySysGo s).regs.rising = true := by
  unfold State.trySysGo
  simp (maxDischargeDepth := 60) +contextual [hs]

@[simp] theorem trySysGo_mirrorWf (s : State) (hs : s.mirror.words.wf 0#32 = true) :
    (State.trySysGo s).mirror.words.wf 0#32 = true := by
  unfold State.trySysGo
  simp (maxDischargeDepth := 60) +contextual [hs]

@[simp] theorem sysAsk_keeps (s : State) (cause : Nat) (release : Bool) :
    (State.sysAsk s cause release).pending = s.pending ∧ (State.sysAsk s cause release).sdram = s.sdram ∧ (State.sysAsk s cause release).fuse = s.fuse := by
  unfold State.sysAsk
  simp

@[simp] theorem sysAsk_rising (s : State) (cause : Nat) (release : Bool) (hs : s.regs.rising = true) :
    (State.sysAsk s cause release).regs.rising = true := by
  unfold State.sysAsk
  simp (maxDischargeDepth := 60) +contextual [hs]

@[simp] theorem sysAsk_actRising (s : State) (cause : Nat) (release : Bool) (hr : s.regs.rising = true) (hs : s.act.rising = true) :
    (State.sysAsk s cause release).act.rising = true := by
  unfold State.sysAsk
  simp (maxDischargeDepth := 60) +contextual [hr, hs]

@[simp] theorem sysAsk_tieWf (s : State) (cause : Nat) (release : Bool) (hs : s.sem.tieLoser.wf none = true) :
    (State.sysAsk s cause release).sem.tieLoser.wf none = true := by
  unfold State.sysAsk
  simp (maxDischargeDepth := 60) +contextual [hs]

@[simp] theorem sysAsk_engineSems (s : State) (cause : Nat) (release : Bool) (hs : engineSems s.sem) :
    engineSems (State.sysAsk s cause release).sem := by
  unfold State.sysAsk
  simp (maxDischargeDepth := 60) +contextual [hs]

@[simp] theorem sysAsk_mirrorWf (s : State) (cause : Nat) (release : Bool) (hs : s.mirror.words.wf 0#32 = true) :
    (State.sysAsk s cause release).mirror.words.wf 0#32 = true := by
  unfold State.sysAsk
  simp (maxDischargeDepth := 60) +contextual [hs]

@[simp] theorem begin_keeps (s : State) :
    (State.begin s).pending = s.pending ∧ (State.begin s).sdram = s.sdram ∧ (State.begin s).fuse = s.fuse ∧ (State.begin s).sem = s.sem ∧ (State.begin s).time = s.time ∧ (State.begin s).kp = s.kp ∧ (State.begin s).act = s.act ∧ (State.begin s).mirror = s.mirror := by
  unfold State.begin
  simp

@[simp] theorem begin_rising (s : State) (hs : s.regs.rising = true) :
    (State.begin s).regs.rising = true := by
  unfold State.begin
  simp (maxDischargeDepth := 60) +contextual [hs]

@[simp] theorem tryBegin_keeps (s : State) :
    (State.tryBegin s).pending = s.pending ∧ (State.tryBegin s).sdram = s.sdram ∧ (State.tryBegin s).fuse = s.fuse ∧ (State.tryBegin s).sem = s.sem ∧ (State.tryBegin s).time = s.time ∧ (State.tryBegin s).kp = s.kp ∧ (State.tryBegin s).act = s.act ∧ (State.tryBegin s).mirror = s.mirror := by
  unfold State.tryBegin
  simp

@[simp] theorem tryBegin_rising (s : State) (hs : s.regs.rising = true) :
    (State.tryBegin s).regs.rising = true := by
  unfold State.tryBegin
  simp (maxDischargeDepth := 60) +contextual [hs]

@[simp] theorem railFall_keeps (s : State) (k : Nat) :
    (State.railFall s k).pending = s.pending := by
  unfold State.railFall
  try dsimp only
  (repeat' split) <;> simp

@[simp] theorem railFall_rising (s : State) (k : Nat) (hs : s.regs.rising = true) : (s.railFall k).regs.rising = true := by
  have key : ∀ u : State, u.regs.rising = true → (State.regs (match k with
    | 0 => (((u.porstWipe.set PWR_RST_CAUSE.cause 3).set PWR_RST_CAUSE.rail 0).set GLB_RAIL.low 1).pinsShow
    | 3 => u.vhkFall
    | 9 =>
      let s := u.fuseCut.sysStop 3
      { s with start := { s.start with memKept := false } }
    | _ => u.fuseCut.sysStop 3)).rising = true := by
    intro u hu
    split
    · simp only [pinsShow_keeps]
      exact set_rising _ _ _ (set_rising _ _ _ (set_rising _ _ _ (porstWipe_rising u hu)))
    all_goals simp (maxDischargeDepth := 60) [hu]
  unfold railFall
  dsimp only
  split
  · exact hs
  · refine key _ (set_rising _ _ _ ?_)
    split
    · exact raise_rising _ _ (set_rising _ _ _ hs)
    · exact hs

@[simp] theorem railFall_actRising (s : State) (k : Nat) (hr : s.regs.rising = true) (hs : s.act.rising = true) :
    (State.railFall s k).act.rising = true := by
  unfold State.railFall
  try dsimp only
  (repeat' split) <;> simp (maxDischargeDepth := 60) +contextual [hr, hs]

@[simp] theorem railFall_tieWf (s : State) (k : Nat) (hs : s.sem.tieLoser.wf none = true) :
    (State.railFall s k).sem.tieLoser.wf none = true := by
  unfold State.railFall
  try dsimp only
  (repeat' split) <;> simp (maxDischargeDepth := 60) +contextual [hs]

@[simp] theorem railFall_engineSems (s : State) (k : Nat) (hs : engineSems s.sem) :
    engineSems (State.railFall s k).sem := by
  unfold State.railFall
  try dsimp only
  (repeat' split) <;> simp (maxDischargeDepth := 60) +contextual [hs]

@[simp] theorem railFall_mirrorWf (s : State) (k : Nat) (hs : s.mirror.words.wf 0#32 = true) :
    (State.railFall s k).mirror.words.wf 0#32 = true := by
  unfold State.railFall
  try dsimp only
  (repeat' split) <;> simp (maxDischargeDepth := 60) +contextual [hs]

@[simp] theorem railFall_sdramWf (s : State) (k : Nat) (hs : s.sdram.wf 0#8 = true) :
    (State.railFall s k).sdram.wf 0#8 = true := by
  unfold State.railFall
  try dsimp only
  (repeat' split) <;> simp (maxDischargeDepth := 60) +contextual [hs]

@[simp] theorem railsBack_keeps (s : State) :
    (State.railsBack s).pending = s.pending ∧ (State.railsBack s).sdram = s.sdram ∧ (State.railsBack s).fuse = s.fuse ∧ (State.railsBack s).sem = s.sem ∧ (State.railsBack s).act = s.act := by
  unfold State.railsBack
  simp

@[simp] theorem railsBack_rising (s : State) (hs : s.regs.rising = true) :
    (State.railsBack s).regs.rising = true := by
  unfold State.railsBack
  simp (maxDischargeDepth := 60) +contextual [hs]

@[simp] theorem railsBack_mirrorWf (s : State) (hs : s.mirror.words.wf 0#32 = true) :
    (State.railsBack s).mirror.words.wf 0#32 = true := by
  unfold State.railsBack
  simp (maxDischargeDepth := 60) +contextual [hs]

@[simp] theorem thermShow_keeps (s : State) (hi : Int) :
    (State.thermShow s hi).pending = s.pending ∧ (State.thermShow s hi).sdram = s.sdram ∧ (State.thermShow s hi).fuse = s.fuse ∧ (State.thermShow s hi).sem = s.sem ∧ (State.thermShow s hi).dom = s.dom ∧ (State.thermShow s hi).time = s.time ∧ (State.thermShow s hi).kp = s.kp ∧ (State.thermShow s hi).act = s.act ∧ (State.thermShow s hi).mirror = s.mirror := by
  unfold State.thermShow
  simp

@[simp] theorem thermShow_rising (s : State) (hi : Int) (hs : s.regs.rising = true) :
    (State.thermShow s hi).regs.rising = true := by
  unfold State.thermShow
  simp (maxDischargeDepth := 60) +contextual [hs]

@[simp] theorem thermRead_keeps (s : State) (temps : List Int) :
    (State.thermRead s temps).pending = s.pending ∧ (State.thermRead s temps).sdram = s.sdram ∧ (State.thermRead s temps).fuse = s.fuse := by
  unfold State.thermRead
  simp

@[simp] theorem thermRead_rising (s : State) (temps : List Int) (hs : s.regs.rising = true) :
    (State.thermRead s temps).regs.rising = true := by
  unfold State.thermRead
  try dsimp only
  (repeat' split) <;> simp (maxDischargeDepth := 60) +contextual [hs]

@[simp] theorem thermRead_actRising (s : State) (temps : List Int) (hr : s.regs.rising = true) (hs : s.act.rising = true) :
    (State.thermRead s temps).act.rising = true := by
  unfold State.thermRead
  try dsimp only
  (repeat' split) <;> simp (maxDischargeDepth := 60) +contextual [hr, hs]

@[simp] theorem thermRead_tieWf (s : State) (temps : List Int) (hs : s.sem.tieLoser.wf none = true) :
    (State.thermRead s temps).sem.tieLoser.wf none = true := by
  unfold State.thermRead
  try dsimp only
  (repeat' split) <;> simp (maxDischargeDepth := 60) +contextual [hs]

@[simp] theorem thermRead_engineSems (s : State) (temps : List Int) (hs : engineSems s.sem) :
    engineSems (State.thermRead s temps).sem := by
  unfold State.thermRead
  try dsimp only
  (repeat' split) <;> simp (maxDischargeDepth := 60) +contextual [hs]

@[simp] theorem thermRead_mirrorWf (s : State) (temps : List Int) (hs : s.mirror.words.wf 0#32 = true) :
    (State.thermRead s temps).mirror.words.wf 0#32 = true := by
  unfold State.thermRead
  try dsimp only
  (repeat' split) <;> simp (maxDischargeDepth := 60) +contextual [hs]

@[simp] theorem avsStage_keeps (s : State) :
    (State.avsStage s).pending = s.pending ∧ (State.avsStage s).sdram = s.sdram ∧ (State.avsStage s).fuse = s.fuse ∧ (State.avsStage s).sem = s.sem ∧ (State.avsStage s).dom = s.dom ∧ (State.avsStage s).time = s.time ∧ (State.avsStage s).kp = s.kp ∧ (State.avsStage s).act = s.act ∧ (State.avsStage s).mirror = s.mirror := by
  unfold State.avsStage
  simp

@[simp] theorem avsStage_rising (s : State) (hs : s.regs.rising = true) :
    (State.avsStage s).regs.rising = true := by
  unfold State.avsStage
  simp (maxDischargeDepth := 60) +contextual [hs]

@[simp] theorem avsNext_keeps (s : State) :
    (State.avsNext s).pending = s.pending ∧ (State.avsNext s).sdram = s.sdram ∧ (State.avsNext s).fuse = s.fuse ∧ (State.avsNext s).sem = s.sem ∧ (State.avsNext s).dom = s.dom ∧ (State.avsNext s).time = s.time ∧ (State.avsNext s).kp = s.kp ∧ (State.avsNext s).act = s.act ∧ (State.avsNext s).mirror = s.mirror := by
  unfold State.avsNext
  try dsimp only
  (repeat' split) <;> simp

@[simp] theorem avsNext_rising (s : State) (hs : s.regs.rising = true) :
    (State.avsNext s).regs.rising = true := by
  unfold State.avsNext
  try dsimp only
  (repeat' split) <;> simp (maxDischargeDepth := 60) +contextual [hs]

@[simp] theorem avsBack_keeps (s : State) (mv : Nat) (tries : Nat) (good : Bool) (readMv : Nat) :
    (State.avsBack s mv tries good readMv).pending = s.pending ∧ (State.avsBack s mv tries good readMv).sdram = s.sdram ∧ (State.avsBack s mv tries good readMv).fuse = s.fuse ∧ (State.avsBack s mv tries good readMv).sem = s.sem ∧ (State.avsBack s mv tries good readMv).dom = s.dom ∧ (State.avsBack s mv tries good readMv).time = s.time ∧ (State.avsBack s mv tries good readMv).kp = s.kp ∧ (State.avsBack s mv tries good readMv).act = s.act ∧ (State.avsBack s mv tries good readMv).mirror = s.mirror := by
  unfold State.avsBack
  simp

@[simp] theorem avsBack_rising (s : State) (mv : Nat) (tries : Nat) (good : Bool) (readMv : Nat) (hs : s.regs.rising = true) :
    (State.avsBack s mv tries good readMv).regs.rising = true := by
  unfold State.avsBack
  simp (maxDischargeDepth := 60) +contextual [hs]

@[simp] theorem avsManWrite_keeps (s : State) (v : Nat) :
    (State.avsManWrite s v).pending = s.pending ∧ (State.avsManWrite s v).sdram = s.sdram ∧ (State.avsManWrite s v).fuse = s.fuse ∧ (State.avsManWrite s v).sem = s.sem ∧ (State.avsManWrite s v).dom = s.dom ∧ (State.avsManWrite s v).time = s.time ∧ (State.avsManWrite s v).kp = s.kp ∧ (State.avsManWrite s v).act = s.act := by
  unfold State.avsManWrite
  simp

@[simp] theorem avsManWrite_rising (s : State) (v : Nat) (hs : s.regs.rising = true) :
    (State.avsManWrite s v).regs.rising = true := by
  unfold State.avsManWrite
  simp (maxDischargeDepth := 60) +contextual [hs]

@[simp] theorem avsManWrite_mirrorWf (s : State) (v : Nat) (hs : s.mirror.words.wf 0#32 = true) :
    (State.avsManWrite s v).mirror.words.wf 0#32 = true := by
  unfold State.avsManWrite
  simp (maxDischargeDepth := 60) +contextual [hs]

@[simp] theorem droopThrWrite_keeps (s : State) (v : Nat) :
    (State.droopThrWrite s v).pending = s.pending ∧ (State.droopThrWrite s v).sdram = s.sdram ∧ (State.droopThrWrite s v).fuse = s.fuse ∧ (State.droopThrWrite s v).sem = s.sem ∧ (State.droopThrWrite s v).dom = s.dom ∧ (State.droopThrWrite s v).time = s.time ∧ (State.droopThrWrite s v).kp = s.kp ∧ (State.droopThrWrite s v).act = s.act ∧ (State.droopThrWrite s v).mirror = s.mirror := by
  unfold State.droopThrWrite
  simp

@[simp] theorem droopThrWrite_rising (s : State) (v : Nat) (hs : s.regs.rising = true) :
    (State.droopThrWrite s v).regs.rising = true := by
  unfold State.droopThrWrite
  simp (maxDischargeDepth := 60) +contextual [hs]

@[simp] theorem glbRstWrite_keeps (s : State) (p : Port) (v : Nat) :
    (State.glbRstWrite s p v).pending = s.pending ∧ (State.glbRstWrite s p v).sdram = s.sdram ∧ (State.glbRstWrite s p v).fuse = s.fuse := by
  unfold State.glbRstWrite
  simp

@[simp] theorem glbRstWrite_rising (s : State) (p : Port) (v : Nat) (hs : s.regs.rising = true) :
    (State.glbRstWrite s p v).regs.rising = true := by
  unfold State.glbRstWrite
  simp (maxDischargeDepth := 60) +contextual [hs]

@[simp] theorem glbRstWrite_actRising (s : State) (p : Port) (v : Nat) (hr : s.regs.rising = true) (hs : s.act.rising = true) :
    (State.glbRstWrite s p v).act.rising = true := by
  unfold State.glbRstWrite
  simp (maxDischargeDepth := 60) +contextual [hr, hs]

@[simp] theorem glbRstWrite_tieWf (s : State) (p : Port) (v : Nat) (hs : s.sem.tieLoser.wf none = true) :
    (State.glbRstWrite s p v).sem.tieLoser.wf none = true := by
  unfold State.glbRstWrite
  simp (maxDischargeDepth := 60) +contextual [hs]

@[simp] theorem glbRstWrite_engineSems (s : State) (p : Port) (v : Nat) (hs : engineSems s.sem) :
    engineSems (State.glbRstWrite s p v).sem := by
  unfold State.glbRstWrite
  simp (maxDischargeDepth := 60) +contextual [hs]

@[simp] theorem glbRstWrite_mirrorWf (s : State) (p : Port) (v : Nat) (hs : s.mirror.words.wf 0#32 = true) :
    (State.glbRstWrite s p v).mirror.words.wf 0#32 = true := by
  unfold State.glbRstWrite
  simp (maxDischargeDepth := 60) +contextual [hs]

@[simp] theorem storeRead_keeps (s : State) :
    (State.storeRead s).pending = s.pending ∧ (State.storeRead s).sdram = s.sdram ∧ (State.storeRead s).fuse = s.fuse ∧ (State.storeRead s).dom = s.dom ∧ (State.storeRead s).time = s.time ∧ (State.storeRead s).kp = s.kp ∧ (State.storeRead s).act = s.act ∧ (State.storeRead s).mirror = s.mirror := by
  unfold State.storeRead
  simp

@[simp] theorem storeRead_rising (s : State) (hs : s.regs.rising = true) :
    (State.storeRead s).regs.rising = true := by
  unfold State.storeRead
  simp (maxDischargeDepth := 60) +contextual [hs]

@[simp] theorem storeRead_tieWf (s : State) (hs : s.sem.tieLoser.wf none = true) :
    (State.storeRead s).sem.tieLoser.wf none = true := by
  unfold State.storeRead
  simp (maxDischargeDepth := 60) +contextual [hs]

@[simp] theorem storeRead_engineSems (s : State) (hs : engineSems s.sem) :
    engineSems (State.storeRead s).sem := by
  unfold State.storeRead
  simp (maxDischargeDepth := 60) +contextual [hs]

@[simp] theorem trainShow_keeps (s : State) (m : Nat) (first : Option Nat) (y0 : List MemTrain) :
    (State.trainShow s m first y0).1.pending = s.pending ∧ (State.trainShow s m first y0).1.sdram = s.sdram ∧ (State.trainShow s m first y0).1.fuse = s.fuse ∧ (State.trainShow s m first y0).1.sem = s.sem ∧ (State.trainShow s m first y0).1.dom = s.dom ∧ (State.trainShow s m first y0).1.time = s.time ∧ (State.trainShow s m first y0).1.kp = s.kp ∧ (State.trainShow s m first y0).1.act = s.act ∧ (State.trainShow s m first y0).1.mirror = s.mirror := by
  fun_induction State.trainShow s m first y0; all_goals first
      | (simp_all +zetaDelta; done)
      | (simp only [*]; (try simp +zetaDelta only []); (repeat' split) <;> simp_all; done)

@[simp] theorem trainShow_rising (s : State) (m : Nat) (first : Option Nat) (y0 : List MemTrain) (hs : s.regs.rising = true) :
    (State.trainShow s m first y0).1.regs.rising = true := by
  fun_induction State.trainShow s m first y0 <;> (simp_all (maxDischargeDepth := 60) +zetaDelta; done)

@[simp] theorem memTrained_keeps (s : State) (chans : List MemTrain) :
    (State.memTrained s chans).pending = s.pending ∧ (State.memTrained s chans).sdram = s.sdram ∧ (State.memTrained s chans).fuse = s.fuse ∧ (State.memTrained s chans).sem = s.sem ∧ (State.memTrained s chans).dom = s.dom ∧ (State.memTrained s chans).time = s.time ∧ (State.memTrained s chans).kp = s.kp ∧ (State.memTrained s chans).act = s.act ∧ (State.memTrained s chans).mirror = s.mirror := by
  unfold State.memTrained
  simp

@[simp] theorem memTrained_rising (s : State) (chans : List MemTrain) (hs : s.regs.rising = true) :
    (State.memTrained s chans).regs.rising = true := by
  unfold State.memTrained
  simp (maxDischargeDepth := 60) +contextual [hs]

@[simp] theorem memReady_keeps (s : State) :
    (State.memReady s).pending = s.pending ∧ (State.memReady s).sdram = s.sdram ∧ (State.memReady s).fuse = s.fuse ∧ (State.memReady s).sem = s.sem ∧ (State.memReady s).time = s.time ∧ (State.memReady s).kp = s.kp ∧ (State.memReady s).act = s.act ∧ (State.memReady s).mirror = s.mirror := by
  unfold State.memReady
  simp

@[simp] theorem memReady_rising (s : State) (hs : s.regs.rising = true) :
    (State.memReady s).regs.rising = true := by
  unfold State.memReady
  simp (maxDischargeDepth := 60) +contextual [hs]

@[simp] theorem startDone_keeps (s : State) :
    (State.startDone s).pending = s.pending ∧ (State.startDone s).sdram = s.sdram ∧ (State.startDone s).fuse = s.fuse ∧ (State.startDone s).sem = s.sem ∧ (State.startDone s).dom = s.dom ∧ (State.startDone s).time = s.time ∧ (State.startDone s).kp = s.kp ∧ (State.startDone s).act = s.act ∧ (State.startDone s).mirror = s.mirror := by
  unfold State.startDone
  simp

@[simp] theorem startDone_rising (s : State) (hs : s.regs.rising = true) :
    (State.startDone s).regs.rising = true := by
  unfold State.startDone
  simp (maxDischargeDepth := 60) +contextual [hs]
end Sys2Proof.Machine.State
end

