-- ==== Sys2Proof/Laws/KeepStrm.lean ====
section
/-! SUPPORT. What the operations of Machine/Strm.lean leave alone: memory, fuses, semaphores, domains, time, the queue. -/

namespace Sys2Proof.Machine.State

@[simp] theorem setFlow_keeps (s : State) (sp : Nat) (fl : Nat) (x : FlowSt) :
    (State.setFlow s sp fl x).pending = s.pending ∧ (State.setFlow s sp fl x).sdram = s.sdram ∧ (State.setFlow s sp fl x).fuse = s.fuse ∧ (State.setFlow s sp fl x).sem = s.sem ∧ (State.setFlow s sp fl x).dom = s.dom ∧ (State.setFlow s sp fl x).time = s.time ∧ (State.setFlow s sp fl x).kp = s.kp ∧ (State.setFlow s sp fl x).regs = s.regs ∧ (State.setFlow s sp fl x).act = s.act ∧ (State.setFlow s sp fl x).mirror = s.mirror := by
  unfold State.setFlow
  simp

@[simp] theorem strmQueue_keeps (s : State) (sp : Nat) (n : Nat) :
    (State.strmQueue s sp n).pending = s.pending ∧ (State.strmQueue s sp n).sdram = s.sdram ∧ (State.strmQueue s sp n).fuse = s.fuse ∧ (State.strmQueue s sp n).sem = s.sem ∧ (State.strmQueue s sp n).dom = s.dom ∧ (State.strmQueue s sp n).time = s.time ∧ (State.strmQueue s sp n).kp = s.kp ∧ (State.strmQueue s sp n).regs = s.regs ∧ (State.strmQueue s sp n).act = s.act ∧ (State.strmQueue s sp n).mirror = s.mirror := by
  unfold State.strmQueue
  simp

@[simp] theorem strmSend_keeps (s : State) (sp : Nat) (fl : Nat) (data : List Byte) :
    (State.strmSend s sp fl data).pending = s.pending ∧ (State.strmSend s sp fl data).sdram = s.sdram ∧ (State.strmSend s sp fl data).fuse = s.fuse ∧ (State.strmSend s sp fl data).sem = s.sem ∧ (State.strmSend s sp fl data).dom = s.dom ∧ (State.strmSend s sp fl data).time = s.time ∧ (State.strmSend s sp fl data).kp = s.kp ∧ (State.strmSend s sp fl data).act = s.act ∧ (State.strmSend s sp fl data).mirror = s.mirror := by
  unfold State.strmSend
  simp

@[simp] theorem strmSend_rising (s : State) (sp : Nat) (fl : Nat) (data : List Byte) (hs : s.regs.rising = true) :
    (State.strmSend s sp fl data).regs.rising = true := by
  unfold State.strmSend
  simp (maxDischargeDepth := 60) +contextual [hs]

@[simp] theorem sendData_keeps (s : State) (sp : Nat) (fl : Nat) (type : Nat) (spectrum : Bool) (t : Stamp) (body : List Byte) (trailer : Nat) :
    (State.sendData s sp fl type spectrum t body trailer).pending = s.pending ∧ (State.sendData s sp fl type spectrum t body trailer).sdram = s.sdram ∧ (State.sendData s sp fl type spectrum t body trailer).fuse = s.fuse ∧ (State.sendData s sp fl type spectrum t body trailer).sem = s.sem ∧ (State.sendData s sp fl type spectrum t body trailer).dom = s.dom ∧ (State.sendData s sp fl type spectrum t body trailer).time = s.time ∧ (State.sendData s sp fl type spectrum t body trailer).kp = s.kp ∧ (State.sendData s sp fl type spectrum t body trailer).act = s.act ∧ (State.sendData s sp fl type spectrum t body trailer).mirror = s.mirror := by
  unfold State.sendData
  simp

@[simp] theorem sendData_rising (s : State) (sp : Nat) (fl : Nat) (type : Nat) (spectrum : Bool) (t : Stamp) (body : List Byte) (trailer : Nat) (hs : s.regs.rising = true) :
    (State.sendData s sp fl type spectrum t body trailer).regs.rising = true := by
  unfold State.sendData
  simp (maxDischargeDepth := 60) +contextual [hs]

@[simp] theorem sendExt_keeps (s : State) (sp : Nat) (fl : Nat) (t : Stamp) (body : List Byte) :
    (State.sendExt s sp fl t body).pending = s.pending ∧ (State.sendExt s sp fl t body).sdram = s.sdram ∧ (State.sendExt s sp fl t body).fuse = s.fuse ∧ (State.sendExt s sp fl t body).sem = s.sem ∧ (State.sendExt s sp fl t body).dom = s.dom ∧ (State.sendExt s sp fl t body).time = s.time ∧ (State.sendExt s sp fl t body).kp = s.kp ∧ (State.sendExt s sp fl t body).act = s.act ∧ (State.sendExt s sp fl t body).mirror = s.mirror := by
  unfold State.sendExt
  simp

@[simp] theorem sendExt_rising (s : State) (sp : Nat) (fl : Nat) (t : Stamp) (body : List Byte) (hs : s.regs.rising = true) :
    (State.sendExt s sp fl t body).regs.rising = true := by
  unfold State.sendExt
  simp (maxDischargeDepth := 60) +contextual [hs]

@[simp] theorem sendContext_keeps (s : State) (sp fl : Nat) (fields : List (List Byte)) (ind : Nat) (known : Bool) :
    (State.sendContext s sp fl fields ind known).pending = s.pending ∧ (State.sendContext s sp fl fields ind known).sdram = s.sdram ∧ (State.sendContext s sp fl fields ind known).fuse = s.fuse ∧ (State.sendContext s sp fl fields ind known).sem = s.sem ∧ (State.sendContext s sp fl fields ind known).dom = s.dom ∧ (State.sendContext s sp fl fields ind known).time = s.time ∧ (State.sendContext s sp fl fields ind known).kp = s.kp ∧ (State.sendContext s sp fl fields ind known).act = s.act ∧ (State.sendContext s sp fl fields ind known).mirror = s.mirror := by
  unfold State.sendContext
  simp

@[simp] theorem sendContext_rising (s : State) (sp fl : Nat) (fields : List (List Byte)) (ind : Nat) (known : Bool) (hs : s.regs.rising = true) :
    (State.sendContext s sp fl fields ind known).regs.rising = true := by
  unfold State.sendContext
  simp (maxDischargeDepth := 60) +contextual [hs]

@[simp] theorem contextNow_keeps (s : State) (sp : Nat) (fl : Nat) :
    (State.contextNow s sp fl).pending = s.pending ∧ (State.contextNow s sp fl).sdram = s.sdram ∧ (State.contextNow s sp fl).fuse = s.fuse ∧ (State.contextNow s sp fl).sem = s.sem ∧ (State.contextNow s sp fl).dom = s.dom ∧ (State.contextNow s sp fl).time = s.time ∧ (State.contextNow s sp fl).kp = s.kp ∧ (State.contextNow s sp fl).act = s.act ∧ (State.contextNow s sp fl).mirror = s.mirror := by
  unfold State.contextNow
  simp

@[simp] theorem contextNow_rising (s : State) (sp : Nat) (fl : Nat) (hs : s.regs.rising = true) :
    (State.contextNow s sp fl).regs.rising = true := by
  unfold State.contextNow
  simp (maxDischargeDepth := 60) +contextual [hs]

@[simp] theorem sendPiece_keeps (s : State) (sp fl : Nat) (x : Parcel) (form : Option WireForm) (t : Stamp) (fields : List (List Byte)) (off : Nat) (b : List Byte) :
    (State.sendPiece s sp fl x form t fields off b).pending = s.pending ∧ (State.sendPiece s sp fl x form t fields off b).sdram = s.sdram ∧ (State.sendPiece s sp fl x form t fields off b).fuse = s.fuse ∧ (State.sendPiece s sp fl x form t fields off b).sem = s.sem ∧ (State.sendPiece s sp fl x form t fields off b).dom = s.dom ∧ (State.sendPiece s sp fl x form t fields off b).time = s.time ∧ (State.sendPiece s sp fl x form t fields off b).kp = s.kp ∧ (State.sendPiece s sp fl x form t fields off b).act = s.act ∧ (State.sendPiece s sp fl x form t fields off b).mirror = s.mirror := by
  unfold State.sendPiece
  simp

@[simp] theorem sendPiece_rising (s : State) (sp fl : Nat) (x : Parcel) (form : Option WireForm) (t : Stamp) (fields : List (List Byte)) (off : Nat) (b : List Byte) (hs : s.regs.rising = true) :
    (State.sendPiece s sp fl x form t fields off b).regs.rising = true := by
  unfold State.sendPiece
  simp (maxDischargeDepth := 60) +contextual [hs]

@[simp] theorem sendPieces_keeps (s : State) (sp fl : Nat) (x : Parcel) (form : Option WireForm) (t : Stamp) (fields : List (List Byte)) (y0 : Nat) (y1 : List (List Byte)) :
    (State.sendPieces s sp fl x form t fields y0 y1).pending = s.pending ∧ (State.sendPieces s sp fl x form t fields y0 y1).sdram = s.sdram ∧ (State.sendPieces s sp fl x form t fields y0 y1).fuse = s.fuse ∧ (State.sendPieces s sp fl x form t fields y0 y1).sem = s.sem ∧ (State.sendPieces s sp fl x form t fields y0 y1).dom = s.dom ∧ (State.sendPieces s sp fl x form t fields y0 y1).time = s.time ∧ (State.sendPieces s sp fl x form t fields y0 y1).kp = s.kp ∧ (State.sendPieces s sp fl x form t fields y0 y1).act = s.act ∧ (State.sendPieces s sp fl x form t fields y0 y1).mirror = s.mirror := by
  fun_induction State.sendPieces s sp fl x form t fields y0 y1; all_goals first
      | (simp_all +zetaDelta; done)
      | (simp only [*]; (try simp +zetaDelta only []); (repeat' split) <;> simp_all; done)

@[simp] theorem sendPieces_rising (s : State) (sp fl : Nat) (x : Parcel) (form : Option WireForm) (t : Stamp) (fields : List (List Byte)) (y0 : Nat) (y1 : List (List Byte)) (hs : s.regs.rising = true) :
    (State.sendPieces s sp fl x form t fields y0 y1).regs.rising = true := by
  fun_induction State.sendPieces s sp fl x form t fields y0 y1 <;> (simp_all (maxDischargeDepth := 60) +zetaDelta; done)

@[simp] theorem sendParcel_keeps (s : State) (sp fl : Nat) (x : Parcel) (t : Stamp) (pos : Int) :
    (State.sendParcel s sp fl x t pos).pending = s.pending ∧ (State.sendParcel s sp fl x t pos).sdram = s.sdram ∧ (State.sendParcel s sp fl x t pos).fuse = s.fuse ∧ (State.sendParcel s sp fl x t pos).sem = s.sem ∧ (State.sendParcel s sp fl x t pos).dom = s.dom ∧ (State.sendParcel s sp fl x t pos).time = s.time ∧ (State.sendParcel s sp fl x t pos).kp = s.kp ∧ (State.sendParcel s sp fl x t pos).act = s.act ∧ (State.sendParcel s sp fl x t pos).mirror = s.mirror := by
  unfold State.sendParcel
  simp

@[simp] theorem sendParcel_rising (s : State) (sp fl : Nat) (x : Parcel) (t : Stamp) (pos : Int) (hs : s.regs.rising = true) :
    (State.sendParcel s sp fl x t pos).regs.rising = true := by
  unfold State.sendParcel
  simp (maxDischargeDepth := 60) +contextual [hs]

@[simp] theorem strmDrop_keeps (s : State) (sp : Nat) (fl : Nat) :
    (State.strmDrop s sp fl).pending = s.pending ∧ (State.strmDrop s sp fl).sdram = s.sdram ∧ (State.strmDrop s sp fl).fuse = s.fuse ∧ (State.strmDrop s sp fl).sem = s.sem ∧ (State.strmDrop s sp fl).dom = s.dom ∧ (State.strmDrop s sp fl).time = s.time ∧ (State.strmDrop s sp fl).kp = s.kp ∧ (State.strmDrop s sp fl).act = s.act ∧ (State.strmDrop s sp fl).mirror = s.mirror := by
  unfold State.strmDrop
  simp

@[simp] theorem strmDrop_rising (s : State) (sp : Nat) (fl : Nat) (hs : s.regs.rising = true) :
    (State.strmDrop s sp fl).regs.rising = true := by
  unfold State.strmDrop
  simp (maxDischargeDepth := 60) +contextual [hs]

@[simp] theorem strmKeeps_keeps (s : State) (sp : Nat) (fl : Nat) (x : Parcel) :
    (State.strmKeeps s sp fl x).1.pending = s.pending ∧ (State.strmKeeps s sp fl x).1.sdram = s.sdram ∧ (State.strmKeeps s sp fl x).1.fuse = s.fuse ∧ (State.strmKeeps s sp fl x).1.sem = s.sem ∧ (State.strmKeeps s sp fl x).1.dom = s.dom ∧ (State.strmKeeps s sp fl x).1.time = s.time ∧ (State.strmKeeps s sp fl x).1.kp = s.kp ∧ (State.strmKeeps s sp fl x).1.regs = s.regs ∧ (State.strmKeeps s sp fl x).1.act = s.act ∧ (State.strmKeeps s sp fl x).1.mirror = s.mirror := by
  unfold State.strmKeeps
  try dsimp only
  (repeat' split) <;> simp

@[simp] theorem flowParcel_keeps (s : State) (sp : Nat) (fl : Nat) (x : Parcel) :
    (State.flowParcel s sp fl x).pending = s.pending ∧ (State.flowParcel s sp fl x).sdram = s.sdram ∧ (State.flowParcel s sp fl x).fuse = s.fuse ∧ (State.flowParcel s sp fl x).sem = s.sem ∧ (State.flowParcel s sp fl x).dom = s.dom ∧ (State.flowParcel s sp fl x).time = s.time ∧ (State.flowParcel s sp fl x).kp = s.kp ∧ (State.flowParcel s sp fl x).act = s.act ∧ (State.flowParcel s sp fl x).mirror = s.mirror := by
  unfold State.flowParcel
  simp

@[simp] theorem flowParcel_rising (s : State) (sp : Nat) (fl : Nat) (x : Parcel) (hs : s.regs.rising = true) :
    (State.flowParcel s sp fl x).regs.rising = true := by
  unfold State.flowParcel
  simp (maxDischargeDepth := 60) +contextual [hs]

@[simp] theorem flowMeet_keeps (s : State) (r pos n : Nat) (y0 : List (Nat × Option (Fin 2 × Fin 39))) :
    (State.flowMeet s r pos n y0).pending = s.pending ∧ (State.flowMeet s r pos n y0).sdram = s.sdram ∧ (State.flowMeet s r pos n y0).fuse = s.fuse ∧ (State.flowMeet s r pos n y0).sem = s.sem ∧ (State.flowMeet s r pos n y0).dom = s.dom ∧ (State.flowMeet s r pos n y0).time = s.time ∧ (State.flowMeet s r pos n y0).kp = s.kp ∧ (State.flowMeet s r pos n y0).act = s.act ∧ (State.flowMeet s r pos n y0).mirror = s.mirror := by
  fun_induction State.flowMeet s r pos n y0; all_goals first
      | (simp_all +zetaDelta; done)
      | (simp only [*]; (try simp +zetaDelta only []); (repeat' split) <;> simp_all; done)

@[simp] theorem flowMeet_rising (s : State) (r pos n : Nat) (y0 : List (Nat × Option (Fin 2 × Fin 39))) (hs : s.regs.rising = true) :
    (State.flowMeet s r pos n y0).regs.rising = true := by
  fun_induction State.flowMeet s r pos n y0 <;> first | (simp_all (maxDischargeDepth := 60) +zetaDelta; done) | (rename_i ih; apply ih; (try simp +zetaDelta only []); (repeat' split) <;> simp_all (maxDischargeDepth := 60); done)

@[simp] theorem sendRaw_keeps (s : State) (sp fl : Nat) (x : Parcel) (form : WireForm) (t : Stamp) (fields : List (List Byte)) (y0 : Nat) (y1 : List (List Byte)) :
    (State.sendRaw s sp fl x form t fields y0 y1).1.pending = s.pending ∧ (State.sendRaw s sp fl x form t fields y0 y1).1.sdram = s.sdram ∧ (State.sendRaw s sp fl x form t fields y0 y1).1.fuse = s.fuse ∧ (State.sendRaw s sp fl x form t fields y0 y1).1.sem = s.sem ∧ (State.sendRaw s sp fl x form t fields y0 y1).1.dom = s.dom ∧ (State.sendRaw s sp fl x form t fields y0 y1).1.time = s.time ∧ (State.sendRaw s sp fl x form t fields y0 y1).1.kp = s.kp ∧ (State.sendRaw s sp fl x form t fields y0 y1).1.act = s.act ∧ (State.sendRaw s sp fl x form t fields y0 y1).1.mirror = s.mirror := by
  fun_induction State.sendRaw s sp fl x form t fields y0 y1; all_goals first
      | (simp_all +zetaDelta; done)
      | (simp only [*]; (try simp +zetaDelta only []); (repeat' split) <;> simp_all; done)

@[simp] theorem sendRaw_rising (s : State) (sp fl : Nat) (x : Parcel) (form : WireForm) (t : Stamp) (fields : List (List Byte)) (y0 : Nat) (y1 : List (List Byte)) (hs : s.regs.rising = true) :
    (State.sendRaw s sp fl x form t fields y0 y1).1.regs.rising = true := by
  fun_induction State.sendRaw s sp fl x form t fields y0 y1 <;> (simp_all (maxDischargeDepth := 60) +zetaDelta; done)

@[simp] theorem sendStored_keeps (s : State) (sp fl ix len : Nat) (t : Stamp) (y0 : Nat) (y1 : List Parcel) :
    (State.sendStored s sp fl ix len t y0 y1).1.pending = s.pending ∧ (State.sendStored s sp fl ix len t y0 y1).1.sdram = s.sdram ∧ (State.sendStored s sp fl ix len t y0 y1).1.fuse = s.fuse ∧ (State.sendStored s sp fl ix len t y0 y1).1.sem = s.sem ∧ (State.sendStored s sp fl ix len t y0 y1).1.dom = s.dom ∧ (State.sendStored s sp fl ix len t y0 y1).1.time = s.time ∧ (State.sendStored s sp fl ix len t y0 y1).1.kp = s.kp ∧ (State.sendStored s sp fl ix len t y0 y1).1.act = s.act ∧ (State.sendStored s sp fl ix len t y0 y1).1.mirror = s.mirror := by
  fun_induction State.sendStored s sp fl ix len t y0 y1; all_goals first
      | (simp_all +zetaDelta; done)
      | (simp only [*]; (try simp +zetaDelta only []); (repeat' split) <;> simp_all; done)

@[simp] theorem sendStored_rising (s : State) (sp fl ix len : Nat) (t : Stamp) (y0 : Nat) (y1 : List Parcel) (hs : s.regs.rising = true) :
    (State.sendStored s sp fl ix len t y0 y1).1.regs.rising = true := by
  fun_induction State.sendStored s sp fl ix len t y0 y1 <;> (simp_all (maxDischargeDepth := 60) +zetaDelta; done)

@[simp] theorem sendCapture_keeps (s : State) (sp fl r : Nat) (b : List Byte) (off : Nat) :
    (State.sendCapture s sp fl r b off).1.pending = s.pending ∧ (State.sendCapture s sp fl r b off).1.sdram = s.sdram ∧ (State.sendCapture s sp fl r b off).1.fuse = s.fuse ∧ (State.sendCapture s sp fl r b off).1.sem = s.sem ∧ (State.sendCapture s sp fl r b off).1.dom = s.dom ∧ (State.sendCapture s sp fl r b off).1.time = s.time ∧ (State.sendCapture s sp fl r b off).1.kp = s.kp ∧ (State.sendCapture s sp fl r b off).1.act = s.act ∧ (State.sendCapture s sp fl r b off).1.mirror = s.mirror := by
  unfold State.sendCapture
  split <;> simp

@[simp] theorem sendCapture_rising (s : State) (sp fl r : Nat) (b : List Byte) (off : Nat) (hs : s.regs.rising = true) :
    (State.sendCapture s sp fl r b off).1.regs.rising = true := by
  unfold State.sendCapture
  try dsimp only
  (repeat' split) <;> simp (maxDischargeDepth := 60) +contextual [hs]

@[simp] theorem captureOver_keeps (s : State) (sp fl : Nat) :
    (State.captureOver s sp fl).pending = s.pending ∧ (State.captureOver s sp fl).sdram = s.sdram ∧ (State.captureOver s sp fl).fuse = s.fuse ∧ (State.captureOver s sp fl).sem = s.sem ∧ (State.captureOver s sp fl).dom = s.dom ∧ (State.captureOver s sp fl).time = s.time ∧ (State.captureOver s sp fl).kp = s.kp ∧ (State.captureOver s sp fl).act = s.act ∧ (State.captureOver s sp fl).mirror = s.mirror := by
  unfold State.captureOver
  simp

@[simp] theorem captureOver_rising (s : State) (sp fl : Nat) (hs : s.regs.rising = true) :
    (State.captureOver s sp fl).regs.rising = true := by
  unfold State.captureOver
  simp (maxDischargeDepth := 60) +contextual [hs]

@[simp] theorem skipCapture_keeps (s : State) (sp : Nat) (fl : Nat) :
    (State.skipCapture s sp fl).pending = s.pending ∧ (State.skipCapture s sp fl).sdram = s.sdram ∧ (State.skipCapture s sp fl).fuse = s.fuse ∧ (State.skipCapture s sp fl).sem = s.sem ∧ (State.skipCapture s sp fl).dom = s.dom ∧ (State.skipCapture s sp fl).time = s.time ∧ (State.skipCapture s sp fl).kp = s.kp ∧ (State.skipCapture s sp fl).act = s.act ∧ (State.skipCapture s sp fl).mirror = s.mirror := by
  unfold State.skipCapture
  simp

@[simp] theorem skipCapture_rising (s : State) (sp : Nat) (fl : Nat) (hs : s.regs.rising = true) :
    (State.skipCapture s sp fl).regs.rising = true := by
  unfold State.skipCapture
  simp (maxDischargeDepth := 60) +contextual [hs]

@[simp] theorem flowGo_keeps (s : State) (sp fl r : Nat) (b : List Byte) (off : Nat) (errors : List (Nat × Option (Fin 2 × Fin 39))) :
    (State.flowGo s sp fl r b off errors).pending = s.pending ∧ (State.flowGo s sp fl r b off errors).sdram = s.sdram ∧ (State.flowGo s sp fl r b off errors).fuse = s.fuse ∧ (State.flowGo s sp fl r b off errors).sem = s.sem ∧ (State.flowGo s sp fl r b off errors).dom = s.dom ∧ (State.flowGo s sp fl r b off errors).time = s.time ∧ (State.flowGo s sp fl r b off errors).kp = s.kp ∧ (State.flowGo s sp fl r b off errors).act = s.act ∧ (State.flowGo s sp fl r b off errors).mirror = s.mirror := by
  unfold State.flowGo
  simp

@[simp] theorem flowGo_rising (s : State) (sp fl r : Nat) (b : List Byte) (off : Nat) (errors : List (Nat × Option (Fin 2 × Fin 39))) (hs : s.regs.rising = true) :
    (State.flowGo s sp fl r b off errors).regs.rising = true := by
  unfold State.flowGo
  simp (maxDischargeDepth := 60) +contextual [hs]

@[simp] theorem regionFlow_keeps (s : State) (sp fl : Nat) (errors : List (Nat × Option (Fin 2 × Fin 39))) :
    (State.regionFlow s sp fl errors).pending = s.pending ∧ (State.regionFlow s sp fl errors).sdram = s.sdram ∧ (State.regionFlow s sp fl errors).fuse = s.fuse ∧ (State.regionFlow s sp fl errors).sem = s.sem ∧ (State.regionFlow s sp fl errors).dom = s.dom ∧ (State.regionFlow s sp fl errors).time = s.time ∧ (State.regionFlow s sp fl errors).kp = s.kp ∧ (State.regionFlow s sp fl errors).act = s.act ∧ (State.regionFlow s sp fl errors).mirror = s.mirror := by
  unfold State.regionFlow
  try dsimp only
  (repeat' split) <;> simp

@[simp] theorem regionFlow_rising (s : State) (sp fl : Nat) (errors : List (Nat × Option (Fin 2 × Fin 39))) (hs : s.regs.rising = true) :
    (State.regionFlow s sp fl errors).regs.rising = true := by
  unfold State.regionFlow
  try dsimp only
  (repeat' split) <;> simp (maxDischargeDepth := 60) +contextual [hs]

@[simp] theorem flowOff_keeps (s : State) (sp : Nat) (fl : Nat) :
    (State.flowOff s sp fl).pending = s.pending ∧ (State.flowOff s sp fl).sdram = s.sdram ∧ (State.flowOff s sp fl).fuse = s.fuse ∧ (State.flowOff s sp fl).sem = s.sem ∧ (State.flowOff s sp fl).dom = s.dom ∧ (State.flowOff s sp fl).time = s.time ∧ (State.flowOff s sp fl).kp = s.kp ∧ (State.flowOff s sp fl).act = s.act := by
  unfold State.flowOff
  simp

@[simp] theorem flowOff_rising (s : State) (sp : Nat) (fl : Nat) (hs : s.regs.rising = true) :
    (State.flowOff s sp fl).regs.rising = true := by
  unfold State.flowOff
  simp (maxDischargeDepth := 60) +contextual [hs]

@[simp] theorem flowOff_mirrorWf (s : State) (sp : Nat) (fl : Nat) (hs : s.mirror.words.wf 0#32 = true) :
    (State.flowOff s sp fl).mirror.words.wf 0#32 = true := by
  unfold State.flowOff
  simp (maxDischargeDepth := 60) +contextual [hs]

@[simp] theorem flowStart_keeps (s : State) (sp : Nat) (fl : Nat) :
    (State.flowStart s sp fl).pending = s.pending ∧ (State.flowStart s sp fl).sdram = s.sdram ∧ (State.flowStart s sp fl).fuse = s.fuse ∧ (State.flowStart s sp fl).sem = s.sem ∧ (State.flowStart s sp fl).dom = s.dom ∧ (State.flowStart s sp fl).time = s.time ∧ (State.flowStart s sp fl).kp = s.kp ∧ (State.flowStart s sp fl).act = s.act := by
  unfold State.flowStart
  simp

@[simp] theorem flowStart_rising (s : State) (sp : Nat) (fl : Nat) (hs : s.regs.rising = true) :
    (State.flowStart s sp fl).regs.rising = true := by
  unfold State.flowStart
  simp (maxDischargeDepth := 60) +contextual [hs]

@[simp] theorem flowStart_mirrorWf (s : State) (sp : Nat) (fl : Nat) (hs : s.mirror.words.wf 0#32 = true) :
    (State.flowStart s sp fl).mirror.words.wf 0#32 = true := by
  unfold State.flowStart
  simp (maxDischargeDepth := 60) +contextual [hs]

@[simp] theorem flowCtlWrite_keeps (s : State) (sp : Nat) (fl : Nat) (v : Nat) :
    (State.flowCtlWrite s sp fl v).pending = s.pending ∧ (State.flowCtlWrite s sp fl v).sdram = s.sdram ∧ (State.flowCtlWrite s sp fl v).fuse = s.fuse ∧ (State.flowCtlWrite s sp fl v).sem = s.sem ∧ (State.flowCtlWrite s sp fl v).dom = s.dom ∧ (State.flowCtlWrite s sp fl v).time = s.time ∧ (State.flowCtlWrite s sp fl v).kp = s.kp ∧ (State.flowCtlWrite s sp fl v).act = s.act := by
  unfold State.flowCtlWrite
  simp

@[simp] theorem flowCtlWrite_rising (s : State) (sp : Nat) (fl : Nat) (v : Nat) (hs : s.regs.rising = true) :
    (State.flowCtlWrite s sp fl v).regs.rising = true := by
  unfold State.flowCtlWrite
  simp (maxDischargeDepth := 60) +contextual [hs]

@[simp] theorem flowCtlWrite_mirrorWf (s : State) (sp : Nat) (fl : Nat) (v : Nat) (hs : s.mirror.words.wf 0#32 = true) :
    (State.flowCtlWrite s sp fl v).mirror.words.wf 0#32 = true := by
  unfold State.flowCtlWrite
  simp (maxDischargeDepth := 60) +contextual [hs]

@[simp] theorem flowFieldWrite_keeps (s : State) (sp : Nat) (fl : Nat) (off : Nat) (v : Nat) :
    (State.flowFieldWrite s sp fl off v).pending = s.pending ∧ (State.flowFieldWrite s sp fl off v).sdram = s.sdram ∧ (State.flowFieldWrite s sp fl off v).fuse = s.fuse ∧ (State.flowFieldWrite s sp fl off v).sem = s.sem ∧ (State.flowFieldWrite s sp fl off v).dom = s.dom ∧ (State.flowFieldWrite s sp fl off v).time = s.time ∧ (State.flowFieldWrite s sp fl off v).kp = s.kp ∧ (State.flowFieldWrite s sp fl off v).act = s.act ∧ (State.flowFieldWrite s sp fl off v).mirror = s.mirror := by
  unfold State.flowFieldWrite
  simp

@[simp] theorem flowFieldWrite_rising (s : State) (sp : Nat) (fl : Nat) (off : Nat) (v : Nat) (hs : s.regs.rising = true) :
    (State.flowFieldWrite s sp fl off v).regs.rising = true := by
  unfold State.flowFieldWrite
  simp (maxDischargeDepth := 60) +contextual [hs]

@[simp] theorem strmLink_keeps (s : State) (sp : Nat) (on : Bool) :
    (State.strmLink s sp on).pending = s.pending ∧ (State.strmLink s sp on).sdram = s.sdram ∧ (State.strmLink s sp on).fuse = s.fuse ∧ (State.strmLink s sp on).sem = s.sem ∧ (State.strmLink s sp on).dom = s.dom ∧ (State.strmLink s sp on).time = s.time ∧ (State.strmLink s sp on).kp = s.kp ∧ (State.strmLink s sp on).act = s.act ∧ (State.strmLink s sp on).mirror = s.mirror := by
  unfold State.strmLink
  simp

@[simp] theorem strmLink_rising (s : State) (sp : Nat) (on : Bool) (hs : s.regs.rising = true) :
    (State.strmLink s sp on).regs.rising = true := by
  unfold State.strmLink
  simp (maxDischargeDepth := 60) +contextual [hs]

@[simp] theorem portCtlWrite_keeps (s : State) (sp : Nat) (v : Nat) :
    (State.portCtlWrite s sp v).pending = s.pending ∧ (State.portCtlWrite s sp v).sdram = s.sdram ∧ (State.portCtlWrite s sp v).fuse = s.fuse ∧ (State.portCtlWrite s sp v).sem = s.sem ∧ (State.portCtlWrite s sp v).dom = s.dom ∧ (State.portCtlWrite s sp v).time = s.time ∧ (State.portCtlWrite s sp v).kp = s.kp ∧ (State.portCtlWrite s sp v).act = s.act ∧ (State.portCtlWrite s sp v).mirror = s.mirror := by
  unfold State.portCtlWrite
  simp

@[simp] theorem portCtlWrite_rising (s : State) (sp : Nat) (v : Nat) (hs : s.regs.rising = true) :
    (State.portCtlWrite s sp v).regs.rising = true := by
  unfold State.portCtlWrite
  simp (maxDischargeDepth := 60) +contextual [hs]

@[simp] theorem strmSleep_keeps (s : State) :
    (State.strmSleep s).pending = s.pending ∧ (State.strmSleep s).sdram = s.sdram ∧ (State.strmSleep s).fuse = s.fuse ∧ (State.strmSleep s).sem = s.sem ∧ (State.strmSleep s).dom = s.dom ∧ (State.strmSleep s).time = s.time ∧ (State.strmSleep s).kp = s.kp ∧ (State.strmSleep s).act = s.act ∧ (State.strmSleep s).mirror = s.mirror := by
  unfold State.strmSleep
  simp

@[simp] theorem strmSleep_rising (s : State) (hs : s.regs.rising = true) :
    (State.strmSleep s).regs.rising = true := by
  unfold State.strmSleep
  simp (maxDischargeDepth := 60) +contextual [hs]

@[simp] theorem strmRxDrop_keeps (s : State) (sp : Nat) :
    (State.strmRxDrop s sp).pending = s.pending ∧ (State.strmRxDrop s sp).sdram = s.sdram ∧ (State.strmRxDrop s sp).fuse = s.fuse ∧ (State.strmRxDrop s sp).sem = s.sem ∧ (State.strmRxDrop s sp).dom = s.dom ∧ (State.strmRxDrop s sp).time = s.time ∧ (State.strmRxDrop s sp).kp = s.kp ∧ (State.strmRxDrop s sp).act = s.act ∧ (State.strmRxDrop s sp).mirror = s.mirror := by
  unfold State.strmRxDrop
  simp

@[simp] theorem strmRxDrop_rising (s : State) (sp : Nat) (hs : s.regs.rising = true) :
    (State.strmRxDrop s sp).regs.rising = true := by
  unfold State.strmRxDrop
  simp (maxDischargeDepth := 60) +contextual [hs]
end Sys2Proof.Machine.State
end

