-- ==== Sys2Proof/Laws/KeepPower.lean ====
section
/-! SUPPORT. What the operations of Machine/Power.lean leave alone: memory, fuses, semaphores, domains, time, the queue. -/

namespace Sys2Proof.Machine.State

@[simp] theorem retain_keeps (s : State) :
    (State.retain s).pending = s.pending ∧ (State.retain s).sdram = s.sdram ∧ (State.retain s).fuse = s.fuse ∧ (State.retain s).sem = s.sem ∧ (State.retain s).dom = s.dom ∧ (State.retain s).time = s.time ∧ (State.retain s).kp = s.kp ∧ (State.retain s).regs = s.regs ∧ (State.retain s).act = s.act ∧ (State.retain s).mirror = s.mirror := by
  unfold State.retain
  simp

@[simp] theorem restoreWord_keeps (s : State) (e : Nat × Word) :
    (State.restoreWord s e).pending = s.pending ∧ (State.restoreWord s e).sdram = s.sdram ∧ (State.restoreWord s e).fuse = s.fuse ∧ (State.restoreWord s e).sem = s.sem ∧ (State.restoreWord s e).dom = s.dom ∧ (State.restoreWord s e).time = s.time ∧ (State.restoreWord s e).kp = s.kp ∧ (State.restoreWord s e).act = s.act ∧ (State.restoreWord s e).mirror = s.mirror := by
  unfold State.restoreWord
  try dsimp only
  (repeat' split) <;> simp

@[simp] theorem restoreWord_rising (s : State) (e : Nat × Word) (hs : s.regs.rising = true) :
    (State.restoreWord s e).regs.rising = true := by
  unfold State.restoreWord
  try dsimp only
  (repeat' split) <;> simp (maxDischargeDepth := 60) +contextual [hs]

@[simp] theorem restoreRegion_keeps (s : State) (e : Nat × Nat × Nat) :
    (State.restoreRegion s e).pending = s.pending ∧ (State.restoreRegion s e).sdram = s.sdram ∧ (State.restoreRegion s e).fuse = s.fuse ∧ (State.restoreRegion s e).sem = s.sem ∧ (State.restoreRegion s e).dom = s.dom ∧ (State.restoreRegion s e).time = s.time ∧ (State.restoreRegion s e).kp = s.kp ∧ (State.restoreRegion s e).act = s.act ∧ (State.restoreRegion s e).mirror = s.mirror := by
  unfold State.restoreRegion
  simp

@[simp] theorem restoreRegion_rising (s : State) (e : Nat × Nat × Nat) (hs : s.regs.rising = true) :
    (State.restoreRegion s e).regs.rising = true := by
  unfold State.restoreRegion
  simp (maxDischargeDepth := 60) +contextual [hs]

@[simp] theorem restore_keeps (s : State) :
    (State.restore s).pending = s.pending ∧ (State.restore s).sdram = s.sdram ∧ (State.restore s).fuse = s.fuse ∧ (State.restore s).sem = s.sem ∧ (State.restore s).dom = s.dom ∧ (State.restore s).time = s.time ∧ (State.restore s).kp = s.kp ∧ (State.restore s).act = s.act := by
  unfold State.restore
  simp

@[simp] theorem restore_rising (s : State) (hs : s.regs.rising = true) :
    (State.restore s).regs.rising = true := by
  unfold State.restore
  simp (maxDischargeDepth := 60) +contextual [hs]

@[simp] theorem restore_mirrorWf (s : State) (hs : s.mirror.words.wf 0#32 = true) :
    (State.restore s).mirror.words.wf 0#32 = true := by
  unfold State.restore
  simp (maxDischargeDepth := 60) +contextual [hs]

@[simp] theorem sleepPrep_keeps (s : State) :
    (State.sleepPrep s).pending = s.pending ∧ (State.sleepPrep s).sdram = s.sdram ∧ (State.sleepPrep s).fuse = s.fuse ∧ (State.sleepPrep s).sem = s.sem ∧ (State.sleepPrep s).dom = s.dom ∧ (State.sleepPrep s).time = s.time ∧ (State.sleepPrep s).kp = s.kp ∧ (State.sleepPrep s).act = s.act ∧ (State.sleepPrep s).mirror = s.mirror := by
  unfold State.sleepPrep
  simp

@[simp] theorem sleepPrep_rising (s : State) (hs : s.regs.rising = true) :
    (State.sleepPrep s).regs.rising = true := by
  unfold State.sleepPrep
  simp (maxDischargeDepth := 60) +contextual [hs]

@[simp] theorem leaveRun_keeps (s : State) :
    (State.leaveRun s).pending = s.pending ∧ (State.leaveRun s).sdram = s.sdram ∧ (State.leaveRun s).fuse = s.fuse ∧ (State.leaveRun s).sem = s.sem ∧ (State.leaveRun s).dom = s.dom ∧ (State.leaveRun s).time = s.time ∧ (State.leaveRun s).kp = s.kp ∧ (State.leaveRun s).act = s.act := by
  unfold State.leaveRun
  simp

@[simp] theorem leaveRun_rising (s : State) (hs : s.regs.rising = true) :
    (State.leaveRun s).regs.rising = true := by
  unfold State.leaveRun
  simp (maxDischargeDepth := 60) +contextual [hs]

@[simp] theorem leaveRun_mirrorWf (s : State) (hs : s.mirror.words.wf 0#32 = true) :
    (State.leaveRun s).mirror.words.wf 0#32 = true := by
  unfold State.leaveRun
  simp (maxDischargeDepth := 60) +contextual [hs]

@[simp] theorem transStart_keeps (s : State) (target : Nat) (byWake : Bool) (during : Bool) :
    (State.transStart s target byWake during).pending = s.pending ∧ (State.transStart s target byWake during).sdram = s.sdram ∧ (State.transStart s target byWake during).fuse = s.fuse ∧ (State.transStart s target byWake during).sem = s.sem ∧ (State.transStart s target byWake during).dom = s.dom ∧ (State.transStart s target byWake during).time = s.time ∧ (State.transStart s target byWake during).kp = s.kp ∧ (State.transStart s target byWake during).act = s.act := by
  unfold State.transStart
  simp

@[simp] theorem transStart_rising (s : State) (target : Nat) (byWake : Bool) (during : Bool) (hs : s.regs.rising = true) :
    (State.transStart s target byWake during).regs.rising = true := by
  unfold State.transStart
  simp (maxDischargeDepth := 60) +contextual [hs]

@[simp] theorem transStart_mirrorWf (s : State) (target : Nat) (byWake : Bool) (during : Bool) (hs : s.mirror.words.wf 0#32 = true) :
    (State.transStart s target byWake during).mirror.words.wf 0#32 = true := by
  unfold State.transStart
  simp (maxDischargeDepth := 60) +contextual [hs]

@[simp] theorem pwrHold_keeps (s : State) (l : Loc) (target : Nat) :
    (State.pwrHold s l target).pending = s.pending ∧ (State.pwrHold s l target).sdram = s.sdram ∧ (State.pwrHold s l target).fuse = s.fuse ∧ (State.pwrHold s l target).sem = s.sem ∧ (State.pwrHold s l target).dom = s.dom ∧ (State.pwrHold s l target).time = s.time ∧ (State.pwrHold s l target).kp = s.kp ∧ (State.pwrHold s l target).act = s.act ∧ (State.pwrHold s l target).mirror = s.mirror := by
  unfold State.pwrHold
  simp

@[simp] theorem pwrHold_rising (s : State) (l : Loc) (target : Nat) (hs : s.regs.rising = true) :
    (State.pwrHold s l target).regs.rising = true := by
  unfold State.pwrHold
  simp (maxDischargeDepth := 60) +contextual [hs]

@[simp] theorem pwrTake_keeps (s : State) (target : Nat) :
    (State.pwrTake s target).pending = s.pending ∧ (State.pwrTake s target).sdram = s.sdram ∧ (State.pwrTake s target).fuse = s.fuse ∧ (State.pwrTake s target).sem = s.sem ∧ (State.pwrTake s target).dom = s.dom ∧ (State.pwrTake s target).time = s.time ∧ (State.pwrTake s target).kp = s.kp ∧ (State.pwrTake s target).act = s.act := by
  unfold State.pwrTake
  try dsimp only
  (repeat' split) <;> simp

@[simp] theorem pwrTake_rising (s : State) (target : Nat) (hs : s.regs.rising = true) :
    (State.pwrTake s target).regs.rising = true := by
  unfold State.pwrTake
  try dsimp only
  (repeat' split) <;> simp (maxDischargeDepth := 60) +contextual [hs]

@[simp] theorem pwrTake_mirrorWf (s : State) (target : Nat) (hs : s.mirror.words.wf 0#32 = true) :
    (State.pwrTake s target).mirror.words.wf 0#32 = true := by
  unfold State.pwrTake
  try dsimp only
  (repeat' split) <;> simp (maxDischargeDepth := 60) +contextual [hs]

@[simp] theorem pwrReqWrite_keeps (s : State) (v : Nat) :
    (State.pwrReqWrite s v).pending = s.pending ∧ (State.pwrReqWrite s v).sdram = s.sdram ∧ (State.pwrReqWrite s v).fuse = s.fuse ∧ (State.pwrReqWrite s v).sem = s.sem ∧ (State.pwrReqWrite s v).dom = s.dom ∧ (State.pwrReqWrite s v).time = s.time ∧ (State.pwrReqWrite s v).kp = s.kp ∧ (State.pwrReqWrite s v).act = s.act := by
  unfold State.pwrReqWrite
  simp

@[simp] theorem pwrReqWrite_rising (s : State) (v : Nat) (hs : s.regs.rising = true) :
    (State.pwrReqWrite s v).regs.rising = true := by
  unfold State.pwrReqWrite
  simp (maxDischargeDepth := 60) +contextual [hs]

@[simp] theorem pwrReqWrite_mirrorWf (s : State) (v : Nat) (hs : s.mirror.words.wf 0#32 = true) :
    (State.pwrReqWrite s v).mirror.words.wf 0#32 = true := by
  unfold State.pwrReqWrite
  simp (maxDischargeDepth := 60) +contextual [hs]

@[simp] theorem wake_keeps (s : State) (source : Nat) :
    (State.wake s source).pending = s.pending ∧ (State.wake s source).sdram = s.sdram ∧ (State.wake s source).fuse = s.fuse ∧ (State.wake s source).sem = s.sem ∧ (State.wake s source).dom = s.dom ∧ (State.wake s source).time = s.time ∧ (State.wake s source).kp = s.kp ∧ (State.wake s source).act = s.act := by
  unfold State.wake
  try dsimp only
  (repeat' split) <;> simp

@[simp] theorem wake_rising (s : State) (source : Nat) (hs : s.regs.rising = true) :
    (State.wake s source).regs.rising = true := by
  unfold State.wake
  try dsimp only
  (repeat' split) <;> simp (maxDischargeDepth := 60) +contextual [hs]

@[simp] theorem wake_mirrorWf (s : State) (source : Nat) (hs : s.mirror.words.wf 0#32 = true) :
    (State.wake s source).mirror.words.wf 0#32 = true := by
  unfold State.wake
  try dsimp only
  (repeat' split) <;> simp (maxDischargeDepth := 60) +contextual [hs]

@[simp] theorem wakeOff_keeps (s : State) :
    (State.wakeOff s).pending = s.pending ∧ (State.wakeOff s).sdram = s.sdram ∧ (State.wakeOff s).fuse = s.fuse ∧ (State.wakeOff s).sem = s.sem ∧ (State.wakeOff s).time = s.time ∧ (State.wakeOff s).kp = s.kp ∧ (State.wakeOff s).act = s.act ∧ (State.wakeOff s).mirror = s.mirror := by
  unfold State.wakeOff
  simp

@[simp] theorem wakeOff_rising (s : State) (hs : s.regs.rising = true) :
    (State.wakeOff s).regs.rising = true := by
  unfold State.wakeOff
  simp (maxDischargeDepth := 60) +contextual [hs]

@[simp] theorem transTell_keeps (s : State) :
    (State.transTell s).pending = s.pending ∧ (State.transTell s).sdram = s.sdram ∧ (State.transTell s).fuse = s.fuse ∧ (State.transTell s).sem = s.sem ∧ (State.transTell s).dom = s.dom ∧ (State.transTell s).time = s.time ∧ (State.transTell s).kp = s.kp ∧ (State.transTell s).act = s.act ∧ (State.transTell s).mirror = s.mirror := by
  unfold State.transTell
  try dsimp only
  (repeat' split) <;> simp

@[simp] theorem transTell_rising (s : State) (hs : s.regs.rising = true) :
    (State.transTell s).regs.rising = true := by
  unfold State.transTell
  try dsimp only
  (repeat' split) <;> simp (maxDischargeDepth := 60) +contextual [hs]

@[simp] theorem reach_keeps (s : State) (st : Nat) :
    (State.reach s st).pending = s.pending ∧ (State.reach s st).sdram = s.sdram ∧ (State.reach s st).fuse = s.fuse ∧ (State.reach s st).sem = s.sem ∧ (State.reach s st).dom = s.dom ∧ (State.reach s st).time = s.time ∧ (State.reach s st).kp = s.kp ∧ (State.reach s st).act = s.act ∧ (State.reach s st).mirror = s.mirror := by
  unfold State.reach
  try dsimp only
  (repeat' split) <;> simp

@[simp] theorem reach_rising (s : State) (st : Nat) (hs : s.regs.rising = true) :
    (State.reach s st).regs.rising = true := by
  unfold State.reach
  try dsimp only
  (repeat' split) <;> simp (maxDischargeDepth := 60) +contextual [hs]

@[simp] theorem pathIdle_keeps (s : State) (p : Nat) :
    (State.pathIdle s p).pending = s.pending ∧ (State.pathIdle s p).sdram = s.sdram ∧ (State.pathIdle s p).fuse = s.fuse ∧ (State.pathIdle s p).sem = s.sem ∧ (State.pathIdle s p).dom = s.dom ∧ (State.pathIdle s p).time = s.time ∧ (State.pathIdle s p).kp = s.kp ∧ (State.pathIdle s p).act = s.act ∧ (State.pathIdle s p).mirror = s.mirror := by
  unfold State.pathIdle
  simp

@[simp] theorem pathIdle_rising (s : State) (p : Nat) (hs : s.regs.rising = true) :
    (State.pathIdle s p).regs.rising = true := by
  unfold State.pathIdle
  simp (maxDischargeDepth := 60) +contextual [hs]

@[simp] theorem capsTruncate_keeps (s : State) (r : Nat) :
    (State.capsTruncate s r).pending = s.pending ∧ (State.capsTruncate s r).sdram = s.sdram ∧ (State.capsTruncate s r).fuse = s.fuse ∧ (State.capsTruncate s r).sem = s.sem ∧ (State.capsTruncate s r).dom = s.dom ∧ (State.capsTruncate s r).time = s.time ∧ (State.capsTruncate s r).kp = s.kp ∧ (State.capsTruncate s r).act = s.act := by
  unfold State.capsTruncate
  simp

@[simp] theorem capsTruncate_rising (s : State) (r : Nat) (hs : s.regs.rising = true) :
    (State.capsTruncate s r).regs.rising = true := by
  unfold State.capsTruncate
  simp (maxDischargeDepth := 60) +contextual [hs]

@[simp] theorem capsTruncate_mirrorWf (s : State) (r : Nat) (hs : s.mirror.words.wf 0#32 = true) :
    (State.capsTruncate s r).mirror.words.wf 0#32 = true := by
  unfold State.capsTruncate
  simp (maxDischargeDepth := 60) +contextual [hs]

@[simp] theorem outsRest_keeps (s : State) :
    (State.outsRest s).pending = s.pending ∧ (State.outsRest s).sdram = s.sdram ∧ (State.outsRest s).fuse = s.fuse ∧ (State.outsRest s).sem = s.sem ∧ (State.outsRest s).dom = s.dom ∧ (State.outsRest s).time = s.time ∧ (State.outsRest s).kp = s.kp ∧ (State.outsRest s).regs = s.regs ∧ (State.outsRest s).act = s.act ∧ (State.outsRest s).mirror = s.mirror := by
  unfold State.outsRest
  simp

@[simp] theorem enterIdle_keeps (s : State) :
    (State.enterIdle s).pending = s.pending ∧ (State.enterIdle s).sdram = s.sdram ∧ (State.enterIdle s).fuse = s.fuse ∧ (State.enterIdle s).sem = s.sem ∧ (State.enterIdle s).dom = s.dom ∧ (State.enterIdle s).time = s.time ∧ (State.enterIdle s).kp = s.kp ∧ (State.enterIdle s).act = s.act := by
  unfold State.enterIdle
  simp

@[simp] theorem enterIdle_rising (s : State) (hs : s.regs.rising = true) :
    (State.enterIdle s).regs.rising = true := by
  unfold State.enterIdle
  simp (maxDischargeDepth := 60) +contextual [hs]

@[simp] theorem enterIdle_mirrorWf (s : State) (hs : s.mirror.words.wf 0#32 = true) :
    (State.enterIdle s).mirror.words.wf 0#32 = true := by
  unfold State.enterIdle
  simp (maxDischargeDepth := 60) +contextual [hs]

@[simp] theorem dispLost_keeps (s : State) :
    (State.dispLost s).pending = s.pending ∧ (State.dispLost s).sdram = s.sdram ∧ (State.dispLost s).fuse = s.fuse ∧ (State.dispLost s).sem = s.sem ∧ (State.dispLost s).dom = s.dom ∧ (State.dispLost s).time = s.time ∧ (State.dispLost s).kp = s.kp ∧ (State.dispLost s).mirror = s.mirror := by
  unfold State.dispLost
  simp

@[simp] theorem dispLost_rising (s : State) (hs : s.regs.rising = true) :
    (State.dispLost s).regs.rising = true := by
  unfold State.dispLost
  simp (maxDischargeDepth := 60) +contextual [hs]

@[simp] theorem dispLost_actRising (s : State) (_hr : s.regs.rising = true) (hs : s.act.rising = true) :
    (State.dispLost s).act.rising = true := by
  unfold State.dispLost
  simp (maxDischargeDepth := 60) +contextual [hs]

@[simp] theorem portL1_keeps (s : State) (p : Port) :
    (State.portL1 s p).pending = s.pending ∧ (State.portL1 s p).sdram = s.sdram ∧ (State.portL1 s p).fuse = s.fuse ∧ (State.portL1 s p).sem = s.sem ∧ (State.portL1 s p).dom = s.dom ∧ (State.portL1 s p).time = s.time ∧ (State.portL1 s p).kp = s.kp ∧ (State.portL1 s p).regs = s.regs ∧ (State.portL1 s p).act = s.act ∧ (State.portL1 s p).mirror = s.mirror := by
  unfold State.portL1
  simp

@[simp] theorem portL0_keeps (s : State) (p : Port) :
    (State.portL0 s p).pending = s.pending ∧ (State.portL0 s p).sdram = s.sdram ∧ (State.portL0 s p).fuse = s.fuse ∧ (State.portL0 s p).sem = s.sem ∧ (State.portL0 s p).dom = s.dom ∧ (State.portL0 s p).time = s.time ∧ (State.portL0 s p).kp = s.kp ∧ (State.portL0 s p).regs = s.regs ∧ (State.portL0 s p).act = s.act ∧ (State.portL0 s p).mirror = s.mirror := by
  unfold State.portL0
  simp

@[simp] theorem unitsTick_keeps (s : State) :
    (State.unitsTick s).pending = s.pending ∧ (State.unitsTick s).sdram = s.sdram ∧ (State.unitsTick s).fuse = s.fuse ∧ (State.unitsTick s).sem = s.sem ∧ (State.unitsTick s).dom = s.dom ∧ (State.unitsTick s).time = s.time ∧ (State.unitsTick s).kp = s.kp ∧ (State.unitsTick s).act = s.act ∧ (State.unitsTick s).mirror = s.mirror := by
  unfold State.unitsTick
  simp

@[simp] theorem unitsTick_rising (s : State) (hs : s.regs.rising = true) :
    (State.unitsTick s).regs.rising = true := by
  unfold State.unitsTick
  simp (maxDischargeDepth := 60) +contextual [hs]

@[simp] theorem enterSleep_keeps (s : State) :
    (State.enterSleep s).pending = s.pending ∧ (State.enterSleep s).sdram = s.sdram ∧ (State.enterSleep s).fuse = s.fuse ∧ (State.enterSleep s).sem = s.sem := by
  unfold State.enterSleep
  simp

@[simp] theorem enterSleep_rising (s : State) (hs : s.regs.rising = true) :
    (State.enterSleep s).regs.rising = true := by
  unfold State.enterSleep
  simp (maxDischargeDepth := 60) +contextual [hs]

@[simp] theorem enterSleep_actRising (s : State) (hr : s.regs.rising = true) (hs : s.act.rising = true) :
    (s.enterSleep).act.rising = true := by
  have key : ∀ (l : List Nat) (t : State), t.regs.rising = true → t.act.rising = true →
      (l.foldl kpFresh t).regs.rising = true ∧ (l.foldl kpFresh t).act.rising = true := by
    intro l
    induction l with
    | nil => exact fun t a b => ⟨a, b⟩
    | cons x xs ih => exact fun t a b => ih _ (kpFresh_rising _ _ a) (kpFresh_actRising _ _ a b)
  obtain ⟨a, b⟩ := key (List.range 68) s hr hs
  unfold enterSleep
  simp (maxDischargeDepth := 60) [a, b]

@[simp] theorem enterSleep_mirrorWf (s : State) (hs : s.mirror.words.wf 0#32 = true) :
    (State.enterSleep s).mirror.words.wf 0#32 = true := by
  unfold State.enterSleep
  simp (maxDischargeDepth := 60) +contextual [hs]

@[simp] theorem hostDown_keeps (s : State) (keep : Bool) :
    (State.hostDown s keep).pending = s.pending ∧ (State.hostDown s keep).fuse = s.fuse := by
  unfold State.hostDown
  simp

@[simp] theorem hostDown_tieWf (s : State) (keep : Bool) (hs : s.sem.tieLoser.wf none = true) :
    (State.hostDown s keep).sem.tieLoser.wf none = true := by
  unfold State.hostDown
  simp (maxDischargeDepth := 60) +contextual [hs]

@[simp] theorem hostDown_engineSems (s : State) (keep : Bool) (hs : engineSems s.sem) :
    engineSems (State.hostDown s keep).sem := by
  unfold State.hostDown
  simp (maxDischargeDepth := 60) +contextual [hs]

@[simp] theorem hostDown_rising (s : State) (keep : Bool) (hs : s.regs.rising = true) :
    (State.hostDown s keep).regs.rising = true := by
  unfold State.hostDown
  simp (maxDischargeDepth := 60) +contextual [hs]

@[simp] theorem hostDown_actRising (s : State) (keep : Bool) (hr : s.regs.rising = true) (hs : s.act.rising = true) :
    (State.hostDown s keep).act.rising = true := by
  unfold State.hostDown
  simp (maxDischargeDepth := 60) +contextual [hr, hs]

@[simp] theorem hostDown_mirrorWf (s : State) (keep : Bool) (hs : s.mirror.words.wf 0#32 = true) :
    (State.hostDown s keep).mirror.words.wf 0#32 = true := by
  unfold State.hostDown
  refine Tab.wf_filter _ ?_
  simp (maxDischargeDepth := 60) +contextual [hs]

@[simp] theorem hostDown_sdramWf (s : State) (keep : Bool) (hs : s.sdram.wf 0#8 = true) :
    (s.hostDown keep).sdram.wf 0#8 = true := by
  have key : ∀ (b : Bool) (x : Tab (BitVec 8)), x.wf 0#8 = true → Tab.wf 0#8 (if b = true then x else []) = true := by
    intro b x h
    cases b
    · rfl
    · exact h
  unfold hostDown
  refine key _ _ ?_
  simp [hs]

@[simp] theorem aonDown_keeps (s : State) :
    (State.aonDown s).pending = s.pending ∧ (State.aonDown s).sdram = s.sdram ∧ (State.aonDown s).fuse = s.fuse ∧ (State.aonDown s).sem = s.sem ∧ (State.aonDown s).time = s.time ∧ (State.aonDown s).kp = s.kp ∧ (State.aonDown s).act = s.act ∧ (State.aonDown s).mirror = s.mirror := by
  unfold State.aonDown
  simp

@[simp] theorem aonDown_rising (s : State) (hs : s.regs.rising = true) :
    (State.aonDown s).regs.rising = true := by
  unfold State.aonDown
  simp (maxDischargeDepth := 60) +contextual [hs]

@[simp] theorem convResume_keeps (s : State) (n : Nat) :
    (State.convResume s n).pending = s.pending ∧ (State.convResume s n).sdram = s.sdram ∧ (State.convResume s n).fuse = s.fuse ∧ (State.convResume s n).sem = s.sem ∧ (State.convResume s n).dom = s.dom ∧ (State.convResume s n).time = s.time ∧ (State.convResume s n).kp = s.kp ∧ (State.convResume s n).act = s.act ∧ (State.convResume s n).mirror = s.mirror := by
  unfold State.convResume
  simp

@[simp] theorem convResume_rising (s : State) (n : Nat) (hs : s.regs.rising = true) :
    (State.convResume s n).regs.rising = true := by
  unfold State.convResume
  simp (maxDischargeDepth := 60) +contextual [hs]

@[simp] theorem resumePath_keeps (s : State) (n : Nat) :
    (State.resumePath s n).pending = s.pending ∧ (State.resumePath s n).sdram = s.sdram ∧ (State.resumePath s n).fuse = s.fuse ∧ (State.resumePath s n).sem = s.sem ∧ (State.resumePath s n).dom = s.dom ∧ (State.resumePath s n).time = s.time ∧ (State.resumePath s n).kp = s.kp ∧ (State.resumePath s n).act = s.act ∧ (State.resumePath s n).mirror = s.mirror := by
  unfold State.resumePath
  simp

@[simp] theorem resumePath_rising (s : State) (n : Nat) (hs : s.regs.rising = true) :
    (State.resumePath s n).regs.rising = true := by
  unfold State.resumePath
  simp (maxDischargeDepth := 60) +contextual [hs]

@[simp] theorem exitIdle_keeps (s : State) :
    (State.exitIdle s).pending = s.pending ∧ (State.exitIdle s).sdram = s.sdram ∧ (State.exitIdle s).fuse = s.fuse ∧ (State.exitIdle s).sem = s.sem ∧ (State.exitIdle s).dom = s.dom ∧ (State.exitIdle s).time = s.time ∧ (State.exitIdle s).kp = s.kp ∧ (State.exitIdle s).act = s.act := by
  unfold State.exitIdle
  simp

@[simp] theorem exitIdle_rising (s : State) (hs : s.regs.rising = true) :
    (State.exitIdle s).regs.rising = true := by
  unfold State.exitIdle
  simp (maxDischargeDepth := 60) +contextual [hs]

@[simp] theorem exitIdle_mirrorWf (s : State) (hs : s.mirror.words.wf 0#32 = true) :
    (State.exitIdle s).mirror.words.wf 0#32 = true := by
  unfold State.exitIdle
  simp (maxDischargeDepth := 60) +contextual [hs]

@[simp] theorem upllResume_keeps (s : State) (counts : Nat) (refThere : Bool) :
    (State.upllResume s counts refThere).pending = s.pending ∧ (State.upllResume s counts refThere).sdram = s.sdram ∧ (State.upllResume s counts refThere).fuse = s.fuse ∧ (State.upllResume s counts refThere).sem = s.sem ∧ (State.upllResume s counts refThere).dom = s.dom ∧ (State.upllResume s counts refThere).kp = s.kp ∧ (State.upllResume s counts refThere).act = s.act := by
  unfold State.upllResume
  simp

@[simp] theorem upllResume_rising (s : State) (counts : Nat) (refThere : Bool) (hs : s.regs.rising = true) :
    (State.upllResume s counts refThere).regs.rising = true := by
  unfold State.upllResume
  simp (maxDischargeDepth := 60) +contextual [hs]

@[simp] theorem upllResume_mirrorWf (s : State) (counts : Nat) (refThere : Bool) (hs : s.mirror.words.wf 0#32 = true) :
    (State.upllResume s counts refThere).mirror.words.wf 0#32 = true := by
  unfold State.upllResume
  simp (maxDischargeDepth := 60) +contextual [hs]

@[simp] theorem spllResume_keeps (s : State) (run : LockRun) :
    (State.spllResume s run).pending = s.pending ∧ (State.spllResume s run).sdram = s.sdram ∧ (State.spllResume s run).fuse = s.fuse ∧ (State.spllResume s run).sem = s.sem ∧ (State.spllResume s run).dom = s.dom ∧ (State.spllResume s run).time = s.time ∧ (State.spllResume s run).kp = s.kp ∧ (State.spllResume s run).act = s.act ∧ (State.spllResume s run).mirror = s.mirror := by
  unfold State.spllResume
  simp

@[simp] theorem spllResume_rising (s : State) (run : LockRun) (hs : s.regs.rising = true) :
    (State.spllResume s run).regs.rising = true := by
  unfold State.spllResume
  simp (maxDischargeDepth := 60) +contextual [hs]

@[simp] theorem levelsShow_keeps (s : State) :
    (State.levelsShow s).pending = s.pending ∧ (State.levelsShow s).sdram = s.sdram ∧ (State.levelsShow s).fuse = s.fuse ∧ (State.levelsShow s).sem = s.sem ∧ (State.levelsShow s).dom = s.dom ∧ (State.levelsShow s).time = s.time ∧ (State.levelsShow s).kp = s.kp ∧ (State.levelsShow s).act = s.act ∧ (State.levelsShow s).mirror = s.mirror := by
  unfold State.levelsShow
  simp

@[simp] theorem levelsShow_rising (s : State) (hs : s.regs.rising = true) :
    (State.levelsShow s).regs.rising = true := by
  unfold State.levelsShow
  simp (maxDischargeDepth := 60) +contextual [hs]

@[simp] theorem exitSleep_keeps (s : State) (counts : Nat) (refThere : Bool) (run : LockRun) :
    (State.exitSleep s counts refThere run).pending = s.pending ∧ (State.exitSleep s counts refThere run).sdram = s.sdram ∧ (State.exitSleep s counts refThere run).fuse = s.fuse ∧ (State.exitSleep s counts refThere run).sem = s.sem ∧ (State.exitSleep s counts refThere run).kp = s.kp ∧ (State.exitSleep s counts refThere run).act = s.act := by
  unfold State.exitSleep
  simp

@[simp] theorem exitSleep_rising (s : State) (counts : Nat) (refThere : Bool) (run : LockRun) (hs : s.regs.rising = true) :
    (State.exitSleep s counts refThere run).regs.rising = true := by
  unfold State.exitSleep
  simp (maxDischargeDepth := 60) +contextual [hs]

@[simp] theorem exitSleep_mirrorWf (s : State) (counts : Nat) (refThere : Bool) (run : LockRun) (hs : s.mirror.words.wf 0#32 = true) :
    (State.exitSleep s counts refThere run).mirror.words.wf 0#32 = true := by
  unfold State.exitSleep
  simp (maxDischargeDepth := 60) +contextual [hs]

@[simp] theorem exitDeep_keeps (s : State) (mhz100 : Bool) :
    (State.exitDeep s mhz100).pending = s.pending ∧ (State.exitDeep s mhz100).sdram = s.sdram ∧ (State.exitDeep s mhz100).fuse = s.fuse ∧ (State.exitDeep s mhz100).sem = s.sem ∧ (State.exitDeep s mhz100).act = s.act := by
  unfold State.exitDeep
  simp

@[simp] theorem exitDeep_rising (s : State) (mhz100 : Bool) (hs : s.regs.rising = true) :
    (State.exitDeep s mhz100).regs.rising = true := by
  unfold State.exitDeep
  simp (maxDischargeDepth := 60) +contextual [hs]

@[simp] theorem exitDeep_mirrorWf (s : State) (mhz100 : Bool) (hs : s.mirror.words.wf 0#32 = true) :
    (State.exitDeep s mhz100).mirror.words.wf 0#32 = true := by
  unfold State.exitDeep
  simp (maxDischargeDepth := 60) +contextual [hs]

@[simp] theorem transDone_keeps (s : State) (t : PwrTrans) :
    (State.transDone s t).pending = s.pending ∧ (State.transDone s t).sdram = s.sdram ∧ (State.transDone s t).fuse = s.fuse ∧ (State.transDone s t).sem = s.sem ∧ (State.transDone s t).dom = s.dom ∧ (State.transDone s t).time = s.time ∧ (State.transDone s t).kp = s.kp ∧ (State.transDone s t).act = s.act := by
  unfold State.transDone
  try dsimp only
  (repeat' split) <;> simp

@[simp] theorem transDone_rising (s : State) (t : PwrTrans) (hs : s.regs.rising = true) :
    (State.transDone s t).regs.rising = true := by
  unfold State.transDone
  try dsimp only
  (repeat' split) <;> simp (maxDischargeDepth := 60) +contextual [hs]

@[simp] theorem transDone_mirrorWf (s : State) (t : PwrTrans) (hs : s.mirror.words.wf 0#32 = true) :
    (State.transDone s t).mirror.words.wf 0#32 = true := by
  unfold State.transDone
  try dsimp only
  (repeat' split) <;> simp (maxDischargeDepth := 60) +contextual [hs]

@[simp] theorem mboxWrite_keeps (s : State) (b : List Byte) :
    (State.mboxWrite s b).pending = s.pending ∧ (State.mboxWrite s b).sdram = s.sdram ∧ (State.mboxWrite s b).fuse = s.fuse ∧ (State.mboxWrite s b).sem = s.sem ∧ (State.mboxWrite s b).dom = s.dom ∧ (State.mboxWrite s b).time = s.time ∧ (State.mboxWrite s b).kp = s.kp ∧ (State.mboxWrite s b).act = s.act ∧ (State.mboxWrite s b).mirror = s.mirror := by
  unfold State.mboxWrite
  simp

@[simp] theorem mboxWrite_rising (s : State) (b : List Byte) (hs : s.regs.rising = true) :
    (State.mboxWrite s b).regs.rising = true := by
  unfold State.mboxWrite
  simp (maxDischargeDepth := 60) +contextual [hs]

@[simp] theorem timerWrite_keeps (s : State) (v : Nat) :
    (State.timerWrite s v).pending = s.pending ∧ (State.timerWrite s v).sdram = s.sdram ∧ (State.timerWrite s v).fuse = s.fuse ∧ (State.timerWrite s v).sem = s.sem ∧ (State.timerWrite s v).dom = s.dom ∧ (State.timerWrite s v).time = s.time ∧ (State.timerWrite s v).kp = s.kp ∧ (State.timerWrite s v).act = s.act ∧ (State.timerWrite s v).mirror = s.mirror := by
  unfold State.timerWrite
  simp

@[simp] theorem timerWrite_rising (s : State) (v : Nat) (hs : s.regs.rising = true) :
    (State.timerWrite s v).regs.rising = true := by
  unfold State.timerWrite
  simp (maxDischargeDepth := 60) +contextual [hs]
end Sys2Proof.Machine.State
end

