-- ==== Sys2Proof/Laws/KeepHubWrite.lean ====
section
/-! SUPPORT. What the operations of Machine/HubWrite.lean leave alone: memory, fuses, semaphores, domains, time, the queue. -/

namespace Sys2Proof.Machine.State

@[simp] theorem portWrite_actRising (s : State) (p : Port) (off : Nat) (sem : Option Nat) (effect : State → State) (hr : s.regs.rising = true)
    (hs : s.act.rising = true) (h : ∀ z : State, z.regs.rising = true → z.act.rising = true → (effect z).act.rising = true) :
    (s.portWrite p off sem effect).act.rising = true := by
  unfold portWrite
  split
  · exact hs
  · split
    · exact h s hr hs
    · split
      · exact h s hr hs
      · simp [hs]

@[simp] theorem portWrite_tieWf (s : State) (p : Port) (off : Nat) (sem : Option Nat) (effect : State → State)
    (hs : s.sem.tieLoser.wf none = true) (h : ∀ z : State, z.sem.tieLoser.wf none = true → (effect z).sem.tieLoser.wf none = true) :
    (s.portWrite p off sem effect).sem.tieLoser.wf none = true := by
  unfold portWrite
  split
  · exact hs
  · split
    · exact h s hs
    · split
      · exact h s hs
      · simp [hs]

@[simp] theorem portWrite_engineSems (s : State) (p : Port) (off : Nat) (sem : Option Nat) (effect : State → State)
    (hs : engineSems s.sem) (h : ∀ z : State, engineSems z.sem → engineSems (effect z).sem) :
    engineSems (s.portWrite p off sem effect).sem := by
  unfold portWrite
  split
  · exact hs
  · split
    · exact h s hs
    · split
      · exact h s hs
      · simp [hs]

@[simp] theorem portWrite_mirrorWf (s : State) (p : Port) (off : Nat) (sem : Option Nat) (effect : State → State)
    (hs : s.mirror.words.wf 0#32 = true) (h : ∀ z : State, z.mirror.words.wf 0#32 = true → (effect z).mirror.words.wf 0#32 = true) :
    (s.portWrite p off sem effect).mirror.words.wf 0#32 = true := by
  unfold portWrite
  split
  · exact hs
  · split
    · exact h s hs
    · split
      · exact h s hs
      · simp [hs]

@[simp] theorem relWrite_keeps (s : State) (p : Port) (off : Nat) (v : Nat) :
    (State.relWrite s p off v).pending = s.pending ∧ (State.relWrite s p off v).sdram = s.sdram ∧ (State.relWrite s p off v).fuse = s.fuse ∧ (State.relWrite s p off v).sem = s.sem ∧ (State.relWrite s p off v).dom = s.dom ∧ (State.relWrite s p off v).time = s.time ∧ (State.relWrite s p off v).kp = s.kp ∧ (State.relWrite s p off v).act = s.act ∧ (State.relWrite s p off v).mirror = s.mirror := by
  unfold State.relWrite
  try dsimp only
  (repeat' split) <;> simp

@[simp] theorem relWrite_rising (s : State) (p : Port) (off : Nat) (v : Nat) (hs : s.regs.rising = true) :
    (State.relWrite s p off v).regs.rising = true := by
  unfold State.relWrite
  try dsimp only
  (repeat' split) <;> simp (maxDischargeDepth := 60) +contextual [hs]

@[simp] theorem msixPut_keeps (s : State) (p : Port) (i : Nat) (v : Word) :
    (State.msixPut s p i v).pending = s.pending ∧ (State.msixPut s p i v).sdram = s.sdram ∧ (State.msixPut s p i v).fuse = s.fuse ∧ (State.msixPut s p i v).sem = s.sem ∧ (State.msixPut s p i v).dom = s.dom ∧ (State.msixPut s p i v).time = s.time ∧ (State.msixPut s p i v).kp = s.kp ∧ (State.msixPut s p i v).regs = s.regs ∧ (State.msixPut s p i v).act = s.act ∧ (State.msixPut s p i v).mirror = s.mirror := by
  unfold State.msixPut
  simp

@[simp] theorem evtWrite_keeps (s : State) (p : Port) (off : Nat) (v : Nat) :
    (State.evtWrite s p off v).pending = s.pending ∧ (State.evtWrite s p off v).sdram = s.sdram ∧ (State.evtWrite s p off v).fuse = s.fuse ∧ (State.evtWrite s p off v).sem = s.sem ∧ (State.evtWrite s p off v).dom = s.dom ∧ (State.evtWrite s p off v).time = s.time ∧ (State.evtWrite s p off v).kp = s.kp ∧ (State.evtWrite s p off v).act = s.act ∧ (State.evtWrite s p off v).mirror = s.mirror := by
  unfold State.evtWrite
  simp

@[simp] theorem evtWrite_rising (s : State) (p : Port) (off : Nat) (v : Nat) (hs : s.regs.rising = true) :
    (State.evtWrite s p off v).regs.rising = true := by
  unfold State.evtWrite
  simp (maxDischargeDepth := 60) +contextual [hs]

@[simp] theorem semTake_keeps (s : State) (p : Port) (n : Nat) :
    (State.semTake s p n).2.pending = s.pending ∧ (State.semTake s p n).2.sdram = s.sdram ∧ (State.semTake s p n).2.fuse = s.fuse ∧ (State.semTake s p n).2.dom = s.dom ∧ (State.semTake s p n).2.time = s.time ∧ (State.semTake s p n).2.kp = s.kp ∧ (State.semTake s p n).2.regs = s.regs ∧ (State.semTake s p n).2.act = s.act ∧ (State.semTake s p n).2.mirror = s.mirror := by
  unfold State.semTake
  try dsimp only
  (repeat' split) <;> simp

@[simp] theorem semTake_tieWf (s : State) (p : Port) (n : Nat) (hs : s.sem.tieLoser.wf none = true) :
    (State.semTake s p n).2.sem.tieLoser.wf none = true := by
  unfold State.semTake
  try dsimp only
  (repeat' split) <;> simp (maxDischargeDepth := 60) +contextual [hs]

@[simp] theorem semTake_engineSems (s : State) (p : Port) (n : Nat) (hs : engineSems s.sem) :
    engineSems (State.semTake s p n).2.sem := by
  unfold State.semTake
  try dsimp only
  (repeat' split) <;> simp (maxDischargeDepth := 60) +contextual [hs]

@[simp] theorem semTakeBoth_keeps (s : State) (n : Nat) :
    (State.semTakeBoth s n).2.2.pending = s.pending ∧ (State.semTakeBoth s n).2.2.sdram = s.sdram ∧ (State.semTakeBoth s n).2.2.fuse = s.fuse ∧ (State.semTakeBoth s n).2.2.dom = s.dom ∧ (State.semTakeBoth s n).2.2.time = s.time ∧ (State.semTakeBoth s n).2.2.kp = s.kp ∧ (State.semTakeBoth s n).2.2.regs = s.regs ∧ (State.semTakeBoth s n).2.2.act = s.act ∧ (State.semTakeBoth s n).2.2.mirror = s.mirror := by
  unfold State.semTakeBoth
  try dsimp only
  (repeat' split) <;> simp

@[simp] theorem semTakeBoth_tieWf (s : State) (n : Nat) (hs : s.sem.tieLoser.wf none = true) :
    (s.semTakeBoth n).2.2.sem.tieLoser.wf none = true := by
  unfold semTakeBoth
  split
  · by_cases c : s.sem.tieLoser.get none n = some Port.b
    · simp only [if_pos c]; exact setHolder_tieWf _ _ _ (Tab.wf_put hs)
    · simp only [if_neg c]; exact setHolder_tieWf _ _ _ (Tab.wf_put hs)
  · exact hs

@[simp] theorem semTakeBoth_engineSems (s : State) (n : Nat) (hs : engineSems s.sem) :
    engineSems (s.semTakeBoth n).2.2.sem := by
  unfold semTakeBoth
  split
  · by_cases c : s.sem.tieLoser.get none n = some Port.b
    · simp only [if_pos c]; exact setHolder_engineSems _ _ _ hs (by simp)
    · simp only [if_neg c]; exact setHolder_engineSems _ _ _ hs (by simp)
  · exact hs

@[simp] theorem semWrite_keeps (s : State) (p : Port) (n : Nat) (v : Word) :
    (State.semWrite s p n v).pending = s.pending ∧ (State.semWrite s p n v).sdram = s.sdram ∧ (State.semWrite s p n v).fuse = s.fuse ∧ (State.semWrite s p n v).dom = s.dom ∧ (State.semWrite s p n v).time = s.time ∧ (State.semWrite s p n v).kp = s.kp ∧ (State.semWrite s p n v).act = s.act ∧ (State.semWrite s p n v).mirror = s.mirror := by
  unfold State.semWrite
  simp

@[simp] theorem semWrite_rising (s : State) (p : Port) (n : Nat) (v : Word) (hs : s.regs.rising = true) :
    (State.semWrite s p n v).regs.rising = true := by
  unfold State.semWrite
  simp (maxDischargeDepth := 60) +contextual [hs]

@[simp] theorem semWrite_tieWf (s : State) (p : Port) (n : Nat) (v : Word) (hs : s.sem.tieLoser.wf none = true) :
    (State.semWrite s p n v).sem.tieLoser.wf none = true := by
  unfold State.semWrite
  simp (maxDischargeDepth := 60) +contextual [hs]

@[simp] theorem semWrite_engineSems (s : State) (p : Port) (n : Nat) (v : Word) (hs : engineSems s.sem) :
    engineSems (State.semWrite s p n v).sem := by
  unfold State.semWrite
  simp (maxDischargeDepth := 60) +contextual [hs]

@[simp] theorem semLost_keeps (s : State) (n : Nat) :
    (State.semLost s n).pending = s.pending ∧ (State.semLost s n).sdram = s.sdram ∧ (State.semLost s n).fuse = s.fuse ∧ (State.semLost s n).sem = s.sem ∧ (State.semLost s n).dom = s.dom ∧ (State.semLost s n).time = s.time ∧ (State.semLost s n).kp = s.kp ∧ (State.semLost s n).act = s.act ∧ (State.semLost s n).mirror = s.mirror := by
  unfold State.semLost
  simp

@[simp] theorem semLost_rising (s : State) (n : Nat) (hs : s.regs.rising = true) :
    (State.semLost s n).regs.rising = true := by
  unfold State.semLost
  simp (maxDischargeDepth := 60) +contextual [hs]

@[simp] theorem semInfo_keeps (s : State) (cause : Nat) (p : Port) :
    (State.semInfo s cause p).pending = s.pending ∧ (State.semInfo s cause p).sdram = s.sdram ∧ (State.semInfo s cause p).fuse = s.fuse ∧ (State.semInfo s cause p).sem = s.sem ∧ (State.semInfo s cause p).dom = s.dom ∧ (State.semInfo s cause p).time = s.time ∧ (State.semInfo s cause p).kp = s.kp ∧ (State.semInfo s cause p).act = s.act ∧ (State.semInfo s cause p).mirror = s.mirror := by
  unfold State.semInfo
  simp

@[simp] theorem semInfo_rising (s : State) (cause : Nat) (p : Port) (hs : s.regs.rising = true) :
    (State.semInfo s cause p).regs.rising = true := by
  unfold State.semInfo
  simp (maxDischargeDepth := 60) +contextual [hs]

@[simp] theorem semBreak_keeps (s : State) (p : Port) (v : Nat) :
    (State.semBreak s p v).pending = s.pending ∧ (State.semBreak s p v).sdram = s.sdram ∧ (State.semBreak s p v).fuse = s.fuse ∧ (State.semBreak s p v).dom = s.dom ∧ (State.semBreak s p v).time = s.time ∧ (State.semBreak s p v).kp = s.kp ∧ (State.semBreak s p v).act = s.act ∧ (State.semBreak s p v).mirror = s.mirror := by
  unfold State.semBreak
  try dsimp only
  (repeat' split) <;> simp

@[simp] theorem semBreak_rising (s : State) (p : Port) (v : Nat) (hs : s.regs.rising = true) :
    (State.semBreak s p v).regs.rising = true := by
  unfold State.semBreak
  try dsimp only
  (repeat' split) <;> simp (maxDischargeDepth := 60) +contextual [hs]

@[simp] theorem semBreak_tieWf (s : State) (p : Port) (v : Nat) (hs : s.sem.tieLoser.wf none = true) :
    (State.semBreak s p v).sem.tieLoser.wf none = true := by
  unfold State.semBreak
  try dsimp only
  (repeat' split) <;> simp (maxDischargeDepth := 60) +contextual [hs]

@[simp] theorem semBreak_engineSems (s : State) (p : Port) (v : Nat) (hs : engineSems s.sem) :
    engineSems (State.semBreak s p v).sem := by
  unfold State.semBreak
  try dsimp only
  (repeat' split) <;> simp (maxDischargeDepth := 60) +contextual [hs]

@[simp] theorem semsLost_keeps (s : State) (y0 : List Nat) :
    (State.semsLost s y0).pending = s.pending ∧ (State.semsLost s y0).sdram = s.sdram ∧ (State.semsLost s y0).fuse = s.fuse ∧ (State.semsLost s y0).dom = s.dom ∧ (State.semsLost s y0).time = s.time ∧ (State.semsLost s y0).kp = s.kp ∧ (State.semsLost s y0).act = s.act ∧ (State.semsLost s y0).mirror = s.mirror := by
  fun_induction State.semsLost s y0; all_goals first
      | (simp_all +zetaDelta; done)
      | (simp only [*]; (try simp +zetaDelta only []); (repeat' split) <;> simp_all; done)

@[simp] theorem semsLost_rising (s : State) (y0 : List Nat) (hs : s.regs.rising = true) :
    (State.semsLost s y0).regs.rising = true := by
  fun_induction State.semsLost s y0 <;> (simp_all (maxDischargeDepth := 60) +zetaDelta; done)

@[simp] theorem semsLost_tieWf (s : State) (y0 : List Nat) (hs : s.sem.tieLoser.wf none = true) :
    (State.semsLost s y0).sem.tieLoser.wf none = true := by
  fun_induction State.semsLost s y0 <;> (simp_all (maxDischargeDepth := 60) +zetaDelta; done)

@[simp] theorem semsLost_engineSems (s : State) (y0 : List Nat) (hs : engineSems s.sem) :
    engineSems (State.semsLost s y0).sem := by
  fun_induction State.semsLost s y0 <;> (simp_all (maxDischargeDepth := 60) +zetaDelta; done)

@[simp] theorem holderLost_keeps (s : State) (p : Port) :
    (State.holderLost s p).pending = s.pending ∧ (State.holderLost s p).sdram = s.sdram ∧ (State.holderLost s p).fuse = s.fuse ∧ (State.holderLost s p).dom = s.dom ∧ (State.holderLost s p).time = s.time ∧ (State.holderLost s p).kp = s.kp ∧ (State.holderLost s p).act = s.act ∧ (State.holderLost s p).mirror = s.mirror := by
  unfold State.holderLost
  try dsimp only
  (repeat' split) <;> simp

@[simp] theorem holderLost_rising (s : State) (p : Port) (hs : s.regs.rising = true) :
    (State.holderLost s p).regs.rising = true := by
  unfold State.holderLost
  try dsimp only
  (repeat' split) <;> simp (maxDischargeDepth := 60) +contextual [hs]

@[simp] theorem holderLost_tieWf (s : State) (p : Port) (hs : s.sem.tieLoser.wf none = true) :
    (State.holderLost s p).sem.tieLoser.wf none = true := by
  unfold State.holderLost
  try dsimp only
  (repeat' split) <;> simp (maxDischargeDepth := 60) +contextual [hs]

@[simp] theorem holderLost_engineSems (s : State) (p : Port) (hs : engineSems s.sem) :
    engineSems (State.holderLost s p).sem := by
  unfold State.holderLost
  try dsimp only
  (repeat' split) <;> simp (maxDischargeDepth := 60) +contextual [hs]

@[simp] theorem semBlockWrite_keeps (s : State) (p : Port) (off : Nat) (v : Nat) :
    (State.semBlockWrite s p off v).pending = s.pending ∧ (State.semBlockWrite s p off v).sdram = s.sdram ∧ (State.semBlockWrite s p off v).fuse = s.fuse ∧ (State.semBlockWrite s p off v).dom = s.dom ∧ (State.semBlockWrite s p off v).time = s.time ∧ (State.semBlockWrite s p off v).kp = s.kp ∧ (State.semBlockWrite s p off v).act = s.act ∧ (State.semBlockWrite s p off v).mirror = s.mirror := by
  unfold State.semBlockWrite
  simp

@[simp] theorem semBlockWrite_rising (s : State) (p : Port) (off : Nat) (v : Nat) (hs : s.regs.rising = true) :
    (State.semBlockWrite s p off v).regs.rising = true := by
  unfold State.semBlockWrite
  simp (maxDischargeDepth := 60) +contextual [hs]

@[simp] theorem semBlockWrite_tieWf (s : State) (p : Port) (off : Nat) (v : Nat) (hs : s.sem.tieLoser.wf none = true) :
    (State.semBlockWrite s p off v).sem.tieLoser.wf none = true := by
  unfold State.semBlockWrite
  simp (maxDischargeDepth := 60) +contextual [hs]

@[simp] theorem semBlockWrite_engineSems (s : State) (p : Port) (off : Nat) (v : Nat) (hs : engineSems s.sem) :
    engineSems (State.semBlockWrite s p off v).sem := by
  unfold State.semBlockWrite
  simp (maxDischargeDepth := 60) +contextual [hs]

@[simp] theorem glbWrite_keeps (s : State) (p : Port) (off : Nat) (v : Nat) :
    (State.glbWrite s p off v).pending = s.pending ∧ (State.glbWrite s p off v).sdram = s.sdram ∧ (State.glbWrite s p off v).fuse = s.fuse := by
  unfold State.glbWrite
  simp

@[simp] theorem glbWrite_rising (s : State) (p : Port) (off : Nat) (v : Nat) (hs : s.regs.rising = true) :
    (State.glbWrite s p off v).regs.rising = true := by
  unfold State.glbWrite
  try dsimp only
  (repeat' split) <;> simp (maxDischargeDepth := 60) +contextual [hs]

@[simp] theorem glbWrite_actRising (s : State) (p : Port) (off : Nat) (v : Nat) (hr : s.regs.rising = true) (hs : s.act.rising = true) :
    (State.glbWrite s p off v).act.rising = true := by
  unfold State.glbWrite
  try dsimp only
  (repeat' split) <;> simp (maxDischargeDepth := 60) +contextual [hr, hs]

@[simp] theorem glbWrite_tieWf (s : State) (p : Port) (off : Nat) (v : Nat) (hs : s.sem.tieLoser.wf none = true) :
    (State.glbWrite s p off v).sem.tieLoser.wf none = true := by
  unfold State.glbWrite
  try dsimp only
  (repeat' split) <;> simp (maxDischargeDepth := 60) +contextual [hs]

@[simp] theorem glbWrite_engineSems (s : State) (p : Port) (off : Nat) (v : Nat) (hs : engineSems s.sem) :
    engineSems (State.glbWrite s p off v).sem := by
  unfold State.glbWrite
  try dsimp only
  (repeat' split) <;> simp (maxDischargeDepth := 60) +contextual [hs]

@[simp] theorem glbWrite_mirrorWf (s : State) (p : Port) (off : Nat) (v : Nat) (hs : s.mirror.words.wf 0#32 = true) :
    (State.glbWrite s p off v).mirror.words.wf 0#32 = true := by
  unfold State.glbWrite
  try dsimp only
  (repeat' split) <;> simp (maxDischargeDepth := 60) +contextual [hs]

@[simp] theorem imgWrite_keeps (s : State) (p : Port) (off : Nat) (v : Nat) :
    (State.imgWrite s p off v).pending = s.pending ∧ (State.imgWrite s p off v).sdram = s.sdram ∧ (State.imgWrite s p off v).dom = s.dom ∧ (State.imgWrite s p off v).time = s.time ∧ (State.imgWrite s p off v).kp = s.kp ∧ (State.imgWrite s p off v).act = s.act := by
  unfold State.imgWrite
  simp

@[simp] theorem imgWrite_rising (s : State) (p : Port) (off : Nat) (v : Nat) (hs : s.regs.rising = true) :
    (State.imgWrite s p off v).regs.rising = true := by
  unfold State.imgWrite
  simp (maxDischargeDepth := 60) +contextual [hs]

@[simp] theorem imgWrite_tieWf (s : State) (p : Port) (off : Nat) (v : Nat) (hs : s.sem.tieLoser.wf none = true) :
    (State.imgWrite s p off v).sem.tieLoser.wf none = true := by
  unfold State.imgWrite
  simp (maxDischargeDepth := 60) +contextual [hs]

@[simp] theorem imgWrite_engineSems (s : State) (p : Port) (off : Nat) (v : Nat) (hs : engineSems s.sem) :
    engineSems (State.imgWrite s p off v).sem := by
  unfold State.imgWrite
  simp (maxDischargeDepth := 60) +contextual [hs]

@[simp] theorem imgWrite_mirrorWf (s : State) (p : Port) (off : Nat) (v : Nat) (hs : s.mirror.words.wf 0#32 = true) :
    (State.imgWrite s p off v).mirror.words.wf 0#32 = true := by
  unfold State.imgWrite
  simp (maxDischargeDepth := 60) +contextual [hs]

@[simp] theorem cnvWrite_keeps (s : State) (p : Port) (off : Nat) (v : Nat) :
    (State.cnvWrite s p off v).pending = s.pending ∧ (State.cnvWrite s p off v).sdram = s.sdram ∧ (State.cnvWrite s p off v).fuse = s.fuse ∧ (State.cnvWrite s p off v).sem = s.sem ∧ (State.cnvWrite s p off v).dom = s.dom ∧ (State.cnvWrite s p off v).time = s.time ∧ (State.cnvWrite s p off v).kp = s.kp ∧ (State.cnvWrite s p off v).act = s.act ∧ (State.cnvWrite s p off v).mirror = s.mirror := by
  unfold State.cnvWrite
  simp

@[simp] theorem cnvWrite_rising (s : State) (p : Port) (off : Nat) (v : Nat) (hs : s.regs.rising = true) :
    (State.cnvWrite s p off v).regs.rising = true := by
  unfold State.cnvWrite
  simp (maxDischargeDepth := 60) +contextual [hs]

@[simp] theorem clkWrite_keeps (s : State) (off : Nat) (v : Nat) :
    (State.clkWrite s off v).pending = s.pending ∧ (State.clkWrite s off v).sdram = s.sdram ∧ (State.clkWrite s off v).fuse = s.fuse ∧ (State.clkWrite s off v).sem = s.sem ∧ (State.clkWrite s off v).dom = s.dom ∧ (State.clkWrite s off v).time = s.time ∧ (State.clkWrite s off v).kp = s.kp ∧ (State.clkWrite s off v).act = s.act := by
  unfold State.clkWrite
  simp

@[simp] theorem clkWrite_rising (s : State) (off : Nat) (v : Nat) (hs : s.regs.rising = true) :
    (State.clkWrite s off v).regs.rising = true := by
  unfold State.clkWrite
  simp (maxDischargeDepth := 60) +contextual [hs]

@[simp] theorem clkWrite_mirrorWf (s : State) (off : Nat) (v : Nat) (hs : s.mirror.words.wf 0#32 = true) :
    (State.clkWrite s off v).mirror.words.wf 0#32 = true := by
  unfold State.clkWrite
  simp (maxDischargeDepth := 60) +contextual [hs]

@[simp] theorem capWrite_keeps (s : State) (p : Port) (off : Nat) (v : Nat) :
    (State.capWrite s p off v).pending = s.pending ∧ (State.capWrite s p off v).fuse = s.fuse ∧ (State.capWrite s p off v).sem = s.sem ∧ (State.capWrite s p off v).dom = s.dom ∧ (State.capWrite s p off v).time = s.time ∧ (State.capWrite s p off v).kp = s.kp ∧ (State.capWrite s p off v).act = s.act := by
  unfold State.capWrite
  simp

@[simp] theorem capWrite_sdramWf (s : State) (p : Port) (off : Nat) (v : Nat) (hs : s.sdram.wf 0#8 = true) :
    (State.capWrite s p off v).sdram.wf 0#8 = true := by
  unfold State.capWrite
  simp (maxDischargeDepth := 60) +contextual [hs]

@[simp] theorem capWrite_rising (s : State) (p : Port) (off : Nat) (v : Nat) (hs : s.regs.rising = true) :
    (State.capWrite s p off v).regs.rising = true := by
  unfold State.capWrite
  simp (maxDischargeDepth := 60) +contextual [hs]

@[simp] theorem capWrite_mirrorWf (s : State) (p : Port) (off : Nat) (v : Nat) (hs : s.mirror.words.wf 0#32 = true) :
    (State.capWrite s p off v).mirror.words.wf 0#32 = true := by
  unfold State.capWrite
  simp (maxDischargeDepth := 60) +contextual [hs]

@[simp] theorem dmaWrite_keeps (s : State) (off : Nat) (v : Nat) :
    (State.dmaWrite s off v).pending = s.pending ∧ (State.dmaWrite s off v).sdram = s.sdram ∧ (State.dmaWrite s off v).fuse = s.fuse ∧ (State.dmaWrite s off v).sem = s.sem ∧ (State.dmaWrite s off v).dom = s.dom ∧ (State.dmaWrite s off v).time = s.time ∧ (State.dmaWrite s off v).kp = s.kp ∧ (State.dmaWrite s off v).act = s.act := by
  unfold State.dmaWrite
  simp

@[simp] theorem dmaWrite_rising (s : State) (off : Nat) (v : Nat) (hs : s.regs.rising = true) :
    (State.dmaWrite s off v).regs.rising = true := by
  unfold State.dmaWrite
  simp (maxDischargeDepth := 60) +contextual [hs]

@[simp] theorem dmaWrite_mirrorWf (s : State) (off : Nat) (v : Nat) (hs : s.mirror.words.wf 0#32 = true) :
    (State.dmaWrite s off v).mirror.words.wf 0#32 = true := by
  unfold State.dmaWrite
  simp (maxDischargeDepth := 60) +contextual [hs]

@[simp] theorem strmWrite_keeps (s : State) (off : Nat) (v : Nat) :
    (State.strmWrite s off v).pending = s.pending ∧ (State.strmWrite s off v).sdram = s.sdram ∧ (State.strmWrite s off v).fuse = s.fuse ∧ (State.strmWrite s off v).sem = s.sem ∧ (State.strmWrite s off v).dom = s.dom ∧ (State.strmWrite s off v).time = s.time ∧ (State.strmWrite s off v).kp = s.kp ∧ (State.strmWrite s off v).act = s.act := by
  unfold State.strmWrite
  simp

@[simp] theorem strmWrite_rising (s : State) (off : Nat) (v : Nat) (hs : s.regs.rising = true) :
    (State.strmWrite s off v).regs.rising = true := by
  unfold State.strmWrite
  simp (maxDischargeDepth := 60) +contextual [hs]

@[simp] theorem strmWrite_mirrorWf (s : State) (off : Nat) (v : Nat) (hs : s.mirror.words.wf 0#32 = true) :
    (State.strmWrite s off v).mirror.words.wf 0#32 = true := by
  unfold State.strmWrite
  simp (maxDischargeDepth := 60) +contextual [hs]

@[simp] theorem dispWrite_keeps (s : State) (off : Nat) (v : Nat) :
    (State.dispWrite s off v).pending = s.pending ∧ (State.dispWrite s off v).sdram = s.sdram ∧ (State.dispWrite s off v).fuse = s.fuse ∧ (State.dispWrite s off v).sem = s.sem ∧ (State.dispWrite s off v).dom = s.dom ∧ (State.dispWrite s off v).time = s.time ∧ (State.dispWrite s off v).kp = s.kp ∧ (State.dispWrite s off v).act = s.act ∧ (State.dispWrite s off v).mirror = s.mirror := by
  unfold State.dispWrite
  simp

@[simp] theorem dispWrite_rising (s : State) (off : Nat) (v : Nat) (hs : s.regs.rising = true) :
    (State.dispWrite s off v).regs.rising = true := by
  unfold State.dispWrite
  simp (maxDischargeDepth := 60) +contextual [hs]

@[simp] theorem tiuWrite_keeps (s : State) (off : Nat) (v : Nat) :
    (State.tiuWrite s off v).pending = s.pending ∧ (State.tiuWrite s off v).sdram = s.sdram ∧ (State.tiuWrite s off v).fuse = s.fuse ∧ (State.tiuWrite s off v).sem = s.sem ∧ (State.tiuWrite s off v).dom = s.dom ∧ (State.tiuWrite s off v).time = s.time ∧ (State.tiuWrite s off v).kp = s.kp ∧ (State.tiuWrite s off v).act = s.act ∧ (State.tiuWrite s off v).mirror = s.mirror := by
  unfold State.tiuWrite
  simp

@[simp] theorem tiuWrite_rising (s : State) (off : Nat) (v : Nat) (hs : s.regs.rising = true) :
    (State.tiuWrite s off v).regs.rising = true := by
  unfold State.tiuWrite
  simp (maxDischargeDepth := 60) +contextual [hs]

@[simp] theorem fcdWrite_keeps (s : State) (off : Nat) (v : Nat) :
    (State.fcdWrite s off v).pending = s.pending ∧ (State.fcdWrite s off v).sdram = s.sdram ∧ (State.fcdWrite s off v).fuse = s.fuse ∧ (State.fcdWrite s off v).sem = s.sem ∧ (State.fcdWrite s off v).dom = s.dom ∧ (State.fcdWrite s off v).time = s.time ∧ (State.fcdWrite s off v).kp = s.kp ∧ (State.fcdWrite s off v).act = s.act ∧ (State.fcdWrite s off v).mirror = s.mirror := by
  unfold State.fcdWrite
  simp

@[simp] theorem fcdWrite_rising (s : State) (off : Nat) (v : Nat) (hs : s.regs.rising = true) :
    (State.fcdWrite s off v).regs.rising = true := by
  unfold State.fcdWrite
  simp (maxDischargeDepth := 60) +contextual [hs]

@[simp] theorem calWrite_keeps (s : State) (p : Port) (off : Nat) (v : Nat) :
    (State.calWrite s p off v).pending = s.pending ∧ (State.calWrite s p off v).sdram = s.sdram ∧ (State.calWrite s p off v).fuse = s.fuse ∧ (State.calWrite s p off v).sem = s.sem ∧ (State.calWrite s p off v).dom = s.dom ∧ (State.calWrite s p off v).time = s.time ∧ (State.calWrite s p off v).kp = s.kp ∧ (State.calWrite s p off v).act = s.act ∧ (State.calWrite s p off v).mirror = s.mirror := by
  unfold State.calWrite
  simp

@[simp] theorem calWrite_rising (s : State) (p : Port) (off : Nat) (v : Nat) (hs : s.regs.rising = true) :
    (State.calWrite s p off v).regs.rising = true := by
  unfold State.calWrite
  simp (maxDischargeDepth := 60) +contextual [hs]

@[simp] theorem ensWrite_keeps (s : State) (off : Nat) (v : Nat) :
    (State.ensWrite s off v).pending = s.pending ∧ (State.ensWrite s off v).sdram = s.sdram ∧ (State.ensWrite s off v).fuse = s.fuse ∧ (State.ensWrite s off v).sem = s.sem ∧ (State.ensWrite s off v).dom = s.dom ∧ (State.ensWrite s off v).time = s.time ∧ (State.ensWrite s off v).kp = s.kp ∧ (State.ensWrite s off v).act = s.act ∧ (State.ensWrite s off v).mirror = s.mirror := by
  unfold State.ensWrite
  simp

@[simp] theorem ensWrite_rising (s : State) (off : Nat) (v : Nat) (hs : s.regs.rising = true) :
    (State.ensWrite s off v).regs.rising = true := by
  unfold State.ensWrite
  simp (maxDischargeDepth := 60) +contextual [hs]

@[simp] theorem regEffect_keeps (s : State) (p : Port) (off : Nat) (v : Nat) :
    (State.regEffect s p off v).pending = s.pending := by
  unfold State.regEffect
  simp

@[simp] theorem regEffect_rising (s : State) (p : Port) (off v : Nat) (hs : s.regs.rising = true) :
    (s.regEffect p off v).regs.rising = true := by
  have key : ∀ (c : Prop) [Decidable c] (a b : State), (a.regs.rising = true) → (b.regs.rising = true) → ((if c then a else b).regs.rising = true) := by
    intro c _ a b ha hb
    split
    · exact ha
    · exact hb
  unfold regEffect
  refine key _ _ _ (by exact glbWrite_rising _ _ _ _ hs) ?_
  refine key _ _ _ (by exact pwrReqWrite_rising _ _ hs) ?_
  refine key _ _ _ (by exact timerWrite_rising _ _ hs) ?_
  refine key _ _ _ (by exact plainWrite_rising _ _ _ hs) ?_
  refine key _ _ _ (by exact semBlockWrite_rising _ _ _ _ hs) ?_
  refine key _ _ _ (by exact evtWrite_rising _ _ _ _ hs) ?_
  refine key _ _ _ (by exact imgWrite_rising _ _ _ _ hs) ?_
  refine key _ _ _ (by exact plainWrite_rising _ _ _ hs) ?_
  refine key _ _ _ (by exact cnvWrite_rising _ _ _ _ hs) ?_
  refine key _ _ _ (by exact clkWrite_rising _ _ _ hs) ?_
  refine key _ _ _ (by exact unitWrite_rising _ _ _ _ hs) ?_
  refine key _ _ _ (by exact capWrite_rising _ _ _ _ hs) ?_
  refine key _ _ _ (by exact dmaWrite_rising _ _ _ hs) ?_
  refine key _ _ _ (by exact strmWrite_rising _ _ _ hs) ?_
  refine key _ _ _ (by exact dispWrite_rising _ _ _ hs) ?_
  refine key _ _ _ (by exact tiuWrite_rising _ _ _ hs) ?_
  refine key _ _ _ (by exact fcdWrite_rising _ _ _ hs) ?_
  refine key _ _ _ (by exact calWrite_rising _ _ _ _ hs) ?_
  refine key _ _ _ (by exact ensWrite_rising _ _ _ hs) ?_
  refine key _ _ _ (by exact wearCtlWrite_rising _ _ _ hs) ?_
  refine key _ _ _ (by exact plainWrite_rising _ _ _ hs) ?_
  refine key _ _ _ (by exact unitWrite_rising _ _ _ _ hs) ?_
  exact hs

@[simp] theorem regEffect_actRising (s : State) (p : Port) (off v : Nat) (hr : s.regs.rising = true) (hs : s.act.rising = true) :
    (s.regEffect p off v).act.rising = true := by
  have key : ∀ (c : Prop) [Decidable c] (a b : State), (a.act.rising = true) → (b.act.rising = true) → ((if c then a else b).act.rising = true) := by
    intro c _ a b ha hb
    split
    · exact ha
    · exact hb
  unfold regEffect
  refine key _ _ _ (by exact glbWrite_actRising _ _ _ _ hr hs) ?_
  refine key _ _ _ (by simp only [pwrReqWrite_keeps, hs]) ?_
  refine key _ _ _ (by simp only [timerWrite_keeps, hs]) ?_
  refine key _ _ _ (by simp only [plainWrite_keeps, hs]) ?_
  refine key _ _ _ (by simp only [semBlockWrite_keeps, hs]) ?_
  refine key _ _ _ (by simp only [evtWrite_keeps, hs]) ?_
  refine key _ _ _ (by simp only [imgWrite_keeps, hs]) ?_
  refine key _ _ _ (by simp only [plainWrite_keeps, hs]) ?_
  refine key _ _ _ (by simp only [cnvWrite_keeps, hs]) ?_
  refine key _ _ _ (by simp only [clkWrite_keeps, hs]) ?_
  refine key _ _ _ (by simp only [unitWrite_keeps, hs]) ?_
  refine key _ _ _ (by simp only [capWrite_keeps, hs]) ?_
  refine key _ _ _ (by simp only [dmaWrite_keeps, hs]) ?_
  refine key _ _ _ (by simp only [strmWrite_keeps, hs]) ?_
  refine key _ _ _ (by simp only [dispWrite_keeps, hs]) ?_
  refine key _ _ _ (by simp only [tiuWrite_keeps, hs]) ?_
  refine key _ _ _ (by simp only [fcdWrite_keeps, hs]) ?_
  refine key _ _ _ (by simp only [calWrite_keeps, hs]) ?_
  refine key _ _ _ (by simp only [ensWrite_keeps, hs]) ?_
  refine key _ _ _ (by exact wearCtlWrite_actRising _ _ _ hr hs) ?_
  refine key _ _ _ (by simp only [plainWrite_keeps, hs]) ?_
  refine key _ _ _ (by simp only [unitWrite_keeps, hs]) ?_
  exact hs

@[simp] theorem regEffect_tieWf (s : State) (p : Port) (off v : Nat) (hs : s.sem.tieLoser.wf none = true) :
    (s.regEffect p off v).sem.tieLoser.wf none = true := by
  have key : ∀ (c : Prop) [Decidable c] (a b : State), (a.sem.tieLoser.wf none = true) → (b.sem.tieLoser.wf none = true) → ((if c then a else b).sem.tieLoser.wf none = true) := by
    intro c _ a b ha hb
    split
    · exact ha
    · exact hb
  unfold regEffect
  refine key _ _ _ (by exact glbWrite_tieWf _ _ _ _ hs) ?_
  refine key _ _ _ (by simp only [pwrReqWrite_keeps, hs]) ?_
  refine key _ _ _ (by simp only [timerWrite_keeps, hs]) ?_
  refine key _ _ _ (by simp only [plainWrite_keeps, hs]) ?_
  refine key _ _ _ (by exact semBlockWrite_tieWf _ _ _ _ hs) ?_
  refine key _ _ _ (by simp only [evtWrite_keeps, hs]) ?_
  refine key _ _ _ (by exact imgWrite_tieWf _ _ _ _ hs) ?_
  refine key _ _ _ (by simp only [plainWrite_keeps, hs]) ?_
  refine key _ _ _ (by simp only [cnvWrite_keeps, hs]) ?_
  refine key _ _ _ (by simp only [clkWrite_keeps, hs]) ?_
  refine key _ _ _ (by simp only [unitWrite_keeps, hs]) ?_
  refine key _ _ _ (by simp only [capWrite_keeps, hs]) ?_
  refine key _ _ _ (by simp only [dmaWrite_keeps, hs]) ?_
  refine key _ _ _ (by simp only [strmWrite_keeps, hs]) ?_
  refine key _ _ _ (by simp only [dispWrite_keeps, hs]) ?_
  refine key _ _ _ (by simp only [tiuWrite_keeps, hs]) ?_
  refine key _ _ _ (by simp only [fcdWrite_keeps, hs]) ?_
  refine key _ _ _ (by simp only [calWrite_keeps, hs]) ?_
  refine key _ _ _ (by simp only [ensWrite_keeps, hs]) ?_
  refine key _ _ _ (by simp only [wearCtlWrite_keeps, draw_keeps, hs]) ?_
  refine key _ _ _ (by simp only [plainWrite_keeps, hs]) ?_
  refine key _ _ _ (by simp only [unitWrite_keeps, hs]) ?_
  exact hs

@[simp] theorem regEffect_engineSems (s : State) (p : Port) (off v : Nat) (hs : engineSems s.sem) :
    engineSems (s.regEffect p off v).sem := by
  have key : ∀ (c : Prop) [Decidable c] (a b : State), (engineSems a.sem) → (engineSems b.sem) → (engineSems (if c then a else b).sem) := by
    intro c _ a b ha hb
    split
    · exact ha
    · exact hb
  unfold regEffect
  refine key _ _ _ (by exact glbWrite_engineSems _ _ _ _ hs) ?_
  refine key _ _ _ (by simp only [pwrReqWrite_keeps, hs]) ?_
  refine key _ _ _ (by simp only [timerWrite_keeps, hs]) ?_
  refine key _ _ _ (by simp only [plainWrite_keeps, hs]) ?_
  refine key _ _ _ (by exact semBlockWrite_engineSems _ _ _ _ hs) ?_
  refine key _ _ _ (by simp only [evtWrite_keeps, hs]) ?_
  refine key _ _ _ (by exact imgWrite_engineSems _ _ _ _ hs) ?_
  refine key _ _ _ (by simp only [plainWrite_keeps, hs]) ?_
  refine key _ _ _ (by simp only [cnvWrite_keeps, hs]) ?_
  refine key _ _ _ (by simp only [clkWrite_keeps, hs]) ?_
  refine key _ _ _ (by simp only [unitWrite_keeps, hs]) ?_
  refine key _ _ _ (by simp only [capWrite_keeps, hs]) ?_
  refine key _ _ _ (by simp only [dmaWrite_keeps, hs]) ?_
  refine key _ _ _ (by simp only [strmWrite_keeps, hs]) ?_
  refine key _ _ _ (by simp only [dispWrite_keeps, hs]) ?_
  refine key _ _ _ (by simp only [tiuWrite_keeps, hs]) ?_
  refine key _ _ _ (by simp only [fcdWrite_keeps, hs]) ?_
  refine key _ _ _ (by simp only [calWrite_keeps, hs]) ?_
  refine key _ _ _ (by simp only [ensWrite_keeps, hs]) ?_
  refine key _ _ _ (by simp only [wearCtlWrite_keeps, draw_keeps, hs]) ?_
  refine key _ _ _ (by simp only [plainWrite_keeps, hs]) ?_
  refine key _ _ _ (by simp only [unitWrite_keeps, hs]) ?_
  exact hs

@[simp] theorem regEffect_sdramWf (s : State) (p : Port) (off v : Nat) (hs : s.sdram.wf 0#8 = true) :
    (s.regEffect p off v).sdram.wf 0#8 = true := by
  have key : ∀ (c : Prop) [Decidable c] (a b : State), (a.sdram.wf 0#8 = true) → (b.sdram.wf 0#8 = true) → ((if c then a else b).sdram.wf 0#8 = true) := by
    intro c _ a b ha hb
    split
    · exact ha
    · exact hb
  unfold regEffect
  refine key _ _ _ (by simp only [glbWrite_keeps, hs]) ?_
  refine key _ _ _ (by simp only [pwrReqWrite_keeps, hs]) ?_
  refine key _ _ _ (by simp only [timerWrite_keeps, hs]) ?_
  refine key _ _ _ (by simp only [plainWrite_keeps, hs]) ?_
  refine key _ _ _ (by simp only [semBlockWrite_keeps, hs]) ?_
  refine key _ _ _ (by simp only [evtWrite_keeps, hs]) ?_
  refine key _ _ _ (by simp only [imgWrite_keeps, hs]) ?_
  refine key _ _ _ (by simp only [plainWrite_keeps, hs]) ?_
  refine key _ _ _ (by simp only [cnvWrite_keeps, hs]) ?_
  refine key _ _ _ (by simp only [clkWrite_keeps, hs]) ?_
  refine key _ _ _ (by simp only [unitWrite_keeps, hs]) ?_
  refine key _ _ _ (by exact capWrite_sdramWf _ _ _ _ hs) ?_
  refine key _ _ _ (by simp only [dmaWrite_keeps, hs]) ?_
  refine key _ _ _ (by simp only [strmWrite_keeps, hs]) ?_
  refine key _ _ _ (by simp only [dispWrite_keeps, hs]) ?_
  refine key _ _ _ (by simp only [tiuWrite_keeps, hs]) ?_
  refine key _ _ _ (by simp only [fcdWrite_keeps, hs]) ?_
  refine key _ _ _ (by simp only [calWrite_keeps, hs]) ?_
  refine key _ _ _ (by simp only [ensWrite_keeps, hs]) ?_
  refine key _ _ _ (by simp only [wearCtlWrite_keeps, draw_keeps, hs]) ?_
  refine key _ _ _ (by simp only [plainWrite_keeps, hs]) ?_
  refine key _ _ _ (by simp only [unitWrite_keeps, hs]) ?_
  exact hs

@[simp] theorem regEffect_mirrorWf (s : State) (p : Port) (off v : Nat) (hs : s.mirror.words.wf 0#32 = true) :
    (s.regEffect p off v).mirror.words.wf 0#32 = true := by
  have key : ∀ (c : Prop) [Decidable c] (a b : State), (a.mirror.words.wf 0#32 = true) → (b.mirror.words.wf 0#32 = true) → ((if c then a else b).mirror.words.wf 0#32 = true) := by
    intro c _ a b ha hb
    split
    · exact ha
    · exact hb
  unfold regEffect
  refine key _ _ _ (by exact glbWrite_mirrorWf _ _ _ _ hs) ?_
  refine key _ _ _ (by exact pwrReqWrite_mirrorWf _ _ hs) ?_
  refine key _ _ _ (by simp only [timerWrite_keeps, hs]) ?_
  refine key _ _ _ (by simp only [plainWrite_keeps, hs]) ?_
  refine key _ _ _ (by simp only [semBlockWrite_keeps, hs]) ?_
  refine key _ _ _ (by simp only [evtWrite_keeps, hs]) ?_
  refine key _ _ _ (by exact imgWrite_mirrorWf _ _ _ _ hs) ?_
  refine key _ _ _ (by simp only [plainWrite_keeps, hs]) ?_
  refine key _ _ _ (by simp only [cnvWrite_keeps, hs]) ?_
  refine key _ _ _ (by exact clkWrite_mirrorWf _ _ _ hs) ?_
  refine key _ _ _ (by exact unitWrite_mirrorWf _ _ _ _ hs) ?_
  refine key _ _ _ (by exact capWrite_mirrorWf _ _ _ _ hs) ?_
  refine key _ _ _ (by exact dmaWrite_mirrorWf _ _ _ hs) ?_
  refine key _ _ _ (by exact strmWrite_mirrorWf _ _ _ hs) ?_
  refine key _ _ _ (by simp only [dispWrite_keeps, hs]) ?_
  refine key _ _ _ (by simp only [tiuWrite_keeps, hs]) ?_
  refine key _ _ _ (by simp only [fcdWrite_keeps, hs]) ?_
  refine key _ _ _ (by simp only [calWrite_keeps, hs]) ?_
  refine key _ _ _ (by simp only [ensWrite_keeps, hs]) ?_
  refine key _ _ _ (by simp only [wearCtlWrite_keeps, draw_keeps, hs]) ?_
  refine key _ _ _ (by simp only [plainWrite_keeps, hs]) ?_
  refine key _ _ _ (by exact unitWrite_mirrorWf _ _ _ _ hs) ?_
  exact hs

@[simp] theorem lowEffect_keeps (s : State) (p : Port) (r : RegRow) (off : Nat) (v : Nat) :
    (State.lowEffect s p r off v).pending = s.pending := by
  unfold State.lowEffect
  try dsimp only
  (repeat' split) <;> simp

@[simp] theorem lowEffect_rising (s : State) (p : Port) (r : RegRow) (off : Nat) (v : Nat) (hs : s.regs.rising = true) :
    (State.lowEffect s p r off v).regs.rising = true := by
  unfold State.lowEffect
  try dsimp only
  (repeat' split) <;> simp (maxDischargeDepth := 60) +contextual [hs]

@[simp] theorem lowEffect_actRising (s : State) (p : Port) (r : RegRow) (off : Nat) (v : Nat) (hr : s.regs.rising = true) (hs : s.act.rising = true) :
    (State.lowEffect s p r off v).act.rising = true := by
  unfold State.lowEffect
  try dsimp only
  (repeat' split) <;> simp (maxDischargeDepth := 60) +contextual [hr, hs]

@[simp] theorem lowEffect_tieWf (s : State) (p : Port) (r : RegRow) (off : Nat) (v : Nat) (hs : s.sem.tieLoser.wf none = true) :
    (State.lowEffect s p r off v).sem.tieLoser.wf none = true := by
  unfold State.lowEffect
  try dsimp only
  (repeat' split) <;> simp (maxDischargeDepth := 60) +contextual [hs]

@[simp] theorem lowEffect_engineSems (s : State) (p : Port) (r : RegRow) (off : Nat) (v : Nat) (hs : engineSems s.sem) :
    engineSems (State.lowEffect s p r off v).sem := by
  unfold State.lowEffect
  try dsimp only
  (repeat' split) <;> simp (maxDischargeDepth := 60) +contextual [hs]

@[simp] theorem lowEffect_sdramWf (s : State) (p : Port) (r : RegRow) (off : Nat) (v : Nat) (hs : s.sdram.wf 0#8 = true) :
    (State.lowEffect s p r off v).sdram.wf 0#8 = true := by
  unfold State.lowEffect
  try dsimp only
  (repeat' split) <;> simp (maxDischargeDepth := 60) +contextual [hs]

@[simp] theorem lowEffect_mirrorWf (s : State) (p : Port) (r : RegRow) (off : Nat) (v : Nat) (hs : s.mirror.words.wf 0#32 = true) :
    (State.lowEffect s p r off v).mirror.words.wf 0#32 = true := by
  unfold State.lowEffect
  try dsimp only
  (repeat' split) <;> simp (maxDischargeDepth := 60) +contextual [hs]

@[simp] theorem wordEffect_keeps (s : State) (p : Port) (r : RegRow) (off : Nat) (v : Nat) :
    (State.wordEffect s p r off v).pending = s.pending := by
  unfold State.wordEffect
  try dsimp only
  (repeat' split) <;> simp

@[simp] theorem wordEffect_rising (s : State) (p : Port) (r : RegRow) (off : Nat) (v : Nat) (hs : s.regs.rising = true) :
    (State.wordEffect s p r off v).regs.rising = true := by
  unfold State.wordEffect
  try dsimp only
  (repeat' split) <;> simp (maxDischargeDepth := 60) +contextual [hs]

@[simp] theorem wordEffect_actRising (s : State) (p : Port) (r : RegRow) (off : Nat) (v : Nat) (hr : s.regs.rising = true) (hs : s.act.rising = true) :
    (State.wordEffect s p r off v).act.rising = true := by
  unfold State.wordEffect
  try dsimp only
  (repeat' split) <;> simp (maxDischargeDepth := 60) +contextual [hr, hs]

@[simp] theorem wordEffect_tieWf (s : State) (p : Port) (r : RegRow) (off : Nat) (v : Nat) (hs : s.sem.tieLoser.wf none = true) :
    (State.wordEffect s p r off v).sem.tieLoser.wf none = true := by
  unfold State.wordEffect
  try dsimp only
  (repeat' split) <;> simp (maxDischargeDepth := 60) +contextual [hs]

@[simp] theorem wordEffect_engineSems (s : State) (p : Port) (r : RegRow) (off : Nat) (v : Nat) (hs : engineSems s.sem) :
    engineSems (State.wordEffect s p r off v).sem := by
  unfold State.wordEffect
  try dsimp only
  (repeat' split) <;> simp (maxDischargeDepth := 60) +contextual [hs]

@[simp] theorem wordEffect_sdramWf (s : State) (p : Port) (r : RegRow) (off : Nat) (v : Nat) (hs : s.sdram.wf 0#8 = true) :
    (State.wordEffect s p r off v).sdram.wf 0#8 = true := by
  unfold State.wordEffect
  try dsimp only
  (repeat' split) <;> simp (maxDischargeDepth := 60) +contextual [hs]

@[simp] theorem wordEffect_mirrorWf (s : State) (p : Port) (r : RegRow) (off : Nat) (v : Nat) (hs : s.mirror.words.wf 0#32 = true) :
    (State.wordEffect s p r off v).mirror.words.wf 0#32 = true := by
  unfold State.wordEffect
  try dsimp only
  (repeat' split) <;> simp (maxDischargeDepth := 60) +contextual [hs]

@[simp] theorem regWrite_keeps (s : State) (p : Port) (off : Nat) (v : Word) :
    (State.regWrite s p off v).pending = s.pending := by
  unfold State.regWrite
  try dsimp only
  (repeat' split) <;> simp

@[simp] theorem regWrite_rising (s : State) (p : Port) (off : Nat) (v : Word) (hs : s.regs.rising = true) :
    (State.regWrite s p off v).regs.rising = true := by
  unfold State.regWrite
  try dsimp only
  (repeat' split) <;> simp (maxDischargeDepth := 60) +contextual [hs]

@[simp] theorem regWrite_actRising (s : State) (p : Port) (off : Nat) (v : Word) (hr : s.regs.rising = true) (hs : s.act.rising = true) :
    (State.regWrite s p off v).act.rising = true := by
  unfold State.regWrite
  try dsimp only
  (repeat' split) <;> simp (maxDischargeDepth := 60) +contextual [hr, hs]

@[simp] theorem regWrite_tieWf (s : State) (p : Port) (off : Nat) (v : Word) (hs : s.sem.tieLoser.wf none = true) :
    (State.regWrite s p off v).sem.tieLoser.wf none = true := by
  unfold State.regWrite
  try dsimp only
  (repeat' split) <;> simp (maxDischargeDepth := 60) +contextual [hs]

@[simp] theorem regWrite_engineSems (s : State) (p : Port) (off : Nat) (v : Word) (hs : engineSems s.sem) :
    engineSems (State.regWrite s p off v).sem := by
  unfold State.regWrite
  try dsimp only
  (repeat' split) <;> simp (maxDischargeDepth := 60) +contextual [hs]

@[simp] theorem regWrite_sdramWf (s : State) (p : Port) (off : Nat) (v : Word) (hs : s.sdram.wf 0#8 = true) :
    (State.regWrite s p off v).sdram.wf 0#8 = true := by
  unfold State.regWrite
  try dsimp only
  (repeat' split) <;> simp (maxDischargeDepth := 60) +contextual [hs]

@[simp] theorem regWrite_mirrorWf (s : State) (p : Port) (off : Nat) (v : Word) (hs : s.mirror.words.wf 0#32 = true) :
    (State.regWrite s p off v).mirror.words.wf 0#32 = true := by
  unfold State.regWrite
  try dsimp only
  (repeat' split) <;> simp (maxDischargeDepth := 60) +contextual [hs]

end Sys2Proof.Machine.State
end

