-- ==== Sys2Proof/Laws/KeepKpInstr.lean ====
section
/-! SUPPORT. What the operations of Machine/KpInstr.lean leave alone: memory, fuses, semaphores, domains, time, the queue. -/

namespace Sys2Proof.Machine.State

@[simp] theorem kpAlu_keeps (s : State) (n : Nat) (x : KpAlu) (b : Nat) :
    (State.kpAlu s n x b).pending = s.pending ∧ (State.kpAlu s n x b).sdram = s.sdram ∧ (State.kpAlu s n x b).fuse = s.fuse ∧ (State.kpAlu s n x b).sem = s.sem ∧ (State.kpAlu s n x b).dom = s.dom ∧ (State.kpAlu s n x b).time = s.time ∧ (State.kpAlu s n x b).regs = s.regs ∧ (State.kpAlu s n x b).act = s.act ∧ (State.kpAlu s n x b).mirror = s.mirror := by
  unfold State.kpAlu
  try dsimp only
  (repeat' split) <;> simp

@[simp] theorem kpOver_keeps (s : State) (n : Nat) (a : Nat) :
    (State.kpOver s n a).pending = s.pending ∧ (State.kpOver s n a).sdram = s.sdram ∧ (State.kpOver s n a).fuse = s.fuse ∧ (State.kpOver s n a).sem = s.sem ∧ (State.kpOver s n a).dom = s.dom ∧ (State.kpOver s n a).time = s.time ∧ (State.kpOver s n a).regs = s.regs ∧ (State.kpOver s n a).act = s.act ∧ (State.kpOver s n a).mirror = s.mirror := by
  unfold State.kpOver
  simp

@[simp] theorem kpSumAdd_keeps (s : State) (n : Nat) (a : Nat) (p : Int) (overwrite : Bool) :
    (State.kpSumAdd s n a p overwrite).pending = s.pending ∧ (State.kpSumAdd s n a p overwrite).sdram = s.sdram ∧ (State.kpSumAdd s n a p overwrite).fuse = s.fuse ∧ (State.kpSumAdd s n a p overwrite).sem = s.sem ∧ (State.kpSumAdd s n a p overwrite).dom = s.dom ∧ (State.kpSumAdd s n a p overwrite).time = s.time ∧ (State.kpSumAdd s n a p overwrite).regs = s.regs ∧ (State.kpSumAdd s n a p overwrite).act = s.act ∧ (State.kpSumAdd s n a p overwrite).mirror = s.mirror := by
  unfold State.kpSumAdd
  simp

@[simp] theorem kpMul4_keeps (s : State) (n : Nat) (x : KpMul) (overwrite : Bool) :
    (State.kpMul4 s n x overwrite).pending = s.pending ∧ (State.kpMul4 s n x overwrite).sdram = s.sdram ∧ (State.kpMul4 s n x overwrite).fuse = s.fuse ∧ (State.kpMul4 s n x overwrite).sem = s.sem ∧ (State.kpMul4 s n x overwrite).dom = s.dom ∧ (State.kpMul4 s n x overwrite).time = s.time ∧ (State.kpMul4 s n x overwrite).regs = s.regs ∧ (State.kpMul4 s n x overwrite).act = s.act ∧ (State.kpMul4 s n x overwrite).mirror = s.mirror := by
  unfold State.kpMul4
  simp

@[simp] theorem kpMul2_keeps (s : State) (n : Nat) (a : Nat) (x : KpMul) (overwrite : Bool) :
    (State.kpMul2 s n a x overwrite).pending = s.pending ∧ (State.kpMul2 s n a x overwrite).sdram = s.sdram ∧ (State.kpMul2 s n a x overwrite).fuse = s.fuse ∧ (State.kpMul2 s n a x overwrite).sem = s.sem ∧ (State.kpMul2 s n a x overwrite).dom = s.dom ∧ (State.kpMul2 s n a x overwrite).time = s.time ∧ (State.kpMul2 s n a x overwrite).regs = s.regs ∧ (State.kpMul2 s n a x overwrite).act = s.act ∧ (State.kpMul2 s n a x overwrite).mirror = s.mirror := by
  unfold State.kpMul2
  simp

@[simp] theorem searchHalf_keeps (s : State) (n : Nat) (d : Nat) (i : Nat) (max : Bool) (u : Bool) (v : Nat) (ix : Nat) (h : Nat) :
    (State.searchHalf s n d i max u v ix h).pending = s.pending ∧ (State.searchHalf s n d i max u v ix h).sdram = s.sdram ∧ (State.searchHalf s n d i max u v ix h).fuse = s.fuse ∧ (State.searchHalf s n d i max u v ix h).sem = s.sem ∧ (State.searchHalf s n d i max u v ix h).dom = s.dom ∧ (State.searchHalf s n d i max u v ix h).time = s.time ∧ (State.searchHalf s n d i max u v ix h).regs = s.regs ∧ (State.searchHalf s n d i max u v ix h).act = s.act ∧ (State.searchHalf s n d i max u v ix h).mirror = s.mirror := by
  unfold State.searchHalf
  simp

@[simp] theorem kpSrcPut_keeps (s : State) (n : Nat) (v : Nat) (y0 : KpSrc) :
    (State.kpSrcPut s n v y0).pending = s.pending ∧ (State.kpSrcPut s n v y0).sdram = s.sdram ∧ (State.kpSrcPut s n v y0).fuse = s.fuse ∧ (State.kpSrcPut s n v y0).sem = s.sem ∧ (State.kpSrcPut s n v y0).dom = s.dom ∧ (State.kpSrcPut s n v y0).time = s.time ∧ (State.kpSrcPut s n v y0).regs = s.regs ∧ (State.kpSrcPut s n v y0).act = s.act ∧ (State.kpSrcPut s n v y0).mirror = s.mirror := by
  unfold State.kpSrcPut
  split <;> simp

@[simp] theorem kpOutCopy_keeps (s : State) (n : Nat) (y0 : List Nat) :
    (State.kpOutCopy s n y0).pending = s.pending ∧ (State.kpOutCopy s n y0).sdram = s.sdram ∧ (State.kpOutCopy s n y0).fuse = s.fuse ∧ (State.kpOutCopy s n y0).sem = s.sem ∧ (State.kpOutCopy s n y0).dom = s.dom ∧ (State.kpOutCopy s n y0).time = s.time ∧ (State.kpOutCopy s n y0).kp = s.kp ∧ (State.kpOutCopy s n y0).act = s.act ∧ (State.kpOutCopy s n y0).mirror = s.mirror := by
  fun_induction State.kpOutCopy s n y0; all_goals first
      | (simp_all +zetaDelta; done)
      | (simp only [*]; (try simp +zetaDelta only []); (repeat' split) <;> simp_all; done)

@[simp] theorem kpOutCopy_rising (s : State) (n : Nat) (y0 : List Nat) (hs : s.regs.rising = true) :
    (State.kpOutCopy s n y0).regs.rising = true := by
  fun_induction State.kpOutCopy s n y0 <;> (simp_all (maxDischargeDepth := 60) +zetaDelta; done)

@[simp] theorem kpSrBit_keeps (s : State) (n : Nat) (i : Nat) (b : Bool) :
    (State.kpSrBit s n i b).pending = s.pending ∧ (State.kpSrBit s n i b).sdram = s.sdram ∧ (State.kpSrBit s n i b).fuse = s.fuse ∧ (State.kpSrBit s n i b).sem = s.sem ∧ (State.kpSrBit s n i b).dom = s.dom ∧ (State.kpSrBit s n i b).time = s.time ∧ (State.kpSrBit s n i b).regs = s.regs ∧ (State.kpSrBit s n i b).act = s.act ∧ (State.kpSrBit s n i b).mirror = s.mirror := by
  unfold State.kpSrBit
  simp

@[simp] theorem kpPost_keeps (s : State) (n : Nat) :
    (State.kpPost s n).pending = s.pending ∧ (State.kpPost s n).sdram = s.sdram ∧ (State.kpPost s n).fuse = s.fuse ∧ (State.kpPost s n).sem = s.sem ∧ (State.kpPost s n).dom = s.dom ∧ (State.kpPost s n).time = s.time ∧ (State.kpPost s n).act = s.act ∧ (State.kpPost s n).mirror = s.mirror := by
  unfold State.kpPost
  simp

@[simp] theorem kpPost_rising (s : State) (n : Nat) (hs : s.regs.rising = true) :
    (State.kpPost s n).regs.rising = true := by
  unfold State.kpPost
  simp (maxDischargeDepth := 60) [hs]

theorem kpMoves_keeps (old s : State) (n : Nat) (got : KpGot) (mx my : KpMove) : endAside s (kpMoves old s n got mx my) :=
  andThen_keeps (kpMove_keeps _ _ _ _ _ _) fun _ => kpMove_keeps _ _ _ _ _ _

theorem kpLd_keeps (s : State) (n : Nat) (got : KpGot) (d : KpData) (c : Fin 8) (y half : Bool) (m : KpMode) :
    endAside s (s.kpLd n got d c y half m) :=
  kpLoad_keeps _ _ _ _ _ _ fun t v => by simp (maxDischargeDepth := 60) +contextual [endAside, aside]

theorem kpStoreValue_keeps (s : State) (n : Nat) (y : Bool) (ea v w : Nat) (f : State → KpEnd) (h : ∀ t, endAside t (f t)) :
    endAside s (s.kpStoreValue n y ea v w f) :=
  endAside_trans (by simp (maxDischargeDepth := 60) +contextual [aside]) (kpStore_keeps _ _ _ _ _ _ h)

theorem kpSt_keeps (s : State) (n : Nat) (d : KpData) (c : Fin 8) (y half : Bool) (m : KpMode) :
    endAside s (s.kpSt n d c y half m) := by
  unfold kpSt
  exact kpStoreValue_keeps _ _ _ _ _ _ _ fun t => by simp (maxDischargeDepth := 60) +contextual [endAside, aside]

theorem kpStS_keeps (s : State) (n a : Nat) (c : Fin 8) (y half : Bool) (m : KpMode) : endAside s (s.kpStS n a c y half m) := by
  unfold kpStS
  refine kpStoreValue_keeps _ _ _ _ _ _ _ fun t => ?_
  dsimp only
  split <;> simp (maxDischargeDepth := 60) +contextual [endAside, aside]

theorem kpSearch_keeps (s : State) (n : Nat) (got : KpGot) (d i : Fin 16) (c : Fin 8) (max u half : Bool) (f : KpStep) :
    endAside s (s.kpSearch n got d i c max u half f) := by
  unfold kpSearch
  refine kpLoad_keeps _ _ _ _ _ _ fun t v => ?_
  dsimp only
  split
  · simp (maxDischargeDepth := 60) +contextual [endAside, aside]
  · split <;> simp (maxDischargeDepth := 60) +contextual [endAside, aside]

theorem kpPass_keeps (s : State) (n pc : Nat) : endAside s (s.kpPass n pc) := by
  unfold kpPass
  simp (maxDischargeDepth := 60) +contextual [endAside, aside]

theorem kpLoop_keeps (s : State) (n : Nat) (count : KpCount) (stop : Nat) : endAside s (s.kpLoop n count stop) := by
  unfold kpLoop
  dsimp only
  split
  · trivial
  · split
    · exact kpPass_keeps _ _ _
    · simp (maxDischargeDepth := 60) +contextual [endAside, aside]

theorem kpRep_keeps (s : State) (n : Nat) (count : KpCount) : endAside s (s.kpRep n count) := by
  unfold kpRep
  dsimp only
  split
  · exact kpPass_keeps _ _ _
  · simp (maxDischargeDepth := 60) +contextual [endAside, aside]

theorem kpCall_keeps (s : State) (n target : Nat) : endAside s (s.kpCall n target) := by
  unfold kpCall
  split
  · trivial
  · rename_i t h; exact kpPush_keeps h

theorem kpPub_keeps (s : State) (n : Nat) (got : KpGot) (g : Nat) : endAside s (s.kpPub n got g) := by
  unfold kpPub
  dsimp only
  split
  · trivial
  · simp (maxDischargeDepth := 60) +contextual [endAside, aside]
end Sys2Proof.Machine.State
end

