-- ==== Sys2Proof/Laws/KeepPortSpace.lean ====
section
/-! SUPPORT. What the operations of Machine/PortSpace.lean leave alone: memory, fuses, semaphores, domains, time, the queue. -/

namespace Sys2Proof.Machine.State

@[simp] theorem cfgPut_keeps (s : State) (p : Port) (o v : Nat) :
    (State.cfgPut s p o v).pending = s.pending ∧ (State.cfgPut s p o v).sdram = s.sdram ∧ (State.cfgPut s p o v).fuse = s.fuse ∧ (State.cfgPut s p o v).sem = s.sem ∧ (State.cfgPut s p o v).dom = s.dom ∧ (State.cfgPut s p o v).time = s.time ∧ (State.cfgPut s p o v).kp = s.kp ∧ (State.cfgPut s p o v).regs = s.regs ∧ (State.cfgPut s p o v).act = s.act ∧ (State.cfgPut s p o v).mirror = s.mirror := by
  unfold State.cfgPut
  simp
end Sys2Proof.Machine.State
end

