-- ==== Sys2Proof/Laws/KeepPorts.lean ====
section
/-! SUPPORT. What the operations of Machine/Ports.lean leave alone: memory, fuses, semaphores, domains, time, the queue. -/

namespace Sys2Proof.Machine.State

@[simp] theorem bar2Words_keeps (s : State) (p : Port) (off : Nat) (y0 : List Word) :
    (State.bar2Words s p off y0).pending = s.pending ∧ (State.bar2Words s p off y0).sdram = s.sdram ∧ (State.bar2Words s p off y0).fuse = s.fuse ∧ (State.bar2Words s p off y0).sem = s.sem ∧ (State.bar2Words s p off y0).dom = s.dom ∧ (State.bar2Words s p off y0).time = s.time ∧ (State.bar2Words s p off y0).kp = s.kp ∧ (State.bar2Words s p off y0).act = s.act ∧ (State.bar2Words s p off y0).mirror = s.mirror := by
  fun_induction State.bar2Words s p off y0; all_goals first
      | (simp_all +zetaDelta; done)
      | (simp only [*]; (try simp +zetaDelta only []); (repeat' split) <;> simp_all; done)

@[simp] theorem bar2Words_rising (s : State) (p : Port) (off : Nat) (y0 : List Word) (hs : s.regs.rising = true) :
    (State.bar2Words s p off y0).regs.rising = true := by
  fun_induction State.bar2Words s p off y0 <;> (simp_all (maxDischargeDepth := 60) +zetaDelta; done)

@[simp] theorem bar4Put_keeps (s : State) (a : Nat) (y0 : List (Option Byte)) :
    (State.bar4Put s a y0).pending = s.pending ∧ (State.bar4Put s a y0).fuse = s.fuse ∧ (State.bar4Put s a y0).sem = s.sem ∧ (State.bar4Put s a y0).dom = s.dom ∧ (State.bar4Put s a y0).time = s.time ∧ (State.bar4Put s a y0).kp = s.kp ∧ (State.bar4Put s a y0).regs = s.regs ∧ (State.bar4Put s a y0).act = s.act ∧ (State.bar4Put s a y0).mirror = s.mirror := by
  fun_induction State.bar4Put s a y0; all_goals first
      | (simp_all +zetaDelta; done)
      | (simp only [*]; (try simp +zetaDelta only []); (repeat' split) <;> simp_all; done)

@[simp] theorem bar4Put_sdramWf (s : State) (a : Nat) (y0 : List (Option Byte)) (hs : s.sdram.wf 0#8 = true) :
    (State.bar4Put s a y0).sdram.wf 0#8 = true := by
  fun_induction State.bar4Put s a y0 <;> (simp_all (maxDischargeDepth := 60) +zetaDelta; done)

@[simp] theorem bar4Oob_keeps (s : State) (p : Port) (as_ : List Nat) :
    (State.bar4Oob s p as_).pending = s.pending ∧ (State.bar4Oob s p as_).sdram = s.sdram ∧ (State.bar4Oob s p as_).fuse = s.fuse ∧ (State.bar4Oob s p as_).sem = s.sem ∧ (State.bar4Oob s p as_).dom = s.dom ∧ (State.bar4Oob s p as_).time = s.time ∧ (State.bar4Oob s p as_).kp = s.kp ∧ (State.bar4Oob s p as_).act = s.act ∧ (State.bar4Oob s p as_).mirror = s.mirror := by
  unfold State.bar4Oob
  simp

@[simp] theorem bar4Oob_rising (s : State) (p : Port) (as_ : List Nat) (hs : s.regs.rising = true) :
    (State.bar4Oob s p as_).regs.rising = true := by
  unfold State.bar4Oob
  simp (maxDischargeDepth := 60) +contextual [hs]

@[simp] theorem bar4Blocked_keeps (s : State) (p : Port) (as_ : List Nat) :
    (State.bar4Blocked s p as_).pending = s.pending ∧ (State.bar4Blocked s p as_).sdram = s.sdram ∧ (State.bar4Blocked s p as_).fuse = s.fuse ∧ (State.bar4Blocked s p as_).sem = s.sem ∧ (State.bar4Blocked s p as_).dom = s.dom ∧ (State.bar4Blocked s p as_).time = s.time ∧ (State.bar4Blocked s p as_).kp = s.kp ∧ (State.bar4Blocked s p as_).act = s.act ∧ (State.bar4Blocked s p as_).mirror = s.mirror := by
  unfold State.bar4Blocked
  simp

@[simp] theorem bar4Blocked_rising (s : State) (p : Port) (as_ : List Nat) (hs : s.regs.rising = true) :
    (State.bar4Blocked s p as_).regs.rising = true := by
  unfold State.bar4Blocked
  simp (maxDischargeDepth := 60) +contextual [hs]

@[simp] theorem portReset_keeps (s : State) (p : Port) :
    (State.portReset s p).pending = s.pending ∧ (State.portReset s p).sdram = s.sdram ∧ (State.portReset s p).fuse = s.fuse ∧ (State.portReset s p).sem = s.sem ∧ (State.portReset s p).dom = s.dom ∧ (State.portReset s p).time = s.time ∧ (State.portReset s p).kp = s.kp ∧ (State.portReset s p).act = s.act ∧ (State.portReset s p).mirror = s.mirror := by
  unfold State.portReset
  simp

@[simp] theorem portReset_rising (s : State) (p : Port) (hs : s.regs.rising = true) :
    (State.portReset s p).regs.rising = true := by
  unfold State.portReset
  simp (maxDischargeDepth := 60) +contextual [hs]

@[simp] theorem fetchLost_keeps (s : State) (p : Port) :
    (State.fetchLost s p).pending = s.pending ∧ (State.fetchLost s p).sdram = s.sdram ∧ (State.fetchLost s p).fuse = s.fuse ∧ (State.fetchLost s p).dom = s.dom ∧ (State.fetchLost s p).time = s.time ∧ (State.fetchLost s p).kp = s.kp ∧ (State.fetchLost s p).act = s.act ∧ (State.fetchLost s p).mirror = s.mirror := by
  unfold State.fetchLost
  simp

@[simp] theorem fetchLost_rising (s : State) (p : Port) (hs : s.regs.rising = true) :
    (State.fetchLost s p).regs.rising = true := by
  unfold State.fetchLost
  simp (maxDischargeDepth := 60) +contextual [hs]

@[simp] theorem fetchLost_tieWf (s : State) (p : Port) (hs : s.sem.tieLoser.wf none = true) :
    (State.fetchLost s p).sem.tieLoser.wf none = true := by
  unfold State.fetchLost
  simp (maxDischargeDepth := 60) +contextual [hs]

@[simp] theorem fetchLost_engineSems (s : State) (p : Port) (hs : engineSems s.sem) :
    engineSems (State.fetchLost s p).sem := by
  unfold State.fetchLost
  simp (maxDischargeDepth := 60) +contextual [hs]

@[simp] theorem linkShow_keeps (s : State) (p : Port) (width : Nat) (rate : Nat) :
    (State.linkShow s p width rate).pending = s.pending ∧ (State.linkShow s p width rate).sdram = s.sdram ∧ (State.linkShow s p width rate).fuse = s.fuse ∧ (State.linkShow s p width rate).sem = s.sem ∧ (State.linkShow s p width rate).dom = s.dom ∧ (State.linkShow s p width rate).time = s.time ∧ (State.linkShow s p width rate).kp = s.kp ∧ (State.linkShow s p width rate).act = s.act ∧ (State.linkShow s p width rate).mirror = s.mirror := by
  unfold State.linkShow
  try dsimp only
  (repeat' split) <;> simp

@[simp] theorem linkShow_rising (s : State) (p : Port) (width : Nat) (rate : Nat) (hs : s.regs.rising = true) :
    (State.linkShow s p width rate).regs.rising = true := by
  unfold State.linkShow
  try dsimp only
  (repeat' split) <;> simp (maxDischargeDepth := 60) +contextual [hs]

@[simp] theorem linkDown_keeps (s : State) (p : Port) :
    (State.linkDown s p).pending = s.pending ∧ (State.linkDown s p).sdram = s.sdram ∧ (State.linkDown s p).fuse = s.fuse ∧ (State.linkDown s p).dom = s.dom ∧ (State.linkDown s p).time = s.time ∧ (State.linkDown s p).kp = s.kp ∧ (State.linkDown s p).act = s.act ∧ (State.linkDown s p).mirror = s.mirror := by
  unfold State.linkDown
  simp

@[simp] theorem linkDown_rising (s : State) (p : Port) (hs : s.regs.rising = true) :
    (State.linkDown s p).regs.rising = true := by
  unfold State.linkDown
  simp (maxDischargeDepth := 60) +contextual [hs]

@[simp] theorem linkDown_tieWf (s : State) (p : Port) (hs : s.sem.tieLoser.wf none = true) :
    (State.linkDown s p).sem.tieLoser.wf none = true := by
  unfold State.linkDown
  simp (maxDischargeDepth := 60) +contextual [hs]

@[simp] theorem linkDown_engineSems (s : State) (p : Port) (hs : engineSems s.sem) :
    engineSems (State.linkDown s p).sem := by
  unfold State.linkDown
  simp (maxDischargeDepth := 60) +contextual [hs]

@[simp] theorem flr_keeps (s : State) (p : Port) :
    (State.flr s p).pending = s.pending ∧ (State.flr s p).sdram = s.sdram ∧ (State.flr s p).fuse = s.fuse ∧ (State.flr s p).dom = s.dom ∧ (State.flr s p).time = s.time ∧ (State.flr s p).kp = s.kp ∧ (State.flr s p).act = s.act ∧ (State.flr s p).mirror = s.mirror := by
  unfold State.flr
  simp

@[simp] theorem flr_tieWf (s : State) (p : Port) (hs : s.sem.tieLoser.wf none = true) :
    (State.flr s p).sem.tieLoser.wf none = true := by
  unfold State.flr
  simp (maxDischargeDepth := 60) +contextual [hs]

@[simp] theorem flr_engineSems (s : State) (p : Port) (hs : engineSems s.sem) :
    engineSems (State.flr s p).sem := by
  unfold State.flr
  simp (maxDischargeDepth := 60) +contextual [hs]

@[simp] theorem flr_rising (s : State) (p : Port) (hs : s.regs.rising = true) :
    (State.flr s p).regs.rising = true := by
  unfold State.flr
  simp (maxDischargeDepth := 60) +contextual [hs]

@[simp] theorem cfgWrite_keeps (s : State) (p : Port) (o : Nat) (v : Word) :
    (State.cfgWrite s p o v).pending = s.pending ∧ (State.cfgWrite s p o v).sdram = s.sdram ∧ (State.cfgWrite s p o v).fuse = s.fuse ∧ (State.cfgWrite s p o v).dom = s.dom ∧ (State.cfgWrite s p o v).time = s.time ∧ (State.cfgWrite s p o v).kp = s.kp ∧ (State.cfgWrite s p o v).act = s.act ∧ (State.cfgWrite s p o v).mirror = s.mirror := by
  unfold State.cfgWrite
  simp

@[simp] theorem cfgWrite_tieWf (s : State) (p : Port) (o : Nat) (v : Word) (hs : s.sem.tieLoser.wf none = true) :
    (State.cfgWrite s p o v).sem.tieLoser.wf none = true := by
  unfold State.cfgWrite
  try dsimp only
  (repeat' split) <;> simp (maxDischargeDepth := 60) +contextual [hs]

@[simp] theorem cfgWrite_engineSems (s : State) (p : Port) (o : Nat) (v : Word) (hs : engineSems s.sem) :
    engineSems (State.cfgWrite s p o v).sem := by
  unfold State.cfgWrite
  try dsimp only
  (repeat' split) <;> simp (maxDischargeDepth := 60) +contextual [hs]

@[simp] theorem cfgWrite_rising (s : State) (p : Port) (o : Nat) (v : Word) (hs : s.regs.rising = true) :
    (State.cfgWrite s p o v).regs.rising = true := by
  unfold State.cfgWrite
  try dsimp only
  (repeat' split) <;> simp (maxDischargeDepth := 60) +contextual [hs]

@[simp] theorem vectorTry_keeps (s : State) (p : Port) (v : Nat) :
    (State.vectorTry s p v).pending = s.pending ∧ (State.vectorTry s p v).sdram = s.sdram ∧ (State.vectorTry s p v).fuse = s.fuse ∧ (State.vectorTry s p v).sem = s.sem ∧ (State.vectorTry s p v).dom = s.dom ∧ (State.vectorTry s p v).time = s.time ∧ (State.vectorTry s p v).kp = s.kp ∧ (State.vectorTry s p v).regs = s.regs ∧ (State.vectorTry s p v).act = s.act ∧ (State.vectorTry s p v).mirror = s.mirror := by
  unfold State.vectorTry
  simp
end Sys2Proof.Machine.State
end

