-- ==== Sys2Proof/Laws/KeepStep.lean ====
section
/-! SUPPORT. What the operations of Machine/Step.lean leave alone: memory, fuses, semaphores, domains, time, the queue. -/

namespace Sys2Proof.Machine.State

@[simp] theorem tickOne_keeps (s : State) :
    (State.tickOne s).pending = s.pending ∧ (State.tickOne s).sdram = s.sdram ∧ (State.tickOne s).fuse = s.fuse ∧ (State.tickOne s).sem = s.sem ∧ (State.tickOne s).dom = s.dom ∧ (State.tickOne s).kp = s.kp ∧ (State.tickOne s).act = s.act ∧ (State.tickOne s).mirror = s.mirror := by
  unfold State.tickOne
  simp

@[simp] theorem tickOne_rising (s : State) (hs : s.regs.rising = true) : (State.tickOne s).regs.rising = true := by
  unfold State.tickOne
  simp (maxDischargeDepth := 60) +contextual [hs]

@[simp] theorem withFetchWord_keeps (s : State) (nbits w : Nat) :
    (State.withFetchWord s nbits w).sdram = s.sdram ∧ (State.withFetchWord s nbits w).fuse = s.fuse ∧ (State.withFetchWord s nbits w).sem = s.sem ∧ (State.withFetchWord s nbits w).dom = s.dom ∧ (State.withFetchWord s nbits w).time = s.time ∧ (State.withFetchWord s nbits w).kp = s.kp ∧ (State.withFetchWord s nbits w).regs = s.regs ∧ (State.withFetchWord s nbits w).act = s.act ∧ (State.withFetchWord s nbits w).mirror = s.mirror := by
  unfold State.withFetchWord
  split <;> simp
end Sys2Proof.Machine.State
end

