-- ==== Sys2Proof/Laws/State.lean ====
section
/-! SUPPORT. What each update of the state leaves: one lemma for each field and update. -/

namespace Sys2Proof.Machine.State

/-! ### emit -/

@[simp] theorem emit_regs (s : State) (o : Out) : (s.emit o).regs = s.regs := rfl
@[simp] theorem emit_act (s : State) (o : Out) : (s.emit o).act = s.act := rfl
@[simp] theorem emit_time (s : State) (o : Out) : (s.emit o).time = s.time := rfl
@[simp] theorem emit_dom (s : State) (o : Out) : (s.emit o).dom = s.dom := rfl
@[simp] theorem emit_sem (s : State) (o : Out) : (s.emit o).sem = s.sem := rfl
@[simp] theorem emit_portA (s : State) (o : Out) : (s.emit o).portA = s.portA := rfl
@[simp] theorem emit_portB (s : State) (o : Out) : (s.emit o).portB = s.portB := rfl
@[simp] theorem emit_mirror (s : State) (o : Out) : (s.emit o).mirror = s.mirror := rfl
@[simp] theorem emit_load (s : State) (o : Out) : (s.emit o).load = s.load := rfl
@[simp] theorem emit_fuse (s : State) (o : Out) : (s.emit o).fuse = s.fuse := rfl
@[simp] theorem emit_fab (s : State) (o : Out) : (s.emit o).fab = s.fab := rfl
@[simp] theorem emit_cnv (s : State) (o : Out) : (s.emit o).cnv = s.cnv := rfl
@[simp] theorem emit_clocks (s : State) (o : Out) : (s.emit o).clocks = s.clocks := rfl
@[simp] theorem emit_ddc (s : State) (o : Out) : (s.emit o).ddc = s.ddc := rfl
@[simp] theorem emit_xf (s : State) (o : Out) : (s.emit o).xf = s.xf := rfl
@[simp] theorem emit_kal (s : State) (o : Out) : (s.emit o).kal = s.kal := rfl
@[simp] theorem emit_trg (s : State) (o : Out) : (s.emit o).trg = s.trg := rfl
@[simp] theorem emit_regions (s : State) (o : Out) : (s.emit o).regions = s.regions := rfl
@[simp] theorem emit_sdram (s : State) (o : Out) : (s.emit o).sdram = s.sdram := rfl
@[simp] theorem emit_kp (s : State) (o : Out) : (s.emit o).kp = s.kp := rfl
@[simp] theorem emit_dma (s : State) (o : Out) : (s.emit o).dma = s.dma := rfl
@[simp] theorem emit_strm (s : State) (o : Out) : (s.emit o).strm = s.strm := rfl
@[simp] theorem emit_disp (s : State) (o : Out) : (s.emit o).disp = s.disp := rfl
@[simp] theorem emit_tiu (s : State) (o : Out) : (s.emit o).tiu = s.tiu := rfl
@[simp] theorem emit_cal (s : State) (o : Out) : (s.emit o).cal = s.cal := rfl
@[simp] theorem emit_ens (s : State) (o : Out) : (s.emit o).ens = s.ens := rfl
@[simp] theorem emit_wear (s : State) (o : Out) : (s.emit o).wear = s.wear := rfl
@[simp] theorem emit_avs (s : State) (o : Out) : (s.emit o).avs = s.avs := rfl
@[simp] theorem emit_fcd (s : State) (o : Out) : (s.emit o).fcd = s.fcd := rfl
@[simp] theorem emit_start (s : State) (o : Out) : (s.emit o).start = s.start := rfl
@[simp] theorem emit_pwr (s : State) (o : Out) : (s.emit o).pwr = s.pwr := rfl
@[simp] theorem emit_bus (s : State) (o : Out) : (s.emit o).bus = s.bus := rfl
@[simp] theorem emit_free (s : State) (o : Out) : (s.emit o).free = s.free := rfl
@[simp] theorem emit_pending (s : State) (o : Out) : (s.emit o).pending = s.pending := rfl

/-! ### complete -/

@[simp] theorem complete_regs (s : State) (c : Completion) : (s.complete c).regs = s.regs := rfl
@[simp] theorem complete_act (s : State) (c : Completion) : (s.complete c).act = s.act := rfl
@[simp] theorem complete_time (s : State) (c : Completion) : (s.complete c).time = s.time := rfl
@[simp] theorem complete_dom (s : State) (c : Completion) : (s.complete c).dom = s.dom := rfl
@[simp] theorem complete_sem (s : State) (c : Completion) : (s.complete c).sem = s.sem := rfl
@[simp] theorem complete_portA (s : State) (c : Completion) : (s.complete c).portA = s.portA := rfl
@[simp] theorem complete_portB (s : State) (c : Completion) : (s.complete c).portB = s.portB := rfl
@[simp] theorem complete_mirror (s : State) (c : Completion) : (s.complete c).mirror = s.mirror := rfl
@[simp] theorem complete_load (s : State) (c : Completion) : (s.complete c).load = s.load := rfl
@[simp] theorem complete_fuse (s : State) (c : Completion) : (s.complete c).fuse = s.fuse := rfl
@[simp] theorem complete_fab (s : State) (c : Completion) : (s.complete c).fab = s.fab := rfl
@[simp] theorem complete_cnv (s : State) (c : Completion) : (s.complete c).cnv = s.cnv := rfl
@[simp] theorem complete_clocks (s : State) (c : Completion) : (s.complete c).clocks = s.clocks := rfl
@[simp] theorem complete_ddc (s : State) (c : Completion) : (s.complete c).ddc = s.ddc := rfl
@[simp] theorem complete_xf (s : State) (c : Completion) : (s.complete c).xf = s.xf := rfl
@[simp] theorem complete_kal (s : State) (c : Completion) : (s.complete c).kal = s.kal := rfl
@[simp] theorem complete_trg (s : State) (c : Completion) : (s.complete c).trg = s.trg := rfl
@[simp] theorem complete_regions (s : State) (c : Completion) : (s.complete c).regions = s.regions := rfl
@[simp] theorem complete_sdram (s : State) (c : Completion) : (s.complete c).sdram = s.sdram := rfl
@[simp] theorem complete_kp (s : State) (c : Completion) : (s.complete c).kp = s.kp := rfl
@[simp] theorem complete_dma (s : State) (c : Completion) : (s.complete c).dma = s.dma := rfl
@[simp] theorem complete_strm (s : State) (c : Completion) : (s.complete c).strm = s.strm := rfl
@[simp] theorem complete_disp (s : State) (c : Completion) : (s.complete c).disp = s.disp := rfl
@[simp] theorem complete_tiu (s : State) (c : Completion) : (s.complete c).tiu = s.tiu := rfl
@[simp] theorem complete_cal (s : State) (c : Completion) : (s.complete c).cal = s.cal := rfl
@[simp] theorem complete_ens (s : State) (c : Completion) : (s.complete c).ens = s.ens := rfl
@[simp] theorem complete_wear (s : State) (c : Completion) : (s.complete c).wear = s.wear := rfl
@[simp] theorem complete_avs (s : State) (c : Completion) : (s.complete c).avs = s.avs := rfl
@[simp] theorem complete_fcd (s : State) (c : Completion) : (s.complete c).fcd = s.fcd := rfl
@[simp] theorem complete_start (s : State) (c : Completion) : (s.complete c).start = s.start := rfl
@[simp] theorem complete_pwr (s : State) (c : Completion) : (s.complete c).pwr = s.pwr := rfl
@[simp] theorem complete_out (s : State) (c : Completion) : (s.complete c).out = s.out := rfl
@[simp] theorem complete_free (s : State) (c : Completion) : (s.complete c).free = s.free := rfl
@[simp] theorem complete_pending (s : State) (c : Completion) : (s.complete c).pending = s.pending := rfl

/-! ### setWord -/

@[simp] theorem setWord_act (s : State) (a rst v : Nat) : (s.setWord a rst v).act = s.act := rfl
@[simp] theorem setWord_time (s : State) (a rst v : Nat) : (s.setWord a rst v).time = s.time := rfl
@[simp] theorem setWord_dom (s : State) (a rst v : Nat) : (s.setWord a rst v).dom = s.dom := rfl
@[simp] theorem setWord_sem (s : State) (a rst v : Nat) : (s.setWord a rst v).sem = s.sem := rfl
@[simp] theorem setWord_portA (s : State) (a rst v : Nat) : (s.setWord a rst v).portA = s.portA := rfl
@[simp] theorem setWord_portB (s : State) (a rst v : Nat) : (s.setWord a rst v).portB = s.portB := rfl
@[simp] theorem setWord_mirror (s : State) (a rst v : Nat) : (s.setWord a rst v).mirror = s.mirror := rfl
@[simp] theorem setWord_load (s : State) (a rst v : Nat) : (s.setWord a rst v).load = s.load := rfl
@[simp] theorem setWord_fuse (s : State) (a rst v : Nat) : (s.setWord a rst v).fuse = s.fuse := rfl
@[simp] theorem setWord_fab (s : State) (a rst v : Nat) : (s.setWord a rst v).fab = s.fab := rfl
@[simp] theorem setWord_cnv (s : State) (a rst v : Nat) : (s.setWord a rst v).cnv = s.cnv := rfl
@[simp] theorem setWord_clocks (s : State) (a rst v : Nat) : (s.setWord a rst v).clocks = s.clocks := rfl
@[simp] theorem setWord_ddc (s : State) (a rst v : Nat) : (s.setWord a rst v).ddc = s.ddc := rfl
@[simp] theorem setWord_xf (s : State) (a rst v : Nat) : (s.setWord a rst v).xf = s.xf := rfl
@[simp] theorem setWord_kal (s : State) (a rst v : Nat) : (s.setWord a rst v).kal = s.kal := rfl
@[simp] theorem setWord_trg (s : State) (a rst v : Nat) : (s.setWord a rst v).trg = s.trg := rfl
@[simp] theorem setWord_regions (s : State) (a rst v : Nat) : (s.setWord a rst v).regions = s.regions := rfl
@[simp] theorem setWord_sdram (s : State) (a rst v : Nat) : (s.setWord a rst v).sdram = s.sdram := rfl
@[simp] theorem setWord_kp (s : State) (a rst v : Nat) : (s.setWord a rst v).kp = s.kp := rfl
@[simp] theorem setWord_dma (s : State) (a rst v : Nat) : (s.setWord a rst v).dma = s.dma := rfl
@[simp] theorem setWord_strm (s : State) (a rst v : Nat) : (s.setWord a rst v).strm = s.strm := rfl
@[simp] theorem setWord_disp (s : State) (a rst v : Nat) : (s.setWord a rst v).disp = s.disp := rfl
@[simp] theorem setWord_tiu (s : State) (a rst v : Nat) : (s.setWord a rst v).tiu = s.tiu := rfl
@[simp] theorem setWord_cal (s : State) (a rst v : Nat) : (s.setWord a rst v).cal = s.cal := rfl
@[simp] theorem setWord_ens (s : State) (a rst v : Nat) : (s.setWord a rst v).ens = s.ens := rfl
@[simp] theorem setWord_wear (s : State) (a rst v : Nat) : (s.setWord a rst v).wear = s.wear := rfl
@[simp] theorem setWord_avs (s : State) (a rst v : Nat) : (s.setWord a rst v).avs = s.avs := rfl
@[simp] theorem setWord_fcd (s : State) (a rst v : Nat) : (s.setWord a rst v).fcd = s.fcd := rfl
@[simp] theorem setWord_start (s : State) (a rst v : Nat) : (s.setWord a rst v).start = s.start := rfl
@[simp] theorem setWord_pwr (s : State) (a rst v : Nat) : (s.setWord a rst v).pwr = s.pwr := rfl
@[simp] theorem setWord_bus (s : State) (a rst v : Nat) : (s.setWord a rst v).bus = s.bus := rfl
@[simp] theorem setWord_out (s : State) (a rst v : Nat) : (s.setWord a rst v).out = s.out := rfl
@[simp] theorem setWord_free (s : State) (a rst v : Nat) : (s.setWord a rst v).free = s.free := rfl
@[simp] theorem setWord_pending (s : State) (a rst v : Nat) : (s.setWord a rst v).pending = s.pending := rfl

/-! ### set -/

@[simp] theorem set_act (s : State) (l : Loc) (v : Nat) : (s.set l v).act = s.act := by unfold set; dsimp only; split <;> rfl
@[simp] theorem set_time (s : State) (l : Loc) (v : Nat) : (s.set l v).time = s.time := by unfold set; dsimp only; split <;> rfl
@[simp] theorem set_dom (s : State) (l : Loc) (v : Nat) : (s.set l v).dom = s.dom := by unfold set; dsimp only; split <;> rfl
@[simp] theorem set_sem (s : State) (l : Loc) (v : Nat) : (s.set l v).sem = s.sem := by unfold set; dsimp only; split <;> rfl
@[simp] theorem set_portA (s : State) (l : Loc) (v : Nat) : (s.set l v).portA = s.portA := by unfold set; dsimp only; split <;> rfl
@[simp] theorem set_portB (s : State) (l : Loc) (v : Nat) : (s.set l v).portB = s.portB := by unfold set; dsimp only; split <;> rfl
@[simp] theorem set_mirror (s : State) (l : Loc) (v : Nat) : (s.set l v).mirror = s.mirror := by unfold set; dsimp only; split <;> rfl
@[simp] theorem set_load (s : State) (l : Loc) (v : Nat) : (s.set l v).load = s.load := by unfold set; dsimp only; split <;> rfl
@[simp] theorem set_fuse (s : State) (l : Loc) (v : Nat) : (s.set l v).fuse = s.fuse := by unfold set; dsimp only; split <;> rfl
@[simp] theorem set_fab (s : State) (l : Loc) (v : Nat) : (s.set l v).fab = s.fab := by unfold set; dsimp only; split <;> rfl
@[simp] theorem set_cnv (s : State) (l : Loc) (v : Nat) : (s.set l v).cnv = s.cnv := by unfold set; dsimp only; split <;> rfl
@[simp] theorem set_clocks (s : State) (l : Loc) (v : Nat) : (s.set l v).clocks = s.clocks := by unfold set; dsimp only; split <;> rfl
@[simp] theorem set_ddc (s : State) (l : Loc) (v : Nat) : (s.set l v).ddc = s.ddc := by unfold set; dsimp only; split <;> rfl
@[simp] theorem set_xf (s : State) (l : Loc) (v : Nat) : (s.set l v).xf = s.xf := by unfold set; dsimp only; split <;> rfl
@[simp] theorem set_kal (s : State) (l : Loc) (v : Nat) : (s.set l v).kal = s.kal := by unfold set; dsimp only; split <;> rfl
@[simp] theorem set_trg (s : State) (l : Loc) (v : Nat) : (s.set l v).trg = s.trg := by unfold set; dsimp only; split <;> rfl
@[simp] theorem set_regions (s : State) (l : Loc) (v : Nat) : (s.set l v).regions = s.regions := by unfold set; dsimp only; split <;> rfl
@[simp] theorem set_sdram (s : State) (l : Loc) (v : Nat) : (s.set l v).sdram = s.sdram := by unfold set; dsimp only; split <;> rfl
@[simp] theorem set_kp (s : State) (l : Loc) (v : Nat) : (s.set l v).kp = s.kp := by unfold set; dsimp only; split <;> rfl
@[simp] theorem set_dma (s : State) (l : Loc) (v : Nat) : (s.set l v).dma = s.dma := by unfold set; dsimp only; split <;> rfl
@[simp] theorem set_strm (s : State) (l : Loc) (v : Nat) : (s.set l v).strm = s.strm := by unfold set; dsimp only; split <;> rfl
@[simp] theorem set_disp (s : State) (l : Loc) (v : Nat) : (s.set l v).disp = s.disp := by unfold set; dsimp only; split <;> rfl
@[simp] theorem set_tiu (s : State) (l : Loc) (v : Nat) : (s.set l v).tiu = s.tiu := by unfold set; dsimp only; split <;> rfl
@[simp] theorem set_cal (s : State) (l : Loc) (v : Nat) : (s.set l v).cal = s.cal := by unfold set; dsimp only; split <;> rfl
@[simp] theorem set_ens (s : State) (l : Loc) (v : Nat) : (s.set l v).ens = s.ens := by unfold set; dsimp only; split <;> rfl
@[simp] theorem set_wear (s : State) (l : Loc) (v : Nat) : (s.set l v).wear = s.wear := by unfold set; dsimp only; split <;> rfl
@[simp] theorem set_avs (s : State) (l : Loc) (v : Nat) : (s.set l v).avs = s.avs := by unfold set; dsimp only; split <;> rfl
@[simp] theorem set_fcd (s : State) (l : Loc) (v : Nat) : (s.set l v).fcd = s.fcd := by unfold set; dsimp only; split <;> rfl
@[simp] theorem set_start (s : State) (l : Loc) (v : Nat) : (s.set l v).start = s.start := by unfold set; dsimp only; split <;> rfl
@[simp] theorem set_pwr (s : State) (l : Loc) (v : Nat) : (s.set l v).pwr = s.pwr := by unfold set; dsimp only; split <;> rfl
@[simp] theorem set_bus (s : State) (l : Loc) (v : Nat) : (s.set l v).bus = s.bus := by unfold set; dsimp only; split <;> rfl
@[simp] theorem set_out (s : State) (l : Loc) (v : Nat) : (s.set l v).out = s.out := by unfold set; dsimp only; split <;> rfl
@[simp] theorem set_free (s : State) (l : Loc) (v : Nat) : (s.set l v).free = s.free := by unfold set; dsimp only; split <;> rfl
@[simp] theorem set_pending (s : State) (l : Loc) (v : Nat) : (s.set l v).pending = s.pending := by unfold set; dsimp only; split <;> rfl

/-! ### setHolder -/

@[simp] theorem setHolder_regs (s : State) (n : Nat) (h : Option Holder) : (s.setHolder n h).regs = s.regs := rfl
@[simp] theorem setHolder_act (s : State) (n : Nat) (h : Option Holder) : (s.setHolder n h).act = s.act := rfl
@[simp] theorem setHolder_time (s : State) (n : Nat) (h : Option Holder) : (s.setHolder n h).time = s.time := rfl
@[simp] theorem setHolder_dom (s : State) (n : Nat) (h : Option Holder) : (s.setHolder n h).dom = s.dom := rfl
@[simp] theorem setHolder_portA (s : State) (n : Nat) (h : Option Holder) : (s.setHolder n h).portA = s.portA := rfl
@[simp] theorem setHolder_portB (s : State) (n : Nat) (h : Option Holder) : (s.setHolder n h).portB = s.portB := rfl
@[simp] theorem setHolder_mirror (s : State) (n : Nat) (h : Option Holder) : (s.setHolder n h).mirror = s.mirror := rfl
@[simp] theorem setHolder_load (s : State) (n : Nat) (h : Option Holder) : (s.setHolder n h).load = s.load := rfl
@[simp] theorem setHolder_fuse (s : State) (n : Nat) (h : Option Holder) : (s.setHolder n h).fuse = s.fuse := rfl
@[simp] theorem setHolder_fab (s : State) (n : Nat) (h : Option Holder) : (s.setHolder n h).fab = s.fab := rfl
@[simp] theorem setHolder_cnv (s : State) (n : Nat) (h : Option Holder) : (s.setHolder n h).cnv = s.cnv := rfl
@[simp] theorem setHolder_clocks (s : State) (n : Nat) (h : Option Holder) : (s.setHolder n h).clocks = s.clocks := rfl
@[simp] theorem setHolder_ddc (s : State) (n : Nat) (h : Option Holder) : (s.setHolder n h).ddc = s.ddc := rfl
@[simp] theorem setHolder_xf (s : State) (n : Nat) (h : Option Holder) : (s.setHolder n h).xf = s.xf := rfl
@[simp] theorem setHolder_kal (s : State) (n : Nat) (h : Option Holder) : (s.setHolder n h).kal = s.kal := rfl
@[simp] theorem setHolder_trg (s : State) (n : Nat) (h : Option Holder) : (s.setHolder n h).trg = s.trg := rfl
@[simp] theorem setHolder_regions (s : State) (n : Nat) (h : Option Holder) : (s.setHolder n h).regions = s.regions := rfl
@[simp] theorem setHolder_sdram (s : State) (n : Nat) (h : Option Holder) : (s.setHolder n h).sdram = s.sdram := rfl
@[simp] theorem setHolder_kp (s : State) (n : Nat) (h : Option Holder) : (s.setHolder n h).kp = s.kp := rfl
@[simp] theorem setHolder_dma (s : State) (n : Nat) (h : Option Holder) : (s.setHolder n h).dma = s.dma := rfl
@[simp] theorem setHolder_strm (s : State) (n : Nat) (h : Option Holder) : (s.setHolder n h).strm = s.strm := rfl
@[simp] theorem setHolder_disp (s : State) (n : Nat) (h : Option Holder) : (s.setHolder n h).disp = s.disp := rfl
@[simp] theorem setHolder_tiu (s : State) (n : Nat) (h : Option Holder) : (s.setHolder n h).tiu = s.tiu := rfl
@[simp] theorem setHolder_cal (s : State) (n : Nat) (h : Option Holder) : (s.setHolder n h).cal = s.cal := rfl
@[simp] theorem setHolder_ens (s : State) (n : Nat) (h : Option Holder) : (s.setHolder n h).ens = s.ens := rfl
@[simp] theorem setHolder_wear (s : State) (n : Nat) (h : Option Holder) : (s.setHolder n h).wear = s.wear := rfl
@[simp] theorem setHolder_avs (s : State) (n : Nat) (h : Option Holder) : (s.setHolder n h).avs = s.avs := rfl
@[simp] theorem setHolder_fcd (s : State) (n : Nat) (h : Option Holder) : (s.setHolder n h).fcd = s.fcd := rfl
@[simp] theorem setHolder_start (s : State) (n : Nat) (h : Option Holder) : (s.setHolder n h).start = s.start := rfl
@[simp] theorem setHolder_pwr (s : State) (n : Nat) (h : Option Holder) : (s.setHolder n h).pwr = s.pwr := rfl
@[simp] theorem setHolder_bus (s : State) (n : Nat) (h : Option Holder) : (s.setHolder n h).bus = s.bus := rfl
@[simp] theorem setHolder_out (s : State) (n : Nat) (h : Option Holder) : (s.setHolder n h).out = s.out := rfl
@[simp] theorem setHolder_free (s : State) (n : Nat) (h : Option Holder) : (s.setHolder n h).free = s.free := rfl
@[simp] theorem setHolder_pending (s : State) (n : Nat) (h : Option Holder) : (s.setHolder n h).pending = s.pending := rfl

/-! ### setPort -/

@[simp] theorem setPort_regs (s : State) (p : Port) (x : PortSt) : (s.setPort p x).regs = s.regs := by cases p <;> rfl
@[simp] theorem setPort_act (s : State) (p : Port) (x : PortSt) : (s.setPort p x).act = s.act := by cases p <;> rfl
@[simp] theorem setPort_time (s : State) (p : Port) (x : PortSt) : (s.setPort p x).time = s.time := by cases p <;> rfl
@[simp] theorem setPort_dom (s : State) (p : Port) (x : PortSt) : (s.setPort p x).dom = s.dom := by cases p <;> rfl
@[simp] theorem setPort_sem (s : State) (p : Port) (x : PortSt) : (s.setPort p x).sem = s.sem := by cases p <;> rfl
@[simp] theorem setPort_mirror (s : State) (p : Port) (x : PortSt) : (s.setPort p x).mirror = s.mirror := by cases p <;> rfl
@[simp] theorem setPort_load (s : State) (p : Port) (x : PortSt) : (s.setPort p x).load = s.load := by cases p <;> rfl
@[simp] theorem setPort_fuse (s : State) (p : Port) (x : PortSt) : (s.setPort p x).fuse = s.fuse := by cases p <;> rfl
@[simp] theorem setPort_fab (s : State) (p : Port) (x : PortSt) : (s.setPort p x).fab = s.fab := by cases p <;> rfl
@[simp] theorem setPort_cnv (s : State) (p : Port) (x : PortSt) : (s.setPort p x).cnv = s.cnv := by cases p <;> rfl
@[simp] theorem setPort_clocks (s : State) (p : Port) (x : PortSt) : (s.setPort p x).clocks = s.clocks := by cases p <;> rfl
@[simp] theorem setPort_ddc (s : State) (p : Port) (x : PortSt) : (s.setPort p x).ddc = s.ddc := by cases p <;> rfl
@[simp] theorem setPort_xf (s : State) (p : Port) (x : PortSt) : (s.setPort p x).xf = s.xf := by cases p <;> rfl
@[simp] theorem setPort_kal (s : State) (p : Port) (x : PortSt) : (s.setPort p x).kal = s.kal := by cases p <;> rfl
@[simp] theorem setPort_trg (s : State) (p : Port) (x : PortSt) : (s.setPort p x).trg = s.trg := by cases p <;> rfl
@[simp] theorem setPort_regions (s : State) (p : Port) (x : PortSt) : (s.setPort p x).regions = s.regions := by cases p <;> rfl
@[simp] theorem setPort_sdram (s : State) (p : Port) (x : PortSt) : (s.setPort p x).sdram = s.sdram := by cases p <;> rfl
@[simp] theorem setPort_kp (s : State) (p : Port) (x : PortSt) : (s.setPort p x).kp = s.kp := by cases p <;> rfl
@[simp] theorem setPort_dma (s : State) (p : Port) (x : PortSt) : (s.setPort p x).dma = s.dma := by cases p <;> rfl
@[simp] theorem setPort_strm (s : State) (p : Port) (x : PortSt) : (s.setPort p x).strm = s.strm := by cases p <;> rfl
@[simp] theorem setPort_disp (s : State) (p : Port) (x : PortSt) : (s.setPort p x).disp = s.disp := by cases p <;> rfl
@[simp] theorem setPort_tiu (s : State) (p : Port) (x : PortSt) : (s.setPort p x).tiu = s.tiu := by cases p <;> rfl
@[simp] theorem setPort_cal (s : State) (p : Port) (x : PortSt) : (s.setPort p x).cal = s.cal := by cases p <;> rfl
@[simp] theorem setPort_ens (s : State) (p : Port) (x : PortSt) : (s.setPort p x).ens = s.ens := by cases p <;> rfl
@[simp] theorem setPort_wear (s : State) (p : Port) (x : PortSt) : (s.setPort p x).wear = s.wear := by cases p <;> rfl
@[simp] theorem setPort_avs (s : State) (p : Port) (x : PortSt) : (s.setPort p x).avs = s.avs := by cases p <;> rfl
@[simp] theorem setPort_fcd (s : State) (p : Port) (x : PortSt) : (s.setPort p x).fcd = s.fcd := by cases p <;> rfl
@[simp] theorem setPort_start (s : State) (p : Port) (x : PortSt) : (s.setPort p x).start = s.start := by cases p <;> rfl
@[simp] theorem setPort_pwr (s : State) (p : Port) (x : PortSt) : (s.setPort p x).pwr = s.pwr := by cases p <;> rfl
@[simp] theorem setPort_bus (s : State) (p : Port) (x : PortSt) : (s.setPort p x).bus = s.bus := by cases p <;> rfl
@[simp] theorem setPort_out (s : State) (p : Port) (x : PortSt) : (s.setPort p x).out = s.out := by cases p <;> rfl
@[simp] theorem setPort_free (s : State) (p : Port) (x : PortSt) : (s.setPort p x).free = s.free := by cases p <;> rfl
@[simp] theorem setPort_pending (s : State) (p : Port) (x : PortSt) : (s.setPort p x).pending = s.pending := by cases p <;> rfl

/-! ### setKp -/

@[simp] theorem setKp_regs (s : State) (n : Nat) (x : KpSt) : (s.setKp n x).regs = s.regs := rfl
@[simp] theorem setKp_act (s : State) (n : Nat) (x : KpSt) : (s.setKp n x).act = s.act := rfl
@[simp] theorem setKp_time (s : State) (n : Nat) (x : KpSt) : (s.setKp n x).time = s.time := rfl
@[simp] theorem setKp_dom (s : State) (n : Nat) (x : KpSt) : (s.setKp n x).dom = s.dom := rfl
@[simp] theorem setKp_sem (s : State) (n : Nat) (x : KpSt) : (s.setKp n x).sem = s.sem := rfl
@[simp] theorem setKp_portA (s : State) (n : Nat) (x : KpSt) : (s.setKp n x).portA = s.portA := rfl
@[simp] theorem setKp_portB (s : State) (n : Nat) (x : KpSt) : (s.setKp n x).portB = s.portB := rfl
@[simp] theorem setKp_mirror (s : State) (n : Nat) (x : KpSt) : (s.setKp n x).mirror = s.mirror := rfl
@[simp] theorem setKp_load (s : State) (n : Nat) (x : KpSt) : (s.setKp n x).load = s.load := rfl
@[simp] theorem setKp_fuse (s : State) (n : Nat) (x : KpSt) : (s.setKp n x).fuse = s.fuse := rfl
@[simp] theorem setKp_fab (s : State) (n : Nat) (x : KpSt) : (s.setKp n x).fab = s.fab := rfl
@[simp] theorem setKp_cnv (s : State) (n : Nat) (x : KpSt) : (s.setKp n x).cnv = s.cnv := rfl
@[simp] theorem setKp_clocks (s : State) (n : Nat) (x : KpSt) : (s.setKp n x).clocks = s.clocks := rfl
@[simp] theorem setKp_ddc (s : State) (n : Nat) (x : KpSt) : (s.setKp n x).ddc = s.ddc := rfl
@[simp] theorem setKp_xf (s : State) (n : Nat) (x : KpSt) : (s.setKp n x).xf = s.xf := rfl
@[simp] theorem setKp_kal (s : State) (n : Nat) (x : KpSt) : (s.setKp n x).kal = s.kal := rfl
@[simp] theorem setKp_trg (s : State) (n : Nat) (x : KpSt) : (s.setKp n x).trg = s.trg := rfl
@[simp] theorem setKp_regions (s : State) (n : Nat) (x : KpSt) : (s.setKp n x).regions = s.regions := rfl
@[simp] theorem setKp_sdram (s : State) (n : Nat) (x : KpSt) : (s.setKp n x).sdram = s.sdram := rfl
@[simp] theorem setKp_dma (s : State) (n : Nat) (x : KpSt) : (s.setKp n x).dma = s.dma := rfl
@[simp] theorem setKp_strm (s : State) (n : Nat) (x : KpSt) : (s.setKp n x).strm = s.strm := rfl
@[simp] theorem setKp_disp (s : State) (n : Nat) (x : KpSt) : (s.setKp n x).disp = s.disp := rfl
@[simp] theorem setKp_tiu (s : State) (n : Nat) (x : KpSt) : (s.setKp n x).tiu = s.tiu := rfl
@[simp] theorem setKp_cal (s : State) (n : Nat) (x : KpSt) : (s.setKp n x).cal = s.cal := rfl
@[simp] theorem setKp_ens (s : State) (n : Nat) (x : KpSt) : (s.setKp n x).ens = s.ens := rfl
@[simp] theorem setKp_wear (s : State) (n : Nat) (x : KpSt) : (s.setKp n x).wear = s.wear := rfl
@[simp] theorem setKp_avs (s : State) (n : Nat) (x : KpSt) : (s.setKp n x).avs = s.avs := rfl
@[simp] theorem setKp_fcd (s : State) (n : Nat) (x : KpSt) : (s.setKp n x).fcd = s.fcd := rfl
@[simp] theorem setKp_start (s : State) (n : Nat) (x : KpSt) : (s.setKp n x).start = s.start := rfl
@[simp] theorem setKp_pwr (s : State) (n : Nat) (x : KpSt) : (s.setKp n x).pwr = s.pwr := rfl
@[simp] theorem setKp_bus (s : State) (n : Nat) (x : KpSt) : (s.setKp n x).bus = s.bus := rfl
@[simp] theorem setKp_out (s : State) (n : Nat) (x : KpSt) : (s.setKp n x).out = s.out := rfl
@[simp] theorem setKp_free (s : State) (n : Nat) (x : KpSt) : (s.setKp n x).free = s.free := rfl
@[simp] theorem setKp_pending (s : State) (n : Nat) (x : KpSt) : (s.setKp n x).pending = s.pending := rfl

/-! ### setPath -/

@[simp] theorem setPath_regs (s : State) (p : Nat) (x : PathSt) : (s.setPath p x).regs = s.regs := rfl
@[simp] theorem setPath_act (s : State) (p : Nat) (x : PathSt) : (s.setPath p x).act = s.act := rfl
@[simp] theorem setPath_time (s : State) (p : Nat) (x : PathSt) : (s.setPath p x).time = s.time := rfl
@[simp] theorem setPath_dom (s : State) (p : Nat) (x : PathSt) : (s.setPath p x).dom = s.dom := rfl
@[simp] theorem setPath_sem (s : State) (p : Nat) (x : PathSt) : (s.setPath p x).sem = s.sem := rfl
@[simp] theorem setPath_portA (s : State) (p : Nat) (x : PathSt) : (s.setPath p x).portA = s.portA := rfl
@[simp] theorem setPath_portB (s : State) (p : Nat) (x : PathSt) : (s.setPath p x).portB = s.portB := rfl
@[simp] theorem setPath_mirror (s : State) (p : Nat) (x : PathSt) : (s.setPath p x).mirror = s.mirror := rfl
@[simp] theorem setPath_load (s : State) (p : Nat) (x : PathSt) : (s.setPath p x).load = s.load := rfl
@[simp] theorem setPath_fuse (s : State) (p : Nat) (x : PathSt) : (s.setPath p x).fuse = s.fuse := rfl
@[simp] theorem setPath_cnv (s : State) (p : Nat) (x : PathSt) : (s.setPath p x).cnv = s.cnv := rfl
@[simp] theorem setPath_clocks (s : State) (p : Nat) (x : PathSt) : (s.setPath p x).clocks = s.clocks := rfl
@[simp] theorem setPath_ddc (s : State) (p : Nat) (x : PathSt) : (s.setPath p x).ddc = s.ddc := rfl
@[simp] theorem setPath_xf (s : State) (p : Nat) (x : PathSt) : (s.setPath p x).xf = s.xf := rfl
@[simp] theorem setPath_kal (s : State) (p : Nat) (x : PathSt) : (s.setPath p x).kal = s.kal := rfl
@[simp] theorem setPath_trg (s : State) (p : Nat) (x : PathSt) : (s.setPath p x).trg = s.trg := rfl
@[simp] theorem setPath_regions (s : State) (p : Nat) (x : PathSt) : (s.setPath p x).regions = s.regions := rfl
@[simp] theorem setPath_sdram (s : State) (p : Nat) (x : PathSt) : (s.setPath p x).sdram = s.sdram := rfl
@[simp] theorem setPath_kp (s : State) (p : Nat) (x : PathSt) : (s.setPath p x).kp = s.kp := rfl
@[simp] theorem setPath_dma (s : State) (p : Nat) (x : PathSt) : (s.setPath p x).dma = s.dma := rfl
@[simp] theorem setPath_strm (s : State) (p : Nat) (x : PathSt) : (s.setPath p x).strm = s.strm := rfl
@[simp] theorem setPath_disp (s : State) (p : Nat) (x : PathSt) : (s.setPath p x).disp = s.disp := rfl
@[simp] theorem setPath_tiu (s : State) (p : Nat) (x : PathSt) : (s.setPath p x).tiu = s.tiu := rfl
@[simp] theorem setPath_cal (s : State) (p : Nat) (x : PathSt) : (s.setPath p x).cal = s.cal := rfl
@[simp] theorem setPath_ens (s : State) (p : Nat) (x : PathSt) : (s.setPath p x).ens = s.ens := rfl
@[simp] theorem setPath_wear (s : State) (p : Nat) (x : PathSt) : (s.setPath p x).wear = s.wear := rfl
@[simp] theorem setPath_avs (s : State) (p : Nat) (x : PathSt) : (s.setPath p x).avs = s.avs := rfl
@[simp] theorem setPath_fcd (s : State) (p : Nat) (x : PathSt) : (s.setPath p x).fcd = s.fcd := rfl
@[simp] theorem setPath_start (s : State) (p : Nat) (x : PathSt) : (s.setPath p x).start = s.start := rfl
@[simp] theorem setPath_pwr (s : State) (p : Nat) (x : PathSt) : (s.setPath p x).pwr = s.pwr := rfl
@[simp] theorem setPath_bus (s : State) (p : Nat) (x : PathSt) : (s.setPath p x).bus = s.bus := rfl
@[simp] theorem setPath_out (s : State) (p : Nat) (x : PathSt) : (s.setPath p x).out = s.out := rfl
@[simp] theorem setPath_free (s : State) (p : Nat) (x : PathSt) : (s.setPath p x).free = s.free := rfl
@[simp] theorem setPath_pending (s : State) (p : Nat) (x : PathSt) : (s.setPath p x).pending = s.pending := rfl

/-! ### setTile -/

@[simp] theorem setTile_regs (s : State) (t : Nat) (x : TileSt) : (s.setTile t x).regs = s.regs := rfl
@[simp] theorem setTile_act (s : State) (t : Nat) (x : TileSt) : (s.setTile t x).act = s.act := rfl
@[simp] theorem setTile_time (s : State) (t : Nat) (x : TileSt) : (s.setTile t x).time = s.time := rfl
@[simp] theorem setTile_dom (s : State) (t : Nat) (x : TileSt) : (s.setTile t x).dom = s.dom := rfl
@[simp] theorem setTile_sem (s : State) (t : Nat) (x : TileSt) : (s.setTile t x).sem = s.sem := rfl
@[simp] theorem setTile_portA (s : State) (t : Nat) (x : TileSt) : (s.setTile t x).portA = s.portA := rfl
@[simp] theorem setTile_portB (s : State) (t : Nat) (x : TileSt) : (s.setTile t x).portB = s.portB := rfl
@[simp] theorem setTile_mirror (s : State) (t : Nat) (x : TileSt) : (s.setTile t x).mirror = s.mirror := rfl
@[simp] theorem setTile_load (s : State) (t : Nat) (x : TileSt) : (s.setTile t x).load = s.load := rfl
@[simp] theorem setTile_fuse (s : State) (t : Nat) (x : TileSt) : (s.setTile t x).fuse = s.fuse := rfl
@[simp] theorem setTile_cnv (s : State) (t : Nat) (x : TileSt) : (s.setTile t x).cnv = s.cnv := rfl
@[simp] theorem setTile_clocks (s : State) (t : Nat) (x : TileSt) : (s.setTile t x).clocks = s.clocks := rfl
@[simp] theorem setTile_ddc (s : State) (t : Nat) (x : TileSt) : (s.setTile t x).ddc = s.ddc := rfl
@[simp] theorem setTile_xf (s : State) (t : Nat) (x : TileSt) : (s.setTile t x).xf = s.xf := rfl
@[simp] theorem setTile_kal (s : State) (t : Nat) (x : TileSt) : (s.setTile t x).kal = s.kal := rfl
@[simp] theorem setTile_trg (s : State) (t : Nat) (x : TileSt) : (s.setTile t x).trg = s.trg := rfl
@[simp] theorem setTile_regions (s : State) (t : Nat) (x : TileSt) : (s.setTile t x).regions = s.regions := rfl
@[simp] theorem setTile_sdram (s : State) (t : Nat) (x : TileSt) : (s.setTile t x).sdram = s.sdram := rfl
@[simp] theorem setTile_kp (s : State) (t : Nat) (x : TileSt) : (s.setTile t x).kp = s.kp := rfl
@[simp] theorem setTile_dma (s : State) (t : Nat) (x : TileSt) : (s.setTile t x).dma = s.dma := rfl
@[simp] theorem setTile_strm (s : State) (t : Nat) (x : TileSt) : (s.setTile t x).strm = s.strm := rfl
@[simp] theorem setTile_disp (s : State) (t : Nat) (x : TileSt) : (s.setTile t x).disp = s.disp := rfl
@[simp] theorem setTile_tiu (s : State) (t : Nat) (x : TileSt) : (s.setTile t x).tiu = s.tiu := rfl
@[simp] theorem setTile_cal (s : State) (t : Nat) (x : TileSt) : (s.setTile t x).cal = s.cal := rfl
@[simp] theorem setTile_ens (s : State) (t : Nat) (x : TileSt) : (s.setTile t x).ens = s.ens := rfl
@[simp] theorem setTile_wear (s : State) (t : Nat) (x : TileSt) : (s.setTile t x).wear = s.wear := rfl
@[simp] theorem setTile_avs (s : State) (t : Nat) (x : TileSt) : (s.setTile t x).avs = s.avs := rfl
@[simp] theorem setTile_fcd (s : State) (t : Nat) (x : TileSt) : (s.setTile t x).fcd = s.fcd := rfl
@[simp] theorem setTile_start (s : State) (t : Nat) (x : TileSt) : (s.setTile t x).start = s.start := rfl
@[simp] theorem setTile_pwr (s : State) (t : Nat) (x : TileSt) : (s.setTile t x).pwr = s.pwr := rfl
@[simp] theorem setTile_bus (s : State) (t : Nat) (x : TileSt) : (s.setTile t x).bus = s.bus := rfl
@[simp] theorem setTile_out (s : State) (t : Nat) (x : TileSt) : (s.setTile t x).out = s.out := rfl
@[simp] theorem setTile_free (s : State) (t : Nat) (x : TileSt) : (s.setTile t x).free = s.free := rfl
@[simp] theorem setTile_pending (s : State) (t : Nat) (x : TileSt) : (s.setTile t x).pending = s.pending := rfl

/-! ### setConv -/

@[simp] theorem setConv_regs (s : State) (n : Nat) (x : CnvSt) : (s.setConv n x).regs = s.regs := rfl
@[simp] theorem setConv_act (s : State) (n : Nat) (x : CnvSt) : (s.setConv n x).act = s.act := rfl
@[simp] theorem setConv_time (s : State) (n : Nat) (x : CnvSt) : (s.setConv n x).time = s.time := rfl
@[simp] theorem setConv_dom (s : State) (n : Nat) (x : CnvSt) : (s.setConv n x).dom = s.dom := rfl
@[simp] theorem setConv_sem (s : State) (n : Nat) (x : CnvSt) : (s.setConv n x).sem = s.sem := rfl
@[simp] theorem setConv_portA (s : State) (n : Nat) (x : CnvSt) : (s.setConv n x).portA = s.portA := rfl
@[simp] theorem setConv_portB (s : State) (n : Nat) (x : CnvSt) : (s.setConv n x).portB = s.portB := rfl
@[simp] theorem setConv_mirror (s : State) (n : Nat) (x : CnvSt) : (s.setConv n x).mirror = s.mirror := rfl
@[simp] theorem setConv_load (s : State) (n : Nat) (x : CnvSt) : (s.setConv n x).load = s.load := rfl
@[simp] theorem setConv_fuse (s : State) (n : Nat) (x : CnvSt) : (s.setConv n x).fuse = s.fuse := rfl
@[simp] theorem setConv_fab (s : State) (n : Nat) (x : CnvSt) : (s.setConv n x).fab = s.fab := rfl
@[simp] theorem setConv_clocks (s : State) (n : Nat) (x : CnvSt) : (s.setConv n x).clocks = s.clocks := rfl
@[simp] theorem setConv_ddc (s : State) (n : Nat) (x : CnvSt) : (s.setConv n x).ddc = s.ddc := rfl
@[simp] theorem setConv_xf (s : State) (n : Nat) (x : CnvSt) : (s.setConv n x).xf = s.xf := rfl
@[simp] theorem setConv_kal (s : State) (n : Nat) (x : CnvSt) : (s.setConv n x).kal = s.kal := rfl
@[simp] theorem setConv_trg (s : State) (n : Nat) (x : CnvSt) : (s.setConv n x).trg = s.trg := rfl
@[simp] theorem setConv_regions (s : State) (n : Nat) (x : CnvSt) : (s.setConv n x).regions = s.regions := rfl
@[simp] theorem setConv_sdram (s : State) (n : Nat) (x : CnvSt) : (s.setConv n x).sdram = s.sdram := rfl
@[simp] theorem setConv_kp (s : State) (n : Nat) (x : CnvSt) : (s.setConv n x).kp = s.kp := rfl
@[simp] theorem setConv_dma (s : State) (n : Nat) (x : CnvSt) : (s.setConv n x).dma = s.dma := rfl
@[simp] theorem setConv_strm (s : State) (n : Nat) (x : CnvSt) : (s.setConv n x).strm = s.strm := rfl
@[simp] theorem setConv_disp (s : State) (n : Nat) (x : CnvSt) : (s.setConv n x).disp = s.disp := rfl
@[simp] theorem setConv_tiu (s : State) (n : Nat) (x : CnvSt) : (s.setConv n x).tiu = s.tiu := rfl
@[simp] theorem setConv_cal (s : State) (n : Nat) (x : CnvSt) : (s.setConv n x).cal = s.cal := rfl
@[simp] theorem setConv_ens (s : State) (n : Nat) (x : CnvSt) : (s.setConv n x).ens = s.ens := rfl
@[simp] theorem setConv_wear (s : State) (n : Nat) (x : CnvSt) : (s.setConv n x).wear = s.wear := rfl
@[simp] theorem setConv_avs (s : State) (n : Nat) (x : CnvSt) : (s.setConv n x).avs = s.avs := rfl
@[simp] theorem setConv_fcd (s : State) (n : Nat) (x : CnvSt) : (s.setConv n x).fcd = s.fcd := rfl
@[simp] theorem setConv_start (s : State) (n : Nat) (x : CnvSt) : (s.setConv n x).start = s.start := rfl
@[simp] theorem setConv_pwr (s : State) (n : Nat) (x : CnvSt) : (s.setConv n x).pwr = s.pwr := rfl
@[simp] theorem setConv_bus (s : State) (n : Nat) (x : CnvSt) : (s.setConv n x).bus = s.bus := rfl
@[simp] theorem setConv_out (s : State) (n : Nat) (x : CnvSt) : (s.setConv n x).out = s.out := rfl
@[simp] theorem setConv_free (s : State) (n : Nat) (x : CnvSt) : (s.setConv n x).free = s.free := rfl
@[simp] theorem setConv_pending (s : State) (n : Nat) (x : CnvSt) : (s.setConv n x).pending = s.pending := rfl

/-! ### setDdc -/

@[simp] theorem setDdc_regs (s : State) (p : Nat) (x : DdcSt) : (s.setDdc p x).regs = s.regs := rfl
@[simp] theorem setDdc_act (s : State) (p : Nat) (x : DdcSt) : (s.setDdc p x).act = s.act := rfl
@[simp] theorem setDdc_time (s : State) (p : Nat) (x : DdcSt) : (s.setDdc p x).time = s.time := rfl
@[simp] theorem setDdc_dom (s : State) (p : Nat) (x : DdcSt) : (s.setDdc p x).dom = s.dom := rfl
@[simp] theorem setDdc_sem (s : State) (p : Nat) (x : DdcSt) : (s.setDdc p x).sem = s.sem := rfl
@[simp] theorem setDdc_portA (s : State) (p : Nat) (x : DdcSt) : (s.setDdc p x).portA = s.portA := rfl
@[simp] theorem setDdc_portB (s : State) (p : Nat) (x : DdcSt) : (s.setDdc p x).portB = s.portB := rfl
@[simp] theorem setDdc_mirror (s : State) (p : Nat) (x : DdcSt) : (s.setDdc p x).mirror = s.mirror := rfl
@[simp] theorem setDdc_load (s : State) (p : Nat) (x : DdcSt) : (s.setDdc p x).load = s.load := rfl
@[simp] theorem setDdc_fuse (s : State) (p : Nat) (x : DdcSt) : (s.setDdc p x).fuse = s.fuse := rfl
@[simp] theorem setDdc_fab (s : State) (p : Nat) (x : DdcSt) : (s.setDdc p x).fab = s.fab := rfl
@[simp] theorem setDdc_cnv (s : State) (p : Nat) (x : DdcSt) : (s.setDdc p x).cnv = s.cnv := rfl
@[simp] theorem setDdc_clocks (s : State) (p : Nat) (x : DdcSt) : (s.setDdc p x).clocks = s.clocks := rfl
@[simp] theorem setDdc_xf (s : State) (p : Nat) (x : DdcSt) : (s.setDdc p x).xf = s.xf := rfl
@[simp] theorem setDdc_kal (s : State) (p : Nat) (x : DdcSt) : (s.setDdc p x).kal = s.kal := rfl
@[simp] theorem setDdc_trg (s : State) (p : Nat) (x : DdcSt) : (s.setDdc p x).trg = s.trg := rfl
@[simp] theorem setDdc_regions (s : State) (p : Nat) (x : DdcSt) : (s.setDdc p x).regions = s.regions := rfl
@[simp] theorem setDdc_sdram (s : State) (p : Nat) (x : DdcSt) : (s.setDdc p x).sdram = s.sdram := rfl
@[simp] theorem setDdc_kp (s : State) (p : Nat) (x : DdcSt) : (s.setDdc p x).kp = s.kp := rfl
@[simp] theorem setDdc_dma (s : State) (p : Nat) (x : DdcSt) : (s.setDdc p x).dma = s.dma := rfl
@[simp] theorem setDdc_strm (s : State) (p : Nat) (x : DdcSt) : (s.setDdc p x).strm = s.strm := rfl
@[simp] theorem setDdc_disp (s : State) (p : Nat) (x : DdcSt) : (s.setDdc p x).disp = s.disp := rfl
@[simp] theorem setDdc_tiu (s : State) (p : Nat) (x : DdcSt) : (s.setDdc p x).tiu = s.tiu := rfl
@[simp] theorem setDdc_cal (s : State) (p : Nat) (x : DdcSt) : (s.setDdc p x).cal = s.cal := rfl
@[simp] theorem setDdc_ens (s : State) (p : Nat) (x : DdcSt) : (s.setDdc p x).ens = s.ens := rfl
@[simp] theorem setDdc_wear (s : State) (p : Nat) (x : DdcSt) : (s.setDdc p x).wear = s.wear := rfl
@[simp] theorem setDdc_avs (s : State) (p : Nat) (x : DdcSt) : (s.setDdc p x).avs = s.avs := rfl
@[simp] theorem setDdc_fcd (s : State) (p : Nat) (x : DdcSt) : (s.setDdc p x).fcd = s.fcd := rfl
@[simp] theorem setDdc_start (s : State) (p : Nat) (x : DdcSt) : (s.setDdc p x).start = s.start := rfl
@[simp] theorem setDdc_pwr (s : State) (p : Nat) (x : DdcSt) : (s.setDdc p x).pwr = s.pwr := rfl
@[simp] theorem setDdc_bus (s : State) (p : Nat) (x : DdcSt) : (s.setDdc p x).bus = s.bus := rfl
@[simp] theorem setDdc_out (s : State) (p : Nat) (x : DdcSt) : (s.setDdc p x).out = s.out := rfl
@[simp] theorem setDdc_free (s : State) (p : Nat) (x : DdcSt) : (s.setDdc p x).free = s.free := rfl
@[simp] theorem setDdc_pending (s : State) (p : Nat) (x : DdcSt) : (s.setDdc p x).pending = s.pending := rfl

/-! ### setWin -/

@[simp] theorem setWin_regs (s : State) (p w : Nat) (x : WinSt) : (s.setWin p w x).regs = s.regs := rfl
@[simp] theorem setWin_act (s : State) (p w : Nat) (x : WinSt) : (s.setWin p w x).act = s.act := rfl
@[simp] theorem setWin_time (s : State) (p w : Nat) (x : WinSt) : (s.setWin p w x).time = s.time := rfl
@[simp] theorem setWin_dom (s : State) (p w : Nat) (x : WinSt) : (s.setWin p w x).dom = s.dom := rfl
@[simp] theorem setWin_sem (s : State) (p w : Nat) (x : WinSt) : (s.setWin p w x).sem = s.sem := rfl
@[simp] theorem setWin_portA (s : State) (p w : Nat) (x : WinSt) : (s.setWin p w x).portA = s.portA := rfl
@[simp] theorem setWin_portB (s : State) (p w : Nat) (x : WinSt) : (s.setWin p w x).portB = s.portB := rfl
@[simp] theorem setWin_mirror (s : State) (p w : Nat) (x : WinSt) : (s.setWin p w x).mirror = s.mirror := rfl
@[simp] theorem setWin_load (s : State) (p w : Nat) (x : WinSt) : (s.setWin p w x).load = s.load := rfl
@[simp] theorem setWin_fuse (s : State) (p w : Nat) (x : WinSt) : (s.setWin p w x).fuse = s.fuse := rfl
@[simp] theorem setWin_fab (s : State) (p w : Nat) (x : WinSt) : (s.setWin p w x).fab = s.fab := rfl
@[simp] theorem setWin_cnv (s : State) (p w : Nat) (x : WinSt) : (s.setWin p w x).cnv = s.cnv := rfl
@[simp] theorem setWin_clocks (s : State) (p w : Nat) (x : WinSt) : (s.setWin p w x).clocks = s.clocks := rfl
@[simp] theorem setWin_xf (s : State) (p w : Nat) (x : WinSt) : (s.setWin p w x).xf = s.xf := rfl
@[simp] theorem setWin_kal (s : State) (p w : Nat) (x : WinSt) : (s.setWin p w x).kal = s.kal := rfl
@[simp] theorem setWin_trg (s : State) (p w : Nat) (x : WinSt) : (s.setWin p w x).trg = s.trg := rfl
@[simp] theorem setWin_regions (s : State) (p w : Nat) (x : WinSt) : (s.setWin p w x).regions = s.regions := rfl
@[simp] theorem setWin_sdram (s : State) (p w : Nat) (x : WinSt) : (s.setWin p w x).sdram = s.sdram := rfl
@[simp] theorem setWin_kp (s : State) (p w : Nat) (x : WinSt) : (s.setWin p w x).kp = s.kp := rfl
@[simp] theorem setWin_dma (s : State) (p w : Nat) (x : WinSt) : (s.setWin p w x).dma = s.dma := rfl
@[simp] theorem setWin_strm (s : State) (p w : Nat) (x : WinSt) : (s.setWin p w x).strm = s.strm := rfl
@[simp] theorem setWin_disp (s : State) (p w : Nat) (x : WinSt) : (s.setWin p w x).disp = s.disp := rfl
@[simp] theorem setWin_tiu (s : State) (p w : Nat) (x : WinSt) : (s.setWin p w x).tiu = s.tiu := rfl
@[simp] theorem setWin_cal (s : State) (p w : Nat) (x : WinSt) : (s.setWin p w x).cal = s.cal := rfl
@[simp] theorem setWin_ens (s : State) (p w : Nat) (x : WinSt) : (s.setWin p w x).ens = s.ens := rfl
@[simp] theorem setWin_wear (s : State) (p w : Nat) (x : WinSt) : (s.setWin p w x).wear = s.wear := rfl
@[simp] theorem setWin_avs (s : State) (p w : Nat) (x : WinSt) : (s.setWin p w x).avs = s.avs := rfl
@[simp] theorem setWin_fcd (s : State) (p w : Nat) (x : WinSt) : (s.setWin p w x).fcd = s.fcd := rfl
@[simp] theorem setWin_start (s : State) (p w : Nat) (x : WinSt) : (s.setWin p w x).start = s.start := rfl
@[simp] theorem setWin_pwr (s : State) (p w : Nat) (x : WinSt) : (s.setWin p w x).pwr = s.pwr := rfl
@[simp] theorem setWin_bus (s : State) (p w : Nat) (x : WinSt) : (s.setWin p w x).bus = s.bus := rfl
@[simp] theorem setWin_out (s : State) (p w : Nat) (x : WinSt) : (s.setWin p w x).out = s.out := rfl
@[simp] theorem setWin_free (s : State) (p w : Nat) (x : WinSt) : (s.setWin p w x).free = s.free := rfl
@[simp] theorem setWin_pending (s : State) (p w : Nat) (x : WinSt) : (s.setWin p w x).pending = s.pending := rfl

/-! ### setXf -/

@[simp] theorem setXf_regs (s : State) (p : Nat) (x : XfPath) : (s.setXf p x).regs = s.regs := rfl
@[simp] theorem setXf_act (s : State) (p : Nat) (x : XfPath) : (s.setXf p x).act = s.act := rfl
@[simp] theorem setXf_time (s : State) (p : Nat) (x : XfPath) : (s.setXf p x).time = s.time := rfl
@[simp] theorem setXf_dom (s : State) (p : Nat) (x : XfPath) : (s.setXf p x).dom = s.dom := rfl
@[simp] theorem setXf_sem (s : State) (p : Nat) (x : XfPath) : (s.setXf p x).sem = s.sem := rfl
@[simp] theorem setXf_portA (s : State) (p : Nat) (x : XfPath) : (s.setXf p x).portA = s.portA := rfl
@[simp] theorem setXf_portB (s : State) (p : Nat) (x : XfPath) : (s.setXf p x).portB = s.portB := rfl
@[simp] theorem setXf_mirror (s : State) (p : Nat) (x : XfPath) : (s.setXf p x).mirror = s.mirror := rfl
@[simp] theorem setXf_load (s : State) (p : Nat) (x : XfPath) : (s.setXf p x).load = s.load := rfl
@[simp] theorem setXf_fuse (s : State) (p : Nat) (x : XfPath) : (s.setXf p x).fuse = s.fuse := rfl
@[simp] theorem setXf_fab (s : State) (p : Nat) (x : XfPath) : (s.setXf p x).fab = s.fab := rfl
@[simp] theorem setXf_cnv (s : State) (p : Nat) (x : XfPath) : (s.setXf p x).cnv = s.cnv := rfl
@[simp] theorem setXf_clocks (s : State) (p : Nat) (x : XfPath) : (s.setXf p x).clocks = s.clocks := rfl
@[simp] theorem setXf_ddc (s : State) (p : Nat) (x : XfPath) : (s.setXf p x).ddc = s.ddc := rfl
@[simp] theorem setXf_kal (s : State) (p : Nat) (x : XfPath) : (s.setXf p x).kal = s.kal := rfl
@[simp] theorem setXf_trg (s : State) (p : Nat) (x : XfPath) : (s.setXf p x).trg = s.trg := rfl
@[simp] theorem setXf_regions (s : State) (p : Nat) (x : XfPath) : (s.setXf p x).regions = s.regions := rfl
@[simp] theorem setXf_sdram (s : State) (p : Nat) (x : XfPath) : (s.setXf p x).sdram = s.sdram := rfl
@[simp] theorem setXf_kp (s : State) (p : Nat) (x : XfPath) : (s.setXf p x).kp = s.kp := rfl
@[simp] theorem setXf_dma (s : State) (p : Nat) (x : XfPath) : (s.setXf p x).dma = s.dma := rfl
@[simp] theorem setXf_strm (s : State) (p : Nat) (x : XfPath) : (s.setXf p x).strm = s.strm := rfl
@[simp] theorem setXf_disp (s : State) (p : Nat) (x : XfPath) : (s.setXf p x).disp = s.disp := rfl
@[simp] theorem setXf_tiu (s : State) (p : Nat) (x : XfPath) : (s.setXf p x).tiu = s.tiu := rfl
@[simp] theorem setXf_cal (s : State) (p : Nat) (x : XfPath) : (s.setXf p x).cal = s.cal := rfl
@[simp] theorem setXf_ens (s : State) (p : Nat) (x : XfPath) : (s.setXf p x).ens = s.ens := rfl
@[simp] theorem setXf_wear (s : State) (p : Nat) (x : XfPath) : (s.setXf p x).wear = s.wear := rfl
@[simp] theorem setXf_avs (s : State) (p : Nat) (x : XfPath) : (s.setXf p x).avs = s.avs := rfl
@[simp] theorem setXf_fcd (s : State) (p : Nat) (x : XfPath) : (s.setXf p x).fcd = s.fcd := rfl
@[simp] theorem setXf_start (s : State) (p : Nat) (x : XfPath) : (s.setXf p x).start = s.start := rfl
@[simp] theorem setXf_pwr (s : State) (p : Nat) (x : XfPath) : (s.setXf p x).pwr = s.pwr := rfl
@[simp] theorem setXf_bus (s : State) (p : Nat) (x : XfPath) : (s.setXf p x).bus = s.bus := rfl
@[simp] theorem setXf_out (s : State) (p : Nat) (x : XfPath) : (s.setXf p x).out = s.out := rfl
@[simp] theorem setXf_free (s : State) (p : Nat) (x : XfPath) : (s.setXf p x).free = s.free := rfl
@[simp] theorem setXf_pending (s : State) (p : Nat) (x : XfPath) : (s.setXf p x).pending = s.pending := rfl

/-! ### setInst -/

@[simp] theorem setInst_regs (s : State) (p i : Nat) (x : XfSt) : (s.setInst p i x).regs = s.regs := rfl
@[simp] theorem setInst_act (s : State) (p i : Nat) (x : XfSt) : (s.setInst p i x).act = s.act := rfl
@[simp] theorem setInst_time (s : State) (p i : Nat) (x : XfSt) : (s.setInst p i x).time = s.time := rfl
@[simp] theorem setInst_dom (s : State) (p i : Nat) (x : XfSt) : (s.setInst p i x).dom = s.dom := rfl
@[simp] theorem setInst_sem (s : State) (p i : Nat) (x : XfSt) : (s.setInst p i x).sem = s.sem := rfl
@[simp] theorem setInst_portA (s : State) (p i : Nat) (x : XfSt) : (s.setInst p i x).portA = s.portA := rfl
@[simp] theorem setInst_portB (s : State) (p i : Nat) (x : XfSt) : (s.setInst p i x).portB = s.portB := rfl
@[simp] theorem setInst_mirror (s : State) (p i : Nat) (x : XfSt) : (s.setInst p i x).mirror = s.mirror := rfl
@[simp] theorem setInst_load (s : State) (p i : Nat) (x : XfSt) : (s.setInst p i x).load = s.load := rfl
@[simp] theorem setInst_fuse (s : State) (p i : Nat) (x : XfSt) : (s.setInst p i x).fuse = s.fuse := rfl
@[simp] theorem setInst_fab (s : State) (p i : Nat) (x : XfSt) : (s.setInst p i x).fab = s.fab := rfl
@[simp] theorem setInst_cnv (s : State) (p i : Nat) (x : XfSt) : (s.setInst p i x).cnv = s.cnv := rfl
@[simp] theorem setInst_clocks (s : State) (p i : Nat) (x : XfSt) : (s.setInst p i x).clocks = s.clocks := rfl
@[simp] theorem setInst_ddc (s : State) (p i : Nat) (x : XfSt) : (s.setInst p i x).ddc = s.ddc := rfl
@[simp] theorem setInst_kal (s : State) (p i : Nat) (x : XfSt) : (s.setInst p i x).kal = s.kal := rfl
@[simp] theorem setInst_trg (s : State) (p i : Nat) (x : XfSt) : (s.setInst p i x).trg = s.trg := rfl
@[simp] theorem setInst_regions (s : State) (p i : Nat) (x : XfSt) : (s.setInst p i x).regions = s.regions := rfl
@[simp] theorem setInst_sdram (s : State) (p i : Nat) (x : XfSt) : (s.setInst p i x).sdram = s.sdram := rfl
@[simp] theorem setInst_kp (s : State) (p i : Nat) (x : XfSt) : (s.setInst p i x).kp = s.kp := rfl
@[simp] theorem setInst_dma (s : State) (p i : Nat) (x : XfSt) : (s.setInst p i x).dma = s.dma := rfl
@[simp] theorem setInst_strm (s : State) (p i : Nat) (x : XfSt) : (s.setInst p i x).strm = s.strm := rfl
@[simp] theorem setInst_disp (s : State) (p i : Nat) (x : XfSt) : (s.setInst p i x).disp = s.disp := rfl
@[simp] theorem setInst_tiu (s : State) (p i : Nat) (x : XfSt) : (s.setInst p i x).tiu = s.tiu := rfl
@[simp] theorem setInst_cal (s : State) (p i : Nat) (x : XfSt) : (s.setInst p i x).cal = s.cal := rfl
@[simp] theorem setInst_ens (s : State) (p i : Nat) (x : XfSt) : (s.setInst p i x).ens = s.ens := rfl
@[simp] theorem setInst_wear (s : State) (p i : Nat) (x : XfSt) : (s.setInst p i x).wear = s.wear := rfl
@[simp] theorem setInst_avs (s : State) (p i : Nat) (x : XfSt) : (s.setInst p i x).avs = s.avs := rfl
@[simp] theorem setInst_fcd (s : State) (p i : Nat) (x : XfSt) : (s.setInst p i x).fcd = s.fcd := rfl
@[simp] theorem setInst_start (s : State) (p i : Nat) (x : XfSt) : (s.setInst p i x).start = s.start := rfl
@[simp] theorem setInst_pwr (s : State) (p i : Nat) (x : XfSt) : (s.setInst p i x).pwr = s.pwr := rfl
@[simp] theorem setInst_bus (s : State) (p i : Nat) (x : XfSt) : (s.setInst p i x).bus = s.bus := rfl
@[simp] theorem setInst_out (s : State) (p i : Nat) (x : XfSt) : (s.setInst p i x).out = s.out := rfl
@[simp] theorem setInst_free (s : State) (p i : Nat) (x : XfSt) : (s.setInst p i x).free = s.free := rfl
@[simp] theorem setInst_pending (s : State) (p i : Nat) (x : XfSt) : (s.setInst p i x).pending = s.pending := rfl

/-! ### setKal -/

@[simp] theorem setKal_regs (s : State) (k : Nat) (x : KalSt) : (s.setKal k x).regs = s.regs := rfl
@[simp] theorem setKal_act (s : State) (k : Nat) (x : KalSt) : (s.setKal k x).act = s.act := rfl
@[simp] theorem setKal_time (s : State) (k : Nat) (x : KalSt) : (s.setKal k x).time = s.time := rfl
@[simp] theorem setKal_dom (s : State) (k : Nat) (x : KalSt) : (s.setKal k x).dom = s.dom := rfl
@[simp] theorem setKal_sem (s : State) (k : Nat) (x : KalSt) : (s.setKal k x).sem = s.sem := rfl
@[simp] theorem setKal_portA (s : State) (k : Nat) (x : KalSt) : (s.setKal k x).portA = s.portA := rfl
@[simp] theorem setKal_portB (s : State) (k : Nat) (x : KalSt) : (s.setKal k x).portB = s.portB := rfl
@[simp] theorem setKal_mirror (s : State) (k : Nat) (x : KalSt) : (s.setKal k x).mirror = s.mirror := rfl
@[simp] theorem setKal_load (s : State) (k : Nat) (x : KalSt) : (s.setKal k x).load = s.load := rfl
@[simp] theorem setKal_fuse (s : State) (k : Nat) (x : KalSt) : (s.setKal k x).fuse = s.fuse := rfl
@[simp] theorem setKal_fab (s : State) (k : Nat) (x : KalSt) : (s.setKal k x).fab = s.fab := rfl
@[simp] theorem setKal_cnv (s : State) (k : Nat) (x : KalSt) : (s.setKal k x).cnv = s.cnv := rfl
@[simp] theorem setKal_clocks (s : State) (k : Nat) (x : KalSt) : (s.setKal k x).clocks = s.clocks := rfl
@[simp] theorem setKal_ddc (s : State) (k : Nat) (x : KalSt) : (s.setKal k x).ddc = s.ddc := rfl
@[simp] theorem setKal_xf (s : State) (k : Nat) (x : KalSt) : (s.setKal k x).xf = s.xf := rfl
@[simp] theorem setKal_trg (s : State) (k : Nat) (x : KalSt) : (s.setKal k x).trg = s.trg := rfl
@[simp] theorem setKal_regions (s : State) (k : Nat) (x : KalSt) : (s.setKal k x).regions = s.regions := rfl
@[simp] theorem setKal_sdram (s : State) (k : Nat) (x : KalSt) : (s.setKal k x).sdram = s.sdram := rfl
@[simp] theorem setKal_kp (s : State) (k : Nat) (x : KalSt) : (s.setKal k x).kp = s.kp := rfl
@[simp] theorem setKal_dma (s : State) (k : Nat) (x : KalSt) : (s.setKal k x).dma = s.dma := rfl
@[simp] theorem setKal_strm (s : State) (k : Nat) (x : KalSt) : (s.setKal k x).strm = s.strm := rfl
@[simp] theorem setKal_disp (s : State) (k : Nat) (x : KalSt) : (s.setKal k x).disp = s.disp := rfl
@[simp] theorem setKal_tiu (s : State) (k : Nat) (x : KalSt) : (s.setKal k x).tiu = s.tiu := rfl
@[simp] theorem setKal_cal (s : State) (k : Nat) (x : KalSt) : (s.setKal k x).cal = s.cal := rfl
@[simp] theorem setKal_ens (s : State) (k : Nat) (x : KalSt) : (s.setKal k x).ens = s.ens := rfl
@[simp] theorem setKal_wear (s : State) (k : Nat) (x : KalSt) : (s.setKal k x).wear = s.wear := rfl
@[simp] theorem setKal_avs (s : State) (k : Nat) (x : KalSt) : (s.setKal k x).avs = s.avs := rfl
@[simp] theorem setKal_fcd (s : State) (k : Nat) (x : KalSt) : (s.setKal k x).fcd = s.fcd := rfl
@[simp] theorem setKal_start (s : State) (k : Nat) (x : KalSt) : (s.setKal k x).start = s.start := rfl
@[simp] theorem setKal_pwr (s : State) (k : Nat) (x : KalSt) : (s.setKal k x).pwr = s.pwr := rfl
@[simp] theorem setKal_bus (s : State) (k : Nat) (x : KalSt) : (s.setKal k x).bus = s.bus := rfl
@[simp] theorem setKal_out (s : State) (k : Nat) (x : KalSt) : (s.setKal k x).out = s.out := rfl
@[simp] theorem setKal_free (s : State) (k : Nat) (x : KalSt) : (s.setKal k x).free = s.free := rfl
@[simp] theorem setKal_pending (s : State) (k : Nat) (x : KalSt) : (s.setKal k x).pending = s.pending := rfl

/-! ### setMsk -/

@[simp] theorem setMsk_regs (s : State) (m : Nat) (x : MskSt) : (s.setMsk m x).regs = s.regs := rfl
@[simp] theorem setMsk_act (s : State) (m : Nat) (x : MskSt) : (s.setMsk m x).act = s.act := rfl
@[simp] theorem setMsk_time (s : State) (m : Nat) (x : MskSt) : (s.setMsk m x).time = s.time := rfl
@[simp] theorem setMsk_dom (s : State) (m : Nat) (x : MskSt) : (s.setMsk m x).dom = s.dom := rfl
@[simp] theorem setMsk_sem (s : State) (m : Nat) (x : MskSt) : (s.setMsk m x).sem = s.sem := rfl
@[simp] theorem setMsk_portA (s : State) (m : Nat) (x : MskSt) : (s.setMsk m x).portA = s.portA := rfl
@[simp] theorem setMsk_portB (s : State) (m : Nat) (x : MskSt) : (s.setMsk m x).portB = s.portB := rfl
@[simp] theorem setMsk_mirror (s : State) (m : Nat) (x : MskSt) : (s.setMsk m x).mirror = s.mirror := rfl
@[simp] theorem setMsk_load (s : State) (m : Nat) (x : MskSt) : (s.setMsk m x).load = s.load := rfl
@[simp] theorem setMsk_fuse (s : State) (m : Nat) (x : MskSt) : (s.setMsk m x).fuse = s.fuse := rfl
@[simp] theorem setMsk_fab (s : State) (m : Nat) (x : MskSt) : (s.setMsk m x).fab = s.fab := rfl
@[simp] theorem setMsk_cnv (s : State) (m : Nat) (x : MskSt) : (s.setMsk m x).cnv = s.cnv := rfl
@[simp] theorem setMsk_clocks (s : State) (m : Nat) (x : MskSt) : (s.setMsk m x).clocks = s.clocks := rfl
@[simp] theorem setMsk_ddc (s : State) (m : Nat) (x : MskSt) : (s.setMsk m x).ddc = s.ddc := rfl
@[simp] theorem setMsk_xf (s : State) (m : Nat) (x : MskSt) : (s.setMsk m x).xf = s.xf := rfl
@[simp] theorem setMsk_trg (s : State) (m : Nat) (x : MskSt) : (s.setMsk m x).trg = s.trg := rfl
@[simp] theorem setMsk_regions (s : State) (m : Nat) (x : MskSt) : (s.setMsk m x).regions = s.regions := rfl
@[simp] theorem setMsk_sdram (s : State) (m : Nat) (x : MskSt) : (s.setMsk m x).sdram = s.sdram := rfl
@[simp] theorem setMsk_kp (s : State) (m : Nat) (x : MskSt) : (s.setMsk m x).kp = s.kp := rfl
@[simp] theorem setMsk_dma (s : State) (m : Nat) (x : MskSt) : (s.setMsk m x).dma = s.dma := rfl
@[simp] theorem setMsk_strm (s : State) (m : Nat) (x : MskSt) : (s.setMsk m x).strm = s.strm := rfl
@[simp] theorem setMsk_disp (s : State) (m : Nat) (x : MskSt) : (s.setMsk m x).disp = s.disp := rfl
@[simp] theorem setMsk_tiu (s : State) (m : Nat) (x : MskSt) : (s.setMsk m x).tiu = s.tiu := rfl
@[simp] theorem setMsk_cal (s : State) (m : Nat) (x : MskSt) : (s.setMsk m x).cal = s.cal := rfl
@[simp] theorem setMsk_ens (s : State) (m : Nat) (x : MskSt) : (s.setMsk m x).ens = s.ens := rfl
@[simp] theorem setMsk_wear (s : State) (m : Nat) (x : MskSt) : (s.setMsk m x).wear = s.wear := rfl
@[simp] theorem setMsk_avs (s : State) (m : Nat) (x : MskSt) : (s.setMsk m x).avs = s.avs := rfl
@[simp] theorem setMsk_fcd (s : State) (m : Nat) (x : MskSt) : (s.setMsk m x).fcd = s.fcd := rfl
@[simp] theorem setMsk_start (s : State) (m : Nat) (x : MskSt) : (s.setMsk m x).start = s.start := rfl
@[simp] theorem setMsk_pwr (s : State) (m : Nat) (x : MskSt) : (s.setMsk m x).pwr = s.pwr := rfl
@[simp] theorem setMsk_bus (s : State) (m : Nat) (x : MskSt) : (s.setMsk m x).bus = s.bus := rfl
@[simp] theorem setMsk_out (s : State) (m : Nat) (x : MskSt) : (s.setMsk m x).out = s.out := rfl
@[simp] theorem setMsk_free (s : State) (m : Nat) (x : MskSt) : (s.setMsk m x).free = s.free := rfl
@[simp] theorem setMsk_pending (s : State) (m : Nat) (x : MskSt) : (s.setMsk m x).pending = s.pending := rfl

/-! ### setCond -/

@[simp] theorem setCond_regs (s : State) (c : Nat) (x : CondSt) : (s.setCond c x).regs = s.regs := rfl
@[simp] theorem setCond_act (s : State) (c : Nat) (x : CondSt) : (s.setCond c x).act = s.act := rfl
@[simp] theorem setCond_time (s : State) (c : Nat) (x : CondSt) : (s.setCond c x).time = s.time := rfl
@[simp] theorem setCond_dom (s : State) (c : Nat) (x : CondSt) : (s.setCond c x).dom = s.dom := rfl
@[simp] theorem setCond_sem (s : State) (c : Nat) (x : CondSt) : (s.setCond c x).sem = s.sem := rfl
@[simp] theorem setCond_portA (s : State) (c : Nat) (x : CondSt) : (s.setCond c x).portA = s.portA := rfl
@[simp] theorem setCond_portB (s : State) (c : Nat) (x : CondSt) : (s.setCond c x).portB = s.portB := rfl
@[simp] theorem setCond_mirror (s : State) (c : Nat) (x : CondSt) : (s.setCond c x).mirror = s.mirror := rfl
@[simp] theorem setCond_load (s : State) (c : Nat) (x : CondSt) : (s.setCond c x).load = s.load := rfl
@[simp] theorem setCond_fuse (s : State) (c : Nat) (x : CondSt) : (s.setCond c x).fuse = s.fuse := rfl
@[simp] theorem setCond_fab (s : State) (c : Nat) (x : CondSt) : (s.setCond c x).fab = s.fab := rfl
@[simp] theorem setCond_cnv (s : State) (c : Nat) (x : CondSt) : (s.setCond c x).cnv = s.cnv := rfl
@[simp] theorem setCond_clocks (s : State) (c : Nat) (x : CondSt) : (s.setCond c x).clocks = s.clocks := rfl
@[simp] theorem setCond_ddc (s : State) (c : Nat) (x : CondSt) : (s.setCond c x).ddc = s.ddc := rfl
@[simp] theorem setCond_xf (s : State) (c : Nat) (x : CondSt) : (s.setCond c x).xf = s.xf := rfl
@[simp] theorem setCond_kal (s : State) (c : Nat) (x : CondSt) : (s.setCond c x).kal = s.kal := rfl
@[simp] theorem setCond_regions (s : State) (c : Nat) (x : CondSt) : (s.setCond c x).regions = s.regions := rfl
@[simp] theorem setCond_sdram (s : State) (c : Nat) (x : CondSt) : (s.setCond c x).sdram = s.sdram := rfl
@[simp] theorem setCond_kp (s : State) (c : Nat) (x : CondSt) : (s.setCond c x).kp = s.kp := rfl
@[simp] theorem setCond_dma (s : State) (c : Nat) (x : CondSt) : (s.setCond c x).dma = s.dma := rfl
@[simp] theorem setCond_strm (s : State) (c : Nat) (x : CondSt) : (s.setCond c x).strm = s.strm := rfl
@[simp] theorem setCond_disp (s : State) (c : Nat) (x : CondSt) : (s.setCond c x).disp = s.disp := rfl
@[simp] theorem setCond_tiu (s : State) (c : Nat) (x : CondSt) : (s.setCond c x).tiu = s.tiu := rfl
@[simp] theorem setCond_cal (s : State) (c : Nat) (x : CondSt) : (s.setCond c x).cal = s.cal := rfl
@[simp] theorem setCond_ens (s : State) (c : Nat) (x : CondSt) : (s.setCond c x).ens = s.ens := rfl
@[simp] theorem setCond_wear (s : State) (c : Nat) (x : CondSt) : (s.setCond c x).wear = s.wear := rfl
@[simp] theorem setCond_avs (s : State) (c : Nat) (x : CondSt) : (s.setCond c x).avs = s.avs := rfl
@[simp] theorem setCond_fcd (s : State) (c : Nat) (x : CondSt) : (s.setCond c x).fcd = s.fcd := rfl
@[simp] theorem setCond_start (s : State) (c : Nat) (x : CondSt) : (s.setCond c x).start = s.start := rfl
@[simp] theorem setCond_pwr (s : State) (c : Nat) (x : CondSt) : (s.setCond c x).pwr = s.pwr := rfl
@[simp] theorem setCond_bus (s : State) (c : Nat) (x : CondSt) : (s.setCond c x).bus = s.bus := rfl
@[simp] theorem setCond_out (s : State) (c : Nat) (x : CondSt) : (s.setCond c x).out = s.out := rfl
@[simp] theorem setCond_free (s : State) (c : Nat) (x : CondSt) : (s.setCond c x).free = s.free := rfl
@[simp] theorem setCond_pending (s : State) (c : Nat) (x : CondSt) : (s.setCond c x).pending = s.pending := rfl

/-! ### setTrgIn -/

@[simp] theorem setTrgIn_regs (s : State) (i : Nat) (x : TrigIn) : (s.setTrgIn i x).regs = s.regs := rfl
@[simp] theorem setTrgIn_act (s : State) (i : Nat) (x : TrigIn) : (s.setTrgIn i x).act = s.act := rfl
@[simp] theorem setTrgIn_time (s : State) (i : Nat) (x : TrigIn) : (s.setTrgIn i x).time = s.time := rfl
@[simp] theorem setTrgIn_dom (s : State) (i : Nat) (x : TrigIn) : (s.setTrgIn i x).dom = s.dom := rfl
@[simp] theorem setTrgIn_sem (s : State) (i : Nat) (x : TrigIn) : (s.setTrgIn i x).sem = s.sem := rfl
@[simp] theorem setTrgIn_portA (s : State) (i : Nat) (x : TrigIn) : (s.setTrgIn i x).portA = s.portA := rfl
@[simp] theorem setTrgIn_portB (s : State) (i : Nat) (x : TrigIn) : (s.setTrgIn i x).portB = s.portB := rfl
@[simp] theorem setTrgIn_mirror (s : State) (i : Nat) (x : TrigIn) : (s.setTrgIn i x).mirror = s.mirror := rfl
@[simp] theorem setTrgIn_load (s : State) (i : Nat) (x : TrigIn) : (s.setTrgIn i x).load = s.load := rfl
@[simp] theorem setTrgIn_fuse (s : State) (i : Nat) (x : TrigIn) : (s.setTrgIn i x).fuse = s.fuse := rfl
@[simp] theorem setTrgIn_fab (s : State) (i : Nat) (x : TrigIn) : (s.setTrgIn i x).fab = s.fab := rfl
@[simp] theorem setTrgIn_cnv (s : State) (i : Nat) (x : TrigIn) : (s.setTrgIn i x).cnv = s.cnv := rfl
@[simp] theorem setTrgIn_clocks (s : State) (i : Nat) (x : TrigIn) : (s.setTrgIn i x).clocks = s.clocks := rfl
@[simp] theorem setTrgIn_ddc (s : State) (i : Nat) (x : TrigIn) : (s.setTrgIn i x).ddc = s.ddc := rfl
@[simp] theorem setTrgIn_xf (s : State) (i : Nat) (x : TrigIn) : (s.setTrgIn i x).xf = s.xf := rfl
@[simp] theorem setTrgIn_kal (s : State) (i : Nat) (x : TrigIn) : (s.setTrgIn i x).kal = s.kal := rfl
@[simp] theorem setTrgIn_regions (s : State) (i : Nat) (x : TrigIn) : (s.setTrgIn i x).regions = s.regions := rfl
@[simp] theorem setTrgIn_sdram (s : State) (i : Nat) (x : TrigIn) : (s.setTrgIn i x).sdram = s.sdram := rfl
@[simp] theorem setTrgIn_kp (s : State) (i : Nat) (x : TrigIn) : (s.setTrgIn i x).kp = s.kp := rfl
@[simp] theorem setTrgIn_dma (s : State) (i : Nat) (x : TrigIn) : (s.setTrgIn i x).dma = s.dma := rfl
@[simp] theorem setTrgIn_strm (s : State) (i : Nat) (x : TrigIn) : (s.setTrgIn i x).strm = s.strm := rfl
@[simp] theorem setTrgIn_disp (s : State) (i : Nat) (x : TrigIn) : (s.setTrgIn i x).disp = s.disp := rfl
@[simp] theorem setTrgIn_tiu (s : State) (i : Nat) (x : TrigIn) : (s.setTrgIn i x).tiu = s.tiu := rfl
@[simp] theorem setTrgIn_cal (s : State) (i : Nat) (x : TrigIn) : (s.setTrgIn i x).cal = s.cal := rfl
@[simp] theorem setTrgIn_ens (s : State) (i : Nat) (x : TrigIn) : (s.setTrgIn i x).ens = s.ens := rfl
@[simp] theorem setTrgIn_wear (s : State) (i : Nat) (x : TrigIn) : (s.setTrgIn i x).wear = s.wear := rfl
@[simp] theorem setTrgIn_avs (s : State) (i : Nat) (x : TrigIn) : (s.setTrgIn i x).avs = s.avs := rfl
@[simp] theorem setTrgIn_fcd (s : State) (i : Nat) (x : TrigIn) : (s.setTrgIn i x).fcd = s.fcd := rfl
@[simp] theorem setTrgIn_start (s : State) (i : Nat) (x : TrigIn) : (s.setTrgIn i x).start = s.start := rfl
@[simp] theorem setTrgIn_pwr (s : State) (i : Nat) (x : TrigIn) : (s.setTrgIn i x).pwr = s.pwr := rfl
@[simp] theorem setTrgIn_bus (s : State) (i : Nat) (x : TrigIn) : (s.setTrgIn i x).bus = s.bus := rfl
@[simp] theorem setTrgIn_out (s : State) (i : Nat) (x : TrigIn) : (s.setTrgIn i x).out = s.out := rfl
@[simp] theorem setTrgIn_free (s : State) (i : Nat) (x : TrigIn) : (s.setTrgIn i x).free = s.free := rfl
@[simp] theorem setTrgIn_pending (s : State) (i : Nat) (x : TrigIn) : (s.setTrgIn i x).pending = s.pending := rfl

/-! ### setTrgOut -/

@[simp] theorem setTrgOut_regs (s : State) (o : Nat) (x : TrigOut) : (s.setTrgOut o x).regs = s.regs := rfl
@[simp] theorem setTrgOut_act (s : State) (o : Nat) (x : TrigOut) : (s.setTrgOut o x).act = s.act := rfl
@[simp] theorem setTrgOut_time (s : State) (o : Nat) (x : TrigOut) : (s.setTrgOut o x).time = s.time := rfl
@[simp] theorem setTrgOut_dom (s : State) (o : Nat) (x : TrigOut) : (s.setTrgOut o x).dom = s.dom := rfl
@[simp] theorem setTrgOut_sem (s : State) (o : Nat) (x : TrigOut) : (s.setTrgOut o x).sem = s.sem := rfl
@[simp] theorem setTrgOut_portA (s : State) (o : Nat) (x : TrigOut) : (s.setTrgOut o x).portA = s.portA := rfl
@[simp] theorem setTrgOut_portB (s : State) (o : Nat) (x : TrigOut) : (s.setTrgOut o x).portB = s.portB := rfl
@[simp] theorem setTrgOut_mirror (s : State) (o : Nat) (x : TrigOut) : (s.setTrgOut o x).mirror = s.mirror := rfl
@[simp] theorem setTrgOut_load (s : State) (o : Nat) (x : TrigOut) : (s.setTrgOut o x).load = s.load := rfl
@[simp] theorem setTrgOut_fuse (s : State) (o : Nat) (x : TrigOut) : (s.setTrgOut o x).fuse = s.fuse := rfl
@[simp] theorem setTrgOut_fab (s : State) (o : Nat) (x : TrigOut) : (s.setTrgOut o x).fab = s.fab := rfl
@[simp] theorem setTrgOut_cnv (s : State) (o : Nat) (x : TrigOut) : (s.setTrgOut o x).cnv = s.cnv := rfl
@[simp] theorem setTrgOut_clocks (s : State) (o : Nat) (x : TrigOut) : (s.setTrgOut o x).clocks = s.clocks := rfl
@[simp] theorem setTrgOut_ddc (s : State) (o : Nat) (x : TrigOut) : (s.setTrgOut o x).ddc = s.ddc := rfl
@[simp] theorem setTrgOut_xf (s : State) (o : Nat) (x : TrigOut) : (s.setTrgOut o x).xf = s.xf := rfl
@[simp] theorem setTrgOut_kal (s : State) (o : Nat) (x : TrigOut) : (s.setTrgOut o x).kal = s.kal := rfl
@[simp] theorem setTrgOut_regions (s : State) (o : Nat) (x : TrigOut) : (s.setTrgOut o x).regions = s.regions := rfl
@[simp] theorem setTrgOut_sdram (s : State) (o : Nat) (x : TrigOut) : (s.setTrgOut o x).sdram = s.sdram := rfl
@[simp] theorem setTrgOut_kp (s : State) (o : Nat) (x : TrigOut) : (s.setTrgOut o x).kp = s.kp := rfl
@[simp] theorem setTrgOut_dma (s : State) (o : Nat) (x : TrigOut) : (s.setTrgOut o x).dma = s.dma := rfl
@[simp] theorem setTrgOut_strm (s : State) (o : Nat) (x : TrigOut) : (s.setTrgOut o x).strm = s.strm := rfl
@[simp] theorem setTrgOut_disp (s : State) (o : Nat) (x : TrigOut) : (s.setTrgOut o x).disp = s.disp := rfl
@[simp] theorem setTrgOut_tiu (s : State) (o : Nat) (x : TrigOut) : (s.setTrgOut o x).tiu = s.tiu := rfl
@[simp] theorem setTrgOut_cal (s : State) (o : Nat) (x : TrigOut) : (s.setTrgOut o x).cal = s.cal := rfl
@[simp] theorem setTrgOut_ens (s : State) (o : Nat) (x : TrigOut) : (s.setTrgOut o x).ens = s.ens := rfl
@[simp] theorem setTrgOut_wear (s : State) (o : Nat) (x : TrigOut) : (s.setTrgOut o x).wear = s.wear := rfl
@[simp] theorem setTrgOut_avs (s : State) (o : Nat) (x : TrigOut) : (s.setTrgOut o x).avs = s.avs := rfl
@[simp] theorem setTrgOut_fcd (s : State) (o : Nat) (x : TrigOut) : (s.setTrgOut o x).fcd = s.fcd := rfl
@[simp] theorem setTrgOut_start (s : State) (o : Nat) (x : TrigOut) : (s.setTrgOut o x).start = s.start := rfl
@[simp] theorem setTrgOut_pwr (s : State) (o : Nat) (x : TrigOut) : (s.setTrgOut o x).pwr = s.pwr := rfl
@[simp] theorem setTrgOut_bus (s : State) (o : Nat) (x : TrigOut) : (s.setTrgOut o x).bus = s.bus := rfl
@[simp] theorem setTrgOut_out (s : State) (o : Nat) (x : TrigOut) : (s.setTrgOut o x).out = s.out := rfl
@[simp] theorem setTrgOut_free (s : State) (o : Nat) (x : TrigOut) : (s.setTrgOut o x).free = s.free := rfl
@[simp] theorem setTrgOut_pending (s : State) (o : Nat) (x : TrigOut) : (s.setTrgOut o x).pending = s.pending := rfl

/-! ### setAvg -/

@[simp] theorem setAvg_regs (s : State) (p : Nat) (x : AvgSt) : (s.setAvg p x).regs = s.regs := rfl
@[simp] theorem setAvg_act (s : State) (p : Nat) (x : AvgSt) : (s.setAvg p x).act = s.act := rfl
@[simp] theorem setAvg_time (s : State) (p : Nat) (x : AvgSt) : (s.setAvg p x).time = s.time := rfl
@[simp] theorem setAvg_dom (s : State) (p : Nat) (x : AvgSt) : (s.setAvg p x).dom = s.dom := rfl
@[simp] theorem setAvg_sem (s : State) (p : Nat) (x : AvgSt) : (s.setAvg p x).sem = s.sem := rfl
@[simp] theorem setAvg_portA (s : State) (p : Nat) (x : AvgSt) : (s.setAvg p x).portA = s.portA := rfl
@[simp] theorem setAvg_portB (s : State) (p : Nat) (x : AvgSt) : (s.setAvg p x).portB = s.portB := rfl
@[simp] theorem setAvg_mirror (s : State) (p : Nat) (x : AvgSt) : (s.setAvg p x).mirror = s.mirror := rfl
@[simp] theorem setAvg_load (s : State) (p : Nat) (x : AvgSt) : (s.setAvg p x).load = s.load := rfl
@[simp] theorem setAvg_fuse (s : State) (p : Nat) (x : AvgSt) : (s.setAvg p x).fuse = s.fuse := rfl
@[simp] theorem setAvg_fab (s : State) (p : Nat) (x : AvgSt) : (s.setAvg p x).fab = s.fab := rfl
@[simp] theorem setAvg_cnv (s : State) (p : Nat) (x : AvgSt) : (s.setAvg p x).cnv = s.cnv := rfl
@[simp] theorem setAvg_clocks (s : State) (p : Nat) (x : AvgSt) : (s.setAvg p x).clocks = s.clocks := rfl
@[simp] theorem setAvg_ddc (s : State) (p : Nat) (x : AvgSt) : (s.setAvg p x).ddc = s.ddc := rfl
@[simp] theorem setAvg_xf (s : State) (p : Nat) (x : AvgSt) : (s.setAvg p x).xf = s.xf := rfl
@[simp] theorem setAvg_kal (s : State) (p : Nat) (x : AvgSt) : (s.setAvg p x).kal = s.kal := rfl
@[simp] theorem setAvg_regions (s : State) (p : Nat) (x : AvgSt) : (s.setAvg p x).regions = s.regions := rfl
@[simp] theorem setAvg_sdram (s : State) (p : Nat) (x : AvgSt) : (s.setAvg p x).sdram = s.sdram := rfl
@[simp] theorem setAvg_kp (s : State) (p : Nat) (x : AvgSt) : (s.setAvg p x).kp = s.kp := rfl
@[simp] theorem setAvg_dma (s : State) (p : Nat) (x : AvgSt) : (s.setAvg p x).dma = s.dma := rfl
@[simp] theorem setAvg_strm (s : State) (p : Nat) (x : AvgSt) : (s.setAvg p x).strm = s.strm := rfl
@[simp] theorem setAvg_disp (s : State) (p : Nat) (x : AvgSt) : (s.setAvg p x).disp = s.disp := rfl
@[simp] theorem setAvg_tiu (s : State) (p : Nat) (x : AvgSt) : (s.setAvg p x).tiu = s.tiu := rfl
@[simp] theorem setAvg_cal (s : State) (p : Nat) (x : AvgSt) : (s.setAvg p x).cal = s.cal := rfl
@[simp] theorem setAvg_ens (s : State) (p : Nat) (x : AvgSt) : (s.setAvg p x).ens = s.ens := rfl
@[simp] theorem setAvg_wear (s : State) (p : Nat) (x : AvgSt) : (s.setAvg p x).wear = s.wear := rfl
@[simp] theorem setAvg_avs (s : State) (p : Nat) (x : AvgSt) : (s.setAvg p x).avs = s.avs := rfl
@[simp] theorem setAvg_fcd (s : State) (p : Nat) (x : AvgSt) : (s.setAvg p x).fcd = s.fcd := rfl
@[simp] theorem setAvg_start (s : State) (p : Nat) (x : AvgSt) : (s.setAvg p x).start = s.start := rfl
@[simp] theorem setAvg_pwr (s : State) (p : Nat) (x : AvgSt) : (s.setAvg p x).pwr = s.pwr := rfl
@[simp] theorem setAvg_bus (s : State) (p : Nat) (x : AvgSt) : (s.setAvg p x).bus = s.bus := rfl
@[simp] theorem setAvg_out (s : State) (p : Nat) (x : AvgSt) : (s.setAvg p x).out = s.out := rfl
@[simp] theorem setAvg_free (s : State) (p : Nat) (x : AvgSt) : (s.setAvg p x).free = s.free := rfl
@[simp] theorem setAvg_pending (s : State) (p : Nat) (x : AvgSt) : (s.setAvg p x).pending = s.pending := rfl

/-! ### setRegion -/

@[simp] theorem setRegion_regs (s : State) (r : Nat) (x : RegionSt) : (s.setRegion r x).regs = s.regs := rfl
@[simp] theorem setRegion_act (s : State) (r : Nat) (x : RegionSt) : (s.setRegion r x).act = s.act := rfl
@[simp] theorem setRegion_time (s : State) (r : Nat) (x : RegionSt) : (s.setRegion r x).time = s.time := rfl
@[simp] theorem setRegion_dom (s : State) (r : Nat) (x : RegionSt) : (s.setRegion r x).dom = s.dom := rfl
@[simp] theorem setRegion_sem (s : State) (r : Nat) (x : RegionSt) : (s.setRegion r x).sem = s.sem := rfl
@[simp] theorem setRegion_portA (s : State) (r : Nat) (x : RegionSt) : (s.setRegion r x).portA = s.portA := rfl
@[simp] theorem setRegion_portB (s : State) (r : Nat) (x : RegionSt) : (s.setRegion r x).portB = s.portB := rfl
@[simp] theorem setRegion_mirror (s : State) (r : Nat) (x : RegionSt) : (s.setRegion r x).mirror = s.mirror := rfl
@[simp] theorem setRegion_load (s : State) (r : Nat) (x : RegionSt) : (s.setRegion r x).load = s.load := rfl
@[simp] theorem setRegion_fuse (s : State) (r : Nat) (x : RegionSt) : (s.setRegion r x).fuse = s.fuse := rfl
@[simp] theorem setRegion_fab (s : State) (r : Nat) (x : RegionSt) : (s.setRegion r x).fab = s.fab := rfl
@[simp] theorem setRegion_cnv (s : State) (r : Nat) (x : RegionSt) : (s.setRegion r x).cnv = s.cnv := rfl
@[simp] theorem setRegion_clocks (s : State) (r : Nat) (x : RegionSt) : (s.setRegion r x).clocks = s.clocks := rfl
@[simp] theorem setRegion_ddc (s : State) (r : Nat) (x : RegionSt) : (s.setRegion r x).ddc = s.ddc := rfl
@[simp] theorem setRegion_xf (s : State) (r : Nat) (x : RegionSt) : (s.setRegion r x).xf = s.xf := rfl
@[simp] theorem setRegion_kal (s : State) (r : Nat) (x : RegionSt) : (s.setRegion r x).kal = s.kal := rfl
@[simp] theorem setRegion_trg (s : State) (r : Nat) (x : RegionSt) : (s.setRegion r x).trg = s.trg := rfl
@[simp] theorem setRegion_sdram (s : State) (r : Nat) (x : RegionSt) : (s.setRegion r x).sdram = s.sdram := rfl
@[simp] theorem setRegion_kp (s : State) (r : Nat) (x : RegionSt) : (s.setRegion r x).kp = s.kp := rfl
@[simp] theorem setRegion_dma (s : State) (r : Nat) (x : RegionSt) : (s.setRegion r x).dma = s.dma := rfl
@[simp] theorem setRegion_strm (s : State) (r : Nat) (x : RegionSt) : (s.setRegion r x).strm = s.strm := rfl
@[simp] theorem setRegion_disp (s : State) (r : Nat) (x : RegionSt) : (s.setRegion r x).disp = s.disp := rfl
@[simp] theorem setRegion_tiu (s : State) (r : Nat) (x : RegionSt) : (s.setRegion r x).tiu = s.tiu := rfl
@[simp] theorem setRegion_cal (s : State) (r : Nat) (x : RegionSt) : (s.setRegion r x).cal = s.cal := rfl
@[simp] theorem setRegion_ens (s : State) (r : Nat) (x : RegionSt) : (s.setRegion r x).ens = s.ens := rfl
@[simp] theorem setRegion_wear (s : State) (r : Nat) (x : RegionSt) : (s.setRegion r x).wear = s.wear := rfl
@[simp] theorem setRegion_avs (s : State) (r : Nat) (x : RegionSt) : (s.setRegion r x).avs = s.avs := rfl
@[simp] theorem setRegion_fcd (s : State) (r : Nat) (x : RegionSt) : (s.setRegion r x).fcd = s.fcd := rfl
@[simp] theorem setRegion_start (s : State) (r : Nat) (x : RegionSt) : (s.setRegion r x).start = s.start := rfl
@[simp] theorem setRegion_pwr (s : State) (r : Nat) (x : RegionSt) : (s.setRegion r x).pwr = s.pwr := rfl
@[simp] theorem setRegion_bus (s : State) (r : Nat) (x : RegionSt) : (s.setRegion r x).bus = s.bus := rfl
@[simp] theorem setRegion_out (s : State) (r : Nat) (x : RegionSt) : (s.setRegion r x).out = s.out := rfl
@[simp] theorem setRegion_free (s : State) (r : Nat) (x : RegionSt) : (s.setRegion r x).free = s.free := rfl
@[simp] theorem setRegion_pending (s : State) (r : Nat) (x : RegionSt) : (s.setRegion r x).pending = s.pending := rfl

/-! ### setChan -/

@[simp] theorem setChan_regs (s : State) (n : Nat) (x : DmaSt) : (s.setChan n x).regs = s.regs := rfl
@[simp] theorem setChan_act (s : State) (n : Nat) (x : DmaSt) : (s.setChan n x).act = s.act := rfl
@[simp] theorem setChan_time (s : State) (n : Nat) (x : DmaSt) : (s.setChan n x).time = s.time := rfl
@[simp] theorem setChan_dom (s : State) (n : Nat) (x : DmaSt) : (s.setChan n x).dom = s.dom := rfl
@[simp] theorem setChan_sem (s : State) (n : Nat) (x : DmaSt) : (s.setChan n x).sem = s.sem := rfl
@[simp] theorem setChan_portA (s : State) (n : Nat) (x : DmaSt) : (s.setChan n x).portA = s.portA := rfl
@[simp] theorem setChan_portB (s : State) (n : Nat) (x : DmaSt) : (s.setChan n x).portB = s.portB := rfl
@[simp] theorem setChan_mirror (s : State) (n : Nat) (x : DmaSt) : (s.setChan n x).mirror = s.mirror := rfl
@[simp] theorem setChan_load (s : State) (n : Nat) (x : DmaSt) : (s.setChan n x).load = s.load := rfl
@[simp] theorem setChan_fuse (s : State) (n : Nat) (x : DmaSt) : (s.setChan n x).fuse = s.fuse := rfl
@[simp] theorem setChan_fab (s : State) (n : Nat) (x : DmaSt) : (s.setChan n x).fab = s.fab := rfl
@[simp] theorem setChan_cnv (s : State) (n : Nat) (x : DmaSt) : (s.setChan n x).cnv = s.cnv := rfl
@[simp] theorem setChan_clocks (s : State) (n : Nat) (x : DmaSt) : (s.setChan n x).clocks = s.clocks := rfl
@[simp] theorem setChan_ddc (s : State) (n : Nat) (x : DmaSt) : (s.setChan n x).ddc = s.ddc := rfl
@[simp] theorem setChan_xf (s : State) (n : Nat) (x : DmaSt) : (s.setChan n x).xf = s.xf := rfl
@[simp] theorem setChan_kal (s : State) (n : Nat) (x : DmaSt) : (s.setChan n x).kal = s.kal := rfl
@[simp] theorem setChan_trg (s : State) (n : Nat) (x : DmaSt) : (s.setChan n x).trg = s.trg := rfl
@[simp] theorem setChan_regions (s : State) (n : Nat) (x : DmaSt) : (s.setChan n x).regions = s.regions := rfl
@[simp] theorem setChan_sdram (s : State) (n : Nat) (x : DmaSt) : (s.setChan n x).sdram = s.sdram := rfl
@[simp] theorem setChan_kp (s : State) (n : Nat) (x : DmaSt) : (s.setChan n x).kp = s.kp := rfl
@[simp] theorem setChan_strm (s : State) (n : Nat) (x : DmaSt) : (s.setChan n x).strm = s.strm := rfl
@[simp] theorem setChan_disp (s : State) (n : Nat) (x : DmaSt) : (s.setChan n x).disp = s.disp := rfl
@[simp] theorem setChan_tiu (s : State) (n : Nat) (x : DmaSt) : (s.setChan n x).tiu = s.tiu := rfl
@[simp] theorem setChan_cal (s : State) (n : Nat) (x : DmaSt) : (s.setChan n x).cal = s.cal := rfl
@[simp] theorem setChan_ens (s : State) (n : Nat) (x : DmaSt) : (s.setChan n x).ens = s.ens := rfl
@[simp] theorem setChan_wear (s : State) (n : Nat) (x : DmaSt) : (s.setChan n x).wear = s.wear := rfl
@[simp] theorem setChan_avs (s : State) (n : Nat) (x : DmaSt) : (s.setChan n x).avs = s.avs := rfl
@[simp] theorem setChan_fcd (s : State) (n : Nat) (x : DmaSt) : (s.setChan n x).fcd = s.fcd := rfl
@[simp] theorem setChan_start (s : State) (n : Nat) (x : DmaSt) : (s.setChan n x).start = s.start := rfl
@[simp] theorem setChan_pwr (s : State) (n : Nat) (x : DmaSt) : (s.setChan n x).pwr = s.pwr := rfl
@[simp] theorem setChan_bus (s : State) (n : Nat) (x : DmaSt) : (s.setChan n x).bus = s.bus := rfl
@[simp] theorem setChan_out (s : State) (n : Nat) (x : DmaSt) : (s.setChan n x).out = s.out := rfl
@[simp] theorem setChan_free (s : State) (n : Nat) (x : DmaSt) : (s.setChan n x).free = s.free := rfl
@[simp] theorem setChan_pending (s : State) (n : Nat) (x : DmaSt) : (s.setChan n x).pending = s.pending := rfl

/-! ### setFlow -/

@[simp] theorem setFlow_regs (s : State) (sp fl : Nat) (x : FlowSt) : (s.setFlow sp fl x).regs = s.regs := rfl
@[simp] theorem setFlow_act (s : State) (sp fl : Nat) (x : FlowSt) : (s.setFlow sp fl x).act = s.act := rfl
@[simp] theorem setFlow_time (s : State) (sp fl : Nat) (x : FlowSt) : (s.setFlow sp fl x).time = s.time := rfl
@[simp] theorem setFlow_dom (s : State) (sp fl : Nat) (x : FlowSt) : (s.setFlow sp fl x).dom = s.dom := rfl
@[simp] theorem setFlow_sem (s : State) (sp fl : Nat) (x : FlowSt) : (s.setFlow sp fl x).sem = s.sem := rfl
@[simp] theorem setFlow_portA (s : State) (sp fl : Nat) (x : FlowSt) : (s.setFlow sp fl x).portA = s.portA := rfl
@[simp] theorem setFlow_portB (s : State) (sp fl : Nat) (x : FlowSt) : (s.setFlow sp fl x).portB = s.portB := rfl
@[simp] theorem setFlow_mirror (s : State) (sp fl : Nat) (x : FlowSt) : (s.setFlow sp fl x).mirror = s.mirror := rfl
@[simp] theorem setFlow_load (s : State) (sp fl : Nat) (x : FlowSt) : (s.setFlow sp fl x).load = s.load := rfl
@[simp] theorem setFlow_fuse (s : State) (sp fl : Nat) (x : FlowSt) : (s.setFlow sp fl x).fuse = s.fuse := rfl
@[simp] theorem setFlow_fab (s : State) (sp fl : Nat) (x : FlowSt) : (s.setFlow sp fl x).fab = s.fab := rfl
@[simp] theorem setFlow_cnv (s : State) (sp fl : Nat) (x : FlowSt) : (s.setFlow sp fl x).cnv = s.cnv := rfl
@[simp] theorem setFlow_clocks (s : State) (sp fl : Nat) (x : FlowSt) : (s.setFlow sp fl x).clocks = s.clocks := rfl
@[simp] theorem setFlow_ddc (s : State) (sp fl : Nat) (x : FlowSt) : (s.setFlow sp fl x).ddc = s.ddc := rfl
@[simp] theorem setFlow_xf (s : State) (sp fl : Nat) (x : FlowSt) : (s.setFlow sp fl x).xf = s.xf := rfl
@[simp] theorem setFlow_kal (s : State) (sp fl : Nat) (x : FlowSt) : (s.setFlow sp fl x).kal = s.kal := rfl
@[simp] theorem setFlow_trg (s : State) (sp fl : Nat) (x : FlowSt) : (s.setFlow sp fl x).trg = s.trg := rfl
@[simp] theorem setFlow_regions (s : State) (sp fl : Nat) (x : FlowSt) : (s.setFlow sp fl x).regions = s.regions := rfl
@[simp] theorem setFlow_sdram (s : State) (sp fl : Nat) (x : FlowSt) : (s.setFlow sp fl x).sdram = s.sdram := rfl
@[simp] theorem setFlow_kp (s : State) (sp fl : Nat) (x : FlowSt) : (s.setFlow sp fl x).kp = s.kp := rfl
@[simp] theorem setFlow_dma (s : State) (sp fl : Nat) (x : FlowSt) : (s.setFlow sp fl x).dma = s.dma := rfl
@[simp] theorem setFlow_disp (s : State) (sp fl : Nat) (x : FlowSt) : (s.setFlow sp fl x).disp = s.disp := rfl
@[simp] theorem setFlow_tiu (s : State) (sp fl : Nat) (x : FlowSt) : (s.setFlow sp fl x).tiu = s.tiu := rfl
@[simp] theorem setFlow_cal (s : State) (sp fl : Nat) (x : FlowSt) : (s.setFlow sp fl x).cal = s.cal := rfl
@[simp] theorem setFlow_ens (s : State) (sp fl : Nat) (x : FlowSt) : (s.setFlow sp fl x).ens = s.ens := rfl
@[simp] theorem setFlow_wear (s : State) (sp fl : Nat) (x : FlowSt) : (s.setFlow sp fl x).wear = s.wear := rfl
@[simp] theorem setFlow_avs (s : State) (sp fl : Nat) (x : FlowSt) : (s.setFlow sp fl x).avs = s.avs := rfl
@[simp] theorem setFlow_fcd (s : State) (sp fl : Nat) (x : FlowSt) : (s.setFlow sp fl x).fcd = s.fcd := rfl
@[simp] theorem setFlow_start (s : State) (sp fl : Nat) (x : FlowSt) : (s.setFlow sp fl x).start = s.start := rfl
@[simp] theorem setFlow_pwr (s : State) (sp fl : Nat) (x : FlowSt) : (s.setFlow sp fl x).pwr = s.pwr := rfl
@[simp] theorem setFlow_bus (s : State) (sp fl : Nat) (x : FlowSt) : (s.setFlow sp fl x).bus = s.bus := rfl
@[simp] theorem setFlow_out (s : State) (sp fl : Nat) (x : FlowSt) : (s.setFlow sp fl x).out = s.out := rfl
@[simp] theorem setFlow_free (s : State) (sp fl : Nat) (x : FlowSt) : (s.setFlow sp fl x).free = s.free := rfl
@[simp] theorem setFlow_pending (s : State) (sp fl : Nat) (x : FlowSt) : (s.setFlow sp fl x).pending = s.pending := rfl

/-! ### setEv -/

@[simp] theorem setEv_regs (s : State) (j : Nat) (x : EvSt) : (s.setEv j x).regs = s.regs := rfl
@[simp] theorem setEv_act (s : State) (j : Nat) (x : EvSt) : (s.setEv j x).act = s.act := rfl
@[simp] theorem setEv_time (s : State) (j : Nat) (x : EvSt) : (s.setEv j x).time = s.time := rfl
@[simp] theorem setEv_dom (s : State) (j : Nat) (x : EvSt) : (s.setEv j x).dom = s.dom := rfl
@[simp] theorem setEv_sem (s : State) (j : Nat) (x : EvSt) : (s.setEv j x).sem = s.sem := rfl
@[simp] theorem setEv_portA (s : State) (j : Nat) (x : EvSt) : (s.setEv j x).portA = s.portA := rfl
@[simp] theorem setEv_portB (s : State) (j : Nat) (x : EvSt) : (s.setEv j x).portB = s.portB := rfl
@[simp] theorem setEv_mirror (s : State) (j : Nat) (x : EvSt) : (s.setEv j x).mirror = s.mirror := rfl
@[simp] theorem setEv_load (s : State) (j : Nat) (x : EvSt) : (s.setEv j x).load = s.load := rfl
@[simp] theorem setEv_fuse (s : State) (j : Nat) (x : EvSt) : (s.setEv j x).fuse = s.fuse := rfl
@[simp] theorem setEv_fab (s : State) (j : Nat) (x : EvSt) : (s.setEv j x).fab = s.fab := rfl
@[simp] theorem setEv_cnv (s : State) (j : Nat) (x : EvSt) : (s.setEv j x).cnv = s.cnv := rfl
@[simp] theorem setEv_clocks (s : State) (j : Nat) (x : EvSt) : (s.setEv j x).clocks = s.clocks := rfl
@[simp] theorem setEv_ddc (s : State) (j : Nat) (x : EvSt) : (s.setEv j x).ddc = s.ddc := rfl
@[simp] theorem setEv_xf (s : State) (j : Nat) (x : EvSt) : (s.setEv j x).xf = s.xf := rfl
@[simp] theorem setEv_kal (s : State) (j : Nat) (x : EvSt) : (s.setEv j x).kal = s.kal := rfl
@[simp] theorem setEv_trg (s : State) (j : Nat) (x : EvSt) : (s.setEv j x).trg = s.trg := rfl
@[simp] theorem setEv_regions (s : State) (j : Nat) (x : EvSt) : (s.setEv j x).regions = s.regions := rfl
@[simp] theorem setEv_sdram (s : State) (j : Nat) (x : EvSt) : (s.setEv j x).sdram = s.sdram := rfl
@[simp] theorem setEv_kp (s : State) (j : Nat) (x : EvSt) : (s.setEv j x).kp = s.kp := rfl
@[simp] theorem setEv_dma (s : State) (j : Nat) (x : EvSt) : (s.setEv j x).dma = s.dma := rfl
@[simp] theorem setEv_strm (s : State) (j : Nat) (x : EvSt) : (s.setEv j x).strm = s.strm := rfl
@[simp] theorem setEv_disp (s : State) (j : Nat) (x : EvSt) : (s.setEv j x).disp = s.disp := rfl
@[simp] theorem setEv_cal (s : State) (j : Nat) (x : EvSt) : (s.setEv j x).cal = s.cal := rfl
@[simp] theorem setEv_ens (s : State) (j : Nat) (x : EvSt) : (s.setEv j x).ens = s.ens := rfl
@[simp] theorem setEv_wear (s : State) (j : Nat) (x : EvSt) : (s.setEv j x).wear = s.wear := rfl
@[simp] theorem setEv_avs (s : State) (j : Nat) (x : EvSt) : (s.setEv j x).avs = s.avs := rfl
@[simp] theorem setEv_fcd (s : State) (j : Nat) (x : EvSt) : (s.setEv j x).fcd = s.fcd := rfl
@[simp] theorem setEv_start (s : State) (j : Nat) (x : EvSt) : (s.setEv j x).start = s.start := rfl
@[simp] theorem setEv_pwr (s : State) (j : Nat) (x : EvSt) : (s.setEv j x).pwr = s.pwr := rfl
@[simp] theorem setEv_bus (s : State) (j : Nat) (x : EvSt) : (s.setEv j x).bus = s.bus := rfl
@[simp] theorem setEv_out (s : State) (j : Nat) (x : EvSt) : (s.setEv j x).out = s.out := rfl
@[simp] theorem setEv_free (s : State) (j : Nat) (x : EvSt) : (s.setEv j x).free = s.free := rfl
@[simp] theorem setEv_pending (s : State) (j : Nat) (x : EvSt) : (s.setEv j x).pending = s.pending := rfl

/-! ### setFin -/

@[simp] theorem setFin_regs (s : State) (k : Nat) (x : FinSt) : (s.setFin k x).regs = s.regs := rfl
@[simp] theorem setFin_act (s : State) (k : Nat) (x : FinSt) : (s.setFin k x).act = s.act := rfl
@[simp] theorem setFin_time (s : State) (k : Nat) (x : FinSt) : (s.setFin k x).time = s.time := rfl
@[simp] theorem setFin_dom (s : State) (k : Nat) (x : FinSt) : (s.setFin k x).dom = s.dom := rfl
@[simp] theorem setFin_sem (s : State) (k : Nat) (x : FinSt) : (s.setFin k x).sem = s.sem := rfl
@[simp] theorem setFin_portA (s : State) (k : Nat) (x : FinSt) : (s.setFin k x).portA = s.portA := rfl
@[simp] theorem setFin_portB (s : State) (k : Nat) (x : FinSt) : (s.setFin k x).portB = s.portB := rfl
@[simp] theorem setFin_mirror (s : State) (k : Nat) (x : FinSt) : (s.setFin k x).mirror = s.mirror := rfl
@[simp] theorem setFin_load (s : State) (k : Nat) (x : FinSt) : (s.setFin k x).load = s.load := rfl
@[simp] theorem setFin_fuse (s : State) (k : Nat) (x : FinSt) : (s.setFin k x).fuse = s.fuse := rfl
@[simp] theorem setFin_fab (s : State) (k : Nat) (x : FinSt) : (s.setFin k x).fab = s.fab := rfl
@[simp] theorem setFin_cnv (s : State) (k : Nat) (x : FinSt) : (s.setFin k x).cnv = s.cnv := rfl
@[simp] theorem setFin_clocks (s : State) (k : Nat) (x : FinSt) : (s.setFin k x).clocks = s.clocks := rfl
@[simp] theorem setFin_ddc (s : State) (k : Nat) (x : FinSt) : (s.setFin k x).ddc = s.ddc := rfl
@[simp] theorem setFin_xf (s : State) (k : Nat) (x : FinSt) : (s.setFin k x).xf = s.xf := rfl
@[simp] theorem setFin_kal (s : State) (k : Nat) (x : FinSt) : (s.setFin k x).kal = s.kal := rfl
@[simp] theorem setFin_trg (s : State) (k : Nat) (x : FinSt) : (s.setFin k x).trg = s.trg := rfl
@[simp] theorem setFin_regions (s : State) (k : Nat) (x : FinSt) : (s.setFin k x).regions = s.regions := rfl
@[simp] theorem setFin_sdram (s : State) (k : Nat) (x : FinSt) : (s.setFin k x).sdram = s.sdram := rfl
@[simp] theorem setFin_kp (s : State) (k : Nat) (x : FinSt) : (s.setFin k x).kp = s.kp := rfl
@[simp] theorem setFin_dma (s : State) (k : Nat) (x : FinSt) : (s.setFin k x).dma = s.dma := rfl
@[simp] theorem setFin_strm (s : State) (k : Nat) (x : FinSt) : (s.setFin k x).strm = s.strm := rfl
@[simp] theorem setFin_disp (s : State) (k : Nat) (x : FinSt) : (s.setFin k x).disp = s.disp := rfl
@[simp] theorem setFin_cal (s : State) (k : Nat) (x : FinSt) : (s.setFin k x).cal = s.cal := rfl
@[simp] theorem setFin_ens (s : State) (k : Nat) (x : FinSt) : (s.setFin k x).ens = s.ens := rfl
@[simp] theorem setFin_wear (s : State) (k : Nat) (x : FinSt) : (s.setFin k x).wear = s.wear := rfl
@[simp] theorem setFin_avs (s : State) (k : Nat) (x : FinSt) : (s.setFin k x).avs = s.avs := rfl
@[simp] theorem setFin_fcd (s : State) (k : Nat) (x : FinSt) : (s.setFin k x).fcd = s.fcd := rfl
@[simp] theorem setFin_start (s : State) (k : Nat) (x : FinSt) : (s.setFin k x).start = s.start := rfl
@[simp] theorem setFin_pwr (s : State) (k : Nat) (x : FinSt) : (s.setFin k x).pwr = s.pwr := rfl
@[simp] theorem setFin_bus (s : State) (k : Nat) (x : FinSt) : (s.setFin k x).bus = s.bus := rfl
@[simp] theorem setFin_out (s : State) (k : Nat) (x : FinSt) : (s.setFin k x).out = s.out := rfl
@[simp] theorem setFin_free (s : State) (k : Nat) (x : FinSt) : (s.setFin k x).free = s.free := rfl
@[simp] theorem setFin_pending (s : State) (k : Nat) (x : FinSt) : (s.setFin k x).pending = s.pending := rfl

/-! ### setEns -/

@[simp] theorem setEns_regs (s : State) (x : EnsSt) : (s.setEns x).regs = s.regs := rfl
@[simp] theorem setEns_act (s : State) (x : EnsSt) : (s.setEns x).act = s.act := rfl
@[simp] theorem setEns_time (s : State) (x : EnsSt) : (s.setEns x).time = s.time := rfl
@[simp] theorem setEns_dom (s : State) (x : EnsSt) : (s.setEns x).dom = s.dom := rfl
@[simp] theorem setEns_sem (s : State) (x : EnsSt) : (s.setEns x).sem = s.sem := rfl
@[simp] theorem setEns_portA (s : State) (x : EnsSt) : (s.setEns x).portA = s.portA := rfl
@[simp] theorem setEns_portB (s : State) (x : EnsSt) : (s.setEns x).portB = s.portB := rfl
@[simp] theorem setEns_mirror (s : State) (x : EnsSt) : (s.setEns x).mirror = s.mirror := rfl
@[simp] theorem setEns_load (s : State) (x : EnsSt) : (s.setEns x).load = s.load := rfl
@[simp] theorem setEns_fuse (s : State) (x : EnsSt) : (s.setEns x).fuse = s.fuse := rfl
@[simp] theorem setEns_fab (s : State) (x : EnsSt) : (s.setEns x).fab = s.fab := rfl
@[simp] theorem setEns_cnv (s : State) (x : EnsSt) : (s.setEns x).cnv = s.cnv := rfl
@[simp] theorem setEns_clocks (s : State) (x : EnsSt) : (s.setEns x).clocks = s.clocks := rfl
@[simp] theorem setEns_ddc (s : State) (x : EnsSt) : (s.setEns x).ddc = s.ddc := rfl
@[simp] theorem setEns_xf (s : State) (x : EnsSt) : (s.setEns x).xf = s.xf := rfl
@[simp] theorem setEns_kal (s : State) (x : EnsSt) : (s.setEns x).kal = s.kal := rfl
@[simp] theorem setEns_trg (s : State) (x : EnsSt) : (s.setEns x).trg = s.trg := rfl
@[simp] theorem setEns_regions (s : State) (x : EnsSt) : (s.setEns x).regions = s.regions := rfl
@[simp] theorem setEns_sdram (s : State) (x : EnsSt) : (s.setEns x).sdram = s.sdram := rfl
@[simp] theorem setEns_kp (s : State) (x : EnsSt) : (s.setEns x).kp = s.kp := rfl
@[simp] theorem setEns_dma (s : State) (x : EnsSt) : (s.setEns x).dma = s.dma := rfl
@[simp] theorem setEns_strm (s : State) (x : EnsSt) : (s.setEns x).strm = s.strm := rfl
@[simp] theorem setEns_disp (s : State) (x : EnsSt) : (s.setEns x).disp = s.disp := rfl
@[simp] theorem setEns_tiu (s : State) (x : EnsSt) : (s.setEns x).tiu = s.tiu := rfl
@[simp] theorem setEns_cal (s : State) (x : EnsSt) : (s.setEns x).cal = s.cal := rfl
@[simp] theorem setEns_wear (s : State) (x : EnsSt) : (s.setEns x).wear = s.wear := rfl
@[simp] theorem setEns_avs (s : State) (x : EnsSt) : (s.setEns x).avs = s.avs := rfl
@[simp] theorem setEns_fcd (s : State) (x : EnsSt) : (s.setEns x).fcd = s.fcd := rfl
@[simp] theorem setEns_start (s : State) (x : EnsSt) : (s.setEns x).start = s.start := rfl
@[simp] theorem setEns_pwr (s : State) (x : EnsSt) : (s.setEns x).pwr = s.pwr := rfl
@[simp] theorem setEns_bus (s : State) (x : EnsSt) : (s.setEns x).bus = s.bus := rfl
@[simp] theorem setEns_out (s : State) (x : EnsSt) : (s.setEns x).out = s.out := rfl
@[simp] theorem setEns_free (s : State) (x : EnsSt) : (s.setEns x).free = s.free := rfl
@[simp] theorem setEns_pending (s : State) (x : EnsSt) : (s.setEns x).pending = s.pending := rfl

/-! ### setFcdOut -/

@[simp] theorem setFcdOut_regs (s : State) (f : Nat) (x : FcdOut) : (s.setFcdOut f x).regs = s.regs := rfl
@[simp] theorem setFcdOut_act (s : State) (f : Nat) (x : FcdOut) : (s.setFcdOut f x).act = s.act := rfl
@[simp] theorem setFcdOut_time (s : State) (f : Nat) (x : FcdOut) : (s.setFcdOut f x).time = s.time := rfl
@[simp] theorem setFcdOut_dom (s : State) (f : Nat) (x : FcdOut) : (s.setFcdOut f x).dom = s.dom := rfl
@[simp] theorem setFcdOut_sem (s : State) (f : Nat) (x : FcdOut) : (s.setFcdOut f x).sem = s.sem := rfl
@[simp] theorem setFcdOut_portA (s : State) (f : Nat) (x : FcdOut) : (s.setFcdOut f x).portA = s.portA := rfl
@[simp] theorem setFcdOut_portB (s : State) (f : Nat) (x : FcdOut) : (s.setFcdOut f x).portB = s.portB := rfl
@[simp] theorem setFcdOut_mirror (s : State) (f : Nat) (x : FcdOut) : (s.setFcdOut f x).mirror = s.mirror := rfl
@[simp] theorem setFcdOut_load (s : State) (f : Nat) (x : FcdOut) : (s.setFcdOut f x).load = s.load := rfl
@[simp] theorem setFcdOut_fuse (s : State) (f : Nat) (x : FcdOut) : (s.setFcdOut f x).fuse = s.fuse := rfl
@[simp] theorem setFcdOut_fab (s : State) (f : Nat) (x : FcdOut) : (s.setFcdOut f x).fab = s.fab := rfl
@[simp] theorem setFcdOut_cnv (s : State) (f : Nat) (x : FcdOut) : (s.setFcdOut f x).cnv = s.cnv := rfl
@[simp] theorem setFcdOut_clocks (s : State) (f : Nat) (x : FcdOut) : (s.setFcdOut f x).clocks = s.clocks := rfl
@[simp] theorem setFcdOut_ddc (s : State) (f : Nat) (x : FcdOut) : (s.setFcdOut f x).ddc = s.ddc := rfl
@[simp] theorem setFcdOut_xf (s : State) (f : Nat) (x : FcdOut) : (s.setFcdOut f x).xf = s.xf := rfl
@[simp] theorem setFcdOut_kal (s : State) (f : Nat) (x : FcdOut) : (s.setFcdOut f x).kal = s.kal := rfl
@[simp] theorem setFcdOut_trg (s : State) (f : Nat) (x : FcdOut) : (s.setFcdOut f x).trg = s.trg := rfl
@[simp] theorem setFcdOut_regions (s : State) (f : Nat) (x : FcdOut) : (s.setFcdOut f x).regions = s.regions := rfl
@[simp] theorem setFcdOut_sdram (s : State) (f : Nat) (x : FcdOut) : (s.setFcdOut f x).sdram = s.sdram := rfl
@[simp] theorem setFcdOut_kp (s : State) (f : Nat) (x : FcdOut) : (s.setFcdOut f x).kp = s.kp := rfl
@[simp] theorem setFcdOut_dma (s : State) (f : Nat) (x : FcdOut) : (s.setFcdOut f x).dma = s.dma := rfl
@[simp] theorem setFcdOut_strm (s : State) (f : Nat) (x : FcdOut) : (s.setFcdOut f x).strm = s.strm := rfl
@[simp] theorem setFcdOut_disp (s : State) (f : Nat) (x : FcdOut) : (s.setFcdOut f x).disp = s.disp := rfl
@[simp] theorem setFcdOut_tiu (s : State) (f : Nat) (x : FcdOut) : (s.setFcdOut f x).tiu = s.tiu := rfl
@[simp] theorem setFcdOut_cal (s : State) (f : Nat) (x : FcdOut) : (s.setFcdOut f x).cal = s.cal := rfl
@[simp] theorem setFcdOut_ens (s : State) (f : Nat) (x : FcdOut) : (s.setFcdOut f x).ens = s.ens := rfl
@[simp] theorem setFcdOut_wear (s : State) (f : Nat) (x : FcdOut) : (s.setFcdOut f x).wear = s.wear := rfl
@[simp] theorem setFcdOut_avs (s : State) (f : Nat) (x : FcdOut) : (s.setFcdOut f x).avs = s.avs := rfl
@[simp] theorem setFcdOut_start (s : State) (f : Nat) (x : FcdOut) : (s.setFcdOut f x).start = s.start := rfl
@[simp] theorem setFcdOut_pwr (s : State) (f : Nat) (x : FcdOut) : (s.setFcdOut f x).pwr = s.pwr := rfl
@[simp] theorem setFcdOut_bus (s : State) (f : Nat) (x : FcdOut) : (s.setFcdOut f x).bus = s.bus := rfl
@[simp] theorem setFcdOut_out (s : State) (f : Nat) (x : FcdOut) : (s.setFcdOut f x).out = s.out := rfl
@[simp] theorem setFcdOut_free (s : State) (f : Nat) (x : FcdOut) : (s.setFcdOut f x).free = s.free := rfl
@[simp] theorem setFcdOut_pending (s : State) (f : Nat) (x : FcdOut) : (s.setFcdOut f x).pending = s.pending := rfl

/-! ### setClkout -/

@[simp] theorem setClkout_regs (s : State) (k : Nat) (x : ClkOut) : (s.setClkout k x).regs = s.regs := by
  unfold setClkout; split <;> rfl
@[simp] theorem setClkout_act (s : State) (k : Nat) (x : ClkOut) : (s.setClkout k x).act = s.act := by
  unfold setClkout; split <;> rfl
@[simp] theorem setClkout_time (s : State) (k : Nat) (x : ClkOut) : (s.setClkout k x).time = s.time := by
  unfold setClkout; split <;> rfl
@[simp] theorem setClkout_dom (s : State) (k : Nat) (x : ClkOut) : (s.setClkout k x).dom = s.dom := by
  unfold setClkout; split <;> rfl
@[simp] theorem setClkout_sem (s : State) (k : Nat) (x : ClkOut) : (s.setClkout k x).sem = s.sem := by
  unfold setClkout; split <;> rfl
@[simp] theorem setClkout_portA (s : State) (k : Nat) (x : ClkOut) : (s.setClkout k x).portA = s.portA := by
  unfold setClkout; split <;> rfl
@[simp] theorem setClkout_portB (s : State) (k : Nat) (x : ClkOut) : (s.setClkout k x).portB = s.portB := by
  unfold setClkout; split <;> rfl
@[simp] theorem setClkout_mirror (s : State) (k : Nat) (x : ClkOut) : (s.setClkout k x).mirror = s.mirror := by
  unfold setClkout; split <;> rfl
@[simp] theorem setClkout_load (s : State) (k : Nat) (x : ClkOut) : (s.setClkout k x).load = s.load := by
  unfold setClkout; split <;> rfl
@[simp] theorem setClkout_fuse (s : State) (k : Nat) (x : ClkOut) : (s.setClkout k x).fuse = s.fuse := by
  unfold setClkout; split <;> rfl
@[simp] theorem setClkout_fab (s : State) (k : Nat) (x : ClkOut) : (s.setClkout k x).fab = s.fab := by
  unfold setClkout; split <;> rfl
@[simp] theorem setClkout_cnv (s : State) (k : Nat) (x : ClkOut) : (s.setClkout k x).cnv = s.cnv := by
  unfold setClkout; split <;> rfl
@[simp] theorem setClkout_ddc (s : State) (k : Nat) (x : ClkOut) : (s.setClkout k x).ddc = s.ddc := by
  unfold setClkout; split <;> rfl
@[simp] theorem setClkout_xf (s : State) (k : Nat) (x : ClkOut) : (s.setClkout k x).xf = s.xf := by
  unfold setClkout; split <;> rfl
@[simp] theorem setClkout_kal (s : State) (k : Nat) (x : ClkOut) : (s.setClkout k x).kal = s.kal := by
  unfold setClkout; split <;> rfl
@[simp] theorem setClkout_trg (s : State) (k : Nat) (x : ClkOut) : (s.setClkout k x).trg = s.trg := by
  unfold setClkout; split <;> rfl
@[simp] theorem setClkout_regions (s : State) (k : Nat) (x : ClkOut) : (s.setClkout k x).regions = s.regions := by
  unfold setClkout; split <;> rfl
@[simp] theorem setClkout_sdram (s : State) (k : Nat) (x : ClkOut) : (s.setClkout k x).sdram = s.sdram := by
  unfold setClkout; split <;> rfl
@[simp] theorem setClkout_kp (s : State) (k : Nat) (x : ClkOut) : (s.setClkout k x).kp = s.kp := by
  unfold setClkout; split <;> rfl
@[simp] theorem setClkout_dma (s : State) (k : Nat) (x : ClkOut) : (s.setClkout k x).dma = s.dma := by
  unfold setClkout; split <;> rfl
@[simp] theorem setClkout_strm (s : State) (k : Nat) (x : ClkOut) : (s.setClkout k x).strm = s.strm := by
  unfold setClkout; split <;> rfl
@[simp] theorem setClkout_disp (s : State) (k : Nat) (x : ClkOut) : (s.setClkout k x).disp = s.disp := by
  unfold setClkout; split <;> rfl
@[simp] theorem setClkout_cal (s : State) (k : Nat) (x : ClkOut) : (s.setClkout k x).cal = s.cal := by
  unfold setClkout; split <;> rfl
@[simp] theorem setClkout_ens (s : State) (k : Nat) (x : ClkOut) : (s.setClkout k x).ens = s.ens := by
  unfold setClkout; split <;> rfl
@[simp] theorem setClkout_wear (s : State) (k : Nat) (x : ClkOut) : (s.setClkout k x).wear = s.wear := by
  unfold setClkout; split <;> rfl
@[simp] theorem setClkout_avs (s : State) (k : Nat) (x : ClkOut) : (s.setClkout k x).avs = s.avs := by
  unfold setClkout; split <;> rfl
@[simp] theorem setClkout_fcd (s : State) (k : Nat) (x : ClkOut) : (s.setClkout k x).fcd = s.fcd := by
  unfold setClkout; split <;> rfl
@[simp] theorem setClkout_start (s : State) (k : Nat) (x : ClkOut) : (s.setClkout k x).start = s.start := by
  unfold setClkout; split <;> rfl
@[simp] theorem setClkout_pwr (s : State) (k : Nat) (x : ClkOut) : (s.setClkout k x).pwr = s.pwr := by
  unfold setClkout; split <;> rfl
@[simp] theorem setClkout_bus (s : State) (k : Nat) (x : ClkOut) : (s.setClkout k x).bus = s.bus := by
  unfold setClkout; split <;> rfl
@[simp] theorem setClkout_out (s : State) (k : Nat) (x : ClkOut) : (s.setClkout k x).out = s.out := by
  unfold setClkout; split <;> rfl
@[simp] theorem setClkout_free (s : State) (k : Nat) (x : ClkOut) : (s.setClkout k x).free = s.free := by
  unfold setClkout; split <;> rfl
@[simp] theorem setClkout_pending (s : State) (k : Nat) (x : ClkOut) : (s.setClkout k x).pending = s.pending := by
  unfold setClkout; split <;> rfl
@[simp] theorem setClkout_tiu (s : State) (k : Nat) (x : ClkOut) : (s.setClkout k x).tiu = s.tiu := by
  unfold setClkout; split <;> rfl

/-! ### setLink -/

@[simp] theorem setLink_regs (s : State) (b : Bool) (x : DpLink) : (s.setLink b x).regs = s.regs := by
  unfold setLink; split <;> rfl
@[simp] theorem setLink_act (s : State) (b : Bool) (x : DpLink) : (s.setLink b x).act = s.act := by
  unfold setLink; split <;> rfl
@[simp] theorem setLink_time (s : State) (b : Bool) (x : DpLink) : (s.setLink b x).time = s.time := by
  unfold setLink; split <;> rfl
@[simp] theorem setLink_dom (s : State) (b : Bool) (x : DpLink) : (s.setLink b x).dom = s.dom := by
  unfold setLink; split <;> rfl
@[simp] theorem setLink_sem (s : State) (b : Bool) (x : DpLink) : (s.setLink b x).sem = s.sem := by
  unfold setLink; split <;> rfl
@[simp] theorem setLink_portA (s : State) (b : Bool) (x : DpLink) : (s.setLink b x).portA = s.portA := by
  unfold setLink; split <;> rfl
@[simp] theorem setLink_portB (s : State) (b : Bool) (x : DpLink) : (s.setLink b x).portB = s.portB := by
  unfold setLink; split <;> rfl
@[simp] theorem setLink_mirror (s : State) (b : Bool) (x : DpLink) : (s.setLink b x).mirror = s.mirror := by
  unfold setLink; split <;> rfl
@[simp] theorem setLink_load (s : State) (b : Bool) (x : DpLink) : (s.setLink b x).load = s.load := by
  unfold setLink; split <;> rfl
@[simp] theorem setLink_fuse (s : State) (b : Bool) (x : DpLink) : (s.setLink b x).fuse = s.fuse := by
  unfold setLink; split <;> rfl
@[simp] theorem setLink_fab (s : State) (b : Bool) (x : DpLink) : (s.setLink b x).fab = s.fab := by
  unfold setLink; split <;> rfl
@[simp] theorem setLink_cnv (s : State) (b : Bool) (x : DpLink) : (s.setLink b x).cnv = s.cnv := by
  unfold setLink; split <;> rfl
@[simp] theorem setLink_clocks (s : State) (b : Bool) (x : DpLink) : (s.setLink b x).clocks = s.clocks := by
  unfold setLink; split <;> rfl
@[simp] theorem setLink_ddc (s : State) (b : Bool) (x : DpLink) : (s.setLink b x).ddc = s.ddc := by
  unfold setLink; split <;> rfl
@[simp] theorem setLink_xf (s : State) (b : Bool) (x : DpLink) : (s.setLink b x).xf = s.xf := by
  unfold setLink; split <;> rfl
@[simp] theorem setLink_kal (s : State) (b : Bool) (x : DpLink) : (s.setLink b x).kal = s.kal := by
  unfold setLink; split <;> rfl
@[simp] theorem setLink_trg (s : State) (b : Bool) (x : DpLink) : (s.setLink b x).trg = s.trg := by
  unfold setLink; split <;> rfl
@[simp] theorem setLink_regions (s : State) (b : Bool) (x : DpLink) : (s.setLink b x).regions = s.regions := by
  unfold setLink; split <;> rfl
@[simp] theorem setLink_sdram (s : State) (b : Bool) (x : DpLink) : (s.setLink b x).sdram = s.sdram := by
  unfold setLink; split <;> rfl
@[simp] theorem setLink_kp (s : State) (b : Bool) (x : DpLink) : (s.setLink b x).kp = s.kp := by
  unfold setLink; split <;> rfl
@[simp] theorem setLink_dma (s : State) (b : Bool) (x : DpLink) : (s.setLink b x).dma = s.dma := by
  unfold setLink; split <;> rfl
@[simp] theorem setLink_strm (s : State) (b : Bool) (x : DpLink) : (s.setLink b x).strm = s.strm := by
  unfold setLink; split <;> rfl
@[simp] theorem setLink_cal (s : State) (b : Bool) (x : DpLink) : (s.setLink b x).cal = s.cal := by
  unfold setLink; split <;> rfl
@[simp] theorem setLink_ens (s : State) (b : Bool) (x : DpLink) : (s.setLink b x).ens = s.ens := by
  unfold setLink; split <;> rfl
@[simp] theorem setLink_wear (s : State) (b : Bool) (x : DpLink) : (s.setLink b x).wear = s.wear := by
  unfold setLink; split <;> rfl
@[simp] theorem setLink_avs (s : State) (b : Bool) (x : DpLink) : (s.setLink b x).avs = s.avs := by
  unfold setLink; split <;> rfl
@[simp] theorem setLink_fcd (s : State) (b : Bool) (x : DpLink) : (s.setLink b x).fcd = s.fcd := by
  unfold setLink; split <;> rfl
@[simp] theorem setLink_start (s : State) (b : Bool) (x : DpLink) : (s.setLink b x).start = s.start := by
  unfold setLink; split <;> rfl
@[simp] theorem setLink_pwr (s : State) (b : Bool) (x : DpLink) : (s.setLink b x).pwr = s.pwr := by
  unfold setLink; split <;> rfl
@[simp] theorem setLink_bus (s : State) (b : Bool) (x : DpLink) : (s.setLink b x).bus = s.bus := by
  unfold setLink; split <;> rfl
@[simp] theorem setLink_out (s : State) (b : Bool) (x : DpLink) : (s.setLink b x).out = s.out := by
  unfold setLink; split <;> rfl
@[simp] theorem setLink_free (s : State) (b : Bool) (x : DpLink) : (s.setLink b x).free = s.free := by
  unfold setLink; split <;> rfl
@[simp] theorem setLink_pending (s : State) (b : Bool) (x : DpLink) : (s.setLink b x).pending = s.pending := by
  unfold setLink; split <;> rfl
@[simp] theorem setLink_tiu (s : State) (b : Bool) (x : DpLink) : (s.setLink b x).tiu = s.tiu := by
  unfold setLink; split <;> rfl

/-! ### What was put in is read -/

@[simp] theorem setHolder_holder_self (s : State) (n : Nat) (h : Option Holder) : (s.setHolder n h).holder n = h := Tab.get_put_self _ _ _ _
theorem setHolder_holder_ne (s : State) {n i : Nat} (x : Option Holder) (h : i ≠ n) : (s.setHolder n x).holder i = s.holder i :=
  Tab.get_put_ne _ _ _ _ h
@[simp] theorem setKp_kpOf_self (s : State) (n : Nat) (x : KpSt) : (s.setKp n x).kpOf n = x := Tab.get_put_self _ _ _ _
theorem setKp_kpOf_ne (s : State) {n i : Nat} (x : KpSt) (h : i ≠ n) : (s.setKp n x).kpOf i = s.kpOf i :=
  Tab.get_put_ne _ _ _ _ h
@[simp] theorem setPath_path_self (s : State) (p : Nat) (x : PathSt) : (s.setPath p x).path p = x := Tab.get_put_self _ _ _ _
theorem setPath_path_ne (s : State) {p i : Nat} (x : PathSt) (h : i ≠ p) : (s.setPath p x).path i = s.path i :=
  Tab.get_put_ne _ _ _ _ h
@[simp] theorem setTile_tile_self (s : State) (t : Nat) (x : TileSt) : (s.setTile t x).tile t = x := Tab.get_put_self _ _ _ _
theorem setTile_tile_ne (s : State) {t i : Nat} (x : TileSt) (h : i ≠ t) : (s.setTile t x).tile i = s.tile i :=
  Tab.get_put_ne _ _ _ _ h
@[simp] theorem setConv_conv_self (s : State) (n : Nat) (x : CnvSt) : (s.setConv n x).conv n = x := Tab.get_put_self _ _ _ _
theorem setConv_conv_ne (s : State) {n i : Nat} (x : CnvSt) (h : i ≠ n) : (s.setConv n x).conv i = s.conv i :=
  Tab.get_put_ne _ _ _ _ h
@[simp] theorem setDdc_ddcOf_self (s : State) (p : Nat) (x : DdcSt) : (s.setDdc p x).ddcOf p = x := Tab.get_put_self _ _ _ _
theorem setDdc_ddcOf_ne (s : State) {p i : Nat} (x : DdcSt) (h : i ≠ p) : (s.setDdc p x).ddcOf i = s.ddcOf i :=
  Tab.get_put_ne _ _ _ _ h
@[simp] theorem setXf_xfOf_self (s : State) (p : Nat) (x : XfPath) : (s.setXf p x).xfOf p = x := Tab.get_put_self _ _ _ _
theorem setXf_xfOf_ne (s : State) {p i : Nat} (x : XfPath) (h : i ≠ p) : (s.setXf p x).xfOf i = s.xfOf i :=
  Tab.get_put_ne _ _ _ _ h
@[simp] theorem setKal_kalOf_self (s : State) (k : Nat) (x : KalSt) : (s.setKal k x).kalOf k = x := Tab.get_put_self _ _ _ _
theorem setKal_kalOf_ne (s : State) {k i : Nat} (x : KalSt) (h : i ≠ k) : (s.setKal k x).kalOf i = s.kalOf i :=
  Tab.get_put_ne _ _ _ _ h
@[simp] theorem setMsk_mskOf_self (s : State) (m : Nat) (x : MskSt) : (s.setMsk m x).mskOf m = x := Tab.get_put_self _ _ _ _
theorem setMsk_mskOf_ne (s : State) {m i : Nat} (x : MskSt) (h : i ≠ m) : (s.setMsk m x).mskOf i = s.mskOf i :=
  Tab.get_put_ne _ _ _ _ h
@[simp] theorem setCond_cond_self (s : State) (c : Nat) (x : CondSt) : (s.setCond c x).cond c = x := Tab.get_put_self _ _ _ _
theorem setCond_cond_ne (s : State) {c i : Nat} (x : CondSt) (h : i ≠ c) : (s.setCond c x).cond i = s.cond i :=
  Tab.get_put_ne _ _ _ _ h
@[simp] theorem setTrgIn_trgIn_self (s : State) (k : Nat) (x : TrigIn) : (s.setTrgIn k x).trgIn k = x := Tab.get_put_self _ _ _ _
theorem setTrgIn_trgIn_ne (s : State) {k i : Nat} (x : TrigIn) (h : i ≠ k) : (s.setTrgIn k x).trgIn i = s.trgIn i :=
  Tab.get_put_ne _ _ _ _ h
@[simp] theorem setTrgOut_trgOut_self (s : State) (o : Nat) (x : TrigOut) : (s.setTrgOut o x).trgOut o = x := Tab.get_put_self _ _ _ _
theorem setTrgOut_trgOut_ne (s : State) {o i : Nat} (x : TrigOut) (h : i ≠ o) : (s.setTrgOut o x).trgOut i = s.trgOut i :=
  Tab.get_put_ne _ _ _ _ h
@[simp] theorem setAvg_avgOf_self (s : State) (p : Nat) (x : AvgSt) : (s.setAvg p x).avgOf p = x := Tab.get_put_self _ _ _ _
theorem setAvg_avgOf_ne (s : State) {p i : Nat} (x : AvgSt) (h : i ≠ p) : (s.setAvg p x).avgOf i = s.avgOf i :=
  Tab.get_put_ne _ _ _ _ h
@[simp] theorem setRegion_region_self (s : State) (r : Nat) (x : RegionSt) : (s.setRegion r x).region r = x := Tab.get_put_self _ _ _ _
theorem setRegion_region_ne (s : State) {r i : Nat} (x : RegionSt) (h : i ≠ r) : (s.setRegion r x).region i = s.region i :=
  Tab.get_put_ne _ _ _ _ h
@[simp] theorem setChan_chan_self (s : State) (n : Nat) (x : DmaSt) : (s.setChan n x).chan n = x := Tab.get_put_self _ _ _ _
theorem setChan_chan_ne (s : State) {n i : Nat} (x : DmaSt) (h : i ≠ n) : (s.setChan n x).chan i = s.chan i :=
  Tab.get_put_ne _ _ _ _ h
@[simp] theorem setEv_evOf_self (s : State) (j : Nat) (x : EvSt) : (s.setEv j x).evOf j = x := Tab.get_put_self _ _ _ _
theorem setEv_evOf_ne (s : State) {j i : Nat} (x : EvSt) (h : i ≠ j) : (s.setEv j x).evOf i = s.evOf i :=
  Tab.get_put_ne _ _ _ _ h
@[simp] theorem setFin_finOf_self (s : State) (k : Nat) (x : FinSt) : (s.setFin k x).finOf k = x := Tab.get_put_self _ _ _ _
theorem setFin_finOf_ne (s : State) {k i : Nat} (x : FinSt) (h : i ≠ k) : (s.setFin k x).finOf i = s.finOf i :=
  Tab.get_put_ne _ _ _ _ h
@[simp] theorem setFcdOut_fcdOut_self (s : State) (f : Nat) (x : FcdOut) : (s.setFcdOut f x).fcdOut f = x := Tab.get_put_self _ _ _ _
theorem setFcdOut_fcdOut_ne (s : State) {f i : Nat} (x : FcdOut) (h : i ≠ f) : (s.setFcdOut f x).fcdOut i = s.fcdOut i :=
  Tab.get_put_ne _ _ _ _ h

@[simp] theorem setPort_port_self (s : State) (p : Port) (x : PortSt) : (s.setPort p x).port p = x := by cases p <;> rfl
theorem setPort_port_ne (s : State) {p q : Port} (x : PortSt) (h : q ≠ p) : (s.setPort p x).port q = s.port q := by
  cases p <;> cases q <;> first | rfl | exact absurd rfl h

end Sys2Proof.Machine.State
end

