-- ==== Sys2Proof/Tests/Slice0.lean ====
section
/-! SUPPORT. Tests: for every statement with premises, a state and operands that meet them together, clause by clause; commands
whose operands are out of range, which `Instr.wf` refuses; and single steps whose results are worked out by hand from the
rules. -/

/- One theorem at a time: the kernel evaluates each of them, and many at once take a thread each. -/
set_option Elab.async false

namespace Sys2Proof.Machine.State

def withPort (s : State) (p : Port) (f : PortSt → PortSt) : State := s.setPort p (f (s.port p))
def withPath (s : State) (p : Nat) (f : PathSt → PathSt) : State := s.setPath p (f (s.path p))
def withConv (s : State) (p : Nat) (f : CnvSt → CnvSt) : State := s.setConv p (f (s.conv p))
def withTile (s : State) (p : Nat) (f : TileSt → TileSt) : State := s.setTile p (f (s.tile p))
def withWin (s : State) (p w : Nat) (f : WinSt → WinSt) : State := s.setWin p w (f (s.win p w))
def withDdc (s : State) (p : Nat) (f : DdcSt → DdcSt) : State := s.setDdc p (f (s.ddcOf p))
def withXf (s : State) (p : Nat) (f : XfPath → XfPath) : State := s.setXf p (f (s.xfOf p))
def withInst (s : State) (p i : Nat) (f : XfSt → XfSt) : State := s.setInst p i (f (s.inst p i))
def withKal (s : State) (p : Nat) (f : KalSt → KalSt) : State := s.setKal p (f (s.kalOf p))
def withMsk (s : State) (p : Nat) (f : MskSt → MskSt) : State := s.setMsk p (f (s.mskOf p))
def withKp (s : State) (p : Nat) (f : KpSt → KpSt) : State := s.setKp p (f (s.kpOf p))
def withChan (s : State) (p : Nat) (f : DmaSt → DmaSt) : State := s.setChan p (f (s.chan p))
def withRegion (s : State) (p : Nat) (f : RegionSt → RegionSt) : State := s.setRegion p (f (s.region p))
def withCond (s : State) (p : Nat) (f : CondSt → CondSt) : State := s.setCond p (f (s.cond p))
def withFlow (s : State) (p q : Nat) (f : FlowSt → FlowSt) : State := s.setFlow p q (f (s.flow p q))
def withClocks (s : State) (f : ClkSt → ClkSt) : State := { s with clocks := f s.clocks }
def withLoad (s : State) (f : LoadSt → LoadSt) : State := { s with load := f s.load }
def withMirror (s : State) (f : MirrorSt → MirrorSt) : State := { s with mirror := f s.mirror }
def withCal (s : State) (f : CalSt → CalSt) : State := { s with cal := f s.cal }
def withTiu (s : State) (f : TiuSt → TiuSt) : State := { s with tiu := f s.tiu }
def withEns (s : State) (f : EnsSt → EnsSt) : State := { s with ens := f s.ens }
def withWear (s : State) (f : WearSt → WearSt) : State := { s with wear := f s.wear }
def withAvs (s : State) (f : AvsSt → AvsSt) : State := { s with avs := f s.avs }
def withFcd (s : State) (f : FcdSt → FcdSt) : State := { s with fcd := f s.fcd }
def withStart (s : State) (f : StartSt → StartSt) : State := { s with start := f s.start }
def withPwr (s : State) (f : PwrSt → PwrSt) : State := { s with pwr := f s.pwr }
def withDisp (s : State) (f : DispSt → DispSt) : State := { s with disp := f s.disp }
def withTrg (s : State) (f : TrgSt → TrgSt) : State := { s with trg := f s.trg }
def withTime (s : State) (f : TimeSt → TimeSt) : State := { s with time := f s.time }
def withFuse (s : State) (f : FuseSt → FuseSt) : State := { s with fuse := f s.fuse }
def withDma (s : State) (f : DmaUnit → DmaUnit) : State := { s with dma := f s.dma }

/-- A field of the settings in force, where the settings in force of a unit differ from its register (R54). -/
def setActive (s : State) (l : Loc) (v : Nat) : State :=
  let old := Tab.get (BitVec.ofNat 32 l.rst) s.act l.addr
  { s with act := s.act.put (BitVec.ofNat 32 l.rst) l.addr (BitVec.ofNat 32 (insertBits old.toNat l.lo l.width v)) }

/-- Processor `n` runs and stands at the word `w`. -/
def withKpAt (s : State) (n : Nat) (w : Word) : State :=
  (((((((s.set GLB_ID.reg GLB_ID.reg.rst).set (KP_STATUS.role n) 0).set (KP_STATUS.running n) 1).set (KP_STATUS.sh1 n) 0).set
    GLB_PCLK.nrt_stopped 0).set (KP_PC.pc n) 3).withKp n fun x => { x with imem := x.imem.put 0 3 w })

/-- The state after a command. -/
def nx (s : State) (c : Instr) : State := match exec c s with | .next t => t | _ => s
/-- The state after a step. -/
def nxs (s : State) : State := match step s with | .next t => t | _ => s

end Sys2Proof.Machine.State

namespace Sys2Proof.Tests

open Sys2Proof.Machine

def goesOn {α β γ : Type} : Host.Outcome α β γ → Bool
  | .next _ => true
  | _ => false
theorem runs_of {s : State} {c : Instr} (h : goesOn (exec c s) = true) : exec c s = .next (s.nx c) := by
  unfold State.nx
  revert h
  cases exec c s <;> simp [goesOn]
theorem steps_of {s : State} (h : goesOn (step s) = true) : step s = .next s.nxs := by
  unfold State.nxs
  revert h
  cases step s <;> simp [goesOn]
theorem accepts_of {s : State} {p : Port} {off : Nat} {o : Option Nat} (h : s.reachable off = true)
    (hs : (match o with | none => true | some n => decide (s.holder n = some (.cp p))) = true) : s.accepts p off o := by
  refine ⟨h, ?_⟩
  rintro n rfl
  simpa using hs

theorem none_of {α : Type} {o : Option α} {P : α → Prop} (h : o = none) : ∀ y, o = some y → P y := by
  rintro y rfl
  cases h
theorem all_kal {s : State} (h : s.kal.tables = []) : ∀ k, (s.kalOf k).spoilt = [] := by
  intro k
  unfold State.kalOf
  rw [h]
  rfl

/-- Every domain is up, both links stand, and engine time runs. -/
def live : State := { State.reset with
  dom := { aon := .on, host := .on, conv := .on, fabric := .on, memory := .on, display := .on, kp := .on }
  time := { State.reset.time with tick := 0x123456789, running := true, clk := 77777 }
  portA := { State.reset.portA with dlActive := true, msixEn := true, evtReset := false }
  portB := { State.reset.portB with dlActive := true, msixEn := true, evtReset := false } }

/-! ### Operands -/

/-- The first 88 bytes of an image header (R87): the fields that are not 0 are magic, format, header size, length, device,
variants, paths, mode of path 0, security version, number of sections, and where the directory and the signature stand. -/
def imgHead : List Byte :=
  [75, 83, 72, 73, 1, 0, 0, 1, 0, 4, 0, 0, 84, 1, 0, 0, 1, 0, 0, 0, 1, 0, 0, 0, 0, 0, 0, 0, 0, 0, 0, 0, 0, 0, 0, 0, 0, 0, 0, 0, 0, 0, 0, 0, 0, 0, 0, 0, 0, 0, 0, 0, 0, 0, 0, 0, 0, 0, 0, 0, 0, 0, 0, 0, 0, 0, 0, 0, 0, 0, 0, 0, 0, 0, 0, 0, 1, 0, 0, 0, 0, 1, 0, 0, 0, 3, 0, 0]
/-- An image that holds no more than it must: mode BASEBAND for path 0, one empty section of register values. -/
def img : List Byte :=
  imgHead ++ List.replicate 168 0 ++ [4, 0, 0, 0, 64, 1, 0, 0] ++ List.replicate 504 0 ++ [1, 0, 0, 0, 0, 0, 0, 0] ++
    leBytes 48 0xeb048f3da5ff8afde6f6132243c7657aee1a76dbfe35a70966b244cd4da483f6b37e741d1a01fabc420db2a637baed3 ++
    leBytes 48 0x3c07a93d85ecb31c80ac44b506ddf54c481993545e330eca5e5818aac502c5aa7e697845ffff93914eb8b3e1c96e638e ++
    leBytes 48 0x5e510c208dd434483f00e9ac0bfc9c3907eae6e5e7f4e6633c90ddd2a91e8d94f02a6c2051583ba4db8b51cc5b202aa4 ++
    leBytes 48 0x5e510c208dd434483f00e9ac0bfc9c3907eae6e5e7f4e6633c90ddd2a91e8d94f02a6c2051583ba4db8b51cc5b202aa4 ++
    List.replicate 56 0

/-- That image with one tile record in its section, whose load is the 12 lane operations a sample that the main
down-converter needs, and the same demand (R89, R116, R256). -/
def imgTile : List Byte := [(256, 1), (264, 64), (268, 1), (323, 1), (329, 12), (336, 255), (337, 255), (25, 12)].foldl (fun b e => b.set e.1 e.2) img

/-- A whole block parcel of path 0. -/
def blk : Parcel :=
  { path := 0, replay := false, kind := .block, flags := 0, seq := 5, tick := 100, phase := 0, segment := 0, segments := 1,
    marker := none, stream := 0, payload := [1, 2, 3, 4], crc := 0 }
/-- A tile record that fires on nothing and sends nothing. -/
def tcfg : TileCfg :=
  { ltile := 0, path := 0, role := 1, laneEn := 0xFFFF, load := 0, ports := [0, 0, 0, 0], mem := [], startPc := 0,
    fireIn := [0, 0, 0, 0], fireOut := [0, 0, 0, 0], arith := 0 }
/-- An image of a path with one tile. -/
def pimg : PathImg :=
  { digest := [], mode := 1, demand := 0, capWrite := 0, bestEffort := false, bestEffortOn := false, tiles := [tcfg],
    replay := { region := 0, rate := 0, start := 0, len := 64, index := 0, tick := 0 } }
/-- A place of the reorder window, filled with `x`. -/
def slot (x : SlotFill) : Slot := { stream := 0, segment := 0, last := 0, fill := x, tail := true }

/-- The bytes of a block parcel with its check value (R125, R133). -/
def gotOk : List Byte :=
  let h : List Byte := [0, 1, 0, 0, 4, 0] ++ List.replicate 22 0
  h ++ leBytes 4 (crc32c (h ++ [1, 2, 3, 4])).toNat ++ [1, 2, 3, 4]
/-- The bytes of a gap parcel, as they stand in capture memory. -/
def gapBytes : List Byte :=
  let h : List Byte := [4, 5] ++ List.replicate 26 0
  h ++ leBytes 4 (crc32c h).toNat

/-- A word of a class with some fields (R395). -/
def kw (cls : Nat) (fields : List (Nat × Nat × Nat)) : Word :=
  BitVec.ofNat 32 (fields.foldl (fun w e => w + e.2.2 * 2 ^ e.1) (cls * 2 ^ 27))


/-- A descriptor: 4,096 bytes from a host's memory to capture memory at 0. -/
def dsc : DmaDesc :=
  { src := 0x10000, dst := 0, next := 0, count := 4096, srcSpace := 0, dstSpace := 3, srcSel := 0, dstSel := 0, flags := 0,
    cq := 3, pace := 0, tag := 9, ringLen := 0, share := 0, stopLevel := 0, startLevel := 0 }
/-- The 64 bytes of that descriptor (R415). -/
def dscBytes : List Byte :=
  leBytes 8 0x10000 ++ leBytes 8 0 ++ leBytes 8 0 ++ leBytes 4 4096 ++ [0, 3, 0, 0, 0, 0, 3, 0] ++ leBytes 4 9 ++ List.replicate 24 0
/-- A beat of 64 bytes without an error. -/
def beat : DmaBeat := { data := List.replicate 64 7, fixed := none, readCause := 0, writeCauses := [] }

/-- A calibration run of input 1, one group, in its second pass. -/
def crun : CalRun :=
  { inMask := 2, sels := [0, 1, 0, 0], groups := [], pass := 1, repeats := 2, since := 0, spoilt := false, first := [],
    rejected := [], sums := [] }
/-- A request to load an image that CP_A has made (R96). -/
def lreq : LoadReq := { unload := false, origin := .cp .a, src := 0, dry := false, avsRaise := false, mask := 0 }
/-- A firing that computes, stores and sends nothing. -/
def twork : TileWork := { clear := 0, ops := [], stores := [], outs := [] }
/-- An acquisition that finds its starting band good and ends with no phase error. -/
def lrun : LockRun := { startOk := true, found := 5, error := 0 }
/-- A token of the leader, whose payload names regions 0 and 1 and conditions 0 and 2, or member 0 and 1 as held. -/
def tok (type_ seq tick : Nat) : EnsToken :=
  { type_ := type_, origin := 0, seq := seq, ack := 0, tick := tick, payload := leBytes 8 3 ++ leBytes 8 5 ++ List.replicate 12 0 }

/-- The row of a register. -/
def rowOf (off : Nat) : RegRow :=
  match findRow off with
  | some e => e.1
  | none => { base := 0, dims := [], words := 1, half := .one, ini := fun _ => 0, rw := 0, w1c := 0, clr := 0, sh := 0, img := 0,
              sem := none }

/-! ### A state and operands for the premises of each statement, clause by clause -/

/-- The fabric is in retention, as in SLEEP (R41). -/
def asleep : State := { live with dom := { live.dom with fabric := .retention } }

theorem wit_registerWritesActOrAbort :
    (∃ (s : State) (p : Port) (k : Fin 256), s.accepts p (PWR_SCRATCH.reg k).addr none) ∧
    (∃ (s : State) (p : Port) (w : Fin 8), s.accepts p (SEM_LOST.reg w).addr none) ∧
    (∃ (s : State) (p : Port), s.accepts p SEM_REFUSED_0.reg.addr none) ∧
    (∃ (off : Nat), off % 4 ≠ 0) ∧
    (∃ (off : Nat) (len : Nat), (¬ (len = 4 ∧ off % 4 = 0)) ∧ (¬ (len = 8 ∧ off % 8 = 0 ∧ State.inMsix off = true))) ∧
    (∃ (s : State) (off : Nat) (d : Domain), State.domainOf off = some d ∧ s.domSt d ≠ .on ∧ off % 4 = 0 ∧
      (State.halfRow off .low).isSome = true) ∧
    (∃ (s : State) (off : Nat) (d : Domain), State.domainOf off = some d ∧ s.domSt d ≠ .on ∧
      (State.halfRow off .high).isSome = true) :=
  ⟨⟨live, .a, 0, accepts_of (by decide +kernel) (by decide +kernel)⟩,
    ⟨live, .a, 0, accepts_of (by decide +kernel) (by decide +kernel)⟩,
    ⟨live, .a, accepts_of (by decide +kernel) (by decide +kernel)⟩,
    ⟨0x10001, by decide +kernel⟩,
    ⟨0x38008, 4097, by decide +kernel⟩,
    ⟨asleep, TIU_TIME_SET.reg.addr, .fabric, by decide +kernel⟩,
    ⟨State.reset, TIU_TIME_SET.reg.addr + 4, .fabric, by decide +kernel⟩⟩

def w_wideRegistersReadAndWrittenWhole_1 : State :=
  let p : Port := .a
  let s : State := live
  s |>.withPort p fun x => { x with snap := some (IMG_SRC.reg.addr, 0x1234) }

def w_wideRegistersReadAndWrittenWhole_3 : State :=
  let p : Port := .a
  live |>.setHolder 1 (some (.cp p))

def w_wideRegistersReadAndWrittenWhole_4 : State :=
  let p : Port := .a
  let s : State := live |>.setHolder 1 (some (.cp p))
  s |>.withPort p fun x => { x with pendHi := some (IMG_SRC.reg.addr, 9) }

def w_wideRegistersReadAndWrittenWhole_5 : State :=
  let p : Port := .a
  live |>.setHolder 1 (some (.cp p))

theorem wit_wideRegistersReadAndWrittenWhole :
    (∃ (s : State) (off : Nat), (State.halfRow off .low).isSome = true ∧ s.reachable off = true) ∧
    (∃ (s : State) (p : Port) (off : Nat) (w : Word), (State.halfRow (off + 4) .high).isSome = true ∧ s.reachable (off + 4) =
      true ∧ (s.port p).snap = some (off, w)) ∧
    (∃ (s : State) (p : Port), s.accepts p (IMG_SRC.reg.addr + 4) (some 1)) ∧
    (∃ (s : State) (p : Port) (hi : Word), s.accepts p IMG_SRC.reg.addr (some 1) ∧ (s.port p).pendHi = some
      (IMG_SRC.reg.addr, hi)) ∧
    (∃ (s : State) (p : Port), s.accepts p IMG_SRC.reg.addr (some 1) ∧ (s.port p).pendHi = none) :=
  ⟨⟨live, IMG_SRC.reg.addr, by decide +kernel⟩,
    ⟨w_wideRegistersReadAndWrittenWhole_1, .a, IMG_SRC.reg.addr, 0x1234, by decide +kernel⟩,
    ⟨w_wideRegistersReadAndWrittenWhole_3, .a, accepts_of (by decide +kernel) (by decide +kernel)⟩,
    ⟨w_wideRegistersReadAndWrittenWhole_4, .a, 9, accepts_of (by decide +kernel) (by decide +kernel), by decide +kernel⟩,
    ⟨w_wideRegistersReadAndWrittenWhole_5, .a, accepts_of (by decide +kernel) (by decide +kernel), by decide +kernel⟩⟩

def w_wideAndBar2AccessesActAsAWhole_0 : State :=
  let p : Port := .a
  live |>.withPort p (fun z => { z with snap := none })

theorem wit_wideAndBar2AccessesActAsAWhole :
    (∃ (off : Nat), off % 8 = 0 ∧ State.inMsix off = true) ∧
    (∃ (s : State), s.up .host = true) ∧
    (∃ (off : Nat), (off % 8 ≠ 0 ∨ State.inMsix off = false)) ∧
    (∃ (off : Nat) (n : Nat), off % 4 = 0 ∧ n ≠ 0) ∧
    (∃ (off : Nat) (len : Nat), (off % 4 ≠ 0 ∨ len % 4 ≠ 0 ∨ len = 0)) ∧
    (∃ (off : Nat) (bs : List (Option Byte)), (off % 4 ≠ 0 ∨ bs.length % 4 ≠ 0 ∨ bs = [] ∨ none ∈ bs)) ∧
    (∃ (s : State) (p : Port) (off : Nat), (State.halfRow off .high).isSome = true ∧ s.reachable off = true ∧ (s.port
      p).snap = none) :=
  ⟨⟨0x3FFF8, by decide +kernel⟩,
    ⟨live, by decide +kernel⟩,
    ⟨0, by decide +kernel⟩,
    ⟨0x8000000, 16, by decide +kernel⟩,
    ⟨0, 0, by decide +kernel⟩,
    ⟨0, [], by decide +kernel⟩,
    ⟨w_wideAndBar2AccessesActAsAWhole_0, .a, IMG_SRC.reg.addr + 4, by decide +kernel⟩⟩

def w_bar4ReadsAndWritesThroughTheWindow_1 : State :=
  live |>.set GLB_START.mem_ready 1 |>.set MEM_SUMMARY.capacity 1

theorem bar4_gap : ¬ ∃ i, ([some 1, none, some 2] : List (Option Byte))[i]?.join.isSome = true ∧ 8 = live.winBase .a + 7 + i ∧
    8 < live.memCapacity ∧ live.writtenRegion 8 = false := by
  have h0 : live.winBase .a = 0 := by decide +kernel
  rintro ⟨i, h, hi, -⟩
  rw [h0] at hi
  obtain rfl : i = 1 := by omega
  exact absurd h (by decide)

theorem wit_bar4ReadsAndWritesThroughTheWindow :
    (∃ (s : State), s.up .host = true ∧ s.up .memory = true) ∧
    (∃ (s : State) (p : Port) (off : Nat), s.up .host = true ∧ s.up .memory = true ∧ s.bar4Takes (s.winBase p + off) = true) :=
  ⟨⟨live, by decide +kernel⟩,
    ⟨w_bar4ReadsAndWritesThroughTheWindow_1, .a, 7, by decide +kernel⟩⟩

def w_linksAndPortConditionsAct_0 : State :=
  let p : Port := .a
  let s : State := live
  s |>.withPort p fun x => { x with dlActive := false }

def w_linksAndPortConditionsAct_1 : State :=
  let p : Port := .a
  let s : State := live
  s |>.withPort p fun x => { x with dlActive := true }

def w_linksAndPortConditionsAct_2 : State :=
  let p : Port := .a
  let s : State := live
  s |>.withPort p fun x => { x with dlActive := true }

def w_linksAndPortConditionsAct_3 : State :=
  let p : Port := .a
  let s : State := live
  s |>.withPort p fun x => { x with dlActive := false }

def w_linksAndPortConditionsAct_4 : State :=
  let p : Port := .a
  w_linksAndPortConditionsAct_1 |>.withPort p (fun z => { z with dlActive := true }) |>.withStart
    (fun z => { z with retry := false })

def w_linksAndPortConditionsAct_5 : State :=
  let p : Port := .a
  w_linksAndPortConditionsAct_1 |>.withPort p (fun z => { z with dlActive := true }) |>.withStart
    (fun z => { z with retry := false })

def w_linksAndPortConditionsAct_6 : State :=
  let p : Port := .a
  w_linksAndPortConditionsAct_1 |>.withPort p (fun z => { z with dlActive := true }) |>.withStart
    (fun z => { z with retry := true })

theorem wit_linksAndPortConditionsAct :
    (∃ (s : State) (p : Port), s.up .host = true ∧ (s.port p).dlActive = false) ∧
    (∃ (s : State) (p : Port) (c : Instr), (s.port p).dlActive = true ∧ (c = .portLinkDown p ∨ c = .perstAssert p)) ∧
    (∃ (s : State) (p : Port) (c : Instr), (s.port p).dlActive = true ∧ (s.port p.other).evtReset = false ∧ s.load.stage =
      .idle ∧ s.cal.program = none ∧ (c = .portLinkDown p ∨ c = .perstAssert p)) ∧
    (∃ (s : State) (p : Port), (s.port p).dlActive = false) ∧
    (∃ (s : State) (p : Port), (s.port p).dlActive = true) ∧
    (∃ (s : State) (p : Port) (v : Word), (s.port p).dlActive = true ∧ s.start.retry = false ∧ v.toNat % 4 = 3) ∧
    (∃ (s : State) (p : Port) (v : Word), (s.port p).dlActive = true ∧ s.start.retry = false ∧ v.toNat % 4 = 0) ∧
    (∃ (s : State) (p : Port) (o : Nat) (v : Word), o % 4 = 0 ∧ (s.port p).dlActive = true ∧ s.start.retry = true) :=
  ⟨⟨w_linksAndPortConditionsAct_0, .a, by decide +kernel⟩,
    ⟨w_linksAndPortConditionsAct_1, .a, (let p : Port := .a; .portLinkDown p), by decide +kernel⟩,
    ⟨w_linksAndPortConditionsAct_2, .a, (let p : Port := .a; .perstAssert p), by decide +kernel⟩,
    ⟨w_linksAndPortConditionsAct_3, .a, by decide +kernel⟩,
    ⟨live, .a, by decide +kernel⟩,
    ⟨w_linksAndPortConditionsAct_4, .a, 3, by decide +kernel⟩,
    ⟨w_linksAndPortConditionsAct_5, .a, 0, by decide +kernel⟩,
    ⟨w_linksAndPortConditionsAct_6, .a, 0, 0, by decide +kernel⟩⟩

def w_semaphoresAreTakenPeekedAndLost_0 : State :=
  let n : Fin 256 := 0
  live |>.setHolder n (none)

def w_semaphoresAreTakenPeekedAndLost_1 : State :=
  let n : Fin 256 := 0
  let h : Holder := .engine
  live |>.setHolder n (some h)

def w_semaphoresAreTakenPeekedAndLost_2 : State :=
  let n : Fin 256 := 0
  live |>.setHolder n (none) |>.setHolder n none

def w_semaphoresAreTakenPeekedAndLost_9_90 : State :=
  let p : Port := .a
  let s : State := live
  let s : State := s |>.withPort p fun x => { x with lostPending := 2 }
  s |>.setHolder 9 (some (.cp p)) |>.setHolder 77 (some (.cp p)) |>.setHolder 3 (some (.cp p)) |>.set MP_CTL.fast_en 1

def w_semaphoresAreTakenPeekedAndLost_10 : State :=
  let p : Port := .a
  let s : State := live
  s |>.withPort p fun x => { x with lostPending := 2 }

def w_semaphoresAreTakenPeekedAndLost_11 : State :=
  let p : Port := .a
  w_semaphoresAreTakenPeekedAndLost_9_90 |>.setHolder 3 (some (.cp p))

def w_semaphoresAreTakenPeekedAndLost_12 : State :=
  w_semaphoresAreTakenPeekedAndLost_10

theorem wit_semaphoresAreTakenPeekedAndLost :
    (∃ (s : State) (n : Fin 256), s.up .host = true ∧ s.holder n = none) ∧
    (∃ (s : State) (n : Fin 256) (h : Holder), s.up .host = true ∧ s.holder n = some h) ∧
    (∃ (s : State) (n : Fin 256) (w : Port), s.up .host = true ∧ s.holder n = none ∧ (w = if s.sem.tieLoser.get none n = some
      .b then .b else .a)) ∧
    (∃ (s : State), s.up .host = true) ∧
    (∃ (s : State) (p : Port), 0 < (s.port p).lostPending ∧ (∃ m, m < 256 ∧ s.holder m = some (.cp p)) ∧ s.holder 3 = some
      (.cp p)) ∧
    (∃ (s : State) (p : Port), 0 < (s.port p).lostPending ∧ (∀ m, m < 256 → s.holder m ≠ some (.cp p))) :=
  ⟨⟨w_semaphoresAreTakenPeekedAndLost_0, 0, by decide +kernel⟩,
    ⟨w_semaphoresAreTakenPeekedAndLost_1, 0, .engine, by decide +kernel⟩,
    ⟨w_semaphoresAreTakenPeekedAndLost_2, 0, (let n : Fin 256 := 0; let s : State :=
      w_semaphoresAreTakenPeekedAndLost_2; if s.sem.tieLoser.get none n = some .b then .b else .a),
      by decide +kernel⟩,
    ⟨live, by decide +kernel⟩,
    ⟨w_semaphoresAreTakenPeekedAndLost_11, .a, by decide +kernel⟩,
    ⟨w_semaphoresAreTakenPeekedAndLost_12, .a, by decide +kernel⟩⟩

def w_vectorsSendOrWait_0 : State :=
  let p : Port := .a
  let v : Fin 2048 := 0
  let s : State := live
  s |>.withPort p fun x =>
      { x with dlActive := true, msixEn := true, fnMask := false, marks := x.marks.put false v true, msix := x.msix.put 1 (4 * v.val + 3) 0, lastMsg := [] }

def w_vectorsSendOrWait_1 : State :=
  let p : Port := .a
  let v : Fin 2048 := 0
  let s : State := live
  s |>.withPort p fun x => { x with dlActive := true, marks := x.marks.put false v true }

theorem wit_vectorsSendOrWait :
    (∃ (s : State) (p : Port) (v : Fin 2048), s.up .host = true ∧ (s.port p).dlActive = true ∧ (s.port p).marks.get false v =
      true ∧ (s.msixWord p (4 * v.val + 3)).getLsbD 0 = false ∧ s.gapOver p v = true) ∧
    (∃ (s : State) (p : Port) (v : Fin 2048) (en : Bool) (fm : Bool), s.up .host = true ∧ (s.port p).dlActive = true ∧
      (s.port p).marks.get false v = true ∧ ((s.msixWord p (4 * v.val + 3)).getLsbD 0 = true ∨ en = false ∨ fm = true)) ∧
    (∃ (s : State), s.up .host = true) ∧
    (∃ (s : State) (p q : Port) (n : Nat), s.up .host = true ∧ n = 20 + p.idx ∧ (s.port q).evtReset = false ∧
      s.flag (EVT_ROUTE.en q.idx n) = true ∧ bit (s.f (EVT_PEND.reg q.idx 0)) n = false) ∧
    (∃ (s : State) (p q : Port) (n : Nat), s.up .host = true ∧ n = 20 + p.idx ∧ (s.port q).evtReset = false ∧
      (s.flag (EVT_ROUTE.en q.idx n) = false ∨ bit (s.f (EVT_PEND.reg q.idx 0)) n = true)) ∧
    (∃ (s : State) (q : Port), (s.port q).evtReset = true) :=
  ⟨⟨w_vectorsSendOrWait_0, .a, 0, by decide +kernel⟩,
    ⟨w_vectorsSendOrWait_1, .a, 0, false, false, by decide +kernel⟩,
    ⟨live, by decide +kernel⟩,
    ⟨live.set (EVT_ROUTE.en 1 20) 1, .a, .b, 20, by decide +kernel⟩,
    ⟨live.set (EVT_PEND.reg 0 0) (2 ^ 21), .b, .a, 21, by decide +kernel⟩,
    ⟨State.reset, .a, by decide +kernel⟩⟩

def w_mirrorPortReadsRefusesAndGroupsUpdate_1 : State :=
  let s : State := live
  s |>.withMirror fun x => { x with snap := some (0x12, [1, 2, 3, 4]) }

def w_mirrorPortReadsRefusesAndGroupsUpdate_3 : State :=
  let s : State := live
  s |> fun s => { s with dom := { s.dom with host := .off } }

def w_mirrorPortReadsRefusesAndGroupsUpdate_5 : State :=
  let s : State := live
  s |>.withMirror fun x => { x with dirty := x.dirty.put false 20 true }

def w_mirrorPortReadsRefusesAndGroupsUpdate_6 : State :=
  w_mirrorPortReadsRefusesAndGroupsUpdate_5

def w_mirrorPortReadsRefusesAndGroupsUpdate_7 : State :=
  live

theorem wit_mirrorPortReadsRefusesAndGroupsUpdate :
    (∃ (s : State) (a : BitVec 16), s.up .host = true ∧ a.toNat < 0xFF00 ∧ a.toNat % 16 = 0) ∧
    (∃ (s : State) (a : BitVec 16) (ws : List Word), s.up .host = true ∧ a.toNat < 0xFF00 ∧ a.toNat % 16 ≠ 0 ∧ s.mirror.snap
      = some (a.toNat / 16, ws)) ∧
    (∃ (s : State) (a : BitVec 16), s.up .host = true ∧ a.toNat % 16 ≠ 0 ∧ (∀ g ws, s.mirror.snap = some (g, ws) → a.toNat /
      16 ≠ g)) ∧
    (∃ (s : State), s.up .host = false) ∧
    (∃ (s : State) (a : BitVec 16) (v : Word), s.up .host = true ∧ s.fcAccepts a.toNat v.toNat = false) ∧
    (∃ (s : State) (g : Fin 240), s.mirror.dirty.get false g = true ∧ Tab.get 0 s.mirror.updated g.val + mirrorInterval g ≤
      s.time.clk + 1 ∧ (∀ e ∈ s.gatheredWords g, 1 ≤ e.1 ∧ e.1 < 16)) ∧
    (∃ (s : State) (g : Fin 240), (s.mirror.dirty.get false g = false ∨ s.time.clk + 1 < Tab.get 0 s.mirror.updated g.val +
      mirrorInterval g)) :=
  ⟨⟨live, 0x0120, by decide +kernel⟩,
    ⟨w_mirrorPortReadsRefusesAndGroupsUpdate_1, 0x0123, [1, 2, 3, 4], by decide +kernel⟩,
    ⟨live, 0x0123, by decide +kernel, by decide +kernel, fun _ _ h => by cases (show none = some _ from h)⟩,
    ⟨w_mirrorPortReadsRefusesAndGroupsUpdate_3, by decide +kernel⟩,
    ⟨live, 0xFF20, 0, by decide +kernel⟩,
    ⟨w_mirrorPortReadsRefusesAndGroupsUpdate_6, 20, by decide +kernel⟩,
    ⟨w_mirrorPortReadsRefusesAndGroupsUpdate_7, 0, by decide +kernel⟩⟩

def w_fastControlsAct_0 : State :=
  live |>.set (MP_CTL.fast_en) 1 |>.set (MP_CTL.force_en) 1

def w_fastControlsAct_1 : State :=
  live |>.set (MP_CTL.fast_en) 1 |>.set (MP_CTL.arm_en) 1 |>.set (ENS_CTL.en) 0

def w_fastControlsAct_3 : State :=
  live |>.set (MP_CTL.fast_en) 1 |>.set (MP_CTL.fcd_en) 1

def w_fastControlsAct_4 : State :=
  live |>.set (MP_CTL.fast_en) 1 |>.set (MP_CTL.marker_en) 1

def w_fastControlsAct_5 : State :=
  let p : Port := .a
  live |>.setHolder 3 (some (.cp p))

def w_fastControlsAct_6 : State :=
  w_fastControlsAct_1 |>.set MP_CTL.fast_en 1 |>.set MP_CTL.arm_en 1 |>.setHolder 3 (some (.cp .a)) |>.set ENS_CTL.en 1
    |>.set ENS_SCOPE_COND.reg 1

def w_fastControlsAct_7 : State :=
  w_fastControlsAct_0

def w_fastControlsAct_8 : State :=
  State.reset

def w_fastControlsAct_9 : State :=
  w_fastControlsAct_0

theorem wit_fastControlsAct :
    (∃ (s : State), s.up .host = true ∧ s.flag MP_CTL.fast_en = true ∧ s.flag MP_CTL.force_en = true) ∧
    (∃ (s : State), s.up .host = true ∧ s.flag MP_CTL.fast_en = true ∧ s.flag MP_CTL.fcd_en = true) ∧
    (∃ (s : State) (v : Word), s.up .host = true ∧ s.flag MP_CTL.fast_en = true ∧ s.flag MP_CTL.marker_en = true ∧ v.toNat <
      65536) ∧
    (∃ (s : State) (p : Port), s.accepts p MP_CTL.reg.addr (some 3)) ∧
    (∃ (s : State) (hi : Bool) (on : Bool) (v : Word) (i : Instr), s.up .host = true ∧ s.flag MP_CTL.fast_en = true ∧ s.flag
      MP_CTL.arm_en = true ∧ (i, on) ∈ [(.fcArm hi v, true), (.fcDisarm hi v, false)] ∧ (∃ c, c < 32 ∧ bit v.toNat c = true
      ∧ s.ensScoped ENS_SCOPE_COND.reg (c + 32 * b2n hi) = true)) ∧
    (∃ (s : State) (c : Instr) (a : Nat) (v : Word) (hi : Bool), s.up .host = true ∧ (c, a) ∈ [(.fcForce hi v, 0xFF00 + b2n
      hi), (.fcArm hi v, 0xFF02 + b2n hi), (.fcDisarm hi v, 0xFF04 + b2n hi), (.fcFcdClear v, 0xFF08), (.fcMarker v,
      0xFF0C)] ∧ s.fcAccepts a v.toNat = false) ∧
    (∃ (s : State) (hi : Bool) (v : Word) (c : Instr), s.up .host = false ∧ c ∈ [Instr.fcForce hi v, .fcArm hi v, .fcDisarm
      hi v, .fcFcdClear v, .fcMarker v]) ∧
    (∃ (s : State) (p : Port) (v : Word), s.reachable MP_CTL.reg.addr = true ∧ s.holder 3 ≠ some (.cp p)) :=
  ⟨⟨w_fastControlsAct_0, by decide +kernel⟩,
    ⟨w_fastControlsAct_3, by decide +kernel⟩,
    ⟨w_fastControlsAct_4, 0x1234, by decide +kernel⟩,
    ⟨w_fastControlsAct_5, .a, accepts_of (by decide +kernel) (by decide +kernel)⟩,
    ⟨w_fastControlsAct_6, false, true, 1, .fcArm false 1, by decide +kernel⟩,
    ⟨w_fastControlsAct_7, .fcArm false 1, 0xFF02, 1, false, by decide +kernel⟩,
    ⟨w_fastControlsAct_8, false, 0, .fcMarker 0, by decide +kernel⟩,
    ⟨w_fastControlsAct_9, .a, 0, by decide +kernel⟩⟩

def w_imageLoadsStartWaitOrAreBusy_0 : State :=
  let p : Port := .a
  live |>.setHolder 1 (some (.cp p)) |>.set GLB_ID.reg GLB_ID.reg.rst |>.set IMG_SRC.reg 0 |>.set IMG_LEN.reg 1024 |>.set
      WEAR_STATUS.repairing 0 |>.set PWR_STATUS.busy 0

def w_imageLoadsStartWaitOrAreBusy_1 : State :=
  let p : Port := .a
  live |>.setHolder 1 (some (.cp p)) |>.set WEAR_STATUS.repairing 0 |>.set PWR_STATUS.busy 0

def w_imageLoadsStartWaitOrAreBusy_3 : State :=
  let p : Port := .a
  live |>.setHolder 1 (some (.cp p)) |>.set WEAR_STATUS.repairing 1

def w_imageLoadsStartWaitOrAreBusy_4 : State :=
  let q : LoadReq := { unload := false, origin := .cp .a, src := 0, dry := false, avsRaise := false, mask := 0 }
  let s : State := live |>.set GLB_ID.reg GLB_ID.reg.rst |>.set IMG_SRC.reg 0 |>.set IMG_LEN.reg 1024 |>.set
      WEAR_STATUS.repairing 0 |>.set PWR_STATUS.busy 0
  s |>.withLoad fun x => { x with waiting := some q }

def w_imageLoadsStartWaitOrAreBusy_5 : State :=
  let p : Port := .a
  w_imageLoadsStartWaitOrAreBusy_0 |>.setHolder 1 (some (.cp p)) |>.withLoad (fun z => { z with waiting := some lreq })

def w_imageLoadsStartWaitOrAreBusy_6 : State :=
  let q : LoadReq := lreq
  w_imageLoadsStartWaitOrAreBusy_3 |>.withLoad (fun z => { z with waiting := some q })

def w_imageLoadsStartWaitOrAreBusy_7 : State :=
  let q : LoadReq := { lreq with unload := true, mask := 1 }
  w_imageLoadsStartWaitOrAreBusy_4 |>.withLoad (fun z => { z with waiting := some q }) |>.withLoad
    (fun z => { z with stage := .idle })

theorem wit_imageLoadsStartWaitOrAreBusy :
    (∃ (s : State) (p : Port) (v : Word) (b : List Byte), s.accepts p IMG_CTL.reg.addr (some 1) ∧ bit v.toNat 5 = false ∧
      bits v.toNat 2 2 = 0 ∧ s.load.stage = .idle ∧ s.load.waiting = none ∧ s.loadMustWait = false ∧ s.headCheck
      (State.goReq p v.toNat) (s.f IMG_SRC.reg) (s.f IMG_LEN.reg) b = none) ∧
    (∃ (s : State) (p : Port) (v : Word), s.accepts p IMG_CTL.reg.addr (some 1) ∧ bit v.toNat 5 = false ∧ bits v.toNat 2 2 =
      0 ∧ s.load.stage = .idle ∧ s.load.waiting = none ∧ s.loadMustWait = false) ∧
    (∃ (s : State) (p : Port) (v : Word), s.accepts p IMG_CTL.reg.addr (some 1) ∧ bit v.toNat 5 = false ∧ s.load.stage =
      .idle ∧ s.load.waiting = none ∧ s.loadMustWait = true) ∧
    (∃ (s : State) (q : LoadReq) (b : List Byte), s.load.waiting = some q ∧ q.unload = false ∧ q.src = 0 ∧ s.load.stage =
      .idle ∧ s.loadMustWait = false ∧ s.headCheck q (s.f IMG_SRC.reg) (s.f IMG_LEN.reg) b = none) ∧
    (∃ (s : State) (p : Port) (v : Word) (head : Option (List Byte)), s.accepts p IMG_CTL.reg.addr (some 1) ∧ bit v.toNat 5
      = false ∧ (s.load.stage ≠ .idle ∨ s.load.waiting ≠ none)) ∧
    (∃ (s : State) (q : LoadReq) (b : Option (List Byte)), s.load.waiting = some q ∧ s.loadMustWait = true) ∧
    (∃ (s : State) (q : LoadReq) (b : Option (List Byte)), s.load.waiting = some q ∧ s.loadMustWait = false ∧ s.load.stage =
      .idle ∧ q.unload = true ∧ s.maskPresent q.mask = true ∧ s.maskWhole q.mask = true) :=
  ⟨⟨w_imageLoadsStartWaitOrAreBusy_0, .a, 1, img, accepts_of (by decide +kernel) (by decide +kernel), by decide +kernel⟩,
    ⟨w_imageLoadsStartWaitOrAreBusy_1, .a, 1, accepts_of (by decide +kernel) (by decide +kernel), by decide +kernel⟩,
    ⟨w_imageLoadsStartWaitOrAreBusy_3, .a, 1, accepts_of (by decide +kernel) (by decide +kernel), by decide +kernel⟩,
    ⟨w_imageLoadsStartWaitOrAreBusy_4,
      { unload := false, origin := .cp .a, src := 0, dry := false, avsRaise := false, mask := 0 }, img,
      by decide +kernel⟩,
    ⟨w_imageLoadsStartWaitOrAreBusy_5, .a, 1, none, accepts_of (by decide +kernel) (by decide +kernel), by decide +kernel⟩,
    ⟨w_imageLoadsStartWaitOrAreBusy_6, lreq, none, by decide +kernel⟩,
    ⟨w_imageLoadsStartWaitOrAreBusy_7, { lreq with unload := true, mask := 1 }, none, by decide +kernel⟩⟩

def w_imageChecksLeadToAdmission_0 : State :=
  let s : State := live |>.set GLB_ID.reg GLB_ID.reg.rst
  let s : State := s |>.withLoad fun x => { x with stage := .fetch, len := 1024 }
  s |>.withFuse fun x => { x with enrolled := 1, hash := [(0, State.keyHash (img.drop 768))] }

def w_imageChecksLeadToAdmission_1 : State :=
  let p : Port := .a
  let s : State := live |>.set GLB_ID.reg GLB_ID.reg.rst
  s |>.withLoad fun x => { x with stage := .fetch, len := 1024, req := { x.req with origin := .cp p } }

def w_imageChecksLeadToAdmission_2 : State :=
  let s : State := live
  s |>.withLoad fun x => { x with stage := .stage, digest1 := (stage imgTile).digest }

def w_imageChecksLeadToAdmission_3 : State :=
  let g : Staged := stage img
  let s : State := live
  s |>.withLoad fun x => { x with stage := .admitting, staged := some g }

def w_imageChecksLeadToAdmission_4 : State :=
  let g : Staged := stage img
  let s : State := live
  let s : State := s |>.withLoad fun x => { x with stage := .admitting, staged := some g }
  let s : State := s |>.withTime fun x => { x with tick := 0x5000000 }
  s |> fun s => { s with fab := { s.fab with sweepTick := 0x5000000 } }

def w_imageChecksLeadToAdmission_4_90 : State :=
  let g : Staged := stage img
  let s : State := live
  let s : State := s |>.withLoad fun x => { x with stage := .admitting, staged := some g }
  let s : State := s |>.withTime fun x => { x with tick := 0x5000000 }
  let s : State := s |> fun s => { s with fab := { s.fab with sweepTick := 0x5000000 } }
  s |>.withLoad fun x => { x with req := { x.req with dry := true } }

def w_imageChecksLeadToAdmission_5 : State :=
  w_imageChecksLeadToAdmission_0 |>.withLoad (fun z => { z with stage := .verify }) |>.withLoad
    (fun z => { z with verdict := none })

def w_imageChecksLeadToAdmission_6 : State :=
  let c : Nat := 0
  let p : Port := .a
  w_imageChecksLeadToAdmission_1 |>.withLoad (fun z => { z with stage := .verify }) |>.withLoad
    (fun z => { z with verdict := some c }) |>.withLoad (fun z => { z with req.origin := .cp p })

def w_imageChecksLeadToAdmission_7 : State :=
  let g : Staged := stage img
  let from_ : Nat := 0
  w_imageChecksLeadToAdmission_3 |>.withLoad (fun z => { z with stage := .admitting }) |>.withLoad
    (fun z => { z with staged := some g }) |>.withLoad (fun z => { z with awaiting := true }) |>.withLoad
    (fun z => { z with raiseFrom := some from_ }) |>.withTime (fun z => { z with clk := 0 })

def w_imageChecksLeadToAdmission_8 : State :=
  let g : Staged := stage img
  w_imageChecksLeadToAdmission_3 |>.withLoad (fun z => { z with stage := .admitting }) |>.withLoad
    (fun z => { z with staged := some g }) |>.withLoad (fun z => { z with awaiting := false })

def w_imageChecksLeadToAdmission_9 : State :=
  let g : Staged := stage img
  w_imageChecksLeadToAdmission_4 |>.withLoad (fun z => { z with stage := .admitting }) |>.withLoad
    (fun z => { z with staged := some g }) |>.withLoad (fun z => { z with awaiting := false }) |>.withLoad
    (fun z => { z with req.avsRaise := false }) |>.withLoad (fun z => { z with req.dry := false })

def w_imageChecksLeadToAdmission_10 : State :=
  let g : Staged := stage img
  w_imageChecksLeadToAdmission_4_90 |>.withLoad (fun z => { z with stage := .admitting }) |>.withLoad
    (fun z => { z with staged := some g }) |>.withLoad (fun z => { z with awaiting := false }) |>.withLoad
    (fun z => { z with req.avsRaise := false }) |>.withLoad (fun z => { z with req.dry := true })

theorem wit_imageChecksLeadToAdmission :
    (∃ (s : State) (b : List Byte), s.load.stage = .fetch ∧ s.load.req.src = 0 ∧ s.headCheck s.load.req s.load.addr
      s.load.len b = none ∧ State.crcsRight b = true ∧ s.authCheck b = none) ∧
    (∃ (s : State) (p : Port) (b : List Byte), s.load.stage = .fetch ∧ s.load.req.src = 0 ∧ s.load.req.origin = .cp p ∧
      s.headCheck s.load.req s.load.addr s.load.len b = none ∧ State.crcsRight b = false) ∧
    (∃ (s : State) (b : List Byte), s.load.stage = .stage ∧ s.load.req.src = 0 ∧ (stage b).digest = s.load.digest1 ∧
      s.recordCheck b (stage b) = none) ∧
    (∃ (s : State) (b : Option (List Byte)), s.load.stage = .verify ∧ s.load.verdict = none) ∧
    (∃ (s : State) (b : Option (List Byte)) (c : Nat) (p : Port), s.load.stage = .verify ∧ s.load.verdict = some c ∧ c <
      0x12 ∧ s.load.req.origin = .cp p) ∧
    (∃ (s : State) (g : Staged) (from_ : Nat), s.load.stage = .admitting ∧ s.load.staged = some g ∧ s.load.awaiting = true ∧
      s.load.raiseFrom = some from_ ∧ s.time.clk < from_ + 12800000) ∧
    (∃ (s : State) (g : Staged), s.load.stage = .admitting ∧ s.load.staged = some g ∧ s.load.awaiting = false ∧ s.sweepFresh
      = false) ∧
    (∃ (s : State) (g : Staged), s.load.stage = .admitting ∧ s.load.staged = some g ∧ s.load.awaiting = false ∧ s.sweepFresh
      = true ∧ s.load.req.avsRaise = false ∧ s.regInitScope g.pathMask g.regInit = true ∧ (∀ p : Fin 4, s.pathCode g false p
      = 0) ∧ 100 * s.capWritesAfter g ≤ 60 * s.memBandwidth ∧ s.load.req.dry = false) ∧
    (∃ (s : State) (g : Staged), s.load.stage = .admitting ∧ s.load.staged = some g ∧ s.load.awaiting = false ∧ s.sweepFresh
      = true ∧ s.load.req.avsRaise = false ∧ s.regInitScope g.pathMask g.regInit = true ∧ (∀ p : Fin 4, s.pathCode g false p
      = 0) ∧ 100 * s.capWritesAfter g ≤ 60 * s.memBandwidth ∧ s.load.req.dry = true) :=
  ⟨⟨w_imageChecksLeadToAdmission_0, img, by decide +kernel⟩,
    ⟨w_imageChecksLeadToAdmission_1, .a, img.set 272 1, by decide +kernel⟩,
    ⟨w_imageChecksLeadToAdmission_2, imgTile, by decide +kernel⟩,
    ⟨w_imageChecksLeadToAdmission_5, none, by decide +kernel⟩,
    ⟨w_imageChecksLeadToAdmission_6, none, 0, .a, by decide +kernel⟩,
    ⟨w_imageChecksLeadToAdmission_7, stage img, 0, by decide +kernel⟩,
    ⟨w_imageChecksLeadToAdmission_8, stage img, by decide +kernel⟩,
    ⟨w_imageChecksLeadToAdmission_9, stage img, by decide +kernel⟩,
    ⟨w_imageChecksLeadToAdmission_10, stage img, by decide +kernel⟩⟩

def w_loadsAbortUnloadAndSwitchOver_0 : State :=
  let p : Port := .a
  let s : State := live |>.setHolder 1 (some (.cp p))
  s |>.withLoad fun x => { x with stage := .fetch, req := { x.req with origin := .cp .b } }

def w_loadsAbortUnloadAndSwitchOver_1 : State :=
  let p : Port := .a
  live |>.setHolder 1 (some (.cp p)) |>.set WEAR_STATUS.repairing 0 |>.set PWR_STATUS.busy 0 |>.set GLB_ID.reg GLB_ID.reg.rst
      |>.set GLB_MODE.reg 0

def w_loadsAbortUnloadAndSwitchOver_2 : State :=
  let s : State := live
  s |>.withLoad fun x => { x with stage := .ready, staged := some (stage img) }

def w_loadsAbortUnloadAndSwitchOver_3 : State :=
  let s : State := live
  s |>.withLoad fun x => { x with stage := .drain, staged := some (stage img), req := { x.req with origin := .cp .a } }

def w_loadsAbortUnloadAndSwitchOver_4 : State :=
  let p : Port := .a
  let q : Port := .b
  w_loadsAbortUnloadAndSwitchOver_0 |>.setHolder 1 (some (.cp p)) |>.withLoad (fun z => { z with req.origin := .cp q })
    |>.withLoad (fun z => { z with waiting := none })

def w_loadsAbortUnloadAndSwitchOver_5 : State :=
  let p : Port := .a
  w_loadsAbortUnloadAndSwitchOver_0 |>.setHolder 1 (some (.cp p)) |>.withLoad
    (fun z => { z with stage := .idle, waiting := some lreq })

def w_loadsAbortUnloadAndSwitchOver_6 : State :=
  let p : Port := .a
  w_loadsAbortUnloadAndSwitchOver_0 |>.setHolder 1 (some (.cp p)) |>.withLoad (fun z => { z with stage := .idle })
    |>.withLoad (fun z => { z with waiting := none })

def w_loadsAbortUnloadAndSwitchOver_7 : State :=
  w_loadsAbortUnloadAndSwitchOver_3 |>.withLoad (fun z => { z with stage := .drain })

def w_loadsAbortUnloadAndSwitchOver_8 : State :=
  w_loadsAbortUnloadAndSwitchOver_3 |>.withPath 0 (fun z => { z with window := [slot .void] })

theorem wit_loadsAbortUnloadAndSwitchOver :
    (∃ (s : State) (p : Port) (v : Word), s.accepts p IMG_UNLOAD.reg.addr (some 1) ∧ v.toNat % 16 ≠ 0 ∧ s.load.stage = .idle
      ∧ s.load.waiting = none ∧ s.loadMustWait = false ∧ s.maskPresent (v.toNat % 16) = true ∧ s.maskWhole (v.toNat % 16)
      = true) ∧
    (∃ (s : State), s.load.stage = .ready) ∧
    (∃ (s : State) (p : Port) (q : Port) (v : Word), s.accepts p IMG_CTL.reg.addr (some 1) ∧ bit v.toNat 0 = false ∧
      (s.load.stage = .fetch ∨ s.load.stage = .verify ∨ s.load.stage = .stage ∨ s.load.stage = .admitting ∨ s.load.stage =
      .ready) ∧ s.load.req.origin = .cp q ∧ s.load.waiting = none) ∧
    (∃ (s : State) (p : Port) (v : Word), s.accepts p IMG_CTL.reg.addr (some 1) ∧ bit v.toNat 0 = false ∧ s.load.stage =
      .idle ∧ s.load.waiting ≠ none) ∧
    (∃ (s : State) (p : Port) (v : Word), s.accepts p IMG_CTL.reg.addr (some 1) ∧ bit v.toNat 0 = false ∧ s.load.stage =
      .idle ∧ s.load.waiting = none) ∧
    (∃ (s : State), s.load.stage = .drain ∧ (∀ p : Fin 4, bit s.loadMask p = true → s.framesHeld p = 0) ∧ s.load.req.origin
      ≠ .boot) ∧
    (∃ (s : State) (p : Fin 4), bit s.loadMask p = true ∧ s.framesHeld p ≠ 0) :=
  ⟨⟨w_loadsAbortUnloadAndSwitchOver_1, .a, 0x80000001, accepts_of (by decide +kernel) (by decide +kernel),
      by decide +kernel⟩,
    ⟨w_loadsAbortUnloadAndSwitchOver_2, by decide +kernel⟩,
    ⟨w_loadsAbortUnloadAndSwitchOver_4, .a, .b, 0x20, accepts_of (by decide +kernel) (by decide +kernel), by decide +kernel⟩,
    ⟨w_loadsAbortUnloadAndSwitchOver_5, .a, 0x20, accepts_of (by decide +kernel) (by decide +kernel), by decide +kernel⟩,
    ⟨w_loadsAbortUnloadAndSwitchOver_6, .a, 0x20, accepts_of (by decide +kernel) (by decide +kernel), by decide +kernel⟩,
    ⟨w_loadsAbortUnloadAndSwitchOver_7, by decide +kernel⟩,
    ⟨w_loadsAbortUnloadAndSwitchOver_8, 0, by decide +kernel⟩⟩

def w_fuseOperationsRunAndComplete_0_0 : State :=
  let p : Port := .a
  live |>.setHolder 1 (some (.cp p))

def w_fuseOperationsRunAndComplete_0_1 : State :=
  let p : Port := .a
  let s : State := live |>.setHolder 1 (some (.cp p))
  s |>.withFuse fun x => { x with running := some { op := 3, arg := 7, hash := [] } }

def w_fuseOperationsRunAndComplete_1 : State :=
  let q : FuseOp := { op := 3, arg := 7, hash := [] }
  let s : State := live
  s |>.withFuse fun x => { x with running := some q }

def w_fuseOperationsRunAndComplete_1_90 : State :=
  let q : FuseOp := { op := 1, arg := 5, hash := [1, 2] }
  let s : State := live
  let s : State := s |>.withFuse fun x => { x with running := some q }
  s |>.withFuse fun x => { x with running := some { op := 1, arg := 5, hash := [1, 2] } }

def w_fuseOperationsRunAndComplete_1_91 : State :=
  let q : FuseOp := { op := 2, arg := 5, hash := [] }
  let s : State := live
  let s : State := s |>.withFuse fun x => { x with running := some q }
  s |>.withFuse fun x => { x with running := some { op := 2, arg := 5, hash := [] } }

theorem wit_fuseOperationsRunAndComplete :
    (∃ (s : State) (p : Port) (v : Word) (c : Instr) (op : Nat), s.accepts p IMG_KEY_CTL.reg.addr (some 1) ∧ ((c = .keyEnrol
      p v ∧ op = 1) ∨ (c = .keyRevoke p v ∧ op = 2) ∨ (c = .keySetSvn p v ∧ op = 3)) ∧ s.fuseRefuses (insertBits v.toNat
      12 4 op) = false) ∧
    (∃ (s : State) (p : Port) (v : Word) (c : Instr) (op : Nat), s.accepts p IMG_KEY_CTL.reg.addr (some 1) ∧ ((c = .keyEnrol
      p v ∧ op = 1) ∨ (c = .keyRevoke p v ∧ op = 2) ∨ (c = .keySetSvn p v ∧ op = 3)) ∧ s.fuseRefuses (insertBits v.toNat
      12 4 op) = true) ∧
    (∃ (s : State) (q : FuseOp), s.fuse.running = some q ∧ s.start.due = none ∧ (q.op = 3)) ∧
    (∃ (s : State) (q : FuseOp), s.fuse.running = some q ∧ s.start.due = none ∧ (q.op = 1)) ∧
    (∃ (s : State) (q : FuseOp), s.fuse.running = some q ∧ s.start.due = none ∧ (q.op = 2)) :=
  ⟨⟨w_fuseOperationsRunAndComplete_0_0, .a, 0xF05E1001, (let p : Port := .a; .keyEnrol p 0xF05E1001), 1, accepts_of
      (by decide +kernel) (by decide +kernel), by decide +kernel⟩,
    ⟨w_fuseOperationsRunAndComplete_0_1, .a, 0xF05E1001, (let p : Port := .a; .keyEnrol p 0xF05E1001), 1, accepts_of
      (by decide +kernel) (by decide +kernel), by decide +kernel⟩,
    ⟨w_fuseOperationsRunAndComplete_1, { op := 3, arg := 7, hash := [] }, by decide +kernel⟩,
    ⟨w_fuseOperationsRunAndComplete_1_90, { op := 1, arg := 5, hash := [1, 2] }, by decide +kernel⟩,
    ⟨w_fuseOperationsRunAndComplete_1_91, { op := 2, arg := 5, hash := [] }, by decide +kernel⟩⟩

def w_blocksEnterTheFabric_0 : State :=
  let n : Fin 4 := 0
  let s : State := live
  s |>.withConv n fun x => { x with sent := some blk, tries := 0 }

def w_blocksEnterTheFabric_1 : State :=
  let n : Fin 4 := 0
  let s : State := live
  s |>.withConv n fun x => { x with sent := some blk, tries := 1 }

def w_blocksEnterTheFabric_2 : State :=
  let p : Fin 4 := 1
  let s : State := live |>.set (State.modeLoc p) 1
  s |>.withPath p fun y => { y with entry := [blk, blk] }

def w_blocksEnterTheFabric_3 : State :=
  let p : Fin 4 := 1
  let s : State := live |>.set (State.modeLoc p) 1
  s |>.withPath p fun y => { y with entry := [blk, blk], eb := List.replicate 2048 blk }

def w_blocksEnterTheFabric_4 : State :=
  let n : Fin 4 := 0
  w_blocksEnterTheFabric_0 |>.withConv n (fun z => { z with sent := none }) |>.set (CNV_STATUS.state n) 2 |>.set
    (CNV_STATUS.route n) 0

def w_blocksEnterTheFabric_5 : State :=
  let n : Fin 4 := 0
  let b : Parcel := blk
  w_blocksEnterTheFabric_1 |>.withConv n (fun z => { z with sent := some b })

def w_blocksEnterTheFabric_6 : State :=
  live |>.set (State.modeLoc 0) 1 |>.set (CNV_STATUS.state 0) 2 |>.withConv 0
    (fun z => { z with sent := some blk, tries := 2 })

def w_blocksEnterTheFabric_7 : State :=
  let n : Fin 4 := 0
  w_blocksEnterTheFabric_0 |>.withConv n (fun z => { z with sent := none })

def w_blocksEnterTheFabric_8 : State :=
  let p : Fin 4 := 1
  let x : Parcel := blk
  let xs : List Parcel := [blk]
  w_blocksEnterTheFabric_2 |>.withPath p (fun z => { z with entry := x :: xs }) |>.withPath p
    (fun z => { z with stopped := false })

def w_blocksEnterTheFabric_9 : State :=
  let p : Fin 4 := 1
  let x : Parcel := blk
  let xs : List Parcel := [blk]
  w_blocksEnterTheFabric_3 |>.withPath p
    (fun z => { z with entry := x :: xs, stopped := false, eb := List.replicate 2048 blk })

def w_blocksEnterTheFabric_10 : State :=
  let p : Fin 4 := 1
  let x : Parcel := blk
  let xs : List Parcel := [blk]
  w_blocksEnterTheFabric_2 |>.withPath p (fun z => { z with entry := x :: xs }) |>.withPath p
    (fun z => { z with stopped := false }) |>.set (State.modeLoc p) 8

def w_blocksEnterTheFabric_11 : State :=
  let p : Fin 4 := 0
  w_blocksEnterTheFabric_0 |>.withPath p (fun z => { z with entry := [] })

theorem wit_blocksEnterTheFabric :
    (∃ (s : State) (n : Fin 4) (b : Parcel) (got : List Byte), (s.conv n).sent = some b ∧ (s.conv n).tries = 0 ∧ field got 1
      1 = 1 ∧ (crc32c (got.take 28 ++ (got.drop 32).take (field got 4 2))).toNat = field got 28 4) ∧
    (∃ (s : State) (n : Fin 4) (at_ : Stamp) (samples : List Int) (lane : Fin 52), s.delivers n = true ∧ (s.conv n).sent =
      none) ∧
    (∃ (s : State) (n : Fin 4) (at_ : Stamp) (samples : List Int) (b : Parcel) (got : List Byte) (lane : Fin 52), (s.conv
      n).sent = some b ∧ (field got 1 1 ≠ 1 ∨ (crc32c (got.take 28 ++ (got.drop 32).take (field got 4 2))).toNat ≠ field got
      28 4) ∧ (s.conv n).tries < 2) ∧
    (∃ (s : State) (n : Fin 4) (at_ : Stamp) (samples : List Int) (b : Parcel) (got : List Byte) (lane : Fin 52), (s.conv
      n).sent = some b ∧ (field got 1 1 ≠ 1 ∨ (crc32c (got.take 28 ++ (got.drop 32).take (field got 4 2))).toNat ≠ field got
      28 4) ∧ 2 ≤ (s.conv n).tries ∧ s.realTime n = true ∧ s.wideUpper n = false) ∧
    (∃ (s : State) (n : Fin 4) (at_ : Stamp) (samples : List Int) (rx : Option (List Byte)) (lane : Fin 52), s.delivers n =
      false ∧ (s.conv n).sent = none) ∧
    (∃ (s : State) (p : Fin 4) (x : Parcel) (xs : List Parcel), (s.path p).entry = x :: xs ∧ (s.path p).stopped = false ∧
      s.realTime p = true ∧ s.wideUpper p = false ∧ (s.path p).eb.length < s.ebSlots p ∧ ((s.path p).dropping = false ∨
      (s.path p).eb.length ≤ s.ebResume p)) ∧
    (∃ (s : State) (p : Fin 4) (x : Parcel) (xs : List Parcel), (s.path p).entry = x :: xs ∧ (s.path p).stopped = false ∧
      s.realTime p = true ∧ s.wideUpper p = false ∧ (s.ebSlots p ≤ (s.path p).eb.length ∨ (s.path p).dropping = true ∧
      s.ebResume p < (s.path p).eb.length)) ∧
    (∃ (s : State) (p : Fin 4) (x : Parcel) (xs : List Parcel), (s.path p).entry = x :: xs ∧ (s.path p).stopped = false ∧
      (s.realTime p = false ∨ s.wideUpper p = true)) ∧
    (∃ (s : State) (p : Fin 4), (s.path p).entry = []) :=
  ⟨⟨w_blocksEnterTheFabric_0, 0, blk, gotOk, by decide +kernel⟩,
    ⟨w_blocksEnterTheFabric_4, 0, { tick := 5, phase := 6 }, [1, 2], 0, by decide +kernel⟩,
    ⟨w_blocksEnterTheFabric_5, 0, { tick := 5, phase := 6 }, [], blk, gotOk.set 1 2, 0, by decide +kernel⟩,
    ⟨w_blocksEnterTheFabric_6, 0, { tick := 5, phase := 6 }, [], blk, gotOk.set 1 2, 0, by decide +kernel⟩,
    ⟨w_blocksEnterTheFabric_7, 0, { tick := 5, phase := 6 }, [], none, 0, by decide +kernel⟩,
    ⟨w_blocksEnterTheFabric_8, 1, blk, [blk], by decide +kernel⟩,
    ⟨w_blocksEnterTheFabric_9, 1, blk, [blk], by decide +kernel⟩,
    ⟨w_blocksEnterTheFabric_10, 1, blk, [blk], by decide +kernel⟩,
    ⟨w_blocksEnterTheFabric_11, 0, by decide +kernel⟩⟩

def w_pathsAndTilesMoveBlocks_0 : State :=
  let p : Fin 4 := 0
  let s : State := live |>.set (State.modeLoc p) 1
  s |>.withPath p fun y => { y with eb := [blk, blk], img := some pimg }

def w_pathsAndTilesMoveBlocks_1 : State :=
  let p : Fin 4 := 0
  let s : State := live
  s |>.withPath p fun z => { z with window := [slot (.parcel blk), slot .empty] }

def w_pathsAndTilesMoveBlocks_2 : State :=
  let p : Fin 4 := 0
  let s : State := live
  s |>.withPath p fun z => { z with window := [slot .void, slot .empty] }

def w_pathsAndTilesMoveBlocks_3 : State :=
  let s : State := live
  let s : State := s |>.withPath 0 fun z => { z with img := some pimg }
  s |>.set (IMG_RETIRED.rows 0) 0

def w_pathsAndTilesMoveBlocks_6 : State :=
  let s : State := live |>.set (GLB_PCLK.nrt_stopped) 0 |>.set (State.modeLoc 0) 7 |>.set GLB_MODE.running 1 |>.set
      (CAP_REGION_STATUS.exists_ 0) 1 |>.set (CAP_REGION_SRC.fmt 0) 0 |>.set MEM_SUMMARY.capacity 1
  let s : State := s |>.withRegion 0 fun r => { r with base := 0, sizeLog2 := 20 }
  let s : State := s |>.memWrite 0 gapBytes
  s |>.withPath 0 fun z => { z with img := some pimg, replayOn := true }

def w_pathsAndTilesMoveBlocks_6_90 : State :=
  let s : State := live |>.set (GLB_PCLK.nrt_stopped) 0 |>.set (State.modeLoc 0) 7 |>.set GLB_MODE.running 1 |>.set
      (CAP_REGION_STATUS.exists_ 0) 1 |>.set (CAP_REGION_SRC.fmt 0) 0 |>.set MEM_SUMMARY.capacity 1
  let s : State := s |>.withRegion 0 fun r => { r with base := 0, sizeLog2 := 20 }
  let s : State := s |>.memWrite 0 gapBytes
  let s : State := s |>.withPath 0 fun z => { z with img := some pimg, replayOn := true }
  s |>.withPath 0 fun z => { z with replayRead := 32 }

def w_pathsAndTilesMoveBlocks_7 : State :=
  let p : Fin 4 := 0
  let x : Parcel := blk
  let xs : List Parcel := [blk]
  w_pathsAndTilesMoveBlocks_0 |>.withPath p (fun z => { z with eb := x :: xs }) |>.withPath p
    (fun z => { z with stopped := false })

def w_pathsAndTilesMoveBlocks_9 : State :=
  let p : Fin 4 := 0
  let y : Slot := slot (.parcel blk)
  let ys : List Slot := [slot .empty]
  w_pathsAndTilesMoveBlocks_1 |>.withPath p (fun z => { z with window := y :: ys }) |>.withPath p
    (fun z => { z with gaps := [] }) |>.withPath p (fun z => { z with gapStreams := [] }) |>.withPath p
    (fun z => { z with invalid := [] })

def w_pathsAndTilesMoveBlocks_10 : State :=
  let p : Fin 4 := 0
  let y : Slot := slot (.parcel blk)
  let ys : List Slot := [slot .empty]
  w_pathsAndTilesMoveBlocks_1 |>.withPath p (fun z => { z with window := y :: ys }) |>.withPath p
    (fun z => { z with gaps := [] }) |>.withPath p (fun z => { z with gapStreams := [0] })

def w_pathsAndTilesMoveBlocks_11 : State :=
  w_pathsAndTilesMoveBlocks_3

def w_pathsAndTilesMoveBlocks_12 : State :=
  w_pathsAndTilesMoveBlocks_3

def w_pathsAndTilesMoveBlocks_13 : State :=
  w_pathsAndTilesMoveBlocks_3

def w_pathsAndTilesMoveBlocks_14 : State :=
  let p : Fin 4 := 0
  w_pathsAndTilesMoveBlocks_6 |>.withPath p (fun z => { z with replayOn := true }) |>.set GLB_PCLK.nrt_stopped 0

def w_pathsAndTilesMoveBlocks_15 : State :=
  let p : Fin 4 := 0
  w_pathsAndTilesMoveBlocks_6_90 |>.withPath p (fun z => { z with replayOn := true }) |>.set GLB_PCLK.nrt_stopped 0

def w_pathsAndTilesMoveBlocks_16 : State :=
  let p : Fin 4 := 0
  let x : Parcel := blk
  let xs : List Parcel := [blk]
  w_pathsAndTilesMoveBlocks_7 |>.withPath p (fun z => { z with eb := x :: xs }) |>.withPath p
    (fun z => { z with stopped := false }) |>.withPath p (fun z => { z with window := List.replicate 5000 (slot .void) })

def w_pathsAndTilesMoveBlocks_17 : State :=
  let p : Fin 4 := 0
  let y : Slot := slot (.parcel { blk with kind := .gap })
  let ys : List Slot := [slot .empty]
  w_pathsAndTilesMoveBlocks_1 |>.withPath p (fun z => { z with window := y :: ys }) |>.withPath p
    (fun z => { z with gaps := [] })

def w_pathsAndTilesMoveBlocks_18 : State :=
  let p : Fin 4 := 0
  let y : Slot := slot (.parcel blk)
  let ys : List Slot := [slot .empty]
  w_pathsAndTilesMoveBlocks_9 |>.withPath p (fun z => { z with window := y :: ys }) |>.withPath p
    (fun z => { z with gaps := [] }) |>.withPath p (fun z => { z with invalid := [] })

def w_pathsAndTilesMoveBlocks_19 : State :=
  let p : Fin 4 := 0
  let y : Slot := slot (.parcel blk)
  let ys : List Slot := [slot .empty]
  w_pathsAndTilesMoveBlocks_1 |>.withPath p (fun z => { z with window := y :: ys }) |>.withPath p
    (fun z => { z with gaps := [] }) |>.withPath p (fun z => { z with gapStreams := [0] })

def w_pathsAndTilesMoveBlocks_20 : State :=
  w_pathsAndTilesMoveBlocks_11

def w_pathsAndTilesMoveBlocks_21 : State :=
  w_pathsAndTilesMoveBlocks_11 |>.withPath 0 (fun z =>
    { z with img := some { pimg with tiles := [{ tcfg with ports := [0x40, 0, 0, 0], fireIn := [1, 0, 0, 0] }] } })
    |>.withTile 0 (fun z => { z with inN := [.parcel blk] })

theorem wit_pathsAndTilesMoveBlocks :
    (∃ (s : State) (p : Fin 4) (x : Parcel) (y : Slot) (ys : List Slot), (s.path p).window = y :: ys ∧ s.productDue p y.last
      = false ∧ y.fill = .parcel x ∧ (s.path p).gaps = [] ∧ (s.path p).gapStreams = []) ∧
    (∃ (s : State) (p : Fin 4) (y : Slot) (ys : List Slot), (s.path p).window = y :: ys ∧ s.productDue p y.last = false ∧
      y.fill = .void) ∧
    (∃ (s : State) (p : Fin 4) (x : Parcel) (xs : List Parcel) (frames : List Frame) (ecc : Ecc), (s.path p).eb = x :: xs ∧
      s.realTime p = true ∧ s.wideUpper p = false ∧ (s.path p).img.isSome = true ∧ (s.path p).stopped = false ∧ s.windowRoom
      p = true ∧ s.entryRoom p = true ∧ ((s.takeHead p x xs frames ecc).framesFit p = true ∨ s.framesHeld p = 0) ∧ ecc ≠
      .uncorrectable) ∧
    (∃ (s : State) (p : Fin 4) (x : Parcel) (y : Slot) (ys : List Slot), (s.path p).window = y :: ys ∧ s.productDue p y.last
      = false ∧ y.fill = .parcel x ∧ (s.path p).gaps = [] ∧ (s.path p).gapStreams = [] ∧ (s.path p).invalid = []) ∧
    (∃ (s : State) (p : Fin 4) (x : Parcel) (y : Slot) (ys : List Slot), (s.path p).window = y :: ys ∧ s.productDue p y.last
      = false ∧ y.fill = .parcel x ∧ (s.path p).gaps = [] ∧ x.stream ∈ (s.path p).gapStreams) ∧
    (∃ (s : State) (t : Fin 1088) (c : TileCfg) (w : TileWork) (f : Option Frame) (acc : Tab (BitVec 48)), s.tileCfg t =
      some c ∧ s.up .fabric = true ∧ s.canFire t c = true ∧ s.productRoom c f = true ∧ State.badParcels (s.taken t c) = [] ∧
      State.lanesRun false c.laneEn w.ops (State.lanesClear w.clear (s.tile t).acc) = some acc) ∧
    (∃ (s : State) (t : Fin 1088) (c : TileCfg) (w : TileWork) (f : Option Frame), s.tileCfg t = some c ∧ s.up .fabric =
      true ∧ s.canFire t c = true ∧ s.productRoom c f = true ∧ State.badParcels (s.taken t c) = [] ∧ State.lanesRun false
      c.laneEn w.ops (State.lanesClear w.clear (s.tile t).acc) = none) ∧
    (∃ (s : State) (t : Fin 1088) (c : TileCfg) (w : TileWork) (f : Option Frame) (row : Nat), s.tileCfg t = some c ∧ s.up
      .fabric = true ∧ s.canFire t c = true ∧ s.productRoom c f = true ∧ State.badParcels (s.taken t c) = []) ∧
    (∃ (s : State) (p : Fin 4) (y : Parcel) (n : Nat) (src : ReplaySrc) (b : List Byte), s.mode p = 7 ∧ (s.path p).replayOn
      = true ∧ s.running p = true ∧ s.flag GLB_PCLK.nrt_stopped = false ∧ src = s.replaySrc p ∧ s.regionExists src.region =
      true ∧ s.windowRoom p = true ∧ s.entryRoom p = true ∧ ((s.replayRead p .sound).framesFit p = true ∨ s.framesHeld p =
      0) ∧ src.len ≠ 0 ∧ s.capFmt src.region = 0 ∧ n = 32 + field (s.ringRead src.region (s.path p).replayPos 32) 4 2 ∧ b =
      s.ringRead src.region (s.path p).replayPos n ∧ Parcel.ofBytes b = some y ∧ y.kind = .gap ∧ (s.path p).replayRead + n <
      src.len) ∧
    (∃ (s : State) (p : Fin 4) (y : Parcel) (n : Nat) (src : ReplaySrc) (b : List Byte), s.mode p = 7 ∧ (s.path p).replayOn
      = true ∧ s.running p = true ∧ s.flag GLB_PCLK.nrt_stopped = false ∧ src = s.replaySrc p ∧ s.regionExists src.region =
      true ∧ s.windowRoom p = true ∧ s.entryRoom p = true ∧ ((s.replayRead p .sound).framesFit p = true ∨ s.framesHeld p =
      0) ∧ src.len ≠ 0 ∧ s.capFmt src.region = 0 ∧ n = 32 + field (s.ringRead src.region (s.path p).replayPos 32) 4 2 ∧ b =
      s.ringRead src.region (s.path p).replayPos n ∧ Parcel.ofBytes b = some y ∧ y.kind = .gap ∧ src.len ≤ (s.path
      p).replayRead + n) ∧
    (∃ (s : State) (p : Fin 4) (x : Parcel) (xs : List Parcel) (frames : List Frame) (ecc : Ecc), (s.path p).eb = x :: xs ∧
      s.realTime p = true ∧ s.wideUpper p = false ∧ (s.path p).img.isSome = true ∧ (s.path p).stopped = false ∧
      (s.windowRoom p = false ∨ s.entryRoom p = false ∨ (s.takeHead p x xs frames ecc).framesFit p = false ∧ s.framesHeld p
      ≠ 0)) ∧
    (∃ (s : State) (p : Fin 4) (x : Parcel) (y : Slot) (ys : List Slot), (s.path p).window = y :: ys ∧ s.productDue p y.last
      = false ∧ y.fill = .parcel x ∧ (s.path p).gaps = [] ∧ x.kind = .gap) ∧
    (∃ (s : State) (p : Fin 4) (x : Parcel) (y : Slot) (ys : List Slot), (s.path p).window = y :: ys ∧ s.productDue p y.last
      = false ∧ y.fill = .parcel x ∧ (s.path p).gaps = [] ∧ State.missedBefore (s.path p) x = false ∧ (s.path p).invalid =
      []) ∧
    (∃ (s : State) (p : Fin 4) (x : Parcel) (y : Slot) (ys : List Slot), (s.path p).window = y :: ys ∧ s.productDue p y.last
      = false ∧ y.fill = .parcel x ∧ (s.path p).gaps = [] ∧ x.kind ≠ .gap ∧ State.missedBefore (s.path p) x = true) ∧
    (∃ (s : State) (t : Fin 1088) (c : TileCfg) (w : TileWork) (f : Option Frame) (acc : Tab (BitVec 48)), s.tileCfg t =
      some c ∧ s.up .fabric = true ∧ s.canFire t c = true ∧ s.productRoom c f = true ∧ State.badParcels (s.taken t c) = [] ∧
      State.lanesRun false c.laneEn w.ops (State.lanesClear w.clear (s.tile t).acc) = some acc ∧ (s.path (s.exitPath
      c.path)).lostSpans = []) ∧
    (∃ (s : State) (t : Fin 1088) (c : TileCfg) (w : TileWork) (f : Option Frame) (side : Fin 4) (i : Nat) (x : Parcel),
      s.tileCfg t = some c ∧ s.up .fabric = true ∧ s.canFire t c = true ∧ s.productRoom c f = true ∧ (s.taken t c
      side.val).getD i .void = .parcel x) :=
  ⟨⟨w_pathsAndTilesMoveBlocks_1, 0, blk, slot (.parcel blk), [slot .empty], by decide +kernel⟩,
    ⟨w_pathsAndTilesMoveBlocks_2, 0, slot .void, [slot .empty], by decide +kernel⟩,
    ⟨w_pathsAndTilesMoveBlocks_7, 0, blk, [blk], [], .sound, by decide +kernel⟩,
    ⟨w_pathsAndTilesMoveBlocks_9, 0, blk, slot (.parcel blk), [slot .empty], by decide +kernel⟩,
    ⟨w_pathsAndTilesMoveBlocks_10, 0, blk, slot (.parcel blk), [slot .empty], by decide +kernel⟩,
    ⟨w_pathsAndTilesMoveBlocks_11, 0, tcfg, twork, none, [], by decide +kernel⟩,
    ⟨w_pathsAndTilesMoveBlocks_12, 0, tcfg, { twork with ops := [{ lane := 0, a := 1, b := 1, got := 5, again := 5 }] },
      none, by decide +kernel⟩,
    ⟨w_pathsAndTilesMoveBlocks_13, 0, tcfg, twork, none, 0, by decide +kernel⟩,
    ⟨w_pathsAndTilesMoveBlocks_14, 0, (Parcel.ofBytes gapBytes).getD blk, (32 + field (w_pathsAndTilesMoveBlocks_14.ringRead
      (w_pathsAndTilesMoveBlocks_14.replaySrc 0).region (w_pathsAndTilesMoveBlocks_14.path 0).replayPos 32) 4 2),
      (w_pathsAndTilesMoveBlocks_14.replaySrc 0), (w_pathsAndTilesMoveBlocks_14.ringRead
      (w_pathsAndTilesMoveBlocks_14.replaySrc 0).region (w_pathsAndTilesMoveBlocks_14.path 0).replayPos (32 + field
      (w_pathsAndTilesMoveBlocks_14.ringRead (w_pathsAndTilesMoveBlocks_14.replaySrc 0).region
      (w_pathsAndTilesMoveBlocks_14.path 0).replayPos 32) 4 2)), by decide +kernel⟩,
    ⟨w_pathsAndTilesMoveBlocks_15, 0, (Parcel.ofBytes gapBytes).getD blk, (32 + field (w_pathsAndTilesMoveBlocks_15.ringRead
      (w_pathsAndTilesMoveBlocks_15.replaySrc 0).region (w_pathsAndTilesMoveBlocks_15.path 0).replayPos 32) 4 2),
      (w_pathsAndTilesMoveBlocks_15.replaySrc 0), (w_pathsAndTilesMoveBlocks_15.ringRead
      (w_pathsAndTilesMoveBlocks_15.replaySrc 0).region (w_pathsAndTilesMoveBlocks_15.path 0).replayPos (32 + field
      (w_pathsAndTilesMoveBlocks_15.ringRead (w_pathsAndTilesMoveBlocks_15.replaySrc 0).region
      (w_pathsAndTilesMoveBlocks_15.path 0).replayPos 32) 4 2)), by decide +kernel⟩,
    ⟨w_pathsAndTilesMoveBlocks_16, 0, blk, [blk], [], .sound, by decide +kernel⟩,
    ⟨w_pathsAndTilesMoveBlocks_17, 0, { blk with kind := .gap }, slot (.parcel { blk with kind := .gap }), [slot .empty],
      by decide +kernel⟩,
    ⟨w_pathsAndTilesMoveBlocks_18, 0, blk, slot (.parcel blk), [slot .empty], by decide +kernel⟩,
    ⟨w_pathsAndTilesMoveBlocks_19, 0, blk, slot (.parcel blk), [slot .empty], by decide +kernel⟩,
    ⟨w_pathsAndTilesMoveBlocks_20, 0, tcfg, twork, none, [], by decide +kernel⟩,
    ⟨w_pathsAndTilesMoveBlocks_21, 0, { tcfg with ports := [0x40, 0, 0, 0], fireIn := [1, 0, 0, 0] }, twork, none, 0, 0,
      blk, by decide +kernel⟩⟩

def w_pacerClockFollowsTheSupply_3 : State :=
  live |>.set (GLB_PCLK.step) (0) |>.set (GLB_PCLK.uplk_hold) 0 |>.set (GLB_PCLK.nrt_stopped) 1

def w_pacerClockFollowsTheSupply_6 : State :=
  w_pacerClockFollowsTheSupply_3 |>.set GLB_PCLK.step 0 |>.set GLB_PCLK.uplk_hold 0 |>.set GLB_PCLK.nrt_stopped 1
    |>.withTime (fun z => { z with clk := 10 ^ 13 })

def w_pacerClockFollowsTheSupply_8 : State :=
  live |>.set GLB_CAP_STATUS.vcore_mv 800 |>.set GLB_DROOP_THR.sag1 30 |>.set GLB_DROOP_THR.sag2 50 |>.set
    GLB_DROOP_THR.sag3 70 |>.set GLB_CAP_CTL.avs_auto 1

def w_pacerClockFollowsTheSupply_9 : State :=
  live |>.set GLB_CAP_STATUS.vcore_mv 800 |>.set GLB_DROOP_THR.sag1 30 |>.set GLB_DROOP_THR.sag2 50 |>.set
    GLB_DROOP_THR.sag3 70 |>.set GLB_CAP_CTL.avs_auto 1

def w_pacerClockFollowsTheSupply_10 : State :=
  live |>.set GLB_CAP_STATUS.vcore_mv 800 |>.set GLB_DROOP_THR.sag1 30 |>.set GLB_DROOP_THR.sag2 50 |>.set
    GLB_DROOP_THR.sag3 70 |>.set GLB_CAP_CTL.avs_auto 1

def w_pacerClockFollowsTheSupply_11 : State :=
  live |>.set GLB_CAP_STATUS.vcore_mv 800 |>.set GLB_DROOP_THR.sag1 30 |>.set GLB_DROOP_THR.sag2 50 |>.set
    GLB_DROOP_THR.sag3 70 |>.set GLB_CAP_CTL.avs_auto 1

def w_pacerClockFollowsTheSupply_12 : State :=
  live |>.set GLB_CAP_STATUS.vcore_mv 800 |>.set GLB_DROOP_THR.sag1 30 |>.set GLB_DROOP_THR.sag2 50 |>.set
    GLB_DROOP_THR.sag3 70 |>.set GLB_CAP_CTL.avs_auto 1 |>.set GLB_CAP_CTL.avs_auto 0

def w_pacerClockFollowsTheSupply_13 : State :=
  live |>.set GLB_CAP_STATUS.vcore_mv 800 |>.set GLB_DROOP_THR.sag1 30 |>.set GLB_DROOP_THR.sag2 50 |>.set
    GLB_DROOP_THR.sag3 70 |>.set GLB_CAP_CTL.avs_auto 1 |>.set GLB_PCLK.step 3

def w_pacerClockFollowsTheSupply_14 : State :=
  live |>.set GLB_CAP_STATUS.vcore_mv 800 |>.set GLB_DROOP_THR.sag1 30 |>.set GLB_DROOP_THR.sag2 50 |>.set
    GLB_DROOP_THR.sag3 70 |>.set GLB_CAP_CTL.avs_auto 1 |>.set GLB_PCLK.step 3

def w_pacerClockFollowsTheSupply_15 : State :=
  w_pacerClockFollowsTheSupply_6

def w_pacerClockFollowsTheSupply_16 : State :=
  w_pacerClockFollowsTheSupply_6 |>.set GLB_PCLK.uplk_hold 0 |>.withTime (fun z => { z with clk := 10 ^ 13 }) |>.set
    GLB_PCLK.step 1

def w_pacerClockFollowsTheSupply_17 : State :=
  let k : Fin 2 := 0
  w_pacerClockFollowsTheSupply_6 |>.set GLB_PCLK.step 0 |>.set GLB_PCLK.uplk_hold 0 |>.set GLB_PCLK.nrt_stopped 1
    |>.withTime (fun z => { z with clk := 10 ^ 13 }) |>.withKal k (fun z => { z with sweep := none }) |>.set (KAL_DECAY.mode
    0) 1

def w_pacerClockFollowsTheSupply_18 : State :=
  w_pacerClockFollowsTheSupply_6 |>.set GLB_PCLK.step 0 |>.set GLB_PCLK.uplk_hold 0 |>.set GLB_PCLK.nrt_stopped 1
    |>.withTime (fun z => { z with clk := 10 ^ 13 })

def w_pacerClockFollowsTheSupply_19 : State :=
  w_pacerClockFollowsTheSupply_6 |>.set GLB_PCLK.step 2

theorem wit_pacerClockFollowsTheSupply :
    (∃ (s : State), s.f GLB_PCLK.step = 0 ∧ s.flag GLB_PCLK.uplk_hold = false ∧ s.flag GLB_PCLK.nrt_stopped = true ∧
      s.avs.fullFrom + 2560 * max 1 (s.f GLB_PCLK_CTL.nrt_resume_us) ≤ s.time.clk) ∧
    (∃ (s : State) (sag : Nat) (v : Nat) (k : Nat), v = s.f GLB_CAP_STATUS.vcore_mv - sag ∧ ((v < 700 ∨ s.f
      GLB_DROOP_THR.sag3 ≤ sag) ∧ k = 3 ∨ 700 ≤ v ∧ sag < s.f GLB_DROOP_THR.sag3 ∧ s.f GLB_DROOP_THR.sag2 ≤ sag ∧ k = 2 ∨
      700 ≤ v ∧ sag < s.f GLB_DROOP_THR.sag3 ∧ sag < s.f GLB_DROOP_THR.sag2 ∧ s.f GLB_DROOP_THR.sag1 ≤ sag ∧ k = 1) ∧ s.f
      GLB_PCLK.step < k ∧ s.flag GLB_PCLK.nrt_stopped = false) ∧
    (∃ (s : State) (sag : Nat) (v : Nat) (k : Nat), v = s.f GLB_CAP_STATUS.vcore_mv - sag ∧ ((v < 700 ∨ s.f
      GLB_DROOP_THR.sag3 ≤ sag) ∧ k = 3 ∨ 700 ≤ v ∧ sag < s.f GLB_DROOP_THR.sag3 ∧ s.f GLB_DROOP_THR.sag2 ≤ sag ∧ k = 2 ∨
      700 ≤ v ∧ sag < s.f GLB_DROOP_THR.sag3 ∧ sag < s.f GLB_DROOP_THR.sag2 ∧ s.f GLB_DROOP_THR.sag1 ≤ sag ∧ k = 1) ∧ s.f
      GLB_PCLK.step < k ∧ v < 700) ∧
    (∃ (s : State) (sag : Nat) (v : Nat) (k : Nat), v = s.f GLB_CAP_STATUS.vcore_mv - sag ∧ ((v < 700 ∨ s.f
      GLB_DROOP_THR.sag3 ≤ sag) ∧ k = 3 ∨ 700 ≤ v ∧ sag < s.f GLB_DROOP_THR.sag3 ∧ s.f GLB_DROOP_THR.sag2 ≤ sag ∧ k = 2 ∨
      700 ≤ v ∧ sag < s.f GLB_DROOP_THR.sag3 ∧ sag < s.f GLB_DROOP_THR.sag2 ∧ s.f GLB_DROOP_THR.sag1 ≤ sag ∧ k = 1) ∧ s.f
      GLB_PCLK.step < k ∧ 700 ≤ v) ∧
    (∃ (s : State) (sag : Nat) (v : Nat) (k : Nat), v = s.f GLB_CAP_STATUS.vcore_mv - sag ∧ ((v < 700 ∨ s.f
      GLB_DROOP_THR.sag3 ≤ sag) ∧ k = 3 ∨ 700 ≤ v ∧ sag < s.f GLB_DROOP_THR.sag3 ∧ s.f GLB_DROOP_THR.sag2 ≤ sag ∧ k = 2 ∨
      700 ≤ v ∧ sag < s.f GLB_DROOP_THR.sag3 ∧ sag < s.f GLB_DROOP_THR.sag2 ∧ s.f GLB_DROOP_THR.sag1 ≤ sag ∧ k = 1) ∧ s.f
      GLB_PCLK.step < k ∧ s.flag GLB_CAP_CTL.avs_auto = true ∧ s.flag GLB_AVS_MAN.en = false ∧ s.flag GLB_AVS_STATUS.fail =
      false ∧ s.f GLB_CAP_STATUS.vcore_mv < 850) ∧
    (∃ (s : State) (sag : Nat) (v : Nat) (k : Nat), v = s.f GLB_CAP_STATUS.vcore_mv - sag ∧ ((v < 700 ∨ s.f
      GLB_DROOP_THR.sag3 ≤ sag) ∧ k = 3 ∨ 700 ≤ v ∧ sag < s.f GLB_DROOP_THR.sag3 ∧ s.f GLB_DROOP_THR.sag2 ≤ sag ∧ k = 2 ∨
      700 ≤ v ∧ sag < s.f GLB_DROOP_THR.sag3 ∧ sag < s.f GLB_DROOP_THR.sag2 ∧ s.f GLB_DROOP_THR.sag1 ≤ sag ∧ k = 1) ∧ s.f
      GLB_PCLK.step < k ∧ (s.flag GLB_CAP_CTL.avs_auto = false ∨ s.flag GLB_AVS_MAN.en = true ∨ s.flag GLB_AVS_STATUS.fail =
      true ∨ 850 ≤ s.f GLB_CAP_STATUS.vcore_mv)) ∧
    (∃ (s : State) (sag : Nat) (v : Nat), v = s.f GLB_CAP_STATUS.vcore_mv - sag ∧ (v < 700 ∨ s.f GLB_DROOP_THR.sag3 ≤ sag →
      s.f GLB_PCLK.step = 3) ∧ (s.f GLB_DROOP_THR.sag2 ≤ sag → 2 ≤ s.f GLB_PCLK.step) ∧ (s.f GLB_DROOP_THR.sag1 ≤ sag → 1 ≤
      s.f GLB_PCLK.step) ∧ v < 700) ∧
    (∃ (s : State) (sag : Nat) (v : Nat), v = s.f GLB_CAP_STATUS.vcore_mv - sag ∧ (v < 700 ∨ s.f GLB_DROOP_THR.sag3 ≤ sag →
      s.f GLB_PCLK.step = 3) ∧ (s.f GLB_DROOP_THR.sag2 ≤ sag → 2 ≤ s.f GLB_PCLK.step) ∧ (s.f GLB_DROOP_THR.sag1 ≤ sag → 1 ≤
      s.f GLB_PCLK.step) ∧ 700 ≤ v) ∧
    (∃ (s : State), (s.flag GLB_PCLK.uplk_hold = true ∨ s.f GLB_PCLK.step = 0 ∨ s.released (s.f GLB_PCLK.step) = false ∨
      s.time.clk < s.avs.heldFrom + 2560 * max 1 (s.f GLB_PCLK_CTL.up_hold_us))) ∧
    (∃ (s : State), s.flag GLB_PCLK.uplk_hold = false ∧ 0 < s.f GLB_PCLK.step ∧ s.released (s.f GLB_PCLK.step) = true ∧
      s.avs.heldFrom + 2560 * max 1 (s.f GLB_PCLK_CTL.up_hold_us) ≤ s.time.clk ∧ s.f GLB_PCLK.step = 1) ∧
    (∃ (s : State) (k : Fin 2), s.f GLB_PCLK.step = 0 ∧ s.flag GLB_PCLK.uplk_hold = false ∧ s.flag GLB_PCLK.nrt_stopped =
      true ∧ s.avs.fullFrom + 2560 * max 1 (s.f GLB_PCLK_CTL.nrt_resume_us) ≤ s.time.clk ∧ s.up .fabric = true ∧ s.f
      (KAL_DECAY.mode (s.kalSrc k)) = 1 ∧ s.fa (KAL_CTL.freeze (s.kalSrc k)) = 0 ∧ (s.kalOf k).sweep = none) ∧
    (∃ (s : State) (k : Fin 2), s.f GLB_PCLK.step = 0 ∧ s.flag GLB_PCLK.uplk_hold = false ∧ s.flag GLB_PCLK.nrt_stopped =
      true ∧ s.avs.fullFrom + 2560 * max 1 (s.f GLB_PCLK_CTL.nrt_resume_us) ≤ s.time.clk ∧ s.f (KAL_DECAY.mode (s.kalSrc k))
      ≠ 1) ∧
    (∃ (s : State), (s.f GLB_PCLK.step ≠ 0 ∨ s.flag GLB_PCLK.uplk_hold = true ∨ s.flag GLB_PCLK.nrt_stopped = false ∨
      s.time.clk < s.avs.fullFrom + 2560 * max 1 (s.f GLB_PCLK_CTL.nrt_resume_us))) :=
  ⟨⟨w_pacerClockFollowsTheSupply_6, by decide +kernel⟩,
    ⟨w_pacerClockFollowsTheSupply_8, 70, (w_pacerClockFollowsTheSupply_8.f GLB_CAP_STATUS.vcore_mv - 70), 3,
      by decide +kernel⟩,
    ⟨w_pacerClockFollowsTheSupply_9, 101, (w_pacerClockFollowsTheSupply_9.f GLB_CAP_STATUS.vcore_mv - 101), 3,
      by decide +kernel⟩,
    ⟨w_pacerClockFollowsTheSupply_10, 50, (w_pacerClockFollowsTheSupply_10.f GLB_CAP_STATUS.vcore_mv - 50), 2,
      by decide +kernel⟩,
    ⟨w_pacerClockFollowsTheSupply_11, 30, (w_pacerClockFollowsTheSupply_11.f GLB_CAP_STATUS.vcore_mv - 30), 1,
      by decide +kernel⟩,
    ⟨w_pacerClockFollowsTheSupply_12, 70, (w_pacerClockFollowsTheSupply_12.f GLB_CAP_STATUS.vcore_mv - 70), 3,
      by decide +kernel⟩,
    ⟨w_pacerClockFollowsTheSupply_13, 101, (w_pacerClockFollowsTheSupply_13.f GLB_CAP_STATUS.vcore_mv - 101),
      by decide +kernel⟩,
    ⟨w_pacerClockFollowsTheSupply_14, 100, (w_pacerClockFollowsTheSupply_14.f GLB_CAP_STATUS.vcore_mv - 100),
      by decide +kernel⟩,
    ⟨w_pacerClockFollowsTheSupply_15, by decide +kernel⟩,
    ⟨w_pacerClockFollowsTheSupply_16, by decide +kernel⟩,
    ⟨w_pacerClockFollowsTheSupply_17, 0, by decide +kernel⟩,
    ⟨w_pacerClockFollowsTheSupply_18, 0, by decide +kernel⟩,
    ⟨w_pacerClockFollowsTheSupply_19, by decide +kernel⟩⟩

def w_carouselTurnsAndReconverges_0 : State :=
  let n : Fin 4 := 0
  live |>.set (CNV_STATUS.state n) (2) |>.set (CNV_STATUS.frozen n) 0 |>.set (CNV_STATUS.incoming n) 17

def w_carouselTurnsAndReconverges_1 : State :=
  let n : Fin 4 := 0
  let s : State := live |>.set (CNV_STATUS.state n) (2) |>.set (CNV_STATUS.frozen n) 0 |>.set (CNV_STATUS.incoming n) 16
  s |> fun s => (List.range 18).foldl (fun s x => s.set (CNV_SLICE.state n x) 0) s

def w_carouselTurnsAndReconverges_2 : State :=
  let n : Fin 4 := 0
  live |>.set (CNV_STATUS.state n) (2) |>.set (CNV_STATUS.frozen n) 0

def w_carouselTurnsAndReconverges_3 : State :=
  let n : Fin 4 := 0
  let p : Port := .a
  live |>.setHolder 2 (some (.cp p)) |>.set (CNV_STATUS.state n) (2) |>.set (CNV_STATUS.frozen n) 0

def w_carouselTurnsAndReconverges_4 : State :=
  let n : Fin 4 := 0
  w_carouselTurnsAndReconverges_0 |>.withTime (fun z => { z with clk := 0 }) |>.withConv n
    (fun z => { z with stopDue := 5 })

def w_carouselTurnsAndReconverges_5 : State :=
  let n : Fin 4 := 0
  w_carouselTurnsAndReconverges_0 |>.set (CNV_STATUS.state n) 2 |>.set (CNV_STATUS.frozen n) 0 |>.withConv n
    (fun z => { z with carHeld := false }) |>.withConv n (fun z => { z with carStopped := false }) |>.withTime
    (fun z => { z with clk := 10 ^ 13 })

def w_carouselTurnsAndReconverges_6 : State :=
  let n : Fin 4 := 0
  w_carouselTurnsAndReconverges_1 |>.set (CNV_STATUS.state n) 2 |>.set (CNV_STATUS.frozen n) 0 |>.withConv n
    (fun z => { z with carHeld := false }) |>.withConv n (fun z => { z with carStopped := false }) |>.withTime
    (fun z => { z with clk := 10 ^ 13 })

def w_carouselTurnsAndReconverges_7 : State :=
  let n : Fin 4 := 0
  w_carouselTurnsAndReconverges_1 |>.set (CNV_STATUS.state n) 2 |>.set (CNV_STATUS.frozen n) 0 |>.withConv n
    (fun z => { z with carHeld := false }) |>.withConv n (fun z => { z with carStopped := false }) |>.withTime
    (fun z => { z with clk := 10 ^ 13 })

def w_carouselTurnsAndReconverges_8 : State :=
  let n : Fin 4 := 0
  let c : Fin 18 := 0
  w_carouselTurnsAndReconverges_0 |>.set (CNV_STATUS.state n) 2 |>.set (CNV_STATUS.frozen n) 0 |>.withConv n
    (fun z => { z with carHeld := false }) |>.withConv n (fun z => { z with carStopped := false }) |>.withTime
    (fun z => { z with clk := 10 ^ 13 }) |>.set (CNV_SLICE.state n c) 2 |>.set (CNV_STATUS.incoming n) 1

def w_carouselTurnsAndReconverges_9 : State :=
  let n : Fin 4 := 0
  w_carouselTurnsAndReconverges_0 |>.set (CNV_STATUS.frozen n) 0 |>.set (CNV_STATUS.state n) 1

def w_carouselTurnsAndReconverges_10 : State :=
  let n : Fin 4 := 0
  w_carouselTurnsAndReconverges_0 |>.set (CNV_STATUS.frozen n) 1

def w_carouselTurnsAndReconverges_11 : State :=
  let n : Fin 4 := 0
  w_carouselTurnsAndReconverges_0 |>.withConv n (fun z => { z with recStops := 1 })

theorem wit_carouselTurnsAndReconverges :
    (∃ (s : State) (n : Fin 4), s.f (CNV_STATUS.state n) = 2 ∧ s.flag (CNV_STATUS.frozen n) = false ∧ (s.conv n).carHeld =
      false ∧ (s.conv n).carStopped = false ∧ s.f (CNV_STATUS.incoming n) < 18) ∧
    (∃ (s : State) (n : Fin 4), s.f (CNV_STATUS.state n) = 2 ∧ s.flag (CNV_STATUS.frozen n) = false ∧ (s.conv n).carHeld =
      false ∧ (s.conv n).carStopped = false ∧ s.f (CNV_STATUS.incoming n) < 18 ∧ (∀ x : Fin 18, s.f (CNV_SLICE.state n x)
      ≠ 2)) ∧
    (∃ (s : State) (n : Fin 4), s.f (CNV_STATUS.state n) = 2 ∧ s.flag (CNV_STATUS.frozen n) = false) ∧
    (∃ (s : State) (n : Fin 4) (p : Port), s.accepts p (CNV_CAR_CTL.reg n).addr (some 2) ∧ s.f (CNV_STATUS.state n) = 2 ∧
      s.flag (CNV_STATUS.frozen n) = false) ∧
    (∃ (s : State) (n : Fin 4), (s.conv n).recStops = 0) ∧
    (∃ (s : State) (n : Fin 4) (r : Nat) (low : Bool) (stuck : Bool) (o : BitVec 10) (g : BitVec 10) (tm : BitVec 10),
      s.time.clk < (s.conv n).stopDue) ∧
    (∃ (s : State) (n : Fin 4) (r : Nat) (o : BitVec 10) (g : BitVec 10) (tm : BitVec 10), s.f (CNV_STATUS.state n) = 2 ∧
      s.flag (CNV_STATUS.frozen n) = false ∧ (s.conv n).carHeld = false ∧ (s.conv n).carStopped = false ∧ (s.conv n).stopDue
      ≤ s.time.clk ∧ s.f (CNV_STATUS.incoming n) < 18 ∧ r ≤ 1000 ∧ (∀ x ∈ [o, g, tm], 10 * x.toInt.natAbs ≤ 9 * 512)) ∧
    (∃ (s : State) (n : Fin 4) (r : Nat) (o : BitVec 10) (g : BitVec 10) (tm : BitVec 10), s.f (CNV_STATUS.state n) = 2 ∧
      s.flag (CNV_STATUS.frozen n) = false ∧ (s.conv n).carHeld = false ∧ (s.conv n).carStopped = false ∧ (s.conv n).stopDue
      ≤ s.time.clk ∧ s.f (CNV_STATUS.incoming n) < 18 ∧ r ≤ 10000 ∧ (∃ x ∈ [o, g, tm], 9 * 512 < 10 * x.toInt.natAbs) ∧ (∀ x
      : Fin 18, s.f (CNV_SLICE.state n x) ≠ 2) ∧ bit (s.conv n).wornKept (s.f (CNV_STATUS.incoming n)) = false) ∧
    (∃ (s : State) (n : Fin 4) (r : Nat) (low : Bool) (stuck : Bool) (o : BitVec 10) (g : BitVec 10) (tm : BitVec 10), s.f
      (CNV_STATUS.state n) = 2 ∧ s.flag (CNV_STATUS.frozen n) = false ∧ (s.conv n).carHeld = false ∧ (s.conv n).carStopped =
      false ∧ (s.conv n).stopDue ≤ s.time.clk ∧ s.f (CNV_STATUS.incoming n) < 18 ∧ (stuck = true ∨ 10000 < r) ∧ (∀ x : Fin
      18, s.f (CNV_SLICE.state n x) ≠ 2)) ∧
    (∃ (s : State) (n : Fin 4) (r : Nat) (low : Bool) (stuck : Bool) (o : BitVec 10) (g : BitVec 10) (tm : BitVec 10) (c :
      Fin 18), s.f (CNV_STATUS.state n) = 2 ∧ s.flag (CNV_STATUS.frozen n) = false ∧ (s.conv n).carHeld = false ∧ (s.conv
      n).carStopped = false ∧ (s.conv n).stopDue ≤ s.time.clk ∧ s.f (CNV_STATUS.incoming n) < 18 ∧ (stuck = true ∨ 10000 <
      r) ∧ s.reserveSlice n = some c.val ∧ s.f (CNV_STATUS.incoming n) ≠ c.val) ∧
    (∃ (s : State) (n : Fin 4), s.flag (CNV_STATUS.frozen n) = false ∧ s.f (CNV_STATUS.state n) ≠ 2) ∧
    (∃ (s : State) (n : Fin 4), s.flag (CNV_STATUS.frozen n) = true) ∧
    (∃ (s : State) (n : Fin 4), (s.conv n).recStops ≠ 0) :=
  ⟨⟨w_carouselTurnsAndReconverges_0, 0, by decide +kernel⟩,
    ⟨w_carouselTurnsAndReconverges_1, 0, by decide +kernel⟩,
    ⟨w_carouselTurnsAndReconverges_2, 0, by decide +kernel⟩,
    ⟨w_carouselTurnsAndReconverges_3, 0, .a, accepts_of (by decide +kernel) (by decide +kernel), by decide +kernel⟩,
    ⟨live, 0, by decide +kernel⟩,
    ⟨w_carouselTurnsAndReconverges_4, 0, 0, false, false, 0, 0, 0, by decide +kernel⟩,
    ⟨w_carouselTurnsAndReconverges_5, 0, 0, 0, 0, 0, by decide +kernel⟩,
    ⟨w_carouselTurnsAndReconverges_6, 0, 0, 500, 0, 0, by decide +kernel⟩,
    ⟨w_carouselTurnsAndReconverges_7, 0, 0, false, true, 0, 0, 0, by decide +kernel⟩,
    ⟨w_carouselTurnsAndReconverges_8, 0, 0, false, true, 0, 0, 0, 0, by decide +kernel⟩,
    ⟨w_carouselTurnsAndReconverges_9, 0, by decide +kernel⟩,
    ⟨w_carouselTurnsAndReconverges_10, 0, by decide +kernel⟩,
    ⟨w_carouselTurnsAndReconverges_11, 0, by decide +kernel⟩⟩

def w_inputChangesOverRangeAndProtectionAct_0 : State :=
  let n : Fin 4 := 0
  let s : State := live |>.set (CNV_CTL.input_sel n) 1 |>.set (CNV_STATUS.route n) 0
  s |>.withConv n fun x => { x with sel := 0 }

def w_inputChangesOverRangeAndProtectionAct_1 : State :=
  let n : Fin 4 := 0
  let s : State := live |>.set (CNV_STATUS.route n) (0) |>.set (CNV_CTL.zone n) 1
  s |>.withConv n fun x => { x with zone := 0 }

def w_inputChangesOverRangeAndProtectionAct_2 : State :=
  let n : Fin 4 := 0
  live |>.set (CNV_STATUS.ovr_now n) 0 |>.set (CNV_OVR_FLAG.sticky n) 0 |>.set (CNV_STATUS.state n) 2 |>.set
      (CNV_STATUS.route n) 0

def w_inputChangesOverRangeAndProtectionAct_4 : State :=
  let n : Fin 4 := 0
  live |>.set (CNV_STATUS.ovr_now n) 1 |>.set (CNV_PROT.fcd_mask n) (0) |>.set (CNV_PROT.en n) 1

def w_inputChangesOverRangeAndProtectionAct_6 : State :=
  let n : Fin 4 := 0
  live |>.set (CNV_PROT.active n) 1 |>.set (CNV_STATUS.ovr_now n) 0 |>.set (CNV_PROT_HOLD.hold_us n) 5

def w_inputChangesOverRangeAndProtectionAct_7 : State :=
  let p : Port := .a
  let n : Fin 4 := 0
  live |>.setHolder 10 (some (.cp p)) |>.set (CNV_PROT.active n) 1 |>.set (CNV_PROT_HOLD.hold_us n) (0)

def w_inputChangesOverRangeAndProtectionAct_8 : State :=
  let n : Fin 4 := 0
  live |>.set (CNV_FLT_CTL.en n) 1 |>.set (CNV_STATUS.state n) (2) |>.set (CNV_STATUS.route n) 1

def w_inputChangesOverRangeAndProtectionAct_9 : State :=
  let n : Fin 4 := 0
  w_inputChangesOverRangeAndProtectionAct_0 |>.set (CNV_STATUS.route n) 2

def w_inputChangesOverRangeAndProtectionAct_10 : State :=
  let n : Fin 4 := 0
  w_inputChangesOverRangeAndProtectionAct_1 |>.set (CNV_STATUS.route n) 1

def w_inputChangesOverRangeAndProtectionAct_11 : State :=
  let n : Fin 4 := 0
  w_inputChangesOverRangeAndProtectionAct_2 |>.set (CNV_STATUS.ovr_now n) 0 |>.withCal (fun z => { z with run := none })
    |>.set (CNV_PROT.en n) 1 |>.set (CNV_PROT.min_clip n) 1

def w_inputChangesOverRangeAndProtectionAct_12 : State :=
  let n : Fin 4 := 0
  w_inputChangesOverRangeAndProtectionAct_2 |>.set (CNV_STATUS.ovr_now n) 0 |>.withCal (fun z => { z with run := none })

def w_inputChangesOverRangeAndProtectionAct_13 : State :=
  let n : Fin 4 := 0
  w_inputChangesOverRangeAndProtectionAct_0 |>.withConv n (fun z => { z with recovery := 0 })

def w_inputChangesOverRangeAndProtectionAct_14 : State :=
  let n : Fin 4 := 0
  w_inputChangesOverRangeAndProtectionAct_0 |>.withConv n (fun z => { z with recovery := 1 })

def w_inputChangesOverRangeAndProtectionAct_15 : State :=
  let n : Fin 4 := 0
  w_inputChangesOverRangeAndProtectionAct_4 |>.set (CNV_STATUS.ovr_now n) 1 |>.withConv n
    (fun z => { z with protDone := false }) |>.set (CNV_PROT.fcd_mask n) 0 |>.set (CNV_PROT.min_clip n) 2 |>.set
    (CNV_PROT.en n) 1

def w_inputChangesOverRangeAndProtectionAct_16 : State :=
  let n : Fin 4 := 0
  w_inputChangesOverRangeAndProtectionAct_4 |>.set (CNV_STATUS.ovr_now n) 1 |>.withConv n
    (fun z => { z with protDone := true }) |>.set (CNV_PROT.min_clip n) 2 |>.set (CNV_PROT.en n) 1

def w_inputChangesOverRangeAndProtectionAct_17 : State :=
  let n : Fin 4 := 0
  w_inputChangesOverRangeAndProtectionAct_6 |>.set (CNV_PROT.active n) 1 |>.set (CNV_PROT_HOLD.hold_us n) 1 |>.set
    (CNV_STATUS.ovr_now n) 0 |>.withTime (fun z => { z with clk := 10 ^ 13 })

def w_inputChangesOverRangeAndProtectionAct_18 : State :=
  let n : Fin 4 := 0
  w_inputChangesOverRangeAndProtectionAct_6 |>.set (CNV_PROT.active n) 1 |>.set (CNV_PROT_HOLD.hold_us n) 1 |>.set
    (CNV_STATUS.ovr_now n) 0 |>.withTime (fun z => { z with clk := 0 })

def w_inputChangesOverRangeAndProtectionAct_19 : State :=
  let n : Fin 4 := 0
  w_inputChangesOverRangeAndProtectionAct_8 |>.set (CNV_FLT_CTL.en n) 1 |>.set (CNV_STATUS.state n) 2 |>.set
    (CNV_FLT_CTL.mode n) 0 |>.set (CNV_FLT_CTL.min_run n) 0 |>.set (CNV_FLT_LEVEL.upper n) 100

def w_inputChangesOverRangeAndProtectionAct_20 : State :=
  let n : Fin 4 := 0
  w_inputChangesOverRangeAndProtectionAct_8 |>.set (CNV_FLT_CTL.en n) 1 |>.set (CNV_STATUS.state n) 2 |>.set
    (CNV_FLT_CTL.mode n) 0 |>.set (CNV_FLT_CTL.min_run n) 0 |>.set (CNV_FLT_LEVEL.upper n) 100 |>.set (State.modeLoc n) 8

def w_inputChangesOverRangeAndProtectionAct_21 : State :=
  let n : Fin 4 := 0
  w_inputChangesOverRangeAndProtectionAct_8 |>.set (CNV_FLT_CTL.en n) 1 |>.set (CNV_STATUS.state n) 2

theorem wit_inputChangesOverRangeAndProtectionAct :
    (∃ (s : State) (n : Fin 4), s.up .conv = true ∧ min 2 (s.f (CNV_CTL.input_sel n)) ≠ (s.conv n).sel ∧ s.f
      (CNV_STATUS.route n) ≠ 2) ∧
    (∃ (s : State) (n : Fin 4), s.up .conv = true ∧ s.f (CNV_CTL.zone n) ≠ (s.conv n).zone ∧ s.f (CNV_STATUS.route n) = 0) ∧
    (∃ (s : State) (n : Fin 4) (ix : Nat), s.delivers n = true ∧ s.flag (CNV_STATUS.ovr_now n) = false ∧ s.cal.run = none ∧
      s.flag (CNV_OVR_FLAG.sticky n) = false ∧ ix < 2 ^ 64) ∧
    (∃ (s : State) (p : Port) (n : Fin 4), s.accepts p (CNV_PROT.reg n).addr (some 10) ∧ s.flag (CNV_PROT.active n) = true ∧
      s.f (CNV_PROT_HOLD.hold_us n) = 0) ∧
    (∃ (s : State) (n : Fin 4), s.up .conv = true ∧ min 2 (s.f (CNV_CTL.input_sel n)) ≠ (s.conv n).sel ∧ s.f
      (CNV_STATUS.route n) = 2) ∧
    (∃ (s : State) (n : Fin 4), s.up .conv = true ∧ s.f (CNV_CTL.zone n) ≠ (s.conv n).zone ∧ s.f (CNV_STATUS.route n) ≠ 0) ∧
    (∃ (s : State) (n : Fin 4) (ix : Nat), s.delivers n = true ∧ s.flag (CNV_STATUS.ovr_now n) = false ∧ s.cal.run = none ∧
      ix < 2 ^ 64 ∧ s.minClip n = 1 ∧ s.protOn n = true) ∧
    (∃ (s : State) (n : Fin 4) (ix : Nat), s.delivers n = true ∧ s.flag (CNV_STATUS.ovr_now n) = false ∧ s.cal.run = none ∧
      ix < 2 ^ 64 ∧ (1 < s.minClip n ∨ s.protOn n = false)) ∧
    (∃ (s : State) (n : Fin 4), (s.conv n).recovery = 0) ∧
    (∃ (s : State) (n : Fin 4), (s.conv n).recovery ≠ 0) ∧
    (∃ (s : State) (n : Fin 4), s.flag (CNV_STATUS.ovr_now n) = true ∧ 1 < s.minClip n ∧ s.protOn n = true ∧ (s.conv
      n).protDone = false ∧ s.f (CNV_PROT.fcd_mask n) = 0) ∧
    (∃ (s : State) (n : Fin 4), s.flag (CNV_STATUS.ovr_now n) = true ∧ 1 < s.minClip n ∧ s.protOn n = true ∧ (s.conv
      n).protDone = true) ∧
    (∃ (s : State) (n : Fin 4), s.flag (CNV_PROT.active n) = true ∧ s.f (CNV_PROT_HOLD.hold_us n) ≠ 0 ∧ s.flag
      (CNV_STATUS.ovr_now n) = false ∧ (s.conv n).clipAt + 2560 * s.f (CNV_PROT_HOLD.hold_us n) ≤ s.time.clk) ∧
    (∃ (s : State) (n : Fin 4), s.flag (CNV_PROT.active n) = true ∧ s.f (CNV_PROT_HOLD.hold_us n) ≠ 0 ∧ s.flag
      (CNV_STATUS.ovr_now n) = false ∧ s.time.clk < (s.conv n).clipAt + 2560 * s.f (CNV_PROT_HOLD.hold_us n)) ∧
    (∃ (s : State) (n : Fin 4) (run : FltRun) (at_ : Stamp), s.flag (CNV_FLT_CTL.en n) = true ∧ s.f (CNV_STATUS.state n) = 2
      ∧ s.f (CNV_STATUS.route n) ≠ 2 ∧ run.samples ≠ [] ∧ s.fltAfter n run = s.f (CNV_FLT_CTL.min_run n) + 1 ∧ s.mode n ≠ 8) ∧
    (∃ (s : State) (n : Fin 4) (run : FltRun) (at_ : Stamp), s.flag (CNV_FLT_CTL.en n) = true ∧ s.f (CNV_STATUS.state n) = 2
      ∧ s.f (CNV_STATUS.route n) ≠ 2 ∧ run.samples ≠ [] ∧ s.fltAfter n run = s.f (CNV_FLT_CTL.min_run n) + 1 ∧ s.mode n = 8) ∧
    (∃ (s : State) (n : Fin 4) (run : FltRun) (at_ : Stamp), s.flag (CNV_FLT_CTL.en n) = true ∧ s.f (CNV_STATUS.state n) = 2
      ∧ s.f (CNV_STATUS.route n) ≠ 2 ∧ s.fltAfter n run ≠ s.f (CNV_FLT_CTL.min_run n) + 1) :=
  ⟨⟨w_inputChangesOverRangeAndProtectionAct_0, 0, by decide +kernel⟩,
    ⟨w_inputChangesOverRangeAndProtectionAct_1, 0, by decide +kernel⟩,
    ⟨w_inputChangesOverRangeAndProtectionAct_2, 0, 2 ^ 64 - 1, by decide +kernel⟩,
    ⟨w_inputChangesOverRangeAndProtectionAct_7, .a, 0, accepts_of (by decide +kernel) (by decide +kernel),
      by decide +kernel⟩,
    ⟨w_inputChangesOverRangeAndProtectionAct_9, 0, by decide +kernel⟩,
    ⟨w_inputChangesOverRangeAndProtectionAct_10, 0, by decide +kernel⟩,
    ⟨w_inputChangesOverRangeAndProtectionAct_11, 0, 2 ^ 64 - 1, by decide +kernel⟩,
    ⟨w_inputChangesOverRangeAndProtectionAct_12, 0, 2 ^ 64 - 1, by decide +kernel⟩,
    ⟨w_inputChangesOverRangeAndProtectionAct_13, 0, by decide +kernel⟩,
    ⟨w_inputChangesOverRangeAndProtectionAct_14, 0, by decide +kernel⟩,
    ⟨w_inputChangesOverRangeAndProtectionAct_15, 0, by decide +kernel⟩,
    ⟨w_inputChangesOverRangeAndProtectionAct_16, 0, by decide +kernel⟩,
    ⟨w_inputChangesOverRangeAndProtectionAct_17, 0, by decide +kernel⟩,
    ⟨w_inputChangesOverRangeAndProtectionAct_18, 0, by decide +kernel⟩,
    ⟨w_inputChangesOverRangeAndProtectionAct_19, 0, { index := 0, samples := [2000] }, { tick := 5, phase := 6 },
      by decide +kernel⟩,
    ⟨w_inputChangesOverRangeAndProtectionAct_20, 0, { index := 0, samples := [2000] }, { tick := 5, phase := 6 },
      by decide +kernel⟩,
    ⟨w_inputChangesOverRangeAndProtectionAct_21, 0, { index := 0, samples := [] }, { tick := 5, phase := 6 },
      by decide +kernel⟩⟩

def w_referenceLossHoldsThePacerClock_0 : State :=
  live |>.set (REF_STATUS.present) 1

def w_referenceLossHoldsThePacerClock_1 : State :=
  live |>.set (REF_STATUS.present) 0 |>.set (REF_CTL.freq) (0)

def w_referenceLossHoldsThePacerClock_2 : State :=
  let p : Port := .a
  live |>.setHolder 11 (some (.cp p))

def w_referenceLossHoldsThePacerClock_4 : State :=
  let s : State := live |>.set (REF_STATUS.present) 1
  s |>.withClocks fun x => { x with upllOut := true }

def w_referenceLossHoldsThePacerClock_5 : State :=
  w_referenceLossHoldsThePacerClock_1 |>.set REF_STATUS.present 0

def w_referenceLossHoldsThePacerClock_6 : State :=
  w_referenceLossHoldsThePacerClock_1 |>.set REF_STATUS.present 0 |>.set REF_CTL.freq 2

def w_referenceLossHoldsThePacerClock_7 : State :=
  w_referenceLossHoldsThePacerClock_0 |>.withTime (fun z => { z with running := true }) |>.withClocks
    (fun z => { z with upllOut := true })

theorem wit_referenceLossHoldsThePacerClock :
    (∃ (s : State), s.up .host = true ∧ s.flag REF_STATUS.present = true ∧ (s.time.running = true) ∧ (s.clocks.upllOut =
      false)) ∧
    (∃ (s : State) (p : Port) (v : Word), s.accepts p REF_CTL.reg.addr (some 11) ∧ (v.toNat % 4 = s.f REF_CTL.freq)) ∧
    (∃ (s : State), s.up .host = true ∧ s.time.running = true ∧ s.clocks.upllOut = false) ∧
    (∃ (s : State), s.up .host = true ∧ s.clocks.upllOut = true ∧ s.flag REF_STATUS.present = true) ∧
    (∃ (s : State) (m : Bool), s.up .host = true ∧ s.flag REF_STATUS.present = false ∧ (s.f REF_CTL.freq = 0 ∨ s.f
      REF_CTL.freq = (if m then 2 else 1))) ∧
    (∃ (s : State) (m : Bool), s.up .host = true ∧ s.flag REF_STATUS.present = false ∧ s.f REF_CTL.freq = (if m then 1 else
      2)) ∧
    (∃ (s : State), s.up .host = true ∧ s.time.running = true ∧ s.clocks.upllOut = true) :=
  ⟨⟨w_referenceLossHoldsThePacerClock_0, by decide +kernel⟩,
    ⟨w_referenceLossHoldsThePacerClock_2, .a, 0, accepts_of (by decide +kernel) (by decide +kernel), by decide +kernel⟩,
    ⟨live, by decide +kernel⟩,
    ⟨w_referenceLossHoldsThePacerClock_4, by decide +kernel⟩,
    ⟨w_referenceLossHoldsThePacerClock_5, false, by decide +kernel⟩,
    ⟨w_referenceLossHoldsThePacerClock_6, false, by decide +kernel⟩,
    ⟨w_referenceLossHoldsThePacerClock_7, by decide +kernel⟩⟩

def w_samplePllReacquires_0 : State :=
  let p : Port := .a
  live |>.setHolder 2 (some (.cp p))

def w_samplePllReacquires_1 : State :=
  let p : Port := .a
  live |>.setHolder 2 (some (.cp p)) |>.set SPLL_DIV.reg 0x40000000 |>.set SPLL_STATUS.locked 1

def w_samplePllReacquires_2 : State :=
  let p : Port := .a
  live |>.setHolder 2 (some (.cp p)) |>.set SPLL_STATUS.locked 1

def w_samplePllReacquires_3 : State :=
  let p : Port := .a
  live |>.setHolder 2 (some (.cp p)) |>.set SPLL_DIV.reg 0x40000000 |>.set SPLL_STATUS.locked 1 |>.set (SPLL_HOP.reg 5)
      0x40000000

def w_samplePllReacquires_4 : State :=
  live |>.set (SPLL_STATUS.locked) 1

def w_samplePllReacquires_5 : State :=
  live |>.set (SPLL_STATUS.acquiring) 1 |>.set (REF_STATUS.present) 1

def w_samplePllReacquires_6 : State :=
  let p : Port := .a
  w_samplePllReacquires_1 |>.setHolder 2 (some (.cp p))

def w_samplePllReacquires_7 : State :=
  w_samplePllReacquires_5 |>.set SPLL_STATUS.acquiring 1 |>.set REF_STATUS.present 1

def w_samplePllReacquires_8 : State :=
  w_samplePllReacquires_5 |>.set SPLL_STATUS.acquiring 1

theorem wit_samplePllReacquires :
    (∃ (s : State) (p : Port) (v : Word), s.accepts p SPLL_DIV.reg.addr (some 2) ∧ s.divRefused v.toNat = true) ∧
    (∃ (s : State) (p : Port) (v : Word), s.accepts p SPLL_DIV.reg.addr (some 2) ∧ s.divRefused v.toNat = false ∧ s.spllOn =
      true) ∧
    (∃ (s : State) (p : Port), s.accepts p SPLL_LF.reg.addr (some 2) ∧ s.spllOn = true) ∧
    (∃ (s : State) (p : Port) (v : Word), s.accepts p SPLL_CTL.reg.addr (some 2) ∧ s.spllOn = true ∧ s.divRefused (s.f
      (SPLL_HOP.reg (v.toNat % 16))) = false) ∧
    (∃ (s : State), s.up .conv = true ∧ s.flag SPLL_STATUS.locked = true) ∧
    (∃ (s : State) (p : Port) (v : Word), s.accepts p SPLL_DIV.reg.addr (some 2) ∧ s.divRefused v.toNat = false ∧ s.spllOn =
      true ∧ (∀ q : Fin 4, s.mode q ≠ 3)) ∧
    (∃ (s : State) (run : LockRun), s.up .conv = true ∧ s.flag SPLL_STATUS.acquiring = true ∧ s.flag REF_STATUS.present =
      true ∧ run.error ≤ 5 * max 1 (s.f SPLL_CTL.ld_window)) ∧
    (∃ (s : State) (run : LockRun), s.up .conv = true ∧ s.flag SPLL_STATUS.acquiring = true ∧ (s.flag REF_STATUS.present =
      false ∨ 5 * max 1 (s.f SPLL_CTL.ld_window) < run.error)) :=
  ⟨⟨w_samplePllReacquires_0, .a, 0, accepts_of (by decide +kernel) (by decide +kernel), by decide +kernel⟩,
    ⟨w_samplePllReacquires_1, .a, 0x40000000, accepts_of (by decide +kernel) (by decide +kernel), by decide +kernel⟩,
    ⟨w_samplePllReacquires_2, .a, accepts_of (by decide +kernel) (by decide +kernel), by decide +kernel⟩,
    ⟨w_samplePllReacquires_3, .a, 0x15, accepts_of (by decide +kernel) (by decide +kernel), by decide +kernel⟩,
    ⟨w_samplePllReacquires_4, by decide +kernel⟩,
    ⟨w_samplePllReacquires_6, .a, 0x40000000, accepts_of (by decide +kernel) (by decide +kernel), by decide +kernel⟩,
    ⟨w_samplePllReacquires_7, lrun, by decide +kernel⟩,
    ⟨w_samplePllReacquires_8, { lrun with error := 100000 }, by decide +kernel⟩⟩

def w_clockOutputsSyncAndPpsEdgesAct_0 : State :=
  let p : Port := .a
  live |>.setHolder 2 (some (.cp p))

def w_clockOutputsSyncAndPpsEdgesAct_1 : State :=
  let p : Port := .a
  live |>.setHolder 2 (some (.cp p))

def w_clockOutputsSyncAndPpsEdgesAct_2 : State :=
  let p : Port := .a
  live |>.setHolder 4 (some (.cp p))

def w_clockOutputsSyncAndPpsEdgesAct_3 : State :=
  live |>.set (SYNC_CTL.arm) 1

def w_clockOutputsSyncAndPpsEdgesAct_5 : State :=
  let s : State := live |>.set (TIU_TIME_CTL.armed) 0
  s |>.withClocks fun x => { x with ppsFree := true }

def w_clockOutputsSyncAndPpsEdgesAct_6 : State :=
  let s : State := live |>.set (TIU_TIME_CTL.armed) 1
  s |>.withClocks fun x => { x with ppsFree := true }

def w_clockOutputsSyncAndPpsEdgesAct_7 : State :=
  let s : State := live
  s |>.withClocks fun x => { x with ppsSeen := true, ppsFree := false }

def w_clockOutputsSyncAndPpsEdgesAct_8 : State :=
  w_clockOutputsSyncAndPpsEdgesAct_3 |>.withTime (fun z => { z with running := true }) |>.set SYNC_CTL.arm 1 |>.set
    SYNC_CTL.clkout 1 |>.withClocks (fun z => { z with clkout0.on := true })

def w_clockOutputsSyncAndPpsEdgesAct_10 : State :=
  w_clockOutputsSyncAndPpsEdgesAct_7 |>.withClocks
    (fun z => { z with ppsSeen := true, ppsLast := some { tick := 5, phase := 6 } })

def w_clockOutputsSyncAndPpsEdgesAct_11 : State :=
  w_clockOutputsSyncAndPpsEdgesAct_3 |>.withTime (fun z => { z with running := true }) |>.set SYNC_CTL.arm 1

def w_clockOutputsSyncAndPpsEdgesAct_12 : State :=
  w_clockOutputsSyncAndPpsEdgesAct_3 |>.withTime (fun z => { z with running := true }) |>.set SYNC_CTL.arm 1

def w_clockOutputsSyncAndPpsEdgesAct_13 : State :=
  let d : SyncDue := { clk := 99999, tick := 5, clkout := true, slips := false }
  w_clockOutputsSyncAndPpsEdgesAct_0 |>.withClocks (fun z => { z with syncDue := some d })

def w_clockOutputsSyncAndPpsEdgesAct_14 : State :=
  let d : SyncDue := { clk := 5, tick := 5, clkout := true, slips := false }
  w_clockOutputsSyncAndPpsEdgesAct_0 |>.withClocks (fun z => { z with syncDue := some d })

def w_clockOutputsSyncAndPpsEdgesAct_15 : State :=
  let tick : Nat := 0
  w_clockOutputsSyncAndPpsEdgesAct_3 |>.withTime (fun z => { z with running := true }) |>.withClocks
    (fun z => { z with ppsFree := false }) |>.withClocks
    (fun z => { z with ppsLast := some { tick := 10 ^ 12, phase := 6 } })

theorem wit_clockOutputsSyncAndPpsEdgesAct :
    (∃ (s : State) (p : Port) (k : Fin 2), s.accepts p (CLKOUT_CTL.reg k).addr (some 2)) ∧
    (∃ (s : State) (p : Port) (k : Fin 2), s.accepts p (CLKOUT_DLY.reg k).addr (some 2)) ∧
    (∃ (s : State) (p : Port) (v : Word), s.accepts p SYNC_CTL.reg.addr (some 4) ∧ bits v.toNat SYNC_CTL.out_mode.lo
      SYNC_CTL.out_mode.width = 2) ∧
    (∃ (s : State) (applied : Nat), s.up .host = true ∧ s.time.running = true ∧ s.flag SYNC_CTL.arm = true ∧ applied < 2 ^
      64) ∧
    (∃ (s : State), s.up .host = true ∧ s.time.running = true ∧ s.clocks.ppsFree = true ∧ s.flag TIU_TIME_CTL.armed = false ∧
      s.clocks.stepDue = false) ∧
    (∃ (s : State), s.up .host = true ∧ s.time.running = true ∧ s.clocks.ppsFree = true ∧ s.flag TIU_TIME_CTL.armed = true) ∧
    (∃ (s : State) (tick : Nat) (bin : Fin 64) (applied : Nat), s.up .host = true ∧ s.time.running = true ∧ s.flag
      SYNC_CTL.arm = true ∧ applied < 2 ^ 64 ∧ s.flag SYNC_CTL.clkout = true ∧ s.clocks.clkout0.on = true) ∧
    (∃ (s : State), s.time.running = true ∧ s.clocks.ppsSeen = true ∧ s.clocks.ppsLast.isSome = true) ∧
    (∃ (s : State) (tick : Nat) (bin : Fin 64) (applied : Nat) (moved : Bool), s.up .host = true ∧ s.time.running = true ∧
      s.flag SYNC_CTL.arm = true ∧ applied < 2 ^ 64 ∧ s.now.tick < applied) ∧
    (∃ (s : State) (tick : Nat) (bin : Fin 64) (applied : Nat) (moved : Bool), s.up .host = true ∧ s.time.running = true ∧
      s.flag SYNC_CTL.arm = true ∧ applied < 2 ^ 64 ∧ applied ≤ s.now.tick) ∧
    (∃ (s : State) (d : SyncDue), s.pending = [] ∧ s.clocks.syncDue = some d ∧ d.tick < 2 ^ 64 ∧ s.time.clk + 1 < d.clk) ∧
    (∃ (s : State) (d : SyncDue), s.pending = [] ∧ s.clocks.syncDue = some d ∧ d.tick < 2 ^ 64 ∧ d.clk ≤ s.time.clk + 1) ∧
    (∃ (s : State) (tick : Nat) (bin : Fin 64), s.up .host = true ∧ s.time.running = true ∧ s.clocks.ppsFree = false ∧
      s.ppsInWindow (s.edgeStamp 22 tick bin 0).bins = false) :=
  ⟨⟨w_clockOutputsSyncAndPpsEdgesAct_0, .a, 0, accepts_of (by decide +kernel) (by decide +kernel)⟩,
    ⟨w_clockOutputsSyncAndPpsEdgesAct_1, .a, 0, accepts_of (by decide +kernel) (by decide +kernel)⟩,
    ⟨w_clockOutputsSyncAndPpsEdgesAct_2, .a, 0x20, accepts_of (by decide +kernel) (by decide +kernel), by decide +kernel⟩,
    ⟨w_clockOutputsSyncAndPpsEdgesAct_3, 2 ^ 64 - 1, by decide +kernel⟩,
    ⟨w_clockOutputsSyncAndPpsEdgesAct_5, by decide +kernel⟩,
    ⟨w_clockOutputsSyncAndPpsEdgesAct_6, by decide +kernel⟩,
    ⟨w_clockOutputsSyncAndPpsEdgesAct_8, 0, 0, 2 ^ 64 - 1, by decide +kernel⟩,
    ⟨w_clockOutputsSyncAndPpsEdgesAct_10, by decide +kernel⟩,
    ⟨w_clockOutputsSyncAndPpsEdgesAct_11, 0, 0, 2 ^ 64 - 1, false, by decide +kernel⟩,
    ⟨w_clockOutputsSyncAndPpsEdgesAct_12, 0, 0, 5, false, by decide +kernel⟩,
    ⟨w_clockOutputsSyncAndPpsEdgesAct_13, { clk := 99999, tick := 5, clkout := true, slips := false }, by decide +kernel⟩,
    ⟨w_clockOutputsSyncAndPpsEdgesAct_14, { clk := 5, tick := 5, clkout := true, slips := false }, by decide +kernel⟩,
    ⟨w_clockOutputsSyncAndPpsEdgesAct_15, 0, 0, by decide +kernel⟩⟩

def w_ddcCommitsWaitThenApplyOrAreRefused_0 : State :=
  let path : Fin 4 := 0
  live |>.set (State.modeLoc path) 3

def w_ddcCommitsWaitThenApplyOrAreRefused_1 : State :=
  let path : Fin 4 := 0
  let s : State := live |>.set (DDC_STATUS.commit_pending path) 1
  let s : State := s |>.withPath path fun x => { x with img := some pimg }
  s |>.set (State.modeLoc path) 3 |>.set (ZM_CTL.level path 0) 1 |>.set (ZM_CTL.k path 0) 20 |>.set (ZM_CTL.rs_bypass path 0)
      0 |>.set (ZM_RATIO.ratio path 0) (2 ^ 48 - 1)

def w_ddcCommitsWaitThenApplyOrAreRefused_2 : State :=
  let path : Fin 4 := 0
  let s : State := live |>.set (DDC_STATUS.commit_pending path) 1
  let s : State := s |>.withPath path fun x => { x with img := some pimg }
  let s : State := s |>.set (State.modeLoc path) 1
  s |> fun s => (List.range 8).foldl (fun s i => s.set (XF_LIMIT.n_max_log2 path i) 0) s

def w_ddcCommitsWaitThenApplyOrAreRefused_3 : State :=
  w_ddcCommitsWaitThenApplyOrAreRefused_0

def w_ddcCommitsWaitThenApplyOrAreRefused_4 : State :=
  w_ddcCommitsWaitThenApplyOrAreRefused_0

def w_ddcCommitsWaitThenApplyOrAreRefused_5 : State :=
  let path : Fin 4 := 0
  w_ddcCommitsWaitThenApplyOrAreRefused_1 |>.set (DDC_STATUS.commit_pending path) 1

def w_ddcCommitsWaitThenApplyOrAreRefused_6 : State :=
  let path : Fin 4 := 0
  w_ddcCommitsWaitThenApplyOrAreRefused_2 |>.set (DDC_STATUS.commit_pending path) 1

theorem wit_ddcCommitsWaitThenApplyOrAreRefused :
    (∃ (s : State) (p : Port) (path : Fin 4) (v : Word), s.accepts p (DDC_COMMIT.reg path).addr none ∧ bit v.toNat 0 = true ∧
      s.wideUpper path = false) ∧
    (∃ (s : State) (p : Port) (path : Fin 4) (v : Word), s.accepts p (DDC_COMMIT.reg path).addr none ∧ (bit v.toNat 0 =
      false ∨ s.wideUpper path = true)) ∧
    (∃ (s : State) (path : Fin 4), (s.flag (DDC_STATUS.commit_pending path) = false ∨ s.wideUpper path = true)) ∧
    (∃ (s : State) (path : Fin 4), s.flag (DDC_STATUS.commit_pending path) = true ∧ (s.path path).img.isSome = true ∧ s.up
      .fabric = true ∧ s.wideUpper path = false ∧ (List.range 8).any (s.pathCfg path).tooDeep = true) ∧
    (∃ (s : State) (path : Fin 4), s.flag (DDC_STATUS.commit_pending path) = true ∧ (s.path path).img.isSome = true ∧ s.up
      .fabric = true ∧ s.wideUpper path = false ∧ (List.range 8).any (s.pathCfg path).tooDeep = false ∧ State.xfTooFast
      (s.pathCfg path) (s.pathFs24 path) = false ∧ (List.range 8).any (fun i => s.xfBreaks path (s.pathCfg path) i) = false
      ∧ s.chzBreaks path (s.pathCfg path) = false) :=
  ⟨⟨w_ddcCommitsWaitThenApplyOrAreRefused_0, .a, 0, 1, accepts_of (by decide +kernel) (by decide +kernel),
      by decide +kernel⟩,
    ⟨w_ddcCommitsWaitThenApplyOrAreRefused_3, .a, 0, 0, accepts_of (by decide +kernel) (by decide +kernel),
      by decide +kernel⟩,
    ⟨w_ddcCommitsWaitThenApplyOrAreRefused_4, 0, by decide +kernel⟩,
    ⟨w_ddcCommitsWaitThenApplyOrAreRefused_5, 0, by decide +kernel⟩,
    ⟨w_ddcCommitsWaitThenApplyOrAreRefused_6, 0, by decide +kernel⟩⟩

def w_zoomBanksFadeAndTakeCoefficients_0 : State :=
  let path : Fin 4 := 0
  let w : Fin 8 := 0
  live |>.set (State.modeLoc path) 3 |>.set (ZM_CTL.level path w) 1 |>.set (ZM_BANK.active path w) 0 |>.set GLB_ID.reg
      GLB_ID.reg.rst

def w_zoomBanksFadeAndTakeCoefficients_1 : State :=
  let path : Fin 4 := 0
  let w : Fin 8 := 0
  let s : State := live
  s |>.withWin path w fun x => { x with want := some (true, 5, 2 ^ 64 - 1) }

def w_zoomBanksFadeAndTakeCoefficients_2 : State :=
  let path : Fin 4 := 0
  let w : Fin 8 := 0
  let f : Fade := { target := true, len := 5, done := 5 }
  let s : State := live
  s |>.withWin path w fun x => { x with fade := some f }

def w_zoomBanksFadeAndTakeCoefficients_3 : State :=
  let path : Fin 4 := 0
  let w : Fin 8 := 0
  live |>.set (State.modeLoc path) 3 |>.set (ZM_CTL.level path w) 1 |>.set (ZM_BANK.active path w) 0 |>.set
      (ZM_COEF_ADDR.bank path w) 1 |>.set GLB_ID.reg GLB_ID.reg.rst

def w_zoomBanksFadeAndTakeCoefficients_4 : State :=
  let path : Fin 4 := 0
  let w : Fin 8 := 0
  live |>.set (ZM_COEF_ADDR.bank path w) 0 |>.set (State.modeLoc path) 3 |>.set (ZM_CTL.level path w) 1 |>.set GLB_ID.reg
      GLB_ID.reg.rst

def w_zoomBanksFadeAndTakeCoefficients_5 : State :=
  let path : Fin 4 := 0
  let w : Fin 8 := 0
  w_zoomBanksFadeAndTakeCoefficients_0 |>.withWin path w
    (fun z => { z with fade := some { target := true, len := 5, done := 2 } })

def w_zoomBanksFadeAndTakeCoefficients_6 : State :=
  let path : Fin 4 := 0
  let w : Fin 8 := 0
  w_zoomBanksFadeAndTakeCoefficients_0 |>.set (ZM_BANK.active path w) 1

def w_zoomBanksFadeAndTakeCoefficients_7 : State :=
  let path : Fin 4 := 0
  let w : Fin 8 := 0
  w_zoomBanksFadeAndTakeCoefficients_1 |>.withWin path w
    (fun z => { z with fade := some { target := true, len := 5, done := 2 }, began := some 7 })

def w_zoomBanksFadeAndTakeCoefficients_8 : State :=
  let path : Fin 4 := 0
  let w : Fin 8 := 0
  w_zoomBanksFadeAndTakeCoefficients_2 |>.withWin path w
    (fun z => { z with fade := some { target := true, len := 5, done := 2 }, began := none })

def w_zoomBanksFadeAndTakeCoefficients_9 : State :=
  w_zoomBanksFadeAndTakeCoefficients_2

theorem wit_zoomBanksFadeAndTakeCoefficients :
    (∃ (s : State) (p : Port) (path : Fin 4) (w : Fin 8) (v : Word), s.accepts p (ZM_SWAP.reg path w).addr none ∧ s.winUsed
      path w = true ∧ (s.win path w).fade = none ∧ (s.win path w).want = none ∧ s.flag (ZM_BANK.active path w) ≠ bit
      v.toNat 30) ∧
    (∃ (s : State) (p : Port) (path : Fin 4) (w : Fin 8), s.accepts p (ZM_COEF_DATA.reg path w).addr none ∧ s.winUsed path w
      = true ∧ (s.win path w).fade = none ∧ s.flag (ZM_BANK.active path w) ≠ s.flag (ZM_COEF_ADDR.bank path w)) ∧
    (∃ (s : State) (path : Fin 4) (w : Fin 8), s.reachable (ZM_COEF_DATA.reg path w).addr = true ∧ s.winUsed path w = true ∧
      s.flag (ZM_COEF_ADDR.bank path w) = false) ∧
    (∃ (s : State) (p : Port) (path : Fin 4) (w : Fin 8) (v : Word), s.accepts p (ZM_SWAP.reg path w).addr none ∧ s.winUsed
      path w = true ∧ ((s.win path w).fade.isSome = true ∨ (s.win path w).want.isSome = true)) ∧
    (∃ (s : State) (p : Port) (path : Fin 4) (w : Fin 8) (v : Word), s.accepts p (ZM_SWAP.reg path w).addr none ∧ s.winUsed
      path w = true ∧ (s.win path w).fade = none ∧ (s.win path w).want = none ∧ s.flag (ZM_BANK.active path w) = bit v.toNat
      30) ∧
    (∃ (s : State) (path : Fin 4) (w : Fin 8) (ix : Nat) (f : Fade) (k : Nat), (s.win path w).fade = some f ∧ (s.win path
      w).began = some ix ∧ ix < 2 ^ 64 ∧ k ≠ ix) ∧
    (∃ (s : State) (path : Fin 4) (w : Fin 8) (f : Fade), (s.win path w).fade = some f ∧ (s.win path w).began = none ∧
      f.done < f.len) ∧
    (∃ (s : State) (path : Fin 4) (w : Fin 8) (f : Fade), (s.win path w).fade = some f ∧ (s.win path w).began = none ∧ f.len
      ≤ f.done) :=
  ⟨⟨w_zoomBanksFadeAndTakeCoefficients_0, .a, 0, 0, 0xC0000007, accepts_of (by decide +kernel) (by decide +kernel),
      by decide +kernel⟩,
    ⟨w_zoomBanksFadeAndTakeCoefficients_3, .a, 0, 0, accepts_of (by decide +kernel) (by decide +kernel), by decide +kernel⟩,
    ⟨w_zoomBanksFadeAndTakeCoefficients_4, 0, 0, by decide +kernel⟩,
    ⟨w_zoomBanksFadeAndTakeCoefficients_5, .a, 0, 0, 0xC0000007, accepts_of (by decide +kernel) (by decide +kernel),
      by decide +kernel⟩,
    ⟨w_zoomBanksFadeAndTakeCoefficients_6, .a, 0, 0, 0xC0000007, accepts_of (by decide +kernel) (by decide +kernel),
      by decide +kernel⟩,
    ⟨w_zoomBanksFadeAndTakeCoefficients_7, 0, 0, 7, { target := true, len := 5, done := 2 }, 8, by decide +kernel⟩,
    ⟨w_zoomBanksFadeAndTakeCoefficients_8, 0, 0, { target := true, len := 5, done := 2 }, by decide +kernel⟩,
    ⟨w_zoomBanksFadeAndTakeCoefficients_9, 0, 0, { target := true, len := 5, done := 5 }, by decide +kernel⟩⟩

def w_transformProductsAreCounted_0 : State :=
  let path : Fin 4 := 0
  let i : Fin 8 := 0
  let g : XfGrid :=
      { cfg := { source := 1, stream := 0, nLog2 := 2, h := 0, window := 0, float := false, kM1 := 0, detEn := 0 }, k0 := 8, frame := 1, stop := none }
  let s : State := live
  s |>.withInst path i fun x =>
      { x with grids := [g], buf := (List.range 4).map fun n => { v := { i := 3, q := 4 }, n := 12 + n, pos := 0, flags := 0 } }

def w_transformProductsAreCounted_1 : State :=
  let path : Fin 4 := 0
  let i : Fin 8 := 0
  let s : State := live
  s |>.withInst path i fun x => { x with det := { x.det with ended := [XfSt.reset.det.run] } }

def w_transformProductsAreCounted_2 : State :=
  let path : Fin 4 := 0
  let i : Fin 8 := 0
  live |>.set (XF_LIMIT.n_max_log2 path i) 5

def w_transformProductsAreCounted_3 : State :=
  let path : Fin 4 := 0
  let s : State := live
  s |>.withXf path fun x => { x with sk := { x.sk with ended := [(XfPath.reset).sk.run] } }

def w_transformProductsAreCounted_4 : State :=
  let path : Fin 4 := 0
  let x : ChzInt := (XfPath.reset).chz.run
  let s : State := live
  s |>.withXf path fun x => { x with chz := { x.chz with ended := [(XfPath.reset).chz.run] } }

def w_transformProductsAreCounted_5 : State :=
  let path : Fin 4 := 0
  let s : State := live
  s |>.withXf path fun x => { x with env := { x.env with ended := [(XfPath.reset).env.run] } }

theorem wit_transformProductsAreCounted :
    (∃ (s : State) (path : Fin 4) (i : Fin 8) (g : XfGrid) (gs : List XfGrid), (s.inst path i).grids = g :: gs ∧ ((s.inst
      path i).buf.filter fun y => decide (g.k0 + g.frame * State.hopOf g.cfg ≤ y.n ∧ y.n < g.k0 + g.frame * State.hopOf
      g.cfg + 2 ^ g.cfg.nLog2)).length = 2 ^ g.cfg.nLog2) ∧
    (∃ (s : State) (path : Fin 4) (i : Fin 8) (d : DetIval) (ds : List DetIval), (s.inst path i).det.ended = d :: ds) ∧
    (∃ (s : State) (p : Port) (path : Fin 4) (i : Fin 8), s.accepts p (DET_CTL.reg path i).addr none ∧ (s.xfCfg path
      i).source ≠ 0) ∧
    (∃ (s : State) (path : Fin 4) (b : SkBlk) (bs : List SkBlk), (s.xfOf path).sk.ended = b :: bs) ∧
    (∃ (s : State) (path : Fin 4) (x : ChzInt) (xs : List ChzInt), (s.xfOf path).chz.ended = x :: xs) ∧
    (∃ (s : State) (path : Fin 4) (r : EnvRec) (rs : List EnvRec), (s.xfOf path).env.ended = r :: rs) :=
  ⟨⟨w_transformProductsAreCounted_0, 0, 0,
      { cfg := { source := 1, stream := 0, nLog2 := 2, h := 0, window := 0, float := false, kM1 := 0, detEn := 0 }, k0 := 8, frame := 1, stop := none },
      [], by decide +kernel⟩,
    ⟨w_transformProductsAreCounted_1, 0, 0, XfSt.reset.det.run, [], by decide +kernel⟩,
    ⟨w_transformProductsAreCounted_2, .a, 0, 0, accepts_of (by decide +kernel) (by decide +kernel), by decide +kernel⟩,
    ⟨w_transformProductsAreCounted_3, 0, (XfPath.reset).sk.run, [], by decide +kernel⟩,
    ⟨w_transformProductsAreCounted_4, 0, (XfPath.reset).chz.run, [], by decide +kernel⟩,
    ⟨w_transformProductsAreCounted_5, 0, (XfPath.reset).env.run, [], by decide +kernel⟩⟩

def w_densityTablesCountDecayFreezeAndClear_0 : State :=
  let k : Fin 2 := 0
  let s : State := live |>.setActive (KAL_CTL.gang 0) 0 |>.set (KAL_CTL.gang 0) 0 |>.setActive (KAL_CTL.path k) 1
      |>.setActive (KAL_CTL.inst k) 2 |>.setActive (KAL_CTL.en k) 1 |>.set (KAL_CTL.path k) 1 |>.set (KAL_CTL.inst k) 2
      |>.set (KAL_CTL.en k) 1 |>.set (XF_LIMIT.n_max_log2 1 2) 2 |>.set (XF_LIMIT.stream 1 2) 9 |>.set (XF_CTL.reg 1 2) 2
  s |>.withInst 1 2 fun y => { y with recent := [{ seq := 40, frame := 0, v := [1, 2, 3, 4], p := [1, 2, 3, 4] }] }

def w_densityTablesCountDecayFreezeAndClear_0_90 : State :=
  let k : Fin 2 := 0
  let s : State := live |>.setActive (KAL_CTL.gang 0) 0 |>.set (KAL_CTL.gang 0) 0 |>.setActive (KAL_CTL.path k) 1
      |>.setActive (KAL_CTL.inst k) 2 |>.setActive (KAL_CTL.en k) 1 |>.set (KAL_CTL.path k) 1 |>.set (KAL_CTL.inst k) 2
      |>.set (KAL_CTL.en k) 1 |>.set (XF_LIMIT.n_max_log2 1 2) 2 |>.set (XF_LIMIT.stream 1 2) 9 |>.set (XF_CTL.reg 1 2) 2
  let s : State := s |>.withInst 1 2 fun y =>
      { y with recent := [{ seq := 40, frame := 0, v := [1, 2, 3, 4], p := [1, 2, 3, 4] }] }
  s |>.setActive (KAL_CTL.freeze k) 1 |>.set (KAL_CTL.freeze k) 1

def w_densityTablesCountDecayFreezeAndClear_1 : State :=
  let k : Fin 2 := 0
  let s : State := live |>.set (GLB_PCLK.nrt_stopped) 1
  s |>.set (KAL_DECAY.mode (s.kalSrc k)) (1)

def w_densityTablesCountDecayFreezeAndClear_2 : State :=
  let k : Fin 2 := 0
  let s : State := live |>.set (GLB_PCLK.nrt_stopped) 0
  let s : State := s |>.set (KAL_DECAY.mode (s.kalSrc k)) (1)
  s |>.set (KAL_CTL.freeze (s.kalSrc k)) 0

def w_densityTablesCountDecayFreezeAndClear_4 : State :=
  live |>.set (XF_LIMIT.n_max_log2 1 2) 5 |>.set GLB_ID.reg GLB_ID.reg.rst

def w_densityTablesCountDecayFreezeAndClear_5 : State :=
  let k : Fin 2 := 0
  let s : State := live
  s |>.set (KAL_CTL.freeze (s.kalSrc k)) 1 |>.set (KAL_STATUS.ready k) 0 |>.set (KAL_STATUS.clearing k) 0

def w_densityTablesCountDecayFreezeAndClear_6 : State :=
  let k : Fin 2 := 0
  live |>.set (KAL_STATUS.clearing k) 1

def w_densityTablesCountDecayFreezeAndClear_7 : State :=
  w_densityTablesCountDecayFreezeAndClear_0

def w_densityTablesCountDecayFreezeAndClear_8 : State :=
  w_densityTablesCountDecayFreezeAndClear_1 |>.set GLB_PCLK.nrt_stopped 1 |>.withTime (fun z => { z with clk := 10 ^ 13 })

def w_densityTablesCountDecayFreezeAndClear_9 : State :=
  let k : Fin 2 := 0
  w_densityTablesCountDecayFreezeAndClear_2 |>.set GLB_PCLK.nrt_stopped 0 |>.withKal k (fun z => { z with sweep := none })
    |>.withTime (fun z => { z with clk := 10 ^ 13 })

def w_densityTablesCountDecayFreezeAndClear_10 : State :=
  let k : Fin 2 := 0
  let w : DecaySweep := { shift := 1, start := 0, column := 0 }
  w_densityTablesCountDecayFreezeAndClear_0 |>.withKal k (fun z => { z with sweep := some w }) |>.withKal k
    (fun z => { z with spoilt := [] })

def w_densityTablesCountDecayFreezeAndClear_11 : State :=
  let k : Fin 2 := 0
  let w : DecaySweep := { shift := 1, start := 0, column := 0 }
  w_densityTablesCountDecayFreezeAndClear_0 |>.withKal k (fun z => { z with sweep := some w }) |>.withTime
    (fun z => { z with clk := 10 ^ 13 })

theorem wit_densityTablesCountDecayFreezeAndClear :
    (∃ (s : State) (b : State) (k : Fin 2) (x : Parcel) (sp : Spectrum), s.up .fabric = true ∧ s.ofInst x (s.fa (KAL_CTL.path
      (s.kalSrc k))) (s.fa (KAL_CTL.inst (s.kalSrc k))) = true ∧ b = s.kalBoundary k ∧ b.ganged = false ∧ b.fa
      (KAL_CTL.en k) = 1 ∧ b.ofInst x (b.fa (KAL_CTL.path k)) (b.fa (KAL_CTL.inst k)) = true ∧ b.spectrumAt x.path (b.fa
      (KAL_CTL.inst k)) x.seq = some sp ∧ sp.frame % b.kalDecim k x.path (b.fa (KAL_CTL.inst k)) sp.v.length = 0 ∧ (b.fa
      (KAL_CTL.freeze k) = 0) ∧ (b.fa (KAL_CTL.excl k) = 0)) ∧
    (∃ (s : State) (b : State) (k : Fin 2) (x : Parcel) (sp : Spectrum), s.up .fabric = true ∧ s.ofInst x (s.fa (KAL_CTL.path
      (s.kalSrc k))) (s.fa (KAL_CTL.inst (s.kalSrc k))) = true ∧ b = s.kalBoundary k ∧ b.ganged = false ∧ b.fa
      (KAL_CTL.en k) = 1 ∧ b.ofInst x (b.fa (KAL_CTL.path k)) (b.fa (KAL_CTL.inst k)) = true ∧ b.spectrumAt x.path (b.fa
      (KAL_CTL.inst k)) x.seq = some sp ∧ sp.frame % b.kalDecim k x.path (b.fa (KAL_CTL.inst k)) sp.v.length = 0 ∧ (b.fa
      (KAL_CTL.freeze k) = 1)) ∧
    (∃ (s : State) (p : Port) (k : Fin 2) (v : Word), s.accepts p (KAL_CTL.reg k).addr none ∧ s.instUsed (bits v.toNat 8 2)
      (bits v.toNat 10 3) = true) ∧
    (∃ (s : State) (k : Fin 2), s.flag (KAL_CTL.freeze (s.kalSrc k)) = true ∧ s.flag (KAL_STATUS.ready k) = false ∧ (s.kalOf
      k).clearAsked = false ∧ (s.kalOf k).sweep = none ∧ s.flag (KAL_STATUS.clearing k) = false) ∧
    (∃ (s : State) (k : Fin 2), s.flag (KAL_STATUS.clearing k) = true ∧ (s.kalOf k).clearAsked = false) ∧
    (∃ (s : State) (k : Fin 2), s.decayDue k = false) ∧
    (∃ (s : State) (k : Fin 2), s.decayDue k = true ∧ s.flag GLB_PCLK.nrt_stopped = true ∧ s.f (KAL_DECAY.mode (s.kalSrc k))
      = 1 ∧ s.up .fabric = true) ∧
    (∃ (s : State) (k : Fin 2), s.decayDue k = true ∧ s.flag GLB_PCLK.nrt_stopped = false ∧ s.f (KAL_DECAY.mode (s.kalSrc
      k)) = 1 ∧ s.up .fabric = true ∧ s.fa (KAL_CTL.freeze (s.kalSrc k)) = 0 ∧ (s.kalOf k).sweep = none) ∧
    (∃ (s : State) (k : Fin 2) (w : DecaySweep), (s.kalOf k).sweep = some w ∧ s.up .fabric = true ∧ (s.kalOf k).spoilt = []) ∧
    (∃ (s : State) (k : Fin 2) (w : DecaySweep), s.pending = [] ∧ (s.kalOf k).sweep = some w ∧ s.up .fabric = true ∧ w.start
      + 2688000 ≤ s.time.clk ∧ w.column < 4096) :=
  ⟨⟨w_densityTablesCountDecayFreezeAndClear_0, (let k : Fin 2 := 0; let s : State :=
      w_densityTablesCountDecayFreezeAndClear_0; s.kalBoundary k), 0,
      { blk with kind := .spectrum, path := 1, stream := 9, seq := 40 },
      { seq := 40, frame := 0, v := [1, 2, 3, 4], p := [1, 2, 3, 4] }, by decide +kernel, by decide +kernel, rfl, by decide +kernel⟩,
    ⟨w_densityTablesCountDecayFreezeAndClear_0_90, (let k : Fin 2 := 0; let s : State :=
      w_densityTablesCountDecayFreezeAndClear_0_90; s.kalBoundary k), 0,
      { blk with kind := .spectrum, path := 1, stream := 9, seq := 40 },
      { seq := 40, frame := 0, v := [1, 2, 3, 4], p := [1, 2, 3, 4] }, by decide +kernel, by decide +kernel, rfl, by decide +kernel⟩,
    ⟨w_densityTablesCountDecayFreezeAndClear_4, .a, 0, 0x900, accepts_of (by decide +kernel) (by decide +kernel),
      by decide +kernel⟩,
    ⟨w_densityTablesCountDecayFreezeAndClear_5, 0, by decide +kernel⟩,
    ⟨w_densityTablesCountDecayFreezeAndClear_6, 0, by decide +kernel⟩,
    ⟨w_densityTablesCountDecayFreezeAndClear_7, 0, by decide +kernel⟩,
    ⟨w_densityTablesCountDecayFreezeAndClear_8, 0, by decide +kernel⟩,
    ⟨w_densityTablesCountDecayFreezeAndClear_9, 0, by decide +kernel⟩,
    ⟨w_densityTablesCountDecayFreezeAndClear_10, 0, { shift := 1, start := 0, column := 0 }, by decide +kernel⟩,
    ⟨w_densityTablesCountDecayFreezeAndClear_11, 0, { shift := 1, start := 0, column := 0 }, by decide +kernel⟩⟩

def w_masksSwapAndSeeMismatches_0 : State :=
  let m : Fin 64 := 0
  let s : State := live |>.setActive (MSK_BIND.en m) (1) |>.set (MSK_STATE.pending m) 0 |>.set (MSK_STATE.mismatch m) 0
      |>.setActive (MSK_BIND.en m) 1 |>.setActive (MSK_BIND.path m) 1 |>.setActive (MSK_BIND.inst m) 2 |>.setActive
      (MSK_BIND.len_log2 m) 3 |>.set (XF_LIMIT.n_max_log2 1 2) 2 |>.set (XF_LIMIT.stream 1 2) 9
  s |>.withInst 1 2 fun y => { y with recent := [{ seq := 40, frame := 0, v := [1, 2, 3, 4], p := [1, 2, 3, 4] }] }

def w_masksSwapAndSeeMismatches_1 : State :=
  let m : Fin 64 := 0
  let s : State := live |>.setActive (MSK_BIND.en m) (1) |>.set (MSK_STATE.pending m) 1 |>.setActive (MSK_BIND.en m) 1
      |>.setActive (MSK_BIND.path m) 1 |>.setActive (MSK_BIND.inst m) 2 |>.setActive (MSK_BIND.len_log2 m) 2 |>.set
      (XF_LIMIT.n_max_log2 1 2) 2 |>.set (XF_LIMIT.stream 1 2) 9
  let s : State := s |>.withInst 1 2 fun y =>
      { y with recent := [{ seq := 40, frame := 0, v := [1, 2, 3, 4], p := [1, 2, 3, 4] }] }
  s |>.withMsk m fun y => { y with swapAt := 40 }

def w_masksSwapAndSeeMismatches_2 : State :=
  let p : Port := .a
  live |>.setHolder 7 (some (.cp p)) |>.set (MSK_STATE.active 5) 0

theorem wit_masksSwapAndSeeMismatches :
    (∃ (s : State) (m : Fin 64) (x : Parcel) (sp : Spectrum), (s.mskOf m).bindAt = none ∧ s.fa (MSK_BIND.en m) = 1 ∧ s.ofInst
      x (s.fa (MSK_BIND.path m)) (s.fa (MSK_BIND.inst m)) = true ∧ s.spectrumAt x.path (s.fa (MSK_BIND.inst m)) x.seq =
      some sp ∧ s.flag (MSK_STATE.pending m) = false ∧ sp.v.length < 2 ^ s.fa (MSK_BIND.len_log2 m) ∧ s.flag
      (MSK_STATE.mismatch m) = false) ∧
    (∃ (s : State) (m : Fin 64) (x : Parcel) (sp : Spectrum), (s.mskOf m).bindAt = none ∧ s.fa (MSK_BIND.en m) = 1 ∧ s.ofInst
      x (s.fa (MSK_BIND.path m)) (s.fa (MSK_BIND.inst m)) = true ∧ s.spectrumAt x.path (s.fa (MSK_BIND.inst m)) x.seq =
      some sp ∧ s.flag (MSK_STATE.pending m) = true ∧ (s.mskOf m).swapAt ≤ x.seq ∧ (2 ^ s.fa (MSK_BIND.len_log2 m) ≤
      sp.v.length)) ∧
    (∃ (s : State) (p : Port) (v : Word), s.accepts p MSK_SWAP.reg.addr (some 7) ∧ s.f (MSK_STATE.active (v.toNat % 64)) ≠
      bits v.toNat 30 1) :=
  ⟨⟨w_masksSwapAndSeeMismatches_0, 0, { blk with kind := .spectrum, path := 1, stream := 9, seq := 40 },
      { seq := 40, frame := 0, v := [1, 2, 3, 4], p := [1, 2, 3, 4] }, by decide +kernel⟩,
    ⟨w_masksSwapAndSeeMismatches_1, 0, { blk with kind := .spectrum, path := 1, stream := 9, seq := 40 },
      { seq := 40, frame := 0, v := [1, 2, 3, 4], p := [1, 2, 3, 4] }, by decide +kernel⟩,
    ⟨w_masksSwapAndSeeMismatches_2, .a, 0xC0000005, accepts_of (by decide +kernel) (by decide +kernel), by decide +kernel⟩⟩

def w_conditionsEvaluateAndDecide_1 : State :=
  let c : Fin 64 := 0
  let s : State := live |>.set (TRG_COND.kind c) (1) |>.set (TRG_COND.mode c) (0) |>.set GLB_ID.reg GLB_ID.reg.rst |>.set
      (TRG_COND.path c) 0 |>.set (TRG_COND.sel c) 0 |>.set (TRG_PARAM.hi c) 5 |>.set (TRG_PARAM.hi c) 0 |>.set (State.modeLoc
      0) 1 |>.set GLB_MODE.running 1
  s |>.withPath 0 fun z => { z with img := some pimg }

def w_conditionsEvaluateAndDecide_3 : State :=
  let c : Fin 64 := 0
  let o : Occ := (let c : Fin 64 := 0;
      { cond := c, index := 0, frac := 0, tick := 100, phase := 5, flags := 0, inGap := false, by_ := .index })
  let s : State := live |>.set GLB_ID.reg GLB_ID.reg.rst |>.set (TRG_COND.kind c) 5 |>.set (TRG_COND.path c) 0 |>.set
      (TRG_COND.sel c) 0 |>.set (State.modeLoc 0) 1 |>.set GLB_MODE.running 1
  let s : State := s |>.withPath 0 fun z => { z with img := some pimg }
  let s : State := s |>.withTrg fun x => { x with queue := [o] }
  s |>.withCond c fun x => { x with armed := true }

def w_conditionsEvaluateAndDecide_4 : State :=
  live |>.set ENS_CTL.en 0

def w_conditionsEvaluateAndDecide_5 : State :=
  live |>.set ENS_CTL.en 0

def w_conditionsEvaluateAndDecide_12 : State :=
  w_conditionsEvaluateAndDecide_4

def w_conditionsEvaluateAndDecide_13 : State :=
  let c : Fin 64 := 0
  let pos : Nat := 0
  let v : IQ := ⟨3000, 4000⟩
  let ds : List EvalDue := []
  w_conditionsEvaluateAndDecide_1 |>.withCond c (fun z => { z with due := .iq pos v :: ds })

def w_conditionsEvaluateAndDecide_14 : State :=
  let c : Fin 64 := 0
  let pos : Nat := 0
  let v : IQ := ⟨3000, 4000⟩
  let ds : List EvalDue := []
  w_conditionsEvaluateAndDecide_1 |>.withCond c (fun z => { z with due := .iq pos v :: ds })

def w_conditionsEvaluateAndDecide_15 : State :=
  let c : Fin 64 := 0
  let first : Nat := 0
  let flags : Nat := 0
  let k : Nat := 3
  let ds : List EvalDue := []
  live |>.set (TRG_COND.kind c) 4 |>.set (SK_CTL.en 0) 1 |>.set (State.modeLoc 0) 1 |>.set GLB_MODE.running 1 |>.withPath 0
    (fun z => { z with img := some pimg }) |>.withCond c (fun z => { z with due := .kurtosis first flags (some k) :: ds })
    |>.set (TRG_PARAM.lo c) 5

def w_conditionsEvaluateAndDecide_16 : State :=
  let c : Fin 64 := 0
  let first : Nat := 0
  let flags : Nat := 0
  let k : Nat := 5
  let ds : List EvalDue := []
  live |>.set (TRG_COND.kind c) 4 |>.set (SK_CTL.en 0) 1 |>.set (State.modeLoc 0) 1 |>.set GLB_MODE.running 1 |>.withPath 0
    (fun z => { z with img := some pimg }) |>.withCond c (fun z => { z with due := .kurtosis first flags (some k) :: ds })
    |>.set (TRG_PARAM.lo c) 5

def w_conditionsEvaluateAndDecide_17 : State :=
  w_conditionsEvaluateAndDecide_4

def w_conditionsEvaluateAndDecide_18 : State :=
  let c : Fin 64 := 0
  let o : Occ := { cond := 0, index := 0, frac := 0, tick := 100, phase := 5, flags := 0, inGap := false, by_ := .index }
  w_conditionsEvaluateAndDecide_3 |>.withTrg (fun z => { z with queue := [o] }) |>.withCond c
    (fun z => { z with last := none })

theorem wit_conditionsEvaluateAndDecide :
    (∃ (s : State) (p : Port) (c : Fin 64) (v : Word), s.accepts p (TRG_COND.reg c).addr none ∧ s.ensScoped
      ENS_SCOPE_COND.reg c = false ∧ bits v.toNat 24 4 = 5) ∧
    (∃ (s : State) (p : Port) (c : Fin 64) (v : Word), s.accepts p (TRG_COND.reg c).addr none ∧ s.ensScoped
      ENS_SCOPE_COND.reg c = false ∧ 8 < bits v.toNat 24 4) ∧
    (∃ (s : State) (p : Port) (hi : Bool), s.accepts p (if hi then TRG_FORCE_HI.reg.addr else TRG_FORCE_LO.reg.addr) none) ∧
    (∃ (s : State) (c : Fin 64) (e : EvalPoint), s.up .fabric = true ∧ s.condInactive c = true) ∧
    (∃ (s : State) (c : Fin 64) (pos : Nat) (v : IQ) (ds : List EvalDue), s.up .fabric = true ∧ s.condInactive c = false ∧
      (s.cond c).due = .iq pos v :: ds ∧ s.f (TRG_COND.mode c) = 0 ∧ (s.cond c).raw = false ∧ s.f (TRG_PARAM.hi c) ≤
      levelWord (power4 v)) ∧
    (∃ (s : State) (c : Fin 64) (pos : Nat) (v : IQ) (ds : List EvalDue) (e : EvalPoint), s.up .fabric = true ∧
      s.condInactive c = false ∧ (s.cond c).due = .iq pos v :: ds ∧ e ≠ .iq (pos / posUnit)) ∧
    (∃ (s : State) (c : Fin 64) (first : Nat) (flags : Nat) (k : Nat) (ds : List EvalDue), s.up .fabric = true ∧
      s.condInactive c = false ∧ (s.cond c).due = .kurtosis first flags (some k) :: ds ∧ (s.cond c).raw = false ∧ k < s.f
      (TRG_PARAM.lo c)) ∧
    (∃ (s : State) (c : Fin 64) (first : Nat) (flags : Nat) (k : Nat) (ds : List EvalDue), s.up .fabric = true ∧
      s.condInactive c = false ∧ (s.cond c).due = .kurtosis first flags (some k) :: ds ∧ (s.cond c).raw = false ∧ s.f
      (TRG_PARAM.lo c) ≤ k) ∧
    (∃ (s : State) (at_ : Stamp), (s.up .fabric = false ∨ s.f PWR_STATE.state ≠ 0 ∨ s.allReported at_.bins = false)) ∧
    (∃ (s : State) (at_ : Stamp) (c : Fin 64) (o : Occ), s.up .fabric = true ∧ s.f PWR_STATE.state = 0 ∧ s.allReported
      at_.bins = true ∧ s.trg.queue = [o] ∧ o.cond = c.val ∧ o.by_ = .index ∧ State.occBins o ≤ at_.bins ∧ s.f
      (TRG_COND.kind c) ≠ 0 ∧ s.armedAt (s.homeOf c) (s.cond c) o.index = true ∧ (s.cond c).last = none) :=
  ⟨⟨w_conditionsEvaluateAndDecide_4, .a, 0, 0x85000003, accepts_of (by decide +kernel) (by decide +kernel),
      by decide +kernel⟩,
    ⟨w_conditionsEvaluateAndDecide_5, .a, 0, 0x89000003, accepts_of (by decide +kernel) (by decide +kernel),
      by decide +kernel⟩,
    ⟨live, .a, false, accepts_of (by decide +kernel) (by decide +kernel)⟩,
    ⟨w_conditionsEvaluateAndDecide_12, 0, .report, by decide +kernel⟩,
    ⟨w_conditionsEvaluateAndDecide_13, 0, 0, ⟨3000, 4000⟩, [], by decide +kernel⟩,
    ⟨w_conditionsEvaluateAndDecide_14, 0, 0, ⟨3000, 4000⟩, [], .report, by decide +kernel⟩,
    ⟨w_conditionsEvaluateAndDecide_15, 0, 0, 0, 3, [], by decide +kernel⟩,
    ⟨w_conditionsEvaluateAndDecide_16, 0, 0, 0, 5, [], by decide +kernel⟩,
    ⟨w_conditionsEvaluateAndDecide_17, { tick := 2 ^ 40, phase := 0 }, by decide +kernel⟩,
    ⟨w_conditionsEvaluateAndDecide_18, { tick := 200, phase := 0 }, 0,
      { cond := 0, index := 0, frac := 0, tick := 100, phase := 5, flags := 0, inGap := false, by_ := .index },
      by decide +kernel⟩⟩

def w_regionsArmDisarmAndRearm_0 : State :=
  let r : Fin 64 := 0
  live |>.set ENS_CTL.en 0 |>.set (TRG_RGN_CTL.state r) 0 |>.set (CAP_REGION_STATUS.exists_ r) 1 |>.set (CAP_REGION_SRC.mode
      r) 2

def w_regionsArmDisarmAndRearm_1 : State :=
  let r : Fin 64 := 0
  live |>.set ENS_CTL.en 0 |>.set (TRG_RGN_CTL.state r) 2

def w_regionsArmDisarmAndRearm_1_90 : State :=
  let r : Fin 64 := 0
  live |>.set ENS_CTL.en 0 |>.set (TRG_RGN_CTL.state r) 2 |>.set (TRG_RGN_CTL.state r) 1

def w_regionsArmDisarmAndRearm_3 : State :=
  let r : Fin 64 := 0
  w_regionsArmDisarmAndRearm_1 |>.withRegion r (fun z => { z with captures := [] })

theorem wit_regionsArmDisarmAndRearm :
    (∃ (s : State) (u : State) (p : Port) (r : Fin 64) (v : Word), s.accepts p (TRG_RGN_CTL.reg r).addr none ∧ s.ensScoped
      ENS_SCOPE_RGN.reg r = false ∧ s.rgnState r = 0 ∧ bit v.toNat 0 = false ∧ bit v.toNat 30 = false ∧ u = (s.complete
      .ok).plainWrite (TRG_RGN_CTL.reg r).addr (v.toNat ||| 2 ^ 31) ∧ u.armFits r = true ∧ (u.capMode r = 2 ∨ u.fmtSuits
      r = true)) ∧
    (∃ (s : State) (p : Port) (r : Fin 64) (v : Word), s.accepts p (TRG_RGN_CTL.reg r).addr none ∧ s.ensScoped
      ENS_SCOPE_RGN.reg r = false ∧ bit v.toNat 0 = false ∧ bit v.toNat 31 = false ∧ (s.rgnState r = 2)) ∧
    (∃ (s : State) (p : Port) (r : Fin 64) (v : Word), s.accepts p (TRG_RGN_CTL.reg r).addr none ∧ s.ensScoped
      ENS_SCOPE_RGN.reg r = false ∧ bit v.toNat 0 = false ∧ bit v.toNat 31 = false ∧ (s.rgnState r = 1)) ∧
    (∃ (s : State) (p : Port) (path : Fin 4), s.accepts p (TRG_AVG_CTL.reg path).addr none) ∧
    (∃ (s : State) (r : Fin 64), s.rgnState r = 2 ∧ s.holdOver r (s.indexAfter (s.f (TRG_RGN_CTL.path r)) s.now.bins) 0
      s.now.bins = true ∧ (s.region r).captures = [] ∧ s.avgWaits r = false) :=
  ⟨⟨w_regionsArmDisarmAndRearm_0, (let r : Fin 64 := 0; let v : Word := 0x80100000; let s : State :=
      w_regionsArmDisarmAndRearm_0; (s.complete .ok).plainWrite (TRG_RGN_CTL.reg r).addr (v.toNat ||| 2 ^ 31)), .a, 0,
      0x80100000, accepts_of (by decide +kernel) (by decide +kernel), by decide +kernel, by decide +kernel, by decide +kernel,
      by decide +kernel, rfl, by decide +kernel⟩,
    ⟨w_regionsArmDisarmAndRearm_1, .a, 0, 0, accepts_of (by decide +kernel) (by decide +kernel), by decide +kernel⟩,
    ⟨w_regionsArmDisarmAndRearm_1_90, .a, 0, 0, accepts_of (by decide +kernel) (by decide +kernel), by decide +kernel⟩,
    ⟨live, .a, 0, accepts_of (by decide +kernel) (by decide +kernel)⟩,
    ⟨w_regionsArmDisarmAndRearm_3, 0, by decide +kernel⟩⟩

def w_triggerPinsAct_0 : State :=
  let j : Fin 4 := 0
  live |>.set (TRG_IN_CTL.en j) 1 |>.set (TRG_IN_STATUS.stuck j) 0

def w_triggerPinsAct_0_90 : State :=
  let j : Fin 4 := 0
  let s : State := live |>.set (TRG_IN_CTL.en j) 1 |>.set (TRG_IN_STATUS.stuck j) 0 |>.set (TRG_IN_CTL.holdoff j) 500
  s |> fun s => s.setTrgIn j { (s.trgIn j) with last := some { tick := 499, phase := 0 } }

def w_triggerPinsAct_1 : State :=
  let j : Fin 4 := 0
  live |>.set (TRG_IN_CTL.en j) 1 |>.set (TRG_IN_STATUS.level j) 1 |>.set (TRG_IN_STATUS.stuck j) 0

def w_triggerPinsAct_2 : State :=
  let o : Fin 4 := 0
  live |>.set (TRG_OUT_CTL.oe o) 1 |>.set (PWR_STATE.state) (0) |>.setTrgOut o
      { drive := .low, stop := none, due := [0x1234, 0x99999999999] }

def w_triggerPinsAct_3 : State :=
  let o : Fin 4 := 0
  live |>.setTrgOut o { drive := .high, stop := some 0x1234, due := [7] }

def w_triggerPinsAct_4 : State :=
  let j : Fin 4 := 0
  w_triggerPinsAct_0 |>.set (TRG_IN_CTL.en j) 1 |>.set (TRG_IN_STATUS.stuck j) 1

def w_triggerPinsAct_5 : State :=
  let j : Fin 4 := 0
  w_triggerPinsAct_1 |>.set (TRG_IN_CTL.en j) 1 |>.set (TRG_IN_STATUS.level j) 1 |>.set (TRG_IN_STATUS.stuck j) 0

def w_triggerPinsAct_6 : State :=
  let j : Fin 4 := 0
  w_triggerPinsAct_1 |>.set (TRG_IN_CTL.en j) 1 |>.set (TRG_IN_STATUS.level j) 1 |>.set (TRG_IN_STATUS.stuck j) 0
    |>.withTime (fun z => { z with clk := 10 ^ 14 })

def w_triggerPinsAct_7 : State :=
  w_triggerPinsAct_0 |>.set (TRG_IN_CTL.en 0) 0

theorem wit_triggerPinsAct :
    (∃ (s : State) (j : Fin 4) (tick : Nat) (bin : Fin 64), s.up .fabric = true ∧ s.flag (TRG_IN_CTL.en j) = true ∧ s.flag
      (TRG_IN_STATUS.stuck j) = false ∧ (State.crowds (s.trgIn j).last (s.edgeStamp (18 + j) tick bin 0).bins (s.f (TRG_IN_CTL.holdoff j)) = false)) ∧
    (∃ (s : State) (j : Fin 4) (tick : Nat) (bin : Fin 64), s.up .fabric = true ∧ s.flag (TRG_IN_CTL.en j) = true ∧ s.flag
      (TRG_IN_STATUS.stuck j) = false ∧ (State.crowds (s.trgIn j).last (s.edgeStamp (18 + j) tick bin 0).bins (s.f (TRG_IN_CTL.holdoff j)) = true)) ∧
    (∃ (s : State) (o : Fin 4) (d : Nat) (ds : List Nat), (s.trgOut o).due = d :: ds ∧ d ≤ s.now.tick ∧ s.flag
      (TRG_OUT_CTL.oe o) = true ∧ s.f PWR_STATE.state = 0) ∧
    (∃ (s : State) (o : Fin 4) (d : Nat), (s.trgOut o).stop = some d ∧ d ≤ s.now.tick) ∧
    (∃ (s : State) (j : Fin 4) (high : Bool) (tick : Nat) (bin : Fin 64), s.up .fabric = true ∧ s.flag (TRG_IN_CTL.en j) =
      true ∧ s.flag (TRG_IN_STATUS.stuck j) = true) ∧
    (∃ (s : State) (j : Fin 4), s.flag (TRG_IN_CTL.en j) = true ∧ s.flag (TRG_IN_STATUS.level j) = true ∧ s.flag
      (TRG_IN_STATUS.stuck j) = false ∧ State.stuckOver (s.trgIn j).activeAt s.time.clk (s.f (TRG_IN_STUCK.stuck_us j)) =
      false) ∧
    (∃ (s : State) (j : Fin 4), s.flag (TRG_IN_CTL.en j) = true ∧ s.flag (TRG_IN_STATUS.level j) = true ∧ s.flag
      (TRG_IN_STATUS.stuck j) = false ∧ State.stuckOver (s.trgIn j).activeAt s.time.clk (s.f (TRG_IN_STUCK.stuck_us j)) =
      true) ∧
    (∃ (s : State) (j : Fin 4) (high : Bool) (tick : Nat) (bin : Fin 64), (s.up .fabric = false ∨ s.flag (TRG_IN_CTL.en j) =
      false)) :=
  ⟨⟨w_triggerPinsAct_0, 0, 500, 0, by decide +kernel⟩,
    ⟨w_triggerPinsAct_0_90, 0, 500, 0, by decide +kernel⟩,
    ⟨w_triggerPinsAct_2, 0, 0x1234, [0x99999999999], by decide +kernel⟩,
    ⟨w_triggerPinsAct_3, 0, 0x1234, by decide +kernel⟩,
    ⟨w_triggerPinsAct_4, 0, false, 500, 0, by decide +kernel⟩,
    ⟨w_triggerPinsAct_5, 0, by decide +kernel⟩,
    ⟨w_triggerPinsAct_6, 0, by decide +kernel⟩,
    ⟨w_triggerPinsAct_7, 0, false, 500, 0, by decide +kernel⟩⟩

def w_capturesAreWrittenAndRecorded_0 : State :=
  let r : Fin 64 := 0
  let s : State := live |>.set (CAP_REGION_STATUS.full r) 0 |>.set (TRG_RGN_CTL.avg r) 0 |>.set (TRG_RGN_CTL.state r) 1
      |>.set (CAP_REGION_STATUS.exists_ r) 1 |>.set (CAP_REGION_SRC.mode r) 0 |>.set (TRG_RGN_CTL.path r) 2 |>.set
      (CAP_REGION_SRC.stream r) 5 |>.set (CAP_REGION_SRC.fmt r) 0 |>.set (CAP_REGION_SRC.protect r) 0
  s |>.withRegion r fun g => { g with spans := [(50, none)], base := 4096, sizeLog2 := 20 }

def w_capturesAreWrittenAndRecorded_1 : State :=
  let r : Fin 64 := 0
  let s : State := live |>.set (CAP_REGION_SRC.mode r) 0
  s |>.withRegion r fun g =>
      { g with sizeLog2 := 20, captures := [{ trigger := List.replicate 64 7, index := 50, pre := 1, post := 1, since := 0, floor := 0, stop := none }], units := 4, held := [{ unit := 3, count := 1, pos := 0, bytes := 40, first := 50, spacing := 1024, last := 50, flags := 0, marker := none, gap := false }] }

def w_capturesAreWrittenAndRecorded_2 : State :=
  let r : Fin 64 := 0
  let a₀ : Nat := 50
  w_capturesAreWrittenAndRecorded_0 |>.set (CAP_REGION_STATUS.full r) 0 |>.set (TRG_RGN_CTL.avg r) 0 |>.withRegion r
    (fun z => { z with spans := [(a₀, none)] })

def w_capturesAreWrittenAndRecorded_3 : State :=
  let r : Fin 64 := 0
  w_capturesAreWrittenAndRecorded_0 |>.set (TRG_RGN_CTL.avg r) 0 |>.withRegion r (fun z => { z with spans := [] })

def w_capturesAreWrittenAndRecorded_4 : State :=
  w_capturesAreWrittenAndRecorded_0

theorem wit_capturesAreWrittenAndRecorded :
    (∃ (s : State) (r : Fin 64) (c : Capture) (cs : List Capture) (u : Nat) (start : Nat) (stop : Nat), (s.region r).captures
      = c :: cs ∧ s.capSpan r c = some (u, start, stop)) ∧
    (∃ (s : State) (r : Fin 64) (x : Parcel) (a₀ : Nat), s.rgnState r ≠ 0 ∧ s.regionExists r = true ∧ s.capMode r < 2 ∧
      s.flag (CAP_REGION_STATUS.full r) = false ∧ x.path = s.f (TRG_RGN_CTL.path r) ∧ x.stream = s.f (CAP_REGION_SRC.stream
      r) ∧ x.kind ≠ .gap ∧ s.capFmt r = 0 ∧ s.protectLimit r = none ∧ s.flag (TRG_RGN_CTL.avg r) = false ∧ a₀ ≤ x.seq ∧
      (s.region r).spans = [(a₀, none)]) ∧
    (∃ (s : State) (r : Fin 64) (x : Parcel), s.flag (TRG_RGN_CTL.avg r) = false ∧ (∀ y ∈ (s.region r).spans, State.spanOpen
      x.seq y = false)) ∧
    (∃ (s : State) (r : Fin 64), (∀ c ∈ (s.region r).captures.head?, s.capSpan r c = none)) :=
  ⟨⟨w_capturesAreWrittenAndRecorded_1, 0,
      { trigger := List.replicate 64 7, index := 50, pre := 1, post := 1, since := 0, floor := 0, stop := none }, [], 3, 3, 4,
      by decide +kernel⟩,
    ⟨w_capturesAreWrittenAndRecorded_2, 0, { blk with path := 2, stream := 5, seq := 50 }, 50, by decide +kernel⟩,
    ⟨w_capturesAreWrittenAndRecorded_3, 0, { blk with path := 2, stream := 5, seq := 50 }, by decide +kernel⟩,
    ⟨w_capturesAreWrittenAndRecorded_4, 0, by decide +kernel⟩⟩

def w_regionsAreAllocatedAndAcknowledged_0 : State :=
  let p : Port := .a
  live |>.setHolder 6 (some (.cp p))

def w_regionsAreAllocatedAndAcknowledged_1 : State :=
  let p : Port := .a
  w_regionsAreAllocatedAndAcknowledged_0 |>.setHolder 6 (some (.cp p))

def w_regionsAreAllocatedAndAcknowledged_2 : State :=
  let p : Port := .a
  w_regionsAreAllocatedAndAcknowledged_0 |>.setHolder 6 (some (.cp p)) |>.set (CAP_REGION_SIZE.size_log2 5) 20 |>.set
    (CAP_REGION_BASE.reg 5) 0 |>.set MEM_SUMMARY.capacity 1 |>.set (CAP_REGION_STATUS.exists_ 5) 0

def w_regionsAreAllocatedAndAcknowledged_3 : State :=
  let p : Port := .a
  w_regionsAreAllocatedAndAcknowledged_0 |>.setHolder 6 (some (.cp p))

def w_regionsAreAllocatedAndAcknowledged_4 : State :=
  let p : Port := .a
  w_regionsAreAllocatedAndAcknowledged_0 |>.setHolder 6 (some (.cp p)) |>.set (CAP_REGION_SIZE.size_log2 5) 20 |>.set
    (CAP_REGION_BASE.reg 5) 0 |>.set MEM_SUMMARY.capacity 1 |>.set (CAP_REGION_STATUS.exists_ 5) 1

def w_regionsAreAllocatedAndAcknowledged_5 : State :=
  let p : Port := .a
  w_regionsAreAllocatedAndAcknowledged_0 |>.setHolder 6 (some (.cp p))

def w_regionsAreAllocatedAndAcknowledged_6 : State :=
  let p : Port := .a
  w_regionsAreAllocatedAndAcknowledged_0 |>.setHolder 6 (some (.cp p)) |>.set (CAP_REGION_SIZE.size_log2 5) 20 |>.set
    (CAP_REGION_BASE.reg 5) 0 |>.set MEM_SUMMARY.capacity 1 |>.set (CAP_REGION_STATUS.exists_ 5) 1

def w_regionsAreAllocatedAndAcknowledged_7 : State :=
  let r : Fin 64 := 0
  w_regionsAreAllocatedAndAcknowledged_0 |>.set (CAP_REGION_STATUS.full r) 1

def w_regionsAreAllocatedAndAcknowledged_8 : State :=
  w_regionsAreAllocatedAndAcknowledged_0

theorem wit_regionsAreAllocatedAndAcknowledged :
    (∃ (s : State) (p : Port) (v : Word) (r : Nat), s.accepts p CAP_ALLOC.reg.addr (some 6) ∧ r = v.toNat % 64) ∧
    (∃ (s : State) (p : Port), s.accepts p (CAP_BAR4_WIN.reg 0).addr none) ∧
    (∃ (s : State) (p : Port), s.accepts p ((CAP_BAR4_WIN.reg 0).addr + 4) none) ∧
    (∃ (s : State) (p : Port) (v : Word) (r : Nat), s.accepts p CAP_ALLOC.reg.addr (some 6) ∧ r = v.toNat % 64 ∧ s.allocCode
      1 r ≠ 0) ∧
    (∃ (s : State) (p : Port) (v : Word) (r : Nat), s.accepts p CAP_ALLOC.reg.addr (some 6) ∧ r = v.toNat % 64 ∧ s.allocCode
      1 r = 0) ∧
    (∃ (s : State) (p : Port) (v : Word) (r : Nat), s.accepts p CAP_ALLOC.reg.addr (some 6) ∧ r = v.toNat % 64 ∧ s.allocCode
      2 r ≠ 0) ∧
    (∃ (s : State) (p : Port) (v : Word) (r : Nat), s.accepts p CAP_ALLOC.reg.addr (some 6) ∧ r = v.toNat % 64 ∧ s.allocCode
      2 r = 0) ∧
    (∃ (s : State) (p : Port) (v : Word) (r : Nat), s.accepts p CAP_ALLOC.reg.addr (some 6) ∧ r = v.toNat % 64 ∧ s.allocCode
      3 r ≠ 0) ∧
    (∃ (s : State) (p : Port) (v : Word) (r : Nat), s.accepts p CAP_ALLOC.reg.addr (some 6) ∧ r = v.toNat % 64 ∧ s.allocCode
      3 r = 0) ∧
    (∃ (s : State) (u : State) (p : Port) (r : Fin 64) (v : Word), s.accepts p (CAP_REGION_ACK.reg r).addr none ∧ u = s.set
      (CAP_REGION_ACK.reg r) v.toNat ∧ s.flag (CAP_REGION_STATUS.full r) = true ∧ (∀ l ∈ u.protectLimit r, s.f
      (CAP_REGION_WRITTEN.reg r) < l)) ∧
    (∃ (s : State) (u : State) (p : Port) (r : Fin 64) (v : Word), s.accepts p (CAP_REGION_ACK.reg r).addr none ∧ u = s.set
      (CAP_REGION_ACK.reg r) v.toNat ∧ (s.flag (CAP_REGION_STATUS.full r) = false ∨ (∃ l ∈ u.protectLimit r, l ≤ s.f
      (CAP_REGION_WRITTEN.reg r)))) :=
  ⟨⟨w_regionsAreAllocatedAndAcknowledged_0, .a, 0x10000045, (let v : Word := 0x10000045; v.toNat % 64), accepts_of
      (by decide +kernel) (by decide +kernel), by decide +kernel⟩,
    ⟨live, .a, accepts_of (by decide +kernel) (by decide +kernel)⟩,
    ⟨live, .a, accepts_of (by decide +kernel) (by decide +kernel)⟩,
    ⟨w_regionsAreAllocatedAndAcknowledged_1, .a, 0x10000045, (0x10000045 : Word).toNat % 64, accepts_of (by decide +kernel)
      (by decide +kernel), by decide +kernel⟩,
    ⟨w_regionsAreAllocatedAndAcknowledged_2, .a, 0x10000045, (0x10000045 : Word).toNat % 64, accepts_of (by decide +kernel)
      (by decide +kernel), by decide +kernel⟩,
    ⟨w_regionsAreAllocatedAndAcknowledged_3, .a, 0x10000045, (0x10000045 : Word).toNat % 64, accepts_of (by decide +kernel)
      (by decide +kernel), by decide +kernel⟩,
    ⟨w_regionsAreAllocatedAndAcknowledged_4, .a, 0x10000045, (0x10000045 : Word).toNat % 64, accepts_of (by decide +kernel)
      (by decide +kernel), by decide +kernel⟩,
    ⟨w_regionsAreAllocatedAndAcknowledged_5, .a, 0x10000045, (0x10000045 : Word).toNat % 64, accepts_of (by decide +kernel)
      (by decide +kernel), by decide +kernel⟩,
    ⟨w_regionsAreAllocatedAndAcknowledged_6, .a, 0x10000045, (0x10000045 : Word).toNat % 64, accepts_of (by decide +kernel)
      (by decide +kernel), by decide +kernel⟩,
    ⟨w_regionsAreAllocatedAndAcknowledged_7, (w_regionsAreAllocatedAndAcknowledged_7.set (CAP_REGION_ACK.reg 0) (0x10000045
      : Word).toNat), .a, 0, 0x10000045, accepts_of (by decide +kernel) (by decide +kernel), rfl, by decide +kernel⟩,
    ⟨w_regionsAreAllocatedAndAcknowledged_8, (w_regionsAreAllocatedAndAcknowledged_8.set (CAP_REGION_ACK.reg 0) (0x10000045
      : Word).toNat), .a, 0, 0x10000045, accepts_of (by decide +kernel) (by decide +kernel), rfl, by decide +kernel⟩⟩

def w_aluInstructionsFollowTheirOperation_0 : State :=
  let n : Fin 64 := 0
  let x : KpAlu :=
      { op := .add, half := false, dst := 1, a := 2, b := 3, dstHi := false, aHi := false, bHi := false, shift := Fin.ofNat _ (9) }
  live |>.withKpAt n (kw 0 (State.aluFields x))

def w_aluInstructionsFollowTheirOperation_1 : State :=
  let n : Fin 64 := 0
  let x : KpAlu :=
      { op := .add, half := true, dst := 1, a := 2, b := 3, dstHi := false, aHi := false, bHi := false, shift := 0 }
  live |>.withKpAt n (kw 1 (State.aluFields x))

theorem wit_aluInstructionsFollowTheirOperation :
    (∃ (s : State) (n : Fin 64) (x : KpAlu) (a : Nat) (b : Nat), s.kpRuns n [0, 1, 2, 3] (State.aluFields x) true ∧ x.half =
      false ∧ a = s.kpW n x.a ∧ b = s.kpW n x.b ∧ (x.op = .add)) ∧
    (∃ (s : State) (n : Fin 64) (x : KpAlu), s.kpRuns n [0, 1, 2, 3] (State.aluFields x) true ∧ x.half = true ∧ x.op = .add) :=
  ⟨⟨w_aluInstructionsFollowTheirOperation_0, 0,
      { op := .add, half := false, dst := 1, a := 2, b := 3, dstHi := false, aHi := false, bHi := false, shift := Fin.ofNat _ (9) },
      (let n : Fin 64 := 0; let x : KpAlu :=
      { op := .add, half := false, dst := 1, a := 2, b := 3, dstHi := false, aHi := false, bHi := false, shift := Fin.ofNat _ (9) };
      let s : State := w_aluInstructionsFollowTheirOperation_0; s.kpW n x.a), (let n : Fin 64 := 0; let x : KpAlu :=
      { op := .add, half := false, dst := 1, a := 2, b := 3, dstHi := false, aHi := false, bHi := false, shift := Fin.ofNat _ (9) };
      let s : State := w_aluInstructionsFollowTheirOperation_0; s.kpW n x.b), ⟨by decide +kernel, by decide +kernel,
      by decide +kernel⟩, by decide +kernel⟩,
    ⟨w_aluInstructionsFollowTheirOperation_1, 0,
      { op := .add, half := true, dst := 1, a := 2, b := 3, dstHi := false, aHi := false, bHi := false, shift := 0 },
      ⟨by decide +kernel, by decide +kernel, by decide +kernel⟩, by decide +kernel⟩⟩

def w_multipliesAndSearchesFillTheirRegisters_0 : State :=
  let n : Fin 64 := 0
  let x : KpMul :=
      { x := 1, y := 2, neg0 := false, neg1 := false, neg2 := false, neg3 := false, u := false, moveX := .none, moveY := .none }
  live |>.withKpAt n (kw 4 (State.mulFields x))

def w_multipliesAndSearchesFillTheirRegisters_1 : State :=
  let n : Fin 64 := 0
  let k : Fin 4 := 0
  let x : KpMul :=
      { x := 1, y := 2, neg0 := false, neg1 := false, neg2 := false, neg3 := false, u := false, moveX := .none, moveY := .none }
  live |>.withKpAt n (kw 4 ((12, 2, k.val) :: State.mulFields x))

def w_multipliesAndSearchesFillTheirRegisters_2 : State :=
  let n : Fin 64 := 0
  let k : Fin 4 := 0
  live |>.withKpAt n (kw 4 [(12, 2, k.val)])

def w_multipliesAndSearchesFillTheirRegisters_3 : State :=
  let n : Fin 64 := 0
  let d : Fin 16 := 1
  let j : Fin 16 := 1 + 1
  let c : Fin 8 := 0
  let u : Bool := false
  live |>.withKpAt n (kw 0x14 (State.searchFields d j c u .none))

def w_multipliesAndSearchesFillTheirRegisters_4 : State :=
  let n : Fin 64 := 0
  let d : Fin 16 := 0
  let e : Fin 16 := 0
  live |>.withKpAt n (kw 0x15 [(23, 4, d.val), (19, 4, e.val)])

theorem wit_multipliesAndSearchesFillTheirRegisters :
    (∃ (s : State) (n : Fin 64) (x : KpMul) (a : Nat) (b : Nat) (f : Bool) (e : Nat × Bool × Nat × Nat), s.kpRuns n [4, 5]
      (State.mulFields x) true ∧ s.kpSh1 n = false ∧ x.moveX = .none ∧ x.moveY = .none ∧ a = s.kpW n x.x ∧ b = s.kpW n
      x.y ∧ f = bit (s.kpOf n).sr.toNat 10 ∧ e ∈ [(0, x.neg0, bits a 0 16, bits b 0 16), (1, x.neg1, bits a 16 16, bits b
      16 16), (2, x.neg2, bits a 0 16, bits b 16 16), (3, x.neg3, bits a 16 16, bits b 0 16)]) ∧
    (∃ (s : State) (n : Fin 64) (k : Fin 4) (x : KpMul) (a : Nat) (b : Nat) (f : Bool) (p : Int), s.kpRuns n [4, 5] ((12, 2,
      k.val) :: State.mulFields x) true ∧ x.moveX = .none ∧ x.moveY = .none ∧ a = s.kpW n x.x ∧ b = s.kpW n x.y ∧ f = bit
      (s.kpOf n).sr.toNat 10 ∧ p = signBy x.neg0 (mulHalves f x.u (bits a 0 16) (bits b 0 16)) + signBy x.neg1 (mulHalves
      f x.u (bits a 16 16) (bits b 16 16))) ∧
    (∃ (s : State) (n : Fin 64) (k : Fin 4) (c : Fin 4), s.kpRuns n [4, 5] [(12, 2, k.val)] true ∧ s.kpCur n c < 8192) ∧
    (∃ (s : State) (n : Fin 64) (d : Fin 16) (j : Fin 16) (c : Fin 8) (u : Bool) (v : Nat), d ≠ j ∧ s.kpRuns n [0x14]
      (State.searchFields d j c u .none) true ∧ s.kpCur n c < 8192 ∧ v = (s.kpMem n (State.kpWordNo (decide (4 ≤ c.val))
      (s.kpCur n c))).toNat) ∧
    (∃ (s : State) (n : Fin 64) (d : Fin 16) (e : Fin 16), s.kpRuns n [0x15] [(23, 4, d.val), (19, 4, e.val)] true) :=
  ⟨⟨w_multipliesAndSearchesFillTheirRegisters_0, 0,
      { x := 1, y := 2, neg0 := false, neg1 := false, neg2 := false, neg3 := false, u := false, moveX := .none, moveY := .none },
      (let n : Fin 64 := 0; let x : KpMul :=
      { x := 1, y := 2, neg0 := false, neg1 := false, neg2 := false, neg3 := false, u := false, moveX := .none, moveY := .none };
      let s : State := w_multipliesAndSearchesFillTheirRegisters_0; s.kpW n x.x), (let n : Fin 64 := 0; let x : KpMul
      :=
      { x := 1, y := 2, neg0 := false, neg1 := false, neg2 := false, neg3 := false, u := false, moveX := .none, moveY := .none };
      let s : State := w_multipliesAndSearchesFillTheirRegisters_0; s.kpW n x.y), (let n : Fin 64 := 0; let s : State
      := w_multipliesAndSearchesFillTheirRegisters_0; bit (s.kpOf n).sr.toNat 10), (let n : Fin 64 := 0; let x : KpMul
      :=
      { x := 1, y := 2, neg0 := false, neg1 := false, neg2 := false, neg3 := false, u := false, moveX := .none, moveY := .none };
      let s : State := w_multipliesAndSearchesFillTheirRegisters_0; (3, x.neg3, bits (s.kpW n x.x) 16 16, bits (s.kpW n
      x.y) 0 16)), ⟨by decide +kernel, by decide +kernel, by decide +kernel⟩, by decide +kernel⟩,
    ⟨w_multipliesAndSearchesFillTheirRegisters_1, 0, 0,
      { x := 1, y := 2, neg0 := false, neg1 := false, neg2 := false, neg3 := false, u := false, moveX := .none, moveY := .none },
      (let n : Fin 64 := 0; let x : KpMul :=
      { x := 1, y := 2, neg0 := false, neg1 := false, neg2 := false, neg3 := false, u := false, moveX := .none, moveY := .none };
      let s : State := w_multipliesAndSearchesFillTheirRegisters_1; s.kpW n x.x), (let n : Fin 64 := 0; let x : KpMul
      :=
      { x := 1, y := 2, neg0 := false, neg1 := false, neg2 := false, neg3 := false, u := false, moveX := .none, moveY := .none };
      let s : State := w_multipliesAndSearchesFillTheirRegisters_1; s.kpW n x.y), (let n : Fin 64 := 0; let s : State
      := w_multipliesAndSearchesFillTheirRegisters_1; bit (s.kpOf n).sr.toNat 10), (let x : KpMul :=
      { x := 1, y := 2, neg0 := false, neg1 := false, neg2 := false, neg3 := false, u := false, moveX := .none, moveY := .none };
      let a : Nat := (let n : Fin 64 := 0; let x : KpMul :=
      { x := 1, y := 2, neg0 := false, neg1 := false, neg2 := false, neg3 := false, u := false, moveX := .none, moveY := .none };
      let s : State := w_multipliesAndSearchesFillTheirRegisters_1; s.kpW n x.x); let b : Nat := (let n : Fin 64 := 0;
      let x : KpMul :=
      { x := 1, y := 2, neg0 := false, neg1 := false, neg2 := false, neg3 := false, u := false, moveX := .none, moveY := .none };
      let s : State := w_multipliesAndSearchesFillTheirRegisters_1; s.kpW n x.y); let f : Bool := (let n : Fin 64 := 0;
      let s : State := w_multipliesAndSearchesFillTheirRegisters_1; bit (s.kpOf n).sr.toNat 10); signBy x.neg0
      (mulHalves f x.u (bits a 0 16) (bits b 0 16)) + signBy x.neg1 (mulHalves f x.u (bits a 16 16) (bits b 16 16))),
      ⟨by decide +kernel, by decide +kernel, by decide +kernel⟩, by decide +kernel⟩,
    ⟨w_multipliesAndSearchesFillTheirRegisters_2, 0, 0, 0, ⟨by decide +kernel, by decide +kernel, by decide +kernel⟩,
      by decide +kernel⟩,
    ⟨w_multipliesAndSearchesFillTheirRegisters_3, 0, 1, 1 + 1, 0, false, (let n : Fin 64 := 0; let c : Fin 8 := 0; let s :
      State := w_multipliesAndSearchesFillTheirRegisters_3; (s.kpMem n (State.kpWordNo (decide (4 ≤ c.val)) (s.kpCur n
      c))).toNat), by decide +kernel, ⟨by decide +kernel, by decide +kernel, by decide +kernel⟩, by decide +kernel⟩,
    ⟨w_multipliesAndSearchesFillTheirRegisters_4, 0, 0, 0, ⟨by decide +kernel, by decide +kernel, by decide +kernel⟩⟩⟩

def w_loadsStoresAndMovesReachTheirPlaces_0 : State :=
  let n : Fin 64 := 0
  let w : Fin 16 := 0
  let c : Fin 8 := 0
  let m : KpMode := .step .stride
  live |>.withKpAt n (kw 8 (State.ldFields (.w w) c m))

def w_loadsStoresAndMovesReachTheirPlaces_1 : State :=
  let n : Fin 64 := 0
  let d : KpData := .w (5)
  let c : Fin 8 := 0
  let m : KpMode := .offset (-1)
  let s : State := live |>.withKpAt n (kw 8 (State.ldFields d c m))
  s |>.withKp n fun x => { x with cur := x.cur.put 0 c 8193 }

def w_loadsStoresAndMovesReachTheirPlaces_2 : State :=
  let n : Fin 64 := 0
  let c : Fin 8 := 0
  let m : KpMode := .step .none
  live |>.withKpAt n (kw 8 (State.modeFields c m))

def w_loadsStoresAndMovesReachTheirPlaces_3 : State :=
  let n : Fin 64 := 0
  live |>.withKpAt n (kw 0xC [])

def w_loadsStoresAndMovesReachTheirPlaces_4 : State :=
  let n : Fin 64 := 0
  live |>.withKpAt n (kw 0xD [])

theorem wit_loadsStoresAndMovesReachTheirPlaces :
    (∃ (s : State) (n : Fin 64) (w : Fin 16) (c : Fin 8) (m : KpMode), s.kpRuns n [8, 9, 10, 11] (State.ldFields (.w w) c m)
      true ∧ s.kpEa n c m < 8192) ∧
    (∃ (s : State) (n : Fin 64) (d : KpData) (c : Fin 8) (m : KpMode), s.kpRuns n [8, 9, 10, 11] (State.ldFields d c m) true
      ∧ 8192 ≤ s.kpEa n c m) ∧
    (∃ (s : State) (n : Fin 64) (c : Fin 8) (m : KpMode), s.kpRuns n [8, 9, 10, 11] (State.modeFields c m) true ∧ s.kpEa n c
      m < 8192) ∧
    (∃ (s : State) (n : Fin 64), s.kpRuns n [0x0C] [] false) ∧
    (∃ (s : State) (n : Fin 64), s.kpRuns n [0x0D] [] false) :=
  ⟨⟨w_loadsStoresAndMovesReachTheirPlaces_0, 0, 0, 0, .step .stride, ⟨by decide +kernel, by decide +kernel,
      by decide +kernel⟩, by decide +kernel⟩,
    ⟨w_loadsStoresAndMovesReachTheirPlaces_1, 0, .w (5), 0, .offset (-1), ⟨by decide +kernel, by decide +kernel,
      by decide +kernel⟩, by decide +kernel⟩,
    ⟨w_loadsStoresAndMovesReachTheirPlaces_2, 0, 0, .step .none, ⟨by decide +kernel, by decide +kernel, by decide +kernel⟩,
      by decide +kernel⟩,
    ⟨w_loadsStoresAndMovesReachTheirPlaces_3, 0, ⟨by decide +kernel, by decide +kernel, by decide +kernel⟩⟩,
    ⟨w_loadsStoresAndMovesReachTheirPlaces_4, 0, ⟨by decide +kernel, by decide +kernel, by decide +kernel⟩⟩⟩

def w_controlFlowFollowsItsConditions_0 : State :=
  let n : Fin 64 := 0
  let g : Fin 8192 := 0
  live |>.withKpAt n (kw 0x10 [(0, 13, g.val)])

def w_controlFlowFollowsItsConditions_1_0 : State :=
  let n : Fin 64 := 0
  let g : Fin 8192 := 0
  live |>.withKpAt n (kw 0x10 [(0, 13, g.val)])

def w_controlFlowFollowsItsConditions_1_1 : State :=
  let n : Fin 64 := 0
  let g : Fin 8192 := 0
  let s : State := live |>.withKpAt n (kw 0x10 [(0, 13, g.val)])
  s |>.withKp n fun x => { x with stack := List.replicate 64 { pc := 1, sr := 2, rc := 3, late := 0, irq := false } }

def w_controlFlowFollowsItsConditions_2 : State :=
  let n : Fin 64 := 0
  let s : State := live |>.withKpAt n (kw 0x10 [])
  s |>.withKp n fun x => { x with stack := [{ pc := 9000, sr := 0x80000001, rc := 3, late := 0, irq := false }] }

def w_controlFlowFollowsItsConditions_3 : State :=
  let n : Fin 64 := 0
  live |>.withKpAt n (kw 0x10 [])

def w_controlFlowFollowsItsConditions_4 : State :=
  let n : Fin 64 := 0
  let s : State := live |>.withKpAt n (kw 0x18 [])
  s |>.withKp n fun x => { x with stack := [{ pc := 9000, sr := 0x80000001, rc := 3, late := 0, irq := false }] }

def w_controlFlowFollowsItsConditions_5_0 : State :=
  let n : Fin 64 := 0
  live |>.withKpAt n (kw 0x11 [(0, 13, 100)])

def w_controlFlowFollowsItsConditions_5_1 : State :=
  let n : Fin 64 := 0
  let s : State := live |>.withKpAt n (kw 0x11 [(0, 13, 100)])
  s |>.withKp n fun x => { x with loops := List.replicate 4 { start := 1, stop := 2, left := 3 } }

def w_controlFlowFollowsItsConditions_6 : State :=
  let n : Fin 64 := 0
  let k : Fin 65536 := 0
  live |>.withKpAt n (kw 0x12 [(0, 16, k.val)])

def w_controlFlowFollowsItsConditions_8 : State :=
  live |>.withKpAt 0 (kw 0x12 [])

theorem wit_controlFlowFollowsItsConditions :
    (∃ (s : State) (n : Fin 64) (g : Fin 8192), s.kpRuns n [0x10] [(0, 13, g.val)] false) ∧
    (∃ (s : State) (n : Fin 64) (c : KpCond) (g : Fin 8192), s.kpRuns n [0x10] [(0, 13, g.val)] false ∧ condHolds (s.kpOf
      n).sr.toNat c = true ∧ (s.kpOf n).stack.length < s.kpDepth n) ∧
    (∃ (s : State) (n : Fin 64) (c : KpCond) (g : Fin 8192), s.kpRuns n [0x10] [(0, 13, g.val)] false ∧ condHolds (s.kpOf
      n).sr.toNat c = true ∧ s.kpDepth n ≤ (s.kpOf n).stack.length) ∧
    (∃ (s : State) (n : Fin 64) (e : KpFrame) (es : List KpFrame), s.kpRuns n [0x10] [] false ∧ (s.kpOf n).stack = e :: es) ∧
    (∃ (s : State) (n : Fin 64), s.kpRuns n [0x10] [] false ∧ (s.kpOf n).stack = []) ∧
    (∃ (s : State) (n : Fin 64) (e : KpFrame) (es : List KpFrame), s.kpRuns n [0x18] [] false ∧ (s.kpOf n).stack = e :: es) ∧
    (∃ (s : State) (n : Fin 64) (k : KpCount) (g : Fin 8192), s.kpRuns n [0x11] [(0, 13, g.val)] false ∧ s.kpCount n k ≠ 0 ∧
      g.val ≠ s.kpPc n ∧ (s.kpOf n).loops.length < 4) ∧
    (∃ (s : State) (n : Fin 64) (k : KpCount) (g : Fin 8192), s.kpRuns n [0x11] [(0, 13, g.val)] false ∧ s.kpCount n k ≠ 0 ∧
      g.val ≠ s.kpPc n ∧ 4 ≤ (s.kpOf n).loops.length) ∧
    (∃ (s : State) (n : Fin 64) (k : Fin 65536), s.kpRuns n [0x12] [(0, 16, k.val)] false) ∧
    (∃ (s : State) (n : Fin 64) (w : Fin 16), s.kpRuns n [0x12] [(0, 16, w.val)] false ∧ s.kpW n w % 2 ^ 17 = 0) :=
  ⟨⟨w_controlFlowFollowsItsConditions_0, 0, 0, ⟨by decide +kernel, by decide +kernel, by decide +kernel⟩⟩,
    ⟨w_controlFlowFollowsItsConditions_1_0, 0, .always, 0, ⟨by decide +kernel, by decide +kernel, by decide +kernel⟩,
      by decide +kernel⟩,
    ⟨w_controlFlowFollowsItsConditions_1_1, 0, .always, 0, ⟨by decide +kernel, by decide +kernel, by decide +kernel⟩,
      by decide +kernel⟩,
    ⟨w_controlFlowFollowsItsConditions_2, 0, { pc := 9000, sr := 0x80000001, rc := 3, late := 0, irq := false }, [], ⟨by decide +kernel,
      by decide +kernel, by decide +kernel⟩, by decide +kernel⟩,
    ⟨w_controlFlowFollowsItsConditions_3, 0, ⟨by decide +kernel, by decide +kernel, by decide +kernel⟩, by decide +kernel⟩,
    ⟨w_controlFlowFollowsItsConditions_4, 0, { pc := 9000, sr := 0x80000001, rc := 3, late := 0, irq := false }, [], ⟨by decide +kernel,
      by decide +kernel, by decide +kernel⟩, by decide +kernel⟩,
    ⟨w_controlFlowFollowsItsConditions_5_0, 0, .imm 5, 100, ⟨by decide +kernel, by decide +kernel, by decide +kernel⟩,
      by decide +kernel⟩,
    ⟨w_controlFlowFollowsItsConditions_5_1, 0, .imm 5, 100, ⟨by decide +kernel, by decide +kernel, by decide +kernel⟩,
      by decide +kernel⟩,
    ⟨w_controlFlowFollowsItsConditions_6, 0, 0, ⟨by decide +kernel, by decide +kernel, by decide +kernel⟩⟩,
    ⟨w_controlFlowFollowsItsConditions_8, 0, 0, ⟨by decide +kernel, by decide +kernel, by decide +kernel⟩,
      by decide +kernel⟩⟩

def w_controlInstructionsAct_0 : State :=
  let n : Fin 64 := 0
  live |>.withKpAt n (kw 0x18 [])

def w_controlInstructionsAct_1 : State :=
  let n : Fin 64 := 0
  live |>.withKpAt n (kw 0x18 [])

def w_controlInstructionsAct_2 : State :=
  let n : Fin 64 := 0
  live |>.withKpAt n (kw 0x18 [])

def w_controlInstructionsAct_3 : State :=
  let n : Fin 64 := 0
  live |>.withKpAt n (kw 0x18 [])

def w_controlInstructionsAct_4 : State :=
  let n : Fin 64 := 0
  live |>.withKpAt n (kw 0x18 [])

theorem wit_controlInstructionsAct :
    (∃ (s : State) (n : Fin 64), s.kpRuns n [0x18] [] false) ∧
    (∃ (s : State) (n : Fin 64), s.kpRuns n [0x18] [] false ∧ (s.kpOf n).haltAsked = false) ∧
    (∃ (s : State) (n : Fin 64), s.kpRuns n [0x18] [] false ∧ (s.flag (KP_MBOX_STATUS.out_full n) = false)) ∧
    (∃ (s : State) (n : Fin 64), s.kpRuns n [0x18] [] false ∧ s.kpSh1 n = false) ∧
    (∃ (s : State) (n : Fin 64) (lo : Fin 16) (hi : Fin 16) (ph : Fin 16), s.kpRuns n [0x18] [] false ∧ s.kpSh1 n = false ∧
      lo ≠ hi ∧ lo ≠ ph ∧ hi ≠ ph) :=
  ⟨⟨w_controlInstructionsAct_0, 0, ⟨by decide +kernel, by decide +kernel, by decide +kernel⟩⟩,
    ⟨w_controlInstructionsAct_1, 0, ⟨by decide +kernel, by decide +kernel, by decide +kernel⟩, by decide +kernel⟩,
    ⟨w_controlInstructionsAct_2, 0, ⟨by decide +kernel, by decide +kernel, by decide +kernel⟩, by decide +kernel⟩,
    ⟨w_controlInstructionsAct_3, 0, ⟨by decide +kernel, by decide +kernel, by decide +kernel⟩, by decide +kernel⟩,
    ⟨w_controlInstructionsAct_4, 0, 4, 15, 0, ⟨by decide +kernel, by decide +kernel, by decide +kernel⟩, by decide +kernel⟩⟩

def w_interruptsAndFaultsOfProcessors_0 : State :=
  let n : Fin 64 := 0
  let s : State := live |>.withKpAt n 0
  s |>.withKp n fun x => { x with sr := 0x80000000, imask := 8, ipend := 8, ipri := 0xFFFFFFFF }

def w_interruptsAndFaultsOfProcessors_1 : State :=
  let n : Fin 64 := 0
  let s : State := live |>.withKpAt n 0 |>.set (KP_STATUS.sh1 n) 1
  s |>.withKp n fun x => { x with sr := 0x80000000, imask := 1, ipend := 1, ipri := 0xFFFFFFFF }

def w_interruptsAndFaultsOfProcessors_2 : State :=
  let n : Fin 64 := 0
  let s : State := live |>.withKpAt n 0
  s |>.withKp n fun x =>
      { x with sr := 0x80000000, imask := 1, ipend := 1, ipri := 0xFFFFFFFF, stack := List.replicate 16 { pc := 1, sr := 0, rc := 0, late := 0, irq := false } }

def w_interruptsAndFaultsOfProcessors_3 : State :=
  let n : Fin 64 := 0
  let s : State := live |>.withKpAt n 0
  s |>.withKp n fun x => { x with tmr := 5 }

def w_interruptsAndFaultsOfProcessors_4 : State :=
  let n : Fin 64 := 0
  let s : State := live |>.withKpAt n 0 |>.set (KP_WDOG.reg n) 7
  s |>.withKp n fun x => { x with cycles := 7 }

def w_interruptsAndFaultsOfProcessors_6 : State :=
  let n : Fin 64 := 0
  w_interruptsAndFaultsOfProcessors_0 |>.withKp n (fun z => { z with tmr := 5, tmrAt := 77777 })

def w_interruptsAndFaultsOfProcessors_7 : State :=
  w_interruptsAndFaultsOfProcessors_3

def w_interruptsAndFaultsOfProcessors_10 : State :=
  live |>.withKpAt 0 (kw 0x1F [])

def w_interruptsAndFaultsOfProcessors_11 : State :=
  w_interruptsAndFaultsOfProcessors_0

def w_interruptsAndFaultsOfProcessors_12 : State :=
  w_interruptsAndFaultsOfProcessors_0

theorem wit_interruptsAndFaultsOfProcessors :
    (∃ (s : State) (n : Fin 64) (k : Nat), s.kpExecutes n = true ∧ s.kpSource n = some k ∧ s.kpSh1 n = false ∧ (s.kpOf
      n).stack.length < 16) ∧
    (∃ (s : State) (n : Fin 64) (k : Nat), s.kpExecutes n = true ∧ s.kpSource n = some k ∧ s.kpSh1 n = true ∧ (s.kpOf
      n).stack.length < 8) ∧
    (∃ (s : State) (n : Fin 64) (k : Nat), s.kpExecutes n = true ∧ s.kpSource n = some k ∧ s.kpDepth n ≤ (s.kpOf
      n).stack.length) ∧
    (∃ (s : State) (n : Fin 64), s.kpExecutes n = true ∧ s.f (KP_WDOG.reg n) ≠ 0 ∧ s.f (KP_WDOG.reg n) ≤ (s.kpOf n).cycles) ∧
    (∃ (s : State) (n : Fin 64), s.kpTimer n ≠ 0) ∧
    (∃ (s : State) (n : Fin 64), s.up .kp = true ∧ s.kpUsable n = true ∧ (s.kpOf n).tmr ≠ 0 ∧ s.kpTimer n = 0) ∧
    (∃ (s : State) (n : Fin 64), s.kpExecutes n = true ∧ State.kpIllegal (s.kpMem n (s.kpPc n)).toNat = true) ∧
    (∃ (s : State) (n : Fin 64), s.kpExecutes n = true ∧ State.kpIllegal (s.kpMem n (s.kpPc n)).toNat = false) ∧
    (∃ (s : State) (n : Fin 64) (got : KpGot), s.kpExecutes n = true ∧ s.kpPc n ∈ got.failed) :=
  ⟨⟨w_interruptsAndFaultsOfProcessors_0, 0, 3, by decide +kernel⟩,
    ⟨w_interruptsAndFaultsOfProcessors_1, 0, 0, by decide +kernel⟩,
    ⟨w_interruptsAndFaultsOfProcessors_2, 0, 0, by decide +kernel⟩,
    ⟨w_interruptsAndFaultsOfProcessors_4, 0, by decide +kernel⟩,
    ⟨w_interruptsAndFaultsOfProcessors_6, 0, by decide +kernel⟩,
    ⟨w_interruptsAndFaultsOfProcessors_7, 0, by decide +kernel⟩,
    ⟨w_interruptsAndFaultsOfProcessors_10, 0, by decide +kernel⟩,
    ⟨w_interruptsAndFaultsOfProcessors_11, 0, by decide +kernel⟩,
    ⟨w_interruptsAndFaultsOfProcessors_12, 0, { failed := [w_interruptsAndFaultsOfProcessors_0.kpPc 0], corrected := [] },
      by decide +kernel⟩⟩

def w_hostAndInboxReachTheProcessors_0 : State :=
  let n : Fin 64 := 0
  live |>.set (KP_IN_CTL.en n) 1 |>.withKpAt n 0 |>.set (KP_IN_CTL.path n) 2 |>.set (KP_IN_CTL.stream n) 5

def w_hostAndInboxReachTheProcessors_0_90 : State :=
  let n : Fin 64 := 0
  live |>.set (KP_IN_CTL.en n) 1 |>.withKpAt n 0 |>.set (KP_IN_CTL.path n) 2 |>.set (KP_IN_CTL.stream n) 5 |>.set
      (KP_IN_CTL.size_log2 n) 12

def w_hostAndInboxReachTheProcessors_0_91 : State :=
  let n : Fin 64 := 0
  let s : State := live |>.set (KP_IN_CTL.en n) 1 |>.withKpAt n 0 |>.set (KP_IN_CTL.path n) 2 |>.set (KP_IN_CTL.stream n) 5
      |>.set (KP_IN_CTL.size_log2 n) 6
  s |>.withKp n fun y => { y with inwp := 60 }

def w_hostAndInboxReachTheProcessors_1 : State :=
  let n : Fin 64 := 0
  live |>.set (KP_MBOX_STATUS.in_full n) 0 |>.withKpAt n 0

def w_hostAndInboxReachTheProcessors_2 : State :=
  let n : Fin 64 := 0
  live |>.set (KP_MBOX_STATUS.out_full n) 1 |>.withKpAt n 0

def w_hostAndInboxReachTheProcessors_3_1 : State :=
  let n : Fin 64 := 0
  live |>.withKpAt n 0

def w_hostAndInboxReachTheProcessors_3_2 : State :=
  let n : Fin 64 := 0
  live |>.withKpAt n 0

def w_hostAndInboxReachTheProcessors_4_0 : State :=
  let p : Port := .a
  let n : Fin 64 := 0
  live |>.setHolder 13 (some (.cp p)) |>.withKpAt n 0 |>.set (KP_STATUS.running n) 0 |>.set (KP_STATUS.faulted n) 0

def w_hostAndInboxReachTheProcessors_4_1 : State :=
  let p : Port := .a
  let n : Fin 64 := 0
  live |>.setHolder 13 (some (.cp p)) |>.withKpAt n 0 |>.set (KP_STATUS.running n) 0 |>.set (KP_STATUS.faulted n) 0

def w_hostAndInboxReachTheProcessors_5 : State :=
  let p : Port := .a
  let n : Fin 64 := 0
  live |>.setHolder 13 (some (.cp p)) |>.withKpAt n 0

def w_hostAndInboxReachTheProcessors_6 : State :=
  let n : Fin 64 := 0
  w_hostAndInboxReachTheProcessors_0 |>.set (KP_IN_CTL.en n) 1

def w_hostAndInboxReachTheProcessors_7 : State :=
  let n : Fin 64 := 0
  w_hostAndInboxReachTheProcessors_0_91 |>.set (KP_IN_CTL.en n) 1

def w_hostAndInboxReachTheProcessors_8 : State :=
  let n : Fin 64 := 0
  w_hostAndInboxReachTheProcessors_0_90 |>.set (KP_IN_CTL.en n) 1

theorem wit_hostAndInboxReachTheProcessors :
    (∃ (s : State) (p : Port) (n : Fin 64), s.accepts p (KP_MBOX_IN.reg n 3).addr none ∧ s.kpUsable n = true ∧ s.flag
      (KP_MBOX_STATUS.in_full n) = false) ∧
    (∃ (s : State) (p : Port) (n : Fin 64), s.accepts p (KP_MBOX_STATUS.reg n).addr none ∧ s.kpUsable n = true ∧ s.flag
      (KP_MBOX_STATUS.out_full n) = true) ∧
    (∃ (s : State) (p : Port) (n : Fin 64) (w : Fin 24576), s.accepts p (0x1000000 + 0x20000 * n.val + 4 * w.val) none ∧
      s.kpUsable n = true ∧ (8192 ≤ w.val ∨ s.kpRunning n = false)) ∧
    (∃ (s : State) (p : Port) (n : Fin 64) (w : Fin 24576), s.accepts p (0x1000000 + 0x20000 * n.val + 4 * w.val) none ∧
      s.kpUsable n = true ∧ w.val < 8192 ∧ s.kpRunning n = true) ∧
    (∃ (s : State) (p : Port) (n : Fin 64) (v : Word), s.accepts p (KP_CTL.reg n).addr (some 13) ∧ s.kpUsable n = true ∧
      s.kpRunning n = false ∧ bit v.toNat 0 = false) ∧
    (∃ (s : State) (p : Port) (n : Fin 64) (v : Word), s.accepts p (KP_CTL.reg n).addr (some 13) ∧ s.kpUsable n = true ∧
      s.kpRunning n = false ∧ bit v.toNat 2 = false ∧ s.flag (KP_STATUS.faulted n) = false) ∧
    (∃ (s : State) (p : Port) (n : Fin 64), s.accepts p (KP_CTL.reg n).addr (some 13) ∧ s.kpUsable n = true ∧ s.kpRunning n =
      true ∧ s.kpSh1 n = false) ∧
    (∃ (s : State) (n : Fin 64) (x : Parcel), s.up .kp = true ∧ s.kpUsable n = true ∧ s.flag (KP_IN_CTL.en n) = true ∧
      x.path = s.f (KP_IN_CTL.path n) ∧ (s.f (KP_IN_CTL.stream n) = 255 ∨ x.stream = s.f (KP_IN_CTL.stream n) ∨ x.kind =
      .gap ∧ x.stream = 255) ∧ x.crcOk = false) ∧
    (∃ (s : State) (n : Fin 64) (x : Parcel), s.up .kp = true ∧ s.kpUsable n = true ∧ s.flag (KP_IN_CTL.en n) = true ∧
      x.path = s.f (KP_IN_CTL.path n) ∧ (s.f (KP_IN_CTL.stream n) = 255 ∨ x.stream = s.f (KP_IN_CTL.stream n) ∨ x.kind =
      .gap ∧ x.stream = 255) ∧ x.crcOk = true ∧ s.kpRingSize n < ((s.kpOf n).inwp - (s.kpOf n).inrp).toNat + (State.kpWords
      x).length) ∧
    (∃ (s : State) (n : Fin 64) (x : Parcel), s.up .kp = true ∧ s.kpUsable n = true ∧ s.flag (KP_IN_CTL.en n) = true ∧
      x.path = s.f (KP_IN_CTL.path n) ∧ (s.f (KP_IN_CTL.stream n) = 255 ∨ x.stream = s.f (KP_IN_CTL.stream n) ∨ x.kind =
      .gap ∧ x.stream = 255) ∧ x.crcOk = true ∧ ((s.kpOf n).inwp - (s.kpOf n).inrp).toNat + (State.kpWords x).length ≤
      s.kpRingSize n) :=
  ⟨⟨w_hostAndInboxReachTheProcessors_1, .a, 0, accepts_of (by decide +kernel) (by decide +kernel), by decide +kernel⟩,
    ⟨w_hostAndInboxReachTheProcessors_2, .a, 0, accepts_of (by decide +kernel) (by decide +kernel), by decide +kernel⟩,
    ⟨w_hostAndInboxReachTheProcessors_3_1, .a, 0, 9000, accepts_of (by decide +kernel) (by decide +kernel),
      by decide +kernel⟩,
    ⟨w_hostAndInboxReachTheProcessors_3_2, .a, 0, 0, accepts_of (by decide +kernel) (by decide +kernel), by decide +kernel⟩,
    ⟨w_hostAndInboxReachTheProcessors_4_0, .a, 0, 4, accepts_of (by decide +kernel) (by decide +kernel), by decide +kernel⟩,
    ⟨w_hostAndInboxReachTheProcessors_4_1, .a, 0, 1, accepts_of (by decide +kernel) (by decide +kernel), by decide +kernel⟩,
    ⟨w_hostAndInboxReachTheProcessors_5, .a, 0, accepts_of (by decide +kernel) (by decide +kernel), by decide +kernel⟩,
    ⟨w_hostAndInboxReachTheProcessors_6, 0, { blk with path := 2, stream := 5 }, by decide +kernel⟩,
    ⟨w_hostAndInboxReachTheProcessors_7, 0, ({ blk with path := 2, stream := 5 } : Parcel).seal, by decide +kernel⟩,
    ⟨w_hostAndInboxReachTheProcessors_8, 0, ({ blk with path := 2, stream := 5 } : Parcel).seal, by decide +kernel⟩⟩

def w_dmaChannelsRunTheirDescriptors_0 : State :=
  let n : Fin 128 := 0
  live |>.set (DMA_STATUS.busy n) 0

def w_dmaChannelsRunTheirDescriptors_1 : State :=
  let n : Fin 128 := 0
  live |>.set (DMA_STATUS.busy n) 1

def w_dmaChannelsRunTheirDescriptors_2 : State :=
  let n : Fin 128 := 0
  live |>.set (DMA_STATUS.busy n) 1

def w_dmaChannelsRunTheirDescriptors_3 : State :=
  let n : Fin 128 := 0
  let s : State := live |>.set (DMA_STATUS.busy n) 1
  s |>.withChan n fun x => { x with desc := some dsc }

def w_dmaChannelsRunTheirDescriptors_4 : State :=
  let n : Fin 128 := 0
  let s : State := live |>.set (DMA_STATUS.busy n) 1
  s |>.withChan n fun x => { x with desc := some dsc, burst := some 512 }

def w_dmaChannelsRunTheirDescriptors_5 : State :=
  let n : Fin 128 := 0
  let s : State := live |>.set (DMA_STATUS.busy n) 1
  let s : State := s |>.withChan n fun x => { x with desc := some dsc }
  s |>.set (DMA_CQ_CTL.en 3) 1 |>.set (DMA_CQ_CTL.size_log2 3) 5 |>.set (DMA_CQ_HEAD.index 3) 4 |>.set (DMA_CQ_TAIL.index 3)
      2

def w_dmaChannelsRunTheirDescriptors_6 : State :=
  let n : Fin 128 := 0
  w_dmaChannelsRunTheirDescriptors_2 |>.set (DMA_STATUS.busy n) 1 |>.withChan n (fun z => { z with desc := none })

theorem wit_dmaChannelsRunTheirDescriptors :
    (∃ (s : State) (p : Port) (n : Fin 128) (v : Word), s.accepts p (DMA_CTL.reg n).addr none ∧ bit v.toNat 30 = false ∧
      s.flag (DMA_STATUS.busy n) = false ∧ s.chanHeld n = false) ∧
    (∃ (s : State) (n : Fin 128) (b : List Byte), s.flag (DMA_STATUS.busy n) = true ∧ (s.chan n).desc = none ∧
      (DmaDesc.ofBytes b).formatError = true ∨ descReserved b = false) ∧
    (∃ (s : State) (n : Fin 128) (b : List Byte), s.flag (DMA_STATUS.busy n) = true ∧ (s.chan n).desc = none ∧ (s.chan
      n).disabling = false ∧ (DmaDesc.ofBytes b).formatError = false ∧ descReserved b = true ∧ s.sideAbsent
      (DmaDesc.ofBytes b).srcSpace (DmaDesc.ofBytes b).srcSel (DmaDesc.ofBytes b).src
      ((DmaDesc.ofBytes b).span (DmaDesc.ofBytes b).ringSrc) = false ∧ s.sideAbsent
      (DmaDesc.ofBytes b).dstSpace (DmaDesc.ofBytes b).dstSel (DmaDesc.ofBytes b).dst
      ((DmaDesc.ofBytes b).span (DmaDesc.ofBytes b).ringDst) = false) ∧
    (∃ (s : State) (u : State) (n : Fin 128) (d : DmaDesc), s.flag (DMA_STATUS.busy n) = true ∧ s.chanHeld n = false ∧
      (s.chan n).desc = some d ∧ (s.chan n).fin = none ∧ (s.chan n).burst = none ∧ (s.chan n).parked = false ∧ (s.chan
      n).disabling = false ∧ State.exitFull (s.chan n) d = false ∧ s.dmaOverrun n (s.chan n) d = false ∧ u = s.setChan n
      { s.chan n with fillGo := d.pace != 1 || s.fillRuns n (s.chan n) d } ∧ u.burstSize n ≠ 0 ∧ u.burstsInFlight < 16 ∧
      u.dmaChosen = some n.val) ∧
    (∃ (s : State) (p : Port) (n : Fin 128) (d : DmaDesc) (m : Nat), s.accepts p (DMA_CTL.reg n).addr none ∧ s.flag
      (DMA_STATUS.busy n) = true ∧ (s.chan n).desc = some d ∧ (s.chan n).fin = none ∧ (s.chan n).burst = some m) ∧
    (∃ (s : State) (p : Port) (n : Fin 128) (d : DmaDesc), s.accepts p (DMA_CTL.reg n).addr none ∧ s.flag (DMA_STATUS.busy n)
      = true ∧ (s.chan n).desc = some d ∧ (s.chan n).fin = none ∧ (s.chan n).burst = none ∧ s.chanHeld n = false ∧
      s.cqBlocked d.cq = false ∧ d.srcSpace ≠ 2 ∧ d.dstSpace ≠ 2) ∧
    (∃ (s : State) (n : Fin 128) (b : List Byte), s.flag (DMA_STATUS.busy n) = true ∧ (s.chan n).desc = none ∧
      (DmaDesc.ofBytes b).formatError = false ∧ descReserved b = true ∧ (s.sideAbsent (DmaDesc.ofBytes b).srcSpace
      (DmaDesc.ofBytes b).srcSel (DmaDesc.ofBytes b).src ((DmaDesc.ofBytes b).span (DmaDesc.ofBytes b).ringSrc) = true ∨
      s.sideAbsent (DmaDesc.ofBytes b).dstSpace (DmaDesc.ofBytes b).dstSel (DmaDesc.ofBytes b).dst ((DmaDesc.ofBytes b).span
      (DmaDesc.ofBytes b).ringDst) = true)) :=
  ⟨⟨w_dmaChannelsRunTheirDescriptors_0, .a, 0, 0x80000301, accepts_of (by decide +kernel) (by decide +kernel),
      by decide +kernel⟩,
    ⟨w_dmaChannelsRunTheirDescriptors_1, 0, dscBytes.set 29 6, by decide +kernel⟩,
    ⟨w_dmaChannelsRunTheirDescriptors_2, 0, dscBytes, by decide +kernel⟩,
    ⟨w_dmaChannelsRunTheirDescriptors_3, (let n : Fin 128 := 0; let d : DmaDesc := dsc; let s : State :=
      w_dmaChannelsRunTheirDescriptors_3; s.setChan n
      { s.chan n with fillGo := d.pace != 1 || s.fillRuns n (s.chan n) d }), 0, dsc, by decide +kernel, by decide +kernel, by decide +kernel, by decide +kernel, by decide +kernel,
      by decide +kernel, by decide +kernel, by decide +kernel, by decide +kernel, rfl, by decide +kernel⟩,
    ⟨w_dmaChannelsRunTheirDescriptors_4, .a, 0, dsc, 512, accepts_of (by decide +kernel) (by decide +kernel),
      by decide +kernel⟩,
    ⟨w_dmaChannelsRunTheirDescriptors_5, .a, 0, dsc, accepts_of (by decide +kernel) (by decide +kernel), by decide +kernel⟩,
    ⟨w_dmaChannelsRunTheirDescriptors_6, 0, dscBytes.set 29 2, by decide +kernel⟩⟩

def w_dmaBeatsRecordsAndQueues_0 : State :=
  let n : Fin 128 := 0
  let s : State := live
  s |>.withChan n fun x => { x with desc := some { dsc with srcSpace := 3, dstSpace := 1 }, burst := some 512 }

def w_dmaBeatsRecordsAndQueues_2 : State :=
  let n : Fin 128 := 0
  let s : State := live
  s |>.withChan n fun x => { x with desc := some dsc, burst := some 512, disabling := true }

def w_dmaBeatsRecordsAndQueues_5_0 : State :=
  let n : Fin 128 := 0
  let s : State := live
  s |>.withChan n fun y => { y with exit := some (0, 255, false) }

def w_dmaBeatsRecordsAndQueues_5_1 : State :=
  let n : Fin 128 := 0
  let s : State := live
  let s : State := s |>.withChan n fun y => { y with exit := some (0, 255, false) }
  s |>.withChan n fun y => { y with queue := List.replicate 70 { blk with payload := List.replicate 4000 0 } }

def w_dmaBeatsRecordsAndQueues_8 : State :=
  let s : State := live
  let s : State := s |> fun s =>
      { s with dma := { s.dma with chans := [(100, { DmaSt.reset with desc := some dsc, quiesce := true })] } }
  s |>.set (DMA_STATUS.busy 100) 1 |>.withTime fun x => { x with clk := 10 ^ 13 }

def w_dmaBeatsRecordsAndQueues_9 : State :=
  let n : Fin 128 := 0
  let s : State := live
  s |>.withChan n fun x => { x with desc := some { dsc with flags := 4 }, parked := true }

theorem quiesced (n : Nat) (d : DmaDesc) (h : (w_dmaBeatsRecordsAndQueues_8.chan n).desc = some d) :
    d.cq < 16 ∧ (d.srcSpace = 2 → d.srcSel < 64) ∧ (d.dstSpace = 2 → d.dstSel < 64) := by
  have hc : w_dmaBeatsRecordsAndQueues_8.dma.chans = [(100, { DmaSt.reset with desc := some dsc, quiesce := true })] := rfl
  unfold State.chan at h
  rw [hc] at h
  simp only [Tab.get] at h
  split at h
  · cases (show some dsc = some d from h)
    decide
  · cases (show none = some d from h)

def w_dmaBeatsRecordsAndQueues_12 : State :=
  w_dmaBeatsRecordsAndQueues_0 |>.withTime (fun z => { z with clk := 0 })

def w_dmaBeatsRecordsAndQueues_13 : State :=
  let n : Fin 128 := 0
  let d : DmaDesc := { dsc with src := 0x10020 }
  let r : Nat := 512
  w_dmaBeatsRecordsAndQueues_2 |>.withChan n (fun z => { z with desc := some d }) |>.withChan n
    (fun z => { z with burst := some r }) |>.withChan n (fun z => { z with disabling := false })

def w_dmaBeatsRecordsAndQueues_14 : State :=
  let n : Fin 128 := 0
  let d : DmaDesc := { dsc with dstSpace := 1 }
  let r : Nat := 512
  w_dmaBeatsRecordsAndQueues_2 |>.withChan n (fun z => { z with desc := some d }) |>.withChan n
    (fun z => { z with burst := some r }) |>.withChan n (fun z => { z with disabling := false })

def w_dmaBeatsRecordsAndQueues_15 : State :=
  let n : Fin 128 := 0
  let d : DmaDesc := { dsc with dstSpace := 1 }
  let r : Nat := 512
  w_dmaBeatsRecordsAndQueues_2 |>.withChan n (fun z => { z with desc := some d }) |>.withChan n
    (fun z => { z with burst := some r }) |>.withChan n (fun z => { z with disabling := false })

def w_dmaBeatsRecordsAndQueues_16 : State :=
  let n : Fin 128 := 0
  let d : DmaDesc := dsc
  let r : Nat := 512
  w_dmaBeatsRecordsAndQueues_2 |>.withChan n (fun z => { z with desc := some d }) |>.withChan n
    (fun z => { z with burst := some r }) |>.withChan n (fun z => { z with disabling := false }) |>.withChan n
    (fun z => { z with funnel := [] })

def w_dmaBeatsRecordsAndQueues_17 : State :=
  let n : Fin 128 := 0
  let d : DmaDesc := dsc
  let e : DmaEnd := { status := 1, cause := 2, addr := some 64 }
  w_dmaBeatsRecordsAndQueues_2 |>.withChan n (fun z => { z with desc := some d }) |>.withChan n
    (fun z => { z with fin := some e }) |>.withChan n (fun z => { z with headDone := 0 }) |>.set (DMA_CQ_CTL.en 3) 1 |>.set
    (DMA_CQ_CTL.size_log2 3) 5

def w_dmaBeatsRecordsAndQueues_18 : State :=
  let n : Fin 128 := 0
  let d : DmaDesc := dsc
  let e : DmaEnd := { status := 0, cause := 0, addr := none }
  w_dmaBeatsRecordsAndQueues_2 |>.withChan n (fun z => { z with desc := some d }) |>.withChan n
    (fun z => { z with fin := some e }) |>.withChan n (fun z => { z with headDone := 0 })

def w_dmaBeatsRecordsAndQueues_19 : State :=
  let n : Fin 128 := 0
  let x : Parcel := blk
  let st : Nat := 0
  let w : Bool := false
  w_dmaBeatsRecordsAndQueues_2 |>.withChan n (fun z => { z with exit := some (x.path, st, w) }) |>.set PWR_STATE.state 0

def w_dmaBeatsRecordsAndQueues_20 : State :=
  let n : Fin 128 := 0
  let x : Parcel := blk.seal
  let st : Nat := 0
  let w : Bool := false
  w_dmaBeatsRecordsAndQueues_5_0 |>.withChan n (fun z => { z with exit := some (x.path, st, w) })

def w_dmaBeatsRecordsAndQueues_21 : State :=
  let n : Fin 128 := 0
  let x : Parcel := blk.seal
  let st : Nat := 0
  let w : Bool := false
  w_dmaBeatsRecordsAndQueues_5_1 |>.withChan n (fun z => { z with exit := some (x.path, st, w) })

theorem wit_dmaBeatsRecordsAndQueues :
    (∃ (s : State) (n : Fin 128) (d : DmaDesc) (r : Nat), (s.chan n).desc = some d ∧ (s.chan n).burst = some r ∧ (s.chan
      n).disabling = true) ∧
    (∃ (s : State) (p : Port) (n : Fin 128), s.accepts p (DMA_RING_PARTNER.reg n).addr none) ∧
    (∃ (s : State) (p : Port) (q : Fin 16), s.accepts p (DMA_CQ_TAIL.reg q).addr none ∧ s.dma.held = []) ∧
    (∃ (s : State), s.quiescePending = true ∧ 2560 * max 1 (s.f DMA_PWR.quiesce_us) + s.dma.askedAt ≤ s.time.clk ∧ (∀ n d, (s.chan n).desc = some d → d.cq < 16 ∧ (d.srcSpace = 2 → d.srcSel < 64)
      ∧ (d.dstSpace = 2 → d.dstSel < 64))) ∧
    (∃ (s : State) (n : Fin 128) (d : DmaDesc), (s.chan n).desc = some d ∧ (s.chan n).parked = true ∧ d.resume = true ∧ (∀ m
      : Fin 128, m ≠ n → (s.chan m).parked = false) ∧ (∀ y ∈ d.domains, s.up y = true ∧ s.dma.taking.contains y = false)) ∧
    (∃ (s : State), s.time.clk < 2560 * max 1 (s.f DMA_PWR.quiesce_us) + s.dma.askedAt) ∧
    (∃ (s : State) (n : Fin 128) (got : DmaBeat) (d : DmaDesc) (r : Nat) (w : Nat) (f : List Byte), (s.chan n).desc = some d
      ∧ (s.chan n).burst = some r ∧ (s.chan n).disabling = false ∧ State.readCause d got = 0 ∧ w = s.beatSize n (s.chan n) d
      r ∧ f = (s.chan n).funnel ++ s.srcRead (s.chan n) d (s.readAt n (s.chan n) d) (s.readSize n (s.chan n) d r) got.data ∧
      f.length < w) ∧
    (∃ (s : State) (n : Fin 128) (got : DmaBeat) (d : DmaDesc) (r : Nat) (w : Nat) (f : List Byte), (s.chan n).desc = some d
      ∧ (s.chan n).burst = some r ∧ (s.chan n).disabling = false ∧ State.readCause d got = 0 ∧ w = s.beatSize n (s.chan n) d
      r ∧ f = (s.chan n).funnel ++ s.srcRead (s.chan n) d (s.readAt n (s.chan n) d) (s.readSize n (s.chan n) d r) got.data ∧
      f.length = w ∧ 0 < w ∧ d.dstSpace ≤ 1 ∧ d.ring = false ∧ s.writeCause d (s.dstAt n (s.chan n) d) w
      (got.writeCauses.headD 0).val = 0 ∧ d.srcSpace ≠ 5 ∧ got.fixed = none) ∧
    (∃ (s : State) (n : Fin 128) (got : DmaBeat) (d : DmaDesc) (r : Nat) (w : Nat) (f : List Byte), (s.chan n).desc = some d
      ∧ (s.chan n).burst = some r ∧ (s.chan n).disabling = false ∧ State.readCause d got = 0 ∧ w = s.beatSize n (s.chan n) d
      r ∧ f = (s.chan n).funnel ++ s.srcRead (s.chan n) d (s.readAt n (s.chan n) d) (s.readSize n (s.chan n) d r) got.data ∧
      f.length = w ∧ 0 < w ∧ s.writeCause d (s.dstAt n (s.chan n) d) w (got.writeCauses.headD 0).val ≠ 0 ∧ State.dmaLeft
      (s.chan n) d ≠ some w) ∧
    (∃ (s : State) (n : Fin 128) (got : DmaBeat) (d : DmaDesc) (r : Nat), (s.chan n).desc = some d ∧ (s.chan n).burst = some
      r ∧ (s.chan n).disabling = false ∧ (s.chan n).funnel = [] ∧ State.readCause d got ≠ 0) ∧
    (∃ (s : State) (n : Fin 128) (d : DmaDesc) (e : DmaEnd), (s.chan n).desc = some d ∧ (s.chan n).fin = some e ∧ (s.chan
      n).headDone = 0 ∧ d.srcSpace ≠ 2 ∧ d.dstSpace ≠ 2 ∧ s.endHeld n = false ∧ d.cq < 16 ∧ s.cqBlocked d.cq = false ∧
      d.next = 0 ∧ (d.irq = true ∨ e.status ∉ [0, 8, 9])) ∧
    (∃ (s : State) (n : Fin 128) (d : DmaDesc) (e : DmaEnd), (s.chan n).desc = some d ∧ (s.chan n).fin = some e ∧ (s.chan
      n).headDone = 0 ∧ d.srcSpace ≠ 2 ∧ d.dstSpace ≠ 2 ∧ s.endHeld n = false ∧ d.cq < 16 ∧ s.cqBlocked d.cq = true) ∧
    (∃ (s : State) (n : Fin 128) (x : Parcel) (st : Nat) (w : Bool), (s.chan n).exit = some (x.path, st, w) ∧ (st = 255 ∨
      x.stream = st ∨ x.kind = .gap) ∧ s.up .host = true ∧ s.f PWR_STATE.state = 0 ∧ x.crcOk = false) ∧
    (∃ (s : State) (n : Fin 128) (x : Parcel) (st : Nat) (w : Bool), (s.chan n).exit = some (x.path, st, w) ∧ (st = 255 ∨
      x.stream = st ∨ x.kind = .gap) ∧ s.up .host = true ∧ s.f PWR_STATE.state = 0 ∧ x.crcOk = true ∧ ((s.chan n).queue.map
      fun y => y.bytes.length).foldl (· + ·) 0 + x.bytes.length ≤ 256 * 1024) ∧
    (∃ (s : State) (n : Fin 128) (x : Parcel) (st : Nat) (w : Bool), (s.chan n).exit = some (x.path, st, w) ∧ (st = 255 ∨
      x.stream = st ∨ x.kind = .gap) ∧ s.up .host = true ∧ s.f PWR_STATE.state = 0 ∧ x.crcOk = true ∧ 256 * 1024 < ((s.chan
      n).queue.map fun y => y.bytes.length).foldl (· + ·) 0 + x.bytes.length) :=
  ⟨⟨w_dmaBeatsRecordsAndQueues_2, 0, dsc, 512, by decide +kernel⟩,
    ⟨live, .a, 0, accepts_of (by decide +kernel) (by decide +kernel)⟩,
    ⟨live, .a, 0, accepts_of (by decide +kernel) (by decide +kernel), by decide +kernel⟩,
    ⟨w_dmaBeatsRecordsAndQueues_8, by decide +kernel, by decide +kernel, quiesced⟩,
    ⟨w_dmaBeatsRecordsAndQueues_9, 0, { dsc with flags := 4 }, by decide +kernel, by decide +kernel, by decide +kernel,
      by decide +kernel, fun y => by cases y <;> decide +kernel⟩,
    ⟨w_dmaBeatsRecordsAndQueues_12, by decide +kernel⟩,
    ⟨w_dmaBeatsRecordsAndQueues_13, 0, beat, { dsc with src := 0x10020 }, 512, (w_dmaBeatsRecordsAndQueues_13.beatSize 0
      (w_dmaBeatsRecordsAndQueues_13.chan 0) { dsc with src := 0x10020 } 512), (w_dmaBeatsRecordsAndQueues_13.chan 0).funnel
      ++ w_dmaBeatsRecordsAndQueues_13.srcRead (w_dmaBeatsRecordsAndQueues_13.chan 0) { dsc with src := 0x10020 }
      (w_dmaBeatsRecordsAndQueues_13.readAt 0 (w_dmaBeatsRecordsAndQueues_13.chan 0) { dsc with src := 0x10020 })
      (w_dmaBeatsRecordsAndQueues_13.readSize 0 (w_dmaBeatsRecordsAndQueues_13.chan 0) { dsc with src := 0x10020 } 512)
      beat.data, by decide +kernel⟩,
    ⟨w_dmaBeatsRecordsAndQueues_14, 0, beat, { dsc with dstSpace := 1 }, 512, (w_dmaBeatsRecordsAndQueues_14.beatSize 0
      (w_dmaBeatsRecordsAndQueues_14.chan 0) { dsc with dstSpace := 1 } 512), (w_dmaBeatsRecordsAndQueues_14.chan 0).funnel
      ++ w_dmaBeatsRecordsAndQueues_14.srcRead (w_dmaBeatsRecordsAndQueues_14.chan 0) { dsc with dstSpace := 1 }
      (w_dmaBeatsRecordsAndQueues_14.readAt 0 (w_dmaBeatsRecordsAndQueues_14.chan 0) { dsc with dstSpace := 1 })
      (w_dmaBeatsRecordsAndQueues_14.readSize 0 (w_dmaBeatsRecordsAndQueues_14.chan 0) { dsc with dstSpace := 1 } 512)
      beat.data, by decide +kernel⟩,
    ⟨w_dmaBeatsRecordsAndQueues_15, 0, { beat with writeCauses := [2] }, { dsc with dstSpace := 1 }, 512,
      (w_dmaBeatsRecordsAndQueues_15.beatSize 0 (w_dmaBeatsRecordsAndQueues_15.chan 0) { dsc with dstSpace := 1 } 512),
      (w_dmaBeatsRecordsAndQueues_15.chan 0).funnel ++ w_dmaBeatsRecordsAndQueues_15.srcRead
      (w_dmaBeatsRecordsAndQueues_15.chan 0) { dsc with dstSpace := 1 } (w_dmaBeatsRecordsAndQueues_15.readAt 0
      (w_dmaBeatsRecordsAndQueues_15.chan 0) { dsc with dstSpace := 1 }) (w_dmaBeatsRecordsAndQueues_15.readSize 0
      (w_dmaBeatsRecordsAndQueues_15.chan 0) { dsc with dstSpace := 1 } 512) { beat with writeCauses := [2] }.data,
      by decide +kernel⟩,
    ⟨w_dmaBeatsRecordsAndQueues_16, 0, { beat with readCause := 2 }, dsc, 512, by decide +kernel⟩,
    ⟨w_dmaBeatsRecordsAndQueues_17, 0, dsc, { status := 1, cause := 2, addr := some 64 }, by decide +kernel⟩,
    ⟨w_dmaBeatsRecordsAndQueues_18, 0, dsc, { status := 0, cause := 0, addr := none }, by decide +kernel⟩,
    ⟨w_dmaBeatsRecordsAndQueues_19, 0, blk, 0, false, by decide +kernel⟩,
    ⟨w_dmaBeatsRecordsAndQueues_20, 0, blk.seal, 0, false, by decide +kernel⟩,
    ⟨w_dmaBeatsRecordsAndQueues_21, 0, blk.seal, 0, false, by decide +kernel⟩⟩

def w_streamFlowsSendAndCount_0_0 : State :=
  let sp : Fin 2 := 0
  let fl : Fin 32 := 0
  live |>.set (STRM_FLOW_CTL.src sp fl) 0 |>.set (STRM_PORT_CTL.en sp) 1 |>.set (STRM_FLOW_CTL.en sp fl) 1 |>.set
      (STRM_FLOW_CTL.path sp fl) 2 |>.set (STRM_FLOW_CTL.sel sp fl) 5

def w_streamFlowsSendAndCount_1 : State :=
  let p : Port := .a
  let sp : Fin 2 := 0
  let fl : Fin 32 := 0
  live |>.setHolder 9 (some (.cp p)) |>.set (STRM_FLOW_CTL.en sp fl) 0 |>.set (STRM_PORT_CTL.en sp) 1 |>.set GLB_ID.reg
      GLB_ID.reg.rst

def w_streamFlowsSendAndCount_2 : State :=
  let sp : Fin 2 := 0
  let fl : Fin 32 := 0
  live |>.set (STRM_PORT_CTL.en sp) 1 |>.set (STRM_FLOW_CTL.en sp fl) 1 |>.set (STRM_FLOW_OPT.ctx_ms sp fl) 100

def w_streamFlowsSendAndCount_3 : State :=
  let sp : Fin 2 := 0
  let fl : Fin 32 := 0
  let s : State := live |>.set (STRM_FLOW_CTL.src sp fl) 1 |>.set (STRM_PORT_CTL.en sp) 1 |>.set (STRM_FLOW_CTL.en sp fl) 1
      |>.set (STRM_FLOW_CTL.sel sp fl) 6 |>.set (CAP_REGION_STATUS.exists_ 6) 1 |>.set (CAP_REGION_SRC.rec_region 6) 7 |>.set
      (CAP_REGION_STATUS.exists_ 7) 1 |>.set (STRM_FLOW_AT.reg sp fl) 2
  let s : State := s |>.withRegion 6 fun g => { g with sizeLog2 := 20, base := 2 ^ 20, number := 3 }
  s |>.withRegion 7 fun g => { g with sizeLog2 := 20, base := 2 ^ 21 }

def w_streamFlowsSendAndCount_4 : State :=
  let sp : Fin 2 := 0
  live |>.set (STRM_PORT_STATUS.link sp) 1

def w_streamFlowsSendAndCount_5 : State :=
  let sp : Fin 2 := 0
  live |>.set (STRM_PORT_STATUS.link sp) 1

def w_streamFlowsSendAndCount_5_90 : State :=
  let sp : Fin 2 := 0
  live |>.set (STRM_PORT_STATUS.link sp) 1 |>.set (STRM_PORT_CTL.ipv6 sp) 1 |>.set (STRM_PORT_IP6.reg sp 0) 0x20010db8 |>.set
      (STRM_PORT_IP6.reg sp 1) 0 |>.set (STRM_PORT_IP6.reg sp 2) 0 |>.set (STRM_PORT_IP6.reg sp 3) 7

def w_streamFlowsSendAndCount_6 : State :=
  let sp : Fin 2 := 0
  live |>.set (STRM_PORT_STATUS.link sp) 1

def w_streamFlowsSendAndCount_7 : State :=
  let sp : Fin 2 := 0
  let b : Bool := false
  live |>.set (STRM_PORT_STATUS.link sp) (b2n (!b)) |>.set (STRM_PORT_CTL.en sp) 1

def w_streamFlowsSendAndCount_13 : State :=
  w_streamFlowsSendAndCount_0_0 |>.set PWR_STATE.state 2

def w_streamFlowsSendAndCount_14 : State :=
  let sp : Fin 2 := 0
  w_streamFlowsSendAndCount_7 |>.set (STRM_PORT_STATUS.link sp) 0

def w_streamFlowsSendAndCount_16 : State :=
  let sp : Fin 2 := 0
  let fl : Fin 32 := 0
  w_streamFlowsSendAndCount_0_0 |>.set (STRM_FLOW_CTL.path sp fl) 0 |>.set (STRM_FLOW_CTL.sel sp fl) 0

def w_streamFlowsSendAndCount_17 : State :=
  let sp : Fin 2 := 0
  let fl : Fin 32 := 0
  w_streamFlowsSendAndCount_0_0 |>.set (STRM_FLOW_CTL.path sp fl) 0 |>.set (STRM_FLOW_CTL.sel sp fl) 0

def w_streamFlowsSendAndCount_18 : State :=
  let sp : Fin 2 := 0
  let fl : Fin 32 := 0
  w_streamFlowsSendAndCount_0_0 |>.set (STRM_FLOW_CTL.path sp fl) 0 |>.set (STRM_FLOW_CTL.sel sp fl) 0

def w_streamFlowsSendAndCount_19 : State :=
  let sp : Fin 2 := 0
  let fl : Fin 32 := 0
  w_streamFlowsSendAndCount_0_0 |>.set (STRM_FLOW_CTL.path sp fl) 0 |>.set (STRM_FLOW_CTL.sel sp fl) 0 |> fun s =>
    { s with strm := { s.strm with buffer := s.strm.buffer.put 0 sp (2 ^ 40) } }

def w_streamFlowsSendAndCount_20 : State :=
  let p : Port := .a
  let sp : Fin 2 := 0
  let fl : Fin 32 := 0
  w_streamFlowsSendAndCount_1 |>.setHolder 9 (some (.cp p)) |>.set (STRM_FLOW_CTL.en sp fl) 1

def w_streamFlowsSendAndCount_21 : State :=
  let p : Port := .a
  let sp : Fin 2 := 0
  let fl : Fin 32 := 0
  w_streamFlowsSendAndCount_1 |>.setHolder 9 (some (.cp p)) |>.set (STRM_FLOW_CTL.en sp fl) 0 |>.set (STRM_PORT_CTL.en sp) 1
    |>.set PWR_STATE.state 0

def w_streamFlowsSendAndCount_22 : State :=
  let p : Port := .a
  let sp : Fin 2 := 0
  let fl : Fin 32 := 0
  w_streamFlowsSendAndCount_1 |>.setHolder 9 (some (.cp p)) |>.set (STRM_FLOW_CTL.en sp fl) 0 |>.set (STRM_PORT_CTL.en sp) 0

def w_streamFlowsSendAndCount_23 : State :=
  w_streamFlowsSendAndCount_1

def w_streamFlowsSendAndCount_24 : State :=
  let sp : Fin 2 := 0
  let fl : Fin 32 := 0
  w_streamFlowsSendAndCount_2 |>.set (STRM_FLOW_OPT.ctx_ms sp fl) 1 |>.withTime (fun z => { z with clk := 10 ^ 13 })

def w_streamFlowsSendAndCount_25 : State :=
  let sp : Fin 2 := 0
  w_streamFlowsSendAndCount_3 |>.set (STRM_FLOW_AT.reg sp 0) 3

def w_streamFlowsSendAndCount_26 : State :=
  w_streamFlowsSendAndCount_3

def w_streamFlowsSendAndCount_27 : State :=
  w_streamFlowsSendAndCount_3 |>.memWrite (2 ^ 21) (List.replicate 56 0 ++ [8] ++ List.replicate 43 0 ++ [2, 0, 0, 0, 6] ++
    List.replicate 23 0) |>.set (CAP_REGION_WRITTEN.reg 7) 128

def w_streamFlowsSendAndCount_28 : State :=
  let b : List Byte := (List.replicate 56 0 ++ [8] ++ List.replicate 43 0 ++ [2, 0, 0, 0, 6] ++ List.replicate 23 0)
  let k : Nat := 0
  w_streamFlowsSendAndCount_3 |>.set (CAP_REGION_WRITTEN.reg 6) (2 ^ 21) |>.withFlow 0 0
    (fun z => { z with sending := some (b, k) })

def w_streamFlowsSendAndCount_29 : State :=
  let sp : Fin 2 := 0
  w_streamFlowsSendAndCount_4 |>.set (STRM_PORT_STATUS.link sp) 1

def w_streamFlowsSendAndCount_30 : State :=
  let sp : Fin 2 := 0
  w_streamFlowsSendAndCount_4 |>.set (STRM_PORT_STATUS.link sp) 1

theorem wit_streamFlowsSendAndCount :
    (∃ (s : State) (p : Port) (sp : Fin 2) (fl : Fin 32) (v : Word), s.accepts p (STRM_FLOW_CTL.reg sp fl).addr (some 9) ∧
      s.flag (STRM_FLOW_CTL.en sp fl) = false ∧ bit v.toNat 30 = false ∧ s.pathPresent (bits v.toNat 26 2) = true ∧
      s.flag (STRM_PORT_CTL.en sp) = true ∧ s.up .host = true) ∧
    (∃ (s : State) (sp : Fin 2) (target : Word), s.up .host = true ∧ s.flag (STRM_PORT_STATUS.link sp) = true ∧ (s.strmV6 sp
      = false) ∧ (target.toNat = s.f (STRM_PORT_IP4.reg sp))) ∧
    (∃ (s : State) (sp : Fin 2), s.up .host = true ∧ s.flag (STRM_PORT_STATUS.link sp) = true ∧ (s.strmV6 sp = false)) ∧
    (∃ (s : State) (sp : Fin 2) (target : BitVec 128), s.up .host = true ∧ s.flag (STRM_PORT_STATUS.link sp) = true ∧
      (s.strmV6 sp = true) ∧ ((∀ k < 4, s.f (STRM_PORT_IP6.reg sp k) = target.toNat / 2 ^ (96 - 32 * k) % 2 ^ 32))) ∧
    (∃ (s : State) (sp : Fin 2), s.up .host = true ∧ s.flag (STRM_PORT_STATUS.link sp) = true) ∧
    (∃ (s : State) (sp : Fin 2), 2 ≤ s.f PWR_STATE.state) ∧
    (∃ (s : State) (sp : Fin 2) (b : Bool), s.flag (STRM_PORT_STATUS.link sp) ≠ b ∧ (b = true → s.up .host = true ∧ s.flag
      (STRM_PORT_CTL.en sp) = true ∧ s.f PWR_STATE.state < 2)) ∧
    (∃ (s : State) (sp : Fin 2) (fl : Fin 32) (x : Parcel) (n : Nat), s.flowOn sp fl = true ∧ s.f PWR_STATE.state = 0 ∧
      s.flag (STRM_FLOW_CTL.src sp fl) = false ∧ x.path = s.f (STRM_FLOW_CTL.path sp fl) ∧ (s.f (STRM_FLOW_CTL.sel sp fl) =
      255 ∨ x.stream = s.f (STRM_FLOW_CTL.sel sp fl) ∨ x.kind = .gap) ∧ n = 20 + 8 * s.f (STRM_PORT_CTL.class_en sp) +
      (x.payload.length + 3) / 4 * 4 ∧ x.crcOk = false) ∧
    (∃ (s : State) (sp : Fin 2) (fl : Fin 32) (x : Parcel) (n : Nat), s.flowOn sp fl = true ∧ s.f PWR_STATE.state = 0 ∧
      s.flag (STRM_FLOW_CTL.src sp fl) = false ∧ x.path = s.f (STRM_FLOW_CTL.path sp fl) ∧ (s.f (STRM_FLOW_CTL.sel sp fl) =
      255 ∨ x.stream = s.f (STRM_FLOW_CTL.sel sp fl) ∨ x.kind = .gap) ∧ n = 20 + 8 * s.f (STRM_PORT_CTL.class_en sp) +
      (x.payload.length + 3) / 4 * 4 ∧ x.crcOk = true ∧ x.kind = .gap ∧ s.strmWaiting sp + s.wireBytes sp n ≤ 8 * 1024 *
      1024) ∧
    (∃ (s : State) (sp : Fin 2) (fl : Fin 32) (x : Parcel) (n : Nat), s.flowOn sp fl = true ∧ s.f PWR_STATE.state = 0 ∧
      s.flag (STRM_FLOW_CTL.src sp fl) = false ∧ x.path = s.f (STRM_FLOW_CTL.path sp fl) ∧ (s.f (STRM_FLOW_CTL.sel sp fl) =
      255 ∨ x.stream = s.f (STRM_FLOW_CTL.sel sp fl) ∨ x.kind = .gap) ∧ n = 20 + 8 * s.f (STRM_PORT_CTL.class_en sp) +
      (x.payload.length + 3) / 4 * 4 ∧ x.crcOk = true ∧ x.kind ≠ .gap ∧ x.segment = 0 ∧ s.f (STRM_FLOW_CTL.keep_m1 sp fl) =
      0 ∧ bit x.flags flagCLK = true ∧ s.flag (STRM_FLOW_CTL.send_invalid sp fl) = false) ∧
    (∃ (s : State) (sp : Fin 2) (fl : Fin 32) (x : Parcel) (n : Nat), s.flowOn sp fl = true ∧ s.f PWR_STATE.state = 0 ∧
      s.flag (STRM_FLOW_CTL.src sp fl) = false ∧ x.path = s.f (STRM_FLOW_CTL.path sp fl) ∧ (s.f (STRM_FLOW_CTL.sel sp fl) =
      255 ∨ x.stream = s.f (STRM_FLOW_CTL.sel sp fl) ∨ x.kind = .gap) ∧ n = 20 + 8 * s.f (STRM_PORT_CTL.class_en sp) +
      (x.payload.length + 3) / 4 * 4 ∧ x.crcOk = true ∧ x.kind = .gap ∧ 8 * 1024 * 1024 < s.strmWaiting sp + s.wireBytes sp
      n) ∧
    (∃ (s : State) (p : Port) (sp : Fin 2) (fl : Fin 32) (v : Word), s.accepts p (STRM_FLOW_CTL.reg sp fl).addr (some 9) ∧
      s.pathPresent (bits v.toNat 26 2) = true ∧ s.flag (STRM_FLOW_CTL.en sp fl) = true) ∧
    (∃ (s : State) (p : Port) (sp : Fin 2) (fl : Fin 32) (v : Word), s.accepts p (STRM_FLOW_CTL.reg sp fl).addr (some 9) ∧
      s.pathPresent (bits v.toNat 26 2) = true ∧ s.flag (STRM_FLOW_CTL.en sp fl) = false ∧ bit v.toNat 30 = false ∧ s.flag
      (STRM_PORT_CTL.en sp) = true ∧ s.up .host = true ∧ s.f PWR_STATE.state = 0 ∧ s.strmWaiting sp + 256 ≤ 8 * 1024 * 1024) ∧
    (∃ (s : State) (p : Port) (sp : Fin 2) (fl : Fin 32) (v : Word), s.accepts p (STRM_FLOW_CTL.reg sp fl).addr (some 9) ∧
      s.pathPresent (bits v.toNat 26 2) = true ∧ s.flag (STRM_FLOW_CTL.en sp fl) = false ∧ bit v.toNat 30 = false ∧ (s.flag
      (STRM_PORT_CTL.en sp) = false ∨ s.f PWR_STATE.state ≠ 0)) ∧
    (∃ (s : State) (sp : Fin 2) (fl : Fin 32), (s.time.clk < (s.flow sp fl).ctxAt + msTicks (s.f (STRM_FLOW_OPT.ctx_ms sp
      fl)) ∨ 2 ≤ s.f PWR_STATE.state)) ∧
    (∃ (s : State) (sp : Fin 2) (fl : Fin 32), s.flowOn sp fl = true ∧ s.f PWR_STATE.state < 2 ∧ s.f (STRM_FLOW_OPT.ctx_ms
      sp fl) ≠ 0 ∧ (s.flow sp fl).ctxAt + msTicks (s.f (STRM_FLOW_OPT.ctx_ms sp fl)) ≤ s.time.clk ∧ s.strmWaiting sp + 256 ≤
      8 * 1024 * 1024) ∧
    (∃ (s : State) (sp : Fin 2) (x : FlowRead) (r : Nat) (q : Nat), s.flowOn sp x.flow = true ∧ s.f PWR_STATE.state = 0 ∧
      s.flag (STRM_FLOW_CTL.src sp x.flow) = true ∧ r = s.f (STRM_FLOW_CTL.sel sp x.flow) ∧ s.regionExists r = true ∧ q =
      s.f (CAP_REGION_SRC.rec_region r) ∧ (s.flow sp x.flow).sending = none ∧ (s.regionExists q = false ∨ (s.region
      r).number ≤ s.f (STRM_FLOW_AT.reg sp x.flow))) ∧
    (∃ (s : State) (sp : Fin 2) (x : FlowRead) (r : Nat) (q : Nat), s.flowOn sp x.flow = true ∧ s.f PWR_STATE.state = 0 ∧
      s.flag (STRM_FLOW_CTL.src sp x.flow) = true ∧ r = s.f (STRM_FLOW_CTL.sel sp x.flow) ∧ s.regionExists r = true ∧ q =
      s.f (CAP_REGION_SRC.rec_region r) ∧ (s.flow sp x.flow).sending = none ∧ s.regionExists q = true ∧ s.f
      (STRM_FLOW_AT.reg sp x.flow) < (s.region r).number ∧ (∀ y, s.nextRecord sp x.flow = some y → s.recIntact r y.2 =
      false)) ∧
    (∃ (s : State) (sp : Fin 2) (x : FlowRead) (r : Nat) (q : Nat) (y : Nat × List Byte), s.flowOn sp x.flow = true ∧ s.f
      PWR_STATE.state = 0 ∧ s.flag (STRM_FLOW_CTL.src sp x.flow) = true ∧ r = s.f (STRM_FLOW_CTL.sel sp x.flow) ∧
      s.regionExists r = true ∧ q = s.f (CAP_REGION_SRC.rec_region r) ∧ (s.flow sp x.flow).sending = none ∧ s.regionExists q
      = true ∧ s.f (STRM_FLOW_AT.reg sp x.flow) < (s.region r).number ∧ s.nextRecord sp x.flow = some y ∧ s.recIntact r y.2
      = true ∧ s.strmWaiting sp + 384 ≤ 8 * 1024 * 1024) ∧
    (∃ (s : State) (sp : Fin 2) (x : FlowRead) (r : Nat) (q : Nat) (b : List Byte) (k : Nat), s.flowOn sp x.flow = true ∧
      s.f PWR_STATE.state = 0 ∧ s.flag (STRM_FLOW_CTL.src sp x.flow) = true ∧ r = s.f (STRM_FLOW_CTL.sel sp x.flow) ∧
      s.regionExists r = true ∧ q = s.f (CAP_REGION_SRC.rec_region r) ∧ (s.flow sp x.flow).sending = some (b, k) ∧ k <
      State.recLength b ∧ s.recIntact r b = false) ∧
    (∃ (s : State) (sp : Fin 2) (mac : BitVec 48) (sender : Word) (target : Word), s.up .host = true ∧ s.flag
      (STRM_PORT_STATUS.link sp) = true ∧ target.toNat ≠ s.f (STRM_PORT_IP4.reg sp)) ∧
    (∃ (s : State) (sp : Fin 2) (mac : BitVec 48) (sender : BitVec 128) (target : BitVec 128), s.up .host = true ∧ s.flag
      (STRM_PORT_STATUS.link sp) = true ∧ (∃ k < 4, s.f (STRM_PORT_IP6.reg sp k) ≠ target.toNat / 2 ^ (96 - 32 * k) % 2 ^
      32)) :=
  ⟨⟨w_streamFlowsSendAndCount_1, .a, 0, 0, 0x04000000, accepts_of (by decide +kernel) (by decide +kernel),
      by decide +kernel⟩,
    ⟨w_streamFlowsSendAndCount_4, 0, 0, by decide +kernel⟩,
    ⟨w_streamFlowsSendAndCount_5, 0, by decide +kernel⟩,
    ⟨w_streamFlowsSendAndCount_5_90, 0, 0x20010db8000000000000000000000007, by decide +kernel⟩,
    ⟨w_streamFlowsSendAndCount_6, 0, by decide +kernel⟩,
    ⟨w_streamFlowsSendAndCount_13, 0, by decide +kernel⟩,
    ⟨w_streamFlowsSendAndCount_14, 0, true, by decide +kernel⟩,
    ⟨w_streamFlowsSendAndCount_16, 0, 0, { blk with crc := 1 }, (20 + 8 * w_streamFlowsSendAndCount_16.f
      (STRM_PORT_CTL.class_en 0) + ({ blk with crc := 1 }.payload.length + 3) / 4 * 4), by decide +kernel⟩,
    ⟨w_streamFlowsSendAndCount_17, 0, 0, ({ blk with kind := .gap }).seal, (20 + 8 * w_streamFlowsSendAndCount_17.f
      (STRM_PORT_CTL.class_en 0) + (({ blk with kind := .gap }).seal.payload.length + 3) / 4 * 4), by decide +kernel⟩,
    ⟨w_streamFlowsSendAndCount_18, 0, 0, ({ blk with flags := 2 ^ flagCLK }).seal, (20 + 8 * w_streamFlowsSendAndCount_18.f
      (STRM_PORT_CTL.class_en 0) + (({ blk with flags := 2 ^ flagCLK }).seal.payload.length + 3) / 4 * 4),
      by decide +kernel⟩,
    ⟨w_streamFlowsSendAndCount_19, 0, 0, ({ blk with kind := .gap }).seal, (20 + 8 * w_streamFlowsSendAndCount_19.f
      (STRM_PORT_CTL.class_en 0) + (({ blk with kind := .gap }).seal.payload.length + 3) / 4 * 4), by decide +kernel⟩,
    ⟨w_streamFlowsSendAndCount_20, .a, 0, 0, 0x04000000, accepts_of (by decide +kernel) (by decide +kernel),
      by decide +kernel⟩,
    ⟨w_streamFlowsSendAndCount_21, .a, 0, 0, 0x04000000, accepts_of (by decide +kernel) (by decide +kernel),
      by decide +kernel⟩,
    ⟨w_streamFlowsSendAndCount_22, .a, 0, 0, 0x04000000, accepts_of (by decide +kernel) (by decide +kernel),
      by decide +kernel⟩,
    ⟨w_streamFlowsSendAndCount_23, 0, 0, by decide +kernel⟩,
    ⟨w_streamFlowsSendAndCount_24, 0, 0, by decide +kernel⟩,
    ⟨w_streamFlowsSendAndCount_25, 0, (⟨0, []⟩ : FlowRead), (w_streamFlowsSendAndCount_25.f (STRM_FLOW_CTL.sel 0 (⟨0, []⟩ :
      FlowRead).flow)), (w_streamFlowsSendAndCount_25.f (CAP_REGION_SRC.rec_region (w_streamFlowsSendAndCount_25.f
      (STRM_FLOW_CTL.sel 0 (⟨0, []⟩ : FlowRead).flow)))), by decide +kernel⟩,
    ⟨w_streamFlowsSendAndCount_26, 0, (⟨0, []⟩ : FlowRead), (w_streamFlowsSendAndCount_26.f (STRM_FLOW_CTL.sel 0 (⟨0, []⟩ :
      FlowRead).flow)), (w_streamFlowsSendAndCount_26.f (CAP_REGION_SRC.rec_region (w_streamFlowsSendAndCount_26.f
      (STRM_FLOW_CTL.sel 0 (⟨0, []⟩ : FlowRead).flow)))), by decide +kernel, by decide +kernel, by decide +kernel,
      by decide +kernel, by decide +kernel, by decide +kernel, by decide +kernel, by decide +kernel, by decide +kernel,
      none_of (by decide +kernel)⟩,
    ⟨w_streamFlowsSendAndCount_27, 0, (⟨0, []⟩ : FlowRead), (w_streamFlowsSendAndCount_27.f (STRM_FLOW_CTL.sel 0 (⟨0, []⟩ :
      FlowRead).flow)), (w_streamFlowsSendAndCount_27.f (CAP_REGION_SRC.rec_region (w_streamFlowsSendAndCount_27.f
      (STRM_FLOW_CTL.sel 0 (⟨0, []⟩ : FlowRead).flow)))), (0, (List.replicate 56 0 ++ [8] ++ List.replicate 43 0 ++ [2, 0,
      0, 0, 6] ++ List.replicate 23 0)), by decide +kernel⟩,
    ⟨w_streamFlowsSendAndCount_28, 0, (⟨0, []⟩ : FlowRead), (w_streamFlowsSendAndCount_28.f (STRM_FLOW_CTL.sel 0 (⟨0, []⟩ :
      FlowRead).flow)), (w_streamFlowsSendAndCount_28.f (CAP_REGION_SRC.rec_region (w_streamFlowsSendAndCount_28.f
      (STRM_FLOW_CTL.sel 0 (⟨0, []⟩ : FlowRead).flow)))), (List.replicate 56 0 ++ [8] ++ List.replicate 43 0 ++ [2, 0, 0, 0,
      6] ++ List.replicate 23 0), 0, by decide +kernel⟩,
    ⟨w_streamFlowsSendAndCount_29, 0, 0, 0, 5, by decide +kernel⟩,
    ⟨w_streamFlowsSendAndCount_30, 0, 0, 0, 5, by decide +kernel⟩⟩

def w_displayCommitsScansAndTrains_0 : State :=
  let p : Port := .a
  live |>.setHolder 8 (some (.cp p))

def w_displayCommitsScansAndTrains_1 : State :=
  live |>.set (DISP_STATUS.scanning) 1 |>.set (DISP_STATUS.retraining) 0 |>.set (DISP_COMMIT_STATUS.pending) 0 |>.set
      GLB_ID.reg GLB_ID.reg.rst

def w_displayCommitsScansAndTrains_2_0 : State :=
  live |>.set (DISP_STATUS.scanning) 0 |>.set (DISP_STATUS.retraining) 0 |>.set (DISP_COMMIT_STATUS.pending) 1 |>.set
      GLB_ID.reg GLB_ID.reg.rst |>.set DISP_HTIM.hactive 0

def w_displayCommitsScansAndTrains_2_1 : State :=
  live |>.set (DISP_STATUS.scanning) 0 |>.set (DISP_STATUS.retraining) 0 |>.set (DISP_COMMIT_STATUS.pending) 1 |>.set
      GLB_ID.reg GLB_ID.reg.rst |>.set DISP_HTIM.hactive 640 |>.set DISP_HTIM.htotal 800 |>.set DISP_VTIM.vactive 480 |>.set
      DISP_VTIM.vtotal 525 |>.set DISP_PCLK.khz 25200 |>.set DISP_HSYNC.front 16 |>.set DISP_HSYNC.width 96 |>.set
      DISP_VSYNC.front 10 |>.set DISP_VSYNC.width 2

def w_displayCommitsScansAndTrains_3 : State :=
  live |>.set (DISP_STATUS.scanning) 1 |>.setActive (DISP_CTL.compose) (1) |>.set GLB_ID.reg GLB_ID.reg.rst |>.setActive
      DISP_VTIM.vactive 5 |>.setActive DISP_CTL.compose 1 |>.setActive DISP_HTIM.hactive 16
    |>.withDisp fun x => { x with line := 2 }

def w_displayCommitsScansAndTrains_4 : State :=
  live |>.set (DISP_STATUS.retraining) 1 |>.set GLB_ID.reg GLB_ID.reg.rst

def w_displayCommitsScansAndTrains_5 : State :=
  let s : State := live |>.setActive (DISP_CTL.en) (1) |>.set GLB_ID.reg GLB_ID.reg.rst |>.setActive DISP_CTL.en 1
  s |>.withDisp fun x => { x with linkA := ⟨true, false, false⟩, linkB := ⟨true, false, false⟩ }

def w_displayCommitsScansAndTrains_6 : State :=
  let s : State := live |>.set GLB_ID.reg GLB_ID.reg.rst
  s |>.withDisp fun x => { x with linkB := ⟨true, false, false⟩ }

def w_displayCommitsScansAndTrains_7 : State :=
  live |>.set GLB_ID.reg GLB_ID.reg.rst

def w_displayCommitsScansAndTrains_8 : State :=
  live |>.setActive (DISP_CTL.en) (1) |>.set GLB_ID.reg GLB_ID.reg.rst |>.setActive DISP_CTL.en 1

def w_displayCommitsScansAndTrains_9 : State :=
  let p : Port := .a
  live |>.setHolder 8 (some (.cp p)) |>.set (DISP_AUX_STATUS.busy) 0

def w_displayCommitsScansAndTrains_10 : State :=
  live |>.set (DISP_AUX_STATUS.busy) 1 |>.set GLB_ID.reg GLB_ID.reg.rst

def w_displayCommitsScansAndTrains_11 : State :=
  let l : Fin 4 := 0
  let s : State := live |>.set (DISP_CQ.en) 0
  s |>.withDisp fun x =>
      { x with releases := [{ buf := { layer := l.val, space := 0, region := none, addr := 64 }, commit := 1, cause := 0, tag := 2 }] }

def w_displayCommitsScansAndTrains_12 : State :=
  let s : State := live |>.set (DISP_CQ.en) 0 |>.set GLB_ID.reg GLB_ID.reg.rst
  s |>.withDisp fun x => { x with buf3 := some { layer := 3, space := 0, region := none, addr := 64 } }

def w_displayCommitsScansAndTrains_13 : State :=
  w_displayCommitsScansAndTrains_5 |>.set DISP_CTL.en 1 |>.withDisp (fun z => { z with linkA.training := true }) |>.withDisp
    (fun z => { z with linkB.training := true })

def w_displayCommitsScansAndTrains_14 : State :=
  w_displayCommitsScansAndTrains_5 |>.set DISP_CTL.en 1 |>.withDisp (fun z => { z with linkA.training := true }) |>.withDisp
    (fun z => { z with linkB.training := true }) |>.set DISP_PCLK.khz 900000

def w_displayCommitsScansAndTrains_15 : State :=
  w_displayCommitsScansAndTrains_10 |>.set DISP_AUX_STATUS.busy 1 |>.withDisp (fun z => { z with linkA.training := false })
    |>.withDisp (fun z => { z with linkB.training := false })

def w_displayCommitsScansAndTrains_16 : State :=
  w_displayCommitsScansAndTrains_1 |>.set DISP_STATUS.scanning 1 |>.set DISP_STATUS.retraining 0 |>.set
    DISP_COMMIT_STATUS.pending 0 |>.withDisp (fun z => { z with lateRaised := false }) |>.setActive DISP_VTIM.vactive 5
    |>.withDisp (fun z => { z with line := 2 })

def w_displayCommitsScansAndTrains_17 : State :=
  w_displayCommitsScansAndTrains_2_0 |>.set DISP_COMMIT_STATUS.pending 1 |>.set DISP_STATUS.retraining 1

def w_displayCommitsScansAndTrains_18 : State :=
  w_displayCommitsScansAndTrains_1 |>.set DISP_STATUS.scanning 1 |>.set DISP_STATUS.retraining 1 |>.withDisp
    (fun z => { z with linkA := ⟨false, true, false⟩ }) |>.withDisp (fun z => { z with linkB := ⟨false, true, false⟩ })

def w_displayCommitsScansAndTrains_19 : State :=
  w_displayCommitsScansAndTrains_2_0 |>.set DISP_STATUS.scanning 1 |>.set DISP_STATUS.retraining 0 |>.set
    DISP_COMMIT_STATUS.pending 1 |>.withTime (fun z => { z with clk := 10 ^ 13 })

def w_displayCommitsScansAndTrains_20 : State :=
  w_displayCommitsScansAndTrains_2_1 |>.set DISP_STATUS.scanning 1 |>.set DISP_STATUS.retraining 0 |>.set
    DISP_COMMIT_STATUS.pending 1 |>.withTime (fun z => { z with clk := 10 ^ 13 })

def w_displayCommitsScansAndTrains_21 : State :=
  w_displayCommitsScansAndTrains_3 |>.setActive DISP_VTIM.vactive 5 |>.setActive DISP_VTIM.vtotal 7 |>.setActive
    DISP_HTIM.htotal 20 |>.setActive DISP_PCLK.khz 1 |>.withDisp (fun z => { z with line := 2 })

def w_displayCommitsScansAndTrains_22 : State :=
  w_displayCommitsScansAndTrains_3 |>.setActive DISP_VTIM.vactive 5 |>.setActive DISP_VTIM.vtotal 7 |>.setActive
    DISP_HTIM.htotal 20 |>.setActive DISP_PCLK.khz 900000 |>.withDisp (fun z => { z with line := 2 })

def w_displayCommitsScansAndTrains_23 : State :=
  w_displayCommitsScansAndTrains_5 |>.set DISP_CTL.en 1 |>.withDisp (fun z => { z with linkA.training := true }) |>.withDisp
    (fun z => { z with linkB.training := true }) |>.setActive DISP_PCLK.khz 900000

def w_displayCommitsScansAndTrains_24 : State :=
  w_displayCommitsScansAndTrains_5 |>.set DISP_CTL.en 1 |>.withDisp (fun z => { z with linkA.training := true }) |>.withDisp
    (fun z => { z with linkB.training := true }) |>.setActive DISP_PCLK.khz 900000 |>.withDisp
    (fun z => { z with tries := 3 })

def w_displayCommitsScansAndTrains_25 : State :=
  w_displayCommitsScansAndTrains_1

def w_displayCommitsScansAndTrains_26 : State :=
  w_displayCommitsScansAndTrains_0

theorem wit_displayCommitsScansAndTrains :
    (∃ (s : State) (p : Port), s.accepts p DISP_COMMIT.reg.addr (some 8)) ∧
    (∃ (s : State), s.dispUp = true ∧ s.flag DISP_STATUS.scanning = true ∧ s.flag DISP_STATUS.retraining = false ∧ s.flag
      DISP_COMMIT_STATUS.pending = false) ∧
    (∃ (s : State), s.dispUp = true ∧ s.flag DISP_STATUS.scanning = false ∧ s.flag DISP_STATUS.retraining = false ∧ s.flag
      DISP_COMMIT_STATUS.pending = true ∧ s.disp.asked + usTicks 10 ≤ s.time.clk ∧ s.dispOk = false) ∧
    (∃ (s : State), s.dispUp = true ∧ s.flag DISP_STATUS.scanning = false ∧ s.flag DISP_STATUS.retraining = false ∧ s.flag
      DISP_COMMIT_STATUS.pending = true ∧ s.disp.asked + usTicks 10 ≤ s.time.clk ∧ s.dispOk = true) ∧
    (∃ (s : State), s.dispUp = true ∧ s.flag DISP_STATUS.scanning = true ∧ s.fa DISP_CTL.compose = 1 ∧ s.disp.line < s.fa
      DISP_VTIM.vactive) ∧
    (∃ (s : State), s.dispUp = true ∧ s.flag DISP_STATUS.retraining = true ∧ s.disp.settled = false) ∧
    (∃ (s : State) (a : Fin 5) (b : Fin 5), s.dispUp = true ∧ s.fa DISP_CTL.en = 1 ∧ s.disp.linkA.training = true ∧
      s.disp.linkB.training = true ∧ a ≠ 0 ∧ b ≠ 0) ∧
    (∃ (s : State), s.dispUp = true ∧ (s.disp.linkA.training = true ∨ s.disp.linkB.training = true)) ∧
    (∃ (s : State), s.dispUp = true) ∧
    (∃ (s : State), s.dispUp = true ∧ s.disp.failed = false ∧ s.fa DISP_CTL.en = 1) ∧
    (∃ (s : State) (p : Port), s.accepts p DISP_AUX_CMD.reg.addr (some 8) ∧ s.flag DISP_AUX_STATUS.busy = false) ∧
    (∃ (s : State), s.dispUp = true ∧ s.flag DISP_AUX_STATUS.busy = true) ∧
    (∃ (s : State) (l : Fin 4) (d : LayerDone), (s.disp.releases.find? fun e => e.buf.layer == l.val) = some d ∧ d.buf.region
      = none ∧ s.flag DISP_CQ.en = false) ∧
    (∃ (s : State) (b : LayerBuf), s.disp.buf3 = some b ∧ s.dispUp = true ∧ s.disp.faulted = false ∧ s.flag DISP_CQ.en =
      false) ∧
    (∃ (s : State) (a : Fin 5) (b : Fin 5), s.dispUp = true ∧ s.fa DISP_CTL.en = 1 ∧ s.disp.linkA.training = true ∧
      s.disp.linkB.training = true ∧ a ≠ 0 ∧ b ≠ 0 ∧ 30 * s.fa DISP_PCLK.khz ≤ State.linkCarries a ∧ 30 * s.fa DISP_PCLK.khz
      ≤ State.linkCarries b) ∧
    (∃ (s : State) (a : Fin 5) (b : Fin 5), s.dispUp = true ∧ s.fa DISP_CTL.en = 1 ∧ s.disp.linkA.training = true ∧
      s.disp.linkB.training = true ∧ a ≠ 0 ∧ b ≠ 0 ∧ State.linkCarries a < 30 * s.fa DISP_PCLK.khz ∧ State.linkCarries b <
      30 * s.fa DISP_PCLK.khz) ∧
    (∃ (s : State) (nack : Bool) (data : List Byte), s.dispUp = true ∧ s.flag DISP_AUX_STATUS.busy = true ∧
      s.disp.linkA.training = false ∧ s.disp.linkB.training = false) ∧
    (∃ (s : State) (n : Nat), s.dispUp = true ∧ s.flag DISP_STATUS.scanning = true ∧ s.flag DISP_STATUS.retraining = false ∧
      s.flag DISP_COMMIT_STATUS.pending = false ∧ n = s.fa DISP_VTIM.vactive - s.disp.line ∧ 0 < n ∧ s.disp.lateRaised =
      false) ∧
    (∃ (s : State), s.dispUp = true ∧ s.flag DISP_COMMIT_STATUS.pending = true ∧ (s.flag DISP_STATUS.retraining = true ∨
      s.time.clk < s.disp.asked + usTicks 10)) ∧
    (∃ (s : State), s.dispUp = true ∧ s.flag DISP_STATUS.scanning = true ∧ s.flag DISP_STATUS.retraining = true ∧
      s.disp.linkA = ⟨false, true, false⟩ ∧ s.disp.linkB = ⟨false, true, false⟩) ∧
    (∃ (s : State), s.dispUp = true ∧ s.flag DISP_STATUS.scanning = true ∧ s.flag DISP_STATUS.retraining = false ∧ s.flag
      DISP_COMMIT_STATUS.pending = true ∧ s.disp.asked + usTicks 10 ≤ s.time.clk ∧ s.dispOk = false) ∧
    (∃ (s : State), s.dispUp = true ∧ s.flag DISP_STATUS.scanning = true ∧ s.flag DISP_STATUS.retraining = false ∧ s.flag
      DISP_COMMIT_STATUS.pending = true ∧ s.disp.asked + usTicks 10 ≤ s.time.clk ∧ s.dispOk = true) ∧
    (∃ (s : State) (overlay : List Word) (bad : List Nat) (fixed : List (Nat × Fin 2 × Fin 39)), s.dispUp = true ∧ s.flag
      DISP_STATUS.scanning = true ∧ s.fa DISP_CTL.compose = 1 ∧ s.disp.line < s.fa DISP_VTIM.vactive ∧ s.lineScanned
      s.disp.line = false) ∧
    (∃ (s : State) (overlay : List Word) (bad : List Nat) (fixed : List (Nat × Fin 2 × Fin 39)), s.dispUp = true ∧ s.flag
      DISP_STATUS.scanning = true ∧ s.fa DISP_CTL.compose = 1 ∧ s.disp.line < s.fa DISP_VTIM.vactive ∧ s.lineScanned
      s.disp.line = true ∧ (∀ k, (s.kalOf k).spoilt = [])) ∧
    (∃ (s : State) (a : Fin 5) (b : Fin 5), s.dispUp = true ∧ s.fa DISP_CTL.en = 1 ∧ s.disp.linkA.training = true ∧
      s.disp.linkB.training = true ∧ a ≠ 0 ∧ b ≠ 0 ∧ (State.linkCarries a < 30 * s.fa DISP_PCLK.khz ∨ State.linkCarries b <
      30 * s.fa DISP_PCLK.khz) ∧ s.disp.tries < 3) ∧
    (∃ (s : State) (a : Fin 5) (b : Fin 5), s.dispUp = true ∧ s.fa DISP_CTL.en = 1 ∧ s.disp.linkA.training = true ∧
      s.disp.linkB.training = true ∧ a ≠ 0 ∧ b ≠ 0 ∧ (State.linkCarries a < 30 * s.fa DISP_PCLK.khz ∨ State.linkCarries b <
      30 * s.fa DISP_PCLK.khz) ∧ 3 ≤ s.disp.tries) ∧
    (∃ (s : State) (b : Bool), s.dispUp = true ∧ (s.disp.failed = true ∨ s.fa DISP_CTL.en ≠ 1)) ∧
    (∃ (s : State) (l : Fin 4), (s.disp.releases.find? fun e => e.buf.layer == l.val) = none) :=
  ⟨⟨w_displayCommitsScansAndTrains_0, .a, accepts_of (by decide +kernel) (by decide +kernel)⟩,
    ⟨w_displayCommitsScansAndTrains_1, by decide +kernel⟩,
    ⟨w_displayCommitsScansAndTrains_2_0, by decide +kernel⟩,
    ⟨w_displayCommitsScansAndTrains_2_1, by decide +kernel⟩,
    ⟨w_displayCommitsScansAndTrains_3, by decide +kernel⟩,
    ⟨w_displayCommitsScansAndTrains_4, by decide +kernel⟩,
    ⟨w_displayCommitsScansAndTrains_5, 3, 4, by decide +kernel⟩,
    ⟨w_displayCommitsScansAndTrains_6, by decide +kernel⟩,
    ⟨w_displayCommitsScansAndTrains_7, by decide +kernel⟩,
    ⟨w_displayCommitsScansAndTrains_8, by decide +kernel⟩,
    ⟨w_displayCommitsScansAndTrains_9, .a, accepts_of (by decide +kernel) (by decide +kernel), by decide +kernel⟩,
    ⟨w_displayCommitsScansAndTrains_10, by decide +kernel⟩,
    ⟨w_displayCommitsScansAndTrains_11, 0, (let l : Fin 4 := 0;
      { buf := { layer := l.val, space := 0, region := none, addr := 64 }, commit := 1, cause := 0, tag := 2 }),
      by decide +kernel⟩,
    ⟨w_displayCommitsScansAndTrains_12, { layer := 3, space := 0, region := none, addr := 64 }, by decide +kernel⟩,
    ⟨w_displayCommitsScansAndTrains_13, 3, 4, by decide +kernel⟩,
    ⟨w_displayCommitsScansAndTrains_14, 1, 1, by decide +kernel⟩,
    ⟨w_displayCommitsScansAndTrains_15, false, [], by decide +kernel⟩,
    ⟨w_displayCommitsScansAndTrains_16, (w_displayCommitsScansAndTrains_16.fa DISP_VTIM.vactive -
      w_displayCommitsScansAndTrains_16.disp.line), by decide +kernel⟩,
    ⟨w_displayCommitsScansAndTrains_17, by decide +kernel⟩,
    ⟨w_displayCommitsScansAndTrains_18, by decide +kernel⟩,
    ⟨w_displayCommitsScansAndTrains_19, by decide +kernel⟩,
    ⟨w_displayCommitsScansAndTrains_20, by decide +kernel⟩,
    ⟨w_displayCommitsScansAndTrains_21, [], [], [], by decide +kernel⟩,
    ⟨w_displayCommitsScansAndTrains_22, [], [], [], by decide +kernel, by decide +kernel, by decide +kernel,
      by decide +kernel, by decide +kernel, all_kal (by decide +kernel)⟩,
    ⟨w_displayCommitsScansAndTrains_23, 1, 4, by decide +kernel⟩,
    ⟨w_displayCommitsScansAndTrains_24, 4, 1, by decide +kernel⟩,
    ⟨w_displayCommitsScansAndTrains_25, false, by decide +kernel⟩,
    ⟨w_displayCommitsScansAndTrains_26, 0, by decide +kernel⟩⟩

def w_timeInputsStampAndMeasure_0 : State :=
  let p : Port := .a
  live |>.setHolder 11 (some (.cp p))

def w_timeInputsStampAndMeasure_1 : State :=
  let j : Fin 16 := 0
  live |>.set (TIU_EV_CTL.en j) 1 |>.set (TIU_EV_STATUS.stuck j) 0 |>.set (TIU_EV_CTL.edges j) 2

def w_timeInputsStampAndMeasure_1_90 : State :=
  let j : Fin 16 := 0
  live |>.set (TIU_EV_CTL.en j) 1 |>.set (TIU_EV_STATUS.stuck j) 0 |>.set (TIU_EV_CTL.edges j) 2 |>.setEv j
      { EvSt.reset with fifo := List.replicate 256 { tick := 1, word2 := 2, number := 9 } }

def w_timeInputsStampAndMeasure_3 : State :=
  let j : Fin 16 := 0
  live |>.set (TIU_EV_CTL.en j) 1 |>.set (TIU_EV_STATUS.level j) 1 |>.set (TIU_EV_STATUS.stuck j) 0

def w_timeInputsStampAndMeasure_4 : State :=
  let j : Fin 16 := 0
  live |>.setEv j { EvSt.reset with fifo := [{ tick := 0x123456789, word2 := 0x10007, number := 9 }] }

def w_timeInputsStampAndMeasure_6 : State :=
  live |>.set (TIU_CDC_STATUS.running) 0

def w_timeInputsStampAndMeasure_7_0 : State :=
  let s : State := live |>.set TIU_CDC_CTL.hits_log2 16
  s |>.withTiu fun x => { x with cdc := some (23, .one) }

def w_timeInputsStampAndMeasure_7_1 : State :=
  let s : State := live |>.set TIU_CDC_CTL.hits_log2 16
  s |>.withTiu fun x => { x with cdc := some (23, .one) }

def w_timeInputsStampAndMeasure_8 : State :=
  let k : Fin 2 := 0
  live |>.set (TIU_FIN_CTL.en k) 1

def w_timeInputsStampAndMeasure_12 : State :=
  let j : Fin 16 := 0
  w_timeInputsStampAndMeasure_1 |>.set (TIU_EV_CTL.en j) 1 |>.set (TIU_EV_STATUS.stuck j) 1

def w_timeInputsStampAndMeasure_13 : State :=
  let j : Fin 16 := 0
  w_timeInputsStampAndMeasure_3 |>.set (TIU_EV_CTL.en j) 1 |>.set (TIU_EV_STATUS.level j) 1 |>.set (TIU_EV_STATUS.stuck j) 0

def w_timeInputsStampAndMeasure_14 : State :=
  let j : Fin 16 := 0
  w_timeInputsStampAndMeasure_3 |>.set (TIU_EV_CTL.en j) 1 |>.set (TIU_EV_STATUS.level j) 1 |>.set (TIU_EV_STATUS.stuck j) 0
    |>.withTime (fun z => { z with clk := 10 ^ 14 })

def w_timeInputsStampAndMeasure_15 : State :=
  w_timeInputsStampAndMeasure_0

def w_timeInputsStampAndMeasure_16 : State :=
  let k : Fin 2 := 0
  w_timeInputsStampAndMeasure_8 |>.set (TIU_FIN_CTL.en k) 1 |>.withTime (fun z => { z with clk := 10 ^ 14 })

def w_timeInputsStampAndMeasure_17 : State :=
  w_timeInputsStampAndMeasure_1

def w_timeInputsStampAndMeasure_18 : State :=
  w_timeInputsStampAndMeasure_1_90

def w_timeInputsStampAndMeasure_19 : State :=
  let j : Fin 16 := 0
  let tick : Nat := 1000
  w_timeInputsStampAndMeasure_1 |>.setEv j { EvSt.reset with last := some { tick := 10 ^ 6, phase := 0 } }

def w_timeInputsStampAndMeasure_20 : State :=
  w_timeInputsStampAndMeasure_0

theorem wit_timeInputsStampAndMeasure :
    (∃ (s : State) (p : Port), s.accepts p TIU_TIME_CTL.reg.addr (some 11)) ∧
    (∃ (s : State) (j : Fin 16) (r : EvRecord) (rest : List EvRecord), s.reachable (TIU_EV_FIFO.word j 0).addr = true ∧
      (s.evOf j).fifo = r :: rest) ∧
    (∃ (s : State) (j : Fin 16) (w : Fin 4), s.reachable (TIU_EV_FIFO.word j w).addr = true ∧ w ≠ 0) ∧
    (∃ (s : State) (p : Port), s.accepts p TIU_CDC_CTL.reg.addr none ∧ s.flag TIU_CDC_STATUS.running = false) ∧
    (∃ (s : State) (i : Nat) (hits : List Nat) (ws : List Nat), s.tiu.cdc = some (i, .one) ∧ s.up .fabric = true ∧ i < 24 ∧
      ws = ((List.range 64).map fun b => roundEvenNat (65536 * hits.getD b 0) (s.cdcHits .one)) ∧ (∀ b < 64, 0 <
      hits.getD b 0 ∧ 64 * hits.getD b 0 ≤ 4 * s.cdcHits .one) ∧ ws.foldl (· + ·) 0 = 65536) ∧
    (∃ (s : State) (i : Nat) (hits : List Nat) (ws : List Nat), s.tiu.cdc = some (i, .one) ∧ s.up .fabric = true ∧ i < 24 ∧
      ws = ((List.range 64).map fun b => roundEvenNat (65536 * hits.getD b 0) (s.cdcHits .one)) ∧ (∃ b < 64, hits.getD b
      0 = 0 ∨ 4 * s.cdcHits .one < 64 * hits.getD b 0)) ∧
    (∃ (s : State) (k : Fin 2), s.up .fabric = true ∧ s.flag (TIU_FIN_CTL.en k) = true) ∧
    (∃ (s : State) (j : Fin 16) (high : Bool) (tick : Nat) (bin : Fin 64), s.up .fabric = true ∧ s.flag (TIU_EV_CTL.en j) =
      true ∧ s.flag (TIU_EV_STATUS.stuck j) = true) ∧
    (∃ (s : State) (j : Fin 16), s.up .fabric = true ∧ s.flag (TIU_EV_CTL.en j) = true ∧ s.flag (TIU_EV_STATUS.level j) =
      true ∧ s.flag (TIU_EV_STATUS.stuck j) = false ∧ State.stuckOver (s.evOf j).activeAt s.time.clk (s.f
      (TIU_EV_STUCK.stuck_us j)) = false) ∧
    (∃ (s : State) (j : Fin 16), s.up .fabric = true ∧ s.flag (TIU_EV_CTL.en j) = true ∧ s.flag (TIU_EV_STATUS.level j) =
      true ∧ s.flag (TIU_EV_STATUS.stuck j) = false ∧ State.stuckOver (s.evOf j).activeAt s.time.clk (s.f
      (TIU_EV_STUCK.stuck_us j)) = true) ∧
    (∃ (s : State) (k : Fin 2), s.finGateOver k = false) ∧
    (∃ (s : State) (k : Fin 2), s.up .fabric = true ∧ s.flag (TIU_FIN_CTL.en k) = true ∧ s.finGateOver k = true) ∧
    (∃ (s : State) (j : Fin 16) (high : Bool) (active : Bool) (tick : Nat) (bin : Fin 64) (fine : Nat), s.up .fabric = true
      ∧ s.flag (TIU_EV_CTL.en j) = true ∧ active = (high != s.flag (TIU_EV_CTL.pol j)) ∧ s.flag (TIU_EV_STATUS.stuck j) =
      false ∧ (s.f (TIU_EV_CTL.edges j) = (if active then 0 else 1) ∨ 2 ≤ s.f (TIU_EV_CTL.edges j)) ∧ fine = s.fineTime j
      tick bin (signed 16 (s.f (TIU_EV_SKEW.skew j))) ∧ State.crowds (s.evOf j).last (s.edgeStamp j tick bin 0).bins (s.f
      (TIU_EV_CTL.holdoff j)) = false ∧ (s.evOf j).fifo.length < 256) ∧
    (∃ (s : State) (j : Fin 16) (high : Bool) (active : Bool) (tick : Nat) (bin : Fin 64) (fine : Nat), s.up .fabric = true
      ∧ s.flag (TIU_EV_CTL.en j) = true ∧ active = (high != s.flag (TIU_EV_CTL.pol j)) ∧ s.flag (TIU_EV_STATUS.stuck j) =
      false ∧ (s.f (TIU_EV_CTL.edges j) = (if active then 0 else 1) ∨ 2 ≤ s.f (TIU_EV_CTL.edges j)) ∧ fine = s.fineTime j
      tick bin (signed 16 (s.f (TIU_EV_SKEW.skew j))) ∧ State.crowds (s.evOf j).last (s.edgeStamp j tick bin 0).bins (s.f
      (TIU_EV_CTL.holdoff j)) = false ∧ 256 ≤ (s.evOf j).fifo.length) ∧
    (∃ (s : State) (j : Fin 16) (high : Bool) (active : Bool) (tick : Nat) (bin : Fin 64) (fine : Nat), s.up .fabric = true
      ∧ s.flag (TIU_EV_CTL.en j) = true ∧ active = (high != s.flag (TIU_EV_CTL.pol j)) ∧ s.flag (TIU_EV_STATUS.stuck j) =
      false ∧ (s.f (TIU_EV_CTL.edges j) = (if active then 0 else 1) ∨ 2 ≤ s.f (TIU_EV_CTL.edges j)) ∧ fine = s.fineTime j
      tick bin (signed 16 (s.f (TIU_EV_SKEW.skew j))) ∧ State.crowds (s.evOf j).last (s.edgeStamp j tick bin 0).bins (s.f
      (TIU_EV_CTL.holdoff j)) = true) ∧
    (∃ (s : State) (j : Fin 16) (high : Bool) (tick : Nat) (bin : Fin 64), (s.up .fabric = false ∨ s.flag (TIU_EV_CTL.en j)
      = false)) :=
  ⟨⟨w_timeInputsStampAndMeasure_0, .a, accepts_of (by decide +kernel) (by decide +kernel)⟩,
    ⟨w_timeInputsStampAndMeasure_4, 0, { tick := 0x123456789, word2 := 0x10007, number := 9 }, [], by decide +kernel⟩,
    ⟨live, 0, 2, by decide +kernel⟩,
    ⟨w_timeInputsStampAndMeasure_6, .a, accepts_of (by decide +kernel) (by decide +kernel), by decide +kernel⟩,
    ⟨w_timeInputsStampAndMeasure_7_0, 23, (let s : State := w_timeInputsStampAndMeasure_7_0; List.replicate 64 (s.cdcHits
      .one / 64)), (let s : State := w_timeInputsStampAndMeasure_7_0; ((List.range 64).map fun b => roundEvenNat (65536
      * (List.replicate 64 (s.cdcHits .one / 64)).getD b 0) (s.cdcHits .one))), by decide +kernel⟩,
    ⟨w_timeInputsStampAndMeasure_7_1, 23, [], (let s : State := w_timeInputsStampAndMeasure_7_1; ((List.range 64).map fun b
      => roundEvenNat (65536 * ([] : List Nat).getD b 0) (s.cdcHits .one))), by decide +kernel⟩,
    ⟨w_timeInputsStampAndMeasure_8, 0, by decide +kernel⟩,
    ⟨w_timeInputsStampAndMeasure_12, 0, false, 1000, 0, by decide +kernel⟩,
    ⟨w_timeInputsStampAndMeasure_13, 0, by decide +kernel⟩,
    ⟨w_timeInputsStampAndMeasure_14, 0, by decide +kernel⟩,
    ⟨w_timeInputsStampAndMeasure_15, 0, by decide +kernel⟩,
    ⟨w_timeInputsStampAndMeasure_16, 0, by decide +kernel⟩,
    ⟨w_timeInputsStampAndMeasure_17, 0, false, (false != w_timeInputsStampAndMeasure_17.flag (TIU_EV_CTL.pol 0)), 0, 0,
      (w_timeInputsStampAndMeasure_17.fineTime 0 0 0 (signed 16 (w_timeInputsStampAndMeasure_17.f (TIU_EV_SKEW.skew 0)))),
      by decide +kernel⟩,
    ⟨w_timeInputsStampAndMeasure_18, 0, false, (false != w_timeInputsStampAndMeasure_18.flag (TIU_EV_CTL.pol 0)), 0, 0,
      (w_timeInputsStampAndMeasure_18.fineTime 0 0 0 (signed 16 (w_timeInputsStampAndMeasure_18.f (TIU_EV_SKEW.skew 0)))),
      by decide +kernel⟩,
    ⟨w_timeInputsStampAndMeasure_19, 0, false, (false != w_timeInputsStampAndMeasure_19.flag (TIU_EV_CTL.pol 0)), 1000, 0,
      (w_timeInputsStampAndMeasure_19.fineTime 0 1000 0 (signed 16 (w_timeInputsStampAndMeasure_19.f (TIU_EV_SKEW.skew
      0)))), by decide +kernel⟩,
    ⟨w_timeInputsStampAndMeasure_20, 0, false, 0, 0, by decide +kernel⟩⟩

def w_statisticsAndCanarySweepsComplete_1 : State :=
  let e : Fin 4 := 0
  let s : State := live |>.set (TIU_STAT_STATUS.running e) 1
  s |>.withTiu fun y =>
      { y with stats := y.stats.put StatSt.reset e { n := 70000000, sum := -13, sumSq := 113, low := -8, high := 7, start := none, startBad := false } }

def w_statisticsAndCanarySweepsComplete_3 : State :=
  let s : State := live
  s |>.withTiu fun x => { x with sweeping := some (2 ^ 63 + 5) }

def w_statisticsAndCanarySweepsComplete_4 : State :=
  live |>.withTiu (fun z => { z with sweeping := none }) |>.withTime (fun z => { z with clk := 10 ^ 13 })

def w_statisticsAndCanarySweepsComplete_5 : State :=
  live |>.withTiu (fun z => { z with sweeping := none })

def w_statisticsAndCanarySweepsComplete_6 : State :=
  w_statisticsAndCanarySweepsComplete_1

theorem wit_statisticsAndCanarySweepsComplete :
    (∃ (s : State) (p : Port) (e : Fin 4), s.accepts p (TIU_STAT_CTL.reg e).addr none) ∧
    (∃ (s : State) (start : Nat), s.tiu.sweeping = some start ∧ s.up .fabric = true) ∧
    (∃ (s : State) (b : Bool) (ask : Bool), s.up .fabric = true ∧ s.tiu.sweeping = none ∧ ask = (s.tiu.sweepAsked ||
      (s.tiu.sweepAfterStep && !s.flag GLB_AVS_STATUS.busy)) ∧ (b = true ∧ s.tiu.sweepDue ≤ s.time.clk ∨ ask = true) ∧ b =
      true ∧ s.tiu.sweepDue ≤ s.time.clk) ∧
    (∃ (s : State) (b : Bool) (ask : Bool), s.up .fabric = true ∧ s.tiu.sweeping = none ∧ ask = (s.tiu.sweepAsked ||
      (s.tiu.sweepAfterStep && !s.flag GLB_AVS_STATUS.busy)) ∧ (b = false ∨ s.time.clk < s.tiu.sweepDue) ∧ ask = false) ∧
    (∃ (s : State) (e : Fin 4) (x : StatSt), x = Tab.get StatSt.reset s.tiu.stats e ∧ s.up .fabric = true ∧ s.flag
      (TIU_STAT_STATUS.running e) = true ∧ s.statN e ≤ x.n) :=
  ⟨⟨live, .a, 0, accepts_of (by decide +kernel) (by decide +kernel)⟩,
    ⟨w_statisticsAndCanarySweepsComplete_3, 2 ^ 63 + 5, by decide +kernel⟩,
    ⟨w_statisticsAndCanarySweepsComplete_4, true, (w_statisticsAndCanarySweepsComplete_4.tiu.sweepAsked ||
      (w_statisticsAndCanarySweepsComplete_4.tiu.sweepAfterStep && !w_statisticsAndCanarySweepsComplete_4.flag
      GLB_AVS_STATUS.busy)), by decide +kernel⟩,
    ⟨w_statisticsAndCanarySweepsComplete_5, false, false, by decide +kernel⟩,
    ⟨w_statisticsAndCanarySweepsComplete_6, 0, (Tab.get StatSt.reset w_statisticsAndCanarySweepsComplete_6.tiu.stats 0),
      by decide +kernel⟩⟩

def w_fieldControlOutputsFollowCodesAndCauses_1 : State :=
  live |>.set FCD_CTL.drive_en 0xFF

def w_fieldControlOutputsFollowCodesAndCauses_2 : State :=
  let f : Fin 8 := 0
  let s : State := live
  s |>.setFcdOut f { s.fcdOut f with settled := true }

def w_fieldControlOutputsFollowCodesAndCauses_3 : State :=
  let s : State := live
  s |>.withFcd fun x => { x with clrdacLow := false }

def w_fieldControlOutputsFollowCodesAndCauses_4 : State :=
  let s : State := live
  s |>.withFcd fun x => { x with clrdacLow := true }

def w_fieldControlOutputsFollowCodesAndCauses_5_0 : State :=
  let p : Port := .a
  let s : State := live |>.setHolder 10 (some (.cp p))
  s |>.set FCD_CTL.drive_en 0 |>.withFcd fun x => { x with vhkLow := false }

def w_fieldControlOutputsFollowCodesAndCauses_5_1 : State :=
  let p : Port := .a
  live |>.setHolder 10 (some (.cp p)) |>.set FCD_CTL.drive_en 255

def w_fieldControlOutputsFollowCodesAndCauses_6 : State :=
  let f : Fin 8 := 0
  live |>.set (FCD_STATUS.c_pre f) 1 |>.set FCD_CTL.drive_en 0xFF

def w_fieldControlOutputsFollowCodesAndCauses_7 : State :=
  let s : State := live
  s |>.withFcd fun x => { x with vhkLow := true }

def w_fieldControlOutputsFollowCodesAndCauses_8 : State :=
  let p : Port := .a
  live |>.setHolder 10 (some (.cp p))

def w_fieldControlOutputsFollowCodesAndCauses_9 : State :=
  let f : Fin 8 := 0
  live |>.set (FCD_STATUS.switching f) 1

def w_fieldControlOutputsFollowCodesAndCauses_10 : State :=
  live

def w_fieldControlOutputsFollowCodesAndCauses_11 : State :=
  State.reset

def w_fieldControlOutputsFollowCodesAndCauses_12 : State :=
  State.reset

def w_fieldControlOutputsFollowCodesAndCauses_13 : State :=
  w_fieldControlOutputsFollowCodesAndCauses_1 |>.set FCD_CTL.drive_en 0

def w_fieldControlOutputsFollowCodesAndCauses_14 : State :=
  w_fieldControlOutputsFollowCodesAndCauses_2

def w_fieldControlOutputsFollowCodesAndCauses_15 : State :=
  State.reset |>.withFcd (fun z => { z with clrdacLow := false })

def w_fieldControlOutputsFollowCodesAndCauses_16 : State :=
  State.reset |>.withFcd (fun z => { z with clrdacLow := true })

def w_fieldControlOutputsFollowCodesAndCauses_17 : State :=
  let p : Port := .a
  w_fieldControlOutputsFollowCodesAndCauses_5_0 |>.setHolder 10 (some (.cp p)) |>.withFcd
    (fun z => { z with vhkLow := true })

def w_fieldControlOutputsFollowCodesAndCauses_18 : State :=
  live

def w_fieldControlOutputsFollowCodesAndCauses_19 : State :=
  State.reset

def w_fieldControlOutputsFollowCodesAndCauses_20 : State :=
  live

def w_fieldControlOutputsFollowCodesAndCauses_21 : State :=
  let f : Fin 8 := 0
  live |>.set (FCD_STATUS.switching f) 0

theorem wit_fieldControlOutputsFollowCodesAndCauses :
    (∃ (s : State) (f : Fin 8), s.up .conv = true ∧ s.fcdRuns f = true ∧ (s.fcdOut f).settled = false) ∧
    (∃ (s : State), s.fcd.clrdacLow = false ∧ s.up .conv = true) ∧
    (∃ (s : State), s.fcd.clrdacLow = true ∧ s.up .conv = true) ∧
    (∃ (s : State) (p : Port) (f : Fin 8), s.accepts p FCD_CTL.reg.addr (some 10) ∧ bit (s.f FCD_CTL.drive_en) f = false ∧
      s.fcd.vhkLow = false) ∧
    (∃ (s : State) (p : Port) (f : Fin 8), s.accepts p FCD_CTL.reg.addr (some 10) ∧ bit (s.f FCD_CTL.drive_en) f = true) ∧
    (∃ (s : State) (f : Fin 8), s.flag (FCD_STATUS.c_pre f) = true ∧ s.fcdRuns f = true) ∧
    (∃ (s : State), s.fcd.vhkLow = true) ∧
    (∃ (s : State) (p : Port) (f : Fin 8) (r : Fin 2), s.accepts p (FCD_CFG.reg f).addr (some 10) ∧ (s.f (FCD_CFG.range f) ≠
      r.val)) ∧
    (∃ (s : State) (f : Fin 8), s.flag (FCD_STATUS.switching f) = true) ∧
    (∃ (s : State) (p : Port) (f : Fin 8) (v : Word), s.reachable (FCD_CODE.reg f).addr = true) ∧
    (∃ (s : State) (p : Port) (f : Fin 8) (v : Word), s.reachable (FCD_CODE.reg f).addr = false) ∧
    (∃ (s : State) (u : State) (f : Fin 8), s.up .conv = false) ∧
    (∃ (s : State) (u : State) (f : Fin 8), s.up .conv = true ∧ (s.fcdOut f).settled = false ∧ s.fcdRuns f = false) ∧
    (∃ (s : State) (u : State) (f : Fin 8), s.up .conv = true ∧ (s.fcdOut f).settled = true ∧ u = s.fcdCauseEnd f
      (FCD_STATUS.c_range f)) ∧
    (∃ (s : State), s.fcd.clrdacLow = false ∧ s.up .conv = false) ∧
    (∃ (s : State), s.fcd.clrdacLow = true ∧ s.up .conv = false) ∧
    (∃ (s : State) (p : Port) (f : Fin 8), s.accepts p FCD_CTL.reg.addr (some 10) ∧ (bit (s.f FCD_CTL.drive_en) f = true ∨
      s.fcd.vhkLow = true)) ∧
    (∃ (s : State) (f : Fin 8), (s.flag (FCD_STATUS.c_pre f) = false ∨ s.fcdRuns f = false)) ∧
    (∃ (s : State) (p : Port) (f : Fin 8) (r : Fin 2) (c : Instr) (a : Nat), (c, a) ∈ [(.fcdDriveEnable p f,
      FCD_CTL.reg.addr), (.fcdDriveDisable p f, FCD_CTL.reg.addr), (.fcdRangeWrite p f r, (FCD_CFG.reg f).addr)] ∧
      s.reachable a = false) ∧
    (∃ (s : State) (p : Port) (f : Fin 8) (r : Fin 2) (c : Instr) (a : Nat), (c, a) ∈ [(.fcdDriveEnable p f,
      FCD_CTL.reg.addr), (.fcdDriveDisable p f, FCD_CTL.reg.addr), (.fcdRangeWrite p f r, (FCD_CFG.reg f).addr)] ∧
      s.reachable a = true ∧ s.holder 10 ≠ some (.cp p)) ∧
    (∃ (s : State) (f : Fin 8), s.flag (FCD_STATUS.switching f) = false) :=
  ⟨⟨w_fieldControlOutputsFollowCodesAndCauses_1, 0, by decide +kernel⟩,
    ⟨w_fieldControlOutputsFollowCodesAndCauses_3, by decide +kernel⟩,
    ⟨w_fieldControlOutputsFollowCodesAndCauses_4, by decide +kernel⟩,
    ⟨w_fieldControlOutputsFollowCodesAndCauses_5_0, .a, 0, accepts_of (by decide +kernel) (by decide +kernel),
      by decide +kernel⟩,
    ⟨w_fieldControlOutputsFollowCodesAndCauses_5_1, .a, 0, accepts_of (by decide +kernel) (by decide +kernel),
      by decide +kernel⟩,
    ⟨w_fieldControlOutputsFollowCodesAndCauses_6, 0, by decide +kernel⟩,
    ⟨w_fieldControlOutputsFollowCodesAndCauses_7, by decide +kernel⟩,
    ⟨w_fieldControlOutputsFollowCodesAndCauses_8, .a, 0, 0, accepts_of (by decide +kernel) (by decide +kernel),
      by decide +kernel⟩,
    ⟨w_fieldControlOutputsFollowCodesAndCauses_9, 0, by decide +kernel⟩,
    ⟨w_fieldControlOutputsFollowCodesAndCauses_10, .a, 0, 0, by decide +kernel⟩,
    ⟨w_fieldControlOutputsFollowCodesAndCauses_11, .a, 0, 0, by decide +kernel⟩,
    ⟨w_fieldControlOutputsFollowCodesAndCauses_12, live, 0, by decide +kernel⟩,
    ⟨w_fieldControlOutputsFollowCodesAndCauses_13, live, 0, by decide +kernel⟩,
    ⟨w_fieldControlOutputsFollowCodesAndCauses_14, (w_fieldControlOutputsFollowCodesAndCauses_14.fcdCauseEnd 0
      (FCD_STATUS.c_range 0)), 0, by decide +kernel, by decide +kernel, rfl⟩,
    ⟨w_fieldControlOutputsFollowCodesAndCauses_15, by decide +kernel⟩,
    ⟨w_fieldControlOutputsFollowCodesAndCauses_16, by decide +kernel⟩,
    ⟨w_fieldControlOutputsFollowCodesAndCauses_17, .a, 0, accepts_of (by decide +kernel) (by decide +kernel),
      by decide +kernel⟩,
    ⟨w_fieldControlOutputsFollowCodesAndCauses_18, 0, by decide +kernel⟩,
    ⟨w_fieldControlOutputsFollowCodesAndCauses_19, .a, 0, 0, .fcdDriveEnable .a 0, FCD_CTL.reg.addr, by decide +kernel⟩,
    ⟨w_fieldControlOutputsFollowCodesAndCauses_20, .a, 0, 0, .fcdDriveEnable .a 0, FCD_CTL.reg.addr, by decide +kernel⟩,
    ⟨w_fieldControlOutputsFollowCodesAndCauses_21, 0, by decide +kernel⟩⟩

def w_housekeepingScansConvertAndCompare_1_1 : State :=
  let s : State := live
  s |>.withFcd fun y => { y with scan := some s.hkChannels }

def w_housekeepingScansConvertAndCompare_2 : State :=
  let s : State := live
  s |>.withFcd fun y => { y with scan := some { shared := [67, 3], onlyA := [1], onlyB := [2], tolFcd := 5, tolAb := 6 } }

def w_housekeepingScansConvertAndCompare_2_90 : State :=
  let s : State := live
  let s : State := s |>.withFcd fun y =>
      { y with scan := some { shared := [67, 3], onlyA := [1], onlyB := [2], tolFcd := 5, tolAb := 6 } }
  s |>.withFcd fun y => { y with scan := some { shared := [3], onlyA := [1], onlyB := [2], tolFcd := 5, tolAb := 6 } }

def w_housekeepingScansConvertAndCompare_3 : State :=
  let s : State := live
  s |>.withFcd fun y => { y with scan := some { shared := [], onlyA := [], onlyB := [], tolFcd := 5, tolAb := 6 } }

theorem wit_housekeepingScansConvertAndCompare :
    (∃ (s : State) (p : Port), s.accepts p HK_CTL.reg.addr none ∧ s.fcd.scan = none) ∧
    (∃ (s : State) (p : Port) (v : Word) (x : HkScan), s.accepts p HK_CTL.reg.addr none ∧ s.fcd.scan = some x ∧ bit v.toNat
      31 = false) ∧
    (∃ (s : State) (a : Int) (b : Int) (x : HkScan) (c : Nat) (cs : List Nat), s.fcd.scan = some x ∧ x.shared = c :: cs ∧ c <
      68 ∧ (x.tolAb < max (min 65535 a.toNat) (min 65535 b.toNat) - min (min 65535 a.toNat) (min 65535 b.toNat))) ∧
    (∃ (s : State) (a : Int) (b : Int) (x : HkScan) (c : Nat) (cs : List Nat), s.fcd.scan = some x ∧ x.shared = c :: cs ∧ c <
      68 ∧ (x.tolAb < max (min 65535 a.toNat) (min 65535 b.toNat) - min (min 65535 a.toNat) (min 65535 b.toNat)) ∧ (c <
      16)) ∧
    (∃ (s : State) (x : HkScan), s.fcd.scan = some x ∧ x.shared = [] ∧ x.onlyA = [] ∧ x.onlyB = []) :=
  ⟨⟨live, .a, accepts_of (by decide +kernel) (by decide +kernel), by decide +kernel⟩,
    ⟨w_housekeepingScansConvertAndCompare_1_1, .a, 0x1, (let s : State := w_housekeepingScansConvertAndCompare_1_1;
      s.hkChannels), accepts_of (by decide +kernel) (by decide +kernel), by decide +kernel⟩,
    ⟨w_housekeepingScansConvertAndCompare_2, 70000, 12345,
      { shared := [67, 3], onlyA := [1], onlyB := [2], tolFcd := 5, tolAb := 6 }, 67, [3], by decide +kernel⟩,
    ⟨w_housekeepingScansConvertAndCompare_2_90, 70000, 12345,
      { shared := [3], onlyA := [1], onlyB := [2], tolFcd := 5, tolAb := 6 }, 3, [], by decide +kernel⟩,
    ⟨w_housekeepingScansConvertAndCompare_3, { shared := [], onlyA := [], onlyB := [], tolFcd := 5, tolAb := 6 },
      by decide +kernel⟩⟩

def w_calibrationRunsCommitsAndStores_0_0 : State :=
  let p : Port := .a
  let s : State := live |>.setHolder 2 (some (.cp p)) |>.set GLB_ID.reg GLB_ID.reg.rst |>.set (State.modeLoc 0) 1 |>.set
      GLB_MODE.running 1
  s |>.withPath 0 fun z => { z with img := some pimg }

def w_calibrationRunsCommitsAndStores_0_1 : State :=
  let p : Port := .a
  live |>.setHolder 2 (some (.cp p))

def w_calibrationRunsCommitsAndStores_1_0 : State :=
  let p : Port := .a
  let s : State := live |>.setHolder 2 (some (.cp p))
  let s : State := s |>.withCal fun x => { x with run := some crun }
  s |>.set CAL_STATUS.state 2

def w_calibrationRunsCommitsAndStores_2_1 : State :=
  let s : State := live |>.set (CAL_STATUS.state) (1)
  s |>.withCal fun x => { x with run := some crun }

def w_calibrationRunsCommitsAndStores_2_2 : State :=
  let s : State := live |>.set (CAL_STATUS.state) (1)
  let s : State := s |>.withCal fun x => { x with run := some crun }
  s |>.withCal fun x => { x with run := some { crun with repeats := 3 } }

def w_calibrationRunsCommitsAndStores_2_3 : State :=
  let s : State := live |>.set (CAL_STATUS.state) (1)
  s |>.withCal fun x => { x with run := some crun }

def w_calibrationRunsCommitsAndStores_4 : State :=
  let p : Port := .a
  let s : State := live |>.setHolder 2 (some (.cp p))
  s |>.withCal fun y => { y with pending := some { CalSet.zero with generation := 3 } }

def w_calibrationRunsCommitsAndStores_5 : State :=
  let s : State := live
  let s : State := s |>.withCal fun y => { y with committing := some { CalSet.zero with generation := 3 } }
  s |>.set GLB_ID.reg GLB_ID.reg.rst

def w_calibrationRunsCommitsAndStores_7 : State :=
  let p : Port := .a
  live |>.setHolder 12 (some (.cp p))

def w_calibrationRunsCommitsAndStores_7_90 : State :=
  let p : Port := .a
  live |>.setHolder 12 (some (.cp p)) |>.set CAL_ST_ADDR.reg 0xC00000 |>.set CAL_ST_LEN.reg 65536

def w_calibrationRunsCommitsAndStores_8_0 : State :=
  let s : State := live
  s |>.withCal fun y => { y with program := some (.b, 0x200000, 3, 0) }

def w_calibrationRunsCommitsAndStores_8_2 : State :=
  let s : State := live
  let s : State := s |>.withCal fun y => { y with program := some (.b, 0x200000, 3, 0) }
  s |>.withCal fun y => { y with program := some (.b, 0x200000, 5, 0) }

def w_calibrationRunsCommitsAndStores_9 : State :=
  let p : Port := .a
  w_calibrationRunsCommitsAndStores_0_0 |>.setHolder 2 (some (.cp p)) |>.withCal (fun z => { z with run := none }) |>.set
    PWR_STATE.state 1

def w_calibrationRunsCommitsAndStores_10 : State :=
  let p : Port := .a
  w_calibrationRunsCommitsAndStores_0_0 |>.setHolder 2 (some (.cp p)) |>.withCal (fun z => { z with run := none })

def w_calibrationRunsCommitsAndStores_11 : State :=
  let p : Port := .a
  w_calibrationRunsCommitsAndStores_0_1 |>.setHolder 2 (some (.cp p)) |>.withCal (fun z => { z with run := none })

def w_calibrationRunsCommitsAndStores_12 : State :=
  let r : CalRun := crun
  w_calibrationRunsCommitsAndStores_2_1 |>.withCal (fun z => { z with run := some r }) |>.set CAL_STATUS.state 1 |>.withTime
    (fun z => { z with clk := 0 })

def w_calibrationRunsCommitsAndStores_13 : State :=
  let r : CalRun := crun
  w_calibrationRunsCommitsAndStores_2_1 |>.withCal (fun z => { z with run := some r }) |>.set CAL_STATUS.state 1 |>.withTime
    (fun z => { z with clk := 10 ^ 14 })

def w_calibrationRunsCommitsAndStores_14 : State :=
  let r : CalRun := { crun with repeats := 3 }
  w_calibrationRunsCommitsAndStores_2_2 |>.withCal (fun z => { z with run := some r }) |>.set CAL_STATUS.state 1 |>.withTime
    (fun z => { z with clk := 10 ^ 14 })

def w_calibrationRunsCommitsAndStores_15 : State :=
  let r : CalRun := crun
  w_calibrationRunsCommitsAndStores_2_3 |>.withCal (fun z => { z with run := some r }) |>.set CAL_STATUS.state 1 |>.withTime
    (fun z => { z with clk := 10 ^ 14 })

def w_calibrationRunsCommitsAndStores_16 : State :=
  let r : CalRun := crun
  w_calibrationRunsCommitsAndStores_1_0 |>.withCal (fun z => { z with run := some r }) |>.withTime
    (fun z => { z with clk := 0 })

def w_calibrationRunsCommitsAndStores_17 : State :=
  let r : CalRun := crun
  w_calibrationRunsCommitsAndStores_1_0 |>.withCal (fun z => { z with run := some r }) |>.set CAL_STATUS.state 2 |>.withTime
    (fun z => { z with clk := 10 ^ 13 })

def w_calibrationRunsCommitsAndStores_18 : State :=
  let p : Port := .a
  w_calibrationRunsCommitsAndStores_11 |>.setHolder 2 (some (.cp p)) |>.withCal (fun z => { z with run := none }) |>.set
    CAL_PLAN.npoints 1 |>.set (CAL_POINT.freq_khz 0) 50000 |>.set (CAL_POINT_LVL.level 0) 0

theorem wit_calibrationRunsCommitsAndStores :
    (∃ (s : State) (p : Port) (v : Word) (r : CalRun), s.accepts p CAL_CTL.reg.addr (some 2) ∧ s.cal.run = some r ∧ bit
      v.toNat 28 = false ∧ bit v.toNat 31 = false ∧ bit v.toNat 30 = false ∧ s.f CAL_STATUS.state = 2) ∧
    (∃ (s : State) (r : CalRun), s.cal.run = some r ∧ s.f CAL_STATUS.state = 1 ∧ r.repeats < 3) ∧
    (∃ (s : State) (r : CalRun), s.cal.run = some r ∧ s.f CAL_STATUS.state = 1 ∧ 3 ≤ r.repeats) ∧
    (∃ (s : State) (r : CalRun), s.cal.run = some r ∧ s.f CAL_STATUS.state = 1 ∧ r.pass = 1) ∧
    (∃ (s : State) (p : Port) (v : Word) (x : CalSet), s.accepts p CAL_CTL.reg.addr (some 2) ∧ s.cal.pending = some x ∧
      s.cal.committing = none ∧ bit v.toNat 29 = false ∧ bit v.toNat 30 = false ∧ bit v.toNat 31 = false) ∧
    (∃ (s : State) (x : CalSet), s.cal.committing = some x) ∧
    (∃ (s : State), s.time.running = true) ∧
    (∃ (s : State) (p : Port), s.accepts p CAL_ST_CTL.reg.addr (some 12)) ∧
    (∃ (s : State) (p : Port), s.accepts p CAL_ST_CTL.reg.addr (some 12) ∧ (s.storeRefused = none)) ∧
    (∃ (s : State) (q : Port) (a : Nat) (n : Nat) (x : Nat) (b : List Byte), s.cal.program = some (q, a, n, x) ∧ n ≤
      b.length) ∧
    (∃ (s : State) (q : Port) (a : Nat) (n : Nat) (x : Nat) (b : List Byte), s.cal.program = some (q, a, n, x) ∧ b.length <
      n) ∧
    (∃ (s : State) (p : Port) (v : Word), s.accepts p CAL_CTL.reg.addr (some 2) ∧ v.toNat / 2 ^ 28 % 8 = 0 ∧ s.cal.run =
      none ∧ s.calMay = false) ∧
    (∃ (s : State) (p : Port) (v : Word), s.accepts p CAL_CTL.reg.addr (some 2) ∧ v.toNat / 2 ^ 28 % 8 = 0 ∧ s.cal.run =
      none ∧ (∃ n : Fin 4, bit v.toNat n = true ∧ s.pathPresent n = true ∧ s.realTime n = true) ∧ s.calMay = true) ∧
    (∃ (s : State) (p : Port) (v : Word), s.accepts p CAL_CTL.reg.addr (some 2) ∧ v.toNat / 2 ^ 28 % 8 = 0 ∧ s.cal.run =
      none ∧ (∀ n : Fin 4, bit v.toNat n = true → s.pathPresent n = true → s.realTime n = false) ∧ s.planBad = true ∧
      s.calMay = true) ∧
    (∃ (s : State) (r : CalRun) (rs : List (Nat × Int × Int)) (b : Bool), s.cal.run = some r ∧ s.f CAL_STATUS.state = 1 ∧
      s.passOver r = false) ∧
    (∃ (s : State) (r : CalRun) (rs : List (Nat × Int × Int)) (b : Bool), s.cal.run = some r ∧ s.f CAL_STATUS.state = 1 ∧
      s.passOver r = true ∧ (b = true ∨ r.spoilt = true) ∧ r.repeats < 3) ∧
    (∃ (s : State) (r : CalRun) (rs : List (Nat × Int × Int)) (b : Bool), s.cal.run = some r ∧ s.f CAL_STATUS.state = 1 ∧
      s.passOver r = true ∧ (b = true ∨ r.spoilt = true) ∧ 3 ≤ r.repeats) ∧
    (∃ (s : State) (r : CalRun) (rs : List (Nat × Int × Int)), s.cal.run = some r ∧ s.f CAL_STATUS.state = 1 ∧ s.passOver r
      = true ∧ r.spoilt = false ∧ r.pass = 1) ∧
    (∃ (s : State) (r : CalRun), s.cal.run = some r ∧ s.time.clk < r.since + 2560000000 * max 1 (s.f CAL_PASS.timeout_s)) ∧
    (∃ (s : State) (r : CalRun), s.cal.run = some r ∧ s.f CAL_STATUS.state = 2 ∧ r.since + 2560000000 * max 1 (s.f
      CAL_PASS.timeout_s) ≤ s.time.clk) ∧
    (∃ (s : State) (p : Port) (v : Word), s.accepts p CAL_CTL.reg.addr (some 2) ∧ v.toNat / 2 ^ 28 % 8 = 0 ∧ s.cal.run =
      none ∧ (∀ n : Fin 4, bit v.toNat n = true → s.pathPresent n = true → s.realTime n = false) ∧ s.planBad = false ∧
      s.calMay = true) :=
  ⟨⟨w_calibrationRunsCommitsAndStores_1_0, .a, 0x20000000, crun, accepts_of (by decide +kernel) (by decide +kernel),
      by decide +kernel⟩,
    ⟨w_calibrationRunsCommitsAndStores_2_1, crun, by decide +kernel⟩,
    ⟨w_calibrationRunsCommitsAndStores_2_2, { crun with repeats := 3 }, by decide +kernel⟩,
    ⟨w_calibrationRunsCommitsAndStores_2_3, crun, by decide +kernel⟩,
    ⟨w_calibrationRunsCommitsAndStores_4, .a, 0x10000000, { CalSet.zero with generation := 3 }, accepts_of
      (by decide +kernel) (by decide +kernel), by decide +kernel⟩,
    ⟨w_calibrationRunsCommitsAndStores_5, { CalSet.zero with generation := 3 }, by decide +kernel⟩,
    ⟨live, by decide +kernel⟩,
    ⟨w_calibrationRunsCommitsAndStores_7, .a, accepts_of (by decide +kernel) (by decide +kernel)⟩,
    ⟨w_calibrationRunsCommitsAndStores_7_90, .a, accepts_of (by decide +kernel) (by decide +kernel), by decide +kernel⟩,
    ⟨w_calibrationRunsCommitsAndStores_8_0, .b, 0x200000, 3, 0, [1, 2, 3, 4], by decide +kernel⟩,
    ⟨w_calibrationRunsCommitsAndStores_8_2, .b, 0x200000, 5, 0, [1, 2, 3, 4], by decide +kernel⟩,
    ⟨w_calibrationRunsCommitsAndStores_9, .a, 0x8000000F, accepts_of (by decide +kernel) (by decide +kernel),
      by decide +kernel⟩,
    ⟨w_calibrationRunsCommitsAndStores_10, .a, 0x8000000F, accepts_of (by decide +kernel) (by decide +kernel),
      by decide +kernel⟩,
    ⟨w_calibrationRunsCommitsAndStores_11, .a, 0x8000000F, accepts_of (by decide +kernel) (by decide +kernel),
      by decide +kernel⟩,
    ⟨w_calibrationRunsCommitsAndStores_12, crun, [], false, by decide +kernel⟩,
    ⟨w_calibrationRunsCommitsAndStores_13, crun, [], true, by decide +kernel⟩,
    ⟨w_calibrationRunsCommitsAndStores_14, { crun with repeats := 3 }, [], true, by decide +kernel⟩,
    ⟨w_calibrationRunsCommitsAndStores_15, crun, [], by decide +kernel⟩,
    ⟨w_calibrationRunsCommitsAndStores_16, crun, by decide +kernel⟩,
    ⟨w_calibrationRunsCommitsAndStores_17, crun, by decide +kernel⟩,
    ⟨w_calibrationRunsCommitsAndStores_18, .a, 0x8000000F, accepts_of (by decide +kernel) (by decide +kernel),
      by decide +kernel⟩⟩

def w_ensembleTokensGoRoundAndApply_0 : State :=
  live |>.set ENS_CTL.en 1 |>.set ENS_CTL.role 1

def w_ensembleTokensGoRoundAndApply_1 : State :=
  live |>.set ENS_CTL.en 1 |>.set ENS_CTL.role 2

def w_ensembleTokensGoRoundAndApply_2 : State :=
  let p : Port := .a
  live |>.setHolder 4 (some (.cp p)) |>.set (ENS_TOKEN_STATUS.busy) 0 |>.set ENS_CTL.en 1 |>.set ENS_CTL.role 1 |>.set
      ENS_CTL.id 2

def w_ensembleTokensGoRoundAndApply_5 : State :=
  let s : State := live |>.set (ENS_TOKEN_STATUS.busy) 1 |>.set ENS_CTL.en 1 |>.set ENS_CTL.role 1
  s |>.withEns fun y => { y with members := 0xF0 }

def w_ensembleTokensGoRoundAndApply_8 : State :=
  let p : Port := .a
  live |>.setHolder 4 (some (.cp p)) |>.set ENS_CTL.en 1 |>.set ENS_CTL.role 1

def w_ensembleTokensGoRoundAndApply_9 : State :=
  let s : State := live
  s |>.withEns fun y => { y with stage := 1 }

def w_ensembleTokensGoRoundAndApply_12 : State :=
  w_ensembleTokensGoRoundAndApply_0 |>.withTime (fun z => { z with clk := 10 ^ 13 })

def w_ensembleTokensGoRoundAndApply_14 : State :=
  w_ensembleTokensGoRoundAndApply_1

def w_ensembleTokensGoRoundAndApply_16 : State :=
  w_ensembleTokensGoRoundAndApply_0

def w_ensembleTokensGoRoundAndApply_17 : State :=
  let ring : Fin 2 := 0
  live |>.set (State.ringUp ring) 1 |>.set ENS_CTL.en 1 |>.set ENS_CTL.role 1

def w_ensembleTokensGoRoundAndApply_22 : State :=
  let p : Port := .a
  w_ensembleTokensGoRoundAndApply_8 |>.setHolder 4 (some (.cp p)) |>.withEns (fun z => { z with stage := 1 })

def w_ensembleTokensGoRoundAndApply_23 : State :=
  let p : Port := .a
  w_ensembleTokensGoRoundAndApply_8 |>.setHolder 4 (some (.cp p))

def w_ensembleTokensGoRoundAndApply_25 : State :=
  w_ensembleTokensGoRoundAndApply_9 |>.withEns (fun z => { z with stage := 1 }) |>.withTime
    (fun z => { z with clk := 10 ^ 13 })

def w_ensembleTokensGoRoundAndApply_26 : State :=
  w_ensembleTokensGoRoundAndApply_0

def w_ensembleTokensGoRoundAndApply_27 : State :=
  w_ensembleTokensGoRoundAndApply_2 |>.set ENS_CTL.ring_auto 1

def w_ensembleTokensGoRoundAndApply_28 : State :=
  live

def w_ensembleTokensGoRoundAndApply_29 : State :=
  w_ensembleTokensGoRoundAndApply_2

def w_ensembleTokensGoRoundAndApply_30 : State :=
  let p : Port := .a
  w_ensembleTokensGoRoundAndApply_2 |>.setHolder 4 (some (.cp p)) |>.set ENS_TOKEN_STATUS.busy 1

def w_ensembleTokensGoRoundAndApply_31 : State :=
  let ring : Fin 2 := 0
  live |>.set ENS_CTL.en 1 |>.set ENS_CTL.role 2 |>.set ENS_CTL.id 5 |>.set (State.ringUp ring) 1 |>.set ENS_STATUS.in_ 1
    |>.withEns (fun z => { z with rxSeq := some 6 }) |>.set ENS_CTL.id 0

def w_ensembleTokensGoRoundAndApply_32 : State :=
  let ring : Fin 2 := 0
  live |>.set ENS_CTL.en 1 |>.set ENS_CTL.role 2 |>.set ENS_CTL.id 5 |>.set (State.ringUp ring) 1 |>.set ENS_STATUS.in_ 1
    |>.withEns (fun z => { z with rxSeq := some 6 })

def w_ensembleTokensGoRoundAndApply_33 : State :=
  let ring : Fin 2 := 0
  live |>.set ENS_CTL.en 1 |>.set ENS_CTL.role 2 |>.set ENS_CTL.id 5 |>.set (State.ringUp ring) 1 |>.set ENS_STATUS.in_ 1
    |>.withEns (fun z => { z with rxSeq := some 6 })

def w_ensembleTokensGoRoundAndApply_34 : State :=
  let ring : Fin 2 := 0
  live |>.set ENS_CTL.en 1 |>.set ENS_CTL.role 2 |>.set ENS_CTL.id 5 |>.set (State.ringUp ring) 1 |>.set ENS_STATUS.in_ 1
    |>.withEns (fun z => { z with rxSeq := some 6 })

def w_ensembleTokensGoRoundAndApply_35 : State :=
  let ring : Fin 2 := 0
  live |>.set ENS_CTL.en 1 |>.set ENS_CTL.role 2 |>.set ENS_CTL.id 5 |>.set (State.ringUp ring) 1 |>.set ENS_STATUS.in_ 1
    |>.withEns (fun z => { z with rxSeq := some 6 }) |>.set ENS_STATUS.held 1

def w_ensembleTokensGoRoundAndApply_36 : State :=
  let ring : Fin 2 := 0
  live |>.set ENS_CTL.en 1 |>.set ENS_CTL.role 2 |>.set ENS_CTL.id 5 |>.set (State.ringUp ring) 1 |>.set ENS_STATUS.in_ 1
    |>.withEns (fun z => { z with rxSeq := some 6 }) |>.set ENS_STATUS.in_ 0

def w_ensembleTokensGoRoundAndApply_37 : State :=
  let ring : Fin 2 := 0
  live |>.set ENS_CTL.en 1 |>.set ENS_CTL.role 2 |>.set ENS_CTL.id 5 |>.set (State.ringUp ring) 1 |>.set ENS_STATUS.in_ 1
    |>.withEns (fun z => { z with rxSeq := some 6 })

def w_ensembleTokensGoRoundAndApply_38 : State :=
  let ring : Fin 2 := 0
  live |>.set ENS_CTL.en 1 |>.set ENS_CTL.role 2 |>.set ENS_CTL.id 5 |>.set (State.ringUp ring) 1 |>.set ENS_STATUS.in_ 1
    |>.withEns (fun z => { z with rxSeq := some 6 })

def w_ensembleTokensGoRoundAndApply_39 : State :=
  let ring : Fin 2 := 0
  live |>.set ENS_CTL.en 1 |>.set ENS_CTL.role 2 |>.set ENS_CTL.id 5 |>.set (State.ringUp ring) 1 |>.set ENS_STATUS.in_ 1
    |>.withEns (fun z => { z with rxSeq := some 6 }) |>.set ENS_CTL.id 1

def w_ensembleTokensGoRoundAndApply_40 : State :=
  let ring : Fin 2 := 0
  live |>.set ENS_CTL.en 1 |>.set ENS_CTL.role 2 |>.set ENS_CTL.id 5 |>.set (State.ringUp ring) 1 |>.set ENS_STATUS.in_ 1
    |>.withEns (fun z => { z with rxSeq := some 6 })

def w_ensembleTokensGoRoundAndApply_41 : State :=
  let ring : Fin 2 := 0
  live |>.set ENS_CTL.en 1 |>.set ENS_CTL.role 2 |>.set ENS_CTL.id 5 |>.set (State.ringUp ring) 1 |>.set ENS_STATUS.in_ 1
    |>.withEns (fun z => { z with rxSeq := some 6 })

def w_ensembleTokensGoRoundAndApply_42 : State :=
  let ring : Fin 2 := 0
  live |>.set ENS_CTL.en 1 |>.set ENS_CTL.role 2 |>.set ENS_CTL.id 5 |>.set (State.ringUp ring) 1 |>.set ENS_STATUS.in_ 1
    |>.withEns (fun z => { z with rxSeq := some 6 })

def w_ensembleTokensGoRoundAndApply_43 : State :=
  let ring : Fin 2 := 0
  live |>.set ENS_CTL.en 1 |>.set ENS_CTL.role 2 |>.set ENS_CTL.id 5 |>.set (State.ringUp ring) 1 |>.set ENS_STATUS.in_ 1
    |>.withEns (fun z => { z with rxSeq := some 6 }) |>.withEns (fun z => { z with rejoin := true })

def w_ensembleTokensGoRoundAndApply_44 : State :=
  let ring : Fin 2 := 0
  let own : Int := 6557000
  live |>.set ENS_CTL.en 1 |>.set ENS_CTL.role 2 |>.set ENS_CTL.id 5 |>.set (State.ringUp ring) 1 |>.set ENS_STATUS.in_ 1
    |>.withEns (fun z => { z with rxSeq := some 6 }) |>.withEns (fun z => { z with edge := some own, first := false })
    |>.set ENS_CTL.restep 1

def w_ensembleTokensGoRoundAndApply_45 : State :=
  let ring : Fin 2 := 0
  let own : Int := 6556000
  live |>.set ENS_CTL.en 1 |>.set ENS_CTL.role 2 |>.set ENS_CTL.id 5 |>.set (State.ringUp ring) 1 |>.set ENS_STATUS.in_ 1
    |>.withEns (fun z => { z with rxSeq := some 6 }) |>.withEns (fun z => { z with edge := some own, first := false })

def w_ensembleTokensGoRoundAndApply_46 : State :=
  let ring : Fin 2 := 0
  let own : Int := 6557000
  live |>.set ENS_CTL.en 1 |>.set ENS_CTL.role 2 |>.set ENS_CTL.id 5 |>.set (State.ringUp ring) 1 |>.set ENS_STATUS.in_ 1
    |>.withEns (fun z => { z with rxSeq := some 6 }) |>.withEns (fun z => { z with edge := some own, first := false })

def w_ensembleTokensGoRoundAndApply_47 : State :=
  let ring : Fin 2 := 0
  live |>.set ENS_CTL.en 1 |>.set ENS_CTL.role 1 |>.set ENS_CTL.id 5 |>.set (State.ringUp ring) 1

def w_ensembleTokensGoRoundAndApply_48 : State :=
  let ring : Fin 2 := 0
  live |>.set ENS_CTL.en 1 |>.set ENS_CTL.role 1 |>.set ENS_CTL.id 5 |>.set (State.ringUp ring) 1 |>.withEns
    (fun z => { z with stage := 1 })

def w_ensembleTokensGoRoundAndApply_49 : State :=
  let ring : Fin 2 := 0
  live |>.set ENS_CTL.en 1 |>.set ENS_CTL.role 1 |>.set ENS_CTL.id 5 |>.set (State.ringUp ring) 1 |>.withEns
    (fun z => { z with stage := 3 })

def w_ensembleTokensGoRoundAndApply_50 : State :=
  let ring : Fin 2 := 0
  live |>.set ENS_CTL.en 1 |>.set ENS_CTL.role 1 |>.set ENS_CTL.id 5 |>.set (State.ringUp ring) 1

def w_ensembleTokensGoRoundAndApply_51 : State :=
  w_ensembleTokensGoRoundAndApply_2

def w_ensembleTokensGoRoundAndApply_52 : State :=
  let a : EnsApply := { what := .arm, rgn := 0, cond := 1, tick := 2 ^ 40 }
  live |>.withEns (fun z => { z with applies := [a] })

def w_ensembleTokensGoRoundAndApply_53 : State :=
  let a : EnsApply := { what := .disarm, rgn := 0, cond := 1, tick := 5 }
  live |>.withEns (fun z => { z with applies := [a] })

def w_ensembleTokensGoRoundAndApply_54 : State :=
  let a : EnsApply := { what := .arm, rgn := 0, cond := 3, tick := 5 }
  let d : EnsApply := { what := .disarm, rgn := 0, cond := 1, tick := 5 }
  live |>.withEns (fun z => { z with applies := [a, d] })

def w_ensembleTokensGoRoundAndApply_55 : State :=
  let a : EnsApply := { what := .state, rgn := 0, cond := 1, tick := 2 ^ 40 }
  live |>.withEns (fun z => { z with applies := [a] })

def w_ensembleTokensGoRoundAndApply_56 : State :=
  let a : EnsApply := { what := .state, rgn := 0, cond := 1, tick := 5 }
  live |>.withEns (fun z => { z with applies := [a] }) |>.set ENS_SCOPE_COND.reg 3

def w_ensembleTokensGoRoundAndApply_57 : State :=
  w_ensembleTokensGoRoundAndApply_2

def w_ensembleTokensGoRoundAndApply_58 : State :=
  w_ensembleTokensGoRoundAndApply_17 |>.set ENS_STATUS.lagging 0 |>.withTime (fun z => { z with clk := 10 ^ 13 })

def w_ensembleTokensGoRoundAndApply_59 : State :=
  State.reset

theorem wit_ensembleTokensGoRoundAndApply :
    (∃ (s : State) (p : Port) (r : Nat) (c : Nat) (tick : Nat), s.accepts p ENS_TOKEN.reg.addr (some 4) ∧ s.ensLeads = true ∧
      s.flag ENS_TOKEN_STATUS.busy = false ∧ r = s.f ENS_ARM_RGN.reg &&& s.f ENS_SCOPE_RGN.reg ∧ c = s.f ENS_ARM_COND.reg
      &&& s.f ENS_SCOPE_COND.reg ∧ tick = (s.now.tick + max 2560 (s.f ENS_LEAD.reg)) % 2 ^ 64) ∧
    (∃ (s : State) (late : Nat), s.ensLeads = true ∧ s.flag ENS_TOKEN_STATUS.busy = true ∧ late = s.ens.members &&& (65535 -
      s.f ENS_MEMBERS.held) &&& (65535 - s.f ENS_LAGGING.lagging)) ∧
    (∃ (s : State), s.up .host = true) ∧
    (∃ (s : State), s.ensLeads = true ∧ s.ens.sentAt + 25600 ≤ s.time.clk) ∧
    (∃ (s : State), s.ensFollows = true ∧ s.ens.sentFp ≠ some s.fingerprint) ∧
    (∃ (s : State) (ring : Fin 2) (b : List Byte) (w : Bool), (s.ensOn = false ∨ s.flag (State.ringUp ring) = false)) ∧
    (∃ (s : State) (ring : Fin 2) (b : List Byte) (w : Bool), s.ensOn = true ∧ s.flag (State.ringUp ring) = true ∧
      EnsToken.ofBytes b = none) ∧
    (∃ (s : State) (p : Port) (v : Word), s.accepts p ENS_CTL.reg.addr (some 4) ∧ s.ensLeads = true ∧ bit v.toNat 31 = true
      ∧ s.ens.stage = 1) ∧
    (∃ (s : State) (p : Port) (v : Word), s.accepts p ENS_CTL.reg.addr (some 4) ∧ s.ensLeads = true ∧ bit v.toNat 31 = true
      ∧ s.ens.stage ≠ 1) ∧
    (∃ (s : State), s.ens.stage = 1 ∧ s.ens.prepAt + 256000 ≤ s.time.clk) ∧
    (∃ (s : State), s.ringLost 0 false = false) ∧
    (∃ (s : State) (lock : Bool), s.ensLeads = true ∧ s.ensRing = 0 ∧ s.flag ENS_CTL.ring_auto = true ∧ s.ringLost 0 lock =
      true) ∧
    (∃ (s : State), (s.ensLeads = false ∨ s.time.clk < s.ens.sentAt + 25600)) ∧
    (∃ (s : State), (s.ensFollows = false ∨ s.ens.sentFp = some s.fingerprint)) ∧
    (∃ (s : State) (p : Port) (v : Word) (arm : Bool) (r : Nat) (c : Nat) (tick : Nat), s.accepts p ENS_TOKEN.reg.addr (some
      4) ∧ r = s.f ENS_ARM_RGN.reg &&& s.f ENS_SCOPE_RGN.reg ∧ c = s.f ENS_ARM_COND.reg &&& s.f ENS_SCOPE_COND.reg ∧ tick =
      (s.now.tick + max 2560 (s.f ENS_LEAD.reg)) % 2 ^ 64 ∧ (s.ensLeads = false ∨ s.flag ENS_TOKEN_STATUS.busy = true)) ∧
    (∃ (s : State) (ring : Fin 2) (b : List Byte) (w : Bool) (x : EnsToken), s.hears ring b x ∧ s.ensFollows = true ∧
      x.type_ = 1 ∧ x.origin = s.f ENS_CTL.id) ∧
    (∃ (s : State) (ring : Fin 2) (b : List Byte) (w : Bool) (x : EnsToken), s.hears ring b x ∧ s.ensFollows = true ∧
      x.type_ = 1 ∧ x.origin ≠ s.f ENS_CTL.id) ∧
    (∃ (s : State) (ring : Fin 2) (b : List Byte) (w : Bool) (x : EnsToken), s.hears ring b x ∧ s.ensFollows = true ∧
      x.type_ ≠ 1 ∧ (s.ensNew x.seq).1 = false) ∧
    (∃ (s : State) (ring : Fin 2) (b : List Byte) (w : Bool) (x : EnsToken), s.hears ring b x ∧ s.ensFollows = true ∧
      x.type_ ≠ 1 ∧ (s.ensNew x.seq).1 = true) ∧
    (∃ (s : State) (ring : Fin 2) (b : List Byte) (w : Bool) (x : EnsToken), s.hears ring b x ∧ s.ensFollows = true ∧
      (x.type_ = 3 ∨ x.type_ = 4) ∧ s.ensNew x.seq = (true, false) ∧ x.type_ = 3 ∧ s.flag ENS_STATUS.held = true) ∧
    (∃ (s : State) (ring : Fin 2) (b : List Byte) (w : Bool) (x : EnsToken), s.hears ring b x ∧ s.ensFollows = true ∧
      (x.type_ = 3 ∨ x.type_ = 4) ∧ s.ensNew x.seq = (true, false) ∧ (x.type_ = 4 ∨ s.flag ENS_STATUS.held = false) ∧
      s.now.tick < x.tick ∧ s.flag ENS_STATUS.in_ = false) ∧
    (∃ (s : State) (ring : Fin 2) (b : List Byte) (w : Bool) (x : EnsToken), s.hears ring b x ∧ s.ensFollows = true ∧
      (x.type_ = 3 ∨ x.type_ = 4) ∧ s.ensNew x.seq = (true, false) ∧ (x.type_ = 4 ∨ s.flag ENS_STATUS.held = false) ∧
      s.now.tick < x.tick ∧ s.flag ENS_STATUS.in_ = true) ∧
    (∃ (s : State) (ring : Fin 2) (b : List Byte) (w : Bool) (x : EnsToken), s.hears ring b x ∧ s.ensFollows = true ∧
      x.type_ = 8 ∧ s.ensNew x.seq = (true, true) ∧ s.flag ENS_STATUS.lagging = false) ∧
    (∃ (s : State) (ring : Fin 2) (b : List Byte) (w : Bool) (x : EnsToken), s.hears ring b x ∧ s.ensFollows = true ∧
      s.ensNew x.seq = (true, false) ∧ x.type_ = 2 ∧ bit (field x.payload 0 2) (s.f ENS_CTL.id) = true ∧ s.flag
      ENS_STATUS.held = false) ∧
    (∃ (s : State) (ring : Fin 2) (b : List Byte) (w : Bool) (x : EnsToken), s.hears ring b x ∧ s.ensFollows = true ∧
      s.ensNew x.seq = (true, false) ∧ x.type_ = 2 ∧ bit (field x.payload 0 2) (s.f ENS_CTL.id) = false) ∧
    (∃ (s : State) (ring : Fin 2) (b : List Byte) (w : Bool) (x : EnsToken), s.hears ring b x ∧ s.ensFollows = true ∧
      s.ensNew x.seq = (true, false) ∧ x.type_ = 5) ∧
    (∃ (s : State) (ring : Fin 2) (b : List Byte) (w : Bool) (x : EnsToken), s.hears ring b x ∧ s.ensFollows = true ∧
      s.ensNew x.seq = (true, false) ∧ x.type_ = 7 ∧ (s.flag ENS_STATUS.held = true ∨ s.ens.rejoin = false ∨ s.flag
      ENS_STATUS.in_ = false)) ∧
    (∃ (s : State) (ring : Fin 2) (b : List Byte) (w : Bool) (x : EnsToken), s.hears ring b x ∧ s.ensFollows = true ∧
      s.ensNew x.seq = (true, false) ∧ x.type_ = 7 ∧ s.flag ENS_STATUS.held = false ∧ s.ens.rejoin = true ∧ s.flag
      ENS_STATUS.in_ = true) ∧
    (∃ (s : State) (ring : Fin 2) (b : List Byte) (w : Bool) (x : EnsToken) (own : Int) (d : Int) (join : Bool), s.hears
      ring b x ∧ s.ensFollows = true ∧ s.ensNew x.seq = (true, false) ∧ x.type_ = 6 ∧ s.ens.edge = some own ∧ d = own -
      ((65536 * x.tick + field x.payload 0 2 : Nat) : Int) ∧ join = (s.ens.first || s.flag ENS_CTL.restep ||
      s.ens.prepRestep) ∧ join = true) ∧
    (∃ (s : State) (ring : Fin 2) (b : List Byte) (w : Bool) (x : EnsToken) (own : Int) (d : Int) (join : Bool), s.hears
      ring b x ∧ s.ensFollows = true ∧ s.ensNew x.seq = (true, false) ∧ x.type_ = 6 ∧ s.ens.edge = some own ∧ d = own -
      ((65536 * x.tick + field x.payload 0 2 : Nat) : Int) ∧ join = (s.ens.first || s.flag ENS_CTL.restep ||
      s.ens.prepRestep) ∧ join = false) ∧
    (∃ (s : State) (ring : Fin 2) (b : List Byte) (w : Bool) (x : EnsToken) (own : Int) (d : Int) (join : Bool), s.hears
      ring b x ∧ s.ensFollows = true ∧ s.ensNew x.seq = (true, false) ∧ x.type_ = 6 ∧ s.ens.edge = some own ∧ d = own -
      ((65536 * x.tick + field x.payload 0 2 : Nat) : Int) ∧ join = (s.ens.first || s.flag ENS_CTL.restep ||
      s.ens.prepRestep) ∧ s.flag ENS_STATUS.held = false) ∧
    (∃ (s : State) (ring : Fin 2) (b : List Byte) (w : Bool) (x : EnsToken) (m : Nat) (code : Nat), s.hears ring b x ∧
      s.ensLeads = true ∧ x.type_ = 1 ∧ m = x.origin % 16 ∧ code = (if w = true ∨ m = s.f ENS_CTL.id then 6 else
      State.fpCompare x.payload s.fingerprint)) ∧
    (∃ (s : State) (ring : Fin 2) (b : List Byte) (w : Bool) (x : EnsToken), s.hears ring b x ∧ s.ensLeads = true ∧ x.type_
      = 5 ∧ s.ens.stage = 1) ∧
    (∃ (s : State) (ring : Fin 2) (b : List Byte) (w : Bool) (x : EnsToken), s.hears ring b x ∧ s.ensLeads = true ∧ x.type_
      = 6 ∧ s.ens.stage = 3) ∧
    (∃ (s : State) (ring : Fin 2) (b : List Byte) (w : Bool) (x : EnsToken), s.hears ring b x ∧ s.ensLeads = true ∧ (x.type_
      = 5 ∧ s.ens.stage ≠ 1 ∨ x.type_ = 6 ∧ s.ens.stage ≠ 3)) ∧
    (∃ (s : State) (ack : BitVec 16), (s.ensLeads = false ∨ s.flag ENS_TOKEN_STATUS.busy = false)) ∧
    (∃ (s : State) (a : EnsApply), s.ens.applies = [a] ∧ a.what ≠ .state ∧ s.now.tick < a.tick) ∧
    (∃ (s : State) (a : EnsApply), s.ens.applies = [a] ∧ a.what ≠ .state ∧ a.tick ≤ s.now.tick ∧ a.rgn = 0) ∧
    (∃ (s : State) (a : EnsApply) (d : EnsApply) (c : Fin 64), (s.ens.applies = [a, d] ∨ s.ens.applies = [d, a]) ∧ a.what =
      .arm ∧ d.what = .disarm ∧ a.tick = d.tick ∧ a.tick ≤ s.now.tick ∧ bit d.cond c = false ∧ bit a.cond c = true) ∧
    (∃ (s : State) (a : EnsApply), s.ens.applies = [a] ∧ a.what = .state ∧ s.now.tick < a.tick) ∧
    (∃ (s : State) (a : EnsApply) (c : Fin 64), s.ens.applies = [a] ∧ a.what = .state ∧ a.tick ≤ s.now.tick ∧ bit a.cond c =
      false ∧ bit (s.f ENS_SCOPE_COND.reg) c = true) ∧
    (∃ (s : State), (s.ens.stage ≠ 1 ∨ s.time.clk < s.ens.prepAt + 256000)) ∧
    (∃ (s : State), s.ensOn = true ∧ s.ringQuiet 0 = true ∧ s.ringQuiet 1 = true ∧ s.flag ENS_STATUS.lagging = false) ∧
    (∃ (s : State) (ring : Fin 2), s.up .host = false) :=
  ⟨⟨w_ensembleTokensGoRoundAndApply_2, .a, (let s : State := w_ensembleTokensGoRoundAndApply_2; s.f ENS_ARM_RGN.reg &&&
      s.f ENS_SCOPE_RGN.reg), (let s : State := w_ensembleTokensGoRoundAndApply_2; s.f ENS_ARM_COND.reg &&& s.f
      ENS_SCOPE_COND.reg), (let s : State := w_ensembleTokensGoRoundAndApply_2; (s.now.tick + max 2560 (s.f
      ENS_LEAD.reg)) % 2 ^ 64), accepts_of (by decide +kernel) (by decide +kernel), by decide +kernel⟩,
    ⟨w_ensembleTokensGoRoundAndApply_5, (let s : State := w_ensembleTokensGoRoundAndApply_5; s.ens.members &&& (65535 - s.f
      ENS_MEMBERS.held) &&& (65535 - s.f ENS_LAGGING.lagging)), by decide +kernel⟩,
    ⟨live, by decide +kernel⟩,
    ⟨w_ensembleTokensGoRoundAndApply_12, by decide +kernel⟩,
    ⟨w_ensembleTokensGoRoundAndApply_14, by decide +kernel⟩,
    ⟨w_ensembleTokensGoRoundAndApply_16, 0, [], false, by decide +kernel⟩,
    ⟨w_ensembleTokensGoRoundAndApply_17, 0, ((tok 3 7 9).bytes).set 3 255, false, by decide +kernel⟩,
    ⟨w_ensembleTokensGoRoundAndApply_22, .a, 0x80000000, accepts_of (by decide +kernel) (by decide +kernel),
      by decide +kernel⟩,
    ⟨w_ensembleTokensGoRoundAndApply_23, .a, 0x80000000, accepts_of (by decide +kernel) (by decide +kernel),
      by decide +kernel⟩,
    ⟨w_ensembleTokensGoRoundAndApply_25, by decide +kernel⟩,
    ⟨w_ensembleTokensGoRoundAndApply_26, by decide +kernel⟩,
    ⟨w_ensembleTokensGoRoundAndApply_27, true, by decide +kernel⟩,
    ⟨w_ensembleTokensGoRoundAndApply_28, by decide +kernel⟩,
    ⟨w_ensembleTokensGoRoundAndApply_29, by decide +kernel⟩,
    ⟨w_ensembleTokensGoRoundAndApply_30, .a, 0, false, (w_ensembleTokensGoRoundAndApply_30.f ENS_ARM_RGN.reg &&&
      w_ensembleTokensGoRoundAndApply_30.f ENS_SCOPE_RGN.reg), (w_ensembleTokensGoRoundAndApply_30.f ENS_ARM_COND.reg &&&
      w_ensembleTokensGoRoundAndApply_30.f ENS_SCOPE_COND.reg), (w_ensembleTokensGoRoundAndApply_30.now.tick + max 2560
      (w_ensembleTokensGoRoundAndApply_30.f ENS_LEAD.reg)) % 2 ^ 64, accepts_of (by decide +kernel) (by decide +kernel),
      by decide +kernel⟩,
    ⟨w_ensembleTokensGoRoundAndApply_31, 0, (tok 1 7 0).bytes, false, tok 1 7 0, ⟨by decide +kernel, by decide +kernel⟩,
      by decide +kernel⟩,
    ⟨w_ensembleTokensGoRoundAndApply_32, 0, (tok 1 7 0).bytes, false, tok 1 7 0, ⟨by decide +kernel, by decide +kernel⟩,
      by decide +kernel⟩,
    ⟨w_ensembleTokensGoRoundAndApply_33, 0, (tok 3 6 0).bytes, false, tok 3 6 0, ⟨by decide +kernel, by decide +kernel⟩,
      by decide +kernel⟩,
    ⟨w_ensembleTokensGoRoundAndApply_34, 0, (tok 3 7 0).bytes, false, tok 3 7 0, ⟨by decide +kernel, by decide +kernel⟩,
      by decide +kernel⟩,
    ⟨w_ensembleTokensGoRoundAndApply_35, 0, (tok 3 7 (2 ^ 40)).bytes, false, tok 3 7 (2 ^ 40), ⟨by decide +kernel,
      by decide +kernel⟩, by decide +kernel⟩,
    ⟨w_ensembleTokensGoRoundAndApply_36, 0, (tok 4 7 (2 ^ 40)).bytes, false, tok 4 7 (2 ^ 40), ⟨by decide +kernel,
      by decide +kernel⟩, by decide +kernel⟩,
    ⟨w_ensembleTokensGoRoundAndApply_37, 0, (tok 3 7 (2 ^ 40)).bytes, false, tok 3 7 (2 ^ 40), ⟨by decide +kernel,
      by decide +kernel⟩, by decide +kernel⟩,
    ⟨w_ensembleTokensGoRoundAndApply_38, 0, (tok 8 9 0).bytes, false, tok 8 9 0, ⟨by decide +kernel, by decide +kernel⟩,
      by decide +kernel⟩,
    ⟨w_ensembleTokensGoRoundAndApply_39, 0, (tok 2 7 0).bytes, false, tok 2 7 0, ⟨by decide +kernel, by decide +kernel⟩,
      by decide +kernel⟩,
    ⟨w_ensembleTokensGoRoundAndApply_40, 0, (tok 2 7 0).bytes, false, tok 2 7 0, ⟨by decide +kernel, by decide +kernel⟩,
      by decide +kernel⟩,
    ⟨w_ensembleTokensGoRoundAndApply_41, 0, (tok 5 7 0).bytes, false, tok 5 7 0, ⟨by decide +kernel, by decide +kernel⟩,
      by decide +kernel⟩,
    ⟨w_ensembleTokensGoRoundAndApply_42, 0, (tok 7 7 0).bytes, false, tok 7 7 0, ⟨by decide +kernel, by decide +kernel⟩,
      by decide +kernel⟩,
    ⟨w_ensembleTokensGoRoundAndApply_43, 0, (tok 7 7 0).bytes, false, tok 7 7 0, ⟨by decide +kernel, by decide +kernel⟩,
      by decide +kernel⟩,
    ⟨w_ensembleTokensGoRoundAndApply_44, 0, (tok 6 7 100).bytes, false, tok 6 7 100, 6557000, (6557000 : Int) - ((65536 *
      (tok 6 7 100).tick + field (tok 6 7 100).payload 0 2 : Nat) : Int), true, ⟨by decide +kernel, by decide +kernel⟩,
      by decide +kernel⟩,
    ⟨w_ensembleTokensGoRoundAndApply_45, 0, (tok 6 7 100).bytes, false, tok 6 7 100, 6556000, (6556000 : Int) - ((65536 *
      (tok 6 7 100).tick + field (tok 6 7 100).payload 0 2 : Nat) : Int), false, ⟨by decide +kernel, by decide +kernel⟩,
      by decide +kernel⟩,
    ⟨w_ensembleTokensGoRoundAndApply_46, 0, (tok 6 7 100).bytes, false, tok 6 7 100, 6557000, (6557000 : Int) - ((65536 *
      (tok 6 7 100).tick + field (tok 6 7 100).payload 0 2 : Nat) : Int), (w_ensembleTokensGoRoundAndApply_46.ens.first ||
      w_ensembleTokensGoRoundAndApply_46.flag ENS_CTL.restep || w_ensembleTokensGoRoundAndApply_46.ens.prepRestep),
      ⟨by decide +kernel, by decide +kernel⟩, by decide +kernel⟩,
    ⟨w_ensembleTokensGoRoundAndApply_47, 0, (tok 1 7 0).bytes, false, tok 1 7 0, (tok 1 7 0).origin % 16, 1,
      ⟨by decide +kernel, by decide +kernel⟩, by decide +kernel⟩,
    ⟨w_ensembleTokensGoRoundAndApply_48, 0, (tok 5 7 0).bytes, false, tok 5 7 0, ⟨by decide +kernel, by decide +kernel⟩,
      by decide +kernel⟩,
    ⟨w_ensembleTokensGoRoundAndApply_49, 0, (tok 6 7 0).bytes, false, tok 6 7 0, ⟨by decide +kernel, by decide +kernel⟩,
      by decide +kernel⟩,
    ⟨w_ensembleTokensGoRoundAndApply_50, 0, (tok 6 7 0).bytes, false, tok 6 7 0, ⟨by decide +kernel, by decide +kernel⟩,
      by decide +kernel⟩,
    ⟨w_ensembleTokensGoRoundAndApply_51, 0, by decide +kernel⟩,
    ⟨w_ensembleTokensGoRoundAndApply_52, { what := .arm, rgn := 0, cond := 1, tick := 2 ^ 40 }, by decide +kernel⟩,
    ⟨w_ensembleTokensGoRoundAndApply_53, { what := .disarm, rgn := 0, cond := 1, tick := 5 }, by decide +kernel⟩,
    ⟨w_ensembleTokensGoRoundAndApply_54, { what := .arm, rgn := 0, cond := 3, tick := 5 },
      { what := .disarm, rgn := 0, cond := 1, tick := 5 }, 1, by decide +kernel⟩,
    ⟨w_ensembleTokensGoRoundAndApply_55, { what := .state, rgn := 0, cond := 1, tick := 2 ^ 40 }, by decide +kernel⟩,
    ⟨w_ensembleTokensGoRoundAndApply_56, { what := .state, rgn := 0, cond := 1, tick := 5 }, 1, by decide +kernel⟩,
    ⟨w_ensembleTokensGoRoundAndApply_57, by decide +kernel⟩,
    ⟨w_ensembleTokensGoRoundAndApply_58, by decide +kernel⟩,
    ⟨w_ensembleTokensGoRoundAndApply_59, 0, by decide +kernel⟩⟩

def w_wearIsMarkedServedAndLogged_0_0 : State :=
  let p : Port := .a
  live |>.setHolder 5 (some (.cp p))

def w_wearIsMarkedServedAndLogged_0_1 : State :=
  let p : Port := .a
  let s : State := live |>.setHolder 5 (some (.cp p))
  let s : State := s |>.set GLB_ID.reg GLB_ID.reg.rst |> fun s => (List.range 4).foldl (fun s q => s.set (State.modeLoc q) 8)
      s
  s |>.set PWR_STATUS.busy 1

def w_wearIsMarkedServedAndLogged_0_2 : State :=
  let p : Port := .a
  let s : State := live |>.setHolder 5 (some (.cp p))
  let s : State := s |>.set GLB_ID.reg GLB_ID.reg.rst |> fun s => (List.range 4).foldl (fun s q => s.set (State.modeLoc q) 8)
      s
  s |>.set PWR_STATUS.busy 0 |>.set WEAR_STATUS.repairing 0

def w_wearIsMarkedServedAndLogged_1 : State :=
  live |>.set (GLB_START.stage) (5)

def w_wearIsMarkedServedAndLogged_2 : State :=
  let s : State := live
  s |>.withWear fun x => { x with laneTraining := some 50 }

def w_wearIsMarkedServedAndLogged_3 : State :=
  let s : State := live |>.set (MEM_CFG.state 2) 4
  s |>.withWear fun y => { y with steerWait := [{ sub := 3, bitPos := 38, pos := 5, since := none }] }

def w_wearIsMarkedServedAndLogged_4 : State :=
  let s : State := live
  s |>.withWear fun y => { y with steer := some { sub := 15, bitPos := 38, pos := 5, since := some 7 } }

def w_wearIsMarkedServedAndLogged_5_0 : State :=
  let s : State := live
  s |>.withWear fun y =>
      { y with toWrite := [{ kind := 1, cause := 1, unit := 2, detail := 3, tick := 4, epoch := 0, boots := 1, number := 2 ^ 31 }], writeFails := 2 }

def w_wearIsMarkedServedAndLogged_5_1 : State :=
  let s : State := live
  let s : State := s |>.withWear fun y =>
      { y with toWrite := [{ kind := 1, cause := 1, unit := 2, detail := 3, tick := 4, epoch := 0, boots := 1, number := 2 ^ 31 }], writeFails := 2 }
  s |>.withWear fun y => { y with writeFails := 1 }

def w_wearIsMarkedServedAndLogged_5_2 : State :=
  let s : State := live
  s |>.withWear fun y =>
      { y with toWrite := [{ kind := 1, cause := 1, unit := 2, detail := 3, tick := 4, epoch := 0, boots := 1, number := 2 ^ 31 }], writeFails := 2 }

def w_wearIsMarkedServedAndLogged_7 : State :=
  live |>.set CHK_SCRUB.sdram_h 24

def w_wearIsMarkedServedAndLogged_8 : State :=
  let x : Steer := { sub := 15, bitPos := 38, pos := 5, since := none }
  w_wearIsMarkedServedAndLogged_4 |>.withWear (fun z => { z with steer := some x }) |>.set MEM_SUMMARY.capacity 1
    |>.withTime (fun z => { z with clk := 0 })

def w_wearIsMarkedServedAndLogged_10 : State :=
  w_wearIsMarkedServedAndLogged_0_0

def w_wearIsMarkedServedAndLogged_11 : State :=
  let n : Fin 64 := 0
  w_wearIsMarkedServedAndLogged_0_0 |>.set (KP_STATUS.running n) 1

def w_wearIsMarkedServedAndLogged_12 : State :=
  w_wearIsMarkedServedAndLogged_0_0

def w_wearIsMarkedServedAndLogged_13 : State :=
  let p : Port := .a
  w_wearIsMarkedServedAndLogged_0_0 |>.setHolder 5 (some (.cp p))

def w_wearIsMarkedServedAndLogged_14 : State :=
  w_wearIsMarkedServedAndLogged_0_0

def w_wearIsMarkedServedAndLogged_15 : State :=
  w_wearIsMarkedServedAndLogged_0_0

def w_wearIsMarkedServedAndLogged_16 : State :=
  w_wearIsMarkedServedAndLogged_0_0

def w_wearIsMarkedServedAndLogged_17 : State :=
  let x : Steer := { sub := 15, bitPos := 38, pos := 5, since := some 7 }
  w_wearIsMarkedServedAndLogged_3 |>.withWear (fun z => { z with steer := some x }) |>.set MEM_SUMMARY.capacity 0

def w_wearIsMarkedServedAndLogged_18 : State :=
  w_wearIsMarkedServedAndLogged_0_0

def w_wearIsMarkedServedAndLogged_19 : State :=
  w_wearIsMarkedServedAndLogged_0_0 |>.set CHK_SCRUB.sdram_h 0

def w_wearIsMarkedServedAndLogged_20 : State :=
  asleep

def w_wearIsMarkedServedAndLogged_21 : State :=
  w_wearIsMarkedServedAndLogged_11 |>.set (KP_STATUS.running 0) 0

def w_wearIsMarkedServedAndLogged_22 : State :=
  State.reset

def w_wearIsMarkedServedAndLogged_23 : State :=
  State.reset

def w_wearIsMarkedServedAndLogged_24 : State :=
  live |>.withWear (fun z => { z with laneTraining := none }) |>.set WEAR_SPARES.lanes 2

def w_wearIsMarkedServedAndLogged_25 : State :=
  w_wearIsMarkedServedAndLogged_0_0 |>.withWear (fun z => { z with laneMark := 1 })

theorem wit_wearIsMarkedServedAndLogged :
    (∃ (s : State) (p : Port) (v : Word), s.accepts p WEAR_CTL.reg.addr (some 5) ∧ bit v.toNat 31 = true ∧ s.inService =
      false) ∧
    (∃ (s : State) (p : Port) (v : Word), s.accepts p WEAR_CTL.reg.addr (some 5) ∧ bit v.toNat 31 = true ∧ s.inService = true
      ∧ (s.load.stage ≠ .idle ∨ s.flag PWR_STATUS.busy = true ∨ s.flag WEAR_STATUS.repairing = true)) ∧
    (∃ (s : State) (p : Port) (v : Word), s.accepts p WEAR_CTL.reg.addr (some 5) ∧ bit v.toNat 31 = true ∧ s.inService = true
      ∧ s.load.stage = .idle ∧ s.flag PWR_STATUS.busy = false ∧ s.flag WEAR_STATUS.repairing = false) ∧
    (∃ (s : State), s.f GLB_START.stage = 5) ∧
    (∃ (s : State) (spare : Fin 52) (l : Nat), s.wear.laneTraining = some l ∧ 48 ≤ spare.val ∧ l < 52 ∧ (∀ x < 52, Tab.get 0
      s.wear.laneMap x ≠ spare.val + 1) ∧ bit s.wear.laneMark spare = false ∧ s.up .conv = true) ∧
    (∃ (s : State) (x : Steer) (xs : List Steer), s.wear.steer = none ∧ s.wear.steerWait = x :: xs ∧ s.up .memory = true ∧
      s.memChannels ≠ []) ∧
    (∃ (s : State) (e : LedgerEntry) (es : List LedgerEntry), s.wear.toWrite = e :: es ∧ s.storeBusy = false ∧ s.up .host =
      true ∧ s.wear.ledger.length < 49152) ∧
    (∃ (s : State) (e : LedgerEntry) (es : List LedgerEntry), s.wear.toWrite = e :: es ∧ s.storeBusy = false ∧ s.up .host =
      true ∧ s.wear.writeFails < 2) ∧
    (∃ (s : State) (e : LedgerEntry) (es : List LedgerEntry), s.wear.toWrite = e :: es ∧ s.storeBusy = false ∧ s.up .host =
      true ∧ 2 ≤ s.wear.writeFails) ∧
    (∃ (s : State), s.up .memory = true ∧ s.f CHK_SCRUB.sdram_h ≠ 0) ∧
    (∃ (s : State) (lane : Fin 52), s.up .conv = true ∧ bit s.wear.laneMark lane = false) ∧
    (∃ (s : State) (x : Steer), s.wear.steer = some x ∧ s.steerAt x < s.subBytes) ∧
    (∃ (s : State) (k : Fin 1088) (row : Nat), s.up .fabric = true) ∧
    (∃ (s : State) (n : Fin 64) (word : Fin 24576), s.up .kp = true ∧ s.kpUsable n = true ∧ s.kpRunning n = true) ∧
    (∃ (s : State) (cls : Fin 3) (unit : Fin 8) (addr : Nat), s.scrubUp cls = true) ∧
    (∃ (s : State) (p : Port) (v : Word) (b : Bool), s.accepts p WEAR_CTL.reg.addr (some 5) ∧ bit v.toNat 31 = false) ∧
    (∃ (s : State), s.f GLB_START.stage ≠ 5) ∧
    (∃ (s : State) (spare : Fin 52), (s.wear.laneTraining = none ∨ spare.val < 48 ∨ bit s.wear.laneMark spare = true ∨ s.up
      .conv = false)) ∧
    (∃ (s : State), (s.wear.steer ≠ none ∨ s.wear.steerWait = [] ∨ s.up .memory = false)) ∧
    (∃ (s : State) (x : Steer), s.wear.steer = some x ∧ x.since ≠ none ∧ x.sub < 16 ∧ x.bitPos < 64 ∧ s.subBytes ≤ s.steerAt
      x ∧ s.up .memory = true) ∧
    (∃ (s : State) (b : Bool), (s.wear.toWrite = [] ∨ s.storeBusy = true ∨ s.up .host = false)) ∧
    (∃ (s : State) (sub : Fin 16) (k : Fin 39) (addr : Nat), (s.up .memory = false ∨ s.f CHK_SCRUB.sdram_h = 0)) ∧
    (∃ (s : State) (k : Fin 1088) (row : Nat), s.up .fabric = false) ∧
    (∃ (s : State) (n : Fin 64) (word : Fin 24576), s.up .kp = true ∧ s.kpUsable n = true ∧ s.kpRunning n = false) ∧
    (∃ (s : State) (n : Fin 64) (word : Fin 24576), (s.up .kp = false ∨ s.kpUsable n = false)) ∧
    (∃ (s : State) (cls : Fin 3) (unit : Fin 8) (addr : Nat), s.scrubUp cls = false) ∧
    (∃ (s : State) (lane : Fin 52), s.up .conv = true ∧ bit s.wear.laneMark lane = false ∧ s.wear.laneTraining = none ∧ 0 <
      s.f WEAR_SPARES.lanes) ∧
    (∃ (s : State) (lane : Fin 52), (s.up .conv = false ∨ bit s.wear.laneMark lane = true)) :=
  ⟨⟨w_wearIsMarkedServedAndLogged_0_0, .a, 0x80000000, accepts_of (by decide +kernel) (by decide +kernel),
      by decide +kernel⟩,
    ⟨w_wearIsMarkedServedAndLogged_0_1, .a, 0x80000000, accepts_of (by decide +kernel) (by decide +kernel),
      by decide +kernel⟩,
    ⟨w_wearIsMarkedServedAndLogged_0_2, .a, 0x80000000, accepts_of (by decide +kernel) (by decide +kernel),
      by decide +kernel⟩,
    ⟨w_wearIsMarkedServedAndLogged_1, by decide +kernel⟩,
    ⟨w_wearIsMarkedServedAndLogged_2, 51, 50, by decide +kernel⟩,
    ⟨w_wearIsMarkedServedAndLogged_3, { sub := 3, bitPos := 38, pos := 5, since := none }, [], by decide +kernel⟩,
    ⟨w_wearIsMarkedServedAndLogged_5_0,
      { kind := 1, cause := 1, unit := 2, detail := 3, tick := 4, epoch := 0, boots := 1, number := 2 ^ 31 }, [],
      by decide +kernel⟩,
    ⟨w_wearIsMarkedServedAndLogged_5_1,
      { kind := 1, cause := 1, unit := 2, detail := 3, tick := 4, epoch := 0, boots := 1, number := 2 ^ 31 }, [],
      by decide +kernel⟩,
    ⟨w_wearIsMarkedServedAndLogged_5_2,
      { kind := 1, cause := 1, unit := 2, detail := 3, tick := 4, epoch := 0, boots := 1, number := 2 ^ 31 }, [],
      by decide +kernel⟩,
    ⟨w_wearIsMarkedServedAndLogged_7, by decide +kernel⟩,
    ⟨live, 0, by decide +kernel⟩,
    ⟨w_wearIsMarkedServedAndLogged_8, { sub := 15, bitPos := 38, pos := 5, since := none }, by decide +kernel⟩,
    ⟨w_wearIsMarkedServedAndLogged_10, 0, 0, by decide +kernel⟩,
    ⟨w_wearIsMarkedServedAndLogged_11, 0, 0, by decide +kernel⟩,
    ⟨w_wearIsMarkedServedAndLogged_12, 0, 0, 0, by decide +kernel⟩,
    ⟨w_wearIsMarkedServedAndLogged_13, .a, 5, false, accepts_of (by decide +kernel) (by decide +kernel), by decide +kernel⟩,
    ⟨w_wearIsMarkedServedAndLogged_14, by decide +kernel⟩,
    ⟨w_wearIsMarkedServedAndLogged_15, 0, by decide +kernel⟩,
    ⟨w_wearIsMarkedServedAndLogged_16, by decide +kernel⟩,
    ⟨w_wearIsMarkedServedAndLogged_17, { sub := 15, bitPos := 38, pos := 5, since := some 7 }, by decide +kernel⟩,
    ⟨w_wearIsMarkedServedAndLogged_18, false, by decide +kernel⟩,
    ⟨w_wearIsMarkedServedAndLogged_19, 0, 0, 0, by decide +kernel⟩,
    ⟨w_wearIsMarkedServedAndLogged_20, 0, 0, by decide +kernel⟩,
    ⟨w_wearIsMarkedServedAndLogged_21, 0, 0, by decide +kernel⟩,
    ⟨w_wearIsMarkedServedAndLogged_22, 0, 0, by decide +kernel⟩,
    ⟨w_wearIsMarkedServedAndLogged_23, 0, 0, 0, by decide +kernel⟩,
    ⟨w_wearIsMarkedServedAndLogged_24, 0, by decide +kernel⟩,
    ⟨w_wearIsMarkedServedAndLogged_25, 0, by decide +kernel⟩⟩

def w_resetsStopAndReleaseTheEngine_0_0 : State :=
  let s : State := live |>.set PWR_STATE.state 2
  s |>.withStart fun x => { x with porstLow := false, railsLow := 0 }

def w_resetsStopAndReleaseTheEngine_0_1 : State :=
  let s : State := live |>.set PWR_STATE.state 2
  s |>.withStart fun x => { x with porstLow := false, railsLow := 0 }

def w_resetsStopAndReleaseTheEngine_0_2 : State :=
  let s : State := live |>.set PWR_STATE.state 2
  s |>.withStart fun x => { x with porstLow := false, railsLow := 0 }

def w_resetsStopAndReleaseTheEngine_1 : State :=
  let s : State := live
  s |>.withStart fun x => { x with began := true, held := true, railsLow := 3 }

def w_resetsStopAndReleaseTheEngine_3 : State :=
  let s : State := live
  let s : State := s |>.withAvs fun x => { x with hotReads := [(1, 2)] }
  let s : State := s |>.withStart fun x => { x with began := true }
  s |>.set PWR_STATE.state 2

def w_resetsStopAndReleaseTheEngine_5 : State :=
  let s : State := live
  s |>.withStart fun x => { x with porstLow := true }

def w_resetsStopAndReleaseTheEngine_6 : State :=
  let s : State := live
  let s : State := s |>.withStart fun x => { x with began := true }
  s |>.set PWR_STATE.state 3

def w_resetsStopAndReleaseTheEngine_8_0 : State :=
  let p : Port := .a
  live |>.setHolder 0 (some (.cp p))

def w_resetsStopAndReleaseTheEngine_8_1 : State :=
  let p : Port := .a
  live |>.setHolder 0 (some (.cp p))

def w_resetsStopAndReleaseTheEngine_9 : State :=
  w_resetsStopAndReleaseTheEngine_0_0 |>.withStart (fun z => { z with porstLow := true })

def w_resetsStopAndReleaseTheEngine_10 : State :=
  w_resetsStopAndReleaseTheEngine_0_0 |>.withStart (fun z => { z with porstLow := false })

def w_resetsStopAndReleaseTheEngine_11 : State :=
  w_resetsStopAndReleaseTheEngine_1 |>.withStart (fun z => { z with began := true }) |>.withStart
    (fun z => { z with held := false })

def w_resetsStopAndReleaseTheEngine_12 : State :=
  w_resetsStopAndReleaseTheEngine_0_0 |>.withStart (fun z => { z with began := false }) |>.withStart
    (fun z => { z with porstLow := false }) |>.withStart (fun z => { z with therm := 0 })

def w_resetsStopAndReleaseTheEngine_13 : State :=
  State.reset

def w_resetsStopAndReleaseTheEngine_14 : State :=
  w_resetsStopAndReleaseTheEngine_0_0

def w_resetsStopAndReleaseTheEngine_15 : State :=
  w_resetsStopAndReleaseTheEngine_3 |>.withStart (fun z => { z with therm := 0 })

def w_resetsStopAndReleaseTheEngine_16 : State :=
  w_resetsStopAndReleaseTheEngine_5 |>.withStart (fun z => { z with porstLow := true }) |>.withStart
    (fun z => { z with began := false })

def w_resetsStopAndReleaseTheEngine_17 : State :=
  w_resetsStopAndReleaseTheEngine_5 |>.withStart (fun z => { z with porstLow := true }) |>.withStart
    (fun z => { z with railsLow := 1 })

def w_resetsStopAndReleaseTheEngine_18 : State :=
  w_resetsStopAndReleaseTheEngine_0_0

def w_resetsStopAndReleaseTheEngine_19 : State :=
  w_resetsStopAndReleaseTheEngine_6 |>.withStart (fun z => { z with began := true }) |>.withFuse
    (fun z => { z with running := some { op := 1, arg := 2, hash := [] } })

def w_resetsStopAndReleaseTheEngine_20 : State :=
  w_resetsStopAndReleaseTheEngine_1 |>.withStart (fun z => { z with due := none }) |>.withStart
    (fun z => { z with held := true }) |>.withStart (fun z => { z with railsLow := 0 })

def w_resetsStopAndReleaseTheEngine_21 : State :=
  w_resetsStopAndReleaseTheEngine_1 |>.withStart (fun z => { z with due := none }) |>.withStart
    (fun z => { z with began := true }) |>.withStart (fun z => { z with cool := false }) |>.withStart
    (fun z => { z with therm := 1, cool := false })

def w_resetsStopAndReleaseTheEngine_22 : State :=
  let p : Port := .a
  w_resetsStopAndReleaseTheEngine_8_0 |>.setHolder 0 (some (.cp p)) |>.withFuse (fun z => { z with running := none })
    |>.withStart (fun z => { z with sysLow := false }) |>.withStart (fun z => { z with railsLow := 0 }) |>.withStart
    (fun z => { z with therm := 0 })

def w_resetsStopAndReleaseTheEngine_23 : State :=
  let p : Port := .a
  w_resetsStopAndReleaseTheEngine_8_0 |>.setHolder 0 (some (.cp p)) |>.withFuse
    (fun z => { z with running := some { op := 1, arg := 2, hash := [] } })

def w_resetsStopAndReleaseTheEngine_24 : State :=
  let p : Port := .a
  w_resetsStopAndReleaseTheEngine_8_0 |>.setHolder 0 (some (.cp p))

theorem wit_resetsStopAndReleaseTheEngine :
    (∃ (s : State) (k : Fin 10), s.start.porstLow = false ∧ s.f PWR_STATE.state ≠ 4 ∧ k ≠ 0 ∧ k ≠ 3) ∧
    (∃ (s : State) (k : Fin 10), s.start.porstLow = false ∧ s.f PWR_STATE.state ≠ 4 ∧ k = 0) ∧
    (∃ (s : State) (k : Fin 10), s.start.porstLow = false ∧ s.f PWR_STATE.state ≠ 4 ∧ k = 3 ∧ s.fcd.vhkLow = false) ∧
    (∃ (s : State), (s.start.began = true) ∧ (s.start.held = true) ∧ (s.start.sysLow = false) ∧ (s.start.therm = 0)) ∧
    (∃ (s : State), s.up .host = true) ∧
    (∃ (s : State) (temps : List Int), temps ≠ [] ∧ s.f PWR_STATE.state < 3 ∧ ((∃ k x, (temps.take 32)[k]? = some x ∧ 160 ≤ x
      ∧ 2 ≤ Tab.get 0 s.avs.hotReads k)) ∧ (s.start.therm = 0) ∧ (s.start.began = true) ∧ (s.fuse.running = none)) ∧
    (∃ (s : State), s.start.porstLow = true ∧ s.start.began = false ∧ s.start.railsLow = 0 ∧ s.start.therm = 0) ∧
    (∃ (s : State), s.start.began = true ∧ s.f PWR_STATE.state ≠ 4 ∧ s.fuse.running = none) ∧
    (∃ (s : State) (p : Port) (v : Word), s.accepts p GLB_RST.reg.addr (some 0) ∧ bits v.toNat 16 16 = 0xA55E ∧ bit v.toNat 0
      = true ∧ s.fuse.running = none) ∧
    (∃ (s : State) (p : Port) (v : Word), s.accepts p GLB_RST.reg.addr (some 0) ∧ bits v.toNat 16 16 ≠ 0xA55E) ∧
    (∃ (s : State) (k : Fin 10), (s.start.porstLow = true ∨ s.f PWR_STATE.state = 4)) ∧
    (∃ (s : State) (k : Fin 10), s.start.porstLow = false ∧ s.f PWR_STATE.state ≠ 4 ∧ k ≠ 0 ∧ k ≠ 3 ∧ k = 9) ∧
    (∃ (s : State), s.start.began = true ∧ s.start.held = false) ∧
    (∃ (s : State), s.start.began = false ∧ s.f PWR_STATE.state ≠ 4 ∧ s.start.porstLow = false ∧ s.start.therm = 0) ∧
    (∃ (s : State) (b : Bool), s.up .host = false) ∧
    (∃ (s : State) (temps : List Int), (temps = [] ∨ 3 ≤ s.f PWR_STATE.state)) ∧
    (∃ (s : State) (temps : List Int), temps ≠ [] ∧ s.f PWR_STATE.state < 3 ∧ (∀ x ∈ temps, x < 160) ∧ s.up .host = true ∧
      s.start.therm = 0 ∧ ((max 100 (min 150 (s.f GLB_THERM.warn_c)) : Nat) : Int) ≤ State.hottestOf (temps.take 32)) ∧
    (∃ (s : State) (b : Bool) (m : Fin 4), s.start.porstLow = true ∧ s.start.began = false ∧ bit s.start.railsLow 0 = false
      ∧ (s.start.therm = 0 ∨ s.start.cool = true)) ∧
    (∃ (s : State) (b : Bool) (m : Fin 4), s.start.porstLow = true ∧ (bit s.start.railsLow 0 = true ∨ s.start.therm ≠ 0 ∧
      s.start.cool = false)) ∧
    (∃ (s : State), (s.start.began = false ∨ s.f PWR_STATE.state = 4)) ∧
    (∃ (s : State), s.start.began = true ∧ s.f PWR_STATE.state ≠ 4 ∧ s.fuse.running ≠ none) ∧
    (∃ (s : State), s.start.due = none ∧ (s.start.therm = 0 ∨ s.start.began = true ∧ s.start.cool = true) ∧ s.start.held =
      true ∧ s.start.railsLow = 0) ∧
    (∃ (s : State), s.start.due = none ∧ s.start.therm ≠ 0 ∧ s.start.began = true ∧ s.start.cool = false) ∧
    (∃ (s : State) (p : Port) (v : Word), s.accepts p GLB_RST.reg.addr (some 0) ∧ bits v.toNat 16 16 = 0xA55E ∧ bit v.toNat
      0 = true ∧ s.fuse.running = none ∧ s.start.sysLow = false ∧ s.start.railsLow = 0 ∧ s.start.therm = 0) ∧
    (∃ (s : State) (p : Port) (v : Word), s.accepts p GLB_RST.reg.addr (some 0) ∧ bits v.toNat 16 16 = 0xA55E ∧ bit v.toNat
      0 = true ∧ s.fuse.running ≠ none) ∧
    (∃ (s : State) (p : Port) (v : Word), s.accepts p GLB_RST.reg.addr (some 0) ∧ bits v.toNat 16 16 = 0xA55E ∧ bit v.toNat
      0 = false) :=
  ⟨⟨w_resetsStopAndReleaseTheEngine_0_0, 9, by decide +kernel⟩,
    ⟨w_resetsStopAndReleaseTheEngine_0_1, 0, by decide +kernel⟩,
    ⟨w_resetsStopAndReleaseTheEngine_0_2, 3, by decide +kernel⟩,
    ⟨w_resetsStopAndReleaseTheEngine_1, by decide +kernel⟩,
    ⟨live, by decide +kernel⟩,
    ⟨w_resetsStopAndReleaseTheEngine_3, [20, 160, 3], by decide +kernel, by decide +kernel, ⟨1, 160, by decide +kernel⟩,
      by decide +kernel⟩,
    ⟨w_resetsStopAndReleaseTheEngine_5, by decide +kernel⟩,
    ⟨w_resetsStopAndReleaseTheEngine_6, by decide +kernel⟩,
    ⟨w_resetsStopAndReleaseTheEngine_8_0, .a, 0xA55E0001, accepts_of (by decide +kernel) (by decide +kernel),
      by decide +kernel⟩,
    ⟨w_resetsStopAndReleaseTheEngine_8_1, .a, 1, accepts_of (by decide +kernel) (by decide +kernel), by decide +kernel⟩,
    ⟨w_resetsStopAndReleaseTheEngine_9, 9, by decide +kernel⟩,
    ⟨w_resetsStopAndReleaseTheEngine_10, 9, by decide +kernel⟩,
    ⟨w_resetsStopAndReleaseTheEngine_11, by decide +kernel⟩,
    ⟨w_resetsStopAndReleaseTheEngine_12, by decide +kernel⟩,
    ⟨w_resetsStopAndReleaseTheEngine_13, false, by decide +kernel⟩,
    ⟨w_resetsStopAndReleaseTheEngine_14, [], by decide +kernel⟩,
    ⟨w_resetsStopAndReleaseTheEngine_15, [20, 150, 3], by decide +kernel⟩,
    ⟨w_resetsStopAndReleaseTheEngine_16, false, 0, by decide +kernel⟩,
    ⟨w_resetsStopAndReleaseTheEngine_17, false, 0, by decide +kernel⟩,
    ⟨w_resetsStopAndReleaseTheEngine_18, by decide +kernel⟩,
    ⟨w_resetsStopAndReleaseTheEngine_19, by decide +kernel⟩,
    ⟨w_resetsStopAndReleaseTheEngine_20, by decide +kernel⟩,
    ⟨w_resetsStopAndReleaseTheEngine_21, by decide +kernel⟩,
    ⟨w_resetsStopAndReleaseTheEngine_22, .a, 0xA55E0001, accepts_of (by decide +kernel) (by decide +kernel),
      by decide +kernel⟩,
    ⟨w_resetsStopAndReleaseTheEngine_23, .a, 0xA55E0001, accepts_of (by decide +kernel) (by decide +kernel),
      by decide +kernel⟩,
    ⟨w_resetsStopAndReleaseTheEngine_24, .a, 0xA55E0000, accepts_of (by decide +kernel) (by decide +kernel),
      by decide +kernel⟩⟩

def w_startUpRunsItsStages_0 : State :=
  let s : State := live
  let s : State := s |> fun s => { s with dom := { s.dom with host := .off } }
  let s : State := s |>.set (PWR_STATE.state) (0)
  let s : State := s |>.withStart fun x => { x with began := true }
  s |> fun s => { s with dom := State.reset.dom }

def w_startUpRunsItsStages_1_0 : State :=
  let s : State := live |>.set (GLB_START.stage) (4)
  s |>.withCal fun y => { y with factoryBad := true }

def w_startUpRunsItsStages_1_1 : State :=
  let s : State := live |>.set (GLB_START.stage) (4)
  s |>.withCal fun y => { y with factoryBad := false }

def w_startUpRunsItsStages_2 : State :=
  let s : State := live |>.set (GLB_START.mem_ready) 0 |>.set (GLB_START.store_fault) 0
  s |>.withStart fun x => { x with memKept := true }

def w_startUpRunsItsStages_2_90 : State :=
  let s : State := live |>.set (GLB_START.mem_ready) 0 |>.set (GLB_START.store_fault) 0
  let s : State := s |>.withStart fun x => { x with memKept := true }
  s |>.withStart fun x => { x with memKept := false }

def w_startUpRunsItsStages_3 : State :=
  let s : State := live
  let s : State := s |>.withStart fun x => { x with memInit := true }
  s |>.memWrite 100 [1, 2]

def w_startUpRunsItsStages_4 : State :=
  live |>.set (GLB_START.stage) (8) |>.set (GLB_START.mem_ready) 1 |>.set (GLB_START.cdc_ready) 1 |>.set (GLB_START.done) 0

def w_startUpRunsItsStages_5_0 : State :=
  let s : State := live
  s |>.withAvs fun x => { x with running := some (750, 3) }

def w_startUpRunsItsStages_5_1 : State :=
  let s : State := live
  s |>.withAvs fun x => { x with running := some (750, 3) }

def w_startUpRunsItsStages_5_2 : State :=
  let s : State := live
  let s : State := s |>.withAvs fun x => { x with running := some (750, 3) }
  s |>.withAvs fun x => { x with running := some (750, 4) }

def w_startUpRunsItsStages_7_0 : State :=
  let p : Port := .a
  live |>.setHolder 14 (some (.cp p))

def w_startUpRunsItsStages_7_1 : State :=
  let p : Port := .a
  live |>.setHolder 14 (some (.cp p))

def w_startUpRunsItsStages_8 : State :=
  let mv : Nat := 750
  let n : Nat := 3
  w_startUpRunsItsStages_5_0 |>.withAvs (fun z => { z with running := some (mv, n) }) |>.withTime
    (fun z => { z with clk := 10 ^ 13 }) |>.withAvs (fun z => { z with queued := none })

def w_startUpRunsItsStages_9 : State :=
  let mv : Nat := 750
  let n : Nat := 3
  w_startUpRunsItsStages_5_1 |>.withAvs (fun z => { z with running := some (mv, n) }) |>.withTime
    (fun z => { z with clk := 10 ^ 13 })

def w_startUpRunsItsStages_10 : State :=
  let mv : Nat := 750
  let n : Nat := 4
  w_startUpRunsItsStages_5_2 |>.withAvs (fun z => { z with running := some (mv, n) }) |>.withTime
    (fun z => { z with clk := 10 ^ 13 })

def w_startUpRunsItsStages_12 : State :=
  live

def w_startUpRunsItsStages_13 : State :=
  w_startUpRunsItsStages_0

def w_startUpRunsItsStages_14 : State :=
  w_startUpRunsItsStages_1_1 |>.set GLB_START.stage 4 |>.withCal (fun z => { z with factoryBad := false }) |>.withStart
    (fun z => { z with bootSel := true })

def w_startUpRunsItsStages_15 : State :=
  w_startUpRunsItsStages_0

def w_startUpRunsItsStages_16 : State :=
  w_startUpRunsItsStages_0

def w_startUpRunsItsStages_17 : State :=
  w_startUpRunsItsStages_0

def w_startUpRunsItsStages_18 : State :=
  let mv : Nat := 750
  let n : Nat := 3
  w_startUpRunsItsStages_8 |>.withAvs (fun z => { z with running := some (mv, n) }) |>.withTime
    (fun z => { z with clk := 10 ^ 13 })

def w_startUpRunsItsStages_19 : State :=
  let mv : Nat := 750
  let n : Nat := 3
  w_startUpRunsItsStages_9 |>.withAvs (fun z => { z with running := some (mv, n) }) |>.withTime
    (fun z => { z with clk := 10 ^ 13 })

def w_startUpRunsItsStages_20 : State :=
  let mv : Nat := 750
  let n : Nat := 4
  w_startUpRunsItsStages_10 |>.withAvs (fun z => { z with running := some (mv, n) }) |>.withTime
    (fun z => { z with clk := 10 ^ 13 })

def w_startUpRunsItsStages_21 : State :=
  let p : Port := .a
  w_startUpRunsItsStages_7_1 |>.setHolder 14 (some (.cp p))

def w_startUpRunsItsStages_22 : State :=
  let p : Port := .a
  w_startUpRunsItsStages_7_1 |>.setHolder 14 (some (.cp p)) |>.set GLB_AVS_STATUS.fail 0

theorem wit_startUpRunsItsStages :
    (∃ (s : State), s.start.began = true ∧ s.start.held = false ∧ s.start.therm = 0 ∧ s.up .host = false ∧ s.f
      PWR_STATE.state = 0) ∧
    (∃ (s : State), s.f GLB_START.stage = 4 ∧ s.cal.factoryBad = true) ∧
    (∃ (s : State), s.f GLB_START.stage = 4 ∧ s.cal.factoryBad = false) ∧
    (∃ (s : State), s.up .host = true ∧ s.flag GLB_START.mem_ready = false ∧ s.start.memInit = false ∧ s.flag
      GLB_START.store_fault = false ∧ (s.start.memKept = true)) ∧
    (∃ (s : State), s.up .host = true ∧ s.flag GLB_START.mem_ready = false ∧ s.start.memInit = false ∧ s.flag
      GLB_START.store_fault = false ∧ (s.start.memKept = false)) ∧
    (∃ (s : State), s.start.memInit = true) ∧
    (∃ (s : State), s.f GLB_START.stage = 8 ∧ s.flag GLB_START.mem_ready = true ∧ s.flag GLB_START.cdc_ready = true ∧ s.flag
      GLB_START.done = false ∧ s.pwr.trans = none) ∧
    (∃ (s : State), s.up .host = true) ∧
    (∃ (s : State) (p : Port) (v : Word), s.accepts p GLB_AVS_MAN.reg.addr (some 14) ∧ (v.toNat % 65536 < 720 ∨ 850 < v.toNat
      % 65536)) ∧
    (∃ (s : State) (p : Port) (v : Word), s.accepts p GLB_AVS_MAN.reg.addr (some 14) ∧ 720 ≤ v.toNat % 65536 ∧ v.toNat %
      65536 ≤ 850) ∧
    (∃ (s : State) (mv : Nat) (n : Nat) (rd : BitVec 16) (st : Byte), s.avs.running = some (mv, n) ∧ s.avs.wroteAt + 2560 *
      max 1 (s.f GLB_AVS_CTL.settle_us) ≤ s.time.clk ∧ rd.toNat ≤ mv + 10 ∧ mv ≤ rd.toNat + 10 ∧ s.avs.queued = none) ∧
    (∃ (s : State) (mv : Nat) (n : Nat) (rd : BitVec 16) (st : Byte), s.avs.running = some (mv, n) ∧ s.avs.wroteAt + 2560 *
      max 1 (s.f GLB_AVS_CTL.settle_us) ≤ s.time.clk ∧ n < 4) ∧
    (∃ (s : State) (mv : Nat) (n : Nat) (rd : BitVec 16) (st : Byte), s.avs.running = some (mv, n) ∧ s.avs.wroteAt + 2560 *
      max 1 (s.f GLB_AVS_CTL.settle_us) ≤ s.time.clk ∧ 4 ≤ n) ∧
    (∃ (s : State) (m : Bool), (s.start.began = false ∨ s.start.held = true ∨ s.start.therm ≠ 0 ∨ s.up .host = true ∨ s.f
      PWR_STATE.state ≠ 0)) ∧
    (∃ (s : State), s.f GLB_START.stage ≠ 4) ∧
    (∃ (s : State), s.f GLB_START.stage = 4 ∧ s.cal.factoryBad = false ∧ s.start.bootSel = true) ∧
    (∃ (s : State) (chans : List MemTrain), (s.up .host = false ∨ s.flag GLB_START.mem_ready = true ∨ s.start.memInit = true
      ∨ s.flag GLB_START.store_fault = true)) ∧
    (∃ (s : State), (s.f GLB_START.stage ≠ 8 ∨ s.flag GLB_START.mem_ready = false ∨ s.flag GLB_START.cdc_ready = false ∨
      s.flag GLB_START.done = true ∨ s.pwr.trans ≠ none)) ∧
    (∃ (s : State) (good : Bool) (rd : BitVec 16) (st : Byte), (s.avs.running = none ∨ s.time.clk < s.avs.wroteAt + 2560 *
      max 1 (s.f GLB_AVS_CTL.settle_us))) ∧
    (∃ (s : State) (mv : Nat) (n : Nat) (good : Bool) (rd : BitVec 16) (st : Byte), s.avs.running = some (mv, n) ∧
      s.avs.wroteAt + 2560 * max 1 (s.f GLB_AVS_CTL.settle_us) ≤ s.time.clk ∧ good = true ∧ rd.toNat ≤ mv + 10 ∧ mv ≤
      rd.toNat + 10) ∧
    (∃ (s : State) (mv : Nat) (n : Nat) (good : Bool) (rd : BitVec 16) (st : Byte), s.avs.running = some (mv, n) ∧
      s.avs.wroteAt + 2560 * max 1 (s.f GLB_AVS_CTL.settle_us) ≤ s.time.clk ∧ (good = false ∨ mv + 10 < rd.toNat ∨ rd.toNat
      + 10 < mv) ∧ n < 4) ∧
    (∃ (s : State) (mv : Nat) (n : Nat) (good : Bool) (rd : BitVec 16) (st : Byte), s.avs.running = some (mv, n) ∧
      s.avs.wroteAt + 2560 * max 1 (s.f GLB_AVS_CTL.settle_us) ≤ s.time.clk ∧ (good = false ∨ mv + 10 < rd.toNat ∨ rd.toNat
      + 10 < mv) ∧ 4 ≤ n) ∧
    (∃ (s : State) (p : Port) (v : Word), s.accepts p GLB_AVS_MAN.reg.addr (some 14) ∧ 720 ≤ v.toNat % 65536 ∧ v.toNat %
      65536 ≤ 850 ∧ (bit v.toNat 31 = false ∨ s.flag GLB_AVS_STATUS.fail = true)) ∧
    (∃ (s : State) (p : Port) (v : Word), s.accepts p GLB_AVS_MAN.reg.addr (some 14) ∧ 720 ≤ v.toNat % 65536 ∧ v.toNat %
      65536 ≤ 850 ∧ bit v.toNat 31 = true ∧ s.flag GLB_AVS_STATUS.fail = false) :=
  ⟨⟨w_startUpRunsItsStages_0, by decide +kernel⟩,
    ⟨w_startUpRunsItsStages_1_0, by decide +kernel⟩,
    ⟨w_startUpRunsItsStages_1_1, by decide +kernel⟩,
    ⟨w_startUpRunsItsStages_2, by decide +kernel⟩,
    ⟨w_startUpRunsItsStages_2_90, by decide +kernel⟩,
    ⟨w_startUpRunsItsStages_3, by decide +kernel⟩,
    ⟨w_startUpRunsItsStages_4, by decide +kernel⟩,
    ⟨live, by decide +kernel⟩,
    ⟨w_startUpRunsItsStages_7_0, .a, 0x800002CF, accepts_of (by decide +kernel) (by decide +kernel), by decide +kernel⟩,
    ⟨w_startUpRunsItsStages_7_1, .a, 0x80000352, accepts_of (by decide +kernel) (by decide +kernel), by decide +kernel⟩,
    ⟨w_startUpRunsItsStages_8, 750, 3, 760, 3, by decide +kernel⟩,
    ⟨w_startUpRunsItsStages_9, 750, 3, 0, 3, by decide +kernel⟩,
    ⟨w_startUpRunsItsStages_10, 750, 4, 0, 3, by decide +kernel⟩,
    ⟨w_startUpRunsItsStages_12, false, by decide +kernel⟩,
    ⟨w_startUpRunsItsStages_13, by decide +kernel⟩,
    ⟨w_startUpRunsItsStages_14, by decide +kernel⟩,
    ⟨w_startUpRunsItsStages_15, [], by decide +kernel⟩,
    ⟨w_startUpRunsItsStages_16, by decide +kernel⟩,
    ⟨w_startUpRunsItsStages_17, false, 0, 3, by decide +kernel⟩,
    ⟨w_startUpRunsItsStages_18, 750, 3, true, 760, 3, by decide +kernel⟩,
    ⟨w_startUpRunsItsStages_19, 750, 3, false, 0, 3, by decide +kernel⟩,
    ⟨w_startUpRunsItsStages_20, 750, 4, false, 0, 3, by decide +kernel⟩,
    ⟨w_startUpRunsItsStages_21, .a, 0x00000352, accepts_of (by decide +kernel) (by decide +kernel), by decide +kernel⟩,
    ⟨w_startUpRunsItsStages_22, .a, 0x80000352, accepts_of (by decide +kernel) (by decide +kernel), by decide +kernel⟩⟩

def w_powerStatesEnterLeaveAndWake_0_0 : State :=
  let p : Port := .a
  live |>.setHolder 0 (some (.cp p)) |>.set PWR_STATE.state 0

def w_powerStatesEnterLeaveAndWake_0_1 : State :=
  let p : Port := .a
  let s : State := live |>.setHolder 0 (some (.cp p)) |>.set PWR_STATE.state 0 |>.set PWR_STATE.state 0
  let s : State := s |>.withFuse fun x => { x with running := some { op := 3, arg := 7, hash := [] } }
  s |>.set WEAR_STATUS.repairing 1

def w_powerStatesEnterLeaveAndWake_0_2 : State :=
  let p : Port := .a
  live |>.setHolder 0 (some (.cp p)) |>.set PWR_STATE.state 0 |>.set WEAR_STATUS.repairing 0 |>.set (State.modeLoc 0) 0

def w_powerStatesEnterLeaveAndWake_1 : State :=
  live |>.set (PWR_STATUS.waiting) 1 |>.set PWR_STATUS.pending_target 4 |>.set PWR_STATE.state 1 |>.set WEAR_STATUS.repairing
      0

def w_powerStatesEnterLeaveAndWake_2 : State :=
  let s : State := live |>.set (PWR_STATE.state) (0) |>.set PWR_STATE.state 0
  s |>.withPwr fun x =>
      { x with trans := some { from_ := 0, target := 2, byWake := false, told := false, latched := none, during := false } }

def w_powerStatesEnterLeaveAndWake_3 : State :=
  let s : State := live |>.set (PWR_STATE.state) (1) |>.set PWR_STATE.state 1
  s |>.withPwr fun x =>
      { x with trans := some { from_ := 0, target := 2, byWake := false, told := false, latched := none, during := false } }

def w_powerStatesEnterLeaveAndWake_4 : State :=
  let s : State := live |>.set (PWR_STATE.state) (2) |>.set PWR_STATE.state 2
  s |>.withPwr fun x =>
      { x with trans := some { from_ := 0, target := 3, byWake := false, told := false, latched := none, during := false } }

def w_powerStatesEnterLeaveAndWake_5 : State :=
  let s : State := live |>.set PWR_STATE.state 3
  s |>.withPwr fun y =>
      { y with trans := some { from_ := 0, target := 4, byWake := false, told := false, latched := none, during := false } }

def w_powerStatesEnterLeaveAndWake_6 : State :=
  let s : State := live |>.set (PWR_STATE.state) (1) |>.set PWR_STATE.state 1
  s |>.withPwr fun y =>
      { y with trans := some { from_ := 1, target := 0, byWake := false, told := false, latched := none, during := false } }

def w_powerStatesEnterLeaveAndWake_7 : State :=
  let x : PwrTrans := { from_ := 2, target := 1, byWake := false, told := false, latched := none, during := false }
  let s : State := live |>.set (PWR_STATE.state) (2) |>.set PWR_STATE.state 2
  let s : State := s |>.withPwr fun y =>
      { y with trans := some { from_ := 2, target := 1, byWake := false, told := false, latched := none, during := false } }
  let s : State := s |> fun s => { s with dom := { s.dom with fabric := .off } }
  let s : State := s |> fun s => { s with dom := { s.dom with memory := .off } }
  s |>.withTime fun x => { x with running := false }

def w_powerStatesEnterLeaveAndWake_8 : State :=
  let s : State := live |>.set (PWR_STATE.state) (3)
  let s : State := s |> fun s => { s with dom := { s.dom with host := .off } }
  let s : State := s |>.set PWR_STATE.state 3
  let s : State := s |>.withPwr fun y =>
      { y with trans := some { from_ := 3, target := 0, byWake := true, told := false, latched := none, during := false } }
  s |> fun s => { s with dom := State.reset.dom }

def w_powerStatesEnterLeaveAndWake_9 : State :=
  let x : PwrTrans := { from_ := 0, target := 1, byWake := true, told := false, latched := none, during := false }
  let s : State := live |>.set (PWR_STATE.state) (x.target) |>.set (PWR_STATUS.pending) 0 |>.set PWR_STATE.state 1
  s |>.withPwr fun y =>
      { y with trans := some { from_ := 0, target := 1, byWake := true, told := false, latched := none, during := false } }

def w_powerStatesEnterLeaveAndWake_10 : State :=
  let s : State := live
  let s : State := s |>.withPwr fun y => { y with armed := true }
  let s : State := s |> fun s => { s with dom := { State.reset.dom with aon := .off } }
  s |>.withStart fun x => { x with porstLow := false }

def w_powerStatesEnterLeaveAndWake_11 : State :=
  let s : State := live |>.set (PWR_STATE.state) (1)
  let s : State := s |>.withStart fun x => { x with began := true }
  s |>.set PWR_STATE.state 1

def w_powerStatesEnterLeaveAndWake_12_1 : State :=
  let s : State := live |>.set (PWR_POLICY.mgmt_en) 0
  s |>.withStart fun x => { x with began := true }

def w_powerStatesEnterLeaveAndWake_13 : State :=
  let s : State := live |>.set (PWR_POLICY.timer_en) 0
  let s : State := s |>.withStart fun x => { x with began := true }
  s |>.set PWR_TIMER.reg 5

def w_powerStatesEnterLeaveAndWake_14 : State :=
  let s : State := live
  let s : State := s |> fun s => { s with dom := { s.dom with host := .off } }
  let s : State := s |>.set (PWR_POLICY.ens_en) 1 |>.set (PWR_STATE.state) (3)
  let s : State := s |>.withStart fun x => { x with began := true }
  let s : State := s |>.set PWR_STATE.state 3
  let s : State := s |>.withPwr fun y => { y with ensWake := true }
  s |> fun s => { s with dom := State.reset.dom }

def w_powerStatesEnterLeaveAndWake_15 : State :=
  let p : Port := .a
  live |>.setHolder 0 (some (.cp p)) |>.set PWR_STATE.state 1

def w_powerStatesEnterLeaveAndWake_16 : State :=
  w_powerStatesEnterLeaveAndWake_1 |>.set PWR_STATUS.waiting 1 |>.withPwr (fun z => { z with trans := none }) |>.withPwr
    (fun z => { z with wakeWaits := true })

def w_powerStatesEnterLeaveAndWake_17 : State :=
  w_powerStatesEnterLeaveAndWake_1 |>.set PWR_STATUS.waiting 1 |>.withPwr (fun z => { z with trans := none }) |>.withPwr
    (fun z => { z with wakeWaits := false })

def w_powerStatesEnterLeaveAndWake_18 : State :=
  let x : PwrTrans := { from_ := 3, target := 0, byWake := true, told := false, latched := none, during := false }
  w_powerStatesEnterLeaveAndWake_8 |>.withPwr (fun z => { z with trans := some x }) |>.set PWR_STATE.state 3

def w_powerStatesEnterLeaveAndWake_19 : State :=
  let x : PwrTrans := { from_ := 3, target := 0, byWake := true, told := false, latched := none, during := false }
  w_powerStatesEnterLeaveAndWake_8 |>.withPwr (fun z => { z with trans := some x }) |>.set PWR_STATE.state 3 |>.set
    REF_CTL.freq 2 |>.withPwr
    (fun z => { z with saved := [(REF_CTL.freq.addr, BitVec.ofNat 32 (2 * 2 ^ REF_CTL.freq.lo))] })

def w_powerStatesEnterLeaveAndWake_20 : State :=
  let x : PwrTrans := { from_ := 3, target := 0, byWake := true, told := false, latched := none, during := false }
  w_powerStatesEnterLeaveAndWake_8 |>.withPwr (fun z => { z with trans := some x }) |>.set PWR_STATE.state 3 |>.set
    PWR_STATUS.pending 0 |> (fun z : State => { z with dom := { z.dom with host := .on } }) |>.set GLB_START.stage 7 |>.set
    GLB_START.cdc_ready 1 |>.set GLB_START.mem_ready 1

def w_powerStatesEnterLeaveAndWake_21 : State :=
  w_powerStatesEnterLeaveAndWake_11 |>.withPwr (fun z => { z with armed := false }) |>.withStart
    (fun z => { z with began := true }) |>.withPwr (fun z => { z with trans := none }) |>.set PWR_STATE.state 1

def w_powerStatesEnterLeaveAndWake_22 : State :=
  w_powerStatesEnterLeaveAndWake_11 |>.withPwr (fun z => { z with armed := false }) |>.withStart
    (fun z => { z with began := true }) |>.withPwr (fun z => { z with trans := none }) |>.set PWR_STATE.state 1 |>.withLoad
    (fun z => { z with stage := .fetch })

def w_powerStatesEnterLeaveAndWake_23 : State :=
  w_powerStatesEnterLeaveAndWake_0_0 |>.set PWR_TIMER.reg 1 |>.withPwr (fun z => { z with timerFrom := 77777 })

def w_powerStatesEnterLeaveAndWake_24 : State :=
  w_powerStatesEnterLeaveAndWake_13 |>.withStart (fun z => { z with began := true }) |>.set PWR_TIMER.reg 1 |>.set
    PWR_POLICY.timer_en 0 |>.withTime (fun z => { z with clk := 10 ^ 14 })

def w_powerStatesEnterLeaveAndWake_25 : State :=
  w_powerStatesEnterLeaveAndWake_14 |>.withPwr (fun z => { z with ensWake := true }) |>.set PWR_POLICY.ens_en 1 |>.withStart
    (fun z => { z with began := true }) |>.withPwr (fun z => { z with trans := none }) |>.set PWR_STATE.state 3

theorem wit_powerStatesEnterLeaveAndWake :
    (∃ (s : State) (p : Port) (v : Word), s.accepts p PWR_REQ.reg.addr (some 0) ∧ 4 < v.toNat % 8) ∧
    (∃ (s : State) (p : Port) (v : Word), s.accepts p PWR_REQ.reg.addr (some 0) ∧ v.toNat % 8 ≤ 4 ∧ v.toNat % 8 ≠ s.f
      PWR_STATE.state ∧ s.pwr.trans = none ∧ s.pwrMustWait (v.toNat % 8) = true) ∧
    (∃ (s : State) (p : Port) (v : Word), s.accepts p PWR_REQ.reg.addr (some 0) ∧ v.toNat % 8 ≤ 4 ∧ v.toNat % 8 ≠ s.f
      PWR_STATE.state ∧ v.toNat % 8 ≠ 0 ∧ s.pwr.trans = none ∧ s.pwrMustWait (v.toNat % 8) = false) ∧
    (∃ (s : State), s.goingTo 1 = true ∧ s.f PWR_STATE.state = 0 ∧ (∀ p < 4, s.drained p = true) ∧ s.cal.committing = none) ∧
    (∃ (s : State), s.goingTo 2 = true ∧ s.f PWR_STATE.state = 1 ∧ s.quiescePending = false) ∧
    (∃ (s : State), s.goingTo 3 = true ∧ s.goingTo 4 = false ∧ s.f PWR_STATE.state = 2) ∧
    (∃ (s : State) (x : PwrTrans), s.pwr.trans = some x ∧ x.target = 4 ∧ x.from_ < 4 ∧ x.latched = none ∧ (s.f
      PWR_STATE.state = 2 ∨ s.f PWR_STATE.state = 3)) ∧
    (∃ (s : State) (x : PwrTrans), s.pwr.trans = some x ∧ x.target = 0 ∧ x.from_ = 1 ∧ s.f PWR_STATE.state = 1) ∧
    (∃ (s : State) (x : PwrTrans), s.pwr.trans = some x ∧ x.target < 2 ∧ s.f PWR_STATE.state = 2) ∧
    (∃ (s : State) (x : PwrTrans), s.pwr.trans = some x ∧ s.f PWR_STATE.state = x.target ∧ x.latched = none ∧ s.flag
      PWR_STATUS.pending = false ∧ (x.told = false)) ∧
    (∃ (s : State), s.pwr.armed = true ∧ s.start.porstLow = false ∧ s.start.railsLow = 0) ∧
    (∃ (s : State) (n : Nat), s.start.began = true ∧ s.flag PWR_POLICY.mgmt_en = false ∧ 0 < n) ∧
    (∃ (s : State) (p : Port) (v : Word), s.accepts p PWR_REQ.reg.addr (some 0) ∧ v.toNat % 8 = 0 ∧ s.f PWR_STATE.state ≠ 0
      ∧ s.pwr.trans = none ∧ s.pwrMustWait 0 = false) ∧
    (∃ (s : State) (x : Nat), x = s.f PWR_STATUS.pending_target ∧ s.flag PWR_STATUS.waiting = true ∧ s.pwr.trans = none ∧
      s.pwrMustWait x = false ∧ s.pwr.wakeWaits = true) ∧
    (∃ (s : State) (x : Nat), x = s.f PWR_STATUS.pending_target ∧ s.flag PWR_STATUS.waiting = true ∧ s.pwr.trans = none ∧
      s.pwrMustWait x = false ∧ s.pwr.wakeWaits = false ∧ x ≠ s.f PWR_STATE.state) ∧
    (∃ (s : State) (x : PwrTrans) (m : Bool), s.pwr.trans = some x ∧ x.target = 0 ∧ s.f PWR_STATE.state = 3 ∧ s.up .host =
      false ∧ s.restore.refTakes (refCode m) = true) ∧
    (∃ (s : State) (x : PwrTrans) (m : Bool), s.pwr.trans = some x ∧ x.target = 0 ∧ s.f PWR_STATE.state = 3 ∧ s.up .host =
      false ∧ s.restore.refTakes (refCode m) = false) ∧
    (∃ (s : State) (x : PwrTrans), s.pwr.trans = some x ∧ x.target = 0 ∧ s.f PWR_STATE.state = 3 ∧ s.up .host = true ∧
      s.deepDone = true ∧ x.latched = none ∧ s.flag PWR_STATUS.pending = false) ∧
    (∃ (s : State), s.pwr.armed = false ∧ s.start.began = true ∧ s.pwr.trans = none ∧ s.f PWR_STATE.state = 1 ∧
      s.pwrMustWait 0 = false) ∧
    (∃ (s : State), s.pwr.armed = false ∧ s.start.began = true ∧ s.pwr.trans = none ∧ s.f PWR_STATE.state = 1 ∧
      s.pwrMustWait 0 = true) ∧
    (∃ (s : State), s.timerNow ≠ 0) ∧
    (∃ (s : State), s.start.began = true ∧ s.f PWR_TIMER.reg ≠ 0 ∧ s.timerNow = 0 ∧ s.flag PWR_POLICY.timer_en = false) ∧
    (∃ (s : State), s.up .host = false ∧ s.pwr.ensWake = true ∧ s.flag PWR_POLICY.ens_en = true ∧ s.start.began = true ∧
      s.pwr.trans = none ∧ s.f PWR_STATE.state = 3 ∧ s.pwrMustWait 0 = false) :=
  ⟨⟨w_powerStatesEnterLeaveAndWake_0_0, .a, 5, accepts_of (by decide +kernel) (by decide +kernel), by decide +kernel⟩,
    ⟨w_powerStatesEnterLeaveAndWake_0_1, .a, 4, accepts_of (by decide +kernel) (by decide +kernel), by decide +kernel⟩,
    ⟨w_powerStatesEnterLeaveAndWake_0_2, .a, 4, accepts_of (by decide +kernel) (by decide +kernel), by decide +kernel⟩,
    ⟨w_powerStatesEnterLeaveAndWake_2, by decide +kernel⟩,
    ⟨w_powerStatesEnterLeaveAndWake_3, by decide +kernel⟩,
    ⟨w_powerStatesEnterLeaveAndWake_4, by decide +kernel⟩,
    ⟨w_powerStatesEnterLeaveAndWake_5,
      { from_ := 0, target := 4, byWake := false, told := false, latched := none, during := false }, by decide +kernel⟩,
    ⟨w_powerStatesEnterLeaveAndWake_6,
      { from_ := 1, target := 0, byWake := false, told := false, latched := none, during := false }, by decide +kernel⟩,
    ⟨w_powerStatesEnterLeaveAndWake_7,
      { from_ := 2, target := 1, byWake := false, told := false, latched := none, during := false }, by decide +kernel⟩,
    ⟨w_powerStatesEnterLeaveAndWake_9,
      { from_ := 0, target := 1, byWake := true, told := false, latched := none, during := false }, by decide +kernel⟩,
    ⟨w_powerStatesEnterLeaveAndWake_10, by decide +kernel⟩,
    ⟨w_powerStatesEnterLeaveAndWake_12_1, 4, by decide +kernel⟩,
    ⟨w_powerStatesEnterLeaveAndWake_15, .a, 0, accepts_of (by decide +kernel) (by decide +kernel), by decide +kernel⟩,
    ⟨w_powerStatesEnterLeaveAndWake_16, (w_powerStatesEnterLeaveAndWake_16.f PWR_STATUS.pending_target), by decide +kernel⟩,
    ⟨w_powerStatesEnterLeaveAndWake_17, (w_powerStatesEnterLeaveAndWake_17.f PWR_STATUS.pending_target), by decide +kernel⟩,
    ⟨w_powerStatesEnterLeaveAndWake_18,
      { from_ := 3, target := 0, byWake := true, told := false, latched := none, during := false }, false,
      by decide +kernel⟩,
    ⟨w_powerStatesEnterLeaveAndWake_19,
      { from_ := 3, target := 0, byWake := true, told := false, latched := none, during := false }, false,
      by decide +kernel⟩,
    ⟨w_powerStatesEnterLeaveAndWake_20,
      { from_ := 3, target := 0, byWake := true, told := false, latched := none, during := false }, by decide +kernel⟩,
    ⟨w_powerStatesEnterLeaveAndWake_21, by decide +kernel⟩,
    ⟨w_powerStatesEnterLeaveAndWake_22, by decide +kernel⟩,
    ⟨w_powerStatesEnterLeaveAndWake_23, by decide +kernel⟩,
    ⟨w_powerStatesEnterLeaveAndWake_24, by decide +kernel⟩,
    ⟨w_powerStatesEnterLeaveAndWake_25, by decide +kernel⟩⟩

def w_stepRunsTheFrontCommand_0 : State :=
  let s : State := live
  s |> fun s => { s with pending := [.startDone, .porstAssert] }

theorem wit_stepRunsTheFrontCommand :
    (∃ (s : State) (c : Instr) (cs : List Instr), s.pending = c :: cs) :=
  ⟨w_stepRunsTheFrontCommand_0, .startDone, [.porstAssert], by decide +kernel⟩

def w_everyStepGoesOn_0 : State :=
  live |>.withClocks (fun z => { z with upllOut := false })

def w_everyStepGoesOn_1 : State :=
  live |>.withClocks (fun z => { z with syncDue := none }) |>.withKal 0 (fun z => { z with sweep := none }) |>.withKal 1
    (fun z => { z with sweep := none })

theorem wit_everyStepGoesOn :
    (∃ (s : State), s.pending = [] ∧ (s.time.running = true)) ∧
    (∃ (s : State), s.pending = [] ∧ s.clocks.upllOut = false) ∧
    (∃ (s : State), s.pending = [] ∧ s.clocks.syncDue = none ∧ (s.kalOf 0).sweep = none ∧ (s.kalOf 1).sweep = none) :=
  ⟨⟨live, by decide +kernel⟩,
    ⟨w_everyStepGoesOn_0, by decide +kernel⟩,
    ⟨w_everyStepGoesOn_1, by decide +kernel⟩⟩

theorem wit_resetIsSound :
    (∃ (off : Nat) (r : RegRow) (ix : List Nat), findRow off = some (r, ix)) :=
  ⟨0, rowOf 0, [], rfl⟩

def w_refusedWritesReleasesAndBreaks_1 : State :=
  live |>.setHolder 255 (some (.cp .b))

def w_refusedWritesReleasesAndBreaks_2 : State :=
  live |>.setHolder 3 (some (.cp .a)) |>.set MP_CTL.fast_en 1

def w_refusedWritesReleasesAndBreaks_3 : State :=
  live |>.setHolder 5 (some .engine)

def w_refusedWritesReleasesAndBreaks_0 : State :=
  live |>.setHolder 0 (some (.cp .a))

theorem wit_refusedWritesReleasesAndBreaks :
    (∃ (s : State) (p : Port) (off : Nat) (r : RegRow) (ix : List Nat) (n : Nat), off % 4 = 0 ∧ off < 0x1000000 ∧
      (¬ (0x20000 ≤ off ∧ off < 0x20400)) ∧ (¬ (0x38000 ≤ off ∧ off < 0x40000)) ∧ findRow off = some (r, ix) ∧
      r.sem = some n ∧ s.reachable off = true ∧ s.holder n ≠ some (.cp p)) ∧
    (∃ (s : State) (p : Port) (n : Fin 256), s.up .host = true ∧ s.holder n = some (.cp p) ∧ (n.val ≠ 3)) ∧
    (∃ (s : State) (p : Port) (n : Fin 256), s.up .host = true ∧ s.holder n = some (.cp p) ∧ (n.val = 3)) ∧
    (∃ (s : State) (p : Port) (n : Fin 256) (v : Word), s.up .host = true ∧ (v ≠ 0 ∨ s.holder n ≠ some (.cp p))) ∧
    (∃ (s : State) (q : Port) (n : Fin 256), s.up .host = true ∧ s.holder n = some (.cp q) ∧ (n.val ≠ 3)) ∧
    (∃ (s : State) (q : Port) (n : Fin 256), s.up .host = true ∧ s.holder n = some (.cp q) ∧ (n.val = 3)) ∧
    (∃ (s : State) (n : Fin 256), s.up .host = true ∧ s.holder n = none) ∧
    (∃ (s : State) (v : Word), s.up .host = true ∧ (v.toNat / 256 ≠ 0xB8EA00 ∨ s.holder (v.toNat % 256) = some .engine)) :=
  ⟨⟨w_refusedWritesReleasesAndBreaks_0, .b, GLB_THERM.reg.addr, rowOf GLB_THERM.reg.addr, [], 0, by decide +kernel,
      by decide +kernel, by decide +kernel, by decide +kernel, rfl, by decide +kernel⟩,
    ⟨w_refusedWritesReleasesAndBreaks_1, .b, 255, by decide +kernel⟩,
    ⟨w_refusedWritesReleasesAndBreaks_2, .a, 3, by decide +kernel⟩,
    ⟨live, .b, 0, 0, by decide +kernel⟩,
    ⟨w_refusedWritesReleasesAndBreaks_1, .b, 255, by decide +kernel⟩,
    ⟨w_refusedWritesReleasesAndBreaks_2, .a, 3, by decide +kernel⟩,
    ⟨live, 0, by decide +kernel⟩,
    ⟨w_refusedWritesReleasesAndBreaks_3, 0xB8EA0005, by decide +kernel⟩⟩

theorem wit_commandsKeepWhatTheyDoNotName :
    (∃ (c : Instr) (s : State) (t : State), exec c s = .next t) :=
  ⟨.startDone, live, (let s : State := live; s.nx .startDone), runs_of (by decide +kernel)⟩

def w_stepKeepsTables_0 : State :=
  let s : State := live
  s |> fun s => { s with pending := [.startDone] }

theorem wit_stepKeepsTables :
    (∃ (s : State) (t : State), s.queueOk = true ∧ s.tabsOk = true ∧ step s = .next t) :=
  ⟨w_stepKeepsTables_0, (let s : State := w_stepKeepsTables_0; s.nxs), by decide +kernel, by decide +kernel, steps_of
    (by decide +kernel)⟩

def w_stepKeepsTheEnginesSemaphores_0 : State :=
  let s : State := live |>.setHolder 5 (some .engine) |>.set WEAR_STATUS.repairing 1 |>.set GLB_START.stage 5
  s |> fun s => { s with pending := [.startupRepairDone] }

theorem only_five : w_stepKeepsTheEnginesSemaphores_0.engineHolds := by
  intro n h
  have hc : w_stepKeepsTheEnginesSemaphores_0.sem.holder = [(5, some .engine)] := by decide +kernel
  unfold State.holder at h
  rw [hc] at h
  simp only [Tab.get] at h
  split at h
  · exact .inr (by simp_all)
  · cases h

theorem wit_stepKeepsTheEnginesSemaphores :
    (∃ (s : State) (t : State), s.tabsOk = true ∧ s.engineHolds ∧ step s = .next t) :=
  ⟨w_stepKeepsTheEnginesSemaphores_0, (let s : State := w_stepKeepsTheEnginesSemaphores_0; s.nxs), by decide +kernel,
    only_five, steps_of (by decide +kernel)⟩

def w_stepKeepsFuses_0 : State :=
  let s : State := live
  let s : State := s |>.withFuse fun x =>
      { x with svnMin := 6, revoked := 4, enrolled := 3, running := some { op := 3, arg := 7, hash := [] } }
  s |> fun s => { s with pending := [.keyFuseDone] }

theorem fuses_sound : w_stepKeepsFuses_0.fuseSound := by
  refine ⟨fun q h => ?_, fun q h => ?_⟩
  · have hq : w_stepKeepsFuses_0.fuse.running = some { op := 3, arg := 7, hash := [] } := by decide +kernel
    rw [hq] at h
    cases h
    exact ⟨by decide +kernel, by decide +kernel⟩
  · have hq : w_stepKeepsFuses_0.fuse.incomplete = none := by decide +kernel
    rw [hq] at h
    cases h

theorem wit_stepKeepsFuses :
    (∃ (s : State) (t : State), s.fuseSound ∧ step s = .next t) :=
  ⟨w_stepKeepsFuses_0, (let s : State := w_stepKeepsFuses_0; s.nxs), fuses_sound, steps_of (by decide +kernel)⟩

/-! ### Operands out of range -/

/-- A parcel whose path does not exist (R127). -/
def badParcel : Parcel := { blk with path := 4 }
/-- A frame of a stream that the header has no room for (R127). -/
def badFrame : Frame := { stream := 256, first := 0, last := 0, done := [] }
/-- A time with a phase bin too many (R16). -/
def badStamp : Stamp := { tick := 0, phase := 64 }

/-- Each command with operands outside its widths is ill formed. -/
theorem test_illFormed_refused :
    ([.regWrite .a 2 0, .regWrite .a 0x4000000 0, .regWrite .a 0x10001000 0, .regWrite .a 0x10000046 0,
      .tileFire 0 .sound { twork with outs := [[], [], [], [], []] } none, .tileFire 0 .sound twork (some badFrame),
      .tileFire 0 .sound { twork with outs := [[.parcel badParcel]] } none, .bar0BadAccess .a 0x100 4, .bar0BadAccess .a 0x30800 8,
      .bar0BadAccess .a 0x4000001 1, .reg64LowRead .a 4, .reg64HighRead .a 8, .reg64HighWrite .a 0 0, .reg64LowWrite .a 12 0,
      .msix64Access .a 0x30900 none, .msix64Access .a 0x30804 none, .bar2Request .a (.read 0 4100),
      .bar2Request .a (.write 0xFFFFFFE (List.replicate 4 none)), .bar4Access .a (.read 0xFFFFFFFF 2) .sound 0,
      .bar4Access .a (.write 0 (List.replicate 513 none)) .sound 0, .portLinkUp .a 2 1, .portLinkUp .a 4 0, .portLinkUp .a 4 6,
      .fabricEntryParcel 0 [0] { tick := 0, phase := 0 } none 0, .fabricEntryParcel 0 (List.replicate 1024 0) badStamp none 0,
      .fabricEntryParcel 0 (List.replicate 1024 0) { tick := 0, phase := 0 } (some [0]) 0, .pathTakeBlock 0 [badFrame] .sound,
      .canarySweepDone [] [], .fltFire 0 { index := 0, samples := [] } badStamp,
      .ppsEdge (2 ^ 64) 0, .syncInEdge (2 ^ 64) 0 0 false, .syncInEdge 0 0 (2 ^ 64) false, .kalSpectrum 0 badParcel [],
      .mskEvaluate 0 badParcel [], .trgDecide badStamp, .triginEdge 0 true (2 ^ 64) 0, .capFormatUnit 0 badParcel,
      .kpInstrLd 0 .sound (.w 0) 0 false false (.offset 16384), .kpInstrSt 0 .sound (.w 0) 0 false false (.offset (-16385)),
      .kpInstrStS 0 .sound 0 0 false false (.offset 16384), .kpInstrLoop 0 .sound (.imm 0) 0, .kpInstrRep 0 .sound (.imm 65537),
      .kpInboxParcel 0 badParcel, .dmaDescFetch 0 [], .dmaBeatComplete 0 { beat with data := List.replicate 65 0 },
      .dmaExitParcel 0 badParcel, .strmFlowParcel 0 0 badParcel, .evEdge 0 true (2 ^ 64) 0, .tiuCdcDone [], .finEdge 0 (2 ^ 64) 0 false,
      .calPassDone [(4096, 0, 0)] false false, .ensTokenRx 0 [] false, .thermRead [], .memTrainDone [],
      .mgmtTransaction (some (List.replicate 256 0)) 0] : List Instr).all (fun c => !c.wf) = true := by
  decide +kernel
/-- An image of more than 16 MiB is ill formed (R119). -/
theorem test_illFormed_image (b : List Byte) (h : 2 ^ 24 < b.length) (p : Port) (v : Word) :
    (Instr.imgLoadGo p v (some b)).wf = false ∧ (Instr.imgLoadWaitStart (some b)).wf = false ∧
      (Instr.imgPass1Done (some b)).wf = false ∧ (Instr.imgPass2Done (some b)).wf = false := by
  have hb : ¬ b.length ≤ 2 ^ 24 := by omega
  refine ⟨?_, ?_, ?_, ?_⟩ <;> exact decide_eq_false hb

/-! ### Worked examples of the spec, and values worked out by hand from its rules -/

/-- R133: the check value of the nine ASCII bytes "123456789". -/
theorem test_crc32c : crc32c [0x31, 0x32, 0x33, 0x34, 0x35, 0x36, 0x37, 0x38, 0x39] = 0xE3069283 := by decide +kernel
/-- FIPS 180-4: the digest of "abc". -/
theorem test_sha384 : sha384 [0x61, 0x62, 0x63] =
    (leBytes 48 0xcb00753f45a35e8bb5a03d699ac65007272c32ab0eded1631a8b605a43ff5bed8086072ba1e7cc2358baeca134c825a7).reverse := by
  decide +kernel
/-- The worked example of 03: rows 12 and 20 of column 5 are retired, so that logical tile 389 is TILE_421 (R93). -/
theorem test_physTile :
    (live.set (IMG_RETIRED.rows 5) (2 ^ 12 + 2 ^ 20)).physTile 389 = some 421 := by decide +kernel
/-- The worked example of 09: a sine at v = 43,308 falls in row 777, noise at 29,952 in row 360 (R301, the reset maps). -/
theorem test_kalRow : live.kalRow 0 43308 = some (777, false) ∧ live.kalRow 0 29952 = some (360, false) := by decide +kernel
/-- The worked example of 09: level 2,706 against a limit of 0x8C0 is 466 too high, and level 1,872 passes (R313). -/
theorem test_mskBin : State.mskBin 0x018C0000 43308 none = { up := some 466, down := false } ∧
    State.mskBin 0x018C0000 29952 none = { up := none, down := false } := by decide +kernel
/-- A level of 0 dB is 200 × 256, half of it 3.0103 dB less (R266). -/
theorem test_logWord : logWord 1 1 = 51200 ∧ logWord 1 2 = 50429 := by decide +kernel
/-- The worked example of 12: one product is 2,147,352,578; a sum of 300 of them wraps below 0, and 100 taken away wrap it back
to 200 of them (R389, R390). -/
theorem test_products :
    mulHalves true false 0x7FFF 0x7FFF = 2147352578 ∧ sumAdd 0 644205773400 false false = (unsigned 40 (-455305854376), true, false) ∧
      sumAdd (unsigned 40 (-455305854376)) (-214735257800) false false = (429470515600, true, false) ∧
      sumAdd 0 644205773400 true false = (2 ^ 39 - 1, true, true) := by decide +kernel
/-- The worked example of 13: seconds and picoseconds of tick 7,680,000,256 and phase 40 (R440). -/
theorem test_stampPs : stampPs 1900000000 { tick := 7680000256, phase := 40 } = (1900000003, 100244) := by decide +kernel
/-- The worked example of 15: raw bin 17, the bins before it 17,510 wide and it 1,060 wide, is phase 18 (R479). -/
theorem test_fineTime :
    let s := (List.range 17).foldl (fun s b => s.set (TIU_CDC_TABLE.width 3 b) 1030) (live.set (TIU_CDC_TABLE.width 3 17) 1060)
    s.edgeStamp 3 5120000123 17 0 = { tick := 5120000123, phase := 18 } := by decide +kernel
/-- The worked example of 16: a shown code of 43,691 on the 1.8 V range reads back as 21,846 (R499). -/
theorem test_fcdExpect : ((live.set (FCD_CFG.range 2) 1).set (FCD_STATUS.shown 2) 43691).fcdExpect 2 = 21846 := by decide +kernel
/-- The worked example of 17: +0.36 dBm is a gain entry of 369 (R508). -/
theorem test_gainEntry : gainEntry 1 (36 / 100) = 369 := by decide +kernel

/-- R54: the read of a free semaphore returns 1 and takes it; the read of one that the engine holds takes nothing. -/
theorem test_semAcquire :
    let s := live.nx (.semAcquire 9 (.one .a))
    let t := (live.setHolder 9 (some .engine)).nx (.semAcquire 9 (.one .b))
    s.bus = .words [1] ∧ s.holder 9 = some (.cp .a) ∧ t.bus = .words [0x5E00000E] ∧ t.holder 9 = some .engine := by decide +kernel
/-- R9: an access of three bytes is aborted. -/
theorem test_badAccess : (live.nx (.bar0BadAccess .a 0x100 3)).bus = .abort := by decide +kernel
/-- R8, R13: a write to a read-only register changes nothing. -/
theorem test_readOnly : (live.nx (.regWrite .a GLB_ID.reg.addr 0xFFFFFFFF)).f GLB_ID.reg = live.f GLB_ID.reg := by decide +kernel
/-- R44: D3hot is entered by the power management register of a port's configuration space, and left by it. -/
theorem test_d3hot :
    let s := (live.withStart fun x => { x with retry := false }).nx (.regWrite .b 0x10000044 3)
    (s.port .b).cfg.d3hot = true ∧ (s.port .a).cfg.d3hot = false ∧
      ((s.nx (.regWrite .b 0x10000044 0)).port .b).cfg.d3hot = false := by decide +kernel
/-- R46: all ones written to BAR0 read back as a 32-bit window size of 64 MiB, 64-bit and not prefetchable. -/
theorem test_bar0 :
    ((live.withStart fun x => { x with retry := false }).nx (.regWrite .a 0x10000010 0xFFFFFFFF)).cfgWord .a 0x10 = 0xFC000004 := by
  decide +kernel
/-- R388, R395: 0xFFFFFFFF + 1 is 0, with carry and zero and without overflow or a negative sign. -/
theorem test_addWraps :
    let x : KpAlu := { op := .add, half := false, dst := 1, a := 2, b := 3, dstHi := false, aHi := false, bHi := false, shift := 0 }
    let s := (live.withKpAt 5 (kw 0 (State.aluFields x))).withKp 5 fun k => { k with w := [(2, 0xFFFFFFFF), (3, 1)] }
    (s.nx (.kpInstrAlu 5 .sound x)).kpW 5 1 = 0 ∧ bits ((s.nx (.kpInstrAlu 5 .sound x)).kpOf 5).sr.toNat 0 4 = 10 := by decide +kernel
/-- R415: the 64 bytes of a descriptor, laid out by hand. -/
theorem test_descriptor : DmaDesc.ofBytes dscBytes = dsc := by decide +kernel
/-- With no command waiting, a step lets one tick pass (R16; log entry 1). -/
theorem test_idle : live.nxs.time.tick = 0x12345678A := by decide +kernel

end Sys2Proof.Tests
end

section
/-! SUPPORT. The table of semaphore holders stays in canonical form through every operation that takes or frees one. -/

namespace Sys2Proof.Machine.State

@[simp] theorem foldl_holderWf {α : Type} (g : State → α → State) (l : List α) (s : State)
    (h : s.sem.holder.wf none = true)
    (k : ∀ s x, s.sem.holder.wf none = true → (g s x).sem.holder.wf none = true) :
    (l.foldl g s).sem.holder.wf none = true := by
  induction l generalizing s with
  | nil => exact h
  | cons x xs ih => exact ih _ (k _ _ h)

@[simp] theorem setHolder_holderWf (s : State) (n : Nat) (h : Option Holder) (hs : s.sem.holder.wf none = true) :
    (s.setHolder n h).sem.holder.wf none = true := Tab.wf_put hs

@[simp] theorem freeSem_holderWf (s : State) (n : Nat) (hs : s.sem.holder.wf none = true) :
    (s.freeSem n).sem.holder.wf none = true := by
  unfold freeSem
  simp [hs]

@[simp] theorem portWrite_holderWf (s : State) (p : Port) (off : Nat) (sem : Option Nat) (effect : State → State)
    (hs : s.sem.holder.wf none = true)
    (h : ∀ z : State, z.sem.holder.wf none = true → (effect z).sem.holder.wf none = true) :
    (s.portWrite p off sem effect).sem.holder.wf none = true := by
  unfold portWrite
  (repeat' split) <;> simp [hs, h]

/-! ### Image loads -/

@[simp] theorem bootFailed_holderWf (s : State) (hs : s.sem.holder.wf none = true) :
    s.bootFailed.sem.holder.wf none = true := by
  unfold bootFailed
  simp (maxDischargeDepth := 60) [hs]

@[simp] theorem bootNext_holderWf (s : State) (q : LoadReq) (hs : s.sem.holder.wf none = true) :
    (s.bootNext q).sem.holder.wf none = true := by
  unfold bootNext
  dsimp only
  (repeat' split) <;> simp (maxDischargeDepth := 60) [hs]

@[simp] theorem loadRefuse_holderWf (s : State) (code : Nat) (hs : s.sem.holder.wf none = true) :
    (s.loadRefuse code).sem.holder.wf none = true := by
  unfold loadRefuse
  dsimp only
  (repeat' split) <;> simp (maxDischargeDepth := 60) [hs]

@[simp] theorem loadStart_holderWf (s : State) (q : LoadReq) (head : Option (List Byte)) (hs : s.sem.holder.wf none = true) :
    (s.loadStart q head).sem.holder.wf none = true := by
  unfold loadStart
  dsimp only
  (repeat' split) <;> simp (maxDischargeDepth := 60) [hs]

@[simp] theorem bootLoad_holderWf (s : State) (hs : s.sem.holder.wf none = true) : s.bootLoad.sem.holder.wf none = true := by
  unfold bootLoad
  simp (maxDischargeDepth := 60) [hs]

@[simp] theorem bootAsk_holderWf (s : State) (hs : s.sem.holder.wf none = true) : s.bootAsk.sem.holder.wf none = true := by
  unfold bootAsk
  simp (maxDischargeDepth := 60) [hs]

@[simp] theorem firstSweep_holderWf (s : State) (hs : s.sem.holder.wf none = true) :
    s.firstSweep.sem.holder.wf none = true := by
  unfold firstSweep
  simp (maxDischargeDepth := 60) [hs]

@[simp] theorem unloadStart_holderWf (s : State) (q : LoadReq) (hs : s.sem.holder.wf none = true) :
    (s.unloadStart q).sem.holder.wf none = true := by
  unfold unloadStart
  simp (maxDischargeDepth := 60) [hs]

@[simp] theorem loadAsk_holderWf (s : State) (q : LoadReq) (head : Option (List Byte)) (hs : s.sem.holder.wf none = true) :
    (s.loadAsk q head).sem.holder.wf none = true := by
  unfold loadAsk
  simp (maxDischargeDepth := 60) [hs]

@[simp] theorem loadPortLost_holderWf (s : State) (p : Port) (hs : s.sem.holder.wf none = true) :
    (s.loadPortLost p).sem.holder.wf none = true := by
  unfold loadPortLost
  simp (maxDischargeDepth := 60) [hs]

@[simp] theorem imgCtl_holderWf (s : State) (p : Port) (v : Nat) (head : Option (List Byte))
    (hs : s.sem.holder.wf none = true) : (s.imgCtl p v head).sem.holder.wf none = true := by
  unfold imgCtl
  simp (maxDischargeDepth := 60) [hs]

@[simp] theorem imgUnload_holderWf (s : State) (p : Port) (v : Nat) (hs : s.sem.holder.wf none = true) :
    (s.imgUnload p v).sem.holder.wf none = true := by
  unfold imgUnload
  simp (maxDischargeDepth := 60) [hs]

@[simp] theorem verifyEnd_holderWf (s : State) (hs : s.sem.holder.wf none = true) :
    s.verifyEnd.sem.holder.wf none = true := by
  unfold verifyEnd
  dsimp only
  (repeat' split) <;> simp (maxDischargeDepth := 60) [hs]

@[simp] theorem switchOver_holderWf (s : State) (ps : List Nat) (hs : s.sem.holder.wf none = true) :
    (s.switchOver ps).sem.holder.wf none = true := by
  unfold switchOver
  simp (maxDischargeDepth := 60) [hs]

/-! ### Resets, rails and start-up -/

@[simp] theorem wipe_holderWf (s : State) : (wipe s).sem.holder.wf none = true := rfl

@[simp] theorem porstWipe_holderWf (s : State) : s.porstWipe.sem.holder.wf none = true := by
  unfold porstWipe
  simp

@[simp] theorem sysStop_holderWf (s : State) (cause : Nat) : (s.sysStop cause).sem.holder.wf none = true := by
  unfold sysStop
  simp

@[simp] theorem sysAsk_holderWf (s : State) (cause : Nat) (release : Bool) (hs : s.sem.holder.wf none = true) :
    (s.sysAsk cause release).sem.holder.wf none = true := by
  unfold sysAsk
  simp [hs]

@[simp] theorem railFall_holderWf (s : State) (k : Nat) (hs : s.sem.holder.wf none = true) :
    (s.railFall k).sem.holder.wf none = true := by
  unfold railFall
  (repeat' split) <;> simp (maxDischargeDepth := 60) [hs]

@[simp] theorem thermRead_holderWf (s : State) (temps : List Int) (hs : s.sem.holder.wf none = true) :
    (s.thermRead temps).sem.holder.wf none = true := by
  unfold thermRead
  dsimp only
  (repeat' split) <;> simp (maxDischargeDepth := 60) [hs]

@[simp] theorem glbRstWrite_holderWf (s : State) (p : Port) (v : Nat) (hs : s.sem.holder.wf none = true) :
    (s.glbRstWrite p v).sem.holder.wf none = true := by
  unfold glbRstWrite
  simp (maxDischargeDepth := 60) [hs]

@[simp] theorem storeRead_holderWf (s : State) (hs : s.sem.holder.wf none = true) :
    s.storeRead.sem.holder.wf none = true := by
  unfold storeRead
  simp (maxDischargeDepth := 60) [hs]

@[simp] theorem hostDown_holderWf (s : State) (keep : Bool) : (s.hostDown keep).sem.holder.wf none = true := by
  unfold hostDown
  simp

/-! ### The semaphore block and register writes -/

@[simp] theorem semTake_holderWf (s : State) (p : Port) (n : Nat) (hs : s.sem.holder.wf none = true) :
    (s.semTake p n).2.sem.holder.wf none = true := by
  unfold semTake
  split <;> simp [hs]

@[simp] theorem semTakeBoth_holderWf (s : State) (n : Nat) (hs : s.sem.holder.wf none = true) :
    (s.semTakeBoth n).2.2.sem.holder.wf none = true := by
  unfold semTakeBoth
  split
  · dsimp only
    split <;> exact setHolder_holderWf _ _ _ hs
  · exact hs

@[simp] theorem semWrite_holderWf (s : State) (p : Port) (n : Nat) (v : Word) (hs : s.sem.holder.wf none = true) :
    (s.semWrite p n v).sem.holder.wf none = true := by
  unfold semWrite
  simp [hs]

@[simp] theorem semBreak_holderWf (s : State) (p : Port) (v : Nat) (hs : s.sem.holder.wf none = true) :
    (s.semBreak p v).sem.holder.wf none = true := by
  unfold semBreak
  dsimp only
  (repeat' split) <;> simp (maxDischargeDepth := 60) [hs]

@[simp] theorem semsLost_holderWf (s : State) (ns : List Nat) (hs : s.sem.holder.wf none = true) :
    (s.semsLost ns).sem.holder.wf none = true := by
  induction ns generalizing s with
  | nil => exact hs
  | cons n ns ih => exact ih _ (by simp [hs])

@[simp] theorem holderLost_holderWf (s : State) (p : Port) (hs : s.sem.holder.wf none = true) :
    (s.holderLost p).sem.holder.wf none = true := by
  unfold holderLost
  (repeat' split) <;> simp (maxDischargeDepth := 60) [hs]

@[simp] theorem semBlockWrite_holderWf (s : State) (p : Port) (off v : Nat) (hs : s.sem.holder.wf none = true) :
    (s.semBlockWrite p off v).sem.holder.wf none = true := by
  unfold semBlockWrite
  simp [hs]

@[simp] theorem glbWrite_holderWf (s : State) (p : Port) (off v : Nat) (hs : s.sem.holder.wf none = true) :
    (s.glbWrite p off v).sem.holder.wf none = true := by
  unfold glbWrite
  (repeat' split) <;> simp (maxDischargeDepth := 60) [hs]

@[simp] theorem imgWrite_holderWf (s : State) (p : Port) (off v : Nat) (hs : s.sem.holder.wf none = true) :
    (s.imgWrite p off v).sem.holder.wf none = true := by
  unfold imgWrite
  simp [hs]

@[simp] theorem regEffect_holderWf (s : State) (p : Port) (off v : Nat) (hs : s.sem.holder.wf none = true) :
    (s.regEffect p off v).sem.holder.wf none = true := by
  unfold regEffect
  simp [hs]

@[simp] theorem lowEffect_holderWf (s : State) (p : Port) (r : RegRow) (off v : Nat) (hs : s.sem.holder.wf none = true) :
    (s.lowEffect p r off v).sem.holder.wf none = true := by
  unfold lowEffect
  dsimp only
  (repeat' split) <;> simp (maxDischargeDepth := 60) [hs]

@[simp] theorem wordEffect_holderWf (s : State) (p : Port) (r : RegRow) (off v : Nat) (hs : s.sem.holder.wf none = true) :
    (s.wordEffect p r off v).sem.holder.wf none = true := by
  unfold wordEffect
  (repeat' split) <;> simp [hs]

@[simp] theorem regWrite_holderWf (s : State) (p : Port) (off : Nat) (v : Word) (hs : s.sem.holder.wf none = true) :
    (s.regWrite p off v).sem.holder.wf none = true := by
  unfold regWrite
  (repeat' split) <;> simp +contextual [hs]

/-! ### Links -/

@[simp] theorem fetchLost_holderWf (s : State) (p : Port) (hs : s.sem.holder.wf none = true) :
    (s.fetchLost p).sem.holder.wf none = true := by
  unfold fetchLost
  simp [hs]

@[simp] theorem linkDown_holderWf (s : State) (p : Port) (hs : s.sem.holder.wf none = true) :
    (s.linkDown p).sem.holder.wf none = true := by
  unfold linkDown
  simp [hs]

@[simp] theorem flr_holderWf (s : State) (p : Port) (hs : s.sem.holder.wf none = true) :
    (s.flr p).sem.holder.wf none = true := by
  unfold flr
  simp [hs]

@[simp] theorem cfgWrite_holderWf (s : State) (p : Port) (o : Nat) (v : Word) (hs : s.sem.holder.wf none = true) :
    (s.cfgWrite p o v).sem.holder.wf none = true := by
  unfold cfgWrite
  dsimp only
  (repeat' split) <;> simp [hs]

end Sys2Proof.Machine.State
end

section
/-! SUPPORT. What a command may change beside registers and the state of its own unit: capture memory, fuses, power
domains, engine time. A command goes on to a next state, keeps the queue, keeps what it does not name, and keeps every table
canonical. -/

namespace Sys2Proof

@[simp] theorem Tab.wf_nil {α : Type} [DecidableEq α] (d : α) : Tab.wf d [] = true := rfl

/-- The parts of the state that few commands change. -/
structure Parts where
  memory : Bool := false
  fuses : Bool := false
  domains : Bool := false
  time : Bool := false

/-- The parts that a command may change. -/
def Instr.mayChange (c : Instr) : Parts := ⟨c.mayWriteMemory, c.mayWorkFuses, c.mayMovePower, c.mayMoveTime⟩

namespace Machine.State

/-- `t` has the waiting commands of `s` and, outside the parts `w`, its memory, fuses, domains and time; its tables are
canonical where those of `s` are. -/
structure Keeps (s : State) (w : Parts) (t : State) : Prop where
  pending : t.pending = s.pending
  sdram : w.memory = false → t.sdram = s.sdram
  fuse : w.fuses = false → t.fuse = s.fuse
  dom : w.domains = false → t.dom = s.dom
  time : w.time = false → t.time = s.time
  tables : s.tabsOk = true → t.tabsOk = true

/-- A command's outcome from `s` is a next state that keeps what lies outside the parts `w`. -/
def Goes (s : State) (w : Parts) (o : Res) : Prop := ∃ t, o = .next t ∧ s.Keeps w t

@[simp] theorem tabsOk_iff (s : State) :
    s.tabsOk = true ↔ s.regs.rising = true ∧ s.act.rising = true ∧ s.sem.holder.wf none = true ∧
      s.sem.tieLoser.wf none = true ∧ s.mirror.words.wf 0#32 = true ∧ s.sdram.wf 0#8 = true := by
  simp only [tabsOk, Bool.and_eq_true, and_assoc]
  rfl

@[simp] theorem keeps_iff {s t : State} {w : Parts} :
    s.Keeps w t ↔ t.pending = s.pending ∧ (w.memory = false → t.sdram = s.sdram) ∧ (w.fuses = false → t.fuse = s.fuse) ∧
      (w.domains = false → t.dom = s.dom) ∧ (w.time = false → t.time = s.time) ∧ (s.tabsOk = true → t.tabsOk = true) :=
  ⟨fun ⟨a, b, c, d, e, f⟩ => ⟨a, b, c, d, e, f⟩, fun ⟨a, b, c, d, e, f⟩ => ⟨a, b, c, d, e, f⟩⟩

@[simp] theorem goes_next {s t : State} {w : Parts} : s.Goes w (.next t) ↔ s.Keeps w t :=
  ⟨fun ⟨_, h, k⟩ => by cases h; exact k, fun k => ⟨t, rfl, k⟩⟩

theorem Keeps.rfl {s : State} {w : Parts} : s.Keeps w s := ⟨by rfl, fun _ => by rfl, fun _ => by rfl, fun _ => by rfl, fun _ => by rfl, id⟩

theorem goes_ite {s : State} {w : Parts} {c : Prop} [Decidable c] {a b : Res} (ha : s.Goes w a) (hb : s.Goes w b) :
    s.Goes w (if c then a else b) := by
  split
  · exact ha
  · exact hb

theorem Keeps.trans {s t u : State} {w : Parts} (h : s.Keeps w t) (k : t.Keeps w u) : s.Keeps w u where
  pending := k.pending.trans h.pending
  sdram e := (k.sdram e).trans (h.sdram e)
  fuse e := (k.fuse e).trans (h.fuse e)
  dom e := (k.dom e).trans (h.dom e)
  time e := (k.time e).trans (h.time e)
  tables e := k.tables (h.tables e)

/-- A write of a Control Port keeps what its effect keeps, and is else completed or refused. -/
theorem hubWrite_keeps {s : State} {p : Port} {off : Nat} {sem : Option Nat} {effect : State → State} {w : Parts}
    (h : ∀ z : State, z.Keeps w (effect z)) : s.Keeps w (s.hubWrite p off sem effect) := by
  have hc : s.Keeps w (s.complete .ok) := by simp +contextual
  unfold hubWrite portWrite
  split
  · exact hc
  · split
    · exact hc.trans (h _)
    · split
      · exact hc.trans (h _)
      · exact hc.trans (by simp +contextual)

theorem goes_hubWrite {s : State} {p : Port} {off : Nat} {sem : Option Nat} {effect : State → State} {w : Parts}
    (h : ∀ z : State, z.Keeps w (effect z)) : s.Goes w (.next (s.hubWrite p off sem effect)) :=
  goes_next.2 (hubWrite_keeps h)

theorem Keeps.of_aside {s t : State} (h : aside s t) : s.Keeps {} t := by
  obtain ⟨hp, hs, hf, he, hd, ht, ha, hr, hm⟩ := h
  simp +contextual [*]

/-- An instruction of a kernel processor keeps what its body keeps. -/
theorem goes_kpExec {s : State} {n : Nat} {got : KpGot} {k : KpKind} {body : State → KpEnd}
    (h : ∀ t, endAside t (body t)) : s.Goes {} (.next (s.kpExec n got k body)) :=
  goes_next.2 (.of_aside (kpExec_aside s n got k body h))

theorem keeps_kpEnter (s : State) (n src : Nat) : s.Keeps {} (s.kpEnter n src) := by
  unfold kpEnter
  split
  · simp +contextual
  · next t h =>
    refine (Keeps.of_aside (kpPush_keeps h)).trans ?_
    dsimp only
    split <;> simp +contextual

end Machine.State

end Sys2Proof
end

section
/-! SUPPORT. Every command goes on, and keeps what it does not name: one lemma for each command, unit by unit. -/

namespace Sys2Proof.Machine

open State

section

variable (s : State) (p : Port) (v : Word)

/-! ### The fabric and the supply -/

theorem execEbBlockArrive_goes (p : Fin 4) : s.Goes {} (execEbBlockArrive p s) := by
  unfold execEbBlockArrive
  split <;> simp +contextual

theorem execDroopTrip_goes (sagMv : Nat) : s.Goes {} (execDroopTrip sagMv s) := by
  unfold execDroopTrip
  dsimp only
  (repeat' split) <;> simp (maxDischargeDepth := 60) +contextual

theorem execPclkStepUp_goes : s.Goes {} (execPclkStepUp s) := by
  unfold execPclkStepUp
  split <;> simp +contextual

/-! ### Field control and housekeeping -/

theorem execFcdCodeWrite_goes (f : Fin 8) : s.Goes {} (execFcdCodeWrite p f v s) :=
  goes_hubWrite fun z => by simp +contextual

theorem execFcdPwmPeriod_goes (f : Fin 8) : s.Goes {} (execFcdPwmPeriod f s) := by
  unfold execFcdPwmPeriod
  split <;> simp +contextual

theorem execClrdacFall_goes : s.Goes {} (execClrdacFall s) := by
  unfold execClrdacFall
  split <;> simp +contextual

theorem execClrdacRelease_goes : s.Goes {} (execClrdacRelease s) := by
  unfold execClrdacRelease
  split <;> simp +contextual

theorem execFcdDriveEnable_goes (f : Fin 8) : s.Goes {} (execFcdDriveEnable p f s) :=
  goes_hubWrite fun z => by simp +contextual

theorem execFcdPredriveDone_goes (f : Fin 8) : s.Goes {} (execFcdPredriveDone f s) := by
  unfold execFcdPredriveDone
  split <;> simp (maxDischargeDepth := 60) +contextual

theorem execFcdDriveDisable_goes (f : Fin 8) : s.Goes {} (execFcdDriveDisable p f s) :=
  goes_hubWrite fun z => by simp +contextual

theorem execVhkReturn_goes : s.Goes {} (execVhkReturn s) := by
  unfold execVhkReturn
  split <;> simp +contextual

theorem execFcdRangeWrite_goes (f : Fin 8) (range : Fin 2) : s.Goes {} (execFcdRangeWrite p f range s) :=
  goes_hubWrite fun z => by simp +contextual

theorem execFcdRangeSettled_goes (f : Fin 8) : s.Goes {} (execFcdRangeSettled f s) := by
  unfold execFcdRangeSettled
  split <;> simp +contextual

theorem execHkStart_goes : s.Goes {} (execHkStart p v s) :=
  goes_hubWrite fun z => by simp +contextual

theorem execHkStop_goes : s.Goes {} (execHkStop p v s) :=
  goes_hubWrite fun z => by simp +contextual

theorem execHkConversion_goes (a b : Int) : s.Goes {} (execHkConversion a b s) := by
  unfold execHkConversion
  (repeat' split) <;> simp (maxDischargeDepth := 60) +contextual

theorem execHkScanDone_goes : s.Goes {} (execHkScanDone s) := by
  unfold execHkScanDone
  (repeat' split) <;> simp (maxDischargeDepth := 60) +contextual

/-! ### Converters -/

theorem execFabricEntryParcel_goes (n : Fin 4) (samples : List Int) (at_ : Stamp) (rx : Option (List Byte)) (lane : Fin 52) :
    s.Goes {} (execFabricEntryParcel n samples at_ rx lane s) := by
  unfold execFabricEntryParcel
  dsimp only
  (repeat' split) <;> simp +contextual

theorem execCarouselHandover_goes (n : Fin 4) (residual : Nat) (lowInput stuck : Bool) (offset gain timing : BitVec 10) :
    s.Goes {} (execCarouselHandover n residual lowInput stuck offset gain timing s) := by
  unfold execCarouselHandover
  split <;> simp (maxDischargeDepth := 60) +contextual

theorem execReconverge_goes (n : Fin 4) (w : Option (Port × Word)) : s.Goes {} (execReconverge n w s) := by
  unfold execReconverge
  split <;> simp +contextual

theorem execReconvergeDone_goes (n : Fin 4) : s.Goes {} (execReconvergeDone n s) := by
  unfold execReconvergeDone
  split <;> simp +contextual

theorem execInputSelChange_goes (n : Fin 4) : s.Goes {} (execInputSelChange n s) :=
  have hs : ∀ x : CnvSt, s.Keeps {} (s.setConv n x) := fun x => by simp +contextual
  have hd : ∀ t : State, t.Keeps {} (t.ddcStep n) := fun t => by simp +contextual
  goes_ite (goes_next.2 .rfl) (goes_ite (goes_next.2 (hs _)) (goes_next.2 ((hs _).trans (hd _))))

theorem execZoneChange_goes (n : Fin 4) : s.Goes {} (execZoneChange n s) := by
  unfold execZoneChange
  dsimp only
  split <;> simp +contextual

theorem execOvrEpisodeStart_goes (n : Fin 4) (index : Nat) : s.Goes {} (execOvrEpisodeStart n index s) := by
  unfold execOvrEpisodeStart
  split <;> simp (maxDischargeDepth := 60) +contextual

theorem execProtHoldExpire_goes (n : Fin 4) : s.Goes {} (execProtHoldExpire n s) := by
  unfold execProtHoldExpire
  split <;> simp +contextual

theorem execProtRelease_goes (n : Fin 4) : s.Goes {} (execProtRelease p n v s) :=
  goes_hubWrite fun z => by simp +contextual

theorem execProtMinClipReached_goes (n : Fin 4) : s.Goes {} (execProtMinClipReached n s) := by
  unfold execProtMinClipReached
  split <;> simp +contextual

theorem execOvrEpisodeEnd_goes (n : Fin 4) : s.Goes {} (execOvrEpisodeEnd n s) := by
  simp +contextual [execOvrEpisodeEnd]

/-! ### Down-converters and zoom -/

theorem execDdcCommit_goes (path : Fin 4) : s.Goes {} (execDdcCommit p path v s) :=
  goes_hubWrite fun z => by simp +contextual

theorem execDdcCommitApply_goes (path : Fin 4) : s.Goes {} (execDdcCommitApply path s) := by
  unfold execDdcCommitApply
  split <;> simp +contextual

theorem execZmSwap_goes (path : Fin 4) (w : Fin 8) : s.Goes {} (execZmSwap p path w v s) :=
  goes_hubWrite fun z => by simp +contextual

theorem execZmFadeStart_goes (path : Fin 4) (w : Fin 8) (index : Nat) : s.Goes {} (execZmFadeStart path w index s) := by
  unfold execZmFadeStart
  dsimp only
  (repeat' split) <;> simp (maxDischargeDepth := 60) +contextual

theorem execZmFadeDone_goes (path : Fin 4) (w : Fin 8) : s.Goes {} (execZmFadeDone path w s) := by
  unfold execZmFadeDone
  dsimp only
  (repeat' split) <;> simp (maxDischargeDepth := 60) +contextual

theorem execZmCoefAccess_goes (path : Fin 4) (w : Fin 8) (v : Option Word) :
    s.Goes {} (execZmCoefAccess p path w v s) := by
  unfold execZmCoefAccess
  (repeat' split) <;> simp +contextual

/-! ### Transforms and detectors -/

theorem execSpectrumProduce_goes (path : Fin 4) (i : Fin 8) : s.Goes {} (execSpectrumProduce path i s) := by
  simp +contextual [execSpectrumProduce]

theorem execDetIntervalEnd_goes (path : Fin 4) (i : Fin 8) : s.Goes {} (execDetIntervalEnd path i s) := by
  unfold execDetIntervalEnd
  dsimp only
  split <;> simp +contextual

theorem execDetHoldReset_goes (path : Fin 4) (i : Fin 8) : s.Goes {} (execDetHoldReset p path i v s) :=
  goes_hubWrite fun z => by simp +contextual

theorem execSkBlockEnd_goes (path : Fin 4) : s.Goes {} (execSkBlockEnd path s) := by
  unfold execSkBlockEnd
  dsimp only
  split <;> simp +contextual

theorem execChzIntegralEnd_goes (path : Fin 4) : s.Goes {} (execChzIntegralEnd path s) := by
  unfold execChzIntegralEnd
  dsimp only
  split <;> simp +contextual

theorem execEnvRecordClose_goes (path : Fin 4) : s.Goes {} (execEnvRecordClose path s) := by
  unfold execEnvRecordClose
  dsimp only
  split <;> simp +contextual

/-! ### Capture memory -/

theorem execCapAllocCreate_goes : s.Goes { memory := true } (execCapAllocCreate p v s) :=
  goes_hubWrite fun z => by simp +contextual

theorem execCapAllocResize_goes : s.Goes { memory := true } (execCapAllocResize p v s) :=
  goes_hubWrite fun z => by simp +contextual

theorem execCapAllocFree_goes : s.Goes { memory := true } (execCapAllocFree p v s) :=
  goes_hubWrite fun z => by simp +contextual

theorem execCapAckWrite_goes (r : Fin 64) : s.Goes {} (execCapAckWrite p r v s) :=
  goes_hubWrite fun z => by simp +contextual

theorem execCapBar4WinWrite_goes (high : Bool) : s.Goes {} (execCapBar4WinWrite p high v s) :=
  goes_hubWrite fun z => by simp +contextual

/-! ### Triggers -/

theorem execTrgEvaluate_goes (c : Fin 64) (e : EvalPoint) : s.Goes {} (execTrgEvaluate c e s) := by
  unfold execTrgEvaluate
  split <;> simp +contextual

theorem execTrgDecide_goes (upTo : Stamp) : s.Goes {} (execTrgDecide upTo s) := by
  unfold execTrgDecide
  split <;> simp +contextual

theorem execTrgArmWrite_goes (c : Fin 64) : s.Goes {} (execTrgArmWrite p c v s) :=
  goes_hubWrite fun z => by simp +contextual

theorem execTrgForce_goes (hi : Bool) : s.Goes {} (execTrgForce p hi v s) :=
  goes_hubWrite fun z => by simp +contextual

theorem execTrgRgnArm_goes (r : Fin 64) : s.Goes {} (execTrgRgnArm p r v s) :=
  goes_hubWrite fun z => by simp +contextual

theorem execTrgRgnDisarm_goes (r : Fin 64) : s.Goes {} (execTrgRgnDisarm p r v s) :=
  goes_hubWrite fun z => by simp +contextual

theorem execTrgRgnHoldEnd_goes (r : Fin 64) : s.Goes {} (execTrgRgnHoldEnd r s) := by
  unfold execTrgRgnHoldEnd
  dsimp only
  split <;> simp +contextual

theorem execSeqWindowLapse_goes (c : Fin 64) : s.Goes {} (execSeqWindowLapse c s) := by
  unfold execSeqWindowLapse
  simp +contextual

theorem execTriginEdge_goes (i : Fin 4) (high : Bool) (tick : Nat) (bin : Fin 64) :
    s.Goes {} (execTriginEdge i high tick bin s) := by
  unfold execTriginEdge
  split <;> simp +contextual

theorem execTriginStuck_goes (i : Fin 4) : s.Goes {} (execTriginStuck i s) := by
  unfold execTriginStuck
  split <;> simp (maxDischargeDepth := 60) +contextual

theorem execTrigoutAligned_goes (o : Fin 4) : s.Goes {} (execTrigoutAligned o s) := by
  unfold execTrigoutAligned
  dsimp only
  (repeat' split) <;> simp +contextual

theorem execTrigoutPulseEnd_goes (o : Fin 4) : s.Goes {} (execTrigoutPulseEnd o s) := by
  unfold execTrigoutPulseEnd
  dsimp only
  (repeat' split) <;> simp +contextual

theorem execTrgAvgReset_goes (path : Fin 4) : s.Goes {} (execTrgAvgReset p path v s) :=
  goes_hubWrite fun z => by simp +contextual

theorem execFltFire_goes (n : Fin 4) (run : FltRun) (at_ : Stamp) : s.Goes {} (execFltFire n run at_ s) := by
  unfold execFltFire
  split <;> simp +contextual

theorem execCapFormatUnit_goes (r : Fin 64) (x : Parcel) : s.Goes { memory := true } (execCapFormatUnit r x s) := by
  unfold execCapFormatUnit
  dsimp only
  split <;> simp +contextual

theorem execCapCaptureEnd_goes (r : Fin 64) : s.Goes { memory := true } (execCapCaptureEnd r s) := by
  unfold execCapCaptureEnd
  (repeat' split) <;> simp +contextual

/-! ### Density tables and masks -/

theorem execKalSpectrum_goes (k : Fin 2) (x : Parcel) (bad : List Nat) :
    s.Goes { memory := true } (execKalSpectrum k x bad s) := by
  simp +contextual [execKalSpectrum]

theorem execKalDecaySweep_goes (k : Fin 2) : s.Goes {} (execKalDecaySweep k s) := by
  unfold execKalDecaySweep
  (repeat' split) <;> simp +contextual

theorem execKalDecaySweepDone_goes (k : Fin 2) : s.Goes {} (execKalDecaySweepDone k s) := by
  unfold execKalDecaySweepDone
  split <;> simp +contextual

theorem execKalFreeze_goes (k : Fin 2) : s.Goes {} (execKalFreeze p k v s) :=
  goes_hubWrite fun z => by simp +contextual

theorem execKalReady_goes (k : Fin 2) : s.Goes {} (execKalReady k s) := by
  unfold execKalReady
  dsimp only
  (repeat' split) <;> simp (maxDischargeDepth := 60) +contextual

theorem execKalClear_goes (k : Fin 2) : s.Goes {} (execKalClear p k v s) :=
  goes_hubWrite fun z => by simp +contextual

theorem execKalClearDone_goes (k : Fin 2) : s.Goes {} (execKalClearDone k s) := by
  unfold execKalClearDone
  dsimp only
  (repeat' split) <;> simp (maxDischargeDepth := 60) +contextual

theorem execMskEvaluate_goes (m : Fin 64) (x : Parcel) (bad : List Nat) : s.Goes {} (execMskEvaluate m x bad s) := by
  simp +contextual [execMskEvaluate]

theorem execMskSwap_goes : s.Goes {} (execMskSwap p v s) :=
  goes_hubWrite fun z => by simp +contextual

theorem execNrtResume_goes : s.Goes {} (execNrtResume s) := by
  unfold execNrtResume
  split <;> simp +contextual

/-! ### The display -/

theorem execDispCommit_goes : s.Goes {} (execDispCommit p v s) :=
  goes_hubWrite fun z => by simp +contextual

theorem execDispVblank_goes : s.Goes {} (execDispVblank s) := by
  unfold execDispVblank
  split <;> simp (maxDischargeDepth := 60) +contextual

theorem execDispComposeLine_goes (late : Bool) (overlay : List Word) (bad : List Nat) (fixed : List (Nat × Fin 2 × Fin 39)) :
    s.Goes {} (execDispComposeLine late overlay bad fixed s) := by
  unfold execDispComposeLine
  dsimp only
  (repeat' split) <;> simp (maxDischargeDepth := 60) +contextual

theorem execDispClockSettled_goes : s.Goes {} (execDispClockSettled s) := by
  unfold execDispClockSettled
  split <;> simp +contextual

theorem execDispLinkTrained_goes (rateA rateB : Fin 5) : s.Goes {} (execDispLinkTrained rateA rateB s) := by
  unfold execDispLinkTrained
  (repeat' split) <;> simp +contextual

theorem execDispTrainFail_goes : s.Goes {} (execDispTrainFail s) := by
  unfold execDispTrainFail
  split <;> simp +contextual

theorem execDispHpdUnplug_goes (b : Bool) : s.Goes {} (execDispHpdUnplug b s) := by
  unfold execDispHpdUnplug
  split <;> simp (maxDischargeDepth := 60) +contextual

theorem execDispHpdPlug_goes (b : Bool) : s.Goes {} (execDispHpdPlug b s) := by
  unfold execDispHpdPlug
  split <;> simp +contextual

theorem execDispIrqHpd_goes (b retrain : Bool) : s.Goes {} (execDispIrqHpd b retrain s) := by
  unfold execDispIrqHpd
  split <;> simp +contextual

theorem execDispAuxGo_goes : s.Goes {} (execDispAuxGo p v s) :=
  goes_hubWrite fun z => by simp +contextual

theorem execDispAuxDone_goes (nack : Bool) (data : List Byte) : s.Goes {} (execDispAuxDone nack data s) := by
  unfold execDispAuxDone
  split <;> simp (maxDischargeDepth := 60) +contextual

theorem execLayerReleased_goes (l : Fin 4) : s.Goes {} (execLayerReleased l s) := by
  unfold execLayerReleased
  split <;> simp +contextual

theorem execLayerFault_goes (cause : Fin 4) : s.Goes {} (execLayerFault cause s) := by
  unfold execLayerFault
  (repeat' split) <;> simp +contextual

/-! ### Paths and tiles -/

theorem execPathTakeBlock_goes (path : Fin 4) (frames : List Frame) (ecc : Ecc) :
    s.Goes {} (execPathTakeBlock path frames ecc s) := by
  unfold execPathTakeBlock
  dsimp only
  (repeat' split) <;> simp +contextual

theorem execTileFire_goes (t : Fin 1088) (how : FireEnd) (work : TileWork) (product : Option Frame) :
    s.Goes {} (execTileFire t how work product s) := by
  unfold execTileFire
  (repeat' split) <;> simp +contextual

theorem execReorderRelease_goes (p : Fin 4) (ecc : Ecc) : s.Goes {} (execReorderRelease p ecc s) := by
  unfold execReorderRelease
  (repeat' split) <;> simp +contextual

theorem execReplayParcelRead_goes (path : Fin 4) (ecc : Ecc) : s.Goes {} (execReplayParcelRead path ecc s) := by
  unfold execReplayParcelRead
  dsimp only
  (repeat' split) <;> simp +contextual

/-! ### The Mirror Port -/

theorem execMpReadCycle_goes (a : Option (BitVec 16)) : s.Goes {} (execMpReadCycle a s) := by
  unfold execMpReadCycle
  (repeat' split) <;> simp +contextual

theorem execMpWriteRefused_goes (a : BitVec 16) : s.Goes {} (execMpWriteRefused a v s) := by
  unfold execMpWriteRefused
  split <;> simp +contextual

theorem execFcForce_goes (hi : Bool) : s.Goes {} (execFcForce hi v s) := by
  simp +contextual [execFcForce]

theorem execFcArm_goes (hi : Bool) : s.Goes {} (execFcArm hi v s) := by
  simp +contextual [execFcArm]

theorem execFcDisarm_goes (hi : Bool) : s.Goes {} (execFcDisarm hi v s) := by
  simp +contextual [execFcDisarm]

theorem execFcFcdClear_goes : s.Goes {} (execFcFcdClear v s) := by
  simp +contextual [execFcFcdClear]

theorem execFcMarker_goes : s.Goes {} (execFcMarker v s) := by
  simp +contextual [execFcMarker]

theorem execMpCtlWrite_goes : s.Goes {} (execMpCtlWrite p v s) :=
  goes_hubWrite fun z => by simp +contextual

theorem execMirrorGatheredUpdate_goes (g : Fin 240) : s.Goes {} (execMirrorGatheredUpdate g s) := by
  unfold execMirrorGatheredUpdate
  split <;> simp +contextual

/-! ### Images and keys -/

theorem execImgLoadGo_goes (head : Option (List Byte)) : s.Goes {} (execImgLoadGo p v head s) :=
  goes_hubWrite fun z => by simp +contextual

theorem execImgLoadWaitStart_goes (head : Option (List Byte)) : s.Goes {} (execImgLoadWaitStart head s) := by
  unfold execImgLoadWaitStart
  (repeat' split) <;> simp +contextual

theorem execImgPass1Done_goes (image : Option (List Byte)) : s.Goes {} (execImgPass1Done image s) := by
  unfold execImgPass1Done
  (repeat' split) <;> simp +contextual

theorem execImgPass2Done_goes (image : Option (List Byte)) : s.Goes {} (execImgPass2Done image s) := by
  unfold execImgPass2Done
  dsimp only
  (repeat' split) <;> simp +contextual

theorem execImgAdmission_goes (sweepFailed : Bool) : s.Goes {} (execImgAdmission sweepFailed s) := by
  unfold execImgAdmission
  dsimp only
  (repeat' split) <;> simp (maxDischargeDepth := 60) +contextual

theorem execImgAbort_goes : s.Goes {} (execImgAbort p v s) :=
  goes_hubWrite fun z => by simp +contextual

theorem execImgUnload_goes : s.Goes {} (execImgUnload p v s) :=
  goes_hubWrite fun z => by simp +contextual

theorem execKeyEnrol_goes : s.Goes { fuses := true } (execKeyEnrol p v s) :=
  goes_hubWrite fun z => by simp +contextual

theorem execKeyRevoke_goes : s.Goes { fuses := true } (execKeyRevoke p v s) :=
  goes_hubWrite fun z => by simp +contextual

theorem execKeySetSvn_goes : s.Goes { fuses := true } (execKeySetSvn p v s) :=
  goes_hubWrite fun z => by simp +contextual

/-! ### The timing unit -/

theorem execTiuTimeArm_goes : s.Goes {} (execTiuTimeArm p v s) :=
  goes_hubWrite fun z => by simp +contextual

theorem execEvEdge_goes (j : Fin 16) (high : Bool) (tick : Nat) (bin : Fin 64) :
    s.Goes {} (execEvEdge j high tick bin s) := by
  unfold execEvEdge
  split <;> simp +contextual

theorem execEvStuck_goes (j : Fin 16) : s.Goes {} (execEvStuck j s) := by
  unfold execEvStuck
  split <;> simp (maxDischargeDepth := 60) +contextual

theorem execTiuEvFifoPop_goes (j : Fin 16) (w : Fin 4) : s.Goes {} (execTiuEvFifoPop p j w s) := by
  unfold execTiuEvFifoPop
  split <;> simp +contextual

theorem execTiuCdcGo_goes : s.Goes {} (execTiuCdcGo p v s) :=
  goes_hubWrite fun z => by simp +contextual

theorem execTiuCdcDone_goes (hits : List Nat) : s.Goes {} (execTiuCdcDone hits s) := by
  unfold execTiuCdcDone
  (repeat' split) <;> simp +contextual

theorem execFinEdge_goes (k : Fin 2) (tick : Nat) (bin : Fin 64) (overRate : Bool) :
    s.Goes {} (execFinEdge k tick bin overRate s) := by
  unfold execFinEdge
  split <;> simp +contextual

theorem execTiuFinGate_goes (k : Fin 2) : s.Goes {} (execTiuFinGate k s) := by
  unfold execTiuFinGate
  split <;> simp +contextual

theorem execTiuStatGo_goes (s_ : Fin 4) : s.Goes {} (execTiuStatGo p s_ v s) :=
  goes_hubWrite fun z => by simp +contextual

theorem execTiuStatDone_goes (s_ : Fin 4) : s.Goes {} (execTiuStatDone s_ s) := by
  unfold execTiuStatDone
  split <;> simp +contextual

theorem execCanarySweepStart_goes (periodic : Bool) : s.Goes {} (execCanarySweepStart periodic s) := by
  unfold execCanarySweepStart
  dsimp only
  split <;> simp +contextual

theorem execCanarySweepDone_goes (tiles kps : List CanaryTime) : s.Goes {} (execCanarySweepDone tiles kps s) := by
  unfold execCanarySweepDone
  (repeat' split) <;> simp +contextual

/-! ### Clocks -/

theorem execRefLost_goes : s.Goes {} (execRefLost s) := by
  unfold execRefLost
  split <;> simp +contextual

theorem execRefReturn_goes (mhz100 : Bool) : s.Goes {} (execRefReturn mhz100 s) := by
  unfold execRefReturn
  split <;> simp +contextual

theorem execRefFreqWrite_goes : s.Goes {} (execRefFreqWrite p v s) :=
  goes_hubWrite fun z => by simp +contextual

theorem execPpsEdge_goes (tick : Nat) (bin : Fin 64) : s.Goes { time := true } (execPpsEdge tick bin s) := by
  unfold execPpsEdge
  dsimp only
  (repeat' split) <;> simp +contextual

theorem execPpsWindowMissed_goes : s.Goes {} (execPpsWindowMissed s) := by
  unfold execPpsWindowMissed
  split <;> simp (maxDischargeDepth := 60) +contextual

theorem execSpllDivWrite_goes : s.Goes {} (execSpllDivWrite p v s) :=
  goes_hubWrite fun z => by simp +contextual

theorem execSpllLfWrite_goes : s.Goes {} (execSpllLfWrite p v s) :=
  goes_hubWrite fun z => by simp +contextual

theorem execSpllHop_goes : s.Goes {} (execSpllHop p v s) :=
  goes_hubWrite fun z => by simp +contextual

theorem execSpllTrip_goes : s.Goes {} (execSpllTrip s) := by
  unfold execSpllTrip
  split <;> simp +contextual

theorem execSpllLock_goes (run : LockRun) : s.Goes {} (execSpllLock run s) := by
  unfold execSpllLock
  split <;> simp +contextual

theorem execClkoutCtlWrite_goes (k : Fin 2) (dly : Bool) : s.Goes {} (execClkoutCtlWrite p k dly v s) := by
  unfold execClkoutCtlWrite
  split <;> simp +contextual

theorem execSyncInEdge_goes (tick : Nat) (bin : Fin 64) (applied : Nat) (sliceMoved : Bool) :
    s.Goes {} (execSyncInEdge tick bin applied sliceMoved s) := by
  unfold execSyncInEdge
  split <;> simp (maxDischargeDepth := 60) +contextual

theorem execSyncIssue_goes : s.Goes {} (execSyncIssue p v s) :=
  goes_hubWrite fun z => by simp +contextual

theorem execUpllUnlock_goes : s.Goes {} (execUpllUnlock s) := by
  unfold execUpllUnlock
  split <;> simp +contextual

theorem execUpllRelock_goes : s.Goes {} (execUpllRelock s) := by
  unfold execUpllRelock
  split <;> simp +contextual

/-! ### Calibration -/

theorem execCalGo_goes : s.Goes {} (execCalGo p v s) :=
  goes_hubWrite fun z => by simp +contextual

theorem execCalNext_goes : s.Goes {} (execCalNext p v s) :=
  goes_hubWrite fun z => by simp +contextual

theorem execCalPassDone_goes (readings : List (Nat × Int × Int)) (invalid overranged : Bool) :
    s.Goes { time := true } (execCalPassDone readings invalid overranged s) := by
  unfold execCalPassDone
  (repeat' split) <;> simp +contextual

theorem execCalGroupTimeout_goes : s.Goes {} (execCalGroupTimeout s) := by
  unfold execCalGroupTimeout
  (repeat' split) <;> simp +contextual

theorem execCalAbort_goes : s.Goes {} (execCalAbort p v s) :=
  goes_hubWrite fun z => by simp +contextual

theorem execCalCommit_goes : s.Goes {} (execCalCommit p v s) :=
  goes_hubWrite fun z => by simp +contextual

theorem execCalCommitDone_goes (good : Bool) : s.Goes {} (execCalCommitDone good s) := by
  unfold execCalCommitDone
  (repeat' split) <;> simp (maxDischargeDepth := 60) +contextual

theorem execCalStaleCheck_goes (temps : List (Fin 8 × Int)) : s.Goes {} (execCalStaleCheck temps s) := by
  unfold execCalStaleCheck
  split <;> simp +contextual

theorem execCalStGo_goes : s.Goes {} (execCalStGo p v s) :=
  goes_hubWrite fun z => by simp +contextual

theorem execCalStDone_goes (data : Option (List Byte)) (verified : Bool) :
    s.Goes {} (execCalStDone data verified s) := by
  unfold execCalStDone
  dsimp only
  (repeat' split) <;> simp +contextual

/-! ### Kernel processors -/

theorem execKpInterrupt_goes (n : Fin 64) : s.Goes {} (execKpInterrupt n s) := by
  have hk : ∀ x : KpSt, s.Keeps {} (s.setKp n x) := fun x => by simp +contextual
  unfold execKpInterrupt
  split
  · simp
  · split
    · simp
    · exact goes_next.2 ((hk _).trans (keeps_kpEnter _ _ _))

theorem execKpTimerExpire_goes (n : Fin 64) : s.Goes {} (execKpTimerExpire n s) := by
  unfold execKpTimerExpire
  dsimp only
  split <;> simp +contextual

theorem execKpWatchdog_goes (n : Fin 64) : s.Goes {} (execKpWatchdog n s) := by
  unfold execKpWatchdog
  dsimp only
  split <;> simp +contextual

theorem execKpInboxParcel_goes (n : Fin 64) (x : Parcel) : s.Goes {} (execKpInboxParcel n x s) := by
  simp +contextual [execKpInboxParcel]

theorem execKpMboxInPost_goes (n : Fin 64) : s.Goes {} (execKpMboxInPost p n v s) :=
  goes_hubWrite fun z => by simp +contextual

theorem execKpMboxOutClear_goes (n : Fin 64) : s.Goes {} (execKpMboxOutClear p n v s) :=
  goes_hubWrite fun z => by simp +contextual

theorem execKpWindowAccess_goes (n : Fin 68) (word : Fin 24576) (w : Option Word) :
    s.Goes {} (execKpWindowAccess p n word w s) := by
  unfold execKpWindowAccess
  split <;> simp +contextual

theorem execKpReset_goes (n : Fin 64) : s.Goes {} (execKpReset p n v s) :=
  goes_hubWrite fun z => by simp +contextual

theorem execKpRun_goes (n : Fin 64) : s.Goes {} (execKpRun p n v s) :=
  goes_hubWrite fun z => by simp +contextual

theorem execKpHalt_goes (n : Fin 64) : s.Goes {} (execKpHalt p n v s) :=
  goes_hubWrite fun z => by simp +contextual

theorem execKpIllegalInstruction_goes (n : Fin 64) (got : KpGot) : s.Goes {} (execKpIllegalInstruction n got s) := by
  unfold execKpIllegalInstruction
  dsimp only
  (repeat' split) <;> simp +contextual

/-! ### DMA -/

theorem execDmaGo_goes (n : Fin 128) : s.Goes {} (execDmaGo p n v s) :=
  goes_hubWrite fun z => by simp +contextual

theorem execDmaDescFetch_goes (n : Fin 128) (b : List Byte) : s.Goes {} (execDmaDescFetch n b s) := by
  unfold execDmaDescFetch
  split <;> simp +contextual

theorem execDmaBurst_goes (n : Fin 128) : s.Goes {} (execDmaBurst n s) := by
  unfold execDmaBurst
  dsimp only
  (repeat' split) <;> simp +contextual

theorem execDmaBeatComplete_goes (n : Fin 128) (got : DmaBeat) :
    s.Goes { memory := true } (execDmaBeatComplete n got s) := by
  simp +contextual [execDmaBeatComplete]

theorem execDmaComplete_goes (n : Fin 128) : s.Goes {} (execDmaComplete n s) := by
  simp +contextual [execDmaComplete]

theorem execDmaDisable_goes (n : Fin 128) : s.Goes {} (execDmaDisable p n v s) :=
  goes_hubWrite fun z => by simp +contextual

theorem execDmaExitParcel_goes (n : Fin 128) (x : Parcel) : s.Goes {} (execDmaExitParcel n x s) := by
  unfold execDmaExitParcel
  dsimp only
  (repeat' split) <;> simp (maxDischargeDepth := 60) +contextual

theorem execDmaRingPartnerWrite_goes (n : Fin 128) : s.Goes {} (execDmaRingPartnerWrite p n v s) :=
  goes_hubWrite fun z => by simp +contextual

theorem execDmaCqTailWrite_goes (q : Fin 16) : s.Goes {} (execDmaCqTailWrite p q v s) :=
  goes_hubWrite fun z => by simp +contextual

theorem execDmaQuiesceTimeout_goes : s.Goes {} (execDmaQuiesceTimeout s) := by
  unfold execDmaQuiesceTimeout
  split <;> simp (maxDischargeDepth := 60) +contextual

theorem execDmaResume_goes : s.Goes {} (execDmaResume s) := by
  simp +contextual [execDmaResume]

/-! ### Ensembles -/

theorem execEnsTokenRx_goes (ring : Fin 2) (bytes : List Byte) (second : Bool) :
    s.Goes { time := true } (execEnsTokenRx ring bytes second s) := by
  unfold execEnsTokenRx
  (repeat' split) <;> simp +contextual

theorem execEnsHeartbeat_goes : s.Goes {} (execEnsHeartbeat s) := by
  unfold execEnsHeartbeat
  split <;> simp +contextual

theorem execEnsRingLoss_goes (ring : Fin 2) (lockLost silent : Bool) :
    s.Goes {} (execEnsRingLoss ring lockLost silent s) := by
  unfold execEnsRingLoss
  simp (maxDischargeDepth := 60) +contextual [-List.foldl_reverse]

theorem execEnsFprint_goes : s.Goes {} (execEnsFprint s) := by
  unfold execEnsFprint
  split <;> simp +contextual

theorem execEnsTokenArm_goes : s.Goes {} (execEnsTokenArm p v s) :=
  goes_hubWrite fun z => by simp +contextual

theorem execEnsTokenDisarm_goes : s.Goes {} (execEnsTokenDisarm p v s) :=
  goes_hubWrite fun z => by simp +contextual

theorem execEnsTokenApply_goes : s.Goes {} (execEnsTokenApply s) := by
  unfold execEnsTokenApply
  dsimp only
  (repeat' split) <;> simp (maxDischargeDepth := 60) +contextual

theorem execEnsTokenReturn_goes (ack : BitVec 16) : s.Goes {} (execEnsTokenReturn ack s) := by
  unfold execEnsTokenReturn
  split <;> simp +contextual

theorem execEnsSync_goes : s.Goes {} (execEnsSync p v s) :=
  goes_hubWrite fun z => by simp +contextual

theorem execEnsSyncAbort_goes : s.Goes {} (execEnsSyncAbort s) := by
  unfold execEnsSyncAbort
  split <;> simp +contextual

theorem execEnsStateApply_goes : s.Goes {} (execEnsStateApply s) := by
  unfold execEnsStateApply
  split <;> simp +contextual

theorem execEnsRingBlockLock_goes (ring : Fin 2) : s.Goes {} (execEnsRingBlockLock ring s) := by
  unfold execEnsRingBlockLock
  split <;> simp +contextual

/-! ### Instructions of the kernel processors -/

section

variable (n : Fin 64) (got : KpGot)

theorem execKpInstrAlu_goes (x : KpAlu) : s.Goes {} (execKpInstrAlu n got x s) :=
  goes_kpExec fun t => by simp +contextual [endAside, aside]

theorem execKpInstrMac4_goes (x : KpMul) : s.Goes {} (execKpInstrMac4 n got x s) :=
  goes_kpExec fun _ => endAside_trans (by simp +contextual [aside]) (kpMoves_keeps _ _ _ _ _ _)

theorem execKpInstrMac2_goes (a : Fin 4) (x : KpMul) : s.Goes {} (execKpInstrMac2 n got a x s) :=
  goes_kpExec fun _ => endAside_trans (by simp +contextual [aside]) (kpMoves_keeps _ _ _ _ _ _)

theorem execKpInstrMpy4_goes (x : KpMul) : s.Goes {} (execKpInstrMpy4 n got x s) :=
  goes_kpExec fun _ => endAside_trans (by simp +contextual [aside]) (kpMoves_keeps _ _ _ _ _ _)

theorem execKpInstrMpy2_goes (a : Fin 4) (x : KpMul) : s.Goes {} (execKpInstrMpy2 n got a x s) :=
  goes_kpExec fun _ => endAside_trans (by simp +contextual [aside]) (kpMoves_keeps _ _ _ _ _ _)

theorem execKpInstrClrS_goes (a : Fin 4) (moveX moveY : KpMove) : s.Goes {} (execKpInstrClrS n got a moveX moveY s) :=
  goes_kpExec fun _ => endAside_trans (by simp +contextual [aside]) (kpMoves_keeps _ _ _ _ _ _)

theorem execKpInstrLd_goes (d : KpData) (c : Fin 8) (y half : Bool) (m : KpMode) :
    s.Goes {} (execKpInstrLd n got d c y half m s) :=
  goes_kpExec fun t => kpLd_keeps t n got d c y half m

theorem execKpInstrSt_goes (d : KpData) (c : Fin 8) (y half : Bool) (m : KpMode) :
    s.Goes {} (execKpInstrSt n got d c y half m s) :=
  goes_kpExec fun t => kpSt_keeps t n d c y half m

theorem execKpInstrStS_goes (a : Fin 4) (c : Fin 8) (y half : Bool) (m : KpMode) :
    s.Goes {} (execKpInstrStS n got a c y half m s) :=
  goes_kpExec fun t => kpStS_keeps t n a c y half m

theorem execKpInstrMov_goes (dst src : KpReg) : s.Goes {} (execKpInstrMov n got dst src s) :=
  goes_kpExec fun t => by simp +contextual [endAside, aside]

theorem execKpInstrImmediate_goes (x : KpImm) : s.Goes {} (execKpInstrImmediate n got x s) :=
  goes_kpExec fun t => by cases x <;> simp +contextual [endAside, aside]

theorem execKpInstrBranch_goes (c : KpCond) (target : Fin 8192) : s.Goes {} (execKpInstrBranch n got c target s) :=
  goes_kpExec fun t => by split <;> simp [endAside, aside]

theorem execKpInstrCall_goes (c : KpCond) (target : Fin 8192) : s.Goes {} (execKpInstrCall n got c target s) :=
  goes_kpExec fun t => by
    split
    · exact kpCall_keeps t n target
    · simp [endAside, aside]

theorem execKpInstrRet_goes (c : KpCond) : s.Goes {} (execKpInstrRet n got c s) :=
  goes_kpExec fun t => by
    split
    · exact kpPop_keeps t n
    · simp [endAside, aside]

theorem execKpInstrLoop_goes (count : KpCount) (stop : Fin 8192) : s.Goes {} (execKpInstrLoop n got count stop s) :=
  goes_kpExec fun t => kpLoop_keeps t n count stop

theorem execKpInstrRep_goes (count : KpCount) : s.Goes {} (execKpInstrRep n got count s) :=
  goes_kpExec fun t => kpRep_keeps t n count

theorem execKpInstrMax_goes (d i : Fin 16) (c : Fin 8) (u half : Bool) (f : KpStep) :
    s.Goes {} (execKpInstrMax n got d i c u half f s) :=
  goes_kpExec fun t => kpSearch_keeps t n got d i c true u half f

theorem execKpInstrMin_goes (d i : Fin 16) (c : Fin 8) (u half : Bool) (f : KpStep) :
    s.Goes {} (execKpInstrMin n got d i c u half f s) :=
  goes_kpExec fun t => kpSearch_keeps t n got d i c false u half f

theorem execKpInstrExp_goes (d : Fin 16) (src : KpSrc) : s.Goes {} (execKpInstrExp n got d src s) :=
  goes_kpExec fun t => by simp +contextual [endAside, aside]

theorem execKpInstrNorm_goes (d src : KpSrc) (count : Fin 16) : s.Goes {} (execKpInstrNorm n got d src count s) :=
  goes_kpExec fun t => by simp +contextual [endAside, aside]

theorem execKpInstrHalt_goes : s.Goes {} (execKpInstrHalt n got s) :=
  goes_kpExec fun t => by simp +contextual [endAside, aside]

theorem execKpInstrWait_goes : s.Goes {} (execKpInstrWait n got s) :=
  goes_kpExec fun t => by simp +contextual [endAside, aside]

theorem execKpInstrPub_goes (g : Fin 16) : s.Goes {} (execKpInstrPub n got g s) :=
  goes_kpExec fun t => kpPub_keeps t n got g

theorem execKpInstrMboxPost_goes : s.Goes {} (execKpInstrMboxPost n got s) :=
  goes_kpExec fun t => by simp +contextual [endAside, aside]

theorem execKpInstrMboxAck_goes : s.Goes {} (execKpInstrMboxAck n got s) :=
  goes_kpExec fun t => by simp +contextual [endAside, aside]

theorem execKpInstrTrap_goes : s.Goes {} (execKpInstrTrap n got s) :=
  goes_kpExec fun t => by simp +contextual [endAside, aside]

theorem execKpInstrRti_goes : s.Goes {} (execKpInstrRti n got s) :=
  goes_kpExec fun _ => endAside_trans (by simp +contextual [aside]) (kpPop_keeps _ _)

theorem execKpInstrEi_goes : s.Goes {} (execKpInstrEi n got s) :=
  goes_kpExec fun t => by simp +contextual [endAside, aside]

theorem execKpInstrDi_goes : s.Goes {} (execKpInstrDi n got s) :=
  goes_kpExec fun t => by simp +contextual [endAside, aside]

theorem execKpInstrTime_goes (lo hi ph : Fin 16) : s.Goes {} (execKpInstrTime n got lo hi ph s) :=
  goes_kpExec fun t => by simp +contextual [endAside, aside]

end

/-! ### Switch-over -/

theorem execSwitchOverStart_goes : s.Goes {} (execSwitchOverStart s) := by
  unfold execSwitchOverStart
  split <;> simp (maxDischargeDepth := 60) +contextual

theorem execSwitchOverCommit_goes : s.Goes {} (execSwitchOverCommit s) := by
  unfold execSwitchOverCommit
  dsimp only
  split <;> simp +contextual

/-! ### Wear -/

theorem execWearRepairGo_goes (ledgerFails : Bool) : s.Goes {} (execWearRepairGo p v ledgerFails s) :=
  goes_hubWrite fun z => by simp +contextual

theorem execStartupRepairDone_goes : s.Goes {} (execStartupRepairDone s) := by
  unfold execStartupRepairDone
  split <;> simp (maxDischargeDepth := 60) +contextual

theorem execLaneSpareSwap_goes (spare : Fin 52) : s.Goes {} (execLaneSpareSwap spare s) := by
  unfold execLaneSpareSwap
  dsimp only
  (repeat' split) <;> simp (maxDischargeDepth := 60) +contextual

theorem execSteerSweepStart_goes : s.Goes {} (execSteerSweepStart s) := by
  unfold execSteerSweepStart
  (repeat' split) <;> simp +contextual

theorem execSteerSweepDone_goes : s.Goes {} (execSteerSweepDone s) := by
  unfold execSteerSweepDone
  (repeat' split) <;> simp (maxDischargeDepth := 60) +contextual

theorem execLedgerWrite_goes (failed : Bool) : s.Goes {} (execLedgerWrite failed s) := by
  unfold execLedgerWrite
  (repeat' split) <;> simp +contextual

theorem execScrub_goes (what : ScrubFind) : s.Goes {} (execScrub what s) := by
  unfold execScrub
  (repeat' split) <;> simp (maxDischargeDepth := 60) +contextual

theorem execD2dLaneLockLoss_goes (lane : Fin 52) : s.Goes {} (execD2dLaneLockLoss lane s) := by
  unfold execD2dLaneLockLoss
  split <;> simp +contextual

/-! ### Start-up and supplies -/

theorem execRailUndervoltage_goes (rail : Fin 10) :
    s.Goes { memory := true, fuses := true, domains := true, time := true } (execRailUndervoltage rail s) := by
  simp +contextual [execRailUndervoltage]

theorem execRailRestored_goes : s.Goes { domains := true, time := true } (execRailRestored s) := by
  unfold execRailRestored
  simp +contextual

theorem execRailLowAlert_goes (below : Bool) : s.Goes {} (execRailLowAlert below s) := by
  unfold execRailLowAlert
  split <;> simp +contextual

theorem execThermRead_goes (temps : List Int) : s.Goes { domains := true, time := true } (execThermRead temps s) := by
  unfold execThermRead
  split <;> simp +contextual

theorem execPorstAssert_goes :
    s.Goes { memory := true, fuses := true, domains := true, time := true } (execPorstAssert s) := by
  unfold execPorstAssert
  simp +contextual

theorem execPorstRelease_goes (bootSel : Bool) (mgmtAddr : Fin 4) :
    s.Goes { domains := true } (execPorstRelease bootSel mgmtAddr s) := by
  unfold execPorstRelease
  split <;> simp +contextual

theorem execSysrstAssert_goes : s.Goes { domains := true, time := true } (execSysrstAssert s) := by
  unfold execSysrstAssert
  dsimp only
  split <;> simp +contextual

theorem execSysrstRelease_goes : s.Goes { domains := true, time := true } (execSysrstRelease s) := by
  unfold execSysrstRelease
  dsimp only
  (repeat' split) <;> simp +contextual

theorem execGlbRstSys_goes : s.Goes { domains := true, time := true } (execGlbRstSys p v s) :=
  goes_hubWrite fun z => by simp +contextual

theorem execKeyFuseDone_goes : s.Goes { fuses := true, domains := true, time := true } (execKeyFuseDone s) := by
  unfold execKeyFuseDone
  dsimp only
  (repeat' split) <;> simp (maxDischargeDepth := 60) +contextual

theorem execMemTrainDone_goes (chans : List MemTrain) : s.Goes { domains := true } (execMemTrainDone chans s) := by
  unfold execMemTrainDone
  dsimp only
  (repeat' split) <;> simp +contextual

theorem execMemInitDone_goes : s.Goes { memory := true, domains := true } (execMemInitDone s) := by
  unfold execMemInitDone
  split <;> simp +contextual

theorem execStartDone_goes : s.Goes {} (execStartDone s) := by
  unfold execStartDone
  split <;> simp +contextual

theorem execAvsTransaction_goes (good : Bool) (readMv : BitVec 16) (status : Byte) :
    s.Goes {} (execAvsTransaction good readMv status s) := by
  unfold execAvsTransaction
  (repeat' split) <;> simp +contextual

theorem execAvsStatusPoll_goes (status : Byte) : s.Goes {} (execAvsStatusPoll status s) := by
  unfold execAvsStatusPoll
  split <;> simp +contextual

theorem execAvsManWrite_goes : s.Goes {} (execAvsManWrite p v s) :=
  goes_hubWrite fun z => by simp +contextual

theorem execUtilityPllFirstLock_goes (mhz100 : Bool) :
    s.Goes { domains := true, time := true } (execUtilityPllFirstLock mhz100 s) := by
  unfold execUtilityPllFirstLock
  split <;> simp +contextual

theorem execStartupStoreReadDone_goes : s.Goes {} (execStartupStoreReadDone s) := by
  unfold execStartupStoreReadDone
  split <;> simp +contextual

/-! ### Streams -/

theorem execStrmFlowParcel_goes (sp : Fin 2) (fl : Fin 32) (x : Parcel) : s.Goes {} (execStrmFlowParcel sp fl x s) := by
  simp +contextual [execStrmFlowParcel]

theorem execStrmFlowEnable_goes (sp : Fin 2) (fl : Fin 32) : s.Goes {} (execStrmFlowEnable p sp fl v s) :=
  goes_hubWrite fun z => by simp +contextual

theorem execStrmContextTimer_goes (sp : Fin 2) (fl : Fin 32) : s.Goes {} (execStrmContextTimer sp fl s) := by
  unfold execStrmContextTimer
  dsimp only
  split <;> simp +contextual

theorem execStrmRegionCapture_goes (sp : Fin 2) (fl : FlowRead) : s.Goes {} (execStrmRegionCapture sp fl s) := by
  simp +contextual [execStrmRegionCapture]

theorem execStrmArpRequest_goes (sp : Fin 2) (mac : BitVec 48) (sender target : Word) :
    s.Goes {} (execStrmArpRequest sp mac sender target s) := by
  unfold execStrmArpRequest
  (repeat' split) <;> simp (maxDischargeDepth := 60) +contextual

theorem execStrmNeighborSolicit_goes (sp : Fin 2) (mac : BitVec 48) (sender target : BitVec 128) :
    s.Goes {} (execStrmNeighborSolicit sp mac sender target s) := by
  unfold execStrmNeighborSolicit
  dsimp only
  (repeat' split) <;> simp (maxDischargeDepth := 60) +contextual

theorem execStrmRxOther_goes (sp : Fin 2) (fecCorrected : Nat) : s.Goes {} (execStrmRxOther sp fecCorrected s) := by
  unfold execStrmRxOther
  split <;> simp +contextual

theorem execStrmLinkChange_goes (sp : Fin 2) (up : Bool) : s.Goes {} (execStrmLinkChange sp up s) := by
  unfold execStrmLinkChange
  split <;> simp +contextual

/-! ### Power states -/

theorem execPwrReq_goes : s.Goes {} (execPwrReq p v s) :=
  goes_hubWrite fun z => by simp +contextual

theorem execPwrReqWaitStart_goes : s.Goes {} (execPwrReqWaitStart s) := by
  unfold execPwrReqWaitStart
  dsimp only
  (repeat' split) <;> simp (maxDischargeDepth := 60) +contextual

theorem execPwrEnterIdle_goes : s.Goes {} (execPwrEnterIdle s) := by
  unfold execPwrEnterIdle
  split <;> simp +contextual

theorem execPwrEnterSleep_goes : s.Goes { domains := true, time := true } (execPwrEnterSleep s) := by
  unfold execPwrEnterSleep
  split <;> simp +contextual

theorem execPwrEnterDeep_goes : s.Goes { memory := true, domains := true, time := true } (execPwrEnterDeep s) := by
  unfold execPwrEnterDeep
  split <;> simp +contextual

theorem execPwrEnterOff_goes : s.Goes { memory := true, domains := true, time := true } (execPwrEnterOff s) := by
  unfold execPwrEnterOff
  (repeat' split) <;> simp +contextual

theorem execPwrExitIdle_goes : s.Goes {} (execPwrExitIdle s) := by
  unfold execPwrExitIdle
  (repeat' split) <;> simp +contextual

theorem execPwrExitSleep_goes (counts : Nat) (refThere : Bool) (run : LockRun) :
    s.Goes { domains := true, time := true } (execPwrExitSleep counts refThere run s) := by
  unfold execPwrExitSleep
  (repeat' split) <;> simp +contextual

theorem execPwrExitDeep_goes (mhz100 : Bool) : s.Goes { domains := true, time := true } (execPwrExitDeep mhz100 s) := by
  unfold execPwrExitDeep
  (repeat' split) <;> simp +contextual

theorem execPwrTransitionDone_goes : s.Goes {} (execPwrTransitionDone s) := by
  unfold execPwrTransitionDone
  (repeat' split) <;> simp (maxDischargeDepth := 60) +contextual

theorem execWakeNFall_goes : s.Goes { domains := true } (execWakeNFall s) := by
  unfold execWakeNFall
  (repeat' split) <;> simp +contextual

theorem execMgmtTransaction_goes (write : Option (List Byte)) (read : Nat) :
    s.Goes {} (execMgmtTransaction write read s) := by
  unfold execMgmtTransaction
  (repeat' split) <;> simp +contextual

theorem execPwrTimerExpire_goes : s.Goes {} (execPwrTimerExpire s) := by
  unfold execPwrTimerExpire
  split <;> simp +contextual

theorem execEnsWake_goes : s.Goes {} (execEnsWake s) := by
  unfold execEnsWake
  dsimp only
  (repeat' split) <;> simp +contextual

/-! ### Control Ports -/

theorem execRegWrite_goes (off : Nat) :
    s.Goes { memory := true, fuses := true, domains := true, time := true } (execRegWrite p off v s) := by
  unfold execRegWrite
  (repeat' split) <;> simp +contextual

theorem execBar0BadAccess_goes (_p : Port) (off len : Nat) : s.Goes {} (execBar0BadAccess _p off len s) := by
  unfold execBar0BadAccess
  split <;> simp +contextual

theorem execReg64LowRead_goes (off : Nat) : s.Goes {} (execReg64LowRead p off s) := by
  unfold execReg64LowRead
  (repeat' split) <;> simp +contextual

theorem execReg64HighRead_goes (off : Nat) : s.Goes {} (execReg64HighRead p off s) := by
  unfold execReg64HighRead
  (repeat' split) <;> simp +contextual

theorem execReg64HighWrite_goes (off : Nat) :
    s.Goes { memory := true, fuses := true, domains := true, time := true } (execReg64HighWrite p off v s) := by
  unfold execReg64HighWrite
  split
  · simp
  · exact goes_hubWrite fun z => by simp (maxDischargeDepth := 60) +contextual

theorem execReg64LowWrite_goes (off : Nat) :
    s.Goes { memory := true, fuses := true, domains := true, time := true } (execReg64LowWrite p off v s) := by
  unfold execReg64LowWrite
  split
  · simp
  · exact goes_hubWrite fun z => by simp (maxDischargeDepth := 60) +contextual

theorem execMsix64Access_goes (off : Nat) (w : Option (Word × Word)) : s.Goes {} (execMsix64Access p off w s) := by
  unfold execMsix64Access
  (repeat' split) <;> simp +contextual

theorem execBar2Request_goes (r : MemReq) : s.Goes {} (execBar2Request p r s) := by
  unfold execBar2Request
  (repeat' split) <;> simp +contextual

theorem execBar4Access_goes (r : MemReq) (ecc : Ecc) (at_ : Nat) :
    s.Goes { memory := true } (execBar4Access p r ecc at_ s) := by
  unfold execBar4Access
  dsimp only
  (repeat' split) <;> simp +contextual

theorem execPortLinkDown_goes : s.Goes {} (execPortLinkDown p s) := by
  unfold execPortLinkDown
  split <;> simp +contextual

theorem execPortLinkUp_goes (width rate : Fin 16) : s.Goes {} (execPortLinkUp p width rate s) := by
  unfold execPortLinkUp
  split <;> simp +contextual

theorem execPerstAssert_goes : s.Goes {} (execPerstAssert p s) := by
  unfold execPerstAssert
  split <;> simp +contextual

theorem execFunctionLevelReset_goes : s.Goes {} (execFunctionLevelReset p s) := by
  unfold execFunctionLevelReset
  split <;> simp +contextual

theorem execSemAcquire_goes (n : Fin 256) (who : SemReader) : s.Goes {} (execSemAcquire n who s) := by
  unfold execSemAcquire
  (repeat' split) <;> simp +contextual

theorem execSemRelease_goes (n : Fin 256) : s.Goes {} (execSemRelease p n v s) :=
  goes_hubWrite fun z => by simp +contextual

theorem execSemPeek_goes (n : Fin 256) : s.Goes {} (execSemPeek p n s) := by
  simp +contextual [execSemPeek]

theorem execSemHolderRelease_goes : s.Goes {} (execSemHolderRelease p s) := by
  unfold execSemHolderRelease
  split <;> simp +contextual

theorem execSemBreak_goes : s.Goes {} (execSemBreak p v s) :=
  goes_hubWrite fun z => by simp +contextual

theorem execVectorSignal_goes (v : Fin 2048) (msixEn fnMask : Bool) :
    s.Goes {} (execVectorSignal p v msixEn fnMask s) := by
  unfold execVectorSignal
  split <;> simp +contextual

theorem execEvtPendClear_goes (w : Fin 64) : s.Goes {} (execEvtPendClear p w v s) :=
  goes_hubWrite fun z => by simp +contextual

theorem execAerUncorrectableError_goes (e : AerErr) : s.Goes {} (execAerUncorrectableError e s) := by
  unfold execAerUncorrectableError
  (repeat' split) <;> simp +contextual

end

/-- Every command goes on, keeps the queue and what it does not name, and keeps the tables canonical. -/
theorem exec_goes : ∀ (c : Instr) (s : State), s.Goes c.mayChange (exec c s)
  | .regWrite .., _ => execRegWrite_goes ..
  | .bar0BadAccess p .., _ => execBar0BadAccess_goes _ p ..
  | .reg64LowRead .., _ => execReg64LowRead_goes ..
  | .reg64HighRead .., _ => execReg64HighRead_goes ..
  | .reg64HighWrite .., _ => execReg64HighWrite_goes ..
  | .reg64LowWrite .., _ => execReg64LowWrite_goes ..
  | .msix64Access .., _ => execMsix64Access_goes ..
  | .bar2Request .., _ => execBar2Request_goes ..
  | .bar4Access .., _ => execBar4Access_goes ..
  | .portLinkDown .., _ => execPortLinkDown_goes ..
  | .portLinkUp .., _ => execPortLinkUp_goes ..
  | .perstAssert .., _ => execPerstAssert_goes ..
  | .functionLevelReset .., _ => execFunctionLevelReset_goes ..
  | .semAcquire .., _ => execSemAcquire_goes ..
  | .semRelease .., _ => execSemRelease_goes ..
  | .semPeek .., _ => execSemPeek_goes ..
  | .semHolderRelease .., _ => execSemHolderRelease_goes ..
  | .semBreak .., _ => execSemBreak_goes ..
  | .vectorSignal .., _ => execVectorSignal_goes ..
  | .evtPendClear .., _ => execEvtPendClear_goes ..
  | .mpReadCycle .., _ => execMpReadCycle_goes ..
  | .mpWriteRefused .., _ => execMpWriteRefused_goes ..
  | .fcForce .., _ => execFcForce_goes ..
  | .fcArm .., _ => execFcArm_goes ..
  | .fcDisarm .., _ => execFcDisarm_goes ..
  | .fcFcdClear .., _ => execFcFcdClear_goes ..
  | .fcMarker .., _ => execFcMarker_goes ..
  | .mpCtlWrite .., _ => execMpCtlWrite_goes ..
  | .imgLoadGo .., _ => execImgLoadGo_goes ..
  | .imgLoadWaitStart .., _ => execImgLoadWaitStart_goes ..
  | .imgPass1Done .., _ => execImgPass1Done_goes ..
  | .imgPass2Done .., _ => execImgPass2Done_goes ..
  | .imgAdmission .., _ => execImgAdmission_goes ..
  | .imgAbort .., _ => execImgAbort_goes ..
  | .imgUnload .., _ => execImgUnload_goes ..
  | .switchOverStart, _ => execSwitchOverStart_goes ..
  | .switchOverCommit, _ => execSwitchOverCommit_goes ..
  | .keyEnrol .., _ => execKeyEnrol_goes ..
  | .keyRevoke .., _ => execKeyRevoke_goes ..
  | .keySetSvn .., _ => execKeySetSvn_goes ..
  | .keyFuseDone, _ => execKeyFuseDone_goes ..
  | .replayParcelRead .., _ => execReplayParcelRead_goes ..
  | .fabricEntryParcel .., _ => execFabricEntryParcel_goes ..
  | .ebBlockArrive .., _ => execEbBlockArrive_goes ..
  | .pathTakeBlock .., _ => execPathTakeBlock_goes ..
  | .tileFire .., _ => execTileFire_goes ..
  | .reorderRelease .., _ => execReorderRelease_goes ..
  | .droopTrip .., _ => execDroopTrip_goes ..
  | .pclkStepUp, _ => execPclkStepUp_goes ..
  | .nrtResume, _ => execNrtResume_goes ..
  | .canarySweepStart .., _ => execCanarySweepStart_goes ..
  | .canarySweepDone .., _ => execCanarySweepDone_goes ..
  | .carouselHandover .., _ => execCarouselHandover_goes ..
  | .reconverge .., _ => execReconverge_goes ..
  | .reconvergeDone .., _ => execReconvergeDone_goes ..
  | .inputSelChange .., _ => execInputSelChange_goes ..
  | .zoneChange .., _ => execZoneChange_goes ..
  | .ovrEpisodeStart .., _ => execOvrEpisodeStart_goes ..
  | .protHoldExpire .., _ => execProtHoldExpire_goes ..
  | .protRelease .., _ => execProtRelease_goes ..
  | .fltFire .., _ => execFltFire_goes ..
  | .refLost, _ => execRefLost_goes ..
  | .refReturn .., _ => execRefReturn_goes ..
  | .refFreqWrite .., _ => execRefFreqWrite_goes ..
  | .ppsEdge .., _ => execPpsEdge_goes ..
  | .ppsWindowMissed, _ => execPpsWindowMissed_goes ..
  | .spllDivWrite .., _ => execSpllDivWrite_goes ..
  | .spllLfWrite .., _ => execSpllLfWrite_goes ..
  | .spllHop .., _ => execSpllHop_goes ..
  | .spllTrip, _ => execSpllTrip_goes ..
  | .spllLock .., _ => execSpllLock_goes ..
  | .clkoutCtlWrite .., _ => execClkoutCtlWrite_goes ..
  | .syncInEdge .., _ => execSyncInEdge_goes ..
  | .syncIssue .., _ => execSyncIssue_goes ..
  | .upllUnlock, _ => execUpllUnlock_goes ..
  | .upllRelock, _ => execUpllRelock_goes ..
  | .ddcCommit .., _ => execDdcCommit_goes ..
  | .ddcCommitApply .., _ => execDdcCommitApply_goes ..
  | .zmSwap .., _ => execZmSwap_goes ..
  | .zmFadeStart .., _ => execZmFadeStart_goes ..
  | .zmFadeDone .., _ => execZmFadeDone_goes ..
  | .zmCoefAccess .., _ => execZmCoefAccess_goes ..
  | .spectrumProduce .., _ => execSpectrumProduce_goes ..
  | .detIntervalEnd .., _ => execDetIntervalEnd_goes ..
  | .detHoldReset .., _ => execDetHoldReset_goes ..
  | .skBlockEnd .., _ => execSkBlockEnd_goes ..
  | .chzIntegralEnd .., _ => execChzIntegralEnd_goes ..
  | .envRecordClose .., _ => execEnvRecordClose_goes ..
  | .kalSpectrum .., _ => execKalSpectrum_goes ..
  | .kalDecaySweep .., _ => execKalDecaySweep_goes ..
  | .kalFreeze .., _ => execKalFreeze_goes ..
  | .kalReady .., _ => execKalReady_goes ..
  | .kalClear .., _ => execKalClear_goes ..
  | .kalClearDone .., _ => execKalClearDone_goes ..
  | .mskEvaluate .., _ => execMskEvaluate_goes ..
  | .mskSwap .., _ => execMskSwap_goes ..
  | .trgEvaluate .., _ => execTrgEvaluate_goes ..
  | .trgDecide .., _ => execTrgDecide_goes ..
  | .trgArmWrite .., _ => execTrgArmWrite_goes ..
  | .trgForce .., _ => execTrgForce_goes ..
  | .trgRgnArm .., _ => execTrgRgnArm_goes ..
  | .trgRgnDisarm .., _ => execTrgRgnDisarm_goes ..
  | .trgRgnHoldEnd .., _ => execTrgRgnHoldEnd_goes ..
  | .seqWindowLapse .., _ => execSeqWindowLapse_goes ..
  | .triginEdge .., _ => execTriginEdge_goes ..
  | .triginStuck .., _ => execTriginStuck_goes ..
  | .trigoutAligned .., _ => execTrigoutAligned_goes ..
  | .trigoutPulseEnd .., _ => execTrigoutPulseEnd_goes ..
  | .trgAvgReset .., _ => execTrgAvgReset_goes ..
  | .capAllocCreate .., _ => execCapAllocCreate_goes ..
  | .capAllocResize .., _ => execCapAllocResize_goes ..
  | .capAllocFree .., _ => execCapAllocFree_goes ..
  | .capFormatUnit .., _ => execCapFormatUnit_goes ..
  | .capCaptureEnd .., _ => execCapCaptureEnd_goes ..
  | .capAckWrite .., _ => execCapAckWrite_goes ..
  | .capBar4WinWrite .., _ => execCapBar4WinWrite_goes ..
  | .kpInstrAlu .., _ => execKpInstrAlu_goes ..
  | .kpInstrMac4 .., _ => execKpInstrMac4_goes ..
  | .kpInstrMac2 .., _ => execKpInstrMac2_goes ..
  | .kpInstrMpy4 .., _ => execKpInstrMpy4_goes ..
  | .kpInstrMpy2 .., _ => execKpInstrMpy2_goes ..
  | .kpInstrClrS .., _ => execKpInstrClrS_goes ..
  | .kpInstrLd .., _ => execKpInstrLd_goes ..
  | .kpInstrSt .., _ => execKpInstrSt_goes ..
  | .kpInstrStS .., _ => execKpInstrStS_goes ..
  | .kpInstrMov .., _ => execKpInstrMov_goes ..
  | .kpInstrImmediate .., _ => execKpInstrImmediate_goes ..
  | .kpInstrBranch .., _ => execKpInstrBranch_goes ..
  | .kpInstrCall .., _ => execKpInstrCall_goes ..
  | .kpInstrRet .., _ => execKpInstrRet_goes ..
  | .kpInstrLoop .., _ => execKpInstrLoop_goes ..
  | .kpInstrRep .., _ => execKpInstrRep_goes ..
  | .kpInstrMax .., _ => execKpInstrMax_goes ..
  | .kpInstrMin .., _ => execKpInstrMin_goes ..
  | .kpInstrExp .., _ => execKpInstrExp_goes ..
  | .kpInstrNorm .., _ => execKpInstrNorm_goes ..
  | .kpInstrHalt .., _ => execKpInstrHalt_goes ..
  | .kpInstrWait .., _ => execKpInstrWait_goes ..
  | .kpInstrPub .., _ => execKpInstrPub_goes ..
  | .kpInstrMboxPost .., _ => execKpInstrMboxPost_goes ..
  | .kpInstrMboxAck .., _ => execKpInstrMboxAck_goes ..
  | .kpInstrTrap .., _ => execKpInstrTrap_goes ..
  | .kpInstrRti .., _ => execKpInstrRti_goes ..
  | .kpInstrEi .., _ => execKpInstrEi_goes ..
  | .kpInstrDi .., _ => execKpInstrDi_goes ..
  | .kpInstrTime .., _ => execKpInstrTime_goes ..
  | .kpInterrupt .., _ => execKpInterrupt_goes ..
  | .kpTimerExpire .., _ => execKpTimerExpire_goes ..
  | .kpWatchdog .., _ => execKpWatchdog_goes ..
  | .kpInboxParcel .., _ => execKpInboxParcel_goes ..
  | .kpMboxInPost .., _ => execKpMboxInPost_goes ..
  | .kpMboxOutClear .., _ => execKpMboxOutClear_goes ..
  | .kpWindowAccess .., _ => execKpWindowAccess_goes ..
  | .kpReset .., _ => execKpReset_goes ..
  | .kpRun .., _ => execKpRun_goes ..
  | .kpHalt .., _ => execKpHalt_goes ..
  | .dmaGo .., _ => execDmaGo_goes ..
  | .dmaDescFetch .., _ => execDmaDescFetch_goes ..
  | .dmaBurst .., _ => execDmaBurst_goes ..
  | .dmaBeatComplete .., _ => execDmaBeatComplete_goes ..
  | .dmaComplete .., _ => execDmaComplete_goes ..
  | .dmaDisable .., _ => execDmaDisable_goes ..
  | .dmaExitParcel .., _ => execDmaExitParcel_goes ..
  | .dmaRingPartnerWrite .., _ => execDmaRingPartnerWrite_goes ..
  | .dmaCqTailWrite .., _ => execDmaCqTailWrite_goes ..
  | .dmaQuiesceTimeout, _ => execDmaQuiesceTimeout_goes ..
  | .dmaResume, _ => execDmaResume_goes ..
  | .strmFlowParcel .., _ => execStrmFlowParcel_goes ..
  | .strmFlowEnable .., _ => execStrmFlowEnable_goes ..
  | .strmContextTimer .., _ => execStrmContextTimer_goes ..
  | .strmRegionCapture .., _ => execStrmRegionCapture_goes ..
  | .strmArpRequest .., _ => execStrmArpRequest_goes ..
  | .strmNeighborSolicit .., _ => execStrmNeighborSolicit_goes ..
  | .strmRxOther .., _ => execStrmRxOther_goes ..
  | .strmLinkChange .., _ => execStrmLinkChange_goes ..
  | .dispCommit .., _ => execDispCommit_goes ..
  | .dispVblank, _ => execDispVblank_goes ..
  | .dispComposeLine .., _ => execDispComposeLine_goes ..
  | .dispClockSettled, _ => execDispClockSettled_goes ..
  | .dispLinkTrained .., _ => execDispLinkTrained_goes ..
  | .dispTrainFail, _ => execDispTrainFail_goes ..
  | .dispHpdUnplug .., _ => execDispHpdUnplug_goes ..
  | .dispHpdPlug .., _ => execDispHpdPlug_goes ..
  | .dispIrqHpd .., _ => execDispIrqHpd_goes ..
  | .dispAuxGo .., _ => execDispAuxGo_goes ..
  | .dispAuxDone .., _ => execDispAuxDone_goes ..
  | .layerReleased .., _ => execLayerReleased_goes ..
  | .layerFault .., _ => execLayerFault_goes ..
  | .tiuTimeArm .., _ => execTiuTimeArm_goes ..
  | .evEdge .., _ => execEvEdge_goes ..
  | .evStuck .., _ => execEvStuck_goes ..
  | .tiuEvFifoPop .., _ => execTiuEvFifoPop_goes ..
  | .tiuCdcGo .., _ => execTiuCdcGo_goes ..
  | .tiuCdcDone .., _ => execTiuCdcDone_goes ..
  | .tiuFinGate .., _ => execTiuFinGate_goes ..
  | .tiuStatGo .., _ => execTiuStatGo_goes ..
  | .tiuStatDone .., _ => execTiuStatDone_goes ..
  | .fcdCodeWrite .., _ => execFcdCodeWrite_goes ..
  | .fcdPwmPeriod .., _ => execFcdPwmPeriod_goes ..
  | .clrdacFall, _ => execClrdacFall_goes ..
  | .clrdacRelease, _ => execClrdacRelease_goes ..
  | .fcdDriveEnable .., _ => execFcdDriveEnable_goes ..
  | .fcdPredriveDone .., _ => execFcdPredriveDone_goes ..
  | .fcdDriveDisable .., _ => execFcdDriveDisable_goes ..
  | .vhkReturn, _ => execVhkReturn_goes ..
  | .fcdRangeWrite .., _ => execFcdRangeWrite_goes ..
  | .fcdRangeSettled .., _ => execFcdRangeSettled_goes ..
  | .hkStart .., _ => execHkStart_goes ..
  | .hkStop .., _ => execHkStop_goes ..
  | .hkConversion .., _ => execHkConversion_goes ..
  | .hkScanDone, _ => execHkScanDone_goes ..
  | .calGo .., _ => execCalGo_goes ..
  | .calNext .., _ => execCalNext_goes ..
  | .calPassDone .., _ => execCalPassDone_goes ..
  | .calGroupTimeout, _ => execCalGroupTimeout_goes ..
  | .calAbort .., _ => execCalAbort_goes ..
  | .calCommit .., _ => execCalCommit_goes ..
  | .calCommitDone .., _ => execCalCommitDone_goes ..
  | .calStaleCheck .., _ => execCalStaleCheck_goes ..
  | .calStGo .., _ => execCalStGo_goes ..
  | .calStDone .., _ => execCalStDone_goes ..
  | .ensTokenRx .., _ => execEnsTokenRx_goes ..
  | .ensHeartbeat, _ => execEnsHeartbeat_goes ..
  | .ensRingLoss .., _ => execEnsRingLoss_goes ..
  | .ensFprint, _ => execEnsFprint_goes ..
  | .ensTokenArm .., _ => execEnsTokenArm_goes ..
  | .ensTokenDisarm .., _ => execEnsTokenDisarm_goes ..
  | .ensTokenApply, _ => execEnsTokenApply_goes ..
  | .ensTokenReturn .., _ => execEnsTokenReturn_goes ..
  | .ensSync .., _ => execEnsSync_goes ..
  | .ensSyncAbort, _ => execEnsSyncAbort_goes ..
  | .ensStateApply, _ => execEnsStateApply_goes ..
  | .wearRepairGo .., _ => execWearRepairGo_goes ..
  | .startupRepairDone, _ => execStartupRepairDone_goes ..
  | .laneSpareSwap .., _ => execLaneSpareSwap_goes ..
  | .steerSweepStart, _ => execSteerSweepStart_goes ..
  | .steerSweepDone, _ => execSteerSweepDone_goes ..
  | .ledgerWrite .., _ => execLedgerWrite_goes ..
  | .scrub .., _ => execScrub_goes ..
  | .railUndervoltage .., _ => execRailUndervoltage_goes ..
  | .railRestored, _ => execRailRestored_goes ..
  | .railLowAlert .., _ => execRailLowAlert_goes ..
  | .thermRead .., _ => execThermRead_goes ..
  | .porstAssert, _ => execPorstAssert_goes ..
  | .porstRelease .., _ => execPorstRelease_goes ..
  | .sysrstAssert, _ => execSysrstAssert_goes ..
  | .sysrstRelease, _ => execSysrstRelease_goes ..
  | .glbRstSys .., _ => execGlbRstSys_goes ..
  | .memTrainDone .., _ => execMemTrainDone_goes ..
  | .memInitDone, _ => execMemInitDone_goes ..
  | .startDone, _ => execStartDone_goes ..
  | .avsTransaction .., _ => execAvsTransaction_goes ..
  | .avsStatusPoll .., _ => execAvsStatusPoll_goes ..
  | .avsManWrite .., _ => execAvsManWrite_goes ..
  | .pwrReq .., _ => execPwrReq_goes ..
  | .pwrReqWaitStart, _ => execPwrReqWaitStart_goes ..
  | .pwrEnterIdle, _ => execPwrEnterIdle_goes ..
  | .pwrEnterSleep, _ => execPwrEnterSleep_goes ..
  | .pwrEnterDeep, _ => execPwrEnterDeep_goes ..
  | .pwrEnterOff, _ => execPwrEnterOff_goes ..
  | .pwrExitIdle, _ => execPwrExitIdle_goes ..
  | .pwrExitSleep .., _ => execPwrExitSleep_goes ..
  | .pwrExitDeep .., _ => execPwrExitDeep_goes ..
  | .pwrTransitionDone, _ => execPwrTransitionDone_goes ..
  | .wakeNFall, _ => execWakeNFall_goes ..
  | .mgmtTransaction .., _ => execMgmtTransaction_goes ..
  | .pwrTimerExpire, _ => execPwrTimerExpire_goes ..
  | .ensWake, _ => execEnsWake_goes ..
  | .kpIllegalInstruction .., _ => execKpIllegalInstruction_goes ..
  | .finEdge .., _ => execFinEdge_goes ..
  | .ensRingBlockLock .., _ => execEnsRingBlockLock_goes ..
  | .d2dLaneLockLoss .., _ => execD2dLaneLockLoss_goes ..
  | .utilityPllFirstLock .., _ => execUtilityPllFirstLock_goes ..
  | .startupStoreReadDone, _ => execStartupStoreReadDone_goes ..
  | .kalDecaySweepDone .., _ => execKalDecaySweepDone_goes ..
  | .protMinClipReached .., _ => execProtMinClipReached_goes ..
  | .ovrEpisodeEnd .., _ => execOvrEpisodeEnd_goes ..
  | .mirrorGatheredUpdate .., _ => execMirrorGatheredUpdate_goes ..
  | .aerUncorrectableError .., _ => execAerUncorrectableError_goes ..

end Sys2Proof.Machine
end

section
/-! SUPPORT. What one step does: a command from the queue, or a tick, in which nothing but the time, the CLKOUT outputs and
the return of the utility PLL moves where no divider reset waits and no decay sweep runs. -/

namespace Sys2Proof.Machine.State

/-- A write to a field changes the register file alone. -/
theorem set_eq_regs (s : State) (l : Loc) (v : Nat) : s.set l v = { s with regs := (s.set l v).regs } := by
  unfold set
  dsimp only
  split <;> rfl

theorem wordsBut_refl (s : State) (P : Nat → Prop) : s.wordsBut s P := fun _ _ _ => rfl

/-- A write to a field leaves the registers of all other fields alone. -/
theorem onlyFields_set (s : State) (l : Loc) (v : Nat) : s.onlyFields (s.set l v) [l] := fun _ a h =>
  get_set s l v a fun hc => h ⟨l, by simp, hc⟩

/-- A register takes in the words of each of its fields. -/
theorem onlyFields_covers {s t : State} {l m : Loc} (h : s.onlyFields t [l]) (hc : ∀ a, l.covers a → m.covers a) :
    s.onlyFields t [m] := fun d a hn => h d a fun ⟨k, hk, ha⟩ => hn ⟨m, by simp, by
  rw [List.mem_singleton.1 hk] at ha
  exact hc a ha⟩

/-! ### Ticks -/

/-- The two CLKOUT outputs a period of 2.56 GHz later. -/
def clkoutsMoved (s : State) : State :=
  { s with clocks := { s.clocks with clkout0 := s.clkoutStep 0, clkout1 := s.clkoutStep 1 } }

/-- The utility PLL begins to steer back in this tick (R222). -/
def steersBack (s : State) : Bool :=
  s.clocks.upllOut && s.flag REF_STATUS.present && !s.flag UPLL_STATUS.slewing && Config.upllInside s.time.clk

/-- Engine time and the model's clock a period of 2.56 GHz later (R16). -/
def timeMoved (s : State) : TimeSt :=
  { s.time with clk := s.time.clk + 1, tick := if s.time.running then s.time.tick + 1 else s.time.tick }

theorem tickOne_time (s : State) : s.tickOne.time = s.timeMoved := by
  unfold tickOne timeMoved
  simp

/-- With no divider reset waiting, a tick of the clock units moves the outputs and may begin the return of the PLL. -/
theorem clockTick_quiet {s : State} (h : s.clocks.syncDue = none) :
    s.clockTick = if s.steersBack then s.clkoutsMoved.set UPLL_STATUS.slewing 1 else s.clkoutsMoved := by
  have hr : ((s.setClkout 0 (s.clkoutStep 0)).setClkout 1 (s.clkoutStep 1)).syncRun (s.time.clk + 1) = s.clkoutsMoved := by
    unfold syncRun
    rw [show ((s.setClkout 0 (s.clkoutStep 0)).setClkout 1 (s.clkoutStep 1)).clocks.syncDue = none from h]
    rfl
  unfold clockTick
  rw [hr]
  rfl

theorem sweepTick_quiet {s : State} {k : Nat} (h : (s.kalOf k).sweep = none) : s.sweepTick k = s := by
  unfold sweepTick
  rw [h]

/-- With no divider reset waiting and no decay sweep running, a tick moves the time and the clock units alone. -/
theorem tickOne_quiet {s : State} (h : s.clocks.syncDue = none) (h0 : (s.kalOf 0).sweep = none)
    (h1 : (s.kalOf 1).sweep = none) :
    s.tickOne = { s.clkoutsMoved with regs := s.clockTick.regs, time := s.timeMoved } := by
  have hc : s.clockTick = { s.clkoutsMoved with regs := s.clockTick.regs } := by
    rw [clockTick_quiet h]
    split
    · exact set_eq_regs _ _ _
    · rfl
  have hk : s.clockTick.kal = s.kal := by rw [hc]; rfl
  have hu : s.unitsTick = s.clockTick := by
    unfold unitsTick
    rw [sweepTick_quiet (s := s.clockTick) (k := 0) (by unfold kalOf at *; rw [hk]; exact h0),
      sweepTick_quiet (s := s.clockTick) (k := 1) (by unfold kalOf at *; rw [hk]; exact h1)]
  unfold tickOne
  rw [hu, hc]
  rfl

theorem clockTick_onlyFields {s : State} (h : s.clocks.syncDue = none) : s.onlyFields s.clockTick [UPLL_STATUS.reg] := by
  rw [clockTick_quiet h]
  split
  · exact onlyFields_covers (onlyFields_set s.clkoutsMoved UPLL_STATUS.slewing 1) fun a ha => by
      simpa [Loc.covers, UPLL_STATUS.slewing, UPLL_STATUS.reg] using ha
  · exact wordsBut_refl s _

theorem clockTick_regs {s : State} (h : s.clocks.syncDue = none) (hu : s.clocks.upllOut = false) :
    s.clockTick.regs = s.regs := by
  rw [clockTick_quiet h, steersBack, hu]
  rfl

end Sys2Proof.Machine.State

namespace Sys2Proof.Machine

open State

/-- Settles O57, from the frame of every command. -/
theorem commandsKeepWhatTheyDoNotName : Obligations.CommandsKeepWhatTheyDoNotName := by
  intro c s t h
  obtain ⟨u, hu, k⟩ := exec_goes c s
  cases h.symm.trans hu
  exact ⟨k.sdram, k.fuse, k.dom, k.time⟩

/-- Settles O58: a command keeps the queue behind it and the tables, and so does a tick. -/
theorem stepKeepsTables : Obligations.StepKeepsTables := by
  intro s t hq ht h
  unfold step at h
  split at h
  · cases h
    constructor
    · simpa [queueOk] using hq
    · obtain ⟨hr, ht⟩ := (tabsOk_iff s).1 ht
      simpa [hr] using ht
  · next c cs hp =>
    obtain ⟨u, hu, k⟩ := exec_goes c { s with pending := cs }
    cases h.symm.trans hu
    refine ⟨?_, k.tables ht⟩
    rw [queueOk, hp] at hq
    rw [queueOk, k.pending]
    exact (Bool.and_eq_true _ _ ▸ hq).2

/-- Settles O54: a command goes on and keeps the queue; on an empty queue a tick passes. -/
theorem everyStepGoesOn : Obligations.EveryStepGoesOn := by
  refine ⟨fun c s => ?_, fun s hs => ⟨s.tickOne, ?_, ?_, ?_, fun hr => ?_, fun hr => ?_, fun hd h0 h1 => ?_⟩⟩
  · obtain ⟨t, ht, k⟩ := exec_goes c s
    exact ⟨t, ht, k.pending⟩
  · unfold step
    rw [hs]
  · simp [hs]
  · rw [tickOne_time]; rfl
  · rw [tickOne_time, timeMoved, hr]; rfl
  · rw [tickOne_time, timeMoved, hr]; rfl
  · rw [tickOne_quiet hd h0 h1]
    exact ⟨rfl, rfl, clockTick_onlyFields hd, clockTick_regs hd, rfl⟩

end Sys2Proof.Machine
end

section
/-! SUPPORT. The register tables: the indices that an offset stands for lie within their row, and every reset value is a
word. -/

namespace Sys2Proof.Machine

/-- Indices, each below the count of its place. -/
inductive RegRow.InRange : List (Nat × Nat) → List Nat → Prop where
  | nil : RegRow.InRange [] []
  | cons {e : Nat × Nat} {i : Nat} {ds : List (Nat × Nat)} {js : List Nat} (hi : i < e.2) (hj : RegRow.InRange ds js) :
    RegRow.InRange (e :: ds) (i :: js)

theorem RegRow.index_inRange {dims : List (Nat × Nat)} {words d : Nat} {ix : List Nat}
    (h : RegRow.index dims words d = some ix) : RegRow.InRange dims ix := by
  induction dims generalizing d ix with
  | nil =>
    unfold RegRow.index at h
    split at h
    · cases h; exact .nil
    · cases h
  | cons e ds ih =>
    unfold RegRow.index at h
    split at h
    · next hd =>
      obtain ⟨js, hj, rfl⟩ := Option.map_eq_some_iff.1 h
      exact .cons hd (ih hj)
    · cases h

/-- A row that is found stands in the list, and its indices lie within it. -/
theorem findIn_some {rs : List RegRow} {off : Nat} {r : RegRow} {ix : List Nat} (h : findIn rs off = some (r, ix)) :
    r ∈ rs ∧ RegRow.InRange r.dims ix := by
  induction rs with
  | nil => cases h
  | cons q qs ih =>
    have tail : findIn qs off = some (r, ix) → r ∈ q :: qs ∧ RegRow.InRange r.dims ix := fun h =>
      ⟨List.mem_cons_of_mem _ (ih h).1, (ih h).2⟩
    unfold findIn at h
    split at h
    · split at h
      · next js hj =>
        cases h
        exact ⟨List.mem_cons_self, RegRow.index_inRange hj⟩
      · exact tail h
    · exact tail h

/-- The reset values of a row are words. -/
def RegRow.iniFits (r : RegRow) : Prop := ∀ ix, RegRow.InRange r.dims ix → r.ini ix < 2 ^ 32

theorem RegRow.iniFits_const {base : Nat} {dims : List (Nat × Nat)} {words : Nat} {half : Half} {rw w1c clr sh img c : Nat}
    {sem : Option Nat} (h : c < 2 ^ 32) : RegRow.iniFits ⟨base, dims, words, half, fun _ => c, rw, w1c, clr, sh, img, sem⟩ :=
  fun _ _ => h

/-- A reset value that counts by the first index. -/
theorem RegRow.iniFits_first {base st n words : Nat} {ds : List (Nat × Nat)} {half : Half} {rw w1c clr sh img k : Nat}
    {sem : Option Nat} (h : k * n ≤ 2 ^ 32 ∧ 0 < k) :
    RegRow.iniFits ⟨base, (st, n) :: ds, words, half, fun ix => k * ix.head?.getD 0, rw, w1c, clr, sh, img, sem⟩ := by
  intro ix hx
  cases hx with
  | cons hi _ => exact Nat.lt_of_lt_of_le (Nat.mul_lt_mul_of_pos_left hi h.2) h.1

/-- CNV_SLICE shows at reset the slices of its converter, 16 in the rotation and two in reserve (R179). -/
theorem RegRow.iniFits_slice {base st st' n words : Nat} {half : Half} {rw w1c clr sh img : Nat} {sem : Option Nat} :
    RegRow.iniFits ⟨base, [(st, n), (st', 18)], words, half,
      fun ix => if ix[1]?.getD 0 < 16 then 16 * ix[1]?.getD 0 else ix[1]?.getD 0 - 15, rw, w1c, clr, sh, img, sem⟩ := by
  intro ix hx
  match ix, hx with
  | [i, j], .cons _ (.cons hj .nil) =>
    show (if j < 16 then 16 * j else j - 15) < 2 ^ 32
    split <;> omega

theorem rowsGlb_fit : ∀ r ∈ rowsGlb, r.iniFits := by
  simp [rowsGlb, RegRow.iniFits_const]

theorem rowsPwr_fit : ∀ r ∈ rowsPwr, r.iniFits := by
  simp [rowsPwr, RegRow.iniFits_const]

theorem rowsSem_fit : ∀ r ∈ rowsSem, r.iniFits := by
  simp [rowsSem, RegRow.iniFits_const]

theorem rowsEvt_fit : ∀ r ∈ rowsEvt, r.iniFits := by
  simp [rowsEvt, RegRow.iniFits_const]

theorem rowsImg_fit : ∀ r ∈ rowsImg, r.iniFits := by
  simp [rowsImg, RegRow.iniFits_const]

theorem rowsFab_fit : ∀ r ∈ rowsFab, r.iniFits := by
  simp [rowsFab, RegRow.iniFits_const]

theorem rowsCnv_fit : ∀ r ∈ rowsCnv, r.iniFits := by
  simp [rowsCnv, RegRow.iniFits_const, RegRow.iniFits_slice]

theorem rowsClk_fit : ∀ r ∈ rowsClk, r.iniFits := by
  simp [rowsClk, RegRow.iniFits_const]

theorem rowsDdc_fit : ∀ r ∈ rowsDdc, r.iniFits := by
  simp [rowsDdc, RegRow.iniFits_const]

theorem rowsXf_fit : ∀ r ∈ rowsXf, r.iniFits := by
  simp [rowsXf, RegRow.iniFits_const]

theorem rowsTrg_fit : ∀ r ∈ rowsTrg, r.iniFits := by
  simp [rowsTrg, RegRow.iniFits_const]

theorem rowsCap_fit : ∀ r ∈ rowsCap, r.iniFits := by
  simp [rowsCap, RegRow.iniFits_const]

theorem rowsDma_fit : ∀ r ∈ rowsDma, r.iniFits := by
  simp [rowsDma, RegRow.iniFits_const]

theorem rowsStrm_fit : ∀ r ∈ rowsStrm, r.iniFits := by
  simp [rowsStrm, RegRow.iniFits_const]

theorem rowsDisp_fit : ∀ r ∈ rowsDisp, r.iniFits := by
  simp [rowsDisp, RegRow.iniFits_const]

theorem rowsTiu_fit : ∀ r ∈ rowsTiu, r.iniFits := by
  simp [rowsTiu, RegRow.iniFits_const]

theorem rowsFcd_fit : ∀ r ∈ rowsFcd, r.iniFits := by
  simp [rowsFcd, RegRow.iniFits_const]

theorem rowsCal_fit : ∀ r ∈ rowsCal, r.iniFits := by
  simp [rowsCal, RegRow.iniFits_const]

theorem rowsEns_fit : ∀ r ∈ rowsEns, r.iniFits := by
  simp [rowsEns, RegRow.iniFits_const]

theorem rowsWear_fit : ∀ r ∈ rowsWear, r.iniFits := by
  simp [rowsWear, RegRow.iniFits_const]

theorem rowsKal_fit : ∀ r ∈ rowsKal, r.iniFits := by
  simp [rowsKal, RegRow.iniFits_const, RegRow.iniFits_first]

theorem rowsKp_fit : ∀ r ∈ rowsKp, r.iniFits := by
  simp [rowsKp, RegRow.iniFits_const, RegRow.iniFits_first]

theorem fits_ite {c : Prop} [Decidable c] {a b : List RegRow} (ha : ∀ r ∈ a, r.iniFits) (hb : ∀ r ∈ b, r.iniFits) :
    ∀ r ∈ if c then a else b, r.iniFits := by
  split
  · exact ha
  · exact hb

theorem rowsAt_fit (off : Nat) : ∀ r ∈ rowsAt off, r.iniFits :=
  fits_ite rowsGlb_fit <| fits_ite rowsPwr_fit <| fits_ite rowsSem_fit <| fits_ite rowsEvt_fit <|
    fits_ite rowsImg_fit <| fits_ite rowsFab_fit <| fits_ite rowsCnv_fit <| fits_ite rowsClk_fit <|
    fits_ite rowsDdc_fit <| fits_ite rowsXf_fit <| fits_ite rowsTrg_fit <| fits_ite rowsCap_fit <|
    fits_ite rowsDma_fit <| fits_ite rowsStrm_fit <| fits_ite rowsDisp_fit <| fits_ite rowsTiu_fit <|
    fits_ite rowsFcd_fit <| fits_ite rowsCal_fit <| fits_ite rowsEns_fit <| fits_ite rowsWear_fit <|
    fits_ite rowsKal_fit <| fits_ite rowsKp_fit <| fun _ h => by cases h

/-- The reset value of a register word is a word. -/
theorem ini_lt {off : Nat} {r : RegRow} {ix : List Nat} (h : findRow off = some (r, ix)) : r.ini ix < 2 ^ 32 :=
  rowsAt_fit off r (findIn_some h).1 ix (findIn_some h).2

/-- Settles O55: the tables are empty, so that every word reads its reset value, and nothing is held or runs. -/
theorem resetIsSound : Obligations.ResetIsSound := by
  have hh : ∀ n, State.reset.holder n = none := fun _ => rfl
  refine ⟨rfl, rfl, fun n h => ?_, ⟨fun q h => ?_, fun q h => ?_⟩, hh, fun off r ix h => ?_, fun _ => rfl⟩
  · rw [hh] at h; cases h
  · cases h
  · cases h
  · unfold State.keptWord
    rw [h]
    exact Nat.mod_eq_of_lt (ini_lt h)

end Sys2Proof.Machine
end

section
/-! SUPPORT. Register writes of a Control Port: the row of an offset, what a plain write leaves of a word, and what becomes
of an access that reaches no register. -/

namespace Sys2Proof.Machine

/-! ### Rows by offset -/

/-- An offset lies before a row, or past its last word. -/
def RegRow.misses (r : RegRow) (off : Nat) : Prop :=
  r.base ≤ off → match r.dims with
    | [] => r.words ≤ (off - r.base) / 4
    | (st, n) :: _ => n ≤ (off - r.base) / st

theorem findIn_skip {r : RegRow} {rs : List RegRow} {off : Nat} (h : r.misses off) :
    findIn (r :: rs) off = findIn rs off := by
  conv => lhs; unfold findIn
  split
  · next hb =>
    have hm := h hb
    have hn : RegRow.index r.dims r.words (off - r.base) = none := by
      split at hm
      · next hd => rw [hd, RegRow.index, if_neg (by omega)]
      · next hd => rw [hd, RegRow.index, if_neg (by omega)]
    rw [hn]
  · rfl

theorem findIn_here {r : RegRow} {rs : List RegRow} {off : Nat} {ix : List Nat} (hb : r.base ≤ off)
    (h : RegRow.index r.dims r.words (off - r.base) = some ix) : findIn (r :: rs) off = some (r, ix) := by
  unfold findIn
  rw [if_pos hb, h]

/-- A word of an array of words that lie side by side. -/
theorem index_array {n k b : Nat} (h : k < n) : RegRow.index [(0x4, n)] 1 (b + 0x4 * k - b) = some [k] := by
  simp only [RegRow.index]
  rw [if_pos (by omega), if_pos (by omega), Option.map_some]
  congr 2
  omega

/-- The row of PWR_SCRATCH. -/
def scratchRow : RegRow := ⟨0x10800, [(0x4, 256)], 1, .one, fun _ => 0x0, 0xffffffff, 0x0, 0x0, 0x0, 0x0, none⟩

/-- The row of SEM_LOST. -/
def semLostRow : RegRow := ⟨0x20820, [(0x4, 8)], 1, .one, fun _ => 0x0, 0x0, 0xffffffff, 0x0, 0x0, 0x0, none⟩

/-- The row of SEM_REFUSED[0]. -/
def refusedRow : RegRow := ⟨0x20810, [], 1, .one, fun _ => 0x0, 0x0, 0x0, 0xffffffff, 0x0, 0x0, none⟩

theorem findRow_scratch (k : Fin 256) : findRow (PWR_SCRATCH.reg k).addr = some (scratchRow, [k.val]) := by
  have hk := k.isLt
  have hr : rowsAt (0x10800 + 0x4 * k.val) = rowsPwr := by
    unfold rowsAt
    rw [if_neg (by omega), if_pos (by omega)]
  show findIn (rowsAt (0x10800 + 0x4 * k.val)) _ = _
  rw [hr, rowsPwr]
  iterate 12 rw [findIn_skip (by simp only [RegRow.misses, PWR_SCRATCH.reg]; omega)]
  exact findIn_here (Nat.le_add_right _ _) (index_array hk)

theorem findRow_semLost (w : Fin 8) : findRow (SEM_LOST.reg w).addr = some (semLostRow, [w.val]) := by
  have hw := w.isLt
  have hr : rowsAt (0x20820 + 0x4 * w.val) = rowsSem := by
    unfold rowsAt
    rw [if_neg (by omega), if_neg (by omega), if_pos (by omega)]
  show findIn (rowsAt (0x20820 + 0x4 * w.val)) _ = _
  rw [hr, rowsSem]
  iterate 6 rw [findIn_skip (by simp only [RegRow.misses, SEM_LOST.reg]; omega)]
  exact findIn_here (Nat.le_add_right _ _) (index_array hw)

theorem findRow_refused : findRow SEM_REFUSED_0.reg.addr = some (refusedRow, []) := rfl

/-! ### What the access codes leave of a word (R7) -/

/-- A row of RW bits alone takes the word that is written. -/
theorem RegRow.merge_rw {r : RegRow} (hrw : r.rw = 0xffffffff) (hw : r.w1c = 0) (hc : r.clr = 0) (old : Nat) (v : Word) :
    r.merge old v.toNat = v.toNat := by
  have hv : v.toNat &&& 0xffffffff = v.toNat := (Nat.and_two_pow_sub_one_eq_mod _ 32).trans (Nat.mod_eq_of_lt v.isLt)
  simp [RegRow.merge, hrw, hw, hc, hv]

theorem semLostRow_merge (old : Nat) (v : Word) :
    semLostRow.merge old v.toNat = (BitVec.ofNat 32 old &&& ~~~v).toNat := by
  have ho : old &&& 0xffffffff = old % 2 ^ 32 := Nat.and_two_pow_sub_one_eq_mod _ 32
  have hn : (~~~v).toNat = 0xffffffff ^^^ v.toNat := by rw [BitVec.not_def, BitVec.toNat_xor, BitVec.toNat_allOnes]
  simp [RegRow.merge, semLostRow, ho, hn]

theorem refusedRow_merge (old v : Nat) : refusedRow.merge old v = 0 := by
  simp [RegRow.merge, refusedRow]

namespace State

/-! ### Plain writes -/

theorem f_word {s : State} {l : Loc} (hl : l.lo = 0) (hw : l.width = 32) (hr : l.rst < 2 ^ 32) : s.f l = s.word l.addr l.rst := by
  unfold f regVal bits
  rw [hl, hw, if_pos (by omega), Nat.mod_eq_of_lt hr, Nat.pow_zero, Nat.div_one]
  exact Nat.mod_eq_of_lt (word_lt _ _ _)

/-- A plain write leaves of a word what the access codes of its row give, and no other word changes (R7). -/
theorem plainWrite_word {s : State} {l : Loc} {r : RegRow} {ix : List Nat} {v : Nat} (hl : l.lo = 0) (hw : l.width = 32)
    (hf : findRow l.addr = some (r, ix)) (hi : r.ini ix = l.rst) :
    (s.plainWrite l.addr v).bus = s.bus ∧ (s.plainWrite l.addr v).f l = r.merge (s.f l) v % 2 ^ 32 ∧
      s.onlyFields (s.plainWrite l.addr v) [l] := by
  have hr : l.rst < 2 ^ 32 := hi ▸ ini_lt hf
  have hp : s.plainWrite l.addr v = s.setWord l.addr l.rst (r.merge (s.word l.addr l.rst) v) := by
    unfold plainWrite
    rw [hf, ← hi]
  rw [hp, f_word hl hw hr, f_word hl hw hr, word_setWord_self]
  refine ⟨rfl, rfl, fun d a ha => Tab.get_put_ne _ _ _ _ fun h => ha ⟨l, by simp, .inl h⟩⟩

theorem unitUsed_low {s : State} {off : Nat} (h : off < 0x120000) : s.unitUsed off = true := by
  unfold unitUsed
  rw [if_neg (by omega), if_neg (by omega)]

theorem regEffect_pwr {s : State} {p : Port} {off v : Nat} (h : 0x10010 < off ∧ off < 0x20000) :
    s.regEffect p off v = s.plainWrite off v := by
  unfold regEffect
  rw [if_neg (by omega), if_neg (by omega), if_neg (by omega), if_pos h.2]

theorem regEffect_sem {s : State} {p : Port} {off v : Nat} (h : 0x20800 < off ∧ off < 0x30000) :
    s.regEffect p off v = s.plainWrite off v := by
  unfold regEffect semBlockWrite
  rw [if_neg (by omega), if_neg (by omega), if_neg (by omega), if_neg (by omega), if_pos h.2, if_neg (by omega),
    if_neg (by omega)]

/-- A write to a word that stands alone, of a unit outside the paths, has the effect of its block. -/
theorem wordEffect_one {s : State} {p : Port} {r : RegRow} {off v : Nat} (hh : r.half = .one) (hu : off < 0x120000) :
    s.wordEffect p r off v = s.regEffect p off v := by
  unfold wordEffect
  rw [unitUsed_low hu, hh]
  rfl

/-! ### Accesses that reach nothing -/

@[simp] theorem portWrite_unreachable {s : State} {p : Port} {off : Nat} {sem : Option Nat} (e : State → State)
    (h : s.reachable off = false) : s.portWrite p off sem e = s := by
  unfold portWrite
  rw [h]
  rfl

theorem reachable_of_down {s : State} {off : Nat} {d : Domain} (hd : domainOf off = some d) (h : s.domSt d ≠ .on) :
    s.reachable off = false := by
  unfold reachable up
  rw [hd]
  simp [h]

theorem kpSpaceWrite_unreachable {s : State} {p : Port} {off : Nat} {v : Word} (h : s.reachable off = false) :
    s.kpSpaceWrite p off v = s := by
  unfold kpSpaceWrite
  (repeat' split) <;> simp [h]

/-- R8, R13: a word write that reaches nothing is dropped. -/
theorem regWrite_unreachable {s : State} {p : Port} {off : Nat} {v : Word} (h : s.reachable off = false) :
    s.regWrite p off v = s := by
  unfold regWrite
  (repeat' split) <;> simp [h, kpSpaceWrite_unreachable]

/-- R8, R13: a word read that reaches nothing gives 0. -/
theorem hubRead_unreachable {s : State} {p : Port} {off : Nat} (h : s.reachable off = false) : s.hubRead p off = 0 := by
  unfold hubRead kpSpaceRead
  rw [h]
  simp

/-- A BAR0 offset of a block lies below the configuration space of the ports. -/
theorem lt_cfgBase_of_domainOf {off : Nat} {d : Domain} (h : domainOf off = some d) : off < cfgBase := by
  unfold cfgBase
  refine Decidable.byContradiction fun hn => ?_
  unfold domainOf at h
  iterate 16 rw [if_neg (by omega)] at h
  cases h

end State

/-! ### The commands -/

/-- A word write with its guard held reaches the effect of its row (R7, R60). -/
theorem exec_regWrite_accepted {s : State} {p : Port} {off : Nat} {v : Word} {r : RegRow} {ix : List Nat} (h4 : off % 4 = 0)
    (hk : off < 0x1000000) (hs : ¬ (0x20000 ≤ off ∧ off < 0x20400)) (hm : ¬ (0x38000 ≤ off ∧ off < 0x40000))
    (hf : findRow off = some (r, ix)) (ha : s.accepts p off r.sem) :
    exec (.regWrite p off v) s = .next ((s.complete .ok).wordEffect p r off v.toNat) := by
  show execRegWrite p off v s = _
  unfold execRegWrite
  rw [if_neg (by omega), if_neg (by unfold cfgBase; omega)]
  unfold State.regWrite
  rw [if_neg (by omega), if_neg hs, if_neg hm, hf]
  exact congrArg _ (State.hubWrite_accepts _ ha)

theorem exec_regWrite_unaligned {s : State} {p : Port} {off : Nat} {v : Word} (h : off % 4 ≠ 0) :
    exec (.regWrite p off v) s = .next (s.complete .abort) := by
  show execRegWrite p off v s = _
  unfold execRegWrite
  rw [if_pos h]

section

variable {s : State} {p : Port} {off : Nat} {v : Word}

theorem exec_regWrite_unreachable (h4 : off % 4 = 0) (hc : off < cfgBase) (h : s.reachable off = false) :
    exec (.regWrite p off v) s = .next (s.complete .ok) := by
  show execRegWrite p off v s = _
  unfold execRegWrite
  rw [if_neg (by omega), if_neg (by omega)]
  exact congrArg _ (State.regWrite_unreachable h)

theorem exec_reg64LowRead_unreachable (hr : (State.halfRow off .low).isSome = true) (h : s.reachable off = false) :
    exec (.reg64LowRead p off) s = .next (s.complete (.words [0])) := by
  obtain ⟨r, hr⟩ := Option.isSome_iff_exists.1 hr
  show execReg64LowRead p off s = _
  unfold execReg64LowRead
  rw [hr, h, State.hubRead_unreachable h]
  rfl

theorem exec_reg64HighRead_unreachable (hr : (State.halfRow off .high).isSome = true) (h : s.reachable off = false) :
    exec (.reg64HighRead p off) s = .next (s.complete (.words [0])) := by
  obtain ⟨r, hr⟩ := Option.isSome_iff_exists.1 hr
  show execReg64HighRead p off s = _
  unfold execReg64HighRead
  rw [hr, h]
  rfl

theorem exec_reg64LowWrite_unreachable (hr : (State.halfRow off .low).isSome = true) (h : s.reachable off = false) :
    exec (.reg64LowWrite p off v) s = .next (s.complete .ok) := by
  obtain ⟨r, hr⟩ := Option.isSome_iff_exists.1 hr
  show execReg64LowWrite p off v s = _
  unfold execReg64LowWrite
  rw [hr]
  exact congrArg _ (State.hubWrite_unreachable _ h)

theorem exec_reg64HighWrite_unreachable (hr : (State.halfRow off .high).isSome = true) (h : s.reachable off = false) :
    exec (.reg64HighWrite p off v) s = .next (s.complete .ok) := by
  obtain ⟨r, hr⟩ := Option.isSome_iff_exists.1 hr
  show execReg64HighWrite p off v s = _
  unfold execReg64HighWrite
  rw [hr]
  exact congrArg _ (State.hubWrite_unreachable _ h)

end

/-- A word write whose row gives it a plain effect: the register takes what its access codes leave, and no other word
changes (R7). -/
theorem exec_regWrite_plain {s : State} {p : Port} {l : Loc} {v : Word} {r : RegRow} {ix : List Nat} (hl : l.lo = 0)
    (hw : l.width = 32) (hf : findRow l.addr = some (r, ix)) (hi : r.ini ix = l.rst) (hh : r.half = .one)
    (ha : s.accepts p l.addr r.sem)
    (hb : l.addr % 4 = 0 ∧ (0x10010 < l.addr ∧ l.addr < 0x20000 ∨ 0x20800 < l.addr ∧ l.addr < 0x30000)) :
    ∃ t, exec (.regWrite p l.addr v) s = .next t ∧ t.bus = .ok ∧ t.f l = r.merge (s.f l) v.toNat % 2 ^ 32 ∧
      s.onlyFields t [l] := by
  obtain ⟨h4, hb⟩ := hb
  refine ⟨_, exec_regWrite_accepted h4 (by omega) (by omega) (by omega) hf ha, ?_⟩
  have he : (s.complete .ok).wordEffect p r l.addr v.toNat = (s.complete .ok).plainWrite l.addr v.toNat := by
    rw [State.wordEffect_one hh (by omega)]
    rcases hb with hb | hb
    · exact State.regEffect_pwr hb
    · exact State.regEffect_sem hb
  rw [he]
  exact State.plainWrite_word hl hw hf hi

/-- Settles O1: the access codes of the three rows, and what becomes of an access that reaches no register. -/
theorem registerWritesActOrAbort : Obligations.RegisterWritesActOrAbort := by
  refine ⟨fun s p k v ha => ?_, fun s p w v ha => ?_, fun s p v ha => ?_, fun s p off v h => ?_, fun s p off len h4 h8 => ?_,
    fun s p off d v hd hn => ?_⟩
  · have hk := k.isLt
    obtain ⟨t, ht, hb, hf, ho⟩ := exec_regWrite_plain (v := v) rfl rfl (findRow_scratch k) rfl rfl ha
      (by simp only [PWR_SCRATCH.reg]; omega)
    refine ⟨t, ht, hb, hf.trans ?_, ho⟩
    exact (congrArg (· % 2 ^ 32) (RegRow.merge_rw rfl rfl rfl _ v)).trans (Nat.mod_eq_of_lt v.isLt)
  · have hw := w.isLt
    obtain ⟨t, ht, hb, hf, ho⟩ := exec_regWrite_plain (v := v) rfl rfl (findRow_semLost w) rfl rfl ha
      (by simp only [SEM_LOST.reg]; omega)
    refine ⟨t, ht, hb, hf.trans ?_, ho⟩
    exact (congrArg (· % 2 ^ 32) (semLostRow_merge _ v)).trans (Nat.mod_eq_of_lt (BitVec.isLt _))
  · obtain ⟨t, ht, hb, hf, ho⟩ := exec_regWrite_plain (v := v) rfl rfl findRow_refused rfl rfl ha (by decide)
    refine ⟨t, ht, hb, hf.trans ?_, ho⟩
    exact congrArg (· % 2 ^ 32) (refusedRow_merge _ v.toNat)
  · exact exec_regWrite_unaligned h
  · show execBar0BadAccess p off len s = _
    unfold execBar0BadAccess
    rw [if_neg (fun h => h.elim h4 h8)]
    rfl
  · have hu := State.reachable_of_down hd hn
    exact ⟨State.hubRead_unreachable hu, fun h4 => exec_regWrite_unreachable h4 (State.lt_cfgBase_of_domainOf hd) hu,
      fun hl => ⟨exec_reg64LowRead_unreachable hl hu, exec_reg64LowWrite_unreachable hl hu⟩,
      fun hh => ⟨exec_reg64HighRead_unreachable hh hu, exec_reg64HighWrite_unreachable hh hu⟩⟩

end Sys2Proof.Machine
end

section
/-! SUPPORT. The 64-bit registers (R10, R11): what the read and the write of each half do, with IMG_SRC for the writes. -/

namespace Sys2Proof.Machine

namespace State

theorem highFor_of_pendHi {s : State} {p : Port} {off : Nat} {w : Word} (h : (s.port p).pendHi = some (off, w)) :
    s.highFor p off = some w.toNat := by
  simp [highFor, h]

theorem highFor_of_none {s : State} {p : Port} {off : Nat} (h : (s.port p).pendHi = none) : s.highFor p off = none := by
  simp [highFor, h]

end State

/-! ### Reads -/

theorem exec_reg64LowRead_reachable {s : State} {p : Port} {off : Nat} (hl : (State.halfRow off .low).isSome = true)
    (h : s.reachable off = true) :
    exec (.reg64LowRead p off) s = .next ((s.complete (.words [s.hubRead p off])).setPort p
      { s.port p with snap := some (off, s.hubRead p (off + 4)) }) := by
  obtain ⟨r, hr⟩ := Option.isSome_iff_exists.1 hl
  show execReg64LowRead p off s = _
  unfold execReg64LowRead
  rw [hr, h]
  cases p <;> rfl

theorem exec_reg64HighRead_snap {s : State} {p : Port} {off : Nat} {w : Word}
    (hh : (State.halfRow (off + 4) .high).isSome = true) (h : s.reachable (off + 4) = true)
    (hs : (s.port p).snap = some (off, w)) :
    exec (.reg64HighRead p (off + 4)) s = .next ((s.setPort p { s.port p with snap := none }).complete (.words [w])) := by
  obtain ⟨r, hr⟩ := Option.isSome_iff_exists.1 hh
  show execReg64HighRead p (off + 4) s = _
  unfold execReg64HighRead
  rw [hr, h, hs]
  simp

/-! ### Writes of IMG_SRC -/

/-- The row of the low word of IMG_SRC; the high word's is like it. -/
def imgSrcRow (h : Half) : RegRow :=
  ⟨IMG_SRC.reg.addr + (if h = .high then 4 else 0), [], 1, h, fun _ => 0x0, 0xffffffff, 0x0, 0x0, 0x0, 0x0, some 1⟩

theorem findRow_imgSrc : findRow IMG_SRC.reg.addr = some (imgSrcRow .low, []) := rfl

theorem findRow_imgSrc_high : findRow (IMG_SRC.reg.addr + 4) = some (imgSrcRow .high, []) := rfl

namespace State

/-- IMG_SRC is its high word before its low one. -/
theorem f_imgSrc (s : State) :
    s.f IMG_SRC.reg = s.word IMG_SRC.reg.addr 0 + 2 ^ 32 * s.word (IMG_SRC.reg.addr + 4) 0 := by
  have h0 := s.word_lt IMG_SRC.reg.addr 0
  have h4 := s.word_lt (IMG_SRC.reg.addr + 4) 0
  show (s.word IMG_SRC.reg.addr 0 + 2 ^ 32 * s.word (IMG_SRC.reg.addr + 4) 0) / 2 ^ 0 % 2 ^ 64 = _
  rw [Nat.pow_zero, Nat.div_one, Nat.mod_eq_of_lt (by omega)]

theorem word_setWord_toNat (s : State) (a r : Nat) (v : Word) : (s.setWord a r v.toNat).word a r = v.toNat :=
  (word_setWord_self s a r _).trans (Nat.mod_eq_of_lt v.isLt)

/-- A write to a word of IMG_SRC leaves the word in it. -/
theorem regEffect_imgSrc (s : State) (p : Port) (v : Word) :
    s.regEffect p IMG_SRC.reg.addr v.toNat = s.setWord IMG_SRC.reg.addr 0 v.toNat := by
  show s.plainWrite IMG_SRC.reg.addr v.toNat = _
  unfold plainWrite
  rw [findRow_imgSrc]
  exact congrArg (s.setWord _ _) (RegRow.merge_rw rfl rfl rfl _ v)

theorem regEffect_imgSrc_high (s : State) (p : Port) (v : Word) :
    s.regEffect p (IMG_SRC.reg.addr + 4) v.toNat = s.setWord (IMG_SRC.reg.addr + 4) 0 v.toNat := by
  show s.plainWrite (IMG_SRC.reg.addr + 4) v.toNat = _
  unfold plainWrite
  rw [findRow_imgSrc_high]
  exact congrArg (s.setWord _ _) (RegRow.merge_rw rfl rfl rfl _ v)

/-- A low word with a high one that waits: both go in (R11). -/
theorem lowEffect_imgSrc_pending {s : State} {p : Port} {lo hi : Word}
    (h : (s.port p).pendHi = some (IMG_SRC.reg.addr, hi)) :
    s.lowEffect p (imgSrcRow .low) IMG_SRC.reg.addr lo.toNat =
      ((s.highUsed p).setWord (IMG_SRC.reg.addr + 4) 0 hi.toNat).setWord IMG_SRC.reg.addr 0 lo.toNat := by
  unfold lowEffect
  rw [if_neg (by decide)]
  dsimp only
  rw [if_neg (by decide), if_neg (by decide), highFor_of_pendHi h]
  exact (regEffect_imgSrc _ p lo).trans (congrArg (setWord · _ _ _) (regEffect_imgSrc_high _ p hi))

/-- A low word by itself: the high one stays (R11). -/
theorem lowEffect_imgSrc_none {s : State} {p : Port} {lo : Word} (h : (s.port p).pendHi = none) :
    s.lowEffect p (imgSrcRow .low) IMG_SRC.reg.addr lo.toNat = (s.highUsed p).setWord IMG_SRC.reg.addr 0 lo.toNat := by
  unfold lowEffect
  rw [if_neg (by decide)]
  dsimp only
  rw [if_neg (by decide), if_neg (by decide), highFor_of_none h]
  exact regEffect_imgSrc _ p lo

end State

/-! ### Writes of the halves -/

theorem exec_reg64HighWrite_accepted {s : State} {p : Port} {off : Nat} {v : Word} {r : RegRow} {ix : List Nat}
    (hf : findRow off = some (r, ix)) (hh : r.half = .high) (hu : off < 0x120000) (ha : s.accepts p off r.sem) :
    exec (.reg64HighWrite p off v) s = .next ((s.complete .ok).pendHigh p (off - 4) v.toNat) := by
  have hr : State.halfRow off .high = some r := by simp [State.halfRow, hf, hh]
  show execReg64HighWrite p off v s = _
  unfold execReg64HighWrite
  rw [hr]
  dsimp only
  rw [State.hubWrite_accepts _ ha, State.wordEffect, State.unitUsed_low hu, hh]
  rfl

theorem exec_reg64LowWrite_accepted {s : State} {p : Port} {off : Nat} {v : Word} {r : RegRow} {ix : List Nat}
    (hf : findRow off = some (r, ix)) (hh : r.half = .low) (hu : off < 0x120000) (ha : s.accepts p off r.sem) :
    exec (.reg64LowWrite p off v) s = .next ((s.complete .ok).lowEffect p r off v.toNat) := by
  have hr : State.halfRow off .low = some r := by simp [State.halfRow, hf, hh]
  show execReg64LowWrite p off v s = _
  unfold execReg64LowWrite
  rw [hr]
  dsimp only
  rw [State.hubWrite_accepts _ ha, State.wordEffect, State.unitUsed_low hu, hh]
  rfl

/-- Settles O2: a read goes through the snapshot, and a write of IMG_SRC through the pending high word. -/
theorem wideRegistersReadAndWrittenWhole : Obligations.WideRegistersReadAndWrittenWhole := by
  refine ⟨fun s p off hl hr => ⟨_, exec_reg64LowRead_reachable hl hr, ?_⟩,
    fun s p off w hh hr hs => ⟨_, exec_reg64HighRead_snap hh hr hs, ?_⟩, fun s p v ha => ⟨_, exec_reg64HighWrite_accepted findRow_imgSrc_high rfl (by decide) ha, ?_⟩,
    fun s p lo hi ha hp => ⟨_, exec_reg64LowWrite_accepted findRow_imgSrc rfl (by decide) ha, ?_⟩, fun s p lo ha hp => ⟨_, exec_reg64LowWrite_accepted findRow_imgSrc rfl (by decide) ha, ?_⟩⟩
  · simp [State.complete]
  · cases p <;> simp [State.complete, State.setPort, State.port]
  · simp [State.complete, State.pendHigh]
  · have hp' : ((s.complete .ok).port p).pendHi = some (IMG_SRC.reg.addr, hi) := by cases p <;> exact hp
    rw [State.lowEffect_imgSrc_pending hp', State.f_imgSrc]
    refine ⟨by simp [State.setWord, State.highUsed, State.complete], by cases p <;> rfl, ?_, fun d a hn => ?_⟩
    · rw [State.word_setWord_toNat, State.word_setWord_ne _ _ _ _ _ _ (by decide), State.word_setWord_toNat]
    · have h0 : a ≠ IMG_SRC.reg.addr := fun e => hn ⟨_, by simp, .inl e⟩
      have h4 : a ≠ IMG_SRC.reg.addr + 4 := fun e => hn ⟨_, by simp, .inr ⟨by decide, e⟩⟩
      simp [State.setWord, State.highUsed, State.complete, Tab.get_put_ne, h0, h4]
  · have hp' : ((s.complete .ok).port p).pendHi = none := by cases p <;> exact hp
    have hl := State.word_lt s IMG_SRC.reg.addr 0
    rw [State.lowEffect_imgSrc_none hp', State.f_imgSrc, State.f_imgSrc]
    refine ⟨by simp [State.setWord, State.highUsed, State.complete], ?_, fun d a hn => ?_⟩
    · have hw : ((s.complete .ok).highUsed p).word (IMG_SRC.reg.addr + 4) 0 = s.word (IMG_SRC.reg.addr + 4) 0 := by
        simp [State.word, State.highUsed, State.complete]
      rw [State.word_setWord_toNat, State.word_setWord_ne _ _ _ _ _ _ (by decide), hw]
      omega
    · have h0 : a ≠ IMG_SRC.reg.addr := fun e => hn ⟨_, by simp, .inl e⟩
      simp [State.setWord, State.highUsed, State.complete, Tab.get_put_ne, h0]

end Sys2Proof.Machine
end

section
/-! SUPPORT. A BAR2 read that meets a density cell with an uncorrectable error leaves an entry in the error log (R310,
R555). -/

namespace Sys2Proof.Machine

namespace State

@[simp] theorem raiseAt_wear (s : State) (p : Port) (n : Nat) : (s.raiseAt p n).wear = s.wear := by
  unfold raiseAt
  split
  · rfl
  · dsimp only
    split <;> simp [bump, addSat]

@[simp] theorem raise_wear (s : State) (n : Nat) : (s.raise n).wear = s.wear := by
  unfold raise
  split <;> simp

@[simp] theorem setWords_wear (s : State) (a : Nat) (b : List Byte) (n : Nat) : (s.setWords a b n).wear = s.wear := by
  induction n generalizing s a b with
  | zero => rfl
  | succ n ih => simp [setWords, ih]

/-- An entry of the error log keeps the time at which one of its kind and class was last written (R555). -/
theorem chkEntry_logged (s : State) (index addr kind cls unit action : Nat) (path : Option Nat) :
    Tab.get 0 (s.chkEntry index addr kind cls unit action path).wear.logged (16 * kind + cls) = s.time.clk + 1 := by
  unfold chkEntry
  simp [addWrap, Tab.get_put_self]

theorem chkFail_logged (s : State) (index addr kind cls unit action : Nat) (path : Option Nat) :
    Tab.get 0 (s.chkFail index addr kind cls unit action path).wear.logged (16 * kind + cls) = s.time.clk + 1 := by
  unfold chkFail
  rw [chkEntry_logged]
  simp

/-- FABRIC is up, and the first cell of density table 0 holds an uncorrectable error (R310). -/
def spoiltCell : State :=
  { State.reset with
    dom := { State.reset.dom with host := .on, fabric := .on }
    kal := { State.reset.kal with tables := [(0, { KalSt.reset with spoilt := [0] })] } }

theorem bar2Meet_spoiltCell : spoiltCell.bar2Meet [0] = spoiltCell.chkFail (2 ^ 64 - 1) 0 2 2 0 6 none := by
  have hr : spoiltCell.bar2Reach 0 = true := by decide
  have hc : 0 ∈ (spoiltCell.kalOf 0).spoilt := by decide
  simp [bar2Meet, hr, kalMeet, hc]

end State

/-- Refutes O3: its fourth clause has a BAR2 read change nothing but the completion, and the read of a density cell with an
uncorrectable error writes an entry of the error log (R310, R555). -/
theorem not_wideAndBar2AccessesActAsAWhole : ¬ Obligations.WideAndBar2AccessesActAsAWhole := by
  rintro ⟨-, -, -, hread, -⟩
  have hx : exec (.bar2Request .a (.read 0 4)) State.spoiltCell =
      .next ((State.spoiltCell.bar2Meet [0]).complete (.words [State.spoiltCell.bar2Read 0])) := rfl
  have h := hread State.spoiltCell .a 0 1 rfl (by decide)
  rw [hx, Host.Outcome.next.injEq, State.bar2Meet_spoiltCell] at h
  have hlog := State.chkFail_logged State.spoiltCell (2 ^ 64 - 1) 0 2 2 0 6 none
  have hnone : Tab.get 0 State.spoiltCell.wear.logged (16 * 2 + 2) = 0 := rfl
  have hsame := congrArg (fun t : State => Tab.get 0 t.wear.logged (16 * 2 + 2)) h
  simp only [State.complete_wear] at hsame
  omega

end Sys2Proof.Machine
end

section
/-! SUPPORT. Single bits of a number that is changed in one of them, and how the frames of several changes combine. -/

namespace Sys2Proof.Machine

/-! ### Single bits -/

theorem bit_eq_testBit (v i : Nat) : bit v i = v.testBit i := by
  rw [Nat.testBit_eq_decide_div_mod_eq]
  rfl

/-- Adding the power of a clear bit changes no other bit. -/
theorem bit_add_two_pow_ne {v i j : Nat} (h : bit v i = false) (hj : j ≠ i) : bit (v + 2 ^ i) j = bit v j := by
  have hm : v / 2 ^ i % 2 = 0 := by simpa [bit] using h
  have hr : v % 2 ^ i < 2 ^ i := Nat.mod_lt _ (Nat.two_pow_pos i)
  have hv : v = 2 ^ i * (v / 2 ^ i) + v % 2 ^ i := (Nat.div_add_mod v (2 ^ i)).symm
  have hw : v + 2 ^ i = 2 ^ i * (v / 2 ^ i + 1) + v % 2 ^ i := by rw [Nat.mul_add]; omega
  rw [bit_eq_testBit, bit_eq_testBit, hw]
  conv => rhs; rw [hv]
  rw [Nat.testBit_two_pow_mul_add _ hr, Nat.testBit_two_pow_mul_add _ hr]
  split
  · rfl
  · obtain ⟨k, hk⟩ : ∃ k, j - i = k + 1 := ⟨j - i - 1, by omega⟩
    rw [hk, Nat.testBit_add_one, Nat.testBit_add_one]
    congr 1
    omega

theorem bit_add_two_pow_self (v i : Nat) : bit (v + 2 ^ i) i = !bit v i := by
  rw [bit_eq_testBit, bit_eq_testBit, Nat.add_comm, Nat.testBit_two_pow_add_eq]

theorem bit_setBit_self (v i : Nat) : bit (setBit v i) i = true := by
  unfold setBit
  split
  · assumption
  · next h => rw [bit_add_two_pow_self]; simpa using h

theorem bit_setBit_ne {v i j : Nat} (hj : j ≠ i) : bit (setBit v i) j = bit v j := by
  unfold setBit
  split
  · rfl
  · next h => exact bit_add_two_pow_ne (by simpa using h) hj

/-- A number with a bit set is the one with it clear and the power of the bit. -/
theorem clearBit_add_two_pow {v i : Nat} (h : bit v i = true) : clearBit v i + 2 ^ i = v := by
  rw [clearBit, if_pos h]
  exact Nat.sub_add_cancel (Nat.ge_two_pow_of_testBit ((bit_eq_testBit v i).symm.trans h))

theorem bit_clearBit_self (v i : Nat) : bit (clearBit v i) i = false := by
  by_cases h : bit v i = true
  · have hs := bit_add_two_pow_self (clearBit v i) i
    rw [clearBit_add_two_pow h, h] at hs
    simpa using hs.symm
  · rw [clearBit, if_neg h]
    simpa using h

theorem bit_clearBit_ne {v i j : Nat} (hj : j ≠ i) : bit (clearBit v i) j = bit v j := by
  by_cases h : bit v i = true
  · rw [← bit_add_two_pow_ne (bit_clearBit_self v i) hj, clearBit_add_two_pow h]
  · rw [clearBit, if_neg h]

theorem setBit_of_bit {v i : Nat} (h : bit v i = true) : setBit v i = v := if_pos h

theorem clearBit_of_bit {v i : Nat} (h : bit v i = false) : clearBit v i = v := if_neg (by simp [h])

/-- Cutting a number to its low bits keeps them. -/
theorem bit_mod {v i n : Nat} (h : i < n) : bit (v % 2 ^ n) i = bit v i := by
  rw [bit_eq_testBit, bit_eq_testBit, Nat.testBit_mod_two_pow, decide_eq_true h, Bool.true_and]

namespace State

/-! ### Frames -/

section

variable {s t u : State} {P Q : Nat → Prop}

theorem wordsBut_trans (h : s.wordsBut t P) (k : t.wordsBut u P) : s.wordsBut u P := fun d a n =>
  (k d a n).trans (h d a n)

theorem wordsBut_mono (h : s.wordsBut t P) (hp : ∀ a, P a → Q a) : s.wordsBut t Q := fun d a n => h d a fun k => n (hp a k)

theorem wordsBut_of_regs (h : t.regs = s.regs) : s.wordsBut t P := fun d a _ => by rw [h]

theorem wordsBut_set {l : Loc} {v : Nat} (h : ∀ a, l.covers a → P a) : s.wordsBut (s.set l v) P := fun _ a n =>
  get_set s l v a fun hc => n (h a hc)

theorem wordsBut_raise {n : Nat} (hn : n < 1024) (h : ∀ a, eventWord a → P a) : s.wordsBut (s.raise n) P := fun _ a k =>
  get_raise s n a hn fun he => k (h a he)

/-- A field whose words stay reads alike. -/
theorem f_of_wordsBut (h : s.wordsBut t P) {l : Loc} (hl : ∀ a, l.covers a → ¬ P a) : t.f l = s.f l :=
  f_of_words l fun d a ha => h d a (hl a ha)

end

/-- A field of one word covers that word. -/
theorem covers_iff {l : Loc} (h : l.lo + l.width ≤ 32) (a : Nat) : l.covers a ↔ a = l.addr := by
  unfold Loc.covers
  constructor
  · rintro (ha | ⟨hn, -⟩)
    · exact ha
    · omega
  · exact .inl

/-- The counts of events lie in event words. -/
theorem count_eventWord {p : Port} {n a : Nat} (hn : n < 1024) (hc : (EVT_CNT.count p.idx n).covers a) : eventWord a := by
  rw [covers_iff (by show 0 + 16 ≤ 32; omega)] at hc
  rw [hc]
  simp only [eventWord, EVT_CNT.count]
  cases p <;> simp only [Port.idx] <;> omega

/-- An event stays counted when words outside the event blocks change after it. -/
theorem raised_before {s t u : State} {n : Nat} (hn : n < 1024) {P : Nat → Prop} (hr : s.raised n t) (h : t.wordsBut u P)
    (hp : ∀ a, P a → ¬ eventWord a) : s.raised n u := fun p he ha =>
  (f_of_wordsBut h fun a hc hP => hp a hP (count_eventWord hn hc)).trans (hr p he ha)

/-- An event stays counted when words outside the event blocks, and not the variant, changed before it. -/
theorem raised_after {s t u : State} {n : Nat} (hn : n < 1024) {P : Nat → Prop} (h : s.wordsBut t P)
    (hp : ∀ a, P a → ¬ eventWord a ∧ a ≠ GLB_ID.variant.addr) (ho : ∀ p, (t.port p).evtReset = (s.port p).evtReset)
    (hr : t.raised n u) : s.raised n u := by
  intro p he ha
  have hv : t.variant = s.variant := f_of_wordsBut h fun a hc hP => (hp a hP).2 ((covers_iff (by decide) a).1 hc)
  have hab : t.eventAbsent n = s.eventAbsent n := by
    unfold eventAbsent pathPresent kpPresent displayPresent
    rw [hv]
  rw [← f_of_wordsBut h fun a hc hP => (hp a hP).1 (count_eventWord (p := p) hn hc)]
  exact hr p ((ho p).trans he) (hab.trans ha)

end State

end Sys2Proof.Machine
end

section
/-! SUPPORT. The FCD outputs (R492 to R498): what a period, a clear cause, a start and a stop of an output do to its status
word, one output after another. -/

namespace Sys2Proof.Machine

namespace State

/-- The status word of an output. -/
def fcdWord (s : State) (f : Nat) : Nat := s.word (FCD_STATUS.reg f).addr 0

/-- A flag of the status word of an output. -/
def fcdFlag (f lo : Nat) : Loc := ⟨(FCD_STATUS.reg f).addr, lo, 1, 0⟩

@[simp] theorem set_port (s : State) (l : Loc) (v : Nat) (p : Port) : (s.set l v).port p = s.port p := by
  cases p <;> simp [port]

/-- Among the register words only the status words of the outputs of a list have changed, and not VHK, the completion or a
port. -/
structure FcdOnly (s t : State) (fs : List Nat) : Prop where
  words : s.wordsBut t fun a => ∃ f ∈ fs, a = (FCD_STATUS.reg f).addr
  vhk : t.fcd.vhkLow = s.fcd.vhkLow
  bus : t.bus = s.bus
  ports : ∀ p, t.port p = s.port p

/-! ### Fields of a status word -/

theorem statusAddr_inj {f g : Nat} (h : (FCD_STATUS.reg f).addr = (FCD_STATUS.reg g).addr) : f = g := by
  simp only [FCD_STATUS.reg] at h
  omega

theorem f_status (s : State) {f : Nat} {l : Loc} (ha : l.addr = (FCD_STATUS.reg f).addr) (hr : l.rst = 0)
    (hw : l.lo + l.width ≤ 32) : s.f l = bits (s.fcdWord f) l.lo l.width := by
  unfold State.f regVal fcdWord
  rw [if_pos hw, ha, hr, Nat.zero_mod]

theorem f_fcdFlag (s : State) {f lo : Nat} (h : lo < 16) : s.f (fcdFlag f lo) = bits (s.fcdWord f) lo 1 :=
  f_status s rfl rfl (by simp only [fcdFlag]; omega)

theorem f_shown (s : State) (f : Nat) : s.f (FCD_STATUS.shown f) = bits (s.fcdWord f) 16 16 :=
  f_status s rfl rfl (by show 16 + 16 ≤ 32; omega)

theorem fcdWord_lt (s : State) (f : Nat) : s.fcdWord f < 2 ^ 32 := word_lt _ _ _

theorem f_statusReg (s : State) (f : Nat) : s.f (FCD_STATUS.reg f) = s.fcdWord f := by
  rw [f_status s (f := f) rfl rfl (by show 0 + 32 ≤ 32; omega)]
  show s.fcdWord f / 2 ^ 0 % 2 ^ 32 = _
  rw [Nat.pow_zero, Nat.div_one, Nat.mod_eq_of_lt (fcdWord_lt s f)]

theorem fcdWord_set (s : State) {f : Nat} {l : Loc} (v : Nat) (ha : l.addr = (FCD_STATUS.reg f).addr) (hr : l.rst = 0)
    (hw : l.lo + l.width ≤ 32) : (s.set l v).fcdWord f = insertBits (s.fcdWord f) l.lo l.width v := by
  have hlt := insertBits_lt v (fcdWord_lt s f) hw
  unfold set fcdWord regVal at *
  rw [if_pos hw, if_pos hw, ha, hr]
  exact (word_setWord_self _ _ _ _).trans (Nat.mod_eq_of_lt hlt)

theorem fcdWord_setFlag (s : State) {f lo : Nat} (v : Nat) (h : lo < 16) :
    (s.set (fcdFlag f lo) v).fcdWord f = insertBits (s.fcdWord f) lo 1 v :=
  fcdWord_set s v rfl rfl (by simp only [fcdFlag]; omega)

theorem fcdWord_setShown (s : State) (f v : Nat) :
    (s.set (FCD_STATUS.shown f) v).fcdWord f = insertBits (s.fcdWord f) 16 16 v :=
  fcdWord_set s v rfl rfl (by show 16 + 16 ≤ 32; omega)

@[simp] theorem fcdWord_setFcdOut (s : State) (f g : Nat) (x : FcdOut) : (s.setFcdOut g x).fcdWord f = s.fcdWord f := rfl

/-! ### What depends on the settings alone -/

section

variable {s t : State} {P : Nat → Prop}

theorem fcdWord_of_wordsBut (h : s.wordsBut t P) {f : Nat} (hp : ¬ P (FCD_STATUS.reg f).addr) :
    t.fcdWord f = s.fcdWord f := congrArg BitVec.toNat (h _ _ hp)

theorem fcdRuns_of_wordsBut (h : s.wordsBut t P) (hv : t.fcd.vhkLow = s.fcd.vhkLow) (hp : ¬ P FCD_CTL.reg.addr) (f : Nat) :
    t.fcdRuns f = s.fcdRuns f := by
  unfold fcdRuns
  rw [hv, f_of_wordsBut h (l := FCD_CTL.drive_en) fun a hc => (covers_iff (by decide) a).1 hc ▸ hp]

theorem fcdClearCode_of_wordsBut (h : s.wordsBut t P) {f : Nat} (hg : ¬ P (FCD_CFG.reg f).addr)
    (hc : ¬ P (FCD_CLR.reg f).addr) : t.fcdClearCode f = s.fcdClearCode f := by
  have hl : ∀ l : Loc, l.lo + l.width ≤ 32 → ¬ P l.addr → t.f l = s.f l := fun l hw hp =>
    f_of_wordsBut h fun a ha => (covers_iff hw a).1 ha ▸ hp
  unfold fcdClearCode flag
  rw [hl (FCD_CFG.range f) (by show 0 + 1 ≤ 32; omega) hg, hl (FCD_CLR.clr_18 f) (by show 16 + 16 ≤ 32; omega) hc,
    hl (FCD_CLR.clr_33 f) (by show 0 + 16 ≤ 32; omega) hc]

end

theorem fcdClearCode_lt (s : State) (f : Nat) : s.fcdClearCode f < 2 ^ 16 := by
  unfold fcdClearCode
  split
  · exact f_lt s (FCD_CLR.clr_18 f)
  · exact f_lt s (FCD_CLR.clr_33 f)

/-! ### Outputs of a list -/

namespace FcdOnly

variable {s t u : State} {fs gs : List Nat}

theorem refl (s : State) : FcdOnly s s fs := ⟨wordsBut_refl _ _, rfl, rfl, fun _ => rfl⟩

theorem trans (h : FcdOnly s t fs) (k : FcdOnly t u gs) : FcdOnly s u (fs ++ gs) :=
  ⟨wordsBut_trans (wordsBut_mono h.words fun _ ⟨f, hf, ha⟩ => ⟨f, List.mem_append_left _ hf, ha⟩)
    (wordsBut_mono k.words fun _ ⟨f, hf, ha⟩ => ⟨f, List.mem_append_right _ hf, ha⟩), k.vhk.trans h.vhk,
    k.bus.trans h.bus, fun p => (k.ports p).trans (h.ports p)⟩

theorem trans_self {f : Nat} (h : FcdOnly s t [f]) (k : FcdOnly t u [f]) : FcdOnly s u [f] :=
  ⟨wordsBut_trans h.words k.words, k.vhk.trans h.vhk, k.bus.trans h.bus, fun p => (k.ports p).trans (h.ports p)⟩

theorem set {f : Nat} {l : Loc} {v : Nat} (ha : l.addr = (FCD_STATUS.reg f).addr) (hw : l.lo + l.width ≤ 32) :
    FcdOnly s (s.set l v) [f] :=
  ⟨wordsBut_set fun a hc => ⟨f, by simp, ((covers_iff hw a).1 hc).trans ha⟩, by rw [set_fcd], set_bus _ _ _, set_port _ _ _⟩

theorem setFcdOut {f : Nat} {x : FcdOut} : FcdOnly s (s.setFcdOut f x) fs := ⟨wordsBut_of_regs rfl, rfl, rfl, fun p => by cases p <;> rfl⟩

theorem runs (h : FcdOnly s t fs) (f : Nat) : t.fcdRuns f = s.fcdRuns f :=
  fcdRuns_of_wordsBut h.words h.vhk (fun ⟨g, _, hg⟩ => by simp only [FCD_CTL.reg, FCD_STATUS.reg] at hg; omega) f

theorem clearCode (h : FcdOnly s t fs) (f : Nat) : t.fcdClearCode f = s.fcdClearCode f :=
  fcdClearCode_of_wordsBut h.words (fun ⟨g, _, hg⟩ => by simp only [FCD_CFG.reg, FCD_STATUS.reg] at hg; omega)
    (fun ⟨g, _, hg⟩ => by simp only [FCD_CLR.reg, FCD_STATUS.reg] at hg; omega)

theorem word {f : Nat} (h : FcdOnly s t fs) (hf : f ∉ fs) : t.fcdWord f = s.fcdWord f :=
  fcdWord_of_wordsBut h.words fun ⟨_, hg, ha⟩ => hf (statusAddr_inj ha ▸ hg)

/-- A frame that names the status registers of the outputs holds. -/
theorem onlyFields (h : FcdOnly s t fs) {ls : List Loc} (hl : ∀ f ∈ fs, FCD_STATUS.reg f ∈ ls) : s.onlyFields t ls :=
  wordsBut_mono h.words fun _ ⟨f, hf, ha⟩ => ⟨_, hl f hf, .inl ha⟩

/-- A field of another register reads alike. -/
theorem f_of_addr (h : FcdOnly s t fs) {l : Loc} (hw : l.lo + l.width ≤ 32)
    (ha : ∀ f, l.addr ≠ (FCD_STATUS.reg f).addr) : t.f l = s.f l :=
  f_of_wordsBut h.words fun a hc ⟨f, _, hf⟩ => ha f (((covers_iff hw a).1 hc).symm.trans hf)

end FcdOnly

/-- A change of one output: nothing else moves, and its status word becomes one that depends on the word, on whether the PWM
runs and on the clear code. -/
def FcdOp (op : State → Nat → State) (φ : Bool → Nat → Nat → Nat) : Prop :=
  ∀ s f, FcdOnly s (op s f) [f] ∧ (op s f).fcdWord f = φ (s.fcdRuns f) (s.fcdClearCode f) (s.fcdWord f)

/-- The same change of several outputs changes each of them once. -/
theorem FcdOp.foldl {op : State → Nat → State} {φ : Bool → Nat → Nat → Nat} (h : FcdOp op φ) (s : State) {fs : List Nat}
    (hn : fs.Nodup) : FcdOnly s (fs.foldl op s) fs ∧
      ∀ f ∈ fs, (fs.foldl op s).fcdWord f = φ (s.fcdRuns f) (s.fcdClearCode f) (s.fcdWord f) := by
  induction fs generalizing s with
  | nil => exact ⟨.refl s, by simp⟩
  | cons g gs ih =>
    obtain ⟨hg, hn⟩ := List.nodup_cons.1 hn
    obtain ⟨hone, hword⟩ := h s g
    obtain ⟨hrest, hwords⟩ := ih (op s g) hn
    refine ⟨hone.trans hrest, fun f hf => ?_⟩
    rcases List.mem_cons.1 hf with rfl | hf
    · exact (hrest.word hg).trans hword
    · have hne : f ∉ [g] := fun e => hg (List.mem_singleton.1 e ▸ hf)
      rw [List.foldl_cons, hwords f hf, hone.runs, hone.clearCode, hone.word hne]

/-! ### The changes -/

/-- The status word once a clear cause has started. -/
def causeWord (lo : Nat) (runs : Bool) (clr w : Nat) : Nat :=
  if runs then insertBits (insertBits w lo 1 1) 16 16 clr else insertBits w lo 1 1

/-- The status word once a clear cause has ended. -/
def endWord (lo : Nat) (_runs : Bool) (_clr w : Nat) : Nat := insertBits w lo 1 0

/-- The status word of an output that starts (R496 step 1). -/
def startWord (runs : Bool) (clr w : Nat) : Nat := causeWord 4 runs clr (insertBits w 6 1 0)

/-- The status word of an output that returns to high impedance (R497). -/
def stopWord (_runs : Bool) (_clr w : Nat) : Nat := insertBits (insertBits w 6 1 0) 4 1 0

theorem fcdPeriod_only (s : State) (f code : Nat) : FcdOnly s (s.fcdPeriod f code) [f] := by
  refine FcdOnly.trans_self (FcdOnly.set (l := FCD_STATUS.shown f) (v := code) rfl ?_) .setFcdOut
  show 16 + 16 ≤ 32
  omega

theorem fcdWord_fcdPeriod (s : State) (f code : Nat) :
    (s.fcdPeriod f code).fcdWord f = insertBits (s.fcdWord f) 16 16 code := fcdWord_setShown s f code

theorem fcdFlag_only (s : State) {f lo v : Nat} (h : lo < 16) : FcdOnly s (s.set (fcdFlag f lo) v) [f] :=
  .set rfl (by simp only [fcdFlag]; omega)

theorem fcdCause_op {lo : Nat} (h : lo < 16) : FcdOp (fun s f => s.fcdCause f (fcdFlag f lo)) (causeWord lo) := by
  intro s f
  have hset : FcdOnly s (s.set (fcdFlag f lo) 1) [f] := fcdFlag_only s h
  dsimp only
  unfold fcdCause causeWord
  dsimp only
  rw [hset.runs]
  cases hr : s.fcdRuns f with
  | false => exact ⟨hset, fcdWord_setFlag s 1 h⟩
  | true =>
    refine ⟨hset.trans_self (FcdOnly.setFcdOut.trans_self (fcdPeriod_only _ _ _)), ?_⟩
    rw [if_pos rfl, if_pos rfl, fcdWord_fcdPeriod, fcdWord_setFcdOut, fcdWord_setFlag s 1 h, hset.clearCode]

theorem fcdCauseEnd_op {lo : Nat} (h : lo < 16) : FcdOp (fun s f => s.fcdCauseEnd f (fcdFlag f lo)) (endWord lo) := fun s _ =>
  ⟨(fcdFlag_only s h).trans_self .setFcdOut, fcdWord_setFlag s 0 h⟩

theorem fcdStart_op : FcdOp fcdStart startWord := by
  intro s f
  have hset : FcdOnly s (s.set (fcdFlag f 6) 0) [f] := fcdFlag_only s (by decide)
  obtain ⟨hc, hw⟩ := fcdCause_op (lo := 4) (by decide) (s.set (fcdFlag f 6) 0) f
  refine ⟨hset.trans_self hc, hw.trans ?_⟩
  rw [hset.runs, hset.clearCode, fcdWord_setFlag s 0 (by decide)]
  rfl

/-- An output returns to high impedance (R497). -/
def fcdStop (s : State) (f : Nat) : State := (s.set (FCD_STATUS.driving f) 0).set (FCD_STATUS.c_pre f) 0

theorem fcdStop_op : FcdOp fcdStop stopWord := by
  intro s f
  have hset : FcdOnly s (s.set (fcdFlag f 6) 0) [f] := fcdFlag_only s (by decide)
  have hw := fcdWord_setFlag (s.set (fcdFlag f 6) 0) (f := f) (lo := 4) 0 (by decide)
  rw [fcdWord_setFlag s 0 (by decide)] at hw
  exact ⟨hset.trans_self (fcdFlag_only _ (lo := 4) (by decide)), hw⟩

theorem fcdCauses_eq (s : State) (cause : Nat → Loc) (fs : List Nat) :
    s.fcdCauses cause fs = fs.foldl (fun s f => s.fcdCause f (cause f)) s := by
  induction fs generalizing s with
  | nil => rfl
  | cons f fs ih => exact ih _

theorem fcdCausesEnd_eq (s : State) (cause : Nat → Loc) (fs : List Nat) :
    s.fcdCausesEnd cause fs = fs.foldl (fun s f => s.fcdCauseEnd f (cause f)) s := by
  induction fs generalizing s with
  | nil => rfl
  | cons f fs ih => exact ih _

theorem fcdStarts_eq (s : State) (fs : List Nat) : s.fcdStarts fs = fs.foldl fcdStart s := by
  induction fs generalizing s with
  | nil => rfl
  | cons f fs ih => exact ih _

/-! ### Fields of the words -/

theorem bits_insertBits_clear (w lo : Nat) : bits (insertBits w lo 1 0) lo 1 = 0 := bits_insertBits_self _ _ _ _

theorem bits_insertBits_set (w lo : Nat) : bits (insertBits w lo 1 1) lo 1 = 1 := bits_insertBits_self _ _ _ _

theorem bits_insertBits_shown (w v : Nat) : bits (insertBits w 16 16 v) 16 16 = v % 65536 := bits_insertBits_self _ _ _ _

theorem bits_causeWord_self {lo : Nat} (h : lo < 16) (runs : Bool) (clr w : Nat) :
    bits (causeWord lo runs clr w) lo 1 = 1 := by
  unfold causeWord
  split
  · rw [bits_insertBits_ne _ _ (.inl (by omega)), bits_insertBits_set]
  · rw [bits_insertBits_set]

theorem bits_causeWord_ne {lo k : Nat} (h : k < 16) (hk : k ≠ lo) (runs : Bool) (clr w : Nat) :
    bits (causeWord lo runs clr w) k 1 = bits w k 1 := by
  unfold causeWord
  split
  · rw [bits_insertBits_ne _ _ (.inl (by omega)), bits_insertBits_ne _ _ (by omega)]
  · rw [bits_insertBits_ne _ _ (by omega)]

theorem bits_causeWord_shown {lo : Nat} (h : lo < 16) (runs : Bool) {clr : Nat} (hc : clr < 2 ^ 16) (w : Nat) :
    bits (causeWord lo runs clr w) 16 16 = if runs then clr else bits w 16 16 := by
  unfold causeWord
  split
  · exact (bits_insertBits_shown _ _).trans (Nat.mod_eq_of_lt hc)
  · rw [bits_insertBits_ne _ _ (.inr (by omega))]

end State

end Sys2Proof.Machine
end

section
/-! SUPPORT. The commands of the FCD outputs (R492 to R498, R625), one after another. -/

namespace Sys2Proof.Machine

namespace State

/-! ### Flags of a status word -/

/-- A flag is as its bit of the status word. -/
theorem flag_fcdFlag (s : State) {f lo : Nat} (h : lo < 16) : s.flag (fcdFlag f lo) = (bits (s.fcdWord f) lo 1 == 1) := by
  rw [flag, f_fcdFlag s h]

theorem bits_stopWord (runs : Bool) (clr w : Nat) :
    bits (stopWord runs clr w) 6 1 = 0 ∧ bits (stopWord runs clr w) 4 1 = 0 := by
  unfold stopWord
  rw [bits_insertBits_ne _ _ (.inr (by decide)), bits_insertBits_clear, bits_insertBits_clear]
  exact ⟨rfl, rfl⟩

theorem bits_startWord (runs : Bool) {clr : Nat} (hc : clr < 2 ^ 16) (w : Nat) :
    bits (startWord runs clr w) 6 1 = 0 ∧ bits (startWord runs clr w) 4 1 = 1 ∧
      bits (startWord runs clr w) 16 16 = if runs then clr else bits w 16 16 := by
  unfold startWord
  refine ⟨?_, bits_causeWord_self (by decide) _ _ _, ?_⟩
  · rw [bits_causeWord_ne (by decide) (by decide), bits_insertBits_clear]
  · rw [bits_causeWord_shown (by decide) _ hc, bits_insertBits_ne _ _ (.inr (by decide))]

/-- A status word of one of the eight outputs is no event word and does not hold the variant. -/
theorem statusAddr_apart {f : Nat} (h : f < 8) :
    ¬ eventWord (FCD_STATUS.reg f).addr ∧ (FCD_STATUS.reg f).addr ≠ GLB_ID.variant.addr := by
  simp only [eventWord, FCD_STATUS.reg, GLB_ID.variant]
  omega

theorem statusReg_mem {f : Nat} (h : f < 8) : FCD_STATUS.reg f ∈ (List.range 8).map FCD_STATUS.reg :=
  List.mem_map_of_mem (List.mem_range.2 h)

/-! ### A code that is written (R493) -/

theorem fcdCodeWrite_spec (s : State) (f v : Nat) :
    (s.fcdCodeWrite f v).bus = s.bus ∧ (s.fcdCodeWrite f v).f (FCD_CODE.code f) = v % 65536 ∧
      (s.fcdCodeWrite f v).flag (FCD_STATUS.written f) = true ∧
      (s.fcdCodeWrite f v).f (FCD_STATUS.shown f) = s.f (FCD_STATUS.shown f) ∧
      s.onlyFields (s.fcdCodeWrite f v) [FCD_CODE.reg f, FCD_STATUS.reg f] := by
  have hcode : s.wordsBut (s.set (FCD_CODE.code f) v) fun a => a = (FCD_CODE.reg f).addr :=
    wordsBut_set fun a hc => (covers_iff (l := FCD_CODE.code f) (by show 0 + 16 ≤ 32; omega) a).1 hc
  have hst : FcdOnly (s.set (FCD_CODE.code f) v) (s.fcdCodeWrite f v) [f] :=
    (fcdFlag_only (s.set (FCD_CODE.code f) v) (f := f) (lo := 8) (v := 1) (by decide)).trans_self .setFcdOut
  have hw : (s.fcdCodeWrite f v).fcdWord f = insertBits (s.fcdWord f) 8 1 1 := by
    refine (fcdWord_setFlag (s.set (FCD_CODE.code f) v) (f := f) (lo := 8) 1 (by decide)).trans ?_
    rw [fcdWord_of_wordsBut hcode (by simp only [FCD_CODE.reg, FCD_STATUS.reg]; omega)]
  refine ⟨hst.bus.trans (set_bus _ _ _), ?_, ?_, ?_, ?_⟩
  · rw [hst.f_of_addr (by show 0 + 16 ≤ 32; omega) fun g => by simp only [FCD_CODE.code, FCD_STATUS.reg]; omega]
    exact f_set_self s (FCD_CODE.code f) v (by show 0 + 16 ≤ 64; omega)
  · refine (flag_fcdFlag _ (by decide)).trans ?_
    rw [hw, bits_insertBits_set]
    rfl
  · rw [f_shown, f_shown, hw, bits_insertBits_ne _ _ (.inr (by decide))]
  · refine wordsBut_trans (wordsBut_mono hcode fun a ha => ⟨_, by simp, .inl ha⟩) (hst.onlyFields fun g hg => ?_)
    simp [List.mem_singleton.1 hg]

theorem exec_fcdCodeWrite {s : State} {p : Port} {f : Fin 8} {v : Word} (h : s.reachable (FCD_CODE.reg f).addr = true) :
    exec (.fcdCodeWrite p f v) s = .next ((s.complete .ok).fcdCodeWrite f v.toNat) :=
  congrArg _ (hubWrite_accepts (sem := none) (fun s => s.fcdCodeWrite f v.toNat) ⟨h, fun _ hn => by cases hn⟩)

/-! ### Periods (R495, R498) -/

theorem exec_fcdPwmPeriod {s : State} {f : Fin 8} (hu : s.up .conv = true) (hs : (s.fcdOut f).settled = false) :
    exec (.fcdPwmPeriod f) s = .next (if s.fcdRuns f then s.fcdPeriod f (s.fcdTarget f) else s) := by
  show execFcdPwmPeriod f s = _
  unfold execFcdPwmPeriod
  simp [hu, hs]

/-- A switch that has settled ends its cause at the period boundary (R498 step 2). -/
def fcdSettle (s : State) (f : Nat) : State :=
  (s.setFcdOut f { s.fcdOut f with settled := false }).fcdCauseEnd f (FCD_STATUS.c_range f)

theorem exec_fcdPwmPeriod_settled {s : State} {f : Fin 8} (hu : s.up .conv = true) (hs : (s.fcdOut f).settled = true) :
    exec (.fcdPwmPeriod f) s = .next (if (s.fcdSettle f).fcdRuns f then
      (s.fcdSettle f).fcdPeriod f ((s.fcdSettle f).fcdTarget f) else s.fcdSettle f) := by
  show execFcdPwmPeriod f s = _
  unfold execFcdPwmPeriod
  simp only [hu, hs, Bool.not_true, Bool.false_eq_true, if_false, if_true]
  rfl

theorem fcdPeriod_settled (s : State) (f code : Nat) : ((s.fcdPeriod f code).fcdOut f).settled = (s.fcdOut f).settled := by
  unfold fcdPeriod
  simp

/-- What an output shows depends on the registers alone. -/
theorem fcdTarget_congr {s t : State} (h : s.regs = t.regs) (f : Nat) : s.fcdTarget f = t.fcdTarget f := by
  unfold fcdTarget fcdHeld flag fcdClearCode flag
  simp only [f_congr _ h]

theorem fcdSettle_spec (s : State) (f : Nat) : FcdOnly s (s.fcdSettle f) [f] ∧
    (s.fcdSettle f).fcdWord f = insertBits (s.fcdWord f) 3 1 0 ∧ ((s.fcdSettle f).fcdOut f).settled = false ∧
    (s.fcdSettle f).fcdTarget f = (s.fcdCauseEnd f (FCD_STATUS.c_range f)).fcdTarget f := by
  obtain ⟨ho, hw⟩ := fcdCauseEnd_op (lo := 3) (by decide) (s.setFcdOut f { s.fcdOut f with settled := false }) f
  refine ⟨FcdOnly.setFcdOut.trans_self ho, hw, ?_, fcdTarget_congr rfl f⟩
  unfold fcdSettle fcdCauseEnd
  rw [setFcdOut_fcdOut_self]
  simp [fcdOut, setFcdOut, Tab.get_put_self]

/-! ### The CLRDAC_N pin (R494, R625) -/

/-- The falling pin, before the outputs take their cause. -/
def clrdacFallen (s : State) : State :=
  ((({ s with fcd := { s.fcd with clrdacLow := true } } : State).set FCD_PIN.clrdac_n 0).bump FCD_PIN.clr_count).raise 104

theorem exec_clrdacFall {s : State} (hl : s.fcd.clrdacLow = false) (hu : s.up .conv = true) :
    exec .clrdacFall s = .next (s.clrdacFallen.fcdCauses FCD_STATUS.c_clrdac (List.range 8)) := by
  show execClrdacFall s = _
  unfold execClrdacFall
  rw [if_neg (by simp [hl])]
  exact congrArg _ (if_pos hu)

theorem exec_clrdacFall_held {s : State} (hl : s.fcd.clrdacLow = true) : exec .clrdacFall s = .next s := by
  show execClrdacFall s = _
  unfold execClrdacFall
  rw [if_pos hl]

theorem exec_clrdacFall_down {s : State} (hl : s.fcd.clrdacLow = false) (hu : s.up .conv = false) :
    exec .clrdacFall s = .next { s with fcd := { s.fcd with clrdacLow := true } } := by
  show execClrdacFall s = _
  unfold execClrdacFall
  rw [if_neg (by simp [hl])]
  exact congrArg _ (if_neg (c := s.up .conv = true) (by simp [hu]))

/-- The words of FCD_PIN. -/
def pinWord (a : Nat) : Prop := a = FCD_PIN.reg.addr

theorem pinWord_apart {a : Nat} (h : pinWord a) : ¬ eventWord a ∧ a ≠ GLB_ID.variant.addr := by
  rw [h]
  unfold eventWord
  decide

theorem wordsBut_setPin (s : State) (v : Nat) : s.wordsBut (s.set FCD_PIN.clrdac_n v) pinWord :=
  wordsBut_set fun a hc => (covers_iff (l := FCD_PIN.clrdac_n) (by decide) a).1 hc

theorem wordsBut_bumpPin (s : State) : s.wordsBut (s.bump FCD_PIN.clr_count) pinWord :=
  wordsBut_set fun a hc => (covers_iff (l := FCD_PIN.clr_count) (by decide) a).1 hc

@[simp] theorem raiseAt_fcd (s : State) (p : Port) (n : Nat) : (s.raiseAt p n).fcd = s.fcd := by
  unfold raiseAt
  split
  · rfl
  · dsimp only
    split <;> simp [bump, addSat]

@[simp] theorem raise_fcd (s : State) (n : Nat) : (s.raise n).fcd = s.fcd := by
  unfold raise
  split <;> simp

theorem clrdacFallen_spec (s : State) :
    s.wordsBut s.clrdacFallen (fun a => eventWord a ∨ pinWord a) ∧ s.clrdacFallen.fcd.vhkLow = s.fcd.vhkLow ∧
      s.clrdacFallen.flag FCD_PIN.clrdac_n = false ∧
      s.clrdacFallen.f FCD_PIN.clr_count = min 65535 (s.f FCD_PIN.clr_count + 1) ∧ s.raised 104 s.clrdacFallen := by
  let s0 : State := { s with fcd := { s.fcd with clrdacLow := true } }
  let s2 : State := (s0.set FCD_PIN.clrdac_n 0).bump FCD_PIN.clr_count
  have h02 : s.wordsBut s2 pinWord := wordsBut_trans (wordsBut_setPin s0 0) (wordsBut_bumpPin _)
  have hpin : ∀ l : Loc, l.lo + l.width ≤ 32 → l.addr = FCD_PIN.reg.addr → (s2.raise 104).f l = s2.f l := fun l hw ha =>
    f_raise s2 104 l (by decide) fun a hc =>
      (pinWord_apart (((covers_iff hw a).1 hc).trans ha)).1
  refine ⟨wordsBut_trans (wordsBut_mono h02 fun _ => .inr) (wordsBut_raise (by decide) fun _ => .inl), ?_, ?_, ?_, ?_⟩
  · rw [clrdacFallen, raise_fcd, bump, addSat, set_fcd, set_fcd]
  · refine (congrArg (· == 1) (hpin FCD_PIN.clrdac_n (by decide) rfl)).trans ?_
    rw [show s2 = (s0.set FCD_PIN.clrdac_n 0).set FCD_PIN.clr_count _ from rfl, f_set_apart _ _ _ _ (.inr (by decide)),
      f_set_self _ _ _ (by decide)]
    rfl
  · refine (hpin FCD_PIN.clr_count (by decide) rfl).trans ((f_set_self _ _ _ (by decide)).trans ?_)
    rw [f_set_apart _ _ _ _ (.inr (by decide))]
    exact Nat.mod_eq_of_lt (Nat.lt_succ_of_le (Nat.min_le_left _ _))
  · refine raised_after (by decide) h02 (fun _ => pinWord_apart) (fun p => ?_) (raised_raise s2 104 (by decide))
    show (((s0.set FCD_PIN.clrdac_n 0).set FCD_PIN.clr_count _).port p).evtReset = _
    rw [set_port, set_port]
    cases p <;> rfl

/-- The pin that has risen, before the cause ends. -/
def clrdacRisen (s : State) : State :=
  ({ s with fcd := { s.fcd with clrdacLow := false } } : State).set FCD_PIN.clrdac_n 1

theorem exec_clrdacRelease {s : State} (hl : s.fcd.clrdacLow = true) (hu : s.up .conv = true) :
    exec .clrdacRelease s = .next (s.clrdacRisen.fcdCausesEnd FCD_STATUS.c_clrdac (List.range 8)) := by
  show execClrdacRelease s = _
  unfold execClrdacRelease
  rw [if_neg (by simp [hl])]
  exact congrArg _ (if_pos hu)

theorem exec_clrdacRelease_free {s : State} (hl : s.fcd.clrdacLow = false) : exec .clrdacRelease s = .next s := by
  show execClrdacRelease s = _
  unfold execClrdacRelease
  rw [if_pos (by simp [hl])]

theorem exec_clrdacRelease_down {s : State} (hl : s.fcd.clrdacLow = true) (hu : s.up .conv = false) :
    exec .clrdacRelease s = .next { s with fcd := { s.fcd with clrdacLow := false } } := by
  show execClrdacRelease s = _
  unfold execClrdacRelease
  rw [if_neg (by simp [hl])]
  exact congrArg _ (if_neg (c := s.up .conv = true) (by simp [hu]))

theorem fcdCauses_clrdac (s : State) :
    FcdOnly s (s.fcdCauses FCD_STATUS.c_clrdac (List.range 8)) (List.range 8) ∧ ∀ f ∈ List.range 8,
      (s.fcdCauses FCD_STATUS.c_clrdac (List.range 8)).fcdWord f =
        causeWord 0 (s.fcdRuns f) (s.fcdClearCode f) (s.fcdWord f) := by
  rw [fcdCauses_eq]
  exact (fcdCause_op (lo := 0) (by decide)).foldl s List.nodup_range

theorem fcdCausesEnd_clrdac (s : State) :
    FcdOnly s (s.fcdCausesEnd FCD_STATUS.c_clrdac (List.range 8)) (List.range 8) ∧ ∀ f ∈ List.range 8,
      (s.fcdCausesEnd FCD_STATUS.c_clrdac (List.range 8)).fcdWord f = insertBits (s.fcdWord f) 0 1 0 := by
  rw [fcdCausesEnd_eq]
  exact (fcdCauseEnd_op (lo := 0) (by decide)).foldl s List.nodup_range

/-! ### FCD_CTL (R496, R497) -/

theorem plainWrite_fcd (s : State) (off v : Nat) : (s.plainWrite off v).fcd = s.fcd := by
  unfold plainWrite
  split <;> rfl

/-- The row of FCD_CTL. -/
def fcdCtlRow : RegRow := ⟨0x210000, [], 1, .one, fun _ => 0x0, 0xff, 0x0, 0x0, 0x0, 0x0, some 10⟩

theorem findRow_fcdCtl : findRow FCD_CTL.reg.addr = some (fcdCtlRow, []) := rfl

theorem bits_fcdCtlRow_merge (old v : Nat) : bits (fcdCtlRow.merge old v) 0 8 = v % 2 ^ 8 := by
  show (old &&& 0xffffff00 ||| v &&& (2 ^ 8 - 1) ||| old &&& 0 &&& (0xffffffff ^^^ v)) / 2 ^ 0 % 2 ^ 8 = _
  rw [Nat.pow_zero, Nat.div_one, Nat.or_mod_two_pow, Nat.or_mod_two_pow, Nat.and_mod_two_pow (b := 0xffffff00),
    Nat.and_two_pow_sub_one_eq_mod, Nat.mod_mod]
  simp

/-- A write of FCD_CTL leaves its low eight bits there, and nothing else moves. -/
theorem plainWrite_fcdCtl (s : State) (v : Nat) :
    (s.plainWrite FCD_CTL.reg.addr v).bus = s.bus ∧ (s.plainWrite FCD_CTL.reg.addr v).f FCD_CTL.drive_en = v % 2 ^ 8 ∧
      s.wordsBut (s.plainWrite FCD_CTL.reg.addr v) (· = FCD_CTL.reg.addr) := by
  obtain ⟨hb, hf, ho⟩ := plainWrite_word (s := s) (l := FCD_CTL.reg) (v := v) rfl rfl findRow_fcdCtl rfl
  refine ⟨hb, ?_, wordsBut_mono ho fun a ⟨l, hl, hc⟩ => ?_⟩
  · have hd : (s.plainWrite FCD_CTL.reg.addr v).f FCD_CTL.drive_en =
        bits ((s.plainWrite FCD_CTL.reg.addr v).f FCD_CTL.reg) 0 8 := by
      rw [f_word (l := FCD_CTL.reg) rfl rfl (by decide)]
      rfl
    rw [hd, hf, bits_mod _ (by decide), bits_fcdCtlRow_merge]
  · rw [List.mem_singleton.1 hl] at hc
    exact (covers_iff (by decide) a).1 hc

theorem filter_only {p : Nat → Bool} (f : Fin 8) (h : ∀ g, p g = (g == f.val)) : (List.range 8).filter p = [f.val] := by
  have hall : ∀ f : Fin 8, (List.range 8).filter (fun g => g == f.val) = [f.val] := by decide
  rw [funext h, hall]

theorem filter_none {p : Nat → Bool} (h : ∀ g, p g = false) : (List.range 8).filter p = [] := by
  rw [funext h]
  rfl

/-- A set bit that was clear rises, and no bit falls. -/
theorem risen_setBit {v : Nat} (f : Fin 8) (h : bit v f = false) :
    (List.range 8).filter (fun g => !bit v g && bit (setBit v f) g) = [f.val] ∧
      (List.range 8).filter (fun g => bit v g && !bit (setBit v f) g) = [] := by
  constructor
  · refine filter_only f fun g => ?_
    by_cases hg : g = f.val
    · simp [hg, h, bit_setBit_self]
    · simp [hg, bit_setBit_ne hg]
  · refine filter_none fun g => ?_
    by_cases hg : g = f.val
    · simp [hg, h]
    · simp [bit_setBit_ne hg]

/-- A cleared bit that was set falls, and no bit rises. -/
theorem fallen_clearBit {v : Nat} (f : Fin 8) (h : bit v f = true) :
    (List.range 8).filter (fun g => !bit v g && bit (clearBit v f) g) = [] ∧
      (List.range 8).filter (fun g => bit v g && !bit (clearBit v f) g) = [f.val] := by
  constructor
  · refine filter_none fun g => ?_
    by_cases hg : g = f.val
    · simp [hg, h]
    · simp [bit_clearBit_ne hg]
  · refine filter_only f fun g => ?_
    by_cases hg : g = f.val
    · simp [hg, h, bit_clearBit_self]
    · simp [hg, bit_clearBit_ne hg]

end State

end Sys2Proof.Machine
end

section
/-! SUPPORT. Drive, VHK, the ranges and the refused writes of the FCD outputs (R60, R496 to R498). -/

namespace Sys2Proof.Machine

namespace State

/-! ### Writes of FCD_CTL -/

/-- A write of FCD_CTL by the outputs whose bits fall and those whose bits rise. -/
theorem fcdCtlWrite_of {s : State} {v : Nat} {fs gs : List Nat}
    (hf : (List.range 8).filter (fun g => bit (s.f FCD_CTL.drive_en) g && !bit v g) = fs)
    (hr : (List.range 8).filter (fun g => !bit (s.f FCD_CTL.drive_en) g && bit v g) = gs) :
    s.fcdCtlWrite v = if ((s.plainWrite FCD_CTL.reg.addr v).fcdStops fs).fcd.vhkLow then
        (s.plainWrite FCD_CTL.reg.addr v).fcdStops fs
      else ((s.plainWrite FCD_CTL.reg.addr v).fcdStops fs).fcdStarts gs := by
  subst hf hr
  rfl

section

variable {s : State} (f : Fin 8)

theorem fcdCtlWrite_starts (h : bit (s.f FCD_CTL.drive_en) f = false) (hv : s.fcd.vhkLow = false) :
    s.fcdCtlWrite (setBit (s.f FCD_CTL.drive_en) f) =
      (s.plainWrite FCD_CTL.reg.addr (setBit (s.f FCD_CTL.drive_en) f)).fcdStart f := by
  obtain ⟨hr, hf⟩ := risen_setBit f h
  rw [fcdCtlWrite_of hf hr]
  exact if_neg (by rw [fcdStops, plainWrite_fcd, hv]; decide)

theorem fcdCtlWrite_stops (h : bit (s.f FCD_CTL.drive_en) f = true) :
    s.fcdCtlWrite (clearBit (s.f FCD_CTL.drive_en) f) =
      (s.plainWrite FCD_CTL.reg.addr (clearBit (s.f FCD_CTL.drive_en) f)).fcdStop f := by
  obtain ⟨hr, hf⟩ := fallen_clearBit f h
  rw [fcdCtlWrite_of hf hr]
  exact ite_self _

/-- A write that moves no bit touches no output. -/
theorem fcdCtlWrite_same : s.fcdCtlWrite (s.f FCD_CTL.drive_en) = s.plainWrite FCD_CTL.reg.addr (s.f FCD_CTL.drive_en) := by
  rw [fcdCtlWrite_of (filter_none fun g => by simp) (filter_none fun g => by simp)]
  exact ite_self _

theorem fcdCtlWrite_clearBit_rests (h : bit (s.f FCD_CTL.drive_en) f = false) :
    s.fcdCtlWrite (clearBit (s.f FCD_CTL.drive_en) f) =
      s.plainWrite FCD_CTL.reg.addr (clearBit (s.f FCD_CTL.drive_en) f) := by
  rw [clearBit_of_bit h, fcdCtlWrite_same]

/-- Setting a bit that is set, or that no VHK backs, starts nothing. -/
theorem fcdCtlWrite_setBit_rests (h : bit (s.f FCD_CTL.drive_en) f = true ∨ s.fcd.vhkLow = true) :
    s.fcdCtlWrite (setBit (s.f FCD_CTL.drive_en) f) =
      s.plainWrite FCD_CTL.reg.addr (setBit (s.f FCD_CTL.drive_en) f) := by
  cases hb : bit (s.f FCD_CTL.drive_en) f with
  | true => rw [setBit_of_bit hb, fcdCtlWrite_same]
  | false =>
    have hv : s.fcd.vhkLow = true := h.resolve_left (by simp [hb])
    obtain ⟨hr, hf⟩ := risen_setBit f hb
    rw [fcdCtlWrite_of hf hr]
    exact if_pos (by rw [fcdStops, plainWrite_fcd, hv])

end

/-- The state after the write of the register FCD_CTL itself. -/
def ctlWritten (s : State) (v : Nat) : State := (s.complete .ok).plainWrite FCD_CTL.reg.addr v

section

variable {s : State} {p : Port} {f : Fin 8} (ha : s.accepts p FCD_CTL.reg.addr (some 10))

include ha

theorem exec_fcdDriveEnable_starts (hb : bit (s.f FCD_CTL.drive_en) f = false) (hv : s.fcd.vhkLow = false) :
    exec (.fcdDriveEnable p f) s = .next ((s.ctlWritten (setBit (s.f FCD_CTL.drive_en) f)).fcdStart f) :=
  congrArg _ ((hubWrite_accepts (fun s => s.fcdCtlWrite (setBit (s.f FCD_CTL.drive_en) f)) ha).trans
    (fcdCtlWrite_starts (s := s.complete .ok) f hb hv))

theorem exec_fcdDriveEnable_rests (h : bit (s.f FCD_CTL.drive_en) f = true ∨ s.fcd.vhkLow = true) :
    exec (.fcdDriveEnable p f) s = .next (s.ctlWritten (setBit (s.f FCD_CTL.drive_en) f)) :=
  congrArg _ ((hubWrite_accepts (fun s => s.fcdCtlWrite (setBit (s.f FCD_CTL.drive_en) f)) ha).trans
    (fcdCtlWrite_setBit_rests (s := s.complete .ok) f h))

theorem exec_fcdDriveDisable_stops (hb : bit (s.f FCD_CTL.drive_en) f = true) :
    exec (.fcdDriveDisable p f) s = .next ((s.ctlWritten (clearBit (s.f FCD_CTL.drive_en) f)).fcdStop f) :=
  congrArg _ ((hubWrite_accepts (fun s => s.fcdCtlWrite (clearBit (s.f FCD_CTL.drive_en) f)) ha).trans
    (fcdCtlWrite_stops (s := s.complete .ok) f hb))

theorem exec_fcdDriveDisable_rests (hb : bit (s.f FCD_CTL.drive_en) f = false) :
    exec (.fcdDriveDisable p f) s = .next (s.ctlWritten (clearBit (s.f FCD_CTL.drive_en) f)) :=
  congrArg _ ((hubWrite_accepts (fun s => s.fcdCtlWrite (clearBit (s.f FCD_CTL.drive_en) f)) ha).trans
    (fcdCtlWrite_clearBit_rests (s := s.complete .ok) f hb))

end

theorem ctlWritten_spec (s : State) (v : Nat) : (s.ctlWritten v).bus = .ok ∧
    (s.ctlWritten v).f FCD_CTL.drive_en = v % 2 ^ 8 ∧ (s.ctlWritten v).fcd = s.fcd ∧
    s.wordsBut (s.ctlWritten v) (· = FCD_CTL.reg.addr) := by
  obtain ⟨hb, hf, ho⟩ := plainWrite_fcdCtl (s.complete .ok) v
  exact ⟨hb, hf, plainWrite_fcd _ _ _, ho⟩

theorem ctlWritten_onlyFields (s : State) (v : Nat) : s.onlyFields (s.ctlWritten v) [FCD_CTL.reg] :=
  wordsBut_mono (ctlWritten_spec s v).2.2.2 fun _ ha => ⟨_, by simp, .inl ha⟩

/-- FCD_CTL has been written, and after it the status word of one output alone has changed. -/
theorem onlyFields_ctlWritten {s t : State} {v : Nat} {f : Nat} (h : FcdOnly (s.ctlWritten v) t [f]) :
    s.onlyFields t [FCD_CTL.reg, FCD_STATUS.reg f] :=
  wordsBut_trans (wordsBut_mono (ctlWritten_onlyFields s v) fun _ ⟨l, hl, hc⟩ => ⟨l, by simp [List.mem_singleton.1 hl], hc⟩)
    (h.onlyFields fun g hg => by simp [List.mem_singleton.1 hg])

/-- The bits of FCD_CTL after a write, whatever the outputs do. -/
theorem bit_driveEn {s t : State} {v : Nat} {f g : Nat} (h : FcdOnly (s.ctlWritten v) t [f]) (hg : g < 8) :
    bit (t.f FCD_CTL.drive_en) g = bit v g := by
  rw [h.f_of_addr (by decide) fun g => by simp only [FCD_CTL.drive_en, FCD_STATUS.reg]; omega, (ctlWritten_spec s v).2.1,
    bit_mod hg]

/-- R496 step 1: an enabled output starts at the clear code. -/
theorem fcdStart_ctlWritten (s : State) {v : Nat} {f : Nat} (hf : f < 8) (hb : bit v f = true) (hv : s.fcd.vhkLow = false) :
    ((s.ctlWritten v).fcdStart f).flag (FCD_STATUS.driving f) = false ∧
      ((s.ctlWritten v).fcdStart f).flag (FCD_STATUS.c_pre f) = true ∧
      ((s.ctlWritten v).fcdStart f).f (FCD_STATUS.shown f) = s.fcdClearCode f := by
  obtain ⟨-, hd, hfcd, hfr⟩ := ctlWritten_spec s v
  have hruns : (s.ctlWritten v).fcdRuns f = true := by
    rw [fcdRuns, hd, hfcd, bit_mod hf, hb, hv]
    rfl
  have hclr : (s.ctlWritten v).fcdClearCode f = s.fcdClearCode f :=
    fcdClearCode_of_wordsBut hfr (by simp only [FCD_CFG.reg, FCD_CTL.reg]; omega)
      (by simp only [FCD_CLR.reg, FCD_CTL.reg]; omega)
  obtain ⟨h6, h4, hs⟩ := bits_startWord true (fcdClearCode_lt s f) ((s.ctlWritten v).fcdWord f)
  have hw := (fcdStart_op (s.ctlWritten v) f).2
  rw [hruns, hclr] at hw
  refine ⟨?_, ?_, ?_⟩
  · refine (flag_fcdFlag _ (lo := 6) (by decide)).trans ?_
    rw [hw, h6]
    rfl
  · refine (flag_fcdFlag _ (lo := 4) (by decide)).trans ?_
    rw [hw, h4]
    rfl
  · rw [f_shown, hw, hs]
    rfl

/-- R497: an output that stops goes high-impedance. -/
theorem fcdStop_flags (s : State) (f : Nat) : (s.fcdStop f).flag (FCD_STATUS.driving f) = false ∧
    (s.fcdStop f).flag (FCD_STATUS.c_pre f) = false := by
  have hw := (fcdStop_op s f).2
  obtain ⟨h6, h4⟩ := bits_stopWord (s.fcdRuns f) (s.fcdClearCode f) (s.fcdWord f)
  constructor
  · refine (flag_fcdFlag _ (lo := 6) (by decide)).trans ?_
    rw [hw, h6]
    rfl
  · refine (flag_fcdFlag _ (lo := 4) (by decide)).trans ?_
    rw [hw, h4]
    rfl

/-! ### The filter has settled (R496 step 2) -/

/-- The buffer of an output enables at the clear code. -/
def fcdPredriven (s : State) (f : Nat) : State :=
  (s.set (FCD_STATUS.driving f) 1).fcdCauseEnd f (FCD_STATUS.c_pre f)

theorem fcdPredriven_spec (s : State) (f : Nat) : FcdOnly s (s.fcdPredriven f) [f] ∧
    (s.fcdPredriven f).flag (FCD_STATUS.driving f) = true ∧ (s.fcdPredriven f).flag (FCD_STATUS.c_pre f) = false := by
  obtain ⟨ho, hw⟩ := fcdCauseEnd_op (lo := 4) (by decide) (s.set (fcdFlag f 6) 1) f
  rw [fcdWord_setFlag s 1 (by decide), endWord] at hw
  refine ⟨(fcdFlag_only s (lo := 6) (by decide)).trans_self ho, ?_, ?_⟩
  · refine (flag_fcdFlag _ (lo := 6) (by decide)).trans (congrArg (bits · 6 1 == 1) hw |>.trans ?_)
    rw [bits_insertBits_ne _ _ (.inr (by decide)), bits_insertBits_set]
    rfl
  · refine (flag_fcdFlag _ (lo := 4) (by decide)).trans (congrArg (bits · 4 1 == 1) hw |>.trans ?_)
    rw [bits_insertBits_clear]
    rfl

/-- An event after a change of one output: the flags of its status word stay, and the event is counted. -/
theorem FcdOnly.raise {s t : State} {f : Nat} (h : FcdOnly s t [f]) (hf : f < 8) {n : Nat} (hn : n < 1024) :
    (t.raise n).fcdWord f = t.fcdWord f ∧ s.raised n (t.raise n) ∧ s.onlyFieldsEvents (t.raise n) [FCD_STATUS.reg f] := by
  have hw : t.wordsBut (t.raise n) eventWord := wordsBut_raise hn fun _ => id
  refine ⟨fcdWord_of_wordsBut hw (statusAddr_apart hf).1, ?_, ?_⟩
  · refine raised_after hn h.words (fun a ⟨g, hg, ha⟩ => ?_) (fun p => by rw [h.ports]) (raised_raise t n hn)
    rw [ha, List.mem_singleton.1 hg]
    exact statusAddr_apart hf
  · refine wordsBut_trans (wordsBut_mono h.words fun a ⟨g, hg, ha⟩ => .inr ⟨FCD_STATUS.reg f, by simp, .inl ?_⟩)
      (wordsBut_mono hw fun _ => .inl)
    rw [ha, List.mem_singleton.1 hg]

theorem exec_fcdPredriveDone {s : State} {f : Fin 8} (hc : s.flag (FCD_STATUS.c_pre f) = true) (hr : s.fcdRuns f = true) :
    exec (.fcdPredriveDone f) s = .next ((s.fcdPredriven f).raise 105) := by
  show execFcdPredriveDone f s = _
  unfold execFcdPredriveDone
  rw [hc, hr]
  rfl

/-! ### VHK (R497) -/

/-- VHK is there again, before any output starts. -/
def vhkBack (s : State) : State := { s with fcd := { s.fcd with vhkLow := false } }

theorem exec_vhkReturn {s : State} (h : s.fcd.vhkLow = true) :
    exec .vhkReturn s = .next (s.vhkBack.fcdStarts (bitList 8 (s.f FCD_CTL.drive_en))) := by
  show execVhkReturn s = _
  unfold execVhkReturn
  rw [h]
  rfl

theorem mem_bitList {n v f : Nat} : f ∈ bitList n v ↔ f < n ∧ bit v f = true := by
  simp [bitList]

theorem fcdStarts_vhkBack (s : State) :
    FcdOnly s.vhkBack (s.vhkBack.fcdStarts (bitList 8 (s.f FCD_CTL.drive_en))) (bitList 8 (s.f FCD_CTL.drive_en)) ∧
      ∀ f, f < 8 → bit (s.f FCD_CTL.drive_en) f = true →
        (s.vhkBack.fcdStarts (bitList 8 (s.f FCD_CTL.drive_en))).fcdWord f =
          startWord true (s.fcdClearCode f) (s.fcdWord f) := by
  rw [fcdStarts_eq]
  obtain ⟨ho, hw⟩ := fcdStart_op.foldl s.vhkBack (fs := bitList 8 (s.f FCD_CTL.drive_en)) (List.nodup_range.filter _)
  refine ⟨ho, fun f hf hb => ?_⟩
  have hr : s.vhkBack.fcdRuns f = true := by
    show (bit (s.f FCD_CTL.drive_en) f && !false) = true
    rw [hb]
    rfl
  rw [hw f (mem_bitList.2 ⟨hf, hb⟩), hr]
  rfl

/-! ### Ranges (R498) -/

/-- A range that changes, with its switch and its cause. -/
theorem fcdRangeWrite_changes {s : State} {f r : Nat} (h : s.f (FCD_CFG.range f) ≠ r) :
    (s.fcdRangeWrite f r).bus = s.bus ∧ (s.fcdRangeWrite f r).f (FCD_CFG.range f) = r % 2 ∧
      (s.fcdRangeWrite f r).flag (FCD_STATUS.switching f) = true ∧
      (s.fcdRangeWrite f r).flag (FCD_STATUS.c_range f) = true ∧
      s.onlyFields (s.fcdRangeWrite f r) [FCD_CFG.reg f, FCD_STATUS.reg f] := by
  let u : State := (s.set (FCD_CFG.range f) r).set (FCD_STATUS.switching f) 1
  let w : State := u.setFcdOut f { u.fcdOut f with settled := false }
  have ht : s.fcdRangeWrite f r = w.fcdCause f (fcdFlag f 3) := by
    unfold fcdRangeWrite
    rw [if_neg h]
    rfl
  have hcfg : s.wordsBut (s.set (FCD_CFG.range f) r) fun a => a = (FCD_CFG.reg f).addr :=
    wordsBut_set fun a hc => (covers_iff (l := FCD_CFG.range f) (by show 0 + 1 ≤ 32; omega) a).1 hc
  have hsw : FcdOnly (s.set (FCD_CFG.range f) r) w [f] :=
    (fcdFlag_only _ (f := f) (lo := 7) (v := 1) (by decide)).trans_self .setFcdOut
  have hw : w.fcdWord f = insertBits ((s.set (FCD_CFG.range f) r).fcdWord f) 7 1 1 :=
    fcdWord_setFlag (s.set (FCD_CFG.range f) r) (f := f) (lo := 7) 1 (by decide)
  obtain ⟨ho, hword⟩ := fcdCause_op (lo := 3) (by decide) w f
  have hall := hsw.trans_self ho
  rw [ht]
  refine ⟨hall.bus.trans (set_bus _ _ _), ?_, ?_, ?_, ?_⟩
  · rw [hall.f_of_addr (by show 0 + 1 ≤ 32; omega) fun g => by simp only [FCD_CFG.range, FCD_STATUS.reg]; omega]
    exact f_set_self s (FCD_CFG.range f) r (by show 0 + 1 ≤ 64; omega)
  · refine (flag_fcdFlag _ (lo := 7) (by decide)).trans ?_
    rw [hword, bits_causeWord_ne (by decide) (by decide), hw, bits_insertBits_set]
    rfl
  · refine (flag_fcdFlag _ (lo := 3) (by decide)).trans ?_
    rw [hword, bits_causeWord_self (by decide)]
    rfl
  · refine wordsBut_trans (wordsBut_mono hcfg fun a ha => ⟨_, by simp, .inl ha⟩) (hall.onlyFields fun g hg => ?_)
    simp [List.mem_singleton.1 hg]

theorem fcdRangeWrite_same {s : State} {f r : Nat} (h : s.f (FCD_CFG.range f) = r) : s.fcdRangeWrite f r = s := if_pos h

theorem exec_fcdRangeWrite {s : State} {p : Port} {f : Fin 8} {r : Fin 2} (ha : s.accepts p (FCD_CFG.reg f).addr (some 10)) :
    exec (.fcdRangeWrite p f r) s = .next ((s.complete .ok).fcdRangeWrite f r) :=
  congrArg _ (hubWrite_accepts (fun s => s.fcdRangeWrite f r) ha)

/-- The switch has settled; its cause stays until the next period. -/
def fcdSwitched (s : State) (f : Nat) : State :=
  (s.set (FCD_STATUS.switching f) 0).setFcdOut f { (s.set (FCD_STATUS.switching f) 0).fcdOut f with settled := true }

theorem exec_fcdRangeSettled {s : State} {f : Fin 8} (h : s.flag (FCD_STATUS.switching f) = true) :
    exec (.fcdRangeSettled f) s = .next ((s.fcdSwitched f).raise 107) := by
  show execFcdRangeSettled f s = _
  unfold execFcdRangeSettled
  rw [h]
  rfl

theorem fcdSwitched_spec (s : State) (f : Nat) : FcdOnly s (s.fcdSwitched f) [f] ∧
    (s.fcdSwitched f).fcdWord f = insertBits (s.fcdWord f) 7 1 0 :=
  ⟨(fcdFlag_only s (f := f) (lo := 7) (v := 0) (by decide)).trans_self .setFcdOut,
    fcdWord_setFlag s (f := f) (lo := 7) 0 (by decide)⟩

/-! ### Refused writes (R60) -/

theorem refuse_eq (s : State) (p : Port) (off : Nat) :
    s.refuse p off = ((s.bump (refusedCount p)).set (lastRefused p) off).raise (8 + p.idx) := by
  cases p <;> rfl

/-- The words in which refusals of a port are kept. -/
def refusalWord (p : Port) (a : Nat) : Prop := a = (refusedCount p).addr ∨ a = (lastRefused p).addr

theorem refusalWord_apart {p : Port} {a : Nat} (h : refusalWord p a) : ¬ eventWord a ∧ a ≠ GLB_ID.variant.addr := by
  unfold eventWord
  rcases h with rfl | rfl <;> cases p <;> decide

theorem refuse_refusedFor (s : State) (p : Port) {off : Nat} (h : off < 2 ^ 32) : s.refusedFor p off (s.refuse p off) := by
  let u : State := (s.bump (refusedCount p)).set (lastRefused p) off
  have hn : 8 + p.idx < 1024 := by cases p <;> decide
  have hsu : s.wordsBut u (refusalWord p) := by
    refine wordsBut_trans (wordsBut_set fun a hc => .inl ?_) (wordsBut_set fun a hc => .inr ?_)
    · exact (covers_iff (by cases p <;> decide) a).1 hc
    · exact (covers_iff (by cases p <;> decide) a).1 hc
  have huv : u.wordsBut (u.raise (8 + p.idx)) eventWord := wordsBut_raise hn fun _ => id
  have hapart : (lastRefused p).apart (refusedCount p) := by
    cases p <;> exact .inl ⟨by decide, by decide, by decide⟩
  rw [refuse_eq]
  refine ⟨?_, ?_, ?_, ?_, ?_⟩
  · rw [f_of_wordsBut huv (l := refusedCount p) fun a hc => (refusalWord_apart (p := p) (.inl
      ((covers_iff (by cases p <;> decide) a).1 hc))).1, f_set_apart _ _ _ _ hapart, bump, addSat,
      f_set_self _ _ _ (by cases p <;> decide)]
    have hw : (refusedCount p).width = 32 := by cases p <;> rfl
    rw [hw]
    exact Nat.mod_eq_of_lt (Nat.lt_of_le_of_lt (Nat.min_le_left _ _) (by decide))
  · rw [f_of_wordsBut huv (l := lastRefused p) fun a hc => (refusalWord_apart (p := p) (.inr
      ((covers_iff (by cases p <;> decide) a).1 hc))).1, f_set_self _ _ _ (by cases p <;> decide)]
    have hw : (lastRefused p).width = 32 := by cases p <;> rfl
    rw [hw]
    exact Nat.mod_eq_of_lt h
  · refine raised_after hn hsu (fun _ => refusalWord_apart) (fun q => ?_) (raised_raise u _ hn)
    show (((s.set (refusedCount p) _).set (lastRefused p) off).port q).evtReset = _
    rw [set_port, set_port]
  · exact (raise_keeps _ _).2.2.2.1.trans ((set_keeps _ _ _).2.2.2.1.trans (bump_keeps _ _).2.2.2.1)
  · refine wordsBut_trans (wordsBut_mono hsu fun a ha => .inr ?_) (wordsBut_mono huv fun _ => .inl)
    rcases ha with ha | ha
    · exact ⟨_, by simp, .inl ha⟩
    · exact ⟨_, by simp, .inl ha⟩

end State

end Sys2Proof.Machine
end

section
/-! SUPPORT. The parts of the rules of the FCD outputs, and O45 from them. -/

namespace Sys2Proof.Machine

open State

/-- A pin that falls: the eight outputs after it (R494). -/
theorem clrdacFall_outputs (s : State) (f : Fin 8) :
    (s.clrdacFallen.fcdCauses FCD_STATUS.c_clrdac (List.range 8)).flag (FCD_STATUS.c_clrdac f) = true ∧
      (s.clrdacFallen.fcdCauses FCD_STATUS.c_clrdac (List.range 8)).f (FCD_STATUS.shown f) =
        if s.fcdRuns f then s.fcdClearCode f else s.f (FCD_STATUS.shown f) := by
  have hf := f.isLt
  obtain ⟨hfr, hv, -⟩ := clrdacFallen_spec s
  have hout : ∀ a, 0x210100 ≤ a → a < 0x211000 → ¬ (eventWord a ∨ pinWord a) := by
    unfold eventWord pinWord
    intro a h1 h2
    simp only [FCD_PIN.reg]
    omega
  have hruns : s.clrdacFallen.fcdRuns f = s.fcdRuns f :=
    fcdRuns_of_wordsBut hfr hv (by unfold eventWord pinWord; decide) f
  have hclr : s.clrdacFallen.fcdClearCode f = s.fcdClearCode f :=
    fcdClearCode_of_wordsBut hfr (hout _ (by simp only [FCD_CFG.reg]; omega) (by simp only [FCD_CFG.reg]; omega))
      (hout _ (by simp only [FCD_CLR.reg]; omega) (by simp only [FCD_CLR.reg]; omega))
  have hword : s.clrdacFallen.fcdWord f = s.fcdWord f := fcdWord_of_wordsBut hfr
    (hout _ (by simp only [FCD_STATUS.reg]; omega) (by simp only [FCD_STATUS.reg]; omega))
  have hw := (fcdCauses_clrdac s.clrdacFallen).2 f (List.mem_range.2 hf)
  rw [hruns, hclr, hword] at hw
  constructor
  · refine (flag_fcdFlag _ (lo := 0) (by decide)).trans ?_
    rw [hw, bits_causeWord_self (by decide)]
    rfl
  · rw [f_shown, f_shown, hw, bits_causeWord_shown (by decide) _ (fcdClearCode_lt s f)]

/-- The falling pin itself (R494, R625). -/
theorem clrdacFall_pin (s : State) :
    (s.clrdacFallen.fcdCauses FCD_STATUS.c_clrdac (List.range 8)).flag FCD_PIN.clrdac_n = false ∧
      (s.clrdacFallen.fcdCauses FCD_STATUS.c_clrdac (List.range 8)).f FCD_PIN.clr_count =
        min 65535 (s.f FCD_PIN.clr_count + 1) ∧
      s.raised 104 (s.clrdacFallen.fcdCauses FCD_STATUS.c_clrdac (List.range 8)) ∧
      s.onlyFieldsEvents (s.clrdacFallen.fcdCauses FCD_STATUS.c_clrdac (List.range 8))
        (FCD_PIN.reg :: (List.range 8).map FCD_STATUS.reg) := by
  obtain ⟨hfr, -, hpin, hcount, hraised⟩ := clrdacFallen_spec s
  obtain ⟨ho, -⟩ := fcdCauses_clrdac s.clrdacFallen
  refine ⟨?_, ?_, ?_, ?_⟩
  · rw [flag, ho.f_of_addr (by decide) fun g => by simp only [FCD_PIN.clrdac_n, FCD_STATUS.reg]; omega]
    exact hpin
  · rw [ho.f_of_addr (by decide) fun g => by simp only [FCD_PIN.clr_count, FCD_STATUS.reg]; omega]
    exact hcount
  · refine raised_before (by decide) hraised ho.words fun a ⟨g, hg, ha⟩ => ?_
    rw [ha]
    exact (statusAddr_apart (List.mem_range.1 hg)).1
  · refine wordsBut_trans (wordsBut_mono hfr fun a ha => ha.imp_right fun h => ⟨_, List.mem_cons_self, .inl h⟩)
      (wordsBut_mono (ho.onlyFields fun g hg => statusReg_mem (List.mem_range.1 hg)) fun a ⟨l, hl, hc⟩ =>
        .inr ⟨l, List.mem_cons_of_mem _ hl, hc⟩)

/-- The pin is high again: the cause ends, and the outputs show on what they did (R494, R495). -/
theorem clrdacRelease_spec (s : State) :
    (s.clrdacRisen.fcdCausesEnd FCD_STATUS.c_clrdac (List.range 8)).flag FCD_PIN.clrdac_n = true ∧
      (∀ f : Fin 8, (s.clrdacRisen.fcdCausesEnd FCD_STATUS.c_clrdac (List.range 8)).flag (FCD_STATUS.c_clrdac f) = false ∧
        (s.clrdacRisen.fcdCausesEnd FCD_STATUS.c_clrdac (List.range 8)).f (FCD_STATUS.shown f) =
          s.f (FCD_STATUS.shown f)) ∧
      s.onlyFields (s.clrdacRisen.fcdCausesEnd FCD_STATUS.c_clrdac (List.range 8))
        (FCD_PIN.reg :: (List.range 8).map FCD_STATUS.reg) := by
  have hfr : s.wordsBut s.clrdacRisen pinWord := wordsBut_setPin _ 1
  obtain ⟨ho, hw⟩ := fcdCausesEnd_clrdac s.clrdacRisen
  refine ⟨?_, fun f => ?_, ?_⟩
  · rw [flag, ho.f_of_addr (by decide) fun g => by simp only [FCD_PIN.clrdac_n, FCD_STATUS.reg]; omega, clrdacRisen,
      f_set_self _ _ _ (by decide)]
    rfl
  · have hword := hw f (List.mem_range.2 f.isLt)
    rw [fcdWord_of_wordsBut hfr (by simp only [pinWord, FCD_STATUS.reg, FCD_PIN.reg]; omega)] at hword
    constructor
    · refine (flag_fcdFlag _ (lo := 0) (by decide)).trans ?_
      rw [hword, bits_insertBits_clear]
      rfl
    · rw [f_shown, f_shown, hword, bits_insertBits_ne _ _ (.inr (by decide))]
  · exact wordsBut_trans (wordsBut_mono hfr fun a h => ⟨_, List.mem_cons_self, .inl h⟩)
      (wordsBut_mono (ho.onlyFields fun g hg => statusReg_mem (List.mem_range.1 hg)) fun a ⟨l, hl, hc⟩ =>
        ⟨l, List.mem_cons_of_mem _ hl, hc⟩)

/-- A period boundary after the switch has settled (R498 step 2). -/
theorem fcdPwmPeriod_settled (s : State) (f : Fin 8) (hu : s.up .conv = true) (hs : (s.fcdOut f).settled = true) :
    ∃ t, exec (.fcdPwmPeriod f) s = .next t ∧ t.flag (FCD_STATUS.c_range f) = false ∧ (t.fcdOut f).settled = false ∧
      t.f (FCD_STATUS.shown f) = (if s.fcdRuns f then (s.fcdCauseEnd f (FCD_STATUS.c_range f)).fcdTarget f % 65536
        else s.f (FCD_STATUS.shown f)) ∧ s.onlyFields t [FCD_STATUS.reg f] := by
  obtain ⟨ho, hw, hset, htarget⟩ := fcdSettle_spec s f
  refine ⟨_, exec_fcdPwmPeriod_settled hu hs, ?_⟩
  rw [ho.runs]
  cases hr : s.fcdRuns f with
  | false =>
    refine ⟨(flag_fcdFlag (s.fcdSettle f) (f := f) (lo := 3) (by decide)).trans ?_, hset, ?_, ho.onlyFields (by simp)⟩
    · rw [hw, bits_insertBits_clear]
      rfl
    · rw [if_neg (by decide), if_neg (by decide), f_shown, f_shown, hw, bits_insertBits_ne _ _ (.inr (by decide))]
  | true =>
    rw [if_pos rfl, if_pos rfl]
    have hp := fcdWord_fcdPeriod (s.fcdSettle f) f ((s.fcdSettle f).fcdTarget f)
    refine ⟨(flag_fcdFlag _ (lo := 3) (by decide)).trans ?_, (fcdPeriod_settled _ _ _).trans hset, ?_,
      (ho.trans_self (fcdPeriod_only _ _ _)).onlyFields (by simp)⟩
    · rw [hp, hw, bits_insertBits_ne _ _ (.inl (by decide)), bits_insertBits_clear]
      rfl
    · rw [f_shown, hp, bits_insertBits_shown, htarget]

/-- A period boundary that only shows the code (R493, R495). -/
theorem fcdPwmPeriod_runs (s : State) (f : Fin 8) (hu : s.up .conv = true) (hs : (s.fcdOut f).settled = false)
    (hr : s.fcdRuns f = true) :
    ∃ t, exec (.fcdPwmPeriod f) s = .next t ∧ t.f (FCD_STATUS.shown f) = s.fcdTarget f % 65536 ∧
      s.onlyFields t [FCD_STATUS.reg f] := by
  refine ⟨_, exec_fcdPwmPeriod hu hs, ?_⟩
  rw [if_pos hr]
  refine ⟨?_, (fcdPeriod_only s f _).onlyFields (by simp)⟩
  rw [f_shown, fcdWord_fcdPeriod, bits_insertBits_shown]

/-- VHK that returns starts the enabled outputs and touches no other (R497). -/
theorem vhkReturn_outputs (s : State) (f : Fin 8) :
    (bit (s.f FCD_CTL.drive_en) f = true →
      (s.vhkBack.fcdStarts (bitList 8 (s.f FCD_CTL.drive_en))).flag (FCD_STATUS.c_pre f) = true ∧
      (s.vhkBack.fcdStarts (bitList 8 (s.f FCD_CTL.drive_en))).flag (FCD_STATUS.driving f) = false ∧
      (s.vhkBack.fcdStarts (bitList 8 (s.f FCD_CTL.drive_en))).f (FCD_STATUS.shown f) = s.fcdClearCode f) ∧
    (bit (s.f FCD_CTL.drive_en) f = false →
      (s.vhkBack.fcdStarts (bitList 8 (s.f FCD_CTL.drive_en))).f (FCD_STATUS.reg f) = s.f (FCD_STATUS.reg f)) := by
  obtain ⟨ho, hw⟩ := fcdStarts_vhkBack s
  refine ⟨fun hb => ?_, fun hb => ?_⟩
  · have hword := hw f f.isLt hb
    obtain ⟨h6, h4, hs⟩ := bits_startWord true (fcdClearCode_lt s f) (s.fcdWord f)
    refine ⟨(flag_fcdFlag _ (lo := 4) (by decide)).trans ?_, (flag_fcdFlag _ (lo := 6) (by decide)).trans ?_, ?_⟩
    · rw [hword, h4]
      rfl
    · rw [hword, h6]
      rfl
    · rw [f_shown, hword, hs]
      rfl
  · rw [f_statusReg, f_statusReg, ho.word fun h => by simp [mem_bitList, hb] at h]
    rfl

/-- The writes that SEM_10 guards, each as a write of its effect (R60). -/
theorem exec_fcdGuarded {p : Port} {f : Fin 8} {r : Fin 2} {c : Instr} {a : Nat}
    (h : (c, a) ∈ [(.fcdDriveEnable p f, FCD_CTL.reg.addr), (.fcdDriveDisable p f, FCD_CTL.reg.addr),
      (.fcdRangeWrite p f r, (FCD_CFG.reg f).addr)]) :
    a < 2 ^ 32 ∧ ∃ e, ∀ s, exec c s = .next (s.hubWrite p a (some 10) e) := by
  simp only [List.mem_cons, Prod.mk.injEq, List.not_mem_nil, or_false] at h
  rcases h with ⟨rfl, rfl⟩ | ⟨rfl, rfl⟩ | ⟨rfl, rfl⟩
  · exact ⟨by decide, fun s => s.fcdCtlWrite (setBit (s.f FCD_CTL.drive_en) f), fun _ => rfl⟩
  · exact ⟨by decide, fun s => s.fcdCtlWrite (clearBit (s.f FCD_CTL.drive_en) f), fun _ => rfl⟩
  · exact ⟨by simp only [FCD_CFG.reg]; omega, fun s => s.fcdRangeWrite f r, fun _ => rfl⟩

/-- Settles O45: each change of an output by what it does to the output's status word. -/
theorem fieldControlOutputsFollowCodesAndCauses : Obligations.FieldControlOutputsFollowCodesAndCauses := by
  refine ⟨fun s p f v => ⟨fun hr => ?_, fun hr => ?_⟩, fun s u f => ⟨fun hu => ?_, fun hu hs hr => ?_, fcdPwmPeriod_runs s f,
    fun hu hs hd => ?_⟩, fun s => ⟨fun hl => ?_, fun hl hu => ?_, fun hl hu => ?_, fun hl => ?_, fun hl hu => ?_,
    fun hl hu => ?_⟩, fun s p f ha => ⟨fun hb hv => ?_, fun h => ?_, fun hb => ?_, fun hb => ?_⟩,
    fun s f => ⟨fun h => ?_, fun hc hr => ?_⟩, fun s => ⟨fun h => ?_, fun h => ?_⟩, fun s p f r ha => ?_,
    fun s p f r c a hm => ⟨fun hr => ?_, fun hr hn => ?_⟩, fun s f => ⟨fun h => ?_, fun h => ?_⟩⟩
  · exact ⟨_, exec_fcdCodeWrite hr, fcdCodeWrite_spec (s.complete .ok) f v.toNat⟩
  · exact congrArg _ (hubWrite_unreachable (fun s => s.fcdCodeWrite f v.toNat) hr)
  · show execFcdPwmPeriod f s = _
    simp [execFcdPwmPeriod, hu]
  · rw [exec_fcdPwmPeriod hu hs, hr]
    rfl
  · subst hd
    exact fcdPwmPeriod_settled s f hu hs
  · exact exec_clrdacFall_held hl
  · exact exec_clrdacFall_down hl hu
  · obtain ⟨hpin, hcount, hraised, ho⟩ := clrdacFall_pin s
    exact ⟨_, exec_clrdacFall hl hu, hpin, hcount, hraised, clrdacFall_outputs s, ho⟩
  · exact exec_clrdacRelease_free hl
  · exact exec_clrdacRelease_down hl hu
  · exact ⟨_, exec_clrdacRelease hl hu, clrdacRelease_spec s⟩
  · have ho := (fcdStart_op (s.ctlWritten (setBit (s.f FCD_CTL.drive_en) f)) f).1
    obtain ⟨hd, hc, hs⟩ := fcdStart_ctlWritten s f.isLt (bit_setBit_self (s.f FCD_CTL.drive_en) f) hv
    exact ⟨_, exec_fcdDriveEnable_starts ha hb hv, ho.bus.trans (ctlWritten_spec s _).1,
      (bit_driveEn ho f.isLt).trans (bit_setBit_self _ _), hd, hc, hs, onlyFields_ctlWritten ho⟩
  · obtain ⟨hbus, -, hfcd, -⟩ := ctlWritten_spec s (setBit (s.f FCD_CTL.drive_en) f)
    exact ⟨_, exec_fcdDriveEnable_rests ha h, hbus, (bit_driveEn (.refl (fs := [f.val]) _) f.isLt).trans
      (bit_setBit_self _ _), hfcd, ctlWritten_onlyFields s _⟩
  · have ho := (fcdStop_op (s.ctlWritten (clearBit (s.f FCD_CTL.drive_en) f)) f).1
    obtain ⟨hd, hc⟩ := fcdStop_flags (s.ctlWritten (clearBit (s.f FCD_CTL.drive_en) f)) f
    exact ⟨_, exec_fcdDriveDisable_stops ha hb, ho.bus.trans (ctlWritten_spec s _).1,
      (bit_driveEn ho f.isLt).trans (bit_clearBit_self _ _), hd, hc, onlyFields_ctlWritten ho⟩
  · obtain ⟨hbus, -, hfcd, -⟩ := ctlWritten_spec s (clearBit (s.f FCD_CTL.drive_en) f)
    exact ⟨_, exec_fcdDriveDisable_rests ha hb, hbus, (bit_driveEn (.refl (fs := [f.val]) _) f.isLt).trans
      (bit_clearBit_self _ _), hfcd, ctlWritten_onlyFields s _⟩
  · show execFcdPredriveDone f s = _
    rcases h with h | h <;> simp [execFcdPredriveDone, h]
  · obtain ⟨ho, hd, hp⟩ := fcdPredriven_spec s f
    obtain ⟨hw, hraised, hfr⟩ := ho.raise f.isLt (n := 105) (by decide)
    have hflag : ∀ lo, lo < 16 → ((s.fcdPredriven f).raise 105).flag (fcdFlag f lo) = (s.fcdPredriven f).flag (fcdFlag f lo) :=
      fun lo hlo => by rw [flag_fcdFlag _ hlo, flag_fcdFlag _ hlo, hw]
    exact ⟨_, exec_fcdPredriveDone hc hr, (hflag 6 (by decide)).trans hd, (hflag 4 (by decide)).trans hp, hraised, hfr⟩
  · show execVhkReturn s = _
    simp [execVhkReturn, h]
  · obtain ⟨ho, -⟩ := fcdStarts_vhkBack s
    exact ⟨_, exec_vhkReturn h, ho.vhk, fun f => (vhkReturn_outputs s f).1, fun f => (vhkReturn_outputs s f).2,
      ho.onlyFields (s := s.vhkBack) fun f hf => statusReg_mem (mem_bitList.1 hf).1⟩
  · refine ⟨_, exec_fcdRangeWrite ha, ?_⟩
    by_cases h : s.f (FCD_CFG.range f) = r.val
    · rw [fcdRangeWrite_same (s := s.complete .ok) h]
      exact ⟨rfl, h, fun hn => absurd h hn, fun _ => rfl, wordsBut_of_regs rfl⟩
    · obtain ⟨hb, hrange, hsw, hc, ho⟩ := fcdRangeWrite_changes (s := s.complete .ok) (f := f) h
      exact ⟨hb, hrange.trans (Nat.mod_eq_of_lt r.isLt), fun _ => ⟨hsw, hc⟩, fun he => absurd he h, ho⟩
  · obtain ⟨-, e, he⟩ := exec_fcdGuarded hm
    rw [he, hubWrite_unreachable e hr]
    rfl
  · obtain ⟨ha, e, he⟩ := exec_fcdGuarded hm
    refine ⟨_, he s, ?_⟩
    rw [hubWrite_refused e hr hn]
    exact refuse_refusedFor (s.complete .ok) p ha
  · show execFcdRangeSettled f s = _
    simp [execFcdRangeSettled, h]
  · obtain ⟨ho, hw⟩ := fcdSwitched_spec s f
    obtain ⟨hword, hraised, hfr⟩ := ho.raise f.isLt (n := 107) (by decide)
    rw [hw] at hword
    refine ⟨_, exec_fcdRangeSettled h, (flag_fcdFlag _ (lo := 7) (by decide)).trans ?_,
      (flag_fcdFlag _ (lo := 3) (by decide)).trans ((?_ : _ = _).trans (flag_fcdFlag s (f := f) (lo := 3) (by decide)).symm),
      hraised, hfr⟩
    · rw [hword, bits_insertBits_clear]
      rfl
    · rw [hword, bits_insertBits_ne _ _ (.inl (by decide))]

end Sys2Proof.Machine
end

section
/-! SUPPORT. BAR4: what the counts of an access leave alone, which bytes a write stores, and O4 from them. -/

namespace Sys2Proof.Machine

namespace State

/-! ### The counts of an access -/

/-- The word of CAP_BAR4_STATUS of a port. -/
def bar4CountWord (p : Port) (a : Nat) : Prop := a = (CAP_BAR4_STATUS.reg p.idx).addr

/-- Of the words and the parts of the state that BAR4 goes by, an access has changed the counts alone. -/
structure Bar4Counted (p : Port) (s t : State) : Prop where
  words : s.wordsBut t (bar4CountWord p)
  regions : t.regions = s.regions
  sdram : t.sdram = s.sdram
  bus : t.bus = s.bus

theorem Bar4Counted.refl (p : Port) (s : State) : Bar4Counted p s s := ⟨wordsBut_refl _ _, rfl, rfl, rfl⟩

theorem Bar4Counted.trans {p : Port} {s t u : State} (h : Bar4Counted p s t) (k : Bar4Counted p t u) : Bar4Counted p s u :=
  ⟨wordsBut_trans h.words k.words, k.regions.trans h.regions, k.sdram.trans h.sdram, k.bus.trans h.bus⟩

theorem bar4Counted_bump (s : State) {p : Port} {l : Loc} (ha : l.addr = (CAP_BAR4_STATUS.reg p.idx).addr)
    (hw : l.lo + l.width ≤ 32) : Bar4Counted p s (s.bump l) :=
  ⟨wordsBut_set fun a hc => ((covers_iff hw a).1 hc).trans ha, set_regions .., set_sdram .., set_bus ..⟩

theorem bar4Counted_bar4Oob (s : State) (p : Port) (as_ : List Nat) : Bar4Counted p s (s.bar4Oob p as_) := by
  unfold bar4Oob
  split
  · exact bar4Counted_bump s rfl (Nat.le_of_ble_eq_true rfl)
  · exact .refl p s

theorem bar4Counted_bar4Blocked (s : State) (p : Port) (as_ : List Nat) : Bar4Counted p s (s.bar4Blocked p as_) := by
  unfold bar4Blocked
  split
  · exact bar4Counted_bump s rfl (Nat.le_refl _)
  · exact .refl p s

/-- The counts of a write: addresses beyond the used capacity, and regions being written (R377). -/
theorem bar4Counted_write (s : State) (p : Port) (as_ : List Nat) :
    Bar4Counted p s ((s.bar4Oob p as_).bar4Blocked p as_) :=
  (bar4Counted_bar4Oob s p as_).trans (bar4Counted_bar4Blocked _ p as_)

/-! ### Which bytes a write may store -/

section

variable {s t : State} {p : Port} (h : Bar4Counted p s t)

include h

theorem Bar4Counted.memCapacity : t.memCapacity = s.memCapacity := by
  have hf : t.f MEM_SUMMARY.capacity = s.f MEM_SUMMARY.capacity := f_of_wordsBut h.words fun a ha => by
    rw [(covers_iff (by decide) a).1 ha, bar4CountWord]
    cases p <;> decide
  rw [State.memCapacity, hf, State.memCapacity]

/-- The status of a region is no word of the counts. -/
theorem Bar4Counted.f_regionStatus {r : Nat} (hr : r < 64) {l : Loc} (ha : l.addr = (CAP_REGION_STATUS.reg r).addr)
    (hw : l.lo + l.width ≤ 32) : t.f l = s.f l :=
  f_of_wordsBut h.words fun a hc => by
    rw [(covers_iff hw a).1 hc, ha]
    cases p <;> simp only [bar4CountWord, CAP_REGION_STATUS.reg, CAP_BAR4_STATUS.reg, Port.idx] <;> omega

theorem Bar4Counted.writtenRegion (a : Nat) : t.writtenRegion a = s.writtenRegion a := by
  have hbase : ∀ r, t.regionBase r = s.regionBase r := fun r => by rw [regionBase, region, h.regions]; rfl
  have hsize : ∀ r, t.regionSize r = s.regionSize r := fun r => by rw [regionSize, region, h.regions]; rfl
  unfold State.writtenRegion
  rw [Bool.eq_iff_iff, List.any_eq_true, List.any_eq_true]
  refine exists_congr fun r => and_congr_right fun hm => ?_
  have hr : r < 64 := List.mem_range.1 hm
  have hexists : t.f (CAP_REGION_STATUS.exists_ r) = s.f (CAP_REGION_STATUS.exists_ r) :=
    h.f_regionStatus hr rfl (Nat.le_of_ble_eq_true rfl)
  have hwriting : t.f (CAP_REGION_STATUS.writing r) = s.f (CAP_REGION_STATUS.writing r) :=
    h.f_regionStatus hr rfl (Nat.le_of_ble_eq_true rfl)
  simp only [regionExists, flag, hexists, hwriting, hbase, hsize]

/-- The counts of an access do not change which bytes are stored. -/
theorem Bar4Counted.bar4Takes (a : Nat) : t.bar4Takes a = s.bar4Takes a := by
  rw [State.bar4Takes, h.memCapacity, h.writtenRegion, State.bar4Takes]

end

/-! ### The bytes that a write stores -/

@[simp] theorem bar4Put_bus (s : State) (a : Nat) (bs : List (Option Byte)) : (s.bar4Put a bs).bus = s.bus := by
  fun_induction bar4Put s a bs with
  | case1 => rfl
  | case2 s a bs ih => exact ih
  | case3 s a b bs ih =>
    rw [ih]
    split <;> rfl

/-- Capture memory after one byte of a BAR4 write that is enabled. -/
theorem get_bar4One (s : State) (a x : Nat) (b : Byte) :
    (if s.bar4Takes a then s.memWrite a [b] else s).sdram.get 0 x =
      if x = a ∧ s.bar4Takes a = true then b else s.sdram.get 0 x := by
  by_cases ht : s.bar4Takes a = true
  · rw [if_pos ht]
    by_cases hx : x = a
    · rw [if_pos ⟨hx, ht⟩, hx]
      exact Tab.get_put_self _ _ _ _
    · rw [if_neg fun h => hx h.1]
      exact Tab.get_put_ne _ _ _ _ hx
  · rw [if_neg ht, if_neg fun h => ht h.2]

theorem bar4Takes_bar4One (s : State) (a x : Nat) (b : Byte) :
    (if s.bar4Takes a then s.memWrite a [b] else s).bar4Takes x = s.bar4Takes x := by
  split <;> rfl

/-- A byte of a write behind its first. -/
theorem getElem?_behind {o : Option Byte} {bs : List (Option Byte)} {a x : Nat} (h : a < x) :
    (o :: bs)[x - a]? = bs[x - (a + 1)]? := by
  rw [show x - a = x - (a + 1) + 1 by omega, List.getElem?_cons_succ]

/-- A condition of two parts where the first holds. -/
theorem if_and_left {c d : Prop} [Decidable c] [Decidable d] {α : Type} {y z : α} (hc : c) :
    (if c ∧ d then y else z) = if d then y else z := by
  by_cases hd : d
  · rw [if_pos ⟨hc, hd⟩, if_pos hd]
  · rw [if_neg fun h => hd h.2, if_neg hd]

/-- A byte of capture memory after a BAR4 write: the enabled byte of the write that lies on it where it may be stored, and
else the byte that stood there (R41, R377). -/
theorem get_bar4Put (s : State) (a x : Nat) (bs : List (Option Byte)) :
    (s.bar4Put a bs).sdram.get 0 x =
      if a ≤ x ∧ s.bar4Takes x = true then bs[x - a]?.join.getD (s.sdram.get 0 x) else s.sdram.get 0 x := by
  fun_induction bar4Put s a bs with
  | case1 s a => rw [List.getElem?_nil, Option.join_none, Option.getD_none, ite_self]
  | case2 s a bs ih =>
    rw [ih]
    rcases Nat.lt_trichotomy x a with h | rfl | h
    · rw [if_neg (by omega), if_neg (by omega)]
    · rw [if_neg (by omega), Nat.sub_self, List.getElem?_cons_zero, Option.join_some, Option.getD_none, ite_self]
    · rw [getElem?_behind h, if_and_left (Nat.succ_le_of_lt h), if_and_left (Nat.le_of_lt h)]
  | case3 s a b bs ih =>
    rw [ih, get_bar4One, bar4Takes_bar4One]
    rcases Nat.lt_trichotomy x a with h | rfl | h
    · rw [if_neg (by omega), if_neg (by omega), if_neg (by omega)]
    · rw [if_neg (by omega), Nat.sub_self, List.getElem?_cons_zero, Option.join_some, Option.getD_some,
        if_and_left rfl, if_and_left (Nat.le_refl x)]
    · rw [getElem?_behind h, if_neg (c := x = a ∧ _) (by omega), if_and_left (Nat.succ_le_of_lt h), if_and_left (Nat.le_of_lt h)]

end State

/-! ### The command -/

section

variable {s : State} {p : Port} {off : Nat}

/-- A sound read gives the bytes through the window and counts where it reaches too far (R41, R377). -/
theorem exec_bar4Read_sound {len at_ : Nat} (hh : s.up .host = true) (hm : s.up .memory = true) :
    exec (.bar4Access p (.read off len) .sound at_) s =
      .next ((s.bar4Oob p ((List.range len).map (s.winBase p + off + ·))).complete
        (.bytes ((List.range len).map fun i => s.bar4Byte (s.winBase p + off + i)))) := by
  show execBar4Access p (.read off len) .sound at_ s = _
  simp only [execBar4Access, hh, hm, Bool.and_self, Bool.not_true, Bool.false_eq_true, if_false, State.memEcc, reduceCtorEq,
    ite_self]

/-- The state after a write that reaches capture memory. -/
def State.bar4Written (s : State) (p : Port) (off : Nat) (bs : List (Option Byte)) : State :=
  let as_ := State.enabledFrom (s.winBase p + off) bs
  (((s.complete .ok).bar4Oob p as_).bar4Blocked p as_).bar4Put (s.winBase p + off) bs

theorem exec_bar4Write {bs : List (Option Byte)} {ecc : Ecc} {at_ : Nat} (hh : s.up .host = true)
    (hm : s.up .memory = true) : exec (.bar4Access p (.write off bs) ecc at_) s = .next (s.bar4Written p off bs) := by
  show execBar4Access p (.write off bs) ecc at_ s = _
  have hup : ∀ d, (s.complete .ok).up d = s.up d := fun _ => rfl
  simp only [execBar4Access, State.bar4Written, hup, hh, hm, Bool.and_self, Bool.not_true, Bool.false_eq_true, if_false]

/-- A write with HOST or MEMORY down is dropped (R42). -/
theorem exec_bar4Write_down {bs : List (Option Byte)} {ecc : Ecc} {at_ : Nat}
    (h : (s.up .host && s.up .memory) = false) :
    exec (.bar4Access p (.write off bs) ecc at_) s = .next (s.complete .ok) := by
  show execBar4Access p (.write off bs) ecc at_ s = _
  have hup : ∀ d, (s.complete .ok).up d = s.up d := fun _ => rfl
  simp only [execBar4Access, hup, h, Bool.not_false, if_true]

theorem bar4Written_bus (s : State) (p : Port) (off : Nat) (bs : List (Option Byte)) : (s.bar4Written p off bs).bus = .ok := by
  simp only [State.bar4Written, State.bar4Put_bus]
  exact (State.bar4Counted_write _ p _).bus

theorem get_bar4Written (s : State) (p : Port) (off x : Nat) (bs : List (Option Byte)) :
    (s.bar4Written p off bs).sdram.get 0 x =
      if s.winBase p + off ≤ x ∧ s.bar4Takes x = true then bs[x - (s.winBase p + off)]?.join.getD (s.sdram.get 0 x)
      else s.sdram.get 0 x := by
  have ht : (s.complete .ok).bar4Takes x = s.bar4Takes x := rfl
  simp only [State.bar4Written, State.get_bar4Put, (State.bar4Counted_write _ p _).bar4Takes, ht,
    (State.bar4Counted_write _ p _).sdram, State.complete_sdram]

end

/-- Settles O4: the counts of an access change no byte and no byte's fate, and `get_bar4Written` says what a write leaves. -/
theorem bar4ReadsAndWritesThroughTheWindow : Obligations.Bar4ReadsAndWritesThroughTheWindow := by
  refine ⟨fun s p off len hh hm => ?_, fun s p off b ecc k hh hm ht => ?_, fun s t p off bs ecc k hx a hn => ?_⟩
  · exact ⟨_, exec_bar4Read_sound hh hm, rfl, (State.bar4Counted_bar4Oob s p _).sdram⟩
  · refine ⟨_, exec_bar4Write hh hm, bar4Written_bus s p off _, ?_⟩
    rw [get_bar4Written, if_pos ⟨Nat.le_refl _, ht⟩, Nat.sub_self]
    rfl
  · cases hup : s.up .host && s.up .memory with
    | false =>
      cases (exec_bar4Write_down hup).symm.trans hx
      rfl
    | true =>
      obtain ⟨hh, hm⟩ := (Bool.and_eq_true _ _).mp hup
      cases (exec_bar4Write hh hm).symm.trans hx
      rw [get_bar4Written]
      refine ite_eq_right_iff.2 fun ⟨hle, ht⟩ => ?_
      have hfree : a < s.memCapacity ∧ s.writtenRegion a = false := by
        simpa only [State.bar4Takes, Bool.and_eq_true, decide_eq_true_eq, Bool.not_eq_true'] using ht
      have hnone : bs[a - (s.winBase p + off)]?.join = none := Decidable.byContradiction fun hsome =>
        hn ⟨_, Option.isSome_iff_ne_none.2 hsome, (Nat.add_sub_cancel' hle).symm, hfree⟩
      rw [hnone, Option.getD_none]

end Sys2Proof.Machine
end

section
/-! SUPPORT. The engine itself holds no semaphore but SEM_1 and SEM_5 (R58): every command keeps that, and so does a tick. -/

namespace Sys2Proof.Machine

namespace State

/-- Where the engine holds no semaphore in `s` but SEM_1 and SEM_5, it holds no other in `t` (R58). -/
def KeepsSems (s t : State) : Prop := engineSems s.sem → engineSems t.sem

/-- What a command answers keeps the semaphores of the engine. -/
def SemsGo (s : State) (o : Res) : Prop := ∀ t, o = .next t → s.KeepsSems t

@[simp] theorem keepsSems_iff {s t : State} : s.KeepsSems t ↔ (engineSems s.sem → engineSems t.sem) := Iff.rfl

@[simp] theorem semsGo_next {s t : State} : s.SemsGo (.next t) ↔ s.KeepsSems t :=
  ⟨fun h => h t rfl, fun h _ e => by cases e; exact h⟩

theorem semsGo_ite {s : State} {c : Prop} [Decidable c] {a b : Res} (ha : s.SemsGo a) (hb : s.SemsGo b) :
    s.SemsGo (if c then a else b) := by
  split
  · exact ha
  · exact hb

/-- A command that changes nothing where its occurrence cannot be. -/
theorem semsGo_unless {s t : State} {c : Prop} [Decidable c] (h : s.KeepsSems t) :
    s.SemsGo (if c then .next s else .next t) := semsGo_ite (semsGo_next.2 id) (semsGo_next.2 h)

theorem semsGo_when {s t : State} {c : Prop} [Decidable c] (h : s.KeepsSems t) :
    s.SemsGo (if c then .next t else .next s) := semsGo_ite (semsGo_next.2 h) (semsGo_next.2 id)

/-- A write of a Control Port keeps what its effect keeps. -/
theorem semsGo_hubWrite {s : State} {p : Port} {off : Nat} {sem : Option Nat} {effect : State → State}
    (h : ∀ z : State, z.KeepsSems (effect z)) : s.SemsGo (.next (s.hubWrite p off sem effect)) :=
  semsGo_next.2 fun hs => portWrite_engineSems _ _ _ _ _ hs h

/-- An instruction of a kernel processor moves no semaphore where its body moves none. -/
theorem semsGo_kpExec {s : State} {n : Nat} {got : KpGot} {k : KpKind} {body : State → KpEnd}
    (h : ∀ t, endAside t (body t)) : s.SemsGo (.next (s.kpExec n got k body)) := by
  obtain ⟨-, -, -, he, -⟩ := kpExec_aside s n got k body h
  rw [semsGo_next, keepsSems_iff, he]
  exact id

theorem keepsSems_ddcStep (s : State) (n : Nat) : s.KeepsSems (s.ddcStep n) := by simp

end State

open State

/-- R58: no command has the engine hold another semaphore. Only `setHolder` gives one away: to a port that reads SEM_n, and
to the engine at the store read of start-up, SEM_5 and SEM_1 (`storeRead_engineSems`); every other operation frees
semaphores or moves none, as its own lemma says. The commands stand in groups by what their meaning looks like. -/
theorem exec_semsGo (s : State) : ∀ c : Instr, s.SemsGo (exec c s)
  -- Writes of a Control Port with an effect of their own.
  | .semRelease .. | .semBreak .. | .evtPendClear .. | .mpCtlWrite .. | .imgLoadGo .. | .imgAbort .. | .imgUnload .. |
    .keyEnrol .. | .keyRevoke .. | .keySetSvn .. | .protRelease .. | .refFreqWrite .. | .spllDivWrite .. | .spllLfWrite ..
    | .spllHop .. | .clkoutCtlWrite .. | .syncIssue .. | .ddcCommit .. | .zmSwap .. | .detHoldReset .. | .kalFreeze .. |
    .kalClear .. | .mskSwap .. | .trgArmWrite .. | .trgForce .. | .trgRgnArm .. | .trgRgnDisarm .. | .trgAvgReset .. |
    .capAllocCreate .. | .capAllocResize .. | .capAllocFree .. | .capAckWrite .. | .capBar4WinWrite .. | .kpMboxInPost ..
    | .kpMboxOutClear .. | .kpReset .. | .kpRun .. | .kpHalt .. | .dmaGo .. | .dmaDisable .. | .dmaRingPartnerWrite .. |
    .dmaCqTailWrite .. | .strmFlowEnable .. | .dispCommit .. | .dispAuxGo .. | .tiuTimeArm .. | .tiuCdcGo .. |
    .tiuStatGo .. | .fcdCodeWrite .. | .fcdDriveEnable .. | .fcdDriveDisable .. | .fcdRangeWrite .. | .hkStart .. |
    .hkStop .. | .calGo .. | .calNext .. | .calAbort .. | .calCommit .. | .calStGo .. | .ensTokenArm .. |
    .ensTokenDisarm .. | .ensSync .. | .wearRepairGo .. | .glbRstSys .. | .avsManWrite .. | .pwrReq .. =>
    semsGo_hubWrite fun _ => by simp +contextual
  -- Occurrences with one outcome beside "nothing changes".
  | .bar0BadAccess .. | .portLinkUp .. | .semHolderRelease .. | .switchOverStart | .switchOverCommit | .pclkStepUp |
    .carouselHandover .. | .reconvergeDone .. | .zoneChange .. | .ovrEpisodeStart .. | .ppsWindowMissed | .syncInEdge .. |
    .strmRxOther .. | .strmLinkChange .. | .dispVblank | .fcdPwmPeriod .. | .clrdacFall | .clrdacRelease | .vhkReturn |
    .calStaleCheck .. | .startupRepairDone | .thermRead .. | .porstRelease .. | .sysrstAssert | .pwrReqWaitStart |
    .pwrTimerExpire | .utilityPllFirstLock .. => semsGo_unless (by simp +contextual)
  | .portLinkDown .. | .functionLevelReset .. | .vectorSignal .. | .mpWriteRefused .. | .nrtResume |
    .canarySweepStart .. | .protHoldExpire .. | .fltFire .. | .refLost | .refReturn .. | .spllTrip | .spllLock .. |
    .upllUnlock | .upllRelock | .ddcCommitApply .. | .trgEvaluate .. | .trgDecide .. | .trgRgnHoldEnd .. | .triginStuck ..
    | .kpTimerExpire .. | .kpWatchdog .. | .dmaDescFetch .. | .dmaQuiesceTimeout | .strmContextTimer .. |
    .dispClockSettled | .dispTrainFail | .dispHpdUnplug .. | .dispHpdPlug .. | .dispIrqHpd .. | .dispAuxDone .. |
    .evStuck .. | .tiuFinGate .. | .tiuStatDone .. | .fcdPredriveDone .. | .fcdRangeSettled .. | .ensHeartbeat | .ensFprint |
    .ensTokenReturn .. | .ensSyncAbort | .railLowAlert .. | .memInitDone | .startDone | .avsStatusPoll .. | .pwrEnterIdle
    | .pwrEnterSleep | .pwrEnterDeep | .ensWake | .finEdge .. | .ensRingBlockLock .. | .d2dLaneLockLoss .. |
    .startupStoreReadDone | .kalDecaySweepDone .. | .protMinClipReached .. | .mirrorGatheredUpdate .. =>
    semsGo_when (by simp +contextual)
  -- Commands with one outcome.
  | .semPeek .. | .fcForce .. | .fcArm .. | .fcDisarm .. | .fcFcdClear .. | .fcMarker .. | .spectrumProduce .. |
    .kalSpectrum .. | .mskEvaluate .. | .seqWindowLapse .. | .kpInboxParcel .. | .dmaBeatComplete .. | .dmaComplete .. |
    .dmaResume | .strmFlowParcel .. | .strmRegionCapture .. | .railUndervoltage .. | .railRestored | .porstAssert |
    .ovrEpisodeEnd .. => semsGo_next.2 (by simp +contextual)
  -- Instructions of the kernel processors, by what their bodies do.
  | .kpInstrAlu .. | .kpInstrMov .. | .kpInstrExp .. | .kpInstrNorm .. | .kpInstrHalt .. | .kpInstrWait .. |
    .kpInstrMboxPost .. | .kpInstrMboxAck .. | .kpInstrTrap .. | .kpInstrEi .. | .kpInstrDi .. | .kpInstrTime .. =>
    semsGo_kpExec fun t => by simp +contextual [endAside, aside]
  | .kpInstrMac4 .. | .kpInstrMac2 .. | .kpInstrMpy4 .. | .kpInstrMpy2 .. | .kpInstrClrS .. =>
    semsGo_kpExec fun _ => endAside_trans (by simp +contextual [aside]) (kpMoves_keeps ..)
  | .kpInstrLd .. => semsGo_kpExec fun _ => kpLd_keeps ..
  | .kpInstrSt .. => semsGo_kpExec fun _ => kpSt_keeps ..
  | .kpInstrStS .. => semsGo_kpExec fun _ => kpStS_keeps ..
  | .kpInstrLoop .. => semsGo_kpExec fun _ => kpLoop_keeps ..
  | .kpInstrRep .. => semsGo_kpExec fun _ => kpRep_keeps ..
  | .kpInstrPub .. => semsGo_kpExec fun _ => kpPub_keeps ..
  | .kpInstrMax .. | .kpInstrMin .. => semsGo_kpExec fun _ => kpSearch_keeps ..
  | .kpInstrRti .. => semsGo_kpExec fun _ => endAside_trans (by simp +contextual [aside]) (kpPop_keeps ..)
  | .kpInstrImmediate _ _ x => semsGo_kpExec fun t => by cases x <;> simp +contextual [endAside, aside]
  | .kpInstrBranch .. => semsGo_kpExec fun t => by split <;> simp [endAside, aside]
  | .kpInstrCall .. => semsGo_kpExec fun t => by
    split
    · exact kpCall_keeps ..
    · simp [endAside, aside]
  | .kpInstrRet .. => semsGo_kpExec fun t => by
    split
    · exact kpPop_keeps ..
    · simp [endAside, aside]
  -- Commands with several outcomes: each of them is one of the operations above, or none.
  | .regWrite .. | .reg64LowRead .. | .reg64HighRead .. | .msix64Access .. | .bar2Request .. | .bar4Access .. |
    .perstAssert .. | .semAcquire .. | .mpReadCycle .. | .aerUncorrectableError .. => by
    dsimp only [exec, execRegWrite, execReg64LowRead, execReg64HighRead, execMsix64Access, execBar2Request,
      execBar4Access, execPerstAssert, execSemAcquire, execMpReadCycle, execAerUncorrectableError]
    (repeat' split) <;> simp (maxDischargeDepth := 60) +contextual
  | .imgLoadWaitStart .. | .imgPass1Done .. | .imgPass2Done .. | .imgAdmission .. | .keyFuseDone => by
    dsimp only [exec, execImgLoadWaitStart, execImgPass1Done, execImgPass2Done, execImgAdmission, execKeyFuseDone]
    (repeat' split) <;> simp (maxDischargeDepth := 60) +contextual
  | .replayParcelRead .. | .fabricEntryParcel .. | .ebBlockArrive .. | .pathTakeBlock .. | .tileFire .. |
    .reorderRelease .. | .droopTrip .. | .canarySweepDone .. => by
    dsimp only [exec, execReplayParcelRead, execFabricEntryParcel, execEbBlockArrive, execPathTakeBlock,
      execTileFire, execReorderRelease, execDroopTrip, execCanarySweepDone]
    (repeat' split) <;> simp (maxDischargeDepth := 60) +contextual
  | .reconverge .. | .ppsEdge .. | .zmFadeStart .. | .zmFadeDone .. | .zmCoefAccess .. => by
    dsimp only [exec, execReconverge, execPpsEdge, execZmFadeStart, execZmFadeDone, execZmCoefAccess]
    (repeat' split) <;> simp (maxDischargeDepth := 60) +contextual
  | .detIntervalEnd .. | .skBlockEnd .. | .chzIntegralEnd .. | .envRecordClose .. | .kalDecaySweep .. | .kalReady .. |
    .kalClearDone .. => by
    dsimp only [exec, execDetIntervalEnd, execSkBlockEnd, execChzIntegralEnd, execEnvRecordClose, execKalDecaySweep,
      execKalReady, execKalClearDone]
    (repeat' split) <;> simp (maxDischargeDepth := 60) +contextual
  | .triginEdge .. | .trigoutAligned .. | .trigoutPulseEnd .. | .capFormatUnit .. | .capCaptureEnd .. => by
    dsimp only [exec, execTriginEdge, execTrigoutAligned, execTrigoutPulseEnd, execCapFormatUnit, execCapCaptureEnd]
    (repeat' split) <;> simp (maxDischargeDepth := 60) +contextual
  | .kpInterrupt .. | .kpWindowAccess .. | .dmaBurst .. | .dmaExitParcel .. | .strmArpRequest .. | .strmNeighborSolicit .. |
    .kpIllegalInstruction .. => by
    dsimp only [exec, execKpInterrupt, execKpWindowAccess, execDmaBurst, execDmaExitParcel, execStrmArpRequest,
      execStrmNeighborSolicit, execKpIllegalInstruction]
    (repeat' split) <;> simp (maxDischargeDepth := 60) +contextual
  | .dispComposeLine .. | .dispLinkTrained .. | .layerReleased .. | .layerFault .. => by
    dsimp only [exec, execDispComposeLine, execDispLinkTrained, execLayerReleased, execLayerFault]
    (repeat' split) <;> simp (maxDischargeDepth := 60) +contextual
  | .evEdge .. | .tiuEvFifoPop .. | .tiuCdcDone .. | .hkConversion .. | .hkScanDone | .calPassDone .. | .calGroupTimeout
    | .calCommitDone .. | .calStDone .. => by
    dsimp only [exec, execEvEdge, execTiuEvFifoPop, execTiuCdcDone, execHkConversion, execHkScanDone,
      execCalPassDone, execCalGroupTimeout, execCalCommitDone, execCalStDone]
    (repeat' split) <;> simp (maxDischargeDepth := 60) +contextual
  | .ensTokenRx .. | .ensTokenApply | .ensStateApply | .laneSpareSwap .. | .steerSweepStart | .steerSweepDone |
    .ledgerWrite .. | .scrub .. => by
    dsimp only [exec, execEnsTokenRx, execEnsTokenApply, execEnsStateApply, execLaneSpareSwap, execSteerSweepStart,
      execSteerSweepDone, execLedgerWrite, execScrub]
    (repeat' split) <;> simp (maxDischargeDepth := 60) +contextual
  | .sysrstRelease | .memTrainDone .. | .avsTransaction .. | .pwrEnterOff | .pwrExitIdle | .pwrExitSleep .. |
    .pwrExitDeep .. | .pwrTransitionDone | .wakeNFall | .mgmtTransaction .. => by
    dsimp only [exec, execSysrstRelease, execMemTrainDone, execAvsTransaction, execPwrEnterOff, execPwrExitIdle,
      execPwrExitSleep, execPwrExitDeep, execPwrTransitionDone, execWakeNFall, execMgmtTransaction]
    (repeat' split) <;> simp (maxDischargeDepth := 60) +contextual
  | .reg64HighWrite .. | .reg64LowWrite .. => by
    dsimp only [exec, execReg64HighWrite, execReg64LowWrite]
    split
    · exact semsGo_next.2 id
    · exact semsGo_hubWrite fun z hz => wordEffect_engineSems _ _ _ _ _ hz
  | .ensRingLoss .. => by
    dsimp only [exec, execEnsRingLoss]
    simp [-List.foldl_reverse]
  | .inputSelChange n =>
    semsGo_ite (semsGo_next.2 id) (semsGo_ite (semsGo_next.2 id) (semsGo_next.2 (keepsSems_ddcStep (s.setConv n _) n)))

/-- Settles O53: a step on a queue that is not empty is `exec` of its front. -/
theorem stepRunsTheFrontCommand : Obligations.StepRunsTheFrontCommand := by
  intro s c cs h
  unfold step
  rw [h]

/-- Settles O59: a command keeps the semaphores of the engine (`exec_semsGo`), and a tick moves none. -/
theorem stepKeepsTheEnginesSemaphores : Obligations.StepKeepsTheEnginesSemaphores := by
  intro s t ht he h
  obtain ⟨-, -, hwf, -⟩ := (tabsOk_iff s).1 ht
  have hs : engineSems s.sem := ⟨hwf, he⟩
  cases hp : s.pending with
  | nil =>
    obtain ⟨-, -, -, hsem, -⟩ := tickOne_keeps s
    have hx : step s = .next s.tickOne := by unfold step; rw [hp]
    cases hx.symm.trans h
    rw [← hsem] at hs
    exact hs.2
  | cons c cs => exact (exec_semsGo _ c t ((stepRunsTheFrontCommand s c cs hp).symm.trans h) hs).2

end Sys2Proof.Machine
end

section
/-! SUPPORT. What the operations on semaphores do (R54 to R65): who holds one once it is taken, freed or lost, what is
recorded, and which words the record stands in. -/

namespace Sys2Proof.Machine

namespace State

/-! ### What an event leaves of a port's state -/

/-- An event for a port moves nothing of a port's state but the marks of its vectors (R69). -/
theorem raiseAt_port (s : State) (p q : Port) (n : Nat) :
    ∃ m, (s.raiseAt p n).port q = { s.port q with marks := m } := by
  have hsame : ∀ t : State, t.port q = s.port q → ∃ m, t.port q = { s.port q with marks := m } := fun t h =>
    ⟨(s.port q).marks, h⟩
  unfold raiseAt
  split
  · exact hsame s rfl
  · dsimp only
    split
    · rcases Decidable.em (q = p) with rfl | hq
      · rw [setPort_port_self, bump, addSat, set_port, set_port]
        exact ⟨_, rfl⟩
      · rw [setPort_port_ne _ _ hq, bump, addSat, set_port, set_port]
        exact hsame s rfl
    · exact hsame _ (set_port _ _ _ _)

theorem raise_port (s : State) (q : Port) (n : Nat) : ∃ m, (s.raise n).port q = { s.port q with marks := m } := by
  unfold raise
  split
  · exact ⟨(s.port q).marks, rfl⟩
  · obtain ⟨m, hm⟩ := s.raiseAt_port .a q n
    obtain ⟨k, hk⟩ := (s.raiseAt .a n).raiseAt_port .b q n
    exact ⟨k, by rw [hk, hm]⟩

theorem raise_sem (s : State) (n : Nat) : (s.raise n).sem = s.sem := (raise_keeps s n).2.2.2.1

/-! ### A semaphore becomes free -/

theorem holder_of_sem {s t : State} (h : t.sem = s.sem) (n : Nat) : t.holder n = s.holder n := by
  unfold holder
  rw [h]

theorem freeSem_sem (s : State) (n : Nat) : (s.freeSem n).sem = (s.setHolder n none).sem := by
  unfold freeSem
  dsimp only
  split <;> simp

theorem freeSem_holder_self (s : State) (n : Nat) : (s.freeSem n).holder n = none :=
  (holder_of_sem (s.freeSem_sem n) n).trans (setHolder_holder_self _ _ _)

theorem freeSem_holder_ne (s : State) {n m : Nat} (h : m ≠ n) : (s.freeSem n).holder m = s.holder m :=
  (holder_of_sem (s.freeSem_sem n) m).trans (setHolder_holder_ne _ _ h)

@[simp] theorem freeSem_port (s : State) (n : Nat) (p : Port) : (s.freeSem n).port p = s.port p := by
  have hp : (s.setHolder n none).port p = s.port p := by cases p <;> rfl
  unfold freeSem
  dsimp only
  split
  · rw [set_port, set_port, hp]
  · exact hp

@[simp] theorem freeSem_bus (s : State) (n : Nat) : (s.freeSem n).bus = s.bus := by
  unfold freeSem
  dsimp only
  split <;> simp

theorem freeSem_regs (s : State) {n : Nat} (h : n ≠ 3) : (s.freeSem n).regs = s.regs := by
  unfold freeSem
  rw [if_neg h]
  rfl

/-- With SEM_3 the fast controls go off (R86). -/
theorem freeSem_three (s : State) : (s.freeSem 3).f MP_CTL.fast_en = 0 ∧ (s.freeSem 3).f MP_STATUS.fast_en = 0 ∧
    s.onlyFields (s.freeSem 3) [MP_CTL.reg, MP_STATUS.reg] := by
  have hfree : s.freeSem 3 = ((s.setHolder 3 none).set MP_CTL.fast_en 0).set MP_STATUS.fast_en 0 := rfl
  rw [hfree]
  refine ⟨?_, f_set_self _ _ _ (by decide), ?_⟩
  · rw [f_set_apart _ _ _ _ (.inl (by unfold wordsApart; decide))]
    exact f_set_self _ _ _ (by decide)
  · exact wordsBut_trans (t := (s.setHolder 3 none).set MP_CTL.fast_en 0)
      (wordsBut_set (s := s.setHolder 3 none) fun a hc =>
        ⟨MP_CTL.reg, by simp, .inl ((covers_iff (l := MP_CTL.fast_en) (by decide) a).1 hc)⟩)
      (wordsBut_set fun a hc =>
        ⟨MP_STATUS.reg, by simp, .inl ((covers_iff (l := MP_STATUS.fast_en) (by decide) a).1 hc)⟩)

/-! ### The record of a lost semaphore (R65) -/

/-- SEM_LOST has the bit of SEM_n. -/
def lostBit (s : State) (n : Nat) : Bool := bit (s.f (SEM_LOST.reg (n / 32))) (n % 32)

@[simp] theorem semLost_sem (s : State) (n : Nat) : (s.semLost n).sem = s.sem := set_sem _ _ _

@[simp] theorem semLost_port (s : State) (n : Nat) (p : Port) : (s.semLost n).port p = s.port p := set_port _ _ _ _

@[simp] theorem semLost_bus (s : State) (n : Nat) : (s.semLost n).bus = s.bus := set_bus _ _ _

theorem semLost_onlyFields (s : State) (n : Nat) : s.onlyFields (s.semLost n) [SEM_LOST.reg (n / 32)] := onlyFields_set _ _ _

theorem f_semLost_self (s : State) (n : Nat) :
    (s.semLost n).f (SEM_LOST.reg (n / 32)) = setBit (s.f (SEM_LOST.reg (n / 32))) (n % 32) % 2 ^ 32 :=
  f_set_self _ _ _ (by show 0 + 32 ≤ 64; omega)

theorem lostBit_semLost_self (s : State) (n : Nat) : (s.semLost n).lostBit n = true := by
  unfold lostBit
  rw [f_semLost_self, bit_mod (Nat.mod_lt _ (by decide)), bit_setBit_self]

/-- A bit of SEM_LOST that is set stays set. -/
theorem lostBit_semLost {s : State} {m : Nat} (n : Nat) (h : s.lostBit m = true) : (s.semLost n).lostBit m = true := by
  by_cases hw : m / 32 = n / 32
  · by_cases hb : m % 32 = n % 32
    · have hmn : m = n := by omega
      rw [hmn, lostBit_semLost_self]
    · unfold lostBit at *
      rw [hw, f_semLost_self, bit_mod (Nat.mod_lt _ (by decide)), bit_setBit_ne hb, ← hw, h]
  · have hf : (s.semLost n).f (SEM_LOST.reg (m / 32)) = s.f (SEM_LOST.reg (m / 32)) := by
      refine f_set_apart _ _ _ _ (.inl ?_)
      simp only [wordsApart, SEM_LOST.reg]
      omega
    unfold lostBit at *
    rw [hf, h]

@[simp] theorem semInfo_sem (s : State) (c : Nat) (p : Port) : (s.semInfo c p).sem = s.sem := set_sem _ _ _

@[simp] theorem semInfo_port (s : State) (c : Nat) (p q : Port) : (s.semInfo c p).port q = s.port q := set_port _ _ _ _

@[simp] theorem semInfo_bus (s : State) (c : Nat) (p : Port) : (s.semInfo c p).bus = s.bus := set_bus _ _ _

theorem semInfo_onlyFields (s : State) (c : Nat) (p : Port) : s.onlyFields (s.semInfo c p) [SEM_LOST_INFO.reg] :=
  onlyFields_set _ _ _

theorem f_semInfo (s : State) {c : Nat} (hc : c < 256) (p : Port) :
    (s.semInfo c p).f SEM_LOST_INFO.reg = c + 256 * (p.idx + 1) := by
  refine (f_set_self _ _ _ (by decide)).trans (Nat.mod_eq_of_lt ?_)
  show c + 256 * (p.idx + 1) < 2 ^ 32
  cases p <;> simp only [Port.idx] <;> omega

/-- The words that a lost semaphore may change: those of the fast controls, SEM_LOST and SEM_LOST_INFO. -/
def lostWord (a : Nat) : Prop :=
  a = MP_CTL.reg.addr ∨ a = MP_STATUS.reg.addr ∨ (SEM_LOST.reg 0).addr ≤ a ∧ a < SEM_LOST_INFO.reg.addr + 4

theorem lostWord_apart {a : Nat} (h : lostWord a) : ¬ eventWord a ∧ a ≠ GLB_ID.variant.addr := by
  simp only [lostWord, MP_CTL.reg, MP_STATUS.reg, SEM_LOST.reg, SEM_LOST_INFO.reg] at h
  simp only [eventWord, GLB_ID.variant]
  omega

theorem freeSem_lostWord (s : State) (n : Nat) : s.wordsBut (s.freeSem n) lostWord := by
  rcases Decidable.em (n = 3) with rfl | h
  · refine wordsBut_mono (s.freeSem_three).2.2 fun a ⟨l, hl, hc⟩ => ?_
    rcases List.mem_cons.1 hl with rfl | hl
    · exact .inl ((covers_iff (by decide) a).1 hc)
    · obtain rfl := List.mem_singleton.1 hl
      exact .inr (.inl ((covers_iff (by decide) a).1 hc))
  · exact wordsBut_of_regs (s.freeSem_regs h)

theorem semLost_lostWord (s : State) {n : Nat} (_ : n < 256) : s.wordsBut (s.semLost n) lostWord :=
  wordsBut_set fun a hc => by
    rw [covers_iff (by show 0 + 32 ≤ 32; omega)] at hc
    simp only [lostWord, MP_CTL.reg, MP_STATUS.reg, SEM_LOST.reg, SEM_LOST_INFO.reg] at hc ⊢
    omega

theorem semInfo_lostWord (s : State) (c : Nat) (p : Port) : s.wordsBut (s.semInfo c p) lostWord :=
  wordsBut_set fun a hc => by
    rw [covers_iff (by decide)] at hc
    simp only [lostWord, MP_CTL.reg, MP_STATUS.reg, SEM_LOST.reg, SEM_LOST_INFO.reg] at hc ⊢
    omega

end State

end Sys2Proof.Machine
end

section
/-! SUPPORT. Semaphores that a port takes, peeks at and loses (R54, R55, R62, R63, R65). -/

namespace Sys2Proof.Machine

namespace State

/-! ### A list of semaphores is lost (R62) -/

@[simp] theorem semsLost_port (s : State) (ns : List Nat) (p : Port) : (s.semsLost ns).port p = s.port p := by
  induction ns generalizing s with
  | nil => rfl
  | cons n ns ih => rw [semsLost, ih, semLost_port, freeSem_port]

theorem semsLost_holder (s : State) (ns : List Nat) (m : Nat) :
    (s.semsLost ns).holder m = if m ∈ ns then none else s.holder m := by
  induction ns generalizing s with
  | nil => simp [semsLost]
  | cons n ns ih =>
    rw [semsLost, ih, holder_of_sem (semLost_sem _ _)]
    rcases Decidable.em (m = n) with rfl | h
    · simp [freeSem_holder_self]
    · simp [h, freeSem_holder_ne s h]

theorem lostBit_freeSem (s : State) (n m : Nat) : (s.freeSem n).lostBit m = s.lostBit m := by
  have hf : (s.freeSem n).f (SEM_LOST.reg (m / 32)) = s.f (SEM_LOST.reg (m / 32)) := by
    rcases Decidable.em (n = 3) with rfl | hn
    · refine f_of_wordsBut (s.freeSem_three).2.2 fun a hc ⟨l, hl, hl'⟩ => ?_
      rw [covers_iff (by show 0 + 32 ≤ 32; omega)] at hc
      rcases List.mem_cons.1 hl with rfl | hl
      · rw [covers_iff (by decide)] at hl'
        simp only [SEM_LOST.reg, MP_CTL.reg] at hc hl'
        omega
      · obtain rfl := List.mem_singleton.1 hl
        rw [covers_iff (by decide)] at hl'
        simp only [SEM_LOST.reg, MP_STATUS.reg] at hc hl'
        omega
    · exact f_congr _ (s.freeSem_regs hn)
  unfold lostBit
  rw [hf]

theorem lostBit_semsLost (s : State) {ns : List Nat} {m : Nat} (h : m ∈ ns ∨ s.lostBit m = true) :
    (s.semsLost ns).lostBit m = true := by
  induction ns generalizing s with
  | nil => exact h.resolve_left List.not_mem_nil
  | cons n ns ih =>
    refine ih _ ?_
    rcases h with h | h
    · rcases List.mem_cons.1 h with rfl | h
      · exact .inr (lostBit_semLost_self _ _)
      · exact .inl h
    · exact .inr (lostBit_semLost n ((s.lostBit_freeSem n m).trans h))

theorem semsLost_lostWord (s : State) {ns : List Nat} (h : ∀ n ∈ ns, n < 256) : s.wordsBut (s.semsLost ns) lostWord := by
  induction ns generalizing s with
  | nil => exact wordsBut_refl _ _
  | cons n ns ih =>
    exact wordsBut_trans (wordsBut_trans (s.freeSem_lostWord n) (semLost_lostWord _ (h n (by simp))))
      (ih _ fun m hm => h m (List.mem_cons_of_mem _ hm))

theorem fastEn_semLost (s : State) (n : Nat) : (s.semLost n).f MP_CTL.fast_en = s.f MP_CTL.fast_en :=
  f_set_apart _ _ _ _ (.inl (by simp only [wordsApart, SEM_LOST.reg, MP_CTL.fast_en]; omega))

/-- With SEM_3 among the lost ones, or with the fast controls off before, they are off (R86). -/
theorem fastEn_semsLost (s : State) {ns : List Nat} (h : 3 ∈ ns ∨ s.f MP_CTL.fast_en = 0) :
    (s.semsLost ns).f MP_CTL.fast_en = 0 := by
  induction ns generalizing s with
  | nil => exact h.resolve_left List.not_mem_nil
  | cons n ns ih =>
    refine ih _ ?_
    rw [fastEn_semLost]
    rcases Decidable.em (n = 3) with rfl | hn
    · exact .inr (s.freeSem_three).1
    · rw [f_congr _ (s.freeSem_regs hn)]
      exact h.imp (fun h3 => (List.mem_cons.1 h3).resolve_left (Ne.symm hn)) id

/-! ### Two reads in one hub cycle (R54) -/

/-- The loser of the next tie on SEM_n becomes known. -/
def tieLost (s : State) (n : Nat) (p : Port) : State :=
  { s with sem := { s.sem with tieLoser := s.sem.tieLoser.put none n (some p) } }

/-- The loser of the last tie, CP_A at first, takes a semaphore that is free. -/
theorem semTakeBoth_free {s : State} {n : Nat} {w : Port} (hn : s.holder n = none)
    (hw : w = if s.sem.tieLoser.get none n = some .b then .b else .a) :
    s.semTakeBoth n = (if w = .a then 1 else ownerCode (.cp .b), if w = .a then ownerCode (.cp .a) else 1,
      (s.tieLost n w.other).setHolder n (some (.cp w))) := by
  unfold semTakeBoth
  rw [hn]
  dsimp only
  rw [← hw]
  cases w <;> rfl

/-! ### The semaphores of a port -/

theorem mem_heldBy {s : State} {p : Port} {n : Nat} : n ∈ s.heldBy p ↔ n < 256 ∧ s.holder n = some (.cp p) := by
  simp [heldBy]

theorem heldBy_eq_nil {s : State} {p : Port} (h : ∀ m, m < 256 → s.holder m ≠ some (.cp p)) : s.heldBy p = [] :=
  List.eq_nil_iff_forall_not_mem.2 fun m hm => h m (mem_heldBy.1 hm).1 (mem_heldBy.1 hm).2

theorem holderLost_of_none {s : State} {p : Port} (h : ∀ m, m < 256 → s.holder m ≠ some (.cp p)) : s.holderLost p = s := by
  unfold holderLost
  rw [heldBy_eq_nil h]

/-- A port that holds a semaphore loses all it holds, and that is recorded (R62). -/
theorem holderLost_of_mem {s : State} {p : Port} {m : Nat} (hm : m < 256) (h : s.holder m = some (.cp p)) :
    s.holderLost p = ((s.semsLost (s.heldBy p)).semInfo 1 p).raise 10 := by
  have hne : s.heldBy p ≠ [] := List.ne_nil_of_mem (mem_heldBy.2 ⟨hm, h⟩)
  unfold holderLost
  split
  next e => exact absurd e hne
  next => rfl

/-- Everything that is recorded of lost semaphores, before the event. -/
theorem semInfo_semsLost_lostWord (s : State) (p q : Port) :
    s.wordsBut ((s.semsLost (s.heldBy p)).semInfo 1 q) lostWord :=
  wordsBut_trans (semsLost_lostWord s fun _ hn => (mem_heldBy.1 hn).1) (semInfo_lostWord _ _ _)

/-- A field of the words of `lostWord` reads alike after an event. -/
theorem f_raise_lostWord (s : State) {n : Nat} (hn : n < 1024) {l : Loc} (hl : ∀ a, l.covers a → lostWord a) :
    (s.raise n).f l = s.f l := f_raise s n l hn fun a ha => (lostWord_apart (hl a ha)).1

theorem semLostReg_lostWord {n : Nat} (h : n < 256) (a : Nat) (hc : (SEM_LOST.reg (n / 32)).covers a) : lostWord a := by
  rw [covers_iff (by show 0 + 32 ≤ 32; omega)] at hc
  simp only [lostWord, MP_CTL.reg, MP_STATUS.reg, SEM_LOST.reg, SEM_LOST_INFO.reg] at hc ⊢
  omega

theorem semLostInfo_lostWord (a : Nat) (hc : SEM_LOST_INFO.reg.covers a) : lostWord a := by
  rw [covers_iff (by decide)] at hc
  simp only [lostWord, MP_CTL.reg, MP_STATUS.reg, SEM_LOST.reg, SEM_LOST_INFO.reg] at hc ⊢
  omega

theorem fastEn_lostWord (a : Nat) (hc : MP_CTL.fast_en.covers a) : lostWord a :=
  .inl ((covers_iff (l := MP_CTL.fast_en) (by decide) a).1 hc)

theorem holderLost_lostPending (s : State) (p : Port) : ((s.holderLost p).port p).lostPending = (s.port p).lostPending := by
  unfold holderLost
  split
  · rfl
  · obtain ⟨m, hm⟩ := ((s.semsLost (s.heldBy p)).semInfo 1 p).raise_port p 10
    rw [hm, semInfo_port, semsLost_port]

end State

/-! ### The commands -/

section

variable {s : State} {n : Fin 256} (hu : s.up .host = true)

include hu

theorem exec_semAcquire_one (p : Port) : exec (.semAcquire n (.one p)) s =
    .next ((s.semTake p n).2.complete (.words [(s.semTake p n).1])) := if_pos hu

theorem exec_semAcquire_both : exec (.semAcquire n .both) s =
    .next ((s.semTakeBoth n).2.2.complete (.words [(s.semTakeBoth n).1, (s.semTakeBoth n).2.1])) := if_pos hu

theorem reachable_sem {off : Nat} (hl : 0x20000 ≤ off) (hh : off < 0x40000) : s.reachable off = true := by
  have hd : State.domainOf off = some .host := by
    unfold State.domainOf
    rw [if_neg (by omega), if_neg (by omega), if_pos (by omega)]
  have ha : s.absent off = false := by
    have hp : State.perPath.all fun e => decide (off < e.1) || decide (e.1 + 4 * e.2 ≤ off) := by
      simp [State.perPath]
      omega
    unfold State.absent
    rw [if_neg (by simp; omega), if_neg (by simp; omega), if_neg (by simp; omega)]
    refine List.any_eq_false.2 fun e he => ?_
    have := List.all_eq_true.1 hp e he
    simp at this ⊢
    omega
  unfold State.reachable
  rw [hd]
  simp [hu, ha]

theorem exec_semPeek (p : Port) : exec (.semPeek p n) s = .next (s.complete (.words [s.semPeek n])) := by
  have hn := n.isLt
  have hread : s.hubRead p (0x20400 + 4 * n.val) = s.semPeek n := by
    have hw : s.hubWord p (0x20400 + 4 * n.val) = (s.semPeek n).toNat := by
      have hi : (0x20400 + 4 * n.val) % 0x400 / 4 = n.val := by omega
      unfold State.hubWord
      rw [if_neg (by omega), if_neg (by omega), if_neg (by omega), if_neg (by omega), if_neg (by omega),
        if_neg (by omega), if_pos (by omega), hi]
    unfold State.hubRead
    rw [if_neg (by omega), reachable_sem hu (by omega) (by omega), State.unitUsed_low (by omega), hw,
      if_neg (by simp), BitVec.ofNat_toNat, BitVec.setWidth_eq]
  show execSemPeek p n s = _
  unfold execSemPeek
  rw [hread]

end

/-- The state after step 2 of R62 for a port. -/
def holderReleased (s : State) (p : Port) : State :=
  (s.holderLost p).setPort p { (s.holderLost p).port p with lostPending := ((s.holderLost p).port p).lostPending - 1 }

theorem exec_semHolderRelease {s : State} {p : Port} (h : 0 < (s.port p).lostPending) :
    exec (.semHolderRelease p) s = .next (holderReleased s p) := if_neg (Nat.ne_of_gt h)

theorem holderReleased_lostPending (s : State) (p : Port) :
    ((holderReleased s p).port p).lostPending = (s.port p).lostPending - 1 := by
  rw [holderReleased, State.setPort_port_self, State.holderLost_lostPending]

/-- Step 2 of R62 where the port holds a semaphore: what is freed and what is recorded. -/
theorem holderReleased_spec {s : State} {p : Port} {m : Nat} (hm : m < 256) (h : s.holder m = some (.cp p)) :
    (∀ n, (holderReleased s p).holder n = if n ∈ s.heldBy p then none else s.holder n) ∧
      (∀ n ∈ s.heldBy p, (holderReleased s p).lostBit n = true) ∧
      (holderReleased s p).f SEM_LOST_INFO.reg = 1 + 256 * (p.idx + 1) ∧ s.raised 10 (holderReleased s p) ∧
      (3 ∈ s.heldBy p → (holderReleased s p).f MP_CTL.fast_en = 0) := by
  have hregs : (holderReleased s p).regs = (s.holderLost p).regs := State.setPort_regs _ _ _
  have hsem : (holderReleased s p).sem = (s.holderLost p).sem := State.setPort_sem _ _ _
  have hf : ∀ l : Loc, (∀ a, l.covers a → State.lostWord a) →
      (holderReleased s p).f l = ((s.semsLost (s.heldBy p)).semInfo 1 p).f l := fun l hl => by
    rw [State.f_congr l hregs, State.holderLost_of_mem hm h, State.f_raise_lostWord _ (by decide) hl]
  have hinfo : ∀ l : Loc, (∀ a, l.covers a → a ≠ SEM_LOST_INFO.reg.addr) →
      ((s.semsLost (s.heldBy p)).semInfo 1 p).f l = (s.semsLost (s.heldBy p)).f l := fun l hl =>
    State.f_of_wordsBut (State.semInfo_onlyFields _ _ _) fun a hc ⟨k, hk, hk'⟩ => by
      obtain rfl := List.mem_singleton.1 hk
      exact hl a hc ((State.covers_iff (by decide) a).1 hk')
  refine ⟨fun n => ?_, fun n hn => ?_, ?_, ?_, fun h3 => ?_⟩
  · rw [State.holder_of_sem hsem, State.holderLost_of_mem hm h, State.holder_of_sem (State.raise_sem _ _),
      State.holder_of_sem (State.semInfo_sem _ _ _), State.semsLost_holder]
  · have hlt := (State.mem_heldBy.1 hn).1
    have hbit := State.lostBit_semsLost s (.inl hn)
    unfold State.lostBit at *
    rw [hf _ (State.semLostReg_lostWord hlt), hinfo, hbit]
    intro a hc
    rw [State.covers_iff (by show 0 + 32 ≤ 32; omega)] at hc
    simp only [SEM_LOST.reg, SEM_LOST_INFO.reg] at hc ⊢
    omega
  · rw [hf _ State.semLostInfo_lostWord]
    exact State.f_semInfo _ (by decide) p
  · have hr : s.raised 10 (s.holderLost p) := by
      rw [State.holderLost_of_mem hm h]
      refine State.raised_after (by decide) (s.semInfo_semsLost_lostWord p p) (fun _ => State.lostWord_apart)
        (fun q => ?_) (State.raised_raise _ 10 (by decide))
      rw [State.semInfo_port, State.semsLost_port]
    exact fun q he ha => (State.f_congr _ hregs).trans (hr q he ha)
  · rw [hf _ State.fastEn_lostWord, hinfo _ fun a hc => ?_, State.fastEn_semsLost s (.inl h3)]
    rw [(State.covers_iff (by decide) a).1 hc]
    decide

/-- Settles O6: a read by what it makes of the holder, and step 2 of R62 by the list of the semaphores that the port holds. -/
theorem semaphoresAreTakenPeekedAndLost : Obligations.SemaphoresAreTakenPeekedAndLost := by
  refine ⟨fun s p n hu hn => ?_, fun s p n h hu hn => ?_, fun s n w hu hn hw => ?_, fun s p n hu => exec_semPeek hu p,
    fun s p hp ⟨m, hm, hh⟩ => ⟨_, exec_semHolderRelease hp, holderReleased_lostPending s p, ?_⟩,
    fun s p hp hh => ⟨_, exec_semHolderRelease hp, holderReleased_lostPending s p, ?_⟩⟩
  · have ht : s.semTake p n = (1, s.setHolder n (some (.cp p))) := by rw [State.semTake, hn]
    rw [exec_semAcquire_one hu, ht]
    exact ⟨_, rfl, rfl, State.setHolder_holder_self _ _ _, fun m hm => State.setHolder_holder_ne _ _ hm, rfl⟩
  · have ht : s.semTake p n = (if h = .cp p then 1 else State.ownerCode h, s) := by rw [State.semTake, hn]
    rw [exec_semAcquire_one hu, ht]
    rfl
  · rw [exec_semAcquire_both hu, State.semTakeBoth_free hn hw]
    refine ⟨_, rfl, by cases w <;> rfl, State.setHolder_holder_self _ _ _, Tab.get_put_self _ _ _ _, fun m hm => ?_, rfl⟩
    exact State.setHolder_holder_ne _ _ hm
  · obtain ⟨hhold, hbit, hinfo, hr, hfast⟩ := holderReleased_spec hm hh
    refine ⟨fun n hn => ?_, fun n hn => ?_, hinfo, hr, fun h3 => hfast (State.mem_heldBy.2 ⟨by decide, h3⟩)⟩
    · have hmem : n.val ∈ s.heldBy p := State.mem_heldBy.2 ⟨n.isLt, hn⟩
      exact ⟨(hhold n).trans (if_pos hmem), hbit n hmem⟩
    · exact (hhold n).trans (if_neg fun hmem => hn (State.mem_heldBy.1 hmem).2)
  · rw [holderReleased, State.holderLost_of_none hh]
    exact ⟨State.setPort_sem _ _ _, State.setPort_regs _ _ _⟩

end Sys2Proof.Machine
end

section
/-! SUPPORT. What stays of the state outside the registers and the ports when an event is raised or a write is refused. -/

namespace Sys2Proof.Machine.State

/-- Nothing of the state but register words and the states of the ports has changed. -/
def RegsAndPorts (s t : State) : Prop := t = { s with regs := t.regs, portA := t.portA, portB := t.portB }

namespace RegsAndPorts

variable {s t u : State}

theorem refl (s : State) : RegsAndPorts s s := rfl

theorem trans (h : RegsAndPorts s t) (k : RegsAndPorts t u) : RegsAndPorts s u := by
  unfold RegsAndPorts at *
  rw [k, h]

theorem set (s : State) (l : Loc) (v : Nat) : RegsAndPorts s (s.set l v) := by
  have h := set_eq_regs s l v
  unfold RegsAndPorts
  rw [h]

theorem bump (s : State) (l : Loc) : RegsAndPorts s (s.bump l) := set _ _ _

theorem setPort (s : State) (p : Port) (x : PortSt) : RegsAndPorts s (s.setPort p x) := by cases p <;> rfl

theorem raiseAt (s : State) (p : Port) (n : Nat) : RegsAndPorts s (s.raiseAt p n) := by
  unfold State.raiseAt
  split
  · exact refl s
  · dsimp only
    split
    · exact ((bump _ _).trans (set _ _ _)).trans (setPort _ _ _)
    · exact bump _ _

theorem raise (s : State) (n : Nat) : RegsAndPorts s (s.raise n) := by
  unfold State.raise
  split
  · exact refl s
  · exact (raiseAt _ _ _).trans (raiseAt _ _ _)

theorem refuse (s : State) (p : Port) (off : Nat) : RegsAndPorts s (s.refuse p off) := by
  rw [refuse_eq]
  exact ((bump _ _).trans (set _ _ _)).trans (raise _ _)

theorem eq (h : RegsAndPorts s t) : t = { s with regs := t.regs, portA := t.portA, portB := t.portB } := h

theorem bus (h : RegsAndPorts s t) : t.bus = s.bus := (congrArg State.bus h.eq).trans rfl

theorem sem (h : RegsAndPorts s t) : t.sem = s.sem := (congrArg State.sem h.eq).trans rfl

theorem mirror (h : RegsAndPorts s t) : t.mirror = s.mirror := (congrArg State.mirror h.eq).trans rfl

theorem trg (h : RegsAndPorts s t) : t.trg = s.trg := (congrArg State.trg h.eq).trans rfl

theorem cnv (h : RegsAndPorts s t) : t.cnv = s.cnv := (congrArg State.cnv h.eq).trans rfl

theorem fcd (h : RegsAndPorts s t) : t.fcd = s.fcd := (congrArg State.fcd h.eq).trans rfl

theorem out (h : RegsAndPorts s t) : t.out = s.out := (congrArg State.out h.eq).trans rfl

theorem dom (h : RegsAndPorts s t) : t.dom = s.dom := (congrArg State.dom h.eq).trans rfl

theorem time (h : RegsAndPorts s t) : t.time = s.time := (congrArg State.time h.eq).trans rfl

end RegsAndPorts

end Sys2Proof.Machine.State
end

section
/-! SUPPORT. Refused writes, releases and keyed breaks (R40, R56, R60, R61, R64). -/

namespace Sys2Proof.Machine

/-- A write of a Control Port that completes and is refused with no other effect (R60). -/
theorem refuse_completed (s : State) (p : Port) {off : Nat} (h : off < 2 ^ 32) :
    ((s.complete .ok).refuse p off).bus = .ok ∧ s.refusedFor p off ((s.complete .ok).refuse p off) :=
  ⟨(State.RegsAndPorts.refuse _ _ _).bus, State.refuse_refusedFor (s.complete .ok) p h⟩

/-- A write to a guarded register by a port that does not hold its semaphore (R60). -/
theorem exec_regWrite_refused {s : State} {p : Port} {off n : Nat} {v : Word} {r : RegRow} {ix : List Nat}
    (h4 : off % 4 = 0) (hk : off < 0x1000000) (hs : ¬ (0x20000 ≤ off ∧ off < 0x20400)) (hm : ¬ (0x38000 ≤ off ∧ off < 0x40000))
    (hf : findRow off = some (r, ix)) (hg : r.sem = some n) (hr : s.reachable off = true)
    (hh : s.holder n ≠ some (.cp p)) :
    exec (.regWrite p off v) s = .next ((s.complete .ok).refuse p off) := by
  show execRegWrite p off v s = _
  unfold execRegWrite
  rw [if_neg (by omega), if_neg (by unfold cfgBase; omega)]
  unfold State.regWrite
  rw [if_neg (by omega), if_neg hs, if_neg hm, hf]
  dsimp only
  rw [hg]
  exact congrArg _ (State.hubWrite_refused _ hr hh)

/-- The mirror image of BAR2 takes no write (R40). -/
theorem exec_bar2Write_mirror {s : State} (p : Port) {off : Nat} (a b c d : Byte) (hl : 0x8000000 ≤ off)
    (hh : off < 0x8040000) (h4 : off % 4 = 0) (hu : s.up .host = true) :
    exec (.bar2Request p (.write off [some a, some b, some c, some d])) s =
      .next ((s.complete .ok).refuse p (2 ^ 31 + off)) := by
  have hok : State.bar2WriteOk off [some a, some b, some c, some d] = true := by
    simp [State.bar2WriteOk, State.bar2ReadOk, h4]
  have hd : State.bar2Domain off = some .host := by
    unfold State.bar2Domain
    rw [if_neg (by omega), if_neg (by simp; omega), if_pos (by simp; omega)]
  have hreach : (s.complete .ok).bar2Reach off = true := by
    have hu' : (s.complete .ok).up .host = true := hu
    unfold State.bar2Reach
    rw [hd]
    simp [hu']
  have hw : ∀ v, (s.complete .ok).bar2Write p off v = (s.complete .ok).refuse p (2 ^ 31 + off) := fun v => by
    have hm : off % 2 ^ 28 = off := Nat.mod_eq_of_lt (by omega)
    unfold State.bar2Write
    rw [hreach, if_neg (by decide), if_neg (by omega), if_neg (by omega), if_neg (by omega), hm]
  have hone : State.wordsOf ([some a, some b, some c, some d].map (·.getD 0)) =
      [BitVec.ofNat 32 (field [a, b, c, d] 0 4)] := by
    simp [State.wordsOf]
  show execBar2Request p (.write off [some a, some b, some c, some d]) s = _
  unfold execBar2Request
  dsimp only
  rw [if_pos hok, hone]
  exact congrArg _ (hw _)

section

variable {s : State} {p : Port} (hu : s.up .host = true)

include hu

theorem exec_semRelease (n : Fin 256) (v : Word) :
    exec (.semRelease p n v) s = .next ((s.complete .ok).semWrite p n v) :=
  have hn := n.isLt
  congrArg _ (State.hubWrite_accepts (sem := none) (fun s => s.semWrite p n v)
    ⟨reachable_sem hu (by omega) (by omega), fun _ h => by cases h⟩)

theorem exec_semBreak (v : Word) : exec (.semBreak p v) s = .next ((s.complete .ok).semBreak p v.toNat) :=
  congrArg _ (State.hubWrite_accepts (sem := none) (fun s => s.semBreak p v.toNat)
    ⟨reachable_sem hu (by decide) (by decide), fun _ h => by cases h⟩)

end

/-! ### Breaks (R64) -/

namespace State

/-- A word with the key of SEM_BREAK names the semaphore in its low byte. -/
theorem semBreak_key (n : Fin 256) :
    bits (BitVec.ofNat 32 (0xB8EA0000 + n.val) : Word).toNat 8 24 = 0xB8EA00 ∧
      (BitVec.ofNat 32 (0xB8EA0000 + n.val) : Word).toNat % 256 = n.val := by
  have hn := n.isLt
  rw [BitVec.toNat_ofNat]
  unfold bits
  omega

/-- Without the key, or for a semaphore that the engine holds, a break is refused. -/
theorem semBreak_refused {s : State} {p : Port} {v : Word}
    (h : v.toNat / 256 ≠ 0xB8EA00 ∨ s.holder (v.toNat % 256) = some .engine) :
    s.semBreak p v.toNat = s.refuse p SEM_BREAK.reg.addr := by
  have hv := v.isLt
  have hb : bits v.toNat 8 24 = v.toNat / 256 := by
    unfold bits
    omega
  unfold semBreak
  dsimp only
  rw [hb]
  rcases Decidable.em (v.toNat / 256 = 0xB8EA00) with hk | hk
  · rw [if_neg (fun h => h hk), h.resolve_left (fun h => h hk)]
  · rw [if_pos hk]

/-- A semaphore broken, before the event. -/
def semBroken (s : State) (n : Nat) (p : Port) : State := ((s.freeSem n).semLost n).semInfo 2 p

theorem semBreak_held {s : State} {p q : Port} {n : Fin 256} (h : s.holder n = some (.cp q)) :
    s.semBreak p (BitVec.ofNat 32 (0xB8EA0000 + n.val) : Word).toNat = (s.semBroken n p).raise 11 := by
  obtain ⟨hk, hn⟩ := semBreak_key n
  unfold semBreak
  dsimp only
  rw [if_neg (fun h => h hk), hn]
  simp only [h, semBroken]

theorem semBreak_free {s : State} {p : Port} {n : Fin 256} (h : s.holder n = none) :
    s.semBreak p (BitVec.ofNat 32 (0xB8EA0000 + n.val) : Word).toNat = (s.semInfo 2 p).raise 11 := by
  obtain ⟨hk, hn⟩ := semBreak_key n
  unfold semBreak
  dsimp only
  rw [if_neg (fun h => h hk), hn]
  simp only [h]

theorem semBroken_lostWord (s : State) {n : Nat} (h : n < 256) (p : Port) : s.wordsBut (s.semBroken n p) lostWord :=
  wordsBut_trans (wordsBut_trans (s.freeSem_lostWord n) (semLost_lostWord _ h)) (semInfo_lostWord _ _ _)

@[simp] theorem semBroken_port (s : State) (n : Nat) (p q : Port) : (s.semBroken n p).port q = s.port q := by
  rw [semBroken, semInfo_port, semLost_port, freeSem_port]

/-- SEM_LOST_INFO and the words that a semaphore's release and its bit of SEM_LOST may change lie apart. -/
theorem f_semBroken (s : State) (n : Nat) (p : Port) {l : Loc} (hl : ∀ a, l.covers a → a ≠ SEM_LOST_INFO.reg.addr) :
    (s.semBroken n p).f l = ((s.freeSem n).semLost n).f l :=
  f_of_wordsBut (semInfo_onlyFields _ _ _) fun a hc ⟨k, hk, hk'⟩ => by
    obtain rfl := List.mem_singleton.1 hk
    exact hl a hc ((covers_iff (by decide) a).1 hk')

theorem lostBit_semBroken (s : State) {n : Nat} (h : n < 256) (p : Port) : (s.semBroken n p).lostBit n = true := by
  have hb := lostBit_semLost_self (s.freeSem n) n
  unfold lostBit at *
  rw [f_semBroken, hb]
  intro a hc
  rw [covers_iff (by show 0 + 32 ≤ 32; omega)] at hc
  simp only [SEM_LOST.reg, SEM_LOST_INFO.reg] at hc ⊢
  omega

/-- What a break leaves of the words, with the registers that the release changes. -/
theorem semBroken_onlyFields (s : State) {n : Nat} (p : Port) {ls : List Loc} (h : s.onlyFields (s.freeSem n) ls) :
    s.onlyFields (s.semBroken n p) (SEM_LOST.reg (n / 32) :: SEM_LOST_INFO.reg :: ls) :=
  wordsBut_trans (wordsBut_trans
    (wordsBut_mono h fun _ ⟨l, hl, hc⟩ => ⟨l, by simp [hl], hc⟩)
    (wordsBut_mono (semLost_onlyFields _ n) fun _ ⟨l, hl, hc⟩ => ⟨l, by simp [List.mem_singleton.1 hl], hc⟩))
    (wordsBut_mono (semInfo_onlyFields _ _ _) fun _ ⟨l, hl, hc⟩ => ⟨l, by simp [List.mem_singleton.1 hl], hc⟩)

/-- An event after changes to some registers. -/
theorem onlyFieldsEvents_raise {s t : State} {ls : List Loc} (h : s.onlyFields t ls) {n : Nat} (hn : n < 1024) :
    s.onlyFieldsEvents (t.raise n) ls :=
  wordsBut_trans (wordsBut_mono h fun _ => .inr) (wordsBut_raise hn fun _ => .inl)

theorem freeSem_three_semLost (s : State) : ((s.freeSem 3).semLost 3).f MP_CTL.fast_en = 0 ∧
    ((s.freeSem 3).semLost 3).f MP_STATUS.fast_en = 0 := by
  obtain ⟨hc, hs, -⟩ := s.freeSem_three
  refine ⟨(fastEn_semLost _ 3).trans hc, (f_set_apart _ _ _ _ (.inl ?_)).trans hs⟩
  unfold wordsApart
  decide

theorem statusFastEn_lostWord (a : Nat) (hc : MP_STATUS.fast_en.covers a) : lostWord a :=
  .inr (.inl ((covers_iff (l := MP_STATUS.fast_en) (by decide) a).1 hc))

/-- A semaphore that a port holds is broken (R64). -/
theorem semBroken_raise_spec (s : State) {n : Nat} (h : n < 256) (p : Port) :
    ((s.semBroken n p).raise 11).bus = s.bus ∧
      ((s.semBroken n p).raise 11).holder n = none ∧
      (∀ m, m ≠ n → ((s.semBroken n p).raise 11).holder m = s.holder m) ∧
      ((s.semBroken n p).raise 11).lostBit n = true ∧
      ((s.semBroken n p).raise 11).f SEM_LOST_INFO.reg = 2 + 256 * (p.idx + 1) ∧
      s.raised 11 ((s.semBroken n p).raise 11) := by
  have hsem : ((s.semBroken n p).raise 11).sem = (s.freeSem n).sem := by
    rw [raise_sem, semBroken, semInfo_sem, semLost_sem]
  refine ⟨?_, (holder_of_sem hsem n).trans (s.freeSem_holder_self n),
    fun m hm => (holder_of_sem hsem m).trans (s.freeSem_holder_ne hm), ?_, ?_, ?_⟩
  · rw [(RegsAndPorts.raise _ _).bus, semBroken, semInfo_bus, semLost_bus, freeSem_bus]
  · have hb := s.lostBit_semBroken h p
    unfold lostBit at *
    rw [f_raise_lostWord _ (by decide) (semLostReg_lostWord h), hb]
  · rw [f_raise_lostWord _ (by decide) semLostInfo_lostWord]
    exact f_semInfo _ (by decide) p
  · exact raised_after (by decide) (s.semBroken_lostWord h p) (fun _ => lostWord_apart)
      (fun q => by rw [semBroken_port]) (raised_raise _ 11 (by decide))

theorem semBroken_three (s : State) (p : Port) :
    ((s.semBroken 3 p).raise 11).f MP_CTL.fast_en = 0 ∧ ((s.semBroken 3 p).raise 11).f MP_STATUS.fast_en = 0 ∧
      s.onlyFieldsEvents ((s.semBroken 3 p).raise 11) [SEM_LOST.reg 0, SEM_LOST_INFO.reg, MP_CTL.reg, MP_STATUS.reg] := by
  obtain ⟨hc, hs⟩ := s.freeSem_three_semLost
  refine ⟨?_, ?_, onlyFieldsEvents_raise (s.semBroken_onlyFields (n := 3) p (s.freeSem_three).2.2) (by decide)⟩
  · rw [f_raise_lostWord _ (by decide) fastEn_lostWord, f_semBroken, hc]
    intro a h
    rw [(covers_iff (l := MP_CTL.fast_en) (by decide) a).1 h]
    decide
  · rw [f_raise_lostWord _ (by decide) statusFastEn_lostWord, f_semBroken, hs]
    intro a h
    rw [(covers_iff (l := MP_STATUS.fast_en) (by decide) a).1 h]
    decide

theorem semBroken_other (s : State) {n : Nat} (h : n ≠ 3) (p : Port) :
    s.onlyFieldsEvents ((s.semBroken n p).raise 11) [SEM_LOST.reg (n / 32), SEM_LOST_INFO.reg] :=
  onlyFieldsEvents_raise (s.semBroken_onlyFields (ls := []) p (wordsBut_of_regs (s.freeSem_regs h))) (by decide)

/-- A break of a free semaphore is recorded and raised (R64). -/
theorem semInfo_raise_spec (s : State) (p : Port) :
    ((s.semInfo 2 p).raise 11).bus = s.bus ∧ ((s.semInfo 2 p).raise 11).sem = s.sem ∧
      ((s.semInfo 2 p).raise 11).f SEM_LOST_INFO.reg = 2 + 256 * (p.idx + 1) ∧
      s.raised 11 ((s.semInfo 2 p).raise 11) ∧ s.onlyFieldsEvents ((s.semInfo 2 p).raise 11) [SEM_LOST_INFO.reg] := by
  refine ⟨?_, ?_, ?_, ?_, onlyFieldsEvents_raise (semInfo_onlyFields _ _ _) (by decide)⟩
  · rw [(RegsAndPorts.raise _ _).bus, semInfo_bus]
  · rw [raise_sem, semInfo_sem]
  · rw [f_raise_lostWord _ (by decide) semLostInfo_lostWord]
    exact f_semInfo _ (by decide) p
  · exact raised_after (by decide) (semInfo_lostWord _ _ _) (fun _ => lostWord_apart)
      (fun q => by rw [semInfo_port]) (raised_raise _ 11 (by decide))

/-! ### Releases (R56) -/

theorem semWrite_release {s : State} {p : Port} {n : Nat} (h : s.holder n = some (.cp p)) :
    s.semWrite p n 0 = s.freeSem n :=
  if_pos ⟨rfl, h⟩

theorem semWrite_refused {s : State} {p : Port} {n : Nat} {v : Word} (h : v ≠ 0 ∨ s.holder n ≠ some (.cp p)) :
    s.semWrite p n v = s.refuse p (0x20000 + 4 * n) :=
  if_neg fun ⟨hv, hh⟩ => h.elim (· hv) (· hh)

end State

/-- Settles O56: each write by what it leaves, a refusal, a release or a break. -/
theorem refusedWritesReleasesAndBreaks : Obligations.RefusedWritesReleasesAndBreaks := by
  refine ⟨fun s p off r ix n v h4 hk hs hm hf hg hr hh => ⟨_, exec_regWrite_refused h4 hk hs hm hf hg hr hh, ?_⟩,
    fun s p w a b c d hu => ?_, fun s p n hu hh => ?_, fun s p n v hu h => ?_, fun s p q n hu hh => ?_,
    fun s p n hu hh => ?_, fun s p v hu h => ?_⟩
  · exact refuse_completed s p (by omega)
  · have hw := w.isLt
    refine ⟨_, exec_bar2Write_mirror p a b c d (by omega) (by omega) (by omega) hu, ?_⟩
    rw [← Nat.add_assoc]
    obtain ⟨hb, hr⟩ := refuse_completed s p (off := 2 ^ 31 + 0x8000000 + 4 * w.val) (by omega)
    exact ⟨hb, hr, (State.RegsAndPorts.refuse _ _ _).mirror⟩
  · refine ⟨_, exec_semRelease hu n 0, ?_⟩
    rw [State.semWrite_release (s := s.complete .ok) hh]
    refine ⟨State.freeSem_bus _ _, State.freeSem_holder_self _ _, fun m hm => State.freeSem_holder_ne _ hm,
      fun h3 => State.freeSem_regs _ h3, fun h3 => ?_⟩
    rw [h3]
    exact State.freeSem_three (s.complete .ok)
  · refine ⟨_, exec_semRelease hu n v, ?_⟩
    rw [State.semWrite_refused (s := s.complete .ok) h]
    exact refuse_completed s p (by omega)
  · have hx : exec (.semBreak p (BitVec.ofNat 32 (0xB8EA0000 + n.val))) s =
        .next (((s.complete .ok).semBroken n p).raise 11) := by
      rw [exec_semBreak hu, State.semBreak_held (s := s.complete .ok) hh]
    obtain ⟨hb, hn, hm, hl, hi, hr⟩ := State.semBroken_raise_spec (s.complete .ok) n.isLt p
    refine ⟨_, hx, hb, hn, hm, hl, hi, hr, fun h3 => ?_, fun h3 => State.semBroken_other (s.complete .ok) h3 p⟩
    rw [h3]
    exact State.semBroken_three (s.complete .ok) p
  · have hx : exec (.semBreak p (BitVec.ofNat 32 (0xB8EA0000 + n.val))) s =
        .next (((s.complete .ok).semInfo 2 p).raise 11) := by
      rw [exec_semBreak hu, State.semBreak_free (s := s.complete .ok) hh]
    exact ⟨_, hx, State.semInfo_raise_spec (s.complete .ok) p⟩
  · refine ⟨_, exec_semBreak hu v, ?_⟩
    rw [State.semBreak_refused (s := s.complete .ok) h]
    exact refuse_completed s p (by decide)

end Sys2Proof.Machine
end

section
/-! SUPPORT. A condition that the Mirror Port forces on a REPLAY path occurs at the next sample that the path takes (R331). -/

namespace Sys2Proof.Machine

namespace State

/-- Path 0 is in mode REPLAY and has taken one block of recorded samples; fast controls and forces are enabled. -/
def replayForced : State :=
  { State.reset with
    dom := { State.reset.dom with host := .on }
    regs := [(GLB_MODE.reg.addr, 7), (MP_CTL.reg.addr, 3)]
    fab := { State.reset.fab with
      paths := [(0, { PathSt.reset with
        refs := [{ seq := 0, tick := 0, phase := 0, fs24 := 0, flags := 0, zone := 0 }] })] } }

theorem fcForce_replayForced :
    ∃ t, exec (.fcForce false 1) replayForced = .next t ∧ t.trg.queue.map (·.index) = [1024] :=
  ⟨_, rfl, by decide⟩

end State

/-- Refutes O9: its first clause gives a forced condition the sample number 0, and on a REPLAY path it is that of the next
sample that the path takes (R331). -/
theorem not_fastControlsAct : ¬ Obligations.FastControlsAct := by
  rintro ⟨hforce, -⟩
  obtain ⟨t, ht, hi⟩ := State.fcForce_replayForced
  obtain ⟨u, hu, -, hq⟩ := hforce State.replayForced false 1 (by decide) (by decide) (by decide)
  obtain rfl : t = u := by rw [ht] at hu; exact Host.Outcome.next.inj hu
  rw [hq] at hi
  exact absurd hi (by decide)

end Sys2Proof.Machine
end

section
/-! SUPPORT. What an event does to each port (R69, R73): the word of its pending bit and the mark of its vector. -/

namespace Sys2Proof.Machine

/-- Setting a bit of a 32-bit word keeps it one. -/
theorem setBit_lt {w i : Nat} (hw : w < 2 ^ 32) (hi : i < 32) : setBit w i < 2 ^ 32 := by
  refine Nat.lt_pow_two_of_testBit _ fun j hj => ?_
  rw [← bit_eq_testBit, bit_setBit_ne (by omega), bit_eq_testBit]
  exact Nat.testBit_lt_two_pow (Nat.lt_of_lt_of_le hw (Nat.pow_le_pow_right (by decide) hj))

namespace State

/-- A word of a port's own event registers (R68). -/
def ownEvent (p : Port) (a : Nat) : Prop := ∃ k, k < 0x8000 ∧ a = 0x30000 + k + 0x4000000 * p.idx

theorem ownEvent_inj {p q : Port} {a : Nat} (h : ownEvent p a) (k : ownEvent q a) : p = q := by
  obtain ⟨i, hi, ha⟩ := h
  obtain ⟨j, hj, hb⟩ := k
  cases p <;> cases q <;> simp only [Port.idx, reduceCtorEq] at ha hb ⊢ <;> omega

theorem pend_ownEvent {p : Port} {w a : Nat} (hw : w < 64) (h : (EVT_PEND.reg p.idx w).covers a) : ownEvent p a := by
  rw [covers_iff (by show 0 + 32 ≤ 32; omega)] at h
  exact ⟨0x100 + 4 * w, by omega, h.trans (by simp only [EVT_PEND.reg]; omega)⟩

theorem count_ownEvent {p : Port} {n a : Nat} (hn : n < 1024) (h : (EVT_CNT.count p.idx n).covers a) : ownEvent p a := by
  rw [covers_iff (by show 0 + 16 ≤ 32; omega)] at h
  exact ⟨0x4000 + 4 * n, by omega, h.trans (by simp only [EVT_CNT.count]; omega)⟩

theorem route_ownEvent {p : Port} {n a : Nat} (hn : n < 1024) (h : a = (EVT_ROUTE.en p.idx n).addr) : ownEvent p a :=
  ⟨0x2000 + 4 * n, by omega, h.trans (by simp only [EVT_ROUTE.en]; omega)⟩

section

variable (s : State) (p : Port) {n : Nat}

theorem raiseAt_of_reset (h : (s.port p).evtReset = true) : s.raiseAt p n = s := by
  unfold raiseAt
  rw [if_pos h]

/-- The state once an event has been counted for a port (R69). -/
def eventCounted (n : Nat) : State := s.bump (EVT_CNT.count p.idx n)

/-- An event that becomes pending for a port marks its vector (R69). -/
def vectorMarked (n : Nat) : State :=
  (s.set (EVT_PEND.reg p.idx (n / 32)) (setBit (s.f (EVT_PEND.reg p.idx (n / 32))) (n % 32))).setPort p
    { s.port p with marks := (s.port p).marks.put false (s.f (EVT_ROUTE.vector p.idx n)) true }

/-- The counting moves no other field of the port's event registers. -/
theorem f_eventCounted {l : Loc} (hl : l.lo + l.width ≤ 32) (ha : l.addr ≠ (EVT_CNT.count p.idx n).addr) :
    (s.eventCounted p n).f l = s.f l := by
  refine f_of_wordsBut (P := (· = (EVT_CNT.count p.idx n).addr)) (wordsBut_set fun a hc => ?_) fun a hc => ?_
  · exact (covers_iff (by show 0 + 16 ≤ 32; omega) a).1 hc
  · rw [(covers_iff hl a).1 hc]
    exact ha

theorem eventCounted_port (q : Port) : (s.eventCounted p n).port q = s.port q := set_port _ _ _ _

/-- Whether an event becomes pending for a port (R69). -/
def becomesPending (n : Nat) : Bool :=
  s.flag (EVT_ROUTE.en p.idx n) && !bit (s.f (EVT_PEND.reg p.idx (n / 32))) (n % 32)

theorem becomesPending_eventCounted (hn : n < 1024) : (s.eventCounted p n).becomesPending p n = s.becomesPending p n := by
  unfold becomesPending flag
  rw [f_eventCounted s p (l := EVT_ROUTE.en p.idx n) (by show 16 + 1 ≤ 32; omega),
    f_eventCounted s p (l := EVT_PEND.reg p.idx (n / 32)) (by show 0 + 32 ≤ 32; omega)]
  · simp only [EVT_PEND.reg, EVT_CNT.count]
    omega
  · simp only [EVT_ROUTE.en, EVT_CNT.count]
    omega

/-- An event of a port whose event state is not in reset: counted, and where it becomes pending, marked. -/
theorem raiseAt_eq (hn : n < 1024) (h : (s.port p).evtReset = false) :
    s.raiseAt p n = if s.becomesPending p n then (s.eventCounted p n).vectorMarked p n else s.eventCounted p n := by
  have hv : ∀ (t : State) (v : Nat), (t.set (EVT_PEND.reg p.idx (n / 32)) v).f (EVT_ROUTE.vector p.idx n) =
      t.f (EVT_ROUTE.vector p.idx n) := fun t v => by
    refine f_set_apart _ _ _ _ (.inl ?_)
    simp only [wordsApart, EVT_PEND.reg, EVT_ROUTE.vector]
    omega
  rw [← becomesPending_eventCounted s p hn]
  unfold raiseAt
  rw [if_neg (by simp [h])]
  dsimp only
  rw [hv, set_port]
  rfl

/-- An event that is routed and not pending becomes pending and marks its vector. -/
theorem raiseAt_pends (hn : n < 1024) (h : (s.port p).evtReset = false) (hp : s.becomesPending p n = true) :
    (s.raiseAt p n).f (EVT_PEND.reg p.idx (n / 32)) = s.f (EVT_PEND.reg p.idx (n / 32)) + 2 ^ (n % 32) ∧
      ((s.raiseAt p n).port p).marks = (s.port p).marks.put false (s.f (EVT_ROUTE.vector p.idx n)) true := by
  have hbit : bit (s.f (EVT_PEND.reg p.idx (n / 32))) (n % 32) = false := by
    simpa using (Bool.and_eq_true_iff.1 hp).2
  have hset : setBit (s.f (EVT_PEND.reg p.idx (n / 32))) (n % 32) = s.f (EVT_PEND.reg p.idx (n / 32)) + 2 ^ (n % 32) :=
    if_neg (by simp [hbit])
  have hpend : (s.eventCounted p n).f (EVT_PEND.reg p.idx (n / 32)) = s.f (EVT_PEND.reg p.idx (n / 32)) :=
    f_eventCounted s p (by show 0 + 32 ≤ 32; omega) (by simp only [EVT_PEND.reg, EVT_CNT.count]; omega)
  have hvec : (s.eventCounted p n).f (EVT_ROUTE.vector p.idx n) = s.f (EVT_ROUTE.vector p.idx n) :=
    f_eventCounted s p (by show 0 + 11 ≤ 32; omega) (by simp only [EVT_ROUTE.vector, EVT_CNT.count]; omega)
  rw [raiseAt_eq s p hn h, if_pos hp]
  unfold vectorMarked
  rw [setPort_port_self, f_congr _ (setPort_regs _ _ _), f_set_self _ _ _ (by show 0 + 32 ≤ 64; omega), hpend, hvec,
    eventCounted_port]
  refine ⟨(Nat.mod_eq_of_lt (setBit_lt ?_ (Nat.mod_lt _ (by decide)))).trans hset, rfl⟩
  exact f_lt s (EVT_PEND.reg p.idx (n / 32))

/-- An event that is not routed, or pending already, is only counted. -/
theorem raiseAt_counts (hn : n < 1024) (h : (s.port p).evtReset = false) (hp : s.becomesPending p n = false) (w : Nat)
    (hw : w < 64) :
    (s.raiseAt p n).f (EVT_PEND.reg p.idx w) = s.f (EVT_PEND.reg p.idx w) ∧ (s.raiseAt p n).port p = s.port p := by
  rw [raiseAt_eq s p hn h, if_neg (by simp [hp])]
  exact ⟨f_eventCounted s p (by show 0 + 32 ≤ 32; omega) (by simp only [EVT_PEND.reg, EVT_CNT.count]; omega),
    eventCounted_port s p p⟩

/-- An event of a port leaves the other port, and all words but the port's own event registers. -/
theorem raiseAt_frame (hn : n < 1024) :
    s.wordsBut (s.raiseAt p n) (ownEvent p) ∧ ∀ q, q ≠ p → (s.raiseAt p n).port q = s.port q := by
  cases h : (s.port p).evtReset with
  | true =>
    rw [raiseAt_of_reset s p h]
    exact ⟨wordsBut_refl _ _, fun _ _ => rfl⟩
  | false =>
    have hc : s.wordsBut (s.eventCounted p n) (ownEvent p) := wordsBut_set fun _ => count_ownEvent hn
    rw [raiseAt_eq s p hn h]
    split
    · refine ⟨wordsBut_trans hc (wordsBut_trans (wordsBut_set fun _ => pend_ownEvent (by omega))
        (wordsBut_of_regs (setPort_regs _ _ _))), fun q hq => ?_⟩
      unfold vectorMarked
      rw [setPort_port_ne _ _ hq, set_port, eventCounted_port]
    · exact ⟨hc, fun q _ => eventCounted_port s p q⟩

/-- What an event does to a port is what it does to that port alone, before and after which only the other port's state and
its own event registers move. -/
theorem raise_around (hn : n < 1024) (ha : s.eventAbsent n = false) :
    ∃ u, u.port p = s.port p ∧ s.wordsBut u (fun a => ¬ ownEvent p a) ∧ (s.raise n).port p = (u.raiseAt p n).port p ∧
      (u.raiseAt p n).wordsBut (s.raise n) (fun a => ¬ ownEvent p a) := by
  have hap : ∀ a, ownEvent p.other a → ¬ ownEvent p a := fun a h k => by
    have := ownEvent_inj h k
    cases p <;> cases this
  have hr : s.raise n = (s.raiseAt .a n).raiseAt .b n := if_neg (by simp [ha])
  rw [hr]
  cases p with
  | a =>
    obtain ⟨hw, hp⟩ := (s.raiseAt .a n).raiseAt_frame .b hn
    exact ⟨s, rfl, wordsBut_refl _ _, hp .a (by decide), wordsBut_mono hw hap⟩
  | b =>
    obtain ⟨hw, hp⟩ := s.raiseAt_frame .a hn
    exact ⟨s.raiseAt .a n, hp .b (by decide), wordsBut_mono hw hap, rfl, wordsBut_refl _ _⟩

/-- A field of a port's own event registers, where only others move. -/
theorem f_ownEvent {s t : State} {p : Port} (h : s.wordsBut t (fun a => ¬ ownEvent p a)) {l : Loc}
    (hl : ∀ a, l.covers a → ownEvent p a) : t.f l = s.f l := f_of_wordsBut h fun a hc hn => hn (hl a hc)

theorem becomesPending_congr {s t : State} {p : Port} {n : Nat} (hn : n < 1024)
    (h : s.wordsBut t (fun a => ¬ ownEvent p a)) : t.becomesPending p n = s.becomesPending p n := by
  unfold becomesPending flag
  rw [f_ownEvent h (l := EVT_ROUTE.en p.idx n) fun a hc =>
      route_ownEvent hn ((covers_iff (by show 16 + 1 ≤ 32; omega) a).1 hc),
    f_ownEvent h fun a => pend_ownEvent (by omega)]

/-- R69 for one port of an event that both ports are given. -/
theorem raise_pends (hn : n < 1024) (ha : s.eventAbsent n = false) (h : (s.port p).evtReset = false)
    (hp : s.becomesPending p n = true) :
    (s.raise n).f (EVT_PEND.reg p.idx (n / 32)) = s.f (EVT_PEND.reg p.idx (n / 32)) + 2 ^ (n % 32) ∧
      ((s.raise n).port p).marks = (s.port p).marks.put false (s.f (EVT_ROUTE.vector p.idx n)) true := by
  obtain ⟨u, hup, hsu, hrp, hur⟩ := s.raise_around p hn ha
  obtain ⟨hf, hm⟩ := u.raiseAt_pends p hn (by rw [hup, h]) ((becomesPending_congr hn hsu).trans hp)
  rw [f_ownEvent hur fun a => pend_ownEvent (by omega), hf, hrp, hm, hup,
    f_ownEvent hsu fun a => pend_ownEvent (by omega), f_ownEvent hsu (l := EVT_ROUTE.vector p.idx n) fun a hc =>
      route_ownEvent hn ((covers_iff (l := EVT_ROUTE.vector p.idx n) (by show 0 + 11 ≤ 32; omega) a).1 hc)]
  exact ⟨rfl, rfl⟩

theorem raise_counts (hn : n < 1024) (ha : s.eventAbsent n = false) (h : (s.port p).evtReset = false)
    (hp : s.becomesPending p n = false) {w : Nat} (hw : w < 64) :
    (s.raise n).f (EVT_PEND.reg p.idx w) = s.f (EVT_PEND.reg p.idx w) ∧ (s.raise n).port p = s.port p := by
  obtain ⟨u, hup, hsu, hrp, hur⟩ := s.raise_around p hn ha
  obtain ⟨hf, hm⟩ := u.raiseAt_counts p hn (by rw [hup, h]) ((becomesPending_congr hn hsu).trans hp) w hw
  rw [f_ownEvent hur fun a => pend_ownEvent hw, hf, hrp, hm, hup, f_ownEvent hsu fun a => pend_ownEvent hw]
  exact ⟨rfl, rfl⟩

/-- A port whose event state is in reset gets nothing of an event (R73). -/
theorem raise_of_reset (hn : n < 1024) (h : (s.port p).evtReset = true) :
    (s.raise n).port p = s.port p ∧ s.wordsBut (s.raise n) (fun a => ¬ ownEvent p a) := by
  cases ha : s.eventAbsent n with
  | true =>
    rw [raise, if_pos ha]
    exact ⟨rfl, wordsBut_refl _ _⟩
  | false =>
    obtain ⟨u, hup, hsu, hrp, hur⟩ := s.raise_around p hn ha
    rw [u.raiseAt_of_reset p (by rw [hup, h])] at hrp hur
    exact ⟨hrp.trans hup, wordsBut_trans hsu hur⟩

end

end State

end Sys2Proof.Machine
end

section
/-! SUPPORT. Vectors that are looked at, pending bits that are cleared, and errors that a port logs (R44, R67, R70, R71). -/

namespace Sys2Proof.Machine

namespace State

/-! ### Vectors (R70) -/

/-- A port's function has its MSI-X Enable and Function Mask as its host has written them. -/
def msixSet (s : State) (p : Port) (en fm : Bool) : State := s.setPort p { s.port p with msixEn := en, fnMask := fm }

theorem msixSet_port (s : State) (p : Port) (en fm : Bool) :
    (s.msixSet p en fm).port p = { s.port p with msixEn := en, fnMask := fm } := setPort_port_self _ _ _

theorem msixSet_regs (s : State) (p : Port) (en fm : Bool) : (s.msixSet p en fm).regs = s.regs := setPort_regs _ _ _

theorem msixWord_msixSet (s : State) (p : Port) (en fm : Bool) (i : Nat) :
    (s.msixSet p en fm).msixWord p i = s.msixWord p i := by
  unfold msixWord
  rw [msixSet_port]

theorem vectorMasked_msixSet (s : State) (p : Port) (en fm : Bool) (v : Nat) :
    (s.msixSet p en fm).vectorMasked p v = ((s.msixWord p (4 * v + 3)).getLsbD 0 || fm || !en) := by
  unfold vectorMasked
  rw [msixWord_msixSet, msixSet_port]

theorem gapOver_msixSet (s : State) (p : Port) (en fm : Bool) (v : Nat) :
    (s.msixSet p en fm).gapOver p v = s.gapOver p v := by
  unfold gapOver
  rw [msixSet_port, f_congr _ (msixSet_regs _ _ _ _)]
  cases p <;> rfl

theorem vectorOut_msixSet (s : State) (p : Port) (en fm : Bool) (v : Nat) :
    (s.msixSet p en fm).vectorOut p v = s.vectorOut p v := by
  unfold vectorOut
  simp only [msixWord_msixSet]

/-- A marked vector that nothing masks sends its message. -/
theorem vectorTry_sends {s : State} {p : Port} {v : Nat} (hm : (s.port p).marks.get false v = true)
    (hk : s.vectorMasked p v = false) (hg : s.gapOver p v = true) :
    (s.vectorTry p v).out = s.vectorOut p v :: s.out ∧ ((s.vectorTry p v).port p).marks.get false v = false ∧
      ((s.vectorTry p v).port p).pba.get false v = false ∧ (s.vectorTry p v).regs = s.regs := by
  have hport : ∀ (t : State) (o : Out), (t.emit o).port p = t.port p := fun t o => by cases p <;> rfl
  unfold vectorTry
  dsimp only
  rw [if_neg (by simp [hm]), if_neg (by simp [hk]), if_neg (by simp [hg]), hport, setPort_port_self]
  exact ⟨congrArg _ (setPort_out _ _ _), Tab.get_put_self _ _ _ _, Tab.get_put_self _ _ _ _, setPort_regs _ _ _⟩

/-- A marked vector that is masked waits in the pending-bit array. -/
theorem vectorTry_waits {s : State} {p : Port} {v : Nat} (hm : (s.port p).marks.get false v = true)
    (hk : s.vectorMasked p v = true) :
    s.vectorTry p v = s.setPort p { s.port p with pba := (s.port p).pba.put false v true } := by
  unfold vectorTry
  dsimp only
  rw [if_neg (by simp [hm]), if_pos hk]

/-! ### Errors of a port (R44) -/

/-- A port has logged an error. -/
def aerLogged (s : State) (e : AerErr) : State :=
  s.setPort e.port { s.port e.port with cfg := aerLog (s.port e.port).cfg e }

theorem aerLogged_regs (s : State) (e : AerErr) : (s.aerLogged e).regs = s.regs := setPort_regs _ _ _

/-- Logging moves nothing of a port's state but its configuration space. -/
theorem aerLogged_port (s : State) (e : AerErr) (q : Port) :
    ∃ c, (s.aerLogged e).port q = { s.port q with cfg := c } := by
  unfold aerLogged
  rcases Decidable.em (q = e.port) with rfl | hq
  · exact ⟨_, setPort_port_self _ _ _⟩
  · exact ⟨(s.port q).cfg, setPort_port_ne _ _ hq⟩

theorem aerLogged_cfg (s : State) (e : AerErr) : ((s.aerLogged e).port e.port).cfg = aerLog (s.port e.port).cfg e := by
  rw [aerLogged, setPort_port_self]

theorem aerLogged_own (s : State) (e : AerErr) (q : Port) : ((s.aerLogged e).port q).evtReset = (s.port q).evtReset ∧
    ((s.aerLogged e).port q).marks = (s.port q).marks := by
  obtain ⟨c, hc⟩ := s.aerLogged_port e q
  rw [hc]
  exact ⟨rfl, rfl⟩

theorem aerLogged_becomesPending (s : State) (e : AerErr) (q : Port) (n : Nat) :
    (s.aerLogged e).becomesPending q n = s.becomesPending q n := by
  unfold becomesPending flag
  rw [f_congr _ (s.aerLogged_regs e), f_congr _ (s.aerLogged_regs e)]

/-- The bit of an error is set in the status register of its kind. -/
theorem getLsbD_or_twoPow (c : Word) (b : Fin 32) : (c ||| BitVec.ofNat 32 (2 ^ b.val)).getLsbD b = true := by
  rw [BitVec.getLsbD_or, BitVec.getLsbD_ofNat, Nat.testBit_two_pow_self, decide_eq_true b.isLt]
  simp

theorem uncorrectable_event (p : Port) : 20 + p.idx < 1024 ∧ (20 + p.idx) / 32 = 0 ∧ (20 + p.idx) % 32 = 20 + p.idx := by
  cases p <;> decide

theorem uncorrectable_present (s : State) (p : Port) : s.eventAbsent (20 + p.idx) = false := by cases p <;> rfl

end State

/-! ### The commands -/

theorem exec_vectorSignal {s : State} {p : Port} {v : Fin 2048} {en fm : Bool} (hu : s.up .host = true)
    (hd : (s.port p).dlActive = true) : exec (.vectorSignal p v en fm) s = .next ((s.msixSet p en fm).vectorTry p v) :=
  if_pos (by rw [hu, hd]; rfl)

section

variable {s : State} (hu : s.up .host = true)

include hu

theorem exec_aer_correctable (p : Port) (b : Fin 32) :
    exec (.aerUncorrectableError (.correctable p b)) s = .next (s.aerLogged (.correctable p b)) :=
  if_neg (by simp [hu])

theorem exec_aer_uncorrectable (p : Port) (b : Fin 32) (h : BitVec 128) :
    exec (.aerUncorrectableError (.uncorrectable p b h)) s =
      .next ((s.aerLogged (.uncorrectable p b h)).raise (20 + p.idx)) :=
  if_neg (by simp [hu])

theorem exec_evtPendClear (p : Port) (w : Fin 64) (v : Word) : exec (.evtPendClear p w v) s =
    .next ((s.complete .ok).relWrite p (EVT_PEND.reg 0 w).addr v.toNat) :=
  have hw := w.isLt
  have hr : s.reachable (EVT_PEND.reg 0 w).addr = true :=
    reachable_sem hu (by simp only [EVT_PEND.reg]; omega) (by simp only [EVT_PEND.reg]; omega)
  congrArg _ (State.hubWrite_accepts (sem := none) (fun s => s.relWrite p (EVT_PEND.reg 0 w).addr v.toNat)
    ⟨hr, fun _ h => by cases h⟩)

end

/-! ### Pending bits (R71) -/

/-- The row of EVT_PEND. -/
def evtPendRow : RegRow := ⟨0x30100, [(0x4, 64)], 1, .one, fun _ => 0x0, 0x0, 0xffffffff, 0x0, 0x0, 0x0, none⟩

theorem findRow_evtPend (w : Fin 64) : findRow (EVT_PEND.reg 0 w).addr = some (evtPendRow, [w.val]) := by
  have hw := w.isLt
  have hr : rowsAt (0x30100 + 0x4 * w.val) = rowsEvt := by
    unfold rowsAt
    rw [if_neg (by omega), if_neg (by omega), if_neg (by omega), if_pos (by omega)]
  show findIn (rowsAt (0x30100 + 0x4 * w.val)) _ = _
  rw [hr]
  exact findIn_here (Nat.le_add_right _ _) (index_array hw)

/-- EVT_PEND is W1C, as SEM_LOST is. -/
theorem evtPendRow_merge (old : Nat) (v : Word) : evtPendRow.merge old v.toNat = (BitVec.ofNat 32 old &&& ~~~v).toNat :=
  semLostRow_merge old v

theorem relWrite_evtPend (s : State) (p : Port) (w : Fin 64) (v : Word) :
    s.relWrite p (EVT_PEND.reg 0 w).addr v.toNat = s.setWord (EVT_PEND.reg p.idx w).addr 0
      (BitVec.ofNat 32 (s.f (EVT_PEND.reg p.idx w)) &&& ~~~v).toNat := by
  have ha : State.ownCopy p (EVT_PEND.reg 0 w).addr = (EVT_PEND.reg p.idx w).addr := rfl
  unfold State.relWrite
  rw [findRow_evtPend]
  dsimp only
  rw [ha, evtPendRow_merge, State.f_word (l := EVT_PEND.reg p.idx w) rfl rfl (by show 0 < 2 ^ 32; decide)]
  rfl

theorem f_relWrite_evtPend (s : State) (p : Port) (w : Fin 64) (v : Word) :
    (s.relWrite p (EVT_PEND.reg 0 w).addr v.toNat).f (EVT_PEND.reg p.idx w) =
      (BitVec.ofNat 32 (s.f (EVT_PEND.reg p.idx w)) &&& ~~~v).toNat := by
  rw [relWrite_evtPend, State.f_word (l := EVT_PEND.reg p.idx w) rfl rfl (by show 0 < 2 ^ 32; decide)]
  exact State.word_setWord_toNat _ _ _ _

/-! ### The parts of O7 -/

/-- What an uncorrectable error does to the event registers and the marks of a port (R69). -/
theorem aerUncorrectable_event (s : State) (p q : Port) (b : Fin 32) (h : BitVec 128) (he : (s.port q).evtReset = false) :
    (s.flag (EVT_ROUTE.en q.idx (20 + p.idx)) = true → bit (s.f (EVT_PEND.reg q.idx 0)) (20 + p.idx) = false →
      ((s.aerLogged (.uncorrectable p b h)).raise (20 + p.idx)).f (EVT_PEND.reg q.idx 0) =
          s.f (EVT_PEND.reg q.idx 0) + 2 ^ (20 + p.idx) ∧
        (((s.aerLogged (.uncorrectable p b h)).raise (20 + p.idx)).port q).marks =
          (s.port q).marks.put false (s.f (EVT_ROUTE.vector q.idx (20 + p.idx))) true) ∧
    (s.flag (EVT_ROUTE.en q.idx (20 + p.idx)) = false ∨ bit (s.f (EVT_PEND.reg q.idx 0)) (20 + p.idx) = true →
      ((s.aerLogged (.uncorrectable p b h)).raise (20 + p.idx)).f (EVT_PEND.reg q.idx 0) = s.f (EVT_PEND.reg q.idx 0) ∧
        (((s.aerLogged (.uncorrectable p b h)).raise (20 + p.idx)).port q).marks = (s.port q).marks) := by
  obtain ⟨hn, h0, hm⟩ := State.uncorrectable_event p
  obtain ⟨hreset, hmarks⟩ := s.aerLogged_own (.uncorrectable p b h) q
  have hregs := s.aerLogged_regs (.uncorrectable p b h)
  have hb : (s.aerLogged (.uncorrectable p b h)).becomesPending q (20 + p.idx) =
      (s.flag (EVT_ROUTE.en q.idx (20 + p.idx)) && !bit (s.f (EVT_PEND.reg q.idx 0)) (20 + p.idx)) := by
    rw [State.aerLogged_becomesPending, State.becomesPending, h0, hm]
  constructor
  · intro hen hbit
    have hp := State.raise_pends (s.aerLogged (.uncorrectable p b h)) q hn (State.uncorrectable_present _ p)
      (hreset.trans he) (hb.trans (by rw [hen, hbit]; rfl))
    rwa [h0, hm, State.f_congr _ hregs, State.f_congr (EVT_ROUTE.vector q.idx _) hregs, hmarks] at hp
  · intro hor
    obtain ⟨hf, hp⟩ := State.raise_counts (s.aerLogged (.uncorrectable p b h)) q hn (State.uncorrectable_present _ p)
      (hreset.trans he) (hb.trans (by rcases hor with h | h <;> simp [h])) (w := 0) (by decide)
    exact ⟨hf.trans (State.f_congr _ hregs), by rw [hp, hmarks]⟩

/-- A port whose event state is in reset gets nothing of an uncorrectable error (R73). -/
theorem aerUncorrectable_reset (s : State) (p q : Port) (b : Fin 32) (h : BitVec 128) (he : (s.port q).evtReset = true) :
    (((s.aerLogged (.uncorrectable p b h)).raise (20 + p.idx)).port q).marks = (s.port q).marks ∧
      s.wordsBut ((s.aerLogged (.uncorrectable p b h)).raise (20 + p.idx)) (fun a => ¬ State.ownEvent q a) := by
  obtain ⟨hreset, hmarks⟩ := s.aerLogged_own (.uncorrectable p b h) q
  obtain ⟨hp, hw⟩ := State.raise_of_reset (s.aerLogged (.uncorrectable p b h)) q (State.uncorrectable_event p).1
    (hreset.trans he)
  exact ⟨(congrArg PortSt.marks hp).trans hmarks, State.wordsBut_trans (State.wordsBut_of_regs (s.aerLogged_regs _)) hw⟩

/-- An uncorrectable error is logged and raises its event (R44, R67). -/
theorem aerUncorrectable_logged (s : State) (p : Port) (b : Fin 32) (h : BitVec 128) :
    s.raised (20 + p.idx) ((s.aerLogged (.uncorrectable p b h)).raise (20 + p.idx)) ∧
      (((s.aerLogged (.uncorrectable p b h)).raise (20 + p.idx)).port p).cfg.uncStatus.getLsbD b = true ∧
      s.onlyFieldsEvents ((s.aerLogged (.uncorrectable p b h)).raise (20 + p.idx)) [] := by
  have hn := (State.uncorrectable_event p).1
  have hregs := s.aerLogged_regs (.uncorrectable p b h)
  refine ⟨State.raised_after (P := fun _ => False) hn (State.wordsBut_of_regs hregs) (fun _ => False.elim)
    (fun q => (s.aerLogged_own _ q).1) (State.raised_raise _ _ hn), ?_,
    State.wordsBut_trans (State.wordsBut_of_regs hregs) (State.wordsBut_raise hn fun _ => .inl)⟩
  obtain ⟨m, hm⟩ := (s.aerLogged (.uncorrectable p b h)).raise_port p (20 + p.idx)
  have hc := s.aerLogged_cfg (.uncorrectable p b h)
  rw [hm]
  exact (congrArg (fun c : PortCfg => c.uncStatus.getLsbD b) hc).trans (State.getLsbD_or_twoPow _ b)

/-- Settles O7: a vector by whether something masks it, and an event by what it does to each port alone. -/
theorem vectorsSendOrWait : Obligations.VectorsSendOrWait := by
  refine ⟨fun s p v hu hd hm hk hg => ⟨_, exec_vectorSignal hu hd, ?_⟩,
    fun s p v en fm hu hd hm hk => ⟨_, exec_vectorSignal hu hd, ?_⟩,
    fun s p w v hu => ⟨_, exec_evtPendClear hu p w v, ?_⟩,
    fun s p b h hu => ⟨_, exec_aer_uncorrectable hu p b h, aerUncorrectable_logged s p b h⟩,
    fun s p b hu => ⟨_, exec_aer_correctable hu p b, ?_, ?_, s.aerLogged_regs _⟩,
    fun s p q b h n hu hn he => ⟨_, exec_aer_uncorrectable hu p b h, hn ▸ aerUncorrectable_event s p q b h he⟩,
    fun s p q b h he => ?_⟩
  · have hsends := State.vectorTry_sends (s := s.msixSet p true false) (p := p) (v := v) (by rw [State.msixSet_port, hm])
      (by rw [State.vectorMasked_msixSet, hk]; rfl) ((s.gapOver_msixSet p true false v).trans hg)
    rw [State.vectorOut_msixSet, State.msixSet_regs] at hsends
    obtain ⟨ho, hmark, hpba, hregs⟩ := hsends
    exact ⟨ho.trans (congrArg _ (State.setPort_out _ _ _)), hmark, hpba, hregs⟩
  · have hmask : (s.msixSet p en fm).vectorMasked p v = true := by
      rw [State.vectorMasked_msixSet]
      rcases hk with hk | hk | hk <;> simp [hk]
    rw [State.vectorTry_waits (by rw [State.msixSet_port, hm]) hmask, State.setPort_port_self, State.msixSet_port]
    exact ⟨(State.setPort_out _ _ _).trans (State.setPort_out _ _ _), hm, Tab.get_put_self _ _ _ _,
      (State.setPort_regs _ _ _).trans (State.msixSet_regs _ _ _ _)⟩
  · refine ⟨?_, f_relWrite_evtPend (s.complete .ok) p w v, fun d a hn => ?_⟩
    · rw [relWrite_evtPend]
      rfl
    · rw [relWrite_evtPend]
      exact Tab.get_put_ne _ _ _ _ fun ha => hn ⟨_, by simp, .inl ha⟩
  · exact (congrArg (fun c : PortCfg => c.corStatus.getLsbD b) (s.aerLogged_cfg (.correctable p b))).trans
      (State.getLsbD_or_twoPow _ b)
  · exact State.setPort_port_ne _ _ (show p.other ≠ p by cases p <;> decide)
  · cases hu : s.up .host with
    | false => exact ⟨s, if_pos (by simp [hu]), rfl, fun _ _ _ => rfl⟩
    | true =>
      obtain ⟨hm, hw⟩ := aerUncorrectable_reset s p q b h he
      exact ⟨_, exec_aer_uncorrectable hu p b h, hm, fun d n hn => hw d _ fun ho => ho ⟨n, hn, rfl⟩⟩

end Sys2Proof.Machine
end

section
/-! SUPPORT. The end of an over-range episode may lie at any place of the block that is being taken, so that it comes whatever
recovery span the blocks before have left open (R191, log entry 26). -/

namespace Sys2Proof.Machine

namespace State

/-- A one-bit field that is cleared is clear. -/
theorem flag_set_zero (s : State) (l : Loc) (hw : l.lo + l.width ≤ 64) : (s.set l 0).flag l = false := by
  simp [flag, f_set_self _ _ _ hw]

/-- The end of an episode clears ovr_now, with no condition on the recovery span that is open. -/
theorem exec_ovrEpisodeEnd_clears (s : State) (n : Fin 4) :
    ∃ t, exec (.ovrEpisodeEnd n) s = .next t ∧ t.flag (CNV_STATUS.ovr_now n) = false :=
  ⟨_, rfl, s.flag_set_zero _ (by decide : 5 + 1 ≤ 64)⟩

/-- Converter 0 samples, it is in an over-range episode, and the blocks made so far leave 7 samples of a recovery span open. -/
def unendedSpan : State :=
  ((State.reset.set (CNV_STATUS.state 0) 2).set (CNV_STATUS.ovr_now 0) 1).setConv 0 { CnvSt.reset with recovery := 7 }

theorem unendedSpan_ovrNow : unendedSpan.flag (CNV_STATUS.ovr_now 0) = true := by decide

theorem unendedSpan_recovery : (unendedSpan.conv 0).recovery = 7 := by simp [unendedSpan]

end State

/-- Refutes O18: its fourth clause has the end of an episode wait while a recovery span is open, and on `State.unendedSpan` it
clears ovr_now with 7 samples of the span open, for they may pass within the block that is being taken (R191). -/
theorem not_inputChangesOverRangeAndProtectionAct : ¬ Obligations.InputChangesOverRangeAndProtectionAct := by
  rintro ⟨-, -, -, hend, -⟩
  obtain ⟨-, hwaits⟩ := hend State.unendedSpan 0
  obtain ⟨t, ht, hclear⟩ := State.unendedSpan.exec_ovrEpisodeEnd_clears 0
  have hstays := hwaits (by simp [State.unendedSpan_recovery])
  obtain rfl : t = State.unendedSpan := Host.Outcome.next.inj (ht.symm.trans hstays)
  exact absurd (hclear.symm.trans State.unendedSpan_ovrNow) (by decide)

end Sys2Proof.Machine
end

section
/-! SUPPORT. A lock stores its band in the register of the hop entry that the acquisition came from (R213). The statement O20
does not bound that entry to the table of 16, and past the table its register is another one. -/

namespace Sys2Proof.Machine

namespace State

/-- The words of the converters and the sample PLL (R38). -/
def convWord (a : Nat) : Prop := 0x100000 ≤ a ∧ a < 0x118000

theorem cnvStatus_convWord {n : Nat} (hn : n < 4) (l : Loc) (ha : l.addr = (CNV_STATUS.reg n).addr) (hl : l.lo + l.width ≤ 32)
    (a : Nat) (h : l.covers a) : convWord a := by
  rw [covers_iff hl, ha] at h
  subst h
  simp only [convWord, CNV_STATUS.reg]
  omega

theorem reconverge_convWord (s : State) {n : Nat} (hn : n < 4) : s.wordsBut (s.reconverge n) convWord := by
  unfold reconverge
  split
  · exact wordsBut_refl _ _
  split
  · exact wordsBut_of_regs rfl
  split
  · exact wordsBut_of_regs rfl
  · exact wordsBut_trans (wordsBut_set (cnvStatus_convWord hn (CNV_STATUS.settling n) rfl (by decide : 10 + 1 ≤ 32))) (wordsBut_of_regs rfl)

theorem clkEnd_convWord (s : State) {n : Nat} (hn : n < 4) : s.wordsBut (s.clkEnd n) convWord := by
  have hclear : ∀ x, s.wordsBut ((s.set (CNV_STATUS.clk_invalid n) 0).setConv n x) convWord := fun _ =>
    wordsBut_trans (wordsBut_set (cnvStatus_convWord hn (CNV_STATUS.clk_invalid n) rfl (by decide : 11 + 1 ≤ 32))) (wordsBut_of_regs rfl)
  have hindex : ∀ (t : State) (v : Nat), t.wordsBut (if n = 0 then t.set SPLL_LOCK_INDEX.reg v else t) convWord := fun t v => by
    split
    · refine wordsBut_set fun a h => ?_
      simp only [Loc.covers, SPLL_LOCK_INDEX.reg] at h
      simp only [convWord]
      omega
    · exact wordsBut_refl _ _
  have hgaps : ∀ (t : State) (m : Nat), t.wordsBut (t.endGaps n m) convWord := fun _ _ => wordsBut_of_regs rfl
  unfold clkEnd
  dsimp only
  split
  · exact wordsBut_trans (wordsBut_trans (wordsBut_trans (hclear _) (hindex _ _)) (hgaps _ _)) (reconverge_convWord _ hn)
  · exact wordsBut_trans (wordsBut_trans (hclear _) (hindex _ _)) (hgaps _ _)

/-- After lock the inputs change words of the converters and the sample PLL only (R182, R211). -/
theorem lockInputs_convWord (s : State) {ns : List Nat} (h : ∀ n ∈ ns, n < 4) : s.wordsBut (s.lockInputs ns) convWord := by
  induction ns generalizing s with
  | nil => exact wordsBut_refl _ _
  | cons n ns ih =>
    obtain ⟨hn, hns⟩ := List.forall_mem_cons.1 h
    refine wordsBut_trans ?_ (ih _ hns)
    split
    · split
      · exact wordsBut_of_regs rfl
      · exact clkEnd_convWord s hn
    split
    · exact reconverge_convWord s hn
    · exact wordsBut_refl _ _

theorem port_withClocks (s : State) (x : ClkSt) (p : Port) : ({ s with clocks := x } : State).port p = s.port p := by
  cases p <;> rfl

/-- A lock marks the entry of its hop as learned, whatever its number, before it raises event 65. -/
theorem spllLocked_learns {s : State} (run : LockRun) {e : Nat} (h : s.clocks.hopEntry = some e) :
    ∃ u : State, s.spllLocked run = ((u.raise 65).lockInputs (List.range 4)).squelchShow ∧
      u.f (SPLL_HOP_BAND.learned e) = 1 ∧ ∀ p, u.port p = (s.convBegin (List.range 4)).port p := by
  unfold spllLocked
  rw [h]
  exact ⟨_, rfl, f_set_self _ _ _ (by decide : 7 + 1 ≤ 64), fun p => by simp only [set_port, port_withClocks]⟩

theorem exec_spllLock {s : State} {run : LockRun} (hu : s.up .conv = true) (ha : s.flag SPLL_STATUS.acquiring = true)
    (hc : s.spllCanLock run = true) : exec (.spllLock run) s = .next (s.spllLocked run) :=
  if_pos (by simp [hu, ha, hc])

/-- The number of an entry whose register would be the word that counts event 65 for CP_B. -/
def strayEntry : Nat := 0x7e4818

/-- Its learned bit is bit 7 of the count. -/
theorem le_count_of_learned {u : State} (h : u.f (SPLL_HOP_BAND.learned strayEntry) = 1) :
    128 ≤ u.f (EVT_CNT.count Port.b.idx 65) := by
  have hl : u.f (SPLL_HOP_BAND.learned strayEntry) = u.word 0x4034104 0 / 2 ^ 7 % 2 ^ 1 := rfl
  have hc : u.f (EVT_CNT.count Port.b.idx 65) = u.word 0x4034104 0 / 2 ^ 0 % 2 ^ 16 := rfl
  omega

/-- The sample PLL acquires with its reference there, for a hop to `strayEntry`; CP_B counts its events, and has counted none. -/
def strayHop : State :=
  { ((State.reset.set SPLL_STATUS.acquiring 1).set REF_STATUS.present 1) with
    dom := { State.reset.dom with conv := .on }
    portB := { PortSt.reset with evtReset := false }
    clocks := { ClkSt.reset with hopEntry := some strayEntry } }

/-- A phase error of 0, and band 0 found. -/
def steadyLock : LockRun := { startOk := false, found := 0, error := 0 }

theorem strayHop_count : strayHop.f (EVT_CNT.count Port.b.idx 65) = 0 := by decide

theorem strayHop_evtReset : ((strayHop.convBegin (List.range 4)).port .b).evtReset = false := by decide

/-- The lock counts event 65 on top of the learned bit. -/
theorem strayHop_counts_past_one : 1 < (strayHop.spllLocked steadyLock).f (EVT_CNT.count Port.b.idx 65) := by
  obtain ⟨u, hu, hlearned, hport⟩ := spllLocked_learns (s := strayHop) steadyLock rfl
  have hcount := raised_raise u 65 (by decide) .b (by rw [hport, strayHop_evtReset]) rfl
  have hstored := le_count_of_learned hlearned
  have hlater := ((u.raise 65).lockInputs_convWord (ns := List.range 4) fun _ => List.mem_range.1)
  have hsame : (strayHop.spllLocked steadyLock).f (EVT_CNT.count Port.b.idx 65) =
      (u.raise 65).f (EVT_CNT.count Port.b.idx 65) := by
    rw [hu]
    refine f_of_wordsBut (wordsBut_trans hlater (wordsBut_of_regs (by simp))) fun a hc ha => ?_
    rw [covers_iff (by decide)] at hc
    subst hc
    exact absurd ha (by unfold convWord; decide)
  omega

end State

/-- Refutes O20: its last clause has a lock count event 65 once more whatever entry the hop came from, and a lock for the entry
`State.strayEntry` stores its learned bit in the count itself. No write of SPLL_CTL gives an entry past the table (R213): the
clause lacks that bound. -/
theorem not_samplePllReacquires : ¬ Obligations.SamplePllReacquires := by
  rintro ⟨-, -, -, -, -, hlock⟩
  obtain ⟨hlocks, -⟩ := hlock State.strayHop State.steadyLock (by decide) (by decide)
  obtain ⟨t, ht, -, -, -, hraised, -⟩ := hlocks (by decide) (by decide)
  have hx := State.exec_spllLock (s := State.strayHop) (run := State.steadyLock) (by decide) (by decide) (by decide)
  obtain rfl : t = State.strayHop.spllLocked State.steadyLock := Host.Outcome.next.inj (ht.symm.trans hx)
  have hone := hraised .b (by decide) rfl
  rw [State.strayHop_count] at hone
  have hmore := State.strayHop_counts_past_one
  omega

end Sys2Proof.Machine
end

section
/-! SUPPORT. What a change of a zoom window and a write to a field leave of each other, and which fields the next sample of a path
rests on. -/

namespace Sys2Proof.Machine.State

namespace RegsAndPorts

variable {s t : State}

theorem ddc (h : RegsAndPorts s t) : t.ddc = s.ddc := (congrArg State.ddc h.eq).trans rfl

theorem fab (h : RegsAndPorts s t) : t.fab = s.fab := (congrArg State.fab h.eq).trans rfl

end RegsAndPorts

/-! ### Windows -/

@[simp] theorem setWin_win_self (s : State) (p w : Nat) (x : WinSt) : (s.setWin p w x).win p w = x := by
  unfold win setWin
  rw [setDdc_ddcOf_self]
  exact Tab.get_put_self _ _ _ _

@[simp] theorem set_win (s : State) (l : Loc) (v p w : Nat) : (s.set l v).win p w = s.win p w := by
  unfold win ddcOf
  rw [set_ddc]

theorem raise_win (s : State) (n p w : Nat) : (s.raise n).win p w = s.win p w := by
  unfold win ddcOf
  rw [(RegsAndPorts.raise s n).ddc]

theorem setWin_port (s : State) (p w : Nat) (x : WinSt) (q : Port) : (s.setWin p w x).port q = s.port q := by cases q <;> rfl

/-! ### Single registers -/

/-- A write to a field of a word leaves every other register alone. -/
theorem onlyFields_set_of_addr (s : State) {l m : Loc} (v : Nat) (hl : l.lo + l.width ≤ 32) (ha : l.addr = m.addr) :
    s.onlyFields (s.set l v) [m] :=
  onlyFields_covers (onlyFields_set s l v) fun a h => .inl (((covers_iff hl a).1 h).trans ha)

/-- Where one word may have changed, a field that does not take it in reads as before. -/
theorem f_of_onlyFields {s t : State} {l m : Loc} (h : s.onlyFields t [m]) (hm : m.lo + m.width ≤ 32)
    (hl : ¬ l.covers m.addr) : t.f l = s.f l :=
  f_of_wordsBut h fun a hc ⟨k, hk, hka⟩ => by
    rw [List.mem_singleton.1 hk, covers_iff hm] at hka
    exact hl (hka ▸ hc)

theorem f_bump_self (s : State) (l : Loc) (hl : l.lo + l.width ≤ 64) :
    (s.bump l).f l = min (2 ^ l.width - 1) (s.f l + 1) := by
  have hpos := Nat.two_pow_pos l.width
  rw [bump, addSat, f_set_self _ _ _ hl, Nat.mod_eq_of_lt (by omega)]

/-- The next sample of a path rests on its mode, its sequence number and its recorded blocks (R248, R319). -/
theorem nextSample_congr {s t : State} {p : Nat} (hm : t.f (modeLoc p) = s.f (modeLoc p))
    (hq : t.f (GLB_SEQ.reg p) = s.f (GLB_SEQ.reg p)) (hf : t.fab = s.fab) : t.nextSample p = s.nextSample p := by
  unfold nextSample mode path
  rw [hm, hq, hf]

end Sys2Proof.Machine.State
end

section
/-! SUPPORT. The bits of ZM_BANK, and requests for a cross-fade (R246). -/

namespace Sys2Proof.Machine

theorem bit_or_two_pow_self (v i : Nat) : bit (v ||| 2 ^ i) i = true := by
  rw [bit_eq_testBit, Nat.testBit_or, Nat.testBit_two_pow_self, Bool.or_true]

theorem bit_or_two_pow_ne {v i j : Nat} (h : i ≠ j) : bit (v ||| 2 ^ i) j = bit v j := by
  rw [bit_eq_testBit, bit_eq_testBit, Nat.testBit_or, Nat.testBit_two_pow_of_ne h, Bool.or_false]

namespace State

/-! ### The bits of ZM_BANK -/

/-- A bit of ZM_BANK: 0 is active, 1 fading, 3 pending, 4 pending_target (R258). -/
def zmBit (p w i : Nat) : Loc := ⟨(ZM_BANK.reg p w).addr, i, 1, 0⟩

section

variable (s : State) (p w : Nat) {i j : Nat}

theorem flag_set_zmBit_self (b : Bool) (hi : i < 32) : (s.set (zmBit p w i) (b2n b)).flag (zmBit p w i) = b := by
  rw [flag, f_set_self _ _ _ (by show i + 1 ≤ 64; omega)]
  cases b <;> rfl

theorem flag_set_zmBit_ne (v : Nat) (hi : i < 32) (hj : j < 32) (h : j ≠ i) :
    (s.set (zmBit p w i) v).flag (zmBit p w j) = s.flag (zmBit p w j) :=
  congrArg (· == 1) (f_set_beside s (zmBit p w i) (zmBit p w j) v rfl rfl (by show i + 1 ≤ 32; omega)
    (by show j + 1 ≤ 32; omega) (by show j + 1 ≤ i ∨ i + 1 ≤ j; omega))

theorem onlyFields_set_zmBit (v : Nat) (hi : i < 32) : s.onlyFields (s.set (zmBit p w i) v) [ZM_BANK.reg p w] :=
  onlyFields_set_of_addr s v (by show i + 1 ≤ 32; omega) rfl

/-- The count of dropped requests stands beside the bits. -/
theorem flag_bump_dropped (hi : i < 8) : (s.bump (ZM_BANK.dropped p w)).flag (zmBit p w i) = s.flag (zmBit p w i) :=
  congrArg (· == 1) (f_set_beside s (ZM_BANK.dropped p w) (zmBit p w i) _ rfl rfl (by show 8 + 8 ≤ 32; omega)
    (by show i + 1 ≤ 32; omega) (.inl (by show i + 1 ≤ 8; omega)))

theorem onlyFields_bump_dropped : s.onlyFields (s.bump (ZM_BANK.dropped p w)) [ZM_BANK.reg p w] :=
  onlyFields_set_of_addr s _ (by show 8 + 8 ≤ 32; omega) rfl

variable {p w}

theorem zmBank_apart (hp : p < 4) (hw : w < 8) {a : Nat} (h : ∃ l ∈ [ZM_BANK.reg p w], l.covers a) :
    ¬ eventWord a ∧ a ≠ GLB_ID.variant.addr := by
  obtain ⟨l, hl, hc⟩ := h
  rw [List.mem_singleton.1 hl, covers_iff (by show 0 + 32 ≤ 32; omega)] at hc
  rw [hc]
  simp only [eventWord, ZM_BANK.reg, GLB_ID.variant]
  omega

/-- An event leaves ZM_BANK alone. -/
theorem flag_raise_zmBit (hp : p < 4) (hw : w < 8) {n : Nat} (hn : n < 1024) (hi : i < 32) :
    (s.raise n).flag (zmBit p w i) = s.flag (zmBit p w i) := by
  rw [flag, f_raise s n _ hn fun a hc => ?_]
  · rfl
  · rw [(covers_iff (by show i + 1 ≤ 32; omega) a).1 hc]
    exact (zmBank_apart hp hw ⟨_, List.mem_singleton_self _, .inl rfl⟩).1

end

/-! ### What becomes of a request (R246) -/

section

variable (s : State) {p w : Nat} (b : Bool) (len : Nat)

/-- A request while another waits or fades is held pending. -/
theorem fadeRequest_held (h : (s.win p w).fade.isSome = true ∨ (s.win p w).want.isSome = true) :
    s.fadeRequest p w b len = (((s.setWin p w { s.win p w with pending := some (b, len) }).set (ZM_BANK.pending p w) 1).set
      (ZM_BANK.pending_target p w) (b2n b)) := if_pos (by simpa using h)

/-- A request for the bank in force is dropped and counted. -/
theorem fadeRequest_dropped (hf : (s.win p w).fade = none) (hw : (s.win p w).want = none)
    (ha : s.flag (ZM_BANK.active p w) = b) : s.fadeRequest p w b len = s.bump (ZM_BANK.dropped p w) := by
  unfold fadeRequest
  simp [hf, hw, ha]

/-- A request for the other bank waits for the next block. -/
theorem fadeRequest_waits (hf : (s.win p w).fade = none) (hw : (s.win p w).want = none)
    (ha : s.flag (ZM_BANK.active p w) ≠ b) :
    s.fadeRequest p w b len = s.setWin p w { s.win p w with want := some (b, len, s.nextSample p) } := by
  unfold fadeRequest
  simp [hf, hw, ha]

theorem fadeRequest_held_spec (h : (s.win p w).fade.isSome = true ∨ (s.win p w).want.isSome = true) :
    (s.fadeRequest p w b len).bus = s.bus ∧ (s.fadeRequest p w b len).flag (ZM_BANK.pending p w) = true ∧
      (s.fadeRequest p w b len).flag (ZM_BANK.pending_target p w) = b ∧
      s.onlyFields (s.fadeRequest p w b len) [ZM_BANK.reg p w] ∧
      (s.fadeRequest p w b len).win p w = { s.win p w with pending := some (b, len) } := by
  rw [fadeRequest_held s b len h]
  refine ⟨by simp [setWin], ?_, flag_set_zmBit_self _ p w (i := 4) b (by decide), ?_, by simp⟩
  · exact (flag_set_zmBit_ne _ p w (i := 4) (j := 3) _ (by decide) (by decide) (by decide)).trans
      (flag_set_zmBit_self _ p w (i := 3) true (by decide))
  · exact wordsBut_trans (wordsBut_of_regs rfl) (wordsBut_trans
      (onlyFields_set_zmBit _ p w (i := 3) _ (by decide)) (onlyFields_set_zmBit _ p w (i := 4) _ (by decide)))

/-- Whatever becomes of a request, it changes no other register, and neither starts nor ends a fade. -/
theorem fadeRequest_frame :
    s.onlyFields (s.fadeRequest p w b len) [ZM_BANK.reg p w] ∧
      (s.fadeRequest p w b len).flag (ZM_BANK.fading p w) = s.flag (ZM_BANK.fading p w) ∧
      ((s.fadeRequest p w b len).win p w).fade = (s.win p w).fade := by
  by_cases h : (s.win p w).fade.isSome = true ∨ (s.win p w).want.isSome = true
  · obtain ⟨-, -, -, ho, hwin⟩ := fadeRequest_held_spec s b len h
    refine ⟨ho, ?_, by rw [hwin]⟩
    rw [fadeRequest_held s b len h]
    exact (flag_set_zmBit_ne _ p w (i := 4) (j := 1) _ (by decide) (by decide) (by decide)).trans
      (flag_set_zmBit_ne _ p w (i := 3) (j := 1) _ (by decide) (by decide) (by decide))
  · obtain ⟨hf, hw⟩ : (s.win p w).fade = none ∧ (s.win p w).want = none := by simpa using h
    by_cases ha : s.flag (ZM_BANK.active p w) = b
    · rw [fadeRequest_dropped s b len hf hw ha]
      exact ⟨onlyFields_bump_dropped s p w, flag_bump_dropped s p w (i := 1) (by decide), by rw [bump, addSat, set_win]⟩
    · rw [fadeRequest_waits s b len hf hw ha]
      exact ⟨wordsBut_of_regs rfl, rfl, by rw [setWin_win_self]⟩

end

/-- A write of ZM_SWAP that reaches a window in use is a request. -/
theorem exec_zmSwap {s : State} {p : Port} {path : Fin 4} {w : Fin 8} {v : Word}
    (ha : s.accepts p (ZM_SWAP.reg path w).addr none) (hu : s.winUsed path w = true) :
    exec (.zmSwap p path w v) s =
      .next ((s.complete .ok).fadeRequest path w (bit v.toNat 30) (v.toNat % 2 ^ 16 + 1)) := by
  have hlow : (v.toNat ||| 2 ^ 31) % 2 ^ 16 = v.toNat % 2 ^ 16 := by
    rw [Nat.or_mod_two_pow, show 2 ^ 31 % 2 ^ 16 = 0 by decide, Nat.or_zero]
  have hu' : (s.complete .ok).winUsed path w = true := hu
  refine congrArg Host.Outcome.next ((hubWrite_accepts _ ha).trans ?_)
  rw [zmSwapWrite, bit_or_two_pow_self, bit_or_two_pow_ne (by decide : 31 ≠ 30), hlow, hu']
  rfl

end State

end Sys2Proof.Machine
end

section
/-! SUPPORT. The start and the end of a cross-fade (R246, R247). -/

namespace Sys2Proof.Machine.State

/-! ### The start -/

/-- The state once ZM_BANK and ZM_FADE_START show a fade that an output has begun. -/
def fadeShown (s : State) (p w ix : Nat) (f : Fade) : State :=
  (((s.setWin p w { s.win p w with began := none }).set (ZM_BANK.active p w) (b2n f.target)).set (ZM_BANK.fading p w) 1).set
    (ZM_FADE_START.reg p w) ix

theorem exec_zmFadeStart {s : State} {path : Fin 4} {w : Fin 8} {ix : Nat} {f : Fade}
    (hf : (s.win path w).fade = some f) (hb : (s.win path w).began = some ix) (k : Nat) :
    exec (.zmFadeStart path w k) s = .next (if k = ix then s.fadeShown path w ix f else s) := by
  show execZmFadeStart path w k s = _
  unfold execZmFadeStart
  dsimp only
  rw [hf, hb]
  by_cases h : k = ix
  · subst h
    simp [fadeShown, hf]
  · simp [h]

theorem flag_set_fadeStart (s : State) (p w v i : Nat) :
    (s.set (ZM_FADE_START.reg p w) v).flag (zmBit p w i) = s.flag (zmBit p w i) :=
  congrArg (· == 1) (f_set_ne s _ _ v (by simp only [wordsApart, zmBit, ZM_BANK.reg, ZM_FADE_START.reg]; omega))

theorem fadeShown_onlyFields (s : State) (p w ix : Nat) (f : Fade) :
    s.onlyFields (s.fadeShown p w ix f) [ZM_BANK.reg p w, ZM_FADE_START.reg p w] := by
  have hbit : ∀ (t : State) (i v : Nat), i < 32 →
      t.onlyFields (t.set (zmBit p w i) v) [ZM_BANK.reg p w, ZM_FADE_START.reg p w] := fun t i v hi =>
    wordsBut_mono (onlyFields_set_zmBit t p w v hi) fun _ ⟨m, hm, hc⟩ => ⟨m, by simp [List.mem_singleton.1 hm], hc⟩
  exact wordsBut_trans (wordsBut_of_regs rfl) (wordsBut_trans (hbit _ 0 _ (by decide)) (wordsBut_trans (hbit _ 1 _ (by decide))
    (wordsBut_set fun _ hc => ⟨ZM_FADE_START.reg p w, by simp, hc⟩)))

theorem fadeShown_spec (s : State) {p w ix : Nat} {f : Fade} (hf : (s.win p w).fade = some f) (hix : ix < 2 ^ 64) :
    (s.fadeShown p w ix f).flag (ZM_BANK.active p w) = f.target ∧ (s.fadeShown p w ix f).flag (ZM_BANK.fading p w) = true ∧
      (s.fadeShown p w ix f).f (ZM_FADE_START.reg p w) = ix ∧ ((s.fadeShown p w ix f).win p w).began = none ∧
      ((s.fadeShown p w ix f).win p w).fade = some f ∧
      s.onlyFields (s.fadeShown p w ix f) [ZM_BANK.reg p w, ZM_FADE_START.reg p w] := by
  refine ⟨?_, ?_, ?_, by simp [fadeShown], by simp [fadeShown, hf], fadeShown_onlyFields s p w ix f⟩
  · exact (flag_set_fadeStart _ p w ix 0).trans
      ((flag_set_zmBit_ne _ p w (i := 1) (j := 0) _ (by decide) (by decide) (by decide)).trans
        (flag_set_zmBit_self _ p w (i := 0) _ (by decide)))
  · exact (flag_set_fadeStart _ p w ix 1).trans (flag_set_zmBit_self _ p w (i := 1) true (by decide))
  · rw [fadeShown, f_set_self _ _ _ (by show 0 + 64 ≤ 64; omega)]
    exact Nat.mod_eq_of_lt hix

/-! ### The end -/

/-- The window with its fade over and no request held, and ZM_BANK with it. -/
def fadeCleared (s : State) (p w : Nat) : State :=
  ((s.setWin p w { s.win p w with fade := none, pending := none }).set (ZM_BANK.fading p w) 0).set (ZM_BANK.pending p w) 0

/-- The state once the end of a fade has raised its event. -/
def fadeOver (s : State) (p w : Nat) : State := (s.fadeCleared p w).raise (128 + p)

/-- A request that was held counts as newly written. -/
def heldTaken (s : State) (p w : Nat) : Option (Bool × Nat) → State
  | none => s
  | some (b, len) => s.fadeRequest p w b len

theorem exec_zmFadeDone_waits {s : State} {path : Fin 4} {w : Fin 8} {f : Fade} (hf : (s.win path w).fade = some f)
    (h : f.done < f.len ∨ (s.win path w).began.isSome = true) : exec (.zmFadeDone path w) s = .next s := by
  show execZmFadeDone path w s = _
  unfold execZmFadeDone
  dsimp only
  rw [hf]
  exact if_pos (by simpa using h)

theorem exec_zmFadeDone {s : State} {path : Fin 4} {w : Fin 8} {f : Fade} (hf : (s.win path w).fade = some f)
    (hb : (s.win path w).began = none) (hd : f.len ≤ f.done) :
    exec (.zmFadeDone path w) s = .next ((s.fadeOver path w).heldTaken path w (s.win path w).pending) := by
  show execZmFadeDone path w s = _
  unfold execZmFadeDone
  dsimp only
  rw [hf]
  refine (if_neg (by simpa [hb] using hd)).trans ?_
  cases (s.win path w).pending <;> rfl

section

variable (s : State) (path : Fin 4) (w : Fin 8)

theorem fadeCleared_onlyFields : s.onlyFields (s.fadeCleared path w) [ZM_BANK.reg path w] :=
  wordsBut_trans (wordsBut_of_regs rfl) (wordsBut_trans
    (onlyFields_set_zmBit _ _ _ (i := 1) _ (by decide)) (onlyFields_set_zmBit _ _ _ (i := 3) _ (by decide)))

theorem fadeOver_win : (s.fadeOver path w).win path w = { s.win path w with fade := none, pending := none } := by
  rw [fadeOver, raise_win]
  simp [fadeCleared]

theorem fadeOver_fading : (s.fadeOver path w).flag (ZM_BANK.fading path w) = false :=
  (flag_raise_zmBit _ path.isLt w.isLt (i := 1) (by omega) (by decide)).trans
    ((flag_set_zmBit_ne _ _ _ (i := 3) (j := 1) _ (by decide) (by decide) (by decide)).trans
      (flag_set_zmBit_self _ _ _ (i := 1) false (by decide)))

theorem fadeOver_active : (s.fadeOver path w).flag (ZM_BANK.active path w) = s.flag (ZM_BANK.active path w) :=
  (flag_raise_zmBit _ path.isLt w.isLt (i := 0) (by omega) (by decide)).trans
    ((flag_set_zmBit_ne _ _ _ (i := 3) (j := 0) _ (by decide) (by decide) (by decide)).trans
      (flag_set_zmBit_ne _ _ _ (i := 1) (j := 0) _ (by decide) (by decide) (by decide)))

theorem fadeOver_raised : s.raised (128 + path) (s.fadeOver path w) :=
  raised_after (by omega) (fadeCleared_onlyFields s path w) (fun _ => zmBank_apart path.isLt w.isLt)
    (fun q => by rw [fadeCleared, set_port, set_port, setWin_port]) (raised_raise _ _ (by omega))

/-- The end of a fade moves nothing that the next sample of the path rests on. -/
theorem nextSample_fadeOver : (s.fadeOver path w).nextSample path = s.nextSample path := by
  have hp := path.isLt
  have hfield : ∀ l : Loc, l.addr < 0x10000 → (s.fadeOver path w).f l = s.f l := fun l hl => by
    refine (f_raise _ _ _ (by omega) fun a hc => ?_).trans
      (f_of_onlyFields (fadeCleared_onlyFields s path w) (by show 0 + 32 ≤ 32; omega) ?_)
    · simp only [Loc.covers, eventWord] at hc ⊢
      omega
    · simp only [Loc.covers, ZM_BANK.reg]
      omega
  refine nextSample_congr (hfield _ (by show 0x10 < 0x10000; omega))
    (hfield _ (by show 0x228 + 0x20 * path.val < 0x10000; omega)) ((RegsAndPorts.raise _ _).fab.trans ?_)
  simp [fadeCleared, setWin]

/-- Whatever becomes of a request that was held, it changes no other register, and neither starts nor ends a fade. -/
theorem heldTaken_frame (o : Option (Bool × Nat)) :
    s.onlyFields (s.heldTaken path w o) [ZM_BANK.reg path w] ∧
      (s.heldTaken path w o).flag (ZM_BANK.fading path w) = s.flag (ZM_BANK.fading path w) ∧
      ((s.heldTaken path w o).win path w).fade = (s.win path w).fade := by
  cases o with
  | none => exact ⟨wordsBut_refl _ _, rfl, rfl⟩
  | some x => exact fadeRequest_frame s x.1 x.2

/-- The end of a fade (R247), whatever becomes of a request that was held. -/
theorem fadeOver_heldTaken_spec (o : Option (Bool × Nat)) :
    ((s.fadeOver path w).heldTaken path w o).flag (ZM_BANK.fading path w) = false ∧
      (((s.fadeOver path w).heldTaken path w o).win path w).fade = none ∧
      s.raised (128 + path) ((s.fadeOver path w).heldTaken path w o) ∧
      s.onlyFieldsEvents ((s.fadeOver path w).heldTaken path w o) [ZM_BANK.reg path w] := by
  obtain ⟨ho, hfading, hfade⟩ := heldTaken_frame (s.fadeOver path w) path w o
  refine ⟨hfading.trans (fadeOver_fading s path w), ?_, ?_, ?_⟩
  · rw [hfade, fadeOver_win]
  · exact raised_before (by omega) (fadeOver_raised s path w) ho fun _ h => (zmBank_apart path.isLt w.isLt h).1
  · exact wordsBut_trans (onlyFieldsEvents_raise (fadeCleared_onlyFields s path w) (by omega)) (wordsBut_mono ho fun _ => .inr)

/-- A request for the other bank that was held waits for the next block from the end of the fade on. -/
theorem fadeOver_heldTaken_waits {b : Bool} {len : Nat} (hw : (s.win path w).want = none)
    (ha : s.flag (ZM_BANK.active path w) ≠ b) :
    (((s.fadeOver path w).heldTaken path w (some (b, len))).win path w).want = some (b, len, s.nextSample path) := by
  rw [heldTaken, fadeRequest_waits, setWin_win_self, nextSample_fadeOver]
  · rw [fadeOver_win]
  · rw [fadeOver_win, hw]
  · rwa [fadeOver_active]

end

end Sys2Proof.Machine.State
end

section
/-! SUPPORT. Accesses to ZM_COEF_DATA (R245), and O23 from the rules of the zoom banks. -/

namespace Sys2Proof.Machine

/-- A window with a coefficient of bank B, or of bank A, written. -/
def WinSt.withCoef (x : WinSt) (b : Bool) (i : Nat) (v : BitVec 18) : WinSt :=
  if b then { x with bankB := x.bankB.put 0 i v } else { x with bankA := x.bankA.put 0 i v }

theorem WinSt.get_withCoef (x : WinSt) (b : Bool) (i : Nat) (v : BitVec 18) :
    Tab.get 0 (if b then (x.withCoef b i v).bankB else (x.withCoef b i v).bankA) i = v := by
  cases b <;> exact Tab.get_put_self _ _ _ _

namespace State

/-- The state with the index of ZM_COEF_ADDR one further on. -/
def coefNext (s : State) (p w : Nat) : State := s.set (ZM_COEF_ADDR.index p w) (s.f (ZM_COEF_ADDR.index p w) + 1)

theorem coefNext_index (s : State) (p w : Nat) :
    (s.coefNext p w).f (ZM_COEF_ADDR.index p w) = (s.f (ZM_COEF_ADDR.index p w) + 1) % 2 ^ 15 :=
  f_set_self _ _ _ (by show 0 + 15 ≤ 64; omega)

theorem coefNext_onlyFields (s : State) (p w : Nat) : s.onlyFields (s.coefNext p w) [ZM_COEF_ADDR.reg p w] :=
  onlyFields_set_of_addr s _ (by show 0 + 15 ≤ 32; omega) rfl

/-- A write to the inactive bank while no fade runs is accepted. -/
theorem coefWrite_accepted {s : State} {p w : Nat} (v : Nat) (hf : (s.win p w).fade = none)
    (ha : s.flag (ZM_BANK.active p w) ≠ s.flag (ZM_COEF_ADDR.bank p w)) :
    s.coefWrite p w v = (s.coefNext p w).setWin p w ((s.win p w).withCoef (s.flag (ZM_COEF_ADDR.bank p w))
      (s.f (ZM_COEF_ADDR.index p w)) (BitVec.ofNat 18 v)) := by
  have hactive : (s.coefNext p w).flag (ZM_BANK.active p w) = s.flag (ZM_BANK.active p w) := by
    rw [flag, f_of_onlyFields (coefNext_onlyFields s p w) (by show 0 + 32 ≤ 32; omega)]
    · rfl
    · rw [covers_iff (by show 0 + 1 ≤ 32; omega)]
      simp only [ZM_COEF_ADDR.reg, ZM_BANK.active]
      omega
  refine if_neg ?_
  show ¬ ((s.win p w).fade.isSome || (s.coefNext p w).flag (ZM_BANK.active p w) == s.flag (ZM_COEF_ADDR.bank p w)) = true
  simpa [hf, hactive] using ha

theorem exec_zmCoefAccess_write {s : State} {p : Port} {path : Fin 4} {w : Fin 8} (v : Word)
    (ha : s.accepts p (ZM_COEF_DATA.reg path w).addr none) (hu : s.winUsed path w = true) :
    exec (.zmCoefAccess p path w (some v)) s = .next ((s.complete .ok).coefWrite path w v.toNat) :=
  congrArg Host.Outcome.next ((hubWrite_accepts _ ha).trans (if_pos hu))

theorem exec_zmCoefAccess_read {s : State} (p : Port) {path : Fin 4} {w : Fin 8}
    (hr : s.reachable (ZM_COEF_DATA.reg path w).addr = true) (hu : s.winUsed path w = true) :
    exec (.zmCoefAccess p path w none) s = .next (s.coefRead path w) := if_pos (by simp [hr, hu])

theorem coefRead_bus {s : State} {p w : Nat} (hb : s.flag (ZM_COEF_ADDR.bank p w) = false) :
    (s.coefRead p w).bus =
      .words [((s.win p w).bankA.get 0 (s.f (ZM_COEF_ADDR.index p w))).zeroExtend 32] := by
  unfold coefRead
  rw [hb]
  exact congrArg (fun v => Completion.words [v]) (BitVec.ofNat_toNat 32 (Tab.get 0 (s.win p w).bankA _))

end State

open State

/-- Settles O23: a request by what becomes of it, a fade by its start and its end, a coefficient by the bank that takes it. -/
theorem zoomBanksFadeAndTakeCoefficients : Obligations.ZoomBanksFadeAndTakeCoefficients := by
  refine ⟨fun s p path w v ha hu hf hw hb => ?_, fun s p path w v ha hu => ⟨fun h => ?_, fun hf hw hb => ?_⟩,
    fun s path w ix f hf hb hix => ⟨?_, fun k hk => ?_, exec_zmFadeDone_waits hf (.inr (by rw [hb]; rfl))⟩,
    fun s path w f hf hb => ⟨fun hd => exec_zmFadeDone_waits hf (.inl hd), fun hd => ?_⟩,
    fun s p path w v ha hu hf hb => ?_, fun s p path w hr hu hb => ?_⟩
  · refine ⟨_, exec_zmSwap ha hu, ?_⟩
    rw [fadeRequest_waits (s.complete .ok) _ _ hf hw hb]
    exact ⟨rfl, rfl, by rw [setWin_win_self]; rfl⟩
  · obtain ⟨hbus, hpending, htarget, ho, hwin⟩ :=
      fadeRequest_held_spec (s.complete .ok) (bit v.toNat 30) (v.toNat % 2 ^ 16 + 1) h
    exact ⟨_, exec_zmSwap ha hu, hbus, hpending, htarget, ho, by rw [hwin]⟩
  · refine ⟨_, exec_zmSwap ha hu, ?_⟩
    rw [fadeRequest_dropped (s.complete .ok) _ _ hf hw hb]
    exact ⟨set_bus _ _ _, set_ddc _ _ _, f_bump_self _ _ (by show 8 + 8 ≤ 64; omega),
      onlyFields_bump_dropped (s.complete .ok) path w⟩
  · exact ⟨_, (exec_zmFadeStart hf hb ix).trans (by rw [if_pos rfl]), fadeShown_spec s hf hix⟩
  · rw [exec_zmFadeStart hf hb, if_neg hk]
  · obtain ⟨hfading, hfade, hraised, ho⟩ := fadeOver_heldTaken_spec s path w (s.win path w).pending
    refine ⟨_, exec_zmFadeDone hf hb hd, hfading, hfade, hraised, ho, fun b len hp hw ha => ?_⟩
    rw [hp]
    exact fadeOver_heldTaken_waits s path w hw ha
  · refine ⟨_, exec_zmCoefAccess_write v ha hu, ?_⟩
    rw [coefWrite_accepted (s := s.complete .ok) _ hf hb]
    refine ⟨set_bus _ _ _, ?_, coefNext_index (s.complete .ok) path w, coefNext_onlyFields (s.complete .ok) path w⟩
    rw [setWin_win_self]
    exact WinSt.get_withCoef _ _ _ _
  · exact ⟨_, exec_zmCoefAccess_read p hr hu, coefRead_bus hb, coefNext_index s path w, coefNext_onlyFields s path w⟩

end Sys2Proof.Machine
end

section
/-! SUPPORT. What the delivery of a product leaves alone (R128, R137, R139): the registers but GLB_GAP_OPEN, the counts of the
events but that of an opened gap, and the products of the paths. -/

namespace Sys2Proof.Machine

/-- A field lies outside the registers `ls` and the event blocks. -/
def Loc.clearOf (l : Loc) (ls : List Loc) : Prop := ∀ a, l.covers a → ¬ eventWord a ∧ ∀ m ∈ ls, ¬ m.covers a

/-- The register of a field lies in the block of the transforms. -/
def Loc.inXf (l : Loc) : Prop := 0x140000 ≤ l.addr ∧ l.addr + 4 < 0x180000

/-- A register of the transforms lies outside GLB_GAP_OPEN. -/
theorem Loc.inXf.clearOf_gapOpen {l : Loc} (h : l.inXf) {p : Nat} (hp : p < 4) : l.clearOf [GLB_GAP_OPEN.reg p] := fun a hc => by
  simp only [Loc.inXf, Loc.covers, GLB_GAP_OPEN.reg, eventWord, List.mem_singleton, forall_eq] at *
  omega

namespace State

/-- Register words move in the registers `ls` and the event blocks alone, no event but one of `es` is counted, and what the
paths have of their products stays. -/
structure MovesOnly (ls : List Loc) (es : List Nat) (s t : State) : Prop where
  words : s.onlyFieldsEvents t ls
  counted : ∀ {n : Nat} {u : State}, n < 1024 → n ∉ es → t.raised n u → s.raised n u
  xf : t.xf = s.xf

theorem raise_xf (s : State) (n : Nat) : (s.raise n).xf = s.xf :=
  (congrArg State.xf (RegsAndPorts.raise s n).eq).trans rfl

theorem f_addWrap_self (s : State) (l : Loc) (n : Nat) (h : l.lo + l.width ≤ 64) :
    (s.addWrap l n).f l = (s.f l + n) % 2 ^ l.width :=
  (f_set_self _ _ _ h).trans (Nat.mod_mod _ _)

/-- An event leaves the counts of the other events alone. -/
theorem count_raise_ne (s : State) {m n : Nat} (hm : m < 1024) (hn : n < 1024) (h : m ≠ n) (q : Port) :
    (s.raise m).f (EVT_CNT.count q.idx n) = s.f (EVT_CNT.count q.idx n) := by
  unfold raise
  split
  · rfl
  · exact (f_raiseAt_other _ _ _ _ _ hm hn (.inr h)).trans (f_raiseAt_other _ _ _ _ _ hm hn (.inr h))

/-- An event leaves the variant, and with it the absent units, as they are. -/
theorem eventAbsent_raise (s : State) {m : Nat} (hm : m < 1024) (n : Nat) : (s.raise m).eventAbsent n = s.eventAbsent n := by
  have hv : (s.raise m).variant = s.variant := f_raise s m _ hm fun a hc => by
    rw [(covers_iff (by decide) a).1 hc]
    unfold eventWord
    decide
  unfold eventAbsent pathPresent kpPresent displayPresent
  rw [hv]

namespace MovesOnly

variable {ls : List Loc} {es : List Nat} {s t u : State}

theorem refl (s : State) : MovesOnly ls es s s := ⟨wordsBut_refl _ _, fun _ _ h => h, rfl⟩

theorem trans (h : MovesOnly ls es s t) (k : MovesOnly ls es t u) : MovesOnly ls es s u :=
  ⟨wordsBut_trans h.words k.words, fun hn he hr => h.counted hn he (k.counted hn he hr), k.xf.trans h.xf⟩

/-- A change outside the register words, the ports and the products. -/
theorem aside (hr : t.regs = s.regs) (hp : ∀ q, t.port q = s.port q) (hx : t.xf = s.xf) : MovesOnly ls es s t :=
  ⟨wordsBut_of_regs hr, fun hn _ h => raised_after (P := fun _ => False) hn (wordsBut_of_regs hr) (fun _ => False.elim)
    (fun q => congrArg PortSt.evtReset (hp q)) h, hx⟩

theorem setPath (p : Nat) (x : PathSt) : MovesOnly ls es s (s.setPath p x) := aside rfl (fun q => by cases q <;> rfl) rfl

theorem setDdc (p : Nat) (x : DdcSt) : MovesOnly ls es s (s.setDdc p x) := aside rfl (fun q => by cases q <;> rfl) rfl

theorem setCond (c : Nat) (x : CondSt) : MovesOnly ls es s (s.setCond c x) := aside rfl (fun q => by cases q <;> rfl) rfl

/-- A write to a field of a register of `ls`, which holds neither event words nor the variant. -/
theorem set {l m : Loc} {v : Nat} (hm : m ∈ ls) (hc : ∀ a, l.covers a → m.covers a)
    (ha : ∀ a, m.covers a → ¬ eventWord a ∧ a ≠ GLB_ID.variant.addr) : MovesOnly ls es s (s.set l v) :=
  ⟨wordsBut_set fun a h => .inr ⟨m, hm, hc a h⟩,
    fun hn _ hr => raised_after hn (wordsBut_set fun _ => id) (fun a h => ha a (hc a h)) (fun _ => by rw [set_port]) hr,
    set_xf _ _ _⟩

theorem raise {m : Nat} (hm : m < 1024) (he : m ∈ es) : MovesOnly ls es s (s.raise m) where
  words := wordsBut_raise hm fun _ => .inl
  counted {n u} hn hne hr q hq ha :=
    (hr q ((raise_evtReset s q m).trans hq) ((eventAbsent_raise s hm n).trans ha)).trans
      (by rw [count_raise_ne s hm hn (fun h => hne (h ▸ he))])
  xf := raise_xf s m

theorem ite {c : Prop} [Decidable c] (ht : MovesOnly ls es s t) (hu : MovesOnly ls es s u) :
    MovesOnly ls es s (if c then t else u) := by
  split
  · exact ht
  · exact hu

theorem mono {ls' : List Loc} {es' : List Nat} (h : MovesOnly ls es s t) (hl : ls ⊆ ls') (he : es ⊆ es') :
    MovesOnly ls' es' s t :=
  ⟨wordsBut_mono h.words fun _ => .imp_right fun ⟨m, hm, hc⟩ => ⟨m, hl hm, hc⟩,
    fun hn hne hr => h.counted hn (fun hm => hne (he hm)) hr, h.xf⟩

/-- A write to a field of a register of the transform block. -/
theorem setXfField {l m : Loc} {v : Nat} (hm : m ∈ ls) (hc : ∀ a, l.covers a → m.covers a)
    (hb : m.inXf) : MovesOnly ls es s (s.set l v) :=
  set hm hc fun a ha => by
    simp only [Loc.inXf, Loc.covers, eventWord, GLB_ID.variant] at *
    omega

theorem addWrap {l : Loc} {n : Nat} (hl : l ∈ ls) (hb : l.inXf) : MovesOnly ls es s (s.addWrap l n) :=
  setXfField hl (fun _ => id) hb

/-- A field that lies outside the registers `ls` and the event blocks reads as before. -/
theorem f_eq (h : MovesOnly ls es s t) {l : Loc} (hl : l.clearOf ls) : t.f l = s.f l :=
  f_of_wordsBut h.words fun a hc hP => hP.elim (hl a hc).1 fun ⟨m, hm, ha⟩ => (hl a hc).2 m hm ha

/-- A counter that goes up once between moves that leave it alone. -/
theorem f_counted {l : Loc} {es' : List Nat} (h : MovesOnly ls es s t) (k : MovesOnly ls es' (t.addWrap l 1) u)
    (hw : l.lo + l.width ≤ 64) (hl : l.clearOf ls) : u.f l = (s.f l + 1) % 2 ^ l.width := by
  rw [k.f_eq hl, f_addWrap_self _ _ _ hw, h.f_eq hl]

theorem xfOf (h : MovesOnly ls es s t) (p : Nat) : t.xfOf p = s.xfOf p := by
  unfold State.xfOf
  rw [h.xf]

theorem dueTo (cs : List Nat) (ds : Nat → List EvalDue) : MovesOnly ls es s (s.dueTo cs ds) := by
  induction cs generalizing s with
  | nil => exact refl s
  | cons c cs ih => exact (setCond c _).trans ih

theorem touch (group minTicks : Nat) (content : State → List (Nat × Nat)) :
    MovesOnly ls es s (s.touch group minTicks content) := by
  unfold State.touch
  dsimp only
  split <;> exact aside rfl (fun q => by cases q <;> rfl) rfl

/-! ### A product on its way to the reorder window -/

section

variable {p : Nat} (hp : p < 4)
include hp

/-- GLB_GAP_OPEN shows the gaps of a path (R167). -/
theorem gapShow : MovesOnly [GLB_GAP_OPEN.reg p] es s (s.gapShow p) := by
  have hset : ∀ (t : State) (l : Loc) (v : Nat), l.lo + l.width ≤ 32 → l.addr = (GLB_GAP_OPEN.reg p).addr →
      MovesOnly [GLB_GAP_OPEN.reg p] es t (t.set l v) := fun t l v hl ha =>
    .set (List.mem_singleton_self _) (fun a hc => .inl (((covers_iff hl a).1 hc).trans ha)) fun a hc => by
      rw [(covers_iff (by show 0 + 32 ≤ 32; omega) a).1 hc]
      simp only [eventWord, GLB_GAP_OPEN.reg, GLB_ID.variant]
      omega
  unfold State.gapShow
  split
  · exact hset _ (GLB_GAP_OPEN.reg p) _ (by show 0 + 32 ≤ 32; omega) rfl
  · exact ((hset _ (GLB_GAP_OPEN.open_ p) _ (by show 8 + 1 ≤ 32; omega) rfl).trans
      (hset _ (GLB_GAP_OPEN.reasons p) _ (by show 16 + 16 ≤ 32; omega) rfl)).trans
      (hset _ (GLB_GAP_OPEN.scope p) _ (by show 0 + 2 ≤ 32; omega) rfl)

/-- A gap opens with event 34, where it stands alone (R162). -/
theorem openGap (g : Gap) : MovesOnly [GLB_GAP_OPEN.reg p] [34] s (s.openGap p g) := by
  have hshow : ∀ x : PathSt, MovesOnly [GLB_GAP_OPEN.reg p] [34] s ((s.setPath p x).gapShow p) := fun x =>
    (setPath p x).trans (gapShow hp)
  unfold State.openGap
  split
  · exact refl s
  · extract_lets x replay g now t shown
    exact ite (hshow _) ((hshow _).trans (raise (by decide) (by decide)))

theorem slotPut (last key : Nat) (x : Parcel) : MovesOnly [GLB_GAP_OPEN.reg p] [34] s (s.slotPut p last key x) := by
  unfold State.slotPut
  exact ite ((setPath p _).trans (openGap hp _)) (setPath p _)

theorem deliver (last key : Nat) (x : Parcel) : MovesOnly [GLB_GAP_OPEN.reg p] [34] s (s.deliver p last key x) := by
  unfold State.deliver
  exact ite (setPath p _) (ite (setPath p _) (slotPut hp last key x))

theorem deliverAll (last key : Nat) (xs : List Parcel) :
    MovesOnly [GLB_GAP_OPEN.reg p] [34] s (s.deliverAll p last key xs) := by
  induction xs generalizing s with
  | nil => exact refl s
  | cons x xs ih => exact (deliver hp last key x).trans ih

theorem productAt (kind : Kind) (stream flags seq last key : Nat) (at_ : Stamp) (payload : List Byte) :
    MovesOnly [GLB_GAP_OPEN.reg p] [34] s (s.productAt p kind stream flags seq last key at_ payload) :=
  (setDdc p _).trans (deliverAll hp last key _)

theorem traces (i : Nat) (d : DetIval) (ts : List Nat) : MovesOnly [GLB_GAP_OPEN.reg p] [34] s (s.traces p i d ts) := by
  induction ts generalizing s with
  | nil => exact refl s
  | cons t ts ih => exact (ite (productAt hp ..) (refl s)).trans ih

end

/-! ### What an interval reports -/

theorem bandDue (p b : Nat) (d : DetIval) (lo hi : Nat) (active : Bool) : MovesOnly ls es s (s.bandDue p b d lo hi active) :=
  dueTo _ _

theorem bandsReport (p : Nat) (d : DetIval) (bs : List Nat) : MovesOnly ls es s (s.bandsReport p d bs) := by
  induction bs generalizing s with
  | nil => exact refl s
  | cons b bs ih => exact ((ite (touch _ _ _) (refl s)).trans (bandDue _ _ _ _ _ _)).trans ih

end MovesOnly

end State

end Sys2Proof.Machine
end

section
/-! SUPPORT. Frames, intervals, kurtosis blocks, integrals and envelope records that are delivered (R263 to R283), and O24. -/

namespace Sys2Proof.Machine

namespace State

@[simp] theorem setInst_inst_self (s : State) (p i : Nat) (x : XfSt) : (s.setInst p i x).inst p i = x := by
  unfold inst setInst
  rw [setXf_xfOf_self]
  exact Tab.get_put_self _ _ _ _

/-! ### Frames (R263) -/

/-- A frame that is transformed is delivered first, and then counted; what follows moves no register. -/
theorem spectrum_counts (s : State) {p i : Nat} (hp : p < 4) (g : XfGrid) (xs : List Smp) (first last : Smp) :
    ∃ t, MovesOnly [GLB_GAP_OPEN.reg p] [34] s t ∧
      (s.spectrum p i g xs first last).regs = (t.addWrap (XF_COUNT.reg p i) 1).regs := by
  unfold spectrum
  extract_lets e now w ps vs before flags stop step dep marked delivered counted x use one taken y
  refine ⟨delivered, .productAt hp .spectrum .., ?_⟩
  have ht : taken.regs = counted.regs := setInst_regs _ _ _ _
  split
  · exact (setXf_regs _ _ _).trans ht
  · exact ht

/-- The samples of the next frame of a grid that have come. -/
def frameSamples (s : State) (p i : Nat) (g : XfGrid) : List Smp :=
  (s.inst p i).buf.filter fun y => decide (g.k0 + g.frame * hopOf g.cfg ≤ y.n ∧
    y.n < g.k0 + g.frame * hopOf g.cfg + 2 ^ g.cfg.nLog2)

/-- The next frame of a grid whose samples are all there is transformed. -/
theorem frameNext_whole {s : State} {p i : Nat} {g : XfGrid} {gs : List XfGrid} (hg : (s.inst p i).grids = g :: gs)
    (hn : (s.frameSamples p i g).length = 2 ^ g.cfg.nLog2) :
    ∃ y xs a b, s.frameNext p i = ((s.setInst p i y).spectrum p i g xs a b).instTurn p i := by
  unfold frameNext
  extract_lets x
  rw [show x.grids = g :: gs from hg]
  dsimp -zeta only
  extract_lets n start xs whole j next y made
  have hw : whole = true := beq_iff_eq.2 hn
  have hpos : 0 < xs.length := (show xs.length = _ from hn) ▸ Nat.two_pow_pos _
  obtain ⟨a, rest, hx⟩ := List.exists_cons_of_length_pos hpos
  obtain ⟨b, hb⟩ : ∃ b, xs.getLast? = some b := ⟨_, List.getLast?_eq_some_getLast (List.ne_nil_of_length_pos hpos)⟩
  have hm : made = (s.setInst p i y).spectrum p i g xs a b := by
    dsimp only [made]
    rw [hb, hx]
    exact if_pos hw
  exact ⟨y, xs, a, b, by rw [if_neg (by simp [hw]), hm]⟩

theorem xfCount_inXf {p i : Nat} (hp : p < 4) (hi : i < 8) : (XF_COUNT.reg p i).inXf := by
  simp only [Loc.inXf, XF_COUNT.reg]
  omega

/-- A frame whose samples are all there is counted (R263). -/
theorem frameNext_counts {s : State} {p i : Nat} (hp : p < 4) (hi : i < 8) {g : XfGrid} {gs : List XfGrid}
    (hg : (s.inst p i).grids = g :: gs)
    (hn : (s.frameSamples p i g).length = 2 ^ g.cfg.nLog2) :
    (s.frameNext p i).f (XF_COUNT.reg p i) = (s.f (XF_COUNT.reg p i) + 1) % 2 ^ 64 := by
  obtain ⟨y, xs, a, b, hf⟩ := frameNext_whole hg hn
  obtain ⟨t, ht, hr⟩ := spectrum_counts (s.setInst p i y) (i := i) hp g xs a b
  have hturn : (((s.setInst p i y).spectrum p i g xs a b).instTurn p i).regs = (t.addWrap (XF_COUNT.reg p i) 1).regs := by
    simp [hr]
  rw [hf, f_congr _ hturn]
  exact (ht.f_counted (es' := []) (.refl _) (by show 0 + 64 ≤ 64; omega) ((xfCount_inXf hp hi).clearOf_gapOpen hp)).trans
    (by rw [f_congr _ (setInst_regs s p i y)]; rfl)

/-! ### Intervals (R268, R269) -/

/-- Past the traces and the count, an interval moves neither a register nor a product. -/
theorem detDeliver_reports (s : State) (p i : Nat) (d : DetIval) {ls : List Loc} {es : List Nat} :
    MovesOnly ls es ((s.traces p i d [0, 1, 2, 3, 4]).addWrap (DET_INTERVALS.reg p i) 1) (s.detDeliver p i d) := by
  unfold detDeliver
  exact .ite (((MovesOnly.bandDue _ _ _ _ _ _).trans (.touch _ _ _)).trans (.bandsReport _ _ _)) (.refl _)

theorem detIntervals_inXf {p i : Nat} (hp : p < 4) (hi : i < 8) : (DET_INTERVALS.reg p i).inXf := by
  simp only [Loc.inXf, DET_INTERVALS.reg]
  omega

theorem detDeliver_spec (s : State) {p i : Nat} (hp : p < 4) (hi : i < 8) (d : DetIval) :
    (s.detDeliver p i d).inst p i = s.inst p i ∧
      (s.detDeliver p i d).f (DET_INTERVALS.reg p i) = (s.f (DET_INTERVALS.reg p i) + 1) % 2 ^ 64 ∧
      s.onlyFieldsEvents (s.detDeliver p i d) [DET_INTERVALS.reg p i, GLB_GAP_OPEN.reg p] := by
  have hall : MovesOnly [DET_INTERVALS.reg p i, GLB_GAP_OPEN.reg p] [34] s (s.detDeliver p i d) :=
    (((MovesOnly.traces hp i d _).mono (by simp) (by simp)).trans (.addWrap (by simp) (detIntervals_inXf hp hi))).trans
      (detDeliver_reports s p i d)
  exact ⟨by rw [inst, hall.xfOf, ← inst], (MovesOnly.traces hp i d _).f_counted (es' := []) (detDeliver_reports s p i d)
    (by show 0 + 64 ≤ 64; omega) ((detIntervals_inXf hp hi).clearOf_gapOpen hp), hall.words⟩

/-- The oldest interval that has ended is delivered. -/
theorem exec_detIntervalEnd {s : State} {path : Fin 4} {i : Fin 8} {d : DetIval} {ds : List DetIval}
    (h : (s.inst path i).det.ended = d :: ds) :
    exec (.detIntervalEnd path i) s = .next ((s.setInst path i
      { s.inst path i with det := { (s.inst path i).det with ended := ds } }).detDeliver path i d) := by
  show execDetIntervalEnd path i s = _
  unfold execDetIntervalEnd
  dsimp only
  rw [h]

/-! ### A write of DET_CTL (R268) -/

/-- The row of DET_CTL. -/
def detCtlRow : RegRow :=
  ⟨0x141000, [(0x10000, 4), (0x100, 8)], 1, .one, fun _ => 0x1d03e7, 0x1fffff, 0x0, 0x0, 0x1fffff, 0x0, none⟩

theorem findIn_skip_of_index {r : RegRow} {rs : List RegRow} {off : Nat}
    (h : RegRow.index r.dims r.words (off - r.base) = none) : findIn (r :: rs) off = findIn rs off := by
  conv => lhs; unfold findIn
  rw [h]
  exact ite_self _

/-- A row of words for each transform of each path does not take in an offset past the transforms of a path. -/
theorem index_pathInst_none {d : Nat} (h : 8 ≤ d % 0x10000 / 0x100) :
    RegRow.index [(0x10000, 4), (0x100, 8)] 1 d = none := by
  simp only [RegRow.index]
  rw [if_neg (by omega : ¬ d % 0x10000 / 0x100 < 8)]
  exact ite_self _

theorem index_pathInst {p i : Nat} (hp : p < 4) (hi : i < 8) :
    RegRow.index [(0x10000, 4), (0x100, 8)] 1 (0x10000 * p + 0x100 * i) = some [p, i] := by
  simp only [RegRow.index]
  rw [if_pos (by omega), if_pos (by omega), if_pos (by omega)]
  simp only [Option.map_some, Option.some.injEq, List.cons.injEq, and_true]
  omega

theorem findRow_detCtl {p i : Nat} (hp : p < 4) (hi : i < 8) :
    findRow (DET_CTL.reg p i).addr = some (detCtlRow, [p, i]) := by
  have hr : rowsAt (0x141000 + 0x10000 * p + 0x100 * i) = rowsXf := by
    unfold rowsAt
    iterate 9 rw [if_neg (by omega)]
    exact if_pos (by omega)
  show findIn (rowsAt (0x141000 + 0x10000 * p + 0x100 * i)) _ = _
  rw [hr, rowsXf]
  iterate 6 rw [findIn_skip_of_index (by exact index_pathInst_none (by simp only [DET_CTL.reg]; omega))]
  refine findIn_here (by simp only [DET_CTL.reg]; omega) ?_
  rw [show (DET_CTL.reg p i).addr - 0x141000 = 0x10000 * p + 0x100 * i by simp only [DET_CTL.reg]; omega]
  exact index_pathInst hp hi

theorem bits_detCtlRow_merge (old v : Nat) : bits (detCtlRow.merge old v) 0 16 = v % 2 ^ 16 := by
  show (old &&& 0xffe00000 ||| v &&& 0x1fffff ||| old &&& 0 &&& (0xffffffff ^^^ v)) / 2 ^ 0 % 2 ^ 16 = _
  rw [Nat.pow_zero, Nat.div_one, Nat.or_mod_two_pow, Nat.or_mod_two_pow, Nat.and_mod_two_pow (b := 0xffe00000),
    Nat.and_mod_two_pow (b := 0x1fffff), show 0x1fffff % 2 ^ 16 = 2 ^ 16 - 1 by decide, Nat.and_two_pow_sub_one_eq_mod,
    Nat.mod_mod]
  simp

/-- A write of DET_CTL leaves its low sixteen bits in k_m1, and no other register moves. -/
theorem plainWrite_detCtl (s : State) {p i : Nat} (hp : p < 4) (hi : i < 8) (v : Nat) :
    (s.plainWrite (DET_CTL.reg p i).addr v).bus = s.bus ∧
      (s.plainWrite (DET_CTL.reg p i).addr v).f (DET_CTL.k_m1 p i) = v % 2 ^ 16 ∧
      s.onlyFields (s.plainWrite (DET_CTL.reg p i).addr v) [DET_CTL.reg p i] := by
  obtain ⟨hb, hf, ho⟩ := plainWrite_word (s := s) (l := DET_CTL.reg p i) (v := v) rfl rfl (findRow_detCtl hp hi) rfl
  have hk : ∀ t : State, t.f (DET_CTL.k_m1 p i) = bits (t.f (DET_CTL.reg p i)) 0 16 := fun t => by
    rw [f_word (l := DET_CTL.reg p i) rfl rfl (by show 0x1d03e7 < 2 ^ 32; omega)]
    rfl
  exact ⟨hb, by rw [hk, hf, bits_mod _ (by decide), bits_detCtlRow_merge], ho⟩

theorem exec_detHoldReset {s : State} {p : Port} {path : Fin 4} {i : Fin 8} {v : Word}
    (ha : s.accepts p (DET_CTL.reg path i).addr none) (hs : (s.xfCfg path i).source ≠ 0) :
    ∃ t, exec (.detHoldReset p path i v) s = .next t ∧ t.bus = .ok ∧ (t.inst path i).det.holdReset = true ∧
      t.f (DET_CTL.k_m1 path i) = v.toNat % 2 ^ 16 ∧ s.onlyFields t [DET_CTL.reg path i] := by
  have hlow : (v.toNat ||| 2 ^ 31) % 2 ^ 16 = v.toNat % 2 ^ 16 := by
    rw [Nat.or_mod_two_pow, show 2 ^ 31 % 2 ^ 16 = 0 by decide, Nat.or_zero]
  obtain ⟨hb, hk, ho⟩ := plainWrite_detCtl (s.complete .ok) path.isLt i.isLt (v.toNat ||| 2 ^ 31)
  rw [hlow] at hk
  have hx : exec (.detHoldReset p path i v) s = .next ((s.complete .ok).detCtlWrite path i (v.toNat ||| 2 ^ 31)) :=
    congrArg Host.Outcome.next (hubWrite_accepts _ ha)
  refine ⟨_, hx, ?_⟩
  unfold detCtlWrite
  rw [if_neg (by exact hs)]
  dsimp only
  rw [if_pos (bit_or_two_pow_self _ _)]
  exact ⟨hb, by rw [setInst_inst_self], hk, ho⟩

/-! ### Kurtosis blocks (R272, R273) -/

/-- A block is counted first; the rest of its delivery keeps the blocks that wait. -/
theorem skDeliver_counted (s : State) {p : Nat} (hp : p < 4) (b : SkBlk) :
    ∃ t, t.regs = (s.addWrap (SK_BLOCKS.reg p) 1).regs ∧ (t.xfOf p).sk.ended = (s.xfOf p).sk.ended ∧
      MovesOnly [SK_STATUS.reg p, GLB_GAP_OPEN.reg p] [34, 164 + p] t (s.skDeliver p b) := by
  unfold skDeliver
  extract_lets counted vs fs n products sk flagged due shown head delivered
  have hx : counted.xfOf p = s.xfOf p := by
    unfold xfOf
    rw [show counted.xf = s.xf from set_xf _ _ _]
  split
  · exact ⟨counted, rfl, by rw [hx], .refl _⟩
  · have hdue : MovesOnly [SK_STATUS.reg p, GLB_GAP_OPEN.reg p] [34, 164 + p] flagged due := .dueTo _ _
    have hshown : MovesOnly [SK_STATUS.reg p, GLB_GAP_OPEN.reg p] [34, 164 + p] due shown :=
      .setXfField (m := SK_STATUS.reg p) (by simp) (fun a hc => by
        simpa [Loc.covers, SK_STATUS.flagged, SK_STATUS.reg] using hc) (by simp only [Loc.inXf, SK_STATUS.reg]; omega)
    have hprod : MovesOnly [SK_STATUS.reg p, GLB_GAP_OPEN.reg p] [34, 164 + p] shown delivered :=
      (MovesOnly.productAt hp ..).mono (by simp) (by simp)
    refine ⟨flagged, setXf_regs _ _ _, ?_, (hdue.trans (hshown.trans hprod)).trans
      (.ite (.raise (by omega) (by simp)) (.refl _))⟩
    rw [setXf_xfOf_self, ← hx]

theorem skDeliver_spec (s : State) {p : Nat} (hp : p < 4) (b : SkBlk) :
    ((s.skDeliver p b).xfOf p).sk.ended = (s.xfOf p).sk.ended ∧
      (s.skDeliver p b).f (SK_BLOCKS.reg p) = (s.f (SK_BLOCKS.reg p) + 1) % 2 ^ 32 ∧
      s.onlyFieldsEvents (s.skDeliver p b) [SK_BLOCKS.reg p, SK_STATUS.reg p, GLB_GAP_OPEN.reg p] := by
  obtain ⟨t, hr, hended, ht⟩ := skDeliver_counted s hp b
  have hcount : MovesOnly [SK_BLOCKS.reg p] [] s (s.addWrap (SK_BLOCKS.reg p) 1) :=
    .addWrap (List.mem_singleton_self _) (by simp only [Loc.inXf, SK_BLOCKS.reg]; omega)
  refine ⟨by rw [ht.xfOf, hended], ?_, wordsBut_trans (hcount.mono (by simp) (List.nil_subset [])).words
    (wordsBut_trans (wordsBut_of_regs hr) (ht.mono (by simp) (List.Subset.refl _)).words)⟩
  rw [ht.f_eq fun a hc => ?_, f_congr _ hr, f_addWrap_self _ _ _ (by show 0 + 32 ≤ 64; omega)]
  · rfl
  simp only [Loc.covers, SK_BLOCKS.reg, SK_STATUS.reg, GLB_GAP_OPEN.reg, eventWord, List.mem_cons, List.not_mem_nil, or_false,
    forall_eq_or_imp, forall_eq] at *
  omega

theorem exec_skBlockEnd {s : State} {path : Fin 4} {b : SkBlk} {bs : List SkBlk} (h : (s.xfOf path).sk.ended = b :: bs) :
    exec (.skBlockEnd path) s = .next ((s.setXf path
      { s.xfOf path with sk := { (s.xfOf path).sk with ended := bs } }).skDeliver path b) := by
  show execSkBlockEnd path s = _
  unfold execSkBlockEnd
  dsimp only
  rw [h]

/-! ### Integrals (R277, R279) -/

/-- Descriptor and integral are delivered, CHZ_LAST takes the number, saturated channels are counted, and event 160 + p comes
last. -/
theorem chzDeliver_raises (s : State) {p : Nat} (hp : p < 4) (x : ChzInt) :
    ∃ t u, MovesOnly [GLB_GAP_OPEN.reg p] [34] s t ∧
      MovesOnly [CHZ_SAT.reg p] [152 + p] (t.set (CHZ_LAST.reg p) x.number) u ∧ s.chzDeliver p x = u.raise (160 + p) := by
  unfold chzDeliver
  extract_lets st sums sat at_ described delivered numbered full
  refine ⟨delivered, full, (MovesOnly.productAt hp ..).trans (.productAt hp ..), ?_, rfl⟩
  have hsat : MovesOnly [CHZ_SAT.reg p] [152 + p] numbered (numbered.addSat (CHZ_SAT.reg p) sat) :=
    .setXfField (List.mem_singleton_self _) (fun _ => id) (by simp only [Loc.inXf, CHZ_SAT.reg]; omega)
  exact .ite (hsat.trans (.raise (by omega) (List.mem_singleton_self _))) (.refl _)

theorem chzDeliver_spec (s : State) {p : Nat} (hp : p < 4) (x : ChzInt) :
    (s.chzDeliver p x).xfOf p = s.xfOf p ∧
      (s.chzDeliver p x).f (CHZ_LAST.reg p) = x.number % 2 ^ (CHZ_LAST.reg p).width ∧ s.raised (160 + p) (s.chzDeliver p x) ∧
      s.onlyFieldsEvents (s.chzDeliver p x) [CHZ_LAST.reg p, CHZ_SAT.reg p, GLB_GAP_OPEN.reg p] := by
  obtain ⟨t, u, ht, hu, hx⟩ := chzDeliver_raises s hp x
  have hset : MovesOnly [CHZ_LAST.reg p, CHZ_SAT.reg p, GLB_GAP_OPEN.reg p] [34, 152 + p] t
      (t.set (CHZ_LAST.reg p) x.number) :=
    .setXfField (List.mem_cons_self ..) (fun _ => id) (by simp only [Loc.inXf, CHZ_LAST.reg]; omega)
  have hall := ((ht.mono (by simp) (by simp)).trans hset).trans (hu.mono (by simp) (by simp))
  have hend : MovesOnly [CHZ_SAT.reg p] [152 + p, 160 + p] (t.set (CHZ_LAST.reg p) x.number) (u.raise (160 + p)) :=
    (hu.mono (by simp) (by simp)).trans (.raise (by omega) (by simp))
  rw [hx]
  refine ⟨?_, ?_, hall.counted (by omega) (by simp; omega) (raised_raise u _ (by omega)),
    wordsBut_trans hall.words (wordsBut_raise (by omega) fun _ => .inl)⟩
  · exact (congrArg (Tab.get XfPath.reset · p) (raise_xf _ _)).trans (hall.xfOf p)
  · rw [hend.f_eq fun a hc => ?_, f_set_self _ _ _ (by show 0 + 64 ≤ 64; omega)]
    simp only [Loc.covers, CHZ_LAST.reg, CHZ_SAT.reg, eventWord, List.mem_singleton, forall_eq] at *
    omega

theorem exec_chzIntegralEnd {s : State} {path : Fin 4} {x : ChzInt} {xs : List ChzInt}
    (h : (s.xfOf path).chz.ended = x :: xs) :
    exec (.chzIntegralEnd path) s = .next ((s.setXf path
      { s.xfOf path with chz := { (s.xfOf path).chz with ended := xs } }).chzDeliver path x) := by
  show execChzIntegralEnd path s = _
  unfold execChzIntegralEnd
  dsimp only
  rw [h]

/-! ### Envelope records (R283) -/

theorem envCount_inXf {p : Nat} (hp : p < 4) : (TRN_ENV_COUNT.reg p).inXf := by
  simp only [Loc.inXf, TRN_ENV_COUNT.reg]
  omega

theorem envDeliver_counted (s : State) {p : Nat} (hp : p < 4) (r : EnvRec) :
    ∃ t, MovesOnly [GLB_GAP_OPEN.reg p] [34] s t ∧ s.envDeliver p r = t.addWrap (TRN_ENV_COUNT.reg p) 1 :=
  ⟨_, .productAt hp .., rfl⟩

theorem envDeliver_spec (s : State) {p : Nat} (hp : p < 4) (r : EnvRec) :
    (s.envDeliver p r).xfOf p = s.xfOf p ∧
      (s.envDeliver p r).f (TRN_ENV_COUNT.reg p) = (s.f (TRN_ENV_COUNT.reg p) + 1) % 2 ^ 64 ∧
      s.onlyFieldsEvents (s.envDeliver p r) [TRN_ENV_COUNT.reg p, GLB_GAP_OPEN.reg p] := by
  obtain ⟨t, ht, hr⟩ := envDeliver_counted s hp r
  have hall : MovesOnly [TRN_ENV_COUNT.reg p, GLB_GAP_OPEN.reg p] [34] s (t.addWrap (TRN_ENV_COUNT.reg p) 1) :=
    (ht.mono (by simp) (by simp)).trans (.addWrap (by simp) (envCount_inXf hp))
  rw [hr]
  exact ⟨hall.xfOf p, ht.f_counted (es' := []) (.refl _) (by show 0 + 64 ≤ 64; omega)
    ((envCount_inXf hp).clearOf_gapOpen hp), hall.words⟩

theorem exec_envRecordClose {s : State} {path : Fin 4} {r : EnvRec} {rs : List EnvRec}
    (h : (s.xfOf path).env.ended = r :: rs) :
    exec (.envRecordClose path) s = .next ((s.setXf path
      { s.xfOf path with env := { (s.xfOf path).env with ended := rs } }).envDeliver path r) := by
  show execEnvRecordClose path s = _
  unfold execEnvRecordClose
  dsimp only
  rw [h]

end State

open State

/-- Settles O24: a delivery moves no register but GLB_GAP_OPEN (`MovesOnly.productAt`), so that the register of a product counts
it once; the products that still wait stay. -/
theorem transformProductsAreCounted : Obligations.TransformProductsAreCounted := by
  refine ⟨fun s path i g gs hg hn => ⟨_, rfl, frameNext_counts path.isLt i.isLt hg hn⟩, fun s path i d ds h => ?_,
    fun s p path i v ha hs => exec_detHoldReset ha hs, fun s path b bs h => ?_, fun s path x xs h => ?_,
    fun s path r rs h => ?_⟩
  · obtain ⟨hinst, hcount, hwords⟩ := detDeliver_spec
      (s.setInst path i { s.inst path i with det := { (s.inst path i).det with ended := ds } }) path.isLt i.isLt d
    exact ⟨_, exec_detIntervalEnd h, by rw [hinst, setInst_inst_self], hcount, hwords⟩
  · obtain ⟨hended, hcount, hwords⟩ := skDeliver_spec
      (s.setXf path { s.xfOf path with sk := { (s.xfOf path).sk with ended := bs } }) path.isLt b
    exact ⟨_, exec_skBlockEnd h, by rw [hended, setXf_xfOf_self], hcount, hwords⟩
  · obtain ⟨hxf, hlast, hraised, hwords⟩ := chzDeliver_spec
      (s.setXf path { s.xfOf path with chz := { (s.xfOf path).chz with ended := xs } }) path.isLt x
    refine ⟨_, exec_chzIntegralEnd h, by rw [hxf, setXf_xfOf_self], hlast, ?_, hwords⟩
    exact raised_after (P := fun _ => False) (by omega) (wordsBut_of_regs rfl) (fun _ => False.elim)
      (fun q => by cases q <;> rfl) hraised
  · obtain ⟨hxf, hcount, hwords⟩ := envDeliver_spec
      (s.setXf path { s.xfOf path with env := { (s.xfOf path).env with ended := rs } }) path.isLt r
    exact ⟨_, exec_envRecordClose h, by rw [hxf, setXf_xfOf_self], hcount, hwords⟩

end Sys2Proof.Machine
end

section
/-! SUPPORT. Lines that a table writes refuse a binding that would make them come too fast (R299, R311), whatever else the write
asks for. -/

namespace Sys2Proof.Machine

namespace State

/-- Table 0 takes the spectra of instance 1 of path 0 and writes a line for every 16 of them; instance 0 of the path makes spectra
64 times as fast. -/
def slowLines : State :=
  { State.reset with
    dom := { State.reset.dom with host := .on, fabric := .on }
    regs := [((XF_LIMIT.reg 0 0).addr, 16), ((XF_CTL.reg 0 1).addr, 16), ((XF_LIMIT.reg 0 1).addr, 16),
      ((KAL_CTL.reg 0).addr, 0x401), ((KAL_LINE_CTL.reg 0).addr, 0x8000000f)]
    act := [((KAL_CTL.reg 0).addr, 0x401)] }

theorem slowLines_accepts : slowLines.accepts .a (KAL_CTL.reg 0).addr none := ⟨by decide, fun _ h => by cases h⟩

/-- Bound to instance 0 the lines would come too fast (R311), so that the write is dropped whole, its freeze with it (R299). -/
theorem exec_kalFreeze_slowLines :
    slowLines.linesFast 0 = false ∧
      ∃ t, exec (.kalFreeze .a 0 0x40000001) slowLines = .next t ∧ t.flag (KAL_CTL.freeze 0) = false :=
  ⟨by decide, _, rfl, by decide⟩

end State

/-- Refutes O25: its seventh clause has a freeze act whenever the binding that is written with it names an instance in use, and on
`State.slowLines` that binding would make the lines of the table come too fast, so that the write is refused (R299, R311). -/
theorem not_densityTablesCountDecayFreezeAndClear : ¬ Obligations.DensityTablesCountDecayFreezeAndClear := by
  rintro ⟨-, -, -, -, -, -, hfreeze, -⟩
  obtain ⟨-, t, ht, hstays⟩ := State.exec_kalFreeze_slowLines
  obtain ⟨⟨u, hu, -, hset, -⟩, -⟩ := hfreeze State.slowLines .a 0 0x40000001 State.slowLines_accepts (by decide)
  obtain rfl : t = u := Host.Outcome.next.inj (ht.symm.trans hu)
  exact absurd (hset.symm.trans hstays) (by decide)

end Sys2Proof.Machine
end

section
/-! SUPPORT. What an entry of the error log and the marks that go with it leave alone (R541, R555), and what of the state a write
to a field or an event does not reach. -/

namespace Sys2Proof.Machine

/-- The word belongs to the block of the error log and the marked units, or to the event registers. -/
def integrityWord (a : Nat) : Prop := eventWord a ∨ 0x240000 ≤ a ∧ a < 0x250000

namespace State

namespace RegsAndPorts

variable {s t : State}

theorem act (h : RegsAndPorts s t) : t.act = s.act := (congrArg State.act h.eq).trans rfl

theorem xf (h : RegsAndPorts s t) : t.xf = s.xf := (congrArg State.xf h.eq).trans rfl

theorem kal (h : RegsAndPorts s t) : t.kal = s.kal := (congrArg State.kal h.eq).trans rfl

theorem fa (h : RegsAndPorts s t) (l : Loc) : t.fa l = s.fa l := by
  unfold State.fa actVal
  rw [h.act]

theorem spectrumAt (h : RegsAndPorts s t) (p i seq : Nat) : t.spectrumAt p i seq = s.spectrumAt p i seq := by
  unfold State.spectrumAt inst xfOf
  rw [h.xf]

end RegsAndPorts

theorem get_setWords {d : Word} (s : State) (a : Nat) (b : List Byte) (n : Nat) {c : Nat} (h : c < a ∨ a + 4 * n ≤ c) :
    Tab.get d (s.setWords a b n).regs c = Tab.get d s.regs c := by
  induction n generalizing s a b with
  | zero => rfl
  | succ n ih => exact (ih _ _ _ (by omega)).trans (Tab.get_put_ne _ _ _ _ (by omega))

theorem wordsBut_raise_integrity (s : State) {n : Nat} (h : n < 1024) : s.wordsBut (s.raise n) integrityWord :=
  wordsBut_raise h fun _ => .inl

/-- A field of one word in the block of the error log. -/
theorem wordsBut_set_integrity (s : State) {l : Loc} (v : Nat) (hl : l.lo + l.width ≤ 32)
    (ha : 0x240000 ≤ l.addr ∧ l.addr < 0x250000) : s.wordsBut (s.set l v) integrityWord :=
  wordsBut_set fun a hc => .inr (by rwa [(covers_iff hl a).1 hc])

theorem markRow_words (s : State) (unit row : Nat) : s.wordsBut (s.markRow unit row) integrityWord := by
  unfold markRow
  dsimp only
  split
  · exact wordsBut_refl _ _
  · exact wordsBut_trans (wordsBut_trans (wordsBut_of_regs rfl)
      (wordsBut_set_integrity _ (l := WEAR_STATUS.rows_marked) _ (by decide) (by decide)))
      (wordsBut_trans (wordsBut_of_regs rfl) (wordsBut_raise_integrity _ (by decide)))

theorem chkEntry_words (s : State) (index addr kind cls unit action : Nat) (path : Option Nat) :
    s.wordsBut (s.chkEntry index addr kind cls unit action path) integrityWord := by
  have hrow : s.wordsBut (s.setWords (CHK_LOG.word (s.f CHK_HEAD.reg % 256) 0).addr
      (chkBytes s.time.tick.toNat index addr kind cls unit action path) 8) integrityWord := fun d a hn =>
    get_setWords _ _ _ _ (by simp only [integrityWord, CHK_LOG.word] at *; omega)
  exact wordsBut_trans (wordsBut_trans hrow (wordsBut_of_regs rfl))
    (wordsBut_trans (wordsBut_set_integrity _ (l := CHK_HEAD.reg) _ (by decide) (by decide))
      (wordsBut_raise_integrity _ (by decide)))

/-- An uncorrected failure changes no register but those of the error log and the marked units, and the event registers. -/
theorem chkFail_words (s : State) (index addr kind cls unit action : Nat) (path : Option Nat) :
    s.wordsBut (s.chkFail index addr kind cls unit action path) integrityWord := by
  have hrow : ∀ row, s.wordsBut (s.rowError true row) integrityWord := fun row => by
    cases row with
    | none => exact wordsBut_refl _ _
    | some r => exact markRow_words s r.1 r.2
  exact wordsBut_trans (hrow _) (chkEntry_words _ _ _ _ _ _ _ _)

/-! ### The density tables and the masks -/

theorem setWords_kal (s : State) (a : Nat) (b : List Byte) (n : Nat) : (s.setWords a b n).kal = s.kal := by
  induction n generalizing s a b with
  | zero => rfl
  | succ n ih => exact ih _ _ _

theorem markRow_kal (s : State) (unit row : Nat) : (s.markRow unit row).kal = s.kal := by
  unfold markRow marked ledgerAdd bump addSat
  dsimp only
  split
  · rfl
  · rw [(RegsAndPorts.raise _ _).kal]
    exact set_kal _ _ _

theorem chkFail_kal (s : State) (index addr kind cls unit action : Nat) (path : Option Nat) :
    (s.chkFail index addr kind cls unit action path).kal = s.kal := by
  have hrow : ∀ row, (s.rowError true row).kal = s.kal := fun row => by
    cases row with
    | none => rfl
    | some r => exact markRow_kal s r.1 r.2
  unfold chkFail chkEntry addWrap
  dsimp only
  rw [(RegsAndPorts.raise _ _).kal, set_kal]
  exact (setWords_kal _ _ _ _).trans (hrow _)

end State

end Sys2Proof.Machine
end

section
/-! SUPPORT. A spectrum at a mask and a request for a swap (R315 to R319), and O26 from them. -/

namespace Sys2Proof.Machine

namespace State

/-! ### MSK_STATE -/

/-- A bit of MSK_STATE: 0 is active, 1 pending, 2 pending_target, 3 mismatch. -/
def mskBit (m i : Nat) : Loc := ⟨(MSK_STATE.reg m).addr, i, 1, 0⟩

section

variable (s : State) {m i j : Nat} (v : Nat)

theorem f_set_mskBit_self (hi : i < 32) : (s.set (mskBit m i) v).f (mskBit m i) = v % 2 :=
  f_set_self s (mskBit m i) v (by show i + 1 ≤ 64; omega)

theorem f_set_mskBit_ne (hi : i < 32) (hj : j < 32) (h : j ≠ i) : (s.set (mskBit m i) v).f (mskBit m j) = s.f (mskBit m j) :=
  f_set_beside s (mskBit m i) (mskBit m j) v rfl rfl (by show i + 1 ≤ 32; omega) (by show j + 1 ≤ 32; omega)
    (by show j + 1 ≤ i ∨ i + 1 ≤ j; omega)

theorem onlyFields_set_mskBit (hi : i < 32) : s.onlyFields (s.set (mskBit m i) v) [MSK_STATE.reg m] :=
  onlyFields_set_of_addr s v (by show i + 1 ≤ 32; omega) rfl

end

/-- The words of MSK_STATE lie outside the event registers and the error log. -/
theorem not_integrityWord_of_mskBit {m i a : Nat} (hm : m < 64) (hi : i < 32) (hc : (mskBit m i).covers a) :
    ¬ integrityWord a := by
  rw [covers_iff (by show i + 1 ≤ 32; omega)] at hc
  simp only [integrityWord, eventWord, mskBit, MSK_STATE.reg] at *
  omega

theorem not_integrityWord_of_mskSwapIndex {m a : Nat} (hm : m < 64) (hc : (MSK_SWAP_INDEX.reg m).covers a) :
    ¬ integrityWord a := by
  simp only [Loc.covers, integrityWord, eventWord, MSK_SWAP_INDEX.reg] at *
  omega

/-! ### A spectrum that is compared, or is too short -/

theorem mskBadLog_spec (s : State) (seq p : Nat) (es : List Nat) :
    s.wordsBut (s.mskBadLog seq p es) integrityWord ∧ (s.mskBadLog seq p es).kal = s.kal := by
  induction es generalizing s with
  | nil => exact ⟨wordsBut_refl _ _, rfl⟩
  | cons e es ih =>
    obtain ⟨hwords, hkal⟩ := ih (s.zeroLog seq (4 * e) 3 0 p)
    exact ⟨wordsBut_trans (chkFail_words _ _ _ _ _ _ _ _) hwords, hkal.trans (chkFail_kal _ _ _ _ _ _ _ _)⟩

/-- A comparison leaves a result, and the error log alone may show it in the registers. -/
theorem mskCompare_spec (s : State) (m : Nat) (x : Parcel) (vs bad : List Nat) :
    s.wordsBut (s.mskCompare m x vs bad) integrityWord ∧ ((s.mskCompare m x vs bad).mskOf m).result.isSome = true := by
  unfold mskCompare
  extract_lets p len per copy base feeds flags used bins r due
  obtain ⟨hwords, hkal⟩ := mskBadLog_spec (due.setMsk m { due.mskOf m with result := some r }) x.seq p used
  have hdue : s.wordsBut due integrityWord :=
    wordsBut_mono (MovesOnly.dueTo (ls := []) (es := []) (s := s) _ _).words fun a h => .inl (by simpa using h)
  refine ⟨wordsBut_trans hdue hwords, ?_⟩
  rw [mskOf, hkal, ← mskOf, setMsk_mskOf_self]
  rfl

/-- A spectrum that is too short for a mask sets mismatch, with event 176 where it was clear (R317). -/
def mskShort (s : State) (m : Nat) : State :=
  if s.flag (MSK_STATE.mismatch m) then s else (s.set (MSK_STATE.mismatch m) 1).raise 176

/-- What an enabled mask makes of a spectrum of its instance. -/
def mskJudge (s : State) (m : Nat) (x : Parcel) (sp : Spectrum) (bad : List Nat) : State :=
  if sp.v.length < 2 ^ s.fa (MSK_BIND.len_log2 m) then s.mskShort m
  else (s.set (MSK_STATE.mismatch m) 0).mskCompare m x sp.v bad

/-- The state once the swap of a mask has happened at the spectrum with an index (R319). -/
def mskSwapped (s : State) (m seq : Nat) : State :=
  ((((s.set (MSK_STATE.active m) (s.f (MSK_STATE.pending_target m))).set (MSK_STATE.pending m) 0).addWrap
    (MSK_STATE.swaps m) 1).set (MSK_SWAP_INDEX.reg m) seq).raise 174

theorem mskSwapped_regsAndPorts (s : State) (m seq : Nat) : RegsAndPorts s (s.mskSwapped m seq) :=
  ((((RegsAndPorts.set _ _ _).trans (.set _ _ _)).trans (.set _ _ _)).trans (.set _ _ _)).trans (.raise _ _)

/-- A field apart from mismatch, and outside the error log and the event registers, reads as before. -/
theorem f_mskJudge (s : State) (m : Nat) (x : Parcel) (sp : Spectrum) (bad : List Nat) {l : Loc}
    (ha : (MSK_STATE.mismatch m).apart l) (hl : ∀ a, l.covers a → ¬ integrityWord a) :
    (s.mskJudge m x sp bad).f l = s.f l := by
  unfold mskJudge mskShort
  split
  · split
    · rfl
    · exact (f_of_wordsBut (wordsBut_raise_integrity _ (by decide)) hl).trans (f_set_apart _ _ _ _ ha)
  · exact (f_of_wordsBut (mskCompare_spec _ _ _ _ _).1 hl).trans (f_set_apart _ _ _ _ ha)

section

variable {s : State} {m : Nat} {x : Parcel} {sp : Spectrum} (bad : List Nat)
  (hb : (s.mskOf m).bindAt = none) (he : s.fa (MSK_BIND.en m) = 1)
  (hx : s.ofInst x (s.fa (MSK_BIND.path m)) (s.fa (MSK_BIND.inst m)) = true)
  (hsp : s.spectrumAt x.path (s.fa (MSK_BIND.inst m)) x.seq = some sp)
include hb he hx hsp

/-- With no swap pending, a spectrum of the instance that an enabled mask is bound to is judged. -/
theorem mskEvaluate_judges (hp : s.flag (MSK_STATE.pending m) = false) : s.mskEvaluate m x bad = s.mskJudge m x sp bad := by
  unfold mskEvaluate
  simp [hb, hx, hp, hsp, he, mskJudge, mskShort]

/-- A swap that is due happens before the spectrum is judged (R319). -/
theorem mskEvaluate_swaps (hp : s.flag (MSK_STATE.pending m) = true) (ha : (s.mskOf m).swapAt ≤ x.seq) :
    s.mskEvaluate m x bad = (s.mskSwapped m x.seq).mskJudge m x sp bad := by
  have hr := s.mskSwapped_regsAndPorts m x.seq
  have hsp' := (hr.spectrumAt _ _ _).trans hsp
  have he' := (hr.fa _).trans he
  unfold mskEvaluate
  simp [hb, hx, hp, ha, ← mskSwapped.eq_def, hsp', he', mskJudge, mskShort]

end

/-! ### What the swap and the spectrum leave -/

section

variable (s : State) {m : Nat} (hm : m < 64)
include hm

/-- The swap: the copy, the end of the request, and the index (R319). -/
theorem mskSwapped_spec (seq : Nat) :
    (s.mskSwapped m seq).f (MSK_STATE.active m) = s.f (MSK_STATE.pending_target m) ∧
      (s.mskSwapped m seq).f (MSK_STATE.pending m) = 0 ∧ (s.mskSwapped m seq).f (MSK_SWAP_INDEX.reg m) = seq % 2 ^ 64 := by
  have hevent : ∀ (t : State) {l : Loc}, (∀ a, l.covers a → ¬ integrityWord a) → (t.raise 174).f l = t.f l := fun t _ =>
    f_of_wordsBut (wordsBut_raise_integrity t (by decide))
  have hshown : ∀ (t : State) (i : Nat), i < 16 →
      (((t.addWrap (MSK_STATE.swaps m) 1).set (MSK_SWAP_INDEX.reg m) seq).raise 174).f (mskBit m i) = t.f (mskBit m i) :=
    fun t i hi => (hevent _ fun _ => not_integrityWord_of_mskBit hm (by omega)).trans
      ((f_set_ne _ _ _ _ (by simp only [wordsApart, MSK_SWAP_INDEX.reg, mskBit, MSK_STATE.reg]; omega)).trans
        (f_set_beside t (MSK_STATE.swaps m) (mskBit m i) _ rfl rfl (by show 16 + 16 ≤ 32; omega) (by show i + 1 ≤ 32; omega)
          (.inl (by show i + 1 ≤ 16; omega))))
  refine ⟨?_, ?_, ?_⟩
  · calc
      _ = (s.set (mskBit m 0) (s.f (mskBit m 2))).f (mskBit m 0) :=
        (hshown _ 0 (by decide)).trans (f_set_mskBit_ne _ _ (i := 1) (by decide) (by decide) (by decide))
      _ = s.f (mskBit m 2) % 2 := f_set_mskBit_self _ _ (by decide)
      _ = s.f (mskBit m 2) := Nat.mod_eq_of_lt (f_lt s (mskBit m 2))
  · exact (hshown _ 1 (by decide)).trans (f_set_mskBit_self _ 0 (i := 1) (by decide))
  · exact (hevent _ fun _ => not_integrityWord_of_mskSwapIndex hm).trans (f_set_self _ _ _ (by show 0 + 64 ≤ 64; omega))

/-- Whatever becomes of the spectrum, the copy in force, the request and the index stay. -/
theorem mskJudge_keeps (x : Parcel) (sp : Spectrum) (bad : List Nat) :
    (s.mskJudge m x sp bad).f (MSK_STATE.active m) = s.f (MSK_STATE.active m) ∧
      (s.mskJudge m x sp bad).f (MSK_STATE.pending m) = s.f (MSK_STATE.pending m) ∧
      (s.mskJudge m x sp bad).f (MSK_SWAP_INDEX.reg m) = s.f (MSK_SWAP_INDEX.reg m) := by
  have hbit : ∀ i < 3, (s.mskJudge m x sp bad).f (mskBit m i) = s.f (mskBit m i) := fun i hi =>
    f_mskJudge s m x sp bad (.inr ⟨rfl, rfl, by show 3 + 1 ≤ 32; omega, by show i + 1 ≤ 32; omega,
      .inl (by show i + 1 ≤ 3; omega)⟩) fun _ => not_integrityWord_of_mskBit hm (by omega)
  refine ⟨hbit 0 (by decide), hbit 1 (by decide), f_mskJudge s m x sp bad (.inl ?_) fun _ =>
    not_integrityWord_of_mskSwapIndex hm⟩
  simp only [wordsApart, MSK_SWAP_INDEX.reg, MSK_STATE.mismatch]
  omega

/-- A spectrum that is too short sets mismatch, with event 176 (R317). -/
theorem mskShort_spec (h : s.flag (MSK_STATE.mismatch m) = false) :
    (s.mskShort m).flag (MSK_STATE.mismatch m) = true ∧ s.raised 176 (s.mskShort m) ∧
      s.onlyFieldsEvents (s.mskShort m) [MSK_STATE.reg m] := by
  have hset : s.onlyFields (s.set (MSK_STATE.mismatch m) 1) [MSK_STATE.reg m] := onlyFields_set_mskBit s 1 (i := 3) (by decide)
  have hflag : (s.mskShort m).f (mskBit m 3) = 1 := by
    rw [mskShort, h, if_neg (by decide)]
    exact (f_of_wordsBut (wordsBut_raise_integrity _ (by decide)) fun _ => not_integrityWord_of_mskBit hm (by decide)).trans
      (f_set_mskBit_self s 1 (i := 3) (by decide))
  refine ⟨beq_iff_eq.2 hflag, ?_, ?_⟩ <;> rw [mskShort, h, if_neg (by decide)]
  · refine raised_after (by decide) hset (fun a hP => ?_) (fun q => by rw [set_port]) (raised_raise _ _ (by decide))
    obtain ⟨l, hl, hc⟩ := hP
    rw [List.mem_singleton.1 hl, covers_iff (by show 0 + 32 ≤ 32; omega)] at hc
    simp only [eventWord, GLB_ID.variant, MSK_STATE.reg] at *
    omega
  · exact onlyFieldsEvents_raise hset (by decide)

end

theorem mskJudge_result {s : State} {m : Nat} {x : Parcel} {sp : Spectrum} (bad : List Nat)
    (h : 2 ^ s.fa (MSK_BIND.len_log2 m) ≤ sp.v.length) : ((s.mskJudge m x sp bad).mskOf m).result.isSome = true := by
  rw [mskJudge, if_neg (Nat.not_lt.2 h)]
  exact (mskCompare_spec _ _ _ _ _).2

/-! ### A request for a swap -/

/-- A request for the copy that is not active waits, with its target (R319). -/
theorem mskSwapWrite_waits {s : State} {v : Nat} (h : s.f (MSK_STATE.active (v % 64)) ≠ bits v 30 1) :
    s.mskSwapWrite (v ||| 2 ^ 31) = ((s.set (MSK_STATE.pending (v % 64)) 1).set (MSK_STATE.pending_target (v % 64))
      (bits v 30 1)).setMsk (v % 64) { s.mskOf (v % 64) with swapAt := s.nextSample (s.f (MSK_BIND.path (v % 64))) } := by
  have hmask : (v ||| 2 ^ 31) % 64 = v % 64 := by
    rw [show 64 = 2 ^ 6 by decide, Nat.or_mod_two_pow, show 2 ^ 31 % 2 ^ 6 = 0 by decide, Nat.or_zero]
  have htarget : bits (v ||| 2 ^ 31) 30 1 = bits v 30 1 := by
    rw [bits, Nat.or_div_two_pow, Nat.or_mod_two_pow, show 2 ^ 31 / 2 ^ 30 % 2 ^ 1 = 0 by decide, Nat.or_zero]
    rfl
  unfold mskSwapWrite
  rw [hmask, htarget, bit_or_two_pow_self]
  simp [h]

theorem mskSwapWrite_spec {s : State} {v : Nat} (h : s.f (MSK_STATE.active (v % 64)) ≠ bits v 30 1) :
    (s.mskSwapWrite (v ||| 2 ^ 31)).bus = s.bus ∧
      (s.mskSwapWrite (v ||| 2 ^ 31)).flag (MSK_STATE.pending (v % 64)) = true ∧
      (s.mskSwapWrite (v ||| 2 ^ 31)).f (MSK_STATE.pending_target (v % 64)) = bits v 30 1 ∧
      s.onlyFields (s.mskSwapWrite (v ||| 2 ^ 31)) [MSK_STATE.reg (v % 64)] := by
  rw [mskSwapWrite_waits h]
  refine ⟨by simp, beq_iff_eq.2 ?_, ?_, ?_⟩
  · exact (f_set_mskBit_ne _ _ (i := 2) (j := 1) (by decide) (by decide) (by decide)).trans
      (f_set_mskBit_self s 1 (i := 1) (by decide))
  · exact (f_set_mskBit_self _ _ (i := 2) (by decide)).trans (Nat.mod_eq_of_lt (bits_lt v 30 1))
  · exact wordsBut_trans (wordsBut_trans (onlyFields_set_mskBit s _ (i := 1) (by decide))
      (onlyFields_set_mskBit _ _ (i := 2) (by decide))) (wordsBut_of_regs rfl)

end State

open State

/-- Settles O26: a spectrum by whether a swap is due before it is judged, and a request by the two bits that it sets. -/
theorem masksSwapAndSeeMismatches : Obligations.MasksSwapAndSeeMismatches := by
  refine ⟨fun s m x bad sp hb he hx hsp hp hlen hflag =>
      ⟨_, congrArg Host.Outcome.next (mskEvaluate_judges bad hb he hx hsp hp), ?_⟩,
    fun s m x bad sp hb he hx hsp hp ha => ⟨_, congrArg Host.Outcome.next (mskEvaluate_swaps bad hb he hx hsp hp ha), ?_⟩,
    fun s p v ha h => ?_⟩
  · rw [mskJudge, if_pos hlen]
    exact mskShort_spec s m.isLt hflag
  · obtain ⟨hactive, hpending, hindex⟩ := mskSwapped_spec s m.isLt x.seq
    obtain ⟨hactive', hpending', hindex'⟩ := mskJudge_keeps (s.mskSwapped m x.seq) m.isLt x sp bad
    refine ⟨hactive'.trans hactive, beq_eq_false_iff_ne.2 ?_, hindex'.trans hindex, fun hlen => mskJudge_result bad ?_⟩
    · rw [hpending', hpending]
      decide
    · rwa [(mskSwapped_regsAndPorts s m x.seq).fa]
  · have hx : exec (.mskSwap p v) s = .next ((s.complete .ok).mskSwapWrite (v.toNat ||| 2 ^ 31)) :=
      congrArg Host.Outcome.next (hubWrite_accepts _ ha)
    exact ⟨_, hx, mskSwapWrite_spec (s := s.complete .ok) h⟩

end Sys2Proof.Machine
end

section
/-! SUPPORT. A condition that a Control Port forces on a REPLAY path occurs at the next sample that the path takes (R331, R334),
not at sample 0. -/

namespace Sys2Proof.Machine

namespace State

/-- The engine of `replayForced`, with FABRIC up: path 0 is in mode REPLAY and has taken one block of recorded samples. -/
def replayForcible : State := { replayForced with dom := { replayForced.dom with fabric := .on } }

theorem trgForce_replayForcible :
    ∃ t, exec (.trgForce .a false 1) replayForcible = .next t ∧ t.trg.queue.map (·.index) = [1024] :=
  ⟨_, rfl, by decide⟩

theorem accepts_force_replayForcible : replayForcible.accepts .a TRG_FORCE_LO.reg.addr none :=
  ⟨by decide, fun _ h => nomatch h⟩

end State

/-- Refutes O27: its clause on forces gives every forced condition the sample number 0, and on a REPLAY path it is that of the next
sample that the path takes (R331, R334). -/
theorem not_conditionsEvaluateAndDecide : ¬ Obligations.ConditionsEvaluateAndDecide := by
  rintro ⟨-, -, -, -, -, -, -, hforce, -⟩
  obtain ⟨t, ht, hindex⟩ := State.trgForce_replayForcible
  obtain ⟨u, hu, -, -, hqueue⟩ := hforce State.replayForcible .a false 1 State.accepts_force_replayForcible
  obtain rfl : t = u := Host.Outcome.next.inj (ht.symm.trans hu)
  rw [hqueue] at hindex
  exact absurd hindex (by decide)

end Sys2Proof.Machine
end

section
/-! SUPPORT. What a plain write leaves of a field, by the access codes of its row (R7), and the plain writes of TRG_RGN_CTL and
TRG_AVG_CTL. -/

namespace Sys2Proof.Machine

/-! ### What the access codes leave of a field (R7) -/

section

variable {r : RegRow} {lo width : Nat} (old v : Nat)

/-- A field of RW bits takes what is written. -/
theorem RegRow.bits_merge_rw (hw : r.w1c = 0) (hn : lo + width ≤ 32) (hrw : ∀ i < width, r.rw.testBit (lo + i) = true) :
    bits (r.merge old v) lo width = bits v lo width := by
  refine Nat.eq_of_testBit_eq fun i => ?_
  simp only [bits, Nat.testBit_mod_two_pow, Nat.testBit_div_two_pow]
  by_cases hi : i < width
  · have hbit : r.rw.testBit (i + lo) = true := Nat.add_comm i lo ▸ hrw i hi
    have hones : (0xFFFFFFFF).testBit (i + lo) = true := by
      rw [show 0xFFFFFFFF = 2 ^ 32 - 1 by decide, Nat.testBit_two_pow_sub_one]
      exact decide_eq_true (by omega)
    simp [RegRow.merge, hw, hbit, hones]
  · simp [hi]

/-- A field that no write reaches stays. -/
theorem RegRow.bits_merge_ro (hw : r.w1c = 0) (hc : r.clr = 0) (hn : lo + width ≤ 32)
    (hrw : ∀ i < width, r.rw.testBit (lo + i) = false) : bits (r.merge old v) lo width = bits old lo width := by
  refine Nat.eq_of_testBit_eq fun i => ?_
  simp only [bits, Nat.testBit_mod_two_pow, Nat.testBit_div_two_pow]
  by_cases hi : i < width
  · have hbit : r.rw.testBit (i + lo) = false := Nat.add_comm i lo ▸ hrw i hi
    have hones : (0xFFFFFFFF).testBit (i + lo) = true := by
      rw [show 0xFFFFFFFF = 2 ^ 32 - 1 by decide, Nat.testBit_two_pow_sub_one]
      exact decide_eq_true (by omega)
    simp [RegRow.merge, hw, hc, hbit, hones]
  · simp [hi]

end

/-- A word of an array of words that stand a stride apart. -/
theorem index_stride {st n k b : Nat} (hst : 4 ≤ st) (h : k < n) : RegRow.index [(st, n)] 1 (b + st * k - b) = some [k] := by
  have hd : st * k / st = k := Nat.mul_div_cancel_left k (by omega)
  simp only [RegRow.index, Nat.add_sub_cancel_left, hd, Nat.mul_mod_right]
  rw [if_pos h]
  rfl

/-- The rows of the trigger block stand at its offsets (R38). -/
theorem rowsAt_trg {off : Nat} (h : 0x180000 ≤ off ∧ off < 0x1a0000) : rowsAt off = rowsTrg := by
  unfold rowsAt
  iterate 10 rw [if_neg (by omega)]
  exact if_pos h.2

/-- The row of TRG_RGN_CTL. -/
def rgnCtlRow : RegRow := ⟨0x184000, [(0x40, 64)], 1, .one, fun _ => 0x0, 0x3303f01, 0x0, 0x0, 0x0, 0x0, none⟩

/-- The row of TRG_AVG_CTL. -/
def avgCtlRow : RegRow := ⟨0x188200, [(0x10, 4)], 1, .one, fun _ => 0x0, 0xffff, 0x0, 0x0, 0x0, 0x0, none⟩

theorem findRow_rgnCtl {r : Nat} (h : r < 64) : findRow (TRG_RGN_CTL.reg r).addr = some (rgnCtlRow, [r]) := by
  unfold findRow
  rw [rowsAt_trg (by simp only [TRG_RGN_CTL.reg]; omega), rowsTrg]
  iterate 14 rw [findIn_skip (by simp only [RegRow.misses, TRG_RGN_CTL.reg]; omega)]
  exact findIn_here (Nat.le_add_right _ _) (index_stride (by decide) h)

theorem findRow_avgCtl {p : Nat} (h : p < 4) : findRow (TRG_AVG_CTL.reg p).addr = some (avgCtlRow, [p]) := by
  unfold findRow
  rw [rowsAt_trg (by simp only [TRG_AVG_CTL.reg]; omega), rowsTrg]
  iterate 37 rw [findIn_skip (by simp only [RegRow.misses, TRG_AVG_CTL.reg]; omega)]
  exact findIn_here (Nat.le_add_right _ _) (index_stride (by decide) h)

/-- Replacing a field leaves a bit outside it alone. -/
theorem bit_insertBits_ne (old v : Nat) {lo width i : Nat} (h : i + 1 ≤ lo ∨ lo + width ≤ i) :
    bit (insertBits old lo width v) i = bit old i :=
  congrArg (· == 1) (bits_insertBits_ne (width' := 1) old v h)

namespace State

/-! ### Writes of the two registers -/

/-- A field of a register of one word, as a part of its word. -/
theorem f_part (s : State) {l m : Loc} (ha : m.addr = l.addr) (hr : m.rst = l.rst) (hl : l.lo = 0) (hw : l.width = 32)
    (hn : m.lo + m.width ≤ 32) : s.f m = bits (s.f l) m.lo m.width := by
  have hreg : s.f l = s.regVal l % 2 ^ 32 := by
    unfold f bits
    rw [hl, hw, Nat.pow_zero, Nat.div_one]
  have hval : s.regVal m = s.regVal l := by
    unfold regVal
    rw [ha, hr, if_pos hn, if_pos (by omega)]
  rw [hreg, bits_mod _ hn, f, hval]

/-- A plain write changes the register file alone. -/
theorem plainWrite_eq_regs (s : State) (off v : Nat) : s.plainWrite off v = { s with regs := (s.plainWrite off v).regs } := by
  unfold plainWrite
  split <;> rfl

section

variable (s : State) {r p : Nat} (v : Nat)

/-- A write of TRG_RGN_CTL: the path is taken, the trigger state stays (R353). -/
theorem plainWrite_rgnCtl (h : r < 64) :
    (s.plainWrite (TRG_RGN_CTL.reg r).addr v).f (TRG_RGN_CTL.path r) = bits v 20 2 ∧
      (s.plainWrite (TRG_RGN_CTL.reg r).addr v).rgnState r = s.rgnState r ∧
      s.onlyFields (s.plainWrite (TRG_RGN_CTL.reg r).addr v) [TRG_RGN_CTL.reg r] := by
  obtain ⟨-, hf, ho⟩ := plainWrite_word (s := s) (l := TRG_RGN_CTL.reg r) (v := v) rfl rfl (findRow_rgnCtl h) rfl
  have hpart : ∀ (t : State) (m : Loc), m.addr = (TRG_RGN_CTL.reg r).addr → m.rst = 0 → m.lo + m.width ≤ 32 →
      t.f m = bits (t.f (TRG_RGN_CTL.reg r)) m.lo m.width := fun t m ha hr => f_part t ha hr rfl rfl
  refine ⟨?_, ?_, ho⟩
  · rw [hpart _ (TRG_RGN_CTL.path r) rfl rfl (by show 20 + 2 ≤ 32; omega), hf, bits_mod _ (by show 20 + 2 ≤ 32; omega)]
    exact RegRow.bits_merge_rw (lo := 20) (width := 2) _ _ rfl (by decide) (by decide)
  · rw [rgnState, rgnState, hpart _ (TRG_RGN_CTL.state r) rfl rfl (by show 28 + 2 ≤ 32; omega), hf,
      bits_mod _ (by show 28 + 2 ≤ 32; omega), hpart s (TRG_RGN_CTL.state r) rfl rfl (by show 28 + 2 ≤ 32; omega)]
    exact RegRow.bits_merge_ro (lo := 28) (width := 2) _ _ rfl rfl (by decide) (by decide)

/-- A write of TRG_AVG_CTL: the count of triggers is taken (R354). -/
theorem plainWrite_avgCtl (h : p < 4) :
    (s.plainWrite (TRG_AVG_CTL.reg p).addr v).f (TRG_AVG_CTL.a_m1 p) = bits v 0 16 ∧
      s.onlyFields (s.plainWrite (TRG_AVG_CTL.reg p).addr v) [TRG_AVG_CTL.reg p] := by
  obtain ⟨-, hf, ho⟩ := plainWrite_word (s := s) (l := TRG_AVG_CTL.reg p) (v := v) rfl rfl (findRow_avgCtl h) rfl
  refine ⟨?_, ho⟩
  rw [f_part _ (l := TRG_AVG_CTL.reg p) (m := TRG_AVG_CTL.a_m1 p) rfl rfl rfl rfl (by show 0 + 16 ≤ 32; omega), hf,
    bits_mod _ (by show 0 + 16 ≤ 32; omega)]
  exact RegRow.bits_merge_rw (lo := 0) (width := 16) _ _ rfl (by decide) (by decide)

end

/-- Registers may be added to those that may have changed. -/
theorem onlyFields_mono {s t : State} {ls ms : List Loc} (h : s.onlyFields t ls) (hs : ls ⊆ ms) : s.onlyFields t ms :=
  wordsBut_mono h fun _ ⟨l, hl, hc⟩ => ⟨l, hs hl, hc⟩

end State

end Sys2Proof.Machine
end

section
/-! SUPPORT. Regions and averagers (R340, R342, R353, R354): what a region shows when its trigger state changes, what an arm, a
disarm and a reset do, and O28 from them. -/

namespace Sys2Proof.Machine

namespace State

/-! ### What a region shows (R379, R380) -/

/-- Nothing of the state but register words and the mirror image has changed. -/
def RegsAndMirror (s t : State) : Prop := t = { s with regs := t.regs, mirror := t.mirror }

namespace RegsAndMirror

variable {s t u : State}

theorem trans (h : RegsAndMirror s t) (k : RegsAndMirror t u) : RegsAndMirror s u := by
  unfold RegsAndMirror at *
  rw [k, h]

theorem set (s : State) (l : Loc) (v : Nat) : RegsAndMirror s (s.set l v) := by
  unfold RegsAndMirror
  rw [set_eq_regs]

theorem touch (s : State) (group minTicks : Nat) (content : State → List (Nat × Nat)) :
    RegsAndMirror s (s.touch group minTicks content) := by
  unfold State.touch
  dsimp only
  split <;> rfl

theorem bus (h : RegsAndMirror s t) : t.bus = s.bus := (congrArg State.bus h).trans rfl

theorem region (h : RegsAndMirror s t) (r : Nat) : t.region r = s.region r := (congrArg (State.region · r) h).trans rfl

end RegsAndMirror

theorem touch_regs (s : State) (group minTicks : Nat) (content : State → List (Nat × Nat)) :
    (s.touch group minTicks content).regs = s.regs := by
  unfold State.touch
  dsimp only
  split <;> rfl

theorem capShowOne_spec (s : State) (r : Nat) :
    RegsAndMirror s (s.capShowOne r) ∧ s.onlyFields (s.capShowOne r) [CAP_REGION_STATUS.reg r] := by
  unfold capShowOne
  extract_lets x holders held shown
  have hshown : RegsAndMirror s shown ∧ s.onlyFields shown [CAP_REGION_STATUS.reg r] :=
    ⟨((RegsAndMirror.set _ _ _).trans (.set _ _ _)).trans (.set _ _ _),
      wordsBut_trans (wordsBut_trans
        (onlyFields_set_of_addr s _ (l := CAP_REGION_STATUS.leases r) (by show 16 + 8 ≤ 32; omega) rfl)
        (onlyFields_set_of_addr _ _ (l := CAP_REGION_STATUS.holders r) (by show 10 + 6 ≤ 32; omega) rfl))
        (onlyFields_set_of_addr _ _ (l := CAP_REGION_STATUS.writing r) (by show 8 + 1 ≤ 32; omega) rfl)⟩
  split
  · exact hshown
  · exact ⟨hshown.1.trans (.touch _ _ _ _), wordsBut_trans hshown.2 (wordsBut_of_regs (touch_regs _ _ _ _))⟩

/-- A region and the one whose lease it took show their state, and nothing else moves. -/
theorem capShow_spec (s : State) (r : Nat) : RegsAndMirror s (s.capShow r) ∧ s.onlyFields (s.capShow r) (s.statusOf r) := by
  obtain ⟨hone, hwords⟩ := capShowOne_spec s r
  unfold capShow statusOf
  cases (s.region r).recLease with
  | none => exact ⟨hone, hwords⟩
  | some q =>
    obtain ⟨htwo, hwords'⟩ := capShowOne_spec (s.capShowOne r) q
    exact ⟨hone.trans htwo, wordsBut_trans (onlyFields_mono hwords (by simp)) (onlyFields_mono hwords' (by simp))⟩

/-! ### The trigger state of a region (R340, R342) -/

/-- The state once region `r` is in a trigger state, with what its registers do not show, and shows it. -/
def rgnInto (s : State) (r : Nat) (x : RegionSt) (n : Nat) : State :=
  ((s.setRegion r x).set (TRG_RGN_CTL.state r) n).capShow r

theorem rgnInto_spec (s : State) (r : Nat) (x : RegionSt) {n : Nat} (hn : n < 4)
    (hx : x.recLease = (s.region r).recLease) :
    (s.rgnInto r x n).bus = s.bus ∧ (s.rgnInto r x n).rgnState r = n ∧ (s.rgnInto r x n).region r = x ∧
      (s.rgnInto r x n).f (TRG_RGN_CTL.path r) = s.f (TRG_RGN_CTL.path r) ∧
      s.onlyFields (s.rgnInto r x n) (TRG_RGN_CTL.reg r :: s.statusOf r) := by
  have hset : RegsAndMirror (s.setRegion r x) ((s.setRegion r x).set (TRG_RGN_CTL.state r) n) := .set _ _ _
  have hregion : ((s.setRegion r x).set (TRG_RGN_CTL.state r) n).region r = x :=
    (hset.region r).trans (setRegion_region_self _ _ _)
  obtain ⟨hshow, hwords⟩ := capShow_spec ((s.setRegion r x).set (TRG_RGN_CTL.state r) n) r
  have hctl : ¬ ∃ l ∈ ((s.setRegion r x).set (TRG_RGN_CTL.state r) n).statusOf r, l.covers (TRG_RGN_CTL.reg r).addr := by
    rintro ⟨l, hl, hc⟩
    have hst : ∃ q, l = CAP_REGION_STATUS.reg q := by
      unfold statusOf at hl
      simp only [List.mem_cons, List.mem_map, Option.mem_toList] at hl
      rcases hl with rfl | ⟨q, -, rfl⟩
      · exact ⟨_, rfl⟩
      · exact ⟨_, rfl⟩
    obtain ⟨q, rfl⟩ := hst
    simp only [Loc.covers, CAP_REGION_STATUS.reg, TRG_RGN_CTL.reg] at hc
    omega
  have hstatus : ((s.setRegion r x).set (TRG_RGN_CTL.state r) n).statusOf r = s.statusOf r := by
    rw [statusOf, hregion, hx, ← statusOf]
  refine ⟨hshow.bus.trans hset.bus, ?_, (hshow.region r).trans hregion, ?_, ?_⟩
  · refine (f_of_wordsBut hwords (l := TRG_RGN_CTL.state r) fun a hc => by
      rw [(covers_iff (by show 28 + 2 ≤ 32; omega) a).1 hc]; exact hctl).trans ?_
    exact (f_set_self _ _ _ (by show 28 + 2 ≤ 64; omega)).trans (Nat.mod_eq_of_lt hn)
  · refine (f_of_wordsBut hwords (l := TRG_RGN_CTL.path r) fun a hc => by
      rw [(covers_iff (by show 20 + 2 ≤ 32; omega) a).1 hc]; exact hctl).trans ?_
    exact f_set_beside (s.setRegion r x) (TRG_RGN_CTL.state r) (TRG_RGN_CTL.path r) n rfl rfl (by show 28 + 2 ≤ 32; omega)
      (by show 20 + 2 ≤ 32; omega) (.inl (by show 20 + 2 ≤ 28; omega))
  · have hone : s.onlyFields ((s.setRegion r x).set (TRG_RGN_CTL.state r) n) [TRG_RGN_CTL.reg r] :=
      onlyFields_set_of_addr (s.setRegion r x) n (by show 28 + 2 ≤ 32; omega) rfl
    rw [hstatus] at hwords
    exact wordsBut_trans (onlyFields_mono hone (by simp)) (onlyFields_mono hwords (List.subset_cons_self _ _))

/-- An arm that fits, of a region that is disarmed (R340, R371). -/
theorem rgnArm_fits {s : State} {r : Nat} (hs : s.rgnState r = 0) (ha : s.armFits r = true)
    (hf : s.capMode r = 2 ∨ s.fmtSuits r = true) (ix : Nat) :
    s.rgnArm r ix = s.rgnInto r
      { s.region r with spans := (ix, none) :: (s.region r).spans, since := ix, offAt := none } 1 := by
  have hfit : ¬ (s.rgnState r ≠ 0 ∨ (!s.armFits r) = true) := by simp [hs, ha]
  have hsuit : ¬ (s.capMode r < 2 ∧ (!s.fmtSuits r) = true) := by
    rcases hf with h | h <;> simp [h]
  unfold rgnArm
  rw [if_neg hfit, if_neg hsuit]
  rfl

/-- A disarm of an armed region (R342). -/
theorem rgnDisarm_armed {s : State} {r : Nat} (hs : s.rgnState r = 1) (ix : Nat) :
    s.rgnDisarm r ix = s.rgnInto r
      { s.region r with spans := closeSpan (s.region r).spans ix, offAt := some ix } 0 := by
  unfold rgnDisarm
  rw [hs]
  rfl

/-- A disarm of a busy region waits (R342). -/
theorem rgnDisarm_busy {s : State} {r : Nat} (hs : s.rgnState r = 2) (ix : Nat) :
    s.rgnDisarm r ix = s.setRegion r { s.region r with disarmPending := true } := by
  unfold rgnDisarm
  rw [hs]
  rfl

theorem rgnDisarm_other {s : State} {r : Nat} (h1 : s.rgnState r ≠ 1) (h2 : s.rgnState r ≠ 2) (ix : Nat) :
    s.rgnDisarm r ix = s := by
  unfold rgnDisarm
  split
  · exact absurd ‹_› h1
  · exact absurd ‹_› h2
  · rfl

/-- The end of the busy span (R342). -/
theorem rgnFree_eq (s : State) (r : Nat) :
    s.rgnFree r = s.rgnInto r
      { s.region r with
        disarmPending := false
        spans := if (!(s.region r).disarmPending && s.flag (TRG_RGN_CTL.rearm r)) = true then (s.region r).spans
          else closeSpan (s.region r).spans (s.busyEnd r) }
      (b2n (!(s.region r).disarmPending && s.flag (TRG_RGN_CTL.rearm r))) := rfl

/-! ### Writes of TRG_RGN_CTL (R340, R342, R353) -/

/-- The word that a write of TRG_RGN_CTL takes: of a region that is not disarmed the path stays (R353). -/
def rgnCtlWord (s : State) (r v : Nat) : Nat :=
  if s.rgnState r = 0 then v else insertBits v 20 2 (s.f (TRG_RGN_CTL.path r))

theorem bit_rgnCtlWord (s : State) (r v : Nat) {i : Nat} (h : i + 1 ≤ 20 ∨ 22 ≤ i) : bit (s.rgnCtlWord r v) i = bit v i := by
  unfold rgnCtlWord
  split
  · rfl
  · exact bit_insertBits_ne _ _ h

section

variable {s : State} {r v : Nat}

/-- Outside the scope of an ensemble a port's write takes effect (R532). -/
theorem rgnCtlPort_free (h : s.ensScoped ENS_SCOPE_RGN.reg r = false) : s.rgnCtlPort r v = s.rgnCtlWrite r v := by
  unfold rgnCtlPort
  rw [h]
  rfl

variable (h0 : bit v 0 = false)
include h0

/-- A write without avg is taken, and then its arm and its disarm. -/
theorem rgnCtlWrite_eq {u : State} (hu : u = s.plainWrite (TRG_RGN_CTL.reg r).addr (s.rgnCtlWord r v)) {ix : Nat}
    (hix : ix = u.indexAfter (u.f (TRG_RGN_CTL.path r)) u.now.bins) :
    s.rgnCtlWrite r v =
      if bit v 30 = true then (if bit v 31 = true then u.rgnArm r ix else u).rgnDisarm r ix
      else if bit v 31 = true then u.rgnArm r ix else u := by
  have h : ¬ (bit (s.rgnCtlWord r v) 0 && s.mode (bits (s.rgnCtlWord r v) 20 2) != 5) = true := by
    rw [s.bit_rgnCtlWord r v (by decide), h0, Bool.false_and]
    decide
  rw [← s.bit_rgnCtlWord r v (by decide : 30 + 1 ≤ 20 ∨ 22 ≤ 30),
    ← s.bit_rgnCtlWord r v (by decide : 31 + 1 ≤ 20 ∨ 22 ≤ 31)]
  subst hix hu
  unfold rgnCtlWrite
  exact if_neg h

end

/-- The first sample at or after a time rests on the blocks of the path and on its sequence number (R330). -/
theorem indexAfter_congr {s t : State} {p : Nat} (hq : t.f (GLB_SEQ.reg p) = s.f (GLB_SEQ.reg p)) (hf : t.fab = s.fab)
    (n : Nat) : t.indexAfter p n = s.indexAfter p n := by
  unfold indexAfter refAtTime path
  rw [hq, hf]

/-- A write of TRG_RGN_CTL with an arm that fits: a region that is disarmed is armed from the next sample of its path on (R340,
R371). -/
theorem rgnCtlWrite_arm_spec {s u : State} {r v : Nat} (hr : r < 64) (hs : s.rgnState r = 0) (h0 : bit v 0 = false)
    (h30 : bit v 30 = false) (h31 : bit v 31 = true) (hu : u = s.plainWrite (TRG_RGN_CTL.reg r).addr v)
    (ha : u.armFits r = true) (hf : u.capMode r = 2 ∨ u.fmtSuits r = true) :
    (s.rgnCtlWrite r v).bus = s.bus ∧ (s.rgnCtlWrite r v).rgnState r = 1 ∧
      ((s.rgnCtlWrite r v).region r).since = s.indexAfter (bits v 20 2) s.now.bins ∧
      ((s.rgnCtlWrite r v).region r).spans = (s.indexAfter (bits v 20 2) s.now.bins, none) :: (s.region r).spans ∧
      (s.rgnCtlWrite r v).f (TRG_RGN_CTL.path r) = bits v 20 2 ∧
      s.onlyFields (s.rgnCtlWrite r v) (TRG_RGN_CTL.reg r :: s.statusOf r) := by
  obtain ⟨hpath, hstate, honly⟩ := plainWrite_rgnCtl s v hr
  have heq := plainWrite_eq_regs s (TRG_RGN_CTL.reg r).addr v
  rw [← hu] at hpath hstate honly heq
  have hword : s.rgnCtlWord r v = v := if_pos hs
  have hregion : u.region r = s.region r := (congrArg (State.region · r) heq).trans rfl
  have hstatus : u.statusOf r = s.statusOf r := (congrArg (State.statusOf · r) heq).trans rfl
  have hseq : u.f (GLB_SEQ.reg (bits v 20 2)) = s.f (GLB_SEQ.reg (bits v 20 2)) := by
    have hlt := bits_lt v 20 2
    exact f_of_onlyFields honly (by show 0 + 32 ≤ 32; omega)
      (by simp only [Loc.covers, GLB_SEQ.reg, TRG_RGN_CTL.reg]; omega)
  have hix : s.indexAfter (bits v 20 2) s.now.bins = u.indexAfter (u.f (TRG_RGN_CTL.path r)) u.now.bins := by
    rw [hpath, (congrArg State.now heq).trans rfl]
    exact (indexAfter_congr hseq ((congrArg State.fab heq).trans rfl) _).symm
  rw [rgnCtlWrite_eq h0 (hword.symm ▸ hu) hix, if_neg (by rw [h30]; decide), if_pos h31,
    rgnArm_fits (hstate.trans hs) ha hf, hregion]
  obtain ⟨hb, hs', hr', hp, ho⟩ := rgnInto_spec u r
    { s.region r with
      spans := (s.indexAfter (bits v 20 2) s.now.bins, none) :: (s.region r).spans
      since := s.indexAfter (bits v 20 2) s.now.bins
      offAt := none } (n := 1) (by decide) (by rw [hregion])
  rw [hstatus] at ho
  exact ⟨hb.trans ((congrArg State.bus heq).trans rfl), hs', congrArg RegionSt.since hr', congrArg RegionSt.spans hr',
    hp.trans hpath, wordsBut_trans (onlyFields_mono honly (by simp)) ho⟩

/-- A write of TRG_RGN_CTL that disarms: an armed region is disarmed, a busy one waits (R342). -/
theorem rgnCtlWrite_disarm_spec (s : State) {r v : Nat} (hr : r < 64) (h0 : bit v 0 = false) (h30 : bit v 30 = true)
    (h31 : bit v 31 = false) :
    (s.rgnCtlWrite r v).bus = s.bus ∧ (s.rgnState r = 1 → (s.rgnCtlWrite r v).rgnState r = 0) ∧
      (s.rgnState r = 2 → (s.rgnCtlWrite r v).rgnState r = 2 ∧ ((s.rgnCtlWrite r v).region r).disarmPending = true) ∧
      s.onlyFields (s.rgnCtlWrite r v) (TRG_RGN_CTL.reg r :: s.statusOf r) := by
  obtain ⟨-, hstate, honly⟩ := plainWrite_rgnCtl s (s.rgnCtlWord r v) hr
  rw [rgnCtlWrite_eq h0 rfl rfl, if_pos h30, if_neg (by rw [h31]; decide)]
  have heq := plainWrite_eq_regs s (TRG_RGN_CTL.reg r).addr (s.rgnCtlWord r v)
  generalize s.plainWrite (TRG_RGN_CTL.reg r).addr (s.rgnCtlWord r v) = u at *
  have hbus : u.bus = s.bus := (congrArg State.bus heq).trans rfl
  have hstatus : u.statusOf r = s.statusOf r := (congrArg (State.statusOf · r) heq).trans rfl
  have hframe : s.onlyFields u (TRG_RGN_CTL.reg r :: s.statusOf r) :=
    onlyFields_mono honly (by simp)
  by_cases h1 : u.rgnState r = 1
  · rw [rgnDisarm_armed h1, ← hstate, h1]
    obtain ⟨hb, hs, -, -, ho⟩ := rgnInto_spec u r
      { u.region r with spans := closeSpan (u.region r).spans _, offAt := some _ } (n := 0) (by decide) rfl
    rw [hstatus] at ho
    exact ⟨hb.trans hbus, fun _ => hs, nofun, wordsBut_trans hframe ho⟩
  · by_cases h2 : u.rgnState r = 2
    · rw [rgnDisarm_busy h2, ← hstate, h2]
      exact ⟨hbus, nofun, fun _ => ⟨h2, by rw [setRegion_region_self]⟩, wordsBut_trans hframe (wordsBut_of_regs rfl)⟩
    · rw [rgnDisarm_other h1 h2, ← hstate]
      exact ⟨hbus, fun h => absurd h h1, fun h => absurd h h2, hframe⟩

/-! ### Averagers (R354) -/

/-- A write of TRG_AVG_CTL with reset empties the averager and takes the count of triggers. -/
theorem avgCtlWrite_reset_spec (s : State) {p v : Nat} (hp : p < 4) (h : bit v 31 = true) :
    (s.avgCtlWrite p v).bus = s.bus ∧ (s.avgCtlWrite p v).f (TRG_AVG_STATUS.added p) = 0 ∧
      (s.avgCtlWrite p v).f (TRG_AVG_CTL.a_m1 p) = bits v 0 16 ∧ ((s.avgCtlWrite p v).avgOf p).sums = [] ∧
      s.onlyFields (s.avgCtlWrite p v) [TRG_AVG_CTL.reg p, TRG_AVG_STATUS.reg p] := by
  obtain ⟨hcount, honly⟩ := plainWrite_avgCtl s v hp
  have heq := plainWrite_eq_regs s (TRG_AVG_CTL.reg p).addr v
  unfold avgCtlWrite
  rw [if_pos h]
  generalize s.plainWrite (TRG_AVG_CTL.reg p).addr v = u at *
  unfold avgReset
  generalize hm : u.setAvg p { u.avgOf p with sums := [], added := 0, skipped := 0, flags := 0 } = m
  have hregs : m.regs = u.regs := by subst hm; rfl
  have hset : m.onlyFields (m.set (TRG_AVG_STATUS.added p) 0) [TRG_AVG_STATUS.reg p] :=
    onlyFields_set_of_addr m _ (by show 16 + 16 ≤ 32; omega) rfl
  refine ⟨?_, f_set_self m _ 0 (by show 16 + 16 ≤ 64; omega), ?_, ?_, ?_⟩
  · rw [set_bus]
    subst hm
    exact (congrArg State.bus heq).trans rfl
  · rw [f_of_onlyFields (l := TRG_AVG_CTL.a_m1 p) hset (by show 0 + 32 ≤ 32; omega)
      (by simp only [Loc.covers, TRG_AVG_CTL.a_m1, TRG_AVG_STATUS.reg]; omega), f_congr _ hregs, hcount]
  · unfold avgOf
    rw [(RegsAndPorts.set m _ _).trg]
    subst hm
    exact congrArg AvgSt.sums (setAvg_avgOf_self _ _ _)
  · exact wordsBut_trans (wordsBut_trans (onlyFields_mono honly (by simp)) (wordsBut_of_regs hregs))
      (onlyFields_mono hset (by simp))

end State

open State

/-! ### The commands -/

section

variable {s : State} {p : Port} {r : Fin 64} {v : Word} (ha : s.accepts p (TRG_RGN_CTL.reg r).addr none)
  (he : s.ensScoped ENS_SCOPE_RGN.reg r = false)
include ha he

theorem exec_trgRgnArm : exec (.trgRgnArm p r v) s = .next ((s.complete .ok).rgnCtlWrite r (v.toNat ||| 2 ^ 31)) :=
  congrArg Host.Outcome.next ((hubWrite_accepts _ ha).trans (rgnCtlPort_free he))

theorem exec_trgRgnDisarm : exec (.trgRgnDisarm p r v) s = .next ((s.complete .ok).rgnCtlWrite r (v.toNat ||| 2 ^ 30)) :=
  congrArg Host.Outcome.next ((hubWrite_accepts _ ha).trans (rgnCtlPort_free he))

end

/-- The busy span of a region ends once its hold-off is over and no capture and no average of it is open (R342). -/
theorem exec_trgRgnHoldEnd {s : State} {r : Fin 64} (hs : s.rgnState r = 2)
    (hh : s.holdOver r (s.indexAfter (s.f (TRG_RGN_CTL.path r)) s.now.bins) 0 s.now.bins = true)
    (hc : (s.region r).captures = []) (hw : s.avgWaits r = false) :
    exec (.trgRgnHoldEnd r) s = .next (s.rgnFree r) :=
  if_pos ⟨hs, hh, by rw [hc]; rfl, by rw [hw]; rfl⟩

/-- A bit above a field leaves the field alone. -/
theorem bits_or_two_pow (v : Nat) {lo width i : Nat} (h : lo + width ≤ i) : bits (v ||| 2 ^ i) lo width = bits v lo width := by
  refine Nat.eq_of_testBit_eq fun k => ?_
  simp only [bits, Nat.testBit_mod_two_pow, Nat.testBit_div_two_pow, Nat.testBit_or]
  by_cases hk : k < width
  · rw [Nat.testBit_two_pow_of_ne (by omega), Bool.or_false]
  · simp [hk]

/-- Settles O28: the arm, the disarm and the end of the busy span as one change of the trigger state each, and a reset. -/
theorem regionsArmDisarmAndRearm : Obligations.RegionsArmDisarmAndRearm := by
  refine ⟨fun s u p r v ha he hs h0 h30 hu hfit hsuit => ⟨_, exec_trgRgnArm ha he, ?_⟩,
    fun s p r v ha he h0 h31 => ⟨_, exec_trgRgnDisarm ha he, ?_⟩,
    fun s r hs hh hc hw => ⟨_, exec_trgRgnHoldEnd hs hh hc hw, ?_⟩,
    fun s p path v ha => ⟨_, congrArg Host.Outcome.next (hubWrite_accepts _ ha), ?_⟩⟩
  · have h := rgnCtlWrite_arm_spec (s := s.complete .ok) r.isLt hs ((bit_or_two_pow_ne (by decide)).trans h0)
      ((bit_or_two_pow_ne (by decide)).trans h30) (bit_or_two_pow_self _ _) hu hfit hsuit
    rw [bits_or_two_pow _ (by decide)] at h
    exact h
  · exact rgnCtlWrite_disarm_spec (s.complete .ok) r.isLt ((bit_or_two_pow_ne (by decide)).trans h0) (bit_or_two_pow_self _ _)
      ((bit_or_two_pow_ne (by decide)).trans h31)
  · rw [rgnFree_eq]
    obtain ⟨-, hstate, hr, -, ho⟩ := rgnInto_spec s r
      { s.region r with
        disarmPending := false
        spans := if (!(s.region r).disarmPending && s.flag (TRG_RGN_CTL.rearm r)) = true then (s.region r).spans
          else closeSpan (s.region r).spans (s.busyEnd r) }
      (n := b2n (!(s.region r).disarmPending && s.flag (TRG_RGN_CTL.rearm r))) (by unfold b2n; split <;> decide) rfl
    refine ⟨hstate.trans ?_, congrArg RegionSt.disarmPending hr, ho⟩
    simp [b2n]
  · obtain ⟨hb, hadded, hcount, hsums, ho⟩ :=
      avgCtlWrite_reset_spec (s.complete .ok) path.isLt (bit_or_two_pow_self v.toNat 31)
    refine ⟨hb, hadded, hcount.trans ?_, hsums, ho⟩
    rw [bits_or_two_pow _ (by decide)]
    simp [bits]

end Sys2Proof.Machine
end

section
/-! SUPPORT. What statistics, occurrences, pulses and the marks and events of conditions leave of the trigger inputs and their
status words (R345). -/

namespace Sys2Proof.Machine

namespace State

/-! ### Bits of a status word -/

section

variable {s t : State} {l m : Loc}

/-- A field of one word reads as before where that word does. -/
theorem f_of_word (hl : l.lo + l.width ≤ 32) (h : ∀ d, Tab.get d t.regs l.addr = Tab.get d s.regs l.addr) : t.f l = s.f l :=
  f_of_words l fun d a hc => by rw [(covers_iff hl a).1 hc]; exact h d

theorem flag_set_self (s : State) (b : Bool) (hl : l.lo + l.width ≤ 64) (hw : l.width = 1) : (s.set l (b2n b)).flag l = b := by
  rw [flag, f_set_self _ _ _ hl, hw]
  cases b <;> rfl

end

/-! ### What reaches neither the state nor the status of an input -/

/-- The status word of input `j` and the state of every trigger input stay. -/
structure KeepsInput (j : Nat) (s t : State) : Prop where
  status : ∀ d, Tab.get d t.regs (TRG_IN_STATUS.reg j).addr = Tab.get d s.regs (TRG_IN_STATUS.reg j).addr
  ins : t.trg.ins = s.trg.ins

namespace KeepsInput

variable {j : Nat} {s t u : State}

theorem refl (s : State) : KeepsInput j s s := ⟨fun _ => rfl, rfl⟩

theorem trans (h : KeepsInput j s t) (k : KeepsInput j t u) : KeepsInput j s u :=
  ⟨fun d => (k.status d).trans (h.status d), k.ins.trans h.ins⟩

theorem ofRegs (hr : t.regs = s.regs) (hi : t.trg.ins = s.trg.ins) : KeepsInput j s t := ⟨fun _ => by rw [hr], hi⟩

theorem ofWords {P : Nat → Prop} (hw : s.wordsBut t P) (hp : ¬ P (TRG_IN_STATUS.reg j).addr) (ht : t.trg = s.trg) :
    KeepsInput j s t := ⟨fun d => hw d _ hp, by rw [ht]⟩

theorem set {l : Loc} (s : State) (v : Nat) (h : ¬ l.covers (TRG_IN_STATUS.reg j).addr) : KeepsInput j s (s.set l v) :=
  ofWords (wordsBut_set fun _ => id) h (RegsAndPorts.set s l v).trg

theorem trgIn (h : KeepsInput j s t) (i : Nat) : t.trgIn i = s.trgIn i := by
  unfold State.trgIn
  rw [h.ins]

/-- Every field of the status word reads as before. -/
theorem f (h : KeepsInput j s t) (l : Loc) (ha : l.addr = (TRG_IN_STATUS.reg j).addr) (hw : l.lo + l.width ≤ 32) :
    t.f l = s.f l := f_of_word hw (by rw [ha]; exact h.status)

theorem level (h : KeepsInput j s t) : t.flag (TRG_IN_STATUS.level j) = s.flag (TRG_IN_STATUS.level j) :=
  congrArg (· == 1) (h.f (TRG_IN_STATUS.level j) rfl (by show 1 + 1 ≤ 32; omega))

theorem stuck (h : KeepsInput j s t) : t.flag (TRG_IN_STATUS.stuck j) = s.flag (TRG_IN_STATUS.stuck j) :=
  congrArg (· == 1) (h.f (TRG_IN_STATUS.stuck j) rfl (by show 2 + 1 ≤ 32; omega))

/-! ### Statistics, occurrences and pulses -/

theorem statTake (s : State) {k : Nat} (v : Int) (bad : Bool) : KeepsInput j s (s.statTake k v bad) := by
  unfold State.statTake
  dsimp only
  split
  · exact set (l := TIU_STAT_STATUS.skipped k) s _ (by simp only [Loc.covers, TRG_IN_STATUS.reg, TIU_STAT_STATUS.skipped]; omega)
  · split <;> exact ofRegs rfl rfl

theorem statEdge (s : State) (i t : Nat) (bad : Bool) (k : Nat) : KeepsInput j s (s.statEdge i t bad k) := by
  have hstart : ∀ (u : State) (a : Option Nat) (b : Bool), KeepsInput j u (u.statStart k a b) := fun _ _ _ => ofRegs rfl rfl
  unfold State.statEdge
  extract_lets x m period ends taken
  have htaken : KeepsInput j s taken := by
    unfold taken
    split
    · exact (statTake s _ _).trans (hstart _ _ _)
    · exact refl s
  split
  · exact refl s
  · split
    · exact refl s
    · split
      · exact htaken.trans (hstart _ _ _)
      · exact htaken

theorem statFeed (s : State) (i t : Nat) (bad : Bool) : KeepsInput j s (s.statFeed i t bad) :=
  (((statEdge s i t bad 0).trans (statEdge _ i t bad 1)).trans (statEdge _ i t bad 2)).trans (statEdge _ i t bad 3)

theorem enqueueAll (s : State) (t : Stamp) (cs : List Nat) :
    KeepsInput j s (cs.foldl (fun s c => s.enqueueAt c t .input) s) := by
  induction cs generalizing s with
  | nil => exact refl s
  | cons c cs ih => exact (ofRegs rfl rfl : KeepsInput j s (s.enqueueAt c t .input)).trans (ih _)

theorem inputEdge (s : State) (sel : Nat) (active : Bool) (t : Stamp) : KeepsInput j s (s.inputEdge sel active t) := by
  unfold State.inputEdge
  split
  · exact refl s
  · exact enqueueAll s t _

theorem outPulse (s : State) (o : Nat) : KeepsInput j s (s.outPulse o) := by
  unfold State.outPulse
  split <;> exact ofRegs rfl rfl

theorem directPulse (s : State) (code : Nat) (os : List Nat) : KeepsInput j s (s.directPulse code os) := by
  induction os generalizing s with
  | nil => exact refl s
  | cons o os ih =>
    refine KeepsInput.trans ?_ (ih _)
    split
    · exact outPulse s o
    · exact refl s

end KeepsInput

/-! ### The conditions of an input -/

/-- Condition `c` takes input `sel`, as TRG_COND says it (R325). -/
theorem mem_condsOfInput {s : State} {sel c : Nat} :
    c ∈ s.condsOfInput sel ↔ c < 64 ∧ s.f (TRG_COND.kind c) = 5 ∧ s.f (TRG_COND.sel c) = sel := by
  simp [condsOfInput]

theorem raiseAll_spec (s : State) {ns : List Nat} (h : ∀ n ∈ ns, n < 1024) :
    s.wordsBut (s.raiseAll ns) eventWord ∧ RegsAndPorts s (s.raiseAll ns) := by
  induction ns generalizing s with
  | nil => exact ⟨wordsBut_refl _ _, .refl s⟩
  | cons n ns ih =>
    rw [List.forall_mem_cons] at h
    obtain ⟨hwords, hrest⟩ := ih (s.raise n) h.2
    exact ⟨wordsBut_trans (wordsBut_raise h.1 fun _ => id) hwords, (RegsAndPorts.raise s n).trans hrest⟩

/-- The events of the conditions that take an input lie in the event words. -/
theorem inputEvents_spec (s : State) (sel : Nat) {k : Nat} (hk : k < 4) :
    s.wordsBut (s.inputEvents sel k) eventWord ∧ RegsAndPorts s (s.inputEvents sel k) := by
  refine raiseAll_spec s fun n hn => ?_
  obtain ⟨c, hc, rfl⟩ := List.mem_map.1 hn
  have := (mem_condsOfInput.1 hc).1
  omega

theorem KeepsInput.inputEvents {j : Nat} (s : State) (sel : Nat) {k : Nat} (hj : j < 4) (hk : k < 4) :
    KeepsInput j s (s.inputEvents sel k) :=
  .ofWords (inputEvents_spec s sel hk).1 (by simp only [eventWord, TRG_IN_STATUS.reg]; omega) (inputEvents_spec s sel hk).2.trg

theorem KeepsInput.condStuck {j : Nat} (s : State) (v : Nat) {cs : List Nat} (hj : j < 4) (hc : ∀ c ∈ cs, c < 64) :
    KeepsInput j s (s.condStuck v cs) := by
  induction cs generalizing s with
  | nil => exact .refl s
  | cons c cs ih =>
    rw [List.forall_mem_cons] at hc
    exact (KeepsInput.set s v (by simp only [Loc.covers, TRG_IN_STATUS.reg, TRG_STATUS.stuck]; omega)).trans (ih _ hc.2)

/-- The conditions of a list take the mark, and no other does. -/
theorem f_condStuck (s : State) (v c : Nat) (cs : List Nat) :
    (s.condStuck v cs).f (TRG_STATUS.stuck c) = if c ∈ cs then v % 2 else s.f (TRG_STATUS.stuck c) := by
  induction cs generalizing s with
  | nil => rfl
  | cons d ds ih =>
    rw [State.condStuck, ih]
    by_cases hd : c = d
    · subst hd
      rw [if_pos List.mem_cons_self, f_set_self _ _ _ (by show 2 + 1 ≤ 64; omega)]
      exact ite_self _
    · rw [f_set_ne _ _ _ _ (by simp only [wordsApart, TRG_STATUS.stuck]; omega)]
      simp [hd]

end State

end Sys2Proof.Machine
end

section
/-! SUPPORT. Trigger inputs and outputs (R345 to R348): what an edge, a stuck input and a pulse do, and O29 from them. -/

namespace Sys2Proof.Machine

namespace State

/-! ### An edge -/

/-- The state once an edge shows in the level of an enabled input, and in the clock at which it went active (R345, R346). -/
def edgeSeen (s : State) (i : Nat) (high : Bool) : State :=
  let active := xor high (s.flag (TRG_IN_CTL.pol i))
  let s := s.setTrgIn i { s.trgIn i with pin := high }
  (s.set (TRG_IN_STATUS.level i) (b2n active)).setTrgIn i
    { s.trgIn i with activeAt := if active then s.time.clk else (s.trgIn i).activeAt }

section

variable (s : State) (j : Nat) (high : Bool)

theorem edgeSeen_onlyFields : s.onlyFields (s.edgeSeen j high) [TRG_IN_STATUS.reg j] :=
  onlyFields_set_of_addr (s.setTrgIn j { s.trgIn j with pin := high }) _ (by show 1 + 1 ≤ 32; omega) rfl

theorem edgeSeen_level : (s.edgeSeen j high).flag (TRG_IN_STATUS.level j) = (high != s.flag (TRG_IN_CTL.pol j)) :=
  flag_set_self _ _ (by show 1 + 1 ≤ 64; omega) rfl

/-- A field that stands above the level in the status word reads as before. -/
theorem f_edgeSeen_beside (l : Loc) (ha : l.addr = (TRG_IN_STATUS.reg j).addr) (hr : l.rst = 0) (hw : l.lo + l.width ≤ 32)
    (hlo : 2 ≤ l.lo) : (s.edgeSeen j high).f l = s.f l :=
  f_set_beside (s.setTrgIn j { s.trgIn j with pin := high }) (TRG_IN_STATUS.level j) l _ ha hr (by show 1 + 1 ≤ 32; omega) hw
    (.inr (by show 1 + 1 ≤ l.lo; omega))

theorem edgeSeen_stuck : (s.edgeSeen j high).flag (TRG_IN_STATUS.stuck j) = s.flag (TRG_IN_STATUS.stuck j) :=
  congrArg (· == 1) (s.f_edgeSeen_beside j high (TRG_IN_STATUS.stuck j) rfl rfl (by show 2 + 1 ≤ 32; omega)
    (by show 2 ≤ 2; omega))

theorem f_edgeSeen_crowded : (s.edgeSeen j high).f (TRG_IN_STATUS.crowded j) = s.f (TRG_IN_STATUS.crowded j) :=
  s.f_edgeSeen_beside j high (TRG_IN_STATUS.crowded j) rfl rfl (by show 16 + 16 ≤ 32; omega) (by show 2 ≤ 16; omega)

theorem edgeSeen_trgIn_last : ((s.edgeSeen j high).trgIn j).last = (s.trgIn j).last := by
  simp [edgeSeen]

/-- The stamp of an edge rests on the table of its interpolator alone. -/
theorem edgeStamp_congr {s t : State} {i : Nat} (h : ∀ k, t.f (TIU_CDC_TABLE.width i k) = s.f (TIU_CDC_TABLE.width i k))
    (tick b : Nat) (skew : Int) : t.edgeStamp i tick b skew = s.edgeStamp i tick b skew := by
  unfold edgeStamp fineTwice
  simp only [h]

theorem edgeSeen_edgeStamp {j : Nat} (hj : j < 4) (i tick b : Nat) (skew : Int) :
    (s.edgeSeen j high).edgeStamp i tick b skew = s.edgeStamp i tick b skew :=
  edgeStamp_congr (fun k => f_of_onlyFields (s.edgeSeen_onlyFields j high) (by show 0 + 32 ≤ 32; omega) (by
    simp only [Loc.covers, TIU_CDC_TABLE.width, TRG_IN_STATUS.reg]
    omega)) _ _ _

end

/-- The state once a crowded or stuck edge has left its mark (R345). -/
def edgeMarked (s : State) (i : Nat) : State := s.setTrgIn i { s.trgIn i with marked := true }

theorem edgeMarked_last (s : State) (i : Nat) : ((s.edgeMarked i).trgIn i).last = (s.trgIn i).last := by
  simp [edgeMarked]

/-- The state once an edge at a stamp is the last one that was kept (R345). -/
def edgeKept (s : State) (i : Nat) (raw : Stamp) : State := s.setTrgIn i { s.trgIn i with last := some raw, marked := false }

/-- The state once an edge of a stuck input has been seen: its mark, and where it has gone inactive the end of being stuck
(R345). -/
def edgeStuck (s : State) (i : Nat) (active : Bool) : State :=
  if active then s.edgeMarked i
  else ((s.edgeMarked i).set (TRG_IN_STATUS.stuck i) 0).condStuck 0 ((s.edgeMarked i).condsOfInput i)

/-- The state once an edge has come within the hold-off: its mark, its count and its events (R345). -/
def edgeCrowded (s : State) (i : Nat) : State :=
  ((s.edgeMarked i).bump (TRG_IN_STATUS.crowded i)).inputEvents i 3

/-- The state once an edge at a stamp has been kept: it reaches the statistics, the conditions and the outputs (R345, R346). -/
def edgeTaken (s : State) (i : Nat) (active : Bool) (raw t : Stamp) (fine : Nat) : State :=
  let s := ((s.edgeKept i raw).statFeed (18 + i) fine (s.trgIn i).marked).inputEdge i active t
  if active then s.directPulse (8 + i) [0, 1, 2, 3] else s

theorem trgIn_enabled {s : State} {j : Nat} (he : s.flag (TRG_IN_CTL.en j) = true) (high : Bool) :
    (s.setTrgIn j { s.trgIn j with pin := high }).flag (TRG_IN_CTL.en j) = true := he

section

variable {s : State} {j : Nat} {high : Bool} {tick bin : Nat} (he : s.flag (TRG_IN_CTL.en j) = true)
include he

theorem triginEdge_stuck (h : s.flag (TRG_IN_STATUS.stuck j) = true) :
    s.triginEdge j high tick bin = (s.edgeSeen j high).edgeStuck j (xor high (s.flag (TRG_IN_CTL.pol j))) := by
  unfold triginEdge
  exact (if_neg (by rw [trgIn_enabled he high]; decide)).trans (if_pos ((s.edgeSeen_stuck j high).trans h))

variable (hj : j < 4) (h : s.flag (TRG_IN_STATUS.stuck j) = false)
include hj h

/-- An edge of an input that is not stuck is kept or crowded, by its distance from the last one that was kept. -/
theorem triginEdge_free :
    s.triginEdge j high tick bin =
      if crowds (s.trgIn j).last (s.edgeStamp (18 + j) tick bin 0).bins (s.f (TRG_IN_CTL.holdoff j)) = true then
        (s.edgeSeen j high).edgeCrowded j
      else (s.edgeSeen j high).edgeTaken j (xor high (s.flag (TRG_IN_CTL.pol j))) (s.edgeStamp (18 + j) tick bin 0)
        ((s.edgeSeen j high).edgeStamp (18 + j) tick bin (signed 16 ((s.edgeSeen j high).f (TRG_IN_SKEW.skew j))))
        ((s.edgeSeen j high).fineTime (18 + j) tick bin (signed 16 ((s.edgeSeen j high).f (TRG_IN_SKEW.skew j)))) := by
  have hoff : (s.edgeSeen j high).f (TRG_IN_CTL.holdoff j) = s.f (TRG_IN_CTL.holdoff j) :=
    f_of_onlyFields (s.edgeSeen_onlyFields j high) (by show 0 + 32 ≤ 32; omega) (by
      simp only [Loc.covers, TRG_IN_CTL.holdoff, TRG_IN_STATUS.reg]
      omega)
  have hfree : ¬ (s.edgeSeen j high).flag (TRG_IN_STATUS.stuck j) = true := by
    rw [edgeSeen_stuck, h]
    decide
  rw [← s.edgeSeen_trgIn_last j high, ← s.edgeSeen_edgeStamp high hj, ← hoff]
  unfold triginEdge
  exact (if_neg (by rw [trgIn_enabled he high]; decide)).trans (if_neg hfree)

end

/-! ### What becomes of the input -/

section

variable (s : State) {j : Nat} (hj : j < 4)
include hj

/-- A stuck input stays stuck while it is active, and keeps the edge that it has kept. -/
theorem edgeStuck_spec (active : Bool) (h : s.flag (TRG_IN_STATUS.stuck j) = true) :
    (s.edgeStuck j active).flag (TRG_IN_STATUS.level j) = s.flag (TRG_IN_STATUS.level j) ∧
      (s.edgeStuck j active).flag (TRG_IN_STATUS.stuck j) = active ∧
      ((s.edgeStuck j active).trgIn j).last = (s.trgIn j).last := by
  unfold edgeStuck
  cases active with
  | true => exact ⟨rfl, h, s.edgeMarked_last j⟩
  | false =>
    rw [if_neg (by decide)]
    generalize hm : s.edgeMarked j = m
    have hkeep : KeepsInput j (m.set (TRG_IN_STATUS.stuck j) 0)
        ((m.set (TRG_IN_STATUS.stuck j) 0).condStuck 0 (m.condsOfInput j)) :=
      .condStuck _ _ hj fun c hc => (mem_condsOfInput.1 hc).1
    have hlast : ((m.set (TRG_IN_STATUS.stuck j) 0).trgIn j).last = (m.trgIn j).last := by
      unfold State.trgIn
      rw [(RegsAndPorts.set m _ _).trg]
    refine ⟨hkeep.level.trans (congrArg (· == 1) ?_),
      hkeep.stuck.trans (flag_set_self m false (by show 2 + 1 ≤ 64; omega) rfl),
      (congrArg TrigIn.last (hkeep.trgIn j)).trans (hlast.trans ?_)⟩ <;> subst hm
    · exact f_set_beside _ (TRG_IN_STATUS.stuck j) (TRG_IN_STATUS.level j) _ rfl rfl (by show 2 + 1 ≤ 32; omega)
        (by show 1 + 1 ≤ 32; omega) (.inl (by show 1 + 1 ≤ 2; omega))
    · exact s.edgeMarked_last j

/-- A crowded edge is counted and marks the next one (R345). -/
theorem edgeCrowded_spec :
    (s.edgeCrowded j).flag (TRG_IN_STATUS.level j) = s.flag (TRG_IN_STATUS.level j) ∧
      (s.edgeCrowded j).f (TRG_IN_STATUS.crowded j) = min 65535 (s.f (TRG_IN_STATUS.crowded j) + 1) ∧
      ((s.edgeCrowded j).trgIn j).marked = true ∧ s.onlyFieldsEvents (s.edgeCrowded j) [TRG_IN_STATUS.reg j] := by
  unfold edgeCrowded
  generalize hm : s.edgeMarked j = m
  have hkeep : KeepsInput j (m.bump (TRG_IN_STATUS.crowded j)) ((m.bump (TRG_IN_STATUS.crowded j)).inputEvents j 3) :=
    .inputEvents _ _ hj (by decide)
  have hmarked : ((m.bump (TRG_IN_STATUS.crowded j)).trgIn j).marked = (m.trgIn j).marked := by
    unfold State.trgIn
    rw [(RegsAndPorts.bump m _).trg]
  have hbump : m.onlyFields (m.bump (TRG_IN_STATUS.crowded j)) [TRG_IN_STATUS.reg j] :=
    onlyFields_set_of_addr m _ (by show 16 + 16 ≤ 32; omega) rfl
  have hevents := (inputEvents_spec (m.bump (TRG_IN_STATUS.crowded j)) j (k := 3) (by decide)).1
  refine ⟨hkeep.level.trans (congrArg (· == 1) ?_),
    (hkeep.f (TRG_IN_STATUS.crowded j) rfl (by show 16 + 16 ≤ 32; omega)).trans ?_,
    (congrArg TrigIn.marked (hkeep.trgIn j)).trans (hmarked.trans ?_), ?_⟩ <;> subst hm
  · exact f_set_beside _ (TRG_IN_STATUS.crowded j) (TRG_IN_STATUS.level j) _ rfl rfl (by show 16 + 16 ≤ 32; omega)
      (by show 1 + 1 ≤ 32; omega) (.inl (by show 1 + 1 ≤ 16; omega))
  · exact f_bump_self _ (TRG_IN_STATUS.crowded j) (by show 16 + 16 ≤ 64; omega)
  · exact congrArg TrigIn.marked (setTrgIn_trgIn_self _ _ _)
  · exact wordsBut_trans (wordsBut_mono hbump fun _ => .inr) (wordsBut_mono hevents fun _ => .inl)

end

/-- An edge that is kept takes the mark of the crowded ones off (R345). -/
theorem edgeTaken_spec (s : State) (j : Nat) (active : Bool) (raw t : Stamp) (fine : Nat) :
    (s.edgeTaken j active raw t fine).flag (TRG_IN_STATUS.level j) = s.flag (TRG_IN_STATUS.level j) ∧
      ((s.edgeTaken j active raw t fine).trgIn j).last = some raw ∧
      ((s.edgeTaken j active raw t fine).trgIn j).marked = false := by
  have hkeep : KeepsInput j (s.edgeKept j raw) (s.edgeTaken j active raw t fine) := by
    have hfed : KeepsInput j (s.edgeKept j raw)
        (((s.edgeKept j raw).statFeed (18 + j) fine (s.trgIn j).marked).inputEdge j active t) :=
      (KeepsInput.statFeed _ _ _ _).trans (.inputEdge _ _ _ _)
    cases active with
    | true => exact hfed.trans (.directPulse _ _ _)
    | false => exact hfed
  refine ⟨hkeep.level, ?_, ?_⟩ <;> rw [hkeep.trgIn, edgeKept, setTrgIn_trgIn_self]

/-! ### Pulses -/

theorem trigoutAligned_due {s : State} {o : Fin 4} {d : Nat} {ds : List Nat} (h : (s.trgOut o).due = d :: ds)
    (hd : d ≤ s.now.tick) :
    exec (.trigoutAligned o) s = .next ((s.setTrgOut o { s.trgOut o with due := ds }).outPulse o) := by
  show execTrigoutAligned o s = _
  unfold execTrigoutAligned
  dsimp only
  rw [h]
  exact if_pos hd

/-- An output that is enabled starts a pulse of its width in RUN (R346, R351). -/
theorem outPulse_run {s : State} {o : Nat} (ho : s.flag (TRG_OUT_CTL.oe o) = true) (hp : s.f PWR_STATE.state = 0) :
    s.outPulse o = s.setTrgOut o { s.trgOut o with
      drive := s.outDrive o true, stop := some (s.now.tick + max 1 (s.f (TRG_OUT_CTL.width o))) } := by
  unfold outPulse
  rw [ho, hp]
  rfl

theorem trigoutPulseEnd_over {s : State} {o : Fin 4} {d : Nat} (h : (s.trgOut o).stop = some d) (hd : d ≤ s.now.tick) :
    exec (.trigoutPulseEnd o) s = .next (s.setTrgOut o { s.trgOut o with drive := s.outDrive o false, stop := none }) := by
  show execTrigoutPulseEnd o s = _
  unfold execTrigoutPulseEnd
  dsimp only
  rw [h]
  exact if_pos hd

end State

open State

/-! ### The commands -/

section

variable {s : State} {j : Fin 4} {high : Bool} {tick : Nat} {bin : Fin 64}

/-- An edge of an input that is enabled, with FABRIC up. -/
theorem exec_triginEdge_enabled (hu : s.up .fabric = true) :
    exec (.triginEdge j high tick bin) s = .next (s.triginEdge j high tick bin) := if_pos hu

/-- An edge leaves the pin at its level alone where the input is not enabled or FABRIC is not up. -/
theorem exec_triginEdge_disabled (h : s.up .fabric = false ∨ s.flag (TRG_IN_CTL.en j) = false) :
    exec (.triginEdge j high tick bin) s = .next (s.setTrgIn j { s.trgIn j with pin := high }) := by
  show execTriginEdge j high tick bin s = _
  unfold execTriginEdge
  cases hu : s.up .fabric with
  | false => exact if_neg (by decide)
  | true =>
    have he : (s.setTrgIn j { s.trgIn j with pin := high }).flag (TRG_IN_CTL.en j) = false := h.resolve_left (by simp [hu])
    unfold triginEdge
    exact congrArg Host.Outcome.next (if_pos (by rw [he]; rfl))

/-- The level that an edge of an enabled input shows, and what becomes of the edge (R345, R346). -/
theorem triginEdge_spec (he : s.flag (TRG_IN_CTL.en j) = true) :
    (s.triginEdge j high tick bin).flag (TRG_IN_STATUS.level j) = (high != s.flag (TRG_IN_CTL.pol j)) ∧
      (s.flag (TRG_IN_STATUS.stuck j) = true →
        (s.triginEdge j high tick bin).flag (TRG_IN_STATUS.stuck j) = (high != s.flag (TRG_IN_CTL.pol j)) ∧
          ((s.triginEdge j high tick bin).trgIn j).last = (s.trgIn j).last) ∧
      (s.flag (TRG_IN_STATUS.stuck j) = false →
        crowds (s.trgIn j).last (s.edgeStamp (18 + j) tick bin 0).bins (s.f (TRG_IN_CTL.holdoff j)) = true →
        (s.triginEdge j high tick bin).f (TRG_IN_STATUS.crowded j) = min 65535 (s.f (TRG_IN_STATUS.crowded j) + 1) ∧
          ((s.triginEdge j high tick bin).trgIn j).marked = true ∧
          s.onlyFieldsEvents (s.triginEdge j high tick bin) [TRG_IN_STATUS.reg j]) ∧
      (s.flag (TRG_IN_STATUS.stuck j) = false →
        crowds (s.trgIn j).last (s.edgeStamp (18 + j) tick bin 0).bins (s.f (TRG_IN_CTL.holdoff j)) = false →
        ((s.triginEdge j high tick bin).trgIn j).last = some (s.edgeStamp (18 + j) tick bin 0) ∧
          ((s.triginEdge j high tick bin).trgIn j).marked = false) := by
  have hlevel := s.edgeSeen_level j high
  cases hs : s.flag (TRG_IN_STATUS.stuck j) with
  | true =>
    rw [triginEdge_stuck he hs]
    obtain ⟨hl, hstuck, hlast⟩ := edgeStuck_spec _ j.isLt (xor high (s.flag (TRG_IN_CTL.pol j)))
      ((s.edgeSeen_stuck j high).trans hs)
    exact ⟨hl.trans hlevel, fun _ => ⟨hstuck, hlast.trans (s.edgeSeen_trgIn_last j high)⟩, nofun, nofun⟩
  | false =>
    rw [triginEdge_free he j.isLt hs]
    cases hc : crowds (s.trgIn j).last (s.edgeStamp (18 + j) tick bin 0).bins (s.f (TRG_IN_CTL.holdoff j)) with
    | true =>
      obtain ⟨hl, hcount, hmark, honly⟩ := edgeCrowded_spec (s.edgeSeen j high) j.isLt
      refine ⟨hl.trans hlevel, nofun, fun _ _ => ⟨hcount.trans ?_, hmark, ?_⟩, nofun⟩
      · rw [f_edgeSeen_crowded]
      · exact wordsBut_trans (wordsBut_mono (s.edgeSeen_onlyFields j high) fun _ => .inr) honly
    | false =>
      obtain ⟨hl, hlast, hmark⟩ := edgeTaken_spec (s.edgeSeen j high) j (xor high (s.flag (TRG_IN_CTL.pol j)))
        (s.edgeStamp (18 + j) tick bin 0) _ _
      exact ⟨hl.trans hlevel, nofun, nofun, fun _ _ => ⟨hlast, hmark⟩⟩

end

section

variable {s : State} {j : Fin 4} (he : s.flag (TRG_IN_CTL.en j) = true) (hl : s.flag (TRG_IN_STATUS.level j) = true)
  (hs : s.flag (TRG_IN_STATUS.stuck j) = false)
include he hl hs

theorem exec_triginStuck :
    exec (.triginStuck j) s = .next (if stuckOver (s.trgIn j).activeAt s.time.clk (s.f (TRG_IN_STUCK.stuck_us j)) = true then
      ((s.set (TRG_IN_STATUS.stuck j) 1).inputEvents j 2).condStuck 1 (s.condsOfInput j) else s) := by
  show execTriginStuck j s = _
  unfold execTriginStuck
  rw [he, hl, hs, Bool.not_false, Bool.and_self, Bool.and_self, Bool.true_and]
  exact (apply_ite Host.Outcome.next _ _ _).symm

/-- An input that has been active for too long is stuck, in its own status and in that of its conditions (R345). -/
theorem exec_triginStuck_over (h : stuckOver (s.trgIn j).activeAt s.time.clk (s.f (TRG_IN_STUCK.stuck_us j)) = true) :
    ∃ t, exec (.triginStuck j) s = .next t ∧ t.flag (TRG_IN_STATUS.stuck j) = true ∧
      (∀ c : Fin 64, s.f (TRG_COND.kind c) = 5 → s.f (TRG_COND.sel c) = j.val → t.flag (TRG_STATUS.stuck c) = true) := by
  refine ⟨_, (exec_triginStuck he hl hs).trans (congrArg _ (if_pos h)), ?_, fun c hkind hsel => ?_⟩
  · exact ((KeepsInput.inputEvents _ j j.isLt (by decide)).trans
      (.condStuck _ _ j.isLt fun c hc => (mem_condsOfInput.1 hc).1)).stuck.trans
        (flag_set_self s true (by show 2 + 1 ≤ 64; omega) rfl)
  · rw [flag, f_condStuck, if_pos (mem_condsOfInput.2 ⟨c.isLt, hkind, hsel⟩)]
    rfl

end

/-- Settles O29: an edge by the input being stuck, crowded or free; a stuck input by its timeout; a pulse by its two ends. -/
theorem triggerPinsAct : Obligations.TriggerPinsAct := by
  refine ⟨fun s j high tick bin hu he => ⟨_, exec_triginEdge_enabled hu, triginEdge_spec he⟩,
    fun s j high tick bin h => exec_triginEdge_disabled h,
    fun s j he hl hs => ⟨fun h => ?_, exec_triginStuck_over he hl hs⟩,
    fun s o d ds hdue hd ho hp => ⟨_, trigoutAligned_due hdue hd, ?_⟩,
    fun s o d hstop hd => ⟨_, trigoutPulseEnd_over hstop hd, setTrgOut_trgOut_self _ _ _, rfl⟩⟩
  · rw [exec_triginStuck he hl hs, h]
    rfl
  · have hpulse := outPulse_run (s := s.setTrgOut o { s.trgOut o with due := ds }) ho hp
    rw [hpulse]
    refine ⟨(setTrgOut_trgOut_self _ _ _).trans ?_, rfl⟩
    rw [setTrgOut_trgOut_self]
    rfl

end Sys2Proof.Machine
end
